-- ==== Sys2Proof/Word.lean ====
section
/-!
DEFINITION. The register word, and the sparse table (a list of key and value pairs with strictly rising keys) in which
the state keeps everything that the spec repeats by an index. The operations of a table are in Machine/Tbl.lean.
-/
namespace Sys2Proof

/-- A 32-bit register word (R14). -/
abbrev Word := BitVec 32

/-- A byte of a frame, a message or a key. -/
abbrev Byte := BitVec 8

/-- A sparse table: strictly rising keys, each with its value. A key that is not listed holds the reset value of its
kind, which the reader of the table names. -/
abbrev Tbl (α : Type) := List (Nat × α)

end Sys2Proof
end

