-- ==== Sys2Proof/Syntax.lean ====
section
/-!
DEFINITION. The commands of the block: one constructor for every row of spec/opcode_table.json, with the operands that
the row's event or access brings with it. The table gives no row any bits, so an operand is whatever the event itself
carries: the master and the address of an access, the index of the instance, the bytes of a frame or of a message,
what an analogue or external part reports. Indices are bounded by their types. Operand `dt` of a command is the
number of CK_TIME (and CK_CORE) cycles that pass before it (notes/assumptions/6.md).
-/
namespace Sys2Proof.Machine

/-- The masters of the register bus (R41), in the numbering of CHIPCAP.BUS_ADDR.MASTER. -/
inductive Master where
  | pcie | brewhouse | tender | riser
  deriving DecidableEq, Repr

/-- A read, or a write of a word. -/
inductive BusOp where
  | read
  | write (v : Word)
  deriving DecidableEq, Repr

/-- The width of a narrow access of R40. -/
inductive Narrow where
  | byte | half | wordUnaligned
  deriving DecidableEq, Repr

/-- A strobe captured in CK_TIME (R34, R37): how many cycles before the command, on which of the eight phases, and how
many bits (and stuffed bits, R250) lie between the word boundary and the timestamp point. -/
structure Strobe where
  ago : Nat := 0
  phase : Fin 8 := 0
  bits : Nat := 0
  deriving DecidableEq, Repr

/-- A table family of R350. -/
inductive Family where
  | pcl | tmg | tt
  deriving DecidableEq, Repr

/-- A serial data lane: subscriber lane n, or data lane l of riser port p. -/
inductive SerLane where
  | sub (n : Fin 112)
  | riser (p : Fin 4) (l : Fin 2)
  deriving DecidableEq, Repr

/-- What the receive elastic store meets with a frame (R266): the idle units in the gap before it, and by how many bytes its
fill has drifted since the last frame at that gap, and drifts inside the frame. -/
structure RateMatch where
  gap : Nat := 0
  drift : Int := 0
  inside : Int := 0
  deriving DecidableEq, Repr

/-- What a frame's header holds at a candidate position (R55, R69): its superframe counter, and its PON-ID structure where
that passes its HEC. -/
structure PsyncHead where
  sfc : Nat := 0
  ponid : Option Nat := none
  deriving DecidableEq, Repr

/-- What a Key_Control message names (R148): an index, and the count at which it is switched to, without which a new key is
asked for. -/
structure KeyTurn where
  idx : Nat := 0
  sw : Option Nat := none
  deriving DecidableEq, Repr

/-- A Siding read of a channel's burst store that ends (R105, R209): `bad` is 0, or the number of frames that an
uncorrectable cell takes. -/
structure SidingRead where
  n : Fin 4
  bad : Nat := 0
  deriving DecidableEq, Repr

/-- What the clock detector of a riser port has measured last, in kHz (R274). -/
structure PortClock where
  p : Fin 4
  khz : Nat := 0
  deriving DecidableEq, Repr

/-- Bits that have come on the two data lanes of a riser port, in the order in which they came (R272, R277). -/
structure LaneBits where
  l0 : List Bool := []
  l1 : List Bool := []
  deriving DecidableEq, Repr

/-- RS-FEC codewords corrected and uncorrectable since the last report (R267). -/
structure FecCount where
  corr : Nat := 0
  unc : Nat := 0
  deriving DecidableEq, Repr

/-- A descriptor of R329, as the device reads it from host memory. -/
structure Desc where
  addr : Nat := 0
  len : Nat := 0
  sof : Bool := false
  eof : Bool := false
  evtReq : Bool := false
  tsReq : Bool := false
  oneStep : Bool := false
  cookie : Nat := 0
  deriving DecidableEq, Repr

/-- What a configuration write of the PCIe host sets (R348): bus master enable, the function mask, a vector's mask or its
address and data in the table of BAR2, or the maximum payload or read request size in the code of the standard. -/
inductive PcieCfg where
  | bme (on : Bool)
  | funcMask (on : Bool)
  | vecMask (v : Fin 256) (on : Bool)
  | entry (v : Fin 256) (addr : BitVec 64) (data : Word)
  | payload (code : Fin 8)
  | readReq (code : Fin 8)
  deriving DecidableEq, Repr

/-- What the error check of a header found (R53, R58, R63): error-free, corrected, or neither. -/
inductive Hec where
  | good | corrected | bad
  deriving DecidableEq, Repr

/-- An XGEM header with its frame, as delineated (R63–R66): `fits` is whether the frame at its padded length stays
within the FS payload, `marked` whether a payload byte lies in a marked codeword (R61), `pos` its position in the frame
(R142). -/
structure Xgem where
  hec : Hec := .good
  port : Nat := 0
  pli : Nat := 0
  key : Nat := 0
  lf : Bool := true
  payload : List Byte := []
  fits : Bool := true
  marked : Bool := false
  pos : Nat := 0
  deriving DecidableEq, Repr


/-- A downstream PLOAM message (R92): its bytes, the ONU-ID to which it is addressed (none: the broadcast ONU-ID), and
the serial number that it carries, as vendor identifier and vendor-specific number. -/
structure Ploam where
  msg : List Byte := []
  onu : Option Nat := none
  serial : Option (Nat × Nat) := none
  deriving DecidableEq, Repr

/-- The content of a Burst_Profile message (R97). -/
structure Profile where
  index : Fin 4 := 0
  version : Nat := 0
  fec : Bool := false
  delim : List Byte := []
  pattern : List Byte := []
  preBytes : Nat := 0
  deriving DecidableEq, Repr

/-- An allocation structure of a bandwidth map (R101, R102): `sn` is whether its Alloc-ID is the serial-number broadcast
one, `cont` whether it continues the previous one. -/
structure Grant where
  hec : Hec := .good
  alloc : Nat := 0
  sn : Bool := false
  start : Nat := 0
  size : Nat := 0
  cont : Bool := false
  prof : Fin 4 := 0
  ploam : Bool := false
  dbru : Bool := false
  deriving DecidableEq, Repr

/-- A management record of R303: TYPE (which a command named after the record sets itself), destination, LOCAL, sender, tag
and the twelve bytes of its body (record bytes 4 to 15). -/
structure Rec where
  typ : Nat := 0
  dst : Nat := 0
  loc : Bool := false
  src : Nat := 0
  tag : Nat := 0
  body : List Byte := []
  deriving DecidableEq, Repr

/-- A direction of a lane that sleeps and wakes (R278): of a subscriber lane, or of the data lanes of a riser port. -/
inductive LaneDir where
  | subTx (n : Fin 112)
  | subRx (n : Fin 112)
  | riserTx (p : Fin 4)
  | riserRx (p : Fin 4)
  deriving DecidableEq, Repr

/-- A source of wake requests (R399). -/
inductive WakeSrc where
  | lane (x : LaneDir)
  | slice (k : Fin 4)
  | dram (c : Fin 4)
  deriving DecidableEq, Repr

/-- What the decoding of a line read from memory gives (R367). -/
inductive ReadOutcome where
  | clean | corrected | uncorrectable
  deriving DecidableEq, Repr

/-- What the flash holds (R407): boot-record copies, identity certificate, debug-token key, firmware slots. A byte beyond
the end of a list reads 0. -/
structure Flash where
  rec0 : List Byte := []
  rec1 : List Byte := []
  cert : List Byte := []
  dbgKey : List Byte := []
  slotA : List Byte := []
  slotB : List Byte := []
  /-- its JESD216 parameter table describes an 8D-8D-8D enable sequence and 4-byte octal DDR read (R449) -/
  octal : Bool := true
  deriving DecidableEq, Repr

/-- A command register whose command completes: that of a table family, or TMG.NODE_CMD. -/
inductive CmdUnit where
  | family (x : Family)
  | node
  deriving DecidableEq, Repr

end Sys2Proof.Machine

namespace Sys2Proof
open Machine

/-- The commands of the block: one constructor for every row of the opcode table, in the table's order. Each docstring
names the rule of spec/ that the row cites. -/
inductive Instr where
  /-- REGISTER_WRITE (R41) -/
  | registerWrite (m : Master) (a : BitVec 25) (v : Word)
  /-- W1C_CLEAR (R17) -/
  | w1cClear (m : Master) (a : BitVec 25) (v : Word) (hw : Word)
  /-- RC_READ (R15) -/
  | rcRead (m : Master) (a : BitVec 25)
  /-- WIDE_LOW_WORD_READ (R16) -/
  | wideLowWordRead (m : Master) (a : BitVec 25)
  /-- ABSENT_UNIT_ACCESS (R9) -/
  | absentUnitAccess (m : Master) (a : BitVec 25) (op : BusOp)
  /-- UNMAPPED_ACCESS (R39) -/
  | unmappedAccess (m : Master) (a : BitVec 25) (op : BusOp)
  /-- NARROW_ACCESS (R40) -/
  | narrowAccess (m : Master) (a : BitVec 25) (kind : Narrow) (op : BusOp)
  /-- CREMA_POWER_ON_RESET (R385) -/
  | cremaPowerOnReset
  /-- CREMA_POR_END (R385) -/
  | cremaPorEnd
  /-- PORST_N_ASSERT (R448) -/
  | porstNAssert
  /-- PORST_N_RELEASE (R392) -/
  | porstNRelease (strap : Bool)
  /-- RESET_N_ASSERT (R448) -/
  | resetNAssert
  /-- RESET_N_RELEASE (R448) -/
  | resetNRelease
  /-- CHIP_RESET (R44) -/
  | chipReset (m : Master) (key : BitVec 16)
  /-- BLOCK_RST_LN (R47) -/
  | blockRstLn (v : BitVec 4)
  /-- BLOCK_RST_RP (R47) -/
  | blockRstRp (v : BitVec 4)
  /-- BLOCK_RST_CPH (R154) -/
  | blockRstCph (on : Bool)
  /-- BLOCK_RST_HIF (R328) -/
  | blockRstHif (on : Bool)
  /-- PCIE_RESET (R44) -/
  | pcieReset
  /-- FUNCTION_LEVEL_RESET (R328) -/
  | functionLevelReset
  /-- TEST_EN_ASSERT (R441) -/
  | testEnAssert (on : Bool) (strap : Bool)
  /-- RECIRC_TOKEN_GAIN (R28) -/
  | recircTokenGain
  /-- HOST_TOKEN_GAIN (R28) -/
  | hostTokenGain
  /-- SLOT_GRANT (R28) -/
  | slotGrant (dt : Nat) (k : Fin 4)
  /-- INPUT_BUFFER_ARRIVAL (R29) -/
  | inputBufferArrival (dt : Nat) (p : Fin 460) (data : List Byte)
  /-- RX_EN_WRITE (R52) -/
  | rxEnWrite (m : Master) (n : Fin 4) (v : Word)
  /-- EQ_ACQ_DONE (R50) -/
  | eqAcqDone (n : Fin 4)
  /-- FFE_WRITE (R51) -/
  | ffeWrite (m : Master) (n : Fin 4) (i : Fin 34) (v : Word)
  /-- FFE_SNAPSHOT_READ (R51) -/
  | ffeSnapshotRead (m : Master) (n : Fin 4)
  /-- EQ_PRESET (R51) -/
  | eqPreset (m : Master) (n : Fin 4) (v : Word)
  /-- LINE_SD_CHANGE (R70) -/
  | lineSdChange (n : Fin 4) (level : Bool)
  /-- DSD_RAISE (R70) -/
  | dsdRaise (n : Fin 4)
  /-- DSD_CLEAR (R70) -/
  | dsdClear (n : Fin 4)
  /-- LOL_RAISE (R70) -/
  | lolRaise (n : Fin 4)
  /-- LOL_CLEAR (R70) -/
  | lolClear (n : Fin 4)
  /-- HUNT_RESTART (R53) -/
  | huntRestart (m : Master) (n : Fin 4) (v : Word)
  /-- HUNT_MATCH (R53) -/
  | huntMatch (n : Fin 4) (pos : Nat) (errs : Nat) (hec : Hec) (sfc : Nat)
  /-- CANDIDATE_CHECK (R55) -/
  | candidateCheck (n : Fin 4) (pos : Nat) (errs : Nat) (hec : Hec) (x : PsyncHead)
  /-- AMBIG_RAISE (R56) -/
  | ambigRaise (n : Fin 4)
  /-- FRAME_PSYNC (R57) -/
  | framePsync (dt : Nat) (n : Fin 4) (errs : Nat) (hec : Hec) (sfc : Nat) (ponid : Option Nat)
  /-- CODEWORD_DECISION (R60) -/
  | codewordDecision (n : Fin 4) (corr : Option Nat)
  /-- FS_HEADER_RECEIVED (R62) -/
  | fsHeaderReceived (n : Fin 4)
  /-- XGEM_HEADER (R63) -/
  | xgemHeader (n : Fin 4) (h : Xgem) (st : Strobe)
  /-- XPORT_WRITE (R64) -/
  | xportWrite (m : Master) (n : Fin 4) (i : Fin 4096) (v : Word)
  /-- TRACE_CTRL_WRITE (R69) -/
  | traceCtrlWrite (m : Master) (n : Fin 4) (v : Word)
  /-- PM_LATCH (R74) -/
  | pmLatch (dt : Nat)
  /-- PM_SEL_WRITE (R78) -/
  | pmSelWrite (m : Master) (n : Fin 4) (v : Word)
  /-- TENDER_LOCKSTEP_ERROR (R81) -/
  | tenderLockstepError
  /-- TENDER_RESTART (R81) -/
  | tenderRestart (m : Master)
  /-- ACT_ENABLE (R87) -/
  | actEnable (m : Master) (n : Fin 4)
  /-- ACT_DISABLE (R84) -/
  | actDisable (m : Master) (n : Fin 4)
  /-- LODS_TIMEOUT (R85) -/
  | lodsTimeout (n : Fin 4)
  /-- TO1_EXPIRY (R84) -/
  | to1Expiry (n : Fin 4)
  /-- TO2_EXPIRY (R84) -/
  | to2Expiry (n : Fin 4)
  /-- BURST_PROFILE (R97) -/
  | burstProfile (n : Fin 4) (p : Ploam) (x : Profile)
  /-- ASSIGN_ONU_ID (R84) -/
  | assignOnuId (n : Fin 4) (p : Ploam) (onu : Nat)
  /-- RANGING_TIME (R98) -/
  | rangingTime (n : Fin 4) (p : Ploam) (eqd : Nat)
  /-- DEACTIVATE_ONU_ID (R84) -/
  | deactivateOnuId (n : Fin 4) (p : Ploam)
  /-- DISABLE_SERIAL_NUMBER (R84) -/
  | disableSerialNumber (n : Fin 4) (p : Ploam) (all : Bool) (disable : Bool)
  /-- REQUEST_REGISTRATION (R92) -/
  | requestRegistration (n : Fin 4) (p : Ploam)
  /-- ASSIGN_ALLOC_ID (R92) -/
  | assignAllocId (n : Fin 4) (p : Ploam) (alloc : Nat) (add : Bool)
  /-- KEY_CONTROL (R148) -/
  | keyControl (n : Fin 4) (p : Ploam) (x : KeyTurn)
  /-- SYSTEM_PROFILE (R92) -/
  | systemProfile (n : Fin 4) (p : Ploam) (content : List Byte)
  /-- CHANNEL_PROFILE (R69) -/
  | channelProfile (n : Fin 4) (p : Ploam) (ident : Nat)
  /-- CHANGE_POWER_LEVEL (R96) -/
  | changePowerLevel (n : Fin 4) (p : Ploam) (level : Nat)
  /-- PROTECTION_CONTROL (R132) -/
  | protectionControl (n : Fin 4) (p : Ploam)
  /-- SLEEP_ALLOW (R92) -/
  | sleepAllow (n : Fin 4) (p : Ploam)
  /-- CALIBRATION_REQUEST (R92) -/
  | calibrationRequest (n : Fin 4) (p : Ploam)
  /-- ADJUST_TX_WAVELENGTH (R92) -/
  | adjustTxWavelength (n : Fin 4) (p : Ploam)
  /-- TUNING_CONTROL (R92) -/
  | tuningControl (n : Fin 4) (p : Ploam)
  /-- PLOAM_ANSWER_READY (R95) -/
  | ploamAnswerReady (n : Fin 4)
  /-- PWR_LVL_APPLIED_WRITE (R96) -/
  | pwrLvlAppliedWrite (m : Master) (n : Fin 4) (v : Word)
  /-- PWR_LVL_TIMEOUT (R96) -/
  | pwrLvlTimeout (n : Fin 4)
  /-- BANDWIDTH_MAP_PARSE (R101) -/
  | bandwidthMapParse (n : Fin 4) (grants : List Grant)
  /-- BURST_SEAL (R106) -/
  | burstSeal (dt : Nat) (n : Fin 4)
  /-- BURST_TRANSMIT (R99) -/
  | burstTransmit (dt : Nat) (n : Fin 4)
  /-- PRESTAGE_FILL (R104) -/
  | prestageFill (dt : Nat) (n : Fin 4) (t : Fin 512)
  /-- CB_SIDING_READ_DONE (R105) -/
  | cbSidingReadDone (dt : Nat) (x : SidingRead)
  /-- ALLOC_TCONT_WRITE (R103) -/
  | allocTcontWrite (m : Master) (n : Fin 4) (i : Fin 128) (v : Word)
  /-- OMCI_RX (R109) -/
  | omciRx (n : Fin 4)
  /-- TXMSG_HANDOFF (R334) -/
  | txmsgHandoff (r : Fin 256) (l : List Byte) (b : List Byte)
  /-- LINE_MODE_WRITE (R112) -/
  | lineModeWrite (m : Master) (v : Word)
  /-- BOND_GROUP_ENABLE (R118) -/
  | bondGroupEnable (m : Master) (g : Fin 1024) (v : Word)
  /-- BOND_GROUP_DISABLE (R118) -/
  | bondGroupDisable (m : Master) (g : Fin 1024) (v : Word)
  /-- BOND_UNIT_RX (R119) -/
  | bondUnitRx (dt : Nat) (n : Fin 4)
  /-- BOND_START_TIMER_EXPIRY (R118) -/
  | bondStartTimerExpiry (g : Fin 1024)
  /-- BOND_WINDOW_EXPIRY (R120) -/
  | bondWindowExpiry (g : Fin 1024)
  /-- FAST_DEF_HOLDOFF_EXPIRY (R129) -/
  | fastDefHoldoffExpiry (n : Fin 4) (ucw : Bool)
  /-- PROT_AUTO_SWITCH (R131) -/
  | protAutoSwitch
  /-- PROT_MANUAL_SWITCH (R132) -/
  | protManualSwitch (m : Master) (v : Word)
  /-- PROT_FORCED_SWITCH (R132) -/
  | protForcedSwitch (m : Master) (v : Word)
  /-- PROT_SWITCH_COMPLETE (R133) -/
  | protSwitchComplete
  /-- TREF_TRACK_RESUME (R134) -/
  | trefTrackResume
  /-- LOAD_PLAIN (R139) -/
  | loadPlain (m : Master) (slot : Fin 64)
  /-- LOAD_DEV (R139) -/
  | loadDev (m : Master) (slot : Fin 64)
  /-- LOAD_LINK (R139) -/
  | loadLink (m : Master) (slot : Fin 64)
  /-- GENERATE (R141) -/
  | generate (m : Master) (slot : Fin 64)
  /-- INVALIDATE (R139) -/
  | invalidate (m : Master) (slot : Fin 64)
  /-- KEY_CMD_DONE (R140) -/
  | keyCmdDone
  /-- LINE_KEY_SW_ARM (R144) -/
  | lineKeySwArm (m : Master) (n : Fin 4) (v : Word)
  /-- RSR_KEY_SW_ARM (R152) -/
  | rsrKeySwArm (m : Master) (p : Fin 4) (v : Word)
  /-- RSR_KEY_SWITCH (R152) -/
  | rsrKeySwitch (dt : Nat) (p : Fin 4)
  /-- WAGON_VERDICT (R153) -/
  | wagonVerdict (p : Fin 4)
  /-- INGRESS_PASS_END (R156) -/
  | ingressPassEnd (dt : Nat) (k : Fin 4)
  /-- RECIRC_RETURN (R182) -/
  | recircReturn (k : Fin 4)
  /-- RECIRC_TIMEOUT (R184) -/
  | recircTimeout (k : Fin 4)
  /-- PCL_STAGE_WRITE (R178) -/
  | pclStageWrite (m : Master) (t : Fin 16) (loc : BitVec 18)
  /-- PCL_STAGE_DELETE (R178) -/
  | pclStageDelete (m : Master) (t : Fin 16) (loc : BitVec 18)
  /-- PCL_STAGE_REVERT (R178) -/
  | pclStageRevert (m : Master) (t : Fin 16) (loc : BitVec 18)
  /-- PCL_READ (R185) -/
  | pclRead (m : Master) (t : Fin 16) (view : Fin 4) (loc : BitVec 18)
  /-- PCL_READ_LOC (R185) -/
  | pclReadLoc (m : Master) (t : Fin 16) (view : Fin 4) (loc : BitVec 18)
  /-- PCL_DISCARD_REJECTED (R180) -/
  | pclDiscardRejected (m : Master)
  /-- TBL_CMD_DONE (R185) -/
  | tblCmdDone (u : CmdUnit)
  /-- SCRUB_DONE (R180) -/
  | scrubDone (x : Family)
  /-- BUCKET_REFILL (R192) -/
  | bucketRefill (level : Fin 4) (i : BitVec 16)
  /-- BUCKET_RESET (R195) -/
  | bucketReset (m : Master) (b : Fin 8) (i : BitVec 16)
  /-- QUEUE_FLUSH (R210) -/
  | queueFlush (m : Master) (q : BitVec 16)
  /-- READ_LEVEL (R193) -/
  | readLevel (m : Master) (b : Fin 8) (i : BitVec 16)
  /-- TMG_STAGE_WRITE (R216) -/
  | tmgStageWrite (m : Master) (t : Fin 16) (loc : BitVec 18)
  /-- TMG_STAGE_DELETE (R216) -/
  | tmgStageDelete (m : Master) (t : Fin 16) (loc : BitVec 18)
  /-- TMG_STAGE_REVERT (R216) -/
  | tmgStageRevert (m : Master) (t : Fin 16) (loc : BitVec 18)
  /-- TMG_READ (R217) -/
  | tmgRead (m : Master) (t : Fin 16) (view : Fin 4) (loc : BitVec 18)
  /-- TMG_DISCARD_REJECTED (R180) -/
  | tmgDiscardRejected (m : Master)
  /-- SIDING_RETURN (R208) -/
  | sidingReturn (q : BitVec 16)
  /-- SIDING_READ_DONE (R209) -/
  | sidingReadDone (q : BitVec 16) (lost : Nat)
  /-- BUF_CFG_WRITE (R202) -/
  | bufCfgWrite (m : Master) (v : Word)
  /-- SIDING_CFG_WRITE (R205) -/
  | sidingCfgWrite (m : Master) (v : Word)
  /-- SIDING_DISABLE_APPLY (R205) -/
  | sidingDisableApply
  /-- TCONT_OCC_UPDATE (R212) -/
  | tcontOccUpdate (t : Fin 512)
  /-- TCONT_OCC_READ (R212) -/
  | tcontOccRead (m : Master) (t : Fin 512)
  /-- LANE_CTRL_WRITE (R220) -/
  | laneCtrlWrite (m : Master) (n : Fin 112) (v : Word)
  /-- INBAND_WORD_CHANGE (R219) -/
  | inbandWordChange (n : Fin 112) (j : Fin 4) (rate : Nat)
  /-- PORT_LINK_CHANGE (R221) -/
  | portLinkChange (n : Fin 112) (j : Fin 4)
  /-- MAC_FRAME_RX (R222) -/
  | macFrameRx (dt : Nat) (n : Fin 112) (j : Fin 4) (b : List Byte) (codeErr : Bool) (rm : RateMatch) (st : Strobe)
  /-- PAUSE_TIMER_EXPIRY (R229) -/
  | pauseTimerExpiry (n : Fin 112) (j : Fin 4) (timers : BitVec 9)
  /-- FC_REFRESH_EXPIRY (R230) -/
  | fcRefreshExpiry (dt : Nat) (n : Fin 112) (j : Fin 4)
  /-- PORT_FRAME_REQUEST (R225) -/
  | portFrameRequest (dt : Nat) (n : Fin 112) (j : Fin 4)
  /-- FRAME_TX_START (R226) -/
  | frameTxStart (dt : Nat) (n : Fin 112) (j : Fin 4) (st : Strobe)
  /-- TX_UNDERRUN (R227) -/
  | txUnderrun (dt : Nat) (n : Fin 112) (j : Fin 4)
  /-- FRAME_TX_END (R224) -/
  | frameTxEnd (dt : Nat) (n : Fin 112) (j : Fin 4)
  /-- GATE_STATE_CHANGE (R232) -/
  | gateStateChange (dt : Nat) (n : Fin 112) (j : Fin 4)
  /-- TT_STAGE_WRITE (R235) -/
  | ttStageWrite (m : Master) (t : Fin 16) (loc : BitVec 14)
  /-- TT_STAGE_DELETE (R235) -/
  | ttStageDelete (m : Master) (t : Fin 16) (loc : BitVec 14)
  /-- TT_STAGE_REVERT (R235) -/
  | ttStageRevert (m : Master) (t : Fin 16) (loc : BitVec 14)
  /-- TT_READ (R240) -/
  | ttRead (m : Master) (t : Fin 16) (view : Fin 4) (loc : BitVec 14)
  /-- TT_DISCARD_REJECTED (R180) -/
  | ttDiscardRejected (m : Master)
  /-- LPI_ENTRY (R237) -/
  | lpiEntry (n : Fin 112) (j : Fin 4)
  /-- LPI_RX_CHANGE (R237) -/
  | lpiRxChange (n : Fin 112) (j : Fin 4) (on : Bool)
  /-- NOW_READ (R244) -/
  | nowRead (dt : Nat) (m : Master) (phase : Fin 8)
  /-- STEP_GO (R246) -/
  | stepGo (dt : Nat) (m : Master) (v : Word)
  /-- TOD_ARM (R256) -/
  | todArm (m : Master)
  /-- TOD_SAMPLE_CAPTURE (R256) -/
  | todSampleCapture (dt : Nat) (n : Fin 4) (st : Strobe)
  /-- TOD_SAMPLE_EVALUATE (R257) -/
  | todSampleEvaluate (dt : Nat)
  /-- SLEW_COMPLETE (R257) -/
  | slewComplete (dt : Nat)
  /-- RATE_WRITE (R243) -/
  | rateWrite (dt : Nat) (m : Master) (v : Word)
  /-- XFER_PARAM_WRITE (R258) -/
  | xferParamWrite (m : Master) (asym : Bool) (v : Word)
  /-- PLL_CTRL_WRITE (R259) -/
  | pllCtrlWrite (m : Master) (v : Word)
  /-- PLL_REF_QUALIFIED (R259) -/
  | pllRefQualified
  /-- PLL_LOCK_ACHIEVED (R259) -/
  | pllLockAchieved
  /-- PLL_REF_UNQUALIFIED (R259) -/
  | pllRefUnqualified
  /-- PPS_OUT_PULSE (R262) -/
  | ppsOutPulse (dt : Nat)
  /-- PPS_WIDTH_EXPIRY (R262) -/
  | ppsWidthExpiry (dt : Nat)
  /-- PPS_IN_EDGE (R262) -/
  | ppsInEdge (dt : Nat) (rising : Bool) (st : Strobe)
  /-- SIGNAL_DETECT_CHANGE (R267) -/
  | signalDetectChange (x : SerLane) (on : Bool)
  /-- SL_ADAPT_DONE (R281) -/
  | slAdaptDone (x : SerLane) (ctle : Nat) (dfe : Nat)
  /-- LADDER_START (R269) -/
  | ladderStart (m : Master) (n : Fin 112) (v : Word)
  /-- LADDER_RESTART (R269) -/
  | ladderRestart (m : Master) (n : Fin 112) (v : Word)
  /-- LADDER_DWELL_EXPIRY (R269) -/
  | ladderDwellExpiry (n : Fin 112) (held : Bool)
  /-- TXEQ_WRITE (R281) -/
  | txeqWrite (m : Master) (x : SerLane) (v : Word)
  /-- EYE_SCAN_START (R282) -/
  | eyeScanStart (m : Master) (x : SerLane) (v : Word)
  /-- EYE_SCAN_DONE (R282) -/
  | eyeScanDone (x : SerLane) (errors : Nat)
  /-- PAT_SYNC_GAIN (R283) -/
  | patSyncGain (x : SerLane)
  /-- PAT_SYNC_LOSS (R283) -/
  | patSyncLoss (x : SerLane) (errs : Nat)
  /-- FORWARDED_CLOCK_LOSS (R274) -/
  | forwardedClockLoss (x : PortClock)
  /-- FORWARDED_CLOCK_OK (R274) -/
  | forwardedClockOk (x : PortClock)
  /-- PAGE_ACCEPT (R275) -/
  | pageAccept (p : Fin 4) (x : LaneBits)
  /-- PAGE_EXCHANGE_DONE (R275) -/
  | pageExchangeDone (p : Fin 4)
  /-- SWITCH_SUSPEND_EXPIRY (R275) -/
  | switchSuspendExpiry (p : Fin 4)
  /-- SWITCH_TIMEOUT (R275) -/
  | switchTimeout (p : Fin 4)
  /-- TRAIN_TIMER_EXPIRY (R275) -/
  | trainTimerExpiry (p : Fin 4) (m0 m1 : Int)
  /-- RISER_CDR_UNLOCK (R275) -/
  | riserCdrUnlock (p : Fin 4) (l : Fin 2)
  /-- FAIL_RETRY_EXPIRY (R275) -/
  | failRetryExpiry (p : Fin 4)
  /-- PHY_RESTART (R275) -/
  | phyRestart (m : Master) (p : Fin 4) (v : Word)
  /-- SLEEP_ENTRY (R279) -/
  | sleepEntry (x : LaneDir)
  /-- WAKE_REQUEST (R399) -/
  | wakeRequest (x : WakeSrc)
  /-- WAKE_GRANT (R400) -/
  | wakeGrant
  /-- WAKE_COMPLETE (R280) -/
  | wakeComplete (x : WakeSrc)
  /-- WAGON_SEND (R294) -/
  | wagonSend (dt : Nat) (p : Fin 4) (st : Strobe)
  /-- WAGON_RX (R292) -/
  | wagonRx (dt : Nat) (p : Fin 4) (l0 l1 : List Bool) (st : Strobe)
  /-- RD_REQ (R305) -/
  | rdReq (p : Fin 4) (r : Rec)
  /-- WR_REQ (R305) -/
  | wrReq (p : Fin 4) (r : Rec)
  /-- RESP (R305) -/
  | resp (p : Fin 4) (r : Rec)
  /-- EVENT (R306) -/
  | event (p : Fin 4) (r : Rec)
  /-- PROBE (R307) -/
  | probe (p : Fin 4) (r : Rec)
  /-- PROBE_REPLY (R307) -/
  | probeReply (p : Fin 4) (r : Rec)
  /-- HOMING (R312) -/
  | homing (p : Fin 4) (r : Rec)
  /-- SYNC (R308) -/
  | sync (dt : Nat) (p : Fin 4) (r : Rec) (st : Strobe)
  /-- FOLLOW (R308) -/
  | follow (p : Fin 4) (r : Rec)
  /-- DREQ (R308) -/
  | dreq (dt : Nat) (p : Fin 4) (r : Rec) (st : Strobe)
  /-- DRESP (R309) -/
  | dresp (p : Fin 4) (r : Rec)
  /-- GOP_ARM (R317) -/
  | gopArm (p : Fin 4) (r : Rec)
  /-- GOP_CANCEL (R318) -/
  | gopCancel (p : Fin 4) (r : Rec)
  /-- GOP_REPORT (R318) -/
  | gopReport (p : Fin 4) (r : Rec)
  /-- RACC_GO (R305) -/
  | raccGo (m : Master) (k : Fin 4) (v : Word)
  /-- RACC_TIMEOUT (R305) -/
  | raccTimeout (k : Fin 4)
  /-- EVT_REPEAT_EXPIRY (R306) -/
  | evtRepeatExpiry
  /-- PROBE_GO (R307) -/
  | probeGo (m : Master) (v : Word)
  /-- PROBE_TIMEOUT (R307) -/
  | probeTimeout
  /-- XFER_SYNC_TIMER (R308) -/
  | xferSyncTimer
  /-- XFER_EXCHANGE_TIMEOUT (R308) -/
  | xferExchangeTimeout
  /-- PAIR_SWITCH (R312) -/
  | pairSwitch (k : Fin 2)
  /-- GOP_GO (R316) -/
  | gopGo (dt : Nat) (m : Master) (v : Word)
  /-- GOP_ABORT (R318) -/
  | gopAbort (dt : Nat) (m : Master) (v : Word)
  /-- GOP_CANCEL_POINT (R318) -/
  | gopCancelPoint (dt : Nat)
  /-- GOP_EXECUTE (R319) -/
  | gopExecute (dt : Nat)
  /-- DOMAIN_BIND (R324) -/
  | domainBind (m : Master) (k : Fin 16) (v : Word)
  /-- RING_ENABLE (R327) -/
  | ringEnable (r : Fin 256) (slot : Word) (l : List Byte)
  /-- RING_DISABLE (R328) -/
  | ringDisable (m : Master) (r : Fin 256)
  /-- RING_STOP_DONE (R328) -/
  | ringStopDone (r : Fin 256)
  /-- DOORBELL_CHANGE (R340) -/
  | doorbellChange (k : Fin 16) (line : List Nat) (mem : List (Nat × List Byte))
  /-- DOORBELL_POLL (R341) -/
  | doorbellPoll (k : Fin 16)
  /-- POLL_COMPLETION (R341) -/
  | pollCompletion (k : Fin 16) (rtt : Nat) (line : List Nat) (mem : List (Nat × List Byte))
  /-- POLL_BACKOFF (R341) -/
  | pollBackoff (k : Fin 16)
  /-- TXF_FRAME_FETCH (R332) -/
  | txfFrameFetch (k : Fin 4) (mem : List (Nat × List Byte))
  /-- TXF_FRAME_READ_DONE (R333) -/
  | txfFrameReadDone (dt : Nat) (r : Fin 256) (b : List Byte)
  /-- STATUS_LINE_WRITE (R338) -/
  | statusLineWrite (k : Fin 16)
  /-- EVT_MOD_TIMER_EXPIRY (R337) -/
  | evtModTimerExpiry (r : Fin 256)
  /-- RX_STARVE_TIMEOUT (R344) -/
  | rxStarveTimeout (r : Fin 256)
  /-- IRQ_RESEND_EXPIRY (R347) -/
  | irqResendExpiry (b : Fin 16)
  /-- DMA_ERROR (R349) -/
  | dmaError (r : Fin 256) (i : Nat)
  /-- POLL_ERROR (R349) -/
  | pollError (k : Fin 16)
  /-- POLL_ERR_CLEAR (R349) -/
  | pollErrClear (m : Master) (k : Fin 16)
  /-- PCIE_LINK_CHANGE (R348) -/
  | pcieLinkChange (up : Bool) (speed : BitVec 3) (width : BitVec 3)
  /-- COMMIT (R354) -/
  | commit (dt : Nat) (m : Master) (noConfirm : Bool) (expect : BitVec 16)
  /-- COMMIT_AT (R356) -/
  | commitAt (dt : Nat) (m : Master) (noConfirm : Bool) (expect : BitVec 16)
  /-- ABORT (R356) -/
  | abort (dt : Nat) (m : Master)
  /-- CONFIRM (R359) -/
  | confirm (dt : Nat) (m : Master)
  /-- ROLLBACK (R360) -/
  | rollback (dt : Nat) (m : Master)
  /-- RENUMBER (R352) -/
  | renumber (m : Master)
  /-- DISCARD (R361) -/
  | discard (m : Master)
  /-- COMMIT_VALIDATED (R354) -/
  | commitValidated (dt : Nat)
  /-- COMMIT_AT_INSTANT (R356) -/
  | commitAtInstant (dt : Nat)
  /-- CONFIRM_TIMEOUT (R360) -/
  | confirmTimeout (dt : Nat)
  /-- ROLLBACK_REVERT_DONE (R360) -/
  | rollbackRevertDone
  /-- DISCARD_DONE (R361) -/
  | discardDone
  /-- FW_CONFIRM (R364) -/
  | fwConfirm (m : Master) (v : Word)
  /-- FW_TRIAL_TIMEOUT (R364) -/
  | fwTrialTimeout
  /-- BOOT_RECORD_WRITE_DONE (R364) -/
  | bootRecordWriteDone
  /-- DMC_ENABLE (R369) -/
  | dmcEnable (m : Master) (v : Word)
  /-- DMC_RGN_WRITE (R369) -/
  | dmcRgnWrite (m : Master) (i : Fin 6) (v : Word)
  /-- DMC_INIT (R383) -/
  | dmcInit (m : Master) (v : Word)
  /-- DMC_INIT_DONE (R383) -/
  | dmcInitDone (fail : Option (Nat × Nat)) (rfm : BitVec 4)
  /-- DMC_REQUEST (R371) -/
  | dmcRequest (dt : Nat) (port : Fin 6) (addr : Nat) (len : Nat) (data : Option (List Byte)) (deadline : Nat)
  /-- REGULATOR_REFILL (R372) -/
  | regulatorRefill
  /-- DMC_COMMAND_SLOT (R374) -/
  | dmcCommandSlot (dt : Nat) (c : Fin 4) (o : ReadOutcome)
  /-- DMC_READ_COMPLETE (R367) -/
  | dmcReadComplete (dt : Nat) (c : Fin 4) (o : ReadOutcome)
  /-- REFRESH_DUE (R377) -/
  | refreshDue (c : Fin 4)
  /-- MR4_POLL_DUE (R379) -/
  | mr4PollDue (c : Fin 4)
  /-- MR4_RESULT (R380) -/
  | mr4Result (c : Fin 4) (a : Nat) (b : Nat)
  /-- RETRAIN_DUE (R381) -/
  | retrainDue (c : Fin 4)
  /-- RETRAIN_FORCE (R381) -/
  | retrainForce (c : Fin 4)
  /-- PHASE_SAMPLING_DONE (R388) -/
  | phaseSamplingDone (fitted : List Nat)
  /-- VSET_WRITE (R389) -/
  | vsetWrite (m : Master) (k : Fin 6) (v : Word)
  /-- RAIL_GOOD (R390) -/
  | railGood (k : Fin 8) (strap : Bool)
  /-- RAIL_FAULT (R390) -/
  | railFault (k : Fin 8) (code : Fin 8) (freeRun : Bool)
  /-- FAULT_RETRY_EXPIRY (R390) -/
  | faultRetryExpiry
  /-- HP_PRESENT_CHANGE (R394) -/
  | hpPresentChange (high : Bool)
  /-- HP_DEBOUNCE_EXPIRY (R391) -/
  | hpDebounceExpiry
  /-- STAGE_START (R391) -/
  | stageStart
  /-- HP_GRACE_EXPIRY (R394) -/
  | hpGraceExpiry
  /-- POWER_DOWN_STAGE (R394) -/
  | powerDownStage
  /-- PWR_OFF (R394) -/
  | pwrOff (m : Master) (v : Word)
  /-- OFF_HOLD_EXPIRY (R395) -/
  | offHoldExpiry
  /-- DYING_GASP_RAISE (R397) -/
  | dyingGaspRaise (dt : Nat)
  /-- DYING_GASP_WITHDRAW (R397) -/
  | dyingGaspWithdraw
  /-- SLICE_GATE (R401) -/
  | sliceGate (m : Master) (v : Word)
  /-- THERMAL_CONVERSION (R402) -/
  | thermalConversion (temps : List Int)
  /-- THERMAL_RECOVERY (R403) -/
  | thermalRecovery
  /-- RTC_SEC_WRITE (R404) -/
  | rtcSecWrite (m : Master) (v : Word)
  /-- WDOG_KICK (R405) -/
  | wdogKick (m : Master) (timeout : BitVec 16)
  /-- WDOG_TIMEOUT_WRITE (R405) -/
  | wdogTimeoutWrite (m : Master) (v : Word)
  /-- WDOG_EXPIRY (R405) -/
  | wdogExpiry
  /-- BOOT_ROM_START (R410) -/
  | bootRomStart (f : Flash) (identOk : Bool) (seedOk : Bool)
  /-- BOOT_COMPLETE (R410) -/
  | bootComplete (fwVer : BitVec 16)
  /-- ATTEST (R417) -/
  | attest (m : Master)
  /-- MEAS_EXTEND (R414) -/
  | measExtend (m : Master)
  /-- DBG_OPEN (R419) -/
  | dbgOpen (m : Master)
  /-- ARB_ADVANCE (R412) -/
  | arbAdvance (m : Master) (v : BitVec 8)
  /-- KEY_REVOKE (R413) -/
  | keyRevoke (m : Master) (slot : BitVec 8)
  /-- TRU_CMD_DONE (R420) -/
  | truCmdDone (bad : Option Nat)
  /-- DBG_CHALLENGE_READ (R419) -/
  | dbgChallengeRead (m : Master)
  /-- RNG_READ (R421) -/
  | rngRead (m : Master) (goodSeed : Bool)
  /-- RNG_HEALTH_FAIL (R421) -/
  | rngHealthFail
  /-- CVU_START (R423) -/
  | cvuStart (m : Master) (u : Fin 4) (v : Word)
  /-- CVU_CHECK (R426) -/
  | cvuCheck (m : Master) (u : Fin 4) (v : Word)
  /-- CVU_ABANDON (R425) -/
  | cvuAbandon (m : Master) (u : Fin 4) (v : Word)
  /-- CVU_DATA_B (R424) -/
  | cvuDataB (m : Master) (u : Fin 4) (v : Word)
  /-- CVU_DATA_H (R424) -/
  | cvuDataH (m : Master) (u : Fin 4) (v : Word)
  /-- CVU_DATA_W (R424) -/
  | cvuDataW (m : Master) (u : Fin 4) (v : Word)
  /-- CVU_RESULT_READ (R424) -/
  | cvuResultRead (m : Master) (u : Fin 4) (reg : Fin 4)
  /-- CKO_CHANGE (R429) -/
  | ckoChange (m : Master) (i : Fin 2) (v : Word)
  /-- DEBUG_RESET (R430) -/
  | debugReset (m : Master) (key : BitVec 16)
  /-- TAP_RESET (R431) -/
  | tapReset
  /-- IDCODE (R432) -/
  | idcode
  /-- SAMPLE_PRELOAD (R432) -/
  | samplePreload (pins : Nat) (shifted : Nat)
  /-- EXTEST (R431) -/
  | extest
  /-- EXTEST_PULSE (R432) -/
  | extestPulse
  /-- EXTEST_TRAIN (R432) -/
  | extestTrain
  /-- HIGHZ (R432) -/
  | highz
  /-- CLAMP (R432) -/
  | clamp
  /-- TRU_ACCESS (R433) -/
  | truAccess
  /-- TRU_ACCESS_UPDATE (R433) -/
  | truAccessUpdate (v : BitVec 48)
  /-- TRU_ACCESS_DONE (R433) -/
  | truAccessDone
  /-- BREWHOUSE_DEBUG_PORT (R432) -/
  | brewhouseDebugPort
  /-- TENDER_DEBUG_PORT (R432) -/
  | tenderDebugPort
  /-- INTERNAL_SCAN (R432) -/
  | internalScan
  /-- BYPASS (R432) -/
  | bypass
  /-- I2C_GO (R450) -/
  | i2cGo (m : Master) (b : Fin 4) (v : Word)
  /-- I2C_DONE (R450) -/
  | i2cDone (b : Fin 4) (status : Fin 4) (rdata : Byte)
  /-- MDIO_GO (R451) -/
  | mdioGo (m : Master) (k : Fin 2) (v : Word)
  /-- MDIO_DONE (R451) -/
  | mdioDone (k : Fin 2) (data : BitVec 16)
  /-- PLOAM_TYPE_NOT_HANDLED (R93) -/
  | ploamTypeNotHandled (n : Fin 4) (p : Ploam)
  /-- LANE_SYNC_CHANGE (R267) -/
  | laneSyncChange (x : SerLane) (sync : Bool) (hiBer : Bool) (fec : Bool) (cdr : Bool) (cw : FecCount) (errs : Nat)
  /-- PCIE_CONFIG_WRITE (R348) -/
  | pcieConfigWrite (c : PcieCfg)
  /-- XT_OK_CHANGE (R404) -/
  | xtOkChange (on : Bool)
  deriving DecidableEq, Repr

end Sys2Proof
end

