-- ==== Sys2Proof/Decode.lean ====
section
/-!
DEFINITION. The decoder that the host asks for. The block takes commands and has no instruction words: no row of
spec/opcode_table.json gives bits, so no word spells a command.
-/
namespace Sys2Proof

/-- The command that a word spells by the bits of spec/opcode_table.json: none, for no row gives any. -/
def decodeTableWord (_nbits _w : Nat) : Option Instr := none

end Sys2Proof
end

