-- ==== Sys2Proof/Config.lean ====
section
/-!
DEFINITION. What the spec leaves open or leaves to another standard: constants without a body, so that no proof can
see a value of theirs and a statement holds for every one. Each is named in the assumption log.
-/
namespace Sys2Proof

/-- The n-th free value: a value that the spec produces without saying which, for example a random draw
(notes/assumptions/8.md). -/
opaque Config.free : Nat → Nat

/-! The algorithms of other standards that the spec names without giving their computation
(notes/assumptions/9.md). -/

/-- AES-256: encryption and decryption of a 128-bit block. -/
opaque Config.aes256 (key block : Nat) : Nat
opaque Config.aes256Inv (key block : Nat) : Nat

/-- AES-128 encryption of a 128-bit block. -/
opaque Config.aes128 (key block : Nat) : Nat

/-- Byte `i` of the counter-mode keystream of G.9804.2 for a unit at position `pos` of the frame with count `sfc`. -/
opaque Config.lineStream (key sfc pos i : Nat) : Nat

/-- Byte `i` of the AES-256-GCM keystream for an initial value. -/
opaque Config.gcmStream (key iv i : Nat) : Nat

/-- The AES-256-GCM tag over additional data and ciphertext. -/
opaque Config.gcmTag (key iv : Nat) (aad text : List Byte) : Nat

/-- Keys that G.9804.2 derives from a master session key of a serial number: 1 the key-encryption key, 2 the PLOAM
integrity key, 3 the OMCI integrity key. -/
opaque Config.lineDerive (msk serial which : Nat) : Nat

/-- The default integrity keys of G.9804.2 (2 PLOAM, 3 OMCI). -/
opaque Config.lineDefault (which : Nat) : Nat

/-- The KEK-wrapped form of a line data key and its key name, 16 bytes each (G.9804.2). -/
opaque Config.kekWrap (kek key : Nat) : Nat
opaque Config.keyName (kek key : Nat) : Nat

/-- The bytes over which the integrity code of a PLOAM message (0 downstream, 1 upstream) or of an OMCI unit runs, as
G.9804.2 and G.988 delimit them from its bytes without the code itself (R147). -/
opaque Config.ploamSpan (dir : Nat) (msg : List Byte) : List Byte
opaque Config.omciSpan (dir : Nat) (msg : List Byte) : List Byte

/-- Lengths that G.9804.2 fixes: the bits of an upstream burst from its first header bit to its last, for FEC on or off, a
PLOAM message or none, and the allocated bytes; the padded length of an XGEM payload; the payload bytes that a fragment
may carry where `room` bytes are left behind its header; the bytes of a DBRu and the largest value it carries. -/
opaque Config.burstBits (fec ploam : Bool) (bytes : Nat) : Nat
opaque Config.xgemPad (len : Nat) : Nat
opaque Config.xgemFrag (room : Nat) : Nat
opaque Config.dbruBytes : Nat
/-- Bytes from the first of the burst header to the first allocation's, with a PLOAM message or without (G.9804.2). -/
opaque Config.burstHead (ploam : Bool) : Nat
opaque Config.dbruMax : Nat

/-- The upstream message is of a type that software may not send: Serial_Number_ONU, Registration, Acknowledgement. -/
opaque Config.ploamReserved (msg : List Byte) : Bool

/-- The received value of a Ranging_Time message in downstream unit intervals (R98): the value's unit is that of G.9804.2. -/
opaque Config.eqdUi (v : Nat) : Nat

/-- The layout of an upstream message of the Tender's own, by its kind and its fields, and the bytes with which the payload
of an XGEM frame is padded: both as G.9804.2 gives them. -/
opaque Config.ploamLayout (kind : Nat) (fields : List Nat) : List Byte
opaque Config.xgemPadByte : Byte

/-- An upstream PLOAM message with the ONU-ID and the sequence number filled in as G.9804.2 lays them out. -/
opaque Config.ploamFill (onuId seq : Nat) (msg : List Byte) : List Byte

/-- SHAKE256 with a 64-byte output. -/
opaque Config.shake256 (b : List Byte) : Nat

/-- Falcon-1024: verification of a signature over a digest; the public key of the pair generated from a seed, and a
signature by its secret key. -/
opaque Config.falconVerify (pubKey : List Byte) (digest : Nat) (sig : List Byte) : Bool
opaque Config.falconPublic (seed : Nat) : List Byte
opaque Config.falconSign (seed digest : Nat) : List Byte

/-- The 256-bit secret that the unclonable source of the die with this serial number yields with helper data (R415). -/
opaque Config.pufSecret (serial helper : Nat) : Nat

/-- Frequency of a recovered line clock in kHz, which R33 does not give (notes/assumptions/8.md). -/
opaque Config.lineClockKhz : Nat

/-- Ocarahorn's manufacturer code of R432, which the spec does not give (notes/assumptions/8.md). -/
opaque Config.jedecCode : Nat

/-- Digests that the boot ROM logs and whose extent the spec does not give: of the ROM itself and of a boot record
(notes/assumptions/8.md). -/
opaque Config.romDigest : Nat
opaque Config.recordDigest (record : List Byte) : Nat

/-! JESD209-5C, to which R365 and R379 leave the banks and rows of a line and the codes of MR4 (notes/assumptions/9.md). -/

/-- Bank (below 16) and row of a 2 KiB row segment of a channel, for a DENSITY code, and the number of rows of a bank. -/
opaque Config.dramBank (density segment : Nat) : Nat
opaque Config.dramRow (density segment : Nat) : Nat
opaque Config.dramRows (density : Nat) : Nat

/-- The 32 check bits of a data line and its line number, as the bytes in which they lie (R366). -/
opaque Config.eccBytes (data : List Byte) (line : Nat) : List Byte

/-- A refresh-rate code of MR4: how bad it is beside another, whether it calls for a multiplier below 1, and whether it
calls for 0.25 or less or reports the temperature limit. -/
opaque Config.mr4Rank (code : Nat) : Nat
opaque Config.mr4Below (code : Nat) : Bool
opaque Config.mr4Limit (code : Nat) : Bool

/-- What the analogue front end senses at its `n`-th update: `what` 0 the word of PWR.RAIL_TEL of rail k, 1 LN.EQ_STAT.AGC of
line channel k (notes/assumptions/41.md). -/
opaque Config.sensed (what k n : Nat) : Nat

/-- The cell of the boundary register that drives a pin: `what` 0 LCn_TXDIS, 1 LCn_TXBE (notes/assumptions/43.md). -/
opaque Config.boundaryCell (what n : Nat) : Nat

/-- The PCI Express Vendor ID assigned to Ocarahorn, and the Revision ID: R348 gives no value (notes/assumptions/22.md). -/
opaque Config.pcieVendor : Nat
opaque Config.pcieRevision : Nat

end Sys2Proof
end

