-- ==== Sys2Proof/Machine/Regs.lean ====
section
/-!
DEFINITION. The register map of the device: for every register of the spec its byte address, its dimensions and its
fields (lowest bit, width, access type of R15 and reset value), transcribed from the register tables of spec/01 to
spec/18, and for every field a name that the meanings use (`Reg.<REGISTER>.<FIELD>`, with one argument for every
index of the register). Where a register's reset value depends on the part or on a fuse, the value here is 0 and the
read is computed (Machine/Views.lean).
-/
namespace Sys2Proof.Machine

/-- The access types of R15 (RSV bits are simply listed by no field: they read 0 and ignore writes). -/
inductive Acc where
  | rw | ro | rc | w1c | w1s | wo
  deriving DecidableEq, Repr

/-- A field as a meaning names it: the byte address of its register, its lowest bit and its width. -/
structure Fld where
  /-- byte address of the register in the window of R38 -/
  adr : Nat
  lo : Nat
  w : Nat
  deriving DecidableEq, Repr

/-- A field as a register table gives it. -/
structure FldD where
  lo : Nat
  w : Nat
  acc : Acc
  rst : Nat
  deriving DecidableEq, Repr

/-- A register as its heading gives it: its address, its repetitions (count and stride) and its fields. -/
structure RegD where
  base : Nat
  dims : List (Nat × Nat)
  fields : List FldD
  deriving DecidableEq, Repr

/-- The storage key of a field: registers do not overlap, so address and lowest bit name a field. -/
def Fld.key (f : Fld) : Nat := f.adr * 32 + f.lo

/-- The offset `o` falls on a repetition given by `dims`, outermost (widest stride) first. -/
def RegD.hitDims : List (Nat × Nat) → Nat → Bool
  | [], o => o == 0
  | (c, st) :: r, o => decide (o / st < c) && RegD.hitDims r (o % st)

/-- The byte address `a` is (one repetition of) this register. -/
def RegD.hit (r : RegD) (a : Nat) : Bool := decide (r.base ≤ a) && RegD.hitDims r.dims (a - r.base)

namespace Reg

/-- Registers of the CHIPCAP block, part 1 of 1. -/
def tabCHIPCAP0 : List RegD := [
  /- CHIPCAP_ID -/ ⟨0x0, [], [⟨16, 16, .ro, 0⟩, ⟨8, 8, .ro, 1⟩]⟩,
  /- CHIPCAP_VENDOR -/ ⟨0x4, [], [⟨0, 32, .ro, 0x4f435248⟩]⟩,
  /- CHIPCAP_UNITS0 -/ ⟨0x10, [], [⟨0, 4, .ro, 0⟩, ⟨4, 1, .ro, 0⟩, ⟨5, 1, .ro, 0⟩, ⟨6, 1, .ro, 0⟩, ⟨7, 1, .ro, 0⟩, ⟨8, 1, .ro, 0⟩, ⟨9, 1, .ro, 1⟩, ⟨10, 1, .ro, 0⟩, ⟨11, 1, .ro, 0⟩, ⟨12, 1, .ro, 0⟩, ⟨13, 1, .ro, 1⟩, ⟨14, 1, .ro, 1⟩, ⟨15, 1, .ro, 1⟩, ⟨16, 1, .ro, 1⟩, ⟨17, 1, .ro, 1⟩, ⟨18, 1, .ro, 1⟩, ⟨19, 1, .ro, 1⟩, ⟨20, 1, .ro, 0⟩, ⟨21, 1, .ro, 0⟩]⟩,
  /- CHIPCAP_UNITS1 -/ ⟨0x14, [], [⟨0, 4, .ro, 0⟩, ⟨4, 4, .ro, 0⟩, ⟨8, 8, .ro, 0⟩, ⟨16, 4, .ro, 0⟩]⟩,
  /- CHIPCAP_SL_MASK -/ ⟨0x20, [(4, 0x4)], [⟨0, 28, .ro, 0⟩]⟩,
  /- CHIPCAP_BUS_STAT -/ ⟨0x40, [], [⟨0, 16, .rc, 0⟩, ⟨16, 16, .rc, 0⟩]⟩,
  /- CHIPCAP_BUS_ADDR -/ ⟨0x44, [], [⟨0, 25, .ro, 0⟩, ⟨25, 1, .ro, 0⟩, ⟨26, 2, .ro, 0⟩, ⟨28, 1, .ro, 0⟩]⟩,
  /- CHIPCAP_RST_CAUSE -/ ⟨0x50, [], [⟨0, 1, .w1c, 1⟩, ⟨1, 1, .w1c, 0⟩, ⟨2, 1, .w1c, 0⟩, ⟨3, 1, .w1c, 0⟩, ⟨4, 1, .w1c, 0⟩, ⟨5, 1, .w1c, 0⟩, ⟨6, 1, .w1c, 0⟩, ⟨7, 1, .w1c, 0⟩]⟩,
  /- CHIPCAP_RST_CTRL -/ ⟨0x54, [], [⟨0, 1, .wo, 0⟩, ⟨16, 16, .wo, 0⟩]⟩,
  /- CHIPCAP_BLOCK_RST -/ ⟨0x58, [], [⟨0, 4, .rw, 15⟩, ⟨4, 4, .rw, 15⟩, ⟨8, 1, .rw, 0⟩, ⟨9, 1, .rw, 0⟩]⟩,
  /- CHIPCAP_I2C_CMD -/ ⟨0x1000, [(4, 0x10)], [⟨0, 7, .rw, 0⟩, ⟨7, 1, .rw, 0⟩, ⟨8, 1, .rw, 0⟩, ⟨9, 1, .rw, 0⟩, ⟨10, 1, .wo, 0⟩, ⟨16, 8, .rw, 0⟩, ⟨24, 8, .rw, 0⟩]⟩,
  /- CHIPCAP_I2C_STAT -/ ⟨0x1004, [(4, 0x10)], [⟨0, 8, .ro, 0⟩, ⟨8, 1, .ro, 0⟩, ⟨9, 2, .ro, 0⟩]⟩,
  /- CHIPCAP_MDIO_CMD -/ ⟨0x1040, [(2, 0x10)], [⟨0, 5, .rw, 0⟩, ⟨5, 5, .rw, 0⟩, ⟨10, 1, .rw, 0⟩, ⟨11, 2, .rw, 0⟩, ⟨13, 2, .rw, 0⟩, ⟨15, 1, .wo, 0⟩, ⟨16, 16, .rw, 0⟩]⟩,
  /- CHIPCAP_MDIO_STAT -/ ⟨0x1044, [(2, 0x10)], [⟨0, 1, .ro, 0⟩]⟩,
  /- CHIPCAP_SERIAL_LO -/ ⟨0x30, [], [⟨0, 32, .ro, 0⟩]⟩,
  /- CHIPCAP_SERIAL_HI -/ ⟨0x34, [], [⟨0, 32, .ro, 0⟩]⟩]

/-- Every register of the CHIPCAP block. -/
def tabCHIPCAP : List RegD := tabCHIPCAP0

/-- Registers of the GEN block, part 1 of 1. -/
def tabGEN0 : List RegD := [
  /- GEN_CMD -/ ⟨0x10000, [], [⟨0, 4, .wo, 0⟩, ⟨4, 1, .wo, 0⟩, ⟨16, 16, .wo, 0⟩]⟩,
  /- GEN_STAT -/ ⟨0x10004, [], [⟨0, 8, .ro, 0⟩, ⟨8, 1, .ro, 0⟩, ⟨9, 1, .w1c, 0⟩, ⟨10, 1, .ro, 0⟩, ⟨11, 1, .ro, 0⟩, ⟨12, 1, .ro, 0⟩, ⟨13, 1, .ro, 1⟩, ⟨14, 2, .ro, 0⟩, ⟨16, 1, .ro, 1⟩, ⟨17, 1, .ro, 1⟩, ⟨18, 1, .ro, 1⟩, ⟨19, 2, .ro, 0⟩]⟩,
  /- GEN_STAGE_NUM -/ ⟨0x10014, [], [⟨0, 32, .rw, 0⟩]⟩,
  /- GEN_CONFIRM_T -/ ⟨0x10030, [], [⟨0, 16, .rw, 300⟩, ⟨16, 1, .rw, 1⟩]⟩,
  /- GEN_CONFIRM_LEFT -/ ⟨0x10034, [], [⟨0, 32, .ro, 0⟩]⟩,
  /- GEN_COMMIT_TS -/ ⟨0x10040, [(4, 0x4)], [⟨0, 32, .ro, 0⟩]⟩,
  /- GEN_CHECK_STAT -/ ⟨0x10050, [], [⟨0, 8, .ro, 0⟩, ⟨8, 2, .ro, 0⟩, ⟨10, 4, .ro, 0⟩, ⟨14, 18, .ro, 0⟩]⟩,
  /- GEN_CHECK_CNT -/ ⟨0x10054, [], [⟨0, 17, .ro, 0⟩]⟩,
  /- GEN_EVT -/ ⟨0x10060, [], [⟨0, 1, .w1c, 0⟩, ⟨1, 1, .w1c, 0⟩, ⟨2, 1, .w1c, 0⟩, ⟨3, 1, .w1c, 0⟩, ⟨4, 1, .w1c, 0⟩, ⟨5, 1, .w1c, 0⟩]⟩,
  /- GEN_EVT_EN -/ ⟨0x10064, [], [⟨0, 1, .rw, 0⟩, ⟨1, 1, .rw, 0⟩, ⟨2, 1, .rw, 0⟩, ⟨3, 1, .rw, 0⟩, ⟨4, 1, .rw, 0⟩, ⟨5, 1, .rw, 0⟩]⟩,
  /- GEN_CNT -/ ⟨0x10070, [(3, 0x4)], [⟨0, 32, .rc, 0⟩]⟩,
  /- GEN_FW_CTRL -/ ⟨0x10100, [], [⟨0, 1, .rw, 0⟩, ⟨1, 1, .rw, 0⟩, ⟨2, 1, .wo, 0⟩]⟩,
  /- GEN_FW_STAT -/ ⟨0x10104, [], [⟨0, 1, .ro, 0⟩, ⟨1, 1, .ro, 0⟩, ⟨2, 1, .w1c, 0⟩, ⟨3, 2, .ro, 0⟩, ⟨5, 1, .ro, 0⟩, ⟨6, 1, .ro, 0⟩]⟩,
  /- GEN_FW_TIMEOUT -/ ⟨0x10108, [], [⟨0, 16, .rw, 600⟩]⟩,
  /- GEN_ACTIVE -/ ⟨0x10008, [], [⟨0, 32, .ro, 0⟩]⟩,
  /- GEN_PREV -/ ⟨0x1000c, [], [⟨0, 32, .ro, 0⟩]⟩,
  /- GEN_STAGE -/ ⟨0x10010, [], [⟨0, 32, .ro, 1⟩]⟩,
  /- GEN_REJECTED -/ ⟨0x10018, [], [⟨0, 32, .ro, 0⟩]⟩,
  /- GEN_AT_SEC_LO -/ ⟨0x10020, [], [⟨0, 32, .rw, 0⟩]⟩,
  /- GEN_AT_SEC_HI -/ ⟨0x10024, [], [⟨0, 16, .rw, 0⟩]⟩,
  /- GEN_AT_NS -/ ⟨0x10028, [], [⟨0, 30, .rw, 0⟩]⟩]

/-- Every register of the GEN block. -/
def tabGEN : List RegD := tabGEN0

/-- Registers of the PWR block, part 1 of 2. -/
def tabPWR0 : List RegD := [
  /- PWR_LINE_ESTOP -/ ⟨0x20f00, [], [⟨0, 4, .rw, 0⟩]⟩,
  /- PWR_CTRL -/ ⟨0x20000, [], [⟨0, 1, .wo, 0⟩, ⟨1, 1, .rw, 1⟩, ⟨16, 16, .wo, 0⟩]⟩,
  /- PWR_STAT -/ ⟨0x20004, [], [⟨0, 3, .ro, 0⟩, ⟨3, 3, .ro, 0⟩, ⟨6, 8, .ro, 0⟩, ⟨14, 1, .ro, 0⟩, ⟨15, 1, .ro, 0⟩, ⟨16, 1, .ro, 0⟩, ⟨17, 1, .ro, 0⟩, ⟨18, 5, .ro, 0⟩]⟩,
  /- PWR_SEQ -/ ⟨0x20008, [], [⟨0, 8, .rw, 10⟩, ⟨8, 8, .rw, 10⟩, ⟨16, 8, .rw, 10⟩, ⟨24, 3, .rw, 3⟩]⟩,
  /- PWR_SEQ2 -/ ⟨0x2000c, [], [⟨0, 12, .rw, 500⟩, ⟨12, 16, .rw, 0⟩]⟩,
  /- PWR_EVT -/ ⟨0x20010, [], [⟨0, 1, .w1c, 0⟩, ⟨1, 1, .w1c, 0⟩, ⟨2, 1, .w1c, 0⟩, ⟨3, 1, .w1c, 0⟩, ⟨4, 1, .w1c, 0⟩, ⟨5, 1, .w1c, 0⟩]⟩,
  /- PWR_EVT_EN -/ ⟨0x20014, [], [⟨0, 1, .rw, 0⟩, ⟨1, 1, .rw, 0⟩, ⟨2, 1, .rw, 0⟩, ⟨3, 1, .rw, 0⟩, ⟨4, 1, .rw, 0⟩, ⟨5, 1, .rw, 0⟩]⟩,
  /- PWR_CNT -/ ⟨0x20020, [(4, 0x4)], [⟨0, 32, .rc, 0⟩]⟩,
  /- PWR_RAIL_VSET0 -/ ⟨0x20100, [], [⟨0, 11, .rw, 750⟩]⟩,
  /- PWR_RAIL_VSET1 -/ ⟨0x20120, [], [⟨0, 11, .rw, 800⟩]⟩,
  /- PWR_RAIL_VSET2 -/ ⟨0x20140, [], [⟨0, 11, .rw, 900⟩]⟩,
  /- PWR_RAIL_VSET3 -/ ⟨0x20160, [], [⟨0, 11, .rw, 0x4b0⟩]⟩,
  /- PWR_RAIL_VSET4 -/ ⟨0x20180, [], [⟨0, 11, .rw, 0x41a⟩]⟩,
  /- PWR_RAIL_VSET5 -/ ⟨0x201a0, [], [⟨0, 11, .rw, 500⟩]⟩,
  /- PWR_RAIL_VSET -/ ⟨0x20100, [(6, 0x20)], [⟨0, 11, .rw, 0⟩]⟩,
  /- PWR_RAIL_LOOP -/ ⟨0x20104, [(6, 0x20)], [⟨0, 8, .rw, 64⟩, ⟨8, 8, .rw, 8⟩, ⟨16, 8, .rw, 96⟩, ⟨24, 8, .rw, 60⟩]⟩,
  /- PWR_RAIL_LIM0 -/ ⟨0x20108, [], [⟨0, 8, .rw, 18⟩, ⟨8, 4, .rw, 5⟩, ⟨12, 4, .rw, 8⟩]⟩,
  /- PWR_RAIL_LIM1 -/ ⟨0x20128, [], [⟨0, 8, .rw, 15⟩, ⟨8, 4, .rw, 5⟩, ⟨12, 4, .rw, 8⟩]⟩,
  /- PWR_RAIL_LIM2 -/ ⟨0x20148, [], [⟨0, 8, .rw, 14⟩, ⟨8, 4, .rw, 5⟩, ⟨12, 4, .rw, 8⟩]⟩,
  /- PWR_RAIL_LIM3 -/ ⟨0x20168, [], [⟨0, 8, .rw, 9⟩, ⟨8, 4, .rw, 5⟩, ⟨12, 4, .rw, 8⟩]⟩,
  /- PWR_RAIL_LIM4 -/ ⟨0x20188, [], [⟨0, 8, .rw, 12⟩, ⟨8, 4, .rw, 5⟩, ⟨12, 4, .rw, 8⟩]⟩,
  /- PWR_RAIL_LIM5 -/ ⟨0x201a8, [], [⟨0, 8, .rw, 10⟩, ⟨8, 4, .rw, 5⟩, ⟨12, 4, .rw, 8⟩]⟩,
  /- PWR_RAIL_LIM -/ ⟨0x20108, [(6, 0x20)], [⟨0, 8, .rw, 0⟩, ⟨8, 4, .rw, 5⟩, ⟨12, 4, .rw, 8⟩]⟩,
  /- PWR_RAIL_TEL -/ ⟨0x2010c, [(6, 0x20)], [⟨0, 12, .ro, 0⟩, ⟨12, 12, .ro, 0⟩]⟩]

/-- Registers of the PWR block, part 2 of 2. -/
def tabPWR1 : List RegD := [
  /- PWR_RAIL_STAT -/ ⟨0x20110, [(6, 0x20)], [⟨0, 1, .ro, 0⟩, ⟨1, 3, .ro, 0⟩, ⟨4, 8, .ro, 0⟩]⟩,
  /- PWR_WAKE_BKT0 -/ ⟨0x20200, [], [⟨0, 16, .rw, 0x7d0⟩, ⟨16, 16, .rw, 0x1f40⟩]⟩,
  /- PWR_WAKE_BKT1 -/ ⟨0x20204, [], [⟨0, 16, .rw, 0x3e8⟩, ⟨16, 16, .rw, 0x7d0⟩]⟩,
  /- PWR_WAKE_BKT2 -/ ⟨0x20208, [], [⟨0, 16, .rw, 500⟩, ⟨16, 16, .rw, 0x3e8⟩]⟩,
  /- PWR_WAKE_BKT3 -/ ⟨0x2020c, [], [⟨0, 16, .rw, 500⟩, ⟨16, 16, .rw, 0x3e8⟩]⟩,
  /- PWR_WAKE_BKT -/ ⟨0x20200, [(4, 0x4)], [⟨0, 16, .rw, 0⟩, ⟨16, 16, .rw, 0⟩]⟩,
  /- PWR_WAKE_STEP0 -/ ⟨0x20220, [], [⟨0, 16, .rw, 40⟩, ⟨16, 16, .rw, 0⟩]⟩,
  /- PWR_WAKE_STEP1 -/ ⟨0x20224, [], [⟨0, 16, .rw, 160⟩, ⟨16, 16, .rw, 40⟩]⟩,
  /- PWR_WAKE_STEP2 -/ ⟨0x20228, [], [⟨0, 16, .rw, 80⟩, ⟨16, 16, .rw, 40⟩]⟩,
  /- PWR_WAKE_STEP3 -/ ⟨0x2022c, [], [⟨0, 16, .rw, 240⟩, ⟨16, 16, .rw, 80⟩]⟩,
  /- PWR_WAKE_STEP4 -/ ⟨0x20230, [], [⟨0, 16, .rw, 0x1770⟩, ⟨16, 16, .rw, 0⟩]⟩,
  /- PWR_WAKE_STEP5 -/ ⟨0x20234, [], [⟨0, 16, .rw, 800⟩, ⟨16, 16, .rw, 0⟩]⟩,
  /- PWR_WAKE_STEP -/ ⟨0x20220, [(6, 0x4)], [⟨0, 16, .rw, 0⟩, ⟨16, 16, .rw, 0⟩]⟩,
  /- PWR_WAKE_STAT -/ ⟨0x20240, [], [⟨0, 8, .ro, 0⟩, ⟨8, 16, .rc, 0⟩]⟩,
  /- PWR_GATE -/ ⟨0x20250, [], [⟨0, 4, .rw, 0⟩]⟩,
  /- PWR_DG_CFG -/ ⟨0x20400, [], [⟨0, 7, .rw, 90⟩, ⟨8, 8, .rw, 10⟩]⟩,
  /- PWR_WDOG -/ ⟨0x20600, [], [⟨0, 16, .rw, 0⟩, ⟨16, 16, .wo, 0⟩]⟩,
  /- PWR_THERM_CFG -/ ⟨0x20300, [], [⟨0, 8, .rw, 95⟩, ⟨8, 8, .rw, 100⟩, ⟨16, 8, .rw, 110⟩, ⟨24, 8, .rw, 120⟩]⟩,
  /- PWR_THERM_HYST -/ ⟨0x20304, [], [⟨0, 4, .rw, 5⟩, ⟨4, 8, .rw, 15⟩]⟩,
  /- PWR_THERM_T -/ ⟨0x20310, [(12, 0x4)], [⟨0, 12, .ro, 0⟩, ⟨12, 1, .ro, 0⟩]⟩,
  /- PWR_THERM_MAX -/ ⟨0x20340, [], [⟨0, 12, .ro, 0⟩, ⟨12, 4, .ro, 0⟩, ⟨16, 12, .rc, 0⟩]⟩,
  /- PWR_RTC_SEC -/ ⟨0x20500, [], [⟨0, 32, .rw, 0⟩]⟩,
  /- PWR_RTC_SUB -/ ⟨0x20504, [], [⟨0, 15, .ro, 0⟩, ⟨15, 1, .ro, 0⟩]⟩]

/-- Every register of the PWR block. -/
def tabPWR : List RegD := tabPWR0 ++ tabPWR1

/-- Registers of the TRU block, part 1 of 1. -/
def tabTRU0 : List RegD := [
  /- TRU_BOOT_STAT -/ ⟨0x30000, [], [⟨0, 2, .ro, 0⟩, ⟨2, 1, .ro, 0⟩, ⟨3, 1, .ro, 0⟩, ⟨4, 1, .ro, 0⟩, ⟨5, 1, .ro, 0⟩, ⟨6, 7, .ro, 0⟩, ⟨13, 7, .ro, 0⟩]⟩,
  /- TRU_BOOT_FAIL -/ ⟨0x30004, [], [⟨0, 3, .ro, 0⟩, ⟨3, 3, .ro, 0⟩]⟩,
  /- TRU_FUSE_STAT -/ ⟨0x30010, [], [⟨0, 7, .ro, 0⟩, ⟨7, 2, .ro, 0⟩, ⟨9, 1, .ro, 0⟩]⟩,
  /- TRU_CMD -/ ⟨0x30020, [], [⟨0, 4, .wo, 0⟩, ⟨4, 8, .wo, 0⟩]⟩,
  /- TRU_STAT -/ ⟨0x30024, [], [⟨0, 8, .ro, 0⟩, ⟨8, 1, .ro, 0⟩, ⟨9, 1, .w1c, 0⟩]⟩,
  /- TRU_EVT -/ ⟨0x30030, [], [⟨0, 1, .w1c, 0⟩, ⟨1, 1, .w1c, 0⟩, ⟨2, 1, .w1c, 0⟩, ⟨3, 1, .w1c, 0⟩]⟩,
  /- TRU_EVT_EN -/ ⟨0x30034, [], [⟨0, 1, .rw, 0⟩, ⟨1, 1, .rw, 0⟩, ⟨2, 1, .rw, 0⟩, ⟨3, 1, .rw, 0⟩]⟩,
  /- TRU_CNT -/ ⟨0x30050, [(3, 0x4)], [⟨0, 32, .rc, 0⟩]⟩,
  /- TRU_ROOT_HASH -/ ⟨0x30200, [(2, 0x40), (16, 0x4)], [⟨0, 32, .ro, 0⟩]⟩,
  /- TRU_RNG_DATA -/ ⟨0x30040, [], [⟨0, 32, .ro, 0⟩]⟩,
  /- TRU_RNG_STAT -/ ⟨0x30044, [], [⟨0, 1, .ro, 0⟩]⟩,
  /- TRU_DBG_CHAL -/ ⟨0x30060, [(4, 0x4)], [⟨0, 32, .ro, 0⟩]⟩,
  /- TRU_DBG_PERM -/ ⟨0x30070, [], [⟨0, 5, .ro, 0⟩]⟩,
  /- TRU_IN -/ ⟨0x30100, [(16, 0x4)], [⟨0, 32, .rw, 0⟩]⟩,
  /- TRU_MEAS -/ ⟨0x30180, [(16, 0x4)], [⟨0, 32, .ro, 0⟩]⟩,
  /- TRU_LOG -/ ⟨0x31000, [(1280, 0x4)], [⟨0, 32, .ro, 0⟩]⟩,
  /- TRU_ATT_OUT -/ ⟨0x33000, [(384, 0x4)], [⟨0, 32, .ro, 0⟩]⟩,
  /- TRU_TOKEN -/ ⟨0x34000, [(336, 0x4)], [⟨0, 32, .rw, 0⟩]⟩]

/-- Every register of the TRU block. -/
def tabTRU : List RegD := tabTRU0

/-- Registers of the CVU block, part 1 of 1. -/
def tabCVU0 : List RegD := [
  /- CVU_CTRL -/ ⟨0x40000, [(4, 0x100)], [⟨0, 2, .rw, 1⟩, ⟨2, 1, .rw, 0⟩, ⟨3, 1, .wo, 0⟩, ⟨4, 1, .wo, 0⟩, ⟨5, 1, .rw, 0⟩, ⟨6, 1, .wo, 0⟩]⟩,
  /- CVU_STAT -/ ⟨0x40028, [(4, 0x100)], [⟨0, 3, .ro, 0⟩, ⟨4, 2, .ro, 0⟩, ⟨6, 1, .ro, 0⟩]⟩,
  /- CVU_EVT -/ ⟨0x40030, [(4, 0x100)], [⟨0, 1, .w1c, 0⟩, ⟨1, 1, .w1c, 0⟩, ⟨2, 1, .w1c, 0⟩]⟩,
  /- CVU_EVT_EN -/ ⟨0x40034, [(4, 0x100)], [⟨0, 1, .rw, 0⟩, ⟨1, 1, .rw, 0⟩, ⟨2, 1, .rw, 0⟩]⟩,
  /- CVU_CNT -/ ⟨0x40038, [(4, 0x100), (2, 0x4)], [⟨0, 32, .rc, 0⟩]⟩,
  /- CVU_SEED -/ ⟨0x40004, [(4, 0x100)], [⟨0, 32, .rw, 0⟩]⟩,
  /- CVU_EXPECT_A -/ ⟨0x40008, [(4, 0x100)], [⟨0, 32, .rw, 0⟩]⟩,
  /- CVU_EXPECT_B -/ ⟨0x4000c, [(4, 0x100)], [⟨0, 32, .rw, 0⟩]⟩,
  /- CVU_DATA_B -/ ⟨0x40010, [(4, 0x100)], [⟨0, 32, .wo, 0⟩]⟩,
  /- CVU_DATA_H -/ ⟨0x40014, [(4, 0x100)], [⟨0, 32, .wo, 0⟩]⟩,
  /- CVU_DATA_W -/ ⟨0x40018, [(4, 0x100)], [⟨0, 32, .wo, 0⟩]⟩,
  /- CVU_ACC -/ ⟨0x40020, [(4, 0x100)], [⟨0, 32, .ro, 0⟩]⟩,
  /- CVU_RESULT -/ ⟨0x40024, [(4, 0x100)], [⟨0, 32, .ro, 0⟩]⟩,
  /- CVU_COUNT -/ ⟨0x4002c, [(4, 0x100)], [⟨0, 32, .ro, 0⟩]⟩]

/-- Every register of the CVU block. -/
def tabCVU : List RegD := tabCVU0

/-- Registers of the DBG block, part 1 of 1. -/
def tabDBG0 : List RegD := [
  /- DBG_MUX -/ ⟨0x50000, [], [⟨0, 8, .rw, 0⟩, ⟨8, 9, .rw, 0⟩]⟩,
  /- DBG_CKO -/ ⟨0x50010, [(2, 0x4)], [⟨0, 4, .rw, 0⟩, ⟨4, 2, .rw, 0⟩, ⟨6, 4, .rw, 0⟩]⟩,
  /- DBG_CTRL -/ ⟨0x50020, [], [⟨0, 1, .wo, 0⟩, ⟨16, 16, .wo, 0⟩]⟩,
  /- DBG_STAT -/ ⟨0x50024, [], [⟨0, 1, .w1c, 0⟩, ⟨1, 1, .w1c, 0⟩, ⟨2, 1, .ro, 0⟩]⟩,
  /- DBG_IDCODE -/ ⟨0x50028, [], [⟨0, 32, .ro, 0⟩]⟩]

/-- Every register of the DBG block. -/
def tabDBG : List RegD := tabDBG0

/-- Registers of the TIM block, part 1 of 2. -/
def tabTIM0 : List RegD := [
  /- TIM_CTRL -/ ⟨0x80000, [], [⟨0, 2, .rw, 0⟩, ⟨2, 1, .wo, 0⟩, ⟨3, 1, .rw, 0⟩, ⟨4, 1, .rw, 1⟩, ⟨5, 1, .rw, 0⟩, ⟨6, 1, .rw, 0⟩, ⟨7, 1, .rw, 0⟩, ⟨8, 1, .rw, 0⟩]⟩,
  /- TIM_STAT -/ ⟨0x80004, [], [⟨0, 2, .ro, 0⟩, ⟨2, 1, .ro, 0⟩, ⟨3, 1, .ro, 0⟩, ⟨4, 1, .ro, 0⟩]⟩,
  /- TIM_SLEW -/ ⟨0x80060, [], [⟨0, 19, .rw, 0xc350⟩]⟩,
  /- TIM_MAX_SLEW -/ ⟨0x80064, [], [⟨0, 16, .rw, 100⟩]⟩,
  /- TIM_TOD_ARM -/ ⟨0x80084, [], [⟨0, 1, .wo, 0⟩]⟩,
  /- TIM_PATH -/ ⟨0x8009c, [], [⟨0, 16, .rw, 100⟩]⟩,
  /- TIM_PLL_CTRL -/ ⟨0x800a0, [], [⟨0, 2, .rw, 0⟩, ⟨2, 2, .rw, 0⟩, ⟨4, 2, .rw, 0⟩, ⟨6, 8, .rw, 10⟩]⟩,
  /- TIM_PLL_STAT -/ ⟨0x800a4, [], [⟨0, 2, .ro, 0⟩, ⟨2, 1, .ro, 0⟩]⟩,
  /- TIM_PPS_CTRL -/ ⟨0x800b0, [], [⟨0, 30, .rw, 0⟩]⟩,
  /- TIM_PPS_WIDTH -/ ⟨0x800b4, [], [⟨0, 20, .rw, 100⟩]⟩,
  /- TIM_PPS_IN_TS -/ ⟨0x800c0, [(4, 0x4)], [⟨0, 32, .ro, 0⟩]⟩,
  /- TIM_EVT -/ ⟨0x800d0, [], [⟨0, 1, .w1c, 0⟩, ⟨1, 1, .w1c, 0⟩, ⟨2, 1, .w1c, 0⟩, ⟨3, 1, .w1c, 0⟩, ⟨4, 1, .w1c, 0⟩, ⟨5, 1, .w1c, 0⟩, ⟨6, 1, .w1c, 0⟩, ⟨7, 1, .w1c, 0⟩, ⟨8, 1, .w1c, 0⟩, ⟨9, 1, .w1c, 0⟩]⟩,
  /- TIM_EVT_EN -/ ⟨0x800d4, [], [⟨0, 1, .rw, 0⟩, ⟨1, 1, .rw, 0⟩, ⟨2, 1, .rw, 0⟩, ⟨3, 1, .rw, 0⟩, ⟨4, 1, .rw, 0⟩, ⟨5, 1, .rw, 0⟩, ⟨6, 1, .rw, 0⟩, ⟨7, 1, .rw, 0⟩, ⟨8, 1, .rw, 0⟩, ⟨9, 1, .rw, 0⟩]⟩,
  /- TIM_CNT -/ ⟨0x800e0, [(7, 0x4)], [⟨0, 32, .rc, 0⟩]⟩,
  /- TIM_SYNCE_EN -/ ⟨0x80100, [(4, 0x4)], [⟨0, 28, .rw, 0⟩]⟩,
  /- TIM_PORT_TRIM -/ ⟨0x81000, [(460, 0x4)], [⟨0, 16, .rw, 0⟩, ⟨16, 16, .rw, 0⟩]⟩,
  /- TIM_NOW_FRAC -/ ⟨0x80010, [], [⟨0, 16, .ro, 0⟩, ⟨16, 2, .ro, 0⟩]⟩,
  /- TIM_NOW_NS -/ ⟨0x80014, [], [⟨0, 30, .ro, 0⟩]⟩,
  /- TIM_NOW_SEC_LO -/ ⟨0x80018, [], [⟨0, 32, .ro, 0⟩]⟩,
  /- TIM_NOW_SEC_HI -/ ⟨0x8001c, [], [⟨0, 16, .ro, 0⟩]⟩,
  /- TIM_TICK_LO -/ ⟨0x80020, [], [⟨0, 32, .ro, 0⟩]⟩,
  /- TIM_TICK_HI -/ ⟨0x80024, [], [⟨0, 32, .ro, 0⟩]⟩,
  /- TIM_OFFSET_FRAC -/ ⟨0x80030, [], [⟨0, 16, .ro, 0⟩]⟩,
  /- TIM_OFFSET_NS -/ ⟨0x80034, [], [⟨0, 30, .ro, 0⟩]⟩]

/-- Registers of the TIM block, part 2 of 2. -/
def tabTIM1 : List RegD := [
  /- TIM_OFFSET_SEC_LO -/ ⟨0x80038, [], [⟨0, 32, .ro, 0⟩]⟩,
  /- TIM_OFFSET_SEC_HI -/ ⟨0x8003c, [], [⟨0, 16, .ro, 0⟩]⟩,
  /- TIM_STEP_FRAC -/ ⟨0x80050, [], [⟨0, 16, .rw, 0⟩]⟩,
  /- TIM_STEP_NS -/ ⟨0x80054, [], [⟨0, 30, .rw, 0⟩]⟩,
  /- TIM_STEP_SEC_LO -/ ⟨0x80058, [], [⟨0, 32, .rw, 0⟩]⟩,
  /- TIM_STEP_SEC_HI -/ ⟨0x8005c, [], [⟨0, 16, .rw, 0⟩]⟩,
  /- TIM_RATE -/ ⟨0x80040, [], [⟨0, 32, .rw, 0⟩]⟩,
  /- TIM_RATE_EFF -/ ⟨0x80044, [], [⟨0, 32, .ro, 0⟩]⟩,
  /- TIM_PEND -/ ⟨0x80068, [], [⟨0, 32, .ro, 0⟩]⟩,
  /- TIM_TOD_ERR -/ ⟨0x80088, [], [⟨0, 32, .ro, 0⟩]⟩,
  /- TIM_TOD_SFC_LO -/ ⟨0x80070, [], [⟨0, 32, .rw, 0⟩]⟩,
  /- TIM_TOD_SFC_HI -/ ⟨0x80074, [], [⟨0, 19, .rw, 0⟩]⟩,
  /- TIM_TOD_SEC_LO -/ ⟨0x80078, [], [⟨0, 32, .rw, 0⟩]⟩,
  /- TIM_TOD_SEC_HI -/ ⟨0x8007c, [], [⟨0, 16, .rw, 0⟩]⟩,
  /- TIM_TOD_NS -/ ⟨0x80080, [], [⟨0, 30, .rw, 0⟩]⟩,
  /- TIM_XFER_EQD0 -/ ⟨0x80090, [], [⟨0, 28, .rw, 0⟩]⟩,
  /- TIM_XFER_ASYM -/ ⟨0x80094, [], [⟨0, 32, .rw, 0x80000000⟩]⟩,
  /- TIM_XFER_DDS -/ ⟨0x80098, [], [⟨0, 32, .ro, 0⟩]⟩]

/-- Every register of the TIM block. -/
def tabTIM : List RegD := tabTIM0 ++ tabTIM1

/-- Registers of the LN block, part 1 of 3. -/
def tabLN0 : List RegD := [
  /- LN_CTRL -/ ⟨0x100000, [(4, 0x40000)], [⟨0, 1, .rw, 0⟩, ⟨1, 1, .rw, 0⟩]⟩,
  /- LN_RX_LAT -/ ⟨0x100004, [(4, 0x40000)], [⟨0, 16, .ro, 392⟩]⟩,
  /- LN_EQ_CTRL -/ ⟨0x100010, [(4, 0x40000)], [⟨0, 2, .rw, 2⟩, ⟨2, 5, .rw, 8⟩, ⟨7, 1, .rw, 0⟩, ⟨8, 1, .rw, 1⟩, ⟨9, 1, .wo, 0⟩, ⟨12, 4, .rw, 4⟩, ⟨16, 4, .rw, 6⟩, ⟨20, 4, .rw, 5⟩]⟩,
  /- LN_EQ_STAT -/ ⟨0x100018, [(4, 0x40000)], [⟨0, 1, .ro, 0⟩, ⟨1, 1, .ro, 0⟩, ⟨2, 8, .ro, 0⟩]⟩,
  /- LN_SYNC_CTRL -/ ⟨0x100020, [(4, 0x40000)], [⟨0, 3, .rw, 2⟩, ⟨3, 3, .rw, 4⟩, ⟨6, 1, .rw, 1⟩, ⟨7, 3, .rw, 1⟩, ⟨10, 3, .rw, 2⟩, ⟨13, 1, .wo, 0⟩]⟩,
  /- LN_SYNC_STAT -/ ⟨0x100024, [(4, 0x40000)], [⟨0, 2, .ro, 0⟩, ⟨2, 3, .ro, 0⟩, ⟨8, 8, .ro, 0⟩]⟩,
  /- LN_TRACE_CTRL -/ ⟨0x100030, [(4, 0x40000)], [⟨0, 4, .rw, 3⟩, ⟨4, 4, .rw, 3⟩, ⟨8, 1, .rw, 0⟩, ⟨9, 1, .rw, 0⟩]⟩,
  /- LN_CPROF -/ ⟨0x10004c, [(4, 0x40000)], [⟨0, 16, .rw, 0⟩, ⟨16, 16, .ro, 0⟩]⟩,
  /- LN_XGEM_CTRL -/ ⟨0x100050, [(4, 0x40000)], [⟨0, 14, .rw, 0x3e80⟩, ⟨14, 1, .rw, 1⟩]⟩,
  /- LN_SD_CTRL -/ ⟨0x100060, [(4, 0x40000)], [⟨0, 8, .rw, 20⟩, ⟨8, 8, .rw, 20⟩, ⟨16, 8, .rw, 32⟩, ⟨24, 8, .rw, 32⟩]⟩,
  /- LN_BER_CTRL -/ ⟨0x100064, [(4, 0x40000)], [⟨0, 4, .rw, 1⟩, ⟨4, 4, .rw, 3⟩, ⟨8, 4, .rw, 5⟩, ⟨12, 4, .rw, 3⟩, ⟨16, 4, .rw, 10⟩]⟩,
  /- LN_EVT -/ ⟨0x100068, [(4, 0x40000)], [⟨0, 1, .w1c, 0⟩, ⟨1, 1, .w1c, 0⟩, ⟨2, 1, .w1c, 0⟩, ⟨3, 1, .w1c, 0⟩, ⟨4, 1, .w1c, 0⟩, ⟨5, 1, .w1c, 0⟩, ⟨6, 1, .w1c, 0⟩, ⟨7, 1, .w1c, 0⟩, ⟨8, 1, .w1c, 0⟩]⟩,
  /- LN_EVT_EN -/ ⟨0x10006c, [(4, 0x40000)], [⟨0, 1, .rw, 0⟩, ⟨1, 1, .rw, 0⟩, ⟨2, 1, .rw, 0⟩, ⟨3, 1, .rw, 0⟩, ⟨4, 1, .rw, 0⟩, ⟨5, 1, .rw, 0⟩, ⟨6, 1, .rw, 0⟩, ⟨7, 1, .rw, 0⟩, ⟨8, 1, .rw, 0⟩]⟩,
  /- LN_XPORT -/ ⟨0x101000, [(4, 0x40000), (4096, 0x4)], [⟨0, 16, .rw, 0⟩, ⟨16, 1, .rw, 0⟩, ⟨17, 2, .rw, 0⟩]⟩,
  /- LN_PM1_STAT -/ ⟨0x1002f0, [(4, 0x40000)], [⟨0, 1, .ro, 0⟩, ⟨1, 9, .ro, 0⟩, ⟨16, 16, .ro, 0⟩]⟩,
  /- LN_PM_CTRL -/ ⟨0x100300, [(4, 0x40000)], [⟨0, 17, .rw, 0⟩, ⟨20, 12, .rw, 0xb40⟩]⟩,
  /- LN_PM_SEL -/ ⟨0x100304, [(4, 0x40000)], [⟨0, 1, .rw, 0⟩, ⟨1, 6, .rw, 0⟩]⟩,
  /- LN_PM_FLAGS -/ ⟨0x1004f0, [(4, 0x40000)], [⟨0, 1, .ro, 0⟩, ⟨1, 1, .ro, 0⟩, ⟨2, 1, .ro, 0⟩]⟩,
  /- LN_ACT_CTRL -/ ⟨0x120000, [(4, 0x40000)], [⟨0, 1, .rw, 0⟩, ⟨1, 1, .rw, 1⟩, ⟨2, 1, .rw, 0⟩, ⟨4, 4, .rw, 4⟩, ⟨8, 8, .rw, 48⟩]⟩,
  /- LN_ACT_STAT -/ ⟨0x120004, [(4, 0x40000)], [⟨0, 4, .ro, 0⟩, ⟨4, 1, .ro, 0⟩, ⟨5, 1, .ro, 0⟩, ⟨6, 4, .ro, 0⟩, ⟨10, 1, .ro, 0⟩, ⟨16, 10, .ro, 0x3ff⟩]⟩,
  /- LN_ACT_TIMER -/ ⟨0x120008, [(4, 0x40000)], [⟨0, 16, .rw, 0x2710⟩, ⟨16, 16, .rw, 100⟩]⟩,
  /- LN_SN_VSSN -/ ⟨0x12000c, [(4, 0x40000)], [⟨0, 32, .rw, 0⟩]⟩,
  /- LN_REG_ID -/ ⟨0x120010, [(4, 0x40000), (9, 0x4)], [⟨0, 32, .rw, 0⟩]⟩,
  /- LN_EQD -/ ⟨0x120040, [(4, 0x40000)], [⟨0, 28, .ro, 0⟩, ⟨28, 4, .ro, 0⟩]⟩]

/-- Registers of the LN block, part 2 of 3. -/
def tabLN1 : List RegD := [
  /- LN_US_CFG -/ ⟨0x120044, [(4, 0x40000)], [⟨0, 2, .rw, 2⟩, ⟨2, 2, .rw, 2⟩]⟩,
  /- LN_CB_TIMING -/ ⟨0x120048, [(4, 0x40000)], [⟨0, 12, .rw, 256⟩, ⟨12, 12, .rw, 64⟩, ⟨24, 1, .rw, 0⟩]⟩,
  /- LN_CB_CTRL -/ ⟨0x12004c, [(4, 0x40000)], [⟨0, 10, .rw, 200⟩, ⟨10, 10, .rw, 50⟩, ⟨20, 8, .rw, 32⟩]⟩,
  /- LN_BWM_CTRL -/ ⟨0x120050, [(4, 0x40000)], [⟨0, 1, .rw, 1⟩]⟩,
  /- LN_PWR_LVL -/ ⟨0x120060, [(4, 0x40000)], [⟨0, 3, .ro, 0⟩, ⟨8, 3, .rw, 0⟩, ⟨16, 8, .rw, 10⟩]⟩,
  /- LN_OMCI_CFG -/ ⟨0x120064, [(4, 0x40000)], [⟨0, 7, .rw, 0⟩, ⟨7, 1, .rw, 1⟩, ⟨8, 12, .rw, 0x800⟩]⟩,
  /- LN_ACT_EVT -/ ⟨0x120070, [(4, 0x40000)], [⟨0, 1, .w1c, 0⟩, ⟨1, 1, .w1c, 0⟩, ⟨2, 1, .w1c, 0⟩, ⟨3, 1, .w1c, 0⟩, ⟨4, 1, .w1c, 0⟩, ⟨5, 1, .w1c, 0⟩, ⟨6, 1, .w1c, 0⟩, ⟨7, 1, .w1c, 0⟩, ⟨8, 1, .w1c, 0⟩, ⟨9, 1, .w1c, 0⟩]⟩,
  /- LN_ACT_EVT_EN -/ ⟨0x120074, [(4, 0x40000)], [⟨0, 1, .rw, 0⟩, ⟨1, 1, .rw, 0⟩, ⟨2, 1, .rw, 0⟩, ⟨3, 1, .rw, 0⟩, ⟨4, 1, .rw, 0⟩, ⟨5, 1, .rw, 0⟩, ⟨6, 1, .rw, 0⟩, ⟨7, 1, .rw, 0⟩, ⟨8, 1, .rw, 0⟩, ⟨9, 1, .rw, 0⟩]⟩,
  /- LN_ACT_CNT -/ ⟨0x120080, [(4, 0x40000), (21, 0x4)], [⟨0, 32, .rc, 0⟩]⟩,
  /- LN_PROF0 -/ ⟨0x120100, [(4, 0x40000), (4, 0x40)], [⟨0, 1, .ro, 0⟩, ⟨1, 4, .ro, 0⟩, ⟨5, 1, .ro, 0⟩, ⟨6, 4, .ro, 0⟩, ⟨10, 6, .ro, 0⟩, ⟨16, 12, .ro, 0⟩]⟩,
  /- LN_PROFW -/ ⟨0x120104, [(4, 0x40000), (4, 0x40), (15, 0x4)], [⟨0, 32, .ro, 0⟩]⟩,
  /- LN_ALLOC -/ ⟨0x120200, [(4, 0x40000), (128, 0x4)], [⟨0, 14, .ro, 0⟩, ⟨14, 1, .ro, 0⟩, ⟨16, 10, .rw, 0x3ff⟩]⟩,
  /- LN_LINE_MODE -/ ⟨0x131000, [], [⟨0, 2, .rw, 0⟩, ⟨2, 2, .rw, 0⟩]⟩,
  /- LN_BOND_CTRL -/ ⟨0x131004, [], [⟨0, 17, .rw, 0x8000⟩, ⟨17, 1, .rw, 1⟩]⟩,
  /- LN_BOND_STAT -/ ⟨0x131008, [], [⟨0, 17, .ro, 0⟩, ⟨17, 9, .rc, 0⟩]⟩,
  /- LN_BOND_CNT -/ ⟨0x131010, [(14, 0x4)], [⟨0, 32, .rc, 0⟩]⟩,
  /- LN_PROT_CTRL -/ ⟨0x131100, [], [⟨0, 1, .rw, 0⟩, ⟨1, 1, .rw, 1⟩, ⟨2, 1, .rw, 1⟩, ⟨3, 1, .rw, 1⟩, ⟨4, 2, .wo, 0⟩, ⟨8, 8, .rw, 0⟩]⟩,
  /- LN_PROT_STAT -/ ⟨0x131104, [], [⟨0, 1, .ro, 0⟩, ⟨1, 1, .ro, 0⟩, ⟨2, 1, .ro, 0⟩, ⟨4, 4, .ro, 0⟩, ⟨8, 2, .ro, 0⟩, ⟨10, 2, .ro, 0⟩, ⟨12, 1, .ro, 1⟩]⟩,
  /- LN_PROT_EVT -/ ⟨0x131108, [], [⟨0, 1, .w1c, 0⟩, ⟨1, 1, .w1c, 0⟩, ⟨2, 1, .w1c, 0⟩, ⟨3, 1, .w1c, 0⟩]⟩,
  /- LN_PROT_EVT_EN -/ ⟨0x13110c, [], [⟨0, 1, .rw, 0⟩, ⟨1, 1, .rw, 0⟩, ⟨2, 1, .rw, 0⟩, ⟨3, 1, .rw, 0⟩]⟩,
  /- LN_PROT_CNT -/ ⟨0x131110, [(4, 0x4)], [⟨0, 32, .rc, 0⟩]⟩,
  /- LN_BOND_GRP_CFG -/ ⟨0x132000, [(1024, 0x8)], [⟨0, 15, .rw, 0⟩, ⟨15, 1, .rw, 0⟩, ⟨16, 4, .rw, 0⟩, ⟨20, 1, .rw, 0⟩, ⟨21, 2, .ro, 0⟩]⟩,
  /- LN_BOND_GRP_STAT -/ ⟨0x132004, [(1024, 0x8)], [⟨0, 16, .ro, 0⟩, ⟨16, 16, .ro, 0⟩]⟩,
  /- LN_FFE8 -/ ⟨0x100120, [(4, 0x40000)], [⟨0, 10, .rw, 256⟩]⟩]

/-- Registers of the LN block, part 3 of 3. -/
def tabLN2 : List RegD := [
  /- LN_FFE -/ ⟨0x100100, [(4, 0x40000), (31, 0x4)], [⟨0, 10, .rw, 0⟩]⟩,
  /- LN_DFE -/ ⟨0x100180, [(4, 0x40000), (3, 0x4)], [⟨0, 10, .rw, 0⟩]⟩,
  /- LN_SFC_LO -/ ⟨0x100028, [(4, 0x40000)], [⟨0, 32, .ro, 0⟩]⟩,
  /- LN_SFC_HI -/ ⟨0x10002c, [(4, 0x40000)], [⟨0, 19, .ro, 0⟩]⟩,
  /- LN_PONID_EXP_LO -/ ⟨0x100034, [(4, 0x40000)], [⟨0, 32, .rw, 0⟩]⟩,
  /- LN_PONID_EXP_HI -/ ⟨0x100038, [(4, 0x40000)], [⟨0, 19, .rw, 0⟩]⟩,
  /- LN_PONID_MASK_LO -/ ⟨0x10003c, [(4, 0x40000)], [⟨0, 32, .rw, 0xffffffff⟩]⟩,
  /- LN_PONID_MASK_HI -/ ⟨0x100040, [(4, 0x40000)], [⟨0, 19, .rw, 0x7ffff⟩]⟩,
  /- LN_PONID_RX_LO -/ ⟨0x100044, [(4, 0x40000)], [⟨0, 32, .ro, 0⟩]⟩,
  /- LN_PONID_RX_HI -/ ⟨0x100048, [(4, 0x40000)], [⟨0, 19, .ro, 0⟩]⟩,
  /- LN_DEF_STAT -/ ⟨0x100054, [(4, 0x40000)], [⟨0, 1, .ro, 0⟩, ⟨1, 1, .ro, 1⟩, ⟨2, 1, .ro, 1⟩, ⟨3, 1, .ro, 0⟩, ⟨4, 1, .ro, 0⟩, ⟨5, 1, .ro, 0⟩, ⟨6, 1, .ro, 0⟩, ⟨7, 1, .ro, 0⟩, ⟨8, 1, .ro, 0⟩]⟩,
  /- LN_DEF_STICKY -/ ⟨0x100058, [(4, 0x40000)], [⟨0, 1, .w1c, 0⟩, ⟨1, 1, .w1c, 0⟩, ⟨2, 1, .w1c, 0⟩, ⟨3, 1, .w1c, 0⟩, ⟨4, 1, .w1c, 0⟩, ⟨5, 1, .w1c, 0⟩, ⟨6, 1, .w1c, 0⟩, ⟨7, 1, .w1c, 0⟩, ⟨8, 1, .w1c, 0⟩]⟩,
  /- LN_DEF_EN -/ ⟨0x10005c, [(4, 0x40000)], [⟨0, 1, .rw, 0⟩, ⟨1, 1, .rw, 0⟩, ⟨2, 1, .rw, 0⟩, ⟨3, 1, .rw, 0⟩, ⟨4, 1, .rw, 0⟩, ⟨5, 1, .rw, 0⟩, ⟨6, 1, .rw, 0⟩, ⟨7, 1, .rw, 0⟩, ⟨8, 1, .rw, 0⟩]⟩,
  /- LN_PM1_CNT_LO -/ ⟨0x100200, [(4, 0x40000), (18, 0x8)], [⟨0, 32, .ro, 0⟩]⟩,
  /- LN_PM1_CNT_HI -/ ⟨0x100204, [(4, 0x40000), (18, 0x8)], [⟨0, 16, .ro, 0⟩]⟩,
  /- LN_PM_DATA_LO -/ ⟨0x100400, [(4, 0x40000), (22, 0x8)], [⟨0, 32, .ro, 0⟩]⟩,
  /- LN_PM_DATA_HI -/ ⟨0x100404, [(4, 0x40000), (22, 0x8)], [⟨0, 32, .ro, 0⟩]⟩,
  /- LN_PROT_TS_LO -/ ⟨0x131120, [], [⟨0, 32, .ro, 0⟩]⟩,
  /- LN_PROT_TS_HI -/ ⟨0x131124, [], [⟨0, 32, .ro, 0⟩]⟩]

/-- Every register of the LN block. -/
def tabLN : List RegD := tabLN0 ++ tabLN1 ++ tabLN2

/-- Registers of the CPH block, part 1 of 1. -/
def tabCPH0 : List RegD := [
  /- CPH_CTRL -/ ⟨0x200000, [], [⟨0, 1, .rw, 0⟩]⟩,
  /- CPH_KEY_CMD -/ ⟨0x200010, [], [⟨0, 3, .wo, 0⟩, ⟨8, 6, .wo, 0⟩]⟩,
  /- CPH_KEY_STAT -/ ⟨0x200014, [], [⟨0, 8, .ro, 0⟩, ⟨8, 1, .ro, 0⟩, ⟨9, 1, .w1c, 0⟩]⟩,
  /- CPH_KEY_IN -/ ⟨0x200020, [(10, 0x4)], [⟨0, 32, .wo, 0⟩]⟩,
  /- CPH_WRAP_OUT -/ ⟨0x200060, [(20, 0x4)], [⟨0, 32, .ro, 0⟩]⟩,
  /- CPH_EVT -/ ⟨0x200100, [], [⟨0, 1, .w1c, 0⟩, ⟨1, 1, .w1c, 0⟩, ⟨2, 1, .w1c, 0⟩, ⟨3, 1, .w1c, 0⟩, ⟨4, 1, .w1c, 0⟩, ⟨5, 1, .w1c, 0⟩, ⟨6, 1, .w1c, 0⟩]⟩,
  /- CPH_EVT_EN -/ ⟨0x200104, [], [⟨0, 1, .rw, 0⟩, ⟨1, 1, .rw, 0⟩, ⟨2, 1, .rw, 0⟩, ⟨3, 1, .rw, 0⟩, ⟨4, 1, .rw, 0⟩, ⟨5, 1, .rw, 0⟩, ⟨6, 1, .rw, 0⟩]⟩,
  /- CPH_EXH_MARGIN -/ ⟨0x200110, [], [⟨0, 24, .rw, 0x10000⟩, ⟨24, 8, .rw, 1⟩]⟩,
  /- CPH_LINE_US_CTRL -/ ⟨0x200200, [(4, 0x10)], [⟨0, 2, .ro, 0⟩, ⟨2, 2, .rw, 0⟩, ⟨4, 1, .rw, 0⟩]⟩,
  /- CPH_LINE_KEYREC -/ ⟨0x200400, [(4, 0x40), (15, 0x4)], [⟨0, 32, .ro, 0⟩]⟩,
  /- CPH_RSR_CTRL -/ ⟨0x200300, [(4, 0x10)], [⟨0, 1, .rw, 0⟩, ⟨1, 1, .rw, 0⟩, ⟨2, 1, .ro, 0⟩, ⟨3, 1, .ro, 0⟩, ⟨4, 1, .rw, 0⟩]⟩,
  /- CPH_SLOT_STAT -/ ⟨0x201000, [(52, 0x10)], [⟨0, 2, .ro, 0⟩, ⟨2, 1, .ro, 0⟩, ⟨3, 1, .ro, 0⟩, ⟨4, 3, .ro, 0⟩]⟩,
  /- CPH_LINE_SW_LO -/ ⟨0x200204, [(4, 0x10)], [⟨0, 32, .rw, 0⟩]⟩,
  /- CPH_LINE_SW_HI -/ ⟨0x200208, [(4, 0x10)], [⟨0, 19, .rw, 0⟩]⟩,
  /- CPH_RSR_SW_SEC -/ ⟨0x200304, [(4, 0x10)], [⟨0, 32, .rw, 0⟩]⟩,
  /- CPH_RSR_SW_NS -/ ⟨0x200308, [(4, 0x10)], [⟨0, 32, .rw, 0⟩]⟩,
  /- CPH_SLOT_CTR_LO -/ ⟨0x201004, [(52, 0x10)], [⟨0, 32, .ro, 0⟩]⟩,
  /- CPH_SLOT_CTR_HI -/ ⟨0x201008, [(52, 0x10)], [⟨0, 19, .ro, 0⟩]⟩,
  /- CPH_LINE_CNT -/ ⟨0x202000, [(4, 0x40), (6, 0x4)], [⟨0, 32, .rc, 0⟩]⟩,
  /- CPH_RSR_CNT -/ ⟨0x202100, [(4, 0x40), (8, 0x4)], [⟨0, 32, .rc, 0⟩]⟩]

/-- Every register of the CPH block. -/
def tabCPH : List RegD := tabCPH0

/-- Registers of the PCL block, part 1 of 1. -/
def tabPCL0 : List RegD := [
  /- PCL_TBL_CMD -/ ⟨0x300000, [], [⟨0, 4, .wo, 0⟩, ⟨4, 4, .wo, 0⟩, ⟨8, 2, .wo, 0⟩, ⟨10, 18, .wo, 0⟩]⟩,
  /- PCL_TBL_STAT -/ ⟨0x300004, [], [⟨0, 8, .ro, 0⟩, ⟨8, 1, .ro, 0⟩, ⟨9, 1, .w1c, 0⟩, ⟨10, 18, .ro, 0⟩]⟩,
  /- PCL_TBL_DATA -/ ⟨0x300010, [(48, 0x4)], [⟨0, 32, .rw, 0⟩]⟩,
  /- PCL_GEN_STAT -/ ⟨0x300100, [], [⟨0, 4, .ro, 0⟩, ⟨4, 4, .ro, 1⟩, ⟨8, 4, .ro, 0⟩, ⟨12, 2, .ro, 0⟩, ⟨14, 1, .ro, 1⟩, ⟨15, 1, .ro, 1⟩, ⟨16, 1, .ro, 0⟩, ⟨17, 1, .ro, 0⟩, ⟨18, 1, .ro, 1⟩]⟩,
  /- PCL_LOG_USED -/ ⟨0x30010c, [], [⟨0, 16, .ro, 0⟩, ⟨16, 16, .ro, 0⟩]⟩,
  /- PCL_GEN_EVT -/ ⟨0x300110, [], [⟨0, 1, .w1c, 0⟩, ⟨1, 1, .w1c, 0⟩, ⟨2, 1, .w1c, 0⟩]⟩,
  /- PCL_GEN_EVT_EN -/ ⟨0x300114, [], [⟨0, 1, .rw, 0⟩, ⟨1, 1, .rw, 0⟩, ⟨2, 1, .rw, 0⟩]⟩,
  /- PCL_RECIRC_CTRL -/ ⟨0x300120, [], [⟨0, 8, .rw, 20⟩]⟩,
  /- PCL_RECIRC_STAT -/ ⟨0x300130, [(4, 0x4)], [⟨0, 10, .ro, 0⟩]⟩,
  /- PCL_SLICE_IN_DROP -/ ⟨0x300200, [(4, 0x4)], [⟨0, 32, .rc, 0⟩]⟩,
  /- PCL_CNT -/ ⟨0x300300, [(4, 0x40), (13, 0x4)], [⟨0, 32, .rc, 0⟩]⟩,
  /- PCL_POL_CNT -/ ⟨0x400000, [(65536, 0x10), (3, 0x4)], [⟨0, 32, .rc, 0⟩]⟩,
  /- PCL_INFLIGHT_ACT -/ ⟨0x300104, [], [⟨0, 24, .ro, 0⟩]⟩,
  /- PCL_INFLIGHT_HELD -/ ⟨0x300108, [], [⟨0, 24, .ro, 0⟩]⟩]

/-- Every register of the PCL block. -/
def tabPCL : List RegD := tabPCL0

/-- Registers of the TMG block, part 1 of 1. -/
def tabTMG0 : List RegD := [
  /- TMG_TBL_CMD -/ ⟨0x800000, [], [⟨0, 4, .wo, 0⟩, ⟨4, 4, .wo, 0⟩, ⟨8, 2, .wo, 0⟩, ⟨10, 18, .wo, 0⟩]⟩,
  /- TMG_TBL_STAT -/ ⟨0x800004, [], [⟨0, 8, .ro, 0⟩, ⟨8, 1, .ro, 0⟩, ⟨9, 1, .w1c, 0⟩]⟩,
  /- TMG_TBL_DATA -/ ⟨0x800010, [(16, 0x4)], [⟨0, 32, .rw, 0⟩]⟩,
  /- TMG_GEN_STAT -/ ⟨0x800100, [], [⟨0, 2, .ro, 0⟩, ⟨2, 1, .ro, 0⟩, ⟨3, 1, .ro, 1⟩, ⟨16, 16, .ro, 0⟩]⟩,
  /- TMG_NODE_CMD -/ ⟨0x800200, [], [⟨0, 3, .wo, 0⟩, ⟨3, 3, .wo, 0⟩, ⟨6, 16, .wo, 0⟩]⟩,
  /- TMG_NODE_STAT -/ ⟨0x800204, [], [⟨0, 8, .ro, 0⟩, ⟨8, 1, .ro, 0⟩, ⟨9, 1, .w1c, 0⟩]⟩,
  /- TMG_BUF_CFG -/ ⟨0x800300, [], [⟨0, 19, .rw, 0x4000⟩]⟩,
  /- TMG_SIDING_CFG -/ ⟨0x800400, [], [⟨0, 27, .rw, 0⟩, ⟨27, 1, .rw, 0⟩]⟩,
  /- TMG_SIDING_STAT -/ ⟨0x800404, [], [⟨0, 27, .ro, 0⟩]⟩,
  /- TMG_EVT -/ ⟨0x800410, [], [⟨0, 1, .w1c, 0⟩, ⟨1, 1, .w1c, 0⟩, ⟨2, 1, .w1c, 0⟩, ⟨3, 1, .w1c, 0⟩, ⟨4, 1, .w1c, 0⟩]⟩,
  /- TMG_EVT_EN -/ ⟨0x800414, [], [⟨0, 1, .rw, 0⟩, ⟨1, 1, .rw, 0⟩, ⟨2, 1, .rw, 0⟩, ⟨3, 1, .rw, 0⟩, ⟨4, 1, .rw, 0⟩]⟩,
  /- TMG_CNT -/ ⟨0x800500, [(7, 0x4)], [⟨0, 32, .rc, 0⟩]⟩,
  /- TMG_TCONT_OCC -/ ⟨0x808000, [(512, 0x10), (4, 0x4)], [⟨0, 32, .ro, 0⟩]⟩,
  /- TMG_TQCNT -/ ⟨0x810000, [(456, 0x40), (8, 0x8), (2, 0x4)], [⟨0, 32, .rc, 0⟩]⟩,
  /- TMG_QCNT -/ ⟨0xa00000, [(65536, 0x20), (8, 0x4)], [⟨0, 32, .rc, 0⟩]⟩,
  /- TMG_NODE_DATA_LO -/ ⟨0x800208, [], [⟨0, 32, .ro, 0⟩]⟩,
  /- TMG_NODE_DATA_HI -/ ⟨0x80020c, [], [⟨0, 9, .ro, 0⟩]⟩,
  /- TMG_BUF_STAT -/ ⟨0x800304, [], [⟨0, 19, .ro, 0⟩]⟩,
  /- TMG_BUF_GUAR -/ ⟨0x800308, [], [⟨0, 19, .ro, 0⟩]⟩,
  /- TMG_QSTAT0 -/ ⟨0x900000, [(65536, 0x8)], [⟨0, 19, .ro, 0⟩, ⟨19, 1, .ro, 0⟩]⟩,
  /- TMG_QSTAT1 -/ ⟨0x900004, [(65536, 0x8)], [⟨0, 27, .ro, 0⟩]⟩]

/-- Every register of the TMG block. -/
def tabTMG : List RegD := tabTMG0

/-- Registers of the SM block, part 1 of 1. -/
def tabSM0 : List RegD := [
  /- SM_LANE_CTRL -/ ⟨0x1000000, [(112, 0x10000)], [⟨0, 3, .rw, 0⟩, ⟨3, 1, .rw, 0⟩]⟩,
  /- SM_LANE_EVT -/ ⟨0x1000004, [(112, 0x10000)], [⟨0, 1, .w1c, 0⟩]⟩,
  /- SM_LANE_EVT_EN -/ ⟨0x1000008, [(112, 0x10000)], [⟨0, 1, .rw, 0⟩]⟩,
  /- SM_PORT_CTRL -/ ⟨0x1001000, [(112, 0x10000), (4, 0x1000)], [⟨0, 1, .rw, 0⟩, ⟨1, 1, .rw, 0⟩, ⟨2, 1, .rw, 1⟩, ⟨3, 2, .rw, 0⟩, ⟨5, 1, .rw, 0⟩, ⟨6, 14, .rw, 0x7d0⟩]⟩,
  /- SM_PORT_STAT -/ ⟨0x1001004, [(112, 0x10000), (4, 0x1000)], [⟨0, 1, .ro, 0⟩, ⟨1, 3, .ro, 7⟩, ⟨4, 1, .ro, 0⟩, ⟨5, 1, .ro, 0⟩, ⟨6, 1, .ro, 0⟩, ⟨8, 8, .ro, 0⟩, ⟨16, 8, .ro, 255⟩]⟩,
  /- SM_PORT_EVT -/ ⟨0x1001008, [(112, 0x10000), (4, 0x1000)], [⟨0, 1, .w1c, 0⟩, ⟨1, 1, .w1c, 0⟩, ⟨2, 1, .w1c, 0⟩, ⟨3, 1, .w1c, 0⟩]⟩,
  /- SM_PORT_EVT_EN -/ ⟨0x100100c, [(112, 0x10000), (4, 0x1000)], [⟨0, 1, .rw, 0⟩, ⟨1, 1, .rw, 0⟩, ⟨2, 1, .rw, 0⟩, ⟨3, 1, .rw, 0⟩]⟩,
  /- SM_CT -/ ⟨0x1001018, [(112, 0x10000), (4, 0x1000)], [⟨0, 6, .rw, 1⟩]⟩,
  /- SM_FC_CTRL -/ ⟨0x1001020, [(112, 0x10000), (4, 0x1000)], [⟨0, 16, .rw, 0xffff⟩, ⟨16, 8, .rw, 0⟩, ⟨24, 8, .rw, 0⟩]⟩,
  /- SM_FC_THRESH -/ ⟨0x1001024, [(112, 0x10000), (4, 0x1000)], [⟨0, 14, .rw, 0x3000⟩, ⟨14, 14, .rw, 0x2000⟩, ⟨28, 3, .rw, 0⟩]⟩,
  /- SM_FC_REFRESH -/ ⟨0x1001028, [(112, 0x10000), (4, 0x1000)], [⟨0, 16, .rw, 0x8000⟩]⟩,
  /- SM_EEE_CTRL -/ ⟨0x1001030, [(112, 0x10000), (4, 0x1000)], [⟨0, 16, .rw, 20⟩, ⟨16, 16, .rw, 300⟩]⟩,
  /- SM_TT_CMD -/ ⟨0x1000100, [], [⟨0, 4, .wo, 0⟩, ⟨4, 4, .wo, 0⟩, ⟨8, 2, .wo, 0⟩, ⟨10, 14, .wo, 0⟩]⟩,
  /- SM_TT_STAT -/ ⟨0x1000104, [], [⟨0, 8, .ro, 0⟩, ⟨8, 1, .ro, 0⟩, ⟨9, 1, .w1c, 0⟩]⟩,
  /- SM_TT_DATA -/ ⟨0x1000110, [(8, 0x4)], [⟨0, 32, .rw, 0⟩]⟩,
  /- SM_TT_GEN_STAT -/ ⟨0x1000140, [], [⟨0, 2, .ro, 0⟩, ⟨2, 1, .ro, 0⟩, ⟨3, 1, .ro, 1⟩]⟩,
  /- SM_MAC_ADDR_LO -/ ⟨0x1001010, [(112, 0x10000), (4, 0x1000)], [⟨0, 32, .rw, 0⟩]⟩,
  /- SM_MAC_ADDR_HI -/ ⟨0x1001014, [(112, 0x10000), (4, 0x1000)], [⟨0, 16, .rw, 0⟩]⟩,
  /- SM_CNT_LO -/ ⟨0x1001200, [(112, 0x10000), (4, 0x1000), (27, 0x8)], [⟨0, 32, .rc, 0⟩]⟩,
  /- SM_CNT_HI -/ ⟨0x1001204, [(112, 0x10000), (4, 0x1000), (27, 0x8)], [⟨0, 16, .rc, 0⟩]⟩]

/-- Every register of the SM block. -/
def tabSM : List RegD := tabSM0

/-- Registers of the SL block, part 1 of 1. -/
def tabSL0 : List RegD := [
  /- SL_LADDER -/ ⟨0x1800000, [(112, 0x4000)], [⟨0, 3, .rw, 0⟩, ⟨3, 3, .rw, 0⟩, ⟨6, 3, .rw, 0⟩, ⟨9, 3, .rw, 0⟩, ⟨12, 1, .rw, 0⟩, ⟨13, 1, .rw, 1⟩, ⟨14, 8, .rw, 20⟩, ⟨22, 1, .wo, 0⟩]⟩,
  /- SL_LADDER_STAT -/ ⟨0x1800004, [(112, 0x4000)], [⟨0, 2, .ro, 0⟩, ⟨2, 3, .ro, 0⟩, ⟨5, 4, .ro, 0⟩]⟩,
  /- SL_STAT -/ ⟨0x1800008, [(112, 0x4000)], [⟨0, 1, .ro, 0⟩, ⟨1, 1, .ro, 0⟩, ⟨2, 1, .ro, 0⟩, ⟨3, 1, .ro, 0⟩, ⟨4, 1, .ro, 0⟩, ⟨5, 1, .ro, 0⟩, ⟨6, 1, .ro, 0⟩, ⟨7, 1, .ro, 0⟩, ⟨8, 1, .ro, 0⟩]⟩,
  /- SL_SLEEP_CTRL -/ ⟨0x180000c, [(112, 0x4000)], [⟨0, 1, .rw, 1⟩, ⟨1, 1, .rw, 0⟩, ⟨2, 1, .rw, 0⟩, ⟨3, 1, .rw, 0⟩]⟩,
  /- SL_TXEQ -/ ⟨0x1800010, [(112, 0x4000)], [⟨0, 4, .rw, 4⟩, ⟨4, 6, .rw, 48⟩, ⟨10, 5, .rw, 8⟩, ⟨15, 1, .rw, 0⟩]⟩,
  /- SL_RXEQ -/ ⟨0x1800014, [(112, 0x4000)], [⟨0, 2, .rw, 2⟩, ⟨2, 4, .rw, 8⟩, ⟨6, 4, .rw, 2⟩, ⟨10, 1, .rw, 0⟩]⟩,
  /- SL_RXEQ_STAT -/ ⟨0x1800018, [(112, 0x4000)], [⟨0, 1, .ro, 0⟩, ⟨1, 4, .ro, 0⟩, ⟨5, 6, .ro, 0⟩]⟩,
  /- SL_EYE_CTRL -/ ⟨0x1800020, [(112, 0x4000)], [⟨0, 6, .rw, 0⟩, ⟨6, 7, .rw, 0⟩, ⟨13, 5, .rw, 20⟩, ⟨18, 1, .wo, 0⟩]⟩,
  /- SL_EYE_STAT -/ ⟨0x1800024, [(112, 0x4000)], [⟨0, 1, .ro, 0⟩, ⟨1, 31, .ro, 0⟩]⟩,
  /- SL_PHY_LAT -/ ⟨0x1800050, [(112, 0x4000)], [⟨0, 16, .ro, 0⟩, ⟨16, 16, .ro, 0⟩]⟩,
  /- SL_EVT -/ ⟨0x1800060, [(112, 0x4000)], [⟨0, 1, .w1c, 0⟩, ⟨1, 1, .w1c, 0⟩, ⟨2, 1, .w1c, 0⟩, ⟨3, 1, .w1c, 0⟩, ⟨4, 1, .w1c, 0⟩, ⟨5, 1, .w1c, 0⟩]⟩,
  /- SL_EVT_EN -/ ⟨0x1800064, [(112, 0x4000)], [⟨0, 1, .rw, 0⟩, ⟨1, 1, .rw, 0⟩, ⟨2, 1, .rw, 0⟩, ⟨3, 1, .rw, 0⟩, ⟨4, 1, .rw, 0⟩, ⟨5, 1, .rw, 0⟩]⟩,
  /- SL_CNT -/ ⟨0x1800080, [(112, 0x4000), (6, 0x4)], [⟨0, 32, .rc, 0⟩]⟩,
  /- SL_PAT_CTRL -/ ⟨0x1800030, [(112, 0x4000)], [⟨0, 3, .rw, 0⟩, ⟨3, 3, .rw, 0⟩, ⟨6, 1, .rw, 0⟩, ⟨7, 1, .rw, 0⟩]⟩,
  /- SL_PAT_USER_LO -/ ⟨0x1800034, [(112, 0x4000)], [⟨0, 32, .rw, 0⟩]⟩,
  /- SL_PAT_USER_HI -/ ⟨0x1800038, [(112, 0x4000)], [⟨0, 32, .rw, 0⟩]⟩,
  /- SL_PAT_ERR -/ ⟨0x180003c, [(112, 0x4000)], [⟨0, 32, .rc, 0⟩]⟩]

/-- Every register of the SL block. -/
def tabSL : List RegD := tabSL0

/-- Registers of the RP block, part 1 of 3. -/
def tabRP0 : List RegD := [
  /- RP_PHY_CTRL -/ ⟨0x1c30000, [(4, 0x40000)], [⟨0, 3, .rw, 7⟩, ⟨3, 1, .rw, 0⟩, ⟨4, 2, .rw, 2⟩, ⟨8, 10, .rw, 500⟩, ⟨18, 8, .rw, 10⟩, ⟨26, 1, .wo, 0⟩, ⟨27, 1, .rw, 0⟩]⟩,
  /- RP_PHY_STAT -/ ⟨0x1c30004, [(4, 0x40000)], [⟨0, 3, .ro, 0⟩, ⟨3, 2, .ro, 0⟩, ⟨5, 1, .ro, 0⟩, ⟨6, 1, .ro, 0⟩, ⟨7, 1, .ro, 0⟩, ⟨8, 3, .ro, 0⟩, ⟨11, 1, .ro, 0⟩, ⟨12, 7, .ro, 0⟩]⟩,
  /- RP_PHY_SLEEP -/ ⟨0x1c30008, [(4, 0x40000)], [⟨0, 1, .rw, 0⟩, ⟨1, 1, .rw, 0⟩]⟩,
  /- RP_PHY_LAT -/ ⟨0x1c3000c, [(4, 0x40000)], [⟨0, 16, .ro, 0⟩, ⟨16, 16, .ro, 0⟩]⟩,
  /- RP_PHY_EVT -/ ⟨0x1c30010, [(4, 0x40000)], [⟨0, 1, .w1c, 0⟩, ⟨1, 1, .w1c, 0⟩, ⟨2, 1, .w1c, 0⟩, ⟨3, 1, .w1c, 0⟩, ⟨4, 1, .w1c, 0⟩, ⟨5, 1, .w1c, 0⟩]⟩,
  /- RP_PHY_EVT_EN -/ ⟨0x1c30014, [(4, 0x40000)], [⟨0, 1, .rw, 0⟩, ⟨1, 1, .rw, 0⟩, ⟨2, 1, .rw, 0⟩, ⟨3, 1, .rw, 0⟩, ⟨4, 1, .rw, 0⟩, ⟨5, 1, .rw, 0⟩]⟩,
  /- RP_PHY_CNT -/ ⟨0x1c30020, [(4, 0x40000), (5, 0x4)], [⟨0, 32, .rc, 0⟩]⟩,
  /- RP_LINK_CTRL -/ ⟨0x1c00000, [(4, 0x40000)], [⟨0, 1, .rw, 0⟩, ⟨1, 3, .rw, 3⟩, ⟨4, 3, .rw, 4⟩, ⟨7, 1, .rw, 1⟩, ⟨8, 1, .rw, 0⟩]⟩,
  /- RP_LINK_STAT -/ ⟨0x1c00004, [(4, 0x40000)], [⟨0, 1, .ro, 0⟩, ⟨1, 5, .ro, 31⟩, ⟨6, 10, .ro, 0⟩, ⟨16, 5, .ro, 0⟩, ⟨21, 1, .ro, 0⟩]⟩,
  /- RP_LINK_EVT -/ ⟨0x1c00008, [(4, 0x40000)], [⟨0, 1, .w1c, 0⟩, ⟨1, 1, .w1c, 0⟩, ⟨2, 1, .w1c, 0⟩]⟩,
  /- RP_LINK_EVT_EN -/ ⟨0x1c0000c, [(4, 0x40000)], [⟨0, 1, .rw, 0⟩, ⟨1, 1, .rw, 0⟩, ⟨2, 1, .rw, 0⟩]⟩,
  /- RP_XFER_ASYM -/ ⟨0x1c00010, [(4, 0x40000)], [⟨0, 32, .rw, 0⟩]⟩,
  /- RP_LINK_CNT -/ ⟨0x1c00100, [(4, 0x40000), (15, 0x4)], [⟨0, 32, .rc, 0⟩]⟩,
  /- RP_HIER_CTRL -/ ⟨0x1c20000, [], [⟨0, 1, .rw, 0⟩, ⟨1, 1, .rw, 0⟩, ⟨2, 2, .rw, 0⟩, ⟨4, 2, .rw, 0⟩, ⟨6, 1, .rw, 0⟩, ⟨7, 2, .rw, 0⟩, ⟨9, 2, .rw, 0⟩, ⟨11, 4, .rw, 6⟩, ⟨15, 8, .rw, 20⟩, ⟨23, 4, .rw, 1⟩]⟩,
  /- RP_HIER_EVT -/ ⟨0x1c20008, [], [⟨0, 1, .w1c, 0⟩, ⟨1, 1, .w1c, 0⟩, ⟨2, 1, .w1c, 0⟩, ⟨3, 1, .w1c, 0⟩, ⟨4, 1, .w1c, 0⟩, ⟨5, 1, .w1c, 0⟩, ⟨6, 1, .w1c, 0⟩]⟩,
  /- RP_HIER_EVT_EN -/ ⟨0x1c2000c, [], [⟨0, 1, .rw, 0⟩, ⟨1, 1, .rw, 0⟩, ⟨2, 1, .rw, 0⟩, ⟨3, 1, .rw, 0⟩, ⟨4, 1, .rw, 0⟩, ⟨5, 1, .rw, 0⟩, ⟨6, 1, .rw, 0⟩]⟩,
  /- RP_ROUTE -/ ⟨0x1c20100, [(32, 0x4)], [⟨0, 2, .rw, 0⟩, ⟨2, 1, .rw, 0⟩]⟩,
  /- RP_PROBE_CMD -/ ⟨0x1c20200, [], [⟨0, 2, .wo, 0⟩, ⟨2, 5, .wo, 0⟩, ⟨7, 1, .wo, 0⟩]⟩,
  /- RP_PROBE_STAT -/ ⟨0x1c20204, [], [⟨0, 1, .ro, 0⟩, ⟨1, 3, .ro, 0⟩, ⟨4, 5, .ro, 0⟩, ⟨9, 16, .ro, 0⟩]⟩,
  /- RP_RACC_CMD -/ ⟨0x1c20300, [(4, 0x10)], [⟨0, 1, .rw, 0⟩, ⟨1, 5, .rw, 0⟩, ⟨6, 1, .wo, 0⟩]⟩,
  /- RP_RACC_STAT -/ ⟨0x1c2030c, [(4, 0x10)], [⟨0, 1, .ro, 0⟩, ⟨1, 2, .ro, 0⟩]⟩,
  /- RP_GOP_CTRL -/ ⟨0x1c20500, [], [⟨0, 2, .rw, 0⟩, ⟨2, 1, .rw, 0⟩, ⟨3, 1, .wo, 0⟩, ⟨4, 1, .wo, 0⟩]⟩,
  /- RP_GOP_HOP -/ ⟨0x1c20514, [], [⟨0, 16, .rw, 0x5dc⟩, ⟨16, 2, .rw, 2⟩]⟩,
  /- RP_GOP_STAT -/ ⟨0x1c20518, [], [⟨0, 3, .ro, 0⟩, ⟨3, 8, .ro, 0⟩, ⟨11, 5, .ro, 0⟩, ⟨16, 8, .ro, 0⟩]⟩]

/-- Registers of the RP block, part 2 of 3. -/
def tabRP1 : List RegD := [
  /- RP_SNAP_TIME -/ ⟨0x1c20610, [(4, 0x4)], [⟨0, 32, .ro, 0⟩]⟩,
  /- RP_LANE_STAT -/ ⟨0x1c30108, [(4, 0x40000), (2, 0x100)], [⟨0, 1, .ro, 0⟩, ⟨1, 1, .ro, 0⟩, ⟨2, 1, .ro, 0⟩, ⟨3, 1, .ro, 0⟩, ⟨4, 1, .ro, 0⟩, ⟨5, 1, .ro, 0⟩, ⟨6, 1, .ro, 0⟩, ⟨7, 1, .ro, 0⟩, ⟨8, 1, .ro, 0⟩]⟩,
  /- RP_LANE_TXEQ -/ ⟨0x1c30110, [(4, 0x40000), (2, 0x100)], [⟨0, 4, .rw, 4⟩, ⟨4, 6, .rw, 48⟩, ⟨10, 5, .rw, 8⟩, ⟨15, 1, .rw, 0⟩]⟩,
  /- RP_LANE_RXEQ -/ ⟨0x1c30114, [(4, 0x40000), (2, 0x100)], [⟨0, 2, .rw, 2⟩, ⟨2, 4, .rw, 8⟩, ⟨6, 4, .rw, 2⟩, ⟨10, 1, .rw, 0⟩]⟩,
  /- RP_LANE_RXEQ_STAT -/ ⟨0x1c30118, [(4, 0x40000), (2, 0x100)], [⟨0, 1, .ro, 0⟩, ⟨1, 4, .ro, 0⟩, ⟨5, 6, .ro, 0⟩]⟩,
  /- RP_LANE_EYE_CTRL -/ ⟨0x1c30120, [(4, 0x40000), (2, 0x100)], [⟨0, 6, .rw, 0⟩, ⟨6, 7, .rw, 0⟩, ⟨13, 5, .rw, 20⟩, ⟨18, 1, .wo, 0⟩]⟩,
  /- RP_LANE_EYE_STAT -/ ⟨0x1c30124, [(4, 0x40000), (2, 0x100)], [⟨0, 1, .ro, 0⟩, ⟨1, 31, .ro, 0⟩]⟩,
  /- RP_LANE_PAT_CTRL -/ ⟨0x1c30130, [(4, 0x40000), (2, 0x100)], [⟨0, 3, .rw, 0⟩, ⟨3, 3, .rw, 0⟩, ⟨6, 1, .rw, 0⟩, ⟨7, 1, .rw, 0⟩]⟩,
  /- RP_LANE_PAT_USER_LO -/ ⟨0x1c30134, [(4, 0x40000), (2, 0x100)], [⟨0, 32, .rw, 0⟩]⟩,
  /- RP_LANE_PAT_USER_HI -/ ⟨0x1c30138, [(4, 0x40000), (2, 0x100)], [⟨0, 32, .rw, 0⟩]⟩,
  /- RP_LANE_PAT_ERR -/ ⟨0x1c3013c, [(4, 0x40000), (2, 0x100)], [⟨0, 32, .rc, 0⟩]⟩,
  /- RP_HIER_STAT -/ ⟨0x1c20004, [], [⟨0, 1, .ro, 0⟩, ⟨1, 1, .ro, 0⟩, ⟨2, 5, .ro, 31⟩, ⟨7, 2, .ro, 0⟩, ⟨9, 5, .ro, 31⟩, ⟨14, 1, .ro, 0⟩, ⟨15, 1, .ro, 0⟩, ⟨16, 2, .ro, 0⟩, ⟨18, 2, .ro, 0⟩]⟩,
  /- RP_PROBE_SERIAL_LO -/ ⟨0x1c20208, [], [⟨0, 32, .ro, 0⟩]⟩,
  /- RP_PROBE_SERIAL_HI -/ ⟨0x1c2020c, [], [⟨0, 32, .ro, 0⟩]⟩,
  /- RP_RACC_ADDR -/ ⟨0x1c20304, [(4, 0x10)], [⟨0, 25, .rw, 0⟩]⟩,
  /- RP_RACC_DATA -/ ⟨0x1c20308, [(4, 0x10)], [⟨0, 32, .rw, 0⟩]⟩,
  /- RP_DEV_EVT -/ ⟨0x1c20400, [(32, 0x4)], [⟨0, 16, .w1c, 0⟩]⟩,
  /- RP_EVT_PEND -/ ⟨0x1c20480, [], [⟨0, 32, .ro, 0⟩]⟩,
  /- RP_GOP_SEC -/ ⟨0x1c20504, [], [⟨0, 32, .rw, 0⟩]⟩,
  /- RP_GOP_NS -/ ⟨0x1c20508, [], [⟨0, 30, .rw, 0⟩]⟩,
  /- RP_GOP_GEN -/ ⟨0x1c2050c, [], [⟨0, 32, .rw, 0⟩]⟩,
  /- RP_GOP_ROSTER -/ ⟨0x1c20510, [], [⟨0, 32, .rw, 0⟩]⟩,
  /- RP_GOP_DONE_MASK -/ ⟨0x1c2051c, [], [⟨0, 32, .ro, 0⟩]⟩,
  /- RP_GOP_CANCEL_MASK -/ ⟨0x1c20520, [], [⟨0, 32, .ro, 0⟩]⟩]

/-- Registers of the RP block, part 3 of 3. -/
def tabRP2 : List RegD := [
  /- RP_SNAP_SEL -/ ⟨0x1c20600, [], [⟨0, 9, .rw, 0⟩]⟩,
  /- RP_SNAP_STAT -/ ⟨0x1c20604, [], [⟨0, 16, .ro, 0⟩, ⟨16, 1, .ro, 0⟩]⟩,
  /- RP_SNAP_DATA_LO -/ ⟨0x1c20700, [(27, 0x8)], [⟨0, 32, .ro, 0⟩]⟩,
  /- RP_SNAP_DATA_HI -/ ⟨0x1c20704, [(27, 0x8)], [⟨0, 16, .ro, 0⟩]⟩]

/-- Every register of the RP block. -/
def tabRP : List RegD := tabRP0 ++ tabRP1 ++ tabRP2

/-- Registers of the HIF block, part 1 of 2. -/
def tabHIF0 : List RegD := [
  /- HIF_STARVE -/ ⟨0x1d00000, [], [⟨0, 20, .rw, 100⟩]⟩,
  /- HIF_IRQ_RESEND -/ ⟨0x1d00004, [], [⟨0, 16, .rw, 100⟩]⟩,
  /- HIF_EVT -/ ⟨0x1d00010, [], [⟨0, 1, .w1c, 0⟩, ⟨1, 1, .w1c, 0⟩, ⟨2, 1, .w1c, 0⟩, ⟨3, 1, .w1c, 0⟩]⟩,
  /- HIF_EVT_EN -/ ⟨0x1d00014, [], [⟨0, 1, .rw, 0⟩, ⟨1, 1, .rw, 0⟩, ⟨2, 1, .rw, 0⟩, ⟨3, 1, .rw, 0⟩]⟩,
  /- HIF_CNT -/ ⟨0x1d00020, [(2, 0x4)], [⟨0, 32, .rc, 0⟩]⟩,
  /- HIF_HPORT -/ ⟨0x1d00040, [(4, 0x4)], [⟨0, 8, .rw, 0⟩]⟩,
  /- HIF_IRQ_ROUTE -/ ⟨0x1d00080, [(16, 0x4)], [⟨0, 4, .rw, 0⟩, ⟨4, 4, .rw, 0⟩, ⟨8, 1, .rw, 0⟩, ⟨9, 1, .rw, 1⟩]⟩,
  /- HIF_PCIE_STAT -/ ⟨0x1d000c0, [], [⟨0, 1, .ro, 0⟩, ⟨1, 3, .ro, 0⟩, ⟨4, 3, .ro, 0⟩, ⟨7, 1, .ro, 0⟩]⟩,
  /- HIF_DOM_CFG -/ ⟨0x1d00100, [(16, 0x20)], [⟨0, 2, .rw, 0⟩, ⟨2, 1, .rw, 0⟩]⟩,
  /- HIF_DOM_POLL -/ ⟨0x1d00104, [(16, 0x20)], [⟨0, 20, .rw, 0x3e8⟩]⟩,
  /- HIF_DOM_STAT -/ ⟨0x1d00118, [(16, 0x20)], [⟨0, 16, .ro, 0⟩, ⟨16, 1, .ro, 0⟩, ⟨17, 1, .w1c, 0⟩]⟩,
  /- HIF_RING_CFG -/ ⟨0x1d01000, [(256, 0x20)], [⟨0, 3, .rw, 0⟩, ⟨3, 5, .rw, 6⟩, ⟨8, 2, .rw, 0⟩, ⟨10, 2, .rw, 0⟩, ⟨12, 1, .rw, 0⟩, ⟨13, 8, .rw, 0⟩, ⟨21, 1, .rw, 0⟩, ⟨22, 1, .rw, 0⟩]⟩,
  /- HIF_RING_BUF -/ ⟨0x1d0100c, [(256, 0x20)], [⟨0, 15, .rw, 0x800⟩]⟩,
  /- HIF_RING_IRQ -/ ⟨0x1d01010, [(256, 0x20)], [⟨0, 4, .rw, 0⟩, ⟨4, 1, .rw, 0⟩, ⟨8, 8, .rw, 1⟩, ⟨16, 16, .rw, 0⟩]⟩,
  /- HIF_RING_CTRL -/ ⟨0x1d01014, [(256, 0x20)], [⟨0, 1, .rw, 0⟩]⟩,
  /- HIF_RING_STAT -/ ⟨0x1d01018, [(256, 0x20)], [⟨0, 8, .ro, 0⟩, ⟨8, 1, .ro, 0⟩, ⟨9, 1, .ro, 0⟩]⟩,
  /- HIF_RING_ERR_IDX -/ ⟨0x1d03000, [(256, 0x4)], [⟨0, 32, .ro, 0⟩]⟩,
  /- HIF_RING_CNT -/ ⟨0x1d04000, [(256, 0x10), (4, 0x4)], [⟨0, 32, .rc, 0⟩]⟩,
  /- HIF_DOM_DB_LO -/ ⟨0x1d00108, [(16, 0x20)], [⟨0, 32, .rw, 0⟩]⟩,
  /- HIF_DOM_DB_HI -/ ⟨0x1d0010c, [(16, 0x20)], [⟨0, 32, .rw, 0⟩]⟩,
  /- HIF_DOM_ST_LO -/ ⟨0x1d00110, [(16, 0x20)], [⟨0, 32, .rw, 0⟩]⟩,
  /- HIF_DOM_ST_HI -/ ⟨0x1d00114, [(16, 0x20)], [⟨0, 32, .rw, 0⟩]⟩,
  /- HIF_RING_BASE_LO -/ ⟨0x1d01004, [(256, 0x20)], [⟨0, 32, .rw, 0⟩]⟩,
  /- HIF_RING_BASE_HI -/ ⟨0x1d01008, [(256, 0x20)], [⟨0, 32, .rw, 0⟩]⟩]

/-- Registers of the HIF block, part 2 of 2. -/
def tabHIF1 : List RegD := [
  /- HIF_RING_IDX -/ ⟨0x1d0101c, [(256, 0x20)], [⟨0, 32, .rw, 0⟩]⟩]

/-- Every register of the HIF block. -/
def tabHIF : List RegD := tabHIF0 ++ tabHIF1

/-- Registers of the DMC block, part 1 of 2. -/
def tabDMC0 : List RegD := [
  /- DMC_CTRL -/ ⟨0x1e00000, [], [⟨0, 1, .rw, 0⟩, ⟨1, 1, .wo, 0⟩, ⟨2, 1, .rw, 0⟩, ⟨3, 2, .rw, 3⟩, ⟨5, 3, .rw, 2⟩]⟩,
  /- DMC_STAT -/ ⟨0x1e00004, [], [⟨0, 3, .ro, 0⟩, ⟨8, 4, .ro, 0⟩, ⟨12, 4, .ro, 0⟩, ⟨16, 1, .ro, 0⟩]⟩,
  /- DMC_WQ -/ ⟨0x1e00008, [], [⟨0, 7, .rw, 48⟩, ⟨7, 7, .rw, 16⟩]⟩,
  /- DMC_URG -/ ⟨0x1e0000c, [], [⟨0, 10, .rw, 400⟩, ⟨10, 10, .rw, 200⟩, ⟨20, 10, .rw, 100⟩]⟩,
  /- DMC_REF -/ ⟨0x1e00010, [], [⟨0, 13, .rw, 0xf42⟩, ⟨13, 9, .rw, 280⟩, ⟨22, 5, .rw, 16⟩]⟩,
  /- DMC_RH -/ ⟨0x1e00014, [], [⟨0, 16, .rw, 0x800⟩, ⟨16, 1, .rw, 0⟩, ⟨17, 1, .rw, 0⟩]⟩,
  /- DMC_RETRAIN -/ ⟨0x1e00018, [], [⟨0, 10, .rw, 256⟩]⟩,
  /- DMC_PORT_REG0 -/ ⟨0x1e00044, [], [⟨0, 9, .rw, 200⟩, ⟨9, 16, .rw, 64⟩]⟩,
  /- DMC_PORT_REG1 -/ ⟨0x1e00048, [], [⟨0, 9, .rw, 200⟩, ⟨9, 16, .rw, 64⟩]⟩,
  /- DMC_PORT_REG2 -/ ⟨0x1e0004c, [], [⟨0, 9, .rw, 80⟩, ⟨9, 16, .rw, 64⟩]⟩,
  /- DMC_PORT_REG3 -/ ⟨0x1e00050, [], [⟨0, 9, .rw, 20⟩, ⟨9, 16, .rw, 64⟩]⟩,
  /- DMC_PORT_REG4 -/ ⟨0x1e00054, [], [⟨0, 9, .rw, 1⟩, ⟨9, 16, .rw, 64⟩]⟩,
  /- DMC_PORT_REG -/ ⟨0x1e00044, [(5, 0x4)], [⟨0, 9, .rw, 0⟩, ⟨9, 16, .rw, 64⟩]⟩,
  /- DMC_BAD_ADDR_CNT -/ ⟨0x1e00068, [], [⟨0, 32, .rc, 0⟩]⟩,
  /- DMC_EVT -/ ⟨0x1e00070, [], [⟨0, 1, .w1c, 0⟩, ⟨1, 1, .w1c, 0⟩, ⟨2, 1, .w1c, 0⟩, ⟨3, 1, .w1c, 0⟩, ⟨4, 1, .w1c, 0⟩, ⟨5, 1, .w1c, 0⟩]⟩,
  /- DMC_EVT_EN -/ ⟨0x1e00074, [], [⟨0, 1, .rw, 0⟩, ⟨1, 1, .rw, 0⟩, ⟨2, 1, .rw, 0⟩, ⟨3, 1, .rw, 0⟩, ⟨4, 1, .rw, 0⟩, ⟨5, 1, .rw, 0⟩]⟩,
  /- DMC_CH_STAT -/ ⟨0x1e00100, [(4, 0x10)], [⟨0, 4, .ro, 0⟩, ⟨4, 1, .ro, 0⟩, ⟨5, 5, .ro, 0⟩, ⟨10, 1, .ro, 0⟩, ⟨11, 7, .ro, 0⟩, ⟨18, 7, .ro, 0⟩, ⟨25, 1, .ro, 0⟩]⟩,
  /- DMC_CNT -/ ⟨0x1e00200, [(4, 0x40), (12, 0x4)], [⟨0, 32, .rc, 0⟩]⟩,
  /- DMC_RGN_SIDING_BASE -/ ⟨0x1e00020, [], [⟨0, 15, .rw, 0⟩]⟩,
  /- DMC_RGN_SIDING_SIZE -/ ⟨0x1e00024, [], [⟨0, 15, .rw, 0⟩]⟩,
  /- DMC_RGN_BREW_BASE -/ ⟨0x1e00028, [], [⟨0, 15, .rw, 0⟩]⟩,
  /- DMC_RGN_BREW_SIZE -/ ⟨0x1e0002c, [], [⟨0, 15, .rw, 0⟩]⟩,
  /- DMC_RGN_TABLE_BASE -/ ⟨0x1e00030, [], [⟨0, 15, .rw, 0⟩]⟩,
  /- DMC_RGN_TABLE_SIZE -/ ⟨0x1e00034, [], [⟨0, 15, .rw, 0⟩]⟩]

/-- Registers of the DMC block, part 2 of 2. -/
def tabDMC1 : List RegD := [
  /- DMC_UE_ADDR_LO -/ ⟨0x1e00060, [], [⟨0, 32, .ro, 0⟩]⟩,
  /- DMC_UE_ADDR_HI -/ ⟨0x1e00064, [], [⟨0, 3, .ro, 0⟩, ⟨3, 3, .ro, 0⟩]⟩]

/-- Every register of the DMC block. -/
def tabDMC : List RegD := tabDMC0 ++ tabDMC1

/-- Registers of the CPX block, part 1 of 1. -/
def tabCPX0 : List RegD := [
  /- CPX_TND_CTRL -/ ⟨0x1f01000, [], [⟨0, 1, .wo, 0⟩]⟩,
  /- CPX_TND_STAT -/ ⟨0x1f01004, [], [⟨0, 1, .ro, 0⟩, ⟨1, 1, .w1c, 0⟩, ⟨16, 16, .ro, 0⟩]⟩]

/-- Every register of the CPX block. -/
def tabCPX : List RegD := tabCPX0

/-- The registers of the block whose span (R39) holds the address. -/
def table (a : Nat) : List RegD :=
  if a ≤ 0xffff then tabCHIPCAP
  else if 0x10000 ≤ a ∧ a ≤ 0x1ffff then tabGEN
  else if 0x20000 ≤ a ∧ a ≤ 0x2ffff then tabPWR
  else if 0x30000 ≤ a ∧ a ≤ 0x3ffff then tabTRU
  else if 0x40000 ≤ a ∧ a ≤ 0x4ffff then tabCVU
  else if 0x50000 ≤ a ∧ a ≤ 0x5ffff then tabDBG
  else if 0x80000 ≤ a ∧ a ≤ 0x8ffff then tabTIM
  else if 0x100000 ≤ a ∧ a ≤ 0x1fffff then tabLN
  else if 0x200000 ≤ a ∧ a ≤ 0x2fffff then tabCPH
  else if 0x300000 ≤ a ∧ a ≤ 0x7fffff then tabPCL
  else if 0x800000 ≤ a ∧ a ≤ 0xffffff then tabTMG
  else if 0x1000000 ≤ a ∧ a ≤ 0x16fffff then tabSM
  else if 0x1800000 ≤ a ∧ a ≤ 0x19bffff then tabSL
  else if 0x1c00000 ≤ a ∧ a ≤ 0x1cfffff then tabRP
  else if 0x1d00000 ≤ a ∧ a ≤ 0x1dfffff then tabHIF
  else if 0x1e00000 ≤ a ∧ a ≤ 0x1efffff then tabDMC
  else if 0x1f00000 ≤ a ∧ a ≤ 0x1ffffff then tabCPX
  else []

/-- The register at the byte address `a`, if the chapters define one there. -/
def find (a : Nat) : Option RegD := (table a).find? (fun r => r.hit a)

/-- The reset value of the field with this storage key (R44); 0 where the tables name none. -/
def rst (k : Nat) : Nat :=
  match find (k / 32) with
  | none => 0
  | some r => match r.fields.find? (fun f => f.lo == k % 32) with
    | none => 0
    | some f => f.rst

/-! ### The fields by name -/

def CHIPCAP_ID.PART : Fld := ⟨0x0, 16, 16⟩
def CHIPCAP_ID.REV : Fld := ⟨0x0, 8, 8⟩
/-- byte address -/ def CHIPCAP_ID.ADR : Nat := 0x0
def CHIPCAP_VENDOR.VENDOR : Fld := ⟨0x4, 0, 32⟩
/-- byte address -/ def CHIPCAP_VENDOR.ADR : Nat := 0x4
def CHIPCAP_UNITS0.LN_MASK : Fld := ⟨0x10, 0, 4⟩
def CHIPCAP_UNITS0.TENDER : Fld := ⟨0x10, 4, 1⟩
def CHIPCAP_UNITS0.COACH : Fld := ⟨0x10, 5, 1⟩
def CHIPCAP_UNITS0.BOND : Fld := ⟨0x10, 6, 1⟩
def CHIPCAP_UNITS0.PROT_B : Fld := ⟨0x10, 7, 1⟩
def CHIPCAP_UNITS0.CPH_LINE : Fld := ⟨0x10, 8, 1⟩
def CHIPCAP_UNITS0.CPH_RISER : Fld := ⟨0x10, 9, 1⟩
def CHIPCAP_UNITS0.SIDING : Fld := ⟨0x10, 10, 1⟩
def CHIPCAP_UNITS0.PCIE : Fld := ⟨0x10, 11, 1⟩
def CHIPCAP_UNITS0.PM_HIST : Fld := ⟨0x10, 12, 1⟩
def CHIPCAP_UNITS0.PCL : Fld := ⟨0x10, 13, 1⟩
def CHIPCAP_UNITS0.TMG : Fld := ⟨0x10, 14, 1⟩
def CHIPCAP_UNITS0.TIM : Fld := ⟨0x10, 15, 1⟩
def CHIPCAP_UNITS0.CVU : Fld := ⟨0x10, 16, 1⟩
def CHIPCAP_UNITS0.DBG : Fld := ⟨0x10, 17, 1⟩
def CHIPCAP_UNITS0.TRU : Fld := ⟨0x10, 18, 1⟩
def CHIPCAP_UNITS0.CREMA : Fld := ⟨0x10, 19, 1⟩
def CHIPCAP_UNITS0.HIF : Fld := ⟨0x10, 20, 1⟩
def CHIPCAP_UNITS0.CPX : Fld := ⟨0x10, 21, 1⟩
/-- byte address -/ def CHIPCAP_UNITS0.ADR : Nat := 0x10
def CHIPCAP_UNITS1.RP_MASK : Fld := ⟨0x14, 0, 4⟩
def CHIPCAP_UNITS1.DMC_MASK : Fld := ⟨0x14, 4, 4⟩
def CHIPCAP_UNITS1.BREW_MASK : Fld := ⟨0x14, 8, 8⟩
def CHIPCAP_UNITS1.CPH_CORES : Fld := ⟨0x14, 16, 4⟩
/-- byte address -/ def CHIPCAP_UNITS1.ADR : Nat := 0x14
def CHIPCAP_SL_MASK.LANES (g : Nat) : Fld := ⟨0x20 + g * 0x4, 0, 28⟩
/-- byte address -/ def CHIPCAP_SL_MASK.ADR (g : Nat) : Nat := 0x20 + g * 0x4
def CHIPCAP_BUS_STAT.UNMAPPED_CNT : Fld := ⟨0x40, 0, 16⟩
def CHIPCAP_BUS_STAT.NARROW_CNT : Fld := ⟨0x40, 16, 16⟩
/-- byte address -/ def CHIPCAP_BUS_STAT.ADR : Nat := 0x40
def CHIPCAP_BUS_ADDR.ADDR : Fld := ⟨0x44, 0, 25⟩
def CHIPCAP_BUS_ADDR.KIND : Fld := ⟨0x44, 25, 1⟩
def CHIPCAP_BUS_ADDR.MASTER : Fld := ⟨0x44, 26, 2⟩
def CHIPCAP_BUS_ADDR.BOTH : Fld := ⟨0x44, 28, 1⟩
/-- byte address -/ def CHIPCAP_BUS_ADDR.ADR : Nat := 0x44
def CHIPCAP_RST_CAUSE.CREMA_POR : Fld := ⟨0x50, 0, 1⟩
def CHIPCAP_RST_CAUSE.COLD : Fld := ⟨0x50, 1, 1⟩
def CHIPCAP_RST_CAUSE.PIN : Fld := ⟨0x50, 2, 1⟩
def CHIPCAP_RST_CAUSE.SOFT : Fld := ⟨0x50, 3, 1⟩
def CHIPCAP_RST_CAUSE.WATCHDOG : Fld := ⟨0x50, 4, 1⟩
def CHIPCAP_RST_CAUSE.THERMAL : Fld := ⟨0x50, 5, 1⟩
def CHIPCAP_RST_CAUSE.HIER : Fld := ⟨0x50, 6, 1⟩
def CHIPCAP_RST_CAUSE.DEBUG : Fld := ⟨0x50, 7, 1⟩
/-- byte address -/ def CHIPCAP_RST_CAUSE.ADR : Nat := 0x50
def CHIPCAP_RST_CTRL.CHIP : Fld := ⟨0x54, 0, 1⟩
def CHIPCAP_RST_CTRL.KEY : Fld := ⟨0x54, 16, 16⟩
/-- byte address -/ def CHIPCAP_RST_CTRL.ADR : Nat := 0x54
def CHIPCAP_BLOCK_RST.LN : Fld := ⟨0x58, 0, 4⟩
def CHIPCAP_BLOCK_RST.RP : Fld := ⟨0x58, 4, 4⟩
def CHIPCAP_BLOCK_RST.CPH : Fld := ⟨0x58, 8, 1⟩
def CHIPCAP_BLOCK_RST.HIF : Fld := ⟨0x58, 9, 1⟩
/-- byte address -/ def CHIPCAP_BLOCK_RST.ADR : Nat := 0x58
def LN_CTRL.RX_EN (n : Nat) : Fld := ⟨0x100000 + n * 0x40000, 0, 1⟩
def LN_CTRL.SD_POL (n : Nat) : Fld := ⟨0x100000 + n * 0x40000, 1, 1⟩
/-- byte address -/ def LN_CTRL.ADR (n : Nat) : Nat := 0x100000 + n * 0x40000
def LN_RX_LAT.LAT (n : Nat) : Fld := ⟨0x100004 + n * 0x40000, 0, 16⟩
/-- byte address -/ def LN_RX_LAT.ADR (n : Nat) : Nat := 0x100004 + n * 0x40000
def LN_EQ_CTRL.ADAPT (n : Nat) : Fld := ⟨0x100010 + n * 0x40000, 0, 2⟩
def LN_EQ_CTRL.MAIN_TAP (n : Nat) : Fld := ⟨0x100010 + n * 0x40000, 2, 5⟩
def LN_EQ_CTRL.RSSD_EN (n : Nat) : Fld := ⟨0x100010 + n * 0x40000, 7, 1⟩
def LN_EQ_CTRL.DFE_EN (n : Nat) : Fld := ⟨0x100010 + n * 0x40000, 8, 1⟩
def LN_EQ_CTRL.PRESET (n : Nat) : Fld := ⟨0x100010 + n * 0x40000, 9, 1⟩
def LN_EQ_CTRL.ACQ_TIME (n : Nat) : Fld := ⟨0x100010 + n * 0x40000, 12, 4⟩
def LN_EQ_CTRL.MU_FFE (n : Nat) : Fld := ⟨0x100010 + n * 0x40000, 16, 4⟩
def LN_EQ_CTRL.MU_DFE (n : Nat) : Fld := ⟨0x100010 + n * 0x40000, 20, 4⟩
/-- byte address -/ def LN_EQ_CTRL.ADR (n : Nat) : Nat := 0x100010 + n * 0x40000
def LN_EQ_STAT.CDR_LOCK (n : Nat) : Fld := ⟨0x100018 + n * 0x40000, 0, 1⟩
def LN_EQ_STAT.ADAPT_DONE (n : Nat) : Fld := ⟨0x100018 + n * 0x40000, 1, 1⟩
def LN_EQ_STAT.AGC (n : Nat) : Fld := ⟨0x100018 + n * 0x40000, 2, 8⟩
/-- byte address -/ def LN_EQ_STAT.ADR (n : Nat) : Nat := 0x100018 + n * 0x40000
def LN_SYNC_CTRL.HUNT_TOL (n : Nat) : Fld := ⟨0x100020 + n * 0x40000, 0, 3⟩
def LN_SYNC_CTRL.SYNC_TOL (n : Nat) : Fld := ⟨0x100020 + n * 0x40000, 3, 3⟩
def LN_SYNC_CTRL.HEC_ACCEPT (n : Nat) : Fld := ⟨0x100020 + n * 0x40000, 6, 1⟩
def LN_SYNC_CTRL.CONFIRM_N (n : Nat) : Fld := ⟨0x100020 + n * 0x40000, 7, 3⟩
def LN_SYNC_CTRL.LOSS_M (n : Nat) : Fld := ⟨0x100020 + n * 0x40000, 10, 3⟩
def LN_SYNC_CTRL.HUNT_RESTART (n : Nat) : Fld := ⟨0x100020 + n * 0x40000, 13, 1⟩
/-- byte address -/ def LN_SYNC_CTRL.ADR (n : Nat) : Nat := 0x100020 + n * 0x40000
def LN_SYNC_STAT.STATE (n : Nat) : Fld := ⟨0x100024 + n * 0x40000, 0, 2⟩
def LN_SYNC_STAT.CANDS (n : Nat) : Fld := ⟨0x100024 + n * 0x40000, 2, 3⟩
def LN_SYNC_STAT.MISS_RUN (n : Nat) : Fld := ⟨0x100024 + n * 0x40000, 8, 8⟩
/-- byte address -/ def LN_SYNC_STAT.ADR (n : Nat) : Nat := 0x100024 + n * 0x40000
def LN_TRACE_CTRL.RAISE_N (n : Nat) : Fld := ⟨0x100030 + n * 0x40000, 0, 4⟩
def LN_TRACE_CTRL.CLEAR_N (n : Nat) : Fld := ⟨0x100030 + n * 0x40000, 4, 4⟩
def LN_TRACE_CTRL.PONID_EN (n : Nat) : Fld := ⟨0x100030 + n * 0x40000, 8, 1⟩
def LN_TRACE_CTRL.CPROF_EN (n : Nat) : Fld := ⟨0x100030 + n * 0x40000, 9, 1⟩
/-- byte address -/ def LN_TRACE_CTRL.ADR (n : Nat) : Nat := 0x100030 + n * 0x40000
def LN_CPROF.EXP (n : Nat) : Fld := ⟨0x10004c + n * 0x40000, 0, 16⟩
def LN_CPROF.RX (n : Nat) : Fld := ⟨0x10004c + n * 0x40000, 16, 16⟩
/-- byte address -/ def LN_CPROF.ADR (n : Nat) : Nat := 0x10004c + n * 0x40000
def LN_XGEM_CTRL.MAX_SDU (n : Nat) : Fld := ⟨0x100050 + n * 0x40000, 0, 14⟩
def LN_XGEM_CTRL.HEC_ACCEPT (n : Nat) : Fld := ⟨0x100050 + n * 0x40000, 14, 1⟩
/-- byte address -/ def LN_XGEM_CTRL.ADR (n : Nat) : Nat := 0x100050 + n * 0x40000
def LN_SD_CTRL.SD_HOLD (n : Nat) : Fld := ⟨0x100060 + n * 0x40000, 0, 8⟩
def LN_SD_CTRL.SD_CLR (n : Nat) : Fld := ⟨0x100060 + n * 0x40000, 8, 8⟩
def LN_SD_CTRL.UCW_N (n : Nat) : Fld := ⟨0x100060 + n * 0x40000, 16, 8⟩
def LN_SD_CTRL.UCW_CLR (n : Nat) : Fld := ⟨0x100060 + n * 0x40000, 24, 8⟩
/-- byte address -/ def LN_SD_CTRL.ADR (n : Nat) : Nat := 0x100060 + n * 0x40000
def LN_BER_CTRL.SD_MANT (n : Nat) : Fld := ⟨0x100064 + n * 0x40000, 0, 4⟩
def LN_BER_CTRL.SD_EXP (n : Nat) : Fld := ⟨0x100064 + n * 0x40000, 4, 4⟩
def LN_BER_CTRL.SF_MANT (n : Nat) : Fld := ⟨0x100064 + n * 0x40000, 8, 4⟩
def LN_BER_CTRL.SF_EXP (n : Nat) : Fld := ⟨0x100064 + n * 0x40000, 12, 4⟩
def LN_BER_CTRL.CLR_S (n : Nat) : Fld := ⟨0x100064 + n * 0x40000, 16, 4⟩
/-- byte address -/ def LN_BER_CTRL.ADR (n : Nat) : Nat := 0x100064 + n * 0x40000
def LN_EVT.SYNC_GAIN (n : Nat) : Fld := ⟨0x100068 + n * 0x40000, 0, 1⟩
def LN_EVT.SYNC_LOSS (n : Nat) : Fld := ⟨0x100068 + n * 0x40000, 1, 1⟩
def LN_EVT.SFC_JUMP (n : Nat) : Fld := ⟨0x100068 + n * 0x40000, 2, 1⟩
def LN_EVT.XPORT_DUP (n : Nat) : Fld := ⟨0x100068 + n * 0x40000, 3, 1⟩
def LN_EVT.PM1_TICK (n : Nat) : Fld := ⟨0x100068 + n * 0x40000, 4, 1⟩
def LN_EVT.PM15_CLOSE (n : Nat) : Fld := ⟨0x100068 + n * 0x40000, 5, 1⟩
def LN_EVT.PM24_CLOSE (n : Nat) : Fld := ⟨0x100068 + n * 0x40000, 6, 1⟩
def LN_EVT.XPORT_BAD (n : Nat) : Fld := ⟨0x100068 + n * 0x40000, 7, 1⟩
def LN_EVT.CAND_OVF (n : Nat) : Fld := ⟨0x100068 + n * 0x40000, 8, 1⟩
/-- byte address -/ def LN_EVT.ADR (n : Nat) : Nat := 0x100068 + n * 0x40000
def LN_EVT_EN.SYNC_GAIN (n : Nat) : Fld := ⟨0x10006c + n * 0x40000, 0, 1⟩
def LN_EVT_EN.SYNC_LOSS (n : Nat) : Fld := ⟨0x10006c + n * 0x40000, 1, 1⟩
def LN_EVT_EN.SFC_JUMP (n : Nat) : Fld := ⟨0x10006c + n * 0x40000, 2, 1⟩
def LN_EVT_EN.XPORT_DUP (n : Nat) : Fld := ⟨0x10006c + n * 0x40000, 3, 1⟩
def LN_EVT_EN.PM1_TICK (n : Nat) : Fld := ⟨0x10006c + n * 0x40000, 4, 1⟩
def LN_EVT_EN.PM15_CLOSE (n : Nat) : Fld := ⟨0x10006c + n * 0x40000, 5, 1⟩
def LN_EVT_EN.PM24_CLOSE (n : Nat) : Fld := ⟨0x10006c + n * 0x40000, 6, 1⟩
def LN_EVT_EN.XPORT_BAD (n : Nat) : Fld := ⟨0x10006c + n * 0x40000, 7, 1⟩
def LN_EVT_EN.CAND_OVF (n : Nat) : Fld := ⟨0x10006c + n * 0x40000, 8, 1⟩
/-- byte address -/ def LN_EVT_EN.ADR (n : Nat) : Nat := 0x10006c + n * 0x40000
def LN_XPORT.PORT_ID (n i : Nat) : Fld := ⟨0x101000 + n * 0x40000 + i * 0x4, 0, 16⟩
def LN_XPORT.VALID (n i : Nat) : Fld := ⟨0x101000 + n * 0x40000 + i * 0x4, 16, 1⟩
def LN_XPORT.KIND (n i : Nat) : Fld := ⟨0x101000 + n * 0x40000 + i * 0x4, 17, 2⟩
/-- byte address -/ def LN_XPORT.ADR (n i : Nat) : Nat := 0x101000 + n * 0x40000 + i * 0x4
def LN_PM1_STAT.SUSPECT (n : Nat) : Fld := ⟨0x1002f0 + n * 0x40000, 0, 1⟩
def LN_PM1_STAT.DEF_SEEN (n : Nat) : Fld := ⟨0x1002f0 + n * 0x40000, 1, 9⟩
def LN_PM1_STAT.SEQ (n : Nat) : Fld := ⟨0x1002f0 + n * 0x40000, 16, 16⟩
/-- byte address -/ def LN_PM1_STAT.ADR (n : Nat) : Nat := 0x1002f0 + n * 0x40000
def LN_PM_CTRL.DAY_OFS (n : Nat) : Fld := ⟨0x100300 + n * 0x40000, 0, 17⟩
def LN_PM_CTRL.SES_N (n : Nat) : Fld := ⟨0x100300 + n * 0x40000, 20, 12⟩
/-- byte address -/ def LN_PM_CTRL.ADR (n : Nat) : Nat := 0x100300 + n * 0x40000
def LN_PM_SEL.KIND (n : Nat) : Fld := ⟨0x100304 + n * 0x40000, 0, 1⟩
def LN_PM_SEL.INDEX (n : Nat) : Fld := ⟨0x100304 + n * 0x40000, 1, 6⟩
/-- byte address -/ def LN_PM_SEL.ADR (n : Nat) : Nat := 0x100304 + n * 0x40000
def LN_PM_FLAGS.VALID (n : Nat) : Fld := ⟨0x1004f0 + n * 0x40000, 0, 1⟩
def LN_PM_FLAGS.SUSPECT (n : Nat) : Fld := ⟨0x1004f0 + n * 0x40000, 1, 1⟩
def LN_PM_FLAGS.ROLLED (n : Nat) : Fld := ⟨0x1004f0 + n * 0x40000, 2, 1⟩
/-- byte address -/ def LN_PM_FLAGS.ADR (n : Nat) : Nat := 0x1004f0 + n * 0x40000
def LN_ACT_CTRL.EN (n : Nat) : Fld := ⟨0x120000 + n * 0x40000, 0, 1⟩
def LN_ACT_CTRL.NEED_CPROF (n : Nat) : Fld := ⟨0x120000 + n * 0x40000, 1, 1⟩
def LN_ACT_CTRL.TX_FORCE_DIS (n : Nat) : Fld := ⟨0x120000 + n * 0x40000, 2, 1⟩
def LN_ACT_CTRL.LODS_FRAMES (n : Nat) : Fld := ⟨0x120000 + n * 0x40000, 4, 4⟩
def LN_ACT_CTRL.SN_RAND_MAX (n : Nat) : Fld := ⟨0x120000 + n * 0x40000, 8, 8⟩
/-- byte address -/ def LN_ACT_CTRL.ADR (n : Nat) : Nat := 0x120000 + n * 0x40000
def LN_ACT_STAT.STATE (n : Nat) : Fld := ⟨0x120004 + n * 0x40000, 0, 4⟩
def LN_ACT_STAT.ONU_ID_VALID (n : Nat) : Fld := ⟨0x120004 + n * 0x40000, 4, 1⟩
def LN_ACT_STAT.EQD_VALID (n : Nat) : Fld := ⟨0x120004 + n * 0x40000, 5, 1⟩
def LN_ACT_STAT.PROF_VALID (n : Nat) : Fld := ⟨0x120004 + n * 0x40000, 6, 4⟩
def LN_ACT_STAT.DG_ACTIVE (n : Nat) : Fld := ⟨0x120004 + n * 0x40000, 10, 1⟩
def LN_ACT_STAT.ONU_ID (n : Nat) : Fld := ⟨0x120004 + n * 0x40000, 16, 10⟩
/-- byte address -/ def LN_ACT_STAT.ADR (n : Nat) : Nat := 0x120004 + n * 0x40000
def LN_ACT_TIMER.TO1 (n : Nat) : Fld := ⟨0x120008 + n * 0x40000, 0, 16⟩
def LN_ACT_TIMER.TO2 (n : Nat) : Fld := ⟨0x120008 + n * 0x40000, 16, 16⟩
/-- byte address -/ def LN_ACT_TIMER.ADR (n : Nat) : Nat := 0x120008 + n * 0x40000
def LN_SN_VSSN.VSSN (n : Nat) : Fld := ⟨0x12000c + n * 0x40000, 0, 32⟩
/-- byte address -/ def LN_SN_VSSN.ADR (n : Nat) : Nat := 0x12000c + n * 0x40000
def LN_REG_ID.REG_ID (n i : Nat) : Fld := ⟨0x120010 + n * 0x40000 + i * 0x4, 0, 32⟩
/-- byte address -/ def LN_REG_ID.ADR (n i : Nat) : Nat := 0x120010 + n * 0x40000 + i * 0x4
def LN_EQD.EQD (n : Nat) : Fld := ⟨0x120040 + n * 0x40000, 0, 28⟩
def LN_EQD.SEQ (n : Nat) : Fld := ⟨0x120040 + n * 0x40000, 28, 4⟩
/-- byte address -/ def LN_EQD.ADR (n : Nat) : Nat := 0x120040 + n * 0x40000
def LN_US_CFG.RATE (n : Nat) : Fld := ⟨0x120044 + n * 0x40000, 0, 2⟩
def LN_US_CFG.WORD (n : Nat) : Fld := ⟨0x120044 + n * 0x40000, 2, 2⟩
/-- byte address -/ def LN_US_CFG.ADR (n : Nat) : Nat := 0x120044 + n * 0x40000
def LN_CB_TIMING.TXBE_LEAD (n : Nat) : Fld := ⟨0x120048 + n * 0x40000, 0, 12⟩
def LN_CB_TIMING.TXBE_LAG (n : Nat) : Fld := ⟨0x120048 + n * 0x40000, 12, 12⟩
def LN_CB_TIMING.TXBE_POL (n : Nat) : Fld := ⟨0x120048 + n * 0x40000, 24, 1⟩
/-- byte address -/ def LN_CB_TIMING.ADR (n : Nat) : Nat := 0x120048 + n * 0x40000
def LN_CB_CTRL.SEAL_LEAD (n : Nat) : Fld := ⟨0x12004c + n * 0x40000, 0, 10⟩
def LN_CB_CTRL.RD_MARGIN (n : Nat) : Fld := ⟨0x12004c + n * 0x40000, 10, 10⟩
def LN_CB_CTRL.PRESTAGE_KIB (n : Nat) : Fld := ⟨0x12004c + n * 0x40000, 20, 8⟩
/-- byte address -/ def LN_CB_CTRL.ADR (n : Nat) : Nat := 0x12004c + n * 0x40000
def LN_BWM_CTRL.HEC_ACCEPT (n : Nat) : Fld := ⟨0x120050 + n * 0x40000, 0, 1⟩
/-- byte address -/ def LN_BWM_CTRL.ADR (n : Nat) : Nat := 0x120050 + n * 0x40000
def LN_PWR_LVL.REQ (n : Nat) : Fld := ⟨0x120060 + n * 0x40000, 0, 3⟩
def LN_PWR_LVL.APPLIED (n : Nat) : Fld := ⟨0x120060 + n * 0x40000, 8, 3⟩
def LN_PWR_LVL.TIMEOUT (n : Nat) : Fld := ⟨0x120060 + n * 0x40000, 16, 8⟩
/-- byte address -/ def LN_PWR_LVL.ADR (n : Nat) : Nat := 0x120060 + n * 0x40000
def LN_OMCI_CFG.ALLOC_IDX (n : Nat) : Fld := ⟨0x120064 + n * 0x40000, 0, 7⟩
def LN_OMCI_CFG.USE_DEFAULT (n : Nat) : Fld := ⟨0x120064 + n * 0x40000, 7, 1⟩
def LN_OMCI_CFG.MAX_TX (n : Nat) : Fld := ⟨0x120064 + n * 0x40000, 8, 12⟩
/-- byte address -/ def LN_OMCI_CFG.ADR (n : Nat) : Nat := 0x120064 + n * 0x40000
def LN_ACT_EVT.STATE_CHG (n : Nat) : Fld := ⟨0x120070 + n * 0x40000, 0, 1⟩
def LN_ACT_EVT.EQD_LOAD (n : Nat) : Fld := ⟨0x120070 + n * 0x40000, 1, 1⟩
def LN_ACT_EVT.PWR_LVL_REQ (n : Nat) : Fld := ⟨0x120070 + n * 0x40000, 2, 1⟩
def LN_ACT_EVT.ESTOP (n : Nat) : Fld := ⟨0x120070 + n * 0x40000, 3, 1⟩
def LN_ACT_EVT.TO1_EXP (n : Nat) : Fld := ⟨0x120070 + n * 0x40000, 4, 1⟩
def LN_ACT_EVT.TO2_EXP (n : Nat) : Fld := ⟨0x120070 + n * 0x40000, 5, 1⟩
def LN_ACT_EVT.PROF_CHG (n : Nat) : Fld := ⟨0x120070 + n * 0x40000, 6, 1⟩
def LN_ACT_EVT.ALLOC_CHG (n : Nat) : Fld := ⟨0x120070 + n * 0x40000, 7, 1⟩
def LN_ACT_EVT.ALLOC_CONFLICT (n : Nat) : Fld := ⟨0x120070 + n * 0x40000, 8, 1⟩
def LN_ACT_EVT.DG_SENT (n : Nat) : Fld := ⟨0x120070 + n * 0x40000, 9, 1⟩
/-- byte address -/ def LN_ACT_EVT.ADR (n : Nat) : Nat := 0x120070 + n * 0x40000
def LN_ACT_EVT_EN.STATE_CHG (n : Nat) : Fld := ⟨0x120074 + n * 0x40000, 0, 1⟩
def LN_ACT_EVT_EN.EQD_LOAD (n : Nat) : Fld := ⟨0x120074 + n * 0x40000, 1, 1⟩
def LN_ACT_EVT_EN.PWR_LVL_REQ (n : Nat) : Fld := ⟨0x120074 + n * 0x40000, 2, 1⟩
def LN_ACT_EVT_EN.ESTOP (n : Nat) : Fld := ⟨0x120074 + n * 0x40000, 3, 1⟩
def LN_ACT_EVT_EN.TO1_EXP (n : Nat) : Fld := ⟨0x120074 + n * 0x40000, 4, 1⟩
def LN_ACT_EVT_EN.TO2_EXP (n : Nat) : Fld := ⟨0x120074 + n * 0x40000, 5, 1⟩
def LN_ACT_EVT_EN.PROF_CHG (n : Nat) : Fld := ⟨0x120074 + n * 0x40000, 6, 1⟩
def LN_ACT_EVT_EN.ALLOC_CHG (n : Nat) : Fld := ⟨0x120074 + n * 0x40000, 7, 1⟩
def LN_ACT_EVT_EN.ALLOC_CONFLICT (n : Nat) : Fld := ⟨0x120074 + n * 0x40000, 8, 1⟩
def LN_ACT_EVT_EN.DG_SENT (n : Nat) : Fld := ⟨0x120074 + n * 0x40000, 9, 1⟩
/-- byte address -/ def LN_ACT_EVT_EN.ADR (n : Nat) : Nat := 0x120074 + n * 0x40000
def LN_ACT_CNT.COUNT (n c : Nat) : Fld := ⟨0x120080 + n * 0x40000 + c * 0x4, 0, 32⟩
/-- byte address -/ def LN_ACT_CNT.ADR (n c : Nat) : Nat := 0x120080 + n * 0x40000 + c * 0x4
def LN_PROF0.VALID (n p : Nat) : Fld := ⟨0x120100 + n * 0x40000 + p * 0x40, 0, 1⟩
def LN_PROF0.VERSION (n p : Nat) : Fld := ⟨0x120100 + n * 0x40000 + p * 0x40, 1, 4⟩
def LN_PROF0.FEC (n p : Nat) : Fld := ⟨0x120100 + n * 0x40000 + p * 0x40, 5, 1⟩
def LN_PROF0.DEL_BYTES (n p : Nat) : Fld := ⟨0x120100 + n * 0x40000 + p * 0x40, 6, 4⟩
def LN_PROF0.PAT_BYTES (n p : Nat) : Fld := ⟨0x120100 + n * 0x40000 + p * 0x40, 10, 6⟩
def LN_PROF0.PRE_BYTES (n p : Nat) : Fld := ⟨0x120100 + n * 0x40000 + p * 0x40, 16, 12⟩
/-- byte address -/ def LN_PROF0.ADR (n p : Nat) : Nat := 0x120100 + n * 0x40000 + p * 0x40
def LN_PROFW.PATTERN (n p w : Nat) : Fld := ⟨0x120104 + n * 0x40000 + p * 0x40 + w * 0x4, 0, 32⟩
/-- byte address -/ def LN_PROFW.ADR (n p w : Nat) : Nat := 0x120104 + n * 0x40000 + p * 0x40 + w * 0x4
def LN_ALLOC.ALLOC_ID (n i : Nat) : Fld := ⟨0x120200 + n * 0x40000 + i * 0x4, 0, 14⟩
def LN_ALLOC.VALID (n i : Nat) : Fld := ⟨0x120200 + n * 0x40000 + i * 0x4, 14, 1⟩
def LN_ALLOC.TCONT (n i : Nat) : Fld := ⟨0x120200 + n * 0x40000 + i * 0x4, 16, 10⟩
/-- byte address -/ def LN_ALLOC.ADR (n i : Nat) : Nat := 0x120200 + n * 0x40000 + i * 0x4
def PWR_LINE_ESTOP.ESTOP : Fld := ⟨0x20f00, 0, 4⟩
/-- byte address -/ def PWR_LINE_ESTOP.ADR : Nat := 0x20f00
def CPX_TND_CTRL.RESTART : Fld := ⟨0x1f01000, 0, 1⟩
/-- byte address -/ def CPX_TND_CTRL.ADR : Nat := 0x1f01000
def CPX_TND_STAT.RUNNING : Fld := ⟨0x1f01004, 0, 1⟩
def CPX_TND_STAT.LOCKSTEP_ERR : Fld := ⟨0x1f01004, 1, 1⟩
def CPX_TND_STAT.FW_VER : Fld := ⟨0x1f01004, 16, 16⟩
/-- byte address -/ def CPX_TND_STAT.ADR : Nat := 0x1f01004
def LN_LINE_MODE.MODE : Fld := ⟨0x131000, 0, 2⟩
def LN_LINE_MODE.TREF_CH : Fld := ⟨0x131000, 2, 2⟩
/-- byte address -/ def LN_LINE_MODE.ADR : Nat := 0x131000
def LN_BOND_CTRL.POOL_CELLS : Fld := ⟨0x131004, 0, 17⟩
def LN_BOND_CTRL.MARKER_EN : Fld := ⟨0x131004, 17, 1⟩
/-- byte address -/ def LN_BOND_CTRL.ADR : Nat := 0x131004
def LN_BOND_STAT.POOL_USED : Fld := ⟨0x131008, 0, 17⟩
def LN_BOND_STAT.MAX_HOLD : Fld := ⟨0x131008, 17, 9⟩
/-- byte address -/ def LN_BOND_STAT.ADR : Nat := 0x131008
def LN_BOND_CNT.COUNT (c : Nat) : Fld := ⟨0x131010 + c * 0x4, 0, 32⟩
/-- byte address -/ def LN_BOND_CNT.ADR (c : Nat) : Nat := 0x131010 + c * 0x4
def LN_PROT_CTRL.ARMED : Fld := ⟨0x131100, 0, 1⟩
def LN_PROT_CTRL.TRIG_DSD : Fld := ⟨0x131100, 1, 1⟩
def LN_PROT_CTRL.TRIG_UCW : Fld := ⟨0x131100, 2, 1⟩
def LN_PROT_CTRL.TRIG_ANY : Fld := ⟨0x131100, 3, 1⟩
def LN_PROT_CTRL.CMD : Fld := ⟨0x131100, 4, 2⟩
def LN_PROT_CTRL.HOLDOFF : Fld := ⟨0x131100, 8, 8⟩
/-- byte address -/ def LN_PROT_CTRL.ADR : Nat := 0x131100
def LN_PROT_STAT.ACTIVE : Fld := ⟨0x131104, 0, 1⟩
def LN_PROT_STAT.STBY_OK : Fld := ⟨0x131104, 1, 1⟩
def LN_PROT_STAT.SWITCHING : Fld := ⟨0x131104, 2, 1⟩
def LN_PROT_STAT.FAST_DEF : Fld := ⟨0x131104, 4, 4⟩
def LN_PROT_STAT.LAST_CAUSE : Fld := ⟨0x131104, 8, 2⟩
def LN_PROT_STAT.TREF : Fld := ⟨0x131104, 10, 2⟩
def LN_PROT_STAT.TREF_NONE : Fld := ⟨0x131104, 12, 1⟩
/-- byte address -/ def LN_PROT_STAT.ADR : Nat := 0x131104
def LN_PROT_EVT.SWITCHED : Fld := ⟨0x131108, 0, 1⟩
def LN_PROT_EVT.BLOCKED : Fld := ⟨0x131108, 1, 1⟩
def LN_PROT_EVT.MODE_REJ : Fld := ⟨0x131108, 2, 1⟩
def LN_PROT_EVT.TREF_CHG : Fld := ⟨0x131108, 3, 1⟩
/-- byte address -/ def LN_PROT_EVT.ADR : Nat := 0x131108
def LN_PROT_EVT_EN.SWITCHED : Fld := ⟨0x13110c, 0, 1⟩
def LN_PROT_EVT_EN.BLOCKED : Fld := ⟨0x13110c, 1, 1⟩
def LN_PROT_EVT_EN.MODE_REJ : Fld := ⟨0x13110c, 2, 1⟩
def LN_PROT_EVT_EN.TREF_CHG : Fld := ⟨0x13110c, 3, 1⟩
/-- byte address -/ def LN_PROT_EVT_EN.ADR : Nat := 0x13110c
def LN_PROT_CNT.COUNT (c : Nat) : Fld := ⟨0x131110 + c * 0x4, 0, 32⟩
/-- byte address -/ def LN_PROT_CNT.ADR (c : Nat) : Nat := 0x131110 + c * 0x4
def LN_BOND_GRP_CFG.FLOW (g : Nat) : Fld := ⟨0x132000 + g * 0x8, 0, 15⟩
def LN_BOND_GRP_CFG.EN (g : Nat) : Fld := ⟨0x132000 + g * 0x8, 15, 1⟩
def LN_BOND_GRP_CFG.MEMBERS (g : Nat) : Fld := ⟨0x132000 + g * 0x8, 16, 4⟩
def LN_BOND_GRP_CFG.US_EN (g : Nat) : Fld := ⟨0x132000 + g * 0x8, 20, 1⟩
def LN_BOND_GRP_CFG.STATE (g : Nat) : Fld := ⟨0x132000 + g * 0x8, 21, 2⟩
/-- byte address -/ def LN_BOND_GRP_CFG.ADR (g : Nat) : Nat := 0x132000 + g * 0x8
def LN_BOND_GRP_STAT.EXP_SEQ (g : Nat) : Fld := ⟨0x132004 + g * 0x8, 0, 16⟩
def LN_BOND_GRP_STAT.TX_SEQ (g : Nat) : Fld := ⟨0x132004 + g * 0x8, 16, 16⟩
/-- byte address -/ def LN_BOND_GRP_STAT.ADR (g : Nat) : Nat := 0x132004 + g * 0x8
def CPH_CTRL.PLAIN_EN : Fld := ⟨0x200000, 0, 1⟩
/-- byte address -/ def CPH_CTRL.ADR : Nat := 0x200000
def CPH_KEY_CMD.OP : Fld := ⟨0x200010, 0, 3⟩
def CPH_KEY_CMD.SLOT : Fld := ⟨0x200010, 8, 6⟩
/-- byte address -/ def CPH_KEY_CMD.ADR : Nat := 0x200010
def CPH_KEY_STAT.STATUS : Fld := ⟨0x200014, 0, 8⟩
def CPH_KEY_STAT.BUSY : Fld := ⟨0x200014, 8, 1⟩
def CPH_KEY_STAT.IGNORED : Fld := ⟨0x200014, 9, 1⟩
/-- byte address -/ def CPH_KEY_STAT.ADR : Nat := 0x200014
def CPH_KEY_IN.DATA (i : Nat) : Fld := ⟨0x200020 + i * 0x4, 0, 32⟩
/-- byte address -/ def CPH_KEY_IN.ADR (i : Nat) : Nat := 0x200020 + i * 0x4
def CPH_WRAP_OUT.DATA (i : Nat) : Fld := ⟨0x200060 + i * 0x4, 0, 32⟩
/-- byte address -/ def CPH_WRAP_OUT.ADR (i : Nat) : Nat := 0x200060 + i * 0x4
def CPH_EVT.CMD_DONE : Fld := ⟨0x200100, 0, 1⟩
def CPH_EVT.KEY_EXH : Fld := ⟨0x200100, 1, 1⟩
def CPH_EVT.KEY_REFUSED : Fld := ⟨0x200100, 2, 1⟩
def CPH_EVT.KEY_LATE : Fld := ⟨0x200100, 3, 1⟩
def CPH_EVT.TAG_FAIL : Fld := ⟨0x200100, 4, 1⟩
def CPH_EVT.REPLAY : Fld := ⟨0x200100, 5, 1⟩
def CPH_EVT.LINE_KEYREC : Fld := ⟨0x200100, 6, 1⟩
/-- byte address -/ def CPH_EVT.ADR : Nat := 0x200100
def CPH_EVT_EN.CMD_DONE : Fld := ⟨0x200104, 0, 1⟩
def CPH_EVT_EN.KEY_EXH : Fld := ⟨0x200104, 1, 1⟩
def CPH_EVT_EN.KEY_REFUSED : Fld := ⟨0x200104, 2, 1⟩
def CPH_EVT_EN.KEY_LATE : Fld := ⟨0x200104, 3, 1⟩
def CPH_EVT_EN.TAG_FAIL : Fld := ⟨0x200104, 4, 1⟩
def CPH_EVT_EN.REPLAY : Fld := ⟨0x200104, 5, 1⟩
def CPH_EVT_EN.LINE_KEYREC : Fld := ⟨0x200104, 6, 1⟩
/-- byte address -/ def CPH_EVT_EN.ADR : Nat := 0x200104
def CPH_EXH_MARGIN.RSR_MARGIN : Fld := ⟨0x200110, 0, 24⟩
def CPH_EXH_MARGIN.LINE_MARGIN : Fld := ⟨0x200110, 24, 8⟩
/-- byte address -/ def CPH_EXH_MARGIN.ADR : Nat := 0x200110
def CPH_LINE_US_CTRL.CUR_IDX (n : Nat) : Fld := ⟨0x200200 + n * 0x10, 0, 2⟩
def CPH_LINE_US_CTRL.NEXT_IDX (n : Nat) : Fld := ⟨0x200200 + n * 0x10, 2, 2⟩
def CPH_LINE_US_CTRL.SW_ARM (n : Nat) : Fld := ⟨0x200200 + n * 0x10, 4, 1⟩
/-- byte address -/ def CPH_LINE_US_CTRL.ADR (n : Nat) : Nat := 0x200200 + n * 0x10
def CPH_LINE_KEYREC.DATA (n w : Nat) : Fld := ⟨0x200400 + n * 0x40 + w * 0x4, 0, 32⟩
/-- byte address -/ def CPH_LINE_KEYREC.ADR (n w : Nat) : Nat := 0x200400 + n * 0x40 + w * 0x4
def CPH_RSR_CTRL.TX_CIPHER (p : Nat) : Fld := ⟨0x200300 + p * 0x10, 0, 1⟩
def CPH_RSR_CTRL.RX_CIPHER (p : Nat) : Fld := ⟨0x200300 + p * 0x10, 1, 1⟩
def CPH_RSR_CTRL.TX_PHASE (p : Nat) : Fld := ⟨0x200300 + p * 0x10, 2, 1⟩
def CPH_RSR_CTRL.RX_PHASE (p : Nat) : Fld := ⟨0x200300 + p * 0x10, 3, 1⟩
def CPH_RSR_CTRL.SW_ARM (p : Nat) : Fld := ⟨0x200300 + p * 0x10, 4, 1⟩
/-- byte address -/ def CPH_RSR_CTRL.ADR (p : Nat) : Nat := 0x200300 + p * 0x10
def CPH_SLOT_STAT.STATE (s : Nat) : Fld := ⟨0x201000 + s * 0x10, 0, 2⟩
def CPH_SLOT_STAT.EXH (s : Nat) : Fld := ⟨0x201000 + s * 0x10, 2, 1⟩
def CPH_SLOT_STAT.CURRENT (s : Nat) : Fld := ⟨0x201000 + s * 0x10, 3, 1⟩
def CPH_SLOT_STAT.SOURCE (s : Nat) : Fld := ⟨0x201000 + s * 0x10, 4, 3⟩
/-- byte address -/ def CPH_SLOT_STAT.ADR (s : Nat) : Nat := 0x201000 + s * 0x10
def PCL_TBL_CMD.OP : Fld := ⟨0x300000, 0, 4⟩
def PCL_TBL_CMD.TABLE : Fld := ⟨0x300000, 4, 4⟩
def PCL_TBL_CMD.VIEW : Fld := ⟨0x300000, 8, 2⟩
def PCL_TBL_CMD.LOC : Fld := ⟨0x300000, 10, 18⟩
/-- byte address -/ def PCL_TBL_CMD.ADR : Nat := 0x300000
def PCL_TBL_STAT.STATUS : Fld := ⟨0x300004, 0, 8⟩
def PCL_TBL_STAT.BUSY : Fld := ⟨0x300004, 8, 1⟩
def PCL_TBL_STAT.IGNORED : Fld := ⟨0x300004, 9, 1⟩
def PCL_TBL_STAT.LOC : Fld := ⟨0x300004, 10, 18⟩
/-- byte address -/ def PCL_TBL_STAT.ADR : Nat := 0x300004
def PCL_TBL_DATA.DATA (i : Nat) : Fld := ⟨0x300010 + i * 0x4, 0, 32⟩
/-- byte address -/ def PCL_TBL_DATA.ADR (i : Nat) : Nat := 0x300010 + i * 0x4
def PCL_GEN_STAT.ACT_TAG : Fld := ⟨0x300100, 0, 4⟩
def PCL_GEN_STAT.STG_TAG : Fld := ⟨0x300100, 4, 4⟩
def PCL_GEN_STAT.HELD_TAG : Fld := ⟨0x300100, 8, 4⟩
def PCL_GEN_STAT.HELD_KIND : Fld := ⟨0x300100, 12, 2⟩
def PCL_GEN_STAT.PREV_RETIRED : Fld := ⟨0x300100, 14, 1⟩
def PCL_GEN_STAT.ACT_CONFIRMED : Fld := ⟨0x300100, 15, 1⟩
def PCL_GEN_STAT.SCRUBBING : Fld := ⟨0x300100, 16, 1⟩
def PCL_GEN_STAT.COMMIT_PENDING : Fld := ⟨0x300100, 17, 1⟩
def PCL_GEN_STAT.READY : Fld := ⟨0x300100, 18, 1⟩
/-- byte address -/ def PCL_GEN_STAT.ADR : Nat := 0x300100
def PCL_LOG_USED.STAGING : Fld := ⟨0x30010c, 0, 16⟩
def PCL_LOG_USED.HELD : Fld := ⟨0x30010c, 16, 16⟩
/-- byte address -/ def PCL_LOG_USED.ADR : Nat := 0x30010c
def PCL_GEN_EVT.RETIRED : Fld := ⟨0x300110, 0, 1⟩
def PCL_GEN_EVT.SCRUB_DONE : Fld := ⟨0x300110, 1, 1⟩
def PCL_GEN_EVT.LOG_FULL : Fld := ⟨0x300110, 2, 1⟩
/-- byte address -/ def PCL_GEN_EVT.ADR : Nat := 0x300110
def PCL_GEN_EVT_EN.RETIRED : Fld := ⟨0x300114, 0, 1⟩
def PCL_GEN_EVT_EN.SCRUB_DONE : Fld := ⟨0x300114, 1, 1⟩
def PCL_GEN_EVT_EN.LOG_FULL : Fld := ⟨0x300114, 2, 1⟩
/-- byte address -/ def PCL_GEN_EVT_EN.ADR : Nat := 0x300114
def PCL_RECIRC_CTRL.TIMEOUT : Fld := ⟨0x300120, 0, 8⟩
/-- byte address -/ def PCL_RECIRC_CTRL.ADR : Nat := 0x300120
def PCL_RECIRC_STAT.DEPTH (k : Nat) : Fld := ⟨0x300130 + k * 0x4, 0, 10⟩
/-- byte address -/ def PCL_RECIRC_STAT.ADR (k : Nat) : Nat := 0x300130 + k * 0x4
def PCL_SLICE_IN_DROP.COUNT (k : Nat) : Fld := ⟨0x300200 + k * 0x4, 0, 32⟩
/-- byte address -/ def PCL_SLICE_IN_DROP.ADR (k : Nat) : Nat := 0x300200 + k * 0x4
def PCL_CNT.COUNT (k c : Nat) : Fld := ⟨0x300300 + k * 0x40 + c * 0x4, 0, 32⟩
/-- byte address -/ def PCL_CNT.ADR (k c : Nat) : Nat := 0x300300 + k * 0x40 + c * 0x4
def PCL_POL_CNT.COUNT (i c : Nat) : Fld := ⟨0x400000 + i * 0x10 + c * 0x4, 0, 32⟩
/-- byte address -/ def PCL_POL_CNT.ADR (i c : Nat) : Nat := 0x400000 + i * 0x10 + c * 0x4
def TMG_TBL_CMD.OP : Fld := ⟨0x800000, 0, 4⟩
def TMG_TBL_CMD.TABLE : Fld := ⟨0x800000, 4, 4⟩
def TMG_TBL_CMD.VIEW : Fld := ⟨0x800000, 8, 2⟩
def TMG_TBL_CMD.LOC : Fld := ⟨0x800000, 10, 18⟩
/-- byte address -/ def TMG_TBL_CMD.ADR : Nat := 0x800000
def TMG_TBL_STAT.STATUS : Fld := ⟨0x800004, 0, 8⟩
def TMG_TBL_STAT.BUSY : Fld := ⟨0x800004, 8, 1⟩
def TMG_TBL_STAT.IGNORED : Fld := ⟨0x800004, 9, 1⟩
/-- byte address -/ def TMG_TBL_STAT.ADR : Nat := 0x800004
def TMG_TBL_DATA.DATA (i : Nat) : Fld := ⟨0x800010 + i * 0x4, 0, 32⟩
/-- byte address -/ def TMG_TBL_DATA.ADR (i : Nat) : Nat := 0x800010 + i * 0x4
def TMG_GEN_STAT.HELD_KIND : Fld := ⟨0x800100, 0, 2⟩
def TMG_GEN_STAT.SCRUBBING : Fld := ⟨0x800100, 2, 1⟩
def TMG_GEN_STAT.READY : Fld := ⟨0x800100, 3, 1⟩
def TMG_GEN_STAT.LOG_STAGING : Fld := ⟨0x800100, 16, 16⟩
/-- byte address -/ def TMG_GEN_STAT.ADR : Nat := 0x800100
def TMG_NODE_CMD.OP : Fld := ⟨0x800200, 0, 3⟩
def TMG_NODE_CMD.BKT : Fld := ⟨0x800200, 3, 3⟩
def TMG_NODE_CMD.INDEX : Fld := ⟨0x800200, 6, 16⟩
/-- byte address -/ def TMG_NODE_CMD.ADR : Nat := 0x800200
def TMG_NODE_STAT.STATUS : Fld := ⟨0x800204, 0, 8⟩
def TMG_NODE_STAT.BUSY : Fld := ⟨0x800204, 8, 1⟩
def TMG_NODE_STAT.IGNORED : Fld := ⟨0x800204, 9, 1⟩
/-- byte address -/ def TMG_NODE_STAT.ADR : Nat := 0x800204
def TMG_BUF_CFG.GUAR_CELLS : Fld := ⟨0x800300, 0, 19⟩
/-- byte address -/ def TMG_BUF_CFG.ADR : Nat := 0x800300
def TMG_SIDING_CFG.SIDING_CELLS : Fld := ⟨0x800400, 0, 27⟩
def TMG_SIDING_CFG.EN : Fld := ⟨0x800400, 27, 1⟩
/-- byte address -/ def TMG_SIDING_CFG.ADR : Nat := 0x800400
def TMG_SIDING_STAT.FREE : Fld := ⟨0x800404, 0, 27⟩
/-- byte address -/ def TMG_SIDING_STAT.ADR : Nat := 0x800404
def TMG_EVT.STAGING_FULL : Fld := ⟨0x800410, 0, 1⟩
def TMG_EVT.SIDING_FULL : Fld := ⟨0x800410, 1, 1⟩
def TMG_EVT.SIDING_ECC : Fld := ⟨0x800410, 2, 1⟩
def TMG_EVT.SCRUB_DONE : Fld := ⟨0x800410, 3, 1⟩
def TMG_EVT.CMD_DONE : Fld := ⟨0x800410, 4, 1⟩
/-- byte address -/ def TMG_EVT.ADR : Nat := 0x800410
def TMG_EVT_EN.STAGING_FULL : Fld := ⟨0x800414, 0, 1⟩
def TMG_EVT_EN.SIDING_FULL : Fld := ⟨0x800414, 1, 1⟩
def TMG_EVT_EN.SIDING_ECC : Fld := ⟨0x800414, 2, 1⟩
def TMG_EVT_EN.SCRUB_DONE : Fld := ⟨0x800414, 3, 1⟩
def TMG_EVT_EN.CMD_DONE : Fld := ⟨0x800414, 4, 1⟩
/-- byte address -/ def TMG_EVT_EN.ADR : Nat := 0x800414
def TMG_CNT.COUNT (c : Nat) : Fld := ⟨0x800500 + c * 0x4, 0, 32⟩
/-- byte address -/ def TMG_CNT.ADR (c : Nat) : Nat := 0x800500 + c * 0x4
def TMG_TCONT_OCC.COUNT (t w : Nat) : Fld := ⟨0x808000 + t * 0x10 + w * 0x4, 0, 32⟩
/-- byte address -/ def TMG_TCONT_OCC.ADR (t w : Nat) : Nat := 0x808000 + t * 0x10 + w * 0x4
def TMG_TQCNT.COUNT (p k c : Nat) : Fld := ⟨0x810000 + p * 0x40 + k * 0x8 + c * 0x4, 0, 32⟩
/-- byte address -/ def TMG_TQCNT.ADR (p k c : Nat) : Nat := 0x810000 + p * 0x40 + k * 0x8 + c * 0x4
def TMG_QCNT.COUNT (q c : Nat) : Fld := ⟨0xa00000 + q * 0x20 + c * 0x4, 0, 32⟩
/-- byte address -/ def TMG_QCNT.ADR (q c : Nat) : Nat := 0xa00000 + q * 0x20 + c * 0x4
def SM_LANE_CTRL.MODE (n : Nat) : Fld := ⟨0x1000000 + n * 0x10000, 0, 3⟩
def SM_LANE_CTRL.LANE_EN (n : Nat) : Fld := ⟨0x1000000 + n * 0x10000, 3, 1⟩
/-- byte address -/ def SM_LANE_CTRL.ADR (n : Nat) : Nat := 0x1000000 + n * 0x10000
def SM_LANE_EVT.MODE_REJ (n : Nat) : Fld := ⟨0x1000004 + n * 0x10000, 0, 1⟩
/-- byte address -/ def SM_LANE_EVT.ADR (n : Nat) : Nat := 0x1000004 + n * 0x10000
def SM_LANE_EVT_EN.MODE_REJ (n : Nat) : Fld := ⟨0x1000008 + n * 0x10000, 0, 1⟩
/-- byte address -/ def SM_LANE_EVT_EN.ADR (n : Nat) : Nat := 0x1000008 + n * 0x10000
def SM_PORT_CTRL.RX_EN (n j : Nat) : Fld := ⟨0x1001000 + n * 0x10000 + j * 0x1000, 0, 1⟩
def SM_PORT_CTRL.TX_EN (n j : Nat) : Fld := ⟨0x1001000 + n * 0x10000 + j * 0x1000, 1, 1⟩
def SM_PORT_CTRL.LINK_DOWN_ACT (n j : Nat) : Fld := ⟨0x1001000 + n * 0x10000 + j * 0x1000, 2, 1⟩
def SM_PORT_CTRL.FC_MODE (n j : Nat) : Fld := ⟨0x1001000 + n * 0x10000 + j * 0x1000, 3, 2⟩
def SM_PORT_CTRL.EEE_EN (n j : Nat) : Fld := ⟨0x1001000 + n * 0x10000 + j * 0x1000, 5, 1⟩
def SM_PORT_CTRL.MAX_FRAME (n j : Nat) : Fld := ⟨0x1001000 + n * 0x10000 + j * 0x1000, 6, 14⟩
/-- byte address -/ def SM_PORT_CTRL.ADR (n j : Nat) : Nat := 0x1001000 + n * 0x10000 + j * 0x1000
def SM_PORT_STAT.LINK (n j : Nat) : Fld := ⟨0x1001004 + n * 0x10000 + j * 0x1000, 0, 1⟩
def SM_PORT_STAT.SPEED (n j : Nat) : Fld := ⟨0x1001004 + n * 0x10000 + j * 0x1000, 1, 3⟩
def SM_PORT_STAT.LINK_UNSUP (n j : Nat) : Fld := ⟨0x1001004 + n * 0x10000 + j * 0x1000, 4, 1⟩
def SM_PORT_STAT.LPI_TX (n j : Nat) : Fld := ⟨0x1001004 + n * 0x10000 + j * 0x1000, 5, 1⟩
def SM_PORT_STAT.LPI_RX (n j : Nat) : Fld := ⟨0x1001004 + n * 0x10000 + j * 0x1000, 6, 1⟩
def SM_PORT_STAT.PAUSED (n j : Nat) : Fld := ⟨0x1001004 + n * 0x10000 + j * 0x1000, 8, 8⟩
def SM_PORT_STAT.GATES (n j : Nat) : Fld := ⟨0x1001004 + n * 0x10000 + j * 0x1000, 16, 8⟩
/-- byte address -/ def SM_PORT_STAT.ADR (n j : Nat) : Nat := 0x1001004 + n * 0x10000 + j * 0x1000
def SM_PORT_EVT.LINK_CHG (n j : Nat) : Fld := ⟨0x1001008 + n * 0x10000 + j * 0x1000, 0, 1⟩
def SM_PORT_EVT.UNDERRUN (n j : Nat) : Fld := ⟨0x1001008 + n * 0x10000 + j * 0x1000, 1, 1⟩
def SM_PORT_EVT.TOO_LONG (n j : Nat) : Fld := ⟨0x1001008 + n * 0x10000 + j * 0x1000, 2, 1⟩
def SM_PORT_EVT.GATE_OVERRUN (n j : Nat) : Fld := ⟨0x1001008 + n * 0x10000 + j * 0x1000, 3, 1⟩
/-- byte address -/ def SM_PORT_EVT.ADR (n j : Nat) : Nat := 0x1001008 + n * 0x10000 + j * 0x1000
def SM_PORT_EVT_EN.LINK_CHG (n j : Nat) : Fld := ⟨0x100100c + n * 0x10000 + j * 0x1000, 0, 1⟩
def SM_PORT_EVT_EN.UNDERRUN (n j : Nat) : Fld := ⟨0x100100c + n * 0x10000 + j * 0x1000, 1, 1⟩
def SM_PORT_EVT_EN.TOO_LONG (n j : Nat) : Fld := ⟨0x100100c + n * 0x10000 + j * 0x1000, 2, 1⟩
def SM_PORT_EVT_EN.GATE_OVERRUN (n j : Nat) : Fld := ⟨0x100100c + n * 0x10000 + j * 0x1000, 3, 1⟩
/-- byte address -/ def SM_PORT_EVT_EN.ADR (n j : Nat) : Nat := 0x100100c + n * 0x10000 + j * 0x1000
def SM_CT.CT_UNITS (n j : Nat) : Fld := ⟨0x1001018 + n * 0x10000 + j * 0x1000, 0, 6⟩
/-- byte address -/ def SM_CT.ADR (n j : Nat) : Nat := 0x1001018 + n * 0x10000 + j * 0x1000
def SM_FC_CTRL.TX_QUANTA (n j : Nat) : Fld := ⟨0x1001020 + n * 0x10000 + j * 0x1000, 0, 16⟩
def SM_FC_CTRL.PFC_TX_EN (n j : Nat) : Fld := ⟨0x1001020 + n * 0x10000 + j * 0x1000, 16, 8⟩
def SM_FC_CTRL.PFC_RX_EN (n j : Nat) : Fld := ⟨0x1001020 + n * 0x10000 + j * 0x1000, 24, 8⟩
/-- byte address -/ def SM_FC_CTRL.ADR (n j : Nat) : Nat := 0x1001020 + n * 0x10000 + j * 0x1000
def SM_FC_THRESH.XOFF (n j : Nat) : Fld := ⟨0x1001024 + n * 0x10000 + j * 0x1000, 0, 14⟩
def SM_FC_THRESH.XON (n j : Nat) : Fld := ⟨0x1001024 + n * 0x10000 + j * 0x1000, 14, 14⟩
def SM_FC_THRESH.UNTAGGED_PRI (n j : Nat) : Fld := ⟨0x1001024 + n * 0x10000 + j * 0x1000, 28, 3⟩
/-- byte address -/ def SM_FC_THRESH.ADR (n j : Nat) : Nat := 0x1001024 + n * 0x10000 + j * 0x1000
def SM_FC_REFRESH.REFRESH (n j : Nat) : Fld := ⟨0x1001028 + n * 0x10000 + j * 0x1000, 0, 16⟩
/-- byte address -/ def SM_FC_REFRESH.ADR (n j : Nat) : Nat := 0x1001028 + n * 0x10000 + j * 0x1000
def SM_EEE_CTRL.IDLE_US (n j : Nat) : Fld := ⟨0x1001030 + n * 0x10000 + j * 0x1000, 0, 16⟩
def SM_EEE_CTRL.TW (n j : Nat) : Fld := ⟨0x1001030 + n * 0x10000 + j * 0x1000, 16, 16⟩
/-- byte address -/ def SM_EEE_CTRL.ADR (n j : Nat) : Nat := 0x1001030 + n * 0x10000 + j * 0x1000
def SM_TT_CMD.OP : Fld := ⟨0x1000100, 0, 4⟩
def SM_TT_CMD.TABLE : Fld := ⟨0x1000100, 4, 4⟩
def SM_TT_CMD.VIEW : Fld := ⟨0x1000100, 8, 2⟩
def SM_TT_CMD.LOC : Fld := ⟨0x1000100, 10, 14⟩
/-- byte address -/ def SM_TT_CMD.ADR : Nat := 0x1000100
def SM_TT_STAT.STATUS : Fld := ⟨0x1000104, 0, 8⟩
def SM_TT_STAT.BUSY : Fld := ⟨0x1000104, 8, 1⟩
def SM_TT_STAT.IGNORED : Fld := ⟨0x1000104, 9, 1⟩
/-- byte address -/ def SM_TT_STAT.ADR : Nat := 0x1000104
def SM_TT_DATA.DATA (i : Nat) : Fld := ⟨0x1000110 + i * 0x4, 0, 32⟩
/-- byte address -/ def SM_TT_DATA.ADR (i : Nat) : Nat := 0x1000110 + i * 0x4
def SM_TT_GEN_STAT.HELD_KIND : Fld := ⟨0x1000140, 0, 2⟩
def SM_TT_GEN_STAT.SCRUBBING : Fld := ⟨0x1000140, 2, 1⟩
def SM_TT_GEN_STAT.READY : Fld := ⟨0x1000140, 3, 1⟩
/-- byte address -/ def SM_TT_GEN_STAT.ADR : Nat := 0x1000140
def TIM_CTRL.SRC : Fld := ⟨0x80000, 0, 2⟩
def TIM_CTRL.STEP_GO : Fld := ⟨0x80000, 2, 1⟩
def TIM_CTRL.STEP_SRC : Fld := ⟨0x80000, 3, 1⟩
def TIM_CTRL.ARM_STEP : Fld := ⟨0x80000, 4, 1⟩
def TIM_CTRL.PPS_OUT_EN : Fld := ⟨0x80000, 5, 1⟩
def TIM_CTRL.PPS_IN_EN : Fld := ⟨0x80000, 6, 1⟩
def TIM_CTRL.PPS_IN_POL : Fld := ⟨0x80000, 7, 1⟩
def TIM_CTRL.ONE_STEP_EN : Fld := ⟨0x80000, 8, 1⟩
/-- byte address -/ def TIM_CTRL.ADR : Nat := 0x80000
def TIM_STAT.EPOCH : Fld := ⟨0x80004, 0, 2⟩
def TIM_STAT.TIME_SET : Fld := ⟨0x80004, 2, 1⟩
def TIM_STAT.SLEWING : Fld := ⟨0x80004, 3, 1⟩
def TIM_STAT.TOD_ARMED : Fld := ⟨0x80004, 4, 1⟩
/-- byte address -/ def TIM_STAT.ADR : Nat := 0x80004
def TIM_SLEW.SLEW : Fld := ⟨0x80060, 0, 19⟩
/-- byte address -/ def TIM_SLEW.ADR : Nat := 0x80060
def TIM_MAX_SLEW.MAX_SLEW : Fld := ⟨0x80064, 0, 16⟩
/-- byte address -/ def TIM_MAX_SLEW.ADR : Nat := 0x80064
def TIM_TOD_ARM.ARM : Fld := ⟨0x80084, 0, 1⟩
/-- byte address -/ def TIM_TOD_ARM.ADR : Nat := 0x80084
def TIM_PATH.PATH_THRESH : Fld := ⟨0x8009c, 0, 16⟩
/-- byte address -/ def TIM_PATH.ADR : Nat := 0x8009c
def TIM_PLL_CTRL.REF : Fld := ⟨0x800a0, 0, 2⟩
def TIM_PLL_CTRL.RISER_P : Fld := ⟨0x800a0, 2, 2⟩
def TIM_PLL_CTRL.BW : Fld := ⟨0x800a0, 4, 2⟩
def TIM_PLL_CTRL.QUAL : Fld := ⟨0x800a0, 6, 8⟩
/-- byte address -/ def TIM_PLL_CTRL.ADR : Nat := 0x800a0
def TIM_PLL_STAT.STATE : Fld := ⟨0x800a4, 0, 2⟩
def TIM_PLL_STAT.REF_OK : Fld := ⟨0x800a4, 2, 1⟩
/-- byte address -/ def TIM_PLL_STAT.ADR : Nat := 0x800a4
def TIM_PPS_CTRL.OUT_OFS : Fld := ⟨0x800b0, 0, 30⟩
/-- byte address -/ def TIM_PPS_CTRL.ADR : Nat := 0x800b0
def TIM_PPS_WIDTH.WIDTH : Fld := ⟨0x800b4, 0, 20⟩
/-- byte address -/ def TIM_PPS_WIDTH.ADR : Nat := 0x800b4
def TIM_PPS_IN_TS.TS (w : Nat) : Fld := ⟨0x800c0 + w * 0x4, 0, 32⟩
/-- byte address -/ def TIM_PPS_IN_TS.ADR (w : Nat) : Nat := 0x800c0 + w * 0x4
def TIM_EVT.STEPPED : Fld := ⟨0x800d0, 0, 1⟩
def TIM_EVT.TOD_DONE : Fld := ⟨0x800d0, 1, 1⟩
def TIM_EVT.TOD_LATE : Fld := ⟨0x800d0, 2, 1⟩
def TIM_EVT.TOD_MISS : Fld := ⟨0x800d0, 3, 1⟩
def TIM_EVT.TOD_BIG : Fld := ⟨0x800d0, 4, 1⟩
def TIM_EVT.PATH_CHANGE : Fld := ⟨0x800d0, 5, 1⟩
def TIM_EVT.RATE_CLAMP : Fld := ⟨0x800d0, 6, 1⟩
def TIM_EVT.STEP_REFUSED : Fld := ⟨0x800d0, 7, 1⟩
def TIM_EVT.PPS_IN : Fld := ⟨0x800d0, 8, 1⟩
def TIM_EVT.PLL_CHG : Fld := ⟨0x800d0, 9, 1⟩
/-- byte address -/ def TIM_EVT.ADR : Nat := 0x800d0
def TIM_EVT_EN.STEPPED : Fld := ⟨0x800d4, 0, 1⟩
def TIM_EVT_EN.TOD_DONE : Fld := ⟨0x800d4, 1, 1⟩
def TIM_EVT_EN.TOD_LATE : Fld := ⟨0x800d4, 2, 1⟩
def TIM_EVT_EN.TOD_MISS : Fld := ⟨0x800d4, 3, 1⟩
def TIM_EVT_EN.TOD_BIG : Fld := ⟨0x800d4, 4, 1⟩
def TIM_EVT_EN.PATH_CHANGE : Fld := ⟨0x800d4, 5, 1⟩
def TIM_EVT_EN.RATE_CLAMP : Fld := ⟨0x800d4, 6, 1⟩
def TIM_EVT_EN.STEP_REFUSED : Fld := ⟨0x800d4, 7, 1⟩
def TIM_EVT_EN.PPS_IN : Fld := ⟨0x800d4, 8, 1⟩
def TIM_EVT_EN.PLL_CHG : Fld := ⟨0x800d4, 9, 1⟩
/-- byte address -/ def TIM_EVT_EN.ADR : Nat := 0x800d4
def TIM_CNT.COUNT (c : Nat) : Fld := ⟨0x800e0 + c * 0x4, 0, 32⟩
/-- byte address -/ def TIM_CNT.ADR (c : Nat) : Nat := 0x800e0 + c * 0x4
def TIM_SYNCE_EN.LANES (g : Nat) : Fld := ⟨0x80100 + g * 0x4, 0, 28⟩
/-- byte address -/ def TIM_SYNCE_EN.ADR (g : Nat) : Nat := 0x80100 + g * 0x4
def TIM_PORT_TRIM.RX_TRIM (k : Nat) : Fld := ⟨0x81000 + k * 0x4, 0, 16⟩
def TIM_PORT_TRIM.TX_TRIM (k : Nat) : Fld := ⟨0x81000 + k * 0x4, 16, 16⟩
/-- byte address -/ def TIM_PORT_TRIM.ADR (k : Nat) : Nat := 0x81000 + k * 0x4
def SL_LADDER.ENTRY0 (n : Nat) : Fld := ⟨0x1800000 + n * 0x4000, 0, 3⟩
def SL_LADDER.ENTRY1 (n : Nat) : Fld := ⟨0x1800000 + n * 0x4000, 3, 3⟩
def SL_LADDER.ENTRY2 (n : Nat) : Fld := ⟨0x1800000 + n * 0x4000, 6, 3⟩
def SL_LADDER.ENTRY3 (n : Nat) : Fld := ⟨0x1800000 + n * 0x4000, 9, 3⟩
def SL_LADDER.AUTO (n : Nat) : Fld := ⟨0x1800000 + n * 0x4000, 12, 1⟩
def SL_LADDER.APPLY (n : Nat) : Fld := ⟨0x1800000 + n * 0x4000, 13, 1⟩
def SL_LADDER.DWELL (n : Nat) : Fld := ⟨0x1800000 + n * 0x4000, 14, 8⟩
def SL_LADDER.RESTART (n : Nat) : Fld := ⟨0x1800000 + n * 0x4000, 22, 1⟩
/-- byte address -/ def SL_LADDER.ADR (n : Nat) : Nat := 0x1800000 + n * 0x4000
def SL_LADDER_STAT.STATE (n : Nat) : Fld := ⟨0x1800004 + n * 0x4000, 0, 2⟩
def SL_LADDER_STAT.FOUND (n : Nat) : Fld := ⟨0x1800004 + n * 0x4000, 2, 3⟩
def SL_LADDER_STAT.LOCKED (n : Nat) : Fld := ⟨0x1800004 + n * 0x4000, 5, 4⟩
/-- byte address -/ def SL_LADDER_STAT.ADR (n : Nat) : Nat := 0x1800004 + n * 0x4000
def SL_STAT.SIGNAL (n : Nat) : Fld := ⟨0x1800008 + n * 0x4000, 0, 1⟩
def SL_STAT.CDR_LOCK (n : Nat) : Fld := ⟨0x1800008 + n * 0x4000, 1, 1⟩
def SL_STAT.SYNC (n : Nat) : Fld := ⟨0x1800008 + n * 0x4000, 2, 1⟩
def SL_STAT.HI_BER (n : Nat) : Fld := ⟨0x1800008 + n * 0x4000, 3, 1⟩
def SL_STAT.TX_READY (n : Nat) : Fld := ⟨0x1800008 + n * 0x4000, 4, 1⟩
def SL_STAT.RX_READY (n : Nat) : Fld := ⟨0x1800008 + n * 0x4000, 5, 1⟩
def SL_STAT.TX_ASLEEP (n : Nat) : Fld := ⟨0x1800008 + n * 0x4000, 6, 1⟩
def SL_STAT.RX_ASLEEP (n : Nat) : Fld := ⟨0x1800008 + n * 0x4000, 7, 1⟩
def SL_STAT.PAT_SYNC (n : Nat) : Fld := ⟨0x1800008 + n * 0x4000, 8, 1⟩
/-- byte address -/ def SL_STAT.ADR (n : Nat) : Nat := 0x1800008 + n * 0x4000
def SL_SLEEP_CTRL.TX_LPI_SLEEP (n : Nat) : Fld := ⟨0x180000c + n * 0x4000, 0, 1⟩
def SL_SLEEP_CTRL.RX_LPI_SLEEP (n : Nat) : Fld := ⟨0x180000c + n * 0x4000, 1, 1⟩
def SL_SLEEP_CTRL.TX_FORCE (n : Nat) : Fld := ⟨0x180000c + n * 0x4000, 2, 1⟩
def SL_SLEEP_CTRL.RX_FORCE (n : Nat) : Fld := ⟨0x180000c + n * 0x4000, 3, 1⟩
/-- byte address -/ def SL_SLEEP_CTRL.ADR (n : Nat) : Nat := 0x180000c + n * 0x4000
def SL_TXEQ.PRE (n : Nat) : Fld := ⟨0x1800010 + n * 0x4000, 0, 4⟩
def SL_TXEQ.MAIN (n : Nat) : Fld := ⟨0x1800010 + n * 0x4000, 4, 6⟩
def SL_TXEQ.POST (n : Nat) : Fld := ⟨0x1800010 + n * 0x4000, 10, 5⟩
def SL_TXEQ.POL_INV (n : Nat) : Fld := ⟨0x1800010 + n * 0x4000, 15, 1⟩
/-- byte address -/ def SL_TXEQ.ADR (n : Nat) : Nat := 0x1800010 + n * 0x4000
def SL_RXEQ.ADAPT (n : Nat) : Fld := ⟨0x1800014 + n * 0x4000, 0, 2⟩
def SL_RXEQ.CTLE (n : Nat) : Fld := ⟨0x1800014 + n * 0x4000, 2, 4⟩
def SL_RXEQ.ACQ_TIME (n : Nat) : Fld := ⟨0x1800014 + n * 0x4000, 6, 4⟩
def SL_RXEQ.POL_INV (n : Nat) : Fld := ⟨0x1800014 + n * 0x4000, 10, 1⟩
/-- byte address -/ def SL_RXEQ.ADR (n : Nat) : Nat := 0x1800014 + n * 0x4000
def SL_RXEQ_STAT.ADAPT_DONE (n : Nat) : Fld := ⟨0x1800018 + n * 0x4000, 0, 1⟩
def SL_RXEQ_STAT.CTLE_NOW (n : Nat) : Fld := ⟨0x1800018 + n * 0x4000, 1, 4⟩
def SL_RXEQ_STAT.DFE1 (n : Nat) : Fld := ⟨0x1800018 + n * 0x4000, 5, 6⟩
/-- byte address -/ def SL_RXEQ_STAT.ADR (n : Nat) : Nat := 0x1800018 + n * 0x4000
def SL_EYE_CTRL.PHASE (n : Nat) : Fld := ⟨0x1800020 + n * 0x4000, 0, 6⟩
def SL_EYE_CTRL.VOLT (n : Nat) : Fld := ⟨0x1800020 + n * 0x4000, 6, 7⟩
def SL_EYE_CTRL.LOG2_BITS (n : Nat) : Fld := ⟨0x1800020 + n * 0x4000, 13, 5⟩
def SL_EYE_CTRL.START (n : Nat) : Fld := ⟨0x1800020 + n * 0x4000, 18, 1⟩
/-- byte address -/ def SL_EYE_CTRL.ADR (n : Nat) : Nat := 0x1800020 + n * 0x4000
def SL_EYE_STAT.DONE (n : Nat) : Fld := ⟨0x1800024 + n * 0x4000, 0, 1⟩
def SL_EYE_STAT.ERRORS (n : Nat) : Fld := ⟨0x1800024 + n * 0x4000, 1, 31⟩
/-- byte address -/ def SL_EYE_STAT.ADR (n : Nat) : Nat := 0x1800024 + n * 0x4000
def SL_PHY_LAT.RX_LAT (n : Nat) : Fld := ⟨0x1800050 + n * 0x4000, 0, 16⟩
def SL_PHY_LAT.TX_LAT (n : Nat) : Fld := ⟨0x1800050 + n * 0x4000, 16, 16⟩
/-- byte address -/ def SL_PHY_LAT.ADR (n : Nat) : Nat := 0x1800050 + n * 0x4000
def SL_EVT.LADDER_DONE (n : Nat) : Fld := ⟨0x1800060 + n * 0x4000, 0, 1⟩
def SL_EVT.SYNC_CHG (n : Nat) : Fld := ⟨0x1800060 + n * 0x4000, 1, 1⟩
def SL_EVT.HI_BER (n : Nat) : Fld := ⟨0x1800060 + n * 0x4000, 2, 1⟩
def SL_EVT.RM_OVF (n : Nat) : Fld := ⟨0x1800060 + n * 0x4000, 3, 1⟩
def SL_EVT.EQ_REJ (n : Nat) : Fld := ⟨0x1800060 + n * 0x4000, 4, 1⟩
def SL_EVT.PAT_LOSS (n : Nat) : Fld := ⟨0x1800060 + n * 0x4000, 5, 1⟩
/-- byte address -/ def SL_EVT.ADR (n : Nat) : Nat := 0x1800060 + n * 0x4000
def SL_EVT_EN.LADDER_DONE (n : Nat) : Fld := ⟨0x1800064 + n * 0x4000, 0, 1⟩
def SL_EVT_EN.SYNC_CHG (n : Nat) : Fld := ⟨0x1800064 + n * 0x4000, 1, 1⟩
def SL_EVT_EN.HI_BER (n : Nat) : Fld := ⟨0x1800064 + n * 0x4000, 2, 1⟩
def SL_EVT_EN.RM_OVF (n : Nat) : Fld := ⟨0x1800064 + n * 0x4000, 3, 1⟩
def SL_EVT_EN.EQ_REJ (n : Nat) : Fld := ⟨0x1800064 + n * 0x4000, 4, 1⟩
def SL_EVT_EN.PAT_LOSS (n : Nat) : Fld := ⟨0x1800064 + n * 0x4000, 5, 1⟩
/-- byte address -/ def SL_EVT_EN.ADR (n : Nat) : Nat := 0x1800064 + n * 0x4000
def SL_CNT.COUNT (n c : Nat) : Fld := ⟨0x1800080 + n * 0x4000 + c * 0x4, 0, 32⟩
/-- byte address -/ def SL_CNT.ADR (n c : Nat) : Nat := 0x1800080 + n * 0x4000 + c * 0x4
def RP_PHY_CTRL.RATES (p : Nat) : Fld := ⟨0x1c30000 + p * 0x40000, 0, 3⟩
def RP_PHY_CTRL.FORCE (p : Nat) : Fld := ⟨0x1c30000 + p * 0x40000, 3, 1⟩
def RP_PHY_CTRL.FORCE_RATE (p : Nat) : Fld := ⟨0x1c30000 + p * 0x40000, 4, 2⟩
def RP_PHY_CTRL.TRAIN (p : Nat) : Fld := ⟨0x1c30000 + p * 0x40000, 8, 10⟩
def RP_PHY_CTRL.RETRY (p : Nat) : Fld := ⟨0x1c30000 + p * 0x40000, 18, 8⟩
def RP_PHY_CTRL.RESTART (p : Nat) : Fld := ⟨0x1c30000 + p * 0x40000, 26, 1⟩
def RP_PHY_CTRL.UPPER (p : Nat) : Fld := ⟨0x1c30000 + p * 0x40000, 27, 1⟩
/-- byte address -/ def RP_PHY_CTRL.ADR (p : Nat) : Nat := 0x1c30000 + p * 0x40000
def RP_PHY_STAT.STATE (p : Nat) : Fld := ⟨0x1c30004 + p * 0x40000, 0, 3⟩
def RP_PHY_STAT.RATE (p : Nat) : Fld := ⟨0x1c30004 + p * 0x40000, 3, 2⟩
def RP_PHY_STAT.CLK_OK (p : Nat) : Fld := ⟨0x1c30004 + p * 0x40000, 5, 1⟩
def RP_PHY_STAT.TX_ASLEEP (p : Nat) : Fld := ⟨0x1c30004 + p * 0x40000, 6, 1⟩
def RP_PHY_STAT.RX_ASLEEP (p : Nat) : Fld := ⟨0x1c30004 + p * 0x40000, 7, 1⟩
def RP_PHY_STAT.PEER_RATES (p : Nat) : Fld := ⟨0x1c30004 + p * 0x40000, 8, 3⟩
def RP_PHY_STAT.PEER_UPPER (p : Nat) : Fld := ⟨0x1c30004 + p * 0x40000, 11, 1⟩
def RP_PHY_STAT.SKEW (p : Nat) : Fld := ⟨0x1c30004 + p * 0x40000, 12, 7⟩
/-- byte address -/ def RP_PHY_STAT.ADR (p : Nat) : Nat := 0x1c30004 + p * 0x40000
def RP_PHY_SLEEP.TX_SLEEP (p : Nat) : Fld := ⟨0x1c30008 + p * 0x40000, 0, 1⟩
def RP_PHY_SLEEP.RX_SLEEP (p : Nat) : Fld := ⟨0x1c30008 + p * 0x40000, 1, 1⟩
/-- byte address -/ def RP_PHY_SLEEP.ADR (p : Nat) : Nat := 0x1c30008 + p * 0x40000
def RP_PHY_LAT.RX_LAT (p : Nat) : Fld := ⟨0x1c3000c + p * 0x40000, 0, 16⟩
def RP_PHY_LAT.TX_LAT (p : Nat) : Fld := ⟨0x1c3000c + p * 0x40000, 16, 16⟩
/-- byte address -/ def RP_PHY_LAT.ADR (p : Nat) : Nat := 0x1c3000c + p * 0x40000
def RP_PHY_EVT.UP (p : Nat) : Fld := ⟨0x1c30010 + p * 0x40000, 0, 1⟩
def RP_PHY_EVT.DOWN (p : Nat) : Fld := ⟨0x1c30010 + p * 0x40000, 1, 1⟩
def RP_PHY_EVT.CLK_LOSS (p : Nat) : Fld := ⟨0x1c30010 + p * 0x40000, 2, 1⟩
def RP_PHY_EVT.FAIL (p : Nat) : Fld := ⟨0x1c30010 + p * 0x40000, 3, 1⟩
def RP_PHY_EVT.STUFF_ERR (p : Nat) : Fld := ⟨0x1c30010 + p * 0x40000, 4, 1⟩
def RP_PHY_EVT.PAT_LOSS (p : Nat) : Fld := ⟨0x1c30010 + p * 0x40000, 5, 1⟩
/-- byte address -/ def RP_PHY_EVT.ADR (p : Nat) : Nat := 0x1c30010 + p * 0x40000
def RP_PHY_EVT_EN.UP (p : Nat) : Fld := ⟨0x1c30014 + p * 0x40000, 0, 1⟩
def RP_PHY_EVT_EN.DOWN (p : Nat) : Fld := ⟨0x1c30014 + p * 0x40000, 1, 1⟩
def RP_PHY_EVT_EN.CLK_LOSS (p : Nat) : Fld := ⟨0x1c30014 + p * 0x40000, 2, 1⟩
def RP_PHY_EVT_EN.FAIL (p : Nat) : Fld := ⟨0x1c30014 + p * 0x40000, 3, 1⟩
def RP_PHY_EVT_EN.STUFF_ERR (p : Nat) : Fld := ⟨0x1c30014 + p * 0x40000, 4, 1⟩
def RP_PHY_EVT_EN.PAT_LOSS (p : Nat) : Fld := ⟨0x1c30014 + p * 0x40000, 5, 1⟩
/-- byte address -/ def RP_PHY_EVT_EN.ADR (p : Nat) : Nat := 0x1c30014 + p * 0x40000
def RP_PHY_CNT.COUNT (p c : Nat) : Fld := ⟨0x1c30020 + p * 0x40000 + c * 0x4, 0, 32⟩
/-- byte address -/ def RP_PHY_CNT.ADR (p c : Nat) : Nat := 0x1c30020 + p * 0x40000 + c * 0x4
def RP_LINK_CTRL.EN (p : Nat) : Fld := ⟨0x1c00000 + p * 0x40000, 0, 1⟩
def RP_LINK_CTRL.ALIGN_N (p : Nat) : Fld := ⟨0x1c00000 + p * 0x40000, 1, 3⟩
def RP_LINK_CTRL.LOSS_N (p : Nat) : Fld := ⟨0x1c00000 + p * 0x40000, 4, 3⟩
def RP_LINK_CTRL.DOWN_ACT (p : Nat) : Fld := ⟨0x1c00000 + p * 0x40000, 7, 1⟩
def RP_LINK_CTRL.XFER_EN (p : Nat) : Fld := ⟨0x1c00000 + p * 0x40000, 8, 1⟩
/-- byte address -/ def RP_LINK_CTRL.ADR (p : Nat) : Nat := 0x1c00000 + p * 0x40000
def RP_LINK_STAT.ALIGNED (p : Nat) : Fld := ⟨0x1c00004 + p * 0x40000, 0, 1⟩
def RP_LINK_STAT.PEER_DEV (p : Nat) : Fld := ⟨0x1c00004 + p * 0x40000, 1, 5⟩
def RP_LINK_STAT.DCREDIT (p : Nat) : Fld := ⟨0x1c00004 + p * 0x40000, 6, 10⟩
def RP_LINK_STAT.MCREDIT (p : Nat) : Fld := ⟨0x1c00004 + p * 0x40000, 16, 5⟩
def RP_LINK_STAT.STANDBY (p : Nat) : Fld := ⟨0x1c00004 + p * 0x40000, 21, 1⟩
/-- byte address -/ def RP_LINK_STAT.ADR (p : Nat) : Nat := 0x1c00004 + p * 0x40000
def RP_LINK_EVT.ALIGN_GAIN (p : Nat) : Fld := ⟨0x1c00008 + p * 0x40000, 0, 1⟩
def RP_LINK_EVT.ALIGN_LOSS (p : Nat) : Fld := ⟨0x1c00008 + p * 0x40000, 1, 1⟩
def RP_LINK_EVT.HOMING_RX (p : Nat) : Fld := ⟨0x1c00008 + p * 0x40000, 2, 1⟩
/-- byte address -/ def RP_LINK_EVT.ADR (p : Nat) : Nat := 0x1c00008 + p * 0x40000
def RP_LINK_EVT_EN.ALIGN_GAIN (p : Nat) : Fld := ⟨0x1c0000c + p * 0x40000, 0, 1⟩
def RP_LINK_EVT_EN.ALIGN_LOSS (p : Nat) : Fld := ⟨0x1c0000c + p * 0x40000, 1, 1⟩
def RP_LINK_EVT_EN.HOMING_RX (p : Nat) : Fld := ⟨0x1c0000c + p * 0x40000, 2, 1⟩
/-- byte address -/ def RP_LINK_EVT_EN.ADR (p : Nat) : Nat := 0x1c0000c + p * 0x40000
def RP_XFER_ASYM.ASYM_PS (p : Nat) : Fld := ⟨0x1c00010 + p * 0x40000, 0, 32⟩
/-- byte address -/ def RP_XFER_ASYM.ADR (p : Nat) : Nat := 0x1c00010 + p * 0x40000
def RP_LINK_CNT.COUNT (p c : Nat) : Fld := ⟨0x1c00100 + p * 0x40000 + c * 0x4, 0, 32⟩
/-- byte address -/ def RP_LINK_CNT.ADR (p c : Nat) : Nat := 0x1c00100 + p * 0x40000 + c * 0x4
def RP_HIER_CTRL.TREF_FOLLOW : Fld := ⟨0x1c20000, 0, 1⟩
def RP_HIER_CTRL.PAIR0_EN : Fld := ⟨0x1c20000, 1, 1⟩
def RP_HIER_CTRL.PAIR0_A : Fld := ⟨0x1c20000, 2, 2⟩
def RP_HIER_CTRL.PAIR0_B : Fld := ⟨0x1c20000, 4, 2⟩
def RP_HIER_CTRL.PAIR1_EN : Fld := ⟨0x1c20000, 6, 1⟩
def RP_HIER_CTRL.PAIR1_A : Fld := ⟨0x1c20000, 7, 2⟩
def RP_HIER_CTRL.PAIR1_B : Fld := ⟨0x1c20000, 9, 2⟩
def RP_HIER_CTRL.XFER_INT : Fld := ⟨0x1c20000, 11, 4⟩
def RP_HIER_CTRL.RACC_TIMEOUT : Fld := ⟨0x1c20000, 15, 8⟩
def RP_HIER_CTRL.EVT_REPEAT : Fld := ⟨0x1c20000, 23, 4⟩
/-- byte address -/ def RP_HIER_CTRL.ADR : Nat := 0x1c20000
def RP_HIER_EVT.PROBED : Fld := ⟨0x1c20008, 0, 1⟩
def RP_HIER_EVT.PAIR_SWITCH : Fld := ⟨0x1c20008, 1, 1⟩
def RP_HIER_EVT.UPPER_STEPPED : Fld := ⟨0x1c20008, 2, 1⟩
def RP_HIER_EVT.DEV_EVENT : Fld := ⟨0x1c20008, 3, 1⟩
def RP_HIER_EVT.GOP_END : Fld := ⟨0x1c20008, 4, 1⟩
def RP_HIER_EVT.RACC_DONE : Fld := ⟨0x1c20008, 5, 1⟩
def RP_HIER_EVT.PROBE_DONE : Fld := ⟨0x1c20008, 6, 1⟩
/-- byte address -/ def RP_HIER_EVT.ADR : Nat := 0x1c20008
def RP_HIER_EVT_EN.PROBED : Fld := ⟨0x1c2000c, 0, 1⟩
def RP_HIER_EVT_EN.PAIR_SWITCH : Fld := ⟨0x1c2000c, 1, 1⟩
def RP_HIER_EVT_EN.UPPER_STEPPED : Fld := ⟨0x1c2000c, 2, 1⟩
def RP_HIER_EVT_EN.DEV_EVENT : Fld := ⟨0x1c2000c, 3, 1⟩
def RP_HIER_EVT_EN.GOP_END : Fld := ⟨0x1c2000c, 4, 1⟩
def RP_HIER_EVT_EN.RACC_DONE : Fld := ⟨0x1c2000c, 5, 1⟩
def RP_HIER_EVT_EN.PROBE_DONE : Fld := ⟨0x1c2000c, 6, 1⟩
/-- byte address -/ def RP_HIER_EVT_EN.ADR : Nat := 0x1c2000c
def RP_ROUTE.PORT (d : Nat) : Fld := ⟨0x1c20100 + d * 0x4, 0, 2⟩
def RP_ROUTE.VALID (d : Nat) : Fld := ⟨0x1c20100 + d * 0x4, 2, 1⟩
/-- byte address -/ def RP_ROUTE.ADR (d : Nat) : Nat := 0x1c20100 + d * 0x4
def RP_PROBE_CMD.PORT : Fld := ⟨0x1c20200, 0, 2⟩
def RP_PROBE_CMD.ADDR : Fld := ⟨0x1c20200, 2, 5⟩
def RP_PROBE_CMD.GO : Fld := ⟨0x1c20200, 7, 1⟩
/-- byte address -/ def RP_PROBE_CMD.ADR : Nat := 0x1c20200
def RP_PROBE_STAT.BUSY : Fld := ⟨0x1c20204, 0, 1⟩
def RP_PROBE_STAT.STATUS : Fld := ⟨0x1c20204, 1, 3⟩
def RP_PROBE_STAT.PEER_ADDR : Fld := ⟨0x1c20204, 4, 5⟩
def RP_PROBE_STAT.PEER_PART : Fld := ⟨0x1c20204, 9, 16⟩
/-- byte address -/ def RP_PROBE_STAT.ADR : Nat := 0x1c20204
def RP_RACC_CMD.OP (k : Nat) : Fld := ⟨0x1c20300 + k * 0x10, 0, 1⟩
def RP_RACC_CMD.DEV (k : Nat) : Fld := ⟨0x1c20300 + k * 0x10, 1, 5⟩
def RP_RACC_CMD.GO (k : Nat) : Fld := ⟨0x1c20300 + k * 0x10, 6, 1⟩
/-- byte address -/ def RP_RACC_CMD.ADR (k : Nat) : Nat := 0x1c20300 + k * 0x10
def RP_RACC_STAT.BUSY (k : Nat) : Fld := ⟨0x1c2030c + k * 0x10, 0, 1⟩
def RP_RACC_STAT.STATUS (k : Nat) : Fld := ⟨0x1c2030c + k * 0x10, 1, 2⟩
/-- byte address -/ def RP_RACC_STAT.ADR (k : Nat) : Nat := 0x1c2030c + k * 0x10
def RP_GOP_CTRL.OP : Fld := ⟨0x1c20500, 0, 2⟩
def RP_GOP_CTRL.RESET_SELF : Fld := ⟨0x1c20500, 2, 1⟩
def RP_GOP_CTRL.GO : Fld := ⟨0x1c20500, 3, 1⟩
def RP_GOP_CTRL.ABORT : Fld := ⟨0x1c20500, 4, 1⟩
/-- byte address -/ def RP_GOP_CTRL.ADR : Nat := 0x1c20500
def RP_GOP_HOP.HOP_NS : Fld := ⟨0x1c20514, 0, 16⟩
def RP_GOP_HOP.DEPTH : Fld := ⟨0x1c20514, 16, 2⟩
/-- byte address -/ def RP_GOP_HOP.ADR : Nat := 0x1c20514
def RP_GOP_STAT.STATE : Fld := ⟨0x1c20518, 0, 3⟩
def RP_GOP_STAT.STATUS : Fld := ⟨0x1c20518, 3, 8⟩
def RP_GOP_STAT.FAIL_DEV : Fld := ⟨0x1c20518, 11, 5⟩
def RP_GOP_STAT.OP_ID : Fld := ⟨0x1c20518, 16, 8⟩
/-- byte address -/ def RP_GOP_STAT.ADR : Nat := 0x1c20518
def RP_SNAP_TIME.TS (w : Nat) : Fld := ⟨0x1c20610 + w * 0x4, 0, 32⟩
/-- byte address -/ def RP_SNAP_TIME.ADR (w : Nat) : Nat := 0x1c20610 + w * 0x4
def HIF_STARVE.TIMEOUT : Fld := ⟨0x1d00000, 0, 20⟩
/-- byte address -/ def HIF_STARVE.ADR : Nat := 0x1d00000
def HIF_IRQ_RESEND.RESEND_US : Fld := ⟨0x1d00004, 0, 16⟩
/-- byte address -/ def HIF_IRQ_RESEND.ADR : Nat := 0x1d00004
def HIF_EVT.RING_HALT : Fld := ⟨0x1d00010, 0, 1⟩
def HIF_EVT.DMA_ERR : Fld := ⟨0x1d00010, 1, 1⟩
def HIF_EVT.REFUSED : Fld := ⟨0x1d00010, 2, 1⟩
def HIF_EVT.PCIE_LINK : Fld := ⟨0x1d00010, 3, 1⟩
/-- byte address -/ def HIF_EVT.ADR : Nat := 0x1d00010
def HIF_EVT_EN.RING_HALT : Fld := ⟨0x1d00014, 0, 1⟩
def HIF_EVT_EN.DMA_ERR : Fld := ⟨0x1d00014, 1, 1⟩
def HIF_EVT_EN.REFUSED : Fld := ⟨0x1d00014, 2, 1⟩
def HIF_EVT_EN.PCIE_LINK : Fld := ⟨0x1d00014, 3, 1⟩
/-- byte address -/ def HIF_EVT_EN.ADR : Nat := 0x1d00014
def HIF_CNT.COUNT (c : Nat) : Fld := ⟨0x1d00020 + c * 0x4, 0, 32⟩
/-- byte address -/ def HIF_CNT.ADR (c : Nat) : Nat := 0x1d00020 + c * 0x4
def HIF_HPORT.RX_RING (k : Nat) : Fld := ⟨0x1d00040 + k * 0x4, 0, 8⟩
/-- byte address -/ def HIF_HPORT.ADR (k : Nat) : Nat := 0x1d00040 + k * 0x4
def HIF_IRQ_ROUTE.DOM (b : Nat) : Fld := ⟨0x1d00080 + b * 0x4, 0, 4⟩
def HIF_IRQ_ROUTE.VEC (b : Nat) : Fld := ⟨0x1d00080 + b * 0x4, 4, 4⟩
def HIF_IRQ_ROUTE.MSG_EN (b : Nat) : Fld := ⟨0x1d00080 + b * 0x4, 8, 1⟩
def HIF_IRQ_ROUTE.PIN_EN (b : Nat) : Fld := ⟨0x1d00080 + b * 0x4, 9, 1⟩
/-- byte address -/ def HIF_IRQ_ROUTE.ADR (b : Nat) : Nat := 0x1d00080 + b * 0x4
def HIF_PCIE_STAT.LINK_UP : Fld := ⟨0x1d000c0, 0, 1⟩
def HIF_PCIE_STAT.SPEED : Fld := ⟨0x1d000c0, 1, 3⟩
def HIF_PCIE_STAT.WIDTH : Fld := ⟨0x1d000c0, 4, 3⟩
def HIF_PCIE_STAT.BME : Fld := ⟨0x1d000c0, 7, 1⟩
/-- byte address -/ def HIF_PCIE_STAT.ADR : Nat := 0x1d000c0
def HIF_DOM_CFG.BIND (d : Nat) : Fld := ⟨0x1d00100 + d * 0x20, 0, 2⟩
def HIF_DOM_CFG.BACKOFF_DIS (d : Nat) : Fld := ⟨0x1d00100 + d * 0x20, 2, 1⟩
/-- byte address -/ def HIF_DOM_CFG.ADR (d : Nat) : Nat := 0x1d00100 + d * 0x20
def HIF_DOM_POLL.POLL_INT (d : Nat) : Fld := ⟨0x1d00104 + d * 0x20, 0, 20⟩
/-- byte address -/ def HIF_DOM_POLL.ADR (d : Nat) : Nat := 0x1d00104 + d * 0x20
def HIF_DOM_STAT.POLL_RTT (d : Nat) : Fld := ⟨0x1d00118 + d * 0x20, 0, 16⟩
def HIF_DOM_STAT.BACKED_OFF (d : Nat) : Fld := ⟨0x1d00118 + d * 0x20, 16, 1⟩
def HIF_DOM_STAT.POLL_ERR (d : Nat) : Fld := ⟨0x1d00118 + d * 0x20, 17, 1⟩
/-- byte address -/ def HIF_DOM_STAT.ADR (d : Nat) : Nat := 0x1d00118 + d * 0x20
def HIF_RING_CFG.KIND (r : Nat) : Fld := ⟨0x1d01000 + r * 0x20, 0, 3⟩
def HIF_RING_CFG.LOG2_SIZE (r : Nat) : Fld := ⟨0x1d01000 + r * 0x20, 3, 5⟩
def HIF_RING_CFG.HPORT (r : Nat) : Fld := ⟨0x1d01000 + r * 0x20, 8, 2⟩
def HIF_RING_CFG.CHANNEL (r : Nat) : Fld := ⟨0x1d01000 + r * 0x20, 10, 2⟩
def HIF_RING_CFG.MSG (r : Nat) : Fld := ⟨0x1d01000 + r * 0x20, 12, 1⟩
def HIF_RING_CFG.EVT_RING (r : Nat) : Fld := ⟨0x1d01000 + r * 0x20, 13, 8⟩
def HIF_RING_CFG.EVT_ALL (r : Nat) : Fld := ⟨0x1d01000 + r * 0x20, 21, 1⟩
def HIF_RING_CFG.TS_EN (r : Nat) : Fld := ⟨0x1d01000 + r * 0x20, 22, 1⟩
/-- byte address -/ def HIF_RING_CFG.ADR (r : Nat) : Nat := 0x1d01000 + r * 0x20
def HIF_RING_BUF.BUF_SIZE (r : Nat) : Fld := ⟨0x1d0100c + r * 0x20, 0, 15⟩
/-- byte address -/ def HIF_RING_BUF.ADR (r : Nat) : Nat := 0x1d0100c + r * 0x20
def HIF_RING_IRQ.VEC (r : Nat) : Fld := ⟨0x1d01010 + r * 0x20, 0, 4⟩
def HIF_RING_IRQ.IRQ_EN (r : Nat) : Fld := ⟨0x1d01010 + r * 0x20, 4, 1⟩
def HIF_RING_IRQ.MOD_CNT (r : Nat) : Fld := ⟨0x1d01010 + r * 0x20, 8, 8⟩
def HIF_RING_IRQ.MOD_T (r : Nat) : Fld := ⟨0x1d01010 + r * 0x20, 16, 16⟩
/-- byte address -/ def HIF_RING_IRQ.ADR (r : Nat) : Nat := 0x1d01010 + r * 0x20
def HIF_RING_CTRL.EN (r : Nat) : Fld := ⟨0x1d01014 + r * 0x20, 0, 1⟩
/-- byte address -/ def HIF_RING_CTRL.ADR (r : Nat) : Nat := 0x1d01014 + r * 0x20
def HIF_RING_STAT.STATUS (r : Nat) : Fld := ⟨0x1d01018 + r * 0x20, 0, 8⟩
def HIF_RING_STAT.HALTED (r : Nat) : Fld := ⟨0x1d01018 + r * 0x20, 8, 1⟩
def HIF_RING_STAT.RUNNING (r : Nat) : Fld := ⟨0x1d01018 + r * 0x20, 9, 1⟩
/-- byte address -/ def HIF_RING_STAT.ADR (r : Nat) : Nat := 0x1d01018 + r * 0x20
def HIF_RING_ERR_IDX.IDX (r : Nat) : Fld := ⟨0x1d03000 + r * 0x4, 0, 32⟩
/-- byte address -/ def HIF_RING_ERR_IDX.ADR (r : Nat) : Nat := 0x1d03000 + r * 0x4
def HIF_RING_CNT.COUNT (r c : Nat) : Fld := ⟨0x1d04000 + r * 0x10 + c * 0x4, 0, 32⟩
/-- byte address -/ def HIF_RING_CNT.ADR (r c : Nat) : Nat := 0x1d04000 + r * 0x10 + c * 0x4
def GEN_CMD.OP : Fld := ⟨0x10000, 0, 4⟩
def GEN_CMD.NO_CONFIRM : Fld := ⟨0x10000, 4, 1⟩
def GEN_CMD.EXPECT : Fld := ⟨0x10000, 16, 16⟩
/-- byte address -/ def GEN_CMD.ADR : Nat := 0x10000
def GEN_STAT.STATUS : Fld := ⟨0x10004, 0, 8⟩
def GEN_STAT.BUSY : Fld := ⟨0x10004, 8, 1⟩
def GEN_STAT.IGNORED : Fld := ⟨0x10004, 9, 1⟩
def GEN_STAT.PENDING : Fld := ⟨0x10004, 10, 1⟩
def GEN_STAT.ARMED : Fld := ⟨0x10004, 11, 1⟩
def GEN_STAT.ARM_SRC : Fld := ⟨0x10004, 12, 1⟩
def GEN_STAT.CONFIRMED : Fld := ⟨0x10004, 13, 1⟩
def GEN_STAT.HELD_KIND : Fld := ⟨0x10004, 14, 2⟩
def GEN_STAT.STAGE_OPEN : Fld := ⟨0x10004, 16, 1⟩
def GEN_STAT.PREV_RETIRED : Fld := ⟨0x10004, 17, 1⟩
def GEN_STAT.READY : Fld := ⟨0x10004, 18, 1⟩
def GEN_STAT.ROLLBACK_CAUSE : Fld := ⟨0x10004, 19, 2⟩
/-- byte address -/ def GEN_STAT.ADR : Nat := 0x10004
def GEN_STAGE_NUM.NUM : Fld := ⟨0x10014, 0, 32⟩
/-- byte address -/ def GEN_STAGE_NUM.ADR : Nat := 0x10014
def GEN_CONFIRM_T.TIMEOUT : Fld := ⟨0x10030, 0, 16⟩
def GEN_CONFIRM_T.REQUIRE : Fld := ⟨0x10030, 16, 1⟩
/-- byte address -/ def GEN_CONFIRM_T.ADR : Nat := 0x10030
def GEN_CONFIRM_LEFT.MS : Fld := ⟨0x10034, 0, 32⟩
/-- byte address -/ def GEN_CONFIRM_LEFT.ADR : Nat := 0x10034
def GEN_COMMIT_TS.TS (w : Nat) : Fld := ⟨0x10040 + w * 0x4, 0, 32⟩
/-- byte address -/ def GEN_COMMIT_TS.ADR (w : Nat) : Nat := 0x10040 + w * 0x4
def GEN_CHECK_STAT.FIRST_STATUS : Fld := ⟨0x10050, 0, 8⟩
def GEN_CHECK_STAT.FIRST_SRC : Fld := ⟨0x10050, 8, 2⟩
def GEN_CHECK_STAT.FIRST_TABLE : Fld := ⟨0x10050, 10, 4⟩
def GEN_CHECK_STAT.FIRST_LOC : Fld := ⟨0x10050, 14, 18⟩
/-- byte address -/ def GEN_CHECK_STAT.ADR : Nat := 0x10050
def GEN_CHECK_CNT.COUNT : Fld := ⟨0x10054, 0, 17⟩
/-- byte address -/ def GEN_CHECK_CNT.ADR : Nat := 0x10054
def GEN_EVT.COMMITTED : Fld := ⟨0x10060, 0, 1⟩
def GEN_EVT.REJECTED : Fld := ⟨0x10060, 1, 1⟩
def GEN_EVT.CONFIRMED : Fld := ⟨0x10060, 2, 1⟩
def GEN_EVT.ROLLED_BACK : Fld := ⟨0x10060, 3, 1⟩
def GEN_EVT.DISCARDED : Fld := ⟨0x10060, 4, 1⟩
def GEN_EVT.FW_FALLBACK : Fld := ⟨0x10060, 5, 1⟩
/-- byte address -/ def GEN_EVT.ADR : Nat := 0x10060
def GEN_EVT_EN.COMMITTED : Fld := ⟨0x10064, 0, 1⟩
def GEN_EVT_EN.REJECTED : Fld := ⟨0x10064, 1, 1⟩
def GEN_EVT_EN.CONFIRMED : Fld := ⟨0x10064, 2, 1⟩
def GEN_EVT_EN.ROLLED_BACK : Fld := ⟨0x10064, 3, 1⟩
def GEN_EVT_EN.DISCARDED : Fld := ⟨0x10064, 4, 1⟩
def GEN_EVT_EN.FW_FALLBACK : Fld := ⟨0x10064, 5, 1⟩
/-- byte address -/ def GEN_EVT_EN.ADR : Nat := 0x10064
def GEN_CNT.COUNT (c : Nat) : Fld := ⟨0x10070 + c * 0x4, 0, 32⟩
/-- byte address -/ def GEN_CNT.ADR (c : Nat) : Nat := 0x10070 + c * 0x4
def GEN_FW_CTRL.TRIAL_SLOT : Fld := ⟨0x10100, 0, 1⟩
def GEN_FW_CTRL.TRIAL : Fld := ⟨0x10100, 1, 1⟩
def GEN_FW_CTRL.CONFIRM : Fld := ⟨0x10100, 2, 1⟩
/-- byte address -/ def GEN_FW_CTRL.ADR : Nat := 0x10100
def GEN_FW_STAT.BOOTED : Fld := ⟨0x10104, 0, 1⟩
def GEN_FW_STAT.TRIAL_RUN : Fld := ⟨0x10104, 1, 1⟩
def GEN_FW_STAT.FALLBACK : Fld := ⟨0x10104, 2, 1⟩
def GEN_FW_STAT.FB_CAUSE : Fld := ⟨0x10104, 3, 2⟩
def GEN_FW_STAT.PREFERRED : Fld := ⟨0x10104, 5, 1⟩
def GEN_FW_STAT.REC_BUSY : Fld := ⟨0x10104, 6, 1⟩
/-- byte address -/ def GEN_FW_STAT.ADR : Nat := 0x10104
def GEN_FW_TIMEOUT.SEC : Fld := ⟨0x10108, 0, 16⟩
/-- byte address -/ def GEN_FW_TIMEOUT.ADR : Nat := 0x10108
def DMC_CTRL.EN : Fld := ⟨0x1e00000, 0, 1⟩
def DMC_CTRL.INIT : Fld := ⟨0x1e00000, 1, 1⟩
def DMC_CTRL.KEEP : Fld := ⟨0x1e00000, 2, 1⟩
def DMC_CTRL.RATE : Fld := ⟨0x1e00000, 3, 2⟩
def DMC_CTRL.DENSITY : Fld := ⟨0x1e00000, 5, 3⟩
/-- byte address -/ def DMC_CTRL.ADR : Nat := 0x1e00000
def DMC_STAT.STATE : Fld := ⟨0x1e00004, 0, 3⟩
def DMC_STAT.FAIL_CODE : Fld := ⟨0x1e00004, 8, 4⟩
def DMC_STAT.FAIL_CH : Fld := ⟨0x1e00004, 12, 4⟩
def DMC_STAT.KEPT : Fld := ⟨0x1e00004, 16, 1⟩
/-- byte address -/ def DMC_STAT.ADR : Nat := 0x1e00004
def DMC_WQ.HI_WM : Fld := ⟨0x1e00008, 0, 7⟩
def DMC_WQ.LO_WM : Fld := ⟨0x1e00008, 7, 7⟩
/-- byte address -/ def DMC_WQ.ADR : Nat := 0x1e00008
def DMC_URG.U1 : Fld := ⟨0x1e0000c, 0, 10⟩
def DMC_URG.U2 : Fld := ⟨0x1e0000c, 10, 10⟩
def DMC_URG.U3 : Fld := ⟨0x1e0000c, 20, 10⟩
/-- byte address -/ def DMC_URG.ADR : Nat := 0x1e0000c
def DMC_REF.REFI : Fld := ⟨0x1e00010, 0, 13⟩
def DMC_REF.RFCAB : Fld := ⟨0x1e00010, 13, 9⟩
def DMC_REF.POLL_MS : Fld := ⟨0x1e00010, 22, 5⟩
/-- byte address -/ def DMC_REF.ADR : Nat := 0x1e00010
def DMC_RH.THRESH : Fld := ⟨0x1e00014, 0, 16⟩
def DMC_RH.RANGE2 : Fld := ⟨0x1e00014, 16, 1⟩
def DMC_RH.RFM_DIS : Fld := ⟨0x1e00014, 17, 1⟩
/-- byte address -/ def DMC_RH.ADR : Nat := 0x1e00014
def DMC_RETRAIN.RETRAIN_MS : Fld := ⟨0x1e00018, 0, 10⟩
/-- byte address -/ def DMC_RETRAIN.ADR : Nat := 0x1e00018
def DMC_PORT_REG.RATE (p : Nat) : Fld := ⟨0x1e00044 + p * 0x4, 0, 9⟩
def DMC_PORT_REG.BURST (p : Nat) : Fld := ⟨0x1e00044 + p * 0x4, 9, 16⟩
/-- byte address -/ def DMC_PORT_REG.ADR (p : Nat) : Nat := 0x1e00044 + p * 0x4
def DMC_BAD_ADDR_CNT.COUNT : Fld := ⟨0x1e00068, 0, 32⟩
/-- byte address -/ def DMC_BAD_ADDR_CNT.ADR : Nat := 0x1e00068
def DMC_EVT.ECC_UE : Fld := ⟨0x1e00070, 0, 1⟩
def DMC_EVT.TEMP_RANGE : Fld := ⟨0x1e00070, 1, 1⟩
def DMC_EVT.TEMP_LIMIT : Fld := ⟨0x1e00070, 2, 1⟩
def DMC_EVT.INIT_DONE : Fld := ⟨0x1e00070, 3, 1⟩
def DMC_EVT.CFG_REJ : Fld := ⟨0x1e00070, 4, 1⟩
def DMC_EVT.LAT_MISS : Fld := ⟨0x1e00070, 5, 1⟩
/-- byte address -/ def DMC_EVT.ADR : Nat := 0x1e00070
def DMC_EVT_EN.ECC_UE : Fld := ⟨0x1e00074, 0, 1⟩
def DMC_EVT_EN.TEMP_RANGE : Fld := ⟨0x1e00074, 1, 1⟩
def DMC_EVT_EN.TEMP_LIMIT : Fld := ⟨0x1e00074, 2, 1⟩
def DMC_EVT_EN.INIT_DONE : Fld := ⟨0x1e00074, 3, 1⟩
def DMC_EVT_EN.CFG_REJ : Fld := ⟨0x1e00074, 4, 1⟩
def DMC_EVT_EN.LAT_MISS : Fld := ⟨0x1e00074, 5, 1⟩
/-- byte address -/ def DMC_EVT_EN.ADR : Nat := 0x1e00074
def DMC_CH_STAT.OWED (c : Nat) : Fld := ⟨0x1e00100 + c * 0x10, 0, 4⟩
def DMC_CH_STAT.DOUBLED (c : Nat) : Fld := ⟨0x1e00100 + c * 0x10, 4, 1⟩
def DMC_CH_STAT.MR4_RATE (c : Nat) : Fld := ⟨0x1e00100 + c * 0x10, 5, 5⟩
def DMC_CH_STAT.RFM_SUP (c : Nat) : Fld := ⟨0x1e00100 + c * 0x10, 10, 1⟩
def DMC_CH_STAT.RQ (c : Nat) : Fld := ⟨0x1e00100 + c * 0x10, 11, 7⟩
def DMC_CH_STAT.WQ (c : Nat) : Fld := ⟨0x1e00100 + c * 0x10, 18, 7⟩
def DMC_CH_STAT.POUR (c : Nat) : Fld := ⟨0x1e00100 + c * 0x10, 25, 1⟩
/-- byte address -/ def DMC_CH_STAT.ADR (c : Nat) : Nat := 0x1e00100 + c * 0x10
def DMC_CNT.COUNT (c k : Nat) : Fld := ⟨0x1e00200 + c * 0x40 + k * 0x4, 0, 32⟩
/-- byte address -/ def DMC_CNT.ADR (c k : Nat) : Nat := 0x1e00200 + c * 0x40 + k * 0x4
def PWR_CTRL.OFF : Fld := ⟨0x20000, 0, 1⟩
def PWR_CTRL.THROT_EN : Fld := ⟨0x20000, 1, 1⟩
def PWR_CTRL.KEY : Fld := ⟨0x20000, 16, 16⟩
/-- byte address -/ def PWR_CTRL.ADR : Nat := 0x20000
def PWR_STAT.SEQ : Fld := ⟨0x20004, 0, 3⟩
def PWR_STAT.STAGE : Fld := ⟨0x20004, 3, 3⟩
def PWR_STAT.GOOD : Fld := ⟨0x20004, 6, 8⟩
def PWR_STAT.DG : Fld := ⟨0x20004, 14, 1⟩
def PWR_STAT.THROTTLE : Fld := ⟨0x20004, 15, 1⟩
def PWR_STAT.PORST : Fld := ⟨0x20004, 16, 1⟩
def PWR_STAT.SEATED : Fld := ⟨0x20004, 17, 1⟩
def PWR_STAT.DOWN_CAUSE : Fld := ⟨0x20004, 18, 5⟩
/-- byte address -/ def PWR_STAT.ADR : Nat := 0x20004
def PWR_SEQ.SS_RATE : Fld := ⟨0x20008, 0, 8⟩
def PWR_SEQ.STAGE_GAP : Fld := ⟨0x20008, 8, 8⟩
def PWR_SEQ.HP_DEB : Fld := ⟨0x20008, 16, 8⟩
def PWR_SEQ.RETRY : Fld := ⟨0x20008, 24, 3⟩
/-- byte address -/ def PWR_SEQ.ADR : Nat := 0x20008
def PWR_SEQ2.HP_GRACE : Fld := ⟨0x2000c, 0, 12⟩
def PWR_SEQ2.OFF_S : Fld := ⟨0x2000c, 12, 16⟩
/-- byte address -/ def PWR_SEQ2.ADR : Nat := 0x2000c
def PWR_EVT.RAIL_FAULT : Fld := ⟨0x20010, 0, 1⟩
def PWR_EVT.DG : Fld := ⟨0x20010, 1, 1⟩
def PWR_EVT.THERM_WARN : Fld := ⟨0x20010, 2, 1⟩
def PWR_EVT.THERM_SHUT : Fld := ⟨0x20010, 3, 1⟩
def PWR_EVT.CFG_REJ : Fld := ⟨0x20010, 4, 1⟩
def PWR_EVT.WAKE_LATE : Fld := ⟨0x20010, 5, 1⟩
/-- byte address -/ def PWR_EVT.ADR : Nat := 0x20010
def PWR_EVT_EN.RAIL_FAULT : Fld := ⟨0x20014, 0, 1⟩
def PWR_EVT_EN.DG : Fld := ⟨0x20014, 1, 1⟩
def PWR_EVT_EN.THERM_WARN : Fld := ⟨0x20014, 2, 1⟩
def PWR_EVT_EN.THERM_SHUT : Fld := ⟨0x20014, 3, 1⟩
def PWR_EVT_EN.CFG_REJ : Fld := ⟨0x20014, 4, 1⟩
def PWR_EVT_EN.WAKE_LATE : Fld := ⟨0x20014, 5, 1⟩
/-- byte address -/ def PWR_EVT_EN.ADR : Nat := 0x20014
def PWR_CNT.COUNT (c : Nat) : Fld := ⟨0x20020 + c * 0x4, 0, 32⟩
/-- byte address -/ def PWR_CNT.ADR (c : Nat) : Nat := 0x20020 + c * 0x4
def PWR_RAIL_VSET.VSET (k : Nat) : Fld := ⟨0x20100 + k * 0x20, 0, 11⟩
/-- byte address -/ def PWR_RAIL_VSET.ADR (k : Nat) : Nat := 0x20100 + k * 0x20
def PWR_RAIL_LOOP.KP (k : Nat) : Fld := ⟨0x20104 + k * 0x20, 0, 8⟩
def PWR_RAIL_LOOP.KI (k : Nat) : Fld := ⟨0x20104 + k * 0x20, 8, 8⟩
def PWR_RAIL_LOOP.KD (k : Nat) : Fld := ⟨0x20104 + k * 0x20, 16, 8⟩
def PWR_RAIL_LOOP.FSW (k : Nat) : Fld := ⟨0x20104 + k * 0x20, 24, 8⟩
/-- byte address -/ def PWR_RAIL_LOOP.ADR (k : Nat) : Nat := 0x20104 + k * 0x20
def PWR_RAIL_LIM.ILIM (k : Nat) : Fld := ⟨0x20108 + k * 0x20, 0, 8⟩
def PWR_RAIL_LIM.UV (k : Nat) : Fld := ⟨0x20108 + k * 0x20, 8, 4⟩
def PWR_RAIL_LIM.OV (k : Nat) : Fld := ⟨0x20108 + k * 0x20, 12, 4⟩
/-- byte address -/ def PWR_RAIL_LIM.ADR (k : Nat) : Nat := 0x20108 + k * 0x20
def PWR_RAIL_TEL.VOUT (k : Nat) : Fld := ⟨0x2010c + k * 0x20, 0, 12⟩
def PWR_RAIL_TEL.IOUT (k : Nat) : Fld := ⟨0x2010c + k * 0x20, 12, 12⟩
/-- byte address -/ def PWR_RAIL_TEL.ADR (k : Nat) : Nat := 0x2010c + k * 0x20
def PWR_RAIL_STAT.GOOD (k : Nat) : Fld := ⟨0x20110 + k * 0x20, 0, 1⟩
def PWR_RAIL_STAT.FAULT (k : Nat) : Fld := ⟨0x20110 + k * 0x20, 1, 3⟩
def PWR_RAIL_STAT.PHASES (k : Nat) : Fld := ⟨0x20110 + k * 0x20, 4, 8⟩
/-- byte address -/ def PWR_RAIL_STAT.ADR (k : Nat) : Nat := 0x20110 + k * 0x20
def PWR_WAKE_BKT.RATE (b : Nat) : Fld := ⟨0x20200 + b * 0x4, 0, 16⟩
def PWR_WAKE_BKT.DEPTH (b : Nat) : Fld := ⟨0x20200 + b * 0x4, 16, 16⟩
/-- byte address -/ def PWR_WAKE_BKT.ADR (b : Nat) : Nat := 0x20200 + b * 0x4
def PWR_WAKE_STEP.STEP_A (s : Nat) : Fld := ⟨0x20220 + s * 0x4, 0, 16⟩
def PWR_WAKE_STEP.STEP_B (s : Nat) : Fld := ⟨0x20220 + s * 0x4, 16, 16⟩
/-- byte address -/ def PWR_WAKE_STEP.ADR (s : Nat) : Nat := 0x20220 + s * 0x4
def PWR_WAKE_STAT.QUEUED : Fld := ⟨0x20240, 0, 8⟩
def PWR_WAKE_STAT.MAX_DELAY : Fld := ⟨0x20240, 8, 16⟩
/-- byte address -/ def PWR_WAKE_STAT.ADR : Nat := 0x20240
def PWR_GATE.SLICE : Fld := ⟨0x20250, 0, 4⟩
/-- byte address -/ def PWR_GATE.ADR : Nat := 0x20250
def PWR_DG_CFG.DG_TH : Fld := ⟨0x20400, 0, 7⟩
def PWR_DG_CFG.DG_CLR : Fld := ⟨0x20400, 8, 8⟩
/-- byte address -/ def PWR_DG_CFG.ADR : Nat := 0x20400
def PWR_WDOG.TIMEOUT : Fld := ⟨0x20600, 0, 16⟩
def PWR_WDOG.KICK : Fld := ⟨0x20600, 16, 16⟩
/-- byte address -/ def PWR_WDOG.ADR : Nat := 0x20600
def TRU_BOOT_STAT.STATE : Fld := ⟨0x30000, 0, 2⟩
def TRU_BOOT_STAT.IDENT_OK : Fld := ⟨0x30000, 2, 1⟩
def TRU_BOOT_STAT.CERT_OK : Fld := ⟨0x30000, 3, 1⟩
def TRU_BOOT_STAT.REC_BAD : Fld := ⟨0x30000, 4, 1⟩
def TRU_BOOT_STAT.KEY_SLOT : Fld := ⟨0x30000, 5, 1⟩
def TRU_BOOT_STAT.SVN : Fld := ⟨0x30000, 6, 7⟩
def TRU_BOOT_STAT.LOG_COUNT : Fld := ⟨0x30000, 13, 7⟩
/-- byte address -/ def TRU_BOOT_STAT.ADR : Nat := 0x30000
def TRU_BOOT_FAIL.A_CAUSE : Fld := ⟨0x30004, 0, 3⟩
def TRU_BOOT_FAIL.B_CAUSE : Fld := ⟨0x30004, 3, 3⟩
/-- byte address -/ def TRU_BOOT_FAIL.ADR : Nat := 0x30004
def TRU_FUSE_STAT.ARB : Fld := ⟨0x30010, 0, 7⟩
def TRU_FUSE_STAT.REVOKE : Fld := ⟨0x30010, 7, 2⟩
def TRU_FUSE_STAT.DEBUG_LOCK : Fld := ⟨0x30010, 9, 1⟩
/-- byte address -/ def TRU_FUSE_STAT.ADR : Nat := 0x30010
def TRU_CMD.OP : Fld := ⟨0x30020, 0, 4⟩
def TRU_CMD.ARG : Fld := ⟨0x30020, 4, 8⟩
/-- byte address -/ def TRU_CMD.ADR : Nat := 0x30020
def TRU_STAT.STATUS : Fld := ⟨0x30024, 0, 8⟩
def TRU_STAT.BUSY : Fld := ⟨0x30024, 8, 1⟩
def TRU_STAT.IGNORED : Fld := ⟨0x30024, 9, 1⟩
/-- byte address -/ def TRU_STAT.ADR : Nat := 0x30024
def TRU_EVT.CMD_DONE : Fld := ⟨0x30030, 0, 1⟩
def TRU_EVT.RNG_FAIL : Fld := ⟨0x30030, 1, 1⟩
def TRU_EVT.CERT_MISMATCH : Fld := ⟨0x30030, 2, 1⟩
def TRU_EVT.DBG_OPENED : Fld := ⟨0x30030, 3, 1⟩
/-- byte address -/ def TRU_EVT.ADR : Nat := 0x30030
def TRU_EVT_EN.CMD_DONE : Fld := ⟨0x30034, 0, 1⟩
def TRU_EVT_EN.RNG_FAIL : Fld := ⟨0x30034, 1, 1⟩
def TRU_EVT_EN.CERT_MISMATCH : Fld := ⟨0x30034, 2, 1⟩
def TRU_EVT_EN.DBG_OPENED : Fld := ⟨0x30034, 3, 1⟩
/-- byte address -/ def TRU_EVT_EN.ADR : Nat := 0x30034
def TRU_CNT.COUNT (c : Nat) : Fld := ⟨0x30050 + c * 0x4, 0, 32⟩
/-- byte address -/ def TRU_CNT.ADR (c : Nat) : Nat := 0x30050 + c * 0x4
def TRU_ROOT_HASH.HASH (s i : Nat) : Fld := ⟨0x30200 + s * 0x40 + i * 0x4, 0, 32⟩
/-- byte address -/ def TRU_ROOT_HASH.ADR (s i : Nat) : Nat := 0x30200 + s * 0x40 + i * 0x4
def CVU_CTRL.POLY (u : Nat) : Fld := ⟨0x40000 + u * 0x100, 0, 2⟩
def CVU_CTRL.USE_SEED (u : Nat) : Fld := ⟨0x40000 + u * 0x100, 2, 1⟩
def CVU_CTRL.START (u : Nat) : Fld := ⟨0x40000 + u * 0x100, 3, 1⟩
def CVU_CTRL.CHECK (u : Nat) : Fld := ⟨0x40000 + u * 0x100, 4, 1⟩
def CVU_CTRL.DUAL (u : Nat) : Fld := ⟨0x40000 + u * 0x100, 5, 1⟩
def CVU_CTRL.ABANDON (u : Nat) : Fld := ⟨0x40000 + u * 0x100, 6, 1⟩
/-- byte address -/ def CVU_CTRL.ADR (u : Nat) : Nat := 0x40000 + u * 0x100
def CVU_STAT.OUTCOME (u : Nat) : Fld := ⟨0x40028 + u * 0x100, 0, 3⟩
def CVU_STAT.OWNER (u : Nat) : Fld := ⟨0x40028 + u * 0x100, 4, 2⟩
def CVU_STAT.OWNED (u : Nat) : Fld := ⟨0x40028 + u * 0x100, 6, 1⟩
/-- byte address -/ def CVU_STAT.ADR (u : Nat) : Nat := 0x40028 + u * 0x100
def CVU_EVT.MISMATCH (u : Nat) : Fld := ⟨0x40030 + u * 0x100, 0, 1⟩
def CVU_EVT.COPY_BAD (u : Nat) : Fld := ⟨0x40030 + u * 0x100, 1, 1⟩
def CVU_EVT.FOREIGN (u : Nat) : Fld := ⟨0x40030 + u * 0x100, 2, 1⟩
/-- byte address -/ def CVU_EVT.ADR (u : Nat) : Nat := 0x40030 + u * 0x100
def CVU_EVT_EN.MISMATCH (u : Nat) : Fld := ⟨0x40034 + u * 0x100, 0, 1⟩
def CVU_EVT_EN.COPY_BAD (u : Nat) : Fld := ⟨0x40034 + u * 0x100, 1, 1⟩
def CVU_EVT_EN.FOREIGN (u : Nat) : Fld := ⟨0x40034 + u * 0x100, 2, 1⟩
/-- byte address -/ def CVU_EVT_EN.ADR (u : Nat) : Nat := 0x40034 + u * 0x100
def CVU_CNT.COUNT (u c : Nat) : Fld := ⟨0x40038 + u * 0x100 + c * 0x4, 0, 32⟩
/-- byte address -/ def CVU_CNT.ADR (u c : Nat) : Nat := 0x40038 + u * 0x100 + c * 0x4
def DBG_MUX.GROUP : Fld := ⟨0x50000, 0, 8⟩
def DBG_MUX.INST : Fld := ⟨0x50000, 8, 9⟩
/-- byte address -/ def DBG_MUX.ADR : Nat := 0x50000
def DBG_CKO.SRC (i : Nat) : Fld := ⟨0x50010 + i * 0x4, 0, 4⟩
def DBG_CKO.INST (i : Nat) : Fld := ⟨0x50010 + i * 0x4, 4, 2⟩
def DBG_CKO.DIV (i : Nat) : Fld := ⟨0x50010 + i * 0x4, 6, 4⟩
/-- byte address -/ def DBG_CKO.ADR (i : Nat) : Nat := 0x50010 + i * 0x4
def DBG_CTRL.DRESET : Fld := ⟨0x50020, 0, 1⟩
def DBG_CTRL.KEY : Fld := ⟨0x50020, 16, 16⟩
/-- byte address -/ def DBG_CTRL.ADR : Nat := 0x50020
def DBG_STAT.CKO_FAST : Fld := ⟨0x50024, 0, 1⟩
def DBG_STAT.DENIED : Fld := ⟨0x50024, 1, 1⟩
def DBG_STAT.MUX_OPEN : Fld := ⟨0x50024, 2, 1⟩
/-- byte address -/ def DBG_STAT.ADR : Nat := 0x50024
def DBG_IDCODE.IDCODE : Fld := ⟨0x50028, 0, 32⟩
/-- byte address -/ def DBG_IDCODE.ADR : Nat := 0x50028
def CHIPCAP_I2C_CMD.DEV (b : Nat) : Fld := ⟨0x1000 + b * 0x10, 0, 7⟩
def CHIPCAP_I2C_CMD.RD (b : Nat) : Fld := ⟨0x1000 + b * 0x10, 7, 1⟩
def CHIPCAP_I2C_CMD.NOREG (b : Nat) : Fld := ⟨0x1000 + b * 0x10, 8, 1⟩
def CHIPCAP_I2C_CMD.FAST (b : Nat) : Fld := ⟨0x1000 + b * 0x10, 9, 1⟩
def CHIPCAP_I2C_CMD.GO (b : Nat) : Fld := ⟨0x1000 + b * 0x10, 10, 1⟩
def CHIPCAP_I2C_CMD.REG (b : Nat) : Fld := ⟨0x1000 + b * 0x10, 16, 8⟩
def CHIPCAP_I2C_CMD.WDATA (b : Nat) : Fld := ⟨0x1000 + b * 0x10, 24, 8⟩
/-- byte address -/ def CHIPCAP_I2C_CMD.ADR (b : Nat) : Nat := 0x1000 + b * 0x10
def CHIPCAP_I2C_STAT.RDATA (b : Nat) : Fld := ⟨0x1004 + b * 0x10, 0, 8⟩
def CHIPCAP_I2C_STAT.BUSY (b : Nat) : Fld := ⟨0x1004 + b * 0x10, 8, 1⟩
def CHIPCAP_I2C_STAT.STATUS (b : Nat) : Fld := ⟨0x1004 + b * 0x10, 9, 2⟩
/-- byte address -/ def CHIPCAP_I2C_STAT.ADR (b : Nat) : Nat := 0x1004 + b * 0x10
def CHIPCAP_MDIO_CMD.PRTAD (m : Nat) : Fld := ⟨0x1040 + m * 0x10, 0, 5⟩
def CHIPCAP_MDIO_CMD.DEVAD (m : Nat) : Fld := ⟨0x1040 + m * 0x10, 5, 5⟩
def CHIPCAP_MDIO_CMD.C45 (m : Nat) : Fld := ⟨0x1040 + m * 0x10, 10, 1⟩
def CHIPCAP_MDIO_CMD.OP (m : Nat) : Fld := ⟨0x1040 + m * 0x10, 11, 2⟩
def CHIPCAP_MDIO_CMD.SPEED (m : Nat) : Fld := ⟨0x1040 + m * 0x10, 13, 2⟩
def CHIPCAP_MDIO_CMD.GO (m : Nat) : Fld := ⟨0x1040 + m * 0x10, 15, 1⟩
def CHIPCAP_MDIO_CMD.DATA (m : Nat) : Fld := ⟨0x1040 + m * 0x10, 16, 16⟩
/-- byte address -/ def CHIPCAP_MDIO_CMD.ADR (m : Nat) : Nat := 0x1040 + m * 0x10
def CHIPCAP_MDIO_STAT.BUSY (m : Nat) : Fld := ⟨0x1044 + m * 0x10, 0, 1⟩
/-- byte address -/ def CHIPCAP_MDIO_STAT.ADR (m : Nat) : Nat := 0x1044 + m * 0x10
def CHIPCAP_SERIAL_LO.SERIAL : Fld := ⟨0x30, 0, 32⟩
/-- byte address -/ def CHIPCAP_SERIAL_LO.ADR : Nat := 0x30
def CHIPCAP_SERIAL_HI.SERIAL : Fld := ⟨0x34, 0, 32⟩
/-- byte address -/ def CHIPCAP_SERIAL_HI.ADR : Nat := 0x34
def LN_FFE.COEF (n i : Nat) : Fld := ⟨0x100100 + n * 0x40000 + i * 0x4, 0, 10⟩
/-- byte address -/ def LN_FFE.ADR (n i : Nat) : Nat := 0x100100 + n * 0x40000 + i * 0x4
def LN_DFE.COEF (n j : Nat) : Fld := ⟨0x100180 + n * 0x40000 + j * 0x4, 0, 10⟩
/-- byte address -/ def LN_DFE.ADR (n j : Nat) : Nat := 0x100180 + n * 0x40000 + j * 0x4
def LN_SFC_LO.SFC (n : Nat) : Fld := ⟨0x100028 + n * 0x40000, 0, 32⟩
/-- byte address -/ def LN_SFC_LO.ADR (n : Nat) : Nat := 0x100028 + n * 0x40000
def LN_SFC_HI.SFC (n : Nat) : Fld := ⟨0x10002c + n * 0x40000, 0, 19⟩
/-- byte address -/ def LN_SFC_HI.ADR (n : Nat) : Nat := 0x10002c + n * 0x40000
def LN_PONID_EXP_LO.VALUE (n : Nat) : Fld := ⟨0x100034 + n * 0x40000, 0, 32⟩
/-- byte address -/ def LN_PONID_EXP_LO.ADR (n : Nat) : Nat := 0x100034 + n * 0x40000
def LN_PONID_EXP_HI.VALUE (n : Nat) : Fld := ⟨0x100038 + n * 0x40000, 0, 19⟩
/-- byte address -/ def LN_PONID_EXP_HI.ADR (n : Nat) : Nat := 0x100038 + n * 0x40000
def LN_PONID_MASK_LO.VALUE (n : Nat) : Fld := ⟨0x10003c + n * 0x40000, 0, 32⟩
/-- byte address -/ def LN_PONID_MASK_LO.ADR (n : Nat) : Nat := 0x10003c + n * 0x40000
def LN_PONID_MASK_HI.VALUE (n : Nat) : Fld := ⟨0x100040 + n * 0x40000, 0, 19⟩
/-- byte address -/ def LN_PONID_MASK_HI.ADR (n : Nat) : Nat := 0x100040 + n * 0x40000
def LN_PONID_RX_LO.VALUE (n : Nat) : Fld := ⟨0x100044 + n * 0x40000, 0, 32⟩
/-- byte address -/ def LN_PONID_RX_LO.ADR (n : Nat) : Nat := 0x100044 + n * 0x40000
def LN_PONID_RX_HI.VALUE (n : Nat) : Fld := ⟨0x100048 + n * 0x40000, 0, 19⟩
/-- byte address -/ def LN_PONID_RX_HI.ADR (n : Nat) : Nat := 0x100048 + n * 0x40000
def LN_DEF_STAT.DSD (n : Nat) : Fld := ⟨0x100054 + n * 0x40000, 0, 1⟩
def LN_DEF_STAT.LOL (n : Nat) : Fld := ⟨0x100054 + n * 0x40000, 1, 1⟩
def LN_DEF_STAT.LOF (n : Nat) : Fld := ⟨0x100054 + n * 0x40000, 2, 1⟩
def LN_DEF_STAT.UCW (n : Nat) : Fld := ⟨0x100054 + n * 0x40000, 3, 1⟩
def LN_DEF_STAT.BER_SD (n : Nat) : Fld := ⟨0x100054 + n * 0x40000, 4, 1⟩
def LN_DEF_STAT.BER_SF (n : Nat) : Fld := ⟨0x100054 + n * 0x40000, 5, 1⟩
def LN_DEF_STAT.TRC_PONID (n : Nat) : Fld := ⟨0x100054 + n * 0x40000, 6, 1⟩
def LN_DEF_STAT.TRC_CPROF (n : Nat) : Fld := ⟨0x100054 + n * 0x40000, 7, 1⟩
def LN_DEF_STAT.AMBIG (n : Nat) : Fld := ⟨0x100054 + n * 0x40000, 8, 1⟩
/-- byte address -/ def LN_DEF_STAT.ADR (n : Nat) : Nat := 0x100054 + n * 0x40000
def LN_DEF_STICKY.DSD (n : Nat) : Fld := ⟨0x100058 + n * 0x40000, 0, 1⟩
def LN_DEF_STICKY.LOL (n : Nat) : Fld := ⟨0x100058 + n * 0x40000, 1, 1⟩
def LN_DEF_STICKY.LOF (n : Nat) : Fld := ⟨0x100058 + n * 0x40000, 2, 1⟩
def LN_DEF_STICKY.UCW (n : Nat) : Fld := ⟨0x100058 + n * 0x40000, 3, 1⟩
def LN_DEF_STICKY.BER_SD (n : Nat) : Fld := ⟨0x100058 + n * 0x40000, 4, 1⟩
def LN_DEF_STICKY.BER_SF (n : Nat) : Fld := ⟨0x100058 + n * 0x40000, 5, 1⟩
def LN_DEF_STICKY.TRC_PONID (n : Nat) : Fld := ⟨0x100058 + n * 0x40000, 6, 1⟩
def LN_DEF_STICKY.TRC_CPROF (n : Nat) : Fld := ⟨0x100058 + n * 0x40000, 7, 1⟩
def LN_DEF_STICKY.AMBIG (n : Nat) : Fld := ⟨0x100058 + n * 0x40000, 8, 1⟩
/-- byte address -/ def LN_DEF_STICKY.ADR (n : Nat) : Nat := 0x100058 + n * 0x40000
def LN_DEF_EN.DSD (n : Nat) : Fld := ⟨0x10005c + n * 0x40000, 0, 1⟩
def LN_DEF_EN.LOL (n : Nat) : Fld := ⟨0x10005c + n * 0x40000, 1, 1⟩
def LN_DEF_EN.LOF (n : Nat) : Fld := ⟨0x10005c + n * 0x40000, 2, 1⟩
def LN_DEF_EN.UCW (n : Nat) : Fld := ⟨0x10005c + n * 0x40000, 3, 1⟩
def LN_DEF_EN.BER_SD (n : Nat) : Fld := ⟨0x10005c + n * 0x40000, 4, 1⟩
def LN_DEF_EN.BER_SF (n : Nat) : Fld := ⟨0x10005c + n * 0x40000, 5, 1⟩
def LN_DEF_EN.TRC_PONID (n : Nat) : Fld := ⟨0x10005c + n * 0x40000, 6, 1⟩
def LN_DEF_EN.TRC_CPROF (n : Nat) : Fld := ⟨0x10005c + n * 0x40000, 7, 1⟩
def LN_DEF_EN.AMBIG (n : Nat) : Fld := ⟨0x10005c + n * 0x40000, 8, 1⟩
/-- byte address -/ def LN_DEF_EN.ADR (n : Nat) : Nat := 0x10005c + n * 0x40000
def LN_PM1_CNT_LO.COUNT (n k : Nat) : Fld := ⟨0x100200 + n * 0x40000 + k * 0x8, 0, 32⟩
/-- byte address -/ def LN_PM1_CNT_LO.ADR (n k : Nat) : Nat := 0x100200 + n * 0x40000 + k * 0x8
def LN_PM1_CNT_HI.COUNT (n k : Nat) : Fld := ⟨0x100204 + n * 0x40000 + k * 0x8, 0, 16⟩
/-- byte address -/ def LN_PM1_CNT_HI.ADR (n k : Nat) : Nat := 0x100204 + n * 0x40000 + k * 0x8
def LN_PM_DATA_LO.COUNT (n k : Nat) : Fld := ⟨0x100400 + n * 0x40000 + k * 0x8, 0, 32⟩
/-- byte address -/ def LN_PM_DATA_LO.ADR (n k : Nat) : Nat := 0x100400 + n * 0x40000 + k * 0x8
def LN_PM_DATA_HI.COUNT (n k : Nat) : Fld := ⟨0x100404 + n * 0x40000 + k * 0x8, 0, 32⟩
/-- byte address -/ def LN_PM_DATA_HI.ADR (n k : Nat) : Nat := 0x100404 + n * 0x40000 + k * 0x8
def LN_PROT_TS_LO.COUNT : Fld := ⟨0x131120, 0, 32⟩
/-- byte address -/ def LN_PROT_TS_LO.ADR : Nat := 0x131120
def LN_PROT_TS_HI.COUNT : Fld := ⟨0x131124, 0, 32⟩
/-- byte address -/ def LN_PROT_TS_HI.ADR : Nat := 0x131124
def CPH_LINE_SW_LO.SFC (n : Nat) : Fld := ⟨0x200204 + n * 0x10, 0, 32⟩
/-- byte address -/ def CPH_LINE_SW_LO.ADR (n : Nat) : Nat := 0x200204 + n * 0x10
def CPH_LINE_SW_HI.SFC (n : Nat) : Fld := ⟨0x200208 + n * 0x10, 0, 19⟩
/-- byte address -/ def CPH_LINE_SW_HI.ADR (n : Nat) : Nat := 0x200208 + n * 0x10
def CPH_RSR_SW_SEC.SEC (p : Nat) : Fld := ⟨0x200304 + p * 0x10, 0, 32⟩
/-- byte address -/ def CPH_RSR_SW_SEC.ADR (p : Nat) : Nat := 0x200304 + p * 0x10
def CPH_RSR_SW_NS.NS (p : Nat) : Fld := ⟨0x200308 + p * 0x10, 0, 32⟩
/-- byte address -/ def CPH_RSR_SW_NS.ADR (p : Nat) : Nat := 0x200308 + p * 0x10
def CPH_SLOT_CTR_LO.CTR (s : Nat) : Fld := ⟨0x201004 + s * 0x10, 0, 32⟩
/-- byte address -/ def CPH_SLOT_CTR_LO.ADR (s : Nat) : Nat := 0x201004 + s * 0x10
def CPH_SLOT_CTR_HI.CTR (s : Nat) : Fld := ⟨0x201008 + s * 0x10, 0, 19⟩
/-- byte address -/ def CPH_SLOT_CTR_HI.ADR (s : Nat) : Nat := 0x201008 + s * 0x10
def CPH_LINE_CNT.COUNT (n c : Nat) : Fld := ⟨0x202000 + n * 0x40 + c * 0x4, 0, 32⟩
/-- byte address -/ def CPH_LINE_CNT.ADR (n c : Nat) : Nat := 0x202000 + n * 0x40 + c * 0x4
def CPH_RSR_CNT.COUNT (p c : Nat) : Fld := ⟨0x202100 + p * 0x40 + c * 0x4, 0, 32⟩
/-- byte address -/ def CPH_RSR_CNT.ADR (p c : Nat) : Nat := 0x202100 + p * 0x40 + c * 0x4
def PCL_INFLIGHT_ACT.COUNT : Fld := ⟨0x300104, 0, 24⟩
/-- byte address -/ def PCL_INFLIGHT_ACT.ADR : Nat := 0x300104
def PCL_INFLIGHT_HELD.COUNT : Fld := ⟨0x300108, 0, 24⟩
/-- byte address -/ def PCL_INFLIGHT_HELD.ADR : Nat := 0x300108
def TMG_NODE_DATA_LO.LEVEL : Fld := ⟨0x800208, 0, 32⟩
/-- byte address -/ def TMG_NODE_DATA_LO.ADR : Nat := 0x800208
def TMG_NODE_DATA_HI.LEVEL : Fld := ⟨0x80020c, 0, 9⟩
/-- byte address -/ def TMG_NODE_DATA_HI.ADR : Nat := 0x80020c
def TMG_BUF_STAT.FREE : Fld := ⟨0x800304, 0, 19⟩
/-- byte address -/ def TMG_BUF_STAT.ADR : Nat := 0x800304
def TMG_BUF_GUAR.FREE : Fld := ⟨0x800308, 0, 19⟩
/-- byte address -/ def TMG_BUF_GUAR.ADR : Nat := 0x800308
def TMG_QSTAT0.ON_DIE (q : Nat) : Fld := ⟨0x900000 + q * 0x8, 0, 19⟩
def TMG_QSTAT0.SPILL (q : Nat) : Fld := ⟨0x900000 + q * 0x8, 19, 1⟩
/-- byte address -/ def TMG_QSTAT0.ADR (q : Nat) : Nat := 0x900000 + q * 0x8
def TMG_QSTAT1.SIDING (q : Nat) : Fld := ⟨0x900004 + q * 0x8, 0, 27⟩
/-- byte address -/ def TMG_QSTAT1.ADR (q : Nat) : Nat := 0x900004 + q * 0x8
def SM_MAC_ADDR_LO.ADDR (n j : Nat) : Fld := ⟨0x1001010 + n * 0x10000 + j * 0x1000, 0, 32⟩
/-- byte address -/ def SM_MAC_ADDR_LO.ADR (n j : Nat) : Nat := 0x1001010 + n * 0x10000 + j * 0x1000
def SM_MAC_ADDR_HI.ADDR (n j : Nat) : Fld := ⟨0x1001014 + n * 0x10000 + j * 0x1000, 0, 16⟩
/-- byte address -/ def SM_MAC_ADDR_HI.ADR (n j : Nat) : Nat := 0x1001014 + n * 0x10000 + j * 0x1000
def SM_CNT_LO.COUNT (n j c : Nat) : Fld := ⟨0x1001200 + n * 0x10000 + j * 0x1000 + c * 0x8, 0, 32⟩
/-- byte address -/ def SM_CNT_LO.ADR (n j c : Nat) : Nat := 0x1001200 + n * 0x10000 + j * 0x1000 + c * 0x8
def SM_CNT_HI.COUNT (n j c : Nat) : Fld := ⟨0x1001204 + n * 0x10000 + j * 0x1000 + c * 0x8, 0, 16⟩
/-- byte address -/ def SM_CNT_HI.ADR (n j c : Nat) : Nat := 0x1001204 + n * 0x10000 + j * 0x1000 + c * 0x8
def TIM_NOW_FRAC.FRAC_NS : Fld := ⟨0x80010, 0, 16⟩
def TIM_NOW_FRAC.EPOCH : Fld := ⟨0x80010, 16, 2⟩
/-- byte address -/ def TIM_NOW_FRAC.ADR : Nat := 0x80010
def TIM_NOW_NS.NS : Fld := ⟨0x80014, 0, 30⟩
/-- byte address -/ def TIM_NOW_NS.ADR : Nat := 0x80014
def TIM_NOW_SEC_LO.SEC : Fld := ⟨0x80018, 0, 32⟩
/-- byte address -/ def TIM_NOW_SEC_LO.ADR : Nat := 0x80018
def TIM_NOW_SEC_HI.SEC : Fld := ⟨0x8001c, 0, 16⟩
/-- byte address -/ def TIM_NOW_SEC_HI.ADR : Nat := 0x8001c
def TIM_TICK_LO.COUNT : Fld := ⟨0x80020, 0, 32⟩
/-- byte address -/ def TIM_TICK_LO.ADR : Nat := 0x80020
def TIM_TICK_HI.COUNT : Fld := ⟨0x80024, 0, 32⟩
/-- byte address -/ def TIM_TICK_HI.ADR : Nat := 0x80024
def TIM_OFFSET_FRAC.OFFSET : Fld := ⟨0x80030, 0, 16⟩
/-- byte address -/ def TIM_OFFSET_FRAC.ADR : Nat := 0x80030
def TIM_OFFSET_NS.OFFSET : Fld := ⟨0x80034, 0, 30⟩
/-- byte address -/ def TIM_OFFSET_NS.ADR : Nat := 0x80034
def TIM_OFFSET_SEC_LO.OFFSET : Fld := ⟨0x80038, 0, 32⟩
/-- byte address -/ def TIM_OFFSET_SEC_LO.ADR : Nat := 0x80038
def TIM_OFFSET_SEC_HI.OFFSET : Fld := ⟨0x8003c, 0, 16⟩
/-- byte address -/ def TIM_OFFSET_SEC_HI.ADR : Nat := 0x8003c
def TIM_STEP_FRAC.STEP : Fld := ⟨0x80050, 0, 16⟩
/-- byte address -/ def TIM_STEP_FRAC.ADR : Nat := 0x80050
def TIM_STEP_NS.STEP : Fld := ⟨0x80054, 0, 30⟩
/-- byte address -/ def TIM_STEP_NS.ADR : Nat := 0x80054
def TIM_STEP_SEC_LO.STEP : Fld := ⟨0x80058, 0, 32⟩
/-- byte address -/ def TIM_STEP_SEC_LO.ADR : Nat := 0x80058
def TIM_STEP_SEC_HI.STEP : Fld := ⟨0x8005c, 0, 16⟩
/-- byte address -/ def TIM_STEP_SEC_HI.ADR : Nat := 0x8005c
def TIM_RATE.RATE : Fld := ⟨0x80040, 0, 32⟩
/-- byte address -/ def TIM_RATE.ADR : Nat := 0x80040
def TIM_RATE_EFF.RATE : Fld := ⟨0x80044, 0, 32⟩
/-- byte address -/ def TIM_RATE_EFF.ADR : Nat := 0x80044
def TIM_PEND.VALUE : Fld := ⟨0x80068, 0, 32⟩
/-- byte address -/ def TIM_PEND.ADR : Nat := 0x80068
def TIM_TOD_ERR.VALUE : Fld := ⟨0x80088, 0, 32⟩
/-- byte address -/ def TIM_TOD_ERR.ADR : Nat := 0x80088
def TIM_TOD_SFC_LO.SFC : Fld := ⟨0x80070, 0, 32⟩
/-- byte address -/ def TIM_TOD_SFC_LO.ADR : Nat := 0x80070
def TIM_TOD_SFC_HI.SFC : Fld := ⟨0x80074, 0, 19⟩
/-- byte address -/ def TIM_TOD_SFC_HI.ADR : Nat := 0x80074
def TIM_TOD_SEC_LO.SEC : Fld := ⟨0x80078, 0, 32⟩
/-- byte address -/ def TIM_TOD_SEC_LO.ADR : Nat := 0x80078
def TIM_TOD_SEC_HI.SEC : Fld := ⟨0x8007c, 0, 16⟩
/-- byte address -/ def TIM_TOD_SEC_HI.ADR : Nat := 0x8007c
def TIM_TOD_NS.NS : Fld := ⟨0x80080, 0, 30⟩
/-- byte address -/ def TIM_TOD_NS.ADR : Nat := 0x80080
def TIM_XFER_EQD0.EQD_ZERO : Fld := ⟨0x80090, 0, 28⟩
/-- byte address -/ def TIM_XFER_EQD0.ADR : Nat := 0x80090
def TIM_XFER_ASYM.ASYM : Fld := ⟨0x80094, 0, 32⟩
/-- byte address -/ def TIM_XFER_ASYM.ADR : Nat := 0x80094
def TIM_XFER_DDS.D_DS : Fld := ⟨0x80098, 0, 32⟩
/-- byte address -/ def TIM_XFER_DDS.ADR : Nat := 0x80098
def SL_PAT_CTRL.TX_PAT (n : Nat) : Fld := ⟨0x1800030 + n * 0x4000, 0, 3⟩
def SL_PAT_CTRL.RX_PAT (n : Nat) : Fld := ⟨0x1800030 + n * 0x4000, 3, 3⟩
def SL_PAT_CTRL.TX_INV (n : Nat) : Fld := ⟨0x1800030 + n * 0x4000, 6, 1⟩
def SL_PAT_CTRL.RX_INV (n : Nat) : Fld := ⟨0x1800030 + n * 0x4000, 7, 1⟩
/-- byte address -/ def SL_PAT_CTRL.ADR (n : Nat) : Nat := 0x1800030 + n * 0x4000
def SL_PAT_USER_LO.PAT_USER (n : Nat) : Fld := ⟨0x1800034 + n * 0x4000, 0, 32⟩
/-- byte address -/ def SL_PAT_USER_LO.ADR (n : Nat) : Nat := 0x1800034 + n * 0x4000
def SL_PAT_USER_HI.PAT_USER (n : Nat) : Fld := ⟨0x1800038 + n * 0x4000, 0, 32⟩
/-- byte address -/ def SL_PAT_USER_HI.ADR (n : Nat) : Nat := 0x1800038 + n * 0x4000
def SL_PAT_ERR.PAT_ERR (n : Nat) : Fld := ⟨0x180003c + n * 0x4000, 0, 32⟩
/-- byte address -/ def SL_PAT_ERR.ADR (n : Nat) : Nat := 0x180003c + n * 0x4000
def RP_LANE_STAT.SIGNAL (p l : Nat) : Fld := ⟨0x1c30108 + p * 0x40000 + l * 0x100, 0, 1⟩
def RP_LANE_STAT.CDR_LOCK (p l : Nat) : Fld := ⟨0x1c30108 + p * 0x40000 + l * 0x100, 1, 1⟩
def RP_LANE_STAT.SYNC (p l : Nat) : Fld := ⟨0x1c30108 + p * 0x40000 + l * 0x100, 2, 1⟩
def RP_LANE_STAT.HI_BER (p l : Nat) : Fld := ⟨0x1c30108 + p * 0x40000 + l * 0x100, 3, 1⟩
def RP_LANE_STAT.TX_READY (p l : Nat) : Fld := ⟨0x1c30108 + p * 0x40000 + l * 0x100, 4, 1⟩
def RP_LANE_STAT.RX_READY (p l : Nat) : Fld := ⟨0x1c30108 + p * 0x40000 + l * 0x100, 5, 1⟩
def RP_LANE_STAT.TX_ASLEEP (p l : Nat) : Fld := ⟨0x1c30108 + p * 0x40000 + l * 0x100, 6, 1⟩
def RP_LANE_STAT.RX_ASLEEP (p l : Nat) : Fld := ⟨0x1c30108 + p * 0x40000 + l * 0x100, 7, 1⟩
def RP_LANE_STAT.PAT_SYNC (p l : Nat) : Fld := ⟨0x1c30108 + p * 0x40000 + l * 0x100, 8, 1⟩
/-- byte address -/ def RP_LANE_STAT.ADR (p l : Nat) : Nat := 0x1c30108 + p * 0x40000 + l * 0x100
def RP_LANE_TXEQ.PRE (p l : Nat) : Fld := ⟨0x1c30110 + p * 0x40000 + l * 0x100, 0, 4⟩
def RP_LANE_TXEQ.MAIN (p l : Nat) : Fld := ⟨0x1c30110 + p * 0x40000 + l * 0x100, 4, 6⟩
def RP_LANE_TXEQ.POST (p l : Nat) : Fld := ⟨0x1c30110 + p * 0x40000 + l * 0x100, 10, 5⟩
def RP_LANE_TXEQ.POL_INV (p l : Nat) : Fld := ⟨0x1c30110 + p * 0x40000 + l * 0x100, 15, 1⟩
/-- byte address -/ def RP_LANE_TXEQ.ADR (p l : Nat) : Nat := 0x1c30110 + p * 0x40000 + l * 0x100
def RP_LANE_RXEQ.ADAPT (p l : Nat) : Fld := ⟨0x1c30114 + p * 0x40000 + l * 0x100, 0, 2⟩
def RP_LANE_RXEQ.CTLE (p l : Nat) : Fld := ⟨0x1c30114 + p * 0x40000 + l * 0x100, 2, 4⟩
def RP_LANE_RXEQ.ACQ_TIME (p l : Nat) : Fld := ⟨0x1c30114 + p * 0x40000 + l * 0x100, 6, 4⟩
def RP_LANE_RXEQ.POL_INV (p l : Nat) : Fld := ⟨0x1c30114 + p * 0x40000 + l * 0x100, 10, 1⟩
/-- byte address -/ def RP_LANE_RXEQ.ADR (p l : Nat) : Nat := 0x1c30114 + p * 0x40000 + l * 0x100
def RP_LANE_RXEQ_STAT.ADAPT_DONE (p l : Nat) : Fld := ⟨0x1c30118 + p * 0x40000 + l * 0x100, 0, 1⟩
def RP_LANE_RXEQ_STAT.CTLE_NOW (p l : Nat) : Fld := ⟨0x1c30118 + p * 0x40000 + l * 0x100, 1, 4⟩
def RP_LANE_RXEQ_STAT.DFE1 (p l : Nat) : Fld := ⟨0x1c30118 + p * 0x40000 + l * 0x100, 5, 6⟩
/-- byte address -/ def RP_LANE_RXEQ_STAT.ADR (p l : Nat) : Nat := 0x1c30118 + p * 0x40000 + l * 0x100
def RP_LANE_EYE_CTRL.PHASE (p l : Nat) : Fld := ⟨0x1c30120 + p * 0x40000 + l * 0x100, 0, 6⟩
def RP_LANE_EYE_CTRL.VOLT (p l : Nat) : Fld := ⟨0x1c30120 + p * 0x40000 + l * 0x100, 6, 7⟩
def RP_LANE_EYE_CTRL.LOG2_BITS (p l : Nat) : Fld := ⟨0x1c30120 + p * 0x40000 + l * 0x100, 13, 5⟩
def RP_LANE_EYE_CTRL.START (p l : Nat) : Fld := ⟨0x1c30120 + p * 0x40000 + l * 0x100, 18, 1⟩
/-- byte address -/ def RP_LANE_EYE_CTRL.ADR (p l : Nat) : Nat := 0x1c30120 + p * 0x40000 + l * 0x100
def RP_LANE_EYE_STAT.DONE (p l : Nat) : Fld := ⟨0x1c30124 + p * 0x40000 + l * 0x100, 0, 1⟩
def RP_LANE_EYE_STAT.ERRORS (p l : Nat) : Fld := ⟨0x1c30124 + p * 0x40000 + l * 0x100, 1, 31⟩
/-- byte address -/ def RP_LANE_EYE_STAT.ADR (p l : Nat) : Nat := 0x1c30124 + p * 0x40000 + l * 0x100
def RP_LANE_PAT_CTRL.TX_PAT (p l : Nat) : Fld := ⟨0x1c30130 + p * 0x40000 + l * 0x100, 0, 3⟩
def RP_LANE_PAT_CTRL.RX_PAT (p l : Nat) : Fld := ⟨0x1c30130 + p * 0x40000 + l * 0x100, 3, 3⟩
def RP_LANE_PAT_CTRL.TX_INV (p l : Nat) : Fld := ⟨0x1c30130 + p * 0x40000 + l * 0x100, 6, 1⟩
def RP_LANE_PAT_CTRL.RX_INV (p l : Nat) : Fld := ⟨0x1c30130 + p * 0x40000 + l * 0x100, 7, 1⟩
/-- byte address -/ def RP_LANE_PAT_CTRL.ADR (p l : Nat) : Nat := 0x1c30130 + p * 0x40000 + l * 0x100
def RP_LANE_PAT_USER_LO.PAT_USER (p l : Nat) : Fld := ⟨0x1c30134 + p * 0x40000 + l * 0x100, 0, 32⟩
/-- byte address -/ def RP_LANE_PAT_USER_LO.ADR (p l : Nat) : Nat := 0x1c30134 + p * 0x40000 + l * 0x100
def RP_LANE_PAT_USER_HI.PAT_USER (p l : Nat) : Fld := ⟨0x1c30138 + p * 0x40000 + l * 0x100, 0, 32⟩
/-- byte address -/ def RP_LANE_PAT_USER_HI.ADR (p l : Nat) : Nat := 0x1c30138 + p * 0x40000 + l * 0x100
def RP_LANE_PAT_ERR.PAT_ERR (p l : Nat) : Fld := ⟨0x1c3013c + p * 0x40000 + l * 0x100, 0, 32⟩
/-- byte address -/ def RP_LANE_PAT_ERR.ADR (p l : Nat) : Nat := 0x1c3013c + p * 0x40000 + l * 0x100
def RP_HIER_STAT.ROLE : Fld := ⟨0x1c20004, 0, 1⟩
def RP_HIER_STAT.ADDR_VALID : Fld := ⟨0x1c20004, 1, 1⟩
def RP_HIER_STAT.ADDR : Fld := ⟨0x1c20004, 2, 5⟩
def RP_HIER_STAT.UPLINK : Fld := ⟨0x1c20004, 7, 2⟩
def RP_HIER_STAT.UPPER_DEV : Fld := ⟨0x1c20004, 9, 5⟩
def RP_HIER_STAT.PAIR0_ACT : Fld := ⟨0x1c20004, 14, 1⟩
def RP_HIER_STAT.PAIR1_ACT : Fld := ⟨0x1c20004, 15, 1⟩
def RP_HIER_STAT.UPPER_EPOCH : Fld := ⟨0x1c20004, 16, 2⟩
def RP_HIER_STAT.DEPTH : Fld := ⟨0x1c20004, 18, 2⟩
/-- byte address -/ def RP_HIER_STAT.ADR : Nat := 0x1c20004
def RP_PROBE_SERIAL_LO.SERIAL : Fld := ⟨0x1c20208, 0, 32⟩
/-- byte address -/ def RP_PROBE_SERIAL_LO.ADR : Nat := 0x1c20208
def RP_PROBE_SERIAL_HI.SERIAL : Fld := ⟨0x1c2020c, 0, 32⟩
/-- byte address -/ def RP_PROBE_SERIAL_HI.ADR : Nat := 0x1c2020c
def RP_RACC_ADDR.ADDR (k : Nat) : Fld := ⟨0x1c20304 + k * 0x10, 0, 25⟩
/-- byte address -/ def RP_RACC_ADDR.ADR (k : Nat) : Nat := 0x1c20304 + k * 0x10
def RP_RACC_DATA.DATA (k : Nat) : Fld := ⟨0x1c20308 + k * 0x10, 0, 32⟩
/-- byte address -/ def RP_RACC_DATA.ADR (k : Nat) : Nat := 0x1c20308 + k * 0x10
def RP_DEV_EVT.SUMMARY (d : Nat) : Fld := ⟨0x1c20400 + d * 0x4, 0, 16⟩
/-- byte address -/ def RP_DEV_EVT.ADR (d : Nat) : Nat := 0x1c20400 + d * 0x4
def RP_EVT_PEND.PEND : Fld := ⟨0x1c20480, 0, 32⟩
/-- byte address -/ def RP_EVT_PEND.ADR : Nat := 0x1c20480
def RP_GOP_SEC.SEC : Fld := ⟨0x1c20504, 0, 32⟩
/-- byte address -/ def RP_GOP_SEC.ADR : Nat := 0x1c20504
def RP_GOP_NS.NS : Fld := ⟨0x1c20508, 0, 30⟩
/-- byte address -/ def RP_GOP_NS.ADR : Nat := 0x1c20508
def RP_GOP_GEN.GEN : Fld := ⟨0x1c2050c, 0, 32⟩
/-- byte address -/ def RP_GOP_GEN.ADR : Nat := 0x1c2050c
def RP_GOP_ROSTER.ROSTER : Fld := ⟨0x1c20510, 0, 32⟩
/-- byte address -/ def RP_GOP_ROSTER.ADR : Nat := 0x1c20510
def RP_GOP_DONE_MASK.MASK : Fld := ⟨0x1c2051c, 0, 32⟩
/-- byte address -/ def RP_GOP_DONE_MASK.ADR : Nat := 0x1c2051c
def RP_GOP_CANCEL_MASK.MASK : Fld := ⟨0x1c20520, 0, 32⟩
/-- byte address -/ def RP_GOP_CANCEL_MASK.ADR : Nat := 0x1c20520
def RP_SNAP_SEL.PORT : Fld := ⟨0x1c20600, 0, 9⟩
/-- byte address -/ def RP_SNAP_SEL.ADR : Nat := 0x1c20600
def RP_SNAP_STAT.SEQ : Fld := ⟨0x1c20604, 0, 16⟩
def RP_SNAP_STAT.VALID : Fld := ⟨0x1c20604, 16, 1⟩
/-- byte address -/ def RP_SNAP_STAT.ADR : Nat := 0x1c20604
def RP_SNAP_DATA_LO.COUNT (c : Nat) : Fld := ⟨0x1c20700 + c * 0x8, 0, 32⟩
/-- byte address -/ def RP_SNAP_DATA_LO.ADR (c : Nat) : Nat := 0x1c20700 + c * 0x8
def RP_SNAP_DATA_HI.COUNT (c : Nat) : Fld := ⟨0x1c20704 + c * 0x8, 0, 16⟩
/-- byte address -/ def RP_SNAP_DATA_HI.ADR (c : Nat) : Nat := 0x1c20704 + c * 0x8
def HIF_DOM_DB_LO.ADDR (d : Nat) : Fld := ⟨0x1d00108 + d * 0x20, 0, 32⟩
/-- byte address -/ def HIF_DOM_DB_LO.ADR (d : Nat) : Nat := 0x1d00108 + d * 0x20
def HIF_DOM_DB_HI.ADDR (d : Nat) : Fld := ⟨0x1d0010c + d * 0x20, 0, 32⟩
/-- byte address -/ def HIF_DOM_DB_HI.ADR (d : Nat) : Nat := 0x1d0010c + d * 0x20
def HIF_DOM_ST_LO.ADDR (d : Nat) : Fld := ⟨0x1d00110 + d * 0x20, 0, 32⟩
/-- byte address -/ def HIF_DOM_ST_LO.ADR (d : Nat) : Nat := 0x1d00110 + d * 0x20
def HIF_DOM_ST_HI.ADDR (d : Nat) : Fld := ⟨0x1d00114 + d * 0x20, 0, 32⟩
/-- byte address -/ def HIF_DOM_ST_HI.ADR (d : Nat) : Nat := 0x1d00114 + d * 0x20
def HIF_RING_BASE_LO.BASE (r : Nat) : Fld := ⟨0x1d01004 + r * 0x20, 0, 32⟩
/-- byte address -/ def HIF_RING_BASE_LO.ADR (r : Nat) : Nat := 0x1d01004 + r * 0x20
def HIF_RING_BASE_HI.BASE (r : Nat) : Fld := ⟨0x1d01008 + r * 0x20, 0, 32⟩
/-- byte address -/ def HIF_RING_BASE_HI.ADR (r : Nat) : Nat := 0x1d01008 + r * 0x20
def HIF_RING_IDX.IDX (r : Nat) : Fld := ⟨0x1d0101c + r * 0x20, 0, 32⟩
/-- byte address -/ def HIF_RING_IDX.ADR (r : Nat) : Nat := 0x1d0101c + r * 0x20
def GEN_ACTIVE.NUM : Fld := ⟨0x10008, 0, 32⟩
/-- byte address -/ def GEN_ACTIVE.ADR : Nat := 0x10008
def GEN_PREV.NUM : Fld := ⟨0x1000c, 0, 32⟩
/-- byte address -/ def GEN_PREV.ADR : Nat := 0x1000c
def GEN_STAGE.NUM : Fld := ⟨0x10010, 0, 32⟩
/-- byte address -/ def GEN_STAGE.ADR : Nat := 0x10010
def GEN_REJECTED.NUM : Fld := ⟨0x10018, 0, 32⟩
/-- byte address -/ def GEN_REJECTED.ADR : Nat := 0x10018
def GEN_AT_SEC_LO.SEC : Fld := ⟨0x10020, 0, 32⟩
/-- byte address -/ def GEN_AT_SEC_LO.ADR : Nat := 0x10020
def GEN_AT_SEC_HI.SEC : Fld := ⟨0x10024, 0, 16⟩
/-- byte address -/ def GEN_AT_SEC_HI.ADR : Nat := 0x10024
def GEN_AT_NS.NS : Fld := ⟨0x10028, 0, 30⟩
/-- byte address -/ def GEN_AT_NS.ADR : Nat := 0x10028
def DMC_RGN_SIDING_BASE.MIB : Fld := ⟨0x1e00020, 0, 15⟩
/-- byte address -/ def DMC_RGN_SIDING_BASE.ADR : Nat := 0x1e00020
def DMC_RGN_SIDING_SIZE.MIB : Fld := ⟨0x1e00024, 0, 15⟩
/-- byte address -/ def DMC_RGN_SIDING_SIZE.ADR : Nat := 0x1e00024
def DMC_RGN_BREW_BASE.MIB : Fld := ⟨0x1e00028, 0, 15⟩
/-- byte address -/ def DMC_RGN_BREW_BASE.ADR : Nat := 0x1e00028
def DMC_RGN_BREW_SIZE.MIB : Fld := ⟨0x1e0002c, 0, 15⟩
/-- byte address -/ def DMC_RGN_BREW_SIZE.ADR : Nat := 0x1e0002c
def DMC_RGN_TABLE_BASE.MIB : Fld := ⟨0x1e00030, 0, 15⟩
/-- byte address -/ def DMC_RGN_TABLE_BASE.ADR : Nat := 0x1e00030
def DMC_RGN_TABLE_SIZE.MIB : Fld := ⟨0x1e00034, 0, 15⟩
/-- byte address -/ def DMC_RGN_TABLE_SIZE.ADR : Nat := 0x1e00034
def DMC_UE_ADDR_LO.ADDR : Fld := ⟨0x1e00060, 0, 32⟩
/-- byte address -/ def DMC_UE_ADDR_LO.ADR : Nat := 0x1e00060
def DMC_UE_ADDR_HI.ADDR : Fld := ⟨0x1e00064, 0, 3⟩
def DMC_UE_ADDR_HI.PORT : Fld := ⟨0x1e00064, 3, 3⟩
/-- byte address -/ def DMC_UE_ADDR_HI.ADR : Nat := 0x1e00064
def PWR_THERM_CFG.WARN : Fld := ⟨0x20300, 0, 8⟩
def PWR_THERM_CFG.THROT : Fld := ⟨0x20300, 8, 8⟩
def PWR_THERM_CFG.SHUT : Fld := ⟨0x20300, 16, 8⟩
def PWR_THERM_CFG.CRIT : Fld := ⟨0x20300, 24, 8⟩
/-- byte address -/ def PWR_THERM_CFG.ADR : Nat := 0x20300
def PWR_THERM_HYST.HYST : Fld := ⟨0x20304, 0, 4⟩
def PWR_THERM_HYST.RECOVER : Fld := ⟨0x20304, 4, 8⟩
/-- byte address -/ def PWR_THERM_HYST.ADR : Nat := 0x20304
def PWR_THERM_T.TEMP (s : Nat) : Fld := ⟨0x20310 + s * 0x4, 0, 12⟩
def PWR_THERM_T.VALID (s : Nat) : Fld := ⟨0x20310 + s * 0x4, 12, 1⟩
/-- byte address -/ def PWR_THERM_T.ADR (s : Nat) : Nat := 0x20310 + s * 0x4
def PWR_THERM_MAX.TEMP : Fld := ⟨0x20340, 0, 12⟩
def PWR_THERM_MAX.SENSOR : Fld := ⟨0x20340, 12, 4⟩
def PWR_THERM_MAX.PEAK : Fld := ⟨0x20340, 16, 12⟩
/-- byte address -/ def PWR_THERM_MAX.ADR : Nat := 0x20340
def PWR_RTC_SEC.SEC : Fld := ⟨0x20500, 0, 32⟩
/-- byte address -/ def PWR_RTC_SEC.ADR : Nat := 0x20500
def PWR_RTC_SUB.SUB : Fld := ⟨0x20504, 0, 15⟩
def PWR_RTC_SUB.XT_OK : Fld := ⟨0x20504, 15, 1⟩
/-- byte address -/ def PWR_RTC_SUB.ADR : Nat := 0x20504
def TRU_RNG_DATA.DATA : Fld := ⟨0x30040, 0, 32⟩
/-- byte address -/ def TRU_RNG_DATA.ADR : Nat := 0x30040
def TRU_RNG_STAT.HEALTH_OK : Fld := ⟨0x30044, 0, 1⟩
/-- byte address -/ def TRU_RNG_STAT.ADR : Nat := 0x30044
def TRU_DBG_CHAL.CHAL (i : Nat) : Fld := ⟨0x30060 + i * 0x4, 0, 32⟩
/-- byte address -/ def TRU_DBG_CHAL.ADR (i : Nat) : Nat := 0x30060 + i * 0x4
def TRU_DBG_PERM.PERM : Fld := ⟨0x30070, 0, 5⟩
/-- byte address -/ def TRU_DBG_PERM.ADR : Nat := 0x30070
def TRU_IN.DATA (i : Nat) : Fld := ⟨0x30100 + i * 0x4, 0, 32⟩
/-- byte address -/ def TRU_IN.ADR (i : Nat) : Nat := 0x30100 + i * 0x4
def TRU_MEAS.DATA (i : Nat) : Fld := ⟨0x30180 + i * 0x4, 0, 32⟩
/-- byte address -/ def TRU_MEAS.ADR (i : Nat) : Nat := 0x30180 + i * 0x4
def TRU_LOG.DATA (i : Nat) : Fld := ⟨0x31000 + i * 0x4, 0, 32⟩
/-- byte address -/ def TRU_LOG.ADR (i : Nat) : Nat := 0x31000 + i * 0x4
def TRU_ATT_OUT.DATA (i : Nat) : Fld := ⟨0x33000 + i * 0x4, 0, 32⟩
/-- byte address -/ def TRU_ATT_OUT.ADR (i : Nat) : Nat := 0x33000 + i * 0x4
def TRU_TOKEN.DATA (i : Nat) : Fld := ⟨0x34000 + i * 0x4, 0, 32⟩
/-- byte address -/ def TRU_TOKEN.ADR (i : Nat) : Nat := 0x34000 + i * 0x4
def CVU_SEED.VALUE (u : Nat) : Fld := ⟨0x40004 + u * 0x100, 0, 32⟩
/-- byte address -/ def CVU_SEED.ADR (u : Nat) : Nat := 0x40004 + u * 0x100
def CVU_EXPECT_A.VALUE (u : Nat) : Fld := ⟨0x40008 + u * 0x100, 0, 32⟩
/-- byte address -/ def CVU_EXPECT_A.ADR (u : Nat) : Nat := 0x40008 + u * 0x100
def CVU_EXPECT_B.VALUE (u : Nat) : Fld := ⟨0x4000c + u * 0x100, 0, 32⟩
/-- byte address -/ def CVU_EXPECT_B.ADR (u : Nat) : Nat := 0x4000c + u * 0x100
def CVU_DATA_B.DATA (u : Nat) : Fld := ⟨0x40010 + u * 0x100, 0, 32⟩
/-- byte address -/ def CVU_DATA_B.ADR (u : Nat) : Nat := 0x40010 + u * 0x100
def CVU_DATA_H.DATA (u : Nat) : Fld := ⟨0x40014 + u * 0x100, 0, 32⟩
/-- byte address -/ def CVU_DATA_H.ADR (u : Nat) : Nat := 0x40014 + u * 0x100
def CVU_DATA_W.DATA (u : Nat) : Fld := ⟨0x40018 + u * 0x100, 0, 32⟩
/-- byte address -/ def CVU_DATA_W.ADR (u : Nat) : Nat := 0x40018 + u * 0x100
def CVU_ACC.VALUE (u : Nat) : Fld := ⟨0x40020 + u * 0x100, 0, 32⟩
/-- byte address -/ def CVU_ACC.ADR (u : Nat) : Nat := 0x40020 + u * 0x100
def CVU_RESULT.VALUE (u : Nat) : Fld := ⟨0x40024 + u * 0x100, 0, 32⟩
/-- byte address -/ def CVU_RESULT.ADR (u : Nat) : Nat := 0x40024 + u * 0x100
def CVU_COUNT.VALUE (u : Nat) : Fld := ⟨0x4002c + u * 0x100, 0, 32⟩
/-- byte address -/ def CVU_COUNT.ADR (u : Nat) : Nat := 0x4002c + u * 0x100

end Reg
end Sys2Proof.Machine
end

