-- ==== Sys2Proof/Machine/Tbl.lean ====
section
/-!
DEFINITION. The operations of a sparse table (`Tbl`, Word.lean): reading with the value of an unlisted key, writing in
key order, clearing and filtering. Every table of the state goes through these.
-/
namespace Sys2Proof

/-- The value at `k`, or `d` where the table lists none. -/
def Tbl.get {α : Type} : Tbl α → Nat → α → α
  | [], _, d => d
  | (k', v) :: r, k, d => if k' = k then v else Tbl.get r k d

/-- `k` is listed. -/
def Tbl.has {α : Type} : Tbl α → Nat → Bool
  | [], _ => false
  | (k', _) :: r, k => k' == k || Tbl.has r k

/-- Write `v` at `k`, in key order. -/
def Tbl.set {α : Type} : Tbl α → Nat → α → Tbl α
  | [], k, v => [(k, v)]
  | (k', v') :: r, k, v =>
    if k < k' then (k, v) :: (k', v') :: r
    else if k' = k then (k, v) :: r
    else (k', v') :: Tbl.set r k v

/-- Drop the entry at `k`: the key then holds its unlisted value again. -/
def Tbl.del {α : Type} (t : Tbl α) (k : Nat) : Tbl α := t.filter (fun e => e.1 != k)

/-- Change the value at `k`. -/
def Tbl.mod {α : Type} (t : Tbl α) (k : Nat) (d : α) (f : α → α) : Tbl α := Tbl.set t k (f (Tbl.get t k d))

/-- Keep the entries whose key passes. -/
def Tbl.keep {α : Type} (t : Tbl α) (p : Nat → Bool) : Tbl α := t.filter (fun e => p e.1)

/-- Every key of the table is above `m`. -/
def Tbl.above {α : Type} (m : Nat) (t : Tbl α) : Bool := t.all (fun e => decide (m < e.1))

/-- The form every table keeps: strictly rising keys. -/
def Tbl.wf {α : Type} : Tbl α → Bool
  | [] => true
  | (k, _) :: r => Tbl.above k r && Tbl.wf r

/-- Change every value. -/
def Tbl.mapVals {α : Type} (t : Tbl α) (f : α → α) : Tbl α := t.map (fun e => (e.1, f e.2))

end Sys2Proof
end

