-- ==== Sys2Proof/Machine/State.lean ====
section
/-!
DEFINITION. The state of the block, as plain data: everything the spec gives it. Ordinary register contents stand in
one sparse table of fields (`regs`; a field that is not listed holds the reset value of its register table); what the
spec describes beside its registers stands in the structures below, chapter by chapter. A field whose default value
appears here is at that value right after reset.
-/
namespace Sys2Proof.Machine

/-! ### Chip, slices and frames (spec/01, spec/06) -/

/-- What the part is and what its fuses leave present (R1, R8, R43). No command changes it. -/
structure Chip where
  /-- CHIPCAP.ID.PART -/
  part : Nat := 0x6400
  units0 : Nat := 0x003FFFFF
  units1 : Nat := 0x0008FFFF
  sl0 : Nat := 0x0FFFFFFF
  sl1 : Nat := 0x0FFFFFFF
  sl2 : Nat := 0x0FFFFFFF
  sl3 : Nat := 0x0FFFFFFF
  /-- the 64-bit die serial number -/
  serial : Nat := 0
  deriving DecidableEq, Repr

/-- The three parts as shipped (R43). -/
def Chip.hkn6400 : Chip := {}
def Chip.hkn6410 : Chip :=
  { part := 0x6410, units0 := 0x003FEF33, units1 := 0x00040F33, sl2 := 0, sl3 := 0 }
def Chip.hkn6440 : Chip := { part := 0x6440, units0 := 0x000FE200, units1 := 0x0004000F }

/-- Which resets hold the device now (R44, R46, R385, R441, R448). -/
structure Held where
  /-- the Crema power-on reset runs -/
  crema : Bool := false
  /-- PORST_N is low -/
  porst : Bool := false
  /-- RESET_N is low -/
  resetN : Bool := false
  /-- TEST_EN is high -/
  testEn : Bool := false
  /-- the main rails are not all good, so that the main domain stays in cold reset (R392) -/
  rails : Bool := false
  /-- thermal shutdown holds the main domain in warm reset (R403) -/
  therm : Bool := false
  deriving DecidableEq, Repr

/-- A timestamp (R250, R251), rounded to 100 ps. -/
structure Stamp where
  /-- the time in units of 100 ps -/
  t : Nat := 0
  epoch : Nat := 0
  valid : Bool := false
  deriving DecidableEq, Repr

/-- The pool of the on-die buffer that holds a frame's cells (R202). -/
inductive Pool where
  | none | guar | shared | siding
  deriving DecidableEq, Repr

/-- A frame inside the device: its bytes without the FCS, what came with it (R157), and what its ingress pass resolved. -/
structure Frame where
  data : List Byte := []
  /-- 0 subscriber port, 1 riser port, 2 host port, 3 line channel (R157) -/
  srcKind : Nat := 0
  /-- global port number of the ingress port (R157) -/
  inPort : Nat := 0
  encapId : Nat := 0
  encapCh : Nat := 0
  bondFlow : Nat := 0
  /-- KIND of the XGEM unit that carried the frame (R68); 3 puts BOND into the parse graph (R158) -/
  xgKind : Nat := 0
  stamp : Stamp := {}
  /-- the tag of the generation under which it entered (R176) -/
  tag : Nat := 0
  second : Bool := false
  /-- META resolved by the first pass -/
  metaV : Nat := 0
  /-- the policer that charged the first pass (R175) -/
  polDone : Option Nat := none
  /-- 0 green, 1 yellow, 2 red -/
  colour : Nat := 0
  tc : Option Nat := none
  flow : Option Nat := none
  edit : Option Nat := none
  /-- local port of arrival -/
  localIn : Nat := 0
  /-- traffic class and colour of a riser frame header (R298) -/
  hdrTc : Option Nat := none
  hdrColour : Option Nat := none
  /-- offset of the outer IP header found by the ingress parse, and whether it is IPv4 (R214) -/
  ipAt : Option (Nat × Bool) := none
  /-- slice of the ingress pass -/
  slice : Nat := 0
  /-- trap ring of a trapped or copied frame, and why: 1 trap, 2 copy (0: forwarded) -/
  trapRing : Nat := 0
  reason : Nat := 0
  /-- traffic class on its queue -/
  cls : Nat := 0
  cells : Nat := 0
  pool : Pool := .none
  /-- the queue from which a port has taken the frame, whose cells it still holds (R202) -/
  home : Option Nat := none
  /-- the cells of the Siding that hold it (R205, R369) -/
  cellsAt : List Nat := []
  /-- the filling of the staging pool in which it was written; it is in staging until the next one begins (R207) -/
  stage : Nat := 0
  /-- XGEM_PORT and KEY_IDX of its flow entry as its enqueue read them (R214, R215) -/
  usPort : Nat := 0
  usKey : Nat := 0
  /-- destination global port of the riser frame header (R190) -/
  dest : Nat := 0
  /-- a host frame's stamp request (0 none, 1 stamp, 2 one-step, 3 both), and the identity under which its stamp is
  awaited (R252, R333) -/
  tsReq : Nat := 0
  htx : Option Nat := none
  /-- identity of a frame that came in wagons, so that a verdict finds it (R153) -/
  fid : Nat := 0
  /-- padding bytes of a short host frame, which its length does not count (R332) -/
  pad : Nat := 0
  /-- length of the whole frame when some of it has still to arrive by wagon -/
  total : Nat := 0
  /-- a wagon that carried a byte of it failed (R153) -/
  failed : Bool := false
  /-- CK_CORE count at the end of the first pass (R184) -/
  born : Nat := 0
  deriving DecidableEq, Repr

/-- One slice (R28, R156, R182): the token buckets, the round-robin pointer, the passes in progress (oldest first),
and the recirculation queue in its two parts, waiting for its egress pass and returned to ingress. -/
structure Slice where
  rtok : Nat := 16
  htok : Nat := 4
  /-- the local port that the round-robin of step 3 served last -/
  rr : Option Nat := none
  passes : List Frame := []
  rqOut : List Frame := []
  rqBack : List Frame := []
  deriving DecidableEq, Repr

/-- A policer's buckets (R174, R175), in units of 10⁻⁷ bit, and the CK_CORE count of the last charge. -/
structure Pol where
  mode : Nat := 0
  c : Nat := 0
  e : Nat := 0
  last : Nat := 0
  deriving DecidableEq, Repr

/-! ### Tables of a configuration generation (R177, R178, R350) -/

/-- A version of a table location. -/
structure Ver where
  data : List Nat := []
  fromTag : Nat := 0
  fv : Bool := false
  untilT : Nat := 0
  uv : Bool := false
  deriving DecidableEq, Repr

/-- A command of a table family's command register while it runs (R185). -/
structure TblOp where
  op : Nat := 0
  table : Nat := 0
  loc : Nat := 0
  view : Nat := 0
  deriving DecidableEq, Repr

/-- One table family (R350): its locations, its staging log (location and number of the latest operation on it, R353),
the log that awaits scrub or discard, and the running command. -/
structure Fam where
  locs : Tbl (List Ver) := []
  log : Tbl Nat := []
  held : List Nat := []
  /-- the running command, which acts when it completes (R185) -/
  cmd : Option TblOp := none
  /-- data words written since the last command (BAD_KEY of R185) -/
  written : Nat := 0
  deriving DecidableEq, Repr

/-- A GEN command in its 64 ns of validation (R354), or running otherwise (R362). -/
inductive GenRun where
  | commit (timed : Bool) (noConfirm : Bool) (expect : Nat)
  | discard
  deriving DecidableEq, Repr

/-- An armed commit (R356, R357): its instant in units of 100 ps, and what armed it. -/
structure Armed where
  t : Nat := 0
  noConfirm : Bool := false
  deriving DecidableEq, Repr

/-- The generation block's hidden state. -/
structure GenSt where
  pcl : Fam := {}
  tmg : Fam := {}
  tt : Fam := {}
  /-- number of staging operations completed (R353) -/
  seq : Nat := 0
  run : Option GenRun := none
  armed : Option Armed := none
  /-- a rollback's revert of the staging logs runs (R360) -/
  reverting : Bool := false
  /-- CK_CORE count at which the running confirm timer expires (R359) -/
  confirmAt : Option Nat := none
  /-- frames in flight of each tag (R179) -/
  inflight : Tbl Nat := []
  deriving DecidableEq, Repr

/-! ### Traffic manager (spec/07) -/

/-- A queue: service queue q, transit queue (65,536 + 8·port + class) or trap queue (69,632 + k). -/
structure Queue where
  ondie : List Frame := []
  siding : List Frame := []
  spill : Bool := false
  /-- cells, and cells of the shared pool, of its frames that a port has taken and not yet sent (R202) -/
  out : Nat := 0
  outShared : Nat := 0
  /-- WRED average in cells, exactly (R204) -/
  avg : ℚ := 0
  /-- deficit of R200 in bytes -/
  deficit : Int := 0
  deriving DecidableEq, Repr

/-- A token bucket (R192–R195): the level in millibits and the parameters in force. -/
structure Bkt where
  level : Int := 0
  rate : Nat := 0
  burst : Nat := 0
  en : Bool := false
  /-- a refill has taken up an enable of 1 since reset (R193) -/
  started : Bool := false
  deriving DecidableEq, Repr

/-- Counts of a T-CONT as forwarded to the Coachbuilders (R212). -/
structure Occ where
  ondie : Nat := 0
  siding : Nat := 0
  frames : Nat := 0
  deriving DecidableEq, Repr

/-- The traffic manager. -/
structure Tm where
  queues : Tbl Queue := []
  /-- keys 65,536·level + index; levels 0 service committed, 1 service peak, 2 subscriber node, 3 port node -/
  bkts : Tbl Bkt := []
  /-- deficits of subscriber nodes at their port node, of node n at port node p at 16,384·p + n (R200) -/
  nodeDef : Tbl Int := []
  /-- member whose turn it is: of node n and class c at 8n + c -/
  turnQ : Tbl Nat := []
  /-- member whose turn it is: of port node p and class c at 8p + c -/
  turnN : Tbl Nat := []
  guarUsed : Nat := 0
  sharedUsed : Nat := 0
  /-- cells of the staging pool in use, and the number of its present filling (R207) -/
  stagingUsed : Nat := 0
  stageNo : Nat := 0
  sidingUsed : Nat := 0
  /-- the cells of the Siding in use, by number (R369) -/
  sidingCells : List Nat := []
  /-- cells held by bonding reassembly, and the size of its pool in force (R121, R202) -/
  bondUsed : Nat := 0
  bondSize : Nat := 0
  /-- Siding in use and its size in force (R205) -/
  sidingOn : Bool := false
  sidingSize : Nat := 0
  occ : Tbl Occ := []
  /-- running NODE_CMD result: status and level -/
  nodeCmd : Option (Nat × Option Int) := none
  deriving DecidableEq, Repr

/-! ### Subscriber MACs (spec/08) -/

/-- A frame in transmission on a port. -/
structure TxFrame where
  f : Frame := {}
  /-- the frame as sent so far, without its FCS -/
  data : List Byte := []
  /-- its start as a counter time in ps -/
  start : Nat := 0
  /-- a MAC control frame of the port's own -/
  ctl : Bool := false
  /-- the counter time in ps up to which its gate has been watched, and that the gate has shut since its start (R232) -/
  gateFrom : Nat := 0
  shut : Bool := false
  /-- its lane went to sleep under it: no more of it leaves (R278) -/
  cut : Bool := false
  /-- its egress stamp (R252, R253) -/
  stamp : Option Stamp := none
  deriving DecidableEq, Repr

/-- The hidden state of a subscriber port's MAC (R225–R230). -/
structure Mac where
  /-- the frame waiting behind the frame in transmission, its queue and its start time S (counter time in ps) -/
  waiting : Option (Frame × Nat × Nat) := none
  tx : Option TxFrame := none
  /-- counter time in ps at which the last frame's inter-frame gap ends -/
  free : Nat := 0
  /-- the pause timers that run, by PFC priority, 8 the PAUSE timer: the counter time in ps at which each ends (R229) -/
  pause : Tbl Nat := []
  /-- bytes in the receive elastic store, of 64 (R266) -/
  fill : Int := 32
  /-- watched counts that rose above XOFF and have not fallen to XON: bit p, and bit 8 for PAUSE (R230) -/
  above : Nat := 0
  /-- by watched count above XON, the counter time in ps at which its frame is due again (R230) -/
  refresh : Tbl Nat := []
  /-- control frames that fall due after the frame in transmission -/
  due : List (List Byte) := []
  /-- rate in Mbit/s of the in-band word that stands; 0 reports no link (R219) -/
  inband : Option Nat := none
  deriving DecidableEq, Repr

/-! ### Serial lanes (spec/10) -/

/-- The codings of R264. -/
inductive Coding where
  | b64b66 | b8b10
  deriving DecidableEq, Repr

/-- The hidden state of a subscriber lane. -/
structure Lane where
  /-- RS-FEC alignment is locked (R267) -/
  fecLock : Bool := false
  /-- the ladder walk in progress: the entry in test (walking) or in confirmation (R269) -/
  walk : Option Nat := none
  confirming : Bool := false
  /-- an eye scan runs (R282) -/
  scan : Bool := false
  /-- SyncE reference taken up when LANE_EN changed to 1 (R261) -/
  synce : Bool := false
  deriving DecidableEq, Repr

/-- One direction of a riser data lane (R272, R273, R289): the last 58 scrambled bits, the latest lowest; the run of equal
bits with which the line stands and their value; and how many stuffed bits a transmitter is behind its slots. -/
structure LaneCode where
  hist : Nat := 2 ^ 58 - 1
  run : Nat := 0
  last : Bool := false
  behind : Nat := 0
  deriving DecidableEq, Repr

/-- The hidden state of a riser port's physical layer (R272–R276). -/
structure Phy where
  /-- the rate C chosen for SWITCH (R275) -/
  c : Nat := 0
  /-- rates removed by fallbacks from those offered -/
  removed : Nat := 0
  /-- own pages carry ACK = 1, and a page with ACK = 1 has been received -/
  ack : Bool := false
  /-- the clock detector is suspended, 20 µs from entry to SWITCH -/
  suspended : Bool := false
  scan0 : Bool := false
  scan1 : Bool := false
  /-- the two data lanes, sending and receiving -/
  tx0 : LaneCode := {}
  tx1 : LaneCode := {}
  rx0 : LaneCode := {}
  rx1 : LaneCode := {}
  /-- a wagon has gone since the last place for a fill word (R289) -/
  odd : Bool := false
  deriving DecidableEq, Repr

/-! ### Line channels: reception (spec/02) -/

/-- A candidate frame start (R53–R55): its latest bit position, its count and its confirmations. -/
structure Candidate where
  pos : Nat
  sfc : Nat
  conf : Nat := 0
  deriving DecidableEq, Repr

/-- A reassembly context (R67). -/
structure Reasm where
  port : Nat
  key : Nat
  kind : Nat
  sfc : Nat
  /-- the position in its frame and the length of each payload that has come (R142) -/
  spans : List (Nat × Nat) := []
  data : List Byte := []
  /-- a fragment came in the present FS frame -/
  touched : Bool := true
  /-- its header came before the channel's side became the active one (R133) -/
  stby : Bool := false
  /-- the stamp of the header of its first fragment (R249) -/
  stamp : Stamp := {}
  deriving DecidableEq, Repr

/-- A service data unit that waits for the integrity check (KIND 2) or the bonding stage (KIND 3), decrypted. -/
structure Unit3 where
  port : Nat
  sfc : Nat
  data : List Byte
  stamp : Stamp := {}
  deriving DecidableEq, Repr

/-- A bin of R77. -/
structure Bin where
  cnt : List Nat := []
  suspect : Bool := false
  valid : Bool := false
  deriving DecidableEq, Repr

/-- The hidden state of a line channel's receiver. -/
structure Line where
  /-- LCn_SD is high -/
  sd : Bool := true
  /-- MAIN_TAP in use (R52) -/
  mainTap : Nat := 8
  cands : List Candidate := []
  /-- received count of the previous frame when it passed the HEC and differed from the expected one (R58) -/
  odd : Option Nat := none
  /-- runs of uncorrectable and of good codewords (R70) -/
  ucwRun : Nat := 0
  goodRun : Nat := 0
  /-- runs of mismatches and matches of the PON-ID and channel-profile comparisons (R69) -/
  ponMis : Nat := 0
  ponOk : Nat := 0
  cprMis : Nat := 0
  cprOk : Nat := 0
  /-- delineation holds in this FS payload (R63) -/
  delin : Bool := false
  reasm : List Reasm := []
  /-- ports whose fragments are discarded up to LF = 1 (R65, R67) -/
  skip : List Nat := []
  /-- XPORT entries that R64 does not count as valid -/
  badPorts : List Nat := []
  /-- units for the OMCI ring and for the bonding stage -/
  omci : List Unit3 := []
  bonded : List Unit3 := []
  /-- the 18 running counters (R74) -/
  run : Tbl Nat := []
  /-- defects raised at any time in this second, by bit of R70 -/
  seen : Nat := 6
  /-- this second is suspect whatever its length (R75) -/
  suspect : Bool := true
  /-- CK_TIME count at the last latch -/
  secStart : Nat := 0
  /-- consecutive seconds below the SD and SF thresholds (R70) -/
  sdRun : Nat := 0
  sfRun : Nat := 0
  /-- bins, current first: 15-minute and 24-hour (R77) -/
  bins15 : List Bin := [{}]
  bins24 : List Bin := [{}]
  deriving DecidableEq, Repr

/-! ### Time base (spec/09) -/

/-- What a read of TIM.NOW_FRAC computed for one master (R244). -/
structure NowLatch where
  frac : Nat := 0
  epoch : Nat := 0
  ns : Nat := 0
  sec : Nat := 0
  deriving DecidableEq, Repr

/-- What gave the read time up to a change of it: the counter value of the change, OFFSET, RATE_EFF, EPOCH and TIME_SET before
it (R242, R248, R250). -/
structure TimeView where
  upto : Nat := 0
  off : Int := 0
  rate : Int := 0
  epoch : Nat := 0
  set : Bool := false
  deriving DecidableEq, Repr

/-- An armed sample that has just stepped, as STEP_GO in its cycle finds it (R247): the counter value, OFFSET, P and the
earlier read times before its step, its error, and what its step and the PM latch changed in registers and line channels: each
with its value before and after. -/
structure SampleStep where
  ctr : Nat := 0
  off : Int := 0
  pend : Int := 0
  hist : List TimeView := []
  err : Int := 0
  regs : Tbl (Nat × Nat) := []
  lines : Tbl (Line × Line) := []
  deriving DecidableEq, Repr

/-- The time base. Times are integers in units of 2⁻⁴⁸ ps, in which the formula of R242 is exact. -/
structure Tim where
  /-- the 64-bit counter of CK_TIME cycles (R241) -/
  ctr : Nat := 0
  /-- OFFSET of R242 -/
  off : Int := 0
  /-- the pending correction P of R257 -/
  pend : Int := 0
  /-- D_ds in units of 2⁻¹⁶ ns (R255) -/
  dds : Nat := 0
  /-- the armed time-of-day sample: its superframe count and its time (R256) -/
  tod : Option (Nat × Int) := none
  /-- the error of a captured sample, to be evaluated 80 ns later (R256) -/
  cap : Option Int := none
  now : Tbl NowLatch := []
  /-- TOD_1PPS_OUT, and the counter time in ps at which its pulse ends -/
  ppsOut : Bool := false
  ppsEnd : Nat := 0
  /-- the latest changes of the read time, newest first (notes/assumptions/55.md) -/
  hist : List TimeView := []
  /-- the counter value of a STEP_GO that found ARM_STEP 1, and a sample that has just stepped (R247) -/
  stepGo : Option Nat := none
  stepped : Option SampleStep := none
  /-- by line channel, the phase of its latest PSync against CK_TIME in units of 100 ps (R134) -/
  phase : Tbl Nat := []
  /-- the build-out phase offset that the PLL carries since a change of reference (R134, R259) -/
  buildOut : Option Nat := none
  /-- tracking of a new reference has still to resume (R134) -/
  resume : Bool := false
  deriving DecidableEq, Repr

/-! ### Host rings (spec/12) -/

/-- What a TX_DONE record needs of a host frame (R333, R335). -/
structure TxTag where
  ring : Nat := 0
  cookie : Nat := 0
  eofIdx : Nat := 0
  len : Nat := 0
  deriving DecidableEq, Repr

/-- A RING_HALT record that waits for event room (R331). -/
structure HaltRec where
  ring : Nat
  status : Nat
  idx : Nat
  deriving DecidableEq, Repr

/-- The hidden state of a ring (R326, R331, R337, R344). -/
structure RingSt where
  /-- software's index as last acted on -/
  sw : Nat := 0
  /-- receive descriptors read from the device's head on -/
  posted : List Desc := []
  /-- the frame being read from a TXF ring -/
  fetch : Option (List Desc) := none
  /-- EVT ring: records reserved by other rings' work, and records that wait until the ring can be written (R337) -/
  rsvd : Nat := 0
  hold : List (List Nat) := []
  /-- EVT ring: records not yet signalled, and whether MOD_T has passed since the oldest -/
  unsig : Nat := 0
  modDue : Bool := false
  /-- EVT ring: halt records that wait for room -/
  halts : List HaltRec := []
  /-- RXF ring: the frames that wait for it, oldest first -/
  frames : List Frame := []
  /-- buffers filled and bytes written of the oldest -/
  filled : Nat := 0
  off : Nat := 0
  /-- records reserved for the oldest -/
  mine : Nat := 0
  /-- the starvation timer runs -/
  timer : Bool := false
  deriving DecidableEq, Repr

/-- The hidden state of a ring domain (R338, R341). -/
structure Dom where
  /-- a device index changed since the last status line -/
  dirty : Bool := false
  /-- a doorbell poll is outstanding, and another has fallen due -/
  poll : Bool := false
  due : Bool := false
  deriving DecidableEq, Repr

/-- The host interface's hidden state. -/
structure HostSt where
  rings : Tbl RingSt := []
  doms : Tbl Dom := []
  /-- the ring that each host port's transmit round-robin served last (R332) -/
  rr : Tbl Nat := []
  /-- host frames whose stamp is awaited, by the identity in `Frame.htx` (R333) -/
  stamps : Tbl TxTag := []
  nextId : Nat := 0
  /-- PCIe function mask, vector masks and pending bits (R348) -/
  funcMask : Bool := false
  vecMask : Nat := 2 ^ 256 - 1
  pend : Nat := 0
  /-- the address and data of each MSI-X vector, and the codes of the largest payload and read request (R348) -/
  msix : Tbl (Nat × Nat) := []
  payload : Nat := 0
  readReq : Nat := 2
  deriving DecidableEq, Repr


/-! ### Cipher engine (spec/05) -/

/-- A key command in the engine (R139, R140): the first of the queue runs. -/
structure KeyJob where
  op : Nat := 0
  slot : Nat := 0
  /-- the key input, sampled when the command starts -/
  keyIn : List Nat := []
  /-- PLAIN_EN was 1 when it was issued -/
  plain : Bool := false
  /-- issued through the Tender's private port, for this channel -/
  tender : Bool := false
  deriving DecidableEq, Repr

/-- The cipher engine's hidden state. -/
structure Cph where
  /-- the keys, by slot; no register shows one -/
  keys : Tbl Nat := []
  jobs : List KeyJob := []
  /-- the armed transmit switch instants, by riser port (R152) -/
  rsrAt : Tbl Int := []
  deriving DecidableEq, Repr

/-! ### Trust block (spec/16) -/

/-- The fuse array of R406 (SERIAL is `Chip.serial`). -/
structure Fuses where
  root0 : Nat := 0
  root1 : Nat := 0
  revoke : Nat := 0
  dbgHash : Nat := 0
  debugLock : Bool := false
  arb : Nat := 0
  pufHelper : Nat := 0
  deriving DecidableEq, Repr

/-- A trust command in progress (R420), as fixed at its start: what it does when it completes. -/
inductive TruRun where
  /-- the report of R417 -/
  | attest (report : List Byte)
  | noIdentity
  | measExtend (digest : List Byte)
  /-- the status of the token and its permissions -/
  | dbgOpen (status perms : Nat)
  | arb (v : Nat)
  | arbRefused
  | revoke (s : Nat)
  | keyRefused
  deriving DecidableEq, Repr

/-- How far the boot ROM is: due after a reset; run, with the slot, SVN and key slot of an accepted image; over. -/
inductive BootRun where
  | due
  | loaded (slot svn keySlot : Nat)
  | noImage
  | failed
  | over
  deriving DecidableEq, Repr

/-- The trust block's hidden state. -/
structure Tru where
  fuses : Fuses := {}
  shadow : Fuses := {}
  run : Option TruRun := none
  /-- the challenge that stands (R419) -/
  chal : Option Nat := none
  /-- permissions opened by tokens since the last cold reset (R418) -/
  opened : Nat := 0
  /-- the debug-token public key as read from flash at this boot (R407) -/
  dbgKey : List Byte := []
  /-- the identity secret has been reconstructed since the last cold reset (R415) -/
  ident : Bool := false
  /-- a health-test failure since cold reset (R417) -/
  rngFail : Bool := false
  /-- requests to the random generator since its last reseed, the seeds of the four slices the first (R204, R421) -/
  reqs : Nat := 4
  /-- the last reset was a cold one, so that the boot ROM loads the fuses (R410) -/
  cold : Bool := true
  boot : BootRun := .due
  /-- boot-record copy selected at this boot (R408) -/
  copy : Nat := 0
  /-- a trial timed out, so that the next boot records it (R364) -/
  trialOut : Bool := false
  /-- sequence number of the selected copy -/
  recSeq : Nat := 0
  /-- its FLASH_MHZ, and whether the flash is read in octal mode (R408, R449) -/
  flashMhz : Nat := 25
  octal : Bool := false
  /-- the slot that the record write in progress names (R364) -/
  recPref : Nat := 0
  /-- an ARB fuse, and REVOKE fuses, that failed to read back: never retried (R412) -/
  deadArb : Option Nat := none
  deadRevoke : Nat := 0
  deriving DecidableEq, Repr

/-! ### Activation and the Coachbuilder (spec/03) -/

/-- An upstream PLOAM message, its layout being that of G.9804.2. -/
inductive PloamUp where
  /-- Serial_Number_ONU, with the vendor identifier and the vendor-specific serial number (R6, R88) and the random delay
  in words (R90) -/
  | serialNumber (vendor vssn delay : Nat)
  /-- Registration, with its 36 bytes of LN.REG_ID (R89) -/
  | registration (regId : List Byte)
  /-- Acknowledgement of a request: 0 done, 1 processing error, 2 not supported -/
  | ack (code : Nat)
  /-- the key report of R148: key index, KEK-wrapped form, key name -/
  | keyReport (idx wrapped name : Nat)
  /-- a message of software, with the fields that the Tender fills in (R94) -/
  | software (msg : List Byte) (urgent : Bool)
  /-- the filler of an empty queue -/
  | filler
  deriving DecidableEq, Repr

/-- A message of software in the Tender's queue (R94). -/
structure SwMsg where
  msg : List Byte
  urgent : Bool := false
  deriving DecidableEq, Repr

/-- The hidden state of a channel's activation machine (R84, R85, R94, R96). -/
structure Act where
  /-- FS headers in consecutive frame periods, and one in the present period -/
  hdrs : Nat := 0
  hdrSeen : Bool := false
  /-- TO1 and TO2 run; expired while the Tender was halted -/
  to1 : Bool := false
  to2 : Bool := false
  late1 : Bool := false
  late2 : Bool := false
  /-- loss of downstream fell due while the Tender was halted -/
  lateLods : Bool := false
  /-- EN was written 0, or changed from 0 to 1, while the Tender was halted -/
  lateDis : Bool := false
  lateEn : Bool := false
  /-- a Channel_Profile has been accepted since the channel left reset (R84) -/
  cprof : Bool := false
  /-- answers in preparation, and answers that wait -/
  due : List PloamUp := []
  answers : List PloamUp := []
  sw : List SwMsg := []
  /-- a Change_Power_Level waits for its acknowledgement -/
  pwrWait : Bool := false
  /-- its timeout passed, unequal, while the Tender was halted (R96) -/
  latePwr : Bool := false
  /-- the equalisation delay loaded most recently (R255) -/
  loaded : Nat := 0
  /-- content of the latest System_Profile -/
  sysProf : List Byte := []
  /-- sequence number of upstream PLOAM messages -/
  seq : Nat := 0
  deriving DecidableEq, Repr

/-- A frame in a burst store (R104), or on its way from the Siding. -/
structure BFrame where
  f : Frame := {}
  /-- its place in the order in which the channel's store took frames -/
  id : Nat := 0
  /-- its queue, its T-CONT and the port-ID and key index of its flow -/
  q : Nat := 0
  tcont : Nat := 0
  port : Nat := 0
  keyIdx : Nat := 0
  /-- the XGEM payload: bonding header, edited frame and FCS; bytes already sent as fragments -/
  data : List Byte := []
  off : Nat := 0
  group : Option Nat := none
  /-- false while its Siding read runs; the read's deadline in ps, and whether a burst was sealed without it (R105,
  R106) -/
  ready : Bool := true
  deadline : Int := 0
  /-- the read was issued at its deadline or after it -/
  late : Bool := false
  missed : Bool := false
  deriving DecidableEq, Repr

/-- A part of an allocation's payload: an XGEM frame with the payload bytes it carries, and the padding behind them as it
leaves (R147). -/
structure XgemUp where
  port : Nat := 0
  keyIdx : Nat := 0
  lf : Bool := true
  payload : List Byte := []
  pad : List Byte := []
  deriving DecidableEq, Repr

/-- An allocation of a burst: its Alloc-ID, what it matched (0 serial-number grant, 1 default Alloc-ID, 2 an entry of
LN.ALLOC), its size in words, whether a DBRu is requested. -/
structure BAlloc where
  alloc : Nat := 0
  kind : Nat := 0
  size : Nat := 0
  dbru : Bool := false
  deriving DecidableEq, Repr

/-- What an allocation carries, as sealed (R106, R107): DBRu, XGEM frames, bytes of idle frames. -/
structure Part where
  dbru : Option Nat := none
  frames : List XgemUp := []
  idle : Nat := 0
  deriving DecidableEq, Repr

/-- A burst's content, fixed at its seal. -/
structure Sealed where
  /-- the ONU-ID of the burst header, when one is assigned (R107) -/
  onu : Option Nat := none
  ploam : Option PloamUp := none
  /-- the bytes of the PLOAM message as they leave, with ONU-ID, sequence number and integrity code (R94, R146) -/
  wire : List Byte := []
  /-- the message came from a queue -/
  queued : Bool := false
  /-- the PLOAM queue indication and the dying-gasp indication (R107, R108) -/
  more : Bool := false
  gasp : Bool := false
  parts : List Part := []
  /-- store frames and OMCI bytes that it took, as they were before (R133) -/
  took : List BFrame := []
  omci : List (List Byte × Nat) := []
  /-- by T-CONT: payload bytes sealed, and frames sealed to their last byte -/
  sent : Tbl (Nat × Nat) := []
  deriving DecidableEq, Repr

/-- A burst of a bandwidth map (R99, R102). Times are downstream unit intervals from t_rx of its frame. -/
structure Burst where
  frame : Nat := 0
  sfc : Nat := 0
  /-- the words of its profile -/
  prof : List Nat := []
  allocs : List BAlloc := []
  ploam : Bool := false
  /-- the random delay in words, and the bytes of the upstream frame ahead of the burst header -/
  delay : Nat := 0
  start : Nat := 0
  on : Nat := 0
  pre : Nat := 0
  hdr : Nat := 0
  fin : Nat := 0
  off : Nat := 0
  /-- CUR_IDX for its map (R144) -/
  key : Nat := 0
  content : Option Sealed := none
  deriving DecidableEq, Repr

/-- The hidden state of a Coachbuilder. -/
structure Coach where
  /-- number of the frame whose FS header came last, and its t_rx in ps of the counter -/
  frame : Nat := 0
  rxPs : Int := 0
  /-- equalisation delay and profiles in force for that frame's map (R97, R98) -/
  eqd : Nat := 0
  profs : List (List Nat) := []
  /-- bursts not yet sent, in order of time -/
  bursts : List Burst := []
  /-- where LCn_TXBE asserts for the last burst sent, and where it deasserts: frame number × frame length + offset -/
  lastOn : Nat := 0
  lastOff : Option Nat := none
  store : List BFrame := []
  nextId : Nat := 0
  /-- OMCI messages in the store, with the bytes of each already sent (R110) -/
  omci : List (List Byte × Nat) := []
  deriving DecidableEq, Repr

/-! ### Bonding and protection (spec/04) -/

/-- A held data frame (R117): its number, the slot of CK_CORE at which it came, the device's order of arrival. -/
structure HeldFrame where
  seq : Nat
  at_ : Nat := 0
  ord : Nat := 0
  cells : Nat := 0
  f : Frame := {}
  deriving DecidableEq, Repr

/-- The hidden state of a bonding group. -/
structure BGroup where
  /-- E; none before the first data frame -/
  exp : Option Nat := none
  held : List HeldFrame := []
  /-- high marks by channel -/
  high : Tbl Nat := []
  /-- channels that delivered a unit of the group since they last entered SYNC -/
  heard : Nat := 0
  farRun : Nat := 0
  /-- the start timer runs -/
  timer : Bool := false
  /-- by channel, TX_SEQ as the last frame or marker on it left it (R123) -/
  sentAt : Tbl Nat := []
  /-- the channel served last (R122) -/
  last : Option Nat := none
  deriving DecidableEq, Repr

/-- The hidden state of the protection sequencer. -/
structure Prot where
  /-- bit 2n: DSD of channel n has lasted HOLDOFF; bit 2n + 1: UCW -/
  lasted : Nat := 0
  /-- the present onset of the trigger has been counted in BLOCKED -/
  onset : Bool := false
  deriving DecidableEq, Repr


/-! ### Wake arbiter (spec/15 R399 to R401) -/

/-- The wake arbiter: requests in order, each a source number with the CK_CREMA cycles it has waited; the levels of the
four buckets in 1/25 mA; the sources granted whose wake time runs. -/
structure WakeSt where
  queue : List (Nat × Nat) := []
  core : Nat := 200000
  sl : Nat := 50000
  slh : Nat := 25000
  ddr : Nat := 25000
  granted : List Nat := []
  /-- slices that stand still: gated, or waiting for their wake (R401) -/
  off : Nat := 0
  deriving DecidableEq, Repr

/-! ### Riser links and hierarchy (spec/11) -/

/-- A frame in reception on a riser port: its riser frame header and the bytes that have come. -/
structure RxFrame where
  fid : Nat := 0
  dst : Nat := 0
  src : Nat := 0
  len : Nat := 0
  tc : Nat := 0
  colour : Nat := 0
  /-- bytes of the frame that have come, its FCS among them -/
  data : List Byte := []
  /-- bytes of it already released into the input buffer -/
  out : Nat := 0
  /-- the stamp of the wagon that carried its header (R249) -/
  stamp : Stamp := {}
  deriving DecidableEq, Repr

/-- What a wagon waits to do when its verdict comes (R137, R299). -/
structure WagonIn where
  ok : Bool := true
  ciph : Bool := false
  phase : Nat := 0
  ctr : Nat := 0
  /-- KIND of the header: 1 data, 2 management -/
  kind : Nat := 0
  /-- the frames with a byte in it, and those that end in it -/
  fids : List Nat := []
  ends : List Nat := []
  /-- the frames with a byte in it, each with the byte up to which it carries the frame -/
  upto : List (Nat × Nat) := []
  recs : List Rec := []
  stamp : Stamp := {}
  deriving DecidableEq, Repr

/-- A frame being sent in wagons: its edited bytes as far as they have come, how many there will be, and how many bytes
of the frame, its FCS at the end, have gone. -/
structure TxRiser where
  f : Frame := {}
  all : List Byte := []
  len : Nat := 0
  off : Nat := 0
  deriving DecidableEq, Repr

/-- The hidden state of a riser port's link layer (R292 to R300). -/
structure RLink where
  /-- passing headers in hunt, failing ones when aligned -/
  run : Nat := 0
  bad : Nat := 0
  /-- phase and counter of the wagon accepted last -/
  prev : Option (Nat × Nat) := none
  rx : List RxFrame := []
  /-- the frame that continues in the next data wagon -/
  cont : Option Nat := none
  waits : List WagonIn := []
  /-- data wagons past their verdict with bytes that have not left the receiver (R295), each by its frames' bytes -/
  kept : List (List (Nat × Nat)) := []
  freedD : Nat := 0
  freedM : Nat := 0
  sentD : Nat := 0
  sentM : Nat := 0
  cumD : Nat := 0
  cumM : Nat := 0
  ctr : Nat := 0
  homing : Bool := false
  urgent : List Rec := []
  recs : List Rec := []
  /-- slots since a management wagon went while a data wagon was ready -/
  mgmtAge : Nat := 3
  tx : Option TxRiser := none
  abort : Bool := false
  deriving DecidableEq, Repr

/-- A time exchange in progress on the lower device (R308). Times are in units of 2⁻⁴⁸ ps. -/
structure Exch where
  port : Nat := 0
  seq : Nat := 0
  t2 : Int := 0
  t1 : Option Int := none
  t3 : Option Int := none
  deriving DecidableEq, Repr

/-- An armed global operation (R316, R317). -/
structure Gop where
  op : Nat := 0
  id : Nat := 0
  t : Int := 0
  gen : Nat := 0
  deriving DecidableEq, Repr

/-- The hidden state of the hierarchy. -/
structure Hier where
  exch : Option Exch := none
  syncSeq : Nat := 0
  /-- port of the running probe -/
  probe : Option Nat := none
  /-- tags of the outstanding remote accesses, by slot, and the next tag -/
  tags : Tbl Nat := []
  /-- by slot, 1 where the outstanding access is a write (R305) -/
  wrote : Tbl Nat := []
  nextTag : Nat := 0
  /-- the count RACC_LATE, to which the spec gives no register -/
  raccLate : Nat := 0
  gop : Option Gop := none
  /-- devices whose verdict has come -/
  reported : Nat := 0
  /-- the summary of interrupt outputs as last evaluated (R306) -/
  summary : Nat := 0
  /-- records to be handled: the riser port they came on (4: from this device itself), and the wagon's stamp -/
  loop : List (Nat × Rec × Stamp) := []
  /-- the snapshot store: 32 × port + counter -/
  snap : Tbl Nat := []
  /-- number of the next frame received in wagons -/
  nextFid : Nat := 1
  deriving DecidableEq, Repr


/-! ### Power sequencer (spec/15) -/

/-- The hidden state of the Crema domain. -/
structure PwrSt where
  /-- the fitted phases have been sampled (R388) -/
  sampled : Bool := false
  /-- HP_PRESENT_N is high -/
  hpHigh : Bool := false
  /-- HP_PRESENT_N has been low for HP_DEB (R391) -/
  debounced : Bool := false
  /-- triggers of a power-down that have not ended: bit 0 hot-plug, 1 OFF, 2 fault, 3 critical temperature (R395) -/
  triggers : Nat := 0
  /-- power-ups after faults without 10 s free of them (R390) -/
  retries : Nat := 0
  /-- the run-on after HP_PRESENT_N rose (R394) -/
  grace : Bool := false
  /-- during a power-down: the highest stage not yet switched off -/
  downStage : Nat := 0
  /-- VIN_SENSE has been below DG_TH (R397) -/
  vinLow : Bool := false
  /-- THERM_MAX is at or above WARN -/
  warm : Bool := false
  /-- real-time clock: what has passed of the present 1/32,768 s, in 1/(1.25 GHz × 32,768) -/
  rtc : Nat := 0
  /-- the watchdog's count, in cycles of 800 ps (R405) -/
  wdog : Nat := 0
  deriving DecidableEq, Repr

/-! ### DRAM controller (spec/14) -/

/-- Outcome of the decoding of a line read (R367). -/
abbrev Ecc := ReadOutcome

/-- A line read in its queue: the line of the channel, the port, the order of arrival, the deadline of a real-time read
in ps of the core clock, in profile or not, how often row hits have passed it. -/
structure LineRead where
  line : Nat := 0
  addr : Nat := 0
  port : Nat := 0
  deadline : Option Int := none
  inProf : Bool := false
  passed : Nat := 0
  /-- the line as it stood before a younger write to it (R373) -/
  old : Option (List Byte) := none
  deriving DecidableEq, Repr

/-- A line write in its queue: its bytes by offset, and the ports of the earlier writes that it merged (R368, R373). -/
structure LineWrite where
  line : Nat := 0
  addr : Nat := 0
  port : Nat := 0
  bytes : Tbl Byte := []
  merged : List Nat := []
  deriving DecidableEq, Repr

/-- A line access that waits at its port for a place in a full queue. -/
inductive LineWait where
  | rd (r : LineRead)
  | wr (w : LineWrite)
  deriving DecidableEq, Repr

/-- A DRAM channel. -/
structure DramCh where
  rq : List LineRead := []
  wq : List LineWrite := []
  waits : List LineWait := []
  /-- reads issued and not yet returned -/
  flight : List LineRead := []
  pour : Bool := false
  /-- open row of each bank -/
  rows : Tbl Nat := []
  /-- activate table of each bank: row and count of each entry (R382) -/
  acts : Tbl (List (Nat × Nat)) := []
  /-- refreshes issued since the tables were last cleared -/
  window : Nat := 0
  retrain : Bool := false
  force : Bool := false
  poll : Bool := false
  deriving DecidableEq, Repr

/-- The DRAM controller and the memory attached to it. -/
structure DramSt where
  /-- the attached memory by D address, in canonical form: strictly rising addresses, no byte 0 -/
  mem : List Host.Cell := []
  chans : Tbl DramCh := []
  /-- buckets of the regulated ports, in bytes (R372) -/
  bkts : Tbl Int := []
  /-- DENSITY and KEEP as taken at INIT -/
  density : Nat := 2
  keep : Bool := false
  deriving DecidableEq, Repr

/-! ### Boundary scan (spec/17) -/

/-- What the pins that the boundary register covers carry: the device's levels, those of the boundary register, or nothing. -/
inductive PinDrive where
  | device | boundary | highz
  deriving DecidableEq, Repr

/-- The TAP: the instruction loaded, the boundary register, and the TRU_ACCESS register (R432, R433). -/
structure TapSt where
  ir : Nat := 1
  boundary : Nat := 0
  /-- an access runs: write or read, word offset, data -/
  run : Option (Bool × Nat × Nat) := none
  done : Bool := false
  err : Bool := false
  off : Nat := 0
  data : Nat := 0
  deriving DecidableEq, Repr

/-! ### The device and the state -/

/-- What an I²C controller does on its bus (R450): clocks while SDA is found low and then a STOP, a START, a byte sent, a byte
read and answered with NACK, a STOP. -/
inductive I2cSym where
  | recover | start | stop
  | byte (v : Nat)
  | read
  deriving DecidableEq, Repr

/-- Something the block sends out, as an observer outside it would see it. The list of these is the model's own record
(notes/assumptions/4.md): no command reads it. -/
inductive Emit where
  /-- a frame left on a subscriber port, with its FCS; `ok` is false for a stomped or cut frame -/
  | portTx (port : Nat) (bytes : List Byte) (ok : Bool)
  /-- an answer to a bus read -/
  | busRead (m : Master) (addr : Nat) (v : Word)
  /-- bytes written into the receive buffer of a descriptor, from an offset of the frame or message on -/
  | rxBuf (ring idx : Nat) (addr : Nat) (bytes : List Byte)
  /-- an event record, or the timestamp record after it, in a slot of an EVT ring: index, address, words -/
  | record (ring idx addr : Nat) (words : List Nat)
  /-- the read of a descriptor -/
  | descRead (ring addr : Nat)
  /-- a burst on a line channel: its content and its times (R99, R107); payloads enciphered -/
  | burst (n : Nat) (b : Burst)
  /-- the burst in progress on a line channel is cut: LCn_TXDIS has risen (R86) -/
  | burstCut (n : Nat)
  /-- a domain's status line -/
  | statusLine (dom addr : Nat) (words : List Nat)
  /-- a doorbell poll, or the registration of a doorbell line with the fabric -/
  | pollRead (dom addr : Nat)
  | doorbellReg (dom addr : Nat)
  /-- a vector of a domain: an MSI-X message, or a Brewhouse interrupt -/
  | vector (dom vec : Nat) (pcie : Bool)
  /-- the memory write of an MSI-X vector: its address and data (R348) -/
  | msix (addr data : Nat)
  /-- the answer of the DRAM controller to a port's read of a line, or its error (R371) -/
  | dramData (port addr : Nat) (bytes : List Byte)
  | dramError (port addr : Nat)
  /-- the data register of the TAP as captured, and its instruction register -/
  | tapData (v : Nat)
  | tapIr (v : Nat)
  /-- what I²C bus b is to carry, at 400 or 100 kHz, and the STOP attempt of a transaction that ends early (R450) -/
  | i2c (b : Nat) (fast : Bool) (l : List I2cSym)
  | i2cStop (b : Nat)
  /-- the bits that MDIO controller m sends, first bit first (R451) -/
  | mdio (m : Nat) (bits : List Bool)
  /-- bytes written into the flash from an address on (R364, R408) -/
  | flashWrite (addr : Nat) (bytes : List Byte)
  /-- a wagon on a riser port -/
  | wagon (p : Nat) (bytes : List Byte)
  /-- bits on data lane l of riser port p, in the order in which they leave (R272, R276, R277) -/
  | lane (p l : Nat) (bits : List Bool)
  /-- a capability page on both data lanes of riser port p, and again until another page or state (R275, R277) -/
  | page (p : Nat) (bytes : List Byte)
  /-- the first 64 bits of a pattern on a lane (R283) -/
  | pattern (x : SerLane) (bits : List Bool)
  deriving DecidableEq, Repr

/-- Everything but the command queue. -/
structure Dev where
  chip : Chip := {}
  held : Held := {}
  /-- register fields, by `Fld.key` -/
  regs : Tbl Nat := []
  /-- latched higher words of wide values (R16), by byte address -/
  latch : Tbl Nat := []
  /-- CK_CORE cycles since the main domain left reset (R28, R192) -/
  core : Nat := 0
  slices : Tbl Slice := []
  /-- input buffers, by local port, oldest frame first (R29) -/
  inbuf : Tbl (List Frame) := []
  pols : Tbl Pol := []
  /-- the seconds of the latest record of each endpoint entry (R370) -/
  hitSec : Tbl Nat := []
  gen : GenSt := {}
  tm : Tm := {}
  macs : Tbl Mac := []
  lanes : Tbl Lane := []
  phys : Tbl Phy := []
  tim : Tim := {}
  host : HostSt := {}
  lines : Tbl Line := []
  acts : Tbl Act := []
  coaches : Tbl Coach := []
  groups : Tbl BGroup := []
  /-- data frames that bonding has held so far: their order of arrival -/
  bondOrd : Nat := 0
  prot : Prot := {}
  /-- the Tender is halted by its lockstep comparison (R81) -/
  tenderHalt : Bool := false
  /-- CK_TIME count at which the Crema signalled loss of main power (R108) -/
  gasp : Option Nat := none
  cph : Cph := {}
  wake : WakeSt := {}
  rlinks : Tbl RLink := []
  hier : Hier := {}
  pwr : PwrSt := {}
  dram : DramSt := {}
  tap : TapSt := {}
  /-- POLY in force in each check-value unit (R423) -/
  cvuPoly : Tbl Nat := []
  /-- by debug clock output, 1 where it was last found above 400 MHz (R429) -/
  cko : Tbl Nat := []
  tru : Tru := {}
  /-- how many free values have been used (R204 and others) -/
  freeCtr : Nat := 0
  /-- what has been sent, newest first -/
  out : List Emit := []
  deriving DecidableEq, Repr

/-- The state: the device, and the commands that wait, first in, first out. -/
structure State where
  dev : Dev := {}
  pending : List Instr := []
  deriving DecidableEq, Repr

/-- A command never stops the block: the interface's fault type has this one reason, which no command raises.
(It is there because the interface asks for a type of faults.) -/
inductive Fault where
  /-- raised by no command; safe -/
  | none
  deriving DecidableEq, Repr

/-- Reasons for which a command has no meaning. -/
inductive Refusal where
  /-- the command of this mnemonic is not modelled; raised only by an arm of the dispatch; safe -/
  | notModelled (mnemonic : String)
  deriving DecidableEq, Repr

/-- The state right after the Crema power-on reset has ended, with the main rails good and no reset pin low: every
register at the reset value of its table, every table, queue and log empty, an HKN-6400 as shipped
(notes/assumptions/1.md), no command waiting. -/
def State.reset : State := { dev := {}, pending := [] }

end Sys2Proof.Machine
end

