-- ==== Sys2Proof/Machine/Ops.lean ====
section
/-!
DEFINITION. The operations that every meaning is written with: reading and writing a register field, saturating
counters, event bits, wide counters, presence and reset of a unit, byte-order helpers, the check sums of R422, and
running a device function as the meaning of a command.
-/
namespace Sys2Proof.Machine

/-! ### Register fields -/

/-- The value of a field. -/
def Dev.fld (d : Dev) (f : Fld) : Nat := Tbl.get d.regs f.key (Reg.rst f.key)

/-- A one-bit field is 1. -/
def Dev.on (d : Dev) (f : Fld) : Bool := d.fld f != 0

/-- Write a field; the value is taken modulo the field's width. -/
def Dev.put (d : Dev) (f : Fld) (v : Nat) : Dev := { d with regs := Tbl.set d.regs f.key (v % 2 ^ f.w) }

/-- Set a one-bit field, such as an event bit. -/
def Dev.ev (d : Dev) (f : Fld) : Dev := d.put f 1

/-- Clear a field. -/
def Dev.clr (d : Dev) (f : Fld) : Dev := d.put f 0

/-- A Boolean as a one-bit field. -/
def bit (b : Bool) : Nat := if b then 1 else 0

/-- Count `n` in a counter that saturates at its width. -/
def Dev.bumpBy (d : Dev) (f : Fld) (n : Nat) : Dev := d.put f (min (2 ^ f.w - 1) (d.fld f + n))

/-- Count 1 in a counter that saturates at its width. -/
def Dev.bump (d : Dev) (f : Fld) : Dev := d.bumpBy f 1

/-- A sequence number that wraps at its width. -/
def Dev.incr (d : Dev) (f : Fld) : Dev := d.put f (d.fld f + 1)

/-- Return a field to its reset value. -/
def Dev.unput (d : Dev) (f : Fld) : Dev := { d with regs := Tbl.del d.regs f.key }

/-- A value held in a low and a high word. -/
def Dev.wide (d : Dev) (lo hi : Fld) : Nat := d.fld lo + 2 ^ 32 * d.fld hi

/-- Write a value into its low and high word. -/
def Dev.putWide (d : Dev) (lo hi : Fld) (v : Nat) : Dev := (d.put lo v).put hi (v / 2 ^ 32)

/-- Count `n` in a two-word counter that saturates at `w` bits. -/
def Dev.bumpWide (d : Dev) (lo hi : Fld) (w n : Nat) : Dev :=
  d.putWide lo hi (min (2 ^ w - 1) (d.wide lo hi + n))

/-- Return every field of a span of addresses to its reset value, but for those that `keep` names by key. -/
def Dev.clearRegs (d : Dev) (lo hi : Nat) (keep : Nat → Bool) : Dev :=
  { d with
    regs := Tbl.keep d.regs (fun k => !(decide (lo ≤ k / 32) && decide (k / 32 ≤ hi)) || keep k)
    latch := Tbl.keep d.latch (fun a => !(decide (lo ≤ a) && decide (a ≤ hi))) }

/-- The access type of the field with this key; `ro` where the register map has none. -/
def accOf (k : Nat) : Acc :=
  match Reg.find (k / 32) with
  | none => .ro
  | some r => match r.fields.find? (fun f => f.lo == k % 32) with
    | none => .ro
    | some f => f.acc

/-- A field that software configures: a unit reset keeps it (R44, R47). -/
def isConfig (k : Nat) : Bool := accOf k == .rw

/-- Unit reset of a span of registers: status and counters return to reset, configuration stays (R44). -/
def Dev.unitClear (d : Dev) (lo hi : Nat) : Dev := d.clearRegs lo hi isConfig

/-! ### Words and bytes -/

/-- Bits [lo+w-1:lo] of a number. -/
def bits (v lo w : Nat) : Nat := v / 2 ^ lo % 2 ^ w

/-- One bit of a number. -/
def bitOf (v i : Nat) : Bool := v / 2 ^ i % 2 == 1

/-- `v` with bits [lo+w-1:lo] replaced by `x`. -/
def setBits (v lo w x : Nat) : Nat := v - bits v lo w * 2 ^ lo + x % 2 ^ w * 2 ^ lo

/-- `v` with bit `i` set to `b`. -/
def setBit (v i : Nat) (b : Bool) : Nat := setBits v i 1 (bit b)

/-- Two's complement: the signed value of a `w`-bit number. -/
def signed (w v : Nat) : Int := if v % 2 ^ w < 2 ^ (w - 1) then (v % 2 ^ w : Nat) else (v % 2 ^ w : Nat) - (2 ^ w : Nat)

/-- Two's complement: the `w`-bit number of a signed value. -/
def unsigned (w : Nat) (v : Int) : Nat := (v % (2 ^ w : Nat)).toNat

/-- A byte at an offset; 0 beyond the end. -/
def byteAt (b : List Byte) (i : Nat) : Nat := match b[i]? with | some x => x.toNat | none => 0

/-- `n` bytes from offset `i`, most significant first (R14). -/
def beAt (b : List Byte) (i : Nat) : Nat → Nat
  | 0 => 0
  | n + 1 => beAt b i n * 256 + byteAt b (i + n)

/-- The `n` bytes of a number, most significant first. -/
def beBytes (v : Nat) : Nat → List Byte
  | 0 => []
  | n + 1 => beBytes (v / 256) n ++ [BitVec.ofNat 8 v]

/-- The `n` bytes of a number, least significant first. -/
def leBytes (v : Nat) : Nat → List Byte
  | 0 => []
  | n + 1 => BitVec.ofNat 8 v :: leBytes (v / 256) n

/-- `b` padded with zero bytes to `n`. -/
def padTo (n : Nat) (b : List Byte) : List Byte := b ++ List.replicate (n - b.length) 0

/-- `b` with the bytes `x` written over it from offset `i`. -/
def overwrite (b : List Byte) (i : Nat) (x : List Byte) : List Byte := b.take i ++ x ++ b.drop (i + x.length)

/-- Ceiling of a division. -/
def cdiv (a b : Nat) : Nat := (a + (b - 1)) / b

/-- Keep `v` within `lo` and `hi`. -/
def clampI (lo hi v : Int) : Int := max lo (min hi v)

/-- The members of a mask of `n` bits, in rising order. -/
def members (mask n : Nat) : List Nat := (List.range n).filter (fun i => bitOf mask i)

/-! ### Check sums (R422) -/

/-- A computation of R422. -/
structure Crc where
  w : Nat
  poly : Nat
  init : Nat
  refl : Bool
  xor : Nat
  deriving DecidableEq, Repr

/-- CRC-32 (IEEE 802.3). -/
def crc32 : Crc := ⟨32, 0x04C11DB7, 0xFFFFFFFF, true, 0xFFFFFFFF⟩
/-- CRC-32C. -/
def crc32c : Crc := ⟨32, 0x1EDC6F41, 0xFFFFFFFF, true, 0xFFFFFFFF⟩
/-- CRC-16/CCITT. -/
def crc16 : Crc := ⟨16, 0x1021, 0xFFFF, false, 0⟩
/-- CRC-8. -/
def crc8 : Crc := ⟨8, 0x07, 0, false, 0⟩

/-- One bit into the accumulator. -/
def Crc.bit (c : Crc) (acc : Nat) (b : Bool) : Nat :=
  let top := bitOf acc (c.w - 1)
  let acc' := acc * 2 % 2 ^ c.w
  if top != b then acc' ^^^ c.poly else acc'

/-- One byte into the accumulator, least significant bit first in a reflected computation. -/
def Crc.byte (c : Crc) (acc : Nat) (x : Nat) : Nat :=
  (List.range 8).foldl (fun a i => c.bit a (bitOf x (if c.refl then i else 7 - i))) acc

/-- The accumulator after the bytes (CVU.ACC). -/
def Crc.acc (c : Crc) (acc : Nat) (b : List Byte) : Nat := b.foldl (fun a x => c.byte a x.toNat) acc

/-- The low `w` bits of a number in reverse order. -/
def bitRev (w v : Nat) : Nat := (List.range w).foldl (fun a i => a * 2 + bit (bitOf v i)) 0

/-- The finished value from the accumulator (CVU.RESULT). -/
def Crc.finish (c : Crc) (acc : Nat) : Nat := (if c.refl then bitRev c.w acc else acc) ^^^ c.xor

/-- The check sum of the bytes. -/
def Crc.sum (c : Crc) (b : List Byte) : Nat := c.finish (c.acc c.init b)

/-- SHAKE256 of bytes, as 64 bytes. -/
def digest (b : List Byte) : List Byte := beBytes (Config.shake256 b) 64

/-- The bytes of a text in ASCII. -/
def ascii (t : String) : List Byte := t.toList.map (fun c => BitVec.ofNat 8 c.toNat)

/-- The frame check sequence in the order of transmission (R224). -/
def fcs (b : List Byte) : List Byte := leBytes (crc32.sum b) 4

/-! ### Presence (R8, R9, R24) -/

/-- Unit presence bit of CHIPCAP.UNITS0. -/
def Dev.unit (d : Dev) (i : Nat) : Bool := bitOf d.chip.units0 i
/-- Line channel n present. -/
def Dev.lnHere (d : Dev) (n : Nat) : Bool := decide (n < 4) && bitOf d.chip.units0 n
/-- Riser port p present. -/
def Dev.rpHere (d : Dev) (p : Nat) : Bool := decide (p < 4) && bitOf d.chip.units1 p
/-- DRAM channel c present. -/
def Dev.dmcHere (d : Dev) (c : Nat) : Bool := decide (c < 4) && bitOf d.chip.units1 (4 + c)
/-- CHIPCAP.SL_MASK[g]. -/
def Dev.slMask (d : Dev) (g : Nat) : Nat :=
  if g = 0 then d.chip.sl0 else if g = 1 then d.chip.sl1 else if g = 2 then d.chip.sl2 else if g = 3 then d.chip.sl3 else 0
/-- Subscriber lane n present. -/
def Dev.slHere (d : Dev) (n : Nat) : Bool := bitOf (d.slMask (n / 28)) (n % 28)
/-- The part has a line channel. -/
def Dev.anyLine (d : Dev) : Bool := decide (d.chip.units0 % 16 ≠ 0)
def Dev.tenderHere (d : Dev) : Bool := d.unit 4
def Dev.coachHere (d : Dev) : Bool := d.unit 5
def Dev.bondHere (d : Dev) : Bool := d.unit 6
def Dev.protBHere (d : Dev) : Bool := d.unit 7
def Dev.cphLineHere (d : Dev) : Bool := d.unit 8
def Dev.cphRiserHere (d : Dev) : Bool := d.unit 9
def Dev.sidingHere (d : Dev) : Bool := d.unit 10
def Dev.pcieHere (d : Dev) : Bool := d.unit 11
def Dev.pmHistHere (d : Dev) : Bool := d.unit 12
def Dev.hifHere (d : Dev) : Bool := d.unit 20
def Dev.cpxHere (d : Dev) : Bool := d.unit 21
/-- The part has a Brewhouse core. -/
def Dev.brewHere (d : Dev) : Bool := d.cpxHere && decide (bits d.chip.units1 8 8 ≠ 0)
/-- The cipher engine: a mode of it, and a core that runs it, are present (R23). -/
def Dev.cphHere (d : Dev) : Bool := (d.cphLineHere || d.cphRiserHere) && decide (bits d.chip.units1 16 4 ≠ 0)

/-- The unit behind a local port of R24 is present; false for a reserved port. -/
def Dev.portHere (d : Dev) (p : Nat) : Bool :=
  if p < 448 then d.slHere (p / 4)
  else if p < 452 then d.rpHere (p - 448)
  else if p < 456 then d.hifHere
  else if p < 460 then d.lnHere (p - 456)
  else false

/-- The slice of a local port (R24). -/
def sliceOf (p : Nat) : Nat :=
  if p < 448 then p / 112 else if p < 452 then p - 448 else if p < 456 then p - 452 else p - 456

/-! ### Running -/

/-- The main domain is out of reset: nothing holds it (R44). -/
def Dev.mainUp (d : Dev) : Bool := d.held == {}

/-- The Crema domain is out of reset. -/
def Dev.cremaUp (d : Dev) : Bool := !d.held.crema

/-- Line channel n is present and not held in reset (R47). -/
def Dev.lnUp (d : Dev) (n : Nat) : Bool :=
  d.lnHere n && !bitOf (d.fld Reg.CHIPCAP_BLOCK_RST.LN) n

/-- Riser port p is present and not held in reset (R47). -/
def Dev.rpUp (d : Dev) (p : Nat) : Bool :=
  d.rpHere p && !bitOf (d.fld Reg.CHIPCAP_BLOCK_RST.RP) p

/-- The host interface is present and not held in reset. -/
def Dev.hifUp (d : Dev) : Bool := d.hifHere && !d.on Reg.CHIPCAP_BLOCK_RST.HIF

/-- The cipher engine is present and not held in reset. -/
def Dev.cphUp (d : Dev) : Bool := d.cphHere && !d.on Reg.CHIPCAP_BLOCK_RST.CPH

/-- The engine's line mode, and its riser mode, are present and run (R8, R154). -/
def Dev.cphLineUp (d : Dev) : Bool := d.cphUp && d.cphLineHere
def Dev.cphRiserUp (d : Dev) : Bool := d.cphUp && d.cphRiserHere

/-- The type of a meaning's answer. -/
abbrev Out := Host.Outcome State Fault Refusal

/-- Do `f` when `b` holds. -/
def Dev.iff (d : Dev) (b : Bool) (f : Dev → Dev) : Dev := if b then f d else d

/-- Do `f` for every member of a list, in order. -/
def Dev.each {α : Type} (d : Dev) (l : List α) (f : Dev → α → Dev) : Dev := l.foldl f d

/-- Record something sent. -/
def Dev.emit (d : Dev) (e : Emit) : Dev := { d with out := e :: d.out }

/-- The next free value (Config.free), below 2^w. -/
def Dev.freeVal (d : Dev) (w : Nat) : Nat := Config.free d.freeCtr % 2 ^ w

/-- A free value has been used: the next one is another. -/
def Dev.freed (d : Dev) : Dev := { d with freeCtr := d.freeCtr + 1 }

/-- A request to the random generator has been served; after every 2²⁰ it reseeds, when the source finds a `good` seed
(R421). -/
def Dev.rngServed (d : Dev) (good : Bool) : Dev :=
  if 2 ^ 20 ≤ d.tru.reqs + 1 then
    ({ d with tru := { d.tru with reqs := 0 } } : Dev).iff good (·.put Reg.TRU_RNG_STAT.HEALTH_OK 1)
  else { d with tru := { d.tru with reqs := d.tru.reqs + 1 } }

/-- The same for a consumer inside the device: whether a reseed then due finds a good seed is a free value
(notes/assumptions/57.md). -/
def Dev.rngUsed (d : Dev) : Dev :=
  if 2 ^ 20 ≤ d.tru.reqs + 1 then d.freed.rngServed (d.freeVal 1 == 1) else d.rngServed false

/-- `n` free bytes. -/
def Dev.freeBytes (d : Dev) (n : Nat) : Dev × List Byte :=
  ({ d with freeCtr := d.freeCtr + n }, (List.range n).map (fun i => BitVec.ofNat 8 (Config.free (d.freeCtr + i))))

/-! ### Tables of the state -/

def Dev.slice (d : Dev) (k : Nat) : Slice := Tbl.get d.slices k {}
def Dev.setSlice (d : Dev) (k : Nat) (x : Slice) : Dev := { d with slices := Tbl.set d.slices k x }
def Dev.mac (d : Dev) (p : Nat) : Mac := Tbl.get d.macs p {}
def Dev.setMac (d : Dev) (p : Nat) (x : Mac) : Dev := { d with macs := Tbl.set d.macs p x }
def Dev.lane (d : Dev) (n : Nat) : Lane := Tbl.get d.lanes n {}
def Dev.setLane (d : Dev) (n : Nat) (x : Lane) : Dev := { d with lanes := Tbl.set d.lanes n x }
def Dev.phy (d : Dev) (p : Nat) : Phy := Tbl.get d.phys p {}
def Dev.setPhy (d : Dev) (p : Nat) (x : Phy) : Dev := { d with phys := Tbl.set d.phys p x }
def Dev.buf (d : Dev) (p : Nat) : List Frame := Tbl.get d.inbuf p []
def Dev.setBuf (d : Dev) (p : Nat) (x : List Frame) : Dev := { d with inbuf := Tbl.set d.inbuf p x }
def Dev.pol (d : Dev) (i : Nat) : Pol := Tbl.get d.pols i {}
def Dev.setPol (d : Dev) (i : Nat) (x : Pol) : Dev := { d with pols := Tbl.set d.pols i x }
def Dev.queue (d : Dev) (q : Nat) : Queue := Tbl.get d.tm.queues q {}
def Dev.setQueue (d : Dev) (q : Nat) (x : Queue) : Dev := { d with tm := { d.tm with queues := Tbl.set d.tm.queues q x } }
def Dev.bkt (d : Dev) (i : Nat) : Bkt := Tbl.get d.tm.bkts i {}
def Dev.setBkt (d : Dev) (i : Nat) (x : Bkt) : Dev := { d with tm := { d.tm with bkts := Tbl.set d.tm.bkts i x } }

/-- Length of a frame from the first destination MAC byte to the last FCS byte, without the padding of R332. -/
def Frame.len (f : Frame) : Nat := f.data.length + 4 - f.pad

/-- A frame has arrived whole (R225, R343). -/
def Frame.whole (f : Frame) : Bool := f.total == 0 || decide (f.total ≤ f.len)

/-- Length of a frame as its riser header gives it, or as it is when it has arrived whole (R225). -/
def Frame.fullLen (f : Frame) : Nat := max f.len f.total

/-- Where a frame ends without its FCS, also while some of it has still to come (R162). -/
def Frame.fin (f : Frame) : Nat := max f.data.length (f.total - 4)

/-- A frame as its edit leaves it: the bytes that have come, edited, and the length of the whole, which the tags pushed or
popped change with them (R214). -/
def Frame.edited (f : Frame) (b : List Byte) : Frame :=
  { f with data := b, total := if f.total = 0 then 0 else f.total + b.length - f.data.length }

end Sys2Proof.Machine
end

