-- ==== Sys2Proof/Machine/Mem.lean ====
section
/-!
DEFINITION. Memory: a list of (address, byte) pairs in one canonical form, with strictly rising addresses and no byte
of 0. An address that is not listed reads 0 (notes/assumptions/2.md). It holds the DRAM attached to the controller,
by D address (R366).
-/
namespace Sys2Proof.Machine

/-- What an unlisted address reads as. -/
def memDefault : Byte := 0

/-- A memory. -/
abbrev Memory := List Host.Cell

/-- The byte at an address. -/
def Memory.read (m : Memory) (a : Nat) : Byte := Tbl.get m a memDefault

/-- Write a byte, keeping the canonical form. -/
def Memory.write (m : Memory) (a : Nat) (v : Byte) : Memory :=
  if v = memDefault then Tbl.del m a else Tbl.set m a v

/-- The canonical form. -/
def Memory.wf (m : Memory) : Bool := Tbl.wf m && m.all (fun c => c.2 != memDefault)

/-- `n` bytes from an address. -/
def Memory.readN (m : Memory) (a n : Nat) : List Byte := (List.range n).map (fun i => Memory.read m (a + i))

/-- Write bytes, each at its offset from an address. -/
def Memory.writeAt (m : Memory) (a : Nat) (b : List (Nat × Byte)) : Memory :=
  b.foldl (fun m e => Memory.write m (a + e.1) e.2) m

end Sys2Proof.Machine
end

