-- ==== Sys2Proof/Machine/Route.lean ====
section
/-!
DEFINITION. Device addresses, role and riser routing (R285–R287, R301, R311–R313), and the few facts of other units
that the data path asks about.
-/
namespace Sys2Proof.Machine

/-- The worker role (R285). -/
def Dev.worker (d : Dev) : Bool := d.on Reg.RP_HIER_STAT.ROLE

/-- This device's address (R287): 0 on a manager. -/
def Dev.devAddr (d : Dev) : Nat := if d.worker then d.fld Reg.RP_HIER_STAT.ADDR else 0

/-- The members of an enabled pair, when they are two distinct present riser ports (R311). -/
def Dev.pair (d : Dev) (k : Nat) : Option (Nat × Nat) :=
  let (en, a, b) := if k = 0
    then (d.on Reg.RP_HIER_CTRL.PAIR0_EN, d.fld Reg.RP_HIER_CTRL.PAIR0_A, d.fld Reg.RP_HIER_CTRL.PAIR0_B)
    else (d.on Reg.RP_HIER_CTRL.PAIR1_EN, d.fld Reg.RP_HIER_CTRL.PAIR1_A, d.fld Reg.RP_HIER_CTRL.PAIR1_B)
  if en ∧ a ≠ b ∧ d.rpHere a ∧ d.rpHere b then some (a, b) else none

/-- The field that shows which member of a pair is active. -/
def pairAct (k : Nat) : Fld := if k = 0 then Reg.RP_HIER_STAT.PAIR0_ACT else Reg.RP_HIER_STAT.PAIR1_ACT

/-- The active member of a pair. -/
def Dev.pairActive (d : Dev) (k : Nat) (ab : Nat × Nat) : Nat := if d.on (pairAct k) then ab.2 else ab.1

/-- The pair that a riser port belongs to. -/
def Dev.pairOf (d : Dev) (p : Nat) : Option (Nat × (Nat × Nat)) :=
  match d.pair 0 with
  | some ab => if ab.1 = p ∨ ab.2 = p then some (0, ab) else
    match d.pair 1 with
    | some ab => if ab.1 = p ∨ ab.2 = p then some (1, ab) else none
    | none => none
  | none =>
    match d.pair 1 with
    | some ab => if ab.1 = p ∨ ab.2 = p then some (1, ab) else none
    | none => none

/-- The port on which what names riser port `p` travels (R313). -/
def Dev.riserActive (d : Dev) (p : Nat) : Nat :=
  match d.pairOf p with
  | some (k, ab) => d.pairActive k ab
  | none => p

/-- The riser port toward a device (R301), or none on a manager without a route. -/
def Dev.riserToward (d : Dev) (dev : Nat) : Option Nat :=
  if d.on (Reg.RP_ROUTE.VALID dev) then some (d.riserActive (d.fld (Reg.RP_ROUTE.PORT dev)))
  else if d.worker then some (d.riserActive (d.fld Reg.RP_HIER_STAT.UPLINK))
  else none

/-- Channel n's activation machine is in O5 (code 4 of R83). -/
def Dev.inO5 (d : Dev) (n : Nat) : Bool := d.fld (Reg.LN_ACT_STAT.STATE n) == 4

/-- The DRAM controller's ports are open (R384). -/
def Dev.dmcOpen (d : Dev) : Bool := d.fld Reg.DMC_STAT.STATE == 2 && d.on Reg.DMC_CTRL.EN

/-- The Siding can be used: it is present, in use, and the DRAM controller's ports are open (R205, R384). -/
def Dev.sidingUp (d : Dev) : Bool := d.sidingHere && d.tm.sidingOn && d.dmcOpen

end Sys2Proof.Machine
end

