-- ==== Sys2Proof/Machine/Time.lean ====
section
/-!
DEFINITION. The time base (spec/09): read time, rate and slewing, epochs and steps, timestamps, samples, the PLL and
the 1PPS pins. Times are integers in units of 2⁻⁴⁸ ps, in which R242 is exact. The unit of TIM.RATE is read as
1,000 × 2⁻⁴⁸ (notes/assumptions/10.md).
-/
namespace Sys2Proof.Machine

/-- One picosecond. -/
def psU : Int := 2 ^ 48
/-- One nanosecond. -/
def nsU : Int := 1000 * psU
/-- One second. -/
def secU : Int := 1000000000 * nsU
/-- The weight of one unit of TIM.RATE in 2⁻⁴⁸ (notes/assumptions/10.md). -/
def rateScale : Int := 1000
/-- The clamp of R243: ±500 ppm. -/
def rateMax : Int := 140737488

/-- Software's rate term. -/
def Dev.rate (d : Dev) : Int := signed 32 (d.fld Reg.TIM_RATE.RATE)
/-- RATE_EFF of R243, as in force. -/
def Dev.rateEff (d : Dev) : Int := signed 32 (d.fld Reg.TIM_RATE_EFF.RATE)

/-- The counter as a time in ps. -/
def Dev.nowPs (d : Dev) : Nat := 800 * d.tim.ctr

/-- T of R242 at the counter time `p` (in ps). -/
def Dev.timeAt (d : Dev) (p : Int) : Int := d.tim.off + p * (psU + rateScale * d.rateEff)

/-- T in the present CK_TIME cycle. -/
def Dev.time (d : Dev) : Int := d.timeAt d.nowPs

/-- TIM.SLEW with its limits, in ppb (R257). -/
def Dev.slewPpb (d : Dev) : Nat := min 500000 (max 1 (d.fld Reg.TIM_SLEW.SLEW))

/-- The slew term: sign(P) × SLEW, SLEW rounded towards 0 (R257). -/
def Dev.slewTerm (d : Dev) : Int :=
  let m : Int := (d.slewPpb * 2 ^ 48 / 10 ^ 12 : Nat)
  if d.tim.pend = 0 then 0 else if d.tim.pend < 0 then -m else m

/-- Keep what gives the read time now, before a change of it. -/
def Dev.keepView (d : Dev) : Dev :=
  let v : TimeView := { upto := d.tim.ctr, off := d.tim.off, rate := d.rateEff, epoch := d.fld Reg.TIM_STAT.EPOCH,
                        set := d.on Reg.TIM_STAT.TIME_SET }
  { d with tim := { d.tim with hist := (v :: d.tim.hist).take 16 } }

/-- What gives the read time at counter value `c`, now or up to 16 changes ago (R248, R250). -/
def Dev.viewAt (d : Dev) (c : Nat) : TimeView :=
  (d.tim.hist.reverse.find? (fun v => decide (c < v.upto))).getD
    { off := d.tim.off, rate := d.rateEff, epoch := d.fld Reg.TIM_STAT.EPOCH, set := d.on Reg.TIM_STAT.TIME_SET }

/-- The read time under a view, at the counter time `p` (in ps). -/
def TimeView.at_ (v : TimeView) (p : Int) : Int := v.off + p * (psU + rateScale * v.rate)

/-- OFFSET is held in units of 2⁻⁴⁸ ns: rounded, halves towards +∞ (R242, R455). -/
def offRound (t : Int) : Int := (2 * t + 1000) / 2000 * 1000

/-- Take up RATE_EFF = clamp(RATE + slew term): OFFSET is adjusted so that T is continuous, a clamp sets RATE_CLAMP,
and SLEWING follows P (R243, R257). -/
def Dev.reRate (d : Dev) : Dev :=
  let raw := d.rate + d.slewTerm
  let eff := clampI (-rateMax) rateMax raw
  let d0 := d.iff (eff != d.rateEff) (·.keepView)
  let d1 := { d0 with tim := { d0.tim with off := d.tim.off + d.nowPs * rateScale * (d.rateEff - eff) } }
  let d2 := (d1.put Reg.TIM_RATE_EFF.RATE (unsigned 32 eff)).put Reg.TIM_STAT.SLEWING (bit (d.tim.pend != 0))
  d2.iff (raw != eff) (·.ev Reg.TIM_EVT.RATE_CLAMP)

/-- While the clamp cuts the rate its event stands, whatever clears it (R243, R257). -/
def Dev.clampHold (d : Dev) : Dev :=
  let raw := d.rate + d.slewTerm
  d.iff (raw != clampI (-rateMax) rateMax raw) (·.ev Reg.TIM_EVT.RATE_CLAMP)

/-- What the slew term takes off P in one CK_TIME cycle: its share of the clamped RATE_EFF (R257). -/
def Dev.slewShare (d : Dev) : Int :=
  800 * rateScale * (d.rateEff - clampI (-rateMax) rateMax d.rate)

/-- One cycle of the unclamped SLEW. -/
def Dev.slewUnit (d : Dev) : Int := 800 * rateScale * d.slewTerm

/-- The whole cycles until what remains of P is below one cycle of SLEW (0 without a share: P then does not fall). -/
def Dev.slewCycles (d : Dev) : Nat :=
  let p := d.tim.pend.natAbs
  if p < d.slewUnit.natAbs then 0 else (p - d.slewUnit.natAbs) / d.slewShare.natAbs + 1

/-- The Crema's clocks over `n` cycles of 800 ps: the watchdog's count, and the real-time clock, which with the crystal running
counts 1/32,768 s (R404, R405). -/
def Dev.rtcRun (d0 : Dev) (n : Nat) : Dev :=
  let d := { d0 with pwr := { d0.pwr with wdog := d0.pwr.wdog + n } }
  if d.on Reg.PWR_RTC_SUB.XT_OK then
    let t := d.pwr.rtc + 32768 * n
    let sub := d.fld Reg.PWR_RTC_SUB.SUB + t / 1250000000
    let d1 := { d with pwr := { d.pwr with rtc := t % 1250000000 } }
    (d1.put Reg.PWR_RTC_SUB.SUB sub).put Reg.PWR_RTC_SEC.SEC (d.fld Reg.PWR_RTC_SEC.SEC + sub / 32768)
  else d

/-- `n` cycles of the counter with no change of rate. -/
def Dev.count (d : Dev) (n : Nat) : Dev :=
  { d with core := d.core + n, tim := { d.tim with ctr := (d.tim.ctr + n) % 2 ^ 64 } }.rtcRun n

/-- The remainder of P goes to OFFSET, and slewing ends (R257). -/
def Dev.slewEnd (d : Dev) : Dev :=
  let d1 := d.keepView
  { d1 with tim := { d1.tim with pend := 0, off := offRound (d.tim.off + d.tim.pend) } }.reRate

/-- `n` CK_TIME (and CK_CORE) cycles pass: the counter runs, P is worked off, and in the cycle in which less than one
cycle of the unclamped SLEW remains the remainder goes to OFFSET and slewing ends, also where the clamp leaves the slew term
no share; a P that is worked off whole ends it as well (R241, R257). -/
def Dev.advance (d : Dev) (n : Nat) : Dev :=
  if d.tim.pend = 0 ∨ (d.slewShare = 0 ∧ d.slewUnit.natAbs ≤ d.tim.pend.natAbs) then d.count n
  else
    let k := d.slewCycles
    if n ≤ k then
      let d1 := d.count n
      let d2 := { d1 with tim := { d1.tim with pend := d1.tim.pend - n * d.slewShare } }
      d2.iff (d2.tim.pend == 0) (·.slewEnd)
    else
      let d1 := d.count k
      let d2 := { d1 with tim := { d1.tim with pend := d1.tim.pend - k * d.slewShare } }
      d2.slewEnd.count (n - k)

/-- The epoch of this cycle. -/
def Dev.epoch (d : Dev) : Nat := d.fld Reg.TIM_STAT.EPOCH

/-- Set P (R257, R258); the rate follows. -/
def Dev.setPend (d : Dev) (p : Int) : Dev := { d with tim := { d.tim with pend := p } }.reRate

/-! ### Timestamps (R249–R251) -/

/-- Whole seconds of a time. -/
def secOf (t : Int) : Nat := (t / secU).toNat
/-- Nanoseconds within the second. -/
def nsOf (t : Int) : Nat := (t / nsU % 1000000000).toNat
/-- Fraction of a nanosecond in units of 2⁻¹⁶ ns, truncated (R455). -/
def fracOf (t : Int) : Nat := (t * 65536 / nsU % 65536).toNat

/-- A time rounded to 100 ps, halves to the later (R250, R455). -/
def stampTicks (t : Int) : Nat := ((t + 50 * psU) / (100 * psU)).toNat

/-- A time of this cycle as a stamp, with the present epoch. -/
def Dev.stamp (d : Dev) (t : Int) : Stamp :=
  { t := stampTicks t, epoch := d.epoch, valid := d.on Reg.TIM_STAT.TIME_SET }

/-- A strobe as captured, with the epoch, OFFSET and rate of the cycle of its capture, corrected by `corr` (R248, R250). -/
def Dev.capture (d : Dev) (st : Strobe) (corr : Int) : Stamp :=
  let c := d.tim.ctr - st.ago
  let v := d.viewAt c
  { t := stampTicks (v.at_ (800 * c + 100 * (st.phase : Nat)) + corr), epoch := v.epoch, valid := v.set }

/-- The exact time of a stamp. -/
def Stamp.time (s : Stamp) : Int := s.t * (100 * psU)

/-- The four words of R251. -/
def Stamp.words (s : Stamp) : List Nat :=
  [fracOf s.time + s.epoch * 2 ^ 16 + bit s.valid * 2 ^ 18, nsOf s.time, secOf s.time % 2 ^ 32, secOf s.time / 2 ^ 32 % 2 ^ 16]

/-- The read time of R242 as four words in the format of R251, truncated and not rounded (R455). -/
def Dev.readWords (d : Dev) : List Nat :=
  let t := d.time
  [fracOf t + d.epoch * 2 ^ 16 + bit (d.on Reg.TIM_STAT.TIME_SET) * 2 ^ 18, nsOf t, secOf t % 2 ^ 32, secOf t / 2 ^ 32 % 2 ^ 16]

/-- Write the four words of a time into a register array. -/
def Dev.putWords (d : Dev) (f : Nat → Fld) (w : List Nat) : Dev :=
  d.each (List.range 4) (fun d i => d.put (f i) (w.getD i 0))

/-- The counter time in ps of a strobe, corrected to the pins by the fixed latency, the source latency and the bit
offset (all in units of 2⁻⁴⁸ ps), and to the connector by the trim (R250). -/
def Dev.stampRx (d : Dev) (st : Strobe) (fixed src ui : Int) (port : Nat) : Stamp :=
  d.capture st (st.bits * ui - fixed - src - signed 16 (d.fld (Reg.TIM_PORT_TRIM.RX_TRIM port)) * psU)

/-- The stamp of a transmitted frame (R250). -/
def Dev.stampTx (d : Dev) (st : Strobe) (fixed src ui : Int) (port : Nat) : Stamp :=
  d.capture st (st.bits * ui - fixed + src + signed 16 (d.fld (Reg.TIM_PORT_TRIM.TX_TRIM port)) * psU)

/-! ### Reading the time (R244) -/

/-- An aligned read of TIM.NOW_FRAC by a master: T of the cycle less the fixed 3.2 ns, and the latch of the other
words for that master alone. -/
def Dev.nowRead (d : Dev) (m : Nat) (phase : Nat) : Dev :=
  let t := d.timeAt (800 * d.tim.ctr + 100 * phase) - 3200 * psU
  let l : NowLatch := { frac := fracOf t, epoch := d.epoch, ns := nsOf t, sec := secOf t }
  { d with tim := { d.tim with now := Tbl.set d.tim.now m l } }

/-! ### Steps (R246, R247) -/

/-- The step value of TIM.STEP: signed seconds, nanoseconds and fraction. -/
def Dev.stepValue (d : Dev) : Int :=
  let s := signed 48 (d.wide Reg.TIM_STEP_SEC_LO.STEP Reg.TIM_STEP_SEC_HI.STEP)
  s * secU + min 999999999 (d.fld Reg.TIM_STEP_NS.STEP) * nsU + d.fld Reg.TIM_STEP_FRAC.STEP * nsU / 65536

/-- T would leave the range of R247. -/
def Dev.stepOut (d : Dev) (v : Int) : Bool := decide (d.time + v < 0) || decide (2 ^ 48 * secU ≤ d.time + v)

/-- The refusal of R247. -/
def Dev.stepRefuse (d : Dev) : Dev := (d.bump (Reg.TIM_CNT.COUNT 4)).ev Reg.TIM_EVT.STEP_REFUSED

/-- What a step does (R246); the PM latch that it forces is the caller's (Machine/Line.lean). -/
def Dev.stepTake (d : Dev) (v : Int) : Dev :=
  let d0 := d.keepView
  let d1 := { d0 with tim := { d0.tim with off := offRound (d.tim.off + v) } }
  let d2 := d1.put Reg.TIM_STAT.EPOCH (d1.epoch + 1)
  ((d2.ev Reg.TIM_STAT.TIME_SET).clr Reg.TIM_CTRL.ARM_STEP).ev Reg.TIM_EVT.STEPPED |>.setPend 0

/-! ### The phase detector (R134) -/

/-- The PSync of a frame of channel n is measured against CK_TIME, to 100 ps: its place in the frame period of 125 µs. The
place within the CK_TIME cycle is a free value. -/
def Dev.phaseMeasure (d : Dev) (n : Nat) : Dev :=
  { d.freed with tim := { d.tim with phase := Tbl.set d.tim.phase n ((8 * d.tim.ctr + d.freeVal 3) % 1250000) } }

/-- The build-out offset for line channel n: its last measured phase. -/
def Dev.lineBuildOut (d : Dev) (n : Nat) : Dev := { d with tim := { d.tim with buildOut := some (Tbl.get d.tim.phase n 0) } }

/-- The build-out offset for a forwarded clock, whose phase is a free value below one CK_TIME cycle. -/
def Dev.clockBuildOut (d : Dev) : Dev := { d.freed with tim := { d.tim with buildOut := some (d.freeVal 3) } }

/-! ### The downstream delay (R255) -/

/-- One downstream unit interval, 1/49.7664 GHz, times `n`. -/
def dsUi (n : Int) : Int := n * (10 ^ 7 * psU) / 497664

/-- D_ds in units of 2⁻¹⁶ ns, rounded (R455), from the equalisation delay in force: 497,664 unit intervals last 10 µs. -/
def Dev.ddsOf (d : Dev) (eqd : Nat) : Nat :=
  let x := max 0 (10000 * ((d.fld Reg.TIM_XFER_EQD0.EQD_ZERO : Int) - eqd) - 35000 * 497664)
  let y := x * d.fld Reg.TIM_XFER_ASYM.ASYM * 65536
  let k : Int := 2 ^ 32 * 497664
  ((2 * y + k) / (2 * k)).toNat

/-- A time in units of 2⁻¹⁶ ns. -/
def fracTime (n : Int) : Int := n * nsU / 65536

/-- A time rounded to whole ps, halves towards +∞ (R455). -/
def roundPs (t : Int) : Int := (2 * t + psU) / (2 * psU)

/-- Saturate at 32 bits, signed. -/
def sat32 (x : Int) : Int := clampI (-2 ^ 31) (2 ^ 31 - 1) x

/-- A part without line channels treats SRC 1 as 0 (R254). -/
def Dev.src (d : Dev) : Nat :=
  let s := d.fld Reg.TIM_CTRL.SRC
  if s = 1 ∧ ¬ d.anyLine then 0 else s

/-- Recompute D_ds from the reference channel's equalisation delay; in SRC 1 its change goes to P, and a load or a
change of reference (`path`) above PATH_THRESH raises TIM_PATH_CHANGE (R255, R258). -/
def Dev.ddsRecompute (d : Dev) (eqd : Nat) (path : Bool) : Dev :=
  let n := d.ddsOf eqd
  let dlt := fracTime n - fracTime d.tim.dds
  let d1 := { d with tim := { d.tim with dds := n } }.put Reg.TIM_XFER_DDS.D_DS (roundPs (fracTime n)).toNat
  let d2 := d1.iff (d.src == 1) (fun x => x.setPend (x.tim.pend + dlt))
  d2.iff (d.src == 1 && path && decide ((d.fld Reg.TIM_PATH.PATH_THRESH : Int) * nsU < dlt.natAbs))
    (fun x => (x.ev Reg.TIM_EVT.PATH_CHANGE).bump (Reg.TIM_CNT.COUNT 6))

end Sys2Proof.Machine
end

