-- ==== Sys2Proof/Machine/Dram.lean ====
section
/-!
DEFINITION. The DRAM controller (spec/14): configuration and initialisation, requests of the ports and their bandwidth
regulators, the command slots of a channel, error correction, refresh, retraining and row disturbance.
-/
namespace Sys2Proof.Machine

def Dev.dch (d : Dev) (c : Nat) : DramCh := Tbl.get d.dram.chans c {}
def Dev.setDch (d : Dev) (c : Nat) (x : DramCh) : Dev := { d with dram := { d.dram with chans := Tbl.set d.dram.chans c x } }

/-- Channels present. -/
def Dev.dchans (d : Dev) : List Nat := (List.range 4).filter d.dmcHere

/-- Count in DMC.CNT[c][k]. -/
def Dev.dmcCnt (d : Dev) (c k : Nat) : Dev := d.bump (Reg.DMC_CNT.COUNT c k)

/-! ### Address space (R366) -/

/-- Gbit of a 16-bit channel, by DENSITY code. -/
def densityGbit (c : Nat) : Nat := [8, 12, 16, 24, 32].getD c 0

/-- The usable data space in MiB. -/
def Dev.usableMib (d : Dev) : Nat := d.dchans.length * densityGbit d.dram.density * 240

/-- The channel of a D address. -/
def Dev.dramChan (d : Dev) (a : Nat) : Nat := a / 256 % (max 1 d.dchans.length)

/-- The line number within the channel. -/
def Dev.dramLine (d : Dev) (a : Nat) : Nat := (a / 256 / (max 1 d.dchans.length) * 256 + a % 256) / 64

/-- The place of a line in its channel: the segment, and the position in it (R366). -/
def lineSeg (line : Nat) : Nat := line / 30
def linePos (line : Nat) : Nat := line % 30

/-- Base and size of a region in MiB: 0 Siding, 1 Brewhouse, 2 table. -/
def Dev.region (d : Dev) (k : Nat) : Nat × Nat :=
  if k = 0 then (d.fld Reg.DMC_RGN_SIDING_BASE.MIB, d.fld Reg.DMC_RGN_SIDING_SIZE.MIB)
  else if k = 1 then (d.fld Reg.DMC_RGN_BREW_BASE.MIB, d.fld Reg.DMC_RGN_BREW_SIZE.MIB)
  else (d.fld Reg.DMC_RGN_TABLE_BASE.MIB, d.fld Reg.DMC_RGN_TABLE_SIZE.MIB)

/-- Two regions share a MiB. -/
def overlap (a b : Nat × Nat) : Bool := decide (a.1 < b.1 + b.2 ∧ b.1 < a.1 + a.2 ∧ 0 < a.2 ∧ 0 < b.2)

/-- The regions are such that EN may be set (R369). -/
def Dev.regionsOk (d : Dev) : Bool :=
  let r := [d.region 0, d.region 1, d.region 2]
  r.all (fun x => decide (x.2 = 0 ∨ x.1 + x.2 ≤ d.usableMib)) &&
    !overlap (d.region 0) (d.region 1) && !overlap (d.region 0) (d.region 2) && !overlap (d.region 1) (d.region 2)

/-! ### Configuration and initialisation (R369, R383) -/

/-- Start initialisation: only in RESET or FAILED; a DENSITY code above 4 fails at once. -/
def Dev.dmcInit (d : Dev) : Dev :=
  let st := d.fld Reg.DMC_STAT.STATE
  if st = 0 ∨ st = 3 then
    let den := d.fld Reg.DMC_CTRL.DENSITY
    let d1 := ((d.clr Reg.DMC_STAT.FAIL_CODE).clr Reg.DMC_STAT.FAIL_CH).clr Reg.DMC_STAT.KEPT
    if 4 < den then (d1.put Reg.DMC_STAT.STATE 3).put Reg.DMC_STAT.FAIL_CODE 1
    else
      let d2 := d1.put Reg.DMC_STAT.STATE 1
      { d2 with dram := { d2.dram with density := den, keep := d.on Reg.DMC_CTRL.KEEP, chans := [] } }
  else d

/-- A write of EN: refused where the regions do not fit. -/
def Dev.dmcEn (d : Dev) (en : Bool) : Dev :=
  if en ∧ ¬ d.on Reg.DMC_CTRL.EN ∧ ¬ d.regionsOk then (d.put Reg.DMC_STAT.FAIL_CODE 2).ev Reg.DMC_EVT.CFG_REJ
  else d.put Reg.DMC_CTRL.EN (bit en)

/-- A write of DMC.CTRL. -/
def Dev.dmcCtrl (d : Dev) (v : Nat) : Dev :=
  let d1 := ((d.put Reg.DMC_CTRL.KEEP (v / 4)).put Reg.DMC_CTRL.RATE (v / 8)).put Reg.DMC_CTRL.DENSITY (v / 32)
  (d1.iff (bitOf v 1) Dev.dmcInit).dmcEn (bitOf v 0)

/-- A write of a word of DMC.RGN: ignored while EN is 1. -/
def Dev.dmcRgn (d : Dev) (f : Fld) (v : Nat) : Dev :=
  if d.on Reg.DMC_CTRL.EN then d.ev Reg.DMC_EVT.CFG_REJ else d.put f v

/-- The channels' granted wakes end with the steps of R383. -/
def Dev.wakesEnd (d : Dev) : Dev := { d with wake := { d.wake with granted := d.wake.granted.filter (fun x => decide (x < 236)) } }

/-- READY: memory is cleared unless its contents were to be kept; `rfm` is the mask of the channels whose dies report refresh
management. -/
def Dev.dmcReady (d : Dev) (rfm : Nat) : Dev :=
  let keep := d.dram.keep
  let d1 := ((d.put Reg.DMC_STAT.STATE 2).put Reg.DMC_STAT.KEPT (bit keep)).ev Reg.DMC_EVT.INIT_DONE
  let d2 := d1.each d.dchans (fun x c => x.put (Reg.DMC_CH_STAT.RFM_SUP c) (bit (bitOf rfm c)))
  if keep then d2 else { d2 with dram := { d2.dram with mem := [] } }

/-- The steps of R383 end: with the code of the first step that failed and its channels, or well. Each channel's steps begin at
the grant of its wake, so that they do not end before it (R401). -/
def Dev.dmcInitDone (d : Dev) (fail : Option (Nat × Nat)) (rfm : Nat) : Dev :=
  if d.fld Reg.DMC_STAT.STATE ≠ 1 ∨ d.wake.queue.any (fun e => decide (236 ≤ e.1)) then d
  else match fail with
    | some (code, ch) =>
      ((d.wakesEnd.put Reg.DMC_STAT.STATE 3).put Reg.DMC_STAT.FAIL_CODE (3 + code % 5)).put Reg.DMC_STAT.FAIL_CH ch
    | none => d.wakesEnd.dmcReady rfm

/-! ### Requests (R371–R373) -/

/-- The parameters of a regulated port. -/
def Dev.portRate (d : Dev) (p : Nat) : Nat := min 400 (d.fld (Reg.DMC_PORT_REG.RATE (p - 1)))
def Dev.portBurst (d : Dev) (p : Nat) : Nat := 1024 * max 1 (d.fld (Reg.DMC_PORT_REG.BURST (p - 1)))

/-- Every 64 ns each bucket gains RATE × 64 ns and is clipped to BURST. -/
def Dev.regulatorRefill (d : Dev) : Dev :=
  d.each [1, 2, 3, 4, 5] (fun d p =>
    { d with dram := { d.dram with
      bkts := Tbl.set d.dram.bkts p (min (d.portBurst p : Int) (Tbl.get d.dram.bkts p 0 + 8 * d.portRate p)) } })

/-- A line access of a port enters its queue: whether it is in profile; the bucket is charged. -/
def Dev.dmcCharge (d : Dev) (p : Nat) : Dev × Bool :=
  if p = 0 then (d, false)
  else
    let b : Int := Tbl.get d.dram.bkts p 0
    ({ d with dram := { d.dram with bkts := Tbl.set d.dram.bkts p (b - 64) } }, decide (0 < b) && decide (d.portRate p ≠ 0))

/-- The bytes of a line, as memory holds them with a queued write over them. -/
def lineBytes (m : Memory) (a : Nat) (w : Tbl Byte) : List Byte :=
  (List.range 64).map (fun i => Tbl.get w i (Memory.read m (a + i)))

/-- The access that a wait would make, as line and port. -/
def LineWait.line : LineWait → Nat
  | .rd r => r.line
  | .wr w => w.line
def LineWait.port : LineWait → Nat
  | .rd r => r.port
  | .wr w => w.port

/-- Urgency of a real-time read (R376). -/
def Dev.urgency (d : Dev) (r : LineRead) : Nat :=
  match r.deadline with
  | none => 0
  | some t =>
    let s : Int := t - 800 * d.core
    let u1 := d.fld Reg.DMC_URG.U1
    let u2 := min u1 (d.fld Reg.DMC_URG.U2)
    let u3 := min u2 (d.fld Reg.DMC_URG.U3)
    if s ≤ 10000 * u3 then 3 else if s ≤ 10000 * u2 then 2 else if s ≤ 10000 * u1 then 1 else 0

/-- The highest urgency among the reads of a channel. -/
def Dev.urgencyMax (d : Dev) (c : Nat) : Nat := (d.dch c).rq.foldl (fun m r => max m (d.urgency r)) 0

/-- The watermarks in force (R375). -/
def Dev.hiWm (d : Dev) : Nat := min 64 (max 2 (d.fld Reg.DMC_WQ.HI_WM))
def Dev.loWm (d : Dev) : Nat := min (d.hiWm - 1) (d.fld Reg.DMC_WQ.LO_WM)

/-- Start a pour where the write queue has reached HI_WM and no read stands at level 2 or above; end one at LO_WM. -/
def Dev.pourUpdate (d : Dev) (c : Nat) : Dev :=
  let ch := d.dch c
  if ch.pour then (if ch.wq.length ≤ d.loWm then d.setDch c { ch with pour := false } else d)
  else if d.hiWm ≤ ch.wq.length ∧ d.urgencyMax c < 2 then (d.setDch c { ch with pour := true }).dmcCnt c 5
  else d

/-- A real-time read that completes after its deadline is counted in LAT_MISS (R376). -/
def Dev.readLate (d : Dev) (c : Nat) (r : LineRead) : Dev :=
  match r.deadline with
  | some t => d.iff (decide (t < 800 * d.core)) (fun d => (d.dmcCnt c 2).ev Reg.DMC_EVT.LAT_MISS)
  | none => d

/-- A line access enters the queues of its channel, where it can: a read of a line in the write queue is served from it,
a write of such a line merges into it, and an older read of the line keeps the data from before a write, so that reads are
never served out of order with writes to the same line (R373). `none` where the queue is full. -/
def Dev.lineEnter (d : Dev) (c : Nat) (x : LineWait) : Option Dev :=
  let ch := d.dch c
  match x with
  | .rd r =>
    match ch.wq.find? (fun w => w.line == r.line) with
    | some w => some ((d.emit (.dramData r.port r.addr (lineBytes d.dram.mem r.addr w.bytes))).readLate c r)
    | none =>
      if 64 ≤ ch.rq.length then none
      else
        let (d1, ip) := d.dmcCharge r.port
        some (d1.setDch c { ch with rq := ch.rq ++ [{ r with inProf := ip }] })
  | .wr w =>
    if ch.wq.any (fun q => q.line == w.line) then
      let merge : LineWrite → LineWrite := fun q =>
        if q.line = w.line then
          { q with bytes := w.bytes.foldl (fun t e => Tbl.set t e.1 e.2) q.bytes, port := w.port, merged := q.merged ++ [q.port] }
        else q
      let (d1, _) := d.dmcCharge w.port
      some (d1.setDch c { ch with wq := ch.wq.map merge })
    else if 64 ≤ ch.wq.length then none
    else
      let (d1, _) := d.dmcCharge w.port
      let older : LineRead → LineRead := fun r =>
        if r.line = w.line ∧ r.old = none then { r with old := some (Memory.readN d.dram.mem r.addr 64) } else r
      some (d1.setDch c { ch with wq := ch.wq ++ [w], rq := ch.rq.map older, flight := ch.flight.map older })

/-- A waiting access holds another one back: of its line, or of its port, but for a read behind a write of another line
(R375). -/
def LineWait.holds (y x : LineWait) : Bool :=
  y.line == x.line || (y.port == x.port && !(match y, x with | .wr _, .rd _ => true | _, _ => false))

/-- Line accesses that wait at their ports enter in order, as far as one that still waits does not hold them back; a write
that brings its queue to HI_WM starts a pour (R375). -/
def Dev.lineDrain (d : Dev) (c : Nat) : Dev :=
  let l := (d.dch c).waits
  let go : Dev × List LineWait → LineWait → Dev × List LineWait := fun (d, kept) x =>
    if kept.any (fun y => y.holds x) then (d, kept ++ [x])
    else match d.lineEnter c x with
      | some d' => (d', kept)
      | none => (d, kept ++ [x])
  let (d1, kept) := l.foldl go (d, [])
  (d1.setDch c { d1.dch c with waits := kept }).pourUpdate c

/-- A line access arrives at its channel. -/
def Dev.lineAsk (d : Dev) (c : Nat) (x : LineWait) : Dev :=
  (d.setDch c { d.dch c with waits := (d.dch c).waits ++ [x] }).lineDrain c

/-- The D address of an access: Brewhouse and host accesses name a Brewhouse physical address, which must lie in BREW. -/
def Dev.dramAddr (d : Dev) (port addr len : Nat) : Option Nat :=
  if port = 3 ∨ port = 4 then
    let (base, size) := d.region 1
    if 2 ^ 32 ≤ addr ∧ addr - 2 ^ 32 + len ≤ size * 2 ^ 20 then some (base * 2 ^ 20 + (addr - 2 ^ 32)) else none
  else some addr

/-- The line addresses that an access covers. -/
def linesOf (a len : Nat) : List Nat :=
  if len = 0 then [] else (List.range ((a + len - 1) / 64 - a / 64 + 1)).map (fun i => 64 * (a / 64 + i))

/-- The part of written bytes that falls into a line, by offset in the line. -/
def lineSlice (a : Nat) (data : List Byte) (line : Nat) : Tbl Byte :=
  ((List.range 64).filter (fun i => decide (a ≤ line + i ∧ line + i < a + data.length))).map
    (fun i => (i, data.getD (line + i - a) 0))

/-- A request of a port: a read of `len` bytes, real-time with a deadline `dl` ps from now on port 0, or a write. A deadline
that has passed is kept (R105). With the ports closed, or outside BREW, it is answered with the error of R371; the table spill
has none. -/
def Dev.dmcAsk (d : Dev) (port addr len : Nat) (data : Option (List Byte)) (dl : Int) : Dev :=
  let err : Dev → Dev := fun d => d.iff (port != 5) (·.emit (.dramError port addr))
  let n := match data with | some b => b.length | none => len
  if ¬ d.dmcOpen then err d
  else match d.dramAddr port addr n with
    | none => err (d.bump Reg.DMC_BAD_ADDR_CNT.COUNT)
    | some a =>
      d.each (linesOf a n) (fun d la =>
        let c := d.dramChan la
        match data with
        | none => d.lineAsk c (.rd { line := d.dramLine la, addr := la, port := port
                                     deadline := if port = 0 then some (800 * d.core + dl) else none })
        | some b => d.lineAsk c (.wr { line := d.dramLine la, addr := la, port := port, bytes := lineSlice a b la }))

/-- A request whose deadline is given in ns from now. -/
def Dev.dmcRequest (d : Dev) (port addr len : Nat) (data : Option (List Byte)) (dl : Nat) : Dev :=
  d.dmcAsk port addr len data (1000 * dl)

/-- The D address of a cell of the Siding (R369). -/
def Dev.sidingAddr (d : Dev) (i : Nat) : Nat := (d.region 0).1 * 2 ^ 20 + 256 * i

/-- The check bytes of a segment of channel c's memory as one field: four for each of the 30 data lines, then eight zero
bytes (R366); `data` gives the bytes of a line. -/
def checkField (data : Nat → List Byte) (seg : Nat) : List Byte :=
  (List.range 30).flatMap (fun k => padTo 4 ((Config.eccBytes (data (30 * seg + k)) (30 * seg + k)).take 4)) ++ List.replicate 8 0

/-- The endpoint hit table (R370): at most one record per entry and per increment of the seconds field, written by the
table spill. -/
def Dev.tableHit (d : Dev) (e : Nat) : Dev :=
  let s := secOf d.time
  if d.fld Reg.DMC_RGN_TABLE_SIZE.MIB = 0 ∨ d.dmcOpen = false ∨ Tbl.get d.hitSec e (2 ^ 48) = s then d
  else
    let d1 := { d with hitSec := Tbl.set d.hitSec e s }
    d1.dmcRequest 5 (d.fld Reg.DMC_RGN_TABLE_BASE.MIB * 2 ^ 20 + 8 * e) 8
      (some (leBytes (s % 2 ^ 48 + d.epoch * 2 ^ 48 + 2 ^ 63) 8)) 0

/-! ### Rows and mitigation (R374, R382) -/

/-- One activate in a bank's table of 16 entries. -/
def actTouch (t : List (Nat × Nat)) (row : Nat) : List (Nat × Nat) :=
  if t.any (fun e => e.1 == row) then t.map (fun e => if e.1 = row then (e.1, e.2 + 1) else e)
  else if t.length < 16 then t ++ [(row, 1)]
  else
    let low := t.foldl (fun m e => min m e.2) (t.headD (0, 0)).2
    let i := t.findIdx (fun e => e.2 == low)
    t.set i (row, low + 1)

/-- The threshold in force. -/
def Dev.rhThresh (d : Dev) : Nat := max 64 (d.fld Reg.DMC_RH.THRESH)

/-- Mitigate a bank whose table has a count at the threshold; at most 16 times. The row keeps its entry while its neighbours
are activated, and its count then returns to 0. -/
def Dev.mitigate (d : Dev) (c bank : Nat) : Nat → Dev
  | 0 => d
  | fuel + 1 =>
    let t := Tbl.get (d.dch c).acts bank []
    match t.find? (fun e => decide (d.rhThresh ≤ e.2)) with
    | none => d
    | some (r, _) =>
      let zero : List (Nat × Nat) → List (Nat × Nat) := fun t => t.map (fun e => if e.1 = r then (e.1, 0) else e)
      let near := [r + 1] ++ (if 1 ≤ r then [r - 1] else []) ++
        (if d.on Reg.DMC_RH.RANGE2 then [r + 2] ++ (if 2 ≤ r then [r - 2] else []) else [])
      let rows := near.filter (fun x => decide (x < Config.dramRows d.dram.density))
      let t2 := zero (if d.on (Reg.DMC_CH_STAT.RFM_SUP c) && !d.on Reg.DMC_RH.RFM_DIS then t else rows.foldl actTouch t)
      let ch := d.dch c
      ((d.setDch c { ch with acts := Tbl.set ch.acts bank t2, rows := Tbl.del ch.rows bank }).dmcCnt c 9).mitigate c bank fuel

/-- Bank and row of a line: those of its row segment (R366). -/
def Dev.dramBank (d : Dev) (line : Nat) : Nat := Config.dramBank d.dram.density (lineSeg line) % 16
def Dev.dramRow (d : Dev) (line : Nat) : Nat := Config.dramRow d.dram.density (lineSeg line)

/-- The line's row is open. -/
def Dev.rowHit (d : Dev) (c line : Nat) : Bool :=
  match (d.dch c).rows.find? (fun e => e.1 == d.dramBank line) with
  | some e => e.2 == d.dramRow line
  | none => false

/-- Make the line's row the open one of its bank: where it is not, the bank is mitigated if it must be, and the row is
activated. -/
def Dev.openRow (d : Dev) (c line : Nat) : Dev :=
  if d.rowHit c line then d
  else
    let d1 := d.mitigate c (d.dramBank line) 16
    let ch := d1.dch c
    let b := d.dramBank line
    d1.setDch c { ch with rows := Tbl.set ch.rows b (d.dramRow line)
                          acts := Tbl.set ch.acts b (actTouch (Tbl.get ch.acts b []) (d.dramRow line)) }

/-! ### Error correction (R367, R368) -/

/-- Count what the decoding of a line gave; an uncorrectable one records its address and port. -/
def Dev.eccCount (d : Dev) (c addr port : Nat) (o : Ecc) : Dev :=
  match o with
  | .clean => d
  | .corrected => d.dmcCnt c 6
  | .uncorrectable =>
    ((((d.dmcCnt c 7).put Reg.DMC_UE_ADDR_LO.ADDR addr).put Reg.DMC_UE_ADDR_HI.ADDR (addr / 2 ^ 32)).put
      Reg.DMC_UE_ADDR_HI.PORT port).ev Reg.DMC_EVT.ECC_UE

/-- Issue a queued write: whole lines are written, others are read, merged and written back; when that read is
uncorrectable every requester has its error, and UE_ADDR names the port of the last (R368). -/
def Dev.writeIssue (d : Dev) (c : Nat) (w : LineWrite) (o : Ecc) : Dev :=
  let d1 := (d.setDch c { d.dch c with wq := (d.dch c).wq.filter (fun q => q.line != w.line) }).openRow c w.line
  let put : Dev → Dev := fun d => { d with dram := { d.dram with mem := Memory.writeAt d.dram.mem w.addr w.bytes } }.dmcCnt c 1
  if w.bytes.length = 64 then put d1
  else
    let d2 := (d1.dmcCnt c 8).eccCount c w.addr w.port o
    match o with
    | .uncorrectable => d2.each ((w.merged ++ [w.port]).filter (· != 5)) (fun d p => d.emit (.dramError p w.addr))
    | _ => put d2

/-- Issue a queued read: its data comes with DMC_READ_COMPLETE. -/
def Dev.readIssue (d : Dev) (c : Nat) (r : LineRead) : Dev :=
  let ch := d.dch c
  ((d.setDch c { ch with rq := ch.rq.erase r, flight := ch.flight ++ [r] }).openRow c r.line).dmcCnt c 0

/-- The read of a channel that was issued first returns: its decoding, its data or its error, and its lateness. -/
def Dev.readComplete (d : Dev) (c : Nat) (o : Ecc) : Dev :=
  match (d.dch c).flight with
  | [] => d
  | r :: rest =>
    let d1 := (d.setDch c { d.dch c with flight := rest }).eccCount c r.addr r.port o
    let d2 := match o with
      | .uncorrectable => d1.emit (.dramError r.port r.addr)
      | _ => d1.emit (.dramData r.port r.addr (r.old.getD (Memory.readN d.dram.mem r.addr 64)))
    d2.readLate c r

/-! ### Command slots (R374–R378, R381) -/

/-- The channel holds a real-time read (R377). -/
def Dev.realTime (d : Dev) (c : Nat) : Bool := (d.dch c).rq.any (fun r => r.deadline.isSome)

/-- Close every row: a refresh closes them. -/
def Dev.closeRows (d : Dev) (c : Nat) : Dev := d.setDch c { d.dch c with rows := [] }

/-- One all-bank refresh; every 8,192 of them clear the activate tables. -/
def Dev.refresh (d : Dev) (c : Nat) (forced : Bool) : Dev :=
  let d1 := (d.closeRows c).iff forced (·.dmcCnt c 4)
  let ch := d1.dch c
  d1.setDch c (if ch.window + 1 = 8192 then { ch with window := 0, acts := [] } else { ch with window := ch.window + 1 })

/-- A refresh that takes 1 from OWED. -/
def Dev.refreshOwed (d : Dev) (c : Nat) (forced : Bool) : Dev :=
  (d.put (Reg.DMC_CH_STAT.OWED c) (d.fld (Reg.DMC_CH_STAT.OWED c) - 1)).refresh c forced

/-- A retraining (R381). -/
def Dev.retrain (d : Dev) (c : Nat) : Dev :=
  (d.setDch c { d.dch c with retrain := false, force := false }).dmcCnt c 11

/-- The read with the earliest deadline. -/
def earliest (l : List LineRead) : Option LineRead :=
  l.foldl (fun m r => match m with
    | none => some r
    | some x => if r.deadline.getD 0 < x.deadline.getD 0 then some r else m) none

/-- Within a group: a read that row hits have passed over 16 times, then the oldest row hit, then the oldest; with the
older reads that a row hit passes over. -/
def Dev.groupPick (d : Dev) (c : Nat) (l : List LineRead) : Option (LineRead × List LineRead) :=
  match l.find? (fun r => decide (16 ≤ r.passed)) with
  | some r => some (r, [])
  | none =>
    match l.find? (fun r => d.rowHit c r.line) with
    | some r => some (r, l.takeWhile (fun x => x != r))
    | none => l.head?.map (fun r => (r, []))

/-- The read that the channel chooses (R374). -/
def Dev.readPick (d : Dev) (c : Nat) : Option (LineRead × List LineRead) :=
  let q := (d.dch c).rq
  match earliest (q.filter (fun r => decide (1 ≤ d.urgency r))) with
  | some r => some (r, [])
  | none =>
    match d.groupPick c (q.filter (fun r => r.deadline.isSome || r.inProf)) with
    | some x => some x
    | none => d.groupPick c q

/-- The queued write that is first in row order. -/
def Dev.rowFirst (d : Dev) (c : Nat) : Option LineWrite :=
  (d.dch c).wq.foldl (fun m w => match m with
    | none => some w
    | some x => if 16 * d.dramRow w.line + d.dramBank w.line < 16 * d.dramRow x.line + d.dramBank x.line then some w else m) none

/-- What a slot serves when neither refresh, poll nor retraining takes it. -/
def Dev.slotServe (d : Dev) (c : Nat) (o : Ecc) : Dev :=
  let d1 := d.pourUpdate c
  let ch := d1.dch c
  if ch.pour ∧ d1.urgencyMax c < 3 then
    match d1.rowFirst c with
    | some w => (d1.writeIssue c w o).pourUpdate c
    | none => d1
  else match d1.readPick c with
    | some (r, passed) =>
      let mark : LineRead → LineRead := fun x => if passed.contains x then { x with passed := x.passed + 1 } else x
      (d1.setDch c { ch with rq := ch.rq.map mark }).readIssue c r
    | none =>
      match ch.wq.head? with
      | some w => if ch.pour then d1 else d1.writeIssue c w o
      | none => d1

/-- A command slot of a channel: a forced refresh, an MR4 poll, a forced retraining; without real-time reads an owed
refresh or a waiting retraining; else a read or a write. `o` is what the decoding of the line gives where the slot
issues a read-modify-write. -/
def Dev.commandSlot (d : Dev) (c : Nat) (o : Ecc) : Dev :=
  if d.dmcHere c = false ∨ d.fld Reg.DMC_STAT.STATE ≠ 2 then d
  else
    let owed := d.fld (Reg.DMC_CH_STAT.OWED c)
    let ch := d.dch c
    let d1 :=
      if 8 ≤ owed then d.refreshOwed c true
      else if ch.poll then d.setDch c { ch with poll := false }
      else if ch.force then d.retrain c
      else if 1 ≤ owed ∧ d.realTime c = false then d.refreshOwed c false
      else if ch.retrain ∧ d.realTime c = false then d.retrain c
      else d.slotServe c o
    d1.lineDrain c

/-! ### Timers (R377, R379–R381) -/

/-- A channel runs. -/
def Dev.dmcRuns (d : Dev) (c : Nat) : Bool := d.dmcHere c && d.fld Reg.DMC_STAT.STATE == 2

/-- A refresh falls due. -/
def Dev.refreshDue (d : Dev) (c : Nat) : Dev :=
  if d.dmcRuns c then
    (d.iff (d.realTime c) (·.dmcCnt c 3)).put (Reg.DMC_CH_STAT.OWED c) (min 15 (d.fld (Reg.DMC_CH_STAT.OWED c) + 1))
  else d

/-- POLL_MS has passed. -/
def Dev.mr4Due (d : Dev) (c : Nat) : Dev :=
  if d.dmcRuns c then d.setDch c { d.dch c with poll := true } else d

/-- The codes of both dies arrive; the worse governs (R379), and a change of range adjusts OWED (R380). -/
def Dev.mr4Result (d : Dev) (c a b : Nat) : Dev :=
  if d.dmcRuns c = false then d
  else
    let code := if Config.mr4Rank a < Config.mr4Rank b then b else a
    let d1 := d.put (Reg.DMC_CH_STAT.MR4_RATE c) code
    let d2 := d1.iff (Config.mr4Limit code) (fun d => (d.dmcCnt c 10).ev Reg.DMC_EVT.TEMP_LIMIT)
    let was := d.on (Reg.DMC_CH_STAT.DOUBLED c)
    let now := Config.mr4Below code || Config.mr4Limit code
    let owed := d.fld (Reg.DMC_CH_STAT.OWED c)
    if was == now then d2
    else
      let d3 := (d2.put (Reg.DMC_CH_STAT.DOUBLED c) (bit now)).ev Reg.DMC_EVT.TEMP_RANGE
      if now then
        let d4 := d3.each (List.range (2 * owed - 8)) (fun d _ => d.refresh c true)
        d4.put (Reg.DMC_CH_STAT.OWED c) (min 8 (2 * owed))
      else d3.put (Reg.DMC_CH_STAT.OWED c) ((owed + 1) / 2)

/-- A retraining falls due. -/
def Dev.retrainDue (d : Dev) (c : Nat) : Dev :=
  if d.dmcRuns c then d.setDch c { d.dch c with retrain := true } else d

/-- A retraining has waited 32 µs. -/
def Dev.retrainForce (d : Dev) (c : Nat) : Dev :=
  if d.dmcRuns c && (d.dch c).retrain then d.setDch c { d.dch c with force := true } else d

end Sys2Proof.Machine
end

