-- ==== Sys2Proof/Machine/Parse.lean ====
section
/-!
DEFINITION. The parse graph (R158–R163, R456) and the keys built from it (R164–R167), as functions of a frame's bytes.
-/
namespace Sys2Proof.Machine

/-- The fields of one layer (R164). -/
structure Layer where
  /-- a node of the layer was parsed -/
  any : Bool := false
  macDa : Nat := 0
  macSa : Nat := 0
  etype : Nat := 0
  vlans : List Nat := []
  pppoe : Nat := 0
  mpls : List Nat := []
  exts : Nat := 0
  /-- 0 none, 1 IPv4, 2 IPv6 -/
  l3 : Nat := 0
  ipSa : Nat := 0
  ipDa : Nat := 0
  proto : Nat := 0
  dscp : Nat := 0
  ecn : Nat := 0
  l4 : Bool := false
  sport : Nat := 0
  dport : Nat := 0
  tcpFlags : Nat := 0
  /-- offset of the IP header -/
  ipAt : Nat := 0
  /-- a header of the layer was an Ethernet header -/
  eth : Bool := false
  deriving DecidableEq, Repr

/-- The parser's result, and its working state. -/
structure Parsed where
  off : Nat := 0
  hdrs : Nat := 0
  /-- the nearest end of what contains the next header (R162) -/
  span : Nat := 0
  /-- the end that the innermost IP header declares -/
  ipEnd : Nat := 0
  outer : Layer := {}
  inner : Layer := {}
  tunnel : Bool := false
  tunnelId : Nat := 0
  fragFirst : Bool := false
  fragLater : Bool := false
  ipOpt : Bool := false
  l3Unknown : Bool := false
  l4Unknown : Bool := false
  deep : Bool := false
  malformed : Bool := false
  deriving DecidableEq, Repr

/-- The nodes of R158 (XGEM, BOND and RISER only count headers, R161). -/
inductive Node where
  | eth | vlan | pppoe | mpls | ipv4 | ipv6
  /-- an extension header of the kind given -/
  | ext (kind : Nat)
  | udp | tcp | gre | vxlan
  deriving DecidableEq, Repr

/-- What follows a node: another node, or the end with or without an unknown flag. -/
inductive After where
  | node (n : Node)
  | stop
  | noL3
  | noL4
  deriving DecidableEq, Repr

/-- Parser options of the global table (R186). -/
structure ParseOpt where
  tpidX : Nat := 0
  vxlanPort : Nat := 4789
  deriving DecidableEq, Repr

def isVlanType (o : ParseOpt) (t : Nat) : Bool :=
  t == 0x8100 || t == 0x88A8 || t == 0x9100 || (o.tpidX != 0 && t == o.tpidX)

/-- The node after a type field (R158). -/
def afterType (o : ParseOpt) (t : Nat) : After :=
  if isVlanType o t then .node .vlan
  else if t = 0x8864 then .node .pppoe
  else if t = 0x8847 ∨ t = 0x8848 then .node .mpls
  else if t = 0x0800 then .node .ipv4
  else if t = 0x86DD then .node .ipv6
  else .noL3

/-- The node after an IPv4 protocol field. -/
def afterProto (t : Nat) : After :=
  if t = 6 then .node .tcp else if t = 17 then .node .udp else if t = 47 then .node .gre else .noL4

/-- The node after an IPv6 next-header field. -/
def afterNext (t : Nat) : After :=
  if t = 0 ∨ t = 43 ∨ t = 44 ∨ t = 51 ∨ t = 60 then .node (.ext t) else afterProto t

/-- The layer that the parse is in. -/
def Parsed.cur (p : Parsed) : Layer := if p.tunnel then p.inner else p.outer

def Parsed.setCur (p : Parsed) (l : Layer) : Parsed :=
  if p.tunnel then { p with inner := { l with any := true } } else { p with outer := { l with any := true } }

/-- The length of a node (R158), read from its own bytes. -/
def nodeLen (b : List Byte) (off : Nat) : Node → Nat
  | .eth => 14
  | .vlan => 4
  | .pppoe => 8
  | .mpls => 4
  | .ipv4 => byteAt b off % 16 * 4
  | .ipv6 => 40
  | .ext k => if k = 51 then (byteAt b (off + 1) + 2) * 4 else if k = 44 then 8 else (byteAt b (off + 1) + 1) * 8
  | .udp => 8
  | .tcp => byteAt b (off + 12) / 16 * 4
  | .gre => 4 + 4 * (bit (bitOf (byteAt b off) 7) + bit (bitOf (byteAt b off) 5) + bit (bitOf (byteAt b off) 4))
  | .vxlan => 8

/-- The graph calls for one VLAN tag, label or extension header too many in this layer (R159, R161). -/
def Parsed.tooMany (p : Parsed) : Node → Bool
  | .vlan => decide (3 ≤ p.cur.vlans.length)
  | .mpls => decide (6 ≤ p.cur.mpls.length)
  | .ext _ => decide (8 ≤ p.cur.exts)
  | _ => false

/-- A contradiction of the table of R162 in the node at the present offset. -/
def Parsed.contra (p : Parsed) (b : List Byte) (n : Node) : Bool :=
  let off := p.off
  let len := nodeLen b off n
  let left := p.span - off
  decide (left < len) ||
  match n with
  | .eth | .vlan =>
    let t := beAt b (off + len - 2) 2
    decide (0x05DD ≤ t ∧ t ≤ 0x05FF) || (decide (t ≤ 0x05DC) && decide (left - len < t))
  | .pppoe => decide (left - 6 < beAt b (off + 4) 2)
  | .ipv4 =>
    let t := beAt b (off + 2) 2
    decide (byteAt b off % 16 < 5) || decide (t < byteAt b off % 16 * 4) || decide (left < t)
  | .ipv6 => decide (beAt b (off + 4) 2 = 0) || decide (left < beAt b (off + 4) 2 + 40)
  | .udp => decide (beAt b (off + 4) 2 < 8) || decide (beAt b (off + 4) 2 ≠ p.ipEnd - off)
  | .tcp => decide (byteAt b (off + 12) / 16 < 5)
  | _ => false

/-- Parse the node at the present offset: its fields, the nearest end it declares, and what follows (R158, R160). -/
def Parsed.take (p : Parsed) (o : ParseOpt) (b : List Byte) (n : Node) : Parsed × After :=
  let off := p.off
  let len := nodeLen b off n
  let l := p.cur
  let q := { p with off := off + len, hdrs := p.hdrs + 1 }
  match n with
  | .eth =>
    let t := beAt b (off + 12) 2
    (q.setCur { l with macDa := beAt b off 6, macSa := beAt b (off + 6) 6, etype := t, eth := true }, afterType o t)
  | .vlan =>
    let t := beAt b (off + 2) 2
    (q.setCur { l with vlans := l.vlans ++ [beAt b off 2], etype := t }, afterType o t)
  | .pppoe =>
    let t := beAt b (off + 6) 2
    ({ q with span := min p.span (off + 6 + beAt b (off + 4) 2) }.setCur { l with pppoe := beAt b (off + 2) 2 },
      if t = 0x0021 then .node .ipv4 else if t = 0x0057 then .node .ipv6 else .noL3)
  | .mpls =>
    let e := beAt b off 3
    let nib := byteAt b (off + 4) / 16
    (q.setCur { l with mpls := l.mpls ++ [e] },
      if e % 2 = 0 then .node .mpls
      else if nib = 4 then .node .ipv4 else if nib = 6 then .node .ipv6 else .noL3)
  | .ipv4 =>
    let fo := beAt b (off + 6) 2
    let proto := byteAt b (off + 9)
    let frag := bitOf fo 13 || decide (fo % 2 ^ 13 ≠ 0)
    let q1 := { q with
      span := min p.span (off + beAt b (off + 2) 2), ipEnd := off + beAt b (off + 2) 2,
      ipOpt := p.ipOpt || decide (5 < byteAt b off % 16),
      fragFirst := p.fragFirst || (frag && decide (fo % 2 ^ 13 = 0)),
      fragLater := p.fragLater || (frag && decide (fo % 2 ^ 13 ≠ 0)) }
    (q1.setCur { l with
        l3 := 1, ipSa := beAt b (off + 12) 4, ipDa := beAt b (off + 16) 4, proto := proto,
        dscp := byteAt b (off + 1) / 4, ecn := byteAt b (off + 1) % 4, ipAt := off },
      if frag then .stop else afterProto proto)
  | .ipv6 =>
    let tc := beAt b off 2 / 16 % 256
    let q1 := { q with
      span := min p.span (off + 40 + beAt b (off + 4) 2), ipEnd := off + 40 + beAt b (off + 4) 2 }
    (q1.setCur { l with
        l3 := 2, ipSa := beAt b (off + 8) 16, ipDa := beAt b (off + 24) 16, proto := byteAt b (off + 6),
        dscp := tc / 4, ecn := tc % 4, ipAt := off }, afterNext (byteAt b (off + 6)))
  | .ext k =>
    let q1 := { q with ipOpt := true }
    let nh := byteAt b off
    let l1 := { l with exts := l.exts + 1, proto := nh }
    if k = 44 then
      let first := decide (beAt b (off + 2) 2 / 8 = 0)
      ({ q1 with fragFirst := p.fragFirst || first, fragLater := p.fragLater || !first }.setCur l1, .stop)
    else (q1.setCur l1, afterNext nh)
  | .udp =>
    let dp := beAt b (off + 2) 2
    ({ q with span := min p.span (off + beAt b (off + 4) 2) }.setCur
        { l with l4 := true, sport := beAt b off 2, dport := dp },
      if dp = o.vxlanPort then (if p.tunnel then .noL4 else .node .vxlan) else .stop)
  | .tcp =>
    (q.setCur { l with l4 := true, sport := beAt b off 2, dport := beAt b (off + 2) 2, tcpFlags := byteAt b (off + 13) },
      .stop)
  | .gre =>
    let f := byteAt b off
    let t := beAt b (off + 2) 2
    let key := if bitOf f 5 then beAt b (off + 4 + 4 * bit (bitOf f 7)) 4 else 0
    ({ q with tunnel := true, tunnelId := key },
      if t = 0x6558 then .node .eth else if t = 0x0800 then .node .ipv4
      else if t = 0x86DD then .node .ipv6 else .noL3)
  | .vxlan => ({ q with tunnel := true, tunnelId := beAt b (off + 4) 3 }, .node .eth)

/-- Follow the graph in the bytes `b` of a frame that ends at `fin`. `clean` is the parse as it stood before the first contradicting node (R163, R456). -/
def parseFrom (o : ParseOpt) (b : List Byte) (fin : Nat) : Nat → Parsed → Option Parsed → After → Parsed × Option Parsed
  | 0, p, c, _ => (p, c)
  | _ + 1, p, c, .stop => (p, c)
  | _ + 1, p, c, .noL3 => ({ p with l3Unknown := true }, c)
  | _ + 1, p, c, .noL4 => ({ p with l4Unknown := true }, c)
  | fuel + 1, p, c, .node n =>
    if n = .gre ∧ p.tunnel then ({ p with l4Unknown := true }, c)
    else
      let len := nodeLen b p.off n
      if 24 < p.hdrs + 1 ∨ 320 < p.off + len ∨ p.tooMany n then ({ p with deep := true }, c)
      else
        let bad := p.contra b n
        let c1 := if bad && c.isNone then some p else c
        let (q, nx) := p.take o b n
        let q := { q with malformed := p.malformed || bad }
        if fin < p.off + len then (q, c1) else parseFrom o b fin fuel q c1 nx

/-- The headers before the outer Ethernet header that count (R158, R161). They count again in the second pass of a
recirculated frame: the model's choice (notes/assumptions/57.md). -/
def Frame.preHdrs (f : Frame) : Nat :=
  if f.srcKind = 3 then (if f.xgKind = 3 then 2 else 1) else if f.srcKind = 1 then 1 else 0

/-- A fragment has no layer-4 fields and no tunnel identifier, whichever of its layers is fragmented (R160). -/
def Parsed.fragment (p : Parsed) : Parsed :=
  let bare : Layer → Layer := fun l => { l with sport := 0, dport := 0, tcpFlags := 0 }
  if p.fragFirst || p.fragLater then { p with outer := bare p.outer, inner := bare p.inner, tunnelId := 0 } else p

/-- Parse a frame: the whole parse, and the parse before the first contradicting node. The frame's end is where it ends
without its FCS, also for a riser frame whose last bytes have still to come (R162, R456); that of a host frame padded under
R332 is the end of its padding, the model's choice (notes/assumptions/57.md). -/
def Frame.parse (f : Frame) (o : ParseOpt) : Parsed × Option Parsed :=
  let (p, c) := parseFrom o f.data f.fin 32 { hdrs := f.preHdrs, span := f.fin } none (.node .eth)
  (p.fragment, c.map Parsed.fragment)

/-- The parse whose fields reach the keys under MALF_ACT 0 (R163): that before the first contradicting node, with the
MALFORMED and PARSE_DEEP of the whole parse. -/
def Parsed.forKeys (whole : Parsed) (clean : Option Parsed) : Parsed :=
  match clean with
  | none => whole
  | some c => { c with malformed := whole.malformed, deep := whole.deep }

/-! ### Keys -/

/-- Fields of a key, the most significant first: width and value. -/
def packBits (l : List (Nat × Nat)) : Nat := l.foldl (fun a e => a * 2 ^ e.1 + e.2 % 2 ^ e.1) 0

/-- FLAGS of R164. -/
def Parsed.flags (p : Parsed) : Nat :=
  bit p.malformed * 128 + bit p.deep * 64 + bit p.fragFirst * 32 + bit p.fragLater * 16 + bit p.tunnel * 8
    + bit p.ipOpt * 4 + bit p.l3Unknown * 2 + bit p.l4Unknown

/-- The layer that a bank draws from (R165): with LAYER 1 the innermost layer parsed. -/
def Parsed.layer (p : Parsed) (sel : Nat) : Layer := if sel = 1 ∧ p.inner.any then p.inner else p.outer

/-- The 640-bit ternary key (R164, R165). -/
def ternaryKey (f : Frame) (p : Parsed) (cls sel : Nat) : Nat :=
  let l := p.layer sel
  packBits [(1, bit f.second), (2, f.srcKind), (14, f.inPort), (8, cls), (16, f.encapId), (16, f.metaV), (8, p.flags),
    (48, l.macDa), (48, l.macSa), (16, l.etype), (16, l.vlans.getD 0 0), (16, l.vlans.getD 1 0), (16, l.vlans.getD 2 0),
    (2, l.vlans.length), (16, l.pppoe), (24, l.mpls.getD 0 0), (24, l.mpls.getD 1 0), (3, l.mpls.length), (2, l.l3),
    (128, l.ipSa), (128, l.ipDa), (8, l.proto), (6, l.dscp), (2, l.ecn), (16, l.sport), (16, l.dport), (8, l.tcpFlags),
    (32, p.tunnelId)]

/-- A key of `bytes` bytes as the data words of an entry, most significant first. -/
def wordsOf (bytes : Nat) (v : Nat) : List Nat :=
  (List.range (bytes / 4)).map (fun i => bits v (32 * (bytes / 4 - 1 - i)) 32)

/-- The exact-match key in the words of an entry, or none where no lookup is made (R166). -/
def exactKey (f : Frame) (p : Parsed) (fmt vrf : Nat) : Option (List Nat) :=
  let l := p.outer
  if fmt = 1 then
    if l.eth then some (wordsOf 20 (packBits [(4, 1), (14, f.inPort), (12, l.vlans.getD 0 0), (12, l.vlans.getD 1 0),
      (48, l.macDa), (70, 0)])) else none
  else if fmt = 2 then
    some (wordsOf 20 (packBits [(4, 2), (16, f.encapId), (2, f.srcKind), (2, f.encapCh), (136, 0)]))
  else if fmt = 3 then
    if l.l3 = 1 then some (wordsOf 20 (packBits [(4, 3), (8, vrf), (32, l.ipSa), (32, l.ipDa), (8, l.proto),
      (16, l.sport), (16, l.dport), (44, 0)])) else none
  else if fmt = 4 then
    if l.l3 = 2 then some (wordsOf 40 (packBits [(4, 4), (8, vrf), (128, l.ipSa), (128, l.ipDa), (8, l.proto),
      (16, l.sport), (16, l.dport), (12, 0)])) else none
  else if fmt = 5 then
    if l.mpls ≠ [] then some (wordsOf 20 (packBits [(4, 5), (20, l.mpls.getD 0 0 / 16), (14, f.inPort), (122, 0)]))
    else none
  else none

/-- The endpoint key of an address (R167): by MAC with FID the outer VID, or by IP. -/
def endpointMac (l : Layer) (mac : Nat) : List Nat :=
  wordsOf 20 (packBits [(4, 1), (12, l.vlans.getD 0 0), (48, mac), (96, 0)])
def endpointIp (l : Layer) (vrf addr : Nat) : List Nat :=
  if l.l3 = 2 then wordsOf 40 (packBits [(4, 3), (8, vrf), (128, addr), (180, 0)])
  else wordsOf 20 (packBits [(4, 2), (8, vrf), (32, addr), (116, 0)])

/-- The destination key for EP_MODE (R167); MAC_DA is 0 where no ETH was parsed (R165). -/
def destKey (p : Parsed) (mode vrf : Nat) : Option (List Nat) :=
  let l := p.outer
  if mode = 1 then some (endpointMac l l.macDa)
  else if mode = 2 then some (if l.l3 ≠ 0 then endpointIp l vrf l.ipDa else endpointMac l l.macDa)
  else none

/-- The source key for EP_MODE (R167). -/
def srcKey (p : Parsed) (mode vrf : Nat) : List Nat :=
  let l := p.outer
  if mode = 2 ∧ l.l3 ≠ 0 then endpointIp l vrf l.ipSa else endpointMac l l.macSa

end Sys2Proof.Machine
end

