-- ==== Sys2Proof/Machine/Tables.lean ====
section
/-!
DEFINITION. The tables of a configuration generation (spec/06 R169–R186, spec/07 R216, R217, spec/08 R235, R240,
spec/13): versions and their visibility, the staging operations and their log, scrub, discard and revert, the keyed
tables, and the commands of a family's command register.
-/
namespace Sys2Proof.Machine

/-! ### Tags (R176, R177) -/

def Dev.actTag (d : Dev) : Nat := d.fld Reg.PCL_GEN_STAT.ACT_TAG
def Dev.stgTag (d : Dev) : Nat := d.fld Reg.PCL_GEN_STAT.STG_TAG
def Dev.heldTag (d : Dev) : Nat := d.fld Reg.PCL_GEN_STAT.HELD_TAG

/-- rel(t) of R177. -/
def rel (act t : Nat) : Int := ((t : Int) - act + 8) % 16 - 8

/-- A version is visible to a frame with tag `g` while `act` is the active tag (R177). -/
def Ver.visible (v : Ver) (act g : Nat) : Bool :=
  (!v.fv || decide (rel act v.fromTag ≤ rel act g)) && (!v.uv || decide (rel act g < rel act v.untilT))

/-- The version of a location that tag `g` sees. -/
def seen (vs : List Ver) (act g : Nat) : Option (List Nat) := (vs.find? (·.visible act g)).map (·.data)

/-! ### Families -/

def Dev.fam (d : Dev) : Family → Fam
  | .pcl => d.gen.pcl
  | .tmg => d.gen.tmg
  | .tt => d.gen.tt

def Dev.setFam (d : Dev) (x : Family) (f : Fam) : Dev :=
  match x with
  | .pcl => { d with gen := { d.gen with pcl := f } }
  | .tmg => { d with gen := { d.gen with tmg := f } }
  | .tt => { d with gen := { d.gen with tt := f } }

/-- HELD_KIND of a family: 0 none, 1 previous, 2 rejected. -/
def Family.heldKind : Family → Fld
  | .pcl => Reg.PCL_GEN_STAT.HELD_KIND
  | .tmg => Reg.TMG_GEN_STAT.HELD_KIND
  | .tt => Reg.SM_TT_GEN_STAT.HELD_KIND

def Family.scrubbing : Family → Fld
  | .pcl => Reg.PCL_GEN_STAT.SCRUBBING
  | .tmg => Reg.TMG_GEN_STAT.SCRUBBING
  | .tt => Reg.SM_TT_GEN_STAT.SCRUBBING

def Family.status : Family → Fld
  | .pcl => Reg.PCL_TBL_STAT.STATUS
  | .tmg => Reg.TMG_TBL_STAT.STATUS
  | .tt => Reg.SM_TT_STAT.STATUS

def Family.busy : Family → Fld
  | .pcl => Reg.PCL_TBL_STAT.BUSY
  | .tmg => Reg.TMG_TBL_STAT.BUSY
  | .tt => Reg.SM_TT_STAT.BUSY

def Family.ignored : Family → Fld
  | .pcl => Reg.PCL_TBL_STAT.IGNORED
  | .tmg => Reg.TMG_TBL_STAT.IGNORED
  | .tt => Reg.SM_TT_STAT.IGNORED

/-- Data word `i`. -/
def Family.word (x : Family) (i : Nat) : Fld :=
  match x with
  | .pcl => Reg.PCL_TBL_DATA.DATA i
  | .tmg => Reg.TMG_TBL_DATA.DATA i
  | .tt => Reg.SM_TT_DATA.DATA i

/-- How many data words the family has; the last one takes the tags on a read. -/
def Family.words : Family → Nat
  | .pcl => 48
  | .tmg => 16
  | .tt => 8

/-- Locations of a table (R186, R217, R240); 0 where there is no such table. -/
def Family.size : Family → Nat → Nat
  | .pcl, t => if t < 4 then 4096 else if t = 4 then 262144 else if t = 5 then 131072 else if t = 6 then 65536
      else if t = 7 then 65536 else if t = 8 then 512 else if t = 9 then 6 else 0
  | .tmg, t => if t = 0 then 32768 else if t = 1 then 65536 else if t = 2 then 16384 else if t = 3 then 1024
      else if t = 4 then 256 else if t = 5 then 16 else if t = 6 then 1024 else 0
  | .tt, t => if t = 0 then 16384 else if t = 1 then 448 else 0

/-- Location `loc` of the table exists. -/
def Family.locOk (x : Family) (t loc : Nat) : Bool :=
  decide (loc < x.size t) && !(x == .tmg && t == 3 && decide (456 ≤ loc) && decide (loc < 512))

/-- Data words of a location of the table. -/
def Family.width : Family → Nat → Nat
  | .pcl, t => if t < 4 then 41 else if t = 4 then 11 else if t = 5 then 12 else if t = 6 then 4
      else if t = 7 then 5 else if t = 8 then 2 else 1
  | .tmg, t => if t = 0 then 3 else if t = 1 then 5 else if t = 2 then 3 else if t = 3 then 3
      else if t = 4 then 2 else if t = 5 then 12 else 2
  | .tt, t => if t = 0 then 1 else 5

/-- The bits of data word `i` that a location of the table holds (R186, R217, R240); every other bit is 0. -/
def Family.mask (x : Family) (t loc i : Nat) : Nat :=
  let w := fun (l : List Nat) => 2 ^ l.getD i 32 - 1
  match x with
  | .pcl =>
    if t < 4 then (if i = 40 then 0xFFFF else 0xFFFFFFFF)
    else if t = 4 ∨ t = 5 then (if i = 10 then 0xFFFF else if i = 11 then 0x3FFF else 0xFFFFFFFF)
    else if t = 6 then (if i = 3 then 0x80000000 else 0xFFFFFFFF)
    else if t = 7 then w [4, 29, 24, 29, 24]
    else if t = 8 then w [22, 16]
    else if loc < 4 then 3 else if loc = 4 then 0xFFF else 0xFFFFFFFF
  | .tmg =>
    if t = 0 then w [19, 14, 18] else if t = 1 then w [22, 29, 25, 29, 25] else if t = 2 then w [27, 29, 25]
    else if t = 3 then w [9, 29, 25] else if t = 4 then w [30, 10]
    else if t = 5 then w [17, 19, 19, 19, 19, 27, 19, 27, 19, 27, 19, 27] else w [17, 24]
  | .tt => if t = 0 then 0xFFFFFFFF else w [26, 30, 32, 16, 30]

/-- The key of a location in the family's table of versions. -/
def locKey (t loc : Nat) : Nat := t * 2 ^ 18 + loc

def Fam.at (f : Fam) (k : Nat) : List Ver := Tbl.get f.locs k []

/-- Store a location's versions; a location with none is not listed. -/
def Fam.store (f : Fam) (k : Nat) (vs : List Ver) : Fam :=
  { f with locs := if vs = [] then Tbl.del f.locs k else Tbl.set f.locs k vs }

/-- What tag `g` sees at a location (R177). -/
def Dev.look (d : Dev) (x : Family) (t loc g : Nat) : Option (List Nat) :=
  seen ((d.fam x).at (locKey t loc)) d.actTag g

/-- What the active generation holds at a location. -/
def Dev.lookAct (d : Dev) (x : Family) (t loc : Nat) : Option (List Nat) := d.look x t loc d.actTag

/-- Word `i` of what a lookup found; an empty location reads 0. -/
def wordOf (o : Option (List Nat)) (i : Nat) : Nat := (o.getD []).getD i 0

/-! ### The staging operations on one location (R178) -/

def Ver.isStaged (v : Ver) (stg : Nat) : Bool := v.fv && v.fromTag == stg
def Ver.endsAt (v : Ver) (t : Nat) : Bool := v.uv && v.untilT == t

/-- End, at the staging tag, a version still visible to the active one. -/
def Ver.endAt (v : Ver) (act stg : Nat) : Ver :=
  if v.visible act act && !v.isStaged stg then { v with uv := true, untilT := stg } else v

/-- STAGE_WRITE: the new versions, or none for GEN_FULL. -/
def stageWrite (vs : List Ver) (act stg : Nat) (data : List Nat) : Option (List Ver) :=
  if vs.any (·.isStaged stg) then some (vs.map (fun v => if v.isStaged stg then { v with data := data } else v))
  else if vs.length < 2 then
    some (vs.map (·.endAt act stg) ++ [{ data := data, fromTag := stg, fv := true }])
  else none

/-- STAGE_DELETE: the new versions, or none for NOT_FOUND. -/
def stageDelete (vs : List Ver) (act stg : Nat) : Option (List Ver) :=
  if vs.any (fun v => v.isStaged stg || v.visible act act) then
    some ((vs.filter (fun v => !v.isStaged stg)).map (·.endAt act stg))
  else none

/-- STAGE_REVERT: the location as before staging; UNTIL is cleared with its flag (R178). -/
def stageRevert (vs : List Ver) (stg : Nat) : List Ver :=
  (vs.filter (fun v => !v.isStaged stg)).map (fun v => if v.endsAt stg then { v with uv := false, untilT := 0 } else v)

/-- The scrub of one location for the confirmed tag `a` (R180). -/
def scrubLoc (vs : List Ver) (a : Nat) : List Ver :=
  (vs.filter (fun v => !v.endsAt a)).map (fun v => if v.isStaged a then { v with fv := false } else v)

/-- DISCARD_REJECTED on one location for the rejected tag `a` (R180): as a revert of `a`. -/
def discardLoc (vs : List Ver) (a : Nat) : List Ver := stageRevert vs a

/-- Apply a change to every location of a list. -/
def Fam.eachLoc (f : Fam) (ks : List Nat) (g : List Ver → List Ver) : Fam :=
  ks.foldl (fun f k => f.store k (g (f.at k))) f

/-! ### Status codes of R185 -/

def stOk : Nat := 0x00
def stBadTable : Nat := 0x10
def stBadLoc : Nat := 0x11
def stGenFull : Nat := 0x12
def stTblFull : Nat := 0x13
def stLogFull : Nat := 0x14
def stRejHeld : Nat := 0x15
def stDraining : Nat := 0x16
def stCommitPending : Nat := 0x17
def stNotFound : Nat := 0x18
def stBadKey : Nat := 0x19

/-! ### Keyed tables (R169, R170) -/

/-- The key in the data words of a keyed entry, and its width in bytes. -/
def keyFmt (w : List Nat) : Nat := w.getD 0 0 / 2 ^ 28

/-- A key of this format is 320 bits wide: IPv6, in table 4 format 4 and in table 5 format 3. -/
def keyWide (t fmt : Nat) : Bool := (t == 4 && fmt == 4) || (t == 5 && fmt == 3)

/-- The key words of an entry: five, or ten for a wide key. -/
def keyWords (t : Nat) (w : List Nat) : List Nat := w.take (if keyWide t (keyFmt w) then 10 else 5)

/-- CRC-32C of a key, its most significant byte first. -/
def keyCrc (k : List Nat) : Nat := crc32c.sum (k.flatMap (fun w => beBytes w 4))

/-- The two buckets of a key, as the location of their way 0. -/
def keyBuckets (t : Nat) (k : List Nat) : Nat × Nat :=
  let c := keyCrc k
  if t = 4 then (c % 2 ^ 14 * 8, 131072 + bits c 14 14 * 8) else (c % 2 ^ 13 * 8, 65536 + bits c 13 13 * 8)

/-- The way holds nothing: no version of its own, and not the second half of a wide entry below it. -/
def Fam.wayFree (f : Fam) (t b i : Nat) : Bool :=
  (f.at (locKey t (b + i))).isEmpty &&
  !(decide (0 < i) && (f.at (locKey t (b + (i - 1)))).any (fun v => keyWide t (keyFmt v.data)))

/-- The location that holds the key in any version. -/
def Fam.findKey (f : Fam) (t : Nat) (k : List Nat) : Option Nat :=
  let (b0, b1) := keyBuckets t k
  ((List.range 8).map (b0 + ·) ++ (List.range 8).map (b1 + ·)).find?
    (fun l => (f.at (locKey t l)).any (fun v => keyWords t v.data == k))

/-- The lowest free way (two adjacent ways for a wide key) of half 0, then of half 1 (R169). -/
def Fam.freeWay (f : Fam) (t : Nat) (k : List Nat) (wide : Bool) : Option Nat :=
  let (b0, b1) := keyBuckets t k
  let ok := fun b i => f.wayFree t b i && (!wide || (decide (i < 7) && f.wayFree t b (i + 1)))
  (((List.range 8).filter (ok b0)).map (b0 + ·) ++ ((List.range 8).filter (ok b1)).map (b1 + ·)).head?

/-! ### Commands of a command register (R185) -/

/-- A staging change is refused: REJ_HELD while staging is closed or a rejected generation is held, COMMIT_PENDING while
a commit is requested (R180, R185). -/
def Dev.stageRefusal (d : Dev) (x : Family) : Option Nat :=
  if d.fld x.heldKind = 2 ∨ d.on Reg.GEN_STAT.STAGE_OPEN = false then some stRejHeld
  else if d.on Reg.PCL_GEN_STAT.COMMIT_PENDING then some stCommitPending
  else none

/-- The log is full for a location not yet in it; the log of the gates holds every location (R178, R216, R235). -/
def Fam.logFull (f : Fam) (x : Family) (k : Nat) : Bool :=
  x != .tt && !Tbl.has f.log k && decide (32768 ≤ f.log.length)

/-- Enter a location in the staging log with the number of this operation (R178, R353). -/
def Dev.logged (d : Dev) (x : Family) (k : Nat) (vs : List Ver) : Dev :=
  let f := d.fam x
  let d1 := d.setFam x { f.store k vs with log := Tbl.set f.log k d.gen.seq }
  { d1 with gen := { d1.gen with seq := d1.gen.seq + 1 } }

/-- The data words that a STAGE_WRITE takes up. -/
def Dev.dataWords (d : Dev) (x : Family) (n : Nat) : List Nat := (List.range n).map (fun i => d.fld (x.word i))

/-- The classifier reports a full log as an event. -/
def Dev.logFullEvt (d : Dev) (x : Family) (st : Nat) : Dev :=
  d.iff (x == .pcl && st == stLogFull) (·.ev Reg.PCL_GEN_EVT.LOG_FULL)

/-- Where a staging operation acts: the location given, or for a keyed table the location found for the key in the data
words or (for a write) the one allocated; or the status of its refusal. -/
def Dev.target (d : Dev) (x : Family) (t loc : Nat) (write : Bool) : Nat ⊕ Nat :=
  if x.size t = 0 then .inr stBadTable
  else if x == .pcl && (t == 4 || t == 5) then
    let w := d.dataWords x 12
    let fmt := keyFmt w
    let wide := keyWide t fmt
    if fmt = 0 ∨ fmt = 6 ∨ fmt = 7 ∨ (wide ∧ ¬ ((List.range 5).all (fun i => bitOf (d.fam x).written (5 + i)))) then
      .inr stBadKey
    else
      let k := keyWords t w
      match (d.fam x).findKey t k with
      | some l => .inl l
      | none =>
        if write then
          match (d.fam x).freeWay t k wide with
          | some l => .inl l
          | none => .inr stTblFull
        else .inr stNotFound
  else if x.locOk t loc then .inl loc
  else .inr stBadLoc

/-- The words a STAGE_WRITE stores: unlisted bits are 0, and a narrow key leaves words 5 to 9 out (0). -/
def Dev.stageData (d : Dev) (x : Family) (t loc : Nat) : List Nat :=
  let w := (List.range (x.width t)).map (fun i => d.fld (x.word i) &&& x.mask t loc i)
  if x == .pcl && (t == 4 || t == 5) && !keyWide t (keyFmt w) then
    w.take 5 ++ List.replicate 5 0 ++ w.drop 10
  else w

/-- The location that TBL_STAT.LOC shows after an operation: of a keyed one alone (R185). -/
def keyLoc (x : Family) (t l : Nat) : Option Nat := if x == .pcl && (t == 4 || t == 5) then some l else none

/-- The effect of STAGE_WRITE, with its status and location. -/
def Dev.doStageWrite (d : Dev) (x : Family) (t loc : Nat) : Dev × Nat × Option Nat :=
  match d.stageRefusal x with
  | some st => (d, st, none)
  | none =>
    match d.target x t loc true with
    | .inr st => (d, st, none)
    | .inl l =>
      let f := d.fam x
      let k := locKey t l
      if f.logFull x k then (d, stLogFull, keyLoc x t l)
      else
        match stageWrite (f.at k) d.actTag d.stgTag (d.stageData x t l) with
        | none => (d, stGenFull, keyLoc x t l)
        | some vs => (d.logged x k vs, stOk, keyLoc x t l)

/-- The effect of STAGE_DELETE, with its status and location. -/
def Dev.doStageDelete (d : Dev) (x : Family) (t loc : Nat) : Dev × Nat × Option Nat :=
  match d.stageRefusal x with
  | some st => (d, st, none)
  | none =>
    match d.target x t loc false with
    | .inr st => (d, st, none)
    | .inl l =>
      let f := d.fam x
      let k := locKey t l
      match stageDelete (f.at k) d.actTag d.stgTag with
      | none => (d, stNotFound, keyLoc x t l)
      | some vs => if f.logFull x k then (d, stLogFull, keyLoc x t l) else (d.logged x k vs, stOk, keyLoc x t l)

/-- Revert one location and take it out of the log (R178). -/
def Fam.revert (f : Fam) (stg k : Nat) : Fam :=
  let g := f.store k (stageRevert (f.at k) stg)
  { g with log := Tbl.del g.log k }

/-- The effect of STAGE_REVERT, with its status and location. -/
def Dev.doStageRevert (d : Dev) (x : Family) (t loc : Nat) : Dev × Nat × Option Nat :=
  match d.stageRefusal x with
  | some st => (d, st, none)
  | none =>
    match d.target x t loc false with
    | .inr st => (d, st, none)
    | .inl l =>
      let d1 := d.setFam x ((d.fam x).revert d.stgTag (locKey t l))
      ({ d1 with gen := { d1.gen with seq := d1.gen.seq + 1 } }, stOk, keyLoc x t l)

/-- The tag of a VIEW: active, held, staging; 3 acts as 0. -/
def Dev.viewTag (d : Dev) (view : Nat) : Nat :=
  if view = 1 then d.heldTag else if view = 2 then d.stgTag else d.actTag

/-- The tag word of a version on a read (word 47 of R186). -/
def Ver.tagWord (v : Ver) : Nat :=
  v.fromTag + bit v.fv * 2 ^ 4 + v.untilT * 2 ^ 8 + bit v.uv * 2 ^ 12 + 2 ^ 13

/-- Put what a read found into the data words: the visible version with its tags in the last word, or zeros in every
word for NOT_FOUND (R185). -/
def Dev.readInto (d : Dev) (x : Family) (o : Option Ver) : Dev :=
  match o with
  | none => d.each (List.range x.words) (fun d i => d.put (x.word i) 0)
  | some v =>
    (d.each (List.range v.data.length) (fun d i => d.put (x.word i) (v.data.getD i 0))).put
      (x.word (x.words - 1)) v.tagWord

/-- What a READ finds: the version that the view's tag sees; VIEW 1 holds nothing while no generation is held (DEDUCED,
notes/assumptions/12.md). -/
def Dev.viewed (d : Dev) (x : Family) (t l view : Nat) : Option Ver :=
  if view = 1 ∧ d.fld x.heldKind = 0 then none
  else ((d.fam x).at (locKey t l)).find? (·.visible d.actTag (d.viewTag view))

/-- The effect of a READ at a location found. -/
def Dev.readAt (d : Dev) (x : Family) (t l view : Nat) : Dev × Nat × Option Nat :=
  match d.viewed x t l view with
  | none => (d.readInto x none, stNotFound, keyLoc x t l)
  | some v => (d.readInto x (some v), stOk, keyLoc x t l)

/-- READ (R185): a keyed table is read by the key in the data words. -/
def Dev.doRead (d : Dev) (x : Family) (t loc view : Nat) : Dev × Nat × Option Nat :=
  match d.target x t loc false with
  | .inr st => (d.iff (st == stNotFound) (·.readInto x none), st, none)
  | .inl l => d.readAt x t l view

/-- READ_LOC: a keyed table by location, and no keyed operation; other tables give BAD_TABLE. -/
def Dev.doReadLoc (d : Dev) (x : Family) (t loc view : Nat) : Dev × Nat × Option Nat :=
  if !(x == .pcl && (t == 4 || t == 5)) then (d, stBadTable, none)
  else if !x.locOk t loc then (d, stBadLoc, none)
  else
    let r := d.readAt x t loc view
    (r.1, r.2.1, none)

/-- Free the rejected versions of one family (R180). -/
def Dev.famDiscard (d : Dev) (x : Family) : Dev :=
  let f := d.fam x
  (d.setFam x { f.eachLoc f.held (discardLoc · d.heldTag) with held := [] }).put x.heldKind 0

/-- DISCARD_REJECTED through a family's own command register: DRAINING before the rejected tag has retired or with no
rejected generation held; COMMIT_PENDING while a commit is requested, REJ_HELD where staging is then closed (R180, R185). -/
def Dev.doDiscard (d : Dev) (x : Family) : Dev × Nat × Option Nat :=
  if d.on Reg.PCL_GEN_STAT.COMMIT_PENDING then
    (d, if d.on Reg.GEN_STAT.STAGE_OPEN then stCommitPending else stRejHeld, none)
  else if d.fld x.heldKind != 2 || !d.on Reg.PCL_GEN_STAT.PREV_RETIRED then (d, stDraining, none)
  else (d.famDiscard x, stOk, none)

/-- A command of a command register exists: OP 1 to 5, and READ_LOC (6) of the classifier's (R185, R217, R235). -/
def TblOp.known (c : TblOp) (x : Family) : Bool := decide (1 ≤ c.op ∧ c.op ≤ 5) || (c.op == 6 && x == .pcl)

/-- A write of a command register starts a command; while one runs every write is ignored and IGNORED sets (R185). The
command acts when it completes (notes/assumptions/12.md). -/
def Dev.tblCmd (d : Dev) (x : Family) (c : TblOp) : Dev :=
  if d.on x.busy then d.ev x.ignored
  else if c.known x then (d.setFam x { d.fam x with cmd := some c }).put x.busy 1
  else d

/-- What a command does, its status, and the location of a keyed one. -/
def Dev.tblRun (d : Dev) (x : Family) (c : TblOp) : Dev × Nat × Option Nat :=
  match c.op with
  | 1 => d.doStageWrite x c.table c.loc
  | 2 => d.doStageDelete x c.table c.loc
  | 3 => d.doStageRevert x c.table c.loc
  | 4 => d.doRead x c.table c.loc c.view
  | 5 => d.doDiscard x
  | _ => d.doReadLoc x c.table c.loc c.view

/-- How a command ends: status, location of a keyed operation, BUSY (R185); the traffic manager sets CMD_DONE. -/
def Dev.tblEnd (d : Dev) (x : Family) (st : Nat) (l : Option Nat) : Dev :=
  let d1 := (((d.logFullEvt x st).setFam x { d.fam x with cmd := none, written := 0 }).put x.status st).put x.busy 0
  let d2 := match x, l with
    | .pcl, some l => d1.put Reg.PCL_TBL_STAT.LOC l
    | _, _ => d1
  d2.iff (x == .tmg) (·.ev Reg.TMG_EVT.CMD_DONE)

/-- A table command completes: it acts, is numbered in the sequence of R353, and ends. -/
def Dev.tblDone (d : Dev) (x : Family) : Dev :=
  match (d.fam x).cmd with
  | none => d
  | some c =>
    let r := d.tblRun x c
    r.1.tblEnd x r.2.1 r.2.2

/-! ### READY (R181, R216, R235) -/

/-- READY of a family: no generation held, no scrub running, no commit pending. `own` is the commit under test, whose
own pending does not count (R354). -/
def Dev.famReady (d : Dev) (x : Family) (own : Bool) : Bool :=
  d.fld x.heldKind == 0 && !d.on x.scrubbing && (own || !d.on Reg.PCL_GEN_STAT.COMMIT_PENDING)

/-! ### Frames in flight, retirement and scrub (R179, R180) -/

def Dev.flight (d : Dev) (tag : Nat) : Nat := Tbl.get d.gen.inflight tag 0

/-- The scrubs may begin: the active generation is confirmed and the previous one is held and retired. -/
def Dev.scrubStart (d : Dev) : Dev :=
  d.each [Family.pcl, .tmg, .tt] (fun d x =>
    d.iff (d.fld x.heldKind == 1 && d.on Reg.GEN_STAT.CONFIRMED && d.on Reg.PCL_GEN_STAT.PREV_RETIRED)
      (·.put x.scrubbing 1))

/-- The held tag's count has reached 0: it is retired (R179). -/
def Dev.retire (d : Dev) : Dev :=
  (((d.put Reg.PCL_GEN_STAT.PREV_RETIRED 1).put Reg.GEN_STAT.PREV_RETIRED 1).ev Reg.PCL_GEN_EVT.RETIRED).scrubStart

/-- Retire the held tag when no frame of it is in flight. -/
def Dev.retireCheck (d : Dev) : Dev :=
  d.iff (!d.on Reg.PCL_GEN_STAT.PREV_RETIRED && d.flight d.heldTag == 0) (·.retire)

/-- A frame of this tag enters its first pass. -/
def Dev.flightIn (d : Dev) (tag : Nat) : Dev :=
  { d with gen := { d.gen with inflight := Tbl.set d.gen.inflight tag (d.flight tag + 1) } }

/-- A frame of this tag has finished its last pass or was dropped while it waited for it. -/
def Dev.flightOut (d : Dev) (tag : Nat) : Dev :=
  { d with gen := { d.gen with inflight := Tbl.set d.gen.inflight tag (d.flight tag - 1) } }.retireCheck

/-- The scrub of one family ends (R180). -/
def Dev.scrubDone (d : Dev) (x : Family) : Dev :=
  if d.on x.scrubbing then
    let f := d.fam x
    let d1 := d.setFam x { f.eachLoc f.held (scrubLoc · d.actTag) with held := [] }
    let d2 := (d1.put x.heldKind 0).put x.scrubbing 0
    match x with
    | .pcl => d2.ev Reg.PCL_GEN_EVT.SCRUB_DONE
    | .tmg => d2.ev Reg.TMG_EVT.SCRUB_DONE
    | .tt => d2
  else d

end Sys2Proof.Machine
end

