-- ==== Sys2Proof/Machine/Traffic.lean ====
section
/-!
DEFINITION. The traffic manager (spec/07): the tree of queues and nodes, token buckets, selection, buffer admission,
the Siding, T-CONT occupancy and the egress edit. Every table but the flow table is read in its active version at the
moment of use (R215).
-/
namespace Sys2Proof.Machine

/-! ### Tables (R217) -/

def Dev.flowCfg (d : Dev) (flow tag : Nat) : Option (List Nat) := d.look .tmg 0 flow tag
def Dev.queueCfg (d : Dev) (q : Nat) : Nat := wordOf (d.lookAct .tmg 1 q) 0
def Dev.nodeCfg (d : Dev) (n : Nat) : Nat := wordOf (d.lookAct .tmg 2 n) 0
def Dev.portCfg (d : Dev) (p : Nat) : Nat := wordOf (d.lookAct .tmg 3 p) 0
def Dev.editCfg (d : Dev) (e : Nat) : Nat × Nat :=
  let o := d.lookAct .tmg 6 e
  (wordOf o 0, wordOf o 1)

/-- Word `i` of an admission profile; an empty one acts with ALPHA_EXP 6 and MAX_CELLS 262,144 (R217). -/
def Dev.admCfg (d : Dev) (a i : Nat) : Nat :=
  match d.lookAct .tmg 5 a with
  | some w => w.getD i 0
  | none => if i = 0 then 6 else if i = 2 then 262144 else 0

/-- A count of cells with its limit (R217). -/
def cellsOf (w : Nat) : Nat := min 262144 (w % 2 ^ 19)

def qClass (c : Nat) : Nat := bits c 0 3
def qQuantum (c : Nat) : Nat := max 1 (bits c 3 12)
def nClass (c : Nat) : Nat := bits c 11 3
def nQuantum (c : Nat) : Nat := max 1 (bits c 14 12)

/-- OVH of a port node, signed (R193). -/
def Dev.ovh (d : Dev) (p : Nat) : Int := signed 7 (bits (d.portCfg p) 2 7)

/-- The subscriber node above a service queue: its flow's SUB, in its direction (R187, R190). -/
def Dev.nodeOfQueue (d : Dev) (q : Nat) : Nat :=
  let sub := bits (wordOf (d.lookAct .tmg 0 (q % 32768)) 0) 0 13
  if q < 32768 then sub else 8192 + sub

/-- A T-CONT group's member on channel n, when it is valid (R217). -/
def Dev.groupMember (d : Dev) (g n : Nat) : Option Nat :=
  let o := d.lookAct .tmg 4 g
  let m := if n = 3 then bits (wordOf o 1) 0 10 else bits (wordOf o 0) (10 * n) 10
  if bitOf m 9 then some (m % 512) else none

/-- A subscriber node feeds port node `p`: by its PARENT, or through its group for an upstream node (R190, R213). -/
def Dev.nodeUnder (d : Dev) (n p : Nat) : Bool :=
  let c := d.nodeCfg n
  if 8192 ≤ n ∧ bitOf c 10 then
    decide (512 ≤ p) && (List.range 4).any (fun ch => d.groupMember (c % 256) ch == some (p - 512))
  else c % 1024 == p

/-! ### Queues -/

/-- Keys of transit and trap queues. -/
def transitKey (p k : Nat) : Nat := 65536 + 8 * p + k
def trapKey (k : Nat) : Nat := 69632 + k

/-- The transit queues of port node `p`, in order of class: a port has eight, a T-CONT none. -/
def transitKeys (p : Nat) : List Nat := if p < 456 then (List.range 8).map (transitKey p) else []

/-- The trap queue of port node `p`: a host port has one. -/
def trapKeys (p : Nat) : List Nat := if 452 ≤ p ∧ p < 456 then [trapKey (p - 452)] else []

def cellsIn (l : List Frame) : Nat := (l.map (·.cells)).sum
def bytesIn (l : List Frame) : Nat := (l.map (·.fullLen)).sum

/-- The on-die cells of a queue, and those of the shared pool among them: also a frame that a port has taken holds its
cells until it is sent (R202). -/
def Queue.cells (x : Queue) : Nat := cellsIn x.ondie + x.out
def Queue.shared (x : Queue) : Nat := cellsIn (x.ondie.filter (·.pool == .shared)) + x.outShared

/-- The service queues that hold a frame on-die. -/
def Dev.busyQueues (d : Dev) : List Nat :=
  (d.tm.queues.filter (fun e => decide (e.1 < 65536) && e.2.ondie != [])).map (·.1)

/-! ### Pools (R202) -/

/-- Cells left to the guarantee and shared pools. -/
def Dev.cellsLeft (d : Dev) : Nat := 262144 - d.tm.bondSize - (if d.tm.sidingOn then 8192 else 0)

/-- The guarantee pool: GUAR_CELLS as far as free cells could be moved; it takes what is left when the pools would
exceed the buffer. -/
def Dev.guarSize (d : Dev) : Nat :=
  max d.tm.guarUsed (min (d.fld Reg.TMG_BUF_CFG.GUAR_CELLS) (d.cellsLeft - d.tm.sharedUsed))

def Dev.guarFree (d : Dev) : Nat := d.guarSize - d.tm.guarUsed
def Dev.sharedFree (d : Dev) : Nat := d.cellsLeft - d.guarSize - d.tm.sharedUsed

/-- Cells of a frame of this length (R202). -/
def cellsFor (len : Nat) : Nat := cdiv (len + 16) 256

/-- The `n` lowest cells of the Siding that are not in use. -/
def freeCells (used : List Nat) (n : Nat) : List Nat :=
  ((List.range (used.length + n)).filter (fun i => i ∉ used)).take n

/-- A frame takes cells of a pool; in the Siding the lowest free ones, the model's choice (notes/assumptions/29.md). -/
def Dev.hold (d : Dev) (f : Frame) (p : Pool) : Dev × Frame :=
  let n := cellsFor f.fullLen
  let t := d.tm
  let at_ := match p with | .siding => freeCells t.sidingCells n | _ => []
  let t' := match p with
    | .none => t
    | .guar => { t with guarUsed := t.guarUsed + n }
    | .shared => { t with sharedUsed := t.sharedUsed + n }
    | .siding => { t with sidingUsed := t.sidingUsed + n, stagingUsed := t.stagingUsed + n, sidingCells := t.sidingCells ++ at_ }
  ({ d with tm := t' }, { f with cells := n, pool := p, home := none, stage := t.stageNo, cellsAt := at_ })

/-- The cells of a frame that a port takes stay with its queue; they leave it as the frame is sent or put back. -/
def Queue.takeOut (x : Queue) (f : Frame) : Queue :=
  match f.pool with
  | .guar => { x with out := x.out + f.cells }
  | .shared => { x with out := x.out + f.cells, outShared := x.outShared + f.cells }
  | _ => x
def Queue.giveBack (x : Queue) (f : Frame) : Queue :=
  match f.pool with
  | .guar => { x with out := x.out - f.cells }
  | .shared => { x with out := x.out - f.cells, outShared := x.outShared - f.cells }
  | _ => x

/-- A frame leaves the buffer (or the Siding). -/
def Dev.release (d : Dev) (f : Frame) : Dev :=
  let t := d.tm
  let t' := match f.pool with
    | .none => t
    | .guar => { t with guarUsed := t.guarUsed - f.cells }
    | .shared => { t with sharedUsed := t.sharedUsed - f.cells }
    | .siding => { t with sidingUsed := t.sidingUsed - f.cells
                          sidingCells := t.sidingCells.filter (fun i => i ∉ f.cellsAt)
                          stagingUsed := if f.stage = t.stageNo then t.stagingUsed - f.cells else t.stagingUsed }
  let d1 := { d with tm := t' }
  match f.home with
  | some q => d1.setQueue q ((d1.queue q).giveBack f)
  | none => d1

/-- The cells of a Siding frame are written on port 1: 16 free bytes, as R202 counts them, the frame with its FCS, and free
bytes to the end of the last cell (R369, notes/assumptions/29.md). -/
def Dev.sidingPut (d : Dev) (f : Frame) : Dev :=
  let (d1, head) := d.freeBytes 16
  let b := head ++ f.data ++ fcs f.data
  let (d2, tail) := d1.freeBytes (256 * f.cellsAt.length - b.length)
  d2.each f.cellsAt.zipIdx (fun d e => d.dmcAsk 1 (d.sidingAddr e.1) 256 (some (((b ++ tail).drop (256 * e.2)).take 256)) 0)

/-- The staging writer has written what the staging pool held (R207). -/
def Dev.stageOut (d : Dev) : Dev :=
  let l := if d.tm.stagingUsed = 0 then [] else
    (d.tm.queues.flatMap (fun e => e.2.siding)).filter (fun f => f.pool == .siding && f.stage == d.tm.stageNo)
  let d1 := d.each l (fun d f => d.sidingPut f)
  { d1 with tm := { d1.tm with stagingUsed := 0, stageNo := d1.tm.stageNo + 1 } }

/-! ### Token buckets (R192–R196) -/

def bktKey (level i : Nat) : Nat := 65536 * level + i

/-- RATE, BURST and enable of a bucket in the active tables, with the limits of R217. -/
def Dev.bktCfg (d : Dev) (level i : Nat) : Nat × Nat × Bool :=
  let r := fun w => min 400000000 (w % 2 ^ 29)
  let b := fun w => min (2 ^ 24) (w % 2 ^ 25)
  if level = 0 then
    let o := d.lookAct .tmg 1 i
    (r (wordOf o 1), b (wordOf o 2), bitOf (wordOf o 0) 19)
  else if level = 1 then
    let o := d.lookAct .tmg 1 i
    (r (wordOf o 3), b (wordOf o 4), bitOf (wordOf o 0) 20)
  else if level = 2 then
    let o := d.lookAct .tmg 2 i
    (r (wordOf o 1), b (wordOf o 2), bitOf (wordOf o 0) 26)
  else
    let o := d.lookAct .tmg 3 i
    (r (wordOf o 1), b (wordOf o 2), bitOf (wordOf o 0) 1)

/-- The refill interval in µs (R192). -/
def bktInterval (level : Nat) : Nat := if level = 2 then 4 else if level = 3 then 1 else 8

/-- One refill: new parameters are taken up, the first enable after reset fills the bucket, and otherwise the level
gains RATE × I and is clipped to BURST (R192–R194). -/
def Bkt.refill (b : Bkt) (level : Nat) (rate burst : Nat) (en : Bool) : Bkt :=
  let top : Int := burst * 8000
  let b1 := { b with rate := rate, burst := burst, en := en, started := b.started || en }
  if !en then b1
  else if !b.started then { b1 with level := top }
  else { b1 with level := min top (b.level + rate * bktInterval level) }

def Dev.refill (d : Dev) (level i : Nat) : Dev :=
  let (r, b, e) := d.bktCfg level i
  d.setBkt (bktKey level i) ((d.bkt (bktKey level i)).refill level r b e)

/-- An enabled bucket with RATE 0 blocks its owner (R195). -/
def Bkt.frozen (b : Bkt) : Bool := b.en && b.rate == 0

/-- A bucket lets a frame through: disabled, or at 0 or above (R193). -/
def Bkt.ok (b : Bkt) : Bool := !b.en || decide (0 ≤ b.level)

/-- Charge a frame's bytes; a disabled bucket is not charged. -/
def Bkt.charge (b : Bkt) (bytes : Int) : Bkt := if b.en then { b with level := b.level - bytes * 8000 } else b

def Dev.charge (d : Dev) (level i : Nat) (bytes : Int) : Dev :=
  d.setBkt (bktKey level i) ((d.bkt (bktKey level i)).charge bytes)

/-! ### Egress edit (R214) -/

/-- Parser options in the version that a tag sees (location 5 of the global table). -/
def Dev.parseOpt (d : Dev) (tag : Nat) : ParseOpt :=
  match d.look .pcl 9 5 tag with
  | some w => { tpidX := w.getD 0 0 % 2 ^ 16, vxlanPort := w.getD 0 0 / 2 ^ 16 % 2 ^ 16 }
  | none => {}

/-- The frame has a VLAN tag at offset `i`. -/
def tagAt (o : ParseOpt) (b : List Byte) (i : Nat) : Bool := decide (i + 4 ≤ b.length) && isVlanType o (beAt b i 2)

/-- One's-complement update of an IPv4 header checksum for a changed 16-bit word. -/
def csumUpdate (c old new : Nat) : Nat :=
  let s := (65535 - c % 65536) + (65535 - old % 65536) + new % 65536
  let s := s % 65536 + s / 65536
  let s := s % 65536 + s / 65536
  65535 - s

/-- Rewrite the DSCP of the IP header at offset `i`. -/
def setDscp (b : List Byte) (i : Nat) (v4 : Bool) (dscp : Nat) : List Byte :=
  if v4 then
    let old := beAt b i 2
    let new := old / 256 * 256 + dscp * 4 + old % 4
    let b1 := overwrite b i (beBytes new 2)
    overwrite b1 (i + 10) (beBytes (csumUpdate (beAt b (i + 10) 2) old new) 2)
  else
    let old := beAt b i 2
    overwrite b i (beBytes (setBits old 6 6 dscp) 2)

/-- The edit of a frame: its bytes as they leave, and whether a pop or replace found too few tags (R214). -/
def Dev.edit (d : Dev) (f : Frame) : List Byte × Bool :=
  match f.edit with
  | none => (f.data, false)
  | some e =>
    let (w, v) := d.editCfg e
    let o := d.parseOpt d.actTag
    let b := match f.ipAt with
      | some (i, v4) => if bitOf w 10 then setDscp f.data i v4 (bits w 11 6) else f.data
      | none => f.data
    let sel := bits w 3 2
    let tpid := if sel = 0 then 0x8100 else if sel = 1 then 0x88A8 else if sel = 2 then 0x9100
      else if o.tpidX = 0 then 0x8100 else o.tpidX
    let pcp := if bitOf w 5 then f.cls else bits w 6 3
    let tci := fun vid => beBytes (pcp * 2 ^ 13 + bit (bitOf w 9) * 2 ^ 12 + vid) 2
    let head := b.take 12
    let rest := b.drop 12
    let n1 := tagAt o b 12
    let n2 := n1 && tagAt o b 16
    let op := bits w 0 3
    if op = 1 then (if n1 then (head ++ rest.drop 4, false) else (b, true))
    else if op = 2 then
      (if n2 then (head ++ rest.drop 8, false) else if n1 then (head ++ rest.drop 4, true) else (b, true))
    else if op = 3 then (head ++ beBytes tpid 2 ++ tci (bits v 0 12) ++ rest, false)
    else if op = 4 then (head ++ beBytes tpid 2 ++ tci (bits v 0 12) ++ beBytes 0x8100 2 ++ tci (bits v 12 12) ++ rest, false)
    else if op = 5 then
      (if n1 then (overwrite b 14 (beBytes (setBits (beAt b 14 2) 0 12 (bits v 0 12)) 2), false) else (b, true))
    else if op = 6 then (if n1 then (overwrite b 14 (tci (bits v 0 12)), false) else (b, true))
    else (b, false)

/-- The frame as its edit leaves it. -/
def Dev.editedF (d : Dev) (f : Frame) : Frame := f.edited (d.edit f).1

/-- A push makes the frame longer than 16,000 bytes (R214), also where its last bytes have still to come. -/
def Dev.tooLong (d : Dev) (f : Frame) : Bool := f.edit.isSome && decide (16000 < (d.editedF f).fullLen)

/-- The edit as the frame leaves: its bytes, with EDIT_SHORT counted; none when EDIT_OVERSIZE drops it. -/
def Dev.editOut (d : Dev) (f : Frame) : Dev × Option (List Byte) :=
  let (b, short) := d.edit f
  let d1 := d.iff short (·.bump (Reg.TMG_CNT.COUNT 4))
  if d.tooLong f then (d1.bump (Reg.TMG_CNT.COUNT 5), none) else (d1, some b)

/-- A frame's charge at port node `p`: its length after the edit plus OVH (R193). -/
def Dev.chargeOf (d : Dev) (f : Frame) (p : Nat) : Int :=
  ((d.editedF f).fullLen : Int) + d.ovh p

/-! ### Selection (R197–R200) -/

/-- The round of a service queue: 2 committed, 1 excess, 0 none (R197). -/
def Dev.round (d : Dev) (q : Nat) : Nat :=
  let c := d.bkt (bktKey 0 q)
  let p := d.bkt (bktKey 1 q)
  if c.frozen || p.frozen || !p.ok then 0
  else if c.en && decide (0 ≤ c.level) then 2
  else 1

/-- A candidate of the deficit round-robin: its index, the charge of its next frame, its quantum in bytes, its deficit. -/
structure Cand where
  i : Nat
  need : Int
  quantum : Int
  deficit : Int
  deriving DecidableEq, Repr

/-- The member after `i` in the order of index, wrapping. -/
def nextCand (l : List Cand) (i : Nat) : Option Nat :=
  match l.find? (fun c => decide (i < c.i)) with
  | some c => some c.i
  | none => l.head?.map (·.i)

/-- Deficit round-robin (R200): `turn` is the member whose turn it is. Answers the member chosen, with the deficits as
they then stand (the chosen member's frame already taken off). -/
def drr : Nat → List Cand → Nat → Option (Nat × List Cand)
  | 0, _, _ => none
  | fuel + 1, l, turn =>
    match l.find? (fun c => c.i == turn) with
    | none => none
    | some c =>
      if c.need ≤ c.deficit then
        some (turn, l.map (fun x => if x.i = turn then { x with deficit := x.deficit - c.need } else x))
      else
        match nextCand l turn with
        | none => none
        | some n => drr fuel (l.map (fun x => if x.i = n then { x with deficit := x.deficit + x.quantum } else x)) n

/-- Begin or continue a turn: a member whose turn it is goes on; otherwise the turn goes to the next one (the lowest
where no turn has been taken), which gains its quantum. -/
def drrPick (l : List Cand) (turn : Option Nat) : Option (Nat × List Cand) :=
  let fuel := 300 * (l.length + 1)
  match turn with
  | some t =>
    if l.any (fun c => c.i == t) then drr fuel l t
    else match nextCand l t with
      | none => none
      | some n => drr fuel (l.map (fun x => if x.i = n then { x with deficit := x.deficit + x.quantum } else x)) n
  | none =>
    match l.head? with
    | none => none
    | some c => drr fuel (l.map (fun x => if x.i = c.i then { x with deficit := x.deficit + x.quantum } else x)) c.i

/-- What a port may do with a head frame: send it, not now, or remove it with a count (R225, R234). -/
inductive Verdict where
  | send | wait | remove (ctr : Nat)
  deriving DecidableEq, Repr

/-- The frame chosen at a port node: the queue, its node (none for transit and trap queues), the round. -/
structure Sel where
  q : Nat
  node : Option Nat
  committed : Bool
  f : Frame
  need : Int
  deriving DecidableEq, Repr

/-- The service queues of node `n` that take part: in a round, with a head frame that can go (R197). -/
def Dev.partQueues (d : Dev) (n : Nat) (ok : Frame → Verdict) : List (Nat × Nat × Frame) :=
  (d.busyQueues.filter (fun q => d.nodeOfQueue q == n)).filterMap (fun q =>
    match (d.queue q).ondie with
    | [] => none
    | f :: _ => if d.round q ≠ 0 ∧ ok f = .send then some (q, d.round q, f) else none)

/-- The choice of a subscriber node (R198) for port `p`: the queue, and the deficits of its class. -/
def Dev.nodePick (d : Dev) (n p : Nat) (ok : Frame → Verdict) : Option (Sel × List Cand × Nat) :=
  let b := d.bkt (bktKey 2 n)
  if b.frozen || !b.ok then none
  else
    let all := d.partQueues n ok
    let comm := all.filter (fun e => e.2.1 == 2)
    let round := if comm ≠ [] then comm else all
    let cls := round.foldl (fun a e => max a (qClass (d.queueCfg e.1))) 0
    let mem := round.filter (fun e => qClass (d.queueCfg e.1) == cls)
    let cands := mem.map (fun e =>
      { i := e.1, need := d.chargeOf e.2.2 p, quantum := qQuantum (d.queueCfg e.1) * 64, deficit := (d.queue e.1).deficit : Cand })
    match drrPick cands (d.tm.turnQ.find? (fun e => e.1 == 8 * n + cls) |>.map (·.2)) with
    | none => none
    | some (q, cs) =>
      match mem.find? (fun e => e.1 == q) with
      | none => none
      | some e => some ({ q := q, node := some n, committed := comm ≠ [], f := e.2.2, need := d.chargeOf e.2.2 p }, cs, cls)

/-- Insert into a rising list without repeats. -/
def insertNat (n : Nat) : List Nat → List Nat
  | [] => [n]
  | m :: r => if n < m then n :: m :: r else if n = m then m :: r else m :: insertNat n r

/-- The subscriber nodes with a frame on-die that feed port node `p`, in order of index. -/
def Dev.nodesUnder (d : Dev) (p : Nat) : List Nat :=
  ((d.busyQueues.map d.nodeOfQueue).filter (d.nodeUnder · p)).foldl (fun a n => insertNat n a) []

/-- Put a frame back at the head of its queue (R226, R229); nothing is refunded, and its cells are those it kept. -/
def Dev.requeue (d : Dev) (q : Nat) (f : Frame) : Dev :=
  let x := (d.queue q).giveBack f
  d.setQueue q { x with ondie := { f with home := none } :: x.ondie }

/-- Key of the deficit of node n at port node p: a node of a T-CONT group has one at each member (R200, R213). -/
def defKey (p n : Nat) : Nat := 16384 * p + n

/-- The deficits of node n are set to 0. -/
def Dev.clearDef (d : Dev) (n : Nat) : Dev :=
  { d with tm := { d.tm with nodeDef := d.tm.nodeDef.filter (fun e => e.1 % 16384 != n) } }

/-- Queue q has a frame for its scheduler: on-die, or for an upstream queue in the Siding (R199, R211). -/
def Queue.present (x : Queue) (q : Nat) : Bool := x.ondie != [] || (decide (32768 ≤ q) && x.siding != [])

/-- A member with no frame present has its deficit set to 0 (R200). -/
def Dev.nodeIdle (d : Dev) (n : Nat) : Dev :=
  if d.tm.queues.any (fun e => decide (e.1 < 65536) && e.2.present e.1 && d.nodeOfQueue e.1 == n) then d else d.clearDef n

/-- The node of a service queue, when it is left with no frame. -/
def Dev.queueIdle (d : Dev) (q : Nat) : Dev := if q < 65536 then d.nodeIdle (d.nodeOfQueue q) else d

/-- Take a queue's head frame. -/
def Dev.popQueue (d : Dev) (q : Nat) : Dev :=
  let x := d.queue q
  let r := x.ondie.tail
  (d.setQueue q { x with ondie := r, deficit := if r = [] then 0 else x.deficit }).queueIdle q

/-- Where a queue takes its turns: its node and its class. -/
def Dev.placeQ (d : Dev) (q : Nat) : Nat × Nat := (d.nodeOfQueue q, d.queueCfg q % 8)

/-- Where a subscriber node takes its turns: its parent, with GRP, and its class. -/
def Dev.placeN (d : Dev) (n : Nat) : Nat × Nat := (d.nodeCfg n % 2 ^ 11, bits (d.nodeCfg n) 11 3)

/-- The active generation has changed from that of `o`: a member that enters a class starts with deficit 0 (R200). -/
def Dev.replaced (d o : Dev) : Dev :=
  let d1 := d.each (d.tm.queues.map (·.1)) (fun d q =>
    if q < 65536 ∧ d.placeQ q ≠ o.placeQ q then d.setQueue q { d.queue q with deficit := 0 } else d)
  d1.each (d1.tm.nodeDef.map (fun e => e.1 % 16384)) (fun d n => if d.placeN n ≠ o.placeN n then d.clearDef n else d)

/-- Charge a selected frame once at every level it passes (R196, R197). -/
def Dev.chargeAll (d : Dev) (s : Sel) (p : Nat) : Dev :=
  let d1 := match s.node with
    | none => d
    | some n =>
      let d0 := if s.committed then d.charge 0 s.q s.need else d
      (d0.charge 1 s.q s.need).charge 2 n s.need
  d1.charge 3 p s.need

/-- Heads of the queues that take part at `p` and that the port removes uncharged: too long for the port or for every
gate interval (R225, R234). `count` says what each removal counts. -/
def Dev.purge (d : Dev) (p : Nat) (ok : Frame → Verdict) (count : Dev → Nat → Dev) : Nat → Dev
  | 0 => d
  | fuel + 1 =>
    let qs := transitKeys p ++ d.busyQueues.filter (fun q => d.nodeUnder (d.nodeOfQueue q) p && d.round q != 0)
    match qs.findSome? (fun q =>
      match (d.queue q).ondie with
      | [] => none
      | f :: _ => match ok f with | .remove c => some (q, f, c) | _ => none) with
    | none => d
    | some (q, f, c) => Dev.purge (count ((d.popQueue q).release f) c) p ok count fuel

/-- The selection of a port node (R199), without its effects; the slice's recirculation queue goes ahead (R182, R201). -/
def Dev.select (d : Dev) (p : Nat) (ok : Frame → Verdict) : Option (Sel × Option (List Cand × Nat) × Option (List Cand × Nat)) :=
  let c := d.portCfg p
  let b := d.bkt (bktKey 3 p)
  if !bitOf c 0 || b.frozen || !b.ok || bitOf d.wake.off (sliceOf p) || (d.slice (sliceOf p)).rqOut != [] then none
  else
    let head : Nat → Option Frame := fun q =>
      match (d.queue q).ondie with | [] => none | f :: _ => if ok f = Verdict.send then some f else none
    let plain := fun q f => ({ q := q, node := none, committed := false, f := f, need := d.chargeOf f p } : Sel)
    match (trapKeys p).findSome? (fun q => (head q).map (plain q)) with
    | some s => some (s, none, none)
    | none =>
      let picks := (d.nodesUnder p).filterMap (fun n => (d.nodePick n p ok).map (fun r => (n, r)))
      let tr := (transitKeys p).filterMap (fun q => (head q).map (fun f => (q % 8, f)))
      let top := max ((picks.map (fun e => nClass (d.nodeCfg e.1) + 1)).foldl max 0) ((tr.map (·.1 + 1)).foldl max 0)
      if top = 0 then none
      else
        match tr.find? (fun e => e.1 + 1 == top) with
        | some (k, f) => some (plain (transitKey p k) f, none, none)
        | none =>
          let mem := picks.filter (fun e => nClass (d.nodeCfg e.1) + 1 == top)
          let cands := mem.map (fun e =>
            { i := e.1, need := e.2.1.need, quantum := nQuantum (d.nodeCfg e.1) * 64, deficit := Tbl.get d.tm.nodeDef (defKey p e.1) 0 : Cand })
          match drrPick cands (d.tm.turnN.find? (fun e => e.1 == 8 * p + (top - 1)) |>.map (·.2)) with
          | none => none
          | some (n, ns) =>
            match mem.find? (fun e => e.1 == n) with
            | none => none
            | some (_, s, qs, cls) => some (s, some (qs, 8 * n + cls), some (ns, 8 * p + (top - 1)))

/-- Failed frames at the heads of the queues of port `p` are dropped at dequeue (R153). -/
def Dev.dropFailed (d : Dev) (p : Nat) : Nat → Dev
  | 0 => d
  | fuel + 1 =>
    let qs := trapKeys p ++ transitKeys p ++ d.busyQueues.filter (fun q => d.nodeUnder (d.nodeOfQueue q) p)
    match qs.findSome? (fun q =>
      match (d.queue q).ondie with
      | [] => none
      | f :: _ => if f.failed then some (q, f) else none) with
    | none => d
    | some (q, f) => Dev.dropFailed ((d.popQueue q).release f) p fuel

/-- Selection with its effects: deficits and turns, the charges, the frame off its queue, counted as sent; its cells stay
the queue's. Answers the frame and its queue. -/
def Dev.take (d : Dev) (p : Nat) (ok : Frame → Verdict) : Dev × Option (Frame × Nat) :=
  let d := d.dropFailed p 64
  match d.select p ok with
  | none => (d, none)
  | some (s, qs, ns) =>
    let d1 := match qs with
      | none => d
      | some (cs, key) =>
        let d0 := d.each cs (fun (d : Dev) (c : Cand) => d.setQueue c.i { d.queue c.i with deficit := c.deficit })
        { d0 with tm := { d0.tm with turnQ := Tbl.set d0.tm.turnQ key s.q } }
    let d2 := match ns, s.node with
      | some (cs, key), some n =>
        { d1 with tm := { d1.tm with
            nodeDef := cs.foldl (fun t (c : Cand) => Tbl.set t (defKey p c.i) c.deficit) d1.tm.nodeDef, turnN := Tbl.set d1.tm.turnN key n } }
      | _, _ => d1
    let d3 := (d2.chargeAll s p).popQueue s.q
    let d4 := match s.node with
      | some _ => d3.bump (Reg.TMG_QCNT.COUNT s.q 1)
      | none => d3
    (d4.setQueue s.q ((d4.queue s.q).takeOut s.f), some ({ s.f with home := some s.q }, s.q))

/-! ### Admission (R203, R204, R206, R207) -/

/-- The WRED test between WMIN and WMAX draws from the slice's generator (a free value). -/
def wredFails (a : ℚ) (wmin wmax maxP draw : Nat) : Bool :=
  if a < wmin then false
  else if (wmax : ℚ) ≤ a then true
  else decide (((draw : ℚ) / 2 ^ 32) < (maxP : ℚ) / 256 * (a - wmin) / ((wmax : ℚ) - wmin))

/-- The counters of a queue's drops: DROP_MAX 2 to DROP_SIDING 5; a transit queue has one counter for all. -/
def dropFld (q c : Nat) : Fld :=
  if q < 65536 then Reg.TMG_QCNT.COUNT q c else Reg.TMG_TQCNT.COUNT ((q - 65536) / 8) ((q - 65536) % 8) 1

def enqFld (q : Nat) : Fld :=
  if q < 65536 then Reg.TMG_QCNT.COUNT q 0 else Reg.TMG_TQCNT.COUNT ((q - 65536) / 8) ((q - 65536) % 8) 0

/-- The admission profile of a queue: transit queues use 15 (R203). -/
def Dev.profOf (d : Dev) (q : Nat) : Nat := if q < 65536 then bits (d.queueCfg q) 15 4 else 15

/-- WRED_EN and the test of R204 for a frame that would be admitted: the device with its draw used, and the verdict. -/
def Dev.wred (d : Dev) (q : Nat) (f : Frame) : Dev × Bool :=
  let a := d.profOf q
  if bitOf (d.admCfg a 0) 16 then
    (d.freed, wredFails (d.queue q).avg (cellsOf (d.admCfg a (6 + 2 * f.colour))) (cellsOf (d.admCfg a (7 + 2 * f.colour)))
      (bits (d.admCfg a (7 + 2 * f.colour)) 19 8) (d.freeVal 32))
  else (d, false)

/-- The frame joins the on-die part of its queue from a pool, and the queue may enter SPILL (R206). -/
def Dev.enqueueOnDie (d : Dev) (q : Nat) (f : Frame) (p : Pool) : Dev :=
  let (d1, f1) := d.hold f p
  let x := d1.queue q
  let on := x.ondie ++ [f1]
  let sc := cellsOf (d.admCfg (d.profOf q) 3)
  let spill := decide (q < 65536) && bitOf (d.queueCfg q) 21 && d.sidingUp && decide (sc ≠ 0) && decide (sc ≤ cellsIn on + x.out)
  (d1.setQueue q { x with ondie := on, spill := x.spill || spill }).bump (enqFld q)

/-- The offer of a frame to a queue that spills (R207). -/
def Dev.offerSpill (d : Dev) (q : Nat) (f : Frame) : Dev :=
  let n := cellsFor f.fullLen
  let x := d.queue q
  let smax := d.admCfg (d.profOf q) 5 % 2 ^ 27
  let noStage := decide (8192 < d.tm.stagingUsed + n)
  let noSide := decide (d.tm.sidingSize < d.tm.sidingUsed + n)
  if smax < cellsIn x.siding + n || noStage || noSide then
    ((d.iff noStage (·.ev Reg.TMG_EVT.STAGING_FULL)).iff noSide (·.ev Reg.TMG_EVT.SIDING_FULL)).bump (dropFld q 5)
  else
    let (d1, fails) := d.wred q f
    if fails then d1.bump (dropFld q 4)
    else
      let (d2, f1) := d1.hold f .siding
      (d2.setQueue q { x with siding := x.siding ++ [f1] }).bump (enqFld q)

/-- The offer of a frame to a queue (R203 to R207): the WRED average is updated first, whatever becomes of the frame. A queue
in SPILL is admitted on-die while the Siding cannot be used (R205). -/
def Dev.offer (d0 : Dev) (q : Nat) (f : Frame) : Dev :=
  let a := d0.profOf q
  let x := d0.queue q
  let w0 := d0.admCfg a 0
  let o : ℚ := (x.cells + cellsIn x.siding : Nat)
  let d := d0.setQueue q { x with avg := x.avg + (o - x.avg) / 2 ^ bits w0 12 4 }
  if x.spill && d.sidingUp then d.offerSpill q f
  else
    let n := cellsFor f.fullLen
    let on := x.cells
    let sh := x.shared
    if cellsOf (d.admCfg a 2) < on + n then d.bump (dropFld q 2)
    else if on + n ≤ cellsOf (d.admCfg a 1) ∧ n ≤ d.guarFree then d.enqueueOnDie q f .guar
    else
      let free := d.sharedFree
      let t := free * 2 ^ min 9 (bits w0 0 4) / 64
      let t := if f.colour = 1 then t / 2 ^ bits w0 4 4 else if f.colour = 2 then t / 2 ^ bits w0 8 4 else t
      if sh + n ≤ t ∧ n ≤ free then
        let (d1, fails) := d.wred q f
        if fails then d1.bump (dropFld q 4) else d1.enqueueOnDie q f .shared
      else d.bump (dropFld q 3)

/-- A trap or copy frame enters the trap queue of its slice's host port (R191). -/
def Dev.offerTrap (d : Dev) (f : Frame) : Dev :=
  let q := trapKey f.slice
  if cellsFor f.fullLen ≤ d.sharedFree then
    let (d1, f1) := d.hold f .shared
    let x := d1.queue q
    d1.setQueue q { x with ondie := x.ondie ++ [f1] }
  else d.bump (Reg.TMG_CNT.COUNT 3)

/-! ### Enqueue (R188, R189) -/

/-- A frame of a transit flow (R189). -/
def Dev.enqueueTransit (d : Dev) (f : Frame) (w0 w1 : Nat) : Dev :=
  let cls := f.tc.getD 0
  let drop := fun (d : Dev) => d.bump (Reg.TMG_CNT.COUNT 2)
  let go := fun (p : Nat) => d.offer (transitKey p cls) { f with cls := cls }
  if f.srcKind = 1 then
    if f.encapId / 512 % 32 = d.devAddr then
      let p := f.encapId % 512
      if p < 456 ∧ d.portHere p then go p else drop d
    else
      match d.riserToward (f.encapId / 512 % 32) with
      | some r => if d.rpHere r then
          d.offer (transitKey (448 + r) cls) { f with cls := cls, dest := f.encapId } else drop d
      | none => (drop d).bump (Reg.RP_LINK_CNT.COUNT f.encapCh 13)
  else
    let r := d.riserActive (bits w0 17 2)
    if d.rpHere r then d.offer (transitKey (448 + r) cls) { f with cls := cls, dest := w1 % 2 ^ 14 } else drop d

/-- Offer a frame to its flow's queue in a direction, with the words of its flow entry; its class is the resolved TC or the
queue's CLASS (R188). DEST, XGEM_PORT and KEY_IDX go with the frame (R190, R214, R215). -/
def Dev.offerFlow (d : Dev) (f : Frame) (flow : Nat) (up : Bool) (o : Option (List Nat)) : Dev :=
  let q := if up then 32768 + flow else flow
  d.offer q { f with cls := f.tc.getD (qClass (d.queueCfg q)), dest := if up then f.dest else wordOf o 1 % 2 ^ 14
                     usPort := wordOf o 2 % 2 ^ 16, usKey := bits (wordOf o 2) 16 2 }

/-- A forwarded frame reads its flow entry, chooses its direction or its transit queue, and is offered to admission;
`sub` is the resolved SUB group (R188, R189, R215). -/
def Dev.enqueue (d : Dev) (f : Frame) (flow : Nat) (sub : Option Nat) : Dev :=
  let o := d.flowCfg flow f.tag
  let w0 := wordOf o 0
  if bitOf w0 16 then d.enqueueTransit f w0 (wordOf o 1)
  else
    let up := if f.srcKind = 3 then false else if f.srcKind = 2 then bitOf w0 15 else true
    let en := if up then bitOf w0 14 else bitOf w0 13
    if !en || (up && !d.coachHere) then d.bump (Reg.TMG_CNT.COUNT 0)
    else
      match sub with
      | some s => if s ≠ w0 % 2 ^ 13 then d.bump (Reg.TMG_CNT.COUNT 1) else d.offerFlow f flow up o
      | none => d.offerFlow f flow up o

/-! ### Siding (R208–R210) -/

/-- A queue's Siding part changed: when it is empty the queue returns to on-die operation (R206). -/
def Dev.setSiding (d : Dev) (q : Nat) (l : List Frame) : Dev :=
  let x := d.queue q
  d.setQueue q { x with siding := l, spill := x.spill && l != [] }

/-- Move the oldest Siding frames, read on port 2 of the DRAM controller, of a downstream queue behind its on-die frames while its on-die cells are below
RETURN_CELLS and the shared pool holds 1,024 free cells (R208). -/
def Dev.sidingReturn (d : Dev) (q : Nat) : Nat → Dev
  | 0 => d
  | fuel + 1 =>
    let x := d.queue q
    match x.siding with
    | [] => d
    | f :: r =>
      if q < 32768 ∧ x.spill ∧ x.cells < cellsOf (d.admCfg (d.profOf q) 4) ∧ 1024 ≤ d.sharedFree then
        let d0 := d.each f.cellsAt (fun d i => d.dmcAsk 2 (d.sidingAddr i) 256 none 0)
        let (d1, f1) := (d0.release f).hold f .shared
        Dev.sidingReturn ((d1.setQueue q { d1.queue q with ondie := (d1.queue q).ondie ++ [f1] }).setSiding q r) q fuel
      else d

/-- Drop a list of frames, each freeing its cells and counted. -/
def Dev.dropAll (d : Dev) (l : List Frame) (ctr : Fld) : Dev := d.each l (fun d f => (d.release f).bump ctr)

/-- An uncorrectable Siding read drops the `n` oldest Siding frames of the queue, those with a byte in the cell (R209). -/
def Dev.sidingFail (d : Dev) (q n : Nat) : Dev :=
  let x := d.queue q
  let bad := x.siding.take n
  let d0 := (d.dropAll bad (Reg.TMG_QCNT.COUNT q 6)).setSiding q (x.siding.drop n)
  let d1 := if (d0.queue q).present q then d0 else (d0.setQueue q { d0.queue q with deficit := 0 }).queueIdle q
  (d1.bumpBy (Reg.TMG_CNT.COUNT 6) bad.length).iff (bad != []) (·.ev Reg.TMG_EVT.SIDING_ECC)

/-- QUEUE_FLUSH (R210). -/
def Dev.flush (d : Dev) (q : Nat) : Dev :=
  let x := d.queue q
  ((d.dropAll (x.ondie ++ x.siding) (Reg.TMG_QCNT.COUNT q 7)).setQueue q
    { x with ondie := [], siding := [], spill := false, deficit := 0 }).queueIdle q

/-! ### T-CONT occupancy (R212, R213) -/

/-- What waits on some queues: bytes on-die, bytes in the Siding, frames. -/
def waitOf (l : List Queue) : Occ :=
  { ondie := (l.map (fun x => bytesIn x.ondie)).sum, siding := (l.map (fun x => bytesIn x.siding)).sum
    frames := (l.map (fun x => x.ondie.length + x.siding.length)).sum }

/-- The service queues below a node that `p` accepts. -/
def Dev.queuesOf (d : Dev) (p : Nat → Bool) : List Queue :=
  (d.tm.queues.filter (fun e => decide (e.1 < 65536) && p (d.nodeOfQueue e.1))).map (·.2)

/-- An upstream subscriber node feeds T-CONT group g. -/
def Dev.nodeInGroup (d : Dev) (g n : Nat) : Bool :=
  decide (8192 ≤ n) && bitOf (d.nodeCfg n) 10 && d.nodeCfg n % 256 == g

/-- The channels in O5 on which group g has a member (R213). -/
def Dev.groupChans (d : Dev) (g : Nat) : List Nat :=
  (List.range 4).filter (fun ch => (d.groupMember g ch).isSome && d.inO5 ch)

/-- The groups in which T-CONT t is the member of a channel in O5. -/
def Dev.groupsOf (d : Dev) (t : Nat) : List Nat :=
  (List.range 256).filter (fun g => (d.groupChans g).any (fun ch => d.groupMember g ch == some t))

/-- The counts of a T-CONT now: what waits on the queues of its own nodes, and its part of what waits for each group,
rounded up (R212, R213). -/
def Dev.tcontNow (d : Dev) (t : Nat) : Occ :=
  let own := waitOf (d.queuesOf (fun n => d.nodeUnder n (512 + t) && !(decide (8192 ≤ n) && bitOf (d.nodeCfg n) 10)))
  (d.groupsOf t).foldl (fun o g =>
    let w := waitOf (d.queuesOf (d.nodeInGroup g))
    let k := (d.groupChans g).length
    { ondie := o.ondie + cdiv w.ondie k, siding := o.siding + cdiv w.siding k, frames := o.frames + cdiv w.frames k }) own

end Sys2Proof.Machine
end

