-- ==== Sys2Proof/Machine/Mac.lean ====
section
/-!
DEFINITION. Subscriber lanes and MACs (spec/08, and of spec/10 what concerns subscriber lanes): lane modes and link,
flow control, the gates, reception and transmission.
-/
namespace Sys2Proof.Machine

/-! ### Modes, link and rate (R218–R221, R267, R268) -/

def Dev.laneMode (d : Dev) (n : Nat) : Nat := d.fld (Reg.SM_LANE_CTRL.MODE n)

/-- Port j is present in the mode (R218). -/
def portIn (mode j : Nat) : Bool := if mode = 0 then false else if mode = 5 then decide (j < 4) else j == 0

/-- SPEED code of a rate in Mbit/s; 7 for none. -/
def speedCode (mbps : Nat) : Nat :=
  if mbps = 1000 then 0 else if mbps = 2500 then 1 else if mbps = 5000 then 2 else if mbps = 10000 then 3
  else if mbps = 25000 then 4 else 7

/-- Time of one byte in ps at a SPEED code. -/
def bytePs (code : Nat) : Nat :=
  if code = 0 then 8000 else if code = 1 then 3200 else if code = 2 then 1600 else if code = 3 then 800
  else if code = 4 then 320 else 0

/-- R218 lists this in-band rate for the mode (R219). -/
def inbandOk (mode mbps : Nat) : Bool :=
  if mode = 4 then mbps == 10000 || mbps == 5000 || mbps == 2500 || mbps == 1000
  else if mode = 5 then mbps == 2500 || mbps == 1000 else false

/-- The port's rate in Mbit/s from its mode or its in-band word; 0 for none. -/
def Dev.portMbps (d : Dev) (n j : Nat) : Nat :=
  let m := d.laneMode n
  if m = 1 ∨ m = 2 then 25000 else if m = 3 then 10000 else if m = 6 then 2500 else if m = 7 then 1000
  else if m = 4 ∨ m = 5 then (match (d.mac (4 * n + j)).inband with | some r => if inbandOk m r then r else 0 | none => 0)
  else 0

/-- A lane whose receiver sleeps keeps reporting link while the partner signals low-power idle (R267). -/
def Dev.keepsLink (d : Dev) (n : Nat) : Bool :=
  d.on (Reg.SL_STAT.RX_ASLEEP n) && d.on (Reg.SM_PORT_STAT.LPI_RX n 0) && d.on (Reg.SM_PORT_STAT.LINK n 0)

/-- The lane's own link condition (R267), the in-band word aside. -/
def Dev.laneLink (d : Dev) (n : Nat) : Bool :=
  let m := d.laneMode n
  d.fld (Reg.SL_PAT_CTRL.TX_PAT n) == 0 && d.fld (Reg.SL_PAT_CTRL.RX_PAT n) == 0 &&
  (d.keepsLink n || (d.on (Reg.SL_STAT.SYNC n) &&
    (decide (3 < m) || !d.on (Reg.SL_STAT.HI_BER n)) && (m != 2 || (d.lane n).fecLock)))

/-- The condition of R221 for port j of lane n. -/
def Dev.portShouldUp (d : Dev) (n j : Nat) : Bool :=
  let m := d.laneMode n
  d.slHere n && d.on (Reg.SM_LANE_CTRL.LANE_EN n) && portIn m j && d.laneLink n && decide (d.portMbps n j ≠ 0)

/-- The port is up (R221). -/
def Dev.portUp (d : Dev) (n j : Nat) : Bool := d.on (Reg.SM_PORT_STAT.LINK n j)

/-- Receive and transmit latency of the mode in units of 100 ps (R268). -/
def phyLat (mode : Nat) : Nat × Nat :=
  if mode = 1 then (128, 96) else if mode = 2 then (1536, 640) else if mode = 3 ∨ mode = 4 then (256, 192)
  else if mode = 5 then (320, 256) else if mode = 6 then (640, 512) else if mode = 7 then (1600, 1280) else (0, 0)

/-- The coding of a lane mode, 64b/66b or 8b/10b, and its signalling rate in kBd (R264). -/
def modeCoding (mode : Nat) : Coding := if mode = 6 ∨ mode = 7 then .b8b10 else .b64b66
def modeBaud (mode : Nat) : Nat :=
  if mode = 1 ∨ mode = 2 then 25781250 else if mode = 6 then 3125000 else if mode = 7 then 1250000 else 10312500

/-- Bytes of what the elastic store deletes or inserts: an idle block, or an /I2/ ordered set (R266). -/
def Coding.idleBytes : Coding → Nat
  | .b64b66 => 8
  | .b8b10 => 2

/-- One unit interval at the mode's signalling rate (R264). -/
def modeUi (mode : Nat) : Int :=
  if mode = 1 ∨ mode = 2 then psU * 1280 / 33 else if mode = 6 then 320 * psU else if mode = 7 then 800 * psU
  else psU * 3200 / 33

/-- Counter c of port j (R238). -/
def Dev.smCount (d : Dev) (n j c k : Nat) : Dev := d.bumpWide (Reg.SM_CNT_LO.COUNT n j c) (Reg.SM_CNT_HI.COUNT n j c) 48 k
def Dev.smCnt (d : Dev) (n j c : Nat) : Dev := d.smCount n j c 1

/-- A local port's lane and port within it. -/
def laneOf (p : Nat) : Nat := p / 4
def portOf (p : Nat) : Nat := p % 4

/-! ### Sending MAC control frames and flow control (R228–R230) -/

/-- SM.MAC_ADDR of a port. -/
def Dev.macAddr (d : Dev) (n j : Nat) : Nat := d.wide (Reg.SM_MAC_ADDR_LO.ADDR n j) (Reg.SM_MAC_ADDR_HI.ADDR n j)

def ctlAddr : Nat := 0x0180C2000001

/-- A PAUSE frame, padded, without its FCS (IEEE 802.3 Annex 31B). -/
def pauseFrame (sa quanta : Nat) : List Byte :=
  padTo 60 (beBytes ctlAddr 6 ++ beBytes sa 6 ++ beBytes 0x8808 2 ++ beBytes 0x0001 2 ++ beBytes quanta 2)

/-- A PFC frame for the priorities of `mask` (IEEE 802.1Qbb); priority p carries `q p`. -/
def pfcFrame (sa mask : Nat) (q : Nat → Nat) : List Byte :=
  padTo 60 (beBytes ctlAddr 6 ++ beBytes sa 6 ++ beBytes 0x8808 2 ++ beBytes 0x0101 2 ++ beBytes mask 2 ++
    (List.range 8).flatMap (fun p => beBytes (if bitOf mask p then q p else 0) 2))

/-- The MAC begins a transmission: preamble, frame, FCS and gap fix when the next may start (R224). -/
def Dev.txBegin (d : Dev) (p : Nat) (t : TxFrame) : Dev :=
  let ps := bytePs (d.fld (Reg.SM_PORT_STAT.SPEED (laneOf p) (portOf p)))
  let len := max 60 (max t.data.length (t.f.total - 4)) + 4
  d.setMac p { d.mac p with tx := some { t with gateFrom := t.start }, free := t.start + (8 + len + 12) * ps }

/-- The next control frame that is due goes out ahead of any data frame, once the transmitter is awake (R230, R280). -/
def Dev.nextCtl (d : Dev) (p : Nat) : Dev :=
  let m := d.mac p
  if d.on (Reg.SL_STAT.TX_ASLEEP (laneOf p)) then d
  else
    match m.due, m.tx with
    | b :: r, none => (d.setMac p { m with due := r }).txBegin p { data := b, start := max d.nowPs m.free, ctl := true }
    | _, _ => d

/-- A control frame is sent after the frame in transmission and ahead of any data frame; it ends low-power idle (R230, R237).
A port that is down sends none. -/
def Dev.sendCtl (d : Dev) (p : Nat) (b : List Byte) : Dev :=
  if d.portUp (laneOf p) (portOf p) then
    ((d.setMac p { d.mac p with due := (d.mac p).due ++ [b] }).clr (Reg.SM_PORT_STAT.LPI_TX (laneOf p) (portOf p))).nextCtl p
  else d

/-- A frame's priority for PFC: the PCP of its outer tag, or UNTAGGED_PRI (R230). -/
def Dev.framePri (d : Dev) (n j : Nat) (f : Frame) : Nat :=
  if tagAt (d.parseOpt d.actTag) f.data 12 then byteAt f.data 14 / 32 else d.fld (Reg.SM_FC_THRESH.UNTAGGED_PRI n j)

/-- The bytes of an input buffer that a watched count covers: index 8 all of them, index p those of priority p. -/
def Dev.watched (d : Dev) (p i : Nat) : Nat :=
  let l := d.buf p
  bytesIn (if i = 8 then l else l.filter (fun f => d.framePri (laneOf p) (portOf p) f == i))

def Dev.fcMode (d : Dev) (n j : Nat) : Nat := d.fld (Reg.SM_PORT_CTRL.FC_MODE n j)

/-- XOFF, and XON, which at or above XOFF acts as XOFF − 256 (R230). -/
def Dev.xoff (d : Dev) (n j : Nat) : Nat := d.fld (Reg.SM_FC_THRESH.XOFF n j)
def Dev.xon (d : Dev) (n j : Nat) : Nat :=
  let x := d.fld (Reg.SM_FC_THRESH.XON n j)
  if d.xoff n j ≤ x then d.xoff n j - 256 else x

/-- The watched counts of the port's FC_MODE. -/
def Dev.fcWatched (d : Dev) (n j : Nat) : List Nat :=
  if d.fcMode n j = 1 then [8] else if d.fcMode n j = 2 then members (d.fld (Reg.SM_FC_CTRL.PFC_TX_EN n j)) 8 else []

/-- Send what the watched counts ask for: `up` and `down` are the counts that rose above XOFF (or are to be refreshed)
and that fell to XON. -/
def Dev.fcSend (d : Dev) (p : Nat) (up down : List Nat) : Dev :=
  let n := laneOf p
  let j := portOf p
  let q := d.fld (Reg.SM_FC_CTRL.TX_QUANTA n j)
  if d.fcMode n j = 1 then
    if up ≠ [] then d.sendCtl p (pauseFrame (d.macAddr n j) q)
    else if down ≠ [] then d.sendCtl p (pauseFrame (d.macAddr n j) 0) else d
  else if up ≠ [] ∨ down ≠ [] then
    d.sendCtl p (pfcFrame (d.macAddr n j) (((up ++ down).map (2 ^ ·)).sum) (fun i => if i ∈ up then q else 0))
  else d

/-- REFRESH quanta of 512 bit times at the port's rate, in ps; 0 acts as 1 (R230). -/
def Dev.refreshPs (d : Dev) (p : Nat) : Nat :=
  max 1 (d.fld (Reg.SM_FC_REFRESH.REFRESH (laneOf p) (portOf p))) * 64 *
    bytePs (d.fld (Reg.SM_PORT_STAT.SPEED (laneOf p) (portOf p)))

/-- The frames of these watched counts, sent at these times, fall due again REFRESH quanta later. -/
def Dev.refreshFrom (d : Dev) (p : Nat) (l : List (Nat × Nat)) : Dev :=
  let m := d.mac p
  d.setMac p { m with refresh := l.foldl (fun t x => Tbl.set t x.1 (x.2 + d.refreshPs p)) m.refresh }

/-- The watched counts above XON whose frame is due again are sent again; those due in one cycle share a PFC frame (R230). -/
def Dev.fcRefresh (d : Dev) (p : Nat) : Dev :=
  let m := d.mac p
  let l := (d.fcWatched (laneOf p) (portOf p)).filterMap (fun i =>
    let t := Tbl.get m.refresh i d.nowPs
    if bitOf m.above i && decide (t ≤ d.nowPs) then some (i, t) else none)
  if l = [] then d else (d.refreshFrom p l).fcSend p (l.map (·.1)) []

/-- The input buffer changed: XOFF and XON crossings (R230). -/
def Dev.fcUpdate (d : Dev) (p : Nat) : Dev :=
  if 448 ≤ p then d
  else
    let n := laneOf p
    let j := portOf p
    let m := d.mac p
    let w := d.fcWatched n j
    let up := w.filter (fun i => !bitOf m.above i && decide (d.xoff n j < d.watched p i))
    let down := w.filter (fun i => bitOf m.above i && decide (d.watched p i ≤ d.xon n j))
    let above := (up.map (2 ^ ·)).sum + m.above - (down.map (2 ^ ·)).sum
    ((d.setMac p { m with above := above, refresh := m.refresh.filter (fun x => !down.contains x.1) }).refreshFrom p
      (up.map (fun i => (i, d.nowPs)))).fcSend p up down

/-! ### Input buffers (R29) -/

/-- A frame arrives at the input buffer of its local port: a full buffer drops it. A buffer is full for a frame when it would
hold more than 16,384 bytes with the frame's whole length, also where a riser frame enters before all of it has come: the
model's choice (notes/assumptions/51.md). A slice whose gate is set drops what it is offered (R401). -/
def Dev.arrive (d : Dev) (f : Frame) : Dev :=
  let p := f.localIn
  if bitOf (d.fld Reg.PWR_GATE.SLICE) (sliceOf p) ∨ 16384 < bytesIn (d.buf p) + f.fullLen then d.bump (Reg.PCL_SLICE_IN_DROP.COUNT (sliceOf p))
  else (d.setBuf p (d.buf p ++ [f])).fcUpdate p

/-! ### Gates (R231–R234, R239, R240) -/

/-- The active schedule of a port, word `i`. -/
def Dev.sched (d : Dev) (p i : Nat) : Nat := wordOf (d.lookAct .tt 1 p) i
def Dev.ttEn (d : Dev) (p : Nat) : Bool := bitOf (d.sched p 0) 25
/-- CYCLE, with its limits, and BASE. -/
def Dev.ttCycle (d : Dev) (p : Nat) : Nat := min 1000000000 (max 1000 (d.sched p 1 % 2 ^ 30))
def Dev.ttBase (d : Dev) (p : Nat) : Int :=
  ((d.sched p 2 + 2 ^ 32 * (d.sched p 3 % 2 ^ 16) : Nat) : Int) * secU +
    ((min 999999999 (d.sched p 4 % 2 ^ 30) : Nat) : Int) * nsU

/-- A pool entry: its gates and its interval; an empty one acts as GATES 0xFF, INTERVAL 1 (R239). -/
def Dev.ttEntry (d : Dev) (i : Nat) : Nat × Nat :=
  match d.lookAct .tt 0 i with
  | some w => (w.getD 0 0 % 256, max 1 (w.getD 0 0 / 256 % 2 ^ 24))
  | none => (0xFF, 1)

/-- The list of a port from an offset on, as segments (start, end, gates) of the cycle: cut at its end, the last state
held to it (R232). -/
def segments (cycle : Nat) : Nat → List (Nat × Nat) → List (Nat × Nat × Nat)
  | _, [] => []
  | at_, [(g, _)] => if at_ < cycle then [(at_, cycle, g)] else []
  | at_, (g, i) :: r =>
    if cycle ≤ at_ then []
    else if cycle ≤ at_ + i then [(at_, cycle, g)]
    else (at_, at_ + i, g) :: segments cycle (at_ + i) r

def Dev.ttSegs (d : Dev) (p : Nat) : List (Nat × Nat × Nat) :=
  segments (d.ttCycle p) 0 ((List.range (bits (d.sched p 0) 14 11)).map (fun i => d.ttEntry (d.sched p 0 % 2 ^ 14 + i)))

/-- Position in the cycle at time `t`, in units of 2⁻⁴⁸ ps. -/
def Dev.ttPos (d : Dev) (p : Nat) (t : Int) : Int := (t - d.ttBase p) % (d.ttCycle p * nsU)

/-- The gate states of a port at a time (R232). -/
def Dev.gatesAt (d : Dev) (p : Nat) (t : Int) : Nat :=
  if !d.ttEn p then 0xFF
  else
    let pos := d.ttPos p t
    match (d.ttSegs p).find? (fun s => decide (s.1 * nsU ≤ pos) && decide (pos < s.2.1 * nsU)) with
    | some s => s.2.2
    | none => 0xFF

/-- Gate k is open from `t` for `dur` without break (R233). -/
def Dev.gateOpenFor (d : Dev) (p k : Nat) (t dur : Int) : Bool :=
  if !d.ttEn p then true
  else
    let segs := d.ttSegs p
    let c := d.ttCycle p
    let shut := segs.filter (fun s => !bitOf s.2.2 k)
    if shut = [] then true
    else
      let pos := d.ttPos p t
      let shut2 := shut ++ shut.map (fun s => (s.1 + c, s.2.1 + c, s.2.2))
      decide (dur ≤ c * nsU) && shut2.all (fun s => decide (s.2.1 * nsU ≤ pos) || decide (pos + dur ≤ s.1 * nsU))

/-- Gate k was open without break over the counter times from `s` (in ps) to now, T being read over each stretch as it then
was: a step of the time base moves the position at once (R232). -/
def Dev.openSince (d : Dev) (p k s : Nat) : Bool :=
  let now : TimeView := { upto := d.tim.ctr, off := d.tim.off, rate := d.rateEff }
  ((d.tim.hist.reverse ++ [now]).foldl (fun (a : Nat × Bool) v =>
    let e := 800 * v.upto
    if e ≤ a.1 then a else (e, a.2 && d.gateOpenFor p k (v.at_ a.1) (v.at_ e - v.at_ a.1))) (s, true)).2

/-- The frame in transmission on the port has had its gate shut at some time since it was last watched. -/
def Dev.gateShut (d : Dev) (p : Nat) (t : TxFrame) : Bool := t.shut || !d.openSince p t.f.cls t.gateFrom

/-- The active schedule is about to change: each frame in transmission keeps what the old one did to its gate (R232). -/
def Dev.gatesMark (d : Dev) : Dev :=
  { d with macs := d.macs.map (fun x => (x.1, match x.2.tx with
    | some t => if t.ctl then x.2 else { x.2 with tx := some { t with shut := d.gateShut x.1 t, gateFrom := max t.gateFrom d.nowPs } }
    | none => x.2)) }

/-- The longest open interval of gate k in ns, or none when it is open for the whole cycle (R234). -/
def Dev.longestOpen (d : Dev) (p k : Nat) : Option Nat :=
  let segs := d.ttSegs p
  if segs.all (fun s => bitOf s.2.2 k) then none
  else
    let two := segs ++ segs
    some (two.foldl (fun (a : Nat × Nat) s =>
      let run := if bitOf s.2.2 k then a.1 + (s.2.1 - s.1) else 0
      (run, max a.2 run)) (0, 0)).2

/-- Sending time of a frame of `len` bytes at the port's rate, in ps (R233). -/
def Dev.sendPs (d : Dev) (p len : Nat) : Nat := (len + 8) * bytePs (d.fld (Reg.SM_PORT_STAT.SPEED (laneOf p) (portOf p)))

/-! ### What a port may send (R225, R229, R233, R234) -/

def Dev.maxFrame (d : Dev) (n j : Nat) : Nat := min 16000 (max 64 (d.fld (Reg.SM_PORT_CTRL.MAX_FRAME n j)))

/-- The length of a frame as it will be sent: edited, padded, with its FCS. -/
def Dev.sentLen (d : Dev) (f : Frame) : Nat := max 64 ((d.editedF f).fullLen + f.pad)

/-- Class k is paused at counter time `s` (ps) by a timer that still runs then: the PAUSE timer pauses every class, that of a
priority its own (R229). -/
def Dev.pausedAt (d : Dev) (p k s : Nat) : Bool :=
  [8, k].any (fun i => decide (s < Tbl.get (d.mac p).pause i 0))

/-- The pause and gate tests on a frame for a start at counter time `s` (ps). -/
def Dev.mayStart (d : Dev) (p s : Nat) (f : Frame) : Bool :=
  !d.pausedAt p f.cls s &&
    d.gateOpenFor p f.cls (d.timeAt s) (d.timeAt (s + d.sendPs p (d.sentLen f)) - d.timeAt s)

/-- The tests on a head frame for a start at counter time `s` (ps). A frame that its edit drops (R214) is not also too long
for the port (notes/assumptions/47.md). -/
def Dev.portTest (d : Dev) (p : Nat) (s : Nat) (f : Frame) : Verdict :=
  let n := laneOf p
  let j := portOf p
  let len := d.sentLen f
  if d.maxFrame n j < len && !d.tooLong f then .remove 20
  else if d.ttEn p && (match d.longestOpen p f.cls with | some l => decide (l * 1000 < d.sendPs p len) | none => false) then .remove 21
  else if d.mayStart p s f then .send
  else .wait

/-- A removal counts, and TOO_LONG sets its event (R225, R234). -/
def Dev.portRemoved (p : Nat) (d : Dev) (c : Nat) : Dev :=
  (d.smCnt (laneOf p) (portOf p) c).iff (c == 21) (·.ev (Reg.SM_PORT_EVT.TOO_LONG (laneOf p) (portOf p)))

/-! ### Ending a frame (R220, R221, R224, R227) -/

/-- Count a good frame in the frame, byte and cast counters, the first of which is `c`. -/
def Dev.castCount (d : Dev) (n j c : Nat) (b : List Byte) : Dev :=
  let cast := if beAt b 0 6 = 0xFFFFFFFFFFFF then 4 else if byteAt b 0 % 2 = 1 then 3 else 2
  ((d.smCnt n j c).smCount n j (c + 1) (b.length + 4)).smCnt n j (c + cast)

/-- The bytes of a stomped frame whose transmission stands at byte `k`: those held and zero bytes to the next multiple of 8 and
to at least 60, and the FCS of the bytes sent with every bit inverted (R227). -/
def stompBytes (b : List Byte) (k : Nat) : List Byte :=
  let n := max 60 (8 * cdiv k 8)
  let x := padTo n (b.take n)
  x ++ (fcs x).map (fun y => ~~~ y)

/-- Bytes of a frame in transmission that have left by now, counted from the first destination MAC byte. -/
def Dev.sentSoFar (d : Dev) (p : Nat) (t : TxFrame) : Nat :=
  min t.data.length ((d.nowPs - t.start) / bytePs (d.fld (Reg.SM_PORT_STAT.SPEED (laneOf p) (portOf p))) - 8)

/-- What is left of a frame in transmission goes out, unless its lane has gone to sleep under it. -/
def Dev.txOut (d : Dev) (p : Nat) (t : TxFrame) (b : List Byte) (ok : Bool) : Dev := d.iff (!t.cut) (·.emit (.portTx p b ok))

/-- The lane of port p goes to sleep: a frame in transmission leaves cut where it stands. Its MAC ends it in its time and
counts it as it counts any other (notes/assumptions/47.md). -/
def Dev.txAsleep (d : Dev) (p : Nat) : Dev :=
  let m := d.mac p
  match m.tx with
  | none => d
  | some t => (d.txOut p t (t.data.take (d.sentSoFar p t)) false).setMac p { m with tx := some { t with cut := true } }

/-- End the frame in transmission, which stands at byte `k`, with a stomp, counted in `c`; its inter-frame gap follows. -/
def Dev.stompAt (d : Dev) (p c k : Nat) : Dev :=
  let m := d.mac p
  match m.tx with
  | none => d
  | some t =>
    let b := stompBytes t.data k
    let ps := bytePs (d.fld (Reg.SM_PORT_STAT.SPEED (laneOf p) (portOf p)))
    ((d.setMac p { m with tx := none, free := t.start + (8 + b.length + 12) * ps }).txOut p t b false).smCnt
      (laneOf p) (portOf p) c

/-- End the frame in transmission where it stands now. -/
def Dev.stomp (d : Dev) (p c : Nat) : Dev :=
  match (d.mac p).tx with
  | none => d
  | some t => d.stompAt p c (d.sentSoFar p t)

/-- A frame in transmission when the link goes down is cut off (R221). -/
def Dev.cutTx (d : Dev) (p : Nat) : Dev :=
  let m := d.mac p
  match m.tx with
  | none => d
  | some t => ((d.setMac p { m with tx := none }).txOut p t (t.data.take (d.sentSoFar p t)) false).smCnt (laneOf p) (portOf p) 19

/-- A frame selected but not started goes with those of its queue when the port goes down (R221). -/
def Dev.dropWaiting (d : Dev) (p : Nat) : Dev :=
  let m := d.mac p
  match m.waiting with
  | none => d
  | some (f, q, _) =>
    let d1 := d.setMac p { m with waiting := none }
    if d.on (Reg.SM_PORT_CTRL.LINK_DOWN_ACT (laneOf p) (portOf p)) then
      (d1.release f).smCnt (laneOf p) (portOf p) 22
    else d1.requeue q f

/-- Low-power idle ends in both directions (R236, R237). -/
def Dev.lpiEnd (d : Dev) (n j : Nat) : Dev := (d.clr (Reg.SM_PORT_STAT.LPI_TX n j)).clr (Reg.SM_PORT_STAT.LPI_RX n j)

/-- Bring LINK of a port to the condition of R221: every change sets LINK_CHG, and going down cuts what is sent. -/
def Dev.linkPort (d : Dev) (n j : Nat) : Dev :=
  let p := 4 * n + j
  let up := d.portShouldUp n j
  let unsup := match (d.mac p).inband with
    | some r => decide (r ≠ 0) && !inbandOk (d.laneMode n) r && (d.laneMode n == 4 || d.laneMode n == 5)
    | none => false
  let d0 := d.put (Reg.SM_PORT_STAT.LINK_UNSUP n j) (bit unsup)
  if up = d.portUp n j then d0.iff up (·.put (Reg.SM_PORT_STAT.SPEED n j) (speedCode (d.portMbps n j)))
  else
    let d1 := (d0.put (Reg.SM_PORT_STAT.LINK n j) (bit up)).ev (Reg.SM_PORT_EVT.LINK_CHG n j)
    if up then d1.put (Reg.SM_PORT_STAT.SPEED n j) (speedCode (d.portMbps n j))
    else
      let d2 := (((d1.cutTx p).dropWaiting p).put (Reg.SM_PORT_STAT.SPEED n j) 7).lpiEnd n j
      d2.setMac p { d2.mac p with due := [], free := d.nowPs }

def Dev.linkLane (d : Dev) (n : Nat) : Dev := d.each (List.range 4) (fun d j => d.linkPort n j)

/-! ### Lane control and the ladder (R220, R269, R270) -/

def ladderEntry (i : Nat) (n : Nat) : Fld :=
  if i = 0 then Reg.SL_LADDER.ENTRY0 n else if i = 1 then Reg.SL_LADDER.ENTRY1 n
  else if i = 2 then Reg.SL_LADDER.ENTRY2 n else Reg.SL_LADDER.ENTRY3 n

/-- A pass over the list starts at ENTRY0, no entry of it locked yet. -/
def Dev.passStart (d : Dev) (n : Nat) : Dev :=
  ((d.setLane n { d.lane n with walk := some 0, confirming := false }).put (Reg.SL_LADDER_STAT.STATE n) 1).put
    (Reg.SL_LADDER_STAT.LOCKED n) 0

/-- The walk starts at ENTRY0, when AUTO is 1 and the lane is not enabled; with an empty list it stays idle. -/
def Dev.walkStart (d : Dev) (n : Nat) : Dev :=
  if d.on (Reg.SL_LADDER.AUTO n) && !d.on (Reg.SM_LANE_CTRL.LANE_EN n) then
    d.passStart n
  else d

/-- The walk stops without completing. -/
def Dev.walkStop (d : Dev) (n : Nat) : Dev :=
  if (d.lane n).walk.isSome then
    (d.setLane n { d.lane n with walk := none, confirming := false }).put (Reg.SL_LADDER_STAT.STATE n) 0
  else d

/-- A write of MODE and LANE_EN in one access (R220): MODE changes only while LANE_EN is 0, and LANE_EN then takes
effect. -/
def Dev.laneCtrl (d : Dev) (n : Nat) (mode : Nat) (en : Bool) : Dev :=
  let was := d.on (Reg.SM_LANE_CTRL.LANE_EN n)
  let d1 := if was then d.iff (mode != d.laneMode n) (·.ev (Reg.SM_LANE_EVT.MODE_REJ n))
    else d.put (Reg.SM_LANE_CTRL.MODE n) mode
  let d2 := d1.put (Reg.SM_LANE_CTRL.LANE_EN n) (bit en)
  let lat := if en then phyLat (d2.laneMode n) else (0, 0)
  let d3 := (d2.put (Reg.SL_PHY_LAT.RX_LAT n) lat.1).put (Reg.SL_PHY_LAT.TX_LAT n) lat.2
  if en then
    let d4 := d3.walkStop n
    let d5 := d4.iff (!was) (fun d => d.setLane n { d.lane n with synce := bitOf (d.fld (Reg.TIM_SYNCE_EN.LANES (n / 28))) (n % 28) })
    d5.linkLane n
  else
    let d4 := d3.iff was (fun d => d.each (List.range 4) (fun d j => d.stomp (4 * n + j) 19))
    (d4.linkLane n).walkStart n

/-- The highest locked entry. -/
def topLocked (mask : Nat) : Option Nat := (members mask 4).getLast?

/-- The end of a dwell (R269): `held` is whether the link condition held for its last 1 ms. -/
def Dev.dwell (d : Dev) (n : Nat) (held : Bool) : Dev :=
  let l := d.lane n
  let st := Reg.SL_LADDER_STAT.STATE n
  match l.walk with
  | none => d
  | some i =>
    if d.fld (ladderEntry 0 n) = 0 then d
    else if l.confirming then
      if held then
        let m := d.fld (ladderEntry i n)
        let d1 := ((d.setLane n { l with walk := none, confirming := false }).put st 3).put (Reg.SL_LADDER_STAT.FOUND n) m
        let d2 := d1.ev (Reg.SL_EVT.LADDER_DONE n)
        d2.iff (d.on (Reg.SL_LADDER.APPLY n)) (·.laneCtrl n m true)
      else d.passStart n
    else
      let d1 := d.put (Reg.SL_LADDER_STAT.LOCKED n) (setBit (d.fld (Reg.SL_LADDER_STAT.LOCKED n)) i held)
      if i < 3 ∧ d.fld (ladderEntry (i + 1) n) ≠ 0 then d1.setLane n { l with walk := some (i + 1) }
      else
        let mask := d1.fld (Reg.SL_LADDER_STAT.LOCKED n) % 2 ^ (i + 1)
        match topLocked mask with
        | some k => (d1.setLane n { l with walk := some k, confirming := true }).put st 2
        | none => d1.passStart n

/-! ### Reception (R222, R223, R229) -/

/-- PAUSED shows the classes that a running timer pauses (R229). -/
def Dev.showPaused (d : Dev) (p : Nat) : Dev :=
  let t := (d.mac p).pause
  d.put (Reg.SM_PORT_STAT.PAUSED (laneOf p) (portOf p))
    (((List.range 8).filter (fun k => Tbl.get t 8 0 != 0 || Tbl.get t k 0 != 0)).map (2 ^ ·)).sum

/-- Load the pause timers `ks`, 8 the PAUSE timer, with `q` quanta each of 512 bit times from now on; 0 releases at once
(R228, R229). -/
def Dev.pauseLoad (d : Dev) (p : Nat) (ks : List Nat) (q : Nat → Nat) : Dev :=
  let ps := 64 * bytePs (d.fld (Reg.SM_PORT_STAT.SPEED (laneOf p) (portOf p)))
  (d.each ks (fun d k => d.setMac p { d.mac p with
    pause := Tbl.set (d.mac p).pause k (if q k = 0 then 0 else d.nowPs + q k * ps) })).showPaused p

/-- A frame of a paused class that waits is returned to the head of its queue (R229). -/
def Dev.pauseWaiting (d : Dev) (p : Nat) : Dev :=
  let m := d.mac p
  match m.waiting with
  | some (f, q, _) =>
    if bitOf (d.fld (Reg.SM_PORT_STAT.PAUSED (laneOf p) (portOf p))) f.cls then
      ((d.setMac p { m with waiting := none }).requeue q f).smCnt (laneOf p) (portOf p) 23
    else d
  | none => d

/-- A MAC control frame that passed its checks (R223, R228). -/
def Dev.rxControl (d : Dev) (n j : Nat) (b : List Byte) : Dev :=
  let da := beAt b 0 6
  let op := beAt b 14 2
  let p := 4 * n + j
  let mode := d.fcMode n j
  let mine := decide (da = ctlAddr) || decide (da = d.macAddr n j)
  if mine && mode == 1 && op == 0x0001 then
    ((d.smCnt n j 5).pauseLoad p [8] (fun _ => beAt b 16 2)).pauseWaiting p
  else if mine && mode == 2 && op == 0x0101 then
    let mask := (beAt b 16 2 % 256) &&& d.fld (Reg.SM_FC_CTRL.PFC_RX_EN n j)
    ((d.smCnt n j 5).pauseLoad p (members mask 8) (fun k => beAt b (18 + 2 * k) 2)).pauseWaiting p
  else d.smCnt n j 6

/-- A received frame with its FCS: the checks of R222 in their order, then MAC control, or its counts and the input
buffer. What a sleeping receiver loses counts as a code error (R280; notes/assumptions/54.md). -/
def Dev.macRx (d : Dev) (n j : Nat) (b : List Byte) (codeErr : Bool) (st : Strobe) : Dev :=
  let m := d.laneMode n
  if !(d.portUp n j && d.on (Reg.SM_PORT_CTRL.RX_EN n j)) then d
  else if codeErr || d.on (Reg.SL_STAT.RX_ASLEEP n) then d.smCnt n j 7
  else if b.length < 4 ∨ fcs (b.take (b.length - 4)) ≠ b.drop (b.length - 4) then d.smCnt n j 8
  else if b.length < 64 then d.smCnt n j 9
  else if d.maxFrame n j < b.length then d.smCnt n j 10
  else
    let x := b.take (b.length - 4)
    if beAt x 12 2 = 0x8808 then d.rxControl n j x
    else
      let stamp := d.stampRx st (3600 * psU) ((phyLat m).1 * 100 * psU) (modeUi m) (4 * n + j)
      (d.castCount n j 0 x).arrive
        { data := x, srcKind := 0, inPort := d.devAddr * 512 + 4 * n + j, localIn := 4 * n + j, stamp := stamp,
          slice := sliceOf (4 * n + j) }

/-! ### Transmission (R225–R227) -/

/-- The port may take frames from its node: TX_EN, and up, or down with discarding (R199, R221). The pipelines of a slice that
stands still do nothing (R401). -/
def Dev.portRequest (d : Dev) (n j : Nat) : Dev :=
  let p := 4 * n + j
  let m := d.mac p
  if !d.on (Reg.SM_PORT_CTRL.TX_EN n j) || bitOf d.wake.off (sliceOf p) then d
  else if d.portUp n j then
    if m.waiting.isSome then d
    else
      let lpi := d.on (Reg.SM_PORT_STAT.LPI_TX n j)
      let tw := if lpi then max 200 (d.fld (Reg.SM_EEE_CTRL.TW n j)) * 10000 else 0
      let s := match m.tx with
        | none => max m.free (d.nowPs + 400000 + tw)
        | some _ => m.free
      let ok := d.portTest p s
      let d1 := d.purge p ok (Dev.portRemoved p) 64
      match d1.take p ok with
      | (d2, some (f, q)) =>
        (d2.setMac p { d2.mac p with waiting := some (f, q, s) }).clr (Reg.SM_PORT_STAT.LPI_TX n j)
      | (d2, none) => d2
  else if d.on (Reg.SM_PORT_CTRL.LINK_DOWN_ACT n j) then
    match d.take p (fun _ => .send) with
    | (d1, some (f, _)) => (d1.release f).smCnt n j 22
    | (d1, none) => d1
  else d

/-- Offset of the type field after at most two VLAN tags, or none (R253). -/
def ptpAt (o : ParseOpt) (b : List Byte) : Option Nat :=
  let i := if tagAt o b 12 then (if tagAt o b 16 then 20 else 16) else 12
  if beAt b i 2 = 0x88F7 ∧ byteAt b (i + 2) % 16 = 0 then some i else none

/-- The one-step rewrite of R253: seconds and nanoseconds into originTimestamp, FRAC_NS added to correctionField. -/
def oneStep (b : List Byte) (i : Nat) (s : Stamp) : List Byte :=
  let h := i + 2
  let b1 := overwrite b (h + 34) (beBytes (secOf s.time) 6 ++ beBytes (nsOf s.time) 4)
  overwrite b1 (h + 8) (beBytes ((beAt b (h + 8) 8 + fracOf s.time) % 2 ^ 64) 8)

/-- Bytes of a frame that the transmit store holds: its FCS only once every byte of it has come (R226). -/
def Frame.held (f : Frame) : Nat := if f.whole then f.len else f.data.length

/-- The waiting frame starts once its S has come, the gap after the last frame is over and the transmit store holds the
cut-through amount; delayed past S its pause and gate tests are made again, and it goes back to its queue if it fails (R226).
A control frame that is due goes first (R230). -/
def Dev.txStart (d : Dev) (n j : Nat) (st : Strobe) : Dev :=
  let p := 4 * n + j
  let m := d.mac p
  match m.waiting with
  | none => d
  | some (f, q, s) =>
    let e := d.editedF f
    let want := min (max 1 (d.fld (Reg.SM_CT.CT_UNITS n j)) * 256) e.fullLen
    let go := max (max s d.nowPs) m.free
    if f.failed then (d.setMac p { m with waiting := none }).release f
    else if m.tx.isSome ∨ e.held < want ∨ d.on (Reg.SL_STAT.TX_ASLEEP n) then d
    else if m.due ≠ [] then d.nextCtl p
    else if s < go ∧ ¬ d.mayStart p go f then
      ((d.setMac p { m with waiting := none }).requeue q f).smCnt n j 23
    else
      let d1 := d.setMac p { m with waiting := none }
      match d1.editOut f with
      | (d2, none) => d2.release f
      | (d2, some b0) =>
        let b := padTo 60 b0
        let stamp := d2.stampTx st (3600 * psU) ((phyLat (d.laneMode n)).2 * 100 * psU) (modeUi (d.laneMode n)) p
        let one := bitOf f.tsReq 1 && d.on Reg.TIM_CTRL.ONE_STEP_EN
        let at1 := if one && d.on Reg.TIM_STAT.TIME_SET then ptpAt (d.parseOpt d.actTag) b else none
        let d3 := d2.iff (bitOf f.tsReq 1 && at1.isNone) (·.bump (Reg.TIM_CNT.COUNT 5))
        let b1 := match at1 with | some i => oneStep b i stamp | none => b
        (d3.release f).txBegin p { f := { f.edited b0 with pool := .none }, data := b1, start := go, stamp := some stamp }

/-- A byte due is not in the transmit store (R227): stomp, count, event, and CT_UNITS rises. -/
def Dev.txUnderrun (d : Dev) (n j : Nat) : Dev :=
  let p := 4 * n + j
  match (d.mac p).tx with
  | none => d
  | some t =>
    if t.f.failed then (d.stompAt p 18 t.data.length).nextCtl p
    else
      (((d.stompAt p 17 t.data.length).nextCtl p).ev (Reg.SM_PORT_EVT.UNDERRUN n j)).put (Reg.SM_CT.CT_UNITS n j)
        (min 63 (d.fld (Reg.SM_CT.CT_UNITS n j) + 1))

/-- The frame in transmission ends: with its FCS and its counts, or stomped when a wagon that carried it failed
(R224, R153); GATE_OVERRUN when its class's gate has not been open all the while (R232). Answers the frame that ended. -/
def Dev.txEnd (d : Dev) (n j : Nat) : Dev × Option TxFrame :=
  let p := 4 * n + j
  let m := d.mac p
  match m.tx with
  | none => (d, none)
  | some t =>
    if t.ctl then
      ((((d.setMac p { m with tx := none }).txOut p t (t.data ++ fcs t.data) true).smCnt n j 16).nextCtl p, some t)
    else if t.f.failed then ((d.stomp p 18).nextCtl p, none)
    else
      let shut := d.gateShut p t
      let d1 := ((d.setMac p { m with tx := none }).txOut p t (t.data ++ fcs t.data) true).castCount n j 11 t.data
      let d2 := d1.iff shut (fun d => (d.smCnt n j 24).ev (Reg.SM_PORT_EVT.GATE_OVERRUN n j))
      (d2.nextCtl p, some t)

/-- The port's gates take the state of the schedule at this cycle (R232). -/
def Dev.gateUpdate (d : Dev) (n j : Nat) : Dev := d.put (Reg.SM_PORT_STAT.GATES n j) (d.gatesAt (4 * n + j) d.time)

/-! ### Low-power idle (R236, R237, R279) -/

/-- EEE_EN, in the modes in which energy-efficient idle runs. -/
def Dev.eeeOn (d : Dev) (n j : Nat) : Bool :=
  d.on (Reg.SM_PORT_CTRL.EEE_EN n j) && decide (1 ≤ d.laneMode n) && decide (d.laneMode n ≤ 3)

/-- A port idle for IDLE_US enters low-power idle. -/
def Dev.lpiEnter (d : Dev) (n j : Nat) : Dev :=
  let m := d.mac (4 * n + j)
  if d.eeeOn n j && d.portUp n j && m.tx.isNone && m.waiting.isNone && !d.on (Reg.SM_PORT_STAT.LPI_TX n j) then
    (d.ev (Reg.SM_PORT_STAT.LPI_TX n j)).smCnt n j 25
  else d

/-- A lane direction's sleep condition (R279). -/
def Dev.subSleeps (d : Dev) (n : Nat) (tx : Bool) : Bool :=
  if tx then d.on (Reg.SL_SLEEP_CTRL.TX_FORCE n) || (d.on (Reg.SL_SLEEP_CTRL.TX_LPI_SLEEP n) && d.on (Reg.SM_PORT_STAT.LPI_TX n 0))
  else d.on (Reg.SL_SLEEP_CTRL.RX_FORCE n) || (d.on (Reg.SL_SLEEP_CTRL.RX_LPI_SLEEP n) && d.on (Reg.SM_PORT_STAT.LPI_RX n 0))

end Sys2Proof.Machine
end

