-- ==== Sys2Proof/Machine/Classify.lean ====
section
/-!
DEFINITION. The slices and the classifier (spec/01 R26–R29, spec/06): slot arbitration, the ingress pass with its
lookups, resolution, policing and disposition, and recirculation.
-/
namespace Sys2Proof.Machine

/-! ### Lookups (R168–R171) -/

/-- A ternary bank (R168): the lowest location whose visible version matches; word 40 names the action. -/
def Dev.ternary (d : Dev) (bank tag : Nat) (key : Nat) : Option Nat :=
  let kw := wordsOf 80 key
  let hit := fun (w : List Nat) => (List.range 20).all (fun i => (w.getD i 0 ^^^ kw.getD i 0) &&& w.getD (20 + i) 0 == 0)
  (d.gen.pcl.locs.filter (fun e => e.1 / 2 ^ 18 == bank)).findSome? (fun e =>
    match seen e.2 d.actTag tag with
    | some w => if hit w then some (w.getD 40 0 % 2 ^ 16) else none
    | none => none)

/-- A keyed lookup: the location whose visible version holds the key, and its words (R169, R170). -/
def Dev.keyed (d : Dev) (t tag : Nat) (k : List Nat) : Option (Nat × List Nat) :=
  let (b0, b1) := keyBuckets t k
  ((List.range 8).map (b0 + ·) ++ (List.range 8).map (b1 + ·)).findSome? (fun l =>
    match d.look .pcl t l tag with
    | some w => if keyWords t w = k then some (l, w) else none
    | none => none)

/-- An action record as one number (R171); an empty one sets nothing. -/
def Dev.action (d : Dev) (i tag : Nat) : Nat :=
  let o := d.look .pcl 6 i tag
  packBits [(32, wordOf o 0), (32, wordOf o 1), (32, wordOf o 2), (32, wordOf o 3)]

/-! ### Resolution (R172) -/

/-- What a pass resolved. -/
structure Res where
  disp : Nat := 0
  rslice : Nat := 0
  ring : Nat := 0
  flow : Option Nat := none
  sub : Option Nat := none
  pol : Option Nat := none
  tc : Option Nat := none
  edit : Option Nat := none
  metaV : Nat := 0
  colour : Option Nat := none
  deriving DecidableEq, Repr

/-- The sources a STOP leaves: a source with STOP at 1 ends the weighing. -/
def weigh : List Nat → List Nat
  | [] => []
  | a :: r => if bitOf a 119 then [a] else a :: weigh r

/-- The value of a group: from the first source that sets it. -/
def groupOf (l : List Nat) (setBit_ lo w : Nat) : Option Nat :=
  (l.find? (fun a => bitOf a setBit_)).map (fun a => bits a lo w)

/-- BOND_FLOW as a source that sets FLOW only. -/
def bondSource (b : Nat) : List Nat := if bitOf b 15 then [2 ^ 126 + b % 2 ^ 15 * 2 ^ 91] else []

/-- Resolution over the sources in their order of precedence. -/
def resolve (src : List Nat) : Res :=
  let l := weigh src
  { disp := (groupOf l 127 116 3).getD 0
    rslice := (groupOf l 127 114 2).getD 0
    ring := (groupOf l 127 106 8).getD 0
    flow := groupOf l 126 91 15
    sub := groupOf l 125 78 13
    pol := groupOf l 124 62 16
    tc := groupOf l 123 59 3
    edit := groupOf l 122 49 10
    metaV := (groupOf l 121 33 16).getD 0
    colour := (groupOf l 120 31 2).map (fun c => min c 2) }

/-! ### Policers (R174, R175) -/

/-- Units of 10⁻⁷ bit: a kbit/s adds 8 of them in a CK_CORE cycle, a byte is 8 × 10⁷. -/
def polByte : Nat := 80000000

/-- Words of a policer in its active version: mode, CIR, CBS, PIR, EBS or PBS. -/
def Dev.polCfg (d : Dev) (i : Nat) : Nat × Nat × Nat × Nat × Nat :=
  let o := d.lookAct .pcl 7 i
  (wordOf o 0 % 4, min 400000000 (wordOf o 1 % 2 ^ 29), wordOf o 2 % 2 ^ 24, min 400000000 (wordOf o 3 % 2 ^ 29),
    wordOf o 4 % 2 ^ 24)

/-- The buckets filled from the elapsed cycles: RFC 2697 fills the second from the first's overflow, RFC 2698 at PIR. -/
def Pol.fill (x : Pol) (mode cir cbs pir ebs now : Nat) : Pol :=
  let dt := now - x.last
  let c := x.c + dt * cir * 8
  let e := if mode = 1 then x.e + (c - cbs * polByte) else x.e + dt * pir * 8
  { x with c := min c (cbs * polByte), e := min e (ebs * polByte), last := now }

/-- The colour of a frame of `n` units, and the buckets after it; `aware` is its colour in colour-aware mode. -/
def Pol.mark (x : Pol) (mode n : Nat) (aware : Option Nat) : Pol × Nat :=
  let pre := aware.getD 0
  if mode = 1 then
    if pre = 0 ∧ n ≤ x.c then ({ x with c := x.c - n }, 0)
    else if pre ≤ 1 ∧ n ≤ x.e then ({ x with e := x.e - n }, 1)
    else (x, 2)
  else
    if pre = 2 ∨ x.e < n then (x, 2)
    else if pre = 1 ∨ x.c < n then ({ x with e := x.e - n }, 1)
    else ({ x with c := x.c - n, e := x.e - n }, 0)

/-- Charge a frame to a policer: the buckets, the count by colour, and the colour (R174). MODE 0 and 3 do nothing. -/
def Dev.police (d : Dev) (i len colour tag : Nat) : Dev × Nat :=
  let (mode, cir, cbs, pir, ebs) := d.polCfg i
  if mode = 1 ∨ mode = 2 then
    let w := wordOf (d.look .pcl 7 i tag) 0
    let x := (d.pol i).fill mode cir cbs pir ebs d.core
    let (y, c) := x.mark mode (len * polByte) (if bitOf w 2 then some colour else none)
    ((d.setPol i y).bump (Reg.PCL_POL_CNT.COUNT i c), c)
  else (d, colour)

/-- A policer does something: MODE 1 or 2 (R174). -/
def Dev.polRuns (d : Dev) (i : Nat) : Bool := (d.polCfg i).1 == 1 || (d.polCfg i).1 == 2

/-- A commit's effect on a policer (R175): levels are clipped to the new bursts; a change of MODE fills both buckets. -/
def Dev.polCommit (d : Dev) (i : Nat) : Dev :=
  let (mode, _, cbs, _, ebs) := d.polCfg i
  let x := d.pol i
  if mode = x.mode then d.setPol i { x with c := min x.c (cbs * polByte), e := min x.e (ebs * polByte) }
  else d.setPol i { mode := mode, c := cbs * polByte, e := ebs * polByte, last := d.core }

/-! ### Slot arbitration (R28) -/

/-- The ports that step 3 visits, in ascending local port number. -/
def slicePorts (k : Nat) : List Nat := (List.range 112).map (112 * k + ·) ++ [448 + k, 456 + k]

/-- The next port with a frame waiting, from the port after the one served last. -/
def Dev.rrNext (d : Dev) (k : Nat) : Option Nat :=
  let l := (slicePorts k).filter (fun p => d.buf p != [])
  match (d.slice k).rr with
  | some r => match l.find? (fun p => decide (r < p)) with | some p => some p | none => l.head?
  | none => l.head?

/-- A frame takes the slice's slot: its tag is fixed at its first (R176), and its pass begins. -/
def Dev.beginPass (d : Dev) (k : Nat) (f : Frame) : Dev :=
  let f1 := if f.second then f else { f with tag := d.actTag, slice := k }
  let d1 := d.iff (!f.second) (·.flightIn f1.tag)
  d1.setSlice k { d1.slice k with passes := (d1.slice k).passes ++ [{ f1 with slice := k }] }

/-- Take the oldest frame of an input buffer into a pass; the falling count may send XON (R230). -/
def Dev.grantPort (d : Dev) (k p : Nat) : Dev :=
  match d.buf p with
  | [] => d
  | f :: r => (((d.setBuf p r).fcUpdate p).beginPass k f)

/-- One CK_CORE cycle in 8 grants no slot while the device is throttled (R402); which of them is the model's choice
(notes/assumptions/47.md). -/
def Dev.slotHeld (d : Dev) : Bool := d.on Reg.PWR_STAT.THROTTLE && d.core % 8 == 0

/-- One slot of R28. -/
def Dev.slotGrant (d : Dev) (k : Nat) : Dev :=
  let s := d.slice k
  let host := 452 + k
  if bitOf d.wake.off k || d.slotHeld then d else
  match s.rqBack, s.rtok with
  | f :: r, t + 1 =>
    let d1 := d.setSlice k { s with rqBack := r, rtok := t }
    (d1.release f).beginPass k { f with pool := .none, second := true }
  | _, _ =>
    if d.buf host ≠ [] ∧ 0 < s.htok then
      (d.setSlice k { s with htok := s.htok - 1 }).grantPort k host
    else
      match d.rrNext k with
      | some p => (d.setSlice k { s with rr := some p }).grantPort k p
      | none => d.grantPort k host

/-! ### The end of a pass (R156, R160–R163, R167, R173, R182–R184) -/

def Dev.pclCnt (d : Dev) (k c : Nat) : Dev := d.bump (Reg.PCL_CNT.COUNT k c)

/-- A trapped or copied frame goes to its slice's trap queue, counted in TRAP (R173, R191). -/
def Dev.trap (d : Dev) (f : Frame) (ring reason : Nat) : Dev :=
  (d.pclCnt f.slice 8).offerTrap { f with trapRing := ring, reason := reason }

/-- DISP 4 in a first pass: to the recirculation queue of the slice named, or RECIRC_DROP when it holds 512 frames
(R182, R184). Its cells are taken from the shared pool (R202). -/
def Dev.recirculate (d : Dev) (f : Frame) (k : Nat) : Dev :=
  let s := d.slice k
  if 512 ≤ s.rqOut.length + s.rqBack.length then (d.pclCnt k 10).flightOut f.tag
  else
    let (d1, f1) := d.hold f .shared
    d1.setSlice k { d1.slice k with rqOut := (d1.slice k).rqOut ++ [f1] }

/-- The traffic class of a frame that its pass has resolved: TC, or the CLASS of the queue of its flow, otherwise 0 (R188,
R214); which class a frame without TC has where no queue takes it is the model's choice (notes/assumptions/52.md). -/
def Dev.classOf (d : Dev) (tc : Option Nat) (flow : Option Nat) (f : Frame) : Nat :=
  match tc, flow with
  | some c, _ => c
  | none, some fl =>
    let w0 := wordOf (d.flowCfg fl f.tag) 0
    let up := if f.srcKind = 3 then false else if f.srcKind = 2 then bitOf w0 15 else true
    qClass (d.queueCfg (if up then 32768 + fl else fl))
  | none, none => 0

/-- The disposition of a frame that was looked up (R173, R174, R183): the charge, and where it goes. -/
def Dev.dispose (d : Dev) (f : Frame) (r : Res) : Dev :=
  let k := f.slice
  let out := fun (d : Dev) => d.flightOut f.tag
  if r.disp = 1 ∨ 5 ≤ r.disp then out (d.pclCnt k 7)
  else if r.disp = 4 ∧ f.second then out (d.pclCnt k 12)
  else if r.disp = 0 ∧ r.flow.isNone then out (d.pclCnt k 5)
  else
    let pre := match r.colour with | some c => c | none => f.hdrColour.getD 0
    let tc := match r.tc with | some t => some t | none => f.hdrTc
    let (d1, colour, done, red) := match r.pol.filter d.polRuns with
      | none => (d, if f.polDone.isSome then f.colour else pre, f.polDone, false)
      | some i =>
        if f.polDone = some i then (d, f.colour, f.polDone, false)
        else
          let (x, c) := d.police i f.fullLen pre f.tag
          (x, c, some i, c == 2 && !bitOf (wordOf (d.look .pcl 7 i f.tag) 0) 3)
    let g := { f with colour := colour, polDone := done, tc := tc, cls := d.classOf tc r.flow f, flow := r.flow, edit := r.edit, metaV := r.metaV }
    if red then out ((d1.pclCnt k 9).iff (r.disp == 3 && r.flow.isNone) (·.pclCnt k 5))
    else if r.disp = 2 then out (d1.trap g r.ring 1)
    else if r.disp = 4 then d1.recirculate { g with born := d1.core } r.rslice
    else
      let d2 := d1.iff (r.disp == 3) (·.trap g r.ring 2)
      match r.flow with
      | some fl => out (d2.enqueue g fl r.sub)
      | none => out (d2.pclCnt k 5)

/-- Lookups and resolution on the fields that reach the keys (R164–R172), then disposition. A frame whose source check
fails is dropped whatever the hits (R167). -/
def Dev.classify (d : Dev) (f : Frame) (p : Parsed) : Dev :=
  let tag := f.tag
  let port := d.look .pcl 8 f.localIn tag
  let w0 := wordOf port 0
  let vrf := bits w0 14 8
  let mode := bits w0 11 2
  let banks := (List.range 4).filterMap (fun b =>
    let g := (d.look .pcl 9 b tag).map (fun w => w.getD 0 0)
    let g := g.getD 2
    if bitOf g 1 then d.ternary b tag (ternaryKey f p (w0 % 256) (g % 2)) else none)
  let em := match exactKey f p (bits w0 8 3) vrf with
    | some k => (d.keyed 4 tag k).map (fun (e : Nat × List Nat) => e.2.getD 10 0 % 2 ^ 16)
    | none => none
  let dst := match destKey p mode vrf with | some k => d.keyed 5 tag k | none => none
  let src := if bitOf w0 13 then d.keyed 5 tag (srcKey p mode vrf) else none
  let d1 := match dst with | some e => d.tableHit e.1 | none => d
  let d2 := match src with | some e => d1.tableHit e.1 | none => d1
  let bad := bitOf w0 13 && (match (src : Option (Nat × List Nat)) with | some e => e.2.getD 11 0 % 2 ^ 14 != f.inPort | none => true)
  if bad then (d2.pclCnt f.slice 6).flightOut tag
  else
    let acts := banks ++ em.toList ++ ((dst : Option (Nat × List Nat)).map (fun e => e.2.getD 10 0 % 2 ^ 16)).toList
    let dflt := wordOf port 1 % 2 ^ 16
    let g := { f with ipAt := if p.outer.l3 = 0 then none else some (p.outer.ipAt, p.outer.l3 == 1) }
    d2.dispose g (resolve (acts.map (d.action · tag) ++ bondSource f.bondFlow ++ [d.action dflt tag]))

/-- A frame as the parser sees it: bytes among its first 320 that have still to come by wagon read as free values
(notes/assumptions/57.md). -/
def Dev.shown (d : Dev) (f : Frame) : Dev × Frame :=
  let r := d.freeBytes (min 320 (f.total - 4) - f.data.length)
  (r.1, { f with data := f.data ++ r.2 })

/-- The end of the oldest pass of slice k (R156). A fragment counts in FRAG whatever contradicts itself in it or before it:
under MALF_ACT 0 the model's choice (notes/assumptions/57.md). -/
def Dev.passEnd (d : Dev) (k : Nat) : Dev :=
  match (if bitOf d.wake.off k then [] else (d.slice k).passes) with
  | [] => d
  | f :: r =>
    let e0 := (d.setSlice k { d.slice k with passes := r }).pclCnt k (if f.second then 1 else 0)
    if f.failed then e0.flightOut f.tag
    else
      let (d0, g0) := e0.shown f
      let (whole, clean) := g0.parse (d.parseOpt f.tag)
      let g := d.look .pcl 9 4 f.tag
      let deepAct := match g with | some w => w.getD 0 0 % 4 | none => 0
      let malfAct := match g with | some w => bits (w.getD 0 0) 2 2 | none => 1
      let ring := match g with | some w => bits (w.getD 0 0) 4 8 | none => 0
      let p := if malfAct = 0 then whole.forKeys clean else whole
      let first := !f.second
      let d1 := d0.iff (first && (whole.fragFirst || whole.fragLater)) (·.pclCnt k 4)
      let d2 := d1.iff (first && whole.malformed) (·.pclCnt k 3)
      let d3 := d2.iff (first && whole.deep && !whole.malformed) (·.pclCnt k 2)
      let act := if whole.malformed then malfAct else if whole.deep then deepAct else 0
      if act = 0 then d3.classify f p
      else if act = 2 then (d3.trap f ring 1).flightOut f.tag
      else d3.flightOut f.tag

/-! ### Recirculation (R182, R184) -/

/-- The slice's egress pipeline serves its recirculation queue, applies the first pass's edit, and returns the frame to
its own ingress. -/
def Dev.recircReturn (d : Dev) (k : Nat) : Dev :=
  let s := d.slice k
  if bitOf d.wake.off k then d else
  match s.rqOut with
  | [] => d
  | f :: r =>
    match d.editOut f with
    | (d1, none) => ((d1.release f).setSlice k { s with rqOut := r }).flightOut f.tag
    | (d1, some b) => d1.setSlice k { s with rqOut := r, rqBack := s.rqBack ++ [{ f.edited b with edit := none }] }

/-- TIMEOUT in CK_CORE cycles. -/
def Dev.recircLimit (d : Dev) : Nat := max 1 (d.fld Reg.PCL_RECIRC_CTRL.TIMEOUT) * 1250

/-- The slice's oldest recirculating frame has waited past TIMEOUT: it is dropped (R184). -/
def Dev.recircTimeout (d : Dev) (k : Nat) : Dev :=
  let s := d.slice k
  match s.rqBack, s.rqOut with
  | f :: r, _ => (((d.setSlice k { s with rqBack := r }).release f).pclCnt k 11).flightOut f.tag
  | [], f :: r => (((d.setSlice k { s with rqOut := r }).release f).pclCnt k 11).flightOut f.tag
  | [], [] => d

end Sys2Proof.Machine
end

