-- ==== Sys2Proof/Machine/Gen.lean ====
section
/-!
DEFINITION. Configuration generations (spec/13 R350–R362) and firmware slots (R363, R364): the checks of staged
locations, the tests and the effect of a commit, timed commits, confirmation, rollback and discard.
-/
namespace Sys2Proof.Machine

def stNotReady : Nat := 0x01
def stPending : Nat := 0x02
def stNoStage : Nat := 0x03
def stStale : Nat := 0x04
def stBadPort : Nat := 0x05
def stBadNum : Nat := 0x06
def stAbsent : Nat := 0x07
def stNotHeld : Nat := 0x08
def stLate : Nat := 0x09
def stTimeUnset : Nat := 0x0A
def stAborted : Nat := 0x0B
def stBadTimetable : Nat := 0x0C
def stGenDraining : Nat := 0x0D

/-! ### Checks of a staged location (R25, R181, R205, R211, R213, R216, R235, R353) -/

/-- A parent port node (R216, R211). -/
def Dev.checkParent (d : Dev) (p : Nat) : Nat :=
  if 512 ≤ p then (if d.coachHere then 0 else stAbsent)
  else if 456 ≤ p then stBadPort
  else if d.portHere p then 0 else stAbsent

/-- The status of a location with this staged content; 0 where it offends against no check. -/
def Dev.checkLoc (d : Dev) (x : Family) (t loc : Nat) (w : List Nat) : Nat :=
  let a := w.getD 0 0
  match x with
  | .pcl =>
    if t = 8 then (if 460 ≤ loc then stBadPort else if d.portHere loc then 0 else stAbsent) else 0
  | .tmg =>
    if t = 0 then (if bitOf a 16 && !d.rpHere (bits a 17 2) then stAbsent else 0)
    else if t = 1 then (if bitOf a 21 && !d.sidingHere then stAbsent else 0)
    else if t = 2 then (if decide (8192 ≤ loc) && bitOf a 10 then 0 else d.checkParent (a % 1024))
    else if t = 3 then
      (if 512 ≤ loc then (if bitOf a 0 && !d.coachHere then stAbsent else 0)
       else if d.portHere loc then 0 else stAbsent)
    else if t = 4 then
      (let m := fun n => if n = 3 then bits (w.getD 1 0) 0 10 else bits a (10 * n) 10
       if (List.range 4).any (fun n => bitOf (m n) 9 && !d.lnHere n) then stAbsent else 0)
    else 0
  | .tt =>
    if t = 1 then
      (if !d.slHere (loc / 4) then stAbsent
       else if bitOf a 25 && (bits a 14 11 == 0 || decide (1024 < bits a 14 11) || decide (16384 < a % 2 ^ 14 + bits a 14 11))
         then stBadTimetable else 0)
    else 0

/-- An offending location: the number of its latest staging operation, its family's number, table, location, status. -/
structure Offence where
  seq : Nat
  src : Nat
  table : Nat
  loc : Nat
  status : Nat
  deriving DecidableEq, Repr

/-- The offending locations of one family's staging log. -/
def Dev.famOffences (d : Dev) (x : Family) (src : Nat) : List Offence :=
  (d.fam x).log.filterMap (fun e =>
    let t := e.1 / 2 ^ 18
    let loc := e.1 % 2 ^ 18
    match seen ((d.fam x).at e.1) d.actTag d.stgTag with
    | none => none
    | some w =>
      let st := d.checkLoc x t loc w
      if st = 0 then none else some { seq := e.2, src := src, table := t, loc := loc, status := st })

def Dev.offences (d : Dev) : List Offence := d.famOffences .pcl 0 ++ d.famOffences .tmg 1 ++ d.famOffences .tt 2

/-- The earliest-ranked offending location (R353). -/
def firstOffence : List Offence → Option Offence
  | [] => none
  | o :: r =>
    match firstOffence r with
    | none => some o
    | some p => if p.seq < o.seq then some p else some o

/-! ### Commit (R354–R357) -/

/-- READY of every family, the commit under test aside. -/
def Dev.allReady (d : Dev) (own : Bool) : Bool := d.famReady .pcl own && d.famReady .tmg own && d.famReady .tt own

/-- Tests 1 to 3 of R354; 0 when they pass. -/
def Dev.commitTests (d : Dev) : Nat :=
  if d.gen.armed.isSome ∨ d.gen.reverting ∨ d.gen.run = some .discard then stPending
  else if ¬ d.on Reg.GEN_STAT.STAGE_OPEN then stNoStage
  else if ¬ d.allReady true then stNotReady
  else 0

/-- Test 7 of R354. -/
def Dev.commitChecks (d : Dev) : Nat :=
  match firstOffence d.offences with
  | some o => o.status
  | none => 0

/-- The instant of COMMIT_AT. -/
def Dev.atTime (d : Dev) : Int :=
  (d.wide Reg.GEN_AT_SEC_LO.SEC Reg.GEN_AT_SEC_HI.SEC : Int) * secU + (min 999999999 (d.fld Reg.GEN_AT_NS.NS) : Nat) * nsU

/-- All tests of R354 in their order, for a commit with this EXPECT. -/
def Dev.commitStatus (d : Dev) (timed : Bool) (expect : Nat) : Nat :=
  let t := d.commitTests
  if t ≠ 0 then t
  else if d.fld Reg.GEN_STAGE.NUM % 2 ^ 16 ≠ expect % 2 ^ 16 then stStale
  else if timed ∧ ¬ d.on Reg.TIM_STAT.TIME_SET then stTimeUnset
  else if timed ∧ d.atTime < d.time + 1000 * nsU then stLate
  else d.commitChecks

/-- A COMMIT or COMMIT_AT is in its 64 ns of validation (R354). -/
def GenSt.validating (g : GenSt) : Bool := match g.run with | some (.commit ..) => true | _ => false

/-- PENDING and COMMIT_PENDING: a commit in validation or armed, a rollback or a discard running (R354). -/
def Dev.pendingBits (d : Dev) : Dev :=
  (d.put Reg.GEN_STAT.PENDING (bit (d.gen.armed.isSome || d.gen.reverting || d.gen.run.isSome))).put
    Reg.PCL_GEN_STAT.COMMIT_PENDING (bit (d.gen.armed.isSome || d.gen.validating))

/-- The generation is confirmed (R359): the timer stops and the scrubs may begin. -/
def Dev.confirm (d : Dev) : Dev :=
  let d1 := { d with gen := { d.gen with confirmAt := none } }
  (((d1.put Reg.GEN_STAT.CONFIRMED 1).put Reg.PCL_GEN_STAT.ACT_CONFIRMED 1).ev Reg.GEN_EVT.CONFIRMED).scrubStart

/-- A family's staging log becomes the active generation's log. -/
def Fam.committed (f : Fam) : Fam := { f with held := f.log.map (·.1), log := [] }

/-- HELD_KIND in all three families and in GEN. -/
def Dev.heldKinds (d : Dev) (k : Nat) : Dev :=
  (((d.put Family.pcl.heldKind k).put Family.tmg.heldKind k).put Family.tt.heldKind k).put Reg.GEN_STAT.HELD_KIND k

/-- The policers at locations of the log take the parameters of the generation that became active (R175, R360). -/
def Dev.polChange (d : Dev) : Dev :=
  d.each (d.gen.pcl.held.filter (fun k => k / 2 ^ 18 == 7)) (fun d k => d.polCommit (k % 2 ^ 18))

/-- A tag is held and drains (R179). -/
def Dev.holdTag (d : Dev) (tag : Nat) : Dev :=
  (((d.put Reg.PCL_GEN_STAT.HELD_TAG tag).put Reg.PCL_GEN_STAT.PREV_RETIRED 0).put Reg.GEN_STAT.PREV_RETIRED 0).retireCheck

/-- The cycle in which a commit takes effect (R355). -/
def Dev.commitEffect (d0 : Dev) (noConfirm : Bool) : Dev :=
  let d := d0.gatesMark
  let active := d.fld Reg.GEN_ACTIVE.NUM
  let stage := d.fld Reg.GEN_STAGE.NUM
  let old := d.actTag
  let g := d.gen
  let d1 := { d with gen := { g with pcl := g.pcl.committed, tmg := g.tmg.committed, tt := g.tt.committed, armed := none } }
  let d2 := ((d1.put Reg.GEN_PREV.NUM active).put Reg.GEN_ACTIVE.NUM stage).put Reg.GEN_STAGE.NUM (stage + 1)
  let d3 := (d2.put Reg.PCL_GEN_STAT.ACT_TAG stage).put Reg.PCL_GEN_STAT.STG_TAG (stage + 1)
  let d4 := (d3.heldKinds 1).putWords Reg.GEN_COMMIT_TS.TS d.readWords
  let d5 := (d4.ev Reg.GEN_EVT.COMMITTED).bump (Reg.GEN_CNT.COUNT 0)
  let d6 := ((d5.put Reg.GEN_STAT.CONFIRMED 0).put Reg.PCL_GEN_STAT.ACT_CONFIRMED 0).put Reg.GEN_STAT.ARMED 0
  let d7 := ((d6.pendingBits.holdTag old).polChange).replaced d
  if noConfirm ∨ ¬ d.on Reg.GEN_CONFIRM_T.REQUIRE then d7.confirm
  else { d7 with gen := { d7.gen with
      confirmAt := some (d.core + max 1 (d.fld Reg.GEN_CONFIRM_T.TIMEOUT) * 125000000) } }

/-- A GEN command is written (R362): ignored while one runs. -/
def Dev.genCmd (d : Dev) (f : Dev → Dev) : Dev := if d.on Reg.GEN_STAT.BUSY then d.ev Reg.GEN_STAT.IGNORED else f d

/-- COMMIT or COMMIT_AT: 64 ns of validation begin with staging frozen. -/
def Dev.commitStart (d : Dev) (timed noConfirm : Bool) (expect : Nat) : Dev :=
  d.genCmd (fun d =>
    let d1 := { d with gen := { d.gen with run := some (.commit timed noConfirm expect) } }
    ((d1.put Reg.GEN_STAT.BUSY 1).put Reg.GEN_STAT.PENDING 1).put Reg.PCL_GEN_STAT.COMMIT_PENDING 1)

/-- A GEN command ends with a status. -/
def Dev.genEnd (d : Dev) (st : Nat) : Dev :=
  ({ d with gen := { d.gen with run := none } }.put Reg.GEN_STAT.STATUS st).put Reg.GEN_STAT.BUSY 0

/-- Arm a commit for an instant (R356, R357). -/
def Dev.armCommit (d : Dev) (t : Int) (src : Nat) (noConfirm : Bool) : Dev :=
  let d1 := { d with gen := { d.gen with armed := some { t := (t / (100 * psU)).toNat, noConfirm := noConfirm } } }
  ((d1.put Reg.GEN_STAT.ARMED 1).put Reg.GEN_STAT.ARM_SRC src).pendingBits

/-- The end of validation (R354): refused, armed, or in effect. -/
def Dev.commitValidated (d : Dev) : Dev :=
  match d.gen.run with
  | some (.commit timed noConfirm expect) =>
    let st := d.commitStatus timed expect
    let d1 := d.genEnd st
    if st ≠ 0 then (d1.pendingBits.ev Reg.GEN_EVT.REJECTED).bump (Reg.GEN_CNT.COUNT 1)
    else if timed then d1.armCommit d.atTime 0 noConfirm
    else d1.commitEffect noConfirm
  | _ => d

/-- Disarm without a commit: staging thaws. -/
def Dev.disarm (d : Dev) : Dev :=
  ({ d with gen := { d.gen with armed := none } }.put Reg.GEN_STAT.ARMED 0).pendingBits

/-- The instant of an armed commit has been reached (R356). -/
def Dev.commitInstant (d : Dev) (src : Nat) : Dev :=
  match d.gen.armed with
  | some a =>
    if d.fld Reg.GEN_STAT.ARM_SRC = src ∧ (a.t : Int) * (100 * psU) ≤ d.time then d.commitEffect a.noConfirm else d
  | none => d

/-- ABORT (R356, R357). -/
def Dev.abortCommit (d : Dev) : Dev :=
  d.genCmd (fun d =>
    if d.gen.armed.isNone then d.genEnd stNotHeld
    else if d.on Reg.GEN_STAT.ARM_SRC then d.genEnd stPending
    else d.disarm.genEnd stAborted)

/-! ### Confirmation, rollback, discard (R359–R361) -/

/-- CONFIRM. -/
def Dev.confirmCmd (d : Dev) : Dev :=
  d.genCmd (fun d => if d.on Reg.GEN_STAT.CONFIRMED then d.genEnd stNotHeld else d.confirm.genEnd 0)

/-- The cycle of a rollback (R360). -/
def Dev.rollback (d0 : Dev) (cause : Nat) : Dev :=
  let d := d0.gatesMark
  let active := d.fld Reg.GEN_ACTIVE.NUM
  let prev := d.fld Reg.GEN_PREV.NUM
  let d1 := (d.put Reg.GEN_REJECTED.NUM active).put Reg.GEN_ACTIVE.NUM prev
  let d2 := (d1.put Reg.PCL_GEN_STAT.ACT_TAG prev).heldKinds 2
  let d3 := ((d2.put Reg.GEN_STAT.ROLLBACK_CAUSE cause).ev Reg.GEN_EVT.ROLLED_BACK).bump (Reg.GEN_CNT.COUNT 2)
  let d4 := (d3.put Reg.GEN_STAT.CONFIRMED 1).put Reg.PCL_GEN_STAT.ACT_CONFIRMED 1
  let d5 := (d4.put Reg.GEN_STAT.STAGE_OPEN 0).putWords Reg.GEN_COMMIT_TS.TS d.readWords
  let d6 := { d5 with gen := { d5.gen with confirmAt := none, reverting := true } }
  ((d6.pendingBits.holdTag (active % 16)).polChange).replaced d

/-- ROLLBACK. -/
def Dev.rollbackCmd (d : Dev) : Dev :=
  d.genCmd (fun d => if d.on Reg.GEN_STAT.CONFIRMED then d.genEnd stNotHeld else (d.rollback 2).genEnd 0)

/-- The confirm timer expires. -/
def Dev.confirmTimeout (d : Dev) : Dev :=
  if d.gen.confirmAt.isSome && !d.on Reg.GEN_STAT.CONFIRMED then d.rollback 1 else d

/-- Every location of a family's staging log is reverted. -/
def Fam.revertAll (f : Fam) (stg : Nat) : Fam := { f.eachLoc (f.log.map (·.1)) (stageRevert · stg) with log := [] }

/-- The revert of a rollback ends. -/
def Dev.revertDone (d : Dev) : Dev :=
  if d.gen.reverting then
    let g := d.gen
    let t := d.stgTag
    { d with gen := { g with
        pcl := g.pcl.revertAll t, tmg := g.tmg.revertAll t, tt := g.tt.revertAll t, reverting := false } }.pendingBits
  else d

/-- RENUMBER (R352). -/
def Dev.renumber (d : Dev) : Dev :=
  d.genCmd (fun d =>
    let n := d.fld Reg.GEN_STAGE_NUM.NUM
    let k := idxDiff n (d.fld Reg.GEN_ACTIVE.NUM)
    let empty := d.gen.pcl.log.isEmpty && d.gen.tmg.log.isEmpty && d.gen.tt.log.isEmpty
    if d.on Reg.GEN_STAT.STAGE_OPEN && empty && d.gen.armed.isNone && decide (1 ≤ k) && decide (k ≤ 7) then
      ((d.put Reg.GEN_STAGE.NUM n).put Reg.PCL_GEN_STAT.STG_TAG n).genEnd 0
    else d.genEnd stBadNum)
where
  /-- (a − b) mod 2³² -/
  idxDiff (a b : Nat) : Nat := (a + (2 ^ 32 - b % 2 ^ 32)) % 2 ^ 32

/-- DISCARD starts (R361). -/
def Dev.discardStart (d : Dev) : Dev :=
  d.genCmd (fun d =>
    if d.fld Reg.GEN_STAT.HELD_KIND ≠ 2 then d.genEnd stNotHeld
    else if ¬ d.on Reg.PCL_GEN_STAT.PREV_RETIRED then d.genEnd stGenDraining
    else ({ d with gen := { d.gen with run := some .discard } }.put Reg.GEN_STAT.BUSY 1).put Reg.GEN_STAT.PENDING 1)

/-- DISCARD completes: every family that still holds rejected versions has freed them, and staging reopens. -/
def Dev.discardDone (d : Dev) : Dev :=
  if d.gen.run = some .discard then
    let d0 := d.revertDone
    let d1 := d0.each [Family.pcl, .tmg, .tt] (fun d x => d.iff (d.fld x.heldKind == 2) (·.famDiscard x))
    let n := d.fld Reg.GEN_REJECTED.NUM + 1
    let d2 := ((d1.put Reg.GEN_STAGE.NUM n).put Reg.PCL_GEN_STAT.STG_TAG n).put Reg.GEN_STAT.STAGE_OPEN 1
    ((d2.put Reg.GEN_STAT.HELD_KIND 0).ev Reg.GEN_EVT.DISCARDED).genEnd 0 |>.pendingBits
  else d

/-- The scrub of a family ends; GEN holds nothing once all three have (R359). -/
def Dev.genScrubDone (d : Dev) (x : Family) : Dev :=
  let d1 := d.scrubDone x
  d1.iff (d1.fld Reg.GEN_STAT.HELD_KIND == 1 && d1.fld Family.pcl.heldKind == 0 && d1.fld Family.tmg.heldKind == 0 &&
    d1.fld Family.tt.heldKind == 0) (·.put Reg.GEN_STAT.HELD_KIND 0)

/-! ### Firmware slots (R364) -/

/-- A copy of the boot record (R408). -/
def recordBytes (seq pref mhz : Nat) : List Byte :=
  let b := beBytes 0x4F434252 4 ++ beBytes seq 4 ++ beBytes pref 1 ++ beBytes mhz 1 ++ List.replicate 6 0
  b ++ beBytes (crc32c.sum b) 4 ++ beBytes (crc32c.sum b) 4

/-- CONFIRM of a running trial: the record that names its slot is written into the copy not selected at this boot, with the
next sequence number (R364, R408). -/
def Dev.fwConfirm (d : Dev) : Dev :=
  if d.cpxHere && d.on Reg.GEN_FW_STAT.TRIAL_RUN then
    let t := d.tru
    let slot := d.fld Reg.GEN_FW_STAT.BOOTED
    let d1 := (d.put Reg.GEN_FW_STAT.TRIAL_RUN 0).put Reg.GEN_FW_STAT.REC_BUSY 1
    { d1 with tru := { t with recPref := slot } }.emit
      (.flashWrite (0x1000 * (1 - t.copy)) (recordBytes ((t.recSeq + 1) % 2 ^ 32) slot t.flashMhz))
  else d

/-- The boot-record write completes: it names the slot that was confirmed. -/
def Dev.fwRecordDone (d : Dev) : Dev :=
  if d.on Reg.GEN_FW_STAT.REC_BUSY then
    (d.put Reg.GEN_FW_STAT.PREFERRED d.tru.recPref).put Reg.GEN_FW_STAT.REC_BUSY 0
  else d

end Sys2Proof.Machine
end

