-- ==== Sys2Proof/Machine/LaneCode.lean ====
section
/-!
DEFINITION. What the data lanes of a riser port carry bit by bit (spec/10 R271 to R273, R276, R277, R283; spec/11 R289):
rates, scrambling and stuffing and their removal, the split of words between the lanes, fill words, training words and
patterns.
-/
namespace Sys2Proof.Machine

/-! ### Rates (R271, R274) -/

/-- Signalling rate of a RATE code in kBd; the forwarded clock runs at one sixteenth of it. -/
def riserBaud (rate : Nat) : Nat := if rate = 0 then 3125000 else if rate = 1 then 12890625 else 25781250

/-- One unit interval of a RATE code. -/
def riserUi (rate : Nat) : Int :=
  if rate = 0 then 320 * psU else if rate = 1 then psU * 2560 / 33 else psU * 1280 / 33

/-- A forwarded clock of `khz` lies within ±1 % of the frequency of the rate. -/
def clockGood (rate khz : Nat) : Bool :=
  decide (99 * riserBaud rate ≤ 1600 * khz) && decide (1600 * khz ≤ 101 * riserBaud rate)

/-! ### Scrambling and stuffing (R272, R273) -/

/-- s(k − 39) ⊕ s(k − 58). -/
def LaneCode.mask (c : LaneCode) : Bool := bitOf c.hist 38 != bitOf c.hist 57

/-- A scrambled bit joins the history. -/
def LaneCode.push (c : LaneCode) (s : Bool) : LaneCode := { c with hist := (2 * c.hist + bit s) % 2 ^ 58 }

/-- A bit on the line continues the run or begins one. -/
def LaneCode.onLine (c : LaneCode) (s : Bool) : LaneCode :=
  { c with run := if c.run ≠ 0 ∧ c.last = s then c.run + 1 else 1, last := s }

/-- Send one bit: scrambled, and after a run of 31 a bit of the opposite value, which begins a new run. -/
def LaneCode.sendBit (c : LaneCode) (x : Bool) : LaneCode × List Bool :=
  let s := x != c.mask
  let c1 := (c.push s).onLine s
  if c1.run = 31 then ({ c1 with run := 1, last := !s, behind := c1.behind + 1 }, [s, !s]) else (c1, [s])

def LaneCode.sendBits (c : LaneCode) : List Bool → LaneCode × List Bool
  | [] => (c, [])
  | x :: r =>
    let y := c.sendBit x
    let z := LaneCode.sendBits y.1 r
    (z.1, y.2 ++ z.2)

/-- Receive one bit: that after a run of 31 is removed, and counted where it equals the run; any other is descrambled. -/
def LaneCode.recvBit (c : LaneCode) (s : Bool) : LaneCode × List Bool × Nat :=
  if c.run = 31 then ({ c with run := 1, last := s }, [], bit (s == c.last))
  else ((c.push s).onLine s, [s != c.mask], 0)

def LaneCode.recvBits (c : LaneCode) : List Bool → LaneCode × List Bool × Nat
  | [] => (c, [], 0)
  | s :: r =>
    let y := c.recvBit s
    let z := LaneCode.recvBits y.1 r
    (z.1, y.2.1 ++ z.2.1, y.2.2 + z.2.2)

/-! ### Words on two lanes (R272, R289) -/

/-- The bits of bytes, most significant first, and the bytes of bits. -/
def bytesBits (b : List Byte) : List Bool := b.flatMap (fun y => (List.range 8).map (fun i => bitOf y.toNat (7 - i)))
def bitsBytes (l : List Bool) : List Byte :=
  (List.range (l.length / 8)).map (fun i => BitVec.ofNat 8 (((l.drop (8 * i)).take 8).foldl (fun a b => 2 * a + bit b) 0))

/-- Word `i` of a string of bytes. -/
def wordAt (b : List Byte) (i : Nat) : List Byte := (b.drop (8 * i)).take 8

/-- The words that go to data lane l: word 2i to lane 0, word 2i + 1 to lane 1. -/
def laneHalf (l : Nat) (b : List Byte) : List Byte := (List.range (b.length / 16)).flatMap (fun i => wordAt b (2 * i + l))

/-- The words of both lanes in order. -/
def joinLanes (b0 b1 : List Byte) : List Byte :=
  (List.range (min b0.length b1.length / 8)).flatMap (fun i => wordAt b0 i ++ wordAt b1 i)

/-- The fill word. -/
def fillWord : List Byte := beBytes 0x0F1E2D3C4B5A6978 8

/-- Bits with a lane's polarity applied. -/
def polarity (inv : Bool) (l : List Bool) : List Bool := if inv then l.map (fun b => !b) else l

/-- Data lane l of port p sends bits as they are; a sleeping transmitter holds it at electrical idle (R278). -/
def Dev.laneRaw (d : Dev) (p l : Nat) (s : List Bool) : Dev :=
  d.iff (!d.on (Reg.RP_LANE_STAT.TX_ASLEEP p l)) (·.emit (.lane p l (polarity (d.on (Reg.RP_LANE_TXEQ.POL_INV p l)) s)))

/-- Words go out on both data lanes, scrambled and stuffed. -/
def Dev.laneSend (d : Dev) (p : Nat) (b0 b1 : List Byte) : Dev :=
  let y := d.phy p
  let s0 := y.tx0.sendBits (bytesBits b0)
  let s1 := y.tx1.sendBits (bytesBits b1)
  ((d.setPhy p { y with tx0 := s0.1, tx1 := s1.1 }).laneRaw p 0 s0.2).laneRaw p 1 s1.2

/-- The lanes have made up one word of what stuffing has cost them. -/
def LaneCode.caughtUp (c : LaneCode) : LaneCode := { c with behind := c.behind - 64 }

/-- After every second wagon each data lane carries one fill word; it is omitted once stuffed bits have left a lane
a whole word behind (notes/assumptions/53.md). -/
def Dev.laneFill (d : Dev) (p : Nat) : Dev :=
  let y := d.phy p
  if !y.odd then d.setPhy p { y with odd := true }
  else if 64 ≤ max y.tx0.behind y.tx1.behind then
    d.setPhy p { y with odd := false, tx0 := y.tx0.caughtUp, tx1 := y.tx1.caughtUp }
  else (d.setPhy p { y with odd := false }).laneSend p fillWord fillWord

/-- The 32 words of a wagon on the lanes, and the fill word that may follow. -/
def Dev.wagonLanes (d : Dev) (p : Nat) (b : List Byte) : Dev := (d.laneSend p (laneHalf 0 b) (laneHalf 1 b)).laneFill p

/-- Without a leading fill word, which the receiver skips where a wagon header is due. -/
def skipFill (b0 b1 : List Byte) : List Byte × List Byte :=
  if b0.take 8 == fillWord then (b0.drop 8, b1.drop 8) else (b0, b1)

/-- The bits that came on both data lanes since the last wagon: the device with its receivers moved on, the wagon's bytes,
and how many stuffed bits equalled their run. -/
def Dev.laneRecv (d : Dev) (p : Nat) (l0 l1 : List Bool) : Dev × List Byte × Nat :=
  let y := d.phy p
  let r0 := y.rx0.recvBits (polarity (d.on (Reg.RP_LANE_RXEQ.POL_INV p 0)) l0)
  let r1 := y.rx1.recvBits (polarity (d.on (Reg.RP_LANE_RXEQ.POL_INV p 1)) l1)
  let w := skipFill (bitsBytes r0.2.1) (bitsBytes r1.2.1)
  (d.setPhy p { y with rx0 := r0.1, rx1 := r1.1 }, joinLanes w.1 w.2, r0.2.2 + r1.2.2)

/-- A lane's bits after a stretch whose length no command gives: free values (notes/assumptions/53.md). -/
def Dev.freeCode (d : Dev) : Dev × LaneCode :=
  let v := d.freeVal 64
  (d.freed, { hist := v % 2 ^ 58, run := v / 2 ^ 58 % 31, last := bitOf v 63 })

/-- A run of pages has gone out on the data lanes. -/
def Dev.txCodeFree (d : Dev) (p : Nat) : Dev :=
  let a := d.freeCode
  let b := a.1.freeCode
  b.1.setPhy p { b.1.phy p with tx0 := a.2, tx1 := b.2 }

/-- Pages and training words have come on the data lanes. -/
def Dev.rxCodeFree (d : Dev) (p : Nat) : Dev :=
  let a := d.freeCode
  let b := a.1.freeCode
  b.1.setPhy p { b.1.phy p with rx0 := a.2, rx1 := b.2 }

/-! ### Patterns and training (R276, R283) -/

/-- Length and second tap of the PRBS of a pattern code; the polynomials are those of ITU-T O.150
(notes/assumptions/53.md). -/
def prbsTaps (code : Nat) : Nat × Nat :=
  if code = 1 then (7, 6) else if code = 2 then (9, 5) else if code = 3 then (15, 14) else if code = 4 then (23, 18) else (31, 28)

/-- The next `n` bits of a PRBS whose last bits are `s`, the latest lowest. -/
def prbs (t : Nat × Nat) : Nat → Nat → List Bool
  | _, 0 => []
  | s, n + 1 =>
    let b := bitOf s (t.1 - 1) != bitOf s (t.2 - 1)
    b :: prbs t ((2 * s + bit b) % 2 ^ t.1) n

/-- A place in the period of a PRBS, from a free value. -/
def prbsSeed (code v : Nat) : Nat := 1 + v % (2 ^ (prbsTaps code).1 - 1)

/-- Sixty-four bits of a pattern (R283). -/
def patternBits (code user v : Nat) : List Bool :=
  if code = 0 then []
  else if code = 6 then List.replicate 32 true ++ List.replicate 32 false
  else if code = 7 then (List.range 64).map (fun i => bitOf user (63 - i))
  else prbs (prbsTaps code) (prbsSeed code v) 64

/-- The marker of R276. -/
def trainMarker : List Byte := beBytes 0xF0F00F0FA5A55A5A 8

/-- Sixteen training words: fifteen of PRBS31 and the marker. -/
def trainBits (v : Nat) : List Bool := prbs (prbsTaps 5) (prbsSeed 5 v) 960 ++ bytesBits trainMarker

/-- TRAIN begins: training words on both data lanes, which R276 does not scramble (notes/assumptions/53.md). -/
def Dev.trainSend (d : Dev) (p : Nat) : Dev :=
  ((d.freed.laneRaw p 0 (trainBits (d.freeVal 31))).freed).laneRaw p 1 (trainBits (d.freed.freeVal 31))

end Sys2Proof.Machine
end

