-- ==== Sys2Proof/Machine/Cipher.lean ====
section
/-!
DEFINITION. The cipher engine (spec/05): the key store and its commands, key wrapping, the use of line keys, and the
wagon counters, slots and switches of the riser ports. The block ciphers themselves are constants of Config.
-/
namespace Sys2Proof.Machine

/-! ### Slots (R138, R139) -/

def slotEmpty : Nat := 0
def slotValid : Nat := 1
def slotRefused : Nat := 2
def slotDefault : Nat := 3

def Dev.slotState (d : Dev) (s : Nat) : Nat := d.fld (Reg.CPH_SLOT_STAT.STATE s)
def Dev.key (d : Dev) (s : Nat) : Nat := Tbl.get d.cph.keys s 0
def Dev.slotCtr (d : Dev) (s : Nat) : Nat := d.wide (Reg.CPH_SLOT_CTR_LO.CTR s) (Reg.CPH_SLOT_CTR_HI.CTR s)
def Dev.setSlotCtr (d : Dev) (s v : Nat) : Dev := d.putWide (Reg.CPH_SLOT_CTR_LO.CTR s) (Reg.CPH_SLOT_CTR_HI.CTR s) v

/-- The slot exists on this part: its channel or port, and the mode of the engine that uses it (R8, R138). -/
def Dev.slotHere (d : Dev) (s : Nat) : Bool :=
  if s < 32 then d.cphLineHere && d.lnHere (s / 8)
  else d.cphRiserHere && d.rpHere (if s < 48 then (s - 32) / 4 else s - 48)

/-- Kinds of slot. -/
def isMaster (s : Nat) : Bool := decide (s < 32) && s % 8 == 0
def isDerived (s : Nat) : Bool := decide (s < 32) && decide (1 ≤ s % 8) && decide (s % 8 ≤ 3)
def isLineData (s : Nat) : Bool := decide (s < 32) && decide (4 ≤ s % 8)
def isRiserData (s : Nat) : Bool := decide (32 ≤ s) && decide (s < 48)
def isTransport (s : Nat) : Bool := decide (48 ≤ s) && decide (s < 52)

/-- The slot of upstream key index `i` of channel n; NEXT_IDX 0 and 3 act as 1 (R144). -/
def lineSlot (n i : Nat) : Nat := 8 * n + 3 + i
def Dev.curIdx (d : Dev) (n : Nat) : Nat := d.fld (Reg.CPH_LINE_US_CTRL.CUR_IDX n)
def Dev.nextIdx (d : Dev) (n : Nat) : Nat :=
  let i := d.fld (Reg.CPH_LINE_US_CTRL.NEXT_IDX n)
  if i = 2 then 2 else 1

/-- The data slot of port p: direction 0 transmit, 1 receive; member s. -/
def riserSlot (p dir s : Nat) : Nat := 32 + 4 * p + 2 * dir + s
def Dev.txSlot (d : Dev) (p : Nat) : Nat := riserSlot p 0 (d.fld (Reg.CPH_RSR_CTRL.TX_PHASE p))
def Dev.rxSlot (d : Dev) (p : Nat) : Nat := riserSlot p 1 (d.fld (Reg.CPH_RSR_CTRL.RX_PHASE p))

/-- The slot is in current use (R144, R152). -/
def Dev.slotCurrent (d : Dev) (s : Nat) : Bool :=
  if isLineData s then decide (d.curIdx (s / 8) ≠ 0) && lineSlot (s / 8) (d.curIdx (s / 8)) == s
  else if isRiserData s then s == d.txSlot ((s - 32) / 4) || s == d.rxSlot ((s - 32) / 4)
  else false

/-- The slot takes a key: state, source, counter 0, EXH clear (R139). -/
def Dev.loadSlot (d : Dev) (s key state source : Nat) : Dev :=
  let d1 := { d with cph := { d.cph with keys := Tbl.set d.cph.keys s key } }
  let d2 := (d1.put (Reg.CPH_SLOT_STAT.STATE s) state).put (Reg.CPH_SLOT_STAT.SOURCE s) source
  (d2.put (Reg.CPH_SLOT_STAT.EXH s) 0).setSlotCtr s 0

/-- The slot becomes EMPTY; its counter stays. -/
def Dev.emptySlot (d : Dev) (s : Nat) : Dev :=
  let d1 := { d with cph := { d.cph with keys := Tbl.del d.cph.keys s } }
  (d1.put (Reg.CPH_SLOT_STAT.STATE s) slotEmpty).put (Reg.CPH_SLOT_STAT.SOURCE s) 0

/-- The default integrity keys of channel n (R146). -/
def Dev.defaultKeys (d : Dev) (n : Nat) : Dev :=
  (d.loadSlot (8 * n + 2) (Config.lineDefault 2) slotDefault 6).loadSlot (8 * n + 3) (Config.lineDefault 3) slotDefault 6

/-- A key is loaded into a slot; a master session key derives its three others. -/
def Dev.takeKey (d : Dev) (s key source : Nat) : Dev :=
  let d1 := d.loadSlot s key slotValid source
  if isMaster s then
    d1.each [1, 2, 3] (fun d i => d.loadSlot (s + i) (Config.lineDerive key d.chip.serial i) slotValid 5)
  else d1

/-! ### Key wrap (RFC 3394, R141) -/

/-- 64-bit blocks of a number, most significant first. -/
def blocks64 (v : Nat) : Nat → List Nat
  | 0 => []
  | n + 1 => v / 2 ^ (64 * n) % 2 ^ 64 :: blocks64 v n

/-- One pass of the wrap over the blocks: `t` is the number of the last step made. -/
def wrapPass (kek : Nat) : Nat → Nat → List Nat → Nat × Nat × List Nat
  | a, t, [] => (a, t, [])
  | a, t, r :: rs =>
    let b := Config.aes256 kek (a * 2 ^ 64 + r)
    let (a', t', rs') := wrapPass kek ((b / 2 ^ 64) ^^^ (t + 1)) (t + 1) rs
    (a', t', b % 2 ^ 64 :: rs')

/-- The wrapped form of a key of `n` 64-bit blocks, as `n + 1` blocks. -/
def keyWrap (kek key n : Nat) : List Nat :=
  let (a, _, r) := (List.range 6).foldl (fun (x : Nat × Nat × List Nat) _ => wrapPass kek x.1 x.2.1 x.2.2)
    (0xA6A6A6A6A6A6A6A6, 0, blocks64 key n)
  a :: r

/-- One pass of the unwrap, over the blocks last to first: `t` is the number of the step to undo. -/
def unwrapPass (kek : Nat) : Nat → Nat → List Nat → Nat × Nat × List Nat
  | a, t, [] => (a, t, [])
  | a, t, r :: rs =>
    let b := Config.aes256Inv kek ((a ^^^ t) * 2 ^ 64 + r)
    let (a', t', rs') := unwrapPass kek (b / 2 ^ 64) (t - 1) rs
    (a', t', b % 2 ^ 64 :: rs')

/-- The key in a wrapped form, or none when its integrity check fails. -/
def keyUnwrap (kek : Nat) (form : List Nat) : Option Nat :=
  match form with
  | [] => none
  | c :: r =>
    let (a, _, x) := (List.range 6).foldl (fun (x : Nat × Nat × List Nat) _ => unwrapPass kek x.1 x.2.1 x.2.2)
      (c, 6 * r.length, r.reverse)
    if a = 0xA6A6A6A6A6A6A6A6 then some (x.reverse.foldl (fun v b => v * 2 ^ 64 + b) 0) else none

/-- Debug permissions open now (R418). -/
def Dev.dbgPerm (d : Dev) : Nat := if d.tru.shadow.debugLock then d.tru.opened else 0x1F

/-- The secret K of the die, from its unclonable source with the helper data (R415). -/
def Dev.secret (d : Dev) : List Byte := beBytes (Config.pufSecret d.chip.serial d.tru.shadow.pufHelper) 32

/-- The seed of the identity key pair, and its public key (R415). -/
def Dev.identitySeed (d : Dev) : Nat := Config.shake256 (d.secret ++ ascii "OCRH-ID")
def Dev.identityKey (d : Dev) : List Byte := Config.falconPublic d.identitySeed

/-- The device wrap key, when the identity has been derived: another one while a debug permission 1 to 3 is open (R415). -/
def Dev.wrapKey (d : Dev) : Option Nat :=
  let tail := if d.dbgPerm / 2 % 8 = 0 then "OCRH-WRAP" else "OCRH-DBGWRAP"
  if d.tru.ident then some (beAt (digest (d.secret ++ ascii tail)) 0 32) else none

/-- 64-bit blocks in a slot's key: two, or four for a 256-bit key. -/
def slotBlocks (s : Nat) : Nat := if s < 32 then 2 else 4

/-- Blocks as 32-bit words. -/
def blockWords (l : List Nat) : List Nat := l.flatMap (fun b => [b / 2 ^ 32, b % 2 ^ 32])

/-- The key input as a plain key, and as a wrapped form. -/
def plainOf (s : Nat) (w : List Nat) : Nat := (w.take (2 * slotBlocks s)).foldl (fun v x => v * 2 ^ 32 + x) 0
def formOf (s : Nat) (w : List Nat) : List Nat :=
  (List.range (slotBlocks s + 1)).map (fun i => w.getD (2 * i) 0 * 2 ^ 32 + w.getD (2 * i + 1) 0)

/-! ### Key commands (R139–R141) -/

def kcLoadPlain : Nat := 1
def kcLoadDev : Nat := 2
def kcLoadLink : Nat := 3
def kcGenerate : Nat := 4
def kcInvalidate : Nat := 5

def kBadSlot : Nat := 0x01
def kInUse : Nat := 0x02
def kUnwrapFail : Nat := 0x03
def kPlainDenied : Nat := 0x04

/-- The operation is permitted on the slot. -/
def kcPermits (op s : Nat) : Bool :=
  if op = 1 then isMaster s || isTransport s || isRiserData s
  else if op = 2 then !isDerived s
  else if op = 3 then isRiserData s
  else if op = 4 then isLineData s || isRiserData s || isTransport s
  else true

/-- The transport key of the port of a riser data slot; none while its slot is not VALID. -/
def Dev.linkKey (d : Dev) (s : Nat) : Option Nat :=
  let t := 48 + (s - 32) / 4
  if d.slotState t = slotValid then some (d.key t) else none

/-- The key that a load takes from its input, or none when the unwrap fails; a form wrapped under a transport key that the
store does not hold fails (notes/assumptions/56.md). -/
def Dev.inputKey (d : Dev) (j : KeyJob) : Option Nat :=
  if j.op = 1 then some (plainOf j.slot j.keyIn)
  else if j.op = 2 then d.wrapKey.bind (fun k => keyUnwrap k (formOf j.slot j.keyIn))
  else if j.op = 3 then (d.linkKey j.slot).bind (fun k => keyUnwrap k (formOf j.slot j.keyIn))
  else none

/-- The status with which a command ends: PLAIN_EN as it was when the command was issued, all else as it is now, at the
command's end (notes/assumptions/56.md). -/
def Dev.keyStatus (d : Dev) (j : KeyJob) : Nat :=
  if 52 ≤ j.slot then kBadSlot
  else if ¬ d.slotHere j.slot then 0x07
  else if ¬ kcPermits j.op j.slot then kBadSlot
  else if d.slotCurrent j.slot then kInUse
  else if (j.op = 2 ∨ j.op = 3) ∧ (d.inputKey j).isNone then kUnwrapFail
  else if j.op = 4 ∧ d.wrapKey.isNone then kUnwrapFail
  else if j.op = 1 ∧ isRiserData j.slot ∧ j.plain = false then kPlainDenied
  else 0

/-- Write words into CPH.WRAP_OUT from `i` on. -/
def Dev.wrapOut (d : Dev) (i : Nat) (w : List Nat) : Dev :=
  d.each (List.range w.length) (fun d k => d.put (Reg.CPH_WRAP_OUT.DATA (i + k)) (w.getD k 0))

/-- Number of 128-bit draws and the new key of a slot (R137: always the same number). -/
def Dev.drawKey (d : Dev) (s : Nat) : Dev × Nat :=
  let v := d.freeVal (64 * slotBlocks s)
  (d.freed.rngUsed, v)

/-- The record of R148, in 14 words and the index and count word. -/
def Dev.lineKeyRec (d : Dev) (n idx key dev : Nat) : Dev :=
  let kek := d.key (8 * n + 1)
  let form := blockWords (keyWrap dev key 2)
  let be4 : Nat → List Nat := fun v => (List.range 4).map (fun i => v / 2 ^ (32 * (3 - i)) % 2 ^ 32)
  let w := be4 (Config.kekWrap kek key) ++ be4 (Config.keyName kek key) ++ form
  let cnt := bits (d.fld (Reg.CPH_LINE_KEYREC.DATA n 14)) 8 8
  let d1 := d.each (List.range 14) (fun d i => d.put (Reg.CPH_LINE_KEYREC.DATA n i) (w.getD i 0))
  (d1.put (Reg.CPH_LINE_KEYREC.DATA n 14) (idx + (cnt + 1) % 2 ^ 8 * 2 ^ 8)).ev Reg.CPH_EVT.LINE_KEYREC

/-- The form of a riser data key that is wrapped under the port's transport key, in ten words: free ones while that slot is
not VALID; 0 for any other slot (R141, notes/assumptions/56.md). -/
def Dev.linkForm (d : Dev) (s key : Nat) : Dev × List Nat :=
  if isRiserData s then
    match d.linkKey s with
    | some k => (d, blockWords (keyWrap k key 4))
    | none => (d.freed, blockWords (blocks64 (d.freeVal 320) 5))
  else (d, List.replicate 10 0)

/-- GENERATE: a fresh key, and its wrapped forms (R141, R148). What WRAP_OUT holds for a line data key is the model's reading:
its device-wrapped form, and zeros behind it (notes/assumptions/56.md). -/
def Dev.generate (d : Dev) (j : KeyJob) (dev : Nat) : Dev :=
  let (d1, key) := d.drawKey j.slot
  let d2 := d1.takeKey j.slot key 4
  if j.tender then d2.lineKeyRec (j.slot / 8) (j.slot % 8 - 3) key dev
  else
    let a := blockWords (keyWrap dev key (slotBlocks j.slot))
    let (d3, b) := d2.linkForm j.slot key
    (d3.wrapOut 0 (padTo10 a)).wrapOut 10 b
where
  /-- ten words -/
  padTo10 (l : List Nat) : List Nat := l ++ List.replicate (10 - l.length) 0

/-- INVALIDATE; on a master session key its derived slots return to their default or empty state (R146). -/
def Dev.invalidate (d : Dev) (s : Nat) : Dev :=
  let d1 := d.emptySlot s
  if isMaster s then (d1.emptySlot (s + 1)).defaultKeys (s / 8) else d1

/-- What a command that is not refused does. -/
def Dev.keyEffect (d : Dev) (j : KeyJob) : Dev :=
  if j.op = 4 then (match d.wrapKey with | some k => d.generate j k | none => d)
  else if j.op = 5 then d.invalidate j.slot
  else match d.inputKey j with
    | some k => d.takeKey j.slot k j.op
    | none => d

/-- KEY_IN as it stands. -/
def Dev.keyInput (d : Dev) : List Nat := (List.range 10).map (fun i => d.fld (Reg.CPH_KEY_IN.DATA i))

/-- The first command of the queue starts: one from KEY_CMD samples KEY_IN. -/
def Dev.keyStart (d : Dev) : Dev :=
  match d.cph.jobs with
  | [] => d
  | j :: r => { d with cph := { d.cph with jobs := { j with keyIn := if j.tender then j.keyIn else d.keyInput } :: r } }

/-- A command joins the engine's queue. -/
def Dev.keyQueue (d : Dev) (j : KeyJob) : Dev :=
  let first := d.cph.jobs.isEmpty
  ({ d with cph := { d.cph with jobs := d.cph.jobs ++ [j] } }).iff first (·.keyStart)

/-- A write of CPH.KEY_CMD (R139, R140). -/
def Dev.keyCmd (d : Dev) (op s : Nat) : Dev :=
  if !d.cphUp then d
  else if d.on Reg.CPH_KEY_STAT.BUSY then d.ev Reg.CPH_KEY_STAT.IGNORED
  else if op = 0 ∨ 6 ≤ op then d
  else (d.put Reg.CPH_KEY_STAT.BUSY 1).keyQueue { op := op, slot := s, plain := d.on Reg.CPH_CTRL.PLAIN_EN }

/-- The running command completes: the slot takes its new state, the status is set, and the next command starts.
Answers the command that completed, with its status. -/
def Dev.keyDone (d : Dev) : Dev × Option (KeyJob × Nat) :=
  match d.cph.jobs with
  | [] => (d, none)
  | j :: r =>
    let st := d.keyStatus j
    let d1 := { d with cph := { d.cph with jobs := r } }
    let d2 := if st = 0 then d1.keyEffect j else d1
    let d3 := if j.tender then d2 else (d2.put Reg.CPH_KEY_STAT.STATUS st).put Reg.CPH_KEY_STAT.BUSY 0
    ((d3.ev Reg.CPH_EVT.CMD_DONE).keyStart, some (j, st))

/-! ### Line keys (R142–R146) -/

/-- Switch of the upstream key for a burst whose map came with count `sfc` (R144). -/
def Dev.lineSwitch (d : Dev) (n sfc : Nat) : Dev :=
  let sw := d.wide (Reg.CPH_LINE_SW_LO.SFC n) (Reg.CPH_LINE_SW_HI.SFC n)
  if d.cphLineUp && d.on (Reg.CPH_LINE_US_CTRL.SW_ARM n) && decide (sw ≤ sfc) then
    let d1 := d.put (Reg.CPH_LINE_US_CTRL.SW_ARM n) 0
    if d.slotState (lineSlot n (d.nextIdx n)) = slotValid then d1.put (Reg.CPH_LINE_US_CTRL.CUR_IDX n) (d.nextIdx n)
    else (d1.bump (Reg.CPH_LINE_CNT.COUNT n 5)).ev Reg.CPH_EVT.KEY_LATE
  else d

/-- SW_ARM written 1 (R144): refused when the count is not ahead of the latest adopted one (`latest`). An engine held in
reset takes the bit alone (R47). -/
def Dev.lineArm (d : Dev) (n latest : Nat) : Dev :=
  let sw := d.wide (Reg.CPH_LINE_SW_LO.SFC n) (Reg.CPH_LINE_SW_HI.SFC n)
  if latest < sw ∨ d.cphUp = false then d.put (Reg.CPH_LINE_US_CTRL.SW_ARM n) 1
  else ((d.put (Reg.CPH_LINE_US_CTRL.SW_ARM n) 0).bump (Reg.CPH_LINE_CNT.COUNT n 5)).ev Reg.CPH_EVT.KEY_LATE

/-- The line margin of R145. -/
def Dev.lineExh (d : Dev) (s : Nat) : Dev :=
  if 2 ^ 51 - d.slotCtr s ≤ d.fld Reg.CPH_EXH_MARGIN.LINE_MARGIN * 2 ^ 32 ∧ ¬ d.on (Reg.CPH_SLOT_STAT.EXH s) then
    (d.put (Reg.CPH_SLOT_STAT.EXH s) 1).ev Reg.CPH_EVT.KEY_EXH
  else d

/-- A burst of channel n under a map with count `sfc` asks for its upstream key, of index `i` (R144, R145): 0
unenciphered, the index, or none when data must wait. -/
def Dev.burstKey (d : Dev) (n i sfc : Nat) : Dev × Option Nat :=
  let s := lineSlot n i
  if i = 0 then (d, some 0)
  else
    let st := d.slotState s
    if st = slotValid ∧ d.cphLineUp ∧ sfc < d.slotCtr s then
      (((d.put (Reg.CPH_SLOT_STAT.STATE s) slotRefused).ev Reg.CPH_EVT.KEY_REFUSED).bump (Reg.CPH_LINE_CNT.COUNT n 4), none)
    else if st = slotValid ∧ d.cphLineUp then (d, some i)
    else (d.bump (Reg.CPH_LINE_CNT.COUNT n 4), none)

/-- A burst has enciphered `k` data frames under index `i` (R145, R155). -/
def Dev.burstUsed (d : Dev) (n i sfc k : Nat) : Dev :=
  if i = 0 ∨ k = 0 then d
  else ((d.setSlotCtr (lineSlot n i) sfc).bumpBy (Reg.CPH_LINE_CNT.COUNT n 1) k).lineExh (lineSlot n i)

/-- The downstream slot of a unit (R143). -/
def dsSlot (n kind idx : Nat) : Nat := if kind = 1 then 8 * n + 5 + idx else 8 * n + 3 + idx

/-- The plain bytes of a unit that came in XGEM payloads of these positions and lengths: each has its own keystream, under
the count of the unit's frame (R68, R142). It runs on over the padding behind a payload (R147), which nothing keeps. -/
def lineClear (key sfc : Nat) : List (Nat × Nat) → List Byte → List Byte
  | [], b => b
  | (pos, len) :: r, b =>
    (b.take len).zipIdx.map (fun (x : Byte × Nat) => x.1 ^^^ BitVec.ofNat 8 (Config.lineStream key sfc pos x.2)) ++
      lineClear key sfc r (b.drop len)

/-- Decrypt a unit of channel n in a frame with count `sfc` (R142, R143): its plain bytes, or none when it is discarded and
counted. `spans` gives the position and length of each XGEM payload that carried it. -/
def Dev.lineDecrypt (d : Dev) (n kind idx sfc : Nat) (spans : List (Nat × Nat)) (b : List Byte) : Dev × Option (List Byte) :=
  if idx = 0 then (d, some b)
  else if idx = 3 then (d.bump (Reg.CPH_LINE_CNT.COUNT n 3), none)
  else
    let s := dsSlot n kind idx
    if d.slotState s = slotValid ∧ d.cphLineUp then
      (d.bump (Reg.CPH_LINE_CNT.COUNT n 0), some (lineClear (d.key s) sfc spans b))
    else (d.bump (Reg.CPH_LINE_CNT.COUNT n 2), none)

/-- AES-CMAC of R147, most significant byte first, over a block cipher key of 128 bits. -/
def cmacDouble (v : Nat) : Nat :=
  let w := v * 2 % 2 ^ 128
  if bitOf v 127 then w ^^^ 0x87 else w

def cmacBlocks (key : Nat) : Nat → List Nat → Nat
  | x, [] => x
  | x, b :: r => cmacBlocks key (Config.aes128 key (x ^^^ b)) r

def cmac (key : Nat) (m : List Byte) : Nat :=
  let k1 := cmacDouble (Config.aes128 key 0)
  let k2 := cmacDouble k1
  let n := cdiv m.length 16
  let full := n != 0 && m.length % 16 == 0
  let n := max 1 n
  let init := (List.range (n - 1)).map (fun i => beAt m (16 * i) 16)
  let tail := m.drop (16 * (n - 1))
  let last := if full then beAt tail 0 16 ^^^ k1
    else beAt (padTo 16 (tail ++ [(0x80 : Byte)])) 0 16 ^^^ k2
  cmacBlocks key 0 (init ++ [last])

/-- The integrity code of a PLOAM message whose other bytes are `b`: the high half of its CMAC under slot 8n + 2. -/
def Dev.ploamMic (d : Dev) (n dir : Nat) (b : List Byte) : List Byte :=
  beBytes (cmac (d.key (8 * n + 2)) (Config.ploamSpan dir b) / 2 ^ 64) 8

/-- The integrity code of an OMCI unit whose other bytes are `b`: the high word of its CMAC under slot 8n + 3. -/
def Dev.omciMic (d : Dev) (n dir : Nat) (b : List Byte) : List Byte :=
  beBytes (cmac (d.key (8 * n + 3)) (Config.omciSpan dir b) / 2 ^ 96) 4

/-- The last 8 bytes of a downstream PLOAM message are its integrity code. -/
def Dev.ploamMicOk (d : Dev) (n : Nat) (msg : List Byte) : Bool :=
  let k := msg.length - 8
  d.cphLineUp && d.slotState (8 * n + 2) != slotEmpty && msg.drop k == d.ploamMic n 0 (msg.take k)

/-- The last 4 bytes of a downstream OMCI unit are its integrity code. -/
def Dev.omciMicOk (d : Dev) (n : Nat) (msg : List Byte) : Bool :=
  let k := msg.length - 4
  d.cphLineUp && d.slotState (8 * n + 3) != slotEmpty && msg.drop k == d.omciMic n 0 (msg.take k)

/-! ### Riser keys (R149–R152) -/

/-- The initial value of R149. -/
def gcmIv (dev port lower ctr : Nat) : Nat :=
  (dev % 32 * 8 + port % 4 * 2 + lower % 2) * 2 ^ 88 + ctr % 2 ^ 48

/-- The transmit slot's next wagon may be enciphered. -/
def Dev.txKeyOk (d : Dev) (p : Nat) : Bool := d.cphRiserUp && d.slotState (d.txSlot p) == slotValid

/-- A wagon uses the next counter of the transmit slot (R150): margin and exhaustion. Answers the counter. -/
def Dev.useCounter (d : Dev) (p : Nat) : Dev × Nat :=
  let s := d.txSlot p
  let c := d.slotCtr s + 1
  let d1 := (d.setSlotCtr s c).bump (Reg.CPH_RSR_CNT.COUNT p 0)
  let exh := decide (2 ^ 48 - 1 - c ≤ d.fld Reg.CPH_EXH_MARGIN.RSR_MARGIN * 2 ^ 24) && !d.on (Reg.CPH_SLOT_STAT.EXH s)
  let d2 := d1.iff exh (fun d => (d.put (Reg.CPH_SLOT_STAT.EXH s) 1).ev Reg.CPH_EVT.KEY_EXH)
  (d2.iff (decide (2 ^ 48 - 1 ≤ c)) (fun d => (d.put (Reg.CPH_SLOT_STAT.STATE s) slotRefused).ev Reg.CPH_EVT.KEY_REFUSED), c)

/-- XOR with the GCM keystream. -/
def gcmXor (key iv : Nat) (b : List Byte) : List Byte :=
  b.zipIdx.map (fun (x : Byte × Nat) => x.1 ^^^ BitVec.ofNat 8 (Config.gcmStream key iv x.2))

/-- An instant given by seconds [31:0] and nanoseconds, nearest to the read time (R152, R303). -/
def Dev.nearTime (d : Dev) (sec ns : Nat) : Int :=
  let base : Nat := secOf d.time / 2 ^ 32
  let at_ : Int → Int := fun k => (k * 2 ^ 32 + (sec : Int)) * secU + (ns : Int) * nsU
  let c := at_ base
  let up := at_ (base + 1)
  let dn := at_ ((base : Int) - 1)
  let dist : Int → Nat := fun x => (x - d.time).natAbs
  if dist up < dist c then up else if base ≠ 0 ∧ dist dn < dist c then dn else c

/-- SW_ARM of a transmit switch written 1 (R152). -/
def Dev.rsrArm (d : Dev) (p : Nat) : Dev :=
  let t := d.nearTime (d.fld (Reg.CPH_RSR_SW_SEC.SEC p)) (d.fld (Reg.CPH_RSR_SW_NS.NS p))
  { d.put (Reg.CPH_RSR_CTRL.SW_ARM p) 1 with cph := { d.cph with rsrAt := Tbl.set d.cph.rsrAt p t } }

/-- The armed switch of port p falls due with a wagon whose start leaves the pins at `at_` (R152). -/
def Dev.rsrDue (d : Dev) (p : Nat) (at_ : Int) : Bool :=
  d.cphRiserUp && d.on (Reg.CPH_RSR_CTRL.SW_ARM p) && decide (Tbl.get d.cph.rsrAt p 0 ≤ at_)

/-- The switch: the other slot with the inverted phase, and the old slot invalidated; or KEY_LATE (R152). -/
def Dev.rsrSwitch (d : Dev) (p : Nat) (at_ : Int) : Dev :=
  if d.rsrDue p at_ then
    let d1 := d.put (Reg.CPH_RSR_CTRL.SW_ARM p) 0
    let ph := d.fld (Reg.CPH_RSR_CTRL.TX_PHASE p)
    if d.slotState (riserSlot p 0 (1 - ph)) = slotValid then
      (d1.emptySlot (riserSlot p 0 ph)).put (Reg.CPH_RSR_CTRL.TX_PHASE p) (1 - ph)
    else (d1.bump (Reg.CPH_RSR_CNT.COUNT p 6)).ev Reg.CPH_EVT.KEY_LATE
  else d

/-- A wagon of port p enciphered with phase `ph` and counter `c` has passed: the record, and a change of phase (R151,
R152). -/
def Dev.rxAccept (d : Dev) (p ph c : Nat) : Dev :=
  let d1 := (d.setSlotCtr (riserSlot p 1 ph) c).bump (Reg.CPH_RSR_CNT.COUNT p 1)
  if ph = d.fld (Reg.CPH_RSR_CTRL.RX_PHASE p) then d1
  else (d1.emptySlot (riserSlot p 1 (1 - ph))).put (Reg.CPH_RSR_CTRL.RX_PHASE p) ph

/-! ### Reset (R154) -/

/-- The engine is put into reset: every slot becomes EMPTY, commands are given up, the engine's status and counters
return to reset; an armed switch is given up with them, as in the reset of a line channel (notes/assumptions/28.md). -/
def Dev.cphHold (d : Dev) : Dev :=
  let d1 := (d.unitClear 0x200000 0x2FFFFF).each (List.range 4) (fun d i =>
    (d.put (Reg.CPH_LINE_US_CTRL.SW_ARM i) 0).put (Reg.CPH_RSR_CTRL.SW_ARM i) 0)
  { d1 with cph := {} }

/-- The engine is released: the Tender, where there is one, restores the default integrity keys. -/
def Dev.cphRelease (d : Dev) : Dev :=
  d.each ((List.range 4).filter (fun n => d.lnUp n && d.tenderHere && d.cphLineHere)) (fun d n => d.defaultKeys n)

end Sys2Proof.Machine
end

