-- ==== Sys2Proof/Machine/Line.lean ====
section
/-!
DEFINITION. Downstream reception of a line channel (spec/02): equaliser registers, framer, codeword counts, XGEM
delineation and reassembly, trace comparison, defects and performance monitoring. What the analogue receiver, the
pattern matcher and the decoders report comes with the commands.
-/
namespace Sys2Proof.Machine

def Dev.line (d : Dev) (n : Nat) : Line := Tbl.get d.lines n {}
def Dev.setLine (d : Dev) (n : Nat) (x : Line) : Dev := { d with lines := Tbl.set d.lines n x }

/-- The channel's receiver runs: released and RX_EN 1. -/
def Dev.rxOn (d : Dev) (n : Nat) : Bool := d.lnUp n && d.on (Reg.LN_CTRL.RX_EN n)

/-- The framer's state: 0 HUNT, 1 PRESYNC, 2 SYNC. -/
def Dev.framer (d : Dev) (n : Nat) : Nat := d.fld (Reg.LN_SYNC_STAT.STATE n)

/-- A running counter of R76 counts `v`. -/
def Dev.lineCnt (d : Dev) (n k v : Nat) : Dev :=
  let x := d.line n
  d.setLine n { x with run := Tbl.set x.run k (min (2 ^ 48 - 1) (Tbl.get x.run k 0 + v)) }

/-! ### Defects (R70, R71) -/

def dDSD : Nat := 0
def dLOL : Nat := 1
def dLOF : Nat := 2
def dUCW : Nat := 3
def dBerSd : Nat := 4
def dBerSf : Nat := 5
def dPonid : Nat := 6
def dCprof : Nat := 7
def dAmbig : Nat := 8

/-- Defect k of channel n in DEF_STAT and in DEF_STICKY. -/
def defFld (n k : Nat) : Fld := ⟨Reg.LN_DEF_STAT.ADR n, k, 1⟩
def stickyFld (n k : Nat) : Fld := ⟨Reg.LN_DEF_STICKY.ADR n, k, 1⟩

def Dev.defect (d : Dev) (n k : Nat) : Bool := d.on (defFld n k)

/-- A defect is raised: live state, sticky bit, and seen in this second. -/
def Dev.defRaise (d : Dev) (n k : Nat) : Dev :=
  if d.defect n k then d
  else
    let d1 := (d.put (defFld n k) 1).ev (stickyFld n k)
    d1.setLine n { d1.line n with seen := setBit (d1.line n).seen k true }

/-- A defect stands at its reset value, 1: it has stood in this second (R74). -/
def Dev.defStand (d : Dev) (n k : Nat) : Dev :=
  (d.setLine n { d.line n with seen := setBit (d.line n).seen k true }).put (defFld n k) 1

def Dev.defClear (d : Dev) (n k : Nat) : Dev := d.put (defFld n k) 0

def Dev.defPut (d : Dev) (n k : Nat) (b : Bool) : Dev := if b then d.defRaise n k else d.defClear n k

/-- LCn_SD, read under SD_POL, reports signal. -/
def Dev.sdSignal (d : Dev) (n : Nat) : Bool := (d.line n).sd != d.on (Reg.LN_CTRL.SD_POL n)

/-- DEF_STAT.DSD at its reset value, which is the pin's (R71): what a reset leaves, and what it reads while a reset lasts. -/
def Dev.dsdPin (d : Dev) (n : Nat) : Dev :=
  if d.sdSignal n then d.unput (defFld n dDSD) else d.defStand n dDSD

/-! ### Equaliser (R49–R52) -/

/-- Coefficient i: 0 to 30 of the FFE, 31 to 33 of the DFE. -/
def coefFld (n i : Nat) : Fld := if i < 31 then Reg.LN_FFE.COEF n i else Reg.LN_DFE.COEF n (i - 31)

/-- A DFE coefficient is clamped to ±0.5. -/
def coefClamp (i v : Nat) : Nat := if i < 31 then v % 1024 else unsigned 10 (clampI (-128) 128 (signed 10 v))

/-- FFE_WRITE: only while ADAPT is 0. -/
def Dev.ffeWrite (d : Dev) (n i v : Nat) : Dev :=
  if d.fld (Reg.LN_EQ_CTRL.ADAPT n) = 0 then d.put (coefFld n i) (coefClamp i v) else d

/-- Adaptation moves the coefficients now (R50); in a reset or with RX_EN 0 the clock recovery is unlocked. -/
def Dev.adapts (d : Dev) (n : Nat) : Bool :=
  let a := d.fld (Reg.LN_EQ_CTRL.ADAPT n)
  d.on (Reg.LN_CTRL.RX_EN n) && (a == 1 || (a == 2 && !d.on (Reg.LN_EQ_STAT.ADAPT_DONE n))) && !d.defect n dDSD && d.on (Reg.LN_EQ_STAT.CDR_LOCK n)

/-- Adaptation has moved the coefficients: what it arrives at is a free value, with the DFE within its clamp. -/
def Dev.adapted (d : Dev) (n : Nat) : Dev :=
  d.each (List.range 34) (fun d i => (d.put (coefFld n i) (coefClamp i (d.freeVal 10))).freed)

/-- The coefficients as adaptation has moved them up to now; where it does not run they are held (R50). -/
def Dev.adaptNow (d : Dev) (n : Nat) : Dev := if d.adapts n then d.adapted n else d

/-- The snapshot that an aligned read of LN.FFE[0] takes (R51). -/
def Dev.ffeSnapshot (d : Dev) (n : Nat) : Dev :=
  let d1 := d.adaptNow n
  { d1 with latch := (List.range 34).foldl (fun t i => Tbl.set t (coefFld n i).adr (d1.fld (coefFld n i))) d1.latch }

/-- EQ_ACQ_DONE: the acquisition of ADAPT 2 ends and the coefficients freeze (R50). -/
def Dev.acqDone (d : Dev) (n : Nat) : Dev :=
  if d.rxOn n && d.fld (Reg.LN_EQ_CTRL.ADAPT n) == 2 && !d.on (Reg.LN_EQ_STAT.ADAPT_DONE n) then
    (d.adaptNow n).ev (Reg.LN_EQ_STAT.ADAPT_DONE n)
  else d

/-- PRESET: the main tap 1.0 and all other taps 0, while ADAPT is 0. -/
def Dev.eqPreset (d : Dev) (n : Nat) : Dev :=
  if d.fld (Reg.LN_EQ_CTRL.ADAPT n) = 0 then
    d.each (List.range 34) (fun d i => d.put (coefFld n i) (if i = (d.line n).mainTap then 0x100 else 0))
  else d

/-! ### Reassembly (R67) -/

/-- Every open reassembly is aborted, each counted once. -/
def Dev.abortAll (d : Dev) (n : Nat) : Dev :=
  let k := (d.line n).reasm.length
  (d.setLine n { d.line n with reasm := [] }).lineCnt n 16 k

/-- Delineation is lost for the rest of the FS payload (R63). -/
def Dev.delinLost (d : Dev) (n : Nat) : Dev := (d.setLine n { d.line n with delin := false }).abortAll n

/-- The reassembly of one port is aborted. -/
def Dev.abortOne (d : Dev) (n port : Nat) : Dev :=
  let x := d.line n
  if x.reasm.any (·.port == port) then
    (d.setLine n { x with reasm := x.reasm.filter (·.port != port) }).lineCnt n 16 1
  else d

/-! ### Framer (R53–R58) -/

/-- CONFIRM_N, LOSS_M and the tolerances with their limits. -/
def Dev.confirmN (d : Dev) (n : Nat) : Nat := min 4 (max 1 (d.fld (Reg.LN_SYNC_CTRL.CONFIRM_N n)))
def Dev.lossM (d : Dev) (n : Nat) : Nat := max 1 (d.fld (Reg.LN_SYNC_CTRL.LOSS_M n))
def Dev.huntTol (d : Dev) (n : Nat) : Nat := min 4 (d.fld (Reg.LN_SYNC_CTRL.HUNT_TOL n))

/-- A superframe-counter structure passes its HEC (R53). -/
def Dev.sfcPass (d : Dev) (n : Nat) (h : Hec) : Bool :=
  match h with
  | .good => true
  | .corrected => d.on (Reg.LN_SYNC_CTRL.HEC_ACCEPT n)
  | .bad => false

/-- Bits of a frame period, and the modulus of the superframe count. -/
def frameBits : Nat := 6220800
def sfcMod : Nat := 2 ^ 51

def Dev.sfc (d : Dev) (n : Nat) : Nat := d.wide (Reg.LN_SFC_LO.SFC n) (Reg.LN_SFC_HI.SFC n)
def Dev.setSfc (d : Dev) (n v : Nat) : Dev := d.putWide (Reg.LN_SFC_LO.SFC n) (Reg.LN_SFC_HI.SFC n) (v % sfcMod)

/-- The candidates, with the state and the count that SYNC_STAT shows for them. -/
def Dev.setCands (d : Dev) (n : Nat) (l : List Candidate) : Dev :=
  ((d.setLine n { d.line n with cands := l }).put (Reg.LN_SYNC_STAT.CANDS n) l.length).put
    (Reg.LN_SYNC_STAT.STATE n) (if l = [] then 0 else 1)

/-- The framer enters HUNT with no candidates; leaving SYNC raises LOF and aborts every reassembly. -/
def Dev.toHunt (d : Dev) (n : Nat) : Dev :=
  let d1 := ((d.setCands n []).put (Reg.LN_SYNC_STAT.MISS_RUN n) 0).defClear n dAmbig
  (d1.setLine n { d1.line n with odd := none }).delinLost n |>.defRaise n dLOF

/-- The framer enters SYNC on a candidate that holds CONFIRM_N confirmations while no other holds one (R56); the candidate
that it adopts is a candidate no longer, so that CANDS is then 0 (notes/assumptions/49.md). -/
def Dev.trySync (d : Dev) (n : Nat) : Dev :=
  let l := (d.line n).cands
  match l.filter (fun c => decide (0 < c.conf)) with
  | [c] =>
    if d.confirmN n ≤ c.conf then
      let d1 := (d.setCands n []).put (Reg.LN_SYNC_STAT.STATE n) 2
      let d2 := ((d1.ev (Reg.LN_EVT.SYNC_GAIN n)).setSfc n c.sfc).put (Reg.LN_SYNC_STAT.MISS_RUN n) 0
      (d2.defClear n dLOF).defClear n dAmbig
    else d.defClear n dAmbig
  | [] => d.defClear n dAmbig
  | _ => d

/-- A PSync pattern with `errs` bit errors at bit position `pos` of the stream, with its superframe-counter structure, in
HUNT or PRESYNC (R53, R54). A window at a live candidate's expected position is that candidate's (R55). -/
def Dev.huntMatch (d : Dev) (n pos errs : Nat) (hec : Hec) (sfc : Nat) : Dev :=
  let l := (d.line n).cands
  if !d.rxOn n || d.framer n == 2 || decide (d.huntTol n < errs) || l.any (fun c => c.pos + frameBits == pos) then d
  else if ¬ d.sfcPass n hec then d.lineCnt n 5 1
  else if 4 ≤ l.length then (d.lineCnt n 5 1).ev (Reg.LN_EVT.CAND_OVF n)
  else d.setCands n (l ++ [{ pos := pos, sfc := sfc % sfcMod }])

/-- The expected position of a candidate, one frame after its position (R55): confirmed or discarded. -/
def Dev.candCheck (d : Dev) (n pos errs : Nat) (hec : Hec) (sfc : Nat) : Dev :=
  let l := (d.line n).cands
  if d.rxOn n && l.any (fun c => c.pos + frameBits == pos) then
    let ok := fun (c : Candidate) => decide (errs ≤ d.huntTol n) && d.sfcPass n hec && sfc % sfcMod == (c.sfc + 1) % sfcMod
    let l1 := l.filterMap (fun c =>
      if c.pos + frameBits ≠ pos then some c
      else if ok c then some { pos := pos, sfc := sfc % sfcMod, conf := c.conf + 1 } else none)
    (d.setCands n l1).trySync n
  else d

/-- AMBIG: two or more candidates hold confirmations for eight frame periods (R56). -/
def Dev.ambig (d : Dev) (n : Nat) : Dev :=
  if d.rxOn n && decide (2 ≤ ((d.line n).cands.filter (fun c => decide (0 < c.conf))).length) then d.defRaise n dAmbig else d

/-- A run of mismatches or matches of a trace comparison, and the defect it raises or clears (R69). -/
def Dev.traceRun (d : Dev) (n k mis ok : Nat) : Dev :=
  let d1 := d.iff (decide (max 1 (d.fld (Reg.LN_TRACE_CTRL.RAISE_N n)) ≤ mis)) (·.defRaise n k)
  d1.iff (decide (max 1 (d.fld (Reg.LN_TRACE_CTRL.CLEAR_N n)) ≤ ok)) (·.defClear n k)

/-- A HEC-valid PON-ID structure (R69). -/
def Dev.ponidRx (d : Dev) (n v : Nat) : Dev :=
  let d1 := d.putWide (Reg.LN_PONID_RX_LO.VALUE n) (Reg.LN_PONID_RX_HI.VALUE n) (v % sfcMod)
  if ¬ d.on (Reg.LN_TRACE_CTRL.PONID_EN n) then d1
  else
    let mask := d.wide (Reg.LN_PONID_MASK_LO.VALUE n) (Reg.LN_PONID_MASK_HI.VALUE n)
    let exp := d.wide (Reg.LN_PONID_EXP_LO.VALUE n) (Reg.LN_PONID_EXP_HI.VALUE n)
    let x := d1.line n
    if (v % sfcMod) &&& mask = exp &&& mask then
      (d1.setLine n { x with ponMis := 0, ponOk := x.ponOk + 1 }).traceRun n dPonid 0 (x.ponOk + 1)
    else
      ((d1.setLine n { x with ponMis := x.ponMis + 1, ponOk := 0 }).lineCnt n 17 1).traceRun n dPonid (x.ponMis + 1) 0

/-- A broadcast Channel_Profile that the Tender accepted (R69). -/
def Dev.cprofRx (d : Dev) (n v : Nat) : Dev :=
  let d1 := d.put (Reg.LN_CPROF.RX n) v
  if ¬ d.on (Reg.LN_TRACE_CTRL.CPROF_EN n) ∨ d.framer n ≠ 2 then d1
  else
    let x := d1.line n
    if v % 2 ^ 16 = d.fld (Reg.LN_CPROF.EXP n) then
      (d1.setLine n { x with cprMis := 0, cprOk := x.cprOk + 1 }).traceRun n dCprof 0 (x.cprOk + 1)
    else
      ((d1.setLine n { x with cprMis := x.cprMis + 1, cprOk := 0 }).lineCnt n 17 1).traceRun n dCprof (x.cprMis + 1) 0

/-- A trace enable written 0 clears its defect and runs (R69). -/
def Dev.traceOff (d : Dev) (n : Nat) : Dev :=
  let d1 := d.iff (!d.on (Reg.LN_TRACE_CTRL.PONID_EN n)) (fun d =>
    (d.setLine n { d.line n with ponMis := 0, ponOk := 0 }).defClear n dPonid)
  d1.iff (!d.on (Reg.LN_TRACE_CTRL.CPROF_EN n)) (fun d =>
    (d.setLine n { d.line n with cprMis := 0, cprOk := 0 }).defClear n dCprof)

/-- The count adopted for the frame in SYNC (R58). -/
def Dev.adopt (d : Dev) (n : Nat) (hec : Hec) (rx : Nat) : Dev :=
  let exp := (d.sfc n + 1) % sfcMod
  let rx := rx % sfcMod
  let x := d.line n
  if ¬ d.sfcPass n hec then ((d.setLine n { x with odd := none }).lineCnt n 6 1).setSfc n exp
  else if rx = exp then (d.setLine n { x with odd := none }).setSfc n exp
  else
    let d1 := d.lineCnt n 7 1
    let jump := match x.odd with | some p => (p + 1) % sfcMod == rx | none => false
    if jump then ((d1.setLine n { d1.line n with odd := none }).setSfc n rx).ev (Reg.LN_EVT.SFC_JUMP n)
    else (d1.setLine n { d1.line n with odd := some rx }).setSfc n exp

/-- Contexts for which a whole FS frame passed with no fragment are aborted, and a new frame begins (R67). -/
def Dev.reasmFrame (d : Dev) (n : Nat) : Dev :=
  let x := d.line n
  let old := x.reasm.filter (fun c => !c.touched)
  (d.setLine n { x with reasm := (x.reasm.filter (·.touched)).map (fun c => { c with touched := false }), delin := false }).lineCnt
    n 16 old.length

/-- The expected PSync position in SYNC (R57, R58): `errs` bit errors, the superframe-counter structure, and the PON-ID
structure where its HEC passes. -/
def Dev.framePsync (d : Dev) (n errs : Nat) (hec : Hec) (sfc : Nat) (ponid : Option Nat) : Dev :=
  if !d.rxOn n || d.framer n != 2 then d
  else
    let miss := decide (d.fld (Reg.LN_SYNC_CTRL.SYNC_TOL n) < errs)
    let run := if miss then d.fld (Reg.LN_SYNC_STAT.MISS_RUN n) + 1 else 0
    let d1 := (d.iff miss (·.lineCnt n 4 1)).put (Reg.LN_SYNC_STAT.MISS_RUN n) run
    if d.lossM n ≤ run then (d1.toHunt n).ev (Reg.LN_EVT.SYNC_LOSS n)
    else
      let d2 := (d1.adopt n hec sfc).reasmFrame n
      match ponid with
      | some v => d2.ponidRx n v
      | none => d2

/-- RX_EN written (R52, R53); while the channel is held in reset only the bit is taken (R47). RX_EN 0 clears the trace
defects, which R70 then has read their reset values, and keeps their runs (notes/assumptions/49.md). -/
def Dev.rxEnable (d : Dev) (n : Nat) (en : Bool) : Dev :=
  let was := d.on (Reg.LN_CTRL.RX_EN n)
  let d1 := (d.iff (!en) (·.adaptNow n)).put (Reg.LN_CTRL.RX_EN n) (bit en)
  if !d.lnUp n then d.put (Reg.LN_CTRL.RX_EN n) (bit en)
  else if en && !was then
    let rssd := d.on (Reg.LN_EQ_CTRL.RSSD_EN n)
    let d2 := (d1.put (Reg.LN_RX_LAT.LAT n) (if rssd then 456 else 392)).put (Reg.LN_EQ_STAT.ADAPT_DONE n) 0
    let d3 := d2.setLine n { d2.line n with mainTap := min 30 (d.fld (Reg.LN_EQ_CTRL.MAIN_TAP n)), odd := none, suspect := true }
    (d3.setCands n []).put (Reg.LN_SYNC_STAT.MISS_RUN n) 0
  else if !en && was then
    let d2 := (((d1.setCands n []).put (Reg.LN_SYNC_STAT.MISS_RUN n) 0).delinLost n).put (Reg.LN_EQ_STAT.CDR_LOCK n) 0
    let d3 := ((d2.defStand n dLOL).defStand n dLOF).each [dUCW, dBerSd, dBerSf, dPonid, dCprof, dAmbig]
      (fun d k => d.defClear n k)
    d3.setLine n { d3.line n with suspect := true, odd := none, ucwRun := 0, goodRun := 0, sdRun := 0, sfRun := 0 }
  else d1

/-! ### Codewords (R60, R70) -/

/-- The decision on a codeword: its corrected bits, or none when it is uncorrectable. -/
def Dev.codeword (d : Dev) (n : Nat) (corr : Option Nat) : Dev :=
  if !d.rxOn n || d.framer n != 2 then d
  else
    let d1 := d.lineCnt n 0 1
    let x := d1.line n
    match corr with
    | none =>
      let r := x.ucwRun + 1
      ((d1.setLine n { x with ucwRun := r, goodRun := 0 }).lineCnt n 2 1).iff
        (decide (max 1 (d.fld (Reg.LN_SD_CTRL.UCW_N n)) ≤ r)) (·.defRaise n dUCW)
    | some c =>
      let r := x.goodRun + 1
      let d2 := (d1.setLine n { x with ucwRun := 0, goodRun := r }).iff (c != 0) (fun d => (d.lineCnt n 1 1).lineCnt n 3 c)
      d2.iff (decide (max 1 (d.fld (Reg.LN_SD_CTRL.UCW_CLR n)) ≤ r)) (·.defClear n dUCW)

/-! ### XGEM delineation (R62–R68) -/

def Dev.maxSdu (d : Dev) (n : Nat) : Nat := max 64 (d.fld (Reg.LN_XGEM_CTRL.MAX_SDU n))

/-- The entries of LN.XPORT in use with this port-ID, in rising index (only entries written 1 in VALID are listed). -/
def Dev.xports (d : Dev) (n port : Nat) : List Nat :=
  (d.regs.filterMap (fun e =>
    let a := e.1 / 32
    let b := Reg.LN_XPORT.ADR n 0
    if b ≤ a ∧ a < b + 4 * 4096 ∧ e.1 % 32 = 16 ∧ e.2 = 1 then some ((a - b) / 4) else none)).filter (fun i =>
      d.fld (Reg.LN_XPORT.PORT_ID n i) == port && !(d.line n).badPorts.contains i)

/-- XPORT_WRITE (R64): an entry of KIND 3 without bonding, or a second entry of KIND 2, does not count as valid. Of
two entries of KIND 2 the one written later is the second, and XPORT_BAD sets at a write with VALID 1
(notes/assumptions/49.md). -/
def Dev.xportWrite (d : Dev) (n i v : Nat) : Dev :=
  let kind := bits v 17 2
  let valid := bitOf v 16
  let x := d.line n
  let bad := x.badPorts.filter (· != i)
  let d1 := ((d.put (Reg.LN_XPORT.PORT_ID n i) v).put (Reg.LN_XPORT.VALID n i) (bit valid)).put (Reg.LN_XPORT.KIND n i) kind
  let second := kind == 2 && (List.range 4096).any (fun j =>
    j != i && d.fld (Reg.LN_XPORT.KIND n j) == 2 && d.on (Reg.LN_XPORT.VALID n j) && !bad.contains j)
  if valid && ((kind == 3 && !d.bondHere) || second) then
    (d1.setLine n { x with badPorts := i :: bad }).iff (d.lnUp n) (·.ev (Reg.LN_EVT.XPORT_BAD n))
  else d1.setLine n { x with badPorts := bad }

/-- In protection mode the channel's side stands by (R126, R127). -/
def Dev.standsBy (d : Dev) (n : Nat) : Bool :=
  d.fld Reg.LN_LINE_MODE.MODE == 2 && (if d.protBHere then n / 2 else n) != d.fld Reg.LN_PROT_STAT.ACTIVE

/-- The stamp of an XGEM header: the PSync of its frame, and the header's offset from it (R249, R250). -/
def Dev.lineStamp (d : Dev) (n : Nat) (st : Strobe) : Stamp :=
  d.stampRx st (3400 * psU) (d.fld (Reg.LN_RX_LAT.LAT n) * 100 * psU) (dsUi 1) (456 + n)

/-- A complete service data unit (R68): counted where it is delivered, decrypted, and on to the slice, the OMCI check or the bonding stage; a
standby side keeps only units of KIND 2, and `old` marks a unit whose header came while the side stood by (R127, R133). -/
def Dev.deliverSdu (d : Dev) (n port key kind sfc : Nat) (spans : List (Nat × Nat)) (old : Bool) (data : List Byte) (stamp : Stamp) : Dev :=
  if kind ≠ 2 ∧ (d.standsBy n ∨ (old ∧ d.fld Reg.LN_LINE_MODE.MODE = 2)) then d.bump (Reg.LN_PROT_CNT.COUNT 3) else
  match ((d.lineCnt n 8 1).lineCnt n 9 data.length).lineDecrypt n kind key sfc spans data with
  | (d2, none) => d2
  | (d2, some b) =>
    let x := d2.line n
    if kind = 3 then d2.setLine n { x with bonded := x.bonded ++ [{ port := port, sfc := sfc, data := b, stamp := stamp }] }
    else if kind = 2 then d2.setLine n { x with omci := x.omci ++ [{ port := port, sfc := sfc, data := b, stamp := stamp }] }
    else d2.arrive
      { data := b.take (b.length - 4), srcKind := 3, inPort := d.devAddr * 512 + 456 + n, localIn := 456 + n, slice := n,
        encapId := port, encapCh := n, xgKind := kind, stamp := stamp }

/-- A fragment of a port (R65, R67). What remains of a unit after an abort opens a context like a new unit; a frame with more
than one fault has one count: a whole one the oversize count, a fragment that of the marked codeword
(notes/assumptions/49.md). -/
def Dev.fragment (d : Dev) (n kind : Nat) (h : Xgem) (st : Strobe) : Dev :=
  let x := d.line n
  if x.skip.contains h.port then d.iff h.lf (fun d => d.setLine n { x with skip := x.skip.filter (· != h.port) })
  else
    match x.reasm.find? (·.port == h.port) with
    | some c =>
      let data := c.data ++ h.payload
      let spans := c.spans ++ [(h.pos, h.payload.length)]
      if h.marked then (d.lineCnt n 15 1).abortOne n h.port
      else if d.maxSdu n < data.length then
        ((d.setLine n { x with
          reasm := x.reasm.filter (·.port != h.port),
          skip := if h.lf then x.skip else h.port :: x.skip }).lineCnt n 13 1)
      else if h.lf then
        (d.setLine n { x with reasm := x.reasm.filter (·.port != h.port) }).deliverSdu n h.port c.key c.kind c.sfc spans c.stby data c.stamp
      else d.setLine n { x with
        reasm := x.reasm.map (fun r => if r.port = h.port then { r with data := data, spans := spans, touched := true } else r) }
    | none =>
      if h.lf then
        if d.maxSdu n < h.pli then d.lineCnt n 13 1
        else if h.marked then d.lineCnt n 15 1
        else d.deliverSdu n h.port h.key kind (d.sfc n) [(h.pos, h.payload.length)] false h.payload (d.lineStamp n st)
      else if h.marked then (d.lineCnt n 15 1).lineCnt n 16 1
      else if 256 ≤ x.reasm.length then (d.setLine n { x with skip := h.port :: x.skip }).lineCnt n 16 1
      else if d.maxSdu n < h.pli then (d.setLine n { x with skip := h.port :: x.skip }).lineCnt n 13 1
      else d.setLine n { x with reasm := x.reasm ++
        [{ port := h.port, key := h.key, kind := kind, sfc := d.sfc n, spans := [(h.pos, h.payload.length)], data := h.payload, stamp := d.lineStamp n st }] }

/-- An XGEM header in the FS payload (R63 to R67). -/
def Dev.xgemHeader (d : Dev) (n : Nat) (h : Xgem) (st : Strobe) : Dev :=
  if !d.rxOn n || d.framer n != 2 || !(d.line n).delin then d
  else
    let pass := match h.hec with | .good => true | .corrected => d.on (Reg.LN_XGEM_CTRL.HEC_ACCEPT n) | .bad => false
    if !pass then (d.lineCnt n 11 1).delinLost n
    else
      let d1 := d.iff (h.hec == .corrected) (·.lineCnt n 10 1)
      if !h.fits then (d1.lineCnt n 14 1).delinLost n
      else if h.port = 0xFFFF then d1
      else if h.pli = 0 then d1.lineCnt n 14 1
      else
        match d.xports n h.port with
        | [] => d1.lineCnt n 12 1
        | i :: r => (d1.iff (r != []) (·.ev (Reg.LN_EVT.XPORT_DUP n))).fragment n (d.fld (Reg.LN_XPORT.KIND n i)) h st

/-- The FS header of a frame: delineation starts at the FS payload (R62). -/
def Dev.fsStart (d : Dev) (n : Nat) : Dev :=
  if d.rxOn n && d.framer n == 2 then d.setLine n { d.line n with delin := true } else d

/-! ### Performance monitoring (R72, R74–R78) -/

/-- Add to a saturating 64-bit bin count. -/
def binAdd (l : List Nat) (v : List Nat) : List Nat :=
  (List.range 22).map (fun k => min (2 ^ 64 - 1) (l.getD k 0 + v.getD k 0))

/-- One second into the current bin. -/
def addSecond (l : List Bin) (v : List Nat) (suspect : Bool) : List Bin :=
  match l with
  | [] => [{ cnt := binAdd [] v, suspect := suspect, valid := true }]
  | b :: r => { cnt := binAdd b.cnt v, suspect := b.suspect || suspect, valid := true } :: r

/-- Close the current bin: it is suspect unless it has `full` seconds; `max` bins are kept. -/
def closeBin (l : List Bin) (full keep : Nat) : List Bin :=
  match l with
  | [] => [{}]
  | b :: r => ({} : Bin) :: ({ b with suspect := b.suspect || b.cnt.getD 21 0 != full } :: r).take (keep - 1)

/-- DAY_OFS, of which larger values act as 0. -/
def Dev.dayOfs (d : Dev) (n : Nat) : Nat :=
  let v := d.fld (Reg.LN_PM_CTRL.DAY_OFS n)
  if 86399 < v then 0 else v

/-- The estimate of the second reaches a threshold (R72). -/
def berReached (corr unc cw m e : Nat) : Bool := decide (max 1 m * (17280 * cw) ≤ (corr + 1728 * unc) * 10 ^ e)

/-- One BER defect at a latch (R70, R72): `hit` is whether the estimate reaches its threshold, `run` the seconds below. -/
def Dev.berEval (d : Dev) (n k : Nat) (hit : Bool) (run : Nat) : Dev × Nat :=
  if hit then (d.defRaise n k, 0)
  else (d.iff (decide (max 1 (d.fld (Reg.LN_BER_CTRL.CLR_S n)) ≤ run + 1)) (·.defClear n k), run + 1)

/-- Whether a bin of a kind closes at this latch: at its boundary, or for a step when the period of the seconds field
changes (R77). -/
def closes (period ofs : Int) (sec : Int) (before : Option Int) : Bool :=
  match before with
  | none => (sec - ofs) % period == 0
  | some b => (sec - ofs) / period != (b - ofs) / period

/-- The latch of one channel. ROLLED sets at the close of a bin of the kind in PM_SEL, also before any write of PM_SEL
(notes/assumptions/49.md). `before` is the seconds field before a step that makes the latch. -/
def Dev.pmLatch (d : Dev) (before : Option Nat) (n : Nat) : Dev :=
  let x := d.line n
  let c := fun k => Tbl.get x.run k 0
  let len : Int := (d.tim.ctr : Int) - x.secStart
  let sat := (List.range 18).any (fun k => c k == 2 ^ 48 - 1)
  let suspect := x.suspect || sat || decide (1250000 < (len - 1250000000).natAbs) || !d.on (Reg.LN_CTRL.RX_EN n)
  let live := (List.range 9).foldl (fun a k => setBit a k (bitOf x.seen k || d.defect n k)) 0
  let d1 := d.each (List.range 18) (fun d k => d.putWide (Reg.LN_PM1_CNT_LO.COUNT n k) (Reg.LN_PM1_CNT_HI.COUNT n k) (c k))
  let d2 := (d1.put (Reg.LN_PM1_STAT.SUSPECT n) (bit suspect)).put (Reg.LN_PM1_STAT.DEF_SEEN n) live
  let d3 := (d2.incr (Reg.LN_PM1_STAT.SEQ n)).ev (Reg.LN_EVT.PM1_TICK n)
  let e := fun (m x : Nat) => berReached (c 3) (c 2) (c 0) m x
  let rx := d.rxOn n && c 0 != 0
  let (d4, r1) := if rx then d3.berEval n dBerSd (e (d.fld (Reg.LN_BER_CTRL.SD_MANT n)) (d.fld (Reg.LN_BER_CTRL.SD_EXP n))) x.sdRun
    else (d3, x.sdRun)
  let (d5, r2) := if rx then d4.berEval n dBerSf (e (d.fld (Reg.LN_BER_CTRL.SF_MANT n)) (d.fld (Reg.LN_BER_CTRL.SF_EXP n))) x.sfRun
    else (d4, x.sfRun)
  let es := c 2 != 0 || c 11 != 0 || live != 0
  let ses := bitOf live dLOF || bitOf live dDSD || decide (d.fld (Reg.LN_PM_CTRL.SES_N n) ≤ c 2)
  let v := (List.range 18).map c ++ [bit (live != 0), bit es, bit ses, 1]
  let sec : Int := secOf d.time
  let ofs : Int := d.dayOfs n
  let b : Option Int := before.map (fun s => (s : Int))
  let c15 := d.pmHistHere && closes 900 0 sec b
  let c24 := d.pmHistHere && closes 86400 ofs sec b
  let y := d5.line n
  let b15 := if d.pmHistHere then addSecond y.bins15 v suspect else y.bins15
  let b24 := if d.pmHistHere then addSecond y.bins24 v suspect else y.bins24
  let seen := (List.range 9).foldl (fun a k => setBit a k (d5.defect n k)) 0
  let d6 := d5.setLine n { y with
    run := [], seen := seen, suspect := false, secStart := d.tim.ctr, sdRun := r1, sfRun := r2
    bins15 := if c15 then closeBin b15 900 34 else b15
    bins24 := if c24 then closeBin b24 86400 9 else b24 }
  let kind := d.fld (Reg.LN_PM_SEL.KIND n)
  let d7 := (d6.iff c15 (·.ev (Reg.LN_EVT.PM15_CLOSE n))).iff c24 (·.ev (Reg.LN_EVT.PM24_CLOSE n))
  d7.iff ((c15 && kind == 0) || (c24 && kind == 1)) (·.ev (Reg.LN_PM_FLAGS.ROLLED n))

/-- Every channel out of reset latches (R74). -/
def Dev.pmLatchAll (d : Dev) (before : Option Nat) : Dev := d.each ((List.range 4).filter d.lnUp) (fun d n => d.pmLatch before n)

/-- A write of LN.PM_SEL (R78): the selected bin is copied. -/
def Dev.pmSelect (d : Dev) (n kind index : Nat) : Dev :=
  let x := d.line n
  let b := (if kind = 0 then x.bins15 else x.bins24).getD index {}
  let d1 := (d.put (Reg.LN_PM_SEL.KIND n) kind).put (Reg.LN_PM_SEL.INDEX n) index
  let d2 := d1.each (List.range 22) (fun d k =>
    d.putWide (Reg.LN_PM_DATA_LO.COUNT n k) (Reg.LN_PM_DATA_HI.COUNT n k) (b.cnt.getD k 0))
  ((d2.put (Reg.LN_PM_FLAGS.VALID n) (bit b.valid)).put (Reg.LN_PM_FLAGS.SUSPECT n) (bit b.suspect)).put
    (Reg.LN_PM_FLAGS.ROLLED n) 0

/-- A step of the time base with the one PM latch that it makes (R75, R246). -/
def Dev.stepAndLatch (d : Dev) (v : Int) : Dev :=
  let before := secOf d.time
  (d.stepTake v).pmLatchAll (some before)

end Sys2Proof.Machine
end

