-- ==== Sys2Proof/Machine/Bond.lean ====
section
/-!
DEFINITION. Channel bonding (spec/04): the line mode's pool, the bonding header, the reassembly of a group with its high
marks, losses, window, flush and resynchronisation, and the numbers of the upstream direction.
-/
namespace Sys2Proof.Machine

def Dev.group (d : Dev) (g : Nat) : BGroup := Tbl.get d.groups g {}
def Dev.setGroup (d : Dev) (g : Nat) (x : BGroup) : Dev := { d with groups := Tbl.set d.groups g x }
def Dev.coach (d : Dev) (n : Nat) : Coach := Tbl.get d.coaches n {}
def Dev.setCoach (d : Dev) (n : Nat) (x : Coach) : Dev := { d with coaches := Tbl.set d.coaches n x }

def bRel : Nat := 0
def bHdrErr : Nat := 1
def bUnkGroup : Nat := 2
def bNotMember : Nat := 3
def bLate : Nat := 4
def bDup : Nat := 5
def bSeqFar : Nat := 6
def bResync : Nat := 7
def bGapLost : Nat := 8
def bWindowExp : Nat := 9
def bPoolFlush : Nat := 10
def bMarkerRx : Nat := 11
def bMarkerTx : Nat := 12
def bTxStranded : Nat := 13

/-- Count in LN[0].BOND_CNT[c]. -/
def Dev.bondCnt (d : Dev) (c n : Nat) : Dev := d.bumpBy (Reg.LN_BOND_CNT.COUNT c) n

/-- The line mode: 3 acts as 0. -/
def Dev.lineMode (d : Dev) : Nat :=
  let m := d.fld Reg.LN_LINE_MODE.MODE
  if m = 3 then 0 else m

/-- Member channels of a group; bits of absent channels act as 0. -/
def Dev.bondMembers (d : Dev) (g : Nat) : List Nat :=
  (members (d.fld (Reg.LN_BOND_GRP_CFG.MEMBERS g)) 4).filter d.lnHere

def Dev.bondEn (d : Dev) (g : Nat) : Bool := d.on (Reg.LN_BOND_GRP_CFG.EN g)

/-- Distance modulo 2¹⁶ (R116). -/
def seqDist (s e : Nat) : Nat := (s + 65536 - e % 65536) % 65536

/-- `s` is ahead of `e`. -/
def seqAhead (s e : Nat) : Bool := decide (1 ≤ seqDist s e) && decide (seqDist s e ≤ 32767)

/-- Group states of BOND_GRP_CFG.STATE. -/
def gIdle : Nat := 0
def gStart : Nat := 1
def gRun : Nat := 2

def Dev.gState (d : Dev) (g : Nat) : Nat := d.fld (Reg.LN_BOND_GRP_CFG.STATE g)

/-- E moves. -/
def Dev.setExp (d : Dev) (g e : Nat) : Dev :=
  (d.setGroup g { d.group g with exp := some (e % 65536) }).put (Reg.LN_BOND_GRP_STAT.EXP_SEQ g) (e % 65536)

/-- Cells of the pool freed. -/
def Dev.poolFree (d : Dev) (cells : Nat) : Dev :=
  let u := d.tm.bondUsed - cells
  { d with tm := { d.tm with bondUsed := u } }.put Reg.LN_BOND_STAT.POOL_USED u

/-- A frame leaves the bonding stage for slice (FLOW mod 4) (R27, R121). It takes the input buffer and the port-table location
456 + (FLOW mod 4) of that slice's line channel, while IN_PORT stays the channel on which it arrived: the model's choice
(notes/assumptions/51.md). -/
def Dev.bondRelease (d : Dev) (g : Nat) (f : Frame) : Dev :=
  let flow := d.fld (Reg.LN_BOND_GRP_CFG.FLOW g)
  (d.bondCnt bRel 1).arrive { f with bondFlow := 2 ^ 15 + flow, localIn := 456 + flow % 4, slice := flow % 4 }

/-- A held frame is released: its cells return, and the longest hold is kept. -/
def Dev.releaseHeld (d : Dev) (g : Nat) (h : HeldFrame) : Dev :=
  let us := (d.core - h.at_) * 800 / 1000000
  let d1 := (d.poolFree h.cells).put Reg.LN_BOND_STAT.MAX_HOLD (min 511 (max us (d.fld Reg.LN_BOND_STAT.MAX_HOLD)))
  let x := d1.group g
  (d1.setGroup g { x with held := x.held.filter (fun y => y.ord != h.ord) }).bondRelease g h.f

/-- The held frame nearest ahead of (or at) E. -/
def nearest (e : Nat) (l : List HeldFrame) : Option HeldFrame :=
  l.foldl (fun a h => match a with
    | none => some h
    | some b => if seqDist h.seq e < seqDist b.seq e then some h else a) none

/-- Release every held frame nearer than `dist` to E, in order; the missing numbers before the target are lost, and E
becomes the target. -/
def Dev.declareTo (d : Dev) (g dist : Nat) : Dev :=
  match (d.group g).exp with
  | none => d
  | some e =>
    let near := (d.group g).held.filter (fun h => decide (seqDist h.seq e < dist))
    let rec go : Nat → Dev → Dev
      | 0, d => d
      | k + 1, d =>
        match nearest e ((d.group g).held.filter (fun h => decide (seqDist h.seq e < dist))) with
        | none => d
        | some h => go k (d.releaseHeld g h)
    ((go near.length d).bondCnt bGapLost (dist - near.length)).setExp g (e + dist)

/-- The channels that are live for the group (R117). -/
def Dev.liveCh (d : Dev) (g : Nat) : List Nat :=
  (d.bondMembers g).filter (fun n => d.framer n == 2 && bitOf (d.group g).heard n)

/-- How far E may be declared lost by high marks: the smallest lead of a live member's high mark, 0 when one is not
ahead or no member is live (R120). -/
def Dev.markLead (d : Dev) (g e : Nat) : Nat :=
  match d.liveCh g with
  | [] => 0
  | l => l.foldl (fun a n =>
      let h := Tbl.get (d.group g).high n e
      min a (if seqAhead h e then seqDist h e else 0)) 65536

/-- In RUN: release what continues E, and declare E lost while the high marks allow it and a frame is held (R119, R120). -/
def Dev.bondRun (d : Dev) (g : Nat) : Nat → Dev
  | 0 => d
  | fuel + 1 =>
    match (d.group g).exp with
    | none => d
    | some e =>
      if d.gState g ≠ gRun then d
      else match nearest e (d.group g).held with
        | none => d
        | some h =>
          if h.seq = e then Dev.bondRun ((d.releaseHeld g h).setExp g (e + 1)) g fuel
          else
            let lead := min (seqDist h.seq e) (d.markLead g e)
            if lead = 0 then d
            else Dev.bondRun ((d.bondCnt bGapLost lead).setExp g (e + lead)) g fuel

def Dev.bondGo (d : Dev) (g : Nat) : Dev := d.bondRun g (2 * (d.group g).held.length + 2)

/-- Release every held frame in sequence order, with the gaps between them (R118, R119). -/
def Dev.releaseAll (d : Dev) (g : Nat) : Dev :=
  match (d.group g).exp with
  | none => d
  | some e =>
    let far := ((d.group g).held.map (fun h => seqDist h.seq e + 1)).foldl max 0
    d.declareTo g far

/-- The group that holds the device's oldest frame, with that frame. -/
def Dev.oldest (d : Dev) : Option (Nat × HeldFrame) :=
  d.groups.foldl (fun a e => e.2.held.foldl (fun a h => match a with
    | none => some (e.1, h)
    | some (g, b) => if h.ord < b.ord then some (e.1, h) else some (g, b)) a) none

/-- Every missing number before the frame `h` of group g is lost, and release goes on (R120, R121). -/
def Dev.loseBefore (d : Dev) (g : Nat) (h : HeldFrame) : Dev :=
  match (d.group g).exp with
  | none => d
  | some e =>
    let d1 := d.declareTo g (seqDist h.seq e)
    match (d1.group g).held.find? (fun y => y.ord == h.ord) with
    | none => d1
    | some y =>
      let d2 := (d1.releaseHeld g y).setExp g (y.seq + 1)
      let rec cont : Nat → Dev → Dev
        | 0, d => d
        | k + 1, d =>
          match (d.group g).exp with
          | none => d
          | some e =>
            match (d.group g).held.find? (fun z => z.seq == e) with
            | none => d
            | some z => cont k ((d.releaseHeld g z).setExp g (e + 1))
      (cont (d2.group g).held.length d2).bondGo g

/-- Too few free cells: the group of the oldest held frame gives up its gaps, until the frame fits (R121). -/
def Dev.poolFlush (d : Dev) (cells : Nat) : Nat → Dev
  | 0 => d
  | fuel + 1 =>
    if d.tm.bondUsed + cells ≤ d.tm.bondSize then d
    else match d.oldest with
      | none => d
      | some (g, h) => Dev.poolFlush ((d.bondCnt bPoolFlush 1).loseBefore g h) cells fuel

/-- A frame with number E in RUN is released at once, then what continues it (R119). -/
def Dev.bondTake (d : Dev) (g s : Nat) (f : Frame) : Dev :=
  let d1 := d.bondRelease g f
  (d1.setExp g (s + 1)).bondGo g

/-- A data frame joins those that its group holds (R117). -/
def Dev.bondKeep (d : Dev) (g s : Nat) (f : Frame) : Dev :=
  let c := cellsFor f.len
  let x := d.group g
  let u := d.tm.bondUsed + c
  let d1 := d.setGroup g { x with held := x.held ++ [{ seq := s, at_ := d.core, ord := d.bondOrd, cells := c, f := f }] }
  { d1 with bondOrd := d1.bondOrd + 1, tm := { d1.tm with bondUsed := u } }.put Reg.LN_BOND_STAT.POOL_USED u

/-- Hold a data frame, and whether it is held (R117, R121): where making room has moved the group's E, the frame is E now and
is released, or its number has been given up and it is late. -/
def Dev.bondHold (d : Dev) (g s : Nat) (f : Frame) : Dev × Bool :=
  let d1 := d.poolFlush (cellsFor f.len) ((d.groups.map (fun e => e.2.held.length)).sum + 1)
  match (d1.group g).exp with
  | none => (d1.bondKeep g s f, true)
  | some e =>
    if (d.group g).exp = some e then (d1.bondKeep g s f, true)
    else if 32768 ≤ seqDist s e then (d1.bondCnt bLate 1, false)
    else if s = e ∧ d1.gState g = gRun then (d1.bondTake g s f, false)
    else (d1.bondKeep g s f, true)

/-- A channel's high mark of the group, and that it has delivered (R117). -/
def Dev.setHigh (d : Dev) (g n m : Nat) : Dev :=
  let x := d.group g
  d.setGroup g { x with high := Tbl.set x.high n (m % 65536), heard := setBit x.heard n true }

/-- The first data frame of a group in START sets E and starts the timer; later ones are handled by their distance
(R118). -/
def Dev.bondStart (d : Dev) (g s : Nat) (f : Frame) : Dev :=
  match (d.group g).exp with
  | none =>
    let d1 := (d.setGroup g { d.group g with timer := true }).setExp g s
    (d1.bondHold g s f).1
  | some e =>
    let k := seqDist s e
    if k = 0 ∨ (d.group g).held.any (fun h => h.seq == s) then d.bondCnt bDup 1
    else if k ≤ 8191 then (d.bondHold g s f).1
    else if 57345 ≤ k then
      let (d1, held) := d.bondHold g s f
      if !held then d1 else
      let far := (d1.group g).held.filter (fun h => decide (8191 < seqDist h.seq s))
      let d2 := d1.each far (fun d h =>
        (d.poolFree h.cells).setGroup g { d.group g with held := (d.group g).held.filter (fun y => y.ord != h.ord) })
      (d2.bondCnt bSeqFar far.length).setExp g s
    else d.bondCnt bSeqFar 1

/-- A data frame in RUN (R119). -/
def Dev.bondData (d : Dev) (g s : Nat) (f : Frame) : Dev :=
  match (d.group g).exp with
  | none => d
  | some e =>
    let k := seqDist s e
    let far := decide (8192 ≤ k) && decide (k ≤ 32767)
    let run := if far then (d.group g).farRun + 1 else 0
    let d1 := d.setGroup g { d.group g with farRun := run }
    if k = 0 then d1.bondTake g s f
    else if k ≤ 8191 then
      if (d.group g).held.any (fun h => h.seq == s) then (d1.bondCnt bDup 1).bondGo g
      else (d1.bondHold g s f).1.bondGo g
    else if far then
      let d2 := d1.bondCnt bSeqFar 1
      if 16 ≤ run then
        let d3 := (d2.releaseAll g).bondCnt bResync 1
        ((d3.setGroup g { d3.group g with farRun := 0 }).setExp g s).bondTake g s f
      else d2.bondGo g
    else (d1.bondCnt bLate 1).bondGo g

/-- The bonding header of R115: type (0 data, 1 marker), group and number, or none when the unit is to be discarded. -/
def bondHeader (b : List Byte) : Option (Nat × Nat × Nat) :=
  let ty := byteAt b 0 / 4 % 4
  if b.length < 8 ∨ byteAt b 0 / 16 ≠ 1 ∨ 2 ≤ ty ∨ crc16.sum (b.take 6) ≠ beAt b 6 2 ∨ (ty = 1 ∧ b.length ≠ 8) then none
  else some (ty, beAt b 2 2 % 1024, beAt b 4 2)

/-- The bonding header that the Coachbuilder writes (R115). -/
def bondHeaderOf (ty ch g s : Nat) : List Byte :=
  let h := beBytes (16 + 4 * ty + ch % 4) 1 ++ beBytes 0 1 ++ beBytes (g % 1024) 2 ++ beBytes (s % 65536) 2
  h ++ beBytes (crc16.sum h) 2

/-- A unit of KIND 3 of channel n in bonded mode (R116 to R120). -/
def Dev.bondUnit (d : Dev) (n : Nat) (u : Unit3) : Dev :=
  match bondHeader u.data with
  | none => d.bondCnt bHdrErr 1
  | some (ty, g, s) =>
    if !d.bondEn g then d.bondCnt bUnkGroup 1
    else if !(d.bondMembers g).contains n then d.bondCnt bNotMember 1
    else if ty = 1 then ((d.setHigh g n s).bondCnt bMarkerRx 1).bondGo g
    else
      let data := u.data.drop 8
      let f : Frame :=
        { data := data.take (data.length - 4), srcKind := 3, encapId := u.port, encapCh := n, xgKind := 3, stamp := u.stamp,
          inPort := d.devAddr * 512 + (456 + n) }
      let d1 := d.setHigh g n (s + 1)
      if d.gState g = gStart then d1.bondStart g s f else d1.bondData g s f

/-- The oldest unit that waits for the bonding stage is handled; outside bonded mode it is discarded (R113). -/
def Dev.bondRx (d : Dev) (n : Nat) : Dev :=
  let x := d.line n
  match x.bonded with
  | [] => d
  | u :: r =>
    let d1 := d.setLine n { x with bonded := r }
    if d.lineMode = 1 then d1.bondUnit n u else d1.bondCnt bUnkGroup 1

/-- EN of a group changes from 0 to 1 (R118, R122). -/
def Dev.bondEnable (d : Dev) (g : Nat) : Dev :=
  let d1 := (d.setGroup g {}).put (Reg.LN_BOND_GRP_CFG.EN g) 1
  (d1.put (Reg.LN_BOND_GRP_CFG.STATE g) gStart).put (Reg.LN_BOND_GRP_STAT.TX_SEQ g) 0

/-- EN of a group changes from 1 to 0: the held frames are released in order (R118). -/
def Dev.bondDisable (d : Dev) (g : Nat) : Dev :=
  let d1 := d.releaseAll g
  ((d1.setGroup g {}).put (Reg.LN_BOND_GRP_CFG.EN g) 0).put (Reg.LN_BOND_GRP_CFG.STATE g) gIdle

/-- A write of BOND_GRP_CFG (R116, R118). -/
def Dev.bondCfg (d : Dev) (g v : Nat) : Dev :=
  let en := bitOf v 15
  if d.bondEn g then (if en then d else d.bondDisable g)
  else
    let d1 := ((d.put (Reg.LN_BOND_GRP_CFG.FLOW g) v).put (Reg.LN_BOND_GRP_CFG.MEMBERS g) (bits v 16 4)).put
      (Reg.LN_BOND_GRP_CFG.US_EN g) (bits v 20 1)
    if en then d1.bondEnable g else d1

/-- The start timer of a group expires (R118). -/
def Dev.bondStartTimer (d : Dev) (g : Nat) : Dev :=
  let x := d.group g
  if d.gState g = gStart ∧ x.timer then
    ((d.setGroup g { x with timer := false }).put (Reg.LN_BOND_GRP_CFG.STATE g) gRun).bondGo g
  else d

/-- The oldest held frame of a group in RUN has been held for 256 µs while E is missing (R120). -/
def Dev.bondWindow (d : Dev) (g : Nat) : Dev :=
  if d.gState g ≠ gRun then d
  else
    match (d.group g).held.foldl (fun (a : Option HeldFrame) h => match a with
        | none => some h
        | some b => if h.ord < b.ord then some h else a) none with
    | none => d
    | some h => (d.bondCnt bWindowExp 1).loseBefore g h

/-- A channel left SYNC: it is no longer live for any group, and losses may follow (R117, R120). -/
def Dev.bondSyncLost (d : Dev) (n : Nat) : Dev :=
  d.each (d.groups.map (·.1)) (fun d g => (d.setGroup g { d.group g with heard := setBit (d.group g).heard n false }).bondGo g)

/-- The size of the pool that MODE 1 takes up (R121). -/
def Dev.poolCells (d : Dev) : Nat := min 65536 (max 1024 (d.fld Reg.LN_BOND_CTRL.POOL_CELLS))

/-- MODE leaves 1: every enabled group is closed, TX_SEQ returns to 0, and the pool is given back (R121). -/
def Dev.bondClose (d : Dev) : Dev :=
  let d1 := d.each ((List.range 1024).filter d.bondEn) (fun d g => (d.bondDisable g).put (Reg.LN_BOND_GRP_STAT.TX_SEQ g) 0)
  { d1 with tm := { d1.tm with bondSize := 0 } }

end Sys2Proof.Machine
end

