-- ==== Sys2Proof/Machine/Host.lean ====
section
/-!
DEFINITION. The host interface (spec/12): ring domains, rings and their indices, descriptors, event records, frame
delivery, messages, vectors and the PCIe endpoint. Host memory lies outside the block: what a read of it returns comes
with the command that needs it, and what the device writes to it is recorded in `Dev.out`.
-/
namespace Sys2Proof.Machine

/-! ### Rings (R324–R326) -/

def Dev.ring (d : Dev) (r : Nat) : RingSt := Tbl.get d.host.rings r {}
def Dev.setRing (d : Dev) (r : Nat) (x : RingSt) : Dev := { d with host := { d.host with rings := Tbl.set d.host.rings r x } }
def Dev.dom (d : Dev) (k : Nat) : Dom := Tbl.get d.host.doms k {}
def Dev.setDom (d : Dev) (k : Nat) (x : Dom) : Dev := { d with host := { d.host with doms := Tbl.set d.host.doms k x } }

/-- The domain of a ring. -/
def domOf (r : Nat) : Nat := r / 16

/-- KIND; 6 and 7 act as 0. -/
def Dev.ringKind (d : Dev) (r : Nat) : Nat :=
  let k := d.fld (Reg.HIF_RING_CFG.KIND r)
  if 5 < k then 0 else k

def Dev.ringSize (d : Dev) (r : Nat) : Nat := 2 ^ d.fld (Reg.HIF_RING_CFG.LOG2_SIZE r)

/-- The device's index of a ring. -/
def Dev.idx (d : Dev) (r : Nat) : Nat := d.fld (Reg.HIF_RING_IDX.IDX r)

/-- Difference of two 32-bit free-running indices. -/
def idxSub (a b : Nat) : Nat := (a + (2 ^ 32 - b % 2 ^ 32)) % 2 ^ 32

/-- The occupancy of a ring (R326). -/
def Dev.occupancy (d : Dev) (r : Nat) : Nat :=
  if d.ringKind r = 3 then idxSub (d.idx r) (d.ring r).sw else idxSub (d.ring r).sw (d.idx r)

/-- BIND; 3 acts as 0. -/
def Dev.bind (d : Dev) (k : Nat) : Nat :=
  let b := d.fld (Reg.HIF_DOM_CFG.BIND k)
  if b = 3 then 0 else b

/-- The device may read and write in a domain: bound, and on PCIe with bus mastering enabled (R348). -/
def Dev.canDma (d : Dev) (k : Nat) : Bool :=
  d.bind k == 1 || (d.bind k == 2 && d.on Reg.HIF_PCIE_STAT.BME)

def Dev.ringEn (d : Dev) (r : Nat) : Bool := d.on (Reg.HIF_RING_CTRL.EN r)

/-- The ring works: running and not halted. -/
def Dev.ringLive (d : Dev) (r : Nat) : Bool :=
  d.on (Reg.HIF_RING_STAT.RUNNING r) && !d.on (Reg.HIF_RING_STAT.HALTED r)

def Dev.evtRing (d : Dev) (r : Nat) : Nat := d.fld (Reg.HIF_RING_CFG.EVT_RING r)

/-! ### Rings in memory (R326, R329) -/

/-- Where slot `i` mod 2^LOG2_SIZE of a ring lies: 32 bytes a descriptor, 16 a record, from BASE on, whose low 12 bits are
ignored. -/
def Dev.slotAddr (d : Dev) (r i : Nat) : Nat :=
  d.wide (Reg.HIF_RING_BASE_LO.BASE r) (Reg.HIF_RING_BASE_HI.BASE r) / 4096 * 4096 +
    (if d.ringKind r = 3 then 16 else 32) * (i % d.ringSize r)

/-- `n` bytes from offset `i`, least significant first. -/
def leAt (b : List Byte) (i : Nat) : Nat → Nat
  | 0 => 0
  | n + 1 => byteAt b i + 256 * leAt b (i + 1) n

/-- The descriptor in 32 bytes of host memory (R329). -/
def descOf (b : List Byte) : Desc :=
  { addr := leAt b 0 8, len := leAt b 8 2, sof := bitOf (byteAt b 10) 0, eof := bitOf (byteAt b 10) 1,
    evtReq := bitOf (byteAt b 10) 2, tsReq := bitOf (byteAt b 10) 3, oneStep := bitOf (byteAt b 10) 4, cookie := leAt b 12 4 }

/-- The whole descriptors in bytes of host memory. -/
def descsOf (b : List Byte) : List Desc := (List.range (b.length / 32)).map (fun i => descOf (b.drop (32 * i)))

/-- The device reads `n` descriptors of ring `r`, from index `i` on. -/
def Dev.readDescs (d : Dev) (r i n : Nat) : Dev :=
  d.each (List.range n) (fun d j => d.emit (.descRead r (d.slotAddr r (i + j))))

/-- Move the device's index on: the domain's status line must be written (R338). -/
def Dev.moveIdx (d : Dev) (r n : Nat) : Dev :=
  if n = 0 then d
  else
    let d1 := d.put (Reg.HIF_RING_IDX.IDX r) (d.idx r + n)
    d1.setDom (domOf r) { d1.dom (domOf r) with dirty := true }

/-! ### Vectors (R347, R348) -/

/-- The word at byte offset `off` of BAR2: the MSI-X table at 0, four words a vector, and the pending bits at 0x1000 (R348). -/
def Dev.bar2 (d : Dev) (off : Nat) : Nat :=
  if off < 0x1000 then
    let e := Tbl.get d.host.msix (off / 16) (0, 0)
    match off / 4 % 4 with
    | 0 => e.1 % 2 ^ 32
    | 1 => e.1 / 2 ^ 32
    | 2 => e.2
    | _ => bit (bitOf d.host.vecMask (off / 16))
  else bits d.host.pend (8 * (off - 0x1000)) 32

/-- The words of configuration space that identify the function: Device and Vendor ID, and the class code, whose revision the
spec does not give (R348). -/
def Dev.pcieId (d : Dev) : Nat := d.chip.part % 2 ^ 16 * 2 ^ 16 + Config.pcieVendor % 2 ^ 16
def Dev.pcieClass : Nat := 0x028000 * 2 ^ 8 + Config.pcieRevision % 2 ^ 8

/-- The largest payload, at most 512, and the largest read request that the host permits, in bytes (R348). -/
def Dev.maxPayload (d : Dev) : Nat := 128 * 2 ^ min 2 d.host.payload
def Dev.maxRead (d : Dev) : Nat := 128 * 2 ^ min 5 d.host.readReq

/-- Send vector `v` of domain `k`: a masked MSI-X vector sets its pending bit; an unbound domain sends nothing. -/
def Dev.sendVec (d : Dev) (k v : Nat) : Dev :=
  if d.bind k = 1 then d.emit (.vector k v false)
  else if d.bind k = 2 then
    if d.host.funcMask ∨ bitOf d.host.vecMask (16 * k + v) then
      { d with host := { d.host with pend := setBit d.host.pend (16 * k + v) true } }
    else if d.on Reg.HIF_PCIE_STAT.BME then
      let e := Tbl.get d.host.msix (16 * k + v) (0, 0)
      (d.emit (.vector k v true)).emit (.msix e.1 e.2)
    else d
  else d

/-- Pending vectors that are no longer masked are sent. -/
def Dev.flushPend (d : Dev) : Dev :=
  d.each (members d.host.pend 256) (fun d i =>
    if d.host.funcMask ∨ bitOf d.host.vecMask i then d
    else ({ d with host := { d.host with pend := setBit d.host.pend i false } }).sendVec (i / 16) (i % 16))

/-! ### Event records (R331, R335–R337) -/

/-- The EVT ring can take `n` more records beside those it has reserved. -/
def Dev.evtRoom (d : Dev) (e n : Nat) : Bool :=
  d.ringLive e && d.canDma (domOf e) && decide (d.occupancy e + (d.ring e).rsvd + n ≤ d.ringSize e)

def Dev.reserve (d : Dev) (e n : Nat) : Dev := d.setRing e { d.ring e with rsvd := (d.ring e).rsvd + n }
def Dev.unreserve (d : Dev) (e n : Nat) : Dev := d.setRing e { d.ring e with rsvd := (d.ring e).rsvd - n }

/-- The records that an EVT ring holds are written as far as it works and its domain can be written: each uses up one
reservation and is unsignalled (R337). -/
def Dev.recordsOut (d : Dev) (e : Nat) : Nat → Dev
  | 0 => d
  | fuel + 1 =>
    let x := d.ring e
    match x.hold with
    | [] => d
    | w :: t =>
      if d.ringLive e && d.canDma (domOf e) && decide (d.occupancy e < d.ringSize e) then
        let d1 := d.setRing e { x with hold := t, rsvd := x.rsvd - 1, unsig := x.unsig + 1 }
        Dev.recordsOut ((d1.emit (.record e (d.idx e) (d.slotAddr e (d.idx e)) w)).moveIdx e 1) e fuel
      else d

/-- The records that an EVT ring holds, as far as they go now. -/
def Dev.flushRecords (d : Dev) (e : Nat) : Dev := d.recordsOut e (d.ring e).hold.length

/-- A record for an EVT ring, into space that was reserved for it. An event is never dropped: while the ring does not work,
or its domain cannot be written, the record is held with its reservation (R337, R348). -/
def Dev.record (d : Dev) (e : Nat) (w : List Nat) : Dev :=
  (d.setRing e { d.ring e with hold := (d.ring e).hold ++ [w] }).flushRecords e

/-- Word 0 of a record. -/
def recWord (ty st ring : Nat) (ts : Bool) : Nat := ty + st * 2 ^ 8 + ring * 2 ^ 16 + bit ts * 2 ^ 24

/-- The records that a frame of these descriptors will produce. -/
def Dev.txRecords (d : Dev) (r : Nat) (l : List Desc) : Nat :=
  let ts := match l.head? with | some x => x.tsReq || x.oneStep | none => false
  let evt := (match l.getLast? with | some x => x.evtReq | none => false) || d.on (Reg.HIF_RING_CFG.EVT_ALL r)
  if ts then 2 else if evt then 1 else 0

/-- A frame that a ring is reading is given up, with the records reserved for it. -/
def Dev.fetchDrop (d : Dev) (r : Nat) : Dev :=
  match (d.ring r).fetch with
  | some l => (d.setRing r { d.ring r with fetch := none }).unreserve (d.evtRing r) (d.txRecords r l)
  | none => d

def stDiscarded : Nat := 0x01
def stNotStamped : Nat := 0x02
def stLenErr : Nat := 0x40
def stDescErr : Nat := 0x41
def stIdxErr : Nat := 0x42
def stDmaErr : Nat := 0x43

/-- The halt records that wait are written as far as the event ring has room (R331). -/
def Dev.haltRecs (d : Dev) (e : Nat) : Nat → Dev
  | 0 => d
  | fuel + 1 =>
    match (d.ring e).halts with
    | [] => d
    | h :: t =>
      if d.evtRoom e 1 then
        let d1 := (d.setRing e { d.ring e with halts := t }).reserve e 1
        Dev.haltRecs (d1.record e [recWord 4 h.status h.ring false, h.idx, 0, 0]) e fuel
      else d

/-- Halt a ring (R331): it reads and writes nothing further, so that a frame in reading is given up; the offending
descriptor's index is recorded, and the record is written as soon as it can be. -/
def Dev.haltRing (d : Dev) (r status idx : Nat) : Dev :=
  let d1 := (((d.fetchDrop r).put (Reg.HIF_RING_STAT.STATUS r) status).put (Reg.HIF_RING_STAT.HALTED r) 1).put
    (Reg.HIF_RING_ERR_IDX.IDX r) idx
  let d2 := d1.ev Reg.HIF_EVT.RING_HALT
  if d.ringKind r = 0 ∨ d.ringKind r = 3 then d2
  else
    let e := d.evtRing r
    (d2.setRing e { d2.ring e with halts := (d2.ring e).halts ++ [{ ring := r, status := status, idx := idx % 2 ^ 32 }] }).haltRecs e 1

/-! ### Descriptor checks (R330) -/

/-- BUF_SIZE with its limits. -/
def Dev.bufSize (d : Dev) (r : Nat) : Nat :=
  let b := d.fld (Reg.HIF_RING_BUF.BUF_SIZE r)
  if b = 0 then 64 else min 16384 b

/-- What a walk over transmit descriptors finds: `n` descriptors form a whole frame, an error at a descriptor, or the
end of what is posted. -/
inductive DescWalk where
  | whole (n : Nat)
  | bad (status at_ : Nat)
  | more
  deriving DecidableEq, Repr

/-- Walk over a frame's descriptors: `i` have been taken with `sum` bytes. -/
def walkDescs (bufSize maxSum : Nat) : List Desc → Nat → Nat → DescWalk
  | [], _, _ => .more
  | x :: r, i, sum =>
    if x.sof != (i == 0) then .bad stDescErr i
    else if x.len = 0 ∨ bufSize < x.len ∨ maxSum < sum + x.len ∨ 16 ≤ i then .bad stLenErr i
    else if x.eof then .whole (i + 1)
    else walkDescs bufSize maxSum r (i + 1) (sum + x.len)

/-- The posted descriptors among those read from the device's head on. -/
def Dev.postedOf (d : Dev) (r : Nat) (l : List Desc) : List Desc := l.take (d.occupancy r)

def descBytes (l : List Desc) : Nat := (l.map (·.len)).sum

/-! ### Transmit (R332, R333) -/

/-- A transmit ring of this kind that may read descriptors. -/
def Dev.txReady (d : Dev) (r kind : Nat) : Bool :=
  d.ringKind r == kind && d.ringEn r && d.ringLive r && d.canDma (domOf r) && (d.ring r).fetch.isNone &&
    decide (0 < d.occupancy r)

/-- Fetch from one ring, if its next frame is whole and the input buffer and the event ring have room; a bad descriptor
halts it. Answers whether the ring was served. -/
def Dev.txfTry (d : Dev) (k r : Nat) (mem : List Desc) : Option Dev :=
  let l := d.postedOf r mem
  match walkDescs (d.bufSize r) 15996 l 0 0 with
  | .more => none
  | .bad st i => some ((d.readDescs r (d.idx r) (i + 1)).haltRing r st (d.idx r + i))
  | .whole n =>
    let f := l.take n
    let len := descBytes f + 4
    let e := d.evtRing r
    let need := d.txRecords r f
    if bytesIn (d.buf (452 + k)) + len ≤ 16384 ∧ (need = 0 ∨ d.evtRoom e need) then
      some (((d.readDescs r (d.idx r) n).setRing r { d.ring r with fetch := some f }).iff (need != 0) (·.reserve e need))
    else none

/-- The rings of host port k in the order of the round-robin, from the one after the ring served last. -/
def Dev.txfOrder (d : Dev) (k : Nat) : List Nat :=
  let l := (d.host.rings.map (·.1)).filter (fun r => d.txReady r 1 && d.fld (Reg.HIF_RING_CFG.HPORT r) == k)
  let last := Tbl.get d.host.rr k 0
  l.filter (fun r => decide (last < r)) ++ l.filter (fun r => decide (r ≤ last))

/-- Serve the first ring of the round-robin that can be served; `mem` gives for each ring the bytes that a read of
its slots from its head on returns. One frame of a host port is read at a time. -/
def Dev.txfServe (d : Dev) (k : Nat) (mem : List (Nat × List Byte)) : List Nat → Dev
  | [] => d
  | r :: t =>
    match d.txfTry k r (descsOf (Tbl.get mem r [])) with
    | some d1 => { d1 with host := { d1.host with rr := Tbl.set d1.host.rr k r } }
    | none => Dev.txfServe d k mem t

def Dev.txfFetch (d : Dev) (k : Nat) (mem : List (Nat × List Byte)) : Dev :=
  let reading := d.host.rings.any (fun e => e.2.fetch.isSome && d.fld (Reg.HIF_RING_CFG.HPORT e.1) == k)
  if d.hifUp && !reading then d.txfServe k mem (d.txfOrder k) else d

/-- TX_DONE (R333, R335), with the timestamp record behind it. -/
def Dev.txDone (d : Dev) (t : TxTag) (status : Nat) (stamp : Option Stamp) : Dev :=
  let e := d.evtRing t.ring
  let d1 := d.record e [recWord 1 status t.ring stamp.isSome, t.cookie, t.eofIdx % 2 ^ 16, t.len]
  let d2 := d1.iff (status == 0) (·.bump (Reg.HIF_RING_CNT.COUNT t.ring 0))
  match stamp with
  | some s => d2.record e s.words
  | none => d2

/-- A host frame has been read whole (R332, R333): a short one is padded to 60 bytes, which its length does not count; it enters the input buffer of its host port, the head passes its
descriptors, and a frame without a stamp request gets its record. -/
def Dev.txfDone (d : Dev) (r : Nat) (bytes : List Byte) : Dev :=
  match (d.ring r).fetch with
  | none => d
  | some l =>
    let n := descBytes l
    let x := l.headD {}
    let y := l.getLastD {}
    let k := d.fld (Reg.HIF_RING_CFG.HPORT r)
    let tag : TxTag := { ring := r, cookie := y.cookie, eofIdx := d.idx r + (l.length - 1), len := n }
    let ts := x.tsReq || x.oneStep
    let d1 := (d.setRing r { d.ring r with fetch := none }).moveIdx r l.length
    let d2 := if ts then
        { d1 with host := { d1.host with stamps := Tbl.set d1.host.stamps d1.host.nextId tag, nextId := d1.host.nextId + 1 } }
      else if d.txRecords r l = 1 then d1.txDone tag 0 none else d1.bump (Reg.HIF_RING_CNT.COUNT r 0)
    d2.arrive
      { data := padTo 60 (padTo n (bytes.take n)), srcKind := 2, inPort := d.devAddr * 512 + 452 + k, localIn := 452 + k,
        pad := 60 - n, stamp := d.stamp d.time, slice := k, tsReq := bit ts + 2 * bit x.oneStep,
        htx := if ts then some d1.host.nextId else none }

/-- A host frame that asked for a stamp starts on its egress port (R333). -/
def Dev.stamped (d : Dev) (f : Frame) (s : Stamp) : Dev :=
  match f.htx with
  | none => d
  | some i =>
    match d.host.stamps.find? (fun e => e.1 == i) with
    | none => d
    | some e => ({ d with host := { d.host with stamps := Tbl.del d.host.stamps i } }).txDone e.2 0 (some s)

/-- TX_DONE with NOT_STAMPED for every awaited stamp whose frame is no longer among `live` (R333): it was dropped, or
left only on a host port. The record of the stamp is released. -/
def Dev.unstamped (d : Dev) (live : List Frame) : Dev :=
  d.each (d.host.stamps.filter (fun e => !live.any (fun f => f.htx == some e.1 && f.reason == 0))) (fun d e =>
    (({ d with host := { d.host with stamps := Tbl.del d.host.stamps e.1 } }).txDone e.2 stNotStamped none).unreserve
      (d.evtRing e.2.ring) 1)

/-! ### Delivery (R342–R345) -/

/-- The oldest frame leaves the ring's list: its cells are freed, its reservation and timer end. -/
def Dev.rxNext (d : Dev) (r : Nat) : Dev :=
  let x := d.ring r
  match x.frames with
  | [] => d
  | f :: t =>
    ((d.release f).unreserve (d.evtRing r) x.mine).setRing r
      { d.ring r with frames := t, filled := 0, off := 0, mine := 0, timer := t != [], posted := x.posted.drop x.filled }

/-- RX_FRAME words 1 to 3. -/
def rxWords (f : Frame) (len nbuf first : Nat) : List Nat :=
  [len + nbuf * 2 ^ 16 + f.reason * 2 ^ 21, first % 2 ^ 16, f.inPort % 2 ^ 14 + f.srcKind * 2 ^ 14 + f.encapId % 2 ^ 16 * 2 ^ 16]

/-- The oldest frame is dropped (R344); filled buffers go back in a DISCARDED record. -/
def Dev.rxDrop (d : Dev) (r : Nat) : Dev :=
  let x := d.ring r
  match x.frames with
  | [] => d
  | f :: _ =>
    if 0 < x.filled ∧ d.ringLive r then
      let d1 := d.record (d.evtRing r) (recWord 2 stDiscarded r false :: rxWords f x.off x.filled (d.idx r))
      let d2 := (d1.moveIdx r x.filled).bumpBy (Reg.HIF_RING_CNT.COUNT r 3) x.filled
      (d2.setRing r { d2.ring r with mine := x.mine - 1 }).rxNext r
    else (d.setRing r { x with filled := 0 }).rxNext r

/-- Whether the oldest frame of a ring goes on, or its ring is done for now. -/
inductive RxStep where
  | again | rest
  deriving DecidableEq, Repr

/-- One buffer, or the delivery, or a drop, of the oldest frame of a ring (R344, R345). -/
def Dev.rxStep (d : Dev) (r : Nat) : Dev × RxStep :=
  let x := d.ring r
  match x.frames with
  | [] => (d, .rest)
  | f :: _ =>
    let e := d.evtRing r
    let need := if d.on (Reg.HIF_RING_CFG.TS_EN r) then 2 else 1
    if f.failed then (d.rxDrop r, .again)
    else if !d.ringLive r || !d.canDma (domOf r) then (d, .rest)
    else if x.mine = 0 then
      if d.evtRoom e need then
        let d1 := d.reserve e need
        (d1.setRing r { d1.ring r with mine := need }, .again)
      else (d, .rest)
    else if f.whole && x.off == f.data.length then
      let ts := need == 2
      let d1 := d.record e (recWord 2 0 r ts :: rxWords f x.off x.filled (d.idx r))
      let d2 := d1.iff ts (·.record e f.stamp.words)
      let d3 := (d2.moveIdx r x.filled).bump (Reg.HIF_RING_CNT.COUNT r 0)
      ((d3.setRing r { d3.ring r with mine := 0 }).rxNext r, .again)
    else if 16 ≤ x.filled then ((d.rxDrop r).bump (Reg.HIF_RING_CNT.COUNT r 2), .again)
    else
      match x.posted.drop x.filled with
      | [] => (d, .rest)
      | b :: _ =>
        if b.len = 0 ∨ d.bufSize r < b.len then
          ((d.setRing r { x with filled := 0 }).rxNext r |>.haltRing r stLenErr (d.idx r + x.filled), .rest)
        else
          let n := min b.len (f.data.length - x.off)
          if f.whole ∨ x.off + b.len < f.data.length then
            ((d.emit (.rxBuf r (d.idx r + x.filled) b.addr (f.data.drop x.off |>.take n))).setRing r
              { x with filled := x.filled + 1, off := x.off + n }, .again)
          else (d, .rest)

/-- The ring works until it must wait. -/
def Dev.rxWork (d : Dev) (r : Nat) : Nat → Dev
  | 0 => d
  | fuel + 1 =>
    match d.rxStep r with
    | (d1, .again) => Dev.rxWork d1 r fuel
    | (d1, .rest) => d1

/-- Steps that a ring's waiting frames can take: at most 16 buffers and four more for each. -/
def Dev.rxRun (d : Dev) (r : Nat) : Dev := d.rxWork r (20 * ((d.ring r).frames.length + 1))

/-- Frames of host port k that the delivery stage holds. -/
def Dev.staged (d : Dev) (k : Nat) : Nat :=
  (d.host.rings.map (fun e => (e.2.frames.filter (fun f => f.dest == 452 + k)).length)).sum

/-- A frame handed over by port node 452 + k goes to its ring's list, or is dropped as RX_NO_RING (R342). -/
def Dev.deliver (d : Dev) (k : Nat) (f : Frame) : Dev :=
  let r := if f.reason ≠ 0 then f.trapRing else d.fld (Reg.HIF_HPORT.RX_RING k)
  if d.ringKind r = 2 ∧ d.ringEn r then
    let x := d.ring r
    (d.setRing r { x with frames := x.frames ++ [{ f with dest := 452 + k }], timer := true }).rxRun r
  else (d.release f).bump (Reg.HIF_CNT.COUNT 0)

/-- Port node 452 + k hands over what it can while the stage holds fewer than 256 frames (R342). -/
def Dev.hostPump (d : Dev) (k : Nat) : Nat → Dev
  | 0 => d
  | fuel + 1 =>
    if !d.hifUp || decide (256 ≤ d.staged k) then d
    else
      match d.take (452 + k) (fun _ => .send) with
      | (_, none) => d
      | (d1, some (f, _)) =>
        match d1.editOut f with
        | (d2, none) => Dev.hostPump (d2.release f) k fuel
        | (d2, some b) => Dev.hostPump (d2.deliver k { f.edited b with edit := none }) k fuel

/-- All host ports take what they can. -/
def Dev.hostPorts (d : Dev) : Dev :=
  if d.tm.queues.any (fun e => e.2.ondie != []) then d.each (List.range 4) (fun d k => d.hostPump k 256) else d

/-- What waits for host memory goes as far as it can now: held records, halt records, and the frames of the receive rings
(R331, R337, R344). -/
def Dev.flushHost (d : Dev) : Dev :=
  (d.each (d.host.rings.map (·.1)) (fun d e => (d.flushRecords e).haltRecs e (d.ring e).halts.length)).each
    ((d.host.rings.filter (fun e => e.2.frames != [])).map (·.1)) (fun d r => d.rxRun r)

/-- RX_STARVE_TIMEOUT: the starvation timer of the ring's oldest frame has reached TIMEOUT (R344). -/
def Dev.starve (d : Dev) (r : Nat) : Dev :=
  if (d.ring r).timer && (d.ring r).frames != [] then
    (((d.rxDrop r).bump (Reg.HIF_RING_CNT.COUNT r 1)).rxRun r).hostPorts
  else d

/-! ### Doorbells (R326, R337, R339–R341) -/

/-- The rings whose work waits for an EVT ring's room go on. -/
def Dev.rxWake (d : Dev) (e : Nat) : Dev :=
  d.each ((d.host.rings.map (·.1)).filter (fun r => d.evtRing r == e && d.ringKind r == 2)) (fun d r => d.rxRun r)

/-- Exactly `n` descriptors. -/
def padDescs (n : Nat) (l : List Desc) : List Desc := l.take n ++ List.replicate (n - l.length) ({} : Desc)

/-- Software's index of a ring has changed: a value out of range halts the ring (the index it records is a free value,
for no descriptor is at fault), otherwise records are released or descriptors are posted; `l` are the descriptors that
the device then reads, from the first that it has not read yet. A domain that may not read takes no index up: the next poll
finds it (notes/assumptions/50.md). -/
def Dev.doorbell (d : Dev) (r v : Nat) (l : List Desc) : Dev :=
  if !d.ringLive r || !d.canDma (domOf r) then d
  else
    let v := v % 2 ^ 32
    let occ := if d.ringKind r = 3 then idxSub (d.idx r) v else idxSub v (d.idx r)
    if d.ringSize r < occ then (d.freed).haltRing r stIdxErr (d.freeVal 32)
    else
      let x := d.ring r
      if d.ringKind r = 3 then
        let d1 := d.setRing r { x with sw := v }
        (((d1.flushRecords r).haltRecs r (x.halts.length)).rxWake r).hostPorts
      else if d.ringKind r = 2 ∨ d.ringKind r = 5 then
        let n := occ - x.posted.length
        let d1 := d.readDescs r (d.idx r + x.posted.length) n
        ((d1.setRing r { x with sw := v, posted := x.posted ++ padDescs n l }).rxRun r).hostPorts
      else d.setRing r { x with sw := v }

/-- A doorbell line as read: each word is the index of one ring; answers whether any index changed. -/
def Dev.doorbellLine (d : Dev) (k : Nat) (line : List Nat) (mem : List (Nat × List Byte)) : Dev × Bool :=
  (List.range 16).foldl (fun (a : Dev × Bool) j =>
    let r := 16 * k + j
    match (line)[j]? with
    | none => a
    | some v =>
      if a.1.ringLive r ∧ a.1.canDma k ∧ v % 2 ^ 32 ≠ (a.1.ring r).sw then (a.1.doorbell r v (descsOf (Tbl.get mem r [])), true) else a) (d, false)

/-- The doorbell and status line addresses of a domain. -/
def Dev.dbAddr (d : Dev) (k : Nat) : Nat := d.wide (Reg.HIF_DOM_DB_LO.ADDR k) (Reg.HIF_DOM_DB_HI.ADDR k) / 64 * 64
def Dev.stAddr (d : Dev) (k : Nat) : Nat := d.wide (Reg.HIF_DOM_ST_LO.ADDR k) (Reg.HIF_DOM_ST_HI.ADDR k) / 64 * 64

/-- Polls run in this domain. -/
def Dev.polls (d : Dev) (k : Nat) : Bool :=
  d.hifUp && d.bind k == 2 && d.canDma k && !d.on (Reg.HIF_DOM_STAT.POLL_ERR k)

/-- A poll falls due: it is issued, or follows the one outstanding (R341). -/
def Dev.pollIssue (d : Dev) (k : Nat) : Dev :=
  if !d.polls k then d
  else if (d.dom k).poll then d.setDom k { d.dom k with due := true }
  else (d.setDom k { d.dom k with poll := true, due := false }).emit (.pollRead k (d.dbAddr k))

/-- A poll's completion (R341). -/
def Dev.pollDone (d : Dev) (k rtt : Nat) (line : List Nat) (mem : List (Nat × List Byte)) : Dev :=
  if !(d.dom k).poll then d
  else
    let due := (d.dom k).due
    let d1 := (d.setDom k { d.dom k with poll := false, due := false }).put (Reg.HIF_DOM_STAT.POLL_RTT k) (min 65535 rtt)
    let (d2, chg) := d1.doorbellLine k line mem
    (d2.iff chg (·.clr (Reg.HIF_DOM_STAT.BACKED_OFF k))).iff due (·.pollIssue k)

/-- The words of a domain's status line: the device's index of each ring, 0 for an unused slot (R338). -/
def Dev.statusWords (d : Dev) (k : Nat) : List Nat :=
  (List.range 16).map (fun j => if d.ringKind (16 * k + j) = 0 then 0 else d.idx (16 * k + j))

/-- The whole status line of a domain (R338), and the vectors of the EVT rings whose records it covers (R337). -/
def Dev.statusLine (d : Dev) (k : Nat) : Dev :=
  if !(d.hifUp && (d.dom k).dirty && d.canDma k) then d
  else
    let d1 := ((d.setDom k { d.dom k with dirty := false }).emit (.statusLine k (d.stAddr k) (d.statusWords k))).clr
      (Reg.HIF_DOM_STAT.BACKED_OFF k)
    d1.each ((List.range 16).map (16 * k + ·)) (fun d r =>
      let x := d.ring r
      let cnt := max 1 (d.fld (Reg.HIF_RING_IRQ.MOD_CNT r))
      if d.ringKind r = 3 ∧ d.on (Reg.HIF_RING_IRQ.IRQ_EN r) ∧ 0 < x.unsig ∧
          (cnt ≤ x.unsig ∨ x.modDue ∨ d.fld (Reg.HIF_RING_IRQ.MOD_T r) = 0) then
        (d.setRing r { x with unsig := 0, modDue := false }).sendVec k (d.fld (Reg.HIF_RING_IRQ.VEC r))
      else d)

/-- MOD_T has passed since the oldest unsignalled record (R337): the vector goes once a status line covers the records. -/
def Dev.modTimer (d : Dev) (r : Nat) : Dev :=
  let x := d.ring r
  if d.ringKind r = 3 ∧ d.on (Reg.HIF_RING_IRQ.IRQ_EN r) ∧ 0 < x.unsig then
    if (d.dom (domOf r)).dirty then d.setRing r { x with modDue := true }
    else (d.setRing r { x with unsig := 0, modDue := false }).sendVec (domOf r) (d.fld (Reg.HIF_RING_IRQ.VEC r))
  else d

/-! ### Enabling and disabling (R324, R327, R328) -/

def stBadBind : Nat := 0x44
def stBadCfg : Nat := 0x45
def stUnitAbsent : Nat := 0x07

/-- The binding of a ring names an absent unit (R11, R327): a domain bound to a Brewhouse that the part does not have; a
line channel that is absent; PLOAM without the Tender; OMCI to a burst store that no Coachbuilder keeps. -/
def Dev.bindAbsent (d : Dev) (r : Nat) : Bool :=
  let k := d.ringKind r
  (d.bind (domOf r) == 1 && !d.brewHere) ||
    ((k == 4 || k == 5) &&
      (!d.lnHere (d.fld (Reg.HIF_RING_CFG.CHANNEL r)) ||
        (if d.on (Reg.HIF_RING_CFG.MSG r) then k == 4 && !d.coachHere else !d.tenderHere)))

/-- The first reason to refuse a ring, or 0. -/
def Dev.ringRefusal (d : Dev) (r : Nat) : Nat :=
  let k := d.ringKind r
  let ls := d.fld (Reg.HIF_RING_CFG.LOG2_SIZE r)
  let e := d.evtRing r
  let ch := d.fld (Reg.HIF_RING_CFG.CHANNEL r)
  let msg := d.fld (Reg.HIF_RING_CFG.MSG r)
  if d.bind (domOf r) = 0 ∨ ls < 6 ∨ 16 < ls then stBadCfg
  else if d.bindAbsent r then stUnitAbsent
  else if (k = 1 ∨ k = 2 ∨ k = 4 ∨ k = 5) ∧ ¬ (d.ringKind e = 3 ∧ d.ringEn e ∧ domOf e = domOf r) then stBadBind
  else if (k = 4 ∨ k = 5) ∧ (List.range 256).any (fun q => q != r && d.ringEn q && d.ringKind q == k &&
      d.fld (Reg.HIF_RING_CFG.CHANNEL q) == ch && d.fld (Reg.HIF_RING_CFG.MSG q) == msg) then stBadBind
  else 0

/-- RING_CTRL.EN written 1: the checks, the device's index from RING_IDX, and the doorbell slot read afresh (`v`). A ring that
has still to stop is checked in the same way, and the frame it is reading goes on; records that an EVT ring holds stay held. -/
def Dev.ringEnable (d : Dev) (r v : Nat) (l : List Desc) : Dev :=
  if !d.hifUp || d.ringEn r then d
  else
    let st := d.ringRefusal r
    let d0 := (d.put (Reg.HIF_RING_STAT.STATUS r) st).clr (Reg.HIF_RING_STAT.HALTED r)
    if st ≠ 0 then d0.ev Reg.HIF_EVT.REFUSED
    else
      let d1 := (d0.put (Reg.HIF_RING_CTRL.EN r) 1).put (Reg.HIF_RING_STAT.RUNNING r) 1
      let x := d.ring r
      ((d1.setRing r { sw := d.idx r, fetch := x.fetch, rsvd := x.rsvd, hold := x.hold, halts := x.halts }).doorbell r v l)

/-- Rings that name an EVT ring and are enabled. -/
def Dev.namedBy (d : Dev) (e : Nat) : Bool :=
  (List.range 256).any (fun q => d.ringEn q && d.evtRing q == e && d.ringKind q != 3 && d.ringKind q != 0)

/-- RING_CTRL.EN written 0 (R328). A receive ring ends the frame begun, and the others that waited are dropped. -/
def Dev.ringDisable (d : Dev) (r : Nat) : Dev :=
  if !d.ringEn r || (d.ringKind r == 3 && d.namedBy r) then d
  else
    let d1 := d.clr (Reg.HIF_RING_CTRL.EN r)
    if d.ringKind r = 2 then (d1.each (d1.ring r).frames (fun d _ => d.rxDrop r)).hostPorts else d1

/-- The ring has reached its boundary (R328). -/
def Dev.ringStop (d : Dev) (r : Nat) : Dev :=
  if d.ringEn r || (d.ring r).fetch.isSome then d else d.clr (Reg.HIF_RING_STAT.RUNNING r)

/-- A reset disables a ring without writing anything: waiting frames are dropped (R328). -/
def Dev.ringKill (d : Dev) (r : Nat) : Dev :=
  let x := d.ring r
  let d1 := d.each x.frames (fun d f => d.release f)
  let d2 := (d1.clr (Reg.HIF_RING_CTRL.EN r)).clr (Reg.HIF_RING_STAT.RUNNING r)
  { d2 with host := { d2.host with
      rings := Tbl.del d2.host.rings r
      stamps := d2.host.stamps.filter (fun e => e.2.ring != r) } }

/-- A PCIe reset takes a domain bound to PCIe: its rings are disabled, and every register of the domain and of its rings
returns to its reset value (R44, R328). -/
def Dev.domReset (d : Dev) (k : Nat) : Dev :=
  let d1 := (d.each ((List.range 16).map (16 * k + ·)) (fun d r => d.ringKill r)).setDom k {}
  let none := fun _ => false
  (((d1.clearRegs (Reg.HIF_DOM_CFG.ADR k) (Reg.HIF_DOM_CFG.ADR k + 0x1F) none).clearRegs
    (Reg.HIF_RING_CFG.ADR (16 * k)) (Reg.HIF_RING_CFG.ADR (16 * k) + 0x1FF) none).clearRegs
    (Reg.HIF_RING_ERR_IDX.ADR (16 * k)) (Reg.HIF_RING_ERR_IDX.ADR (16 * k) + 0x3F) none).clearRegs
    (Reg.HIF_RING_CNT.ADR (16 * k) 0) (Reg.HIF_RING_CNT.ADR (16 * k) 0 + 0xFF) none

/-- The PCIe resets of R44 and R328: the endpoint, whose link the status then shows down, and the domains bound to PCIe. -/
def Dev.pcieReset (d : Dev) : Dev :=
  let d1 := d.each ((List.range 16).filter (fun k => d.bind k == 2)) (fun d k => d.domReset k)
  let d2 := (d1.iff (d1.on Reg.HIF_PCIE_STAT.LINK_UP && d1.hifUp) (·.ev Reg.HIF_EVT.PCIE_LINK)).clearRegs Reg.HIF_PCIE_STAT.ADR
    (Reg.HIF_PCIE_STAT.ADR + 3) (fun _ => false)
  { d2 with host := { d2.host with
      funcMask := false, vecMask := 2 ^ 256 - 1, pend := 0, msix := [], payload := 0, readReq := 2 } }

/-- Software writes RING_IDX, which it may while the ring is disabled: a change of the index makes the domain's status line
due (R338). -/
def Dev.idxWrite (d : Dev) (r v : Nat) : Dev :=
  if d.ringEn r || d.idx r == v % 2 ^ 32 then d
  else
    let d1 := d.put (Reg.HIF_RING_IDX.IDX r) v
    d1.setDom (domOf r) { d1.dom (domOf r) with dirty := true }

/-- BACKOFF_DIS is written: with it no back-off takes place, and one that stands ends (R341). -/
def Dev.backoffDis (d : Dev) (k : Nat) (on : Bool) : Dev :=
  (d.put (Reg.HIF_DOM_CFG.BACKOFF_DIS k) (bit on)).iff on (·.clr (Reg.HIF_DOM_STAT.BACKED_OFF k))

/-- A write of BIND (R324): ignored while a ring of the domain is enabled; 2 without PCIe is refused. A bind to the
Brewhouse registers the doorbell line with the fabric (R340), and a bind ends a stop of polling (R349). A status line that is
due and a poll that is outstanding stay so (R338, R341). -/
def Dev.domainBind (d : Dev) (k b : Nat) : Dev :=
  if (List.range 16).any (fun j => d.ringEn (16 * k + j)) then d
  else if b = 2 ∧ ¬ d.pcieHere then d.iff d.hifUp (·.ev Reg.HIF_EVT.REFUSED)
  else
    let d1 := (d.put (Reg.HIF_DOM_CFG.BIND k) b).clr (Reg.HIF_DOM_STAT.POLL_ERR k)
    d1.iff (b == 1) (·.emit (.doorbellReg k (d.dbAddr k)))

/-! ### Messages (R334, R346) -/

/-- Buffers that a message of `n` bytes fills among those posted: their bytes in order, or none when they do not
suffice. -/
def fitBufs : List Desc → Nat → Option (List (Desc × Nat))
  | _, 0 => some []
  | [], _ => none
  | b :: r, n + 1 => (fitBufs r (n + 1 - b.len)).map (fun l => (b, min b.len (n + 1)) :: l)

/-- Write the bytes of a message into its buffers. -/
def Dev.fillBufs (d : Dev) (r i : Nat) : List (Desc × Nat) → List Byte → Dev
  | [], _ => d
  | (b, n) :: t, bytes => Dev.fillBufs (d.emit (.rxBuf r (d.idx r + i) b.addr (bytes.take n))) r (i + 1) t (bytes.drop n)

/-- Offer a message of a channel to its RXMSG ring (`omci` 0 PLOAM, 1 OMCI). Answers whether it was written; a message
that would need more than 16 buffers counts in BUF_LIMIT, and a bad descriptor halts the ring. -/
def Dev.rxMsg (d : Dev) (n omci : Nat) (bytes : List Byte) : Dev × Bool :=
  match (List.range 256).find? (fun r => d.ringEn r && d.ringKind r == 5 &&
      d.fld (Reg.HIF_RING_CFG.CHANNEL r) == n && d.fld (Reg.HIF_RING_CFG.MSG r) == omci) with
  | none => (d, false)
  | some r =>
    let e := d.evtRing r
    let posted := (d.ring r).posted
    if !(d.hifUp && d.ringLive r && d.canDma (domOf r) && d.evtRoom e 1) then (d, false)
    else
      match (posted.take 16).findIdx? (fun b => b.len == 0 || decide (d.bufSize r < b.len)) with
      | some i => (d.haltRing r stLenErr (d.idx r + i), false)
      | none =>
        match fitBufs (posted.take 16) bytes.length with
        | none => (d.iff (decide (16 ≤ posted.length)) (·.bump (Reg.HIF_RING_CNT.COUNT r 2)), false)
        | some l =>
          let d1 := (d.fillBufs r 0 l bytes).reserve e 1
          let d2 := d1.record e [recWord 3 0 r false, bytes.length % 2 ^ 16 + l.length * 2 ^ 16, d.idx r % 2 ^ 16, n + omci * 4]
          let d3 := (d2.setRing r { d2.ring r with posted := posted.drop l.length }).moveIdx r l.length
          (d3.bump (Reg.HIF_RING_CNT.COUNT r 0), true)

/-- The check of a TXMSG ring's next message: how many descriptors it has, an error, or nothing yet (R330). -/
def Dev.txmsgWalk (d : Dev) (r : Nat) (l : List Desc) : DescWalk :=
  if d.on (Reg.HIF_RING_CFG.MSG r) then
    walkDescs (d.bufSize r) (d.fld (Reg.LN_OMCI_CFG.MAX_TX (d.fld (Reg.HIF_RING_CFG.CHANNEL r)))) l 0 0
  else
    match l with
    | [] => .more
    | x :: _ => if x.len = 64 ∧ x.sof ∧ x.eof ∧ x.len ≤ d.bufSize r then .whole 1 else .bad stLenErr 0

/-- The record and the head of a message that its sink has taken or refused (R334). -/
def Dev.txmsgDone (d : Dev) (r : Nat) (l : List Desc) (status : Nat) : Dev :=
  let y := l.getLastD {}
  let tag : TxTag := { ring := r, cookie := y.cookie, eofIdx := d.idx r + (l.length - 1), len := descBytes l }
  ((d.reserve (d.evtRing r) 1).txDone tag status none).moveIdx r l.length

/-! ### Errors (R349) -/

/-- A read for a ring failed: it counts, the ring halts unless another error has halted it, and a frame in reading is given up.
`i` counts descriptors from the head. A ring that does not run has no read outstanding. -/
def Dev.dmaError (d : Dev) (r i : Nat) : Dev :=
  if !d.on (Reg.HIF_RING_STAT.RUNNING r) then d
  else
    let d0 := (d.bump (Reg.HIF_CNT.COUNT 1)).ev Reg.HIF_EVT.DMA_ERR
    if d.on (Reg.HIF_RING_STAT.HALTED r) then d0
    else
      let d1 := d0.fetchDrop r
      let d2 := if d.ringKind r = 2 then (d1.setRing r { d1.ring r with filled := 0 }).rxNext r else d1
      d2.haltRing r stDmaErr (d.idx r + i)

/-- A doorbell poll failed: polling stops in its domain, and no ring halts. -/
def Dev.pollError (d : Dev) (k : Nat) : Dev :=
  if !(d.dom k).poll then d
  else (d.setDom k { d.dom k with poll := false, due := false }).ev (Reg.HIF_DOM_STAT.POLL_ERR k)

end Sys2Proof.Machine
end

