-- ==== Sys2Proof/Machine/Act.lean ====
section
/-!
DEFINITION. The Tender (spec/03): the activation machine of each channel, its timers, the downstream PLOAM messages with
their records, the answers, and the binding of Alloc-IDs to T-CONTs.
-/
namespace Sys2Proof.Machine

def Dev.act (d : Dev) (n : Nat) : Act := Tbl.get d.acts n {}
def Dev.setAct (d : Dev) (n : Nat) (x : Act) : Dev := { d with acts := Tbl.set d.acts n x }

/-- State codes of R83. -/
def stO11 : Nat := 0
def stO12 : Nat := 1
def stO23 : Nat := 2
def stO4 : Nat := 3
def stO5 : Nat := 4
def stO6 : Nat := 5
def stO7 : Nat := 6

def Dev.actState (d : Dev) (n : Nat) : Nat := d.fld (Reg.LN_ACT_STAT.STATE n)
def Dev.actEn (d : Dev) (n : Nat) : Bool := d.on (Reg.LN_ACT_CTRL.EN n)

/-- Count in LN.ACT_CNT (R111). -/
def Dev.actCnt (d : Dev) (n c k : Nat) : Dev := d.bumpBy (Reg.LN_ACT_CNT.COUNT n c) k

/-- The Tender's firmware runs (R80, R81). -/
def Dev.tenderRuns (d : Dev) : Bool := d.tenderHere && d.on Reg.CPX_TND_STAT.RUNNING

/-- LCn_TXDIS (R86). -/
def Dev.txDis (d : Dev) (n : Nat) : Bool :=
  !d.lnUp n || !d.actEn n || d.actState n == stO7 || d.on (Reg.LN_ACT_CTRL.TX_FORCE_DIS n)

/-- The place on channel n's grid that stands at its pins now. -/
def Dev.gridNow (d : Dev) (n : Nat) : Nat :=
  let c := d.coach n
  ((c.frame * frameBits : Nat) + ((d.nowPs : Int) - c.rxPs) * 497664 / 10000000).toNat

/-- A burst of channel n is at its pins: LCn_TXBE is asserted (R86, R99). -/
def Dev.inBurst (d : Dev) (n : Nat) : Bool :=
  !d.txDis n && (match (d.coach n).lastOff with
    | some e => decide ((d.coach n).lastOn ≤ d.gridNow n ∧ d.gridNow n < e)
    | none => false)

/-- The level of LCn_TXBE: low throughout a reset of the channel (R46), otherwise by TXBE_POL. -/
def Dev.txBe (d : Dev) (n : Nat) : Bool := d.lnUp n && (d.inBurst n != d.on (Reg.LN_CB_TIMING.TXBE_POL n))

/-- LCn_TXDIS has risen: a burst in progress is cut, and LCn_TXBE deasserts (R86). -/
def Dev.txCut (d : Dev) (n : Nat) : Dev :=
  let c := d.coach n
  match c.lastOff with
  | none => d
  | some e => if d.gridNow n < e then (d.setCoach n { c with lastOff := some (d.gridNow n) }).emit (.burstCut n) else d

/-- The channels' transmitters are disabled by a reset of the whole domain. -/
def Dev.txCuts (d : Dev) : Dev := d.each ((List.range 4).filter d.lnUp) (fun d n => d.txCut n)

/-- The vendor-specific serial number: as written, or its reset value (R88). -/
def Dev.vssn (d : Dev) (n : Nat) : Nat :=
  let f := Reg.LN_SN_VSSN.VSSN n
  if Tbl.has d.regs f.key then d.fld f else d.chip.serial % 2 ^ 32 / 4 * 4 + n % 4

/-- The vendor identifier "OCRH". -/
def vendorId : Nat := 0x4F435248

/-! ### Alloc-IDs and T-CONTs (R101, R103, R128) -/

/-- The side of a channel in protection mode, and the active side (R126). -/
def Dev.sideOf (d : Dev) (n : Nat) : Nat := if d.protBHere then n / 2 else n
def Dev.activeSide (d : Dev) : Nat := d.fld Reg.LN_PROT_STAT.ACTIVE

/-- VALID entries of LN.ALLOC, in order. -/
def Dev.allocEntries (d : Dev) (n : Nat) : List Nat := (List.range 128).filter (fun i => d.on (Reg.LN_ALLOC.VALID n i))

def Dev.allocTcont (d : Dev) (n i : Nat) : Nat := d.fld (Reg.LN_ALLOC.TCONT n i)

/-- Other VALID entries with the same T-CONT, on any channel (in protection mode, of the same side). -/
def Dev.allocDups (d : Dev) (n i : Nat) : List Nat :=
  (List.range 4).filter (fun m =>
    (d.lineMode != 2 || d.sideOf m == d.sideOf n) &&
      (d.allocEntries m).any (fun j => (m != n || j != i) && d.allocTcont m j == d.allocTcont n i))

/-- The T-CONT of an entry; none for an unbound entry (R103, R211). -/
def Dev.boundTcont (d : Dev) (n i : Nat) : Option Nat :=
  let t := d.allocTcont n i
  if d.on (Reg.LN_ALLOC.VALID n i) ∧ t < 512 ∧ bitOf (d.portCfg (512 + t)) 0 ∧ d.allocDups n i = [] then some t else none

/-- The entry with an Alloc-ID. -/
def Dev.allocFind (d : Dev) (n a : Nat) : Option Nat :=
  (d.allocEntries n).find? (fun i => d.fld (Reg.LN_ALLOC.ALLOC_ID n i) == a)

/-- An entry was assigned or bound: a duplicate sets ALLOC_CONFLICT, on every channel concerned. -/
def Dev.allocScan (d : Dev) (n i : Nat) : Dev :=
  if d.on (Reg.LN_ALLOC.VALID n i) ∧ d.allocTcont n i < 512 ∧ d.allocDups n i ≠ [] then
    (d.each (d.allocDups n i) (fun d m => d.ev (Reg.LN_ACT_EVT.ALLOC_CONFLICT m))).ev (Reg.LN_ACT_EVT.ALLOC_CONFLICT n)
  else d

/-- Software binds an entry. -/
def Dev.allocBind (d : Dev) (n i t : Nat) : Dev := (d.put (Reg.LN_ALLOC.TCONT n i) t).allocScan n i

/-! ### Leaving a burst store (R124) -/

/-- OMCI messages taken come back ahead of those that wait; a remainder of the last one gives way to the whole. -/
def omciBack (took : List (List Byte × Nat)) (l : List (List Byte × Nat)) : List (List Byte × Nat) :=
  match took.getLast?, l with
  | some x, y :: r => if y.1 = x.1 ∧ x.2 < y.2 then took ++ r else took ++ y :: r
  | _, l => took ++ l

/-- A burst that is not sent gives back what it had taken: its frames and OMCI messages to the store, its PLOAM message
to the head of its queue. -/
def Dev.unseal (d : Dev) (n : Nat) (b : Burst) : Dev :=
  match b.content with
  | none => d
  | some s =>
    let c := d.coach n
    let kept := c.store.filter (fun f => !s.took.any (fun g => g.id == f.id))
    let d1 := d.setCoach n { c with store := s.took ++ kept, omci := omciBack s.omci c.omci }
    let x := d1.act n
    match s.ploam, s.queued with
    | some (.software m urgent), true => d1.setAct n { x with sw := { msg := m, urgent := urgent } :: x.sw }
    | some u, true => d1.setAct n { x with answers := u :: x.answers }
    | _, _ => d1

/-- Bursts of channel n that have been sealed and not sent are cancelled, their content back in the store. -/
def Dev.cancelSealed (d : Dev) (n : Nat) : Dev :=
  let c := d.coach n
  (d.setCoach n { c with bursts := c.bursts.filter (fun b => b.content.isNone) }).each
    (c.bursts.filter (fun b => b.content.isSome)).reverse (fun d b => d.unseal n b)

/-- Frames of bonding groups in the burst store of channel n are discarded, those that a burst not yet sent was to carry
among them (R124): outside O5 no such burst is sent (R83, R101). -/
def Dev.strand (d0 : Dev) (n : Nat) : Dev :=
  let d := d0.cancelSealed n
  let x := d.coach n
  let lost := x.store.filter (fun f => f.group.isSome)
  let d1 := d.each (lost.filter (fun f => !f.ready)) (fun d e => d.release e.f)
  (d1.setCoach n { x with store := x.store.filter (fun f => f.group.isNone) }).bondCnt bTxStranded lost.length

/-! ### The machine (R84) -/

/-- A change of state: O7 disables the transmitter (R86), and leaving O5 strands the bonded frames of the burst store
(R124). -/
def Dev.setState (d : Dev) (n s : Nat) : Dev :=
  let was := d.actState n
  if was = s then d
  else
    let d1 := (d.put (Reg.LN_ACT_STAT.STATE n) s).ev (Reg.LN_ACT_EVT.STATE_CHG n)
    (d1.iff (s == stO7) (·.txCut n)).iff (was == stO5) (·.strand n)

/-- The ONU-ID is cleared (R91). -/
def Dev.clearOnu (d : Dev) (n : Nat) : Dev := (d.put (Reg.LN_ACT_STAT.ONU_ID_VALID n) 0).put (Reg.LN_ACT_STAT.ONU_ID n) 0x3FF

/-- ONU-ID, equalisation delay and Alloc-ID table are cleared. -/
def Dev.clearIds (d : Dev) (n : Nat) : Dev :=
  let d1 := ((d.clearOnu n).put (Reg.LN_ACT_STAT.EQD_VALID n) 0).put (Reg.LN_EQD.EQD n) 0
  d1.each (d.allocEntries n) (fun d i => (d.put (Reg.LN_ALLOC.VALID n i) 0).put (Reg.LN_ALLOC.ALLOC_ID n i) 0)

def Dev.stopTimers (d : Dev) (n : Nat) : Dev := d.setAct n { d.act n with to1 := false, to2 := false, late1 := false, late2 := false }

/-- O1.2 with a valid profile and, where needed, an accepted Channel_Profile goes on to O2-3. -/
def Dev.learn (d : Dev) (n : Nat) : Dev :=
  if d.actState n = stO12 ∧ d.fld (Reg.LN_ACT_STAT.PROF_VALID n) ≠ 0 ∧
      ((d.act n).cprof ∨ ¬ d.on (Reg.LN_ACT_CTRL.NEED_CPROF n)) then d.setState n stO23
  else d

/-- The machine starts: O7 with its emergency stop set, otherwise O1.1 (R87). -/
def Dev.actStart (d : Dev) (n : Nat) : Dev :=
  let d1 := d.setAct n { d.act n with hdrs := 0, lateLods := false }
  d1.setState n (if bitOf (d.fld Reg.PWR_LINE_ESTOP.ESTOP) n then stO7 else stO11)

/-- The first row of R84. -/
def Dev.actStop (d : Dev) (n : Nat) : Dev :=
  if d.actState n = stO7 then d
  else
    let d1 := ((d.clearIds n).stopTimers n).setState n stO11
    d1.setAct n { d1.act n with hdrs := 0 }

/-- EN written 1 (R84, R87); a halted Tender acts on it at its restart (R81). -/
def Dev.actEnable (d : Dev) (n : Nat) : Dev :=
  if d.actEn n then d
  else
    let d1 := d.put (Reg.LN_ACT_CTRL.EN n) 1
    if !d.lnUp n || !d.tenderHere then d1
    else if d.tenderHalt then d1.setAct n { d1.act n with lateEn := true }
    else d1.actStart n

/-- EN written 0. -/
def Dev.actDisable (d : Dev) (n : Nat) : Dev :=
  let d1 := d.put (Reg.LN_ACT_CTRL.EN n) 0
  if !d.lnUp n || !d.tenderHere then d1
  else if d.tenderHalt then d1.setAct n { d1.act n with lateDis := true, lateEn := false }
  else d1.actStop n

/-- Headers in two consecutive frame periods (R84). -/
def Dev.headersIn (d : Dev) (n : Nat) : Dev :=
  if !d.tenderRuns || !d.actEn n || (d.act n).hdrs < 2 then d
  else if d.actState n = stO11 then (d.setState n stO12).learn n
  else if d.actState n = stO6 then (d.setAct n { d.act n with to2 := false, late2 := false }).setState n stO5
  else d

/-- An FS header reaches the machine; the map that follows takes the equalisation delay and the profiles as they now
stand (R97, R98). -/
def Dev.actHeader (d : Dev) (n : Nat) : Dev :=
  if !d.lnUp n then d
  else
    let c := d.coach n
    let words := fun p => (List.range 11).map (fun w => if w = 0 then
        d.fld (Reg.LN_PROF0.VALID n p) + 2 * d.fld (Reg.LN_PROF0.VERSION n p) + 2 ^ 5 * d.fld (Reg.LN_PROF0.FEC n p) +
          2 ^ 6 * d.fld (Reg.LN_PROF0.DEL_BYTES n p) + 2 ^ 10 * d.fld (Reg.LN_PROF0.PAT_BYTES n p) +
          2 ^ 16 * d.fld (Reg.LN_PROF0.PRE_BYTES n p)
      else d.fld (Reg.LN_PROFW.PATTERN n p (w - 1)))
    let d1 := d.setCoach n { c with eqd := d.fld (Reg.LN_EQD.EQD n), profs := (List.range 4).map words }
    if d.actEn n then
      let x := d1.act n
      (d1.setAct n { x with hdrs := min 2 (x.hdrs + 1), hdrSeen := true, lateLods := false }).headersIn n
    else d1

/-- A frame of channel n begins: a frame period without a header breaks the run of headers; the frame's number and its
time at the pins are kept for the burst times (R85, R99). -/
def Dev.actFrame (d : Dev) (n : Nat) : Dev :=
  let x := d.act n
  let c := d.coach n
  (d.setAct n { x with hdrs := if x.hdrSeen then x.hdrs else 0, hdrSeen := false }).setCoach n
    { c with frame := c.frame + 1, rxPs := (d.nowPs : Int) - 100 * d.fld (Reg.LN_RX_LAT.LAT n) }

/-- What loss of downstream does (R84, R85). -/
def Dev.lods (d : Dev) (n : Nat) : Dev :=
  let s := d.actState n
  let d1 := d.setAct n { d.act n with hdrs := 0, lateLods := false }
  if s = stO12 ∨ s = stO23 ∨ s = stO4 then
    ((d1.clearIds n).setAct n { d1.act n with to1 := false, late1 := false }).setState n stO11
  else if s = stO5 then (d1.setAct n { d1.act n with to2 := true }).setState n stO6
  else d1

def Dev.lodsTimeout (d : Dev) (n : Nat) : Dev :=
  if !d.lnUp n || !d.actEn n then d
  else if d.tenderHalt then d.setAct n { d.act n with hdrs := 0, lateLods := true }
  else if d.tenderRuns then d.lods n else d

/-- What the expiry of TO1 does in O4. -/
def Dev.to1Act (d : Dev) (n : Nat) : Dev := if d.actState n = stO4 then (d.clearOnu n).setState n stO23 else d

/-- What the expiry of TO2 does in O6. -/
def Dev.to2Act (d : Dev) (n : Nat) : Dev := if d.actState n = stO6 then (d.clearIds n).setState n stO11 else d

/-- TO1 expires; in a halt it is recorded and acted on at restart (R81). -/
def Dev.to1Expiry (d : Dev) (n : Nat) : Dev :=
  let x := d.act n
  if x.to1 ∧ d.actState n = stO4 then
    let d1 := (d.setAct n { x with to1 := false, late1 := d.tenderHalt }).ev (Reg.LN_ACT_EVT.TO1_EXP n)
    if d.tenderHalt then d1 else d1.to1Act n
  else d

def Dev.to2Expiry (d : Dev) (n : Nat) : Dev :=
  let x := d.act n
  if x.to2 ∧ d.actState n = stO6 then
    let d1 := (d.setAct n { x with to2 := false, late2 := d.tenderHalt }).ev (Reg.LN_ACT_EVT.TO2_EXP n)
    if d.tenderHalt then d1 else d1.to2Act n
  else d

/-! ### Answers, and the power level (R95, R96) -/

/-- An answer falls due (R95). -/
def Dev.answer (d : Dev) (n : Nat) (u : PloamUp) : Dev := d.setAct n { d.act n with due := (d.act n).due ++ [u] }

/-- The requested level has been applied: the Tender acknowledges (R96). -/
def Dev.powerCheck (d : Dev) (n : Nat) : Dev :=
  if (d.act n).pwrWait ∧ d.tenderRuns ∧ d.fld (Reg.LN_PWR_LVL.APPLIED n) = d.fld (Reg.LN_PWR_LVL.REQ n) then
    (d.setAct n { d.act n with pwrWait := false }).answer n (.ack 0)
  else d

/-- At a restart the Tender takes up what R96 asks of it: the error answer of a timeout that passed in the halt, or the
acknowledgement of a level that software applied in it. -/
def Dev.pwrResume (d : Dev) (n : Nat) : Dev :=
  if (d.act n).pwrWait ∧ (d.act n).latePwr then (d.setAct n { d.act n with pwrWait := false, latePwr := false }).answer n (.ack 1)
  else d.powerCheck n

/-! ### Lockstep (R81) -/

def Dev.lockstepError (d : Dev) : Dev :=
  if d.tenderRuns then { (d.put Reg.CPX_TND_STAT.RUNNING 0).ev Reg.CPX_TND_STAT.LOCKSTEP_ERR with tenderHalt := true } else d

/-- Software restarts a halted Tender: it resumes every machine, and acts on what fell due in the halt. -/
def Dev.tenderRestart (d : Dev) : Dev :=
  if d.tenderHalt then
    let d1 := { d.put Reg.CPX_TND_STAT.RUNNING 1 with tenderHalt := false }
    d1.each ((List.range 4).filter d.lnUp) (fun d n =>
      let x := d.act n
      let d2 := d.setAct n { x with late1 := false, late2 := false, lateDis := false, lateEn := false }
      let d3 := d2.iff x.lateDis (·.actStop n)
      let d4 := d3.iff x.lateEn (·.actStart n)
      let d5 := (d4.iff x.late1 (·.to1Act n)).iff x.late2 (·.to2Act n)
      let d6 := (d5.iff (x.lateLods && d5.actEn n) (·.lods n)).headersIn n
      (d6.learn n).pwrResume n)
  else d

/-! ### PLOAM (R92 to R97) -/

/-- The message carries the channel's serial number. -/
def Dev.ownSerial (d : Dev) (n : Nat) (m : Ploam) : Bool := m.serial == some (vendorId, d.vssn n)

/-- The message is addressed to the channel's ONU-ID. -/
def Dev.ownOnu (d : Dev) (n : Nat) (m : Ploam) : Bool :=
  d.on (Reg.LN_ACT_STAT.ONU_ID_VALID n) && m.onu == some (d.fld (Reg.LN_ACT_STAT.ONU_ID n))

/-- A message of R92 for this channel. -/
def Dev.addressed (d : Dev) (n : Nat) (m : Ploam) : Bool := m.onu.isNone || d.ownOnu n m || d.ownSerial n m

/-- Actions of a record (R93). -/
def aDone : Nat := 0
def aAnswered : Nat := 1
def aIgnored : Nat := 2
def aUnknown : Nat := 3
def aMicFail : Nat := 4

/-- The record of R93. -/
def ploamRecord (msg : List Byte) (sfc n action state : Nat) : List Byte :=
  (padTo 48 msg).take 48 ++ leBytes sfc 8 ++ leBytes n 1 ++ leBytes action 1 ++ leBytes state 1 ++ List.replicate 5 (0 : Byte)

/-- Write the record to the channel's ring, or count it (R93). -/
def Dev.ploamRecord (d : Dev) (n : Nat) (m : Ploam) (action state : Nat) : Dev :=
  let (d1, ok) := d.rxMsg n 0 (Machine.ploamRecord m.msg (d.sfc n) n action state)
  (d1.actCnt n 0 1).iff (!ok) (·.actCnt n 2 1)

/-- A downstream PLOAM message: the address, the integrity check, what its type asks for (`h` answers the action), and
the record (R92, R93). -/
def Dev.ploamRx (d : Dev) (n : Nat) (m : Ploam) (h : Dev → Dev × Nat) : Dev :=
  if !d.lnUp n || !d.actEn n || !d.tenderRuns || !d.addressed n m then d
  else
    let st := d.actState n
    if d.ploamMicOk n m.msg then
      let (d1, a) := h d
      d1.ploamRecord n m a st
    else (d.actCnt n 1 1).ploamRecord n m aMicFail st

/-- The answer in preparation joins the queue, or is dropped when four wait (R94). -/
def Dev.answerReady (d : Dev) (n : Nat) : Dev :=
  if !d.tenderRuns then d
  else
    let x := d.act n
    match x.due with
    | [] => d
    | u :: r =>
      if 4 ≤ x.answers.length then (d.setAct n { x with due := r }).actCnt n 20 1
      else d.setAct n { x with due := r, answers := x.answers ++ [u] }

/-- The registration message (R89). -/
def Dev.registration (d : Dev) (n : Nat) : PloamUp :=
  .registration ((List.range 9).flatMap (fun i => beBytes (d.fld (Reg.LN_REG_ID.REG_ID n i)) 4))

/-- Bytes as words, lowest index in [31:24]. -/
def beWord (b : List Byte) (i : Nat) : Nat := beAt b (4 * i) 4

/-- Burst_Profile (R97). -/
def Dev.burstProfile (d : Dev) (n : Nat) (x : Profile) : Dev × Nat :=
  let p := x.index.val
  let ok := decide (x.preBytes ≤ 2048) && decide (1 ≤ x.pattern.length) && decide (x.pattern.length ≤ 32) &&
    decide (1 ≤ x.delim.length) && decide (x.delim.length ≤ 8)
  let d1 := (((((d.put (Reg.LN_PROF0.VALID n p) (bit ok)).put (Reg.LN_PROF0.VERSION n p) x.version).put (Reg.LN_PROF0.FEC n p)
    (bit x.fec)).put (Reg.LN_PROF0.DEL_BYTES n p) x.delim.length).put (Reg.LN_PROF0.PAT_BYTES n p) x.pattern.length).put
    (Reg.LN_PROF0.PRE_BYTES n p) x.preBytes
  let d2 := d1.each (List.range 10) (fun d w =>
    d.put (Reg.LN_PROFW.PATTERN n p w) (if w < 2 then beWord x.delim w else beWord x.pattern (w - 2)))
  let d3 := (d2.put (Reg.LN_ACT_STAT.PROF_VALID n) (setBit (d.fld (Reg.LN_ACT_STAT.PROF_VALID n)) p ok)).ev (Reg.LN_ACT_EVT.PROF_CHG n)
  ((d3.iff (!ok) (·.actCnt n 19 1)).learn n, aDone)

/-- Assign_ONU-ID. -/
def Dev.assignOnu (d : Dev) (n : Nat) (m : Ploam) (onu : Nat) : Dev × Nat :=
  if d.actState n = stO23 ∧ d.ownSerial n m then
    let d1 := (d.put (Reg.LN_ACT_STAT.ONU_ID n) onu).put (Reg.LN_ACT_STAT.ONU_ID_VALID n) 1
    ((d1.setAct n { d1.act n with to1 := true, late1 := false }).setState n stO4, aDone)
  else (d, aIgnored)

/-- The time reference channel, when there is one (R113, R134). -/
def Dev.tref (d : Dev) : Option Nat :=
  if d.on Reg.LN_PROT_STAT.TREF_NONE then none else some (d.fld Reg.LN_PROT_STAT.TREF)

/-- The equalisation delay of the time reference channel has changed: the one most recently loaded counts, whatever cleared
LN.EQD since (R255, R258). -/
def Dev.trefEqd (d : Dev) (path : Bool) : Dev :=
  match d.tref with
  | some n => d.ddsRecompute (d.act n).loaded path
  | none => d

/-- Ranging_Time: the received value is converted to downstream unit intervals and loaded; the time base takes the delay
from its reference channel (R84, R98, R255). -/
def Dev.rangingTime (d : Dev) (n : Nat) (m : Ploam) (v : Nat) : Dev × Nat :=
  let s := d.actState n
  let eqd := Config.eqdUi v % 2 ^ 28
  if (s = stO4 ∨ s = stO5) ∧ d.ownOnu n m then
    let d1 := (((d.put (Reg.LN_EQD.EQD n) eqd).put (Reg.LN_EQD.SEQ n) (d.fld (Reg.LN_EQD.SEQ n) + 1)).put
      (Reg.LN_ACT_STAT.EQD_VALID n) 1).ev (Reg.LN_ACT_EVT.EQD_LOAD n)
    let d2 := (d1.setAct n { d1.act n with loaded := eqd }).iff (d1.tref == some n) (·.trefEqd true)
    (if s = stO4 then (d2.setAct n { d2.act n with to1 := false, late1 := false }).setState n stO5 else d2, aDone)
  else (d, aIgnored)

/-- Deactivate_ONU-ID. -/
def Dev.deactivate (d : Dev) (n : Nat) (m : Ploam) : Dev × Nat :=
  let s := d.actState n
  if (s = stO4 ∨ s = stO5) ∧ (m.onu.isNone ∨ d.ownOnu n m) then (((d.clearIds n).stopTimers n).setState n stO23, aDone)
  else (d, aIgnored)

/-- Disable_Serial_Number: disable or enable, for the channel's serial number or in the broadcast form (`all`). -/
def Dev.disableSerial (d : Dev) (n : Nat) (m : Ploam) (all disable : Bool) : Dev × Nat :=
  let s := d.actState n
  let es := d.fld Reg.PWR_LINE_ESTOP.ESTOP
  if !(all || d.ownSerial n m) then (d, aIgnored)
  else if disable then
    if s = stO23 ∨ s = stO4 ∨ s = stO5 ∨ s = stO6 then
      ((((d.stopTimers n).put Reg.PWR_LINE_ESTOP.ESTOP (setBit es n true)).ev (Reg.LN_ACT_EVT.ESTOP n)).setState n stO7, aDone)
    else (d, aIgnored)
  else if s = stO7 then
    let d1 := (d.put Reg.PWR_LINE_ESTOP.ESTOP (setBit es n false)).setState n stO11
    (d1.setAct n { d1.act n with hdrs := 0 }, aDone)
  else (d, aIgnored)

/-- Request_Registration. -/
def Dev.requestRegistration (d : Dev) (n : Nat) : Dev × Nat :=
  if d.actState n = stO5 then (d.answer n (d.registration n), aAnswered) else (d, aIgnored)

/-- Assign_Alloc-ID: an entry is added or removed; with 128 in use the answer is a processing error (R92). -/
def Dev.assignAlloc (d : Dev) (n a : Nat) (add : Bool) : Dev × Nat :=
  let a := a % 2 ^ 14
  match d.allocFind n a, add with
  | some i, false => (((d.put (Reg.LN_ALLOC.VALID n i) 0).put (Reg.LN_ALLOC.ALLOC_ID n i) 0).ev (Reg.LN_ACT_EVT.ALLOC_CHG n), aDone)
  | none, true =>
    match (List.range 128).find? (fun i => !d.on (Reg.LN_ALLOC.VALID n i)) with
    | some i =>
      let d1 := (d.put (Reg.LN_ALLOC.ALLOC_ID n i) a).put (Reg.LN_ALLOC.VALID n i) 1
      ((d1.ev (Reg.LN_ACT_EVT.ALLOC_CHG n)).allocScan n i, aDone)
    | none => ((d.actCnt n 18 1).answer n (.ack 1), aAnswered)
  | _, _ => (d, aDone)

/-- Key_Control for a new key under index `idx` (R148), or with the switch time of that index, as a superframe count, which
the Tender writes under R144. A request that finds the engine held in reset is answered as one that fails
(notes/assumptions/56.md). -/
def Dev.keyControl (d : Dev) (n idx : Nat) (sw : Option Nat) : Dev × Nat :=
  let i := if idx = 1 ∨ idx = 2 then idx else if d.curIdx n = 1 then 2 else 1
  match sw with
  | none => if d.cphHere && !d.cphUp then (d.answer n (.ack 1), aAnswered) else (d.keyQueue { op := kcGenerate, slot := lineSlot n i, tender := true }, aAnswered)
  | some c =>
    if !d.cphLineHere then (d, aDone) else
    let d1 := (d.put (Reg.CPH_LINE_US_CTRL.NEXT_IDX n) i).putWide (Reg.CPH_LINE_SW_LO.SFC n) (Reg.CPH_LINE_SW_HI.SFC n) c
    (d1.lineArm n (d.sfc n), aDone)

/-- The Tender's key command has ended: it reports the key, or answers with a processing error (R148). A command that ends
while the Tender is halted is answered no more (notes/assumptions/56.md). -/
def Dev.keyReport (d : Dev) (j : KeyJob) (status : Nat) : Dev :=
  let n := j.slot / 8
  if !j.tender || !d.tenderRuns then d
  else if status = 0 then
    let kek := d.key (8 * n + 1)
    let k := d.key j.slot
    d.answer n (.keyReport (j.slot % 8 - 3) (Config.kekWrap kek k) (Config.keyName kek k))
  else d.answer n (.ack 1)

/-- Change_Power_Level (R96). -/
def Dev.powerLevel (d : Dev) (n lvl : Nat) : Dev × Nat :=
  let d1 := (d.put (Reg.LN_PWR_LVL.REQ n) lvl).ev (Reg.LN_ACT_EVT.PWR_LVL_REQ n)
  ((d1.setAct n { d1.act n with pwrWait := true, latePwr := false }).powerCheck n, aAnswered)

/-- The acknowledgement timeout of R96; what falls due in a halt waits for the restart. -/
def Dev.powerTimeout (d : Dev) (n : Nat) : Dev :=
  if (d.act n).pwrWait ∧ d.fld (Reg.LN_PWR_LVL.APPLIED n) ≠ d.fld (Reg.LN_PWR_LVL.REQ n) then
    if d.tenderHalt then d.setAct n { d.act n with latePwr := true }
    else if d.tenderRuns then (d.setAct n { d.act n with pwrWait := false }).answer n (.ack 1)
    else d
  else d

/-- Channel_Profile: the identifier and its comparison where the message is broadcast, and O1.2 (R69, R84). -/
def Dev.channelProfile (d : Dev) (n : Nat) (m : Ploam) (v : Nat) : Dev × Nat :=
  let d1 := d.iff m.onu.isNone (·.cprofRx n v)
  ((d1.setAct n { d1.act n with cprof := true }).learn n, aDone)

/-- System_Profile. -/
def Dev.systemProfile (d : Dev) (n : Nat) (b : List Byte) : Dev × Nat := (d.setAct n { d.act n with sysProf := b }, aDone)

/-- A message that is acknowledged only, or answered as not supported. -/
def Dev.ackOnly (d : Dev) (n code : Nat) : Dev × Nat := (d.answer n (.ack code), aAnswered)

/-! ### Software's messages and OMCI (R94, R109, R110, R334) -/

def ploamRefused : Nat := 0x30
def ploamState : Nat := 0x31

/-- The Alloc-ID that carries upstream OMCI is available (R110). -/
def Dev.omciOpen (d : Dev) (n : Nat) : Bool :=
  d.actState n == stO5 &&
    (d.on (Reg.LN_OMCI_CFG.USE_DEFAULT n) || d.on (Reg.LN_ALLOC.VALID n (d.fld (Reg.LN_OMCI_CFG.ALLOC_IDX n))))

/-- Bytes in the burst store. -/
def Coach.bytes (c : Coach) : Nat :=
  (c.store.map (fun f => f.data.length - f.off)).sum + (c.omci.map (fun m => m.1.length - m.2)).sum +
    (c.bursts.map (fun b => match b.content with
      | some s => (s.sent.map (fun e => e.2.1)).sum
      | none => 0)).sum

/-- An upstream OMCI message with its integrity code (R146). -/
def Dev.omciSeal (d : Dev) (n : Nat) (m : List Byte) : List Byte :=
  let b := m.take (m.length - 4)
  b ++ (d.omciMic n 1 b).drop (4 - m.length)

/-- A TXMSG ring offers its next message to its sink (R94, R110, R334). `l` is what stands from the ring's head on. A PLOAM
message of a type that is refused, submitted outside O5, ends PLOAM_REFUSED (notes/assumptions/50.md). -/
def Dev.txmsgHandoff (d : Dev) (r : Nat) (l : List Desc) (b : List Byte) : Dev :=
  let n := d.fld (Reg.HIF_RING_CFG.CHANNEL r)
  let omci := d.on (Reg.HIF_RING_CFG.MSG r)
  let l := d.postedOf r l
  if !(d.hifUp && d.ringEn r && d.ringLive r && d.ringKind r == 4 && d.canDma (domOf r) && d.evtRoom (d.evtRing r) 1 && d.lnUp n) then d
  else
    match d.txmsgWalk r l with
    | .more => d
    | .bad st i => (d.readDescs r (d.idx r) (i + 1)).haltRing r st (d.idx r + i)
    | .whole k =>
      let own := l.take k
      let b := padTo (descBytes own) (b.take (descBytes own))
      if omci then
        let c := d.coach n
        if d.omciOpen n && decide (c.bytes + b.length ≤ 2 ^ 20) then
          (d.setCoach n { c with omci := c.omci ++ [(d.omciSeal n b, 0)] }).txmsgDone r own 0
        else d
      else if !d.tenderRuns || decide (8 ≤ (d.act n).sw.length) then d
      else if Config.ploamReserved (b.take 48) then (d.actCnt n 4 1).txmsgDone r own ploamRefused
      else if d.actState n ≠ stO5 then (d.actCnt n 4 1).txmsgDone r own ploamState
      else
        let x := d.act n
        (d.setAct n { x with sw := x.sw ++ [{ msg := b.take 48, urgent := bitOf (byteAt b 48) 0 }] }).txmsgDone r own 0

/-- The oldest OMCI unit is checked and goes to its ring (R109, R346). -/
def Dev.omciRx (d : Dev) (n : Nat) : Dev :=
  let x := d.line n
  match x.omci with
  | [] => d
  | u :: r =>
    let d1 := d.setLine n { x with omci := r }
    if d1.omciMicOk n u.data then
      let (d2, ok) := d1.rxMsg n 1 (leBytes u.sfc 8 ++ u.data)
      d2.iff (!ok) (·.actCnt n 17 1)
    else d1.actCnt n 16 1

end Sys2Proof.Machine
end

