-- ==== Sys2Proof/Machine/Coach.lean ====
section
/-!
DEFINITION. The Coachbuilder (spec/03, R99 to R108; spec/04, R122 to R127): bandwidth maps, burst times, overlaps,
prestage shares, sealing and transmission. Times of a burst are downstream unit intervals from t_rx of its frame.
-/
namespace Sys2Proof.Machine

/-! ### Bandwidth maps (R99, R101, R102) -/

/-- Channel n's Coachbuilder works: its channel is present and out of reset, and so is the Coachbuilder (R8, R9). -/
def Dev.coachUp (d : Dev) (n : Nat) : Bool := d.lnUp n && d.coachHere

/-- Downstream unit intervals in an upstream one, and bytes of a word (LN.US_CFG). -/
def Dev.usUi (d : Dev) (n : Nat) : Nat :=
  let r := d.fld (Reg.LN_US_CFG.RATE n)
  if r = 0 then 4 else if r = 1 then 2 else 1
def Dev.usWord (d : Dev) (n : Nat) : Nat :=
  let w := d.fld (Reg.LN_US_CFG.WORD n)
  if w = 0 then 4 else if w = 1 then 8 else 16

/-- 35.000 µs in downstream unit intervals. -/
def responseUi : Nat := 1741824

/-- What a structure's Alloc-ID matches in the present state (R101): 0 serial-number grant, 1 default Alloc-ID, 2 an
entry of LN.ALLOC. -/
def Dev.grantKind (d : Dev) (n : Nat) (g : Grant) : Option Nat :=
  let s := d.actState n
  if g.sn then (if s = stO23 then some 0 else none)
  else if d.on (Reg.LN_ACT_STAT.ONU_ID_VALID n) ∧ d.fld (Reg.LN_ACT_STAT.ONU_ID n) = g.alloc then
    (if s = stO4 ∨ s = stO5 then some 1 else none)
  else if s = stO5 ∧ (d.allocFind n g.alloc).isSome then some 2
  else none

/-- A burst as the map gives it: its first allocation, and all of them with what they matched. -/
structure MapBurst where
  first : Grant
  allocs : List BAlloc
  deriving DecidableEq, Repr

/-- The structures of a map, in order: `taken` counts those taken up, `open_` is whether the latest belongs to the last
burst of `acc` (newest first). A structure that continues one which was ignored joins the burst taken up last, or opens a
burst where there is none: the model's choice (notes/assumptions/50.md). -/
def Dev.mapTake (d : Dev) (n : Nat) : List Grant → Nat → Bool → List MapBurst → Dev × List MapBurst
  | [], _, _, acc => (d, acc.reverse)
  | g :: r, taken, open_, acc =>
    let pass := match g.hec with | .good => true | .corrected => d.on (Reg.LN_BWM_CTRL.HEC_ACCEPT n) | .bad => false
    if !pass then Dev.mapTake (d.actCnt n 8 1) n r taken open_ acc
    else match d.grantKind n g with
      | none => Dev.mapTake d n r taken open_ acc
      | some k =>
        let a : BAlloc := { alloc := g.alloc, kind := k, size := g.size, dbru := g.dbru }
        let d1 := d.actCnt n 7 1
        if 64 ≤ taken then Dev.mapTake (d.actCnt n 9 1) n r taken false acc
        else if g.cont ∧ acc ≠ [] then
          match acc with
          | b :: t =>
            if open_ then Dev.mapTake d1 n r (taken + 1) true ({ b with allocs := b.allocs ++ [a] } :: t)
            else Dev.mapTake (d.actCnt n 9 1) n r taken false acc
          | [] => Dev.mapTake d n r taken open_ acc
        else if 16 ≤ acc.length then Dev.mapTake (d.actCnt n 9 1) n r taken false acc
        else Dev.mapTake d1 n r (taken + 1) true ({ first := g, allocs := [a] } :: acc)

/-- Fields of a stored profile's word 0. -/
def profValid (w : List Nat) : Bool := bitOf (w.getD 0 0) 0
def profFec (w : List Nat) : Bool := bitOf (w.getD 0 0) 5
def profLead (w : List Nat) : Nat := bits (w.getD 0 0) 6 4 + bits (w.getD 0 0) 16 12

/-- The random delay of a serial-number response, in words (R90): a free value between 0 and SN_RAND_MAX µs. -/
def Dev.snDelay (d : Dev) (n : Nat) : Dev × Nat :=
  let max_ := d.fld (Reg.LN_ACT_CTRL.SN_RAND_MAX n) * 497664 / (10 * (d.usWord n * 8 * d.usUi n))
  (d.freed.rngUsed, Config.free d.freeCtr % (max_ + 1))

/-- The burst is placed (R90, R97, R99); none when its profile is not valid. -/
def Dev.placeBurst (d : Dev) (n : Nat) (m : MapBurst) : Dev × Option Burst :=
  let c := d.coach n
  let prof := c.profs.getD m.first.prof.val []
  if !profValid prof then (d.actCnt n 11 1, none)
  else
    let k := d.usUi n
    let w := d.usWord n
    let sn := m.first.sn
    let (d1, delay) := if sn then d.snDelay n else (d, 0)
    let ploam := m.first.ploam || sn || (d.actState n == stO4)
    let bytes := (m.allocs.map (fun a => a.size * w)).sum
    let hdr := responseUi + (if sn then 0 else c.eqd) + (m.first.start + delay) * (w * 8 * k)
    let pre := hdr - profLead prof * 8 * k
    let fin := hdr + Config.burstBits (profFec prof) ploam bytes * k
    (d1, some
      { frame := c.frame, sfc := d.sfc n, prof := prof, allocs := m.allocs, ploam := ploam, delay := delay
        start := (m.first.start + delay) * w, hdr := hdr,
        pre := pre, on := pre - d.fld (Reg.LN_CB_TIMING.TXBE_LEAD n) * k, fin := fin,
        off := fin + d.fld (Reg.LN_CB_TIMING.TXBE_LAG n) * k, key := d.curIdx n })

/-- The position of an offset of a burst's frame on the channel's grid. -/
def Burst.at_ (b : Burst) (x : Nat) : Nat := b.frame * frameBits + x

/-- Insert by the time of the first preamble bit. -/
def insertBurst (b : Burst) : List Burst → List Burst
  | [] => [b]
  | c :: r => if b.at_ b.pre < c.at_ c.pre then b :: c :: r else c :: insertBurst b r

/-- Keep the bursts that start at least `gap` after the end of the one before; the others are dropped (R102). -/
def sweepBursts (gap : Nat) : Option Nat → List Burst → List Burst × List Burst
  | _, [] => ([], [])
  | last, b :: r =>
    let clash := match last with | some e => decide (b.at_ b.pre < e + gap) | none => false
    if clash then
      let (k, x) := sweepBursts gap last r
      (k, b :: x)
    else
      let (k, x) := sweepBursts gap (some (b.at_ b.off)) r
      (b :: k, x)

/-- The bandwidth map of the frame is parsed (R101, R102): the line key switches with it (R144). -/
def Dev.bwmap (d : Dev) (n : Nat) (l : List Grant) : Dev :=
  if !d.coachUp n then d
  else
    let (d1, ms) := (d.lineSwitch n (d.sfc n)).mapTake n l 0 false []
    let (d2, bs) := ms.foldl (fun (x : Dev × List Burst) m =>
      match x.1.placeBurst n m with
      | (e, some b) => (e, insertBurst b x.2)
      | (e, none) => (e, x.2)) (d1, (d1.coach n).bursts)
    let (kept, lost) := sweepBursts (64 * d.usUi n) (d2.coach n).lastOff bs
    let d3 := (d2.setCoach n { d2.coach n with bursts := kept }).actCnt n 10 lost.length
    d3.each lost (fun d b => d.unseal n b)

/-! ### Prestage shares (R104, R105, R122, R211) -/

/-- The T-CONTs bound on a channel. -/
def Dev.boundTconts (d : Dev) (n : Nat) : List Nat := (d.allocEntries n).filterMap (d.boundTcont n)

/-- A T-CONT's prestage share in bytes. -/
def Dev.share (d : Dev) (n : Nat) : Nat :=
  let s := max 1 (d.fld (Reg.LN_CB_CTRL.PRESTAGE_KIB n)) * 1024
  let k := (d.boundTconts n).length
  if 2 ^ 20 < s * k then 2 ^ 20 / k / 256 * 256 else s

/-- Bytes of T-CONT t in a channel's store, sealed bursts included. -/
def Coach.tcontBytes (c : Coach) (t : Nat) : Nat :=
  ((c.store.filter (fun f => f.tcont == t)).map (fun f => f.data.length - f.off)).sum +
    (c.bursts.map (fun b => match b.content with | some s => (Tbl.get s.sent t (0, 0)).1 | none => 0)).sum

/-- The channel's Coachbuilder fills T-CONT t. -/
def Dev.fills (d : Dev) (n t : Nat) : Bool := d.coachUp n && !d.standsBy n && (d.boundTconts n).contains t

/-- The bonding group that spreads a queue's flow upstream (R122). -/
def Dev.usGroup (d : Dev) (q : Nat) : Option Nat :=
  if d.lineMode = 1 then
    (List.range 1024).find? (fun g => d.bondEn g && d.on (Reg.LN_BOND_GRP_CFG.US_EN g) &&
      d.fld (Reg.LN_BOND_GRP_CFG.FLOW g) + 32768 == q)
  else none

/-- The T-CONT of a queue on channel n: through its node's group. -/
def Dev.tcontOn (d : Dev) (q n : Nat) : Option Nat :=
  let c := d.nodeCfg (d.nodeOfQueue q)
  if bitOf c 10 then d.groupMember (c % 256) n else none

/-- The upstream queues below T-CONT t, each with how many Siding frames it has; and the device as the T-CONT's scheduler
sees it, with the Siding frames of those queues behind the others. -/
def Dev.tcontView (d : Dev) (t : Nat) : Dev × List (Nat × Nat) :=
  let qs := (d.tm.queues.filter (fun e => decide (32768 ≤ e.1) && decide (e.1 < 65536) && e.2.siding != [] &&
    d.nodeUnder (d.nodeOfQueue e.1) (512 + t))).map (fun e => (e.1, e.2.siding.length))
  (d.each qs (fun d e => let x := d.queue e.1; d.setQueue e.1 { x with ondie := x.ondie ++ x.siding, siding := [] }), qs)

/-- Take the view apart again: of what the scheduler has left, the last `k` frames of each queue are its Siding frames. -/
def Dev.tcontUnview (d : Dev) (qs : List (Nat × Nat)) : Dev :=
  d.each qs (fun d e =>
    let x := d.queue e.1
    let k := x.ondie.length - e.2
    d.setQueue e.1 { x with ondie := x.ondie.take k, siding := x.ondie.drop k, spill := x.spill && x.ondie.drop k != [] })

/-- Failed frames at the heads of the queues of T-CONT t are dropped (R153), before its scheduler chooses. -/
def Dev.tcontDrop (d : Dev) (t : Nat) : Dev :=
  let (dv, qs) := d.tcontView t
  (dv.dropFailed (512 + t) 64).tcontUnview qs

/-- The frame that the scheduler of T-CONT t chooses next, with its queue (R199). -/
def Dev.tcontPeek (d : Dev) (t : Nat) : Option (Frame × Nat) :=
  ((d.tcontView t).1.select (512 + t) (fun _ => Verdict.send)).map (fun s => (s.1.f, s.1.q))

/-- Room in the share of T-CONT t on channel n for a frame as the store holds it: `head` bytes of bonding header, the edited
frame and its FCS. -/
def Dev.roomFor (d : Dev) (n t head : Nat) (f : Frame) : Bool :=
  d.fills n t && f.whole && decide ((d.coach n).tcontBytes t + head + (d.edit f).1.length + 4 ≤ d.share n)

/-- The channel and T-CONT to which the next frame of T-CONT t goes (R122): for a bonded flow the next member with room
after the one served last, otherwise the channel that asked. -/
def Dev.fillTarget (d : Dev) (n t : Nat) (f : Frame) (q : Nat) : Option (Nat × Nat × Option Nat) :=
  match d.usGroup q with
  | none => if d.roomFor n t 0 f then some (n, t, none) else none
  | some g =>
    let ok := (d.bondMembers g).filter (fun m => match d.tcontOn q m with | some u => d.roomFor m u 8 f | none => false)
    let next := match (d.group g).last with
      | some l => match ok.find? (fun m => decide (l < m)) with | some m => some m | none => ok.head?
      | none => ok.head?
    next.bind (fun m => (d.tcontOn q m).map (fun u => (m, u, some g)))

/-- The seal of the earliest burst of channel n that grants T-CONT t, in ps of the counter; none where no burst does. -/
def Dev.nextSeal (d : Dev) (n t : Nat) : Option Int :=
  let c := d.coach n
  ((c.bursts.filter (fun b => b.content.isNone && b.allocs.any (fun a => a.kind == 2 &&
      (d.allocFind n a.alloc).bind (d.boundTcont n) == some t))).head?).map (fun b =>
    c.rxPs + ((b.at_ b.hdr : Int) - (c.frame * frameBits : Nat)) * 10000000 / 497664 -
      max 50 (d.fld (Reg.LN_CB_CTRL.SEAL_LEAD n)) * 10000)

/-- A Siding read of the Coachbuilder enters the DRAM controller on its real-time port, a request for each cell of the
frame, with its deadline (R105, R371). -/
def Dev.sidingAsk (d : Dev) (f : Frame) (deadline : Int) : Dev :=
  d.each f.cellsAt (fun d i => d.dmcAsk 0 (d.sidingAddr i) 256 none (deadline - d.nowPs))

/-- Move the frame that T-CONT t's scheduler chooses into a share; none when there is none or it finds no room. -/
def Dev.fillOne (d : Dev) (n t : Nat) : Option Dev :=
  (d.tcontPeek t).bind (fun p => (d.fillTarget n t p.1 p.2).bind (fun x =>
    let (m, u, g) := x
    let (dv, qs) := d.tcontView t
    match dv.take (512 + t) (fun _ => Verdict.send) with
    | (_, none) => none
    | (d1, some (f, q)) =>
      let siding := f.pool == .siding
      let d2 := d1.tcontUnview qs
      let (d3, bytes) := d2.editOut f
      let d4 := if siding then d3 else d3.release f
      match bytes with
      | none => some (if siding then d4.release f else d4)
      | some b =>
        let seq := match g with | some g => d4.fld (Reg.LN_BOND_GRP_STAT.TX_SEQ g) | none => 0
        let head := match g with | some g => bondHeaderOf 0 m g seq | none => []
        let d5 := match g with
          | some g =>
            let y := d4.group g
            (d4.put (Reg.LN_BOND_GRP_STAT.TX_SEQ g) (seq + 1)).setGroup g
              { y with last := some m, sentAt := Tbl.set y.sentAt m ((seq + 1) % 65536) }
          | none => d4
        let margin : Int := d.fld (Reg.LN_CB_CTRL.RD_MARGIN m) * 10000
        let after := (d.nowPs : Int) + 8000000
        let due := match d.nextSeal m u with | some s => min (s - margin) after | none => after
        let e : BFrame :=
          { f := f, id := (d5.coach m).nextId, q := q, tcont := u, port := f.usPort, keyIdx := f.usKey, data := head ++ b ++ fcs b,
            group := g, ready := !siding, deadline := due, late := siding && decide (due ≤ d.nowPs) }
        let c := d5.coach m
        let d6 := d5.setCoach m { c with store := c.store ++ [e], nextId := c.nextId + 1 }
        some (d6.iff siding (·.sidingAsk f due))))

/-- Fill a T-CONT's share as far as it goes. -/
def Dev.prestage (d : Dev) (n t : Nat) : Nat → Dev
  | 0 => d
  | fuel + 1 =>
    let d0 := d.tcontDrop t
    match d0.fillOne n t with | some d1 => Dev.prestage d1 n t fuel | none => d0

/-- The prestage share of T-CONT t on channel n is filled (R104). -/
def Dev.prestageFill (d : Dev) (n t : Nat) : Dev :=
  if d.fills n t then
    d.prestage n t ((d.tm.queues.map (fun e => e.2.ondie.length + e.2.siding.length)).sum + 1)
  else d

/-- The first frame of the store whose Siding read runs is there. -/
def readDone : List BFrame → List BFrame
  | [] => []
  | f :: r => if f.ready then f :: readDone r else { f with ready := true } :: r

/-- The first `k` frames of a queue whose Siding reads run leave the store: those left, and those that went. -/
def dropReads (q : Nat) : Nat → List BFrame → List BFrame × List BFrame
  | _, [] => ([], [])
  | 0, l => (l, [])
  | k + 1, f :: r =>
    if !f.ready && f.q == q then
      let (s, x) := dropReads q k r
      (s, f :: x)
    else
      let (s, x) := dropReads q (k + 1) r
      (f :: s, x)

/-- The DRAM controller reports a read of channel n as uncorrectable: the `k` oldest Siding frames of the queue, those with
a byte in the cell, are dropped, first where channel n reads them and then where they still wait (R209). -/
def Dev.cbReadFail (d : Dev) (n q k : Nat) : Dev :=
  let c := d.coach n
  let (stay, gone) := dropReads q k c.store
  let d1 := (d.setCoach n { c with store := stay }).dropAll (gone.map (·.f)) (Reg.TMG_QCNT.COUNT q 6)
  let d2 := (d1.bumpBy (Reg.TMG_CNT.COUNT 6) gone.length).iff (gone != []) (·.ev Reg.TMG_EVT.SIDING_ECC)
  d2.sidingFail q (k - gone.length)

/-- The oldest Siding read of channel n completes (R105, R106); `bad` is 0, or how many frames have a byte in a cell that is
uncorrectable, its own first (R209). -/
def Dev.cbReadDone (d : Dev) (n bad : Nat) : Dev :=
  let c := d.coach n
  match c.store.find? (fun f => !f.ready) with
  | none => d
  | some x =>
    let d1 := (d.iff (x.late || decide (x.deadline < d.nowPs)) (·.actCnt n 14 1)).iff x.missed (·.actCnt n 15 1)
    if bad = 0 then (d1.release x.f).setCoach n { c with store := readDone c.store }
    else d1.cbReadFail n x.q bad

/-! ### Sealing (R106, R107, R123, R127) -/

/-- Pack frames of the store into `room` bytes: the XGEM frames, the frames that stay, those taken as they were, the
room left, payload bytes and frames taken whole. -/
structure Pack where
  out : List XgemUp := []
  stay : List BFrame := []
  took : List BFrame := []
  room : Nat := 0
  bytes : Nat := 0
  whole : Nat := 0
  deriving DecidableEq, Repr

/-- Pack the frames of T-CONT t in order: whole while they fit, then at most one fragment of at least 16 bytes. The key index of an
XGEM header is its flow's, whichever key the map's index enciphers the payload with: the model's choice (R144,
notes/assumptions/56.md). -/
def packFrames (t key room : Nat) : List BFrame → Pack
  | [] => { room := room }
  | f :: r =>
    if f.tcont ≠ t ∨ !f.ready then
      let p := packFrames t key room r
      { p with stay := f :: p.stay }
    else
      let rest := f.data.drop f.off
      let idx := if key = 0 then 0 else f.keyIdx
      let need := 8 + Config.xgemPad rest.length
      if need ≤ room then
        let p := packFrames t key (room - need) r
        { p with out := { port := f.port, keyIdx := idx, lf := true, payload := rest } :: p.out, took := f :: p.took,
                 bytes := p.bytes + rest.length, whole := p.whole + 1 }
      else
        let k := min (min (room - 8) (Config.xgemFrag (room - 8))) (rest.length - 1)
        if 16 ≤ k then
          { out := [{ port := f.port, keyIdx := idx, lf := false, payload := rest.take k }], stay := { f with off := f.off + k } :: r,
            took := [f], room := room - 8 - Config.xgemPad k, bytes := k }
        else { stay := f :: r, room := room }

/-- Pack OMCI messages ahead of data (R110): the XGEM frames, the messages that stay, those taken, the room left. -/
def packOmci (port key room : Nat) : List (List Byte × Nat) → List XgemUp × List (List Byte × Nat) × List (List Byte × Nat) × Nat
  | [] => ([], [], [], room)
  | m :: r =>
    let rest := m.1.drop m.2
    let need := 8 + Config.xgemPad rest.length
    if need ≤ room then
      let (o, s, t, left) := packOmci port key (room - need) r
      ({ port := port, keyIdx := key, lf := true, payload := rest } :: o, s, m :: t, left)
    else
      let k := min (min (room - 8) (Config.xgemFrag (room - 8))) (rest.length - 1)
      if 16 ≤ k then
        ([{ port := port, keyIdx := key, lf := false, payload := rest.take k }], (m.1, m.2 + k) :: r, [m], room - 8 - Config.xgemPad k)
      else ([], m :: r, [], room)

/-- The port-ID of upstream OMCI: that of the LN.XPORT entry of KIND 2 in use. -/
def Dev.omciPort (d : Dev) (n : Nat) : Option Nat :=
  (d.regs.findSome? (fun e =>
    let a := e.1 / 32
    let b := Reg.LN_XPORT.ADR n 0
    let i := (a - b) / 4
    if b ≤ a ∧ a < b + 4 * 4096 ∧ e.1 % 32 = 17 ∧ e.2 = 2 ∧ d.on (Reg.LN_XPORT.VALID n i) ∧ ¬ (d.line n).badPorts.contains i then
      some (d.fld (Reg.LN_XPORT.PORT_ID n i)) else none))

/-- Bonded groups whose T-CONT on channel n is t and that send a marker in this burst (R123): no data frame of theirs among
those that the burst took, TX_SEQ moved on since the channel's last frame or marker. -/
def Dev.markersFor (d : Dev) (n t : Nat) (took : List BFrame) : List Nat :=
  if d.lineMode = 1 ∧ d.on Reg.LN_BOND_CTRL.MARKER_EN then
    (d.groups.map (·.1)).filter (fun g => d.bondEn g && d.on (Reg.LN_BOND_GRP_CFG.US_EN g) && (d.bondMembers g).contains n &&
      d.tcontOn (32768 + d.fld (Reg.LN_BOND_GRP_CFG.FLOW g)) n == some t && !took.any (fun f => f.group == some g) &&
      d.fld (Reg.LN_BOND_GRP_STAT.TX_SEQ g) != Tbl.get (d.group g).sentAt n 0)
  else []

/-- Append markers while the allocation holds 16 bytes each. -/
def Dev.appendMarkers (d : Dev) (n key : Nat) : List Nat → Nat → Dev × List XgemUp × Nat
  | [], room => (d, [], room)
  | g :: r, room =>
    if room < 16 then (d, [], room)
    else
      let seq := d.fld (Reg.LN_BOND_GRP_STAT.TX_SEQ g)
      let flow := d.lookAct .tmg 0 (d.fld (Reg.LN_BOND_GRP_CFG.FLOW g))
      let y := d.group g
      let d1 := (d.setGroup g { y with sentAt := Tbl.set y.sentAt n seq }).bondCnt bMarkerTx 1
      let (d2, o, left) := Dev.appendMarkers d1 n key r (room - 16)
      (d2, { port := wordOf flow 2 % 2 ^ 16, keyIdx := if key = 0 then 0 else bits (wordOf flow 2) 16 2, lf := true,
             payload := bondHeaderOf 1 n g seq } :: o, left)

/-- The snapshot of a T-CONT (R106, R212): bytes and frames waiting, reads under way and the burst store included. -/
def Dev.snapshot (d : Dev) (n t : Nat) : Nat × Nat :=
  let o := Tbl.get d.tm.occ t {}
  let c := d.coach n
  let sealedF := (c.bursts.map (fun b => match b.content with | some s => (Tbl.get s.sent t (0, 0)).2 | none => 0)).sum
  (o.ondie + o.siding + c.tcontBytes t, o.frames + (c.store.filter (fun f => f.tcont == t)).length + sealedF)

/-- The key that enciphers a burst's data: none when data must wait. -/
abbrev BurstKey := Option Nat

/-- Seal one allocation: OMCI and data (R106, R110). Markers and the DBRu are filled in afterwards. -/
def Dev.sealAlloc (d : Dev) (n : Nat) (key : BurstKey) (s : Sealed) (a : BAlloc) : Dev × Sealed :=
  let w := d.usWord n
  let room := a.size * w - (if a.dbru then Config.dbruBytes else 0)
  let entry := if a.kind = 2 then d.allocFind n a.alloc else none
  let t := entry.bind (d.boundTcont n)
  let omciHere := d.actState n == stO5 && !d.standsBy n && key.isSome &&
    (if d.on (Reg.LN_OMCI_CFG.USE_DEFAULT n) then a.kind == 1 else entry == some (d.fld (Reg.LN_OMCI_CFG.ALLOC_IDX n)))
  let c := d.coach n
  let k := key.getD 0
  let (o1, stayO, tookO, room1) : List XgemUp × List (List Byte × Nat) × List (List Byte × Nat) × Nat := match d.omciPort n with
    | some p => if omciHere then packOmci p k room c.omci else ([], c.omci, [], room)
    | none => ([], c.omci, [], room)
  let d1 := d.setCoach n { c with omci := stayO }
  match t, key with
  | some t, some k =>
    let p := packFrames t k room1 c.store
    let prev := Tbl.get s.sent t (0, 0)
    (d1.setCoach n { d1.coach n with store := p.stay },
      { s with parts := s.parts ++ [{ frames := o1 ++ p.out, idle := p.room }], took := s.took ++ p.took, omci := s.omci ++ tookO,
               sent := Tbl.set s.sent t (prev.1 + p.bytes, prev.2 + p.whole) })
  | _, _ => (d1, { s with parts := s.parts ++ [{ frames := o1, idle := room1 }], omci := s.omci ++ tookO })

/-- Markers for one allocation of T-CONT `t` (none: data waits, or the allocation has no T-CONT) behind its data, once all of
the burst's data is known; what is left is idle and counted (R106, R123). -/
def Dev.sealRest (d : Dev) (n key : Nat) (took : List BFrame) (t : Option Nat) (p : Part) : Dev × Part :=
  match t with
  | none => (d.actCnt n 13 p.idle, p)
  | some t =>
    let (d1, ms, left) := d.appendMarkers n key (d.markersFor n t took) p.idle
    (d1.actCnt n 13 left, { p with frames := p.frames ++ ms, idle := left })

/-- The DBRu of an allocation, from the snapshot taken before the burst's bytes were sealed (R107). -/
def dbruValue (w : Nat) (snap sent : Nat × Nat) : Nat :=
  min Config.dbruMax (cdiv (snap.1 - sent.1 + 8 * (snap.2 - sent.2)) w)

/-- The PLOAM message of an opportunity (R90, R94): Serial_Number_ONU and Registration for their grants, otherwise the
queues in their order; the filler for an empty queue or a halted Tender. -/
def Dev.takePloam (d : Dev) (n : Nat) (b : Burst) : Dev × PloamUp × Bool :=
  if !d.tenderRuns then (d, .filler, false)
  else if b.allocs.any (fun a => a.kind == 0) then (d, .serialNumber vendorId (d.vssn n) b.delay, false)
  else if d.actState n = stO4 then (d, d.registration n, false)
  else
    let x := d.act n
    match x.answers with
    | u :: r => (d.setAct n { x with answers := r }, u, true)
    | [] =>
      match (x.sw.find? (·.urgent)).or x.sw.head? with
      | some m => (d.setAct n { x with sw := x.sw.erase m }, .software m.msg m.urgent, true)
      | none => (d, .filler, false)

/-- The state still permits a burst (R83, R101). -/
def Dev.burstAllowed (d : Dev) (n : Nat) (b : Burst) : Bool :=
  let s := d.actState n
  b.allocs.all (fun a => if a.kind = 0 then s == stO23 else if a.kind = 1 then s == stO4 || s == stO5 else s == stO5)

/-- Loss of main power has been signalled for more than 1 µs (R108). -/
def Dev.gasps (d : Dev) : Bool := match d.gasp with | some c => decide (c + 1250 < d.tim.ctr) | none => false

/-- The dying-gasp indication of a burst formed now (R108). -/
def Dev.gaspStep (d : Dev) (n : Nat) : Dev × Bool :=
  let on := d.actState n == stO5 && d.gasps
  if on then
    if d.on (Reg.LN_ACT_STAT.DG_ACTIVE n) then (d, true)
    else ((d.put (Reg.LN_ACT_STAT.DG_ACTIVE n) 1).ev (Reg.LN_ACT_EVT.DG_SENT n), true)
  else if d.gasp.isNone then (d.put (Reg.LN_ACT_STAT.DG_ACTIVE n) 0, false)
  else (d, false)

/-- Replace the first burst that is not sealed. -/
def sealFirst (s : Sealed) : List Burst → List Burst
  | [] => []
  | b :: r => if b.content.isSome then b :: sealFirst s r else { b with content := some s } :: r

/-- Drop the first burst that is not sealed. -/
def dropFirst : List Burst → List Burst
  | [] => []
  | b :: r => if b.content.isSome then b :: dropFirst r else r

/-- A read that is under way when a burst of its T-CONT is sealed has missed the seal (R106). -/
def missReads (ts : List Nat) (l : List BFrame) : List BFrame :=
  l.map (fun f => if !f.ready && ts.contains f.tcont then { f with missed := true } else f)

/-- The next burst of channel n is sealed (R106). The header of a serial-number burst carries no ONU-ID while none is assigned
(R107), and a standby side's burst that mixes the default Alloc-ID with others goes out with idle for the others and is not
counted (R127): the model's choices (notes/assumptions/57.md). -/
def Dev.burstSeal (d : Dev) (n : Nat) : Dev :=
  let c := d.coach n
  match (if d.coachUp n then c.bursts else []).find? (fun b => b.content.isNone) with
  | none => d
  | some b =>
    if !d.burstAllowed n b then d.setCoach n { c with bursts := dropFirst c.bursts }
    else if d.standsBy n && !b.allocs.any (fun a => a.kind != 2) then
      (d.setCoach n { c with bursts := dropFirst c.bursts }).bump (Reg.LN_PROT_CNT.COUNT 2)
    else
      let allocs := b.allocs.map (fun a => if d.standsBy n && a.kind == 2 then { a with kind := 3 } else a)
      let tcont : BAlloc → Option Nat := fun a => if a.kind = 2 then (d.allocFind n a.alloc).bind (d.boundTcont n) else none
      let data := d.actState n == stO5
      let (d1, key) : Dev × BurstKey := if data then d.burstKey n b.key b.sfc else (d, some 0)
      let (da, s1) := allocs.foldl (fun (x : Dev × Sealed) a => x.1.sealAlloc n key x.2 a) (d1, ({} : Sealed))
      let (d2, filled) := (allocs.zip s1.parts).foldl (fun (x : Dev × List Part) (y : BAlloc × Part) =>
        let (e, p) := x.1.sealRest n (key.getD 0) s1.took (if key.isSome then tcont y.1 else none) y.2
        (e, x.2 ++ [p])) (da, [])
      let parts := (allocs.zip filled).map (fun (x : BAlloc × Part) =>
        if x.1.dbru then
          { x.2 with dbru := some (match tcont x.1 with
            | some t => dbruValue (d.usWord n) (d.snapshot n t) (Tbl.get s1.sent t (0, 0))
            | none => 0) }
        else x.2)
      let (d3, u, q) : Dev × Option PloamUp × Bool :=
        if b.ploam then (fun (x : Dev × PloamUp × Bool) => (x.1, some x.2.1, x.2.2)) (d2.takePloam n b) else (d2, none, false)
      let (d4, dg) := d3.gaspStep n
      let x := d4.act n
      let onu := if d4.on (Reg.LN_ACT_STAT.ONU_ID_VALID n) then some (d4.fld (Reg.LN_ACT_STAT.ONU_ID n)) else none
      let s2 := { s1 with onu := onu, parts := parts, ploam := u, queued := q, gasp := dg, more := x.answers != [] || x.sw != [] }
      let c4 := d4.coach n
      d4.setCoach n { c4 with bursts := sealFirst s2 c4.bursts, store := missReads (allocs.filterMap tcont) c4.store }

/-! ### Transmission (R99, R107) -/

/-- The padding behind a payload as it leaves unenciphered. -/
def padOf (n : Nat) : List Byte := List.replicate (Config.xgemPad n - n) Config.xgemPadByte

/-- A part with its payloads padded. -/
def Part.padded (p : Part) : Part := { p with frames := p.frames.map (fun f => { f with pad := padOf f.payload.length }) }

/-- Encipher the payloads of a burst's parts with their padding, each at its position in the upstream frame, which begins
with `pos` (R142, R144, R147). -/
def encipherParts (key sfc : Nat) : List Part → Nat → List Part
  | [], _ => []
  | p :: r, pos =>
    let start := pos + (if p.dbru.isSome then Config.dbruBytes else 0)
    let (fs, fin) := p.frames.foldl (fun (x : List XgemUp × Nat) f =>
      let body := (f.payload ++ f.pad).zipIdx.map (fun (y : Byte × Nat) => y.1 ^^^ BitVec.ofNat 8 (Config.lineStream key sfc x.2 y.2))
      (x.1 ++ [{ f with payload := body.take f.payload.length, pad := body.drop f.payload.length }],
        x.2 + 8 + Config.xgemPad f.payload.length)) ([], start)
    { p with frames := fs } :: encipherParts key sfc r (fin + p.idle)

/-- The bytes of an upstream message before the Tender fills in what every message carries: software's are its own, the
others are laid out as G.9804.2 has it, the registration identifier of R89 among their fields. -/
def PloamUp.bytes : PloamUp → List Byte
  | .serialNumber v s r => Config.ploamLayout 0 [v, s, r]
  | .registration l => Config.ploamLayout 1 (l.map (·.toNat))
  | .ack c => Config.ploamLayout 2 [c]
  | .keyReport i w k => Config.ploamLayout 3 [i, w, k]
  | .software m _ => m
  | .filler => Config.ploamLayout 4 []

/-- The upstream message as sent: ONU-ID and sequence number filled in, and its integrity code under the channel's PLOAM
integrity key in its last 8 bytes (R94, R146). -/
def Dev.ploamSent (d : Dev) (n : Nat) (u : PloamUp) : Dev × List Byte :=
  let x := d.act n
  let y := Config.ploamFill (d.fld (Reg.LN_ACT_STAT.ONU_ID n)) x.seq u.bytes
  let b := y.take (y.length - 8)
  (d.setAct n { x with seq := x.seq + 1 }, b ++ d.ploamMic n 1 b)

/-- What a PLOAM message sent counts: every one in PLOAM_TX, the responses of R90 and Registrations in their own. -/
def Dev.ploamCount (d : Dev) (n : Nat) (u : PloamUp) : Dev :=
  let d1 := d.actCnt n 3 1
  match u with
  | .serialNumber _ _ _ => d1.actCnt n 5 1
  | .registration _ => d1.actCnt n 6 1
  | _ => d1

/-- The next burst of channel n leaves the pins (R99, R107); it is not sent when it is not sealed, when the transmitter
is disabled or when the state has become silent, and then gives back its content. -/
def Dev.burstTransmit (d : Dev) (n : Nat) : Dev :=
  let c := d.coach n
  match (if d.coachUp n then c.bursts else []) with
  | [] => d
  | b :: r =>
    match b.content with
    | none => d
    | some s =>
      let d0 := d.setCoach n { c with bursts := r }
      if d.txDis n || !d.burstAllowed n b then d0.unseal n b
      else
        let data := (s.parts.map (fun p => p.frames.length)).sum
        let (d1, key) : Dev × BurstKey := if b.key = 0 ∨ data = 0 then (d0, some 0) else d0.burstKey n b.key b.sfc
        let plain := s.parts.map (·.padded)
        let (d2, parts) : Dev × List Part := match key with
          | some 0 => (d1, plain)
          | some k => ((d1.burstUsed n k b.sfc data), encipherParts (d1.key (lineSlot n k)) b.sfc plain (b.start + Config.burstHead b.ploam))
          | none => ((d1.unseal n { b with content := some { s with ploam := none } }),
              s.parts.map (fun p => { p with idle := p.idle + (p.frames.map (fun f => 8 + Config.xgemPad f.payload.length)).sum,
                                             frames := [] }))
        let (d3, wire) : Dev × List Byte := match s.ploam with
          | some u => (fun (x : Dev × List Byte) => (x.1.ploamCount n u, x.2)) (d2.ploamSent n u)
          | none => (d2, [])
        let b1 := { b with content := some { s with parts := parts, wire := wire, took := [], omci := [] } }
        ((d3.setCoach n { d3.coach n with lastOn := b.at_ b.on, lastOff := some (b.at_ b.off) }).actCnt n 12 1).emit (.burst n b1)

/-! ### Leaving (R124, R133, R154) -/

/-- Every burst that has not been sent is cancelled, its content back in the store. -/
def Dev.cancelBursts (d : Dev) (n : Nat) : Dev :=
  let bs := (d.coach n).bursts
  (d.setCoach n { d.coach n with bursts := [] }).each bs.reverse (fun d b => d.unseal n b)

/-- The frames of a channel's burst store return to the heads of their queues in their original order (R133). A frame whose
Siding read has not ended stays in the Siding where it is followed only by Siding frames; behind it on-die frames may stand
already, and then its read ends in the on-die buffer. A frame of which a burst has carried a fragment returns whole: the model's
choice (notes/assumptions/57.md). -/
def Dev.returnStore (d : Dev) (n : Nat) : Dev :=
  let l := (d.coach n).store
  (d.setCoach n { d.coach n with store := [] }).each l.reverse (fun d e =>
    let x := d.queue e.q
    if !e.ready ∧ x.ondie = [] then d.setQueue e.q { x with siding := { e.f with home := none } :: x.siding, spill := true }
    else
      let (d1, f) := (d.iff (!e.ready) (·.release e.f)).hold e.f .shared
      d1.setQueue e.q { d1.queue e.q with ondie := f :: x.ondie })

end Sys2Proof.Machine
end

