-- ==== Sys2Proof/Machine/Prot.lean ====
section
/-!
DEFINITION. Line modes and line protection (spec/04): the time reference channel, fast defects, the standby side's
health, the switch and its completion.
-/
namespace Sys2Proof.Machine

/-! ### Time reference (R113, R134) -/

/-- Present channels of a side (R126). -/
def Dev.sideChs (d : Dev) (k : Nat) : List Nat :=
  (List.range 4).filter (fun n => d.lnHere n && d.sideOf n == k && (d.protBHere || decide (n < 2)))

def Dev.fastDef (d : Dev) (n : Nat) : Bool := bitOf (d.fld Reg.LN_PROT_STAT.FAST_DEF) n

/-- The channel that should be the time reference. -/
def Dev.trefWant (d : Dev) : Option Nat :=
  if d.lineMode = 2 then
    (d.sideChs d.activeSide).find? (fun n => d.framer n == 2 && !d.fastDef n)
  else
    let n := d.fld Reg.LN_LINE_MODE.TREF_CH
    if d.lnUp n then some n else none

/-- The reference follows; a change sets TREF_CHG, takes a build-out offset where the PLL follows the line, and hands the
new channel's equalisation delay to the time of day (R134, R258). -/
def Dev.trefUpdate (d : Dev) : Dev :=
  let w := d.trefWant
  if w = d.tref then d
  else
    let d1 := match w with
      | some n => (d.put Reg.LN_PROT_STAT.TREF n).put Reg.LN_PROT_STAT.TREF_NONE 0
      | none => d.put Reg.LN_PROT_STAT.TREF_NONE 1
    let d2 := d1.ev Reg.LN_PROT_EVT.TREF_CHG
    let d3 := match d.tref, w with
      | some _, some n => { d2.lineBuildOut n with tim := { (d2.lineBuildOut n).tim with resume := true } }
      | _, _ => d2
    d3.trefEqd true

/-! ### Fast defects (R129) -/

/-- A selected defect of channel n has lasted HOLDOFF. -/
def Dev.fastSet (d : Dev) (n : Nat) : Bool :=
  (bitOf d.prot.lasted (2 * n) && d.on Reg.LN_PROT_CTRL.TRIG_DSD) || (bitOf d.prot.lasted (2 * n + 1) && d.on Reg.LN_PROT_CTRL.TRIG_UCW)

/-- The trigger condition on the active side (R129). -/
def Dev.trigger (d : Dev) : Bool :=
  let l := d.sideChs d.activeSide
  if d.on Reg.LN_PROT_CTRL.TRIG_ANY then l.any d.fastDef else l != [] && l.all d.fastDef

/-- Defects and selections as they now stand: FAST_DEF, the onset of the trigger, the reference. -/
def Dev.fastUpdate (d : Dev) : Dev :=
  let keep := (List.range 8).foldl (fun a k =>
    a + bit (bitOf d.prot.lasted k && d.defect (k / 2) (if k % 2 = 0 then dDSD else dUCW)) * 2 ^ k) 0
  let d1 := { d with prot := { d.prot with lasted := keep } }
  let d2 := d1.put Reg.LN_PROT_STAT.FAST_DEF (((List.range 4).map (fun n => bit (d1.fastSet n) * 2 ^ n)).sum)
  let d3 := { d2 with prot := { d2.prot with onset := d2.prot.onset && d2.trigger } }
  d3.trefUpdate

/-- A fast defect of channel n (UCW or DSD) has lasted HOLDOFF beyond its raise. -/
def Dev.holdoff (d : Dev) (n : Nat) (ucw : Bool) : Dev :=
  if d.lnUp n && d.defect n (if ucw then dUCW else dDSD) then
    { d with prot := { d.prot with lasted := setBit d.prot.lasted (2 * n + bit ucw) true } }.fastUpdate
  else d

/-- A HOLDOFF of 0 leaves nothing to wait for: standing defects count at once. -/
def Dev.defectsMoved (d : Dev) : Dev :=
  if d.fld Reg.LN_PROT_CTRL.HOLDOFF = 0 then
    let all := (List.range 8).foldl (fun a k => a + bit (d.defect (k / 2) (if k % 2 = 0 then dDSD else dUCW)) * 2 ^ k) 0
    { d with prot := { d.prot with lasted := all } }.fastUpdate
  else d.fastUpdate

/-! ### The sequencer (R130 to R133) -/

/-- The standby side is healthy (R130). -/
def Dev.stbyOk (d : Dev) : Bool :=
  let l := d.sideChs (1 - d.activeSide)
  d.lineMode == 2 && l != [] && l.all (fun n =>
    d.lnUp n && d.framer n == 2 && d.actState n == stO5 && d.on (Reg.LN_ACT_STAT.EQD_VALID n) && !d.fastDef n)

/-- The decision cycle of a switch (R133): cause 1 automatic, 2 manual, 3 forced. -/
def Dev.protSwitch (d : Dev) (cause : Nat) : Dev :=
  let old := d.activeSide
  let d1 := ((d.put Reg.LN_PROT_STAT.ACTIVE (1 - old)).put Reg.LN_PROT_STAT.SWITCHING 1).ev Reg.LN_PROT_EVT.SWITCHED
  let d2 := ((d1.bump (Reg.LN_PROT_CNT.COUNT 0)).put Reg.LN_PROT_STAT.LAST_CAUSE cause).putWide
    Reg.LN_PROT_TS_LO.COUNT Reg.LN_PROT_TS_HI.COUNT d.tim.ctr
  let d3 := d2.each (d.sideChs old) (fun d n => (d.cancelBursts n).returnStore n)
  let d4 := d3.each (d.sideChs (1 - old)) (fun d n =>
    d.setLine n { d.line n with reasm := (d.line n).reasm.map (fun r => { r with stby := true }) })
  { d4 with prot := { d4.prot with onset := false } }.trefUpdate

/-- The sequencer evaluates (R131). -/
def Dev.protAuto (d : Dev) : Dev :=
  if d.lineMode ≠ 2 ∨ d.on Reg.LN_PROT_STAT.SWITCHING ∨ ¬ d.on Reg.LN_PROT_CTRL.ARMED ∨ ¬ d.trigger then d
  else if d.stbyOk then (d.put Reg.LN_PROT_CTRL.ARMED 0).protSwitch 1
  else
    let d1 := d.ev Reg.LN_PROT_EVT.BLOCKED
    if d.prot.onset then d1
    else { d1 with prot := { d1.prot with onset := true } }.bump (Reg.LN_PROT_CNT.COUNT 1)

/-- The sequencer switches in this cycle by itself (R131). -/
def Dev.autoDue (d : Dev) : Bool :=
  !d.on Reg.LN_PROT_STAT.SWITCHING && d.on Reg.LN_PROT_CTRL.ARMED && d.trigger && d.stbyOk

/-- CMD 1 (R132). -/
def Dev.protManual (d : Dev) : Dev :=
  if d.lineMode ≠ 2 ∨ d.on Reg.LN_PROT_STAT.SWITCHING then d
  else if d.stbyOk then d.protSwitch 2 else d.ev Reg.LN_PROT_EVT.BLOCKED

/-- CMD 2 (R132). -/
def Dev.protForced (d : Dev) : Dev :=
  if d.lineMode ≠ 2 ∨ d.on Reg.LN_PROT_STAT.SWITCHING then d else d.protSwitch 3

/-- Step 5 of R133. -/
def Dev.protComplete (d : Dev) : Dev := d.put Reg.LN_PROT_STAT.SWITCHING 0

/-- The PLL resumes tracking against its build-out offset, 1 µs after a change of reference (R134). -/
def Dev.trefResume (d : Dev) : Dev :=
  if d.tim.resume then { d with tim := { d.tim with resume := false } } else d

/-! ### Line modes (R112, R121, R126) -/

/-- A write of LINE_MODE (R112). -/
def Dev.lineModeWrite (d : Dev) (v : Nat) : Dev :=
  let d0 := d.put Reg.LN_LINE_MODE.TREF_CH (bits v 2 2)
  let mode := v % 4
  if ((List.range 4).filter d.lnHere).any d.actEn ∨ (mode = 1 ∧ ¬ d.bondHere) then (d0.ev Reg.LN_PROT_EVT.MODE_REJ).trefUpdate
  else
    let was := d.lineMode
    let d1 := if was = 1 ∧ mode ≠ 1 then d0.bondClose else d0
    let d2 := d1.put Reg.LN_LINE_MODE.MODE mode
    let d3 := if mode = 1 ∧ was ≠ 1 then { d2 with tm := { d2.tm with bondSize := d2.poolCells } } else d2
    let d4 := if mode = 2 ∧ was ≠ 2 then d3.put Reg.LN_PROT_STAT.ACTIVE 0 else d3
    d4.trefUpdate

/-- After anything that may move the framer of channel n: a channel out of SYNC is no longer live for bonding, and the
time reference follows. -/
def Dev.framerMoved (d : Dev) (n : Nat) : Dev := (if d.framer n ≠ 2 then d.bondSyncLost n else d).defectsMoved

end Sys2Proof.Machine
end

