-- ==== Sys2Proof/Machine/Sample.lean ====
section
/-!
DEFINITION. Phase samples, the time PLL and the pulse-per-second pins (spec/09, R254 to R262).
-/
namespace Sys2Proof.Machine

/-! ### The time PLL (R259, R260) -/

def pllFree : Nat := 0
def pllLocking : Nat := 1
def pllLocked : Nat := 2
def pllHold : Nat := 3

/-- REF; on a part without line channels 0 acts as 3. -/
def Dev.pllRef (d : Dev) : Nat :=
  let r := d.fld Reg.TIM_PLL_CTRL.REF
  if r = 0 ∧ ¬ d.anyLine then 3 else r

/-- The riser port of REF 1: with TREF_FOLLOW the active uplink (R314). -/
def Dev.pllRiser (d : Dev) : Nat :=
  if d.on Reg.RP_HIER_CTRL.TREF_FOLLOW then d.riserActive (d.fld Reg.RP_HIER_STAT.UPLINK) else d.fld Reg.TIM_PLL_CTRL.RISER_P

/-- The reference is qualified at this moment. -/
def Dev.refOk (d : Dev) : Bool :=
  if d.pllRef = 0 then
    match d.tref with
    | some n => d.framer n == 2 && !d.defect n dLOL
    | none => false
  else if d.pllRef = 1 then
    let p := d.pllRiser
    d.rpUp p && d.on (Reg.RP_PHY_STAT.CLK_OK p)
  else false

/-- A change of PLL state. -/
def Dev.pllTo (d : Dev) (s : Nat) : Dev :=
  if d.fld Reg.TIM_PLL_STAT.STATE = s then d else (d.put Reg.TIM_PLL_STAT.STATE s).ev Reg.TIM_EVT.PLL_CHG

/-- The reference as it now stands: free run, and the loss of qualification. -/
def Dev.pllEval (d : Dev) : Dev :=
  let ok := d.refOk
  let d1 := d.put Reg.TIM_PLL_STAT.REF_OK (bit ok)
  let s := d.fld Reg.TIM_PLL_STAT.STATE
  if d.pllRef = 3 then d1.pllTo pllFree
  else if ok then d1
  else if s = pllLocking then d1.pllTo pllFree
  else if s = pllLocked then d1.pllTo pllHold
  else d1

/-- The reference has been qualified for QUAL; from HOLDOVER its measured phase becomes a build-out offset. -/
def Dev.pllQualified (d : Dev) : Dev :=
  let s := d.fld Reg.TIM_PLL_STAT.STATE
  if d.refOk ∧ s = pllFree then d.pllTo pllLocking
  else if d.refOk ∧ s = pllHold then
    (match (if d.pllRef = 0 then d.tref else none) with
      | some n => d.lineBuildOut n
      | none => d.clockBuildOut).pllTo pllLocking
  else d

/-- The phase error has been within ±10 ns for 1 s. -/
def Dev.pllLock (d : Dev) : Dev :=
  if d.refOk ∧ d.fld Reg.TIM_PLL_STAT.STATE = pllLocking then d.pllTo pllLocked else d

/-! ### Samples (R256, R257) -/

/-- The step of a sample of error e, from `d` to `d1`, as a STEP_GO of its cycle finds it. ARM_STEP stays as software last wrote
it. -/
def Dev.sampleStep (d d1 : Dev) (e : Int) : SampleStep :=
  { ctr := d.tim.ctr, off := d.tim.off, pend := d.tim.pend, hist := d.tim.hist, err := e
    regs := d1.regs.filterMap (fun x =>
      let o := Tbl.get d.regs x.1 (Reg.rst x.1)
      if o = x.2 ∨ x.1 = Reg.TIM_CTRL.ARM_STEP.key then none else some (x.1, o, x.2))
    lines := d1.lines.filterMap (fun x =>
      let o := Tbl.get d.lines x.1 {}
      if o = x.2 then none else some (x.1, o, x.2)) }

/-- A sample of error e is applied. A STEP_GO in the cycle in which it would have stepped took precedence, and its error then
becomes P (R247). -/
def Dev.sampleTake (d : Dev) (e : Int) : Dev :=
  if d.tim.stepGo = some d.tim.ctr then d.setPend e
  else if d.on Reg.TIM_CTRL.ARM_STEP then
    if d.stepOut e then d.stepRefuse
    else
      let d1 := d.stepAndLatch e
      { d1 with tim := { d1.tim with stepped := some (d.sampleStep d1 e) } }
  else if (max 1 (d.fld Reg.TIM_MAX_SLEW.MAX_SLEW) : Int) * 1000000 * nsU < e.natAbs then
    (d.bump (Reg.TIM_CNT.COUNT 3)).ev Reg.TIM_EVT.TOD_BIG
  else d.setPend e

/-- A sample is evaluated: its error is shown and counted. -/
def Dev.sampleShow (d : Dev) (e : Int) : Dev :=
  (d.put Reg.TIM_TOD_ERR.VALUE (unsigned 32 (sat32 (roundPs e)))).bump (Reg.TIM_CNT.COUNT 0)

def Dev.todMiss (d : Dev) : Dev := (d.bump (Reg.TIM_CNT.COUNT 2)).ev Reg.TIM_EVT.TOD_MISS

/-- A count is ahead of another (R256). -/
def sfcAhead (c a : Nat) : Bool :=
  let k := (c + sfcMod - a % sfcMod) % sfcMod
  decide (1 ≤ k) && decide (k ≤ 2 ^ 50 - 1)

/-- TOD_ARM written 1. -/
def Dev.todArm (d : Dev) : Dev :=
  if !d.anyLine then d
  else
    let cnt := d.wide Reg.TIM_TOD_SFC_LO.SFC Reg.TIM_TOD_SFC_HI.SFC
    let t : Int := (d.wide Reg.TIM_TOD_SEC_LO.SEC Reg.TIM_TOD_SEC_HI.SEC : Nat) * secU + (d.fld Reg.TIM_TOD_NS.NS : Nat) * nsU
    let d1 := { d with tim := { d.tim with tod := none } }
    match d.tref with
    | none => d1.todMiss
    | some n =>
      if d.framer n ≠ 2 then d1.todMiss
      else if sfcAhead cnt (d.sfc n) then { d with tim := { d.tim with tod := some (cnt, t) } }
      else (d1.bump (Reg.TIM_CNT.COUNT 1)).ev Reg.TIM_EVT.TOD_LATE

/-- A waiting sample is dropped when its channel is lost or its count is passed. -/
def Dev.todCheck (d : Dev) : Dev :=
  match d.tim.tod with
  | none => d
  | some (cnt, _) =>
    let lost := match d.tref with
      | none => true
      | some n => d.framer n != 2 || sfcAhead (d.sfc n) cnt
    if lost then { d with tim := { d.tim with tod := none } }.todMiss else d

/-- The awaited PSync on the reference channel: e = TOD + D_ds − L. -/
def Dev.todCapture (d : Dev) (n : Nat) (st : Strobe) : Dev :=
  match d.tim.tod with
  | none => d
  | some (cnt, t) =>
    if d.tref = some n ∧ d.framer n = 2 ∧ d.sfc n = cnt then
      let l := (d.stampRx st (3400 * psU) (d.fld (Reg.LN_RX_LAT.LAT n) * 100 * psU) (dsUi 1) (456 + n)).time
      { d with tim := { d.tim with tod := none, cap := some (t + fracTime d.tim.dds - l) } }
    else d

/-- 80 ns after the capture: reported, and in SRC 1 applied. -/
def Dev.todEvaluate (d : Dev) : Dev :=
  match d.tim.cap with
  | none => d
  | some e =>
    let d1 := ({ d with tim := { d.tim with cap := none } }.sampleShow e).ev Reg.TIM_EVT.TOD_DONE
    if d.src = 1 then d1.sampleTake e else d1

/-- A sample of another source (R262, R309). -/
def Dev.sampleFrom (d : Dev) (src : Nat) (e : Int) : Dev := if d.src = src then (d.sampleShow e).sampleTake e else d

/-- The step of an armed sample in this very cycle, and the PM latch it made, are taken back: every register field and line
channel that they changed and nothing has changed since holds its value before them (R247). -/
def Dev.sampleUndo (d : Dev) (x : SampleStep) : Dev :=
  { d with
    tim := { d.tim with off := x.off, pend := x.pend, hist := x.hist, stepped := none }
    regs := x.regs.foldl (fun t y => if Tbl.get t y.1 0 = y.2.2 then Tbl.set t y.1 y.2.1 else t) d.regs
    lines := x.lines.foldl (fun t y => if Tbl.get t y.1 {} = y.2.2 then Tbl.set t y.1 y.2.1 else t) d.lines }

/-- STEP_GO (R246, R247): in the cycle in which an armed sample steps it takes the sample's place, whose error becomes P; the
cycle has one step, and one PM latch. A STEP_GO that is refused takes the sample's place too (notes/assumptions/55.md). -/
def Dev.stepGo (d : Dev) (armed : Bool) : Dev :=
  let x := d.tim.stepped.filter (fun x => x.ctr == d.tim.ctr)
  let e := (x.map d.sampleUndo).getD d
  let v := if d.on Reg.TIM_CTRL.STEP_SRC then e.tim.pend else d.stepValue
  let f := if e.stepOut v then e.stepRefuse else e.stepAndLatch v
  match x with
  | some x => f.setPend x.err
  | none => { f with tim := { f.tim with stepGo := if armed then some d.tim.ctr else none } }

/-- Less than one cycle of SLEW remains: it goes to OFFSET and slewing ends (R257). -/
def Dev.slewComplete (d : Dev) : Dev :=
  if d.tim.pend ≠ 0 ∧ d.tim.pend.natAbs < d.slewUnit.natAbs then d.slewEnd else d

/-- A write of TIM.RATE, of TIM.SLEW, of a transfer parameter. -/
def Dev.rateWrite (d : Dev) (v : Nat) : Dev := (d.put Reg.TIM_RATE.RATE v).reRate
def Dev.slewWrite (d : Dev) (v : Nat) : Dev := (d.put Reg.TIM_SLEW.SLEW v).iff (d.tim.pend != 0) (·.reRate)
def Dev.eqd0Write (d : Dev) (v : Nat) : Dev := (d.put Reg.TIM_XFER_EQD0.EQD_ZERO v).trefEqd false
def Dev.asymWrite (d : Dev) (v : Nat) : Dev := (d.put Reg.TIM_XFER_ASYM.ASYM v).trefEqd false

/-- A write of TIM.PLL_CTRL. -/
def Dev.pllWrite (d : Dev) (v : Nat) : Dev :=
  ((((d.put Reg.TIM_PLL_CTRL.REF v).put Reg.TIM_PLL_CTRL.RISER_P (bits v 2 2)).put Reg.TIM_PLL_CTRL.BW (bits v 4 2)).put
    Reg.TIM_PLL_CTRL.QUAL (bits v 6 8)).pllEval

/-- A write of TIM.CTRL: its fields, then STEP_GO. -/
def Dev.timCtrl (d : Dev) (v : Nat) : Dev :=
  let armed := d.on Reg.TIM_CTRL.ARM_STEP
  let d1 := ((d.put Reg.TIM_CTRL.SRC v).put Reg.TIM_CTRL.STEP_SRC (bits v 3 1)).put Reg.TIM_CTRL.ARM_STEP (bits v 4 1)
  let d2 := ((d1.put Reg.TIM_CTRL.PPS_OUT_EN (bits v 5 1)).put Reg.TIM_CTRL.PPS_IN_EN (bits v 6 1)).put Reg.TIM_CTRL.PPS_IN_POL (bits v 7 1)
  (d2.put Reg.TIM_CTRL.ONE_STEP_EN (bits v 8 1)).iff (bitOf v 2) (·.stepGo armed)

/-! ### Pulse per second (R262) -/

/-- OUT_OFS and WIDTH with their limits: ns within the second, and ps. -/
def Dev.ppsOfs (d : Dev) : Nat :=
  let v := d.fld Reg.TIM_PPS_CTRL.OUT_OFS
  if 999999999 < v then 0 else v
def Dev.ppsWidth (d : Dev) : Nat := min 500000 (max 1 (d.fld Reg.TIM_PPS_WIDTH.WIDTH)) * 1000000

/-- T passes OUT_OFS by running in this CK_TIME cycle: it lay before it one cycle ago, in the same epoch (R245, R262). -/
def Dev.ppsPasses (d : Dev) : Bool :=
  let v := d.viewAt (d.tim.ctr - 1)
  let q := fun (t : Int) => (t - d.ppsOfs * nsU) / secU
  v.epoch == d.epoch && q (v.at_ (d.nowPs - 800 : Nat)) != q d.time

/-- TOD_1PPS_OUT rises (R262). -/
def Dev.ppsRise (d : Dev) : Dev :=
  if d.on Reg.TIM_CTRL.PPS_OUT_EN && d.on Reg.TIM_STAT.TIME_SET && d.ppsPasses then
    { d with tim := { d.tim with ppsOut := true, ppsEnd := d.nowPs + d.ppsWidth } }
  else d

/-- It falls once WIDTH has passed. -/
def Dev.ppsFall (d : Dev) : Dev := if d.tim.ppsEnd ≤ d.nowPs then { d with tim := { d.tim with ppsOut := false } } else d

/-- An edge on TOD_1PPS_IN. -/
def Dev.ppsIn (d : Dev) (rising : Bool) (st : Strobe) : Dev :=
  if d.on Reg.TIM_CTRL.PPS_IN_EN && (rising != d.on Reg.TIM_CTRL.PPS_IN_POL) then
    let s := d.capture st (-4100 * psU)
    let d1 := (d.putWords Reg.TIM_PPS_IN_TS.TS s.words).ev Reg.TIM_EVT.PPS_IN
    d1.sampleFrom 3 ((2 * s.time + secU) / (2 * secU) * secU - s.time)
  else d

/-- After anything that may move the time reference: the PLL, and a waiting sample (R256, R259). -/
def Dev.refMoved (d : Dev) : Dev := d.pllEval.todCheck

/-- After anything that may move a framer, a defect or a reference. -/
def Dev.lineMoved (d : Dev) (n : Nat) : Dev := (d.framerMoved n).refMoved

end Sys2Proof.Machine
end

