-- ==== Sys2Proof/Machine/Phy.lean ====
section
/-!
DEFINITION. Serial lanes (spec/10): the detectors, equalisers, eye monitors and pattern checkers of subscriber and riser
data lanes, the bring-up of a riser port, and sleep with the wake arbiter (spec/15, R399 to R401).
-/
namespace Sys2Proof.Machine

/-! ### Lanes of both kinds (R267, R281 to R284) -/

/-- The same field of a subscriber lane or of a riser data lane (R284). -/
def laneFld (sub : Nat → Fld) (rp : Nat → Nat → Fld) : SerLane → Fld
  | .sub n => sub n
  | .riser p l => rp p l

/-- The lane is present. -/
def Dev.laneHere (d : Dev) : SerLane → Bool
  | .sub n => d.slHere n
  | .riser p _ => d.rpUp p

/-- Links that depend on a lane follow its state. -/
def Dev.laneMoved (d : Dev) : SerLane → Dev
  | .sub n => d.linkLane n
  | .riser _ _ => d

/-- The receiver of a lane sleeps. -/
def Dev.laneAsleep (d : Dev) (x : SerLane) : Bool := d.on (laneFld Reg.SL_STAT.RX_ASLEEP Reg.RP_LANE_STAT.RX_ASLEEP x)

def patSync (x : SerLane) : Fld := laneFld Reg.SL_STAT.PAT_SYNC Reg.RP_LANE_STAT.PAT_SYNC x

/-- What a lane's receiver reports: lock or alignment, HI_BER, FEC alignment, clock recovery, FEC codewords, and pattern
errors, counted only while the checker is synchronised (R283). Clock recovery is 0 while the receiver sleeps (R267). -/
def Dev.laneSync (d0 : Dev) (x : SerLane) (sync hiBer fec cdr : Bool) (corr unc errs : Nat) : Dev :=
  if !d0.laneHere x then d0
  else
    let d := d0.iff (d0.on (patSync x)) (·.bumpBy (laneFld Reg.SL_PAT_ERR.PAT_ERR Reg.RP_LANE_PAT_ERR.PAT_ERR x) errs)
    match x with
    | .riser p l =>
      (d.put (Reg.RP_LANE_STAT.SYNC p l) (bit sync)).put (Reg.RP_LANE_STAT.CDR_LOCK p l) (bit (cdr && !d.laneAsleep (.riser p l)))
    | .sub n =>
      let was := d.on (Reg.SL_STAT.SYNC n)
      let wasBer := d.on (Reg.SL_STAT.HI_BER n)
      let d1 := ((d.put (Reg.SL_STAT.SYNC n) (bit sync)).put (Reg.SL_STAT.HI_BER n) (bit hiBer)).put
        (Reg.SL_STAT.CDR_LOCK n) (bit (cdr && !d.laneAsleep (.sub n)))
      let d2 := d1.setLane n { d1.lane n with fecLock := fec }
      let d2 := d2.iff (!sync) (fun d => d.each (List.range 4) (fun d j =>
        d.iff (d.mac (4 * n + j)).inband.isSome (fun d => d.setMac (4 * n + j) { d.mac (4 * n + j) with inband := none })))
      let d3 := d2.iff (sync != was) (·.ev (Reg.SL_EVT.SYNC_CHG n))
      let d4 := d3.iff (was && !sync) (·.bump (Reg.SL_CNT.COUNT n 3))
      let d5 := d4.iff (hiBer && !wasBer) (·.ev (Reg.SL_EVT.HI_BER n))
      let d6 := d5.iff (d.laneMode n == 2) (fun d => (d.bumpBy (Reg.SL_CNT.COUNT n 4) corr).bumpBy (Reg.SL_CNT.COUNT n 5) unc)
      d6.linkLane n

/-- What the receiver has adapted to: under ADAPT 1 as it stands, under ADAPT 2 (3 acts as 2) with its acquisition
complete, which freezes it: a later loss of the clock recovery's lock does not begin another. It adapts only while its clock
recovery is locked, which a sleeping one is not (R50, R278, R281). -/
def Dev.laneAdapted (d : Dev) (x : SerLane) (ctle dfe : Nat) : Dev :=
  let a := d.fld (laneFld Reg.SL_RXEQ.ADAPT Reg.RP_LANE_RXEQ.ADAPT x)
  if d.laneHere x && a != 0 && d.on (laneFld Reg.SL_STAT.CDR_LOCK Reg.RP_LANE_STAT.CDR_LOCK x) &&
      !(decide (2 ≤ a) && d.on (laneFld Reg.SL_RXEQ_STAT.ADAPT_DONE Reg.RP_LANE_RXEQ_STAT.ADAPT_DONE x)) then
    ((d.iff (decide (2 ≤ a)) (·.put (laneFld Reg.SL_RXEQ_STAT.ADAPT_DONE Reg.RP_LANE_RXEQ_STAT.ADAPT_DONE x) 1)).put
      (laneFld Reg.SL_RXEQ_STAT.CTLE_NOW Reg.RP_LANE_RXEQ_STAT.CTLE_NOW x) ctle).put
        (laneFld Reg.SL_RXEQ_STAT.DFE1 Reg.RP_LANE_RXEQ_STAT.DFE1 x) dfe
  else d

/-- A write of RXEQ: with ADAPT 0 the boost written is the boost in use, which shows once the lane is out of reset (R281, R50,
R47); another ADAPT begins a new acquisition. -/
def Dev.rxeqWrite (d : Dev) (x : SerLane) (v : Nat) : Dev :=
  let d1 := ((d.put (laneFld Reg.SL_RXEQ.ADAPT Reg.RP_LANE_RXEQ.ADAPT x) v).put
    (laneFld Reg.SL_RXEQ.CTLE Reg.RP_LANE_RXEQ.CTLE x) (bits v 2 4)).put
      (laneFld Reg.SL_RXEQ.ACQ_TIME Reg.RP_LANE_RXEQ.ACQ_TIME x) (bits v 6 4)
  let d2 := d1.put (laneFld Reg.SL_RXEQ.POL_INV Reg.RP_LANE_RXEQ.POL_INV x) (bits v 10 1)
  let d3 := d2.iff (v % 4 != d.fld (laneFld Reg.SL_RXEQ.ADAPT Reg.RP_LANE_RXEQ.ADAPT x))
    (·.put (laneFld Reg.SL_RXEQ_STAT.ADAPT_DONE Reg.RP_LANE_RXEQ_STAT.ADAPT_DONE x) 0)
  d3.iff (v % 4 == 0 && d.laneHere x) (·.put (laneFld Reg.SL_RXEQ_STAT.CTLE_NOW Reg.RP_LANE_RXEQ_STAT.CTLE_NOW x) (bits v 2 4))

/-- A write of the transmit taps: ignored with EQ_REJ when they sum above 63 (R281). A riser lane has no EQ_REJ bit. -/
def Dev.txeqWrite (d : Dev) (x : SerLane) (v : Nat) : Dev :=
  if 63 < bits v 0 4 + bits v 4 6 + bits v 10 5 then
    match x with
    | .sub n => d.ev (Reg.SL_EVT.EQ_REJ n)
    | .riser _ _ => d
  else
    (((d.put (laneFld Reg.SL_TXEQ.PRE Reg.RP_LANE_TXEQ.PRE x) v).put
      (laneFld Reg.SL_TXEQ.MAIN Reg.RP_LANE_TXEQ.MAIN x) (bits v 4 6)).put
        (laneFld Reg.SL_TXEQ.POST Reg.RP_LANE_TXEQ.POST x) (bits v 10 5)).put
          (laneFld Reg.SL_TXEQ.POL_INV Reg.RP_LANE_TXEQ.POL_INV x) (bits v 15 1)

/-- A scan of this lane runs. -/
def Dev.scans (d : Dev) : SerLane → Bool
  | .sub n => (d.lane n).scan
  | .riser p l => if l = 0 then (d.phy p).scan0 else (d.phy p).scan1

def Dev.setScan (d : Dev) (x : SerLane) (b : Bool) : Dev :=
  match x with
  | .sub n => d.setLane n { d.lane n with scan := b }
  | .riser p l => d.setPhy p (if l = 0 then { d.phy p with scan0 := b } else { d.phy p with scan1 := b })

/-- A write of EYE_CTRL; START begins or restarts a scan (R282). -/
def Dev.eyeWrite (d : Dev) (x : SerLane) (v : Nat) : Dev :=
  let d1 := ((d.put (laneFld Reg.SL_EYE_CTRL.PHASE Reg.RP_LANE_EYE_CTRL.PHASE x) v).put
    (laneFld Reg.SL_EYE_CTRL.VOLT Reg.RP_LANE_EYE_CTRL.VOLT x) (bits v 6 7)).put
      (laneFld Reg.SL_EYE_CTRL.LOG2_BITS Reg.RP_LANE_EYE_CTRL.LOG2_BITS x) (bits v 13 5)
  d1.iff (bitOf v 18 && d.laneHere x) (fun d => (d.put (laneFld Reg.SL_EYE_STAT.DONE Reg.RP_LANE_EYE_STAT.DONE x) 0).setScan x true)

/-- The scan ends with its count of disagreements, at most the 2^LOG2_BITS bits compared; it saturates. -/
def Dev.eyeDone (d : Dev) (x : SerLane) (errors : Nat) : Dev :=
  if d.scans x then
    ((d.setScan x false).put (laneFld Reg.SL_EYE_STAT.DONE Reg.RP_LANE_EYE_STAT.DONE x) 1).put
      (laneFld Reg.SL_EYE_STAT.ERRORS Reg.RP_LANE_EYE_STAT.ERRORS x) 
        (min (2 ^ 31 - 1) (min (2 ^ max 10 (d.fld (laneFld Reg.SL_EYE_CTRL.LOG2_BITS Reg.RP_LANE_EYE_CTRL.LOG2_BITS x))) errors))
  else d

def Dev.rxPat (d : Dev) (x : SerLane) : Nat := d.fld (laneFld Reg.SL_PAT_CTRL.RX_PAT Reg.RP_LANE_PAT_CTRL.RX_PAT x)

/-- 64 error-free bits synchronise the checker (R283). -/
def Dev.patGain (d : Dev) (x : SerLane) : Dev :=
  if d.laneHere x && d.rxPat x != 0 then d.put (patSync x) 1 else d

/-- The checker loses synchronisation; `errs` are the errors counted since the last report (R283). -/
def Dev.patLost (d : Dev) (x : SerLane) (errs : Nat) : Dev :=
  if d.laneHere x && d.on (patSync x) then
    let d1 := (d.put (patSync x) 0).bumpBy (laneFld Reg.SL_PAT_ERR.PAT_ERR Reg.RP_LANE_PAT_ERR.PAT_ERR x) errs
    match x with
    | .sub n => d1.ev (Reg.SL_EVT.PAT_LOSS n)
    | .riser p _ => d1.ev (Reg.RP_PHY_EVT.PAT_LOSS p)
  else d

/-! ### Riser bring-up (R274 to R277) -/

def phClk : Nat := 0
def phPage : Nat := 1
def phSwitch : Nat := 2
def phTrain : Nat := 3
def phUp : Nat := 4
def phFail : Nat := 5

def Dev.phyState (d : Dev) (p : Nat) : Nat := d.fld (Reg.RP_PHY_STAT.STATE p)
def Dev.clkOk (d : Dev) (p : Nat) : Bool := d.on (Reg.RP_PHY_STAT.CLK_OK p)
def Dev.phyCnt (d : Dev) (p c : Nat) : Dev := d.bump (Reg.RP_PHY_CNT.COUNT p c)

/-- A data-lane pattern is selected (R283). -/
def Dev.phyPattern (d : Dev) (p : Nat) : Bool :=
  (List.range 2).any (fun l => d.fld (Reg.RP_LANE_PAT_CTRL.TX_PAT p l) != 0 || d.fld (Reg.RP_LANE_PAT_CTRL.RX_PAT p l) != 0)

/-- FORCE_RATE, of which 3 acts as 2. -/
def Dev.forceRate (d : Dev) (p : Nat) : Nat := min 2 (d.fld (Reg.RP_PHY_CTRL.FORCE_RATE p))

/-- RATES as offered: code 0 always, less what fallbacks removed. -/
def Dev.offered (d : Dev) (p : Nat) : Nat :=
  (List.range 3).foldl (fun a k => a + bit (k == 0 || (bitOf (d.fld (Reg.RP_PHY_CTRL.RATES p)) k && !bitOf (d.phy p).removed k)) * 2 ^ k) 0

/-- Latencies of a riser rate in units of 100 ps (R268). -/
def riserLat (rate : Nat) : Nat × Nat := if rate = 2 then (144, 104) else if rate = 1 then (272, 192) else (0, 0)

/-- Change every frame inside the device that came in wagons under one of these identities, wherever it stands; a frame
in transmission is continued with the bytes `tail` (R153, R299). -/
def Dev.onFid (d : Dev) (fids : List Nat) (g : Frame → Frame) (tail : List Byte) : Dev :=
  let m : Frame → Frame := fun f => if f.fid ∈ fids then g f else f
  let slice : Slice → Slice := fun s =>
    { s with passes := s.passes.map m, rqOut := s.rqOut.map m, rqBack := s.rqBack.map m }
  let queue : Queue → Queue := fun q => { q with ondie := q.ondie.map m, siding := q.siding.map m }
  let ring : RingSt → RingSt := fun r => { r with frames := r.frames.map m }
  let tx : TxFrame → TxFrame := fun t => if t.f.fid ∈ fids then { t with f := g t.f, data := t.data ++ tail } else t
  let mac : Mac → Mac := fun x => { x with waiting := x.waiting.map (fun w => (m w.1, w.2)), tx := x.tx.map tx }
  let riser : TxRiser → TxRiser := fun t =>
    if t.f.fid ∈ fids then { t with f := g t.f, all := t.all ++ tail } else t
  { d with
    inbuf := Tbl.mapVals d.inbuf (fun l => l.map m)
    slices := Tbl.mapVals d.slices slice
    tm := { d.tm with queues := Tbl.mapVals d.tm.queues queue }
    macs := Tbl.mapVals d.macs mac
    rlinks := Tbl.mapVals d.rlinks (fun (x : RLink) => { x with tx := x.tx.map riser })
    host := { d.host with rings := Tbl.mapVals d.host.rings ring } }

/-- The link of port p goes down: alignment is lost and every frame in reception fails. What waits to be sent stays, for a
pair's other member (R313) or until the next UP. -/
def Dev.linkStop (d : Dev) (p : Nat) : Dev :=
  let bad := (Tbl.get d.rlinks p {}).rx.map (·.fid)
  let d2 := d.onFid bad (fun f => { f with failed := true }) []
  let d3 := d2.bumpBy (Reg.CPH_RSR_CNT.COUNT p 7) bad.length
  let x : RLink := { Tbl.get d3.rlinks p {} with run := 0, bad := 0, rx := [], cont := none, waits := [], kept := [] }
  { d3.put (Reg.RP_LINK_STAT.ALIGNED p) 0 with rlinks := Tbl.set d3.rlinks p x }

/-- STATE reaches UP: every link-layer count, credit and store of port p restarts (R292). -/
def Dev.linkRestart (d : Dev) (p : Nat) : Dev :=
  Dev.setPhy { d with rlinks := Tbl.set d.rlinks p {} } p { d.phy p with odd := false }

/-- A capability page is valid (R277). -/
def pageOk (b : List Byte) : Bool :=
  b.length == 8 && beAt b 0 2 == 0xC3A5 && byteAt b 2 / 16 == 1 && crc16.sum (b.take 6) == beAt b 6 2

/-- The page that port p sends (R277). -/
def Dev.ownPage (d : Dev) (p : Nat) : List Byte :=
  let b := beBytes 0xC3A5 2 ++ beBytes (0x10 + bit (d.phy p).ack * 8 + d.offered p) 1 ++
    beBytes (bit (d.on (Reg.RP_PHY_CTRL.UPPER p)) * 128) 1 ++ beBytes 0 2
  b ++ beBytes (crc16.sum b) 2

/-- Port p sends its page continuously on both data lanes from here on: one stands for all of the run, after which the
scramblers' bits are free values (notes/assumptions/53.md). With FORCE, a pattern or a sleeping transmitter it sends none. -/
def Dev.sendPage (d : Dev) (p : Nat) : Dev :=
  if !d.rpUp p || !decide (d.phyState p ≤ phPage) || d.on (Reg.RP_PHY_CTRL.FORCE p) || d.phyPattern p ||
      d.on (Reg.RP_PHY_STAT.TX_ASLEEP p) then d
  else ((d.emit (.page p (d.ownPage p))).laneSend p (d.ownPage p) (d.ownPage p)).txCodeFree p

/-- Enter SWITCH with rate C, or FAIL when there is none. CLK_OK reads 0 there, so that a time reference from this port goes
(R259, R274). -/
def Dev.phySwitch (d : Dev) (p : Nat) (c : Option Nat) : Dev :=
  match c with
  | none => (d.put (Reg.RP_PHY_STAT.STATE p) phFail).ev (Reg.RP_PHY_EVT.FAIL p)
  | some c =>
    let d1 := d.setPhy p { d.phy p with c := c, suspended := true }
    (((d1.put (Reg.RP_PHY_STAT.STATE p) phSwitch).put (Reg.RP_PHY_STAT.RATE p) c).put (Reg.RP_PHY_STAT.CLK_OK p) 0).pllEval

/-- What CLK_WAIT does once the clock is good: pages, or at FORCE the switch to the forced rate; a pattern holds it. -/
def Dev.phyClk (d : Dev) (p : Nat) : Dev :=
  if d.phyState p = phClk ∧ d.clkOk p ∧ ¬ d.phyPattern p then
    if d.on (Reg.RP_PHY_CTRL.FORCE p) then d.phySwitch p (some (max 1 (d.forceRate p)))
    else (d.put (Reg.RP_PHY_STAT.STATE p) phPage).sendPage p
  else d

/-- Enter CLK_WAIT, where pages go out. A clock already good at this state's own rate lets it go on at once. -/
def Dev.phyWait (d : Dev) (p : Nat) : Dev :=
  let rate := if d.phyPattern p then d.forceRate p else 0
  let same := d.fld (Reg.RP_PHY_STAT.RATE p) == rate
  let d1 := (d.linkStop p).setPhy p { d.phy p with ack := false, suspended := false }
  let d2 := ((d1.put (Reg.RP_PHY_STAT.STATE p) phClk).put (Reg.RP_PHY_STAT.RATE p) rate)
  let d3 := ((d2.put (Reg.RP_PHY_LAT.RX_LAT p) 0).put (Reg.RP_PHY_LAT.TX_LAT p) 0).sendPage p
  (d3.iff same (·.phyClk p)).pllEval

/-- A fallback removes C from the rates offered. -/
def Dev.phyFallback (d : Dev) (p : Nat) : Dev :=
  let y := d.phy p
  ((d.setPhy p { y with removed := setBit y.removed y.c true }).phyCnt p 1).phyWait p

/-- RESTART offers the full RATES again. -/
def Dev.phyRestart (d : Dev) (p : Nat) : Dev :=
  if d.rpUp p then (d.setPhy p { d.phy p with removed := 0 }).phyWait p else d

/-- The forwarded clock has been outside ±1 % of its rate, at `khz` last, for four windows (R274, R275). -/
def Dev.clockLost (d : Dev) (p khz : Nat) : Dev :=
  if d.rpUp p && d.clkOk p && !(d.phy p).suspended && !clockGood (d.fld (Reg.RP_PHY_STAT.RATE p)) khz then
    let d1 := ((d.put (Reg.RP_PHY_STAT.CLK_OK p) 0).ev (Reg.RP_PHY_EVT.CLK_LOSS p)).phyCnt p 3
    let s := d.phyState p
    if s = phPage then d1.phyWait p
    else if s = phTrain then (d1.phyCnt p 4).phyFallback p
    else if s = phUp then ((d1.phyCnt p 0).ev (Reg.RP_PHY_EVT.DOWN p)).phyWait p
    else d1.pllEval
  else d

/-- Ten microseconds of good windows at `khz` (R274, R275). They count at the rate in force, also where CLK_OK still
stands from another rate. -/
def Dev.clockOk (d : Dev) (p khz : Nat) : Dev :=
  if d.rpUp p && !(d.phy p).suspended && clockGood (d.fld (Reg.RP_PHY_STAT.RATE p)) khz then
    let d1 := d.put (Reg.RP_PHY_STAT.CLK_OK p) 1
    (if d.phyState p = phSwitch then (d1.put (Reg.RP_PHY_STAT.STATE p) phTrain).trainSend p else d1.phyClk p).pllEval
  else d

/-- The first three consecutive identical valid pages in a lane's descrambled bits, at any bit position (R275, R277). -/
def pageIn : List Bool → Option (List Byte)
  | [] => none
  | x :: r =>
    let b := bitsBytes ((x :: r).take 64)
    if pageOk b && bitsBytes ((x :: r).take 192) == b ++ b ++ b then some b else pageIn r

/-- The page that has come three times over on both data lanes, whose bits are these (R272, R277). -/
def Dev.pageOn (d : Dev) (p : Nat) (x : LaneBits) : Option (List Byte) :=
  let got := fun (l : Nat) (b : List Bool) =>
    pageIn (({} : LaneCode).recvBits (polarity (d.on (Reg.RP_LANE_RXEQ.POL_INV p l)) b)).2.1
  if got 0 x.l0 = got 1 x.l1 then got 0 x.l0 else none

/-- Three consecutive identical valid pages on both lanes: the peer fields, and own pages carry ACK = 1 from here on. -/
def Dev.pageAccept (d : Dev) (p : Nat) (x : LaneBits) : Dev :=
  match d.pageOn p x with
  | some b =>
    if d.rpUp p && d.phyState p == phPage then
      let d1 := (d.put (Reg.RP_PHY_STAT.PEER_RATES p) (byteAt b 2 % 8)).put (Reg.RP_PHY_STAT.PEER_UPPER p) (byteAt b 3 / 128)
      (d1.setPhy p { d.phy p with ack := true }).sendPage p
    else d
  | none => d

/-- A page with ACK = 1 has come and eight further pages have gone out. -/
def Dev.pagesDone (d : Dev) (p : Nat) : Dev :=
  if d.rpUp p && d.phyState p == phPage && (d.phy p).ack then
    let m := d.offered p &&& d.fld (Reg.RP_PHY_STAT.PEER_RATES p)
    d.phySwitch p (if bitOf m 2 then some 2 else if bitOf m 1 then some 1 else none)
  else d

/-- The detector resumes 20 µs after entry to SWITCH. -/
def Dev.suspendOver (d : Dev) (p : Nat) : Dev :=
  if d.phyState p = phSwitch then d.setPhy p { d.phy p with suspended := false } else d

/-- 40 µs in SWITCH without CLK_OK. -/
def Dev.switchTimeout (d : Dev) (p : Nat) : Dev :=
  if d.rpUp p && d.phyState p == phSwitch && !d.clkOk p then d.phyFallback p else d

/-- Both data lanes' clock recoveries are locked. -/
def Dev.lanesLocked (d : Dev) (p : Nat) : Bool := d.on (Reg.RP_LANE_STAT.CDR_LOCK p 0) && d.on (Reg.RP_LANE_STAT.CDR_LOCK p 1)

/-- TRAIN has elapsed, the markers of lanes 0 and 1 standing at `m0` and `m1` in unit intervals: up when both lanes are locked
and the skew of lane 1 against lane 0 lies within ±32 UI (R275, R276). -/
def Dev.trainOver (d : Dev) (p : Nat) (m0 m1 : Int) : Dev :=
  if d.rpUp p && d.phyState p == phTrain then
    let skew := m1 - m0
    if d.lanesLocked p && decide (-32 ≤ skew) && decide (skew ≤ 32) then
      let lat := riserLat (d.fld (Reg.RP_PHY_STAT.RATE p))
      let d1 := (d.put (Reg.RP_PHY_STAT.SKEW p) (unsigned 7 skew)).setPhy p { d.phy p with removed := 0 }
      let d2 := (((d1.put (Reg.RP_PHY_STAT.STATE p) phUp).ev (Reg.RP_PHY_EVT.UP p)).rxCodeFree p).linkRestart p
      (d2.put (Reg.RP_PHY_LAT.RX_LAT p) lat.1).put (Reg.RP_PHY_LAT.TX_LAT p) lat.2
    else (d.phyCnt p 4).phyFallback p
  else d

/-- A data-lane CDR has been unlocked for 1 µs. -/
def Dev.cdrUnlock (d : Dev) (p l : Nat) : Dev :=
  if d.rpUp p then
    let d1 := d.put (Reg.RP_LANE_STAT.CDR_LOCK p l) 0
    if d.phyState p = phUp then ((d1.phyCnt p 0).ev (Reg.RP_PHY_EVT.DOWN p)).phyWait p else d1
  else d

/-- RETRY has elapsed in FAIL. -/
def Dev.failRetry (d : Dev) (p : Nat) : Dev :=
  if d.rpUp p && d.phyState p == phFail then d.phyRestart p else d

/-- The 64 bits of PAT_USER. -/
def Dev.patUser (d : Dev) (x : SerLane) : Nat :=
  d.fld (laneFld Reg.SL_PAT_USER_LO.PAT_USER Reg.RP_LANE_PAT_USER_LO.PAT_USER x) +
    2 ^ 32 * d.fld (laneFld Reg.SL_PAT_USER_HI.PAT_USER Reg.RP_LANE_PAT_USER_HI.PAT_USER x)

/-- The transmitter of a lane sleeps: it holds the lane at electrical idle (R278). -/
def Dev.laneIdle (d : Dev) (x : SerLane) : Bool := d.on (laneFld Reg.SL_STAT.TX_ASLEEP Reg.RP_LANE_STAT.TX_ASLEEP x)

/-- A lane that is present and has a transmit pattern sends it unless it sleeps; where in its period a PRBS begins is a free
value. -/
def Dev.patSend (d : Dev) (x : SerLane) : Dev :=
  let c := d.fld (laneFld Reg.SL_PAT_CTRL.TX_PAT Reg.RP_LANE_PAT_CTRL.TX_PAT x)
  let inv := d.on (laneFld Reg.SL_PAT_CTRL.TX_INV Reg.RP_LANE_PAT_CTRL.TX_INV x) !=
    d.on (laneFld Reg.SL_TXEQ.POL_INV Reg.RP_LANE_TXEQ.POL_INV x)
  if d.laneHere x && !d.laneIdle x && c != 0 then d.freed.emit (.pattern x (polarity inv (patternBits c (d.patUser x) (d.freeVal 31)))) else d

/-- A write of a lane's PAT_CTRL: a pattern on a riser lane holds its port in CLK_WAIT (R283). -/
def Dev.patWrite (d : Dev) (x : SerLane) (v : Nat) : Dev :=
  let d1 := ((d.put (laneFld Reg.SL_PAT_CTRL.TX_PAT Reg.RP_LANE_PAT_CTRL.TX_PAT x) v).put
    (laneFld Reg.SL_PAT_CTRL.RX_PAT Reg.RP_LANE_PAT_CTRL.RX_PAT x) (bits v 3 3)).put
      (laneFld Reg.SL_PAT_CTRL.TX_INV Reg.RP_LANE_PAT_CTRL.TX_INV x) (bits v 6 1)
  let d2 := (d1.put (laneFld Reg.SL_PAT_CTRL.RX_INV Reg.RP_LANE_PAT_CTRL.RX_INV x) (bits v 7 1)).iff (bits v 3 3 == 0) (·.put (patSync x) 0)
  (match x with
  | .sub n => d2.linkLane n
  | .riser p _ => if d2.rpUp p ∧ (d2.phyPattern p ≠ d.phyPattern p) then d2.phyWait p else d2).patSend x

/-! ### Sleep (R278 to R280) -/

/-- The source number of a wake request, in the order of R399. -/
def WakeSrc.num : WakeSrc → Nat
  | .lane (.subTx n) => n
  | .lane (.subRx n) => 112 + n
  | .lane (.riserTx p) => 224 + p
  | .lane (.riserRx p) => 228 + p
  | .slice k => 232 + k
  | .dram c => 236 + c

/-- The sleep condition of a direction (R279). -/
def Dev.sleepCond (d : Dev) : LaneDir → Bool
  | .subTx n => d.subSleeps n true
  | .subRx n => d.subSleeps n false
  | .riserTx p => d.on (Reg.RP_PHY_SLEEP.TX_SLEEP p)
  | .riserRx p => d.on (Reg.RP_PHY_SLEEP.RX_SLEEP p)

/-- The fields that show a direction asleep and ready. -/
def asleepFlds : LaneDir → List Fld
  | .subTx n => [Reg.SL_STAT.TX_ASLEEP n]
  | .subRx n => [Reg.SL_STAT.RX_ASLEEP n]
  | .riserTx p => [Reg.RP_PHY_STAT.TX_ASLEEP p, Reg.RP_LANE_STAT.TX_ASLEEP p 0, Reg.RP_LANE_STAT.TX_ASLEEP p 1]
  | .riserRx p => [Reg.RP_PHY_STAT.RX_ASLEEP p, Reg.RP_LANE_STAT.RX_ASLEEP p 0, Reg.RP_LANE_STAT.RX_ASLEEP p 1]

def readyFlds : LaneDir → List Fld
  | .subTx n => [Reg.SL_STAT.TX_READY n]
  | .subRx n => [Reg.SL_STAT.RX_READY n]
  | .riserTx p => [Reg.RP_LANE_STAT.TX_READY p 0, Reg.RP_LANE_STAT.TX_READY p 1]
  | .riserRx p => [Reg.RP_LANE_STAT.RX_READY p 0, Reg.RP_LANE_STAT.RX_READY p 1]

/-- A sleeping receiver's clock recovery stops. -/
def cdrFlds : LaneDir → List Fld
  | .subRx n => [Reg.SL_STAT.CDR_LOCK n]
  | .riserRx p => [Reg.RP_LANE_STAT.CDR_LOCK p 0, Reg.RP_LANE_STAT.CDR_LOCK p 1]
  | _ => []

def Dev.putAll (d : Dev) (l : List Fld) (v : Nat) : Dev := d.each l (fun d f => d.put f v)

def Dev.dirHere (d : Dev) : LaneDir → Bool
  | .subTx n => d.slHere n
  | .subRx n => d.slHere n
  | .riserTx p => d.rpUp p
  | .riserRx p => d.rpUp p

def Dev.asleep (d : Dev) (x : LaneDir) : Bool := (asleepFlds x).any d.on

/-- The first energy of the partner wakes a receiver that sleeps for the partner's low-power idle (R279). -/
def Dev.energyWake (d : Dev) (n : Nat) : Bool :=
  d.on (Reg.SL_STAT.SIGNAL n) && d.on (Reg.SM_PORT_STAT.LPI_RX n 0) && !d.on (Reg.SL_SLEEP_CTRL.RX_FORCE n)

/-- A direction is to wake: its sleep condition has ended, or the partner's energy has come. -/
def Dev.wakeCond (d : Dev) : LaneDir → Bool
  | .subRx n => !d.sleepCond (.subRx n) || d.energyWake n
  | x => !d.sleepCond x

/-- What a transmitter that goes to sleep does to the frames it sends: they leave cut where they stand (R278). -/
def Dev.sleepCut (d : Dev) : LaneDir → Dev
  | .subTx n => d.each (List.range 4) (fun d j => d.txAsleep (4 * n + j))
  | _ => d

/-- A direction whose sleep condition stands goes to sleep. -/
def Dev.sleepEnter (d : Dev) (x : LaneDir) : Dev :=
  if d.dirHere x && d.sleepCond x && !d.asleep x then
    (((d.sleepCut x).putAll (asleepFlds x) 1).putAll (readyFlds x) 0).putAll (cdrFlds x) 0
  else d

/-- QUEUED shows the queue. -/
def Dev.setWake (d : Dev) (w : WakeSt) : Dev := { d with wake := w }.put Reg.PWR_WAKE_STAT.QUEUED w.queue.length

/-- A request takes its place: behind those of earlier CK_CREMA cycles, and among those of this one in the order of source
numbers (R399). -/
def wakeInsert (s : Nat) (q : List (Nat × Nat)) : List (Nat × Nat) :=
  let now := q.filter (fun e => e.2 == 0)
  q.filter (fun e => e.2 != 0) ++ now.filter (fun e => decide (e.1 < s)) ++ [(s, 0)] ++ now.filter (fun e => decide (s < e.1))

/-- A request joins the queue unless its source has one there already, or wakes by one that was granted (R399). -/
def Dev.wakeAsk (d : Dev) (s : Nat) : Dev :=
  if d.wake.queue.any (fun e => e.1 == s) || d.wake.granted.contains s then d
  else d.setWake { d.wake with queue := wakeInsert s d.wake.queue }

/-- SIGNAL follows the swing detector; its energy wakes a receiver that sleeps for the partner's low-power idle (R267,
R279). -/
def Dev.signal (d : Dev) (x : SerLane) (on : Bool) : Dev :=
  if d.laneHere x then
    let d1 := d.put (laneFld Reg.SL_STAT.SIGNAL Reg.RP_LANE_STAT.SIGNAL x) (bit on)
    match x with
    | .sub n => d1.iff (d1.on (Reg.SL_STAT.RX_ASLEEP n) && d1.energyWake n) (·.wakeAsk (112 + n))
    | .riser _ _ => d1
  else d

/-- A source withdraws its request. -/
def Dev.wakeDrop (d : Dev) (s : Nat) : Dev :=
  d.setWake { d.wake with queue := d.wake.queue.filter (fun e => e.1 != s), granted := d.wake.granted.filter (· != s) }

/-- A source asks to be woken: a direction asleep whose condition has ended, a slice that stands still with its gate
open. -/
def Dev.wakeRequest (d : Dev) (x : WakeSrc) : Dev :=
  match x with
  | .lane l => if d.dirHere l && d.asleep l && d.wakeCond l then d.wakeAsk x.num else d
  | .slice k => if bitOf d.wake.off k && !bitOf (d.fld Reg.PWR_GATE.SLICE) k then d.wakeAsk x.num else d
  | .dram _ => d

/-- Kind of a source (R400). -/
def wakeKind (s : Nat) : Nat :=
  if s < 112 then 0 else if s < 224 then 1 else if s < 228 then 2 else if s < 232 then 3 else if s < 236 then 4 else 5

/-- Level of bucket b in 1/25 mA, and its depth. -/
def WakeSt.level (w : WakeSt) (b : Nat) : Nat := if b = 0 then w.core else if b = 1 then w.sl else if b = 2 then w.slh else w.ddr
def WakeSt.setLevel (w : WakeSt) (b v : Nat) : WakeSt :=
  if b = 0 then { w with core := v } else if b = 1 then { w with sl := v } else if b = 2 then { w with slh := v } else { w with ddr := v }
def Dev.wakeDepth (d : Dev) (b : Nat) : Nat := 25 * d.fld (Reg.PWR_WAKE_BKT.DEPTH b)

/-- Charge of a source on bucket b; a step larger than DEPTH is charged as DEPTH. -/
def Dev.wakeStep (d : Dev) (s b : Nat) : Nat :=
  let k := wakeKind s
  let first := if k < 4 then 1 else if k = 4 then 0 else 3
  let a := if b = first then d.fld (Reg.PWR_WAKE_STEP.STEP_A k) else 0
  let c := if b = 2 ∧ k < 4 then d.fld (Reg.PWR_WAKE_STEP.STEP_B k) else 0
  min (d.wakeDepth b) (25 * (a + c))

/-- Grants from the head of the queue until one cannot be covered. -/
def Dev.wakeServe (d : Dev) : Nat → Dev
  | 0 => d
  | fuel + 1 =>
    match d.wake.queue with
    | [] => d
    | (s, age) :: r =>
      let w := d.wake
      if (List.range 4).all (fun b => decide (d.wakeStep s b ≤ w.level b)) then
        let w1 := (List.range 4).foldl (fun w b => w.setLevel b (w.level b - d.wakeStep s b)) w
        let d1 := d.setWake { w1 with queue := r, granted := w1.granted ++ [s] }
        let d2 := d1.put Reg.PWR_WAKE_STAT.MAX_DELAY (min 65535 (max age (d1.fld Reg.PWR_WAKE_STAT.MAX_DELAY)))
        Dev.wakeServe (d2.iff (decide (500 < age)) (·.ev Reg.PWR_EVT.WAKE_LATE)) fuel
      else d

/-- The sequencer is in ON. Right after reset SEQ reads 0 while the rails are good: it is then ON too. -/
def Dev.powerOn (d : Dev) : Bool :=
  let s := d.fld Reg.PWR_STAT.SEQ
  s == 2 || (s == 0 && !d.held.rails)

/-- One CK_CREMA cycle of the arbiter (R400): buckets gain, requests are granted in order, those left age. -/
def Dev.wakeCycle (d : Dev) : Dev :=
  let w := (List.range 4).foldl (fun (w : WakeSt) b =>
    w.setLevel b (min (d.wakeDepth b) (w.level b + d.fld (Reg.PWR_WAKE_BKT.RATE b)))) d.wake
  let d1 := { d with wake := w }
  let d2 := if d1.powerOn then d1.wakeServe w.queue.length else d1
  { d2 with wake := { d2.wake with queue := d2.wake.queue.map (fun e => (e.1, e.2 + 1)) } }

/-- A lane that is ready to send again sends what it has to: a pattern, the control frames that fell due meanwhile, a riser
port's pages or training words (R237, R275, R276, R280, R283). -/
def Dev.readyCtl (d : Dev) : LaneDir → Dev
  | .subTx n => (d.patSend (.sub n)).each (List.range 4) (fun d j => d.nextCtl (4 * n + j))
  | .riserTx p =>
    (((d.patSend (.riser p 0)).patSend (.riser p 1)).sendPage p).iff (d.phyState p == phTrain) (·.trainSend p)
  | _ => d

/-- The wake time after a grant ends (R280, R401). -/
def Dev.wakeDone (d : Dev) (x : WakeSrc) : Dev :=
  if x.num ∈ d.wake.granted then
    let d1 := { d with wake := { d.wake with granted := d.wake.granted.filter (· != x.num) } }
    match x with
    | .lane l => if d1.dirHere l then ((d1.putAll (asleepFlds l) 0).putAll (readyFlds l) 1).readyCtl l else d1
    | .slice k => if bitOf (d1.fld Reg.PWR_GATE.SLICE) k then d1 else { d1 with wake := { d1.wake with off := setBit d1.wake.off k false } }
    | .dram _ => d1
  else d

/-- A write of PWR.GATE (R401). -/
def Dev.gateWrite (d : Dev) (v : Nat) : Dev :=
  let was := d.fld Reg.PWR_GATE.SLICE
  let d1 := d.put Reg.PWR_GATE.SLICE v
  d1.each (List.range 4) (fun d k =>
    if bitOf v k then ({ d with wake := { d.wake with off := setBit d.wake.off k true } }).wakeDrop (232 + k)
    else d.iff (bitOf was k) (·.wakeAsk (232 + k)))

end Sys2Proof.Machine
end

