-- ==== Sys2Proof/Machine/Riser.lean ====
section
/-!
DEFINITION. Riser links and the hierarchy (spec/11): wagons sent and received with their credits, counters and frames,
the management records and their routing, probes, remote access (the register access itself is in Remote.lean), time
transfer, pairs, global operations and the snapshot.
-/
namespace Sys2Proof.Machine

/-! ### State and small facts -/

def Dev.rlink (d : Dev) (p : Nat) : RLink := Tbl.get d.rlinks p {}
def Dev.setRlink (d : Dev) (p : Nat) (x : RLink) : Dev := { d with rlinks := Tbl.set d.rlinks p x }
def Dev.setHier (d : Dev) (x : Hier) : Dev := { d with hier := x }

/-- Counters of R323. -/
def Dev.linkCnt (d : Dev) (p c : Nat) : Dev := d.bump (Reg.RP_LINK_CNT.COUNT p c)
/-- Counters of the riser cipher: 2 TAG_FAIL, 3 REPLAY, 4 KEY_MISS, 5 TX_REFUSED, 7 FRAMES_FAILED. -/
def Dev.rsrCnt (d : Dev) (p c : Nat) : Dev := d.bump (Reg.CPH_RSR_CNT.COUNT p c)

/-- The link layer of port p runs. -/
def Dev.linkRuns (d : Dev) (p : Nat) : Bool := d.rpUp p && d.phyState p == phUp && d.on (Reg.RP_LINK_CTRL.EN p)
def Dev.aligned (d : Dev) (p : Nat) : Bool := d.linkRuns p && d.on (Reg.RP_LINK_STAT.ALIGNED p)

/-- ADDR_VALID (R287): a manager holds address 0. -/
def Dev.addrValid (d : Dev) : Bool := !d.worker || d.on Reg.RP_HIER_STAT.ADDR_VALID

/-- Data and management wagons that may be sent (R295). -/
def RLink.dcredit (l : RLink) : Nat :=
  let k := (l.cumD + (65536 - l.sentD % 65536)) % 65536
  if k ≤ 32767 then k else 0
def RLink.mcredit (l : RLink) : Nat :=
  let k := (l.cumM + (256 - l.sentM % 256)) % 256
  if k ≤ 127 then k else 0

/-- Stamps at a wagon's start (R249, R250). -/
def Dev.wagonTx (d : Dev) (p : Nat) (st : Strobe) : Stamp :=
  d.stampTx st (3500 * psU) (d.fld (Reg.RP_PHY_LAT.TX_LAT p) * 100 * psU) (riserUi (d.fld (Reg.RP_PHY_STAT.RATE p))) (448 + p)
def Dev.wagonRx (d : Dev) (p : Nat) (st : Strobe) : Stamp :=
  d.stampRx st (3500 * psU) (d.fld (Reg.RP_PHY_LAT.RX_LAT p) * 100 * psU) (riserUi (d.fld (Reg.RP_PHY_STAT.RATE p))) (448 + p)

/-! ### Records (R303, R304) -/

/-- The sixteen bytes of a record. -/
def Rec.bytes (r : Rec) : List Byte :=
  [BitVec.ofNat 8 (r.typ * 16), BitVec.ofNat 8 (r.dst * 8 + bit r.loc), BitVec.ofNat 8 (r.src * 8), BitVec.ofNat 8 r.tag] ++
    padTo 12 (r.body.take 12)

/-- The record in sixteen bytes. -/
def recOf (b : List Byte) : Rec :=
  { typ := byteAt b 0 / 16, dst := byteAt b 1 / 8, loc := byteAt b 1 % 2 == 1, src := byteAt b 2 / 8, tag := byteAt b 3,
    body := (b.drop 4).take 12 }

/-- Body field at record bytes `i` to `i + n - 1`. -/
def Rec.at_ (r : Rec) (i n : Nat) : Nat := beAt r.body (i - 4) n

/-- The ten bytes of a stamp, and its time and epoch back. -/
def stampBytes (s : Stamp) : List Byte :=
  beBytes (secOf s.time % 2 ^ 32) 4 ++ beBytes (s.epoch % 4 * 2 ^ 30 + nsOf s.time) 4 ++ beBytes (fracOf s.time) 2
def Dev.stampAt (d : Dev) (r : Rec) : Int := d.nearTime (r.at_ 6 4) (r.at_ 10 4 % 2 ^ 30) + fracTime (r.at_ 14 2)

/-- A record of this device. -/
def Dev.mkRec (d : Dev) (typ dst : Nat) (loc : Bool) (tag : Nat) (body : List Byte) : Rec :=
  { typ := typ, dst := dst, loc := loc, src := d.devAddr, tag := tag, body := body }

/-- A record waits for a management wagon of port p; SYNC and DREQ go first (R294). -/
def Dev.queueRec (d : Dev) (p : Nat) (r : Rec) : Dev :=
  let l := d.rlink p
  if r.typ = 8 ∨ r.typ = 10 then d.setRlink p { l with urgent := l.urgent ++ [r] }
  else d.setRlink p { l with recs := l.recs ++ [r] }

/-- A record to be handled by this device. -/
def Dev.loopRec (d : Dev) (p : Nat) (r : Rec) (s : Stamp) : Dev := d.setHier { d.hier with loop := d.hier.loop ++ [(p, r, s)] }

/-- NO_ROUTE is counted at the port of arrival, or at RP0 for a record of the device's own. -/
def Dev.noRoute (d : Dev) (p : Nat) : Dev := d.linkCnt (if p < 4 then p else 0) 13

/-- A record goes to its destination device (R301); what the manager cannot route is dropped, a request answered with
NO_ROUTE. `p` is the port of arrival. -/
def Dev.routeRec (d : Dev) (p : Nat) (r : Rec) : Dev :=
  if r.dst = d.devAddr then d.loopRec p r {}
  else
    match d.riserToward r.dst with
    | some q => d.queueRec q r
    | none =>
      let d1 := d.noRoute p
      if r.typ = 1 ∨ r.typ = 2 then
        let back : Rec := { typ := 3, dst := r.src, src := d.devAddr, tag := r.tag,
                            body := beBytes (r.at_ 4 4) 4 ++ beBytes 0 4 ++ beBytes 1 1 }
        if r.src = d.devAddr then d1.loopRec p back {}
        else match d1.riserToward r.src with | some q => d1.queueRec q back | none => d1
      else d1

/-- The uplinks of a worker: UPLINK and its partner in a pair. -/
def Dev.isUplink (d : Dev) (q : Nat) : Bool :=
  let u := d.fld Reg.RP_HIER_STAT.UPLINK
  d.worker && d.addrValid && (q == u || (match d.pairOf u with | some (_, ab) => q == ab.1 || q == ab.2 | none => false))

/-- A broadcast leaves on every ALIGNED riser port but the port of arrival and the uplinks, on a pair's active member
only. -/
def Dev.broadcast (d : Dev) (p : Nat) (r : Rec) : Dev :=
  d.each (List.range 4) (fun d q =>
    d.iff (q != p && d.aligned q && !d.isUplink q && d.riserActive q == q) (·.queueRec q r))

/-! ### Sending wagons (R289 to R297) -/

/-- The port nodes whose frames leave on riser port p: those of both members on the active one (R313). -/
def Dev.riserNodes (d : Dev) (p : Nat) : List Nat :=
  match d.pairOf p with
  | some (k, ab) => if d.pairActive k ab = p then [448 + ab.1, 448 + ab.2] else []
  | none => [448 + p]

/-- The next frame of the port: the first of its nodes that has one. -/
def Dev.riserTake (d : Dev) : List Nat → Dev × Option (Frame × Nat)
  | [] => (d, none)
  | n :: r =>
    match d.take n (fun _ => .send) with
    | (d1, some x) => (d1, some x)
    | (d1, none) => Dev.riserTake d1 r

/-- A riser frame header (R296). -/
def riserHeader (dst src len tc colour : Nat) : List Byte :=
  let b := beBytes (0x4000 + dst % 2 ^ 14) 2 ++ beBytes (src % 2 ^ 14) 2 ++ beBytes (len % 2 ^ 14) 2 ++
    beBytes (tc % 8 * 32 + colour % 4 * 8) 1
  b ++ beBytes (crc8.sum b) 1

/-- Bytes of the frame that can go now: the FCS follows once every byte of the frame has come. -/
def TxRiser.ready (t : TxRiser) : List Byte :=
  (if t.len ≤ t.all.length then t.all ++ fcs t.all else t.all).drop t.off
def TxRiser.over (t : TxRiser) : Bool := decide (t.len + 4 ≤ t.off)

/-- Fill a payload: the frame in transmission, then headers and frames as they fit (R297); a frame that starts is stamped
with the start of its wagon (R249, R252). -/
def Dev.fillWagon (d : Dev) (p : Nat) (s : Stamp) : Nat → List Byte → Option Nat → Dev × List Byte × Option Nat
  | 0, pay, ofs => (d, pay, ofs)
  | fuel + 1, pay, ofs =>
    let l := d.rlink p
    let room := 224 - pay.length
    match l.tx with
    | some t =>
      if t.over then Dev.fillWagon (d.setRlink p { l with tx := none }) p s fuel pay ofs
      else
        let b := t.ready.take room
        if b = [] then (d, pay, ofs)
        else Dev.fillWagon (d.setRlink p { l with tx := some { t with off := t.off + b.length } }) p s fuel (pay ++ b) ofs
    | none =>
      if room < 8 then (d, pay, ofs)
      else
        match d.riserTake (d.riserNodes p) with
        | (d1, none) => (d1, pay, ofs)
        | (d1, some (f, q)) =>
          match d1.editOut f with
          | (d2, none) => Dev.fillWagon (d2.release f) p s fuel pay ofs
          | (d2, some b) =>
            let b := if f.whole then padTo 60 b else b
            let len := (f.edited b).fin
            let dst := if 65536 ≤ q ∧ f.srcKind = 1 then f.encapId else f.dest
            let h := riserHeader dst f.inPort (len + 4) f.cls f.colour
            let d3 := (d2.release f).setRlink p { d2.rlink p with
              tx := some { f := { f with pool := .none }, all := b, len := len } }
            Dev.fillWagon (d3.stamped f s) p s fuel (pay ++ h) (some (ofs.getD pay.length))

/-- A failed frame in transmission is given up: the next data wagon carries CONT_ABORT (R300). -/
def Dev.abortTx (d : Dev) (p : Nat) : Dev :=
  let l := d.rlink p
  match l.tx with
  | some t => if t.f.failed ∧ ¬ t.over then (d.setRlink p { l with tx := none, abort := true }).linkCnt p 9 else d
  | none => d

/-- The wagon of a kind (0 idle, 1 data, 2 management) with its payload: header, encipherment or CRC, trailer (R290, R291,
R149, R150). -/
def Dev.wagon (d : Dev) (p kind : Nat) (ofs : Option Nat) (abort : Bool) (pay : List Byte) : Dev :=
  let ciph := d.on (Reg.CPH_RSR_CTRL.TX_CIPHER p)
  let ph := d.fld (Reg.CPH_RSR_CTRL.TX_PHASE p)
  let slot := d.txSlot p
  let (d1, ctr) := if ciph then d.useCounter p else
    (d.setRlink p { d.rlink p with ctr := (d.rlink p).ctr + 1 }, (d.rlink p).ctr + 1)
  let l := d1.rlink p
  let lower := if d.on (Reg.RP_PHY_CTRL.UPPER p) then 0 else 1
  let h14 := beBytes (0x10 + kind * 4 + bit ciph * 2 + (if ciph then ph else 0)) 1 ++
    beBytes (d.devAddr * 8 + p * 2 + lower) 1 ++ beBytes ctr 6 ++ beBytes (512 + l.freedD) 2 ++ beBytes (16 + l.freedM) 1 ++
    beBytes (ofs.getD 0xFF) 1 ++ beBytes (bit abort * 128) 1 ++ beBytes pay.length 1
  let h := h14 ++ beBytes (crc16.sum h14) 2
  let plain := padTo 224 pay
  let iv := gcmIv d.devAddr p lower ctr
  let body := if ciph then gcmXor (d.key slot) iv plain else plain
  let trailer := if ciph then beBytes (Config.gcmTag (d.key slot) iv h body) 16
    else beBytes (crc32c.sum (h ++ body)) 4 ++ List.replicate 12 0
  ((d1.emit (.wagon p (h ++ body ++ trailer))).wagonLanes p (h ++ body ++ trailer)).linkCnt p (if kind = 1 then 0 else if kind = 2 then 1 else 2)

/-- A management wagon with these records; SYNC and DREQ are stamped at its start (R308). -/
def Dev.mgmtWagon (d : Dev) (p : Nat) (rs : List Rec) (st : Strobe) : Dev :=
  let s := d.wagonTx p st
  let d1 := d.wagon p 2 none false (rs.flatMap Rec.bytes)
  let d2 := d1.setRlink p { d1.rlink p with sentM := (d1.rlink p).sentM + 1 }
  d2.each rs (fun (d : Dev) (r : Rec) =>
    if r.typ = 8 then d.queueRec p (d.mkRec 9 0 true r.tag (beBytes (r.at_ 4 2) 2 ++ stampBytes s))
    else if r.typ = 10 then
      match d.hier.exch with
      | some e => d.setHier { d.hier with exch := some { e with t3 := some s.time } }
      | none => d
    else d)

/-- A port without a running, aligned link: with DOWN_ACT 1 it takes frames and discards them (R302). -/
def Dev.downDrop (d : Dev) (p : Nat) : Nat → Dev
  | 0 => d
  | fuel + 1 =>
    if d.aligned p || !d.rpHere p || !d.on (Reg.RP_LINK_CTRL.DOWN_ACT p) then d
    else
      match d.riserTake (d.riserNodes p) with
      | (d1, some (f, _)) => Dev.downDrop ((d1.release f).linkCnt p 11) p fuel
      | (d1, none) => d1

/-- One wagon slot (R294). -/
def Dev.wagonSend (d0 : Dev) (p : Nat) (st : Strobe) : Dev :=
  if !d0.linkRuns p || d0.on (Reg.RP_PHY_STAT.TX_ASLEEP p) then d0.downDrop p 64
  else
    let d := (d0.rsrSwitch p (d0.wagonTx p st).time).abortTx p
    if d.on (Reg.CPH_RSR_CTRL.TX_CIPHER p) && !d.txKeyOk p then d.rsrCnt p 5
    else if !d.aligned p then (d.wagon p 0 none false []).downDrop p 64
    else
      let l := d.rlink p
      let age := fun (d : Dev) (k : Nat) => d.setRlink p { d.rlink p with mgmtAge := k }
      if l.homing then
        let d1 := d.setRlink p { l with homing := false }
        age ((d1.mgmtWagon p [d1.mkRec 7 0 true 0 []] st).linkCnt p 14) (min 3 (l.mgmtAge + 1))
      else if l.urgent ≠ [] ∧ 0 < l.mcredit then
        age ((d.setRlink p { l with urgent := l.urgent.tail }).mgmtWagon p (l.urgent.take 1) st) (min 3 (l.mgmtAge + 1))
      else
        let (dd, pay, ofs) := d.fillWagon p (d.wagonTx p st) 64 [] none
        let data := decide (0 < l.dcredit) && pay != []
        if l.recs ≠ [] ∧ 0 < l.mcredit ∧ (¬ data ∨ 3 ≤ l.mgmtAge) then
          age ((d.setRlink p { l with recs := l.recs.drop 14 }).mgmtWagon p (l.recs.take 14) st) 0
        else if data then
          let abort := (dd.rlink p).abort
          let d1 := dd.wagon p 1 ofs abort pay
          age (d1.setRlink p { d1.rlink p with abort := false, sentD := l.sentD + 1 }) (min 3 (l.mgmtAge + 1))
        else age (d.wagon p 0 none false []) (min 3 (l.mgmtAge + 1))

/-! ### Receiving wagons (R292, R293, R298 to R300) -/

/-- Frames with these identities fail (R153): counted, discarded as far as they wait, stomped where a port sends them, dropped
where a host ring has them. -/
def Dev.failFids (d : Dev) (p : Nat) (fids : List Nat) : Dev :=
  let l := d.rlink p
  let live := fids.filter (fun i => l.rx.any (fun x => x.fid == i))
  let d1 := d.setRlink p { l with
    rx := l.rx.filter (fun x => x.fid ∉ fids)
    cont := match l.cont with | some c => if c ∈ fids then none else some c | none => none }
  let d2 := (d1.onFid live (fun f => { f with failed := true }) []).bumpBy (Reg.CPH_RSR_CNT.COUNT p 7) live.length
  let d3 := d2.each d2.macs (fun (d : Dev) (e : Nat × Mac) =>
    match e.2.tx with
    | some t => d.iff (t.f.fid ∈ live) (fun d => (d.stomp e.1 18).nextCtl e.1)
    | none => d)
  let hit := (d3.host.rings.filter (fun e => e.2.frames.any (fun f => f.fid ∈ live))).map (·.1)
  (d3.each hit (fun d r => d.rxRun r)).iff (hit != []) (·.hostPorts)

/-- The frame that continues from the previous data wagon fails. -/
def Dev.failCont (d : Dev) (p : Nat) : Dev :=
  match (d.rlink p).cont with
  | some i => d.failFids p [i]
  | none => d

/-- Release bytes of a frame into its input buffer, with the stamp of the wagon that carried its header (R249, R252): the frame
enters with its first 256 bytes or when it is complete, and
its last byte comes only with `done` (R299). -/
def Dev.releaseRx (d : Dev) (p : Nat) (x : RxFrame) (done : Bool) : Dev :=
  let lim := if done then x.len - 4 else min x.data.length (x.len - 5)
  let keep := fun (d : Dev) => d.setRlink p { d.rlink p with
    rx := (d.rlink p).rx.map (fun y => if y.fid = x.fid then { y with out := lim } else y) }
  if x.out = 0 then
    if done ∨ 256 ≤ lim then
      keep (d.arrive {
        data := x.data.take lim, srcKind := 1, inPort := x.src, encapId := x.dst, encapCh := p, localIn := 448 + p, stamp := x.stamp
        slice := p, hdrTc := some x.tc, hdrColour := some x.colour, fid := x.fid, total := x.len })
    else d
  else
    let more := (x.data.take lim).drop x.out
    keep (d.onFid [x.fid] (fun f => { f with data := f.data ++ more }) more)

/-- What a payload holds: the frames in reception after it, the one that continues, those with a byte in it and those
that end in it, the next identity, and whether a header was bad (R300). -/
structure Unpacked where
  rx : List RxFrame
  cont : Option Nat
  fids : List Nat
  ends : List Nat
  next : Nat
  bad : Bool
  deriving DecidableEq, Repr

/-- The frames that start from payload byte `pos` on, in a wagon stamped `st`. -/
def unpackFrom (pay : List Byte) (st : Stamp) : Nat → Nat → Unpacked → Unpacked
  | 0, _, u => u
  | fuel + 1, pos, u =>
    if pay.length ≤ pos then u
    else
      let h := (pay.drop pos).take 8
      let len := beAt h 4 2 % 2 ^ 14
      if h.length < 8 ∨ byteAt h 0 / 64 ≠ 1 ∨ crc8.sum (h.take 7) ≠ byteAt h 7 ∨ len < 64 ∨ 16000 < len then
        { u with cont := none, bad := true }
      else
        let b := (pay.drop (pos + 8)).take len
        let x : RxFrame := { fid := u.next, dst := beAt h 0 2 % 2 ^ 14, src := beAt h 2 2 % 2 ^ 14, len := len,
                             tc := byteAt h 6 / 32, colour := byteAt h 6 / 8 % 4, data := b, stamp := st }
        let whole := b.length == len
        unpackFrom pay st fuel (pos + 8 + b.length) { u with
          rx := u.rx ++ [x], cont := if whole then none else some x.fid, fids := u.fids ++ [x.fid],
          ends := if whole then u.ends ++ [x.fid] else u.ends, next := u.next + 1 }

/-- Unpack a data payload (R296, R297, R300): the continuing frame first; with none, from START_OFS. -/
def unpack (l : RLink) (next : Nat) (pay : List Byte) (start : Nat) (st : Stamp) : Unpacked :=
  let base : Unpacked := { rx := l.rx, cont := none, fids := [], ends := [], next := next, bad := false }
  match l.cont.bind (fun i => l.rx.find? (fun x => x.fid == i)) with
  | none => if start = 0xFF then base else unpackFrom pay st 32 start base
  | some x =>
    let n := min (x.len - x.data.length) pay.length
    let y := { x with data := x.data ++ pay.take n }
    let whole := y.data.length == y.len
    let u := { base with
      rx := l.rx.map (fun z => if z.fid = x.fid then y else z), cont := if whole then none else some x.fid,
      fids := if n = 0 then [] else [x.fid], ends := if whole then [x.fid] else [] }
    unpackFrom pay st 32 n u

/-- The payload of an accepted header: deciphered, unpacked and released, its verdict to come. -/
def Dev.wagonBody (d : Dev) (p : Nat) (b : List Byte) (stamp : Stamp) : Dev :=
  let h := b.take 16
  let body := (b.drop 16).take 224
  let tr := (b.drop 240).take 16
  let ctr := beAt h 2 6
  let ph := byteAt h 0 % 2
  let kind := byteAt h 0 / 4 % 4
  let used := min 224 (byteAt h 13)
  let ciph := d.on (Reg.CPH_RSR_CTRL.RX_CIPHER p)
  let key := d.key (riserSlot p 1 ph)
  let iv := gcmIv (byteAt h 1 / 8) (byteAt h 1 / 2 % 4) (byteAt h 1 % 2) ctr
  let plain := (if ciph then gcmXor key iv body else body).take used
  let ok := if ciph then Config.gcmTag key iv h body % 2 ^ 128 == beAt tr 0 16 else crc32c.sum (h ++ body) == beAt tr 0 4
  let w : WagonIn := { ok := ok, ciph := ciph, phase := ph, ctr := ctr, kind := kind, stamp := stamp }
  let push := fun (d : Dev) (w : WagonIn) => d.setRlink p { d.rlink p with waits := (d.rlink p).waits ++ [w] }
  if kind = 2 then
    push d { w with recs := (List.range (used / 16)).map (fun i => recOf ((plain.drop (16 * i)).take 16)) }
  else if kind = 1 then
    let d1 := if byteAt h 12 / 128 = 1 then
      (match (d.rlink p).cont with | some _ => (d.failCont p).linkCnt p 10 | none => d) else d
    let u := unpack (d1.rlink p) d1.hier.nextFid plain (byteAt h 11) stamp
    let d2 := (d1.setRlink p { d1.rlink p with rx := u.rx, cont := u.cont }).setHier { d1.hier with nextFid := u.next }
    let d3 := d2.iff u.bad (·.linkCnt p 8)
    let d4 := d3.each (u.rx.filter (fun x => x.fid ∈ u.fids)) (fun (d : Dev) (x : RxFrame) => d.releaseRx p x false)
    push d4 { w with
      fids := u.fids, ends := u.ends
      upto := (u.rx.filter (fun x => x.fid ∈ u.fids)).map (fun x => (x.fid, min x.data.length (x.len - 4))) }
  else push d w

/-- The counter of an accepted header (R293): a gap counts the wagons missing and fails the continuing frame. -/
def Dev.wagonCounter (d : Dev) (p ph ctr : Nat) : Dev :=
  let l := d.rlink p
  let d1 := match l.prev with
    | some (ph0, c0) =>
      if ph0 = ph ∧ ctr ≠ (c0 + 1) % 2 ^ 48 then
        (d.bumpBy (Reg.RP_LINK_CNT.COUNT p 7) ((ctr + 2 ^ 48 - (c0 + 1)) % 2 ^ 48)).failCont p
      else d
    | none => d
  d1.setRlink p { d1.rlink p with prev := some (ph, ctr) }

/-- A wagon of this kind has been dealt with: its credit returns (R295). -/
def Dev.freeWagon (d : Dev) (p kind : Nat) : Dev :=
  let l := d.rlink p
  d.setRlink p { l with freedD := l.freedD + bit (kind == 1), freedM := l.freedM + bit (kind == 2) }

/-- A data wagon past its verdict holds bytes of a frame that have neither entered the input buffer nor been discarded. -/
def RLink.holds (l : RLink) (w : List (Nat × Nat)) : Bool :=
  w.any (fun e => l.rx.any (fun x => x.fid == e.1 && decide (x.out < e.2)))

/-- The data wagons past their verdict whose every frame byte has gone on are freed (R295). -/
def Dev.freeKept (d : Dev) (p : Nat) : Dev :=
  let l := d.rlink p
  let stay := l.kept.filter l.holds
  d.setRlink p { l with kept := stay, freedD := l.freedD + (l.kept.length - stay.length) }

/-- A wagon whose header passed and whose link is aligned. -/
def Dev.wagonTake (d : Dev) (p : Nat) (b : List Byte) (st : Strobe) : Dev :=
  let ph := byteAt b 0 % 2
  let ctr := beAt b 2 6
  let l := d.rlink p
  let d1 := d.setRlink p { l with bad := 0, cumD := beAt b 8 2, cumM := byteAt b 10 }
  if d.on (Reg.CPH_RSR_CTRL.RX_CIPHER p) then
    let kind := byteAt b 0 / 4 % 4
    if d.slotState (riserSlot p 1 ph) ≠ slotValid then (d1.rsrCnt p 4).freeWagon p kind
    else if ctr ≤ d.slotCtr (riserSlot p 1 ph) then ((d1.rsrCnt p 3).ev Reg.CPH_EVT.REPLAY).freeWagon p kind
    else (d1.wagonCounter p ph ctr).wagonBody p b (d.wagonRx p st)
  else (d1.wagonCounter p ph ctr).wagonBody p b (d.wagonRx p st)

/-- A wagon's bytes arrive (R292): hunt and alignment, the header check, loss of alignment. `stuff` counts stuffed bits that
equalled their run (R273). -/
def Dev.wagonRxd (d0 : Dev) (p : Nat) (b : List Byte) (st : Strobe) (stuff : Nat) : Dev :=
  if !d0.rpUp p then d0
  else
    let d := d0.iff (stuff != 0) (fun d => (d.bumpBy (Reg.RP_PHY_CNT.COUNT p 2) stuff).ev (Reg.RP_PHY_EVT.STUFF_ERR p))
    if !d.linkRuns p then d
    else
      let l := d.rlink p
      let pass := b.length == 256 && crc16.sum (b.take 14) == beAt b 14 2
      let peer := fun (d : Dev) => d.put (Reg.RP_LINK_STAT.PEER_DEV p) (byteAt b 1 / 8)
      if d.aligned p then
        if pass then (peer d).wagonTake p b st
        else
          let d1 := ((d.linkCnt p 5).failCont p)
          let d2 := d1.setRlink p { d1.rlink p with bad := l.bad + 1 }
          if max 1 (d.fld (Reg.RP_LINK_CTRL.LOSS_N p)) ≤ l.bad + 1 then
            ((d2.put (Reg.RP_LINK_STAT.ALIGNED p) 0).ev (Reg.RP_LINK_EVT.ALIGN_LOSS p)).phyRestart p
          else d2
      else if pass then
        let d1 := (peer d).setRlink p { l with run := l.run + 1 }
        if max 1 (d.fld (Reg.RP_LINK_CTRL.ALIGN_N p)) ≤ l.run + 1 then
          (((d1.put (Reg.RP_LINK_STAT.ALIGNED p) 1).ev (Reg.RP_LINK_EVT.ALIGN_GAIN p)).setRlink p
            { d1.rlink p with run := 0, bad := 0 }).wagonTake p b st
        else d1
      else d.setRlink p { l with run := 0 }

/-- The bits of a wagon arrive on the data lanes (R272, R273, R289), which a sleeping receiver does not take. -/
def Dev.laneRx (d : Dev) (p : Nat) (l0 l1 : List Bool) (st : Strobe) : Dev :=
  if d.rpUp p && !d.on (Reg.RP_PHY_STAT.RX_ASLEEP p) then
    let r := d.laneRecv p l0 l1
    (r.1.wagonRxd p r.2.1 st r.2.2).freeKept p
  else d

/-- An enciphered wagon whose tag passes is accepted only while its slot is still VALID and its counter still above the
record: a wagon accepted before it may have ended its key phase or taken its counter (R151, R152). Answers the counter of
what discards it. -/
def Dev.wagonStale (d : Dev) (p : Nat) (w : WagonIn) : Option Nat :=
  if !w.ciph then none
  else if d.slotState (riserSlot p 1 w.phase) ≠ slotValid then some 4
  else if w.ctr ≤ d.slotCtr (riserSlot p 1 w.phase) then some 3
  else none

/-- The verdict of the oldest wagon that waits for one (R137, R153, R291, R299): its frames are completed or fail, its
records are handed on to be handled. -/
def Dev.wagonVerdict (d : Dev) (p : Nat) : Dev :=
  let l := d.rlink p
  match l.waits with
  | [] => d
  | w :: r =>
    let d1 := if w.kind = 1 then d.setRlink p { l with waits := r, kept := l.kept ++ [w.upto] }
      else (d.setRlink p { l with waits := r }).freeWagon p w.kind
    Dev.freeKept (p := p) <| if w.ok then
      match d1.wagonStale p w with
      | some c => ((d1.rsrCnt p c).iff (c == 3) (·.ev Reg.CPH_EVT.REPLAY)).failFids p w.fids
      | none =>
        let d2 := d1.iff w.ciph (·.rxAccept p w.phase w.ctr)
        if w.kind = 2 then d2.linkCnt p 4 |>.each w.recs (fun (d : Dev) (x : Rec) => d.loopRec p x w.stamp)
        else
          let d3 := d2.iff (w.kind == 1) (·.linkCnt p 3)
          d3.each w.ends (fun (d : Dev) (i : Nat) =>
            match (d.rlink p).rx.find? (fun x => x.fid == i) with
            | none => d
            | some x =>
              let d4 := d.releaseRx p x true
              d4.setRlink p { d4.rlink p with rx := (d4.rlink p).rx.filter (fun y => y.fid != i) })
    else
      (if w.ciph then d1.rsrCnt p 2 else d1.linkCnt p 6).ev Reg.CPH_EVT.TAG_FAIL |>.failFids p w.fids

/-! ### Probes (R307) -/

def prAccepted : Nat := 0
def prAlready : Nat := 1
def prTimeout : Nat := 2
def prOtherUpper : Nat := 3
def prNotUpper : Nat := 4
def prTooDeep : Nat := 5
def prBadAddr : Nat := 6
def prLinkDown : Nat := 7

/-- The probe ends with a status. -/
def Dev.probeEnd (d : Dev) (st : Nat) : Dev :=
  let d1 := d.setHier { d.hier with probe := none }
  ((d1.put Reg.RP_PROBE_STAT.STATUS st).put Reg.RP_PROBE_STAT.BUSY 0).ev Reg.RP_HIER_EVT.PROBE_DONE

/-- GO of PROBE_CMD with its port and address. -/
def Dev.probeGo (d : Dev) (port addr : Nat) : Dev :=
  if d.on Reg.RP_PROBE_STAT.BUSY then d
  else if 2 ≤ d.fld Reg.RP_HIER_STAT.DEPTH then d.probeEnd prTooDeep
  else if addr = 0 ∨ addr = 31 then d.probeEnd prBadAddr
  else if !d.aligned port then d.probeEnd prLinkDown
  else if !d.on (Reg.RP_PHY_CTRL.UPPER port) || d.on (Reg.RP_PHY_STAT.PEER_UPPER port) then d.probeEnd prNotUpper
  else
    let d1 := (d.put Reg.RP_PROBE_STAT.BUSY 1).setHier { d.hier with probe := some port }
    d1.queueRec port (d.mkRec 5 0 true 0 (beBytes addr 1 ++ beBytes (d.fld Reg.RP_HIER_STAT.DEPTH) 1))

/-- A PROBE arrives on port p. -/
def Dev.probe (d : Dev) (p : Nat) (r : Rec) : Dev :=
  let reply := fun (d : Dev) (st : Nat) =>
    d.queueRec p (d.mkRec 6 0 true r.tag (beBytes st 1 ++ beBytes d.devAddr 1 ++ beBytes d.chip.part 2 ++ beBytes d.chip.serial 8))
  if d.on (Reg.RP_PHY_CTRL.UPPER p) then reply d prNotUpper
  else if d.addrValid then
    reply d (if d.worker ∧ d.fld Reg.RP_HIER_STAT.UPPER_DEV = r.src then prAlready else prOtherUpper)
  else
    let d1 := ((d.put Reg.RP_HIER_STAT.ADDR (r.at_ 4 1 % 32)).put Reg.RP_HIER_STAT.ADDR_VALID 1).put
      Reg.RP_HIER_STAT.DEPTH (r.at_ 5 1 % 4 + 1)
    reply (((d1.put Reg.RP_HIER_STAT.UPLINK p).put Reg.RP_HIER_STAT.UPPER_DEV r.src).ev Reg.RP_HIER_EVT.PROBED) prAccepted

/-- A PROBE_REPLY arrives. -/
def Dev.probeReply (d : Dev) (p : Nat) (r : Rec) : Dev :=
  if d.hier.probe = some p then
    let d1 := ((d.put Reg.RP_PROBE_STAT.PEER_ADDR (r.at_ 5 1)).put Reg.RP_PROBE_STAT.PEER_PART (r.at_ 6 2)).putWide
      Reg.RP_PROBE_SERIAL_LO.SERIAL Reg.RP_PROBE_SERIAL_HI.SERIAL (r.at_ 8 8)
    d1.probeEnd (r.at_ 4 1 % 8)
  else d

def Dev.probeTimeout (d : Dev) : Dev := if d.hier.probe.isSome then d.probeEnd prTimeout else d

/-! ### Remote access (R305) -/

/-- A slot completes. -/
def Dev.raccEnd (d : Dev) (k st : Nat) : Dev :=
  let d1 := d.setHier { d.hier with tags := Tbl.del d.hier.tags k }
  ((d1.put (Reg.RP_RACC_STAT.STATUS k) st).put (Reg.RP_RACC_STAT.BUSY k) 0).ev Reg.RP_HIER_EVT.RACC_DONE

/-- A write of RACC_CMD: OP and DEV, and with GO the request. -/
def Dev.raccCmd (d0 : Dev) (k v : Nat) : Dev :=
  let d := (d0.put (Reg.RP_RACC_CMD.OP k) v).put (Reg.RP_RACC_CMD.DEV k) (bits v 1 5)
  if !bitOf v 6 then d
  else if d.on (Reg.RP_RACC_STAT.BUSY k) then d
  else if !d.addrValid then d.raccEnd k 3
  else
    let t := d.hier.nextTag
    let d1 := (d.setHier { d.hier with tags := Tbl.set d.hier.tags k t, wrote := Tbl.set d.hier.wrote k (bits v 0 1), nextTag := (t + 1) % 256 }).put (Reg.RP_RACC_STAT.BUSY k) 1
    let addr := beBytes (d.fld (Reg.RP_RACC_ADDR.ADDR k)) 4
    let body := if bitOf v 0 then addr ++ beBytes (d.fld (Reg.RP_RACC_DATA.DATA k)) 4 else addr
    d1.routeRec 4 (d1.mkRec (if bitOf v 0 then 2 else 1) (bits v 1 5) false t body)

/-- A RESP arrives: it answers the request that GO sent, whatever RACC_CMD holds now. -/
def Dev.resp (d : Dev) (r : Rec) : Dev :=
  match d.hier.tags.find? (fun e => e.2 == r.tag) with
  | none => d.setHier { d.hier with raccLate := d.hier.raccLate + 1 }
  | some (k, _) =>
    let d1 := d.iff (Tbl.get d.hier.wrote k 0 == 0 && r.at_ 12 1 == 0) (·.put (Reg.RP_RACC_DATA.DATA k) (r.at_ 8 4))
    d1.raccEnd k (r.at_ 12 1)

def Dev.raccTimeout (d : Dev) (k : Nat) : Dev := if d.on (Reg.RP_RACC_STAT.BUSY k) then d.raccEnd k 2 else d

/-! ### Events (R306) -/

/-- A worker sends its summary to the manager. -/
def Dev.sendEvent (d : Dev) (summary : Nat) : Dev :=
  if d.worker && d.addrValid then d.routeRec 4 (d.mkRec 4 0 false 0 (beBytes summary 2)) else d

/-- An EVENT arrives at the manager. -/
def Dev.eventRx (d : Dev) (r : Rec) : Dev :=
  if d.worker then d
  else (d.put (Reg.RP_DEV_EVT.SUMMARY r.src) (d.fld (Reg.RP_DEV_EVT.SUMMARY r.src) ||| r.at_ 4 2)).ev Reg.RP_HIER_EVT.DEV_EVENT

def Dev.eventRepeat (d : Dev) : Dev := if d.hier.summary ≠ 0 then d.sendEvent d.hier.summary else d

/-! ### Time transfer (R308, R309) -/

/-- The upper device's timer: SYNC on every port with XFER_EN. -/
def Dev.xferTimer (d : Dev) : Dev :=
  d.each (List.range 4) (fun d p =>
    if d.aligned p && d.on (Reg.RP_LINK_CTRL.XFER_EN p) then
      (d.queueRec p (d.mkRec 8 0 true 0 (beBytes d.hier.syncSeq 2))).setHier { d.hier with syncSeq := (d.hier.syncSeq + 1) % 65536 }
    else d)

/-- SYNC arrives, stamped t2. -/
def Dev.syncRx (d : Dev) (p : Nat) (r : Rec) (s : Stamp) : Dev :=
  if d.worker && d.src == 2 && d.riserActive (d.fld Reg.RP_HIER_STAT.UPLINK) == p then
    d.setHier { d.hier with exch := some { port := p, seq := r.at_ 4 2, t2 := s.time } }
  else d

/-- The epoch of a FOLLOW on the active uplink (R308). -/
def Dev.upperEpoch (d : Dev) (p ep : Nat) : Dev :=
  if d.worker && d.riserActive (d.fld Reg.RP_HIER_STAT.UPLINK) == p && ep != d.fld Reg.RP_HIER_STAT.UPPER_EPOCH then
    (d.put Reg.RP_HIER_STAT.UPPER_EPOCH ep).ev Reg.RP_HIER_EVT.UPPER_STEPPED
  else d

/-- FOLLOW arrives with t1: the upper device's epoch; and DREQ goes for the exchange in progress. -/
def Dev.followRx (d0 : Dev) (p : Nat) (r : Rec) : Dev :=
  let d := d0.upperEpoch p (r.at_ 10 4 / 2 ^ 30)
  match d.hier.exch with
  | some e =>
    if e.port = p ∧ e.seq = r.at_ 4 2 ∧ e.t1 = none then
      let d1 := d.setHier { d.hier with exch := some { e with t1 := some (d.stampAt r) } }
      d1.queueRec p (d1.mkRec 10 0 true 0 (beBytes e.seq 2))
    else d
  | none => d

/-- DREQ arrives, stamped t4: DRESP returns it. -/
def Dev.dreqRx (d : Dev) (p : Nat) (r : Rec) (s : Stamp) : Dev :=
  if d.on (Reg.RP_LINK_CTRL.XFER_EN p) then d.queueRec p (d.mkRec 11 0 true r.tag (beBytes (r.at_ 4 2) 2 ++ stampBytes s))
  else d

/-- DRESP arrives: the error of R309 goes to the time base as an evaluated sample. -/
def Dev.drespRx (d : Dev) (p : Nat) (r : Rec) : Dev :=
  match d.hier.exch with
  | some e =>
    match e.t1, e.t3 with
    | some t1, some t3 =>
      if e.port = p ∧ e.seq = r.at_ 4 2 then
        let dly := ((e.t2 - t1) + (d.stampAt r - t3)) / 2
        let err := t1 + dly + signed 32 (d.fld (Reg.RP_XFER_ASYM.ASYM_PS p)) * psU - e.t2
        ((d.setHier { d.hier with exch := none }).sampleFrom 2 err).iff (d.src == 2) (·.ev Reg.TIM_EVT.TOD_DONE)
      else d
    | _, _ => d
  | none => d

/-- An exchange not complete within 1 ms of t2 (R308). -/
def Dev.exchTimeout (d : Dev) : Dev :=
  if d.hier.exch.isSome then (d.setHier { d.hier with exch := none }).bump (Reg.TIM_CNT.COUNT 2) else d

/-! ### Pairs (R311 to R314) -/

/-- Everything that names either member of a pair travels on `new` from here on: the frame in transmission on `old` is lost
(SWITCH_DROP), and records that wait leave on `new`, LOCAL ones apart (R313). A wagon is built in the slot in which it is sent,
so that the old member holds no other. -/
def Dev.pairMove (d : Dev) (old new : Nat) : Dev :=
  let l := d.rlink old
  let d1 := match l.tx with
    | some t => if t.over then d else (d.setRlink old { l with tx := none, abort := true }).linkCnt old 12
    | none => d
  let moved := (d1.rlink old).recs.filter (fun r => !r.loc)
  (d1.setRlink old { d1.rlink old with recs := (d1.rlink old).recs.filter (·.loc) }).setRlink new
    { d1.rlink new with recs := (d1.rlink new).recs ++ moved }

/-- Pair k goes to its other member. -/
def Dev.pairTo (d : Dev) (k : Nat) (ab : Nat × Nat) (homing : Bool) : Dev :=
  let old := d.pairActive k ab
  let new := if old = ab.1 then ab.2 else ab.1
  let dm := d.pairMove old new
  let d2 := (dm.put (pairAct k) (1 - d.fld (pairAct k))).ev Reg.RP_HIER_EVT.PAIR_SWITCH
  let up := d.worker && d.fld Reg.RP_HIER_STAT.UPLINK == old
  let d3 := d2.iff up (·.put Reg.RP_HIER_STAT.UPLINK new)
  let d4 := d3.iff homing (fun d => d.setRlink new { d.rlink new with homing := true })
  let d5 := if up && d.on Reg.RP_HIER_CTRL.TREF_FOLLOW && d.pllRef == 1 then
    { d4.clockBuildOut with tim := { d4.clockBuildOut.tim with resume := true } } else d4
  d5.pllEval

/-- The condition of R312, looked at in a CK_CORE cycle. -/
def Dev.pairSwitch (d : Dev) (k : Nat) : Dev :=
  match d.pair k with
  | some ab =>
    let old := d.pairActive k ab
    let new := if old = ab.1 then ab.2 else ab.1
    if !d.aligned old && d.aligned new then d.pairTo k ab true else d
  | none => d

/-- HOMING arrives on port p. -/
def Dev.homingRx (d : Dev) (p : Nat) : Dev :=
  let d1 := d.ev (Reg.RP_LINK_EVT.HOMING_RX p)
  match d.pairOf p with
  | some (k, ab) => if d.pairActive k ab = p then d1 else d1.pairTo k ab false
  | none => d1

/-- Pair k has been enabled: it starts on member A, which takes what member B was to send (R311, R313;
notes/assumptions/33.md). -/
def Dev.pairOn (d : Dev) (k : Nat) : Dev :=
  let d1 := d.put (pairAct k) 0
  match d1.pair k with
  | some ab => d1.pairMove ab.2 ab.1
  | none => d1

/-- A write of HIER_CTRL: a pair that is enabled starts on member A, and UPLINK shows the active member of a worker's pair
(R311, R313). -/
def Dev.hierCtrl (d : Dev) (v : Nat) : Dev :=
  let e0 := d.on Reg.RP_HIER_CTRL.PAIR0_EN
  let e1 := d.on Reg.RP_HIER_CTRL.PAIR1_EN
  let d1 := (((d.put Reg.RP_HIER_CTRL.TREF_FOLLOW v).put Reg.RP_HIER_CTRL.PAIR0_EN (bits v 1 1)).put
    Reg.RP_HIER_CTRL.PAIR0_A (bits v 2 2)).put Reg.RP_HIER_CTRL.PAIR0_B (bits v 4 2)
  let d2 := ((d1.put Reg.RP_HIER_CTRL.PAIR1_EN (bits v 6 1)).put Reg.RP_HIER_CTRL.PAIR1_A (bits v 7 2)).put
    Reg.RP_HIER_CTRL.PAIR1_B (bits v 9 2)
  let d3 := ((d2.put Reg.RP_HIER_CTRL.XFER_INT (bits v 11 4)).put Reg.RP_HIER_CTRL.RACC_TIMEOUT (bits v 15 8)).put
    Reg.RP_HIER_CTRL.EVT_REPEAT (bits v 23 4)
  let d4 := d3.iff (bitOf v 1 && !e0) (·.pairOn 0)
  let d5 := d4.iff (bitOf v 6 && !e1) (·.pairOn 1)
  (d5.iff d5.worker (fun d => d.put Reg.RP_HIER_STAT.UPLINK (d.riserActive (d.fld Reg.RP_HIER_STAT.UPLINK)))).pllEval

/-- EN of port p goes to 0 with STATE as it is: alignment is lost and the frame that continues fails; the credits, the counter
and the wagons of this UP stay (R292, R293, R295). -/
def Dev.linkOff (d : Dev) (p : Nat) : Dev :=
  let d1 := (d.failCont p).put (Reg.RP_LINK_STAT.ALIGNED p) 0
  (d1.setRlink p { d1.rlink p with run := 0, bad := 0 }).freeKept p

/-- A write of LINK_CTRL: without EN the link layer stands still. -/
def Dev.linkCtrl (d : Dev) (p v : Nat) : Dev :=
  let was := d.on (Reg.RP_LINK_CTRL.EN p)
  let d1 := (((d.put (Reg.RP_LINK_CTRL.EN p) v).put (Reg.RP_LINK_CTRL.ALIGN_N p) (bits v 1 3)).put
    (Reg.RP_LINK_CTRL.LOSS_N p) (bits v 4 3)).put (Reg.RP_LINK_CTRL.DOWN_ACT p) (bits v 7 1)
  (d1.put (Reg.RP_LINK_CTRL.XFER_EN p) (bits v 8 1)).iff (was && !bitOf v 0) (·.linkOff p)

/-! ### Global operations (R316 to R320) -/

def gpLead : Nat := 0x21
def gpMissing : Nat := 0x22
def gpUnset : Nat := 0x23
def gpBusy : Nat := 0x24
def gpMismatch : Nat := 0x25
def gpAborted : Nat := 0x26
def gpBadOp : Nat := 0x27

def Dev.gopShow (d : Dev) (state status fail : Nat) : Dev :=
  ((d.put Reg.RP_GOP_STAT.STATE state).put Reg.RP_GOP_STAT.STATUS status).put Reg.RP_GOP_STAT.FAIL_DEV fail

/-- HOP_NS and DEPTH with their limits, and the minimum lead in ns (R320). -/
def Dev.hopNs (d : Dev) : Nat := max 1500 (d.fld Reg.RP_GOP_HOP.HOP_NS)
def Dev.gopDepth (d : Dev) : Nat := let x := d.fld Reg.RP_GOP_HOP.DEPTH; if x = 0 then 1 else if x = 3 then 2 else x
def Dev.minLead (d : Dev) : Nat := max 10000 (3 * d.gopDepth * d.hopNs + 1000)

/-- The instant that the manager's registers name. -/
def Dev.gopInstant (d : Dev) : Int := d.nearTime (d.fld Reg.RP_GOP_SEC.SEC) (min 999999999 (d.fld Reg.RP_GOP_NS.NS))

/-- The tests of R354 that a commit of this device must pass, but for those of time; a COMMIT of its own in validation is
pending (R357). -/
def Dev.gopCommit (d : Dev) : Nat :=
  if d.gen.validating then stPending
  else let t := d.commitTests; if t ≠ 0 then t else d.commitChecks

/-- The status with which the manager refuses a GO, 0 for none (R316). -/
def Dev.gopRefusal (d : Dev) : Nat :=
  if d.fld Reg.RP_GOP_CTRL.OP = 3 then gpBadOp
  else if d.gopInstant < d.time + d.minLead * nsU then gpLead
  else if d.hier.gop.isSome then gpBusy
  else if !d.on Reg.TIM_STAT.TIME_SET then gpUnset
  else if d.fld Reg.RP_GOP_CTRL.OP = 0 then d.gopCommit
  else 0

/-- Hold an operation armed; a commit arms the generation as well (R357). -/
def Dev.gopHold (d : Dev) (g : Gop) : Dev :=
  let d1 := d.setHier { d.hier with gop := some g }
  let d2 := (d1.gopShow 1 0 0).put Reg.RP_GOP_STAT.OP_ID g.id
  if g.op = 0 then d2.armCommit g.t 1 false else d2

/-- GO on the manager. -/
def Dev.gopGo (d : Dev) : Dev :=
  if d.worker then d
  else
    let st := d.gopRefusal
    if st ≠ 0 then (d.gopShow 4 st 0).ev Reg.RP_HIER_EVT.GOP_END
    else
      let id := (d.fld Reg.RP_GOP_STAT.OP_ID + 1) % 256
      let op := d.fld Reg.RP_GOP_CTRL.OP
      let gen := d.fld Reg.RP_GOP_GEN.GEN % 65536
      let d1 := (d.put Reg.RP_GOP_DONE_MASK.MASK 0).put Reg.RP_GOP_CANCEL_MASK.MASK 0
      let d2 := (d1.setHier { d1.hier with reported := 0 }).gopHold { op := op, id := id, t := d.gopInstant, gen := gen }
      d2.broadcast 4 (d2.mkRec 12 31 false 0 (beBytes (op * 64) 1 ++ beBytes id 1 ++ beBytes (d.fld Reg.RP_GOP_SEC.SEC) 4 ++
        beBytes (min 999999999 (d.fld Reg.RP_GOP_NS.NS)) 4 ++ beBytes gen 2))

/-- A report to device 0: 0 verdict, 1 end. -/
def Dev.gopReportTo (d : Dev) (kind id st : Nat) : Dev :=
  d.routeRec 4 (d.mkRec 14 0 false 0 (beBytes kind 1 ++ beBytes id 1 ++ beBytes st 1))

/-- GOP_ARM arrives at a worker: validated, held or not, and the verdict goes (R317). -/
def Dev.gopArm (d : Dev) (r : Rec) : Dev :=
  if !d.worker then d
  else
    let op := r.at_ 4 1 / 64
    let id := r.at_ 5 1
    let t := d.nearTime (r.at_ 6 4) (r.at_ 10 4)
    let gen := r.at_ 14 2
    let st :=
      if !d.on Reg.TIM_STAT.TIME_SET then gpUnset
      else if d.hier.gop.isSome then gpBusy
      else if t < d.time + 1000 * nsU then gpLead
      else if op = 0 ∧ d.fld Reg.GEN_STAGE.NUM % 65536 ≠ gen then gpMismatch
      else if op = 0 then d.gopCommit else 0
    let d1 := if st = 0 then d.gopHold { op := op, id := id, t := t, gen := gen }
      else if d.hier.gop.isSome then d
      else (d.gopShow 4 st 0).put Reg.RP_GOP_STAT.OP_ID id
    d1.gopReportTo 0 id st

/-- Disarm, with an end record of STATUS 1 (R318). -/
def Dev.gopDisarm (d : Dev) : Dev :=
  match d.hier.gop with
  | none => d
  | some g =>
    let d1 := d.setHier { d.hier with gop := none }
    (d1.iff (g.op == 0 && d.on Reg.GEN_STAT.ARM_SRC) (·.disarm)).gopReportTo 1 g.id 1

/-- The manager cancels the armed operation (R318). -/
def Dev.gopCancelAll (d : Dev) (st fail : Nat) : Dev :=
  match d.hier.gop with
  | none => d
  | some g => ((d.gopShow 2 st fail).broadcast 4 (d.mkRec 13 31 false 0 (beBytes 0 1 ++ beBytes g.id 1))).gopDisarm

/-- The cancel point: the instant less DEPTH × HOP_NS. -/
def Dev.cancelPoint (d : Dev) (g : Gop) : Int := g.t - d.gopDepth * d.hopNs * nsU

/-- ABORT, before the cancel point. -/
def Dev.gopAbort (d : Dev) : Dev :=
  match d.hier.gop with
  | some g => if !d.worker ∧ d.time < d.cancelPoint g then d.gopCancelAll gpAborted 0 else d
  | none => d

/-- A write of GOP_CTRL: OP and RESET_SELF, then ABORT and GO. -/
def Dev.gopCtrl (d : Dev) (v : Nat) : Dev :=
  let d1 := (d.put Reg.RP_GOP_CTRL.OP v).put Reg.RP_GOP_CTRL.RESET_SELF (bits v 2 1)
  (d1.iff (bitOf v 4) (·.gopAbort)).iff (bitOf v 3) (·.gopGo)

/-- The cancel point is reached: a roster device has not reported. -/
def Dev.gopPoint (d : Dev) : Dev :=
  match d.hier.gop with
  | some g =>
    let late := (List.range 31).filter (fun k => decide (1 ≤ k) && bitOf (d.fld Reg.RP_GOP_ROSTER.ROSTER) k && !bitOf d.hier.reported k)
    match late with
    | k :: _ => if !d.worker ∧ d.cancelPoint g ≤ d.time then d.gopCancelAll gpMissing k else d
    | [] => d
  | none => d

/-- GOP_CANCEL arrives. -/
def Dev.gopCancelRx (d : Dev) (r : Rec) : Dev :=
  match d.hier.gop with
  | some g => if d.worker ∧ g.id = r.at_ 5 1 then (d.gopShow 2 0 0).gopDisarm else d
  | none => d

/-- GOP_REPORT arrives at the manager. -/
def Dev.gopReport (d : Dev) (r : Rec) : Dev :=
  if d.worker ∨ r.at_ 5 1 ≠ d.fld Reg.RP_GOP_STAT.OP_ID then d
  else if r.at_ 4 1 = 0 then
    let d1 := d.setHier { d.hier with reported := setBit d.hier.reported r.src true }
    if r.at_ 6 1 = 0 then d1 else d1.gopCancelAll (r.at_ 6 1) r.src
  else if r.at_ 6 1 = 0 then
    d.put Reg.RP_GOP_DONE_MASK.MASK (setBit (d.fld Reg.RP_GOP_DONE_MASK.MASK) r.src true)
  else d.put Reg.RP_GOP_CANCEL_MASK.MASK (setBit (d.fld Reg.RP_GOP_CANCEL_MASK.MASK) r.src true)

/-- The counters of a snapshot (R319): every one that is not 0, by 32 × port + counter. -/
def Dev.snapshotOf (d : Dev) : Tbl Nat :=
  let sm := ((List.range 112).filter d.slHere).flatMap (fun n => (List.range 4).flatMap (fun j => (List.range 27).map (fun c =>
    (32 * (4 * n + j) + c, d.wide (Reg.SM_CNT_LO.COUNT n j c) (Reg.SM_CNT_HI.COUNT n j c)))))
  let rp := (List.range 4).flatMap (fun p => (List.range 15).map (fun c => (32 * (448 + p) + c, d.fld (Reg.RP_LINK_CNT.COUNT p c))))
  (sm ++ rp).filter (fun e => e.2 != 0)

/-- The snapshot of R319. -/
def Dev.takeSnapshot (d : Dev) : Dev :=
  let d1 := d.setHier { d.hier with snap := d.snapshotOf }
  ((d1.incr Reg.RP_SNAP_STAT.SEQ).put Reg.RP_SNAP_STAT.VALID 1).putWords Reg.RP_SNAP_TIME.TS d.readWords

/-- The instant of the armed operation has come (R319). Answers whether the device is to take a warm reset. -/
def Dev.gopExecute (d : Dev) : Dev × Bool :=
  match d.hier.gop with
  | none => (d, false)
  | some g =>
    if d.time < g.t then (d, false)
    else
      let d1 := d.setHier { d.hier with gop := none }
      let d2 := if g.op = 0 then d1.commitInstant 1 else if g.op = 1 then d1.takeSnapshot else d1
      let d3 := (d2.put Reg.RP_GOP_STAT.STATE 3).iff (!d.worker) (·.ev Reg.RP_HIER_EVT.GOP_END)
      if g.op = 2 then (d3, d.worker || d.on Reg.RP_GOP_CTRL.RESET_SELF)
      else (d3.gopReportTo 1 g.id 0, false)

end Sys2Proof.Machine
end

