-- ==== Sys2Proof/Machine/Reset.lean ====
section
/-!
DEFINITION. The resets of R44 to R47: cold and warm reset of the main domain, the reset of the Crema domain, the pins
that hold them, and the unit resets of CHIPCAP.BLOCK_RST.
-/
namespace Sys2Proof.Machine

/-! ### Cold and warm reset (R44) -/

/-- A register field that a cold reset keeps: the Crema domain (R385), the firmware registers of the generation block
and the reset causes. -/
def coldKeeps (k : Nat) : Bool :=
  let a := k / 32
  (decide (0x20000 ≤ a) && decide (a < 0x30000)) || a == Reg.GEN_FW_CTRL.ADR || a == Reg.GEN_FW_STAT.ADR ||
    a == Reg.CHIPCAP_RST_CAUSE.ADR

/-- The fields of a worker that a warm reset keeps (R287). -/
def workerKeeps (k : Nat) : Bool :=
  [Reg.RP_HIER_STAT.ADDR, Reg.RP_HIER_STAT.ADDR_VALID, Reg.RP_HIER_STAT.DEPTH, Reg.RP_HIER_STAT.UPLINK,
    Reg.RP_HIER_STAT.UPPER_DEV].any (fun f => f.key == k) ||
  k / 32 == Reg.RP_HIER_CTRL.ADR || (decide (Reg.RP_ROUTE.ADR 0 ≤ k / 32) && decide (k / 32 ≤ Reg.RP_ROUTE.ADR 31))

/-- A register field that a warm reset keeps beside those. -/
def warmKeeps (worker : Bool) (k : Nat) : Bool :=
  coldKeeps k || k / 32 == Reg.TIM_PLL_STAT.ADR || k / 32 == Reg.TIM_RATE.ADR || k / 32 == Reg.TIM_RATE_EFF.ADR ||
    [Reg.TIM_STAT.EPOCH, Reg.TIM_STAT.TIME_SET, Reg.TIM_STAT.SLEWING, Reg.RP_HIER_STAT.ROLE].any (fun f => f.key == k) ||
    (worker && workerKeeps k)

/-- The level of LCn_SD is a pin's and no reset changes it. -/
def keepPins (t : Tbl Line) : Tbl Line := Tbl.mapVals t (fun (x : Line) => { sd := x.sd })

/-- In a warm reset the PLL has no reference and holds over (R46, R260). -/
def Dev.pllWarm (d : Dev) : Dev :=
  let s := d.fld Reg.TIM_PLL_STAT.STATE
  (d.put Reg.TIM_PLL_STAT.STATE (if s = pllLocked then pllHold else if s = pllLocking then pllFree else s)).put
    Reg.TIM_PLL_STAT.REF_OK 0

/-- DSD of every channel as its pin gives it (R71). -/
def Dev.dsdPins (d : Dev) : Dev := d.each ((List.range 4).filter d.lnHere) (fun d n => d.dsdPin n)

/-- Everything that a cold reset returns to reset values is returned. -/
def Dev.coldClear (d0 : Dev) : Dev :=
  let d := d0.txCuts
  let d1 : Dev :=
    { chip := d.chip, held := d.held, regs := Tbl.keep d.regs coldKeeps, lines := keepPins d.lines, pwr := d.pwr
      wake := d.wake, gasp := d.gasp.map (fun _ => 0), freeCtr := d.freeCtr, out := d.out
      tru := { fuses := d.tru.fuses, shadow := d.tru.fuses, deadArb := d.tru.deadArb, deadRevoke := d.tru.deadRevoke
               trialOut := d.tru.trialOut, recPref := d.tru.recPref } }
  d1.dsdPins

/-- A controller that is READY places its memory in self-refresh before a warm reset takes effect, and reads SELF_REFRESH until
its registers reset, within the same command (R44, R384). -/
def Dev.selfRefresh (d : Dev) : Dev := d.iff (d.fld Reg.DMC_STAT.STATE == 2) (·.put Reg.DMC_STAT.STATE 4)

/-- The same for a warm reset; the time base is kept with its rate, and the attached memory refreshes itself. -/
def Dev.warmClear (d0 : Dev) : Dev :=
  let d := d0.txCuts.selfRefresh
  let t := d.tru
  let d1 : Dev :=
    { chip := d.chip, held := d.held, regs := Tbl.keep d.regs (warmKeeps d.worker), lines := keepPins d.lines, pwr := d.pwr,
      wake := d.wake, gasp := d.gasp, tap := d.tap, freeCtr := d.freeCtr, out := d.out
      tim := { ctr := d.tim.ctr, off := d.tim.off, pend := d.tim.pend, buildOut := d.tim.buildOut }
      dram := { mem := d.dram.mem }
      tru := { fuses := t.fuses, shadow := t.shadow, opened := t.opened, ident := t.ident, rngFail := t.rngFail,
               cold := t.cold, deadArb := t.deadArb, deadRevoke := t.deadRevoke, trialOut := t.trialOut
               recPref := t.recPref } }
  d1.reRate.pllWarm.dsdPins

/-- The main domain is held in cold reset. -/
def Held.cold (h : Held) : Bool := h.crema || h.porst || h.testEn || h.rails

/-- A cause of CHIPCAP.RST_CAUSE. -/
def Dev.cause (d : Dev) (f : Fld) : Dev := d.put f 1

/-- A cold reset takes effect (R44). -/
def Dev.coldReset (d : Dev) : Dev := d.coldClear.cause Reg.CHIPCAP_RST_CAUSE.COLD

/-- A warm reset with its cause; within a wider reset only the cause is recorded (R45). -/
def Dev.warmReset (d : Dev) (f : Fld) : Dev := (if d.held.cold then d else d.warmClear).cause f

/-- When cold reset ends, WORKER_STRAP is sampled and the role stands (R285, R441). -/
def Dev.coldEnd (d : Dev) (strap : Bool) : Dev :=
  d.put Reg.RP_HIER_STAT.ROLE (bit (d.chip.part == 0x6440 || strap))

/-- What holds the device changes; the end of a cold reset samples the strap. -/
def Dev.setHeld (d : Dev) (h : Held) (strap : Bool) : Dev :=
  let was := d.held.cold
  let d1 := { d with held := h }
  if was && !h.cold then d1.coldEnd strap else d1

/-! ### Pins and keys (R44, R441, R448) -/

/-- PORST_N is low for 20 CK_CREMA cycles: a cold reset (R448). -/
def Dev.porstLow (d : Dev) : Dev :=
  ({ d with held := { d.held with porst := true } }.coldReset).put Reg.PWR_STAT.PORST 0

/-- PORST_N rises. -/
def Dev.porstHigh (d : Dev) (strap : Bool) : Dev := (d.put Reg.PWR_STAT.PORST 1).setHeld { d.held with porst := false } strap

/-- RESET_N is low for 8 samples: a warm reset that lasts until it rises. -/
def Dev.resetNLow (d : Dev) : Dev :=
  { d with held := { d.held with resetN := true } }.warmReset Reg.CHIPCAP_RST_CAUSE.PIN

def Dev.resetNHigh (d : Dev) : Dev := { d with held := { d.held with resetN := false } }

/-- TEST_EN: high holds the main domain in cold reset (R441). -/
def Dev.testEn (d : Dev) (on strap : Bool) : Dev :=
  if on then { d with held := { d.held with testEn := true } }.coldReset
  else d.setHeld { d.held with testEn := false } strap

/-- A write of CHIPCAP.RST_CTRL. -/
def Dev.rstCtrl (d : Dev) (v : Nat) : Dev :=
  if bitOf v 0 ∧ bits v 16 16 = 0xA55A then d.warmReset Reg.CHIPCAP_RST_CAUSE.SOFT else d

/-! ### Unit resets (R44, R47) -/

/-- The higher words latched between two addresses are given up (R16). -/
def Dev.dropLatch (d : Dev) (lo hi : Nat) : Dev := { d with latch := Tbl.keep d.latch (fun a => !(decide (lo ≤ a) && decide (a ≤ hi))) }

/-- The line cipher contexts of channel n as its reset leaves them: slots empty with their counters at 0 and the latch of R16
with them, no key in use, no switch armed, no record, the counts at 0. -/
def Dev.lineContext (d : Dev) (n : Nat) : Dev :=
  let d1 := d.each ((List.range 8).map (8 * n + ·)) (fun d s => ((d.emptySlot s).put (Reg.CPH_SLOT_STAT.EXH s) 0).setSlotCtr s 0)
  let d2 := d1.dropLatch (Reg.CPH_SLOT_CTR_LO.ADR (8 * n)) (Reg.CPH_SLOT_CTR_HI.ADR (8 * n + 7))
  let d3 := (d2.put (Reg.CPH_LINE_US_CTRL.CUR_IDX n) 0).put (Reg.CPH_LINE_US_CTRL.SW_ARM n) 0
  let d4 := d3.each (List.range 15) (fun d w => d.put (Reg.CPH_LINE_KEYREC.DATA n w) 0)
  d4.each (List.range 6) (fun d c => d.put (Reg.CPH_LINE_CNT.COUNT n c) 0)

/-- Line channel n enters reset: its receiver, machine, Coachbuilder lane and line cipher contexts. LN.XPORT stays, and with
it which of its entries R64 does not count; frames in the channel's input buffer, which is the slice's, stay too
(notes/assumptions/28.md). -/
def Dev.lnHold (d : Dev) (n : Nat) : Dev :=
  let d1 := (((d.adaptNow n).txCut n).strand n)
  let d2 := d1.each ((d1.coach n).store.filter (fun e => !e.ready)) (fun d e => d.release e.f)
  let x := d2.line n
  let d3 := ((d2.setLine n { sd := x.sd, badPorts := x.badPorts }).setAct n { loaded := (d2.act n).loaded }).setCoach n {}
  let b := 0x100000 + 0x40000 * n
  let d4 := (d3.unitClear b (b + 0x2FFFF)).dsdPin n
  (d4.lineContext n).lineMoved n

/-- Line channel n leaves reset with its configuration. -/
def Dev.lnFree (d : Dev) (n : Nat) : Dev :=
  let d1 := if d.cphLineUp && d.tenderHere then d.defaultKeys n else d
  let rx := d1.on (Reg.LN_CTRL.RX_EN n)
  let d2 := if rx then (d1.put (Reg.LN_CTRL.RX_EN n) 0).rxEnable n true else d1
  let d3 := if !d2.actEn n || !d2.tenderHere then d2
    else if d2.tenderHalt then d2.setAct n { d2.act n with lateEn := true }
    else d2.actStart n
  d3.lineMoved n

/-- Riser port p enters reset: its link drops, its credits and stores clear, its wake requests are withdrawn. -/
def Dev.rpHold (d : Dev) (p : Nat) : Dev :=
  let d1 := (d.linkStop p).setRlink p {}
  let d2 := d1.setPhy p {}
  let b := 0x1C00000 + 0x40000 * p
  let d3 := (d2.unitClear b (b + 0x1FFFF)).unitClear (b + 0x30000) (b + 0x3FFFF)
  ((d3.wakeDrop (224 + p)).wakeDrop (228 + p)).pllEval

/-- A receiver with ADAPT 0 uses the boost that software wrote (R50, R281). -/
def Dev.boostWritten (d : Dev) (p l : Nat) : Dev :=
  d.iff (d.fld (Reg.RP_LANE_RXEQ.ADAPT p l) == 0)
    (fun d => d.put (Reg.RP_LANE_RXEQ_STAT.CTLE_NOW p l) (d.fld (Reg.RP_LANE_RXEQ.CTLE p l)))

/-- Riser port p leaves reset and waits for its clock; a pattern that stands goes out. -/
def Dev.rpFree (d : Dev) (p : Nat) : Dev :=
  (((d.boostWritten p 0).boostWritten p 1).phyWait p).each (List.range 2) (fun d l => d.patSend (.riser (Fin.ofNat 4 p) (Fin.ofNat 2 l)))

/-- The host interface enters reset: every ring is disabled. What the PCIe endpoint shows stays the endpoint's. -/
def Dev.hifHold (d : Dev) : Dev :=
  let d1 := d.each (List.range 256) (fun d r => d.ringKill r)
  let d2 := d1.clearRegs 0x1D00000 0x1DFFFFF (fun k => isConfig k || k / 32 == Reg.HIF_PCIE_STAT.ADR)
  { d2 with host := { d2.host with rings := [], doms := [], rr := [], stamps := [] } }

/-- One bit of BLOCK_RST takes a new value: `hold` where it becomes 1, `free` where it becomes 0. -/
def Dev.rstBit (d : Dev) (was now : Bool) (hold free : Dev → Dev) : Dev :=
  if now && !was then hold d else if was && !now then free d else d

/-- The LN field of a write of BLOCK_RST (R47); in the worker role its bits stay 1 (R285). -/
def Dev.blockRstLn (d : Dev) (v : Nat) : Dev :=
  let old := d.fld Reg.CHIPCAP_BLOCK_RST.LN
  let new := if d.worker then 15 else v % 16
  let d1 := d.put Reg.CHIPCAP_BLOCK_RST.LN new
  d1.each ((List.range 4).filter d1.lnHere) (fun d n => d.rstBit (bitOf old n) (bitOf new n) (·.lnHold n) (·.lnFree n))

/-- The RP field. -/
def Dev.blockRstRp (d : Dev) (v : Nat) : Dev :=
  let old := d.fld Reg.CHIPCAP_BLOCK_RST.RP
  let new := bits v 4 4
  let d1 := d.put Reg.CHIPCAP_BLOCK_RST.RP new
  d1.each ((List.range 4).filter d1.rpHere) (fun d p => d.rstBit (bitOf old p) (bitOf new p) (·.rpHold p) (·.rpFree p))

/-- The CPH field (R154). -/
def Dev.blockRstCph (d : Dev) (v : Nat) : Dev :=
  let old := d.on Reg.CHIPCAP_BLOCK_RST.CPH
  (d.put Reg.CHIPCAP_BLOCK_RST.CPH (bits v 8 1)).rstBit old (bitOf v 8) Dev.cphHold Dev.cphRelease

/-- The HIF field (R328). -/
def Dev.blockRstHif (d : Dev) (v : Nat) : Dev :=
  let old := d.on Reg.CHIPCAP_BLOCK_RST.HIF
  if d.hifHere then (d.put Reg.CHIPCAP_BLOCK_RST.HIF (bits v 9 1)).rstBit old (bitOf v 9) Dev.hifHold id else d

/-- A write of CHIPCAP.BLOCK_RST. -/
def Dev.blockRst (d : Dev) (v : Nat) : Dev := (((d.blockRstLn v).blockRstRp v).blockRstCph v).blockRstHif v

end Sys2Proof.Machine
end

