-- ==== Sys2Proof/Machine/Power.lean ====
section
/-!
DEFINITION. The Crema domain (spec/15): power-up and power-down of the main rails, live insertion, rail faults, the
dying-gasp signal, the thermal levels, the real-time clock and the watchdog. The rails are numbered as in
PWR.STAT.GOOD: 0 to 5 those of R387, 6 VDD_IO, 7 VDD_PLL.
-/
namespace Sys2Proof.Machine

/-- Codes of PWR.STAT.SEQ. -/
def sqOff : Nat := 0
def sqUp : Nat := 1
def sqOn : Nat := 2
def sqDown : Nat := 3
def sqLatched : Nat := 4
def sqTherm : Nat := 5

/-- The rails of a stage (R391). -/
def stageRails (s : Nat) : List Nat :=
  if s = 1 then [0] else if s = 2 then [1] else if s = 3 then [7] else if s = 4 then [2, 3] else if s = 5 then [4]
  else if s = 6 then [5] else if s = 7 then [6] else []

/-- The stage of a rail. -/
def railStage (k : Nat) : Nat := ((List.range 8).find? (fun s => k ∈ stageRails s)).getD 0

/-- The state of the sequencer. Right after reset the field reads 0 while the rails are good: the state is then ON. -/
def Dev.seq (d : Dev) : Nat :=
  let s := d.fld Reg.PWR_STAT.SEQ
  if s = sqOff ∧ ¬ d.held.rails then sqOn else s

def Dev.setSeq (d : Dev) (s : Nat) : Dev := d.put Reg.PWR_STAT.SEQ s

/-- Show a rail as good or not. -/
def Dev.railGood (d : Dev) (k : Nat) (b : Bool) : Dev :=
  let d1 := d.put Reg.PWR_STAT.GOOD (setBit (d.fld Reg.PWR_STAT.GOOD) k b)
  d1.iff (decide (k < 6)) (·.put (Reg.PWR_RAIL_STAT.GOOD k) (bit b))

/-- A trigger of a power-down stands, or ends (R395). -/
def Dev.setTrigger (d : Dev) (b : Nat) (on : Bool) : Dev :=
  { d with pwr := { d.pwr with triggers := setBit d.pwr.triggers b on } }

/-! ### Power-up (R391, R392) -/

/-- Power-up starts with stage 1 when everything that R391 asks for holds. -/
def Dev.tryUp (d : Dev) : Dev :=
  if d.cremaUp ∧ d.pwr.sampled ∧ d.pwr.debounced ∧ ¬ d.pwr.hpHigh ∧ d.seq = sqOff ∧ d.pwr.triggers = 0 then
    (d.setSeq sqUp).put Reg.PWR_STAT.STAGE 1
  else d

/-- STAGE_GAP after the rails of the present stage are all good the next stage starts. -/
def Dev.stageStart (d : Dev) : Dev :=
  let s := d.fld Reg.PWR_STAT.STAGE
  if d.seq = sqUp ∧ s < 7 ∧ (stageRails s).all (fun k => bitOf (d.fld Reg.PWR_STAT.GOOD) k) then
    d.put Reg.PWR_STAT.STAGE (s + 1)
  else d

/-- A rail of a started stage becomes good; with the last one the main domain leaves its cold reset, unless a pin holds
it. -/
def Dev.railGoodNow (d : Dev) (k : Nat) (strap : Bool) : Dev :=
  if d.seq = sqUp ∧ railStage k ≤ d.fld Reg.PWR_STAT.STAGE ∧ (6 ≤ k ∨ d.fld (Reg.PWR_RAIL_STAT.PHASES k) ≠ 0) then
    let d1 := d.railGood k true
    if d1.fld Reg.PWR_STAT.GOOD = 255 then
      ((d1.setSeq sqOn).cause Reg.CHIPCAP_RST_CAUSE.COLD).setHeld { d1.held with rails := false } strap
    else d1
  else d

/-! ### Power-down (R394, R395) -/

/-- Switch off the highest stage that is still on. -/
def Dev.stageOff (d : Dev) : Dev :=
  let s := d.pwr.downStage
  let d1 := d.each (stageRails s) (fun d k => d.railGood k false)
  { d1 with pwr := { d1.pwr with downStage := s - 1 } }

/-- The main domain stops and enters cold reset, and the highest stage is switched off. -/
def Dev.stopMain (d : Dev) : Dev :=
  ({ d with held := { d.held with rails := true, therm := false }, pwr := { d.pwr with grace := false } }.coldReset).stageOff

/-- A trigger (0 hot-plug, 1 OFF, 2 fault, 3 critical temperature): it starts a power-down where none runs; one that
runs goes on as it is. At a hot-plug the main domain runs on for HP_GRACE. -/
def Dev.powerDown (d : Dev) (b : Nat) : Dev :=
  let d1 := d.setTrigger b true
  let s := d.seq
  if s = sqDown then d1.put Reg.PWR_STAT.DOWN_CAUSE (setBit (d.fld Reg.PWR_STAT.DOWN_CAUSE) b true)
  else if s = sqUp ∨ s = sqOn ∨ s = sqTherm then
    let d2 := (d1.setSeq sqDown).put Reg.PWR_STAT.DOWN_CAUSE (2 ^ b)
    let top := if s = sqUp then d.fld Reg.PWR_STAT.STAGE else 7
    let d3 := { d2 with pwr := { d2.pwr with downStage := top } }
    if b = 0 ∧ s ≠ sqUp then { d3 with pwr := { d3.pwr with grace := true } } else d3.stopMain
  else d1

/-- HP_GRACE after HP_PRESENT_N rose the main domain stops. -/
def Dev.graceOver (d : Dev) : Dev := if d.pwr.grace then d.stopMain else d

/-- The stage switched off last has fallen and STAGE_GAP has passed: the next lower one goes, or the power-down ends. -/
def Dev.downNext (d : Dev) : Dev :=
  if d.seq = sqDown ∧ ¬ d.pwr.grace then
    if d.pwr.downStage = 0 then (d.setSeq sqOff).tryUp else d.stageOff
  else d

/-- A write of PWR.CTRL. -/
def Dev.pwrCtrl (d : Dev) (v : Nat) : Dev :=
  let d1 := (d.put Reg.PWR_CTRL.THROT_EN (v / 2)).iff (!bitOf v 1) (·.put Reg.PWR_STAT.THROTTLE 0)
  d1.iff (bitOf v 0 && bits v 16 16 == 0x5AA5) (·.powerDown 1)

/-- OFF_S seconds after OFF; with OFF_S at 0 the trigger does not end. -/
def Dev.offOver (d : Dev) : Dev :=
  if bitOf d.pwr.triggers 1 ∧ d.fld Reg.PWR_SEQ2.OFF_S ≠ 0 then (d.setTrigger 1 false).tryUp else d

/-! ### Rail faults (R390) -/

/-- The rail is switched on. -/
def Dev.railOn (d : Dev) (k : Nat) : Bool :=
  let s := d.seq
  if s = sqOn then true
  else if s = sqUp then decide (railStage k ≤ d.fld Reg.PWR_STAT.STAGE)
  else if s = sqDown then decide (railStage k ≤ d.pwr.downStage)
  else if s = sqTherm then decide (k ≠ 2 ∧ k ≠ 3)
  else false

/-- The rail has been good. -/
def Dev.railWasGood (d : Dev) (k : Nat) : Bool := d.seq == sqOn || bitOf (d.fld Reg.PWR_STAT.GOOD) k

/-- A fault code applies to the rail as it stands. -/
def Dev.faultApplies (d : Dev) (k code : Nat) : Bool :=
  d.railOn k &&
    (if code = 1 then decide (k < 6)
     else if code = 2 ∨ code = 3 then decide (k < 6) && d.railWasGood k
     else if code = 4 then d.seq == sqUp && !d.railWasGood k
     else if code = 5 then decide (6 ≤ k) && d.railWasGood k
     else false)

/-- A rail takes a fault; `freeRun` is whether 10 s free of faults had passed since the last one. -/
def Dev.railFault (d : Dev) (k code : Nat) (freeRun : Bool) : Dev :=
  if d.faultApplies k code then
    let d1 := ((d.bump (Reg.PWR_CNT.COUNT 0)).ev Reg.PWR_EVT.RAIL_FAULT).iff (decide (k < 6)) (·.put (Reg.PWR_RAIL_STAT.FAULT k) code)
    let d2 := if freeRun then { d1 with pwr := { d1.pwr with retries := 0 } } else d1
    d2.powerDown 2
  else d

/-- 100 ms after a fault: power up again, or LATCHED after RETRY times. -/
def Dev.retryOver (d : Dev) : Dev :=
  if bitOf d.pwr.triggers 2 ∧ d.seq = sqOff then
    if d.pwr.retries < d.fld Reg.PWR_SEQ.RETRY then
      ({ d with pwr := { d.pwr with retries := d.pwr.retries + 1 } }.setTrigger 2 false).tryUp
    else d.setSeq sqLatched
  else d

/-- LATCHED is left. -/
def Dev.unlatch (d : Dev) : Dev :=
  if d.seq = sqLatched then ({ d with pwr := { d.pwr with retries := 0 } }.setTrigger 2 false).setSeq sqOff else d

/-! ### Dying gasp (R397) -/

/-- The signal follows its two causes; each raise is counted. -/
def Dev.gaspEval (d : Dev) : Dev :=
  if d.pwr.vinLow || d.pwr.hpHigh then
    if d.on Reg.PWR_STAT.DG then d
    else { ((d.put Reg.PWR_STAT.DG 1).ev Reg.PWR_EVT.DG).bump (Reg.PWR_CNT.COUNT 1) with gasp := some d.tim.ctr }
  else { d.put Reg.PWR_STAT.DG 0 with gasp := none }

/-- VIN_SENSE crosses DG_TH, or has stayed above it again. -/
def Dev.vinLow (d : Dev) (b : Bool) : Dev := { d with pwr := { d.pwr with vinLow := b } }.gaspEval

/-! ### Live insertion (R391, R394) -/

/-- HP_PRESENT_N changes. -/
def Dev.hpPresent (d : Dev) (high : Bool) : Dev :=
  if high then
    let d1 := { d with pwr := { d.pwr with hpHigh := true, debounced := false } }
    ((d1.put Reg.PWR_STAT.SEATED 0).gaspEval).powerDown 0
  else
    let d1 := { d with pwr := { d.pwr with hpHigh := false } }
    ((((d1.put Reg.PWR_STAT.SEATED 1).setTrigger 0 false).unlatch).gaspEval).tryUp

/-- HP_PRESENT_N has been low for HP_DEB. -/
def Dev.hpDebounced (d : Dev) : Dev :=
  if d.pwr.hpHigh then d else { d with pwr := { d.pwr with debounced := true } }.tryUp

/-- PORST_N has been low for 20 cycles: also LATCHED is left (R390). -/
def Dev.porstTaken (d : Dev) : Dev := (d.porstLow.unlatch).tryUp

/-! ### The Crema power-on reset (R385, R388) -/

/-- VCREMA is below its brown-out level: the whole device, the Crema included. The levels of pins stay. -/
def Dev.cremaReset (d0 : Dev) : Dev :=
  let d := d0.txCuts
  let d1 : Dev :=
    { chip := d.chip, freeCtr := d.freeCtr, out := d.out, lines := keepPins d.lines
      held := { crema := true, rails := true, porst := d.held.porst, resetN := d.held.resetN, testEn := d.held.testEn }
      pwr := { hpHigh := d.pwr.hpHigh }
      tru := { fuses := d.tru.fuses, shadow := d.tru.fuses, deadArb := d.tru.deadArb, deadRevoke := d.tru.deadRevoke } }
  d1.dsdPins

/-- The reset ends, and the pins are seen. -/
def Dev.cremaEnd (d : Dev) : Dev :=
  if d.held.crema then
    let d1 := { d with held := { d.held with crema := false } }
    ((d1.put Reg.PWR_STAT.PORST (bit (!d1.held.porst))).put Reg.PWR_STAT.SEATED (bit (!d1.pwr.hpHigh))).gaspEval
  else d

/-- Phases that a controller has (R387). -/
def phasesOf (k : Nat) : Nat := [8, 2, 4, 2, 1, 1].getD k 0

/-- 100 µs after the reset the fitted phases of each controller are known. -/
def Dev.phaseSampled (d : Dev) (fitted : List Nat) : Dev :=
  if d.pwr.sampled then d
  else
    let d1 := d.each (List.range 6) (fun d k => d.put (Reg.PWR_RAIL_STAT.PHASES k) (fitted.getD k 0 % 2 ^ phasesOf k))
    { d1 with pwr := { d1.pwr with sampled := true } }.tryUp

/-! ### Set-points (R389) -/

/-- Nominal voltage in mV (R387). -/
def railNominal (k : Nat) : Nat := [750, 800, 900, 1200, 1050, 500].getD k 0

/-- A write of RAIL_VSET: ignored outside ±10 % of nominal. -/
def Dev.vsetWrite (d : Dev) (k v : Nat) : Dev :=
  let x := v % 2 ^ 11
  let n := railNominal k
  if 9 * n ≤ 10 * x ∧ 10 * x ≤ 11 * n then d.put (Reg.PWR_RAIL_VSET.VSET k) x else d.ev Reg.PWR_EVT.CFG_REJ

/-! ### Temperature (R402, R403) -/

/-- THERM_MAX in quarter degrees. -/
def Dev.thermMax (d : Dev) : Int := signed 12 (d.fld Reg.PWR_THERM_MAX.TEMP)

/-- Thermal shutdown: warm reset, the lanes' rails off. -/
def Dev.thermShut (d : Dev) : Dev :=
  let d1 := { d with held := { d.held with therm := true } }
  let d2 := ((d1.iff (!d1.held.cold) Dev.warmClear).setSeq sqTherm).ev Reg.PWR_EVT.THERM_SHUT
  ((d2.bump (Reg.PWR_CNT.COUNT 3)).railGood 2 false).railGood 3 false

/-- The levels after a conversion. -/
def Dev.thermLevels (d : Dev) : Dev :=
  let t := d.thermMax
  let lvl : Fld → Int := fun f => 4 * (d.fld f : Int)
  let warm := decide (lvl Reg.PWR_THERM_CFG.WARN ≤ t)
  let d1 := d.iff (warm && !d.pwr.warm) (·.ev Reg.PWR_EVT.THERM_WARN)
  let d2 := { d1 with pwr := { d1.pwr with warm := warm } }
  let thr := lvl Reg.PWR_THERM_CFG.THROT
  let d3 :=
    if d2.on Reg.PWR_STAT.THROTTLE then
      d2.iff (decide (t < thr - 4 * (d.fld Reg.PWR_THERM_HYST.HYST : Int))) (·.put Reg.PWR_STAT.THROTTLE 0)
    else
      d2.iff (d2.on Reg.PWR_CTRL.THROT_EN && decide (thr ≤ t))
        (fun d => (d.put Reg.PWR_STAT.THROTTLE 1).bump (Reg.PWR_CNT.COUNT 2))
  if lvl Reg.PWR_THERM_CFG.CRIT ≤ t then d3.powerDown 3
  else d3.iff (decide (lvl Reg.PWR_THERM_CFG.SHUT ≤ t) && d3.seq == sqOn) Dev.thermShut

/-- A conversion of the twelve sensors, in quarter degrees (R402). -/
def Dev.thermConvert (d : Dev) (temps : List Int) : Dev :=
  let t : Nat → Int := fun s => clampI (-2048) 2047 (temps.getD s 0)
  let d1 := d.each (List.range 12) (fun d s => (d.put (Reg.PWR_THERM_T.TEMP s) (unsigned 12 (t s))).put (Reg.PWR_THERM_T.VALID s) 1)
  let top := (List.range 12).foldl (fun m s => if t m < t s then s else m) 0
  let d2 := (d1.put Reg.PWR_THERM_MAX.TEMP (unsigned 12 (t top))).put Reg.PWR_THERM_MAX.SENSOR top
  let peak := max (t top) (signed 12 (d.fld Reg.PWR_THERM_MAX.PEAK))
  (d2.put Reg.PWR_THERM_MAX.PEAK (unsigned 12 peak)).thermLevels

/-- THERM_MAX has been below SHUT − RECOVER for 1 s: from thermal shutdown stage 4 powers up and the warm reset is
released; after a critical temperature its trigger ends. -/
def Dev.thermRecover (d : Dev) : Dev :=
  let lim : Int := 4 * ((d.fld Reg.PWR_THERM_CFG.SHUT : Int) - d.fld Reg.PWR_THERM_HYST.RECOVER)
  if d.thermMax < lim then
    if d.seq = sqTherm then
      let d1 := (((d.railGood 2 true).railGood 3 true).setSeq sqOn).put Reg.PWR_STAT.STAGE 4
      { d1 with held := { d1.held with therm := false } }.cause Reg.CHIPCAP_RST_CAUSE.THERMAL
    else d.iff (bitOf d.pwr.triggers 3) (fun d => (d.setTrigger 3 false).tryUp)
  else d

/-! ### Real-time clock and watchdog (R404, R405) -/

/-- A write of RTC_SEC. -/
def Dev.rtcWrite (d : Dev) (v : Nat) : Dev :=
  let d1 := (d.put Reg.PWR_RTC_SEC.SEC v).put Reg.PWR_RTC_SUB.SUB 0
  { d1 with pwr := { d1.pwr with rtc := 0 } }

/-- The crystal starts or stops. -/
def Dev.xtOk (d : Dev) (b : Bool) : Dev := d.put Reg.PWR_RTC_SUB.XT_OK (bit b)

/-- The watchdog's count begins again. -/
def Dev.wdogRestart (d : Dev) : Dev := { d with pwr := { d.pwr with wdog := 0 } }

/-- A write of PWR.WDOG: TIMEOUT takes its value, and the count restarts at KICK 0x5A5A and at a write of TIMEOUT: one with
KICK 0, or one that changes it. Any other KICK is ignored (notes/assumptions/20.md). -/
def Dev.wdogWrite (d : Dev) (v : Nat) : Dev :=
  let k := bits v 16 16
  (d.put Reg.PWR_WDOG.TIMEOUT v).iff (k == 0x5A5A || k == 0 || v % 2 ^ 16 != d.fld Reg.PWR_WDOG.TIMEOUT) Dev.wdogRestart

/-- TIMEOUT milliseconds have passed since the count began; after the reset it begins again. -/
def Dev.wdogExpiry (d : Dev) : Dev :=
  let t := d.fld Reg.PWR_WDOG.TIMEOUT
  if t = 0 ∨ d.pwr.wdog < t * 1250000 then d else d.wdogRestart.warmReset Reg.CHIPCAP_RST_CAUSE.WATCHDOG

/-- One cycle of 800 ps with no command: the counters run where their domain is not held, and the staging writer's
allowance returns. -/
def Dev.tick (d : Dev) : Dev :=
  if d.held.crema then d
  else if d.held.cold then d.rtcRun 1
  else if d.mainUp then
    (d.advance 1).stageOut
  else { d.advance 1 with core := d.core }

end Sys2Proof.Machine
end

