-- ==== Sys2Proof/Machine/Trust.lean ====
section
/-!
DEFINITION. The trust block (spec/16): fuses, the boot ROM with its slot choice, checks and measurement log, the trust
commands, debug tokens and the random source.
-/
namespace Sys2Proof.Machine

/-! ### Bytes in register arrays -/

/-- Bytes of a register array, byte 4i in bits 31 to 24. -/
def Dev.wordBytes (d : Dev) (f : Nat → Fld) (n : Nat) : List Byte := (List.range n).flatMap (fun i => beBytes (d.fld (f i)) 4)

/-- Write bytes into a register array from a word on. -/
def Dev.putBytes (d : Dev) (f : Nat → Fld) (at_ n : Nat) (b : List Byte) : Dev :=
  d.each (List.range n) (fun d i => d.put (f (at_ + i)) (beAt b (4 * i) 4))

/-- `n` bytes from an offset of what the flash holds. -/
def flashAt (b : List Byte) (i n : Nat) : List Byte := padTo n ((b.drop i).take n)

/-! ### Fuses (R406) -/

/-- Number of consecutive ones from bit `i` upward. -/
def onesFrom (v i : Nat) : Nat → Nat
  | 0 => 0
  | fuel + 1 => if bitOf v i then onesFrom v (i + 1) fuel + 1 else 0

/-- The value of an anti-rollback counter. -/
def arbValue (v : Nat) : Nat := onesFrom v 0 64

/-- The counter as it now reads. -/
def Dev.arb (d : Dev) : Nat := arbValue d.tru.shadow.arb

/-- Root hash of a key slot. -/
def Fuses.root (f : Fuses) (s : Nat) : Nat := if s = 0 then f.root0 else f.root1

/-! ### Measurement (R414) -/

def Dev.logCount (d : Dev) : Nat := d.fld Reg.TRU_BOOT_STAT.LOG_COUNT

/-- The measurement register M. -/
def Dev.meas (d : Dev) : List Byte := d.wordBytes Reg.TRU_MEAS.DATA 16

/-- Append an entry of a type with its byte 3, SVN and digest, and extend M; nothing when the log is full. -/
def Dev.logAppend (d : Dev) (typ b3 svn : Nat) (dig : List Byte) : Dev :=
  let i := d.logCount
  if 64 ≤ i then d
  else
    let e := beBytes i 2 ++ beBytes typ 1 ++ beBytes b3 1 ++ beBytes svn 1 ++ List.replicate 11 0 ++ padTo 64 (dig.take 64)
    let d1 := (d.putBytes Reg.TRU_LOG.DATA (20 * i) 20 e).putBytes Reg.TRU_MEAS.DATA 0 16 (digest (d.meas ++ e))
    d1.put Reg.TRU_BOOT_STAT.LOG_COUNT (i + 1)

/-! ### Boot record (R408) -/

/-- A copy is valid on its own. -/
def recordOk (b : List Byte) : Bool :=
  let crc := crc32c.sum (flashAt b 0 16)
  beAt b 0 4 == 0x4F434252 && (beAt b 16 4 == crc || beAt b 20 4 == crc)

/-- SEQ `b` is ahead of `a` modulo 2³². -/
def seqNewer (a b : Nat) : Bool := let x := (b + 2 ^ 32 - a) % 2 ^ 32; decide (0 < x) && decide (x < 2 ^ 31)

/-- The copy that the ROM selects, if one is valid. -/
def recordPick (f : Flash) : Option Nat :=
  if recordOk f.rec0 then
    if recordOk f.rec1 && seqNewer (beAt f.rec0 4 4) (beAt f.rec1 4 4) then some 1 else some 0
  else if recordOk f.rec1 then some 1 else none

/-! ### Image headers (R409, R411) -/

/-- A component entry. -/
structure Comp where
  typ : Nat
  off : Nat
  len : Nat
  dig : List Byte
  deriving DecidableEq, Repr

def compsOf (h : List Byte) : List Comp :=
  ((List.range 8).map (fun i => 1824 + 96 * i)).map (fun o =>
    { typ := byteAt h o, off := beAt h (o + 4) 4, len := beAt h (o + 8) 4, dig := flashAt h (o + 32) 64 })

/-- Check 5 of R411. -/
def compsOk (l : List Comp) : Bool :=
  let u := l.filter (fun c => c.typ != 0)
  u.all (fun c => (c.typ == 1 || c.typ == 2) && decide (4096 ≤ c.off) && decide (c.off + c.len ≤ 8 * 2 ^ 20) &&
    decide (c.len ≤ (if c.typ = 1 then 2 ^ 20 else 4 * 2 ^ 20))) &&
    [1, 2].all (fun t => decide ((u.filter (fun c => c.typ == t)).length ≤ 1))

/-- The first check of R411 that a slot fails, of checks 1 to 5; 0 for none. -/
def Dev.headerCause (d : Dev) (b : List Byte) : Nat :=
  let h := flashAt b 0 4096
  let s := byteAt h 6
  let pub := flashAt h 16 1793
  if ¬ (beAt h 0 4 = 0x4F43494D ∧ byteAt h 4 = 1) then 1
  else if ¬ (s < 2 ∧ ¬ bitOf d.tru.shadow.revoke s ∧ Config.shake256 pub % 2 ^ 512 = d.tru.shadow.root s) then 2
  else if ¬ Config.falconVerify pub (Config.shake256 (flashAt h 0 2816)) (flashAt h 2816 1280) then 3
  else if byteAt h 5 < d.arb then 4
  else if ¬ compsOk (compsOf h) then 5
  else 0

/-- Component entries up to the first whose digest differs, with the digests computed, and whether one differed. -/
def loadComps (b : List Byte) : List Comp → List (Nat × List Byte) → List (Nat × List Byte) × Bool
  | [], l => (l, true)
  | c :: r, l =>
    if c.typ = 0 then loadComps b r l
    else
      let g := digest (flashAt b c.off c.len)
      if g = c.dig then loadComps b r (l ++ [(c.typ, g)]) else (l ++ [(c.typ, g)], false)

/-- What a slot gives: its cause, and the components loaded. -/
def Dev.slotTry (d : Dev) (b : List Byte) : Nat × List (Nat × List Byte) :=
  let c := d.headerCause b
  if c ≠ 0 then (c, [])
  else match loadComps b (compsOf (flashAt b 0 4096)) [] with
    | (l, true) => (0, l)
    | (l, false) => (6, l)

def causeFld (s : Nat) : Fld := if s = 0 then Reg.TRU_BOOT_FAIL.A_CAUSE else Reg.TRU_BOOT_FAIL.B_CAUSE
def Flash.slot (f : Flash) (s : Nat) : List Byte := if s = 0 then f.slotA else f.slotB

/-- The log entry of a checked header. -/
def Dev.logHeader (d : Dev) (b : List Byte) (cause : Nat) : Dev :=
  d.logAppend (if cause = 0 then 2 else 3) cause (byteAt b 5) (digest (flashAt b 0 2816))

/-- The last boot fell back (R363, R364), as an event too (DEDUCED, notes/assumptions/47.md). -/
def Dev.fellBack (d : Dev) (cause : Nat) : Dev :=
  ((d.ev Reg.GEN_FW_STAT.FALLBACK).put Reg.GEN_FW_STAT.FB_CAUSE cause).ev Reg.GEN_EVT.FW_FALLBACK

/-! ### The boot ROM (R410) -/

/-- Step 1: the fuse shadow and the identity after a cold reset; the certificate's binding; the random source's seed. -/
def Dev.bootIdentity (d : Dev) (f : Flash) (identOk seedOk : Bool) : Dev :=
  let t := d.tru
  let t1 := if t.cold then { t with shadow := t.fuses, ident := identOk, cold := false } else t
  let d1 := { d with tru := { t1 with dbgKey := flashAt f.dbgKey 0 1793, octal := f.octal } }
  let bound := t1.ident && beAt f.cert 8 8 == d.chip.serial && flashAt f.cert 16 1793 == padTo 1793 d1.identityKey
  let d2 := (d1.put Reg.TRU_BOOT_STAT.IDENT_OK (bit t1.ident)).put Reg.TRU_BOOT_STAT.CERT_OK (bit bound)
  (d2.iff (!bound) (·.ev Reg.TRU_EVT.CERT_MISMATCH)).iff seedOk (·.put Reg.TRU_RNG_STAT.HEALTH_OK 1)

/-- The record selected (step 2), with its entry in the log after the ROM's own. -/
def Dev.bootRecord (d : Dev) (f : Flash) : Dev × Nat :=
  let d0 := d.logAppend 0 0 0 (beBytes Config.romDigest 64)
  match recordPick f with
  | none => ((d0.put Reg.TRU_BOOT_STAT.REC_BAD 1).logAppend 1 0 0 (beBytes (Config.recordDigest []) 64), 0)
  | some k =>
    let b := if k = 0 then f.rec0 else f.rec1
    let d1 := d0.logAppend 1 0 0 (beBytes (Config.recordDigest b) 64)
    ({ d1 with tru := { d1.tru with copy := k, recSeq := beAt b 4 4, flashMhz := byteAt b 9 } }, byteAt b 8 % 2)

/-- What the device does with its flash pins (R411, R449). -/
inductive FlashPort where
  | highZ
  /-- single-bit mode at 25 MHz -/
  | single
  /-- octal double data rate, 2 bytes per clock -/
  | octal (mhz : Nat)
  deriving DecidableEq, Repr

/-- The flash pins: high impedance while STATE is FAILED; the records are read in single-bit mode, the rest at FLASH_MHZ
where the flash has the octal mode (R410, R411, R449). -/
def Dev.flashPort (d : Dev) : FlashPort :=
  if d.fld Reg.TRU_BOOT_STAT.STATE = 2 then .highZ
  else if d.tru.boot ≠ .due ∧ d.tru.octal then .octal d.tru.flashMhz
  else .single

/-- How far the boot has come. -/
def Dev.setBoot (d : Dev) (b : BootRun) : Dev := { d with tru := { d.tru with boot := b } }

/-- A trial that timed out is recorded by the boot after it (R364). -/
def Dev.trialNoted (d : Dev) : Dev :=
  if d.tru.trialOut then { d.fellBack 2 with tru := { d.tru with trialOut := false } } else d

/-- The cause of a slot's check, with the log entry of its header. -/
def Dev.slotChecked (d : Dev) (f : Flash) (s cause : Nat) : Dev := (d.put (causeFld s) cause).logHeader (f.slot s) cause

/-- Log entries of the components of images. -/
def Dev.logComps (d : Dev) (l : List (Nat × List Byte)) : Dev := d.each l (fun d c => d.logAppend 4 c.1 0 c.2)

/-- Steps 3 to 5 on a part with cores: the slot of R363, the other one when it fails. -/
def Dev.bootSlots (d : Dev) (f : Flash) (pref : Nat) : Dev :=
  let trial := d.on Reg.GEN_FW_CTRL.TRIAL
  let first := if trial then d.fld Reg.GEN_FW_CTRL.TRIAL_SLOT else pref
  let d1 := (((d.put Reg.GEN_FW_CTRL.TRIAL 0).put Reg.GEN_FW_STAT.TRIAL_RUN 0).put Reg.GEN_FW_STAT.PREFERRED pref).trialNoted
  let loaded : Nat → BootRun := fun s => .loaded s (byteAt (f.slot s) 5) (byteAt (f.slot s) 6)
  let a : Nat × List (Nat × List Byte) := d1.slotTry (f.slot first)
  let d2 := d1.slotChecked f first a.1
  if a.1 = 0 then
    (((d2.put Reg.GEN_FW_STAT.TRIAL_RUN (bit trial)).put Reg.GEN_FW_STAT.BOOTED first).logComps a.2).setBoot (loaded first)
  else
    let other := 1 - first
    let d3 := d2.fellBack (if a.1 = 4 then 3 else 1)
    let b : Nat × List (Nat × List Byte) := d3.slotTry (f.slot other)
    let d4 := (d3.slotChecked f other b.1).logComps (a.2 ++ b.2)
    if b.1 = 0 then (d4.put Reg.GEN_FW_STAT.BOOTED other).setBoot (loaded other) else d4.setBoot .failed

/-- The boot ROM runs its steps 1 to 5: what the flash holds, whether the secret of the die could be reconstructed, and
whether the random source found a good seed. A part without cores loads no image (R322). -/
def Dev.bootRom (d : Dev) (f : Flash) (identOk seedOk : Bool) : Dev :=
  if d.tru.boot ≠ .due then d
  else
    let (d1, pref) := (d.bootIdentity f identOk seedOk).bootRecord f
    let d2 := if d1.cpxHere then d1.bootSlots f pref else d1.setBoot .noImage
    if d2.dbgPerm = 0 then d2 else d2.logAppend 5 0 0 (beBytes d2.dbgPerm 1)

/-- What the ROM does on a worker before it hands over (R322). -/
def Dev.bootWorker (d : Dev) : Dev :=
  let d1 := d.blockRstRp 0
  let d2 := d1.each ((List.range 4).filter d1.rpHere) (fun d p => (d.put (Reg.RP_PHY_CTRL.UPPER p) 0).put (Reg.RP_LINK_CTRL.EN p) 1)
  (((d2.put Reg.TIM_CTRL.SRC 2).put Reg.TIM_PLL_CTRL.REF 1).put Reg.RP_HIER_CTRL.TREF_FOLLOW 1).pllEval

/-- The boot ends: a worker's ROM hands over (R322). -/
def Dev.bootRelease (d : Dev) : Dev :=
  ((if d.worker then d.bootWorker else d).put Reg.TRU_BOOT_STAT.STATE 1).setBoot .over

/-- Step 6: the cores are released, the Tender only on a manager; or STATE reads FAILED. `fwVer` is the Tender
firmware's version. -/
def Dev.bootDone (d : Dev) (fwVer : Nat) : Dev :=
  match d.tru.boot with
  | .loaded _ svn ks =>
    let d1 := (d.put Reg.TRU_BOOT_STAT.SVN svn).put Reg.TRU_BOOT_STAT.KEY_SLOT ks
    (d1.iff (d1.tenderHere && !d1.worker) (fun d => (d.put Reg.CPX_TND_STAT.RUNNING 1).put Reg.CPX_TND_STAT.FW_VER fwVer)).bootRelease
  | .noImage => d.bootRelease
  | .failed => (d.put Reg.TRU_BOOT_STAT.STATE 2).setBoot .over
  | _ => d

/-- The trial timer expires (R364). -/
def Dev.trialTimeout (d : Dev) : Dev :=
  if d.on Reg.GEN_FW_STAT.TRIAL_RUN then
    let d1 := d.warmReset Reg.CHIPCAP_RST_CAUSE.WATCHDOG
    { d1 with tru := { d1.tru with trialOut := true } }
  else d

/-! ### Trust commands (R412 to R420) -/

def tNoIdentity : Nat := 0x61
def tLogFull : Nat := 0x62
def tTokenBad : Nat := 0x63
def tTokenStale : Nat := 0x64
def tArbRefused : Nat := 0x65
def tKeyRefused : Nat := 0x66
def tFuseFail : Nat := 0x67

/-- The report of R417, taken as one snapshot. -/
def Dev.attestReport (d : Dev) : List Byte :=
  let flags := d.fld Reg.GEN_FW_STAT.BOOTED + 2 * d.fld Reg.GEN_FW_STAT.TRIAL_RUN + 4 * d.fld Reg.GEN_FW_STAT.FALLBACK +
    8 * bit (d.dbgPerm != 0) + 16 * bit d.tru.rngFail
  let body := beBytes 0x4F434154 4 ++ beBytes 1 2 ++ beBytes d.chip.part 2 ++ beBytes d.chip.serial 8 ++
    d.wordBytes Reg.TRU_IN.DATA 8 ++ d.readWords.flatMap (fun w => beBytes w 4) ++ d.meas ++ beBytes d.logCount 4 ++
    beBytes flags 1 ++ beBytes d.arb 1 ++ beBytes (d.fld Reg.TRU_BOOT_STAT.SVN) 1 ++ beBytes d.dbgPerm 1 ++
    digest d.identityKey
  let b := padTo 256 body
  b ++ padTo 1280 ((Config.falconSign d.identitySeed (Config.shake256 b)).take 1280)

/-- The status of a token, and its permissions (R419). -/
def Dev.tokenCheck (d : Dev) : Nat × Nat :=
  let t := d.wordBytes Reg.TRU_TOKEN.DATA 336
  if beAt t 6 2 ≠ d.chip.part ∨ beAt t 8 8 ≠ d.chip.serial ∨ d.tru.chal ≠ some (beAt t 16 16) then (tTokenStale, 0)
  else if Config.shake256 d.tru.dbgKey % 2 ^ 512 ≠ d.tru.shadow.dbgHash ∨
      ¬ Config.falconVerify d.tru.dbgKey (Config.shake256 (t.take 64)) (t.drop 64) then (tTokenBad, 0)
  else (0, byteAt t 32 % 32)

/-- A command starts: what it will do is fixed (R420). -/
def Dev.truStart (d : Dev) (run : TruRun) : Dev :=
  if d.on Reg.TRU_STAT.BUSY then d.ev Reg.TRU_STAT.IGNORED
  else { d.put Reg.TRU_STAT.BUSY 1 with tru := { d.tru with run := some run } }

def Dev.attest (d : Dev) : Dev := d.truStart (if d.tru.ident then .attest d.attestReport else .noIdentity)
def Dev.measExtend (d : Dev) : Dev := d.truStart (.measExtend (d.wordBytes Reg.TRU_IN.DATA 16))
def Dev.dbgOpen (d : Dev) : Dev := let x := d.tokenCheck; d.truStart (.dbgOpen x.1 x.2)

/-- ARB_ADVANCE to `v` (R412). -/
def Dev.arbAdvance (d : Dev) (v : Nat) : Dev :=
  d.truStart (if d.fld Reg.TRU_BOOT_STAT.SVN < v ∨ 64 < v ∨ d.on Reg.GEN_FW_STAT.TRIAL_RUN then .arbRefused else .arb v)

/-- KEY_REVOKE of slot `s` (R413). -/
def Dev.keyRevoke (d : Dev) (s : Nat) : Dev :=
  let runs := d.fld Reg.TRU_BOOT_STAT.STATE == 1 && d.cpxHere && d.fld Reg.TRU_BOOT_STAT.KEY_SLOT == s
  d.truStart (if 2 ≤ s ∨ runs ∨ bitOf d.tru.shadow.revoke (1 - s) then .keyRefused else .revoke s)

/-- A write of TRU.CMD; other codes are ignored, and set IGNORED as every code does while a command runs (R420). -/
def Dev.truCmd (d : Dev) (op arg : Nat) : Dev :=
  if op = 1 then d.attest else if op = 2 then d.measExtend else if op = 3 then d.dbgOpen
  else if op = 4 then d.arbAdvance arg else if op = 5 then d.keyRevoke arg
  else d.iff (d.on Reg.TRU_STAT.BUSY) (·.ev Reg.TRU_STAT.IGNORED)

/-- Blow the ARB fuses from the present value to `v`; `bad` is a fuse that does not read back. -/
def Dev.blowArb (d : Dev) (v : Nat) (bad : Option Nat) : Dev × Nat :=
  let t := d.tru
  let now := d.arb
  let stop := match t.deadArb, bad with
    | some x, _ => some x
    | none, some x => some x
    | none, none => none
  let reach := match stop with | some x => if now ≤ x ∧ x < v then x else v | none => v
  if v ≤ now then (d, 0)
  else
    let put : Fuses → Fuses := fun f => { f with arb := f.arb ||| (2 ^ reach - 1) }
    let dead := if reach < v then some reach else t.deadArb
    ({ d with tru := { t with fuses := put t.fuses, shadow := put t.shadow, deadArb := dead } }, if reach < v then tFuseFail else 0)

/-- Blow the REVOKE fuse of a slot. -/
def Dev.blowRevoke (d : Dev) (s : Nat) (bad : Bool) : Dev × Nat :=
  let t := d.tru
  if bad ∨ bitOf t.deadRevoke s then ({ d with tru := { t with deadRevoke := setBit t.deadRevoke s true } }, tFuseFail)
  else
    let put : Fuses → Fuses := fun f => { f with revoke := setBit f.revoke s true }
    ({ d with tru := { t with fuses := put t.fuses, shadow := put t.shadow } }, 0)

/-- What the running command does, and its status. -/
def Dev.truEffect (d : Dev) (r : TruRun) (bad : Option Nat) : Dev × Nat :=
  match r with
  | .attest b => ((d.putBytes Reg.TRU_ATT_OUT.DATA 0 384 b).bump (Reg.TRU_CNT.COUNT 2), 0)
  | .noIdentity => (d, tNoIdentity)
  | .measExtend g => if 64 ≤ d.logCount then (d, tLogFull) else (d.logAppend 6 0 0 g, 0)
  | .dbgOpen st perms =>
    if st ≠ 0 then (d.bump (Reg.TRU_CNT.COUNT 1), st)
    else ({ d.ev Reg.TRU_EVT.DBG_OPENED with tru := { d.tru with opened := d.tru.opened ||| perms, chal := none } }, 0)
  | .arb v => d.blowArb v bad
  | .arbRefused => (d, tArbRefused)
  | .revoke s => d.blowRevoke s bad.isSome
  | .keyRefused => (d, tKeyRefused)

/-- The running command completes; `bad` is a fuse that failed to read back. -/
def Dev.truDone (d : Dev) (bad : Option Nat) : Dev :=
  match d.tru.run with
  | none => d
  | some r =>
    let (d1, st) := { d with tru := { d.tru with run := none } }.truEffect r bad
    ((d1.put Reg.TRU_STAT.STATUS st).put Reg.TRU_STAT.BUSY 0).ev Reg.TRU_EVT.CMD_DONE

/-! ### Challenge and random source (R419, R421) -/

/-- A fresh challenge. -/
def Dev.drawChallenge (d : Dev) : Dev :=
  let e := d.freed.rngUsed
  { e with tru := { e.tru with chal := some (d.freeVal 128) } }

/-- An aligned read of RNG_DATA: 32 fresh bits; a reseed that has fallen due finds a good seed or is skipped. -/
def Dev.rngRead (d : Dev) (goodSeed : Bool) : Dev × Nat :=
  (d.freed.rngServed goodSeed, d.freeVal 32)

/-- A health test fails. -/
def Dev.rngHealthFail (d : Dev) : Dev :=
  let d1 := ((d.bump (Reg.TRU_CNT.COUNT 0)).put Reg.TRU_RNG_STAT.HEALTH_OK 0).ev Reg.TRU_EVT.RNG_FAIL
  { d1 with tru := { d1.tru with rngFail := true } }

end Sys2Proof.Machine
end

