-- ==== Sys2Proof/Machine/Debug.lean ====
section
/-!
DEFINITION. Check-value units, test multiplexers, clock observation, debug reset, the JTAG port (spec/17), and the I²C
and MDIO controllers (spec/18).
-/
namespace Sys2Proof.Machine

/-- The number of a master (R41). -/
def Master.num : Master → Nat
  | .pcie => 0
  | .brewhouse => 1
  | .tender => 2
  | .riser => 3

/-! ### Check-value units (R422 to R427) -/

/-- The computation of a POLY code. -/
def crcOf (p : Nat) : Crc := if p = 0 then crc32 else if p = 1 then crc32c else if p = 2 then crc16 else crc8

/-- The computation in force in unit u. -/
def Dev.cvuCrc (d : Dev) (u : Nat) : Crc := crcOf (Tbl.get d.cvuPoly u 1)

/-- Another master owns the unit: its access is ignored and counted (R425). -/
def Dev.cvuForeign (d : Dev) (m : Master) (u : Nat) : Bool :=
  d.on (Reg.CVU_STAT.OWNED u) && d.fld (Reg.CVU_STAT.OWNER u) != m.num

def Dev.cvuRefuse (d : Dev) (u : Nat) : Dev := (d.bump (Reg.CVU_CNT.COUNT u 1)).ev (Reg.CVU_EVT.FOREIGN u)

/-- The accumulator takes a value, and the result follows. -/
def Dev.cvuAcc (d : Dev) (u acc : Nat) : Dev :=
  (d.put (Reg.CVU_ACC.VALUE u) acc).put (Reg.CVU_RESULT.VALUE u) ((d.cvuCrc u).finish acc)

/-- START (R423, R425). -/
def Dev.cvuStart (d : Dev) (m : Master) (u : Nat) : Dev :=
  if d.cvuForeign m u then d.cvuRefuse u
  else
    let p := d.fld (Reg.CVU_CTRL.POLY u)
    let d1 := { d with cvuPoly := Tbl.set d.cvuPoly u p }
    let c := crcOf p
    let acc := if d.on (Reg.CVU_CTRL.USE_SEED u) then d.fld (Reg.CVU_SEED.VALUE u) % 2 ^ c.w else c.init
    let d2 := ((d1.cvuAcc u acc).put (Reg.CVU_COUNT.VALUE u) 0).put (Reg.CVU_STAT.OUTCOME u) 0
    (d2.put (Reg.CVU_STAT.OWNER u) m.num).put (Reg.CVU_STAT.OWNED u) 1

/-- Bytes enter (R424). -/
def Dev.cvuData (d : Dev) (m : Master) (u n v : Nat) : Dev :=
  if d.cvuForeign m u then d.cvuRefuse u
  else
    (d.cvuAcc u ((d.cvuCrc u).acc (d.fld (Reg.CVU_ACC.VALUE u)) (leBytes v n))).put (Reg.CVU_COUNT.VALUE u)
      (d.fld (Reg.CVU_COUNT.VALUE u) + n)

/-- CHECK (R426). -/
def Dev.cvuCheck (d : Dev) (m : Master) (u : Nat) : Dev :=
  if d.cvuForeign m u then d.cvuRefuse u
  else
    let w := (d.cvuCrc u).w
    let r := d.fld (Reg.CVU_RESULT.VALUE u)
    let a := d.fld (Reg.CVU_EXPECT_A.VALUE u) % 2 ^ w == r
    let b := d.fld (Reg.CVU_EXPECT_B.VALUE u) % 2 ^ w == r
    let dual := d.on (Reg.CVU_CTRL.DUAL u)
    let o := if !dual then (if a then 1 else 4) else if a && b then 1 else if a then 2 else if b then 3 else 4
    let d1 := (d.put (Reg.CVU_STAT.OUTCOME u) o).put (Reg.CVU_STAT.OWNED u) 0
    let d2 := d1.iff (o == 2 || o == 3) (·.ev (Reg.CVU_EVT.COPY_BAD u))
    d2.iff (o == 4) (fun d => (d.ev (Reg.CVU_EVT.MISMATCH u)).bump (Reg.CVU_CNT.COUNT u 0))

/-- ABANDON, by any master. -/
def Dev.cvuAbandon (d : Dev) (u : Nat) : Dev := d.put (Reg.CVU_STAT.OWNED u) 0

/-- A write of CVU.CTRL: its fields, then START, CHECK and ABANDON. A write of another master's that carries both START
and CHECK is one foreign access. -/
def Dev.cvuCtrl (d : Dev) (m : Master) (u v : Nat) : Dev :=
  let d1 := ((d.put (Reg.CVU_CTRL.POLY u) v).put (Reg.CVU_CTRL.USE_SEED u) (v / 4)).put (Reg.CVU_CTRL.DUAL u) (v / 32)
  let d2 :=
    if d1.cvuForeign m u then d1.iff (bitOf v 3 || bitOf v 4) (·.cvuRefuse u)
    else (d1.iff (bitOf v 3) (·.cvuStart m u)).iff (bitOf v 4) (·.cvuCheck m u)
  d2.iff (bitOf v 6) (·.cvuAbandon u)

/-! ### Clock observation (R429) and the test multiplexers (R428) -/

/-- Frequency of a source of DBG.CKO in kHz; 0 for an absent or stopped one. -/
def Dev.ckoKhz (d : Dev) (src inst : Nat) : Nat :=
  if src = 1 ∨ src = 2 then 1250000
  else if src = 3 then (if d.lnHere inst then Config.lineClockKhz else 0)
  else if src = 4 then (if ¬ d.cpxHere then 0 else if d.on Reg.PWR_STAT.THROTTLE then 1000000 else 2000000)
  else if src = 5 then (if d.tenderHere then 1000000 else 0)
  else if src = 6 then
    (if d.fld Reg.DMC_STAT.STATE = 1 ∨ d.fld Reg.DMC_STAT.STATE = 2 then [266688, 400000, 468750, 533313].getD (d.fld Reg.DMC_CTRL.RATE) 0
     else 0)
  else if src = 7 then 156250
  else if src = 8 then
    (if d.rpHere inst ∧ d.on (Reg.RP_PHY_STAT.CLK_OK inst) then [195313, 805664, 1611328].getD (d.fld (Reg.RP_PHY_STAT.RATE inst)) 0 else 0)
  else if src = 9 then (if d.pcieHere then 100000 else 0)
  else if src = 10 then 25000
  else if src = 11 then (if d.on Reg.PWR_RTC_SUB.XT_OK then 33 else 0)
  else 0

/-- Frequency of output i's source in kHz. -/
def Dev.ckoRate (d : Dev) (i : Nat) : Nat := d.ckoKhz (d.fld (Reg.DBG_CKO.SRC i)) (d.fld (Reg.DBG_CKO.INST i))

/-- Output i is open, and its divided frequency is above 400 MHz (R429, R430). -/
def Dev.ckoFast (d : Dev) (i : Nat) : Bool :=
  bitOf d.dbgPerm 0 && decide (400000 * 2 ^ d.fld (Reg.DBG_CKO.DIV i) < d.ckoRate i)

/-- What DBG_CKOi carries: a clock, as its source's frequency in kHz and the divisor, or none where the pin is low: while the
permission is closed, and with a source that is absent, stopped, of no code, or too fast (R429, R430). -/
def Dev.ckoDrive (d : Dev) (i : Nat) : Option (Nat × Nat) :=
  if !bitOf d.dbgPerm 0 || d.ckoFast i || d.ckoRate i == 0 then none else some (d.ckoRate i, 2 ^ d.fld (Reg.DBG_CKO.DIV i))

/-- An output that is too fast sets CKO_FAST. -/
def Dev.ckoEval (d : Dev) (i : Nat) : Dev :=
  { d with cko := Tbl.set d.cko i (bit (d.ckoFast i)) }.iff (d.ckoFast i) (·.ev Reg.DBG_STAT.CKO_FAST)

/-- The outputs as they now stand: one that has become too fast, by its source's rate or by its permission, sets CKO_FAST. -/
def Dev.ckoWatch (d : Dev) : Dev :=
  d.each [0, 1] (fun d i => if bit (d.ckoFast i) = Tbl.get d.cko i 0 then d else d.ckoEval i)

/-- A write of DBG.CKO. -/
def Dev.ckoWrite (d : Dev) (i v : Nat) : Dev :=
  (((d.put (Reg.DBG_CKO.SRC i) v).put (Reg.DBG_CKO.INST i) (v / 16)).put (Reg.DBG_CKO.DIV i) (v / 64)).ckoEval i

/-- What `d` has sent since `o`. -/
def Dev.sentSince (o d : Dev) : List Emit := d.out.take (d.out.length - o.out.length)

/-- A field of a counter has risen from `o` to `d`. -/
def Dev.rose (o d : Dev) (f : Fld) : Bool := decide (o.fld f < d.fld f)

/-- DBG_OUT (R428) between `o` and `d`, the device before and after a command: the levels of `d`, and at 1 each strobe or pulse
whose event lies between the two (notes/assumptions/32.md). -/
def Dev.dbgOut (o d : Dev) : Nat :=
  let g := d.fld Reg.DBG_MUX.GROUP
  let i := d.fld Reg.DBG_MUX.INST
  let sent := Dev.sentSince o d
  if ¬ bitOf d.dbgPerm 0 then 0
  else if g = 1 ∧ d.lnHere i then
    let sealed := fun (x : Dev) => ((x.coach i).bursts.filter (fun b => b.content.isSome)).length
    let psync := d.sfc i != o.sfc i || (d.line i).cands.any (fun c => !(o.line i).cands.any (fun b => b.pos == c.pos))
    packBits [(6, 0), (3, d.actState i), (1, bit (decide (sealed o < sealed d))), (1, bit (d.txBe i)), (1, bit (d.defect i dDSD)),
      (1, bit (d.defect i dUCW)), (1, bit psync), (2, d.framer i)]
  else if g = 2 then
    let act := Reg.LN_PROT_STAT.ACTIVE
    packBits [(7, 0), (2, d.fld Reg.LN_PROT_STAT.TREF), (1, d.fld act), (1, d.fld Reg.LN_PROT_STAT.SWITCHING),
      (1, bit (d.fld act != o.fld act)), (4, d.fld Reg.LN_PROT_STAT.FAST_DEF)]
  else if g = 3 ∧ d.dmcHere i then
    packBits [(6, 0), (1, bit (Dev.rose o d (Reg.DMC_CNT.COUNT i 2))), (1, bit (d.dch i).pour),
      (1, bit (Dev.rose o d (Reg.DMC_CNT.COUNT i 4))), (1, bit ((d.dch i).window != (o.dch i).window)),
      (4, d.fld (Reg.DMC_CH_STAT.OWED i)), (2, d.urgencyMax i)]
  else if g = 4 then
    packBits [(8, 0), (1, bit (d.tim.cap.isSome && o.tim.cap.isNone)), (2, d.epoch), (2, d.fld Reg.TIM_PLL_STAT.STATE),
      (1, d.fld Reg.TIM_STAT.SLEWING), (1, bit (d.epoch != o.epoch)), (1, bit (decide (o.time / secU < d.time / secU)))]
  else if g = 5 ∧ d.rpHere i then
    let swap := (List.range 2).any (fun k => d.fld (pairAct k) != o.fld (pairAct k) &&
      (match d.pair k with | some ab => ab.1 == i || ab.2 == i | none => false))
    packBits [(8, 0), (1, bit swap), (1, bit (Dev.rose o d (Reg.RP_LINK_CNT.COUNT i 7))),
      (1, bit (Dev.rose o d (Reg.RP_LINK_CNT.COUNT i 6) || Dev.rose o d (Reg.CPH_RSR_CNT.COUNT i 2))),
      (1, bit (d.aligned i)), (1, bit (d.clkOk i)), (3, d.phyState i)]
  else if g = 6 then
    packBits [(8, 0), (1, bit (Dev.rose o d (Reg.GEN_CNT.COUNT 2))), (1, d.fld Reg.GEN_STAT.ARMED),
      (1, d.fld Reg.GEN_STAT.PREV_RETIRED), (1, bit (Dev.rose o d (Reg.GEN_CNT.COUNT 0))), (4, d.actTag)]
  else if g = 7 ∧ i < 16 then
    let seen := (List.range 16).any (fun j => (d.ring (16 * i + j)).sw != (o.ring (16 * i + j)).sw)
    let of := fun (p : Emit → Bool) => bit (sent.any p)
    packBits [(11, 0), (1, d.fld (Reg.HIF_DOM_STAT.BACKED_OFF i)),
      (1, of (fun e => match e with | .vector k _ _ => k == i | _ => false)),
      (1, of (fun e => match e with | .statusLine k _ _ => k == i | _ => false)),
      (1, of (fun e => match e with | .pollRead k _ => k == i | _ => false)), (1, bit seen)]
  else if g = 8 then
    packBits [(1, d.fld Reg.PWR_STAT.THROTTLE), (1, d.fld Reg.PWR_STAT.DG), (8, d.fld Reg.PWR_STAT.GOOD),
      (1, bit (d.wake.ddr == 0)), (1, bit (d.wake.slh == 0)), (1, bit (d.wake.sl == 0)), (1, bit (d.wake.core == 0)),
      (1, bit (d.wake.queue != [])), (1, bit (d.wake.granted.any (fun s => !o.wake.granted.contains s)))]
  else if g = 9 ∧ i < 448 ∧ d.portHere i then
    let n := laneOf i
    let j := portOf i
    let stomp := [17, 18, 19].any (fun c => Dev.rose o d (Reg.SM_CNT_LO.COUNT n j c))
    let start := match (d.mac i).tx, (o.mac i).tx with
      | some t, some u => decide (u.start < t.start)
      | some _, none => true
      | _, _ => false
    packBits [(4, 0), (8, d.gatesAt i d.time), (1, d.fld (Reg.SM_PORT_STAT.LPI_TX n j)), (1, bit start), (1, bit stomp),
      (1, bit (d.portUp n j))]
  else 0

/-- A write of DBG.CTRL (R430). -/
def Dev.dbgCtrl (d : Dev) (v : Nat) : Dev :=
  if bitOf v 0 then
    if bits v 16 16 = 0xD5E7 ∧ bitOf d.dbgPerm 4 then d.warmReset Reg.CHIPCAP_RST_CAUSE.DEBUG else d.ev Reg.DBG_STAT.DENIED
  else d

/-! ### The TAP (R431 to R433) -/

/-- The TAP works: VDD_IO is good and no cold reset holds it. -/
def Dev.tapUp (d : Dev) : Bool := !d.held.cold

/-- The TAP resets: IDCODE is in force and the pins are the device's. -/
def Dev.tapReset (d : Dev) : Dev := { d with tap := {} }

/-- The permission bit that an instruction needs; none for a code that the table does not hold (R432). -/
def tapPerm (code : Nat) : Option (Option Nat) :=
  if (1 ≤ code ∧ code ≤ 7) ∨ code = 0x20 ∨ code = 0xFF then some none
  else if 0x40 ≤ code ∧ code ≤ 0x42 then some (some (code - 0x3F))
  else none

/-- The instruction in force: the one loaded; BYPASS for a code that the table does not hold, or while its permission is
closed. -/
def Dev.tapInstr (d : Dev) : Nat :=
  match tapPerm d.tap.ir with
  | some none => d.tap.ir
  | some (some p) => if bitOf d.dbgPerm p then d.tap.ir else 0xFF
  | none => 0xFF

/-- Capture-IR, whose word is 1, and Update-IR of an instruction. -/
def Dev.tapLoad (d : Dev) (code : Nat) : Dev :=
  if d.tapUp then { d with tap := { d.tap with ir := code } }.emit (.tapIr 1) else d

/-- What the instruction in force puts on the pins: EXTEST, its two forms for differential pins and CLAMP the boundary register,
HIGHZ nothing. -/
def Dev.tapDrive (d : Dev) : PinDrive :=
  let i := d.tapInstr
  if i = 3 ∨ i = 4 ∨ i = 5 ∨ i = 7 then .boundary else if i = 6 then .highz else .device

/-- A pin of the main domain supplied from VDD_SLH, whose cell of the boundary register is `cell`: its level, none where it is
not driven (R392, R431). -/
def Dev.pinLevel (d : Dev) (cell : Nat) (own : Bool) : Option Bool :=
  if d.held.rails || d.fld Reg.PWR_STAT.SEQ == 5 then none
  else match d.tapDrive with
    | .device => some own
    | .boundary => some (bitOf d.tap.boundary cell)
    | .highz => none

/-- The levels at LCn_TXDIS and LCn_TXBE. -/
def Dev.pinTxDis (d : Dev) (n : Nat) : Option Bool := d.pinLevel (Config.boundaryCell 0 n) (d.txDis n)
def Dev.pinTxBe (d : Dev) (n : Nat) : Option Bool := d.pinLevel (Config.boundaryCell 1 n) (d.txBe n)

/-- The identification register (R432); Ocarahorn's manufacturer code is not in the spec. -/
def Dev.idcode (d : Dev) : Nat := 1 * 2 ^ 28 + d.chip.part * 2 ^ 12 + Config.jedecCode % 2 ^ 11 * 2 + 1

/-- IDCODE, and its register read. -/
def Dev.tapIdcode (d : Dev) : Dev := if d.tapUp then (d.tapLoad 1).emit (.tapData d.idcode) else d

/-- SAMPLE/PRELOAD: the pins are captured, and the boundary register takes what is shifted in. -/
def Dev.tapSample (d : Dev) (pins shifted : Nat) : Dev :=
  if d.tapUp then
    let d1 := d.tapLoad 2
    { d1 with tap := { d1.tap with boundary := shifted } }.emit (.tapData pins)
  else d

/-- TRU_ACCESS at Capture-DR (R433): DONE, ERR, the offset and the data of the last access; DONE is 0 while one runs. -/
def Dev.tapCapture (d : Dev) : Nat :=
  2 ^ 47 * bit d.tap.done + 2 ^ 46 * bit d.tap.err + 2 ^ 32 * d.tap.off + d.tap.data

/-- A scan of TRU_ACCESS: the capture, then the update, which starts an access unless one runs. -/
def Dev.tapUpdate (d : Dev) (v : Nat) : Dev :=
  if d.tapUp ∧ d.tapInstr = 0x20 then
    let d1 := d.emit (.tapData d.tapCapture)
    if d.tap.run = none then { d1 with tap := { d1.tap with run := some (bitOf v 47, bits v 32 14, bits v 0 32), done := false } }
    else d1
  else d

/-! ### I²C and MDIO (R450, R451) -/

/-- What a transaction sends, when every byte is acknowledged (R450). -/
def Dev.i2cPlan (d : Dev) (b : Nat) : List I2cSym :=
  let dev := 2 * d.fld (Reg.CHIPCAP_I2C_CMD.DEV b)
  let reg : List I2cSym := if d.on (Reg.CHIPCAP_I2C_CMD.NOREG b) then [] else [.byte (d.fld (Reg.CHIPCAP_I2C_CMD.REG b))]
  let rest : List I2cSym :=
    if d.on (Reg.CHIPCAP_I2C_CMD.RD b) then
      (if reg = [] then [] else [I2cSym.start, .byte dev] ++ reg) ++ [.start, .byte (dev + 1), .read, .stop]
    else [I2cSym.start, .byte dev] ++ reg ++ [.byte (d.fld (Reg.CHIPCAP_I2C_CMD.WDATA b)), .stop]
  .recover :: rest

/-- GO: the transaction starts. -/
def Dev.i2cStart (d : Dev) (b : Nat) : Dev :=
  (d.put (Reg.CHIPCAP_I2C_STAT.BUSY b) 1).emit (.i2c b (d.on (Reg.CHIPCAP_I2C_CMD.FAST b)) (d.i2cPlan b))

/-- A write of I2C_CMD: ignored entirely while BUSY. -/
def Dev.i2cCmd (d : Dev) (b v : Nat) : Dev :=
  if d.on (Reg.CHIPCAP_I2C_STAT.BUSY b) then d
  else
    let d1 := ((d.put (Reg.CHIPCAP_I2C_CMD.DEV b) v).put (Reg.CHIPCAP_I2C_CMD.RD b) (v / 2 ^ 7)).put (Reg.CHIPCAP_I2C_CMD.NOREG b) (v / 2 ^ 8)
    let d2 := ((d1.put (Reg.CHIPCAP_I2C_CMD.FAST b) (v / 2 ^ 9)).put (Reg.CHIPCAP_I2C_CMD.REG b) (v / 2 ^ 16)).put
      (Reg.CHIPCAP_I2C_CMD.WDATA b) (v / 2 ^ 24)
    d2.iff (bitOf v 10) (·.i2cStart b)

/-- A transaction can end so: NACK_DATA needs a register or data byte, which a read with NOREG does not send. -/
def Dev.i2cCan (d : Dev) (b status : Nat) : Bool :=
  d.on (Reg.CHIPCAP_I2C_STAT.BUSY b) && !(status == 2 && d.on (Reg.CHIPCAP_I2C_CMD.RD b) && d.on (Reg.CHIPCAP_I2C_CMD.NOREG b))

/-- The transaction ends with a status: a STOP attempt where it ends early, and a byte where a read succeeded. -/
def Dev.i2cDone (d : Dev) (b status rdata : Nat) : Dev :=
  if d.i2cCan b status then
    let d1 := ((d.put (Reg.CHIPCAP_I2C_STAT.BUSY b) 0).put (Reg.CHIPCAP_I2C_STAT.STATUS b) status).iff (status != 0) (·.emit (.i2cStop b))
    d1.iff (d.on (Reg.CHIPCAP_I2C_CMD.RD b) && status == 0) (·.put (Reg.CHIPCAP_I2C_STAT.RDATA b) rdata)
  else d

/-- The frame reads: OP 2 and 3 in Clause 45; in Clause 22 OP 2, as which OP 0 and 3 act. -/
def Dev.mdioReads (d : Dev) (m : Nat) : Bool :=
  let op := d.fld (Reg.CHIPCAP_MDIO_CMD.OP m)
  if d.on (Reg.CHIPCAP_MDIO_CMD.C45 m) then decide (2 ≤ op) else op != 1

/-- `w` bits of `v`, the highest first. -/
def msbFirst (w v : Nat) : List Bool := (List.range w).map (fun i => bitOf v (w - 1 - i))

/-- The frame as sent (R451): 32 ones, the start of its clause, OP, the two addresses, and but for a read the turnaround and the
data. -/
def Dev.mdioFrame (d : Dev) (m : Nat) : List Bool :=
  let c45 := d.on (Reg.CHIPCAP_MDIO_CMD.C45 m)
  let op := d.fld (Reg.CHIPCAP_MDIO_CMD.OP m)
  List.replicate 32 true ++ msbFirst 2 (if c45 then 0 else 1) ++ msbFirst 2 (if !c45 && (op == 0 || op == 3) then 2 else op) ++
    msbFirst 5 (d.fld (Reg.CHIPCAP_MDIO_CMD.PRTAD m)) ++ msbFirst 5 (d.fld (Reg.CHIPCAP_MDIO_CMD.DEVAD m)) ++
    (if d.mdioReads m then [] else msbFirst 2 2 ++ msbFirst 16 (d.fld (Reg.CHIPCAP_MDIO_CMD.DATA m)))

/-- GO: the frame starts. -/
def Dev.mdioStart (d : Dev) (m : Nat) : Dev := (d.put (Reg.CHIPCAP_MDIO_STAT.BUSY m) 1).emit (.mdio m (d.mdioFrame m))

/-- A write of MDIO_CMD: ignored entirely while BUSY. -/
def Dev.mdioCmd (d : Dev) (m v : Nat) : Dev :=
  if d.on (Reg.CHIPCAP_MDIO_STAT.BUSY m) then d
  else
    let d1 := ((d.put (Reg.CHIPCAP_MDIO_CMD.PRTAD m) v).put (Reg.CHIPCAP_MDIO_CMD.DEVAD m) (v / 2 ^ 5)).put
      (Reg.CHIPCAP_MDIO_CMD.C45 m) (v / 2 ^ 10)
    let d2 := ((d1.put (Reg.CHIPCAP_MDIO_CMD.OP m) (v / 2 ^ 11)).put (Reg.CHIPCAP_MDIO_CMD.SPEED m) (v / 2 ^ 13)).put
      (Reg.CHIPCAP_MDIO_CMD.DATA m) (v / 2 ^ 16)
    d2.iff (bitOf v 15) (·.mdioStart m)

/-- The frame ends; read data replaces DATA. -/
def Dev.mdioDone (d : Dev) (m data : Nat) : Dev :=
  if d.on (Reg.CHIPCAP_MDIO_STAT.BUSY m) then
    (d.put (Reg.CHIPCAP_MDIO_STAT.BUSY m) 0).iff (d.mdioReads m) (·.put (Reg.CHIPCAP_MDIO_CMD.DATA m) data)
  else d

end Sys2Proof.Machine
end

