-- ==== Sys2Proof/Machine/Views.lean ====
section
/-!
DEFINITION. What a register reads as: the stored fields, the words that the device computes when they are read, the
words that a read of a lower word has latched (R16), and the registers of absent units (R9).
-/
namespace Sys2Proof.Machine

/-- The index of `a` among `n` words from `base` on, `st` bytes apart. -/
def slotAt (a base st n : Nat) : Option Nat :=
  if base ≤ a ∧ (a - base) % st = 0 ∧ (a - base) / st < n then some ((a - base) / st) else none

/-! ### Absent units (R9) -/

/-- The register at `a` (which its block defines) belongs to an absent unit; CB_TIMING, CB_CTRL and BWM_CTRL are the
Coachbuilder's (notes/assumptions/48.md). -/
def Dev.absentLn (d : Dev) (a : Nat) : Bool :=
  let n := (a - 0x100000) / 0x40000
  let o := a % 0x40000
  if n = 0 ∧ 0x30000 ≤ o then
    !d.anyLine || (!d.bondHere && (decide (0x131004 ≤ a ∧ a < 0x131100) || decide (0x132000 ≤ a)))
  else !d.lnHere n || (!d.pmHistHere && (o == 0x300 || o == 0x304 || decide (0x400 ≤ o ∧ o ≤ 0x4F0))) ||
    (!d.coachHere && decide (0x20048 ≤ o ∧ o ≤ 0x20050))

def Dev.absentCph (d : Dev) (a : Nat) : Bool :=
  !d.cphHere || (!d.cphLineHere && (decide (0x200200 ≤ a ∧ a < 0x200300) || decide (0x200400 ≤ a ∧ a < 0x200500) ||
    decide (0x201000 ≤ a ∧ a < 0x201200) || decide (0x202000 ≤ a ∧ a < 0x202100))) ||
  (!d.cphRiserHere && (decide (0x200300 ≤ a ∧ a < 0x200400) || decide (0x201200 ≤ a ∧ a < 0x201340) ||
    decide (0x202100 ≤ a ∧ a < 0x202200)))

def Dev.absentTmg (d : Dev) (a : Nat) : Bool :=
  !d.unit 14 || (!d.sidingHere && (a == 0x800400 || a == 0x800404)) ||
    (!d.coachHere && decide (0x808000 ≤ a ∧ a < 0x80A000))

def Dev.absentDmc (d : Dev) (a : Nat) : Bool :=
  let c := if 0x1E00200 ≤ a then (a - 0x1E00200) / 0x40 else (a - 0x1E00100) / 0x10
  if 0x1E00100 ≤ a then !d.dmcHere c else !(List.range 4).any d.dmcHere

/-- R9 and the notes of the chapters on the registers of absent units. -/
def Dev.absent (d : Dev) (a : Nat) : Bool :=
  if a < 0x10000 then false
  else if a < 0x20000 then !d.cpxHere && decide (0x10100 ≤ a ∧ a < 0x1010C)
  else if a < 0x30000 then !d.unit 19 || (a == 0x20F00 && !d.anyLine)
  else if a < 0x40000 then !d.unit 18
  else if a < 0x50000 then !d.unit 16
  else if a < 0x80000 then !d.unit 17
  else if a < 0x100000 then !d.unit 15
  else if a < 0x200000 then d.absentLn a
  else if a < 0x300000 then d.absentCph a
  else if a < 0x800000 then !d.unit 13
  else if a < 0x1000000 then d.absentTmg a
  else if a < 0x1800000 then decide (0x1000150 ≤ a ∨ a < 0x1000100) && !d.slHere ((a - 0x1000000) / 0x10000)
  else if a < 0x1C00000 then !d.slHere ((a - 0x1800000) / 0x4000)
  else if a < 0x1D00000 then decide (a < 0x1C20000 ∨ 0x1C30000 ≤ a) && !d.rpHere ((a - 0x1C00000) / 0x40000)
  else if a < 0x1E00000 then !d.hifHere || (a == 0x1D000C0 && !d.pcieHere)
  else if a < 0x1F00000 then d.absentDmc a
  else !d.cpxHere || (!d.tenderHere && (a == Reg.CPX_TND_CTRL.ADR || a == Reg.CPX_TND_STAT.ADR))

/-- What such a register reads as. -/
def absentWord (a : Nat) : Nat := 0xDEAD0000 + bits a 16 9

/-! ### Values wider than 32 bits (R16) -/

/-- The low word of the wide value that holds `a`, and its number of words: values that are read only. -/
def wideOf (a : Nat) : Option (Nat × Nat) :=
  let pick : List (Nat × Nat × Nat × Nat) :=
    [ (0x30, 8, 1, 2), (0x10040, 16, 1, 4), (0x80020, 8, 1, 2), (0x80030, 16, 1, 4), (0x800C0, 16, 1, 4),
      (0x131120, 8, 1, 2), (0x800208, 8, 1, 2), (0x1C20208, 8, 1, 2), (0x1C20610, 16, 1, 4), (0x1C20700, 8, 27, 2),
      (0x1E00060, 8, 1, 2), (0x808000, 16, 512, 3) ]
  let hit := pick.find? (fun e => decide (e.1 ≤ a) && decide ((a - e.1) / e.2.1 < e.2.2.1) && decide ((a - e.1) % e.2.1 < 4 * e.2.2.2))
  match hit with
  | some e => some (e.1 + (a - e.1) / e.2.1 * e.2.1, e.2.2.2)
  | none =>
    if 0x100000 ≤ a ∧ a < 0x200000 then
      let o := a % 0x40000
      if o = 0x28 ∨ o = 0x2C then some (a - o + 0x28, 2)
      else if o = 0x44 ∨ o = 0x48 then some (a - o + 0x44, 2)
      else if 0x400 ≤ o ∧ o < 0x4B0 then some (a / 8 * 8, 2) else none
    else if 0x201000 ≤ a ∧ a < 0x201340 ∧ (a % 16 = 4 ∨ a % 16 = 8) then some (a / 16 * 16 + 4, 2)
    else if 0x1000000 ≤ a ∧ a < 0x1700000 then
      let o := a % 0x10000
      if 0x1000 ≤ o ∧ o < 0x5000 ∧ 0x200 ≤ o % 0x1000 ∧ o % 0x1000 < 0x2D8 then some (a / 8 * 8, 2) else none
    else none

/-! ### Computed words -/

/-- The stored fields of the register at `a`; WO fields and reserved bits read 0. -/
def Dev.stored (d : Dev) (a : Nat) : Nat :=
  match Reg.find a with
  | none => 0
  | some r => r.fields.foldl (fun v f => if f.acc = .wo then v else v + d.fld ⟨a, f.lo, f.w⟩ * 2 ^ f.lo) 0

/-- BLOCK_RST: a bit whose unit is absent reads 0. -/
def Dev.blockRstView (d : Dev) (s : Nat) : Nat :=
  (bits s 0 4 &&& d.chip.units0 % 16) + (bits s 4 4 &&& d.chip.units1 % 16) * 2 ^ 4 + (if d.cphHere then bits s 8 1 * 2 ^ 8 else 0) +
    (if d.hifHere then bits s 9 1 * 2 ^ 9 else 0)

/-- CHIPCAP: identity and presence (R43). -/
def Dev.viewChip (d : Dev) (a s : Nat) : Nat :=
  if a = 0 then d.chip.part * 2 ^ 16 + 0x100
  else if a = 0x10 then d.chip.units0
  else if a = 0x14 then d.chip.units1
  else if a = 0x30 then d.chip.serial % 2 ^ 32
  else if a = 0x34 then d.chip.serial / 2 ^ 32
  else if a = 0x58 then d.blockRstView s
  else match slotAt a 0x20 4 4 with | some g => d.slMask g | none => s

/-- GEN: READY, the milliseconds left of the confirm timer, rounded up, and the checks of the staging logs (R353). -/
def Dev.viewGen (d : Dev) (a s : Nat) : Nat :=
  if a = 0x10004 then setBit s 18 (d.allReady false)
  else if a = 0x10034 then match d.gen.confirmAt with | some t => cdiv (t - d.core) 1250000 | none => 0
  else if a = 0x10050 then
    match firstOffence d.offences with
    | some o => o.status + o.src * 2 ^ 8 + o.table * 2 ^ 10 + o.loc * 2 ^ 14
    | none => 0
  else if a = 0x10054 then min (2 ^ 17 - 1) d.offences.length
  else s

/-- TRU: fuses, permissions, the standing challenge; RNG_DATA gives nothing without a draw (R40). -/
def Dev.viewTru (d : Dev) (a s : Nat) : Nat :=
  let sh := d.tru.shadow
  if a = 0x30010 then d.arb + bits sh.revoke 0 2 * 2 ^ 7 + bit sh.debugLock * 2 ^ 9
  else if a = 0x30040 then 0
  else if a = 0x30070 then d.dbgPerm
  else match slotAt a 0x30060 4 4 with
    | some i => (d.tru.chal.getD 0) / 2 ^ (32 * (3 - i)) % 2 ^ 32
    | none => match slotAt a 0x30200 4 32 with
      | some j => sh.root (j / 16) / 2 ^ (32 * (15 - j % 16)) % 2 ^ 32
      | none => s

def Dev.viewDbg (d : Dev) (a s : Nat) : Nat :=
  if a = 0x50024 then setBit s 2 (bitOf d.dbgPerm 0) else if a = 0x50028 then d.idcode else s

/-- OFFSET rounded to 2⁻¹⁶ ns (R242, R455). -/
def Dev.offsetShown (d : Dev) : Int := (2 * 65536 * d.tim.off + nsU) / (2 * nsU)

/-- TIM: what master `m` last read as the time, the counter, the offset, the pending correction. -/
def Dev.viewTim (d : Dev) (m a s : Nat) : Nat :=
  let l := Tbl.get d.tim.now m {}
  let o := d.offsetShown
  if a = 0x80004 then setBit s 4 (d.tim.tod.isSome || d.tim.cap.isSome)
  else if a = 0x80010 then l.frac + l.epoch * 2 ^ 16
  else if a = 0x80014 then l.ns
  else if a = 0x80018 then l.sec % 2 ^ 32
  else if a = 0x8001C then l.sec / 2 ^ 32 % 2 ^ 16
  else if a = 0x80020 then d.tim.ctr % 2 ^ 32
  else if a = 0x80024 then d.tim.ctr / 2 ^ 32
  else if a = 0x80030 then (o % 65536).toNat
  else if a = 0x80034 then (o / 65536 % 1000000000).toNat
  else if a = 0x80038 then (o / 65536 / 1000000000 % 2 ^ 32).toNat
  else if a = 0x8003C then (o / 65536 / 1000000000 / 2 ^ 32 % 2 ^ 16).toNat
  else if a = 0x80068 then unsigned 32 (sat32 (roundPs d.tim.pend))
  else s

/-- PWR: the voltage and the current of a rail as its controller last sensed them, every 10 µs (R389). -/
def Dev.viewPwr (d : Dev) (a s : Nat) : Nat :=
  match slotAt a 0x2010C 0x20 6 with
  | some k => if d.core / 12500 = 0 then s else Config.sensed 0 k (d.core / 12500) % 2 ^ 24
  | none => s

/-- LN: the coefficient snapshot (R51), the serial number, the standby side's health, the gain the analogue front end has. -/
def Dev.viewLn (d : Dev) (a s : Nat) : Nat :=
  let n := (a - 0x100000) / 0x40000
  let o := a % 0x40000
  if (0x100 ≤ o ∧ o < 0x17C) ∨ (0x180 ≤ o ∧ o < 0x18C) then Tbl.get d.latch a (Reg.rst (a * 32))
  else if o = 0x18 then (if d.rxOn n then setBits s 2 8 (Config.sensed 1 n d.core) else s)
  else if o = 0x2000C then d.vssn n
  else if a = 0x131104 then setBit s 1 d.stbyOk
  else s

def Dev.viewCph (d : Dev) (a s : Nat) : Nat :=
  match slotAt a 0x201000 16 52 with | some k => setBit s 3 (d.cphUp && d.slotCurrent k) | none => s

def Dev.viewPcl (d : Dev) (a s : Nat) : Nat :=
  if a = 0x300100 then setBit s 18 (d.famReady .pcl false)
  else if a = 0x300104 then d.flight d.actTag % 2 ^ 24
  else if a = 0x300108 then (if d.fld Reg.PCL_GEN_STAT.HELD_KIND = 0 then 0 else d.flight d.heldTag % 2 ^ 24)
  else if a = 0x30010C then (d.fam .pcl).log.length + (d.fam .pcl).held.length * 2 ^ 16
  else match slotAt a 0x300130 4 4 with
    | some k => (d.slice k).rqOut.length + (d.slice k).rqBack.length
    | none => s

def Dev.viewTmg (d : Dev) (a s : Nat) : Nat :=
  if a = 0x800100 then setBit (s % 2 ^ 16) 3 (d.famReady .tmg false) + (d.fam .tmg).log.length % 2 ^ 16 * 2 ^ 16
  else if a = 0x800304 then d.sharedFree
  else if a = 0x800308 then d.guarFree
  else if a = 0x800404 then (if d.tm.sidingOn then d.tm.sidingSize - d.tm.sidingUsed else 0)
  else match slotAt a 0x900000 8 65536 with
    | some q => (d.queue q).cells + bit (d.queue q).spill * 2 ^ 19
    | none => match slotAt a 0x900004 8 65536 with
      | some q => cellsIn (d.queue q).siding
      | none => match slotAt a 0x808000 4 2048 with
        | some j =>
          let o := Tbl.get d.tm.occ (j / 4) {}
          (if j % 4 = 0 then o.ondie else if j % 4 = 1 then o.siding else if j % 4 = 2 then o.frames else 0) % 2 ^ 32
        | none => s

/-- RP: credits, standby member, role and address, pending events, the snapshot selected. -/
def Dev.viewRp (d : Dev) (a s : Nat) : Nat :=
  if a = 0x1C20004 then (if d.worker then s else setBits (setBit s 1 true) 2 5 0)
  else if a = 0x1C20480 then
    ((List.range 32).filter (fun k => d.fld (Reg.RP_DEV_EVT.SUMMARY k) != 0)).foldl (fun v k => v + 2 ^ k) 0
  else
    let snap := fun c => if d.fld Reg.RP_SNAP_SEL.PORT ≤ 451 then Tbl.get d.hier.snap (32 * d.fld Reg.RP_SNAP_SEL.PORT + c) 0 else 0
    match slotAt a 0x1C20700 8 27 with
    | some c => snap c % 2 ^ 32
    | none => match slotAt a 0x1C20704 8 27 with
      | some c => snap c / 2 ^ 32 % 2 ^ 16
      | none => match slotAt a 0x1C00004 0x40000 4 with
        | some p =>
          let l := d.rlink p
          let standby := d.rpUp p && (match d.pairOf p with | some (k, ab) => d.pairActive k ab != p | none => false)
          setBit (setBits (setBits s 6 10 (min 512 l.dcredit)) 16 5 (min 16 l.mcredit)) 21 standby
        | none => s

def Dev.viewDmc (d : Dev) (a s : Nat) : Nat :=
  match slotAt a 0x1E00100 16 4 with
  | some c =>
    let x := d.dch c
    setBit (setBits (setBits s 11 7 x.rq.length) 18 7 x.wq.length) 25 x.pour
  | none => s

/-- SM: READY of the gate tables, and the gates of a port as its schedule gives them now (R232). -/
def Dev.viewSm (d : Dev) (a s : Nat) : Nat :=
  if a = 0x1000140 then setBit s 3 (d.famReady .tt false)
  else if a < 0x1700000 ∧ a % 0x1000 = 4 ∧ 0x1000 ≤ a % 0x10000 ∧ a % 0x10000 < 0x5000 then
    setBits s 16 8 (d.gatesAt (4 * ((a - 0x1000000) / 0x10000) + (a % 0x10000 / 0x1000 - 1)) d.time)
  else s

/-- The word at `a` as master `m` would read it, before the latches of R16. -/
def Dev.word (d : Dev) (m a : Nat) : Nat :=
  let s := d.stored a
  if a < 0x10000 then d.viewChip a s
  else if a < 0x20000 then d.viewGen a s
  else if a < 0x30000 then d.viewPwr a s
  else if a < 0x40000 then d.viewTru a s
  else if a < 0x50000 then s
  else if a < 0x80000 then d.viewDbg a s
  else if a < 0x100000 then d.viewTim m a s
  else if a < 0x200000 then d.viewLn a s
  else if a < 0x300000 then d.viewCph a s
  else if a < 0x800000 then d.viewPcl a s
  else if a < 0x1000000 then d.viewTmg a s
  else if a < 0x1C00000 then d.viewSm a s
  else if a < 0x1D00000 then d.viewRp a s
  else if a < 0x1E00000 then (if a = 0x1D000C0 ∧ ¬ d.hifUp then 0 else s)
  else if a < 0x1F00000 then d.viewDmc a s
  else s

/-- The word at `a` as an access without side effects shows it: a higher word of a wide value as latched (R16). -/
def Dev.view (d : Dev) (m a : Nat) : Nat :=
  match wideOf a with
  | some (lo, _) => if a = lo then d.word m a else Tbl.get d.latch a 0
  | none => d.word m a

/-- An aligned read of the low word `lo` latches the higher words (R16). -/
def Dev.latchWide (d : Dev) (m lo n : Nat) : Dev :=
  d.each (List.range (n - 1)) (fun d i => { d with latch := Tbl.set d.latch (lo + 4 * (i + 1)) (d.word m (lo + 4 * (i + 1))) })

/-- Return the RC fields of the register at `a` to their reset values. -/
def Dev.readClear (d : Dev) (a : Nat) : Dev :=
  match Reg.find a with
  | none => d
  | some r => d.each (r.fields.filter (fun f => f.acc == .rc)) (fun d f => d.unput ⟨a, f.lo, f.w⟩)

end Sys2Proof.Machine
end

