-- ==== Sys2Proof/Machine/Bus.lean ====
section
/-!
DEFINITION. The register bus (spec/01 R39 to R42): what a read returns and what it does besides, what a write does to
every register, and the counted accesses. A register whose write does more than set its fields has its own line here,
which calls the operation of its chapter.
-/
namespace Sys2Proof.Machine

/-! ### Counted accesses (R39, R40) -/

/-- Record a counted access: KIND 0 unmapped, 1 narrow or unaligned; an access that is both has KIND 0 and BOTH 1. -/
def Dev.busAddr (d : Dev) (m : Master) (a kind both : Nat) : Dev :=
  (((d.put Reg.CHIPCAP_BUS_ADDR.ADDR a).put Reg.CHIPCAP_BUS_ADDR.KIND kind).put Reg.CHIPCAP_BUS_ADDR.MASTER m.num).put
    Reg.CHIPCAP_BUS_ADDR.BOTH both

/-- An access to an address that no chapter defines. -/
def Dev.unmapped (d : Dev) (m : Master) (a : Nat) : Dev := (d.bump Reg.CHIPCAP_BUS_STAT.UNMAPPED_CNT).busAddr m a 0 0

/-- A narrow or unaligned access at byte address `a`. -/
def Dev.narrow (d : Dev) (m : Master) (a : Nat) : Dev :=
  let d1 := d.bump Reg.CHIPCAP_BUS_STAT.NARROW_CNT
  if (Reg.find (a / 4 * 4)).isSome then d1.busAddr m a 1 0
  else (d1.bump Reg.CHIPCAP_BUS_STAT.UNMAPPED_CNT).busAddr m a 0 1

/-- What an access without side effects gives. -/
def Dev.peek (d : Dev) (m : Master) (a : Nat) : Nat :=
  if (Reg.find a).isNone then 0 else if d.absent a then absentWord a else d.view m.num a

/-! ### Reads -/

/-- The reads that produce their value (R40). -/
def Dev.readFirst (d : Dev) (m : Master) (a : Nat) : Dev :=
  if a = Reg.TIM_NOW_FRAC.ADR then (d.nowRead m.num (d.freeVal 3)).freed
  else if a = Reg.TRU_DBG_CHAL.ADR 0 then d.drawChallenge
  else match slotAt a (Reg.LN_FFE.ADR 0 0) 0x40000 4 with
    | some n => d.ffeSnapshot n
    | none => d

/-- What a read does once its value is taken: higher words latched, RC fields cleared (R15, R16). A higher word of a wide
value is cleared by the read of its lowest word alone. -/
def Dev.readThen (d : Dev) (m : Master) (a : Nat) : Dev :=
  match wideOf a with
  | some (lo, n) =>
    if a = lo then ((d.latchWide m.num lo n).readClear a).each (List.range (n - 1)) (fun d i => d.readClear (lo + 4 * (i + 1)))
    else d
  | none => d.readClear a

/-- An aligned read by a master: the device after it, and the value. A reseed that falls due with a read of
TRU.RNG_DATA finds a good seed or not (a free value). -/
def Dev.busRead (d : Dev) (m : Master) (a : Nat) : Dev × Nat :=
  if (Reg.find a).isNone then (d.unmapped m a, 0)
  else if d.absent a then (d, absentWord a)
  else if a = Reg.TRU_RNG_DATA.ADR then (d.freed.rngRead (d.freeVal 1 == 1))
  else
    let d1 := d.readFirst m a
    (d1.readThen m a, d1.view m.num a)

/-- The answer goes to the master. -/
def Dev.answered (m : Master) (a : Nat) (r : Dev × Nat) : Dev := r.1.emit (.busRead m a (BitVec.ofNat 32 r.2))

/-! ### Writes -/

/-- Set the fields of the register at `a` from the word `v`: RW fields take it, W1C fields clear and W1S fields set
where it has a 1 (R15). -/
def Dev.plainWrite (d : Dev) (a v : Nat) : Dev :=
  match Reg.find a with
  | none => d
  | some r => d.each r.fields (fun d f =>
      let g : Fld := ⟨a, f.lo, f.w⟩
      let x := bits v f.lo f.w
      match f.acc with
      | .rw => d.put g x
      | .w1c => d.put g (d.fld g - (d.fld g &&& x))
      | .w1s => d.put g (d.fld g ||| x)
      | _ => d)

/-- Operations of TBL_CMD and TT_CMD (R185, R217, R235). -/
def Dev.tblWrite (d : Dev) (x : Family) (v : Nat) : Dev :=
  let t := bits v 4 4
  let view := bits v 8 2
  let loc := if x == .tt then bits v 10 14 else bits v 10 18
  d.tblCmd x { op := v % 16, table := t, loc := loc, view := view }

/-- A data word of a table family. -/
def Dev.tblWord (d : Dev) (x : Family) (i v : Nat) : Dev :=
  let d1 := d.put (x.word i) v
  d1.setFam x { d1.fam x with written := setBit (d1.fam x).written i true }

/-- A write of GEN.CMD: ignored, whatever its code, while a command runs (R362). -/
def Dev.genWrite (d : Dev) (v : Nat) : Dev :=
  match v % 16 with
  | 1 => d.commitStart false (bitOf v 4) (bits v 16 16)
  | 2 => d.commitStart true (bitOf v 4) (bits v 16 16)
  | 3 => d.abortCommit
  | 4 => d.confirmCmd
  | 5 => d.rollbackCmd
  | 6 => d.renumber
  | 7 => d.discardStart
  | _ => d.genCmd id

/-- The commands of TMG.NODE_CMD (R193, R195, R210): their effect falls at the write, the status and the level read at
the completion (notes/assumptions/12.md). -/
def Dev.nodeRuns (d : Dev) (r : Nat × Option Int) : Dev :=
  { d.put Reg.TMG_NODE_STAT.BUSY 1 with tm := { (d.put Reg.TMG_NODE_STAT.BUSY 1).tm with nodeCmd := some r } }

/-- The bucket that BKT and INDEX name, or none (BAD_LOC). -/
def bktNamed (b i : Nat) : Option Nat :=
  if b < 2 ∨ (b < 4 ∧ Family.locOk .tmg b i) then some (bktKey b i) else none

def Dev.bucketReset (d : Dev) (b i : Nat) : Dev :=
  match bktNamed b i with
  | some k => (d.setBkt k { d.bkt k with level := (d.bkt k).burst * 8000 }).nodeRuns (stOk, none)
  | none => d.nodeRuns (stBadLoc, none)

def Dev.readLevel (d : Dev) (b i : Nat) : Dev :=
  match bktNamed b i with
  | some k => d.nodeRuns (stOk, some (d.bkt k).level)
  | none => d.nodeRuns (stBadLoc, none)

/-- A write of TMG.NODE_CMD. -/
def Dev.nodeWrite (d : Dev) (v : Nat) : Dev :=
  let op := v % 8
  let b := bits v 3 3
  let i := bits v 6 16
  if op = 0 ∨ 4 ≤ op then d
  else if d.on Reg.TMG_NODE_STAT.BUSY then d.ev Reg.TMG_NODE_STAT.IGNORED
  else if op = 1 then d.bucketReset b i
  else if op = 2 then (d.flush i).nodeRuns (stOk, none)
  else d.readLevel b i

/-- The command completes: its status, and the level of READ_LEVEL as a 41-bit number. -/
def Dev.nodeDone (d : Dev) : Dev :=
  match d.tm.nodeCmd with
  | none => d
  | some (st, l) =>
    let d1 := { (d.put Reg.TMG_NODE_STAT.STATUS st).put Reg.TMG_NODE_STAT.BUSY 0 with tm := { d.tm with nodeCmd := none } }
    let d2 := d1.ev Reg.TMG_EVT.CMD_DONE
    match l with
    | some x => d2.putWide Reg.TMG_NODE_DATA_LO.LEVEL Reg.TMG_NODE_DATA_HI.LEVEL (unsigned 41 x)
    | none => d2

/-- A queue is in SPILL. -/
def Dev.spilling (d : Dev) : Bool := d.tm.queues.any (fun e => e.2.spill)

/-- EN written 0 comes into effect once no queue is in SPILL (R205). -/
def Dev.sidingOff (d : Dev) : Dev :=
  if d.tm.sidingOn && !d.on Reg.TMG_SIDING_CFG.EN && !d.spilling then { d with tm := { d.tm with sidingOn := false } } else d

/-- A write of TMG.SIDING_CFG: SIDING_CELLS is taken up when EN changes from 0 to 1, at most the region (R205). -/
def Dev.sidingCfg (d : Dev) (v : Nat) : Dev :=
  let d1 := (d.put Reg.TMG_SIDING_CFG.SIDING_CELLS v).put Reg.TMG_SIDING_CFG.EN (bits v 27 1)
  if bitOf v 27 then
    if d.tm.sidingOn then d1
    else { d1 with tm := { d1.tm with sidingOn := true, sidingSize := min (v % 2 ^ 27) ((d.region 0).2 * 4096) } }
  else d1.sidingOff

/-- A write of LN.EQ_CTRL: ADAPT 3 is not taken; PRESET acts while ADAPT is 0 (R50, R51). -/
def Dev.eqWrite (d : Dev) (n v : Nat) : Dev :=
  let old := d.fld (Reg.LN_EQ_CTRL.ADAPT n)
  let d1 := (d.adaptNow n).plainWrite (Reg.LN_EQ_CTRL.ADR n) v
  let d2 := if v % 4 = 3 then d1.put (Reg.LN_EQ_CTRL.ADAPT n) old else d1
  d2.iff (bitOf v 9) (·.eqPreset n)

/-- A write of LN.CTRL: the polarity of LCn_SD, which DSD follows while the channel is held, then RX_EN. -/
def Dev.rxWrite (d : Dev) (n v : Nat) : Dev :=
  (((d.put (Reg.LN_CTRL.SD_POL n) (bits v 1 1)).iff (!d.lnUp n) (·.dsdPin n)).rxEnable n (bitOf v 0)).lineMoved n

/-- A write of LN.ACT_CTRL: every field but EN, then EN; NEED_CPROF written 0 may be what O1.2 waited for (R84, R87). -/
def Dev.actWrite (d : Dev) (n v : Nat) : Dev :=
  let en := d.fld (Reg.LN_ACT_CTRL.EN n)
  let d1 := (d.plainWrite (Reg.LN_ACT_CTRL.ADR n) v).put (Reg.LN_ACT_CTRL.EN n) en
  let d2 := if bitOf v 0 then d1.actEnable n else d1.actDisable n
  (d2.iff d2.tenderRuns (·.learn n)).iff (d2.txDis n) (·.txCut n)

/-- A write of PROT_CTRL: its fields, the triggers evaluated afresh, then CMD (R129, R132). In the cycle of an automatic
switch a command gives that one switch, with the automatic cause, and ARMED written 0 does not stop it. -/
def Dev.protWrite (d : Dev) (v : Nat) : Dev :=
  let d1 := (d.plainWrite Reg.LN_PROT_CTRL.ADR v).defectsMoved
  let armed := bitOf v (Reg.LN_PROT_CTRL.ARMED).lo
  if d.autoDue && (bits v 4 2 == 1 || bits v 4 2 == 2 || !armed) then (d1.put Reg.LN_PROT_CTRL.ARMED 0).protSwitch 1
  else if bits v 4 2 = 1 then d1.protManual else if bits v 4 2 = 2 then d1.protForced else d1

/-- Channel n and offset of an LN address. -/
def Dev.writeLn (d : Dev) (a v : Nat) : Dev :=
  let n := (a - 0x100000) / 0x40000
  let o := a % 0x40000
  if a = Reg.LN_LINE_MODE.ADR then (d.lineModeWrite v).refMoved
  else if a = Reg.LN_PROT_CTRL.ADR then (d.protWrite v).refMoved
  else if 0x132000 ≤ a ∧ a < 0x134000 then (if a % 8 = 0 then d.bondCfg ((a - 0x132000) / 8) v else d)
  else if o = 0 then d.rxWrite n v
  else if o = 0x10 then d.eqWrite n v
  else if o = 0x20 then (d.plainWrite a v).iff (bitOf v 13) (fun d => (d.toHunt n).lineMoved n)
  else if o = 0x30 then (d.plainWrite a v).traceOff n
  else if 0x100 ≤ o ∧ o < 0x17C then d.ffeWrite n ((o - 0x100) / 4) (v % 1024)
  else if 0x180 ≤ o ∧ o < 0x18C then d.ffeWrite n (31 + (o - 0x180) / 4) (v % 1024)
  else if o = 0x304 then d.pmSelect n (v % 2) (bits v 1 6)
  else if 0x1000 ≤ o ∧ o < 0x5000 then d.xportWrite n ((o - 0x1000) / 4) v
  else if o = 0x20000 then d.actWrite n v
  else if (o = 0x2000C ∨ o = 0x20044 ∨ (0x20010 ≤ o ∧ o < 0x20034)) ∧ d.actEn n then d
  else if o = 0x20060 then (d.plainWrite a v).powerCheck n
  else if 0x20200 ≤ o ∧ o < 0x20400 then d.allocBind n ((o - 0x20200) / 4) (bits v 16 10)
  else d.plainWrite a v

/-- A write of CPH.LINE_US_CTRL or RSR_CTRL: its fields, then SW_ARM (R144, R152). -/
def Dev.lineSwWrite (d : Dev) (n v : Nat) : Dev :=
  let d1 := d.put (Reg.CPH_LINE_US_CTRL.NEXT_IDX n) (bits v 2 2)
  if bitOf v 4 then d1.lineArm n (d.sfc n) else d1.put (Reg.CPH_LINE_US_CTRL.SW_ARM n) 0

def Dev.rsrWrite (d : Dev) (p v : Nat) : Dev :=
  let d1 := (d.put (Reg.CPH_RSR_CTRL.TX_CIPHER p) v).put (Reg.CPH_RSR_CTRL.RX_CIPHER p) (bits v 1 1)
  if bitOf v 4 then d1.rsrArm p else d1.put (Reg.CPH_RSR_CTRL.SW_ARM p) 0

def Dev.writeCph (d : Dev) (a v : Nat) : Dev :=
  if a = Reg.CPH_KEY_CMD.ADR then d.keyCmd (v % 8) (bits v 8 6)
  else match slotAt a (Reg.CPH_KEY_IN.ADR 0) 4 10 with
    | some i => d.put (Reg.CPH_KEY_IN.DATA i) v
    | none => match slotAt a (Reg.CPH_LINE_US_CTRL.ADR 0) 0x10 4 with
      | some n => d.lineSwWrite n v
      | none => match slotAt a (Reg.CPH_RSR_CTRL.ADR 0) 0x10 4 with
        | some p => d.rsrWrite p v
        | none => d.plainWrite a v

def Dev.writePcl (d : Dev) (a v : Nat) : Dev :=
  if a = Reg.PCL_TBL_CMD.ADR then d.tblWrite .pcl v
  else match slotAt a (Reg.PCL_TBL_DATA.ADR 0) 4 48 with
    | some i => d.tblWord .pcl i v
    | none => d.plainWrite a v

def Dev.writeTmg (d : Dev) (a v : Nat) : Dev :=
  if a = Reg.TMG_TBL_CMD.ADR then d.tblWrite .tmg v
  else if a = Reg.TMG_NODE_CMD.ADR then d.nodeWrite v
  else if a = Reg.TMG_SIDING_CFG.ADR then d.sidingCfg v
  else match slotAt a (Reg.TMG_TBL_DATA.ADR 0) 4 16 with
    | some i => d.tblWord .tmg i v
    | none => d.plainWrite a v

/-- Subscriber MACs: the gate tables of SM[0], the lane, and the port registers that its flow control reads. -/
def Dev.writeSm (d : Dev) (a v : Nat) : Dev :=
  let n := (a - 0x1000000) / 0x10000
  let o := a % 0x10000
  if a = Reg.SM_TT_CMD.ADR then d.tblWrite .tt v
  else match slotAt a (Reg.SM_TT_DATA.ADR 0) 4 8 with
    | some i => d.tblWord .tt i v
    | none =>
      if o = 0 then d.laneCtrl n (v % 8) (bitOf v 3)
      else
        let j := o / 0x1000 - 1
        let d1 := d.plainWrite a v
        if 0x1000 ≤ o ∧ (o % 0x1000 = 0 ∨ o % 0x1000 = 0x20 ∨ o % 0x1000 = 0x24) then
          (d1.iff (!d1.eeeOn n j) (·.lpiEnd n j)).fcUpdate (4 * n + j)
        else d1

/-- A write of SL.LADDER: AUTO written 1, with RESTART or without, starts the walk, and AUTO 0 ends one (R269). -/
def Dev.ladderWrite (d : Dev) (n v : Nat) : Dev :=
  let d1 := d.plainWrite (Reg.SL_LADDER.ADR n) v
  if bitOf v 12 then d1.walkStart n else d1.walkStop n

/-- A write of PAT_USER: a pattern of code 7 goes on with the new bits (R283). -/
def Dev.userWrite (d : Dev) (x : SerLane) (a v : Nat) : Dev :=
  (d.plainWrite a v).iff (d.fld (laneFld Reg.SL_PAT_CTRL.TX_PAT Reg.RP_LANE_PAT_CTRL.TX_PAT x) == 7) (·.patSend x)

/-- The registers of a serial lane at offset `o` of its area. -/
def Dev.laneWrite (d : Dev) (x : SerLane) (o a v : Nat) : Dev :=
  if o = 0x10 then d.txeqWrite x v
  else if o = 0x14 then d.rxeqWrite x v
  else if o = 0x20 then d.eyeWrite x v
  else if o = 0x30 then d.patWrite x v
  else if o = 0x34 ∨ o = 0x38 then d.userWrite x a v
  else d.plainWrite a v

def Dev.writeSl (d : Dev) (a v : Nat) : Dev :=
  let n := (a - 0x1800000) / 0x4000
  let o := a % 0x4000
  if o = 0 then d.ladderWrite n v else d.laneWrite (.sub (Fin.ofNat 112 n)) o a v

/-- A write of RP.PHY_CTRL: its fields, then RESTART. Under a pattern the lanes and the clock run at FORCE_RATE as it
stands (R283); CLK_OK is lost where the clock no longer fits it. A page whose RATES or UPPER has changed goes out anew, and pages go
out again where FORCE ends. -/
def Dev.phyWrite (d : Dev) (p v : Nat) : Dev :=
  let d1 := d.plainWrite (Reg.RP_PHY_CTRL.ADR p) v
  let d2 := d1.iff (d1.rpUp p && d1.phyPattern p) (·.put (Reg.RP_PHY_STAT.RATE p) (d1.forceRate p))
  if bitOf v 26 then d2.phyRestart p
  else d2.iff (d2.ownPage p != d.ownPage p || d.on (Reg.RP_PHY_CTRL.FORCE p)) (·.sendPage p)

def Dev.writeRp (d : Dev) (a v : Nat) : Dev :=
  let p := (a - 0x1C00000) / 0x40000
  let o := a % 0x40000
  if a = Reg.RP_HIER_CTRL.ADR then d.hierCtrl v
  else if a = Reg.RP_PROBE_CMD.ADR then d.iff (bitOf v 7) (·.probeGo (v % 4) (bits v 2 5))
  else if a = Reg.RP_GOP_CTRL.ADR then d.gopCtrl v
  else match slotAt a (Reg.RP_RACC_CMD.ADR 0) 0x10 4 with
    | some k => d.raccCmd k v
    | none =>
      if o = 0 then d.linkCtrl p v
      else if o = 0x30000 then d.phyWrite p v
      else if 0x30100 ≤ o ∧ o < 0x30300 then
        d.laneWrite (.riser (Fin.ofNat 4 p) (Fin.ofNat 2 ((o - 0x30100) / 0x100))) (o % 0x100) a v
      else d.plainWrite a v

/-- A ring of domain k is enabled. -/
def Dev.domBusy (d : Dev) (k : Nat) : Bool := (List.range 16).any (fun j => d.ringEn (16 * k + j))

/-- A write of RING_CTRL by an access that carries nothing of host memory: the doorbell slot is taken to hold the
device's index, as R327 asks of software (notes/assumptions/13.md). -/
def Dev.ringWrite (d : Dev) (r v : Nat) : Dev := if bitOf v 0 then d.ringEnable r (d.idx r) [] else d.ringDisable r

def Dev.writeHif (d : Dev) (a v : Nat) : Dev :=
  if 0x1D00100 ≤ a ∧ a < 0x1D00300 then
    let k := (a - 0x1D00100) / 0x20
    let o := a % 0x20
    if o = 0 then (d.backoffDis k (bitOf v 2)).domainBind k (v % 4)
    else if 8 ≤ o ∧ o < 0x18 ∧ d.domBusy k then d
    else d.plainWrite a v
  else if 0x1D01000 ≤ a ∧ a < 0x1D03000 then
    let r := (a - 0x1D01000) / 0x20
    let o := a % 0x20
    if o = 0x14 then d.ringWrite r v
    else if o = 0x1C then d.idxWrite r v
    else if o = 0 ∧ d.ringEn r then d
    else d.plainWrite a v
  else d.plainWrite a v

/-- A write of DMC.CTRL; as initialisation starts, each present channel asks for its wake (R399). -/
def Dev.dmcWrite (d : Dev) (v : Nat) : Dev :=
  let was := d.fld Reg.DMC_STAT.STATE
  let d1 := d.dmcCtrl v
  d1.iff (was != 1 && d1.fld Reg.DMC_STAT.STATE == 1) (fun d => d.each d.dchans (fun d c => d.wakeAsk (236 + c)))

def Dev.writeDmc (d : Dev) (a v : Nat) : Dev :=
  if a = Reg.DMC_CTRL.ADR then d.dmcWrite v
  else if 0x1E00020 ≤ a ∧ a < 0x1E00038 then d.dmcRgn ⟨a, 0, 15⟩ v
  else d.plainWrite a v

def Dev.writeTim (d : Dev) (a v : Nat) : Dev :=
  if a = Reg.TIM_CTRL.ADR then d.timCtrl v
  else if a = Reg.TIM_RATE.ADR then d.rateWrite v
  else if a = Reg.TIM_SLEW.ADR then d.slewWrite v
  else if a = Reg.TIM_TOD_ARM.ADR then d.iff (bitOf v 0) (·.todArm)
  else if a = Reg.TIM_XFER_EQD0.ADR then d.eqd0Write v
  else if a = Reg.TIM_XFER_ASYM.ADR then d.asymWrite v
  else if a = Reg.TIM_PLL_CTRL.ADR then d.pllWrite v
  else (d.plainWrite a v).clampHold

def Dev.writePwr (d : Dev) (a v : Nat) : Dev :=
  if a = Reg.PWR_CTRL.ADR then d.pwrCtrl v
  else if a = Reg.PWR_GATE.ADR then d.gateWrite v
  else if a = Reg.PWR_RTC_SEC.ADR then d.rtcWrite v
  else if a = Reg.PWR_WDOG.ADR then d.wdogWrite v
  else match slotAt a (Reg.PWR_RAIL_VSET.ADR 0) 0x20 6 with
    | some k => d.vsetWrite k (v % 2 ^ 11)
    | none => d.plainWrite a v

/-- CVU and DBG. -/
def Dev.writeCvu (d : Dev) (m : Master) (a v : Nat) : Dev :=
  let u := (a - 0x40000) / 0x100
  let o := a % 0x100
  if o = 0 then d.cvuCtrl m u v
  else if o = 0x10 then d.cvuData m u 1 v
  else if o = 0x14 then d.cvuData m u 2 v
  else if o = 0x18 then d.cvuData m u 4 v
  else d.plainWrite a v

def Dev.writeDbg (d : Dev) (a v : Nat) : Dev :=
  if a = Reg.DBG_CTRL.ADR then d.dbgCtrl v
  else match slotAt a (Reg.DBG_CKO.ADR 0) 4 2 with
    | some i => d.ckoWrite i v
    | none => d.plainWrite a v

def Dev.writeChip (d : Dev) (a v : Nat) : Dev :=
  if a = Reg.CHIPCAP_RST_CTRL.ADR then d.rstCtrl v
  else if a = Reg.CHIPCAP_BLOCK_RST.ADR then d.blockRst v
  else match slotAt a (Reg.CHIPCAP_I2C_CMD.ADR 0) 0x10 4 with
    | some b => d.i2cCmd b v
    | none => match slotAt a (Reg.CHIPCAP_MDIO_CMD.ADR 0) 0x10 2 with
      | some k => d.mdioCmd k v
      | none => d.plainWrite a v

def Dev.writeGen (d : Dev) (a v : Nat) : Dev :=
  if a = Reg.GEN_CMD.ADR then d.genWrite v
  else if a = Reg.GEN_FW_CTRL.ADR then (d.plainWrite a v).iff (bitOf v 2) (·.fwConfirm)
  else d.plainWrite a v

def Dev.writeTru (d : Dev) (a v : Nat) : Dev :=
  if a = Reg.TRU_CMD.ADR then d.truCmd (v % 16) (bits v 4 8) else d.plainWrite a v

/-- A write to a register that its block defines and whose unit is present. -/
def Dev.regWrite (d : Dev) (m : Master) (a v : Nat) : Dev :=
  if a < 0x10000 then d.writeChip a v
  else if a < 0x20000 then d.writeGen a v
  else if a < 0x30000 then d.writePwr a v
  else if a < 0x40000 then d.writeTru a v
  else if a < 0x50000 then d.writeCvu m a v
  else if a < 0x80000 then d.writeDbg a v
  else if a < 0x100000 then d.writeTim a v
  else if a < 0x200000 then d.writeLn a v
  else if a < 0x300000 then d.writeCph a v
  else if a < 0x800000 then d.writePcl a v
  else if a < 0x1000000 then d.writeTmg a v
  else if a < 0x1800000 then d.writeSm a v
  else if a < 0x1C00000 then d.writeSl a v
  else if a < 0x1D00000 then d.writeRp a v
  else if a < 0x1E00000 then d.writeHif a v
  else if a < 0x1F00000 then d.writeDmc a v
  else if a = Reg.CPX_TND_CTRL.ADR then d.iff (bitOf v 0) (·.tenderRestart)
  else d.plainWrite a v

/-- An aligned write by a master. -/
def Dev.busWrite (d : Dev) (m : Master) (a v : Nat) : Dev :=
  if (Reg.find a).isNone then d.unmapped m a
  else if d.absent a then d
  else d.regWrite m a v

end Sys2Proof.Machine
end

