-- ==== Sys2Proof/Machine/Remote.lean ====
section
/-!
DEFINITION. The management records as a device handles them (spec/11 R303 to R305), the register accesses that they and
the trust port of the TAP make, and the instant of a global operation.
-/
namespace Sys2Proof.Machine

/-- A remote access to a register as bus master 3 (R305): RD_REQ and WR_REQ, each answered with RESP. An address that is
not aligned is a narrow access (R40). -/
def Dev.remoteRead (d : Dev) (r : Rec) : Dev :=
  let a := r.at_ 4 4 % 2 ^ 25
  let x := if a % 4 = 0 then d.busRead .riser a else (d.narrow .riser a, d.peek .riser (a / 4 * 4))
  x.1.routeRec 4 (x.1.mkRec 3 r.src false r.tag (beBytes (r.at_ 4 4) 4 ++ beBytes x.2 4 ++ beBytes 0 1))

def Dev.remoteWrite (d : Dev) (r : Rec) : Dev :=
  let a := r.at_ 4 4 % 2 ^ 25
  let d1 := if a % 4 = 0 then d.busWrite .riser a (r.at_ 8 4) else d.narrow .riser a
  d1.routeRec 4 (d1.mkRec 3 r.src false r.tag (beBytes (r.at_ 4 4) 4 ++ beBytes 0 4 ++ beBytes 0 1))

/-- A record is handled by this device (R303). `p` is the riser port on which it came (4: this device itself). -/
def Dev.handle (d : Dev) (p : Nat) (r : Rec) (s : Stamp) : Dev :=
  match r.typ with
  | 0 => d
  | 1 => d.remoteRead r
  | 2 => d.remoteWrite r
  | 3 => d.resp r
  | 4 => d.eventRx r
  | 5 => d.probe p r
  | 6 => d.probeReply p r
  | 7 => d.homingRx p
  | 8 => d.syncRx p r s
  | 9 => d.followRx p r
  | 10 => d.dreqRx p r s
  | 11 => d.drespRx p r
  | 12 => d.gopArm r
  | 13 => d.gopCancelRx r
  | 14 => d.gopReport r
  | _ => if p < 4 then d.linkCnt p 8 else d

/-- A record has arrived (R304): handled, forwarded, or both. -/
def Dev.recordIn (d : Dev) (p : Nat) (r : Rec) (s : Stamp) : Dev :=
  if r.loc then d.handle p r s
  else if !d.addrValid then d
  else if r.dst = 31 then (d.handle p r s).broadcast p r
  else if r.dst = d.devAddr then d.handle p r s
  else d.routeRec p r

/-- The records that wait to be handled, in order. -/
def Dev.drain (d : Dev) : Nat → Dev
  | 0 => d
  | fuel + 1 =>
    match d.hier.loop with
    | [] => d
    | (p, r, s) :: rest => Dev.drain ((d.setHier { d.hier with loop := rest }).recordIn p r s) fuel

/-- A record of riser port p, which carries records only while its receiver is aligned. -/
def Dev.recordOn (d : Dev) (p : Nat) (r : Rec) (s : Stamp) : Dev := if d.aligned p then d.recordIn p r s else d

/-- The instant of a global operation (R319), with the warm reset of OP 2. -/
def Dev.gopInstantRun (d : Dev) : Dev :=
  let x := d.gopExecute
  if x.2 then x.1.warmReset Reg.CHIPCAP_RST_CAUSE.HIER else x.1

/-- The access that the TAP's TRU_ACCESS register asked for, through the trust block's own port (R433): the bus counts
nothing. ERR says that the offset names no register of TRU (notes/assumptions/32.md). -/
def Dev.tapAccess (d : Dev) : Dev :=
  match d.tap.run with
  | none => d
  | some (wr, off, data) =>
    let a := 0x30000 + 4 * off
    let here := (Reg.find a).isSome && !d.absent a
    let x : Dev × Nat := if wr then (if here then d.regWrite .tender a data else d, d.tap.data)
      else if here then d.busRead .tender a else (d, 0)
    { x.1 with tap := { x.1.tap with run := none, done := true, err := !here, off := off, data := x.2 } }

end Sys2Proof.Machine
end

