-- ==== Sys2Proof/Machine/Irq.lean ====
section
/-!
DEFINITION. What follows every command: the interrupt outputs of the blocks (spec/11 R306, spec/12 R347), the events that a
worker reports, the records that wait, the frames of a riser port whose link is down; and the forms in which a command
acts on the main domain, the Crema domain or neither.
-/
namespace Sys2Proof.Machine

/-- The block (R306) whose interrupt output the event register at `a` drives; its enables stand at `a + 4`. -/
def evtBlock (a : Nat) : Option Nat :=
  if a = 0x10060 then some 13
  else if a = 0x20010 then some 10
  else if a = 0x30030 then some 11
  else if a = 0x800D0 then some 7
  else if a = 0x131108 then some 0
  else if a = 0x200100 then some 1
  else if a = 0x300110 then some 2
  else if a = 0x800410 then some 3
  else if a = 0x1C20008 then some 6
  else if a = 0x1D00010 then some 8
  else if a = 0x1E00070 then some 9
  else if (slotAt a 0x40030 0x100 4).isSome then some 12
  else if 0x100000 ≤ a ∧ a < 0x200000 then
    let o := a % 0x40000
    if o = 0x58 ∨ o = 0x68 ∨ o = 0x20070 then some 0 else none
  else if 0x1000000 ≤ a ∧ a < 0x1700000 then
    let o := a % 0x10000
    if o = 4 ∨ o = 0x1008 ∨ o = 0x2008 ∨ o = 0x3008 ∨ o = 0x4008 then some 4 else none
  else if (slotAt a 0x1800060 0x4000 112).isSome then some 5
  else if (slotAt a 0x1C30010 0x40000 4).isSome ∨ (slotAt a 0x1C00008 0x40000 4).isSome then some 6
  else none

/-- The blocks that assert their interrupt output, as a mask: an event bit at 1 with its enable at 1, and block 11 while
both boot slots have failed (R411). Events that no entry of `regs` lists are 0. -/
def Dev.irqOut (d : Dev) : Nat :=
  let boot := if d.fld Reg.TRU_BOOT_STAT.STATE = 2 then 2 ^ 11 else 0
  d.regs.foldl (fun v e =>
    if e.2 = 0 then v
    else match evtBlock (e.1 / 32) with
      | some b => if d.on ⟨e.1 / 32 + 4, e.1 % 32, 1⟩ then setBit v b true else v
      | none => v) boot

/-- A block's output rose, or stays asserted at the resend interval: its vector (R347). -/
def Dev.irqSend (d : Dev) (b : Nat) : Dev :=
  if d.on (Reg.HIF_IRQ_ROUTE.MSG_EN b) && d.hifUp then d.sendVec (d.fld (Reg.HIF_IRQ_ROUTE.DOM b)) (d.fld (Reg.HIF_IRQ_ROUTE.VEC b))
  else d

/-- INT_N is low: a block routed to the pin asserts its output. -/
def Dev.intLow (d : Dev) : Bool := (members d.irqOut 16).any (fun b => d.on (Reg.HIF_IRQ_ROUTE.PIN_EN b))

/-- The outputs as they now stand: vectors of those that rose, and a worker's EVENT. -/
def Dev.irqs (d : Dev) : Dev :=
  let now := d.irqOut
  let rose := (members now 16).filter (fun b => !bitOf d.hier.summary b)
  let d1 := d.setHier { d.hier with summary := now }
  (d1.each rose (fun d b => d.irqSend b)).iff (rose != []) (·.sendEvent now)

/-- The frames inside the device that have still to leave it: in input buffers, passes, queues and behind a port's frame in
transmission. -/
def Dev.frames (d : Dev) : List Frame :=
  d.inbuf.flatMap (·.2) ++ d.slices.flatMap (fun e => e.2.passes ++ e.2.rqOut ++ e.2.rqBack) ++
    d.tm.queues.flatMap (fun e => e.2.ondie ++ e.2.siding) ++ d.macs.filterMap (fun e => e.2.waiting.map (·.1))

/-- Records and receive rings go on (R331, R337, R344), host ports take their frames (R342), and a host frame whose stamp can no
longer come gets its record (R333). -/
def Dev.hostStep (d : Dev) : Dev :=
  let d1 := d.flushHost.hostPorts
  if d1.host.stamps.isEmpty then d1 else d1.unstamped d1.frames

/-- The host interface works until nothing of it moves: each round but the last delivers or drops a frame, or releases space. -/
def Dev.hostRounds (d : Dev) : Nat → Dev
  | 0 => d
  | fuel + 1 =>
    let d1 := d.hostStep
    if d1.host = d.host then d1 else Dev.hostRounds d1 fuel

def Dev.hostStage (d : Dev) : Dev :=
  if d.host.rings.isEmpty && d.host.stamps.isEmpty then d.hostPorts
  else d.hostRounds (4 + d.host.stamps.length + (d.host.rings.map (fun e => e.2.frames.length)).sum +
    (d.tm.queues.map (fun e => e.2.ondie.length)).sum)

/-- Host ports, records, debug clocks, interrupt outputs, records that those produced, and riser ports whose link is down
(R302). -/
def Dev.settle (d : Dev) : Dev :=
  let d1 := ((((d.hostStage).drain 64).ckoWatch).irqs).drain 64
  if d1.tm.queues.isEmpty then d1 else d1.each (List.range 4) (fun d p => d.downDrop p 64)

/-- What follows a command, while the main domain runs. -/
def Dev.after (d : Dev) : Dev := if d.mainUp then d.settle else d

/-- A command as a function of the device: the queue is not its concern. -/
def State.run (s : State) (f : Dev → Dev) : Out := .next { s with dev := (f s.dev).after }

/-- A command of the main domain: while the main domain is held in reset nothing happens (R44). -/
def State.main (s : State) (f : Dev → Dev) : Out := s.run (fun d => if d.mainUp then f d else d)

/-- A command of the Crema domain: while the Crema is held in reset nothing happens (R385). -/
def State.crema (s : State) (f : Dev → Dev) : Out := s.run (fun d => if d.cremaUp then f d else d)

end Sys2Proof.Machine
end

