-- ==== Sys2Proof/Machine/CmdChip.lean ====
section
/-!
DEFINITION. Commands of spec/01: register accesses, resets and their pins, the token buckets and slots of a slice, and the
input buffers.
-/
namespace Sys2Proof.Machine

/-- An access of a master to the byte address `a` by a full word: where `a` is not a multiple of 4 it is an unaligned access
(R40). A read is answered to the master. -/
def Dev.access (d : Dev) (m : Master) (a : Nat) (op : BusOp) : Dev :=
  if a % 4 ≠ 0 then
    match op with
    | .read => (d.narrow m a).emit (.busRead m a (BitVec.ofNat 32 (d.peek m (a / 4 * 4))))
    | .write _ => d.narrow m a
  else match op with
    | .read => Dev.answered m a (d.busRead m a)
    | .write v => d.busWrite m a v.toNat

/-- A command that is a write of a register by a master. -/
def Dev.poke (d : Dev) (m : Master) (a : Nat) (v : Word) : Dev := d.busWrite m a v.toNat

/-- A narrow or unaligned access (R40): counted; a write is ignored, a read gives the word around it without side
effects. A word access whose address is aligned after all is an ordinary one. -/
def Dev.narrowAccess (d : Dev) (m : Master) (a : Nat) (kind : Narrow) (op : BusOp) : Dev :=
  if kind == .wordUnaligned && a % 4 == 0 then d.access m a op
  else match op with
    | .read => (d.narrow m a).emit (.busRead m a (BitVec.ofNat 32 (d.peek m (a / 4 * 4))))
    | .write _ => d.narrow m a

/-- W1C bits that hardware sets in the cycle of a write stay set (R17): `hw` is the mask of the events of that cycle. -/
def Dev.hwSet (d : Dev) (a hw : Nat) : Dev :=
  match Reg.find a with
  | none => d
  | some r => if d.absent a then d else
    d.each r.fields (fun d f =>
      if f.acc == .w1c then d.put ⟨a, f.lo, f.w⟩ (d.fld ⟨a, f.lo, f.w⟩ ||| bits hw f.lo f.w) else d)

/-- REGISTER_WRITE (R41). -/
def execRegisterWrite (m : Master) (a : BitVec 25) (v : Word) (s : State) : Out := s.main (·.access m a.toNat (.write v))

/-- W1C_CLEAR (R17): a write, in a cycle in which hardware sets the bits `hw`. -/
def execW1cClear (m : Master) (a : BitVec 25) (v hw : Word) (s : State) : Out :=
  s.main (fun d => if a.toNat % 4 ≠ 0 then d.access m a.toNat (.write v)
    else (d.access m a.toNat (.write v)).hwSet a.toNat hw.toNat)

/-- RC_READ (R15). -/
def execRcRead (m : Master) (a : BitVec 25) (s : State) : Out := s.main (·.access m a.toNat .read)

/-- WIDE_LOW_WORD_READ (R16). -/
def execWideLowWordRead (m : Master) (a : BitVec 25) (s : State) : Out := s.main (·.access m a.toNat .read)

/-- ABSENT_UNIT_ACCESS (R9). -/
def execAbsentUnitAccess (m : Master) (a : BitVec 25) (op : BusOp) (s : State) : Out := s.main (·.access m a.toNat op)

/-- UNMAPPED_ACCESS (R39). -/
def execUnmappedAccess (m : Master) (a : BitVec 25) (op : BusOp) (s : State) : Out := s.main (·.access m a.toNat op)

/-- NARROW_ACCESS (R40). -/
def execNarrowAccess (m : Master) (a : BitVec 25) (kind : Narrow) (op : BusOp) (s : State) : Out :=
  s.main (·.narrowAccess m a.toNat kind op)

/-- CREMA_POWER_ON_RESET (R385). -/
def execCremaPowerOnReset (s : State) : Out := s.run Dev.cremaReset

/-- CREMA_POR_END (R385). -/
def execCremaPorEnd (s : State) : Out := s.run Dev.cremaEnd

/-- A pin of the Crema domain moves: during the Crema power-on reset only its level is seen, and acts as the reset ends
(R385, R441, R448). -/
def State.pin (s : State) (level : Held → Held) (f : Dev → Dev) : Out :=
  s.run (fun d => if d.cremaUp then f d else { d with held := level d.held })

/-- PORST_N_ASSERT (R448). -/
def execPorstNAssert (s : State) : Out := s.pin (fun h => { h with porst := true }) Dev.porstTaken

/-- PORST_N_RELEASE (R392, R448): `strap` is the level of WORKER_STRAP, sampled as cold reset ends (R285). -/
def execPorstNRelease (strap : Bool) (s : State) : Out := s.pin (fun h => { h with porst := false }) (·.porstHigh strap)

/-- RESET_N_ASSERT (R448). -/
def execResetNAssert (s : State) : Out := s.run Dev.resetNLow

/-- RESET_N_RELEASE (R448). -/
def execResetNRelease (s : State) : Out := s.run Dev.resetNHigh

/-- CHIP_RESET (R44): a write of CHIPCAP.RST_CTRL with CHIP 1 and this KEY. -/
def execChipReset (m : Master) (key : BitVec 16) (s : State) : Out :=
  s.main (·.busWrite m Reg.CHIPCAP_RST_CTRL.ADR (1 + 2 ^ 16 * key.toNat))

/-- BLOCK_RST_LN (R47): the LN field of CHIPCAP.BLOCK_RST is written. -/
def execBlockRstLn (v : BitVec 4) (s : State) : Out := s.main (·.blockRstLn v.toNat)

/-- BLOCK_RST_RP (R47). -/
def execBlockRstRp (v : BitVec 4) (s : State) : Out := s.main (·.blockRstRp (2 ^ 4 * v.toNat))

/-- BLOCK_RST_CPH (R154). -/
def execBlockRstCph (on : Bool) (s : State) : Out := s.main (·.blockRstCph (2 ^ 8 * bit on))

/-- BLOCK_RST_HIF (R328). -/
def execBlockRstHif (on : Bool) (s : State) : Out := s.main (·.blockRstHif (2 ^ 9 * bit on))

/-- PCIE_RESET (R44). -/
def execPcieReset (s : State) : Out := s.main (fun d => if d.pcieHere then d.pcieReset else d)

/-- FUNCTION_LEVEL_RESET (R328): as a PCIe conventional reset. -/
def execFunctionLevelReset (s : State) : Out := s.main (fun d => if d.pcieHere then d.pcieReset else d)

/-- TEST_EN_ASSERT (R441): TEST_EN takes the level `on`; when it falls cold reset may end, and WORKER_STRAP is sampled. -/
def execTestEnAssert (on strap : Bool) (s : State) : Out := s.pin (fun h => { h with testEn := on }) (·.testEn on strap)

/-- RECIRC_TOKEN_GAIN (R28). -/
def execRecircTokenGain (s : State) : Out :=
  s.main (fun d => d.each (List.range 4) (fun d k => d.setSlice k { d.slice k with rtok := min 16 ((d.slice k).rtok + 1) }))

/-- HOST_TOKEN_GAIN (R28). -/
def execHostTokenGain (s : State) : Out :=
  s.main (fun d => d.each (List.range 4) (fun d k => d.setSlice k { d.slice k with htok := min 4 ((d.slice k).htok + 1) }))

/-- SLOT_GRANT (R28): an ingress slot of slice k. -/
def execSlotGrant (dt : Nat) (k : Fin 4) (s : State) : Out := s.main (fun d => (d.advance dt).slotGrant k.val)

/-- A frame that comes in at a local port of its own kind (R157): not through a wagon, an XGEM unit or a ring. It is
stamped as it arrives (R252). -/
def Dev.plainArrival (d : Dev) (p : Nat) (data : List Byte) : Dev :=
  if d.portHere p then
    d.arrive { data := data, srcKind := if p < 448 then 0 else if p < 452 then 1 else if p < 456 then 2 else 3,
               inPort := d.devAddr * 512 + p, localIn := p, slice := sliceOf p, stamp := d.stamp d.time }
  else d

/-- INPUT_BUFFER_ARRIVAL (R29): a frame, without its FCS, in the input buffer of local port p. -/
def execInputBufferArrival (dt : Nat) (p : Fin 460) (data : List Byte) (s : State) : Out :=
  s.main (fun d => (d.advance dt).plainArrival p.val data)

end Sys2Proof.Machine
end

