-- ==== Sys2Proof/Machine/CmdLine.lean ====
section
/-!
DEFINITION. Commands of spec/02 (line channels) and of the Tender's processor: the receiver's pins and writes, the framer,
codewords, XGEM units and performance monitoring.
-/
namespace Sys2Proof.Machine

/-- RX_EN_WRITE (R52): LN.CTRL is written. -/
def execRxEnWrite (m : Master) (n : Fin 4) (v : Word) (s : State) : Out := s.main (·.poke m (Reg.LN_CTRL.ADR n.val) v)

/-- EQ_ACQ_DONE (R50). -/
def execEqAcqDone (n : Fin 4) (s : State) : Out := s.main (·.acqDone n.val)

/-- FFE_WRITE (R51): coefficient `i`, 0 to 30 of the FFE and 31 to 33 of the DFE. -/
def execFfeWrite (m : Master) (n : Fin 4) (i : Fin 34) (v : Word) (s : State) : Out :=
  s.main (·.poke m (coefFld n.val i.val).adr v)

/-- FFE_SNAPSHOT_READ (R51): an aligned read of LN.FFE[0]. -/
def execFfeSnapshotRead (m : Master) (n : Fin 4) (s : State) : Out := s.main (·.access m (Reg.LN_FFE.ADR n.val 0) .read)

/-- EQ_PRESET (R51): LN.EQ_CTRL is written with PRESET 1. -/
def execEqPreset (m : Master) (n : Fin 4) (v : Word) (s : State) : Out :=
  s.main (·.poke m (Reg.LN_EQ_CTRL.ADR n.val) (v ||| 0x200#32))

/-- The level of LCn_SD, which is a pin's; while a reset covers the channel, DSD follows it (R47, R71). -/
def Dev.sdLevel (d : Dev) (n : Nat) (level : Bool) : Dev :=
  if d.lnHere n then (d.setLine n { d.line n with sd := level }).iff (!d.mainUp || !d.lnUp n) (·.dsdPin n) else d

/-- LINE_SD_CHANGE (R70). The level is the pin's, whatever reset holds. -/
def execLineSdChange (n : Fin 4) (level : Bool) (s : State) : Out := s.run (·.sdLevel n.val level)

/-- DSD_RAISE (R70). -/
def execDsdRaise (n : Fin 4) (s : State) : Out :=
  s.main (fun d => if d.lnUp n.val && !d.sdSignal n.val then ((d.adaptNow n.val).defRaise n.val dDSD).lineMoved n.val else d)

/-- DSD_CLEAR (R70). -/
def execDsdClear (n : Fin 4) (s : State) : Out :=
  s.main (fun d => if d.lnUp n.val && d.sdSignal n.val then (d.defClear n.val dDSD).lineMoved n.val else d)

/-- LOL_RAISE (R70). EQ_STAT.CDR_LOCK moves with the defect, not with the lock detector (notes/assumptions/49.md). -/
def execLolRaise (n : Fin 4) (s : State) : Out :=
  s.main (fun d => if d.rxOn n.val then (((d.adaptNow n.val).put (Reg.LN_EQ_STAT.CDR_LOCK n.val) 0).defRaise n.val dLOL).lineMoved n.val else d)

/-- LOL_CLEAR (R70): CDR_LOCK sets here, as the defect clears (notes/assumptions/49.md). -/
def execLolClear (n : Fin 4) (s : State) : Out :=
  s.main (fun d => if d.rxOn n.val then ((d.put (Reg.LN_EQ_STAT.CDR_LOCK n.val) 1).defClear n.val dLOL).lineMoved n.val else d)

/-- HUNT_RESTART (R53): LN.SYNC_CTRL is written with HUNT_RESTART 1. -/
def execHuntRestart (m : Master) (n : Fin 4) (v : Word) (s : State) : Out :=
  s.main (·.poke m (Reg.LN_SYNC_CTRL.ADR n.val) (v ||| 0x2000#32))

/-- HUNT_MATCH (R53, R54): a window at bit position `pos` that differs from the pattern in `errs` bits. -/
def execHuntMatch (n : Fin 4) (pos errs : Nat) (hec : Hec) (sfc : Nat) (s : State) : Out :=
  s.main (fun d => (d.huntMatch n.val pos errs hec sfc).lineMoved n.val)

/-- A candidate's expected position; the frame that brings SYNC is the first of the burst timing (R99), and its PON-ID
structure, where its HEC passes, the first compared (R69). No header of a frame before the hunt is consecutive with one
after it (R84). -/
def Dev.checkAt (d : Dev) (n pos errs : Nat) (hec : Hec) (sfc : Nat) (ponid : Option Nat) : Dev :=
  let d1 := d.candCheck n pos errs hec sfc
  (if d.framer n ≠ 2 ∧ d1.framer n = 2 then
    let d2 := ((d1.setAct n { d1.act n with hdrs := 0, hdrSeen := false }).actFrame n).phaseMeasure n
    match ponid with
    | some v => d2.ponidRx n v
    | none => d2
  else d1).lineMoved n

/-- CANDIDATE_CHECK (R55, R56), with the PON-ID structure of the frame where its HEC passes (R69). -/
def execCandidateCheck (n : Fin 4) (pos errs : Nat) (hec : Hec) (x : PsyncHead) (s : State) : Out :=
  s.main (·.checkAt n.val pos errs hec x.sfc x.ponid)

/-- AMBIG_RAISE (R56). -/
def execAmbigRaise (n : Fin 4) (s : State) : Out := s.main (·.ambig n.val)

/-- The expected PSync position in SYNC, with what follows for the frame's time and the reference. -/
def Dev.psyncAt (d : Dev) (n errs : Nat) (hec : Hec) (sfc : Nat) (ponid : Option Nat) : Dev :=
  let d1 := d.framePsync n errs hec sfc ponid
  (if d.rxOn n && d1.framer n == 2 then (d1.actFrame n).phaseMeasure n else d1).lineMoved n

/-- FRAME_PSYNC (R57, R58, R69). -/
def execFramePsync (dt : Nat) (n : Fin 4) (errs : Nat) (hec : Hec) (sfc : Nat) (ponid : Option Nat) (s : State) : Out :=
  s.main (fun d => (d.advance dt).psyncAt n.val errs hec sfc ponid)

/-- CODEWORD_DECISION (R60, R70): the bits corrected, or none for an uncorrectable codeword. -/
def execCodewordDecision (n : Fin 4) (corr : Option Nat) (s : State) : Out :=
  s.main (fun d => (d.codeword n.val corr).lineMoved n.val)

/-- FS_HEADER_RECEIVED (R62, R84, R97, R98). -/
def execFsHeaderReceived (n : Fin 4) (s : State) : Out :=
  s.main (fun d => if d.rxOn n.val && d.framer n.val == 2 then (d.fsStart n.val).actHeader n.val else d)

/-- XGEM_HEADER (R63 to R68): a header with its payload; `st` is the strobe of a frame's start. -/
def execXgemHeader (n : Fin 4) (h : Xgem) (st : Strobe) (s : State) : Out := s.main (·.xgemHeader n.val h st)

/-- XPORT_WRITE (R64). -/
def execXportWrite (m : Master) (n : Fin 4) (i : Fin 4096) (v : Word) (s : State) : Out :=
  s.main (·.poke m (Reg.LN_XPORT.ADR n.val i.val) v)

/-- TRACE_CTRL_WRITE (R69). -/
def execTraceCtrlWrite (m : Master) (n : Fin 4) (v : Word) (s : State) : Out :=
  s.main (·.poke m (Reg.LN_TRACE_CTRL.ADR n.val) v)

/-- PM_LATCH (R74 to R77): the seconds field has changed, `dt` cycles after the command before. -/
def execPmLatch (dt : Nat) (s : State) : Out := s.main (fun d => (d.advance dt).pmLatchAll none)

/-- PM_SEL_WRITE (R78). -/
def execPmSelWrite (m : Master) (n : Fin 4) (v : Word) (s : State) : Out := s.main (·.poke m (Reg.LN_PM_SEL.ADR n.val) v)

/-- TENDER_LOCKSTEP_ERROR (R81). -/
def execTenderLockstepError (s : State) : Out := s.main Dev.lockstepError

/-- TENDER_RESTART (R81): CPX.TND_CTRL is written with RESTART 1. -/
def execTenderRestart (m : Master) (s : State) : Out := s.main (·.poke m Reg.CPX_TND_CTRL.ADR 1#32)

end Sys2Proof.Machine
end

