-- ==== Sys2Proof/Machine/CmdAct.lean ====
section
/-!
DEFINITION. Commands of spec/03: activation, PLOAM messages, the bandwidth map and the Coachbuilder's bursts, OMCI.
-/
namespace Sys2Proof.Machine

/-! ### Activation (R84 to R87) -/

/-- LN.ACT_CTRL as it stands, with EN replaced. -/
def Dev.actCtrlWith (d : Dev) (n : Nat) (en : Bool) : Word :=
  BitVec.ofNat 32 (setBit (d.stored (Reg.LN_ACT_CTRL.ADR n)) 0 en)

/-- ACT_ENABLE (R87): EN of LN.ACT_CTRL is written 1. -/
def execActEnable (m : Master) (n : Fin 4) (s : State) : Out :=
  s.main (fun d => d.poke m (Reg.LN_ACT_CTRL.ADR n.val) (d.actCtrlWith n.val true))

/-- ACT_DISABLE (R84): EN of LN.ACT_CTRL is written 0. -/
def execActDisable (m : Master) (n : Fin 4) (s : State) : Out :=
  s.main (fun d => d.poke m (Reg.LN_ACT_CTRL.ADR n.val) (d.actCtrlWith n.val false))

/-- LODS_TIMEOUT (R85). -/
def execLodsTimeout (n : Fin 4) (s : State) : Out := s.main (·.lodsTimeout n.val)

/-- TO1_EXPIRY (R84). -/
def execTo1Expiry (n : Fin 4) (s : State) : Out := s.main (·.to1Expiry n.val)

/-- TO2_EXPIRY (R84). -/
def execTo2Expiry (n : Fin 4) (s : State) : Out := s.main (·.to2Expiry n.val)

/-! ### Downstream PLOAM messages (R92): the message, and its content as G.9804.2 lays it out -/

/-- BURST_PROFILE (R97). -/
def execBurstProfile (n : Fin 4) (p : Ploam) (x : Profile) (s : State) : Out :=
  s.main (·.ploamRx n.val p (·.burstProfile n.val x))

/-- ASSIGN_ONU_ID (R84). -/
def execAssignOnuId (n : Fin 4) (p : Ploam) (onu : Nat) (s : State) : Out :=
  s.main (·.ploamRx n.val p (·.assignOnu n.val p onu))

/-- RANGING_TIME (R84, R98): the equalisation delay as the message gives it. -/
def execRangingTime (n : Fin 4) (p : Ploam) (v : Nat) (s : State) : Out :=
  s.main (·.ploamRx n.val p (·.rangingTime n.val p v))

/-- DEACTIVATE_ONU_ID (R84). -/
def execDeactivateOnuId (n : Fin 4) (p : Ploam) (s : State) : Out := s.main (·.ploamRx n.val p (·.deactivate n.val p))

/-- DISABLE_SERIAL_NUMBER (R84): `all` is the broadcast form, `disable` its direction. -/
def execDisableSerialNumber (n : Fin 4) (p : Ploam) (all disable : Bool) (s : State) : Out :=
  s.main (·.ploamRx n.val p (·.disableSerial n.val p all disable))

/-- REQUEST_REGISTRATION (R89). -/
def execRequestRegistration (n : Fin 4) (p : Ploam) (s : State) : Out :=
  s.main (·.ploamRx n.val p (·.requestRegistration n.val))

/-- ASSIGN_ALLOC_ID (R92): `add` or remove. -/
def execAssignAllocId (n : Fin 4) (p : Ploam) (alloc : Nat) (add : Bool) (s : State) : Out :=
  s.main (·.ploamRx n.val p (·.assignAlloc n.val alloc add))

/-- KEY_CONTROL (R148): for a new key under an index, or with the switch count of that index. -/
def execKeyControl (n : Fin 4) (p : Ploam) (x : KeyTurn) (s : State) : Out :=
  s.main (·.ploamRx n.val p (·.keyControl n.val x.idx x.sw))

/-- SYSTEM_PROFILE (R92). -/
def execSystemProfile (n : Fin 4) (p : Ploam) (content : List Byte) (s : State) : Out :=
  s.main (·.ploamRx n.val p (·.systemProfile n.val content))

/-- CHANNEL_PROFILE (R69, R84): its identifier. -/
def execChannelProfile (n : Fin 4) (p : Ploam) (ident : Nat) (s : State) : Out :=
  s.main (fun d => (d.ploamRx n.val p (·.channelProfile n.val p ident)).lineMoved n.val)

/-- CHANGE_POWER_LEVEL (R96). -/
def execChangePowerLevel (n : Fin 4) (p : Ploam) (level : Nat) (s : State) : Out :=
  s.main (·.ploamRx n.val p (·.powerLevel n.val level))

/-- PROTECTION_CONTROL (R92, R132): acknowledged, and switches nothing. -/
def execProtectionControl (n : Fin 4) (p : Ploam) (s : State) : Out := s.main (·.ploamRx n.val p (·.ackOnly n.val 0))

/-- SLEEP_ALLOW (R92): acknowledged. -/
def execSleepAllow (n : Fin 4) (p : Ploam) (s : State) : Out := s.main (·.ploamRx n.val p (·.ackOnly n.val 0))

/-- CALIBRATION_REQUEST (R92): not supported. -/
def execCalibrationRequest (n : Fin 4) (p : Ploam) (s : State) : Out := s.main (·.ploamRx n.val p (·.ackOnly n.val 2))

/-- ADJUST_TX_WAVELENGTH (R92): not supported. -/
def execAdjustTxWavelength (n : Fin 4) (p : Ploam) (s : State) : Out := s.main (·.ploamRx n.val p (·.ackOnly n.val 2))

/-- TUNING_CONTROL (R92): not supported. -/
def execTuningControl (n : Fin 4) (p : Ploam) (s : State) : Out := s.main (·.ploamRx n.val p (·.ackOnly n.val 2))

/-- PLOAM_TYPE_NOT_HANDLED (R93): a message of another type is recorded with ACTION 3. -/
def execPloamTypeNotHandled (n : Fin 4) (p : Ploam) (s : State) : Out :=
  s.main (·.ploamRx n.val p (fun d => (d, aUnknown)))

/-- PLOAM_ANSWER_READY (R95). -/
def execPloamAnswerReady (n : Fin 4) (s : State) : Out := s.main (·.answerReady n.val)

/-- PWR_LVL_APPLIED_WRITE (R96). -/
def execPwrLvlAppliedWrite (m : Master) (n : Fin 4) (v : Word) (s : State) : Out :=
  s.main (·.poke m (Reg.LN_PWR_LVL.ADR n.val) v)

/-- PWR_LVL_TIMEOUT (R96). -/
def execPwrLvlTimeout (n : Fin 4) (s : State) : Out := s.main (·.powerTimeout n.val)

/-! ### The Coachbuilder (R99 to R107) -/

/-- BANDWIDTH_MAP_PARSE (R101, R102): the allocation structures of the map in their order. -/
def execBandwidthMapParse (n : Fin 4) (grants : List Grant) (s : State) : Out := s.main (·.bwmap n.val grants)

/-- BURST_SEAL (R106). -/
def execBurstSeal (dt : Nat) (n : Fin 4) (s : State) : Out := s.main (fun d => (d.advance dt).burstSeal n.val)

/-- BURST_TRANSMIT (R99, R107). -/
def execBurstTransmit (dt : Nat) (n : Fin 4) (s : State) : Out := s.main (fun d => (d.advance dt).burstTransmit n.val)

/-- PRESTAGE_FILL (R104): T-CONT t on channel n. -/
def execPrestageFill (dt : Nat) (n : Fin 4) (t : Fin 512) (s : State) : Out :=
  s.main (fun d => (d.advance dt).prestageFill n.val t.val)

/-- CB_SIDING_READ_DONE (R105, R209). -/
def execCbSidingReadDone (dt : Nat) (x : SidingRead) (s : State) : Out :=
  s.main (fun d => (d.advance dt).cbReadDone x.n.val x.bad)

/-- ALLOC_TCONT_WRITE (R103): entry `i` of LN.ALLOC is written. -/
def execAllocTcontWrite (m : Master) (n : Fin 4) (i : Fin 128) (v : Word) (s : State) : Out :=
  s.main (·.poke m (Reg.LN_ALLOC.ADR n.val i.val) v)

/-! ### OMCI and software's messages (R109, R334) -/

/-- OMCI_RX (R109). -/
def execOmciRx (n : Fin 4) (s : State) : Out := s.main (fun d => if d.lnUp n.val then d.omciRx n.val else d)

/-- TXMSG_HANDOFF (R334): what stands from the ring's head on, and the message's bytes. -/
def execTxmsgHandoff (r : Fin 256) (l : List Byte) (b : List Byte) (s : State) : Out :=
  s.main (·.txmsgHandoff r.val (descsOf l) b)

end Sys2Proof.Machine
end

