-- ==== Sys2Proof/Machine/CmdBond.lean ====
section
/-!
DEFINITION. Commands of spec/04: line modes, bonding groups and line protection.
-/
namespace Sys2Proof.Machine

/-- LINE_MODE_WRITE (R112). -/
def execLineModeWrite (m : Master) (v : Word) (s : State) : Out := s.main (·.poke m Reg.LN_LINE_MODE.ADR v)

/-- BOND_GROUP_ENABLE (R118): BOND_GRP_CFG of group g is written with EN 1. -/
def execBondGroupEnable (m : Master) (g : Fin 1024) (v : Word) (s : State) : Out :=
  s.main (·.poke m (Reg.LN_BOND_GRP_CFG.ADR g.val) (v ||| 0x8000#32))

/-- BOND_GROUP_DISABLE (R118): BOND_GRP_CFG of group g is written with EN 0. -/
def execBondGroupDisable (m : Master) (g : Fin 1024) (v : Word) (s : State) : Out :=
  s.main (·.poke m (Reg.LN_BOND_GRP_CFG.ADR g.val) (v &&& 0xFFFF7FFF#32))

/-- BOND_UNIT_RX (R115 to R121): the oldest KIND 3 unit of channel n. -/
def execBondUnitRx (dt : Nat) (n : Fin 4) (s : State) : Out := s.main (fun d => (d.advance dt).bondRx n.val)

/-- BOND_START_TIMER_EXPIRY (R118). -/
def execBondStartTimerExpiry (g : Fin 1024) (s : State) : Out := s.main (·.bondStartTimer g.val)

/-- BOND_WINDOW_EXPIRY (R120). -/
def execBondWindowExpiry (g : Fin 1024) (s : State) : Out := s.main (·.bondWindow g.val)

/-- FAST_DEF_HOLDOFF_EXPIRY (R129): UCW (`ucw`) or DSD of channel n has lasted HOLDOFF. -/
def execFastDefHoldoffExpiry (n : Fin 4) (ucw : Bool) (s : State) : Out := s.main (fun d => (d.holdoff n.val ucw).refMoved)

/-- PROT_AUTO_SWITCH (R131). -/
def execProtAutoSwitch (s : State) : Out := s.main (fun d => d.protAuto.refMoved)

/-- PROT_MANUAL_SWITCH (R132): PROT_CTRL is written with CMD 1. -/
def execProtManualSwitch (m : Master) (v : Word) (s : State) : Out :=
  s.main (·.poke m Reg.LN_PROT_CTRL.ADR (v &&& 0xFFFFFFCF#32 ||| 0x10#32))

/-- PROT_FORCED_SWITCH (R132): PROT_CTRL is written with CMD 2. -/
def execProtForcedSwitch (m : Master) (v : Word) (s : State) : Out :=
  s.main (·.poke m Reg.LN_PROT_CTRL.ADR (v &&& 0xFFFFFFCF#32 ||| 0x20#32))

/-- PROT_SWITCH_COMPLETE (R133). -/
def execProtSwitchComplete (s : State) : Out := s.main Dev.protComplete

/-- TREF_TRACK_RESUME (R134). -/
def execTrefTrackResume (s : State) : Out := s.main Dev.trefResume

end Sys2Proof.Machine
end

