-- ==== Sys2Proof/Machine/CmdKeys.lean ====
section
/-!
DEFINITION. Commands of spec/05: key commands, key switches, and the verdict on a wagon.
-/
namespace Sys2Proof.Machine

/-- A write of CPH.KEY_CMD with an operation and a slot. -/
def Dev.keyPoke (d : Dev) (m : Master) (op slot : Nat) : Dev :=
  d.poke m Reg.CPH_KEY_CMD.ADR (BitVec.ofNat 32 (op + 2 ^ 8 * slot))

/-- LOAD_PLAIN (R139). -/
def execLoadPlain (m : Master) (slot : Fin 64) (s : State) : Out := s.main (·.keyPoke m 1 slot.val)

/-- LOAD_DEV (R139). -/
def execLoadDev (m : Master) (slot : Fin 64) (s : State) : Out := s.main (·.keyPoke m 2 slot.val)

/-- LOAD_LINK (R139). -/
def execLoadLink (m : Master) (slot : Fin 64) (s : State) : Out := s.main (·.keyPoke m 3 slot.val)

/-- GENERATE (R141). -/
def execGenerate (m : Master) (slot : Fin 64) (s : State) : Out := s.main (·.keyPoke m 4 slot.val)

/-- INVALIDATE (R139). -/
def execInvalidate (m : Master) (slot : Fin 64) (s : State) : Out := s.main (·.keyPoke m 5 slot.val)

/-- The running key command completes, and the Tender acts on one of its own (R148). -/
def Dev.keyComplete (d : Dev) : Dev :=
  match d.keyDone with
  | (d1, some (j, st)) => d1.keyReport j st
  | (d1, none) => d1

/-- KEY_CMD_DONE (R140). -/
def execKeyCmdDone (s : State) : Out := s.main Dev.keyComplete

/-- LINE_KEY_SW_ARM (R144): CPH.LINE_US_CTRL of channel n is written with SW_ARM 1. -/
def execLineKeySwArm (m : Master) (n : Fin 4) (v : Word) (s : State) : Out :=
  s.main (·.poke m (Reg.CPH_LINE_US_CTRL.ADR n.val) (v ||| 0x10#32))

/-- RSR_KEY_SW_ARM (R152): CPH.RSR_CTRL of port p is written with SW_ARM 1. -/
def execRsrKeySwArm (m : Master) (p : Fin 4) (v : Word) (s : State) : Out :=
  s.main (·.poke m (Reg.CPH_RSR_CTRL.ADR p.val) (v ||| 0x10#32))

/-- RSR_KEY_SWITCH (R152): the first wagon slot whose wagon would leave the pins at or after the instant. -/
def execRsrKeySwitch (dt : Nat) (p : Fin 4) (s : State) : Out :=
  s.main (fun d => (d.advance dt).rsrSwitch p.val ((d.advance dt).wagonTx p.val {}).time)

/-- WAGON_VERDICT (R137, R153, R299): the verdict on the oldest wagon that waits for one on port p. -/
def execWagonVerdict (p : Fin 4) (s : State) : Out := s.main (·.wagonVerdict p.val)

end Sys2Proof.Machine
end

