-- ==== Sys2Proof/Machine/CmdTables.lean ====
section
/-!
DEFINITION. Commands of spec/06: passes, recirculation; and the commands of the three table families (R178, R180, R185,
R216, R217, R235, R240).
-/
namespace Sys2Proof.Machine

/-- INGRESS_PASS_END (R156): the oldest pass of slice k. -/
def execIngressPassEnd (dt : Nat) (k : Fin 4) (s : State) : Out := s.main (fun d => (d.advance dt).passEnd k.val)

/-- RECIRC_RETURN (R182): behind it the slice's host port goes on (R201). -/
def execRecircReturn (k : Fin 4) (s : State) : Out := s.main (fun d => (d.recircReturn k.val).hostPorts)

/-- RECIRC_TIMEOUT (R184). -/
def execRecircTimeout (k : Fin 4) (s : State) : Out := s.main (fun d => (d.recircTimeout k.val).hostPorts)

/-- The command register of a family. -/
def Family.cmdReg : Family → Nat
  | .pcl => Reg.PCL_TBL_CMD.ADR
  | .tmg => Reg.TMG_TBL_CMD.ADR
  | .tt => Reg.SM_TT_CMD.ADR

/-- A write of a family's command register: operation, table, view and location in their fields. -/
def Dev.tblPoke (d : Dev) (m : Master) (x : Family) (op t view loc : Nat) : Dev :=
  d.poke m x.cmdReg (BitVec.ofNat 32 (op + 2 ^ 4 * t + 2 ^ 8 * view + 2 ^ 10 * loc))

/-- PCL_STAGE_WRITE (R178, R185): the data are in PCL.TBL_DATA. -/
def execPclStageWrite (m : Master) (t : Fin 16) (loc : BitVec 18) (s : State) : Out :=
  s.main (·.tblPoke m .pcl 1 t.val 0 loc.toNat)

/-- PCL_STAGE_DELETE (R178). -/
def execPclStageDelete (m : Master) (t : Fin 16) (loc : BitVec 18) (s : State) : Out :=
  s.main (·.tblPoke m .pcl 2 t.val 0 loc.toNat)

/-- PCL_STAGE_REVERT (R178). -/
def execPclStageRevert (m : Master) (t : Fin 16) (loc : BitVec 18) (s : State) : Out :=
  s.main (·.tblPoke m .pcl 3 t.val 0 loc.toNat)

/-- PCL_READ (R185). -/
def execPclRead (m : Master) (t : Fin 16) (view : Fin 4) (loc : BitVec 18) (s : State) : Out :=
  s.main (·.tblPoke m .pcl 4 t.val view.val loc.toNat)

/-- PCL_READ_LOC (R185). -/
def execPclReadLoc (m : Master) (t : Fin 16) (view : Fin 4) (loc : BitVec 18) (s : State) : Out :=
  s.main (·.tblPoke m .pcl 6 t.val view.val loc.toNat)

/-- PCL_DISCARD_REJECTED (R180). -/
def execPclDiscardRejected (m : Master) (s : State) : Out := s.main (·.tblPoke m .pcl 5 0 0 0)

/-- A table or node command completes. -/
def Dev.cmdDone (d : Dev) : CmdUnit → Dev
  | .family x => d.tblDone x
  | .node => d.nodeDone

/-- TBL_CMD_DONE (R185). -/
def execTblCmdDone (u : CmdUnit) (s : State) : Out := s.main (·.cmdDone u)

/-- SCRUB_DONE (R180, R359). -/
def execScrubDone (x : Family) (s : State) : Out := s.main (·.genScrubDone x)

/-- TMG_STAGE_WRITE (R216). -/
def execTmgStageWrite (m : Master) (t : Fin 16) (loc : BitVec 18) (s : State) : Out :=
  s.main (·.tblPoke m .tmg 1 t.val 0 loc.toNat)

/-- TMG_STAGE_DELETE (R216). -/
def execTmgStageDelete (m : Master) (t : Fin 16) (loc : BitVec 18) (s : State) : Out :=
  s.main (·.tblPoke m .tmg 2 t.val 0 loc.toNat)

/-- TMG_STAGE_REVERT (R216). -/
def execTmgStageRevert (m : Master) (t : Fin 16) (loc : BitVec 18) (s : State) : Out :=
  s.main (·.tblPoke m .tmg 3 t.val 0 loc.toNat)

/-- TMG_READ (R217). -/
def execTmgRead (m : Master) (t : Fin 16) (view : Fin 4) (loc : BitVec 18) (s : State) : Out :=
  s.main (·.tblPoke m .tmg 4 t.val view.val loc.toNat)

/-- TMG_DISCARD_REJECTED (R180). -/
def execTmgDiscardRejected (m : Master) (s : State) : Out := s.main (·.tblPoke m .tmg 5 0 0 0)

/-- TT_STAGE_WRITE (R235). -/
def execTtStageWrite (m : Master) (t : Fin 16) (loc : BitVec 14) (s : State) : Out :=
  s.main (·.tblPoke m .tt 1 t.val 0 loc.toNat)

/-- TT_STAGE_DELETE (R235). -/
def execTtStageDelete (m : Master) (t : Fin 16) (loc : BitVec 14) (s : State) : Out :=
  s.main (·.tblPoke m .tt 2 t.val 0 loc.toNat)

/-- TT_STAGE_REVERT (R235). -/
def execTtStageRevert (m : Master) (t : Fin 16) (loc : BitVec 14) (s : State) : Out :=
  s.main (·.tblPoke m .tt 3 t.val 0 loc.toNat)

/-- TT_READ (R240). -/
def execTtRead (m : Master) (t : Fin 16) (view : Fin 4) (loc : BitVec 14) (s : State) : Out :=
  s.main (·.tblPoke m .tt 4 t.val view.val loc.toNat)

/-- TT_DISCARD_REJECTED (R180). -/
def execTtDiscardRejected (m : Master) (s : State) : Out := s.main (·.tblPoke m .tt 5 0 0 0)

end Sys2Proof.Machine
end

