-- ==== Sys2Proof/Machine/CmdTraffic.lean ====
section
/-!
DEFINITION. Commands of spec/07: token buckets, node commands, the Siding and T-CONT counts.
-/
namespace Sys2Proof.Machine

/-- A bucket's refill, where the bucket exists. -/
def Dev.refillAt (d : Dev) (level i : Nat) : Dev := if (bktNamed level i).isSome then d.refill level i else d

/-- BUCKET_REFILL (R192): levels 0 and 1 are the committed and peak buckets of service queue `i`, 2 the bucket of a
subscriber node, 3 of a port node. -/
def execBucketRefill (level : Fin 4) (i : BitVec 16) (s : State) : Out := s.main (·.refillAt level.val i.toNat)

/-- A write of TMG.NODE_CMD. -/
def Dev.nodePoke (d : Dev) (m : Master) (op b i : Nat) : Dev :=
  d.poke m Reg.TMG_NODE_CMD.ADR (BitVec.ofNat 32 (op + 2 ^ 3 * b + 2 ^ 6 * i))

/-- BUCKET_RESET (R195). -/
def execBucketReset (m : Master) (b : Fin 8) (i : BitVec 16) (s : State) : Out := s.main (·.nodePoke m 1 b.val i.toNat)

/-- QUEUE_FLUSH (R210). -/
def execQueueFlush (m : Master) (q : BitVec 16) (s : State) : Out := s.main (·.nodePoke m 2 0 q.toNat)

/-- READ_LEVEL (R193). -/
def execReadLevel (m : Master) (b : Fin 8) (i : BitVec 16) (s : State) : Out := s.main (·.nodePoke m 3 b.val i.toNat)

/-- SIDING_RETURN (R208). -/
def execSidingReturn (q : BitVec 16) (s : State) : Out :=
  s.main (fun d => d.sidingReturn q.toNat (d.queue q.toNat).siding.length)

/-- SIDING_READ_DONE (R209): `lost` of the queue's oldest Siding frames have a byte in a cell that could not be read; 0 for a
read that succeeds. -/
def execSidingReadDone (q : BitVec 16) (lost : Nat) (s : State) : Out := s.main (·.sidingFail q.toNat lost)

/-- BUF_CFG_WRITE (R202). -/
def execBufCfgWrite (m : Master) (v : Word) (s : State) : Out := s.main (·.poke m Reg.TMG_BUF_CFG.ADR v)

/-- SIDING_CFG_WRITE (R205). -/
def execSidingCfgWrite (m : Master) (v : Word) (s : State) : Out := s.main (·.poke m Reg.TMG_SIDING_CFG.ADR v)

/-- SIDING_DISABLE_APPLY (R205). -/
def execSidingDisableApply (s : State) : Out := s.main Dev.sidingOff

/-- TCONT_OCC_UPDATE (R212): the counts of T-CONT t are forwarded. -/
def execTcontOccUpdate (t : Fin 512) (s : State) : Out :=
  s.main (fun d => { d with tm := { d.tm with occ := Tbl.set d.tm.occ t.val (d.tcontNow t.val) } })

/-- TCONT_OCC_READ (R212): an aligned read of word 0. -/
def execTcontOccRead (m : Master) (t : Fin 512) (s : State) : Out :=
  s.main (·.access m (Reg.TMG_TCONT_OCC.ADR t.val 0) .read)

end Sys2Proof.Machine
end

