-- ==== Sys2Proof/Machine/CmdMac.lean ====
section
/-!
DEFINITION. Commands of spec/08: subscriber ports and their MACs.
-/
namespace Sys2Proof.Machine

/-- LANE_CTRL_WRITE (R220). -/
def execLaneCtrlWrite (m : Master) (n : Fin 112) (v : Word) (s : State) : Out :=
  s.main (·.poke m (Reg.SM_LANE_CTRL.ADR n.val) v)

/-- A new in-band word: its rate in Mbit/s, 0 where it reports no link. A word stands only while the lane holds block
lock (R219). -/
def Dev.inbandWord (d : Dev) (n j rate : Nat) : Dev :=
  let p := 4 * n + j
  if d.slHere n && (d.laneMode n == 4 || d.laneMode n == 5) && d.on (Reg.SL_STAT.SYNC n) then
    (d.setMac p { d.mac p with inband := some rate }).linkPort n j
  else d

/-- INBAND_WORD_CHANGE (R219). -/
def execInbandWordChange (n : Fin 112) (j : Fin 4) (rate : Nat) (s : State) : Out :=
  s.main (·.inbandWord n.val j.val rate)

/-- PORT_LINK_CHANGE (R221): the link follows its conditions. -/
def execPortLinkChange (n : Fin 112) (j : Fin 4) (s : State) : Out := s.main (·.linkPort n.val j.val)

/-- The elastic store at the gap before a frame (R266): above 40 bytes it deletes an idle unit where the gap holds two, below 24
it inserts one. Answers the fill after it and the counter that moves. -/
def gapFill (u : Nat) (fill : Int) (gap : Nat) : Int × Option Nat :=
  if 40 < fill ∧ 2 ≤ gap then (fill - u, some 1) else if fill < 24 then (fill + u, some 0) else (fill, none)

/-- The elastic store passes a frame (R266). Answers whether it overflowed or emptied inside the frame, after which it is
centred again (notes/assumptions/54.md). -/
def Dev.rateMatch (d : Dev) (n j : Nat) (x : RateMatch) : Dev × Bool :=
  let p := 4 * n + j
  let g := gapFill (modeCoding (d.laneMode n)).idleBytes ((d.mac p).fill + x.drift) x.gap
  let d1 := match g.2 with | some c => d.bump (Reg.SL_CNT.COUNT n c) | none => d
  let f := g.1 + x.inside
  if f ≤ 0 ∨ 64 < f then
    (((d1.setMac p { d1.mac p with fill := 32 }).bump (Reg.SL_CNT.COUNT n 2)).ev (Reg.SL_EVT.RM_OVF n), true)
  else (d1.setMac p { d1.mac p with fill := f }, false)

/-- A frame received on a lane's port, with its FCS; one that the elastic store ended has a code error. -/
def Dev.frameRx (d : Dev) (n j : Nat) (b : List Byte) (codeErr : Bool) (rm : RateMatch) (st : Strobe) : Dev :=
  if d.slHere n then
    let r := d.rateMatch n j rm
    r.1.macRx n j b (codeErr || r.2) st
  else d

/-- MAC_FRAME_RX (R222 to R224, R228, R266). -/
def execMacFrameRx (dt : Nat) (n : Fin 112) (j : Fin 4) (b : List Byte) (codeErr : Bool) (rm : RateMatch) (st : Strobe)
    (s : State) : Out :=
  s.main (fun d => (d.advance dt).frameRx n.val j.val b codeErr rm st)

/-- PAUSE_TIMER_EXPIRY (R229): these timers have counted down to 0, bit p that of priority p, bit 8 the PAUSE timer. -/
def execPauseTimerExpiry (n : Fin 112) (j : Fin 4) (timers : BitVec 9) (s : State) : Out :=
  s.main (·.pauseLoad (4 * n.val + j.val) (members timers.toNat 9) (fun _ => 0))

/-- FC_REFRESH_EXPIRY (R230). -/
def execFcRefreshExpiry (dt : Nat) (n : Fin 112) (j : Fin 4) (s : State) : Out :=
  s.main (fun d => (d.advance dt).fcRefresh (4 * n.val + j.val))

/-- PORT_FRAME_REQUEST (R225, R234). -/
def execPortFrameRequest (dt : Nat) (n : Fin 112) (j : Fin 4) (s : State) : Out :=
  s.main (fun d => (d.advance dt).portRequest n.val j.val)

/-- The waiting frame starts where it may; the stamp of a host frame that has started goes into its record (R252, R333). -/
def Dev.frameStart (d : Dev) (n j : Nat) (st : Strobe) : Dev :=
  let d1 := d.txStart n j st
  match (d.mac (4 * n + j)).tx, (d1.mac (4 * n + j)).tx with
  | none, some t => match t.stamp with
    | some x => d1.stamped t.f x
    | none => d1
  | _, _ => d1

/-- FRAME_TX_START (R226, R253). -/
def execFrameTxStart (dt : Nat) (n : Fin 112) (j : Fin 4) (st : Strobe) (s : State) : Out :=
  s.main (fun d => (d.advance dt).frameStart n.val j.val st)

/-- TX_UNDERRUN (R227). -/
def execTxUnderrun (dt : Nat) (n : Fin 112) (j : Fin 4) (s : State) : Out :=
  s.main (fun d => (d.advance dt).txUnderrun n.val j.val)

/-- FRAME_TX_END (R224). -/
def execFrameTxEnd (dt : Nat) (n : Fin 112) (j : Fin 4) (s : State) : Out :=
  s.main (fun d => ((d.advance dt).txEnd n.val j.val).1)

/-- GATE_STATE_CHANGE (R232). -/
def execGateStateChange (dt : Nat) (n : Fin 112) (j : Fin 4) (s : State) : Out :=
  s.main (fun d => if d.slHere n.val then (d.advance dt).gateUpdate n.val j.val else d.advance dt)

/-- LPI_ENTRY (R237). -/
def execLpiEntry (n : Fin 112) (j : Fin 4) (s : State) : Out := s.main (·.lpiEnter n.val j.val)

/-- The link partner starts or stops low-power idle (R236, R237): shown, and each start counted. -/
def Dev.lpiRx (d : Dev) (n j : Nat) (on : Bool) : Dev :=
  if d.portUp n j && d.eeeOn n j then
    (d.put (Reg.SM_PORT_STAT.LPI_RX n j) (bit on)).iff (on && !d.on (Reg.SM_PORT_STAT.LPI_RX n j)) (·.smCnt n j 26)
  else d

/-- LPI_RX_CHANGE (R237). -/
def execLpiRxChange (n : Fin 112) (j : Fin 4) (on : Bool) (s : State) : Out := s.main (·.lpiRx n.val j.val on)

end Sys2Proof.Machine
end

