-- ==== Sys2Proof/Machine/CmdTime.lean ====
section
/-!
DEFINITION. Commands of spec/09: the time base, its samples, the time PLL and the 1PPS pins.
-/
namespace Sys2Proof.Machine

/-- A read of TIM.NOW_FRAC (R244) that computes T on phase `phase` of the CK_TIME cycle. -/
def Dev.nowAccess (d : Dev) (m : Master) (phase : Nat) : Dev :=
  let a := Reg.TIM_NOW_FRAC.ADR
  if d.absent a then d.access m a .read else
  let d1 := d.nowRead m.num phase
  Dev.answered m a (d1.readThen m a, d1.view m.num a)

/-- NOW_READ (R244). -/
def execNowRead (dt : Nat) (m : Master) (phase : Fin 8) (s : State) : Out :=
  s.main (fun d => (d.advance dt).nowAccess m phase.val)

/-- STEP_GO (R246): TIM.CTRL is written with STEP_GO 1. -/
def execStepGo (dt : Nat) (m : Master) (v : Word) (s : State) : Out :=
  s.main (fun d => (d.advance dt).poke m Reg.TIM_CTRL.ADR (v ||| 4#32))

/-- TOD_ARM (R256). -/
def execTodArm (m : Master) (s : State) : Out := s.main (·.poke m Reg.TIM_TOD_ARM.ADR 1#32)

/-- TOD_SAMPLE_CAPTURE (R256): the PSync of the frame that channel n has just taken up. -/
def execTodSampleCapture (dt : Nat) (n : Fin 4) (st : Strobe) (s : State) : Out :=
  s.main (fun d => (d.advance dt).todCapture n.val st)

/-- TOD_SAMPLE_EVALUATE (R256, R257). -/
def execTodSampleEvaluate (dt : Nat) (s : State) : Out := s.main (fun d => (d.advance dt).todEvaluate)

/-- SLEW_COMPLETE (R257). -/
def execSlewComplete (dt : Nat) (s : State) : Out := s.main (fun d => (d.advance dt).slewComplete)

/-- RATE_WRITE (R243). -/
def execRateWrite (dt : Nat) (m : Master) (v : Word) (s : State) : Out :=
  s.main (fun d => (d.advance dt).poke m Reg.TIM_RATE.ADR v)

/-- XFER_PARAM_WRITE (R258): TIM.XFER_ASYM, or TIM.XFER_EQD0. -/
def execXferParamWrite (m : Master) (asym : Bool) (v : Word) (s : State) : Out :=
  s.main (·.poke m (if asym then Reg.TIM_XFER_ASYM.ADR else Reg.TIM_XFER_EQD0.ADR) v)

/-- PLL_CTRL_WRITE (R259). -/
def execPllCtrlWrite (m : Master) (v : Word) (s : State) : Out := s.main (·.poke m Reg.TIM_PLL_CTRL.ADR v)

/-- PLL_REF_QUALIFIED (R259). -/
def execPllRefQualified (s : State) : Out := s.main Dev.pllQualified

/-- PLL_LOCK_ACHIEVED (R259). -/
def execPllLockAchieved (s : State) : Out := s.main Dev.pllLock

/-- PLL_REF_UNQUALIFIED (R259): the state follows the reference as it stands. -/
def execPllRefUnqualified (s : State) : Out := s.main Dev.pllEval

/-- PPS_OUT_PULSE (R262). -/
def execPpsOutPulse (dt : Nat) (s : State) : Out := s.main (fun d => (d.advance dt).ppsRise)

/-- PPS_WIDTH_EXPIRY (R262). -/
def execPpsWidthExpiry (dt : Nat) (s : State) : Out := s.main (fun d => (d.advance dt).ppsFall)

/-- PPS_IN_EDGE (R262). -/
def execPpsInEdge (dt : Nat) (rising : Bool) (st : Strobe) (s : State) : Out :=
  s.main (fun d => (d.advance dt).ppsIn rising st)

end Sys2Proof.Machine
end

