-- ==== Sys2Proof/Machine/CmdLane.lean ====
section
/-!
DEFINITION. Commands of spec/10: serial lanes and the physical layer of riser ports; and the wake arbiter's commands
(spec/15 R399 to R401).
-/
namespace Sys2Proof.Machine

/-- The register at offset `o` of a serial lane's area. -/
def laneReg : SerLane → Nat → Nat
  | .sub n, o => Reg.SL_LADDER.ADR n.val + o
  | .riser p l, o => 0x1C30100 + 0x40000 * p.val + 0x100 * l.val + o

/-- SIGNAL_DETECT_CHANGE (R267). -/
def execSignalDetectChange (x : SerLane) (on : Bool) (s : State) : Out := s.main (·.signal x on)

/-- LANE_SYNC_CHANGE (R267): what a lane's receiver reports now: lock or alignment, HI_BER, RS-FEC alignment, clock
recovery, and since the last report the codewords corrected and uncorrectable and the checker's errors (R283). -/
def execLaneSyncChange (x : SerLane) (sync hiBer fec cdr : Bool) (cw : FecCount) (errs : Nat) (s : State) : Out :=
  s.main (·.laneSync x sync hiBer fec cdr cw.corr cw.unc errs)

/-- SL_ADAPT_DONE (R281): the boost and the DFE tap that the receiver has reached. -/
def execSlAdaptDone (x : SerLane) (ctle dfe : Nat) (s : State) : Out := s.main (·.laneAdapted x ctle dfe)

/-- LADDER_START (R269): SL.LADDER is written with AUTO 1. -/
def execLadderStart (m : Master) (n : Fin 112) (v : Word) (s : State) : Out :=
  s.main (·.poke m (Reg.SL_LADDER.ADR n.val) (v ||| 0x1000#32))

/-- LADDER_RESTART (R269): SL.LADDER is written with RESTART 1. -/
def execLadderRestart (m : Master) (n : Fin 112) (v : Word) (s : State) : Out :=
  s.main (·.poke m (Reg.SL_LADDER.ADR n.val) (v ||| 0x400000#32))

/-- LADDER_DWELL_EXPIRY (R269): whether the link condition held for the dwell's last millisecond. -/
def execLadderDwellExpiry (n : Fin 112) (held : Bool) (s : State) : Out :=
  s.main (fun d => if d.slHere n.val then d.dwell n.val held else d)

/-- TXEQ_WRITE (R281). -/
def execTxeqWrite (m : Master) (x : SerLane) (v : Word) (s : State) : Out := s.main (·.poke m (laneReg x 0x10) v)

/-- EYE_SCAN_START (R282): EYE_CTRL is written. -/
def execEyeScanStart (m : Master) (x : SerLane) (v : Word) (s : State) : Out := s.main (·.poke m (laneReg x 0x20) v)

/-- EYE_SCAN_DONE (R282): the disagreements counted. -/
def execEyeScanDone (x : SerLane) (errors : Nat) (s : State) : Out := s.main (·.eyeDone x errors)

/-- PAT_SYNC_GAIN (R283). -/
def execPatSyncGain (x : SerLane) (s : State) : Out := s.main (·.patGain x)

/-- PAT_SYNC_LOSS (R283): with the errors counted until then. -/
def execPatSyncLoss (x : SerLane) (errs : Nat) (s : State) : Out := s.main (·.patLost x errs)

/-- FORWARDED_CLOCK_LOSS (R274): what the detector last measured, in kHz. -/
def execForwardedClockLoss (x : PortClock) (s : State) : Out :=
  s.main (fun d => if d.rpUp x.p.val then d.clockLost x.p.val x.khz else d)

/-- FORWARDED_CLOCK_OK (R274): what the detector has measured, in kHz. -/
def execForwardedClockOk (x : PortClock) (s : State) : Out :=
  s.main (fun d => if d.rpUp x.p.val then d.clockOk x.p.val x.khz else d)

/-- PAGE_ACCEPT (R275, R277): the bits that have come on the data lanes. -/
def execPageAccept (p : Fin 4) (x : LaneBits) (s : State) : Out :=
  s.main (fun d => if d.rpUp p.val then d.pageAccept p.val x else d)

/-- PAGE_EXCHANGE_DONE (R275). -/
def execPageExchangeDone (p : Fin 4) (s : State) : Out := s.main (fun d => if d.rpUp p.val then d.pagesDone p.val else d)

/-- SWITCH_SUSPEND_EXPIRY (R275). -/
def execSwitchSuspendExpiry (p : Fin 4) (s : State) : Out := s.main (fun d => if d.rpUp p.val then d.suspendOver p.val else d)

/-- SWITCH_TIMEOUT (R275). -/
def execSwitchTimeout (p : Fin 4) (s : State) : Out := s.main (fun d => if d.rpUp p.val then d.switchTimeout p.val else d)

/-- TRAIN_TIMER_EXPIRY (R275, R276): when the markers of lanes 0 and 1 came, in unit intervals. -/
def execTrainTimerExpiry (p : Fin 4) (m0 m1 : Int) (s : State) : Out :=
  s.main (fun d => if d.rpUp p.val then d.trainOver p.val m0 m1 else d)

/-- RISER_CDR_UNLOCK (R275). -/
def execRiserCdrUnlock (p : Fin 4) (l : Fin 2) (s : State) : Out :=
  s.main (fun d => if d.rpUp p.val then d.cdrUnlock p.val l.val else d)

/-- FAIL_RETRY_EXPIRY (R275). -/
def execFailRetryExpiry (p : Fin 4) (s : State) : Out := s.main (fun d => if d.rpUp p.val then d.failRetry p.val else d)

/-- PHY_RESTART (R275): RP.PHY_CTRL is written with RESTART 1. -/
def execPhyRestart (m : Master) (p : Fin 4) (v : Word) (s : State) : Out :=
  s.main (·.poke m (Reg.RP_PHY_CTRL.ADR p.val) (v ||| 0x4000000#32))

/-- SLEEP_ENTRY (R279). -/
def execSleepEntry (x : LaneDir) (s : State) : Out := s.main (·.sleepEnter x)

/-- WAKE_REQUEST (R399). -/
def execWakeRequest (x : WakeSrc) (s : State) : Out := s.main (·.wakeRequest x)

/-- WAKE_GRANT (R400): a CK_CREMA cycle of the arbiter. -/
def execWakeGrant (s : State) : Out := s.crema Dev.wakeCycle

/-- WAKE_COMPLETE (R280, R401). -/
def execWakeComplete (x : WakeSrc) (s : State) : Out := s.main (·.wakeDone x)

end Sys2Proof.Machine
end

