-- ==== Sys2Proof/Machine/CmdRiser.lean ====
section
/-!
DEFINITION. Commands of spec/11: wagons, management records, remote access, probes, time transfer, pairs and global
operations.
-/
namespace Sys2Proof.Machine

/-- WAGON_SEND (R294): a wagon slot of port p. -/
def execWagonSend (dt : Nat) (p : Fin 4) (st : Strobe) (s : State) : Out := s.main (fun d => (d.advance dt).wagonSend p.val st)

/-- WAGON_RX (R292): the bits of a wagon as they came on the two data lanes, stuffed bits and a leading fill word
included. -/
def execWagonRx (dt : Nat) (p : Fin 4) (l0 l1 : List Bool) (st : Strobe) (s : State) : Out :=
  s.main (fun d => (d.advance dt).laneRx p.val l0 l1 st)

/-! ### Records that arrive (R303) -/

/-- A record of a type on riser port p, in a wagon stamped `x`. -/
def Dev.recArrives (d : Dev) (p typ : Nat) (r : Rec) (x : Stamp) : Dev := d.recordOn p { r with typ := typ } x

/-- RD_REQ (R305). -/
def execRdReq (p : Fin 4) (r : Rec) (s : State) : Out := s.main (·.recArrives p.val 1 r {})

/-- WR_REQ (R305). -/
def execWrReq (p : Fin 4) (r : Rec) (s : State) : Out := s.main (·.recArrives p.val 2 r {})

/-- RESP (R305). -/
def execResp (p : Fin 4) (r : Rec) (s : State) : Out := s.main (·.recArrives p.val 3 r {})

/-- EVENT (R306). -/
def execEvent (p : Fin 4) (r : Rec) (s : State) : Out := s.main (·.recArrives p.val 4 r {})

/-- PROBE (R307). -/
def execProbe (p : Fin 4) (r : Rec) (s : State) : Out := s.main (·.recArrives p.val 5 r {})

/-- PROBE_REPLY (R307). -/
def execProbeReply (p : Fin 4) (r : Rec) (s : State) : Out := s.main (·.recArrives p.val 6 r {})

/-- HOMING (R312). -/
def execHoming (p : Fin 4) (r : Rec) (s : State) : Out := s.main (·.recArrives p.val 7 r {})

/-- SYNC (R308), stamped t2 by its strobe. -/
def execSync (dt : Nat) (p : Fin 4) (r : Rec) (st : Strobe) (s : State) : Out :=
  s.main (fun d => (d.advance dt).recArrives p.val 8 r ((d.advance dt).wagonRx p.val st))

/-- FOLLOW (R308). -/
def execFollow (p : Fin 4) (r : Rec) (s : State) : Out := s.main (·.recArrives p.val 9 r {})

/-- DREQ (R308), stamped t4 by its strobe. -/
def execDreq (dt : Nat) (p : Fin 4) (r : Rec) (st : Strobe) (s : State) : Out :=
  s.main (fun d => (d.advance dt).recArrives p.val 10 r ((d.advance dt).wagonRx p.val st))

/-- DRESP (R309). -/
def execDresp (p : Fin 4) (r : Rec) (s : State) : Out := s.main (·.recArrives p.val 11 r {})

/-- GOP_ARM (R317). -/
def execGopArm (p : Fin 4) (r : Rec) (s : State) : Out := s.main (·.recArrives p.val 12 r {})

/-- GOP_CANCEL (R318). -/
def execGopCancel (p : Fin 4) (r : Rec) (s : State) : Out := s.main (·.recArrives p.val 13 r {})

/-- GOP_REPORT (R318). -/
def execGopReport (p : Fin 4) (r : Rec) (s : State) : Out := s.main (·.recArrives p.val 14 r {})

/-! ### This device's own requests and timers -/

/-- RACC_GO (R305): RACC_CMD of slot k is written with GO 1. -/
def execRaccGo (m : Master) (k : Fin 4) (v : Word) (s : State) : Out :=
  s.main (·.poke m (Reg.RP_RACC_CMD.ADR k.val) (v ||| 0x40#32))

/-- RACC_TIMEOUT (R305). -/
def execRaccTimeout (k : Fin 4) (s : State) : Out := s.main (·.raccTimeout k.val)

/-- EVT_REPEAT_EXPIRY (R306). -/
def execEvtRepeatExpiry (s : State) : Out := s.main Dev.eventRepeat

/-- PROBE_GO (R307): PROBE_CMD is written with GO 1. -/
def execProbeGo (m : Master) (v : Word) (s : State) : Out := s.main (·.poke m Reg.RP_PROBE_CMD.ADR (v ||| 0x80#32))

/-- PROBE_TIMEOUT (R307). -/
def execProbeTimeout (s : State) : Out := s.main Dev.probeTimeout

/-- XFER_SYNC_TIMER (R308). -/
def execXferSyncTimer (s : State) : Out := s.main Dev.xferTimer

/-- XFER_EXCHANGE_TIMEOUT (R308). -/
def execXferExchangeTimeout (s : State) : Out := s.main Dev.exchTimeout

/-- PAIR_SWITCH (R312): pair k. -/
def execPairSwitch (k : Fin 2) (s : State) : Out := s.main (·.pairSwitch k.val)

/-- GOP_GO (R316): GOP_CTRL is written with GO 1. -/
def execGopGo (dt : Nat) (m : Master) (v : Word) (s : State) : Out :=
  s.main (fun d => (d.advance dt).poke m Reg.RP_GOP_CTRL.ADR (v ||| 8#32))

/-- GOP_ABORT (R318): GOP_CTRL is written with ABORT 1. -/
def execGopAbort (dt : Nat) (m : Master) (v : Word) (s : State) : Out :=
  s.main (fun d => (d.advance dt).poke m Reg.RP_GOP_CTRL.ADR (v ||| 0x10#32))

/-- GOP_CANCEL_POINT (R318). -/
def execGopCancelPoint (dt : Nat) (s : State) : Out := s.main (fun d => (d.advance dt).gopPoint)

/-- GOP_EXECUTE (R319). -/
def execGopExecute (dt : Nat) (s : State) : Out := s.main (fun d => (d.advance dt).gopInstantRun)

end Sys2Proof.Machine
end

