-- ==== Sys2Proof/Machine/CmdHost.lean ====
section
/-!
DEFINITION. Commands of spec/12: domains, rings, doorbells, records, interrupts and the PCIe endpoint.
-/
namespace Sys2Proof.Machine

/-- DOMAIN_BIND (R324): DOM_CFG of domain k is written. -/
def execDomainBind (m : Master) (k : Fin 16) (v : Word) (s : State) : Out := s.main (·.poke m (Reg.HIF_DOM_CFG.ADR k.val) v)

/-- RING_ENABLE (R327): the ring's doorbell slot as read afresh, and the bytes that then stand in its slots in host
memory, from the device's index on. -/
def execRingEnable (r : Fin 256) (slot : Word) (b : List Byte) (s : State) : Out :=
  s.main (·.ringEnable r.val slot.toNat (descsOf b))

/-- RING_DISABLE (R328): RING_CTRL.EN is written 0. -/
def execRingDisable (m : Master) (r : Fin 256) (s : State) : Out := s.main (·.poke m (Reg.HIF_RING_CTRL.ADR r.val) 0#32)

/-- RING_STOP_DONE (R328). -/
def execRingStopDone (r : Fin 256) (s : State) : Out := s.main (·.ringStop r.val)

/-- The line of domain k has been written, with what stands in the rings' slots (bytes by ring). -/
def Dev.doorbellWritten (d : Dev) (k : Nat) (line : List Nat) (mem : List (Nat × List Byte)) : Dev :=
  if d.hifUp && d.bind k == 1 then (d.doorbellLine k line mem).1 else d

/-- DOORBELL_CHANGE (R340): the sixteen indices of the line of domain k. -/
def execDoorbellChange (k : Fin 16) (line : List Nat) (mem : List (Nat × List Byte)) (s : State) : Out :=
  s.main (·.doorbellWritten k.val line mem)

/-- DOORBELL_POLL (R341). -/
def execDoorbellPoll (k : Fin 16) (s : State) : Out := s.main (·.pollIssue k.val)

/-- POLL_COMPLETION (R341): the round-trip time in units of POLL_RTT, the line, and the slots. -/
def execPollCompletion (k : Fin 16) (rtt : Nat) (line : List Nat) (mem : List (Nat × List Byte)) (s : State) : Out :=
  s.main (·.pollDone k.val rtt line mem)

/-- POLL_BACKOFF (R341): not where BACKOFF_DIS is 1. -/
def execPollBackoff (k : Fin 16) (s : State) : Out :=
  s.main (fun d => if d.polls k.val && !d.on (Reg.HIF_DOM_CFG.BACKOFF_DIS k.val) then d.ev (Reg.HIF_DOM_STAT.BACKED_OFF k.val) else d)

/-- TXF_FRAME_FETCH (R332): host port 452 + k; what a read of each ring's slots from its head on returns. -/
def execTxfFrameFetch (k : Fin 4) (mem : List (Nat × List Byte)) (s : State) : Out := s.main (·.txfFetch k.val mem)

/-- TXF_FRAME_READ_DONE (R333): the bytes of the frame that ring r was reading. -/
def execTxfFrameReadDone (dt : Nat) (r : Fin 256) (b : List Byte) (s : State) : Out :=
  s.main (fun d => (d.advance dt).txfDone r.val b)

/-- STATUS_LINE_WRITE (R338). -/
def execStatusLineWrite (k : Fin 16) (s : State) : Out := s.main (·.statusLine k.val)

/-- EVT_MOD_TIMER_EXPIRY (R337). -/
def execEvtModTimerExpiry (r : Fin 256) (s : State) : Out := s.main (·.modTimer r.val)

/-- RX_STARVE_TIMEOUT (R344). -/
def execRxStarveTimeout (r : Fin 256) (s : State) : Out := s.main (·.starve r.val)

/-- IRQ_RESEND_EXPIRY (R347): block b of R306. -/
def execIrqResendExpiry (b : Fin 16) (s : State) : Out :=
  s.main (fun d => if bitOf d.irqOut b.val then d.irqSend b.val else d)

/-- DMA_ERROR (R349): a read for ring r failed at the descriptor `i` from its head. -/
def execDmaError (r : Fin 256) (i : Nat) (s : State) : Out := s.main (·.dmaError r.val i)

/-- POLL_ERROR (R349). -/
def execPollError (k : Fin 16) (s : State) : Out := s.main (·.pollError k.val)

/-- POLL_ERR_CLEAR (R349): DOM_STAT is written with POLL_ERR 1. -/
def execPollErrClear (m : Master) (k : Fin 16) (s : State) : Out :=
  s.main (·.poke m (Reg.HIF_DOM_STAT.ADR k.val) 0x20000#32)

/-- The data link comes up with the speed and width negotiated, or goes down (both then read as right after reset); while the host interface is held its event stays at reset (R47). -/
def Dev.pcieLink (d : Dev) (up : Bool) (speed width : Nat) : Dev :=
  if !d.pcieHere then d
  else
    let d1 := (d.put Reg.HIF_PCIE_STAT.SPEED (if up then speed else 0)).put Reg.HIF_PCIE_STAT.WIDTH (if up then width else 0)
    if d.on Reg.HIF_PCIE_STAT.LINK_UP != up then
      (d1.put Reg.HIF_PCIE_STAT.LINK_UP (bit up)).iff d.hifUp (·.ev Reg.HIF_EVT.PCIE_LINK)
    else d1

/-- PCIE_LINK_CHANGE (R348): SPEED and WIDTH in their codes. -/
def execPcieLinkChange (up : Bool) (speed width : BitVec 3) (s : State) : Out :=
  s.main (·.pcieLink up speed.toNat width.toNat)

/-- A configuration write of the PCIe host; vectors that it unmasks go out, and what waited for bus mastering goes as the
command ends. -/
def Dev.pcieConfig (d : Dev) (c : PcieCfg) : Dev :=
  if !d.pcieHere then d
  else match c with
    | .bme on => d.put Reg.HIF_PCIE_STAT.BME (bit on)
    | .funcMask on => { d with host := { d.host with funcMask := on } }.flushPend
    | .vecMask v on => { d with host := { d.host with vecMask := setBit d.host.vecMask v.val on } }.flushPend
    | .entry v addr data => { d with host := { d.host with msix := Tbl.set d.host.msix v.val (addr.toNat, data.toNat) } }
    | .payload c => { d with host := { d.host with payload := c.val } }
    | .readReq c => { d with host := { d.host with readReq := c.val } }

/-- PCIE_CONFIG_WRITE (R348). -/
def execPcieConfigWrite (c : PcieCfg) (s : State) : Out := s.main (·.pcieConfig c)

end Sys2Proof.Machine
end

