-- ==== Sys2Proof/Machine/CmdGen.lean ====
section
/-!
DEFINITION. Commands of spec/13: configuration generations, the firmware trial and the boot record.
-/
namespace Sys2Proof.Machine

/-- A write of GEN.CMD. -/
def Dev.genPoke (d : Dev) (m : Master) (op : Nat) (noConfirm : Bool) (expect : Nat) : Dev :=
  d.poke m Reg.GEN_CMD.ADR (BitVec.ofNat 32 (op + 2 ^ 4 * bit noConfirm + 2 ^ 16 * expect))

/-- COMMIT (R354). -/
def execCommit (dt : Nat) (m : Master) (noConfirm : Bool) (expect : BitVec 16) (s : State) : Out :=
  s.main (fun d => (d.advance dt).genPoke m 1 noConfirm expect.toNat)

/-- COMMIT_AT (R356). -/
def execCommitAt (dt : Nat) (m : Master) (noConfirm : Bool) (expect : BitVec 16) (s : State) : Out :=
  s.main (fun d => (d.advance dt).genPoke m 2 noConfirm expect.toNat)

/-- ABORT (R356). -/
def execAbort (dt : Nat) (m : Master) (s : State) : Out := s.main (fun d => (d.advance dt).genPoke m 3 false 0)

/-- CONFIRM (R359). -/
def execConfirm (dt : Nat) (m : Master) (s : State) : Out := s.main (fun d => (d.advance dt).genPoke m 4 false 0)

/-- ROLLBACK (R360). -/
def execRollback (dt : Nat) (m : Master) (s : State) : Out := s.main (fun d => (d.advance dt).genPoke m 5 false 0)

/-- RENUMBER (R352). -/
def execRenumber (m : Master) (s : State) : Out := s.main (·.genPoke m 6 false 0)

/-- DISCARD (R361). -/
def execDiscard (m : Master) (s : State) : Out := s.main (·.genPoke m 7 false 0)

/-- COMMIT_VALIDATED (R354). -/
def execCommitValidated (dt : Nat) (s : State) : Out := s.main (fun d => (d.advance dt).commitValidated)

/-- COMMIT_AT_INSTANT (R356). -/
def execCommitAtInstant (dt : Nat) (s : State) : Out := s.main (fun d => (d.advance dt).commitInstant 0)

/-- CONFIRM_TIMEOUT (R360). -/
def execConfirmTimeout (dt : Nat) (s : State) : Out := s.main (fun d => (d.advance dt).confirmTimeout)

/-- ROLLBACK_REVERT_DONE (R360). -/
def execRollbackRevertDone (s : State) : Out := s.main Dev.revertDone

/-- DISCARD_DONE (R361). -/
def execDiscardDone (s : State) : Out := s.main Dev.discardDone

/-- FW_CONFIRM (R364): GEN.FW_CTRL is written with CONFIRM 1. -/
def execFwConfirm (m : Master) (v : Word) (s : State) : Out := s.main (·.poke m Reg.GEN_FW_CTRL.ADR (v ||| 4#32))

/-- FW_TRIAL_TIMEOUT (R364): the timer runs in the Crema domain. -/
def execFwTrialTimeout (s : State) : Out := s.crema Dev.trialTimeout

/-- BOOT_RECORD_WRITE_DONE (R364). -/
def execBootRecordWriteDone (s : State) : Out := s.main Dev.fwRecordDone

end Sys2Proof.Machine
end

