-- ==== Sys2Proof/Machine/CmdDram.lean ====
section
/-!
DEFINITION. Commands of spec/14: the DRAM controller.
-/
namespace Sys2Proof.Machine

/-- DMC_ENABLE (R369): DMC.CTRL is written with EN 1. -/
def execDmcEnable (m : Master) (v : Word) (s : State) : Out := s.main (·.poke m Reg.DMC_CTRL.ADR (v ||| 1#32))

/-- DMC_RGN_WRITE (R369): word `i` of DMC.RGN, two for each region. -/
def execDmcRgnWrite (m : Master) (i : Fin 6) (v : Word) (s : State) : Out := s.main (·.poke m (0x1E00020 + 4 * i.val) v)

/-- DMC_INIT (R383): DMC.CTRL is written with INIT 1. -/
def execDmcInit (m : Master) (v : Word) (s : State) : Out := s.main (·.poke m Reg.DMC_CTRL.ADR (v ||| 2#32))

/-- DMC_INIT_DONE (R383): the code and the channels of a failure, and the channels whose dies report refresh
management. -/
def execDmcInitDone (fail : Option (Nat × Nat)) (rfm : BitVec 4) (s : State) : Out := s.main (·.dmcInitDone fail rfm.toNat)

/-- DMC_REQUEST (R371): a read of `len` bytes, or a write of `data`, by a port; `deadline` of a real-time read in ns. -/
def execDmcRequest (dt : Nat) (port : Fin 6) (addr len : Nat) (data : Option (List Byte)) (deadline : Nat) (s : State) : Out :=
  s.main (fun d => (d.advance dt).dmcRequest port.val addr len data deadline)

/-- REGULATOR_REFILL (R372). -/
def execRegulatorRefill (s : State) : Out := s.main Dev.regulatorRefill

/-- DMC_COMMAND_SLOT (R374 to R382): `o` is what decoding gives where a write must read its line first. -/
def execDmcCommandSlot (dt : Nat) (c : Fin 4) (o : ReadOutcome) (s : State) : Out :=
  s.main (fun d => (d.advance dt).commandSlot c.val o)

/-- DMC_READ_COMPLETE (R367). -/
def execDmcReadComplete (dt : Nat) (c : Fin 4) (o : ReadOutcome) (s : State) : Out :=
  s.main (fun d => (d.advance dt).readComplete c.val o)

/-- REFRESH_DUE (R377). -/
def execRefreshDue (c : Fin 4) (s : State) : Out := s.main (·.refreshDue c.val)

/-- MR4_POLL_DUE (R379). -/
def execMr4PollDue (c : Fin 4) (s : State) : Out := s.main (·.mr4Due c.val)

/-- MR4_RESULT (R379, R380): the codes of both dies. -/
def execMr4Result (c : Fin 4) (a b : Nat) (s : State) : Out := s.main (·.mr4Result c.val a b)

/-- RETRAIN_DUE (R381). -/
def execRetrainDue (c : Fin 4) (s : State) : Out := s.main (·.retrainDue c.val)

/-- RETRAIN_FORCE (R381). -/
def execRetrainForce (c : Fin 4) (s : State) : Out := s.main (·.retrainForce c.val)

end Sys2Proof.Machine
end

