-- ==== Sys2Proof/Machine/CmdPower.lean ====
section
/-!
DEFINITION. Commands of spec/15: the Crema domain's rails, card detection, dying gasp, thermal control, clock and watchdog.
-/
namespace Sys2Proof.Machine

/-- PHASE_SAMPLING_DONE (R388): the phases fitted at each rail controller. -/
def execPhaseSamplingDone (fitted : List Nat) (s : State) : Out := s.crema (·.phaseSampled fitted)

/-- VSET_WRITE (R389). -/
def execVsetWrite (m : Master) (k : Fin 6) (v : Word) (s : State) : Out := s.main (·.poke m (Reg.PWR_RAIL_VSET.ADR k.val) v)

/-- RAIL_GOOD (R390, R391): rail k; `strap` is WORKER_STRAP, sampled where cold reset ends (R285). -/
def execRailGood (k : Fin 8) (strap : Bool) (s : State) : Out := s.crema (·.railGoodNow k.val strap)

/-- RAIL_FAULT (R390): rail k, the code of RAIL_STAT.FAULT, and whether 10 s without a fault have passed. -/
def execRailFault (k : Fin 8) (code : Fin 8) (freeRun : Bool) (s : State) : Out := s.crema (·.railFault k.val code.val freeRun)

/-- FAULT_RETRY_EXPIRY (R390). -/
def execFaultRetryExpiry (s : State) : Out := s.crema Dev.retryOver

/-- HP_PRESENT_CHANGE (R391, R394): the level of HP_PRESENT_N. -/
def execHpPresentChange (high : Bool) (s : State) : Out := s.crema (·.hpPresent high)

/-- HP_DEBOUNCE_EXPIRY (R391). -/
def execHpDebounceExpiry (s : State) : Out := s.crema Dev.hpDebounced

/-- STAGE_START (R391). -/
def execStageStart (s : State) : Out := s.crema Dev.stageStart

/-- HP_GRACE_EXPIRY (R394). -/
def execHpGraceExpiry (s : State) : Out := s.crema Dev.graceOver

/-- POWER_DOWN_STAGE (R394). -/
def execPowerDownStage (s : State) : Out := s.crema Dev.downNext

/-- PWR_OFF (R394): PWR.CTRL is written with OFF 1 and the key in `v`. -/
def execPwrOff (m : Master) (v : Word) (s : State) : Out := s.main (·.poke m Reg.PWR_CTRL.ADR (v ||| 1#32))

/-- OFF_HOLD_EXPIRY (R395). -/
def execOffHoldExpiry (s : State) : Out := s.crema Dev.offOver

/-- DYING_GASP_RAISE (R397). -/
def execDyingGaspRaise (dt : Nat) (s : State) : Out :=
  s.crema (fun d => (if d.mainUp then d.advance dt else d).vinLow true)

/-- DYING_GASP_WITHDRAW (R397). -/
def execDyingGaspWithdraw (s : State) : Out := s.crema (·.vinLow false)

/-- SLICE_GATE (R401). -/
def execSliceGate (m : Master) (v : Word) (s : State) : Out := s.main (·.poke m Reg.PWR_GATE.ADR v)

/-- THERMAL_CONVERSION (R402, R403): the twelve sensors in quarter degrees. -/
def execThermalConversion (temps : List Int) (s : State) : Out := s.crema (·.thermConvert temps)

/-- THERMAL_RECOVERY (R403). -/
def execThermalRecovery (s : State) : Out := s.crema Dev.thermRecover

/-- RTC_SEC_WRITE (R404). -/
def execRtcSecWrite (m : Master) (v : Word) (s : State) : Out := s.main (·.poke m Reg.PWR_RTC_SEC.ADR v)

/-- WDOG_KICK (R405): PWR.WDOG is written with KICK 0x5A5A. -/
def execWdogKick (m : Master) (timeout : BitVec 16) (s : State) : Out :=
  s.main (·.poke m Reg.PWR_WDOG.ADR (0x5A5A#16 ++ timeout))

/-- WDOG_TIMEOUT_WRITE (R405). -/
def execWdogTimeoutWrite (m : Master) (v : Word) (s : State) : Out := s.main (·.poke m Reg.PWR_WDOG.ADR v)

/-- WDOG_EXPIRY (R405). -/
def execWdogExpiry (s : State) : Out := s.crema Dev.wdogExpiry

/-- XT_OK_CHANGE (R404). -/
def execXtOkChange (on : Bool) (s : State) : Out := s.crema (·.xtOk on)

end Sys2Proof.Machine
end

