-- ==== Sys2Proof/Machine/CmdTrust.lean ====
section
/-!
DEFINITION. Commands of spec/16: the boot ROM and the trust block.
-/
namespace Sys2Proof.Machine

/-- BOOT_ROM_START (R410): what the flash holds, whether the secret of the die could be reconstructed, and whether the
random source found a good seed. -/
def execBootRomStart (f : Flash) (identOk seedOk : Bool) (s : State) : Out := s.main (·.bootRom f identOk seedOk)

/-- BOOT_COMPLETE (R410): the version of the Tender firmware, which its image gives. -/
def execBootComplete (fwVer : BitVec 16) (s : State) : Out := s.main (·.bootDone fwVer.toNat)

/-- A write of TRU.CMD. -/
def Dev.truPoke (d : Dev) (m : Master) (op arg : Nat) : Dev := d.poke m Reg.TRU_CMD.ADR (BitVec.ofNat 32 (op + 2 ^ 4 * arg))

/-- ATTEST (R417). -/
def execAttest (m : Master) (s : State) : Out := s.main (·.truPoke m 1 0)

/-- MEAS_EXTEND (R414). -/
def execMeasExtend (m : Master) (s : State) : Out := s.main (·.truPoke m 2 0)

/-- DBG_OPEN (R419). -/
def execDbgOpen (m : Master) (s : State) : Out := s.main (·.truPoke m 3 0)

/-- ARB_ADVANCE (R412). -/
def execArbAdvance (m : Master) (v : BitVec 8) (s : State) : Out := s.main (·.truPoke m 4 v.toNat)

/-- KEY_REVOKE (R413). -/
def execKeyRevoke (m : Master) (slot : BitVec 8) (s : State) : Out := s.main (·.truPoke m 5 slot.toNat)

/-- TRU_CMD_DONE (R420): `bad` is a fuse that failed to read back. -/
def execTruCmdDone (bad : Option Nat) (s : State) : Out := s.main (·.truDone bad)

/-- DBG_CHALLENGE_READ (R419). -/
def execDbgChallengeRead (m : Master) (s : State) : Out := s.main (·.access m (Reg.TRU_DBG_CHAL.ADR 0) .read)

/-- A read of TRU.RNG_DATA; `goodSeed` is whether a reseed that falls due finds a good seed (R421). -/
def Dev.rngAccess (d : Dev) (m : Master) (goodSeed : Bool) : Dev :=
  let a := Reg.TRU_RNG_DATA.ADR
  if d.absent a then d.access m a .read else Dev.answered m a (d.rngRead goodSeed)

/-- RNG_READ (R421). -/
def execRngRead (m : Master) (goodSeed : Bool) (s : State) : Out := s.main (·.rngAccess m goodSeed)

/-- RNG_HEALTH_FAIL (R421). -/
def execRngHealthFail (s : State) : Out := s.main Dev.rngHealthFail

end Sys2Proof.Machine
end

