-- ==== Sys2Proof/Machine/CmdDebug.lean ====
section
/-!
DEFINITION. Commands of spec/17 and spec/18: check-value units, debug outputs, the TAP, I²C and MDIO.
-/
namespace Sys2Proof.Machine

/-- CVU_START (R423): CVU.CTRL of unit u is written with START 1. -/
def execCvuStart (m : Master) (u : Fin 4) (v : Word) (s : State) : Out :=
  s.main (·.poke m (Reg.CVU_CTRL.ADR u.val) (v ||| 8#32))

/-- CVU_CHECK (R426): CVU.CTRL of unit u is written with CHECK 1. -/
def execCvuCheck (m : Master) (u : Fin 4) (v : Word) (s : State) : Out :=
  s.main (·.poke m (Reg.CVU_CTRL.ADR u.val) (v ||| 0x10#32))

/-- CVU_ABANDON (R425): CVU.CTRL of unit u is written with ABANDON 1. -/
def execCvuAbandon (m : Master) (u : Fin 4) (v : Word) (s : State) : Out :=
  s.main (·.poke m (Reg.CVU_CTRL.ADR u.val) (v ||| 0x40#32))

/-- CVU_DATA_B (R424). -/
def execCvuDataB (m : Master) (u : Fin 4) (v : Word) (s : State) : Out := s.main (·.poke m (Reg.CVU_DATA_B.ADR u.val) v)

/-- CVU_DATA_H (R424). -/
def execCvuDataH (m : Master) (u : Fin 4) (v : Word) (s : State) : Out := s.main (·.poke m (Reg.CVU_DATA_H.ADR u.val) v)

/-- CVU_DATA_W (R424). -/
def execCvuDataW (m : Master) (u : Fin 4) (v : Word) (s : State) : Out := s.main (·.poke m (Reg.CVU_DATA_W.ADR u.val) v)

/-- CVU_RESULT_READ (R424): ACC, RESULT, COUNT or STAT. -/
def execCvuResultRead (m : Master) (u : Fin 4) (reg : Fin 4) (s : State) : Out :=
  s.main (·.access m (([Reg.CVU_ACC.ADR, Reg.CVU_RESULT.ADR, Reg.CVU_COUNT.ADR, Reg.CVU_STAT.ADR].getD reg.val
    Reg.CVU_ACC.ADR) u.val) .read)

/-- CKO_CHANGE (R429): DBG.CKO of output i is written. -/
def execCkoChange (m : Master) (i : Fin 2) (v : Word) (s : State) : Out := s.main (·.poke m (Reg.DBG_CKO.ADR i.val) v)

/-- DEBUG_RESET (R430): DBG.CTRL is written with DRESET 1 and this KEY. -/
def execDebugReset (m : Master) (key : BitVec 16) (s : State) : Out :=
  s.main (·.poke m Reg.DBG_CTRL.ADR (key ++ 1#16))

/-! ### The TAP (R431 to R433) -/

/-- TAP_RESET (R431). -/
def execTapReset (s : State) : Out := s.run Dev.tapReset

/-- IDCODE (R432): the identification register is selected and read. -/
def execIdcode (s : State) : Out := s.run Dev.tapIdcode

/-- SAMPLE_PRELOAD (R432): the levels of the pins, and what is shifted in. -/
def execSamplePreload (pins shifted : Nat) (s : State) : Out := s.run (·.tapSample pins shifted)

/-- EXTEST (R431). -/
def execExtest (s : State) : Out := s.run (·.tapLoad 3)

/-- EXTEST_PULSE (R432). -/
def execExtestPulse (s : State) : Out := s.run (·.tapLoad 4)

/-- EXTEST_TRAIN (R432). -/
def execExtestTrain (s : State) : Out := s.run (·.tapLoad 5)

/-- HIGHZ (R432). -/
def execHighz (s : State) : Out := s.run (·.tapLoad 6)

/-- CLAMP (R432). -/
def execClamp (s : State) : Out := s.run (·.tapLoad 7)

/-- TRU_ACCESS (R433). -/
def execTruAccess (s : State) : Out := s.run (·.tapLoad 0x20)

/-- TRU_ACCESS_UPDATE (R433): a scan of the register, with the 48 bits at Update-DR. -/
def execTruAccessUpdate (v : BitVec 48) (s : State) : Out := s.run (·.tapUpdate v.toNat)

/-- The access of the TAP completes. -/
def Dev.tapAccessDone (d : Dev) : Dev := if d.mainUp && d.tapUp && d.tap.run.isSome then d.tapAccess else d

/-- TRU_ACCESS_DONE (R433). -/
def execTruAccessDone (s : State) : Out := s.run Dev.tapAccessDone

/-- BREWHOUSE_DEBUG_PORT (R432). -/
def execBrewhouseDebugPort (s : State) : Out := s.run (·.tapLoad 0x40)

/-- TENDER_DEBUG_PORT (R432). -/
def execTenderDebugPort (s : State) : Out := s.run (·.tapLoad 0x41)

/-- INTERNAL_SCAN (R432). -/
def execInternalScan (s : State) : Out := s.run (·.tapLoad 0x42)

/-- BYPASS (R432). -/
def execBypass (s : State) : Out := s.run (·.tapLoad 0xFF)

/-! ### I²C and MDIO (R450, R451) -/

/-- I2C_GO (R450): I2C_CMD of bus b is written with GO 1. -/
def execI2cGo (m : Master) (b : Fin 4) (v : Word) (s : State) : Out :=
  s.main (·.poke m (Reg.CHIPCAP_I2C_CMD.ADR b.val) (v ||| 0x400#32))

/-- I2C_DONE (R450): the status, and the byte of a read. -/
def execI2cDone (b : Fin 4) (status : Fin 4) (rdata : Byte) (s : State) : Out :=
  s.main (·.i2cDone b.val status.val rdata.toNat)

/-- MDIO_GO (R451): MDIO_CMD of bus k is written with GO 1. -/
def execMdioGo (m : Master) (k : Fin 2) (v : Word) (s : State) : Out :=
  s.main (·.poke m (Reg.CHIPCAP_MDIO_CMD.ADR k.val) (v ||| 0x8000#32))

/-- MDIO_DONE (R451): the data of a read. -/
def execMdioDone (k : Fin 2) (data : BitVec 16) (s : State) : Out := s.main (·.mdioDone k.val data.toNat)

end Sys2Proof.Machine
end

