-- ==== Sys2Proof/Machine/Dispatch.lean ====
section
/-!
DEFINITION. The dispatch of a command to its meaning: one arm for every constructor of Instr.
-/
namespace Sys2Proof.Machine

/-- The effect of a command on everything but the queue. -/
def exec (i : Instr) (s : State) : Host.Outcome State Fault Refusal :=
  match i with
  | .registerWrite m a v => Sys2Proof.Machine.execRegisterWrite m a v s
  | .w1cClear m a v hw => Sys2Proof.Machine.execW1cClear m a v hw s
  | .rcRead m a => Sys2Proof.Machine.execRcRead m a s
  | .wideLowWordRead m a => Sys2Proof.Machine.execWideLowWordRead m a s
  | .absentUnitAccess m a op => Sys2Proof.Machine.execAbsentUnitAccess m a op s
  | .unmappedAccess m a op => Sys2Proof.Machine.execUnmappedAccess m a op s
  | .narrowAccess m a kind op => Sys2Proof.Machine.execNarrowAccess m a kind op s
  | .cremaPowerOnReset => Sys2Proof.Machine.execCremaPowerOnReset s
  | .cremaPorEnd => Sys2Proof.Machine.execCremaPorEnd s
  | .porstNAssert => Sys2Proof.Machine.execPorstNAssert s
  | .porstNRelease strap => Sys2Proof.Machine.execPorstNRelease strap s
  | .resetNAssert => Sys2Proof.Machine.execResetNAssert s
  | .resetNRelease => Sys2Proof.Machine.execResetNRelease s
  | .chipReset m key => Sys2Proof.Machine.execChipReset m key s
  | .blockRstLn v => Sys2Proof.Machine.execBlockRstLn v s
  | .blockRstRp v => Sys2Proof.Machine.execBlockRstRp v s
  | .blockRstCph on => Sys2Proof.Machine.execBlockRstCph on s
  | .blockRstHif on => Sys2Proof.Machine.execBlockRstHif on s
  | .pcieReset => Sys2Proof.Machine.execPcieReset s
  | .functionLevelReset => Sys2Proof.Machine.execFunctionLevelReset s
  | .testEnAssert on strap => Sys2Proof.Machine.execTestEnAssert on strap s
  | .recircTokenGain => Sys2Proof.Machine.execRecircTokenGain s
  | .hostTokenGain => Sys2Proof.Machine.execHostTokenGain s
  | .slotGrant dt k => Sys2Proof.Machine.execSlotGrant dt k s
  | .inputBufferArrival dt p data => Sys2Proof.Machine.execInputBufferArrival dt p data s
  | .rxEnWrite m n v => Sys2Proof.Machine.execRxEnWrite m n v s
  | .eqAcqDone n => Sys2Proof.Machine.execEqAcqDone n s
  | .ffeWrite m n ix v => Sys2Proof.Machine.execFfeWrite m n ix v s
  | .ffeSnapshotRead m n => Sys2Proof.Machine.execFfeSnapshotRead m n s
  | .eqPreset m n v => Sys2Proof.Machine.execEqPreset m n v s
  | .lineSdChange n level => Sys2Proof.Machine.execLineSdChange n level s
  | .dsdRaise n => Sys2Proof.Machine.execDsdRaise n s
  | .dsdClear n => Sys2Proof.Machine.execDsdClear n s
  | .lolRaise n => Sys2Proof.Machine.execLolRaise n s
  | .lolClear n => Sys2Proof.Machine.execLolClear n s
  | .huntRestart m n v => Sys2Proof.Machine.execHuntRestart m n v s
  | .huntMatch n pos errs hec sfc => Sys2Proof.Machine.execHuntMatch n pos errs hec sfc s
  | .candidateCheck n pos errs hec x => Sys2Proof.Machine.execCandidateCheck n pos errs hec x s
  | .ambigRaise n => Sys2Proof.Machine.execAmbigRaise n s
  | .framePsync dt n errs hec sfc ponid => Sys2Proof.Machine.execFramePsync dt n errs hec sfc ponid s
  | .codewordDecision n corr => Sys2Proof.Machine.execCodewordDecision n corr s
  | .fsHeaderReceived n => Sys2Proof.Machine.execFsHeaderReceived n s
  | .xgemHeader n h st => Sys2Proof.Machine.execXgemHeader n h st s
  | .xportWrite m n ix v => Sys2Proof.Machine.execXportWrite m n ix v s
  | .traceCtrlWrite m n v => Sys2Proof.Machine.execTraceCtrlWrite m n v s
  | .pmLatch dt => Sys2Proof.Machine.execPmLatch dt s
  | .pmSelWrite m n v => Sys2Proof.Machine.execPmSelWrite m n v s
  | .tenderLockstepError => Sys2Proof.Machine.execTenderLockstepError s
  | .tenderRestart m => Sys2Proof.Machine.execTenderRestart m s
  | .actEnable m n => Sys2Proof.Machine.execActEnable m n s
  | .actDisable m n => Sys2Proof.Machine.execActDisable m n s
  | .lodsTimeout n => Sys2Proof.Machine.execLodsTimeout n s
  | .to1Expiry n => Sys2Proof.Machine.execTo1Expiry n s
  | .to2Expiry n => Sys2Proof.Machine.execTo2Expiry n s
  | .burstProfile n p x => Sys2Proof.Machine.execBurstProfile n p x s
  | .assignOnuId n p onu => Sys2Proof.Machine.execAssignOnuId n p onu s
  | .rangingTime n p eqd => Sys2Proof.Machine.execRangingTime n p eqd s
  | .deactivateOnuId n p => Sys2Proof.Machine.execDeactivateOnuId n p s
  | .disableSerialNumber n p all disable => Sys2Proof.Machine.execDisableSerialNumber n p all disable s
  | .requestRegistration n p => Sys2Proof.Machine.execRequestRegistration n p s
  | .assignAllocId n p alloc add => Sys2Proof.Machine.execAssignAllocId n p alloc add s
  | .keyControl n p x => Sys2Proof.Machine.execKeyControl n p x s
  | .systemProfile n p content => Sys2Proof.Machine.execSystemProfile n p content s
  | .channelProfile n p ident => Sys2Proof.Machine.execChannelProfile n p ident s
  | .changePowerLevel n p level => Sys2Proof.Machine.execChangePowerLevel n p level s
  | .protectionControl n p => Sys2Proof.Machine.execProtectionControl n p s
  | .sleepAllow n p => Sys2Proof.Machine.execSleepAllow n p s
  | .calibrationRequest n p => Sys2Proof.Machine.execCalibrationRequest n p s
  | .adjustTxWavelength n p => Sys2Proof.Machine.execAdjustTxWavelength n p s
  | .tuningControl n p => Sys2Proof.Machine.execTuningControl n p s
  | .ploamAnswerReady n => Sys2Proof.Machine.execPloamAnswerReady n s
  | .pwrLvlAppliedWrite m n v => Sys2Proof.Machine.execPwrLvlAppliedWrite m n v s
  | .pwrLvlTimeout n => Sys2Proof.Machine.execPwrLvlTimeout n s
  | .bandwidthMapParse n grants => Sys2Proof.Machine.execBandwidthMapParse n grants s
  | .burstSeal dt n => Sys2Proof.Machine.execBurstSeal dt n s
  | .burstTransmit dt n => Sys2Proof.Machine.execBurstTransmit dt n s
  | .prestageFill dt n t => Sys2Proof.Machine.execPrestageFill dt n t s
  | .cbSidingReadDone dt x => Sys2Proof.Machine.execCbSidingReadDone dt x s
  | .allocTcontWrite m n ix v => Sys2Proof.Machine.execAllocTcontWrite m n ix v s
  | .omciRx n => Sys2Proof.Machine.execOmciRx n s
  | .txmsgHandoff r l b => Sys2Proof.Machine.execTxmsgHandoff r l b s
  | .lineModeWrite m v => Sys2Proof.Machine.execLineModeWrite m v s
  | .bondGroupEnable m g v => Sys2Proof.Machine.execBondGroupEnable m g v s
  | .bondGroupDisable m g v => Sys2Proof.Machine.execBondGroupDisable m g v s
  | .bondUnitRx dt n => Sys2Proof.Machine.execBondUnitRx dt n s
  | .bondStartTimerExpiry g => Sys2Proof.Machine.execBondStartTimerExpiry g s
  | .bondWindowExpiry g => Sys2Proof.Machine.execBondWindowExpiry g s
  | .fastDefHoldoffExpiry n ucw => Sys2Proof.Machine.execFastDefHoldoffExpiry n ucw s
  | .protAutoSwitch => Sys2Proof.Machine.execProtAutoSwitch s
  | .protManualSwitch m v => Sys2Proof.Machine.execProtManualSwitch m v s
  | .protForcedSwitch m v => Sys2Proof.Machine.execProtForcedSwitch m v s
  | .protSwitchComplete => Sys2Proof.Machine.execProtSwitchComplete s
  | .trefTrackResume => Sys2Proof.Machine.execTrefTrackResume s
  | .loadPlain m slot => Sys2Proof.Machine.execLoadPlain m slot s
  | .loadDev m slot => Sys2Proof.Machine.execLoadDev m slot s
  | .loadLink m slot => Sys2Proof.Machine.execLoadLink m slot s
  | .generate m slot => Sys2Proof.Machine.execGenerate m slot s
  | .invalidate m slot => Sys2Proof.Machine.execInvalidate m slot s
  | .keyCmdDone => Sys2Proof.Machine.execKeyCmdDone s
  | .lineKeySwArm m n v => Sys2Proof.Machine.execLineKeySwArm m n v s
  | .rsrKeySwArm m p v => Sys2Proof.Machine.execRsrKeySwArm m p v s
  | .rsrKeySwitch dt p => Sys2Proof.Machine.execRsrKeySwitch dt p s
  | .wagonVerdict p => Sys2Proof.Machine.execWagonVerdict p s
  | .ingressPassEnd dt k => Sys2Proof.Machine.execIngressPassEnd dt k s
  | .recircReturn k => Sys2Proof.Machine.execRecircReturn k s
  | .recircTimeout k => Sys2Proof.Machine.execRecircTimeout k s
  | .pclStageWrite m t loc => Sys2Proof.Machine.execPclStageWrite m t loc s
  | .pclStageDelete m t loc => Sys2Proof.Machine.execPclStageDelete m t loc s
  | .pclStageRevert m t loc => Sys2Proof.Machine.execPclStageRevert m t loc s
  | .pclRead m t view loc => Sys2Proof.Machine.execPclRead m t view loc s
  | .pclReadLoc m t view loc => Sys2Proof.Machine.execPclReadLoc m t view loc s
  | .pclDiscardRejected m => Sys2Proof.Machine.execPclDiscardRejected m s
  | .tblCmdDone u => Sys2Proof.Machine.execTblCmdDone u s
  | .scrubDone x => Sys2Proof.Machine.execScrubDone x s
  | .bucketRefill level ix => Sys2Proof.Machine.execBucketRefill level ix s
  | .bucketReset m b ix => Sys2Proof.Machine.execBucketReset m b ix s
  | .queueFlush m q => Sys2Proof.Machine.execQueueFlush m q s
  | .readLevel m b ix => Sys2Proof.Machine.execReadLevel m b ix s
  | .tmgStageWrite m t loc => Sys2Proof.Machine.execTmgStageWrite m t loc s
  | .tmgStageDelete m t loc => Sys2Proof.Machine.execTmgStageDelete m t loc s
  | .tmgStageRevert m t loc => Sys2Proof.Machine.execTmgStageRevert m t loc s
  | .tmgRead m t view loc => Sys2Proof.Machine.execTmgRead m t view loc s
  | .tmgDiscardRejected m => Sys2Proof.Machine.execTmgDiscardRejected m s
  | .sidingReturn q => Sys2Proof.Machine.execSidingReturn q s
  | .sidingReadDone q lost => Sys2Proof.Machine.execSidingReadDone q lost s
  | .bufCfgWrite m v => Sys2Proof.Machine.execBufCfgWrite m v s
  | .sidingCfgWrite m v => Sys2Proof.Machine.execSidingCfgWrite m v s
  | .sidingDisableApply => Sys2Proof.Machine.execSidingDisableApply s
  | .tcontOccUpdate t => Sys2Proof.Machine.execTcontOccUpdate t s
  | .tcontOccRead m t => Sys2Proof.Machine.execTcontOccRead m t s
  | .laneCtrlWrite m n v => Sys2Proof.Machine.execLaneCtrlWrite m n v s
  | .inbandWordChange n j rate => Sys2Proof.Machine.execInbandWordChange n j rate s
  | .portLinkChange n j => Sys2Proof.Machine.execPortLinkChange n j s
  | .macFrameRx dt n j b codeErr rm st => Sys2Proof.Machine.execMacFrameRx dt n j b codeErr rm st s
  | .pauseTimerExpiry n j classes => Sys2Proof.Machine.execPauseTimerExpiry n j classes s
  | .fcRefreshExpiry dt n j => Sys2Proof.Machine.execFcRefreshExpiry dt n j s
  | .portFrameRequest dt n j => Sys2Proof.Machine.execPortFrameRequest dt n j s
  | .frameTxStart dt n j st => Sys2Proof.Machine.execFrameTxStart dt n j st s
  | .txUnderrun dt n j => Sys2Proof.Machine.execTxUnderrun dt n j s
  | .frameTxEnd dt n j => Sys2Proof.Machine.execFrameTxEnd dt n j s
  | .gateStateChange dt n j => Sys2Proof.Machine.execGateStateChange dt n j s
  | .ttStageWrite m t loc => Sys2Proof.Machine.execTtStageWrite m t loc s
  | .ttStageDelete m t loc => Sys2Proof.Machine.execTtStageDelete m t loc s
  | .ttStageRevert m t loc => Sys2Proof.Machine.execTtStageRevert m t loc s
  | .ttRead m t view loc => Sys2Proof.Machine.execTtRead m t view loc s
  | .ttDiscardRejected m => Sys2Proof.Machine.execTtDiscardRejected m s
  | .lpiEntry n j => Sys2Proof.Machine.execLpiEntry n j s
  | .lpiRxChange n j on => Sys2Proof.Machine.execLpiRxChange n j on s
  | .nowRead dt m phase => Sys2Proof.Machine.execNowRead dt m phase s
  | .stepGo dt m v => Sys2Proof.Machine.execStepGo dt m v s
  | .todArm m => Sys2Proof.Machine.execTodArm m s
  | .todSampleCapture dt n st => Sys2Proof.Machine.execTodSampleCapture dt n st s
  | .todSampleEvaluate dt => Sys2Proof.Machine.execTodSampleEvaluate dt s
  | .slewComplete dt => Sys2Proof.Machine.execSlewComplete dt s
  | .rateWrite dt m v => Sys2Proof.Machine.execRateWrite dt m v s
  | .xferParamWrite m asym v => Sys2Proof.Machine.execXferParamWrite m asym v s
  | .pllCtrlWrite m v => Sys2Proof.Machine.execPllCtrlWrite m v s
  | .pllRefQualified => Sys2Proof.Machine.execPllRefQualified s
  | .pllLockAchieved => Sys2Proof.Machine.execPllLockAchieved s
  | .pllRefUnqualified => Sys2Proof.Machine.execPllRefUnqualified s
  | .ppsOutPulse dt => Sys2Proof.Machine.execPpsOutPulse dt s
  | .ppsWidthExpiry dt => Sys2Proof.Machine.execPpsWidthExpiry dt s
  | .ppsInEdge dt rising st => Sys2Proof.Machine.execPpsInEdge dt rising st s
  | .signalDetectChange x on => Sys2Proof.Machine.execSignalDetectChange x on s
  | .slAdaptDone x ctle dfe => Sys2Proof.Machine.execSlAdaptDone x ctle dfe s
  | .ladderStart m n v => Sys2Proof.Machine.execLadderStart m n v s
  | .ladderRestart m n v => Sys2Proof.Machine.execLadderRestart m n v s
  | .ladderDwellExpiry n held => Sys2Proof.Machine.execLadderDwellExpiry n held s
  | .txeqWrite m x v => Sys2Proof.Machine.execTxeqWrite m x v s
  | .eyeScanStart m x v => Sys2Proof.Machine.execEyeScanStart m x v s
  | .eyeScanDone x errors => Sys2Proof.Machine.execEyeScanDone x errors s
  | .patSyncGain x => Sys2Proof.Machine.execPatSyncGain x s
  | .patSyncLoss x errs => Sys2Proof.Machine.execPatSyncLoss x errs s
  | .forwardedClockLoss x => Sys2Proof.Machine.execForwardedClockLoss x s
  | .forwardedClockOk x => Sys2Proof.Machine.execForwardedClockOk x s
  | .pageAccept p b => Sys2Proof.Machine.execPageAccept p b s
  | .pageExchangeDone p => Sys2Proof.Machine.execPageExchangeDone p s
  | .switchSuspendExpiry p => Sys2Proof.Machine.execSwitchSuspendExpiry p s
  | .switchTimeout p => Sys2Proof.Machine.execSwitchTimeout p s
  | .trainTimerExpiry p m0 m1 => Sys2Proof.Machine.execTrainTimerExpiry p m0 m1 s
  | .riserCdrUnlock p l => Sys2Proof.Machine.execRiserCdrUnlock p l s
  | .failRetryExpiry p => Sys2Proof.Machine.execFailRetryExpiry p s
  | .phyRestart m p v => Sys2Proof.Machine.execPhyRestart m p v s
  | .sleepEntry x => Sys2Proof.Machine.execSleepEntry x s
  | .wakeRequest x => Sys2Proof.Machine.execWakeRequest x s
  | .wakeGrant => Sys2Proof.Machine.execWakeGrant s
  | .wakeComplete x => Sys2Proof.Machine.execWakeComplete x s
  | .wagonSend dt p st => Sys2Proof.Machine.execWagonSend dt p st s
  | .wagonRx dt p l0 l1 st => Sys2Proof.Machine.execWagonRx dt p l0 l1 st s
  | .rdReq p r => Sys2Proof.Machine.execRdReq p r s
  | .wrReq p r => Sys2Proof.Machine.execWrReq p r s
  | .resp p r => Sys2Proof.Machine.execResp p r s
  | .event p r => Sys2Proof.Machine.execEvent p r s
  | .probe p r => Sys2Proof.Machine.execProbe p r s
  | .probeReply p r => Sys2Proof.Machine.execProbeReply p r s
  | .homing p r => Sys2Proof.Machine.execHoming p r s
  | .sync dt p r st => Sys2Proof.Machine.execSync dt p r st s
  | .follow p r => Sys2Proof.Machine.execFollow p r s
  | .dreq dt p r st => Sys2Proof.Machine.execDreq dt p r st s
  | .dresp p r => Sys2Proof.Machine.execDresp p r s
  | .gopArm p r => Sys2Proof.Machine.execGopArm p r s
  | .gopCancel p r => Sys2Proof.Machine.execGopCancel p r s
  | .gopReport p r => Sys2Proof.Machine.execGopReport p r s
  | .raccGo m k v => Sys2Proof.Machine.execRaccGo m k v s
  | .raccTimeout k => Sys2Proof.Machine.execRaccTimeout k s
  | .evtRepeatExpiry => Sys2Proof.Machine.execEvtRepeatExpiry s
  | .probeGo m v => Sys2Proof.Machine.execProbeGo m v s
  | .probeTimeout => Sys2Proof.Machine.execProbeTimeout s
  | .xferSyncTimer => Sys2Proof.Machine.execXferSyncTimer s
  | .xferExchangeTimeout => Sys2Proof.Machine.execXferExchangeTimeout s
  | .pairSwitch k => Sys2Proof.Machine.execPairSwitch k s
  | .gopGo dt m v => Sys2Proof.Machine.execGopGo dt m v s
  | .gopAbort dt m v => Sys2Proof.Machine.execGopAbort dt m v s
  | .gopCancelPoint dt => Sys2Proof.Machine.execGopCancelPoint dt s
  | .gopExecute dt => Sys2Proof.Machine.execGopExecute dt s
  | .domainBind m k v => Sys2Proof.Machine.execDomainBind m k v s
  | .ringEnable r slot l => Sys2Proof.Machine.execRingEnable r slot l s
  | .ringDisable m r => Sys2Proof.Machine.execRingDisable m r s
  | .ringStopDone r => Sys2Proof.Machine.execRingStopDone r s
  | .doorbellChange k line mem => Sys2Proof.Machine.execDoorbellChange k line mem s
  | .doorbellPoll k => Sys2Proof.Machine.execDoorbellPoll k s
  | .pollCompletion k rtt line mem => Sys2Proof.Machine.execPollCompletion k rtt line mem s
  | .pollBackoff k => Sys2Proof.Machine.execPollBackoff k s
  | .txfFrameFetch k mem => Sys2Proof.Machine.execTxfFrameFetch k mem s
  | .txfFrameReadDone dt r b => Sys2Proof.Machine.execTxfFrameReadDone dt r b s
  | .statusLineWrite k => Sys2Proof.Machine.execStatusLineWrite k s
  | .evtModTimerExpiry r => Sys2Proof.Machine.execEvtModTimerExpiry r s
  | .rxStarveTimeout r => Sys2Proof.Machine.execRxStarveTimeout r s
  | .irqResendExpiry b => Sys2Proof.Machine.execIrqResendExpiry b s
  | .dmaError r ix => Sys2Proof.Machine.execDmaError r ix s
  | .pollError k => Sys2Proof.Machine.execPollError k s
  | .pollErrClear m k => Sys2Proof.Machine.execPollErrClear m k s
  | .pcieLinkChange up speed width => Sys2Proof.Machine.execPcieLinkChange up speed width s
  | .commit dt m noConfirm expect => Sys2Proof.Machine.execCommit dt m noConfirm expect s
  | .commitAt dt m noConfirm expect => Sys2Proof.Machine.execCommitAt dt m noConfirm expect s
  | .abort dt m => Sys2Proof.Machine.execAbort dt m s
  | .confirm dt m => Sys2Proof.Machine.execConfirm dt m s
  | .rollback dt m => Sys2Proof.Machine.execRollback dt m s
  | .renumber m => Sys2Proof.Machine.execRenumber m s
  | .discard m => Sys2Proof.Machine.execDiscard m s
  | .commitValidated dt => Sys2Proof.Machine.execCommitValidated dt s
  | .commitAtInstant dt => Sys2Proof.Machine.execCommitAtInstant dt s
  | .confirmTimeout dt => Sys2Proof.Machine.execConfirmTimeout dt s
  | .rollbackRevertDone => Sys2Proof.Machine.execRollbackRevertDone s
  | .discardDone => Sys2Proof.Machine.execDiscardDone s
  | .fwConfirm m v => Sys2Proof.Machine.execFwConfirm m v s
  | .fwTrialTimeout => Sys2Proof.Machine.execFwTrialTimeout s
  | .bootRecordWriteDone => Sys2Proof.Machine.execBootRecordWriteDone s
  | .dmcEnable m v => Sys2Proof.Machine.execDmcEnable m v s
  | .dmcRgnWrite m ix v => Sys2Proof.Machine.execDmcRgnWrite m ix v s
  | .dmcInit m v => Sys2Proof.Machine.execDmcInit m v s
  | .dmcInitDone fail rfm => Sys2Proof.Machine.execDmcInitDone fail rfm s
  | .dmcRequest dt port addr len data deadline => Sys2Proof.Machine.execDmcRequest dt port addr len data deadline s
  | .regulatorRefill => Sys2Proof.Machine.execRegulatorRefill s
  | .dmcCommandSlot dt c o => Sys2Proof.Machine.execDmcCommandSlot dt c o s
  | .dmcReadComplete dt c o => Sys2Proof.Machine.execDmcReadComplete dt c o s
  | .refreshDue c => Sys2Proof.Machine.execRefreshDue c s
  | .mr4PollDue c => Sys2Proof.Machine.execMr4PollDue c s
  | .mr4Result c a b => Sys2Proof.Machine.execMr4Result c a b s
  | .retrainDue c => Sys2Proof.Machine.execRetrainDue c s
  | .retrainForce c => Sys2Proof.Machine.execRetrainForce c s
  | .phaseSamplingDone fitted => Sys2Proof.Machine.execPhaseSamplingDone fitted s
  | .vsetWrite m k v => Sys2Proof.Machine.execVsetWrite m k v s
  | .railGood k strap => Sys2Proof.Machine.execRailGood k strap s
  | .railFault k code freeRun => Sys2Proof.Machine.execRailFault k code freeRun s
  | .faultRetryExpiry => Sys2Proof.Machine.execFaultRetryExpiry s
  | .hpPresentChange high => Sys2Proof.Machine.execHpPresentChange high s
  | .hpDebounceExpiry => Sys2Proof.Machine.execHpDebounceExpiry s
  | .stageStart => Sys2Proof.Machine.execStageStart s
  | .hpGraceExpiry => Sys2Proof.Machine.execHpGraceExpiry s
  | .powerDownStage => Sys2Proof.Machine.execPowerDownStage s
  | .pwrOff m v => Sys2Proof.Machine.execPwrOff m v s
  | .offHoldExpiry => Sys2Proof.Machine.execOffHoldExpiry s
  | .dyingGaspRaise dt => Sys2Proof.Machine.execDyingGaspRaise dt s
  | .dyingGaspWithdraw => Sys2Proof.Machine.execDyingGaspWithdraw s
  | .sliceGate m v => Sys2Proof.Machine.execSliceGate m v s
  | .thermalConversion temps => Sys2Proof.Machine.execThermalConversion temps s
  | .thermalRecovery => Sys2Proof.Machine.execThermalRecovery s
  | .rtcSecWrite m v => Sys2Proof.Machine.execRtcSecWrite m v s
  | .wdogKick m timeout => Sys2Proof.Machine.execWdogKick m timeout s
  | .wdogTimeoutWrite m v => Sys2Proof.Machine.execWdogTimeoutWrite m v s
  | .wdogExpiry => Sys2Proof.Machine.execWdogExpiry s
  | .bootRomStart f identOk seedOk => Sys2Proof.Machine.execBootRomStart f identOk seedOk s
  | .bootComplete fwVer => Sys2Proof.Machine.execBootComplete fwVer s
  | .attest m => Sys2Proof.Machine.execAttest m s
  | .measExtend m => Sys2Proof.Machine.execMeasExtend m s
  | .dbgOpen m => Sys2Proof.Machine.execDbgOpen m s
  | .arbAdvance m v => Sys2Proof.Machine.execArbAdvance m v s
  | .keyRevoke m slot => Sys2Proof.Machine.execKeyRevoke m slot s
  | .truCmdDone bad => Sys2Proof.Machine.execTruCmdDone bad s
  | .dbgChallengeRead m => Sys2Proof.Machine.execDbgChallengeRead m s
  | .rngRead m goodSeed => Sys2Proof.Machine.execRngRead m goodSeed s
  | .rngHealthFail => Sys2Proof.Machine.execRngHealthFail s
  | .cvuStart m u v => Sys2Proof.Machine.execCvuStart m u v s
  | .cvuCheck m u v => Sys2Proof.Machine.execCvuCheck m u v s
  | .cvuAbandon m u v => Sys2Proof.Machine.execCvuAbandon m u v s
  | .cvuDataB m u v => Sys2Proof.Machine.execCvuDataB m u v s
  | .cvuDataH m u v => Sys2Proof.Machine.execCvuDataH m u v s
  | .cvuDataW m u v => Sys2Proof.Machine.execCvuDataW m u v s
  | .cvuResultRead m u reg => Sys2Proof.Machine.execCvuResultRead m u reg s
  | .ckoChange m ix v => Sys2Proof.Machine.execCkoChange m ix v s
  | .debugReset m key => Sys2Proof.Machine.execDebugReset m key s
  | .tapReset => Sys2Proof.Machine.execTapReset s
  | .idcode => Sys2Proof.Machine.execIdcode s
  | .samplePreload pins shifted => Sys2Proof.Machine.execSamplePreload pins shifted s
  | .extest => Sys2Proof.Machine.execExtest s
  | .extestPulse => Sys2Proof.Machine.execExtestPulse s
  | .extestTrain => Sys2Proof.Machine.execExtestTrain s
  | .highz => Sys2Proof.Machine.execHighz s
  | .clamp => Sys2Proof.Machine.execClamp s
  | .truAccess => Sys2Proof.Machine.execTruAccess s
  | .truAccessUpdate v => Sys2Proof.Machine.execTruAccessUpdate v s
  | .truAccessDone => Sys2Proof.Machine.execTruAccessDone s
  | .brewhouseDebugPort => Sys2Proof.Machine.execBrewhouseDebugPort s
  | .tenderDebugPort => Sys2Proof.Machine.execTenderDebugPort s
  | .internalScan => Sys2Proof.Machine.execInternalScan s
  | .bypass => Sys2Proof.Machine.execBypass s
  | .i2cGo m b v => Sys2Proof.Machine.execI2cGo m b v s
  | .i2cDone b status rdata => Sys2Proof.Machine.execI2cDone b status rdata s
  | .mdioGo m k v => Sys2Proof.Machine.execMdioGo m k v s
  | .mdioDone k data => Sys2Proof.Machine.execMdioDone k data s
  | .ploamTypeNotHandled n p => Sys2Proof.Machine.execPloamTypeNotHandled n p s
  | .laneSyncChange x sync hiBer fec cdr cw errs => Sys2Proof.Machine.execLaneSyncChange x sync hiBer fec cdr cw errs s
  | .pcieConfigWrite c => Sys2Proof.Machine.execPcieConfigWrite c s
  | .xtOkChange on => Sys2Proof.Machine.execXtOkChange on s

end Sys2Proof.Machine
end

