-- ==== Sys2Proof/Safety.lean ====
section
/-!
DEFINITION. What the claims about the block are said in: the canonical form that every state keeps, what no command can
undo, the fields that a command writes, and the answer of a command.
-/
namespace Sys2Proof.Machine

/-! ### The form of a state -/

/-- The tables of register contents and of latched words list rising keys, and the attached memory is in its canonical
form. -/
def Dev.Canon (d : Dev) : Prop := Tbl.wf d.regs = true ∧ Tbl.wf d.latch = true ∧ Memory.wf d.dram.mem = true

/-- The invariant of a state. -/
def State.Inv (s : State) : Prop := s.dev.Canon

/-! ### What no command undoes -/

/-- Every bit that is 1 in `a` is 1 in `b`. -/
def BitsKept (a b : Nat) : Prop := ∀ i, bitOf a i = true → bitOf b i = true

/-- A fuse that is blown in `a` is blown in `b` (R406). -/
def Fuses.Kept (a b : Fuses) : Prop :=
  BitsKept a.root0 b.root0 ∧ BitsKept a.root1 b.root1 ∧ BitsKept a.revoke b.revoke ∧ BitsKept a.dbgHash b.dbgHash ∧
    (a.debugLock = true → b.debugLock = true) ∧ BitsKept a.arb b.arb ∧ BitsKept a.pufHelper b.pufHelper

/-- `d` may come from `d0` by any operations of the device: the part and its presence are those of `d0`, its blown fuses
are still blown, and it has the canonical form if `d0` had it. -/
def Dev.Kept (d0 d : Dev) : Prop :=
  d.chip = d0.chip ∧ Fuses.Kept d0.tru.fuses d.tru.fuses ∧ (d0.Canon → d.Canon)

/-- The outcome is a next state in which the queue is untouched and the device is `Dev.Kept`. -/
def State.Answers (s : State) (o : Out) : Prop := ∃ d, o = .next { s with dev := d } ∧ Dev.Kept s.dev d

/-! ### What a command writes -/

/-- Every field but those listed reads in `d'` as in `d`. -/
def Dev.SameRegs (d d' : Dev) (l : List Fld) : Prop :=
  ∀ k, k ∉ l.map Fld.key → Tbl.get d'.regs k (Reg.rst k) = Tbl.get d.regs k (Reg.rst k)

/-- The listed fields have the listed values in `d'`, and every other field reads as in `d`. -/
def Dev.Regs (d d' : Dev) (l : List (Fld × Nat)) : Prop :=
  (∀ e ∈ l, d'.fld e.1 = e.2) ∧ d.SameRegs d' (l.map Prod.fst)

/-- `d'` is `d` with the listed fields at the listed values and nothing else changed. -/
def Dev.Sets (d d' : Dev) (l : List (Fld × Nat)) : Prop := d.Regs d' l ∧ { d' with regs := d.regs } = d

/-! ### The answer of a command -/

/-- The command `i` answers a next state: the queue is untouched, and the device is `d` after what follows every command
(Machine/Irq.lean). -/
def Does (i : Instr) (s : State) (d : Dev) : Prop := exec i s = .next { s with dev := d.after }

/-- The command `i` answers a next state whose device, before what follows every command, satisfies `P`. -/
def Effect (i : Instr) (s : State) (P : Dev → Prop) : Prop := ∃ d, Does i s d ∧ P d

/-- The listed fields have the listed values in `d'`; every other field reads as in `d` where `keep` names it, and its reset
value elsewhere. -/
def Dev.Resets (d d' : Dev) (keep : Nat → Bool) (l : List (Fld × Nat)) : Prop :=
  (∀ e ∈ l, d'.fld e.1 = e.2) ∧ ∀ k, k ∉ l.map (·.1.key) →
    Tbl.get d'.regs k (Reg.rst k) = if keep k then Tbl.get d.regs k (Reg.rst k) else Reg.rst k

/-- A command of which `g` follows once the device satisfies `P`. -/
def EffectThen (i : Instr) (s : State) (g : Dev → Dev) (P : Dev → Prop) : Prop := ∃ d, Does i s (g d) ∧ P d

/-- `a` is one of `n` addresses from `base` on, `st` bytes apart. -/
def among (a base st n : Nat) : Bool := (slotAt a base st n).isSome

/-- The write of a line channel's register at offset `o` does more than set its fields, or depends on the channel's state. -/
def lineActs (o : Nat) : Bool :=
  o == 0 || o == 0x10 || o == 0x20 || o == 0x30 || decide (0x100 ≤ o ∧ o < 0x17C) || decide (0x180 ≤ o ∧ o < 0x18C) || o == 0x304 ||
    decide (0x1000 ≤ o ∧ o < 0x5000) || o == 0x20000 || o == 0x2000C || o == 0x20044 || decide (0x20010 ≤ o ∧ o < 0x20034) ||
    o == 0x20060 || decide (0x20200 ≤ o ∧ o < 0x20400)

/-- The same for a serial lane: the equalisers, the eye scan, the patterns. -/
def laneActs (o : Nat) : Bool := o == 0x10 || o == 0x14 || o == 0x20 || o == 0x30 || o == 0x34 || o == 0x38

/-- The write of the register at `a` does more than set its fields by their access types: it is a command or starts one, an operation
of its chapter takes it up, or it is ignored in some state. -/
def actsOnWrite (a : Nat) : Bool :=
  if a < 0x10000 then a == Reg.CHIPCAP_RST_CTRL.ADR || a == Reg.CHIPCAP_BLOCK_RST.ADR ||
    among a (Reg.CHIPCAP_I2C_CMD.ADR 0) 0x10 4 || among a (Reg.CHIPCAP_MDIO_CMD.ADR 0) 0x10 2
  else if a < 0x20000 then a == Reg.GEN_CMD.ADR || a == Reg.GEN_FW_CTRL.ADR
  else if a < 0x30000 then a == Reg.PWR_CTRL.ADR || a == Reg.PWR_GATE.ADR || a == Reg.PWR_RTC_SEC.ADR || a == Reg.PWR_WDOG.ADR ||
    among a (Reg.PWR_RAIL_VSET.ADR 0) 0x20 6
  else if a < 0x40000 then a == Reg.TRU_CMD.ADR
  else if a < 0x50000 then a % 0x100 == 0 || a % 0x100 == 0x10 || a % 0x100 == 0x14 || a % 0x100 == 0x18
  else if a < 0x80000 then a == Reg.DBG_CTRL.ADR || among a (Reg.DBG_CKO.ADR 0) 4 2
  else if a < 0x100000 then a == Reg.TIM_CTRL.ADR || a == Reg.TIM_RATE.ADR || a == Reg.TIM_SLEW.ADR || a == Reg.TIM_TOD_ARM.ADR ||
    a == Reg.TIM_XFER_EQD0.ADR || a == Reg.TIM_XFER_ASYM.ADR || a == Reg.TIM_PLL_CTRL.ADR
  else if a < 0x200000 then a == Reg.LN_LINE_MODE.ADR || a == Reg.LN_PROT_CTRL.ADR || decide (0x132000 ≤ a ∧ a < 0x134000) ||
    lineActs (a % 0x40000)
  else if a < 0x300000 then a == Reg.CPH_KEY_CMD.ADR || among a (Reg.CPH_KEY_IN.ADR 0) 4 10 ||
    among a (Reg.CPH_LINE_US_CTRL.ADR 0) 0x10 4 || among a (Reg.CPH_RSR_CTRL.ADR 0) 0x10 4
  else if a < 0x800000 then a == Reg.PCL_TBL_CMD.ADR || among a (Reg.PCL_TBL_DATA.ADR 0) 4 48
  else if a < 0x1000000 then a == Reg.TMG_TBL_CMD.ADR || a == Reg.TMG_NODE_CMD.ADR || a == Reg.TMG_SIDING_CFG.ADR ||
    among a (Reg.TMG_TBL_DATA.ADR 0) 4 16
  else if a < 0x1800000 then a == Reg.SM_TT_CMD.ADR || among a (Reg.SM_TT_DATA.ADR 0) 4 8 || a % 0x10000 == 0 ||
    (decide (0x1000 ≤ a % 0x10000) && (a % 0x1000 == 0 || a % 0x1000 == 0x20 || a % 0x1000 == 0x24))
  else if a < 0x1C00000 then a % 0x4000 == 0 || laneActs (a % 0x4000)
  else if a < 0x1D00000 then a == Reg.RP_HIER_CTRL.ADR || a == Reg.RP_PROBE_CMD.ADR || a == Reg.RP_GOP_CTRL.ADR ||
    among a (Reg.RP_RACC_CMD.ADR 0) 0x10 4 || a % 0x40000 == 0 || a % 0x40000 == 0x30000 ||
    (decide (0x30100 ≤ a % 0x40000 ∧ a % 0x40000 < 0x30300) && laneActs (a % 0x100))
  else if a < 0x1E00000 then (decide (0x1D00100 ≤ a ∧ a < 0x1D00300) && (a % 0x20 == 0 || decide (8 ≤ a % 0x20 ∧ a % 0x20 < 0x18))) ||
    (decide (0x1D01000 ≤ a ∧ a < 0x1D03000) && (a % 0x20 == 0 || a % 0x20 == 0x14 || a % 0x20 == 0x1C))
  else if a < 0x1F00000 then a == Reg.DMC_CTRL.ADR || decide (0x1E00020 ≤ a ∧ a < 0x1E00038)
  else a == Reg.CPX_TND_CTRL.ADR

/-- RATE_EFF is not cut by its clamp: a write of the time base then raises no RATE_CLAMP (R243). -/
def Dev.rateFits (d : Dev) : Prop := clampI (-rateMax) rateMax (d.rate + d.slewTerm) = d.rate + d.slewTerm

/-! ### Generations (spec/13) -/

/-- `d` is `b` after a commit took effect: the numbers and tags move on, the three staging logs become the held logs, the event and
the count, and the confirmation: at once, or by a timer. -/
def CommitTaken (b d : Dev) (noConfirm : Bool) : Prop :=
  let free := noConfirm = true ∨ b.fld Reg.GEN_CONFIRM_T.REQUIRE = 0
  let stage := b.fld Reg.GEN_STAGE.NUM
  d.fld Reg.GEN_PREV.NUM = b.fld Reg.GEN_ACTIVE.NUM % 2 ^ 32 ∧ d.fld Reg.GEN_ACTIVE.NUM = stage % 2 ^ 32 ∧
  d.fld Reg.GEN_STAGE.NUM = (stage + 1) % 2 ^ 32 ∧ d.fld Reg.PCL_GEN_STAT.ACT_TAG = stage % 16 ∧
  d.fld Reg.PCL_GEN_STAT.STG_TAG = (stage + 1) % 16 ∧ d.fld Reg.PCL_GEN_STAT.HELD_TAG = b.actTag % 16 ∧
  d.fld Reg.GEN_STAT.HELD_KIND = 1 ∧ (∀ x : Family, d.fld x.heldKind = 1) ∧ d.fld Reg.GEN_EVT.COMMITTED = 1 ∧
  d.fld (Reg.GEN_CNT.COUNT 0) = min (2 ^ 32 - 1) (b.fld (Reg.GEN_CNT.COUNT 0) + 1) ∧ d.gen.armed = none ∧
  (∀ f ∈ [(d.gen.pcl, b.gen.pcl), (d.gen.tmg, b.gen.tmg), (d.gen.tt, b.gen.tt)],
    f.1.held = f.2.log.map (·.1) ∧ f.1.log = []) ∧
  (free → d.fld Reg.GEN_STAT.CONFIRMED = 1 ∧ d.fld Reg.GEN_EVT.CONFIRMED = 1 ∧ d.gen.confirmAt = none) ∧
  (¬ free → d.fld Reg.GEN_STAT.CONFIRMED = 0 ∧
    d.gen.confirmAt = some (b.core + max 1 (b.fld Reg.GEN_CONFIRM_T.TIMEOUT) * 125000000))

/-- `d` is `b` after a rollback of this cause. -/
def RolledBack (b d : Dev) (cause : Nat) : Prop :=
  let active := b.fld Reg.GEN_ACTIVE.NUM
  let prev := b.fld Reg.GEN_PREV.NUM
  d.fld Reg.GEN_REJECTED.NUM = active % 2 ^ 32 ∧ d.fld Reg.GEN_ACTIVE.NUM = prev % 2 ^ 32 ∧ d.fld Reg.GEN_PREV.NUM = prev ∧
  d.fld Reg.PCL_GEN_STAT.ACT_TAG = prev % 16 ∧ d.fld Reg.PCL_GEN_STAT.HELD_TAG = active % 16 ∧
  d.fld Reg.GEN_STAT.HELD_KIND = 2 ∧ (∀ x : Family, d.fld x.heldKind = 2) ∧ d.fld Reg.GEN_STAT.ROLLBACK_CAUSE = cause ∧
  d.fld Reg.GEN_EVT.ROLLED_BACK = 1 ∧ d.fld (Reg.GEN_CNT.COUNT 2) = min (2 ^ 32 - 1) (b.fld (Reg.GEN_CNT.COUNT 2) + 1) ∧
  d.fld Reg.GEN_STAT.CONFIRMED = 1 ∧ d.fld Reg.GEN_STAT.STAGE_OPEN = 0 ∧ d.fld Reg.GEN_STAT.PENDING = 1 ∧
  d.gen.confirmAt = none ∧ d.gen.reverting = true

/-! ### Domains -/

/-- A command of the Crema domain (spec/15): it acts while the main domain is held in reset. -/
def ofCrema : Instr → Bool
  | .wakeGrant | .phaseSamplingDone _ | .railGood _ _
  | .railFault _ _ _ | .faultRetryExpiry | .hpPresentChange _ | .hpDebounceExpiry | .stageStart | .hpGraceExpiry
  | .powerDownStage | .offHoldExpiry | .dyingGaspRaise _ | .dyingGaspWithdraw | .thermalConversion _ | .thermalRecovery
  | .wdogExpiry | .xtOkChange _ | .fwTrialTimeout => true
  | _ => false

/-- A command of a pin, of the boundary scan or of the Crema's own reset: it acts whatever is held in reset. -/
def ofPins : Instr → Bool
  | .cremaPowerOnReset | .cremaPorEnd | .porstNAssert | .porstNRelease _ | .testEnAssert _ _ | .resetNAssert | .resetNRelease
  | .lineSdChange _ _ | .tapReset | .idcode | .samplePreload _ _ | .extest | .extestPulse | .extestTrain | .highz | .clamp | .truAccess | .truAccessUpdate _
  | .truAccessDone | .brewhouseDebugPort | .tenderDebugPort | .internalScan | .bypass => true
  | _ => false

end Sys2Proof.Machine
end

