-- ==== Sys2Proof/Certificates/Slice0/Obligations.lean ====
section
/-!
DEFINITION. The claims about the block: how commands are taken from the queue, what every step keeps, and what each command does,
by the rules of spec/. Where a clause rests on a value or a reading that the spec leaves open, the docstring names its log entry.
-/
open Sys2Proof Sys2Proof.Machine

/-! ### The queue and the cycle -/

/-- A step takes the command that has waited longest and runs it with the rest of the queue. The queue is the model's form of
the order in which commands come (notes/assumptions/5.md). (spec/01_architecture.md, The register window) -/
def Obligations.StepRunsFront : Prop :=
  ∀ (s : State) (c : Instr), step { s with pending := c :: s.pending } = exec c s

/-- With no command waiting a cycle passes: the counter counts 1 unless a cold reset holds it, and CK_CORE counts and the
staging writer's allowance returns while the main domain runs; with no correction pending only the real-time clock and the
watchdog's count move besides. Under the Crema power-on reset nothing moves. That an empty queue lets a cycle pass is the
model's choice (notes/assumptions/5.md). (spec/09_time.md, Counter and read time; spec/01_architecture.md, Clock domains) -/
def Obligations.IdleStepIsACycle : Prop :=
  ∀ s : State, s.pending = [] →
    let x := s.dev
    let xt := x.fld Reg.PWR_RTC_SUB.XT_OK ≠ 0
    let t := x.pwr.rtc + 32768
    let sub := x.fld Reg.PWR_RTC_SUB.SUB + t / 1250000000
    let y := { x with
      core := if x.mainUp then x.core + 1 else x.core
      tim := if x.held.cold then x.tim else { x.tim with ctr := (x.tim.ctr + 1) % 2 ^ 64 }
      tm := if x.mainUp then { x.tm with stagingUsed := 0, stageNo := x.tm.stageNo + 1 } else x.tm
      pwr := { x.pwr with rtc := if xt then t % 1250000000 else x.pwr.rtc, wdog := x.pwr.wdog + 1 } }
    (x.held.crema = true → step s = .next s) ∧
    (x.held.crema = false → ∃ d, step s = .next { s with dev := d } ∧ d.tim.ctr = y.tim.ctr ∧ d.core = y.core ∧
      (x.tim.pend = 0 ∨ x.held.cold = true → y.Sets d (if xt then [(Reg.PWR_RTC_SUB.SUB, sub % 2 ^ 15),
        (Reg.PWR_RTC_SEC.SEC, (x.fld Reg.PWR_RTC_SEC.SEC + sub / 32768) % 2 ^ 32)] else [])))

/-- Every command, in every state, answers a next state; the queue is not the command's concern. (spec/01_architecture.md, Units
and their registers; spec/01_architecture.md, Resets) -/
def Obligations.EveryCommandAnswers : Prop :=
  ∀ (i : Instr) (s : State), ∃ t, exec i s = .next t ∧ t.pending = s.pending

/-! ### What every step keeps -/

/-- The state after reset has the canonical form, no command waiting, every register at the reset value of its table, both token
buckets of each slice full (R28), the counter at 0 and epoch 0 with ARM_STEP at 1 (R241, R246); its part is an HKN-6400 as R43
ships it, which is the model's choice (notes/assumptions/1.md). (spec/01_architecture.md, Slot arbitration;
spec/01_architecture.md, Resets; spec/01_architecture.md, Units and their registers; spec/09_time.md, Counter and read time;
spec/09_time.md, Epochs and the step) -/
def Obligations.ResetState : Prop :=
  let r := State.reset
  let e := r.dev
  let c := e.chip
  r.Inv ∧ r.pending = [] ∧ (∀ k, Tbl.get e.regs k (Reg.rst k) = Reg.rst k) ∧
    (∀ k, (e.slice k).rtok = 16 ∧ (e.slice k).htok = 4) ∧ e.tim.ctr = 0 ∧ e.epoch = 0 ∧ e.fld Reg.TIM_CTRL.ARM_STEP = 1 ∧
    e.mainUp = true ∧ c.part = 0x6400 ∧ c.units0 = 0x3FFFFF ∧ c.units1 = 0x8FFFF ∧
    [c.sl0, c.sl1, c.sl2, c.sl3] = List.replicate 4 0xFFFFFFF

/-- Every step from a state of canonical form gives one of canonical form. (spec/01_architecture.md, The register window;
spec/01_architecture.md, Resets; spec/14_dram.md, Memory supported) -/
def Obligations.StepKeepsInv : Prop :=
  ∀ s t : State, s.Inv → step s = .next t → t.Inv

/-- A blown fuse is never cleared, whatever the step. No step changes what the part is, which units are present, or its serial
number. (spec/16_trust.md, Fuses; spec/00_scope.md, Detecting the part and its units) -/
def Obligations.StepKeepsPartAndFuses : Prop :=
  (∀ s t : State, step s = .next t → Fuses.Kept s.dev.tru.fuses t.dev.tru.fuses) ∧
  (∀ s t : State, step s = .next t → t.dev.chip = s.dev.chip)

/-- While anything holds the main domain in reset, a command of the main domain changes nothing; while the Crema power-on reset
runs, neither does one of the Crema domain. That a command whose domain is held changes nothing is the model's reading
(notes/assumptions/14.md). (spec/01_architecture.md, Resets; spec/15_power.md, The Crema domain) -/
def Obligations.HeldDomainDoesNothing : Prop :=
  ∀ (i : Instr) (s : State), ofPins i = false → s.dev.mainUp = false → (ofCrema i = true → s.dev.cremaUp = false) →
    exec i s = .next s

/-! ### The register bus -/

/-- An aligned access to an address that no chapter defines is counted and recorded, and has no other effect; a read gives 0.
(R39) -/
def Obligations.UnmappedAccessIsCounted : Prop :=
  ∀ (s : State) (m : Master) (a : BitVec 25) (v hw : Word), s.dev.mainUp = true → a.toNat % 4 = 0 →
    Reg.find a.toNat = none →
    let w := [(Reg.CHIPCAP_BUS_STAT.UNMAPPED_CNT, min 65535 (s.dev.fld Reg.CHIPCAP_BUS_STAT.UNMAPPED_CNT + 1)),
      (Reg.CHIPCAP_BUS_ADDR.ADDR, a.toNat), (Reg.CHIPCAP_BUS_ADDR.KIND, 0), (Reg.CHIPCAP_BUS_ADDR.MASTER, m.num),
      (Reg.CHIPCAP_BUS_ADDR.BOTH, 0)]
    (∀ i ∈ [Instr.registerWrite m a v, .w1cClear m a v hw, .absentUnitAccess m a (.write v), .unmappedAccess m a (.write v)],
      Effect i s (fun d => s.dev.Sets d w)) ∧
    ∀ i ∈ [Instr.rcRead m a, .wideLowWordRead m a, .absentUnitAccess m a .read, .unmappedAccess m a .read],
      Effect i s (fun d => s.dev.Sets { d with out := s.dev.out } w ∧ d.out = .busRead m a.toNat 0 :: s.dev.out)

/-- A write to a register of an absent unit is ignored; a read gives 0xDEAD in the upper half and address bits 24 to 16 in the
lower one. (R9) -/
def Obligations.AbsentUnitAccess : Prop :=
  ∀ (s : State) (m : Master) (a : BitVec 25) (v hw : Word), s.dev.mainUp = true → a.toNat % 4 = 0 →
    (Reg.find a.toNat).isSome = true → s.dev.absent a.toNat = true →
    (∀ i ∈ [Instr.absentUnitAccess m a (.write v), .registerWrite m a v, .w1cClear m a v hw, .unmappedAccess m a (.write v),
      .narrowAccess m a .wordUnaligned (.write v)], Does i s s.dev) ∧
    ∀ i ∈ [Instr.absentUnitAccess m a .read, .rcRead m a, .wideLowWordRead m a, .unmappedAccess m a .read,
      .narrowAccess m a .wordUnaligned .read],
      Does i s { s.dev with out := .busRead m a.toNat (BitVec.ofNat 32 (0xDEAD0000 + a.toNat / 2 ^ 16 % 2 ^ 9)) :: s.dev.out }

/-- A byte or halfword access, or one that is not aligned, is counted and recorded; a write is ignored, a read has no side
effect and answers what the aligned word around it holds (0 where no chapter defines it, 0xDEAD with address bits where its unit
is absent); at an address that no chapter defines it counts as unmapped too. (R40) -/
def Obligations.NarrowAccessIsCounted : Prop :=
  ∀ (s : State) (m : Master) (a : BitVec 25) (k : Narrow) (v hw : Word), s.dev.mainUp = true →
    let w := a.toNat / 4 * 4
    let l := (Reg.CHIPCAP_BUS_STAT.NARROW_CNT, min 65535 (s.dev.fld Reg.CHIPCAP_BUS_STAT.NARROW_CNT + 1)) ::
      (Reg.CHIPCAP_BUS_ADDR.ADDR, a.toNat) :: (Reg.CHIPCAP_BUS_ADDR.MASTER, m.num) ::
        if (Reg.find w).isSome then [(Reg.CHIPCAP_BUS_ADDR.KIND, 1), (Reg.CHIPCAP_BUS_ADDR.BOTH, 0)]
        else [(Reg.CHIPCAP_BUS_STAT.UNMAPPED_CNT, min 65535 (s.dev.fld Reg.CHIPCAP_BUS_STAT.UNMAPPED_CNT + 1)),
          (Reg.CHIPCAP_BUS_ADDR.KIND, 0), (Reg.CHIPCAP_BUS_ADDR.BOTH, 1)]
    let x := if (Reg.find w).isNone then 0 else if s.dev.absent w then 0xDEAD0000 + w / 2 ^ 16 % 2 ^ 9 else s.dev.view m.num w
    let wr := fun i => Effect i s (fun d => s.dev.Sets d l)
    let rd := fun i => Effect i s (fun d => s.dev.Sets { d with out := s.dev.out } l ∧
      d.out = .busRead m a.toNat (BitVec.ofNat 32 x) :: s.dev.out)
    ((k = .wordUnaligned → a.toNat % 4 ≠ 0) → wr (.narrowAccess m a k (.write v)) ∧ rd (.narrowAccess m a k .read)) ∧
    (a.toNat % 4 ≠ 0 →
      (∀ i ∈ [Instr.registerWrite m a v, .w1cClear m a v hw, .absentUnitAccess m a (.write v), .unmappedAccess m a (.write v)],
        wr i) ∧
      ∀ i ∈ [Instr.rcRead m a, .wideLowWordRead m a, .absentUnitAccess m a .read, .unmappedAccess m a .read], rd i)

/-- A write sets the RW fields to the written bits, clears the W1C bits and sets the W1S bits where it has a 1, and leaves
fields of the other types alone; hardware that sets a W1C bit in the same cycle wins. So for every register whose write does no
more: a register of the time base while RATE_CLAMP does not stand. A command that is named after the write of a register is that
write: what an absent unit or an address without a register does with a write holds for it. (spec/00_scope.md, Register access
types) -/
def Obligations.WriteByAccessType : Prop :=
  (∀ (s : State) (m : Master) (a : BitVec 25) (v hw : Word) (r : RegD), s.dev.mainUp = true → a.toNat % 4 = 0 →
     actsOnWrite a.toNat = false → Reg.find a.toNat = some r → s.dev.absent a.toNat = false →
     (0x80000 ≤ a.toNat → a.toNat < 0x100000 → s.dev.rateFits) →
     let g : FldD → Fld := fun f => ⟨a.toNat, f.lo, f.w⟩
     let x : FldD → Nat := fun f => bits v.toNat f.lo f.w
     let new : FldD → Nat := fun f => match f.acc with
       | .rw => x f
       | .w1c => (s.dev.fld (g f) - (s.dev.fld (g f) &&& x f)) % 2 ^ f.w
       | .w1s => (s.dev.fld (g f) ||| x f) % 2 ^ f.w
       | _ => s.dev.fld (g f)
     Effect (.registerWrite m a v) s (fun d => s.dev.Sets d (r.fields.map (fun f => (g f, new f)))) ∧
     Effect (.w1cClear m a v hw) s (fun d => s.dev.Sets d (r.fields.map (fun f =>
       (g f, if f.acc = .w1c then (new f ||| bits hw.toNat f.lo f.w) % 2 ^ f.w else new f))))) ∧
  (∀ (s : State) (m : Master) (v : Word),
     let w : Nat → Word → Instr := fun a x => .registerWrite m (BitVec.ofNat 25 a) x
     let same : Instr → Instr → Prop := fun i j => exec i s = exec j s
     (∀ n : Fin 4, same (.rxEnWrite m n v) (w (Reg.LN_CTRL.ADR n) v) ∧
       same (.eqPreset m n v) (w (Reg.LN_EQ_CTRL.ADR n) (v ||| 0x200#32)) ∧
       same (.huntRestart m n v) (w (Reg.LN_SYNC_CTRL.ADR n) (v ||| 0x2000#32)) ∧
       same (.traceCtrlWrite m n v) (w (Reg.LN_TRACE_CTRL.ADR n) v) ∧ same (.pmSelWrite m n v) (w (Reg.LN_PM_SEL.ADR n) v) ∧
       same (.pwrLvlAppliedWrite m n v) (w (Reg.LN_PWR_LVL.ADR n) v) ∧
       same (.lineKeySwArm m n v) (w (Reg.CPH_LINE_US_CTRL.ADR n) (v ||| 0x10#32)) ∧
       same (.rsrKeySwArm m n v) (w (Reg.CPH_RSR_CTRL.ADR n) (v ||| 0x10#32)) ∧
       same (.phyRestart m n v) (w (Reg.RP_PHY_CTRL.ADR n) (v ||| 0x4000000#32)) ∧
       same (.raccGo m n v) (w (Reg.RP_RACC_CMD.ADR n) (v ||| 0x40#32)) ∧
       same (.cvuStart m n v) (w (Reg.CVU_CTRL.ADR n) (v ||| 8#32)) ∧
       same (.cvuCheck m n v) (w (Reg.CVU_CTRL.ADR n) (v ||| 0x10#32)) ∧
       same (.cvuAbandon m n v) (w (Reg.CVU_CTRL.ADR n) (v ||| 0x40#32)) ∧
       same (.cvuDataB m n v) (w (Reg.CVU_DATA_B.ADR n) v) ∧ same (.cvuDataH m n v) (w (Reg.CVU_DATA_H.ADR n) v) ∧
       same (.cvuDataW m n v) (w (Reg.CVU_DATA_W.ADR n) v) ∧
       same (.i2cGo m n v) (w (Reg.CHIPCAP_I2C_CMD.ADR n) (v ||| 0x400#32))) ∧
     (∀ (n : Fin 4) (i : Fin 34), same (.ffeWrite m n i v) (w (coefFld n i).adr v)) ∧
     (∀ (n : Fin 4) (i : Fin 4096), same (.xportWrite m n i v) (w (Reg.LN_XPORT.ADR n i) v)) ∧
     (∀ (n : Fin 4) (i : Fin 128), same (.allocTcontWrite m n i v) (w (Reg.LN_ALLOC.ADR n i) v)) ∧
     (∀ g : Fin 1024, same (.bondGroupEnable m g v) (w (Reg.LN_BOND_GRP_CFG.ADR g) (v ||| 0x8000#32)) ∧
       same (.bondGroupDisable m g v) (w (Reg.LN_BOND_GRP_CFG.ADR g) (v &&& 0xFFFF7FFF#32))) ∧
     (∀ n : Fin 112, same (.laneCtrlWrite m n v) (w (Reg.SM_LANE_CTRL.ADR n) v) ∧
       same (.ladderStart m n v) (w (Reg.SL_LADDER.ADR n) (v ||| 0x1000#32)) ∧
       same (.ladderRestart m n v) (w (Reg.SL_LADDER.ADR n) (v ||| 0x400000#32))) ∧
     (∀ x : SerLane, same (.txeqWrite m x v) (w (laneReg x 0x10) v) ∧ same (.eyeScanStart m x v) (w (laneReg x 0x20) v)) ∧
     (∀ k : Fin 16, same (.domainBind m k v) (w (Reg.HIF_DOM_CFG.ADR k) v) ∧
       same (.pollErrClear m k) (w (Reg.HIF_DOM_STAT.ADR k) 0x20000#32)) ∧
     (∀ r : Fin 256, same (.ringDisable m r) (w (Reg.HIF_RING_CTRL.ADR r) 0#32)) ∧
     (∀ k : Fin 6, same (.vsetWrite m k v) (w (Reg.PWR_RAIL_VSET.ADR k) v) ∧ same (.dmcRgnWrite m k v) (w (0x1E00020 + 4 * k) v)) ∧
     (∀ k : Fin 2, same (.ckoChange m k v) (w (Reg.DBG_CKO.ADR k) v) ∧
       same (.mdioGo m k v) (w (Reg.CHIPCAP_MDIO_CMD.ADR k) (v ||| 0x8000#32))) ∧
     same (.tenderRestart m) (w Reg.CPX_TND_CTRL.ADR 1#32) ∧ same (.lineModeWrite m v) (w Reg.LN_LINE_MODE.ADR v) ∧
     same (.protManualSwitch m v) (w Reg.LN_PROT_CTRL.ADR (v &&& 0xFFFFFFCF#32 ||| 0x10#32)) ∧
     same (.protForcedSwitch m v) (w Reg.LN_PROT_CTRL.ADR (v &&& 0xFFFFFFCF#32 ||| 0x20#32)) ∧
     same (.dmcEnable m v) (w Reg.DMC_CTRL.ADR (v ||| 1#32)) ∧ same (.dmcInit m v) (w Reg.DMC_CTRL.ADR (v ||| 2#32)) ∧
     same (.fwConfirm m v) (w Reg.GEN_FW_CTRL.ADR (v ||| 4#32)) ∧ same (.pwrOff m v) (w Reg.PWR_CTRL.ADR (v ||| 1#32)) ∧
     same (.sliceGate m v) (w Reg.PWR_GATE.ADR v) ∧ same (.rtcSecWrite m v) (w Reg.PWR_RTC_SEC.ADR v) ∧
     (∀ t : BitVec 16, same (.wdogKick m t) (w Reg.PWR_WDOG.ADR (0x5A5A#16 ++ t)) ∧
       same (.debugReset m t) (w Reg.DBG_CTRL.ADR (t ++ 1#16)) ∧ same (.chipReset m t) (w Reg.CHIPCAP_RST_CTRL.ADR (t ++ 1#16))) ∧
     same (.wdogTimeoutWrite m v) (w Reg.PWR_WDOG.ADR v) ∧ same (.probeGo m v) (w Reg.RP_PROBE_CMD.ADR (v ||| 0x80#32)) ∧
     same (.todArm m) (w Reg.TIM_TOD_ARM.ADR 1#32) ∧ same (.pllCtrlWrite m v) (w Reg.TIM_PLL_CTRL.ADR v) ∧
     (∀ b : Bool, same (.xferParamWrite m b v) (w (if b then Reg.TIM_XFER_ASYM.ADR else Reg.TIM_XFER_EQD0.ADR) v)) ∧
     same (.bufCfgWrite m v) (w Reg.TMG_BUF_CFG.ADR v) ∧ same (.sidingCfgWrite m v) (w Reg.TMG_SIDING_CFG.ADR v))

/-- An aligned read of a present register answers its word, or, of a higher word of a wide value, what the read of the lowest
word latched; returns the RC fields of the register to their reset values, all the words of a wide value with its lowest one;
and the read of a lowest word latches the higher words as they then stand. Nothing else changes, but for the reads that produce
their value: the time, the challenge, the coefficient snapshot and the random word. Which values are wide, and that the read of
a higher word of an RC value clears nothing, is the model's reading (notes/assumptions/16.md); so are the snapshot reads of FFE
and DFE (notes/assumptions/17.md). (spec/00_scope.md, Register access types) -/
def Obligations.ReadClearsAndLatches : Prop :=
  ∀ (s : State) (m : Master) (a : BitVec 25), s.dev.mainUp = true → a.toNat % 4 = 0 →
    (Reg.find a.toNat).isSome = true → s.dev.absent a.toNat = false →
    let n := a.toNat
    let b := if n = Reg.TIM_NOW_FRAC.ADR then (s.dev.nowRead m.num (s.dev.freeVal 3)).freed
      else if n = Reg.TRU_DBG_CHAL.ADR 0 then s.dev.drawChallenge
      else ((slotAt n (Reg.LN_FFE.ADR 0 0) 0x40000 4).map s.dev.ffeSnapshot).getD s.dev
    let own := ((wideOf n).map (fun e => if n = e.1 then (List.range e.2).map (e.1 + 4 * ·) else [])).getD [n]
    let clears := own.flatMap (fun w => ((Reg.find w).map (·.fields)).getD [] |>.filter (·.acc == .rc) |>.map
      (fun f => (⟨w, f.lo, f.w⟩ : Fld)))
    let x := ((wideOf n).map (fun e => if n = e.1 then b.word m.num n else Tbl.get b.latch n 0)).getD (b.word m.num n)
    let r := Dev.rngRead s.dev.freed (s.dev.freeVal 1 == 1)
    ∀ i ∈ [Instr.rcRead m a, .wideLowWordRead m a, .absentUnitAccess m a .read, .unmappedAccess m a .read,
        .narrowAccess m a .wordUnaligned .read],
      (n = Reg.TRU_RNG_DATA.ADR →
        Does i s { r.1 with out := .busRead m n (BitVec.ofNat 32 r.2) :: r.1.out }) ∧
      (n ≠ Reg.TRU_RNG_DATA.ADR → Effect i s (fun d =>
        d.out = .busRead m n (BitVec.ofNat 32 x) :: b.out ∧ b.Regs d (clears.map (fun f => (f, Reg.rst f.key))) ∧
        { d with regs := b.regs, latch := b.latch, out := b.out } = b ∧
        (∀ e, wideOf n = some e → e.1 = n → ∀ j, 1 ≤ j → j < e.2 → Tbl.get d.latch (n + 4 * j) 0 = b.word m.num (n + 4 * j)) ∧
        ∀ k, (∀ e, wideOf n = some e → e.1 = n → ∀ j, 1 ≤ j → j < e.2 → k ≠ n + 4 * j) → Tbl.get d.latch k 0 = Tbl.get b.latch k 0))

/-! ### Resets -/

/-- A cold reset, by PORST_N or TEST_EN, holds the main domain, returns every register but those of the Crema domain, the
firmware's and the reset causes to its reset value (DSD to what the pin gives, and with it what the second has seen), records
COLD, and empties every table, queue and buffer; a burst in progress is cut; the fuses stay. PORST_N also takes the power
sequencer out of LATCHED. That DRAM reads 0 afterwards (notes/assumptions/2.md), that hidden state takes its default
(notes/assumptions/3.md), and what is kept of pins, dying gasp and wake requests (notes/assumptions/28.md), are the model's
choices. (spec/01_architecture.md, Resets; spec/18_pins_electrical.md, Strap pins) -/
def Obligations.ColdResetClearsTheMainDomain : Prop :=
  ∀ (s : State) (strap : Bool), s.dev.cremaUp = true →
    let e := s.dev
    let t := e.tru
    let dsd := ((List.range 4).filter e.lnHere).map (fun n => (defFld n dDSD, bit (!(e.line n).sd)))
    let cut := (List.range 4).filter (fun n => e.lnUp n && (e.coach n).lastOff.any (fun o => decide (e.gridNow n < o)))
    let lamp : Nat → Line := fun n => { sd := (e.line n).sd, seen := if n < 4 ∧ e.lnHere n = true ∧ (e.line n).sd = false then 7 else 6 }
    let P : Held → List (Fld × Nat) → Dev → Prop := fun h l d => d.held = h ∧ e.Resets d coldKeeps (l ++ dsd) ∧ (∀ n, d.line n = lamp n) ∧
      d.out = (cut.map Emit.burstCut).reverse ++ e.out ∧
      { d with held := {}, regs := [], out := [], lines := [] } =
        { chip := e.chip, pwr := e.pwr, wake := e.wake, gasp := e.gasp.map (fun _ => 0),
          freeCtr := e.freeCtr
          tru := { fuses := t.fuses, shadow := t.fuses, deadArb := t.deadArb, deadRevoke := t.deadRevoke, trialOut := t.trialOut
                   recPref := t.recPref } }
    let p := P { e.held with porst := true } [(Reg.CHIPCAP_RST_CAUSE.COLD, 1), (Reg.PWR_STAT.PORST, 0)]
    EffectThen .porstNAssert s (·.unlatch.tryUp) p ∧ (e.seq = sqOn → Effect .porstNAssert s p) ∧
    Effect (.testEnAssert true strap) s (P { e.held with testEn := true } [(Reg.CHIPCAP_RST_CAUSE.COLD, 1)])

/-- A warm reset, by its key, RESET_N, the watchdog or the debug block, returns every register but those that R44 keeps to its
reset value (DSD to what the pin gives), records its cause, empties every table, queue and buffer, cuts a burst in progress, and
keeps the attached memory, the fuses, and the time: T reads as before. The watchdog resets once its count has reached TIMEOUT,
and the count begins again. The PLL, without a reference, holds over. Within a cold reset only the cause is recorded. A wrong
key does nothing, or is denied. That hidden state takes its default (notes/assumptions/3.md), that the TAP is kept
(notes/assumptions/28.md), DENIED for a wrong key (notes/assumptions/32.md) and when the watchdog's count begins again
(notes/assumptions/20.md) are the model's readings. (spec/01_architecture.md, Resets) -/
def Obligations.WarmResetKeepsTheTime : Prop :=
  ∀ (s : State) (m : Master) (key : BitVec 16),
    let e := s.dev
    let t := e.tru
    let pll := e.fld Reg.TIM_PLL_STAT.STATE
    let cut := (List.range 4).filter (fun n => e.lnUp n && (e.coach n).lastOff.any (fun o => decide (e.gridNow n < o)))
    let own : Fld → List Nat := fun c => (c :: [Reg.TIM_RATE_EFF.RATE, Reg.TIM_STAT.SLEWING, Reg.TIM_EVT.RATE_CLAMP,
      Reg.TIM_PLL_STAT.STATE, Reg.TIM_PLL_STAT.REF_OK] ++ (List.range 4).map (defFld · dDSD)).map Fld.key
    let lamp : Nat → Line := fun n => { sd := (e.line n).sd, seen := if n < 4 ∧ e.lnHere n = true ∧ (e.line n).sd = false then 7 else 6 }
    let P : Fld → Held → PwrSt → Dev → Prop := fun c h pw d => d.held = h ∧ d.fld c = 1 ∧ (∀ n, d.line n = lamp n) ∧
      (∀ k, k ∉ own c → Tbl.get d.regs k (Reg.rst k) = if warmKeeps e.worker k then Tbl.get e.regs k (Reg.rst k) else Reg.rst k) ∧
      (∀ n < 4, d.fld (defFld n dDSD) = bit (e.lnHere n && !(e.line n).sd)) ∧ d.fld Reg.TIM_PLL_STAT.REF_OK = 0 ∧
      d.fld Reg.TIM_PLL_STAT.STATE = (if pll = pllLocked then pllHold else if pll = pllLocking then pllFree else pll) ∧
      d.fld Reg.TIM_STAT.SLEWING = bit (e.tim.pend != 0) ∧ d.rateEff = clampI (-rateMax) rateMax (d.rate + d.slewTerm) ∧
      d.time = e.time ∧ d.out = (cut.map Emit.burstCut).reverse ++ e.out ∧
      { d with held := {}, regs := [], out := [], lines := [], tim := { d.tim with off := 0, hist := [] } } =
        { chip := e.chip, pwr := pw, wake := e.wake, gasp := e.gasp, tap := e.tap
          freeCtr := e.freeCtr, dram := { mem := e.dram.mem }
          tim := { ctr := e.tim.ctr, pend := e.tim.pend, buildOut := e.tim.buildOut }
          tru := { fuses := t.fuses, shadow := t.shadow, opened := t.opened, ident := t.ident, rngFail := t.rngFail,
                   cold := t.cold, deadArb := t.deadArb, deadRevoke := t.deadRevoke, trialOut := t.trialOut
                   recPref := t.recPref } }
    let pin := { e.held with resetN := true }
    let fed := { e.pwr with wdog := 0 }
    let dog := e.fld Reg.PWR_WDOG.TIMEOUT ≠ 0 ∧ e.fld Reg.PWR_WDOG.TIMEOUT * 1250000 ≤ e.pwr.wdog
    let dbg := e.unit 17 = true ∧ bitOf e.dbgPerm 4 = true ∧ key = 0xD5E7#16
    (e.held.cold = false → Effect .resetNAssert s (P Reg.CHIPCAP_RST_CAUSE.PIN pin e.pwr)) ∧
    (e.held.cold = true → Effect .resetNAssert s ({ e with held := pin }.Sets · [(Reg.CHIPCAP_RST_CAUSE.PIN, 1)])) ∧
    (e.cremaUp = true →
      (dog → e.held.cold = false → Effect .wdogExpiry s (P Reg.CHIPCAP_RST_CAUSE.WATCHDOG e.held fed)) ∧
      (dog → e.held.cold = true → Effect .wdogExpiry s ({ e with pwr := fed }.Sets · [(Reg.CHIPCAP_RST_CAUSE.WATCHDOG, 1)])) ∧
      (¬ dog → Does .wdogExpiry s e)) ∧
    (e.mainUp = true →
      (key = 0xA55A#16 → Effect (.chipReset m key) s (P Reg.CHIPCAP_RST_CAUSE.SOFT e.held e.pwr)) ∧
      (key ≠ 0xA55A#16 → Does (.chipReset m key) s e) ∧
      (dbg → Effect (.debugReset m key) s (P Reg.CHIPCAP_RST_CAUSE.DEBUG e.held e.pwr)) ∧
      (e.unit 17 = true → ¬ dbg → Effect (.debugReset m key) s (e.Sets · [(Reg.DBG_STAT.DENIED, 1)])) ∧
      (e.unit 17 = false → Does (.debugReset m key) s e))

/-- The Crema power-on reset returns the whole device, every register included (DSD to what the pin gives), to reset and holds
it, cutting a burst in progress; the part, its fuses and the levels of its pins stay. When it ends the pins are seen. That DRAM
reads 0 (notes/assumptions/2.md) and hidden state takes its default (notes/assumptions/3.md) are the model's choices.
(spec/01_architecture.md, Resets; spec/15_power.md, The Crema domain) -/
def Obligations.CremaResetClearsEverything : Prop :=
  ∀ s : State,
    let e := s.dev
    let t := e.tru
    let dsd := ((List.range 4).filter e.lnHere).map (fun n => (defFld n dDSD, bit (!(e.line n).sd)))
    let cut := (List.range 4).filter (fun n => e.lnUp n && (e.coach n).lastOff.any (fun o => decide (e.gridNow n < o)))
    let lamp : Nat → Line := fun n => { sd := (e.line n).sd, seen := if n < 4 ∧ e.lnHere n = true ∧ (e.line n).sd = false then 7 else 6 }
    Effect .cremaPowerOnReset s (fun d => e.Resets d (fun _ => false) dsd ∧ (∀ n, d.line n = lamp n) ∧
      d.out = (cut.map Emit.burstCut).reverse ++ e.out ∧
      { d with regs := [], out := [], lines := [] } =
        { chip := e.chip, freeCtr := e.freeCtr
          held := { crema := true, rails := true, porst := e.held.porst, resetN := e.held.resetN, testEn := e.held.testEn }
          pwr := { hpHigh := e.pwr.hpHigh }, tru := { fuses := t.fuses, shadow := t.fuses, deadArb := t.deadArb, deadRevoke := t.deadRevoke } }) ∧
    (e.held.crema = true → Effect .cremaPorEnd s (fun d =>
      let dg := e.pwr.vinLow || e.pwr.hpHigh
      let rise := dg = true ∧ e.fld Reg.PWR_STAT.DG = 0
      { e with held := { e.held with crema := false }
               gasp := if dg = false then none else if rise then some e.tim.ctr else e.gasp }.Sets d
        ([(Reg.PWR_STAT.PORST, bit (!e.held.porst)), (Reg.PWR_STAT.SEATED, bit (!e.pwr.hpHigh))] ++
          if dg = false then [(Reg.PWR_STAT.DG, 0)]
          else if rise then [(Reg.PWR_STAT.DG, 1), (Reg.PWR_EVT.DG, 1),
            (Reg.PWR_CNT.COUNT 1, min 0xFFFFFFFF (e.fld (Reg.PWR_CNT.COUNT 1) + 1))]
          else []))) ∧
    (e.held.crema = false → Does .cremaPorEnd s e)

/-- A released pin no longer holds the device; when the last of the causes of a cold reset ends, the role is sampled: a worker
where the part is an HKN-6440 or WORKER_STRAP is high. During the Crema power-on reset PORST_N and TEST_EN only take their
level. That RST_CAUSE.COLD sets at the start of the reset is the model's reading (notes/assumptions/28.md).
(spec/01_architecture.md, Resets; spec/18_pins_electrical.md, Strap pins) -/
def Obligations.PinReleaseEndsTheReset : Prop :=
  ∀ (s : State) (strap on : Bool),
    (s.dev.held.crema = true →
      Does .porstNAssert s { s.dev with held := { s.dev.held with porst := true } } ∧
      Does (.porstNRelease strap) s { s.dev with held := { s.dev.held with porst := false } } ∧
      Does (.testEnAssert on strap) s { s.dev with held := { s.dev.held with testEn := on } }) ∧
    (s.dev.held.crema = false →
    let role : Held → List (Fld × Nat) := fun h => if s.dev.held.cold = true ∧ h.cold = false then
      [(Reg.RP_HIER_STAT.ROLE, if s.dev.chip.part = 0x6440 ∨ strap = true then 1 else 0)] else []
    let h1 := { s.dev.held with porst := false }
    let h2 := { s.dev.held with testEn := false }
    Effect (.porstNRelease strap) s (fun d => { s.dev with held := h1 }.Sets d ((Reg.PWR_STAT.PORST, 1) :: role h1)) ∧
    Effect (.testEnAssert false strap) s (fun d => { s.dev with held := h2 }.Sets d (role h2))) ∧
    Does .resetNRelease s { s.dev with held := { s.dev.held with resetN := false } }

/-! ### Unit resets, the slices and the input buffers -/

/-- A write of a field of BLOCK_RST puts each unit whose bit rises into reset and releases each whose bit falls; in the worker
role the LN bits stay 1. A line channel that enters reset keeps its configuration, its pins and its port table; its status and
counters read their reset values, DSD what the pin gives; its coefficients are what adaptation has made of them; receiver,
machine, burst store and key slots are empty, its key record and latched counters 0, and bonded frames of the store are counted
stranded. A channel that leaves reset restarts its receiver and its machine as enabled; the Tender restores its default keys. A
riser port that enters reset keeps its configuration; its link and its lanes are as at reset, frames in reception on it fail and
are counted, and its wake requests are withdrawn. The cipher engine in reset holds no key, no command and no armed switch;
released, it has the default keys again. The host interface in reset has no ring enabled; what the PCIe endpoint shows stays.
That slots 8n to 8n+7 are emptied, that SW_ARM clears with its armed switch, that the shared registers of LN[0] and RP[0] and
PCIE_STAT are outside the unit reset, are the model's readings (notes/assumptions/28.md). (spec/01_architecture.md, Resets;
spec/05_cipher.md, Reset and absence) -/
def Obligations.UnitResetKeepsConfiguration : Prop :=
  (∀ (s : State) (v : BitVec 4) (on : Bool), s.dev.mainUp = true →
     let turn : Bool → Bool → (Dev → Dev) → (Dev → Dev) → Dev → Dev := fun was now hold free d =>
       if was = false ∧ now = true then hold d else if was = true ∧ now = false then free d else d
     let bits4 : Nat → Nat → (Dev → Nat → Dev) → (Dev → Nat → Dev) → Dev → Nat → Dev := fun was now hold free d n =>
       turn (bitOf was n) (bitOf now n) (hold · n) (free · n) d
     let ln := if s.dev.worker then 15 else v.toNat
     Does (.blockRstLn v) s (((List.range 4).filter s.dev.lnHere).foldl
       (bits4 (s.dev.fld Reg.CHIPCAP_BLOCK_RST.LN) ln Dev.lnHold Dev.lnFree) (s.dev.put Reg.CHIPCAP_BLOCK_RST.LN ln)) ∧
     Does (.blockRstRp v) s (((List.range 4).filter s.dev.rpHere).foldl
       (bits4 (s.dev.fld Reg.CHIPCAP_BLOCK_RST.RP) v.toNat Dev.rpHold Dev.rpFree) (s.dev.put Reg.CHIPCAP_BLOCK_RST.RP v.toNat)) ∧
     Does (.blockRstCph on) s (turn (s.dev.on Reg.CHIPCAP_BLOCK_RST.CPH) on Dev.cphHold Dev.cphRelease
       (s.dev.put Reg.CHIPCAP_BLOCK_RST.CPH (bit on))) ∧
     Does (.blockRstHif on) s (if s.dev.hifHere = false then s.dev else
       turn (s.dev.on Reg.CHIPCAP_BLOCK_RST.HIF) on Dev.hifHold id (s.dev.put Reg.CHIPCAP_BLOCK_RST.HIF (bit on)))) ∧
  (∀ (d : Dev) (n : Fin 4),
     let b := 0x100000 + 0x40000 * n.val
     let inSpan : Nat → Bool := fun k => decide (b ≤ k / 32) && decide (k / 32 ≤ b + 0x2FFFF)
     let slots := (List.range 8).map (8 * n.val + ·)
     let now := d.adaptNow n
     let cut := now.txCut n
     let stranded := Reg.LN_BOND_CNT.COUNT 13
     let lost := (((cut.cancelSealed n).coach n).store.filter (·.group.isSome)).length
     (∃ e : Dev, d.lnHold n = e.lineMoved n ∧ e.act n = { loaded := (d.act n).loaded } ∧ e.coach n = {} ∧
       e.line n = { sd := (d.line n).sd, badPorts := (d.line n).badPorts, seen := if d.sdSignal n then 6 else 7 } ∧
       (∀ m, m ≠ n.val → e.act m = d.act m ∧ e.coach m = d.coach m ∧ e.line m = d.line m) ∧
       now.Resets e (fun k => !inSpan k || accOf k == .rw)
         ([(defFld n dDSD, bit (!d.sdSignal n)), (stranded, min (2 ^ stranded.w - 1) (d.fld stranded + lost)),
           (Reg.CPH_LINE_US_CTRL.CUR_IDX n, 0), (Reg.CPH_LINE_US_CTRL.SW_ARM n, 0)] ++
           (List.range 6).map (fun c => (Reg.CPH_LINE_CNT.COUNT n c, 0)) ++
           (List.range 15).map (fun w => (Reg.CPH_LINE_KEYREC.DATA n w, 0)) ++
           slots.flatMap (fun i => [(Reg.CPH_SLOT_STAT.STATE i, slotEmpty), (Reg.CPH_SLOT_STAT.SOURCE i, 0),
             (Reg.CPH_SLOT_STAT.EXH i, 0), (Reg.CPH_SLOT_CTR_LO.CTR i, 0), (Reg.CPH_SLOT_CTR_HI.CTR i, 0)])) ∧
       (∀ i ∈ slots, e.key i = 0 ∧ Tbl.get e.latch (Reg.CPH_SLOT_CTR_HI.ADR i) 0 = 0) ∧
       { e with regs := d.regs, latch := d.latch, lines := d.lines, acts := d.acts, coaches := d.coaches, tm := d.tm, cph := d.cph,
                out := d.out, freeCtr := d.freeCtr } = d) ∧
     ∃ e : Dev, d.lnFree n = e.lineMoved n ∧
       (d.on (Reg.LN_CTRL.RX_EN n) = false → e.line n = d.line n) ∧
       (d.on (Reg.LN_CTRL.RX_EN n) = true → d.lnUp n = true → e.framer n = 0 ∧ (e.line n).cands = [] ∧
         e.fld (Reg.LN_SYNC_STAT.MISS_RUN n) = 0 ∧ (e.line n).suspect = true ∧
         e.fld (Reg.LN_RX_LAT.LAT n) = (if d.on (Reg.LN_EQ_CTRL.RSSD_EN n) then 456 else 392) ∧
         (e.line n).mainTap = min 30 (d.fld (Reg.LN_EQ_CTRL.MAIN_TAP n))) ∧
       (d.actEn n = false ∨ d.tenderHere = false → e.act n = d.act n ∧ e.actState n = d.actState n) ∧
       (d.actEn n = true → d.tenderHere = true →
         (d.tenderHalt = true → (e.act n).lateEn = true ∧ e.actState n = d.actState n) ∧
         (d.tenderHalt = false → e.actState n = if bitOf (d.fld Reg.PWR_LINE_ESTOP.ESTOP) n then stO7 else stO11)) ∧
       (d.cphLineUp = true → d.tenderHere = true → e.slotState (8 * n + 2) = slotDefault ∧ e.slotState (8 * n + 3) = slotDefault ∧
         e.key (8 * n + 2) = Config.lineDefault 2 ∧ e.key (8 * n + 3) = Config.lineDefault 3)) ∧
  ((∀ (d : Dev) (p : Fin 4),
     let b := 0x1C00000 + 0x40000 * p.val
     let inSpan : Nat → Bool := fun k => (decide (b ≤ k / 32) && decide (k / 32 ≤ b + 0x1FFFF)) ||
       (decide (b + 0x30000 ≤ k / 32) && decide (k / 32 ≤ b + 0x3FFFF))
     let lost := Reg.CPH_RSR_CNT.COUNT p 7
     let waits := d.wake.queue.filter (fun x => x.1 ≠ 224 + p.val && x.1 ≠ 228 + p.val)
     ∃ e : Dev, d.rpHold p = e.pllEval ∧ e.phy p = {} ∧ e.rlink p = {} ∧ (∀ q, q ≠ p.val → e.phy q = d.phy q) ∧
       d.Resets e (fun k => !inSpan k || accOf k == .rw) [(lost, min (2 ^ lost.w - 1) (d.fld lost + (d.rlink p).rx.length)),
         (Reg.PWR_WAKE_STAT.QUEUED, waits.length % 2 ^ Reg.PWR_WAKE_STAT.QUEUED.w)] ∧ e.wake.queue = waits ∧
       e.lines = d.lines ∧ e.tim = d.tim ∧ e.gen = d.gen ∧ e.cph = d.cph ∧ e.hier = d.hier) ∧
   (∀ d : Dev, d.cphHold.cph = {} ∧ { d.cphHold with regs := d.regs, latch := d.latch, cph := d.cph } = d ∧
     d.Resets d.cphHold (fun k => decide (k / 32 < 0x200000) || decide (0x2FFFFF < k / 32) || accOf k == .rw)
       ((List.range 4).flatMap (fun i => [(Reg.CPH_LINE_US_CTRL.SW_ARM i, 0), (Reg.CPH_RSR_CTRL.SW_ARM i, 0)]))) ∧
   (∀ d : Dev,
     let l := (List.range 4).filter (fun n => d.lnUp n && d.tenderHere && d.cphLineHere)
     let slots := l.flatMap (fun n => [8 * n + 2, 8 * n + 3])
     d.Regs d.cphRelease (slots.flatMap (fun i => [(Reg.CPH_SLOT_STAT.STATE i, slotDefault), (Reg.CPH_SLOT_STAT.SOURCE i, 6),
       (Reg.CPH_SLOT_STAT.EXH i, 0), (Reg.CPH_SLOT_CTR_LO.CTR i, 0), (Reg.CPH_SLOT_CTR_HI.CTR i, 0)])) ∧
     (∀ n ∈ l, d.cphRelease.key (8 * n + 2) = Config.lineDefault 2 ∧ d.cphRelease.key (8 * n + 3) = Config.lineDefault 3) ∧
     { d.cphRelease with regs := d.regs, cph := d.cph } = d) ∧
   ∀ d : Dev, d.hifHold.host = { d.host with rings := [], doms := [], rr := [], stamps := [] } ∧
     d.Resets d.hifHold (fun k => decide (k / 32 < 0x1D00000) || decide (0x1DFFFFF < k / 32) || accOf k == .rw ||
       k / 32 == Reg.HIF_PCIE_STAT.ADR) ((List.range 256).map (fun r => (Reg.HIF_RING_CTRL.EN r, 0))) ∧
     { d.hifHold with regs := d.regs, latch := d.latch, host := d.host, tm := d.tm } = d)

/-- A conventional reset of the PCIe endpoint, or one of its function, returns the endpoint's status and settings, and every
register of the domains bound to PCIe and of their rings, to reset values; those rings are gone, the others untouched; the
link's going down is an event. Without an endpoint nothing happens. That the vector masks are all set and the read request is
512 bytes afterwards is the model's reading (notes/assumptions/22.md). (spec/01_architecture.md, Resets; spec/12_host_rings.md,
PCIe endpoint) -/
def Obligations.PcieResetStopsItsRings : Prop :=
  ∀ (s : State) (i : Instr), s.dev.mainUp = true → i = .pcieReset ∨ i = .functionLevelReset →
    let e := s.dev
    let mine := (List.range 16).filter (fun k => e.bind k == 2)
    let inDom : Nat → Nat → Bool := fun a k => [(0x1D00100, 0x20), (0x1D01000, 0x200), (0x1D03000, 0x40), (0x1D04000, 0x100)].any
      (fun r => decide (r.1 + r.2 * k ≤ a) && decide (a < r.1 + r.2 * k + r.2))
    let gone : Nat → Bool := fun a => a == Reg.HIF_PCIE_STAT.ADR || mine.any (inDom a)
    let fell := e.on Reg.HIF_PCIE_STAT.LINK_UP = true ∧ e.hifUp = true
    (e.pcieHere = false → Does i s e) ∧
    (e.pcieHere = true → Effect i s (fun d =>
      e.Resets d (fun k => !gone (k / 32)) (if fell then [(Reg.HIF_EVT.PCIE_LINK, 1)] else []) ∧
      (∀ r < 256, d.ring r = if domOf r ∈ mine then {} else e.ring r) ∧
      (∀ k < 16, d.dom k = if k ∈ mine then {} else e.dom k) ∧
      d.host.stamps = e.host.stamps.filter (fun x => !(mine.any (fun k => (List.range 16).any (fun j => 16 * k + j == x.2.ring)))) ∧
      { d.host with rings := [], doms := [], stamps := [] } =
        { e.host with rings := [], doms := [], stamps := [], funcMask := false, vecMask := 2 ^ 256 - 1, pend := 0, msix := [],
                       payload := 0, readReq := 2 } ∧
      { d with regs := e.regs, latch := e.latch, host := e.host, tm := e.tm } = e))

/-- The slot of a slice goes to a returned frame if a recirculation token is there, else to a host frame if a host token is
there, else to the next port round-robin, else to a waiting host frame; a token is spent in the first two. A gated slice grants
nothing, and none grants in one CK_CORE cycle of 8 while the device is throttled (which, is the model's choice). The tokens
return up to 16 and 4. In which cycle of 8 a throttled device grants nothing is the model's reading (notes/assumptions/47.md).
(spec/01_architecture.md, Slot arbitration) -/
def Obligations.SlotsAndTokens : Prop :=
  ∀ (s : State) (dt : Nat) (k : Fin 4), s.dev.mainUp = true →
    let d0 := s.dev.advance dt
    let x := d0.slice k
    Effect .recircTokenGain s (fun d => (∀ j < 4, d.slice j = { s.dev.slice j with rtok := min 16 ((s.dev.slice j).rtok + 1) }) ∧
      { d with slices := s.dev.slices } = s.dev) ∧
    Effect .hostTokenGain s (fun d => (∀ j < 4, d.slice j = { s.dev.slice j with htok := min 4 ((s.dev.slice j).htok + 1) }) ∧
      { d with slices := s.dev.slices } = s.dev) ∧
    let still := bitOf d0.wake.off k = true ∨ d0.on Reg.PWR_STAT.THROTTLE = true ∧ d0.core % 8 = 0
    (still → Does (.slotGrant dt k) s d0) ∧
    (¬ still →
      (∀ f r, x.rqBack = f :: r → 0 < x.rtok → Does (.slotGrant dt k) s
        (((d0.setSlice k { x with rqBack := r, rtok := x.rtok - 1 }).release f).beginPass k { f with pool := .none, second := true })) ∧
      (x.rqBack = [] ∨ x.rtok = 0 →
        (d0.buf (452 + k) ≠ [] → 0 < x.htok → Does (.slotGrant dt k) s
          ((d0.setSlice k { x with htok := x.htok - 1 }).grantPort k (452 + k))) ∧
        (d0.buf (452 + k) = [] ∨ x.htok = 0 →
          (∀ p, d0.rrNext k = some p → Does (.slotGrant dt k) s ((d0.setSlice k { x with rr := some p }).grantPort k p)) ∧
          (d0.rrNext k = none → Does (.slotGrant dt k) s (d0.grantPort k (452 + k))))))

/-- A frame at a present local port enters its input buffer of 16 KiB; one that finds it full, or its slice gated, is dropped
and counted; one for an absent unit leaves no trace. That it is stamped with the read time (notes/assumptions/27.md), and that
the whole of a frame has to fit (notes/assumptions/51.md), are the model's readings. (spec/01_architecture.md, Slot arbitration;
spec/15_power.md, Wake arbitration) -/
def Obligations.InputBufferArrival : Prop :=
  ∀ (s : State) (dt : Nat) (p : Fin 460) (b : List Byte), s.dev.mainUp = true →
    let d0 := s.dev.advance dt
    let f : Frame := { data := b, srcKind := if p.val < 448 then 0 else if p.val < 452 then 1 else if p.val < 456 then 2 else 3,
                       inPort := d0.devAddr * 512 + p, localIn := p, slice := sliceOf p
                       stamp := { t := stampTicks d0.time, epoch := d0.epoch, valid := d0.on Reg.TIM_STAT.TIME_SET } }
    let full := bitOf (d0.fld Reg.PWR_GATE.SLICE) (sliceOf p) = true ∨ 16384 < bytesIn (d0.buf p) + (b.length + 4)
    (d0.portHere p = false → Does (.inputBufferArrival dt p b) s d0) ∧
    (d0.portHere p = true → full → Effect (.inputBufferArrival dt p b) s (fun d =>
      d0.Sets d [(Reg.PCL_SLICE_IN_DROP.COUNT (sliceOf p),
        min 0xFFFFFFFF (d0.fld (Reg.PCL_SLICE_IN_DROP.COUNT (sliceOf p)) + 1))])) ∧
    (d0.portHere p = true → ¬ full → Does (.inputBufferArrival dt p b) s ((d0.setBuf p (d0.buf p ++ [f])).fcUpdate p))

/-! ### Line channels: reception (spec/02) -/

/-- A write of a coefficient takes effect only while ADAPT is 0, a DFE tap clamped to ±0.5; PRESET with ADAPT 0 sets the main
tap to 1.0 and every other tap to 0; ADAPT 3 is not taken. The read of LN.FFE[0] takes a snapshot of all 34. Where adaptation
runs (ADAPT 1, or 2 before its end, with signal and the clock recovery locked) the coefficients have moved to values that the
spec leaves open, the DFE within its clamp; elsewhere they are held. The end of an acquisition sets ADAPT_DONE. RX_EN written 1
takes up the latency and the main tap and starts the hunt; written 0 it aborts every reassembly, raises LOL and LOF, which then
stood in the second, clears the other defects but DSD, freezes the coefficients and makes the second suspect; unchanged, it does
neither. In a held channel only the register takes the word, and DSD shows what the pin then gives. Coefficients under
adaptation are free values (notes/assumptions/8.md). That ADAPT 3 is not taken (notes/assumptions/18.md) and that PRESET sets
the decision feedback taps to 0 (notes/assumptions/47.md) are the model's readings. (spec/02_line_receive.md, Where the channel
meets the optics; spec/02_line_receive.md, Frame synchronisation) -/
def Obligations.EqualiserAndReceiverEnable : Prop :=
  ((∀ (s : State) (m : Master) (n : Fin 4) (i : Fin 34) (v : Word), s.dev.mainUp = true → s.dev.lnHere n = true →
     let e := s.dev
     let adapt := e.fld (Reg.LN_EQ_CTRL.ADAPT n)
     let next := if v.toNat % 4 = 3 then adapt % 4 else v.toNat % 4
     let ctrl := [(Reg.LN_EQ_CTRL.ADAPT n, next), (Reg.LN_EQ_CTRL.MAIN_TAP n, bits v.toNat 2 5),
       (Reg.LN_EQ_CTRL.RSSD_EN n, bits v.toNat 7 1), (Reg.LN_EQ_CTRL.DFE_EN n, bits v.toNat 8 1),
       (Reg.LN_EQ_CTRL.ACQ_TIME n, bits v.toNat 12 4), (Reg.LN_EQ_CTRL.MU_FFE n, bits v.toNat 16 4),
       (Reg.LN_EQ_CTRL.MU_DFE n, bits v.toNat 20 4)]
     let now := e.adaptNow n
     (adapt = 0 → Effect (.ffeWrite m n i v) s (fun d => e.Sets d [(coefFld n i,
       if i.val < 31 then v.toNat % 1024 else unsigned 10 (max (-128) (min 128 (signed 10 v.toNat))))])) ∧
     (adapt ≠ 0 → Does (.ffeWrite m n i v) s e) ∧
     (next = 0 → Effect (.eqPreset m n v) s (fun d => now.Sets d (ctrl ++
       (List.range 34).map (fun j => (coefFld n j, if j = (e.line n).mainTap then 0x100 else 0))))) ∧
     (next ≠ 0 → Effect (.eqPreset m n v) s (fun d => now.Sets d ctrl)) ∧
     Effect (.ffeSnapshotRead m n) s (fun d =>
       d.out = .busRead m (Reg.LN_FFE.ADR n 0) (BitVec.ofNat 32 (now.fld (coefFld n 0))) :: e.out ∧
       (∀ j < 34, Tbl.get d.latch (coefFld n j).adr 0 = now.fld (coefFld n j)) ∧
       { d with latch := now.latch, out := now.out } = now) ∧
     (e.rxOn n = true → adapt = 2 → e.fld (Reg.LN_EQ_STAT.ADAPT_DONE n) = 0 →
       Effect (.eqAcqDone n) s (fun d => now.Sets d [(Reg.LN_EQ_STAT.ADAPT_DONE n, 1)])) ∧
     (e.rxOn n = false ∨ adapt ≠ 2 ∨ e.fld (Reg.LN_EQ_STAT.ADAPT_DONE n) ≠ 0 → Does (.eqAcqDone n) s e)) ∧
   ∀ (d : Dev) (n : Fin 4),
     let adapt := d.fld (Reg.LN_EQ_CTRL.ADAPT n)
     let moves := d.fld (Reg.LN_CTRL.RX_EN n) ≠ 0 ∧ (adapt = 1 ∨ adapt = 2 ∧ d.fld (Reg.LN_EQ_STAT.ADAPT_DONE n) = 0) ∧
       d.fld (defFld n dDSD) = 0 ∧ d.fld (Reg.LN_EQ_STAT.CDR_LOCK n) ≠ 0
     (¬ moves → d.adaptNow n = d) ∧
     (moves → { d with freeCtr := d.freeCtr + 34 }.Sets (d.adaptNow n) ((List.range 34).map (fun j =>
       (coefFld n j, coefClamp j (Config.free (d.freeCtr + j) % 1024)))))) ∧
  (∀ (s : State) (m : Master) (n : Fin 4) (v : Word), s.dev.mainUp = true → s.dev.lnHere n = true →
     let e := s.dev
     let x := e.line n
     let was := e.on (Reg.LN_CTRL.RX_EN n)
     let now := bitOf v.toNat 0
     let pol := bitOf v.toNat 1
     let i := Instr.rxEnWrite m n v
     let l := [(Reg.LN_CTRL.RX_EN n, bit now), (Reg.LN_CTRL.SD_POL n, bit pol)]
     let hunt := [(Reg.LN_SYNC_STAT.STATE n, 0), (Reg.LN_SYNC_STAT.CANDS n, 0), (Reg.LN_SYNC_STAT.MISS_RUN n, 0)]
     let rest : Dev → Prop := fun d => ∀ k, k ≠ n.val → d.line k = e.line k
     (e.lnUp n = false → EffectThen i s (·.lineMoved n) (fun d => d.line n = { x with seen := if x.sd == pol then setBit x.seen dDSD true else x.seen } ∧ rest d ∧
       e.Regs d (l ++ [(defFld n dDSD, bit (x.sd == pol))]) ∧ { d with regs := e.regs, lines := e.lines } = e)) ∧
     (e.lnUp n = true → was = now → EffectThen i s (·.lineMoved n) (fun d => e.Sets d l)) ∧
     (e.lnUp n = true → was = false → now = true → EffectThen i s (·.lineMoved n) (fun d =>
       e.Regs d (l ++ hunt ++ [(Reg.LN_RX_LAT.LAT n, if e.on (Reg.LN_EQ_CTRL.RSSD_EN n) then 456 else 392),
         (Reg.LN_EQ_STAT.ADAPT_DONE n, 0)]) ∧
       d.line n = { x with mainTap := min 30 (e.fld (Reg.LN_EQ_CTRL.MAIN_TAP n)), odd := none, cands := [], suspect := true } ∧
       rest d ∧ { d with regs := e.regs, lines := e.lines } = e)) ∧
     (e.lnUp n = true → was = true → now = false → EffectThen i s (·.lineMoved n) (fun d =>
       let f := e.adaptNow n
       f.Regs d (l ++ hunt ++ [(Reg.LN_EQ_STAT.CDR_LOCK n, 0), (defFld n dLOL, 1), (defFld n dLOF, 1), (defFld n dUCW, 0),
         (defFld n dBerSd, 0), (defFld n dBerSf, 0), (defFld n dPonid, 0), (defFld n dCprof, 0), (defFld n dAmbig, 0)]) ∧
       (∀ k, Tbl.get (d.line n).run k 0 = if k = 16 then min (2 ^ 48 - 1) (Tbl.get x.run 16 0 + x.reasm.length) else
         Tbl.get x.run k 0) ∧
       { d.line n with run := [] } =
         { x with run := [], reasm := [], delin := false, cands := [], odd := none, suspect := true, ucwRun := 0, goodRun := 0,
                  sdRun := 0, sfRun := 0,
                  seen := setBit (setBit x.seen dLOL true) dLOF true } ∧
       rest d ∧ { d with regs := f.regs, lines := f.lines } = f)))

/-- The pin's level is kept whatever holds the device, and shown in DSD at once where the channel is held. DSD follows the pin's
signal, LOL the clock recovery; a defect that is raised is shown, sticks, and marks the second; AMBIG follows candidates that
stay. The hunt: a window within tolerance that no candidate expects becomes a candidate when its count structure passes, up to
four; otherwise it is counted. At its expected position a candidate is confirmed by the next count and dropped by anything else;
the only confirmed one brings SYNC after CONFIRM_N confirmations, with its count, and the PON-ID of that frame is compared. No
frame header of before is consecutive with a later one. CDR_LOCK moving with LOL, CANDS 0 in SYNC and the comparison of the
PON-ID of the frame that brings SYNC are the model's readings (notes/assumptions/49.md). (spec/02_line_receive.md, Defects;
spec/02_line_receive.md, Frame synchronisation) -/
def Obligations.DefectsAndHunt : Prop :=
  ((∀ (s : State) (n : Fin 4) (level : Bool),
     let e := s.dev
     let y := e.setLine n { e.line n with sd := level }
     let dark := level == e.on (Reg.LN_CTRL.SD_POL n)
     let z := if dark then y.setLine n { y.line n with seen := setBit (y.line n).seen dDSD true } else y
     let i := Instr.lineSdChange n level
     (e.lnHere n = true → e.mainUp = true → e.lnUp n = true → Does i s y) ∧
     (e.lnHere n = true → e.mainUp = false ∨ e.lnUp n = false → Effect i s (fun d =>
       z.Sets d [(defFld n dDSD, bit dark)])) ∧
     (e.lnHere n = false → Does i s e)) ∧
   (∀ (s : State) (n : Fin 4), s.dev.mainUp = true →
     let e := s.dev
     let up := e.lnUp n
     Does (.dsdRaise n) s (if up = true ∧ e.sdSignal n = false then ((e.adaptNow n).defRaise n dDSD).lineMoved n else e) ∧
     Does (.dsdClear n) s (if up = true ∧ e.sdSignal n = true then (e.defClear n dDSD).lineMoved n else e) ∧
     Does (.lolRaise n) s (if e.rxOn n = true then
       (((e.adaptNow n).put (Reg.LN_EQ_STAT.CDR_LOCK n) 0).defRaise n dLOL).lineMoved n else e) ∧
     Does (.lolClear n) s (if e.rxOn n = true then
       ((e.put (Reg.LN_EQ_STAT.CDR_LOCK n) 1).defClear n dLOL).lineMoved n else e) ∧
     Does (.ambigRaise n) s (if e.rxOn n = true ∧ 2 ≤ ((e.line n).cands.filter (fun c => decide (0 < c.conf))).length then
       e.defRaise n dAmbig else e)) ∧
   ∀ (d : Dev) (n k : Nat), k < 9 →
     (d.defect n k = true → d.defRaise n k = d) ∧
     (d.defect n k = false → (d.setLine n { d.line n with seen := setBit (d.line n).seen k true }).Sets (d.defRaise n k)
       [(defFld n k, 1), (stickyFld n k, 1)]) ∧
     d.Sets (d.defClear n k) [(defFld n k, 0)]) ∧
  (∀ (s : State) (n : Fin 4) (pos errs sfc : Nat) (hec : Hec) (ponid : Option Nat), s.dev.mainUp = true →
     let e := s.dev
     let x := e.line n
     let ok := errs ≤ e.huntTol n ∧ e.sfcPass n hec = true
     let due := x.cands.any (fun c => c.pos + frameBits == pos)
     let h := Instr.huntMatch n pos errs hec sfc
     let i := Instr.candidateCheck n pos errs hec ⟨sfc, ponid⟩
     let next := x.cands.filterMap (fun c => if c.pos + frameBits ≠ pos then some c
       else if ok ∧ sfc % 2 ^ 51 = (c.sfc + 1) % 2 ^ 51 then some { pos := pos, sfc := sfc % 2 ^ 51, conf := c.conf + 1 } else none)
     let good := next.filter (fun c => decide (0 < c.conf))
     let stays : List (Fld × Nat) → Prop := fun l => EffectThen i s (·.lineMoved n) (fun d =>
       (e.setLine n { x with cands := next }).Sets d ([(Reg.LN_SYNC_STAT.CANDS n, next.length % 8),
         (Reg.LN_SYNC_STAT.STATE n, if next = [] then 0 else 1)] ++ l))
     (e.rxOn n = false ∨ due = false → Does i s (e.lineMoved n)) ∧
     (e.rxOn n = false ∨ e.framer n = 2 ∨ due = true ∨ e.huntTol n < errs → Does h s (e.lineMoved n)) ∧
     (e.rxOn n = true → e.framer n ≠ 2 → due = false → errs ≤ e.huntTol n →
       (e.sfcPass n hec = false → Does h s ((e.lineCnt n 5 1).lineMoved n)) ∧
       (ok → 4 ≤ x.cands.length → EffectThen h s (·.lineMoved n) (fun d =>
         (e.lineCnt n 5 1).Sets d [(Reg.LN_EVT.CAND_OVF n, 1)])) ∧
       (ok → x.cands.length < 4 → EffectThen h s (·.lineMoved n) (fun d =>
         (e.setLine n { x with cands := x.cands ++ [{ pos := pos, sfc := sfc % 2 ^ 51 }] }).Sets d
           [(Reg.LN_SYNC_STAT.CANDS n, x.cands.length + 1), (Reg.LN_SYNC_STAT.STATE n, 1)]))) ∧
     (e.rxOn n = true → e.framer n ≠ 2 → due = true →
       (good = [] → stays [(defFld n dAmbig, 0)]) ∧ (2 ≤ good.length → stays []) ∧
       ∀ c, good = [c] → (c.conf < e.confirmN n → stays [(defFld n dAmbig, 0)]) ∧
         (e.confirmN n ≤ c.conf → EffectThen i s (fun d =>
             let f := ((d.setAct n { d.act n with hdrs := 0, hdrSeen := false }).actFrame n).phaseMeasure n
             ((ponid.map (f.ponidRx n)).getD f).lineMoved n) (fun d =>
           d.line n = { x with cands := [] } ∧ (∀ k, k ≠ n.val → d.line k = e.line k) ∧
           e.Regs d [(Reg.LN_SYNC_STAT.CANDS n, 0), (Reg.LN_SYNC_STAT.STATE n, 2), (Reg.LN_EVT.SYNC_GAIN n, 1),
             (Reg.LN_SFC_LO.SFC n, c.sfc % 2 ^ 32), (Reg.LN_SFC_HI.SFC n, c.sfc % 2 ^ 51 / 2 ^ 32), (Reg.LN_SYNC_STAT.MISS_RUN n, 0),
             (defFld n dLOF, 0), (defFld n dAmbig, 0)] ∧ { d with regs := e.regs, lines := e.lines } = e))))

/-- In SYNC, at the expected position of the pattern: a match clears the miss run, and LOSS_M misses in a row lose SYNC. The
count adopted is the next one, but a received count that continues the odd count of the frame before is taken as a jump; each
miss, each structure that fails its HEC, and each count that differs, is counted. Reassemblies that the frame before brought
nothing for are aborted and counted. A HEC-valid PON-ID is shown, and compared under its mask where enabled: runs of mismatches
raise its defect, runs of matches clear it. HUNT_RESTART sends the framer to HUNT with no candidates, raises LOF and aborts
every reassembly; FS payload is delineated from a frame's FS header on, in SYNC only; each codeword in SYNC is counted, and runs
of uncorrectable ones raise UCW. CANDS 0 in SYNC and what restarts a run of frames are the model's readings
(notes/assumptions/49.md). (spec/02_line_receive.md, Frame synchronisation; spec/02_line_receive.md, Forward error correction;
spec/02_line_receive.md, XGEM delineation) -/
def Obligations.FramerAndCodewords : Prop :=
  ((∀ (s : State) (dt : Nat) (n : Fin 4) (errs sfc : Nat) (hec : Hec) (ponid : Option Nat), s.dev.mainUp = true →
     let d0 := s.dev.advance dt
     let x := d0.line n
     let i := Instr.framePsync dt n errs hec sfc ponid
     let miss := d0.fld (Reg.LN_SYNC_CTRL.SYNC_TOL n) < errs
     let m := if miss then d0.fld (Reg.LN_SYNC_STAT.MISS_RUN n) + 1 else 0
     let exp := (d0.sfc n + 1) % 2 ^ 51
     let rx := sfc % 2 ^ 51
     let odd := d0.sfcPass n hec = true ∧ rx ≠ exp
     let jump := odd ∧ x.odd.map (fun p => (p + 1) % 2 ^ 51) = some rx
     let c := if jump then rx else exp
     let old := x.reasm.filter (fun r => !r.touched)
     let up : Nat → Nat := fun k => (if k = 4 ∧ miss then 1 else 0) + (if k = 6 ∧ d0.sfcPass n hec = false then 1 else 0) +
       (if k = 7 ∧ odd then 1 else 0) + (if k = 16 then old.length else 0)
     (d0.rxOn n = false ∨ d0.framer n ≠ 2 → Does i s (d0.lineMoved n)) ∧
     (d0.rxOn n = true → d0.framer n = 2 → m < d0.lossM n →
       EffectThen i s (fun d =>
         let e := (ponid.map (d.ponidRx n)).getD d
         ((e.actFrame n).phaseMeasure n).lineMoved n) (fun d =>
         d0.Regs d ([(Reg.LN_SYNC_STAT.MISS_RUN n, m % 256), (Reg.LN_SFC_LO.SFC n, c % 2 ^ 32), (Reg.LN_SFC_HI.SFC n, c / 2 ^ 32)] ++
           if jump then [(Reg.LN_EVT.SFC_JUMP n, 1)] else []) ∧
         (∀ k, k ≠ 16 → up k = 0 → Tbl.get (d.line n).run k 0 = Tbl.get x.run k 0) ∧
         (∀ k, k = 16 ∨ up k ≠ 0 → Tbl.get (d.line n).run k 0 = min (2 ^ 48 - 1) (Tbl.get x.run k 0 + up k)) ∧
         { d.line n with run := [] } =
           { x with run := [], odd := if odd ∧ ¬ jump then some rx else none, delin := false
                    reasm := (x.reasm.filter (·.touched)).map (fun r => { r with touched := false }) } ∧
         (∀ k, k ≠ n.val → d.line k = d0.line k) ∧ { d with regs := d0.regs, lines := d0.lines } = d0)) ∧
     (d0.rxOn n = true → d0.framer n = 2 → d0.lossM n ≤ m →
       EffectThen i s (·.lineMoved n) (fun d => d.framer n = 0 ∧ d.fld (Reg.LN_SYNC_STAT.MISS_RUN n) = 0 ∧
         (d.line n).reasm = [] ∧ (d.line n).cands = [] ∧ (d.line n).delin = false ∧ d.defect n dLOF = true ∧
         d.fld (Reg.LN_EVT.SYNC_LOSS n) = 1 ∧
         d0.SameRegs d [Reg.LN_SYNC_STAT.STATE n, Reg.LN_SYNC_STAT.CANDS n, Reg.LN_SYNC_STAT.MISS_RUN n, defFld n dAmbig,
           defFld n dLOF, stickyFld n dLOF, Reg.LN_EVT.SYNC_LOSS n] ∧
         (∀ k, k ≠ n.val → d.line k = d0.line k) ∧ { d with regs := d0.regs, lines := d0.lines } = d0))) ∧
   ∀ (d : Dev) (n : Fin 4) (v : Nat),
     let x := d.line n
     let e := d.ponidRx n v
     let w := fun lo hi => d.wide lo hi
     let mask := w (Reg.LN_PONID_MASK_LO.VALUE n) (Reg.LN_PONID_MASK_HI.VALUE n)
     let same := (v % 2 ^ 51) &&& mask = w (Reg.LN_PONID_EXP_LO.VALUE n) (Reg.LN_PONID_EXP_HI.VALUE n) &&& mask
     let cmp := d.on (Reg.LN_TRACE_CTRL.PONID_EN n)
     e.wide (Reg.LN_PONID_RX_LO.VALUE n) (Reg.LN_PONID_RX_HI.VALUE n) = v % 2 ^ 51 ∧
     (cmp = false → e.line n = x ∧ e.defect n dPonid = d.defect n dPonid) ∧
     (cmp = true → same → (e.line n).ponMis = 0 ∧ (e.line n).ponOk = x.ponOk + 1 ∧
       e.defect n dPonid = (d.defect n dPonid && decide (x.ponOk + 1 < max 1 (d.fld (Reg.LN_TRACE_CTRL.CLEAR_N n))))) ∧
     (cmp = true → ¬ same → (e.line n).ponMis = x.ponMis + 1 ∧ (e.line n).ponOk = 0 ∧
       Tbl.get (e.line n).run 17 0 = min (2 ^ 48 - 1) (Tbl.get x.run 17 0 + 1) ∧
       e.defect n dPonid = (d.defect n dPonid || decide (max 1 (d.fld (Reg.LN_TRACE_CTRL.RAISE_N n)) ≤ x.ponMis + 1))) ∧
     d.SameRegs e [Reg.LN_PONID_RX_LO.VALUE n, Reg.LN_PONID_RX_HI.VALUE n, defFld n dPonid, stickyFld n dPonid]) ∧
  ((∀ (s : State) (m : Master) (n : Fin 4) (v : Word), s.dev.mainUp = true → s.dev.lnHere n = true →
     EffectThen (.huntRestart m n v) s (·.lineMoved n) (fun d => d.framer n = 0 ∧ d.fld (Reg.LN_SYNC_STAT.CANDS n) = 0 ∧
       (d.line n).cands = [] ∧ (d.line n).reasm = [] ∧ (d.line n).delin = false ∧ d.defect n dLOF = true ∧
       d.fld (Reg.LN_SYNC_CTRL.HUNT_TOL n) = bits v.toNat 0 3 ∧ d.fld (Reg.LN_SYNC_CTRL.SYNC_TOL n) = bits v.toNat 3 3 ∧
       d.fld (Reg.LN_SYNC_CTRL.HEC_ACCEPT n) = bits v.toNat 6 1 ∧ d.fld (Reg.LN_SYNC_CTRL.CONFIRM_N n) = bits v.toNat 7 3 ∧
       d.fld (Reg.LN_SYNC_CTRL.LOSS_M n) = bits v.toNat 10 3 ∧
       (∀ k, k / 32 ≠ Reg.LN_SYNC_CTRL.ADR n → k ∉ [Reg.LN_SYNC_STAT.STATE n, Reg.LN_SYNC_STAT.CANDS n,
         Reg.LN_SYNC_STAT.MISS_RUN n, defFld n dAmbig, defFld n dLOF, stickyFld n dLOF].map Fld.key →
         Tbl.get d.regs k (Reg.rst k) = Tbl.get s.dev.regs k (Reg.rst k)) ∧
       { d with regs := s.dev.regs, lines := s.dev.lines } = s.dev)) ∧
   ∀ (s : State) (n : Fin 4) (corr : Option Nat), s.dev.mainUp = true →
     let x := s.dev.line n
     let y := fun (d : Dev) (k : Nat) => Tbl.get (d.line n).run k 0
     let up := fun (a b : Nat) => min (2 ^ 48 - 1) (a + b)
     Does (.fsHeaderReceived n) s (if s.dev.rxOn n = true ∧ s.dev.framer n = 2 then
       (s.dev.setLine n { x with delin := true }).actHeader n else s.dev) ∧
     (s.dev.rxOn n = false ∨ s.dev.framer n ≠ 2 → Does (.codewordDecision n corr) s (s.dev.lineMoved n)) ∧
     (s.dev.rxOn n = true → s.dev.framer n = 2 →
       (corr = none → EffectThen (.codewordDecision n corr) s (·.lineMoved n) (fun d =>
         y d 0 = up (y s.dev 0) 1 ∧ y d 2 = up (y s.dev 2) 1 ∧ y d 1 = y s.dev 1 ∧ y d 3 = y s.dev 3 ∧
         (max 1 (s.dev.fld (Reg.LN_SD_CTRL.UCW_N n)) ≤ x.ucwRun + 1 → d.defect n dUCW = true) ∧
         (x.ucwRun + 1 < max 1 (s.dev.fld (Reg.LN_SD_CTRL.UCW_N n)) → d.regs = s.dev.regs))) ∧
       ∀ c, corr = some c → EffectThen (.codewordDecision n corr) s (·.lineMoved n) (fun d =>
         y d 0 = up (y s.dev 0) 1 ∧ y d 2 = y s.dev 2 ∧ (0 < c → y d 1 = up (y s.dev 1) 1 ∧ y d 3 = up (y s.dev 3) c) ∧
         (c = 0 → y d 1 = y s.dev 1 ∧ y d 3 = y s.dev 3) ∧ (d.line n).ucwRun = 0 ∧
         (max 1 (s.dev.fld (Reg.LN_SD_CTRL.UCW_CLR n)) ≤ x.goodRun + 1 → d.defect n dUCW = false) ∧
         (x.goodRun + 1 < max 1 (s.dev.fld (Reg.LN_SD_CTRL.UCW_CLR n)) → d.regs = s.dev.regs))))

/-- XGEM delineation: a header that fails its HEC, or whose payload does not fit, is counted and delineation is lost, with every
reassembly; an idle header is nothing; a port of no table entry is counted; of several entries the first counts, and XPORT_DUP
sets. A whole unit of a known port is delivered if it fits MAX_SDU, and counted as oversize if not; fragments are joined in
order of arrival up to the last, each with its position in its own frame (notes/assumptions/56.md: the model's reading). How a
frame with two faults is counted (notes/assumptions/49.md) is the model's reading too. A whole unit: on a side that stands by
all but KIND 2 is discarded and counted. Any other is counted with its bytes and, once deciphered, goes to the slice without its
FCS, to the OMCI check or to the bonding stage by its KIND. A port table entry is written as given; one of KIND 3 without the
bonding stage, or a second of KIND 2 that is valid, does not count as valid and, in a channel out of reset, sets XPORT_BAD. A
written trace enable of 0 clears its defect and its runs. One count for a frame with two faults and when XPORT_BAD sets are the
model's readings (notes/assumptions/49.md), the second entry of KIND 2 too (notes/assumptions/47.md). (spec/02_line_receive.md,
XGEM delineation; spec/02_line_receive.md, Trace comparison) -/
def Obligations.XgemDelineationAndPortTable : Prop :=
  (∀ (s : State) (n : Fin 4) (h : Xgem) (st : Strobe), s.dev.mainUp = true →
     let e := s.dev
     let x := e.line n
     let i := Instr.xgemHeader n h st
     let pass := h.hec = .good ∨ h.hec = .corrected ∧ e.on (Reg.LN_XGEM_CTRL.HEC_ACCEPT n) = true
     let d1 := if h.hec = .corrected then e.lineCnt n 10 1 else e
     let lost : Dev → Nat → Prop := fun b c => Effect i s (fun d => d = (b.lineCnt n c 1).delinLost n ∧
       (d.line n).delin = false ∧ (d.line n).reasm = [] ∧ d.regs = e.regs)
     (e.rxOn n = false ∨ e.framer n ≠ 2 ∨ x.delin = false → Does i s e) ∧
     (e.rxOn n = true → e.framer n = 2 → x.delin = true →
       (¬ pass → lost e 11) ∧
       (pass → h.fits = false → lost d1 14) ∧
       (pass → h.fits = true → h.port = 0xFFFF → Does i s d1) ∧
       (pass → h.fits = true → h.port ≠ 0xFFFF → h.pli = 0 → Does i s (d1.lineCnt n 14 1)) ∧
       (pass → h.fits = true → h.port ≠ 0xFFFF → h.pli ≠ 0 →
         (d1.xports n h.port = [] → Does i s (d1.lineCnt n 12 1)) ∧
         ∀ k r, d1.xports n h.port = k :: r →
           let b := if r = [] then d1 else d1.put (Reg.LN_EVT.XPORT_DUP n) 1
           let y := b.line n
           let kind := b.fld (Reg.LN_XPORT.KIND n k)
           let part := (h.pos, h.payload.length)
           let others := y.reasm.filter (·.port != h.port)
           let aborted := ((b.lineCnt n 15 1).setLine n { (b.lineCnt n 15 1).line n with reasm := others }).lineCnt n 16 1
           (h.port ∈ y.skip → Does i s (if h.lf then b.setLine n { y with skip := y.skip.filter (· != h.port) } else b)) ∧
           (h.port ∉ y.skip → y.reasm.find? (·.port == h.port) = none →
             (h.lf = true → b.maxSdu n < h.pli → Does i s (b.lineCnt n 13 1)) ∧
             (h.lf = true → h.pli ≤ b.maxSdu n → h.marked = true → Does i s (b.lineCnt n 15 1)) ∧
             (h.lf = true → h.pli ≤ b.maxSdu n → h.marked = false →
               Does i s (b.deliverSdu n h.port h.key kind (b.sfc n) [part] false h.payload (b.lineStamp n st))) ∧
             (h.lf = false → h.marked = true → Does i s ((b.lineCnt n 15 1).lineCnt n 16 1)) ∧
             (h.lf = false → h.marked = false → 256 ≤ y.reasm.length →
               Does i s ((b.setLine n { y with skip := h.port :: y.skip }).lineCnt n 16 1)) ∧
             (h.lf = false → h.marked = false → y.reasm.length < 256 → b.maxSdu n < h.pli →
               Does i s ((b.setLine n { y with skip := h.port :: y.skip }).lineCnt n 13 1)) ∧
             (h.lf = false → h.marked = false → y.reasm.length < 256 → h.pli ≤ b.maxSdu n → Does i s (b.setLine n { y with
               reasm := y.reasm ++ [{ port := h.port, key := h.key, kind := kind, sfc := b.sfc n, spans := [part], data := h.payload,
                                      stamp := b.lineStamp n st }] }))) ∧
           ∀ c, h.port ∉ y.skip → y.reasm.find? (·.port == h.port) = some c →
             let data := c.data ++ h.payload
             let spans := c.spans ++ [part]
             (h.marked = true → Does i s aborted) ∧
             (h.marked = false → b.maxSdu n < data.length → Does i s ((b.setLine n { y with
               reasm := others, skip := if h.lf then y.skip else h.port :: y.skip }).lineCnt n 13 1)) ∧
             (h.marked = false → data.length ≤ b.maxSdu n → h.lf = true →
               Does i s ((b.setLine n { y with reasm := others }).deliverSdu n h.port c.key c.kind c.sfc spans c.stby data c.stamp)) ∧
             (h.marked = false → data.length ≤ b.maxSdu n → h.lf = false → Does i s (b.setLine n { y with
               reasm := y.reasm.map (fun q => if q.port = h.port then { q with data := data, spans := spans, touched := true } else q) }))))) ∧
  (∀ (d : Dev) (n : Fin 4) (port key kind sfc : Nat) (spans : List (Nat × Nat)) (old : Bool) (b : List Byte) (st : Stamp),
     let r := d.deliverSdu n port key kind sfc spans old b st
     let prot := d.fld Reg.LN_LINE_MODE.MODE = 2
     let side := if d.protBHere then n.val / 2 else n.val
     let off := kind ≠ 2 ∧ prot ∧ (side ≠ d.fld Reg.LN_PROT_STAT.ACTIVE ∨ old = true)
     let c := ((d.lineCnt n 8 1).lineCnt n 9 b.length).lineDecrypt n kind key sfc spans b
     let y := c.1.line n
     (off → d.Sets r [(Reg.LN_PROT_CNT.COUNT 3, min (2 ^ (Reg.LN_PROT_CNT.COUNT 3).w - 1) (d.fld (Reg.LN_PROT_CNT.COUNT 3) + 1))]) ∧
     (¬ off → c.2 = none → r = c.1) ∧
     ∀ p, ¬ off → c.2 = some p →
       (kind = 3 → r = c.1.setLine n { y with bonded := y.bonded ++ [{ port := port, sfc := sfc, data := p, stamp := st }] }) ∧
       (kind = 2 → r = c.1.setLine n { y with omci := y.omci ++ [{ port := port, sfc := sfc, data := p, stamp := st }] }) ∧
       (kind ≠ 2 → kind ≠ 3 → r = c.1.arrive
         { data := p.take (p.length - 4), srcKind := 3, inPort := d.devAddr * 512 + 456 + n, localIn := 456 + n, slice := n,
           encapId := port, encapCh := n, xgKind := kind, stamp := st })) ∧
  (∀ (s : State) (m : Master) (n : Fin 4) (i : Fin 4096) (v : Word), s.dev.mainUp = true → s.dev.lnHere n = true →
     let e := s.dev
     let x := e.line n
     let valid := bits v.toNat 16 1
     let kind := bits v.toNat 17 2
     let other := x.badPorts.filter (· != i.val)
     let second := ∃ j < 4096, j ≠ i.val ∧ e.fld (Reg.LN_XPORT.KIND n j) = 2 ∧ e.fld (Reg.LN_XPORT.VALID n j) ≠ 0 ∧ j ∉ other
     let bad := valid = 1 ∧ (kind = 3 ∧ e.bondHere = false ∨ kind = 2 ∧ second)
     let l := [(Reg.LN_XPORT.PORT_ID n i, v.toNat % 2 ^ 16), (Reg.LN_XPORT.VALID n i, valid), (Reg.LN_XPORT.KIND n i, kind)]
     let pon := bits v.toNat 8 1
     let cpr := bits v.toNat 9 1
     let t := [(Reg.LN_TRACE_CTRL.RAISE_N n, bits v.toNat 0 4), (Reg.LN_TRACE_CTRL.CLEAR_N n, bits v.toNat 4 4),
       (Reg.LN_TRACE_CTRL.PONID_EN n, pon), (Reg.LN_TRACE_CTRL.CPROF_EN n, cpr)]
     (¬ bad → Effect (.xportWrite m n i v) s (fun d => (e.setLine n { x with badPorts := other }).Sets d l)) ∧
     (bad → Effect (.xportWrite m n i v) s (fun d => (e.setLine n { x with badPorts := i.val :: other }).Sets d
       (l ++ if e.lnUp n then [(Reg.LN_EVT.XPORT_BAD n, 1)] else []))) ∧
     Effect (.traceCtrlWrite m n v) s (fun d => e.Regs d (t ++
         (if pon = 0 then [(defFld n dPonid, 0)] else []) ++ if cpr = 0 then [(defFld n dCprof, 0)] else []) ∧
       d.line n =
         { x with ponMis := if pon = 0 then 0 else x.ponMis, ponOk := if pon = 0 then 0 else x.ponOk
                  cprMis := if cpr = 0 then 0 else x.cprMis, cprOk := if cpr = 0 then 0 else x.cprOk } ∧
       (∀ k, k ≠ n.val → d.line k = e.line k) ∧ { d with regs := e.regs, lines := e.lines } = e))

/-- A write of PM_SEL copies the selected bin, an empty one where there is none. At a second each channel out of reset copies
its running counters to the registers and starts them again from 0; the second is suspect where it was marked, a counter was
full, the receiver was off or its length was not a second to 1 ms; DEF_SEEN shows the defects of the second. The defects of the
bit error ratio follow the estimate of a second with codewords. The second is added to both current bins; the bin of a kind
closes at its boundary, or, when a step makes the latch, when the step changes its period: it shifts, suspect unless it has all
its seconds. ROLLED before any write of PM_SEL (notes/assumptions/49.md) is the model's reading. That ROLLED sets at the close
of a bin of the kind that PM_SEL names is the model's reading (notes/assumptions/49.md). (spec/02_line_receive.md, Performance
monitoring) -/
def Obligations.PerformanceMonitoring : Prop :=
  (∀ (s : State) (m : Master) (n : Fin 4) (v : Word), s.dev.mainUp = true → s.dev.lnHere n = true → s.dev.pmHistHere = true →
    let x := s.dev.line n
    let b := (if v.toNat % 2 = 0 then x.bins15 else x.bins24).getD (bits v.toNat 1 6) {}
    Effect (.pmSelWrite m n v) s (fun d => s.dev.Sets d ([(Reg.LN_PM_SEL.KIND n, v.toNat % 2),
      (Reg.LN_PM_SEL.INDEX n, bits v.toNat 1 6), (Reg.LN_PM_FLAGS.VALID n, bit b.valid), (Reg.LN_PM_FLAGS.SUSPECT n, bit b.suspect),
      (Reg.LN_PM_FLAGS.ROLLED n, 0)] ++ (List.range 22).flatMap (fun k =>
        [(Reg.LN_PM_DATA_LO.COUNT n k, b.cnt.getD k 0 % 2 ^ 32), (Reg.LN_PM_DATA_HI.COUNT n k, b.cnt.getD k 0 / 2 ^ 32 % 2 ^ 32)])))) ∧
  (∀ (s : State) (dt : Nat), s.dev.mainUp = true →
    Does (.pmLatch dt) s (((List.range 4).filter (s.dev.advance dt).lnUp).foldl (fun d n => d.pmLatch none n) (s.dev.advance dt))) ∧
  ∀ (d : Dev) (before : Option Nat) (n : Fin 4), (∀ k < 18, Tbl.get (d.line n).run k 0 < 2 ^ 48) →
    let x := d.line n
    let e := d.pmLatch before n
    let len : Int := (d.tim.ctr : Int) - x.secStart
    let odd := x.suspect = true ∨ (∃ k < 18, Tbl.get x.run k 0 = 2 ^ 48 - 1) ∨ 1250000 < (len - 1250000000).natAbs ∨
      d.on (Reg.LN_CTRL.RX_EN n) = false
    (e.line n).run = [] ∧ (e.line n).suspect = false ∧ (e.line n).secStart = d.tim.ctr ∧ e.fld (Reg.LN_EVT.PM1_TICK n) = 1 ∧
    e.fld (Reg.LN_PM1_STAT.SEQ n) = (d.fld (Reg.LN_PM1_STAT.SEQ n) + 1) % 2 ^ 16 ∧
    (odd → e.fld (Reg.LN_PM1_STAT.SUSPECT n) = 1) ∧ (¬ odd → e.fld (Reg.LN_PM1_STAT.SUSPECT n) = 0) ∧
    (∀ k < 9, bitOf (e.fld (Reg.LN_PM1_STAT.DEF_SEEN n)) k = (bitOf x.seen k || d.defect n k)) ∧
    (∀ k < 18, e.wide (Reg.LN_PM1_CNT_LO.COUNT n k) (Reg.LN_PM1_CNT_HI.COUNT n k) = Tbl.get x.run k 0) ∧
    (∀ k, k ≠ n.val → e.line k = d.line k) ∧
    -- the defects of the bit error ratio
    (let c := fun k => Tbl.get x.run k 0
    let ber : Nat → Nat → Nat → Nat → Nat → Prop := fun k m ex was is =>
      let reached := max 1 m * (17280 * c 0) ≤ (c 3 + 1728 * c 2) * 10 ^ ex
      (d.rxOn n = false ∨ c 0 = 0 → e.defect n k = d.defect n k ∧ is = was) ∧
      (d.rxOn n = true → c 0 ≠ 0 → (reached → e.defect n k = true ∧ is = 0) ∧
        (¬ reached → is = was + 1 ∧
          e.defect n k = (d.defect n k && decide (was + 1 < max 1 (d.fld (Reg.LN_BER_CTRL.CLR_S n))))))
    ber dBerSd (d.fld (Reg.LN_BER_CTRL.SD_MANT n)) (d.fld (Reg.LN_BER_CTRL.SD_EXP n)) x.sdRun (e.line n).sdRun ∧
    ber dBerSf (d.fld (Reg.LN_BER_CTRL.SF_MANT n)) (d.fld (Reg.LN_BER_CTRL.SF_EXP n)) x.sfRun (e.line n).sfRun ∧
    -- the bins
    let stood := fun k => bitOf x.seen k || d.defect n k
    let any := (List.range 9).any stood
    let sus := e.fld (Reg.LN_PM1_STAT.SUSPECT n) == 1
    let es := c 2 ≠ 0 ∨ c 11 ≠ 0 ∨ any = true
    let ses := stood dLOF = true ∨ stood dDSD = true ∨ d.fld (Reg.LN_PM_CTRL.SES_N n) ≤ c 2
    let v : Nat → Nat := fun k => if k < 18 then c k else if k = 18 then bit any else if k = 19 then (if es then 1 else 0)
      else if k = 20 then (if ses then 1 else 0) else 1
    let sum : Bin → Bin := fun b =>
      ⟨(List.range 22).map (fun k => min (2 ^ 64 - 1) (b.cnt.getD k 0 + v k)), b.suspect || sus, true⟩
    let day : Int := if 86399 < d.fld (Reg.LN_PM_CTRL.DAY_OFS n) then 0 else d.fld (Reg.LN_PM_CTRL.DAY_OFS n)
    let sec : Int := secOf d.time
    let due : Int → Int → Prop := fun period ofs =>
      (before = none ∧ (sec - ofs) % period = 0) ∨ ∃ b : Nat, before = some b ∧ (sec - ofs) / period ≠ (b - ofs) / period
    let kept : List Bin → List Bin → Prop → Nat → Nat → Prop := fun was is close full keep => ∀ b r, was = b :: r →
      (¬ close → is = sum b :: r) ∧
      (close → is = ({} : Bin) :: ({ sum b with suspect := (sum b).suspect || (sum b).cnt.getD 21 0 != full } :: r).take keep)
    let kind := d.fld (Reg.LN_PM_SEL.KIND n)
    (d.pmHistHere = false → (e.line n).bins15 = x.bins15 ∧ (e.line n).bins24 = x.bins24) ∧
    (d.pmHistHere = true →
      kept x.bins15 (e.line n).bins15 (due 900 0) 900 33 ∧ kept x.bins24 (e.line n).bins24 (due 86400 day) 86400 8 ∧
      (due 900 0 → e.fld (Reg.LN_EVT.PM15_CLOSE n) = 1) ∧ (due 86400 day → e.fld (Reg.LN_EVT.PM24_CLOSE n) = 1) ∧
      (due 900 0 ∧ kind = 0 ∨ due 86400 day ∧ kind = 1 → e.fld (Reg.LN_PM_FLAGS.ROLLED n) = 1) ∧
      (¬ due 900 0 → e.fld (Reg.LN_EVT.PM15_CLOSE n) = d.fld (Reg.LN_EVT.PM15_CLOSE n)) ∧
      (¬ due 86400 day → e.fld (Reg.LN_EVT.PM24_CLOSE n) = d.fld (Reg.LN_EVT.PM24_CLOSE n)) ∧
      (¬ (due 900 0 ∧ kind = 0 ∨ due 86400 day ∧ kind = 1) →
        e.fld (Reg.LN_PM_FLAGS.ROLLED n) = d.fld (Reg.LN_PM_FLAGS.ROLLED n))))

/-! ### The Tender and the Coachbuilder (spec/03) -/

/-- A lockstep error halts the Tender; a restart resumes its machines and acts on what fell due. Loss of downstream takes O5 to
O6 and O1.2 to O4 to O1.1; TO1 in O4 returns to O2-3 with the ONU-ID cleared, TO2 in O6 to O1.1 with the identity cleared; in a
halt each is only recorded. A channel that leaves O5 keeps no frame of a bonding group in its burst store and no sealed burst.
The power answer owed from a halt (notes/assumptions/50.md) and that sealed bursts are given up at the end of O5
(notes/assumptions/51.md) are the model's readings. (spec/03_line_activation.md, The Tender; spec/03_line_activation.md,
Activation states) -/
def Obligations.TenderHaltAndTimers : Prop :=
  ∀ (s : State) (m : Master) (n : Fin 4), s.dev.mainUp = true →
    let x := s.dev.act n
    let st := s.dev.actState n
    let ids := [(Reg.LN_ACT_STAT.ONU_ID_VALID n, 0), (Reg.LN_ACT_STAT.ONU_ID n, 0x3FF)]
    let all := ids ++ [(Reg.LN_ACT_STAT.EQD_VALID n, 0), (Reg.LN_EQD.EQD n, 0)] ++
      (s.dev.allocEntries n).flatMap (fun i => [(Reg.LN_ALLOC.VALID n i, 0), (Reg.LN_ALLOC.ALLOC_ID n i, 0)])
    let goTo := fun (v : Nat) => [(Reg.LN_ACT_STAT.STATE n, v), (Reg.LN_ACT_EVT.STATE_CHG n, 1)]
    let runs := s.dev.lnUp n = true ∧ s.dev.actEn n = true
    (s.dev.tenderRuns = true → Effect .tenderLockstepError s (fun d => d.tenderHalt = true ∧
      { s.dev with tenderHalt := true }.Sets d [(Reg.CPX_TND_STAT.RUNNING, 0), (Reg.CPX_TND_STAT.LOCKSTEP_ERR, 1)])) ∧
    (s.dev.tenderRuns = false → Does .tenderLockstepError s s.dev) ∧
    (s.dev.cpxHere = true → s.dev.tenderHere = true → s.dev.tenderHalt = false → Does (.tenderRestart m) s s.dev) ∧
    (s.dev.cpxHere = true → s.dev.tenderHere = true → s.dev.tenderHalt = true → Effect (.tenderRestart m) s (fun d =>
      let y := d.act n
      d.tenderHalt = false ∧ d.fld Reg.CPX_TND_STAT.RUNNING = 1 ∧
      (s.dev.lnUp n = false → y = x ∧ d.actState n = st) ∧
      (s.dev.lnUp n = true →
        y.late1 = false ∧ y.late2 = false ∧ y.lateDis = false ∧ y.lateEn = false ∧
        (x.lateDis = true → x.lateEn = false → st ≠ stO7 → d.actState n = stO11) ∧
        (x.lateDis = false → x.lateEn = false → x.late1 = true → st = stO4 → x.lateLods = false → d.actState n = stO23) ∧
        (x.lateDis = false → x.lateEn = false → x.late2 = true → st = stO6 → x.lateLods = false → x.hdrs = 0 →
          d.actState n = stO11) ∧
        (x.lateDis = false → x.lateEn = false → x.lateLods = true → s.dev.actEn n = true → st = stO5 →
          d.actState n = stO6 ∧ y.to2 = true ∧ y.lateLods = false) ∧
        (x.pwrWait = true → x.latePwr = true → y.pwrWait = false ∧ y.due = x.due ++ [.ack 1]) ∧
        (x.pwrWait = true → x.latePwr = false → s.dev.fld (Reg.LN_PWR_LVL.APPLIED n) = s.dev.fld (Reg.LN_PWR_LVL.REQ n) →
          y.pwrWait = false ∧ y.due = x.due ++ [.ack 0]) ∧
        (x.pwrWait = false → y.pwrWait = false ∧ y.due = x.due)))) ∧
    (¬ runs → Does (.lodsTimeout n) s s.dev) ∧
    (runs → s.dev.tenderHalt = true → Does (.lodsTimeout n) s (s.dev.setAct n { x with hdrs := 0, lateLods := true })) ∧
    (runs → s.dev.tenderHalt = false → s.dev.tenderRuns = false → Does (.lodsTimeout n) s s.dev) ∧
    (runs → s.dev.tenderHalt = false → s.dev.tenderRuns = true →
      (st = stO5 → Effect (.lodsTimeout n) s (fun d => d.actState n = stO6 ∧ (d.act n).to2 = true ∧ (d.act n).hdrs = 0 ∧
        (d.coach n).store.all (fun f => f.group.isNone) = true ∧ (d.coach n).bursts.all (fun b => b.content.isNone) = true ∧
        d.fld (Reg.LN_ACT_EVT.STATE_CHG n) = 1 ∧
        s.dev.SameRegs d [Reg.LN_ACT_STAT.STATE n, Reg.LN_ACT_EVT.STATE_CHG n, Reg.LN_BOND_CNT.COUNT bTxStranded])) ∧
      (st = stO12 ∨ st = stO23 ∨ st = stO4 → Effect (.lodsTimeout n) s (fun d =>
        (s.dev.setAct n { x with hdrs := 0, lateLods := false, to1 := false, late1 := false }).Sets d (all ++ goTo stO11))) ∧
      (¬ (st = stO12 ∨ st = stO23 ∨ st = stO4 ∨ st = stO5) →
        Does (.lodsTimeout n) s (s.dev.setAct n { x with hdrs := 0, lateLods := false }))) ∧
    (x.to1 = false ∨ st ≠ stO4 → Does (.to1Expiry n) s s.dev) ∧
    (x.to1 = true → st = stO4 →
      (s.dev.tenderHalt = false → Effect (.to1Expiry n) s (fun d =>
        (s.dev.setAct n { x with to1 := false, late1 := false }).Sets d ([(Reg.LN_ACT_EVT.TO1_EXP n, 1)] ++ ids ++ goTo stO23))) ∧
      (s.dev.tenderHalt = true → Effect (.to1Expiry n) s (fun d =>
        (s.dev.setAct n { x with to1 := false, late1 := true }).Sets d [(Reg.LN_ACT_EVT.TO1_EXP n, 1)]))) ∧
    (x.to2 = false ∨ st ≠ stO6 → Does (.to2Expiry n) s s.dev) ∧
    (x.to2 = true → st = stO6 →
      (s.dev.tenderHalt = false → Effect (.to2Expiry n) s (fun d =>
        (s.dev.setAct n { x with to2 := false, late2 := false }).Sets d ([(Reg.LN_ACT_EVT.TO2_EXP n, 1)] ++ all ++ goTo stO11))) ∧
      (s.dev.tenderHalt = true → Effect (.to2Expiry n) s (fun d =>
        (s.dev.setAct n { x with to2 := false, late2 := true }).Sets d [(Reg.LN_ACT_EVT.TO2_EXP n, 1)])))

/-- EN written 1 starts the machine in O1.1, or in O7 with the line's emergency stop set; written 0 it returns to O1.1 with the
identity cleared and the timers stopped, but a machine in O7 stays there; under a halted Tender the write is recorded for its
restart. The machine may then learn its profiles, and a burst under way is cut where the transmitter is disabled. That no sealed
burst stays when the machine leaves O5 is the model's choice (notes/assumptions/51.md). (spec/03_line_activation.md, Activation
states) -/
def Obligations.ActivationEnable : Prop :=
  (∀ (s : State) (m : Master) (n : Fin 4), s.dev.mainUp = true → s.dev.lnHere n = true →
    let x := s.dev.act n
    let st := s.dev.actState n
    let post := fun (d : Dev) => (d.iff d.tenderRuns (·.learn n)).iff (d.txDis n) (·.txCut n)
    let en := fun (v : Nat) => [(Reg.LN_ACT_CTRL.EN n, v)]
    let moves := [Reg.LN_ACT_CTRL.EN n, Reg.LN_ACT_STAT.STATE n, Reg.LN_ACT_EVT.STATE_CHG n, Reg.LN_BOND_CNT.COUNT bTxStranded]
    let works := s.dev.lnUp n = true ∧ s.dev.tenderHere = true
    (s.dev.actEn n = true → EffectThen (.actEnable m n) s post (fun d => s.dev.Sets d [])) ∧
    (s.dev.actEn n = false → ¬ works → EffectThen (.actEnable m n) s post (fun d => s.dev.Sets d (en 1))) ∧
    (s.dev.actEn n = false → works → s.dev.tenderHalt = true → EffectThen (.actEnable m n) s post (fun d =>
      (s.dev.setAct n { x with lateEn := true }).Sets d (en 1))) ∧
    (s.dev.actEn n = false → works → s.dev.tenderHalt = false → EffectThen (.actEnable m n) s post (fun d =>
      d.actEn n = true ∧ (d.act n).hdrs = 0 ∧ (d.act n).lateLods = false ∧
      d.actState n = (if bitOf (s.dev.fld Reg.PWR_LINE_ESTOP.ESTOP) n = true then stO7 else stO11) ∧ s.dev.SameRegs d moves)) ∧
    (¬ works → EffectThen (.actDisable m n) s post (fun d => s.dev.Sets d (en 0))) ∧
    (works → s.dev.tenderHalt = true → EffectThen (.actDisable m n) s post (fun d =>
      (s.dev.setAct n { x with lateDis := true, lateEn := false }).Sets d (en 0))) ∧
    (works → s.dev.tenderHalt = false → st = stO7 → EffectThen (.actDisable m n) s post (fun d => s.dev.Sets d (en 0))) ∧
    (works → s.dev.tenderHalt = false → st ≠ stO7 → EffectThen (.actDisable m n) s post (fun d =>
      d.actEn n = false ∧ d.actState n = stO11 ∧ (d.act n).to1 = false ∧ (d.act n).to2 = false ∧ (d.act n).hdrs = 0 ∧
      d.fld (Reg.LN_ACT_STAT.ONU_ID_VALID n) = 0 ∧ d.fld (Reg.LN_ACT_STAT.ONU_ID n) = 0x3FF ∧ d.fld (Reg.LN_EQD.EQD n) = 0 ∧
      d.fld (Reg.LN_ACT_STAT.EQD_VALID n) = 0 ∧ (∀ i < 128, d.on (Reg.LN_ALLOC.VALID n i) = false) ∧
      (st = stO5 → (d.coach n).store.all (fun f => f.group.isNone) = true ∧
        (d.coach n).bursts.all (fun b => b.content.isNone) = true) ∧
      s.dev.SameRegs d (moves ++ [Reg.LN_ACT_STAT.ONU_ID_VALID n, Reg.LN_ACT_STAT.ONU_ID n, Reg.LN_ACT_STAT.EQD_VALID n,
        Reg.LN_EQD.EQD n] ++ (s.dev.allocEntries n).flatMap (fun i => [Reg.LN_ALLOC.VALID n i, Reg.LN_ALLOC.ALLOC_ID n i]))))) ∧
  ∀ (d : Dev) (n : Fin 4),
    let c := d.coach n
    let ready := d.actState n = stO12 ∧ d.fld (Reg.LN_ACT_STAT.PROF_VALID n) ≠ 0 ∧
      ((d.act n).cprof = true ∨ d.on (Reg.LN_ACT_CTRL.NEED_CPROF n) = false)
    (ready → d.Sets (d.learn n) [(Reg.LN_ACT_STAT.STATE n, stO23), (Reg.LN_ACT_EVT.STATE_CHG n, 1)]) ∧
    (¬ ready → d.learn n = d) ∧
    (∀ e, c.lastOff = some e → d.gridNow n < e →
      d.txCut n = { d.setCoach n { c with lastOff := some (d.gridNow n) } with out := .burstCut n :: d.out }) ∧
    ((∀ e, c.lastOff = some e → e ≤ d.gridNow n) → d.txCut n = d)

/-- A downstream PLOAM message acts on a channel that is up and enabled, under a running Tender, when it is broadcast or carries
the channel's ONU-ID or serial number. One that fails its integrity check is counted; every one handled leaves its record, with
its action and the state before it. When a message is handled is the model's reading (notes/assumptions/34.md).
(spec/03_line_activation.md, PLOAM) -/
def Obligations.PloamMessagesAreHandled : Prop :=
  ∀ (s : State) (n : Fin 4) (p : Ploam) (prof : Profile) (onu eqd alloc idx ident level : Nat) (sw : Option Nat)
    (all disable add : Bool) (content : List Byte), s.dev.mainUp = true →
    let l : List (Instr × (Dev → Dev × Nat)) :=
      [(.burstProfile n p prof, (·.burstProfile n prof)), (.assignOnuId n p onu, (·.assignOnu n p onu)),
       (.rangingTime n p eqd, (·.rangingTime n p eqd)), (.deactivateOnuId n p, (·.deactivate n p)),
       (.disableSerialNumber n p all disable, (·.disableSerial n p all disable)),
       (.requestRegistration n p, (·.requestRegistration n)), (.assignAllocId n p alloc add, (·.assignAlloc n alloc add)),
       (.keyControl n p ⟨idx, sw⟩, (·.keyControl n idx sw)), (.systemProfile n p content, (·.systemProfile n content)),
       (.changePowerLevel n p level, (·.powerLevel n level)), (.protectionControl n p, (·.ackOnly n 0)),
       (.sleepAllow n p, (·.ackOnly n 0)), (.calibrationRequest n p, (·.ackOnly n 2)), (.adjustTxWavelength n p, (·.ackOnly n 2)),
       (.tuningControl n p, (·.ackOnly n 2)), (.ploamTypeNotHandled n p, fun d => (d, aUnknown))]
    let st := s.dev.actState n
    let here := p.onu = none ∨ s.dev.on (Reg.LN_ACT_STAT.ONU_ID_VALID n) = true ∧ p.onu = some (s.dev.fld (Reg.LN_ACT_STAT.ONU_ID n)) ∨
      p.serial = some (vendorId, s.dev.vssn n)
    let heard := s.dev.lnUp n = true ∧ s.dev.actEn n = true ∧ s.dev.tenderRuns = true ∧ here
    let spoilt := (s.dev.actCnt n 1 1).ploamRecord n p aMicFail st
    let cp := s.dev.channelProfile n p ident
    (¬ heard → (∀ e ∈ l, Does e.1 s s.dev) ∧ Does (.channelProfile n p ident) s (s.dev.lineMoved n)) ∧
    (heard → s.dev.ploamMicOk n p.msg = false →
      (∀ e ∈ l, Does e.1 s spoilt) ∧ Does (.channelProfile n p ident) s (spoilt.lineMoved n)) ∧
    (heard → s.dev.ploamMicOk n p.msg = true →
      (∀ e ∈ l, Does e.1 s ((e.2 s.dev).1.ploamRecord n p (e.2 s.dev).2 st)) ∧
      Does (.channelProfile n p ident) s ((cp.1.ploamRecord n p cp.2 st).lineMoved n))

/-- What the messages of identity do: Assign_ONU-ID in O2-3 for the own serial number gives the ONU-ID and O4; Ranging_Time in
O4 or O5 loads the delay, converted to unit intervals, and O4 goes to O5; Deactivate in O4 or O5 clears the identity and goes to
O2-3; Disable goes to O7 with the emergency stop set, Enable from O7 to O1.1 with it cleared. In other states each is ignored.
What the other messages do: a Burst_Profile is stored, valid when its lengths are in range; registration is answered in O5 with
the 36 bytes of REG_ID, the first from bits [31:24] of REG_ID[0]; Assign_Alloc-ID removes the entry, adds one at the first free
place, or answers with a processing error when all 128 are in use; Key_Control asks for a key, or is answered with a processing
error by an engine held in reset, or arms a switch; a power level is stored and acknowledged once applied; the identifier of a
broadcast Channel_Profile is taken, and O1.2 may go on; some are acknowledged only, some not supported. That Assign_Alloc-ID and
Change_Power_Level act in every state and have no acknowledgement (notes/assumptions/34.md), and what leaving O5 does to bursts
(notes/assumptions/51.md), are the model's readings. (spec/03_line_activation.md, PLOAM; spec/03_line_activation.md, Serial
number, registration and ONU-ID; spec/03_line_activation.md, Equalisation delay and response time) -/
def Obligations.PloamMessageEffects : Prop :=
  (∀ (d : Dev) (n : Fin 4) (p : Ploam) (onu eqd : Nat) (all : Bool),
     let st := d.actState n
     let me := all = true ∨ d.ownSerial n p = true
     let estop := d.fld Reg.PWR_LINE_ESTOP.ESTOP
     let clear := [(Reg.LN_ACT_STAT.ONU_ID_VALID n, 0), (Reg.LN_ACT_STAT.ONU_ID n, 0x3FF), (Reg.LN_ACT_STAT.EQD_VALID n, 0),
       (Reg.LN_EQD.EQD n, 0)] ++
       (d.allocEntries n).flatMap (fun i => [(Reg.LN_ALLOC.VALID n i, 0), (Reg.LN_ALLOC.ALLOC_ID n i, 0)])
     let goTo := fun (v : Nat) => [(Reg.LN_ACT_STAT.STATE n, v), (Reg.LN_ACT_EVT.STATE_CHG n, 1)]
     let still := fun (y : Act) => { y with to1 := false, to2 := false, late1 := false, late2 := false }
     (st = stO23 → d.ownSerial n p = true → (d.assignOnu n p onu).2 = aDone ∧
       (d.setAct n { d.act n with to1 := true, late1 := false }).Sets (d.assignOnu n p onu).1
         ([(Reg.LN_ACT_STAT.ONU_ID n, onu % 2 ^ 10), (Reg.LN_ACT_STAT.ONU_ID_VALID n, 1)] ++ goTo stO4)) ∧
     (st ≠ stO23 ∨ d.ownSerial n p = false → d.assignOnu n p onu = (d, aIgnored)) ∧
     (st = stO4 ∨ st = stO5 → d.ownOnu n p = true →
       let e := (d.rangingTime n p eqd).1
       (d.rangingTime n p eqd).2 = aDone ∧ e.fld (Reg.LN_EQD.EQD n) = Config.eqdUi eqd % 2 ^ 28 ∧
       (e.act n).loaded = Config.eqdUi eqd % 2 ^ 28 ∧
       e.fld (Reg.LN_EQD.SEQ n) = (d.fld (Reg.LN_EQD.SEQ n) + 1) % 2 ^ 4 ∧ e.fld (Reg.LN_ACT_STAT.EQD_VALID n) = 1 ∧
       e.fld (Reg.LN_ACT_EVT.EQD_LOAD n) = 1 ∧ e.actState n = stO5 ∧ (st = stO4 → (e.act n).to1 = false) ∧
       (d.tref ≠ some n.val → st = stO5 → d.SameRegs e
         [Reg.LN_EQD.EQD n, Reg.LN_EQD.SEQ n, Reg.LN_ACT_STAT.EQD_VALID n, Reg.LN_ACT_EVT.EQD_LOAD n])) ∧
     (¬ (st = stO4 ∨ st = stO5) ∨ d.ownOnu n p = false → d.rangingTime n p eqd = (d, aIgnored)) ∧
     (st = stO4 → p.onu.isNone = true ∨ d.ownOnu n p = true → (d.deactivate n p).2 = aDone ∧
       (d.setAct n (still (d.act n))).Sets (d.deactivate n p).1 (clear ++ goTo stO23)) ∧
     (st = stO5 → p.onu.isNone = true ∨ d.ownOnu n p = true →
       let e := (d.deactivate n p).1
       (d.deactivate n p).2 = aDone ∧ (∀ f ∈ clear ++ goTo stO23, e.fld f.1 = f.2) ∧
       (e.act n).to1 = false ∧ (e.act n).to2 = false ∧ (e.coach n).store.all (fun f => f.group.isNone) = true ∧
       (e.coach n).bursts.all (fun b => b.content.isNone) = true ∧
       d.SameRegs e ((clear ++ goTo stO23).map Prod.fst ++ [Reg.LN_BOND_CNT.COUNT bTxStranded])) ∧
     (¬ (st = stO4 ∨ st = stO5) ∨ p.onu.isNone = false ∧ d.ownOnu n p = false → d.deactivate n p = (d, aIgnored)) ∧
     (¬ me → ∀ b, d.disableSerial n p all b = (d, aIgnored)) ∧
     (me → st = stO23 ∨ st = stO4 ∨ st = stO5 ∨ st = stO6 →
       let e := (d.disableSerial n p all true).1
       let l := [(Reg.PWR_LINE_ESTOP.ESTOP, setBit estop n true % 16), (Reg.LN_ACT_EVT.ESTOP n, 1)] ++ goTo stO7
       (d.disableSerial n p all true).2 = aDone ∧ (∀ f ∈ l, e.fld f.1 = f.2) ∧ (e.act n).to1 = false ∧ (e.act n).to2 = false ∧
       (∀ o, (e.coach n).lastOff = some o → o ≤ e.gridNow n) ∧ d.SameRegs e (l.map Prod.fst ++ [Reg.LN_BOND_CNT.COUNT bTxStranded]) ∧
       (st ≠ stO5 → d.Regs e l)) ∧
     (me → ¬ (st = stO23 ∨ st = stO4 ∨ st = stO5 ∨ st = stO6) → d.disableSerial n p all true = (d, aIgnored)) ∧
     (me → st = stO7 → (d.disableSerial n p all false).2 = aDone ∧
       (d.setAct n { d.act n with hdrs := 0 }).Sets (d.disableSerial n p all false).1
         ([(Reg.PWR_LINE_ESTOP.ESTOP, setBit estop n false % 16)] ++ goTo stO11)) ∧
     (me → st ≠ stO7 → d.disableSerial n p all false = (d, aIgnored))) ∧
  (∀ (d : Dev) (n : Fin 4) (p : Ploam) (x : Profile) (alloc level code idx ident : Nat) (content : List Byte),
     let a := alloc % 2 ^ 14
     let e := (d.burstProfile n x).1
     let ok := x.preBytes ≤ 2048 ∧ 1 ≤ x.pattern.length ∧ x.pattern.length ≤ 32 ∧ 1 ≤ x.delim.length ∧ x.delim.length ≤ 8
     let pv := d.fld (Reg.LN_ACT_STAT.PROF_VALID n)
     let i := if idx = 1 ∨ idx = 2 then idx else if d.curIdx n = 1 then 2 else 1
     let r := (d.powerLevel n level).1
     let cp := if p.onu = none then d.cprofRx n ident else d
     let sw := fun (c : Nat) =>
       (d.put (Reg.CPH_LINE_US_CTRL.NEXT_IDX n) i).putWide (Reg.CPH_LINE_SW_LO.SFC n) (Reg.CPH_LINE_SW_HI.SFC n) c
     (d.burstProfile n x).2 = aDone ∧
     (ok → e.fld (Reg.LN_PROF0.VALID n x.index) = 1 ∧ e.fld (Reg.LN_ACT_STAT.PROF_VALID n) = setBit pv x.index true % 16 ∧
       e.fld (Reg.LN_PROF0.DEL_BYTES n x.index) = x.delim.length ∧ e.fld (Reg.LN_PROF0.PAT_BYTES n x.index) = x.pattern.length) ∧
     (¬ ok → e.fld (Reg.LN_PROF0.VALID n x.index) = 0 ∧ e.fld (Reg.LN_ACT_STAT.PROF_VALID n) = setBit pv x.index false % 16 ∧
       e.fld (Reg.LN_ACT_CNT.COUNT n 19) = min (2 ^ 32 - 1) (d.fld (Reg.LN_ACT_CNT.COUNT n 19) + 1)) ∧
     e.fld (Reg.LN_PROF0.VERSION n x.index) = x.version % 16 ∧ e.fld (Reg.LN_PROF0.FEC n x.index) = bit x.fec ∧
     e.fld (Reg.LN_PROF0.PRE_BYTES n x.index) = x.preBytes % 4096 ∧ e.fld (Reg.LN_ACT_EVT.PROF_CHG n) = 1 ∧
     (d.actState n = stO5 → (d.requestRegistration n).2 = aAnswered ∧
       (d.requestRegistration n).1 = d.setAct n { d.act n with due := (d.act n).due ++ [d.registration n] }) ∧
     (d.actState n ≠ stO5 → d.requestRegistration n = (d, aIgnored)) ∧
     (∀ i, d.allocFind n a = some i → (d.assignAlloc n alloc false).2 = aDone ∧ d.Sets (d.assignAlloc n alloc false).1
       [(Reg.LN_ALLOC.VALID n i, 0), (Reg.LN_ALLOC.ALLOC_ID n i, 0), (Reg.LN_ACT_EVT.ALLOC_CHG n, 1)] ∧
       d.assignAlloc n alloc true = (d, aDone)) ∧
     (d.allocFind n a = none → d.assignAlloc n alloc false = (d, aDone)) ∧
     (d.allocFind n a = none → (∀ i < 128, d.on (Reg.LN_ALLOC.VALID n i) = true) → (d.assignAlloc n alloc true).2 = aAnswered ∧
       (d.assignAlloc n alloc true).1 = (d.actCnt n 18 1).answer n (.ack 1)) ∧
     (∀ i < 128, d.allocFind n a = none → d.on (Reg.LN_ALLOC.VALID n i) = false → (∀ j < i, d.on (Reg.LN_ALLOC.VALID n j) = true) →
       let r := (d.assignAlloc n alloc true).1
       (d.assignAlloc n alloc true).2 = aDone ∧ r.fld (Reg.LN_ALLOC.ALLOC_ID n i) = a ∧ r.fld (Reg.LN_ALLOC.VALID n i) = 1 ∧
       r.fld (Reg.LN_ACT_EVT.ALLOC_CHG n) = 1 ∧
       (d.allocTcont n i < 512 → d.allocDups n i ≠ [] → r.fld (Reg.LN_ACT_EVT.ALLOC_CONFLICT n) = 1) ∧
       (512 ≤ d.allocTcont n i ∨ d.allocDups n i = [] → d.Sets r
         [(Reg.LN_ALLOC.ALLOC_ID n i, a), (Reg.LN_ALLOC.VALID n i, 1), (Reg.LN_ACT_EVT.ALLOC_CHG n, 1)])) ∧
     (d.cphHere = false ∨ d.cphUp = true →
       d.keyControl n idx none = (d.keyQueue { op := kcGenerate, slot := lineSlot n i, tender := true }, aAnswered)) ∧
     (d.cphHere = true → d.cphUp = false → d.keyControl n idx none = (d.answer n (.ack 1), aAnswered)) ∧
     (d.registration n = .registration ((List.range 36).map (fun k =>
       BitVec.ofNat 8 (d.fld (Reg.LN_REG_ID.REG_ID n (k / 4)) / 2 ^ (24 - 8 * (k % 4)))))) ∧
     (∀ c, (d.keyControl n idx (some c)).2 = aDone ∧ (d.cphLineHere = false → (d.keyControl n idx (some c)).1 = d) ∧
       (d.cphLineHere = true → d.sfc n < c % 2 ^ 51 ∨ d.cphUp = false →
         (d.keyControl n idx (some c)).1 = (sw c).put (Reg.CPH_LINE_US_CTRL.SW_ARM n) 1) ∧
       (d.cphLineHere = true → d.cphUp = true → c % 2 ^ 51 ≤ d.sfc n → (d.keyControl n idx (some c)).1 =
         (((sw c).put (Reg.CPH_LINE_US_CTRL.SW_ARM n) 0).bump (Reg.CPH_LINE_CNT.COUNT n 5)).ev Reg.CPH_EVT.KEY_LATE)) ∧
     (d.powerLevel n level).2 = aAnswered ∧
     d.Regs r [(Reg.LN_PWR_LVL.REQ n, level % 8), (Reg.LN_ACT_EVT.PWR_LVL_REQ n, 1)] ∧
     (d.tenderRuns = true → d.fld (Reg.LN_PWR_LVL.APPLIED n) = level % 8 → (r.act n).pwrWait = false ∧
       (r.act n).due = (d.act n).due ++ [.ack 0]) ∧
     (d.tenderRuns = false ∨ d.fld (Reg.LN_PWR_LVL.APPLIED n) ≠ level % 8 → (r.act n).pwrWait = true ∧
       (r.act n).latePwr = false ∧ (r.act n).due = (d.act n).due) ∧
     (d.channelProfile n p ident).2 = aDone ∧
     (d.channelProfile n p ident).1 = (cp.setAct n { cp.act n with cprof := true }).learn n ∧
     d.ackOnly n code = (d.setAct n { d.act n with due := (d.act n).due ++ [.ack code] }, aAnswered) ∧
     d.systemProfile n content = (d.setAct n { d.act n with sysProf := content }, aDone))

/-- An answer in preparation joins the queue unless four wait; the power level written by software, or its timeout, ends the
wait with an acknowledgement or a processing error; an Alloc-ID entry is bound to its T-CONT; an OMCI unit that fails its
integrity check is counted; a ring of software's messages offers each to its sink: OMCI to the burst store where there is room,
a PLOAM message to its queue of eight, refused where its type or the state forbids it. PLOAM_REFUSED for a reserved type outside
O5, and a submission not taken with eight waiting or no running Tender, are the model's readings (notes/assumptions/50.md).
(spec/03_line_activation.md, PLOAM; spec/03_line_activation.md, The bandwidth map; spec/03_line_activation.md, OMCI transport)
-/
def Obligations.AnswersBindingsAndOmci : Prop :=
  ∀ (s : State) (m : Master) (n : Fin 4) (v : Word), s.dev.mainUp = true →
    let x := s.dev.act n
    let same := s.dev.fld (Reg.LN_PWR_LVL.APPLIED n) = s.dev.fld (Reg.LN_PWR_LVL.REQ n)
    (s.dev.tenderRuns = false ∨ x.due = [] → Does (.ploamAnswerReady n) s s.dev) ∧
    (∀ u r, s.dev.tenderRuns = true → x.due = u :: r →
      (x.answers.length < 4 → Does (.ploamAnswerReady n) s (s.dev.setAct n { x with due := r, answers := x.answers ++ [u] })) ∧
      (4 ≤ x.answers.length → Does (.ploamAnswerReady n) s ((s.dev.setAct n { x with due := r }).actCnt n 20 1))) ∧
    (s.dev.lnHere n = true → Effect (.pwrLvlAppliedWrite m n v) s (fun d =>
      let done := x.pwrWait = true ∧ s.dev.tenderRuns = true ∧ bits v.toNat 8 3 = s.dev.fld (Reg.LN_PWR_LVL.REQ n)
      let l := [(Reg.LN_PWR_LVL.APPLIED n, bits v.toNat 8 3), (Reg.LN_PWR_LVL.TIMEOUT n, bits v.toNat 16 8)]
      (done → (s.dev.setAct n { x with pwrWait := false, due := x.due ++ [.ack 0] }).Regs d l ∧
        d.act n = { x with pwrWait := false, due := x.due ++ [.ack 0] }) ∧
      (¬ done → s.dev.Sets d l))) ∧
    (x.pwrWait = true → ¬ same → s.dev.tenderHalt = true →
      Does (.pwrLvlTimeout n) s (s.dev.setAct n { x with latePwr := true })) ∧
    (x.pwrWait = true → ¬ same → s.dev.tenderHalt = false → s.dev.tenderRuns = true →
      Effect (.pwrLvlTimeout n) s (fun d => d.act n = { x with pwrWait := false, due := x.due ++ [.ack 1] } ∧
        { d with acts := s.dev.acts } = s.dev)) ∧
    (x.pwrWait = false ∨ same ∨ s.dev.tenderHalt = false ∧ s.dev.tenderRuns = false → Does (.pwrLvlTimeout n) s s.dev) ∧
    (∀ i : Fin 128, s.dev.lnHere n = true →
      let t := bits v.toNat 16 10
      let b := s.dev.put (Reg.LN_ALLOC.TCONT n i) t
      let clash := s.dev.on (Reg.LN_ALLOC.VALID n i) = true ∧ t < 512 ∧ b.allocDups n i ≠ []
      (¬ clash → Does (.allocTcontWrite m n i v) s b) ∧
      (clash → Effect (.allocTcontWrite m n i v) s (fun d => d.fld (Reg.LN_ALLOC.TCONT n i) = t ∧
        (∀ k, k = n.val ∨ k ∈ b.allocDups n i → d.fld (Reg.LN_ACT_EVT.ALLOC_CONFLICT k) = 1) ∧ d.boundTcont n i = none ∧
        s.dev.SameRegs d (Reg.LN_ALLOC.TCONT n i :: (n.val :: b.allocDups n i).map Reg.LN_ACT_EVT.ALLOC_CONFLICT) ∧
        { d with regs := s.dev.regs } = s.dev))) ∧
    (s.dev.lnUp n = false ∨ (s.dev.line n).omci = [] → Does (.omciRx n) s s.dev) ∧
    (∀ u r, s.dev.lnUp n = true → (s.dev.line n).omci = u :: r →
      let d1 := s.dev.setLine n { s.dev.line n with omci := r }
      (d1.omciMicOk n u.data = false → Does (.omciRx n) s (d1.actCnt n 16 1)) ∧
      (d1.omciMicOk n u.data = true → Does (.omciRx n) s
        (let e := d1.rxMsg n 1 (leBytes u.sfc 8 ++ u.data)
         if e.2 = true then e.1 else e.1.actCnt n 17 1))) ∧
    ∀ (r : Fin 256) (mem b : List Byte) (k i st : Nat),
      let c := s.dev.fld (Reg.HIF_RING_CFG.CHANNEL r)
      let l := s.dev.postedOf r (descsOf mem)
      let ready := (s.dev.hifUp && s.dev.ringEn r && s.dev.ringLive r && s.dev.ringKind r == 4 && s.dev.canDma (domOf r) &&
        s.dev.evtRoom (s.dev.evtRing r) 1 && s.dev.lnUp c) = true
      let own := l.take k
      let msg := padTo (descBytes own) (b.take (descBytes own))
      let q := (s.dev.act c).sw
      let j := Instr.txmsgHandoff r mem b
      (¬ ready ∨ s.dev.txmsgWalk r l = .more → Does j s s.dev) ∧
      (ready → s.dev.txmsgWalk r l = .bad st i →
        Does j s ((s.dev.readDescs r (s.dev.idx r) (i + 1)).haltRing r st (s.dev.idx r + i))) ∧
      (ready → s.dev.txmsgWalk r l = .whole k → s.dev.on (Reg.HIF_RING_CFG.MSG r) = false →
        (s.dev.tenderRuns = false ∨ 8 ≤ q.length → Does j s s.dev) ∧
        (s.dev.tenderRuns = true → q.length < 8 →
          (Config.ploamReserved (msg.take 48) = true → Does j s ((s.dev.actCnt c 4 1).txmsgDone r own ploamRefused)) ∧
          (Config.ploamReserved (msg.take 48) = false → s.dev.actState c ≠ stO5 →
            Does j s ((s.dev.actCnt c 4 1).txmsgDone r own ploamState)) ∧
          (Config.ploamReserved (msg.take 48) = false → s.dev.actState c = stO5 →
            Does j s ((s.dev.setAct c { s.dev.act c with
              sw := q ++ [{ msg := msg.take 48, urgent := bitOf (byteAt msg 48) 0 }] }).txmsgDone r own 0)))) ∧
      (ready → s.dev.txmsgWalk r l = .whole k → s.dev.on (Reg.HIF_RING_CFG.MSG r) = true →
        let room := s.dev.omciOpen c = true ∧ (s.dev.coach c).bytes + msg.length ≤ 2 ^ 20
        (room → Does j s ((s.dev.setCoach c { s.dev.coach c with
          omci := (s.dev.coach c).omci ++ [(s.dev.omciSeal c msg, 0)] }).txmsgDone r own 0)) ∧
        (¬ room → Does j s s.dev))

/-- A bandwidth map of any number of structures, over any bursts already waiting: those accepted whose Alloc-ID matches in the
state are taken up, at most 64 in at most 16 bursts, the rest counted; a structure that continues one joins its burst; each
burst whose profile is valid starts the response time, the equalisation delay and its StartTime (with a random delay for the
serial number) after its frame. In the order of their starts a burst is dropped and counted when it comes within 64 upstream
unit intervals of the last one kept before it. The random delay is a free value (notes/assumptions/8.md); what a structure
continues that follows one not taken up (notes/assumptions/50.md) is the model's choice. Bursts: the structures of a bandwidth
map that match are taken up, and the header of a burst starts the response time, the equalisation delay and its StartTime after
its frame, unless it would come within 64 bits of the burst before; the burst is sealed once, unless its state no longer permits
it; it is sent only when sealed and with the transmitter on, and otherwise gives back what it took. Shares are filled frame by
frame, failed frames at the heads of queues dropped first; a Siding read that ends late, or after its seal, is counted, and one
with an uncorrectable cell drops its frames. That a burst leaves as one event (notes/assumptions/35.md), which burst a structure
joins (notes/assumptions/50.md), the ONU-ID of a serial-number burst, a mixed burst of a standby side and a fragment's frame
that returns whole (notes/assumptions/57.md), and the key index of a header (notes/assumptions/56.md) are the model's readings.
(spec/03_line_activation.md, The bandwidth map; spec/03_line_activation.md, The Coachbuilder) -/
def Obligations.Bursts : Prop :=
  ((∀ (s : State) (n : Fin 4) (l : List Grant), s.dev.mainUp = true → s.dev.coachUp n = true →
     let d1 := s.dev.lineSwitch n (s.dev.sfc n)
     let c := d1.coach n
     let ui := d1.usUi n
     let word := d1.usWord n
     let cnt := fun (k : Nat) => Reg.LN_ACT_CNT.COUNT n k
     let plus := fun (d : Dev) (f : Fld) (k : Nat) => d.fld f = if k = 0 then d1.fld f else min (2 ^ f.w - 1) (d1.fld f + k)
     let pass : Grant → Bool := fun g => g.hec == .good || g.hec == .corrected && d1.on (Reg.LN_BWM_CTRL.HEC_ACCEPT n)
     let m := l.filter (fun g => pass g && (d1.grantKind n g).isSome)
     let unc := (l.filter (fun g => !pass g)).length
     Effect (.bandwidthMapParse n l) s (fun d => ∃ t, t ≤ 64 ∧ t ≤ m.length ∧ plus d (cnt 7) t ∧ plus d (cnt 9) (m.length - t) ∧
       plus d (cnt 8) unc ∧ (d.coach n).bursts.length ≤ c.bursts.length + 16 ∧
       d1.SameRegs d [cnt 7, cnt 8, cnt 9, cnt 10, cnt 11, Reg.TRU_RNG_STAT.HEALTH_OK]) ∧
     ∀ gs : List (List Grant), gs.flatten = m → (∀ g ∈ gs, g ≠ [] ∧ g.tail.all (·.cont) = true) →
       (∀ g ∈ gs.tail, (g.headD {}).cont = false) → m.length ≤ 64 → gs.length ≤ 16 →
       let prof : List Grant → List Nat := fun g => c.profs.getD (g.headD {}).prof.val []
       let ok := gs.filter (fun g => profValid (prof g))
       let isBurst : List Grant → Burst → Prop := fun g b =>
         let h := g.headD {}
         let w := prof g
         b.frame = c.frame ∧ b.sfc = d1.sfc n ∧ b.key = d1.curIdx n ∧ b.prof = w ∧ b.content = none ∧
         b.allocs = g.map (fun a => { alloc := a.alloc, kind := (d1.grantKind n a).getD 0, size := a.size, dbru := a.dbru }) ∧
         b.ploam = (h.ploam || h.sn || d1.actState n == stO4) ∧ (h.sn = false → b.delay = 0) ∧
         b.delay ≤ d1.fld (Reg.LN_ACT_CTRL.SN_RAND_MAX n) * 497664 / (10 * (word * 8 * ui)) ∧
         b.start = (h.start + b.delay) * word ∧
         b.hdr = 1741824 + (if h.sn then 0 else c.eqd) + (h.start + b.delay) * (word * 8 * ui) ∧
         b.pre = b.hdr - profLead w * 8 * ui ∧ b.on = b.pre - d1.fld (Reg.LN_CB_TIMING.TXBE_LEAD n) * ui ∧
         b.fin = b.hdr + Config.burstBits (profFec w) b.ploam ((g.map (fun a => a.size * word)).sum) * ui ∧
         b.off = b.fin + d1.fld (Reg.LN_CB_TIMING.TXBE_LAG n) * ui
       Effect (.bandwidthMapParse n l) s (fun d => plus d (cnt 7) m.length ∧ plus d (cnt 8) unc ∧ d.fld (cnt 9) = d1.fld (cnt 9) ∧
         plus d (cnt 11) (gs.length - ok.length) ∧ ∃ new : List Burst, new.length = ok.length ∧
         (∀ k < ok.length, isBurst (ok.getD k []) (new.getD k {})) ∧
         let cut := sweepBursts (64 * ui) c.lastOff (new.foldl (fun x b => insertBurst b x) c.bursts)
         (d.coach n).bursts = cut.1 ∧ d.fld (cnt 10) = min (2 ^ 32 - 1) (d1.fld (cnt 10) + cut.2.length))) ∧
   ∀ (gap : Nat) (last : Option Nat) (b : Burst) (l : List Burst),
     let r := sweepBursts gap last l
     let before := match r.1.getLast? with | some k => some (k.at_ k.off) | none => last
     let clash := ∃ e, before = some e ∧ b.at_ b.pre < e + gap
     (clash → sweepBursts gap last (l ++ [b]) = (r.1, r.2 ++ [b])) ∧
     (¬ clash → sweepBursts gap last (l ++ [b]) = (r.1 ++ [b], r.2)) ∧
     (insertBurst b l).Perm (b :: l) ∧
     (l.Pairwise (fun x y => x.at_ x.pre ≤ y.at_ y.pre) → (insertBurst b l).Pairwise (fun x y => x.at_ x.pre ≤ y.at_ y.pre))) ∧
  (∀ (s : State) (dt : Nat) (n : Fin 4), s.dev.mainUp = true →
     let d0 := s.dev.advance dt
     let c := d0.coach n
     let d1 := s.dev.lineSwitch n (s.dev.sfc n)
     let b0 := if d0.coachUp n then c.bursts else []
     let wait := b0.find? (fun b => b.content.isNone)
     let plus := fun (a d : Dev) (f : Fld) (k : Nat) => d.fld f = if k = 0 then a.fld f else min (2 ^ f.w - 1) (a.fld f + k)
     let none10 := fun (d : Dev) => d.fld (Reg.LN_ACT_CNT.COUNT n 10) = min (2 ^ 32 - 1) (d1.fld (Reg.LN_ACT_CNT.COUNT n 10))
     let cnt := fun (k : Nat) => Reg.LN_ACT_CNT.COUNT n k
     (∀ l, s.dev.coachUp n = false → Does (.bandwidthMapParse n l) s s.dev) ∧
     (∀ (g : Grant), s.dev.coachUp n = true → (d1.coach n).bursts = [] →
       let pass := g.hec = .good ∨ g.hec = .corrected ∧ d1.on (Reg.LN_BWM_CTRL.HEC_ACCEPT n) = true
       let w := (d1.coach n).profs.getD g.prof.val []
       let ui := d1.usUi n
       let hdr := 1741824 + (d1.coach n).eqd + g.start * (d1.usWord n * 8 * ui)
       let pre := (d1.coach n).frame * frameBits + (hdr - profLead w * 8 * ui)
       let clash := ∃ e, (d1.coach n).lastOff = some e ∧ pre < e + 64 * ui
       (¬ pass → Effect (.bandwidthMapParse n [g]) s (fun d => (d.coach n).bursts = [] ∧ plus d1 d (cnt 8) 1 ∧ none10 d ∧
         d1.SameRegs d [cnt 8, cnt 10])) ∧
       (pass → d1.grantKind n g = none → Effect (.bandwidthMapParse n [g]) s (fun d => (d.coach n).bursts = [] ∧
         none10 d ∧ d1.SameRegs d [cnt 10])) ∧
       ∀ i, pass → d1.grantKind n g = some i →
         (profValid w = false → Effect (.bandwidthMapParse n [g]) s (fun d => (d.coach n).bursts = [] ∧ plus d1 d (cnt 7) 1 ∧
           plus d1 d (cnt 11) 1 ∧ none10 d ∧ d1.SameRegs d [cnt 7, cnt 10, cnt 11])) ∧
         (profValid w = true → g.sn = false → clash → Effect (.bandwidthMapParse n [g]) s (fun d => (d.coach n).bursts = [] ∧
           plus d1 d (cnt 7) 1 ∧ plus d1 d (cnt 10) 1 ∧ d1.SameRegs d [cnt 7, cnt 10])) ∧
         (profValid w = true → g.sn = false → ¬ clash → Effect (.bandwidthMapParse n [g]) s (fun d =>
           plus d1 d (cnt 7) 1 ∧ none10 d ∧ d1.SameRegs d [cnt 7, cnt 10] ∧ ∃ b, (d.coach n).bursts = [b] ∧
           b.frame = (d1.coach n).frame ∧ b.sfc = d1.sfc n ∧ b.key = d1.curIdx n ∧ b.hdr = hdr ∧
           b.pre = hdr - profLead w * 8 * ui ∧ b.allocs = [{ alloc := g.alloc, kind := i, size := g.size, dbru := g.dbru }] ∧
           b.ploam = (g.ploam || d1.actState n == stO4) ∧
           b.fin = hdr + Config.burstBits (profFec w) b.ploam (g.size * d1.usWord n) * ui ∧ b.prof = w ∧ b.content = none)) ∧
         (profValid w = true → g.sn = true → (d1.coach n).lastOff = none → Effect (.bandwidthMapParse n [g]) s (fun d =>
           plus d1 d (cnt 7) 1 ∧ none10 d ∧ d1.SameRegs d [cnt 7, cnt 10, Reg.TRU_RNG_STAT.HEALTH_OK] ∧ ∃ b, (d.coach n).bursts = [b] ∧ b.ploam = true ∧
           b.delay ≤ d1.fld (Reg.LN_ACT_CTRL.SN_RAND_MAX n) * 497664 / (10 * (d1.usWord n * 8 * ui)) ∧
           b.hdr = 1741824 + (g.start + b.delay) * (d1.usWord n * 8 * ui)))) ∧
     (wait = none → Does (.burstSeal dt n) s d0) ∧
     (∀ b, wait = some b →
       (d0.burstAllowed n b = false → Does (.burstSeal dt n) s (d0.setCoach n { c with bursts := dropFirst c.bursts })) ∧
       (d0.burstAllowed n b = true → d0.standsBy n = true → b.allocs.all (fun a => a.kind == 2) = true →
         Does (.burstSeal dt n) s ((d0.setCoach n { c with bursts := dropFirst c.bursts }).bump (Reg.LN_PROT_CNT.COUNT 2))) ∧
       (d0.burstAllowed n b = true → d0.standsBy n = false ∨ b.allocs.all (fun a => a.kind == 2) = false →
         Effect (.burstSeal dt n) s (fun d => ∃ x : Sealed, (d.coach n).bursts = sealFirst x c.bursts ∧
           x.parts.length = b.allocs.length ∧ x.ploam.isSome = b.ploam ∧
           x.onu = if d0.on (Reg.LN_ACT_STAT.ONU_ID_VALID n) then some (d0.fld (Reg.LN_ACT_STAT.ONU_ID n)) else none))) ∧
     (b0 = [] ∨ (∃ b r, b0 = b :: r ∧ b.content = none) → Does (.burstTransmit dt n) s d0) ∧
     (∀ b r x, b0 = b :: r → b.content = some x →
       (d0.txDis n = true ∨ d0.burstAllowed n b = false →
         Does (.burstTransmit dt n) s ((d0.setCoach n { c with bursts := r }).unseal n b)) ∧
       (d0.txDis n = false → d0.burstAllowed n b = true → Effect (.burstTransmit dt n) s (fun d =>
         (d.coach n).lastOff = some (b.at_ b.off) ∧ (d.coach n).bursts = r ∧ plus d0 d (cnt 12) 1 ∧
         plus d0 d (cnt 3) (if x.ploam.isSome then 1 else 0) ∧
         ∃ y : Sealed, d.out = .burst n { b with content := some y } :: d0.out ∧ y.ploam = x.ploam ∧ y.onu = x.onu ∧
           y.gasp = x.gasp ∧ y.more = x.more ∧ (x.ploam = none → y.wire = []) ∧ y.parts.length = x.parts.length))) ∧
     (∀ t : Fin 512, (d0.fills n t = false → Does (.prestageFill dt n t) s d0) ∧
       (d0.fills n t = true → (d0.tcontDrop t).fillOne n t = none → Does (.prestageFill dt n t) s (d0.tcontDrop t)) ∧
       ∀ d1, d0.fills n t = true → (d0.tcontDrop t).fillOne n t = some d1 → (d1.tcontDrop t).fillOne n t = none →
         0 < (d0.tm.queues.map (fun e => e.2.ondie.length + e.2.siding.length)).sum →
         Does (.prestageFill dt n t) s (d1.tcontDrop t)) ∧
     ∀ bad, (c.store.all (·.ready) = true → Does (.cbSidingReadDone dt ⟨n, bad⟩) s d0) ∧
       ∀ a x b, c.store = a ++ x :: b → a.all (·.ready) = true → x.ready = false →
         let tardy := if x.late = true ∨ x.deadline < (d0.nowPs : Int) then 1 else 0
         (bad = 0 → Effect (.cbSidingReadDone dt ⟨n, bad⟩) s (fun d => (d.coach n).store = a ++ { x with ready := true } :: b ∧
           plus d0 d (cnt 14) tardy ∧ plus d0 d (cnt 15) (bit x.missed) ∧ d0.SameRegs d [cnt 14, cnt 15] ∧ d.tm = (d0.release x.f).tm)) ∧
         (bad ≠ 0 → Effect (.cbSidingReadDone dt ⟨n, bad⟩) s (fun d => (d.coach n).store = (dropReads x.q bad c.store).1 ∧
           plus d0 d (cnt 14) tardy ∧ plus d0 d (cnt 15) (bit x.missed) ∧ d.fld Reg.TMG_EVT.SIDING_ECC = 1)))

/-! ### Bonding and line protection (spec/04) -/

/-- MODE is not taken while a channel's machine is enabled, or for bonding on a part without it; MODE 1 takes up the pool,
leaving it closes every group and gives the pool back, MODE 2 makes side 0 active; the time reference follows. A bonding group
takes its configuration while it is disabled; enabling starts it empty, disabling releases what it holds and counts its gaps.
That a refused write of MODE still sets TREF_CH and that POOL_CELLS acts as the nearest limit (notes/assumptions/18.md), which
registers of LN[0] serve all channels (notes/assumptions/23.md), and what a group gives up as it stops (notes/assumptions/51.md)
are the model's readings. (spec/04_line_bonding_protection.md, Line modes; spec/04_line_bonding_protection.md, The Heken bonding
profile) -/
def Obligations.LineModeAndGroups : Prop :=
  ∀ (s : State) (m : Master) (g : Fin 1024) (v : Word), s.dev.mainUp = true → s.dev.anyLine = true →
    let mode := v.toNat % 4
    let was := s.dev.lineMode
    let bad := ((List.range 4).filter s.dev.lnHere).any s.dev.actEn = true ∨ (mode = 1 ∧ s.dev.bondHere = false)
    let cfg := [(Reg.LN_BOND_GRP_CFG.FLOW g, v.toNat % 2 ^ 15), (Reg.LN_BOND_GRP_CFG.MEMBERS g, bits v.toNat 16 4),
      (Reg.LN_BOND_GRP_CFG.US_EN g, bits v.toNat 20 1)]
    (bad → EffectThen (.lineModeWrite m v) s (·.refMoved) (fun d => d.fld Reg.LN_LINE_MODE.MODE = s.dev.fld Reg.LN_LINE_MODE.MODE ∧
      d.fld Reg.LN_LINE_MODE.TREF_CH = bits v.toNat 2 2 ∧ d.fld Reg.LN_PROT_EVT.MODE_REJ = 1 ∧
      d.tref = d.trefWant ∧ d.tm = s.dev.tm ∧ d.groups = s.dev.groups)) ∧
    (¬ bad → EffectThen (.lineModeWrite m v) s (·.refMoved) (fun d => d.tref = d.trefWant ∧ d.fld Reg.LN_LINE_MODE.MODE = mode ∧
      d.fld Reg.LN_LINE_MODE.TREF_CH = bits v.toNat 2 2 ∧
      (mode = 1 → was ≠ 1 → d.tm.bondSize = min 65536 (max 1024 (s.dev.fld Reg.LN_BOND_CTRL.POOL_CELLS))) ∧
      (mode = 2 → was ≠ 2 → d.fld Reg.LN_PROT_STAT.ACTIVE = 0) ∧ (mode ≠ 1 → was = 1 → d.tm.bondSize = 0 ∧
        ∀ k < 1024, s.dev.bondEn k = true → d.group k = {} ∧ d.bondEn k = false ∧ d.fld (Reg.LN_BOND_GRP_STAT.TX_SEQ k) = 0))) ∧
    (s.dev.bondHere = true →
      (s.dev.bondEn g = true → Does (.bondGroupEnable m g v) s s.dev) ∧
      (s.dev.bondEn g = false → Effect (.bondGroupEnable m g v) s (fun d => (s.dev.setGroup g {}).Sets d
        (cfg ++ [(Reg.LN_BOND_GRP_CFG.EN g, 1), (Reg.LN_BOND_GRP_CFG.STATE g, gStart), (Reg.LN_BOND_GRP_STAT.TX_SEQ g, 0)]))) ∧
      (s.dev.bondEn g = false → Effect (.bondGroupDisable m g v) s (fun d => s.dev.Sets d cfg)) ∧
      (s.dev.bondEn g = true → Effect (.bondGroupDisable m g v) s (fun d =>
        d.group g = {} ∧ d.fld (Reg.LN_BOND_GRP_CFG.EN g) = 0 ∧ d.fld (Reg.LN_BOND_GRP_CFG.STATE g) = gIdle ∧
        (∀ f ∈ cfg, d.fld f.1 = s.dev.fld f.1) ∧
        ((s.dev.group g).held = [] → s.dev.SameRegs d [Reg.LN_BOND_GRP_CFG.EN g, Reg.LN_BOND_GRP_CFG.STATE g,
          Reg.LN_BOND_CNT.COUNT bGapLost, Reg.LN_BOND_GRP_STAT.EXP_SEQ g]) ∧
        ∀ h e, (s.dev.group g).held = [h] → (s.dev.group g).exp = some e →
          d.fld (Reg.LN_BOND_CNT.COUNT bRel) = min (2 ^ 32 - 1) (s.dev.fld (Reg.LN_BOND_CNT.COUNT bRel) + 1) ∧
          d.fld (Reg.LN_BOND_CNT.COUNT bGapLost) =
            min (2 ^ 32 - 1) (s.dev.fld (Reg.LN_BOND_CNT.COUNT bGapLost) + seqDist h.seq e))))

/-- A unit for the bonding stage is discarded and counted by its first fault; a data frame with the expected number of a running
group that holds none is released at once, and the expected number moves on; one behind it is late, one far ahead is counted.
The first of a starting group sets the expected number and starts the timer, whose end makes the group run. A frame held for the
window has what was missing before it declared lost and is released. A defect that has lasted the hold-off is a fast defect; a
trigger switches an armed protection to the healthy standby side and disarms it, or is blocked and counted once; software
switches to a healthy side, or by force, and in the cycle of an automatic switch its command gives that one. A switch changes
the active side, records its cause and the counter, counts, and returns the frames of the old side to their queues. The time
reference is the channel that R113 or R134 names, and its changes are events. The local port of a released frame
(notes/assumptions/51.md), its stamp (notes/assumptions/27.md), and when BLOCKED counts (notes/assumptions/36.md) are the
model's readings. (spec/04_line_bonding_protection.md, Downstream reassembly; spec/04_line_bonding_protection.md, Line
protection) -/
def Obligations.BondingReceiveAndProtection : Prop :=
  (∀ (s : State) (dt : Nat) (n : Fin 4) (g : Fin 1024), s.dev.mainUp = true →
     let d0 := s.dev.advance dt
     let x := d0.line n
     let up := fun (d d' : Dev) (c k : Nat) => d'.fld (Reg.LN_BOND_CNT.COUNT c) = min (2 ^ 32 - 1) (d.fld (Reg.LN_BOND_CNT.COUNT c) + k)
     let y := s.dev.group g
     (x.bonded = [] → Does (.bondUnitRx dt n) s d0) ∧
     (∀ u r, x.bonded = u :: r →
       let d1 := d0.setLine n { x with bonded := r }
       let cnt := fun (c : Nat) => Does (.bondUnitRx dt n) s (d1.bondCnt c 1)
       (d0.lineMode ≠ 1 → cnt bUnkGroup) ∧
       (d0.lineMode = 1 → (bondHeader u.data = none → cnt bHdrErr) ∧ ∀ ty q, bondHeader u.data = some (ty, g.val, q) →
         (d0.bondEn g = false → cnt bUnkGroup) ∧ (d0.bondEn g = true → n.val ∉ d0.bondMembers g → cnt bNotMember) ∧
         (d0.bondEn g = true → n.val ∈ d0.bondMembers g → (d0.group g).held = [] → ∀ e, (d0.group g).exp = some e →
           let k := seqDist q e
           (ty = 1 → Effect (.bondUnitRx dt n) s (fun d => up d0 d bMarkerRx 1 ∧ (d.group g).exp = some e ∧
             Tbl.get (d.group g).high n 0 = q % 65536 ∧ bitOf (d.group g).heard n = true ∧
             d0.SameRegs d [Reg.LN_BOND_CNT.COUNT bMarkerRx])) ∧
           (ty = 0 → d0.gState g = gRun →
             (k = 0 → Effect (.bondUnitRx dt n) s (fun d => up d0 d bRel 1 ∧ (d.group g).exp = some ((q + 1) % 65536) ∧
               (d.group g).held = [] ∧ (d.group g).farRun = 0 ∧ d.fld (Reg.LN_BOND_GRP_STAT.EXP_SEQ g) = (q + 1) % 65536)) ∧
             (8192 ≤ k → k ≤ 32767 → (d0.group g).farRun < 15 → Effect (.bondUnitRx dt n) s (fun d => up d0 d bSeqFar 1 ∧
               (d.group g).exp = some e ∧ (d.group g).held = [] ∧ (d.group g).farRun = (d0.group g).farRun + 1)) ∧
             (8192 ≤ k → k ≤ 32767 → 15 ≤ (d0.group g).farRun → Effect (.bondUnitRx dt n) s (fun d => up d0 d bSeqFar 1 ∧
               up d0 d bResync 1 ∧ up d0 d bRel 1 ∧ (d.group g).exp = some ((q + 1) % 65536) ∧ (d.group g).farRun = 0)) ∧
             (32768 ≤ k → Effect (.bondUnitRx dt n) s (fun d => up d0 d bLate 1 ∧ (d.group g).exp = some e ∧
               (d.group g).held = [] ∧ d0.SameRegs d [Reg.LN_BOND_CNT.COUNT bLate])))) ∧
         (d0.bondEn g = true → n.val ∈ d0.bondMembers g → d0.gState g = gStart → ty = 0 → (d0.group g).exp = none →
           d0.tm.bondUsed + cellsFor (u.data.length - 12 + 4) ≤ d0.tm.bondSize → Effect (.bondUnitRx dt n) s (fun d =>
             (d.group g).exp = some (q % 65536) ∧ (d.group g).timer = true ∧
             (d.group g).held.map (·.seq) = (d0.group g).held.map (·.seq) ++ [q] ∧
             d.tm.bondUsed = d0.tm.bondUsed + cellsFor (u.data.length - 12 + 4) ∧
             d.fld (Reg.LN_BOND_GRP_STAT.EXP_SEQ g) = q % 65536)))) ∧
     (s.dev.gState g ≠ gStart ∨ y.timer = false → Does (.bondStartTimerExpiry g) s s.dev) ∧
     (s.dev.gState g = gStart → y.timer = true → Effect (.bondStartTimerExpiry g) s (fun d =>
       d.gState g = gRun ∧ (d.group g).timer = false ∧
       (y.held = [] → (s.dev.setGroup g { y with timer := false }).Sets d [(Reg.LN_BOND_GRP_CFG.STATE g, gRun)]))) ∧
     (s.dev.gState g ≠ gRun ∨ y.held = [] → Does (.bondWindowExpiry g) s s.dev) ∧
     ∀ h e, s.dev.gState g = gRun → y.held = [h] → y.exp = some e → h.seq < 65536 → Effect (.bondWindowExpiry g) s (fun d =>
       up s.dev d bWindowExp 1 ∧ up s.dev d bGapLost (seqDist h.seq e) ∧ up s.dev d bRel 1 ∧ (d.group g).held = [] ∧
       (d.group g).exp = some ((h.seq + 1) % 65536))) ∧
  ((∀ (s : State) (m : Master) (n : Fin 4) (ucw : Bool) (v : Word), s.dev.mainUp = true → s.dev.anyLine = true →
     let x := s.dev
     let idle := x.lineMode ≠ 2 ∨ x.on Reg.LN_PROT_STAT.SWITCHING = true
     let auto := x.on Reg.LN_PROT_STAT.SWITCHING = false ∧ x.on Reg.LN_PROT_CTRL.ARMED = true ∧ x.trigger = true ∧ x.stbyOk = true
     let hit := x.lnUp n = true ∧ x.defect n (if ucw = true then dUCW else dDSD) = true
     let base := fun (c : Word) => (x.plainWrite Reg.LN_PROT_CTRL.ADR (v &&& 0xFFFFFFCF#32 ||| c).toNat).defectsMoved
     (¬ hit → Does (.fastDefHoldoffExpiry n ucw) s x.refMoved) ∧
     (hit → x.on (if ucw = true then Reg.LN_PROT_CTRL.TRIG_UCW else Reg.LN_PROT_CTRL.TRIG_DSD) = true →
       EffectThen (.fastDefHoldoffExpiry n ucw) s (·.refMoved) (fun d => d.fastDef n = true ∧ d.tref = d.trefWant ∧
         ∀ k, k ∉ [Reg.LN_PROT_STAT.FAST_DEF, Reg.LN_PROT_STAT.TREF, Reg.LN_PROT_STAT.TREF_NONE, Reg.LN_PROT_EVT.TREF_CHG].map Fld.key →
           k / 32 < 0x80000 ∨ 0x100000 ≤ k / 32 → Tbl.get d.regs k (Reg.rst k) = Tbl.get x.regs k (Reg.rst k))) ∧
     (idle ∨ x.on Reg.LN_PROT_CTRL.ARMED = false ∨ x.trigger = false → Does .protAutoSwitch s x.refMoved) ∧
     (¬ idle → x.on Reg.LN_PROT_CTRL.ARMED = true → x.trigger = true →
       (x.stbyOk = true → Does .protAutoSwitch s ((x.put Reg.LN_PROT_CTRL.ARMED 0).protSwitch 1).refMoved) ∧
       (x.stbyOk = false → EffectThen .protAutoSwitch s (·.refMoved) (fun d =>
         { x with prot := { x.prot with onset := true } }.Sets d ((Reg.LN_PROT_EVT.BLOCKED, 1) ::
           if x.prot.onset = true then [] else [(Reg.LN_PROT_CNT.COUNT 1, min (2 ^ 32 - 1) (x.fld (Reg.LN_PROT_CNT.COUNT 1) + 1))])))) ∧
     Does (.protManualSwitch m v) s (let d := base 0x10#32
       if auto then ((d.put Reg.LN_PROT_CTRL.ARMED 0).protSwitch 1).refMoved
       else if d.lineMode ≠ 2 ∨ d.on Reg.LN_PROT_STAT.SWITCHING = true then d.refMoved
       else if d.stbyOk = true then (d.protSwitch 2).refMoved else (d.put Reg.LN_PROT_EVT.BLOCKED 1).refMoved) ∧
     Does (.protForcedSwitch m v) s (let d := base 0x20#32
       if auto then ((d.put Reg.LN_PROT_CTRL.ARMED 0).protSwitch 1).refMoved
       else if d.lineMode ≠ 2 ∨ d.on Reg.LN_PROT_STAT.SWITCHING = true then d.refMoved else (d.protSwitch 3).refMoved) ∧
     Effect .protSwitchComplete s (fun d => x.Sets d [(Reg.LN_PROT_STAT.SWITCHING, 0)]) ∧
     Effect .trefTrackResume s (fun d => d.tim.resume = false ∧
       { d with tim := { d.tim with resume := x.tim.resume } } = x)) ∧
   (∀ (d : Dev) (c : Fin 4), let e := d.protSwitch c
     e.fld Reg.LN_PROT_STAT.ACTIVE = 1 - d.activeSide ∧ e.fld Reg.LN_PROT_STAT.SWITCHING = 1 ∧
     e.fld Reg.LN_PROT_EVT.SWITCHED = 1 ∧ e.fld Reg.LN_PROT_STAT.LAST_CAUSE = c ∧
     e.fld (Reg.LN_PROT_CNT.COUNT 0) = min (2 ^ 32 - 1) (d.fld (Reg.LN_PROT_CNT.COUNT 0) + 1) ∧
     e.wide Reg.LN_PROT_TS_LO.COUNT Reg.LN_PROT_TS_HI.COUNT = d.tim.ctr % 2 ^ 64 ∧
     (∀ n ∈ d.sideChs d.activeSide, (e.coach n).store = [] ∧ (e.coach n).bursts = []) ∧
     (∀ n ∈ d.sideChs (1 - d.activeSide), (e.line n).reasm = (d.line n).reasm.map (fun r => { r with stby := true }))) ∧
   ∀ (d : Dev), let e := d.trefUpdate
     e.tref = d.trefWant ∧ (d.trefWant = d.tref → e = d) ∧ (d.trefWant ≠ d.tref → e.fld Reg.LN_PROT_EVT.TREF_CHG = 1) ∧
     (∀ n, d.trefWant = some n → d.tref ≠ none → d.tref ≠ some n →
       e.tim.resume = true ∧ e.tim.buildOut = some (Tbl.get d.tim.phase n 0)) ∧
     (d.lineMode ≠ 2 → d.trefWant = if d.lnUp (d.fld Reg.LN_LINE_MODE.TREF_CH) then some (d.fld Reg.LN_LINE_MODE.TREF_CH) else none))

/-! ### The cipher engine (spec/05) -/

/-- A key command waits for the engine, PLAIN_EN sampled when it is given and its key input when it starts; while one is busy
another is ignored. When it ends the status tells its fault, and without one the slot holds the key, or is EMPTY after
INVALIDATE. One that the Tender gave leaves KEY_STAT alone and is answered to the head end, with the key wrapped or with a
processing error. When slot, use and unwrapping are tested, a transport key that is not VALID, WRAP_OUT after a GENERATE of a
line data key, and a report lost under a halted Tender are the model's readings (notes/assumptions/56.md). (spec/05_cipher.md,
The key store; spec/05_cipher.md, Key_Control on the line) -/
def Obligations.KeyCommands : Prop :=
  ∀ (s : State) (m : Master) (slot : Fin 64), s.dev.mainUp = true →
    let x := s.dev
    (∀ e ∈ [(Instr.loadPlain m slot, 1), (.loadDev m slot, 2), (.loadLink m slot, 3), (.generate m slot, 4), (.invalidate m slot, 5)],
      (x.cphUp = false → Does e.1 s x) ∧
      (x.cphUp = true → x.fld Reg.CPH_KEY_STAT.BUSY ≠ 0 → Effect e.1 s (fun d => x.Sets d [(Reg.CPH_KEY_STAT.IGNORED, 1)])) ∧
      (x.cphUp = true → x.fld Reg.CPH_KEY_STAT.BUSY = 0 → Effect e.1 s (fun d =>
        { x with cph := d.cph }.Sets d [(Reg.CPH_KEY_STAT.BUSY, 1)] ∧
        d.cph = { x.cph with jobs := x.cph.jobs ++
          [{ op := e.2, slot := slot.val, keyIn := if x.cph.jobs = [] then x.keyInput else [], tender := false,
             plain := x.on Reg.CPH_CTRL.PLAIN_EN }] }))) ∧
    (x.cph.jobs = [] → Does .keyCmdDone s x) ∧
    (∀ j r, x.cph.jobs = j :: r → j.tender = false → Effect .keyCmdDone s (fun d =>
      let st := x.keyStatus j
      d.fld Reg.CPH_KEY_STAT.STATUS = st ∧ d.fld Reg.CPH_KEY_STAT.BUSY = 0 ∧ d.fld Reg.CPH_EVT.CMD_DONE = 1 ∧
      d.cph.jobs.length = r.length ∧
      (st ≠ 0 → d.cph.keys = x.cph.keys ∧
        x.SameRegs d [Reg.CPH_KEY_STAT.STATUS, Reg.CPH_KEY_STAT.BUSY, Reg.CPH_EVT.CMD_DONE]) ∧
      (st = 0 → j.op = 4 → d.slotState j.slot = slotValid ∧ d.slotCtr j.slot = 0) ∧
      (st = 0 → j.op = 5 → d.slotState j.slot = slotEmpty) ∧
      ∀ k, st = 0 → 1 ≤ j.op → j.op ≤ 3 → x.inputKey j = some k → d.slotState j.slot = slotValid ∧ d.key j.slot = k ∧
        d.fld (Reg.CPH_SLOT_STAT.SOURCE j.slot) = j.op ∧ d.slotCtr j.slot = 0 ∧ d.fld (Reg.CPH_SLOT_STAT.EXH j.slot) = 0)) ∧
    ∀ j r, x.cph.jobs = j :: r → j.tender = true → Effect .keyCmdDone s (fun d =>
      let n := j.slot / 8
      let k := d.key j.slot
      let kek := d.key (8 * n + 1)
      let due := fun (l : List PloamUp) => (d.act n).due = (x.act n).due ++ l
      d.fld Reg.CPH_EVT.CMD_DONE = 1 ∧ d.cph.jobs.length = r.length ∧
      d.fld Reg.CPH_KEY_STAT.BUSY = x.fld Reg.CPH_KEY_STAT.BUSY ∧ d.fld Reg.CPH_KEY_STAT.STATUS = x.fld Reg.CPH_KEY_STAT.STATUS ∧
      (x.tenderRuns = false → due []) ∧
      (x.keyStatus j ≠ 0 → x.SameRegs d [Reg.CPH_EVT.CMD_DONE] ∧ d.cph.keys = x.cph.keys ∧ (x.tenderRuns = true → due [.ack 1])) ∧
      (x.keyStatus j = 0 → j.op = 4 → d.slotState j.slot = slotValid ∧ d.fld Reg.CPH_EVT.LINE_KEYREC = 1 ∧
        (x.tenderRuns = true → due [.keyReport (j.slot % 8 - 3) (Config.kekWrap kek k) (Config.keyName kek k)])))

/-- No register read depends on a key: two states that differ in their keys alone answer every read alike and still differ in
their keys alone. (spec/05_cipher.md, The key store) -/
def Obligations.ReadsShowNoKey : Prop :=
  ∀ (d : Dev) (keys : Tbl Nat) (m : Master) (a : Nat),
    { d with cph := { d.cph with keys := keys } }.access m a .read =
      { d.access m a .read with cph := { d.cph with keys := keys } } ∧ (d.access m a .read).cph = d.cph

/-- A key switch is armed for a count or a time ahead of now; one of the line that is not ahead is late, but an engine held in
reset takes the bit alone. With the first wagon that leaves the pins at or after its time a riser switch inverts the phase and
empties the old slot, or is late when the new slot holds no key. That a held engine switches nothing (notes/assumptions/28.md)
and that the switches are made with the next command (notes/assumptions/41.md) are the model's readings. (spec/05_cipher.md,
Key_Control on the line; spec/05_cipher.md, Riser GCM) -/
def Obligations.KeySwitches : Prop :=
  ∀ (s : State) (m : Master) (dt : Nat) (n : Fin 4) (v : Word), s.dev.mainUp = true →
    let x := s.dev
    let at_ := x.wide (Reg.CPH_LINE_SW_LO.SFC n) (Reg.CPH_LINE_SW_HI.SFC n)
    let next := (Reg.CPH_LINE_US_CTRL.NEXT_IDX n, bits v.toNat 2 2)
    let late := fun (d : Dev) (f : Fld) => [(f, min (2 ^ f.w - 1) (d.fld f + 1)), (Reg.CPH_EVT.KEY_LATE, 1)]
    let due := x.nearTime (x.fld (Reg.CPH_RSR_SW_SEC.SEC n)) (x.fld (Reg.CPH_RSR_SW_NS.NS n))
    let d0 := x.advance dt
    let now := (d0.wagonTx n {}).time
    let ph := d0.fld (Reg.CPH_RSR_CTRL.TX_PHASE n)
    let new := d0.slotState (riserSlot n 0 (1 - ph))
    (x.cphHere = true → x.cphLineHere = true → x.sfc n < at_ ∨ x.cphUp = false → Effect (.lineKeySwArm m n v) s (fun d =>
      x.Sets d [next, (Reg.CPH_LINE_US_CTRL.SW_ARM n, 1)])) ∧
    (x.cphUp = true → x.cphLineHere = true → at_ ≤ x.sfc n → Effect (.lineKeySwArm m n v) s (fun d =>
      x.Sets d ([next, (Reg.CPH_LINE_US_CTRL.SW_ARM n, 0)] ++ late x (Reg.CPH_LINE_CNT.COUNT n 5)))) ∧
    (x.cphHere = true → x.cphRiserHere = true → Effect (.rsrKeySwArm m n v) s (fun d =>
      { x with cph := { x.cph with rsrAt := Tbl.set x.cph.rsrAt n due } }.Sets d
        [(Reg.CPH_RSR_CTRL.TX_CIPHER n, bits v.toNat 0 1), (Reg.CPH_RSR_CTRL.RX_CIPHER n, bits v.toNat 1 1),
         (Reg.CPH_RSR_CTRL.SW_ARM n, 1)])) ∧
    (d0.rsrDue n now = false → Does (.rsrKeySwitch dt n) s d0) ∧
    (d0.rsrDue n now = true → ph < 2 → new = slotValid → Effect (.rsrKeySwitch dt n) s (fun d =>
      { d0 with cph := d.cph }.Sets d [(Reg.CPH_RSR_CTRL.SW_ARM n, 0), (Reg.CPH_RSR_CTRL.TX_PHASE n, 1 - ph),
        (Reg.CPH_SLOT_STAT.STATE (riserSlot n 0 ph), slotEmpty), (Reg.CPH_SLOT_STAT.SOURCE (riserSlot n 0 ph), 0)] ∧
      d.key (riserSlot n 0 ph) = 0)) ∧
    (d0.rsrDue n now = true → new ≠ slotValid → Effect (.rsrKeySwitch dt n) s (fun d =>
      d0.Sets d ((Reg.CPH_RSR_CTRL.SW_ARM n, 0) :: late d0 (Reg.CPH_RSR_CNT.COUNT n 6))))

/-! ### Passes and tables (spec/06) -/

/-- A command of a table family's command register waits for its end, unless one runs: then it is ignored, and only IGNORED is
set, as with a code that is no command. At its end it acts, on the tables and the data words as they then are. A staging change
is refused while a rejected generation is held or a commit is pending, in a table that does not exist, and at a location that
does not; then nothing changes. A READ shows the version that its view sees with its tags, or zeros; a discard waits until the
rejected generation has retired. A node command that completes shows its status and is no longer busy; a scrub that ends frees
the held generation. That a command has its effect as it completes (notes/assumptions/12.md) and the order of refusals of a
staging command (notes/assumptions/47.md) are the model's readings. (spec/06_classifier.md, Table commands;
spec/06_classifier.md, Generations in the tables) -/
def Obligations.TableCommandsAndRefusals : Prop :=
  (∀ (s : State) (m : Master) (t : Fin 16) (view : Fin 4) (loc : BitVec 18) (lt : BitVec 14), s.dev.mainUp = true →
     s.dev.unit 13 = true → s.dev.unit 14 = true →
     let v := view.val
     let l : List (Instr × Family × TblOp × (Dev → Dev × Nat × Option Nat)) :=
       [(.pclStageWrite m t loc, .pcl, ⟨1, t, loc.toNat, 0⟩, (·.doStageWrite .pcl t loc.toNat)),
        (.pclStageDelete m t loc, .pcl, ⟨2, t, loc.toNat, 0⟩, (·.doStageDelete .pcl t loc.toNat)),
        (.pclStageRevert m t loc, .pcl, ⟨3, t, loc.toNat, 0⟩, (·.doStageRevert .pcl t loc.toNat)),
        (.pclRead m t view loc, .pcl, ⟨4, t, loc.toNat, v⟩, (·.doRead .pcl t loc.toNat v)),
        (.pclReadLoc m t view loc, .pcl, ⟨6, t, loc.toNat, v⟩, (·.doReadLoc .pcl t loc.toNat v)),
        (.pclDiscardRejected m, .pcl, ⟨5, 0, 0, 0⟩, (·.doDiscard .pcl)),
        (.tmgStageWrite m t loc, .tmg, ⟨1, t, loc.toNat, 0⟩, (·.doStageWrite .tmg t loc.toNat)),
        (.tmgStageDelete m t loc, .tmg, ⟨2, t, loc.toNat, 0⟩, (·.doStageDelete .tmg t loc.toNat)),
        (.tmgStageRevert m t loc, .tmg, ⟨3, t, loc.toNat, 0⟩, (·.doStageRevert .tmg t loc.toNat)),
        (.tmgRead m t view loc, .tmg, ⟨4, t, loc.toNat, v⟩, (·.doRead .tmg t loc.toNat v)),
        (.tmgDiscardRejected m, .tmg, ⟨5, 0, 0, 0⟩, (·.doDiscard .tmg)),
        (.ttStageWrite m t lt, .tt, ⟨1, t, lt.toNat, 0⟩, (·.doStageWrite .tt t lt.toNat)),
        (.ttStageDelete m t lt, .tt, ⟨2, t, lt.toNat, 0⟩, (·.doStageDelete .tt t lt.toNat)),
        (.ttStageRevert m t lt, .tt, ⟨3, t, lt.toNat, 0⟩, (·.doStageRevert .tt t lt.toNat)),
        (.ttRead m t view lt, .tt, ⟨4, t, lt.toNat, v⟩, (·.doRead .tt t lt.toNat v)),
        (.ttDiscardRejected m, .tt, ⟨5, 0, 0, 0⟩, (·.doDiscard .tt))]
     ∀ e ∈ l, let x := e.2.1
       let c := e.2.2.1
       (s.dev.fld x.busy ≠ 0 → Effect e.1 s (fun d => s.dev.Sets d [(x.ignored, 1)])) ∧
       (s.dev.fld x.busy = 0 → Effect e.1 s (fun d => (s.dev.setFam x { s.dev.fam x with cmd := some c }).Sets d [(x.busy, 1)])) ∧
       ((s.dev.fam x).cmd = some c → Effect (.tblCmdDone (.family x)) s (fun d => let r := e.2.2.2 s.dev
         d = r.1.tblEnd x r.2.1 r.2.2 ∧ d.fld x.status = r.2.1 % 256 ∧ d.fld x.busy = 0 ∧ (d.fam x).cmd = none ∧
         (d.fam x).locs = (r.1.fam x).locs ∧ (d.fam x).log = (r.1.fam x).log ∧ (x = .tmg → d.fld Reg.TMG_EVT.CMD_DONE = 1) ∧
         (∀ a, x = .pcl → r.2.2 = some a → d.fld Reg.PCL_TBL_STAT.LOC = a % 2 ^ 18) ∧
         (x = .pcl → r.2.1 = stLogFull → d.fld Reg.PCL_GEN_EVT.LOG_FULL = 1) ∧
         r.1.SameRegs d [x.status, x.busy, Reg.PCL_TBL_STAT.LOC, Reg.TMG_EVT.CMD_DONE, Reg.PCL_GEN_EVT.LOG_FULL]))) ∧
  ((∀ (d : Dev) (x : Family) (t loc : Nat),
     let pend := d.on Reg.PCL_GEN_STAT.COMMIT_PENDING
     let held := d.fld x.heldKind = 2 ∨ d.on Reg.GEN_STAT.STAGE_OPEN = false
     let key := x = .pcl ∧ (t = 4 ∨ t = 5)
     let ops : List (Dev × Nat × Option Nat) := [d.doStageWrite x t loc, d.doStageDelete x t loc, d.doStageRevert x t loc]
     (held → ∀ e ∈ ops, e = (d, stRejHeld, none)) ∧ (¬ held → pend = true → ∀ e ∈ ops, e = (d, stCommitPending, none)) ∧
     (¬ held → pend = false → x.size t = 0 → ∀ e ∈ ops, e = (d, stBadTable, none)) ∧
     (¬ held → pend = false → x.size t ≠ 0 → ¬ key → x.locOk t loc = false → ∀ e ∈ ops, e = (d, stBadLoc, none)) ∧
     (∀ l view, d.target x t loc false = .inl l →
       (d.viewed x t l view = none → (d.doRead x t loc view).2 = (stNotFound, keyLoc x t l) ∧
         ∀ i < x.words, (d.doRead x t loc view).1.fld (x.word i) = 0) ∧
       ∀ v, d.viewed x t l view = some v → v.data.length < x.words → (d.doRead x t loc view).2 = (stOk, keyLoc x t l) ∧
         (d.doRead x t loc view).1.fld (x.word (x.words - 1)) = v.tagWord % 2 ^ 32 ∧
         ∀ i < v.data.length, (d.doRead x t loc view).1.fld (x.word i) = v.data.getD i 0 % 2 ^ 32) ∧
     (pend = true → d.doDiscard x = (d, if d.on Reg.GEN_STAT.STAGE_OPEN = true then stCommitPending else stRejHeld, none)) ∧
     (pend = false → d.fld x.heldKind ≠ 2 ∨ d.on Reg.PCL_GEN_STAT.PREV_RETIRED = false → d.doDiscard x = (d, stDraining, none)) ∧
     (pend = false → d.fld x.heldKind = 2 → d.on Reg.PCL_GEN_STAT.PREV_RETIRED = true → (d.doDiscard x).2 = (stOk, none) ∧
       (d.doDiscard x).1.fld x.heldKind = 0 ∧ ((d.doDiscard x).1.fam x).held = [] ∧ d.SameRegs (d.doDiscard x).1 [x.heldKind])) ∧
   (∀ (s : State) (x : Family), s.dev.mainUp = true →
     ((s.dev.fam x).cmd = none → Does (.tblCmdDone (.family x)) s s.dev) ∧
     (s.dev.tm.nodeCmd = none → Does (.tblCmdDone .node) s s.dev) ∧
     (∀ st v, s.dev.tm.nodeCmd = some (st, some v) → Effect (.tblCmdDone .node) s (fun d =>
       { s.dev with tm := { s.dev.tm with nodeCmd := none } }.Sets d [(Reg.TMG_NODE_STAT.STATUS, st % 256),
         (Reg.TMG_NODE_STAT.BUSY, 0), (Reg.TMG_EVT.CMD_DONE, 1), (Reg.TMG_NODE_DATA_LO.LEVEL, unsigned 41 v % 2 ^ 32),
         (Reg.TMG_NODE_DATA_HI.LEVEL, unsigned 41 v / 2 ^ 32)])) ∧
     (∀ st, s.dev.tm.nodeCmd = some (st, none) → Effect (.tblCmdDone .node) s (fun d =>
       { s.dev with tm := { s.dev.tm with nodeCmd := none } }.Sets d [(Reg.TMG_NODE_STAT.STATUS, st % 256),
         (Reg.TMG_NODE_STAT.BUSY, 0), (Reg.TMG_EVT.CMD_DONE, 1)])) ∧
     (s.dev.on x.scrubbing = true → Effect (.scrubDone x) s (fun d => d.fld x.heldKind = 0 ∧ d.fld x.scrubbing = 0 ∧
       (d.fam x).held = [] ∧ (x = .pcl → d.fld Reg.PCL_GEN_EVT.SCRUB_DONE = 1) ∧ (x = .tmg → d.fld Reg.TMG_EVT.SCRUB_DONE = 1) ∧
       ((∀ y : Family, y ≠ x → s.dev.fld y.heldKind = 0) → s.dev.fld Reg.GEN_STAT.HELD_KIND = 1 →
         d.fld Reg.GEN_STAT.HELD_KIND = 0))) ∧
     (s.dev.on x.scrubbing = false →
       (s.dev.fld Reg.GEN_STAT.HELD_KIND = 1 → (∀ y : Family, s.dev.fld y.heldKind = 0) →
         Does (.scrubDone x) s (s.dev.put Reg.GEN_STAT.HELD_KIND 0)) ∧
       (s.dev.fld Reg.GEN_STAT.HELD_KIND ≠ 1 ∨ (∃ y : Family, s.dev.fld y.heldKind ≠ 0) → Does (.scrubDone x) s s.dev))))

/-- Staging never changes what the active generation sees at any location of any table, while the staging tag lies ahead of the
active one; and a location that a STAGE_WRITE reaches shows the staging generation the data written, and is in the log. That
holds too at an occupied location, whose version of the staging generation is replaced, and whose older version is kept, in the
form that the staging operations keep: there versions of the staging generation are open, what that generation sees is its own
or the active one's, its own alone where it has one, and what ends with it is the active one's. That a staging command acts as
it completes is the model's reading (notes/assumptions/12.md). (spec/06_classifier.md, Generations in the tables;
spec/13_config_generations.md, Staging and validation) -/
def Obligations.StagingIsInvisible : Prop :=
  (∀ (d : Dev) (x y : Family) (t loc u l : Nat), 0 < rel d.actTag d.stgTag →
    let act := d.actTag
    let stg := d.stgTag
    let old := (d.fam x).at (locKey t l)
    let own : Ver → Prop := fun v => v.isStaged stg = true
    let sound : List Ver → Prop := fun vs =>
      (∀ v ∈ vs, own v → v.uv = false) ∧ (∀ v ∈ vs, v.visible act stg = true → own v ∨ v.visible act act = true) ∧
      ((∃ v ∈ vs, own v) → ∀ v ∈ vs, v.visible act stg = true → own v) ∧
      ∀ v ∈ vs, v.endsAt stg = true → v.visible act act = true
    (∀ e ∈ [d.doStageWrite x t loc, d.doStageDelete x t loc, d.doStageRevert x t loc],
      e.1.lookAct y u l = d.lookAct y u l ∧ e.1.regs = d.regs ∧
      ((∀ k, sound ((d.fam y).at k)) → ∀ k, sound ((e.1.fam y).at k))) ∧
    (∀ e r, d.doStageWrite x t loc = (e, stOk, r) → d.target x t loc true = .inl l →
      let now := (e.fam x).at (locKey t l)
      Tbl.get (e.fam x).log (locKey t l) 0 = d.gen.seq ∧ e.lookAct x t l = d.lookAct x t l ∧
      (old = [] → now.map (·.data) = [d.stageData x t l] ∧ e.lookAct x t l = none) ∧
      ((∃ v ∈ old, own v) → now = old.map (fun v => if v.isStaged stg then { v with data := d.stageData x t l } else v)) ∧
      ((∀ v ∈ old, ¬ own v) → now.map (·.data) = old.map (·.data) ++ [d.stageData x t l] ∧
        now.map (·.fromTag) = old.map (·.fromTag) ++ [stg]) ∧
      (sound old → e.look x t l stg = some (d.stageData x t l))))

/-- A pass ends with the oldest frame of its slice, counted by whether it is a second pass; a frame that failed is dropped, and
a malformed one or one parsed too deep is dropped, trapped or classified as the global table says (bytes of a frame that have
not come yet are free values: notes/assumptions/57.md). A gated slice ends none. The disposition drops, drops a second
recirculation or what has no flow, charges the policer once, and traps, recirculates, copies or forwards; a frame returns from
recirculation edited, or is dropped when it has waited too long. What FRAG counts under MALF_ACT 0, the header limit of a second
pass and a padded host frame's end (notes/assumptions/57.md), the class of a frame without one (notes/assumptions/52.md) and a
gated slice's standing pass (notes/assumptions/47.md) are the model's readings. (spec/06_classifier.md, The ingress pass;
spec/06_classifier.md, Recirculation) -/
def Obligations.PassesAndRecirculation : Prop :=
  (∀ (s : State) (dt : Nat) (k : Fin 4), s.dev.mainUp = true →
    let d0 := s.dev.advance dt
    let x := s.dev.slice k
    (bitOf d0.wake.off k = true ∨ (d0.slice k).passes = [] → Does (.ingressPassEnd dt k) s d0) ∧
    (∀ f r, bitOf d0.wake.off k = false → (d0.slice k).passes = f :: r →
      let first := f.second = false
      let e1 := (d0.setSlice k { d0.slice k with passes := r }).pclCnt k (if first then 0 else 1)
      let more := min 320 (f.total - 4) - f.data.length
      let d1 := if f.failed = true then e1 else { e1 with freeCtr := e1.freeCtr + more }
      let pr := ({ f with data := f.data ++ (List.range more).map (fun i => BitVec.ofNat 8 (Config.free (e1.freeCtr + i))) }).parse
        (d1.parseOpt f.tag)
      let g := ((d1.look .pcl 9 4 f.tag).map (fun w => w.getD 0 0)).getD 4
      let frag := first ∧ (pr.1.fragFirst = true ∨ pr.1.fragLater = true)
      let d2 := if frag then d1.pclCnt k 4 else d1
      let d3 := if first ∧ pr.1.malformed = true then d2.pclCnt k 3 else d2
      let e := if first ∧ pr.1.deep = true ∧ pr.1.malformed = false then d3.pclCnt k 2 else d3
      let act := if pr.1.malformed = true then bits g 2 2 else if pr.1.deep = true then g % 4 else 0
      (f.failed = true → Does (.ingressPassEnd dt k) s (d1.flightOut f.tag)) ∧
      (f.failed = false →
        (act = 0 → Does (.ingressPassEnd dt k) s (e.classify f (if bits g 2 2 = 0 then pr.1.forKeys pr.2 else pr.1))) ∧
        (act = 2 → Does (.ingressPassEnd dt k) s ((e.trap f (bits g 4 8) 1).flightOut f.tag)) ∧
        (act ≠ 0 → act ≠ 2 → Does (.ingressPassEnd dt k) s (e.flightOut f.tag)))) ∧
    (bitOf s.dev.wake.off k = true ∨ x.rqOut = [] → Does (.recircReturn k) s s.dev.hostPorts) ∧
    (∀ f r, bitOf s.dev.wake.off k = false → x.rqOut = f :: r →
      let e := (s.dev.editOut f).1
      (∀ b, (s.dev.editOut f).2 = some b → Does (.recircReturn k) s
        (e.setSlice k { x with rqOut := r, rqBack := x.rqBack ++ [{ f with
          data := b, edit := none, total := if f.total = 0 then 0 else f.total + b.length - f.data.length }] }).hostPorts) ∧
      ((s.dev.editOut f).2 = none → Does (.recircReturn k) s
        (((e.release f).setSlice k { x with rqOut := r }).flightOut f.tag).hostPorts)) ∧
    (x.rqBack = [] → x.rqOut = [] → Does (.recircTimeout k) s s.dev.hostPorts) ∧
    (∀ f r, x.rqBack = [] → x.rqOut = f :: r → Does (.recircTimeout k) s
      ((((s.dev.setSlice k { x with rqOut := r }).release f).pclCnt k 11).flightOut f.tag).hostPorts) ∧
    ∀ f r, x.rqBack = f :: r → Does (.recircTimeout k) s
      ((((s.dev.setSlice k { x with rqBack := r }).release f).pclCnt k 11).flightOut f.tag).hostPorts) ∧
  ∀ (d : Dev) (f : Frame) (r : Res),
    let out := fun (e : Dev) => e.flightOut f.tag
    let tc := r.tc.or f.hdrTc
    let g := fun (c : Nat) (p : Option Nat) => { f with
      colour := c, polDone := p, tc := tc, cls := d.classOf tc r.flow f, flow := r.flow, edit := r.edit, metaV := r.metaV }
    let copy := fun (e : Dev) (h : Frame) => if r.disp = 3 then e.trap h r.ring 2 else e
    let goes := fun (e : Dev) (h : Frame) =>
      if r.disp = 2 then out (e.trap h r.ring 1)
      else if r.disp = 4 then e.recirculate { h with born := e.core } r.rslice
      else match r.flow with
        | some fl => out ((copy e h).enqueue h fl r.sub)
        | none => out ((copy e h).pclCnt f.slice 5)
    let live := ¬ (r.disp = 1 ∨ 5 ≤ r.disp) ∧ ¬ (r.disp = 4 ∧ f.second = true) ∧ ¬ (r.disp = 0 ∧ r.flow = none)
    let pre := r.colour.getD (f.hdrColour.getD 0)
    (r.disp = 1 ∨ 5 ≤ r.disp → d.dispose f r = out (d.pclCnt f.slice 7)) ∧
    (r.disp = 4 → f.second = true → d.dispose f r = out (d.pclCnt f.slice 12)) ∧
    (r.disp = 0 → r.flow = none → d.dispose f r = out (d.pclCnt f.slice 5)) ∧
    (live → (∀ i, r.pol = some i → d.polRuns i = false) →
      d.dispose f r = goes d (g (if f.polDone.isSome then f.colour else pre) f.polDone)) ∧
    ∀ i, live → r.pol = some i → d.polRuns i = true →
      (f.polDone = some i → d.dispose f r = goes d (g f.colour (some i))) ∧
      (f.polDone ≠ some i →
        let e := d.police i f.fullLen pre f.tag
        let red := e.2 = 2 ∧ bitOf (wordOf (d.look .pcl 7 i f.tag) 0) 3 = false
        (red → d.dispose f r = out (let h := e.1.pclCnt f.slice 9
          if r.disp = 3 ∧ r.flow = none then h.pclCnt f.slice 5 else h)) ∧
        (¬ red → d.dispose f r = goes e.1 (g e.2 (some i))))

/-! ### The traffic manager (spec/07) -/

/-- A refill adds RATE times the interval to an enabled bucket, up to its BURST; the first enable fills it. BUCKET_RESET fills a
bucket, READ_LEVEL reads it, and a flush drops and counts every frame of a queue; while a node command runs another is ignored.
The effect is taken at the write and the status at the completion (notes/assumptions/12.md). (spec/07_traffic.md, Token buckets;
spec/07_traffic.md, Queues, nodes and transit) -/
def Obligations.BucketsAndNodeCommands : Prop :=
  ∀ (s : State) (m : Master) (level : Fin 4) (b : Fin 8) (i q : BitVec 16), s.dev.mainUp = true → s.dev.unit 14 = true →
    let key := bktKey level i.toNat
    let x := s.dev.bkt key
    let c := s.dev.bktCfg level i.toNat
    let runs := fun (d : Dev) (r : Nat × Option Int) (e : Dev) =>
      { d with tm := { d.tm with nodeCmd := some r } }.Sets e [(Reg.TMG_NODE_STAT.BUSY, 1)]
    (bktNamed level i.toNat = none → Does (.bucketRefill level i) s s.dev) ∧
    ((bktNamed level i.toNat).isSome = true → Effect (.bucketRefill level i) s (fun d =>
      d.bkt key = { rate := c.1, burst := c.2.1, en := c.2.2, started := x.started || c.2.2
                    level := if c.2.2 = false then x.level else if x.started = false then (c.2.1 * 8000 : Nat)
                      else min (c.2.1 * 8000 : Nat) (x.level + (c.1 * bktInterval level : Nat)) } ∧
      (∀ j, j ≠ key → d.bkt j = s.dev.bkt j) ∧ { d with tm := { d.tm with bkts := s.dev.tm.bkts } } = s.dev)) ∧
    (s.dev.fld Reg.TMG_NODE_STAT.BUSY ≠ 0 → ∀ e ∈ [Instr.bucketReset m b i, .queueFlush m q, .readLevel m b i],
      Effect e s (fun d => s.dev.Sets d [(Reg.TMG_NODE_STAT.IGNORED, 1)])) ∧
    (s.dev.fld Reg.TMG_NODE_STAT.BUSY = 0 →
      (bktNamed b i.toNat = none → Effect (.bucketReset m b i) s (runs s.dev (stBadLoc, none)) ∧
        Effect (.readLevel m b i) s (runs s.dev (stBadLoc, none))) ∧
      (∀ k, bktNamed b i.toNat = some k →
        Effect (.bucketReset m b i) s (runs (s.dev.setBkt k { s.dev.bkt k with level := ((s.dev.bkt k).burst * 8000 : Nat) }) (stOk, none)) ∧
        Effect (.readLevel m b i) s (runs s.dev (stOk, some (s.dev.bkt k).level))) ∧
      Effect (.queueFlush m q) s (fun d => let y := s.dev.queue q.toNat
        d.queue q.toNat = { y with ondie := [], siding := [], spill := false, deficit := 0 } ∧
        (y.ondie ++ y.siding ≠ [] → d.fld (Reg.TMG_QCNT.COUNT q.toNat 7) =
          min (2 ^ 32 - 1) (s.dev.fld (Reg.TMG_QCNT.COUNT q.toNat 7) + (y.ondie ++ y.siding).length)) ∧
        s.dev.SameRegs d [Reg.TMG_NODE_STAT.BUSY, Reg.TMG_QCNT.COUNT q.toNat 7]))

/-- The guarantee pool and the Siding take their configuration by a write; the Siding goes out of use when no queue spills. Its
oldest frames are read through the DRAM controller and return on-die while there is room, or are dropped and counted when they
cannot be read. A T-CONT's counts are forwarded, and read together. When the Siding goes out of use (notes/assumptions/19.md),
which cells it takes (notes/assumptions/29.md) and which frames a bad cell fails (notes/assumptions/51.md) are the model's
readings. (spec/07_traffic.md, Buffer admission; spec/07_traffic.md, The Siding; spec/07_traffic.md, T-CONTs and the
Coachbuilder) -/
def Obligations.BufferAndSiding : Prop :=
  ∀ (s : State) (m : Master) (v : Word) (q : BitVec 16) (lost : Nat) (t : Fin 512), s.dev.mainUp = true → s.dev.unit 14 = true →
    let x := s.dev
    let y := x.queue q.toNat
    let cfg := [(Reg.TMG_SIDING_CFG.SIDING_CELLS, v.toNat % 2 ^ 27), (Reg.TMG_SIDING_CFG.EN, bits v.toNat 27 1)]
    let off := { x with tm := { x.tm with sidingOn := false } }
    let size := min (v.toNat % 2 ^ 27) ((x.region 0).2 * 4096)
    let o := Tbl.get x.tm.occ t {}
    Effect (.bufCfgWrite m v) s (fun d => x.Sets d [(Reg.TMG_BUF_CFG.GUAR_CELLS, v.toNat % 2 ^ 19)]) ∧
    (x.sidingHere = true →
      (bits v.toNat 27 1 = 1 → x.tm.sidingOn = false → Effect (.sidingCfgWrite m v) s (fun d =>
        { x with tm := { x.tm with sidingOn := true, sidingSize := size } }.Sets d cfg)) ∧
      (bits v.toNat 27 1 = 1 → x.tm.sidingOn = true → Effect (.sidingCfgWrite m v) s (fun d => x.Sets d cfg)) ∧
      (bits v.toNat 27 1 = 0 → Effect (.sidingCfgWrite m v) s (fun d =>
        (if x.tm.sidingOn = true ∧ x.spilling = false then off else x).Sets d cfg))) ∧
    Does .sidingDisableApply s (if x.tm.sidingOn = true ∧ x.on Reg.TMG_SIDING_CFG.EN = false ∧ x.spilling = false then off else x) ∧
    (y.siding = [] ∨ y.spill = false ∨ 32768 ≤ q.toNat ∨ cellsOf (x.admCfg (x.profOf q.toNat) 4) ≤ y.cells ∨ x.sharedFree < 1024 → Does (.sidingReturn q) s x) ∧
    (∀ f, y.siding = [f] → y.spill = true → q.toNat < 32768 → f.pool = .siding →
      y.cells < cellsOf (x.admCfg (x.profOf q.toNat) 4) → 1024 ≤ x.sharedFree → Effect (.sidingReturn q) s (fun d =>
        d.queue q.toNat = { y with siding := [], spill := false,
                                   ondie := y.ondie ++ [{ f with
            cells := cellsFor f.fullLen, pool := .shared, home := none, stage := x.tm.stageNo, cellsAt := [] }] } ∧
        d.tm.sidingUsed = x.tm.sidingUsed - f.cells ∧ d.tm.sharedUsed = x.tm.sharedUsed + cellsFor f.fullLen ∧
        d.tm.sidingCells = x.tm.sidingCells.filter (fun i => i ∉ f.cellsAt) ∧
        let read := f.cellsAt.foldl (fun (e : Dev) i => e.dmcAsk 2 ((x.region 0).1 * 2 ^ 20 + 256 * i) 256 none 0) x
        d.regs = read.regs ∧ d.dram = read.dram ∧ d.out = read.out)) ∧
    Effect (.sidingReadDone q lost) s (fun d => let n := (y.siding.take lost).length
      (d.queue q.toNat).siding = y.siding.drop lost ∧ (d.queue q.toNat).ondie = y.ondie ∧
      (n ≠ 0 → d.fld (Reg.TMG_QCNT.COUNT q.toNat 6) = min (2 ^ 32 - 1) (x.fld (Reg.TMG_QCNT.COUNT q.toNat 6) + n)) ∧
      d.fld (Reg.TMG_CNT.COUNT 6) = min (2 ^ 32 - 1) (x.fld (Reg.TMG_CNT.COUNT 6) + n) ∧
      (n ≠ 0 → d.fld Reg.TMG_EVT.SIDING_ECC = 1)) ∧
    Does (.tcontOccUpdate t) s { x with tm := { x.tm with occ := Tbl.set x.tm.occ t (x.tcontNow t) } } ∧
    (x.coachHere = true → Effect (.tcontOccRead m t) s (fun d => d.regs = x.regs ∧
      d.out = .busRead m (Reg.TMG_TCONT_OCC.ADR t 0) (BitVec.ofNat 32 o.ondie) :: x.out ∧
      Tbl.get d.latch (Reg.TMG_TCONT_OCC.ADR t 1) 0 = o.siding % 2 ^ 32 ∧ Tbl.get d.latch (Reg.TMG_TCONT_OCC.ADR t 2) 0 = o.frames % 2 ^ 32))

/-! ### Subscriber ports (spec/08) -/

/-- MODE changes only while the lane is not enabled; otherwise a different MODE is refused with its event. Each mode has its
latencies while enabled. A port comes up when its condition holds, with the mode's speed, and goes down when it does not, with
its frame in transmission cut off; an in-band word counts only in block lock. A frame received on a port that is up and receives
is checked in this order, and counted by the first check that it fails: code error (one that the elastic store or a sleeping
receiver makes among them), FCS, too short, too long; a MAC control frame is not forwarded; any other counts and enters the
input buffer. The elastic store deletes or inserts an idle unit at the gap, and overflows or empties inside a frame. Which
formats a received frame is checked against (notes/assumptions/46.md), that frames come whole (notes/assumptions/40.md), losses
of a sleeping receiver and LPI_RX (notes/assumptions/54.md), a frame's stamp (notes/assumptions/27.md) and frames that a sleep
cuts (notes/assumptions/47.md) are the model's readings. (spec/08_subscriber_ports.md, Lane modes and ports;
spec/08_subscriber_ports.md, Reception; spec/08_subscriber_ports.md, Counters) -/
def Obligations.LanesLinkAndReception : Prop :=
  (∀ (s : State) (m : Master) (n : Fin 112) (j : Fin 4) (v : Word) (rate : Nat), s.dev.mainUp = true →
     let x := s.dev
     let p := 4 * n.val + j
     let y := x.mac p
     let was := x.fld (Reg.SM_LANE_CTRL.LANE_EN n)
     let en := bits v.toNat 3 1
     let link := Reg.SM_PORT_STAT.LINK n j
     (x.slHere n = true →
       (was = 0 → Effect (.laneCtrlWrite m n v) s (fun d => d.laneMode n = v.toNat % 8 ∧ d.fld (Reg.SM_LANE_CTRL.LANE_EN n) = en ∧
         d.fld (Reg.SL_PHY_LAT.RX_LAT n) = (if en = 1 then (phyLat (v.toNat % 8)).1 else 0) ∧
         d.fld (Reg.SL_PHY_LAT.TX_LAT n) = (if en = 1 then (phyLat (v.toNat % 8)).2 else 0))) ∧
       (was ≠ 0 → Effect (.laneCtrlWrite m n v) s (fun d => d.laneMode n = x.laneMode n ∧ d.fld (Reg.SM_LANE_CTRL.LANE_EN n) = en ∧
         (v.toNat % 8 ≠ x.laneMode n → d.fld (Reg.SM_LANE_EVT.MODE_REJ n) = 1) ∧
         (en = 0 → ∀ i < 4, (d.mac (4 * n + i)).tx = none ∧ d.fld (Reg.SM_PORT_STAT.LINK n i) = 0)))) ∧
     (x.portShouldUp n j = true → x.fld link = 0 → Effect (.portLinkChange n j) s (fun d => d.fld link = 1 ∧
       d.fld (Reg.SM_PORT_STAT.SPEED n j) = speedCode (x.portMbps n j) ∧ d.fld (Reg.SM_PORT_EVT.LINK_CHG n j) = 1 ∧ d.macs = x.macs)) ∧
     (x.portShouldUp n j = false → x.fld link ≠ 0 → Effect (.portLinkChange n j) s (fun d => d.fld link = 0 ∧
       d.fld (Reg.SM_PORT_STAT.SPEED n j) = 7 ∧ d.fld (Reg.SM_PORT_EVT.LINK_CHG n j) = 1 ∧ (d.mac p).tx = none ∧
       (d.mac p).waiting = none ∧ (d.mac p).due = [] ∧ (d.mac p).free = x.nowPs ∧
       d.fld (Reg.SM_PORT_STAT.LPI_TX n j) = 0 ∧ d.fld (Reg.SM_PORT_STAT.LPI_RX n j) = 0 ∧
       (∀ t, y.tx = some t →
         d.out = (if t.cut then [] else [.portTx p (t.data.take (x.sentSoFar p t)) false]) ++ x.out) ∧ (y.tx = none → d.out = x.out))) ∧
     (x.portShouldUp n j = x.portUp n j → Effect (.portLinkChange n j) s (fun d =>
       x.SameRegs d [Reg.SM_PORT_STAT.LINK_UNSUP n j, Reg.SM_PORT_STAT.SPEED n j] ∧ { d with regs := x.regs } = x ∧
       (x.portUp n j = true → d.fld (Reg.SM_PORT_STAT.SPEED n j) = speedCode (x.portMbps n j)))) ∧
     (x.slHere n = true ∧ (x.laneMode n = 4 ∨ x.laneMode n = 5) ∧ x.on (Reg.SL_STAT.SYNC n) = true →
       Effect (.inbandWordChange n j rate) s (fun d => (d.mac p).inband = some rate ∧
         d.fld (Reg.SM_PORT_STAT.LINK_UNSUP n j) = bit (decide (rate ≠ 0) && !inbandOk (x.laneMode n) rate))) ∧
     (x.slHere n = false ∨ (x.laneMode n ≠ 4 ∧ x.laneMode n ≠ 5) ∨ x.on (Reg.SL_STAT.SYNC n) = false →
       Does (.inbandWordChange n j rate) s x)) ∧
  ((∀ (s : State) (dt : Nat) (n : Fin 112) (j : Fin 4) (b : List Byte) (err : Bool) (rm : RateMatch) (st : Strobe),
     s.dev.mainUp = true →
     let d0 := s.dev.advance dt
     let r := d0.rateMatch n j rm
     let e := r.1
     let x := b.take (b.length - 4)
     let p := 4 * n.val + j
     let rx := Instr.macFrameRx dt n j b err rm st
     let bad := b.length < 4 ∨ fcs x ≠ b.drop (b.length - 4)
     let on := e.portUp n j = true ∧ e.on (Reg.SM_PORT_CTRL.RX_EN n j) = true
     let code := err = true ∨ r.2 = true ∨ e.on (Reg.SL_STAT.RX_ASLEEP n) = true
     let m := e.laneMode n
     (d0.slHere n = false → Does rx s d0) ∧
     (d0.slHere n = true → ¬ on → Does rx s e) ∧
     (d0.slHere n = true → on → (code → Does rx s (e.smCnt n j 7)) ∧ (¬ code → bad → Does rx s (e.smCnt n j 8)) ∧
       (¬ code → ¬ bad → b.length < 64 → Does rx s (e.smCnt n j 9)) ∧
       (¬ code → ¬ bad → 64 ≤ b.length → e.maxFrame n j < b.length → Does rx s (e.smCnt n j 10)) ∧
       (¬ code → ¬ bad → 64 ≤ b.length → b.length ≤ e.maxFrame n j → beAt x 12 2 = 0x8808 → Does rx s (e.rxControl n j x)) ∧
       (¬ code → ¬ bad → 64 ≤ b.length → b.length ≤ e.maxFrame n j → beAt x 12 2 ≠ 0x8808 →
         Does rx s ((e.castCount n j 0 x).arrive
           { data := x, srcKind := 0, inPort := e.devAddr * 512 + p, localIn := p, slice := sliceOf p
             stamp := e.stampRx st (3600 * psU) ((phyLat m).1 * 100 * psU) (modeUi m) p })))) ∧
   (∀ (d : Dev) (n : Fin 112) (j : Fin 4) (x : RateMatch),
     let p := 4 * n.val + j
     let u : Int := (modeCoding (d.laneMode n)).idleBytes
     let f0 := (d.mac p).fill + x.drift
     let del := 40 < f0 ∧ 2 ≤ x.gap
     let f := (if del then f0 - u else if f0 < 24 then f0 + u else f0) + x.inside
     let lost := f ≤ 0 ∨ 64 < f
     let e := (d.rateMatch n j x).1
     let plus := fun (c : Nat) => e.fld (Reg.SL_CNT.COUNT n c) =
       min (2 ^ (Reg.SL_CNT.COUNT n c).w - 1) (d.fld (Reg.SL_CNT.COUNT n c) + 1)
     ((d.rateMatch n j x).2 = true ↔ lost) ∧ (e.mac p).fill = (if lost then 32 else f) ∧ (del → plus 1) ∧
     (¬ del → f0 < 24 → plus 0) ∧ (lost → plus 2 ∧ e.fld (Reg.SL_EVT.RM_OVF n) = 1) ∧
     d.SameRegs e ((if del then [Reg.SL_CNT.COUNT n 1] else if f0 < 24 then [Reg.SL_CNT.COUNT n 0] else []) ++
       if lost then [Reg.SL_CNT.COUNT n 2, Reg.SL_EVT.RM_OVF n] else [])) ∧
   ∀ (d : Dev) (n : Fin 112) (j : Fin 4) (c k : Nat), c < 32 →
     (d.smCount n j c k).wide (Reg.SM_CNT_LO.COUNT n j c) (Reg.SM_CNT_HI.COUNT n j c) =
       min (2 ^ 48 - 1) (d.wide (Reg.SM_CNT_LO.COUNT n j c) (Reg.SM_CNT_HI.COUNT n j c) + k) ∧
     d.SameRegs (d.smCount n j c k) [Reg.SM_CNT_LO.COUNT n j c, Reg.SM_CNT_HI.COUNT n j c])

/-- Pause: a PAUSE frame for this port runs its timer of the quanta given, a PFC frame those of its enabled priorities, 0
releases; PAUSED shows the classes that a running timer pauses, and an expired timer releases its own. A watched count that
stays above its threshold is sent again when its own refresh falls due, one frame for those due together, and nothing where none
is. Transmission: a port asks its node only when it may; the frame taken starts when its time, the gap before it and the amount
held allow, a control frame ahead of it, padded to 60 bytes, and one delayed past its time goes back to its queue if a pause or
a gate stops it; it ends with its FCS, or stomped, and the next control frame follows; an underrun raises the cut-through
amount; a gate that was shut at any time since the frame's start, as the time then ran, is counted; a frame whose lane fell
asleep sends no more of it (notes/assumptions/47.md: the model's reading). A gated slice takes no frame. Gates and low-power
idle follow their conditions. The quanta of a pause, control frames against low-power idle (notes/assumptions/54.md), a frame
continued as its bytes come (notes/assumptions/40.md), EDIT_OVERSIZE without TX_OVERSIZE (notes/assumptions/47.md) and the
frames' effects with the next command (notes/assumptions/42.md) are the model's readings. (spec/08_subscriber_ports.md, PAUSE
and priority flow control; spec/08_subscriber_ports.md, Transmission; spec/08_subscriber_ports.md, Scheduled traffic;
spec/08_subscriber_ports.md, Energy-efficient idle) -/
def Obligations.FlowControlAndTransmission : Prop :=
  ((∀ (s : State) (dt : Nat) (n : Fin 112) (j : Fin 4) (timers : BitVec 9), s.dev.mainUp = true →
     let d0 := s.dev.advance dt
     let p := 4 * n.val + j
     let x := d0.mac p
     let up := (d0.fcWatched n j).filter (fun i => bitOf x.above i && decide (Tbl.get x.refresh i d0.nowPs ≤ d0.nowPs))
     let again := max 1 (d0.fld (Reg.SM_FC_REFRESH.REFRESH n j)) * 64 * bytePs (d0.fld (Reg.SM_PORT_STAT.SPEED n j))
     let later := up.foldl (fun t i => Tbl.set t i (Tbl.get x.refresh i d0.nowPs + again)) x.refresh
     let q := d0.fld (Reg.SM_FC_CTRL.TX_QUANTA n j)
     let b := if d0.fcMode n j = 1 then pauseFrame (d0.macAddr n j) q
       else pfcFrame (d0.macAddr n j) ((up.map (2 ^ ·)).sum) (fun i => if i ∈ up then q else 0)
     let lpi := Reg.SM_PORT_STAT.LPI_TX n j
     let left := fun (k : Nat) => if bitOf timers.toNat k = true then 0 else Tbl.get (s.dev.mac p).pause k 0
     Effect (.pauseTimerExpiry n j timers) s (fun d => s.dev.SameRegs d [Reg.SM_PORT_STAT.PAUSED n j] ∧
       (∀ k < 9, Tbl.get (d.mac p).pause k 0 = left k) ∧
       ∀ k < 8, bitOf (d.fld (Reg.SM_PORT_STAT.PAUSED n j)) k = (decide (left 8 ≠ 0) || decide (left k ≠ 0))) ∧
     (up = [] → Does (.fcRefreshExpiry dt n j) s d0) ∧
     (up ≠ [] → d0.portUp n j = false → Does (.fcRefreshExpiry dt n j) s (d0.setMac p { x with refresh := later })) ∧
     (up ≠ [] → d0.portUp n j = true →
       (x.tx ≠ none ∨ d0.on (Reg.SL_STAT.TX_ASLEEP n) = true → Effect (.fcRefreshExpiry dt n j) s (fun d =>
         d.mac p = { x with due := x.due ++ [b], refresh := later } ∧ d0.Regs d [(lpi, 0)])) ∧
       (x.tx = none → x.due = [] → d0.on (Reg.SL_STAT.TX_ASLEEP n) = false → Effect (.fcRefreshExpiry dt n j) s (fun d =>
         (d.mac p).tx = some { data := b, start := max d0.nowPs x.free, ctl := true, gateFrom := max d0.nowPs x.free } ∧
         (d.mac p).due = [] ∧ (d.mac p).refresh = later ∧ d0.Regs d [(lpi, 0)])))) ∧
   ∀ (d : Dev) (n : Fin 112) (j : Fin 4) (b : List Byte),
     let p := 4 * n.val + j
     let e := d.rxControl n j b
     let quantum := 64 * bytePs (d.fld (Reg.SM_PORT_STAT.SPEED n j))
     let until_ := fun (q : Nat) => if q = 0 then 0 else d.nowPs + q * quantum
     let mine := beAt b 0 6 = 0x0180C2000001 ∨ beAt b 0 6 = d.macAddr n j
     let was := fun (k : Nat) => Tbl.get (d.mac p).pause k 0
     let now := fun (k : Nat) => Tbl.get (e.mac p).pause k 0
     let pause := mine ∧ d.fcMode n j = 1 ∧ beAt b 14 2 = 1
     let pfc := mine ∧ d.fcMode n j = 2 ∧ beAt b 14 2 = 0x101
     let on := fun (k : Nat) => bitOf (beAt b 16 2) k = true ∧ bitOf (d.fld (Reg.SM_FC_CTRL.PFC_RX_EN n j)) k = true
     (pause → now 8 = until_ (beAt b 16 2) ∧ ∀ k < 8, now k = was k) ∧
     (pfc → now 8 = was 8 ∧ ∀ k < 8, (on k → now k = until_ (beAt b (18 + 2 * k) 2)) ∧ (¬ on k → now k = was k)) ∧
     (pause ∨ pfc → ∀ k < 8, bitOf (e.fld (Reg.SM_PORT_STAT.PAUSED n j)) k = (decide (now 8 ≠ 0) || decide (now k ≠ 0))) ∧
     (¬ pause → ¬ pfc → e = d.smCnt n j 6)) ∧
  ((∀ (s : State) (dt : Nat) (n : Fin 112) (j : Fin 4), s.dev.mainUp = true →
     let d0 := s.dev.advance dt
     let p := 4 * n.val + j
     let x := d0.mac p
     let up := d0.portUp n j
     let tw := if d0.on (Reg.SM_PORT_STAT.LPI_TX n j) = true then max 200 (d0.fld (Reg.SM_EEE_CTRL.TW n j)) * 10000 else 0
     let due := if x.tx = none then max x.free (d0.nowPs + 400000 + tw) else x.free
     let ready := d0.purge p (d0.portTest p due) (Dev.portRemoved p) 64
     let got := ready.take p (d0.portTest p due)
     let down := d0.take p (fun _ => .send)
     let ask := Instr.portFrameRequest dt n j
     let lda := d0.on (Reg.SM_PORT_CTRL.LINK_DOWN_ACT n j)
     let txEn := d0.on (Reg.SM_PORT_CTRL.TX_EN n j)
     let off := bitOf d0.wake.off (sliceOf p)
     (txEn = false ∨ off = true ∨ (up = true ∧ x.waiting ≠ none) ∨ (up = false ∧ lda = false) → Does ask s d0) ∧
     (txEn = true → off = false → up = true → x.waiting = none → (got.2 = none → Does ask s got.1) ∧
       (∀ f q, got.2 = some (f, q) → Effect ask s (fun d => (d.mac p).waiting = some (f, q, due) ∧
         (got.1.setMac p { got.1.mac p with waiting := some (f, q, due) }).Sets d [(Reg.SM_PORT_STAT.LPI_TX n j, 0)]))) ∧
     (txEn = true → off = false → up = false → lda = true → (down.2 = none → Does ask s down.1) ∧
       (∀ f q, down.2 = some (f, q) → Does ask s ((down.1.release f).smCnt n j 22)))) ∧
   (∀ (s : State) (dt : Nat) (n : Fin 112) (j : Fin 4) (st : Strobe), s.dev.mainUp = true →
     let d0 := s.dev.advance dt
     let p := 4 * n.val + j
     let x := d0.mac p
     let go := fun (a : Nat) => max (max a d0.nowPs) x.free
     let start := Instr.frameTxStart dt n j st
     let empty := d0.setMac p { x with waiting := none }
     let asleep := d0.on (Reg.SL_STAT.TX_ASLEEP n) = true
     (x.waiting = none → Does start s d0) ∧
     ∀ f q a, x.waiting = some (f, q, a) →
       let e := d0.editedF f
       let want := min (max 1 (d0.fld (Reg.SM_CT.CT_UNITS n j)) * 256) e.fullLen
       let late := a < go a ∧ d0.mayStart p (go a) f = false
       (f.failed = true → Does start s (empty.release f)) ∧
       (f.failed = false → x.tx ≠ none ∨ e.held < want ∨ asleep → Does start s d0) ∧
       (f.failed = false → x.tx = none → want ≤ e.held → ¬ asleep →
         (∀ b r, x.due = b :: r → Effect start s (fun d => (d.mac p).waiting = some (f, q, a) ∧ (d.mac p).due = r ∧
           (d.mac p).tx = some { data := b, start := max d0.nowPs x.free, ctl := true, gateFrom := max d0.nowPs x.free } ∧
           d.regs = d0.regs)) ∧
         (x.due = [] → late → Does start s ((empty.requeue q f).smCnt n j 23)) ∧
         (x.due = [] → ¬ late → (empty.editOut f).2 = none → Does start s ((empty.editOut f).1.release f)) ∧
         ∀ b, x.due = [] → ¬ late → (empty.editOut f).2 = some b → Effect start s (fun d =>
           (d.mac p).waiting = none ∧ ∃ t, (d.mac p).tx = some t ∧ t.start = go a ∧ t.ctl = false ∧
           (bitOf f.tsReq 1 = false → t.data = padTo 60 b) ∧ (f.total ≠ 0 → t.f.total = f.total + b.length - f.data.length)))) ∧
   (∀ (s : State) (dt : Nat) (n : Fin 112) (j : Fin 4), s.dev.mainUp = true →
     let d0 := s.dev.advance dt
     let p := 4 * n.val + j
     let x := d0.mac p
     let over_ := Reg.SM_PORT_EVT.UNDERRUN n j
     let cut := fun (d : Dev) (t : TxFrame) (k : Nat) => d.out = (if t.cut then [] else [.portTx p (stompBytes t.data k) false]) ++ d0.out
     let next := fun (d : Dev) =>
       (x.due = [] ∨ d0.on (Reg.SL_STAT.TX_ASLEEP n) = true → (d.mac p).tx = none ∧ (d.mac p).due = x.due) ∧
       ∀ b r, x.due = b :: r → d0.on (Reg.SL_STAT.TX_ASLEEP n) = false →
         (d.mac p).due = r ∧ ∃ t, (d.mac p).tx = some t ∧ t.data = b ∧ t.ctl = true
     (x.tx = none → Does (.txUnderrun dt n j) s d0 ∧ Does (.frameTxEnd dt n j) s d0) ∧
     ∀ t, x.tx = some t →
       let shut := t.shut = true ∨ d0.openSince p t.f.cls t.gateFrom = false
       (t.f.failed = true → Effect (.txUnderrun dt n j) s (fun d => next d ∧ cut d t t.data.length ∧ d.fld over_ = d0.fld over_ ∧
         d.fld (Reg.SM_CT.CT_UNITS n j) = d0.fld (Reg.SM_CT.CT_UNITS n j))) ∧
       (t.f.failed = false → Effect (.txUnderrun dt n j) s (fun d => next d ∧ cut d t t.data.length ∧ d.fld over_ = 1 ∧
         d.fld (Reg.SM_CT.CT_UNITS n j) = min 63 (d0.fld (Reg.SM_CT.CT_UNITS n j) + 1))) ∧
       (t.f.failed = true → t.ctl = false → Effect (.frameTxEnd dt n j) s (fun d => next d ∧ cut d t (d0.sentSoFar p t))) ∧
       (t.f.failed = false ∨ t.ctl = true → Effect (.frameTxEnd dt n j) s (fun d => next d ∧
         d.out = (if t.cut then [] else [.portTx p (t.data ++ fcs t.data) true]) ++ d0.out ∧
         d.fld (Reg.SM_PORT_EVT.GATE_OVERRUN n j) =
           if t.ctl = false ∧ shut then 1 else d0.fld (Reg.SM_PORT_EVT.GATE_OVERRUN n j)))) ∧
   (∀ (d : Dev) (p k at_ : Nat), d.tim.hist = [] →
     d.openSince p k at_ = (decide (d.nowPs ≤ at_) || d.gateOpenFor p k (d.timeAt at_) (d.time - d.timeAt at_))) ∧
   ∀ (s : State) (dt : Nat) (n : Fin 112) (j : Fin 4) (on : Bool), s.dev.mainUp = true →
     let d0 := s.dev.advance dt
     let p := 4 * n.val + j
     let lpi := Reg.SM_PORT_STAT.LPI_RX n j
     (d0.slHere n = true → Effect (.gateStateChange dt n j) s (fun d =>
       d0.Sets d [(Reg.SM_PORT_STAT.GATES n j, d0.gatesAt p d0.time % 256)])) ∧
     (d0.slHere n = false → Does (.gateStateChange dt n j) s d0) ∧
     Does (.lpiEntry n j) s (let e := s.dev
       if e.eeeOn n j = true ∧ e.portUp n j = true ∧ (e.mac p).tx = none ∧ (e.mac p).waiting = none ∧
           e.on (Reg.SM_PORT_STAT.LPI_TX n j) = false then (e.put (Reg.SM_PORT_STAT.LPI_TX n j) 1).smCnt n j 25 else e) ∧
     Does (.lpiRxChange n j on) s (let e := s.dev
       if e.portUp n j = false ∨ e.eeeOn n j = false then e
       else if on = true ∧ e.on lpi = false then (e.put lpi (bit on)).smCnt n j 26 else e.put lpi (bit on)))

/-! ### The time base (spec/09) -/

/-- A change of rate never moves the time: whatever RATE is written, the time read in that cycle is the same before and after,
and RATE_EFF is the sum of RATE and the slew term kept within ±500 ppm, with its event when that changes it. (spec/09_time.md,
Counter and read time) -/
def Obligations.RateChangesAreContinuous : Prop :=
  ∀ (s : State) (dt : Nat) (m : Master) (v : Word), s.dev.mainUp = true → s.dev.unit 15 = true →
    let d0 := s.dev.advance dt
    let raw := signed 32 v.toNat + d0.slewTerm
    let eff := max (-140737488) (min 140737488 raw)
    Effect (.rateWrite dt m v) s (fun d => d.time = d0.time ∧ d.rateEff = eff ∧ d.tim.ctr = d0.tim.ctr ∧ d.tim.pend = d0.tim.pend ∧
      d0.Regs d ([(Reg.TIM_RATE.RATE, v.toNat), (Reg.TIM_RATE_EFF.RATE, unsigned 32 eff),
        (Reg.TIM_STAT.SLEWING, bit (d0.tim.pend != 0))] ++ if raw = eff then [] else [(Reg.TIM_EVT.RATE_CLAMP, 1)]))

/-- A step adds its value to the time in the cycle, as OFFSET holds it, moves on the epoch, sets TIME_SET, disarms, ends slewing
and makes the one latch of performance monitoring; a step that would leave the range changes no time. A STEP_GO, taken or
refused (notes/assumptions/55.md: the model's reading), takes the place of a sample that steps in its cycle: that step and its
latch are undone, and its error becomes the pending correction. That OFFSET holds units of 2⁻⁴⁸ ns is notes/assumptions/21.md. A
read of the time latches it for its master alone. (spec/09_time.md, Epochs and the step; spec/09_time.md, Counter and read time)
-/
def Obligations.StepsAndTimeReads : Prop :=
  (∀ (s : State) (dt : Nat) (m : Master) (v : Word) (phase : Fin 8), s.dev.mainUp = true → s.dev.unit 15 = true →
    let d0 := s.dev.advance dt
    let t := d0.timeAt (800 * d0.tim.ctr + 100 * phase) - 3200 * psU
    let w := v.toNat
    let d1 := ((((((d0.put Reg.TIM_CTRL.SRC w).put Reg.TIM_CTRL.STEP_SRC (bits w 3 1)).put Reg.TIM_CTRL.ARM_STEP (bits w 4 1)).put
      Reg.TIM_CTRL.PPS_OUT_EN (bits w 5 1)).put Reg.TIM_CTRL.PPS_IN_EN (bits w 6 1)).put Reg.TIM_CTRL.PPS_IN_POL (bits w 7 1)).put
      Reg.TIM_CTRL.ONE_STEP_EN (bits w 8 1)
    let refused := [(Reg.TIM_EVT.STEP_REFUSED, 1), (Reg.TIM_CNT.COUNT 4, min (2 ^ 32 - 1) (d0.fld (Reg.TIM_CNT.COUNT 4) + 1))]
    let far := fun (a : Int) => a < 0 ∨ 2 ^ 48 * secU ≤ a
    let by_ := if bits w 3 1 = 1 then d0.tim.pend else d0.stepValue
    let go := d1.stepAndLatch by_
    ((∀ x, d0.tim.stepped = some x → x.ctr ≠ d0.tim.ctr) →
      (far (d0.time + by_) → Effect (.stepGo dt m v) s (fun d =>
        { d1 with tim := { d1.tim with stepGo := if d0.on Reg.TIM_CTRL.ARM_STEP then some d0.tim.ctr else none } }.Sets d refused)) ∧
      (¬ far (d0.time + by_) → Does (.stepGo dt m v) s
        { go with tim := { go.tim with stepGo := if d0.on Reg.TIM_CTRL.ARM_STEP then some d0.tim.ctr else none } })) ∧
    (∀ x, d0.tim.stepped = some x → x.ctr = d0.tim.ctr →
      let e := d1.sampleUndo x
      let by2 := if bits w 3 1 = 1 then x.pend else d0.stepValue
      (far (e.time + by2) → Effect (.stepGo dt m v) s (fun d => d.tim.pend = x.err ∧ d.time = e.time ∧
        d.fld Reg.TIM_EVT.STEP_REFUSED = 1 ∧ d.fld (Reg.TIM_CNT.COUNT 4) = min (2 ^ 32 - 1) (e.fld (Reg.TIM_CNT.COUNT 4) + 1))) ∧
      (¬ far (e.time + by2) → Effect (.stepGo dt m v) s (fun d => d.tim.pend = x.err ∧
        d.fld Reg.TIM_STAT.EPOCH = (e.epoch + 1) % 4 ∧ d.fld Reg.TIM_EVT.STEPPED = 1 ∧
        -1000 < 2 * (d.time - (e.time + by2)) ∧ 2 * (d.time - (e.time + by2)) ≤ 1000))) ∧
    Effect (.nowRead dt m phase) s (fun d => d.out = .busRead m Reg.TIM_NOW_FRAC.ADR (BitVec.ofNat 32
        (fracOf t + d0.epoch * 2 ^ 16)) :: d0.out ∧
      Tbl.get d.tim.now m.num {} = { frac := fracOf t, epoch := d0.epoch, ns := nsOf t, sec := secOf t } ∧
      ∀ k, k ≠ m.num → Tbl.get d.tim.now k {} = Tbl.get d0.tim.now k {})) ∧
  (∀ (d : Dev) (x : Int), let e := d.stepAndLatch x
    let rest := 2 * (e.time - (d.time + x))
    rest ≤ 1000 ∧ -1000 < rest ∧ ((d.tim.off + x) % 1000 = 0 → rest = 0) ∧ e.tim.pend = 0 ∧
    e.fld Reg.TIM_STAT.EPOCH = (d.epoch + 1) % 4 ∧ e.fld Reg.TIM_STAT.TIME_SET = 1 ∧
    e.fld Reg.TIM_CTRL.ARM_STEP = 0 ∧ e.fld Reg.TIM_EVT.STEPPED = 1 ∧ e.fld Reg.TIM_STAT.SLEWING = 0) ∧
  ∀ (d : Dev) (err : Int), Tbl.wf d.regs = true → Tbl.wf d.lines = true →
    let d1 := d.stepAndLatch err
    let e := d1.sampleUndo (d.sampleStep d1 err)
    e.time = d.time ∧ e.tim = { d.tim with stepped := none } ∧ (∀ n, e.line n = d.line n) ∧
    (∀ k, k ≠ Reg.TIM_CTRL.ARM_STEP.key → Tbl.get e.regs k (Reg.rst k) = Tbl.get d.regs k (Reg.rst k)) ∧
    { e with tim := d.tim, regs := d.regs, lines := d.lines } = d

/-- A time-of-day sample is armed for a count ahead on the reference channel, captured at its frame, and evaluated: shown,
counted, and in SRC 1 applied, by a step where one is armed, otherwise by slewing where it is not too big; one armed too late or
without a channel in SYNC is counted. Slewing ends with the remainder in the offset, or as P is worked off. That a STEP_GO and a
sample meet in one cycle when no time passes between them is notes/assumptions/55.md. (spec/09_time.md, Samples: time from
outside) -/
def Obligations.TimeOfDaySamples : Prop :=
  ∀ (s : State) (m : Master) (dt : Nat) (n : Fin 4) (st : Strobe), s.dev.mainUp = true → s.dev.unit 15 = true →
    let x := s.dev
    let d0 := x.advance dt
    let cnt := x.wide Reg.TIM_TOD_SFC_LO.SFC Reg.TIM_TOD_SFC_HI.SFC
    let at_ : Int := (x.wide Reg.TIM_TOD_SEC_LO.SEC Reg.TIM_TOD_SEC_HI.SEC : Nat) * secU + (x.fld Reg.TIM_TOD_NS.NS : Nat) * nsU
    let none_ := { x with tim := { x.tim with tod := none } }
    let bump := fun (d : Dev) (c : Nat) => (Reg.TIM_CNT.COUNT c, min (2 ^ 32 - 1) (d.fld (Reg.TIM_CNT.COUNT c) + 1))
    let taken := { d0 with tim := { d0.tim with cap := none } }
    let shown := fun (e : Int) => [(Reg.TIM_TOD_ERR.VALUE, unsigned 32 (sat32 (roundPs e))), bump d0 0, (Reg.TIM_EVT.TOD_DONE, 1)]
    let big := fun (e : Int) => max 1 (d0.fld Reg.TIM_MAX_SLEW.MAX_SLEW) * 1000000 * nsU.toNat < e.natAbs
    let far := fun (e : Int) => d0.time + e < 0 ∨ 2 ^ 48 * secU ≤ d0.time + e
    (x.anyLine = true →
      (∀ r, x.tref = some r → x.framer r = 2 → sfcAhead cnt (x.sfc r) = true →
        Does (.todArm m) s { x with tim := { x.tim with tod := some (cnt, at_) } }) ∧
      (∀ r, x.tref = some r → x.framer r = 2 → sfcAhead cnt (x.sfc r) = false →
        Effect (.todArm m) s (fun d => none_.Sets d [bump x 1, (Reg.TIM_EVT.TOD_LATE, 1)])) ∧
      (x.tref = none ∨ (∃ r, x.tref = some r ∧ x.framer r ≠ 2) →
        Effect (.todArm m) s (fun d => none_.Sets d [bump x 2, (Reg.TIM_EVT.TOD_MISS, 1)]))) ∧
    (x.anyLine = false → Does (.todArm m) s x) ∧
    (d0.tim.tod = none → Does (.todSampleCapture dt n st) s d0) ∧
    (∀ c t, d0.tim.tod = some (c, t) →
      let l := (d0.stampRx st (3400 * psU) (d0.fld (Reg.LN_RX_LAT.LAT n) * 100 * psU) (dsUi 1) (456 + n)).time
      (d0.tref = some n.val → d0.framer n = 2 → d0.sfc n = c →
        Does (.todSampleCapture dt n st) s { d0 with tim := { d0.tim with tod := none, cap := some (t + fracTime d0.tim.dds - l) } }) ∧
      (d0.tref ≠ some n.val ∨ d0.framer n ≠ 2 ∨ d0.sfc n ≠ c → Does (.todSampleCapture dt n st) s d0)) ∧
    (d0.tim.cap = none → Does (.todSampleEvaluate dt) s d0) ∧
    (∀ e, d0.tim.cap = some e →
      (d0.src ≠ 1 → Effect (.todSampleEvaluate dt) s (fun d => taken.Sets d (shown e))) ∧
      (d0.src = 1 → (d0.tim.stepGo = some d0.tim.ctr ∨ d0.on Reg.TIM_CTRL.ARM_STEP = false ∧ ¬ big e →
          Effect (.todSampleEvaluate dt) s (fun d =>
            d.tim.pend = e ∧ d.tim.cap = none ∧ d.time = d0.time ∧ ∀ f ∈ shown e, d.fld f.1 = f.2)) ∧
        (d0.tim.stepGo ≠ some d0.tim.ctr → d0.on Reg.TIM_CTRL.ARM_STEP = false → big e → Effect (.todSampleEvaluate dt) s (fun d =>
          taken.Sets d (shown e ++ [bump d0 3, (Reg.TIM_EVT.TOD_BIG, 1)])))) ∧
      (d0.src = 1 → d0.tim.stepGo ≠ some d0.tim.ctr → d0.on Reg.TIM_CTRL.ARM_STEP = true →
        (far e → Effect (.todSampleEvaluate dt) s (fun d =>
          taken.Sets d (shown e ++ [bump d0 4, (Reg.TIM_EVT.STEP_REFUSED, 1)]))) ∧
        (¬ far e → Effect (.todSampleEvaluate dt) s (fun d => d.tim.pend = 0 ∧ d.tim.cap = none ∧
          -1000 < 2 * (d.time - (d0.time + e)) ∧ 2 * (d.time - (d0.time + e)) ≤ 1000 ∧ d.fld Reg.TIM_CTRL.ARM_STEP = 0 ∧
          d.fld Reg.TIM_STAT.EPOCH = (d0.epoch + 1) % 4 ∧ ∀ f ∈ shown e, d.fld f.1 = f.2)))) ∧
    (d0.tim.pend ≠ 0 → d0.tim.pend.natAbs < d0.slewUnit.natAbs → Effect (.slewComplete dt) s (fun d =>
      d.tim.pend = 0 ∧ -1000 < 2 * (d.time - (d0.time + d0.tim.pend)) ∧ 2 * (d.time - (d0.time + d0.tim.pend)) ≤ 1000 ∧
      d.fld Reg.TIM_STAT.SLEWING = 0)) ∧
    (d0.tim.pend = 0 ∨ d0.slewUnit.natAbs ≤ d0.tim.pend.natAbs → Does (.slewComplete dt) s d0) ∧
    (x.tim.pend ≠ 0 → d0.tim.pend = 0 → d0.fld Reg.TIM_STAT.SLEWING = 0)

/-- The time PLL follows its reference: qualified it locks, unqualified it falls to free run or holdover; REF 2 is an
unqualified reference in every state, and no PLL leaves holdover by it; REF 3 is free run. The pulse outputs and inputs act only
when enabled. That events of the reference act by its present state (notes/assumptions/27.md), and the build-out as a free value
(notes/assumptions/55.md), are the model's readings. (spec/09_time.md, Frequency: the time PLL; spec/09_time.md, Pulse per
second) -/
def Obligations.PllAndPps : Prop :=
  ∀ (s : State) (m : Master) (dt : Nat) (v : Word) (rising asym : Bool) (st : Strobe), s.dev.mainUp = true → s.dev.unit 15 = true →
    let x := s.dev
    let d0 := x.advance dt
    let state := x.fld Reg.TIM_PLL_STAT.STATE
    let go := fun (t : Nat) => [(Reg.TIM_PLL_STAT.STATE, t), (Reg.TIM_EVT.PLL_CHG, 1)]
    let ofs := d0.fld Reg.TIM_PPS_CTRL.OUT_OFS
    let before := d0.viewAt (d0.tim.ctr - 1)
    let q := fun (t : Int) => (t - ((if 999999999 < ofs then 0 else ofs : Nat) : Int) * nsU) / secU
    let width := min 500000 (max 1 (d0.fld Reg.TIM_PPS_WIDTH.WIDTH)) * 1000000
    let now := d0.on Reg.TIM_CTRL.PPS_OUT_EN = true ∧ d0.on Reg.TIM_STAT.TIME_SET = true ∧ before.epoch = d0.epoch ∧
      q (before.at_ ((d0.nowPs - 800 : Nat) : Int)) ≠ q d0.time
    (x.refOk = true → state = pllFree → Effect .pllRefQualified s (fun d => x.Sets d (go pllLocking))) ∧
    (∀ r, x.pllRef = 0 → x.refOk = true → x.tref = some r → state = pllHold → Effect .pllRefQualified s (fun d =>
      { x with tim := { x.tim with buildOut := some (Tbl.get x.tim.phase r 0) } }.Sets d (go pllLocking))) ∧
    (x.pllRef = 1 → x.refOk = true → state = pllHold → Effect .pllRefQualified s (fun d =>
      x.Regs d (go pllLocking) ∧ ∃ v, d.tim.buildOut = some v ∧ v < 8)) ∧
    (x.refOk = false ∨ (state ≠ pllFree ∧ state ≠ pllHold) → Does .pllRefQualified s x) ∧
    (x.pllRef = 2 → x.refOk = false ∧ Does .pllRefQualified s x ∧ Effect .pllRefUnqualified s (fun d =>
      d.fld Reg.TIM_PLL_STAT.STATE = if state = pllLocking then pllFree else if state = pllLocked then pllHold else state)) ∧
    (x.refOk = true → state = pllLocking → Effect .pllLockAchieved s (fun d => x.Sets d (go pllLocked))) ∧
    (x.refOk = false ∨ state ≠ pllLocking → Does .pllLockAchieved s x) ∧
    (x.pllRef < 3 → x.refOk = false → Effect .pllRefUnqualified s (fun d => x.Sets d ((Reg.TIM_PLL_STAT.REF_OK, 0) ::
      if state = pllLocking then go pllFree else if state = pllLocked then go pllHold else []))) ∧
    (x.pllRef < 3 → x.refOk = true → Effect .pllRefUnqualified s (fun d => x.Sets d [(Reg.TIM_PLL_STAT.REF_OK, 1)])) ∧
    (x.pllRef = 3 → Effect .pllRefUnqualified s (fun d => x.Sets d ((Reg.TIM_PLL_STAT.REF_OK, 0) ::
      if state = pllFree then [] else go pllFree))) ∧
    Effect (.pllCtrlWrite m v) s (fun d => d.fld Reg.TIM_PLL_CTRL.REF = v.toNat % 4 ∧ d.fld Reg.TIM_PLL_CTRL.RISER_P = bits v.toNat 2 2 ∧
      d.fld Reg.TIM_PLL_CTRL.BW = bits v.toNat 4 2 ∧ d.fld Reg.TIM_PLL_CTRL.QUAL = bits v.toNat 6 8 ∧
      (v.toNat % 4 = 2 → d.fld Reg.TIM_PLL_STAT.STATE =
        if state = pllLocking then pllFree else if state = pllLocked then pllHold else state) ∧
      (v.toNat % 4 = 3 → d.fld Reg.TIM_PLL_STAT.STATE = pllFree)) ∧
    Effect (.xferParamWrite m asym v) s (fun d => d.time = x.time ∧
      (asym = true → d.fld Reg.TIM_XFER_ASYM.ASYM = v.toNat) ∧ (asym = false → d.fld Reg.TIM_XFER_EQD0.EQD_ZERO = v.toNat % 2 ^ 28)) ∧
    (now → Does (.ppsOutPulse dt) s { d0 with tim := { d0.tim with ppsOut := true, ppsEnd := d0.nowPs + width } }) ∧
    (¬ now → Does (.ppsOutPulse dt) s d0) ∧
    Does (.ppsWidthExpiry dt) s (if d0.tim.ppsEnd ≤ d0.nowPs then { d0 with tim := { d0.tim with ppsOut := false } } else d0) ∧
    (d0.on Reg.TIM_CTRL.PPS_IN_EN = false ∨ rising = d0.on Reg.TIM_CTRL.PPS_IN_POL → Does (.ppsInEdge dt rising st) s d0) ∧
    (d0.on Reg.TIM_CTRL.PPS_IN_EN = true → rising ≠ d0.on Reg.TIM_CTRL.PPS_IN_POL →
      let c := d0.capture st (-4100 * psU)
      let e := (2 * c.time + secU) / (2 * secU) * secU - c.time
      Effect (.ppsInEdge dt rising st) s (fun d => d.fld Reg.TIM_EVT.PPS_IN = 1 ∧
        (∀ i < 4, d.fld (Reg.TIM_PPS_IN_TS.TS i) = c.words.getD i 0 % 2 ^ 32) ∧
        (d0.src = 3 → d.fld Reg.TIM_TOD_ERR.VALUE = unsigned 32 (sat32 (roundPs e)) ∧
          d.fld (Reg.TIM_CNT.COUNT 0) = min (2 ^ 32 - 1) (d0.fld (Reg.TIM_CNT.COUNT 0) + 1)) ∧
        (d0.src ≠ 3 → { d with regs := d0.regs } = d0))) ∧
    ∀ (d : Dev) (corr : Int),
      let c := d.tim.ctr - st.ago
      let v := d.viewAt c
      d.capture st corr = { t := stampTicks (v.off + (800 * c + 100 * (st.phase : Nat)) * (psU + rateScale * v.rate) + corr)
                            epoch := v.epoch, valid := v.set } ∧
      (d.tim.hist = [] → v = { off := d.tim.off, rate := d.rateEff, epoch := d.epoch, set := d.on Reg.TIM_STAT.TIME_SET })

/-! ### Serial lanes, riser bring-up and wake (spec/10, spec/15) -/

/-- What a lane's receiver reports is shown, the events, counts and links of a subscriber lane follow, and energy wakes a
receiver asleep for the partner's idle; what it has adapted to is taken while it adapts and its clock is locked; taps that sum
above 63 are refused; a scan and a pattern check end with their counts. An absent lane reports nothing. The errors that a report
brings (notes/assumptions/37.md) are the model's reading, and what adaptation arrives at comes from outside
(notes/assumptions/11.md). (spec/10_serial_lanes.md, Subscriber lanes; spec/10_serial_lanes.md, Riser lanes;
spec/10_serial_lanes.md, Equalisers, eye monitor and patterns) -/
def Obligations.SerialLanes : Prop :=
  ∀ (s : State) (m : Master) (x : SerLane) (on sync hiBer fec cdr : Bool) (corr unc ctle dfe errs : Nat) (v : Word),
    s.dev.mainUp = true →
    let e := s.dev
    let here := e.laneHere x = true
    let part := match x with | .sub n => e.slHere n = true | .riser p _ => e.rpHere p = true
    let w := fun (f : Fld) (k : Nat) => (f, k % 2 ^ f.w)
    let plus := fun (f : Fld) (k : Nat) => (f, min (2 ^ f.w - 1) (e.fld f + k))
    let done := laneFld Reg.SL_RXEQ_STAT.ADAPT_DONE Reg.RP_LANE_RXEQ_STAT.ADAPT_DONE x
    let lockF := laneFld Reg.SL_STAT.CDR_LOCK Reg.RP_LANE_STAT.CDR_LOCK x
    let sigF := laneFld Reg.SL_STAT.SIGNAL Reg.RP_LANE_STAT.SIGNAL x
    let lock := cdr && !e.laneAsleep x
    let perr := laneFld Reg.SL_PAT_ERR.PAT_ERR Reg.RP_LANE_PAT_ERR.PAT_ERR x
    let checked := if e.on (patSync x) = true then [plus perr errs] else []
    let taps := [w (laneFld Reg.SL_TXEQ.PRE Reg.RP_LANE_TXEQ.PRE x) v.toNat,
      w (laneFld Reg.SL_TXEQ.MAIN Reg.RP_LANE_TXEQ.MAIN x) (v.toNat / 2 ^ 4), w (laneFld Reg.SL_TXEQ.POST Reg.RP_LANE_TXEQ.POST x) (v.toNat / 2 ^ 10),
      w (laneFld Reg.SL_TXEQ.POL_INV Reg.RP_LANE_TXEQ.POL_INV x) (v.toNat / 2 ^ 15)]
    let sum := bits v.toNat 0 4 + bits v.toNat 4 6 + bits v.toNat 10 5
    let adapt := e.fld (laneFld Reg.SL_RXEQ.ADAPT Reg.RP_LANE_RXEQ.ADAPT x)
    let takes := adapt ≠ 0 ∧ e.on lockF = true ∧ ¬ (2 ≤ adapt ∧ e.on done = true)
    let eyeDone := laneFld Reg.SL_EYE_STAT.DONE Reg.RP_LANE_EYE_STAT.DONE x
    let most := 2 ^ max 10 (e.fld (laneFld Reg.SL_EYE_CTRL.LOG2_BITS Reg.RP_LANE_EYE_CTRL.LOG2_BITS x))
    let src := match x with | .sub n => 112 + n.val | .riser _ _ => 0
    let wakes := (match x with
      | .sub n => on = true ∧ e.on (Reg.SL_STAT.RX_ASLEEP n) = true ∧ e.on (Reg.SM_PORT_STAT.LPI_RX n 0) = true ∧
        e.on (Reg.SL_SLEEP_CTRL.RX_FORCE n) = false
      | .riser _ _ => False) ∧ e.wake.queue.any (fun q => q.1 == src) = false ∧ src ∉ e.wake.granted
    (¬ here → ∀ i ∈ [Instr.signalDetectChange x on, .laneSyncChange x sync hiBer fec cdr ⟨corr, unc⟩ errs, .slAdaptDone x ctle dfe,
      .patSyncGain x, .patSyncLoss x errs], Does i s e) ∧
    (here → ¬ wakes → Effect (.signalDetectChange x on) s (fun d => e.Sets d [(sigF, bit on)])) ∧
    (here → wakes → Effect (.signalDetectChange x on) s (fun d =>
      { e with wake := { e.wake with queue := wakeInsert src e.wake.queue } }.Sets d
        [(sigF, 1), (Reg.PWR_WAKE_STAT.QUEUED, (e.wake.queue.length + 1) % 256)])) ∧
    (∀ n : Fin 112, x = .sub n → here → EffectThen (.laneSyncChange x sync hiBer fec cdr ⟨corr, unc⟩ errs) s (·.linkLane n) (fun d =>
      let was := e.on (Reg.SL_STAT.SYNC n)
      e.Regs d ([(Reg.SL_STAT.SYNC n, bit sync), (Reg.SL_STAT.HI_BER n, bit hiBer), (lockF, bit lock)] ++ checked ++
        (if sync = was then [] else [(Reg.SL_EVT.SYNC_CHG n, 1)]) ++
        (if was = true ∧ sync = false then [plus (Reg.SL_CNT.COUNT n 3) 1] else []) ++
        (if hiBer = true ∧ e.on (Reg.SL_STAT.HI_BER n) = false then [(Reg.SL_EVT.HI_BER n, 1)] else []) ++
        if e.laneMode n = 2 then [plus (Reg.SL_CNT.COUNT n 4) corr, plus (Reg.SL_CNT.COUNT n 5) unc] else []) ∧
      (d.lane n).fecLock = fec ∧ (sync = false → ∀ j < 4, (d.mac (4 * n + j)).inband = none))) ∧
    (∀ p l, x = .riser p l → here → Effect (.laneSyncChange x sync hiBer fec cdr ⟨corr, unc⟩ errs) s (fun d =>
      e.Sets d ([(Reg.RP_LANE_STAT.SYNC p l, bit sync), (lockF, bit lock)] ++ checked))) ∧
    (here → takes → Effect (.slAdaptDone x ctle dfe) s (fun d => e.Sets d ([
      w (laneFld Reg.SL_RXEQ_STAT.CTLE_NOW Reg.RP_LANE_RXEQ_STAT.CTLE_NOW x) ctle,
      w (laneFld Reg.SL_RXEQ_STAT.DFE1 Reg.RP_LANE_RXEQ_STAT.DFE1 x) dfe] ++ if 2 ≤ adapt then [(done, 1)] else []))) ∧
    (here → ¬ takes → Does (.slAdaptDone x ctle dfe) s e) ∧
    (part → sum ≤ 63 → Effect (.txeqWrite m x v) s (fun d => e.Sets d taps)) ∧
    (part → 63 < sum → Effect (.txeqWrite m x v) s (fun d => e.Sets d (match x with | .sub n => [(Reg.SL_EVT.EQ_REJ n, 1)] | .riser _ _ => []))) ∧
    (part → Effect (.eyeScanStart m x v) s (fun d => e.Regs d ([
        w (laneFld Reg.SL_EYE_CTRL.PHASE Reg.RP_LANE_EYE_CTRL.PHASE x) v.toNat,
        w (laneFld Reg.SL_EYE_CTRL.VOLT Reg.RP_LANE_EYE_CTRL.VOLT x) (v.toNat / 2 ^ 6),
        w (laneFld Reg.SL_EYE_CTRL.LOG2_BITS Reg.RP_LANE_EYE_CTRL.LOG2_BITS x) (v.toNat / 2 ^ 13)] ++
        if here ∧ bitOf v.toNat 18 = true then [(eyeDone, 0)] else []) ∧
      d.scans x = (e.scans x || (e.laneHere x && bitOf v.toNat 18)))) ∧
    (e.scans x = true → Effect (.eyeScanDone x errs) s (fun d => d.scans x = false ∧
      e.Regs d [(eyeDone, 1), (laneFld Reg.SL_EYE_STAT.ERRORS Reg.RP_LANE_EYE_STAT.ERRORS x, min (2 ^ 31 - 1) (min most errs))])) ∧
    (e.scans x = false → Does (.eyeScanDone x errs) s e) ∧
    (here → e.rxPat x ≠ 0 → Effect (.patSyncGain x) s (fun d => e.Sets d [(patSync x, 1)])) ∧
    (here → e.rxPat x = 0 → Does (.patSyncGain x) s e) ∧
    (here → e.on (patSync x) = true → Effect (.patSyncLoss x errs) s (fun d => e.Sets d [(patSync x, 0), plus perr errs,
      (match x with | .sub n => Reg.SL_EVT.PAT_LOSS n | .riser p _ => Reg.RP_PHY_EVT.PAT_LOSS p, 1)])) ∧
    (here → e.on (patSync x) = false → Does (.patSyncLoss x errs) s e)

/-- The ladder walks its entries in order, marks which locked, confirms the highest of them, and ends with it, applied where
asked, or begins again when none locks or the confirmation fails; each pass clears the marks; it does not start on an enabled
lane, and a write with AUTO 0 ends it. (spec/10_serial_lanes.md, The subscriber speed ladder) -/
def Obligations.LadderWalk : Prop :=
  ∀ (s : State) (m : Master) (n : Fin 112) (v : Word) (held : Bool), s.dev.mainUp = true →
    let e := s.dev
    let x := e.lane n
    let st := Reg.SL_LADDER_STAT.STATE n
    let lk := Reg.SL_LADDER_STAT.LOCKED n
    let off := e.fld (Reg.SM_LANE_CTRL.LANE_EN n) = 0
    let starts := fun (d : Dev) => (d.lane n).walk = some 0 ∧ (d.lane n).confirming = false ∧ d.fld st = 1 ∧ d.fld lk = 0
    let stays := fun (d : Dev) => d.lanes = e.lanes ∧ d.fld st = e.fld st
    let next := fun (i : Nat) => e.fld (ladderEntry (i + 1) n)
    let mask := fun (i : Nat) => setBit (e.fld lk) i held % 16 % 2 ^ (i + 1)
    (e.slHere n = false → Does (.ladderDwellExpiry n held) s e) ∧
    (e.slHere n = true →
      (off → Effect (.ladderStart m n v) s starts) ∧ (¬ off → Effect (.ladderStart m n v) s stays) ∧
      (bitOf v.toNat 12 = true → off → Effect (.ladderRestart m n v) s starts) ∧
      (bitOf v.toNat 12 = true → ¬ off → Effect (.ladderRestart m n v) s stays) ∧
      (bitOf v.toNat 12 = false → x.walk ≠ none → Effect (.ladderRestart m n v) s (fun d => (d.lane n).walk = none ∧ d.fld st = 0)) ∧
      (bitOf v.toNat 12 = false → x.walk = none → Effect (.ladderRestart m n v) s stays) ∧
      (x.walk = none ∨ e.fld (ladderEntry 0 n) = 0 → Does (.ladderDwellExpiry n held) s e) ∧
      ∀ i, x.walk = some i → e.fld (ladderEntry 0 n) ≠ 0 →
        (x.confirming = true → held = true → EffectThen (.ladderDwellExpiry n held) s
          (fun d => if e.on (Reg.SL_LADDER.APPLY n) = true then d.laneCtrl n (e.fld (ladderEntry i n)) true else d) (fun d =>
          (d.lane n).walk = none ∧ e.Regs d [(st, 3), (Reg.SL_LADDER_STAT.FOUND n, e.fld (ladderEntry i n) % 8), (Reg.SL_EVT.LADDER_DONE n, 1)])) ∧
        (x.confirming = true → held = false → Effect (.ladderDwellExpiry n held) s starts) ∧
        (x.confirming = false → i < 3 → next i ≠ 0 → Effect (.ladderDwellExpiry n held) s (fun d =>
          (d.lane n).walk = some (i + 1) ∧ e.Regs d [(lk, setBit (e.fld lk) i held % 16)])) ∧
        (x.confirming = false → 3 ≤ i ∨ next i = 0 → topLocked (mask i) = none → Effect (.ladderDwellExpiry n held) s starts) ∧
        ∀ k, x.confirming = false → 3 ≤ i ∨ next i = 0 → topLocked (mask i) = some k → Effect (.ladderDwellExpiry n held) s (fun d =>
          (d.lane n).walk = some k ∧ (d.lane n).confirming = true ∧ d.fld st = 2))

/-- A riser port comes up through its states: clock, pages, switch to the highest common rate, training, up; a loss in any of
them falls back or waits for the clock again, and is counted. A page is taken where it has come three times running in the
descrambled bits of both lanes, at any bit position (that the search starts from any scrambler state is
notes/assumptions/53.md); every count and store of the link starts anew at UP; a sleeping transmitter sends nothing. A window of
the clock detector counts only outside ±1 % of the rate's frequency; the page it sends is a valid one that carries its rates. A
port absent or held moves nothing. (spec/10_serial_lanes.md, Riser lanes; spec/10_serial_lanes.md, A riser link brought up) -/
def Obligations.RiserBringUp : Prop :=
  ∀ (s : State) (m : Master) (p : Fin 4) (l : Fin 2) (b : LaneBits) (khz : Nat) (m0 m1 : Int) (v : Word), s.dev.mainUp = true →
    let e := s.dev
    let y := e.phy p
    let page : List Bool → Nat → Option (List Byte) := fun bits i =>
      let g := bitsBytes ((bits.drop i).take 64)
      if pageOk g && bitsBytes ((bits.drop i).take 192) == g ++ g ++ g then some g else none
    let st := e.phyState p
    let up := fun (d : Dev) (c : Nat) => d.fld (Reg.RP_PHY_CNT.COUNT p c) = min (2 ^ 32 - 1) (e.fld (Reg.RP_PHY_CNT.COUNT p c) + 1)
    let fell := fun (d : Dev) => (d.phy p).removed = setBit y.removed y.c true ∧ up d 1
    let down := fun (d : Dev) => d.fld (Reg.RP_PHY_EVT.DOWN p) = 1 ∧ up d 0
    let common := e.offered p &&& e.fld (Reg.RP_PHY_STAT.PEER_RATES p)
    let pll := [Reg.TIM_PLL_STAT.REF_OK, Reg.TIM_PLL_STAT.STATE, Reg.TIM_EVT.PLL_CHG]
    let ok := Reg.RP_PHY_STAT.CLK_OK p
    let stF := Reg.RP_PHY_STAT.STATE p
    let good := clockGood (e.fld (Reg.RP_PHY_STAT.RATE p)) khz = true
    let trained := e.lanesLocked p = true ∧ -32 ≤ m1 - m0 ∧ m1 - m0 ≤ 32
    let lat := riserLat (e.fld (Reg.RP_PHY_STAT.RATE p))
    let quiet := e.on (Reg.RP_PHY_CTRL.FORCE p) = false ∧ e.phyPattern p = false
    let train := Instr.trainTimerExpiry p m0 m1
    let sent : Nat → Nat → List Emit := fun k a =>
      if e.on (Reg.RP_LANE_STAT.TX_ASLEEP p k) = true then []
      else [.lane p k (polarity (e.on (Reg.RP_LANE_TXEQ.POL_INV p k)) (trainBits a))]
    let restarts := fun (d : Dev) => (d.phy p).removed = 0 ∧ (e.clkOk p = false → d.phyState p = phClk)
    (pageOk (e.ownPage p) = true ∧ byteAt (e.ownPage p) 2 = 16 + 8 * bit y.ack + e.offered p ∧ bitOf (e.offered p) 0 = true) ∧
    (∀ bits, pageIn bits = ((List.range bits.length).filterMap (page bits)).head?) ∧
    (e.rpUp p = false → ∀ i ∈ [Instr.forwardedClockLoss ⟨p, khz⟩, .forwardedClockOk ⟨p, khz⟩, .pageAccept p b, .pageExchangeDone p,
      .switchSuspendExpiry p, .switchTimeout p, train, .riserCdrUnlock p l, .failRetryExpiry p], Does i s e) ∧
    (e.rpHere p = true → e.rpUp p = false → Effect (.phyRestart m p v) s (fun d => d.phys = e.phys ∧ d.phyState p = st)) ∧
    (e.rpUp p = true →
      (e.clkOk p = false ∨ y.suspended = true ∨ good → Does (.forwardedClockLoss ⟨p, khz⟩) s e) ∧
      (e.clkOk p = true → y.suspended = false → ¬ good → Effect (.forwardedClockLoss ⟨p, khz⟩) s (fun d => d.clkOk p = false ∧
        d.fld (Reg.RP_PHY_EVT.CLK_LOSS p) = 1 ∧ up d 3 ∧ (st = phPage ∨ st = phTrain ∨ st = phUp → d.phyState p = phClk) ∧
        (st = phTrain → fell d ∧ up d 4) ∧ (st = phUp → down d ∧ d.fld (Reg.RP_LINK_STAT.ALIGNED p) = 0) ∧
        (st ≠ phPage → st ≠ phTrain → st ≠ phUp → d.phyState p = st ∧ d.phys = e.phys))) ∧
      (y.suspended = true ∨ ¬ good → Does (.forwardedClockOk ⟨p, khz⟩) s e) ∧
      (y.suspended = false → good →
        (st = phSwitch → Effect (.forwardedClockOk ⟨p, khz⟩) s (fun d => d.clkOk p = true ∧ d.phyState p = phTrain ∧
          e.SameRegs d ([ok, stF] ++ pll) ∧ ∃ a : Nat → Nat, d.out = sent 1 (a 1) ++ sent 0 (a 0) ++ e.out)) ∧
        (st = phClk → quiet → Effect (.forwardedClockOk ⟨p, khz⟩) s (fun d => d.clkOk p = true ∧ d.phyState p = phPage ∧
          e.SameRegs d ([ok, stF] ++ pll) ∧ (e.on (Reg.RP_PHY_STAT.TX_ASLEEP p) = false → .page p (d.ownPage p) ∈ d.out))) ∧
        (st = phClk → e.phyPattern p = true → Effect (.forwardedClockOk ⟨p, khz⟩) s (fun d => d.clkOk p = true ∧
          e.SameRegs d (ok :: pll))) ∧
        (st = phClk → e.phyPattern p = false → e.on (Reg.RP_PHY_CTRL.FORCE p) = true → Effect (.forwardedClockOk ⟨p, khz⟩) s (fun d =>
          d.phyState p = phSwitch ∧ d.fld (Reg.RP_PHY_STAT.RATE p) = max 1 (e.forceRate p))) ∧
        (st ≠ phClk → st ≠ phSwitch → Effect (.forwardedClockOk ⟨p, khz⟩) s (fun d => d.clkOk p = true ∧ e.SameRegs d (ok :: pll)))) ∧
      (∀ g, st = phPage → e.pageOn p b = some g → Effect (.pageAccept p b) s (fun d => pageOk g = true ∧ (d.phy p).ack = true ∧
        e.Regs d [(Reg.RP_PHY_STAT.PEER_RATES p, byteAt g 2 % 8), (Reg.RP_PHY_STAT.PEER_UPPER p, byteAt g 3 / 128)] ∧
        (quiet → e.on (Reg.RP_PHY_STAT.TX_ASLEEP p) = false → .page p (d.ownPage p) ∈ d.out))) ∧
      (st ≠ phPage ∨ e.pageOn p b = none → Does (.pageAccept p b) s e) ∧
      (st = phPage → y.ack = true →
        (∀ c, c = 2 ∧ bitOf common 2 = true ∨ c = 1 ∧ bitOf common 2 = false ∧ bitOf common 1 = true →
          Effect (.pageExchangeDone p) s (fun d => (d.phy p).c = c ∧ (d.phy p).suspended = true ∧ d.phyState p = phSwitch ∧
            d.fld (Reg.RP_PHY_STAT.RATE p) = c ∧ d.clkOk p = false ∧ e.SameRegs d ([ok, stF, Reg.RP_PHY_STAT.RATE p] ++ pll))) ∧
        (bitOf common 2 = false → bitOf common 1 = false → Effect (.pageExchangeDone p) s (fun d =>
          e.Sets d [(stF, phFail), (Reg.RP_PHY_EVT.FAIL p, 1)]))) ∧
      (st ≠ phPage ∨ y.ack = false → Does (.pageExchangeDone p) s e) ∧
      Does (.switchSuspendExpiry p) s (if st = phSwitch then e.setPhy p { y with suspended := false } else e) ∧
      (st = phSwitch → e.clkOk p = false → Effect (.switchTimeout p) s (fun d => fell d ∧ d.phyState p = phClk)) ∧
      (st ≠ phSwitch ∨ e.clkOk p = true → Does (.switchTimeout p) s e) ∧
      (st = phTrain → trained → Effect train s (fun d => (d.phy p).removed = 0 ∧ (d.phy p).odd = false ∧
        Tbl.get d.rlinks p {} = {} ∧
        e.Regs d [(Reg.RP_PHY_STAT.SKEW p, unsigned 7 (m1 - m0)), (stF, phUp), (Reg.RP_PHY_EVT.UP p, 1),
          (Reg.RP_PHY_LAT.RX_LAT p, lat.1), (Reg.RP_PHY_LAT.TX_LAT p, lat.2)])) ∧
      (st = phTrain → ¬ trained → Effect train s (fun d => fell d ∧ up d 4)) ∧
      (st ≠ phTrain → Does train s e) ∧
      (st ≠ phUp → Effect (.riserCdrUnlock p l) s (fun d => e.Sets d [(Reg.RP_LANE_STAT.CDR_LOCK p l, 0)])) ∧
      (st = phUp → Effect (.riserCdrUnlock p l) s (fun d => down d ∧ d.fld (Reg.RP_LANE_STAT.CDR_LOCK p l) = 0 ∧
        (e.clkOk p = false → d.phyState p = phClk))) ∧
      (st = phFail → Effect (.failRetryExpiry p) s restarts) ∧ (st ≠ phFail → Does (.failRetryExpiry p) s e) ∧
      Effect (.phyRestart m p v) s restarts)

/-- A direction whose sleep condition stands goes to sleep, and a transmitter cuts what it sends (notes/assumptions/47.md: the
model's reading); a source asks once to be woken, when its condition has ended or the partner's energy has come, behind those of
earlier cycles and among those of one cycle in the order of its number; the arbiter's buckets gain in each cycle and requests
are granted in order as long as every bucket covers the head's step, their delay kept; a granted direction is awake and ready,
and sends what is due: its pattern, control frames, pages or training words. (spec/10_serial_lanes.md, Sleep; spec/15_power.md,
Wake arbitration) -/
def Obligations.SleepAndWake : Prop :=
  ∀ (s : State) (x : LaneDir) (k c : Fin 4), s.dev.cremaUp = true →
    let e := s.dev
    let on := fun (l : List Fld) (v : Nat) => l.map (fun f => (f, v))
    let w := (List.range 4).foldl (fun (w : WakeSt) b => w.setLevel b (min (e.wakeDepth b) (w.level b + e.fld (Reg.PWR_WAKE_BKT.RATE b)))) e.wake
    let sleeps := e.dirHere x = true ∧ e.sleepCond x = true ∧ e.asleep x = false
    let n := (WakeSrc.lane x).num
    let energy := match x with
      | .subRx i => e.on (Reg.SL_STAT.SIGNAL i) = true ∧ e.on (Reg.SM_PORT_STAT.LPI_RX i 0) = true ∧
        e.on (Reg.SL_SLEEP_CTRL.RX_FORCE i) = false
      | _ => False
    let asks := fun (y : WakeSrc) => match y with
      | .lane _ => e.dirHere x = true ∧ e.asleep x = true ∧ (e.sleepCond x = false ∨ energy)
      | .slice _ => bitOf e.wake.off k = true ∧ bitOf (e.fld Reg.PWR_GATE.SLICE) k = false
      | .dram _ => False
    let there := fun (y : WakeSrc) => e.wake.queue.any (fun q => q.1 == y.num) = true ∨ y.num ∈ e.wake.granted
    let fresh := fun (q : List (Nat × Nat)) => (q.filter (fun g => g.2 == 0)).map (·.1)
    let cuts := fun (d : Dev) (i : Nat) => ∀ j < 4, (d.mac (4 * i + j)).tx = (e.mac (4 * i + j)).tx.map (fun t => { t with cut := true })
    let off := fun (i : Nat) => { e with wake := { e.wake with granted := e.wake.granted.filter (· != i) } }
    let open_ := bitOf (e.fld Reg.PWR_GATE.SLICE) k = false
    (e.mainUp = true →
      (sleeps → Effect (.sleepEntry x) s (fun d => (e.sleepCut x).Sets d (on (asleepFlds x) 1 ++ on (readyFlds x) 0 ++ on (cdrFlds x) 0))) ∧
      (¬ sleeps → Does (.sleepEntry x) s e) ∧
      (∀ y ∈ [WakeSrc.lane x, .slice k, .dram c],
        (asks y → ¬ there y → Effect (.wakeRequest y) s (fun d =>
          { e with wake := { e.wake with queue := wakeInsert y.num e.wake.queue } }.Sets d
            [(Reg.PWR_WAKE_STAT.QUEUED, (e.wake.queue.length + 1) % 256)])) ∧
        (¬ asks y ∨ there y → Does (.wakeRequest y) s e) ∧
        (y.num ∉ e.wake.granted → Does (.wakeComplete y) s e)) ∧
      (n ∈ e.wake.granted → e.dirHere x = true → EffectThen (.wakeComplete (.lane x)) s (fun d => match x with
          | .subTx i => (d.patSend (.sub i)).each (List.range 4) (fun d j => d.nextCtl (4 * i + j))
          | .riserTx i => (((d.patSend (.riser i 0)).patSend (.riser i 1)).sendPage i).iff (d.phyState i == phTrain) (·.trainSend i)
          | _ => d) (fun d => (off n).Sets d (on (asleepFlds x) 0 ++ on (readyFlds x) 1))) ∧
      (n ∈ e.wake.granted → e.dirHere x = false → Does (.wakeComplete (.lane x)) s (off n)) ∧
      (232 + k.val ∈ e.wake.granted → open_ → Effect (.wakeComplete (.slice k)) s (fun d =>
        bitOf d.wake.off k = false ∧ 232 + k.val ∉ d.wake.granted ∧ d.regs = e.regs)) ∧
      (232 + k.val ∈ e.wake.granted → ¬ open_ → Does (.wakeComplete (.slice k)) s (off (232 + k))) ∧
      (236 + c.val ∈ e.wake.granted → Does (.wakeComplete (.dram c)) s (off (236 + c)))) ∧
    (e.powerOn = true ↔ e.seq = sqOn) ∧
    (match x with
      | .subTx i => cuts (e.sleepCut x) i ∧ (e.sleepCut x).regs = e.regs ∧
        { e.sleepCut x with macs := e.macs, out := e.out } = e
      | _ => e.sleepCut x = e) ∧
    (∀ (q : List (Nat × Nat)) (a : Nat), q.all (fun g => g.1 != a) = true →
      (wakeInsert a q).Perm ((a, 0) :: q) ∧ (wakeInsert a q).filter (fun g => g.2 != 0) = q.filter (fun g => g.2 != 0) ∧
      (wakeInsert a q).take (q.filter (fun g => g.2 != 0)).length = q.filter (fun g => g.2 != 0) ∧
      ((fresh q).Pairwise (· < ·) → (fresh (wakeInsert a q)).Pairwise (· < ·))) ∧
    (e.powerOn = false → Does .wakeGrant s { e with wake := { w with queue := e.wake.queue.map (fun g => (g.1, g.2 + 1)) } }) ∧
    (e.powerOn = true → Effect .wakeGrant s (fun d => ∃ t, t ≤ e.wake.queue.length ∧
      let got := e.wake.queue.take t
      let rest := e.wake.queue.drop t
      { d with regs := e.regs, wake := e.wake } = e ∧ d.wake.granted = e.wake.granted ++ got.map (·.1) ∧ d.wake.queue = rest.map (fun g => (g.1, g.2 + 1)) ∧
      (∀ b < 4, d.wake.level b + (got.map (fun q => e.wakeStep q.1 b)).sum = w.level b) ∧
      (∀ q, rest.head? = some q → ∃ b, b < 4 ∧ d.wake.level b < e.wakeStep q.1 b) ∧
      e.Regs d (if t = 0 then [] else [(Reg.PWR_WAKE_STAT.QUEUED, rest.length % 256), (Reg.PWR_WAKE_STAT.MAX_DELAY,
        min 65535 (got.foldl (fun a q => max q.2 a) (e.fld Reg.PWR_WAKE_STAT.MAX_DELAY)))] ++
          if ∃ q ∈ got, 500 < q.2 then [(Reg.PWR_EVT.WAKE_LATE, 1)] else [])))

/-! ### Riser links and the hierarchy (spec/11) -/

/-- What a data lane scrambles and stuffs, its receiver takes off again, no run on the line exceeding 31 equal bits, and a wagon
comes off the two lanes as it went on them (R272, R273). A port that does not run keeps its frames, or discards them under
DOWN_ACT 1; before alignment an idle wagon goes out whose checks its receiver accepts; without its key nothing is sent; a HOMING
or an urgent record goes first. Passing headers align and failing ones lose alignment; a wagon without key or with an old
counter is counted (the latter with the event REPLAY, notes/assumptions/47.md); records and frames wait for their verdict. A
data wagon is freed once its verdict is known and the bytes of its frames have gone on. The wagon that completes alignment,
HOMING without credit and a port without its key are the model's readings (notes/assumptions/33.md); so are the fill words
(notes/assumptions/53.md) and a wagon that comes whole (notes/assumptions/40.md). (spec/11_riser_hierarchy.md, Wagons on the
line; spec/11_riser_hierarchy.md, Frames in data wagons; spec/05_cipher.md, Riser GCM) -/
def Obligations.RiserWagons : Prop :=
  (∀ (c : LaneCode) (x : List Bool), c.run < 31 →
    let t := c.sendBits x
    (c.recvBits t.2).2 = (x, 0) ∧ t.1.run < 31 ∧ (c.run = 0 → ∀ i n b, 31 < n → (t.2.drop i).take n ≠ List.replicate n b)) ∧
  (∀ b : List Byte, b.length = 256 →
    joinLanes (bitsBytes (bytesBits (laneHalf 0 b))) (bitsBytes (bytesBits (laneHalf 1 b))) = b) ∧
  (∀ (s : State) (dt : Nat) (p : Fin 4) (l0 l1 : List Bool) (st : Strobe), s.dev.mainUp = true →
    let e := s.dev.advance dt
    let hears := e.rpUp p = true ∧ e.fld (Reg.RP_PHY_STAT.RX_ASLEEP p) = 0
    let r := e.laneRecv p l0 l1
    Does (.wagonSend dt p st) s (e.wagonSend p st) ∧
    (hears → Does (.wagonRx dt p l0 l1 st) s ((r.1.wagonRxd p r.2.1 st r.2.2).freeKept p)) ∧ (¬ hears → Does (.wagonRx dt p l0 l1 st) s e) ∧
    Does (.wagonVerdict p) s (s.dev.wagonVerdict p)) ∧
  ∀ (d : Dev) (p : Fin 4) (b : List Byte) (st : Strobe) (x : Stamp) (stuff : Nat),
    let l := d.rlink p
    let stays := l.kept.filter (fun w => w.any (fun e => l.rx.any (fun x => x.fid == e.1 && decide (x.out < e.2))))
    let y := d.phy p
    let at_ := (d.wagonTx p st).time
    let runs := d.linkRuns p = true ∧ d.fld (Reg.RP_PHY_STAT.TX_ASLEEP p) = 0
    let keep := d.fld (Reg.RP_LINK_CTRL.DOWN_ACT p) = 0
    let clean := d.rsrDue p at_ = false ∧ ∀ t, l.tx = some t → t.f.failed = false ∨ t.over = true
    let plain := d.fld (Reg.CPH_RSR_CTRL.TX_CIPHER p) = 0
    let cnt := fun (c : Nat) => (Reg.RP_LINK_CNT.COUNT p c, min (2 ^ 32 - 1) (d.fld (Reg.RP_LINK_CNT.COUNT p c) + 1))
    let rcnt := fun (c : Nat) => (Reg.CPH_RSR_CNT.COUNT p c, min (2 ^ 32 - 1) (d.fld (Reg.CPH_RSR_CNT.COUNT p c) + 1))
    let al := Reg.RP_LINK_STAT.ALIGNED p
    let pass := b.length = 256 ∧ crc16.sum (b.take 14) = beAt b 14 2
    let peer := (Reg.RP_LINK_STAT.PEER_DEV p, byteAt b 1 / 8 % 32)
    let alignN := max 1 (d.fld (Reg.RP_LINK_CTRL.ALIGN_N p))
    let lossN := max 1 (d.fld (Reg.RP_LINK_CTRL.LOSS_N p))
    let h := d.wagonRxd p b st 0
    let slot := riserSlot p 1 (byteAt b 0 % 2)
    let take := d.setRlink p { l with bad := 0, cumD := beAt b 8 2, cumM := byteAt b 10 }
    let body := (take.wagonCounter p (byteAt b 0 % 2) (beAt b 2 6)).wagonBody p b (d.wagonRx p st)
    let freed := fun (k : Nat) => { l with
      bad := 0, cumD := beAt b 8 2, cumM := byteAt b 10, freedD := l.freedD + bit (k == 1), freedM := l.freedM + bit (k == 2) }
    let failing := (d.linkCnt p 5).failCont p
    let out := fun (k : Nat) (w : List Byte) (c : LaneCode) => (c.sendBits (bytesBits (laneHalf k w)))
    let line := fun (k : Nat) (s : List Bool) => Emit.lane p k (polarity (d.on (Reg.RP_LANE_TXEQ.POL_INV p k)) s)
    let got := d.riserTake (d.riserNodes p)
    -- a wagon of frames is freed once their bytes have gone on
    d.freeKept p = { d with rlinks := Tbl.set d.rlinks p { l with
      kept := stays, freedD := l.freedD + (l.kept.length - stays.length) } } ∧
    -- the wagon slot
    (¬ runs → keep → d.wagonSend p st = d) ∧
    (¬ runs → d.aligned p = false → d.rpHere p = true → ¬ keep →
      (got.2 = none → d.wagonSend p st = got.1) ∧
      ∀ f q, got.2 = some (f, q) → d.wagonSend p st = ((got.1.release f).linkCnt p 11).downDrop p 63) ∧
    (runs → d.rsrDue p at_ = true → d.wagonSend p st = (d.rsrSwitch p at_).wagonSend p st) ∧
    (∀ t, runs → d.rsrDue p at_ = false → l.tx = some t → t.f.failed = true → t.over = false →
      d.wagonSend p st = ((d.setRlink p { l with tx := none, abort := true }).linkCnt p 9).wagonSend p st) ∧
    (runs → clean → plain → d.fld al = 0 → keep →
      let e := d.wagonSend p st
      e.Sets { d with out := e.out, rlinks := e.rlinks, phys := e.phys, regs := e.regs } [] ∧ d.Regs e [cnt 2] ∧
      e.rlinks = Tbl.set d.rlinks p { l with ctr := l.ctr + 1 } ∧
      ∃ w, w.length = 256 ∧ byteAt w 0 = 0x10 ∧ beAt w 2 6 = (l.ctr + 1) % 2 ^ 48 ∧
        beAt w 8 2 = (512 + l.freedD) % 2 ^ 16 ∧ byteAt w 10 = (16 + l.freedM) % 2 ^ 8 ∧ byteAt w 13 = 0 ∧
        crc16.sum (w.take 14) = beAt w 14 2 ∧ crc32c.sum (w.take 240) = beAt w 240 4 ∧
        let a := out 0 w y.tx0
        let c := out 1 w y.tx1
        let fill := y.odd = true ∧ a.1.behind < 64 ∧ c.1.behind < 64
        e.out = (if fill then [line 1 (c.1.sendBits (bytesBits fillWord)).2, line 0 (a.1.sendBits (bytesBits fillWord)).2] else []) ++
          line 1 c.2 :: line 0 a.2 :: .wagon p w :: d.out ∧ (e.phy p).odd = !y.odd) ∧
    (runs → clean → ¬ plain → d.txKeyOk p = false → d.Sets (d.wagonSend p st) [rcnt 5]) ∧
    (runs → clean → plain → d.fld al ≠ 0 → l.homing = true ∨ (l.urgent ≠ [] ∧ 0 < l.mcredit) →
      let e := d.wagonSend p st
      (e.rlink p).homing = false ∧ (e.rlink p).urgent = (if l.homing = true then l.urgent else l.urgent.tail) ∧
      ∃ ls w, e.out = ls ++ .wagon p w :: d.out ∧ byteAt w 0 = 0x18 ∧ byteAt w 13 = 16) ∧
    -- a wagon arrives
    (stuff ≠ 0 → d.rpUp p = true → d.wagonRxd p b st stuff =
      ((d.bumpBy (Reg.RP_PHY_CNT.COUNT p 2) stuff).ev (Reg.RP_PHY_EVT.STUFF_ERR p)).wagonRxd p b st 0) ∧
    (d.linkRuns p = false → h = d) ∧
    (d.linkRuns p = true → d.fld al = 0 →
      (¬ pass → h = d.setRlink p { l with run := 0 }) ∧
      (pass → l.run + 1 < alignN → { d with rlinks := Tbl.set d.rlinks p { l with run := l.run + 1 } }.Sets h [peer]) ∧
      (pass → alignN ≤ l.run + 1 → ∃ e : Dev, h = e.wagonTake p b st ∧
        { d with rlinks := Tbl.set d.rlinks p { l with run := 0, bad := 0 } }.Sets e
          [peer, (al, 1), (Reg.RP_LINK_EVT.ALIGN_GAIN p, 1)])) ∧
    (d.linkRuns p = true → d.fld al ≠ 0 →
      (pass → ∃ e : Dev, d.Sets e [peer] ∧ h = e.wagonTake p b st) ∧
      (¬ pass → l.bad + 1 < lossN → h = failing.setRlink p { failing.rlink p with bad := l.bad + 1 }) ∧
      (¬ pass → l.cont = none → d.Sets failing [cnt 5]) ∧ (∀ i, l.cont = some i → failing = (d.linkCnt p 5).failFids p [i]) ∧
      (¬ pass → lossN ≤ l.bad + 1 → ∃ e : Dev, h = e.phyRestart p ∧
        (failing.setRlink p { failing.rlink p with bad := l.bad + 1 }).Sets e [(al, 0), (Reg.RP_LINK_EVT.ALIGN_LOSS p, 1)])) ∧
    (d.fld (Reg.CPH_RSR_CTRL.RX_CIPHER p) ≠ 0 →
      (d.slotState slot ≠ slotValid →
        { d with rlinks := Tbl.set d.rlinks p (freed (byteAt b 0 / 4 % 4)) }.Sets (d.wagonTake p b st) [rcnt 4]) ∧
      (d.slotState slot = slotValid → beAt b 2 6 ≤ d.slotCtr slot →
        { d with rlinks := Tbl.set d.rlinks p (freed (byteAt b 0 / 4 % 4)) }.Sets (d.wagonTake p b st) [rcnt 3, (Reg.CPH_EVT.REPLAY, 1)]) ∧
      (d.slotState slot = slotValid → d.slotCtr slot < beAt b 2 6 → d.wagonTake p b st = body)) ∧
    (d.fld (Reg.CPH_RSR_CTRL.RX_CIPHER p) = 0 → d.wagonTake p b st = body) ∧
    (d.fld (Reg.CPH_RSR_CTRL.RX_CIPHER p) = 0 → byteAt b 0 / 4 % 4 = 2 →
      d.wagonBody p b x = d.setRlink p { l with waits := l.waits ++ [{
        ok := crc32c.sum (b.take 240) == beAt (b.drop 240) 0 4, phase := byteAt b 0 % 2, ctr := beAt b 2 6, kind := 2, stamp := x,
        recs := (List.range (min 224 (byteAt b 13) / 16)).map (fun i => recOf (((((b.drop 16).take 224).take
          (min 224 (byteAt b 13))).drop (16 * i)).take 16)) }] }) ∧
    -- its verdict
    (l.waits = [] → d.wagonVerdict p = d) ∧
    ∀ w r, l.waits = w :: r →
      let next := { d with rlinks := Tbl.set d.rlinks p (if w.kind = 1 then { l with waits := r, kept := l.kept ++ [w.upto] }
        else { l with waits := r, freedM := l.freedM + bit (w.kind == 2) }) }
      let ws := riserSlot p 1 w.phase
      let unkeyed := w.ciph = true ∧ d.slotState ws ≠ slotValid
      let old := w.ciph = true ∧ d.slotState ws = slotValid ∧ w.ctr ≤ d.slotCtr ws
      let acc := if w.ciph = true then next.rxAccept p w.phase w.ctr else next
      let fails := fun (k : List (Fld × Nat)) => ∃ e : Dev, next.Sets e k ∧ d.wagonVerdict p = (e.failFids p w.fids).freeKept p
      (w.ok = false → fails [if w.ciph = true then rcnt 2 else cnt 6, (Reg.CPH_EVT.TAG_FAIL, 1)]) ∧
      (w.ok = true → unkeyed → fails [rcnt 4]) ∧ (w.ok = true → old → fails [rcnt 3, (Reg.CPH_EVT.REPLAY, 1)]) ∧
      (w.ok = true → ¬ unkeyed → ¬ old →
        (w.kind = 2 → ∃ e : Dev,
          { acc with hier := { d.hier with loop := d.hier.loop ++ w.recs.map (fun y => (p.val, y, w.stamp)) } }.Sets e [cnt 4] ∧
          d.wagonVerdict p = e.freeKept p) ∧
        (w.kind = 1 → w.ends = [] → ∃ e : Dev, acc.Sets e [cnt 3] ∧ d.wagonVerdict p = e.freeKept p) ∧
        (∀ i f, w.kind = 1 → w.ends = [i] → l.rx.find? (fun z => z.fid == i) = some f → ∃ e : Dev, acc.Sets e [cnt 3] ∧
          let g := e.releaseRx p f true
          d.wagonVerdict p = (g.setRlink p { g.rlink p with rx := (g.rlink p).rx.filter (fun z => z.fid != i) }).freeKept p) ∧
        (w.kind ≠ 1 → w.kind ≠ 2 → w.ends = [] → d.wagonVerdict p = acc.freeKept p))

/-- A record on a port whose receiver is aligned is handled here, forwarded, or both, by LOCAL and its destination; then each
type acts: accesses are made as bus master 3 and answered, requests that cannot be routed too, an unaddressed worker takes the
address of a probe, replies and answers complete what waits for them, and the stamps of an exchange give its error. The count
RACC_LATE (notes/assumptions/33.md) and the phase at which a record is stamped (notes/assumptions/27.md) are the model's
readings. (spec/11_riser_hierarchy.md, The management channel; spec/11_riser_hierarchy.md, Time transfer;
spec/11_riser_hierarchy.md, Global operations) -/
def Obligations.ManagementRecords : Prop :=
  (∀ (s : State) (dt : Nat) (p : Fin 4) (r : Rec) (st : Strobe), s.dev.mainUp = true →
    let e := s.dev
    let e1 := e.advance dt
    let t := fun (k : Nat) => { r with typ := k }
    let route := fun (d : Dev) (k : Nat) (x : Stamp) =>
      if d.aligned p = false then d
      else if r.loc = true then d.handle p (t k) x
      else if d.addrValid = false then d
      else if r.dst = 31 then (d.handle p (t k) x).broadcast p (t k)
      else if r.dst = d.devAddr then d.handle p (t k) x
      else d.routeRec p (t k)
    Does (.rdReq p r) s (route e 1 {}) ∧ Does (.wrReq p r) s (route e 2 {}) ∧ Does (.resp p r) s (route e 3 {}) ∧
    Does (.event p r) s (route e 4 {}) ∧ Does (.probe p r) s (route e 5 {}) ∧ Does (.probeReply p r) s (route e 6 {}) ∧
    Does (.homing p r) s (route e 7 {}) ∧ Does (.sync dt p r st) s (route e1 8 (e1.wagonRx p st)) ∧
    Does (.follow p r) s (route e 9 {}) ∧ Does (.dreq dt p r st) s (route e1 10 (e1.wagonRx p st)) ∧
    Does (.dresp p r) s (route e 11 {}) ∧ Does (.gopArm p r) s (route e 12 {}) ∧ Does (.gopCancel p r) s (route e 13 {}) ∧
    Does (.gopReport p r) s (route e 14 {})) ∧
  ∀ (d : Dev) (p : Fin 4) (r : Rec) (x : Stamp),
    let h := fun (k : Nat) => d.handle p { r with typ := k } x
    let a := r.at_ 4 4 % 2 ^ 25
    let back := fun (v : Nat) => { typ := 3, dst := r.src, loc := false, src := d.devAddr, tag := r.tag,
                                   body := beBytes (r.at_ 4 4) 4 ++ beBytes v 4 ++ beBytes 0 1 : Rec }
    let push := fun (f : RLink → RLink) => { d with rlinks := Tbl.set d.rlinks p (f (d.rlink p)) }
    let own := fun (k tag : Nat) (body : List Byte) => { typ := k, dst := 0, loc := true, src := d.devAddr, tag := tag, body := body : Rec }
    let reply := fun (e : Dev) (c : Nat) => { own 6 r.tag (beBytes c 1 ++ beBytes e.devAddr 1 ++ beBytes d.chip.part 2 ++
      beBytes d.chip.serial 8) with src := e.devAddr }
    let k1 := (Reg.RP_LINK_CNT.COUNT p 13, min (2 ^ 32 - 1) (d.fld (Reg.RP_LINK_CNT.COUNT p 13) + 1))
    (r.dst = d.devAddr → d.routeRec p r = { d with hier := { d.hier with loop := d.hier.loop ++ [(p.val, r, {})] } }) ∧
    (r.dst ≠ d.devAddr → ∀ q, d.riserToward r.dst = some q → d.routeRec p r = d.queueRec q r) ∧
    (r.dst ≠ d.devAddr → d.riserToward r.dst = none → r.typ ≠ 1 → r.typ ≠ 2 → d.Sets (d.routeRec p r) [k1]) ∧
    (r.dst ≠ d.devAddr → d.riserToward r.dst = none → r.typ = 1 ∨ r.typ = 2 → r.src ≠ d.devAddr → ∀ q, d.riserToward r.src = some q →
      ∃ e : Dev, d.Sets e [k1] ∧ d.routeRec p r = e.queueRec q { back 0 with body := beBytes (r.at_ 4 4) 4 ++ beBytes 0 4 ++ beBytes 1 1 }) ∧
    (a % 4 = 0 → h 2 = (d.busWrite .riser a (r.at_ 8 4)).routeRec 4 { back 0 with src := (d.busWrite .riser a (r.at_ 8 4)).devAddr }) ∧
    (a % 4 = 0 → h 1 = (d.busRead .riser a).1.routeRec 4 { back (d.busRead .riser a).2 with src := (d.busRead .riser a).1.devAddr }) ∧
    (∀ k v, d.hier.tags.find? (fun e => e.2 == r.tag) = some (k, v) →
      { d with hier := { d.hier with tags := Tbl.del d.hier.tags k } }.Sets (h 3) ((if Tbl.get d.hier.wrote k 0 = 0 ∧ r.at_ 12 1 = 0
          then [(Reg.RP_RACC_DATA.DATA k, r.at_ 8 4 % 2 ^ 32)] else []) ++
        [(Reg.RP_RACC_STAT.STATUS k, r.at_ 12 1 % 4), (Reg.RP_RACC_STAT.BUSY k, 0), (Reg.RP_HIER_EVT.RACC_DONE, 1)])) ∧
    (d.hier.tags.find? (fun e => e.2 == r.tag) = none → h 3 = { d with hier := { d.hier with raccLate := d.hier.raccLate + 1 } }) ∧
    (d.worker = false → r.src < 32 → d.Sets (h 4) [(Reg.RP_DEV_EVT.SUMMARY r.src,
      (d.fld (Reg.RP_DEV_EVT.SUMMARY r.src) ||| r.at_ 4 2) % 2 ^ 16), (Reg.RP_HIER_EVT.DEV_EVENT, 1)]) ∧
    (d.worker = true → h 4 = d) ∧
    (d.fld (Reg.RP_PHY_CTRL.UPPER p) ≠ 0 → h 5 = push (fun l => { l with recs := l.recs ++ [reply d 4] })) ∧
    (d.fld (Reg.RP_PHY_CTRL.UPPER p) = 0 → d.addrValid = true → h 5 = push (fun l => { l with
      recs := l.recs ++ [reply d (if d.worker = true ∧ d.fld Reg.RP_HIER_STAT.UPPER_DEV = r.src then 1 else 3)] })) ∧
    (d.fld (Reg.RP_PHY_CTRL.UPPER p) = 0 → d.addrValid = false → (push (fun l => { l with recs := l.recs ++ [reply (h 5) 0] })).Sets (h 5)
      [(Reg.RP_HIER_STAT.ADDR, r.at_ 4 1 % 32), (Reg.RP_HIER_STAT.ADDR_VALID, 1), (Reg.RP_HIER_STAT.DEPTH, (r.at_ 5 1 % 4 + 1) % 4),
        (Reg.RP_HIER_STAT.UPLINK, p.val), (Reg.RP_HIER_STAT.UPPER_DEV, r.src % 32), (Reg.RP_HIER_EVT.PROBED, 1)]) ∧
    (d.hier.probe = some p.val → { d with hier := { d.hier with probe := none } }.Sets (h 6) [
      (Reg.RP_PROBE_STAT.PEER_ADDR, r.at_ 5 1 % 32), (Reg.RP_PROBE_STAT.PEER_PART, r.at_ 6 2 % 2 ^ 16),
      (Reg.RP_PROBE_SERIAL_LO.SERIAL, r.at_ 8 8 % 2 ^ 32), (Reg.RP_PROBE_SERIAL_HI.SERIAL, r.at_ 8 8 / 2 ^ 32 % 2 ^ 32),
      (Reg.RP_PROBE_STAT.STATUS, r.at_ 4 1 % 8), (Reg.RP_PROBE_STAT.BUSY, 0), (Reg.RP_HIER_EVT.PROBE_DONE, 1)]) ∧
    (d.hier.probe ≠ some p.val → h 6 = d) ∧
    (d.pairOf p = none ∨ (∃ k ab, d.pairOf p = some (k, ab) ∧ d.pairActive k ab = p) →
      d.Sets (h 7) [(Reg.RP_LINK_EVT.HOMING_RX p, 1)]) ∧
    (∀ k ab, d.pairOf p = some (k, ab) → d.pairActive k ab ≠ p → ∃ e : Dev, d.Sets e [(Reg.RP_LINK_EVT.HOMING_RX p, 1)] ∧
      h 7 = e.pairTo k ab false) ∧
    (h 8 = if d.worker = true ∧ d.src = 2 ∧ d.riserActive (d.fld Reg.RP_HIER_STAT.UPLINK) = p.val
      then { d with hier := { d.hier with exch := some { port := p, seq := r.at_ 4 2, t2 := x.time } } } else d) ∧
    (∀ e, d.hier.exch = some e → e.port = p.val → e.seq = r.at_ 4 2 → e.t1 = none → r.at_ 10 4 / 2 ^ 30 = d.fld Reg.RP_HIER_STAT.UPPER_EPOCH →
      h 9 = { push (fun l => { l with urgent := l.urgent ++ [own 10 0 (beBytes e.seq 2)] }) with
        hier := { d.hier with exch := some { e with t1 := some (d.stampAt r) } } }) ∧
    (d.hier.exch = none → d.worker = true → d.riserActive (d.fld Reg.RP_HIER_STAT.UPLINK) = p.val →
      r.at_ 10 4 / 2 ^ 30 ≠ d.fld Reg.RP_HIER_STAT.UPPER_EPOCH → d.Sets (h 9)
        [(Reg.RP_HIER_STAT.UPPER_EPOCH, r.at_ 10 4 / 2 ^ 30 % 4), (Reg.RP_HIER_EVT.UPPER_STEPPED, 1)]) ∧
    (d.fld (Reg.RP_LINK_CTRL.XFER_EN p) ≠ 0 → h 10 = push (fun l => { l with
      recs := l.recs ++ [own 11 r.tag (beBytes (r.at_ 4 2) 2 ++ stampBytes x)] })) ∧
    (d.fld (Reg.RP_LINK_CTRL.XFER_EN p) = 0 → h 10 = d) ∧
    (∀ e t1 t3, d.hier.exch = some e → e.t1 = some t1 → e.t3 = some t3 → e.port = p.val → e.seq = r.at_ 4 2 →
      let err := t1 + ((e.t2 - t1) + (d.stampAt r - t3)) / 2 + signed 32 (d.fld (Reg.RP_XFER_ASYM.ASYM_PS p)) * psU - e.t2
      let y := { d with hier := { d.hier with exch := none } }.sampleFrom 2 err
      h 11 = if d.src = 2 then y.ev Reg.TIM_EVT.TOD_DONE else y) ∧
    (d.worker = false → h 12 = d ∧ h 13 = d) ∧
    (d.worker = true → d.fld Reg.TIM_STAT.TIME_SET = 0 → d.hier.gop = none → ∃ e : Dev,
      d.Sets e [(Reg.RP_GOP_STAT.STATE, 4), (Reg.RP_GOP_STAT.STATUS, 0x23), (Reg.RP_GOP_STAT.FAIL_DEV, 0),
        (Reg.RP_GOP_STAT.OP_ID, r.at_ 5 1 % 256)] ∧ h 12 = e.gopReportTo 0 (r.at_ 5 1) 0x23) ∧
    (∀ g, d.worker = true → d.hier.gop = some g → g.id = r.at_ 5 1 → g.op ≠ 0 → ∃ e : Dev,
      { d with hier := { d.hier with gop := none } }.Sets e [(Reg.RP_GOP_STAT.STATE, 2), (Reg.RP_GOP_STAT.STATUS, 0),
        (Reg.RP_GOP_STAT.FAIL_DEV, 0)] ∧ h 13 = e.gopReportTo 1 g.id 1) ∧
    (d.worker = true ∨ r.at_ 5 1 ≠ d.fld Reg.RP_GOP_STAT.OP_ID → h 14 = d) ∧
    (d.worker = false → r.at_ 5 1 = d.fld Reg.RP_GOP_STAT.OP_ID → r.src < 32 →
      (r.at_ 4 1 = 0 → r.at_ 6 1 = 0 → h 14 = { d with hier := { d.hier with reported := setBit d.hier.reported r.src true } }) ∧
      (r.at_ 4 1 ≠ 0 → r.at_ 6 1 = 0 → d.Sets (h 14) [(Reg.RP_GOP_DONE_MASK.MASK,
        setBit (d.fld Reg.RP_GOP_DONE_MASK.MASK) r.src true % 2 ^ 32)]) ∧
      (r.at_ 4 1 ≠ 0 → r.at_ 6 1 ≠ 0 → d.Sets (h 14) [(Reg.RP_GOP_CANCEL_MASK.MASK,
        setBit (d.fld Reg.RP_GOP_CANCEL_MASK.MASK) r.src true % 2 ^ 32)]))

/-- The device's own requests and timers: a remote access goes out with the next tag and times out; a worker reports again; a
probe is refused by its causes in order or goes out; SYNC goes to every aligned port with XFER_EN; a pair whose active member is
down switches; a global operation is refused by its causes in order, or armed, cancelled or executed at its instant. NOT_UPPER
at a port whose peer is an upper port too, what a pair's enabled member takes over, and that GOP_END does not set at a
cancellation are the model's readings (notes/assumptions/33.md). (spec/11_riser_hierarchy.md, The management channel;
spec/11_riser_hierarchy.md, Roles, depth and addresses; spec/11_riser_hierarchy.md, Time transfer; spec/11_riser_hierarchy.md,
Dual homing; spec/11_riser_hierarchy.md, Global operations) -/
def Obligations.HierarchyCommands : Prop :=
  ∀ (s : State) (dt : Nat) (m : Master) (k : Fin 4) (j : Fin 2) (v : Word), s.dev.mainUp = true →
    let e := s.dev
    let e1 := e.advance dt
    let x := v.toNat
    let cmd := [(Reg.RP_RACC_CMD.OP k, x % 2), (Reg.RP_RACC_CMD.DEV k, x / 2 % 32)]
    let idle := e.fld (Reg.RP_RACC_STAT.BUSY k) = 0
    let done := fun (c : Nat) => [(Reg.RP_RACC_STAT.STATUS k, c), (Reg.RP_RACC_STAT.BUSY k, 0), (Reg.RP_HIER_EVT.RACC_DONE, 1)]
    let less := { e with hier := { e.hier with tags := Tbl.del e.hier.tags k } }
    let port := x % 4
    let addr := bits x 2 5
    let free := e.fld Reg.RP_PROBE_STAT.BUSY = 0
    let deep := 2 ≤ e.fld Reg.RP_HIER_STAT.DEPTH
    let wrong := addr = 0 ∨ addr = 31
    let lower := e.fld (Reg.RP_PHY_CTRL.UPPER port) = 0 ∨ e.fld (Reg.RP_PHY_STAT.PEER_UPPER port) ≠ 0
    let ends := fun (c : Nat) => Effect (.probeGo m v) s (fun d => { e with hier := { e.hier with probe := none } }.Sets d
      [(Reg.RP_PROBE_STAT.STATUS, c), (Reg.RP_PROBE_STAT.BUSY, 0), (Reg.RP_HIER_EVT.PROBE_DONE, 1)])
    let asks : Rec := { typ := 5, loc := true, src := e.devAddr, body := beBytes addr 1 ++ beBytes (e.fld Reg.RP_HIER_STAT.DEPTH) 1 }
    let probing : RLink := { e.rlink port with recs := (e.rlink port).recs ++ [asks] }
    let op := x % 4
    let ctl := [(Reg.RP_GOP_CTRL.OP, op), (Reg.RP_GOP_CTRL.RESET_SELF, x / 4 % 2)]
    let noAbort := bits x 4 1 = 0 ∨ e1.hier.gop = none
    let short := e1.gopInstant < e1.time + e1.minLead * nsU
    let refused := fun (c : Nat) => Effect (.gopGo dt m v) s (fun d => e1.Sets d (ctl ++ [(Reg.RP_GOP_STAT.STATE, 4),
      (Reg.RP_GOP_STAT.STATUS, c), (Reg.RP_GOP_STAT.FAIL_DEV, 0), (Reg.RP_HIER_EVT.GOP_END, 1)]))
    -- remote access
    (idle → e.addrValid = true → Effect (.raccGo m k v) s (fun d => ∃ e2 : Dev,
      { e with hier := { e.hier with tags := Tbl.set e.hier.tags k e.hier.nextTag, wrote := Tbl.set e.hier.wrote k (x % 2), nextTag := (e.hier.nextTag + 1) % 256 } }.Sets e2
        (cmd ++ [(Reg.RP_RACC_STAT.BUSY k, 1)]) ∧
      d = e2.routeRec 4 { typ := 1 + x % 2, dst := x / 2 % 32, src := e.devAddr, tag := e.hier.nextTag
                          body := beBytes (e.fld (Reg.RP_RACC_ADDR.ADDR k)) 4 ++
                            (if x % 2 = 1 then beBytes (e.fld (Reg.RP_RACC_DATA.DATA k)) 4 else []) })) ∧
    (idle → e.addrValid = false → Effect (.raccGo m k v) s (fun d => less.Sets d (cmd ++ done 3))) ∧
    (¬ idle → Effect (.raccGo m k v) s (fun d => e.Sets d cmd)) ∧
    (¬ idle → Effect (.raccTimeout k) s (fun d => less.Sets d (done 2))) ∧
    (idle → Does (.raccTimeout k) s e) ∧
    -- events
    Does .evtRepeatExpiry s (if e.hier.summary ≠ 0 ∧ e.worker = true ∧ e.addrValid = true then
      e.routeRec 4 { typ := 4, dst := 0, src := e.devAddr, body := beBytes e.hier.summary 2 } else e) ∧
    -- probes
    (¬ free → Does (.probeGo m v) s e) ∧ (free → deep → ends 5) ∧ (free → ¬ deep → wrong → ends 6) ∧
    (free → ¬ deep → ¬ wrong → e.aligned port = false → ends 7) ∧
    (free → ¬ deep → ¬ wrong → e.aligned port = true → lower → ends 4) ∧
    (free → ¬ deep → ¬ wrong → e.aligned port = true → ¬ lower → Effect (.probeGo m v) s (fun d =>
      { e with hier := { e.hier with probe := some port }, rlinks := Tbl.set e.rlinks port probing }.Sets d
        [(Reg.RP_PROBE_STAT.BUSY, 1)])) ∧
    (e.hier.probe ≠ none → Effect .probeTimeout s (fun d => { e with hier := { e.hier with probe := none } }.Sets d
      [(Reg.RP_PROBE_STAT.STATUS, 2), (Reg.RP_PROBE_STAT.BUSY, 0), (Reg.RP_HIER_EVT.PROBE_DONE, 1)])) ∧
    (e.hier.probe = none → Does .probeTimeout s e) ∧
    -- time transfer
    Effect .xferSyncTimer s (fun d => d.regs = e.regs ∧ ∀ q < 4,
      let sends := e.aligned q = true ∧ e.fld (Reg.RP_LINK_CTRL.XFER_EN q) ≠ 0
      (sends → ∃ n, (d.rlink q).urgent = (e.rlink q).urgent ++ [{ typ := 8, loc := true, src := e.devAddr, body := beBytes n 2 }]) ∧
        (¬ sends → d.rlink q = e.rlink q)) ∧
    (e.hier.exch ≠ none → Effect .xferExchangeTimeout s (fun d => { e with hier := { e.hier with exch := none } }.Sets d
      [(Reg.TIM_CNT.COUNT 2, min (2 ^ 32 - 1) (e.fld (Reg.TIM_CNT.COUNT 2) + 1))])) ∧
    (e.hier.exch = none → Does .xferExchangeTimeout s e) ∧
    -- pairs
    (e.pair j = none → Does (.pairSwitch j) s e) ∧
    (∀ ab, e.pair j = some ab →
      let old := e.pairActive j ab
      let new := if old = ab.1 then ab.2 else ab.1
      (e.aligned old = true ∨ e.aligned new = false → Does (.pairSwitch j) s e) ∧
      (e.aligned old = false → e.aligned new = true → Effect (.pairSwitch j) s (fun d =>
        d.fld (pairAct j) = (1 - e.fld (pairAct j)) % 2 ∧ d.fld Reg.RP_HIER_EVT.PAIR_SWITCH = 1 ∧ (d.rlink new).homing = true ∧
        (d.rlink new).recs = (e.rlink new).recs ++ (e.rlink old).recs.filter (fun r => !r.loc) ∧
        (d.rlink old).recs = (e.rlink old).recs.filter (·.loc) ∧
        (∀ t, (e.rlink old).tx = some t → t.over = false → (d.rlink old).tx = none ∧ (d.rlink old).abort = true) ∧
        (e.worker = true → e.fld Reg.RP_HIER_STAT.UPLINK = old → d.fld Reg.RP_HIER_STAT.UPLINK = new)))) ∧
    -- global operations
    (e1.gen.validating = true → e1.gopCommit = 2) ∧
    (∃ e2, e1.Sets e2 ctl ∧ Does (.gopGo dt m v) s (if bits x 4 1 = 1 then e2.gopAbort.gopGo else e2.gopGo) ∧
      Does (.gopAbort dt m v) s (if bits x 3 1 = 1 then e2.gopAbort.gopGo else e2.gopAbort)) ∧
    (noAbort → e1.worker = true → Effect (.gopGo dt m v) s (fun d => e1.Sets d ctl)) ∧
    (noAbort → e1.worker = false →
      (op = 3 → refused 0x27) ∧ (op ≠ 3 → short → refused 0x21) ∧ (op ≠ 3 → ¬ short → e1.hier.gop ≠ none → refused 0x24) ∧
      (op ≠ 3 → ¬ short → e1.hier.gop = none → e1.fld Reg.TIM_STAT.TIME_SET = 0 → refused 0x23) ∧
      (op = 0 → ¬ short → e1.hier.gop = none → e1.fld Reg.TIM_STAT.TIME_SET ≠ 0 → e1.gopCommit ≠ 0 → refused (e1.gopCommit % 256)) ∧
      (op = 1 ∨ op = 2 ∨ op = 0 ∧ e1.gopCommit = 0 → ¬ short → e1.hier.gop = none → e1.fld Reg.TIM_STAT.TIME_SET ≠ 0 → Effect (.gopGo dt m v) s (fun d =>
        d.fld Reg.RP_GOP_STAT.STATE = 1 ∧ d.fld Reg.RP_GOP_STAT.STATUS = 0 ∧ d.fld Reg.RP_GOP_DONE_MASK.MASK = 0 ∧
        d.fld Reg.RP_GOP_STAT.OP_ID = (e1.fld Reg.RP_GOP_STAT.OP_ID + 1) % 256 ∧ d.hier.reported = 0 ∧
        d.hier.gop = some { op := op, id := (e1.fld Reg.RP_GOP_STAT.OP_ID + 1) % 256, t := e1.gopInstant
                            gen := e1.fld Reg.RP_GOP_GEN.GEN % 65536 }))) ∧
    (e1.hier.gop = none → bits x 3 1 = 0 → Effect (.gopAbort dt m v) s (fun d => e1.Sets d ctl)) ∧
    (e1.hier.gop = none → Does (.gopCancelPoint dt) s e1 ∧ Does (.gopExecute dt) s e1) ∧
    (∀ g, e1.hier.gop = some g →
      let late := (List.range 31).filter (fun i => decide (1 ≤ i) && bitOf (e1.fld Reg.RP_GOP_ROSTER.ROSTER) i && !bitOf e1.hier.reported i)
      (bits x 3 1 = 0 → e1.worker = false → e1.time < e1.cancelPoint g → Effect (.gopAbort dt m v) s (fun d =>
        d.fld Reg.RP_GOP_STAT.STATE = 2 ∧ d.fld Reg.RP_GOP_STAT.STATUS = 0x26 ∧ d.hier.gop = none)) ∧
      (bits x 3 1 = 0 → e1.worker = true ∨ e1.cancelPoint g ≤ e1.time → Effect (.gopAbort dt m v) s (fun d => e1.Sets d ctl)) ∧
      (late = [] ∨ e1.worker = true ∨ e1.time < e1.cancelPoint g → Does (.gopCancelPoint dt) s e1) ∧
      (∀ i r, late = i :: r → e1.worker = false → e1.cancelPoint g ≤ e1.time → Effect (.gopCancelPoint dt) s (fun d =>
        d.fld Reg.RP_GOP_STAT.STATE = 2 ∧ d.fld Reg.RP_GOP_STAT.STATUS = 0x22 ∧ d.fld Reg.RP_GOP_STAT.FAIL_DEV = i ∧ d.hier.gop = none)) ∧
      (e1.time < g.t → Does (.gopExecute dt) s e1) ∧
      (g.t ≤ e1.time → g.op = 1 → Effect (.gopExecute dt) s (fun d => d.hier.gop = none ∧ d.hier.snap = e1.snapshotOf ∧
        d.fld Reg.RP_GOP_STAT.STATE = 3 ∧ d.fld Reg.RP_SNAP_STAT.SEQ = (e1.fld Reg.RP_SNAP_STAT.SEQ + 1) % 2 ^ 16 ∧
        d.fld Reg.RP_SNAP_STAT.VALID = 1 ∧ (e1.worker = false → d.fld Reg.RP_HIER_EVT.GOP_END = 1))) ∧
      (g.t ≤ e1.time → g.op ≠ 2 → Effect (.gopExecute dt) s (fun d => d.fld Reg.RP_GOP_STAT.STATE = 3 ∧
        (e1.worker = false → d.fld Reg.RP_HIER_EVT.GOP_END = 1))) ∧
      (g.t ≤ e1.time → g.op = 2 → e1.worker = true ∨ e1.fld Reg.RP_GOP_CTRL.RESET_SELF ≠ 0 → ∃ y : Dev,
        { e1 with hier := { e1.hier with gop := none } }.Sets y ((Reg.RP_GOP_STAT.STATE, 3) ::
          if e1.worker = true then [] else [(Reg.RP_HIER_EVT.GOP_END, 1)]) ∧
        Does (.gopExecute dt) s (y.warmReset Reg.CHIPCAP_RST_CAUSE.HIER)) ∧
      (g.t ≤ e1.time → g.op = 2 → e1.worker = false → e1.fld Reg.RP_GOP_CTRL.RESET_SELF = 0 → Effect (.gopExecute dt) s (fun d =>
        { e1 with hier := { e1.hier with gop := none } }.Sets d [(Reg.RP_GOP_STAT.STATE, 3), (Reg.RP_HIER_EVT.GOP_END, 1)])))

/-! ### Host interface (spec/12) -/

/-- Domains, rings, doorbells, polls, frames in and out, vectors and the endpoint act as spec/12 says: a ring is refused by its
first reason or runs with its doorbell slot; a slot out of range, a bad descriptor and a failed read halt a ring with their
status; polls follow one another, back off, stop and resume; a record goes into its slot, or is held while its ring cannot be
written; a status line carries the indices of the rings in use; vectors go out with their address and data, or wait while
masked. Contents of host memory come with the commands (notes/assumptions/13.md). A ring enabled by REGISTER_WRITE
(notes/assumptions/13.md), descriptors read with their doorbell (notes/assumptions/39.md), the masks and events of MSI-X
(notes/assumptions/22.md) and a doorbell of a domain that may not read (notes/assumptions/50.md) are the model's readings.
(spec/12_host_rings.md, Domains and rings; spec/12_host_rings.md, Transmit; spec/12_host_rings.md, Events;
spec/12_host_rings.md, Doorbells; spec/12_host_rings.md, Receive; spec/12_host_rings.md, Interrupts) -/
def Obligations.HostRings : Prop :=
  (∀ (s : State) (dt i rtt : Nat) (m : Master) (k b : Fin 16) (h : Fin 4) (r : Fin 256) (v slot : Word) (line_ : List Nat)
      (mem : List (Nat × List Byte)) (bytes : List Byte) (up on : Bool) (speed width : BitVec 3) (vec : Fin 256)
      (adr : BitVec 64) (code : Fin 8), s.dev.mainUp = true →
    let e := s.dev
    let d0 := e.advance dt
    let dom := e.dom k
    let setDom := fun (y : Dom) => { e with host := { e.host with doms := Tbl.set e.host.doms k y } }
    let x := e.ring r
    let ev := e.evtRing r
    let kind := e.ringKind r
    let ch := e.fld (Reg.HIF_RING_CFG.CHANNEL r)
    let ls := e.fld (Reg.HIF_RING_CFG.LOG2_SIZE r)
    let halts := fun (c : Instr) (st at_ : Nat) => Effect c s (fun d => d.fld (Reg.HIF_RING_STAT.HALTED r) = 1 ∧
      d.fld (Reg.HIF_RING_STAT.STATUS r) = st ∧ d.fld (Reg.HIF_RING_ERR_IDX.IDX r) = at_ % 2 ^ 32 ∧ d.fld Reg.HIF_EVT.RING_HALT = 1)
    let busy := ∃ j < 16, e.ringEn (16 * k + j) = true
    let back := (Reg.HIF_DOM_CFG.BACKOFF_DIS k, bits v.toNat 2 1) ::
      if bits v.toNat 2 1 = 1 then [(Reg.HIF_DOM_STAT.BACKED_OFF k, 0)] else []
    let bind := v.toNat % 4
    let idle := e.hifUp = true ∧ e.ringEn r = false
    let badCfg := e.bind (r / 16) = 0 ∨ ls < 6 ∨ 16 < ls
    let msg := kind = 4 ∨ kind = 5
    let omci := e.fld (Reg.HIF_RING_CFG.MSG r) ≠ 0
    let absent := (e.bind (r / 16) = 1 ∧ e.brewHere = false) ∨ (msg ∧ (e.lnHere ch = false ∨ (omci ∧ kind = 4 ∧ e.coachHere = false) ∨
      (¬ omci ∧ e.tenderHere = false)))
    let badBind := ((kind = 1 ∨ kind = 2 ∨ msg) ∧ ¬ (e.ringKind ev = 3 ∧ e.ringEn ev = true ∧ ev / 16 = r / 16)) ∨
      (msg ∧ ∃ q < 256, q ≠ r ∧ e.ringEn q = true ∧ e.ringKind q = kind ∧ e.fld (Reg.HIF_RING_CFG.CHANNEL q) = ch ∧
        e.fld (Reg.HIF_RING_CFG.MSG q) = e.fld (Reg.HIF_RING_CFG.MSG r))
    let refused := fun (st : Nat) => Effect (.ringEnable r slot bytes) s (fun d => e.Sets d [(Reg.HIF_RING_STAT.STATUS r, st),
      (Reg.HIF_RING_STAT.HALTED r, 0), (Reg.HIF_EVT.REFUSED, 1)])
    let fits := idxSub slot.toNat (e.idx r) ≤ 2 ^ ls
    let got := ((setDom { dom with poll := false, due := false }).put (Reg.HIF_DOM_STAT.POLL_RTT k) (min 65535 rtt)).doorbellLine k line_ mem
    let fresh : RingSt := { fetch := x.fetch, rsvd := x.rsvd, hold := x.hold, halts := x.halts }
    let runs := [(Reg.HIF_RING_STAT.STATUS r, 0), (Reg.HIF_RING_STAT.HALTED r, 0), (Reg.HIF_RING_CTRL.EN r, 1), (Reg.HIF_RING_STAT.RUNNING r, 1)]
    let reading := e.host.rings.any (fun q => q.2.fetch.isSome && e.fld (Reg.HIF_RING_CFG.HPORT q.1) == h.val)
    let cnt := fun (c : Nat) => (Reg.HIF_RING_CNT.COUNT r c, min (2 ^ 32 - 1) (e.fld (Reg.HIF_RING_CNT.COUNT r c) + 1))
    let line := e.hifUp = true ∧ dom.dirty = true ∧ e.canDma k = true
    let signals := kind = 3 ∧ e.fld (Reg.HIF_RING_IRQ.IRQ_EN r) ≠ 0 ∧ 0 < x.unsig
    let errs := [(Reg.HIF_CNT.COUNT 1, min (2 ^ 32 - 1) (e.fld (Reg.HIF_CNT.COUNT 1) + 1)), (Reg.HIF_EVT.DMA_ERR, 1)]
    let rate := [(Reg.HIF_PCIE_STAT.SPEED, if up = true then speed.toNat else 0), (Reg.HIF_PCIE_STAT.WIDTH, if up = true then width.toNat else 0)]
    -- domains
    (e.hifHere = true →
      (busy → Effect (.domainBind m k v) s (fun d => e.Sets d back)) ∧
      (¬ busy → bind = 2 → e.pcieHere = false → Effect (.domainBind m k v) s (fun d => e.Sets d (back ++
        if e.hifUp = true then [(Reg.HIF_EVT.REFUSED, 1)] else []))) ∧
      (¬ busy → (bind = 2 → e.pcieHere = true) → Effect (.domainBind m k v) s (fun d =>
        { e with out := if bind = 1 then .doorbellReg k (e.dbAddr k) :: e.out else e.out }.Sets d
          (back ++ [(Reg.HIF_DOM_CFG.BIND k, bind), (Reg.HIF_DOM_STAT.POLL_ERR k, 0)]))) ∧
      Effect (.pollErrClear m k) s (fun d => e.Sets d [(Reg.HIF_DOM_STAT.POLL_ERR k, 0)]) ∧
      (e.ringEn r = false → Does (.ringDisable m r) s e) ∧
      (e.ringEn r = true → kind ≠ 2 → (kind = 3 → e.namedBy r = false) → Effect (.ringDisable m r) s (fun d =>
        e.Sets d [(Reg.HIF_RING_CTRL.EN r, 0)])) ∧
      (e.ringEn r = true → kind = 2 → ∃ e1, e.Sets e1 [(Reg.HIF_RING_CTRL.EN r, 0)] ∧
        Does (.ringDisable m r) s ((e1.each x.frames (fun d _ => d.rxDrop r)).hostPorts)) ∧
      (e.ringEn r = true → kind = 3 → e.namedBy r = true → Does (.ringDisable m r) s e)) ∧
    -- rings
    (¬ idle → Does (.ringEnable r slot bytes) s e) ∧
    (idle → badCfg → refused 0x45) ∧ (idle → ¬ badCfg → absent → refused 7) ∧
    (idle → ¬ badCfg → ¬ absent → badBind → refused 0x44) ∧
    (idle → ¬ badCfg → ¬ absent → ¬ badBind → ∃ e1, (e.setRing r { fresh with sw := e.idx r }).Sets e1 runs ∧
      Does (.ringEnable r slot bytes) s (e1.doorbell r slot.toNat (descsOf bytes))) ∧
    (idle → ¬ badCfg → ¬ absent → ¬ badBind → kind = 1 ∨ kind = 4 →
      (fits → e.canDma (r / 16) = true → Effect (.ringEnable r slot bytes) s (fun d =>
        (e.setRing r { fresh with sw := slot.toNat }).Sets d runs)) ∧
      (¬ fits → e.canDma (r / 16) = true → halts (.ringEnable r slot bytes) 0x42 (e.freeVal 32))) ∧
    (e.ringEn r = true ∨ x.fetch ≠ none → Does (.ringStopDone r) s e) ∧
    (e.ringEn r = false → x.fetch = none → Effect (.ringStopDone r) s (fun d => e.Sets d [(Reg.HIF_RING_STAT.RUNNING r, 0)])) ∧
    -- doorbells
    (e.hifUp = false ∨ e.bind k ≠ 1 → Does (.doorbellChange k line_ mem) s e) ∧
    (e.hifUp = true → e.bind k = 1 → Does (.doorbellChange k line_ mem) s (e.doorbellLine k line_ mem).1) ∧
    (e.polls k = false → Does (.doorbellPoll k) s e ∧ Does (.pollBackoff k) s e) ∧
    (e.polls k = true → dom.poll = true → Does (.doorbellPoll k) s (setDom { dom with due := true })) ∧
    (e.polls k = true → dom.poll = false → Does (.doorbellPoll k) s
      { setDom { dom with poll := true, due := false } with out := .pollRead k (e.dbAddr k) :: e.out }) ∧
    (e.polls k = true → e.fld (Reg.HIF_DOM_CFG.BACKOFF_DIS k) = 0 → Effect (.pollBackoff k) s (fun d =>
      e.Sets d [(Reg.HIF_DOM_STAT.BACKED_OFF k, 1)])) ∧
    (e.polls k = false ∨ e.fld (Reg.HIF_DOM_CFG.BACKOFF_DIS k) ≠ 0 → Does (.pollBackoff k) s e) ∧
    (dom.poll = false → Does (.pollCompletion k rtt line_ mem) s e ∧ Does (.pollError k) s e) ∧
    (dom.poll = true → got.2 = false → dom.due = false → Does (.pollCompletion k rtt line_ mem) s got.1) ∧
    (dom.poll = true → got.2 = true → dom.due = false → Does (.pollCompletion k rtt line_ mem) s (got.1.clr (Reg.HIF_DOM_STAT.BACKED_OFF k))) ∧
    (dom.poll = true → dom.due = true → Does (.pollCompletion k rtt line_ mem) s
      ((if got.2 = true then got.1.clr (Reg.HIF_DOM_STAT.BACKED_OFF k) else got.1).pollIssue k)) ∧
    (dom.poll = true → Effect (.pollError k) s (fun d => (setDom { dom with poll := false, due := false }).Sets d
      [(Reg.HIF_DOM_STAT.POLL_ERR k, 1)])) ∧
    -- transmit
    (e.hifUp = false ∨ reading = true ∨ e.txfOrder h = [] → Does (.txfFrameFetch h mem) s e) ∧
    (∀ t, e.hifUp = true → reading = false → e.txfOrder h = r.val :: t →
      let p := (descsOf (Tbl.get mem r.val [])).take (e.occupancy r)
      let room := fun (n : Nat) => (e.txRecords r (p.take n) = 0 ∨ e.evtRoom ev (e.txRecords r (p.take n)) = true) ∧
        bytesIn (e.buf (452 + h)) + (descBytes (p.take n) + 4) ≤ 16384
      (walkDescs (e.bufSize r) 15996 p 0 0 = .more → Does (.txfFrameFetch h mem) s (e.txfServe h mem t)) ∧
      (∀ st a, walkDescs (e.bufSize r) 15996 p 0 0 = .bad st a → halts (.txfFrameFetch h mem) st (e.idx r + a)) ∧
      (∀ n, walkDescs (e.bufSize r) 15996 p 0 0 = .whole n → ¬ room n → Does (.txfFrameFetch h mem) s (e.txfServe h mem t)) ∧
      (∀ n, walkDescs (e.bufSize r) 15996 p 0 0 = .whole n → room n → Effect (.txfFrameFetch h mem) s (fun d =>
        (d.ring r).fetch = some (p.take n) ∧ Tbl.get d.host.rr h 0 = r.val ∧ d.regs = e.regs))) ∧
    ((d0.ring r).fetch = none → Does (.txfFrameReadDone dt r bytes) s d0) ∧
    (∀ a t, (d0.ring r).fetch = some (a :: t) → d0.txRecords r (a :: t) ≠ 1 ∨ d0.evtRing r ≠ r →
      let n := descBytes (a :: t)
      let port := d0.fld (Reg.HIF_RING_CFG.HPORT r)
      let ts := a.tsReq || a.oneStep
      Effect (.txfFrameReadDone dt r bytes) s (fun d => ∃ e2 : Dev,
        d = e2.arrive { data := padTo 60 (padTo n (bytes.take n)), srcKind := 2, inPort := d0.devAddr * 512 + 452 + port
                        localIn := 452 + port, pad := 60 - n, stamp := d0.stamp d0.time, slice := port
                        tsReq := bit ts + 2 * bit a.oneStep, htx := if ts = true then some d0.host.nextId else none } ∧
        (e2.ring r).fetch = none ∧ e2.fld (Reg.HIF_RING_IDX.IDX r) = (d0.idx r + (t.length + 1)) % 2 ^ 32 ∧
        (e2.dom (r / 16)).dirty = true ∧
        (ts = false → e2.fld (Reg.HIF_RING_CNT.COUNT r 0) = min (2 ^ 32 - 1) (d0.fld (Reg.HIF_RING_CNT.COUNT r 0) + 1)) ∧
        (ts = true → e2.host.nextId = d0.host.nextId + 1 ∧ ∃ g, Tbl.get e2.host.stamps d0.host.nextId {} = g ∧ g.ring = r.val ∧ g.len = n))) ∧
    -- status lines and vectors
    (¬ line → Does (.statusLineWrite k) s e) ∧
    (line → Effect (.statusLineWrite k) s (fun d => (d.dom k).dirty = false ∧ e.Regs d [(Reg.HIF_DOM_STAT.BACKED_OFF k, 0)] ∧
      .statusLine k (e.stAddr k) ((List.range 16).map (fun j => if e.ringKind (16 * k + j) = 0 then 0 else e.idx (16 * k + j))) ∈ d.out ∧
      ∀ j < 16, let q := 16 * k.val + j
        let y := e.ring q
        let covers := e.ringKind q = 3 ∧ e.fld (Reg.HIF_RING_IRQ.IRQ_EN q) ≠ 0 ∧ 0 < y.unsig ∧
          (max 1 (e.fld (Reg.HIF_RING_IRQ.MOD_CNT q)) ≤ y.unsig ∨ y.modDue = true ∨ e.fld (Reg.HIF_RING_IRQ.MOD_T q) = 0)
        d.ring q = if covers then { y with unsig := 0, modDue := false } else y)) ∧
    (¬ signals → Does (.evtModTimerExpiry r) s e) ∧
    (signals → (e.dom (r / 16)).dirty = true → Does (.evtModTimerExpiry r) s (e.setRing r { x with modDue := true })) ∧
    (signals → (e.dom (r / 16)).dirty = false → Does (.evtModTimerExpiry r) s
      ((e.setRing r { x with unsig := 0, modDue := false }).sendVec (r / 16) (e.fld (Reg.HIF_RING_IRQ.VEC r)))) ∧
    (bitOf e.irqOut b = false ∨ e.hifUp = false ∨ e.fld (Reg.HIF_IRQ_ROUTE.MSG_EN b) = 0 → Does (.irqResendExpiry b) s e) ∧
    (bitOf e.irqOut b = true → e.hifUp = true → e.fld (Reg.HIF_IRQ_ROUTE.MSG_EN b) ≠ 0 → Does (.irqResendExpiry b) s
      (e.sendVec (e.fld (Reg.HIF_IRQ_ROUTE.DOM b)) (e.fld (Reg.HIF_IRQ_ROUTE.VEC b)))) ∧
    -- receive, errors
    (x.timer = false ∨ x.frames = [] → Does (.rxStarveTimeout r) s e) ∧
    (x.timer = true → x.frames ≠ [] → Does (.rxStarveTimeout r) s ((((e.rxDrop r).bump (Reg.HIF_RING_CNT.COUNT r 1)).rxRun r).hostPorts)) ∧
    (∀ f, x.timer = true → x.frames = [f] → x.filled = 0 → EffectThen (.rxStarveTimeout r) s Dev.hostPorts (fun d =>
      (d.ring r).frames = [] ∧ (d.ring r).mine = 0 ∧ d.fld (cnt 1).1 = (cnt 1).2)) ∧
    (e.fld (Reg.HIF_RING_STAT.RUNNING r) = 0 → Does (.dmaError r i) s e) ∧
    (e.fld (Reg.HIF_RING_STAT.RUNNING r) ≠ 0 → e.fld (Reg.HIF_RING_STAT.HALTED r) ≠ 0 →
      Effect (.dmaError r i) s (fun d => e.Sets d errs)) ∧
    (e.ringLive r = true → halts (.dmaError r i) 0x43 (e.idx r + i) ∧ Effect (.dmaError r i) s (fun d => ∀ f ∈ errs, d.fld f.1 = f.2)) ∧
    -- the endpoint
    (e.pcieHere = false → Does (.pcieLinkChange up speed width) s e ∧ Does (.pcieConfigWrite (.bme on)) s e) ∧
    (e.pcieHere = true → (up = true ↔ e.fld Reg.HIF_PCIE_STAT.LINK_UP ≠ 0) → Effect (.pcieLinkChange up speed width) s (fun d => e.Sets d rate)) ∧
    (e.pcieHere = true → ¬ (up = true ↔ e.fld Reg.HIF_PCIE_STAT.LINK_UP ≠ 0) → Effect (.pcieLinkChange up speed width) s (fun d =>
      e.Sets d (rate ++ (Reg.HIF_PCIE_STAT.LINK_UP, bit up) :: if e.hifUp = true then [(Reg.HIF_EVT.PCIE_LINK, 1)] else []))) ∧
    (e.pcieHere = true →
      Effect (.pcieConfigWrite (.bme on)) s (fun d => e.Sets d [(Reg.HIF_PCIE_STAT.BME, bit on)]) ∧
      Does (.pcieConfigWrite (.entry vec adr v)) s { e with host := { e.host with
        msix := Tbl.set e.host.msix vec (adr.toNat, v.toNat) } } ∧
      Does (.pcieConfigWrite (.payload code)) s { e with host := { e.host with payload := code } } ∧
      Does (.pcieConfigWrite (.readReq code)) s { e with host := { e.host with readReq := code } } ∧
      Does (.pcieConfigWrite (.funcMask on)) s { e with host := { e.host with funcMask := on } }.flushPend ∧
      Does (.pcieConfigWrite (.vecMask vec on)) s
        { e with host := { e.host with vecMask := setBit e.host.vecMask vec on } }.flushPend)) ∧
  ∀ (d : Dev) (r k v w : Nat) (l : List Desc) (line_ : List Nat) (mem : List (Nat × List Byte)) (ws : List Nat),
    let x := d.ring r
    let pend := { d with host := { d.host with pend := setBit d.host.pend (16 * k + v) true } }
    let moved := { x with sw := w % 2 ^ 32 }
    let occ := if d.ringKind r = 3 then idxSub (d.idx r) (w % 2 ^ 32) else idxSub (w % 2 ^ 32) (d.idx r)
    let n := occ - x.posted.length
    let writes := d.ringLive r = true ∧ d.canDma (r / 16) = true ∧ d.occupancy r < d.ringSize r
    let takes := d.ringLive r = true ∧ d.canDma (r / 16) = true
    let entry := Tbl.get d.host.msix (16 * k + v) (0, 0)
    (¬ takes → d.doorbell r w l = d) ∧
    (takes → d.ringSize r < occ → d.doorbell r w l = d.freed.haltRing r 0x42 (d.freeVal 32)) ∧
    (takes → occ ≤ d.ringSize r →
      (d.ringKind r ≠ 2 → d.ringKind r ≠ 3 → d.ringKind r ≠ 5 → d.doorbell r w l = d.setRing r moved) ∧
      (d.ringKind r = 2 ∨ d.ringKind r = 5 → d.doorbell r w l = (((d.readDescs r (d.idx r + x.posted.length) n).setRing r
        { moved with posted := x.posted ++ padDescs n l }).rxRun r).hostPorts) ∧
      (d.ringKind r = 3 → d.doorbell r w l = ((((d.setRing r moved).flushRecords r).haltRecs r x.halts.length).rxWake r).hostPorts)) ∧
    (d.doorbellLine k [] mem = (d, false)) ∧
    (line_.length < 16 → let a := d.doorbellLine k line_ mem
      let q := 16 * k + line_.length
      d.doorbellLine k (line_ ++ [w]) mem = if a.1.ringLive q = true ∧ a.1.canDma k = true ∧ w % 2 ^ 32 ≠ (a.1.ring q).sw
        then (a.1.doorbell q w (descsOf (Tbl.get mem q [])), true) else a) ∧
    (x.hold = [] → ¬ writes → d.record r ws = d.setRing r { x with hold := [ws] }) ∧
    (x.hold = [] → writes → let e := d.record r ws
      e.out = .record r (d.idx r) (d.slotAddr r (d.idx r)) ws :: d.out ∧ e.ring r = { x with rsvd := x.rsvd - 1, unsig := x.unsig + 1 } ∧
      d.Regs e [(Reg.HIF_RING_IDX.IDX r, (d.idx r + 1) % 2 ^ 32)] ∧ (e.dom (r / 16)).dirty = true) ∧
    (d.host.pend = 0 ∨ d.host.funcMask = true → d.flushPend = d) ∧
    (d.bind k = 0 → d.sendVec k v = d) ∧ (d.bind k = 1 → d.sendVec k v = d.emit (.vector k v false)) ∧
    (d.bind k = 2 → (d.host.funcMask = true ∨ bitOf d.host.vecMask (16 * k + v) = true → d.sendVec k v = pend) ∧
      (d.host.funcMask = false → bitOf d.host.vecMask (16 * k + v) = false →
        (d.fld Reg.HIF_PCIE_STAT.BME ≠ 0 → d.sendVec k v = (d.emit (.vector k v true)).emit (.msix entry.1 entry.2)) ∧
        (d.fld Reg.HIF_PCIE_STAT.BME = 0 → d.sendVec k v = d))) ∧
    (16 * k + v < 256 → let at_ := 16 * (16 * k + v)
      d.bar2 at_ = entry.1 % 2 ^ 32 ∧ d.bar2 (at_ + 4) = entry.1 / 2 ^ 32 ∧ d.bar2 (at_ + 8) = entry.2 ∧
      d.bar2 (at_ + 12) = bit (bitOf d.host.vecMask (16 * k + v))) ∧
    d.bar2 (0x1000 + 4 * w) = bits d.host.pend (32 * w) 32 ∧
    d.pcieId / 2 ^ 16 = d.chip.part % 2 ^ 16 ∧ Dev.pcieClass / 2 ^ 8 = 0x028000 ∧ d.maxPayload ≤ 512 ∧ d.maxRead ≤ 4096

/-! ### Generations and firmware slots (spec/13) -/

/-- The generation commands, one at a time: validation, the tests in their order, the effect of a commit at once or at its
instant, confirmation, rollback by command or timer, renumbering and discarding; an operation code of none does nothing but be
ignored while one runs; and the confirmation of a firmware trial with the boot record that it writes. That the BUSY of a
ROLLBACK ends with it (notes/assumptions/47.md) and which record copy is written without a valid one (notes/assumptions/57.md)
are the model's readings. (spec/13_config_generations.md, Commit; spec/13_config_generations.md, Drain, confirmation and scrub;
spec/13_config_generations.md, Rollback and discard; spec/13_config_generations.md, Firmware slots) -/
def Obligations.Generations : Prop :=
  ∀ (s : State) (dt : Nat) (m : Master) (nc : Bool) (expect : BitVec 16) (v : Word), s.dev.mainUp = true →
    let e := s.dev
    let b := e.advance dt
    let free := b.fld Reg.GEN_STAT.BUSY = 0
    let efree := e.fld Reg.GEN_STAT.BUSY = 0
    let ends := fun (i : Instr) (x : Dev) (st : Nat) => Effect i s (fun d => { x with gen := { x.gen with run := none } }.Sets d
      [(Reg.GEN_STAT.STATUS, st), (Reg.GEN_STAT.BUSY, 0)])
    let starts := fun (i : Instr) (timed : Bool) => Effect i s (fun d =>
      { b with gen := { b.gen with run := some (.commit timed nc expect.toNat) } }.Sets d
        [(Reg.GEN_STAT.BUSY, 1), (Reg.GEN_STAT.PENDING, 1), (Reg.PCL_GEN_STAT.COMMIT_PENDING, 1)])
    let conf := b.fld Reg.GEN_STAT.CONFIRMED ≠ 0
    let src := b.fld Reg.GEN_STAT.ARM_SRC
    let num := e.fld Reg.GEN_STAGE_NUM.NUM
    let ahead := (num + (2 ^ 32 - e.fld Reg.GEN_ACTIVE.NUM % 2 ^ 32)) % 2 ^ 32
    let takes := e.fld Reg.GEN_STAT.STAGE_OPEN ≠ 0 ∧ e.gen.pcl.log = [] ∧ e.gen.tmg.log = [] ∧ e.gen.tt.log = [] ∧
      e.gen.armed = none ∧ 1 ≤ ahead ∧ ahead ≤ 7
    let slot := e.fld Reg.GEN_FW_STAT.BOOTED
    let trial := [(Reg.GEN_FW_CTRL.TRIAL_SLOT, v.toNat % 2), (Reg.GEN_FW_CTRL.TRIAL, v.toNat / 2 % 2)]
    (¬ free → ∀ i ∈ [Instr.commit dt m nc expect, .commitAt dt m nc expect, .abort dt m, .confirm dt m, .rollback dt m],
      Effect i s (fun d => b.Sets d [(Reg.GEN_STAT.IGNORED, 1)])) ∧
    (v.toNat % 16 = 0 ∨ 8 ≤ v.toNat % 16 → Effect (.registerWrite m (BitVec.ofNat 25 Reg.GEN_CMD.ADR) v) s (fun d =>
      e.Sets d (if efree then [] else [(Reg.GEN_STAT.IGNORED, 1)]))) ∧
    (¬ efree → ∀ i ∈ [Instr.renumber m, .discard m], Effect i s (fun d => e.Sets d [(Reg.GEN_STAT.IGNORED, 1)])) ∧
    (free → starts (.commit dt m nc expect) false ∧ starts (.commitAt dt m nc expect) true ∧
      (b.gen.armed = none → ends (.abort dt m) b 8) ∧ (b.gen.armed ≠ none → src ≠ 0 → ends (.abort dt m) b 2) ∧
      (b.gen.armed ≠ none → src = 0 → Effect (.abort dt m) s (fun d =>
        { b with gen := { b.gen with run := none, armed := none } }.Sets d [(Reg.GEN_STAT.ARMED, 0),
          (Reg.GEN_STAT.PENDING, bit (b.gen.reverting || b.gen.run.isSome)),
          (Reg.PCL_GEN_STAT.COMMIT_PENDING, bit b.gen.validating), (Reg.GEN_STAT.STATUS, 0xB),
          (Reg.GEN_STAT.BUSY, 0)])) ∧
      (conf → ends (.confirm dt m) b 8 ∧ ends (.rollback dt m) b 8) ∧
      (¬ conf → Effect (.confirm dt m) s (fun d => d.fld Reg.GEN_STAT.CONFIRMED = 1 ∧ d.fld Reg.PCL_GEN_STAT.ACT_CONFIRMED = 1 ∧
        d.fld Reg.GEN_EVT.CONFIRMED = 1 ∧ d.fld Reg.GEN_STAT.STATUS = 0 ∧ d.fld Reg.GEN_STAT.BUSY = 0 ∧
        d.gen = { b.gen with run := none, confirmAt := none } ∧ b.SameRegs d [Reg.GEN_STAT.CONFIRMED,
          Reg.PCL_GEN_STAT.ACT_CONFIRMED, Reg.GEN_EVT.CONFIRMED, Reg.GEN_STAT.STATUS, Reg.GEN_STAT.BUSY,
          Family.pcl.scrubbing, Family.tmg.scrubbing, Family.tt.scrubbing])) ∧
      (¬ conf → Effect (.rollback dt m) s (fun d => RolledBack b d 2 ∧ d.fld Reg.GEN_STAT.STATUS = 0 ∧
        d.fld Reg.GEN_STAT.BUSY = 0))) ∧
    (b.gen.confirmAt = none ∨ conf → Does (.confirmTimeout dt) s b) ∧
    (b.gen.confirmAt ≠ none → ¬ conf → Effect (.confirmTimeout dt) s (fun d => RolledBack b d 1)) ∧
    ((∀ t c x, b.gen.run ≠ some (.commit t c x)) → Does (.commitValidated dt) s b) ∧
    (∀ t c x, b.gen.run = some (.commit t c x) →
      let i := Instr.commitValidated dt
      let pend := b.gen.armed ≠ none ∨ b.gen.reverting = true
      let refused := fun (st : Nat) => Effect i s (fun d => d.fld Reg.GEN_STAT.STATUS = st ∧ d.fld Reg.GEN_STAT.BUSY = 0 ∧
        d.fld Reg.GEN_EVT.REJECTED = 1 ∧ d.fld (Reg.GEN_CNT.COUNT 1) = min (2 ^ 32 - 1) (b.fld (Reg.GEN_CNT.COUNT 1) + 1) ∧
        d.gen = { b.gen with run := none })
      let opened := b.fld Reg.GEN_STAT.STAGE_OPEN ≠ 0
      let same := b.fld Reg.GEN_STAGE.NUM % 2 ^ 16 = x % 2 ^ 16
      let timely := t = false ∨ (b.fld Reg.TIM_STAT.TIME_SET ≠ 0 ∧ b.time + 1000 * nsU ≤ b.atTime)
      (pend → refused 2) ∧ (¬ pend → ¬ opened → refused 3) ∧ (¬ pend → opened → b.allReady true = false → refused 1) ∧
      (¬ pend → opened → b.allReady true = true →
        (¬ same → refused 4) ∧ (same → t = true → b.fld Reg.TIM_STAT.TIME_SET = 0 → refused 0xA) ∧
        (same → t = true → b.fld Reg.TIM_STAT.TIME_SET ≠ 0 → b.atTime < b.time + 1000 * nsU → refused 9) ∧
        (same → timely → ∀ o, firstOffence b.offences = some o → refused o.status) ∧
        (same → timely → b.offences = [] →
          (t = true → Effect i s (fun d => d.fld Reg.GEN_STAT.STATUS = 0 ∧ d.fld Reg.GEN_STAT.BUSY = 0 ∧
            d.fld Reg.GEN_STAT.ARMED = 1 ∧ d.fld Reg.GEN_STAT.ARM_SRC = 0 ∧ d.fld Reg.GEN_STAT.PENDING = 1 ∧
            d.fld Reg.PCL_GEN_STAT.COMMIT_PENDING = 1 ∧
            d.gen = { b.gen with run := none, armed := some { t := (b.atTime / (100 * psU)).toNat, noConfirm := c } })) ∧
          (t = false → Effect i s (fun d => CommitTaken b d c ∧ d.fld Reg.GEN_STAT.STATUS = 0 ∧ d.fld Reg.GEN_STAT.BUSY = 0))))) ∧
    (b.gen.armed = none ∨ src ≠ 0 → Does (.commitAtInstant dt) s b) ∧
    (∀ a, b.gen.armed = some a → src = 0 →
      (b.time < a.t * (100 * psU) → Does (.commitAtInstant dt) s b) ∧
      (a.t * (100 * psU) ≤ b.time → Effect (.commitAtInstant dt) s (fun d => CommitTaken b d a.noConfirm))) ∧
    (e.gen.reverting = false → Does .rollbackRevertDone s e) ∧
    (e.gen.reverting = true → Effect .rollbackRevertDone s (fun d => d.gen.reverting = false ∧ d.gen.pcl.log = [] ∧
      d.gen.tmg.log = [] ∧ d.gen.tt.log = [] ∧ e.Regs d [(Reg.GEN_STAT.PENDING, bit (e.gen.armed.isSome || e.gen.run.isSome)),
        (Reg.PCL_GEN_STAT.COMMIT_PENDING, bit (e.gen.armed.isSome || e.gen.validating))])) ∧
    (efree → (takes → Effect (.renumber m) s (fun d => { e with gen := { e.gen with run := none } }.Sets d
        [(Reg.GEN_STAGE.NUM, num % 2 ^ 32), (Reg.PCL_GEN_STAT.STG_TAG, num % 16), (Reg.GEN_STAT.STATUS, 0), (Reg.GEN_STAT.BUSY, 0)])) ∧
      (¬ takes → ends (.renumber m) e 6) ∧
      (e.fld Reg.GEN_STAT.HELD_KIND ≠ 2 → ends (.discard m) e 8) ∧
      (e.fld Reg.GEN_STAT.HELD_KIND = 2 → e.fld Reg.PCL_GEN_STAT.PREV_RETIRED = 0 → ends (.discard m) e 0xD) ∧
      (e.fld Reg.GEN_STAT.HELD_KIND = 2 → e.fld Reg.PCL_GEN_STAT.PREV_RETIRED ≠ 0 → Effect (.discard m) s (fun d =>
        { e with gen := { e.gen with run := some .discard } }.Sets d [(Reg.GEN_STAT.BUSY, 1), (Reg.GEN_STAT.PENDING, 1)]))) ∧
    (e.gen.run ≠ some .discard → Does .discardDone s e) ∧
    (e.gen.run = some .discard → Effect .discardDone s (fun d =>
      d.fld Reg.GEN_STAGE.NUM = (e.fld Reg.GEN_REJECTED.NUM + 1) % 2 ^ 32 ∧
      d.fld Reg.PCL_GEN_STAT.STG_TAG = (e.fld Reg.GEN_REJECTED.NUM + 1) % 16 ∧ d.fld Reg.GEN_STAT.STAGE_OPEN = 1 ∧
      d.fld Reg.GEN_STAT.HELD_KIND = 0 ∧ d.fld Reg.GEN_EVT.DISCARDED = 1 ∧ d.fld Reg.GEN_STAT.STATUS = 0 ∧
      d.fld Reg.GEN_STAT.BUSY = 0 ∧ d.gen.run = none)) ∧
    (e.cpxHere = true →
      (e.fld Reg.GEN_FW_STAT.TRIAL_RUN ≠ 0 → Effect (.fwConfirm m v) s (fun d =>
        { e with out := d.out, tru := { e.tru with recPref := slot } }.Sets d
          (trial ++ [(Reg.GEN_FW_STAT.TRIAL_RUN, 0), (Reg.GEN_FW_STAT.REC_BUSY, 1)]) ∧
        ∃ w, d.out = .flashWrite (0x1000 * (1 - e.tru.copy)) w :: e.out ∧ w.length = 24 ∧ beAt w 0 4 = 0x4F434252 ∧
          beAt w 4 4 = (e.tru.recSeq + 1) % 2 ^ 32 ∧ byteAt w 8 = slot ∧ byteAt w 9 = e.tru.flashMhz % 256 ∧
          beAt w 16 4 = crc32c.sum (w.take 16) ∧ beAt w 20 4 = crc32c.sum (w.take 16))) ∧
      (e.fld Reg.GEN_FW_STAT.TRIAL_RUN = 0 → Effect (.fwConfirm m v) s (fun d => e.Sets d trial))) ∧
    (e.fld Reg.GEN_FW_STAT.TRIAL_RUN = 0 → Does .fwTrialTimeout s e) ∧
    (e.fld Reg.GEN_FW_STAT.TRIAL_RUN ≠ 0 → Effect .fwTrialTimeout s (fun d => d.tru.trialOut = true ∧ d.tru.boot = .due ∧
      d.fld Reg.CHIPCAP_RST_CAUSE.WATCHDOG = 1 ∧ d.regs = (e.warmReset Reg.CHIPCAP_RST_CAUSE.WATCHDOG).regs)) ∧
    (e.fld Reg.GEN_FW_STAT.REC_BUSY = 0 → Does .bootRecordWriteDone s e) ∧
    (e.fld Reg.GEN_FW_STAT.REC_BUSY ≠ 0 → Effect .bootRecordWriteDone s (fun d => e.Sets d
      [(Reg.GEN_FW_STAT.PREFERRED, e.tru.recPref % 2), (Reg.GEN_FW_STAT.REC_BUSY, 0)]))

/-! ### The DRAM controller (spec/14) -/

/-- EN is taken only where the regions fit, INIT only where nothing runs, a region only while EN is 0. Requests are answered
with an error, or enter the queues of their channel; a command slot serves refresh, poll, retraining, reads and writes in this
order; a read returns its line as memory holds it, or held it before a younger write of the line came; a write that fills its
queue starts a pour; a written byte reads back and leaves every other byte alone. The addresses of the ports, the order within a
slot and what merging charges are the model's readings (notes/assumptions/29.md). (spec/14_dram.md, Regions; spec/14_dram.md,
Ports; spec/14_dram.md, Scheduling; spec/14_dram.md, Refresh; spec/14_dram.md, Row disturbance; spec/14_dram.md, Initialisation
and reset) -/
def Obligations.DramController : Prop :=
  (∀ (s : State) (dt addr len dl code ch rA rB : Nat) (m : Master) (c : Fin 4) (port i : Fin 6) (v : Word) (rfm : BitVec 4)
      (o : ReadOutcome), s.dev.mainUp = true →
    let e := s.dev
    let b := e.advance dt
    let x := v.toNat
    let st := e.fld Reg.DMC_STAT.STATE
    let wakes := e.wake.queue.any (fun k => decide (236 ≤ k.1))
    let here := (List.range 4).any e.dmcHere = true
    let den := x / 32 % 8
    let ctl := [(Reg.DMC_CTRL.KEEP, x / 4 % 2), (Reg.DMC_CTRL.RATE, x / 8 % 4), (Reg.DMC_CTRL.DENSITY, den)]
    let q := b.dch c
    let ready := b.dmcHere c = true ∧ b.fld Reg.DMC_STAT.STATE = 2
    let owed := b.fld (Reg.DMC_CH_STAT.OWED c)
    let slot := fun (P : Dev → Prop) => EffectThen (.dmcCommandSlot dt c o) s (·.lineDrain c) P
    let up := fun (d : Dev) (k : Nat) => d.fld (Reg.DMC_CNT.COUNT c k) = min (2 ^ 32 - 1) (b.fld (Reg.DMC_CNT.COUNT c k) + 1)
    let quiet := owed < 8 ∧ q.poll = false ∧ q.force = false ∧ (owed = 0 ∨ b.realTime c = true) ∧ (q.retrain = false ∨ b.realTime c = true)
    let runs := e.dmcRuns c = true
    let ech := e.dch c
    let eowed := e.fld (Reg.DMC_CH_STAT.OWED c)
    let mr4 := if Config.mr4Rank rA < Config.mr4Rank rB then rB else rA
    let hot := Config.mr4Below mr4 = true ∨ Config.mr4Limit mr4 = true
    let was := e.fld (Reg.DMC_CH_STAT.DOUBLED c) ≠ 0
    let err := fun (d : Dev) => if port.val = 5 then d else d.emit (.dramError port addr)
    let rate := (Reg.DMC_CH_STAT.MR4_RATE c, mr4 % 32)
    -- configuration and initialisation
    (here →
      (bits x 1 1 = 0 → e.fld Reg.DMC_CTRL.EN ≠ 0 ∨ e.regionsOk = true → Effect (.dmcEnable m v) s (fun d =>
        e.Sets d (ctl ++ [(Reg.DMC_CTRL.EN, 1)]))) ∧
      (bits x 1 1 = 0 → e.fld Reg.DMC_CTRL.EN = 0 → e.regionsOk = false → Effect (.dmcEnable m v) s (fun d =>
        e.Sets d (ctl ++ [(Reg.DMC_STAT.FAIL_CODE, 2), (Reg.DMC_EVT.CFG_REJ, 1)]))) ∧
      (bits x 0 1 = 0 → st ≠ 0 → st ≠ 3 → Effect (.dmcInit m v) s (fun d => e.Sets d (ctl ++ [(Reg.DMC_CTRL.EN, 0)]))) ∧
      (bits x 0 1 = 0 → st = 0 ∨ st = 3 → 4 < den → Effect (.dmcInit m v) s (fun d => e.Sets d (ctl ++
        [(Reg.DMC_STAT.FAIL_CODE, 1), (Reg.DMC_STAT.FAIL_CH, 0), (Reg.DMC_STAT.KEPT, 0), (Reg.DMC_STAT.STATE, 3),
          (Reg.DMC_CTRL.EN, 0)]))) ∧
      (bits x 0 1 = 0 → st = 0 ∨ st = 3 → den ≤ 4 → Effect (.dmcInit m v) s (fun d => d.fld Reg.DMC_STAT.STATE = 1 ∧
        d.fld Reg.DMC_STAT.FAIL_CODE = 0 ∧ d.fld Reg.DMC_CTRL.EN = 0 ∧ d.dram = { e.dram with density := den, keep := bitOf x 2, chans := [] })) ∧
      (e.fld Reg.DMC_CTRL.EN ≠ 0 → Effect (.dmcRgnWrite m i v) s (fun d => e.Sets d [(Reg.DMC_EVT.CFG_REJ, 1)])) ∧
      (e.fld Reg.DMC_CTRL.EN = 0 → Effect (.dmcRgnWrite m i v) s (fun d => e.Sets d [(⟨0x1E00020 + 4 * i.val, 0, 15⟩, x % 2 ^ 15)]))) ∧
    (st ≠ 1 ∨ wakes = true → Does (.dmcInitDone none rfm) s e ∧ Does (.dmcInitDone (some (code, ch)) rfm) s e) ∧
    (st = 1 → wakes = false → Effect (.dmcInitDone (some (code, ch)) rfm) s (fun d =>
        { e with wake := { e.wake with granted := e.wake.granted.filter (fun k => decide (k < 236)) } }.Sets d
          [(Reg.DMC_STAT.STATE, 3), (Reg.DMC_STAT.FAIL_CODE, 3 + code % 5), (Reg.DMC_STAT.FAIL_CH, ch % 16)]) ∧
      Effect (.dmcInitDone none rfm) s (fun d => d.fld Reg.DMC_STAT.STATE = 2 ∧ d.fld Reg.DMC_EVT.INIT_DONE = 1 ∧
        d.fld Reg.DMC_STAT.KEPT = bit e.dram.keep ∧ d.dram.mem = (if e.dram.keep = true then e.dram.mem else []) ∧
        (e.dmcHere c = true → d.fld (Reg.DMC_CH_STAT.RFM_SUP c) = bit (bitOf rfm.toNat c)))) ∧
    -- requests
    (b.dmcOpen = false → ∀ data, Does (.dmcRequest dt port addr len data dl) s (err b)) ∧
    (b.dmcOpen = true → ∀ data n, n = (match data with | some w => w.length | none => len) →
      (b.dramAddr port addr n = none → Does (.dmcRequest dt port addr len data dl) s (err (b.bump Reg.DMC_BAD_ADDR_CNT.COUNT))) ∧
      ∀ a, b.dramAddr port addr n = some a →
        (data = none → Does (.dmcRequest dt port addr len data dl) s (b.each (linesOf a n) (fun d la => d.lineAsk (d.dramChan la)
          (.rd { line := d.dramLine la, addr := la, port := port,
                 deadline := if port.val = 0 then some (800 * d.core + 1000 * dl) else none })))) ∧
        (∀ w, data = some w → Does (.dmcRequest dt port addr len data dl) s (b.each (linesOf a n) (fun d la => d.lineAsk (d.dramChan la)
          (.wr { line := d.dramLine la, addr := la, port := port, bytes := lineSlice a w la }))))) ∧
    Effect .regulatorRefill s (fun d => d.regs = e.regs ∧ ∀ p, 1 ≤ p → p ≤ 5 → Tbl.get d.dram.bkts p 0 =
      min (e.portBurst p : Int) (Tbl.get e.dram.bkts p 0 + 8 * e.portRate p)) ∧
    -- command slots
    (¬ ready → Does (.dmcCommandSlot dt c o) s b) ∧
    (ready →
      (quiet → slot (fun d => d = b.slotServe c o)) ∧
      (8 ≤ owed → slot (fun d => d.fld (Reg.DMC_CH_STAT.OWED c) = (owed - 1) % 16 ∧ (d.dch c).rows = [] ∧ up d 4)) ∧
      (owed < 8 → q.poll = true → slot (fun d => (d.dch c).poll = false ∧ d.regs = b.regs)) ∧
      (owed < 8 → q.poll = false → q.force = true → slot (fun d => (d.dch c).retrain = false ∧ (d.dch c).force = false ∧ up d 11)) ∧
      (owed < 8 → q.poll = false → q.force = false → 1 ≤ owed → b.realTime c = false →
        slot (fun d => b.Regs d [(Reg.DMC_CH_STAT.OWED c, (owed - 1) % 16)] ∧ (d.dch c).rows = [])) ∧
      (owed = 0 → q.poll = false → q.force = false → q.retrain = true → b.realTime c = false →
        slot (fun d => (d.dch c).retrain = false ∧ up d 11)) ∧
      (∀ r, quiet → q.pour = false → q.wq.length < b.hiWm → q.rq = [r] → slot (fun d => (d.dch c).rq = [] ∧
        (d.dch c).flight = q.flight ++ [r] ∧ up d 0 ∧ d.rowHit c r.line = true)) ∧
      (∀ w, quiet → q.pour = false → 1 < b.hiWm → q.rq = [] → q.wq = [w] → w.bytes.length = 64 → slot (fun d => (d.dch c).wq = [] ∧
        d.dram.mem = Memory.writeAt b.dram.mem w.addr w.bytes ∧ up d 1 ∧ d.out = b.out))) ∧
    (q.flight = [] → Does (.dmcReadComplete dt c o) s b) ∧
    (∀ r t, q.flight = r :: t →
      (o = .clean → r.deadline = none → Does (.dmcReadComplete dt c o) s
        ((b.setDch c { q with flight := t }).emit (.dramData r.port r.addr (r.old.getD (Memory.readN b.dram.mem r.addr 64))))) ∧
      (o = .uncorrectable → r.deadline = none → Effect (.dmcReadComplete dt c o) s (fun d =>
        d.out = .dramError r.port r.addr :: b.out ∧ up d 7 ∧ d.fld Reg.DMC_EVT.ECC_UE = 1 ∧
        d.fld Reg.DMC_UE_ADDR_LO.ADDR = r.addr % 2 ^ 32 ∧ d.fld Reg.DMC_UE_ADDR_HI.PORT = r.port % 8)) ∧
      (∀ k, o = .clean → r.deadline = some k → k < 800 * b.core → Effect (.dmcReadComplete dt c o) s (fun d =>
        d.out = .dramData r.port r.addr (r.old.getD (Memory.readN b.dram.mem r.addr 64)) :: b.out ∧ up d 2 ∧ d.fld Reg.DMC_EVT.LAT_MISS = 1))) ∧
    -- timers
    (¬ runs → Does (.refreshDue c) s e ∧ Does (.mr4PollDue c) s e ∧ Does (.mr4Result c rA rB) s e ∧ Does (.retrainDue c) s e ∧
      Does (.retrainForce c) s e) ∧
    (runs → Does (.mr4PollDue c) s (e.setDch c { ech with poll := true }) ∧
      Does (.retrainDue c) s (e.setDch c { ech with retrain := true }) ∧
      Does (.retrainForce c) s (if ech.retrain = true then e.setDch c { ech with force := true } else e) ∧
      Effect (.refreshDue c) s (fun d => e.Sets d ((Reg.DMC_CH_STAT.OWED c, min 15 (eowed + 1)) ::
        if e.realTime c = true then [(Reg.DMC_CNT.COUNT c 3, min (2 ^ 32 - 1) (e.fld (Reg.DMC_CNT.COUNT c 3) + 1))] else [])) ∧
      (¬ hot → ¬ was → Effect (.mr4Result c rA rB) s (fun d => e.Sets d [rate])) ∧
      (hot → ¬ was → Config.mr4Limit mr4 = false → eowed ≤ 4 → Effect (.mr4Result c rA rB) s (fun d => e.Sets d [rate,
        (Reg.DMC_CH_STAT.DOUBLED c, 1), (Reg.DMC_EVT.TEMP_RANGE, 1), (Reg.DMC_CH_STAT.OWED c, 2 * eowed)])) ∧
      (hot → was → Config.mr4Limit mr4 = false → Effect (.mr4Result c rA rB) s (fun d => e.Sets d [rate])) ∧
      (hot → ¬ was → Effect (.mr4Result c rA rB) s (fun d => d.fld (Reg.DMC_CH_STAT.DOUBLED c) = 1 ∧
        d.fld Reg.DMC_EVT.TEMP_RANGE = 1 ∧ d.fld (Reg.DMC_CH_STAT.OWED c) = min 8 (2 * eowed))) ∧
      (¬ hot → was → Effect (.mr4Result c rA rB) s (fun d => e.Sets d [rate, (Reg.DMC_CH_STAT.DOUBLED c, 0),
        (Reg.DMC_EVT.TEMP_RANGE, 1), (Reg.DMC_CH_STAT.OWED c, (eowed + 1) / 2 % 16)])) ∧
      (Config.mr4Limit mr4 = true → Effect (.mr4Result c rA rB) s (fun d => d.fld Reg.DMC_EVT.TEMP_LIMIT = 1 ∧
        d.fld (Reg.DMC_CNT.COUNT c 10) = min (2 ^ 32 - 1) (e.fld (Reg.DMC_CNT.COUNT c 10) + 1))))) ∧
  (∀ (d : Dev), d.regionsOk = true ↔ (∀ k < 3, (d.region k).2 = 0 ∨ (d.region k).1 + (d.region k).2 ≤ d.usableMib) ∧
    ∀ j k, j < k → k < 3 → 0 < (d.region j).2 → 0 < (d.region k).2 →
      (d.region j).1 + (d.region j).2 ≤ (d.region k).1 ∨ (d.region k).1 + (d.region k).2 ≤ (d.region j).1) ∧
  (∀ (d : Dev) (c : Nat) (r : LineRead) (w : LineWrite), (d.dch c).waits = [] →
    let x := d.dch c
    let bkt := fun (p : Nat) => Tbl.get d.dram.bkts p 0
    let charged := fun (p : Nat) => if p = 0 then d else { d with dram := { d.dram with bkts := Tbl.set d.dram.bkts p (bkt p - 64) } }
    let older := fun (y : LineRead) => if y.line = w.line ∧ y.old = none then
      { y with old := some (Memory.readN d.dram.mem y.addr 64) } else y
    let merge := fun (y : LineWrite) => if y.line = w.line then
      { y with bytes := w.bytes.foldl (fun t e => Tbl.set t e.1 e.2) y.bytes, port := w.port, merged := y.merged ++ [y.port] } else y
    let prof := r.port ≠ 0 ∧ 0 < bkt r.port ∧ d.portRate r.port ≠ 0
    ((∀ y ∈ x.wq, y.line ≠ r.line) →
      (x.rq.length < 64 → d.lineAsk c (.rd r) =
        ((charged r.port).setDch c { x with rq := x.rq ++ [{ r with inProf := decide prof }] }).pourUpdate c) ∧
      (64 ≤ x.rq.length → d.lineAsk c (.rd r) = (d.setDch c { x with waits := [.rd r] }).pourUpdate c)) ∧
    (∀ y, x.wq.find? (fun y => y.line == r.line) = some y → d.lineAsk c (.rd r) =
      (((d.setDch c x).emit (.dramData r.port r.addr (lineBytes d.dram.mem r.addr y.bytes))).readLate c r).pourUpdate c) ∧
    ((∀ y ∈ x.wq, y.line ≠ w.line) →
      (x.wq.length < 64 → d.lineAsk c (.wr w) = ((charged w.port).setDch c { x with
        wq := x.wq ++ [w], rq := x.rq.map older, flight := x.flight.map older }).pourUpdate c) ∧
      (64 ≤ x.wq.length → d.lineAsk c (.wr w) = (d.setDch c { x with waits := [.wr w] }).pourUpdate c)) ∧
    (∀ y ∈ x.wq, y.line = w.line → d.lineAsk c (.wr w) =
      ((charged w.port).setDch c { x with wq := x.wq.map merge }).pourUpdate c) ∧
    -- a late read, and a pour
    (r.deadline = none ∨ (∃ k, r.deadline = some k ∧ 800 * d.core ≤ k) → d.readLate c r = d) ∧
    (∀ k, r.deadline = some k → k < 800 * d.core → d.Sets (d.readLate c r)
      [(Reg.DMC_CNT.COUNT c 2, min (2 ^ 32 - 1) (d.fld (Reg.DMC_CNT.COUNT c 2) + 1)), (Reg.DMC_EVT.LAT_MISS, 1)]) ∧
    (x.pour = true → d.pourUpdate c = if x.wq.length ≤ d.loWm then d.setDch c { x with pour := false } else d) ∧
    (x.pour = false → x.wq.length < d.hiWm ∨ 2 ≤ d.urgencyMax c → d.pourUpdate c = d) ∧
    (x.pour = false → d.hiWm ≤ x.wq.length → d.urgencyMax c < 2 → (d.setDch c { x with pour := true }).Sets (d.pourUpdate c)
      [(Reg.DMC_CNT.COUNT c 5, min (2 ^ 32 - 1) (d.fld (Reg.DMC_CNT.COUNT c 5) + 1))])) ∧
  ∀ (m : Memory) (a b : Nat) (v : Byte), Memory.read (Memory.write m a v) b = if a = b then v else Memory.read m b

/-! ### The Crema domain (spec/15) -/

/-- Power-up begins when everything that R391 asks for holds, and goes stage by stage until every rail is good; its triggers
start a power-down from the highest stage on; faults are retried and then latched; the dying-gasp signal, the thermal levels,
the clock and the watchdog, which counts from its last restart, act as spec/15 says. THERM_SHUT only from ON and GOOD of the
rails it switches off (notes/assumptions/30.md), and when the watchdog restarts (notes/assumptions/20.md), are the model's
readings. (spec/15_power.md, Power-up; spec/15_power.md, Power-down and live insertion; spec/15_power.md, Dying gasp;
spec/15_power.md, Thermal sensors; spec/15_power.md, Real-time clock and watchdog; spec/15_power.md, Main rails) -/
def Obligations.PowerAndThermal : Prop :=
  ∀ (s : State) (dt : Nat) (m : Master) (fitted : List Nat) (k code : Fin 8) (r : Fin 6) (strap free on : Bool) (temps : List Int)
      (v : Word) (timeout : BitVec 16), s.dev.cremaUp = true →
    let e := s.dev
    let b := if e.mainUp = true then e.advance dt else e
    let pw := e.pwr
    let seq := e.seq
    let good := e.fld Reg.PWR_STAT.GOOD
    let stage := e.fld Reg.PWR_STAT.STAGE
    let sets := fun (i : Instr) (l : List (Fld × Nat)) => Effect i s (fun d => e.Sets d l)
    let set1 := fun (y : PwrSt) => { e with pwr := y }
    let begins := fun (d : Dev) => d.fld Reg.PWR_STAT.SEQ = 1 ∧ d.fld Reg.PWR_STAT.STAGE = 1
    let seen := pw.sampled = true ∧ pw.debounced = true ∧ pw.hpHigh = false
    let down := fun (d : Dev) (cause : Nat) => d.fld Reg.PWR_STAT.SEQ = 3 ∧ d.fld Reg.PWR_STAT.DOWN_CAUSE = 2 ^ cause ∧
      bitOf d.pwr.triggers cause = true
    let stops := fun (d : Dev) => d.held.rails = true ∧ d.pwr.downStage = 6 ∧ bitOf (d.fld Reg.PWR_STAT.GOOD) 6 = false ∧
      d.fld Reg.CHIPCAP_RST_CAUSE.COLD = 1 ∧ d.pwr.grace = false
    let cnt := fun (d : Dev) (x : Nat) => d.fld (Reg.PWR_CNT.COUNT x) = min (2 ^ 32 - 1) (e.fld (Reg.PWR_CNT.COUNT x) + 1)
    let g := setBit good k true % 2 ^ 8
    let isGood := (Reg.PWR_STAT.GOOD, g) :: if k.val < 6 then [(Reg.PWR_RAIL_STAT.GOOD k, 1)] else []
    let starts := seq = sqUp ∧ railStage k ≤ stage ∧ (6 ≤ k.val ∨ e.fld (Reg.PWR_RAIL_STAT.PHASES k) ≠ 0)
    let gap := seq = sqUp ∧ stage < 7 ∧ ∀ q ∈ stageRails stage, bitOf good q = true
    let raises := fun (d : Dev) => d.fld Reg.PWR_STAT.DG = 1 ∧ d.fld Reg.PWR_EVT.DG = 1 ∧ d.gasp = some b.tim.ctr
    let x := v.toNat
    let tmo := e.fld Reg.PWR_WDOG.TIMEOUT
    let fed := set1 { pw with wdog := 0 }
    let restarts := bits x 16 16 = 0x5A5A ∨ bits x 16 16 = 0 ∨ x % 2 ^ 16 ≠ tmo
    let throt := (Reg.PWR_CTRL.THROT_EN, x / 2 % 2) :: if bits x 1 1 = 0 then [(Reg.PWR_STAT.THROTTLE, 0)] else []
    let t := fun (n : Nat) => clampI (-2048) 2047 (temps.getD n 0)
    let lvl := fun (f : Fld) => 4 * (e.fld f : Int)
    let lim := 4 * ((e.fld Reg.PWR_THERM_CFG.SHUT : Int) - e.fld Reg.PWR_THERM_HYST.RECOVER)
    let shut := fun (d : Dev) => d.held = { e.held with therm := true } ∧ d.fld Reg.PWR_STAT.SEQ = 5 ∧
      d.fld Reg.PWR_EVT.THERM_SHUT = 1 ∧ bitOf (d.fld Reg.PWR_STAT.GOOD) 2 = false ∧ bitOf (d.fld Reg.PWR_STAT.GOOD) 3 = false
    -- phases, stages, rails
    (pw.sampled = true → Does (.phaseSamplingDone fitted) s e) ∧
    (pw.sampled = false → Effect (.phaseSamplingDone fitted) s (fun d => d.pwr.sampled = true ∧
      (∀ q < 6, d.fld (Reg.PWR_RAIL_STAT.PHASES q) = fitted.getD q 0 % 2 ^ phasesOf q) ∧
      (pw.debounced = true → pw.hpHigh = false → seq = sqOff → pw.triggers = 0 → begins d))) ∧
    (pw.hpHigh = true → Does .hpDebounceExpiry s e) ∧
    (pw.hpHigh = false → pw.sampled = true → seq = sqOff → pw.triggers = 0 → Effect .hpDebounceExpiry s (fun d => begins d ∧
      d.pwr = { pw with debounced := true })) ∧
    (pw.hpHigh = false → seq ≠ sqOff ∨ pw.sampled = false ∨ pw.triggers ≠ 0 →
      Does .hpDebounceExpiry s (set1 { pw with debounced := true })) ∧
    (gap → sets .stageStart [(Reg.PWR_STAT.STAGE, stage + 1)]) ∧ (¬ gap → Does .stageStart s e) ∧
    (¬ starts → Does (.railGood k strap) s e) ∧ (starts → g ≠ 255 → sets (.railGood k strap) isGood) ∧
    (starts → g = 255 → Effect (.railGood k strap) s (fun d => d.held = { e.held with rails := false } ∧
      d.fld Reg.PWR_STAT.SEQ = 2 ∧ d.fld Reg.CHIPCAP_RST_CAUSE.COLD = 1 ∧ (e.held = { rails := true } →
        d.fld Reg.RP_HIER_STAT.ROLE = bit (e.chip.part == 0x6440 || strap)))) ∧
    (e.faultApplies k code = false → Does (.railFault k code free) s e) ∧
    (e.faultApplies k code = true → Effect (.railFault k code free) s (fun d => cnt d 0 ∧ d.fld Reg.PWR_EVT.RAIL_FAULT = 1 ∧
      (k.val < 6 → d.fld (Reg.PWR_RAIL_STAT.FAULT k) = code) ∧ d.pwr.retries = (if free = true then 0 else pw.retries) ∧
      bitOf d.pwr.triggers 2 = true ∧ (seq = sqOn → down d 2 ∧ stops d) ∧ (seq = sqUp → down d 2 ∧ d.held.rails = true) ∧
      (seq = sqDown → d.fld Reg.PWR_STAT.DOWN_CAUSE = setBit (e.fld Reg.PWR_STAT.DOWN_CAUSE) 2 true % 2 ^ 5))) ∧
    (¬ (bitOf pw.triggers 2 = true ∧ seq = sqOff) → Does .faultRetryExpiry s e) ∧
    (bitOf pw.triggers 2 = true → seq = sqOff → e.fld Reg.PWR_SEQ.RETRY ≤ pw.retries → sets .faultRetryExpiry [(Reg.PWR_STAT.SEQ, 4)]) ∧
    (bitOf pw.triggers 2 = true → seq = sqOff → pw.retries < e.fld Reg.PWR_SEQ.RETRY → Effect .faultRetryExpiry s (fun d =>
      d.pwr = { pw with retries := pw.retries + 1, triggers := setBit pw.triggers 2 false } ∧
      (setBit pw.triggers 2 false = 0 → seen → begins d) ∧ (setBit pw.triggers 2 false ≠ 0 ∨ ¬ seen → d.regs = e.regs))) ∧
    -- the card, OFF, power-down
    Effect (.hpPresentChange true) s (fun d => d.fld Reg.PWR_STAT.SEATED = 0 ∧ d.pwr.hpHigh = true ∧ d.pwr.debounced = false ∧
      bitOf d.pwr.triggers 0 = true) ∧
    (seq = sqOn → Effect (.hpPresentChange true) s (fun d => down d 0 ∧ d.held = e.held ∧ d.fld Reg.PWR_STAT.SEATED = 0 ∧
      d.pwr.hpHigh = true ∧ d.pwr.debounced = false ∧ d.pwr.grace = true ∧ d.pwr.downStage = 7 ∧
      d.fld Reg.PWR_STAT.DG = (if e.fld Reg.PWR_STAT.DG = 0 then 1 else e.fld Reg.PWR_STAT.DG))) ∧
    Effect (.hpPresentChange false) s (fun d => d.fld Reg.PWR_STAT.SEATED = 1 ∧ d.pwr.hpHigh = false ∧
      bitOf d.pwr.triggers 0 = false ∧ (pw.vinLow = false → d.fld Reg.PWR_STAT.DG = 0 ∧ d.gasp = none) ∧
      (seq = sqLatched → d.pwr.retries = 0 ∧ (pw.debounced = false → d.fld Reg.PWR_STAT.SEQ = 0))) ∧
    (pw.grace = false → Does .hpGraceExpiry s e) ∧
    (pw.grace = true → pw.downStage = 7 → Effect .hpGraceExpiry s (fun d => stops d)) ∧
    (seq ≠ sqDown ∨ pw.grace = true → Does .powerDownStage s e) ∧
    (seq = sqDown → pw.grace = false → pw.downStage = 0 →
      (pw.triggers ≠ 0 ∨ ¬ seen ∨ e.held.rails = false → sets .powerDownStage [(Reg.PWR_STAT.SEQ, 0)]) ∧
      (pw.triggers = 0 → seen → e.held.rails = true → Effect .powerDownStage s begins)) ∧
    (∀ q, seq = sqDown → pw.grace = false → pw.downStage = q + 1 → Effect .powerDownStage s (fun d => d.pwr.downStage = q ∧
      ∀ y ∈ stageRails (q + 1), bitOf (d.fld Reg.PWR_STAT.GOOD) y = false)) ∧
    (¬ (bitOf pw.triggers 1 = true ∧ e.fld Reg.PWR_SEQ2.OFF_S ≠ 0) → Does .offHoldExpiry s e) ∧
    (bitOf pw.triggers 1 = true → e.fld Reg.PWR_SEQ2.OFF_S ≠ 0 → Effect .offHoldExpiry s (fun d =>
      d.pwr = { pw with triggers := setBit pw.triggers 1 false } ∧ let goes := seq = sqOff ∧ setBit pw.triggers 1 false = 0 ∧ seen
      (goes → begins d) ∧ (¬ goes → d.regs = e.regs))) ∧
    -- dying gasp
    (b.fld Reg.PWR_STAT.DG = 0 → Effect (.dyingGaspRaise dt) s (fun d => raises d ∧ d.pwr = { b.pwr with vinLow := true } ∧
      d.fld (Reg.PWR_CNT.COUNT 1) = min (2 ^ 32 - 1) (b.fld (Reg.PWR_CNT.COUNT 1) + 1))) ∧
    (b.fld Reg.PWR_STAT.DG ≠ 0 → Does (.dyingGaspRaise dt) s { b with pwr := { b.pwr with vinLow := true } }) ∧
    (pw.hpHigh = false → Effect .dyingGaspWithdraw s (fun d => { set1 { pw with vinLow := false } with gasp := none }.Sets d
      [(Reg.PWR_STAT.DG, 0)])) ∧
    (pw.hpHigh = true → e.fld Reg.PWR_STAT.DG ≠ 0 → Does .dyingGaspWithdraw s (set1 { pw with vinLow := false })) ∧
    (pw.hpHigh = true → e.fld Reg.PWR_STAT.DG = 0 → Effect .dyingGaspWithdraw s (fun d => d.fld Reg.PWR_STAT.DG = 1 ∧
      d.gasp = some e.tim.ctr ∧ d.pwr = { pw with vinLow := false })) ∧
    -- temperature
    Effect (.thermalConversion temps) s (fun d =>
      (∀ q < 12, d.fld (Reg.PWR_THERM_T.TEMP q) = unsigned 12 (t q) ∧ d.fld (Reg.PWR_THERM_T.VALID q) = 1) ∧
      ∃ top < 12, (∀ q < 12, t q ≤ t top) ∧ d.fld Reg.PWR_THERM_MAX.TEMP = unsigned 12 (t top) ∧
        d.fld Reg.PWR_THERM_MAX.SENSOR = top ∧ d.fld Reg.PWR_THERM_MAX.PEAK =
          unsigned 12 (max (t top) (signed 12 (e.fld Reg.PWR_THERM_MAX.PEAK))) ∧
        (lvl Reg.PWR_THERM_CFG.WARN ≤ t top → pw.warm = false → d.fld Reg.PWR_EVT.THERM_WARN = 1) ∧
        (e.fld Reg.PWR_STAT.THROTTLE = 0 → e.fld Reg.PWR_CTRL.THROT_EN ≠ 0 → lvl Reg.PWR_THERM_CFG.THROT ≤ t top →
          d.fld Reg.PWR_STAT.THROTTLE = 1 ∧ cnt d 2) ∧
        (t top < lvl Reg.PWR_THERM_CFG.THROT - 4 * (e.fld Reg.PWR_THERM_HYST.HYST : Int) → d.fld Reg.PWR_STAT.THROTTLE = 0 ∨
          e.fld Reg.PWR_STAT.THROTTLE = 0) ∧
        (t top < lvl Reg.PWR_THERM_CFG.CRIT → t top < lvl Reg.PWR_THERM_CFG.SHUT → d.held = e.held ∧ d.fld Reg.PWR_STAT.SEQ =
          e.fld Reg.PWR_STAT.SEQ) ∧
        (seq = sqOn → t top < lvl Reg.PWR_THERM_CFG.CRIT → lvl Reg.PWR_THERM_CFG.SHUT ≤ t top → shut d ∧ cnt d 3) ∧
        (lvl Reg.PWR_THERM_CFG.CRIT ≤ t top → bitOf d.pwr.triggers 3 = true) ∧
        (seq = sqDown → lvl Reg.PWR_THERM_CFG.CRIT ≤ t top → d.held = e.held ∧
          d.fld Reg.PWR_STAT.DOWN_CAUSE = setBit (e.fld Reg.PWR_STAT.DOWN_CAUSE) 3 true % 2 ^ 5) ∧
        (seq = sqOn → lvl Reg.PWR_THERM_CFG.CRIT ≤ t top → down d 3 ∧ stops d)) ∧
    (lim ≤ e.thermMax → Does .thermalRecovery s e) ∧
    (e.thermMax < lim → seq = sqTherm → Effect .thermalRecovery s (fun d => d.held = { e.held with therm := false } ∧
      d.fld Reg.PWR_STAT.SEQ = 2 ∧ bitOf (d.fld Reg.PWR_STAT.GOOD) 2 = true ∧ bitOf (d.fld Reg.PWR_STAT.GOOD) 3 = true ∧
      d.fld Reg.PWR_STAT.STAGE = 4 ∧ d.fld Reg.CHIPCAP_RST_CAUSE.THERMAL = 1)) ∧
    (e.thermMax < lim → seq ≠ sqTherm → bitOf pw.triggers 3 = false → Does .thermalRecovery s e) ∧
    (e.thermMax < lim → seq ≠ sqTherm → bitOf pw.triggers 3 = true → Effect .thermalRecovery s (fun d =>
      d.pwr = { pw with triggers := setBit pw.triggers 3 false } ∧ (seq = sqOff → setBit pw.triggers 3 false = 0 → seen → begins d))) ∧
    -- crystal and watchdog
    sets (.xtOkChange on) [(Reg.PWR_RTC_SUB.XT_OK, bit on)] ∧
    (tmo = 0 ∨ pw.wdog < tmo * 1250000 → Does .wdogExpiry s e) ∧
    (tmo ≠ 0 → tmo * 1250000 ≤ pw.wdog → Does .wdogExpiry s (fed.warmReset Reg.CHIPCAP_RST_CAUSE.WATCHDOG)) ∧
    -- writes of the main domain
    (e.mainUp = true → e.unit 19 = true →
      (9 * railNominal r ≤ 10 * (x % 2 ^ 11) → 10 * (x % 2 ^ 11) ≤ 11 * railNominal r →
        sets (.vsetWrite m r v) [(Reg.PWR_RAIL_VSET.VSET r, x % 2 ^ 11)]) ∧
      (10 * (x % 2 ^ 11) < 9 * railNominal r ∨ 11 * railNominal r < 10 * (x % 2 ^ 11) →
        sets (.vsetWrite m r v) [(Reg.PWR_EVT.CFG_REJ, 1)]) ∧
      (bits x 16 16 ≠ 0x5AA5 → sets (.pwrOff m v) throt) ∧
      (bits x 16 16 = 0x5AA5 → Effect (.pwrOff m v) s (fun d => bitOf d.pwr.triggers 1 = true)) ∧
      (bits x 16 16 = 0x5AA5 → seq = sqOn → Effect (.pwrOff m v) s (fun d => down d 1 ∧ stops d)) ∧
      Effect (.sliceGate m v) s (fun d => d.fld Reg.PWR_GATE.SLICE = x % 16 ∧ ∀ q < 4, bitOf x q = true → bitOf d.wake.off q = true) ∧
      (x % 16 = 0 → e.fld Reg.PWR_GATE.SLICE = 0 → sets (.sliceGate m v) [(Reg.PWR_GATE.SLICE, 0)]) ∧
      Effect (.rtcSecWrite m v) s (fun d => (set1 { pw with rtc := 0 }).Sets d [(Reg.PWR_RTC_SEC.SEC, x), (Reg.PWR_RTC_SUB.SUB, 0)]) ∧
      Effect (.wdogKick m timeout) s (fun d => fed.Sets d [(Reg.PWR_WDOG.TIMEOUT, timeout.toNat)]) ∧
      (restarts → Effect (.wdogTimeoutWrite m v) s (fun d => fed.Sets d [(Reg.PWR_WDOG.TIMEOUT, x % 2 ^ 16)])) ∧
      (¬ restarts → sets (.wdogTimeoutWrite m v) [(Reg.PWR_WDOG.TIMEOUT, x % 2 ^ 16)]))

/-! ### The trust block (spec/16) -/

/-- The boot ROM takes fuses and identity once after a cold reset, checks the slot of R363 and then the other one, and hands
over or fails, its flash pins then at high impedance; the trust commands are taken one at a time, do what spec/16 says and end
with its status; challenges and random words are fresh free values (notes/assumptions/8.md), and after every 2^20 requests the
source reseeds; whether it then finds a good seed for a challenge is a free value (notes/assumptions/57.md). When a blown fuse
shows, KEY_REVOKE of slot 2, FB_CAUSE and a part without image are the model's readings (notes/assumptions/31.md).
(spec/16_trust.md, The boot sequence; spec/16_trust.md, Anti-rollback and key revocation; spec/16_trust.md, Measurement;
spec/16_trust.md, Attestation; spec/16_trust.md, Debug; spec/16_trust.md, Commands and the random source) -/
def Obligations.TrustBlock : Prop :=
  ∀ (s : State) (m : Master) (f : Flash) (identOk seedOk good : Bool) (fw : BitVec 16) (v slot : BitVec 8) (bad : Option Nat) (wd : Word),
      s.dev.mainUp = true →
    let e := s.dev
    let t := e.tru
    let shadow := if t.cold = true then t.fuses else t.shadow
    let w := { e with tru := { t with shadow := shadow } }
    let trial := e.fld Reg.GEN_FW_CTRL.TRIAL
    let pref := (recordPick f).elim 0 (fun k => byteAt (if k = 0 then f.rec0 else f.rec1) 8 % 2)
    let first := if trial ≠ 0 then e.fld Reg.GEN_FW_CTRL.TRIAL_SLOT else pref
    let cause := fun (x : Nat) => (w.slotTry (f.slot x)).1
    let load := fun (x : Nat) => BootRun.loaded x (byteAt (f.slot x) 5) (byteAt (f.slot x) 6)
    let ended := { e with tru := { t with boot := .over } }
    let handsOver := fun (l : List (Fld × Nat)) => Effect (.bootComplete fw) s (fun d => ended.Sets d (l ++ [(Reg.TRU_BOOT_STAT.STATE, 1)]))
    let cnt := fun (c : Nat) => (Reg.TRU_CNT.COUNT c, min (2 ^ 32 - 1) (e.fld (Reg.TRU_CNT.COUNT c) + 1))
    let busy := e.fld Reg.TRU_STAT.BUSY ≠ 0
    let starts := fun (i : Instr) (r : TruRun) => Effect i s (fun d =>
      { e with tru := { t with run := some r } }.Sets d [(Reg.TRU_STAT.BUSY, 1)])
    let t0 := { t with run := none }
    let done := fun (st : Nat) => [(Reg.TRU_STAT.STATUS, st), (Reg.TRU_STAT.BUSY, 0), (Reg.TRU_EVT.CMD_DONE, 1)]
    let fin := fun (P : Dev → Prop) => Effect (.truCmdDone bad) s P
    let ends := fun (x : Tru) (l : List (Fld × Nat)) => fin (fun d => { e with tru := x }.Sets d l)
    let reseeds := 2 ^ 20 ≤ t.reqs + 1
    let served := { t with reqs := if reseeds then 0 else t.reqs + 1 }
    let arbTo := fun (x : Fuses) (n : Nat) => { x with arb := x.arb ||| (2 ^ n - 1) }
    let arbEnds := fun (n : Nat) (dead : Option Nat) (st : Nat) =>
      ends { t0 with fuses := arbTo t.fuses n, shadow := arbTo t.shadow n, deadArb := dead } (done st)
    let revoked := fun (x : Fuses) (k : Nat) => { x with revoke := setBit x.revoke k true }
    let entry := fun (g : List Byte) => beBytes e.logCount 2 ++ [6#8, 0#8, 0#8] ++ List.replicate 11 0 ++ padTo 64 (g.take 64)
    -- the boot ROM
    (t.boot ≠ .due → Does (.bootRomStart f identOk seedOk) s e) ∧
    (t.boot = .due → Effect (.bootRomStart f identOk seedOk) s (fun d => d.tru.shadow = shadow ∧ d.tru.cold = false ∧
      d.tru.ident = (if t.cold = true then identOk else t.ident) ∧ d.fld Reg.TRU_BOOT_STAT.IDENT_OK = bit d.tru.ident ∧
      (recordPick f = none → d.fld Reg.TRU_BOOT_STAT.REC_BAD = 1) ∧
      (∀ k, recordPick f = some k → let c := if k = 0 then f.rec0 else f.rec1
        d.tru.copy = k ∧ d.tru.recSeq = beAt c 4 4 ∧ d.tru.flashMhz = byteAt c 9) ∧
      (d.fld Reg.TRU_BOOT_STAT.STATE ≠ 2 → d.flashPort = if f.octal = true then .octal d.tru.flashMhz else .single) ∧ (e.cpxHere = false → d.tru.boot = .noImage) ∧
      (e.cpxHere = true → first ≤ 1 → d.fld Reg.GEN_FW_CTRL.TRIAL = 0 ∧ d.fld Reg.GEN_FW_STAT.PREFERRED = pref ∧
        d.fld (causeFld first) = cause first ∧
        (cause first = 0 → d.tru.boot = load first ∧ d.fld Reg.GEN_FW_STAT.BOOTED = first ∧
          d.fld Reg.GEN_FW_STAT.TRIAL_RUN = bit (trial != 0)) ∧
        (cause first ≠ 0 → d.fld Reg.GEN_FW_STAT.FALLBACK = 1 ∧ d.fld Reg.GEN_FW_STAT.FB_CAUSE = (if cause first = 4 then 3 else 1) ∧
          d.fld Reg.GEN_FW_STAT.TRIAL_RUN = 0 ∧ d.fld (causeFld (1 - first)) = cause (1 - first) ∧
          (cause (1 - first) = 0 → d.tru.boot = load (1 - first) ∧ d.fld Reg.GEN_FW_STAT.BOOTED = 1 - first) ∧
          (cause (1 - first) ≠ 0 → d.tru.boot = .failed))))) ∧
    (∀ x svn key, t.boot = .loaded x svn key → e.worker = false → handsOver ([(Reg.TRU_BOOT_STAT.SVN, svn % 2 ^ 7),
      (Reg.TRU_BOOT_STAT.KEY_SLOT, key % 2)] ++
      if e.tenderHere = true then [(Reg.CPX_TND_STAT.RUNNING, 1), (Reg.CPX_TND_STAT.FW_VER, fw.toNat)] else [])) ∧
    (t.boot = .noImage → e.worker = false → handsOver []) ∧
    (∀ x svn key, t.boot = .loaded x svn key ∨ t.boot = .noImage → e.worker = true → Effect (.bootComplete fw) s (fun d =>
      d.tru.boot = .over ∧ d.fld Reg.TRU_BOOT_STAT.STATE = 1 ∧ d.fld Reg.RP_HIER_CTRL.TREF_FOLLOW = 1 ∧ d.fld Reg.TIM_CTRL.SRC = 2 ∧
      ∀ p < 4, e.rpHere p = true → d.fld (Reg.RP_LINK_CTRL.EN p) = 1)) ∧
    (t.boot = .failed → Effect (.bootComplete fw) s (fun d =>
      ended.Sets d [(Reg.TRU_BOOT_STAT.STATE, 2)] ∧ d.flashPort = .highZ)) ∧
    (t.boot = .due ∨ t.boot = .over → Does (.bootComplete fw) s e) ∧
    -- commands
    (e.unit 18 = true →
      (wd.toNat % 16 = 0 ∨ 6 ≤ wd.toNat % 16 → Effect (.registerWrite m (BitVec.ofNat 25 Reg.TRU_CMD.ADR) wd) s (fun d =>
        e.Sets d (if busy then [(Reg.TRU_STAT.IGNORED, 1)] else []))) ∧
      (busy → ∀ i ∈ [Instr.attest m, .measExtend m, .dbgOpen m, .arbAdvance m v, .keyRevoke m slot],
        Effect i s (fun d => e.Sets d [(Reg.TRU_STAT.IGNORED, 1)])) ∧
      (¬ busy →
        starts (.attest m) (if t.ident = true then .attest e.attestReport else .noIdentity) ∧
        starts (.measExtend m) (.measExtend (e.wordBytes Reg.TRU_IN.DATA 16)) ∧
        starts (.dbgOpen m) (.dbgOpen e.tokenCheck.1 e.tokenCheck.2) ∧
        starts (.arbAdvance m v) (if e.fld Reg.TRU_BOOT_STAT.SVN < v.toNat ∨ 64 < v.toNat ∨ e.fld Reg.GEN_FW_STAT.TRIAL_RUN ≠ 0 then
          .arbRefused else .arb v.toNat) ∧
        starts (.keyRevoke m slot) (if 2 ≤ slot.toNat ∨ (e.fld Reg.TRU_BOOT_STAT.STATE = 1 ∧ e.cpxHere = true ∧
          e.fld Reg.TRU_BOOT_STAT.KEY_SLOT = slot.toNat) ∨ bitOf t.shadow.revoke (1 - slot.toNat) = true then .keyRefused
          else .revoke slot.toNat)) ∧
      Effect (.dbgChallengeRead m) s (fun d => d.tru = { served with chal := some (e.freeVal 128) } ∧
        d.freeCtr = e.freeCtr + (if reseeds then 2 else 1) ∧ e.SameRegs d (if reseeds then [Reg.TRU_RNG_STAT.HEALTH_OK] else []) ∧
        d.out = .busRead m (Reg.TRU_DBG_CHAL.ADR 0) (BitVec.ofNat 32 (e.freeVal 128 / 2 ^ 96 % 2 ^ 32)) :: e.out) ∧
      Effect (.rngRead m good) s (fun d => d.freeCtr = e.freeCtr + 1 ∧ d.tru = served ∧
        d.out = .busRead m Reg.TRU_RNG_DATA.ADR (BitVec.ofNat 32 (e.freeVal 32)) :: e.out ∧
        e.Regs d (if reseeds ∧ good = true then [(Reg.TRU_RNG_STAT.HEALTH_OK, 1)] else []))) ∧
    e.attestReport.length = 1536 ∧
    -- completion
    (t.run = none → fin (fun d => d = e)) ∧ (t.run = some .noIdentity → ends t0 (done 0x61)) ∧
    (t.run = some .arbRefused → ends t0 (done 0x65)) ∧ (t.run = some .keyRefused → ends t0 (done 0x66)) ∧
    (∀ r, t.run = some (.attest r) → fin (fun d => d.fld Reg.TRU_STAT.STATUS = 0 ∧ d.fld Reg.TRU_STAT.BUSY = 0 ∧
      d.fld Reg.TRU_EVT.CMD_DONE = 1 ∧ d.fld (cnt 2).1 = (cnt 2).2 ∧ ∀ n < 384, d.fld (Reg.TRU_ATT_OUT.DATA n) = beAt r (4 * n) 4)) ∧
    (∀ g, t.run = some (.measExtend g) → 64 ≤ e.logCount → ends t0 (done 0x62)) ∧
    (∀ g, t.run = some (.measExtend g) → e.logCount < 64 → fin (fun d => d.fld Reg.TRU_STAT.STATUS = 0 ∧
      d.fld Reg.TRU_STAT.BUSY = 0 ∧ d.fld Reg.TRU_EVT.CMD_DONE = 1 ∧ d.logCount = e.logCount + 1 ∧
      d.meas = digest (e.meas ++ entry g) ∧ ∀ n < 20, d.fld (Reg.TRU_LOG.DATA (20 * e.logCount + n)) = beAt (entry g) (4 * n) 4)) ∧
    (∀ st perms, t.run = some (.dbgOpen st perms) → st ≠ 0 → ends t0 (cnt 1 :: done (st % 2 ^ 8))) ∧
    (∀ perms, t.run = some (.dbgOpen 0 perms) →
      ends { t0 with opened := t.opened ||| perms, chal := none } ((Reg.TRU_EVT.DBG_OPENED, 1) :: done 0)) ∧
    (∀ n, t.run = some (.arb n) → n ≤ e.arb → ends t0 (done 0)) ∧
    (∀ n, t.run = some (.arb n) → e.arb < n → t.deadArb = none → bad = none → arbEnds n none 0) ∧
    (∀ n x, t.run = some (.arb n) → e.arb ≤ x → x < n → t.deadArb = some x ∨ (t.deadArb = none ∧ bad = some x) →
      arbEnds x (some x) 0x67) ∧
    (∀ k, t.run = some (.revoke k) → bad = none → bitOf t.deadRevoke k = false →
      ends { t0 with fuses := revoked t.fuses k, shadow := revoked t.shadow k } (done 0)) ∧
    (∀ k, t.run = some (.revoke k) → bad ≠ none ∨ bitOf t.deadRevoke k = true →
      ends { t0 with deadRevoke := setBit t.deadRevoke k true } (done 0x67)) ∧
    Effect .rngHealthFail s (fun d => { e with tru := { t with rngFail := true } }.Sets d
      [cnt 0, (Reg.TRU_RNG_STAT.HEALTH_OK, 0), (Reg.TRU_EVT.RNG_FAIL, 1)])

/-! ### Check-value units, debug, JTAG, I²C and MDIO (spec/17, spec/18) -/

/-- A check-value unit starts, takes bytes, checks and is abandoned as R422 to R426 say, and ignores another master's work; the
clock outputs and the debug reset obey the permissions; the TAP selects what each instruction drives and makes one access of the
trust block at a time; the I²C and MDIO controllers send one transaction at a time. ERR for an offset that names no register,
and the cells of the boundary register, are the model's readings (notes/assumptions/32.md, notes/assumptions/43.md). When a
written byte shows in ACC and DENIED for a wrong key (notes/assumptions/32.md), and what a debug port gives
(notes/assumptions/45.md), are the model's readings. (spec/17_check_debug.md, Check-value units; spec/17_check_debug.md, Test
multiplexers and clock observation; spec/17_check_debug.md, Boundary scan and JTAG; spec/18_pins_electrical.md, Interface
timing) -/
def Obligations.ChecksAndDebugPorts : Prop :=
  ∀ (s : State) (m : Master) (u b : Fin 4) (reg : Fin 3) (i k : Fin 2) (v : Word) (key data : BitVec 16) (pins shifted : Nat)
      (w48 : BitVec 48) (status : Fin 4) (rdata : Byte),
    let e := s.dev
    let x := v.toNat
    let sets := fun (j : Instr) (l : List (Fld × Nat)) => Effect j s (fun d => e.Sets d l)
    -- check-value units
    let foreign := e.fld (Reg.CVU_STAT.OWNED u) ≠ 0 ∧ e.fld (Reg.CVU_STAT.OWNER u) ≠ m.num
    let ctrl := [(Reg.CVU_CTRL.POLY u, x % 4), (Reg.CVU_CTRL.USE_SEED u, x / 4 % 2), (Reg.CVU_CTRL.DUAL u, x / 32 % 2)]
    let refused := [(Reg.CVU_CNT.COUNT u 1, min (2 ^ 32 - 1) (e.fld (Reg.CVU_CNT.COUNT u 1) + 1)), (Reg.CVU_EVT.FOREIGN u, 1)]
    let starts := crcOf (x % 4)
    let acc0 := if x / 4 % 2 = 1 then e.fld (Reg.CVU_SEED.VALUE u) % 2 ^ starts.w else starts.init
    let held := e.cvuCrc u
    let shows := fun (c : Crc) (acc : Nat) => [(Reg.CVU_ACC.VALUE u, acc % 2 ^ 32), (Reg.CVU_RESULT.VALUE u, c.finish acc % 2 ^ 32)]
    let takes := fun (j : Instr) (n : Nat) =>
      (foreign → sets j refused) ∧
      (¬ foreign → sets j (shows held (held.acc (e.fld (Reg.CVU_ACC.VALUE u)) (leBytes x n)) ++
        [(Reg.CVU_COUNT.VALUE u, (e.fld (Reg.CVU_COUNT.VALUE u) + n) % 2 ^ 32)]))
    let hit := fun (f : Nat → Fld) => e.fld (f u) % 2 ^ held.w = e.fld (Reg.CVU_RESULT.VALUE u)
    let a := hit Reg.CVU_EXPECT_A.VALUE
    let c := hit Reg.CVU_EXPECT_B.VALUE
    let dual := x / 32 % 2 = 1
    let ends := fun (o : Nat) (l : List (Fld × Nat)) => sets (.cvuCheck m u v) (ctrl ++ [(Reg.CVU_STAT.OUTCOME u, o),
      (Reg.CVU_STAT.OWNED u, 0)] ++ l)
    let value := [Reg.CVU_ACC.VALUE u, Reg.CVU_RESULT.VALUE u, Reg.CVU_COUNT.VALUE u].getD reg (Reg.CVU_ACC.VALUE u)
    -- clock outputs
    let fast := bitOf e.dbgPerm 0 = true ∧ 400000 * 2 ^ (x / 64 % 16) < e.ckoKhz (x % 16) (x / 16 % 4)
    let khz := e.ckoKhz (x % 16) (x / 16 % 4)
    -- the TAP
    let ir := fun (code : Nat) => { e with tap := { e.tap with ir := code }, out := .tapIr 1 :: e.out }
    let open_ := fun (j : Instr) (code perm : Nat) => Effect j s (fun d => d = ir code ∧
      d.tapInstr = if bitOf e.dbgPerm perm = true then code else 0xFF)
    let pins_ := fun (j : Instr) (code : Nat) (lvl : Nat → Bool → Option Bool) => Effect j s (fun d => d = ir code ∧
      (e.held.rails = false → e.fld Reg.PWR_STAT.SEQ ≠ 5 → ∀ n : Nat,
        d.pinTxDis n = lvl (Config.boundaryCell 0 n) (e.txDis n) ∧ d.pinTxBe n = lvl (Config.boundaryCell 1 n) (e.txBe n)))
    let cells := fun (c : Nat) (_ : Bool) => some (bitOf e.tap.boundary c)
    let own := fun (_ : Nat) (v : Bool) => some v
    let y := w48.toNat
    let scans := e.tap.ir = 0x20
    let seen := Emit.tapData (2 ^ 47 * bit e.tap.done + 2 ^ 46 * bit e.tap.err + 2 ^ 32 * e.tap.off + e.tap.data)
    -- the controllers
    let i2c := [(Reg.CHIPCAP_I2C_CMD.DEV b, x % 128), (Reg.CHIPCAP_I2C_CMD.RD b, x / 2 ^ 7 % 2), (Reg.CHIPCAP_I2C_CMD.NOREG b, x / 2 ^ 8 % 2),
      (Reg.CHIPCAP_I2C_CMD.FAST b, x / 2 ^ 9 % 2), (Reg.CHIPCAP_I2C_CMD.REG b, x / 2 ^ 16 % 256), (Reg.CHIPCAP_I2C_CMD.WDATA b, x / 2 ^ 24),
      (Reg.CHIPCAP_I2C_STAT.BUSY b, 1)]
    let mdio := [(Reg.CHIPCAP_MDIO_CMD.PRTAD k, x % 32), (Reg.CHIPCAP_MDIO_CMD.DEVAD k, x / 2 ^ 5 % 32), (Reg.CHIPCAP_MDIO_CMD.C45 k, x / 2 ^ 10 % 2),
      (Reg.CHIPCAP_MDIO_CMD.OP k, x / 2 ^ 11 % 4), (Reg.CHIPCAP_MDIO_CMD.SPEED k, x / 2 ^ 13 % 4), (Reg.CHIPCAP_MDIO_CMD.DATA k, x / 2 ^ 16),
      (Reg.CHIPCAP_MDIO_STAT.BUSY k, 1)]
    let addr := 2 * (x % 128)
    let regs_ := if bitOf x 8 = true then [] else [I2cSym.byte (x / 2 ^ 16 % 256)]
    let plan := if bitOf x 7 = true then
        (if bitOf x 8 = true then [] else [I2cSym.start, .byte addr] ++ regs_) ++ [.start, .byte (addr + 1), .read, .stop]
      else [I2cSym.start, .byte addr] ++ regs_ ++ [.byte (x / 2 ^ 24), .stop]
    let frame := List.replicate 32 true ++ msbFirst 2 (if bitOf x 10 = true then 0 else 1) ++
      msbFirst 2 (if bitOf x 10 = false ∧ (bits x 11 2 = 0 ∨ bits x 11 2 = 3) then 2 else bits x 11 2) ++
      msbFirst 5 (x % 32) ++ msbFirst 5 (bits x 5 5) ++
      if (if bitOf x 10 = true then 2 ≤ bits x 11 2 else bits x 11 2 ≠ 1) then [] else [true, false] ++ msbFirst 16 (x / 2 ^ 16)
    let can := e.fld (Reg.CHIPCAP_I2C_STAT.BUSY b) ≠ 0 ∧
      ¬ (status = 2 ∧ e.fld (Reg.CHIPCAP_I2C_CMD.RD b) ≠ 0 ∧ e.fld (Reg.CHIPCAP_I2C_CMD.NOREG b) ≠ 0)
    let i2cBusy := e.fld (Reg.CHIPCAP_I2C_STAT.BUSY b) ≠ 0
    let mdioBusy := e.fld (Reg.CHIPCAP_MDIO_STAT.BUSY k) ≠ 0
    let op := e.fld (Reg.CHIPCAP_MDIO_CMD.OP k)
    let reads := if e.fld (Reg.CHIPCAP_MDIO_CMD.C45 k) ≠ 0 then 2 ≤ op else op ≠ 1
    (e.mainUp = true →
      (e.unit 16 = true →
        (bitOf x 4 = false → bitOf x 6 = false → (foreign → sets (.cvuStart m u v) (ctrl ++ refused)) ∧
          (¬ foreign → Effect (.cvuStart m u v) s (fun d => { e with cvuPoly := Tbl.set e.cvuPoly u (x % 4) }.Sets d (ctrl ++
            shows starts acc0 ++ [(Reg.CVU_COUNT.VALUE u, 0), (Reg.CVU_STAT.OUTCOME u, 0), (Reg.CVU_STAT.OWNER u, m.num),
              (Reg.CVU_STAT.OWNED u, 1)])))) ∧
        (bitOf x 3 = false → bitOf x 4 = false → sets (.cvuAbandon m u v) (ctrl ++ [(Reg.CVU_STAT.OWNED u, 0)])) ∧
        takes (.cvuDataB m u v) 1 ∧ takes (.cvuDataH m u v) 2 ∧ takes (.cvuDataW m u v) 4 ∧
        (bitOf x 3 = false → bitOf x 6 = false → (foreign → sets (.cvuCheck m u v) (ctrl ++ refused)) ∧ (¬ foreign →
          (a → (dual → c) → ends 1 []) ∧ (a → dual → ¬ c → ends 2 [(Reg.CVU_EVT.COPY_BAD u, 1)]) ∧
          (¬ a → dual → c → ends 3 [(Reg.CVU_EVT.COPY_BAD u, 1)]) ∧
          (¬ a → (dual → ¬ c) → ends 4 [(Reg.CVU_EVT.MISMATCH u, 1),
            (Reg.CVU_CNT.COUNT u 0, min (2 ^ 32 - 1) (e.fld (Reg.CVU_CNT.COUNT u 0) + 1))]))) ∧
        Does (.cvuResultRead m u reg.castSucc) s (e.emit (.busRead m value.adr (BitVec.ofNat 32 (e.fld value % 2 ^ 32)))) ∧
        Effect (.cvuResultRead m u 3) s (fun d => e.SameRegs d [])) ∧
      -- debug
      (e.unit 17 = true →
        Effect (.ckoChange m i v) s (fun d => { e with cko := Tbl.set e.cko i (if fast then 1 else 0) }.Sets d
          ([(Reg.DBG_CKO.SRC i, x % 16), (Reg.DBG_CKO.INST i, x / 16 % 4), (Reg.DBG_CKO.DIV i, x / 64 % 16)] ++
            if fast then [(Reg.DBG_STAT.CKO_FAST, 1)] else []) ∧
          d.ckoDrive i = if bitOf e.dbgPerm 0 = true ∧ ¬ fast ∧ khz ≠ 0 then some (khz, 2 ^ (x / 64 % 16)) else none) ∧
        (key = 0xD5E7#16 → bitOf e.dbgPerm 4 = true → Does (.debugReset m key) s (e.warmReset Reg.CHIPCAP_RST_CAUSE.DEBUG)) ∧
        (¬ (key = 0xD5E7#16 ∧ bitOf e.dbgPerm 4 = true) → sets (.debugReset m key) [(Reg.DBG_STAT.DENIED, 1)])) ∧
      (i2cBusy → Does (.i2cGo m b v) s e) ∧ (¬ i2cBusy → Effect (.i2cGo m b v) s (fun d =>
        { e with out := .i2c b (bitOf x 9) (.recover :: plan) :: e.out }.Sets d i2c)) ∧
      (¬ can → Does (.i2cDone b status rdata) s e) ∧
      (can → Effect (.i2cDone b status rdata) s (fun d => { e with out := if status = 0 then e.out else .i2cStop b :: e.out }.Sets d ([(Reg.CHIPCAP_I2C_STAT.BUSY b, 0), (Reg.CHIPCAP_I2C_STAT.STATUS b, status.val)] ++
        if e.fld (Reg.CHIPCAP_I2C_CMD.RD b) ≠ 0 ∧ status = 0 then [(Reg.CHIPCAP_I2C_STAT.RDATA b, rdata.toNat)] else []))) ∧
      (mdioBusy → Does (.mdioGo m k v) s e) ∧ (¬ mdioBusy → Effect (.mdioGo m k v) s (fun d =>
        { e with out := .mdio k frame :: e.out }.Sets d mdio)) ∧
      (¬ mdioBusy → Does (.mdioDone k data) s e) ∧
      (mdioBusy → sets (.mdioDone k data) ((Reg.CHIPCAP_MDIO_STAT.BUSY k, 0) ::
        if reads then [(Reg.CHIPCAP_MDIO_CMD.DATA k, data.toNat)] else []))) ∧
    -- the TAP
    Does .tapReset s { e with tap := {} } ∧
    (e.tapUp = true →
      Does .idcode s ((ir 1).emit (.tapData e.idcode)) ∧
      Does (.samplePreload pins shifted) s ({ ir 2 with tap := { e.tap with ir := 2, boundary := shifted } }.emit (.tapData pins)) ∧
      pins_ .extest 3 cells ∧ pins_ .extestPulse 4 cells ∧ pins_ .extestTrain 5 cells ∧ pins_ .clamp 7 cells ∧
      pins_ .highz 6 (fun _ _ => none) ∧ pins_ .truAccess 0x20 own ∧ pins_ .bypass 0xFF own ∧
      (tapPerm e.tap.ir = none → e.tapInstr = 0xFF) ∧
      open_ .brewhouseDebugPort 0x40 1 ∧ open_ .tenderDebugPort 0x41 2 ∧ open_ .internalScan 0x42 3 ∧
      (¬ scans → Does (.truAccessUpdate w48) s e) ∧
      (scans → e.tap.run ≠ none → Does (.truAccessUpdate w48) s (e.emit seen)) ∧
      (scans → e.tap.run = none → Does (.truAccessUpdate w48) s { e with
        out := seen :: e.out
        tap := { e.tap with run := some (bitOf y 47, y / 2 ^ 32 % 2 ^ 14, y % 2 ^ 32), done := false } }) ∧
      (e.mainUp = true → ∀ wr off dat, e.tap.run = some (wr, off, dat) → Effect .truAccessDone s (fun d =>
        d.tap.run = none ∧ d.tap.done = true ∧ d.tap.off = off ∧ (wr = true → d.tap.data = e.tap.data) ∧
        (Reg.find (0x30000 + 4 * off) = none → e.SameRegs d [] ∧ d.tap.err = true ∧ (wr = false → d.tap.data = 0)) ∧
        (Reg.find (0x30000 + 4 * off) ≠ none → e.absent (0x30000 + 4 * off) = false → d.tap.err = false)))) ∧
    (bitOf e.dbgPerm 0 = false → ∀ o : Dev, Dev.dbgOut o e = 0) ∧
    (e.mainUp = false ∨ e.tapUp = false ∨ e.tap.run = none → Does .truAccessDone s e) ∧
    (e.tapUp = false → ∀ j ∈ [Instr.idcode, .samplePreload pins shifted, .extest, .extestPulse, .extestTrain, .highz, .clamp, .truAccess,
      .bypass, .brewhouseDebugPort, .tenderDebugPort, .internalScan, .truAccessUpdate w48], Does j s e)
end

