-- ==== Sys2Proof/Laws/Tbl.lean ====
section
/-!
SUPPORT. The laws of sparse tables and of memory: a read after a write, a write elsewhere, and the canonical form kept
by every operation.
-/
namespace Sys2Proof

variable {α : Type}

/-! ### Reading what was written -/

@[simp] theorem Tbl.get_nil (k : Nat) (d : α) : Tbl.get [] k d = d := rfl

@[simp] theorem Tbl.get_set_same (t : Tbl α) (k : Nat) (v d : α) : Tbl.get (Tbl.set t k v) k d = v := by
  induction t with
  | nil => simp [Tbl.set, Tbl.get]
  | cons e r ih =>
    simp only [Tbl.set]
    split
    · simp [Tbl.get]
    · split
      · simp [Tbl.get]
      · rename_i h; simp [Tbl.get, h, ih]

theorem Tbl.get_set_ne (t : Tbl α) {k j : Nat} (v d : α) (h : j ≠ k) : Tbl.get (Tbl.set t k v) j d = Tbl.get t j d := by
  have hk : k ≠ j := fun e => h e.symm
  induction t with
  | nil => simp [Tbl.set, Tbl.get, hk]
  | cons e r ih =>
    simp only [Tbl.set]
    split
    · simp [Tbl.get, hk]
    · split
      · rename_i h1; simp [Tbl.get, hk, h1]
      · simp [Tbl.get, ih]

theorem Tbl.get_set (t : Tbl α) (k j : Nat) (v d : α) :
    Tbl.get (Tbl.set t k v) j d = if j = k then v else Tbl.get t j d := by
  split
  · rename_i h; subst h; simp
  · exact Tbl.get_set_ne t v d ‹_›

@[simp] theorem Tbl.get_del_same (t : Tbl α) (k : Nat) (d : α) : Tbl.get (Tbl.del t k) k d = d := by
  induction t with
  | nil => rfl
  | cons e r ih =>
    simp only [Tbl.del, List.filter_cons] at ih ⊢
    by_cases h : e.1 = k
    · simp only [h, bne_self_eq_false, Bool.false_eq_true, if_false]; exact ih
    · simp only [bne_iff_ne, ne_eq, h, not_false_eq_true, if_true, Tbl.get]; exact ih

theorem Tbl.get_del_ne (t : Tbl α) {k j : Nat} (d : α) (h : j ≠ k) : Tbl.get (Tbl.del t k) j d = Tbl.get t j d := by
  induction t with
  | nil => rfl
  | cons e r ih =>
    simp only [Tbl.del, List.filter_cons] at ih ⊢
    by_cases hk : e.1 = k
    · have : ¬ e.1 = j := fun e' => h (e'.symm.trans hk)
      simp only [hk, bne_self_eq_false, Bool.false_eq_true, if_false, Tbl.get]
      rw [if_neg (fun e' => h e'.symm)]; exact ih
    · simp only [bne_iff_ne, ne_eq, hk, not_false_eq_true, if_true, Tbl.get, ih]

/-! ### Rising keys -/

theorem Tbl.above_iff {m : Nat} {t : Tbl α} : Tbl.above m t = true ↔ ∀ e ∈ t, m < e.1 := by
  simp [Tbl.above]

theorem Tbl.above_set {m k : Nat} {t : Tbl α} {v : α} (h : Tbl.above m t = true) (hk : m < k) :
    Tbl.above m (Tbl.set t k v) = true := by
  induction t with
  | nil => simp [Tbl.set, Tbl.above, hk]
  | cons e r ih =>
    rw [Tbl.above_iff] at h
    have hr : Tbl.above m r = true := Tbl.above_iff.2 (fun x hx => h x (List.mem_cons_of_mem _ hx))
    have he := h e List.mem_cons_self
    have hrs := Tbl.above_iff.1 (ih hr)
    simp only [Tbl.set]
    split
    · exact Tbl.above_iff.2 (fun x hx => by
        rcases List.mem_cons.1 hx with rfl | hx
        · exact hk
        · exact h x hx)
    · split
      · exact Tbl.above_iff.2 (fun x hx => by
          rcases List.mem_cons.1 hx with rfl | hx
          · exact hk
          · exact h x (List.mem_cons_of_mem _ hx))
      · exact Tbl.above_iff.2 (fun x hx => by
          rcases List.mem_cons.1 hx with rfl | hx
          · exact he
          · exact hrs x hx)

theorem Tbl.above_filter {m : Nat} {t : Tbl α} (p : Nat × α → Bool) (h : Tbl.above m t = true) :
    Tbl.above m (t.filter p) = true :=
  Tbl.above_iff.2 (fun x hx => Tbl.above_iff.1 h x (List.mem_filter.1 hx).1)

theorem Tbl.wf_set {t : Tbl α} (k : Nat) (v : α) (h : Tbl.wf t = true) : Tbl.wf (Tbl.set t k v) = true := by
  induction t with
  | nil => simp [Tbl.set, Tbl.wf, Tbl.above]
  | cons e r ih =>
    have hh : Tbl.above e.1 r = true ∧ Tbl.wf r = true := by simpa [Tbl.wf] using h
    simp only [Tbl.set]
    split
    · rename_i hk
      simp only [Tbl.wf, Bool.and_eq_true]
      exact ⟨Tbl.above_iff.2 (fun x hx => by
        rcases List.mem_cons.1 hx with rfl | hx
        · exact hk
        · exact lt_trans hk (Tbl.above_iff.1 hh.1 x hx)), hh⟩
    · split
      · rename_i h2; simp only [Tbl.wf, Bool.and_eq_true]; exact ⟨h2 ▸ hh.1, hh.2⟩
      · rename_i h1 h2
        simp only [Tbl.wf, Bool.and_eq_true]
        exact ⟨Tbl.above_set hh.1 (by omega), ih hh.2⟩

theorem Tbl.wf_filter {t : Tbl α} (p : Nat × α → Bool) (h : Tbl.wf t = true) : Tbl.wf (t.filter p : Tbl α) = true := by
  induction t with
  | nil => rfl
  | cons e r ih =>
    have hh : Tbl.above e.1 r = true ∧ Tbl.wf r = true := by simpa [Tbl.wf] using h
    simp only [List.filter_cons]
    split
    · simp only [Tbl.wf, Bool.and_eq_true]; exact ⟨Tbl.above_filter p hh.1, ih hh.2⟩
    · exact ih hh.2

theorem Tbl.wf_del {t : Tbl α} (k : Nat) (h : Tbl.wf t = true) : Tbl.wf (Tbl.del t k) = true := Tbl.wf_filter _ h

theorem Tbl.wf_keep {t : Tbl α} (p : Nat → Bool) (h : Tbl.wf t = true) : Tbl.wf (Tbl.keep t p) = true := Tbl.wf_filter _ h

namespace Machine

/-! ### Memory -/

theorem Memory.read_write (m : Memory) (a b : Nat) (v : Byte) :
    Memory.read (Memory.write m a v) b = if b = a then v else Memory.read m b := by
  unfold Memory.read Memory.write
  split
  · rename_i hv
    split
    · rename_i hb; subst hb; subst hv; simp
    · exact Tbl.get_del_ne m _ ‹_›
  · exact Tbl.get_set m a b v _

theorem Memory.all_set {m : Memory} {a : Nat} {v : Byte} (hv : v ≠ memDefault)
    (h : m.all (fun c => c.2 != memDefault) = true) : (Tbl.set m a v).all (fun c => c.2 != memDefault) = true := by
  induction m with
  | nil => simpa [Tbl.set] using hv
  | cons e r ih =>
    simp only [List.all_cons, Bool.and_eq_true] at h
    simp only [Tbl.set]
    split
    · simp only [List.all_cons, Bool.and_eq_true]; exact ⟨by simpa using hv, h.1, h.2⟩
    · split
      · simp only [List.all_cons, Bool.and_eq_true]; exact ⟨by simpa using hv, h.2⟩
      · simp only [List.all_cons, Bool.and_eq_true]; exact ⟨h.1, ih h.2⟩

theorem Memory.wf_write {m : Memory} (a : Nat) (v : Byte) (h : Memory.wf m = true) : Memory.wf (Memory.write m a v) = true := by
  simp only [Memory.wf, Bool.and_eq_true] at h ⊢
  unfold Memory.write
  split
  · refine ⟨Tbl.wf_del a h.1, ?_⟩
    rw [List.all_eq_true] at h ⊢
    exact fun x hx => h.2 x (List.mem_filter.1 hx).1
  · exact ⟨Tbl.wf_set a v h.1, Memory.all_set ‹_› h.2⟩

theorem Memory.wf_writeAt {m : Memory} (a : Nat) (b : List (Nat × Byte)) (h : Memory.wf m = true) :
    Memory.wf (Memory.writeAt m a b) = true := by
  unfold Memory.writeAt
  induction b generalizing m with
  | nil => exact h
  | cons e r ih => exact ih (Memory.wf_write _ _ h)

/-- A byte that no offset of the write names is unchanged. -/
theorem Memory.read_writeAt_ne (m : Memory) (a : Nat) (b : List (Nat × Byte)) (x : Nat) (h : ∀ e ∈ b, x ≠ a + e.1) :
    Memory.read (Memory.writeAt m a b) x = Memory.read m x := by
  unfold Memory.writeAt
  induction b generalizing m with
  | nil => rfl
  | cons e r ih =>
    rw [List.foldl_cons, ih _ (fun y hy => h y (List.mem_cons_of_mem _ hy)), Memory.read_write,
      if_neg (h e List.mem_cons_self)]

end Machine
end Sys2Proof
end

