-- ==== Sys2Proof/Laws/State.lean ====
section
/-!
SUPPORT. The fields of the device under the operations that update one of them: every other field is unchanged, register
fields read as before, and what was written is read back.
-/
namespace Sys2Proof.Machine

variable (d : Dev)

/-! ### put -/

@[simp] theorem Dev.put_chip (f : Fld) (v : Nat) : (d.put f v).chip = d.chip := rfl
@[simp] theorem Dev.put_held (f : Fld) (v : Nat) : (d.put f v).held = d.held := rfl
@[simp] theorem Dev.put_latch (f : Fld) (v : Nat) : (d.put f v).latch = d.latch := rfl
@[simp] theorem Dev.put_core (f : Fld) (v : Nat) : (d.put f v).core = d.core := rfl
@[simp] theorem Dev.put_slices (f : Fld) (v : Nat) : (d.put f v).slices = d.slices := rfl
@[simp] theorem Dev.put_inbuf (f : Fld) (v : Nat) : (d.put f v).inbuf = d.inbuf := rfl
@[simp] theorem Dev.put_pols (f : Fld) (v : Nat) : (d.put f v).pols = d.pols := rfl
@[simp] theorem Dev.put_hitSec (f : Fld) (v : Nat) : (d.put f v).hitSec = d.hitSec := rfl
@[simp] theorem Dev.put_gen (f : Fld) (v : Nat) : (d.put f v).gen = d.gen := rfl
@[simp] theorem Dev.put_tm (f : Fld) (v : Nat) : (d.put f v).tm = d.tm := rfl
@[simp] theorem Dev.put_macs (f : Fld) (v : Nat) : (d.put f v).macs = d.macs := rfl
@[simp] theorem Dev.put_lanes (f : Fld) (v : Nat) : (d.put f v).lanes = d.lanes := rfl
@[simp] theorem Dev.put_phys (f : Fld) (v : Nat) : (d.put f v).phys = d.phys := rfl
@[simp] theorem Dev.put_tim (f : Fld) (v : Nat) : (d.put f v).tim = d.tim := rfl
@[simp] theorem Dev.put_host (f : Fld) (v : Nat) : (d.put f v).host = d.host := rfl
@[simp] theorem Dev.put_lines (f : Fld) (v : Nat) : (d.put f v).lines = d.lines := rfl
@[simp] theorem Dev.put_acts (f : Fld) (v : Nat) : (d.put f v).acts = d.acts := rfl
@[simp] theorem Dev.put_coaches (f : Fld) (v : Nat) : (d.put f v).coaches = d.coaches := rfl
@[simp] theorem Dev.put_groups (f : Fld) (v : Nat) : (d.put f v).groups = d.groups := rfl
@[simp] theorem Dev.put_bondOrd (f : Fld) (v : Nat) : (d.put f v).bondOrd = d.bondOrd := rfl
@[simp] theorem Dev.put_prot (f : Fld) (v : Nat) : (d.put f v).prot = d.prot := rfl
@[simp] theorem Dev.put_tenderHalt (f : Fld) (v : Nat) : (d.put f v).tenderHalt = d.tenderHalt := rfl
@[simp] theorem Dev.put_gasp (f : Fld) (v : Nat) : (d.put f v).gasp = d.gasp := rfl
@[simp] theorem Dev.put_cph (f : Fld) (v : Nat) : (d.put f v).cph = d.cph := rfl
@[simp] theorem Dev.put_wake (f : Fld) (v : Nat) : (d.put f v).wake = d.wake := rfl
@[simp] theorem Dev.put_rlinks (f : Fld) (v : Nat) : (d.put f v).rlinks = d.rlinks := rfl
@[simp] theorem Dev.put_hier (f : Fld) (v : Nat) : (d.put f v).hier = d.hier := rfl
@[simp] theorem Dev.put_pwr (f : Fld) (v : Nat) : (d.put f v).pwr = d.pwr := rfl
@[simp] theorem Dev.put_dram (f : Fld) (v : Nat) : (d.put f v).dram = d.dram := rfl
@[simp] theorem Dev.put_tap (f : Fld) (v : Nat) : (d.put f v).tap = d.tap := rfl
@[simp] theorem Dev.put_cvuPoly (f : Fld) (v : Nat) : (d.put f v).cvuPoly = d.cvuPoly := rfl
@[simp] theorem Dev.put_cko (f : Fld) (v : Nat) : (d.put f v).cko = d.cko := rfl
@[simp] theorem Dev.put_tru (f : Fld) (v : Nat) : (d.put f v).tru = d.tru := rfl
@[simp] theorem Dev.put_freeCtr (f : Fld) (v : Nat) : (d.put f v).freeCtr = d.freeCtr := rfl
@[simp] theorem Dev.put_out (f : Fld) (v : Nat) : (d.put f v).out = d.out := rfl

/-! ### emit -/

@[simp] theorem Dev.emit_chip (e : Emit) : (d.emit e).chip = d.chip := rfl
@[simp] theorem Dev.emit_held (e : Emit) : (d.emit e).held = d.held := rfl
@[simp] theorem Dev.emit_regs (e : Emit) : (d.emit e).regs = d.regs := rfl
@[simp] theorem Dev.emit_latch (e : Emit) : (d.emit e).latch = d.latch := rfl
@[simp] theorem Dev.emit_core (e : Emit) : (d.emit e).core = d.core := rfl
@[simp] theorem Dev.emit_slices (e : Emit) : (d.emit e).slices = d.slices := rfl
@[simp] theorem Dev.emit_inbuf (e : Emit) : (d.emit e).inbuf = d.inbuf := rfl
@[simp] theorem Dev.emit_pols (e : Emit) : (d.emit e).pols = d.pols := rfl
@[simp] theorem Dev.emit_hitSec (e : Emit) : (d.emit e).hitSec = d.hitSec := rfl
@[simp] theorem Dev.emit_gen (e : Emit) : (d.emit e).gen = d.gen := rfl
@[simp] theorem Dev.emit_tm (e : Emit) : (d.emit e).tm = d.tm := rfl
@[simp] theorem Dev.emit_macs (e : Emit) : (d.emit e).macs = d.macs := rfl
@[simp] theorem Dev.emit_lanes (e : Emit) : (d.emit e).lanes = d.lanes := rfl
@[simp] theorem Dev.emit_phys (e : Emit) : (d.emit e).phys = d.phys := rfl
@[simp] theorem Dev.emit_tim (e : Emit) : (d.emit e).tim = d.tim := rfl
@[simp] theorem Dev.emit_host (e : Emit) : (d.emit e).host = d.host := rfl
@[simp] theorem Dev.emit_lines (e : Emit) : (d.emit e).lines = d.lines := rfl
@[simp] theorem Dev.emit_acts (e : Emit) : (d.emit e).acts = d.acts := rfl
@[simp] theorem Dev.emit_coaches (e : Emit) : (d.emit e).coaches = d.coaches := rfl
@[simp] theorem Dev.emit_groups (e : Emit) : (d.emit e).groups = d.groups := rfl
@[simp] theorem Dev.emit_bondOrd (e : Emit) : (d.emit e).bondOrd = d.bondOrd := rfl
@[simp] theorem Dev.emit_prot (e : Emit) : (d.emit e).prot = d.prot := rfl
@[simp] theorem Dev.emit_tenderHalt (e : Emit) : (d.emit e).tenderHalt = d.tenderHalt := rfl
@[simp] theorem Dev.emit_gasp (e : Emit) : (d.emit e).gasp = d.gasp := rfl
@[simp] theorem Dev.emit_cph (e : Emit) : (d.emit e).cph = d.cph := rfl
@[simp] theorem Dev.emit_wake (e : Emit) : (d.emit e).wake = d.wake := rfl
@[simp] theorem Dev.emit_rlinks (e : Emit) : (d.emit e).rlinks = d.rlinks := rfl
@[simp] theorem Dev.emit_hier (e : Emit) : (d.emit e).hier = d.hier := rfl
@[simp] theorem Dev.emit_pwr (e : Emit) : (d.emit e).pwr = d.pwr := rfl
@[simp] theorem Dev.emit_dram (e : Emit) : (d.emit e).dram = d.dram := rfl
@[simp] theorem Dev.emit_tap (e : Emit) : (d.emit e).tap = d.tap := rfl
@[simp] theorem Dev.emit_cvuPoly (e : Emit) : (d.emit e).cvuPoly = d.cvuPoly := rfl
@[simp] theorem Dev.emit_cko (e : Emit) : (d.emit e).cko = d.cko := rfl
@[simp] theorem Dev.emit_tru (e : Emit) : (d.emit e).tru = d.tru := rfl
@[simp] theorem Dev.emit_freeCtr (e : Emit) : (d.emit e).freeCtr = d.freeCtr := rfl
@[simp] theorem Dev.emit_fld (e : Emit) (g : Fld) : (d.emit e).fld g = d.fld g := rfl

/-! ### freed -/

@[simp] theorem Dev.freed_chip : (d.freed).chip = d.chip := rfl
@[simp] theorem Dev.freed_held : (d.freed).held = d.held := rfl
@[simp] theorem Dev.freed_regs : (d.freed).regs = d.regs := rfl
@[simp] theorem Dev.freed_latch : (d.freed).latch = d.latch := rfl
@[simp] theorem Dev.freed_core : (d.freed).core = d.core := rfl
@[simp] theorem Dev.freed_slices : (d.freed).slices = d.slices := rfl
@[simp] theorem Dev.freed_inbuf : (d.freed).inbuf = d.inbuf := rfl
@[simp] theorem Dev.freed_pols : (d.freed).pols = d.pols := rfl
@[simp] theorem Dev.freed_hitSec : (d.freed).hitSec = d.hitSec := rfl
@[simp] theorem Dev.freed_gen : (d.freed).gen = d.gen := rfl
@[simp] theorem Dev.freed_tm : (d.freed).tm = d.tm := rfl
@[simp] theorem Dev.freed_macs : (d.freed).macs = d.macs := rfl
@[simp] theorem Dev.freed_lanes : (d.freed).lanes = d.lanes := rfl
@[simp] theorem Dev.freed_phys : (d.freed).phys = d.phys := rfl
@[simp] theorem Dev.freed_tim : (d.freed).tim = d.tim := rfl
@[simp] theorem Dev.freed_host : (d.freed).host = d.host := rfl
@[simp] theorem Dev.freed_lines : (d.freed).lines = d.lines := rfl
@[simp] theorem Dev.freed_acts : (d.freed).acts = d.acts := rfl
@[simp] theorem Dev.freed_coaches : (d.freed).coaches = d.coaches := rfl
@[simp] theorem Dev.freed_groups : (d.freed).groups = d.groups := rfl
@[simp] theorem Dev.freed_bondOrd : (d.freed).bondOrd = d.bondOrd := rfl
@[simp] theorem Dev.freed_prot : (d.freed).prot = d.prot := rfl
@[simp] theorem Dev.freed_tenderHalt : (d.freed).tenderHalt = d.tenderHalt := rfl
@[simp] theorem Dev.freed_gasp : (d.freed).gasp = d.gasp := rfl
@[simp] theorem Dev.freed_cph : (d.freed).cph = d.cph := rfl
@[simp] theorem Dev.freed_wake : (d.freed).wake = d.wake := rfl
@[simp] theorem Dev.freed_rlinks : (d.freed).rlinks = d.rlinks := rfl
@[simp] theorem Dev.freed_hier : (d.freed).hier = d.hier := rfl
@[simp] theorem Dev.freed_pwr : (d.freed).pwr = d.pwr := rfl
@[simp] theorem Dev.freed_dram : (d.freed).dram = d.dram := rfl
@[simp] theorem Dev.freed_tap : (d.freed).tap = d.tap := rfl
@[simp] theorem Dev.freed_cvuPoly : (d.freed).cvuPoly = d.cvuPoly := rfl
@[simp] theorem Dev.freed_cko : (d.freed).cko = d.cko := rfl
@[simp] theorem Dev.freed_tru : (d.freed).tru = d.tru := rfl
@[simp] theorem Dev.freed_out : (d.freed).out = d.out := rfl
@[simp] theorem Dev.freed_fld (g : Fld) : (d.freed).fld g = d.fld g := rfl

/-! ### setSlice -/

@[simp] theorem Dev.setSlice_chip (k : Nat) (x : Slice) : (d.setSlice k x).chip = d.chip := rfl
@[simp] theorem Dev.setSlice_held (k : Nat) (x : Slice) : (d.setSlice k x).held = d.held := rfl
@[simp] theorem Dev.setSlice_regs (k : Nat) (x : Slice) : (d.setSlice k x).regs = d.regs := rfl
@[simp] theorem Dev.setSlice_latch (k : Nat) (x : Slice) : (d.setSlice k x).latch = d.latch := rfl
@[simp] theorem Dev.setSlice_core (k : Nat) (x : Slice) : (d.setSlice k x).core = d.core := rfl
@[simp] theorem Dev.setSlice_inbuf (k : Nat) (x : Slice) : (d.setSlice k x).inbuf = d.inbuf := rfl
@[simp] theorem Dev.setSlice_pols (k : Nat) (x : Slice) : (d.setSlice k x).pols = d.pols := rfl
@[simp] theorem Dev.setSlice_hitSec (k : Nat) (x : Slice) : (d.setSlice k x).hitSec = d.hitSec := rfl
@[simp] theorem Dev.setSlice_gen (k : Nat) (x : Slice) : (d.setSlice k x).gen = d.gen := rfl
@[simp] theorem Dev.setSlice_tm (k : Nat) (x : Slice) : (d.setSlice k x).tm = d.tm := rfl
@[simp] theorem Dev.setSlice_macs (k : Nat) (x : Slice) : (d.setSlice k x).macs = d.macs := rfl
@[simp] theorem Dev.setSlice_lanes (k : Nat) (x : Slice) : (d.setSlice k x).lanes = d.lanes := rfl
@[simp] theorem Dev.setSlice_phys (k : Nat) (x : Slice) : (d.setSlice k x).phys = d.phys := rfl
@[simp] theorem Dev.setSlice_tim (k : Nat) (x : Slice) : (d.setSlice k x).tim = d.tim := rfl
@[simp] theorem Dev.setSlice_host (k : Nat) (x : Slice) : (d.setSlice k x).host = d.host := rfl
@[simp] theorem Dev.setSlice_lines (k : Nat) (x : Slice) : (d.setSlice k x).lines = d.lines := rfl
@[simp] theorem Dev.setSlice_acts (k : Nat) (x : Slice) : (d.setSlice k x).acts = d.acts := rfl
@[simp] theorem Dev.setSlice_coaches (k : Nat) (x : Slice) : (d.setSlice k x).coaches = d.coaches := rfl
@[simp] theorem Dev.setSlice_groups (k : Nat) (x : Slice) : (d.setSlice k x).groups = d.groups := rfl
@[simp] theorem Dev.setSlice_bondOrd (k : Nat) (x : Slice) : (d.setSlice k x).bondOrd = d.bondOrd := rfl
@[simp] theorem Dev.setSlice_prot (k : Nat) (x : Slice) : (d.setSlice k x).prot = d.prot := rfl
@[simp] theorem Dev.setSlice_tenderHalt (k : Nat) (x : Slice) : (d.setSlice k x).tenderHalt = d.tenderHalt := rfl
@[simp] theorem Dev.setSlice_gasp (k : Nat) (x : Slice) : (d.setSlice k x).gasp = d.gasp := rfl
@[simp] theorem Dev.setSlice_cph (k : Nat) (x : Slice) : (d.setSlice k x).cph = d.cph := rfl
@[simp] theorem Dev.setSlice_wake (k : Nat) (x : Slice) : (d.setSlice k x).wake = d.wake := rfl
@[simp] theorem Dev.setSlice_rlinks (k : Nat) (x : Slice) : (d.setSlice k x).rlinks = d.rlinks := rfl
@[simp] theorem Dev.setSlice_hier (k : Nat) (x : Slice) : (d.setSlice k x).hier = d.hier := rfl
@[simp] theorem Dev.setSlice_pwr (k : Nat) (x : Slice) : (d.setSlice k x).pwr = d.pwr := rfl
@[simp] theorem Dev.setSlice_dram (k : Nat) (x : Slice) : (d.setSlice k x).dram = d.dram := rfl
@[simp] theorem Dev.setSlice_tap (k : Nat) (x : Slice) : (d.setSlice k x).tap = d.tap := rfl
@[simp] theorem Dev.setSlice_cvuPoly (k : Nat) (x : Slice) : (d.setSlice k x).cvuPoly = d.cvuPoly := rfl
@[simp] theorem Dev.setSlice_cko (k : Nat) (x : Slice) : (d.setSlice k x).cko = d.cko := rfl
@[simp] theorem Dev.setSlice_tru (k : Nat) (x : Slice) : (d.setSlice k x).tru = d.tru := rfl
@[simp] theorem Dev.setSlice_freeCtr (k : Nat) (x : Slice) : (d.setSlice k x).freeCtr = d.freeCtr := rfl
@[simp] theorem Dev.setSlice_out (k : Nat) (x : Slice) : (d.setSlice k x).out = d.out := rfl
@[simp] theorem Dev.setSlice_fld (k : Nat) (x : Slice) (g : Fld) : (d.setSlice k x).fld g = d.fld g := rfl
@[simp] theorem Dev.slice_setSlice (k : Nat) (x : Slice) : (d.setSlice k x).slice k = x := Tbl.get_set_same _ _ _ _
theorem Dev.slice_setSlice_ne (k : Nat) (x : Slice) {j : Nat} (h : j ≠ k) : (d.setSlice k x).slice j = d.slice j := Tbl.get_set_ne _ _ _ h

/-! ### setMac -/

@[simp] theorem Dev.setMac_chip (k : Nat) (x : Mac) : (d.setMac k x).chip = d.chip := rfl
@[simp] theorem Dev.setMac_held (k : Nat) (x : Mac) : (d.setMac k x).held = d.held := rfl
@[simp] theorem Dev.setMac_regs (k : Nat) (x : Mac) : (d.setMac k x).regs = d.regs := rfl
@[simp] theorem Dev.setMac_latch (k : Nat) (x : Mac) : (d.setMac k x).latch = d.latch := rfl
@[simp] theorem Dev.setMac_core (k : Nat) (x : Mac) : (d.setMac k x).core = d.core := rfl
@[simp] theorem Dev.setMac_slices (k : Nat) (x : Mac) : (d.setMac k x).slices = d.slices := rfl
@[simp] theorem Dev.setMac_inbuf (k : Nat) (x : Mac) : (d.setMac k x).inbuf = d.inbuf := rfl
@[simp] theorem Dev.setMac_pols (k : Nat) (x : Mac) : (d.setMac k x).pols = d.pols := rfl
@[simp] theorem Dev.setMac_hitSec (k : Nat) (x : Mac) : (d.setMac k x).hitSec = d.hitSec := rfl
@[simp] theorem Dev.setMac_gen (k : Nat) (x : Mac) : (d.setMac k x).gen = d.gen := rfl
@[simp] theorem Dev.setMac_tm (k : Nat) (x : Mac) : (d.setMac k x).tm = d.tm := rfl
@[simp] theorem Dev.setMac_lanes (k : Nat) (x : Mac) : (d.setMac k x).lanes = d.lanes := rfl
@[simp] theorem Dev.setMac_phys (k : Nat) (x : Mac) : (d.setMac k x).phys = d.phys := rfl
@[simp] theorem Dev.setMac_tim (k : Nat) (x : Mac) : (d.setMac k x).tim = d.tim := rfl
@[simp] theorem Dev.setMac_host (k : Nat) (x : Mac) : (d.setMac k x).host = d.host := rfl
@[simp] theorem Dev.setMac_lines (k : Nat) (x : Mac) : (d.setMac k x).lines = d.lines := rfl
@[simp] theorem Dev.setMac_acts (k : Nat) (x : Mac) : (d.setMac k x).acts = d.acts := rfl
@[simp] theorem Dev.setMac_coaches (k : Nat) (x : Mac) : (d.setMac k x).coaches = d.coaches := rfl
@[simp] theorem Dev.setMac_groups (k : Nat) (x : Mac) : (d.setMac k x).groups = d.groups := rfl
@[simp] theorem Dev.setMac_bondOrd (k : Nat) (x : Mac) : (d.setMac k x).bondOrd = d.bondOrd := rfl
@[simp] theorem Dev.setMac_prot (k : Nat) (x : Mac) : (d.setMac k x).prot = d.prot := rfl
@[simp] theorem Dev.setMac_tenderHalt (k : Nat) (x : Mac) : (d.setMac k x).tenderHalt = d.tenderHalt := rfl
@[simp] theorem Dev.setMac_gasp (k : Nat) (x : Mac) : (d.setMac k x).gasp = d.gasp := rfl
@[simp] theorem Dev.setMac_cph (k : Nat) (x : Mac) : (d.setMac k x).cph = d.cph := rfl
@[simp] theorem Dev.setMac_wake (k : Nat) (x : Mac) : (d.setMac k x).wake = d.wake := rfl
@[simp] theorem Dev.setMac_rlinks (k : Nat) (x : Mac) : (d.setMac k x).rlinks = d.rlinks := rfl
@[simp] theorem Dev.setMac_hier (k : Nat) (x : Mac) : (d.setMac k x).hier = d.hier := rfl
@[simp] theorem Dev.setMac_pwr (k : Nat) (x : Mac) : (d.setMac k x).pwr = d.pwr := rfl
@[simp] theorem Dev.setMac_dram (k : Nat) (x : Mac) : (d.setMac k x).dram = d.dram := rfl
@[simp] theorem Dev.setMac_tap (k : Nat) (x : Mac) : (d.setMac k x).tap = d.tap := rfl
@[simp] theorem Dev.setMac_cvuPoly (k : Nat) (x : Mac) : (d.setMac k x).cvuPoly = d.cvuPoly := rfl
@[simp] theorem Dev.setMac_cko (k : Nat) (x : Mac) : (d.setMac k x).cko = d.cko := rfl
@[simp] theorem Dev.setMac_tru (k : Nat) (x : Mac) : (d.setMac k x).tru = d.tru := rfl
@[simp] theorem Dev.setMac_freeCtr (k : Nat) (x : Mac) : (d.setMac k x).freeCtr = d.freeCtr := rfl
@[simp] theorem Dev.setMac_out (k : Nat) (x : Mac) : (d.setMac k x).out = d.out := rfl
@[simp] theorem Dev.setMac_fld (k : Nat) (x : Mac) (g : Fld) : (d.setMac k x).fld g = d.fld g := rfl
@[simp] theorem Dev.mac_setMac (k : Nat) (x : Mac) : (d.setMac k x).mac k = x := Tbl.get_set_same _ _ _ _
theorem Dev.mac_setMac_ne (k : Nat) (x : Mac) {j : Nat} (h : j ≠ k) : (d.setMac k x).mac j = d.mac j := Tbl.get_set_ne _ _ _ h

/-! ### setLane -/

@[simp] theorem Dev.setLane_chip (k : Nat) (x : Lane) : (d.setLane k x).chip = d.chip := rfl
@[simp] theorem Dev.setLane_held (k : Nat) (x : Lane) : (d.setLane k x).held = d.held := rfl
@[simp] theorem Dev.setLane_regs (k : Nat) (x : Lane) : (d.setLane k x).regs = d.regs := rfl
@[simp] theorem Dev.setLane_latch (k : Nat) (x : Lane) : (d.setLane k x).latch = d.latch := rfl
@[simp] theorem Dev.setLane_core (k : Nat) (x : Lane) : (d.setLane k x).core = d.core := rfl
@[simp] theorem Dev.setLane_slices (k : Nat) (x : Lane) : (d.setLane k x).slices = d.slices := rfl
@[simp] theorem Dev.setLane_inbuf (k : Nat) (x : Lane) : (d.setLane k x).inbuf = d.inbuf := rfl
@[simp] theorem Dev.setLane_pols (k : Nat) (x : Lane) : (d.setLane k x).pols = d.pols := rfl
@[simp] theorem Dev.setLane_hitSec (k : Nat) (x : Lane) : (d.setLane k x).hitSec = d.hitSec := rfl
@[simp] theorem Dev.setLane_gen (k : Nat) (x : Lane) : (d.setLane k x).gen = d.gen := rfl
@[simp] theorem Dev.setLane_tm (k : Nat) (x : Lane) : (d.setLane k x).tm = d.tm := rfl
@[simp] theorem Dev.setLane_macs (k : Nat) (x : Lane) : (d.setLane k x).macs = d.macs := rfl
@[simp] theorem Dev.setLane_phys (k : Nat) (x : Lane) : (d.setLane k x).phys = d.phys := rfl
@[simp] theorem Dev.setLane_tim (k : Nat) (x : Lane) : (d.setLane k x).tim = d.tim := rfl
@[simp] theorem Dev.setLane_host (k : Nat) (x : Lane) : (d.setLane k x).host = d.host := rfl
@[simp] theorem Dev.setLane_lines (k : Nat) (x : Lane) : (d.setLane k x).lines = d.lines := rfl
@[simp] theorem Dev.setLane_acts (k : Nat) (x : Lane) : (d.setLane k x).acts = d.acts := rfl
@[simp] theorem Dev.setLane_coaches (k : Nat) (x : Lane) : (d.setLane k x).coaches = d.coaches := rfl
@[simp] theorem Dev.setLane_groups (k : Nat) (x : Lane) : (d.setLane k x).groups = d.groups := rfl
@[simp] theorem Dev.setLane_bondOrd (k : Nat) (x : Lane) : (d.setLane k x).bondOrd = d.bondOrd := rfl
@[simp] theorem Dev.setLane_prot (k : Nat) (x : Lane) : (d.setLane k x).prot = d.prot := rfl
@[simp] theorem Dev.setLane_tenderHalt (k : Nat) (x : Lane) : (d.setLane k x).tenderHalt = d.tenderHalt := rfl
@[simp] theorem Dev.setLane_gasp (k : Nat) (x : Lane) : (d.setLane k x).gasp = d.gasp := rfl
@[simp] theorem Dev.setLane_cph (k : Nat) (x : Lane) : (d.setLane k x).cph = d.cph := rfl
@[simp] theorem Dev.setLane_wake (k : Nat) (x : Lane) : (d.setLane k x).wake = d.wake := rfl
@[simp] theorem Dev.setLane_rlinks (k : Nat) (x : Lane) : (d.setLane k x).rlinks = d.rlinks := rfl
@[simp] theorem Dev.setLane_hier (k : Nat) (x : Lane) : (d.setLane k x).hier = d.hier := rfl
@[simp] theorem Dev.setLane_pwr (k : Nat) (x : Lane) : (d.setLane k x).pwr = d.pwr := rfl
@[simp] theorem Dev.setLane_dram (k : Nat) (x : Lane) : (d.setLane k x).dram = d.dram := rfl
@[simp] theorem Dev.setLane_tap (k : Nat) (x : Lane) : (d.setLane k x).tap = d.tap := rfl
@[simp] theorem Dev.setLane_cvuPoly (k : Nat) (x : Lane) : (d.setLane k x).cvuPoly = d.cvuPoly := rfl
@[simp] theorem Dev.setLane_cko (k : Nat) (x : Lane) : (d.setLane k x).cko = d.cko := rfl
@[simp] theorem Dev.setLane_tru (k : Nat) (x : Lane) : (d.setLane k x).tru = d.tru := rfl
@[simp] theorem Dev.setLane_freeCtr (k : Nat) (x : Lane) : (d.setLane k x).freeCtr = d.freeCtr := rfl
@[simp] theorem Dev.setLane_out (k : Nat) (x : Lane) : (d.setLane k x).out = d.out := rfl
@[simp] theorem Dev.setLane_fld (k : Nat) (x : Lane) (g : Fld) : (d.setLane k x).fld g = d.fld g := rfl
@[simp] theorem Dev.lane_setLane (k : Nat) (x : Lane) : (d.setLane k x).lane k = x := Tbl.get_set_same _ _ _ _
theorem Dev.lane_setLane_ne (k : Nat) (x : Lane) {j : Nat} (h : j ≠ k) : (d.setLane k x).lane j = d.lane j := Tbl.get_set_ne _ _ _ h

/-! ### setPhy -/

@[simp] theorem Dev.setPhy_chip (k : Nat) (x : Phy) : (d.setPhy k x).chip = d.chip := rfl
@[simp] theorem Dev.setPhy_held (k : Nat) (x : Phy) : (d.setPhy k x).held = d.held := rfl
@[simp] theorem Dev.setPhy_regs (k : Nat) (x : Phy) : (d.setPhy k x).regs = d.regs := rfl
@[simp] theorem Dev.setPhy_latch (k : Nat) (x : Phy) : (d.setPhy k x).latch = d.latch := rfl
@[simp] theorem Dev.setPhy_core (k : Nat) (x : Phy) : (d.setPhy k x).core = d.core := rfl
@[simp] theorem Dev.setPhy_slices (k : Nat) (x : Phy) : (d.setPhy k x).slices = d.slices := rfl
@[simp] theorem Dev.setPhy_inbuf (k : Nat) (x : Phy) : (d.setPhy k x).inbuf = d.inbuf := rfl
@[simp] theorem Dev.setPhy_pols (k : Nat) (x : Phy) : (d.setPhy k x).pols = d.pols := rfl
@[simp] theorem Dev.setPhy_hitSec (k : Nat) (x : Phy) : (d.setPhy k x).hitSec = d.hitSec := rfl
@[simp] theorem Dev.setPhy_gen (k : Nat) (x : Phy) : (d.setPhy k x).gen = d.gen := rfl
@[simp] theorem Dev.setPhy_tm (k : Nat) (x : Phy) : (d.setPhy k x).tm = d.tm := rfl
@[simp] theorem Dev.setPhy_macs (k : Nat) (x : Phy) : (d.setPhy k x).macs = d.macs := rfl
@[simp] theorem Dev.setPhy_lanes (k : Nat) (x : Phy) : (d.setPhy k x).lanes = d.lanes := rfl
@[simp] theorem Dev.setPhy_tim (k : Nat) (x : Phy) : (d.setPhy k x).tim = d.tim := rfl
@[simp] theorem Dev.setPhy_host (k : Nat) (x : Phy) : (d.setPhy k x).host = d.host := rfl
@[simp] theorem Dev.setPhy_lines (k : Nat) (x : Phy) : (d.setPhy k x).lines = d.lines := rfl
@[simp] theorem Dev.setPhy_acts (k : Nat) (x : Phy) : (d.setPhy k x).acts = d.acts := rfl
@[simp] theorem Dev.setPhy_coaches (k : Nat) (x : Phy) : (d.setPhy k x).coaches = d.coaches := rfl
@[simp] theorem Dev.setPhy_groups (k : Nat) (x : Phy) : (d.setPhy k x).groups = d.groups := rfl
@[simp] theorem Dev.setPhy_bondOrd (k : Nat) (x : Phy) : (d.setPhy k x).bondOrd = d.bondOrd := rfl
@[simp] theorem Dev.setPhy_prot (k : Nat) (x : Phy) : (d.setPhy k x).prot = d.prot := rfl
@[simp] theorem Dev.setPhy_tenderHalt (k : Nat) (x : Phy) : (d.setPhy k x).tenderHalt = d.tenderHalt := rfl
@[simp] theorem Dev.setPhy_gasp (k : Nat) (x : Phy) : (d.setPhy k x).gasp = d.gasp := rfl
@[simp] theorem Dev.setPhy_cph (k : Nat) (x : Phy) : (d.setPhy k x).cph = d.cph := rfl
@[simp] theorem Dev.setPhy_wake (k : Nat) (x : Phy) : (d.setPhy k x).wake = d.wake := rfl
@[simp] theorem Dev.setPhy_rlinks (k : Nat) (x : Phy) : (d.setPhy k x).rlinks = d.rlinks := rfl
@[simp] theorem Dev.setPhy_hier (k : Nat) (x : Phy) : (d.setPhy k x).hier = d.hier := rfl
@[simp] theorem Dev.setPhy_pwr (k : Nat) (x : Phy) : (d.setPhy k x).pwr = d.pwr := rfl
@[simp] theorem Dev.setPhy_dram (k : Nat) (x : Phy) : (d.setPhy k x).dram = d.dram := rfl
@[simp] theorem Dev.setPhy_tap (k : Nat) (x : Phy) : (d.setPhy k x).tap = d.tap := rfl
@[simp] theorem Dev.setPhy_cvuPoly (k : Nat) (x : Phy) : (d.setPhy k x).cvuPoly = d.cvuPoly := rfl
@[simp] theorem Dev.setPhy_cko (k : Nat) (x : Phy) : (d.setPhy k x).cko = d.cko := rfl
@[simp] theorem Dev.setPhy_tru (k : Nat) (x : Phy) : (d.setPhy k x).tru = d.tru := rfl
@[simp] theorem Dev.setPhy_freeCtr (k : Nat) (x : Phy) : (d.setPhy k x).freeCtr = d.freeCtr := rfl
@[simp] theorem Dev.setPhy_out (k : Nat) (x : Phy) : (d.setPhy k x).out = d.out := rfl
@[simp] theorem Dev.setPhy_fld (k : Nat) (x : Phy) (g : Fld) : (d.setPhy k x).fld g = d.fld g := rfl
@[simp] theorem Dev.phy_setPhy (k : Nat) (x : Phy) : (d.setPhy k x).phy k = x := Tbl.get_set_same _ _ _ _
theorem Dev.phy_setPhy_ne (k : Nat) (x : Phy) {j : Nat} (h : j ≠ k) : (d.setPhy k x).phy j = d.phy j := Tbl.get_set_ne _ _ _ h

/-! ### setBuf -/

@[simp] theorem Dev.setBuf_chip (k : Nat) (x : List Frame) : (d.setBuf k x).chip = d.chip := rfl
@[simp] theorem Dev.setBuf_held (k : Nat) (x : List Frame) : (d.setBuf k x).held = d.held := rfl
@[simp] theorem Dev.setBuf_regs (k : Nat) (x : List Frame) : (d.setBuf k x).regs = d.regs := rfl
@[simp] theorem Dev.setBuf_latch (k : Nat) (x : List Frame) : (d.setBuf k x).latch = d.latch := rfl
@[simp] theorem Dev.setBuf_core (k : Nat) (x : List Frame) : (d.setBuf k x).core = d.core := rfl
@[simp] theorem Dev.setBuf_slices (k : Nat) (x : List Frame) : (d.setBuf k x).slices = d.slices := rfl
@[simp] theorem Dev.setBuf_pols (k : Nat) (x : List Frame) : (d.setBuf k x).pols = d.pols := rfl
@[simp] theorem Dev.setBuf_hitSec (k : Nat) (x : List Frame) : (d.setBuf k x).hitSec = d.hitSec := rfl
@[simp] theorem Dev.setBuf_gen (k : Nat) (x : List Frame) : (d.setBuf k x).gen = d.gen := rfl
@[simp] theorem Dev.setBuf_tm (k : Nat) (x : List Frame) : (d.setBuf k x).tm = d.tm := rfl
@[simp] theorem Dev.setBuf_macs (k : Nat) (x : List Frame) : (d.setBuf k x).macs = d.macs := rfl
@[simp] theorem Dev.setBuf_lanes (k : Nat) (x : List Frame) : (d.setBuf k x).lanes = d.lanes := rfl
@[simp] theorem Dev.setBuf_phys (k : Nat) (x : List Frame) : (d.setBuf k x).phys = d.phys := rfl
@[simp] theorem Dev.setBuf_tim (k : Nat) (x : List Frame) : (d.setBuf k x).tim = d.tim := rfl
@[simp] theorem Dev.setBuf_host (k : Nat) (x : List Frame) : (d.setBuf k x).host = d.host := rfl
@[simp] theorem Dev.setBuf_lines (k : Nat) (x : List Frame) : (d.setBuf k x).lines = d.lines := rfl
@[simp] theorem Dev.setBuf_acts (k : Nat) (x : List Frame) : (d.setBuf k x).acts = d.acts := rfl
@[simp] theorem Dev.setBuf_coaches (k : Nat) (x : List Frame) : (d.setBuf k x).coaches = d.coaches := rfl
@[simp] theorem Dev.setBuf_groups (k : Nat) (x : List Frame) : (d.setBuf k x).groups = d.groups := rfl
@[simp] theorem Dev.setBuf_bondOrd (k : Nat) (x : List Frame) : (d.setBuf k x).bondOrd = d.bondOrd := rfl
@[simp] theorem Dev.setBuf_prot (k : Nat) (x : List Frame) : (d.setBuf k x).prot = d.prot := rfl
@[simp] theorem Dev.setBuf_tenderHalt (k : Nat) (x : List Frame) : (d.setBuf k x).tenderHalt = d.tenderHalt := rfl
@[simp] theorem Dev.setBuf_gasp (k : Nat) (x : List Frame) : (d.setBuf k x).gasp = d.gasp := rfl
@[simp] theorem Dev.setBuf_cph (k : Nat) (x : List Frame) : (d.setBuf k x).cph = d.cph := rfl
@[simp] theorem Dev.setBuf_wake (k : Nat) (x : List Frame) : (d.setBuf k x).wake = d.wake := rfl
@[simp] theorem Dev.setBuf_rlinks (k : Nat) (x : List Frame) : (d.setBuf k x).rlinks = d.rlinks := rfl
@[simp] theorem Dev.setBuf_hier (k : Nat) (x : List Frame) : (d.setBuf k x).hier = d.hier := rfl
@[simp] theorem Dev.setBuf_pwr (k : Nat) (x : List Frame) : (d.setBuf k x).pwr = d.pwr := rfl
@[simp] theorem Dev.setBuf_dram (k : Nat) (x : List Frame) : (d.setBuf k x).dram = d.dram := rfl
@[simp] theorem Dev.setBuf_tap (k : Nat) (x : List Frame) : (d.setBuf k x).tap = d.tap := rfl
@[simp] theorem Dev.setBuf_cvuPoly (k : Nat) (x : List Frame) : (d.setBuf k x).cvuPoly = d.cvuPoly := rfl
@[simp] theorem Dev.setBuf_cko (k : Nat) (x : List Frame) : (d.setBuf k x).cko = d.cko := rfl
@[simp] theorem Dev.setBuf_tru (k : Nat) (x : List Frame) : (d.setBuf k x).tru = d.tru := rfl
@[simp] theorem Dev.setBuf_freeCtr (k : Nat) (x : List Frame) : (d.setBuf k x).freeCtr = d.freeCtr := rfl
@[simp] theorem Dev.setBuf_out (k : Nat) (x : List Frame) : (d.setBuf k x).out = d.out := rfl
@[simp] theorem Dev.setBuf_fld (k : Nat) (x : List Frame) (g : Fld) : (d.setBuf k x).fld g = d.fld g := rfl
@[simp] theorem Dev.buf_setBuf (k : Nat) (x : List Frame) : (d.setBuf k x).buf k = x := Tbl.get_set_same _ _ _ _
theorem Dev.buf_setBuf_ne (k : Nat) (x : List Frame) {j : Nat} (h : j ≠ k) : (d.setBuf k x).buf j = d.buf j := Tbl.get_set_ne _ _ _ h

/-! ### setPol -/

@[simp] theorem Dev.setPol_chip (k : Nat) (x : Pol) : (d.setPol k x).chip = d.chip := rfl
@[simp] theorem Dev.setPol_held (k : Nat) (x : Pol) : (d.setPol k x).held = d.held := rfl
@[simp] theorem Dev.setPol_regs (k : Nat) (x : Pol) : (d.setPol k x).regs = d.regs := rfl
@[simp] theorem Dev.setPol_latch (k : Nat) (x : Pol) : (d.setPol k x).latch = d.latch := rfl
@[simp] theorem Dev.setPol_core (k : Nat) (x : Pol) : (d.setPol k x).core = d.core := rfl
@[simp] theorem Dev.setPol_slices (k : Nat) (x : Pol) : (d.setPol k x).slices = d.slices := rfl
@[simp] theorem Dev.setPol_inbuf (k : Nat) (x : Pol) : (d.setPol k x).inbuf = d.inbuf := rfl
@[simp] theorem Dev.setPol_hitSec (k : Nat) (x : Pol) : (d.setPol k x).hitSec = d.hitSec := rfl
@[simp] theorem Dev.setPol_gen (k : Nat) (x : Pol) : (d.setPol k x).gen = d.gen := rfl
@[simp] theorem Dev.setPol_tm (k : Nat) (x : Pol) : (d.setPol k x).tm = d.tm := rfl
@[simp] theorem Dev.setPol_macs (k : Nat) (x : Pol) : (d.setPol k x).macs = d.macs := rfl
@[simp] theorem Dev.setPol_lanes (k : Nat) (x : Pol) : (d.setPol k x).lanes = d.lanes := rfl
@[simp] theorem Dev.setPol_phys (k : Nat) (x : Pol) : (d.setPol k x).phys = d.phys := rfl
@[simp] theorem Dev.setPol_tim (k : Nat) (x : Pol) : (d.setPol k x).tim = d.tim := rfl
@[simp] theorem Dev.setPol_host (k : Nat) (x : Pol) : (d.setPol k x).host = d.host := rfl
@[simp] theorem Dev.setPol_lines (k : Nat) (x : Pol) : (d.setPol k x).lines = d.lines := rfl
@[simp] theorem Dev.setPol_acts (k : Nat) (x : Pol) : (d.setPol k x).acts = d.acts := rfl
@[simp] theorem Dev.setPol_coaches (k : Nat) (x : Pol) : (d.setPol k x).coaches = d.coaches := rfl
@[simp] theorem Dev.setPol_groups (k : Nat) (x : Pol) : (d.setPol k x).groups = d.groups := rfl
@[simp] theorem Dev.setPol_bondOrd (k : Nat) (x : Pol) : (d.setPol k x).bondOrd = d.bondOrd := rfl
@[simp] theorem Dev.setPol_prot (k : Nat) (x : Pol) : (d.setPol k x).prot = d.prot := rfl
@[simp] theorem Dev.setPol_tenderHalt (k : Nat) (x : Pol) : (d.setPol k x).tenderHalt = d.tenderHalt := rfl
@[simp] theorem Dev.setPol_gasp (k : Nat) (x : Pol) : (d.setPol k x).gasp = d.gasp := rfl
@[simp] theorem Dev.setPol_cph (k : Nat) (x : Pol) : (d.setPol k x).cph = d.cph := rfl
@[simp] theorem Dev.setPol_wake (k : Nat) (x : Pol) : (d.setPol k x).wake = d.wake := rfl
@[simp] theorem Dev.setPol_rlinks (k : Nat) (x : Pol) : (d.setPol k x).rlinks = d.rlinks := rfl
@[simp] theorem Dev.setPol_hier (k : Nat) (x : Pol) : (d.setPol k x).hier = d.hier := rfl
@[simp] theorem Dev.setPol_pwr (k : Nat) (x : Pol) : (d.setPol k x).pwr = d.pwr := rfl
@[simp] theorem Dev.setPol_dram (k : Nat) (x : Pol) : (d.setPol k x).dram = d.dram := rfl
@[simp] theorem Dev.setPol_tap (k : Nat) (x : Pol) : (d.setPol k x).tap = d.tap := rfl
@[simp] theorem Dev.setPol_cvuPoly (k : Nat) (x : Pol) : (d.setPol k x).cvuPoly = d.cvuPoly := rfl
@[simp] theorem Dev.setPol_cko (k : Nat) (x : Pol) : (d.setPol k x).cko = d.cko := rfl
@[simp] theorem Dev.setPol_tru (k : Nat) (x : Pol) : (d.setPol k x).tru = d.tru := rfl
@[simp] theorem Dev.setPol_freeCtr (k : Nat) (x : Pol) : (d.setPol k x).freeCtr = d.freeCtr := rfl
@[simp] theorem Dev.setPol_out (k : Nat) (x : Pol) : (d.setPol k x).out = d.out := rfl
@[simp] theorem Dev.setPol_fld (k : Nat) (x : Pol) (g : Fld) : (d.setPol k x).fld g = d.fld g := rfl
@[simp] theorem Dev.pol_setPol (k : Nat) (x : Pol) : (d.setPol k x).pol k = x := Tbl.get_set_same _ _ _ _
theorem Dev.pol_setPol_ne (k : Nat) (x : Pol) {j : Nat} (h : j ≠ k) : (d.setPol k x).pol j = d.pol j := Tbl.get_set_ne _ _ _ h

/-! ### setQueue -/

@[simp] theorem Dev.setQueue_chip (k : Nat) (x : Queue) : (d.setQueue k x).chip = d.chip := rfl
@[simp] theorem Dev.setQueue_held (k : Nat) (x : Queue) : (d.setQueue k x).held = d.held := rfl
@[simp] theorem Dev.setQueue_regs (k : Nat) (x : Queue) : (d.setQueue k x).regs = d.regs := rfl
@[simp] theorem Dev.setQueue_latch (k : Nat) (x : Queue) : (d.setQueue k x).latch = d.latch := rfl
@[simp] theorem Dev.setQueue_core (k : Nat) (x : Queue) : (d.setQueue k x).core = d.core := rfl
@[simp] theorem Dev.setQueue_slices (k : Nat) (x : Queue) : (d.setQueue k x).slices = d.slices := rfl
@[simp] theorem Dev.setQueue_inbuf (k : Nat) (x : Queue) : (d.setQueue k x).inbuf = d.inbuf := rfl
@[simp] theorem Dev.setQueue_pols (k : Nat) (x : Queue) : (d.setQueue k x).pols = d.pols := rfl
@[simp] theorem Dev.setQueue_hitSec (k : Nat) (x : Queue) : (d.setQueue k x).hitSec = d.hitSec := rfl
@[simp] theorem Dev.setQueue_gen (k : Nat) (x : Queue) : (d.setQueue k x).gen = d.gen := rfl
@[simp] theorem Dev.setQueue_macs (k : Nat) (x : Queue) : (d.setQueue k x).macs = d.macs := rfl
@[simp] theorem Dev.setQueue_lanes (k : Nat) (x : Queue) : (d.setQueue k x).lanes = d.lanes := rfl
@[simp] theorem Dev.setQueue_phys (k : Nat) (x : Queue) : (d.setQueue k x).phys = d.phys := rfl
@[simp] theorem Dev.setQueue_tim (k : Nat) (x : Queue) : (d.setQueue k x).tim = d.tim := rfl
@[simp] theorem Dev.setQueue_host (k : Nat) (x : Queue) : (d.setQueue k x).host = d.host := rfl
@[simp] theorem Dev.setQueue_lines (k : Nat) (x : Queue) : (d.setQueue k x).lines = d.lines := rfl
@[simp] theorem Dev.setQueue_acts (k : Nat) (x : Queue) : (d.setQueue k x).acts = d.acts := rfl
@[simp] theorem Dev.setQueue_coaches (k : Nat) (x : Queue) : (d.setQueue k x).coaches = d.coaches := rfl
@[simp] theorem Dev.setQueue_groups (k : Nat) (x : Queue) : (d.setQueue k x).groups = d.groups := rfl
@[simp] theorem Dev.setQueue_bondOrd (k : Nat) (x : Queue) : (d.setQueue k x).bondOrd = d.bondOrd := rfl
@[simp] theorem Dev.setQueue_prot (k : Nat) (x : Queue) : (d.setQueue k x).prot = d.prot := rfl
@[simp] theorem Dev.setQueue_tenderHalt (k : Nat) (x : Queue) : (d.setQueue k x).tenderHalt = d.tenderHalt := rfl
@[simp] theorem Dev.setQueue_gasp (k : Nat) (x : Queue) : (d.setQueue k x).gasp = d.gasp := rfl
@[simp] theorem Dev.setQueue_cph (k : Nat) (x : Queue) : (d.setQueue k x).cph = d.cph := rfl
@[simp] theorem Dev.setQueue_wake (k : Nat) (x : Queue) : (d.setQueue k x).wake = d.wake := rfl
@[simp] theorem Dev.setQueue_rlinks (k : Nat) (x : Queue) : (d.setQueue k x).rlinks = d.rlinks := rfl
@[simp] theorem Dev.setQueue_hier (k : Nat) (x : Queue) : (d.setQueue k x).hier = d.hier := rfl
@[simp] theorem Dev.setQueue_pwr (k : Nat) (x : Queue) : (d.setQueue k x).pwr = d.pwr := rfl
@[simp] theorem Dev.setQueue_dram (k : Nat) (x : Queue) : (d.setQueue k x).dram = d.dram := rfl
@[simp] theorem Dev.setQueue_tap (k : Nat) (x : Queue) : (d.setQueue k x).tap = d.tap := rfl
@[simp] theorem Dev.setQueue_cvuPoly (k : Nat) (x : Queue) : (d.setQueue k x).cvuPoly = d.cvuPoly := rfl
@[simp] theorem Dev.setQueue_cko (k : Nat) (x : Queue) : (d.setQueue k x).cko = d.cko := rfl
@[simp] theorem Dev.setQueue_tru (k : Nat) (x : Queue) : (d.setQueue k x).tru = d.tru := rfl
@[simp] theorem Dev.setQueue_freeCtr (k : Nat) (x : Queue) : (d.setQueue k x).freeCtr = d.freeCtr := rfl
@[simp] theorem Dev.setQueue_out (k : Nat) (x : Queue) : (d.setQueue k x).out = d.out := rfl
@[simp] theorem Dev.setQueue_fld (k : Nat) (x : Queue) (g : Fld) : (d.setQueue k x).fld g = d.fld g := rfl
@[simp] theorem Dev.queue_setQueue (k : Nat) (x : Queue) : (d.setQueue k x).queue k = x := Tbl.get_set_same _ _ _ _
theorem Dev.queue_setQueue_ne (k : Nat) (x : Queue) {j : Nat} (h : j ≠ k) : (d.setQueue k x).queue j = d.queue j := Tbl.get_set_ne _ _ _ h

/-! ### setBkt -/

@[simp] theorem Dev.setBkt_chip (k : Nat) (x : Bkt) : (d.setBkt k x).chip = d.chip := rfl
@[simp] theorem Dev.setBkt_held (k : Nat) (x : Bkt) : (d.setBkt k x).held = d.held := rfl
@[simp] theorem Dev.setBkt_regs (k : Nat) (x : Bkt) : (d.setBkt k x).regs = d.regs := rfl
@[simp] theorem Dev.setBkt_latch (k : Nat) (x : Bkt) : (d.setBkt k x).latch = d.latch := rfl
@[simp] theorem Dev.setBkt_core (k : Nat) (x : Bkt) : (d.setBkt k x).core = d.core := rfl
@[simp] theorem Dev.setBkt_slices (k : Nat) (x : Bkt) : (d.setBkt k x).slices = d.slices := rfl
@[simp] theorem Dev.setBkt_inbuf (k : Nat) (x : Bkt) : (d.setBkt k x).inbuf = d.inbuf := rfl
@[simp] theorem Dev.setBkt_pols (k : Nat) (x : Bkt) : (d.setBkt k x).pols = d.pols := rfl
@[simp] theorem Dev.setBkt_hitSec (k : Nat) (x : Bkt) : (d.setBkt k x).hitSec = d.hitSec := rfl
@[simp] theorem Dev.setBkt_gen (k : Nat) (x : Bkt) : (d.setBkt k x).gen = d.gen := rfl
@[simp] theorem Dev.setBkt_macs (k : Nat) (x : Bkt) : (d.setBkt k x).macs = d.macs := rfl
@[simp] theorem Dev.setBkt_lanes (k : Nat) (x : Bkt) : (d.setBkt k x).lanes = d.lanes := rfl
@[simp] theorem Dev.setBkt_phys (k : Nat) (x : Bkt) : (d.setBkt k x).phys = d.phys := rfl
@[simp] theorem Dev.setBkt_tim (k : Nat) (x : Bkt) : (d.setBkt k x).tim = d.tim := rfl
@[simp] theorem Dev.setBkt_host (k : Nat) (x : Bkt) : (d.setBkt k x).host = d.host := rfl
@[simp] theorem Dev.setBkt_lines (k : Nat) (x : Bkt) : (d.setBkt k x).lines = d.lines := rfl
@[simp] theorem Dev.setBkt_acts (k : Nat) (x : Bkt) : (d.setBkt k x).acts = d.acts := rfl
@[simp] theorem Dev.setBkt_coaches (k : Nat) (x : Bkt) : (d.setBkt k x).coaches = d.coaches := rfl
@[simp] theorem Dev.setBkt_groups (k : Nat) (x : Bkt) : (d.setBkt k x).groups = d.groups := rfl
@[simp] theorem Dev.setBkt_bondOrd (k : Nat) (x : Bkt) : (d.setBkt k x).bondOrd = d.bondOrd := rfl
@[simp] theorem Dev.setBkt_prot (k : Nat) (x : Bkt) : (d.setBkt k x).prot = d.prot := rfl
@[simp] theorem Dev.setBkt_tenderHalt (k : Nat) (x : Bkt) : (d.setBkt k x).tenderHalt = d.tenderHalt := rfl
@[simp] theorem Dev.setBkt_gasp (k : Nat) (x : Bkt) : (d.setBkt k x).gasp = d.gasp := rfl
@[simp] theorem Dev.setBkt_cph (k : Nat) (x : Bkt) : (d.setBkt k x).cph = d.cph := rfl
@[simp] theorem Dev.setBkt_wake (k : Nat) (x : Bkt) : (d.setBkt k x).wake = d.wake := rfl
@[simp] theorem Dev.setBkt_rlinks (k : Nat) (x : Bkt) : (d.setBkt k x).rlinks = d.rlinks := rfl
@[simp] theorem Dev.setBkt_hier (k : Nat) (x : Bkt) : (d.setBkt k x).hier = d.hier := rfl
@[simp] theorem Dev.setBkt_pwr (k : Nat) (x : Bkt) : (d.setBkt k x).pwr = d.pwr := rfl
@[simp] theorem Dev.setBkt_dram (k : Nat) (x : Bkt) : (d.setBkt k x).dram = d.dram := rfl
@[simp] theorem Dev.setBkt_tap (k : Nat) (x : Bkt) : (d.setBkt k x).tap = d.tap := rfl
@[simp] theorem Dev.setBkt_cvuPoly (k : Nat) (x : Bkt) : (d.setBkt k x).cvuPoly = d.cvuPoly := rfl
@[simp] theorem Dev.setBkt_cko (k : Nat) (x : Bkt) : (d.setBkt k x).cko = d.cko := rfl
@[simp] theorem Dev.setBkt_tru (k : Nat) (x : Bkt) : (d.setBkt k x).tru = d.tru := rfl
@[simp] theorem Dev.setBkt_freeCtr (k : Nat) (x : Bkt) : (d.setBkt k x).freeCtr = d.freeCtr := rfl
@[simp] theorem Dev.setBkt_out (k : Nat) (x : Bkt) : (d.setBkt k x).out = d.out := rfl
@[simp] theorem Dev.setBkt_fld (k : Nat) (x : Bkt) (g : Fld) : (d.setBkt k x).fld g = d.fld g := rfl
@[simp] theorem Dev.bkt_setBkt (k : Nat) (x : Bkt) : (d.setBkt k x).bkt k = x := Tbl.get_set_same _ _ _ _
theorem Dev.bkt_setBkt_ne (k : Nat) (x : Bkt) {j : Nat} (h : j ≠ k) : (d.setBkt k x).bkt j = d.bkt j := Tbl.get_set_ne _ _ _ h

/-! ### setLine -/

@[simp] theorem Dev.setLine_chip (k : Nat) (x : Line) : (d.setLine k x).chip = d.chip := rfl
@[simp] theorem Dev.setLine_held (k : Nat) (x : Line) : (d.setLine k x).held = d.held := rfl
@[simp] theorem Dev.setLine_regs (k : Nat) (x : Line) : (d.setLine k x).regs = d.regs := rfl
@[simp] theorem Dev.setLine_latch (k : Nat) (x : Line) : (d.setLine k x).latch = d.latch := rfl
@[simp] theorem Dev.setLine_core (k : Nat) (x : Line) : (d.setLine k x).core = d.core := rfl
@[simp] theorem Dev.setLine_slices (k : Nat) (x : Line) : (d.setLine k x).slices = d.slices := rfl
@[simp] theorem Dev.setLine_inbuf (k : Nat) (x : Line) : (d.setLine k x).inbuf = d.inbuf := rfl
@[simp] theorem Dev.setLine_pols (k : Nat) (x : Line) : (d.setLine k x).pols = d.pols := rfl
@[simp] theorem Dev.setLine_hitSec (k : Nat) (x : Line) : (d.setLine k x).hitSec = d.hitSec := rfl
@[simp] theorem Dev.setLine_gen (k : Nat) (x : Line) : (d.setLine k x).gen = d.gen := rfl
@[simp] theorem Dev.setLine_tm (k : Nat) (x : Line) : (d.setLine k x).tm = d.tm := rfl
@[simp] theorem Dev.setLine_macs (k : Nat) (x : Line) : (d.setLine k x).macs = d.macs := rfl
@[simp] theorem Dev.setLine_lanes (k : Nat) (x : Line) : (d.setLine k x).lanes = d.lanes := rfl
@[simp] theorem Dev.setLine_phys (k : Nat) (x : Line) : (d.setLine k x).phys = d.phys := rfl
@[simp] theorem Dev.setLine_tim (k : Nat) (x : Line) : (d.setLine k x).tim = d.tim := rfl
@[simp] theorem Dev.setLine_host (k : Nat) (x : Line) : (d.setLine k x).host = d.host := rfl
@[simp] theorem Dev.setLine_acts (k : Nat) (x : Line) : (d.setLine k x).acts = d.acts := rfl
@[simp] theorem Dev.setLine_coaches (k : Nat) (x : Line) : (d.setLine k x).coaches = d.coaches := rfl
@[simp] theorem Dev.setLine_groups (k : Nat) (x : Line) : (d.setLine k x).groups = d.groups := rfl
@[simp] theorem Dev.setLine_bondOrd (k : Nat) (x : Line) : (d.setLine k x).bondOrd = d.bondOrd := rfl
@[simp] theorem Dev.setLine_prot (k : Nat) (x : Line) : (d.setLine k x).prot = d.prot := rfl
@[simp] theorem Dev.setLine_tenderHalt (k : Nat) (x : Line) : (d.setLine k x).tenderHalt = d.tenderHalt := rfl
@[simp] theorem Dev.setLine_gasp (k : Nat) (x : Line) : (d.setLine k x).gasp = d.gasp := rfl
@[simp] theorem Dev.setLine_cph (k : Nat) (x : Line) : (d.setLine k x).cph = d.cph := rfl
@[simp] theorem Dev.setLine_wake (k : Nat) (x : Line) : (d.setLine k x).wake = d.wake := rfl
@[simp] theorem Dev.setLine_rlinks (k : Nat) (x : Line) : (d.setLine k x).rlinks = d.rlinks := rfl
@[simp] theorem Dev.setLine_hier (k : Nat) (x : Line) : (d.setLine k x).hier = d.hier := rfl
@[simp] theorem Dev.setLine_pwr (k : Nat) (x : Line) : (d.setLine k x).pwr = d.pwr := rfl
@[simp] theorem Dev.setLine_dram (k : Nat) (x : Line) : (d.setLine k x).dram = d.dram := rfl
@[simp] theorem Dev.setLine_tap (k : Nat) (x : Line) : (d.setLine k x).tap = d.tap := rfl
@[simp] theorem Dev.setLine_cvuPoly (k : Nat) (x : Line) : (d.setLine k x).cvuPoly = d.cvuPoly := rfl
@[simp] theorem Dev.setLine_cko (k : Nat) (x : Line) : (d.setLine k x).cko = d.cko := rfl
@[simp] theorem Dev.setLine_tru (k : Nat) (x : Line) : (d.setLine k x).tru = d.tru := rfl
@[simp] theorem Dev.setLine_freeCtr (k : Nat) (x : Line) : (d.setLine k x).freeCtr = d.freeCtr := rfl
@[simp] theorem Dev.setLine_out (k : Nat) (x : Line) : (d.setLine k x).out = d.out := rfl
@[simp] theorem Dev.setLine_fld (k : Nat) (x : Line) (g : Fld) : (d.setLine k x).fld g = d.fld g := rfl
@[simp] theorem Dev.line_setLine (k : Nat) (x : Line) : (d.setLine k x).line k = x := Tbl.get_set_same _ _ _ _
theorem Dev.line_setLine_ne (k : Nat) (x : Line) {j : Nat} (h : j ≠ k) : (d.setLine k x).line j = d.line j := Tbl.get_set_ne _ _ _ h

/-! ### setAct -/

@[simp] theorem Dev.setAct_chip (k : Nat) (x : Act) : (d.setAct k x).chip = d.chip := rfl
@[simp] theorem Dev.setAct_held (k : Nat) (x : Act) : (d.setAct k x).held = d.held := rfl
@[simp] theorem Dev.setAct_regs (k : Nat) (x : Act) : (d.setAct k x).regs = d.regs := rfl
@[simp] theorem Dev.setAct_latch (k : Nat) (x : Act) : (d.setAct k x).latch = d.latch := rfl
@[simp] theorem Dev.setAct_core (k : Nat) (x : Act) : (d.setAct k x).core = d.core := rfl
@[simp] theorem Dev.setAct_slices (k : Nat) (x : Act) : (d.setAct k x).slices = d.slices := rfl
@[simp] theorem Dev.setAct_inbuf (k : Nat) (x : Act) : (d.setAct k x).inbuf = d.inbuf := rfl
@[simp] theorem Dev.setAct_pols (k : Nat) (x : Act) : (d.setAct k x).pols = d.pols := rfl
@[simp] theorem Dev.setAct_hitSec (k : Nat) (x : Act) : (d.setAct k x).hitSec = d.hitSec := rfl
@[simp] theorem Dev.setAct_gen (k : Nat) (x : Act) : (d.setAct k x).gen = d.gen := rfl
@[simp] theorem Dev.setAct_tm (k : Nat) (x : Act) : (d.setAct k x).tm = d.tm := rfl
@[simp] theorem Dev.setAct_macs (k : Nat) (x : Act) : (d.setAct k x).macs = d.macs := rfl
@[simp] theorem Dev.setAct_lanes (k : Nat) (x : Act) : (d.setAct k x).lanes = d.lanes := rfl
@[simp] theorem Dev.setAct_phys (k : Nat) (x : Act) : (d.setAct k x).phys = d.phys := rfl
@[simp] theorem Dev.setAct_tim (k : Nat) (x : Act) : (d.setAct k x).tim = d.tim := rfl
@[simp] theorem Dev.setAct_host (k : Nat) (x : Act) : (d.setAct k x).host = d.host := rfl
@[simp] theorem Dev.setAct_lines (k : Nat) (x : Act) : (d.setAct k x).lines = d.lines := rfl
@[simp] theorem Dev.setAct_coaches (k : Nat) (x : Act) : (d.setAct k x).coaches = d.coaches := rfl
@[simp] theorem Dev.setAct_groups (k : Nat) (x : Act) : (d.setAct k x).groups = d.groups := rfl
@[simp] theorem Dev.setAct_bondOrd (k : Nat) (x : Act) : (d.setAct k x).bondOrd = d.bondOrd := rfl
@[simp] theorem Dev.setAct_prot (k : Nat) (x : Act) : (d.setAct k x).prot = d.prot := rfl
@[simp] theorem Dev.setAct_tenderHalt (k : Nat) (x : Act) : (d.setAct k x).tenderHalt = d.tenderHalt := rfl
@[simp] theorem Dev.setAct_gasp (k : Nat) (x : Act) : (d.setAct k x).gasp = d.gasp := rfl
@[simp] theorem Dev.setAct_cph (k : Nat) (x : Act) : (d.setAct k x).cph = d.cph := rfl
@[simp] theorem Dev.setAct_wake (k : Nat) (x : Act) : (d.setAct k x).wake = d.wake := rfl
@[simp] theorem Dev.setAct_rlinks (k : Nat) (x : Act) : (d.setAct k x).rlinks = d.rlinks := rfl
@[simp] theorem Dev.setAct_hier (k : Nat) (x : Act) : (d.setAct k x).hier = d.hier := rfl
@[simp] theorem Dev.setAct_pwr (k : Nat) (x : Act) : (d.setAct k x).pwr = d.pwr := rfl
@[simp] theorem Dev.setAct_dram (k : Nat) (x : Act) : (d.setAct k x).dram = d.dram := rfl
@[simp] theorem Dev.setAct_tap (k : Nat) (x : Act) : (d.setAct k x).tap = d.tap := rfl
@[simp] theorem Dev.setAct_cvuPoly (k : Nat) (x : Act) : (d.setAct k x).cvuPoly = d.cvuPoly := rfl
@[simp] theorem Dev.setAct_cko (k : Nat) (x : Act) : (d.setAct k x).cko = d.cko := rfl
@[simp] theorem Dev.setAct_tru (k : Nat) (x : Act) : (d.setAct k x).tru = d.tru := rfl
@[simp] theorem Dev.setAct_freeCtr (k : Nat) (x : Act) : (d.setAct k x).freeCtr = d.freeCtr := rfl
@[simp] theorem Dev.setAct_out (k : Nat) (x : Act) : (d.setAct k x).out = d.out := rfl
@[simp] theorem Dev.setAct_fld (k : Nat) (x : Act) (g : Fld) : (d.setAct k x).fld g = d.fld g := rfl
@[simp] theorem Dev.act_setAct (k : Nat) (x : Act) : (d.setAct k x).act k = x := Tbl.get_set_same _ _ _ _
theorem Dev.act_setAct_ne (k : Nat) (x : Act) {j : Nat} (h : j ≠ k) : (d.setAct k x).act j = d.act j := Tbl.get_set_ne _ _ _ h

/-! ### setCoach -/

@[simp] theorem Dev.setCoach_chip (k : Nat) (x : Coach) : (d.setCoach k x).chip = d.chip := rfl
@[simp] theorem Dev.setCoach_held (k : Nat) (x : Coach) : (d.setCoach k x).held = d.held := rfl
@[simp] theorem Dev.setCoach_regs (k : Nat) (x : Coach) : (d.setCoach k x).regs = d.regs := rfl
@[simp] theorem Dev.setCoach_latch (k : Nat) (x : Coach) : (d.setCoach k x).latch = d.latch := rfl
@[simp] theorem Dev.setCoach_core (k : Nat) (x : Coach) : (d.setCoach k x).core = d.core := rfl
@[simp] theorem Dev.setCoach_slices (k : Nat) (x : Coach) : (d.setCoach k x).slices = d.slices := rfl
@[simp] theorem Dev.setCoach_inbuf (k : Nat) (x : Coach) : (d.setCoach k x).inbuf = d.inbuf := rfl
@[simp] theorem Dev.setCoach_pols (k : Nat) (x : Coach) : (d.setCoach k x).pols = d.pols := rfl
@[simp] theorem Dev.setCoach_hitSec (k : Nat) (x : Coach) : (d.setCoach k x).hitSec = d.hitSec := rfl
@[simp] theorem Dev.setCoach_gen (k : Nat) (x : Coach) : (d.setCoach k x).gen = d.gen := rfl
@[simp] theorem Dev.setCoach_tm (k : Nat) (x : Coach) : (d.setCoach k x).tm = d.tm := rfl
@[simp] theorem Dev.setCoach_macs (k : Nat) (x : Coach) : (d.setCoach k x).macs = d.macs := rfl
@[simp] theorem Dev.setCoach_lanes (k : Nat) (x : Coach) : (d.setCoach k x).lanes = d.lanes := rfl
@[simp] theorem Dev.setCoach_phys (k : Nat) (x : Coach) : (d.setCoach k x).phys = d.phys := rfl
@[simp] theorem Dev.setCoach_tim (k : Nat) (x : Coach) : (d.setCoach k x).tim = d.tim := rfl
@[simp] theorem Dev.setCoach_host (k : Nat) (x : Coach) : (d.setCoach k x).host = d.host := rfl
@[simp] theorem Dev.setCoach_lines (k : Nat) (x : Coach) : (d.setCoach k x).lines = d.lines := rfl
@[simp] theorem Dev.setCoach_acts (k : Nat) (x : Coach) : (d.setCoach k x).acts = d.acts := rfl
@[simp] theorem Dev.setCoach_groups (k : Nat) (x : Coach) : (d.setCoach k x).groups = d.groups := rfl
@[simp] theorem Dev.setCoach_bondOrd (k : Nat) (x : Coach) : (d.setCoach k x).bondOrd = d.bondOrd := rfl
@[simp] theorem Dev.setCoach_prot (k : Nat) (x : Coach) : (d.setCoach k x).prot = d.prot := rfl
@[simp] theorem Dev.setCoach_tenderHalt (k : Nat) (x : Coach) : (d.setCoach k x).tenderHalt = d.tenderHalt := rfl
@[simp] theorem Dev.setCoach_gasp (k : Nat) (x : Coach) : (d.setCoach k x).gasp = d.gasp := rfl
@[simp] theorem Dev.setCoach_cph (k : Nat) (x : Coach) : (d.setCoach k x).cph = d.cph := rfl
@[simp] theorem Dev.setCoach_wake (k : Nat) (x : Coach) : (d.setCoach k x).wake = d.wake := rfl
@[simp] theorem Dev.setCoach_rlinks (k : Nat) (x : Coach) : (d.setCoach k x).rlinks = d.rlinks := rfl
@[simp] theorem Dev.setCoach_hier (k : Nat) (x : Coach) : (d.setCoach k x).hier = d.hier := rfl
@[simp] theorem Dev.setCoach_pwr (k : Nat) (x : Coach) : (d.setCoach k x).pwr = d.pwr := rfl
@[simp] theorem Dev.setCoach_dram (k : Nat) (x : Coach) : (d.setCoach k x).dram = d.dram := rfl
@[simp] theorem Dev.setCoach_tap (k : Nat) (x : Coach) : (d.setCoach k x).tap = d.tap := rfl
@[simp] theorem Dev.setCoach_cvuPoly (k : Nat) (x : Coach) : (d.setCoach k x).cvuPoly = d.cvuPoly := rfl
@[simp] theorem Dev.setCoach_cko (k : Nat) (x : Coach) : (d.setCoach k x).cko = d.cko := rfl
@[simp] theorem Dev.setCoach_tru (k : Nat) (x : Coach) : (d.setCoach k x).tru = d.tru := rfl
@[simp] theorem Dev.setCoach_freeCtr (k : Nat) (x : Coach) : (d.setCoach k x).freeCtr = d.freeCtr := rfl
@[simp] theorem Dev.setCoach_out (k : Nat) (x : Coach) : (d.setCoach k x).out = d.out := rfl
@[simp] theorem Dev.setCoach_fld (k : Nat) (x : Coach) (g : Fld) : (d.setCoach k x).fld g = d.fld g := rfl
@[simp] theorem Dev.coach_setCoach (k : Nat) (x : Coach) : (d.setCoach k x).coach k = x := Tbl.get_set_same _ _ _ _
theorem Dev.coach_setCoach_ne (k : Nat) (x : Coach) {j : Nat} (h : j ≠ k) : (d.setCoach k x).coach j = d.coach j := Tbl.get_set_ne _ _ _ h

/-! ### setGroup -/

@[simp] theorem Dev.setGroup_chip (k : Nat) (x : BGroup) : (d.setGroup k x).chip = d.chip := rfl
@[simp] theorem Dev.setGroup_held (k : Nat) (x : BGroup) : (d.setGroup k x).held = d.held := rfl
@[simp] theorem Dev.setGroup_regs (k : Nat) (x : BGroup) : (d.setGroup k x).regs = d.regs := rfl
@[simp] theorem Dev.setGroup_latch (k : Nat) (x : BGroup) : (d.setGroup k x).latch = d.latch := rfl
@[simp] theorem Dev.setGroup_core (k : Nat) (x : BGroup) : (d.setGroup k x).core = d.core := rfl
@[simp] theorem Dev.setGroup_slices (k : Nat) (x : BGroup) : (d.setGroup k x).slices = d.slices := rfl
@[simp] theorem Dev.setGroup_inbuf (k : Nat) (x : BGroup) : (d.setGroup k x).inbuf = d.inbuf := rfl
@[simp] theorem Dev.setGroup_pols (k : Nat) (x : BGroup) : (d.setGroup k x).pols = d.pols := rfl
@[simp] theorem Dev.setGroup_hitSec (k : Nat) (x : BGroup) : (d.setGroup k x).hitSec = d.hitSec := rfl
@[simp] theorem Dev.setGroup_gen (k : Nat) (x : BGroup) : (d.setGroup k x).gen = d.gen := rfl
@[simp] theorem Dev.setGroup_tm (k : Nat) (x : BGroup) : (d.setGroup k x).tm = d.tm := rfl
@[simp] theorem Dev.setGroup_macs (k : Nat) (x : BGroup) : (d.setGroup k x).macs = d.macs := rfl
@[simp] theorem Dev.setGroup_lanes (k : Nat) (x : BGroup) : (d.setGroup k x).lanes = d.lanes := rfl
@[simp] theorem Dev.setGroup_phys (k : Nat) (x : BGroup) : (d.setGroup k x).phys = d.phys := rfl
@[simp] theorem Dev.setGroup_tim (k : Nat) (x : BGroup) : (d.setGroup k x).tim = d.tim := rfl
@[simp] theorem Dev.setGroup_host (k : Nat) (x : BGroup) : (d.setGroup k x).host = d.host := rfl
@[simp] theorem Dev.setGroup_lines (k : Nat) (x : BGroup) : (d.setGroup k x).lines = d.lines := rfl
@[simp] theorem Dev.setGroup_acts (k : Nat) (x : BGroup) : (d.setGroup k x).acts = d.acts := rfl
@[simp] theorem Dev.setGroup_coaches (k : Nat) (x : BGroup) : (d.setGroup k x).coaches = d.coaches := rfl
@[simp] theorem Dev.setGroup_bondOrd (k : Nat) (x : BGroup) : (d.setGroup k x).bondOrd = d.bondOrd := rfl
@[simp] theorem Dev.setGroup_prot (k : Nat) (x : BGroup) : (d.setGroup k x).prot = d.prot := rfl
@[simp] theorem Dev.setGroup_tenderHalt (k : Nat) (x : BGroup) : (d.setGroup k x).tenderHalt = d.tenderHalt := rfl
@[simp] theorem Dev.setGroup_gasp (k : Nat) (x : BGroup) : (d.setGroup k x).gasp = d.gasp := rfl
@[simp] theorem Dev.setGroup_cph (k : Nat) (x : BGroup) : (d.setGroup k x).cph = d.cph := rfl
@[simp] theorem Dev.setGroup_wake (k : Nat) (x : BGroup) : (d.setGroup k x).wake = d.wake := rfl
@[simp] theorem Dev.setGroup_rlinks (k : Nat) (x : BGroup) : (d.setGroup k x).rlinks = d.rlinks := rfl
@[simp] theorem Dev.setGroup_hier (k : Nat) (x : BGroup) : (d.setGroup k x).hier = d.hier := rfl
@[simp] theorem Dev.setGroup_pwr (k : Nat) (x : BGroup) : (d.setGroup k x).pwr = d.pwr := rfl
@[simp] theorem Dev.setGroup_dram (k : Nat) (x : BGroup) : (d.setGroup k x).dram = d.dram := rfl
@[simp] theorem Dev.setGroup_tap (k : Nat) (x : BGroup) : (d.setGroup k x).tap = d.tap := rfl
@[simp] theorem Dev.setGroup_cvuPoly (k : Nat) (x : BGroup) : (d.setGroup k x).cvuPoly = d.cvuPoly := rfl
@[simp] theorem Dev.setGroup_cko (k : Nat) (x : BGroup) : (d.setGroup k x).cko = d.cko := rfl
@[simp] theorem Dev.setGroup_tru (k : Nat) (x : BGroup) : (d.setGroup k x).tru = d.tru := rfl
@[simp] theorem Dev.setGroup_freeCtr (k : Nat) (x : BGroup) : (d.setGroup k x).freeCtr = d.freeCtr := rfl
@[simp] theorem Dev.setGroup_out (k : Nat) (x : BGroup) : (d.setGroup k x).out = d.out := rfl
@[simp] theorem Dev.setGroup_fld (k : Nat) (x : BGroup) (g : Fld) : (d.setGroup k x).fld g = d.fld g := rfl
@[simp] theorem Dev.group_setGroup (k : Nat) (x : BGroup) : (d.setGroup k x).group k = x := Tbl.get_set_same _ _ _ _
theorem Dev.group_setGroup_ne (k : Nat) (x : BGroup) {j : Nat} (h : j ≠ k) : (d.setGroup k x).group j = d.group j := Tbl.get_set_ne _ _ _ h

/-! ### setRing -/

@[simp] theorem Dev.setRing_chip (k : Nat) (x : RingSt) : (d.setRing k x).chip = d.chip := rfl
@[simp] theorem Dev.setRing_held (k : Nat) (x : RingSt) : (d.setRing k x).held = d.held := rfl
@[simp] theorem Dev.setRing_regs (k : Nat) (x : RingSt) : (d.setRing k x).regs = d.regs := rfl
@[simp] theorem Dev.setRing_latch (k : Nat) (x : RingSt) : (d.setRing k x).latch = d.latch := rfl
@[simp] theorem Dev.setRing_core (k : Nat) (x : RingSt) : (d.setRing k x).core = d.core := rfl
@[simp] theorem Dev.setRing_slices (k : Nat) (x : RingSt) : (d.setRing k x).slices = d.slices := rfl
@[simp] theorem Dev.setRing_inbuf (k : Nat) (x : RingSt) : (d.setRing k x).inbuf = d.inbuf := rfl
@[simp] theorem Dev.setRing_pols (k : Nat) (x : RingSt) : (d.setRing k x).pols = d.pols := rfl
@[simp] theorem Dev.setRing_hitSec (k : Nat) (x : RingSt) : (d.setRing k x).hitSec = d.hitSec := rfl
@[simp] theorem Dev.setRing_gen (k : Nat) (x : RingSt) : (d.setRing k x).gen = d.gen := rfl
@[simp] theorem Dev.setRing_tm (k : Nat) (x : RingSt) : (d.setRing k x).tm = d.tm := rfl
@[simp] theorem Dev.setRing_macs (k : Nat) (x : RingSt) : (d.setRing k x).macs = d.macs := rfl
@[simp] theorem Dev.setRing_lanes (k : Nat) (x : RingSt) : (d.setRing k x).lanes = d.lanes := rfl
@[simp] theorem Dev.setRing_phys (k : Nat) (x : RingSt) : (d.setRing k x).phys = d.phys := rfl
@[simp] theorem Dev.setRing_tim (k : Nat) (x : RingSt) : (d.setRing k x).tim = d.tim := rfl
@[simp] theorem Dev.setRing_lines (k : Nat) (x : RingSt) : (d.setRing k x).lines = d.lines := rfl
@[simp] theorem Dev.setRing_acts (k : Nat) (x : RingSt) : (d.setRing k x).acts = d.acts := rfl
@[simp] theorem Dev.setRing_coaches (k : Nat) (x : RingSt) : (d.setRing k x).coaches = d.coaches := rfl
@[simp] theorem Dev.setRing_groups (k : Nat) (x : RingSt) : (d.setRing k x).groups = d.groups := rfl
@[simp] theorem Dev.setRing_bondOrd (k : Nat) (x : RingSt) : (d.setRing k x).bondOrd = d.bondOrd := rfl
@[simp] theorem Dev.setRing_prot (k : Nat) (x : RingSt) : (d.setRing k x).prot = d.prot := rfl
@[simp] theorem Dev.setRing_tenderHalt (k : Nat) (x : RingSt) : (d.setRing k x).tenderHalt = d.tenderHalt := rfl
@[simp] theorem Dev.setRing_gasp (k : Nat) (x : RingSt) : (d.setRing k x).gasp = d.gasp := rfl
@[simp] theorem Dev.setRing_cph (k : Nat) (x : RingSt) : (d.setRing k x).cph = d.cph := rfl
@[simp] theorem Dev.setRing_wake (k : Nat) (x : RingSt) : (d.setRing k x).wake = d.wake := rfl
@[simp] theorem Dev.setRing_rlinks (k : Nat) (x : RingSt) : (d.setRing k x).rlinks = d.rlinks := rfl
@[simp] theorem Dev.setRing_hier (k : Nat) (x : RingSt) : (d.setRing k x).hier = d.hier := rfl
@[simp] theorem Dev.setRing_pwr (k : Nat) (x : RingSt) : (d.setRing k x).pwr = d.pwr := rfl
@[simp] theorem Dev.setRing_dram (k : Nat) (x : RingSt) : (d.setRing k x).dram = d.dram := rfl
@[simp] theorem Dev.setRing_tap (k : Nat) (x : RingSt) : (d.setRing k x).tap = d.tap := rfl
@[simp] theorem Dev.setRing_cvuPoly (k : Nat) (x : RingSt) : (d.setRing k x).cvuPoly = d.cvuPoly := rfl
@[simp] theorem Dev.setRing_cko (k : Nat) (x : RingSt) : (d.setRing k x).cko = d.cko := rfl
@[simp] theorem Dev.setRing_tru (k : Nat) (x : RingSt) : (d.setRing k x).tru = d.tru := rfl
@[simp] theorem Dev.setRing_freeCtr (k : Nat) (x : RingSt) : (d.setRing k x).freeCtr = d.freeCtr := rfl
@[simp] theorem Dev.setRing_out (k : Nat) (x : RingSt) : (d.setRing k x).out = d.out := rfl
@[simp] theorem Dev.setRing_fld (k : Nat) (x : RingSt) (g : Fld) : (d.setRing k x).fld g = d.fld g := rfl
@[simp] theorem Dev.ring_setRing (k : Nat) (x : RingSt) : (d.setRing k x).ring k = x := Tbl.get_set_same _ _ _ _
theorem Dev.ring_setRing_ne (k : Nat) (x : RingSt) {j : Nat} (h : j ≠ k) : (d.setRing k x).ring j = d.ring j := Tbl.get_set_ne _ _ _ h

/-! ### setDom -/

@[simp] theorem Dev.setDom_chip (k : Nat) (x : Dom) : (d.setDom k x).chip = d.chip := rfl
@[simp] theorem Dev.setDom_held (k : Nat) (x : Dom) : (d.setDom k x).held = d.held := rfl
@[simp] theorem Dev.setDom_regs (k : Nat) (x : Dom) : (d.setDom k x).regs = d.regs := rfl
@[simp] theorem Dev.setDom_latch (k : Nat) (x : Dom) : (d.setDom k x).latch = d.latch := rfl
@[simp] theorem Dev.setDom_core (k : Nat) (x : Dom) : (d.setDom k x).core = d.core := rfl
@[simp] theorem Dev.setDom_slices (k : Nat) (x : Dom) : (d.setDom k x).slices = d.slices := rfl
@[simp] theorem Dev.setDom_inbuf (k : Nat) (x : Dom) : (d.setDom k x).inbuf = d.inbuf := rfl
@[simp] theorem Dev.setDom_pols (k : Nat) (x : Dom) : (d.setDom k x).pols = d.pols := rfl
@[simp] theorem Dev.setDom_hitSec (k : Nat) (x : Dom) : (d.setDom k x).hitSec = d.hitSec := rfl
@[simp] theorem Dev.setDom_gen (k : Nat) (x : Dom) : (d.setDom k x).gen = d.gen := rfl
@[simp] theorem Dev.setDom_tm (k : Nat) (x : Dom) : (d.setDom k x).tm = d.tm := rfl
@[simp] theorem Dev.setDom_macs (k : Nat) (x : Dom) : (d.setDom k x).macs = d.macs := rfl
@[simp] theorem Dev.setDom_lanes (k : Nat) (x : Dom) : (d.setDom k x).lanes = d.lanes := rfl
@[simp] theorem Dev.setDom_phys (k : Nat) (x : Dom) : (d.setDom k x).phys = d.phys := rfl
@[simp] theorem Dev.setDom_tim (k : Nat) (x : Dom) : (d.setDom k x).tim = d.tim := rfl
@[simp] theorem Dev.setDom_lines (k : Nat) (x : Dom) : (d.setDom k x).lines = d.lines := rfl
@[simp] theorem Dev.setDom_acts (k : Nat) (x : Dom) : (d.setDom k x).acts = d.acts := rfl
@[simp] theorem Dev.setDom_coaches (k : Nat) (x : Dom) : (d.setDom k x).coaches = d.coaches := rfl
@[simp] theorem Dev.setDom_groups (k : Nat) (x : Dom) : (d.setDom k x).groups = d.groups := rfl
@[simp] theorem Dev.setDom_bondOrd (k : Nat) (x : Dom) : (d.setDom k x).bondOrd = d.bondOrd := rfl
@[simp] theorem Dev.setDom_prot (k : Nat) (x : Dom) : (d.setDom k x).prot = d.prot := rfl
@[simp] theorem Dev.setDom_tenderHalt (k : Nat) (x : Dom) : (d.setDom k x).tenderHalt = d.tenderHalt := rfl
@[simp] theorem Dev.setDom_gasp (k : Nat) (x : Dom) : (d.setDom k x).gasp = d.gasp := rfl
@[simp] theorem Dev.setDom_cph (k : Nat) (x : Dom) : (d.setDom k x).cph = d.cph := rfl
@[simp] theorem Dev.setDom_wake (k : Nat) (x : Dom) : (d.setDom k x).wake = d.wake := rfl
@[simp] theorem Dev.setDom_rlinks (k : Nat) (x : Dom) : (d.setDom k x).rlinks = d.rlinks := rfl
@[simp] theorem Dev.setDom_hier (k : Nat) (x : Dom) : (d.setDom k x).hier = d.hier := rfl
@[simp] theorem Dev.setDom_pwr (k : Nat) (x : Dom) : (d.setDom k x).pwr = d.pwr := rfl
@[simp] theorem Dev.setDom_dram (k : Nat) (x : Dom) : (d.setDom k x).dram = d.dram := rfl
@[simp] theorem Dev.setDom_tap (k : Nat) (x : Dom) : (d.setDom k x).tap = d.tap := rfl
@[simp] theorem Dev.setDom_cvuPoly (k : Nat) (x : Dom) : (d.setDom k x).cvuPoly = d.cvuPoly := rfl
@[simp] theorem Dev.setDom_cko (k : Nat) (x : Dom) : (d.setDom k x).cko = d.cko := rfl
@[simp] theorem Dev.setDom_tru (k : Nat) (x : Dom) : (d.setDom k x).tru = d.tru := rfl
@[simp] theorem Dev.setDom_freeCtr (k : Nat) (x : Dom) : (d.setDom k x).freeCtr = d.freeCtr := rfl
@[simp] theorem Dev.setDom_out (k : Nat) (x : Dom) : (d.setDom k x).out = d.out := rfl
@[simp] theorem Dev.setDom_fld (k : Nat) (x : Dom) (g : Fld) : (d.setDom k x).fld g = d.fld g := rfl
@[simp] theorem Dev.dom_setDom (k : Nat) (x : Dom) : (d.setDom k x).dom k = x := Tbl.get_set_same _ _ _ _
theorem Dev.dom_setDom_ne (k : Nat) (x : Dom) {j : Nat} (h : j ≠ k) : (d.setDom k x).dom j = d.dom j := Tbl.get_set_ne _ _ _ h

/-! ### setDch -/

@[simp] theorem Dev.setDch_chip (k : Nat) (x : DramCh) : (d.setDch k x).chip = d.chip := rfl
@[simp] theorem Dev.setDch_held (k : Nat) (x : DramCh) : (d.setDch k x).held = d.held := rfl
@[simp] theorem Dev.setDch_regs (k : Nat) (x : DramCh) : (d.setDch k x).regs = d.regs := rfl
@[simp] theorem Dev.setDch_latch (k : Nat) (x : DramCh) : (d.setDch k x).latch = d.latch := rfl
@[simp] theorem Dev.setDch_core (k : Nat) (x : DramCh) : (d.setDch k x).core = d.core := rfl
@[simp] theorem Dev.setDch_slices (k : Nat) (x : DramCh) : (d.setDch k x).slices = d.slices := rfl
@[simp] theorem Dev.setDch_inbuf (k : Nat) (x : DramCh) : (d.setDch k x).inbuf = d.inbuf := rfl
@[simp] theorem Dev.setDch_pols (k : Nat) (x : DramCh) : (d.setDch k x).pols = d.pols := rfl
@[simp] theorem Dev.setDch_hitSec (k : Nat) (x : DramCh) : (d.setDch k x).hitSec = d.hitSec := rfl
@[simp] theorem Dev.setDch_gen (k : Nat) (x : DramCh) : (d.setDch k x).gen = d.gen := rfl
@[simp] theorem Dev.setDch_tm (k : Nat) (x : DramCh) : (d.setDch k x).tm = d.tm := rfl
@[simp] theorem Dev.setDch_macs (k : Nat) (x : DramCh) : (d.setDch k x).macs = d.macs := rfl
@[simp] theorem Dev.setDch_lanes (k : Nat) (x : DramCh) : (d.setDch k x).lanes = d.lanes := rfl
@[simp] theorem Dev.setDch_phys (k : Nat) (x : DramCh) : (d.setDch k x).phys = d.phys := rfl
@[simp] theorem Dev.setDch_tim (k : Nat) (x : DramCh) : (d.setDch k x).tim = d.tim := rfl
@[simp] theorem Dev.setDch_host (k : Nat) (x : DramCh) : (d.setDch k x).host = d.host := rfl
@[simp] theorem Dev.setDch_lines (k : Nat) (x : DramCh) : (d.setDch k x).lines = d.lines := rfl
@[simp] theorem Dev.setDch_acts (k : Nat) (x : DramCh) : (d.setDch k x).acts = d.acts := rfl
@[simp] theorem Dev.setDch_coaches (k : Nat) (x : DramCh) : (d.setDch k x).coaches = d.coaches := rfl
@[simp] theorem Dev.setDch_groups (k : Nat) (x : DramCh) : (d.setDch k x).groups = d.groups := rfl
@[simp] theorem Dev.setDch_bondOrd (k : Nat) (x : DramCh) : (d.setDch k x).bondOrd = d.bondOrd := rfl
@[simp] theorem Dev.setDch_prot (k : Nat) (x : DramCh) : (d.setDch k x).prot = d.prot := rfl
@[simp] theorem Dev.setDch_tenderHalt (k : Nat) (x : DramCh) : (d.setDch k x).tenderHalt = d.tenderHalt := rfl
@[simp] theorem Dev.setDch_gasp (k : Nat) (x : DramCh) : (d.setDch k x).gasp = d.gasp := rfl
@[simp] theorem Dev.setDch_cph (k : Nat) (x : DramCh) : (d.setDch k x).cph = d.cph := rfl
@[simp] theorem Dev.setDch_wake (k : Nat) (x : DramCh) : (d.setDch k x).wake = d.wake := rfl
@[simp] theorem Dev.setDch_rlinks (k : Nat) (x : DramCh) : (d.setDch k x).rlinks = d.rlinks := rfl
@[simp] theorem Dev.setDch_hier (k : Nat) (x : DramCh) : (d.setDch k x).hier = d.hier := rfl
@[simp] theorem Dev.setDch_pwr (k : Nat) (x : DramCh) : (d.setDch k x).pwr = d.pwr := rfl
@[simp] theorem Dev.setDch_tap (k : Nat) (x : DramCh) : (d.setDch k x).tap = d.tap := rfl
@[simp] theorem Dev.setDch_cvuPoly (k : Nat) (x : DramCh) : (d.setDch k x).cvuPoly = d.cvuPoly := rfl
@[simp] theorem Dev.setDch_cko (k : Nat) (x : DramCh) : (d.setDch k x).cko = d.cko := rfl
@[simp] theorem Dev.setDch_tru (k : Nat) (x : DramCh) : (d.setDch k x).tru = d.tru := rfl
@[simp] theorem Dev.setDch_freeCtr (k : Nat) (x : DramCh) : (d.setDch k x).freeCtr = d.freeCtr := rfl
@[simp] theorem Dev.setDch_out (k : Nat) (x : DramCh) : (d.setDch k x).out = d.out := rfl
@[simp] theorem Dev.setDch_fld (k : Nat) (x : DramCh) (g : Fld) : (d.setDch k x).fld g = d.fld g := rfl
@[simp] theorem Dev.dch_setDch (k : Nat) (x : DramCh) : (d.setDch k x).dch k = x := Tbl.get_set_same _ _ _ _
theorem Dev.dch_setDch_ne (k : Nat) (x : DramCh) {j : Nat} (h : j ≠ k) : (d.setDch k x).dch j = d.dch j := Tbl.get_set_ne _ _ _ h

/-! ### setRlink -/

@[simp] theorem Dev.setRlink_chip (k : Nat) (x : RLink) : (d.setRlink k x).chip = d.chip := rfl
@[simp] theorem Dev.setRlink_held (k : Nat) (x : RLink) : (d.setRlink k x).held = d.held := rfl
@[simp] theorem Dev.setRlink_regs (k : Nat) (x : RLink) : (d.setRlink k x).regs = d.regs := rfl
@[simp] theorem Dev.setRlink_latch (k : Nat) (x : RLink) : (d.setRlink k x).latch = d.latch := rfl
@[simp] theorem Dev.setRlink_core (k : Nat) (x : RLink) : (d.setRlink k x).core = d.core := rfl
@[simp] theorem Dev.setRlink_slices (k : Nat) (x : RLink) : (d.setRlink k x).slices = d.slices := rfl
@[simp] theorem Dev.setRlink_inbuf (k : Nat) (x : RLink) : (d.setRlink k x).inbuf = d.inbuf := rfl
@[simp] theorem Dev.setRlink_pols (k : Nat) (x : RLink) : (d.setRlink k x).pols = d.pols := rfl
@[simp] theorem Dev.setRlink_hitSec (k : Nat) (x : RLink) : (d.setRlink k x).hitSec = d.hitSec := rfl
@[simp] theorem Dev.setRlink_gen (k : Nat) (x : RLink) : (d.setRlink k x).gen = d.gen := rfl
@[simp] theorem Dev.setRlink_tm (k : Nat) (x : RLink) : (d.setRlink k x).tm = d.tm := rfl
@[simp] theorem Dev.setRlink_macs (k : Nat) (x : RLink) : (d.setRlink k x).macs = d.macs := rfl
@[simp] theorem Dev.setRlink_lanes (k : Nat) (x : RLink) : (d.setRlink k x).lanes = d.lanes := rfl
@[simp] theorem Dev.setRlink_phys (k : Nat) (x : RLink) : (d.setRlink k x).phys = d.phys := rfl
@[simp] theorem Dev.setRlink_tim (k : Nat) (x : RLink) : (d.setRlink k x).tim = d.tim := rfl
@[simp] theorem Dev.setRlink_host (k : Nat) (x : RLink) : (d.setRlink k x).host = d.host := rfl
@[simp] theorem Dev.setRlink_lines (k : Nat) (x : RLink) : (d.setRlink k x).lines = d.lines := rfl
@[simp] theorem Dev.setRlink_acts (k : Nat) (x : RLink) : (d.setRlink k x).acts = d.acts := rfl
@[simp] theorem Dev.setRlink_coaches (k : Nat) (x : RLink) : (d.setRlink k x).coaches = d.coaches := rfl
@[simp] theorem Dev.setRlink_groups (k : Nat) (x : RLink) : (d.setRlink k x).groups = d.groups := rfl
@[simp] theorem Dev.setRlink_bondOrd (k : Nat) (x : RLink) : (d.setRlink k x).bondOrd = d.bondOrd := rfl
@[simp] theorem Dev.setRlink_prot (k : Nat) (x : RLink) : (d.setRlink k x).prot = d.prot := rfl
@[simp] theorem Dev.setRlink_tenderHalt (k : Nat) (x : RLink) : (d.setRlink k x).tenderHalt = d.tenderHalt := rfl
@[simp] theorem Dev.setRlink_gasp (k : Nat) (x : RLink) : (d.setRlink k x).gasp = d.gasp := rfl
@[simp] theorem Dev.setRlink_cph (k : Nat) (x : RLink) : (d.setRlink k x).cph = d.cph := rfl
@[simp] theorem Dev.setRlink_wake (k : Nat) (x : RLink) : (d.setRlink k x).wake = d.wake := rfl
@[simp] theorem Dev.setRlink_hier (k : Nat) (x : RLink) : (d.setRlink k x).hier = d.hier := rfl
@[simp] theorem Dev.setRlink_pwr (k : Nat) (x : RLink) : (d.setRlink k x).pwr = d.pwr := rfl
@[simp] theorem Dev.setRlink_dram (k : Nat) (x : RLink) : (d.setRlink k x).dram = d.dram := rfl
@[simp] theorem Dev.setRlink_tap (k : Nat) (x : RLink) : (d.setRlink k x).tap = d.tap := rfl
@[simp] theorem Dev.setRlink_cvuPoly (k : Nat) (x : RLink) : (d.setRlink k x).cvuPoly = d.cvuPoly := rfl
@[simp] theorem Dev.setRlink_cko (k : Nat) (x : RLink) : (d.setRlink k x).cko = d.cko := rfl
@[simp] theorem Dev.setRlink_tru (k : Nat) (x : RLink) : (d.setRlink k x).tru = d.tru := rfl
@[simp] theorem Dev.setRlink_freeCtr (k : Nat) (x : RLink) : (d.setRlink k x).freeCtr = d.freeCtr := rfl
@[simp] theorem Dev.setRlink_out (k : Nat) (x : RLink) : (d.setRlink k x).out = d.out := rfl
@[simp] theorem Dev.setRlink_fld (k : Nat) (x : RLink) (g : Fld) : (d.setRlink k x).fld g = d.fld g := rfl
@[simp] theorem Dev.rlink_setRlink (k : Nat) (x : RLink) : (d.setRlink k x).rlink k = x := Tbl.get_set_same _ _ _ _
theorem Dev.rlink_setRlink_ne (k : Nat) (x : RLink) {j : Nat} (h : j ≠ k) : (d.setRlink k x).rlink j = d.rlink j := Tbl.get_set_ne _ _ _ h

/-! ### setHier -/

@[simp] theorem Dev.setHier_chip (x : Hier) : (d.setHier x).chip = d.chip := rfl
@[simp] theorem Dev.setHier_held (x : Hier) : (d.setHier x).held = d.held := rfl
@[simp] theorem Dev.setHier_regs (x : Hier) : (d.setHier x).regs = d.regs := rfl
@[simp] theorem Dev.setHier_latch (x : Hier) : (d.setHier x).latch = d.latch := rfl
@[simp] theorem Dev.setHier_core (x : Hier) : (d.setHier x).core = d.core := rfl
@[simp] theorem Dev.setHier_slices (x : Hier) : (d.setHier x).slices = d.slices := rfl
@[simp] theorem Dev.setHier_inbuf (x : Hier) : (d.setHier x).inbuf = d.inbuf := rfl
@[simp] theorem Dev.setHier_pols (x : Hier) : (d.setHier x).pols = d.pols := rfl
@[simp] theorem Dev.setHier_hitSec (x : Hier) : (d.setHier x).hitSec = d.hitSec := rfl
@[simp] theorem Dev.setHier_gen (x : Hier) : (d.setHier x).gen = d.gen := rfl
@[simp] theorem Dev.setHier_tm (x : Hier) : (d.setHier x).tm = d.tm := rfl
@[simp] theorem Dev.setHier_macs (x : Hier) : (d.setHier x).macs = d.macs := rfl
@[simp] theorem Dev.setHier_lanes (x : Hier) : (d.setHier x).lanes = d.lanes := rfl
@[simp] theorem Dev.setHier_phys (x : Hier) : (d.setHier x).phys = d.phys := rfl
@[simp] theorem Dev.setHier_tim (x : Hier) : (d.setHier x).tim = d.tim := rfl
@[simp] theorem Dev.setHier_host (x : Hier) : (d.setHier x).host = d.host := rfl
@[simp] theorem Dev.setHier_lines (x : Hier) : (d.setHier x).lines = d.lines := rfl
@[simp] theorem Dev.setHier_acts (x : Hier) : (d.setHier x).acts = d.acts := rfl
@[simp] theorem Dev.setHier_coaches (x : Hier) : (d.setHier x).coaches = d.coaches := rfl
@[simp] theorem Dev.setHier_groups (x : Hier) : (d.setHier x).groups = d.groups := rfl
@[simp] theorem Dev.setHier_bondOrd (x : Hier) : (d.setHier x).bondOrd = d.bondOrd := rfl
@[simp] theorem Dev.setHier_prot (x : Hier) : (d.setHier x).prot = d.prot := rfl
@[simp] theorem Dev.setHier_tenderHalt (x : Hier) : (d.setHier x).tenderHalt = d.tenderHalt := rfl
@[simp] theorem Dev.setHier_gasp (x : Hier) : (d.setHier x).gasp = d.gasp := rfl
@[simp] theorem Dev.setHier_cph (x : Hier) : (d.setHier x).cph = d.cph := rfl
@[simp] theorem Dev.setHier_wake (x : Hier) : (d.setHier x).wake = d.wake := rfl
@[simp] theorem Dev.setHier_rlinks (x : Hier) : (d.setHier x).rlinks = d.rlinks := rfl
@[simp] theorem Dev.setHier_pwr (x : Hier) : (d.setHier x).pwr = d.pwr := rfl
@[simp] theorem Dev.setHier_dram (x : Hier) : (d.setHier x).dram = d.dram := rfl
@[simp] theorem Dev.setHier_tap (x : Hier) : (d.setHier x).tap = d.tap := rfl
@[simp] theorem Dev.setHier_cvuPoly (x : Hier) : (d.setHier x).cvuPoly = d.cvuPoly := rfl
@[simp] theorem Dev.setHier_cko (x : Hier) : (d.setHier x).cko = d.cko := rfl
@[simp] theorem Dev.setHier_tru (x : Hier) : (d.setHier x).tru = d.tru := rfl
@[simp] theorem Dev.setHier_freeCtr (x : Hier) : (d.setHier x).freeCtr = d.freeCtr := rfl
@[simp] theorem Dev.setHier_out (x : Hier) : (d.setHier x).out = d.out := rfl
@[simp] theorem Dev.setHier_fld (x : Hier) (g : Fld) : (d.setHier x).fld g = d.fld g := rfl

/-! ### setBoot -/

@[simp] theorem Dev.setBoot_chip (b : BootRun) : (d.setBoot b).chip = d.chip := rfl
@[simp] theorem Dev.setBoot_held (b : BootRun) : (d.setBoot b).held = d.held := rfl
@[simp] theorem Dev.setBoot_regs (b : BootRun) : (d.setBoot b).regs = d.regs := rfl
@[simp] theorem Dev.setBoot_latch (b : BootRun) : (d.setBoot b).latch = d.latch := rfl
@[simp] theorem Dev.setBoot_core (b : BootRun) : (d.setBoot b).core = d.core := rfl
@[simp] theorem Dev.setBoot_slices (b : BootRun) : (d.setBoot b).slices = d.slices := rfl
@[simp] theorem Dev.setBoot_inbuf (b : BootRun) : (d.setBoot b).inbuf = d.inbuf := rfl
@[simp] theorem Dev.setBoot_pols (b : BootRun) : (d.setBoot b).pols = d.pols := rfl
@[simp] theorem Dev.setBoot_hitSec (b : BootRun) : (d.setBoot b).hitSec = d.hitSec := rfl
@[simp] theorem Dev.setBoot_gen (b : BootRun) : (d.setBoot b).gen = d.gen := rfl
@[simp] theorem Dev.setBoot_tm (b : BootRun) : (d.setBoot b).tm = d.tm := rfl
@[simp] theorem Dev.setBoot_macs (b : BootRun) : (d.setBoot b).macs = d.macs := rfl
@[simp] theorem Dev.setBoot_lanes (b : BootRun) : (d.setBoot b).lanes = d.lanes := rfl
@[simp] theorem Dev.setBoot_phys (b : BootRun) : (d.setBoot b).phys = d.phys := rfl
@[simp] theorem Dev.setBoot_tim (b : BootRun) : (d.setBoot b).tim = d.tim := rfl
@[simp] theorem Dev.setBoot_host (b : BootRun) : (d.setBoot b).host = d.host := rfl
@[simp] theorem Dev.setBoot_lines (b : BootRun) : (d.setBoot b).lines = d.lines := rfl
@[simp] theorem Dev.setBoot_acts (b : BootRun) : (d.setBoot b).acts = d.acts := rfl
@[simp] theorem Dev.setBoot_coaches (b : BootRun) : (d.setBoot b).coaches = d.coaches := rfl
@[simp] theorem Dev.setBoot_groups (b : BootRun) : (d.setBoot b).groups = d.groups := rfl
@[simp] theorem Dev.setBoot_bondOrd (b : BootRun) : (d.setBoot b).bondOrd = d.bondOrd := rfl
@[simp] theorem Dev.setBoot_prot (b : BootRun) : (d.setBoot b).prot = d.prot := rfl
@[simp] theorem Dev.setBoot_tenderHalt (b : BootRun) : (d.setBoot b).tenderHalt = d.tenderHalt := rfl
@[simp] theorem Dev.setBoot_gasp (b : BootRun) : (d.setBoot b).gasp = d.gasp := rfl
@[simp] theorem Dev.setBoot_cph (b : BootRun) : (d.setBoot b).cph = d.cph := rfl
@[simp] theorem Dev.setBoot_wake (b : BootRun) : (d.setBoot b).wake = d.wake := rfl
@[simp] theorem Dev.setBoot_rlinks (b : BootRun) : (d.setBoot b).rlinks = d.rlinks := rfl
@[simp] theorem Dev.setBoot_hier (b : BootRun) : (d.setBoot b).hier = d.hier := rfl
@[simp] theorem Dev.setBoot_pwr (b : BootRun) : (d.setBoot b).pwr = d.pwr := rfl
@[simp] theorem Dev.setBoot_dram (b : BootRun) : (d.setBoot b).dram = d.dram := rfl
@[simp] theorem Dev.setBoot_tap (b : BootRun) : (d.setBoot b).tap = d.tap := rfl
@[simp] theorem Dev.setBoot_cvuPoly (b : BootRun) : (d.setBoot b).cvuPoly = d.cvuPoly := rfl
@[simp] theorem Dev.setBoot_cko (b : BootRun) : (d.setBoot b).cko = d.cko := rfl
@[simp] theorem Dev.setBoot_freeCtr (b : BootRun) : (d.setBoot b).freeCtr = d.freeCtr := rfl
@[simp] theorem Dev.setBoot_out (b : BootRun) : (d.setBoot b).out = d.out := rfl
@[simp] theorem Dev.setBoot_fld (b : BootRun) (g : Fld) : (d.setBoot b).fld g = d.fld g := rfl

/-! ### Register fields -/

@[simp] theorem Dev.fld_put_same (f : Fld) (v : Nat) : (d.put f v).fld f = v % 2 ^ f.w := Tbl.get_set_same _ _ _ _

theorem Dev.fld_put_ne {f g : Fld} (v : Nat) (h : g.key ≠ f.key) : (d.put f v).fld g = d.fld g := Tbl.get_set_ne _ _ _ h

theorem Dev.fld_put (f g : Fld) (v : Nat) : (d.put f v).fld g = if g.key = f.key then v % 2 ^ f.w else d.fld g :=
  Tbl.get_set _ _ _ _ _

theorem Dev.reg_put (f : Fld) (v k x : Nat) :
    Tbl.get (d.put f v).regs k x = if k = f.key then v % 2 ^ f.w else Tbl.get d.regs k x := Tbl.get_set _ _ _ _ _

theorem Dev.fld_unput_same (f : Fld) : (d.unput f).fld f = Reg.rst f.key := Tbl.get_del_same _ _ _

theorem Dev.fld_unput_ne {f g : Fld} (h : g.key ≠ f.key) : (d.unput f).fld g = d.fld g := Tbl.get_del_ne _ _ h

end Sys2Proof.Machine
end

