-- ==== Sys2Proof/Laws/Fields.lean ====
section
/-!
SUPPORT. How the relations `Dev.Regs` and `Dev.Sets` of Safety.lean are built up, one written field at a time.
-/
namespace Sys2Proof.Machine

variable {d d' : Dev} {l : List (Fld × Nat)}

theorem Dev.Regs.nil (d : Dev) : d.Regs d [] := ⟨by simp, fun _ _ => rfl⟩

theorem Dev.Regs.put (h : d.Regs d' l) (f : Fld) (v : Nat) (hk : f.key ∉ l.map (fun e => e.1.key)) :
    d.Regs (d'.put f v) ((f, v % 2 ^ f.w) :: l) := by
  refine ⟨fun e he => ?_, fun k hk' => ?_⟩
  · rcases List.mem_cons.1 he with rfl | he
    · simp
    · rw [Dev.fld_put_ne _ _ (fun e' => hk (e' ▸ List.mem_map_of_mem (f := fun e => e.1.key) he))]
      exact h.1 e he
  · simp only [List.map_cons, List.mem_cons, not_or] at hk'
    rw [Dev.reg_put, if_neg hk'.1]
    exact h.2 k (by simpa using hk'.2)

theorem Dev.Sets.nil (d : Dev) : d.Sets d [] := ⟨.nil d, rfl⟩

theorem Dev.Sets.put (h : d.Sets d' l) (f : Fld) (v : Nat) (hk : f.key ∉ l.map (fun e => e.1.key)) :
    d.Sets (d'.put f v) ((f, v % 2 ^ f.w) :: l) := ⟨h.1.put f v hk, h.2⟩

/-- One field is written. -/
theorem Dev.Sets.put_one (d : Dev) (f : Fld) (v : Nat) : d.Sets (d.put f v) [(f, v % 2 ^ f.w)] :=
  (Dev.Sets.nil d).put f v (by simp)

/-- Every other field reads as before. -/
theorem Dev.Regs.fld_eq (h : d.Regs d' l) {f : Fld} (hf : f.key ∉ l.map (fun e => e.1.key)) : d'.fld f = d.fld f :=
  h.2 f.key (by simpa using hf)

end Sys2Proof.Machine
end

