-- ==== Sys2Proof/Laws/Answer.lean ====
section
/-!
SUPPORT. How a command's answer is read off its meaning: the device that a command of each domain gives before what follows
every command.
-/
namespace Sys2Proof.Machine

variable {i : Instr} {s : State} {f : Dev → Dev} {P : Dev → Prop}

theorem Does.of_run (he : exec i s = s.run f) : Does i s (f s.dev) := he

theorem Does.of_main (he : exec i s = s.main f) (h : s.dev.mainUp = true) : Does i s (f s.dev) := by
  unfold Does
  rw [he, State.main, State.run, if_pos h]

theorem Does.of_crema (he : exec i s = s.crema f) (h : s.dev.cremaUp = true) : Does i s (f s.dev) := by
  unfold Does
  rw [he, State.crema, State.run, if_pos h]

theorem Effect.of_run (he : exec i s = s.run f) (hp : P (f s.dev)) : Effect i s P := ⟨_, .of_run he, hp⟩

theorem Effect.of_main (he : exec i s = s.main f) (h : s.dev.mainUp = true) (hp : P (f s.dev)) : Effect i s P :=
  ⟨_, .of_main he h, hp⟩

theorem Effect.of_crema (he : exec i s = s.crema f) (h : s.dev.cremaUp = true) (hp : P (f s.dev)) : Effect i s P :=
  ⟨_, .of_crema he h, hp⟩

/-- A pin of the Crema domain: what it does, or the level alone during the Crema power-on reset. -/
theorem Does.of_pin {g : Held → Held} (he : exec i s = s.pin g f) (h : s.dev.cremaUp = true) : Does i s (f s.dev) := by
  unfold Does
  rw [he, State.pin, State.run, if_pos h]

/-- Nothing follows a command while the main domain is held. -/
theorem Dev.after_held {d : Dev} (h : d.mainUp = false) : d.after = d := by
  rw [Dev.after, h]; rfl

end Sys2Proof.Machine
end

