-- ==== Sys2Proof/Laws/Dispatch.lean ====
section
/-!
SUPPORT. The dispatch, one equation for each command.
-/
namespace Sys2Proof.Machine

variable (s : State)

theorem exec_registerWrite (m a v) : exec (.registerWrite m a v) s = execRegisterWrite m a v s := rfl
theorem exec_w1cClear (m a v hw) : exec (.w1cClear m a v hw) s = execW1cClear m a v hw s := rfl
theorem exec_rcRead (m a) : exec (.rcRead m a) s = execRcRead m a s := rfl
theorem exec_wideLowWordRead (m a) : exec (.wideLowWordRead m a) s = execWideLowWordRead m a s := rfl
theorem exec_absentUnitAccess (m a op) : exec (.absentUnitAccess m a op) s = execAbsentUnitAccess m a op s := rfl
theorem exec_unmappedAccess (m a op) : exec (.unmappedAccess m a op) s = execUnmappedAccess m a op s := rfl
theorem exec_narrowAccess (m a kind op) : exec (.narrowAccess m a kind op) s = execNarrowAccess m a kind op s := rfl
theorem exec_cremaPowerOnReset : exec .cremaPowerOnReset s = execCremaPowerOnReset s := rfl
theorem exec_cremaPorEnd : exec .cremaPorEnd s = execCremaPorEnd s := rfl
theorem exec_porstNAssert : exec .porstNAssert s = execPorstNAssert s := rfl
theorem exec_porstNRelease (strap) : exec (.porstNRelease strap) s = execPorstNRelease strap s := rfl
theorem exec_resetNAssert : exec .resetNAssert s = execResetNAssert s := rfl
theorem exec_resetNRelease : exec .resetNRelease s = execResetNRelease s := rfl
theorem exec_chipReset (m key) : exec (.chipReset m key) s = execChipReset m key s := rfl
theorem exec_blockRstLn (v) : exec (.blockRstLn v) s = execBlockRstLn v s := rfl
theorem exec_blockRstRp (v) : exec (.blockRstRp v) s = execBlockRstRp v s := rfl
theorem exec_blockRstCph (on) : exec (.blockRstCph on) s = execBlockRstCph on s := rfl
theorem exec_blockRstHif (on) : exec (.blockRstHif on) s = execBlockRstHif on s := rfl
theorem exec_pcieReset : exec .pcieReset s = execPcieReset s := rfl
theorem exec_functionLevelReset : exec .functionLevelReset s = execFunctionLevelReset s := rfl
theorem exec_testEnAssert (on strap) : exec (.testEnAssert on strap) s = execTestEnAssert on strap s := rfl
theorem exec_recircTokenGain : exec .recircTokenGain s = execRecircTokenGain s := rfl
theorem exec_hostTokenGain : exec .hostTokenGain s = execHostTokenGain s := rfl
theorem exec_slotGrant (dt k) : exec (.slotGrant dt k) s = execSlotGrant dt k s := rfl
theorem exec_inputBufferArrival (dt p data) : exec (.inputBufferArrival dt p data) s = execInputBufferArrival dt p data s := rfl
theorem exec_rxEnWrite (m n v) : exec (.rxEnWrite m n v) s = execRxEnWrite m n v s := rfl
theorem exec_eqAcqDone (n) : exec (.eqAcqDone n) s = execEqAcqDone n s := rfl
theorem exec_ffeWrite (m n ix v) : exec (.ffeWrite m n ix v) s = execFfeWrite m n ix v s := rfl
theorem exec_ffeSnapshotRead (m n) : exec (.ffeSnapshotRead m n) s = execFfeSnapshotRead m n s := rfl
theorem exec_eqPreset (m n v) : exec (.eqPreset m n v) s = execEqPreset m n v s := rfl
theorem exec_lineSdChange (n level) : exec (.lineSdChange n level) s = execLineSdChange n level s := rfl
theorem exec_dsdRaise (n) : exec (.dsdRaise n) s = execDsdRaise n s := rfl
theorem exec_dsdClear (n) : exec (.dsdClear n) s = execDsdClear n s := rfl
theorem exec_lolRaise (n) : exec (.lolRaise n) s = execLolRaise n s := rfl
theorem exec_lolClear (n) : exec (.lolClear n) s = execLolClear n s := rfl
theorem exec_huntRestart (m n v) : exec (.huntRestart m n v) s = execHuntRestart m n v s := rfl
theorem exec_huntMatch (n pos errs hec sfc) : exec (.huntMatch n pos errs hec sfc) s = execHuntMatch n pos errs hec sfc s := rfl
theorem exec_candidateCheck (n pos errs hec x) : exec (.candidateCheck n pos errs hec x) s = execCandidateCheck n pos errs hec x s := rfl
theorem exec_ambigRaise (n) : exec (.ambigRaise n) s = execAmbigRaise n s := rfl
theorem exec_framePsync (dt n errs hec sfc ponid) : exec (.framePsync dt n errs hec sfc ponid) s = execFramePsync dt n errs hec sfc ponid s := rfl
theorem exec_codewordDecision (n corr) : exec (.codewordDecision n corr) s = execCodewordDecision n corr s := rfl
theorem exec_fsHeaderReceived (n) : exec (.fsHeaderReceived n) s = execFsHeaderReceived n s := rfl
theorem exec_xgemHeader (n h st) : exec (.xgemHeader n h st) s = execXgemHeader n h st s := rfl
theorem exec_xportWrite (m n ix v) : exec (.xportWrite m n ix v) s = execXportWrite m n ix v s := rfl
theorem exec_traceCtrlWrite (m n v) : exec (.traceCtrlWrite m n v) s = execTraceCtrlWrite m n v s := rfl
theorem exec_pmLatch (dt) : exec (.pmLatch dt) s = execPmLatch dt s := rfl
theorem exec_pmSelWrite (m n v) : exec (.pmSelWrite m n v) s = execPmSelWrite m n v s := rfl
theorem exec_tenderLockstepError : exec .tenderLockstepError s = execTenderLockstepError s := rfl
theorem exec_tenderRestart (m) : exec (.tenderRestart m) s = execTenderRestart m s := rfl
theorem exec_actEnable (m n) : exec (.actEnable m n) s = execActEnable m n s := rfl
theorem exec_actDisable (m n) : exec (.actDisable m n) s = execActDisable m n s := rfl
theorem exec_lodsTimeout (n) : exec (.lodsTimeout n) s = execLodsTimeout n s := rfl
theorem exec_to1Expiry (n) : exec (.to1Expiry n) s = execTo1Expiry n s := rfl
theorem exec_to2Expiry (n) : exec (.to2Expiry n) s = execTo2Expiry n s := rfl
theorem exec_burstProfile (n p x) : exec (.burstProfile n p x) s = execBurstProfile n p x s := rfl
theorem exec_assignOnuId (n p onu) : exec (.assignOnuId n p onu) s = execAssignOnuId n p onu s := rfl
theorem exec_rangingTime (n p eqd) : exec (.rangingTime n p eqd) s = execRangingTime n p eqd s := rfl
theorem exec_deactivateOnuId (n p) : exec (.deactivateOnuId n p) s = execDeactivateOnuId n p s := rfl
theorem exec_disableSerialNumber (n p all disable) : exec (.disableSerialNumber n p all disable) s = execDisableSerialNumber n p all disable s := rfl
theorem exec_requestRegistration (n p) : exec (.requestRegistration n p) s = execRequestRegistration n p s := rfl
theorem exec_assignAllocId (n p alloc add) : exec (.assignAllocId n p alloc add) s = execAssignAllocId n p alloc add s := rfl
theorem exec_keyControl (n p x) : exec (.keyControl n p x) s = execKeyControl n p x s := rfl
theorem exec_systemProfile (n p content) : exec (.systemProfile n p content) s = execSystemProfile n p content s := rfl
theorem exec_channelProfile (n p ident) : exec (.channelProfile n p ident) s = execChannelProfile n p ident s := rfl
theorem exec_changePowerLevel (n p level) : exec (.changePowerLevel n p level) s = execChangePowerLevel n p level s := rfl
theorem exec_protectionControl (n p) : exec (.protectionControl n p) s = execProtectionControl n p s := rfl
theorem exec_sleepAllow (n p) : exec (.sleepAllow n p) s = execSleepAllow n p s := rfl
theorem exec_calibrationRequest (n p) : exec (.calibrationRequest n p) s = execCalibrationRequest n p s := rfl
theorem exec_adjustTxWavelength (n p) : exec (.adjustTxWavelength n p) s = execAdjustTxWavelength n p s := rfl
theorem exec_tuningControl (n p) : exec (.tuningControl n p) s = execTuningControl n p s := rfl
theorem exec_ploamAnswerReady (n) : exec (.ploamAnswerReady n) s = execPloamAnswerReady n s := rfl
theorem exec_pwrLvlAppliedWrite (m n v) : exec (.pwrLvlAppliedWrite m n v) s = execPwrLvlAppliedWrite m n v s := rfl
theorem exec_pwrLvlTimeout (n) : exec (.pwrLvlTimeout n) s = execPwrLvlTimeout n s := rfl
theorem exec_bandwidthMapParse (n grants) : exec (.bandwidthMapParse n grants) s = execBandwidthMapParse n grants s := rfl
theorem exec_burstSeal (dt n) : exec (.burstSeal dt n) s = execBurstSeal dt n s := rfl
theorem exec_burstTransmit (dt n) : exec (.burstTransmit dt n) s = execBurstTransmit dt n s := rfl
theorem exec_prestageFill (dt n t) : exec (.prestageFill dt n t) s = execPrestageFill dt n t s := rfl
theorem exec_cbSidingReadDone (dt x) : exec (.cbSidingReadDone dt x) s = execCbSidingReadDone dt x s := rfl
theorem exec_allocTcontWrite (m n ix v) : exec (.allocTcontWrite m n ix v) s = execAllocTcontWrite m n ix v s := rfl
theorem exec_omciRx (n) : exec (.omciRx n) s = execOmciRx n s := rfl
theorem exec_txmsgHandoff (r l b) : exec (.txmsgHandoff r l b) s = execTxmsgHandoff r l b s := rfl
theorem exec_lineModeWrite (m v) : exec (.lineModeWrite m v) s = execLineModeWrite m v s := rfl
theorem exec_bondGroupEnable (m g v) : exec (.bondGroupEnable m g v) s = execBondGroupEnable m g v s := rfl
theorem exec_bondGroupDisable (m g v) : exec (.bondGroupDisable m g v) s = execBondGroupDisable m g v s := rfl
theorem exec_bondUnitRx (dt n) : exec (.bondUnitRx dt n) s = execBondUnitRx dt n s := rfl
theorem exec_bondStartTimerExpiry (g) : exec (.bondStartTimerExpiry g) s = execBondStartTimerExpiry g s := rfl
theorem exec_bondWindowExpiry (g) : exec (.bondWindowExpiry g) s = execBondWindowExpiry g s := rfl
theorem exec_fastDefHoldoffExpiry (n ucw) : exec (.fastDefHoldoffExpiry n ucw) s = execFastDefHoldoffExpiry n ucw s := rfl
theorem exec_protAutoSwitch : exec .protAutoSwitch s = execProtAutoSwitch s := rfl
theorem exec_protManualSwitch (m v) : exec (.protManualSwitch m v) s = execProtManualSwitch m v s := rfl
theorem exec_protForcedSwitch (m v) : exec (.protForcedSwitch m v) s = execProtForcedSwitch m v s := rfl
theorem exec_protSwitchComplete : exec .protSwitchComplete s = execProtSwitchComplete s := rfl
theorem exec_trefTrackResume : exec .trefTrackResume s = execTrefTrackResume s := rfl
theorem exec_loadPlain (m slot) : exec (.loadPlain m slot) s = execLoadPlain m slot s := rfl
theorem exec_loadDev (m slot) : exec (.loadDev m slot) s = execLoadDev m slot s := rfl
theorem exec_loadLink (m slot) : exec (.loadLink m slot) s = execLoadLink m slot s := rfl
theorem exec_generate (m slot) : exec (.generate m slot) s = execGenerate m slot s := rfl
theorem exec_invalidate (m slot) : exec (.invalidate m slot) s = execInvalidate m slot s := rfl
theorem exec_keyCmdDone : exec .keyCmdDone s = execKeyCmdDone s := rfl
theorem exec_lineKeySwArm (m n v) : exec (.lineKeySwArm m n v) s = execLineKeySwArm m n v s := rfl
theorem exec_rsrKeySwArm (m p v) : exec (.rsrKeySwArm m p v) s = execRsrKeySwArm m p v s := rfl
theorem exec_rsrKeySwitch (dt p) : exec (.rsrKeySwitch dt p) s = execRsrKeySwitch dt p s := rfl
theorem exec_wagonVerdict (p) : exec (.wagonVerdict p) s = execWagonVerdict p s := rfl
theorem exec_ingressPassEnd (dt k) : exec (.ingressPassEnd dt k) s = execIngressPassEnd dt k s := rfl
theorem exec_recircReturn (k) : exec (.recircReturn k) s = execRecircReturn k s := rfl
theorem exec_recircTimeout (k) : exec (.recircTimeout k) s = execRecircTimeout k s := rfl
theorem exec_pclStageWrite (m t loc) : exec (.pclStageWrite m t loc) s = execPclStageWrite m t loc s := rfl
theorem exec_pclStageDelete (m t loc) : exec (.pclStageDelete m t loc) s = execPclStageDelete m t loc s := rfl
theorem exec_pclStageRevert (m t loc) : exec (.pclStageRevert m t loc) s = execPclStageRevert m t loc s := rfl
theorem exec_pclRead (m t view loc) : exec (.pclRead m t view loc) s = execPclRead m t view loc s := rfl
theorem exec_pclReadLoc (m t view loc) : exec (.pclReadLoc m t view loc) s = execPclReadLoc m t view loc s := rfl
theorem exec_pclDiscardRejected (m) : exec (.pclDiscardRejected m) s = execPclDiscardRejected m s := rfl
theorem exec_tblCmdDone (u) : exec (.tblCmdDone u) s = execTblCmdDone u s := rfl
theorem exec_scrubDone (x) : exec (.scrubDone x) s = execScrubDone x s := rfl
theorem exec_bucketRefill (level ix) : exec (.bucketRefill level ix) s = execBucketRefill level ix s := rfl
theorem exec_bucketReset (m b ix) : exec (.bucketReset m b ix) s = execBucketReset m b ix s := rfl
theorem exec_queueFlush (m q) : exec (.queueFlush m q) s = execQueueFlush m q s := rfl
theorem exec_readLevel (m b ix) : exec (.readLevel m b ix) s = execReadLevel m b ix s := rfl
theorem exec_tmgStageWrite (m t loc) : exec (.tmgStageWrite m t loc) s = execTmgStageWrite m t loc s := rfl
theorem exec_tmgStageDelete (m t loc) : exec (.tmgStageDelete m t loc) s = execTmgStageDelete m t loc s := rfl
theorem exec_tmgStageRevert (m t loc) : exec (.tmgStageRevert m t loc) s = execTmgStageRevert m t loc s := rfl
theorem exec_tmgRead (m t view loc) : exec (.tmgRead m t view loc) s = execTmgRead m t view loc s := rfl
theorem exec_tmgDiscardRejected (m) : exec (.tmgDiscardRejected m) s = execTmgDiscardRejected m s := rfl
theorem exec_sidingReturn (q) : exec (.sidingReturn q) s = execSidingReturn q s := rfl
theorem exec_sidingReadDone (q lost) : exec (.sidingReadDone q lost) s = execSidingReadDone q lost s := rfl
theorem exec_bufCfgWrite (m v) : exec (.bufCfgWrite m v) s = execBufCfgWrite m v s := rfl
theorem exec_sidingCfgWrite (m v) : exec (.sidingCfgWrite m v) s = execSidingCfgWrite m v s := rfl
theorem exec_sidingDisableApply : exec .sidingDisableApply s = execSidingDisableApply s := rfl
theorem exec_tcontOccUpdate (t) : exec (.tcontOccUpdate t) s = execTcontOccUpdate t s := rfl
theorem exec_tcontOccRead (m t) : exec (.tcontOccRead m t) s = execTcontOccRead m t s := rfl
theorem exec_laneCtrlWrite (m n v) : exec (.laneCtrlWrite m n v) s = execLaneCtrlWrite m n v s := rfl
theorem exec_inbandWordChange (n j rate) : exec (.inbandWordChange n j rate) s = execInbandWordChange n j rate s := rfl
theorem exec_portLinkChange (n j) : exec (.portLinkChange n j) s = execPortLinkChange n j s := rfl
theorem exec_macFrameRx (dt n j b codeErr rm st) : exec (.macFrameRx dt n j b codeErr rm st) s = execMacFrameRx dt n j b codeErr rm st s := rfl
theorem exec_pauseTimerExpiry (n j classes) : exec (.pauseTimerExpiry n j classes) s = execPauseTimerExpiry n j classes s := rfl
theorem exec_fcRefreshExpiry (dt n j) : exec (.fcRefreshExpiry dt n j) s = execFcRefreshExpiry dt n j s := rfl
theorem exec_portFrameRequest (dt n j) : exec (.portFrameRequest dt n j) s = execPortFrameRequest dt n j s := rfl
theorem exec_frameTxStart (dt n j st) : exec (.frameTxStart dt n j st) s = execFrameTxStart dt n j st s := rfl
theorem exec_txUnderrun (dt n j) : exec (.txUnderrun dt n j) s = execTxUnderrun dt n j s := rfl
theorem exec_frameTxEnd (dt n j) : exec (.frameTxEnd dt n j) s = execFrameTxEnd dt n j s := rfl
theorem exec_gateStateChange (dt n j) : exec (.gateStateChange dt n j) s = execGateStateChange dt n j s := rfl
theorem exec_ttStageWrite (m t loc) : exec (.ttStageWrite m t loc) s = execTtStageWrite m t loc s := rfl
theorem exec_ttStageDelete (m t loc) : exec (.ttStageDelete m t loc) s = execTtStageDelete m t loc s := rfl
theorem exec_ttStageRevert (m t loc) : exec (.ttStageRevert m t loc) s = execTtStageRevert m t loc s := rfl
theorem exec_ttRead (m t view loc) : exec (.ttRead m t view loc) s = execTtRead m t view loc s := rfl
theorem exec_ttDiscardRejected (m) : exec (.ttDiscardRejected m) s = execTtDiscardRejected m s := rfl
theorem exec_lpiEntry (n j) : exec (.lpiEntry n j) s = execLpiEntry n j s := rfl
theorem exec_lpiRxChange (n j on) : exec (.lpiRxChange n j on) s = execLpiRxChange n j on s := rfl
theorem exec_nowRead (dt m phase) : exec (.nowRead dt m phase) s = execNowRead dt m phase s := rfl
theorem exec_stepGo (dt m v) : exec (.stepGo dt m v) s = execStepGo dt m v s := rfl
theorem exec_todArm (m) : exec (.todArm m) s = execTodArm m s := rfl
theorem exec_todSampleCapture (dt n st) : exec (.todSampleCapture dt n st) s = execTodSampleCapture dt n st s := rfl
theorem exec_todSampleEvaluate (dt) : exec (.todSampleEvaluate dt) s = execTodSampleEvaluate dt s := rfl
theorem exec_slewComplete (dt) : exec (.slewComplete dt) s = execSlewComplete dt s := rfl
theorem exec_rateWrite (dt m v) : exec (.rateWrite dt m v) s = execRateWrite dt m v s := rfl
theorem exec_xferParamWrite (m asym v) : exec (.xferParamWrite m asym v) s = execXferParamWrite m asym v s := rfl
theorem exec_pllCtrlWrite (m v) : exec (.pllCtrlWrite m v) s = execPllCtrlWrite m v s := rfl
theorem exec_pllRefQualified : exec .pllRefQualified s = execPllRefQualified s := rfl
theorem exec_pllLockAchieved : exec .pllLockAchieved s = execPllLockAchieved s := rfl
theorem exec_pllRefUnqualified : exec .pllRefUnqualified s = execPllRefUnqualified s := rfl
theorem exec_ppsOutPulse (dt) : exec (.ppsOutPulse dt) s = execPpsOutPulse dt s := rfl
theorem exec_ppsWidthExpiry (dt) : exec (.ppsWidthExpiry dt) s = execPpsWidthExpiry dt s := rfl
theorem exec_ppsInEdge (dt rising st) : exec (.ppsInEdge dt rising st) s = execPpsInEdge dt rising st s := rfl
theorem exec_signalDetectChange (x on) : exec (.signalDetectChange x on) s = execSignalDetectChange x on s := rfl
theorem exec_slAdaptDone (x ctle dfe) : exec (.slAdaptDone x ctle dfe) s = execSlAdaptDone x ctle dfe s := rfl
theorem exec_ladderStart (m n v) : exec (.ladderStart m n v) s = execLadderStart m n v s := rfl
theorem exec_ladderRestart (m n v) : exec (.ladderRestart m n v) s = execLadderRestart m n v s := rfl
theorem exec_ladderDwellExpiry (n held) : exec (.ladderDwellExpiry n held) s = execLadderDwellExpiry n held s := rfl
theorem exec_txeqWrite (m x v) : exec (.txeqWrite m x v) s = execTxeqWrite m x v s := rfl
theorem exec_eyeScanStart (m x v) : exec (.eyeScanStart m x v) s = execEyeScanStart m x v s := rfl
theorem exec_eyeScanDone (x errors) : exec (.eyeScanDone x errors) s = execEyeScanDone x errors s := rfl
theorem exec_patSyncGain (x) : exec (.patSyncGain x) s = execPatSyncGain x s := rfl
theorem exec_patSyncLoss (x errs) : exec (.patSyncLoss x errs) s = execPatSyncLoss x errs s := rfl
theorem exec_forwardedClockLoss (x) : exec (.forwardedClockLoss x) s = execForwardedClockLoss x s := rfl
theorem exec_forwardedClockOk (x) : exec (.forwardedClockOk x) s = execForwardedClockOk x s := rfl
theorem exec_pageAccept (p b) : exec (.pageAccept p b) s = execPageAccept p b s := rfl
theorem exec_pageExchangeDone (p) : exec (.pageExchangeDone p) s = execPageExchangeDone p s := rfl
theorem exec_switchSuspendExpiry (p) : exec (.switchSuspendExpiry p) s = execSwitchSuspendExpiry p s := rfl
theorem exec_switchTimeout (p) : exec (.switchTimeout p) s = execSwitchTimeout p s := rfl
theorem exec_trainTimerExpiry (p m0 m1) : exec (.trainTimerExpiry p m0 m1) s = execTrainTimerExpiry p m0 m1 s := rfl
theorem exec_riserCdrUnlock (p l) : exec (.riserCdrUnlock p l) s = execRiserCdrUnlock p l s := rfl
theorem exec_failRetryExpiry (p) : exec (.failRetryExpiry p) s = execFailRetryExpiry p s := rfl
theorem exec_phyRestart (m p v) : exec (.phyRestart m p v) s = execPhyRestart m p v s := rfl
theorem exec_sleepEntry (x) : exec (.sleepEntry x) s = execSleepEntry x s := rfl
theorem exec_wakeRequest (x) : exec (.wakeRequest x) s = execWakeRequest x s := rfl
theorem exec_wakeGrant : exec .wakeGrant s = execWakeGrant s := rfl
theorem exec_wakeComplete (x) : exec (.wakeComplete x) s = execWakeComplete x s := rfl
theorem exec_wagonSend (dt p st) : exec (.wagonSend dt p st) s = execWagonSend dt p st s := rfl
theorem exec_wagonRx (dt p l0 l1 st) : exec (.wagonRx dt p l0 l1 st) s = execWagonRx dt p l0 l1 st s := rfl
theorem exec_rdReq (p r) : exec (.rdReq p r) s = execRdReq p r s := rfl
theorem exec_wrReq (p r) : exec (.wrReq p r) s = execWrReq p r s := rfl
theorem exec_resp (p r) : exec (.resp p r) s = execResp p r s := rfl
theorem exec_event (p r) : exec (.event p r) s = execEvent p r s := rfl
theorem exec_probe (p r) : exec (.probe p r) s = execProbe p r s := rfl
theorem exec_probeReply (p r) : exec (.probeReply p r) s = execProbeReply p r s := rfl
theorem exec_homing (p r) : exec (.homing p r) s = execHoming p r s := rfl
theorem exec_sync (dt p r st) : exec (.sync dt p r st) s = execSync dt p r st s := rfl
theorem exec_follow (p r) : exec (.follow p r) s = execFollow p r s := rfl
theorem exec_dreq (dt p r st) : exec (.dreq dt p r st) s = execDreq dt p r st s := rfl
theorem exec_dresp (p r) : exec (.dresp p r) s = execDresp p r s := rfl
theorem exec_gopArm (p r) : exec (.gopArm p r) s = execGopArm p r s := rfl
theorem exec_gopCancel (p r) : exec (.gopCancel p r) s = execGopCancel p r s := rfl
theorem exec_gopReport (p r) : exec (.gopReport p r) s = execGopReport p r s := rfl
theorem exec_raccGo (m k v) : exec (.raccGo m k v) s = execRaccGo m k v s := rfl
theorem exec_raccTimeout (k) : exec (.raccTimeout k) s = execRaccTimeout k s := rfl
theorem exec_evtRepeatExpiry : exec .evtRepeatExpiry s = execEvtRepeatExpiry s := rfl
theorem exec_probeGo (m v) : exec (.probeGo m v) s = execProbeGo m v s := rfl
theorem exec_probeTimeout : exec .probeTimeout s = execProbeTimeout s := rfl
theorem exec_xferSyncTimer : exec .xferSyncTimer s = execXferSyncTimer s := rfl
theorem exec_xferExchangeTimeout : exec .xferExchangeTimeout s = execXferExchangeTimeout s := rfl
theorem exec_pairSwitch (k) : exec (.pairSwitch k) s = execPairSwitch k s := rfl
theorem exec_gopGo (dt m v) : exec (.gopGo dt m v) s = execGopGo dt m v s := rfl
theorem exec_gopAbort (dt m v) : exec (.gopAbort dt m v) s = execGopAbort dt m v s := rfl
theorem exec_gopCancelPoint (dt) : exec (.gopCancelPoint dt) s = execGopCancelPoint dt s := rfl
theorem exec_gopExecute (dt) : exec (.gopExecute dt) s = execGopExecute dt s := rfl
theorem exec_domainBind (m k v) : exec (.domainBind m k v) s = execDomainBind m k v s := rfl
theorem exec_ringEnable (r slot l) : exec (.ringEnable r slot l) s = execRingEnable r slot l s := rfl
theorem exec_ringDisable (m r) : exec (.ringDisable m r) s = execRingDisable m r s := rfl
theorem exec_ringStopDone (r) : exec (.ringStopDone r) s = execRingStopDone r s := rfl
theorem exec_doorbellChange (k line mem) : exec (.doorbellChange k line mem) s = execDoorbellChange k line mem s := rfl
theorem exec_doorbellPoll (k) : exec (.doorbellPoll k) s = execDoorbellPoll k s := rfl
theorem exec_pollCompletion (k rtt line mem) : exec (.pollCompletion k rtt line mem) s = execPollCompletion k rtt line mem s := rfl
theorem exec_pollBackoff (k) : exec (.pollBackoff k) s = execPollBackoff k s := rfl
theorem exec_txfFrameFetch (k mem) : exec (.txfFrameFetch k mem) s = execTxfFrameFetch k mem s := rfl
theorem exec_txfFrameReadDone (dt r b) : exec (.txfFrameReadDone dt r b) s = execTxfFrameReadDone dt r b s := rfl
theorem exec_statusLineWrite (k) : exec (.statusLineWrite k) s = execStatusLineWrite k s := rfl
theorem exec_evtModTimerExpiry (r) : exec (.evtModTimerExpiry r) s = execEvtModTimerExpiry r s := rfl
theorem exec_rxStarveTimeout (r) : exec (.rxStarveTimeout r) s = execRxStarveTimeout r s := rfl
theorem exec_irqResendExpiry (b) : exec (.irqResendExpiry b) s = execIrqResendExpiry b s := rfl
theorem exec_dmaError (r ix) : exec (.dmaError r ix) s = execDmaError r ix s := rfl
theorem exec_pollError (k) : exec (.pollError k) s = execPollError k s := rfl
theorem exec_pollErrClear (m k) : exec (.pollErrClear m k) s = execPollErrClear m k s := rfl
theorem exec_pcieLinkChange (up speed width) : exec (.pcieLinkChange up speed width) s = execPcieLinkChange up speed width s := rfl
theorem exec_commit (dt m noConfirm expect) : exec (.commit dt m noConfirm expect) s = execCommit dt m noConfirm expect s := rfl
theorem exec_commitAt (dt m noConfirm expect) : exec (.commitAt dt m noConfirm expect) s = execCommitAt dt m noConfirm expect s := rfl
theorem exec_abort (dt m) : exec (.abort dt m) s = execAbort dt m s := rfl
theorem exec_confirm (dt m) : exec (.confirm dt m) s = execConfirm dt m s := rfl
theorem exec_rollback (dt m) : exec (.rollback dt m) s = execRollback dt m s := rfl
theorem exec_renumber (m) : exec (.renumber m) s = execRenumber m s := rfl
theorem exec_discard (m) : exec (.discard m) s = execDiscard m s := rfl
theorem exec_commitValidated (dt) : exec (.commitValidated dt) s = execCommitValidated dt s := rfl
theorem exec_commitAtInstant (dt) : exec (.commitAtInstant dt) s = execCommitAtInstant dt s := rfl
theorem exec_confirmTimeout (dt) : exec (.confirmTimeout dt) s = execConfirmTimeout dt s := rfl
theorem exec_rollbackRevertDone : exec .rollbackRevertDone s = execRollbackRevertDone s := rfl
theorem exec_discardDone : exec .discardDone s = execDiscardDone s := rfl
theorem exec_fwConfirm (m v) : exec (.fwConfirm m v) s = execFwConfirm m v s := rfl
theorem exec_fwTrialTimeout : exec .fwTrialTimeout s = execFwTrialTimeout s := rfl
theorem exec_bootRecordWriteDone : exec .bootRecordWriteDone s = execBootRecordWriteDone s := rfl
theorem exec_dmcEnable (m v) : exec (.dmcEnable m v) s = execDmcEnable m v s := rfl
theorem exec_dmcRgnWrite (m ix v) : exec (.dmcRgnWrite m ix v) s = execDmcRgnWrite m ix v s := rfl
theorem exec_dmcInit (m v) : exec (.dmcInit m v) s = execDmcInit m v s := rfl
theorem exec_dmcInitDone (fail rfm) : exec (.dmcInitDone fail rfm) s = execDmcInitDone fail rfm s := rfl
theorem exec_dmcRequest (dt port addr len data deadline) : exec (.dmcRequest dt port addr len data deadline) s = execDmcRequest dt port addr len data deadline s := rfl
theorem exec_regulatorRefill : exec .regulatorRefill s = execRegulatorRefill s := rfl
theorem exec_dmcCommandSlot (dt c o) : exec (.dmcCommandSlot dt c o) s = execDmcCommandSlot dt c o s := rfl
theorem exec_dmcReadComplete (dt c o) : exec (.dmcReadComplete dt c o) s = execDmcReadComplete dt c o s := rfl
theorem exec_refreshDue (c) : exec (.refreshDue c) s = execRefreshDue c s := rfl
theorem exec_mr4PollDue (c) : exec (.mr4PollDue c) s = execMr4PollDue c s := rfl
theorem exec_mr4Result (c a b) : exec (.mr4Result c a b) s = execMr4Result c a b s := rfl
theorem exec_retrainDue (c) : exec (.retrainDue c) s = execRetrainDue c s := rfl
theorem exec_retrainForce (c) : exec (.retrainForce c) s = execRetrainForce c s := rfl
theorem exec_phaseSamplingDone (fitted) : exec (.phaseSamplingDone fitted) s = execPhaseSamplingDone fitted s := rfl
theorem exec_vsetWrite (m k v) : exec (.vsetWrite m k v) s = execVsetWrite m k v s := rfl
theorem exec_railGood (k strap) : exec (.railGood k strap) s = execRailGood k strap s := rfl
theorem exec_railFault (k code freeRun) : exec (.railFault k code freeRun) s = execRailFault k code freeRun s := rfl
theorem exec_faultRetryExpiry : exec .faultRetryExpiry s = execFaultRetryExpiry s := rfl
theorem exec_hpPresentChange (high) : exec (.hpPresentChange high) s = execHpPresentChange high s := rfl
theorem exec_hpDebounceExpiry : exec .hpDebounceExpiry s = execHpDebounceExpiry s := rfl
theorem exec_stageStart : exec .stageStart s = execStageStart s := rfl
theorem exec_hpGraceExpiry : exec .hpGraceExpiry s = execHpGraceExpiry s := rfl
theorem exec_powerDownStage : exec .powerDownStage s = execPowerDownStage s := rfl
theorem exec_pwrOff (m v) : exec (.pwrOff m v) s = execPwrOff m v s := rfl
theorem exec_offHoldExpiry : exec .offHoldExpiry s = execOffHoldExpiry s := rfl
theorem exec_dyingGaspRaise (dt) : exec (.dyingGaspRaise dt) s = execDyingGaspRaise dt s := rfl
theorem exec_dyingGaspWithdraw : exec .dyingGaspWithdraw s = execDyingGaspWithdraw s := rfl
theorem exec_sliceGate (m v) : exec (.sliceGate m v) s = execSliceGate m v s := rfl
theorem exec_thermalConversion (temps) : exec (.thermalConversion temps) s = execThermalConversion temps s := rfl
theorem exec_thermalRecovery : exec .thermalRecovery s = execThermalRecovery s := rfl
theorem exec_rtcSecWrite (m v) : exec (.rtcSecWrite m v) s = execRtcSecWrite m v s := rfl
theorem exec_wdogKick (m timeout) : exec (.wdogKick m timeout) s = execWdogKick m timeout s := rfl
theorem exec_wdogTimeoutWrite (m v) : exec (.wdogTimeoutWrite m v) s = execWdogTimeoutWrite m v s := rfl
theorem exec_wdogExpiry : exec .wdogExpiry s = execWdogExpiry s := rfl
theorem exec_bootRomStart (f identOk seedOk) : exec (.bootRomStart f identOk seedOk) s = execBootRomStart f identOk seedOk s := rfl
theorem exec_bootComplete (fwVer) : exec (.bootComplete fwVer) s = execBootComplete fwVer s := rfl
theorem exec_attest (m) : exec (.attest m) s = execAttest m s := rfl
theorem exec_measExtend (m) : exec (.measExtend m) s = execMeasExtend m s := rfl
theorem exec_dbgOpen (m) : exec (.dbgOpen m) s = execDbgOpen m s := rfl
theorem exec_arbAdvance (m v) : exec (.arbAdvance m v) s = execArbAdvance m v s := rfl
theorem exec_keyRevoke (m slot) : exec (.keyRevoke m slot) s = execKeyRevoke m slot s := rfl
theorem exec_truCmdDone (bad) : exec (.truCmdDone bad) s = execTruCmdDone bad s := rfl
theorem exec_dbgChallengeRead (m) : exec (.dbgChallengeRead m) s = execDbgChallengeRead m s := rfl
theorem exec_rngRead (m goodSeed) : exec (.rngRead m goodSeed) s = execRngRead m goodSeed s := rfl
theorem exec_rngHealthFail : exec .rngHealthFail s = execRngHealthFail s := rfl
theorem exec_cvuStart (m u v) : exec (.cvuStart m u v) s = execCvuStart m u v s := rfl
theorem exec_cvuCheck (m u v) : exec (.cvuCheck m u v) s = execCvuCheck m u v s := rfl
theorem exec_cvuAbandon (m u v) : exec (.cvuAbandon m u v) s = execCvuAbandon m u v s := rfl
theorem exec_cvuDataB (m u v) : exec (.cvuDataB m u v) s = execCvuDataB m u v s := rfl
theorem exec_cvuDataH (m u v) : exec (.cvuDataH m u v) s = execCvuDataH m u v s := rfl
theorem exec_cvuDataW (m u v) : exec (.cvuDataW m u v) s = execCvuDataW m u v s := rfl
theorem exec_cvuResultRead (m u reg) : exec (.cvuResultRead m u reg) s = execCvuResultRead m u reg s := rfl
theorem exec_ckoChange (m ix v) : exec (.ckoChange m ix v) s = execCkoChange m ix v s := rfl
theorem exec_debugReset (m key) : exec (.debugReset m key) s = execDebugReset m key s := rfl
theorem exec_tapReset : exec .tapReset s = execTapReset s := rfl
theorem exec_idcode : exec .idcode s = execIdcode s := rfl
theorem exec_samplePreload (pins shifted) : exec (.samplePreload pins shifted) s = execSamplePreload pins shifted s := rfl
theorem exec_extest : exec .extest s = execExtest s := rfl
theorem exec_extestPulse : exec .extestPulse s = execExtestPulse s := rfl
theorem exec_extestTrain : exec .extestTrain s = execExtestTrain s := rfl
theorem exec_highz : exec .highz s = execHighz s := rfl
theorem exec_clamp : exec .clamp s = execClamp s := rfl
theorem exec_truAccess : exec .truAccess s = execTruAccess s := rfl
theorem exec_truAccessUpdate (v) : exec (.truAccessUpdate v) s = execTruAccessUpdate v s := rfl
theorem exec_truAccessDone : exec .truAccessDone s = execTruAccessDone s := rfl
theorem exec_brewhouseDebugPort : exec .brewhouseDebugPort s = execBrewhouseDebugPort s := rfl
theorem exec_tenderDebugPort : exec .tenderDebugPort s = execTenderDebugPort s := rfl
theorem exec_internalScan : exec .internalScan s = execInternalScan s := rfl
theorem exec_bypass : exec .bypass s = execBypass s := rfl
theorem exec_i2cGo (m b v) : exec (.i2cGo m b v) s = execI2cGo m b v s := rfl
theorem exec_i2cDone (b status rdata) : exec (.i2cDone b status rdata) s = execI2cDone b status rdata s := rfl
theorem exec_mdioGo (m k v) : exec (.mdioGo m k v) s = execMdioGo m k v s := rfl
theorem exec_mdioDone (k data) : exec (.mdioDone k data) s = execMdioDone k data s := rfl
theorem exec_ploamTypeNotHandled (n p) : exec (.ploamTypeNotHandled n p) s = execPloamTypeNotHandled n p s := rfl
theorem exec_laneSyncChange (x sync hiBer fec cdr cw errs) : exec (.laneSyncChange x sync hiBer fec cdr cw errs) s = execLaneSyncChange x sync hiBer fec cdr cw errs s := rfl
theorem exec_pcieConfigWrite (c) : exec (.pcieConfigWrite c) s = execPcieConfigWrite c s := rfl
theorem exec_xtOkChange (on) : exec (.xtOkChange on) s = execXtOkChange on s := rfl

end Sys2Proof.Machine
end

