-- ==== Sys2Proof/Laws/Kept.lean ====
section
/-!
SUPPORT. The relation `Dev.Kept` (Safety.lean) of the plainest operations of the device; the files Laws/Kept<Family>.lean
say the same of every other operation, one lemma `<operation>_kept` each.
-/
namespace Sys2Proof.Machine

variable {d0 d d' : Dev}

theorem BitsKept.refl (a : Nat) : BitsKept a a := fun _ h => h

theorem BitsKept.trans {a b c : Nat} (h : BitsKept a b) (h' : BitsKept b c) : BitsKept a c := fun i x => h' i (h i x)

theorem Fuses.Kept.refl (a : Fuses) : Fuses.Kept a a :=
  ⟨.refl _, .refl _, .refl _, .refl _, id, .refl _, .refl _⟩

theorem Fuses.Kept.trans {a b c : Fuses} (h : Fuses.Kept a b) (h' : Fuses.Kept b c) : Fuses.Kept a c := by
  obtain ⟨h1, h2, h3, h4, h5, h6, h7⟩ := h
  obtain ⟨g1, g2, g3, g4, g5, g6, g7⟩ := h'
  exact ⟨h1.trans g1, h2.trans g2, h3.trans g3, h4.trans g4, g5 ∘ h5, h6.trans g6, h7.trans g7⟩

theorem Dev.Kept.refl (d : Dev) : Dev.Kept d d := ⟨rfl, .refl _, id⟩

theorem Dev.Kept.trans {a b c : Dev} (h : Dev.Kept a b) (h' : Dev.Kept b c) : Dev.Kept a c :=
  ⟨h'.1.trans h.1, h.2.1.trans h'.2.1, h'.2.2 ∘ h.2.2⟩

/-- An operation that leaves the fuses alone and keeps the form of each table. -/
theorem Dev.Kept.of_wf (h : Dev.Kept d0 d) (hc : d'.chip = d.chip) (hf : d'.tru.fuses = d.tru.fuses)
    (hr : Tbl.wf d.regs = true → Tbl.wf d'.regs = true) (hl : Tbl.wf d.latch = true → Tbl.wf d'.latch = true)
    (hm : Memory.wf d.dram.mem = true → Memory.wf d'.dram.mem = true) : Dev.Kept d0 d' :=
  ⟨hc.trans h.1, hf ▸ h.2.1, fun x => let y := h.2.2 x; ⟨hr y.1, hl y.2.1, hm y.2.2⟩⟩

/-- A change of other parts of the device. -/
theorem Dev.Kept.of_mk {chip held regs latch core slices inbuf pols hitSec gen tm macs lanes phys tim host lines acts coaches groups
    bondOrd prot tenderHalt gasp cph wake rlinks hier pwr dram tap cvuPoly cko tru freeCtr out}
    (h : Dev.Kept d0 d) (hc : chip = d.chip) (hr : regs = d.regs) (hl : latch = d.latch) (hm : dram.mem = d.dram.mem)
    (hf : tru.fuses = d.tru.fuses) :
    Dev.Kept d0 (Dev.mk chip held regs latch core slices inbuf pols hitSec gen tm macs lanes phys tim host lines acts coaches
      groups bondOrd prot tenderHalt gasp cph wake rlinks hier pwr dram tap cvuPoly cko tru freeCtr out) := by
  subst hc hr hl
  exact h.of_wf rfl hf id id (fun x => by simpa [hm] using x)

theorem Dev.Kept.ite {c : Prop} [Decidable c] {a b : Dev} (ha : c → Dev.Kept d0 a) (hb : ¬c → Dev.Kept d0 b) :
    Dev.Kept d0 (if c then a else b) := by
  split
  · exact ha ‹_›
  · exact hb ‹_›

/-- The device of a pair that an operation answered. -/
theorem Dev.Kept.of_fst {α : Type} {e : Dev × α} {x : Dev} {y : α} (he : e = (x, y)) (h : Dev.Kept d0 e.1) :
    Dev.Kept d0 x := by rw [he] at h; exact h

theorem Dev.put_kept (h : Dev.Kept d0 d) (f : Fld) (v : Nat) : Dev.Kept d0 (d.put f v) :=
  h.of_wf rfl rfl (Tbl.wf_set _ _) id id

theorem Dev.unput_kept (h : Dev.Kept d0 d) (f : Fld) : Dev.Kept d0 (d.unput f) :=
  h.of_wf rfl rfl (Tbl.wf_del _) id id

theorem Dev.clearRegs_kept (h : Dev.Kept d0 d) (lo hi : Nat) (keep : Nat → Bool) : Dev.Kept d0 (d.clearRegs lo hi keep) := by
  unfold Dev.clearRegs
  refine h.of_wf rfl rfl (fun x => ?_) (fun x => ?_) id
  · simp only
    exact Tbl.wf_keep _ x
  · simp only
    exact Tbl.wf_keep _ x

theorem Dev.each_kept {α : Type} {l : List α} {f : Dev → α → Dev} (h : Dev.Kept d0 d)
    (hf : ∀ (x : Dev) (a : α), Dev.Kept d0 x → Dev.Kept d0 (f x a)) : Dev.Kept d0 (d.each l f) := by
  unfold Dev.each
  induction l generalizing d with
  | nil => exact h
  | cons a r ih => exact ih (hf _ _ h)

theorem Dev.foldl_kept {α : Type} {l : List α} {f : Dev → α → Dev} (h : Dev.Kept d0 d)
    (hf : ∀ (x : Dev) (a : α), Dev.Kept d0 x → Dev.Kept d0 (f x a)) : Dev.Kept d0 (l.foldl f d) := Dev.each_kept h hf

theorem Dev.foldl_fst_kept {α β : Type} {l : List α} {f : Dev × β → α → Dev × β} {x : Dev × β} (h : Dev.Kept d0 x.1)
    (hf : ∀ (x : Dev × β) (a : α), Dev.Kept d0 x.1 → Dev.Kept d0 (f x a).1) : Dev.Kept d0 (l.foldl f x).1 := by
  induction l generalizing x with
  | nil => exact h
  | cons a r ih => exact ih (hf _ _ h)

theorem Dev.iff_kept {f : Dev → Dev} (h : Dev.Kept d0 d) (b : Bool) (hf : ∀ (x : Dev), Dev.Kept d0 x → Dev.Kept d0 (f x)) :
    Dev.Kept d0 (d.iff b f) := by
  unfold Dev.iff
  split
  · exact hf _ h
  · exact h

end Sys2Proof.Machine
end

