-- ==== Sys2Proof/Laws/KeptOps.lean ====
section
/-!
SUPPORT. `Dev.Kept` (Safety.lean) through the operations of Machine/Ops.lean.
-/
namespace Sys2Proof.Machine

variable {d0 d : Dev}

theorem Dev.ev_kept (h : Dev.Kept d0 d) (a1) :
    Dev.Kept d0 (Dev.ev d a1) := by
  unfold Dev.ev
  repeat' with_reducible first | assumption | apply Dev.put_kept

theorem Dev.clr_kept (h : Dev.Kept d0 d) (a1) :
    Dev.Kept d0 (Dev.clr d a1) := by
  unfold Dev.clr
  repeat' with_reducible first | assumption | apply Dev.put_kept

theorem Dev.bumpBy_kept (h : Dev.Kept d0 d) (a1 a2) :
    Dev.Kept d0 (Dev.bumpBy d a1 a2) := by
  unfold Dev.bumpBy
  repeat' with_reducible first | assumption | apply Dev.put_kept

theorem Dev.bump_kept (h : Dev.Kept d0 d) (a1) :
    Dev.Kept d0 (Dev.bump d a1) := by
  unfold Dev.bump
  repeat' with_reducible first | assumption | apply Dev.bumpBy_kept

theorem Dev.incr_kept (h : Dev.Kept d0 d) (a1) :
    Dev.Kept d0 (Dev.incr d a1) := by
  unfold Dev.incr
  repeat' with_reducible first | assumption | apply Dev.put_kept

theorem Dev.putWide_kept (h : Dev.Kept d0 d) (a1 a2 a3) :
    Dev.Kept d0 (Dev.putWide d a1 a2 a3) := by
  unfold Dev.putWide
  repeat' with_reducible first | assumption | apply Dev.put_kept

theorem Dev.bumpWide_kept (h : Dev.Kept d0 d) (a1 a2 a3 a4) :
    Dev.Kept d0 (Dev.bumpWide d a1 a2 a3 a4) := by
  unfold Dev.bumpWide
  repeat' with_reducible first | assumption | apply Dev.putWide_kept

theorem Dev.unitClear_kept (h : Dev.Kept d0 d) (a1 a2) :
    Dev.Kept d0 (Dev.unitClear d a1 a2) := by
  unfold Dev.unitClear
  repeat' with_reducible first | assumption | apply Dev.clearRegs_kept

theorem Dev.emit_kept (h : Dev.Kept d0 d) (a1) :
    Dev.Kept d0 (Dev.emit d a1) := by
  unfold Dev.emit
  exact h.of_wf rfl rfl id id id

theorem Dev.freed_kept (h : Dev.Kept d0 d) :
    Dev.Kept d0 (Dev.freed d) := by
  unfold Dev.freed
  exact h.of_wf rfl rfl id id id

theorem Dev.rngServed_kept (h : Dev.Kept d0 d) (a1) :
    Dev.Kept d0 (Dev.rngServed d a1) := by
  unfold Dev.rngServed
  repeat'
    first
    | with_reducible
        first
        | assumption | apply Dev.Kept.ite | apply Dev.iff_kept | apply Dev.put_kept | (intro _)
    | split
    | fail_if_no_progress (with_reducible refine .of_mk ?_ rfl rfl rfl rfl rfl)

theorem Dev.rngUsed_kept (h : Dev.Kept d0 d) :
    Dev.Kept d0 (Dev.rngUsed d) := by
  unfold Dev.rngUsed
  repeat'
    first
    | with_reducible
        first
        | assumption | apply Dev.Kept.ite | apply Dev.freed_kept | apply Dev.rngServed_kept | (intro _)
    | split

theorem Dev.freeBytes_kept (h : Dev.Kept d0 d) (a1) :
    Dev.Kept d0 (Dev.freeBytes d a1).1 := by
  unfold Dev.freeBytes
  repeat'
    first
    | with_reducible
        first
        | assumption | (intro _)
    | fail_if_no_progress (with_reducible refine .of_mk ?_ rfl rfl rfl rfl rfl)
    | fail_if_no_progress dsimp only

theorem Dev.setSlice_kept (h : Dev.Kept d0 d) (a1 a2) :
    Dev.Kept d0 (Dev.setSlice d a1 a2) := by
  unfold Dev.setSlice
  exact h.of_wf rfl rfl id id id

theorem Dev.setMac_kept (h : Dev.Kept d0 d) (a1 a2) :
    Dev.Kept d0 (Dev.setMac d a1 a2) := by
  unfold Dev.setMac
  exact h.of_wf rfl rfl id id id

theorem Dev.setLane_kept (h : Dev.Kept d0 d) (a1 a2) :
    Dev.Kept d0 (Dev.setLane d a1 a2) := by
  unfold Dev.setLane
  exact h.of_wf rfl rfl id id id

theorem Dev.setPhy_kept (h : Dev.Kept d0 d) (a1 a2) :
    Dev.Kept d0 (Dev.setPhy d a1 a2) := by
  unfold Dev.setPhy
  exact h.of_wf rfl rfl id id id

theorem Dev.setBuf_kept (h : Dev.Kept d0 d) (a1 a2) :
    Dev.Kept d0 (Dev.setBuf d a1 a2) := by
  unfold Dev.setBuf
  exact h.of_wf rfl rfl id id id

theorem Dev.setPol_kept (h : Dev.Kept d0 d) (a1 a2) :
    Dev.Kept d0 (Dev.setPol d a1 a2) := by
  unfold Dev.setPol
  exact h.of_wf rfl rfl id id id

theorem Dev.setQueue_kept (h : Dev.Kept d0 d) (a1 a2) :
    Dev.Kept d0 (Dev.setQueue d a1 a2) := by
  unfold Dev.setQueue
  exact h.of_wf rfl rfl id id id

theorem Dev.setBkt_kept (h : Dev.Kept d0 d) (a1 a2) :
    Dev.Kept d0 (Dev.setBkt d a1 a2) := by
  unfold Dev.setBkt
  exact h.of_wf rfl rfl id id id

end Sys2Proof.Machine
end

