-- ==== Sys2Proof/Laws/KeptTime.lean ====
section
/-!
SUPPORT. `Dev.Kept` (Safety.lean) through the operations of Machine/Time.lean.
-/
namespace Sys2Proof.Machine

variable {d0 d : Dev}

theorem Dev.keepView_kept (h : Dev.Kept d0 d) :
    Dev.Kept d0 (Dev.keepView d) := by
  unfold Dev.keepView
  exact h.of_wf rfl rfl id id id

theorem Dev.reRate_kept (h : Dev.Kept d0 d) :
    Dev.Kept d0 (Dev.reRate d) := by
  unfold Dev.reRate
  dsimp only
  repeat'
    first
    | with_reducible
        first
        | assumption | apply Dev.iff_kept | apply Dev.put_kept | apply Dev.ev_kept
        | apply Dev.keepView_kept | (intro _)
    | fail_if_no_progress (with_reducible refine .of_mk ?_ rfl rfl rfl rfl rfl)

theorem Dev.clampHold_kept (h : Dev.Kept d0 d) :
    Dev.Kept d0 (Dev.clampHold d) := by
  unfold Dev.clampHold
  dsimp only
  repeat'
    first
    | with_reducible
        first
        | assumption | apply Dev.iff_kept | apply Dev.ev_kept | (intro _)

theorem Dev.rtcRun_kept (h : Dev.Kept d0 d) (a1) :
    Dev.Kept d0 (Dev.rtcRun d a1) := by
  unfold Dev.rtcRun
  dsimp only
  repeat'
    first
    | with_reducible
        first
        | assumption | apply Dev.Kept.ite | apply Dev.put_kept | (intro _)
    | (with_reducible refine Dev.Kept.of_fst (by with_reducible assumption) ?_)
    | split
    | fail_if_no_progress (with_reducible refine .of_mk ?_ rfl rfl rfl rfl rfl)

theorem Dev.count_kept (h : Dev.Kept d0 d) (a1) :
    Dev.Kept d0 (Dev.count d a1) := by
  unfold Dev.count
  repeat'
    first
    | with_reducible
        first
        | assumption | apply Dev.rtcRun_kept
    | fail_if_no_progress (with_reducible refine .of_mk ?_ rfl rfl rfl rfl rfl)

theorem Dev.slewEnd_kept (h : Dev.Kept d0 d) :
    Dev.Kept d0 (Dev.slewEnd d) := by
  unfold Dev.slewEnd
  dsimp only
  repeat'
    first
    | with_reducible
        first
        | assumption | apply Dev.keepView_kept | apply Dev.reRate_kept | (intro _)
    | fail_if_no_progress (with_reducible refine .of_mk ?_ rfl rfl rfl rfl rfl)

theorem Dev.advance_kept (h : Dev.Kept d0 d) (a1) :
    Dev.Kept d0 (Dev.advance d a1) := by
  unfold Dev.advance
  dsimp only
  repeat'
    first
    | with_reducible
        first
        | assumption | apply Dev.Kept.ite | apply Dev.iff_kept | apply Dev.count_kept
        | apply Dev.slewEnd_kept | (intro _)
    | (with_reducible refine Dev.Kept.of_fst (by with_reducible assumption) ?_)
    | split
    | fail_if_no_progress (with_reducible refine .of_mk ?_ rfl rfl rfl rfl rfl)

theorem Dev.setPend_kept (h : Dev.Kept d0 d) (a1) :
    Dev.Kept d0 (Dev.setPend d a1) := by
  unfold Dev.setPend
  repeat'
    first
    | with_reducible
        first
        | assumption | apply Dev.reRate_kept
    | fail_if_no_progress (with_reducible refine .of_mk ?_ rfl rfl rfl rfl rfl)

theorem Dev.putWords_kept (h : Dev.Kept d0 d) (a1 a2) :
    Dev.Kept d0 (Dev.putWords d a1 a2) := by
  unfold Dev.putWords
  repeat' with_reducible first | assumption | apply Dev.each_kept | apply Dev.put_kept | (intro _)

theorem Dev.nowRead_kept (h : Dev.Kept d0 d) (a1 a2) :
    Dev.Kept d0 (Dev.nowRead d a1 a2) := by
  unfold Dev.nowRead
  exact h.of_wf rfl rfl id id id

theorem Dev.stepRefuse_kept (h : Dev.Kept d0 d) :
    Dev.Kept d0 (Dev.stepRefuse d) := by
  unfold Dev.stepRefuse
  repeat' with_reducible first | assumption | apply Dev.ev_kept | apply Dev.bump_kept

theorem Dev.stepTake_kept (h : Dev.Kept d0 d) (a1) :
    Dev.Kept d0 (Dev.stepTake d a1) := by
  unfold Dev.stepTake
  dsimp only
  repeat'
    first
    | with_reducible
        first
        | assumption | apply Dev.put_kept | apply Dev.clr_kept | apply Dev.ev_kept | apply Dev.keepView_kept
        | apply Dev.setPend_kept | (intro _)
    | fail_if_no_progress (with_reducible refine .of_mk ?_ rfl rfl rfl rfl rfl)

theorem Dev.phaseMeasure_kept (h : Dev.Kept d0 d) (a1) :
    Dev.Kept d0 (Dev.phaseMeasure d a1) := by
  unfold Dev.phaseMeasure
  exact (Dev.freed_kept h).of_wf rfl rfl id id id

theorem Dev.lineBuildOut_kept (h : Dev.Kept d0 d) (a1) :
    Dev.Kept d0 (Dev.lineBuildOut d a1) := by
  unfold Dev.lineBuildOut
  exact h.of_wf rfl rfl id id id

theorem Dev.clockBuildOut_kept (h : Dev.Kept d0 d) :
    Dev.Kept d0 (Dev.clockBuildOut d) := by
  unfold Dev.clockBuildOut
  exact (Dev.freed_kept h).of_wf rfl rfl id id id

theorem Dev.ddsRecompute_kept (h : Dev.Kept d0 d) (a1 a2) :
    Dev.Kept d0 (Dev.ddsRecompute d a1 a2) := by
  unfold Dev.ddsRecompute
  repeat'
    first
    | with_reducible
        first
        | assumption | apply Dev.put_kept | apply Dev.iff_kept | apply Dev.setPend_kept | apply Dev.bump_kept
        | apply Dev.ev_kept | (intro _)
    | fail_if_no_progress (with_reducible refine .of_mk ?_ rfl rfl rfl rfl rfl)

end Sys2Proof.Machine
end

