-- ==== Sys2Proof/Laws/KeptCipher.lean ====
section
/-!
SUPPORT. `Dev.Kept` (Safety.lean) through the operations of Machine/Cipher.lean.
-/
namespace Sys2Proof.Machine

variable {d0 d : Dev}

theorem Dev.setSlotCtr_kept (h : Dev.Kept d0 d) (a1 a2) :
    Dev.Kept d0 (Dev.setSlotCtr d a1 a2) := by
  unfold Dev.setSlotCtr
  repeat' with_reducible first | assumption | apply Dev.putWide_kept

theorem Dev.loadSlot_kept (h : Dev.Kept d0 d) (a1 a2 a3 a4) :
    Dev.Kept d0 (Dev.loadSlot d a1 a2 a3 a4) := by
  unfold Dev.loadSlot
  repeat'
    first
    | with_reducible
        first
        | assumption | apply Dev.put_kept | apply Dev.setSlotCtr_kept
    | fail_if_no_progress (with_reducible refine .of_mk ?_ rfl rfl rfl rfl rfl)

theorem Dev.emptySlot_kept (h : Dev.Kept d0 d) (a1) :
    Dev.Kept d0 (Dev.emptySlot d a1) := by
  unfold Dev.emptySlot
  repeat'
    first
    | with_reducible
        first
        | assumption | apply Dev.put_kept
    | fail_if_no_progress (with_reducible refine .of_mk ?_ rfl rfl rfl rfl rfl)

theorem Dev.defaultKeys_kept (h : Dev.Kept d0 d) (a1) :
    Dev.Kept d0 (Dev.defaultKeys d a1) := by
  unfold Dev.defaultKeys
  repeat' with_reducible first | assumption | apply Dev.loadSlot_kept

theorem Dev.takeKey_kept (h : Dev.Kept d0 d) (a1 a2 a3) :
    Dev.Kept d0 (Dev.takeKey d a1 a2 a3) := by
  unfold Dev.takeKey
  repeat' with_reducible
    first
    | assumption | apply Dev.Kept.ite | apply Dev.loadSlot_kept | apply Dev.each_kept | (intro _)

theorem Dev.wrapOut_kept (h : Dev.Kept d0 d) (a1 a2) :
    Dev.Kept d0 (Dev.wrapOut d a1 a2) := by
  unfold Dev.wrapOut
  repeat' with_reducible first | assumption | apply Dev.each_kept | apply Dev.put_kept | (intro _)

theorem Dev.drawKey_kept (h : Dev.Kept d0 d) (a1) :
    Dev.Kept d0 (Dev.drawKey d a1).1 := by
  unfold Dev.drawKey
  dsimp only
  repeat'
    first
    | with_reducible
        first
        | assumption | apply Dev.freed_kept | apply Dev.rngUsed_kept | (intro _)
    | (with_reducible refine Dev.Kept.of_fst (by with_reducible assumption) ?_)
    | fail_if_no_progress dsimp only

theorem Dev.lineKeyRec_kept (h : Dev.Kept d0 d) (a1 a2 a3 a4) :
    Dev.Kept d0 (Dev.lineKeyRec d a1 a2 a3 a4) := by
  unfold Dev.lineKeyRec
  repeat' with_reducible
    first
    | assumption | apply Dev.each_kept | apply Dev.put_kept | apply Dev.ev_kept | (intro _)

theorem Dev.linkForm_kept (h : Dev.Kept d0 d) (a1 a2) :
    Dev.Kept d0 (Dev.linkForm d a1 a2).1 := by
  unfold Dev.linkForm
  repeat'
    first
    | with_reducible
        first
        | assumption | apply Dev.Kept.ite | apply Dev.freed_kept | (intro _)
    | (with_reducible refine Dev.Kept.of_fst (by with_reducible assumption) ?_)
    | split
    | fail_if_no_progress dsimp only

theorem Dev.generate_kept (h : Dev.Kept d0 d) (a1 a2) :
    Dev.Kept d0 (Dev.generate d a1 a2) := by
  unfold Dev.generate
  dsimp only
  repeat'
    first
    | with_reducible
        first
        | assumption | apply Dev.Kept.ite | apply Dev.drawKey_kept | apply Dev.lineKeyRec_kept
        | apply Dev.linkForm_kept | apply Dev.takeKey_kept | apply Dev.wrapOut_kept | (intro _)
    | (with_reducible refine Dev.Kept.of_fst (by with_reducible assumption) ?_)
    | split

theorem Dev.invalidate_kept (h : Dev.Kept d0 d) (a1) :
    Dev.Kept d0 (Dev.invalidate d a1) := by
  unfold Dev.invalidate
  repeat' with_reducible
    first
    | assumption | apply Dev.Kept.ite | apply Dev.emptySlot_kept | apply Dev.defaultKeys_kept | (intro _)

theorem Dev.keyEffect_kept (h : Dev.Kept d0 d) (a1) :
    Dev.Kept d0 (Dev.keyEffect d a1) := by
  unfold Dev.keyEffect
  repeat'
    first
    | with_reducible
        first
        | assumption | apply Dev.generate_kept | apply Dev.invalidate_kept | apply Dev.takeKey_kept
    | split

theorem Dev.keyStart_kept (h : Dev.Kept d0 d) :
    Dev.Kept d0 (Dev.keyStart d) := by
  unfold Dev.keyStart
  repeat'
    first
    | with_reducible
        first
        | assumption
    | split
    | fail_if_no_progress (with_reducible refine .of_mk ?_ rfl rfl rfl rfl rfl)

theorem Dev.keyQueue_kept (h : Dev.Kept d0 d) (a1) :
    Dev.Kept d0 (Dev.keyQueue d a1) := by
  unfold Dev.keyQueue
  repeat'
    first
    | with_reducible
        first
        | assumption | apply Dev.iff_kept | apply Dev.keyStart_kept
    | fail_if_no_progress (with_reducible refine .of_mk ?_ rfl rfl rfl rfl rfl)

theorem Dev.keyCmd_kept (h : Dev.Kept d0 d) (a1 a2) :
    Dev.Kept d0 (Dev.keyCmd d a1 a2) := by
  unfold Dev.keyCmd
  repeat' with_reducible
    first
    | assumption | apply Dev.Kept.ite | apply Dev.ev_kept | apply Dev.keyQueue_kept | apply Dev.put_kept
    | (intro _)

theorem Dev.keyDone_kept (h : Dev.Kept d0 d) :
    Dev.Kept d0 (Dev.keyDone d).1 := by
  unfold Dev.keyDone
  repeat'
    first
    | with_reducible
        first
        | assumption | apply Dev.keyEffect_kept | apply Dev.put_kept | apply Dev.keyStart_kept | apply Dev.ev_kept
    | split
    | fail_if_no_progress (with_reducible refine .of_mk ?_ rfl rfl rfl rfl rfl)

theorem Dev.lineSwitch_kept (h : Dev.Kept d0 d) (a1 a2) :
    Dev.Kept d0 (Dev.lineSwitch d a1 a2) := by
  unfold Dev.lineSwitch
  repeat' with_reducible
    first
    | assumption | apply Dev.Kept.ite | apply Dev.put_kept | apply Dev.ev_kept | apply Dev.bump_kept | (intro _)

theorem Dev.lineArm_kept (h : Dev.Kept d0 d) (a1 a2) :
    Dev.Kept d0 (Dev.lineArm d a1 a2) := by
  unfold Dev.lineArm
  repeat' with_reducible
    first
    | assumption | apply Dev.Kept.ite | apply Dev.put_kept | apply Dev.ev_kept | apply Dev.bump_kept | (intro _)

theorem Dev.lineExh_kept (h : Dev.Kept d0 d) (a1) :
    Dev.Kept d0 (Dev.lineExh d a1) := by
  unfold Dev.lineExh
  repeat' with_reducible
    first
    | assumption | apply Dev.Kept.ite | apply Dev.ev_kept | apply Dev.put_kept | (intro _)

theorem Dev.burstKey_kept (h : Dev.Kept d0 d) (a1 a2 a3) :
    Dev.Kept d0 (Dev.burstKey d a1 a2 a3).1 := by
  unfold Dev.burstKey
  dsimp only
  repeat'
    first
    | with_reducible
        first
        | assumption | apply Dev.bump_kept | apply Dev.ev_kept | apply Dev.put_kept
    | split

theorem Dev.burstUsed_kept (h : Dev.Kept d0 d) (a1 a2 a3 a4) :
    Dev.Kept d0 (Dev.burstUsed d a1 a2 a3 a4) := by
  unfold Dev.burstUsed
  repeat' with_reducible
    first
    | assumption | apply Dev.Kept.ite | apply Dev.lineExh_kept | apply Dev.bumpBy_kept | apply Dev.setSlotCtr_kept
    | (intro _)

theorem Dev.lineDecrypt_kept (h : Dev.Kept d0 d) (a1 a2 a3 a4 a5 a6) :
    Dev.Kept d0 (Dev.lineDecrypt d a1 a2 a3 a4 a5 a6).1 := by
  unfold Dev.lineDecrypt
  dsimp only
  repeat'
    first
    | with_reducible
        first
        | assumption | apply Dev.bump_kept
    | split

theorem Dev.useCounter_kept (h : Dev.Kept d0 d) (a1) :
    Dev.Kept d0 (Dev.useCounter d a1).1 := by
  unfold Dev.useCounter
  repeat' with_reducible
    first
    | assumption | apply Dev.bump_kept | apply Dev.setSlotCtr_kept | apply Dev.iff_kept | apply Dev.ev_kept
    | apply Dev.put_kept | (intro _)

theorem Dev.rsrArm_kept (h : Dev.Kept d0 d) (a1) :
    Dev.Kept d0 (Dev.rsrArm d a1) := by
  unfold Dev.rsrArm
  repeat'
    first
    | with_reducible
        first
        | assumption | apply Dev.put_kept
    | fail_if_no_progress (with_reducible refine .of_mk ?_ rfl rfl rfl rfl rfl)

theorem Dev.rsrSwitch_kept (h : Dev.Kept d0 d) (a1 a2) :
    Dev.Kept d0 (Dev.rsrSwitch d a1 a2) := by
  unfold Dev.rsrSwitch
  dsimp only
  repeat'
    first
    | with_reducible
        first
        | assumption | apply Dev.Kept.ite | apply Dev.put_kept
        | apply Dev.bump_kept | apply Dev.emptySlot_kept | apply Dev.ev_kept | (intro _)

theorem Dev.rxAccept_kept (h : Dev.Kept d0 d) (a1 a2 a3) :
    Dev.Kept d0 (Dev.rxAccept d a1 a2 a3) := by
  unfold Dev.rxAccept
  repeat' with_reducible
    first
    | assumption | apply Dev.Kept.ite | apply Dev.bump_kept | apply Dev.setSlotCtr_kept | apply Dev.put_kept
    | apply Dev.emptySlot_kept | (intro _)

theorem Dev.cphHold_kept (h : Dev.Kept d0 d) :
    Dev.Kept d0 (Dev.cphHold d) := by
  unfold Dev.cphHold
  dsimp only
  repeat'
    first
    | with_reducible
        first
        | assumption | apply Dev.each_kept | apply Dev.put_kept | apply Dev.unitClear_kept | (intro _)
    | (with_reducible refine Dev.Kept.of_fst (by with_reducible assumption) ?_)
    | fail_if_no_progress (with_reducible refine .of_mk ?_ rfl rfl rfl rfl rfl)

theorem Dev.cphRelease_kept (h : Dev.Kept d0 d) :
    Dev.Kept d0 (Dev.cphRelease d) := by
  unfold Dev.cphRelease
  repeat' with_reducible first | assumption | apply Dev.each_kept | apply Dev.defaultKeys_kept | (intro _)

end Sys2Proof.Machine
end

