-- ==== Sys2Proof/Laws/KeptTables.lean ====
section
/-!
SUPPORT. `Dev.Kept` (Safety.lean) through the operations of Machine/Tables.lean.
-/
namespace Sys2Proof.Machine

variable {d0 d : Dev}

theorem Dev.setFam_kept (h : Dev.Kept d0 d) (a1 a2) :
    Dev.Kept d0 (Dev.setFam d a1 a2) := by
  unfold Dev.setFam
  repeat'
    first
    | with_reducible
        first
        | assumption
    | split
    | fail_if_no_progress (with_reducible refine .of_mk ?_ rfl rfl rfl rfl rfl)

theorem Dev.logged_kept (h : Dev.Kept d0 d) (a1 a2 a3) :
    Dev.Kept d0 (Dev.logged d a1 a2 a3) := by
  unfold Dev.logged
  repeat'
    first
    | with_reducible
        first
        | assumption | apply Dev.setFam_kept
    | fail_if_no_progress (with_reducible refine .of_mk ?_ rfl rfl rfl rfl rfl)

theorem Dev.logFullEvt_kept (h : Dev.Kept d0 d) (a1 a2) :
    Dev.Kept d0 (Dev.logFullEvt d a1 a2) := by
  unfold Dev.logFullEvt
  repeat' with_reducible first | assumption | apply Dev.iff_kept | apply Dev.ev_kept | (intro _)

theorem Dev.doStageWrite_kept (h : Dev.Kept d0 d) (a1 a2 a3) :
    Dev.Kept d0 (Dev.doStageWrite d a1 a2 a3).1 := by
  unfold Dev.doStageWrite
  dsimp only
  repeat'
    first
    | with_reducible
        first
        | assumption | apply Dev.logged_kept
    | split

theorem Dev.doStageDelete_kept (h : Dev.Kept d0 d) (a1 a2 a3) :
    Dev.Kept d0 (Dev.doStageDelete d a1 a2 a3).1 := by
  unfold Dev.doStageDelete
  dsimp only
  repeat'
    first
    | with_reducible
        first
        | assumption | apply Dev.logged_kept
    | split

theorem Dev.doStageRevert_kept (h : Dev.Kept d0 d) (a1 a2 a3) :
    Dev.Kept d0 (Dev.doStageRevert d a1 a2 a3).1 := by
  unfold Dev.doStageRevert
  repeat'
    first
    | with_reducible
        first
        | assumption | apply Dev.setFam_kept
    | split
    | fail_if_no_progress (with_reducible refine .of_mk ?_ rfl rfl rfl rfl rfl)

theorem Dev.readInto_kept (h : Dev.Kept d0 d) (a1 a2) :
    Dev.Kept d0 (Dev.readInto d a1 a2) := by
  unfold Dev.readInto
  repeat'
    first
    | with_reducible
        first
        | assumption | apply Dev.each_kept | apply Dev.put_kept | (intro _)
    | split

theorem Dev.readAt_kept (h : Dev.Kept d0 d) (a1 a2 a3 a4) :
    Dev.Kept d0 (Dev.readAt d a1 a2 a3 a4).1 := by
  unfold Dev.readAt
  repeat'
    first
    | with_reducible
        first
        | assumption | apply Dev.readInto_kept
    | split

theorem Dev.doRead_kept (h : Dev.Kept d0 d) (a1 a2 a3 a4) :
    Dev.Kept d0 (Dev.doRead d a1 a2 a3 a4).1 := by
  unfold Dev.doRead
  repeat'
    first
    | with_reducible
        first
        | assumption | apply Dev.iff_kept | apply Dev.readInto_kept | apply Dev.readAt_kept | (intro _)
    | split

theorem Dev.doReadLoc_kept (h : Dev.Kept d0 d) (a1 a2 a3 a4) :
    Dev.Kept d0 (Dev.doReadLoc d a1 a2 a3 a4).1 := by
  unfold Dev.doReadLoc
  repeat'
    first
    | with_reducible
        first
        | assumption | apply Dev.readAt_kept
    | split

theorem Dev.famDiscard_kept (h : Dev.Kept d0 d) (a1) :
    Dev.Kept d0 (Dev.famDiscard d a1) := by
  unfold Dev.famDiscard
  repeat' with_reducible first | assumption | apply Dev.put_kept | apply Dev.setFam_kept

theorem Dev.doDiscard_kept (h : Dev.Kept d0 d) (a1) :
    Dev.Kept d0 (Dev.doDiscard d a1).1 := by
  unfold Dev.doDiscard
  repeat'
    first
    | with_reducible
        first
        | assumption | apply Dev.famDiscard_kept
    | split

theorem Dev.tblCmd_kept (h : Dev.Kept d0 d) (a1 a2) :
    Dev.Kept d0 (Dev.tblCmd d a1 a2) := by
  unfold Dev.tblCmd
  repeat'
    first
    | with_reducible
        first
        | assumption | apply Dev.Kept.ite | apply Dev.put_kept | apply Dev.ev_kept | apply Dev.setFam_kept | (intro _)
    | split
    | fail_if_no_progress (with_reducible refine .of_mk ?_ rfl rfl rfl rfl rfl)

theorem Dev.tblRun_kept (h : Dev.Kept d0 d) (a1 a2) :
    Dev.Kept d0 (Dev.tblRun d a1 a2).1 := by
  unfold Dev.tblRun
  repeat'
    first
    | with_reducible
        first
        | assumption | apply Dev.doDiscard_kept | apply Dev.doRead_kept | apply Dev.doReadLoc_kept
        | apply Dev.doStageDelete_kept | apply Dev.doStageRevert_kept | apply Dev.doStageWrite_kept | (intro _)
    | split
    | fail_if_no_progress dsimp only

theorem Dev.tblEnd_kept (h : Dev.Kept d0 d) (a1 a2 a3) :
    Dev.Kept d0 (Dev.tblEnd d a1 a2 a3) := by
  unfold Dev.tblEnd
  dsimp only
  repeat'
    first
    | with_reducible
        first
        | assumption | apply Dev.iff_kept | apply Dev.put_kept | apply Dev.ev_kept | apply Dev.logFullEvt_kept
        | apply Dev.setFam_kept | (intro _)
    | (with_reducible refine Dev.Kept.of_fst (by with_reducible assumption) ?_)
    | split
    | fail_if_no_progress (with_reducible refine .of_mk ?_ rfl rfl rfl rfl rfl)

theorem Dev.tblDone_kept (h : Dev.Kept d0 d) (a1) :
    Dev.Kept d0 (Dev.tblDone d a1) := by
  unfold Dev.tblDone
  dsimp only
  repeat'
    first
    | with_reducible
        first
        | assumption | apply Dev.tblEnd_kept | apply Dev.tblRun_kept | (intro _)
    | (with_reducible refine Dev.Kept.of_fst (by with_reducible assumption) ?_)
    | split

theorem Dev.scrubStart_kept (h : Dev.Kept d0 d) :
    Dev.Kept d0 (Dev.scrubStart d) := by
  unfold Dev.scrubStart
  repeat' with_reducible
    first
    | assumption | apply Dev.each_kept | apply Dev.iff_kept | apply Dev.put_kept | (intro _)

theorem Dev.retire_kept (h : Dev.Kept d0 d) :
    Dev.Kept d0 (Dev.retire d) := by
  unfold Dev.retire
  repeat' with_reducible first | assumption | apply Dev.scrubStart_kept | apply Dev.ev_kept | apply Dev.put_kept

theorem Dev.retireCheck_kept (h : Dev.Kept d0 d) :
    Dev.Kept d0 (Dev.retireCheck d) := by
  unfold Dev.retireCheck
  repeat' with_reducible first | assumption | apply Dev.iff_kept | apply Dev.retire_kept

theorem Dev.flightIn_kept (h : Dev.Kept d0 d) (a1) :
    Dev.Kept d0 (Dev.flightIn d a1) := by
  unfold Dev.flightIn
  exact h.of_wf rfl rfl id id id

theorem Dev.flightOut_kept (h : Dev.Kept d0 d) (a1) :
    Dev.Kept d0 (Dev.flightOut d a1) := by
  unfold Dev.flightOut
  repeat'
    first
    | with_reducible
        first
        | assumption | apply Dev.retireCheck_kept
    | fail_if_no_progress (with_reducible refine .of_mk ?_ rfl rfl rfl rfl rfl)

theorem Dev.scrubDone_kept (h : Dev.Kept d0 d) (a1) :
    Dev.Kept d0 (Dev.scrubDone d a1) := by
  unfold Dev.scrubDone
  repeat'
    first
    | with_reducible
        first
        | assumption | apply Dev.setFam_kept | apply Dev.put_kept | apply Dev.ev_kept
    | split

end Sys2Proof.Machine
end

