-- ==== Sys2Proof/Laws/KeptDram.lean ====
section
/-!
SUPPORT. `Dev.Kept` (Safety.lean) through the operations of Machine/Dram.lean.
-/
namespace Sys2Proof.Machine

variable {d0 d : Dev}

theorem Dev.setDch_kept (h : Dev.Kept d0 d) (a1 a2) :
    Dev.Kept d0 (Dev.setDch d a1 a2) := by
  unfold Dev.setDch
  repeat'
    first
    | with_reducible
        first
        | assumption
    | fail_if_no_progress (with_reducible refine .of_mk ?_ rfl rfl rfl rfl rfl)

theorem Dev.dmcCnt_kept (h : Dev.Kept d0 d) (a1 a2) :
    Dev.Kept d0 (Dev.dmcCnt d a1 a2) := by
  unfold Dev.dmcCnt
  repeat' with_reducible first | assumption | apply Dev.bump_kept

theorem Dev.dmcInit_kept (h : Dev.Kept d0 d) :
    Dev.Kept d0 (Dev.dmcInit d) := by
  unfold Dev.dmcInit
  dsimp only
  repeat'
    first
    | with_reducible
        first
        | assumption | apply Dev.clr_kept | apply Dev.put_kept
    | split
    | fail_if_no_progress (with_reducible refine .of_mk ?_ rfl rfl rfl rfl rfl)

theorem Dev.dmcEn_kept (h : Dev.Kept d0 d) (a1) :
    Dev.Kept d0 (Dev.dmcEn d a1) := by
  unfold Dev.dmcEn
  repeat' with_reducible
    first
    | assumption | apply Dev.Kept.ite | apply Dev.ev_kept | apply Dev.put_kept | (intro _)

theorem Dev.dmcCtrl_kept (h : Dev.Kept d0 d) (a1) :
    Dev.Kept d0 (Dev.dmcCtrl d a1) := by
  unfold Dev.dmcCtrl
  repeat' with_reducible
    first
    | assumption | apply Dev.put_kept | apply Dev.dmcEn_kept | apply Dev.iff_kept | apply Dev.dmcInit_kept

theorem Dev.dmcRgn_kept (h : Dev.Kept d0 d) (a1 a2) :
    Dev.Kept d0 (Dev.dmcRgn d a1 a2) := by
  unfold Dev.dmcRgn
  repeat' with_reducible
    first
    | assumption | apply Dev.Kept.ite | apply Dev.ev_kept | apply Dev.put_kept | (intro _)

theorem Dev.wakesEnd_kept (h : Dev.Kept d0 d) :
    Dev.Kept d0 (Dev.wakesEnd d) := h.of_mk rfl rfl rfl rfl rfl

theorem Dev.dmcReady_kept (h : Dev.Kept d0 d) (rfm : Nat) :
    Dev.Kept d0 (d.dmcReady rfm) := by
  have hw (y : Dev) (hy : Dev.Kept d0 y) : Dev.Kept d0 { y with dram := { y.dram with mem := [] } } :=
    hy.of_wf rfl rfl id id (fun _ => rfl)
  unfold Dev.dmcReady
  dsimp only
  have h2 := Dev.each_kept (l := d.dchans) (Dev.ev_kept (Dev.put_kept (Dev.put_kept h Reg.DMC_STAT.STATE 2)
    Reg.DMC_STAT.KEPT (bit d.dram.keep)) Reg.DMC_EVT.INIT_DONE)
    (f := fun x c => x.put (Reg.DMC_CH_STAT.RFM_SUP c) (bit (bitOf rfm c))) (fun _ _ hx => Dev.put_kept hx _ _)
  split
  · exact h2
  · exact hw _ h2

theorem Dev.dmcInitDone_kept (h : Dev.Kept d0 d) (fail : Option (Nat × Nat)) (rfm : Nat) :
    Dev.Kept d0 (d.dmcInitDone fail rfm) := by
  unfold Dev.dmcInitDone
  split
  · exact h
  · split
    · exact Dev.put_kept (Dev.put_kept (Dev.put_kept (Dev.wakesEnd_kept h) _ _) _ _) _ _
    · exact Dev.dmcReady_kept (Dev.wakesEnd_kept h) _

theorem Dev.regulatorRefill_kept (h : Dev.Kept d0 d) :
    Dev.Kept d0 (Dev.regulatorRefill d) := by
  unfold Dev.regulatorRefill
  repeat'
    first
    | with_reducible
        first
        | assumption | apply Dev.each_kept | (intro _)
    | fail_if_no_progress (with_reducible refine .of_mk ?_ rfl rfl rfl rfl rfl)

theorem Dev.dmcCharge_kept (h : Dev.Kept d0 d) (a1) :
    Dev.Kept d0 (Dev.dmcCharge d a1).1 := by
  unfold Dev.dmcCharge
  repeat'
    first
    | with_reducible
        first
        | assumption
    | split
    | fail_if_no_progress (with_reducible refine .of_mk ?_ rfl rfl rfl rfl rfl)

theorem Dev.pourUpdate_kept (h : Dev.Kept d0 d) (a1) :
    Dev.Kept d0 (Dev.pourUpdate d a1) := by
  unfold Dev.pourUpdate
  repeat' with_reducible
    first
    | assumption | apply Dev.Kept.ite | apply Dev.setDch_kept | apply Dev.dmcCnt_kept | (intro _)

theorem Dev.readLate_kept (h : Dev.Kept d0 d) (a1 a2) :
    Dev.Kept d0 (Dev.readLate d a1 a2) := by
  unfold Dev.readLate
  repeat'
    first
    | with_reducible
        first
        | assumption | apply Dev.iff_kept | apply Dev.dmcCnt_kept | apply Dev.ev_kept | (intro _)
    | (with_reducible refine Dev.Kept.of_fst (by with_reducible assumption) ?_)
    | split

theorem Dev.lineEnter_kept (h : Dev.Kept d0 d) (c : Nat) (x : LineWait) :
    ∀ d', Dev.lineEnter d c x = some d' → Dev.Kept d0 d' := by
  intro d' e
  unfold Dev.lineEnter at e
  cases x with
  | rd r =>
    dsimp only at e
    split at e
    · cases e; exact Dev.readLate_kept (Dev.emit_kept h _) _ _
    · split at e
      · cases e
      · cases e; exact Dev.setDch_kept (Dev.dmcCharge_kept h _) _ _
  | wr w =>
    dsimp only at e
    split at e
    · cases e; exact Dev.setDch_kept (Dev.dmcCharge_kept h _) _ _
    · split at e
      · cases e
      · cases e; exact Dev.setDch_kept (Dev.dmcCharge_kept h _) _ _

theorem Dev.lineDrain_kept (h : Dev.Kept d0 d) (a1) :
    Dev.Kept d0 (Dev.lineDrain d a1) := by
  unfold Dev.lineDrain
  dsimp only
  repeat'
    first
    | with_reducible
        first
        | assumption | apply Dev.pourUpdate_kept | apply Dev.setDch_kept | apply Dev.foldl_fst_kept | (intro _)
    | (with_reducible refine Dev.lineEnter_kept ?_ _ _ _ (by with_reducible assumption))
    | split

theorem Dev.lineAsk_kept (h : Dev.Kept d0 d) (a1 a2) :
    Dev.Kept d0 (Dev.lineAsk d a1 a2) := by
  unfold Dev.lineAsk
  repeat' with_reducible first | assumption | apply Dev.lineDrain_kept | apply Dev.setDch_kept

theorem Dev.dmcAsk_kept (h : Dev.Kept d0 d) (a1 a2 a3 a4 a5) :
    Dev.Kept d0 (Dev.dmcAsk d a1 a2 a3 a4 a5) := by
  unfold Dev.dmcAsk
  dsimp only
  repeat'
    first
    | with_reducible
        first
        | assumption | apply Dev.Kept.ite | apply Dev.each_kept | apply Dev.iff_kept | apply Dev.bump_kept
        | apply Dev.emit_kept | apply Dev.lineAsk_kept | (intro _)
    | (with_reducible refine Dev.Kept.of_fst (by with_reducible assumption) ?_)
    | split
    | fail_if_no_progress (with_reducible refine .of_mk ?_ rfl rfl rfl rfl rfl)

theorem Dev.dmcRequest_kept (h : Dev.Kept d0 d) (a1 a2 a3 a4 a5) :
    Dev.Kept d0 (Dev.dmcRequest d a1 a2 a3 a4 a5) := by
  unfold Dev.dmcRequest
  repeat'
    first
    | with_reducible
        first
        | assumption | apply Dev.dmcAsk_kept | (intro _)

theorem Dev.tableHit_kept (h : Dev.Kept d0 d) (a1) :
    Dev.Kept d0 (Dev.tableHit d a1) := by
  unfold Dev.tableHit
  dsimp only
  repeat'
    first
    | with_reducible
        first
        | assumption | apply Dev.dmcRequest_kept
    | split
    | fail_if_no_progress (with_reducible refine .of_mk ?_ rfl rfl rfl rfl rfl)

theorem Dev.mitigate_kept (h : Dev.Kept d0 d) (a1 a2 a3) :
    Dev.Kept d0 (Dev.mitigate d a1 a2 a3) := by
  induction a3 generalizing d  with
  | zero =>
    unfold Dev.mitigate
    try dsimp only
    repeat' with_reducible first | assumption
  | succ m ih =>
    unfold Dev.mitigate
    try dsimp only
    repeat'
      first
      | with_reducible
          first
          | assumption | apply ih | apply Dev.dmcCnt_kept | apply Dev.setDch_kept
      | split

theorem Dev.openRow_kept (h : Dev.Kept d0 d) (a1 a2) :
    Dev.Kept d0 (Dev.openRow d a1 a2) := by
  unfold Dev.openRow
  repeat' with_reducible
    first
    | assumption | apply Dev.Kept.ite | apply Dev.mitigate_kept | apply Dev.setDch_kept | (intro _)

theorem Dev.eccCount_kept (h : Dev.Kept d0 d) (a1 a2 a3 a4) :
    Dev.Kept d0 (Dev.eccCount d a1 a2 a3 a4) := by
  unfold Dev.eccCount
  repeat'
    first
    | with_reducible
        first
        | assumption | apply Dev.dmcCnt_kept | apply Dev.ev_kept | apply Dev.put_kept
    | split

theorem Dev.writeIssue_kept (h : Dev.Kept d0 d) (c : Nat) (w : LineWrite) (o : Ecc) :
    Dev.Kept d0 (d.writeIssue c w o) := by
  have hw (y : Dev) (hy : Dev.Kept d0 y) :
      Dev.Kept d0 { y with dram := { y.dram with mem := Memory.writeAt y.dram.mem w.addr w.bytes } } :=
    hy.of_wf rfl rfl id id (Memory.wf_writeAt _ _)
  have h1 : Dev.Kept d0
      ((d.setDch c { d.dch c with wq := (d.dch c).wq.filter (fun q => q.line != w.line) }).openRow c w.line) :=
    Dev.openRow_kept (Dev.setDch_kept h _ _) _ _
  unfold Dev.writeIssue
  dsimp only
  split
  · exact Dev.dmcCnt_kept (hw _ h1) _ _
  · have h2 := Dev.eccCount_kept (Dev.dmcCnt_kept h1 c 8) c w.addr w.port o
    split
    · exact Dev.each_kept h2 (fun _ _ hx => Dev.emit_kept hx _)
    · exact Dev.dmcCnt_kept (hw _ h2) _ _

theorem Dev.readIssue_kept (h : Dev.Kept d0 d) (a1 a2) :
    Dev.Kept d0 (Dev.readIssue d a1 a2) := by
  unfold Dev.readIssue
  repeat' with_reducible first | assumption | apply Dev.dmcCnt_kept | apply Dev.openRow_kept | apply Dev.setDch_kept

theorem Dev.readComplete_kept (h : Dev.Kept d0 d) (a1 a2) :
    Dev.Kept d0 (Dev.readComplete d a1 a2) := by
  unfold Dev.readComplete
  dsimp only
  repeat'
    first
    | with_reducible
        first
        | assumption | apply Dev.eccCount_kept | apply Dev.emit_kept | apply Dev.readLate_kept
        | apply Dev.setDch_kept | (intro _)
    | (with_reducible refine Dev.Kept.of_fst (by with_reducible assumption) ?_)
    | split
    | fail_if_no_progress (with_reducible refine .of_mk ?_ rfl rfl rfl rfl rfl)

theorem Dev.closeRows_kept (h : Dev.Kept d0 d) (a1) :
    Dev.Kept d0 (Dev.closeRows d a1) := by
  unfold Dev.closeRows
  repeat' with_reducible first | assumption | apply Dev.setDch_kept

theorem Dev.refresh_kept (h : Dev.Kept d0 d) (a1 a2) :
    Dev.Kept d0 (Dev.refresh d a1 a2) := by
  unfold Dev.refresh
  repeat' with_reducible
    first
    | assumption | apply Dev.iff_kept | apply Dev.closeRows_kept | apply Dev.dmcCnt_kept | apply Dev.setDch_kept
    | (intro _)

theorem Dev.refreshOwed_kept (h : Dev.Kept d0 d) (a1 a2) :
    Dev.Kept d0 (Dev.refreshOwed d a1 a2) := by
  unfold Dev.refreshOwed
  repeat' with_reducible first | assumption | apply Dev.refresh_kept | apply Dev.put_kept

theorem Dev.retrain_kept (h : Dev.Kept d0 d) (a1) :
    Dev.Kept d0 (Dev.retrain d a1) := by
  unfold Dev.retrain
  repeat' with_reducible first | assumption | apply Dev.dmcCnt_kept | apply Dev.setDch_kept

theorem Dev.slotServe_kept (h : Dev.Kept d0 d) (a1 a2) :
    Dev.Kept d0 (Dev.slotServe d a1 a2) := by
  unfold Dev.slotServe
  dsimp only
  repeat'
    first
    | with_reducible
        first
        | assumption | apply Dev.pourUpdate_kept | apply Dev.writeIssue_kept | apply Dev.readIssue_kept
        | apply Dev.setDch_kept
    | split

theorem Dev.commandSlot_kept (h : Dev.Kept d0 d) (a1 a2) :
    Dev.Kept d0 (Dev.commandSlot d a1 a2) := by
  unfold Dev.commandSlot
  repeat' with_reducible
    first
    | assumption | apply Dev.Kept.ite | apply Dev.refreshOwed_kept | apply Dev.setDch_kept | apply Dev.retrain_kept
    | apply Dev.slotServe_kept | apply Dev.lineDrain_kept | (intro _)

theorem Dev.refreshDue_kept (h : Dev.Kept d0 d) (a1) :
    Dev.Kept d0 (Dev.refreshDue d a1) := by
  unfold Dev.refreshDue
  repeat' with_reducible
    first
    | assumption | apply Dev.Kept.ite | apply Dev.put_kept | apply Dev.iff_kept | apply Dev.dmcCnt_kept | (intro _)

theorem Dev.mr4Due_kept (h : Dev.Kept d0 d) (a1) :
    Dev.Kept d0 (Dev.mr4Due d a1) := by
  unfold Dev.mr4Due
  repeat' with_reducible first | assumption | apply Dev.Kept.ite | apply Dev.setDch_kept | (intro _)

theorem Dev.mr4Result_kept (h : Dev.Kept d0 d) (a1 a2 a3) :
    Dev.Kept d0 (Dev.mr4Result d a1 a2 a3) := by
  unfold Dev.mr4Result
  repeat' with_reducible
    first
    | assumption | apply Dev.Kept.ite | apply Dev.put_kept | apply Dev.iff_kept | apply Dev.ev_kept
    | apply Dev.dmcCnt_kept | apply Dev.each_kept | apply Dev.refresh_kept | (intro _)

theorem Dev.retrainDue_kept (h : Dev.Kept d0 d) (a1) :
    Dev.Kept d0 (Dev.retrainDue d a1) := by
  unfold Dev.retrainDue
  repeat' with_reducible first | assumption | apply Dev.Kept.ite | apply Dev.setDch_kept | (intro _)

theorem Dev.retrainForce_kept (h : Dev.Kept d0 d) (a1) :
    Dev.Kept d0 (Dev.retrainForce d a1) := by
  unfold Dev.retrainForce
  repeat' with_reducible first | assumption | apply Dev.Kept.ite | apply Dev.setDch_kept | (intro _)

end Sys2Proof.Machine
end

