-- ==== Sys2Proof/Laws/KeptTraffic.lean ====
section
/-!
SUPPORT. `Dev.Kept` (Safety.lean) through the operations of Machine/Traffic.lean.
-/
namespace Sys2Proof.Machine

variable {d0 d : Dev}

theorem Dev.hold_kept (h : Dev.Kept d0 d) (a1 a2) :
    Dev.Kept d0 (Dev.hold d a1 a2).1 := by
  unfold Dev.hold
  exact h.of_wf rfl rfl id id id

theorem Dev.release_kept (h : Dev.Kept d0 d) (a1) :
    Dev.Kept d0 (Dev.release d a1) := by
  unfold Dev.release
  dsimp only
  repeat'
    first
    | with_reducible
        first
        | assumption | apply Dev.Kept.ite
        | apply Dev.setQueue_kept | (intro _)
    | (with_reducible refine Dev.Kept.of_fst (by with_reducible assumption) ?_)
    | split
    | fail_if_no_progress (with_reducible refine .of_mk ?_ rfl rfl rfl rfl rfl)

theorem Dev.sidingPut_kept (h : Dev.Kept d0 d) (a1) :
    Dev.Kept d0 (Dev.sidingPut d a1) := by
  unfold Dev.sidingPut
  dsimp only
  repeat'
    first
    | with_reducible
        first
        | assumption | apply Dev.each_kept | apply Dev.dmcAsk_kept | apply Dev.freeBytes_kept | (intro _)
    | (with_reducible refine Dev.Kept.of_fst (by with_reducible assumption) ?_)

theorem Dev.stageOut_kept (h : Dev.Kept d0 d) :
    Dev.Kept d0 (Dev.stageOut d) := by
  unfold Dev.stageOut
  dsimp only
  repeat'
    first
    | with_reducible
        first
        | assumption | apply Dev.Kept.ite | apply Dev.each_kept | apply Dev.sidingPut_kept | (intro _)
    | (with_reducible refine Dev.Kept.of_fst (by with_reducible assumption) ?_)
    | split
    | fail_if_no_progress (with_reducible refine .of_mk ?_ rfl rfl rfl rfl rfl)

theorem Dev.refill_kept (h : Dev.Kept d0 d) (a1 a2) :
    Dev.Kept d0 (Dev.refill d a1 a2) := by
  unfold Dev.refill
  repeat' with_reducible first | assumption | apply Dev.setBkt_kept

theorem Dev.charge_kept (h : Dev.Kept d0 d) (a1 a2 a3) :
    Dev.Kept d0 (Dev.charge d a1 a2 a3) := by
  unfold Dev.charge
  repeat' with_reducible first | assumption | apply Dev.setBkt_kept

theorem Dev.editOut_kept (h : Dev.Kept d0 d) (a1) :
    Dev.Kept d0 (Dev.editOut d a1).1 := by
  unfold Dev.editOut
  repeat'
    first
    | with_reducible
        first
        | assumption | apply Dev.iff_kept | apply Dev.bump_kept | (intro _)
    | split

theorem Dev.requeue_kept (h : Dev.Kept d0 d) (a1 a2) :
    Dev.Kept d0 (Dev.requeue d a1 a2) := by
  unfold Dev.requeue
  repeat' with_reducible first | assumption | apply Dev.setQueue_kept

theorem Dev.clearDef_kept (h : Dev.Kept d0 d) (a1) :
    Dev.Kept d0 (Dev.clearDef d a1) := by
  unfold Dev.clearDef
  repeat'
    first
    | with_reducible
        first
        | assumption | (intro _)
    | fail_if_no_progress (with_reducible refine .of_mk ?_ rfl rfl rfl rfl rfl)

theorem Dev.nodeIdle_kept (h : Dev.Kept d0 d) (a1) :
    Dev.Kept d0 (Dev.nodeIdle d a1) := by
  unfold Dev.nodeIdle
  repeat'
    first
    | with_reducible
        first
        | assumption | apply Dev.Kept.ite
        | apply Dev.clearDef_kept | (intro _)

theorem Dev.queueIdle_kept (h : Dev.Kept d0 d) (a1) :
    Dev.Kept d0 (Dev.queueIdle d a1) := by
  unfold Dev.queueIdle
  repeat' with_reducible first | assumption | apply Dev.Kept.ite | apply Dev.nodeIdle_kept | (intro _)

theorem Dev.popQueue_kept (h : Dev.Kept d0 d) (a1) :
    Dev.Kept d0 (Dev.popQueue d a1) := by
  unfold Dev.popQueue
  repeat' with_reducible first | assumption | apply Dev.queueIdle_kept | apply Dev.setQueue_kept

theorem Dev.replaced_kept (h : Dev.Kept d0 d) (a1) :
    Dev.Kept d0 (Dev.replaced d a1) := by
  unfold Dev.replaced
  dsimp only
  repeat'
    first
    | with_reducible
        first
        | assumption | apply Dev.Kept.ite | apply Dev.each_kept
        | apply Dev.clearDef_kept | apply Dev.setQueue_kept | (intro _)

theorem Dev.chargeAll_kept (h : Dev.Kept d0 d) (a1 a2) :
    Dev.Kept d0 (Dev.chargeAll d a1 a2) := by
  unfold Dev.chargeAll
  repeat'
    first
    | with_reducible
        first
        | assumption | apply Dev.charge_kept
    | split

theorem Dev.purge_kept (h : Dev.Kept d0 d) (p : Nat) (ok : Frame → Verdict) {count : Dev → Nat → Dev} (fuel : Nat)
    (hc : ∀ (y : Dev) (c : Nat), Dev.Kept d0 y → Dev.Kept d0 (count y c)) : Dev.Kept d0 (d.purge p ok count fuel) := by
  induction fuel generalizing d with
  | zero => exact h
  | succ m ih =>
    unfold Dev.purge
    dsimp only
    split
    · exact h
    · exact ih (hc _ _ (Dev.release_kept (Dev.popQueue_kept h _) _))

theorem Dev.dropFailed_kept (h : Dev.Kept d0 d) (a1 a2) :
    Dev.Kept d0 (Dev.dropFailed d a1 a2) := by
  induction a2 generalizing d  with
  | zero =>
    unfold Dev.dropFailed
    repeat' with_reducible first | assumption
  | succ m ih =>
    unfold Dev.dropFailed
    dsimp only
    repeat'
      first
      | with_reducible
          first
          | assumption | apply ih | apply Dev.release_kept | apply Dev.popQueue_kept
      | split

theorem Dev.take_kept (h : Dev.Kept d0 d) (a1 a2) :
    Dev.Kept d0 (Dev.take d a1 a2).1 := by
  unfold Dev.take
  dsimp only
  repeat'
    first
    | with_reducible
        first
        | assumption | apply Dev.dropFailed_kept | apply Dev.each_kept | apply Dev.setQueue_kept
        | apply Dev.popQueue_kept | apply Dev.chargeAll_kept | apply Dev.bump_kept
        | (intro _)
    | split
    | fail_if_no_progress (with_reducible refine .of_mk ?_ rfl rfl rfl rfl rfl)

theorem Dev.wred_kept (h : Dev.Kept d0 d) (a1 a2) :
    Dev.Kept d0 (Dev.wred d a1 a2).1 := by
  unfold Dev.wred
  dsimp only
  repeat'
    first
    | with_reducible
        first
        | assumption | apply Dev.freed_kept
    | split

theorem Dev.enqueueOnDie_kept (h : Dev.Kept d0 d) (a1 a2 a3) :
    Dev.Kept d0 (Dev.enqueueOnDie d a1 a2 a3) := by
  unfold Dev.enqueueOnDie
  repeat' with_reducible first | assumption | apply Dev.hold_kept | apply Dev.bump_kept | apply Dev.setQueue_kept

theorem Dev.offerSpill_kept (h : Dev.Kept d0 d) (a1 a2) :
    Dev.Kept d0 (Dev.offerSpill d a1 a2) := by
  unfold Dev.offerSpill
  repeat' with_reducible
    first
    | assumption | apply Dev.Kept.ite | apply Dev.bump_kept | apply Dev.iff_kept | apply Dev.ev_kept
    | apply Dev.wred_kept | apply Dev.hold_kept | apply Dev.setQueue_kept | (intro _)

theorem Dev.offer_kept (h : Dev.Kept d0 d) (a1 a2) :
    Dev.Kept d0 (Dev.offer d a1 a2) := by
  unfold Dev.offer
  repeat' with_reducible
    first
    | assumption | apply Dev.Kept.ite | apply Dev.setQueue_kept | apply Dev.offerSpill_kept | apply Dev.bump_kept
    | apply Dev.enqueueOnDie_kept | apply Dev.wred_kept | (intro _)

theorem Dev.offerTrap_kept (h : Dev.Kept d0 d) (a1) :
    Dev.Kept d0 (Dev.offerTrap d a1) := by
  unfold Dev.offerTrap
  repeat' with_reducible
    first
    | assumption | apply Dev.Kept.ite | apply Dev.hold_kept | apply Dev.setQueue_kept | apply Dev.bump_kept
    | (intro _)

theorem Dev.enqueueTransit_kept (h : Dev.Kept d0 d) (a1 a2 a3) :
    Dev.Kept d0 (Dev.enqueueTransit d a1 a2 a3) := by
  unfold Dev.enqueueTransit
  dsimp only
  repeat'
    first
    | with_reducible
        first
        | assumption | apply Dev.bump_kept | apply Dev.offer_kept
    | split

theorem Dev.offerFlow_kept (h : Dev.Kept d0 d) (a1 a2 a3 a4) :
    Dev.Kept d0 (Dev.offerFlow d a1 a2 a3 a4) := by
  unfold Dev.offerFlow
  dsimp only
  repeat'
    first
    | with_reducible
        first
        | assumption | apply Dev.Kept.ite
        | apply Dev.offer_kept

theorem Dev.enqueue_kept (h : Dev.Kept d0 d) (a1 a2 a3) :
    Dev.Kept d0 (Dev.enqueue d a1 a2 a3) := by
  unfold Dev.enqueue
  dsimp only
  repeat'
    first
    | with_reducible
        first
        | assumption | apply Dev.Kept.ite
        | apply Dev.bump_kept | apply Dev.enqueueTransit_kept | apply Dev.offerFlow_kept | (intro _)
    | (with_reducible refine Dev.Kept.of_fst (by with_reducible assumption) ?_)
    | split

theorem Dev.setSiding_kept (h : Dev.Kept d0 d) (a1 a2) :
    Dev.Kept d0 (Dev.setSiding d a1 a2) := by
  unfold Dev.setSiding
  repeat' with_reducible first | assumption | apply Dev.setQueue_kept

theorem Dev.sidingReturn_kept (h : Dev.Kept d0 d) (a1 a2) :
    Dev.Kept d0 (Dev.sidingReturn d a1 a2) := by
  induction a2 generalizing d  with
  | zero =>
    unfold Dev.sidingReturn
    repeat' with_reducible first | assumption
  | succ m ih =>
    unfold Dev.sidingReturn
    dsimp only
    repeat'
      first
      | with_reducible
          first
          | assumption | apply ih | apply Dev.hold_kept | apply Dev.release_kept | apply Dev.setSiding_kept
          | apply Dev.setQueue_kept | apply Dev.each_kept | apply Dev.dmcAsk_kept | (intro _)
      | split

theorem Dev.dropAll_kept (h : Dev.Kept d0 d) (a1 a2) :
    Dev.Kept d0 (Dev.dropAll d a1 a2) := by
  unfold Dev.dropAll
  repeat' with_reducible
    first
    | assumption | apply Dev.each_kept | apply Dev.bump_kept | apply Dev.release_kept | (intro _)

theorem Dev.sidingFail_kept (h : Dev.Kept d0 d) (a1 a2) :
    Dev.Kept d0 (Dev.sidingFail d a1 a2) := by
  unfold Dev.sidingFail
  dsimp only
  repeat'
    first
    | with_reducible
        first
        | assumption | apply Dev.Kept.ite | apply Dev.iff_kept | apply Dev.bumpBy_kept
        | apply Dev.dropAll_kept | apply Dev.ev_kept | apply Dev.queueIdle_kept | apply Dev.setQueue_kept
        | apply Dev.setSiding_kept | (intro _)
    | (with_reducible refine Dev.Kept.of_fst (by with_reducible assumption) ?_)
    | split
    | fail_if_no_progress (with_reducible refine .of_mk ?_ rfl rfl rfl rfl rfl)

theorem Dev.flush_kept (h : Dev.Kept d0 d) (a1) :
    Dev.Kept d0 (Dev.flush d a1) := by
  unfold Dev.flush
  repeat' with_reducible first | assumption | apply Dev.queueIdle_kept | apply Dev.setQueue_kept | apply Dev.dropAll_kept

end Sys2Proof.Machine
end

