-- ==== Sys2Proof/Laws/KeptMac.lean ====
section
/-!
SUPPORT. `Dev.Kept` (Safety.lean) through the operations of Machine/Mac.lean.
-/
namespace Sys2Proof.Machine

variable {d0 d : Dev}

theorem Dev.smCount_kept (h : Dev.Kept d0 d) (a1 a2 a3 a4) :
    Dev.Kept d0 (Dev.smCount d a1 a2 a3 a4) := by
  unfold Dev.smCount
  repeat' with_reducible first | assumption | apply Dev.bumpWide_kept

theorem Dev.smCnt_kept (h : Dev.Kept d0 d) (a1 a2 a3) :
    Dev.Kept d0 (Dev.smCnt d a1 a2 a3) := by
  unfold Dev.smCnt
  repeat' with_reducible first | assumption | apply Dev.smCount_kept

theorem Dev.txBegin_kept (h : Dev.Kept d0 d) (a1 a2) :
    Dev.Kept d0 (Dev.txBegin d a1 a2) := by
  unfold Dev.txBegin
  repeat' with_reducible first | assumption | apply Dev.setMac_kept

theorem Dev.nextCtl_kept (h : Dev.Kept d0 d) (a1) :
    Dev.Kept d0 (Dev.nextCtl d a1) := by
  unfold Dev.nextCtl
  dsimp only
  repeat'
    first
    | with_reducible
        first
        | assumption | apply Dev.txBegin_kept | apply Dev.setMac_kept
    | split

theorem Dev.sendCtl_kept (h : Dev.Kept d0 d) (a1 a2) :
    Dev.Kept d0 (Dev.sendCtl d a1 a2) := by
  unfold Dev.sendCtl
  repeat'
    first
    | with_reducible
        first
        | assumption | apply Dev.Kept.ite
        | apply Dev.clr_kept | apply Dev.nextCtl_kept | apply Dev.setMac_kept | (intro _)

theorem Dev.fcSend_kept (h : Dev.Kept d0 d) (a1 a2 a3) :
    Dev.Kept d0 (Dev.fcSend d a1 a2 a3) := by
  unfold Dev.fcSend
  repeat' with_reducible first | assumption | apply Dev.Kept.ite | apply Dev.sendCtl_kept | (intro _)

theorem Dev.refreshFrom_kept (h : Dev.Kept d0 d) (a1 a2) :
    Dev.Kept d0 (Dev.refreshFrom d a1 a2) := by
  unfold Dev.refreshFrom
  dsimp only
  repeat'
    first
    | with_reducible
        first
        | assumption | apply Dev.foldl_kept | apply Dev.foldl_fst_kept | apply Dev.refresh_kept
        | apply Dev.setMac_kept | (intro _)
    | (with_reducible refine Dev.Kept.of_fst (by with_reducible assumption) ?_)
    | fail_if_no_progress (with_reducible refine .of_mk ?_ rfl rfl rfl rfl rfl)

theorem Dev.fcRefresh_kept (h : Dev.Kept d0 d) (a1) :
    Dev.Kept d0 (Dev.fcRefresh d a1) := by
  unfold Dev.fcRefresh
  dsimp only
  repeat'
    first
    | with_reducible
        first
        | assumption | apply Dev.Kept.ite | apply Dev.fcSend_kept | apply Dev.refresh_kept
        | apply Dev.refreshFrom_kept | (intro _)
    | (with_reducible refine Dev.Kept.of_fst (by with_reducible assumption) ?_)
    | split

theorem Dev.fcUpdate_kept (h : Dev.Kept d0 d) (a1) :
    Dev.Kept d0 (Dev.fcUpdate d a1) := by
  unfold Dev.fcUpdate
  dsimp only
  repeat'
    first
    | with_reducible
        first
        | assumption | apply Dev.Kept.ite | apply Dev.fcSend_kept | apply Dev.refresh_kept
        | apply Dev.refreshFrom_kept | apply Dev.setMac_kept | (intro _)
    | (with_reducible refine Dev.Kept.of_fst (by with_reducible assumption) ?_)
    | split
    | fail_if_no_progress (with_reducible refine .of_mk ?_ rfl rfl rfl rfl rfl)

theorem Dev.arrive_kept (h : Dev.Kept d0 d) (a1) :
    Dev.Kept d0 (Dev.arrive d a1) := by
  unfold Dev.arrive
  repeat' with_reducible
    first
    | assumption | apply Dev.Kept.ite | apply Dev.bump_kept | apply Dev.fcUpdate_kept | apply Dev.setBuf_kept
    | (intro _)

theorem Dev.gatesMark_kept (h : Dev.Kept d0 d) :
    Dev.Kept d0 (Dev.gatesMark d) := by
  unfold Dev.gatesMark
  dsimp only
  repeat'
    first
    | with_reducible
        first
        | assumption | apply Dev.Kept.ite | (intro _)
    | (with_reducible refine Dev.Kept.of_fst (by with_reducible assumption) ?_)
    | split
    | fail_if_no_progress (with_reducible refine .of_mk ?_ rfl rfl rfl rfl rfl)

theorem Dev.portRemoved_kept (h : Dev.Kept d0 d) (a1 a2) :
    Dev.Kept d0 (Dev.portRemoved a1 d a2) := by
  unfold Dev.portRemoved
  repeat' with_reducible
    first
    | assumption | apply Dev.iff_kept | apply Dev.smCnt_kept | apply Dev.ev_kept | (intro _)

theorem Dev.castCount_kept (h : Dev.Kept d0 d) (a1 a2 a3 a4) :
    Dev.Kept d0 (Dev.castCount d a1 a2 a3 a4) := by
  unfold Dev.castCount
  repeat' with_reducible first | assumption | apply Dev.smCnt_kept | apply Dev.smCount_kept

theorem Dev.txOut_kept (h : Dev.Kept d0 d) (a1 a2 a3 a4) :
    Dev.Kept d0 (Dev.txOut d a1 a2 a3 a4) := by
  unfold Dev.txOut
  repeat'
    first
    | with_reducible
        first
        | assumption | apply Dev.iff_kept | apply Dev.emit_kept | (intro _)

theorem Dev.txAsleep_kept (h : Dev.Kept d0 d) (a1) :
    Dev.Kept d0 (Dev.txAsleep d a1) := by
  unfold Dev.txAsleep
  dsimp only
  repeat'
    first
    | with_reducible
        first
        | assumption | apply Dev.setMac_kept | apply Dev.txOut_kept | (intro _)
    | (with_reducible refine Dev.Kept.of_fst (by with_reducible assumption) ?_)
    | split
    | fail_if_no_progress (with_reducible refine .of_mk ?_ rfl rfl rfl rfl rfl)

theorem Dev.stompAt_kept (h : Dev.Kept d0 d) (a1 a2 a3) :
    Dev.Kept d0 (Dev.stompAt d a1 a2 a3) := by
  unfold Dev.stompAt
  dsimp only
  repeat'
    first
    | with_reducible
        first
        | assumption | apply Dev.setMac_kept | apply Dev.smCnt_kept | apply Dev.txOut_kept | (intro _)
    | (with_reducible refine Dev.Kept.of_fst (by with_reducible assumption) ?_)
    | split
    | fail_if_no_progress (with_reducible refine .of_mk ?_ rfl rfl rfl rfl rfl)

theorem Dev.stomp_kept (h : Dev.Kept d0 d) (a1 a2) :
    Dev.Kept d0 (Dev.stomp d a1 a2) := by
  unfold Dev.stomp
  repeat'
    first
    | with_reducible
        first
        | assumption
        | apply Dev.stompAt_kept | (intro _)
    | (with_reducible refine Dev.Kept.of_fst (by with_reducible assumption) ?_)
    | split

theorem Dev.cutTx_kept (h : Dev.Kept d0 d) (a1) :
    Dev.Kept d0 (Dev.cutTx d a1) := by
  unfold Dev.cutTx
  dsimp only
  repeat'
    first
    | with_reducible
        first
        | assumption | apply Dev.setMac_kept | apply Dev.smCnt_kept | apply Dev.txOut_kept | (intro _)
    | (with_reducible refine Dev.Kept.of_fst (by with_reducible assumption) ?_)
    | split
    | fail_if_no_progress (with_reducible refine .of_mk ?_ rfl rfl rfl rfl rfl)

theorem Dev.dropWaiting_kept (h : Dev.Kept d0 d) (a1) :
    Dev.Kept d0 (Dev.dropWaiting d a1) := by
  unfold Dev.dropWaiting
  dsimp only
  repeat'
    first
    | with_reducible
        first
        | assumption | apply Dev.setMac_kept | apply Dev.smCnt_kept | apply Dev.release_kept
        | apply Dev.requeue_kept
    | split

theorem Dev.lpiEnd_kept (h : Dev.Kept d0 d) (a1 a2) :
    Dev.Kept d0 (Dev.lpiEnd d a1 a2) := by
  unfold Dev.lpiEnd
  repeat'
    first
    | with_reducible
        first
        | assumption
        | apply Dev.clr_kept

theorem Dev.linkPort_kept (h : Dev.Kept d0 d) (a1 a2) :
    Dev.Kept d0 (Dev.linkPort d a1 a2) := by
  unfold Dev.linkPort
  dsimp only
  repeat'
    first
    | with_reducible
        first
        | assumption | apply Dev.Kept.ite | apply Dev.iff_kept | apply Dev.put_kept
        | apply Dev.cutTx_kept | apply Dev.dropWaiting_kept | apply Dev.ev_kept | apply Dev.lpiEnd_kept
        | apply Dev.setMac_kept | (intro _)

theorem Dev.linkLane_kept (h : Dev.Kept d0 d) (a1) :
    Dev.Kept d0 (Dev.linkLane d a1) := by
  unfold Dev.linkLane
  repeat' with_reducible first | assumption | apply Dev.each_kept | apply Dev.linkPort_kept | (intro _)

theorem Dev.passStart_kept (h : Dev.Kept d0 d) (a1) :
    Dev.Kept d0 (Dev.passStart d a1) := by
  unfold Dev.passStart
  repeat'
    first
    | with_reducible
        first
        | assumption | apply Dev.put_kept
        | apply Dev.setLane_kept

theorem Dev.walkStart_kept (h : Dev.Kept d0 d) (a1) :
    Dev.Kept d0 (Dev.walkStart d a1) := by
  unfold Dev.walkStart
  repeat'
    first
    | with_reducible
        first
        | assumption | apply Dev.Kept.ite
        | apply Dev.passStart_kept | (intro _)

theorem Dev.walkStop_kept (h : Dev.Kept d0 d) (a1) :
    Dev.Kept d0 (Dev.walkStop d a1) := by
  unfold Dev.walkStop
  repeat' with_reducible
    first
    | assumption | apply Dev.Kept.ite | apply Dev.put_kept | apply Dev.setLane_kept | (intro _)

theorem Dev.laneCtrl_kept (h : Dev.Kept d0 d) (a1 a2 a3) :
    Dev.Kept d0 (Dev.laneCtrl d a1 a2 a3) := by
  unfold Dev.laneCtrl
  repeat' with_reducible
    first
    | assumption | apply Dev.Kept.ite | apply Dev.iff_kept | apply Dev.ev_kept | apply Dev.put_kept
    | apply Dev.walkStop_kept | apply Dev.setLane_kept | apply Dev.linkLane_kept | apply Dev.each_kept
    | apply Dev.stomp_kept | apply Dev.walkStart_kept | (intro _)

theorem Dev.dwell_kept (h : Dev.Kept d0 d) (a1 a2) :
    Dev.Kept d0 (Dev.dwell d a1 a2) := by
  unfold Dev.dwell
  dsimp only
  repeat'
    first
    | with_reducible
        first
        | assumption | apply Dev.Kept.ite | apply Dev.iff_kept | apply Dev.put_kept
        | apply Dev.ev_kept | apply Dev.laneCtrl_kept | apply Dev.passStart_kept | apply Dev.setLane_kept | (intro _)
    | (with_reducible refine Dev.Kept.of_fst (by with_reducible assumption) ?_)
    | split

theorem Dev.showPaused_kept (h : Dev.Kept d0 d) (a1) :
    Dev.Kept d0 (Dev.showPaused d a1) := by
  unfold Dev.showPaused
  dsimp only
  repeat'
    first
    | with_reducible
        first
        | assumption | apply Dev.put_kept

theorem Dev.pauseLoad_kept (h : Dev.Kept d0 d) (a1 a2 a3) :
    Dev.Kept d0 (Dev.pauseLoad d a1 a2 a3) := by
  unfold Dev.pauseLoad
  dsimp only
  repeat'
    first
    | with_reducible
        first
        | assumption | apply Dev.Kept.ite | apply Dev.each_kept
        | apply Dev.setMac_kept | apply Dev.showPaused_kept | (intro _)

theorem Dev.pauseWaiting_kept (h : Dev.Kept d0 d) (a1) :
    Dev.Kept d0 (Dev.pauseWaiting d a1) := by
  unfold Dev.pauseWaiting
  dsimp only
  repeat'
    first
    | with_reducible
        first
        | assumption | apply Dev.smCnt_kept | apply Dev.requeue_kept | apply Dev.setMac_kept
    | split

theorem Dev.rxControl_kept (h : Dev.Kept d0 d) (a1 a2 a3) :
    Dev.Kept d0 (Dev.rxControl d a1 a2 a3) := by
  unfold Dev.rxControl
  repeat' with_reducible
    first
    | assumption | apply Dev.Kept.ite | apply Dev.pauseWaiting_kept | apply Dev.pauseLoad_kept
    | apply Dev.smCnt_kept | (intro _)

theorem Dev.macRx_kept (h : Dev.Kept d0 d) (a1 a2 a3 a4 a5) :
    Dev.Kept d0 (Dev.macRx d a1 a2 a3 a4 a5) := by
  unfold Dev.macRx
  repeat' with_reducible
    first
    | assumption | apply Dev.Kept.ite | apply Dev.smCnt_kept | apply Dev.rxControl_kept | apply Dev.arrive_kept
    | apply Dev.castCount_kept | (intro _)

theorem Dev.portRequest_kept (h : Dev.Kept d0 d) (a1 a2) :
    Dev.Kept d0 (Dev.portRequest d a1 a2) := by
  unfold Dev.portRequest
  dsimp only
  repeat'
    first
    | with_reducible
        first
        | assumption | apply Dev.purge_kept | apply Dev.portRemoved_kept | apply Dev.take_kept | apply Dev.clr_kept
        | apply Dev.setMac_kept | apply Dev.smCnt_kept | apply Dev.release_kept | (intro _)
    | (with_reducible refine Dev.Kept.of_fst (by with_reducible assumption) ?_)
    | split

theorem Dev.txStart_kept (h : Dev.Kept d0 d) (a1 a2 a3) :
    Dev.Kept d0 (Dev.txStart d a1 a2 a3) := by
  unfold Dev.txStart
  dsimp only
  repeat'
    first
    | with_reducible
        first
        | assumption | apply Dev.Kept.ite | apply Dev.iff_kept
        | apply Dev.bump_kept | apply Dev.editOut_kept | apply Dev.nextCtl_kept | apply Dev.release_kept
        | apply Dev.requeue_kept | apply Dev.setMac_kept | apply Dev.smCnt_kept | apply Dev.txBegin_kept | (intro _)
    | (with_reducible refine Dev.Kept.of_fst (by with_reducible assumption) ?_)
    | split

theorem Dev.txUnderrun_kept (h : Dev.Kept d0 d) (a1 a2) :
    Dev.Kept d0 (Dev.txUnderrun d a1 a2) := by
  unfold Dev.txUnderrun
  dsimp only
  repeat'
    first
    | with_reducible
        first
        | assumption | apply Dev.Kept.ite | apply Dev.put_kept
        | apply Dev.ev_kept | apply Dev.nextCtl_kept | apply Dev.stompAt_kept | (intro _)
    | (with_reducible refine Dev.Kept.of_fst (by with_reducible assumption) ?_)
    | split

theorem Dev.txEnd_kept (h : Dev.Kept d0 d) (a1 a2) :
    Dev.Kept d0 (Dev.txEnd d a1 a2).1 := by
  unfold Dev.txEnd
  dsimp only
  repeat'
    first
    | with_reducible
        first
        | assumption | apply Dev.Kept.ite | apply Dev.iff_kept | apply Dev.castCount_kept | apply Dev.ev_kept
        | apply Dev.nextCtl_kept | apply Dev.setMac_kept | apply Dev.smCnt_kept | apply Dev.stomp_kept
        | apply Dev.txOut_kept | (intro _)
    | (with_reducible refine Dev.Kept.of_fst (by with_reducible assumption) ?_)
    | split
    | fail_if_no_progress (with_reducible refine .of_mk ?_ rfl rfl rfl rfl rfl)
    | fail_if_no_progress dsimp only

theorem Dev.gateUpdate_kept (h : Dev.Kept d0 d) (a1 a2) :
    Dev.Kept d0 (Dev.gateUpdate d a1 a2) := by
  unfold Dev.gateUpdate
  repeat' with_reducible first | assumption | apply Dev.put_kept

theorem Dev.lpiEnter_kept (h : Dev.Kept d0 d) (a1 a2) :
    Dev.Kept d0 (Dev.lpiEnter d a1 a2) := by
  unfold Dev.lpiEnter
  repeat' with_reducible
    first
    | assumption | apply Dev.Kept.ite | apply Dev.smCnt_kept | apply Dev.ev_kept | (intro _)

end Sys2Proof.Machine
end

