-- ==== Sys2Proof/Laws/KeptClassify.lean ====
section
/-!
SUPPORT. `Dev.Kept` (Safety.lean) through the operations of Machine/Classify.lean.
-/
namespace Sys2Proof.Machine

variable {d0 d : Dev}

theorem Dev.police_kept (h : Dev.Kept d0 d) (a1 a2 a3 a4) :
    Dev.Kept d0 (Dev.police d a1 a2 a3 a4).1 := by
  unfold Dev.police
  repeat'
    first
    | with_reducible
        first
        | assumption | apply Dev.bump_kept | apply Dev.setPol_kept
    | split

theorem Dev.polCommit_kept (h : Dev.Kept d0 d) (a1) :
    Dev.Kept d0 (Dev.polCommit d a1) := by
  unfold Dev.polCommit
  repeat' with_reducible first | assumption | apply Dev.Kept.ite | apply Dev.setPol_kept | (intro _)

theorem Dev.beginPass_kept (h : Dev.Kept d0 d) (a1 a2) :
    Dev.Kept d0 (Dev.beginPass d a1 a2) := by
  unfold Dev.beginPass
  repeat' with_reducible
    first
    | assumption | apply Dev.iff_kept | apply Dev.flightIn_kept | apply Dev.setSlice_kept | (intro _)

theorem Dev.grantPort_kept (h : Dev.Kept d0 d) (a1 a2) :
    Dev.Kept d0 (Dev.grantPort d a1 a2) := by
  unfold Dev.grantPort
  repeat'
    first
    | with_reducible
        first
        | assumption | apply Dev.beginPass_kept | apply Dev.fcUpdate_kept | apply Dev.setBuf_kept
    | split

theorem Dev.slotGrant_kept (h : Dev.Kept d0 d) (a1) :
    Dev.Kept d0 (Dev.slotGrant d a1) := by
  unfold Dev.slotGrant
  dsimp only
  repeat'
    first
    | with_reducible
        first
        | assumption | apply Dev.setSlice_kept | apply Dev.beginPass_kept | apply Dev.release_kept
        | apply Dev.grantPort_kept
    | split

theorem Dev.pclCnt_kept (h : Dev.Kept d0 d) (a1 a2) :
    Dev.Kept d0 (Dev.pclCnt d a1 a2) := by
  unfold Dev.pclCnt
  repeat' with_reducible first | assumption | apply Dev.bump_kept

theorem Dev.trap_kept (h : Dev.Kept d0 d) (a1 a2 a3) :
    Dev.Kept d0 (Dev.trap d a1 a2 a3) := by
  unfold Dev.trap
  repeat' with_reducible first | assumption | apply Dev.offerTrap_kept | apply Dev.pclCnt_kept

theorem Dev.recirculate_kept (h : Dev.Kept d0 d) (a1 a2) :
    Dev.Kept d0 (Dev.recirculate d a1 a2) := by
  unfold Dev.recirculate
  repeat' with_reducible
    first
    | assumption | apply Dev.Kept.ite | apply Dev.flightOut_kept | apply Dev.pclCnt_kept | apply Dev.hold_kept
    | apply Dev.setSlice_kept | (intro _)

theorem Dev.dispose_kept (h : Dev.Kept d0 d) (a1 a2) :
    Dev.Kept d0 (Dev.dispose d a1 a2) := by
  unfold Dev.dispose
  dsimp only
  repeat'
    first
    | with_reducible
        first
        | assumption | apply Dev.Kept.ite | apply Dev.flightOut_kept | apply Dev.pclCnt_kept
        | apply Dev.police_kept | apply Dev.trap_kept | apply Dev.recirculate_kept | apply Dev.iff_kept
        | apply Dev.enqueue_kept | (intro _)
    | split

theorem Dev.classify_kept (h : Dev.Kept d0 d) (a1 a2) :
    Dev.Kept d0 (Dev.classify d a1 a2) := by
  unfold Dev.classify
  dsimp only
  repeat'
    first
    | with_reducible
        first
        | assumption | apply Dev.tableHit_kept | apply Dev.flightOut_kept | apply Dev.pclCnt_kept
        | apply Dev.dispose_kept
    | split

theorem Dev.shown_kept (h : Dev.Kept d0 d) (a1) :
    Dev.Kept d0 (Dev.shown d a1).1 := by
  unfold Dev.shown
  dsimp only
  repeat'
    first
    | with_reducible
        first
        | assumption | apply Dev.freeBytes_kept | (intro _)
    | (with_reducible refine Dev.Kept.of_fst (by with_reducible assumption) ?_)
    | fail_if_no_progress (with_reducible refine .of_mk ?_ rfl rfl rfl rfl rfl)
    | fail_if_no_progress dsimp only

theorem Dev.passEnd_kept (h : Dev.Kept d0 d) (a1) :
    Dev.Kept d0 (Dev.passEnd d a1) := by
  unfold Dev.passEnd
  dsimp only
  repeat'
    first
    | with_reducible
        first
        | assumption | apply Dev.Kept.ite | apply Dev.iff_kept | apply Dev.classify_kept
        | apply Dev.flightOut_kept | apply Dev.pclCnt_kept | apply Dev.setSlice_kept | apply Dev.shown_kept
        | apply Dev.trap_kept | (intro _)
    | (with_reducible refine Dev.Kept.of_fst (by with_reducible assumption) ?_)
    | split
    | fail_if_no_progress (with_reducible refine .of_mk ?_ rfl rfl rfl rfl rfl)

theorem Dev.recircReturn_kept (h : Dev.Kept d0 d) (a1) :
    Dev.Kept d0 (Dev.recircReturn d a1) := by
  unfold Dev.recircReturn
  dsimp only
  repeat'
    first
    | with_reducible
        first
        | assumption | apply Dev.editOut_kept | apply Dev.flightOut_kept | apply Dev.setSlice_kept
        | apply Dev.release_kept
    | (with_reducible refine Dev.Kept.of_fst (by with_reducible assumption) ?_)
    | split

theorem Dev.recircTimeout_kept (h : Dev.Kept d0 d) (a1) :
    Dev.Kept d0 (Dev.recircTimeout d a1) := by
  unfold Dev.recircTimeout
  dsimp only
  repeat'
    first
    | with_reducible
        first
        | assumption | apply Dev.flightOut_kept | apply Dev.pclCnt_kept | apply Dev.release_kept
        | apply Dev.setSlice_kept
    | split

end Sys2Proof.Machine
end

