-- ==== Sys2Proof/Laws/KeptLine.lean ====
section
/-!
SUPPORT. `Dev.Kept` (Safety.lean) through the operations of Machine/Line.lean.
-/
namespace Sys2Proof.Machine

variable {d0 d : Dev}

theorem Dev.setLine_kept (h : Dev.Kept d0 d) (a1 a2) :
    Dev.Kept d0 (Dev.setLine d a1 a2) := by
  unfold Dev.setLine
  exact h.of_wf rfl rfl id id id

theorem Dev.lineCnt_kept (h : Dev.Kept d0 d) (a1 a2 a3) :
    Dev.Kept d0 (Dev.lineCnt d a1 a2 a3) := by
  unfold Dev.lineCnt
  repeat' with_reducible first | assumption | apply Dev.setLine_kept

theorem Dev.defRaise_kept (h : Dev.Kept d0 d) (a1 a2) :
    Dev.Kept d0 (Dev.defRaise d a1 a2) := by
  unfold Dev.defRaise
  repeat' with_reducible
    first
    | assumption | apply Dev.Kept.ite | apply Dev.ev_kept | apply Dev.put_kept | apply Dev.setLine_kept | (intro _)

theorem Dev.defStand_kept (h : Dev.Kept d0 d) (a1 a2) :
    Dev.Kept d0 (Dev.defStand d a1 a2) := by
  unfold Dev.defStand
  repeat'
    first
    | with_reducible
        first
        | assumption | apply Dev.put_kept | apply Dev.setLine_kept | (intro _)
    | fail_if_no_progress (with_reducible refine .of_mk ?_ rfl rfl rfl rfl rfl)

theorem Dev.defClear_kept (h : Dev.Kept d0 d) (a1 a2) :
    Dev.Kept d0 (Dev.defClear d a1 a2) := by
  unfold Dev.defClear
  repeat' with_reducible first | assumption | apply Dev.put_kept

theorem Dev.defPut_kept (h : Dev.Kept d0 d) (a1 a2 a3) :
    Dev.Kept d0 (Dev.defPut d a1 a2 a3) := by
  unfold Dev.defPut
  repeat' with_reducible
    first
    | assumption | apply Dev.Kept.ite | apply Dev.defRaise_kept | apply Dev.defClear_kept | (intro _)

theorem Dev.dsdPin_kept (h : Dev.Kept d0 d) (a1) :
    Dev.Kept d0 (Dev.dsdPin d a1) := by
  unfold Dev.dsdPin
  repeat'
    first
    | with_reducible
        first
        | assumption | apply Dev.Kept.ite | apply Dev.defStand_kept | apply Dev.unput_kept | (intro _)
    | split

theorem Dev.ffeWrite_kept (h : Dev.Kept d0 d) (a1 a2 a3) :
    Dev.Kept d0 (Dev.ffeWrite d a1 a2 a3) := by
  unfold Dev.ffeWrite
  repeat' with_reducible first | assumption | apply Dev.Kept.ite | apply Dev.put_kept | (intro _)

theorem Dev.adapted_kept (h : Dev.Kept d0 d) (a1) :
    Dev.Kept d0 (Dev.adapted d a1) := by
  unfold Dev.adapted
  repeat' with_reducible
    first
    | assumption | apply Dev.each_kept | apply Dev.freed_kept | apply Dev.put_kept | (intro _)

theorem Dev.adaptNow_kept (h : Dev.Kept d0 d) (a1) :
    Dev.Kept d0 (Dev.adaptNow d a1) := by
  unfold Dev.adaptNow
  try dsimp only
  repeat'
    first
    | with_reducible
        first
        | assumption | apply Dev.Kept.ite | apply Dev.each_kept | apply Dev.iff_kept | apply Dev.put_kept
        | apply Dev.adapted_kept | (intro _)

theorem Dev.latches_kept {α : Type} (h : Dev.Kept d0 d) (l : List α) (k v : α → Nat) :
    Dev.Kept d0 { d with latch := l.foldl (fun t i => Tbl.set t (k i) (v i)) d.latch } := by
  refine h.of_wf rfl rfl id (fun x => ?_) id
  suffices ∀ t : Tbl Nat, Tbl.wf t = true → Tbl.wf (l.foldl (fun t i => Tbl.set t (k i) (v i)) t) = true from this _ x
  intro t ht
  induction l generalizing t with
  | nil => exact ht
  | cons a r ih => exact ih _ (Tbl.wf_set _ _ ht)

theorem Dev.ffeSnapshot_kept (h : Dev.Kept d0 d) (n : Nat) : Dev.Kept d0 (d.ffeSnapshot n) :=
  Dev.latches_kept (Dev.adaptNow_kept h n) _ _ _

theorem Dev.acqDone_kept (h : Dev.Kept d0 d) (a1) :
    Dev.Kept d0 (Dev.acqDone d a1) := by
  unfold Dev.acqDone
  repeat'
    first
    | with_reducible
        first
        | assumption | apply Dev.Kept.ite | apply Dev.adaptNow_kept | apply Dev.ev_kept | (intro _)

theorem Dev.eqPreset_kept (h : Dev.Kept d0 d) (a1) :
    Dev.Kept d0 (Dev.eqPreset d a1) := by
  unfold Dev.eqPreset
  repeat' with_reducible
    first
    | assumption | apply Dev.Kept.ite | apply Dev.each_kept | apply Dev.put_kept | (intro _)

theorem Dev.abortAll_kept (h : Dev.Kept d0 d) (a1) :
    Dev.Kept d0 (Dev.abortAll d a1) := by
  unfold Dev.abortAll
  repeat' with_reducible first | assumption | apply Dev.lineCnt_kept | apply Dev.setLine_kept

theorem Dev.delinLost_kept (h : Dev.Kept d0 d) (a1) :
    Dev.Kept d0 (Dev.delinLost d a1) := by
  unfold Dev.delinLost
  repeat' with_reducible first | assumption | apply Dev.abortAll_kept | apply Dev.setLine_kept

theorem Dev.abortOne_kept (h : Dev.Kept d0 d) (a1 a2) :
    Dev.Kept d0 (Dev.abortOne d a1 a2) := by
  unfold Dev.abortOne
  repeat' with_reducible
    first
    | assumption | apply Dev.Kept.ite | apply Dev.lineCnt_kept | apply Dev.setLine_kept | (intro _)

theorem Dev.setSfc_kept (h : Dev.Kept d0 d) (a1 a2) :
    Dev.Kept d0 (Dev.setSfc d a1 a2) := by
  unfold Dev.setSfc
  repeat' with_reducible first | assumption | apply Dev.putWide_kept

theorem Dev.setCands_kept (h : Dev.Kept d0 d) (a1 a2) :
    Dev.Kept d0 (Dev.setCands d a1 a2) := by
  unfold Dev.setCands
  repeat' with_reducible first | assumption | apply Dev.put_kept | apply Dev.setLine_kept

theorem Dev.toHunt_kept (h : Dev.Kept d0 d) (a1) :
    Dev.Kept d0 (Dev.toHunt d a1) := by
  unfold Dev.toHunt
  repeat' with_reducible
    first
    | assumption | apply Dev.defClear_kept | apply Dev.put_kept | apply Dev.setCands_kept | apply Dev.defRaise_kept
    | apply Dev.delinLost_kept | apply Dev.setLine_kept

theorem Dev.trySync_kept (h : Dev.Kept d0 d) (a1) :
    Dev.Kept d0 (Dev.trySync d a1) := by
  unfold Dev.trySync
  dsimp only
  repeat'
    first
    | with_reducible
        first
        | assumption | apply Dev.put_kept | apply Dev.setCands_kept | apply Dev.setSfc_kept | apply Dev.ev_kept
        | apply Dev.defClear_kept
    | split

theorem Dev.huntMatch_kept (h : Dev.Kept d0 d) (a1 a2 a3 a4 a5) :
    Dev.Kept d0 (Dev.huntMatch d a1 a2 a3 a4 a5) := by
  unfold Dev.huntMatch
  repeat' with_reducible
    first
    | assumption | apply Dev.Kept.ite | apply Dev.lineCnt_kept | apply Dev.ev_kept | apply Dev.setCands_kept
    | (intro _)

theorem Dev.candCheck_kept (h : Dev.Kept d0 d) (a1 a2 a3 a4 a5) :
    Dev.Kept d0 (Dev.candCheck d a1 a2 a3 a4 a5) := by
  unfold Dev.candCheck
  repeat' with_reducible
    first
    | assumption | apply Dev.Kept.ite | apply Dev.trySync_kept | apply Dev.setCands_kept | (intro _)

theorem Dev.ambig_kept (h : Dev.Kept d0 d) (a1) :
    Dev.Kept d0 (Dev.ambig d a1) := by
  unfold Dev.ambig
  repeat' with_reducible first | assumption | apply Dev.Kept.ite | apply Dev.defRaise_kept | (intro _)

theorem Dev.traceRun_kept (h : Dev.Kept d0 d) (a1 a2 a3 a4) :
    Dev.Kept d0 (Dev.traceRun d a1 a2 a3 a4) := by
  unfold Dev.traceRun
  repeat' with_reducible
    first
    | assumption | apply Dev.iff_kept | apply Dev.defRaise_kept | apply Dev.defClear_kept | (intro _)

theorem Dev.ponidRx_kept (h : Dev.Kept d0 d) (a1 a2) :
    Dev.Kept d0 (Dev.ponidRx d a1 a2) := by
  unfold Dev.ponidRx
  repeat' with_reducible
    first
    | assumption | apply Dev.Kept.ite | apply Dev.putWide_kept | apply Dev.traceRun_kept | apply Dev.setLine_kept
    | apply Dev.lineCnt_kept | (intro _)

theorem Dev.cprofRx_kept (h : Dev.Kept d0 d) (a1 a2) :
    Dev.Kept d0 (Dev.cprofRx d a1 a2) := by
  unfold Dev.cprofRx
  repeat' with_reducible
    first
    | assumption | apply Dev.Kept.ite | apply Dev.put_kept | apply Dev.traceRun_kept | apply Dev.setLine_kept
    | apply Dev.lineCnt_kept | (intro _)

theorem Dev.traceOff_kept (h : Dev.Kept d0 d) (a1) :
    Dev.Kept d0 (Dev.traceOff d a1) := by
  unfold Dev.traceOff
  repeat' with_reducible
    first
    | assumption | apply Dev.iff_kept | apply Dev.defClear_kept | apply Dev.setLine_kept | (intro _)

theorem Dev.adopt_kept (h : Dev.Kept d0 d) (a1 a2 a3) :
    Dev.Kept d0 (Dev.adopt d a1 a2 a3) := by
  unfold Dev.adopt
  repeat' with_reducible
    first
    | assumption | apply Dev.Kept.ite | apply Dev.setSfc_kept | apply Dev.lineCnt_kept | apply Dev.setLine_kept
    | apply Dev.ev_kept | (intro _)

theorem Dev.reasmFrame_kept (h : Dev.Kept d0 d) (a1) :
    Dev.Kept d0 (Dev.reasmFrame d a1) := by
  unfold Dev.reasmFrame
  repeat' with_reducible first | assumption | apply Dev.lineCnt_kept | apply Dev.setLine_kept

theorem Dev.framePsync_kept (h : Dev.Kept d0 d) (a1 a2 a3 a4 a5) :
    Dev.Kept d0 (Dev.framePsync d a1 a2 a3 a4 a5) := by
  unfold Dev.framePsync
  dsimp only
  repeat'
    first
    | with_reducible
        first
        | assumption | apply Dev.put_kept | apply Dev.iff_kept | apply Dev.lineCnt_kept | apply Dev.ev_kept
        | apply Dev.toHunt_kept | apply Dev.reasmFrame_kept | apply Dev.adopt_kept | apply Dev.ponidRx_kept
        | (intro _)
    | split

theorem Dev.rxEnable_kept (h : Dev.Kept d0 d) (a1 a2) :
    Dev.Kept d0 (Dev.rxEnable d a1 a2) := by
  unfold Dev.rxEnable
  dsimp only
  repeat'
    first
    | with_reducible
        first
        | assumption | apply Dev.Kept.ite | apply Dev.each_kept | apply Dev.iff_kept | apply Dev.put_kept
        | apply Dev.adaptNow_kept | apply Dev.defClear_kept | apply Dev.defStand_kept
        | apply Dev.delinLost_kept | apply Dev.setCands_kept | apply Dev.setLine_kept | (intro _)
    | (with_reducible refine Dev.Kept.of_fst (by with_reducible assumption) ?_)
    | split
    | fail_if_no_progress (with_reducible refine .of_mk ?_ rfl rfl rfl rfl rfl)

theorem Dev.codeword_kept (h : Dev.Kept d0 d) (a1 a2) :
    Dev.Kept d0 (Dev.codeword d a1 a2) := by
  unfold Dev.codeword
  repeat'
    first
    | with_reducible
        first
        | assumption | apply Dev.lineCnt_kept | apply Dev.iff_kept | apply Dev.setLine_kept
        | apply Dev.defRaise_kept | apply Dev.defClear_kept | (intro _)
    | split

theorem Dev.xportWrite_kept (h : Dev.Kept d0 d) (a1 a2 a3) :
    Dev.Kept d0 (Dev.xportWrite d a1 a2 a3) := by
  unfold Dev.xportWrite
  dsimp only
  repeat'
    first
    | with_reducible
        first
        | assumption | apply Dev.Kept.ite | apply Dev.iff_kept | apply Dev.put_kept | apply Dev.ev_kept
        | apply Dev.setLine_kept | (intro _)

theorem Dev.deliverSdu_kept (h : Dev.Kept d0 d) (a1 a2 a3 a4 a5 a6 a7 a8 a9) :
    Dev.Kept d0 (Dev.deliverSdu d a1 a2 a3 a4 a5 a6 a7 a8 a9) := by
  unfold Dev.deliverSdu
  dsimp only
  repeat'
    first
    | with_reducible
        first
        | assumption | apply Dev.lineCnt_kept | apply Dev.bump_kept | apply Dev.lineDecrypt_kept
        | apply Dev.setLine_kept | apply Dev.arrive_kept
    | (with_reducible refine Dev.Kept.of_fst (by with_reducible assumption) ?_)
    | split

theorem Dev.fragment_kept (h : Dev.Kept d0 d) (a1 a2 a3 a4) :
    Dev.Kept d0 (Dev.fragment d a1 a2 a3 a4) := by
  unfold Dev.fragment
  dsimp only
  repeat'
    first
    | with_reducible
        first
        | assumption | apply Dev.iff_kept | apply Dev.setLine_kept | apply Dev.abortOne_kept
        | apply Dev.lineCnt_kept | apply Dev.deliverSdu_kept | (intro _)
    | split

theorem Dev.xgemHeader_kept (h : Dev.Kept d0 d) (a1 a2 a3) :
    Dev.Kept d0 (Dev.xgemHeader d a1 a2 a3) := by
  unfold Dev.xgemHeader
  dsimp only
  repeat'
    first
    | with_reducible
        first
        | assumption | apply Dev.delinLost_kept | apply Dev.lineCnt_kept | apply Dev.iff_kept
        | apply Dev.fragment_kept | apply Dev.ev_kept | (intro _)
    | split

theorem Dev.fsStart_kept (h : Dev.Kept d0 d) (a1) :
    Dev.Kept d0 (Dev.fsStart d a1) := by
  unfold Dev.fsStart
  repeat' with_reducible first | assumption | apply Dev.Kept.ite | apply Dev.setLine_kept | (intro _)

theorem Dev.berEval_kept (h : Dev.Kept d0 d) (a1 a2 a3 a4) :
    Dev.Kept d0 (Dev.berEval d a1 a2 a3 a4).1 := by
  unfold Dev.berEval
  repeat'
    first
    | with_reducible
        first
        | assumption | apply Dev.defRaise_kept | apply Dev.iff_kept | apply Dev.defClear_kept | (intro _)
    | split

theorem Dev.pmLatch_kept (h : Dev.Kept d0 d) (a1 a2) :
    Dev.Kept d0 (Dev.pmLatch d a1 a2) := by
  unfold Dev.pmLatch
  repeat'
    first
    | with_reducible
        first
        | assumption | apply Dev.each_kept | apply Dev.putWide_kept | apply Dev.put_kept | apply Dev.ev_kept
        | apply Dev.incr_kept | apply Dev.berEval_kept | apply Dev.setLine_kept | apply Dev.iff_kept | (intro _)
    | split

theorem Dev.pmLatchAll_kept (h : Dev.Kept d0 d) (a1) :
    Dev.Kept d0 (Dev.pmLatchAll d a1) := by
  unfold Dev.pmLatchAll
  repeat' with_reducible first | assumption | apply Dev.each_kept | apply Dev.pmLatch_kept | (intro _)

theorem Dev.pmSelect_kept (h : Dev.Kept d0 d) (a1 a2 a3) :
    Dev.Kept d0 (Dev.pmSelect d a1 a2 a3) := by
  unfold Dev.pmSelect
  repeat' with_reducible
    first
    | assumption | apply Dev.put_kept | apply Dev.each_kept | apply Dev.putWide_kept | (intro _)

theorem Dev.stepAndLatch_kept (h : Dev.Kept d0 d) (a1) :
    Dev.Kept d0 (Dev.stepAndLatch d a1) := by
  unfold Dev.stepAndLatch
  repeat' with_reducible first | assumption | apply Dev.pmLatchAll_kept | apply Dev.stepTake_kept

end Sys2Proof.Machine
end

