-- ==== Sys2Proof/Laws/KeptBond.lean ====
section
/-!
SUPPORT. `Dev.Kept` (Safety.lean) through the operations of Machine/Bond.lean.
-/
namespace Sys2Proof.Machine

variable {d0 d : Dev}

theorem Dev.setGroup_kept (h : Dev.Kept d0 d) (a1 a2) :
    Dev.Kept d0 (Dev.setGroup d a1 a2) := by
  unfold Dev.setGroup
  exact h.of_wf rfl rfl id id id

theorem Dev.setCoach_kept (h : Dev.Kept d0 d) (a1 a2) :
    Dev.Kept d0 (Dev.setCoach d a1 a2) := by
  unfold Dev.setCoach
  exact h.of_wf rfl rfl id id id

theorem Dev.bondCnt_kept (h : Dev.Kept d0 d) (a1 a2) :
    Dev.Kept d0 (Dev.bondCnt d a1 a2) := by
  unfold Dev.bondCnt
  repeat' with_reducible first | assumption | apply Dev.bumpBy_kept

theorem Dev.setExp_kept (h : Dev.Kept d0 d) (a1 a2) :
    Dev.Kept d0 (Dev.setExp d a1 a2) := by
  unfold Dev.setExp
  repeat' with_reducible first | assumption | apply Dev.put_kept | apply Dev.setGroup_kept

theorem Dev.poolFree_kept (h : Dev.Kept d0 d) (a1) :
    Dev.Kept d0 (Dev.poolFree d a1) := by
  unfold Dev.poolFree
  repeat'
    first
    | with_reducible
        first
        | assumption | apply Dev.put_kept
    | fail_if_no_progress (with_reducible refine .of_mk ?_ rfl rfl rfl rfl rfl)

theorem Dev.bondRelease_kept (h : Dev.Kept d0 d) (a1 a2) :
    Dev.Kept d0 (Dev.bondRelease d a1 a2) := by
  unfold Dev.bondRelease
  repeat' with_reducible first | assumption | apply Dev.arrive_kept | apply Dev.bondCnt_kept

theorem Dev.releaseHeld_kept (h : Dev.Kept d0 d) (a1 a2) :
    Dev.Kept d0 (Dev.releaseHeld d a1 a2) := by
  unfold Dev.releaseHeld
  repeat' with_reducible
    first
    | assumption | apply Dev.put_kept | apply Dev.poolFree_kept | apply Dev.bondRelease_kept
    | apply Dev.setGroup_kept

theorem Dev.declareTo.go_kept (h : Dev.Kept d0 d) (a1 a2 a3 a4) :
    Dev.Kept d0 (Dev.declareTo.go a1 a2 a3 a4 d) := by
  induction a4 generalizing d a1 a2 a3 with
  | zero =>
    unfold Dev.declareTo.go
    repeat' with_reducible first | assumption
  | succ m ih =>
    unfold Dev.declareTo.go
    repeat'
      first
      | with_reducible
          first
          | assumption | apply ih | apply Dev.releaseHeld_kept
      | split

theorem Dev.declareTo_kept (h : Dev.Kept d0 d) (a1 a2) :
    Dev.Kept d0 (Dev.declareTo d a1 a2) := by
  unfold Dev.declareTo
  repeat'
    first
    | with_reducible
        first
        | assumption | apply Dev.setExp_kept | apply Dev.bondCnt_kept | apply Dev.declareTo.go_kept
    | split

theorem Dev.bondRun_kept (h : Dev.Kept d0 d) (a1 a2) :
    Dev.Kept d0 (Dev.bondRun d a1 a2) := by
  induction a2 generalizing d  with
  | zero =>
    unfold Dev.bondRun
    try dsimp only
    repeat' with_reducible first | assumption
  | succ m ih =>
    unfold Dev.bondRun
    try dsimp only
    repeat'
      first
      | with_reducible
          first
          | assumption | apply ih | apply Dev.setExp_kept | apply Dev.releaseHeld_kept | apply Dev.bondCnt_kept
      | split

theorem Dev.bondGo_kept (h : Dev.Kept d0 d) (a1) :
    Dev.Kept d0 (Dev.bondGo d a1) := by
  unfold Dev.bondGo
  repeat' with_reducible first | assumption | apply Dev.bondRun_kept

theorem Dev.releaseAll_kept (h : Dev.Kept d0 d) (a1) :
    Dev.Kept d0 (Dev.releaseAll d a1) := by
  unfold Dev.releaseAll
  repeat'
    first
    | with_reducible
        first
        | assumption | apply Dev.declareTo_kept
    | split

theorem Dev.loseBefore.cont_kept (h : Dev.Kept d0 d) (a1 a2) :
    Dev.Kept d0 (Dev.loseBefore.cont a1 a2 d) := by
  induction a2 generalizing d  with
  | zero =>
    unfold Dev.loseBefore.cont
    repeat' with_reducible first | assumption
  | succ m ih =>
    unfold Dev.loseBefore.cont
    repeat'
      first
      | with_reducible
          first
          | assumption | apply ih | apply Dev.setExp_kept | apply Dev.releaseHeld_kept
      | split

theorem Dev.loseBefore_kept (h : Dev.Kept d0 d) (a1 a2) :
    Dev.Kept d0 (Dev.loseBefore d a1 a2) := by
  unfold Dev.loseBefore
  dsimp only
  repeat'
    first
    | with_reducible
        first
        | assumption | apply Dev.declareTo_kept | apply Dev.setExp_kept | apply Dev.releaseHeld_kept
        | apply Dev.bondGo_kept | apply Dev.loseBefore.cont_kept
    | split

theorem Dev.poolFlush_kept (h : Dev.Kept d0 d) (a1 a2) :
    Dev.Kept d0 (Dev.poolFlush d a1 a2) := by
  induction a2 generalizing d  with
  | zero =>
    unfold Dev.poolFlush
    repeat' with_reducible first | assumption
  | succ m ih =>
    unfold Dev.poolFlush
    repeat'
      first
      | with_reducible
          first
          | assumption | apply ih | apply Dev.loseBefore_kept | apply Dev.bondCnt_kept
      | split

theorem Dev.bondTake_kept (h : Dev.Kept d0 d) (a1 a2 a3) :
    Dev.Kept d0 (Dev.bondTake d a1 a2 a3) := by
  unfold Dev.bondTake
  repeat' with_reducible
    first
    | assumption | apply Dev.bondRelease_kept | apply Dev.bondGo_kept | apply Dev.setExp_kept

theorem Dev.bondKeep_kept (h : Dev.Kept d0 d) (a1 a2 a3) :
    Dev.Kept d0 (Dev.bondKeep d a1 a2 a3) := by
  unfold Dev.bondKeep
  try dsimp only
  repeat'
    first
    | with_reducible
        first
        | assumption | apply Dev.Kept.ite | apply Dev.each_kept | apply Dev.iff_kept | apply Dev.put_kept
        | apply Dev.setGroup_kept | (intro _)
    | (with_reducible refine Dev.Kept.of_fst (by with_reducible assumption) ?_)
    | split
    | fail_if_no_progress (with_reducible refine .of_mk ?_ rfl rfl rfl rfl rfl)

theorem Dev.bondHold_kept (h : Dev.Kept d0 d) (a1 a2 a3) :
    Dev.Kept d0 (Dev.bondHold d a1 a2 a3).1 := by
  unfold Dev.bondHold
  dsimp only
  repeat'
    first
    | with_reducible
        first
        | assumption | apply Dev.Kept.ite | apply Dev.bondCnt_kept | apply Dev.bondKeep_kept
        | apply Dev.bondTake_kept | apply Dev.poolFlush_kept | (intro _)
    | (with_reducible refine Dev.Kept.of_fst (by with_reducible assumption) ?_)
    | split

theorem Dev.setHigh_kept (h : Dev.Kept d0 d) (a1 a2 a3) :
    Dev.Kept d0 (Dev.setHigh d a1 a2 a3) := by
  unfold Dev.setHigh
  repeat' with_reducible first | assumption | apply Dev.setGroup_kept

theorem Dev.bondStart_kept (h : Dev.Kept d0 d) (a1 a2 a3) :
    Dev.Kept d0 (Dev.bondStart d a1 a2 a3) := by
  unfold Dev.bondStart
  dsimp only
  repeat'
    first
    | with_reducible
        first
        | assumption | apply Dev.Kept.ite | apply Dev.each_kept | apply Dev.bondCnt_kept
        | apply Dev.bondHold_kept | apply Dev.poolFree_kept | apply Dev.setExp_kept
        | apply Dev.setGroup_kept | (intro _)
    | (with_reducible refine Dev.Kept.of_fst (by with_reducible assumption) ?_)
    | split

theorem Dev.bondData_kept (h : Dev.Kept d0 d) (a1 a2 a3) :
    Dev.Kept d0 (Dev.bondData d a1 a2 a3) := by
  unfold Dev.bondData
  dsimp only
  repeat'
    first
    | with_reducible
        first
        | assumption | apply Dev.Kept.ite | apply Dev.bondCnt_kept | apply Dev.bondGo_kept
        | apply Dev.bondHold_kept | apply Dev.bondTake_kept | apply Dev.releaseAll_kept
        | apply Dev.setExp_kept | apply Dev.setGroup_kept | (intro _)
    | (with_reducible refine Dev.Kept.of_fst (by with_reducible assumption) ?_)
    | split

theorem Dev.bondUnit_kept (h : Dev.Kept d0 d) (a1 a2) :
    Dev.Kept d0 (Dev.bondUnit d a1 a2) := by
  unfold Dev.bondUnit
  repeat'
    first
    | with_reducible
        first
        | assumption | apply Dev.bondCnt_kept | apply Dev.bondGo_kept | apply Dev.setHigh_kept
        | apply Dev.bondStart_kept | apply Dev.bondData_kept
    | split

theorem Dev.bondRx_kept (h : Dev.Kept d0 d) (a1) :
    Dev.Kept d0 (Dev.bondRx d a1) := by
  unfold Dev.bondRx
  dsimp only
  repeat'
    first
    | with_reducible
        first
        | assumption | apply Dev.setLine_kept | apply Dev.bondUnit_kept | apply Dev.bondCnt_kept
    | split

theorem Dev.bondEnable_kept (h : Dev.Kept d0 d) (a1) :
    Dev.Kept d0 (Dev.bondEnable d a1) := by
  unfold Dev.bondEnable
  repeat' with_reducible first | assumption | apply Dev.put_kept | apply Dev.setGroup_kept

theorem Dev.bondDisable_kept (h : Dev.Kept d0 d) (a1) :
    Dev.Kept d0 (Dev.bondDisable d a1) := by
  unfold Dev.bondDisable
  repeat' with_reducible
    first
    | assumption | apply Dev.releaseAll_kept | apply Dev.put_kept | apply Dev.setGroup_kept

theorem Dev.bondCfg_kept (h : Dev.Kept d0 d) (a1 a2) :
    Dev.Kept d0 (Dev.bondCfg d a1 a2) := by
  unfold Dev.bondCfg
  repeat' with_reducible
    first
    | assumption | apply Dev.Kept.ite | apply Dev.bondDisable_kept | apply Dev.put_kept | apply Dev.bondEnable_kept
    | (intro _)

theorem Dev.bondStartTimer_kept (h : Dev.Kept d0 d) (a1) :
    Dev.Kept d0 (Dev.bondStartTimer d a1) := by
  unfold Dev.bondStartTimer
  repeat' with_reducible
    first
    | assumption | apply Dev.Kept.ite | apply Dev.bondGo_kept | apply Dev.put_kept | apply Dev.setGroup_kept
    | (intro _)

theorem Dev.bondWindow_kept (h : Dev.Kept d0 d) (a1) :
    Dev.Kept d0 (Dev.bondWindow d a1) := by
  unfold Dev.bondWindow
  repeat'
    first
    | with_reducible
        first
        | assumption | apply Dev.loseBefore_kept | apply Dev.bondCnt_kept
    | split

theorem Dev.bondSyncLost_kept (h : Dev.Kept d0 d) (a1) :
    Dev.Kept d0 (Dev.bondSyncLost d a1) := by
  unfold Dev.bondSyncLost
  repeat' with_reducible
    first
    | assumption | apply Dev.each_kept | apply Dev.bondGo_kept | apply Dev.setGroup_kept | (intro _)

theorem Dev.bondClose_kept (h : Dev.Kept d0 d) :
    Dev.Kept d0 (Dev.bondClose d) := by
  unfold Dev.bondClose
  repeat'
    first
    | with_reducible
        first
        | assumption | apply Dev.each_kept | apply Dev.put_kept | apply Dev.bondDisable_kept | (intro _)
    | fail_if_no_progress (with_reducible refine .of_mk ?_ rfl rfl rfl rfl rfl)

end Sys2Proof.Machine
end

