-- ==== Sys2Proof/Laws/KeptHost.lean ====
section
/-!
SUPPORT. `Dev.Kept` (Safety.lean) through the operations of Machine/Host.lean.
-/
namespace Sys2Proof.Machine

variable {d0 d : Dev}

theorem Dev.setRing_kept (h : Dev.Kept d0 d) (a1 a2) :
    Dev.Kept d0 (Dev.setRing d a1 a2) := by
  unfold Dev.setRing
  exact h.of_wf rfl rfl id id id

theorem Dev.setDom_kept (h : Dev.Kept d0 d) (a1 a2) :
    Dev.Kept d0 (Dev.setDom d a1 a2) := by
  unfold Dev.setDom
  exact h.of_wf rfl rfl id id id

theorem Dev.readDescs_kept (h : Dev.Kept d0 d) (a1 a2 a3) :
    Dev.Kept d0 (Dev.readDescs d a1 a2 a3) := by
  unfold Dev.readDescs
  try dsimp only
  repeat'
    first
    | with_reducible
        first
        | assumption | apply Dev.Kept.ite | apply Dev.each_kept | apply Dev.iff_kept | apply Dev.put_kept
        | apply Dev.emit_kept | (intro _)

theorem Dev.moveIdx_kept (h : Dev.Kept d0 d) (a1 a2) :
    Dev.Kept d0 (Dev.moveIdx d a1 a2) := by
  unfold Dev.moveIdx
  repeat' with_reducible
    first
    | assumption | apply Dev.Kept.ite | apply Dev.put_kept | apply Dev.setDom_kept | (intro _)

theorem Dev.sendVec_kept (h : Dev.Kept d0 d) (a1 a2) :
    Dev.Kept d0 (Dev.sendVec d a1 a2) := by
  unfold Dev.sendVec
  repeat'
    first
    | with_reducible
        first
        | assumption | apply Dev.emit_kept
    | split
    | fail_if_no_progress (with_reducible refine .of_mk ?_ rfl rfl rfl rfl rfl)

theorem Dev.flushPend_kept (h : Dev.Kept d0 d) :
    Dev.Kept d0 (Dev.flushPend d) := by
  unfold Dev.flushPend
  repeat'
    first
    | with_reducible
        first
        | assumption | apply Dev.each_kept | apply Dev.sendVec_kept | (intro _)
    | split
    | fail_if_no_progress (with_reducible refine .of_mk ?_ rfl rfl rfl rfl rfl)

theorem Dev.reserve_kept (h : Dev.Kept d0 d) (a1 a2) :
    Dev.Kept d0 (Dev.reserve d a1 a2) := by
  unfold Dev.reserve
  repeat' with_reducible first | assumption | apply Dev.setRing_kept

theorem Dev.unreserve_kept (h : Dev.Kept d0 d) (a1 a2) :
    Dev.Kept d0 (Dev.unreserve d a1 a2) := by
  unfold Dev.unreserve
  repeat' with_reducible first | assumption | apply Dev.setRing_kept

theorem Dev.recordsOut_kept (h : Dev.Kept d0 d) (a1 a2) :
    Dev.Kept d0 (Dev.recordsOut d a1 a2) := by
  induction a2 generalizing d with
  | zero => exact h
  | succ n ih =>
    unfold Dev.recordsOut
    dsimp only
    repeat'
      first
      | with_reducible
          first
          | assumption | apply ih | apply Dev.moveIdx_kept | apply Dev.emit_kept | apply Dev.setRing_kept
      | split

theorem Dev.flushRecords_kept (h : Dev.Kept d0 d) (a1) :
    Dev.Kept d0 (Dev.flushRecords d a1) := by
  unfold Dev.flushRecords
  repeat'
    first
    | with_reducible
        first
        | assumption | apply Dev.hold_kept | apply Dev.recordsOut_kept

theorem Dev.record_kept (h : Dev.Kept d0 d) (a1 a2) :
    Dev.Kept d0 (Dev.record d a1 a2) := by
  unfold Dev.record
  repeat'
    first
    | with_reducible
        first
        | assumption | apply Dev.flushRecords_kept | apply Dev.hold_kept | apply Dev.setRing_kept

theorem Dev.fetchDrop_kept (h : Dev.Kept d0 d) (a1) :
    Dev.Kept d0 (Dev.fetchDrop d a1) := by
  unfold Dev.fetchDrop
  dsimp only
  repeat'
    first
    | with_reducible
        first
        | assumption | apply Dev.setRing_kept | apply Dev.unreserve_kept | (intro _)
    | (with_reducible refine Dev.Kept.of_fst (by with_reducible assumption) ?_)
    | split

theorem Dev.haltRecs_kept (h : Dev.Kept d0 d) (a1 a2) :
    Dev.Kept d0 (Dev.haltRecs d a1 a2) := by
  induction a2 generalizing d  with
  | zero =>
    unfold Dev.haltRecs
    repeat' with_reducible first | assumption
  | succ m ih =>
    unfold Dev.haltRecs
    repeat'
      first
      | with_reducible
          first
          | assumption | apply ih | apply Dev.reserve_kept | apply Dev.setRing_kept | apply Dev.record_kept
      | split

theorem Dev.haltRing_kept (h : Dev.Kept d0 d) (a1 a2 a3) :
    Dev.Kept d0 (Dev.haltRing d a1 a2 a3) := by
  unfold Dev.haltRing
  dsimp only
  repeat'
    first
    | with_reducible
        first
        | assumption | apply Dev.Kept.ite | apply Dev.put_kept | apply Dev.ev_kept | apply Dev.fetchDrop_kept
        | apply Dev.haltRecs_kept | apply Dev.setRing_kept | (intro _)

theorem Dev.txfTry_kept (h : Dev.Kept d0 d) (k r : Nat) (mem : List Desc) :
    ∀ d', Dev.txfTry d k r mem = some d' → Dev.Kept d0 d' := by
  intro d' e
  unfold Dev.txfTry at e
  dsimp only at e
  split at e
  · cases e
  · cases e; exact Dev.haltRing_kept (Dev.readDescs_kept h _ _ _) _ _ _
  · split at e
    · cases e
      exact Dev.iff_kept (Dev.setRing_kept (Dev.readDescs_kept h _ _ _) _ _) _ (fun _ hx => Dev.reserve_kept hx _ _)
    · cases e

theorem Dev.txfServe_kept (h : Dev.Kept d0 d) (a1 a2 a3) :
    Dev.Kept d0 (Dev.txfServe d a1 a2 a3) := by
  induction a3 generalizing d  with
  | nil =>
    unfold Dev.txfServe
    repeat' with_reducible first | assumption
  | cons e r ih =>
    unfold Dev.txfServe
    repeat'
      first
      | with_reducible
          first
          | assumption | apply ih
      | (with_reducible refine Dev.txfTry_kept ?_ _ _ _ _ (by with_reducible assumption))
      | split
      | fail_if_no_progress (with_reducible refine .of_mk ?_ rfl rfl rfl rfl rfl)

theorem Dev.txfFetch_kept (h : Dev.Kept d0 d) (a1 a2) :
    Dev.Kept d0 (Dev.txfFetch d a1 a2) := by
  unfold Dev.txfFetch
  repeat' with_reducible first | assumption | apply Dev.Kept.ite | apply Dev.txfServe_kept | (intro _)

theorem Dev.txDone_kept (h : Dev.Kept d0 d) (a1 a2 a3) :
    Dev.Kept d0 (Dev.txDone d a1 a2 a3) := by
  unfold Dev.txDone
  repeat'
    first
    | with_reducible
        first
        | assumption | apply Dev.record_kept | apply Dev.iff_kept | apply Dev.bump_kept | (intro _)
    | split

theorem Dev.txfDone_kept (h : Dev.Kept d0 d) (a1 a2) :
    Dev.Kept d0 (Dev.txfDone d a1 a2) := by
  unfold Dev.txfDone
  repeat'
    first
    | with_reducible
        first
        | assumption | apply Dev.moveIdx_kept | apply Dev.setRing_kept | apply Dev.txDone_kept
        | apply Dev.bump_kept | apply Dev.arrive_kept
    | split
    | fail_if_no_progress (with_reducible refine .of_mk ?_ rfl rfl rfl rfl rfl)

theorem Dev.stamped_kept (h : Dev.Kept d0 d) (a1 a2) :
    Dev.Kept d0 (Dev.stamped d a1 a2) := by
  unfold Dev.stamped
  repeat'
    first
    | with_reducible
        first
        | assumption | apply Dev.txDone_kept
    | split
    | fail_if_no_progress (with_reducible refine .of_mk ?_ rfl rfl rfl rfl rfl)

theorem Dev.unstamped_kept (h : Dev.Kept d0 d) (a1) :
    Dev.Kept d0 (Dev.unstamped d a1) := by
  unfold Dev.unstamped
  repeat'
    first
    | with_reducible
        first
        | assumption | apply Dev.each_kept | apply Dev.unreserve_kept | apply Dev.txDone_kept | (intro _)
    | fail_if_no_progress (with_reducible refine .of_mk ?_ rfl rfl rfl rfl rfl)

theorem Dev.rxNext_kept (h : Dev.Kept d0 d) (a1) :
    Dev.Kept d0 (Dev.rxNext d a1) := by
  unfold Dev.rxNext
  dsimp only
  repeat'
    first
    | with_reducible
        first
        | assumption | apply Dev.setRing_kept | apply Dev.unreserve_kept | apply Dev.release_kept
    | split

theorem Dev.rxDrop_kept (h : Dev.Kept d0 d) (a1) :
    Dev.Kept d0 (Dev.rxDrop d a1) := by
  unfold Dev.rxDrop
  dsimp only
  repeat'
    first
    | with_reducible
        first
        | assumption | apply Dev.record_kept | apply Dev.bumpBy_kept | apply Dev.moveIdx_kept
        | apply Dev.rxNext_kept | apply Dev.setRing_kept
    | split

theorem Dev.rxStep_kept (h : Dev.Kept d0 d) (a1) :
    Dev.Kept d0 (Dev.rxStep d a1).1 := by
  unfold Dev.rxStep
  dsimp only
  repeat'
    first
    | with_reducible
        first
        | assumption | apply Dev.rxDrop_kept | apply Dev.reserve_kept | apply Dev.setRing_kept
        | apply Dev.record_kept | apply Dev.iff_kept | apply Dev.bump_kept | apply Dev.moveIdx_kept
        | apply Dev.rxNext_kept | apply Dev.haltRing_kept | apply Dev.emit_kept | (intro _)
    | split

theorem Dev.rxWork_kept (h : Dev.Kept d0 d) (a1 a2) :
    Dev.Kept d0 (Dev.rxWork d a1 a2) := by
  induction a2 generalizing d  with
  | zero =>
    unfold Dev.rxWork
    repeat' with_reducible first | assumption
  | succ m ih =>
    unfold Dev.rxWork
    repeat'
      first
      | with_reducible
          first
          | assumption | apply ih | apply Dev.rxStep_kept
      | (with_reducible refine Dev.Kept.of_fst (by with_reducible assumption) ?_)
      | split

theorem Dev.rxRun_kept (h : Dev.Kept d0 d) (a1) :
    Dev.Kept d0 (Dev.rxRun d a1) := by
  unfold Dev.rxRun
  repeat' with_reducible first | assumption | apply Dev.rxWork_kept

theorem Dev.deliver_kept (h : Dev.Kept d0 d) (a1 a2) :
    Dev.Kept d0 (Dev.deliver d a1 a2) := by
  unfold Dev.deliver
  repeat' with_reducible
    first
    | assumption | apply Dev.Kept.ite | apply Dev.rxRun_kept | apply Dev.setRing_kept | apply Dev.bump_kept
    | apply Dev.release_kept | (intro _)

theorem Dev.hostPump_kept (h : Dev.Kept d0 d) (a1 a2) :
    Dev.Kept d0 (Dev.hostPump d a1 a2) := by
  induction a2 generalizing d  with
  | zero =>
    unfold Dev.hostPump
    repeat' with_reducible first | assumption
  | succ m ih =>
    unfold Dev.hostPump
    repeat'
      first
      | with_reducible
          first
          | assumption | apply ih | apply Dev.take_kept | apply Dev.editOut_kept | apply Dev.release_kept
          | apply Dev.deliver_kept
      | (with_reducible refine Dev.Kept.of_fst (by with_reducible assumption) ?_)
      | split

theorem Dev.hostPorts_kept (h : Dev.Kept d0 d) :
    Dev.Kept d0 (Dev.hostPorts d) := by
  unfold Dev.hostPorts
  repeat' with_reducible
    first
    | assumption | apply Dev.Kept.ite | apply Dev.each_kept | apply Dev.hostPump_kept | (intro _)

theorem Dev.flushHost_kept (h : Dev.Kept d0 d) :
    Dev.Kept d0 (Dev.flushHost d) := by
  unfold Dev.flushHost
  repeat'
    first
    | with_reducible
        first
        | assumption | apply Dev.each_kept | apply Dev.flushRecords_kept | apply Dev.haltRecs_kept
        | apply Dev.rxRun_kept | (intro _)

theorem Dev.starve_kept (h : Dev.Kept d0 d) (a1) :
    Dev.Kept d0 (Dev.starve d a1) := by
  unfold Dev.starve
  repeat' with_reducible
    first
    | assumption | apply Dev.Kept.ite | apply Dev.hostPorts_kept | apply Dev.rxRun_kept | apply Dev.bump_kept
    | apply Dev.rxDrop_kept | (intro _)

theorem Dev.rxWake_kept (h : Dev.Kept d0 d) (a1) :
    Dev.Kept d0 (Dev.rxWake d a1) := by
  unfold Dev.rxWake
  repeat' with_reducible first | assumption | apply Dev.each_kept | apply Dev.rxRun_kept | (intro _)

theorem Dev.doorbell_kept (h : Dev.Kept d0 d) (a1 a2 a3) :
    Dev.Kept d0 (Dev.doorbell d a1 a2 a3) := by
  unfold Dev.doorbell
  dsimp only
  repeat'
    first
    | with_reducible
        first
        | assumption | apply Dev.Kept.ite | apply Dev.flushRecords_kept | apply Dev.freed_kept
        | apply Dev.haltRecs_kept | apply Dev.haltRing_kept | apply Dev.hostPorts_kept
        | apply Dev.readDescs_kept | apply Dev.rxRun_kept | apply Dev.rxWake_kept | apply Dev.setRing_kept | (intro _)

theorem Dev.doorbellLine_kept (h : Dev.Kept d0 d) (a1 a2 a3) :
    Dev.Kept d0 (Dev.doorbellLine d a1 a2 a3).1 := by
  unfold Dev.doorbellLine
  dsimp only
  repeat'
    first
    | with_reducible
        first
        | assumption | apply Dev.doorbell_kept | apply Dev.foldl_fst_kept | (intro _)
    | split

theorem Dev.pollIssue_kept (h : Dev.Kept d0 d) (a1) :
    Dev.Kept d0 (Dev.pollIssue d a1) := by
  unfold Dev.pollIssue
  repeat' with_reducible
    first
    | assumption | apply Dev.Kept.ite | apply Dev.setDom_kept | apply Dev.emit_kept | (intro _)

theorem Dev.pollDone_kept (h : Dev.Kept d0 d) (a1 a2 a3 a4) :
    Dev.Kept d0 (Dev.pollDone d a1 a2 a3 a4) := by
  unfold Dev.pollDone
  repeat' with_reducible
    first
    | assumption | apply Dev.Kept.ite | apply Dev.put_kept | apply Dev.setDom_kept | apply Dev.doorbellLine_kept
    | apply Dev.iff_kept | apply Dev.clr_kept | apply Dev.pollIssue_kept | (intro _)

theorem Dev.statusLine_kept (h : Dev.Kept d0 d) (a1) :
    Dev.Kept d0 (Dev.statusLine d a1) := by
  unfold Dev.statusLine
  repeat' with_reducible
    first
    | assumption | apply Dev.Kept.ite | apply Dev.clr_kept | apply Dev.emit_kept | apply Dev.setDom_kept
    | apply Dev.each_kept | apply Dev.sendVec_kept | apply Dev.setRing_kept | (intro _)

theorem Dev.modTimer_kept (h : Dev.Kept d0 d) (a1) :
    Dev.Kept d0 (Dev.modTimer d a1) := by
  unfold Dev.modTimer
  repeat' with_reducible
    first
    | assumption | apply Dev.Kept.ite | apply Dev.setRing_kept | apply Dev.sendVec_kept | (intro _)

theorem Dev.ringEnable_kept (h : Dev.Kept d0 d) (a1 a2 a3) :
    Dev.Kept d0 (Dev.ringEnable d a1 a2 a3) := by
  unfold Dev.ringEnable
  repeat' with_reducible
    first
    | assumption | apply Dev.Kept.ite | apply Dev.clr_kept | apply Dev.put_kept | apply Dev.ev_kept
    | apply Dev.doorbell_kept | apply Dev.setRing_kept | (intro _)

theorem Dev.ringDisable_kept (h : Dev.Kept d0 d) (a1) :
    Dev.Kept d0 (Dev.ringDisable d a1) := by
  unfold Dev.ringDisable
  repeat' with_reducible
    first
    | assumption | apply Dev.Kept.ite | apply Dev.clr_kept | apply Dev.hostPorts_kept | apply Dev.each_kept
    | apply Dev.rxDrop_kept | (intro _)

theorem Dev.ringStop_kept (h : Dev.Kept d0 d) (a1) :
    Dev.Kept d0 (Dev.ringStop d a1) := by
  unfold Dev.ringStop
  repeat' with_reducible first | assumption | apply Dev.Kept.ite | apply Dev.clr_kept | (intro _)

theorem Dev.ringKill_kept (h : Dev.Kept d0 d) (a1) :
    Dev.Kept d0 (Dev.ringKill d a1) := by
  unfold Dev.ringKill
  repeat'
    first
    | with_reducible
        first
        | assumption | apply Dev.each_kept | apply Dev.release_kept | apply Dev.clr_kept | (intro _)
    | fail_if_no_progress (with_reducible refine .of_mk ?_ rfl rfl rfl rfl rfl)

theorem Dev.domReset_kept (h : Dev.Kept d0 d) (a1) :
    Dev.Kept d0 (Dev.domReset d a1) := by
  unfold Dev.domReset
  try dsimp only
  repeat'
    first
    | with_reducible
        first
        | assumption | apply Dev.Kept.ite | apply Dev.each_kept | apply Dev.iff_kept | apply Dev.put_kept
        | apply Dev.clearRegs_kept | apply Dev.ringKill_kept | apply Dev.setDom_kept | (intro _)

theorem Dev.pcieReset_kept (h : Dev.Kept d0 d) :
    Dev.Kept d0 (Dev.pcieReset d) := by
  unfold Dev.pcieReset
  dsimp only
  repeat'
    first
    | with_reducible
        first
        | assumption | apply Dev.each_kept | apply Dev.iff_kept | apply Dev.clearRegs_kept
        | apply Dev.domReset_kept | apply Dev.ev_kept | (intro _)
    | (with_reducible refine Dev.Kept.of_fst (by with_reducible assumption) ?_)
    | fail_if_no_progress (with_reducible refine .of_mk ?_ rfl rfl rfl rfl rfl)

theorem Dev.idxWrite_kept (h : Dev.Kept d0 d) (a1 a2) :
    Dev.Kept d0 (Dev.idxWrite d a1 a2) := by
  unfold Dev.idxWrite
  try dsimp only
  repeat'
    first
    | with_reducible
        first
        | assumption | apply Dev.Kept.ite | apply Dev.each_kept | apply Dev.iff_kept | apply Dev.put_kept
        | apply Dev.setDom_kept | (intro _)

theorem Dev.backoffDis_kept (h : Dev.Kept d0 d) (a1 a2) :
    Dev.Kept d0 (Dev.backoffDis d a1 a2) := by
  unfold Dev.backoffDis
  repeat'
    first
    | with_reducible
        first
        | assumption | apply Dev.iff_kept | apply Dev.put_kept | apply Dev.clr_kept | (intro _)

theorem Dev.domainBind_kept (h : Dev.Kept d0 d) (a1 a2) :
    Dev.Kept d0 (Dev.domainBind d a1 a2) := by
  unfold Dev.domainBind
  repeat' with_reducible
    first
    | assumption | apply Dev.Kept.ite | apply Dev.ev_kept | apply Dev.setDom_kept | apply Dev.clr_kept
    | apply Dev.put_kept | apply Dev.iff_kept | apply Dev.emit_kept | (intro _)

theorem Dev.fillBufs_kept (h : Dev.Kept d0 d) (a1 a2 a3 a4) :
    Dev.Kept d0 (Dev.fillBufs d a1 a2 a3 a4) := by
  induction a3 generalizing d a1 a2 a4 with
  | nil =>
    unfold Dev.fillBufs
    repeat' with_reducible first | assumption
  | cons e r ih =>
    unfold Dev.fillBufs
    repeat' with_reducible first | assumption | apply ih | apply Dev.emit_kept

theorem Dev.rxMsg_kept (h : Dev.Kept d0 d) (a1 a2 a3) :
    Dev.Kept d0 (Dev.rxMsg d a1 a2 a3).1 := by
  unfold Dev.rxMsg
  dsimp only
  repeat'
    first
    | with_reducible
        first
        | assumption | apply Dev.haltRing_kept | apply Dev.iff_kept | apply Dev.bump_kept | apply Dev.reserve_kept
        | apply Dev.fillBufs_kept | apply Dev.record_kept | apply Dev.moveIdx_kept | apply Dev.setRing_kept
        | (intro _)
    | split

theorem Dev.txmsgDone_kept (h : Dev.Kept d0 d) (a1 a2 a3) :
    Dev.Kept d0 (Dev.txmsgDone d a1 a2 a3) := by
  unfold Dev.txmsgDone
  repeat' with_reducible
    first
    | assumption | apply Dev.moveIdx_kept | apply Dev.txDone_kept | apply Dev.reserve_kept

theorem Dev.dmaError_kept (h : Dev.Kept d0 d) (a1 a2) :
    Dev.Kept d0 (Dev.dmaError d a1 a2) := by
  unfold Dev.dmaError
  dsimp only
  repeat'
    first
    | with_reducible
        first
        | assumption | apply Dev.Kept.ite | apply Dev.bump_kept | apply Dev.ev_kept | apply Dev.fetchDrop_kept
        | apply Dev.haltRing_kept | apply Dev.rxNext_kept | apply Dev.setRing_kept | (intro _)

theorem Dev.pollError_kept (h : Dev.Kept d0 d) (a1) :
    Dev.Kept d0 (Dev.pollError d a1) := by
  unfold Dev.pollError
  repeat' with_reducible
    first
    | assumption | apply Dev.Kept.ite | apply Dev.ev_kept | apply Dev.setDom_kept | (intro _)

end Sys2Proof.Machine
end

