-- ==== Sys2Proof/Laws/KeptAct.lean ====
section
/-!
SUPPORT. `Dev.Kept` (Safety.lean) through the operations of Machine/Act.lean.
-/
namespace Sys2Proof.Machine

variable {d0 d : Dev}

theorem Dev.setAct_kept (h : Dev.Kept d0 d) (a1 a2) :
    Dev.Kept d0 (Dev.setAct d a1 a2) := by
  unfold Dev.setAct
  exact h.of_wf rfl rfl id id id

theorem Dev.actCnt_kept (h : Dev.Kept d0 d) (a1 a2 a3) :
    Dev.Kept d0 (Dev.actCnt d a1 a2 a3) := by
  unfold Dev.actCnt
  repeat' with_reducible first | assumption | apply Dev.bumpBy_kept

theorem Dev.txCut_kept (h : Dev.Kept d0 d) (a1) :
    Dev.Kept d0 (Dev.txCut d a1) := by
  unfold Dev.txCut
  dsimp only
  repeat'
    first
    | with_reducible
        first
        | assumption | apply Dev.Kept.ite | apply Dev.emit_kept | apply Dev.setCoach_kept | (intro _)
    | (with_reducible refine Dev.Kept.of_fst (by with_reducible assumption) ?_)
    | split

theorem Dev.txCuts_kept (h : Dev.Kept d0 d) :
    Dev.Kept d0 (Dev.txCuts d) := by
  unfold Dev.txCuts
  repeat'
    first
    | with_reducible
        first
        | assumption | apply Dev.each_kept | apply Dev.txCut_kept | (intro _)

theorem Dev.allocScan_kept (h : Dev.Kept d0 d) (a1 a2) :
    Dev.Kept d0 (Dev.allocScan d a1 a2) := by
  unfold Dev.allocScan
  repeat' with_reducible
    first
    | assumption | apply Dev.Kept.ite | apply Dev.ev_kept | apply Dev.each_kept | (intro _)

theorem Dev.allocBind_kept (h : Dev.Kept d0 d) (a1 a2 a3) :
    Dev.Kept d0 (Dev.allocBind d a1 a2 a3) := by
  unfold Dev.allocBind
  repeat' with_reducible first | assumption | apply Dev.allocScan_kept | apply Dev.put_kept

theorem Dev.unseal_kept (h : Dev.Kept d0 d) (a1 a2) :
    Dev.Kept d0 (Dev.unseal d a1 a2) := by
  unfold Dev.unseal
  dsimp only
  repeat'
    first
    | with_reducible
        first
        | assumption | apply Dev.setAct_kept | apply Dev.setCoach_kept | (intro _)
    | (with_reducible refine Dev.Kept.of_fst (by with_reducible assumption) ?_)
    | split

theorem Dev.cancelSealed_kept (h : Dev.Kept d0 d) (a1) :
    Dev.Kept d0 (Dev.cancelSealed d a1) := by
  unfold Dev.cancelSealed
  dsimp only
  repeat'
    first
    | with_reducible
        first
        | assumption | apply Dev.each_kept | apply Dev.setCoach_kept | apply Dev.unseal_kept | (intro _)

theorem Dev.strand_kept (h : Dev.Kept d0 d) (a1) :
    Dev.Kept d0 (Dev.strand d a1) := by
  unfold Dev.strand
  dsimp only
  repeat'
    first
    | with_reducible
        first
        | assumption | apply Dev.each_kept | apply Dev.bondCnt_kept | apply Dev.cancelSealed_kept
        | apply Dev.release_kept | apply Dev.setCoach_kept | (intro _)

theorem Dev.setState_kept (h : Dev.Kept d0 d) (a1 a2) :
    Dev.Kept d0 (Dev.setState d a1 a2) := by
  unfold Dev.setState
  dsimp only
  repeat'
    first
    | with_reducible
        first
        | assumption | apply Dev.Kept.ite | apply Dev.iff_kept | apply Dev.put_kept | apply Dev.ev_kept
        | apply Dev.strand_kept | apply Dev.txCut_kept | (intro _)

theorem Dev.clearOnu_kept (h : Dev.Kept d0 d) (a1) :
    Dev.Kept d0 (Dev.clearOnu d a1) := by
  unfold Dev.clearOnu
  repeat' with_reducible first | assumption | apply Dev.put_kept

theorem Dev.clearIds_kept (h : Dev.Kept d0 d) (a1) :
    Dev.Kept d0 (Dev.clearIds d a1) := by
  unfold Dev.clearIds
  repeat' with_reducible
    first
    | assumption | apply Dev.put_kept | apply Dev.clearOnu_kept | apply Dev.each_kept | (intro _)

theorem Dev.stopTimers_kept (h : Dev.Kept d0 d) (a1) :
    Dev.Kept d0 (Dev.stopTimers d a1) := by
  unfold Dev.stopTimers
  repeat' with_reducible first | assumption | apply Dev.setAct_kept

theorem Dev.learn_kept (h : Dev.Kept d0 d) (a1) :
    Dev.Kept d0 (Dev.learn d a1) := by
  unfold Dev.learn
  repeat' with_reducible first | assumption | apply Dev.Kept.ite | apply Dev.setState_kept | (intro _)

theorem Dev.actStart_kept (h : Dev.Kept d0 d) (a1) :
    Dev.Kept d0 (Dev.actStart d a1) := by
  unfold Dev.actStart
  repeat' with_reducible first | assumption | apply Dev.setAct_kept | apply Dev.setState_kept

theorem Dev.actStop_kept (h : Dev.Kept d0 d) (a1) :
    Dev.Kept d0 (Dev.actStop d a1) := by
  unfold Dev.actStop
  repeat' with_reducible
    first
    | assumption | apply Dev.Kept.ite | apply Dev.setState_kept | apply Dev.stopTimers_kept
    | apply Dev.clearIds_kept | apply Dev.setAct_kept | (intro _)

theorem Dev.actEnable_kept (h : Dev.Kept d0 d) (a1) :
    Dev.Kept d0 (Dev.actEnable d a1) := by
  unfold Dev.actEnable
  repeat' with_reducible
    first
    | assumption | apply Dev.Kept.ite | apply Dev.put_kept | apply Dev.setAct_kept | apply Dev.actStart_kept
    | (intro _)

theorem Dev.actDisable_kept (h : Dev.Kept d0 d) (a1) :
    Dev.Kept d0 (Dev.actDisable d a1) := by
  unfold Dev.actDisable
  repeat' with_reducible
    first
    | assumption | apply Dev.Kept.ite | apply Dev.put_kept | apply Dev.setAct_kept | apply Dev.actStop_kept
    | (intro _)

theorem Dev.headersIn_kept (h : Dev.Kept d0 d) (a1) :
    Dev.Kept d0 (Dev.headersIn d a1) := by
  unfold Dev.headersIn
  repeat' with_reducible
    first
    | assumption | apply Dev.Kept.ite | apply Dev.learn_kept | apply Dev.setState_kept | apply Dev.setAct_kept
    | (intro _)

theorem Dev.actHeader_kept (h : Dev.Kept d0 d) (a1) :
    Dev.Kept d0 (Dev.actHeader d a1) := by
  unfold Dev.actHeader
  repeat' with_reducible
    first
    | assumption | apply Dev.Kept.ite | apply Dev.setCoach_kept | apply Dev.headersIn_kept | apply Dev.setAct_kept
    | (intro _)

theorem Dev.actFrame_kept (h : Dev.Kept d0 d) (a1) :
    Dev.Kept d0 (Dev.actFrame d a1) := by
  unfold Dev.actFrame
  repeat' with_reducible first | assumption | apply Dev.setCoach_kept | apply Dev.setAct_kept

theorem Dev.lods_kept (h : Dev.Kept d0 d) (a1) :
    Dev.Kept d0 (Dev.lods d a1) := by
  unfold Dev.lods
  repeat' with_reducible
    first
    | assumption | apply Dev.Kept.ite | apply Dev.setAct_kept | apply Dev.setState_kept | apply Dev.clearIds_kept
    | (intro _)

theorem Dev.lodsTimeout_kept (h : Dev.Kept d0 d) (a1) :
    Dev.Kept d0 (Dev.lodsTimeout d a1) := by
  unfold Dev.lodsTimeout
  repeat' with_reducible
    first
    | assumption | apply Dev.Kept.ite | apply Dev.setAct_kept | apply Dev.lods_kept | (intro _)

theorem Dev.to1Act_kept (h : Dev.Kept d0 d) (a1) :
    Dev.Kept d0 (Dev.to1Act d a1) := by
  unfold Dev.to1Act
  repeat' with_reducible
    first
    | assumption | apply Dev.Kept.ite | apply Dev.setState_kept | apply Dev.clearOnu_kept | (intro _)

theorem Dev.to2Act_kept (h : Dev.Kept d0 d) (a1) :
    Dev.Kept d0 (Dev.to2Act d a1) := by
  unfold Dev.to2Act
  repeat' with_reducible
    first
    | assumption | apply Dev.Kept.ite | apply Dev.setState_kept | apply Dev.clearIds_kept | (intro _)

theorem Dev.to1Expiry_kept (h : Dev.Kept d0 d) (a1) :
    Dev.Kept d0 (Dev.to1Expiry d a1) := by
  unfold Dev.to1Expiry
  repeat' with_reducible
    first
    | assumption | apply Dev.Kept.ite | apply Dev.ev_kept | apply Dev.setAct_kept | apply Dev.to1Act_kept
    | (intro _)

theorem Dev.to2Expiry_kept (h : Dev.Kept d0 d) (a1) :
    Dev.Kept d0 (Dev.to2Expiry d a1) := by
  unfold Dev.to2Expiry
  repeat' with_reducible
    first
    | assumption | apply Dev.Kept.ite | apply Dev.ev_kept | apply Dev.setAct_kept | apply Dev.to2Act_kept
    | (intro _)

theorem Dev.answer_kept (h : Dev.Kept d0 d) (a1 a2) :
    Dev.Kept d0 (Dev.answer d a1 a2) := by
  unfold Dev.answer
  repeat' with_reducible first | assumption | apply Dev.setAct_kept

theorem Dev.powerCheck_kept (h : Dev.Kept d0 d) (a1) :
    Dev.Kept d0 (Dev.powerCheck d a1) := by
  unfold Dev.powerCheck
  repeat' with_reducible
    first
    | assumption | apply Dev.Kept.ite | apply Dev.answer_kept | apply Dev.setAct_kept | (intro _)

theorem Dev.pwrResume_kept (h : Dev.Kept d0 d) (a1) :
    Dev.Kept d0 (Dev.pwrResume d a1) := by
  unfold Dev.pwrResume
  repeat'
    first
    | with_reducible
        first
        | assumption | apply Dev.Kept.ite | apply Dev.answer_kept | apply Dev.powerCheck_kept
        | apply Dev.setAct_kept | (intro _)

theorem Dev.lockstepError_kept (h : Dev.Kept d0 d) :
    Dev.Kept d0 (Dev.lockstepError d) := by
  unfold Dev.lockstepError
  repeat'
    first
    | with_reducible
        first
        | assumption | apply Dev.ev_kept | apply Dev.put_kept
    | split
    | fail_if_no_progress (with_reducible refine .of_mk ?_ rfl rfl rfl rfl rfl)

theorem Dev.tenderRestart_kept (h : Dev.Kept d0 d) :
    Dev.Kept d0 (Dev.tenderRestart d) := by
  unfold Dev.tenderRestart
  dsimp only
  repeat'
    first
    | with_reducible
        first
        | assumption | apply Dev.Kept.ite | apply Dev.each_kept | apply Dev.iff_kept | apply Dev.put_kept
        | apply Dev.actStart_kept | apply Dev.actStop_kept | apply Dev.headersIn_kept | apply Dev.learn_kept
        | apply Dev.lods_kept | apply Dev.pwrResume_kept | apply Dev.setAct_kept | apply Dev.to1Act_kept
        | apply Dev.to2Act_kept | (intro _)
    | (with_reducible refine Dev.Kept.of_fst (by with_reducible assumption) ?_)
    | split
    | fail_if_no_progress (with_reducible refine .of_mk ?_ rfl rfl rfl rfl rfl)

theorem Dev.ploamRecord_kept (h : Dev.Kept d0 d) (a1 a2 a3 a4) :
    Dev.Kept d0 (Dev.ploamRecord d a1 a2 a3 a4) := by
  unfold Dev.ploamRecord
  repeat' with_reducible
    first
    | assumption | apply Dev.rxMsg_kept | apply Dev.iff_kept | apply Dev.actCnt_kept | (intro _)

theorem Dev.ploamRx_kept (h : Dev.Kept d0 d) (n : Nat) (m : Ploam) {f : Dev → Dev × Nat}
    (hf : ∀ (y : Dev), Dev.Kept d0 y → Dev.Kept d0 (f y).1) : Dev.Kept d0 (d.ploamRx n m f) := by
  unfold Dev.ploamRx
  split
  · exact h
  · dsimp only
    split
    · exact Dev.ploamRecord_kept (hf _ h) _ _ _ _
    · exact Dev.ploamRecord_kept (Dev.actCnt_kept h _ _ _) _ _ _ _

theorem Dev.answerReady_kept (h : Dev.Kept d0 d) (a1) :
    Dev.Kept d0 (Dev.answerReady d a1) := by
  unfold Dev.answerReady
  dsimp only
  repeat'
    first
    | with_reducible
        first
        | assumption | apply Dev.actCnt_kept | apply Dev.setAct_kept
    | split

theorem Dev.burstProfile_kept (h : Dev.Kept d0 d) (a1 a2) :
    Dev.Kept d0 (Dev.burstProfile d a1 a2).1 := by
  unfold Dev.burstProfile
  repeat' with_reducible
    first
    | assumption | apply Dev.put_kept | apply Dev.each_kept | apply Dev.ev_kept | apply Dev.learn_kept
    | apply Dev.iff_kept | apply Dev.actCnt_kept | (intro _)

theorem Dev.assignOnu_kept (h : Dev.Kept d0 d) (a1 a2 a3) :
    Dev.Kept d0 (Dev.assignOnu d a1 a2 a3).1 := by
  unfold Dev.assignOnu
  repeat'
    first
    | with_reducible
        first
        | assumption | apply Dev.put_kept | apply Dev.setState_kept | apply Dev.setAct_kept
    | split

theorem Dev.trefEqd_kept (h : Dev.Kept d0 d) (a1) :
    Dev.Kept d0 (Dev.trefEqd d a1) := by
  unfold Dev.trefEqd
  repeat'
    first
    | with_reducible
        first
        | assumption | apply Dev.ddsRecompute_kept
    | split

theorem Dev.rangingTime_kept (h : Dev.Kept d0 d) (a1 a2 a3) :
    Dev.Kept d0 (Dev.rangingTime d a1 a2 a3).1 := by
  unfold Dev.rangingTime
  dsimp only
  repeat'
    first
    | with_reducible
        first
        | assumption | apply Dev.ev_kept | apply Dev.put_kept | apply Dev.iff_kept | apply Dev.trefEqd_kept
        | apply Dev.setState_kept | apply Dev.setAct_kept | (intro _)
    | split

theorem Dev.deactivate_kept (h : Dev.Kept d0 d) (a1 a2) :
    Dev.Kept d0 (Dev.deactivate d a1 a2).1 := by
  unfold Dev.deactivate
  dsimp only
  repeat'
    first
    | with_reducible
        first
        | assumption | apply Dev.setState_kept | apply Dev.stopTimers_kept | apply Dev.clearIds_kept
    | split

theorem Dev.disableSerial_kept (h : Dev.Kept d0 d) (a1 a2 a3 a4) :
    Dev.Kept d0 (Dev.disableSerial d a1 a2 a3 a4).1 := by
  unfold Dev.disableSerial
  dsimp only
  repeat'
    first
    | with_reducible
        first
        | assumption | apply Dev.setState_kept | apply Dev.ev_kept | apply Dev.put_kept | apply Dev.stopTimers_kept
        | apply Dev.setAct_kept
    | split

theorem Dev.requestRegistration_kept (h : Dev.Kept d0 d) (a1) :
    Dev.Kept d0 (Dev.requestRegistration d a1).1 := by
  unfold Dev.requestRegistration
  repeat'
    first
    | with_reducible
        first
        | assumption | apply Dev.answer_kept
    | split

theorem Dev.assignAlloc_kept (h : Dev.Kept d0 d) (a1 a2 a3) :
    Dev.Kept d0 (Dev.assignAlloc d a1 a2 a3).1 := by
  unfold Dev.assignAlloc
  dsimp only
  repeat'
    first
    | with_reducible
        first
        | assumption | apply Dev.ev_kept | apply Dev.put_kept | apply Dev.allocScan_kept | apply Dev.answer_kept
        | apply Dev.actCnt_kept
    | split

theorem Dev.keyControl_kept (h : Dev.Kept d0 d) (a1 a2 a3) :
    Dev.Kept d0 (Dev.keyControl d a1 a2 a3).1 := by
  unfold Dev.keyControl
  dsimp only
  repeat'
    first
    | with_reducible
        first
        | assumption | apply Dev.Kept.ite | apply Dev.put_kept | apply Dev.answer_kept
        | apply Dev.keyQueue_kept | apply Dev.lineArm_kept | apply Dev.putWide_kept | (intro _)
    | (with_reducible refine Dev.Kept.of_fst (by with_reducible assumption) ?_)
    | split
    | fail_if_no_progress (with_reducible refine .of_mk ?_ rfl rfl rfl rfl rfl)
    | fail_if_no_progress dsimp only

theorem Dev.keyReport_kept (h : Dev.Kept d0 d) (a1 a2) :
    Dev.Kept d0 (Dev.keyReport d a1 a2) := by
  unfold Dev.keyReport
  repeat' with_reducible first | assumption | apply Dev.Kept.ite | apply Dev.answer_kept | (intro _)

theorem Dev.powerLevel_kept (h : Dev.Kept d0 d) (a1 a2) :
    Dev.Kept d0 (Dev.powerLevel d a1 a2).1 := by
  unfold Dev.powerLevel
  repeat' with_reducible
    first
    | assumption | apply Dev.ev_kept | apply Dev.put_kept | apply Dev.powerCheck_kept | apply Dev.setAct_kept

theorem Dev.powerTimeout_kept (h : Dev.Kept d0 d) (a1) :
    Dev.Kept d0 (Dev.powerTimeout d a1) := by
  unfold Dev.powerTimeout
  repeat' with_reducible
    first
    | assumption | apply Dev.Kept.ite | apply Dev.answer_kept | apply Dev.setAct_kept | (intro _)

theorem Dev.channelProfile_kept (h : Dev.Kept d0 d) (a1 a2 a3) :
    Dev.Kept d0 (Dev.channelProfile d a1 a2 a3).1 := by
  unfold Dev.channelProfile
  dsimp only
  repeat'
    first
    | with_reducible
        first
        | assumption | apply Dev.iff_kept | apply Dev.cprofRx_kept | apply Dev.learn_kept
        | apply Dev.setAct_kept | (intro _)

theorem Dev.systemProfile_kept (h : Dev.Kept d0 d) (a1 a2) :
    Dev.Kept d0 (Dev.systemProfile d a1 a2).1 := by
  unfold Dev.systemProfile
  repeat' with_reducible first | assumption | apply Dev.setAct_kept

theorem Dev.ackOnly_kept (h : Dev.Kept d0 d) (a1 a2) :
    Dev.Kept d0 (Dev.ackOnly d a1 a2).1 := by
  unfold Dev.ackOnly
  repeat' with_reducible first | assumption | apply Dev.answer_kept

theorem Dev.txmsgHandoff_kept (h : Dev.Kept d0 d) (a1 a2 a3) :
    Dev.Kept d0 (Dev.txmsgHandoff d a1 a2 a3) := by
  unfold Dev.txmsgHandoff
  dsimp only
  repeat'
    first
    | with_reducible
        first
        | assumption | apply Dev.Kept.ite | apply Dev.actCnt_kept | apply Dev.haltRing_kept
        | apply Dev.readDescs_kept | apply Dev.setAct_kept | apply Dev.setCoach_kept
        | apply Dev.txmsgDone_kept | (intro _)
    | (with_reducible refine Dev.Kept.of_fst (by with_reducible assumption) ?_)
    | split

theorem Dev.omciRx_kept (h : Dev.Kept d0 d) (a1) :
    Dev.Kept d0 (Dev.omciRx d a1) := by
  unfold Dev.omciRx
  dsimp only
  repeat'
    first
    | with_reducible
        first
        | assumption | apply Dev.setLine_kept | apply Dev.rxMsg_kept | apply Dev.iff_kept | apply Dev.actCnt_kept
        | (intro _)
    | split

end Sys2Proof.Machine
end

