-- ==== Sys2Proof/Laws/KeptCoach.lean ====
section
/-!
SUPPORT. `Dev.Kept` (Safety.lean) through the operations of Machine/Coach.lean.
-/
namespace Sys2Proof.Machine

variable {d0 d : Dev}

theorem Dev.mapTake_kept (h : Dev.Kept d0 d) (a1 a2 a3 a4 a5) :
    Dev.Kept d0 (Dev.mapTake d a1 a2 a3 a4 a5).1 := by
  induction a2 generalizing d a3 a4 a5 with
  | nil =>
    unfold Dev.mapTake
    dsimp only
    repeat' with_reducible first | assumption
  | cons e r ih =>
    unfold Dev.mapTake
    dsimp only
    repeat'
      first
      | with_reducible
          first
          | assumption | apply ih | apply Dev.actCnt_kept
      | split

theorem Dev.snDelay_kept (h : Dev.Kept d0 d) (a1) :
    Dev.Kept d0 (Dev.snDelay d a1).1 := by
  unfold Dev.snDelay
  dsimp only
  repeat'
    first
    | with_reducible
        first
        | assumption | apply Dev.freed_kept | apply Dev.rngUsed_kept | (intro _)
    | (with_reducible refine Dev.Kept.of_fst (by with_reducible assumption) ?_)
    | fail_if_no_progress dsimp only

theorem Dev.placeBurst_kept (h : Dev.Kept d0 d) (a1 a2) :
    Dev.Kept d0 (Dev.placeBurst d a1 a2).1 := by
  unfold Dev.placeBurst
  dsimp only
  repeat'
    first
    | with_reducible
        first
        | assumption | apply Dev.actCnt_kept | apply Dev.snDelay_kept
    | split

theorem Dev.bwmap_kept (h : Dev.Kept d0 d) (a1 a2) :
    Dev.Kept d0 (Dev.bwmap d a1 a2) := by
  unfold Dev.bwmap
  repeat'
    first
    | with_reducible
        first
        | assumption | apply Dev.mapTake_kept | apply Dev.lineSwitch_kept | apply Dev.placeBurst_kept
        | apply Dev.actCnt_kept | apply Dev.setCoach_kept | apply Dev.each_kept | apply Dev.unseal_kept
        | apply Dev.foldl_fst_kept | (intro _)
    | (with_reducible refine Dev.Kept.of_fst (by with_reducible assumption) ?_)
    | split

theorem Dev.tcontView_kept (h : Dev.Kept d0 d) (a1) :
    Dev.Kept d0 (Dev.tcontView d a1).1 := by
  unfold Dev.tcontView
  repeat' with_reducible first | assumption | apply Dev.each_kept | apply Dev.setQueue_kept | (intro _)

theorem Dev.tcontUnview_kept (h : Dev.Kept d0 d) (a1) :
    Dev.Kept d0 (Dev.tcontUnview d a1) := by
  unfold Dev.tcontUnview
  dsimp only
  repeat'
    first
    | with_reducible
        first
        | assumption | apply Dev.each_kept | apply Dev.setQueue_kept | (intro _)

theorem Dev.tcontDrop_kept (h : Dev.Kept d0 d) (a1) :
    Dev.Kept d0 (Dev.tcontDrop d a1) := by
  unfold Dev.tcontDrop
  dsimp only
  repeat'
    first
    | with_reducible
        first
        | assumption | apply Dev.dropFailed_kept | apply Dev.tcontUnview_kept | apply Dev.tcontView_kept | (intro _)
    | (with_reducible refine Dev.Kept.of_fst (by with_reducible assumption) ?_)

theorem Dev.sidingAsk_kept (h : Dev.Kept d0 d) (a1 a2) :
    Dev.Kept d0 (Dev.sidingAsk d a1 a2) := by
  unfold Dev.sidingAsk
  repeat'
    first
    | with_reducible
        first
        | assumption | apply Dev.each_kept | apply Dev.dmcAsk_kept | (intro _)

theorem Dev.fillOne_kept (h : Dev.Kept d0 d) (n t : Nat) :
    ∀ d', Dev.fillOne d n t = some d' → Dev.Kept d0 d' := by
  intro d' e
  unfold Dev.fillOne at e
  obtain ⟨p, _, e⟩ := Option.bind_eq_some_iff.1 e
  obtain ⟨x, _, e⟩ := Option.bind_eq_some_iff.1 e
  dsimp only at e
  split at e
  · cases e
  · rename_i d1 f q hq
    have h1 : Dev.Kept d0 d1 := Dev.Kept.of_fst hq (Dev.take_kept (Dev.tcontView_kept h _) _ _)
    have h3 {c : Prop} [Decidable c] (k : List (Nat × Nat)) : Dev.Kept d0
        (if c then ((d1.tcontUnview k).editOut f).1 else ((d1.tcontUnview k).editOut f).1.release f) :=
      .ite (fun _ => Dev.editOut_kept (Dev.tcontUnview_kept h1 _) _)
        (fun _ => Dev.release_kept (Dev.editOut_kept (Dev.tcontUnview_kept h1 _) _) _)
    split at e
    · cases e; exact .ite (fun _ => Dev.release_kept (h3 _) _) (fun _ => h3 _)
    · cases e
      refine Dev.iff_kept (Dev.setCoach_kept ?_ _ _) _ (fun _ hx => Dev.sidingAsk_kept hx _ _)
      split
      · exact Dev.setGroup_kept (Dev.put_kept (h3 _) _ _) _ _
      · exact h3 _

theorem Dev.prestage_kept (h : Dev.Kept d0 d) (a1 a2 a3) :
    Dev.Kept d0 (Dev.prestage d a1 a2 a3) := by
  induction a3 generalizing d  with
  | zero =>
    unfold Dev.prestage
    repeat' with_reducible first | assumption
  | succ m ih =>
    unfold Dev.prestage
    dsimp only
    repeat'
      first
      | with_reducible
          first
          | assumption | apply ih | apply Dev.tcontDrop_kept
      | (with_reducible refine Dev.fillOne_kept ?_ _ _ _ (by with_reducible assumption))
      | split

theorem Dev.prestageFill_kept (h : Dev.Kept d0 d) (a1 a2) :
    Dev.Kept d0 (Dev.prestageFill d a1 a2) := by
  unfold Dev.prestageFill
  repeat' with_reducible first | assumption | apply Dev.Kept.ite | apply Dev.prestage_kept | (intro _)

theorem Dev.cbReadFail_kept (h : Dev.Kept d0 d) (a1 a2 a3) :
    Dev.Kept d0 (Dev.cbReadFail d a1 a2 a3) := by
  unfold Dev.cbReadFail
  dsimp only
  repeat'
    first
    | with_reducible
        first
        | assumption | apply Dev.iff_kept | apply Dev.bumpBy_kept | apply Dev.dropAll_kept | apply Dev.ev_kept
        | apply Dev.setCoach_kept | apply Dev.sidingFail_kept | (intro _)

theorem Dev.cbReadDone_kept (h : Dev.Kept d0 d) (a1 a2) :
    Dev.Kept d0 (Dev.cbReadDone d a1 a2) := by
  unfold Dev.cbReadDone
  dsimp only
  repeat'
    first
    | with_reducible
        first
        | assumption | apply Dev.Kept.ite | apply Dev.iff_kept | apply Dev.actCnt_kept
        | apply Dev.cbReadFail_kept | apply Dev.release_kept | apply Dev.setCoach_kept | (intro _)
    | (with_reducible refine Dev.Kept.of_fst (by with_reducible assumption) ?_)
    | split

theorem Dev.appendMarkers_kept (h : Dev.Kept d0 d) (a1 a2 a3 a4) :
    Dev.Kept d0 (Dev.appendMarkers d a1 a2 a3 a4).1 := by
  induction a3 generalizing d a1 a2 a4 with
  | nil =>
    unfold Dev.appendMarkers
    repeat' with_reducible first | assumption
  | cons e r ih =>
    unfold Dev.appendMarkers
    repeat'
      first
      | with_reducible
          first
          | assumption | apply ih | apply Dev.bondCnt_kept | apply Dev.setGroup_kept
      | split

theorem Dev.sealAlloc_kept (h : Dev.Kept d0 d) (a1 a2 a3 a4) :
    Dev.Kept d0 (Dev.sealAlloc d a1 a2 a3 a4).1 := by
  unfold Dev.sealAlloc
  dsimp only
  repeat'
    first
    | with_reducible
        first
        | assumption | apply Dev.setCoach_kept | apply Dev.appendMarkers_kept | apply Dev.actCnt_kept
    | split

theorem Dev.sealRest_kept (h : Dev.Kept d0 d) (a1 a2 a3 a4 a5) :
    Dev.Kept d0 (Dev.sealRest d a1 a2 a3 a4 a5).1 := by
  unfold Dev.sealRest
  dsimp only
  repeat'
    first
    | with_reducible
        first
        | assumption | apply Dev.actCnt_kept | apply Dev.appendMarkers_kept | (intro _)
    | (with_reducible refine Dev.Kept.of_fst (by with_reducible assumption) ?_)
    | split

theorem Dev.takePloam_kept (h : Dev.Kept d0 d) (a1 a2) :
    Dev.Kept d0 (Dev.takePloam d a1 a2).1 := by
  unfold Dev.takePloam
  dsimp only
  repeat'
    first
    | with_reducible
        first
        | assumption | apply Dev.setAct_kept
    | split

theorem Dev.gaspStep_kept (h : Dev.Kept d0 d) (a1) :
    Dev.Kept d0 (Dev.gaspStep d a1).1 := by
  unfold Dev.gaspStep
  dsimp only
  repeat'
    first
    | with_reducible
        first
        | assumption | apply Dev.ev_kept | apply Dev.put_kept
    | split

theorem Dev.burstSeal_kept (h : Dev.Kept d0 d) (a1) :
    Dev.Kept d0 (Dev.burstSeal d a1) := by
  unfold Dev.burstSeal
  dsimp only
  repeat'
    first
    | with_reducible
        first
        | assumption | apply Dev.Kept.ite | apply Dev.foldl_kept | apply Dev.foldl_fst_kept
        | apply Dev.bump_kept | apply Dev.burstKey_kept | apply Dev.gaspStep_kept | apply Dev.sealAlloc_kept
        | apply Dev.sealRest_kept | apply Dev.setCoach_kept | apply Dev.takePloam_kept | (intro _)
    | (with_reducible refine Dev.Kept.of_fst (by with_reducible assumption) ?_)
    | split

theorem Dev.ploamSent_kept (h : Dev.Kept d0 d) (a1 a2) :
    Dev.Kept d0 (Dev.ploamSent d a1 a2).1 := by
  unfold Dev.ploamSent
  repeat'
    first
    | with_reducible
        first
        | assumption | apply Dev.setAct_kept

theorem Dev.ploamCount_kept (h : Dev.Kept d0 d) (a1 a2) :
    Dev.Kept d0 (Dev.ploamCount d a1 a2) := by
  unfold Dev.ploamCount
  repeat'
    first
    | with_reducible
        first
        | assumption | apply Dev.actCnt_kept
    | split

theorem Dev.burstTransmit_kept (h : Dev.Kept d0 d) (a1) :
    Dev.Kept d0 (Dev.burstTransmit d a1) := by
  unfold Dev.burstTransmit
  dsimp only
  repeat'
    first
    | with_reducible
        first
        | assumption | apply Dev.setCoach_kept | apply Dev.unseal_kept | apply Dev.burstKey_kept
        | apply Dev.burstUsed_kept | apply Dev.ploamCount_kept | apply Dev.ploamSent_kept | apply Dev.emit_kept
        | apply Dev.actCnt_kept
    | split

theorem Dev.cancelBursts_kept (h : Dev.Kept d0 d) (a1) :
    Dev.Kept d0 (Dev.cancelBursts d a1) := by
  unfold Dev.cancelBursts
  repeat' with_reducible
    first
    | assumption | apply Dev.each_kept | apply Dev.setCoach_kept | apply Dev.unseal_kept | (intro _)

theorem Dev.returnStore_kept (h : Dev.Kept d0 d) (a1) :
    Dev.Kept d0 (Dev.returnStore d a1) := by
  unfold Dev.returnStore
  dsimp only
  repeat'
    first
    | with_reducible
        first
        | assumption | apply Dev.Kept.ite | apply Dev.each_kept | apply Dev.iff_kept | apply Dev.hold_kept
        | apply Dev.release_kept | apply Dev.setCoach_kept | apply Dev.setQueue_kept | (intro _)

end Sys2Proof.Machine
end

