-- ==== Sys2Proof/Laws/KeptProt.lean ====
section
/-!
SUPPORT. `Dev.Kept` (Safety.lean) through the operations of Machine/Prot.lean.
-/
namespace Sys2Proof.Machine

variable {d0 d : Dev}

theorem Dev.trefUpdate_kept (h : Dev.Kept d0 d) :
    Dev.Kept d0 (Dev.trefUpdate d) := by
  unfold Dev.trefUpdate
  dsimp only
  repeat'
    first
    | with_reducible
        first
        | assumption | apply Dev.Kept.ite | apply Dev.put_kept | apply Dev.ev_kept
        | apply Dev.lineBuildOut_kept | apply Dev.trefEqd_kept | (intro _)
    | (with_reducible refine Dev.Kept.of_fst (by with_reducible assumption) ?_)
    | split
    | fail_if_no_progress (with_reducible refine .of_mk ?_ rfl rfl rfl rfl rfl)

theorem Dev.fastUpdate_kept (h : Dev.Kept d0 d) :
    Dev.Kept d0 (Dev.fastUpdate d) := by
  unfold Dev.fastUpdate
  repeat'
    first
    | with_reducible
        first
        | assumption | apply Dev.put_kept | apply Dev.trefUpdate_kept
    | fail_if_no_progress (with_reducible refine .of_mk ?_ rfl rfl rfl rfl rfl)

theorem Dev.holdoff_kept (h : Dev.Kept d0 d) (a1 a2) :
    Dev.Kept d0 (Dev.holdoff d a1 a2) := by
  unfold Dev.holdoff
  repeat'
    first
    | with_reducible
        first
        | assumption | apply Dev.fastUpdate_kept
    | split
    | fail_if_no_progress (with_reducible refine .of_mk ?_ rfl rfl rfl rfl rfl)

theorem Dev.defectsMoved_kept (h : Dev.Kept d0 d) :
    Dev.Kept d0 (Dev.defectsMoved d) := by
  unfold Dev.defectsMoved
  repeat'
    first
    | with_reducible
        first
        | assumption | apply Dev.fastUpdate_kept
    | split
    | fail_if_no_progress (with_reducible refine .of_mk ?_ rfl rfl rfl rfl rfl)

theorem Dev.protSwitch_kept (h : Dev.Kept d0 d) (a1) :
    Dev.Kept d0 (Dev.protSwitch d a1) := by
  unfold Dev.protSwitch
  repeat'
    first
    | with_reducible
        first
        | assumption | apply Dev.ev_kept | apply Dev.put_kept | apply Dev.putWide_kept | apply Dev.bump_kept
        | apply Dev.each_kept | apply Dev.returnStore_kept | apply Dev.cancelBursts_kept | apply Dev.setLine_kept
        | apply Dev.trefUpdate_kept | (intro _)
    | fail_if_no_progress (with_reducible refine .of_mk ?_ rfl rfl rfl rfl rfl)

theorem Dev.protAuto_kept (h : Dev.Kept d0 d) :
    Dev.Kept d0 (Dev.protAuto d) := by
  unfold Dev.protAuto
  repeat'
    first
    | with_reducible
        first
        | assumption | apply Dev.protSwitch_kept | apply Dev.put_kept | apply Dev.ev_kept | apply Dev.bump_kept
    | split
    | fail_if_no_progress (with_reducible refine .of_mk ?_ rfl rfl rfl rfl rfl)

theorem Dev.protManual_kept (h : Dev.Kept d0 d) :
    Dev.Kept d0 (Dev.protManual d) := by
  unfold Dev.protManual
  repeat' with_reducible
    first
    | assumption | apply Dev.Kept.ite | apply Dev.protSwitch_kept | apply Dev.ev_kept | (intro _)

theorem Dev.protForced_kept (h : Dev.Kept d0 d) :
    Dev.Kept d0 (Dev.protForced d) := by
  unfold Dev.protForced
  repeat' with_reducible first | assumption | apply Dev.Kept.ite | apply Dev.protSwitch_kept | (intro _)

theorem Dev.protComplete_kept (h : Dev.Kept d0 d) :
    Dev.Kept d0 (Dev.protComplete d) := by
  unfold Dev.protComplete
  repeat' with_reducible first | assumption | apply Dev.put_kept

theorem Dev.trefResume_kept (h : Dev.Kept d0 d) :
    Dev.Kept d0 (Dev.trefResume d) := by
  unfold Dev.trefResume
  repeat'
    first
    | with_reducible
        first
        | assumption
    | split
    | fail_if_no_progress (with_reducible refine .of_mk ?_ rfl rfl rfl rfl rfl)

theorem Dev.lineModeWrite_kept (h : Dev.Kept d0 d) (a1) :
    Dev.Kept d0 (Dev.lineModeWrite d a1) := by
  unfold Dev.lineModeWrite
  dsimp only
  repeat'
    first
    | with_reducible
        first
        | assumption | apply Dev.put_kept | apply Dev.trefUpdate_kept | apply Dev.ev_kept
        | apply Dev.bondClose_kept
    | split
    | fail_if_no_progress (with_reducible refine .of_mk ?_ rfl rfl rfl rfl rfl)

theorem Dev.framerMoved_kept (h : Dev.Kept d0 d) (a1) :
    Dev.Kept d0 (Dev.framerMoved d a1) := by
  unfold Dev.framerMoved
  repeat' with_reducible
    first
    | assumption | apply Dev.Kept.ite | apply Dev.defectsMoved_kept | apply Dev.bondSyncLost_kept | (intro _)

end Sys2Proof.Machine
end

