-- ==== Sys2Proof/Laws/KeptSample.lean ====
section
/-!
SUPPORT. `Dev.Kept` (Safety.lean) through the operations of Machine/Sample.lean.
-/
namespace Sys2Proof.Machine

variable {d0 d : Dev}

theorem Dev.pllTo_kept (h : Dev.Kept d0 d) (a1) :
    Dev.Kept d0 (Dev.pllTo d a1) := by
  unfold Dev.pllTo
  repeat' with_reducible
    first
    | assumption | apply Dev.Kept.ite | apply Dev.ev_kept | apply Dev.put_kept | (intro _)

theorem Dev.pllEval_kept (h : Dev.Kept d0 d) :
    Dev.Kept d0 (Dev.pllEval d) := by
  unfold Dev.pllEval
  repeat' with_reducible
    first
    | assumption | apply Dev.Kept.ite | apply Dev.put_kept | apply Dev.pllTo_kept | (intro _)

theorem Dev.pllQualified_kept (h : Dev.Kept d0 d) :
    Dev.Kept d0 (Dev.pllQualified d) := by
  unfold Dev.pllQualified
  dsimp only
  repeat'
    first
    | with_reducible
        first
        | assumption | apply Dev.Kept.ite | apply Dev.clockBuildOut_kept | apply Dev.lineBuildOut_kept
        | apply Dev.pllTo_kept | (intro _)
    | (with_reducible refine Dev.Kept.of_fst (by with_reducible assumption) ?_)
    | split

theorem Dev.pllLock_kept (h : Dev.Kept d0 d) :
    Dev.Kept d0 (Dev.pllLock d) := by
  unfold Dev.pllLock
  repeat' with_reducible first | assumption | apply Dev.Kept.ite | apply Dev.pllTo_kept | (intro _)

theorem Dev.sampleTake_kept (h : Dev.Kept d0 d) (a1) :
    Dev.Kept d0 (Dev.sampleTake d a1) := by
  unfold Dev.sampleTake
  dsimp only
  repeat'
    first
    | with_reducible
        first
        | assumption | apply Dev.Kept.ite | apply Dev.bump_kept | apply Dev.ev_kept | apply Dev.setPend_kept
        | apply Dev.stepAndLatch_kept | apply Dev.stepGo_kept | apply Dev.stepRefuse_kept | (intro _)
    | (with_reducible refine Dev.Kept.of_fst (by with_reducible assumption) ?_)
    | split
    | fail_if_no_progress (with_reducible refine .of_mk ?_ rfl rfl rfl rfl rfl)

theorem Dev.sampleShow_kept (h : Dev.Kept d0 d) (a1) :
    Dev.Kept d0 (Dev.sampleShow d a1) := by
  unfold Dev.sampleShow
  repeat' with_reducible first | assumption | apply Dev.bump_kept | apply Dev.put_kept

theorem Dev.todMiss_kept (h : Dev.Kept d0 d) :
    Dev.Kept d0 (Dev.todMiss d) := by
  unfold Dev.todMiss
  repeat' with_reducible first | assumption | apply Dev.ev_kept | apply Dev.bump_kept

theorem Dev.todArm_kept (h : Dev.Kept d0 d) :
    Dev.Kept d0 (Dev.todArm d) := by
  unfold Dev.todArm
  dsimp only
  repeat'
    first
    | with_reducible
        first
        | assumption | apply Dev.todMiss_kept | apply Dev.ev_kept | apply Dev.bump_kept
    | split
    | fail_if_no_progress (with_reducible refine .of_mk ?_ rfl rfl rfl rfl rfl)

theorem Dev.todCheck_kept (h : Dev.Kept d0 d) :
    Dev.Kept d0 (Dev.todCheck d) := by
  unfold Dev.todCheck
  dsimp only
  repeat'
    first
    | with_reducible
        first
        | assumption | apply Dev.todMiss_kept
    | split
    | fail_if_no_progress (with_reducible refine .of_mk ?_ rfl rfl rfl rfl rfl)

theorem Dev.todCapture_kept (h : Dev.Kept d0 d) (a1 a2) :
    Dev.Kept d0 (Dev.todCapture d a1 a2) := by
  unfold Dev.todCapture
  repeat'
    first
    | with_reducible
        first
        | assumption
    | split
    | fail_if_no_progress (with_reducible refine .of_mk ?_ rfl rfl rfl rfl rfl)

theorem Dev.todEvaluate_kept (h : Dev.Kept d0 d) :
    Dev.Kept d0 (Dev.todEvaluate d) := by
  unfold Dev.todEvaluate
  repeat'
    first
    | with_reducible
        first
        | assumption | apply Dev.ev_kept | apply Dev.sampleShow_kept | apply Dev.sampleTake_kept
    | split
    | fail_if_no_progress (with_reducible refine .of_mk ?_ rfl rfl rfl rfl rfl)

theorem Dev.sampleFrom_kept (h : Dev.Kept d0 d) (a1 a2) :
    Dev.Kept d0 (Dev.sampleFrom d a1 a2) := by
  unfold Dev.sampleFrom
  repeat' with_reducible
    first
    | assumption | apply Dev.Kept.ite | apply Dev.sampleTake_kept | apply Dev.sampleShow_kept | (intro _)

theorem Dev.sampleUndo_kept (h : Dev.Kept d0 d) (x : SampleStep) : Dev.Kept d0 (d.sampleUndo x) := by
  refine h.of_wf rfl rfl (fun w => ?_) id id
  suffices ∀ (l : List (Nat × Nat × Nat)) (t : Tbl Nat), Tbl.wf t = true →
      Tbl.wf (l.foldl (fun t y => if Tbl.get t y.1 0 = y.2.2 then Tbl.set t y.1 y.2.1 else t) t) = true from this _ _ w
  intro l
  induction l with
  | nil => exact fun _ ht => ht
  | cons a r ih =>
    intro t ht
    refine ih _ ?_
    dsimp only
    split
    · exact Tbl.wf_set _ _ ht
    · exact ht

theorem Dev.stepGo_kept (h : Dev.Kept d0 d) (armed : Bool) : Dev.Kept d0 (d.stepGo armed) := by
  unfold Dev.stepGo
  dsimp only
  have he (x : Option SampleStep) : Dev.Kept d0 ((x.map d.sampleUndo).getD d) := by
    cases x with
    | none => exact h
    | some x => exact Dev.sampleUndo_kept h x
  have hf (e : Dev) (he : Dev.Kept d0 e) (v : Int) : Dev.Kept d0 (if e.stepOut v then e.stepRefuse else e.stepAndLatch v) :=
    .ite (fun _ => Dev.stepRefuse_kept he) (fun _ => Dev.stepAndLatch_kept he _)
  split
  · exact Dev.setPend_kept (hf _ (he _) _) _
  · exact (hf _ (he _) _).of_mk rfl rfl rfl rfl rfl

theorem Dev.slewComplete_kept (h : Dev.Kept d0 d) :
    Dev.Kept d0 (Dev.slewComplete d) := by
  unfold Dev.slewComplete
  repeat'
    first
    | with_reducible
        first
        | assumption | apply Dev.Kept.ite | apply Dev.slewEnd_kept | (intro _)

theorem Dev.rateWrite_kept (h : Dev.Kept d0 d) (a1) :
    Dev.Kept d0 (Dev.rateWrite d a1) := by
  unfold Dev.rateWrite
  repeat' with_reducible first | assumption | apply Dev.reRate_kept | apply Dev.put_kept

theorem Dev.slewWrite_kept (h : Dev.Kept d0 d) (a1) :
    Dev.Kept d0 (Dev.slewWrite d a1) := by
  unfold Dev.slewWrite
  repeat' with_reducible first | assumption | apply Dev.iff_kept | (intro _) | apply Dev.reRate_kept | apply Dev.put_kept

theorem Dev.eqd0Write_kept (h : Dev.Kept d0 d) (a1) :
    Dev.Kept d0 (Dev.eqd0Write d a1) := by
  unfold Dev.eqd0Write
  repeat' with_reducible first | assumption | apply Dev.trefEqd_kept | apply Dev.put_kept

theorem Dev.asymWrite_kept (h : Dev.Kept d0 d) (a1) :
    Dev.Kept d0 (Dev.asymWrite d a1) := by
  unfold Dev.asymWrite
  repeat' with_reducible first | assumption | apply Dev.trefEqd_kept | apply Dev.put_kept

theorem Dev.pllWrite_kept (h : Dev.Kept d0 d) (a1) :
    Dev.Kept d0 (Dev.pllWrite d a1) := by
  unfold Dev.pllWrite
  repeat' with_reducible first | assumption | apply Dev.pllEval_kept | apply Dev.put_kept

theorem Dev.timCtrl_kept (h : Dev.Kept d0 d) (a1) :
    Dev.Kept d0 (Dev.timCtrl d a1) := by
  unfold Dev.timCtrl
  dsimp only
  repeat'
    first
    | with_reducible
        first
        | assumption | apply Dev.iff_kept | apply Dev.put_kept | apply Dev.stepGo_kept | (intro _)

theorem Dev.ppsRise_kept (h : Dev.Kept d0 d) :
    Dev.Kept d0 (Dev.ppsRise d) := by
  unfold Dev.ppsRise
  repeat'
    first
    | with_reducible
        first
        | assumption
    | split
    | fail_if_no_progress (with_reducible refine .of_mk ?_ rfl rfl rfl rfl rfl)

theorem Dev.ppsFall_kept (h : Dev.Kept d0 d) :
    Dev.Kept d0 (Dev.ppsFall d) := by
  unfold Dev.ppsFall
  repeat'
    first
    | with_reducible
        first
        | assumption | apply Dev.Kept.ite | (intro _)
    | split
    | fail_if_no_progress (with_reducible refine .of_mk ?_ rfl rfl rfl rfl rfl)

theorem Dev.ppsIn_kept (h : Dev.Kept d0 d) (a1 a2) :
    Dev.Kept d0 (Dev.ppsIn d a1 a2) := by
  unfold Dev.ppsIn
  repeat' with_reducible
    first
    | assumption | apply Dev.Kept.ite | apply Dev.ev_kept | apply Dev.putWords_kept | apply Dev.sampleFrom_kept
    | (intro _)

theorem Dev.refMoved_kept (h : Dev.Kept d0 d) :
    Dev.Kept d0 (Dev.refMoved d) := by
  unfold Dev.refMoved
  repeat'
    first
    | with_reducible
        first
        | assumption | apply Dev.pllEval_kept | apply Dev.todCheck_kept

theorem Dev.lineMoved_kept (h : Dev.Kept d0 d) (a1) :
    Dev.Kept d0 (Dev.lineMoved d a1) := by
  unfold Dev.lineMoved
  repeat'
    first
    | with_reducible
        first
        | assumption | apply Dev.framerMoved_kept | apply Dev.refMoved_kept

end Sys2Proof.Machine
end

