-- ==== Sys2Proof/Laws/KeptPhy.lean ====
section
/-!
SUPPORT. `Dev.Kept` (Safety.lean) through the operations of Machine/Phy.lean.
-/
namespace Sys2Proof.Machine

variable {d0 d : Dev}

theorem Dev.laneRaw_kept (h : Dev.Kept d0 d) (a1 a2 a3) :
    Dev.Kept d0 (Dev.laneRaw d a1 a2 a3) := by
  unfold Dev.laneRaw
  repeat'
    first
    | with_reducible
        first
        | assumption | apply Dev.iff_kept | apply Dev.emit_kept | (intro _)

theorem Dev.laneSend_kept (h : Dev.Kept d0 d) (a1 a2 a3) :
    Dev.Kept d0 (Dev.laneSend d a1 a2 a3) := by
  unfold Dev.laneSend
  dsimp only
  repeat'
    first
    | with_reducible
        first
        | assumption | apply Dev.laneRaw_kept | apply Dev.setPhy_kept

theorem Dev.laneFill_kept (h : Dev.Kept d0 d) (a1) :
    Dev.Kept d0 (Dev.laneFill d a1) := by
  unfold Dev.laneFill
  dsimp only
  repeat'
    first
    | with_reducible
        first
        | assumption | apply Dev.Kept.ite | apply Dev.laneSend_kept | apply Dev.setPhy_kept | (intro _)

theorem Dev.wagonLanes_kept (h : Dev.Kept d0 d) (a1 a2) :
    Dev.Kept d0 (Dev.wagonLanes d a1 a2) := by
  unfold Dev.wagonLanes
  repeat'
    first
    | with_reducible
        first
        | assumption | apply Dev.laneFill_kept | apply Dev.laneSend_kept

theorem Dev.laneRecv_kept (h : Dev.Kept d0 d) (a1 a2 a3) :
    Dev.Kept d0 (Dev.laneRecv d a1 a2 a3).1 := by
  unfold Dev.laneRecv
  dsimp only
  repeat'
    first
    | with_reducible
        first
        | assumption | apply Dev.setPhy_kept

theorem Dev.freeCode_kept (h : Dev.Kept d0 d) :
    Dev.Kept d0 (Dev.freeCode d).1 := by
  unfold Dev.freeCode
  dsimp only
  repeat'
    first
    | with_reducible
        first
        | assumption | apply Dev.freed_kept

theorem Dev.txCodeFree_kept (h : Dev.Kept d0 d) (a1) :
    Dev.Kept d0 (Dev.txCodeFree d a1) := by
  unfold Dev.txCodeFree
  dsimp only
  repeat'
    first
    | with_reducible
        first
        | assumption | apply Dev.freeCode_kept | apply Dev.setPhy_kept

theorem Dev.rxCodeFree_kept (h : Dev.Kept d0 d) (a1) :
    Dev.Kept d0 (Dev.rxCodeFree d a1) := by
  unfold Dev.rxCodeFree
  dsimp only
  repeat'
    first
    | with_reducible
        first
        | assumption | apply Dev.freeCode_kept | apply Dev.setPhy_kept

theorem Dev.trainSend_kept (h : Dev.Kept d0 d) (a1) :
    Dev.Kept d0 (Dev.trainSend d a1) := by
  unfold Dev.trainSend
  repeat'
    first
    | with_reducible
        first
        | assumption | apply Dev.freed_kept | apply Dev.laneRaw_kept

theorem Dev.laneMoved_kept (h : Dev.Kept d0 d) (a1) :
    Dev.Kept d0 (Dev.laneMoved d a1) := by
  unfold Dev.laneMoved
  repeat'
    first
    | with_reducible
        first
        | assumption | apply Dev.linkLane_kept
    | split

theorem Dev.laneSync_kept (h : Dev.Kept d0 d) (a1 a2 a3 a4 a5 a6 a7 a8) :
    Dev.Kept d0 (Dev.laneSync d a1 a2 a3 a4 a5 a6 a7 a8) := by
  unfold Dev.laneSync
  dsimp only
  repeat'
    first
    | with_reducible
        first
        | assumption | apply Dev.Kept.ite | apply Dev.each_kept | apply Dev.iff_kept | apply Dev.put_kept
        | apply Dev.acqAgain_kept | apply Dev.bump_kept | apply Dev.bumpBy_kept | apply Dev.ev_kept
        | apply Dev.linkLane_kept | apply Dev.setLane_kept | apply Dev.setMac_kept | (intro _)
    | (with_reducible refine Dev.Kept.of_fst (by with_reducible assumption) ?_)
    | split

theorem Dev.laneAdapted_kept (h : Dev.Kept d0 d) (a1 a2 a3) :
    Dev.Kept d0 (Dev.laneAdapted d a1 a2 a3) := by
  unfold Dev.laneAdapted
  dsimp only
  repeat'
    first
    | with_reducible
        first
        | assumption | apply Dev.Kept.ite | apply Dev.iff_kept | apply Dev.put_kept | (intro _)

theorem Dev.rxeqWrite_kept (h : Dev.Kept d0 d) (a1 a2) :
    Dev.Kept d0 (Dev.rxeqWrite d a1 a2) := by
  unfold Dev.rxeqWrite
  repeat' with_reducible first | assumption | apply Dev.put_kept | apply Dev.iff_kept | (intro _)

theorem Dev.txeqWrite_kept (h : Dev.Kept d0 d) (a1 a2) :
    Dev.Kept d0 (Dev.txeqWrite d a1 a2) := by
  unfold Dev.txeqWrite
  repeat'
    first
    | with_reducible
        first
        | assumption | apply Dev.ev_kept | apply Dev.put_kept
    | split

theorem Dev.setScan_kept (h : Dev.Kept d0 d) (a1 a2) :
    Dev.Kept d0 (Dev.setScan d a1 a2) := by
  unfold Dev.setScan
  repeat'
    first
    | with_reducible
        first
        | assumption | apply Dev.setLane_kept | apply Dev.setPhy_kept
    | split

theorem Dev.eyeWrite_kept (h : Dev.Kept d0 d) (a1 a2) :
    Dev.Kept d0 (Dev.eyeWrite d a1 a2) := by
  unfold Dev.eyeWrite
  repeat' with_reducible
    first
    | assumption | apply Dev.put_kept | apply Dev.iff_kept | apply Dev.setScan_kept | (intro _)

theorem Dev.eyeDone_kept (h : Dev.Kept d0 d) (a1 a2) :
    Dev.Kept d0 (Dev.eyeDone d a1 a2) := by
  unfold Dev.eyeDone
  repeat' with_reducible
    first
    | assumption | apply Dev.Kept.ite | apply Dev.put_kept | apply Dev.setScan_kept | (intro _)

theorem Dev.patGain_kept (h : Dev.Kept d0 d) (a1) :
    Dev.Kept d0 (Dev.patGain d a1) := by
  unfold Dev.patGain
  repeat' with_reducible first | assumption | apply Dev.Kept.ite | apply Dev.put_kept | (intro _)

theorem Dev.patLost_kept (h : Dev.Kept d0 d) (a1 a2) :
    Dev.Kept d0 (Dev.patLost d a1 a2) := by
  unfold Dev.patLost
  repeat'
    first
    | with_reducible
        first
        | assumption | apply Dev.bumpBy_kept | apply Dev.put_kept | apply Dev.ev_kept
    | split

theorem Dev.phyCnt_kept (h : Dev.Kept d0 d) (a1 a2) :
    Dev.Kept d0 (Dev.phyCnt d a1 a2) := by
  unfold Dev.phyCnt
  repeat' with_reducible first | assumption | apply Dev.bump_kept

theorem Dev.onFid_kept (h : Dev.Kept d0 d) (a1 a2 a3) :
    Dev.Kept d0 (Dev.onFid d a1 a2 a3) := by
  unfold Dev.onFid
  exact h.of_wf rfl rfl id id id

theorem Dev.linkStop_kept (h : Dev.Kept d0 d) (a1) :
    Dev.Kept d0 (Dev.linkStop d a1) := by
  unfold Dev.linkStop
  repeat'
    first
    | with_reducible
        first
        | assumption | apply Dev.onFid_kept | apply Dev.bumpBy_kept | apply Dev.put_kept
    | fail_if_no_progress (with_reducible refine .of_mk ?_ rfl rfl rfl rfl rfl)

theorem Dev.linkRestart_kept (h : Dev.Kept d0 d) (a1) :
    Dev.Kept d0 (Dev.linkRestart d a1) := by
  unfold Dev.linkRestart
  repeat'
    first
    | with_reducible
        first
        | assumption | apply Dev.setPhy_kept | (intro _)
    | fail_if_no_progress (with_reducible refine .of_mk ?_ rfl rfl rfl rfl rfl)

theorem Dev.sendPage_kept (h : Dev.Kept d0 d) (a1) :
    Dev.Kept d0 (Dev.sendPage d a1) := by
  unfold Dev.sendPage
  repeat'
    first
    | with_reducible
        first
        | assumption | apply Dev.Kept.ite | apply Dev.emit_kept | apply Dev.laneSend_kept
        | apply Dev.txCodeFree_kept | (intro _)

theorem Dev.phySwitch_kept (h : Dev.Kept d0 d) (a1 a2) :
    Dev.Kept d0 (Dev.phySwitch d a1 a2) := by
  unfold Dev.phySwitch
  dsimp only
  repeat'
    first
    | with_reducible
        first
        | assumption | apply Dev.put_kept | apply Dev.ev_kept | apply Dev.pllEval_kept
        | apply Dev.setPhy_kept | (intro _)
    | (with_reducible refine Dev.Kept.of_fst (by with_reducible assumption) ?_)
    | split

theorem Dev.phyClk_kept (h : Dev.Kept d0 d) (a1) :
    Dev.Kept d0 (Dev.phyClk d a1) := by
  unfold Dev.phyClk
  repeat'
    first
    | with_reducible
        first
        | assumption | apply Dev.Kept.ite | apply Dev.put_kept | apply Dev.phySwitch_kept
        | apply Dev.sendPage_kept | (intro _)
    | split

theorem Dev.phyWait_kept (h : Dev.Kept d0 d) (a1) :
    Dev.Kept d0 (Dev.phyWait d a1) := by
  unfold Dev.phyWait
  dsimp only
  repeat'
    first
    | with_reducible
        first
        | assumption | apply Dev.Kept.ite | apply Dev.iff_kept | apply Dev.put_kept | apply Dev.linkStop_kept
        | apply Dev.phyClk_kept | apply Dev.pllEval_kept | apply Dev.sendPage_kept | apply Dev.setPhy_kept | (intro _)

theorem Dev.phyFallback_kept (h : Dev.Kept d0 d) (a1) :
    Dev.Kept d0 (Dev.phyFallback d a1) := by
  unfold Dev.phyFallback
  repeat' with_reducible first | assumption | apply Dev.phyWait_kept | apply Dev.phyCnt_kept | apply Dev.setPhy_kept

theorem Dev.phyRestart_kept (h : Dev.Kept d0 d) (a1) :
    Dev.Kept d0 (Dev.phyRestart d a1) := by
  unfold Dev.phyRestart
  repeat' with_reducible
    first
    | assumption | apply Dev.Kept.ite | apply Dev.phyWait_kept | apply Dev.setPhy_kept | (intro _)

theorem Dev.clockLost_kept (h : Dev.Kept d0 d) (a1 a2) :
    Dev.Kept d0 (Dev.clockLost d a1 a2) := by
  unfold Dev.clockLost
  dsimp only
  repeat'
    first
    | with_reducible
        first
        | assumption | apply Dev.Kept.ite | apply Dev.put_kept | apply Dev.ev_kept | apply Dev.phyCnt_kept
        | apply Dev.phyFallback_kept | apply Dev.phyWait_kept | apply Dev.pllEval_kept | (intro _)

theorem Dev.clockOk_kept (h : Dev.Kept d0 d) (a1 a2) :
    Dev.Kept d0 (Dev.clockOk d a1 a2) := by
  unfold Dev.clockOk
  dsimp only
  repeat'
    first
    | with_reducible
        first
        | assumption | apply Dev.Kept.ite | apply Dev.put_kept | apply Dev.phyClk_kept
        | apply Dev.pllEval_kept | apply Dev.trainSend_kept | (intro _)

theorem Dev.pageAccept_kept (h : Dev.Kept d0 d) (a1 a2) :
    Dev.Kept d0 (Dev.pageAccept d a1 a2) := by
  unfold Dev.pageAccept
  dsimp only
  repeat'
    first
    | with_reducible
        first
        | assumption | apply Dev.Kept.ite | apply Dev.put_kept | apply Dev.sendPage_kept
        | apply Dev.setPhy_kept | (intro _)
    | (with_reducible refine Dev.Kept.of_fst (by with_reducible assumption) ?_)
    | split
    | fail_if_no_progress (with_reducible refine .of_mk ?_ rfl rfl rfl rfl rfl)

theorem Dev.pagesDone_kept (h : Dev.Kept d0 d) (a1) :
    Dev.Kept d0 (Dev.pagesDone d a1) := by
  unfold Dev.pagesDone
  repeat' with_reducible first | assumption | apply Dev.Kept.ite | apply Dev.phySwitch_kept | (intro _)

theorem Dev.suspendOver_kept (h : Dev.Kept d0 d) (a1) :
    Dev.Kept d0 (Dev.suspendOver d a1) := by
  unfold Dev.suspendOver
  repeat' with_reducible first | assumption | apply Dev.Kept.ite | apply Dev.setPhy_kept | (intro _)

theorem Dev.switchTimeout_kept (h : Dev.Kept d0 d) (a1) :
    Dev.Kept d0 (Dev.switchTimeout d a1) := by
  unfold Dev.switchTimeout
  repeat' with_reducible first | assumption | apply Dev.Kept.ite | apply Dev.phyFallback_kept | (intro _)

theorem Dev.trainOver_kept (h : Dev.Kept d0 d) (a1 a2 a3) :
    Dev.Kept d0 (Dev.trainOver d a1 a2 a3) := by
  unfold Dev.trainOver
  dsimp only
  repeat'
    first
    | with_reducible
        first
        | assumption | apply Dev.Kept.ite | apply Dev.put_kept | apply Dev.ev_kept
        | apply Dev.linkRestart_kept | apply Dev.phyCnt_kept | apply Dev.phyFallback_kept
        | apply Dev.rxCodeFree_kept | apply Dev.setPhy_kept | (intro _)
    | (with_reducible refine Dev.Kept.of_fst (by with_reducible assumption) ?_)
    | split
    | fail_if_no_progress (with_reducible refine .of_mk ?_ rfl rfl rfl rfl rfl)

theorem Dev.cdrUnlock_kept (h : Dev.Kept d0 d) (a1 a2) :
    Dev.Kept d0 (Dev.cdrUnlock d a1 a2) := by
  unfold Dev.cdrUnlock
  repeat' with_reducible
    first
    | assumption | apply Dev.Kept.ite | apply Dev.put_kept | apply Dev.phyWait_kept | apply Dev.ev_kept
    | apply Dev.phyCnt_kept | (intro _)

theorem Dev.failRetry_kept (h : Dev.Kept d0 d) (a1) :
    Dev.Kept d0 (Dev.failRetry d a1) := by
  unfold Dev.failRetry
  repeat' with_reducible first | assumption | apply Dev.Kept.ite | apply Dev.phyRestart_kept | (intro _)

theorem Dev.patSend_kept (h : Dev.Kept d0 d) (a1) :
    Dev.Kept d0 (Dev.patSend d a1) := by
  unfold Dev.patSend
  dsimp only
  repeat'
    first
    | with_reducible
        first
        | assumption | apply Dev.Kept.ite | apply Dev.emit_kept | apply Dev.freed_kept | (intro _)

theorem Dev.patWrite_kept (h : Dev.Kept d0 d) (a1 a2) :
    Dev.Kept d0 (Dev.patWrite d a1 a2) := by
  unfold Dev.patWrite
  dsimp only
  repeat'
    first
    | with_reducible
        first
        | assumption | apply Dev.Kept.ite | apply Dev.iff_kept | apply Dev.put_kept | apply Dev.linkLane_kept
        | apply Dev.patSend_kept | apply Dev.phyWait_kept | (intro _)
    | (with_reducible refine Dev.Kept.of_fst (by with_reducible assumption) ?_)
    | split

theorem Dev.putAll_kept (h : Dev.Kept d0 d) (a1 a2) :
    Dev.Kept d0 (Dev.putAll d a1 a2) := by
  unfold Dev.putAll
  repeat' with_reducible first | assumption | apply Dev.each_kept | apply Dev.put_kept | (intro _)

theorem Dev.sleepCut_kept (h : Dev.Kept d0 d) (x : LaneDir) : Dev.Kept d0 (d.sleepCut x) := by
  cases x <;> dsimp only [Dev.sleepCut]
  all_goals repeat' with_reducible first | assumption | apply Dev.each_kept | apply Dev.txAsleep_kept | (intro _)

theorem Dev.sleepEnter_kept (h : Dev.Kept d0 d) (a1) :
    Dev.Kept d0 (Dev.sleepEnter d a1) := by
  unfold Dev.sleepEnter
  repeat'
    first
    | with_reducible
        first
        | assumption | apply Dev.Kept.ite | apply Dev.putAll_kept | apply Dev.sleepCut_kept | (intro _)
    | split

theorem Dev.setWake_kept (h : Dev.Kept d0 d) (a1) :
    Dev.Kept d0 (Dev.setWake d a1) := by
  unfold Dev.setWake
  repeat'
    first
    | with_reducible
        first
        | assumption | apply Dev.put_kept
    | fail_if_no_progress (with_reducible refine .of_mk ?_ rfl rfl rfl rfl rfl)

theorem Dev.wakeAsk_kept (h : Dev.Kept d0 d) (a1) :
    Dev.Kept d0 (Dev.wakeAsk d a1) := by
  unfold Dev.wakeAsk
  repeat' with_reducible first | assumption | apply Dev.Kept.ite | apply Dev.setWake_kept | (intro _)

theorem Dev.signal_kept (h : Dev.Kept d0 d) (a1 a2) :
    Dev.Kept d0 (Dev.signal d a1 a2) := by
  unfold Dev.signal
  dsimp only
  repeat'
    first
    | with_reducible
        first
        | assumption | apply Dev.Kept.ite | apply Dev.iff_kept | apply Dev.put_kept
        | apply Dev.wakeAsk_kept | (intro _)
    | (with_reducible refine Dev.Kept.of_fst (by with_reducible assumption) ?_)
    | split

theorem Dev.wakeDrop_kept (h : Dev.Kept d0 d) (a1) :
    Dev.Kept d0 (Dev.wakeDrop d a1) := by
  unfold Dev.wakeDrop
  repeat' with_reducible first | assumption | apply Dev.setWake_kept

theorem Dev.wakeRequest_kept (h : Dev.Kept d0 d) (a1) :
    Dev.Kept d0 (Dev.wakeRequest d a1) := by
  unfold Dev.wakeRequest
  repeat'
    first
    | with_reducible
        first
        | assumption | apply Dev.wakeAsk_kept
    | split

theorem Dev.wakeServe_kept (h : Dev.Kept d0 d) (a1) :
    Dev.Kept d0 (Dev.wakeServe d a1) := by
  induction a1 generalizing d  with
  | zero =>
    unfold Dev.wakeServe
    try dsimp only
    repeat' with_reducible first | assumption
  | succ m ih =>
    unfold Dev.wakeServe
    try dsimp only
    repeat'
      first
      | with_reducible
          first
          | assumption | apply ih | apply Dev.setWake_kept | apply Dev.put_kept | apply Dev.iff_kept
          | apply Dev.ev_kept | (intro _)
      | split

theorem Dev.wakeCycle_kept (h : Dev.Kept d0 d) :
    Dev.Kept d0 (Dev.wakeCycle d) := by
  unfold Dev.wakeCycle
  repeat'
    first
    | with_reducible
        first
        | assumption | apply Dev.wakeServe_kept
    | split
    | fail_if_no_progress (with_reducible refine .of_mk ?_ rfl rfl rfl rfl rfl)

theorem Dev.readyCtl_kept (h : Dev.Kept d0 d) (x : LaneDir) : Dev.Kept d0 (d.readyCtl x) := by
  cases x <;> dsimp only [Dev.readyCtl]
  all_goals
    repeat' with_reducible
      first
      | assumption | apply Dev.each_kept | apply Dev.iff_kept | apply Dev.nextCtl_kept | apply Dev.sendPage_kept
      | apply Dev.trainSend_kept | apply Dev.patSend_kept | (intro _)

theorem Dev.wakeDone_kept (h : Dev.Kept d0 d) (a1) :
    Dev.Kept d0 (Dev.wakeDone d a1) := by
  unfold Dev.wakeDone
  dsimp only
  repeat'
    first
    | with_reducible
        first
        | assumption | apply Dev.Kept.ite | apply Dev.putAll_kept | apply Dev.readyCtl_kept | (intro _)
    | (with_reducible refine Dev.Kept.of_fst (by with_reducible assumption) ?_)
    | split
    | fail_if_no_progress (with_reducible refine .of_mk ?_ rfl rfl rfl rfl rfl)

theorem Dev.gateWrite_kept (h : Dev.Kept d0 d) (a1) :
    Dev.Kept d0 (Dev.gateWrite d a1) := by
  unfold Dev.gateWrite
  repeat'
    first
    | with_reducible
        first
        | assumption | apply Dev.put_kept | apply Dev.each_kept | apply Dev.wakeDrop_kept | apply Dev.iff_kept
        | apply Dev.wakeAsk_kept | (intro _)
    | split
    | fail_if_no_progress (with_reducible refine .of_mk ?_ rfl rfl rfl rfl rfl)

end Sys2Proof.Machine
end

