-- ==== Sys2Proof/Laws/KeptGen.lean ====
section
/-!
SUPPORT. `Dev.Kept` (Safety.lean) through the operations of Machine/Gen.lean.
-/
namespace Sys2Proof.Machine

variable {d0 d : Dev}

theorem Dev.pendingBits_kept (h : Dev.Kept d0 d) :
    Dev.Kept d0 (Dev.pendingBits d) := by
  unfold Dev.pendingBits
  repeat' with_reducible first | assumption | apply Dev.put_kept

theorem Dev.confirm_kept (h : Dev.Kept d0 d) :
    Dev.Kept d0 (Dev.confirm d) := by
  unfold Dev.confirm
  repeat'
    first
    | with_reducible
        first
        | assumption | apply Dev.scrubStart_kept | apply Dev.ev_kept | apply Dev.put_kept
    | fail_if_no_progress (with_reducible refine .of_mk ?_ rfl rfl rfl rfl rfl)

theorem Dev.heldKinds_kept (h : Dev.Kept d0 d) (a1) :
    Dev.Kept d0 (Dev.heldKinds d a1) := by
  unfold Dev.heldKinds
  repeat' with_reducible first | assumption | apply Dev.put_kept

theorem Dev.polChange_kept (h : Dev.Kept d0 d) :
    Dev.Kept d0 (Dev.polChange d) := by
  unfold Dev.polChange
  repeat' with_reducible first | assumption | apply Dev.each_kept | apply Dev.polCommit_kept | (intro _)

theorem Dev.holdTag_kept (h : Dev.Kept d0 d) (a1) :
    Dev.Kept d0 (Dev.holdTag d a1) := by
  unfold Dev.holdTag
  repeat' with_reducible first | assumption | apply Dev.retireCheck_kept | apply Dev.put_kept

theorem Dev.commitEffect_kept (h : Dev.Kept d0 d) (a1) :
    Dev.Kept d0 (Dev.commitEffect d a1) := by
  unfold Dev.commitEffect
  dsimp only
  repeat'
    first
    | with_reducible
        first
        | assumption | apply Dev.Kept.ite | apply Dev.put_kept | apply Dev.bump_kept | apply Dev.confirm_kept
        | apply Dev.ev_kept | apply Dev.gatesMark_kept | apply Dev.heldKinds_kept | apply Dev.holdTag_kept
        | apply Dev.pendingBits_kept | apply Dev.polChange_kept | apply Dev.putWords_kept
        | apply Dev.replaced_kept | (intro _)
    | (with_reducible refine Dev.Kept.of_fst (by with_reducible assumption) ?_)
    | split
    | fail_if_no_progress (with_reducible refine .of_mk ?_ rfl rfl rfl rfl rfl)

theorem Dev.genCmd_kept (h : Dev.Kept d0 d) {f : Dev → Dev} (hf : ∀ (y : Dev), Dev.Kept d0 y → Dev.Kept d0 (f y)) :
    Dev.Kept d0 (d.genCmd f) := by
  unfold Dev.genCmd
  split
  · exact Dev.ev_kept h _
  · exact hf _ h

theorem Dev.commitStart_kept (h : Dev.Kept d0 d) (a1 a2 a3) :
    Dev.Kept d0 (Dev.commitStart d a1 a2 a3) := by
  unfold Dev.commitStart
  repeat'
    first
    | with_reducible
        first
        | assumption | apply Dev.genCmd_kept | apply Dev.put_kept | (intro _)
    | fail_if_no_progress (with_reducible refine .of_mk ?_ rfl rfl rfl rfl rfl)

theorem Dev.genEnd_kept (h : Dev.Kept d0 d) (a1) :
    Dev.Kept d0 (Dev.genEnd d a1) := by
  unfold Dev.genEnd
  repeat'
    first
    | with_reducible
        first
        | assumption | apply Dev.put_kept
    | fail_if_no_progress (with_reducible refine .of_mk ?_ rfl rfl rfl rfl rfl)

theorem Dev.armCommit_kept (h : Dev.Kept d0 d) (a1 a2 a3) :
    Dev.Kept d0 (Dev.armCommit d a1 a2 a3) := by
  unfold Dev.armCommit
  repeat'
    first
    | with_reducible
        first
        | assumption | apply Dev.pendingBits_kept | apply Dev.put_kept
    | fail_if_no_progress (with_reducible refine .of_mk ?_ rfl rfl rfl rfl rfl)

theorem Dev.commitValidated_kept (h : Dev.Kept d0 d) :
    Dev.Kept d0 (Dev.commitValidated d) := by
  unfold Dev.commitValidated
  dsimp only
  repeat'
    first
    | with_reducible
        first
        | assumption | apply Dev.genEnd_kept | apply Dev.bump_kept | apply Dev.ev_kept | apply Dev.pendingBits_kept
        | apply Dev.armCommit_kept | apply Dev.commitEffect_kept
    | split

theorem Dev.disarm_kept (h : Dev.Kept d0 d) :
    Dev.Kept d0 (Dev.disarm d) := by
  unfold Dev.disarm
  repeat'
    first
    | with_reducible
        first
        | assumption | apply Dev.pendingBits_kept | apply Dev.put_kept
    | fail_if_no_progress (with_reducible refine .of_mk ?_ rfl rfl rfl rfl rfl)

theorem Dev.commitInstant_kept (h : Dev.Kept d0 d) (a1) :
    Dev.Kept d0 (Dev.commitInstant d a1) := by
  unfold Dev.commitInstant
  repeat'
    first
    | with_reducible
        first
        | assumption | apply Dev.commitEffect_kept
    | split

theorem Dev.abortCommit_kept (h : Dev.Kept d0 d) :
    Dev.Kept d0 (Dev.abortCommit d) := by
  unfold Dev.abortCommit
  repeat' with_reducible
    first
    | assumption | apply Dev.Kept.ite | apply Dev.genCmd_kept | apply Dev.genEnd_kept | apply Dev.disarm_kept
    | (intro _)

theorem Dev.confirmCmd_kept (h : Dev.Kept d0 d) :
    Dev.Kept d0 (Dev.confirmCmd d) := by
  unfold Dev.confirmCmd
  repeat' with_reducible
    first
    | assumption | apply Dev.Kept.ite | apply Dev.genCmd_kept | apply Dev.genEnd_kept | apply Dev.confirm_kept
    | (intro _)

theorem Dev.rollback_kept (h : Dev.Kept d0 d) (a1) :
    Dev.Kept d0 (Dev.rollback d a1) := by
  unfold Dev.rollback
  dsimp only
  repeat'
    first
    | with_reducible
        first
        | assumption | apply Dev.put_kept | apply Dev.bump_kept | apply Dev.ev_kept | apply Dev.gatesMark_kept
        | apply Dev.heldKinds_kept | apply Dev.holdTag_kept | apply Dev.pendingBits_kept
        | apply Dev.polChange_kept | apply Dev.putWords_kept | apply Dev.replaced_kept | (intro _)
    | (with_reducible refine Dev.Kept.of_fst (by with_reducible assumption) ?_)
    | fail_if_no_progress (with_reducible refine .of_mk ?_ rfl rfl rfl rfl rfl)

theorem Dev.rollbackCmd_kept (h : Dev.Kept d0 d) :
    Dev.Kept d0 (Dev.rollbackCmd d) := by
  unfold Dev.rollbackCmd
  repeat' with_reducible
    first
    | assumption | apply Dev.Kept.ite | apply Dev.genCmd_kept | apply Dev.genEnd_kept | apply Dev.rollback_kept
    | (intro _)

theorem Dev.confirmTimeout_kept (h : Dev.Kept d0 d) :
    Dev.Kept d0 (Dev.confirmTimeout d) := by
  unfold Dev.confirmTimeout
  repeat' with_reducible first | assumption | apply Dev.Kept.ite | apply Dev.rollback_kept | (intro _)

theorem Dev.revertDone_kept (h : Dev.Kept d0 d) :
    Dev.Kept d0 (Dev.revertDone d) := by
  unfold Dev.revertDone
  repeat'
    first
    | with_reducible
        first
        | assumption | apply Dev.pendingBits_kept
    | split
    | fail_if_no_progress (with_reducible refine .of_mk ?_ rfl rfl rfl rfl rfl)

theorem Dev.renumber_kept (h : Dev.Kept d0 d) :
    Dev.Kept d0 (Dev.renumber d) := by
  unfold Dev.renumber
  repeat' with_reducible
    first
    | assumption | apply Dev.Kept.ite | apply Dev.genCmd_kept | apply Dev.genEnd_kept | apply Dev.put_kept
    | (intro _)

theorem Dev.discardStart_kept (h : Dev.Kept d0 d) :
    Dev.Kept d0 (Dev.discardStart d) := by
  unfold Dev.discardStart
  repeat'
    first
    | with_reducible
        first
        | assumption | apply Dev.genCmd_kept | apply Dev.genEnd_kept | apply Dev.put_kept | (intro _)
    | split
    | fail_if_no_progress (with_reducible refine .of_mk ?_ rfl rfl rfl rfl rfl)

theorem Dev.discardDone_kept (h : Dev.Kept d0 d) :
    Dev.Kept d0 (Dev.discardDone d) := by
  unfold Dev.discardDone
  repeat' with_reducible
    first
    | assumption | apply Dev.Kept.ite | apply Dev.revertDone_kept | apply Dev.each_kept | apply Dev.iff_kept
    | apply Dev.famDiscard_kept | apply Dev.put_kept | apply Dev.pendingBits_kept | apply Dev.genEnd_kept
    | apply Dev.ev_kept | (intro _)

theorem Dev.genScrubDone_kept (h : Dev.Kept d0 d) (a1) :
    Dev.Kept d0 (Dev.genScrubDone d a1) := by
  unfold Dev.genScrubDone
  repeat' with_reducible
    first
    | assumption | apply Dev.scrubDone_kept | apply Dev.iff_kept | apply Dev.put_kept | (intro _)

theorem Dev.fwConfirm_kept (h : Dev.Kept d0 d) :
    Dev.Kept d0 (Dev.fwConfirm d) := by
  unfold Dev.fwConfirm
  dsimp only
  repeat'
    first
    | with_reducible
        first
        | assumption | apply Dev.Kept.ite | apply Dev.put_kept | apply Dev.emit_kept | (intro _)
    | (with_reducible refine Dev.Kept.of_fst (by with_reducible assumption) ?_)
    | split
    | fail_if_no_progress (with_reducible refine .of_mk ?_ rfl rfl rfl rfl rfl)

theorem Dev.fwRecordDone_kept (h : Dev.Kept d0 d) :
    Dev.Kept d0 (Dev.fwRecordDone d) := by
  unfold Dev.fwRecordDone
  repeat' with_reducible first | assumption | apply Dev.Kept.ite | apply Dev.put_kept | (intro _)

end Sys2Proof.Machine
end

