-- ==== Sys2Proof/Laws/KeptRiser.lean ====
section
/-!
SUPPORT. `Dev.Kept` (Safety.lean) through the operations of Machine/Riser.lean.
-/
namespace Sys2Proof.Machine

variable {d0 d : Dev}

theorem Dev.setRlink_kept (h : Dev.Kept d0 d) (a1 a2) :
    Dev.Kept d0 (Dev.setRlink d a1 a2) := by
  unfold Dev.setRlink
  exact h.of_wf rfl rfl id id id

theorem Dev.setHier_kept (h : Dev.Kept d0 d) (a1) :
    Dev.Kept d0 (Dev.setHier d a1) := by
  unfold Dev.setHier
  exact h.of_wf rfl rfl id id id

theorem Dev.linkCnt_kept (h : Dev.Kept d0 d) (a1 a2) :
    Dev.Kept d0 (Dev.linkCnt d a1 a2) := by
  unfold Dev.linkCnt
  repeat' with_reducible first | assumption | apply Dev.bump_kept

theorem Dev.rsrCnt_kept (h : Dev.Kept d0 d) (a1 a2) :
    Dev.Kept d0 (Dev.rsrCnt d a1 a2) := by
  unfold Dev.rsrCnt
  repeat' with_reducible first | assumption | apply Dev.bump_kept

theorem Dev.queueRec_kept (h : Dev.Kept d0 d) (a1 a2) :
    Dev.Kept d0 (Dev.queueRec d a1 a2) := by
  unfold Dev.queueRec
  repeat' with_reducible first | assumption | apply Dev.Kept.ite | apply Dev.setRlink_kept | (intro _)

theorem Dev.loopRec_kept (h : Dev.Kept d0 d) (a1 a2 a3) :
    Dev.Kept d0 (Dev.loopRec d a1 a2 a3) := by
  unfold Dev.loopRec
  repeat' with_reducible first | assumption | apply Dev.setHier_kept

theorem Dev.noRoute_kept (h : Dev.Kept d0 d) (a1) :
    Dev.Kept d0 (Dev.noRoute d a1) := by
  unfold Dev.noRoute
  repeat' with_reducible first | assumption | apply Dev.linkCnt_kept

theorem Dev.routeRec_kept (h : Dev.Kept d0 d) (a1 a2) :
    Dev.Kept d0 (Dev.routeRec d a1 a2) := by
  unfold Dev.routeRec
  dsimp only
  repeat'
    first
    | with_reducible
        first
        | assumption | apply Dev.loopRec_kept | apply Dev.queueRec_kept | apply Dev.noRoute_kept
    | split

theorem Dev.broadcast_kept (h : Dev.Kept d0 d) (a1 a2) :
    Dev.Kept d0 (Dev.broadcast d a1 a2) := by
  unfold Dev.broadcast
  repeat' with_reducible
    first
    | assumption | apply Dev.each_kept | apply Dev.iff_kept | apply Dev.queueRec_kept | (intro _)

theorem Dev.riserTake_kept (h : Dev.Kept d0 d) (a1) :
    Dev.Kept d0 (Dev.riserTake d a1).1 := by
  induction a1 generalizing d  with
  | nil =>
    unfold Dev.riserTake
    repeat' with_reducible first | assumption
  | cons e r ih =>
    unfold Dev.riserTake
    repeat'
      first
      | with_reducible
          first
          | assumption | apply ih | apply Dev.take_kept
      | (with_reducible refine Dev.Kept.of_fst (by with_reducible assumption) ?_)
      | split

theorem Dev.fillWagon_kept (h : Dev.Kept d0 d) (a1 a2 a3 a4 a5) :
    Dev.Kept d0 (Dev.fillWagon d a1 a2 a3 a4 a5).1 := by
  induction a3 generalizing d a4 a5 with
  | zero =>
    unfold Dev.fillWagon
    dsimp only
    repeat' with_reducible first | assumption
  | succ m ih =>
    unfold Dev.fillWagon
    dsimp only
    repeat'
      first
      | with_reducible
          first
          | assumption | apply ih | apply Dev.setRlink_kept | apply Dev.riserTake_kept | apply Dev.editOut_kept
          | apply Dev.release_kept | apply Dev.stamped_kept
      | (with_reducible refine Dev.Kept.of_fst (by with_reducible assumption) ?_)
      | split

theorem Dev.abortTx_kept (h : Dev.Kept d0 d) (a1) :
    Dev.Kept d0 (Dev.abortTx d a1) := by
  unfold Dev.abortTx
  dsimp only
  repeat'
    first
    | with_reducible
        first
        | assumption | apply Dev.linkCnt_kept | apply Dev.setRlink_kept
    | split

theorem Dev.wagon_kept (h : Dev.Kept d0 d) (a1 a2 a3 a4 a5) :
    Dev.Kept d0 (Dev.wagon d a1 a2 a3 a4 a5) := by
  unfold Dev.wagon
  dsimp only
  repeat'
    first
    | with_reducible
        first
        | assumption | apply Dev.Kept.ite | apply Dev.emit_kept | apply Dev.linkCnt_kept
        | apply Dev.setRlink_kept | apply Dev.useCounter_kept | apply Dev.wagonLanes_kept | (intro _)
    | (with_reducible refine Dev.Kept.of_fst (by with_reducible assumption) ?_)
    | split

theorem Dev.mgmtWagon_kept (h : Dev.Kept d0 d) (a1 a2 a3) :
    Dev.Kept d0 (Dev.mgmtWagon d a1 a2 a3) := by
  unfold Dev.mgmtWagon
  repeat'
    first
    | with_reducible
        first
        | assumption | apply Dev.wagon_kept | apply Dev.setRlink_kept | apply Dev.each_kept
        | apply Dev.queueRec_kept | apply Dev.setHier_kept | (intro _)
    | split

theorem Dev.downDrop_kept (h : Dev.Kept d0 d) (a1 a2) :
    Dev.Kept d0 (Dev.downDrop d a1 a2) := by
  induction a2 generalizing d  with
  | zero =>
    unfold Dev.downDrop
    repeat' with_reducible first | assumption
  | succ m ih =>
    unfold Dev.downDrop
    repeat'
      first
      | with_reducible
          first
          | assumption | apply ih | apply Dev.riserTake_kept | apply Dev.linkCnt_kept | apply Dev.release_kept
      | (with_reducible refine Dev.Kept.of_fst (by with_reducible assumption) ?_)
      | split

theorem Dev.wagonSend_kept (h : Dev.Kept d0 d) (a1 a2) :
    Dev.Kept d0 (Dev.wagonSend d a1 a2) := by
  unfold Dev.wagonSend
  repeat' with_reducible
    first
    | assumption | apply Dev.Kept.ite | apply Dev.downDrop_kept | apply Dev.abortTx_kept | apply Dev.rsrSwitch_kept
    | apply Dev.rsrCnt_kept | apply Dev.wagon_kept | apply Dev.setRlink_kept | apply Dev.linkCnt_kept
    | apply Dev.mgmtWagon_kept | apply Dev.fillWagon_kept | (intro _)

theorem Dev.failFids_kept (h : Dev.Kept d0 d) (a1 a2) :
    Dev.Kept d0 (Dev.failFids d a1 a2) := by
  unfold Dev.failFids
  dsimp only
  repeat'
    first
    | with_reducible
        first
        | assumption | apply Dev.Kept.ite | apply Dev.each_kept | apply Dev.iff_kept | apply Dev.bumpBy_kept
        | apply Dev.hostPorts_kept | apply Dev.loseBefore.cont_kept | apply Dev.nextCtl_kept
        | apply Dev.onFid_kept | apply Dev.rxRun_kept | apply Dev.setRlink_kept | apply Dev.stomp_kept | (intro _)
    | (with_reducible refine Dev.Kept.of_fst (by with_reducible assumption) ?_)
    | split

theorem Dev.failCont_kept (h : Dev.Kept d0 d) (a1) :
    Dev.Kept d0 (Dev.failCont d a1) := by
  unfold Dev.failCont
  repeat'
    first
    | with_reducible
        first
        | assumption | apply Dev.failFids_kept
    | split

theorem Dev.releaseRx_kept (h : Dev.Kept d0 d) (a1 a2 a3) :
    Dev.Kept d0 (Dev.releaseRx d a1 a2 a3) := by
  unfold Dev.releaseRx
  repeat' with_reducible
    first
    | assumption | apply Dev.Kept.ite | apply Dev.setRlink_kept | apply Dev.arrive_kept | apply Dev.onFid_kept
    | (intro _)

theorem Dev.wagonBody_kept (h : Dev.Kept d0 d) (a1 a2 a3) :
    Dev.Kept d0 (Dev.wagonBody d a1 a2 a3) := by
  unfold Dev.wagonBody
  dsimp only
  repeat'
    first
    | with_reducible
        first
        | assumption | apply Dev.setRlink_kept | apply Dev.linkCnt_kept | apply Dev.failCont_kept
        | apply Dev.setHier_kept | apply Dev.iff_kept | apply Dev.each_kept | apply Dev.releaseRx_kept | (intro _)
    | split

theorem Dev.wagonCounter_kept (h : Dev.Kept d0 d) (a1 a2 a3) :
    Dev.Kept d0 (Dev.wagonCounter d a1 a2 a3) := by
  unfold Dev.wagonCounter
  repeat'
    first
    | with_reducible
        first
        | assumption | apply Dev.failCont_kept | apply Dev.bumpBy_kept | apply Dev.setRlink_kept
    | split

theorem Dev.freeWagon_kept (h : Dev.Kept d0 d) (a1 a2) :
    Dev.Kept d0 (Dev.freeWagon d a1 a2) := by
  unfold Dev.freeWagon
  repeat' with_reducible first | assumption | apply Dev.setRlink_kept

theorem Dev.freeKept_kept (h : Dev.Kept d0 d) (a1) :
    Dev.Kept d0 (Dev.freeKept d a1) := by
  unfold Dev.freeKept
  dsimp only
  repeat'
    first
    | with_reducible
        first
        | assumption | apply Dev.setRlink_kept | (intro _)
    | (with_reducible refine Dev.Kept.of_fst (by with_reducible assumption) ?_)
    | fail_if_no_progress (with_reducible refine .of_mk ?_ rfl rfl rfl rfl rfl)

theorem Dev.wagonTake_kept (h : Dev.Kept d0 d) (a1 a2 a3) :
    Dev.Kept d0 (Dev.wagonTake d a1 a2 a3) := by
  unfold Dev.wagonTake
  repeat' with_reducible
    first
    | assumption | apply Dev.Kept.ite | apply Dev.setRlink_kept | apply Dev.freeWagon_kept | apply Dev.rsrCnt_kept | apply Dev.ev_kept
    | apply Dev.wagonBody_kept | apply Dev.wagonCounter_kept | (intro _)

theorem Dev.wagonRxd_kept (h : Dev.Kept d0 d) (a1 a2 a3 a4) :
    Dev.Kept d0 (Dev.wagonRxd d a1 a2 a3 a4) := by
  unfold Dev.wagonRxd
  repeat' with_reducible
    first
    | assumption | apply Dev.Kept.ite | apply Dev.iff_kept | apply Dev.ev_kept | apply Dev.bumpBy_kept
    | apply Dev.put_kept | apply Dev.wagonTake_kept | apply Dev.failCont_kept | apply Dev.linkCnt_kept
    | apply Dev.setRlink_kept | apply Dev.phyRestart_kept | (intro _)

theorem Dev.laneRx_kept (h : Dev.Kept d0 d) (a1 a2 a3 a4) :
    Dev.Kept d0 (Dev.laneRx d a1 a2 a3 a4) := by
  unfold Dev.laneRx
  dsimp only
  repeat'
    first
    | with_reducible
        first
        | assumption | apply Dev.Kept.ite | apply Dev.freeKept_kept | apply Dev.laneRecv_kept
        | apply Dev.wagonRxd_kept | (intro _)
    | (with_reducible refine Dev.Kept.of_fst (by with_reducible assumption) ?_)
    | split

theorem Dev.wagonVerdict_kept (h : Dev.Kept d0 d) (a1) :
    Dev.Kept d0 (Dev.wagonVerdict d a1) := by
  unfold Dev.wagonVerdict
  dsimp only
  repeat'
    first
    | with_reducible
        first
        | assumption | apply Dev.Kept.ite | apply Dev.each_kept | apply Dev.iff_kept | apply Dev.ev_kept
        | apply Dev.failFids_kept | apply Dev.freeKept_kept | apply Dev.freeWagon_kept
        | apply Dev.linkCnt_kept | apply Dev.loopRec_kept | apply Dev.releaseRx_kept | apply Dev.rsrCnt_kept
        | apply Dev.rxAccept_kept | apply Dev.setRlink_kept | (intro _)
    | (with_reducible refine Dev.Kept.of_fst (by with_reducible assumption) ?_)
    | split
    | fail_if_no_progress (with_reducible refine .of_mk ?_ rfl rfl rfl rfl rfl)

theorem Dev.probeEnd_kept (h : Dev.Kept d0 d) (a1) :
    Dev.Kept d0 (Dev.probeEnd d a1) := by
  unfold Dev.probeEnd
  repeat' with_reducible first | assumption | apply Dev.setHier_kept | apply Dev.ev_kept | apply Dev.put_kept

theorem Dev.probeGo_kept (h : Dev.Kept d0 d) (a1 a2) :
    Dev.Kept d0 (Dev.probeGo d a1 a2) := by
  unfold Dev.probeGo
  repeat' with_reducible
    first
    | assumption | apply Dev.Kept.ite | apply Dev.probeEnd_kept | apply Dev.setHier_kept | apply Dev.put_kept
    | apply Dev.queueRec_kept | (intro _)

theorem Dev.probe_kept (h : Dev.Kept d0 d) (a1 a2) :
    Dev.Kept d0 (Dev.probe d a1 a2) := by
  unfold Dev.probe
  repeat' with_reducible
    first
    | assumption | apply Dev.Kept.ite | apply Dev.queueRec_kept | apply Dev.put_kept | apply Dev.ev_kept
    | (intro _)

theorem Dev.probeReply_kept (h : Dev.Kept d0 d) (a1 a2) :
    Dev.Kept d0 (Dev.probeReply d a1 a2) := by
  unfold Dev.probeReply
  repeat' with_reducible
    first
    | assumption | apply Dev.Kept.ite | apply Dev.putWide_kept | apply Dev.put_kept | apply Dev.probeEnd_kept
    | (intro _)

theorem Dev.probeTimeout_kept (h : Dev.Kept d0 d) :
    Dev.Kept d0 (Dev.probeTimeout d) := by
  unfold Dev.probeTimeout
  repeat' with_reducible first | assumption | apply Dev.Kept.ite | apply Dev.probeEnd_kept | (intro _)

theorem Dev.raccEnd_kept (h : Dev.Kept d0 d) (a1 a2) :
    Dev.Kept d0 (Dev.raccEnd d a1 a2) := by
  unfold Dev.raccEnd
  repeat' with_reducible first | assumption | apply Dev.setHier_kept | apply Dev.ev_kept | apply Dev.put_kept

theorem Dev.raccCmd_kept (h : Dev.Kept d0 d) (a1 a2) :
    Dev.Kept d0 (Dev.raccCmd d a1 a2) := by
  unfold Dev.raccCmd
  repeat' with_reducible
    first
    | assumption | apply Dev.Kept.ite | apply Dev.put_kept | apply Dev.raccEnd_kept | apply Dev.setHier_kept
    | apply Dev.routeRec_kept | (intro _)

theorem Dev.resp_kept (h : Dev.Kept d0 d) (a1) :
    Dev.Kept d0 (Dev.resp d a1) := by
  unfold Dev.resp
  repeat'
    first
    | with_reducible
        first
        | assumption | apply Dev.setHier_kept | apply Dev.iff_kept | apply Dev.put_kept | apply Dev.raccEnd_kept
        | (intro _)
    | split

theorem Dev.raccTimeout_kept (h : Dev.Kept d0 d) (a1) :
    Dev.Kept d0 (Dev.raccTimeout d a1) := by
  unfold Dev.raccTimeout
  repeat' with_reducible first | assumption | apply Dev.Kept.ite | apply Dev.raccEnd_kept | (intro _)

theorem Dev.sendEvent_kept (h : Dev.Kept d0 d) (a1) :
    Dev.Kept d0 (Dev.sendEvent d a1) := by
  unfold Dev.sendEvent
  repeat' with_reducible first | assumption | apply Dev.Kept.ite | apply Dev.routeRec_kept | (intro _)

theorem Dev.eventRx_kept (h : Dev.Kept d0 d) (a1) :
    Dev.Kept d0 (Dev.eventRx d a1) := by
  unfold Dev.eventRx
  repeat' with_reducible
    first
    | assumption | apply Dev.Kept.ite | apply Dev.ev_kept | apply Dev.put_kept | (intro _)

theorem Dev.eventRepeat_kept (h : Dev.Kept d0 d) :
    Dev.Kept d0 (Dev.eventRepeat d) := by
  unfold Dev.eventRepeat
  repeat' with_reducible first | assumption | apply Dev.Kept.ite | apply Dev.sendEvent_kept | (intro _)

theorem Dev.xferTimer_kept (h : Dev.Kept d0 d) :
    Dev.Kept d0 (Dev.xferTimer d) := by
  unfold Dev.xferTimer
  repeat' with_reducible
    first
    | assumption | apply Dev.Kept.ite | apply Dev.each_kept | apply Dev.setHier_kept | apply Dev.queueRec_kept
    | (intro _)

theorem Dev.syncRx_kept (h : Dev.Kept d0 d) (a1 a2 a3) :
    Dev.Kept d0 (Dev.syncRx d a1 a2 a3) := by
  unfold Dev.syncRx
  repeat' with_reducible first | assumption | apply Dev.Kept.ite | apply Dev.setHier_kept | (intro _)

theorem Dev.upperEpoch_kept (h : Dev.Kept d0 d) (a1 a2) :
    Dev.Kept d0 (Dev.upperEpoch d a1 a2) := by
  unfold Dev.upperEpoch
  repeat'
    first
    | with_reducible
        first
        | assumption | apply Dev.Kept.ite | apply Dev.put_kept | apply Dev.ev_kept | (intro _)

theorem Dev.followRx_kept (h : Dev.Kept d0 d) (a1 a2) :
    Dev.Kept d0 (Dev.followRx d a1 a2) := by
  unfold Dev.followRx
  dsimp only
  repeat'
    first
    | with_reducible
        first
        | assumption | apply Dev.Kept.ite | apply Dev.queueRec_kept | apply Dev.setHier_kept
        | apply Dev.upperEpoch_kept | (intro _)
    | (with_reducible refine Dev.Kept.of_fst (by with_reducible assumption) ?_)
    | split

theorem Dev.dreqRx_kept (h : Dev.Kept d0 d) (a1 a2 a3) :
    Dev.Kept d0 (Dev.dreqRx d a1 a2 a3) := by
  unfold Dev.dreqRx
  repeat' with_reducible first | assumption | apply Dev.Kept.ite | apply Dev.queueRec_kept | (intro _)

theorem Dev.drespRx_kept (h : Dev.Kept d0 d) (a1 a2) :
    Dev.Kept d0 (Dev.drespRx d a1 a2) := by
  unfold Dev.drespRx
  repeat'
    first
    | with_reducible
        first
        | assumption | apply Dev.iff_kept | apply Dev.sampleFrom_kept | apply Dev.setHier_kept | apply Dev.ev_kept
        | (intro _)
    | split

theorem Dev.exchTimeout_kept (h : Dev.Kept d0 d) :
    Dev.Kept d0 (Dev.exchTimeout d) := by
  unfold Dev.exchTimeout
  repeat' with_reducible
    first
    | assumption | apply Dev.Kept.ite | apply Dev.bump_kept | apply Dev.setHier_kept | (intro _)

theorem Dev.pairMove_kept (h : Dev.Kept d0 d) (a1 a2) :
    Dev.Kept d0 (Dev.pairMove d a1 a2) := by
  unfold Dev.pairMove
  dsimp only
  repeat'
    first
    | with_reducible
        first
        | assumption | apply Dev.Kept.ite | apply Dev.linkCnt_kept | apply Dev.setRlink_kept | (intro _)
    | (with_reducible refine Dev.Kept.of_fst (by with_reducible assumption) ?_)
    | split
    | fail_if_no_progress (with_reducible refine .of_mk ?_ rfl rfl rfl rfl rfl)

theorem Dev.pairTo_kept (h : Dev.Kept d0 d) (a1 a2 a3) :
    Dev.Kept d0 (Dev.pairTo d a1 a2 a3) := by
  unfold Dev.pairTo
  dsimp only
  repeat'
    first
    | with_reducible
        first
        | assumption | apply Dev.Kept.ite | apply Dev.iff_kept | apply Dev.put_kept
        | apply Dev.clockBuildOut_kept | apply Dev.ev_kept | apply Dev.pairMove_kept | apply Dev.pllEval_kept
        | apply Dev.setRlink_kept | (intro _)
    | (with_reducible refine Dev.Kept.of_fst (by with_reducible assumption) ?_)
    | split
    | fail_if_no_progress (with_reducible refine .of_mk ?_ rfl rfl rfl rfl rfl)

theorem Dev.pairSwitch_kept (h : Dev.Kept d0 d) (a1) :
    Dev.Kept d0 (Dev.pairSwitch d a1) := by
  unfold Dev.pairSwitch
  dsimp only
  repeat'
    first
    | with_reducible
        first
        | assumption | apply Dev.pairTo_kept
    | split

theorem Dev.homingRx_kept (h : Dev.Kept d0 d) (a1) :
    Dev.Kept d0 (Dev.homingRx d a1) := by
  unfold Dev.homingRx
  repeat'
    first
    | with_reducible
        first
        | assumption | apply Dev.ev_kept | apply Dev.pairTo_kept
    | split

theorem Dev.pairOn_kept (h : Dev.Kept d0 d) (a1) :
    Dev.Kept d0 (Dev.pairOn d a1) := by
  unfold Dev.pairOn
  dsimp only
  repeat'
    first
    | with_reducible
        first
        | assumption | apply Dev.put_kept | apply Dev.pairMove_kept | (intro _)
    | (with_reducible refine Dev.Kept.of_fst (by with_reducible assumption) ?_)
    | split

theorem Dev.hierCtrl_kept (h : Dev.Kept d0 d) (a1) :
    Dev.Kept d0 (Dev.hierCtrl d a1) := by
  unfold Dev.hierCtrl
  dsimp only
  repeat'
    first
    | with_reducible
        first
        | assumption | apply Dev.iff_kept | apply Dev.put_kept | apply Dev.pairOn_kept
        | apply Dev.pllEval_kept | (intro _)
    | (with_reducible refine Dev.Kept.of_fst (by with_reducible assumption) ?_)

theorem Dev.linkOff_kept (h : Dev.Kept d0 d) (a1) :
    Dev.Kept d0 (Dev.linkOff d a1) := by
  unfold Dev.linkOff
  dsimp only
  repeat'
    first
    | with_reducible
        first
        | assumption | apply Dev.put_kept | apply Dev.failCont_kept | apply Dev.freeKept_kept
        | apply Dev.setRlink_kept | (intro _)
    | (with_reducible refine Dev.Kept.of_fst (by with_reducible assumption) ?_)
    | fail_if_no_progress (with_reducible refine .of_mk ?_ rfl rfl rfl rfl rfl)

theorem Dev.linkCtrl_kept (h : Dev.Kept d0 d) (a1 a2) :
    Dev.Kept d0 (Dev.linkCtrl d a1 a2) := by
  unfold Dev.linkCtrl
  dsimp only
  repeat'
    first
    | with_reducible
        first
        | assumption | apply Dev.iff_kept | apply Dev.put_kept | apply Dev.linkOff_kept | (intro _)
    | (with_reducible refine Dev.Kept.of_fst (by with_reducible assumption) ?_)

theorem Dev.gopShow_kept (h : Dev.Kept d0 d) (a1 a2 a3) :
    Dev.Kept d0 (Dev.gopShow d a1 a2 a3) := by
  unfold Dev.gopShow
  repeat' with_reducible first | assumption | apply Dev.put_kept

theorem Dev.gopHold_kept (h : Dev.Kept d0 d) (a1) :
    Dev.Kept d0 (Dev.gopHold d a1) := by
  unfold Dev.gopHold
  repeat' with_reducible
    first
    | assumption | apply Dev.Kept.ite | apply Dev.setHier_kept | apply Dev.put_kept | apply Dev.gopShow_kept
    | apply Dev.armCommit_kept | (intro _)

theorem Dev.gopGo_kept (h : Dev.Kept d0 d) :
    Dev.Kept d0 (Dev.gopGo d) := by
  unfold Dev.gopGo
  repeat' with_reducible
    first
    | assumption | apply Dev.Kept.ite | apply Dev.ev_kept | apply Dev.gopShow_kept | apply Dev.put_kept
    | apply Dev.gopHold_kept | apply Dev.setHier_kept | apply Dev.broadcast_kept | (intro _)

theorem Dev.gopReportTo_kept (h : Dev.Kept d0 d) (a1 a2 a3) :
    Dev.Kept d0 (Dev.gopReportTo d a1 a2 a3) := by
  unfold Dev.gopReportTo
  repeat' with_reducible first | assumption | apply Dev.routeRec_kept

theorem Dev.gopArm_kept (h : Dev.Kept d0 d) (a1) :
    Dev.Kept d0 (Dev.gopArm d a1) := by
  unfold Dev.gopArm
  repeat' with_reducible
    first
    | assumption | apply Dev.Kept.ite | apply Dev.gopHold_kept | apply Dev.put_kept | apply Dev.gopShow_kept
    | apply Dev.gopReportTo_kept | (intro _)

theorem Dev.gopDisarm_kept (h : Dev.Kept d0 d) :
    Dev.Kept d0 (Dev.gopDisarm d) := by
  unfold Dev.gopDisarm
  repeat'
    first
    | with_reducible
        first
        | assumption | apply Dev.setHier_kept | apply Dev.gopReportTo_kept | apply Dev.iff_kept
        | apply Dev.disarm_kept
    | split

theorem Dev.gopCancelAll_kept (h : Dev.Kept d0 d) (a1 a2) :
    Dev.Kept d0 (Dev.gopCancelAll d a1 a2) := by
  unfold Dev.gopCancelAll
  repeat'
    first
    | with_reducible
        first
        | assumption | apply Dev.gopDisarm_kept | apply Dev.broadcast_kept | apply Dev.gopShow_kept
    | split

theorem Dev.gopAbort_kept (h : Dev.Kept d0 d) :
    Dev.Kept d0 (Dev.gopAbort d) := by
  unfold Dev.gopAbort
  repeat'
    first
    | with_reducible
        first
        | assumption | apply Dev.gopCancelAll_kept
    | split

theorem Dev.gopCtrl_kept (h : Dev.Kept d0 d) (a1) :
    Dev.Kept d0 (Dev.gopCtrl d a1) := by
  unfold Dev.gopCtrl
  repeat' with_reducible
    first
    | assumption | apply Dev.put_kept | apply Dev.iff_kept | apply Dev.gopAbort_kept | apply Dev.gopGo_kept

theorem Dev.gopPoint_kept (h : Dev.Kept d0 d) :
    Dev.Kept d0 (Dev.gopPoint d) := by
  unfold Dev.gopPoint
  dsimp only
  repeat'
    first
    | with_reducible
        first
        | assumption | apply Dev.gopCancelAll_kept
    | split

theorem Dev.gopCancelRx_kept (h : Dev.Kept d0 d) (a1) :
    Dev.Kept d0 (Dev.gopCancelRx d a1) := by
  unfold Dev.gopCancelRx
  repeat'
    first
    | with_reducible
        first
        | assumption | apply Dev.gopDisarm_kept | apply Dev.gopShow_kept
    | split

theorem Dev.gopReport_kept (h : Dev.Kept d0 d) (a1) :
    Dev.Kept d0 (Dev.gopReport d a1) := by
  unfold Dev.gopReport
  repeat' with_reducible
    first
    | assumption | apply Dev.Kept.ite | apply Dev.setHier_kept | apply Dev.gopCancelAll_kept | apply Dev.put_kept
    | (intro _)

theorem Dev.takeSnapshot_kept (h : Dev.Kept d0 d) :
    Dev.Kept d0 (Dev.takeSnapshot d) := by
  unfold Dev.takeSnapshot
  repeat' with_reducible
    first
    | assumption | apply Dev.setHier_kept | apply Dev.putWords_kept | apply Dev.put_kept | apply Dev.incr_kept

theorem Dev.gopExecute_kept (h : Dev.Kept d0 d) :
    Dev.Kept d0 (Dev.gopExecute d).1 := by
  unfold Dev.gopExecute
  repeat'
    first
    | with_reducible
        first
        | assumption | apply Dev.setHier_kept | apply Dev.commitInstant_kept | apply Dev.takeSnapshot_kept
        | apply Dev.iff_kept | apply Dev.put_kept | apply Dev.ev_kept | apply Dev.gopReportTo_kept | (intro _)
    | split

end Sys2Proof.Machine
end

