-- ==== Sys2Proof/Laws/KeptReset.lean ====
section
/-!
SUPPORT. `Dev.Kept` (Safety.lean) through the operations of Machine/Reset.lean.
-/
namespace Sys2Proof.Machine

variable {d0 d : Dev}

theorem Dev.pllWarm_kept (h : Dev.Kept d0 d) :
    Dev.Kept d0 (Dev.pllWarm d) := by
  unfold Dev.pllWarm
  repeat' with_reducible first | assumption | apply Dev.put_kept

theorem Dev.dsdPins_kept (h : Dev.Kept d0 d) :
    Dev.Kept d0 (Dev.dsdPins d) := by
  unfold Dev.dsdPins
  repeat'
    first
    | with_reducible
        first
        | assumption | apply Dev.each_kept | apply Dev.dsdPin_kept | (intro _)

theorem Dev.coldClear_kept (h : Dev.Kept d0 d) : Dev.Kept d0 (Dev.coldClear d) := by
  unfold Dev.coldClear
  exact Dev.dsdPins_kept ((Dev.txCuts_kept h).of_wf rfl rfl (Tbl.wf_keep _) (fun _ => rfl) (fun _ => rfl))

theorem Dev.selfRefresh_kept (h : Dev.Kept d0 d) : Dev.Kept d0 d.selfRefresh := by
  unfold Dev.selfRefresh
  exact Dev.iff_kept h _ (fun _ h => Dev.put_kept h _ _)

theorem Dev.warmClear_kept (h : Dev.Kept d0 d) : Dev.Kept d0 (Dev.warmClear d) := by
  unfold Dev.warmClear
  exact Dev.dsdPins_kept (Dev.pllWarm_kept (Dev.reRate_kept
    ((Dev.selfRefresh_kept (Dev.txCuts_kept h)).of_wf rfl rfl (Tbl.wf_keep _) (fun _ => rfl) id)))

theorem Dev.cause_kept (h : Dev.Kept d0 d) (a1) :
    Dev.Kept d0 (Dev.cause d a1) := by
  unfold Dev.cause
  repeat' with_reducible first | assumption | apply Dev.put_kept

theorem Dev.coldReset_kept (h : Dev.Kept d0 d) :
    Dev.Kept d0 (Dev.coldReset d) := by
  unfold Dev.coldReset
  repeat' with_reducible first | assumption | apply Dev.cause_kept | apply Dev.coldClear_kept

theorem Dev.warmReset_kept (h : Dev.Kept d0 d) (a1) :
    Dev.Kept d0 (Dev.warmReset d a1) := by
  unfold Dev.warmReset
  repeat' with_reducible
    first
    | assumption | apply Dev.Kept.ite | apply Dev.cause_kept | apply Dev.warmClear_kept | (intro _)

theorem Dev.coldEnd_kept (h : Dev.Kept d0 d) (a1) :
    Dev.Kept d0 (Dev.coldEnd d a1) := by
  unfold Dev.coldEnd
  repeat' with_reducible first | assumption | apply Dev.put_kept

theorem Dev.setHeld_kept (h : Dev.Kept d0 d) (a1 a2) :
    Dev.Kept d0 (Dev.setHeld d a1 a2) := by
  unfold Dev.setHeld
  dsimp only
  repeat'
    first
    | with_reducible
        first
        | assumption | apply Dev.coldEnd_kept
    | split
    | fail_if_no_progress (with_reducible refine .of_mk ?_ rfl rfl rfl rfl rfl)

theorem Dev.porstLow_kept (h : Dev.Kept d0 d) :
    Dev.Kept d0 (Dev.porstLow d) := by
  unfold Dev.porstLow
  repeat'
    first
    | with_reducible
        first
        | assumption | apply Dev.put_kept | apply Dev.coldReset_kept
    | fail_if_no_progress (with_reducible refine .of_mk ?_ rfl rfl rfl rfl rfl)

theorem Dev.porstHigh_kept (h : Dev.Kept d0 d) (a1) :
    Dev.Kept d0 (Dev.porstHigh d a1) := by
  unfold Dev.porstHigh
  repeat' with_reducible first | assumption | apply Dev.setHeld_kept | apply Dev.put_kept

theorem Dev.resetNLow_kept (h : Dev.Kept d0 d) :
    Dev.Kept d0 (Dev.resetNLow d) := by
  unfold Dev.resetNLow
  repeat'
    first
    | with_reducible
        first
        | assumption | apply Dev.warmReset_kept
    | fail_if_no_progress (with_reducible refine .of_mk ?_ rfl rfl rfl rfl rfl)

theorem Dev.resetNHigh_kept (h : Dev.Kept d0 d) :
    Dev.Kept d0 (Dev.resetNHigh d) := by
  unfold Dev.resetNHigh
  exact h.of_wf rfl rfl id id id

theorem Dev.testEn_kept (h : Dev.Kept d0 d) (a1 a2) :
    Dev.Kept d0 (Dev.testEn d a1 a2) := by
  unfold Dev.testEn
  repeat'
    first
    | with_reducible
        first
        | assumption | apply Dev.coldReset_kept | apply Dev.setHeld_kept
    | split
    | fail_if_no_progress (with_reducible refine .of_mk ?_ rfl rfl rfl rfl rfl)

theorem Dev.rstCtrl_kept (h : Dev.Kept d0 d) (a1) :
    Dev.Kept d0 (Dev.rstCtrl d a1) := by
  unfold Dev.rstCtrl
  repeat' with_reducible first | assumption | apply Dev.Kept.ite | apply Dev.warmReset_kept | (intro _)

theorem Dev.dropLatch_kept (h : Dev.Kept d0 d) (lo hi : Nat) : Dev.Kept d0 (d.dropLatch lo hi) := by
  refine h.of_wf rfl rfl id (fun x => ?_) id
  unfold Dev.dropLatch
  simp only
  exact Tbl.wf_keep _ x

theorem Dev.lineContext_kept (h : Dev.Kept d0 d) (a1) :
    Dev.Kept d0 (Dev.lineContext d a1) := by
  unfold Dev.lineContext
  dsimp only
  repeat' with_reducible
    first
    | assumption | apply Dev.each_kept | apply Dev.put_kept | apply Dev.dropLatch_kept | apply Dev.emptySlot_kept
    | apply Dev.setSlotCtr_kept | (intro _)

theorem Dev.lnHold_kept (h : Dev.Kept d0 d) (a1) :
    Dev.Kept d0 (Dev.lnHold d a1) := by
  unfold Dev.lnHold
  dsimp only
  repeat'
    first
    | with_reducible
        first
        | assumption | apply Dev.each_kept | apply Dev.adaptNow_kept | apply Dev.dsdPin_kept
        | apply Dev.lineContext_kept | apply Dev.lineMoved_kept | apply Dev.release_kept
        | apply Dev.setAct_kept | apply Dev.setCoach_kept | apply Dev.setLine_kept | apply Dev.strand_kept
        | apply Dev.txCut_kept | apply Dev.unitClear_kept | (intro _)
    | (with_reducible refine Dev.Kept.of_fst (by with_reducible assumption) ?_)
    | fail_if_no_progress (with_reducible refine .of_mk ?_ rfl rfl rfl rfl rfl)

theorem Dev.lnFree_kept (h : Dev.Kept d0 d) (a1) :
    Dev.Kept d0 (Dev.lnFree d a1) := by
  unfold Dev.lnFree
  repeat' with_reducible
    first
    | assumption | apply Dev.Kept.ite | apply Dev.defaultKeys_kept | apply Dev.rxEnable_kept | apply Dev.put_kept
    | apply Dev.setAct_kept | apply Dev.actStart_kept | apply Dev.lineMoved_kept | (intro _)

theorem Dev.rpHold_kept (h : Dev.Kept d0 d) (a1) :
    Dev.Kept d0 (Dev.rpHold d a1) := by
  unfold Dev.rpHold
  repeat' with_reducible
    first
    | assumption | apply Dev.setRlink_kept | apply Dev.linkStop_kept | apply Dev.setPhy_kept
    | apply Dev.unitClear_kept | apply Dev.pllEval_kept | apply Dev.wakeDrop_kept

theorem Dev.boostWritten_kept (h : Dev.Kept d0 d) (a1 a2) :
    Dev.Kept d0 (Dev.boostWritten d a1 a2) := by
  unfold Dev.boostWritten
  repeat'
    first
    | with_reducible
        first
        | assumption | apply Dev.iff_kept | apply Dev.put_kept | (intro _)

theorem Dev.rpFree_kept (h : Dev.Kept d0 d) (a1) :
    Dev.Kept d0 (Dev.rpFree d a1) := by
  unfold Dev.rpFree
  repeat'
    first
    | with_reducible
        first
        | assumption | apply Dev.each_kept | apply Dev.boostWritten_kept | apply Dev.patSend_kept
        | apply Dev.phyWait_kept | (intro _)

theorem Dev.hifHold_kept (h : Dev.Kept d0 d) :
    Dev.Kept d0 (Dev.hifHold d) := by
  unfold Dev.hifHold
  repeat'
    first
    | with_reducible
        first
        | assumption | apply Dev.each_kept | apply Dev.ringKill_kept | apply Dev.clearRegs_kept | (intro _)
    | fail_if_no_progress (with_reducible refine .of_mk ?_ rfl rfl rfl rfl rfl)

theorem Dev.rstBit_kept (h : Dev.Kept d0 d) (was now : Bool) {hold free : Dev → Dev}
    (hh : ∀ (y : Dev), Dev.Kept d0 y → Dev.Kept d0 (hold y)) (hf : ∀ (y : Dev), Dev.Kept d0 y → Dev.Kept d0 (free y)) :
    Dev.Kept d0 (d.rstBit was now hold free) := by
  unfold Dev.rstBit
  split
  · exact hh _ h
  · split
    · exact hf _ h
    · exact h

theorem Dev.blockRstLn_kept (h : Dev.Kept d0 d) (a1) :
    Dev.Kept d0 (Dev.blockRstLn d a1) := by
  unfold Dev.blockRstLn
  repeat' with_reducible
    first
    | assumption | apply Dev.put_kept | apply Dev.each_kept | apply Dev.rstBit_kept | apply Dev.lnHold_kept
    | apply Dev.lnFree_kept | (intro _)

theorem Dev.blockRstRp_kept (h : Dev.Kept d0 d) (a1) :
    Dev.Kept d0 (Dev.blockRstRp d a1) := by
  unfold Dev.blockRstRp
  repeat' with_reducible
    first
    | assumption | apply Dev.put_kept | apply Dev.each_kept | apply Dev.rstBit_kept | apply Dev.rpHold_kept
    | apply Dev.rpFree_kept | (intro _)

theorem Dev.blockRstCph_kept (h : Dev.Kept d0 d) (a1) :
    Dev.Kept d0 (Dev.blockRstCph d a1) := by
  unfold Dev.blockRstCph
  repeat' with_reducible
    first
    | assumption | apply Dev.rstBit_kept | apply Dev.put_kept | apply Dev.cphHold_kept | apply Dev.cphRelease_kept

theorem Dev.blockRstHif_kept (h : Dev.Kept d0 d) (a1) :
    Dev.Kept d0 (Dev.blockRstHif d a1) := by
  unfold Dev.blockRstHif
  repeat'
    first
    | with_reducible
        first
        | assumption | apply Dev.rstBit_kept | apply Dev.put_kept | apply Dev.hifHold_kept | (intro _)
    | split
    | fail_if_no_progress (with_reducible refine .of_mk ?_ rfl rfl rfl rfl rfl)
    | fail_if_no_progress (refine .of_mk ?_ rfl rfl rfl rfl rfl)

theorem Dev.blockRst_kept (h : Dev.Kept d0 d) (a1) :
    Dev.Kept d0 (Dev.blockRst d a1) := by
  unfold Dev.blockRst
  repeat' with_reducible
    first
    | assumption | apply Dev.blockRstHif_kept | apply Dev.blockRstCph_kept | apply Dev.blockRstRp_kept
    | apply Dev.blockRstLn_kept

end Sys2Proof.Machine
end

