-- ==== Sys2Proof/Laws/KeptPower.lean ====
section
/-!
SUPPORT. `Dev.Kept` (Safety.lean) through the operations of Machine/Power.lean.
-/
namespace Sys2Proof.Machine

variable {d0 d : Dev}

theorem Dev.setSeq_kept (h : Dev.Kept d0 d) (a1) :
    Dev.Kept d0 (Dev.setSeq d a1) := by
  unfold Dev.setSeq
  repeat' with_reducible first | assumption | apply Dev.put_kept

theorem Dev.railGood_kept (h : Dev.Kept d0 d) (a1 a2) :
    Dev.Kept d0 (Dev.railGood d a1 a2) := by
  unfold Dev.railGood
  repeat' with_reducible first | assumption | apply Dev.put_kept | apply Dev.iff_kept | (intro _)

theorem Dev.setTrigger_kept (h : Dev.Kept d0 d) (a1 a2) :
    Dev.Kept d0 (Dev.setTrigger d a1 a2) := by
  unfold Dev.setTrigger
  exact h.of_wf rfl rfl id id id

theorem Dev.tryUp_kept (h : Dev.Kept d0 d) :
    Dev.Kept d0 (Dev.tryUp d) := by
  unfold Dev.tryUp
  repeat' with_reducible
    first
    | assumption | apply Dev.Kept.ite | apply Dev.put_kept | apply Dev.setSeq_kept | (intro _)

theorem Dev.stageStart_kept (h : Dev.Kept d0 d) :
    Dev.Kept d0 (Dev.stageStart d) := by
  unfold Dev.stageStart
  repeat' with_reducible first | assumption | apply Dev.Kept.ite | apply Dev.put_kept | (intro _)

theorem Dev.railGoodNow_kept (h : Dev.Kept d0 d) (a1 a2) :
    Dev.Kept d0 (Dev.railGoodNow d a1 a2) := by
  unfold Dev.railGoodNow
  repeat' with_reducible
    first
    | assumption | apply Dev.Kept.ite | apply Dev.railGood_kept | apply Dev.setHeld_kept | apply Dev.cause_kept
    | apply Dev.setSeq_kept | (intro _)

theorem Dev.stageOff_kept (h : Dev.Kept d0 d) :
    Dev.Kept d0 (Dev.stageOff d) := by
  unfold Dev.stageOff
  repeat'
    first
    | with_reducible
        first
        | assumption | apply Dev.each_kept | apply Dev.railGood_kept | (intro _)
    | fail_if_no_progress (with_reducible refine .of_mk ?_ rfl rfl rfl rfl rfl)

theorem Dev.stopMain_kept (h : Dev.Kept d0 d) :
    Dev.Kept d0 (Dev.stopMain d) := by
  unfold Dev.stopMain
  repeat'
    first
    | with_reducible
        first
        | assumption | apply Dev.stageOff_kept | apply Dev.coldReset_kept
    | fail_if_no_progress (with_reducible refine .of_mk ?_ rfl rfl rfl rfl rfl)

theorem Dev.powerDown_kept (h : Dev.Kept d0 d) (a1) :
    Dev.Kept d0 (Dev.powerDown d a1) := by
  unfold Dev.powerDown
  dsimp only
  repeat'
    first
    | with_reducible
        first
        | assumption | apply Dev.setTrigger_kept | apply Dev.put_kept | apply Dev.setSeq_kept
        | apply Dev.stopMain_kept
    | split
    | fail_if_no_progress (with_reducible refine .of_mk ?_ rfl rfl rfl rfl rfl)

theorem Dev.graceOver_kept (h : Dev.Kept d0 d) :
    Dev.Kept d0 (Dev.graceOver d) := by
  unfold Dev.graceOver
  repeat' with_reducible first | assumption | apply Dev.Kept.ite | apply Dev.stopMain_kept | (intro _)

theorem Dev.downNext_kept (h : Dev.Kept d0 d) :
    Dev.Kept d0 (Dev.downNext d) := by
  unfold Dev.downNext
  repeat' with_reducible
    first
    | assumption | apply Dev.Kept.ite | apply Dev.tryUp_kept | apply Dev.setSeq_kept | apply Dev.stageOff_kept
    | (intro _)

theorem Dev.pwrCtrl_kept (h : Dev.Kept d0 d) (a1) :
    Dev.Kept d0 (Dev.pwrCtrl d a1) := by
  unfold Dev.pwrCtrl
  repeat' with_reducible
    first
    | assumption | apply Dev.iff_kept | apply Dev.put_kept | apply Dev.powerDown_kept | (intro _)

theorem Dev.offOver_kept (h : Dev.Kept d0 d) :
    Dev.Kept d0 (Dev.offOver d) := by
  unfold Dev.offOver
  repeat' with_reducible
    first
    | assumption | apply Dev.Kept.ite | apply Dev.tryUp_kept | apply Dev.setTrigger_kept | (intro _)

theorem Dev.railFault_kept (h : Dev.Kept d0 d) (a1 a2 a3) :
    Dev.Kept d0 (Dev.railFault d a1 a2 a3) := by
  unfold Dev.railFault
  repeat'
    first
    | with_reducible
        first
        | assumption | apply Dev.iff_kept | apply Dev.ev_kept | apply Dev.bump_kept | apply Dev.put_kept
        | apply Dev.powerDown_kept | (intro _)
    | split
    | fail_if_no_progress (with_reducible refine .of_mk ?_ rfl rfl rfl rfl rfl)

theorem Dev.retryOver_kept (h : Dev.Kept d0 d) :
    Dev.Kept d0 (Dev.retryOver d) := by
  unfold Dev.retryOver
  repeat'
    first
    | with_reducible
        first
        | assumption | apply Dev.tryUp_kept | apply Dev.setTrigger_kept | apply Dev.setSeq_kept
    | split
    | fail_if_no_progress (with_reducible refine .of_mk ?_ rfl rfl rfl rfl rfl)

theorem Dev.unlatch_kept (h : Dev.Kept d0 d) :
    Dev.Kept d0 (Dev.unlatch d) := by
  unfold Dev.unlatch
  repeat'
    first
    | with_reducible
        first
        | assumption | apply Dev.setSeq_kept | apply Dev.setTrigger_kept
    | split
    | fail_if_no_progress (with_reducible refine .of_mk ?_ rfl rfl rfl rfl rfl)

theorem Dev.gaspEval_kept (h : Dev.Kept d0 d) :
    Dev.Kept d0 (Dev.gaspEval d) := by
  unfold Dev.gaspEval
  repeat'
    first
    | with_reducible
        first
        | assumption | apply Dev.bump_kept | apply Dev.ev_kept | apply Dev.put_kept
    | split
    | fail_if_no_progress (with_reducible refine .of_mk ?_ rfl rfl rfl rfl rfl)

theorem Dev.vinLow_kept (h : Dev.Kept d0 d) (a1) :
    Dev.Kept d0 (Dev.vinLow d a1) := by
  unfold Dev.vinLow
  repeat'
    first
    | with_reducible
        first
        | assumption | apply Dev.gaspEval_kept
    | fail_if_no_progress (with_reducible refine .of_mk ?_ rfl rfl rfl rfl rfl)

theorem Dev.hpPresent_kept (h : Dev.Kept d0 d) (a1) :
    Dev.Kept d0 (Dev.hpPresent d a1) := by
  unfold Dev.hpPresent
  repeat'
    first
    | with_reducible
        first
        | assumption | apply Dev.powerDown_kept | apply Dev.gaspEval_kept | apply Dev.put_kept
        | apply Dev.tryUp_kept | apply Dev.unlatch_kept | apply Dev.setTrigger_kept
    | split
    | fail_if_no_progress (with_reducible refine .of_mk ?_ rfl rfl rfl rfl rfl)

theorem Dev.hpDebounced_kept (h : Dev.Kept d0 d) :
    Dev.Kept d0 (Dev.hpDebounced d) := by
  unfold Dev.hpDebounced
  repeat'
    first
    | with_reducible
        first
        | assumption | apply Dev.tryUp_kept
    | split
    | fail_if_no_progress (with_reducible refine .of_mk ?_ rfl rfl rfl rfl rfl)

theorem Dev.porstTaken_kept (h : Dev.Kept d0 d) :
    Dev.Kept d0 (Dev.porstTaken d) := by
  unfold Dev.porstTaken
  repeat' with_reducible
    first
    | assumption | apply Dev.tryUp_kept | apply Dev.unlatch_kept | apply Dev.porstLow_kept

theorem Dev.cremaReset_kept (h : Dev.Kept d0 d) : Dev.Kept d0 (Dev.cremaReset d) := by
  unfold Dev.cremaReset
  exact Dev.dsdPins_kept ((Dev.txCuts_kept h).of_wf rfl rfl (fun _ => rfl) (fun _ => rfl) (fun _ => rfl))

theorem Dev.cremaEnd_kept (h : Dev.Kept d0 d) :
    Dev.Kept d0 (Dev.cremaEnd d) := by
  unfold Dev.cremaEnd
  repeat'
    first
    | with_reducible
        first
        | assumption | apply Dev.gaspEval_kept | apply Dev.put_kept
    | split
    | fail_if_no_progress (with_reducible refine .of_mk ?_ rfl rfl rfl rfl rfl)

theorem Dev.phaseSampled_kept (h : Dev.Kept d0 d) (a1) :
    Dev.Kept d0 (Dev.phaseSampled d a1) := by
  unfold Dev.phaseSampled
  repeat'
    first
    | with_reducible
        first
        | assumption | apply Dev.each_kept | apply Dev.put_kept | apply Dev.tryUp_kept | (intro _)
    | split
    | fail_if_no_progress (with_reducible refine .of_mk ?_ rfl rfl rfl rfl rfl)

theorem Dev.vsetWrite_kept (h : Dev.Kept d0 d) (a1 a2) :
    Dev.Kept d0 (Dev.vsetWrite d a1 a2) := by
  unfold Dev.vsetWrite
  repeat' with_reducible
    first
    | assumption | apply Dev.Kept.ite | apply Dev.put_kept | apply Dev.ev_kept | (intro _)

theorem Dev.thermShut_kept (h : Dev.Kept d0 d) :
    Dev.Kept d0 (Dev.thermShut d) := by
  unfold Dev.thermShut
  repeat'
    first
    | with_reducible
        first
        | assumption | apply Dev.ev_kept | apply Dev.setSeq_kept | apply Dev.iff_kept | apply Dev.warmClear_kept
        | apply Dev.railGood_kept | apply Dev.bump_kept
    | fail_if_no_progress (with_reducible refine .of_mk ?_ rfl rfl rfl rfl rfl)

theorem Dev.thermLevels_kept (h : Dev.Kept d0 d) :
    Dev.Kept d0 (Dev.thermLevels d) := by
  unfold Dev.thermLevels
  dsimp only
  repeat'
    first
    | with_reducible
        first
        | assumption | apply Dev.iff_kept | apply Dev.ev_kept | apply Dev.put_kept | apply Dev.bump_kept
        | apply Dev.powerDown_kept | apply Dev.thermShut_kept | (intro _)
    | split
    | fail_if_no_progress (with_reducible refine .of_mk ?_ rfl rfl rfl rfl rfl)

theorem Dev.thermConvert_kept (h : Dev.Kept d0 d) (a1) :
    Dev.Kept d0 (Dev.thermConvert d a1) := by
  unfold Dev.thermConvert
  repeat' with_reducible
    first
    | assumption | apply Dev.each_kept | apply Dev.put_kept | apply Dev.thermLevels_kept | (intro _)

theorem Dev.thermRecover_kept (h : Dev.Kept d0 d) :
    Dev.Kept d0 (Dev.thermRecover d) := by
  unfold Dev.thermRecover
  dsimp only
  repeat'
    first
    | with_reducible
        first
        | assumption | apply Dev.put_kept | apply Dev.setSeq_kept | apply Dev.railGood_kept | apply Dev.cause_kept
        | apply Dev.iff_kept | apply Dev.tryUp_kept | apply Dev.setTrigger_kept | (intro _)
    | split
    | fail_if_no_progress (with_reducible refine .of_mk ?_ rfl rfl rfl rfl rfl)

theorem Dev.rtcWrite_kept (h : Dev.Kept d0 d) (a1) :
    Dev.Kept d0 (Dev.rtcWrite d a1) := by
  unfold Dev.rtcWrite
  repeat'
    first
    | with_reducible
        first
        | assumption | apply Dev.put_kept
    | fail_if_no_progress (with_reducible refine .of_mk ?_ rfl rfl rfl rfl rfl)

theorem Dev.xtOk_kept (h : Dev.Kept d0 d) (a1) :
    Dev.Kept d0 (Dev.xtOk d a1) := by
  unfold Dev.xtOk
  repeat' with_reducible first | assumption | apply Dev.put_kept

theorem Dev.wdogRestart_kept (h : Dev.Kept d0 d) :
    Dev.Kept d0 (Dev.wdogRestart d) := by
  unfold Dev.wdogRestart
  repeat'
    first
    | with_reducible
        first
        | assumption | (intro _)
    | fail_if_no_progress (with_reducible refine .of_mk ?_ rfl rfl rfl rfl rfl)

theorem Dev.wdogWrite_kept (h : Dev.Kept d0 d) (a1) :
    Dev.Kept d0 (Dev.wdogWrite d a1) := by
  unfold Dev.wdogWrite
  dsimp only
  repeat'
    first
    | with_reducible
        first
        | assumption | apply Dev.iff_kept | apply Dev.put_kept | apply Dev.wdogRestart_kept | (intro _)
    | (with_reducible refine Dev.Kept.of_fst (by with_reducible assumption) ?_)

theorem Dev.wdogExpiry_kept (h : Dev.Kept d0 d) :
    Dev.Kept d0 (Dev.wdogExpiry d) := by
  unfold Dev.wdogExpiry
  dsimp only
  repeat'
    first
    | with_reducible
        first
        | assumption | apply Dev.Kept.ite | apply Dev.warmReset_kept | apply Dev.wdogRestart_kept | (intro _)
    | split

theorem Dev.tick_kept (h : Dev.Kept d0 d) :
    Dev.Kept d0 (Dev.tick d) := by
  unfold Dev.tick
  repeat'
    first
    | with_reducible
        first
        | assumption | apply Dev.Kept.ite | apply Dev.advance_kept | apply Dev.rtcRun_kept
        | apply Dev.stageOut_kept | (intro _)
    | split
    | fail_if_no_progress (with_reducible refine .of_mk ?_ rfl rfl rfl rfl rfl)

end Sys2Proof.Machine
end

