-- ==== Sys2Proof/Laws/KeptTrust.lean ====
section
/-!
SUPPORT. `Dev.Kept` (Safety.lean) through the operations of Machine/Trust.lean.
-/
namespace Sys2Proof.Machine

variable {d0 d : Dev}

theorem Dev.putBytes_kept (h : Dev.Kept d0 d) (a1 a2 a3 a4) :
    Dev.Kept d0 (Dev.putBytes d a1 a2 a3 a4) := by
  unfold Dev.putBytes
  repeat' with_reducible first | assumption | apply Dev.each_kept | apply Dev.put_kept | (intro _)

theorem Dev.logAppend_kept (h : Dev.Kept d0 d) (a1 a2 a3 a4) :
    Dev.Kept d0 (Dev.logAppend d a1 a2 a3 a4) := by
  unfold Dev.logAppend
  repeat' with_reducible
    first
    | assumption | apply Dev.Kept.ite | apply Dev.putBytes_kept | apply Dev.put_kept | (intro _)

theorem Dev.logHeader_kept (h : Dev.Kept d0 d) (a1 a2) :
    Dev.Kept d0 (Dev.logHeader d a1 a2) := by
  unfold Dev.logHeader
  repeat' with_reducible first | assumption | apply Dev.logAppend_kept

theorem Dev.fellBack_kept (h : Dev.Kept d0 d) (a1) :
    Dev.Kept d0 (Dev.fellBack d a1) := by
  unfold Dev.fellBack
  repeat' with_reducible first | assumption | apply Dev.put_kept | apply Dev.ev_kept

theorem Dev.bootIdentity_kept (h : Dev.Kept d0 d) (a1 a2 a3) :
    Dev.Kept d0 (Dev.bootIdentity d a1 a2 a3) := by
  unfold Dev.bootIdentity
  repeat'
    first
    | with_reducible
        first
        | assumption | apply Dev.put_kept | apply Dev.iff_kept | apply Dev.ev_kept | (intro _)
    | split
    | fail_if_no_progress (with_reducible refine .of_mk ?_ rfl rfl rfl rfl rfl)

theorem Dev.bootRecord_kept (h : Dev.Kept d0 d) (a1) :
    Dev.Kept d0 (Dev.bootRecord d a1).1 := by
  unfold Dev.bootRecord
  repeat'
    first
    | with_reducible
        first
        | assumption | apply Dev.logAppend_kept | apply Dev.put_kept
    | split
    | fail_if_no_progress (with_reducible refine .of_mk ?_ rfl rfl rfl rfl rfl)

theorem Dev.setBoot_kept (h : Dev.Kept d0 d) (b : BootRun) : Dev.Kept d0 (d.setBoot b) :=
  h.of_wf rfl rfl id id id

theorem Dev.trialNoted_kept (h : Dev.Kept d0 d) : Dev.Kept d0 d.trialNoted := by
  unfold Dev.trialNoted
  split
  · exact (Dev.fellBack_kept h 2).of_wf rfl rfl id id id
  · exact h

theorem Dev.slotChecked_kept (h : Dev.Kept d0 d) (a1 a2 a3) :
    Dev.Kept d0 (Dev.slotChecked d a1 a2 a3) := by
  unfold Dev.slotChecked
  repeat' with_reducible first | assumption | apply Dev.logHeader_kept | apply Dev.put_kept

theorem Dev.logComps_kept (h : Dev.Kept d0 d) (a1) :
    Dev.Kept d0 (Dev.logComps d a1) := by
  unfold Dev.logComps
  repeat' with_reducible first | assumption | apply Dev.each_kept | apply Dev.logAppend_kept | (intro _)

theorem Dev.bootSlots_kept (h : Dev.Kept d0 d) (a1 a2) :
    Dev.Kept d0 (Dev.bootSlots d a1 a2) := by
  unfold Dev.bootSlots
  repeat' with_reducible
    first
    | assumption | apply Dev.Kept.ite | apply Dev.trialNoted_kept | apply Dev.put_kept | apply Dev.slotChecked_kept
    | apply Dev.setBoot_kept | apply Dev.logComps_kept | apply Dev.fellBack_kept | (intro _)

theorem Dev.bootRom_kept (h : Dev.Kept d0 d) (a1 a2 a3) :
    Dev.Kept d0 (Dev.bootRom d a1 a2 a3) := by
  unfold Dev.bootRom
  repeat' with_reducible
    first
    | assumption | apply Dev.Kept.ite | apply Dev.bootRecord_kept | apply Dev.bootIdentity_kept
    | apply Dev.bootSlots_kept | apply Dev.setBoot_kept | apply Dev.logAppend_kept | (intro _)

theorem Dev.bootWorker_kept (h : Dev.Kept d0 d) :
    Dev.Kept d0 (Dev.bootWorker d) := by
  unfold Dev.bootWorker
  repeat' with_reducible
    first
    | assumption | apply Dev.blockRstRp_kept | apply Dev.each_kept | apply Dev.put_kept | apply Dev.pllEval_kept
    | (intro _)

theorem Dev.bootRelease_kept (h : Dev.Kept d0 d) :
    Dev.Kept d0 (Dev.bootRelease d) := by
  unfold Dev.bootRelease
  repeat' with_reducible
    first
    | assumption | apply Dev.Kept.ite | apply Dev.setBoot_kept | apply Dev.put_kept | apply Dev.bootWorker_kept
    | (intro _)

theorem Dev.bootDone_kept (h : Dev.Kept d0 d) (a1) :
    Dev.Kept d0 (Dev.bootDone d a1) := by
  unfold Dev.bootDone
  repeat'
    first
    | with_reducible
        first
        | assumption | apply Dev.put_kept | apply Dev.bootRelease_kept | apply Dev.iff_kept
        | apply Dev.setBoot_kept | (intro _)
    | split

theorem Dev.trialTimeout_kept (h : Dev.Kept d0 d) :
    Dev.Kept d0 (Dev.trialTimeout d) := by
  unfold Dev.trialTimeout
  repeat'
    first
    | with_reducible
        first
        | assumption | apply Dev.warmReset_kept
    | split
    | fail_if_no_progress (with_reducible refine .of_mk ?_ rfl rfl rfl rfl rfl)

theorem Dev.truStart_kept (h : Dev.Kept d0 d) (run : TruRun) : Dev.Kept d0 (d.truStart run) := by
  unfold Dev.truStart
  split
  · exact Dev.ev_kept h _
  · exact (Dev.put_kept h Reg.TRU_STAT.BUSY 1).of_wf rfl rfl id id id

theorem Dev.attest_kept (h : Dev.Kept d0 d) :
    Dev.Kept d0 (Dev.attest d) := by
  unfold Dev.attest
  repeat' with_reducible first | assumption | apply Dev.truStart_kept

theorem Dev.measExtend_kept (h : Dev.Kept d0 d) :
    Dev.Kept d0 (Dev.measExtend d) := by
  unfold Dev.measExtend
  repeat' with_reducible first | assumption | apply Dev.truStart_kept

theorem Dev.dbgOpen_kept (h : Dev.Kept d0 d) :
    Dev.Kept d0 (Dev.dbgOpen d) := by
  unfold Dev.dbgOpen
  repeat' with_reducible first | assumption | apply Dev.truStart_kept

theorem Dev.arbAdvance_kept (h : Dev.Kept d0 d) (a1) :
    Dev.Kept d0 (Dev.arbAdvance d a1) := by
  unfold Dev.arbAdvance
  repeat' with_reducible first | assumption | apply Dev.truStart_kept

theorem Dev.keyRevoke_kept (h : Dev.Kept d0 d) (a1) :
    Dev.Kept d0 (Dev.keyRevoke d a1) := by
  unfold Dev.keyRevoke
  repeat' with_reducible first | assumption | apply Dev.truStart_kept

theorem Dev.truCmd_kept (h : Dev.Kept d0 d) (a1 a2) :
    Dev.Kept d0 (Dev.truCmd d a1 a2) := by
  unfold Dev.truCmd
  repeat'
    first
    | with_reducible
        first
        | assumption | apply Dev.Kept.ite | apply Dev.iff_kept | apply Dev.arbAdvance_kept
        | apply Dev.attest_kept | apply Dev.dbgOpen_kept | apply Dev.ev_kept | apply Dev.keyRevoke_kept
        | apply Dev.measExtend_kept | (intro _)
    | split

theorem bitsKept_or (a b : Nat) : BitsKept a (a ||| b) := by
  intro i h
  simp only [bitOf, beq_iff_eq] at h ⊢
  have : (a ||| b).testBit i = true := by rw [Nat.testBit_or]; simp [Nat.testBit_eq_decide_div_mod_eq, h]
  simpa [Nat.testBit_eq_decide_div_mod_eq] using this

theorem Dev.blowArb_kept (h : Dev.Kept d0 d) (v : Nat) (bad : Option Nat) : Dev.Kept d0 (d.blowArb v bad).1 := by
  have hf (r : Nat) (sh : Fuses) (dead : Option Nat) : Dev.Kept d0
      { d with tru := { d.tru with fuses := { d.tru.fuses with arb := d.tru.fuses.arb ||| r }, shadow := sh, deadArb := dead } } :=
    ⟨h.1, h.2.1.trans ⟨.refl _, .refl _, .refl _, .refl _, id, bitsKept_or _ _, .refl _⟩, h.2.2⟩
  have (c : Prop) [Decidable c] (x : Dev × Nat) (hx : Dev.Kept d0 x.1) : Dev.Kept d0 (if c then (d, 0) else x).1 := by
    split
    · exact h
    · exact hx
  exact this _ _ (hf _ _ _)

theorem bitsKept_setBit (a i : Nat) : BitsKept a (setBit a i true) := by
  intro j hj
  have e : setBit a i true = a - a / 2 ^ i % 2 * 2 ^ i + 2 ^ i := by simp [setBit, setBits, bits, bit]
  rcases Nat.mod_two_eq_zero_or_one (a / 2 ^ i) with h0 | h1
  · have hr : a % 2 ^ i < 2 ^ i := Nat.mod_lt _ (Nat.two_pow_pos i)
    have ha : a = 2 ^ (i + 1) * (a / 2 ^ i / 2) + a % 2 ^ i := by
      have h1 := Nat.div_add_mod a (2 ^ i)
      have h2 : a / 2 ^ i = 2 * (a / 2 ^ i / 2) := by omega
      rw [Nat.pow_succ, Nat.mul_assoc, ← h2, h1]
    have hr' : a % 2 ^ i < 2 ^ (i + 1) := lt_of_lt_of_le hr (Nat.pow_le_pow_right (by decide) (by omega))
    have hs : 2 ^ i * 1 + a % 2 ^ i < 2 ^ (i + 1) := by rw [Nat.pow_succ]; omega
    have k1 : a + 2 ^ i = 2 ^ (i + 1) * (a / 2 ^ i / 2) + (2 ^ i * 1 + a % 2 ^ i) := by
      rw [Nat.mul_one, Nat.add_comm (2 ^ i) (a % 2 ^ i), ← Nat.add_assoc, ← ha]
    have key : a + 2 ^ i = a ||| 2 ^ i := by
      rw [k1, Nat.two_pow_add_eq_or_of_lt hs, Nat.two_pow_add_eq_or_of_lt hr, Nat.mul_one, Nat.or_comm (2 ^ i),
        ← Nat.or_assoc, ← Nat.two_pow_add_eq_or_of_lt hr', ← ha]
    rw [e, h0, Nat.zero_mul, Nat.sub_zero, key]
    exact bitsKept_or _ _ j hj
  · have : 1 * 2 ^ i ≤ a := by
      have := Nat.div_mul_le_self a (2 ^ i)
      have : 1 ≤ a / 2 ^ i := Nat.pos_of_ne_zero (fun h => by rw [h] at h1; cases h1)
      calc 1 * 2 ^ i ≤ a / 2 ^ i * 2 ^ i := Nat.mul_le_mul_right _ this
        _ ≤ a := by assumption
    rw [e, h1]
    have : a - 1 * 2 ^ i + 2 ^ i = a := by rw [Nat.one_mul] at this ⊢; exact Nat.sub_add_cancel this
    rw [this]; exact hj

theorem Dev.blowRevoke_kept (h : Dev.Kept d0 d) (s : Nat) (bad : Bool) : Dev.Kept d0 (d.blowRevoke s bad).1 := by
  unfold Dev.blowRevoke
  dsimp only
  split
  · exact h.of_wf rfl rfl id id id
  · exact ⟨h.1, h.2.1.trans ⟨.refl _, .refl _, bitsKept_setBit _ _, .refl _, id, .refl _, .refl _⟩, h.2.2⟩

theorem Dev.truEffect_kept (h : Dev.Kept d0 d) (r : TruRun) (bad : Option Nat) : Dev.Kept d0 (d.truEffect r bad).1 := by
  unfold Dev.truEffect
  cases r with
  | attest b => exact Dev.bump_kept (Dev.putBytes_kept h _ _ _ _) _
  | noIdentity => exact h
  | measExtend g =>
    dsimp only
    split
    · exact h
    · exact Dev.logAppend_kept h _ _ _ _
  | dbgOpen st perms =>
    dsimp only
    split
    · exact Dev.bump_kept h _
    · exact (Dev.ev_kept h Reg.TRU_EVT.DBG_OPENED).of_wf rfl rfl id id id
  | arb v => exact Dev.blowArb_kept h _ _
  | arbRefused => exact h
  | revoke s => exact Dev.blowRevoke_kept h _ _
  | keyRefused => exact h

theorem Dev.truDone_kept (h : Dev.Kept d0 d) (a1) :
    Dev.Kept d0 (Dev.truDone d a1) := by
  unfold Dev.truDone
  repeat'
    first
    | with_reducible
        first
        | assumption | apply Dev.truEffect_kept | apply Dev.ev_kept | apply Dev.put_kept
    | split
    | fail_if_no_progress (with_reducible refine .of_mk ?_ rfl rfl rfl rfl rfl)

theorem Dev.drawChallenge_kept (h : Dev.Kept d0 d) :
    Dev.Kept d0 (Dev.drawChallenge d) := by
  unfold Dev.drawChallenge
  dsimp only
  repeat'
    first
    | with_reducible
        first
        | assumption | apply Dev.freed_kept | apply Dev.rngUsed_kept | (intro _)
    | (with_reducible refine Dev.Kept.of_fst (by with_reducible assumption) ?_)
    | fail_if_no_progress (with_reducible refine .of_mk ?_ rfl rfl rfl rfl rfl)

theorem Dev.rngRead_kept (h : Dev.Kept d0 d) (a1) :
    Dev.Kept d0 (Dev.rngRead d a1).1 := by
  unfold Dev.rngRead
  repeat'
    first
    | with_reducible
        first
        | assumption | apply Dev.freed_kept | apply Dev.rngServed_kept | (intro _)
    | fail_if_no_progress dsimp only

theorem Dev.rngHealthFail_kept (h : Dev.Kept d0 d) :
    Dev.Kept d0 (Dev.rngHealthFail d) := by
  unfold Dev.rngHealthFail
  repeat'
    first
    | with_reducible
        first
        | assumption | apply Dev.ev_kept | apply Dev.put_kept | apply Dev.bump_kept
    | fail_if_no_progress (with_reducible refine .of_mk ?_ rfl rfl rfl rfl rfl)

end Sys2Proof.Machine
end

