-- ==== Sys2Proof/Laws/KeptDebug.lean ====
section
/-!
SUPPORT. `Dev.Kept` (Safety.lean) through the operations of Machine/Debug.lean.
-/
namespace Sys2Proof.Machine

variable {d0 d : Dev}

theorem Dev.cvuRefuse_kept (h : Dev.Kept d0 d) (a1) :
    Dev.Kept d0 (Dev.cvuRefuse d a1) := by
  unfold Dev.cvuRefuse
  repeat' with_reducible first | assumption | apply Dev.ev_kept | apply Dev.bump_kept

theorem Dev.cvuAcc_kept (h : Dev.Kept d0 d) (a1 a2) :
    Dev.Kept d0 (Dev.cvuAcc d a1 a2) := by
  unfold Dev.cvuAcc
  repeat' with_reducible first | assumption | apply Dev.put_kept

theorem Dev.cvuStart_kept (h : Dev.Kept d0 d) (a1 a2) :
    Dev.Kept d0 (Dev.cvuStart d a1 a2) := by
  unfold Dev.cvuStart
  repeat'
    first
    | with_reducible
        first
        | assumption | apply Dev.cvuRefuse_kept | apply Dev.put_kept | apply Dev.cvuAcc_kept
    | split
    | fail_if_no_progress (with_reducible refine .of_mk ?_ rfl rfl rfl rfl rfl)

theorem Dev.cvuData_kept (h : Dev.Kept d0 d) (a1 a2 a3 a4) :
    Dev.Kept d0 (Dev.cvuData d a1 a2 a3 a4) := by
  unfold Dev.cvuData
  repeat' with_reducible
    first
    | assumption | apply Dev.Kept.ite | apply Dev.cvuRefuse_kept | apply Dev.put_kept | apply Dev.cvuAcc_kept
    | (intro _)

theorem Dev.cvuCheck_kept (h : Dev.Kept d0 d) (a1 a2) :
    Dev.Kept d0 (Dev.cvuCheck d a1 a2) := by
  unfold Dev.cvuCheck
  repeat' with_reducible
    first
    | assumption | apply Dev.Kept.ite | apply Dev.cvuRefuse_kept | apply Dev.put_kept | apply Dev.iff_kept
    | apply Dev.ev_kept | apply Dev.bump_kept | (intro _)

theorem Dev.cvuAbandon_kept (h : Dev.Kept d0 d) (a1) :
    Dev.Kept d0 (Dev.cvuAbandon d a1) := by
  unfold Dev.cvuAbandon
  repeat' with_reducible first | assumption | apply Dev.put_kept

theorem Dev.cvuCtrl_kept (h : Dev.Kept d0 d) (a1 a2 a3) :
    Dev.Kept d0 (Dev.cvuCtrl d a1 a2 a3) := by
  unfold Dev.cvuCtrl
  repeat' with_reducible
    first
    | assumption | apply Dev.Kept.ite | apply Dev.put_kept | apply Dev.iff_kept | apply Dev.cvuRefuse_kept
    | apply Dev.cvuStart_kept | apply Dev.cvuCheck_kept | apply Dev.cvuAbandon_kept | (intro _)

theorem Dev.ckoEval_kept (h : Dev.Kept d0 d) (a1) :
    Dev.Kept d0 (Dev.ckoEval d a1) := by
  unfold Dev.ckoEval
  repeat'
    first
    | with_reducible
        first
        | assumption | apply Dev.iff_kept | apply Dev.ev_kept | (intro _)
    | fail_if_no_progress (with_reducible refine .of_mk ?_ rfl rfl rfl rfl rfl)

theorem Dev.ckoWatch_kept (h : Dev.Kept d0 d) :
    Dev.Kept d0 (Dev.ckoWatch d) := by
  unfold Dev.ckoWatch
  repeat'
    first
    | with_reducible
        first
        | assumption | apply Dev.Kept.ite | apply Dev.each_kept | apply Dev.ckoEval_kept | (intro _)
    | split

theorem Dev.ckoWrite_kept (h : Dev.Kept d0 d) (a1 a2) :
    Dev.Kept d0 (Dev.ckoWrite d a1 a2) := by
  unfold Dev.ckoWrite
  repeat' with_reducible first | assumption | apply Dev.ckoEval_kept | apply Dev.put_kept

theorem Dev.dbgCtrl_kept (h : Dev.Kept d0 d) (a1) :
    Dev.Kept d0 (Dev.dbgCtrl d a1) := by
  unfold Dev.dbgCtrl
  repeat' with_reducible
    first
    | assumption | apply Dev.Kept.ite | apply Dev.warmReset_kept | apply Dev.ev_kept | (intro _)

theorem Dev.tapReset_kept (h : Dev.Kept d0 d) :
    Dev.Kept d0 (Dev.tapReset d) := by
  unfold Dev.tapReset
  exact h.of_wf rfl rfl id id id

theorem Dev.tapLoad_kept (h : Dev.Kept d0 d) (a1) :
    Dev.Kept d0 (Dev.tapLoad d a1) := by
  unfold Dev.tapLoad
  repeat'
    first
    | with_reducible
        first
        | assumption | apply Dev.Kept.ite | apply Dev.emit_kept | (intro _)
    | split
    | fail_if_no_progress (with_reducible refine .of_mk ?_ rfl rfl rfl rfl rfl)

theorem Dev.tapIdcode_kept (h : Dev.Kept d0 d) :
    Dev.Kept d0 (Dev.tapIdcode d) := by
  unfold Dev.tapIdcode
  repeat'
    first
    | with_reducible
        first
        | assumption | apply Dev.Kept.ite | apply Dev.emit_kept | apply Dev.tapLoad_kept | (intro _)
    | split

theorem Dev.tapSample_kept (h : Dev.Kept d0 d) (a1 a2) :
    Dev.Kept d0 (Dev.tapSample d a1 a2) := by
  unfold Dev.tapSample
  dsimp only
  repeat'
    first
    | with_reducible
        first
        | assumption | apply Dev.Kept.ite | apply Dev.emit_kept | apply Dev.tapLoad_kept | (intro _)
    | (with_reducible refine Dev.Kept.of_fst (by with_reducible assumption) ?_)
    | split
    | fail_if_no_progress (with_reducible refine .of_mk ?_ rfl rfl rfl rfl rfl)

theorem Dev.tapUpdate_kept (h : Dev.Kept d0 d) (a1) :
    Dev.Kept d0 (Dev.tapUpdate d a1) := by
  unfold Dev.tapUpdate
  dsimp only
  repeat'
    first
    | with_reducible
        first
        | assumption | apply Dev.Kept.ite | apply Dev.emit_kept | (intro _)
    | (with_reducible refine Dev.Kept.of_fst (by with_reducible assumption) ?_)
    | split
    | fail_if_no_progress (with_reducible refine .of_mk ?_ rfl rfl rfl rfl rfl)

theorem Dev.i2cStart_kept (h : Dev.Kept d0 d) (a1) :
    Dev.Kept d0 (Dev.i2cStart d a1) := by
  unfold Dev.i2cStart
  repeat'
    first
    | with_reducible
        first
        | assumption | apply Dev.put_kept | apply Dev.emit_kept | (intro _)

theorem Dev.i2cCmd_kept (h : Dev.Kept d0 d) (a1 a2) :
    Dev.Kept d0 (Dev.i2cCmd d a1 a2) := by
  unfold Dev.i2cCmd
  dsimp only
  repeat'
    first
    | with_reducible
        first
        | assumption | apply Dev.Kept.ite | apply Dev.iff_kept | apply Dev.put_kept
        | apply Dev.i2cStart_kept | (intro _)
    | (with_reducible refine Dev.Kept.of_fst (by with_reducible assumption) ?_)
    | split

theorem Dev.i2cDone_kept (h : Dev.Kept d0 d) (a1 a2 a3) :
    Dev.Kept d0 (Dev.i2cDone d a1 a2 a3) := by
  unfold Dev.i2cDone
  dsimp only
  repeat'
    first
    | with_reducible
        first
        | assumption | apply Dev.Kept.ite | apply Dev.iff_kept | apply Dev.put_kept | apply Dev.emit_kept | (intro _)
    | (with_reducible refine Dev.Kept.of_fst (by with_reducible assumption) ?_)
    | split

theorem Dev.mdioStart_kept (h : Dev.Kept d0 d) (a1) :
    Dev.Kept d0 (Dev.mdioStart d a1) := by
  unfold Dev.mdioStart
  repeat'
    first
    | with_reducible
        first
        | assumption | apply Dev.put_kept | apply Dev.emit_kept | (intro _)

theorem Dev.mdioCmd_kept (h : Dev.Kept d0 d) (a1 a2) :
    Dev.Kept d0 (Dev.mdioCmd d a1 a2) := by
  unfold Dev.mdioCmd
  dsimp only
  repeat'
    first
    | with_reducible
        first
        | assumption | apply Dev.Kept.ite | apply Dev.iff_kept | apply Dev.put_kept
        | apply Dev.mdioStart_kept | (intro _)
    | (with_reducible refine Dev.Kept.of_fst (by with_reducible assumption) ?_)
    | split

theorem Dev.mdioDone_kept (h : Dev.Kept d0 d) (a1 a2) :
    Dev.Kept d0 (Dev.mdioDone d a1 a2) := by
  unfold Dev.mdioDone
  repeat' with_reducible
    first
    | assumption | apply Dev.Kept.ite | apply Dev.iff_kept | apply Dev.put_kept | (intro _)

end Sys2Proof.Machine
end

