-- ==== Sys2Proof/Laws/KeptViews.lean ====
section
/-!
SUPPORT. `Dev.Kept` (Safety.lean) through the operations of Machine/Views.lean.
-/
namespace Sys2Proof.Machine

variable {d0 d : Dev}

theorem Dev.latchWide_kept (h : Dev.Kept d0 d) (m lo n : Nat) : Dev.Kept d0 (d.latchWide m lo n) := by
  unfold Dev.latchWide
  refine Dev.each_kept h (fun x a hx => hx.of_wf rfl rfl id (fun y => ?_) id)
  exact Tbl.wf_set (t := x.latch) _ _ y

theorem Dev.readClear_kept (h : Dev.Kept d0 d) (a1) :
    Dev.Kept d0 (Dev.readClear d a1) := by
  unfold Dev.readClear
  repeat'
    first
    | with_reducible
        first
        | assumption | apply Dev.each_kept | apply Dev.unput_kept | (intro _)
    | split

end Sys2Proof.Machine
end

