-- ==== Sys2Proof/Laws/KeptBus.lean ====
section
/-!
SUPPORT. `Dev.Kept` (Safety.lean) through the operations of Machine/Bus.lean.
-/
namespace Sys2Proof.Machine

variable {d0 d : Dev}

theorem Dev.busAddr_kept (h : Dev.Kept d0 d) (a1 a2 a3 a4) :
    Dev.Kept d0 (Dev.busAddr d a1 a2 a3 a4) := by
  unfold Dev.busAddr
  repeat' with_reducible first | assumption | apply Dev.put_kept

theorem Dev.unmapped_kept (h : Dev.Kept d0 d) (a1 a2) :
    Dev.Kept d0 (Dev.unmapped d a1 a2) := by
  unfold Dev.unmapped
  repeat' with_reducible first | assumption | apply Dev.busAddr_kept | apply Dev.bump_kept

theorem Dev.narrow_kept (h : Dev.Kept d0 d) (a1 a2) :
    Dev.Kept d0 (Dev.narrow d a1 a2) := by
  unfold Dev.narrow
  repeat' with_reducible
    first
    | assumption | apply Dev.Kept.ite | apply Dev.bump_kept | apply Dev.busAddr_kept | (intro _)

theorem Dev.readFirst_kept (h : Dev.Kept d0 d) (a1 a2) :
    Dev.Kept d0 (Dev.readFirst d a1 a2) := by
  unfold Dev.readFirst
  repeat'
    first
    | with_reducible
        first
        | assumption | apply Dev.freed_kept | apply Dev.nowRead_kept | apply Dev.drawChallenge_kept
        | apply Dev.ffeSnapshot_kept
    | split

theorem Dev.readThen_kept (h : Dev.Kept d0 d) (a1 a2) :
    Dev.Kept d0 (Dev.readThen d a1 a2) := by
  unfold Dev.readThen
  repeat'
    first
    | with_reducible
        first
        | assumption | apply Dev.each_kept | apply Dev.readClear_kept | apply Dev.latchWide_kept | (intro _)
    | split

theorem Dev.busRead_kept (h : Dev.Kept d0 d) (a1 a2) :
    Dev.Kept d0 (Dev.busRead d a1 a2).1 := by
  unfold Dev.busRead
  repeat'
    first
    | with_reducible
        first
        | assumption | apply Dev.unmapped_kept | apply Dev.rngRead_kept | apply Dev.freed_kept
        | apply Dev.readFirst_kept | apply Dev.readThen_kept
    | split

theorem Dev.plainWrite_kept (h : Dev.Kept d0 d) (a1 a2) :
    Dev.Kept d0 (Dev.plainWrite d a1 a2) := by
  unfold Dev.plainWrite
  repeat'
    first
    | with_reducible
        first
        | assumption | apply Dev.each_kept | apply Dev.put_kept | (intro _)
    | split

theorem Dev.tblWrite_kept (h : Dev.Kept d0 d) (a1 a2) :
    Dev.Kept d0 (Dev.tblWrite d a1 a2) := by
  unfold Dev.tblWrite
  repeat'
    first
    | with_reducible
        first
        | assumption | apply Dev.tblCmd_kept | apply Dev.doStageWrite_kept | apply Dev.doStageDelete_kept
        | apply Dev.doStageRevert_kept | apply Dev.doRead_kept | apply Dev.doDiscard_kept
        | apply Dev.doReadLoc_kept | (intro _)
    | split

theorem Dev.tblWord_kept (h : Dev.Kept d0 d) (a1 a2 a3) :
    Dev.Kept d0 (Dev.tblWord d a1 a2 a3) := by
  unfold Dev.tblWord
  repeat' with_reducible first | assumption | apply Dev.put_kept | apply Dev.setFam_kept

theorem Dev.genWrite_kept (h : Dev.Kept d0 d) (a1) :
    Dev.Kept d0 (Dev.genWrite d a1) := by
  unfold Dev.genWrite
  repeat'
    first
    | with_reducible
        first
        | assumption | apply Dev.abortCommit_kept | apply Dev.commitStart_kept | apply Dev.confirmCmd_kept
        | apply Dev.discardStart_kept | apply Dev.renumber_kept | apply Dev.rollbackCmd_kept
    | exact Dev.genCmd_kept h (fun _ hx => hx)
    | split

theorem Dev.nodeRuns_kept (h : Dev.Kept d0 d) (a1) :
    Dev.Kept d0 (Dev.nodeRuns d a1) := by
  unfold Dev.nodeRuns
  repeat'
    first
    | with_reducible
        first
        | assumption | apply Dev.put_kept
    | fail_if_no_progress (with_reducible refine .of_mk ?_ rfl rfl rfl rfl rfl)

theorem Dev.bucketReset_kept (h : Dev.Kept d0 d) (a1 a2) :
    Dev.Kept d0 (Dev.bucketReset d a1 a2) := by
  unfold Dev.bucketReset
  repeat'
    first
    | with_reducible
        first
        | assumption | apply Dev.nodeRuns_kept | apply Dev.setBkt_kept
    | split

theorem Dev.readLevel_kept (h : Dev.Kept d0 d) (a1 a2) :
    Dev.Kept d0 (Dev.readLevel d a1 a2) := by
  unfold Dev.readLevel
  repeat'
    first
    | with_reducible
        first
        | assumption | apply Dev.nodeRuns_kept
    | split

theorem Dev.nodeWrite_kept (h : Dev.Kept d0 d) (a1) :
    Dev.Kept d0 (Dev.nodeWrite d a1) := by
  unfold Dev.nodeWrite
  repeat' with_reducible
    first
    | assumption | apply Dev.Kept.ite | apply Dev.ev_kept | apply Dev.bucketReset_kept | apply Dev.nodeRuns_kept
    | apply Dev.flush_kept | apply Dev.readLevel_kept | (intro _)

theorem Dev.nodeDone_kept (h : Dev.Kept d0 d) :
    Dev.Kept d0 (Dev.nodeDone d) := by
  unfold Dev.nodeDone
  repeat'
    first
    | with_reducible
        first
        | assumption | apply Dev.put_kept | apply Dev.ev_kept | apply Dev.putWide_kept
    | split
    | fail_if_no_progress (with_reducible refine .of_mk ?_ rfl rfl rfl rfl rfl)

theorem Dev.sidingOff_kept (h : Dev.Kept d0 d) :
    Dev.Kept d0 (Dev.sidingOff d) := by
  unfold Dev.sidingOff
  repeat'
    first
    | with_reducible
        first
        | assumption
    | split
    | fail_if_no_progress (with_reducible refine .of_mk ?_ rfl rfl rfl rfl rfl)

theorem Dev.sidingCfg_kept (h : Dev.Kept d0 d) (a1) :
    Dev.Kept d0 (Dev.sidingCfg d a1) := by
  unfold Dev.sidingCfg
  repeat'
    first
    | with_reducible
        first
        | assumption | apply Dev.put_kept | apply Dev.sidingOff_kept
    | split
    | fail_if_no_progress (with_reducible refine .of_mk ?_ rfl rfl rfl rfl rfl)

theorem Dev.eqWrite_kept (h : Dev.Kept d0 d) (a1 a2) :
    Dev.Kept d0 (Dev.eqWrite d a1 a2) := by
  unfold Dev.eqWrite
  dsimp only
  repeat'
    first
    | with_reducible
        first
        | assumption | apply Dev.Kept.ite | apply Dev.iff_kept | apply Dev.put_kept | apply Dev.adaptNow_kept
        | apply Dev.eqPreset_kept | apply Dev.plainWrite_kept | (intro _)

theorem Dev.rxWrite_kept (h : Dev.Kept d0 d) (a1 a2) :
    Dev.Kept d0 (Dev.rxWrite d a1 a2) := by
  unfold Dev.rxWrite
  repeat'
    first
    | with_reducible
        first
        | assumption | apply Dev.iff_kept | apply Dev.put_kept | apply Dev.dsdPin_kept
        | apply Dev.lineMoved_kept | apply Dev.rxEnable_kept | (intro _)

theorem Dev.actWrite_kept (h : Dev.Kept d0 d) (a1 a2) :
    Dev.Kept d0 (Dev.actWrite d a1 a2) := by
  unfold Dev.actWrite
  dsimp only
  repeat'
    first
    | with_reducible
        first
        | assumption | apply Dev.Kept.ite | apply Dev.iff_kept | apply Dev.put_kept
        | apply Dev.actDisable_kept | apply Dev.actEnable_kept | apply Dev.learn_kept
        | apply Dev.plainWrite_kept | apply Dev.txCut_kept | (intro _)

theorem Dev.protWrite_kept (h : Dev.Kept d0 d) (a1) :
    Dev.Kept d0 (Dev.protWrite d a1) := by
  unfold Dev.protWrite
  dsimp only
  repeat'
    first
    | with_reducible
        first
        | assumption | apply Dev.Kept.ite | apply Dev.put_kept | apply Dev.defectsMoved_kept
        | apply Dev.plainWrite_kept | apply Dev.protForced_kept | apply Dev.protManual_kept
        | apply Dev.protSwitch_kept | (intro _)

theorem Dev.writeLn_kept (h : Dev.Kept d0 d) (a1 a2) :
    Dev.Kept d0 (Dev.writeLn d a1 a2) := by
  unfold Dev.writeLn
  dsimp only
  repeat'
    first
    | with_reducible
        first
        | assumption | apply Dev.Kept.ite | apply Dev.iff_kept | apply Dev.actWrite_kept
        | apply Dev.allocBind_kept | apply Dev.bondCfg_kept | apply Dev.eqWrite_kept | apply Dev.ffeWrite_kept
        | apply Dev.lineModeWrite_kept | apply Dev.lineMoved_kept | apply Dev.plainWrite_kept
        | apply Dev.pmSelect_kept | apply Dev.powerCheck_kept | apply Dev.protWrite_kept
        | apply Dev.refMoved_kept | apply Dev.rxWrite_kept | apply Dev.toHunt_kept | apply Dev.traceOff_kept
        | apply Dev.xportWrite_kept | (intro _)

theorem Dev.lineSwWrite_kept (h : Dev.Kept d0 d) (a1 a2) :
    Dev.Kept d0 (Dev.lineSwWrite d a1 a2) := by
  unfold Dev.lineSwWrite
  repeat' with_reducible
    first
    | assumption | apply Dev.Kept.ite | apply Dev.put_kept | apply Dev.lineArm_kept | (intro _)

theorem Dev.rsrWrite_kept (h : Dev.Kept d0 d) (a1 a2) :
    Dev.Kept d0 (Dev.rsrWrite d a1 a2) := by
  unfold Dev.rsrWrite
  repeat' with_reducible
    first
    | assumption | apply Dev.Kept.ite | apply Dev.put_kept | apply Dev.rsrArm_kept | (intro _)

theorem Dev.writeCph_kept (h : Dev.Kept d0 d) (a1 a2) :
    Dev.Kept d0 (Dev.writeCph d a1 a2) := by
  unfold Dev.writeCph
  repeat'
    first
    | with_reducible
        first
        | assumption | apply Dev.keyCmd_kept | apply Dev.put_kept | apply Dev.lineSwWrite_kept
        | apply Dev.rsrWrite_kept | apply Dev.plainWrite_kept
    | split

theorem Dev.writePcl_kept (h : Dev.Kept d0 d) (a1 a2) :
    Dev.Kept d0 (Dev.writePcl d a1 a2) := by
  unfold Dev.writePcl
  repeat'
    first
    | with_reducible
        first
        | assumption | apply Dev.tblWrite_kept | apply Dev.tblWord_kept | apply Dev.plainWrite_kept
    | split

theorem Dev.writeTmg_kept (h : Dev.Kept d0 d) (a1 a2) :
    Dev.Kept d0 (Dev.writeTmg d a1 a2) := by
  unfold Dev.writeTmg
  repeat'
    first
    | with_reducible
        first
        | assumption | apply Dev.tblWrite_kept | apply Dev.nodeWrite_kept | apply Dev.sidingCfg_kept
        | apply Dev.tblWord_kept | apply Dev.plainWrite_kept
    | split

theorem Dev.writeSm_kept (h : Dev.Kept d0 d) (a1 a2) :
    Dev.Kept d0 (Dev.writeSm d a1 a2) := by
  unfold Dev.writeSm
  dsimp only
  repeat'
    first
    | with_reducible
        first
        | assumption | apply Dev.Kept.ite | apply Dev.iff_kept | apply Dev.fcUpdate_kept
        | apply Dev.laneCtrl_kept | apply Dev.lpiEnd_kept | apply Dev.plainWrite_kept | apply Dev.tblWord_kept
        | apply Dev.tblWrite_kept | (intro _)
    | (with_reducible refine Dev.Kept.of_fst (by with_reducible assumption) ?_)
    | split

theorem Dev.ladderWrite_kept (h : Dev.Kept d0 d) (a1 a2) :
    Dev.Kept d0 (Dev.ladderWrite d a1 a2) := by
  unfold Dev.ladderWrite
  repeat' with_reducible
    first
    | assumption | apply Dev.Kept.ite | apply Dev.plainWrite_kept | apply Dev.walkStop_kept | apply Dev.iff_kept
    | apply Dev.walkStart_kept | (intro _)

theorem Dev.userWrite_kept (h : Dev.Kept d0 d) (a1 a2 a3) :
    Dev.Kept d0 (Dev.userWrite d a1 a2 a3) := by
  unfold Dev.userWrite
  repeat'
    first
    | with_reducible
        first
        | assumption | apply Dev.iff_kept | apply Dev.patSend_kept | apply Dev.plainWrite_kept | (intro _)

theorem Dev.laneWrite_kept (h : Dev.Kept d0 d) (a1 a2 a3 a4) :
    Dev.Kept d0 (Dev.laneWrite d a1 a2 a3 a4) := by
  unfold Dev.laneWrite
  repeat'
    first
    | with_reducible
        first
        | assumption | apply Dev.Kept.ite | apply Dev.eyeWrite_kept | apply Dev.patWrite_kept
        | apply Dev.plainWrite_kept | apply Dev.rxeqWrite_kept | apply Dev.txeqWrite_kept
        | apply Dev.userWrite_kept | (intro _)
    | split

theorem Dev.writeSl_kept (h : Dev.Kept d0 d) (a1 a2) :
    Dev.Kept d0 (Dev.writeSl d a1 a2) := by
  unfold Dev.writeSl
  repeat' with_reducible
    first
    | assumption | apply Dev.Kept.ite | apply Dev.ladderWrite_kept | apply Dev.laneWrite_kept | (intro _)

theorem Dev.phyWrite_kept (h : Dev.Kept d0 d) (a1 a2) :
    Dev.Kept d0 (Dev.phyWrite d a1 a2) := by
  unfold Dev.phyWrite
  dsimp only
  repeat'
    first
    | with_reducible
        first
        | assumption | apply Dev.Kept.ite | apply Dev.iff_kept | apply Dev.put_kept
        | apply Dev.phyRestart_kept | apply Dev.plainWrite_kept | apply Dev.sendPage_kept | (intro _)

theorem Dev.writeRp_kept (h : Dev.Kept d0 d) (a1 a2) :
    Dev.Kept d0 (Dev.writeRp d a1 a2) := by
  unfold Dev.writeRp
  dsimp only
  repeat'
    first
    | with_reducible
        first
        | assumption | apply Dev.hierCtrl_kept | apply Dev.iff_kept | apply Dev.probeGo_kept
        | apply Dev.gopCtrl_kept | apply Dev.raccCmd_kept | apply Dev.linkCtrl_kept | apply Dev.phyWrite_kept
        | apply Dev.laneWrite_kept | apply Dev.plainWrite_kept | (intro _)
    | split

theorem Dev.ringWrite_kept (h : Dev.Kept d0 d) (a1 a2) :
    Dev.Kept d0 (Dev.ringWrite d a1 a2) := by
  unfold Dev.ringWrite
  repeat' with_reducible
    first
    | assumption | apply Dev.Kept.ite | apply Dev.ringEnable_kept | apply Dev.ringDisable_kept | (intro _)

theorem Dev.writeHif_kept (h : Dev.Kept d0 d) (a1 a2) :
    Dev.Kept d0 (Dev.writeHif d a1 a2) := by
  unfold Dev.writeHif
  dsimp only
  repeat'
    first
    | with_reducible
        first
        | assumption | apply Dev.Kept.ite | apply Dev.backoffDis_kept | apply Dev.domainBind_kept
        | apply Dev.idxWrite_kept | apply Dev.plainWrite_kept | apply Dev.ringWrite_kept | (intro _)
    | (with_reducible refine Dev.Kept.of_fst (by with_reducible assumption) ?_)
    | split

theorem Dev.dmcWrite_kept (h : Dev.Kept d0 d) (a1) :
    Dev.Kept d0 (Dev.dmcWrite d a1) := by
  unfold Dev.dmcWrite
  repeat' with_reducible
    first
    | assumption | apply Dev.dmcCtrl_kept | apply Dev.iff_kept | apply Dev.each_kept | apply Dev.wakeAsk_kept
    | (intro _)

theorem Dev.writeDmc_kept (h : Dev.Kept d0 d) (a1 a2) :
    Dev.Kept d0 (Dev.writeDmc d a1 a2) := by
  unfold Dev.writeDmc
  repeat' with_reducible
    first
    | assumption | apply Dev.Kept.ite | apply Dev.dmcWrite_kept | apply Dev.dmcRgn_kept | apply Dev.plainWrite_kept
    | (intro _)

theorem Dev.writeTim_kept (h : Dev.Kept d0 d) (a1 a2) :
    Dev.Kept d0 (Dev.writeTim d a1 a2) := by
  unfold Dev.writeTim
  repeat'
    first
    | with_reducible
        first
        | assumption | apply Dev.Kept.ite | apply Dev.iff_kept | apply Dev.asymWrite_kept
        | apply Dev.clampHold_kept | apply Dev.eqd0Write_kept | apply Dev.plainWrite_kept
        | apply Dev.pllWrite_kept | apply Dev.rateWrite_kept | apply Dev.slewWrite_kept
        | apply Dev.timCtrl_kept | apply Dev.todArm_kept | (intro _)

theorem Dev.writePwr_kept (h : Dev.Kept d0 d) (a1 a2) :
    Dev.Kept d0 (Dev.writePwr d a1 a2) := by
  unfold Dev.writePwr
  repeat'
    first
    | with_reducible
        first
        | assumption | apply Dev.pwrCtrl_kept | apply Dev.gateWrite_kept | apply Dev.rtcWrite_kept
        | apply Dev.wdogWrite_kept | apply Dev.vsetWrite_kept | apply Dev.plainWrite_kept
    | split

theorem Dev.writeCvu_kept (h : Dev.Kept d0 d) (a1 a2 a3) :
    Dev.Kept d0 (Dev.writeCvu d a1 a2 a3) := by
  unfold Dev.writeCvu
  repeat' with_reducible
    first
    | assumption | apply Dev.Kept.ite | apply Dev.cvuCtrl_kept | apply Dev.cvuData_kept | apply Dev.plainWrite_kept
    | (intro _)

theorem Dev.writeDbg_kept (h : Dev.Kept d0 d) (a1 a2) :
    Dev.Kept d0 (Dev.writeDbg d a1 a2) := by
  unfold Dev.writeDbg
  repeat'
    first
    | with_reducible
        first
        | assumption | apply Dev.dbgCtrl_kept | apply Dev.ckoWrite_kept | apply Dev.plainWrite_kept
    | split

theorem Dev.writeChip_kept (h : Dev.Kept d0 d) (a1 a2) :
    Dev.Kept d0 (Dev.writeChip d a1 a2) := by
  unfold Dev.writeChip
  repeat'
    first
    | with_reducible
        first
        | assumption | apply Dev.rstCtrl_kept | apply Dev.blockRst_kept | apply Dev.i2cCmd_kept
        | apply Dev.mdioCmd_kept | apply Dev.plainWrite_kept
    | split

theorem Dev.writeGen_kept (h : Dev.Kept d0 d) (a1 a2) :
    Dev.Kept d0 (Dev.writeGen d a1 a2) := by
  unfold Dev.writeGen
  repeat' with_reducible
    first
    | assumption | apply Dev.Kept.ite | apply Dev.genWrite_kept | apply Dev.iff_kept | apply Dev.plainWrite_kept
    | apply Dev.fwConfirm_kept | (intro _)

theorem Dev.writeTru_kept (h : Dev.Kept d0 d) (a1 a2) :
    Dev.Kept d0 (Dev.writeTru d a1 a2) := by
  unfold Dev.writeTru
  repeat' with_reducible
    first
    | assumption | apply Dev.Kept.ite | apply Dev.truCmd_kept | apply Dev.plainWrite_kept | (intro _)

theorem Dev.regWrite_kept (h : Dev.Kept d0 d) (a1 a2 a3) :
    Dev.Kept d0 (Dev.regWrite d a1 a2 a3) := by
  unfold Dev.regWrite
  repeat' with_reducible
    first
    | assumption | apply Dev.Kept.ite | apply Dev.writeChip_kept | apply Dev.writeGen_kept
    | apply Dev.writePwr_kept | apply Dev.writeTru_kept | apply Dev.writeCvu_kept | apply Dev.writeDbg_kept
    | apply Dev.writeTim_kept | apply Dev.writeLn_kept | apply Dev.writeCph_kept | apply Dev.writePcl_kept
    | apply Dev.writeTmg_kept | apply Dev.writeSm_kept | apply Dev.writeSl_kept | apply Dev.writeRp_kept
    | apply Dev.writeHif_kept | apply Dev.writeDmc_kept | apply Dev.iff_kept | apply Dev.tenderRestart_kept
    | apply Dev.plainWrite_kept | (intro _)

theorem Dev.busWrite_kept (h : Dev.Kept d0 d) (a1 a2 a3) :
    Dev.Kept d0 (Dev.busWrite d a1 a2 a3) := by
  unfold Dev.busWrite
  repeat' with_reducible
    first
    | assumption | apply Dev.Kept.ite | apply Dev.unmapped_kept | apply Dev.regWrite_kept | (intro _)

end Sys2Proof.Machine
end

