-- ==== Sys2Proof/Laws/KeptRemote.lean ====
section
/-!
SUPPORT. `Dev.Kept` (Safety.lean) through the operations of Machine/Remote.lean.
-/
namespace Sys2Proof.Machine

variable {d0 d : Dev}

theorem Dev.remoteRead_kept (h : Dev.Kept d0 d) (a1) :
    Dev.Kept d0 (Dev.remoteRead d a1) := by
  unfold Dev.remoteRead
  repeat'
    first
    | with_reducible
        first
        | assumption | apply Dev.busRead_kept | apply Dev.narrow_kept | apply Dev.routeRec_kept
    | split

theorem Dev.remoteWrite_kept (h : Dev.Kept d0 d) (a1) :
    Dev.Kept d0 (Dev.remoteWrite d a1) := by
  unfold Dev.remoteWrite
  repeat' with_reducible
    first
    | assumption | apply Dev.Kept.ite | apply Dev.busWrite_kept | apply Dev.narrow_kept | apply Dev.routeRec_kept
    | (intro _)

theorem Dev.handle_kept (h : Dev.Kept d0 d) (a1 a2 a3) :
    Dev.Kept d0 (Dev.handle d a1 a2 a3) := by
  unfold Dev.handle
  repeat'
    first
    | with_reducible
        first
        | assumption | apply Dev.remoteRead_kept | apply Dev.remoteWrite_kept | apply Dev.resp_kept
        | apply Dev.eventRx_kept | apply Dev.probe_kept | apply Dev.probeReply_kept | apply Dev.homingRx_kept
        | apply Dev.syncRx_kept | apply Dev.followRx_kept | apply Dev.dreqRx_kept | apply Dev.drespRx_kept
        | apply Dev.gopArm_kept | apply Dev.gopCancelRx_kept | apply Dev.gopReport_kept | apply Dev.linkCnt_kept
    | split

theorem Dev.recordIn_kept (h : Dev.Kept d0 d) (a1 a2 a3) :
    Dev.Kept d0 (Dev.recordIn d a1 a2 a3) := by
  unfold Dev.recordIn
  repeat' with_reducible
    first
    | assumption | apply Dev.Kept.ite | apply Dev.handle_kept | apply Dev.broadcast_kept | apply Dev.routeRec_kept
    | (intro _)

theorem Dev.drain_kept (h : Dev.Kept d0 d) (a1) :
    Dev.Kept d0 (Dev.drain d a1) := by
  induction a1 generalizing d  with
  | zero =>
    unfold Dev.drain
    repeat' with_reducible first | assumption
  | succ m ih =>
    unfold Dev.drain
    repeat'
      first
      | with_reducible
          first
          | assumption | apply ih | apply Dev.recordIn_kept | apply Dev.setHier_kept
      | split

theorem Dev.recordOn_kept (h : Dev.Kept d0 d) (a1 a2 a3) :
    Dev.Kept d0 (Dev.recordOn d a1 a2 a3) := by
  unfold Dev.recordOn
  repeat' with_reducible first | assumption | apply Dev.Kept.ite | apply Dev.recordIn_kept | (intro _)

theorem Dev.gopInstantRun_kept (h : Dev.Kept d0 d) :
    Dev.Kept d0 (Dev.gopInstantRun d) := by
  unfold Dev.gopInstantRun
  repeat' with_reducible
    first
    | assumption | apply Dev.Kept.ite | apply Dev.gopExecute_kept | apply Dev.warmReset_kept | (intro _)

theorem Dev.tapAccess_kept (h : Dev.Kept d0 d) :
    Dev.Kept d0 (Dev.tapAccess d) := by
  unfold Dev.tapAccess
  repeat'
    first
    | with_reducible
        first
        | assumption | apply Dev.regWrite_kept | apply Dev.busRead_kept
    | split
    | fail_if_no_progress (with_reducible refine .of_mk ?_ rfl rfl rfl rfl rfl)

end Sys2Proof.Machine
end

