-- ==== Sys2Proof/Laws/KeptIrq.lean ====
section
/-!
SUPPORT. `Dev.Kept` (Safety.lean) through the operations of Machine/Irq.lean.
-/
namespace Sys2Proof.Machine

variable {d0 d : Dev}

theorem Dev.irqSend_kept (h : Dev.Kept d0 d) (a1) :
    Dev.Kept d0 (Dev.irqSend d a1) := by
  unfold Dev.irqSend
  repeat' with_reducible first | assumption | apply Dev.Kept.ite | apply Dev.sendVec_kept | (intro _)

theorem Dev.irqs_kept (h : Dev.Kept d0 d) :
    Dev.Kept d0 (Dev.irqs d) := by
  unfold Dev.irqs
  repeat' with_reducible
    first
    | assumption | apply Dev.setHier_kept | apply Dev.iff_kept | apply Dev.each_kept | apply Dev.irqSend_kept
    | apply Dev.sendEvent_kept | (intro _)

theorem Dev.hostStep_kept (h : Dev.Kept d0 d) :
    Dev.Kept d0 (Dev.hostStep d) := by
  unfold Dev.hostStep
  dsimp only
  repeat'
    first
    | with_reducible
        first
        | assumption | apply Dev.Kept.ite | apply Dev.flushHost_kept | apply Dev.hostPorts_kept
        | apply Dev.unstamped_kept | (intro _)
    | split

theorem Dev.hostRounds_kept (h : Dev.Kept d0 d) (n : Nat) : Dev.Kept d0 (d.hostRounds n) := by
  induction n generalizing d with
  | zero => exact h
  | succ n ih =>
    unfold Dev.hostRounds
    exact .ite (fun _ => Dev.hostStep_kept h) (fun _ => ih (Dev.hostStep_kept h))

theorem Dev.hostStage_kept (h : Dev.Kept d0 d) :
    Dev.Kept d0 (Dev.hostStage d) := by
  unfold Dev.hostStage
  repeat'
    first
    | with_reducible
        first
        | assumption | apply Dev.Kept.ite | apply Dev.hostPorts_kept | apply Dev.hostRounds_kept | (intro _)
    | split

theorem Dev.settle_kept (h : Dev.Kept d0 d) :
    Dev.Kept d0 (Dev.settle d) := by
  unfold Dev.settle
  dsimp only
  repeat'
    first
    | with_reducible
        first
        | assumption | apply Dev.Kept.ite | apply Dev.each_kept | apply Dev.ckoWatch_kept
        | apply Dev.downDrop_kept | apply Dev.drain_kept | apply Dev.hostStage_kept | apply Dev.irqs_kept | (intro _)
    | (with_reducible refine Dev.Kept.of_fst (by with_reducible assumption) ?_)
    | split

theorem Dev.after_kept (h : Dev.Kept d0 d) :
    Dev.Kept d0 (Dev.after d) := by
  unfold Dev.after
  repeat' with_reducible first | assumption | apply Dev.Kept.ite | apply Dev.settle_kept | (intro _)

end Sys2Proof.Machine
end

