-- ==== Sys2Proof/Laws/KeptCmd.lean ====
section
/-!
SUPPORT. `Dev.Kept` (Safety.lean) through the helpers of the commands in Machine/Cmd*.lean.
-/
namespace Sys2Proof.Machine

variable {d0 d : Dev}

theorem Dev.access_kept (h : Dev.Kept d0 d) (a1 a2 a3) :
    Dev.Kept d0 (Dev.access d a1 a2 a3) := by
  unfold Dev.access
  repeat'
    first
    | with_reducible
        first
        | assumption | apply Dev.emit_kept | apply Dev.narrow_kept | apply Dev.busRead_kept
        | apply Dev.busWrite_kept
    | split
    | fail_if_no_progress (with_reducible refine .of_mk ?_ rfl rfl rfl rfl rfl)
    | fail_if_no_progress (refine .of_mk ?_ rfl rfl rfl rfl rfl)

theorem Dev.poke_kept (h : Dev.Kept d0 d) (a1 a2 a3) :
    Dev.Kept d0 (Dev.poke d a1 a2 a3) := by
  unfold Dev.poke
  repeat' with_reducible first | assumption | apply Dev.busWrite_kept

theorem Dev.narrowAccess_kept (h : Dev.Kept d0 d) (a1 a2 a3 a4) :
    Dev.Kept d0 (Dev.narrowAccess d a1 a2 a3 a4) := by
  unfold Dev.narrowAccess
  repeat'
    first
    | with_reducible
        first
        | assumption | apply Dev.access_kept | apply Dev.emit_kept | apply Dev.narrow_kept
    | split

theorem Dev.hwSet_kept (h : Dev.Kept d0 d) (a1 a2) :
    Dev.Kept d0 (Dev.hwSet d a1 a2) := by
  unfold Dev.hwSet
  repeat'
    first
    | with_reducible
        first
        | assumption | apply Dev.each_kept | apply Dev.put_kept | (intro _)
    | split

theorem Dev.plainArrival_kept (h : Dev.Kept d0 d) (a1 a2) :
    Dev.Kept d0 (Dev.plainArrival d a1 a2) := by
  unfold Dev.plainArrival
  repeat' with_reducible first | assumption | apply Dev.Kept.ite | apply Dev.arrive_kept | (intro _)

theorem Dev.sdLevel_kept (h : Dev.Kept d0 d) (a1 a2) :
    Dev.Kept d0 (Dev.sdLevel d a1 a2) := by
  unfold Dev.sdLevel
  repeat'
    first
    | with_reducible
        first
        | assumption | apply Dev.Kept.ite | apply Dev.iff_kept | apply Dev.dsdPin_kept
        | apply Dev.setLine_kept | (intro _)

theorem Dev.checkAt_kept (h : Dev.Kept d0 d) (a1 a2 a3 a4 a5 a6) :
    Dev.Kept d0 (Dev.checkAt d a1 a2 a3 a4 a5 a6) := by
  unfold Dev.checkAt
  dsimp only
  repeat'
    first
    | with_reducible
        first
        | assumption | apply Dev.Kept.ite | apply Dev.actFrame_kept | apply Dev.candCheck_kept
        | apply Dev.lineMoved_kept | apply Dev.phaseMeasure_kept | apply Dev.ponidRx_kept
        | apply Dev.setAct_kept | (intro _)
    | (with_reducible refine Dev.Kept.of_fst (by with_reducible assumption) ?_)
    | split

theorem Dev.psyncAt_kept (h : Dev.Kept d0 d) (a1 a2 a3 a4 a5) :
    Dev.Kept d0 (Dev.psyncAt d a1 a2 a3 a4 a5) := by
  unfold Dev.psyncAt
  dsimp only
  repeat'
    first
    | with_reducible
        first
        | assumption | apply Dev.Kept.ite | apply Dev.actFrame_kept | apply Dev.framePsync_kept
        | apply Dev.lineMoved_kept | apply Dev.phaseMeasure_kept | (intro _)

theorem Dev.keyPoke_kept (h : Dev.Kept d0 d) (a1 a2 a3) :
    Dev.Kept d0 (Dev.keyPoke d a1 a2 a3) := by
  unfold Dev.keyPoke
  repeat' with_reducible first | assumption | apply Dev.poke_kept

theorem Dev.keyComplete_kept (h : Dev.Kept d0 d) :
    Dev.Kept d0 (Dev.keyComplete d) := by
  unfold Dev.keyComplete
  repeat'
    first
    | with_reducible
        first
        | assumption | apply Dev.keyDone_kept | apply Dev.keyReport_kept
    | (with_reducible refine Dev.Kept.of_fst (by with_reducible assumption) ?_)
    | split

theorem Dev.tblPoke_kept (h : Dev.Kept d0 d) (a1 a2 a3 a4 a5 a6) :
    Dev.Kept d0 (Dev.tblPoke d a1 a2 a3 a4 a5 a6) := by
  unfold Dev.tblPoke
  repeat' with_reducible first | assumption | apply Dev.poke_kept

theorem Dev.cmdDone_kept (h : Dev.Kept d0 d) (a1) :
    Dev.Kept d0 (Dev.cmdDone d a1) := by
  unfold Dev.cmdDone
  repeat'
    first
    | with_reducible
        first
        | assumption | apply Dev.tblDone_kept | apply Dev.nodeDone_kept
    | split

theorem Dev.refillAt_kept (h : Dev.Kept d0 d) (a1 a2) :
    Dev.Kept d0 (Dev.refillAt d a1 a2) := by
  unfold Dev.refillAt
  repeat' with_reducible first | assumption | apply Dev.Kept.ite | apply Dev.refill_kept | (intro _)

theorem Dev.nodePoke_kept (h : Dev.Kept d0 d) (a1 a2 a3 a4) :
    Dev.Kept d0 (Dev.nodePoke d a1 a2 a3 a4) := by
  unfold Dev.nodePoke
  repeat' with_reducible first | assumption | apply Dev.poke_kept

theorem Dev.inbandWord_kept (h : Dev.Kept d0 d) (a1 a2 a3) :
    Dev.Kept d0 (Dev.inbandWord d a1 a2 a3) := by
  unfold Dev.inbandWord
  repeat' with_reducible
    first
    | assumption | apply Dev.Kept.ite | apply Dev.linkPort_kept | apply Dev.setMac_kept | (intro _)

theorem Dev.rateMatch_kept (h : Dev.Kept d0 d) (a1 a2 a3) :
    Dev.Kept d0 (Dev.rateMatch d a1 a2 a3).1 := by
  unfold Dev.rateMatch
  dsimp only
  repeat'
    first
    | with_reducible
        first
        | assumption | apply Dev.Kept.ite | apply Dev.bump_kept | apply Dev.ev_kept
        | apply Dev.setMac_kept | (intro _)
    | (with_reducible refine Dev.Kept.of_fst (by with_reducible assumption) ?_)
    | split

theorem Dev.frameRx_kept (h : Dev.Kept d0 d) (a1 a2 a3 a4 a5 a6) :
    Dev.Kept d0 (Dev.frameRx d a1 a2 a3 a4 a5 a6) := by
  unfold Dev.frameRx
  dsimp only
  repeat'
    first
    | with_reducible
        first
        | assumption | apply Dev.Kept.ite | apply Dev.macRx_kept | apply Dev.rateMatch_kept | (intro _)

theorem Dev.frameStart_kept (h : Dev.Kept d0 d) (a1 a2 a3) :
    Dev.Kept d0 (Dev.frameStart d a1 a2 a3) := by
  unfold Dev.frameStart
  dsimp only
  repeat'
    first
    | with_reducible
        first
        | assumption | apply Dev.txStart_kept | apply Dev.stamped_kept
    | split

theorem Dev.lpiRx_kept (h : Dev.Kept d0 d) (a1 a2 a3) :
    Dev.Kept d0 (Dev.lpiRx d a1 a2 a3) := by
  unfold Dev.lpiRx
  repeat' with_reducible
    first
    | assumption | apply Dev.Kept.ite | apply Dev.iff_kept | apply Dev.put_kept | apply Dev.smCnt_kept | (intro _)

theorem Dev.nowAccess_kept (h : Dev.Kept d0 d) (a1 a2) :
    Dev.Kept d0 (Dev.nowAccess d a1 a2) := by
  unfold Dev.nowAccess
  dsimp only
  repeat'
    first
    | with_reducible
        first
        | assumption | apply Dev.access_kept | apply Dev.nowRead_kept | apply Dev.readThen_kept
    | split
    | fail_if_no_progress (with_reducible refine .of_mk ?_ rfl rfl rfl rfl rfl)
    | fail_if_no_progress (refine .of_mk ?_ rfl rfl rfl rfl rfl)

theorem Dev.recArrives_kept (h : Dev.Kept d0 d) (a1 a2 a3 a4) :
    Dev.Kept d0 (Dev.recArrives d a1 a2 a3 a4) := by
  unfold Dev.recArrives
  repeat' with_reducible first | assumption | apply Dev.recordOn_kept

theorem Dev.doorbellWritten_kept (h : Dev.Kept d0 d) (a1 a2 a3) :
    Dev.Kept d0 (Dev.doorbellWritten d a1 a2 a3) := by
  unfold Dev.doorbellWritten
  repeat' with_reducible first | assumption | apply Dev.Kept.ite | apply Dev.doorbellLine_kept | (intro _)

theorem Dev.pcieLink_kept (h : Dev.Kept d0 d) (a1 a2 a3) :
    Dev.Kept d0 (Dev.pcieLink d a1 a2 a3) := by
  unfold Dev.pcieLink
  dsimp only
  repeat'
    first
    | with_reducible
        first
        | assumption | apply Dev.Kept.ite | apply Dev.iff_kept | apply Dev.put_kept | apply Dev.ev_kept | (intro _)

theorem Dev.pcieConfig_kept (h : Dev.Kept d0 d) (a1) :
    Dev.Kept d0 (Dev.pcieConfig d a1) := by
  unfold Dev.pcieConfig
  dsimp only
  repeat'
    first
    | with_reducible
        first
        | assumption | apply Dev.Kept.ite | apply Dev.put_kept | apply Dev.flushHost_kept
        | apply Dev.flushPend_kept | (intro _)
    | (with_reducible refine Dev.Kept.of_fst (by with_reducible assumption) ?_)
    | split
    | fail_if_no_progress (with_reducible refine .of_mk ?_ rfl rfl rfl rfl rfl)

theorem Dev.genPoke_kept (h : Dev.Kept d0 d) (a1 a2 a3 a4) :
    Dev.Kept d0 (Dev.genPoke d a1 a2 a3 a4) := by
  unfold Dev.genPoke
  repeat' with_reducible first | assumption | apply Dev.poke_kept

theorem Dev.truPoke_kept (h : Dev.Kept d0 d) (a1 a2 a3) :
    Dev.Kept d0 (Dev.truPoke d a1 a2 a3) := by
  unfold Dev.truPoke
  repeat' with_reducible first | assumption | apply Dev.poke_kept

theorem Dev.rngAccess_kept (h : Dev.Kept d0 d) (a1 a2) :
    Dev.Kept d0 (Dev.rngAccess d a1 a2) := by
  unfold Dev.rngAccess
  dsimp only
  repeat'
    first
    | with_reducible
        first
        | assumption | apply Dev.access_kept | apply Dev.rngRead_kept
    | split
    | fail_if_no_progress (with_reducible refine .of_mk ?_ rfl rfl rfl rfl rfl)
    | fail_if_no_progress (refine .of_mk ?_ rfl rfl rfl rfl rfl)

theorem Dev.tapAccessDone_kept (h : Dev.Kept d0 d) :
    Dev.Kept d0 (Dev.tapAccessDone d) := by
  unfold Dev.tapAccessDone
  repeat' with_reducible
    first
    | assumption | apply Dev.Kept.ite | apply Dev.tapAccess_kept | apply Dev.emit_kept | (intro _)

end Sys2Proof.Machine
end

