-- ==== Sys2Proof/Laws/KeptExec.lean ====
section
/-!
SUPPORT. Every meaning answers a next state in which the queue is untouched, the part is the same, blown fuses are still
blown, and the canonical form is kept (`State.Answers`, Safety.lean): one lemma for each meaning.
-/
namespace Sys2Proof.Machine

theorem State.run_answers (s : State) {f : Dev → Dev} (hf : ∀ (d : Dev), Dev.Kept s.dev d → Dev.Kept s.dev (f d)) :
    s.Answers (s.run f) :=
  ⟨_, rfl, Dev.after_kept (hf _ (.refl _))⟩

theorem State.main_answers (s : State) {f : Dev → Dev} (hf : ∀ (d : Dev), Dev.Kept s.dev d → Dev.Kept s.dev (f d)) :
    s.Answers (s.main f) :=
  s.run_answers (fun d h => .ite (fun _ => hf d h) (fun _ => h))

theorem State.crema_answers (s : State) {f : Dev → Dev} (hf : ∀ (d : Dev), Dev.Kept s.dev d → Dev.Kept s.dev (f d)) :
    s.Answers (s.crema f) :=
  s.run_answers (fun d h => .ite (fun _ => hf d h) (fun _ => h))

theorem State.pin_answers (s : State) {g : Held → Held} {f : Dev → Dev}
    (hf : ∀ (d : Dev), Dev.Kept s.dev d → Dev.Kept s.dev (f d)) : s.Answers (s.pin g f) :=
  s.run_answers (fun d h => .ite (fun _ => hf d h) (fun _ => h.of_mk rfl rfl rfl rfl rfl))

theorem execRegisterWrite_answers (a1 a2 a3) (s : State) : s.Answers (execRegisterWrite a1 a2 a3 s) :=
  s.main_answers (fun _ h => Dev.access_kept h _ _ _)

theorem execW1cClear_answers (a1 a2 a3 a4) (s : State) : s.Answers (execW1cClear a1 a2 a3 a4 s) := by
  refine s.main_answers (fun d h => ?_)
  repeat'
    first
    | with_reducible
        first
        | assumption | apply Dev.Kept.ite | apply Dev.access_kept | apply Dev.hwSet_kept | (intro _)

theorem execRcRead_answers (a1 a2) (s : State) : s.Answers (execRcRead a1 a2 s) :=
  s.main_answers (fun _ h => Dev.access_kept h _ _ _)

theorem execWideLowWordRead_answers (a1 a2) (s : State) : s.Answers (execWideLowWordRead a1 a2 s) :=
  s.main_answers (fun _ h => Dev.access_kept h _ _ _)

theorem execAbsentUnitAccess_answers (a1 a2 a3) (s : State) : s.Answers (execAbsentUnitAccess a1 a2 a3 s) :=
  s.main_answers (fun _ h => Dev.access_kept h _ _ _)

theorem execUnmappedAccess_answers (a1 a2 a3) (s : State) : s.Answers (execUnmappedAccess a1 a2 a3 s) :=
  s.main_answers (fun _ h => Dev.access_kept h _ _ _)

theorem execNarrowAccess_answers (a1 a2 a3 a4) (s : State) : s.Answers (execNarrowAccess a1 a2 a3 a4 s) :=
  s.main_answers (fun _ h => Dev.narrowAccess_kept h _ _ _ _)

theorem execCremaPowerOnReset_answers (s : State) : s.Answers (execCremaPowerOnReset s) :=
  s.run_answers (fun _ h => Dev.cremaReset_kept h)

theorem execCremaPorEnd_answers (s : State) : s.Answers (execCremaPorEnd s) :=
  s.run_answers (fun _ h => Dev.cremaEnd_kept h)

theorem execPorstNAssert_answers (s : State) : s.Answers (execPorstNAssert s) :=
  s.pin_answers (fun _ h => Dev.porstTaken_kept h)

theorem execPorstNRelease_answers (a1) (s : State) : s.Answers (execPorstNRelease a1 s) :=
  s.pin_answers (fun _ h => Dev.porstHigh_kept h _)

theorem execResetNAssert_answers (s : State) : s.Answers (execResetNAssert s) :=
  s.run_answers (fun _ h => Dev.resetNLow_kept h)

theorem execResetNRelease_answers (s : State) : s.Answers (execResetNRelease s) :=
  s.run_answers (fun _ h => Dev.resetNHigh_kept h)

theorem execChipReset_answers (a1 a2) (s : State) : s.Answers (execChipReset a1 a2 s) :=
  s.main_answers (fun _ h => Dev.busWrite_kept h _ _ _)

theorem execBlockRstLn_answers (a1) (s : State) : s.Answers (execBlockRstLn a1 s) :=
  s.main_answers (fun _ h => Dev.blockRstLn_kept h _)

theorem execBlockRstRp_answers (a1) (s : State) : s.Answers (execBlockRstRp a1 s) :=
  s.main_answers (fun _ h => Dev.blockRstRp_kept h _)

theorem execBlockRstCph_answers (a1) (s : State) : s.Answers (execBlockRstCph a1 s) :=
  s.main_answers (fun _ h => Dev.blockRstCph_kept h _)

theorem execBlockRstHif_answers (a1) (s : State) : s.Answers (execBlockRstHif a1 s) :=
  s.main_answers (fun _ h => Dev.blockRstHif_kept h _)

theorem execPcieReset_answers (s : State) : s.Answers (execPcieReset s) := by
  refine s.main_answers (fun d h => ?_)
  repeat' with_reducible first | assumption | apply Dev.Kept.ite | apply Dev.pcieReset_kept | (intro _)

theorem execFunctionLevelReset_answers (s : State) : s.Answers (execFunctionLevelReset s) := by
  refine s.main_answers (fun d h => ?_)
  repeat' with_reducible first | assumption | apply Dev.Kept.ite | apply Dev.pcieReset_kept | (intro _)

theorem execTestEnAssert_answers (a1 a2) (s : State) : s.Answers (execTestEnAssert a1 a2 s) :=
  s.pin_answers (fun _ h => Dev.testEn_kept h _ _)

theorem execRecircTokenGain_answers (s : State) : s.Answers (execRecircTokenGain s) := by
  refine s.main_answers (fun d h => ?_)
  repeat' with_reducible first | assumption | apply Dev.each_kept | apply Dev.setSlice_kept | (intro _)

theorem execHostTokenGain_answers (s : State) : s.Answers (execHostTokenGain s) := by
  refine s.main_answers (fun d h => ?_)
  repeat' with_reducible first | assumption | apply Dev.each_kept | apply Dev.setSlice_kept | (intro _)

theorem execSlotGrant_answers (a1 a2) (s : State) : s.Answers (execSlotGrant a1 a2 s) := by
  refine s.main_answers (fun d h => ?_)
  repeat' with_reducible first | assumption | apply Dev.slotGrant_kept | apply Dev.advance_kept

theorem execInputBufferArrival_answers (a1 a2 a3) (s : State) : s.Answers (execInputBufferArrival a1 a2 a3 s) := by
  refine s.main_answers (fun d h => ?_)
  repeat' with_reducible first | assumption | apply Dev.plainArrival_kept | apply Dev.advance_kept

theorem execRxEnWrite_answers (a1 a2 a3) (s : State) : s.Answers (execRxEnWrite a1 a2 a3 s) :=
  s.main_answers (fun _ h => Dev.poke_kept h _ _ _)

theorem execEqAcqDone_answers (a1) (s : State) : s.Answers (execEqAcqDone a1 s) :=
  s.main_answers (fun _ h => Dev.acqDone_kept h _)

theorem execFfeWrite_answers (a1 a2 a3 a4) (s : State) : s.Answers (execFfeWrite a1 a2 a3 a4 s) :=
  s.main_answers (fun _ h => Dev.poke_kept h _ _ _)

theorem execFfeSnapshotRead_answers (a1 a2) (s : State) : s.Answers (execFfeSnapshotRead a1 a2 s) :=
  s.main_answers (fun _ h => Dev.access_kept h _ _ _)

theorem execEqPreset_answers (a1 a2 a3) (s : State) : s.Answers (execEqPreset a1 a2 a3 s) :=
  s.main_answers (fun _ h => Dev.poke_kept h _ _ _)

theorem execLineSdChange_answers (a1 a2) (s : State) : s.Answers (execLineSdChange a1 a2 s) :=
  s.run_answers (fun _ h => Dev.sdLevel_kept h _ _)

theorem execDsdRaise_answers (a1) (s : State) : s.Answers (execDsdRaise a1 s) := by
  refine s.main_answers (fun d h => ?_)
  repeat' with_reducible
    first
    | assumption | apply Dev.Kept.ite | apply Dev.adaptNow_kept | apply Dev.defRaise_kept
    | apply Dev.lineMoved_kept | (intro _)

theorem execDsdClear_answers (a1) (s : State) : s.Answers (execDsdClear a1 s) := by
  refine s.main_answers (fun d h => ?_)
  repeat'
    first
    | with_reducible
        first
        | assumption | apply Dev.Kept.ite | apply Dev.lineMoved_kept | apply Dev.defClear_kept | (intro _)

theorem execLolRaise_answers (a1) (s : State) : s.Answers (execLolRaise a1 s) := by
  refine s.main_answers (fun d h => ?_)
  repeat' with_reducible
    first
    | assumption | apply Dev.Kept.ite | apply Dev.put_kept | apply Dev.adaptNow_kept | apply Dev.defRaise_kept
    | apply Dev.lineMoved_kept | (intro _)

theorem execLolClear_answers (a1) (s : State) : s.Answers (execLolClear a1 s) := by
  refine s.main_answers (fun d h => ?_)
  repeat'
    first
    | with_reducible
        first
        | assumption | apply Dev.Kept.ite | apply Dev.lineMoved_kept | apply Dev.defClear_kept | apply Dev.put_kept | (intro _)

theorem execHuntRestart_answers (a1 a2 a3) (s : State) : s.Answers (execHuntRestart a1 a2 a3 s) :=
  s.main_answers (fun _ h => Dev.poke_kept h _ _ _)

theorem execHuntMatch_answers (a1 a2 a3 a4 a5) (s : State) : s.Answers (execHuntMatch a1 a2 a3 a4 a5 s) := by
  refine s.main_answers (fun d h => ?_)
  repeat' with_reducible first | assumption | apply Dev.lineMoved_kept | apply Dev.huntMatch_kept

theorem execCandidateCheck_answers (a1 a2 a3 a4 a5) (s : State) : s.Answers (execCandidateCheck a1 a2 a3 a4 a5 s) := by
  refine s.main_answers (fun d h => ?_)
  repeat' with_reducible
    first
    | assumption | apply Dev.checkAt_kept

theorem execAmbigRaise_answers (a1) (s : State) : s.Answers (execAmbigRaise a1 s) :=
  s.main_answers (fun _ h => Dev.ambig_kept h _)

theorem execFramePsync_answers (a1 a2 a3 a4 a5 a6) (s : State) : s.Answers (execFramePsync a1 a2 a3 a4 a5 a6 s) := by
  refine s.main_answers (fun d h => ?_)
  repeat' with_reducible first | assumption | apply Dev.psyncAt_kept | apply Dev.advance_kept

theorem execCodewordDecision_answers (a1 a2) (s : State) : s.Answers (execCodewordDecision a1 a2 s) := by
  refine s.main_answers (fun d h => ?_)
  repeat' with_reducible first | assumption | apply Dev.lineMoved_kept | apply Dev.codeword_kept

theorem execFsHeaderReceived_answers (a1) (s : State) : s.Answers (execFsHeaderReceived a1 s) := by
  refine s.main_answers (fun d h => ?_)
  repeat'
    first
    | with_reducible
        first
        | assumption | apply Dev.Kept.ite | apply Dev.actHeader_kept | apply Dev.fsStart_kept | (intro _)

theorem execXgemHeader_answers (a1 a2 a3) (s : State) : s.Answers (execXgemHeader a1 a2 a3 s) :=
  s.main_answers (fun _ h => Dev.xgemHeader_kept h _ _ _)

theorem execXportWrite_answers (a1 a2 a3 a4) (s : State) : s.Answers (execXportWrite a1 a2 a3 a4 s) :=
  s.main_answers (fun _ h => Dev.poke_kept h _ _ _)

theorem execTraceCtrlWrite_answers (a1 a2 a3) (s : State) : s.Answers (execTraceCtrlWrite a1 a2 a3 s) :=
  s.main_answers (fun _ h => Dev.poke_kept h _ _ _)

theorem execPmLatch_answers (a1) (s : State) : s.Answers (execPmLatch a1 s) := by
  refine s.main_answers (fun d h => ?_)
  repeat' with_reducible first | assumption | apply Dev.pmLatchAll_kept | apply Dev.advance_kept

theorem execPmSelWrite_answers (a1 a2 a3) (s : State) : s.Answers (execPmSelWrite a1 a2 a3 s) :=
  s.main_answers (fun _ h => Dev.poke_kept h _ _ _)

theorem execTenderLockstepError_answers (s : State) : s.Answers (execTenderLockstepError s) :=
  s.main_answers (fun _ h => Dev.lockstepError_kept h)

theorem execTenderRestart_answers (a1) (s : State) : s.Answers (execTenderRestart a1 s) :=
  s.main_answers (fun _ h => Dev.poke_kept h _ _ _)

theorem execActEnable_answers (a1 a2) (s : State) : s.Answers (execActEnable a1 a2 s) :=
  s.main_answers (fun _ h => Dev.poke_kept h _ _ _)

theorem execActDisable_answers (a1 a2) (s : State) : s.Answers (execActDisable a1 a2 s) :=
  s.main_answers (fun _ h => Dev.poke_kept h _ _ _)

theorem execLodsTimeout_answers (a1) (s : State) : s.Answers (execLodsTimeout a1 s) :=
  s.main_answers (fun _ h => Dev.lodsTimeout_kept h _)

theorem execTo1Expiry_answers (a1) (s : State) : s.Answers (execTo1Expiry a1 s) :=
  s.main_answers (fun _ h => Dev.to1Expiry_kept h _)

theorem execTo2Expiry_answers (a1) (s : State) : s.Answers (execTo2Expiry a1 s) :=
  s.main_answers (fun _ h => Dev.to2Expiry_kept h _)

theorem execBurstProfile_answers (a1 a2 a3) (s : State) : s.Answers (execBurstProfile a1 a2 a3 s) := by
  refine s.main_answers (fun d h => ?_)
  repeat' with_reducible first | assumption | apply Dev.ploamRx_kept | apply Dev.burstProfile_kept | (intro _)

theorem execAssignOnuId_answers (a1 a2 a3) (s : State) : s.Answers (execAssignOnuId a1 a2 a3 s) := by
  refine s.main_answers (fun d h => ?_)
  repeat' with_reducible first | assumption | apply Dev.ploamRx_kept | apply Dev.assignOnu_kept | (intro _)

theorem execRangingTime_answers (a1 a2 a3) (s : State) : s.Answers (execRangingTime a1 a2 a3 s) := by
  refine s.main_answers (fun d h => ?_)
  repeat' with_reducible first | assumption | apply Dev.ploamRx_kept | apply Dev.rangingTime_kept | (intro _)

theorem execDeactivateOnuId_answers (a1 a2) (s : State) : s.Answers (execDeactivateOnuId a1 a2 s) := by
  refine s.main_answers (fun d h => ?_)
  repeat' with_reducible first | assumption | apply Dev.ploamRx_kept | apply Dev.deactivate_kept | (intro _)

theorem execDisableSerialNumber_answers (a1 a2 a3 a4) (s : State) : s.Answers (execDisableSerialNumber a1 a2 a3 a4 s) := by
  refine s.main_answers (fun d h => ?_)
  repeat' with_reducible first | assumption | apply Dev.ploamRx_kept | apply Dev.disableSerial_kept | (intro _)

theorem execRequestRegistration_answers (a1 a2) (s : State) : s.Answers (execRequestRegistration a1 a2 s) := by
  refine s.main_answers (fun d h => ?_)
  repeat'
    first
    | with_reducible
        first
        | assumption | apply Dev.ploamRx_kept | apply Dev.requestRegistration_kept | (intro _)

theorem execAssignAllocId_answers (a1 a2 a3 a4) (s : State) : s.Answers (execAssignAllocId a1 a2 a3 a4 s) := by
  refine s.main_answers (fun d h => ?_)
  repeat' with_reducible first | assumption | apply Dev.ploamRx_kept | apply Dev.assignAlloc_kept | (intro _)

theorem execKeyControl_answers (a1 a2 a3) (s : State) : s.Answers (execKeyControl a1 a2 a3 s) := by
  refine s.main_answers (fun d h => ?_)
  repeat' with_reducible
    first
    | assumption | apply Dev.keyControl_kept | apply Dev.ploamRx_kept | (intro _)

theorem execSystemProfile_answers (a1 a2 a3) (s : State) : s.Answers (execSystemProfile a1 a2 a3 s) := by
  refine s.main_answers (fun d h => ?_)
  repeat' with_reducible first | assumption | apply Dev.ploamRx_kept | apply Dev.systemProfile_kept | (intro _)

theorem execChannelProfile_answers (a1 a2 a3) (s : State) : s.Answers (execChannelProfile a1 a2 a3 s) := by
  refine s.main_answers (fun d h => ?_)
  repeat'
    first
    | with_reducible
        first
        | assumption | apply Dev.lineMoved_kept | apply Dev.ploamRx_kept | apply Dev.channelProfile_kept | (intro _)

theorem execChangePowerLevel_answers (a1 a2 a3) (s : State) : s.Answers (execChangePowerLevel a1 a2 a3 s) := by
  refine s.main_answers (fun d h => ?_)
  repeat' with_reducible first | assumption | apply Dev.ploamRx_kept | apply Dev.powerLevel_kept | (intro _)

theorem execProtectionControl_answers (a1 a2) (s : State) : s.Answers (execProtectionControl a1 a2 s) := by
  refine s.main_answers (fun d h => ?_)
  repeat' with_reducible first | assumption | apply Dev.ploamRx_kept | apply Dev.ackOnly_kept | (intro _)

theorem execSleepAllow_answers (a1 a2) (s : State) : s.Answers (execSleepAllow a1 a2 s) := by
  refine s.main_answers (fun d h => ?_)
  repeat' with_reducible first | assumption | apply Dev.ploamRx_kept | apply Dev.ackOnly_kept | (intro _)

theorem execCalibrationRequest_answers (a1 a2) (s : State) : s.Answers (execCalibrationRequest a1 a2 s) := by
  refine s.main_answers (fun d h => ?_)
  repeat' with_reducible first | assumption | apply Dev.ploamRx_kept | apply Dev.ackOnly_kept | (intro _)

theorem execAdjustTxWavelength_answers (a1 a2) (s : State) : s.Answers (execAdjustTxWavelength a1 a2 s) := by
  refine s.main_answers (fun d h => ?_)
  repeat' with_reducible first | assumption | apply Dev.ploamRx_kept | apply Dev.ackOnly_kept | (intro _)

theorem execTuningControl_answers (a1 a2) (s : State) : s.Answers (execTuningControl a1 a2 s) := by
  refine s.main_answers (fun d h => ?_)
  repeat' with_reducible first | assumption | apply Dev.ploamRx_kept | apply Dev.ackOnly_kept | (intro _)

theorem execPloamAnswerReady_answers (a1) (s : State) : s.Answers (execPloamAnswerReady a1 s) :=
  s.main_answers (fun _ h => Dev.answerReady_kept h _)

theorem execPwrLvlAppliedWrite_answers (a1 a2 a3) (s : State) : s.Answers (execPwrLvlAppliedWrite a1 a2 a3 s) :=
  s.main_answers (fun _ h => Dev.poke_kept h _ _ _)

theorem execPwrLvlTimeout_answers (a1) (s : State) : s.Answers (execPwrLvlTimeout a1 s) :=
  s.main_answers (fun _ h => Dev.powerTimeout_kept h _)

theorem execBandwidthMapParse_answers (a1 a2) (s : State) : s.Answers (execBandwidthMapParse a1 a2 s) :=
  s.main_answers (fun _ h => Dev.bwmap_kept h _ _)

theorem execBurstSeal_answers (a1 a2) (s : State) : s.Answers (execBurstSeal a1 a2 s) := by
  refine s.main_answers (fun d h => ?_)
  repeat' with_reducible first | assumption | apply Dev.burstSeal_kept | apply Dev.advance_kept

theorem execBurstTransmit_answers (a1 a2) (s : State) : s.Answers (execBurstTransmit a1 a2 s) := by
  refine s.main_answers (fun d h => ?_)
  repeat' with_reducible first | assumption | apply Dev.burstTransmit_kept | apply Dev.advance_kept

theorem execPrestageFill_answers (a1 a2 a3) (s : State) : s.Answers (execPrestageFill a1 a2 a3 s) := by
  refine s.main_answers (fun d h => ?_)
  repeat' with_reducible first | assumption | apply Dev.prestageFill_kept | apply Dev.advance_kept

theorem execCbSidingReadDone_answers (a1 a2) (s : State) : s.Answers (execCbSidingReadDone a1 a2 s) := by
  refine s.main_answers (fun d h => ?_)
  repeat' with_reducible
    first
    | assumption | apply Dev.advance_kept | apply Dev.cbReadDone_kept

theorem execAllocTcontWrite_answers (a1 a2 a3 a4) (s : State) : s.Answers (execAllocTcontWrite a1 a2 a3 a4 s) :=
  s.main_answers (fun _ h => Dev.poke_kept h _ _ _)

theorem execOmciRx_answers (a1) (s : State) : s.Answers (execOmciRx a1 s) := by
  refine s.main_answers (fun d h => ?_)
  repeat' with_reducible first | assumption | apply Dev.Kept.ite | apply Dev.omciRx_kept | (intro _)

theorem execTxmsgHandoff_answers (a1 a2 a3) (s : State) : s.Answers (execTxmsgHandoff a1 a2 a3 s) :=
  s.main_answers (fun _ h => Dev.txmsgHandoff_kept h _ _ _)

theorem execLineModeWrite_answers (a1 a2) (s : State) : s.Answers (execLineModeWrite a1 a2 s) :=
  s.main_answers (fun _ h => Dev.poke_kept h _ _ _)

theorem execBondGroupEnable_answers (a1 a2 a3) (s : State) : s.Answers (execBondGroupEnable a1 a2 a3 s) :=
  s.main_answers (fun _ h => Dev.poke_kept h _ _ _)

theorem execBondGroupDisable_answers (a1 a2 a3) (s : State) : s.Answers (execBondGroupDisable a1 a2 a3 s) :=
  s.main_answers (fun _ h => Dev.poke_kept h _ _ _)

theorem execBondUnitRx_answers (a1 a2) (s : State) : s.Answers (execBondUnitRx a1 a2 s) := by
  refine s.main_answers (fun d h => ?_)
  repeat' with_reducible first | assumption | apply Dev.bondRx_kept | apply Dev.advance_kept

theorem execBondStartTimerExpiry_answers (a1) (s : State) : s.Answers (execBondStartTimerExpiry a1 s) :=
  s.main_answers (fun _ h => Dev.bondStartTimer_kept h _)

theorem execBondWindowExpiry_answers (a1) (s : State) : s.Answers (execBondWindowExpiry a1 s) :=
  s.main_answers (fun _ h => Dev.bondWindow_kept h _)

theorem execFastDefHoldoffExpiry_answers (a1 a2) (s : State) : s.Answers (execFastDefHoldoffExpiry a1 a2 s) := by
  refine s.main_answers (fun d h => ?_)
  repeat' with_reducible
    first
    | assumption | apply Dev.holdoff_kept | apply Dev.refMoved_kept

theorem execProtAutoSwitch_answers (s : State) : s.Answers (execProtAutoSwitch s) := by
  refine s.main_answers (fun d h => ?_)
  repeat' with_reducible
    first
    | assumption | apply Dev.protAuto_kept | apply Dev.refMoved_kept

theorem execProtManualSwitch_answers (a1 a2) (s : State) : s.Answers (execProtManualSwitch a1 a2 s) :=
  s.main_answers (fun _ h => Dev.poke_kept h _ _ _)

theorem execProtForcedSwitch_answers (a1 a2) (s : State) : s.Answers (execProtForcedSwitch a1 a2 s) :=
  s.main_answers (fun _ h => Dev.poke_kept h _ _ _)

theorem execProtSwitchComplete_answers (s : State) : s.Answers (execProtSwitchComplete s) :=
  s.main_answers (fun _ h => Dev.protComplete_kept h)

theorem execTrefTrackResume_answers (s : State) : s.Answers (execTrefTrackResume s) :=
  s.main_answers (fun _ h => Dev.trefResume_kept h)

theorem execLoadPlain_answers (a1 a2) (s : State) : s.Answers (execLoadPlain a1 a2 s) :=
  s.main_answers (fun _ h => Dev.keyPoke_kept h _ _ _)

theorem execLoadDev_answers (a1 a2) (s : State) : s.Answers (execLoadDev a1 a2 s) :=
  s.main_answers (fun _ h => Dev.keyPoke_kept h _ _ _)

theorem execLoadLink_answers (a1 a2) (s : State) : s.Answers (execLoadLink a1 a2 s) :=
  s.main_answers (fun _ h => Dev.keyPoke_kept h _ _ _)

theorem execGenerate_answers (a1 a2) (s : State) : s.Answers (execGenerate a1 a2 s) :=
  s.main_answers (fun _ h => Dev.keyPoke_kept h _ _ _)

theorem execInvalidate_answers (a1 a2) (s : State) : s.Answers (execInvalidate a1 a2 s) :=
  s.main_answers (fun _ h => Dev.keyPoke_kept h _ _ _)

theorem execKeyCmdDone_answers (s : State) : s.Answers (execKeyCmdDone s) :=
  s.main_answers (fun _ h => Dev.keyComplete_kept h)

theorem execLineKeySwArm_answers (a1 a2 a3) (s : State) : s.Answers (execLineKeySwArm a1 a2 a3 s) :=
  s.main_answers (fun _ h => Dev.poke_kept h _ _ _)

theorem execRsrKeySwArm_answers (a1 a2 a3) (s : State) : s.Answers (execRsrKeySwArm a1 a2 a3 s) :=
  s.main_answers (fun _ h => Dev.poke_kept h _ _ _)

theorem execRsrKeySwitch_answers (a1 a2) (s : State) : s.Answers (execRsrKeySwitch a1 a2 s) := by
  refine s.main_answers (fun d h => ?_)
  repeat' with_reducible first | assumption | apply Dev.rsrSwitch_kept | apply Dev.advance_kept

theorem execWagonVerdict_answers (a1) (s : State) : s.Answers (execWagonVerdict a1 s) :=
  s.main_answers (fun _ h => Dev.wagonVerdict_kept h _)

theorem execIngressPassEnd_answers (a1 a2) (s : State) : s.Answers (execIngressPassEnd a1 a2 s) := by
  refine s.main_answers (fun d h => ?_)
  repeat' with_reducible first | assumption | apply Dev.passEnd_kept | apply Dev.advance_kept

theorem execRecircReturn_answers (a1) (s : State) : s.Answers (execRecircReturn a1 s) := by
  refine s.main_answers (fun d h => ?_)
  repeat' with_reducible
    first
    | assumption | apply Dev.hostPorts_kept | apply Dev.recircReturn_kept

theorem execRecircTimeout_answers (a1) (s : State) : s.Answers (execRecircTimeout a1 s) := by
  refine s.main_answers (fun d h => ?_)
  repeat' with_reducible
    first
    | assumption | apply Dev.hostPorts_kept | apply Dev.recircTimeout_kept

theorem execPclStageWrite_answers (a1 a2 a3) (s : State) : s.Answers (execPclStageWrite a1 a2 a3 s) :=
  s.main_answers (fun _ h => Dev.tblPoke_kept h _ _ _ _ _ _)

theorem execPclStageDelete_answers (a1 a2 a3) (s : State) : s.Answers (execPclStageDelete a1 a2 a3 s) :=
  s.main_answers (fun _ h => Dev.tblPoke_kept h _ _ _ _ _ _)

theorem execPclStageRevert_answers (a1 a2 a3) (s : State) : s.Answers (execPclStageRevert a1 a2 a3 s) :=
  s.main_answers (fun _ h => Dev.tblPoke_kept h _ _ _ _ _ _)

theorem execPclRead_answers (a1 a2 a3 a4) (s : State) : s.Answers (execPclRead a1 a2 a3 a4 s) :=
  s.main_answers (fun _ h => Dev.tblPoke_kept h _ _ _ _ _ _)

theorem execPclReadLoc_answers (a1 a2 a3 a4) (s : State) : s.Answers (execPclReadLoc a1 a2 a3 a4 s) :=
  s.main_answers (fun _ h => Dev.tblPoke_kept h _ _ _ _ _ _)

theorem execPclDiscardRejected_answers (a1) (s : State) : s.Answers (execPclDiscardRejected a1 s) :=
  s.main_answers (fun _ h => Dev.tblPoke_kept h _ _ _ _ _ _)

theorem execTblCmdDone_answers (a1) (s : State) : s.Answers (execTblCmdDone a1 s) :=
  s.main_answers (fun _ h => Dev.cmdDone_kept h _)

theorem execScrubDone_answers (a1) (s : State) : s.Answers (execScrubDone a1 s) :=
  s.main_answers (fun _ h => Dev.genScrubDone_kept h _)

theorem execBucketRefill_answers (a1 a2) (s : State) : s.Answers (execBucketRefill a1 a2 s) :=
  s.main_answers (fun _ h => Dev.refillAt_kept h _ _)

theorem execBucketReset_answers (a1 a2 a3) (s : State) : s.Answers (execBucketReset a1 a2 a3 s) :=
  s.main_answers (fun _ h => Dev.nodePoke_kept h _ _ _ _)

theorem execQueueFlush_answers (a1 a2) (s : State) : s.Answers (execQueueFlush a1 a2 s) :=
  s.main_answers (fun _ h => Dev.nodePoke_kept h _ _ _ _)

theorem execReadLevel_answers (a1 a2 a3) (s : State) : s.Answers (execReadLevel a1 a2 a3 s) :=
  s.main_answers (fun _ h => Dev.nodePoke_kept h _ _ _ _)

theorem execTmgStageWrite_answers (a1 a2 a3) (s : State) : s.Answers (execTmgStageWrite a1 a2 a3 s) :=
  s.main_answers (fun _ h => Dev.tblPoke_kept h _ _ _ _ _ _)

theorem execTmgStageDelete_answers (a1 a2 a3) (s : State) : s.Answers (execTmgStageDelete a1 a2 a3 s) :=
  s.main_answers (fun _ h => Dev.tblPoke_kept h _ _ _ _ _ _)

theorem execTmgStageRevert_answers (a1 a2 a3) (s : State) : s.Answers (execTmgStageRevert a1 a2 a3 s) :=
  s.main_answers (fun _ h => Dev.tblPoke_kept h _ _ _ _ _ _)

theorem execTmgRead_answers (a1 a2 a3 a4) (s : State) : s.Answers (execTmgRead a1 a2 a3 a4 s) :=
  s.main_answers (fun _ h => Dev.tblPoke_kept h _ _ _ _ _ _)

theorem execTmgDiscardRejected_answers (a1) (s : State) : s.Answers (execTmgDiscardRejected a1 s) :=
  s.main_answers (fun _ h => Dev.tblPoke_kept h _ _ _ _ _ _)

theorem execSidingReturn_answers (a1) (s : State) : s.Answers (execSidingReturn a1 s) :=
  s.main_answers (fun _ h => Dev.sidingReturn_kept h _ _)

theorem execSidingReadDone_answers (a1 a2) (s : State) : s.Answers (execSidingReadDone a1 a2 s) :=
  s.main_answers (fun _ h => Dev.sidingFail_kept h _ _)

theorem execBufCfgWrite_answers (a1 a2) (s : State) : s.Answers (execBufCfgWrite a1 a2 s) :=
  s.main_answers (fun _ h => Dev.poke_kept h _ _ _)

theorem execSidingCfgWrite_answers (a1 a2) (s : State) : s.Answers (execSidingCfgWrite a1 a2 s) :=
  s.main_answers (fun _ h => Dev.poke_kept h _ _ _)

theorem execSidingDisableApply_answers (s : State) : s.Answers (execSidingDisableApply s) :=
  s.main_answers (fun _ h => Dev.sidingOff_kept h)

theorem execTcontOccUpdate_answers (a1) (s : State) : s.Answers (execTcontOccUpdate a1 s) := by
  refine s.main_answers (fun d h => ?_)
  repeat'
    first
    | with_reducible
        first
        | assumption
    | fail_if_no_progress (refine .of_mk ?_ rfl rfl rfl rfl rfl)

theorem execTcontOccRead_answers (a1 a2) (s : State) : s.Answers (execTcontOccRead a1 a2 s) :=
  s.main_answers (fun _ h => Dev.access_kept h _ _ _)

theorem execLaneCtrlWrite_answers (a1 a2 a3) (s : State) : s.Answers (execLaneCtrlWrite a1 a2 a3 s) :=
  s.main_answers (fun _ h => Dev.poke_kept h _ _ _)

theorem execInbandWordChange_answers (a1 a2 a3) (s : State) : s.Answers (execInbandWordChange a1 a2 a3 s) :=
  s.main_answers (fun _ h => Dev.inbandWord_kept h _ _ _)

theorem execPortLinkChange_answers (a1 a2) (s : State) : s.Answers (execPortLinkChange a1 a2 s) :=
  s.main_answers (fun _ h => Dev.linkPort_kept h _ _)

theorem execMacFrameRx_answers (a1 a2 a3 a4 a5 a6 a7) (s : State) : s.Answers (execMacFrameRx a1 a2 a3 a4 a5 a6 a7 s) := by
  refine s.main_answers (fun d h => ?_)
  repeat' with_reducible first | assumption | apply Dev.frameRx_kept | apply Dev.advance_kept

theorem execPauseTimerExpiry_answers (a1 a2 a3) (s : State) : s.Answers (execPauseTimerExpiry a1 a2 a3 s) :=
  s.main_answers (fun _ h => Dev.pauseLoad_kept h _ _ _)

theorem execFcRefreshExpiry_answers (a1 a2 a3) (s : State) : s.Answers (execFcRefreshExpiry a1 a2 a3 s) := by
  refine s.main_answers (fun d h => ?_)
  repeat' with_reducible first | assumption | apply Dev.fcRefresh_kept | apply Dev.advance_kept

theorem execPortFrameRequest_answers (a1 a2 a3) (s : State) : s.Answers (execPortFrameRequest a1 a2 a3 s) := by
  refine s.main_answers (fun d h => ?_)
  repeat' with_reducible first | assumption | apply Dev.portRequest_kept | apply Dev.advance_kept

theorem execFrameTxStart_answers (a1 a2 a3 a4) (s : State) : s.Answers (execFrameTxStart a1 a2 a3 a4 s) := by
  refine s.main_answers (fun d h => ?_)
  repeat' with_reducible first | assumption | apply Dev.frameStart_kept | apply Dev.advance_kept

theorem execTxUnderrun_answers (a1 a2 a3) (s : State) : s.Answers (execTxUnderrun a1 a2 a3 s) := by
  refine s.main_answers (fun d h => ?_)
  repeat' with_reducible first | assumption | apply Dev.txUnderrun_kept | apply Dev.advance_kept

theorem execFrameTxEnd_answers (a1 a2 a3) (s : State) : s.Answers (execFrameTxEnd a1 a2 a3 s) := by
  refine s.main_answers (fun d h => ?_)
  repeat' with_reducible first | assumption | apply Dev.txEnd_kept | apply Dev.advance_kept

theorem execGateStateChange_answers (a1 a2 a3) (s : State) : s.Answers (execGateStateChange a1 a2 a3 s) := by
  refine s.main_answers (fun d h => ?_)
  repeat'
    first
    | with_reducible
        first
        | assumption | apply Dev.Kept.ite | apply Dev.gateUpdate_kept | apply Dev.advance_kept | (intro _)

theorem execTtStageWrite_answers (a1 a2 a3) (s : State) : s.Answers (execTtStageWrite a1 a2 a3 s) :=
  s.main_answers (fun _ h => Dev.tblPoke_kept h _ _ _ _ _ _)

theorem execTtStageDelete_answers (a1 a2 a3) (s : State) : s.Answers (execTtStageDelete a1 a2 a3 s) :=
  s.main_answers (fun _ h => Dev.tblPoke_kept h _ _ _ _ _ _)

theorem execTtStageRevert_answers (a1 a2 a3) (s : State) : s.Answers (execTtStageRevert a1 a2 a3 s) :=
  s.main_answers (fun _ h => Dev.tblPoke_kept h _ _ _ _ _ _)

theorem execTtRead_answers (a1 a2 a3 a4) (s : State) : s.Answers (execTtRead a1 a2 a3 a4 s) :=
  s.main_answers (fun _ h => Dev.tblPoke_kept h _ _ _ _ _ _)

theorem execTtDiscardRejected_answers (a1) (s : State) : s.Answers (execTtDiscardRejected a1 s) :=
  s.main_answers (fun _ h => Dev.tblPoke_kept h _ _ _ _ _ _)

theorem execLpiEntry_answers (a1 a2) (s : State) : s.Answers (execLpiEntry a1 a2 s) :=
  s.main_answers (fun _ h => Dev.lpiEnter_kept h _ _)

theorem execLpiRxChange_answers (a1 a2 a3) (s : State) : s.Answers (execLpiRxChange a1 a2 a3 s) :=
  s.main_answers (fun _ h => Dev.lpiRx_kept h _ _ _)

theorem execNowRead_answers (a1 a2 a3) (s : State) : s.Answers (execNowRead a1 a2 a3 s) := by
  refine s.main_answers (fun d h => ?_)
  repeat' with_reducible first | assumption | apply Dev.nowAccess_kept | apply Dev.advance_kept

theorem execStepGo_answers (a1 a2 a3) (s : State) : s.Answers (execStepGo a1 a2 a3 s) := by
  refine s.main_answers (fun d h => ?_)
  repeat' with_reducible first | assumption | apply Dev.poke_kept | apply Dev.advance_kept

theorem execTodArm_answers (a1) (s : State) : s.Answers (execTodArm a1 s) :=
  s.main_answers (fun _ h => Dev.poke_kept h _ _ _)

theorem execTodSampleCapture_answers (a1 a2 a3) (s : State) : s.Answers (execTodSampleCapture a1 a2 a3 s) := by
  refine s.main_answers (fun d h => ?_)
  repeat' with_reducible first | assumption | apply Dev.todCapture_kept | apply Dev.advance_kept

theorem execTodSampleEvaluate_answers (a1) (s : State) : s.Answers (execTodSampleEvaluate a1 s) := by
  refine s.main_answers (fun d h => ?_)
  repeat' with_reducible first | assumption | apply Dev.todEvaluate_kept | apply Dev.advance_kept

theorem execSlewComplete_answers (a1) (s : State) : s.Answers (execSlewComplete a1 s) := by
  refine s.main_answers (fun d h => ?_)
  repeat' with_reducible first | assumption | apply Dev.slewComplete_kept | apply Dev.advance_kept

theorem execRateWrite_answers (a1 a2 a3) (s : State) : s.Answers (execRateWrite a1 a2 a3 s) := by
  refine s.main_answers (fun d h => ?_)
  repeat' with_reducible first | assumption | apply Dev.poke_kept | apply Dev.advance_kept

theorem execXferParamWrite_answers (a1 a2 a3) (s : State) : s.Answers (execXferParamWrite a1 a2 a3 s) :=
  s.main_answers (fun _ h => Dev.poke_kept h _ _ _)

theorem execPllCtrlWrite_answers (a1 a2) (s : State) : s.Answers (execPllCtrlWrite a1 a2 s) :=
  s.main_answers (fun _ h => Dev.poke_kept h _ _ _)

theorem execPllRefQualified_answers (s : State) : s.Answers (execPllRefQualified s) :=
  s.main_answers (fun _ h => Dev.pllQualified_kept h)

theorem execPllLockAchieved_answers (s : State) : s.Answers (execPllLockAchieved s) :=
  s.main_answers (fun _ h => Dev.pllLock_kept h)

theorem execPllRefUnqualified_answers (s : State) : s.Answers (execPllRefUnqualified s) :=
  s.main_answers (fun _ h => Dev.pllEval_kept h)

theorem execPpsOutPulse_answers (a1) (s : State) : s.Answers (execPpsOutPulse a1 s) := by
  refine s.main_answers (fun d h => ?_)
  repeat' with_reducible first | assumption | apply Dev.ppsRise_kept | apply Dev.advance_kept

theorem execPpsWidthExpiry_answers (a1) (s : State) : s.Answers (execPpsWidthExpiry a1 s) := by
  refine s.main_answers (fun d h => ?_)
  repeat' with_reducible first | assumption | apply Dev.ppsFall_kept | apply Dev.advance_kept

theorem execPpsInEdge_answers (a1 a2 a3) (s : State) : s.Answers (execPpsInEdge a1 a2 a3 s) := by
  refine s.main_answers (fun d h => ?_)
  repeat' with_reducible first | assumption | apply Dev.ppsIn_kept | apply Dev.advance_kept

theorem execSignalDetectChange_answers (a1 a2) (s : State) : s.Answers (execSignalDetectChange a1 a2 s) :=
  s.main_answers (fun _ h => Dev.signal_kept h _ _)

theorem execSlAdaptDone_answers (a1 a2 a3) (s : State) : s.Answers (execSlAdaptDone a1 a2 a3 s) :=
  s.main_answers (fun _ h => Dev.laneAdapted_kept h _ _ _)

theorem execLadderStart_answers (a1 a2 a3) (s : State) : s.Answers (execLadderStart a1 a2 a3 s) :=
  s.main_answers (fun _ h => Dev.poke_kept h _ _ _)

theorem execLadderRestart_answers (a1 a2 a3) (s : State) : s.Answers (execLadderRestart a1 a2 a3 s) :=
  s.main_answers (fun _ h => Dev.poke_kept h _ _ _)

theorem execLadderDwellExpiry_answers (a1 a2) (s : State) : s.Answers (execLadderDwellExpiry a1 a2 s) := by
  refine s.main_answers (fun d h => ?_)
  repeat' with_reducible first | assumption | apply Dev.Kept.ite | apply Dev.dwell_kept | (intro _)

theorem execTxeqWrite_answers (a1 a2 a3) (s : State) : s.Answers (execTxeqWrite a1 a2 a3 s) :=
  s.main_answers (fun _ h => Dev.poke_kept h _ _ _)

theorem execEyeScanStart_answers (a1 a2 a3) (s : State) : s.Answers (execEyeScanStart a1 a2 a3 s) :=
  s.main_answers (fun _ h => Dev.poke_kept h _ _ _)

theorem execEyeScanDone_answers (a1 a2) (s : State) : s.Answers (execEyeScanDone a1 a2 s) :=
  s.main_answers (fun _ h => Dev.eyeDone_kept h _ _)

theorem execPatSyncGain_answers (a1) (s : State) : s.Answers (execPatSyncGain a1 s) :=
  s.main_answers (fun _ h => Dev.patGain_kept h _)

theorem execPatSyncLoss_answers (a1 a2) (s : State) : s.Answers (execPatSyncLoss a1 a2 s) :=
  s.main_answers (fun _ h => Dev.patLost_kept h _ _)

theorem execForwardedClockLoss_answers (a1) (s : State) : s.Answers (execForwardedClockLoss a1 s) := by
  refine s.main_answers (fun d h => ?_)
  repeat' with_reducible
    first
    | assumption | apply Dev.Kept.ite | apply Dev.clockLost_kept | (intro _)

theorem execForwardedClockOk_answers (a1) (s : State) : s.Answers (execForwardedClockOk a1 s) := by
  refine s.main_answers (fun d h => ?_)
  repeat' with_reducible
    first
    | assumption | apply Dev.Kept.ite | apply Dev.clockOk_kept | (intro _)

theorem execPageAccept_answers (a1 a2) (s : State) : s.Answers (execPageAccept a1 a2 s) := by
  refine s.main_answers (fun d h => ?_)
  repeat' with_reducible first | assumption | apply Dev.Kept.ite | apply Dev.pageAccept_kept | (intro _)

theorem execPageExchangeDone_answers (a1) (s : State) : s.Answers (execPageExchangeDone a1 s) := by
  refine s.main_answers (fun d h => ?_)
  repeat' with_reducible first | assumption | apply Dev.Kept.ite | apply Dev.pagesDone_kept | (intro _)

theorem execSwitchSuspendExpiry_answers (a1) (s : State) : s.Answers (execSwitchSuspendExpiry a1 s) := by
  refine s.main_answers (fun d h => ?_)
  repeat' with_reducible first | assumption | apply Dev.Kept.ite | apply Dev.suspendOver_kept | (intro _)

theorem execSwitchTimeout_answers (a1) (s : State) : s.Answers (execSwitchTimeout a1 s) := by
  refine s.main_answers (fun d h => ?_)
  repeat' with_reducible first | assumption | apply Dev.Kept.ite | apply Dev.switchTimeout_kept | (intro _)

theorem execTrainTimerExpiry_answers (a1 a2 a3) (s : State) : s.Answers (execTrainTimerExpiry a1 a2 a3 s) := by
  refine s.main_answers (fun d h => ?_)
  repeat' with_reducible first | assumption | apply Dev.Kept.ite | apply Dev.trainOver_kept | (intro _)

theorem execRiserCdrUnlock_answers (a1 a2) (s : State) : s.Answers (execRiserCdrUnlock a1 a2 s) := by
  refine s.main_answers (fun d h => ?_)
  repeat' with_reducible first | assumption | apply Dev.Kept.ite | apply Dev.cdrUnlock_kept | (intro _)

theorem execFailRetryExpiry_answers (a1) (s : State) : s.Answers (execFailRetryExpiry a1 s) := by
  refine s.main_answers (fun d h => ?_)
  repeat' with_reducible first | assumption | apply Dev.Kept.ite | apply Dev.failRetry_kept | (intro _)

theorem execPhyRestart_answers (a1 a2 a3) (s : State) : s.Answers (execPhyRestart a1 a2 a3 s) :=
  s.main_answers (fun _ h => Dev.poke_kept h _ _ _)

theorem execSleepEntry_answers (a1) (s : State) : s.Answers (execSleepEntry a1 s) :=
  s.main_answers (fun _ h => Dev.sleepEnter_kept h _)

theorem execWakeRequest_answers (a1) (s : State) : s.Answers (execWakeRequest a1 s) :=
  s.main_answers (fun _ h => Dev.wakeRequest_kept h _)

theorem execWakeGrant_answers (s : State) : s.Answers (execWakeGrant s) :=
  s.crema_answers (fun _ h => Dev.wakeCycle_kept h)

theorem execWakeComplete_answers (a1) (s : State) : s.Answers (execWakeComplete a1 s) :=
  s.main_answers (fun _ h => Dev.wakeDone_kept h _)

theorem execWagonSend_answers (a1 a2 a3) (s : State) : s.Answers (execWagonSend a1 a2 a3 s) := by
  refine s.main_answers (fun d h => ?_)
  repeat' with_reducible first | assumption | apply Dev.wagonSend_kept | apply Dev.advance_kept

theorem execWagonRx_answers (a1 a2 a3 a4 a5) (s : State) : s.Answers (execWagonRx a1 a2 a3 a4 a5 s) := by
  refine s.main_answers (fun d h => ?_)
  repeat' with_reducible
    first
    | assumption | apply Dev.advance_kept | apply Dev.laneRx_kept

theorem execRdReq_answers (a1 a2) (s : State) : s.Answers (execRdReq a1 a2 s) :=
  s.main_answers (fun _ h => Dev.recArrives_kept h _ _ _ _)

theorem execWrReq_answers (a1 a2) (s : State) : s.Answers (execWrReq a1 a2 s) :=
  s.main_answers (fun _ h => Dev.recArrives_kept h _ _ _ _)

theorem execResp_answers (a1 a2) (s : State) : s.Answers (execResp a1 a2 s) :=
  s.main_answers (fun _ h => Dev.recArrives_kept h _ _ _ _)

theorem execEvent_answers (a1 a2) (s : State) : s.Answers (execEvent a1 a2 s) :=
  s.main_answers (fun _ h => Dev.recArrives_kept h _ _ _ _)

theorem execProbe_answers (a1 a2) (s : State) : s.Answers (execProbe a1 a2 s) :=
  s.main_answers (fun _ h => Dev.recArrives_kept h _ _ _ _)

theorem execProbeReply_answers (a1 a2) (s : State) : s.Answers (execProbeReply a1 a2 s) :=
  s.main_answers (fun _ h => Dev.recArrives_kept h _ _ _ _)

theorem execHoming_answers (a1 a2) (s : State) : s.Answers (execHoming a1 a2 s) :=
  s.main_answers (fun _ h => Dev.recArrives_kept h _ _ _ _)

theorem execSync_answers (a1 a2 a3 a4) (s : State) : s.Answers (execSync a1 a2 a3 a4 s) := by
  refine s.main_answers (fun d h => ?_)
  repeat' with_reducible first | assumption | apply Dev.recArrives_kept | apply Dev.advance_kept

theorem execFollow_answers (a1 a2) (s : State) : s.Answers (execFollow a1 a2 s) :=
  s.main_answers (fun _ h => Dev.recArrives_kept h _ _ _ _)

theorem execDreq_answers (a1 a2 a3 a4) (s : State) : s.Answers (execDreq a1 a2 a3 a4 s) := by
  refine s.main_answers (fun d h => ?_)
  repeat' with_reducible first | assumption | apply Dev.recArrives_kept | apply Dev.advance_kept

theorem execDresp_answers (a1 a2) (s : State) : s.Answers (execDresp a1 a2 s) :=
  s.main_answers (fun _ h => Dev.recArrives_kept h _ _ _ _)

theorem execGopArm_answers (a1 a2) (s : State) : s.Answers (execGopArm a1 a2 s) :=
  s.main_answers (fun _ h => Dev.recArrives_kept h _ _ _ _)

theorem execGopCancel_answers (a1 a2) (s : State) : s.Answers (execGopCancel a1 a2 s) :=
  s.main_answers (fun _ h => Dev.recArrives_kept h _ _ _ _)

theorem execGopReport_answers (a1 a2) (s : State) : s.Answers (execGopReport a1 a2 s) :=
  s.main_answers (fun _ h => Dev.recArrives_kept h _ _ _ _)

theorem execRaccGo_answers (a1 a2 a3) (s : State) : s.Answers (execRaccGo a1 a2 a3 s) :=
  s.main_answers (fun _ h => Dev.poke_kept h _ _ _)

theorem execRaccTimeout_answers (a1) (s : State) : s.Answers (execRaccTimeout a1 s) :=
  s.main_answers (fun _ h => Dev.raccTimeout_kept h _)

theorem execEvtRepeatExpiry_answers (s : State) : s.Answers (execEvtRepeatExpiry s) :=
  s.main_answers (fun _ h => Dev.eventRepeat_kept h)

theorem execProbeGo_answers (a1 a2) (s : State) : s.Answers (execProbeGo a1 a2 s) :=
  s.main_answers (fun _ h => Dev.poke_kept h _ _ _)

theorem execProbeTimeout_answers (s : State) : s.Answers (execProbeTimeout s) :=
  s.main_answers (fun _ h => Dev.probeTimeout_kept h)

theorem execXferSyncTimer_answers (s : State) : s.Answers (execXferSyncTimer s) :=
  s.main_answers (fun _ h => Dev.xferTimer_kept h)

theorem execXferExchangeTimeout_answers (s : State) : s.Answers (execXferExchangeTimeout s) :=
  s.main_answers (fun _ h => Dev.exchTimeout_kept h)

theorem execPairSwitch_answers (a1) (s : State) : s.Answers (execPairSwitch a1 s) :=
  s.main_answers (fun _ h => Dev.pairSwitch_kept h _)

theorem execGopGo_answers (a1 a2 a3) (s : State) : s.Answers (execGopGo a1 a2 a3 s) := by
  refine s.main_answers (fun d h => ?_)
  repeat' with_reducible first | assumption | apply Dev.poke_kept | apply Dev.advance_kept

theorem execGopAbort_answers (a1 a2 a3) (s : State) : s.Answers (execGopAbort a1 a2 a3 s) := by
  refine s.main_answers (fun d h => ?_)
  repeat' with_reducible first | assumption | apply Dev.poke_kept | apply Dev.advance_kept

theorem execGopCancelPoint_answers (a1) (s : State) : s.Answers (execGopCancelPoint a1 s) := by
  refine s.main_answers (fun d h => ?_)
  repeat' with_reducible first | assumption | apply Dev.gopPoint_kept | apply Dev.advance_kept

theorem execGopExecute_answers (a1) (s : State) : s.Answers (execGopExecute a1 s) := by
  refine s.main_answers (fun d h => ?_)
  repeat' with_reducible first | assumption | apply Dev.gopInstantRun_kept | apply Dev.advance_kept

theorem execDomainBind_answers (a1 a2 a3) (s : State) : s.Answers (execDomainBind a1 a2 a3 s) :=
  s.main_answers (fun _ h => Dev.poke_kept h _ _ _)

theorem execRingEnable_answers (a1 a2 a3) (s : State) : s.Answers (execRingEnable a1 a2 a3 s) :=
  s.main_answers (fun _ h => Dev.ringEnable_kept h _ _ _)

theorem execRingDisable_answers (a1 a2) (s : State) : s.Answers (execRingDisable a1 a2 s) :=
  s.main_answers (fun _ h => Dev.poke_kept h _ _ _)

theorem execRingStopDone_answers (a1) (s : State) : s.Answers (execRingStopDone a1 s) :=
  s.main_answers (fun _ h => Dev.ringStop_kept h _)

theorem execDoorbellChange_answers (a1 a2 a3) (s : State) : s.Answers (execDoorbellChange a1 a2 a3 s) :=
  s.main_answers (fun _ h => Dev.doorbellWritten_kept h _ _ _)

theorem execDoorbellPoll_answers (a1) (s : State) : s.Answers (execDoorbellPoll a1 s) :=
  s.main_answers (fun _ h => Dev.pollIssue_kept h _)

theorem execPollCompletion_answers (a1 a2 a3 a4) (s : State) : s.Answers (execPollCompletion a1 a2 a3 a4 s) :=
  s.main_answers (fun _ h => Dev.pollDone_kept h _ _ _ _)

theorem execPollBackoff_answers (a1) (s : State) : s.Answers (execPollBackoff a1 s) := by
  refine s.main_answers (fun d h => ?_)
  repeat' with_reducible first | assumption | apply Dev.Kept.ite | apply Dev.ev_kept | (intro _)

theorem execTxfFrameFetch_answers (a1 a2) (s : State) : s.Answers (execTxfFrameFetch a1 a2 s) :=
  s.main_answers (fun _ h => Dev.txfFetch_kept h _ _)

theorem execTxfFrameReadDone_answers (a1 a2 a3) (s : State) : s.Answers (execTxfFrameReadDone a1 a2 a3 s) := by
  refine s.main_answers (fun d h => ?_)
  repeat' with_reducible first | assumption | apply Dev.txfDone_kept | apply Dev.advance_kept

theorem execStatusLineWrite_answers (a1) (s : State) : s.Answers (execStatusLineWrite a1 s) :=
  s.main_answers (fun _ h => Dev.statusLine_kept h _)

theorem execEvtModTimerExpiry_answers (a1) (s : State) : s.Answers (execEvtModTimerExpiry a1 s) :=
  s.main_answers (fun _ h => Dev.modTimer_kept h _)

theorem execRxStarveTimeout_answers (a1) (s : State) : s.Answers (execRxStarveTimeout a1 s) :=
  s.main_answers (fun _ h => Dev.starve_kept h _)

theorem execIrqResendExpiry_answers (a1) (s : State) : s.Answers (execIrqResendExpiry a1 s) := by
  refine s.main_answers (fun d h => ?_)
  repeat' with_reducible first | assumption | apply Dev.Kept.ite | apply Dev.irqSend_kept | (intro _)

theorem execDmaError_answers (a1 a2) (s : State) : s.Answers (execDmaError a1 a2 s) :=
  s.main_answers (fun _ h => Dev.dmaError_kept h _ _)

theorem execPollError_answers (a1) (s : State) : s.Answers (execPollError a1 s) :=
  s.main_answers (fun _ h => Dev.pollError_kept h _)

theorem execPollErrClear_answers (a1 a2) (s : State) : s.Answers (execPollErrClear a1 a2 s) :=
  s.main_answers (fun _ h => Dev.poke_kept h _ _ _)

theorem execPcieLinkChange_answers (a1 a2 a3) (s : State) : s.Answers (execPcieLinkChange a1 a2 a3 s) :=
  s.main_answers (fun _ h => Dev.pcieLink_kept h _ _ _)

theorem execCommit_answers (a1 a2 a3 a4) (s : State) : s.Answers (execCommit a1 a2 a3 a4 s) := by
  refine s.main_answers (fun d h => ?_)
  repeat' with_reducible first | assumption | apply Dev.genPoke_kept | apply Dev.advance_kept

theorem execCommitAt_answers (a1 a2 a3 a4) (s : State) : s.Answers (execCommitAt a1 a2 a3 a4 s) := by
  refine s.main_answers (fun d h => ?_)
  repeat' with_reducible first | assumption | apply Dev.genPoke_kept | apply Dev.advance_kept

theorem execAbort_answers (a1 a2) (s : State) : s.Answers (execAbort a1 a2 s) := by
  refine s.main_answers (fun d h => ?_)
  repeat' with_reducible first | assumption | apply Dev.genPoke_kept | apply Dev.advance_kept

theorem execConfirm_answers (a1 a2) (s : State) : s.Answers (execConfirm a1 a2 s) := by
  refine s.main_answers (fun d h => ?_)
  repeat' with_reducible first | assumption | apply Dev.genPoke_kept | apply Dev.advance_kept

theorem execRollback_answers (a1 a2) (s : State) : s.Answers (execRollback a1 a2 s) := by
  refine s.main_answers (fun d h => ?_)
  repeat' with_reducible first | assumption | apply Dev.genPoke_kept | apply Dev.advance_kept

theorem execRenumber_answers (a1) (s : State) : s.Answers (execRenumber a1 s) :=
  s.main_answers (fun _ h => Dev.genPoke_kept h _ _ _ _)

theorem execDiscard_answers (a1) (s : State) : s.Answers (execDiscard a1 s) :=
  s.main_answers (fun _ h => Dev.genPoke_kept h _ _ _ _)

theorem execCommitValidated_answers (a1) (s : State) : s.Answers (execCommitValidated a1 s) := by
  refine s.main_answers (fun d h => ?_)
  repeat' with_reducible first | assumption | apply Dev.commitValidated_kept | apply Dev.advance_kept

theorem execCommitAtInstant_answers (a1) (s : State) : s.Answers (execCommitAtInstant a1 s) := by
  refine s.main_answers (fun d h => ?_)
  repeat' with_reducible first | assumption | apply Dev.commitInstant_kept | apply Dev.advance_kept

theorem execConfirmTimeout_answers (a1) (s : State) : s.Answers (execConfirmTimeout a1 s) := by
  refine s.main_answers (fun d h => ?_)
  repeat' with_reducible first | assumption | apply Dev.confirmTimeout_kept | apply Dev.advance_kept

theorem execRollbackRevertDone_answers (s : State) : s.Answers (execRollbackRevertDone s) :=
  s.main_answers (fun _ h => Dev.revertDone_kept h)

theorem execDiscardDone_answers (s : State) : s.Answers (execDiscardDone s) :=
  s.main_answers (fun _ h => Dev.discardDone_kept h)

theorem execFwConfirm_answers (a1 a2) (s : State) : s.Answers (execFwConfirm a1 a2 s) :=
  s.main_answers (fun _ h => Dev.poke_kept h _ _ _)

theorem execFwTrialTimeout_answers (s : State) : s.Answers (execFwTrialTimeout s) :=
  s.crema_answers (fun _ h => Dev.trialTimeout_kept h)

theorem execBootRecordWriteDone_answers (s : State) : s.Answers (execBootRecordWriteDone s) :=
  s.main_answers (fun _ h => Dev.fwRecordDone_kept h)

theorem execDmcEnable_answers (a1 a2) (s : State) : s.Answers (execDmcEnable a1 a2 s) :=
  s.main_answers (fun _ h => Dev.poke_kept h _ _ _)

theorem execDmcRgnWrite_answers (a1 a2 a3) (s : State) : s.Answers (execDmcRgnWrite a1 a2 a3 s) :=
  s.main_answers (fun _ h => Dev.poke_kept h _ _ _)

theorem execDmcInit_answers (a1 a2) (s : State) : s.Answers (execDmcInit a1 a2 s) :=
  s.main_answers (fun _ h => Dev.poke_kept h _ _ _)

theorem execDmcInitDone_answers (a1 a2) (s : State) : s.Answers (execDmcInitDone a1 a2 s) :=
  s.main_answers (fun _ h => Dev.dmcInitDone_kept h _ _)

theorem execDmcRequest_answers (a1 a2 a3 a4 a5 a6) (s : State) : s.Answers (execDmcRequest a1 a2 a3 a4 a5 a6 s) := by
  refine s.main_answers (fun d h => ?_)
  repeat' with_reducible first | assumption | apply Dev.dmcRequest_kept | apply Dev.advance_kept

theorem execRegulatorRefill_answers (s : State) : s.Answers (execRegulatorRefill s) :=
  s.main_answers (fun _ h => Dev.regulatorRefill_kept h)

theorem execDmcCommandSlot_answers (a1 a2 a3) (s : State) : s.Answers (execDmcCommandSlot a1 a2 a3 s) := by
  refine s.main_answers (fun d h => ?_)
  repeat' with_reducible first | assumption | apply Dev.commandSlot_kept | apply Dev.advance_kept

theorem execDmcReadComplete_answers (a1 a2 a3) (s : State) : s.Answers (execDmcReadComplete a1 a2 a3 s) := by
  refine s.main_answers (fun d h => ?_)
  repeat' with_reducible first | assumption | apply Dev.readComplete_kept | apply Dev.advance_kept

theorem execRefreshDue_answers (a1) (s : State) : s.Answers (execRefreshDue a1 s) :=
  s.main_answers (fun _ h => Dev.refreshDue_kept h _)

theorem execMr4PollDue_answers (a1) (s : State) : s.Answers (execMr4PollDue a1 s) :=
  s.main_answers (fun _ h => Dev.mr4Due_kept h _)

theorem execMr4Result_answers (a1 a2 a3) (s : State) : s.Answers (execMr4Result a1 a2 a3 s) :=
  s.main_answers (fun _ h => Dev.mr4Result_kept h _ _ _)

theorem execRetrainDue_answers (a1) (s : State) : s.Answers (execRetrainDue a1 s) :=
  s.main_answers (fun _ h => Dev.retrainDue_kept h _)

theorem execRetrainForce_answers (a1) (s : State) : s.Answers (execRetrainForce a1 s) :=
  s.main_answers (fun _ h => Dev.retrainForce_kept h _)

theorem execPhaseSamplingDone_answers (a1) (s : State) : s.Answers (execPhaseSamplingDone a1 s) :=
  s.crema_answers (fun _ h => Dev.phaseSampled_kept h _)

theorem execVsetWrite_answers (a1 a2 a3) (s : State) : s.Answers (execVsetWrite a1 a2 a3 s) :=
  s.main_answers (fun _ h => Dev.poke_kept h _ _ _)

theorem execRailGood_answers (a1 a2) (s : State) : s.Answers (execRailGood a1 a2 s) :=
  s.crema_answers (fun _ h => Dev.railGoodNow_kept h _ _)

theorem execRailFault_answers (a1 a2 a3) (s : State) : s.Answers (execRailFault a1 a2 a3 s) :=
  s.crema_answers (fun _ h => Dev.railFault_kept h _ _ _)

theorem execFaultRetryExpiry_answers (s : State) : s.Answers (execFaultRetryExpiry s) :=
  s.crema_answers (fun _ h => Dev.retryOver_kept h)

theorem execHpPresentChange_answers (a1) (s : State) : s.Answers (execHpPresentChange a1 s) :=
  s.crema_answers (fun _ h => Dev.hpPresent_kept h _)

theorem execHpDebounceExpiry_answers (s : State) : s.Answers (execHpDebounceExpiry s) :=
  s.crema_answers (fun _ h => Dev.hpDebounced_kept h)

theorem execStageStart_answers (s : State) : s.Answers (execStageStart s) :=
  s.crema_answers (fun _ h => Dev.stageStart_kept h)

theorem execHpGraceExpiry_answers (s : State) : s.Answers (execHpGraceExpiry s) :=
  s.crema_answers (fun _ h => Dev.graceOver_kept h)

theorem execPowerDownStage_answers (s : State) : s.Answers (execPowerDownStage s) :=
  s.crema_answers (fun _ h => Dev.downNext_kept h)

theorem execPwrOff_answers (a1 a2) (s : State) : s.Answers (execPwrOff a1 a2 s) :=
  s.main_answers (fun _ h => Dev.poke_kept h _ _ _)

theorem execOffHoldExpiry_answers (s : State) : s.Answers (execOffHoldExpiry s) :=
  s.crema_answers (fun _ h => Dev.offOver_kept h)

theorem execDyingGaspRaise_answers (a1) (s : State) : s.Answers (execDyingGaspRaise a1 s) := by
  refine s.crema_answers (fun d h => ?_)
  repeat'
    first
    | with_reducible
        first
        | assumption | apply Dev.Kept.ite | apply Dev.vinLow_kept | apply Dev.advance_kept | (intro _)

theorem execDyingGaspWithdraw_answers (s : State) : s.Answers (execDyingGaspWithdraw s) :=
  s.crema_answers (fun _ h => Dev.vinLow_kept h _)

theorem execSliceGate_answers (a1 a2) (s : State) : s.Answers (execSliceGate a1 a2 s) :=
  s.main_answers (fun _ h => Dev.poke_kept h _ _ _)

theorem execThermalConversion_answers (a1) (s : State) : s.Answers (execThermalConversion a1 s) :=
  s.crema_answers (fun _ h => Dev.thermConvert_kept h _)

theorem execThermalRecovery_answers (s : State) : s.Answers (execThermalRecovery s) :=
  s.crema_answers (fun _ h => Dev.thermRecover_kept h)

theorem execRtcSecWrite_answers (a1 a2) (s : State) : s.Answers (execRtcSecWrite a1 a2 s) :=
  s.main_answers (fun _ h => Dev.poke_kept h _ _ _)

theorem execWdogKick_answers (a1 a2) (s : State) : s.Answers (execWdogKick a1 a2 s) :=
  s.main_answers (fun _ h => Dev.poke_kept h _ _ _)

theorem execWdogTimeoutWrite_answers (a1 a2) (s : State) : s.Answers (execWdogTimeoutWrite a1 a2 s) :=
  s.main_answers (fun _ h => Dev.poke_kept h _ _ _)

theorem execWdogExpiry_answers (s : State) : s.Answers (execWdogExpiry s) :=
  s.crema_answers (fun _ h => Dev.wdogExpiry_kept h)

theorem execBootRomStart_answers (a1 a2 a3) (s : State) : s.Answers (execBootRomStart a1 a2 a3 s) :=
  s.main_answers (fun _ h => Dev.bootRom_kept h _ _ _)

theorem execBootComplete_answers (a1) (s : State) : s.Answers (execBootComplete a1 s) :=
  s.main_answers (fun _ h => Dev.bootDone_kept h _)

theorem execAttest_answers (a1) (s : State) : s.Answers (execAttest a1 s) :=
  s.main_answers (fun _ h => Dev.truPoke_kept h _ _ _)

theorem execMeasExtend_answers (a1) (s : State) : s.Answers (execMeasExtend a1 s) :=
  s.main_answers (fun _ h => Dev.truPoke_kept h _ _ _)

theorem execDbgOpen_answers (a1) (s : State) : s.Answers (execDbgOpen a1 s) :=
  s.main_answers (fun _ h => Dev.truPoke_kept h _ _ _)

theorem execArbAdvance_answers (a1 a2) (s : State) : s.Answers (execArbAdvance a1 a2 s) :=
  s.main_answers (fun _ h => Dev.truPoke_kept h _ _ _)

theorem execKeyRevoke_answers (a1 a2) (s : State) : s.Answers (execKeyRevoke a1 a2 s) :=
  s.main_answers (fun _ h => Dev.truPoke_kept h _ _ _)

theorem execTruCmdDone_answers (a1) (s : State) : s.Answers (execTruCmdDone a1 s) :=
  s.main_answers (fun _ h => Dev.truDone_kept h _)

theorem execDbgChallengeRead_answers (a1) (s : State) : s.Answers (execDbgChallengeRead a1 s) :=
  s.main_answers (fun _ h => Dev.access_kept h _ _ _)

theorem execRngRead_answers (a1 a2) (s : State) : s.Answers (execRngRead a1 a2 s) :=
  s.main_answers (fun _ h => Dev.rngAccess_kept h _ _)

theorem execRngHealthFail_answers (s : State) : s.Answers (execRngHealthFail s) :=
  s.main_answers (fun _ h => Dev.rngHealthFail_kept h)

theorem execCvuStart_answers (a1 a2 a3) (s : State) : s.Answers (execCvuStart a1 a2 a3 s) :=
  s.main_answers (fun _ h => Dev.poke_kept h _ _ _)

theorem execCvuCheck_answers (a1 a2 a3) (s : State) : s.Answers (execCvuCheck a1 a2 a3 s) :=
  s.main_answers (fun _ h => Dev.poke_kept h _ _ _)

theorem execCvuAbandon_answers (a1 a2 a3) (s : State) : s.Answers (execCvuAbandon a1 a2 a3 s) :=
  s.main_answers (fun _ h => Dev.poke_kept h _ _ _)

theorem execCvuDataB_answers (a1 a2 a3) (s : State) : s.Answers (execCvuDataB a1 a2 a3 s) :=
  s.main_answers (fun _ h => Dev.poke_kept h _ _ _)

theorem execCvuDataH_answers (a1 a2 a3) (s : State) : s.Answers (execCvuDataH a1 a2 a3 s) :=
  s.main_answers (fun _ h => Dev.poke_kept h _ _ _)

theorem execCvuDataW_answers (a1 a2 a3) (s : State) : s.Answers (execCvuDataW a1 a2 a3 s) :=
  s.main_answers (fun _ h => Dev.poke_kept h _ _ _)

theorem execCvuResultRead_answers (a1 a2 a3) (s : State) : s.Answers (execCvuResultRead a1 a2 a3 s) :=
  s.main_answers (fun _ h => Dev.access_kept h _ _ _)

theorem execCkoChange_answers (a1 a2 a3) (s : State) : s.Answers (execCkoChange a1 a2 a3 s) :=
  s.main_answers (fun _ h => Dev.poke_kept h _ _ _)

theorem execDebugReset_answers (a1 a2) (s : State) : s.Answers (execDebugReset a1 a2 s) :=
  s.main_answers (fun _ h => Dev.poke_kept h _ _ _)

theorem execTapReset_answers (s : State) : s.Answers (execTapReset s) :=
  s.run_answers (fun _ h => Dev.tapReset_kept h)

theorem execIdcode_answers (s : State) : s.Answers (execIdcode s) :=
  s.run_answers (fun _ h => Dev.tapIdcode_kept h)

theorem execSamplePreload_answers (a1 a2) (s : State) : s.Answers (execSamplePreload a1 a2 s) :=
  s.run_answers (fun _ h => Dev.tapSample_kept h _ _)

theorem execExtest_answers (s : State) : s.Answers (execExtest s) :=
  s.run_answers (fun _ h => Dev.tapLoad_kept h _)

theorem execExtestPulse_answers (s : State) : s.Answers (execExtestPulse s) :=
  s.run_answers (fun _ h => Dev.tapLoad_kept h _)

theorem execExtestTrain_answers (s : State) : s.Answers (execExtestTrain s) :=
  s.run_answers (fun _ h => Dev.tapLoad_kept h _)

theorem execHighz_answers (s : State) : s.Answers (execHighz s) :=
  s.run_answers (fun _ h => Dev.tapLoad_kept h _)

theorem execClamp_answers (s : State) : s.Answers (execClamp s) :=
  s.run_answers (fun _ h => Dev.tapLoad_kept h _)

theorem execTruAccess_answers (s : State) : s.Answers (execTruAccess s) :=
  s.run_answers (fun _ h => Dev.tapLoad_kept h _)

theorem execTruAccessUpdate_answers (a1) (s : State) : s.Answers (execTruAccessUpdate a1 s) :=
  s.run_answers (fun _ h => Dev.tapUpdate_kept h _)

theorem execTruAccessDone_answers (s : State) : s.Answers (execTruAccessDone s) :=
  s.run_answers (fun _ h => Dev.tapAccessDone_kept h)

theorem execBrewhouseDebugPort_answers (s : State) : s.Answers (execBrewhouseDebugPort s) :=
  s.run_answers (fun _ h => Dev.tapLoad_kept h _)

theorem execTenderDebugPort_answers (s : State) : s.Answers (execTenderDebugPort s) :=
  s.run_answers (fun _ h => Dev.tapLoad_kept h _)

theorem execInternalScan_answers (s : State) : s.Answers (execInternalScan s) :=
  s.run_answers (fun _ h => Dev.tapLoad_kept h _)

theorem execBypass_answers (s : State) : s.Answers (execBypass s) :=
  s.run_answers (fun _ h => Dev.tapLoad_kept h _)

theorem execI2cGo_answers (a1 a2 a3) (s : State) : s.Answers (execI2cGo a1 a2 a3 s) :=
  s.main_answers (fun _ h => Dev.poke_kept h _ _ _)

theorem execI2cDone_answers (a1 a2 a3) (s : State) : s.Answers (execI2cDone a1 a2 a3 s) :=
  s.main_answers (fun _ h => Dev.i2cDone_kept h _ _ _)

theorem execMdioGo_answers (a1 a2 a3) (s : State) : s.Answers (execMdioGo a1 a2 a3 s) :=
  s.main_answers (fun _ h => Dev.poke_kept h _ _ _)

theorem execMdioDone_answers (a1 a2) (s : State) : s.Answers (execMdioDone a1 a2 s) :=
  s.main_answers (fun _ h => Dev.mdioDone_kept h _ _)

theorem execPloamTypeNotHandled_answers (a1 a2) (s : State) : s.Answers (execPloamTypeNotHandled a1 a2 s) := by
  refine s.main_answers (fun d h => ?_)
  repeat' with_reducible first | assumption | apply Dev.ploamRx_kept | (intro _)

theorem execLaneSyncChange_answers (a1 a2 a3 a4 a5 a6 a7) (s : State) : s.Answers (execLaneSyncChange a1 a2 a3 a4 a5 a6 a7 s) := by
  refine s.main_answers (fun d h => ?_)
  repeat' with_reducible
    first
    | assumption | apply Dev.laneSync_kept

theorem execPcieConfigWrite_answers (a1) (s : State) : s.Answers (execPcieConfigWrite a1 s) :=
  s.main_answers (fun _ h => Dev.pcieConfig_kept h _)

theorem execXtOkChange_answers (a1) (s : State) : s.Answers (execXtOkChange a1 s) :=
  s.crema_answers (fun _ h => Dev.xtOk_kept h _)

end Sys2Proof.Machine
end

