-- ==== Sys2Proof/Laws/Poke.lean ====
section
/-!
SUPPORT. Where a write of each register goes: `Dev.poke_<REGISTER>` names the operation that a master's write of a register
whose unit is present performs.
-/
set_option maxRecDepth 100000
set_option linter.all false

namespace Sys2Proof.Machine

/-- A write of a register that a chapter defines and whose unit is present. -/
theorem Dev.busWrite_of {d : Dev} {m : Master} {a v : Nat} (hf : (Reg.find a).isNone = false) (ha : d.absent a = false) :
    d.busWrite m a v = d.regWrite m a v := by
  unfold Dev.busWrite
  rw [hf, ha]; rfl

/-- An address that a register of its block's table covers. -/
theorem Reg.find_isSome {a : Nat} {r : RegD} (hr : r ∈ Reg.table a) (hh : r.hit a = true) : (Reg.find a).isNone = false := by
  unfold Reg.find
  cases h : (Reg.table a).find? (fun r => r.hit a) with
  | some x => rfl
  | none => exact absurd hh (by have := List.find?_eq_none.1 h r hr; simpa using this)

/-! ### Registers with few or no instances -/

theorem Dev.poke_LN_CTRL (d : Dev) (m : Master) (n : Fin 4) (v : Word) (h : d.lnHere n = true) :
    d.poke m (Reg.LN_CTRL.ADR n) v = d.rxWrite n v.toNat := by
  refine (Dev.busWrite_of (by fin_cases n <;> rfl) ?_).trans (by
    fin_cases n <;> simp [Dev.regWrite, Dev.writeLn, Reg.LN_CTRL.ADR, Reg.LN_LINE_MODE.ADR, Reg.LN_PROT_CTRL.ADR])
  revert h
  fin_cases n <;> intro h <;> simp_all [Dev.absent, Dev.absentLn, Dev.absentTmg, Dev.absentCph, Dev.absentDmc, Reg.LN_CTRL.ADR]

theorem Dev.poke_LN_EQ_CTRL (d : Dev) (m : Master) (n : Fin 4) (v : Word) (h : d.lnHere n = true) :
    d.poke m (Reg.LN_EQ_CTRL.ADR n) v = d.eqWrite n v.toNat := by
  refine (Dev.busWrite_of (by fin_cases n <;> rfl) ?_).trans (by fin_cases n <;> rfl)
  revert h
  fin_cases n <;> intro h <;> simp_all [Dev.absent, Dev.absentLn, Dev.absentTmg, Dev.absentCph, Dev.absentDmc, Reg.LN_EQ_CTRL.ADR]

theorem Dev.poke_LN_SYNC_CTRL (d : Dev) (m : Master) (n : Fin 4) (v : Word) (h : d.lnHere n = true) :
    d.poke m (Reg.LN_SYNC_CTRL.ADR n) v = (d.plainWrite (Reg.LN_SYNC_CTRL.ADR n) v.toNat).iff (bitOf v.toNat 13) (fun d => (d.toHunt n).lineMoved n) := by
  refine (Dev.busWrite_of (by fin_cases n <;> rfl) ?_).trans (by fin_cases n <;> rfl)
  revert h
  fin_cases n <;> intro h <;> simp_all [Dev.absent, Dev.absentLn, Dev.absentTmg, Dev.absentCph, Dev.absentDmc, Reg.LN_SYNC_CTRL.ADR]

theorem Dev.poke_LN_TRACE_CTRL (d : Dev) (m : Master) (n : Fin 4) (v : Word) (h : d.lnHere n = true) :
    d.poke m (Reg.LN_TRACE_CTRL.ADR n) v = (d.plainWrite (Reg.LN_TRACE_CTRL.ADR n) v.toNat).traceOff n := by
  refine (Dev.busWrite_of (by fin_cases n <;> rfl) ?_).trans (by fin_cases n <;> rfl)
  revert h
  fin_cases n <;> intro h <;> simp_all [Dev.absent, Dev.absentLn, Dev.absentTmg, Dev.absentCph, Dev.absentDmc, Reg.LN_TRACE_CTRL.ADR]

theorem Dev.poke_LN_PM_SEL (d : Dev) (m : Master) (n : Fin 4) (v : Word) (h : d.lnHere n = true) (hp : d.pmHistHere = true) :
    d.poke m (Reg.LN_PM_SEL.ADR n) v = d.pmSelect n (v.toNat % 2) (bits v.toNat 1 6) := by
  refine (Dev.busWrite_of (by fin_cases n <;> rfl) ?_).trans (by fin_cases n <;> rfl)
  revert h hp
  fin_cases n <;> intro h hp <;> simp_all [Dev.absent, Dev.absentLn, Dev.absentTmg, Dev.absentCph, Dev.absentDmc, Reg.LN_PM_SEL.ADR]

theorem Dev.poke_LN_ACT_CTRL (d : Dev) (m : Master) (n : Fin 4) (v : Word) (h : d.lnHere n = true) :
    d.poke m (Reg.LN_ACT_CTRL.ADR n) v = d.actWrite n v.toNat := by
  refine (Dev.busWrite_of (by fin_cases n <;> rfl) ?_).trans (by fin_cases n <;> rfl)
  revert h
  fin_cases n <;> intro h <;> simp_all [Dev.absent, Dev.absentLn, Dev.absentTmg, Dev.absentCph, Dev.absentDmc, Reg.LN_ACT_CTRL.ADR]

theorem Dev.poke_LN_PWR_LVL (d : Dev) (m : Master) (n : Fin 4) (v : Word) (h : d.lnHere n = true) :
    d.poke m (Reg.LN_PWR_LVL.ADR n) v = (d.plainWrite (Reg.LN_PWR_LVL.ADR n) v.toNat).powerCheck n := by
  refine (Dev.busWrite_of (by fin_cases n <;> rfl) ?_).trans (by fin_cases n <;> rfl)
  revert h
  fin_cases n <;> intro h <;> simp_all [Dev.absent, Dev.absentLn, Dev.absentTmg, Dev.absentCph, Dev.absentDmc, Reg.LN_PWR_LVL.ADR]

theorem Dev.poke_LN_LINE_MODE (d : Dev) (m : Master) (v : Word) (h : d.anyLine = true) :
    d.poke m (Reg.LN_LINE_MODE.ADR) v = (d.lineModeWrite v.toNat).refMoved := by
  refine (Dev.busWrite_of rfl ?_).trans rfl
  show d.absent _ = false
  exact (by simp [Dev.absent, Dev.absentLn, Dev.absentTmg, Dev.absentCph, Dev.absentDmc, Reg.LN_LINE_MODE.ADR, h])

theorem Dev.poke_LN_PROT_CTRL (d : Dev) (m : Master) (v : Word) (h : d.anyLine = true) :
    d.poke m (Reg.LN_PROT_CTRL.ADR) v = (d.protWrite v.toNat).refMoved := by
  refine (Dev.busWrite_of rfl ?_).trans rfl
  show d.absent _ = false
  exact (by simp [Dev.absent, Dev.absentLn, Dev.absentTmg, Dev.absentCph, Dev.absentDmc, Reg.LN_PROT_CTRL.ADR, h])

theorem Dev.poke_CPX_TND_CTRL (d : Dev) (m : Master) (v : Word) (h : d.cpxHere = true) (ht : d.tenderHere = true) :
    d.poke m (Reg.CPX_TND_CTRL.ADR) v = d.iff (bitOf v.toNat 0) (·.tenderRestart) := by
  refine (Dev.busWrite_of rfl ?_).trans rfl
  show d.absent _ = false
  exact (by simp [Dev.absent, Dev.absentLn, Dev.absentTmg, Dev.absentCph, Dev.absentDmc, Reg.CPX_TND_CTRL.ADR, h, ht])

theorem Dev.poke_CPH_KEY_CMD (d : Dev) (m : Master) (v : Word) (h : d.cphHere = true) :
    d.poke m (Reg.CPH_KEY_CMD.ADR) v = d.keyCmd (v.toNat % 8) (bits v.toNat 8 6) := by
  refine (Dev.busWrite_of rfl ?_).trans rfl
  show d.absent _ = false
  exact (by simp [Dev.absent, Dev.absentLn, Dev.absentTmg, Dev.absentCph, Dev.absentDmc, Reg.CPH_KEY_CMD.ADR, h])

theorem Dev.poke_CPH_LINE_US_CTRL (d : Dev) (m : Master) (n : Fin 4) (v : Word) (h : d.cphLineHere = true) (hc : d.cphHere = true) :
    d.poke m (Reg.CPH_LINE_US_CTRL.ADR n) v = d.lineSwWrite n v.toNat := by
  refine (Dev.busWrite_of (by fin_cases n <;> rfl) ?_).trans (by fin_cases n <;> rfl)
  revert h hc
  fin_cases n <;> intro h hc <;> simp_all [Dev.absent, Dev.absentLn, Dev.absentTmg, Dev.absentCph, Dev.absentDmc, Reg.CPH_LINE_US_CTRL.ADR]

theorem Dev.poke_CPH_RSR_CTRL (d : Dev) (m : Master) (p : Fin 4) (v : Word) (h : d.cphRiserHere = true) (hc : d.cphHere = true) :
    d.poke m (Reg.CPH_RSR_CTRL.ADR p) v = d.rsrWrite p v.toNat := by
  refine (Dev.busWrite_of (by fin_cases p <;> rfl) ?_).trans (by fin_cases p <;> rfl)
  revert h hc
  fin_cases p <;> intro h hc <;> simp_all [Dev.absent, Dev.absentLn, Dev.absentTmg, Dev.absentCph, Dev.absentDmc, Reg.CPH_RSR_CTRL.ADR]

theorem Dev.poke_PCL_TBL_CMD (d : Dev) (m : Master) (v : Word) (h : d.unit 13 = true) :
    d.poke m (Family.pcl.cmdReg) v = d.tblWrite .pcl v.toNat := by
  refine (Dev.busWrite_of rfl ?_).trans rfl
  show d.absent _ = false
  exact (by simp [Dev.absent, Dev.absentLn, Dev.absentTmg, Dev.absentCph, Dev.absentDmc, Family.cmdReg, Reg.SM_TT_CMD.ADR, Reg.PCL_TBL_CMD.ADR, Reg.TMG_TBL_CMD.ADR, h])

theorem Dev.poke_TMG_TBL_CMD (d : Dev) (m : Master) (v : Word) (h : d.unit 14 = true) :
    d.poke m (Family.tmg.cmdReg) v = d.tblWrite .tmg v.toNat := by
  refine (Dev.busWrite_of rfl ?_).trans rfl
  show d.absent _ = false
  exact (by simp [Dev.absent, Dev.absentLn, Dev.absentTmg, Dev.absentCph, Dev.absentDmc, Family.cmdReg, Reg.SM_TT_CMD.ADR, Reg.PCL_TBL_CMD.ADR, Reg.TMG_TBL_CMD.ADR, h])

theorem Dev.poke_SM_TT_CMD (d : Dev) (m : Master) (v : Word) :
    d.poke m (Family.tt.cmdReg) v = d.tblWrite .tt v.toNat := by
  refine (Dev.busWrite_of rfl ?_).trans rfl
  show d.absent _ = false
  exact (by simp [Dev.absent, Dev.absentLn, Dev.absentTmg, Dev.absentCph, Dev.absentDmc, Family.cmdReg, Reg.SM_TT_CMD.ADR, Reg.PCL_TBL_CMD.ADR, Reg.TMG_TBL_CMD.ADR])

theorem Dev.poke_TMG_NODE_CMD (d : Dev) (m : Master) (v : Word) (h : d.unit 14 = true) :
    d.poke m (Reg.TMG_NODE_CMD.ADR) v = d.nodeWrite v.toNat := by
  refine (Dev.busWrite_of rfl ?_).trans rfl
  show d.absent _ = false
  exact (by simp [Dev.absent, Dev.absentLn, Dev.absentTmg, Dev.absentCph, Dev.absentDmc, Reg.TMG_NODE_CMD.ADR, h])

theorem Dev.poke_TMG_BUF_CFG (d : Dev) (m : Master) (v : Word) (h : d.unit 14 = true) :
    d.poke m (Reg.TMG_BUF_CFG.ADR) v = d.plainWrite Reg.TMG_BUF_CFG.ADR v.toNat := by
  refine (Dev.busWrite_of rfl ?_).trans rfl
  show d.absent _ = false
  exact (by simp [Dev.absent, Dev.absentLn, Dev.absentTmg, Dev.absentCph, Dev.absentDmc, Reg.TMG_BUF_CFG.ADR, h])

theorem Dev.poke_TMG_SIDING_CFG (d : Dev) (m : Master) (v : Word) (h : d.unit 14 = true) (hs : d.sidingHere = true) :
    d.poke m (Reg.TMG_SIDING_CFG.ADR) v = d.sidingCfg v.toNat := by
  refine (Dev.busWrite_of rfl ?_).trans rfl
  show d.absent _ = false
  exact (by simp [Dev.absent, Dev.absentLn, Dev.absentTmg, Dev.absentCph, Dev.absentDmc, Reg.TMG_SIDING_CFG.ADR, h, hs])

theorem Dev.poke_TIM_CTRL (d : Dev) (m : Master) (v : Word) (h : d.unit 15 = true) :
    d.poke m (Reg.TIM_CTRL.ADR) v = d.timCtrl v.toNat := by
  refine (Dev.busWrite_of rfl ?_).trans rfl
  show d.absent _ = false
  exact (by simp [Dev.absent, Dev.absentLn, Dev.absentTmg, Dev.absentCph, Dev.absentDmc, Reg.TIM_CTRL.ADR, h])

theorem Dev.poke_TIM_TOD_ARM (d : Dev) (m : Master) (v : Word) (h : d.unit 15 = true) :
    d.poke m (Reg.TIM_TOD_ARM.ADR) v = d.iff (bitOf v.toNat 0) (·.todArm) := by
  refine (Dev.busWrite_of rfl ?_).trans rfl
  show d.absent _ = false
  exact (by simp [Dev.absent, Dev.absentLn, Dev.absentTmg, Dev.absentCph, Dev.absentDmc, Reg.TIM_TOD_ARM.ADR, h])

theorem Dev.poke_TIM_RATE (d : Dev) (m : Master) (v : Word) (h : d.unit 15 = true) :
    d.poke m (Reg.TIM_RATE.ADR) v = d.rateWrite v.toNat := by
  refine (Dev.busWrite_of rfl ?_).trans rfl
  show d.absent _ = false
  exact (by simp [Dev.absent, Dev.absentLn, Dev.absentTmg, Dev.absentCph, Dev.absentDmc, Reg.TIM_RATE.ADR, h])

theorem Dev.poke_TIM_XFER_ASYM (d : Dev) (m : Master) (v : Word) (h : d.unit 15 = true) :
    d.poke m (Reg.TIM_XFER_ASYM.ADR) v = d.asymWrite v.toNat := by
  refine (Dev.busWrite_of rfl ?_).trans rfl
  show d.absent _ = false
  exact (by simp [Dev.absent, Dev.absentLn, Dev.absentTmg, Dev.absentCph, Dev.absentDmc, Reg.TIM_XFER_ASYM.ADR, h])

theorem Dev.poke_TIM_XFER_EQD0 (d : Dev) (m : Master) (v : Word) (h : d.unit 15 = true) :
    d.poke m (Reg.TIM_XFER_EQD0.ADR) v = d.eqd0Write v.toNat := by
  refine (Dev.busWrite_of rfl ?_).trans rfl
  show d.absent _ = false
  exact (by simp [Dev.absent, Dev.absentLn, Dev.absentTmg, Dev.absentCph, Dev.absentDmc, Reg.TIM_XFER_EQD0.ADR, h])

theorem Dev.poke_TIM_PLL_CTRL (d : Dev) (m : Master) (v : Word) (h : d.unit 15 = true) :
    d.poke m (Reg.TIM_PLL_CTRL.ADR) v = d.pllWrite v.toNat := by
  refine (Dev.busWrite_of rfl ?_).trans rfl
  show d.absent _ = false
  exact (by simp [Dev.absent, Dev.absentLn, Dev.absentTmg, Dev.absentCph, Dev.absentDmc, Reg.TIM_PLL_CTRL.ADR, h])

theorem Dev.poke_RP_PHY_CTRL (d : Dev) (m : Master) (p : Fin 4) (v : Word) (h : d.rpHere p = true) :
    d.poke m (Reg.RP_PHY_CTRL.ADR p) v = d.phyWrite p v.toNat := by
  refine (Dev.busWrite_of (by fin_cases p <;> rfl) ?_).trans (by fin_cases p <;> rfl)
  revert h
  fin_cases p <;> intro h <;> simp_all [Dev.absent, Dev.absentLn, Dev.absentTmg, Dev.absentCph, Dev.absentDmc, Reg.RP_PHY_CTRL.ADR]

theorem Dev.poke_RP_RACC_CMD (d : Dev) (m : Master) (k : Fin 4) (v : Word) :
    d.poke m (Reg.RP_RACC_CMD.ADR k) v = d.raccCmd k v.toNat := by
  refine (Dev.busWrite_of (by fin_cases k <;> rfl) ?_).trans (by fin_cases k <;> rfl)
  fin_cases k <;> rfl

theorem Dev.poke_RP_PROBE_CMD (d : Dev) (m : Master) (v : Word) :
    d.poke m (Reg.RP_PROBE_CMD.ADR) v = d.iff (bitOf v.toNat 7) (·.probeGo (v.toNat % 4) (bits v.toNat 2 5)) := by
  refine (Dev.busWrite_of rfl ?_).trans rfl
  show d.absent _ = false
  exact (by simp [Dev.absent, Dev.absentLn, Dev.absentTmg, Dev.absentCph, Dev.absentDmc, Reg.RP_PROBE_CMD.ADR])

theorem Dev.poke_RP_GOP_CTRL (d : Dev) (m : Master) (v : Word) :
    d.poke m (Reg.RP_GOP_CTRL.ADR) v = d.gopCtrl v.toNat := by
  refine (Dev.busWrite_of rfl ?_).trans rfl
  show d.absent _ = false
  exact (by simp [Dev.absent, Dev.absentLn, Dev.absentTmg, Dev.absentCph, Dev.absentDmc, Reg.RP_GOP_CTRL.ADR])

theorem Dev.poke_HIF_DOM_CFG (d : Dev) (m : Master) (k : Fin 16) (v : Word) (h : d.hifHere = true) :
    d.poke m (Reg.HIF_DOM_CFG.ADR k) v = (d.backoffDis k (bitOf v.toNat 2)).domainBind k (v.toNat % 4) := by
  refine (Dev.busWrite_of (by fin_cases k <;> rfl) ?_).trans (by fin_cases k <;> rfl)
  revert h
  fin_cases k <;> intro h <;> simp_all [Dev.absent, Dev.absentLn, Dev.absentTmg, Dev.absentCph, Dev.absentDmc, Reg.HIF_DOM_CFG.ADR]

theorem Dev.poke_HIF_DOM_STAT (d : Dev) (m : Master) (k : Fin 16) (v : Word) (h : d.hifHere = true) :
    d.poke m (Reg.HIF_DOM_STAT.ADR k) v = d.plainWrite (Reg.HIF_DOM_STAT.ADR k) v.toNat := by
  refine (Dev.busWrite_of (by fin_cases k <;> rfl) ?_).trans (by fin_cases k <;> rfl)
  revert h
  fin_cases k <;> intro h <;> simp_all [Dev.absent, Dev.absentLn, Dev.absentTmg, Dev.absentCph, Dev.absentDmc, Reg.HIF_DOM_STAT.ADR]

theorem Dev.poke_DMC_CTRL (d : Dev) (m : Master) (v : Word) (h : (List.range 4).any d.dmcHere = true) :
    d.poke m (Reg.DMC_CTRL.ADR) v = d.dmcWrite v.toNat := by
  refine (Dev.busWrite_of rfl ?_).trans rfl
  show d.absent _ = false
  exact (by simp [Dev.absent, Dev.absentLn, Dev.absentTmg, Dev.absentCph, Dev.absentDmc, Reg.DMC_CTRL.ADR, h])

theorem Dev.poke_DMC_RGN (d : Dev) (m : Master) (i : Fin 6) (v : Word) (h : (List.range 4).any d.dmcHere = true) :
    d.poke m (0x1E00020 + 4 * i.val) v = d.dmcRgn ⟨0x1E00020 + 4 * i.val, 0, 15⟩ v.toNat := by
  refine (Dev.busWrite_of (by fin_cases i <;> rfl) ?_).trans (by fin_cases i <;> rfl)
  revert h
  fin_cases i <;> intro h <;> simp_all [Dev.absent, Dev.absentLn, Dev.absentTmg, Dev.absentCph, Dev.absentDmc]

theorem Dev.poke_PWR_RAIL_VSET (d : Dev) (m : Master) (k : Fin 6) (v : Word) (h : d.unit 19 = true) :
    d.poke m (Reg.PWR_RAIL_VSET.ADR k) v = d.vsetWrite k (v.toNat % 2 ^ 11) := by
  refine (Dev.busWrite_of (by fin_cases k <;> rfl) ?_).trans (by fin_cases k <;> rfl)
  revert h
  fin_cases k <;> intro h <;> simp_all [Dev.absent, Dev.absentLn, Dev.absentTmg, Dev.absentCph, Dev.absentDmc, Reg.PWR_RAIL_VSET.ADR]

theorem Dev.poke_PWR_CTRL (d : Dev) (m : Master) (v : Word) (h : d.unit 19 = true) :
    d.poke m (Reg.PWR_CTRL.ADR) v = d.pwrCtrl v.toNat := by
  refine (Dev.busWrite_of rfl ?_).trans rfl
  show d.absent _ = false
  exact (by simp [Dev.absent, Dev.absentLn, Dev.absentTmg, Dev.absentCph, Dev.absentDmc, Reg.PWR_CTRL.ADR, h])

theorem Dev.poke_PWR_GATE (d : Dev) (m : Master) (v : Word) (h : d.unit 19 = true) :
    d.poke m (Reg.PWR_GATE.ADR) v = d.gateWrite v.toNat := by
  refine (Dev.busWrite_of rfl ?_).trans rfl
  show d.absent _ = false
  exact (by simp [Dev.absent, Dev.absentLn, Dev.absentTmg, Dev.absentCph, Dev.absentDmc, Reg.PWR_GATE.ADR, h])

theorem Dev.poke_PWR_RTC_SEC (d : Dev) (m : Master) (v : Word) (h : d.unit 19 = true) :
    d.poke m (Reg.PWR_RTC_SEC.ADR) v = d.rtcWrite v.toNat := by
  refine (Dev.busWrite_of rfl ?_).trans rfl
  show d.absent _ = false
  exact (by simp [Dev.absent, Dev.absentLn, Dev.absentTmg, Dev.absentCph, Dev.absentDmc, Reg.PWR_RTC_SEC.ADR, h])

theorem Dev.poke_PWR_WDOG (d : Dev) (m : Master) (v : Word) (h : d.unit 19 = true) :
    d.poke m (Reg.PWR_WDOG.ADR) v = d.wdogWrite v.toNat := by
  refine (Dev.busWrite_of rfl ?_).trans rfl
  show d.absent _ = false
  exact (by simp [Dev.absent, Dev.absentLn, Dev.absentTmg, Dev.absentCph, Dev.absentDmc, Reg.PWR_WDOG.ADR, h])

theorem Dev.poke_TRU_CMD (d : Dev) (m : Master) (v : Word) (h : d.unit 18 = true) :
    d.poke m (Reg.TRU_CMD.ADR) v = d.truCmd (v.toNat % 16) (bits v.toNat 4 8) := by
  refine (Dev.busWrite_of rfl ?_).trans rfl
  show d.absent _ = false
  exact (by simp [Dev.absent, Dev.absentLn, Dev.absentTmg, Dev.absentCph, Dev.absentDmc, Reg.TRU_CMD.ADR, h])

theorem Dev.poke_GEN_CMD (d : Dev) (m : Master) (v : Word) :
    d.poke m (Reg.GEN_CMD.ADR) v = d.genWrite v.toNat := by
  refine (Dev.busWrite_of rfl ?_).trans rfl
  show d.absent _ = false
  exact (by simp [Dev.absent, Dev.absentLn, Dev.absentTmg, Dev.absentCph, Dev.absentDmc, Reg.GEN_CMD.ADR])

theorem Dev.poke_GEN_FW_CTRL (d : Dev) (m : Master) (v : Word) (h : d.cpxHere = true) :
    d.poke m (Reg.GEN_FW_CTRL.ADR) v = (d.plainWrite Reg.GEN_FW_CTRL.ADR v.toNat).iff (bitOf v.toNat 2) (·.fwConfirm) := by
  refine (Dev.busWrite_of rfl ?_).trans rfl
  show d.absent _ = false
  exact (by simp [Dev.absent, Dev.absentLn, Dev.absentTmg, Dev.absentCph, Dev.absentDmc, Reg.GEN_FW_CTRL.ADR, h])

theorem Dev.poke_CVU_CTRL (d : Dev) (m : Master) (u : Fin 4) (v : Word) (h : d.unit 16 = true) :
    d.poke m (Reg.CVU_CTRL.ADR u) v = d.cvuCtrl m u v.toNat := by
  refine (Dev.busWrite_of (by fin_cases u <;> rfl) ?_).trans (by fin_cases u <;> rfl)
  revert h
  fin_cases u <;> intro h <;> simp_all [Dev.absent, Dev.absentLn, Dev.absentTmg, Dev.absentCph, Dev.absentDmc, Reg.CVU_CTRL.ADR]

theorem Dev.poke_CVU_DATA_B (d : Dev) (m : Master) (u : Fin 4) (v : Word) (h : d.unit 16 = true) :
    d.poke m (Reg.CVU_DATA_B.ADR u) v = d.cvuData m u 1 v.toNat := by
  refine (Dev.busWrite_of (by fin_cases u <;> rfl) ?_).trans (by fin_cases u <;> rfl)
  revert h
  fin_cases u <;> intro h <;> simp_all [Dev.absent, Dev.absentLn, Dev.absentTmg, Dev.absentCph, Dev.absentDmc, Reg.CVU_DATA_B.ADR]

theorem Dev.poke_CVU_DATA_H (d : Dev) (m : Master) (u : Fin 4) (v : Word) (h : d.unit 16 = true) :
    d.poke m (Reg.CVU_DATA_H.ADR u) v = d.cvuData m u 2 v.toNat := by
  refine (Dev.busWrite_of (by fin_cases u <;> rfl) ?_).trans (by fin_cases u <;> rfl)
  revert h
  fin_cases u <;> intro h <;> simp_all [Dev.absent, Dev.absentLn, Dev.absentTmg, Dev.absentCph, Dev.absentDmc, Reg.CVU_DATA_H.ADR]

theorem Dev.poke_CVU_DATA_W (d : Dev) (m : Master) (u : Fin 4) (v : Word) (h : d.unit 16 = true) :
    d.poke m (Reg.CVU_DATA_W.ADR u) v = d.cvuData m u 4 v.toNat := by
  refine (Dev.busWrite_of (by fin_cases u <;> rfl) ?_).trans (by fin_cases u <;> rfl)
  revert h
  fin_cases u <;> intro h <;> simp_all [Dev.absent, Dev.absentLn, Dev.absentTmg, Dev.absentCph, Dev.absentDmc, Reg.CVU_DATA_W.ADR]

theorem Dev.poke_DBG_CKO (d : Dev) (m : Master) (i : Fin 2) (v : Word) (h : d.unit 17 = true) :
    d.poke m (Reg.DBG_CKO.ADR i) v = d.ckoWrite i v.toNat := by
  refine (Dev.busWrite_of (by fin_cases i <;> rfl) ?_).trans (by fin_cases i <;> rfl)
  revert h
  fin_cases i <;> intro h <;> simp_all [Dev.absent, Dev.absentLn, Dev.absentTmg, Dev.absentCph, Dev.absentDmc, Reg.DBG_CKO.ADR]

theorem Dev.poke_DBG_CTRL (d : Dev) (m : Master) (v : Word) (h : d.unit 17 = true) :
    d.poke m (Reg.DBG_CTRL.ADR) v = d.dbgCtrl v.toNat := by
  refine (Dev.busWrite_of rfl ?_).trans rfl
  show d.absent _ = false
  exact (by simp [Dev.absent, Dev.absentLn, Dev.absentTmg, Dev.absentCph, Dev.absentDmc, Reg.DBG_CTRL.ADR, h])

theorem Dev.poke_CHIPCAP_I2C_CMD (d : Dev) (m : Master) (b : Fin 4) (v : Word) :
    d.poke m (Reg.CHIPCAP_I2C_CMD.ADR b) v = d.i2cCmd b v.toNat := by
  refine (Dev.busWrite_of (by fin_cases b <;> rfl) ?_).trans (by fin_cases b <;> rfl)
  fin_cases b <;> rfl

theorem Dev.poke_CHIPCAP_MDIO_CMD (d : Dev) (m : Master) (k : Fin 2) (v : Word) :
    d.poke m (Reg.CHIPCAP_MDIO_CMD.ADR k) v = d.mdioCmd k v.toNat := by
  refine (Dev.busWrite_of (by fin_cases k <;> rfl) ?_).trans (by fin_cases k <;> rfl)
  fin_cases k <;> rfl

theorem Dev.poke_CHIPCAP_RST_CTRL (d : Dev) (m : Master) (v : Word) :
    d.poke m (Reg.CHIPCAP_RST_CTRL.ADR) v = d.rstCtrl v.toNat := by
  refine (Dev.busWrite_of rfl ?_).trans rfl
  show d.absent _ = false
  exact (by simp [Dev.absent, Dev.absentLn, Dev.absentTmg, Dev.absentCph, Dev.absentDmc, Reg.CHIPCAP_RST_CTRL.ADR])

/-! ### Registers with many instances -/

theorem Dev.poke_LN_XPORT (d : Dev) (m : Master) (n : Fin 4) (i : Fin 4096) (v : Word) (h : d.lnHere n = true) :
    d.poke m (Reg.LN_XPORT.ADR n.val i.val) v = d.xportWrite n i v.toNat := by
  have h_n := n.isLt
  have h_i := i.isLt
  obtain ⟨a, ha⟩ : ∃ a, a = Reg.LN_XPORT.ADR n.val i.val := ⟨_, rfl⟩
  rw [← ha]
  simp only [Reg.LN_XPORT.ADR] at ha
  have e0 : (a - 0x100000) / 0x40000 = n.val := by omega
  have e1 : a % 0x40000 = 0x1000 + 4 * i.val := by omega
  have e2 : (0x1000 + 4 * i.val - 0x1000) / 4 = i.val := by omega
  have hf : (Reg.find a).isNone = false := by
    have ht : Reg.table a = Reg.tabLN := by
      unfold Reg.table
      repeat first | refine Eq.trans (if_neg (by first | omega | (simp only [Reg.LN_LINE_MODE.ADR, Reg.LN_PROT_CTRL.ADR, Reg.SM_TT_CMD.ADR]; omega))) ?_ | refine Eq.trans (if_pos (by first | trivial | omega)) ?_
      rfl
    refine Reg.find_isSome (r := ⟨0x101000, [(4, 0x40000), (4096, 0x4)], [⟨0, 16, .rw, 0⟩, ⟨16, 1, .rw, 0⟩, ⟨17, 2, .rw, 0⟩]⟩) ?_ ?_
    · rw [ht]; decide
    · simp only [RegD.hit, RegD.hitDims, Bool.and_eq_true, decide_eq_true_eq, beq_iff_eq]
      omega
  refine (Dev.busWrite_of hf ?_).trans ?_
  · unfold Dev.absent Dev.absentLn
    repeat first | refine Eq.trans (if_neg (by first | omega | (simp only [Reg.LN_LINE_MODE.ADR, Reg.LN_PROT_CTRL.ADR, Reg.SM_TT_CMD.ADR]; omega))) ?_ | refine Eq.trans (if_pos (by first | trivial | omega)) ?_
    simp only [e0, e1]
    repeat first | refine Eq.trans (if_neg (by omega)) ?_
    rw [h]
    simp only [Bool.not_true, Bool.false_or, Bool.and_eq_false_iff, Bool.or_eq_false_iff, beq_eq_false_iff_ne, decide_eq_false_iff_not]
    first | done | (right; omega) | exact ⟨.inr (by omega), .inr (by omega)⟩
  · unfold Dev.regWrite Dev.writeLn
    dsimp only
    repeat first | refine Eq.trans (if_neg (by first | omega | (simp only [Reg.LN_LINE_MODE.ADR, Reg.LN_PROT_CTRL.ADR, Reg.SM_TT_CMD.ADR]; omega))) ?_ | refine Eq.trans (if_pos (by first | trivial | omega)) ?_
    try simp only [e0]
    try simp only [e1]
    try simp only [e2]
    repeat first | refine Eq.trans (if_neg (by first | omega | (simp only [Reg.LN_LINE_MODE.ADR, Reg.LN_PROT_CTRL.ADR, Reg.SM_TT_CMD.ADR]; omega))) ?_ | refine Eq.trans (if_pos (by first | trivial | omega)) ?_
    first | done | rfl

theorem Dev.poke_LN_ALLOC (d : Dev) (m : Master) (n : Fin 4) (i : Fin 128) (v : Word) (h : d.lnHere n = true) :
    d.poke m (Reg.LN_ALLOC.ADR n.val i.val) v = d.allocBind n i (bits v.toNat 16 10) := by
  have h_n := n.isLt
  have h_i := i.isLt
  obtain ⟨a, ha⟩ : ∃ a, a = Reg.LN_ALLOC.ADR n.val i.val := ⟨_, rfl⟩
  rw [← ha]
  simp only [Reg.LN_ALLOC.ADR] at ha
  have e0 : (a - 0x100000) / 0x40000 = n.val := by omega
  have e1 : a % 0x40000 = 0x20200 + 4 * i.val := by omega
  have e2 : (0x20200 + 4 * i.val - 0x20200) / 4 = i.val := by rw [Nat.add_sub_cancel_left, Nat.mul_div_cancel_left _ (by decide)]
  have hf : (Reg.find a).isNone = false := by
    have ht : Reg.table a = Reg.tabLN := by
      unfold Reg.table
      repeat first | refine Eq.trans (if_neg (by first | omega | (simp only [Reg.LN_LINE_MODE.ADR, Reg.LN_PROT_CTRL.ADR, Reg.SM_TT_CMD.ADR]; omega))) ?_ | refine Eq.trans (if_pos (by first | trivial | omega)) ?_
      rfl
    refine Reg.find_isSome (r := ⟨0x120200, [(4, 0x40000), (128, 0x4)], [⟨0, 14, .ro, 0⟩, ⟨14, 1, .ro, 0⟩, ⟨16, 10, .rw, 0x3ff⟩]⟩) ?_ ?_
    · rw [ht]; decide
    · simp only [RegD.hit, RegD.hitDims, Bool.and_eq_true, decide_eq_true_eq, beq_iff_eq]
      omega
  refine (Dev.busWrite_of hf ?_).trans ?_
  · unfold Dev.absent Dev.absentLn
    repeat first | refine Eq.trans (if_neg (by first | omega | (simp only [Reg.LN_LINE_MODE.ADR, Reg.LN_PROT_CTRL.ADR, Reg.SM_TT_CMD.ADR]; omega))) ?_ | refine Eq.trans (if_pos (by first | trivial | omega)) ?_
    simp only [e0, e1]
    repeat first | refine Eq.trans (if_neg (by omega)) ?_
    rw [h]
    simp only [Bool.not_true, Bool.false_or, Bool.and_eq_false_iff, Bool.or_eq_false_iff, beq_eq_false_iff_ne, decide_eq_false_iff_not]
    first | done | (right; omega) | exact ⟨.inr (by omega), .inr (by omega)⟩
  · unfold Dev.regWrite Dev.writeLn
    dsimp only
    repeat first | refine Eq.trans (if_neg (by first | omega | (simp only [Reg.LN_LINE_MODE.ADR, Reg.LN_PROT_CTRL.ADR, Reg.SM_TT_CMD.ADR]; omega))) ?_ | refine Eq.trans (if_pos (by first | trivial | omega)) ?_
    try simp only [e0]
    try simp only [e1]
    try simp only [e2]
    repeat first | refine Eq.trans (if_neg (by first | omega | (simp only [Reg.LN_LINE_MODE.ADR, Reg.LN_PROT_CTRL.ADR, Reg.SM_TT_CMD.ADR]; omega))) ?_ | refine Eq.trans (if_pos (by first | trivial | omega)) ?_
    first | done | rfl

theorem Dev.poke_LN_BOND_GRP_CFG (d : Dev) (m : Master) (g : Fin 1024) (v : Word) (h : d.anyLine = true) (hb : d.bondHere = true) :
    d.poke m (Reg.LN_BOND_GRP_CFG.ADR g.val) v = d.bondCfg g v.toNat := by
  have h_g := g.isLt
  obtain ⟨a, ha⟩ : ∃ a, a = Reg.LN_BOND_GRP_CFG.ADR g.val := ⟨_, rfl⟩
  rw [← ha]
  simp only [Reg.LN_BOND_GRP_CFG.ADR] at ha
  have e0 : (a - 0x100000) / 0x40000 = 0 := by omega
  have e1 : a % 0x40000 = 0x32000 + 8 * g.val := by omega
  have e2 : a % 8 = 0 := by omega
  have hf : (Reg.find a).isNone = false := by
    have ht : Reg.table a = Reg.tabLN := by
      unfold Reg.table
      repeat first | refine Eq.trans (if_neg (by first | omega | (simp only [Reg.LN_LINE_MODE.ADR, Reg.LN_PROT_CTRL.ADR, Reg.SM_TT_CMD.ADR]; omega))) ?_ | refine Eq.trans (if_pos (by first | trivial | omega)) ?_
      rfl
    refine Reg.find_isSome (r := ⟨0x132000, [(1024, 0x8)], [⟨0, 15, .rw, 0⟩, ⟨15, 1, .rw, 0⟩, ⟨16, 4, .rw, 0⟩, ⟨20, 1, .rw, 0⟩, ⟨21, 2, .ro, 0⟩]⟩) ?_ ?_
    · rw [ht]; decide
    · simp only [RegD.hit, RegD.hitDims, Bool.and_eq_true, decide_eq_true_eq, beq_iff_eq]
      omega
  refine (Dev.busWrite_of hf ?_).trans ?_
  · unfold Dev.absent Dev.absentLn
    repeat first | refine Eq.trans (if_neg (by first | omega | (simp only [Reg.LN_LINE_MODE.ADR, Reg.LN_PROT_CTRL.ADR, Reg.SM_TT_CMD.ADR]; omega))) ?_ | refine Eq.trans (if_pos (by first | trivial | omega)) ?_
    simp [h, hb]
  · unfold Dev.regWrite Dev.writeLn
    dsimp only
    repeat first | refine Eq.trans (if_neg (by first | omega | (simp only [Reg.LN_LINE_MODE.ADR, Reg.LN_PROT_CTRL.ADR, Reg.SM_TT_CMD.ADR]; omega))) ?_ | refine Eq.trans (if_pos (by first | trivial | omega)) ?_
    try simp only [e0]
    try simp only [e1]
    try simp only [e2]
    repeat first | refine Eq.trans (if_neg (by first | omega | (simp only [Reg.LN_LINE_MODE.ADR, Reg.LN_PROT_CTRL.ADR, Reg.SM_TT_CMD.ADR]; omega))) ?_ | refine Eq.trans (if_pos (by first | trivial | omega)) ?_
    rw [show (a - 0x132000) / 8 = g.val by rw [ha, Nat.add_sub_cancel_left, Nat.mul_div_cancel _ (by decide)]]

theorem Dev.poke_SM_LANE_CTRL (d : Dev) (m : Master) (n : Fin 112) (v : Word) (h : d.slHere n = true) :
    d.poke m (Reg.SM_LANE_CTRL.ADR n.val) v = d.laneCtrl n (v.toNat % 8) (bitOf v.toNat 3) := by
  have h_n := n.isLt
  obtain ⟨a, ha⟩ : ∃ a, a = Reg.SM_LANE_CTRL.ADR n.val := ⟨_, rfl⟩
  rw [← ha]
  simp only [Reg.SM_LANE_CTRL.ADR] at ha
  have e0 : (a - 0x1000000) / 0x10000 = n.val := by omega
  have e1 : a % 0x10000 = 0 := by omega
  have hf : (Reg.find a).isNone = false := by
    have ht : Reg.table a = Reg.tabSM := by
      unfold Reg.table
      repeat first | refine Eq.trans (if_neg (by first | omega | (simp only [Reg.LN_LINE_MODE.ADR, Reg.LN_PROT_CTRL.ADR, Reg.SM_TT_CMD.ADR]; omega))) ?_ | refine Eq.trans (if_pos (by first | trivial | omega)) ?_
      rfl
    refine Reg.find_isSome (r := ⟨0x1000000, [(112, 0x10000)], [⟨0, 3, .rw, 0⟩, ⟨3, 1, .rw, 0⟩]⟩) ?_ ?_
    · rw [ht]; decide
    · simp only [RegD.hit, RegD.hitDims, Bool.and_eq_true, decide_eq_true_eq, beq_iff_eq]
      omega
  refine (Dev.busWrite_of hf ?_).trans ?_
  · unfold Dev.absent 
    repeat first | refine Eq.trans (if_neg (by first | omega | (simp only [Reg.LN_LINE_MODE.ADR, Reg.LN_PROT_CTRL.ADR, Reg.SM_TT_CMD.ADR]; omega))) ?_ | refine Eq.trans (if_pos (by first | trivial | omega)) ?_
    simp only [e0, h]
    simp
  · unfold Dev.regWrite Dev.writeSm
    dsimp only
    repeat first | refine Eq.trans (if_neg (by first | omega | (simp only [Reg.LN_LINE_MODE.ADR, Reg.LN_PROT_CTRL.ADR, Reg.SM_TT_CMD.ADR]; omega))) ?_ | refine Eq.trans (if_pos (by first | trivial | omega)) ?_
    try simp only [e0]
    try simp only [e1]
    repeat first | refine Eq.trans (if_neg (by first | omega | (simp only [Reg.LN_LINE_MODE.ADR, Reg.LN_PROT_CTRL.ADR, Reg.SM_TT_CMD.ADR]; omega))) ?_ | refine Eq.trans (if_pos (by first | trivial | omega)) ?_
    have e9 : slotAt a (Reg.SM_TT_DATA.ADR 0) 4 8 = none := by
      unfold slotAt
      refine if_neg ?_
      simp only [Reg.SM_TT_DATA.ADR]; omega
    simp [e9]

theorem Dev.poke_SL_LADDER (d : Dev) (m : Master) (n : Fin 112) (v : Word) (h : d.slHere n = true) :
    d.poke m (Reg.SL_LADDER.ADR n.val) v = d.ladderWrite n v.toNat := by
  have h_n := n.isLt
  obtain ⟨a, ha⟩ : ∃ a, a = Reg.SL_LADDER.ADR n.val := ⟨_, rfl⟩
  rw [← ha]
  simp only [Reg.SL_LADDER.ADR] at ha
  have e0 : (a - 0x1800000) / 0x4000 = n.val := by omega
  have e1 : a % 0x4000 = 0 := by omega
  have hf : (Reg.find a).isNone = false := by
    have ht : Reg.table a = Reg.tabSL := by
      unfold Reg.table
      repeat first | refine Eq.trans (if_neg (by first | omega | (simp only [Reg.LN_LINE_MODE.ADR, Reg.LN_PROT_CTRL.ADR, Reg.SM_TT_CMD.ADR]; omega))) ?_ | refine Eq.trans (if_pos (by first | trivial | omega)) ?_
      rfl
    refine Reg.find_isSome (r := ⟨0x1800000, [(112, 0x4000)], [⟨0, 3, .rw, 0⟩, ⟨3, 3, .rw, 0⟩, ⟨6, 3, .rw, 0⟩, ⟨9, 3, .rw, 0⟩, ⟨12, 1, .rw, 0⟩, ⟨13, 1, .rw, 1⟩, ⟨14, 8, .rw, 20⟩, ⟨22, 1, .wo, 0⟩]⟩) ?_ ?_
    · rw [ht]; decide
    · simp only [RegD.hit, RegD.hitDims, Bool.and_eq_true, decide_eq_true_eq, beq_iff_eq]
      omega
  refine (Dev.busWrite_of hf ?_).trans ?_
  · unfold Dev.absent 
    repeat first | refine Eq.trans (if_neg (by first | omega | (simp only [Reg.LN_LINE_MODE.ADR, Reg.LN_PROT_CTRL.ADR, Reg.SM_TT_CMD.ADR]; omega))) ?_ | refine Eq.trans (if_pos (by first | trivial | omega)) ?_
    simp only [e0, h]
    simp
  · unfold Dev.regWrite Dev.writeSl
    dsimp only
    repeat first | refine Eq.trans (if_neg (by first | omega | (simp only [Reg.LN_LINE_MODE.ADR, Reg.LN_PROT_CTRL.ADR, Reg.SM_TT_CMD.ADR]; omega))) ?_ | refine Eq.trans (if_pos (by first | trivial | omega)) ?_
    try simp only [e0]
    try simp only [e1]
    repeat first | refine Eq.trans (if_neg (by first | omega | (simp only [Reg.LN_LINE_MODE.ADR, Reg.LN_PROT_CTRL.ADR, Reg.SM_TT_CMD.ADR]; omega))) ?_ | refine Eq.trans (if_pos (by first | trivial | omega)) ?_
    first | done | rfl

theorem Dev.poke_SL_TXEQ (d : Dev) (m : Master) (n : Fin 112) (v : Word) (h : d.slHere n = true) :
    d.poke m (laneReg (.sub n) 16) v = d.txeqWrite (.sub n) v.toNat := by
  have h_n := n.isLt
  obtain ⟨a, ha⟩ : ∃ a, a = laneReg (.sub n) 16 := ⟨_, rfl⟩
  rw [← ha]
  simp only [laneReg, Reg.SL_LADDER.ADR] at ha
  have e0 : (a - 0x1800000) / 0x4000 = n.val := by omega
  have e1 : a % 0x4000 = 16 := by omega
  have hf : (Reg.find a).isNone = false := by
    have ht : Reg.table a = Reg.tabSL := by
      unfold Reg.table
      repeat first | refine Eq.trans (if_neg (by first | omega | (simp only [Reg.LN_LINE_MODE.ADR, Reg.LN_PROT_CTRL.ADR, Reg.SM_TT_CMD.ADR]; omega))) ?_ | refine Eq.trans (if_pos (by first | trivial | omega)) ?_
      rfl
    refine Reg.find_isSome (r := ⟨0x1800010, [(112, 0x4000)], [⟨0, 4, .rw, 4⟩, ⟨4, 6, .rw, 48⟩, ⟨10, 5, .rw, 8⟩, ⟨15, 1, .rw, 0⟩]⟩) ?_ ?_
    · rw [ht]; decide
    · simp only [RegD.hit, RegD.hitDims, Bool.and_eq_true, decide_eq_true_eq, beq_iff_eq]
      omega
  refine (Dev.busWrite_of hf ?_).trans ?_
  · unfold Dev.absent 
    repeat first | refine Eq.trans (if_neg (by first | omega | (simp only [Reg.LN_LINE_MODE.ADR, Reg.LN_PROT_CTRL.ADR, Reg.SM_TT_CMD.ADR]; omega))) ?_ | refine Eq.trans (if_pos (by first | trivial | omega)) ?_
    simp only [e0, h]
    simp
  · unfold Dev.regWrite Dev.writeSl
    dsimp only
    repeat first | refine Eq.trans (if_neg (by first | omega | (simp only [Reg.LN_LINE_MODE.ADR, Reg.LN_PROT_CTRL.ADR, Reg.SM_TT_CMD.ADR]; omega))) ?_ | refine Eq.trans (if_pos (by first | trivial | omega)) ?_
    try simp only [e0]
    try simp only [e1]
    repeat first | refine Eq.trans (if_neg (by first | omega | (simp only [Reg.LN_LINE_MODE.ADR, Reg.LN_PROT_CTRL.ADR, Reg.SM_TT_CMD.ADR]; omega))) ?_ | refine Eq.trans (if_pos (by first | trivial | omega)) ?_
    have e9 : Fin.ofNat 112 n.val = n := by ext; simp
    rw [e9]

theorem Dev.poke_RP_LANE_TXEQ (d : Dev) (m : Master) (p : Fin 4) (l : Fin 2) (v : Word) (h : d.rpHere p = true) :
    d.poke m (laneReg (.riser p l) 16) v = d.txeqWrite (.riser p l) v.toNat := by
  have h_p := p.isLt
  have h_l := l.isLt
  obtain ⟨a, ha⟩ : ∃ a, a = laneReg (.riser p l) 16 := ⟨_, rfl⟩
  rw [← ha]
  simp only [laneReg] at ha
  have e0 : (a - 0x1C00000) / 0x40000 = p.val := by omega
  have e1 : a % 0x40000 = 0x30100 + 0x100 * l.val + 16 := by omega
  have e2 : (0x30100 + 0x100 * l.val + 16 - 0x30100) / 0x100 = l.val := by rw [Nat.add_assoc, Nat.add_sub_cancel_left]; omega
  have e3 : (0x30100 + 0x100 * l.val + 16) % 0x100 = 16 := by omega
  have hf : (Reg.find a).isNone = false := by
    have ht : Reg.table a = Reg.tabRP := by
      unfold Reg.table
      repeat first | refine Eq.trans (if_neg (by first | omega | (simp only [Reg.LN_LINE_MODE.ADR, Reg.LN_PROT_CTRL.ADR, Reg.SM_TT_CMD.ADR]; omega))) ?_ | refine Eq.trans (if_pos (by first | trivial | omega)) ?_
      rfl
    refine Reg.find_isSome (r := ⟨0x1c30110, [(4, 0x40000), (2, 0x100)], [⟨0, 4, .rw, 4⟩, ⟨4, 6, .rw, 48⟩, ⟨10, 5, .rw, 8⟩, ⟨15, 1, .rw, 0⟩]⟩) ?_ ?_
    · rw [ht]; decide
    · simp only [RegD.hit, RegD.hitDims, Bool.and_eq_true, decide_eq_true_eq, beq_iff_eq]
      omega
  refine (Dev.busWrite_of hf ?_).trans ?_
  · unfold Dev.absent 
    repeat first | refine Eq.trans (if_neg (by first | omega | (simp only [Reg.LN_LINE_MODE.ADR, Reg.LN_PROT_CTRL.ADR, Reg.SM_TT_CMD.ADR]; omega))) ?_ | refine Eq.trans (if_pos (by first | trivial | omega)) ?_
    simp only [e0, h]
    simp
  · unfold Dev.regWrite Dev.writeRp
    dsimp only
    repeat first | refine Eq.trans (if_neg (by first | omega | (simp only [Reg.LN_LINE_MODE.ADR, Reg.LN_PROT_CTRL.ADR, Reg.SM_TT_CMD.ADR]; omega))) ?_ | refine Eq.trans (if_pos (by first | trivial | omega)) ?_
    try simp only [e0]
    try simp only [e1]
    try simp only [e2]
    try simp only [e3]
    repeat first | refine Eq.trans (if_neg (by first | omega | (simp only [Reg.LN_LINE_MODE.ADR, Reg.LN_PROT_CTRL.ADR, Reg.SM_TT_CMD.ADR]; omega))) ?_ | refine Eq.trans (if_pos (by first | trivial | omega)) ?_
    have e9 : Fin.ofNat 4 p.val = p := by ext; simp
    have e10 : Fin.ofNat 2 l.val = l := by ext; simp
    have e11 : slotAt a (Reg.RP_RACC_CMD.ADR 0) 0x10 4 = none := by
      unfold slotAt
      refine if_neg ?_
      simp only [Reg.RP_RACC_CMD.ADR]; omega
    rw [e9, e10, e11]
    refine Eq.trans (if_neg (by simp only [Reg.RP_HIER_CTRL.ADR]; omega)) ?_
    refine Eq.trans (if_neg (by simp only [Reg.RP_PROBE_CMD.ADR]; omega)) ?_
    refine Eq.trans (if_neg (by simp only [Reg.RP_GOP_CTRL.ADR]; omega)) ?_
    dsimp only
    repeat first | refine Eq.trans (if_neg (by omega)) ?_ | refine Eq.trans (if_pos (by omega)) ?_
    rfl

theorem Dev.poke_SL_EYE_CTRL (d : Dev) (m : Master) (n : Fin 112) (v : Word) (h : d.slHere n = true) :
    d.poke m (laneReg (.sub n) 32) v = d.eyeWrite (.sub n) v.toNat := by
  have h_n := n.isLt
  obtain ⟨a, ha⟩ : ∃ a, a = laneReg (.sub n) 32 := ⟨_, rfl⟩
  rw [← ha]
  simp only [laneReg, Reg.SL_LADDER.ADR] at ha
  have e0 : (a - 0x1800000) / 0x4000 = n.val := by omega
  have e1 : a % 0x4000 = 32 := by omega
  have hf : (Reg.find a).isNone = false := by
    have ht : Reg.table a = Reg.tabSL := by
      unfold Reg.table
      repeat first | refine Eq.trans (if_neg (by first | omega | (simp only [Reg.LN_LINE_MODE.ADR, Reg.LN_PROT_CTRL.ADR, Reg.SM_TT_CMD.ADR]; omega))) ?_ | refine Eq.trans (if_pos (by first | trivial | omega)) ?_
      rfl
    refine Reg.find_isSome (r := ⟨0x1800020, [(112, 0x4000)], [⟨0, 6, .rw, 0⟩, ⟨6, 7, .rw, 0⟩, ⟨13, 5, .rw, 20⟩, ⟨18, 1, .wo, 0⟩]⟩) ?_ ?_
    · rw [ht]; decide
    · simp only [RegD.hit, RegD.hitDims, Bool.and_eq_true, decide_eq_true_eq, beq_iff_eq]
      omega
  refine (Dev.busWrite_of hf ?_).trans ?_
  · unfold Dev.absent 
    repeat first | refine Eq.trans (if_neg (by first | omega | (simp only [Reg.LN_LINE_MODE.ADR, Reg.LN_PROT_CTRL.ADR, Reg.SM_TT_CMD.ADR]; omega))) ?_ | refine Eq.trans (if_pos (by first | trivial | omega)) ?_
    simp only [e0, h]
    simp
  · unfold Dev.regWrite Dev.writeSl
    dsimp only
    repeat first | refine Eq.trans (if_neg (by first | omega | (simp only [Reg.LN_LINE_MODE.ADR, Reg.LN_PROT_CTRL.ADR, Reg.SM_TT_CMD.ADR]; omega))) ?_ | refine Eq.trans (if_pos (by first | trivial | omega)) ?_
    try simp only [e0]
    try simp only [e1]
    repeat first | refine Eq.trans (if_neg (by first | omega | (simp only [Reg.LN_LINE_MODE.ADR, Reg.LN_PROT_CTRL.ADR, Reg.SM_TT_CMD.ADR]; omega))) ?_ | refine Eq.trans (if_pos (by first | trivial | omega)) ?_
    have e9 : Fin.ofNat 112 n.val = n := by ext; simp
    rw [e9]

theorem Dev.poke_RP_LANE_EYE_CTRL (d : Dev) (m : Master) (p : Fin 4) (l : Fin 2) (v : Word) (h : d.rpHere p = true) :
    d.poke m (laneReg (.riser p l) 32) v = d.eyeWrite (.riser p l) v.toNat := by
  have h_p := p.isLt
  have h_l := l.isLt
  obtain ⟨a, ha⟩ : ∃ a, a = laneReg (.riser p l) 32 := ⟨_, rfl⟩
  rw [← ha]
  simp only [laneReg] at ha
  have e0 : (a - 0x1C00000) / 0x40000 = p.val := by omega
  have e1 : a % 0x40000 = 0x30100 + 0x100 * l.val + 32 := by omega
  have e2 : (0x30100 + 0x100 * l.val + 32 - 0x30100) / 0x100 = l.val := by rw [Nat.add_assoc, Nat.add_sub_cancel_left]; omega
  have e3 : (0x30100 + 0x100 * l.val + 32) % 0x100 = 32 := by omega
  have hf : (Reg.find a).isNone = false := by
    have ht : Reg.table a = Reg.tabRP := by
      unfold Reg.table
      repeat first | refine Eq.trans (if_neg (by first | omega | (simp only [Reg.LN_LINE_MODE.ADR, Reg.LN_PROT_CTRL.ADR, Reg.SM_TT_CMD.ADR]; omega))) ?_ | refine Eq.trans (if_pos (by first | trivial | omega)) ?_
      rfl
    refine Reg.find_isSome (r := ⟨0x1c30120, [(4, 0x40000), (2, 0x100)], [⟨0, 6, .rw, 0⟩, ⟨6, 7, .rw, 0⟩, ⟨13, 5, .rw, 20⟩, ⟨18, 1, .wo, 0⟩]⟩) ?_ ?_
    · rw [ht]; decide
    · simp only [RegD.hit, RegD.hitDims, Bool.and_eq_true, decide_eq_true_eq, beq_iff_eq]
      omega
  refine (Dev.busWrite_of hf ?_).trans ?_
  · unfold Dev.absent 
    repeat first | refine Eq.trans (if_neg (by first | omega | (simp only [Reg.LN_LINE_MODE.ADR, Reg.LN_PROT_CTRL.ADR, Reg.SM_TT_CMD.ADR]; omega))) ?_ | refine Eq.trans (if_pos (by first | trivial | omega)) ?_
    simp only [e0, h]
    simp
  · unfold Dev.regWrite Dev.writeRp
    dsimp only
    repeat first | refine Eq.trans (if_neg (by first | omega | (simp only [Reg.LN_LINE_MODE.ADR, Reg.LN_PROT_CTRL.ADR, Reg.SM_TT_CMD.ADR]; omega))) ?_ | refine Eq.trans (if_pos (by first | trivial | omega)) ?_
    try simp only [e0]
    try simp only [e1]
    try simp only [e2]
    try simp only [e3]
    repeat first | refine Eq.trans (if_neg (by first | omega | (simp only [Reg.LN_LINE_MODE.ADR, Reg.LN_PROT_CTRL.ADR, Reg.SM_TT_CMD.ADR]; omega))) ?_ | refine Eq.trans (if_pos (by first | trivial | omega)) ?_
    have e9 : Fin.ofNat 4 p.val = p := by ext; simp
    have e10 : Fin.ofNat 2 l.val = l := by ext; simp
    have e11 : slotAt a (Reg.RP_RACC_CMD.ADR 0) 0x10 4 = none := by
      unfold slotAt
      refine if_neg ?_
      simp only [Reg.RP_RACC_CMD.ADR]; omega
    rw [e9, e10, e11]
    refine Eq.trans (if_neg (by simp only [Reg.RP_HIER_CTRL.ADR]; omega)) ?_
    refine Eq.trans (if_neg (by simp only [Reg.RP_PROBE_CMD.ADR]; omega)) ?_
    refine Eq.trans (if_neg (by simp only [Reg.RP_GOP_CTRL.ADR]; omega)) ?_
    dsimp only
    repeat first | refine Eq.trans (if_neg (by omega)) ?_ | refine Eq.trans (if_pos (by omega)) ?_
    rfl

theorem Dev.poke_HIF_RING_CTRL (d : Dev) (m : Master) (r : Fin 256) (v : Word) (h : d.hifHere = true) :
    d.poke m (Reg.HIF_RING_CTRL.ADR r.val) v = d.ringWrite r v.toNat := by
  have h_r := r.isLt
  obtain ⟨a, ha⟩ : ∃ a, a = Reg.HIF_RING_CTRL.ADR r.val := ⟨_, rfl⟩
  rw [← ha]
  simp only [Reg.HIF_RING_CTRL.ADR] at ha
  have e0 : (a - 0x1D01000) / 0x20 = r.val := by omega
  have e1 : a % 0x20 = 0x14 := by omega
  have hf : (Reg.find a).isNone = false := by
    have ht : Reg.table a = Reg.tabHIF := by
      unfold Reg.table
      repeat first | refine Eq.trans (if_neg (by first | omega | (simp only [Reg.LN_LINE_MODE.ADR, Reg.LN_PROT_CTRL.ADR, Reg.SM_TT_CMD.ADR]; omega))) ?_ | refine Eq.trans (if_pos (by first | trivial | omega)) ?_
      rfl
    refine Reg.find_isSome (r := ⟨0x1d01014, [(256, 0x20)], [⟨0, 1, .rw, 0⟩]⟩) ?_ ?_
    · rw [ht]; decide
    · simp only [RegD.hit, RegD.hitDims, Bool.and_eq_true, decide_eq_true_eq, beq_iff_eq]
      omega
  refine (Dev.busWrite_of hf ?_).trans ?_
  · unfold Dev.absent 
    repeat first | refine Eq.trans (if_neg (by first | omega | (simp only [Reg.LN_LINE_MODE.ADR, Reg.LN_PROT_CTRL.ADR, Reg.SM_TT_CMD.ADR]; omega))) ?_ | refine Eq.trans (if_pos (by first | trivial | omega)) ?_
    simp only [h]
    first | (simp; done) | (simp; omega)
  · unfold Dev.regWrite Dev.writeHif
    dsimp only
    repeat first | refine Eq.trans (if_neg (by first | omega | (simp only [Reg.LN_LINE_MODE.ADR, Reg.LN_PROT_CTRL.ADR, Reg.SM_TT_CMD.ADR]; omega))) ?_ | refine Eq.trans (if_pos (by first | trivial | omega)) ?_
    try simp only [e0]
    try simp only [e1]
    repeat first | refine Eq.trans (if_neg (by first | omega | (simp only [Reg.LN_LINE_MODE.ADR, Reg.LN_PROT_CTRL.ADR, Reg.SM_TT_CMD.ADR]; omega))) ?_ | refine Eq.trans (if_pos (by first | trivial | omega)) ?_
    first | done | rfl

theorem Dev.poke_LN_FFE (d : Dev) (m : Master) (n : Fin 4) (i : Fin 31) (v : Word) (h : d.lnHere n = true) :
    d.poke m (Reg.LN_FFE.ADR n.val i.val) v = d.ffeWrite n i (v.toNat % 1024) := by
  have h_n := n.isLt
  have h_i := i.isLt
  obtain ⟨a, ha⟩ : ∃ a, a = Reg.LN_FFE.ADR n.val i.val := ⟨_, rfl⟩
  rw [← ha]
  simp only [Reg.LN_FFE.ADR] at ha
  have e0 : (a - 0x100000) / 0x40000 = n.val := by omega
  have e1 : a % 0x40000 = 0x100 + 4 * i.val := by omega
  have e2 : (0x100 + 4 * i.val - 0x100) / 4 = i.val := by omega
  have hf : (Reg.find a).isNone = false := by
    have ht : Reg.table a = Reg.tabLN := by
      unfold Reg.table
      repeat first | refine Eq.trans (if_neg (by first | omega | (simp only [Reg.LN_LINE_MODE.ADR, Reg.LN_PROT_CTRL.ADR, Reg.SM_TT_CMD.ADR]; omega))) ?_ | refine Eq.trans (if_pos (by first | trivial | omega)) ?_
      rfl
    refine Reg.find_isSome (r := ⟨0x100100, [(4, 0x40000), (31, 0x4)], [⟨0, 10, .rw, 0⟩]⟩) ?_ ?_
    · rw [ht]; decide
    · simp only [RegD.hit, RegD.hitDims, Bool.and_eq_true, decide_eq_true_eq, beq_iff_eq]
      omega
  refine (Dev.busWrite_of hf ?_).trans ?_
  · unfold Dev.absent Dev.absentLn
    repeat first | refine Eq.trans (if_neg (by first | omega | (simp only [Reg.LN_LINE_MODE.ADR, Reg.LN_PROT_CTRL.ADR, Reg.SM_TT_CMD.ADR]; omega))) ?_ | refine Eq.trans (if_pos (by first | trivial | omega)) ?_
    simp only [e0, e1]
    repeat first | refine Eq.trans (if_neg (by omega)) ?_
    rw [h]
    simp only [Bool.not_true, Bool.false_or, Bool.and_eq_false_iff, Bool.or_eq_false_iff, beq_eq_false_iff_ne, decide_eq_false_iff_not]
    first | done | (right; omega) | exact ⟨.inr (by omega), .inr (by omega)⟩
  · unfold Dev.regWrite Dev.writeLn
    dsimp only
    repeat first | refine Eq.trans (if_neg (by first | omega | (simp only [Reg.LN_LINE_MODE.ADR, Reg.LN_PROT_CTRL.ADR, Reg.SM_TT_CMD.ADR]; omega))) ?_ | refine Eq.trans (if_pos (by first | trivial | omega)) ?_
    try simp only [e0]
    try simp only [e1]
    try simp only [e2]
    repeat first | refine Eq.trans (if_neg (by first | omega | (simp only [Reg.LN_LINE_MODE.ADR, Reg.LN_PROT_CTRL.ADR, Reg.SM_TT_CMD.ADR]; omega))) ?_ | refine Eq.trans (if_pos (by first | trivial | omega)) ?_
    first | done | rfl

theorem Dev.poke_LN_DFE (d : Dev) (m : Master) (n : Fin 4) (j : Fin 3) (v : Word) (h : d.lnHere n = true) :
    d.poke m (Reg.LN_DFE.ADR n.val j.val) v = d.ffeWrite n (31 + j) (v.toNat % 1024) := by
  have h_n := n.isLt
  have h_j := j.isLt
  obtain ⟨a, ha⟩ : ∃ a, a = Reg.LN_DFE.ADR n.val j.val := ⟨_, rfl⟩
  rw [← ha]
  simp only [Reg.LN_DFE.ADR] at ha
  have e0 : (a - 0x100000) / 0x40000 = n.val := by omega
  have e1 : a % 0x40000 = 0x180 + 4 * j.val := by omega
  have e2 : (0x180 + 4 * j.val - 0x180) / 4 = j.val := by omega
  have hf : (Reg.find a).isNone = false := by
    have ht : Reg.table a = Reg.tabLN := by
      unfold Reg.table
      repeat first | refine Eq.trans (if_neg (by first | omega | (simp only [Reg.LN_LINE_MODE.ADR, Reg.LN_PROT_CTRL.ADR, Reg.SM_TT_CMD.ADR]; omega))) ?_ | refine Eq.trans (if_pos (by first | trivial | omega)) ?_
      rfl
    refine Reg.find_isSome (r := ⟨0x100180, [(4, 0x40000), (3, 0x4)], [⟨0, 10, .rw, 0⟩]⟩) ?_ ?_
    · rw [ht]; decide
    · simp only [RegD.hit, RegD.hitDims, Bool.and_eq_true, decide_eq_true_eq, beq_iff_eq]
      omega
  refine (Dev.busWrite_of hf ?_).trans ?_
  · unfold Dev.absent Dev.absentLn
    repeat first | refine Eq.trans (if_neg (by first | omega | (simp only [Reg.LN_LINE_MODE.ADR, Reg.LN_PROT_CTRL.ADR, Reg.SM_TT_CMD.ADR]; omega))) ?_ | refine Eq.trans (if_pos (by first | trivial | omega)) ?_
    simp only [e0, e1]
    repeat first | refine Eq.trans (if_neg (by omega)) ?_
    rw [h]
    simp only [Bool.not_true, Bool.false_or, Bool.and_eq_false_iff, Bool.or_eq_false_iff, beq_eq_false_iff_ne, decide_eq_false_iff_not]
    first | done | (right; omega) | exact ⟨.inr (by omega), .inr (by omega)⟩
  · unfold Dev.regWrite Dev.writeLn
    dsimp only
    repeat first | refine Eq.trans (if_neg (by first | omega | (simp only [Reg.LN_LINE_MODE.ADR, Reg.LN_PROT_CTRL.ADR, Reg.SM_TT_CMD.ADR]; omega))) ?_ | refine Eq.trans (if_pos (by first | trivial | omega)) ?_
    try simp only [e0]
    try simp only [e1]
    try simp only [e2]
    repeat first | refine Eq.trans (if_neg (by first | omega | (simp only [Reg.LN_LINE_MODE.ADR, Reg.LN_PROT_CTRL.ADR, Reg.SM_TT_CMD.ADR]; omega))) ?_ | refine Eq.trans (if_pos (by first | trivial | omega)) ?_
    first | done | rfl


/-- A coefficient of the FFE or of the DFE. -/
theorem Dev.poke_coef (d : Dev) (m : Master) (n : Fin 4) (i : Fin 34) (v : Word) (h : d.lnHere n = true) :
    d.poke m (coefFld n.val i.val).adr v = d.ffeWrite n i (v.toNat % 1024) := by
  unfold coefFld
  by_cases hi : i.val < 31
  · rw [if_pos hi]; exact Dev.poke_LN_FFE d m n ⟨i.val, hi⟩ v h
  · rw [if_neg hi]
    have h34 := i.isLt
    refine (Dev.poke_LN_DFE d m n ⟨i.val - 31, by omega⟩ v h).trans ?_
    show d.ffeWrite n (31 + (i.val - 31)) _ = _
    rw [show 31 + (i.val - 31) = i.val by omega]

/-! ### Registers whose write only sets their fields -/

theorem slotAt_none_of_among {a b st n : Nat} (h : among a b st n = false) : slotAt a b st n = none := by
  unfold among at h; simpa using h
/-- The write of a register that is no command sets its fields and does no more (R15); in the time base a clamp that cuts the rate
keeps its event (R243). -/
theorem Dev.regWrite_plain (d : Dev) (m : Master) (a v : Nat) (h : actsOnWrite a = false) :
    d.regWrite m a v = if 0x80000 ≤ a ∧ a < 0x100000 then (d.plainWrite a v).clampHold else d.plainWrite a v := by
  unfold actsOnWrite at h
  unfold Dev.regWrite
  by_cases h1 : a < 0x10000
  · rw [if_pos h1] at h ⊢
    rw [if_neg (by omega)]
    simp only [Bool.or_eq_false_iff, beq_eq_false_iff_ne] at h
    simp only [Dev.writeChip, h.1.1.1, h.1.1.2, slotAt_none_of_among h.1.2, slotAt_none_of_among h.2, ↓reduceIte, or_self, false_and]
  rw [if_neg h1] at h ⊢
  by_cases h1 : a < 0x20000
  · rw [if_pos h1] at h ⊢
    rw [if_neg (by omega)]
    simp only [Bool.or_eq_false_iff, beq_eq_false_iff_ne] at h
    simp only [Dev.writeGen, h, ↓reduceIte, or_self, false_and]
  rw [if_neg h1] at h ⊢
  by_cases h1 : a < 0x30000
  · rw [if_pos h1] at h ⊢
    rw [if_neg (by omega)]
    simp only [Bool.or_eq_false_iff, beq_eq_false_iff_ne] at h
    simp only [Dev.writePwr, h, slotAt_none_of_among h.2, ↓reduceIte, or_self, false_and]
  rw [if_neg h1] at h ⊢
  by_cases h1 : a < 0x40000
  · rw [if_pos h1] at h ⊢
    rw [if_neg (by omega)]
    simp only [Bool.or_eq_false_iff, beq_eq_false_iff_ne] at h
    simp only [Dev.writeTru, h, ↓reduceIte, or_self, false_and]
  rw [if_neg h1] at h ⊢
  by_cases h1 : a < 0x50000
  · rw [if_pos h1] at h ⊢
    rw [if_neg (by omega)]
    simp only [Bool.or_eq_false_iff, beq_eq_false_iff_ne] at h
    simp only [Dev.writeCvu, h, ↓reduceIte, or_self, false_and]
  rw [if_neg h1] at h ⊢
  by_cases h1 : a < 0x80000
  · rw [if_pos h1] at h ⊢
    rw [if_neg (by omega)]
    simp only [Bool.or_eq_false_iff, beq_eq_false_iff_ne] at h
    simp only [Dev.writeDbg, h, slotAt_none_of_among h.2, ↓reduceIte, or_self, false_and]
  rw [if_neg h1] at h ⊢
  by_cases h1 : a < 0x100000
  · rw [if_pos h1] at h ⊢
    rw [if_pos (by omega)]
    simp only [Bool.or_eq_false_iff, beq_eq_false_iff_ne] at h
    simp only [Dev.writeTim, h, ↓reduceIte, or_self, false_and]
  rw [if_neg h1] at h ⊢
  by_cases h1 : a < 0x200000
  · rw [if_pos h1] at h ⊢
    rw [if_neg (by omega)]
    simp only [lineActs, Bool.or_eq_false_iff, beq_eq_false_iff_ne, decide_eq_false_iff_not] at h
    simp only [Dev.writeLn, h, ↓reduceIte, or_self, false_and]
  rw [if_neg h1] at h ⊢
  by_cases h1 : a < 0x300000
  · rw [if_pos h1] at h ⊢
    rw [if_neg (by omega)]
    simp only [Bool.or_eq_false_iff, beq_eq_false_iff_ne] at h
    simp only [Dev.writeCph, h, slotAt_none_of_among h.2, slotAt_none_of_among h.1.2, slotAt_none_of_among h.1.1.2, ↓reduceIte, or_self, false_and]
  rw [if_neg h1] at h ⊢
  by_cases h1 : a < 0x800000
  · rw [if_pos h1] at h ⊢
    rw [if_neg (by omega)]
    simp only [Bool.or_eq_false_iff, beq_eq_false_iff_ne] at h
    simp only [Dev.writePcl, h, slotAt_none_of_among h.2, ↓reduceIte, or_self, false_and]
  rw [if_neg h1] at h ⊢
  by_cases h1 : a < 0x1000000
  · rw [if_pos h1] at h ⊢
    rw [if_neg (by omega)]
    simp only [Bool.or_eq_false_iff, beq_eq_false_iff_ne] at h
    simp only [Dev.writeTmg, h, slotAt_none_of_among h.2, ↓reduceIte, or_self, false_and]
  rw [if_neg h1] at h ⊢
  by_cases h1 : a < 0x1800000
  · rw [if_pos h1] at h ⊢
    rw [if_neg (by omega)]
    simp only [Bool.or_eq_false_iff, Bool.and_eq_false_iff, beq_eq_false_iff_ne, decide_eq_false_iff_not] at h
    have hm : a % 0x10000 % 0x1000 = a % 0x1000 := by omega
    simp only [Dev.writeSm, h, slotAt_none_of_among h.1.1.2, hm, ↓reduceIte, or_self, false_and]
    rw [if_neg (by rintro ⟨x, y | y | y⟩ <;> omega)]
  rw [if_neg h1] at h ⊢
  by_cases h1 : a < 0x1C00000
  · rw [if_pos h1] at h ⊢
    rw [if_neg (by omega)]
    simp only [laneActs, Bool.or_eq_false_iff, beq_eq_false_iff_ne] at h
    simp only [Dev.writeSl, Dev.laneWrite, h, ↓reduceIte, or_self, false_and]
  rw [if_neg h1] at h ⊢
  by_cases h1 : a < 0x1D00000
  · rw [if_pos h1] at h ⊢
    rw [if_neg (by omega)]
    simp only [laneActs, Bool.or_eq_false_iff, Bool.and_eq_false_iff, beq_eq_false_iff_ne, decide_eq_false_iff_not] at h
    have hm : a % 0x40000 % 0x100 = a % 0x100 := by omega
    simp only [Dev.writeRp, Dev.laneWrite, hm]
    rcases h.2 with h2 | h2 <;> simp only [h, h2, slotAt_none_of_among h.1.1.1.2, ↓reduceIte, or_self, false_and, ite_self]
  rw [if_neg h1] at h ⊢
  by_cases h1 : a < 0x1E00000
  · rw [if_pos h1] at h ⊢
    rw [if_neg (by omega)]
    simp only [Bool.or_eq_false_iff, Bool.and_eq_false_iff, beq_eq_false_iff_ne, decide_eq_false_iff_not] at h
    unfold Dev.writeHif
    dsimp only
    rcases h with ⟨h2 | h2, h3 | h3⟩
    · rw [if_neg h2, if_neg h3]
    · rw [if_neg h2]; simp [h3]
    · simp [h2, h3]
      intro _ _ h4 h5
      omega
    · simp [h2, h3]
      intro _ _ h4 h5
      omega
  rw [if_neg h1] at h ⊢
  by_cases h1 : a < 0x1F00000
  · rw [if_pos h1] at h ⊢
    rw [if_neg (by omega)]
    simp only [Bool.or_eq_false_iff, beq_eq_false_iff_ne, decide_eq_false_iff_not] at h
    simp only [Dev.writeDmc, h, ↓reduceIte, or_self, false_and]
  rw [if_neg h1] at h ⊢
  simp only [beq_eq_false_iff_ne] at h
  rw [if_neg h, if_neg (by omega)]

end Sys2Proof.Machine
end

