-- ==== Sys2Proof/WellFormed.lean ====
section
/-!
DEFINITION. Well-formed commands: operands that the event or message they stand for can carry. Indices, addresses and words
are bounded by their types already; what is checked here are lengths of byte strings and widths of numbers that
messages and pages fix.
-/
namespace Sys2Proof

namespace Machine

/-- A PLOAM message has 48 bytes (R93), an ONU-ID 10 bits, a serial number two words. -/
def Ploam.wf (p : Ploam) : Bool :=
  decide (p.msg.length = 48) && p.onu.all (fun v => decide (v < 1024)) &&
    p.serial.all (fun v => decide (v.1 < 2 ^ 32) && decide (v.2 < 2 ^ 32))

/-- A Burst_Profile message: the widths of LN.PROF (R97). -/
def Profile.wf (x : Profile) : Bool :=
  decide (x.version < 16) && decide (x.delim.length < 16) && decide (x.pattern.length < 64) && decide (x.preBytes < 2 ^ 16)

/-- An XGEM header: the widths of its fields (R63). -/
def Xgem.wf (x : Xgem) : Bool := decide (x.port < 2 ^ 16) && decide (x.pli < 2 ^ 14) && decide (x.key < 4)

/-- An allocation structure (R101): a 14-bit Alloc-ID, 16-bit start and size. -/
def Grant.wf (g : Grant) : Bool := decide (g.alloc < 2 ^ 14) && decide (g.start < 2 ^ 16) && decide (g.size < 2 ^ 16)

/-- A management record (R303). -/
def Rec.wf (r : Rec) : Bool :=
  decide (r.typ < 32) && decide (r.dst < 32) && decide (r.src < 32) && decide (r.tag < 256) && decide (r.body.length = 12)

/-- Whole descriptor slots of 32 bytes (R329). -/
def slotsOk (b : List Byte) : Bool := decide (b.length % 32 = 0)

/-- A doorbell line: sixteen words (R340). -/
def lineOk (l : List Nat) : Bool := decide (l.length = 16) && l.all (fun v => decide (v < 2 ^ 32))

end Machine

open Machine

/-- The operands of the command are in range. -/
def WellFormed (i : Instr) : Bool :=
  match i with
  | .inputBufferArrival _ _ data => decide (14 ≤ data.length)
  | .huntMatch _ _ errs _ sfc => decide (sfc < 2 ^ 51) && decide (errs ≤ 64)
  | .candidateCheck _ _ errs _ x =>
    decide (x.sfc < 2 ^ 51) && x.ponid.all (fun v => decide (v < 2 ^ 51)) && decide (errs ≤ 64)
  | .framePsync _ _ errs _ sfc ponid => decide (sfc < 2 ^ 51) && ponid.all (fun v => decide (v < 2 ^ 51)) && decide (errs ≤ 64)
  | .xgemHeader _ h _ => h.wf
  | .burstProfile _ p x => p.wf && x.wf
  | .assignOnuId _ p onu => p.wf && decide (onu < 1024)
  | .rangingTime _ p eqd => p.wf && decide (eqd < 2 ^ 32)
  | .deactivateOnuId _ p => p.wf
  | .disableSerialNumber _ p _ _ => p.wf
  | .requestRegistration _ p => p.wf
  | .assignAllocId _ p alloc _ => p.wf && decide (alloc < 2 ^ 14)
  | .keyControl _ p x => p.wf && decide (x.idx < 4) && decide (x.sw.getD 0 < 2 ^ 51)
  | .systemProfile _ p _ => p.wf
  | .channelProfile _ p ident => p.wf && decide (ident < 2 ^ 16)
  | .changePowerLevel _ p level => p.wf && decide (level < 8)
  | .protectionControl _ p => p.wf
  | .sleepAllow _ p => p.wf
  | .calibrationRequest _ p => p.wf
  | .adjustTxWavelength _ p => p.wf
  | .tuningControl _ p => p.wf
  | .bandwidthMapParse _ grants => grants.all Grant.wf
  | .txmsgHandoff _ l _ => slotsOk l
  | .pageAccept _ x => decide (192 ≤ min x.l0.length x.l1.length)
  | .wagonRx _ _ l0 l1 _ => [l0, l1].all (fun l => decide (1024 ≤ l.length) && decide (l.length ≤ 1124))
  | .rdReq _ r => r.wf
  | .wrReq _ r => r.wf
  | .resp _ r => r.wf
  | .event _ r => r.wf
  | .probe _ r => r.wf
  | .probeReply _ r => r.wf
  | .homing _ r => r.wf
  | .sync _ _ r _ => r.wf
  | .follow _ r => r.wf
  | .dreq _ _ r _ => r.wf
  | .dresp _ r => r.wf
  | .gopArm _ r => r.wf
  | .gopCancel _ r => r.wf
  | .gopReport _ r => r.wf
  | .ringEnable _ _ l => slotsOk l
  | .doorbellChange _ line mem => lineOk line && mem.all (fun e => decide (e.1 < 256) && slotsOk e.2)
  | .pollCompletion _ _ line mem => lineOk line && mem.all (fun e => decide (e.1 < 256) && slotsOk e.2)
  | .txfFrameFetch _ mem => mem.all (fun e => decide (e.1 < 256) && slotsOk e.2)
  | .dmcRequest _ _ addr len _ _ => decide (addr + len < 2 ^ 40)
  | .phaseSamplingDone fitted => decide (fitted.length = 6)
  | .thermalConversion temps => decide (temps.length = 12)
  | .ploamTypeNotHandled _ p => p.wf
  | .registerWrite .. | .w1cClear .. | .rcRead .. | .wideLowWordRead .. | .absentUnitAccess .. | .unmappedAccess ..
  | .narrowAccess .. | .cremaPowerOnReset .. | .cremaPorEnd .. | .porstNAssert .. | .porstNRelease ..
  | .resetNAssert .. | .resetNRelease .. | .chipReset .. | .blockRstLn .. | .blockRstRp .. | .blockRstCph ..
  | .blockRstHif .. | .pcieReset .. | .functionLevelReset .. | .testEnAssert .. | .recircTokenGain ..
  | .hostTokenGain .. | .slotGrant .. | .rxEnWrite .. | .eqAcqDone .. | .ffeWrite .. | .ffeSnapshotRead ..
  | .eqPreset .. | .lineSdChange .. | .dsdRaise .. | .dsdClear .. | .lolRaise .. | .lolClear .. | .huntRestart ..
  | .ambigRaise .. | .codewordDecision .. | .fsHeaderReceived .. | .xportWrite .. | .traceCtrlWrite .. | .pmLatch ..
  | .pmSelWrite .. | .tenderLockstepError .. | .tenderRestart .. | .actEnable .. | .actDisable .. | .lodsTimeout ..
  | .to1Expiry .. | .to2Expiry .. | .ploamAnswerReady .. | .pwrLvlAppliedWrite .. | .pwrLvlTimeout .. | .burstSeal ..
  | .burstTransmit .. | .prestageFill .. | .cbSidingReadDone .. | .allocTcontWrite .. | .omciRx ..
  | .lineModeWrite .. | .bondGroupEnable .. | .bondGroupDisable .. | .bondUnitRx .. | .bondStartTimerExpiry ..
  | .bondWindowExpiry .. | .fastDefHoldoffExpiry .. | .protAutoSwitch .. | .protManualSwitch ..
  | .protForcedSwitch .. | .protSwitchComplete .. | .trefTrackResume .. | .loadPlain .. | .loadDev .. | .loadLink ..
  | .generate .. | .invalidate .. | .keyCmdDone .. | .lineKeySwArm .. | .rsrKeySwArm .. | .rsrKeySwitch ..
  | .wagonVerdict .. | .ingressPassEnd .. | .recircReturn .. | .recircTimeout .. | .pclStageWrite ..
  | .pclStageDelete .. | .pclStageRevert .. | .pclRead .. | .pclReadLoc .. | .pclDiscardRejected .. | .tblCmdDone ..
  | .scrubDone .. | .bucketRefill .. | .bucketReset .. | .queueFlush .. | .readLevel .. | .tmgStageWrite ..
  | .tmgStageDelete .. | .tmgStageRevert .. | .tmgRead .. | .tmgDiscardRejected .. | .sidingReturn ..
  | .sidingReadDone .. | .bufCfgWrite .. | .sidingCfgWrite .. | .sidingDisableApply .. | .tcontOccUpdate ..
  | .tcontOccRead .. | .laneCtrlWrite .. | .inbandWordChange .. | .portLinkChange .. | .macFrameRx ..
  | .pauseTimerExpiry .. | .fcRefreshExpiry .. | .portFrameRequest .. | .frameTxStart .. | .txUnderrun ..
  | .frameTxEnd .. | .gateStateChange .. | .ttStageWrite .. | .ttStageDelete .. | .ttStageRevert .. | .ttRead ..
  | .ttDiscardRejected .. | .lpiEntry .. | .lpiRxChange .. | .nowRead .. | .stepGo .. | .todArm ..
  | .todSampleCapture .. | .todSampleEvaluate .. | .slewComplete .. | .rateWrite .. | .xferParamWrite ..
  | .pllCtrlWrite .. | .pllRefQualified .. | .pllLockAchieved .. | .pllRefUnqualified .. | .ppsOutPulse ..
  | .ppsWidthExpiry .. | .ppsInEdge .. | .signalDetectChange .. | .slAdaptDone .. | .ladderStart ..
  | .ladderRestart .. | .ladderDwellExpiry .. | .txeqWrite .. | .eyeScanStart .. | .eyeScanDone .. | .patSyncGain ..
  | .patSyncLoss .. | .forwardedClockLoss .. | .forwardedClockOk .. | .pageExchangeDone .. | .switchSuspendExpiry ..
  | .switchTimeout .. | .trainTimerExpiry .. | .riserCdrUnlock .. | .failRetryExpiry .. | .phyRestart ..
  | .sleepEntry .. | .wakeRequest .. | .wakeGrant .. | .wakeComplete .. | .wagonSend .. | .raccGo ..
  | .raccTimeout .. | .evtRepeatExpiry .. | .probeGo .. | .probeTimeout .. | .xferSyncTimer ..
  | .xferExchangeTimeout .. | .pairSwitch .. | .gopGo .. | .gopAbort .. | .gopCancelPoint .. | .gopExecute ..
  | .domainBind .. | .ringDisable .. | .ringStopDone .. | .doorbellPoll .. | .pollBackoff .. | .txfFrameReadDone ..
  | .statusLineWrite .. | .evtModTimerExpiry .. | .rxStarveTimeout .. | .irqResendExpiry .. | .dmaError ..
  | .pollError .. | .pollErrClear .. | .pcieLinkChange .. | .commit .. | .commitAt .. | .abort .. | .confirm ..
  | .rollback .. | .renumber .. | .discard .. | .commitValidated .. | .commitAtInstant .. | .confirmTimeout ..
  | .rollbackRevertDone .. | .discardDone .. | .fwConfirm .. | .fwTrialTimeout .. | .bootRecordWriteDone ..
  | .dmcEnable .. | .dmcRgnWrite .. | .dmcInit .. | .dmcInitDone .. | .regulatorRefill .. | .dmcCommandSlot ..
  | .dmcReadComplete .. | .refreshDue .. | .mr4PollDue .. | .mr4Result .. | .retrainDue .. | .retrainForce ..
  | .vsetWrite .. | .railGood .. | .railFault .. | .faultRetryExpiry .. | .hpPresentChange .. | .hpDebounceExpiry ..
  | .stageStart .. | .hpGraceExpiry .. | .powerDownStage .. | .pwrOff .. | .offHoldExpiry .. | .dyingGaspRaise ..
  | .dyingGaspWithdraw .. | .sliceGate .. | .thermalRecovery .. | .rtcSecWrite .. | .wdogKick ..
  | .wdogTimeoutWrite .. | .wdogExpiry .. | .bootRomStart .. | .bootComplete .. | .attest .. | .measExtend ..
  | .dbgOpen .. | .arbAdvance .. | .keyRevoke .. | .truCmdDone .. | .dbgChallengeRead .. | .rngRead ..
  | .rngHealthFail .. | .cvuStart .. | .cvuCheck .. | .cvuAbandon .. | .cvuDataB .. | .cvuDataH .. | .cvuDataW ..
  | .cvuResultRead .. | .ckoChange .. | .debugReset .. | .tapReset .. | .idcode .. | .samplePreload .. | .extest ..
  | .extestPulse .. | .extestTrain .. | .highz .. | .clamp .. | .truAccess .. | .truAccessUpdate ..
  | .truAccessDone .. | .brewhouseDebugPort .. | .tenderDebugPort .. | .internalScan .. | .bypass .. | .i2cGo ..
  | .i2cDone .. | .mdioGo .. | .mdioDone .. | .laneSyncChange .. | .pcieConfigWrite .. | .xtOkChange .. => true

end Sys2Proof
end

