-- ==== Sys2Proof/Tests/Slice0.lean ====
section
/-!
SUPPORT. Tests. First the checks of WellFormed, each with a term that it refuses. Then, for every claim of the certificate
that has hypotheses, a theorem `witness_<claim>` with states and operands that meet them, clause by clause. Last, results
of single commands that the spec's own examples and tables give.
-/
set_option maxRecDepth 20000
namespace Sys2Proof.Tests
open Machine

/-- Reset, with fields at other values. -/
def W (l : List (Fld × Nat)) : Dev := l.foldl (fun d e => d.put e.1 e.2) {}

/-- The device after a command. -/
def ran (i : Instr) (d : Dev) : Dev := match exec i { dev := d } with | .next t => t.dev | _ => {}

/-! ### Well-formed commands -/

def okPloam : Ploam := { msg := List.replicate 48 0#8 }
def badPloam : Ploam := { msg := List.replicate 47 0#8 }
def okRec : Rec := { typ := 1, body := List.replicate 12 0#8 }
def badRec : Rec := { typ := 1, body := List.replicate 11 0#8 }
def ones (n : Nat) : List Bool := List.replicate n true
def line16 : List Nat := List.replicate 16 0

/-- Every check on frames, headers and messages of the line refuses a term that fails only it. -/
theorem test_ill_formed_line_refused :
    ∀ i ∈ [Instr.inputBufferArrival 0 0 (List.replicate 13 0#8), .huntMatch 0 0 0 .good (2 ^ 51), .huntMatch 0 0 65 .good 0,
      .candidateCheck 0 0 0 .good ⟨2 ^ 51, none⟩, .candidateCheck 0 0 65 .good ⟨0, none⟩,
      .candidateCheck 0 0 0 .good ⟨0, some (2 ^ 51)⟩, .framePsync 0 0 0 .good (2 ^ 51) none,
      .framePsync 0 0 0 .good 0 (some (2 ^ 51)), .framePsync 0 0 65 .good 0 none,
      .xgemHeader 0 { port := 65536 } {}, .xgemHeader 0 { pli := 16384 } {}, .xgemHeader 0 { key := 4 } {},
      .burstProfile 0 badPloam {}, .burstProfile 0 okPloam { version := 16 }, .burstProfile 0 okPloam { preBytes := 65536 },
      .burstProfile 0 okPloam { delim := List.replicate 16 0#8 }, .burstProfile 0 okPloam { pattern := List.replicate 64 0#8 },
      .assignOnuId 0 badPloam 0, .assignOnuId 0 { okPloam with onu := some 1024 } 0, .assignOnuId 0 okPloam 1024,
      .assignOnuId 0 { okPloam with serial := some (2 ^ 32, 0) } 0, .assignOnuId 0 { okPloam with serial := some (0, 2 ^ 32) } 0,
      .rangingTime 0 badPloam 0, .rangingTime 0 okPloam (2 ^ 32), .deactivateOnuId 0 badPloam,
      .disableSerialNumber 0 badPloam false false, .requestRegistration 0 badPloam, .assignAllocId 0 badPloam 0 true,
      .assignAllocId 0 okPloam 16384 true, .keyControl 0 badPloam ⟨0, none⟩, .keyControl 0 okPloam ⟨4, none⟩, .keyControl 0 okPloam ⟨0, some (2 ^ 51)⟩, .systemProfile 0 badPloam [],
      .channelProfile 0 badPloam 0, .channelProfile 0 okPloam 65536, .changePowerLevel 0 badPloam 0, .changePowerLevel 0 okPloam 8,
      .protectionControl 0 badPloam, .sleepAllow 0 badPloam, .calibrationRequest 0 badPloam, .adjustTxWavelength 0 badPloam,
      .tuningControl 0 badPloam, .ploamTypeNotHandled 0 badPloam, .bandwidthMapParse 0 [{ alloc := 16384 }],
      .bandwidthMapParse 0 [{ start := 65536 }], .bandwidthMapParse 0 [{ size := 65536 }]],
    WellFormed i = false := by decide

/-- So does every check on wagons, records, descriptors and the rest. -/
theorem test_ill_formed_device_refused :
    ∀ i ∈ [Instr.txmsgHandoff 0 [0#8] [], .pageAccept 0 { l0 := ones 192, l1 := ones 191 }, .wagonRx 0 0 (ones 1023) (ones 1024) {}, .wagonRx 0 0 (ones 1024) (ones 1125) {},
      .rdReq 0 badRec, .wrReq 0 { okRec with typ := 32 }, .resp 0 { okRec with dst := 32 },
      .event 0 { okRec with src := 32 }, .probe 0 { okRec with tag := 256 }, .probeReply 0 badRec, .homing 0 badRec, .sync 0 0 badRec {},
      .follow 0 badRec, .dreq 0 0 badRec {}, .dresp 0 badRec, .gopArm 0 badRec, .gopCancel 0 badRec, .gopReport 0 badRec,
      .ringEnable 0 0 [0#8], .doorbellChange 0 [] [], .doorbellChange 0 (2 ^ 32 :: List.replicate 15 0) [],
      .doorbellChange 0 line16 [(256, [])], .doorbellChange 0 line16 [(0, [0#8])], .pollCompletion 0 0 [] [],
      .pollCompletion 0 0 line16 [(256, [])], .txfFrameFetch 0 [(256, [])], .txfFrameFetch 0 [(0, [0#8])],
      .dmcRequest 0 0 (2 ^ 40) 0 none 0, .phaseSamplingDone [], .thermalConversion []],
    WellFormed i = false := by decide

/-- Terms at the bounds are well formed. -/
theorem test_well_formed :
    ∀ i ∈ [Instr.inputBufferArrival 0 0 (List.replicate 14 0#8), .huntMatch 0 0 64 .good (2 ^ 51 - 1), .deactivateOnuId 0 okPloam,
      .assignOnuId 0 okPloam 1023, .rangingTime 0 okPloam (2 ^ 32 - 1), .rdReq 0 okRec, .doorbellChange 0 line16 [(255, List.replicate 32 0#8)],
      .wagonRx 0 0 (ones 1024) (ones 1124) {}, .pageAccept 0 { l0 := ones 192, l1 := ones 192 },
      .dmcRequest 0 0 (2 ^ 40 - 64) 63 none 0, .bandwidthMapParse 0 [{ alloc := 16383, start := 65535, size := 65535 }]],
    WellFormed i = true := by decide

/-! ### The queue, the invariants, the bus -/

theorem witness_IdleStepIsACycle :
    State.reset.pending = [] ∧ State.reset.dev.mainUp = true ∧ State.reset.dev.tim.pend = 0 ∧
      State.reset.dev.fld Reg.PWR_RTC_SUB.XT_OK = 0 := by decide

theorem witness_StepKeepsInv : State.reset.Inv ∧ ∃ t, step State.reset = .next t := ⟨⟨rfl, rfl, rfl⟩, _, rfl⟩

theorem witness_StepKeepsPartAndFuses : ∃ t, step { pending := [.attest .pcie] } = .next t := ⟨_, rfl⟩

def heldMain : Dev := { held := { porst := true } }
def heldCrema : Dev := { held := { crema := true } }

theorem witness_HeldDomainDoesNothing :
    (ofPins (.attest .pcie) = false ∧ heldMain.mainUp = false ∧ ofCrema (.attest .pcie) = false) ∧
      ofPins .stageStart = false ∧ heldCrema.mainUp = false ∧ ofCrema .stageStart = true ∧ heldCrema.cremaUp = false := by decide

theorem witness_UnmappedAccessIsCounted :
    ({} : Dev).mainUp = true ∧ (0x1FFFFFC#25).toNat % 4 = 0 ∧ (Reg.find (0x1FFFFFC#25).toNat).isNone = true := by decide

/-- The worker-only part has no line channel. -/
def dev6440 : Dev := { chip := { part := 0x6440, units0 := 0xFE200, units1 := 0x4000F } }

theorem witness_AbsentUnitAccess :
    dev6440.mainUp = true ∧ (0x100010#25).toNat % 4 = 0 ∧ (Reg.find (0x100010#25).toNat).isSome = true ∧
      dev6440.absent (0x100010#25).toNat = true := by decide

theorem witness_NarrowAccessIsCounted :
    ({} : Dev).mainUp = true ∧ (Narrow.wordUnaligned = .wordUnaligned → (0x20003#25).toNat % 4 ≠ 0) ∧
      (Reg.find ((0x20003#25).toNat / 4 * 4)).isSome = true ∧ (Reg.find ((0x1FFFFFF#25).toNat / 4 * 4)).isSome = false := by decide

theorem witness_WriteByAccessType :
    ({} : Dev).mainUp = true ∧ (0x1E00070#25).toNat % 4 = 0 ∧ (Reg.find (0x1E00070#25).toNat).isSome = true ∧
      actsOnWrite (0x1E00070#25).toNat = false ∧ ({} : Dev).absent (0x1E00070#25).toNat = false := by decide

theorem witness_WriteByAccessType_rate : ({} : Dev).rateFits := by unfold Dev.rateFits; decide

theorem witness_WriteByAccessType_registers :
    (0x2000C#25).toNat % 4 = 0 ∧ (Reg.find (0x2000C#25).toNat).isSome = true ∧ actsOnWrite (0x2000C#25).toNat = false ∧
      ({} : Dev).absent (0x2000C#25).toNat = false := by decide

theorem witness_ReadClearsAndLatches_rc :
    ({} : Dev).mainUp = true ∧ (0x1E00068#25).toNat % 4 = 0 ∧ (Reg.find (0x1E00068#25).toNat).isSome = true ∧
      ({} : Dev).absent (0x1E00068#25).toNat = false ∧ slotAt (0x1E00068#25).toNat (Reg.LN_FFE.ADR 0 0) 0x40000 4 = none := by decide

theorem witness_ReadClearsAndLatches_wide :
    (0x30#25).toNat % 4 = 0 ∧ (Reg.find (0x30#25).toNat).isSome = true ∧ ({} : Dev).absent (0x30#25).toNat = false ∧
      slotAt (0x30#25).toNat (Reg.LN_FFE.ADR 0 0) 0x40000 4 = none ∧
      ∀ x ∈ [Reg.TRU_RNG_DATA.ADR, Reg.TIM_NOW_FRAC.ADR, Reg.TRU_DBG_CHAL.ADR 0], x ≠ 0x30 ∧ x ≠ 0x1E00068 := by decide

theorem witness_ReadClearsAndLatches_widths : wideOf 0x1E00068 = none ∧ wideOf 0x30 = some (0x30, 2) := by decide

/-! ### Resets, unit resets, slices and input buffers -/

theorem witness_ColdResetClearsTheMainDomain : ({} : Dev).cremaUp = true ∧ ({} : Dev).seq = sqOn := by decide

/-- A watchdog whose millisecond is over. -/
def dog : Dev := { W [(Reg.PWR_WDOG.TIMEOUT, 1)] with pwr := { wdog := 1250000 } }

theorem witness_WarmResetKeepsTheTime :
    ({} : Dev).mainUp = true ∧ (0#16 : BitVec 16) ≠ 0xA55A#16 ∧ dog.fld Reg.PWR_WDOG.TIMEOUT ≠ 0 ∧
      dog.fld Reg.PWR_WDOG.TIMEOUT * 1250000 ≤ dog.pwr.wdog ∧ ({} : Dev).fld Reg.PWR_WDOG.TIMEOUT = 0 ∧ dog.held.cold = false ∧
      ({} : Dev).cremaUp = true ∧ ({ dog with held := { porst := true } } : Dev).held.cold = true ∧ ({} : Dev).unit 17 = true ∧ bitOf ({} : Dev).dbgPerm 4 = true ∧
      (W [(Reg.TIM_PLL_STAT.STATE, pllLocked)]).fld Reg.TIM_PLL_STAT.STATE = pllLocked := by decide

theorem witness_CremaResetClearsEverything :
    heldCrema.held.crema = true ∧ ({} : Dev).held.crema = false ∧
      ({ pwr := { hpHigh := true } } : Dev).pwr.hpHigh = true ∧ (W [(Reg.PWR_STAT.DG, 1)]).fld Reg.PWR_STAT.DG ≠ 0 := by decide

theorem witness_PinReleaseEndsTheReset :
    heldCrema.held.crema = true ∧ heldMain.held.crema = false ∧ heldMain.held.cold = true ∧ ({ heldMain.held with porst := false } : Held).cold = false ∧
      ({ held := { porst := true, testEn := true } } : Dev).held.crema = false := by decide

theorem witness_UnitResetKeepsConfiguration :
    ({} : Dev).mainUp = true ∧ ({} : Dev).hifHere = true ∧ dev6440.hifHere = false ∧
      (W [(Reg.RP_HIER_STAT.ROLE, 1)]).worker = true := by decide

/-- Domain 0 bound to PCIe. -/
def boundPcie : Dev := W [(Reg.HIF_DOM_CFG.BIND 0, 2)]

theorem witness_PcieResetStopsItsRings :
    boundPcie.mainUp = true ∧ boundPcie.pcieHere = true ∧ dev6440.mainUp = true ∧ dev6440.pcieHere = false ∧
      boundPcie.bind (domOf 15) = 2 ∧ boundPcie.bind (domOf 16) ≠ 2 := by decide

def back : Dev := { slices := [(0, { rqBack := [{}] })] }
def waiting : Dev := { inbuf := [(3, [{}]), (452, [{}])] }

theorem witness_SlotsAndTokens :
    back.mainUp = true ∧ ((back.advance 0).slice 0).rqBack = [{}] ∧ 0 < ((back.advance 0).slice 0).rtok ∧
      bitOf (back.advance 0).wake.off 0 = false ∧ bitOf (({ wake := { off := 1 } } : Dev).advance 0).wake.off 0 = true ∧
      ((waiting.advance 0).slice 0).rqBack = [] ∧ (waiting.advance 0).buf (452 + 0) ≠ [] ∧ 0 < ((waiting.advance 0).slice 0).htok ∧
      (W [(Reg.PWR_STAT.THROTTLE, 1)]).on Reg.PWR_STAT.THROTTLE = true ∧ (W [(Reg.PWR_STAT.THROTTLE, 1)]).core % 8 = 0 ∧
      ({} : Dev).on Reg.PWR_STAT.THROTTLE = false ∧ (waiting.advance 0).rrNext 0 = some 3 ∧ (({} : Dev).advance 0).buf (452 + 0) = [] ∧ (({} : Dev).advance 0).rrNext 0 = none := by
  decide

/-- An input buffer with four bytes free, and slice 1 gated. -/
def fullBuf : Dev := { W [(Reg.PWR_GATE.SLICE, 2)] with inbuf := [(3, [{ data := List.replicate 64 0#8, total := 0 }])] }

theorem witness_InputBufferArrival :
    fullBuf.mainUp = true ∧ (fullBuf.advance 0).portHere (3 : Fin 460) = true ∧ bitOf ((fullBuf.advance 0).fld Reg.PWR_GATE.SLICE) (sliceOf 115) = true ∧
      (fullBuf.advance 0).portHere (115 : Fin 460) = true ∧ bitOf ((fullBuf.advance 0).fld Reg.PWR_GATE.SLICE) (sliceOf 3) = false ∧
      bytesIn ((fullBuf.advance 0).buf 3) + (16316 + 4) = 16384 + 4 ∧ (dev6440.advance 0).portHere (456 : Fin 460) = false := by decide

/-! ### Line reception -/

/-- Receiver 0 enabled, and in SYNC. -/
def rx0 : Dev := W [(Reg.CHIPCAP_BLOCK_RST.LN, 0), (Reg.LN_SYNC_CTRL.CONFIRM_N 0, 4), (Reg.LN_CTRL.RX_EN 0, 1)]
def up0 : Dev := W [(Reg.CHIPCAP_BLOCK_RST.LN, 0)]
def sync0 : Dev := rx0.put (Reg.LN_SYNC_STAT.STATE 0) 2

theorem witness_EqualiserAndReceiverEnable :
    ({} : Dev).mainUp = true ∧ ({} : Dev).lnHere (0 : Fin 4) = true ∧ (W [(Reg.LN_EQ_CTRL.ADAPT 0, 0)]).fld (Reg.LN_EQ_CTRL.ADAPT 0) = 0 ∧
      ({} : Dev).fld (Reg.LN_EQ_CTRL.ADAPT 0) = 2 ∧ (0x200#32).toNat % 4 = 0 ∧ (3#32).toNat % 4 = 3 ∧
      ({} : Dev).adapts 0 = false ∧ (((rx0.put (defFld 0 dDSD) 0).put (Reg.LN_EQ_STAT.CDR_LOCK 0) 1)).adapts 0 = true ∧
      rx0.rxOn 0 = true ∧ rx0.fld (Reg.LN_EQ_STAT.ADAPT_DONE 0) = 0 ∧ ({} : Dev).rxOn 0 = false ∧
      ({} : Dev).lnUp 0 = false ∧ rx0.lnUp 0 = true ∧ rx0.on (Reg.LN_CTRL.RX_EN 0) = true ∧ up0.lnUp 0 = true ∧
      up0.on (Reg.LN_CTRL.RX_EN 0) = false ∧ bitOf (1#32).toNat 0 = true ∧ bitOf (2#32).toNat 0 = false := by decide

def cand1 (sfc conf : Nat) : Dev := rx0.setLine 0 { cands := [{ pos := 0, sfc := sfc, conf := conf }] }
/-- One candidate due at the frame after position 0, and two confirmed ones elsewhere. -/
def cand3 : Dev := rx0.setLine 0 { cands := [{ pos := 0, sfc := 9 }, { pos := 5, sfc := 9, conf := 1 }, { pos := 6, sfc := 9, conf := 1 }] }
def cand4 : Dev := rx0.setLine 0 { cands := List.replicate 4 { pos := 0, sfc := 0 } }

theorem witness_DefectsAndHunt :
    ({} : Dev).mainUp = true ∧ ({} : Dev).lnHere (3 : Fin 4) = true ∧ dev6440.lnHere (3 : Fin 4) = false ∧
      heldMain.mainUp = false ∧ heldMain.lnHere (0 : Fin 4) = true ∧ up0.lnUp (0 : Fin 4) = true ∧ ({} : Dev).lnUp (0 : Fin 4) = false ∧
      (W [(defFld 0 dUCW, 1)]).defect 0 dUCW = true ∧ ({} : Dev).defect 0 dUCW = false ∧
      rx0.rxOn (0 : Fin 4) = true ∧ rx0.framer 0 ≠ 2 ∧ sync0.framer 0 = 2 ∧ rx0.huntTol 0 < 5 ∧ 0 ≤ rx0.huntTol 0 ∧
      rx0.sfcPass 0 .bad = false ∧ rx0.sfcPass 0 .good = true ∧ 4 ≤ (cand4.line 0).cands.length ∧ (rx0.line 0).cands.length < 4 ∧
      (rx0.line 0).cands.any (fun c => c.pos + frameBits == 7) = false ∧
      (cand4.line 0).cands.any (fun c => c.pos + frameBits == frameBits) = true ∧
      ((cand1 9 0).line 0).cands = [{ pos := 0, sfc := 9 }] ∧ (cand1 9 0).framer 0 ≠ 2 ∧ ¬ (11 % 2 ^ 51 = (9 + 1) % 2 ^ 51) ∧
      (cand3.line 0).cands.any (fun c => c.pos + frameBits == frameBits) = true ∧
      ((cand3.line 0).cands.filter (fun c => decide (0 < c.conf))).length = 2 ∧
      10 % 2 ^ 51 = (9 + 1) % 2 ^ 51 ∧ 0 + 1 < (cand1 9 0).confirmN 0 ∧ (cand1 9 3).confirmN 0 ≤ 3 + 1 := by decide

theorem witness_FramerAndCodewords :
    (rx0.advance 0).rxOn 0 = true ∧ (rx0.advance 0).framer 0 ≠ 2 ∧ (({} : Dev).advance 0).rxOn 0 = false ∧
      (sync0.advance 0).rxOn 0 = true ∧ (sync0.advance 0).framer 0 = 2 ∧ 0 < (sync0.advance 0).lossM 0 ∧
      ((sync0.put (Reg.LN_SYNC_STAT.MISS_RUN 0) 254).advance 0).lossM 0 ≤ 254 + 1 ∧ sync0.mainUp = true ∧
      sync0.on (Reg.LN_TRACE_CTRL.PONID_EN 0) = false ∧ (sync0.put (Reg.LN_TRACE_CTRL.PONID_EN 0) 1).on (Reg.LN_TRACE_CTRL.PONID_EN 0) = true ∧
      sync0.wide (Reg.LN_PONID_MASK_LO.VALUE 0) (Reg.LN_PONID_MASK_HI.VALUE 0) ≠ 0 ∧
      max 1 (sync0.fld (Reg.LN_SD_CTRL.UCW_N 0)) ≤ ((sync0.setLine 0 { ucwRun := 999 }).line 0).ucwRun + 1 ∧
      (sync0.line 0).ucwRun + 1 < max 1 ((sync0.put (Reg.LN_SD_CTRL.UCW_N 0) 2).fld (Reg.LN_SD_CTRL.UCW_N 0)) ∧
      max 1 (sync0.fld (Reg.LN_SD_CTRL.UCW_CLR 0)) ≤ ((sync0.setLine 0 { goodRun := 999999 }).line 0).goodRun + 1 ∧
      (sync0.line 0).goodRun + 1 < max 1 ((sync0.put (Reg.LN_SD_CTRL.UCW_CLR 0) 2).fld (Reg.LN_SD_CTRL.UCW_CLR 0)) := by decide

/-- In SYNC and delineating, with XPORT entry 7 for port-ID 0x123. -/
def xg0 : Dev := ((sync0.put (Reg.LN_XPORT.PORT_ID 0 7) 0x123).put (Reg.LN_XPORT.VALID 0 7) 1).setLine 0 { delin := true }

def part (p : Nat) : Reasm := { port := p, key := 0, kind := 0, sfc := 0 }

theorem witness_XgemDelineationAndPortTable :
    xg0.mainUp = true ∧ xg0.rxOn 0 = true ∧ xg0.framer 0 = 2 ∧ (xg0.line 0).delin = true ∧ (sync0.line 0).delin = false ∧
      xg0.xports 0 0x124 = [] ∧ xg0.xports 0 0x123 = [7] ∧ (0x123 ∉ (xg0.line 0).skip) ∧
      (xg0.line 0).reasm.find? (·.port == 0x123) = none ∧ (xg0.line 0).reasm.length < 256 ∧ xg0.maxSdu 0 < 16383 ∧ 64 ≤ xg0.maxSdu 0 ∧
      xg0.on (Reg.LN_XGEM_CTRL.HEC_ACCEPT 0) = true ∧ 0x123 ∈ ((xg0.setLine 0 { skip := [0x123] }).line 0).skip ∧
      (((xg0.setLine 0 { reasm := List.replicate 256 (part 9) }).line 0).reasm.find? (·.port == 0x123) = none) ∧
      ((xg0.setLine 0 { reasm := List.replicate 256 (part 9) }).line 0).reasm.length = 256 ∧
      ((xg0.setLine 0 { reasm := [part 0x123] }).line 0).reasm.find? (·.port == 0x123) = some (part 0x123) ∧
      bits (0x70000#32).toNat 16 1 = 1 ∧ bits (0x70000#32).toNat 17 2 = 3 ∧ xg0.bondHere = true ∧ dev6440.bondHere = false ∧
      ({ chip := { units0 := 0x3FEF33, part := 0x6410 } } : Dev).bondHere = false ∧
      ({ chip := { units0 := 0x3FEF33, part := 0x6410 } } : Dev).lnHere (0 : Fin 4) = true := by decide

theorem witness_XgemDelineationAndPortTable_delivery :
    (xg0.put Reg.LN_LINE_MODE.MODE 2).fld Reg.LN_LINE_MODE.MODE = 2 ∧ xg0.fld Reg.LN_LINE_MODE.MODE ≠ 2 ∧
      (xg0.lineDecrypt 0 0 0 0 [(0, 1)] [1#8]).2 = some [1#8] ∧ (xg0.lineDecrypt 0 0 1 0 [(0, 1)] [1#8]).2 = none := by decide

theorem witness_PerformanceMonitoring :
    ({} : Dev).mainUp = true ∧ ({} : Dev).lnHere (0 : Fin 4) = true ∧ ({} : Dev).pmHistHere = true ∧
      (∀ k < 18, Tbl.get (({} : Dev).line 0).run k 0 < 2 ^ 48) ∧ ({} : Dev).on (Reg.LN_CTRL.RX_EN 0) = false := by decide

/-- A second of 10 codewords with 5 corrected bits. -/
def ber0 : Dev := sync0.setLine 0 { run := [(0, 10), (3, 5)] }

theorem witness_PerformanceMonitoring_bins :
    ({} : Dev).pmHistHere = true ∧ ({ chip := { units0 := 0x3FEF37, part := 0x6420 } } : Dev).pmHistHere = false ∧
      (({} : Dev).line 0).bins15 = {} :: [] ∧ (({} : Dev).line 0).bins24 = {} :: [] ∧ (secOf ({} : Dev).time - 0) % 900 = 0 ∧
      (secOf ({} : Dev).time - 0) / 900 = ((899 : Nat) - 0 : Int) / 900 ∧ (secOf ({} : Dev).time - 0) / 900 ≠ ((900 : Nat) - 0 : Int) / 900 ∧
      ({} : Dev).fld (Reg.LN_PM_SEL.KIND 0) = 0 ∧ (W [(Reg.LN_PM_SEL.KIND 0, 1)]).fld (Reg.LN_PM_SEL.KIND 0) = 1 := by decide

theorem witness_PerformanceMonitoring_ber :
    ber0.rxOn 0 = true ∧ Tbl.get (ber0.line 0).run 0 0 ≠ 0 ∧ Tbl.get (({} : Dev).line 0).run 0 0 = 0 ∧
      max 1 1 * (17280 * Tbl.get (ber0.line 0).run 0 0) ≤ (Tbl.get (ber0.line 0).run 3 0 + 1728 * Tbl.get (ber0.line 0).run 2 0) * 10 ^ 5 ∧
      ¬ max 1 1 * (17280 * Tbl.get (ber0.line 0).run 0 0) ≤ (Tbl.get (ber0.line 0).run 3 0 + 1728 * Tbl.get (ber0.line 0).run 2 0) * 10 ^ 4 := by
  decide

/-! ### Activation and the Coachbuilder -/

/-- Channel 0 out of reset and enabled, its machine in a state, with or without a running Tender. -/
def ch0 (st : Nat) : Dev :=
  W [(Reg.CHIPCAP_BLOCK_RST.LN, 0), (Reg.LN_ACT_CTRL.EN 0, 1), (Reg.LN_ACT_STAT.STATE 0, st), (Reg.CPX_TND_STAT.RUNNING, 1)]
def halted0 (st : Nat) : Dev := { (ch0 st).put Reg.CPX_TND_STAT.RUNNING 0 with tenderHalt := true }

theorem witness_TenderHaltAndTimers :
    (ch0 stO5).mainUp = true ∧ (ch0 stO5).tenderRuns = true ∧ ({} : Dev).tenderRuns = false ∧ (ch0 stO5).cpxHere = true ∧
      (ch0 stO5).tenderHalt = false ∧ (halted0 stO5).tenderHalt = true ∧ (halted0 stO5).cpxHere = true ∧
      (((halted0 stO5).setAct 0 { lateDis := true }).act 0).lateDis = true ∧ (halted0 stO5).lnUp 0 = true ∧ stO5 ≠ stO7 ∧
      (ch0 stO5).lnUp 0 = true ∧ (ch0 stO5).actEn 0 = true ∧ ({} : Dev).lnUp 0 = false := by decide

theorem witness_TenderHaltAndTimers_timers :
    (∀ st ∈ [stO11, stO12, stO23, stO4, stO5, stO6, stO7], (ch0 st).actState 0 = st) ∧
      (((ch0 stO4).setAct 0 { to1 := true }).act 0).to1 = true ∧ ((ch0 stO4).act 0).to1 = false ∧
      (((ch0 stO6).setAct 0 { to2 := true }).act 0).to2 = true ∧ ((ch0 stO6).act 0).to2 = false ∧
      (((halted0 stO4).setAct 0 { to1 := true }).act 0).to1 = true ∧ (halted0 stO4).actState 0 = stO4 ∧
      (ch0 stO5).tenderHere = true ∧ (halted0 stO5).tenderHere = true ∧
      (((halted0 stO5).setAct 0 { pwrWait := true, latePwr := true, lateLods := true }).act 0) = { pwrWait := true, latePwr := true, lateLods := true } ∧
      (halted0 stO5).fld (Reg.LN_PWR_LVL.APPLIED 0) = (halted0 stO5).fld (Reg.LN_PWR_LVL.REQ 0) ∧
      { ch0 stO5 with tenderHalt := false }.tenderRuns = true ∧
      ((halted0 stO5).put (Reg.LN_ACT_CTRL.EN 0) 1).actEn 0 = true := by decide

theorem witness_ActivationEnable :
    (ch0 stO7).lnUp (0 : Fin 4) = true ∧ ((ch0 stO5).put (Reg.LN_ACT_CTRL.EN 0) 0).fld (Reg.LN_ACT_CTRL.EN 0) = 0 ∧
      ((halted0 stO5).put (Reg.LN_ACT_CTRL.EN 0) 0).fld (Reg.LN_ACT_CTRL.EN 0) = 0 ∧ (halted0 stO5).tenderHalt = true ∧
      bitOf ((ch0 stO7).put Reg.PWR_LINE_ESTOP.ESTOP 1 |>.fld Reg.PWR_LINE_ESTOP.ESTOP) 0 = true ∧
      (ch0 stO7).actState 0 = stO7 ∧ (ch0 stO5).actState 0 ≠ stO7 ∧ (ch0 stO7).lnHere (0 : Fin 4) = true ∧ (ch0 stO7).tenderHere = true ∧
      (ch0 stO7).actEn 0 = true ∧ ((ch0 stO7).put (Reg.LN_ACT_CTRL.EN 0) 0).actEn 0 = false ∧ (ch0 stO7).tenderHalt = false ∧
      (halted0 stO7).tenderHalt = true ∧ ({} : Dev).lnUp 0 = false := by decide

theorem witness_ActivationEnable_rest :
    (let d := (ch0 stO12).put (Reg.LN_ACT_STAT.PROF_VALID 0) 1 |>.put (Reg.LN_ACT_CTRL.NEED_CPROF 0) 0
     d.actState 0 = stO12 ∧ d.fld (Reg.LN_ACT_STAT.PROF_VALID 0) ≠ 0 ∧ d.on (Reg.LN_ACT_CTRL.NEED_CPROF 0) = false) ∧
      ((ch0 stO5).setCoach 0 { lastOff := some 5 } |>.coach 0).lastOff = some 5 ∧ ((ch0 stO5).setCoach 0 { lastOff := some 5 }).gridNow 0 < 5 ∧
      ((ch0 stO5).setCoach 0 { lastOff := some 0 } |>.coach 0).lastOff = some 0 ∧ 0 ≤ ((ch0 stO5).setCoach 0 { lastOff := some 0 }).gridNow 0 := by
  decide

theorem witness_PloamMessagesAreHandled :
    (ch0 stO5).mainUp = true ∧ (ch0 stO5).lnUp 0 = true ∧ (ch0 stO5).actEn 0 = true ∧ (ch0 stO5).tenderRuns = true ∧
      (ch0 stO5).addressed 0 okPloam = true ∧ (ch0 stO5).addressed 0 { okPloam with onu := some 5 } = false ∧
      ((ch0 stO5).put (Reg.LN_ACT_STAT.ONU_ID_VALID 0) 1 |>.put (Reg.LN_ACT_STAT.ONU_ID 0) 5).addressed 0
        { okPloam with onu := some 5 } = true ∧ okPloam.onu = none ∧ ({} : Dev).lnUp 0 = false ∧ (ch0 stO5).ploamMicOk 0 okPloam.msg = false := by decide

/-- Channel 0 with the cipher unit up and its keys of both integrity codes in force. -/
def mic0 : Dev := W [(Reg.CHIPCAP_BLOCK_RST.LN, 0), (Reg.CHIPCAP_BLOCK_RST.CPH, 0), (Reg.CPH_SLOT_STAT.STATE 2, slotDefault),
  (Reg.CPH_SLOT_STAT.STATE 3, slotDefault)]

/-- A message passes its integrity check with the code that its key gives. -/
theorem witness_PloamMessagesAreHandled_mic :
    mic0.ploamMicOk 0 (mic0.ploamMic 0 0 []) = true ∧ mic0.omciMicOk 0 (mic0.omciMic 0 0 []) = true := by
  have h : (mic0.ploamMic 0 0 []).length = 8 := rfl
  have h' : (mic0.omciMic 0 0 []).length = 4 := rfl
  have c : (mic0.cphLineUp && mic0.slotState 2 != slotEmpty) = true := by decide
  have c' : (mic0.cphLineUp && mic0.slotState 3 != slotEmpty) = true := by decide
  simp_all [Dev.ploamMicOk, Dev.omciMicOk]

/-- A message to ONU-ID 5 that carries the serial number of channel 0. -/
def mine : Ploam := { okPloam with onu := some 5, serial := some (vendorId, 0) }
def onu5 (st : Nat) : Dev := (ch0 st).put (Reg.LN_ACT_STAT.ONU_ID_VALID 0) 1 |>.put (Reg.LN_ACT_STAT.ONU_ID 0) 5
def full128 : Dev := (List.range 128).foldl (fun d i => d.put (Reg.LN_ALLOC.VALID 0 i) 1) (ch0 stO5)

theorem witness_PloamMessageEffects :
    (onu5 stO23).ownSerial 0 mine = true ∧ (onu5 stO23).ownSerial 0 okPloam = false ∧ (onu5 stO4).ownOnu 0 mine = true ∧
      (onu5 stO4).ownOnu 0 okPloam = false ∧ okPloam.onu.isNone = true ∧ mine.onu.isNone = false ∧
      (∀ st ∈ [stO11, stO12, stO23, stO4, stO5, stO6, stO7], (onu5 st).actState 0 = st) ∧
      (ch0 stO5).allocFind 0 9 = none ∧
      (((ch0 stO5).put (Reg.LN_ALLOC.VALID 0 2) 1).put (Reg.LN_ALLOC.ALLOC_ID 0 2) 9).allocFind 0 9 = some 2 ∧
      (ch0 stO5).on (Reg.LN_ALLOC.VALID 0 0) = false ∧ ((ch0 stO5).put (Reg.LN_ALLOC.TCONT 0 0) 512).allocTcont 0 0 = 512 ∧
      (ch0 stO5).fld (Reg.LN_PWR_LVL.APPLIED 0) = 0 % 8 ∧ (ch0 stO5).fld (Reg.LN_PWR_LVL.APPLIED 0) ≠ 1 % 8 := by decide

theorem witness_PloamMessageEffects_full :
    full128.allocFind 0 9 = none ∧ ∀ i < 128, full128.on (Reg.LN_ALLOC.VALID 0 i) = true := by decide

/-- A descriptor slot of R329: LEN in bytes 8 and 9, SOF and EOF in byte 10. -/
def slot32 (len : Nat) : List Byte := List.replicate 8 0#8 ++ leBytes len 2 ++ [3#8] ++ List.replicate 21 0#8

/-- A running TXMSG ring for PLOAM on channel 0: ring 0 of a Brewhouse domain, its events to ring 1. -/
def msgRing : Dev := [(Reg.HIF_DOM_CFG.BIND 0, 1), (Reg.HIF_RING_CFG.KIND 0, 4), (Reg.HIF_RING_CFG.LOG2_SIZE 0, 4),
  (Reg.HIF_RING_CFG.EVT_RING 0, 1), (Reg.HIF_RING_CTRL.EN 0, 1), (Reg.HIF_RING_STAT.RUNNING 0, 1), (Reg.HIF_RING_STAT.RUNNING 1, 1),
  (Reg.HIF_RING_CFG.LOG2_SIZE 1, 4), (Reg.HIF_RING_BUF.BUF_SIZE 0, 64)].foldl (fun d e => d.put e.1 e.2)
    ((ch0 stO5).setRing 0 { sw := 1 })

theorem witness_AnswersBindingsAndOmci :
    (ch0 stO5).mainUp = true ∧ ((ch0 stO5).act 0).due = [] ∧ (((ch0 stO5).setAct 0 { due := [.filler] }).act 0).due = [.filler] ∧
      ((ch0 stO5).act 0).answers.length < 4 ∧ 4 ≤ (((ch0 stO5).setAct 0 { answers := List.replicate 4 .filler }).act 0).answers.length ∧
      (ch0 stO5).lnHere (0 : Fin 4) = true ∧ (((ch0 stO5).setAct 0 { pwrWait := true }).act 0).pwrWait = true ∧
      bits (0x300#32).toNat 8 3 = ((ch0 stO5).put (Reg.LN_PWR_LVL.REQ 0) 3).fld (Reg.LN_PWR_LVL.REQ 0) ∧
      (ch0 stO5).fld (Reg.LN_PWR_LVL.APPLIED 0) ≠ ((ch0 stO5).put (Reg.LN_PWR_LVL.REQ 0) 3).fld (Reg.LN_PWR_LVL.REQ 0) ∧
      (ch0 stO5).on (Reg.LN_ALLOC.VALID 0 3) = false ∧ bits (0x50000#32).toNat 16 10 < 512 ∧
      ((ch0 stO5).line 0).omci = [] ∧ (((ch0 stO5).setLine 0 { omci := [{ port := 1, sfc := 0, data := [] }] }).line 0).omci ≠ [] := by
  decide

def two128 : Dev := [(Reg.LN_ALLOC.VALID 0 3, 1), (Reg.LN_ALLOC.VALID 0 4, 1), (Reg.LN_ALLOC.TCONT 0 4, 5)].foldl
  (fun d e => d.put e.1 e.2) (ch0 stO5)

theorem witness_AnswersBindingsAndOmci_rings :
    two128.on (Reg.LN_ALLOC.VALID 0 3) = true ∧ (two128.put (Reg.LN_ALLOC.TCONT 0 3) 5).allocDups 0 3 ≠ [] ∧
      (msgRing.hifUp && msgRing.ringEn 0 && msgRing.ringLive 0 && msgRing.ringKind 0 == 4 && msgRing.canDma (domOf 0) && msgRing.evtRoom (msgRing.evtRing 0) 1 &&
        msgRing.lnUp 0) = true ∧ ({} : Dev).ringLive 0 = false ∧ msgRing.on (Reg.HIF_RING_CFG.MSG 0) = false ∧
      (match msgRing.txmsgWalk 0 (msgRing.postedOf 0 (descsOf (slot32 64))) with | .whole k => k == 1 | _ => false) = true ∧
      (match msgRing.txmsgWalk 0 (msgRing.postedOf 0 (descsOf (slot32 63))) with | .bad _ _ => true | _ => false) = true ∧ msgRing.tenderRuns = true ∧ msgRing.actState (msgRing.fld (Reg.HIF_RING_CFG.CHANNEL 0)) = stO5 ∧
      (msgRing.put (Reg.LN_ACT_STAT.STATE 0) stO4).actState 0 ≠ stO5 ∧ (msgRing.act 0).sw.length < 8 := by decide

/-- T-CONT 7 bound to entry 3 of channel 0, and a queue below it with a frame or without. -/
def fillDev (l : List Frame) : Dev := (({ two128.put (Reg.LN_ALLOC.TCONT 0 4) 7 with
    gen := { tmg := { locs := [(locKey 2 8192, [{ data := [519] }]), (locKey 3 519, [{ data := [1, 0, 0] }])] } } } : Dev).setQueue 32768 { ondie := l })
def fill1 : Frame := { data := List.replicate 60 0#8, cells := 1, pool := .shared }
/-- O5 with ONU-ID 5 and a valid profile in force; and with a burst of one allocation to the default Alloc-ID. -/
def map0 : Dev := (onu5 stO5).setCoach 0 { profs := [[1]] }
def burst0 (x : Option Sealed) : Dev := (onu5 stO5).setCoach 0 { bursts := [{ allocs := [{ kind := 1 }], content := x }] }

theorem witness_Bursts :
    map0.lnUp 0 = true ∧ (map0.lineSwitch 0 (map0.sfc 0)).grantKind 0 { alloc := 5 } = some 1 ∧
      (map0.lineSwitch 0 (map0.sfc 0)).actState 0 = stO5 ∧ profValid [1] = true ∧
      ((map0.lineSwitch 0 (map0.sfc 0)).coach 0).profs.getD 0 [] = [1] ∧ ((map0.lineSwitch 0 (map0.sfc 0)).coach 0).bursts = [] ∧
      ((map0.lineSwitch 0 (map0.sfc 0)).coach 0).lastOff = none ∧
      ((((burst0 none).advance 0).coach 0).bursts.find? (fun b => b.content.isNone)).isSome = true ∧
      ((map0.advance 0).coach 0).bursts = [] ∧ ((burst0 none).advance 0).standsBy 0 = false ∧
      ((burst0 none).advance 0).burstAllowed 0 { allocs := [{ kind := 1 }] } = true ∧
      ((burst0 none).advance 0).burstAllowed 0 { allocs := [{ kind := 0 }] } = false ∧
      ((burst0 (some {})).advance 0).txDis 0 = false ∧ (({} : Dev).advance 0).txDis 0 = true := by decide

/-- Three structures, the second a continuation of the first, met by a burst that waits. -/
def grants3 : List Grant := [{ alloc := 5 }, { alloc := 5, cont := true, size := 3 }, { alloc := 5, start := 9000 }]
def map1 : Dev := (burst0 none).setCoach 0 { profs := [[1]], bursts := [{ allocs := [{ kind := 1 }], hdr := 9 }] }

theorem witness_Bursts_maps :
    map1.mainUp = true ∧ map1.coachUp 0 = true ∧ ((map1.lineSwitch 0 (map1.sfc 0)).coach 0).bursts.length = 1 ∧
      (∀ g ∈ grants3, g.hec = .good ∧ (map1.lineSwitch 0 (map1.sfc 0)).grantKind 0 g = some 1) ∧
      [grants3.take 2, grants3.drop 2].flatten = grants3 ∧
      (∀ g ∈ [grants3.take 2, grants3.drop 2], g ≠ [] ∧ g.tail.all (·.cont) = true) ∧
      (∀ g ∈ [grants3.take 2, grants3.drop 2].tail, (g.headD {}).cont = false) ∧
      (sweepBursts 64 (some 10) [{ pre := 73, off := 80 }, { pre := 144, off := 150 }]).2.length = 1 ∧
      (sweepBursts 64 none [{ pre := 73, off := 80 }, { pre := 144, off := 150 }]).2 = [] := by decide

/-- The same, with a burst sent long past the present frame. -/
def clash0 : Dev := map0.setCoach 0 { profs := [[1]], lastOff := some (2 ^ 60) }

theorem witness_Bursts_clash :
    map0.coachUp 0 = true ∧ ({} : Dev).coachUp 0 = false ∧
      (let d1 := clash0.lineSwitch 0 (clash0.sfc 0)
       (d1.coach 0).lastOff = some (2 ^ 60) ∧ (d1.coach 0).frame * frameBits + 1741824 < 2 ^ 60 ∧ (d1.coach 0).bursts = []) ∧
      ((burst0 none).advance 0).coachUp 0 = true ∧
      ((burst0 (some {})).advance 0).burstAllowed 0 { allocs := [{ kind := 1 }], content := some {} } = true := by decide

theorem witness_Bursts_store :
    (map0.advance 0).fills 0 7 = false ∧ ((map0.advance 0).coach 0).store.all (·.ready) = true ∧
      (((map0.setCoach 0 { store := [{ ready := false, deadline := -1, missed := true }] }).advance 0).coach 0).store =
        [] ++ { ready := false, deadline := -1, missed := true } :: [] := by decide

theorem witness_Bursts_fill :
    ((fillDev [fill1]).advance 0).fills 0 7 = true ∧
      (match ((fillDev [fill1]).advance 0).fillOne 0 7 with | some d => (d.fillOne 0 7).isNone | none => false) = true ∧
      (((fillDev []).advance 0).fillOne 0 7).isNone = true ∧
      0 < (((fillDev [fill1]).advance 0).tm.queues.map (fun e => e.2.ondie.length + e.2.siding.length)).sum := by decide

/-- A power level asked for that software has not set, with a halted, a running and a stopped Tender. -/
theorem witness_AnswersBindingsAndOmci_power :
    let d := ((ch0 stO5).setAct 0 { pwrWait := true }).put (Reg.LN_PWR_LVL.REQ 0) 3
    let h := ((halted0 stO5).setAct 0 { pwrWait := true }).put (Reg.LN_PWR_LVL.REQ 0) 3
    (d.act 0).pwrWait = true ∧ d.fld (Reg.LN_PWR_LVL.APPLIED 0) ≠ d.fld (Reg.LN_PWR_LVL.REQ 0) ∧ d.tenderHalt = false ∧
      d.tenderRuns = true ∧ h.tenderHalt = true ∧ (h.act 0).pwrWait = true ∧
      h.fld (Reg.LN_PWR_LVL.APPLIED 0) ≠ h.fld (Reg.LN_PWR_LVL.REQ 0) ∧ ({} : Dev).tenderHalt = false ∧ ({} : Dev).tenderRuns = false := by
  decide

/-! ### Bonding, line protection and the cipher engine -/

/-- A part with line channels and without bonding. -/
def dev6410 : Dev := { chip := { part := 0x6410, units0 := 0x3FEF33 } }
def act0 : Dev := (W [(Reg.CHIPCAP_BLOCK_RST.LN, 0)]).put (Reg.LN_ACT_CTRL.EN 0) 1
/-- Group 5 enabled with members 0 and 1. -/
def grp5 : Dev := W [(Reg.LN_BOND_GRP_CFG.MEMBERS 5, 3), (Reg.LN_BOND_GRP_CFG.EN 5, 1)]

theorem witness_LineModeAndGroups :
    ({} : Dev).mainUp = true ∧ ({} : Dev).anyLine = true ∧ ((List.range 4).filter act0.lnHere).any act0.actEn = true ∧
      dev6410.anyLine = true ∧ (1#32 : Word).toNat % 4 = 1 ∧ dev6410.bondHere = false ∧
      ((List.range 4).filter ({} : Dev).lnHere).any ({} : Dev).actEn = false ∧ ({} : Dev).lineMode ≠ 1 ∧ ({} : Dev).lineMode ≠ 2 ∧
      (2#32 : Word).toNat % 4 = 2 ∧ (W [(Reg.LN_LINE_MODE.MODE, 1)]).lineMode = 1 ∧ ({} : Dev).bondHere = true ∧
      grp5.bondEn (5 : Fin 1024) = true ∧ ({} : Dev).bondEn (1023 : Fin 1024) = false ∧ (grp5.group 5).held = [] := by decide

def unit5 : Unit3 := { port := 1, sfc := 0, data := bondHeaderOf 0 0 5 9 ++ [1#8, 2#8] }
def bonded0 : Dev := { grp5.setLine 0 { bonded := [unit5] } with tm := { bondSize := 1024 } }.put Reg.LN_LINE_MODE.MODE 1
def run5 : Dev := ((bonded0.setGroup 5 { exp := some 9 }).put (Reg.LN_BOND_GRP_CFG.STATE 5) gRun).advance 0

theorem witness_BondingReceiveAndProtection :
    (({} : Dev).advance 0 |>.line 0).bonded = [] ∧ ((bonded0.advance 0).line 0).bonded = [unit5] ∧
      (({} : Dev).advance 0).lineMode ≠ 1 ∧ (bonded0.advance 0).lineMode = 1 ∧ bondHeader [] = none ∧
      bondHeader unit5.data = some (0, 5, 9) ∧ bondHeader (bondHeaderOf 1 0 5 9) = some (1, 5, 9) ∧
      ((bonded0.put (Reg.LN_BOND_GRP_CFG.EN 5) 0).advance 0).bondEn 5 = false ∧ (bonded0.advance 0).bondEn 5 = true ∧
      3 ∉ (bonded0.advance 0).bondMembers 5 ∧ 0 ∈ run5.bondMembers 5 ∧ run5.gState 5 = gRun ∧ (run5.group 5).held = [] ∧
      (run5.group 5).exp = some 9 ∧ ({} : Dev).gState 5 ≠ gStart ∧ ({} : Dev).gState 5 ≠ gRun ∧
      ((grp5.setGroup 5 { timer := true }).put (Reg.LN_BOND_GRP_CFG.STATE 5) gStart).gState 5 = gStart ∧
      ((run5.setGroup 5 { exp := some 9, held := [{ seq := 11 }] }).group 5).held = [{ seq := 11 }] := by decide

/-- The distances at which the clauses meet, and the first data frame of a starting group. -/
theorem witness_BondingReceiveAndProtection_distances :
    seqDist 9 9 = 0 ∧ seqDist 8201 9 = 8192 ∧ seqDist 32776 9 = 32767 ∧ seqDist 32777 9 = 32768 ∧ seqDist 8 9 = 65535 ∧
      (run5.group 5).farRun < 15 ∧ 15 ≤ ((run5.setGroup 5 { exp := some 9, farRun := 15 }).group 5).farRun ∧
      (let d := bonded0.put (Reg.LN_BOND_GRP_CFG.STATE 5) gStart |>.advance 0
       d.gState 5 = gStart ∧ (d.group 5).exp = none ∧ d.tm.bondUsed + cellsFor (unit5.data.length - 12 + 4) ≤ d.tm.bondSize) ∧
      (run5.setGroup 5 { exp := some 9, held := [{ seq := 11 }] }).gState 5 = gRun := by decide

/-- Protected, side 0 active, a codeword defect on channel 0. -/
def prot0 : Dev := { prot := { lasted := 10 } , regs := [] : Dev }.put Reg.LN_LINE_MODE.MODE 2
  |>.put Reg.CHIPCAP_BLOCK_RST.LN 0 |>.put Reg.LN_PROT_STAT.FAST_DEF 3 |>.put Reg.LN_PROT_CTRL.ARMED 1
  |>.put Reg.LN_PROT_CTRL.TRIG_UCW 1 |>.put (defFld 0 dUCW) 1
def ready (n : Nat) (d : Dev) : Dev :=
  ((d.put (Reg.LN_SYNC_STAT.STATE n) 2).put (Reg.LN_ACT_STAT.STATE n) stO5).put (Reg.LN_ACT_STAT.EQD_VALID n) 1
def protOk : Dev := ready 2 (ready 3 prot0)

/-- The clauses of the protection sequencer. -/
theorem witness_BondingReceiveAndProtection_protection :
    prot0.mainUp = true ∧ prot0.anyLine = true ∧ ({} : Dev).lineMode ≠ 2 ∧ prot0.lineMode = 2 ∧
      prot0.on Reg.LN_PROT_STAT.SWITCHING = false ∧ ({} : Dev).lnUp 0 = false ∧ prot0.lnUp 0 = true ∧ prot0.defect 0 dUCW = true ∧
      prot0.on Reg.LN_PROT_CTRL.TRIG_UCW = true ∧ ({} : Dev).on Reg.LN_PROT_CTRL.ARMED = false ∧ ({} : Dev).trigger = false ∧
      prot0.on Reg.LN_PROT_CTRL.ARMED = true ∧ prot0.trigger = true ∧ prot0.stbyOk = false ∧ protOk.stbyOk = true ∧
      protOk.trigger = true ∧ prot0.prot.onset = false := by decide

def cph0 : Dev := W [(Reg.CHIPCAP_BLOCK_RST.CPH, 0)]
def job (j : KeyJob) : Dev := { cph0 with cph := { jobs := [j] } }

theorem witness_KeyCommands :
    ({} : Dev).mainUp = true ∧ (W [(Reg.CHIPCAP_BLOCK_RST.CPH, 1)]).cphUp = false ∧ cph0.cphUp = true ∧ cph0.fld Reg.CPH_KEY_STAT.BUSY = 0 ∧
      (cph0.put Reg.CPH_KEY_STAT.BUSY 1).fld Reg.CPH_KEY_STAT.BUSY ≠ 0 ∧ cph0.cph.jobs = [] ∧
      (job { op := 1, slot := 1 }).keyStatus { op := 1, slot := 1 } ≠ 0 ∧
      (job { op := 1, slot := 48, keyIn := List.replicate 12 5 }).keyStatus { op := 1, slot := 48, keyIn := List.replicate 12 5 } = 0 ∧
      ((job {}).inputKey { op := 1, slot := 48, keyIn := List.replicate 12 5 }).isSome = true ∧
      ({ job {} with tru := { ident := true } } : Dev).keyStatus { op := 4, slot := 4 } = 0 ∧
      (job {}).keyStatus { op := 5, slot := 4 } = 0 ∧
      (W [(Reg.CPX_TND_STAT.RUNNING, 1)]).tenderRuns = true ∧ ({} : Dev).tenderRuns = false ∧
      (job { op := 4, slot := 4, tender := true }).keyStatus { op := 4, slot := 4, tender := true } ≠ 0 ∧
      ({ job {} with tru := { ident := true } } : Dev).keyStatus { op := 4, slot := 4, tender := true } = 0 := by decide

def rsr0 : Dev := (W [(Reg.CPH_RSR_CTRL.SW_ARM 0, 1)])
def rsrOk : Dev := rsr0.put (Reg.CPH_SLOT_STAT.STATE (riserSlot 0 0 1)) slotValid

/-- When the start of a riser wagon leaves the pins. -/
def wagonAt (d : Dev) : Int := ((d.advance 0).wagonTx 0 {}).time

theorem witness_KeySwitches :
    ({} : Dev).mainUp = true ∧ ({} : Dev).cphHere = true ∧ ({} : Dev).cphLineHere = true ∧ ({} : Dev).cphRiserHere = true ∧
      ({} : Dev).sfc 3 < (W [(Reg.CPH_LINE_SW_LO.SFC 3, 7)]).wide (Reg.CPH_LINE_SW_LO.SFC 3) (Reg.CPH_LINE_SW_HI.SFC 3) ∧
      ({} : Dev).wide (Reg.CPH_LINE_SW_LO.SFC 3) (Reg.CPH_LINE_SW_HI.SFC 3) ≤ ({} : Dev).sfc 3 ∧
      (({} : Dev).advance 0).rsrDue 0 (wagonAt {}) = false ∧ (rsr0.advance 0).rsrDue 0 (wagonAt rsr0) = true ∧
      (W [(Reg.CHIPCAP_BLOCK_RST.CPH, 1)]).cphUp = false ∧ ({} : Dev).cphUp = true ∧
      (rsr0.advance 0).fld (Reg.CPH_RSR_CTRL.TX_PHASE 0) < 2 ∧ (rsr0.advance 0).slotState (riserSlot 0 0 1) ≠ slotValid ∧
      (rsrOk.advance 0).slotState (riserSlot 0 0 1) = slotValid ∧ (rsrOk.advance 0).rsrDue 0 (wagonAt rsrOk) = true := by decide

/-! ### Tables, passes and the traffic manager -/

def busyPcl : Dev := W [(Reg.PCL_TBL_STAT.BUSY, 1)]
def pendPcl : Dev := W [(Reg.PCL_GEN_STAT.COMMIT_PENDING, 1)]
def heldPcl : Dev := W [(Reg.PCL_GEN_STAT.HELD_KIND, 2)]
def cmdPcl : Dev := { gen := { pcl := { cmd := some ⟨4, 2, 5, 0⟩ } } }

theorem witness_TableCommandsAndRefusals :
    ({} : Dev).mainUp = true ∧ ({} : Dev).unit 13 = true ∧ ({} : Dev).unit 14 = true ∧ busyPcl.fld Family.pcl.busy ≠ 0 ∧
      ({} : Dev).fld Family.pcl.busy = 0 ∧ heldPcl.fld Family.pcl.heldKind = 2 ∧ ({} : Dev).fld Family.pcl.heldKind ≠ 2 ∧
      ({} : Dev).on Reg.GEN_STAT.STAGE_OPEN ≠ false ∧ pendPcl.on Reg.PCL_GEN_STAT.COMMIT_PENDING = true ∧
      ({} : Dev).on Reg.PCL_GEN_STAT.COMMIT_PENDING = false ∧ Family.pcl.size 10 = 0 ∧ Family.pcl.size 9 ≠ 0 ∧
      Family.pcl.locOk 9 6 = false ∧ (({} : Dev).fam .pcl).cmd = none ∧ (cmdPcl.fam .pcl).cmd = some ⟨4, 2, 5, 0⟩ ∧
      ({} : Dev).tm.nodeCmd = none ∧ ({ tm := { nodeCmd := some (stOk, some (-1)) } } : Dev).tm.nodeCmd = some (stOk, some (-1)) ∧
      (W [(Reg.TMG_GEN_STAT.SCRUBBING, 1)]).on Family.tmg.scrubbing = true ∧ ({} : Dev).on Family.tmg.scrubbing = false ∧
      ({} : Dev).fld Reg.GEN_STAT.HELD_KIND ≠ 1 := by decide

/-- The states in which a staging command is refused, a READ answered, and a discard waits or acts. -/
theorem witness_TableCommandsAndRefusals_refusals :
    heldPcl.fld Family.pcl.heldKind = 2 ∧ ({} : Dev).fld Family.pcl.heldKind ≠ 2 ∧ ({} : Dev).on Reg.GEN_STAT.STAGE_OPEN ≠ false ∧
      (W [(Reg.GEN_STAT.STAGE_OPEN, 0)]).on Reg.GEN_STAT.STAGE_OPEN = false ∧
      ({} : Dev).target .pcl 9 3 false = .inl 3 ∧ (({} : Dev).viewed .pcl 9 3 0) = none ∧
      ({ gen := { pcl := { locs := [(locKey 9 3, [{ data := [7] }])] } } } : Dev).viewed .pcl 9 3 0 = some { data := [7] } ∧
      1 < Family.pcl.words ∧ ({} : Dev).on Reg.PCL_GEN_STAT.PREV_RETIRED = true ∧
      (heldPcl.put Reg.PCL_GEN_STAT.PREV_RETIRED 0).on Reg.PCL_GEN_STAT.PREV_RETIRED = false ∧
      (W [(Reg.GEN_STAT.HELD_KIND, 1)]).fld Reg.GEN_STAT.HELD_KIND = 1 ∧ (∀ y : Family, ({} : Dev).fld y.heldKind = 0) ∧
      (∃ y : Family, heldPcl.fld y.heldKind ≠ 0) := by
  exact ⟨by decide, by decide, by decide, by decide, by decide, by decide, by decide, by decide, by decide, by decide, by decide,
    by intro y; cases y <;> decide, .pcl, by decide⟩

theorem witness_StagingIsInvisible :
    0 < rel ({} : Dev).actTag ({} : Dev).stgTag ∧ (({} : Dev).doStageWrite .tmg 0 7).2 = (stOk, none) ∧ ({} : Dev).target .tmg 0 7 true = .inl 7 ∧
      (({} : Dev).fam .tmg).at (locKey 0 7) = [] := by decide

/-- Location 7 with a version of the active generation, and with one of the staging generation beside it. -/
def oldVer : Dev := { gen := { tmg := { locs := [(locKey 0 7, [{ data := [1, 0, 0] }])] } } }
def ownVer : Dev := { gen := { tmg := { locs :=
  [(locKey 0 7, [{ data := [1, 0, 0], uv := true, untilT := ({} : Dev).stgTag }, { data := [2, 0, 0], fv := true, fromTag := ({} : Dev).stgTag }])] } } }

theorem witness_StagingIsInvisible_occupied :
    (oldVer.doStageWrite .tmg 0 7).2 = (stOk, none) ∧ oldVer.target .tmg 0 7 true = .inl 7 ∧
      (∀ v ∈ (oldVer.fam .tmg).at (locKey 0 7), ¬ v.isStaged oldVer.stgTag = true ∧ v.uv = false ∧
        v.visible oldVer.actTag oldVer.actTag = true ∧ v.visible oldVer.actTag oldVer.stgTag = true) ∧
      (ownVer.doStageWrite .tmg 0 7).2 = (stOk, none) ∧ ownVer.target .tmg 0 7 true = .inl 7 ∧
      (∃ v ∈ (ownVer.fam .tmg).at (locKey 0 7), v.isStaged ownVer.stgTag = true) ∧
      ∀ v ∈ (ownVer.fam .tmg).at (locKey 0 7), (v.isStaged ownVer.stgTag = true → v.uv = false) ∧
        (v.visible ownVer.actTag ownVer.stgTag = true → v.isStaged ownVer.stgTag = true) ∧
        (v.endsAt ownVer.stgTag = true → v.visible ownVer.actTag ownVer.actTag = true) := by decide

def fr : Frame := { data := List.replicate 12 0x11#8 ++ [0x12#8, 0x34#8] ++ List.replicate 50 0#8 }
def passes0 (f : Frame) : Dev := { slices := [(3, { passes := [f] })] }

theorem witness_PassesAndRecirculation :
    ({} : Dev).mainUp = true ∧ ((({} : Dev).advance 0).slice 3).passes = [] ∧
      (((passes0 fr).advance 0).slice 3).passes = [fr] ∧
      ((passes0 { fr with failed := true }).advance 0 |>.slice 3).passes = [{ fr with failed := true }] ∧
      (fr.parse {}).1.malformed = false ∧ (fr.parse {}).1.deep = false ∧
      ({ wake := { off := 8 } } : Dev).wake.off.testBit 3 = true ∧ bitOf ({} : Dev).wake.off 3 = false ∧
      ({ slices := [(3, { rqOut := [fr] })] } : Dev).slice 3 = { rqOut := [fr] } ∧
      ({ slices := [(3, { rqBack := [fr] })] } : Dev).slice 3 = { rqBack := [fr] } ∧
      ({ slices := [(3, { rqOut := [fr] })] } : Dev).editOut fr = ({ slices := [(3, { rqOut := [fr] })] }, some fr.data) := by decide

/-- A policer that runs and one that does not. -/
def pol0 : Dev := { gen := { pcl := { locs := [(locKey 7 2, [{ data := [1] }])] } } }
theorem witness_PassesAndRecirculation_police : pol0.polRuns 2 = true ∧ ({} : Dev).polRuns 2 = false := by decide

def busyNode : Dev := W [(Reg.TMG_NODE_STAT.BUSY, 1)]

theorem witness_BucketsAndNodeCommands :
    ({} : Dev).mainUp = true ∧ ({} : Dev).unit 14 = true ∧ bktNamed 2 16384 = none ∧ (bktNamed 2 16383).isSome = true ∧
      bktNamed 7 0 = none ∧ (bktNamed 0 65535).isSome = true ∧ busyNode.fld Reg.TMG_NODE_STAT.BUSY ≠ 0 ∧
      ({} : Dev).fld Reg.TMG_NODE_STAT.BUSY = 0 ∧
      ((({} : Dev).setQueue 9 { ondie := [fr] }).queue 9).ondie ++ ((({} : Dev).setQueue 9 { ondie := [fr] }).queue 9).siding ≠ [] := by
  decide

def spilled : Dev := { ({} : Dev).setQueue 9 { siding := [{ fr with pool := .siding, cells := 1 }], spill := true } with
                       tm := { queues := [(9, { siding := [{ fr with pool := .siding, cells := 1 }], spill := true })], sidingOn := true }
                       gen := { tmg := { locs := [(locKey 5 0, [{ data := [6, 0, 262144, 0, 4096] }])] } } }

theorem witness_BufferAndSiding :
    ({} : Dev).mainUp = true ∧ ({} : Dev).unit 14 = true ∧ ({} : Dev).sidingHere = true ∧ ({} : Dev).tm.sidingOn = false ∧
      spilled.tm.sidingOn = true ∧ spilled.spilling = true ∧ ({} : Dev).spilling = false ∧
      bits (0x8000000#32 : Word).toNat 27 1 = 1 ∧ bits (0x7FFFFFF#32 : Word).toNat 27 1 = 0 ∧
      (({} : Dev).queue 9).siding = [] ∧ (spilled.queue 9).spill = true ∧
      (spilled.queue 9).siding = [{ fr with pool := .siding, cells := 1 }] ∧
      (spilled.queue 9).cells < cellsOf (spilled.admCfg (spilled.profOf 9) 4) ∧ 1024 ≤ spilled.sharedFree ∧
      (9#16 : BitVec 16).toNat < 32768 ∧ ((spilled.queue 9).siding.take 1).length ≠ 0 ∧ ({} : Dev).coachHere = true := by decide

/-! ### Subscriber ports and the time base -/

/-- Lane 0 in mode 3, in block lock; and port 0 up, with a frame in transmission and one that waits. -/
def lane0 : Dev := W [(Reg.SM_LANE_CTRL.MODE 0, 3), (Reg.SM_LANE_CTRL.LANE_EN 0, 1), (Reg.SL_STAT.SYNC 0, 1)]
def port0 (x : Mac) : Dev := (lane0.put (Reg.SM_PORT_STAT.LINK 0 0) 1).setMac 0 x
def txf : TxFrame := { data := fr.data }

/-- A frame with its FCS. -/
def withFcs (b : List Byte) : List Byte := b ++ fcs b

theorem witness_LanesLinkAndReception :
    ({} : Dev).mainUp = true ∧ ({} : Dev).slHere (111 : Fin 112) = true ∧ ({} : Dev).fld (Reg.SM_LANE_CTRL.LANE_EN 0) = 0 ∧
      lane0.fld (Reg.SM_LANE_CTRL.LANE_EN 0) ≠ 0 ∧ (2#32 : Word).toNat % 8 ≠ lane0.laneMode 0 ∧ lane0.portShouldUp 0 0 = true ∧
      lane0.fld (Reg.SM_PORT_STAT.LINK 0 0) = 0 ∧ (({} : Dev).put (Reg.SM_PORT_STAT.LINK 0 0) 1).portShouldUp 0 0 = false ∧
      (port0 { tx := some txf }).fld (Reg.SM_PORT_STAT.LINK 0 0) ≠ 0 ∧
      ((port0 { tx := some txf }).put (Reg.SL_STAT.SYNC 0) 0).portShouldUp 0 0 = false ∧ (port0 {} |>.mac 0).tx = none ∧
      (lane0.put (Reg.SM_LANE_CTRL.MODE 0) 4).laneMode 0 = 4 ∧ lane0.on (Reg.SL_STAT.SYNC 0) = true ∧ lane0.laneMode 0 ≠ 4 ∧
      lane0.laneMode 0 ≠ 5 ∧ (port0 {}).portShouldUp 0 0 = (port0 {}).portUp 0 0 ∧ (port0 {}).portUp 0 0 = true ∧
      lane0.slHere 0 = true ∧ ({ chip := { sl3 := 0 } } : Dev).slHere 111 = false ∧
      (lane0.put (Reg.SM_LANE_CTRL.MODE 0) 5 |>.put (Reg.SL_STAT.SYNC 0) 0).on (Reg.SL_STAT.SYNC 0) = false := by decide

theorem witness_LanesLinkAndReception_frame :
    ((port0 {}).put (Reg.SM_PORT_CTRL.RX_EN 0 0) 1 |>.advance 0).portUp 0 0 = true ∧
      ((port0 {}).put (Reg.SM_PORT_CTRL.RX_EN 0 0) 1 |>.advance 0).on (Reg.SM_PORT_CTRL.RX_EN 0 0) = true ∧
      ((port0 {}).put (Reg.SM_PORT_CTRL.RX_EN 0 0) 1 |>.advance 0).slHere 0 = true ∧ (lane0.advance 0).portUp 0 0 = false ∧
      (let b := withFcs (fr.data.take 60)
       fcs (b.take (b.length - 4)) = b.drop (b.length - 4) ∧ b.length = 64 ∧ beAt (b.take (b.length - 4)) 12 2 ≠ 0x8808 ∧
         b.length ≤ lane0.maxFrame 0 0) ∧
      (let b := withFcs (fr.data.take 59); fcs (b.take (b.length - 4)) = b.drop (b.length - 4) ∧ b.length < 64) ∧
      (let b := withFcs (fr.data ++ [0#8]); fcs (b.take (b.length - 4)) = b.drop (b.length - 4) ∧ 64 ≤ b.length ∧
         ((lane0.put (Reg.SM_PORT_CTRL.MAX_FRAME 0 0) 64).advance 0).maxFrame 0 0 < b.length) ∧
      beAt (pauseFrame 0x020000000001 7) 12 2 = 0x8808 ∧ (lane0.put (Reg.SL_STAT.RX_ASLEEP 0) 1).on (Reg.SL_STAT.RX_ASLEEP 0) = true := by
  decide

/-- The elastic store, half full: an idle block deleted, one inserted, and overflow and underflow inside a frame. -/
theorem witness_LanesLinkAndReception_frame_store :
    (lane0.mac 0).fill = 32 ∧ (modeCoding (lane0.laneMode 0)).idleBytes = 8 ∧ (lane0.rateMatch 0 0 { gap := 2, drift := 9 }).2 = false ∧
      ((lane0.rateMatch 0 0 { gap := 2, drift := 9 }).1.mac 0).fill = 33 ∧
      ((lane0.rateMatch 0 0 { gap := 1, drift := 9 }).1.mac 0).fill = 41 ∧
      ((lane0.rateMatch 0 0 { gap := 2, drift := -9 }).1.mac 0).fill = 31 ∧
      (lane0.rateMatch 0 0 { inside := 32 }).2 = false ∧ (lane0.rateMatch 0 0 { inside := 33 }).2 = true ∧
      (lane0.rateMatch 0 0 { inside := -31 }).2 = false ∧ (lane0.rateMatch 0 0 { inside := -32 }).2 = true := by decide

def fc0 : Dev := (port0 { above := 256, tx := some txf }).put (Reg.SM_PORT_CTRL.FC_MODE 0 0) 1

theorem witness_FlowControlAndTransmission :
    (members ((({} : Dev).advance 0).mac 0).above 9).filter (· ∈ (({} : Dev).advance 0).fcWatched 0 0) = [] ∧
      (members ((fc0.advance 0).mac 0).above 9).filter (· ∈ (fc0.advance 0).fcWatched 0 0) = [8] ∧ (fc0.advance 0).fcMode 0 0 = 1 ∧
      (fc0.advance 0).portUp 0 0 = true ∧ ((fc0.advance 0).mac 0).tx ≠ none ∧
      beAt (pauseFrame 0x020000000001 7) 0 6 = 0x0180C2000001 ∧ beAt (pauseFrame 0x020000000001 7) 14 2 = 1 ∧
      ({} : Dev).fcMode 0 0 = 0 ∧ (port0 { above := 256 } |>.put (Reg.SM_PORT_CTRL.FC_MODE 0 0) 1 |>.advance 0 |>.mac 0).tx = none ∧
      (fc0.put (Reg.SL_STAT.TX_ASLEEP 0) 1 |>.advance 0).on (Reg.SL_STAT.TX_ASLEEP 0) = true ∧ ((fc0.advance 0).mac 0).due = [] ∧
      (let b := pfcFrame 0x020000000001 2 (fun i => if i = 1 then 7 else 0)
       beAt b 0 6 = 0x0180C2000001 ∧ beAt b 14 2 = 0x101 ∧ bitOf (beAt b 16 2) 1 = true ∧ bitOf (beAt b 16 2) 0 = false ∧
         beAt b 20 2 = 7) ∧
      (lane0.put (Reg.SM_PORT_CTRL.FC_MODE 0 0) 2).fcMode 0 0 = 2 ∧ bitOf (lane0.put (Reg.SM_FC_CTRL.PFC_RX_EN 0 0) 2 |>.fld (Reg.SM_FC_CTRL.PFC_RX_EN 0 0)) 1 = true ∧
      beAt (pauseFrame 0x020000000001 7) 16 2 = 7 := by decide

def txOn (x : Mac) : Dev := (port0 x).put (Reg.SM_PORT_CTRL.TX_EN 0 0) 1
def queued : Dev := ({ txOn {} with gen := { tmg := { locs := [(locKey 3 0, [{ data := [1, 0, 0] }])] } } } : Dev).setQueue 65536 { ondie := [{ fr with cells := 1 }] }

theorem witness_FlowControlAndTransmission_tx :
    (({} : Dev).advance 0).on (Reg.SM_PORT_CTRL.TX_EN 0 0) = false ∧
      ((txOn { waiting := some (fr, 65536, 400000) }).advance 0).portUp 0 0 = true ∧
      ((txOn { waiting := some (fr, 65536, 400000) }).advance 0 |>.mac 0).waiting = some (fr, 65536, 400000) ∧
      ((txOn { waiting := some (fr, 65536, 400000) }).advance 0).nowPs ≤ 400000 ∧
      fr.failed = false ∧ fr.edit = none ∧ fr.tsReq = 0 ∧ min (max 1 (((txOn {}).advance 0).fld (Reg.SM_CT.CT_UNITS 0 0)) * 256) fr.fullLen ≤ fr.held ∧
      { fr with total := 1000 }.held < min (max 1 (((txOn {}).advance 0).fld (Reg.SM_CT.CT_UNITS 0 0)) * 256)
        { fr with total := 1000 }.fullLen ∧
      ({ fr with failed := true } : Frame).failed = true ∧
      ((txOn { due := [[1#8]], tx := some txf }).advance 0 |>.mac 0).due = [[1#8]] ∧
      ((txOn { tx := some { txf with f := { fr with failed := true } } }).advance 0 |>.mac 0).tx =
        some { txf with f := { fr with failed := true } } ∧ ({ txf with ctl := true } : TxFrame).ctl = true ∧
      (let d := (txOn { waiting := some (fr, 65536, 400000), free := 500000 }).put (Reg.SM_PORT_STAT.LINK 0 0) 1 |>.advance 0
       (d.mac 0).free = 500000 ∧ d.mayStart 0 500000 fr = true) ∧
      (let d := (txOn { waiting := some (fr, 65536, 400000), free := 500000, pause := [(8, 600000)] }).put (Reg.SM_PORT_CTRL.FC_MODE 0 0) 1
       (d.advance 0).mayStart 0 500000 fr = false) ∧
      ((({} : Dev).advance 0).editOut fr).2 = some fr.data ∧
      ((txOn {}).advance 0).on (Reg.SL_STAT.TX_ASLEEP 0) = false ∧ ((txOn {}).advance 0).on (Reg.SM_PORT_STAT.LPI_TX 0 0) = false ∧
      ((txOn { tx := some txf }).advance 0 |>.mac 0).tx = some txf ∧ txf.f.failed = false ∧
      (let p : Dev := ((txOn {}).advance 0); (((p.purge 0 (p.portTest 0 400000) (Dev.portRemoved 0) 64).take 0 (p.portTest 0 400000)).2 = none)) ∧
      (({} : Dev).advance 0).slHere 0 = true ∧ (({ chip := { sl3 := 0 } } : Dev).advance 0).slHere 111 = false := by decide

theorem witness_FlowControlAndTransmission_tx_take :
    (let p : Dev := queued.advance 0; ((p.purge 0 (p.portTest 0 400000) (Dev.portRemoved 0) 64).take 0 (p.portTest 0 400000)).2.isSome) =
      true := by decide +kernel

/-- The watched counts whose refresh is due. -/
def refreshDue (d : Dev) : List Nat :=
  let d0 := d.advance 0
  (d0.fcWatched 0 0).filter (fun i => bitOf (d0.mac 0).above i && decide (Tbl.get (d0.mac 0).refresh i d0.nowPs ≤ d0.nowPs))

/-- A refresh that is due, not due, and due on a port that is down or idle. -/
theorem witness_FlowControlAndTransmission_refresh :
    refreshDue fc0 = [8] ∧ refreshDue {} = [] ∧
      refreshDue ((port0 { above := 256, refresh := [(8, 1000000)] }).put (Reg.SM_PORT_CTRL.FC_MODE 0 0) 1) = [] ∧
      refreshDue (fc0.put (Reg.SM_PORT_STAT.LINK 0 0) 0) = [8] ∧ ((fc0.put (Reg.SM_PORT_STAT.LINK 0 0) 0).advance 0).portUp 0 0 = false ∧
      (let d := ((port0 { above := 256 }).put (Reg.SM_PORT_CTRL.FC_MODE 0 0) 1)
       refreshDue d = [8] ∧ ((d.advance 0).mac 0).tx = none ∧ ((d.advance 0).mac 0).due = [] ∧ (d.advance 0).on (Reg.SL_STAT.TX_ASLEEP 0) = false) := by
  decide

/-- A slice off, a port down that discards, a frame too long after its edit, and frames cut or gated in transmission. -/
theorem witness_FlowControlAndTransmission_more :
    (({ txOn {} with wake := { off := 1 } } : Dev).advance 0).wake.off.testBit 0 = true ∧ sliceOf 0 = 0 ∧
      (let d := (((txOn {}).put (Reg.SM_PORT_STAT.LINK 0 0) 0).put (Reg.SM_PORT_CTRL.LINK_DOWN_ACT 0 0) 1).advance 0
       d.portUp 0 0 = false ∧ d.on (Reg.SM_PORT_CTRL.LINK_DOWN_ACT 0 0) = true ∧ d.on (Reg.SM_PORT_CTRL.TX_EN 0 0) = true ∧
         (d.take 0 (fun _ => .send)).2 = none) ∧
      (let f := { fr with total := 16010, edit := some 0 }
       (({} : Dev).editOut f).2 = none) ∧
      ({ txf with cut := true } : TxFrame).cut = true ∧ ({ txf with shut := true } : TxFrame).shut = true ∧
      (let f := { fr with total := 68 }
       f.total ≠ 0 ∧ min (max 1 (((txOn {}).advance 0).fld (Reg.SM_CT.CT_UNITS 0 0)) * 256) (((txOn {}).advance 0).editedF f).fullLen ≤ f.held ∧
         ((({} : Dev).advance 0).editOut f).2.isSome = true) ∧
      ({} : Dev).tim.hist = [] := by decide

theorem witness_RateChangesAreContinuous : ({} : Dev).mainUp = true ∧ ({} : Dev).unit 15 = true := by decide

theorem witness_StepsAndTimeReads :
    (({} : Dev).advance 0).time + (({} : Dev).put Reg.TIM_STEP_SEC_HI.STEP 0x8000 |>.advance 0).stepValue < 0 ∧
      (∀ x, (({} : Dev).advance 0).tim.stepped = some x → x.ctr ≠ (({} : Dev).advance 0).tim.ctr) ∧
      (({ tim := { stepped := some {} } } : Dev).advance 0).tim.stepped = some {} ∧
      ({} : SampleStep).ctr = (({ tim := { stepped := some {} } } : Dev).advance 0).tim.ctr ∧
      ¬ ((({} : Dev).advance 0).time + (({} : Dev).advance 0).stepValue < 0 ∨
        2 ^ 48 * secU ≤ (({} : Dev).advance 0).time + (({} : Dev).advance 0).stepValue) := by
  refine ⟨by decide, ?_, by decide, by decide, by decide⟩
  exact fun x h => absurd (h.symm.trans (by decide : _ = none)) (by simp)

/-- A sample stepped in the cycle of a STEP_GO: the step asked for leaves the range, or does not. -/
def stepped0 (hi : Nat) : Dev := ({ tim := { stepped := some {} } } : Dev).put Reg.TIM_STEP_SEC_HI.STEP hi |>.advance 0

theorem witness_StepsAndTimeReads_undo :
    (let far := fun (a : Int) => a < 0 ∨ 2 ^ 48 * secU ≤ a
     ((stepped0 0x8000).tim.stepped = some {} ∧ ({} : SampleStep).ctr = (stepped0 0x8000).tim.ctr) ∧
       far (((stepped0 0x8000).sampleUndo {}).time + (stepped0 0x8000).stepValue) ∧
       ¬ far (((stepped0 0).sampleUndo {}).time + (stepped0 0).stepValue)) ∧
      Tbl.wf ({} : Dev).regs = true ∧ Tbl.wf ({} : Dev).lines = true := by decide

def tod0 : Dev := { (sync0.put Reg.LN_PROT_STAT.TREF_NONE 0) with tim := { tod := some (0, 5) } }
def slew0 : Dev := ({ tim := { pend := 1 } } : Dev).reRate

theorem witness_TimeOfDaySamples :
    ({} : Dev).anyLine = true ∧ tod0.tref = some 0 ∧ tod0.framer 0 = 2 ∧ sfcAhead 1 (tod0.sfc 0) = true ∧
      sfcAhead 0 (tod0.sfc 0) = false ∧ rx0.framer 0 ≠ 2 ∧ ({} : Dev).tref = none ∧
      (({} : Dev).advance 0).tim.tod = none ∧ (tod0.advance 0).tim.tod = some (0, 5) ∧ (tod0.advance 0).tref = some ((0 : Fin 4) : Nat) ∧
      (tod0.advance 0).framer (0 : Fin 4) = 2 ∧ (tod0.advance 0).sfc (0 : Fin 4) = 0 ∧ (({} : Dev).advance 0).tim.cap = none ∧
      (({ tim := { cap := some 5 } } : Dev).advance 0).tim.cap = some 5 ∧ (({} : Dev).advance 0).src ≠ 1 ∧
      ((({ tim := { cap := some 5 } } : Dev).put Reg.TIM_CTRL.SRC 1).advance 0).src = 1 ∧
      ((({ tim := { cap := some 5 } } : Dev).put Reg.TIM_CTRL.ARM_STEP 0).advance 0).on Reg.TIM_CTRL.ARM_STEP = false ∧ (slew0.advance 0).tim.pend ≠ 0 ∧
      (slew0.advance 0).tim.pend.natAbs < (slew0.advance 0).slewUnit.natAbs ∧ (({} : Dev).advance 0).tim.pend = 0 := by decide

/-- A captured sample in SRC 1: small, too big, in the cycle of a STEP_GO, and with a step armed in and out of range. -/
def cap0 (e : Int) (arm : Nat) : Dev :=
  ({ tim := { cap := some e } } : Dev).put Reg.TIM_CTRL.SRC 1 |>.put Reg.TIM_CTRL.ARM_STEP arm |>.advance 0
theorem witness_TimeOfDaySamples_evaluate :
    (cap0 5 0).src = 1 ∧ (cap0 5 0).on Reg.TIM_CTRL.ARM_STEP = false ∧ (cap0 5 0).tim.stepGo ≠ some (cap0 5 0).tim.ctr ∧
      ¬ max 1 ((cap0 5 0).fld Reg.TIM_MAX_SLEW.MAX_SLEW) * 1000000 * nsU.toNat < (5 : Int).natAbs ∧
      max 1 ((cap0 secU 0).fld Reg.TIM_MAX_SLEW.MAX_SLEW) * 1000000 * nsU.toNat < (secU : Int).natAbs ∧
      ({ cap0 5 0 with tim := { cap := some 5, stepGo := some 0 } } : Dev).tim.stepGo = some ({ cap0 5 0 with tim := { cap := some 5, stepGo := some 0 } } : Dev).tim.ctr ∧
      (cap0 5 1).on Reg.TIM_CTRL.ARM_STEP = true ∧ ¬ ((cap0 5 1).time + 5 < 0 ∨ 2 ^ 48 * secU ≤ (cap0 5 1).time + 5) ∧
      (cap0 (-5) 1).time + -5 < 0 := by decide

/-- A pending correction worked off within the time that passes. -/
theorem witness_TimeOfDaySamples_worked :
    (let d := ({ tim := { pend := slew0.slewUnit } } : Dev).reRate
     d.tim.pend ≠ 0 ∧ (d.advance 1).tim.pend = 0 ∧ (d.advance 0).slewUnit.natAbs ≤ (d.advance 0).tim.pend.natAbs) := by decide

/-- The PLL on a riser port's clock, and a pulse due. -/
def pllR (st : Nat) : Dev := W [(Reg.CHIPCAP_BLOCK_RST.RP, 0), (Reg.TIM_PLL_CTRL.REF, 1), (Reg.RP_PHY_STAT.CLK_OK 0, 1), (Reg.TIM_PLL_STAT.STATE, st)]
def pps0 : Dev := (({ tim := { ctr := 1, off := secU - 400 * psU } } : Dev).put Reg.TIM_CTRL.PPS_OUT_EN 1).put Reg.TIM_STAT.TIME_SET 1

theorem witness_PllAndPps_riser :
    (pllR pllHold).pllRef = 1 ∧ (pllR pllHold).refOk = true ∧ (pllR pllHold).fld Reg.TIM_PLL_STAT.STATE = pllHold ∧
      (let d0 := pps0.advance 0
       let before := d0.viewAt (d0.tim.ctr - 1)
       let q := fun (t : Int) => t / secU
       d0.on Reg.TIM_CTRL.PPS_OUT_EN = true ∧ d0.on Reg.TIM_STAT.TIME_SET = true ∧ d0.fld Reg.TIM_PPS_CTRL.OUT_OFS = 0 ∧
         before.epoch = d0.epoch ∧ q (before.at_ ((d0.nowPs - 800 : Nat) : Int)) ≠ q d0.time) ∧
      (({} : Dev).advance 0).on Reg.TIM_CTRL.PPS_OUT_EN = false ∧ ({} : Dev).tim.hist = [] := by decide

/-- REF 2, in holdover and locked; and the writes of REF 2 and 3. -/
theorem witness_PllAndPps_ref2 :
    ((pllR pllHold).put Reg.TIM_PLL_CTRL.REF 2).pllRef = 2 ∧ ((pllR pllHold).put Reg.TIM_PLL_CTRL.REF 2).fld Reg.TIM_PLL_STAT.STATE = pllHold ∧
      ((pllR pllLocked).put Reg.TIM_PLL_CTRL.REF 2).pllRef < 3 ∧ ((pllR pllLocked).put Reg.TIM_PLL_CTRL.REF 2).refOk = false ∧
      (2#32 : Word).toNat % 4 = 2 ∧ (7#32 : Word).toNat % 4 = 3 := by decide

def pll (st : Nat) : Dev := sync0.put Reg.LN_PROT_STAT.TREF_NONE 0 |>.put (defFld 0 dLOL) 0 |>.put Reg.TIM_PLL_CTRL.REF 0
  |>.put Reg.TIM_PLL_STAT.STATE st

theorem witness_PllAndPps :
    (pll pllFree).refOk = true ∧ (pll pllFree).fld Reg.TIM_PLL_STAT.STATE = pllFree ∧ (pll pllHold).refOk = true ∧
      (pll pllHold).fld Reg.TIM_PLL_STAT.STATE = pllHold ∧ (pll pllHold).pllRef = 0 ∧ (pll pllHold).tref = some 0 ∧ (pll pllLocking).fld Reg.TIM_PLL_STAT.STATE = pllLocking ∧
      (pll pllLocking).refOk = true ∧ ({} : Dev).refOk = false ∧ ({} : Dev).fld Reg.TIM_PLL_STAT.STATE ≠ pllLocking ∧
      ((pll pllLocked).put (defFld 0 dLOL) 1).pllRef < 3 ∧ ((pll pllLocked).put (defFld 0 dLOL) 1).refOk = false ∧
      ((pll pllLocked).put Reg.TIM_PLL_CTRL.REF 3).pllRef = 3 ∧ (3#32 : Word).toNat % 4 = 3 ∧
      (({} : Dev).advance 0).on Reg.TIM_CTRL.PPS_IN_EN = false ∧
      (((W [(Reg.TIM_CTRL.PPS_IN_EN, 1)]).advance 0).on Reg.TIM_CTRL.PPS_IN_EN = true) ∧
      true ≠ ((W [(Reg.TIM_CTRL.PPS_IN_EN, 1)]).advance 0).on Reg.TIM_CTRL.PPS_IN_POL ∧
      ((W [(Reg.TIM_CTRL.PPS_IN_EN, 1)]).advance 0).src ≠ 3 := by decide

/-! ### Lanes, risers and sleep -/

/-- Riser port 0 out of its unit reset, in a state of its bring-up. -/
def ph (st : Nat) : Dev := W [(Reg.CHIPCAP_BLOCK_RST.RP, 0), (Reg.RP_PHY_STAT.STATE 0, st)]
def phClkOk (st : Nat) : Dev := (ph st).put (Reg.RP_PHY_STAT.CLK_OK 0) 1
def phAck : Dev := (ph phPage).setPhy 0 { ack := true }

theorem witness_SerialLanes :
    ({} : Dev).mainUp = true ∧ ({} : Dev).laneHere (.sub 111) = true ∧ (ph 0).laneHere (.riser 0 1) = true ∧
      ({} : Dev).laneHere (.riser 0 1) = false ∧ true ≠ ({} : Dev).on (Reg.SL_STAT.SYNC 111) ∧ ({} : Dev).on (Reg.SL_STAT.HI_BER 111) = false ∧
      2 ≤ (W [(Reg.SL_RXEQ.ADAPT 0, 2)]).fld (laneFld Reg.SL_RXEQ.ADAPT Reg.RP_LANE_RXEQ.ADAPT (.sub 0)) ∧
      (W [(Reg.SL_RXEQ.ADAPT 0, 1)]).fld (laneFld Reg.SL_RXEQ.ADAPT Reg.RP_LANE_RXEQ.ADAPT (.sub 0)) < 2 ∧
      (let v := (0x3F0#32 : Word).toNat; bits v 0 4 + bits v 4 6 + bits v 10 5 ≤ 63) ∧
      (let v := (0x3F1#32 : Word).toNat; 63 < bits v 0 4 + bits v 4 6 + bits v 10 5) ∧ bits (0x40000#32 : Word).toNat 18 1 = 1 ∧
      (({} : Dev).setScan (.sub 0) true).scans (.sub 0) = true ∧ ({} : Dev).scans (.sub 0) = false ∧
      (W [(Reg.SL_PAT_CTRL.RX_PAT 0, 1)]).rxPat (.sub 0) ≠ 0 ∧ ({} : Dev).rxPat (.sub 0) = 0 ∧
      (W [(Reg.SL_STAT.PAT_SYNC 0, 1)]).on (patSync (.sub 0)) = true ∧ ({} : Dev).on (patSync (.sub 0)) = false ∧
      ({ chip := { sl3 := 0 } } : Dev).laneHere (.sub 111) = false := by decide

/-- A receiver that adapts, one that has finished, and one that the partner's energy wakes. -/
def adapting (k : Nat) : Dev := W [(Reg.SL_RXEQ.ADAPT 0, k), (Reg.SL_STAT.CDR_LOCK 0, 1)]
def lpiAsleep : Dev := W [(Reg.SL_STAT.RX_ASLEEP 0, 1), (Reg.SM_PORT_STAT.LPI_RX 0 0, 1), (Reg.SL_STAT.SIGNAL 0, 1)]
theorem witness_SerialLanes_adapt :
    (let f := laneFld Reg.SL_RXEQ_STAT.ADAPT_DONE Reg.RP_LANE_RXEQ_STAT.ADAPT_DONE (.sub 0)
     (adapting 2).on (Reg.SL_STAT.CDR_LOCK 0) = true ∧ (adapting 2).on f = false ∧ ((adapting 2).put f 1).on f = true ∧
       (adapting 1).fld (Reg.SL_RXEQ.ADAPT 0) = 1) ∧
      lpiAsleep.on (Reg.SL_STAT.RX_ASLEEP 0) = true ∧ lpiAsleep.on (Reg.SM_PORT_STAT.LPI_RX 0 0) = true ∧
      lpiAsleep.on (Reg.SL_SLEEP_CTRL.RX_FORCE 0) = false ∧ lpiAsleep.wake.queue.any (fun q => q.1 == 112) = false ∧
      lpiAsleep.dirHere (.subRx 0) = true ∧ lpiAsleep.asleep (.subRx 0) = true ∧ lpiAsleep.on (Reg.SL_STAT.SIGNAL 0) = true := by decide

def walk (x : Lane) : Dev := (W [(ladderEntry 0 0, 3), (ladderEntry 1 0, 6)]).setLane 0 x

theorem witness_LadderWalk :
    ({} : Dev).mainUp = true ∧ ({} : Dev).slHere 0 = true ∧ ({} : Dev).on (Reg.SL_LADDER.AUTO 0) = false ∧
      ({} : Dev).fld (Reg.SM_LANE_CTRL.LANE_EN 0) = 0 ∧ lane0.fld (Reg.SM_LANE_CTRL.LANE_EN 0) ≠ 0 ∧ bits (0x1000#32 : Word).toNat 12 1 = 1 ∧
      bits (0x0FFF#32 : Word).toNat 12 1 = 0 ∧ ((walk { walk := some 0 }).lane 0).walk = some 0 ∧ (({} : Dev).lane 0).walk = none ∧
      (W [(ladderEntry 0 0, 0)]).fld (ladderEntry 0 0) = 0 ∧ (walk {}).fld (ladderEntry 0 0) ≠ 0 ∧
      ((walk {}).put (Reg.SL_LADDER.APPLY 0) 0).on (Reg.SL_LADDER.APPLY 0) = false ∧ (walk {}).fld (ladderEntry 1 0) ≠ 0 ∧ ¬ ((3 : Nat) < 3) ∧
      topLocked (setBit ((walk {}).fld (Reg.SL_LADDER_STAT.LOCKED 0)) 3 false % 16 % 2 ^ 4) = none ∧
      topLocked (setBit ((walk {}).fld (Reg.SL_LADDER_STAT.LOCKED 0)) 3 true % 16 % 2 ^ 4) = some 3 ∧
      ((walk { walk := some 0, confirming := true }).lane 0).confirming = true ∧
      ({ chip := { sl3 := 0 } } : Dev).slHere 111 = false := by decide

def page : List Byte := let h := [0xC3#8, 0xA5#8, 0x17#8, 0x80#8, 0#8, 0#8]; h ++ beBytes (crc16.sum h) 2

theorem witness_RiserBringUp :
    (ph 0).mainUp = true ∧ (ph 0).rpUp 0 = true ∧ (ph 0).clkOk 0 = false ∧ (phClkOk phUp).clkOk 0 = true ∧
      ((phClkOk phUp).phy 0).suspended = false ∧ ((ph phSwitch).setPhy 0 { suspended := true } |>.phy 0).suspended = true ∧
      (ph phSwitch).phyState 0 = phSwitch ∧ (ph phClk).phyState 0 = phClk ∧ (ph phClk).phyPattern 0 = false ∧
      (ph phClk).on (Reg.RP_PHY_CTRL.FORCE 0) = false ∧ (ph phPage).phyState 0 = phPage ∧ pageOk page = true ∧ pageOk [] = false ∧
      (phAck.phy 0).ack = true ∧ ((ph phPage).phy 0).ack = false ∧
      bitOf (((phAck.put (Reg.RP_PHY_CTRL.RATES 0) 7).offered 0) &&& ((phAck.put (Reg.RP_PHY_STAT.PEER_RATES 0) 7).fld (Reg.RP_PHY_STAT.PEER_RATES 0))) 2
        = true ∧
      bitOf (phAck.offered 0 &&& phAck.fld (Reg.RP_PHY_STAT.PEER_RATES 0)) 2 = false ∧
      bitOf (phAck.offered 0 &&& phAck.fld (Reg.RP_PHY_STAT.PEER_RATES 0)) 1 = false ∧
      (phClkOk phSwitch).clkOk 0 = true ∧ (phClkOk phTrain).phyState 0 = phTrain ∧ (-32 : Int) ≤ 32 ∧ (ph phUp).phyState 0 = phUp ∧
      (ph phFail).phyState 0 = phFail ∧ ({} : Dev).rpHere 0 = true ∧ ({} : Dev).rpUp 0 = false := by decide

/-- What a lane carries while its partner sends that page over and over. -/
def pageLine : List Bool := (({} : LaneCode).sendBits (bytesBits (page ++ page ++ page))).2

theorem witness_RiserBringUp_page :
    (ph phPage).pageOn 0 { l0 := pageLine, l1 := pageLine } = some page ∧ (ph phPage).pageOn 0 { l0 := pageLine, l1 := [] } = none ∧
      (ph phPage).on (Reg.RP_PHY_STAT.TX_ASLEEP 0) = false ∧ (ph phPage).phyPattern 0 = false ∧ (ph phPage).on (Reg.RP_PHY_CTRL.FORCE 0) = false := by
  decide +kernel

/-- The edges of ±1 % of the forwarded clock at each rate, both lanes locked for training, forcing, a pattern, and a common rate 1. -/
theorem witness_RiserBringUp_clock :
    clockGood 0 193360 = true ∧ clockGood 0 193359 = false ∧ clockGood 0 197265 = true ∧ clockGood 0 197266 = false ∧
      (((phClkOk phTrain).put (Reg.RP_LANE_STAT.CDR_LOCK 0 0) 1).put (Reg.RP_LANE_STAT.CDR_LOCK 0 1) 1).lanesLocked 0 = true ∧
      (phClkOk phTrain).lanesLocked 0 = false ∧ ¬ (33 : Int) ≤ 32 ∧
      ((ph phClk).put (Reg.RP_PHY_CTRL.FORCE 0) 1).on (Reg.RP_PHY_CTRL.FORCE 0) = true ∧
      ((ph phClk).put (Reg.RP_LANE_PAT_CTRL.TX_PAT 0 0) 1).phyPattern 0 = true ∧
      (let d := (phAck.put (Reg.RP_PHY_CTRL.RATES 0) 2).put (Reg.RP_PHY_STAT.PEER_RATES 0) 7
       bitOf (d.offered 0 &&& d.fld (Reg.RP_PHY_STAT.PEER_RATES 0)) 2 = false ∧
         bitOf (d.offered 0 &&& d.fld (Reg.RP_PHY_STAT.PEER_RATES 0)) 1 = true) := by decide

def sleeper : Dev := ph phUp |>.put (Reg.RP_PHY_SLEEP.TX_SLEEP 0) 1
def asleep : Dev := (ph phUp).putAll (asleepFlds (.riserTx 0)) 1
def waits (q : List (Nat × Nat)) : Dev := { asleep with wake := { queue := q } }
def gained (e : Dev) : WakeSt := (List.range 4).foldl (fun (w : WakeSt) b =>
  w.setLevel b (min (e.wakeDepth b) (w.level b + e.fld (Reg.PWR_WAKE_BKT.RATE b)))) e.wake

theorem witness_SleepAndWake :
    ({} : Dev).cremaUp = true ∧ ({} : Dev).mainUp = true ∧ sleeper.dirHere (.riserTx 0) = true ∧ sleeper.sleepCond (.riserTx 0) = true ∧
      sleeper.asleep (.riserTx 0) = false ∧ asleep.asleep (.riserTx 0) = true ∧ asleep.sleepCond (.riserTx 0) = false ∧
      asleep.wake.queue.any (fun q => q.1 == 224) = false ∧ (waits [(224, 0)]).wake.queue.any (fun q => q.1 == 224) = true ∧
      (WakeSrc.lane (.riserTx 0)).num ∈ ({ wake := { granted := [224] } } : Dev).wake.granted ∧
      (WakeSrc.lane (.riserTx 0)).num ∉ asleep.wake.granted ∧
      232 + ((1 : Fin 4) : Nat) ∈ ({ wake := { granted := [233] } } : Dev).wake.granted ∧ bitOf (({} : Dev).fld Reg.PWR_GATE.SLICE) 1 = false ∧
      ({} : Dev).wake.queue = [] ∧ (waits [(224, 600)]).wake.queue = [(224, 600)] ∧ (waits [(224, 600)]).powerOn = true ∧
      (∀ b < 4, (waits [(224, 600)]).wakeStep 224 b ≤ (gained (waits [(224, 600)])).level b) ∧
      (let e : Dev := { waits [(224, 600)] with wake := { queue := [(224, 600)], core := 0, sl := 0, slh := 0, ddr := 0 } }
       ∃ b : Fin 4, (gained e).level b < e.wakeStep 224 b) := by decide

/-- A receiver asleep that energy wakes, sources granted, a queue with requests of an earlier cycle, and a machine powering down. -/
theorem witness_SleepAndWake_more :
    lpiAsleep.dirHere (.subRx 0) = true ∧ lpiAsleep.asleep (.subRx 0) = true ∧ lpiAsleep.on (Reg.SL_STAT.SIGNAL 0) = true ∧
      236 + ((1 : Fin 4) : Nat) ∈ ({ wake := { granted := [237] } } : Dev).wake.granted ∧
      (W [(Reg.PWR_GATE.SLICE, 2)]).fld Reg.PWR_GATE.SLICE ≠ 0 ∧ bitOf ((W [(Reg.PWR_GATE.SLICE, 2)]).fld Reg.PWR_GATE.SLICE) 1 = true ∧
      bitOf ({ wake := { off := 2 } } : Dev).wake.off 1 = true ∧ (W [(Reg.PWR_STAT.SEQ, sqDown)]).powerOn = false ∧
      [(5, 1), (3, 0), (7, 0)].all (fun (g : Nat × Nat) => g.1 != 4) = true ∧ wakeInsert 4 [(5, 1), (3, 0), (7, 0)] = [(5, 1), (3, 0), (4, 0), (7, 0)] ∧
      ({ chip := { sl3 := 0 } } : Dev).dirHere (.subTx 111) = false := by decide

/-! ### Riser links and the hierarchy -/

/-- Port 0 running; with a header that passes and with wagons that wait. -/
def link (al : Nat) : Dev := ((ph phUp).put (Reg.RP_LINK_CTRL.EN 0) 1).put (Reg.RP_LINK_STAT.ALIGNED 0) al
def wagon : List Byte :=
  let h := [0x10#8] ++ List.replicate 13 0#8
  h ++ beBytes (crc16.sum h) 2 ++ List.replicate 240 0#8
def passes_ (b : List Byte) : Bool := b.length == 256 && crc16.sum (b.take 14) == beAt b 14 2
def ciph (f : Nat → Fld) : Dev := (link 1).put (f 0) 1

theorem witness_RiserWagons :
    (link 1).mainUp = true ∧ (link 1).rpUp 0 = true ∧ ({} : Dev).rpUp 0 = false ∧ (link 0).linkRuns 0 = true ∧
      (link 0).fld (Reg.RP_PHY_STAT.TX_ASLEEP 0) = 0 ∧ ({} : Dev).linkRuns 0 = false ∧ ((link 0).put (Reg.RP_LINK_CTRL.DOWN_ACT 0) 0).fld (Reg.RP_LINK_CTRL.DOWN_ACT 0) = 0 ∧
      (link 0).rsrDue 0 ((link 0).wagonTx 0 {}).time = false ∧ ((link 0).rlink 0).tx = none ∧ (link 0).fld (Reg.CPH_RSR_CTRL.TX_CIPHER 0) = 0 ∧
      (link 0).fld (Reg.RP_LINK_STAT.ALIGNED 0) = 0 ∧ (ciph Reg.CPH_RSR_CTRL.TX_CIPHER).fld (Reg.CPH_RSR_CTRL.TX_CIPHER 0) ≠ 0 ∧
      (ciph Reg.CPH_RSR_CTRL.TX_CIPHER).txKeyOk 0 = false ∧ (link 1).fld (Reg.RP_LINK_STAT.ALIGNED 0) ≠ 0 ∧ passes_ wagon = true ∧
      passes_ [] = false ∧ ((link 0).rlink 0).run + 1 < max 1 (((link 0).put (Reg.RP_LINK_CTRL.ALIGN_N 0) 2).fld (Reg.RP_LINK_CTRL.ALIGN_N 0)) ∧
      max 1 (((link 0).put (Reg.RP_LINK_CTRL.ALIGN_N 0) 1).fld (Reg.RP_LINK_CTRL.ALIGN_N 0)) ≤ ((link 0).rlink 0).run + 1 ∧
      ((link 1).rlink 0).cont = none ∧ ((link 1).rlink 0).bad + 1 < max 1 (((link 1).put (Reg.RP_LINK_CTRL.LOSS_N 0) 2).fld (Reg.RP_LINK_CTRL.LOSS_N 0)) ∧
      max 1 (((link 1).put (Reg.RP_LINK_CTRL.LOSS_N 0) 1).fld (Reg.RP_LINK_CTRL.LOSS_N 0)) ≤ ((link 1).rlink 0).bad + 1 := by decide

def vrx (s : Nat) : Dev := (ciph Reg.CPH_RSR_CTRL.RX_CIPHER).put (Reg.CPH_SLOT_STAT.STATE (riserSlot 0 1 0)) s

theorem witness_RiserWagons_cipher :
    (vrx 0).fld (Reg.CPH_RSR_CTRL.RX_CIPHER 0) ≠ 0 ∧ (vrx 0).cphUp = true ∧ (vrx 0).slotState (riserSlot 0 1 (byteAt wagon 0 % 2)) ≠ slotValid ∧
      (vrx slotValid).slotState (riserSlot 0 1 (byteAt wagon 0 % 2)) = slotValid ∧
      beAt wagon 2 6 ≤ (vrx slotValid).slotCtr (riserSlot 0 1 (byteAt wagon 0 % 2)) ∧ (link 1).fld (Reg.CPH_RSR_CTRL.RX_CIPHER 0) = 0 ∧
      byteAt [0x18#8] 0 / 4 % 4 = 2 ∧ ((link 1).rlink 0).waits = [] ∧
      ((({} : Dev).setRlink 0 { waits := [{ kind := 2 }] }).rlink 0).waits = [{ kind := 2 }] ∧ ({ kind := 2 } : WagonIn).ciph = false ∧
      ({ kind := 2 } : WagonIn).ok = true ∧ ({} : WagonIn).kind ≠ 1 ∧ ({} : WagonIn).ends = [] ∧ ({ ok := false } : WagonIn).ok = false := by decide

/-- A worker with address 3, its uplink on port 0. -/
def worker3 : Dev := W [(Reg.RP_HIER_STAT.ROLE, 1), (Reg.RP_HIER_STAT.ADDR, 3), (Reg.RP_HIER_STAT.ADDR_VALID, 1)]
def rec4 (n : Nat) : Rec := { src := 3, dst := 5, body := beBytes n 4 ++ beBytes 0 8 }
def hier (x : Hier) : Dev := { hier := x }

theorem witness_ManagementRecords :
    ({} : Dev).mainUp = true ∧ (link 1).aligned 0 = true ∧ ({} : Dev).aligned 0 = false ∧ ({ loc := true } : Rec).loc = true ∧
      ({} : Dev).addrValid = true ∧ (W [(Reg.RP_HIER_STAT.ROLE, 1)]).addrValid = false ∧ ({ dst := 31 } : Rec).dst = 31 ∧
      (rec4 0).dst ≠ ({} : Dev).devAddr ∧ ({ dst := 3 } : Rec).dst = worker3.devAddr ∧ worker3.riserToward 5 = some 0 ∧
      ({} : Dev).riserToward 5 = none ∧ (rec4 0).typ ≠ 1 ∧ (rec4 0).typ ≠ 2 ∧ (rec4 0).src ≠ ({} : Dev).devAddr ∧
      (W [(Reg.RP_ROUTE.VALID 3, 1)]).riserToward 3 = some 0 ∧ (W [(Reg.RP_ROUTE.VALID 3, 1)]).riserToward 5 = none ∧
      (rec4 8).at_ 4 4 % 2 ^ 25 % 4 = 0 ∧
      (hier { tags := [(1, 9)] }).hier.tags.find? (fun e => e.2 == ({ tag := 9 } : Rec).tag) = some (1, 9) ∧
      (hier { tags := [(1, 9)] }).fld (Reg.RP_RACC_CMD.OP 1) = 0 ∧ (rec4 0).at_ 12 1 = 0 ∧ ({} : Dev).worker = false ∧ (rec4 0).src < 32 ∧
      worker3.worker = true ∧ ({} : Dev).fld (Reg.RP_PHY_CTRL.UPPER 0) = 0 ∧
      (W [(Reg.RP_PHY_CTRL.UPPER 0, 1)]).fld (Reg.RP_PHY_CTRL.UPPER 0) ≠ 0 ∧ (hier { probe := some 0 }).hier.probe = some ((0 : Fin 4) : Nat) ∧
      ({} : Dev).hier.probe ≠ some 0 ∧ ({} : Dev).pairOf 0 = none := by decide

def ex : Exch := { port := 0, seq := 0 }

theorem witness_ManagementRecords_exchange :
    (hier { exch := some ex }).hier.exch = some ex ∧ ex.port = ((0 : Fin 4) : Nat) ∧ ex.seq = (rec4 0).at_ 4 2 ∧ ex.t1 = none ∧
      (rec4 0).at_ 10 4 / 2 ^ 30 = (hier { exch := some ex }).fld Reg.RP_HIER_STAT.UPPER_EPOCH ∧
      (W [(Reg.RP_LINK_CTRL.XFER_EN 0, 1)]).fld (Reg.RP_LINK_CTRL.XFER_EN 0) ≠ 0 ∧ ({} : Dev).fld (Reg.RP_LINK_CTRL.XFER_EN 0) = 0 ∧
      ({ ex with t1 := some 1, t3 := some 2 } : Exch).t1 = some 1 ∧ ({ ex with t1 := some 1, t3 := some 2 } : Exch).t3 = some 2 ∧
      worker3.fld Reg.TIM_STAT.TIME_SET = 0 ∧ worker3.hier.gop = none ∧
      ({ worker3 with hier := { gop := some { op := 1, id := 0 } } } : Dev).hier.gop = some { op := 1, id := 0 } ∧
      ({ op := 1, id := 0 } : Gop).id = (rec4 0).at_ 5 1 ∧ (rec4 0).at_ 5 1 = ({} : Dev).fld Reg.RP_GOP_STAT.OP_ID ∧
      (rec4 0x10000).at_ 5 1 ≠ ({} : Dev).fld Reg.RP_GOP_STAT.OP_ID ∧ (rec4 0).at_ 4 1 = 0 ∧ (rec4 0).at_ 6 1 = 0 ∧
      (rec4 0x1000000).at_ 4 1 ≠ 0 ∧ (rec4 0x1000100).at_ 6 1 ≠ 0 := by decide

def lower : Dev := (link 1).put (Reg.RP_PHY_CTRL.UPPER 0) 1
def gop (g : Gop) : Dev := { hier := { gop := some g } }
def pair0 : Dev := (((((link 1).put Reg.RP_HIER_CTRL.PAIR0_EN 1).put Reg.RP_HIER_CTRL.PAIR0_A 1).put Reg.RP_HIER_CTRL.PAIR0_B 0))

theorem witness_HierarchyCommands :
    ({} : Dev).fld (Reg.RP_RACC_STAT.BUSY 3) = 0 ∧ (W [(Reg.RP_RACC_STAT.BUSY 3, 1)]).fld (Reg.RP_RACC_STAT.BUSY 3) ≠ 0 ∧
      ({} : Dev).addrValid = true ∧ (W [(Reg.RP_HIER_STAT.ROLE, 1)]).addrValid = false ∧ ({} : Dev).fld Reg.RP_PROBE_STAT.BUSY = 0 ∧
      (W [(Reg.RP_PROBE_STAT.BUSY, 1)]).fld Reg.RP_PROBE_STAT.BUSY ≠ 0 ∧ 2 ≤ (W [(Reg.RP_HIER_STAT.DEPTH, 2)]).fld Reg.RP_HIER_STAT.DEPTH ∧
      ¬ 2 ≤ ({} : Dev).fld Reg.RP_HIER_STAT.DEPTH ∧ bits (0x7C#32 : Word).toNat 2 5 = 31 ∧ bits (0x4#32 : Word).toNat 2 5 = 1 ∧
      ({} : Dev).aligned 0 = false ∧ (link 1).aligned 0 = true ∧ (link 1).fld (Reg.RP_PHY_CTRL.UPPER 0) = 0 ∧
      lower.fld (Reg.RP_PHY_CTRL.UPPER 0) ≠ 0 ∧ lower.fld (Reg.RP_PHY_STAT.PEER_UPPER 0) = 0 ∧ (hier { probe := some 1 }).hier.probe ≠ none ∧
      ({} : Dev).hier.probe = none ∧ (hier { exch := some ex }).hier.exch ≠ none ∧ ({} : Dev).hier.exch = none ∧
      ({} : Dev).pair 0 = none ∧ pair0.pair 0 = some (1, 0) ∧ pair0.aligned (pair0.pairActive 0 (1, 0)) = false ∧ pair0.aligned 0 = true ∧
      ((pair0.put (pairAct 0) 1).aligned ((pair0.put (pairAct 0) 1).pairActive 0 (1, 0)) = true) := by decide

def ahead : Dev := (W [(Reg.TIM_STAT.TIME_SET, 1), (Reg.RP_GOP_SEC.SEC, 5)]).advance 0
def g1 : Gop := { op := 1, t := 1000000000000 * nsU }

theorem witness_HierarchyCommands_gop :
    ({} : Dev).worker = false ∧ ((worker3.advance 0).worker = true) ∧ bits (0x8#32 : Word).toNat 4 1 = 0 ∧
      (({} : Dev).advance 0).gopInstant < (({} : Dev).advance 0).time + (({} : Dev).advance 0).minLead * nsU ∧
      ¬ ahead.gopInstant < ahead.time + ahead.minLead * nsU ∧ ahead.hier.gop = none ∧ ahead.fld Reg.TIM_STAT.TIME_SET ≠ 0 ∧
      (({} : Dev).advance 0).fld Reg.TIM_STAT.TIME_SET = 0 ∧ ((gop {}).advance 0).hier.gop = some {} ∧
      ((gop g1).advance 0).time < ((gop g1).advance 0).cancelPoint g1 ∧ ((gop {}).advance 0).cancelPoint {} ≤ ((gop {}).advance 0).time ∧
      ((gop g1).advance 0).time < g1.t ∧ ({} : Gop).t ≤ ((gop {}).advance 0).time ∧
      (List.range 31).filter (fun i => decide (1 ≤ i) && bitOf (((gop {}).advance 0).fld Reg.RP_GOP_ROSTER.ROSTER) i &&
        !bitOf ((gop {}).advance 0).hier.reported i) = [] ∧
      (List.range 31).filter (fun i => decide (1 ≤ i) && bitOf (((W [(Reg.RP_GOP_ROSTER.ROSTER, 2)]).advance 0).fld Reg.RP_GOP_ROSTER.ROSTER) i &&
        !bitOf ((W [(Reg.RP_GOP_ROSTER.ROSTER, 2)]).advance 0).hier.reported i) = [1] ∧
      ((gop {}).advance 0).fld Reg.RP_GOP_CTRL.RESET_SELF = 0 := by decide

/-- The remaining clauses of the wagon slot and of the verdict. -/
def slot0 (l : RLink) : Dev := (link 1).setRlink 0 l
def verdict0 (s c : Nat) : Dev := (((slot0 { waits := [{ ciph := true, ctr := 5 }] }).put (Reg.CPH_RSR_CTRL.RX_CIPHER 0) 1).put
  (Reg.CPH_SLOT_STAT.STATE (riserSlot 0 1 0)) s).put (Reg.CPH_SLOT_CTR_LO.CTR (riserSlot 0 1 0)) c
theorem witness_RiserWagons_slot :
    ({} : LaneCode).run < 31 ∧ ((slot0 { homing := true }).rlink 0).homing = true ∧
      ((slot0 { urgent := [rec4 0], cumM := 16 }).rlink 0).urgent ≠ [] ∧ 0 < ((slot0 { urgent := [rec4 0], cumM := 16 }).rlink 0).mcredit ∧
      ((slot0 { tx := some { f := { fr with failed := true } } }).rlink 0).tx.any (fun t => t.f.failed && !t.over) = true ∧
      (rsr0.advance 0).rsrDue 0 (wagonAt rsr0) = true ∧ (wagon ++ [0#8]).length ≠ 256 ∧
      (verdict0 0 0).slotState (riserSlot 0 1 0) ≠ slotValid ∧ (verdict0 slotValid 5).slotState (riserSlot 0 1 0) = slotValid ∧
      5 ≤ (verdict0 slotValid 5).slotCtr (riserSlot 0 1 0) ∧ ¬ 5 ≤ (verdict0 slotValid 4).slotCtr (riserSlot 0 1 0) ∧
      ((verdict0 slotValid 4).rlink 0).waits = [{ ciph := true, ctr := 5 }] := by decide

/-- A wagon of frames whose bytes wait, and one whose bytes have gone on; a COMMIT in validation as GOP_GO finds it; a pair whose
standby takes over a frame; a record that HOMING's port pair does not have active. -/
theorem witness_RiserWagons_kept :
    (let l : RLink := { kept := [[(4, 240)]], rx := [{ fid := 4, out := 100 }] }
     l.kept.filter (fun w => w.any (fun e => l.rx.any (fun x => x.fid == e.1 && decide (x.out < e.2)))) = l.kept) ∧
      (let l : RLink := { kept := [[(4, 240)]] }
       l.kept.filter (fun w => w.any (fun e => l.rx.any (fun x => x.fid == e.1 && decide (x.out < e.2)))) = []) ∧
      (ph phUp).rpUp 0 = true ∧ (ph phUp).fld (Reg.RP_PHY_STAT.RX_ASLEEP 0) = 0 ∧
      (let d := ({} : Dev).put (Reg.RP_LINK_CTRL.DOWN_ACT 0) 1
       d.linkRuns 0 = false ∧ d.aligned 0 = false ∧ d.rpHere 0 = true ∧ d.fld (Reg.RP_LINK_CTRL.DOWN_ACT 0) ≠ 0 ∧
         (d.riserTake (d.riserNodes 0)).2 = none) ∧
      ({ kind := 1, ends := [4] } : WagonIn).ends = [4] ∧
      ({ rx := [{ fid := 4 }] } : RLink).rx.find? (fun z => z.fid == 4) = some { fid := 4 } := by decide

theorem witness_HierarchyCommands_more :
    (({ gen := { run := some (.commit false false 1) } } : Dev).advance 0).gen.validating = true ∧
      (let l : RLink := { tx := some { f := fr } }
       ((pair0.setRlink 1 l).rlink ((pair0.setRlink 1 l).pairActive 0 (1, 0))).tx = some { f := fr }) ∧
      pair0.pairOf 0 = some (0, (1, 0)) ∧ pair0.pairActive 0 (1, 0) ≠ 0 ∧ pair0.worker = false ∧
      ((W [(Reg.RP_PHY_STAT.PEER_UPPER 0, 1)]).fld (Reg.RP_PHY_STAT.PEER_UPPER 0) ≠ 0) ∧
      (ahead.gopCommit = 0 ∧ (3#32 : Word).toNat % 4 = 3) := by decide

/-! ### Host rings and generations -/

/-- Domain 0 bound to the Brewhouse, ring 0 of a kind with its EVT ring 1 enabled; and a domain bound to PCIe that polls. -/
def hif (k : Nat) : Dev := W [(Reg.CHIPCAP_BLOCK_RST.HIF, 0), (Reg.HIF_DOM_CFG.BIND 0, 1), (Reg.HIF_RING_CFG.KIND 0, k),
  (Reg.HIF_RING_CFG.LOG2_SIZE 0, 6), (Reg.HIF_RING_CFG.EVT_RING 0, 1), (Reg.HIF_RING_CFG.KIND 1, 3), (Reg.HIF_RING_CTRL.EN 1, 1)]
def hifRun (k : Nat) (x : RingSt) : Dev := (((hif k).put (Reg.HIF_RING_CTRL.EN 0) 1).put (Reg.HIF_RING_STAT.RUNNING 0) 1).setRing 0 x
def polling (x : Dom) : Dev := (W [(Reg.HIF_DOM_CFG.BIND 0, 2), (Reg.HIF_PCIE_STAT.BME, 1), (Reg.CHIPCAP_BLOCK_RST.HIF, 0)]).setDom 0 x
def desc : Desc := { len := 64, sof := true, eof := true }

theorem witness_HostRings :
    (hif 1).mainUp = true ∧ (hif 1).hifHere = true ∧ (hif 1).hifUp = true ∧ (hif 1).ringEn 1 = true ∧ ({} : Dev).ringEn 15 = false ∧
      bits (2#32 : Word).toNat 0 2 = 2 ∧ (dev6440.pcieHere = false ∧ dev6440.hifHere = false) ∧ (hif 1).pcieHere = true ∧
      (hif 1).ringEn 0 = false ∧ (hif 1).fld (Reg.HIF_RING_STAT.RUNNING 0) = 0 ∧ (hif 1).bind (0 / 16) ≠ 0 ∧
      ¬ (hif 1).fld (Reg.HIF_RING_CFG.LOG2_SIZE 0) < 6 ∧ ((hif 1).put (Reg.HIF_RING_CFG.LOG2_SIZE 0) 5).fld (Reg.HIF_RING_CFG.LOG2_SIZE 0) < 6 ∧
      dev6440.lnHere (dev6440.fld (Reg.HIF_RING_CFG.CHANNEL 0)) = false ∧ (hif 4).ringKind 0 = 4 ∧
      ((hif 1).ringKind ((hif 1).evtRing 0) = 3 ∧ (hif 1).ringEn ((hif 1).evtRing 0) = true ∧ (hif 1).evtRing 0 / 16 = 0 / 16) ∧
      ¬ ((hif 1).put (Reg.HIF_RING_CFG.EVT_RING 0) 9).ringKind (((hif 1).put (Reg.HIF_RING_CFG.EVT_RING 0) 9).evtRing 0) = 3 ∧
      idxSub 64 ((hif 1).idx 0) ≤ 2 ^ (hif 1).fld (Reg.HIF_RING_CFG.LOG2_SIZE 0) ∧
      ¬ idxSub 65 ((hif 1).idx 0) ≤ 2 ^ (hif 1).fld (Reg.HIF_RING_CFG.LOG2_SIZE 0) ∧ (hifRun 1 {}).ringEn 0 = true ∧
      (hifRun 1 { fetch := some [desc] } |>.ring 0).fetch ≠ none ∧ (hifRun 1 {}).ringKind 0 ≠ 2 ∧ (hifRun 1 {}).ringKind 0 ≠ 3 := by decide

theorem witness_HostRings_named :
    (hifRun 1 {}).ringEn 1 = true ∧ (hifRun 1 {}).ringKind 1 = 3 ∧ (hifRun 1 {}).namedBy 1 = true := by decide

theorem witness_HostRings_work :
    (hifRun 1 {}).bind 0 = 1 ∧ (hifRun 1 {}).ringLive 0 = true ∧ 5 % 2 ^ 32 ≠ ((hifRun 1 {}).ring 0).sw ∧ (hif 1).ringLive 0 = false ∧
      ({} : Dev).polls 0 = false ∧ (polling {}).polls 0 = true ∧ ((polling {}).dom 0).poll = false ∧
      ((polling { poll := true }).dom 0).poll = true ∧ ((polling { poll := true }).dom 0).due = false ∧
      (polling {}).fld (Reg.HIF_DOM_CFG.BACKOFF_DIS 0) = 0 ∧
      ((polling {}).put (Reg.HIF_DOM_CFG.BACKOFF_DIS 0) 1).fld (Reg.HIF_DOM_CFG.BACKOFF_DIS 0) ≠ 0 ∧
      (hif 1).txfOrder 0 = [] ∧ (hifRun 1 { sw := 1 }).txfOrder 0 = [0] ∧
      (hifRun 1 { sw := 1 }).host.rings.any (fun q => q.2.fetch.isSome) = false ∧
      walkDescs ((hifRun 1 { sw := 1 }).bufSize 0) 15996 ([desc].take ((hifRun 1 { sw := 1 }).occupancy 0)) 0 0 = .whole 1 ∧
      walkDescs ((hifRun 1 { sw := 1 }).bufSize 0) 15996 ([{ desc with sof := false }].take ((hifRun 1 { sw := 1 }).occupancy 0)) 0 0 =
        .bad stDescErr 0 ∧
      (hifRun 1 { sw := 1 }).txRecords 0 [desc] = 0 ∧ bytesIn ((hifRun 1 { sw := 1 }).buf 452) + (max 60 (descBytes [desc]) + 4) ≤ 16384 ∧
      (((hifRun 1 {}).advance 0).ring 0).fetch = none ∧
      (((hifRun 1 { fetch := some [desc] }).advance 0).ring 0).fetch = some [desc] ∧ desc.tsReq = false ∧ desc.oneStep = false ∧
      ((hifRun 1 { fetch := some [desc] }).advance 0).txRecords 0 [desc] = 0 := by decide

theorem witness_HostRings_out :
    ((hif 1).setDom 0 { dirty := true } |>.dom 0).dirty = true ∧ (hif 1).canDma 0 = true ∧ ((hif 1).dom 0).dirty = false ∧
      ((hifRun 3 { unsig := 1 }).put (Reg.HIF_RING_IRQ.IRQ_EN 0) 1).ringKind 0 = 3 ∧
      ((hifRun 3 { unsig := 1 }).put (Reg.HIF_RING_IRQ.IRQ_EN 0) 1).fld (Reg.HIF_RING_IRQ.IRQ_EN 0) ≠ 0 ∧
      0 < ((hifRun 3 { unsig := 1 }).ring 0).unsig ∧ bitOf ({} : Dev).irqOut 3 = false ∧
      ((hifRun 2 { timer := true, frames := [fr] }).ring 0).timer = true ∧ ((hifRun 2 { timer := true, frames := [fr] }).ring 0).frames = [fr] ∧
      ((hifRun 2 { timer := true, frames := [fr] }).ring 0).filled = 0 ∧ (hif 1).fld Reg.HIF_PCIE_STAT.LINK_UP = 0 ∧ (hif 1).host.pend = 0 ∧
      (polling {}).bind 0 = 2 ∧ ({ host := { funcMask := true } } : Dev).host.funcMask = true ∧ bitOf ({ host := { vecMask := 0 } } : Dev).host.vecMask 3 = false ∧
      (polling {}).fld Reg.HIF_PCIE_STAT.BME ≠ 0 ∧ ({} : Dev).fld Reg.HIF_PCIE_STAT.BME = 0 ∧ ({} : Dev).bind 0 = 0 := by decide

theorem witness_HostRings_lines :
    ∀ j < 16, (hif 2).ringKind (16 * 0 + j) ≠ 3 ∨ (hif 2).fld (Reg.HIF_RING_IRQ.IRQ_EN (16 * 0 + j)) = 0 := by decide

/-- A domain that may not read, a ring halted with reads outstanding, a slot out of range at a doorbell, and vectors. -/
theorem witness_HostRings_more :
    ((polling {}).put Reg.HIF_PCIE_STAT.BME 0).canDma 0 = false ∧
      (let d := (hifRun 1 {}).put (Reg.HIF_RING_STAT.HALTED 0) 1
       d.fld (Reg.HIF_RING_STAT.RUNNING 0) ≠ 0 ∧ d.fld (Reg.HIF_RING_STAT.HALTED 0) ≠ 0) ∧ (hif 1).fld (Reg.HIF_RING_STAT.RUNNING 0) = 0 ∧
      (hifRun 1 {}).canDma (0 / 16) = true ∧ (hifRun 1 {}).ringSize 0 < idxSub (65 % 2 ^ 32) ((hifRun 1 {}).idx 0) ∧
      idxSub (64 % 2 ^ 32) ((hifRun 1 {}).idx 0) ≤ (hifRun 1 {}).ringSize 0 ∧ (hifRun 1 {}).occupancy 0 < (hifRun 1 {}).ringSize 0 ∧
      ((hifRun 2 {}).ring 0).hold = [] ∧ 16 * 15 + 15 < 256 ∧ bits (4#32 : Word).toNat 2 1 = 1 ∧
      ((hifRun 1 {}).ringEn 0 = true ∧ ((hif 2).ringEn 0 = false ∧ (hifRun 2 {}).ringKind 0 = 2)) := by decide

/-- A commit that is validated, a commit that is armed, and a generation awaiting confirmation. -/
def validating (t : Bool) : Dev := { gen := { run := some (.commit t false 1) } }
def settled (t : Bool) : Dev := W [(Reg.GEN_STAGE.NUM, 1)] |> fun d => { d with gen := { run := some (.commit t false 1) } }
def armed (a : Armed) : Dev := { gen := { armed := some a } }
def unconfirmed : Dev := { (W [(Reg.GEN_STAT.CONFIRMED, 0)]) with gen := { confirmAt := some 5 } }

theorem witness_Generations :
    ({} : Dev).mainUp = true ∧ (({} : Dev).advance 0).fld Reg.GEN_STAT.BUSY = 0 ∧ ((W [(Reg.GEN_STAT.BUSY, 1)]).advance 0).fld Reg.GEN_STAT.BUSY ≠ 0 ∧
      (({} : Dev).advance 0).gen.armed = none ∧ ((armed {}).advance 0).gen.armed ≠ none ∧ ((armed {}).advance 0).fld Reg.GEN_STAT.ARM_SRC = 0 ∧
      (((armed {}).put Reg.GEN_STAT.ARM_SRC 1).advance 0).fld Reg.GEN_STAT.ARM_SRC ≠ 0 ∧ (({} : Dev).advance 0).fld Reg.GEN_STAT.CONFIRMED ≠ 0 ∧
      (unconfirmed.advance 0).fld Reg.GEN_STAT.CONFIRMED = 0 ∧ (unconfirmed.advance 0).gen.confirmAt ≠ none ∧
      (({} : Dev).advance 0).gen.confirmAt = none ∧ (({} : Dev).advance 0).gen.run = none ∧
      ((settled false).advance 0).gen.run = some (.commit false false 1) ∧ ((settled false).advance 0).fld Reg.GEN_STAT.STAGE_OPEN ≠ 0 ∧
      (((settled false).put Reg.GEN_STAT.STAGE_OPEN 0).advance 0).fld Reg.GEN_STAT.STAGE_OPEN = 0 ∧ ((settled false).advance 0).allReady true = true ∧
      (((settled false).put Family.tmg.heldKind 1).advance 0).allReady true = false ∧
      ((settled false).advance 0).fld Reg.GEN_STAGE.NUM % 2 ^ 16 = 1 % 2 ^ 16 ∧
      (((settled true).put Reg.GEN_STAGE.NUM 2).advance 0).fld Reg.GEN_STAGE.NUM % 2 ^ 16 ≠ 1 % 2 ^ 16 ∧
      ((settled false).advance 0).offences = [] ∧ ((settled true).advance 0).fld Reg.TIM_STAT.TIME_SET = 0 ∧
      (let d := ((settled true).put Reg.TIM_STAT.TIME_SET 1).advance 0; d.fld Reg.TIM_STAT.TIME_SET ≠ 0 ∧ d.atTime < d.time + 1000 * nsU) ∧
      (let d := (((settled true).put Reg.TIM_STAT.TIME_SET 1).put Reg.GEN_AT_SEC_LO.SEC 5).advance 0; d.time + 1000 * nsU ≤ d.atTime) := by
  decide

theorem witness_Generations_rest :
    ((armed { t := 0 }).advance 0).gen.armed = some { t := 0 } ∧ (0 : Nat) * (100 * psU) ≤ ((armed { t := 0 }).advance 0).time ∧
      ((armed { t := 5 }).advance 0).time < (5 : Nat) * (100 * psU) ∧ ({} : Dev).gen.reverting = false ∧
      ({ gen := { reverting := true } } : Dev).gen.reverting = true ∧ ({} : Dev).fld Reg.GEN_STAT.STAGE_OPEN ≠ 0 ∧ ({} : Dev).gen.pcl.log = [] ∧
      (let e := W [(Reg.GEN_STAGE_NUM.NUM, 7)]; (e.fld Reg.GEN_STAGE_NUM.NUM + (2 ^ 32 - e.fld Reg.GEN_ACTIVE.NUM % 2 ^ 32)) % 2 ^ 32 = 7) ∧
      (let e := W [(Reg.GEN_STAGE_NUM.NUM, 8)]; ¬ (e.fld Reg.GEN_STAGE_NUM.NUM + (2 ^ 32 - e.fld Reg.GEN_ACTIVE.NUM % 2 ^ 32)) % 2 ^ 32 ≤ 7) ∧
      ({} : Dev).fld Reg.GEN_STAT.HELD_KIND ≠ 2 ∧ (W [(Reg.GEN_STAT.HELD_KIND, 2)]).fld Reg.GEN_STAT.HELD_KIND = 2 ∧
      (W [(Reg.PCL_GEN_STAT.PREV_RETIRED, 0)]).fld Reg.PCL_GEN_STAT.PREV_RETIRED = 0 ∧ (W [(Reg.PCL_GEN_STAT.PREV_RETIRED, 1)]).fld Reg.PCL_GEN_STAT.PREV_RETIRED ≠ 0 ∧
      ({ gen := { run := some .discard } } : Dev).gen.run = some .discard ∧ ({} : Dev).gen.run ≠ some .discard ∧ ({} : Dev).cpxHere = true ∧
      (0#32 : Word).toNat % 16 = 0 ∧ 8 ≤ (8#32 : Word).toNat % 16 ∧
      (W [(Reg.GEN_FW_STAT.TRIAL_RUN, 1)]).fld Reg.GEN_FW_STAT.TRIAL_RUN ≠ 0 ∧ ({} : Dev).fld Reg.GEN_FW_STAT.TRIAL_RUN = 0 ∧
      (W [(Reg.GEN_FW_STAT.REC_BUSY, 1)]).fld Reg.GEN_FW_STAT.REC_BUSY ≠ 0 ∧ ({} : Dev).fld Reg.GEN_FW_STAT.REC_BUSY = 0 := by decide

theorem witness_Generations_offence :
    (firstOffence [{ src := 0, table := 0, loc := 7, status := 5, seq := 1 }]).isSome = true := by decide

/-! ### DRAM, power, trust, checks and debug -/

/-- The controller READY, with ports open. -/
def dmc (x : DramCh) : Dev := { (W [(Reg.DMC_STAT.STATE, 2), (Reg.DMC_CTRL.EN, 1)]) with dram := { chans := [(0, x)] } }
def lr : LineRead := {}
def lw : LineWrite := { bytes := (List.range 64).map (fun i => (i, 5#8)) }

theorem witness_DramController :
    ({} : Dev).mainUp = true ∧ (List.range 4).any ({} : Dev).dmcHere = true ∧ bits (1#32 : Word).toNat 1 1 = 0 ∧ bits (2#32 : Word).toNat 0 1 = 0 ∧
      ({} : Dev).fld Reg.DMC_CTRL.EN = 0 ∧ ({} : Dev).regionsOk = true ∧ (dmc {}).fld Reg.DMC_CTRL.EN ≠ 0 ∧
      (W [(Reg.DMC_RGN_BREW_BASE.MIB, 0), (Reg.DMC_RGN_BREW_SIZE.MIB, 1), (Reg.DMC_RGN_SIDING_SIZE.MIB, 1)]).regionsOk = false ∧
      ({} : Dev).fld Reg.DMC_STAT.STATE = 0 ∧ (dmc {}).fld Reg.DMC_STAT.STATE ≠ 0 ∧ (dmc {}).fld Reg.DMC_STAT.STATE ≠ 3 ∧
      4 < (0xA0#32 : Word).toNat / 32 % 8 ∧ (0x80#32 : Word).toNat / 32 % 8 ≤ 4 ∧ (W [(Reg.DMC_STAT.STATE, 1)]).fld Reg.DMC_STAT.STATE = 1 ∧
      (({} : Dev).advance 0).dmcOpen = false ∧ ((dmc {}).advance 0).dmcOpen = true ∧ ((dmc {}).advance 0).dramAddr 0 4096 64 = some 4096 ∧
      linesOf 4096 64 = [4096] ∧ ((dmc {}).advance 0).dramAddr 3 0 64 = none ∧ (3 : Nat) ≤ 5 := by decide

theorem witness_DramController_slots :
    ((dmc {}).advance 0).dmcHere 0 = true ∧ ((dmc {}).advance 0).fld Reg.DMC_STAT.STATE = 2 ∧ (({} : Dev).advance 0).fld Reg.DMC_STAT.STATE ≠ 2 ∧
      (((dmc {}).advance 0).dch 0).waits = [] ∧ 8 ≤ ((((dmc {}).put (Reg.DMC_CH_STAT.OWED 0) 8).advance 0).fld (Reg.DMC_CH_STAT.OWED 0)) ∧
      ((dmc {}).advance 0).fld (Reg.DMC_CH_STAT.OWED 0) = 0 ∧ 1 ≤ ((((dmc {}).put (Reg.DMC_CH_STAT.OWED 0) 1).advance 0).fld (Reg.DMC_CH_STAT.OWED 0)) ∧
      (((dmc { poll := true }).advance 0).dch 0).poll = true ∧ (((dmc { force := true }).advance 0).dch 0).force = true ∧
      (((dmc { retrain := true }).advance 0).dch 0).retrain = true ∧ ((dmc {}).advance 0).realTime 0 = false ∧
      (((dmc {}).advance 0).dch 0).pour = false ∧ (((dmc { rq := [lr] }).advance 0).dch 0).wq.length < ((dmc { rq := [lr] }).advance 0).hiWm ∧
      (((dmc { rq := [lr] }).advance 0).dch 0).rq = [lr] ∧ 1 < ((dmc {}).advance 0).hiWm ∧ (((dmc { wq := [lw] }).advance 0).dch 0).wq = [lw] ∧
      lw.bytes.length = 64 ∧ (((dmc {}).advance 0).dch 0).flight = [] ∧ (((dmc { flight := [lr] }).advance 0).dch 0).flight = [lr] ∧
      lr.deadline = none ∧ ({ lr with deadline := some 5 } : LineRead).deadline = some 5 ∧ 5 < 800 * ((dmc {}).advance 8).core ∧
      ({} : Dev).dmcRuns 3 = false ∧ (dmc {}).dmcRuns 3 = true ∧ ((dmc {}).put (Reg.DMC_CH_STAT.DOUBLED 0) 1).fld (Reg.DMC_CH_STAT.DOUBLED 0) ≠ 0 ∧
      (dmc {}).fld (Reg.DMC_CH_STAT.DOUBLED 0) = 0 ∧ ((dmc {}).dch 0).rq.length < 64 ∧ lr.port = 0 ∧ (∀ y ∈ ((dmc {}).dch 0).wq, y.line ≠ lr.line) := by
  decide

/-- A channel that waits to wake, contents kept, writes that merge and that fill the queue, and a read late or not. -/
theorem witness_DramController_more :
    (({ wake := { queue := [(237, 0)] } } : Dev).wake.queue.any (fun k => decide (236 ≤ k.1))) = true ∧
      ({} : Dev).wake.queue.any (fun k => decide (236 ≤ k.1)) = false ∧ ({ dram := { keep := true } } : Dev).dram.keep = true ∧
      (({ line := 3 } : LineRead).line = ({ line := 3 } : LineWrite).line ∧ ({ line := 3 } : LineRead).old = none) ∧
      ((dmc { wq := [lw] }).dch 0).wq.find? (fun y => y.line == lr.line) = some lw ∧ (lw ∈ ((dmc { wq := [lw] }).dch 0).wq ∧ lw.line = 0) ∧
      ((dmc { pour := true }).dch 0).pour = true ∧
      (let d := (dmc { wq := [lw, { lw with line := 1 }] }).put Reg.DMC_WQ.HI_WM 1
       d.hiWm ≤ (d.dch 0).wq.length ∧ (d.dch 0).pour = false ∧ d.urgencyMax 0 < 2) ∧
      ({ lr with deadline := some 5 } : LineRead).deadline = some 5 ∧ ¬ 5 < 800 * (dmc {}).core := by decide

/-- The sequencer in a state, and before the first power-up. -/
def seqIn (n : Nat) (x : PwrSt) : Dev := { (W [(Reg.PWR_STAT.SEQ, n)]) with pwr := x, held := { rails := n == 0 } }
/-- Coming up: stage 7 with every rail good but rail 7; and with only rails 0 to 5 good. -/
def rising (stage good : Nat) : Dev :=
  { ((W [(Reg.PWR_STAT.SEQ, sqUp), (Reg.PWR_STAT.STAGE, stage), (Reg.PWR_STAT.GOOD, good), (Reg.PWR_RAIL_STAT.PHASES 0, 1)])) with held := { rails := true } }

theorem witness_PowerAndThermal_up :
    ({} : Dev).cremaUp = true ∧ (seqIn sqOff { sampled := true }).pwr.sampled = true ∧ (seqIn sqOff {}).pwr.sampled = false ∧
      (seqIn sqOff { debounced := true }).pwr.debounced = true ∧ (seqIn sqOff {}).pwr.hpHigh = false ∧ (seqIn sqOff {}).seq = sqOff ∧
      (seqIn sqOff {}).pwr.triggers = 0 ∧ (seqIn sqOff { hpHigh := true }).pwr.hpHigh = true ∧ ({} : Dev).seq ≠ sqOff ∧
      ((rising 1 0xFF).seq = sqUp ∧ (rising 1 0xFF).fld Reg.PWR_STAT.STAGE < 7 ∧ ∀ q ∈ stageRails 1, bitOf ((rising 1 0xFF).fld Reg.PWR_STAT.GOOD) q = true) ∧
      ({} : Dev).seq ≠ sqUp ∧ railStage 7 ≤ (rising 7 0x7F).fld Reg.PWR_STAT.STAGE ∧ setBit ((rising 7 0x7F).fld Reg.PWR_STAT.GOOD) 7 true % 2 ^ 8 = 255 ∧
      setBit ((rising 7 0x3F).fld Reg.PWR_STAT.GOOD) 7 true % 2 ^ 8 ≠ 255 ∧ (rising 7 0x7F).held = { rails := true } ∧
      railStage 0 ≤ (rising 7 0).fld Reg.PWR_STAT.STAGE ∧ (rising 7 0).fld (Reg.PWR_RAIL_STAT.PHASES 0) ≠ 0 := by decide

theorem witness_PowerAndThermal_down :
    ({} : Dev).seq = sqOn ∧ ({} : Dev).faultApplies 0 1 = true ∧ (seqIn sqOff {}).faultApplies 0 1 = false ∧
      (bitOf (seqIn sqOff { triggers := 4 }).pwr.triggers 2 = true ∧ (seqIn sqOff { triggers := 4 }).seq = sqOff) ∧
      (seqIn sqOff { triggers := 4, retries := 15 }).fld Reg.PWR_SEQ.RETRY ≤ (seqIn sqOff { triggers := 4, retries := 15 }).pwr.retries ∧
      (seqIn sqOff { triggers := 4 }).pwr.retries < (seqIn sqOff { triggers := 4 }).fld Reg.PWR_SEQ.RETRY ∧
      (seqIn sqOff { sampled := true, debounced := true }).pwr.sampled = true ∧ ({} : Dev).pwr.vinLow = false ∧
      (seqIn sqLatched {}).seq = sqLatched ∧ ({} : Dev).pwr.grace = false ∧ (seqIn sqDown { grace := true, downStage := 7 }).pwr.grace = true ∧
      (seqIn sqDown { grace := true, downStage := 7 }).pwr.downStage = 7 ∧ ({} : Dev).seq ≠ sqDown ∧ (seqIn sqDown {}).seq = sqDown ∧
      (seqIn sqDown { triggers := 2 }).pwr.downStage = 0 ∧ (seqIn sqDown { triggers := 2 }).pwr.triggers ≠ 0 ∧
      (seqIn sqDown { downStage := 6 }).pwr.downStage = 5 + 1 ∧ bitOf (seqIn sqOn { triggers := 2 }).pwr.triggers 1 = true ∧
      ((seqIn sqOn { triggers := 2 }).put Reg.PWR_SEQ2.OFF_S 1).fld Reg.PWR_SEQ2.OFF_S ≠ 0 ∧ ¬ bitOf ({} : Dev).pwr.triggers 1 = true ∧
      (({} : Dev).advance 0).fld Reg.PWR_STAT.DG = 0 ∧ ((W [(Reg.PWR_STAT.DG, 1)]).advance 0).fld Reg.PWR_STAT.DG ≠ 0 := by decide

theorem witness_PowerAndThermal_rest :
    (let top : Int := clampI (-2048) 2047 2000
     (4 * (({} : Dev).fld Reg.PWR_THERM_CFG.SHUT : Int) ≤ top ∧ 4 * (({} : Dev).fld Reg.PWR_THERM_CFG.CRIT : Int) ≤ top) ∧ ({} : Dev).pwr.warm = false) ∧
      ({} : Dev).fld Reg.PWR_STAT.THROTTLE = 0 ∧ ({} : Dev).fld Reg.PWR_CTRL.THROT_EN ≠ 0 ∧
      (let e := W [(Reg.PWR_THERM_CFG.SHUT, 110), (Reg.PWR_THERM_CFG.CRIT, 125)]
       4 * (e.fld Reg.PWR_THERM_CFG.SHUT : Int) ≤ 450 ∧ (450 : Int) < 4 * (e.fld Reg.PWR_THERM_CFG.CRIT : Int)) ∧
      ({} : Dev).thermMax < 4 * ((({} : Dev).fld Reg.PWR_THERM_CFG.SHUT : Int) - ({} : Dev).fld Reg.PWR_THERM_HYST.RECOVER) ∧
      (let e := W [(Reg.PWR_THERM_MAX.TEMP, 2000)]
       4 * ((e.fld Reg.PWR_THERM_CFG.SHUT : Int) - e.fld Reg.PWR_THERM_HYST.RECOVER) ≤ e.thermMax) ∧ (seqIn sqTherm {}).seq = sqTherm ∧
      ({} : Dev).fld Reg.PWR_WDOG.TIMEOUT = 0 ∧ (W [(Reg.PWR_WDOG.TIMEOUT, 9)]).fld Reg.PWR_WDOG.TIMEOUT ≠ 0 ∧ ({} : Dev).unit 19 = true ∧
      (9 * railNominal 0 ≤ 10 * ((BitVec.ofNat 32 (railNominal 0)).toNat % 2 ^ 11) ∧
        10 * ((BitVec.ofNat 32 (railNominal 0)).toNat % 2 ^ 11) ≤ 11 * railNominal 0) ∧
      10 * ((0#32 : Word).toNat % 2 ^ 11) < 9 * railNominal 0 ∧ bits (0x5AA50000#32 : Word).toNat 16 16 = 0x5AA5 ∧
      bits (0x5AA40000#32 : Word).toNat 16 16 ≠ 0x5AA5 ∧ ({} : Dev).fld Reg.PWR_GATE.SLICE = 0 ∧ (16#32 : Word).toNat % 16 = 0 := by decide

/-- The watchdog before and at its end, restarted by its key, by key 0 or by a new TIMEOUT; and CRIT in a power-down. -/
theorem witness_PowerAndThermal_more :
    (dog.fld Reg.PWR_WDOG.TIMEOUT * 1250000 ≤ dog.pwr.wdog) ∧ ({ dog with pwr := {} } : Dev).pwr.wdog < dog.fld Reg.PWR_WDOG.TIMEOUT * 1250000 ∧
      bits (0x5A5A0001#32 : Word).toNat 16 16 = 0x5A5A ∧ (0x00010002#32 : Word).toNat % 2 ^ 16 ≠ dog.fld Reg.PWR_WDOG.TIMEOUT ∧
      ¬ (bits (0x00010001#32 : Word).toNat 16 16 = 0x5A5A ∨ bits (0x00010001#32 : Word).toNat 16 16 = 0 ∨
        (0x00010001#32 : Word).toNat % 2 ^ 16 ≠ dog.fld Reg.PWR_WDOG.TIMEOUT) ∧
      (seqIn sqDown {}).seq = sqDown ∧ 4 * ((seqIn sqDown {}).fld Reg.PWR_THERM_CFG.CRIT : Int) ≤ clampI (-2048) 2047 2000 ∧
      bitOf (seqIn sqOff { triggers := 8 }).pwr.triggers 3 = true ∧ (seqIn sqDown {}).faultApplies 0 3 = false := by decide

def tru (x : Tru) : Dev := { tru := x }

def fullLog : Dev := W [(Reg.TRU_BOOT_STAT.LOG_COUNT, 64)]

/-- A boot record with PREFERRED 1 and 133 MHz, its CRC-32C worked out outside the model (R408). -/
def record1 : List Byte := [79, 67, 66, 82, 0, 0, 0, 1, 1, 133, 0, 0, 0, 0, 0, 0, 119, 180, 95, 45]
theorem witness_TrustBlock_record : recordPick { rec0 := record1 } = some 0 := by decide

theorem witness_TrustBlock :
    ({} : Dev).mainUp = true ∧ (tru { boot := .due }).tru.boot = .due ∧ (tru { boot := .over }).tru.boot ≠ .due ∧
      recordPick {} = none ∧ dev6440.cpxHere = false ∧ ({} : Dev).cpxHere = true ∧
      (W [(Reg.GEN_FW_CTRL.TRIAL, 1)]).fld Reg.GEN_FW_CTRL.TRIAL ≠ 0 ∧ (W [(Reg.GEN_FW_CTRL.TRIAL, 1)]).fld Reg.GEN_FW_CTRL.TRIAL_SLOT ≤ 1 ∧
      (({} : Dev).slotTry []).1 ≠ 0 ∧ (tru { boot := .loaded 0 1 0 }).tru.boot = .loaded 0 1 0 ∧ ({} : Dev).worker = false ∧
      worker3.worker = true ∧ (tru { boot := .noImage }).tru.boot = .noImage ∧ (tru { boot := .failed }).tru.boot = .failed ∧
      ({} : Dev).unit 18 = true ∧ (W [(Reg.TRU_STAT.BUSY, 1)]).fld Reg.TRU_STAT.BUSY ≠ 0 ∧ ({} : Dev).fld Reg.TRU_STAT.BUSY = 0 ∧
      ¬ 2 ^ 20 ≤ (tru {}).tru.reqs + 1 ∧ 2 ^ 20 ≤ (tru { reqs := 2 ^ 20 }).tru.reqs + 1 ∧
      (0#32 : Word).toNat % 16 = 0 ∧ 6 ≤ (6#32 : Word).toNat % 16 ∧
      ({} : Dev).tru.run = none ∧ (tru { run := some .noIdentity }).tru.run = some .noIdentity ∧
      (tru { run := some .arbRefused }).tru.run = some .arbRefused ∧ (tru { run := some .keyRefused }).tru.run = some .keyRefused ∧
      (tru { run := some (.attest []) }).tru.run = some (.attest []) ∧ ({} : Dev).logCount < 64 ∧ 64 ≤ fullLog.logCount ∧
      (tru { run := some (.measExtend []) }).tru.run = some (.measExtend []) ∧ (tru { run := some (.dbgOpen 5 1) }).tru.run = some (.dbgOpen 5 1) ∧
      (tru { run := some (.dbgOpen 0 1) }).tru.run = some (.dbgOpen 0 1) ∧ (tru { run := some (.arb 3) }).tru.run = some (.arb 3) ∧
      (tru { run := some (.arb 3) }).arb < 3 ∧ (tru { run := some (.arb 0) }).arb ≥ 0 ∧ (tru { deadArb := some 1 }).tru.deadArb = some 1 ∧
      (tru {}).tru.deadArb = none ∧ (tru { run := some (.revoke 1) }).tru.run = some (.revoke 1) ∧ bitOf (tru {}).tru.deadRevoke 1 = false ∧
      bitOf (tru { deadRevoke := 2 }).tru.deadRevoke 1 = true := by decide

def owned (k : Nat) : Dev := W [(Reg.CVU_STAT.OWNED 0, 1), (Reg.CVU_STAT.OWNER 0, k)]
def i2c0 : Dev := W [(Reg.CHIPCAP_I2C_STAT.BUSY 0, 1), (Reg.CHIPCAP_I2C_CMD.RD 0, 1), (Reg.CHIPCAP_MDIO_STAT.BUSY 0, 1)]

theorem witness_ChecksAndDebugPorts :
    ({} : Dev).mainUp = true ∧ ({} : Dev).unit 16 = true ∧ ({} : Dev).unit 17 = true ∧ (owned 3).fld (Reg.CVU_STAT.OWNED 0) ≠ 0 ∧
      (owned 3).fld (Reg.CVU_STAT.OWNER 0) ≠ Master.pcie.num ∧ ({} : Dev).fld (Reg.CVU_STAT.OWNED 0) = 0 ∧ bitOf (8#32 : Word).toNat 4 = false ∧
      bitOf (8#32 : Word).toNat 6 = false ∧ (32#32 : Word).toNat / 32 % 2 = 1 ∧
      ({} : Dev).fld (Reg.CVU_EXPECT_A.VALUE 0) % 2 ^ (({} : Dev).cvuCrc 0).w = (W [(Reg.CVU_RESULT.VALUE 0, 0)]).fld (Reg.CVU_RESULT.VALUE 0) ∧
      (W [(Reg.CVU_EXPECT_A.VALUE 0, 1)]).fld (Reg.CVU_EXPECT_A.VALUE 0) % 2 ^ (({} : Dev).cvuCrc 0).w ≠
        (W [(Reg.CVU_RESULT.VALUE 0, 0)]).fld (Reg.CVU_RESULT.VALUE 0) ∧
      (0xD5E7#16 : BitVec 16) = 0xD5E7#16 ∧ i2c0.fld (Reg.CHIPCAP_I2C_STAT.BUSY 0) ≠ 0 ∧ ({} : Dev).fld (Reg.CHIPCAP_I2C_STAT.BUSY 0) = 0 ∧
      i2c0.fld (Reg.CHIPCAP_MDIO_STAT.BUSY 0) ≠ 0 ∧ ({} : Dev).fld (Reg.CHIPCAP_MDIO_STAT.BUSY 0) = 0 ∧ ({} : Dev).tapUp = true ∧
      heldCrema.tapUp = false ∧ ({ tap := { ir := 0x20 } } : Dev).tap.ir = 0x20 ∧ ({ tap := { ir := 0x20 } } : Dev).tap.run = none ∧
      ({} : Dev).tap.ir ≠ 0x20 ∧ ({ tap := { run := some (true, 1, 2) } } : Dev).tap.run = some (true, 1, 2) ∧
      (Reg.find (0x30000 + 4 * 0x3FFF)).isNone = true := by decide

/-- A transaction that cannot end as given, a TAP code without a permission, scans with and without an access under way, an offset
that names a register, and power off. -/
theorem witness_ChecksAndDebugPorts_more :
    ((i2c0.put (Reg.CHIPCAP_I2C_CMD.NOREG 0) 1).fld (Reg.CHIPCAP_I2C_STAT.BUSY 0) ≠ 0 ∧
        (i2c0.put (Reg.CHIPCAP_I2C_CMD.NOREG 0) 1).fld (Reg.CHIPCAP_I2C_CMD.RD 0) ≠ 0 ∧
        (i2c0.put (Reg.CHIPCAP_I2C_CMD.NOREG 0) 1).fld (Reg.CHIPCAP_I2C_CMD.NOREG 0) ≠ 0) ∧
      tapPerm 0x50 = none ∧ ({ tap := { ir := 0x20, run := some (true, 1, 2) } } : Dev).tap.run ≠ none ∧
      (Reg.find (0x30000 + 4 * (Reg.TRU_STAT.BUSY.adr / 4 - 0xC000))).isSome = true ∧
      ({} : Dev).held.rails = false ∧ ({} : Dev).fld Reg.PWR_STAT.SEQ ≠ 5 ∧
      bitOf ({ tru := { shadow := { debugLock := true } } } : Dev).dbgPerm 0 = false ∧ bits (0x10#32 : Word).toNat 4 1 = 1 := by decide

/-- What the rings of R327 need: a Brewhouse, a Tender, a Coachbuilder and a channel, or not. -/
def msgs (k : Nat) (c : Chip) : Dev := { (hif k).put (Reg.HIF_RING_CFG.MSG 0) 1 with chip := c }
theorem witness_HostRings_absent :
    (hif 1).brewHere = true ∧ ({ hif 1 with chip := { units1 := 0x000800FF } } : Dev).brewHere = false ∧ (hif 1).bind (0 / 16) = 1 ∧
      (hif 4).tenderHere = true ∧ (hif 4).coachHere = true ∧ (hif 4).lnHere ((hif 4).fld (Reg.HIF_RING_CFG.CHANNEL 0)) = true ∧
      (msgs 4 {}).fld (Reg.HIF_RING_CFG.MSG 0) ≠ 0 ∧ (hif 4).fld (Reg.HIF_RING_CFG.MSG 0) = 0 := by decide

theorem witness_HostRings_slots :
    ((descsOf (slot32 64)).take ((hifRun 1 { sw := 1 }).occupancy 0)).length = 1 ∧
      walkDescs ((hifRun 1 { sw := 1 }).bufSize 0) 15996 ((descsOf (slot32 64)).take ((hifRun 1 { sw := 1 }).occupancy 0)) 0 0 = .whole 1 ∧
      walkDescs ((hifRun 1 { sw := 1 }).bufSize 0) 15996 ((descsOf (slot32 64)).take ((hifRun 1 {}).occupancy 0)) 0 0 = .more ∧
      ((hifRun 3 {}).ringLive 0 && (hifRun 3 {}).canDma (0 / 16)) = true ∧ (hifRun 3 {}).occupancy 0 < (hifRun 3 {}).ringSize 0 ∧
      ((hifRun 3 {}).ring 0).hold = [] ∧ ((hifRun 3 { hold := [[]] }).ring 0).hold ≠ [] ∧
      (hifRun 1 {}).ringSize 0 < idxSub (65 % 2 ^ 32) ((hifRun 1 {}).idx 0) ∧ idxSub (64 % 2 ^ 32) ((hifRun 1 {}).idx 0) ≤ (hifRun 1 {}).ringSize 0 ∧
      (hifRun 5 {}).ringKind 0 = 5 ∧ (hifRun 3 {}).host.pend = 0 ∧ (List.replicate 15 0).length < 16 := by decide

/-! ### Results that the spec's own examples and tables give -/

/-- Nothing is decoded from bits: spec/opcode_table.json gives no row any. -/
theorem test_no_row_has_bits : decodeTableWord 32 0x12345678 = none := rfl

/-- The check values over "123456789" of the table of R422. -/
def digits : List Byte := [0x31, 0x32, 0x33, 0x34, 0x35, 0x36, 0x37, 0x38, 0x39]
theorem test_check_value_crc32 : (crcOf 0).sum digits = 0xCBF43926 := by decide
theorem test_check_value_crc32c : (crcOf 1).sum digits = 0xE3069283 := by decide
theorem test_check_value_crc16 : (crcOf 2).sum digits = 0x29B1 := by decide
theorem test_check_value_crc8 : (crcOf 3).sum digits = 0xF4 := by decide

/-- START of POLY 0 shows the initial value in ACC and the computation as owned (R423, R424). -/
theorem test_cvu_start : (ran (.cvuStart .tender 2 8#32) {}).fld (Reg.CVU_ACC.VALUE 2) = 0xFFFFFFFF ∧
    (ran (.cvuStart .tender 2 8#32) {}).fld (Reg.CVU_STAT.OWNED 2) = 1 := by decide

/-- "Two bursts worked through" (spec/03): StartTime 1,000 words of 16 bytes at 24.8832 Gbit/s after an EQD of 40.000 µs puts the
header at 80.1440 µs, the first preamble bit 160 upstream bits and TXBE 256 more before it. -/
def worked : Dev := (((W [(Reg.LN_US_CFG.RATE 2, 1), (Reg.LN_US_CFG.WORD 2, 2), (Reg.LN_CB_TIMING.TXBE_LEAD 2, 256)]).setCoach 2
  { eqd := 1990656, profs := [[], [1 + 4 * 2 ^ 6 + 16 * 2 ^ 16]] }))
theorem test_burst_times :
    ((worked.placeBurst 2 { first := { alloc := 1042, start := 1000, prof := 1 }, allocs := [] }).2.map (fun b => (b.hdr, b.pre, b.on))) =
      some (3988480, 3988480 - 320, 3988480 - 320 - 512) := by decide

/-- VSET takes a value within 10 % of nominal, and no other (R389). -/
theorem test_vset_in_range : (ran (.vsetWrite .pcie 0 800#32) {}).fld (Reg.PWR_RAIL_VSET.VSET 0) = 800 := by decide
theorem test_vset_out_of_range : (ran (.vsetWrite .pcie 0 1100#32) {}).fld Reg.PWR_EVT.CFG_REJ = 1 := by decide

/-- Latencies of R268: mode 2 (25GBASE-R with RS-FEC) and riser rate code 2, in 100 ps. -/
theorem test_latencies : phyLat 2 = (1536, 640) ∧ riserLat 2 = (144, 104) := by decide

/-- The reset values of some register tables: part, vendor, units. -/
theorem test_identity : (({} : Dev).busRead .pcie 0x0).2 = 0x64000100 ∧ (({} : Dev).busRead .pcie 0x4).2 = 0x4F435248 := by decide

/-- An unmapped read answers 0, and BUS_STAT counts it (R39). -/
theorem test_unmapped : (ran (.unmappedAccess .riser 0x1FFFFFC .read) {}).fld Reg.CHIPCAP_BUS_STAT.UNMAPPED_CNT = 1 := by decide

/-- A write of 1 to an event bit clears it; the 0s keep the others (R17). -/
theorem test_w1c : (ran (.w1cClear .pcie (BitVec.ofNat 25 Reg.PWR_EVT.ADR) 1 0)
    ((({} : Dev).put ⟨Reg.PWR_EVT.ADR, 0, 1⟩ 1).put ⟨Reg.PWR_EVT.ADR, 1, 1⟩ 1)).fld ⟨Reg.PWR_EVT.ADR, 1, 1⟩ = 1 ∧
    (ran (.w1cClear .pcie (BitVec.ofNat 25 Reg.PWR_EVT.ADR) 1 0)
    ((({} : Dev).put ⟨Reg.PWR_EVT.ADR, 0, 1⟩ 1).put ⟨Reg.PWR_EVT.ADR, 1, 1⟩ 1)).fld ⟨Reg.PWR_EVT.ADR, 0, 1⟩ = 0 := by decide

/-- A real-time clock write clears its subseconds; a chip reset with the wrong key does nothing (R404, R44). -/
theorem test_rtc : (ran (.rtcSecWrite .pcie 77#32) (W [(Reg.PWR_RTC_SUB.SUB, 9)])).fld Reg.PWR_RTC_SUB.SUB = 0 := by decide
theorem test_chip_reset_key : (ran (.chipReset .pcie 0xA55B#16) (W [(Reg.PWR_GATE.SLICE, 3)])).fld Reg.PWR_GATE.SLICE = 3 := by decide

/-- Memory as data: a write reads back, and a 0 leaves nothing listed. -/
theorem test_memory : Memory.write (Memory.write [] 5 7#8) 5 0#8 = [] ∧ Memory.read (Memory.write [] 5 7#8) 5 = 7#8 := by decide


/-- The example after R256 (spec/09): EqD 1,990,656 and EQD_ZERO 9,953,280 unit intervals at ASYM 0x7FFE_0000 give D_ds = 62,496.185 ns, and
SLEW 50,000 ppb with a negative remainder gives −14,073,748. -/
theorem test_path_delay :
    (((W [(Reg.TIM_XFER_EQD0.EQD_ZERO, 9953280), (Reg.TIM_XFER_ASYM.ASYM, 0x7FFE0000)]).ddsRecompute 1990656 false).fld Reg.TIM_XFER_DDS.D_DS) =
      62496185 := by decide
theorem test_slew_term :
    (({ tim := { pend := -5215 * psU } } : Dev).put Reg.TIM_SLEW.SLEW 50000).slewTerm = -14073748 := by decide

/-- The bucket example of spec/07: RATE 100,000 kbit/s refilled every 4 µs takes a level of −76 bytes to −26, and −26 to 24. -/
theorem test_bucket_refill :
    ((({ level := -76 * 8000, started := true } : Bkt).refill 2 100000 3000 true).level = -26 * 8000) ∧
      (({ level := -26 * 8000, started := true } : Bkt).refill 2 100000 3000 true).level = 24 * 8000 := by decide

/-- From a scrambler of ones, 31 ones on the line are followed by a stuffed zero, which the receiver removes (R272, R273). -/
theorem test_stuffing :
    (({ run := 30, last := true, hist := 2 ^ 58 - 1 } : LaneCode).sendBit true).2 = [true, false] ∧
      (({ run := 31, last := true, hist := 0 } : LaneCode).recvBit false).2 = ([], 0) ∧
      (({ run := 31, last := true, hist := 0 } : LaneCode).recvBit true).2 = ([], 1) := by decide

end Sys2Proof.Tests
end

section
/-!
PROOFS. Accesses to the registers of absent units (R9): every write path of the bus leaves the device as it is, and every read
path answers `absentWord` and changes nothing else.
-/
namespace Sys2Proof.Machine

variable {d : Dev} {a : Nat}

/-! ### The bus at an absent unit -/

theorem Dev.busWrite_of_absent (hf : (Reg.find a).isNone = false) (ha : d.absent a = true) (m : Master) (v : Nat) :
    d.busWrite m a v = d := by
  simp [Dev.busWrite, hf, ha]

theorem Dev.busRead_of_absent (hf : (Reg.find a).isNone = false) (ha : d.absent a = true) (m : Master) :
    d.busRead m a = (d, absentWord a) := by
  simp [Dev.busRead, hf, ha]

/-- Events that hardware sets in the cycle of a write do not reach the register of an absent unit. -/
theorem Dev.hwSet_of_absent (ha : d.absent a = true) (hw : Nat) : d.hwSet a hw = d := by
  unfold Dev.hwSet
  split
  · rfl
  · rw [if_pos ha]

/-! ### Aligned accesses -/

theorem Dev.access_write_of_aligned (h4 : a % 4 = 0) (m : Master) (v : Word) :
    d.access m a (.write v) = d.busWrite m a v.toNat := by
  simp [Dev.access, h4]

theorem Dev.access_read_of_aligned (h4 : a % 4 = 0) (m : Master) :
    d.access m a .read = Dev.answered m a (d.busRead m a) := by
  simp [Dev.access, h4]

/-- A word access that is announced as unaligned but is aligned is an ordinary one (R40). -/
theorem Dev.narrowAccess_of_aligned (h4 : a % 4 = 0) (m : Master) (op : BusOp) :
    d.narrowAccess m a .wordUnaligned op = d.access m a op := by
  simp [Dev.narrowAccess, h4]

theorem Dev.access_write_of_absent (h4 : a % 4 = 0) (hf : (Reg.find a).isNone = false) (ha : d.absent a = true)
    (m : Master) (v : Word) : d.access m a (.write v) = d := by
  rw [Dev.access_write_of_aligned h4, Dev.busWrite_of_absent hf ha]

theorem Dev.access_read_of_absent (h4 : a % 4 = 0) (hf : (Reg.find a).isNone = false) (ha : d.absent a = true)
    (m : Master) : d.access m a .read = d.emit (.busRead m a (BitVec.ofNat 32 (absentWord a))) := by
  rw [Dev.access_read_of_aligned h4, Dev.busRead_of_absent hf ha, Dev.answered]

/-! ### The commands -/

/-- A command of the main domain whose meaning takes the device to `e` does that. -/
theorem Does.of_main_eq {i : Instr} {s : State} {f : Dev → Dev} {e : Dev} (he : exec i s = s.main f)
    (h : s.dev.mainUp = true) (hf : f s.dev = e) : Does i s e :=
  hf ▸ Does.of_main he h

/-- Settles O9: each command is one aligned access, which the bus answers without touching the absent unit. -/
theorem absentUnitAccess : Obligations.AbsentUnitAccess := by
  unfold Obligations.AbsentUnitAccess
  intro s m a v hw hup h4 hsome ha
  have hf : (Reg.find a.toNat).isNone = false := by simpa using hsome
  have hwrite := Dev.access_write_of_absent h4 hf ha m v
  have hread := Dev.access_read_of_absent h4 hf ha m
  constructor
  · simp only [List.forall_mem_cons]
    refine ⟨.of_main_eq (exec_absentUnitAccess ..) hup hwrite, .of_main_eq (exec_registerWrite ..) hup hwrite,
      .of_main_eq (exec_w1cClear ..) hup ?w1c, .of_main_eq (exec_unmappedAccess ..) hup hwrite,
      .of_main_eq (exec_narrowAccess ..) hup ?narrow, List.forall_mem_nil _⟩
    case w1c =>
      simp only [h4, ne_eq, not_true_eq_false, if_false]
      rw [hwrite, Dev.hwSet_of_absent ha]
    case narrow => exact (Dev.narrowAccess_of_aligned h4 m _).trans hwrite
  · simp only [List.forall_mem_cons]
    exact ⟨.of_main_eq (exec_absentUnitAccess ..) hup hread, .of_main_eq (exec_rcRead ..) hup hread,
      .of_main_eq (exec_wideLowWordRead ..) hup hread, .of_main_eq (exec_unmappedAccess ..) hup hread,
      .of_main_eq (exec_narrowAccess ..) hup ((Dev.narrowAccess_of_aligned h4 m _).trans hread), List.forall_mem_nil _⟩

end Sys2Proof.Machine
end

section
/-!
PROOFS. Counted accesses (R39, R40): what an access to an undefined address and a narrow or unaligned one write, how each path of
the bus reaches them, and the two claims about the commands that are such an access.
-/
namespace Sys2Proof.Machine

variable {d d' : Dev} {l l' : List (Fld × Nat)} {a : Nat}

/-! ### Writing fields and answering, in terms of `Dev.Sets` -/

/-- The order in which the fields were written does not matter. -/
theorem Dev.Sets.of_mem_iff (h : d.Sets d' l) (hl : ∀ e, e ∈ l' ↔ e ∈ l) : d.Sets d' l' := by
  obtain ⟨⟨hval, hsame⟩, hrest⟩ := h
  refine ⟨⟨fun e he => hval e ((hl e).1 he), fun k hk => hsame k fun hk' => hk ?_⟩, hrest⟩
  simpa [hl] using hk'

theorem Fld.key_not_mem_cons {f g : Fld} {v : Nat} (hg : f.key ≠ g.key) (hl : f.key ∉ l.map (fun e => e.1.key)) :
    f.key ∉ ((g, v) :: l).map (fun e => e.1.key) :=
  List.not_mem_cons_of_ne_of_not_mem hg hl

/-- A value that fits its field is written as it is. -/
theorem Dev.Sets.put_of_lt (h : d.Sets d' l) (f : Fld) {v : Nat} (hv : v < 2 ^ f.w)
    (hk : f.key ∉ l.map (fun e => e.1.key)) : d.Sets (d'.put f v) ((f, v) :: l) := by
  simpa only [Nat.mod_eq_of_lt hv] using h.put f v hk

/-- A counter that was not yet written counts 1 from its value before, and saturates. -/
theorem Dev.Sets.bump (h : d.Sets d' l) (f : Fld) (hk : f.key ∉ l.map (fun e => e.1.key)) :
    d.Sets (d'.bump f) ((f, min (2 ^ f.w - 1) (d.fld f + 1)) :: l) := by
  have hpos : 0 < 2 ^ f.w := Nat.two_pow_pos _
  rw [Dev.bump, Dev.bumpBy, h.1.fld_eq hk]
  exact h.put_of_lt f (by omega) hk

/-- An answer after the fields were written is the only thing sent. -/
theorem Dev.Sets.emit (h : d.Sets d' l) (e : Emit) :
    d.Sets { d'.emit e with out := d.out } l ∧ (d'.emit e).out = e :: d.out := by
  have hout : d'.out = d.out := congrArg (·.out) h.2
  rw [← hout]
  exact ⟨h, rfl⟩

/-! ### What a counted access writes -/

theorem Master.num_lt (m : Master) : m.num < 4 := by cases m <;> decide

/-- BUS_ADDR records an access of which only the counters of BUS_STAT were written before. -/
theorem Dev.Sets.busAddr (h : d.Sets d' l) (m : Master) {kind both : Nat} (ha : a < 2 ^ 25) (hkind : kind < 2)
    (hboth : both < 2) (hl : ∀ e ∈ l, e.1 = Reg.CHIPCAP_BUS_STAT.UNMAPPED_CNT ∨ e.1 = Reg.CHIPCAP_BUS_STAT.NARROW_CNT) :
    d.Sets (d'.busAddr m a kind both) ((Reg.CHIPCAP_BUS_ADDR.BOTH, both) :: (Reg.CHIPCAP_BUS_ADDR.MASTER, m.num) ::
      (Reg.CHIPCAP_BUS_ADDR.KIND, kind) :: (Reg.CHIPCAP_BUS_ADDR.ADDR, a) :: l) := by
  have hnew {f : Fld} (hf : f.key ≠ Reg.CHIPCAP_BUS_STAT.UNMAPPED_CNT.key ∧ f.key ≠ Reg.CHIPCAP_BUS_STAT.NARROW_CNT.key) :
      f.key ∉ l.map (fun e => e.1.key) := by
    intro hmem
    obtain ⟨e, he, hkey⟩ := List.mem_map.1 hmem
    rcases hl e he with hstat | hstat
    · exact hf.1 (hstat ▸ hkey.symm)
    · exact hf.2 (hstat ▸ hkey.symm)
  have haddr := h.put_of_lt Reg.CHIPCAP_BUS_ADDR.ADDR ha (hnew (by decide))
  have hknd := haddr.put_of_lt Reg.CHIPCAP_BUS_ADDR.KIND hkind
    (Fld.key_not_mem_cons (by decide) (hnew (by decide)))
  have hmst := hknd.put_of_lt Reg.CHIPCAP_BUS_ADDR.MASTER m.num_lt
    (Fld.key_not_mem_cons (by decide) (Fld.key_not_mem_cons (by decide) (hnew (by decide))))
  exact hmst.put_of_lt Reg.CHIPCAP_BUS_ADDR.BOTH hboth
    (Fld.key_not_mem_cons (by decide) (Fld.key_not_mem_cons (by decide)
      (Fld.key_not_mem_cons (by decide) (hnew (by decide)))))

/-- R39: an access to an undefined address counts as unmapped and is recorded with KIND 0. -/
theorem Dev.unmapped_sets (d : Dev) (m : Master) (ha : a < 2 ^ 25) :
    d.Sets (d.unmapped m a) [
      (Reg.CHIPCAP_BUS_STAT.UNMAPPED_CNT, min 65535 (d.fld Reg.CHIPCAP_BUS_STAT.UNMAPPED_CNT + 1)),
      (Reg.CHIPCAP_BUS_ADDR.ADDR, a), (Reg.CHIPCAP_BUS_ADDR.KIND, 0), (Reg.CHIPCAP_BUS_ADDR.MASTER, m.num),
      (Reg.CHIPCAP_BUS_ADDR.BOTH, 0)] := by
  have hcnt := (Dev.Sets.nil d).bump Reg.CHIPCAP_BUS_STAT.UNMAPPED_CNT List.not_mem_nil
  have hrec := hcnt.busAddr m (kind := 0) (both := 0) ha (by decide) (by decide) (by simp)
  exact hrec.of_mem_iff fun e => by simp only [List.mem_cons]; tauto

/-- R40: a narrow or unaligned access is counted and recorded with KIND 1; where the word around it is undefined it counts as
unmapped too, and KIND is 0 with BOTH 1. -/
theorem Dev.narrow_sets (d : Dev) (m : Master) (ha : a < 2 ^ 25) :
    d.Sets (d.narrow m a)
      ((Reg.CHIPCAP_BUS_STAT.NARROW_CNT, min 65535 (d.fld Reg.CHIPCAP_BUS_STAT.NARROW_CNT + 1)) ::
        (Reg.CHIPCAP_BUS_ADDR.ADDR, a) :: (Reg.CHIPCAP_BUS_ADDR.MASTER, m.num) ::
          if (Reg.find (a / 4 * 4)).isSome then [(Reg.CHIPCAP_BUS_ADDR.KIND, 1), (Reg.CHIPCAP_BUS_ADDR.BOTH, 0)]
          else [(Reg.CHIPCAP_BUS_STAT.UNMAPPED_CNT, min 65535 (d.fld Reg.CHIPCAP_BUS_STAT.UNMAPPED_CNT + 1)),
            (Reg.CHIPCAP_BUS_ADDR.KIND, 0), (Reg.CHIPCAP_BUS_ADDR.BOTH, 1)]) := by
  have hcnt := (Dev.Sets.nil d).bump Reg.CHIPCAP_BUS_STAT.NARROW_CNT List.not_mem_nil
  by_cases hf : (Reg.find (a / 4 * 4)).isSome
  · simp only [Dev.narrow, if_pos hf]
    have hrec := hcnt.busAddr m (kind := 1) (both := 0) ha (by decide) (by decide) (by simp)
    exact hrec.of_mem_iff fun e => by simp only [List.mem_cons]; tauto
  · simp only [Dev.narrow, if_neg hf]
    have hboth := hcnt.bump Reg.CHIPCAP_BUS_STAT.UNMAPPED_CNT (Fld.key_not_mem_cons (by decide) List.not_mem_nil)
    have hrec := hboth.busAddr m (kind := 0) (both := 1) ha (by decide) (by decide) (by simp)
    exact hrec.of_mem_iff fun e => by simp only [List.mem_cons]; tauto

/-! ### Which accesses are counted -/

theorem Dev.access_write_of_undefined (h4 : a % 4 = 0) (hf : Reg.find a = none) (m : Master) (v : Word) :
    d.access m a (.write v) = d.unmapped m a := by
  rw [Dev.access_write_of_aligned h4, Dev.busWrite, hf]; rfl

theorem Dev.access_read_of_undefined (h4 : a % 4 = 0) (hf : Reg.find a = none) (m : Master) :
    d.access m a .read = (d.unmapped m a).emit (.busRead m a 0) := by
  rw [Dev.access_read_of_aligned h4, Dev.busRead, hf]; rfl

/-- No event bit of hardware stands at an undefined address. -/
theorem Dev.hwSet_of_undefined (hf : Reg.find a = none) (hw : Nat) : d.hwSet a hw = d := by
  rw [Dev.hwSet, hf]

theorem Dev.access_write_of_unaligned (h4 : a % 4 ≠ 0) (m : Master) (v : Word) :
    d.access m a (.write v) = d.narrow m a := by
  rw [Dev.access, if_pos h4]

theorem Dev.access_read_of_unaligned (h4 : a % 4 ≠ 0) (m : Master) :
    d.access m a .read = (d.narrow m a).emit (.busRead m a (BitVec.ofNat 32 (d.peek m (a / 4 * 4)))) := by
  rw [Dev.access, if_pos h4]

/-- An access that really is narrow or unaligned is not an ordinary one. -/
theorem narrow_test_false {k : Narrow} (hk : k = .wordUnaligned → a % 4 ≠ 0) :
    ¬ (k == .wordUnaligned && a % 4 == 0) = true := by
  simpa using hk

theorem Dev.narrowAccess_write {k : Narrow} (hk : k = .wordUnaligned → a % 4 ≠ 0) (m : Master) (v : Word) :
    d.narrowAccess m a k (.write v) = d.narrow m a := by
  rw [Dev.narrowAccess, if_neg (narrow_test_false hk)]

theorem Dev.narrowAccess_read {k : Narrow} (hk : k = .wordUnaligned → a % 4 ≠ 0) (m : Master) :
    d.narrowAccess m a k .read = (d.narrow m a).emit (.busRead m a (BitVec.ofNat 32 (d.peek m (a / 4 * 4)))) := by
  rw [Dev.narrowAccess, if_neg (narrow_test_false hk)]

/-! ### The commands -/

/-- A command of the main domain that takes the device to `e` has what holds of `e` as its effect. -/
theorem Effect.of_main_eq {i : Instr} {s : State} {f : Dev → Dev} {e : Dev} {P : Dev → Prop} (hup : s.dev.mainUp = true)
    (hP : P e) (he : exec i s = s.main f) (hf : f s.dev = e) : Effect i s P :=
  ⟨e, .of_main_eq he hup hf, hP⟩

/-- Settles O8: each command is one aligned access, which the bus counts as unmapped and, if it is a read, answers with 0. -/
theorem unmappedAccessIsCounted : Obligations.UnmappedAccessIsCounted := by
  unfold Obligations.UnmappedAccessIsCounted
  intro s m a v hw hup h4 hf w
  have hsets : s.dev.Sets (s.dev.unmapped m a.toNat) w := s.dev.unmapped_sets m a.isLt
  have hwrite := Dev.access_write_of_undefined (d := s.dev) h4 hf m v
  have hread := Dev.access_read_of_undefined (d := s.dev) h4 hf m
  constructor
  · have counted {i : Instr} {f : Dev → Dev} := Effect.of_main_eq (i := i) (f := f) (P := (s.dev.Sets · w)) hup hsets
    simp only [List.forall_mem_cons]
    refine ⟨counted (exec_registerWrite ..) hwrite, counted (exec_w1cClear ..) ?w1c,
      counted (exec_absentUnitAccess ..) hwrite, counted (exec_unmappedAccess ..) hwrite, List.forall_mem_nil _⟩
    case w1c =>
      simp only [h4, ne_eq, not_true_eq_false, if_false]
      rw [hwrite, Dev.hwSet_of_undefined hf]
  · have counted {i : Instr} {f : Dev → Dev} := Effect.of_main_eq (i := i) (f := f)
      (P := fun d => s.dev.Sets { d with out := s.dev.out } w ∧ d.out = .busRead m a.toNat 0 :: s.dev.out)
      hup (hsets.emit (.busRead m a.toNat 0))
    simp only [List.forall_mem_cons]
    exact ⟨counted (exec_rcRead ..) hread, counted (exec_wideLowWordRead ..) hread,
      counted (exec_absentUnitAccess ..) hread, counted (exec_unmappedAccess ..) hread, List.forall_mem_nil _⟩

/-- Settles O10: a narrow access and a word access to an unaligned address are both `Dev.narrow`, followed in a read by the answer
`Dev.peek`, which is the obligation's `x`. -/
theorem narrowAccessIsCounted : Obligations.NarrowAccessIsCounted := by
  unfold Obligations.NarrowAccessIsCounted
  intro s m a k v hw hup w l x wr rd
  have hsets : s.dev.Sets (s.dev.narrow m a.toNat) l := s.dev.narrow_sets m a.isLt
  have written {i : Instr} {f : Dev → Dev} : exec i s = s.main f → f s.dev = _ → wr i := Effect.of_main_eq hup hsets
  have answered {i : Instr} {f : Dev → Dev} : exec i s = s.main f → f s.dev = _ → rd i :=
    Effect.of_main_eq hup (hsets.emit (.busRead m a.toNat (BitVec.ofNat 32 x)))
  refine ⟨fun hk => ⟨written (exec_narrowAccess ..) (Dev.narrowAccess_write hk m v),
    answered (exec_narrowAccess ..) (Dev.narrowAccess_read hk m)⟩, fun h4 => ?_⟩
  have hwrite := Dev.access_write_of_unaligned (d := s.dev) h4 m v
  have hread := Dev.access_read_of_unaligned (d := s.dev) h4 m
  constructor
  · simp only [List.forall_mem_cons]
    exact ⟨written (exec_registerWrite ..) hwrite, written (exec_w1cClear ..) ((if_pos h4).trans hwrite),
      written (exec_absentUnitAccess ..) hwrite, written (exec_unmappedAccess ..) hwrite, List.forall_mem_nil _⟩
  · simp only [List.forall_mem_cons]
    exact ⟨answered (exec_rcRead ..) hread, answered (exec_wideLowWordRead ..) hread,
      answered (exec_absentUnitAccess ..) hread, answered (exec_unmappedAccess ..) hread, List.forall_mem_nil _⟩

end Sys2Proof.Machine
end

section
/-!
PROOFS. What holds of every command and of every step: the answer, the canonical form, the part and the fuses (from the
lemmas `exec<Command>_answers`), the domain that a command belongs to, and the cycle that passes when no command waits.
-/
namespace Sys2Proof.Machine

/-! ### Every command answers -/

/-- A command answers a next state that keeps the queue, the part, the blown fuses and the canonical form. -/
theorem exec_answers (s : State) : ∀ i : Instr, s.Answers (exec i s)
  | .registerWrite .. => execRegisterWrite_answers _ _ _ s
  | .w1cClear .. => execW1cClear_answers _ _ _ _ s
  | .rcRead .. => execRcRead_answers _ _ s
  | .wideLowWordRead .. => execWideLowWordRead_answers _ _ s
  | .absentUnitAccess .. => execAbsentUnitAccess_answers _ _ _ s
  | .unmappedAccess .. => execUnmappedAccess_answers _ _ _ s
  | .narrowAccess .. => execNarrowAccess_answers _ _ _ _ s
  | .cremaPowerOnReset => execCremaPowerOnReset_answers s
  | .cremaPorEnd => execCremaPorEnd_answers s
  | .porstNAssert => execPorstNAssert_answers s
  | .porstNRelease .. => execPorstNRelease_answers _ s
  | .resetNAssert => execResetNAssert_answers s
  | .resetNRelease => execResetNRelease_answers s
  | .chipReset .. => execChipReset_answers _ _ s
  | .blockRstLn .. => execBlockRstLn_answers _ s
  | .blockRstRp .. => execBlockRstRp_answers _ s
  | .blockRstCph .. => execBlockRstCph_answers _ s
  | .blockRstHif .. => execBlockRstHif_answers _ s
  | .pcieReset => execPcieReset_answers s
  | .functionLevelReset => execFunctionLevelReset_answers s
  | .testEnAssert .. => execTestEnAssert_answers _ _ s
  | .recircTokenGain => execRecircTokenGain_answers s
  | .hostTokenGain => execHostTokenGain_answers s
  | .slotGrant .. => execSlotGrant_answers _ _ s
  | .inputBufferArrival .. => execInputBufferArrival_answers _ _ _ s
  | .rxEnWrite .. => execRxEnWrite_answers _ _ _ s
  | .eqAcqDone .. => execEqAcqDone_answers _ s
  | .ffeWrite .. => execFfeWrite_answers _ _ _ _ s
  | .ffeSnapshotRead .. => execFfeSnapshotRead_answers _ _ s
  | .eqPreset .. => execEqPreset_answers _ _ _ s
  | .lineSdChange .. => execLineSdChange_answers _ _ s
  | .dsdRaise .. => execDsdRaise_answers _ s
  | .dsdClear .. => execDsdClear_answers _ s
  | .lolRaise .. => execLolRaise_answers _ s
  | .lolClear .. => execLolClear_answers _ s
  | .huntRestart .. => execHuntRestart_answers _ _ _ s
  | .huntMatch .. => execHuntMatch_answers _ _ _ _ _ s
  | .candidateCheck .. => execCandidateCheck_answers _ _ _ _ _ s
  | .ambigRaise .. => execAmbigRaise_answers _ s
  | .framePsync .. => execFramePsync_answers _ _ _ _ _ _ s
  | .codewordDecision .. => execCodewordDecision_answers _ _ s
  | .fsHeaderReceived .. => execFsHeaderReceived_answers _ s
  | .xgemHeader .. => execXgemHeader_answers _ _ _ s
  | .xportWrite .. => execXportWrite_answers _ _ _ _ s
  | .traceCtrlWrite .. => execTraceCtrlWrite_answers _ _ _ s
  | .pmLatch .. => execPmLatch_answers _ s
  | .pmSelWrite .. => execPmSelWrite_answers _ _ _ s
  | .tenderLockstepError => execTenderLockstepError_answers s
  | .tenderRestart .. => execTenderRestart_answers _ s
  | .actEnable .. => execActEnable_answers _ _ s
  | .actDisable .. => execActDisable_answers _ _ s
  | .lodsTimeout .. => execLodsTimeout_answers _ s
  | .to1Expiry .. => execTo1Expiry_answers _ s
  | .to2Expiry .. => execTo2Expiry_answers _ s
  | .burstProfile .. => execBurstProfile_answers _ _ _ s
  | .assignOnuId .. => execAssignOnuId_answers _ _ _ s
  | .rangingTime .. => execRangingTime_answers _ _ _ s
  | .deactivateOnuId .. => execDeactivateOnuId_answers _ _ s
  | .disableSerialNumber .. => execDisableSerialNumber_answers _ _ _ _ s
  | .requestRegistration .. => execRequestRegistration_answers _ _ s
  | .assignAllocId .. => execAssignAllocId_answers _ _ _ _ s
  | .keyControl .. => execKeyControl_answers _ _ _ s
  | .systemProfile .. => execSystemProfile_answers _ _ _ s
  | .channelProfile .. => execChannelProfile_answers _ _ _ s
  | .changePowerLevel .. => execChangePowerLevel_answers _ _ _ s
  | .protectionControl .. => execProtectionControl_answers _ _ s
  | .sleepAllow .. => execSleepAllow_answers _ _ s
  | .calibrationRequest .. => execCalibrationRequest_answers _ _ s
  | .adjustTxWavelength .. => execAdjustTxWavelength_answers _ _ s
  | .tuningControl .. => execTuningControl_answers _ _ s
  | .ploamAnswerReady .. => execPloamAnswerReady_answers _ s
  | .pwrLvlAppliedWrite .. => execPwrLvlAppliedWrite_answers _ _ _ s
  | .pwrLvlTimeout .. => execPwrLvlTimeout_answers _ s
  | .bandwidthMapParse .. => execBandwidthMapParse_answers _ _ s
  | .burstSeal .. => execBurstSeal_answers _ _ s
  | .burstTransmit .. => execBurstTransmit_answers _ _ s
  | .prestageFill .. => execPrestageFill_answers _ _ _ s
  | .cbSidingReadDone .. => execCbSidingReadDone_answers _ _ s
  | .allocTcontWrite .. => execAllocTcontWrite_answers _ _ _ _ s
  | .omciRx .. => execOmciRx_answers _ s
  | .txmsgHandoff .. => execTxmsgHandoff_answers _ _ _ s
  | .lineModeWrite .. => execLineModeWrite_answers _ _ s
  | .bondGroupEnable .. => execBondGroupEnable_answers _ _ _ s
  | .bondGroupDisable .. => execBondGroupDisable_answers _ _ _ s
  | .bondUnitRx .. => execBondUnitRx_answers _ _ s
  | .bondStartTimerExpiry .. => execBondStartTimerExpiry_answers _ s
  | .bondWindowExpiry .. => execBondWindowExpiry_answers _ s
  | .fastDefHoldoffExpiry .. => execFastDefHoldoffExpiry_answers _ _ s
  | .protAutoSwitch => execProtAutoSwitch_answers s
  | .protManualSwitch .. => execProtManualSwitch_answers _ _ s
  | .protForcedSwitch .. => execProtForcedSwitch_answers _ _ s
  | .protSwitchComplete => execProtSwitchComplete_answers s
  | .trefTrackResume => execTrefTrackResume_answers s
  | .loadPlain .. => execLoadPlain_answers _ _ s
  | .loadDev .. => execLoadDev_answers _ _ s
  | .loadLink .. => execLoadLink_answers _ _ s
  | .generate .. => execGenerate_answers _ _ s
  | .invalidate .. => execInvalidate_answers _ _ s
  | .keyCmdDone => execKeyCmdDone_answers s
  | .lineKeySwArm .. => execLineKeySwArm_answers _ _ _ s
  | .rsrKeySwArm .. => execRsrKeySwArm_answers _ _ _ s
  | .rsrKeySwitch .. => execRsrKeySwitch_answers _ _ s
  | .wagonVerdict .. => execWagonVerdict_answers _ s
  | .ingressPassEnd .. => execIngressPassEnd_answers _ _ s
  | .recircReturn .. => execRecircReturn_answers _ s
  | .recircTimeout .. => execRecircTimeout_answers _ s
  | .pclStageWrite .. => execPclStageWrite_answers _ _ _ s
  | .pclStageDelete .. => execPclStageDelete_answers _ _ _ s
  | .pclStageRevert .. => execPclStageRevert_answers _ _ _ s
  | .pclRead .. => execPclRead_answers _ _ _ _ s
  | .pclReadLoc .. => execPclReadLoc_answers _ _ _ _ s
  | .pclDiscardRejected .. => execPclDiscardRejected_answers _ s
  | .tblCmdDone .. => execTblCmdDone_answers _ s
  | .scrubDone .. => execScrubDone_answers _ s
  | .bucketRefill .. => execBucketRefill_answers _ _ s
  | .bucketReset .. => execBucketReset_answers _ _ _ s
  | .queueFlush .. => execQueueFlush_answers _ _ s
  | .readLevel .. => execReadLevel_answers _ _ _ s
  | .tmgStageWrite .. => execTmgStageWrite_answers _ _ _ s
  | .tmgStageDelete .. => execTmgStageDelete_answers _ _ _ s
  | .tmgStageRevert .. => execTmgStageRevert_answers _ _ _ s
  | .tmgRead .. => execTmgRead_answers _ _ _ _ s
  | .tmgDiscardRejected .. => execTmgDiscardRejected_answers _ s
  | .sidingReturn .. => execSidingReturn_answers _ s
  | .sidingReadDone .. => execSidingReadDone_answers _ _ s
  | .bufCfgWrite .. => execBufCfgWrite_answers _ _ s
  | .sidingCfgWrite .. => execSidingCfgWrite_answers _ _ s
  | .sidingDisableApply => execSidingDisableApply_answers s
  | .tcontOccUpdate .. => execTcontOccUpdate_answers _ s
  | .tcontOccRead .. => execTcontOccRead_answers _ _ s
  | .laneCtrlWrite .. => execLaneCtrlWrite_answers _ _ _ s
  | .inbandWordChange .. => execInbandWordChange_answers _ _ _ s
  | .portLinkChange .. => execPortLinkChange_answers _ _ s
  | .macFrameRx .. => execMacFrameRx_answers _ _ _ _ _ _ _ s
  | .pauseTimerExpiry .. => execPauseTimerExpiry_answers _ _ _ s
  | .fcRefreshExpiry .. => execFcRefreshExpiry_answers _ _ _ s
  | .portFrameRequest .. => execPortFrameRequest_answers _ _ _ s
  | .frameTxStart .. => execFrameTxStart_answers _ _ _ _ s
  | .txUnderrun .. => execTxUnderrun_answers _ _ _ s
  | .frameTxEnd .. => execFrameTxEnd_answers _ _ _ s
  | .gateStateChange .. => execGateStateChange_answers _ _ _ s
  | .ttStageWrite .. => execTtStageWrite_answers _ _ _ s
  | .ttStageDelete .. => execTtStageDelete_answers _ _ _ s
  | .ttStageRevert .. => execTtStageRevert_answers _ _ _ s
  | .ttRead .. => execTtRead_answers _ _ _ _ s
  | .ttDiscardRejected .. => execTtDiscardRejected_answers _ s
  | .lpiEntry .. => execLpiEntry_answers _ _ s
  | .lpiRxChange .. => execLpiRxChange_answers _ _ _ s
  | .nowRead .. => execNowRead_answers _ _ _ s
  | .stepGo .. => execStepGo_answers _ _ _ s
  | .todArm .. => execTodArm_answers _ s
  | .todSampleCapture .. => execTodSampleCapture_answers _ _ _ s
  | .todSampleEvaluate .. => execTodSampleEvaluate_answers _ s
  | .slewComplete .. => execSlewComplete_answers _ s
  | .rateWrite .. => execRateWrite_answers _ _ _ s
  | .xferParamWrite .. => execXferParamWrite_answers _ _ _ s
  | .pllCtrlWrite .. => execPllCtrlWrite_answers _ _ s
  | .pllRefQualified => execPllRefQualified_answers s
  | .pllLockAchieved => execPllLockAchieved_answers s
  | .pllRefUnqualified => execPllRefUnqualified_answers s
  | .ppsOutPulse .. => execPpsOutPulse_answers _ s
  | .ppsWidthExpiry .. => execPpsWidthExpiry_answers _ s
  | .ppsInEdge .. => execPpsInEdge_answers _ _ _ s
  | .signalDetectChange .. => execSignalDetectChange_answers _ _ s
  | .slAdaptDone .. => execSlAdaptDone_answers _ _ _ s
  | .ladderStart .. => execLadderStart_answers _ _ _ s
  | .ladderRestart .. => execLadderRestart_answers _ _ _ s
  | .ladderDwellExpiry .. => execLadderDwellExpiry_answers _ _ s
  | .txeqWrite .. => execTxeqWrite_answers _ _ _ s
  | .eyeScanStart .. => execEyeScanStart_answers _ _ _ s
  | .eyeScanDone .. => execEyeScanDone_answers _ _ s
  | .patSyncGain .. => execPatSyncGain_answers _ s
  | .patSyncLoss .. => execPatSyncLoss_answers _ _ s
  | .forwardedClockLoss .. => execForwardedClockLoss_answers _ s
  | .forwardedClockOk .. => execForwardedClockOk_answers _ s
  | .pageAccept .. => execPageAccept_answers _ _ s
  | .pageExchangeDone .. => execPageExchangeDone_answers _ s
  | .switchSuspendExpiry .. => execSwitchSuspendExpiry_answers _ s
  | .switchTimeout .. => execSwitchTimeout_answers _ s
  | .trainTimerExpiry .. => execTrainTimerExpiry_answers _ _ _ s
  | .riserCdrUnlock .. => execRiserCdrUnlock_answers _ _ s
  | .failRetryExpiry .. => execFailRetryExpiry_answers _ s
  | .phyRestart .. => execPhyRestart_answers _ _ _ s
  | .sleepEntry .. => execSleepEntry_answers _ s
  | .wakeRequest .. => execWakeRequest_answers _ s
  | .wakeGrant => execWakeGrant_answers s
  | .wakeComplete .. => execWakeComplete_answers _ s
  | .wagonSend .. => execWagonSend_answers _ _ _ s
  | .wagonRx .. => execWagonRx_answers _ _ _ _ _ s
  | .rdReq .. => execRdReq_answers _ _ s
  | .wrReq .. => execWrReq_answers _ _ s
  | .resp .. => execResp_answers _ _ s
  | .event .. => execEvent_answers _ _ s
  | .probe .. => execProbe_answers _ _ s
  | .probeReply .. => execProbeReply_answers _ _ s
  | .homing .. => execHoming_answers _ _ s
  | .sync .. => execSync_answers _ _ _ _ s
  | .follow .. => execFollow_answers _ _ s
  | .dreq .. => execDreq_answers _ _ _ _ s
  | .dresp .. => execDresp_answers _ _ s
  | .gopArm .. => execGopArm_answers _ _ s
  | .gopCancel .. => execGopCancel_answers _ _ s
  | .gopReport .. => execGopReport_answers _ _ s
  | .raccGo .. => execRaccGo_answers _ _ _ s
  | .raccTimeout .. => execRaccTimeout_answers _ s
  | .evtRepeatExpiry => execEvtRepeatExpiry_answers s
  | .probeGo .. => execProbeGo_answers _ _ s
  | .probeTimeout => execProbeTimeout_answers s
  | .xferSyncTimer => execXferSyncTimer_answers s
  | .xferExchangeTimeout => execXferExchangeTimeout_answers s
  | .pairSwitch .. => execPairSwitch_answers _ s
  | .gopGo .. => execGopGo_answers _ _ _ s
  | .gopAbort .. => execGopAbort_answers _ _ _ s
  | .gopCancelPoint .. => execGopCancelPoint_answers _ s
  | .gopExecute .. => execGopExecute_answers _ s
  | .domainBind .. => execDomainBind_answers _ _ _ s
  | .ringEnable .. => execRingEnable_answers _ _ _ s
  | .ringDisable .. => execRingDisable_answers _ _ s
  | .ringStopDone .. => execRingStopDone_answers _ s
  | .doorbellChange .. => execDoorbellChange_answers _ _ _ s
  | .doorbellPoll .. => execDoorbellPoll_answers _ s
  | .pollCompletion .. => execPollCompletion_answers _ _ _ _ s
  | .pollBackoff .. => execPollBackoff_answers _ s
  | .txfFrameFetch .. => execTxfFrameFetch_answers _ _ s
  | .txfFrameReadDone .. => execTxfFrameReadDone_answers _ _ _ s
  | .statusLineWrite .. => execStatusLineWrite_answers _ s
  | .evtModTimerExpiry .. => execEvtModTimerExpiry_answers _ s
  | .rxStarveTimeout .. => execRxStarveTimeout_answers _ s
  | .irqResendExpiry .. => execIrqResendExpiry_answers _ s
  | .dmaError .. => execDmaError_answers _ _ s
  | .pollError .. => execPollError_answers _ s
  | .pollErrClear .. => execPollErrClear_answers _ _ s
  | .pcieLinkChange .. => execPcieLinkChange_answers _ _ _ s
  | .commit .. => execCommit_answers _ _ _ _ s
  | .commitAt .. => execCommitAt_answers _ _ _ _ s
  | .abort .. => execAbort_answers _ _ s
  | .confirm .. => execConfirm_answers _ _ s
  | .rollback .. => execRollback_answers _ _ s
  | .renumber .. => execRenumber_answers _ s
  | .discard .. => execDiscard_answers _ s
  | .commitValidated .. => execCommitValidated_answers _ s
  | .commitAtInstant .. => execCommitAtInstant_answers _ s
  | .confirmTimeout .. => execConfirmTimeout_answers _ s
  | .rollbackRevertDone => execRollbackRevertDone_answers s
  | .discardDone => execDiscardDone_answers s
  | .fwConfirm .. => execFwConfirm_answers _ _ s
  | .fwTrialTimeout => execFwTrialTimeout_answers s
  | .bootRecordWriteDone => execBootRecordWriteDone_answers s
  | .dmcEnable .. => execDmcEnable_answers _ _ s
  | .dmcRgnWrite .. => execDmcRgnWrite_answers _ _ _ s
  | .dmcInit .. => execDmcInit_answers _ _ s
  | .dmcInitDone .. => execDmcInitDone_answers _ _ s
  | .dmcRequest .. => execDmcRequest_answers _ _ _ _ _ _ s
  | .regulatorRefill => execRegulatorRefill_answers s
  | .dmcCommandSlot .. => execDmcCommandSlot_answers _ _ _ s
  | .dmcReadComplete .. => execDmcReadComplete_answers _ _ _ s
  | .refreshDue .. => execRefreshDue_answers _ s
  | .mr4PollDue .. => execMr4PollDue_answers _ s
  | .mr4Result .. => execMr4Result_answers _ _ _ s
  | .retrainDue .. => execRetrainDue_answers _ s
  | .retrainForce .. => execRetrainForce_answers _ s
  | .phaseSamplingDone .. => execPhaseSamplingDone_answers _ s
  | .vsetWrite .. => execVsetWrite_answers _ _ _ s
  | .railGood .. => execRailGood_answers _ _ s
  | .railFault .. => execRailFault_answers _ _ _ s
  | .faultRetryExpiry => execFaultRetryExpiry_answers s
  | .hpPresentChange .. => execHpPresentChange_answers _ s
  | .hpDebounceExpiry => execHpDebounceExpiry_answers s
  | .stageStart => execStageStart_answers s
  | .hpGraceExpiry => execHpGraceExpiry_answers s
  | .powerDownStage => execPowerDownStage_answers s
  | .pwrOff .. => execPwrOff_answers _ _ s
  | .offHoldExpiry => execOffHoldExpiry_answers s
  | .dyingGaspRaise .. => execDyingGaspRaise_answers _ s
  | .dyingGaspWithdraw => execDyingGaspWithdraw_answers s
  | .sliceGate .. => execSliceGate_answers _ _ s
  | .thermalConversion .. => execThermalConversion_answers _ s
  | .thermalRecovery => execThermalRecovery_answers s
  | .rtcSecWrite .. => execRtcSecWrite_answers _ _ s
  | .wdogKick .. => execWdogKick_answers _ _ s
  | .wdogTimeoutWrite .. => execWdogTimeoutWrite_answers _ _ s
  | .wdogExpiry => execWdogExpiry_answers s
  | .bootRomStart .. => execBootRomStart_answers _ _ _ s
  | .bootComplete .. => execBootComplete_answers _ s
  | .attest .. => execAttest_answers _ s
  | .measExtend .. => execMeasExtend_answers _ s
  | .dbgOpen .. => execDbgOpen_answers _ s
  | .arbAdvance .. => execArbAdvance_answers _ _ s
  | .keyRevoke .. => execKeyRevoke_answers _ _ s
  | .truCmdDone .. => execTruCmdDone_answers _ s
  | .dbgChallengeRead .. => execDbgChallengeRead_answers _ s
  | .rngRead .. => execRngRead_answers _ _ s
  | .rngHealthFail => execRngHealthFail_answers s
  | .cvuStart .. => execCvuStart_answers _ _ _ s
  | .cvuCheck .. => execCvuCheck_answers _ _ _ s
  | .cvuAbandon .. => execCvuAbandon_answers _ _ _ s
  | .cvuDataB .. => execCvuDataB_answers _ _ _ s
  | .cvuDataH .. => execCvuDataH_answers _ _ _ s
  | .cvuDataW .. => execCvuDataW_answers _ _ _ s
  | .cvuResultRead .. => execCvuResultRead_answers _ _ _ s
  | .ckoChange .. => execCkoChange_answers _ _ _ s
  | .debugReset .. => execDebugReset_answers _ _ s
  | .tapReset => execTapReset_answers s
  | .idcode => execIdcode_answers s
  | .samplePreload .. => execSamplePreload_answers _ _ s
  | .extest => execExtest_answers s
  | .extestPulse => execExtestPulse_answers s
  | .extestTrain => execExtestTrain_answers s
  | .highz => execHighz_answers s
  | .clamp => execClamp_answers s
  | .truAccess => execTruAccess_answers s
  | .truAccessUpdate .. => execTruAccessUpdate_answers _ s
  | .truAccessDone => execTruAccessDone_answers s
  | .brewhouseDebugPort => execBrewhouseDebugPort_answers s
  | .tenderDebugPort => execTenderDebugPort_answers s
  | .internalScan => execInternalScan_answers s
  | .bypass => execBypass_answers s
  | .i2cGo .. => execI2cGo_answers _ _ _ s
  | .i2cDone .. => execI2cDone_answers _ _ _ s
  | .mdioGo .. => execMdioGo_answers _ _ _ s
  | .mdioDone .. => execMdioDone_answers _ _ s
  | .ploamTypeNotHandled .. => execPloamTypeNotHandled_answers _ _ s
  | .laneSyncChange .. => execLaneSyncChange_answers _ _ _ _ _ _ _ s
  | .pcieConfigWrite .. => execPcieConfigWrite_answers _ s
  | .xtOkChange .. => execXtOkChange_answers _ s

/-- A step answers a next state whose device is kept. -/
theorem step_kept {s t : State} (h : step s = .next t) : Dev.Kept s.dev t.dev := by
  unfold step at h
  split at h
  · cases h
    exact Dev.tick_kept (.refl _)
  · next c r _ =>
    obtain ⟨d, hd, hk⟩ := exec_answers { s with pending := r } c
    cases hd.symm.trans h
    exact hk

/-- Settles O3: an answer, by `exec_answers`, keeps the queue. -/
theorem everyCommandAnswers : Obligations.EveryCommandAnswers := fun i s =>
  let ⟨_, hd, _⟩ := exec_answers s i
  ⟨_, hd, rfl⟩

/-- Settles O5. -/
theorem stepKeepsInv : Obligations.StepKeepsInv := fun _ _ hinv hstep => (step_kept hstep).2.2 hinv

/-- Settles O6. -/
theorem stepKeepsPartAndFuses : Obligations.StepKeepsPartAndFuses :=
  ⟨fun _ _ hstep => (step_kept hstep).2.1, fun _ _ hstep => (step_kept hstep).1⟩

/-! ### The domain of a command -/

/-- A command is a function of the main domain, one of the Crema domain, or one of the pins. -/
theorem exec_domain (s : State) : ∀ i : Instr,
    (∃ f, exec i s = s.main f) ∨ (ofCrema i = true ∧ ∃ f, exec i s = s.crema f) ∨ ofPins i = true
  | .registerWrite .. => .inl ⟨_, exec_registerWrite ..⟩
  | .w1cClear .. => .inl ⟨_, exec_w1cClear ..⟩
  | .rcRead .. => .inl ⟨_, exec_rcRead ..⟩
  | .wideLowWordRead .. => .inl ⟨_, exec_wideLowWordRead ..⟩
  | .absentUnitAccess .. => .inl ⟨_, exec_absentUnitAccess ..⟩
  | .unmappedAccess .. => .inl ⟨_, exec_unmappedAccess ..⟩
  | .narrowAccess .. => .inl ⟨_, exec_narrowAccess ..⟩
  | .chipReset .. => .inl ⟨_, exec_chipReset ..⟩
  | .blockRstLn .. => .inl ⟨_, exec_blockRstLn ..⟩
  | .blockRstRp .. => .inl ⟨_, exec_blockRstRp ..⟩
  | .blockRstCph .. => .inl ⟨_, exec_blockRstCph ..⟩
  | .blockRstHif .. => .inl ⟨_, exec_blockRstHif ..⟩
  | .pcieReset => .inl ⟨_, exec_pcieReset s⟩
  | .functionLevelReset => .inl ⟨_, exec_functionLevelReset s⟩
  | .recircTokenGain => .inl ⟨_, exec_recircTokenGain s⟩
  | .hostTokenGain => .inl ⟨_, exec_hostTokenGain s⟩
  | .slotGrant .. => .inl ⟨_, exec_slotGrant ..⟩
  | .inputBufferArrival .. => .inl ⟨_, exec_inputBufferArrival ..⟩
  | .rxEnWrite .. => .inl ⟨_, exec_rxEnWrite ..⟩
  | .eqAcqDone .. => .inl ⟨_, exec_eqAcqDone ..⟩
  | .ffeWrite .. => .inl ⟨_, exec_ffeWrite ..⟩
  | .ffeSnapshotRead .. => .inl ⟨_, exec_ffeSnapshotRead ..⟩
  | .eqPreset .. => .inl ⟨_, exec_eqPreset ..⟩
  | .dsdRaise .. => .inl ⟨_, exec_dsdRaise ..⟩
  | .dsdClear .. => .inl ⟨_, exec_dsdClear ..⟩
  | .lolRaise .. => .inl ⟨_, exec_lolRaise ..⟩
  | .lolClear .. => .inl ⟨_, exec_lolClear ..⟩
  | .huntRestart .. => .inl ⟨_, exec_huntRestart ..⟩
  | .huntMatch .. => .inl ⟨_, exec_huntMatch ..⟩
  | .candidateCheck .. => .inl ⟨_, exec_candidateCheck ..⟩
  | .ambigRaise .. => .inl ⟨_, exec_ambigRaise ..⟩
  | .framePsync .. => .inl ⟨_, exec_framePsync ..⟩
  | .codewordDecision .. => .inl ⟨_, exec_codewordDecision ..⟩
  | .fsHeaderReceived .. => .inl ⟨_, exec_fsHeaderReceived ..⟩
  | .xgemHeader .. => .inl ⟨_, exec_xgemHeader ..⟩
  | .xportWrite .. => .inl ⟨_, exec_xportWrite ..⟩
  | .traceCtrlWrite .. => .inl ⟨_, exec_traceCtrlWrite ..⟩
  | .pmLatch .. => .inl ⟨_, exec_pmLatch ..⟩
  | .pmSelWrite .. => .inl ⟨_, exec_pmSelWrite ..⟩
  | .tenderLockstepError => .inl ⟨_, exec_tenderLockstepError s⟩
  | .tenderRestart .. => .inl ⟨_, exec_tenderRestart ..⟩
  | .actEnable .. => .inl ⟨_, exec_actEnable ..⟩
  | .actDisable .. => .inl ⟨_, exec_actDisable ..⟩
  | .lodsTimeout .. => .inl ⟨_, exec_lodsTimeout ..⟩
  | .to1Expiry .. => .inl ⟨_, exec_to1Expiry ..⟩
  | .to2Expiry .. => .inl ⟨_, exec_to2Expiry ..⟩
  | .burstProfile .. => .inl ⟨_, exec_burstProfile ..⟩
  | .assignOnuId .. => .inl ⟨_, exec_assignOnuId ..⟩
  | .rangingTime .. => .inl ⟨_, exec_rangingTime ..⟩
  | .deactivateOnuId .. => .inl ⟨_, exec_deactivateOnuId ..⟩
  | .disableSerialNumber .. => .inl ⟨_, exec_disableSerialNumber ..⟩
  | .requestRegistration .. => .inl ⟨_, exec_requestRegistration ..⟩
  | .assignAllocId .. => .inl ⟨_, exec_assignAllocId ..⟩
  | .keyControl .. => .inl ⟨_, exec_keyControl ..⟩
  | .systemProfile .. => .inl ⟨_, exec_systemProfile ..⟩
  | .channelProfile .. => .inl ⟨_, exec_channelProfile ..⟩
  | .changePowerLevel .. => .inl ⟨_, exec_changePowerLevel ..⟩
  | .protectionControl .. => .inl ⟨_, exec_protectionControl ..⟩
  | .sleepAllow .. => .inl ⟨_, exec_sleepAllow ..⟩
  | .calibrationRequest .. => .inl ⟨_, exec_calibrationRequest ..⟩
  | .adjustTxWavelength .. => .inl ⟨_, exec_adjustTxWavelength ..⟩
  | .tuningControl .. => .inl ⟨_, exec_tuningControl ..⟩
  | .ploamAnswerReady .. => .inl ⟨_, exec_ploamAnswerReady ..⟩
  | .pwrLvlAppliedWrite .. => .inl ⟨_, exec_pwrLvlAppliedWrite ..⟩
  | .pwrLvlTimeout .. => .inl ⟨_, exec_pwrLvlTimeout ..⟩
  | .bandwidthMapParse .. => .inl ⟨_, exec_bandwidthMapParse ..⟩
  | .burstSeal .. => .inl ⟨_, exec_burstSeal ..⟩
  | .burstTransmit .. => .inl ⟨_, exec_burstTransmit ..⟩
  | .prestageFill .. => .inl ⟨_, exec_prestageFill ..⟩
  | .cbSidingReadDone .. => .inl ⟨_, exec_cbSidingReadDone ..⟩
  | .allocTcontWrite .. => .inl ⟨_, exec_allocTcontWrite ..⟩
  | .omciRx .. => .inl ⟨_, exec_omciRx ..⟩
  | .txmsgHandoff .. => .inl ⟨_, exec_txmsgHandoff ..⟩
  | .lineModeWrite .. => .inl ⟨_, exec_lineModeWrite ..⟩
  | .bondGroupEnable .. => .inl ⟨_, exec_bondGroupEnable ..⟩
  | .bondGroupDisable .. => .inl ⟨_, exec_bondGroupDisable ..⟩
  | .bondUnitRx .. => .inl ⟨_, exec_bondUnitRx ..⟩
  | .bondStartTimerExpiry .. => .inl ⟨_, exec_bondStartTimerExpiry ..⟩
  | .bondWindowExpiry .. => .inl ⟨_, exec_bondWindowExpiry ..⟩
  | .fastDefHoldoffExpiry .. => .inl ⟨_, exec_fastDefHoldoffExpiry ..⟩
  | .protAutoSwitch => .inl ⟨_, exec_protAutoSwitch s⟩
  | .protManualSwitch .. => .inl ⟨_, exec_protManualSwitch ..⟩
  | .protForcedSwitch .. => .inl ⟨_, exec_protForcedSwitch ..⟩
  | .protSwitchComplete => .inl ⟨_, exec_protSwitchComplete s⟩
  | .trefTrackResume => .inl ⟨_, exec_trefTrackResume s⟩
  | .loadPlain .. => .inl ⟨_, exec_loadPlain ..⟩
  | .loadDev .. => .inl ⟨_, exec_loadDev ..⟩
  | .loadLink .. => .inl ⟨_, exec_loadLink ..⟩
  | .generate .. => .inl ⟨_, exec_generate ..⟩
  | .invalidate .. => .inl ⟨_, exec_invalidate ..⟩
  | .keyCmdDone => .inl ⟨_, exec_keyCmdDone s⟩
  | .lineKeySwArm .. => .inl ⟨_, exec_lineKeySwArm ..⟩
  | .rsrKeySwArm .. => .inl ⟨_, exec_rsrKeySwArm ..⟩
  | .rsrKeySwitch .. => .inl ⟨_, exec_rsrKeySwitch ..⟩
  | .wagonVerdict .. => .inl ⟨_, exec_wagonVerdict ..⟩
  | .ingressPassEnd .. => .inl ⟨_, exec_ingressPassEnd ..⟩
  | .recircReturn .. => .inl ⟨_, exec_recircReturn ..⟩
  | .recircTimeout .. => .inl ⟨_, exec_recircTimeout ..⟩
  | .pclStageWrite .. => .inl ⟨_, exec_pclStageWrite ..⟩
  | .pclStageDelete .. => .inl ⟨_, exec_pclStageDelete ..⟩
  | .pclStageRevert .. => .inl ⟨_, exec_pclStageRevert ..⟩
  | .pclRead .. => .inl ⟨_, exec_pclRead ..⟩
  | .pclReadLoc .. => .inl ⟨_, exec_pclReadLoc ..⟩
  | .pclDiscardRejected .. => .inl ⟨_, exec_pclDiscardRejected ..⟩
  | .tblCmdDone .. => .inl ⟨_, exec_tblCmdDone ..⟩
  | .scrubDone .. => .inl ⟨_, exec_scrubDone ..⟩
  | .bucketRefill .. => .inl ⟨_, exec_bucketRefill ..⟩
  | .bucketReset .. => .inl ⟨_, exec_bucketReset ..⟩
  | .queueFlush .. => .inl ⟨_, exec_queueFlush ..⟩
  | .readLevel .. => .inl ⟨_, exec_readLevel ..⟩
  | .tmgStageWrite .. => .inl ⟨_, exec_tmgStageWrite ..⟩
  | .tmgStageDelete .. => .inl ⟨_, exec_tmgStageDelete ..⟩
  | .tmgStageRevert .. => .inl ⟨_, exec_tmgStageRevert ..⟩
  | .tmgRead .. => .inl ⟨_, exec_tmgRead ..⟩
  | .tmgDiscardRejected .. => .inl ⟨_, exec_tmgDiscardRejected ..⟩
  | .sidingReturn .. => .inl ⟨_, exec_sidingReturn ..⟩
  | .sidingReadDone .. => .inl ⟨_, exec_sidingReadDone ..⟩
  | .bufCfgWrite .. => .inl ⟨_, exec_bufCfgWrite ..⟩
  | .sidingCfgWrite .. => .inl ⟨_, exec_sidingCfgWrite ..⟩
  | .sidingDisableApply => .inl ⟨_, exec_sidingDisableApply s⟩
  | .tcontOccUpdate .. => .inl ⟨_, exec_tcontOccUpdate ..⟩
  | .tcontOccRead .. => .inl ⟨_, exec_tcontOccRead ..⟩
  | .laneCtrlWrite .. => .inl ⟨_, exec_laneCtrlWrite ..⟩
  | .inbandWordChange .. => .inl ⟨_, exec_inbandWordChange ..⟩
  | .portLinkChange .. => .inl ⟨_, exec_portLinkChange ..⟩
  | .macFrameRx .. => .inl ⟨_, exec_macFrameRx ..⟩
  | .pauseTimerExpiry .. => .inl ⟨_, exec_pauseTimerExpiry ..⟩
  | .fcRefreshExpiry .. => .inl ⟨_, exec_fcRefreshExpiry ..⟩
  | .portFrameRequest .. => .inl ⟨_, exec_portFrameRequest ..⟩
  | .frameTxStart .. => .inl ⟨_, exec_frameTxStart ..⟩
  | .txUnderrun .. => .inl ⟨_, exec_txUnderrun ..⟩
  | .frameTxEnd .. => .inl ⟨_, exec_frameTxEnd ..⟩
  | .gateStateChange .. => .inl ⟨_, exec_gateStateChange ..⟩
  | .ttStageWrite .. => .inl ⟨_, exec_ttStageWrite ..⟩
  | .ttStageDelete .. => .inl ⟨_, exec_ttStageDelete ..⟩
  | .ttStageRevert .. => .inl ⟨_, exec_ttStageRevert ..⟩
  | .ttRead .. => .inl ⟨_, exec_ttRead ..⟩
  | .ttDiscardRejected .. => .inl ⟨_, exec_ttDiscardRejected ..⟩
  | .lpiEntry .. => .inl ⟨_, exec_lpiEntry ..⟩
  | .lpiRxChange .. => .inl ⟨_, exec_lpiRxChange ..⟩
  | .nowRead .. => .inl ⟨_, exec_nowRead ..⟩
  | .stepGo .. => .inl ⟨_, exec_stepGo ..⟩
  | .todArm .. => .inl ⟨_, exec_todArm ..⟩
  | .todSampleCapture .. => .inl ⟨_, exec_todSampleCapture ..⟩
  | .todSampleEvaluate .. => .inl ⟨_, exec_todSampleEvaluate ..⟩
  | .slewComplete .. => .inl ⟨_, exec_slewComplete ..⟩
  | .rateWrite .. => .inl ⟨_, exec_rateWrite ..⟩
  | .xferParamWrite .. => .inl ⟨_, exec_xferParamWrite ..⟩
  | .pllCtrlWrite .. => .inl ⟨_, exec_pllCtrlWrite ..⟩
  | .pllRefQualified => .inl ⟨_, exec_pllRefQualified s⟩
  | .pllLockAchieved => .inl ⟨_, exec_pllLockAchieved s⟩
  | .pllRefUnqualified => .inl ⟨_, exec_pllRefUnqualified s⟩
  | .ppsOutPulse .. => .inl ⟨_, exec_ppsOutPulse ..⟩
  | .ppsWidthExpiry .. => .inl ⟨_, exec_ppsWidthExpiry ..⟩
  | .ppsInEdge .. => .inl ⟨_, exec_ppsInEdge ..⟩
  | .signalDetectChange .. => .inl ⟨_, exec_signalDetectChange ..⟩
  | .slAdaptDone .. => .inl ⟨_, exec_slAdaptDone ..⟩
  | .ladderStart .. => .inl ⟨_, exec_ladderStart ..⟩
  | .ladderRestart .. => .inl ⟨_, exec_ladderRestart ..⟩
  | .ladderDwellExpiry .. => .inl ⟨_, exec_ladderDwellExpiry ..⟩
  | .txeqWrite .. => .inl ⟨_, exec_txeqWrite ..⟩
  | .eyeScanStart .. => .inl ⟨_, exec_eyeScanStart ..⟩
  | .eyeScanDone .. => .inl ⟨_, exec_eyeScanDone ..⟩
  | .patSyncGain .. => .inl ⟨_, exec_patSyncGain ..⟩
  | .patSyncLoss .. => .inl ⟨_, exec_patSyncLoss ..⟩
  | .forwardedClockLoss .. => .inl ⟨_, exec_forwardedClockLoss ..⟩
  | .forwardedClockOk .. => .inl ⟨_, exec_forwardedClockOk ..⟩
  | .pageAccept .. => .inl ⟨_, exec_pageAccept ..⟩
  | .pageExchangeDone .. => .inl ⟨_, exec_pageExchangeDone ..⟩
  | .switchSuspendExpiry .. => .inl ⟨_, exec_switchSuspendExpiry ..⟩
  | .switchTimeout .. => .inl ⟨_, exec_switchTimeout ..⟩
  | .trainTimerExpiry .. => .inl ⟨_, exec_trainTimerExpiry ..⟩
  | .riserCdrUnlock .. => .inl ⟨_, exec_riserCdrUnlock ..⟩
  | .failRetryExpiry .. => .inl ⟨_, exec_failRetryExpiry ..⟩
  | .phyRestart .. => .inl ⟨_, exec_phyRestart ..⟩
  | .sleepEntry .. => .inl ⟨_, exec_sleepEntry ..⟩
  | .wakeRequest .. => .inl ⟨_, exec_wakeRequest ..⟩
  | .wakeComplete .. => .inl ⟨_, exec_wakeComplete ..⟩
  | .wagonSend .. => .inl ⟨_, exec_wagonSend ..⟩
  | .wagonRx .. => .inl ⟨_, exec_wagonRx ..⟩
  | .rdReq .. => .inl ⟨_, exec_rdReq ..⟩
  | .wrReq .. => .inl ⟨_, exec_wrReq ..⟩
  | .resp .. => .inl ⟨_, exec_resp ..⟩
  | .event .. => .inl ⟨_, exec_event ..⟩
  | .probe .. => .inl ⟨_, exec_probe ..⟩
  | .probeReply .. => .inl ⟨_, exec_probeReply ..⟩
  | .homing .. => .inl ⟨_, exec_homing ..⟩
  | .sync .. => .inl ⟨_, exec_sync ..⟩
  | .follow .. => .inl ⟨_, exec_follow ..⟩
  | .dreq .. => .inl ⟨_, exec_dreq ..⟩
  | .dresp .. => .inl ⟨_, exec_dresp ..⟩
  | .gopArm .. => .inl ⟨_, exec_gopArm ..⟩
  | .gopCancel .. => .inl ⟨_, exec_gopCancel ..⟩
  | .gopReport .. => .inl ⟨_, exec_gopReport ..⟩
  | .raccGo .. => .inl ⟨_, exec_raccGo ..⟩
  | .raccTimeout .. => .inl ⟨_, exec_raccTimeout ..⟩
  | .evtRepeatExpiry => .inl ⟨_, exec_evtRepeatExpiry s⟩
  | .probeGo .. => .inl ⟨_, exec_probeGo ..⟩
  | .probeTimeout => .inl ⟨_, exec_probeTimeout s⟩
  | .xferSyncTimer => .inl ⟨_, exec_xferSyncTimer s⟩
  | .xferExchangeTimeout => .inl ⟨_, exec_xferExchangeTimeout s⟩
  | .pairSwitch .. => .inl ⟨_, exec_pairSwitch ..⟩
  | .gopGo .. => .inl ⟨_, exec_gopGo ..⟩
  | .gopAbort .. => .inl ⟨_, exec_gopAbort ..⟩
  | .gopCancelPoint .. => .inl ⟨_, exec_gopCancelPoint ..⟩
  | .gopExecute .. => .inl ⟨_, exec_gopExecute ..⟩
  | .domainBind .. => .inl ⟨_, exec_domainBind ..⟩
  | .ringEnable .. => .inl ⟨_, exec_ringEnable ..⟩
  | .ringDisable .. => .inl ⟨_, exec_ringDisable ..⟩
  | .ringStopDone .. => .inl ⟨_, exec_ringStopDone ..⟩
  | .doorbellChange .. => .inl ⟨_, exec_doorbellChange ..⟩
  | .doorbellPoll .. => .inl ⟨_, exec_doorbellPoll ..⟩
  | .pollCompletion .. => .inl ⟨_, exec_pollCompletion ..⟩
  | .pollBackoff .. => .inl ⟨_, exec_pollBackoff ..⟩
  | .txfFrameFetch .. => .inl ⟨_, exec_txfFrameFetch ..⟩
  | .txfFrameReadDone .. => .inl ⟨_, exec_txfFrameReadDone ..⟩
  | .statusLineWrite .. => .inl ⟨_, exec_statusLineWrite ..⟩
  | .evtModTimerExpiry .. => .inl ⟨_, exec_evtModTimerExpiry ..⟩
  | .rxStarveTimeout .. => .inl ⟨_, exec_rxStarveTimeout ..⟩
  | .irqResendExpiry .. => .inl ⟨_, exec_irqResendExpiry ..⟩
  | .dmaError .. => .inl ⟨_, exec_dmaError ..⟩
  | .pollError .. => .inl ⟨_, exec_pollError ..⟩
  | .pollErrClear .. => .inl ⟨_, exec_pollErrClear ..⟩
  | .pcieLinkChange .. => .inl ⟨_, exec_pcieLinkChange ..⟩
  | .commit .. => .inl ⟨_, exec_commit ..⟩
  | .commitAt .. => .inl ⟨_, exec_commitAt ..⟩
  | .abort .. => .inl ⟨_, exec_abort ..⟩
  | .confirm .. => .inl ⟨_, exec_confirm ..⟩
  | .rollback .. => .inl ⟨_, exec_rollback ..⟩
  | .renumber .. => .inl ⟨_, exec_renumber ..⟩
  | .discard .. => .inl ⟨_, exec_discard ..⟩
  | .commitValidated .. => .inl ⟨_, exec_commitValidated ..⟩
  | .commitAtInstant .. => .inl ⟨_, exec_commitAtInstant ..⟩
  | .confirmTimeout .. => .inl ⟨_, exec_confirmTimeout ..⟩
  | .rollbackRevertDone => .inl ⟨_, exec_rollbackRevertDone s⟩
  | .discardDone => .inl ⟨_, exec_discardDone s⟩
  | .fwConfirm .. => .inl ⟨_, exec_fwConfirm ..⟩
  | .bootRecordWriteDone => .inl ⟨_, exec_bootRecordWriteDone s⟩
  | .dmcEnable .. => .inl ⟨_, exec_dmcEnable ..⟩
  | .dmcRgnWrite .. => .inl ⟨_, exec_dmcRgnWrite ..⟩
  | .dmcInit .. => .inl ⟨_, exec_dmcInit ..⟩
  | .dmcInitDone .. => .inl ⟨_, exec_dmcInitDone ..⟩
  | .dmcRequest .. => .inl ⟨_, exec_dmcRequest ..⟩
  | .regulatorRefill => .inl ⟨_, exec_regulatorRefill s⟩
  | .dmcCommandSlot .. => .inl ⟨_, exec_dmcCommandSlot ..⟩
  | .dmcReadComplete .. => .inl ⟨_, exec_dmcReadComplete ..⟩
  | .refreshDue .. => .inl ⟨_, exec_refreshDue ..⟩
  | .mr4PollDue .. => .inl ⟨_, exec_mr4PollDue ..⟩
  | .mr4Result .. => .inl ⟨_, exec_mr4Result ..⟩
  | .retrainDue .. => .inl ⟨_, exec_retrainDue ..⟩
  | .retrainForce .. => .inl ⟨_, exec_retrainForce ..⟩
  | .vsetWrite .. => .inl ⟨_, exec_vsetWrite ..⟩
  | .pwrOff .. => .inl ⟨_, exec_pwrOff ..⟩
  | .sliceGate .. => .inl ⟨_, exec_sliceGate ..⟩
  | .rtcSecWrite .. => .inl ⟨_, exec_rtcSecWrite ..⟩
  | .wdogKick .. => .inl ⟨_, exec_wdogKick ..⟩
  | .wdogTimeoutWrite .. => .inl ⟨_, exec_wdogTimeoutWrite ..⟩
  | .bootRomStart .. => .inl ⟨_, exec_bootRomStart ..⟩
  | .bootComplete .. => .inl ⟨_, exec_bootComplete ..⟩
  | .attest .. => .inl ⟨_, exec_attest ..⟩
  | .measExtend .. => .inl ⟨_, exec_measExtend ..⟩
  | .dbgOpen .. => .inl ⟨_, exec_dbgOpen ..⟩
  | .arbAdvance .. => .inl ⟨_, exec_arbAdvance ..⟩
  | .keyRevoke .. => .inl ⟨_, exec_keyRevoke ..⟩
  | .truCmdDone .. => .inl ⟨_, exec_truCmdDone ..⟩
  | .dbgChallengeRead .. => .inl ⟨_, exec_dbgChallengeRead ..⟩
  | .rngRead .. => .inl ⟨_, exec_rngRead ..⟩
  | .rngHealthFail => .inl ⟨_, exec_rngHealthFail s⟩
  | .cvuStart .. => .inl ⟨_, exec_cvuStart ..⟩
  | .cvuCheck .. => .inl ⟨_, exec_cvuCheck ..⟩
  | .cvuAbandon .. => .inl ⟨_, exec_cvuAbandon ..⟩
  | .cvuDataB .. => .inl ⟨_, exec_cvuDataB ..⟩
  | .cvuDataH .. => .inl ⟨_, exec_cvuDataH ..⟩
  | .cvuDataW .. => .inl ⟨_, exec_cvuDataW ..⟩
  | .cvuResultRead .. => .inl ⟨_, exec_cvuResultRead ..⟩
  | .ckoChange .. => .inl ⟨_, exec_ckoChange ..⟩
  | .debugReset .. => .inl ⟨_, exec_debugReset ..⟩
  | .i2cGo .. => .inl ⟨_, exec_i2cGo ..⟩
  | .i2cDone .. => .inl ⟨_, exec_i2cDone ..⟩
  | .mdioGo .. => .inl ⟨_, exec_mdioGo ..⟩
  | .mdioDone .. => .inl ⟨_, exec_mdioDone ..⟩
  | .ploamTypeNotHandled .. => .inl ⟨_, exec_ploamTypeNotHandled ..⟩
  | .laneSyncChange .. => .inl ⟨_, exec_laneSyncChange ..⟩
  | .pcieConfigWrite .. => .inl ⟨_, exec_pcieConfigWrite ..⟩
  | .wakeGrant => .inr (.inl ⟨rfl, _, exec_wakeGrant s⟩)
  | .fwTrialTimeout => .inr (.inl ⟨rfl, _, exec_fwTrialTimeout s⟩)
  | .phaseSamplingDone .. => .inr (.inl ⟨rfl, _, exec_phaseSamplingDone ..⟩)
  | .railGood .. => .inr (.inl ⟨rfl, _, exec_railGood ..⟩)
  | .railFault .. => .inr (.inl ⟨rfl, _, exec_railFault ..⟩)
  | .faultRetryExpiry => .inr (.inl ⟨rfl, _, exec_faultRetryExpiry s⟩)
  | .hpPresentChange .. => .inr (.inl ⟨rfl, _, exec_hpPresentChange ..⟩)
  | .hpDebounceExpiry => .inr (.inl ⟨rfl, _, exec_hpDebounceExpiry s⟩)
  | .stageStart => .inr (.inl ⟨rfl, _, exec_stageStart s⟩)
  | .hpGraceExpiry => .inr (.inl ⟨rfl, _, exec_hpGraceExpiry s⟩)
  | .powerDownStage => .inr (.inl ⟨rfl, _, exec_powerDownStage s⟩)
  | .offHoldExpiry => .inr (.inl ⟨rfl, _, exec_offHoldExpiry s⟩)
  | .dyingGaspRaise .. => .inr (.inl ⟨rfl, _, exec_dyingGaspRaise ..⟩)
  | .dyingGaspWithdraw => .inr (.inl ⟨rfl, _, exec_dyingGaspWithdraw s⟩)
  | .thermalConversion .. => .inr (.inl ⟨rfl, _, exec_thermalConversion ..⟩)
  | .thermalRecovery => .inr (.inl ⟨rfl, _, exec_thermalRecovery s⟩)
  | .wdogExpiry => .inr (.inl ⟨rfl, _, exec_wdogExpiry s⟩)
  | .xtOkChange .. => .inr (.inl ⟨rfl, _, exec_xtOkChange ..⟩)
  | .cremaPowerOnReset | .cremaPorEnd | .resetNAssert | .resetNRelease | .lineSdChange .. | .tapReset | .idcode
  | .samplePreload .. | .extest | .extestPulse | .extestTrain | .highz | .clamp | .truAccess | .truAccessUpdate ..
  | .truAccessDone | .brewhouseDebugPort | .tenderDebugPort | .internalScan | .bypass | .porstNAssert | .porstNRelease ..
  | .testEnAssert .. => .inr (.inr rfl)

theorem State.main_of_held (s : State) (f : Dev → Dev) (h : s.dev.mainUp = false) : s.main f = .next s := by
  simp only [State.main, State.run, h, Bool.false_eq_true, if_false, Dev.after_held h]

theorem State.crema_of_held (s : State) (f : Dev → Dev) (h : s.dev.mainUp = false) (hc : s.dev.cremaUp = false) :
    s.crema f = .next s := by
  simp only [State.crema, State.run, hc, Bool.false_eq_true, if_false, Dev.after_held h]

/-- Settles O7, by the domain of the command. -/
theorem heldDomainDoesNothing : Obligations.HeldDomainDoesNothing := by
  intro i s hpins hmain hcrema
  rcases exec_domain s i with ⟨f, hf⟩ | ⟨hi, f, hf⟩ | hp
  · rw [hf, s.main_of_held f hmain]
  · rw [hf, s.crema_of_held f hmain (hcrema hi)]
  · rw [hp] at hpins
    cases hpins

/-! ### The queue and the state after reset -/

/-- Settles O1. -/
theorem stepRunsFront : Obligations.StepRunsFront := fun _ _ => rfl

/-- Settles O4: the tables of the state after reset list nothing. -/
theorem resetState : Obligations.ResetState :=
  ⟨⟨rfl, rfl, rfl⟩, rfl, fun _ => rfl, fun _ => ⟨rfl, rfl⟩, rfl, rfl, rfl, rfl, rfl, rfl, rfl, rfl⟩

/-! ### A cycle without a command -/

/-- A device whose staging pool holds a Siding frame of the present cycle. -/
def stagedDev : Dev :=
  { tm := { queues := [(0, { siding := [{ pool := .siding }] })], stagingUsed := 1 } }

/-- The staging writer takes free bytes for the head of the frame that it writes. -/
theorem stagedDev_tick_freeCtr : stagedDev.tick.freeCtr = 16 := by rfl

/-- Refutes O2: with a frame in the staging pool the cycle also writes the frame to the Siding (R207), which draws free
values (and so more than the clocks moves). -/
theorem not_idleStepIsACycle : ¬ Obligations.IdleStepIsACycle := by
  intro h
  obtain ⟨d, hstep, -, -, hsets⟩ := (h { dev := stagedDev } rfl).2 rfl
  have hd : d = stagedDev.tick := by
    have : stagedDev.tick = d := congrArg (fun o : Out => match o with | .next t => t.dev | _ => d) hstep
    exact this.symm
  have hfree : d.freeCtr = 0 := congrArg Dev.freeCtr (hsets (.inl rfl)).2
  rw [hd, stagedDev_tick_freeCtr] at hfree
  cases hfree

end Sys2Proof.Machine
end

section
/-!
PROOFS. Shared by the proofs below: how `Dev.Regs` and `Dev.Sets` follow from the table of register contents, and small bounds.
-/
namespace Sys2Proof.Machine

variable {d d' : Dev} {l : List (Fld × Nat)}

theorem Dev.Regs.intro (hv : ∀ e ∈ l, d'.fld e.1 = e.2)
    (hs : ∀ k, (∀ e ∈ l, k ≠ e.1.key) → Tbl.get d'.regs k (Reg.rst k) = Tbl.get d.regs k (Reg.rst k)) : d.Regs d' l :=
  ⟨hv, fun k hk => hs k fun e he h => hk (by
    rw [List.map_map]
    exact List.mem_map.2 ⟨e, he, h.symm⟩)⟩

theorem Dev.Sets.intro (hv : ∀ e ∈ l, d'.fld e.1 = e.2)
    (hs : ∀ k, (∀ e ∈ l, k ≠ e.1.key) → Tbl.get d'.regs k (Reg.rst k) = Tbl.get d.regs k (Reg.rst k))
    (hr : { d' with regs := d.regs } = d) : d.Sets d' l :=
  ⟨.intro hv hs, hr⟩

/-- What two changes wrote, one after the other, where the second wrote other fields. -/
theorem Dev.Regs.trans {e : Dev} {l' : List (Fld × Nat)} (h : d.Regs e l) (h' : e.Regs d' l')
    (hd : ∀ x ∈ l, ∀ y ∈ l', x.1.key ≠ y.1.key) : d.Regs d' (l ++ l') := by
  have hnot : ∀ k, k ∉ (l ++ l').map (·.1.key) ↔ k ∉ l.map (·.1.key) ∧ k ∉ l'.map (·.1.key) := by simp [not_or]
  refine ⟨fun x hx => ?_, fun k hk => ?_⟩
  · rcases List.mem_append.1 hx with hx | hx
    · exact (h'.fld_eq fun hm => let ⟨y, hy, hk⟩ := List.mem_map.1 hm; hd x hx y hy hk.symm).trans (h.1 x hx)
    · exact h'.1 x hx
  · obtain ⟨hl, hl'⟩ := (hnot k).1 (by simpa using hk)
    exact (h'.2 k (by simpa using hl')).trans (h.2 k (by simpa using hl))

theorem Dev.Sets.trans {e : Dev} {l' : List (Fld × Nat)} (h : d.Sets e l) (h' : e.Sets d' l')
    (hd : ∀ x ∈ l, ∀ y ∈ l', x.1.key ≠ y.1.key) : d.Sets d' (l ++ l') := by
  refine ⟨h.1.trans h'.1 hd, ?_⟩
  have hr : ({ d' with regs := d.regs } : Dev) = { ({ d' with regs := e.regs } : Dev) with regs := d.regs } := rfl
  rw [hr, h'.2, h.2]

theorem bit_lt (b : Bool) : bit b < 2 := by cases b <;> decide

theorem unsigned_lt (w : Nat) (v : Int) : unsigned w v < 2 ^ w := by
  have : (0 : Int) < (2 ^ w : Nat) := by positivity
  have := Int.emod_lt_of_pos v this
  have := Int.emod_nonneg v (b := (2 ^ w : Nat)) (by omega)
  unfold unsigned
  omega

/-- A signed number in range is what its two's complement stands for. -/
theorem signed_unsigned {n : Nat} {v : Int} (hlo : -(2 ^ n : Nat) ≤ v) (hhi : v < (2 ^ n : Nat)) :
    signed (n + 1) (unsigned (n + 1) v) = v := by
  have h2 : 2 ^ (n + 1) = 2 * 2 ^ n := by ring
  have hlt := unsigned_lt (n + 1) v
  simp only [signed, Nat.add_sub_cancel, Nat.mod_eq_of_lt hlt]
  unfold unsigned at *
  rw [h2] at *
  rcases lt_or_ge v 0 with h | h
  · have hm : v % (2 * 2 ^ n : Nat) = v + (2 * 2 ^ n : Nat) := by
      rw [← Int.add_emod_right, Int.emod_eq_of_lt (by omega) (by omega)]
    rw [hm, if_neg (by omega)]
    omega
  · rw [Int.emod_eq_of_lt h (by omega), if_pos (by omega)]
    omega

theorem clampI_bounds {lo hi : Int} (h : lo ≤ hi) (v : Int) : lo ≤ clampI lo hi v ∧ clampI lo hi v ≤ hi := by
  unfold clampI; omega

end Sys2Proof.Machine
end

section
/-!
PROOFS. The rate of the time base (R243): what taking up a rate writes, and that the time read in the cycle does not move.
-/
namespace Sys2Proof.Machine

/-- RATE_EFF as the time base takes it up. -/
def Dev.effRate (d : Dev) : Int := clampI (-rateMax) rateMax (d.rate + d.slewTerm)

theorem Dev.effRate_bounds (d : Dev) : -140737488 ≤ d.effRate ∧ d.effRate ≤ 140737488 :=
  clampI_bounds (by decide) _

theorem Dev.reRate_regs (d : Dev) : d.reRate.regs =
    let r := Tbl.set (Tbl.set d.regs Reg.TIM_RATE_EFF.RATE.key (unsigned 32 d.effRate % 2 ^ 32)) Reg.TIM_STAT.SLEWING.key
      (bit (d.tim.pend != 0) % 2)
    if d.rate + d.slewTerm = d.effRate then r else Tbl.set r Reg.TIM_EVT.RATE_CLAMP.key 1 := by
  unfold Dev.reRate Dev.effRate Dev.iff
  simp only [bne_iff_ne, ite_not]
  split <;> split <;> rfl

theorem Dev.reRate_tim (d : Dev) : d.reRate.tim.ctr = d.tim.ctr ∧ d.reRate.tim.pend = d.tim.pend ∧
    d.reRate.tim.off = d.tim.off + d.nowPs * rateScale * (d.rateEff - d.effRate) := by
  simp only [Dev.reRate, Dev.effRate, Dev.iff]
  split <;> split <;> exact ⟨rfl, rfl, rfl⟩

theorem Dev.reRate_Regs (d : Dev) :
    d.Regs d.reRate ([(Reg.TIM_RATE_EFF.RATE, unsigned 32 d.effRate), (Reg.TIM_STAT.SLEWING, bit (d.tim.pend != 0))] ++
      if d.rate + d.slewTerm = d.effRate then [] else [(Reg.TIM_EVT.RATE_CLAMP, 1)]) := by
  have hu := Nat.mod_eq_of_lt (unsigned_lt 32 d.effRate)
  have hb := Nat.mod_eq_of_lt (bit_lt (d.tim.pend != 0))
  refine .intro ?_ fun k hk => ?_
  · simp only [Dev.fld, Dev.reRate_regs]
    rw [hu, hb]
    split <;> simp +decide [Tbl.get_set]
  · rw [Dev.reRate_regs]
    split at hk <;> simp_all [Tbl.get_set]

theorem Dev.reRate_rateEff (d : Dev) : d.reRate.rateEff = d.effRate := by
  have hb := d.effRate_bounds
  rw [Dev.rateEff, d.reRate_Regs.1 (_, unsigned 32 d.effRate) (by simp)]
  exact signed_unsigned (n := 31) (by omega) (by omega)

/-- OFFSET takes up what the change of rate would have moved the time. -/
theorem Dev.reRate_time (d : Dev) : d.reRate.time = d.time := by
  obtain ⟨hctr, -, hoff⟩ := d.reRate_tim
  simp only [Dev.time, Dev.timeAt, Dev.nowPs, Dev.reRate_rateEff, hctr, hoff]
  ring

theorem Dev.put_rate_time (d : Dev) (v : Nat) : (d.put Reg.TIM_RATE.RATE v).time = d.time := by
  simp +decide only [Dev.time, Dev.timeAt, Dev.nowPs, Dev.rateEff, Dev.fld_put, Dev.put_tim, if_false]

theorem Dev.put_rate (d : Dev) (v : Word) : (d.put Reg.TIM_RATE.RATE v.toNat).rate = signed 32 v.toNat := by
  rw [Dev.rate, Dev.fld_put_same]
  exact congrArg (signed 32) (Nat.mod_eq_of_lt v.isLt)

theorem Dev.put_rate_slewTerm (d : Dev) (v : Nat) : (d.put Reg.TIM_RATE.RATE v).slewTerm = d.slewTerm := by
  unfold Dev.slewTerm Dev.slewPpb
  rw [Dev.fld_put_ne (g := Reg.TIM_SLEW.SLEW) _ _ (by decide)]
  rfl

/-- What a write of TIM.RATE does (R243). -/
theorem Dev.rateWrite_effRate (d : Dev) (v : Word) : (d.put Reg.TIM_RATE.RATE v.toNat).effRate =
    max (-140737488) (min 140737488 (signed 32 v.toNat + d.slewTerm)) := by
  rw [Dev.effRate, Dev.put_rate_slewTerm, Dev.put_rate]
  rfl

theorem Dev.poke_rate (d : Dev) (m : Master) (v : Word) (h : d.unit 15 = true) :
    d.poke m Reg.TIM_RATE.ADR v = (d.put Reg.TIM_RATE.RATE v.toNat).reRate := d.poke_TIM_RATE m v h

theorem Dev.unit_of_chip {d d' : Dev} (h : d'.chip = d.chip) (i : Nat) : d'.unit i = d.unit i := by
  rw [Dev.unit, Dev.unit, h]

theorem Dev.advance_chip (d : Dev) (n : Nat) : (d.advance n).chip = d.chip := (Dev.advance_kept (.refl d) n).1

theorem Dev.advance_unit (d : Dev) (n i : Nat) : (d.advance n).unit i = d.unit i := Dev.unit_of_chip (d.advance_chip n) i

/-- Settles O44: the write is `Dev.reRate` after the field is put, which keeps the time. -/
theorem rateChangesAreContinuous : Obligations.RateChangesAreContinuous := by
  intro s dt m v hup hu d0 raw eff
  let e := d0.put Reg.TIM_RATE.RATE v.toNat
  have heff : e.effRate = eff := d0.rateWrite_effRate v
  have hpoke := d0.poke_rate m v ((s.dev.advance_unit dt 15).trans hu)
  obtain ⟨hctr, hpend, -⟩ := e.reRate_tim
  have hput : d0.Regs e [(Reg.TIM_RATE.RATE, v.toNat)] := ((Dev.Sets.nil d0).put_of_lt _ v.isLt (by simp)).1
  have hregs := hput.trans e.reRate_Regs (by split <;> simp +decide)
  rw [heff, d0.put_rate v, d0.put_rate_slewTerm] at hregs
  exact .of_main_eq hup ⟨e.reRate_time.trans (d0.put_rate_time _), e.reRate_rateEff.trans heff, hctr, hpend, hregs⟩
    (exec_rateWrite ..) hpoke

end Sys2Proof.Machine
end

section
/-!
PROOFS. The slots and tokens of a slice (R28) and the arrival of a frame in its input buffer (R29).
-/
namespace Sys2Proof.Machine

/-- Each of the four slices takes its new value, and nothing else changes. -/
theorem Dev.each_setSlice (d : Dev) (g : Slice → Slice) :
    let e := d.each (List.range 4) (fun d k => d.setSlice k (g (d.slice k)))
    (∀ j < 4, e.slice j = g (d.slice j)) ∧ { e with slices := d.slices } = d := by
  refine ⟨fun j hj => ?_, rfl⟩
  have : j = 0 ∨ j = 1 ∨ j = 2 ∨ j = 3 := by omega
  rcases this with rfl | rfl | rfl | rfl <;>
    simp +decide [Dev.each, List.range, List.range.loop, Dev.slice_setSlice_ne]

/-! ### The steps of R28 -/

theorem Dev.slotHeld_iff (d : Dev) : d.slotHeld = true ↔ d.on Reg.PWR_STAT.THROTTLE = true ∧ d.core % 8 = 0 := by
  simp [Dev.slotHeld]

/-- Nothing is granted in a gated slice or a throttled slot. -/
theorem Dev.slotGrant_of_still {d : Dev} {k : Nat} (h : bitOf d.wake.off k = true ∨ d.slotHeld = true) :
    d.slotGrant k = d := if_pos (by simpa using h)

/-- The first step: a returned frame and a recirculation token. -/
theorem Dev.slotGrant_of_back {d : Dev} {k : Nat} (h : ¬ (bitOf d.wake.off k = true ∨ d.slotHeld = true)) {f : Frame}
    {r : List Frame} (hr : (d.slice k).rqBack = f :: r) (ht : 0 < (d.slice k).rtok) :
    d.slotGrant k = ((d.setSlice k { d.slice k with rqBack := r, rtok := (d.slice k).rtok - 1 }).release f).beginPass k
      { f with pool := .none, second := true } := by
  obtain ⟨t, ht⟩ : ∃ t, (d.slice k).rtok = t + 1 := ⟨(d.slice k).rtok - 1, by omega⟩
  rw [Dev.slotGrant, if_neg (by simpa using h)]
  simp only [hr, ht, Nat.add_sub_cancel]

/-- The other steps, where no frame has returned or no token is there for it. -/
theorem Dev.slotGrant_of_no_back {d : Dev} {k : Nat} (h : ¬ (bitOf d.wake.off k = true ∨ d.slotHeld = true))
    (hno : (d.slice k).rqBack = [] ∨ (d.slice k).rtok = 0) :
    d.slotGrant k =
      if d.buf (452 + k) ≠ [] ∧ 0 < (d.slice k).htok then
        (d.setSlice k { d.slice k with htok := (d.slice k).htok - 1 }).grantPort k (452 + k)
      else match d.rrNext k with
        | some p => (d.setSlice k { d.slice k with rr := some p }).grantPort k p
        | none => d.grantPort k (452 + k) := by
  rw [Dev.slotGrant, if_neg (by simpa using h)]
  split
  · next hr ht => simp [hr, ht] at hno
  · rfl

/-- Settles O19: the four steps of R28 are the branches of `Dev.slotGrant`. -/
theorem slotsAndTokens : Obligations.SlotsAndTokens := by
  intro s dt k hup d0 x
  have grant {e : Dev} (h : d0.slotGrant k = e) : Does (.slotGrant dt k) s e := .of_main_eq (exec_slotGrant ..) hup h
  refine ⟨.of_main (exec_recircTokenGain _) hup (s.dev.each_setSlice fun y => { y with rtok := min 16 (y.rtok + 1) }),
    .of_main (exec_hostTokenGain _) hup (s.dev.each_setSlice fun y => { y with htok := min 4 (y.htok + 1) }), ?_⟩
  intro still
  have hstill : bitOf d0.wake.off k = true ∨ d0.slotHeld = true ↔ still := by rw [Dev.slotHeld_iff]
  refine ⟨fun h => grant (Dev.slotGrant_of_still (hstill.2 h)), fun h => ?_⟩
  have hrun := fun h' => h (hstill.1 h')
  refine ⟨fun f r hr ht => grant (Dev.slotGrant_of_back hrun hr ht), fun hno => ?_⟩
  have hgrant := Dev.slotGrant_of_no_back hrun hno
  refine ⟨fun hb ht => grant (hgrant.trans (if_pos ⟨hb, ht⟩)), fun hno => ?_⟩
  rw [if_neg (by rcases hno with h | h <;> simp [h, x] at *)] at hgrant
  exact ⟨fun p hp => grant (by rw [hgrant, hp]), fun hp => grant (by rw [hgrant, hp])⟩

/-! ### Input buffers -/

/-- Settles O20: the branches of `Dev.plainArrival` and `Dev.arrive`. -/
theorem inputBufferArrival : Obligations.InputBufferArrival := by
  intro s dt p b hup d0 f full
  have arrives {e : Dev} (h : d0.plainArrival p.val b = e) : Does (.inputBufferArrival dt p b) s e :=
    .of_main_eq (exec_inputBufferArrival ..) hup h
  have hlen : f.fullLen = b.length + 4 := by simp [f, Frame.fullLen, Frame.len]
  have hcount := (Dev.Sets.nil d0).bump (Reg.PCL_SLICE_IN_DROP.COUNT (sliceOf p)) (by simp)
  refine ⟨fun hp => arrives (by rw [Dev.plainArrival, hp]; rfl), fun hp hfull => ⟨d0.bump _, arrives ?_, hcount⟩,
    fun hp hroom => arrives ?_⟩ <;> rw [Dev.plainArrival, if_pos hp]
  · exact if_pos (hlen ▸ hfull)
  · exact if_neg (hlen ▸ hroom)

end Sys2Proof.Machine
end

section
/-!
PROOFS. No register read depends on a stored key: every operation that a read performs commutes with an exchange of the keys.
-/
namespace Sys2Proof.Machine

/-- The device with other stored keys. -/
def Dev.withKeys (d : Dev) (keys : Tbl Nat) : Dev := { d with cph := { d.cph with keys := keys } }

/-- The operation neither looks at the keys nor changes the cipher engine. -/
def Keyless (f : Dev → Dev) : Prop := ∀ d keys, f (d.withKeys keys) = (f d).withKeys keys ∧ (f d).cph = d.cph

variable {f g : Dev → Dev}

theorem Keyless.id : Keyless fun d => d := fun _ _ => ⟨rfl, rfl⟩

theorem Keyless.comp (hg : Keyless g) (hf : Keyless f) : Keyless fun d => g (f d) := fun d keys =>
  ⟨(congrArg g (hf d keys).1).trans (hg (f d) keys).1, (hg (f d) keys).2.trans (hf d keys).2⟩

theorem Keyless.ite {p : Dev → Prop} [DecidablePred p] (hp : ∀ d keys, p (d.withKeys keys) ↔ p d) (hf : Keyless f)
    (hg : Keyless g) : Keyless fun d => if p d then f d else g d := fun d keys => by
  by_cases h : p d
  · simp only [h, (hp d keys).2 h, if_true]
    exact hf d keys
  · simp only [h, mt (hp d keys).1 h, if_false]
    exact hg d keys

theorem Keyless.each {α : Type} (l : List α) {f : Dev → α → Dev} (hf : ∀ a, Keyless (f · a)) : Keyless (·.each l f) := by
  induction l with
  | nil => exact Keyless.id
  | cons a r ih => exact Keyless.comp ih (hf a)

/-! ### The operations of a read -/

theorem Dev.view_withKeys (d : Dev) (keys : Tbl Nat) (m a : Nat) : (d.withKeys keys).view m a = d.view m a := rfl

theorem keyless_unmapped (m : Master) (a : Nat) : Keyless (·.unmapped m a) := fun _ _ => ⟨rfl, rfl⟩

theorem keyless_narrow (m : Master) (a : Nat) : Keyless (·.narrow m a) := by
  unfold Dev.narrow
  split <;> exact fun _ _ => ⟨rfl, rfl⟩

theorem keyless_adapted (n : Nat) : Keyless (·.adapted n) := .each _ fun _ _ _ => ⟨rfl, rfl⟩

theorem keyless_adaptNow (n : Nat) : Keyless (·.adaptNow n) :=
  .ite (p := (·.adapts n = true)) (fun _ _ => .rfl) (keyless_adapted n) .id

theorem keyless_ffeSnapshot (n : Nat) : Keyless (·.ffeSnapshot n) := by
  intro d keys
  obtain ⟨hk, hc⟩ : (d.withKeys keys).adaptNow n = (d.adaptNow n).withKeys keys ∧ (d.adaptNow n).cph = d.cph :=
    keyless_adaptNow n d keys
  simp only [Dev.ffeSnapshot]
  refine ⟨?_, hc⟩
  rw [hk]
  generalize d.adaptNow n = e
  have hfld (i) : (e.withKeys keys).fld (coefFld n i) = e.fld (coefFld n i) := rfl
  have hlatch : (e.withKeys keys).latch = e.latch := rfl
  simp only [hfld, hlatch]
  generalize List.foldl _ e.latch _ = l
  rfl

theorem keyless_rngServed (good : Bool) : Keyless (·.rngServed good) :=
  .ite (p := fun d => 2 ^ 20 ≤ d.tru.reqs + 1) (fun _ _ => .rfl) (by cases good <;> exact fun _ _ => ⟨rfl, rfl⟩)
    fun _ _ => ⟨rfl, rfl⟩

theorem keyless_drawChallenge : Keyless Dev.drawChallenge := by
  have hreseed : Keyless fun d => d.freed.rngServed (d.freeVal 1 == 1) := fun d keys => (keyless_rngServed _).comp (f := Dev.freed) (fun _ _ => ⟨rfl, rfl⟩) d keys
  have hused : Keyless Dev.rngUsed := .ite (p := fun d => 2 ^ 20 ≤ d.tru.reqs + 1) (fun _ _ => .rfl) hreseed (keyless_rngServed false)
  intro d keys
  obtain ⟨hk, hc⟩ := hused d.freed keys
  refine ⟨?_, hc⟩
  unfold Dev.drawChallenge
  rw [show (d.withKeys keys).freed = d.freed.withKeys keys from rfl, hk]
  rfl

theorem keyless_readFirst (m : Master) (a : Nat) : Keyless (·.readFirst m a) := by
  unfold Dev.readFirst
  split
  · exact fun _ _ => ⟨rfl, rfl⟩
  · split
    · exact keyless_drawChallenge
    · split
      · exact keyless_ffeSnapshot _
      · exact .id

theorem keyless_readClear (a : Nat) : Keyless (·.readClear a) := by
  unfold Dev.readClear
  split
  · exact .id
  · exact .each _ fun _ _ _ => ⟨rfl, rfl⟩

theorem keyless_readThen (m : Master) (a : Nat) : Keyless (·.readThen m a) := by
  unfold Dev.readThen
  split
  · split
    · exact .comp (.each _ fun _ => keyless_readClear _) (.comp (keyless_readClear a) (.each _ fun _ _ _ => ⟨rfl, rfl⟩))
    · exact .id
  · exact keyless_readClear a

/-- A read answers the same word whatever the keys, and commutes with their exchange. -/
theorem Dev.busRead_withKeys (d : Dev) (keys : Tbl Nat) (m : Master) (a : Nat) :
    (d.withKeys keys).busRead m a = ((d.busRead m a).1.withKeys keys, (d.busRead m a).2) ∧ (d.busRead m a).1.cph = d.cph := by
  unfold Dev.busRead
  rw [show (d.withKeys keys).absent a = d.absent a from rfl]
  split
  · exact ⟨rfl, rfl⟩
  · split
    · exact ⟨rfl, rfl⟩
    · split
      · obtain ⟨hk, hc⟩ := keyless_rngServed (d.freeVal 1 == 1) d.freed.freed keys
        exact ⟨congrArg₂ Prod.mk hk rfl, hc⟩
      · obtain ⟨hk, hc⟩ := keyless_readFirst m a d keys
        obtain ⟨hk', hc'⟩ := keyless_readThen m a (d.readFirst m a) keys
        refine ⟨?_, hc'.trans hc⟩
        simp only [hk, hk', Dev.view_withKeys]

theorem Dev.access_read_withKeys (d : Dev) (keys : Tbl Nat) (m : Master) (a : Nat) :
    (d.withKeys keys).access m a .read = (d.access m a .read).withKeys keys ∧ (d.access m a .read).cph = d.cph := by
  by_cases h4 : a % 4 = 0
  · obtain ⟨hk, hc⟩ := d.busRead_withKeys keys m a
    rw [Dev.access_read_of_aligned h4, Dev.access_read_of_aligned h4, hk]
    exact ⟨rfl, hc⟩
  · obtain ⟨hk, hc⟩ : (d.withKeys keys).narrow m a = (d.narrow m a).withKeys keys ∧ (d.narrow m a).cph = d.cph :=
      keyless_narrow m a d keys
    rw [Dev.access_read_of_unaligned h4, Dev.access_read_of_unaligned h4, hk]
    exact ⟨rfl, hc⟩

/-- Settles O35. -/
theorem readsShowNoKey : Obligations.ReadsShowNoKey := by
  intro d keys m a
  obtain ⟨hk, hc⟩ := d.access_read_withKeys keys m a
  refine ⟨hk.trans ?_, hc⟩
  rw [Dev.withKeys, hc]

end Sys2Proof.Machine
end

section
/-!
PROOFS. The resets of the main and the Crema domain: the level of the DSD pins, the bursts that a reset cuts, what a clear keeps.
-/
namespace Sys2Proof.Machine

variable {d : Dev}

theorem Dev.Regs.unput_one (d : Dev) (f : Fld) : d.Regs (d.unput f) [(f, Reg.rst f.key)] :=
  .intro (List.forall_mem_singleton.2 (d.fld_unput_same f)) fun k hk => by
    have hk : k ≠ f.key := hk (f, _) List.mem_cons_self
    rw [Dev.unput, Tbl.get_del_ne _ _ hk]

/-! ### DSD as the pins give it -/

theorem rst_dsd : ∀ n < 4, Reg.rst (defFld n dDSD).key = 0 := by decide

theorem defFld_key_inj {n m k : Nat} (h : (defFld n k).key = (defFld m k).key) : n = m := by
  simp only [defFld, Fld.key, Reg.LN_DEF_STAT.ADR] at h; omega

/-- A channel's line state as its pin leaves it. -/
def Dev.lampOf (d : Dev) (n : Nat) : Line :=
  if d.sdSignal n then d.line n else { d.line n with seen := setBit (d.line n).seen dDSD true }

theorem Dev.dsdPin_Regs {n : Nat} (hn : n < 4) : d.Regs (d.dsdPin n) [(defFld n dDSD, bit (!d.sdSignal n))] := by
  unfold Dev.dsdPin
  split
  · next hs => simpa [hs, bit, rst_dsd n hn] using Dev.Regs.unput_one d (defFld n dDSD)
  · next hs =>
    rw [Bool.not_eq_true] at hs
    rw [hs]
    exact (Dev.Regs.nil d).put (defFld n dDSD) 1 (by simp)

theorem Dev.dsdPin_line (d : Dev) (n m : Nat) : (d.dsdPin n).line m = if m = n then d.lampOf n else d.line m := by
  unfold Dev.dsdPin Dev.lampOf
  split
  · split
    · next h => rw [h]; rfl
    · rfl
  · exact Tbl.get_set _ _ _ _ _

theorem Dev.dsdPin_rest (d : Dev) (n : Nat) : { d.dsdPin n with regs := d.regs, lines := d.lines } = d := by
  unfold Dev.dsdPin
  split <;> rfl

theorem sdPol_key_ne (n m : Nat) : (Reg.LN_CTRL.SD_POL n).key ≠ (defFld m dDSD).key := by
  simp only [defFld, Fld.key, Reg.LN_CTRL.SD_POL, Reg.LN_DEF_STAT.ADR, dDSD]; omega

/-- DSD of another channel leaves the signal of this one alone, and its own too. -/
theorem Dev.dsdPin_sdSignal {n : Nat} (hn : n < 4) (m : Nat) : (d.dsdPin n).sdSignal m = d.sdSignal m := by
  have hsd : ((d.dsdPin n).line m).sd = (d.line m).sd := by
    rw [Dev.dsdPin_line]
    split
    · next h => subst h; unfold Dev.lampOf; split <;> rfl
    · rfl
  have hpol : (d.dsdPin n).fld (Reg.LN_CTRL.SD_POL m) = d.fld (Reg.LN_CTRL.SD_POL m) :=
    (Dev.dsdPin_Regs hn).fld_eq (by simpa using sdPol_key_ne m n)
  unfold Dev.sdSignal Dev.on
  rw [hsd, hpol]

theorem Dev.dsdPin_lampOf {n : Nat} (hn : n < 4) {m : Nat} (h : m ≠ n) : (d.dsdPin n).lampOf m = d.lampOf m := by
  simp only [Dev.lampOf, Dev.dsdPin_sdSignal hn, Dev.dsdPin_line, if_neg h]

/-- Several channels take DSD from their pins, one after another. -/
theorem Dev.each_dsdPin {l : List Nat} (hl : ∀ n ∈ l, n < 4) (hd : l.Nodup) (d : Dev) :
    let e := d.each l (·.dsdPin ·)
    d.Regs e (l.map fun n => (defFld n dDSD, bit (!d.sdSignal n))) ∧
      (∀ m, e.line m = if m ∈ l then d.lampOf m else d.line m) ∧ { e with regs := d.regs, lines := d.lines } = d := by
  induction l generalizing d with
  | nil => exact ⟨.nil d, fun _ => rfl, rfl⟩
  | cons n r ih =>
    obtain ⟨hn, hr⟩ := List.forall_mem_cons.1 hl
    obtain ⟨hnr, hd⟩ := List.nodup_cons.1 hd
    obtain ⟨hregs, hline, hrest⟩ := ih hr hd (d.dsdPin n)
    refine ⟨?_, fun m => (hline m).trans ?_, ?_⟩
    · simp only [Dev.dsdPin_sdSignal hn] at hregs
      exact (Dev.dsdPin_Regs hn).trans hregs (by
        simp only [List.mem_singleton, List.mem_map, forall_eq, forall_exists_index, and_imp, forall_apply_eq_imp_iff₂]
        exact fun m hm h => hnr (defFld_key_inj h ▸ hm))
    · by_cases hm : m = n
      · subst hm
        simp [hnr, Dev.dsdPin_line]
      · simp [hm, Dev.dsdPin_line, Dev.dsdPin_lampOf hn hm]
    · have hstep (e : Dev) : ({ e with regs := d.regs, lines := d.lines } : Dev) =
          { ({ e with regs := (d.dsdPin n).regs, lines := (d.dsdPin n).lines } : Dev) with regs := d.regs, lines := d.lines } := rfl
      exact (hstep _).trans ((congrArg (fun x : Dev => { x with regs := d.regs, lines := d.lines }) hrest).trans (d.dsdPin_rest n))

/-! ### Bursts that a reset cuts -/

/-- A burst of channel `n` is still on its way. -/
def Dev.sending (d : Dev) (n : Nat) : Bool := (d.coach n).lastOff.any (fun o => decide (d.gridNow n < o))

theorem Dev.txCut_eq (d : Dev) (n : Nat) : d.txCut n =
    if d.sending n then (d.setCoach n { d.coach n with lastOff := some (d.gridNow n) }).emit (.burstCut n) else d := by
  unfold Dev.txCut Dev.sending
  cases h : (d.coach n).lastOff <;> simp [h]

theorem Dev.txCut_rest (d : Dev) (n : Nat) : { d.txCut n with coaches := d.coaches, out := d.out } = d := by
  rw [Dev.txCut_eq]
  split <;> rfl

theorem Dev.txCut_sending {n m : Nat} (h : m ≠ n) : (d.txCut n).sending m = d.sending m := by
  rw [Dev.txCut_eq]
  split
  · simp [Dev.sending, Dev.gridNow, Dev.nowPs, Dev.coach, Dev.emit, Dev.setCoach, Tbl.get_set_ne _ _ _ h]
  · rfl

/-- Cuts one after another: the bursts on their way are reported in order, and only the transmitters stop. -/
theorem Dev.each_txCut {l : List Nat} (hd : l.Nodup) (d : Dev) :
    let e := d.each l (·.txCut ·)
    e.out = ((l.filter d.sending).map Emit.burstCut).reverse ++ d.out ∧ { e with coaches := d.coaches, out := d.out } = d := by
  induction l generalizing d with
  | nil => exact ⟨rfl, rfl⟩
  | cons n r ih =>
    obtain ⟨hnr, hd⟩ := List.nodup_cons.1 hd
    obtain ⟨hout, hrest⟩ := ih hd (d.txCut n)
    constructor
    · have hsame : r.filter (d.txCut n).sending = r.filter d.sending :=
        List.filter_congr fun m hm => Dev.txCut_sending fun h => hnr (h ▸ hm)
      refine hout.trans ?_
      rw [hsame, Dev.txCut_eq]
      cases hs : d.sending n <;> simp [hs, Dev.emit]
    · have hstep (e : Dev) : ({ e with coaches := d.coaches, out := d.out } : Dev) =
          { ({ e with coaches := (d.txCut n).coaches, out := (d.txCut n).out } : Dev) with coaches := d.coaches, out := d.out } := rfl
      exact (hstep _).trans ((congrArg (fun x : Dev => { x with coaches := d.coaches, out := d.out }) hrest).trans (d.txCut_rest n))

theorem Dev.txCuts_out (d : Dev) : d.txCuts.out =
    (((List.range 4).filter fun n => d.lnUp n && d.sending n).map Emit.burstCut).reverse ++ d.out := by
  rw [show d.txCuts = d.each ((List.range 4).filter d.lnUp) (·.txCut ·) from rfl, (d.each_txCut (List.nodup_range.filter _)).1,
    List.filter_filter]
  simp only [Bool.and_comm]

theorem Dev.txCuts_rest (d : Dev) : { d.txCuts with coaches := d.coaches, out := d.out } = d :=
  (d.each_txCut (List.nodup_range.filter _)).2

/-! ### What a clear keeps -/

theorem Tbl.get_keep {α : Type} (t : Tbl α) (p : Nat → Bool) (k : Nat) (x : α) :
    Tbl.get (Tbl.keep t p) k x = if p k then Tbl.get t k x else x := by
  induction t with
  | nil => simp [Tbl.keep]
  | cons e r ih =>
    unfold Tbl.keep at ih ⊢
    by_cases hk : e.1 = k
    · cases hp : p k <;> simp_all [Tbl.get]
    · cases hp : p e.1 <;> simp_all [Tbl.get]

theorem get_keepPins (t : Tbl Line) (n : Nat) : Tbl.get (keepPins t) n {} = { sd := (Tbl.get t n {}).sd } := by
  induction t with
  | nil => rfl
  | cons e r ih =>
    unfold keepPins Tbl.mapVals at ih ⊢
    by_cases hk : e.1 = n <;> simp_all [Tbl.get]

theorem Dev.Regs.of_mem_iff {d' : Dev} {l l' : List (Fld × Nat)} (h : d.Regs d' l) (hl : ∀ e, e ∈ l' ↔ e ∈ l) : d.Regs d' l' :=
  ⟨fun e he => h.1 e ((hl e).1 he), fun k hk => h.2 k fun hk' => hk (by simpa [hl] using hk')⟩

/-- Fields written on a device whose registers are those that `keep` names. -/
theorem Dev.Regs.resets {e x d' : Dev} {keep : Nat → Bool} {l : List (Fld × Nat)} (h : x.Regs d' l)
    (hx : ∀ k, Tbl.get x.regs k (Reg.rst k) = if keep k then Tbl.get e.regs k (Reg.rst k) else Reg.rst k) : e.Resets d' keep l :=
  ⟨h.1, fun k hk => (h.2 k (by simpa using hk)).trans (hx k)⟩

/-- DSD of the present channels by their pins, as reset has it (SD_POL at 0). -/
def Dev.dsdShown (e : Dev) : List (Fld × Nat) := ((List.range 4).filter e.lnHere).map fun n => (defFld n dDSD, bit (!(e.line n).sd))

/-- A line's state after a reset: its pin, and what the second has seen. -/
def Dev.lampReset (e : Dev) (n : Nat) : Line :=
  { sd := (e.line n).sd, seen := if n < 4 ∧ e.lnHere n = true ∧ (e.line n).sd = false then 7 else 6 }

theorem Dev.lnHere_lt {e : Dev} {n : Nat} (h : e.lnHere n = true) : n < 4 := by
  simp only [Dev.lnHere, Bool.and_eq_true, decide_eq_true_eq] at h
  exact h.1

/-- The DSD of a cleared device `x`, which has of `e` the chip and the levels of the pins. -/
theorem Dev.dsdPins_of_clear {e x : Dev} (hc : x.chip = e.chip) (hl : x.lines = keepPins e.lines)
    (hpol : ∀ n < 4, x.fld (Reg.LN_CTRL.SD_POL n) = 0) :
    x.Regs x.dsdPins e.dsdShown ∧ (∀ n, x.dsdPins.line n = e.lampReset n) ∧
      { x.dsdPins with regs := x.regs, lines := x.lines } = x := by
  have hhere : x.lnHere = e.lnHere := by funext n; rw [Dev.lnHere, Dev.lnHere, hc]
  have hline (n) : x.line n = { sd := (e.line n).sd } := by rw [Dev.line, hl, get_keepPins]; rfl
  have hsig {n} (hn : n < 4) : x.sdSignal n = (e.line n).sd := by
    rw [Dev.sdSignal, Dev.on, hpol n hn, hline]
    cases (e.line n).sd <;> rfl
  have hlt (n) (h : n ∈ (List.range 4).filter x.lnHere) : n < 4 := Dev.lnHere_lt (List.mem_filter.1 h).2
  obtain ⟨hregs, hlines, hrest⟩ := Dev.each_dsdPin hlt (List.nodup_range.filter _) x
  refine ⟨?_, fun n => (hlines n).trans ?_, hrest⟩
  · rw [Dev.dsdShown, ← hhere, List.map_congr_left fun n h => by rw [← hsig (hlt n h)]]
    exact hregs
  · unfold Dev.lampReset Dev.lampOf
    by_cases hn : e.lnHere n = true
    · have h4 := Dev.lnHere_lt hn
      rw [if_pos (by simp [hhere, hn, h4]), hsig h4, hline]
      cases (e.line n).sd <;> simp [hn, h4]; rfl
    · rw [if_neg (by simp [hhere, hn]), hline, if_neg (by simp [hn])]

/-! ### The cold reset -/

theorem sdPol_not_kept (n : Nat) : coldKeeps (Reg.LN_CTRL.SD_POL n).key = false := by
  have h : (Reg.LN_CTRL.SD_POL n).key / 32 = 0x100000 + n * 0x40000 := by
    simp only [Fld.key, Reg.LN_CTRL.SD_POL]; omega
  simp only [coldKeeps, h, Reg.GEN_FW_CTRL.ADR, Reg.GEN_FW_STAT.ADR, Reg.CHIPCAP_RST_CAUSE.ADR, Bool.or_eq_false_iff,
    Bool.and_eq_false_imp, decide_eq_true_eq, decide_eq_false_iff_not, beq_eq_false_iff_ne]
  omega

theorem rst_sdPol : ∀ n < 4, Reg.rst (Reg.LN_CTRL.SD_POL n).key = 0 := by decide

/-- What a cold reset leaves of the device beside registers, lines, outputs and holds. -/
def Dev.coldRest (e : Dev) : Dev :=
  { chip := e.chip, pwr := e.pwr, wake := e.wake, gasp := e.gasp.map (fun _ => 0), freeCtr := e.freeCtr
    tru := { fuses := e.tru.fuses, shadow := e.tru.fuses, deadArb := e.tru.deadArb, deadRevoke := e.tru.deadRevoke
             trialOut := e.tru.trialOut, recPref := e.tru.recPref } }

/-- The bursts on their way at a reset. -/
def Dev.cutBursts (e : Dev) : List Nat := (List.range 4).filter fun n => e.lnUp n && e.sending n

theorem Dev.coldClear_spec (e : Dev) :
    let d := e.coldClear
    d.held = e.held ∧ e.Resets d coldKeeps e.dsdShown ∧ (∀ n, d.line n = e.lampReset n) ∧
      d.out = (e.cutBursts.map Emit.burstCut).reverse ++ e.out ∧
      { d with held := {}, regs := [], out := [], lines := [] } = e.coldRest := by
  obtain ⟨c, o, hcut⟩ : ∃ c o, e.txCuts = { e with coaches := c, out := o } :=
    ⟨_, _, congrArg (fun z : Dev => { z with coaches := e.txCuts.coaches, out := e.txCuts.out }) e.txCuts_rest⟩
  have hout : o = (e.cutBursts.map Emit.burstCut).reverse ++ e.out := (congrArg Dev.out hcut).symm.trans e.txCuts_out
  simp only [Dev.coldClear, hcut]
  generalize hx : ({ chip := e.chip, held := e.held, regs := _, lines := _, pwr := _, wake := _, gasp := _, tru := _, freeCtr := _, out := o } : Dev) = x
  obtain ⟨hregs, hlines, hrest⟩ := Dev.dsdPins_of_clear (e := e) (x := x) (by rw [← hx]) (by rw [← hx]) fun n hn => by
    rw [← hx, Dev.fld, Tbl.get_keep, sdPol_not_kept]
    exact rst_sdPol n hn
  have hback (g : Dev → Dev) : g { x.dsdPins with regs := x.regs, lines := x.lines } = g x := congrArg g hrest
  refine ⟨?_, hregs.resets fun k => by rw [← hx, Tbl.get_keep], hlines, ?_, ?_⟩
  · exact (congrArg Dev.held hrest).trans (by rw [← hx])
  · exact (congrArg Dev.out hrest).trans (by rw [← hx, hout])
  · exact (hback fun z => { z with held := {}, regs := [], out := [], lines := [] }).trans (by rw [← hx]; rfl)

theorem rst_cold_not_dsd (e : Dev) : ∀ x ∈ e.dsdShown, ∀ f ∈ [Reg.CHIPCAP_RST_CAUSE.COLD, Reg.PWR_STAT.PORST],
    x.1.key ≠ f.key := by
  simp only [Dev.dsdShown, List.mem_map, List.mem_filter, List.mem_range, forall_exists_index, and_imp, List.mem_cons,
    List.not_mem_nil, or_false]
  rintro _ n hn - rfl f (rfl | rfl) <;>
    simp only [defFld, Fld.key, Reg.LN_DEF_STAT.ADR, Reg.CHIPCAP_RST_CAUSE.COLD, Reg.PWR_STAT.PORST, dDSD] <;> omega

/-- The condition of O13 on the device after a cold reset that leaves the device held by `h` and writes `l`. -/
def Dev.ColdDone (e : Dev) (h : Held) (l : List (Fld × Nat)) (d : Dev) : Prop :=
  d.held = h ∧ e.Resets d coldKeeps (l ++ e.dsdShown) ∧ (∀ n, d.line n = e.lampReset n) ∧
    d.out = (e.cutBursts.map Emit.burstCut).reverse ++ e.out ∧
    { d with held := {}, regs := [], out := [], lines := [] } = e.coldRest

theorem Dev.Resets.put {e d' : Dev} {keep : Nat → Bool} {l : List (Fld × Nat)} (h : e.Resets d' keep l) (f : Fld) {v : Nat}
    (hv : v < 2 ^ f.w) (hk : ∀ x ∈ l, x.1.key ≠ f.key) : e.Resets (d'.put f v) keep ((f, v) :: l) := by
  refine ⟨List.forall_mem_cons.2 ⟨(d'.fld_put_same f v).trans (Nat.mod_eq_of_lt hv), fun x hx => ?_⟩, fun k hk' => ?_⟩
  · rw [Dev.fld_put_ne _ _ (hk x hx)]
    exact h.1 x hx
  · simp only [List.map_cons, List.mem_cons, not_or] at hk'
    rw [Dev.reg_put, if_neg hk'.1]
    exact h.2 k hk'.2

theorem Dev.Resets.of_mem_iff {e d' : Dev} {keep : Nat → Bool} {l l' : List (Fld × Nat)} (h : e.Resets d' keep l)
    (hl : ∀ x, x ∈ l' ↔ x ∈ l) : e.Resets d' keep l' :=
  ⟨fun x hx => h.1 x ((hl x).1 hx), fun k hk => h.2 k fun hk' => hk (by simpa [hl] using hk')⟩

theorem Dev.Resets.fld_eq {e d' : Dev} {keep : Nat → Bool} {l : List (Fld × Nat)} (h : e.Resets d' keep l) {f : Fld}
    (hf : f.key ∉ l.map (·.1.key)) (hk : keep f.key = true) : d'.fld f = e.fld f :=
  (h.2 f.key hf).trans (if_pos hk)

theorem Dev.coldReset_done (e : Dev) (h : Held) :
    e.ColdDone h [(Reg.CHIPCAP_RST_CAUSE.COLD, 1)] ({ e with held := h } : Dev).coldReset := by
  obtain ⟨hheld, hregs, hlines, hout, hrest⟩ := ({ e with held := h } : Dev).coldClear_spec
  exact ⟨hheld, hregs.put Reg.CHIPCAP_RST_CAUSE.COLD (by decide) fun x hx => rst_cold_not_dsd e x hx _ (by simp), hlines, hout, hrest⟩

theorem Dev.porstLow_done (e : Dev) : e.ColdDone { e.held with porst := true }
    [(Reg.CHIPCAP_RST_CAUSE.COLD, 1), (Reg.PWR_STAT.PORST, 0)] e.porstLow := by
  obtain ⟨hheld, hregs, hlines, hout, hrest⟩ := e.coldReset_done { e.held with porst := true }
  have hput := hregs.put Reg.PWR_STAT.PORST (v := 0) (by decide) (List.forall_mem_cons.2 ⟨by decide,
    fun x hx => rst_cold_not_dsd e x hx _ (by simp)⟩)
  exact ⟨hheld, hput.of_mem_iff fun x => by simp only [List.cons_append, List.nil_append, List.mem_cons]; tauto, hlines, hout, hrest⟩

theorem dsdShown_not_mem (e : Dev) {f : Fld} (hf : f.key < 0x100000 * 32) : f.key ∉ e.dsdShown.map (·.1.key) := by
  simp only [Dev.dsdShown, List.map_map, List.mem_map, not_exists, not_and]
  intro n _ h
  simp only [Function.comp, defFld, Fld.key, Reg.LN_DEF_STAT.ADR] at h hf
  omega

/-- A running power sequencer stays as it is. -/
theorem Dev.unlatch_tryUp_of_on {d : Dev} (h : d.seq = sqOn) : d.unlatch.tryUp = d := by
  rw [Dev.unlatch, if_neg (by rw [h]; decide), Dev.tryUp, if_neg]
  rintro ⟨-, -, -, -, hoff, -⟩
  rw [h] at hoff
  cases hoff

theorem Dev.porstLow_seq (e : Dev) : e.porstLow.seq = e.seq := by
  obtain ⟨hheld, hregs, -⟩ := e.porstLow_done
  have hseq : e.porstLow.fld Reg.PWR_STAT.SEQ = e.fld Reg.PWR_STAT.SEQ := hregs.fld_eq (by
    rw [List.map_append, List.mem_append]
    exact not_or.2 ⟨by decide, dsdShown_not_mem e (by decide)⟩) (by decide)
  unfold Dev.seq
  rw [hseq, hheld]

/-- Settles O13: both pins end in `Dev.coldReset`, whose clear `Dev.coldClear_spec` describes. -/
theorem coldResetClearsTheMainDomain : Obligations.ColdResetClearsTheMainDomain := by
  intro s strap hup
  have hlow : s.dev.ColdDone { s.dev.held with porst := true } [(Reg.CHIPCAP_RST_CAUSE.COLD, 1), (Reg.PWR_STAT.PORST, 0)] s.dev.porstLow :=
    s.dev.porstLow_done
  have hdoes : Does .porstNAssert s s.dev.porstLow.unlatch.tryUp := .of_pin (exec_porstNAssert _) hup
  refine ⟨⟨_, hdoes, hlow⟩, fun hon => ⟨_, ?_, hlow⟩, ⟨_, .of_pin (exec_testEnAssert ..) hup, s.dev.coldReset_done _⟩⟩
  rwa [Dev.unlatch_tryUp_of_on (s.dev.porstLow_seq.trans hon)] at hdoes

end Sys2Proof.Machine
end

section
/-!
PROOFS. The release of the reset pins, the Crema power-on reset, and the warm reset.
-/
namespace Sys2Proof.Machine

/-! ### A release -/

/-- What the end of a cold reset samples (R285), when the holds become `h`. -/
def Dev.roleFlds (d : Dev) (h : Held) (strap : Bool) : List (Fld × Nat) :=
  if d.held.cold = true ∧ h.cold = false then [(Reg.RP_HIER_STAT.ROLE, if d.chip.part = 0x6440 ∨ strap = true then 1 else 0)]
  else []

theorem Dev.roleFlds_mem (d : Dev) (h : Held) (strap : Bool) : ∀ y ∈ d.roleFlds h strap, y.1 = Reg.RP_HIER_STAT.ROLE := by
  unfold Dev.roleFlds
  split <;> simp

theorem Dev.setHeld_sets (d : Dev) (h : Held) (strap : Bool) :
    ({ d with held := h } : Dev).Sets (d.setHeld h strap) (d.roleFlds h strap) := by
  have hrole : bit (d.chip.part == 0x6440 || strap) = if d.chip.part = 0x6440 ∨ strap = true then 1 else 0 := by simp [bit]
  unfold Dev.setHeld Dev.coldEnd Dev.roleFlds
  by_cases hc : d.held.cold = true ∧ h.cold = false
  · rw [if_pos hc, ← hrole]
    simp only [hc, Bool.not_false, Bool.and_self, if_true]
    exact (Dev.Sets.nil _).put_of_lt _ (bit_lt _) (by simp)
  · rw [if_neg hc, if_neg (by simpa using hc)]
    exact .nil _

theorem Does.of_pin_held {i : Instr} {s : State} {g : Held → Held} {f : Dev → Dev} (he : exec i s = s.pin g f)
    (h : s.dev.held.crema = true) : Does i s { s.dev with held := g s.dev.held } := by
  have hup : s.dev.cremaUp = false := by rw [Dev.cremaUp, h]; rfl
  unfold Does
  rw [he, State.pin, State.run]
  simp only [hup, Bool.false_eq_true, if_false]

/-- Settles O16. -/
theorem pinReleaseEndsTheReset : Obligations.PinReleaseEndsTheReset := by
  intro s strap on
  refine ⟨fun h => ⟨.of_pin_held (exec_porstNAssert _) h, .of_pin_held (exec_porstNRelease ..) h, .of_pin_held (exec_testEnAssert ..) h⟩,
    fun h => ?_, .of_run (exec_resetNRelease _)⟩
  have hup : s.dev.cremaUp = true := by rw [Dev.cremaUp, h]; rfl
  intro role h1 h2
  refine ⟨⟨_, .of_pin (exec_porstNRelease ..) hup, ?_⟩, ⟨_, .of_pin (exec_testEnAssert ..) hup, s.dev.setHeld_sets h2 strap⟩⟩
  have hput : ({ s.dev with held := h1 } : Dev).Sets { s.dev.put Reg.PWR_STAT.PORST 1 with held := h1 } [(Reg.PWR_STAT.PORST, 1)] :=
    (Dev.Sets.nil { s.dev with held := h1 }).put_of_lt Reg.PWR_STAT.PORST (v := 1) (by decide) (by simp)
  exact hput.trans ((s.dev.put Reg.PWR_STAT.PORST 1).setHeld_sets h1 strap) (by
    intro x hx y hy
    rw [List.mem_singleton.1 hx, (s.dev.put Reg.PWR_STAT.PORST 1).roleFlds_mem h1 strap y hy]
    decide)

/-! ### The Crema power-on reset -/

/-- VIN is low or the module is not seated. -/
def Dev.dgOn (d : Dev) : Bool := d.pwr.vinLow || d.pwr.hpHigh

/-- When the gasp began, after it has been evaluated. -/
def Dev.gaspNext (d : Dev) : Option Nat :=
  if d.dgOn = false then none else if d.dgOn = true ∧ d.fld Reg.PWR_STAT.DG = 0 then some d.tim.ctr else d.gasp

/-- What the evaluation of the dying gasp writes (R396). -/
def Dev.gaspFlds (d : Dev) : List (Fld × Nat) :=
  if d.dgOn = false then [(Reg.PWR_STAT.DG, 0)]
  else if d.dgOn = true ∧ d.fld Reg.PWR_STAT.DG = 0 then
    [(Reg.PWR_STAT.DG, 1), (Reg.PWR_EVT.DG, 1), (Reg.PWR_CNT.COUNT 1, min 0xFFFFFFFF (d.fld (Reg.PWR_CNT.COUNT 1) + 1))]
  else []

theorem Dev.gaspFlds_mem (d : Dev) : ∀ y ∈ d.gaspFlds, y.1 ∈ [Reg.PWR_STAT.DG, Reg.PWR_EVT.DG, Reg.PWR_CNT.COUNT 1] := by
  unfold Dev.gaspFlds
  split
  · simp
  · split <;> simp

theorem Dev.gaspEval_sets (d : Dev) : ({ d with gasp := d.gaspNext } : Dev).Sets d.gaspEval d.gaspFlds := by
  rcases hdg : d.dgOn with _ | _
  · have he : d.gaspEval = { d.put Reg.PWR_STAT.DG 0 with gasp := none } := if_neg (ne_true_of_eq_false hdg)
    rw [he, Dev.gaspNext, Dev.gaspFlds, if_pos hdg, if_pos hdg]
    exact (Dev.Sets.nil { d with gasp := none }).put_of_lt Reg.PWR_STAT.DG (v := 0) (by decide) (by simp)
  · have hon : ¬ d.dgOn = false := by simp [hdg]
    have he : d.gaspEval = if d.on Reg.PWR_STAT.DG then d
      else { ((d.put Reg.PWR_STAT.DG 1).ev Reg.PWR_EVT.DG).bump (Reg.PWR_CNT.COUNT 1) with gasp := some d.tim.ctr } := if_pos hdg
    rw [he, Dev.gaspNext, Dev.gaspFlds, if_neg hon, if_neg hon]
    by_cases hf : d.fld Reg.PWR_STAT.DG = 0
    · have hrise : d.dgOn = true ∧ d.fld Reg.PWR_STAT.DG = 0 := ⟨hdg, hf⟩
      have hoff : ¬ d.on Reg.PWR_STAT.DG = true := by simp [Dev.on, hf]
      rw [if_pos hrise, if_pos hrise, if_neg hoff]
      have h1 := (Dev.Sets.nil { d with gasp := some d.tim.ctr }).put_of_lt Reg.PWR_STAT.DG (v := 1) (by decide) (by simp)
      have h2 := h1.put_of_lt Reg.PWR_EVT.DG (v := 1) (by decide) (by simp +decide)
      exact (h2.bump (Reg.PWR_CNT.COUNT 1) (by simp +decide)).of_mem_iff fun x => by
        simp only [List.mem_cons]; tauto
    · have hstays : ¬ (d.dgOn = true ∧ d.fld Reg.PWR_STAT.DG = 0) := fun h => hf h.2
      have hstands : d.on Reg.PWR_STAT.DG = true := by simp [Dev.on, hf]
      rw [if_neg hstays, if_neg hstays, if_pos hstands]
      exact .nil _

theorem Dev.cremaReset_spec (e : Dev) :
    let d := e.cremaReset
    e.Resets d (fun _ => false) e.dsdShown ∧ (∀ n, d.line n = e.lampReset n) ∧
      d.out = (e.cutBursts.map Emit.burstCut).reverse ++ e.out ∧
      { d with regs := [], out := [], lines := [] } =
        { chip := e.chip, freeCtr := e.freeCtr
          held := { crema := true, rails := true, porst := e.held.porst, resetN := e.held.resetN, testEn := e.held.testEn }
          pwr := { hpHigh := e.pwr.hpHigh }
          tru := { fuses := e.tru.fuses, shadow := e.tru.fuses, deadArb := e.tru.deadArb, deadRevoke := e.tru.deadRevoke } } := by
  obtain ⟨c, o, hcut⟩ : ∃ c o, e.txCuts = { e with coaches := c, out := o } :=
    ⟨_, _, congrArg (fun z : Dev => { z with coaches := e.txCuts.coaches, out := e.txCuts.out }) e.txCuts_rest⟩
  have hout : o = (e.cutBursts.map Emit.burstCut).reverse ++ e.out := (congrArg Dev.out hcut).symm.trans e.txCuts_out
  simp only [Dev.cremaReset, hcut]
  generalize hx : ({ chip := e.chip, freeCtr := _, out := o, lines := _, held := _, pwr := _, tru := _ } : Dev) = x
  obtain ⟨hregs, hlines, hrest⟩ := Dev.dsdPins_of_clear (e := e) (x := x) (by rw [← hx]) (by rw [← hx]) fun n hn => by
    rw [← hx]
    exact rst_sdPol n hn
  have hback (g : Dev → Dev) : g { x.dsdPins with regs := x.regs, lines := x.lines } = g x := congrArg g hrest
  refine ⟨hregs.resets fun k => by rw [← hx]; rfl, hlines, ?_, ?_⟩
  · exact (congrArg Dev.out hrest).trans (by rw [← hx, hout])
  · exact (hback fun z => { z with regs := [], out := [], lines := [] }).trans (by rw [← hx])

/-- The pins are seen as the Crema power-on reset ends. -/
def Dev.cremaSeen (e : Dev) : Dev :=
  (({ e with held := { e.held with crema := false } } : Dev).put Reg.PWR_STAT.PORST (bit (!e.held.porst))).put
    Reg.PWR_STAT.SEATED (bit (!e.pwr.hpHigh))

theorem Dev.cremaSeen_sets (e : Dev) (g : Option Nat) :
    ({ e with held := { e.held with crema := false }, gasp := g } : Dev).Sets { e.cremaSeen with gasp := g }
      [(Reg.PWR_STAT.PORST, bit (!e.held.porst)), (Reg.PWR_STAT.SEATED, bit (!e.pwr.hpHigh))] := by
  have h := (Dev.Sets.nil { e with held := { e.held with crema := false }, gasp := g }).put_of_lt Reg.PWR_STAT.PORST
    (bit_lt (!e.held.porst)) (by simp)
  exact (h.put_of_lt Reg.PWR_STAT.SEATED (bit_lt (!e.pwr.hpHigh)) (by simp +decide)).of_mem_iff fun x => by
    simp only [List.mem_cons]; tauto

theorem Dev.cremaSeen_fld (e : Dev) {f : Fld} (h : f.key ≠ Reg.PWR_STAT.PORST.key ∧ f.key ≠ Reg.PWR_STAT.SEATED.key) :
    e.cremaSeen.fld f = e.fld f := by
  rw [Dev.cremaSeen, Dev.fld_put_ne _ _ h.2, Dev.fld_put_ne _ _ h.1]
  rfl

theorem Dev.cremaSeen_gaspNext (e : Dev) : e.cremaSeen.gaspNext = e.gaspNext := by
  unfold Dev.gaspNext
  rw [e.cremaSeen_fld (by decide)]
  rfl

theorem Dev.cremaSeen_gaspFlds (e : Dev) : e.cremaSeen.gaspFlds = e.gaspFlds := by
  unfold Dev.gaspFlds
  rw [e.cremaSeen_fld (by decide), e.cremaSeen_fld (by decide)]
  rfl

/-- Settles O15. -/
theorem cremaResetClearsEverything : Obligations.CremaResetClearsEverything := by
  intro s e t dsd cut lamp
  refine ⟨⟨_, .of_run (exec_cremaPowerOnReset _), e.cremaReset_spec⟩, fun h => ⟨_, .of_run (exec_cremaPorEnd _), ?_⟩, fun h => ?_⟩
  · have hend : e.cremaEnd = (e.cremaSeen).gaspEval := if_pos h
    have hpins := e.cremaSeen_sets e.cremaSeen.gaspNext
    have hall := hpins.trans e.cremaSeen.gaspEval_sets (by
      have hdisj : ∀ f ∈ [Reg.PWR_STAT.PORST, Reg.PWR_STAT.SEATED],
        ∀ g ∈ [Reg.PWR_STAT.DG, Reg.PWR_EVT.DG, Reg.PWR_CNT.COUNT 1], f.key ≠ g.key := by decide
      exact fun x hx y hy => hdisj _ (by
        simp only [List.mem_cons, List.not_mem_nil, or_false] at hx
        rcases hx with rfl | rfl <;> simp) _ (e.cremaSeen.gaspFlds_mem y hy))
    rw [hend]
    rw [e.cremaSeen_gaspNext, e.cremaSeen_gaspFlds] at hall
    exact hall
  · have := Does.of_run (exec_cremaPorEnd s)
    rwa [Dev.cremaEnd, if_neg (by rw [h]; decide)] at this

/-! ### The warm reset -/

/-- A device whose table of register contents lists 4 for the two bits of PLL_STAT.STATE. -/
def oddPll : Dev := { regs := [(Reg.TIM_PLL_STAT.STATE.key, 4)] }

theorem oddPll_resetNLow : oddPll.resetNLow.held = { resetN := true } ∧ oddPll.resetNLow.fld Reg.TIM_PLL_STAT.STATE = 0 := by
  decide

/-- Refutes O14: where the table of register contents lists a value beyond a field's width, which no clause excludes, a warm reset
writes PLL_STAT.STATE again within its width, so that a state that is neither LOCKED nor LOCKING does not stay. -/
theorem not_warmResetKeepsTheTime : ¬ Obligations.WarmResetKeepsTheTime := by
  intro h
  obtain ⟨d, hdoes, hheld, -, -, -, -, -, hstate, -⟩ := (h { dev := oddPll } .pcie 0).1 rfl
  have hd : d = oddPll.resetNLow := by
    have hafter : oddPll.resetNLow.after = d.after :=
      congrArg (fun o : Out => match o with | .next t => t.dev | _ => d) hdoes
    have hdown : d.mainUp = false := by rw [Dev.mainUp, hheld]; rfl
    rwa [Dev.after_held hdown, Dev.after_held (by rw [Dev.mainUp, oddPll_resetNLow.1]; rfl), eq_comm] at hafter
  rw [hd, oddPll_resetNLow.2] at hstate
  exact absurd hstate (by decide)

end Sys2Proof.Machine
end

section
/-!
PROOFS. A write by access types (R15, R17): the write of a register that does no more is `Dev.plainWrite`, whose fields lie apart.
-/
namespace Sys2Proof.Machine

/-! ### The fields of a register lie apart -/

/-- Fields of one register start at different bits of its word. -/
def RegD.apart (r : RegD) : Bool := (r.fields.map (·.lo)).Nodup && r.fields.all (fun f => decide (f.lo < 32))

theorem all_ite {α : Type} {p : α → Bool} {c : Prop} [Decidable c] {l l' : List α} (h : l.all p = true) (h' : l'.all p = true) :
    (if c then l else l').all p = true := by
  split
  · exact h
  · exact h'

theorem Reg.table_apart (a : Nat) : (Reg.table a).all RegD.apart = true := by
  unfold Reg.table
  iterate 17 refine all_ite (by decide) ?_
  rfl

theorem Reg.find_apart {a : Nat} {r : RegD} (h : Reg.find a = some r) :
    (r.fields.map (·.lo)).Nodup ∧ ∀ f ∈ r.fields, f.lo < 32 := by
  have := List.all_eq_true.1 (Reg.table_apart a) r (List.mem_of_find?_eq_some h)
  simpa [RegD.apart] using this

/-- The field of the register at `a` that the table gives. -/
def fldOf (a : Nat) (f : FldD) : Fld := ⟨a, f.lo, f.w⟩

/-- A field at its own value. -/
theorem Dev.Sets.refl_one (d : Dev) (f : Fld) : d.Sets d [(f, d.fld f)] :=
  ⟨⟨by simp, fun _ _ => rfl⟩, rfl⟩

/-- An operation on every field of a register, each of which takes a value that its old one determines. -/
theorem Dev.each_fields_sets {a : Nat} {step : Dev → FldD → Dev} {new : Dev → FldD → Nat}
    (hstep : ∀ (d : Dev) f, d.Sets (step d f) [(fldOf a f, new d f)])
    (hnew : ∀ d d' f, d'.fld (fldOf a f) = d.fld (fldOf a f) → new d' f = new d f)
    {l : List FldD} (hd : (l.map (·.lo)).Nodup) (d : Dev) :
    d.Sets (d.each l step) (l.map fun f => (fldOf a f, new d f)) := by
  induction l generalizing d with
  | nil => exact .nil d
  | cons f r ih =>
    obtain ⟨hf, hr⟩ := List.nodup_cons.1 hd
    have hkey : ∀ g ∈ r, (fldOf a f).key ≠ (fldOf a g).key := fun g hg h => hf (by
      have hlo : f.lo = g.lo := by simpa [fldOf, Fld.key] using h
      exact List.mem_map.2 ⟨g, hg, hlo.symm⟩)
    have hsame : ∀ g ∈ r, new (step d f) g = new d g := fun g hg =>
      hnew _ _ g ((hstep d f).1.fld_eq (by simpa using (hkey g hg).symm))
    have hrest := ih hr (step d f)
    rw [List.map_congr_left fun g hg => by rw [hsame g hg]] at hrest
    exact (hstep d f).trans hrest (by simpa using hkey)

/-! ### A write by access types -/

/-- The bits of a written word that a field takes. -/
def fieldBits (v : Nat) (f : FldD) : Nat := bits v f.lo f.w

/-- What a field holds after a write. -/
def Dev.written (d : Dev) (a v : Nat) (f : FldD) : Nat :=
  match f.acc with
  | .rw => fieldBits v f
  | .w1c => (d.fld (fldOf a f) - (d.fld (fldOf a f) &&& fieldBits v f)) % 2 ^ f.w
  | .w1s => (d.fld (fldOf a f) ||| fieldBits v f) % 2 ^ f.w
  | _ => d.fld (fldOf a f)

theorem Dev.plainWrite_sets {a : Nat} {r : RegD} (h : Reg.find a = some r) (d : Dev) (v : Nat) :
    d.Sets (d.plainWrite a v) (r.fields.map fun f => (fldOf a f, d.written a v f)) := by
  rw [Dev.plainWrite, h]
  refine Dev.each_fields_sets (new := fun d f => d.written a v f) (fun d f => ?_) (fun d d' f he => ?_) (Reg.find_apart h).1 d
  · unfold Dev.written
    cases f.acc
    case rw => exact (Dev.Sets.nil d).put_of_lt (fldOf a f) (Nat.mod_lt _ (by positivity)) (by simp)
    case w1c | w1s => exact Dev.Sets.put_one d (fldOf a f) _
    all_goals exact .refl_one d _
  · simp only [Dev.written, he]

/-- What a field holds when hardware also sets events in the cycle. -/
def Dev.eventSet (d : Dev) (a hw : Nat) (f : FldD) : Nat :=
  if f.acc = .w1c then (d.fld (fldOf a f) ||| fieldBits hw f) % 2 ^ f.w else d.fld (fldOf a f)

theorem Dev.hwSet_sets {a : Nat} {r : RegD} (h : Reg.find a = some r) {d : Dev} (ha : d.absent a = false) (hw : Nat) :
    d.Sets (d.hwSet a hw) (r.fields.map fun f => (fldOf a f, d.eventSet a hw f)) := by
  simp only [Dev.hwSet, h, ha, Bool.false_eq_true, if_false]
  refine Dev.each_fields_sets (new := fun d f => d.eventSet a hw f) (fun d f => ?_) (fun d d' f he => ?_) (Reg.find_apart h).1 d
  · unfold Dev.eventSet
    by_cases hf : f.acc = .w1c
    · simp only [hf, beq_self_eq_true, if_true]
      exact Dev.Sets.put_one d (fldOf a f) _
    · simp only [beq_eq_false_iff_ne.2 hf, hf, Bool.false_eq_true, if_false]
      exact .refl_one d _
  · simp only [Dev.eventSet, he]

/-- The same fields written again. -/
theorem Dev.Sets.rewrite {α : Type} {d e d' : Dev} {fs : List α} {g : α → Fld} {x y : α → Nat} (h : d.Sets e (fs.map fun f => (g f, x f)))
    (h' : e.Sets d' (fs.map fun f => (g f, y f))) : d.Sets d' (fs.map fun f => (g f, y f)) := by
  refine ⟨⟨h'.1.1, fun k hk => (h'.1.2 k hk).trans (h.1.2 k (by simpa using hk))⟩, ?_⟩
  have hr : ({ d' with regs := d.regs } : Dev) = { ({ d' with regs := e.regs } : Dev) with regs := d.regs } := rfl
  rw [hr, h'.2, h.2]

/-! ### Which writes do no more -/

theorem Dev.clampHold_of_fits {d : Dev} (h : d.rateFits) : d.clampHold = d := by
  rw [Dev.clampHold, Dev.iff, if_neg]
  simpa [Dev.rateFits] using h.symm

theorem slotAt_of_not_among {a b st n : Nat} (h : among a b st n = false) : slotAt a b st n = none := by
  simpa [among] using h

theorem Dev.rateFits_of {d d' : Dev} (hr : d'.fld Reg.TIM_RATE.RATE = d.fld Reg.TIM_RATE.RATE)
    (hs : d'.fld Reg.TIM_SLEW.SLEW = d.fld Reg.TIM_SLEW.SLEW) (hp : d'.tim.pend = d.tim.pend) (h : d.rateFits) : d'.rateFits := by
  unfold Dev.rateFits Dev.rate Dev.slewTerm Dev.slewPpb at h ⊢
  rwa [hr, hs, hp]

/-- Fields of other registers keep their values at a plain write. -/
theorem Dev.plainWrite_fld {a : Nat} {r : RegD} (h : Reg.find a = some r) (d : Dev) (v : Nat) {f : Fld} (hf : f.adr ≠ a)
    (hlo : f.lo < 32) : (d.plainWrite a v).fld f = d.fld f := by
  refine (d.plainWrite_sets h v).1.fld_eq ?_
  simp only [List.map_map, List.mem_map, Function.comp, fldOf, Fld.key, not_exists, not_and]
  intro g hg
  have := (Reg.find_apart h).2 g hg
  omega

/-- A register that does not act on a write takes it by its access types alone. -/
theorem Dev.access_write_plain {d : Dev} {a : Nat} {r : RegD} (h4 : a % 4 = 0) (hacts : actsOnWrite a = false)
    (hfind : Reg.find a = some r) (hab : d.absent a = false) (hfit : 0x80000 ≤ a → a < 0x100000 → d.rateFits)
    (m : Master) (v : Word) : d.access m a (.write v) = d.plainWrite a v.toNat := by
  have hnone : (Reg.find a).isNone = false := by rw [hfind]; rfl
  rw [Dev.access_write_of_aligned h4, Dev.busWrite_of hnone hab, Dev.regWrite_plain _ _ _ _ hacts]
  split
  next hrange =>
    have hne : a ≠ Reg.TIM_RATE.ADR ∧ a ≠ Reg.TIM_SLEW.ADR := by
      constructor <;> rintro rfl <;> revert hacts <;> decide
    exact Dev.clampHold_of_fits (Dev.rateFits_of (Dev.plainWrite_fld hfind d _ hne.1.symm (by decide))
      (Dev.plainWrite_fld hfind d _ hne.2.symm (by decide)) (congrArg (·.tim.pend) (d.plainWrite_sets hfind v.toNat).2)
      (hfit hrange.1 hrange.2))
  next => rfl

/-! ### Commands named after the write of a register -/

theorem exec_registerWrite_at {a : Nat} (ha : a < 2 ^ 25) (h4 : a % 4 = 0) (m : Master) (v : Word) (s : State) :
    exec (.registerWrite m (BitVec.ofNat 25 a) v) s = s.main (·.poke m a v) := by
  have hn : (BitVec.ofNat 25 a).toNat = a := by rw [BitVec.toNat_ofNat, Nat.mod_eq_of_lt ha]
  rw [exec_registerWrite, execRegisterWrite]
  simp only [hn, Dev.access_write_of_aligned h4]
  rfl


/-- An address inside the register window, of a whole word. -/
abbrev onBus (a : Nat) : Prop := a < 2 ^ 25 ∧ a % 4 = 0

/-- An entry of an array of registers. -/
theorem onBus_entry {o st N : Nat} (h : o + N * st < 2 ^ 25 ∧ o % 4 = 0 ∧ st % 4 = 0) (n : Fin N) : onBus (o + n.val * st) := by
  have := Nat.mul_le_mul_right st n.isLt.le
  exact ⟨by omega, by rw [Nat.add_mod, Nat.mul_mod, h.2.1, h.2.2]; simp⟩

/-- An entry of an array of registers of one of several instances. -/
theorem onBus_entry2 {o st N st' N' : Nat} (h : o + N * st + N' * st' < 2 ^ 25 ∧ o % 4 = 0 ∧ st % 4 = 0 ∧ st' % 4 = 0) (n : Fin N)
    (i : Fin N') : onBus (o + n.val * st + i.val * st') := by
  obtain ⟨hlt, h0, h1, h2⟩ := h
  have hn := Nat.mul_le_mul_right st n.isLt.le
  exact onBus_entry ⟨by omega, by simp [Nat.add_mod, Nat.mul_mod, h0, h1], h2⟩ i

theorem onBus_coefFld (n : Fin 4) (i : Fin 34) : onBus (coefFld n i).adr := by
  unfold coefFld
  split <;> simp only [onBus, Reg.LN_FFE.COEF, Reg.LN_DFE.COEF] <;> omega

theorem onBus_laneReg (x : SerLane) {o : Nat} (h : o < 0x100 ∧ o % 4 = 0) : onBus (laneReg x o) := by
  cases x <;> simp only [onBus, laneReg, Reg.SL_LADDER.ADR] <;> omega

/-- The key of RST_CTRL stands above its command bit. -/
theorem chipKey_toNat (t : BitVec 16) : 1 + 2 ^ 16 * t.toNat = (t ++ 1#16 : BitVec 32).toNat := by
  rw [BitVec.toNat_append, ← Nat.shiftLeft_add_eq_or_of_lt (by decide), Nat.shiftLeft_eq]
  simp only [BitVec.toNat_ofNat]
  omega

/-- What a field of a register holds after a write with hardware events in the cycle. -/
theorem Dev.w1cClear_sets {a : Nat} {r : RegD} (h : Reg.find a = some r) {d : Dev} (hab : d.absent a = false) (v hw : Nat) :
    d.Sets ((d.plainWrite a v).hwSet a hw) (r.fields.map fun f => (fldOf a f,
      if f.acc = .w1c then (d.written a v f ||| fieldBits hw f) % 2 ^ f.w else d.written a v f)) := by
  have hset := d.plainWrite_sets h v
  have habs : (d.plainWrite a v).absent a = false :=
    calc (d.plainWrite a v).absent a = ({ d.plainWrite a v with regs := d.regs } : Dev).absent a := rfl
      _ = false := by rw [hset.2]; exact hab
  have hvals : ∀ f ∈ r.fields, (d.plainWrite a v).fld (fldOf a f) = d.written a v f := fun f hf =>
    hset.1.1 (_, _) (List.mem_map_of_mem hf)
  refine hset.rewrite ?_
  rw [List.map_congr_left fun f hf => by rw [← hvals f hf]]
  exact Dev.hwSet_sets h habs hw

/-- Settles O11: the write of a register that does no more goes field by field, and a command named after a write is that write. -/
theorem writeByAccessType : Obligations.WriteByAccessType := by
  unfold Obligations.WriteByAccessType
  refine ⟨?_, ?_⟩
  · intro s m a v hw r hup h4 hacts hfind hab hfit g x new
    have hplain := Dev.access_write_plain h4 hacts hfind hab hfit m v
    refine ⟨.of_main_eq hup (s.dev.plainWrite_sets hfind v.toNat) (exec_registerWrite ..) hplain,
      .of_main_eq hup (Dev.w1cClear_sets hfind hab v.toNat hw.toNat) (exec_w1cClear ..) ?_⟩
    rw [if_neg (by simpa using h4), hplain]
  · intro s m v w same
    have at_ {i : Instr} {a : Nat} {x : Word} (he : exec i s = s.main (·.poke m a x)) (ha : onBus a) :
        exec i s = exec (w a x) s := he.trans (exec_registerWrite_at ha.1 ha.2 m x s).symm
    exact ⟨fun n => ⟨at_ (exec_rxEnWrite ..) (onBus_entry (by decide) n), at_ (exec_eqPreset ..) (onBus_entry (by decide) n), at_ (exec_huntRestart ..) (onBus_entry (by decide) n), at_ (exec_traceCtrlWrite ..) (onBus_entry (by decide) n),
      at_ (exec_pmSelWrite ..) (onBus_entry (by decide) n), at_ (exec_pwrLvlAppliedWrite ..) (onBus_entry (by decide) n), at_ (exec_lineKeySwArm ..) (onBus_entry (by decide) n), at_ (exec_rsrKeySwArm ..) (onBus_entry (by decide) n),
      at_ (exec_phyRestart ..) (onBus_entry (by decide) n), at_ (exec_raccGo ..) (onBus_entry (by decide) n), at_ (exec_cvuStart ..) (onBus_entry (by decide) n), at_ (exec_cvuCheck ..) (onBus_entry (by decide) n),
      at_ (exec_cvuAbandon ..) (onBus_entry (by decide) n), at_ (exec_cvuDataB ..) (onBus_entry (by decide) n), at_ (exec_cvuDataH ..) (onBus_entry (by decide) n), at_ (exec_cvuDataW ..) (onBus_entry (by decide) n), at_ (exec_i2cGo ..) (onBus_entry (by decide) n)⟩,
      fun n i => at_ (exec_ffeWrite ..) (onBus_coefFld n i), fun n i => at_ (exec_xportWrite ..) (onBus_entry2 (by decide) n i), fun n i => at_ (exec_allocTcontWrite ..) (onBus_entry2 (by decide) n i),
      fun g => ⟨at_ (exec_bondGroupEnable ..) (onBus_entry (by decide) g), at_ (exec_bondGroupDisable ..) (onBus_entry (by decide) g)⟩,
      fun n => ⟨at_ (exec_laneCtrlWrite ..) (onBus_entry (by decide) n), at_ (exec_ladderStart ..) (onBus_entry (by decide) n), at_ (exec_ladderRestart ..) (onBus_entry (by decide) n)⟩,
      fun x => ⟨at_ (exec_txeqWrite ..) (onBus_laneReg x (by decide)), at_ (exec_eyeScanStart ..) (onBus_laneReg x (by decide))⟩,
      fun k => ⟨at_ (exec_domainBind ..) (onBus_entry (by decide) k), at_ (exec_pollErrClear ..) (onBus_entry (by decide) k)⟩,
      fun r => at_ (exec_ringDisable ..) (onBus_entry (by decide) r),
      fun k => ⟨at_ (exec_vsetWrite ..) (onBus_entry (by decide) k), at_ (exec_dmcRgnWrite ..) (by simp only [onBus]; omega)⟩,
      fun k => ⟨at_ (exec_ckoChange ..) (onBus_entry (by decide) k), at_ (exec_mdioGo ..) (onBus_entry (by decide) k)⟩,
      at_ (exec_tenderRestart ..) (by decide), at_ (exec_lineModeWrite ..) (by decide), at_ (exec_protManualSwitch ..) (by decide), at_ (exec_protForcedSwitch ..) (by decide),
      at_ (exec_dmcEnable ..) (by decide), at_ (exec_dmcInit ..) (by decide), at_ (exec_fwConfirm ..) (by decide), at_ (exec_pwrOff ..) (by decide), at_ (exec_sliceGate ..) (by decide),
      at_ (exec_rtcSecWrite ..) (by decide), fun t => ⟨at_ (exec_wdogKick ..) (by decide), at_ (exec_debugReset ..) (by decide), at_ ((exec_chipReset ..).trans (by rw [execChipReset, chipKey_toNat]; rfl)) (by decide)⟩,
      at_ (exec_wdogTimeoutWrite ..) (by decide), at_ (exec_probeGo ..) (by decide), at_ (exec_todArm ..) (by decide), at_ (exec_pllCtrlWrite ..) (by decide),
      fun b => at_ (exec_xferParamWrite ..) (by cases b <;> decide), at_ (exec_bufCfgWrite ..) (by decide), at_ (exec_sidingCfgWrite ..) (by decide)⟩

end Sys2Proof.Machine
end

section
/-!
PROOFS. A register read (R15, R16): the fields it clears, the words it latches, and the reads that produce their value.
-/
namespace Sys2Proof.Machine

/-! ### Clearing fields -/

/-- Fields back at their reset values. -/
def Dev.unputAll (d : Dev) (l : List Fld) : Dev := d.each l (·.unput ·)

theorem Dev.unputAll_cons (d : Dev) (f : Fld) (l : List Fld) : d.unputAll (f :: l) = (d.unput f).unputAll l := rfl

theorem Dev.unputAll_append (d : Dev) (l l' : List Fld) : d.unputAll (l ++ l') = (d.unputAll l).unputAll l' := List.foldl_append ..

theorem Dev.unputAll_rest (d : Dev) (l : List Fld) : { d.unputAll l with regs := d.regs } = d := by
  induction l generalizing d with
  | nil => rfl
  | cons f l ih => exact congrArg (fun z : Dev => { z with regs := d.regs }) (ih (d.unput f))

theorem Dev.unputAll_get (d : Dev) (l : List Fld) (k : Nat) : Tbl.get (d.unputAll l).regs k (Reg.rst k) =
    if k ∈ l.map (·.key) then Reg.rst k else Tbl.get d.regs k (Reg.rst k) := by
  induction l generalizing d with
  | nil => rfl
  | cons f l ih =>
    rw [Dev.unputAll_cons, ih, List.map_cons, Dev.unput]
    by_cases h : k = f.key
    · subst h
      simp
    · simp [h, Tbl.get_del_ne _ _ h]

theorem Dev.unputAll_regs (d : Dev) (l : List Fld) : d.Regs (d.unputAll l) (l.map fun f => (f, Reg.rst f.key)) := by
  refine ⟨fun e he => ?_, fun k hk => ?_⟩
  · obtain ⟨f, hf, rfl⟩ := List.mem_map.1 he
    exact (d.unputAll_get l f.key).trans (if_pos (List.mem_map_of_mem hf))
  · exact (d.unputAll_get l k).trans (if_neg (by simpa using hk))

/-- The RC fields of the register at `a`. -/
def rcFields (a : Nat) : List Fld := ((Reg.find a).map (·.fields)).getD [] |>.filter (·.acc == .rc) |>.map (fun f => (⟨a, f.lo, f.w⟩ : Fld))

theorem Dev.readClear_eq (d : Dev) (a : Nat) : d.readClear a = d.unputAll (rcFields a) := by
  unfold Dev.readClear rcFields
  cases Reg.find a with
  | none => rfl
  | some r => exact (List.foldl_map ..).symm

theorem Dev.each_readClear (d : Dev) (l : List Nat) (g : Nat → Nat) :
    d.each l (fun d i => d.readClear (g i)) = d.unputAll ((l.map g).flatMap rcFields) := by
  induction l generalizing d with
  | nil => rfl
  | cons i l ih =>
    rw [List.map_cons, List.flatMap_cons, Dev.unputAll_append, ← Dev.readClear_eq]
    exact ih _

/-! ### Latching the higher words -/

/-- The words of the coefficient snapshot, which read what was latched (R51). -/
def snapshotWord (a : Nat) : Prop :=
  (0x100000 ≤ a ∧ a < 0x200000) ∧ ((0x100 ≤ a % 0x40000 ∧ a % 0x40000 < 0x17C) ∨ (0x180 ≤ a % 0x40000 ∧ a % 0x40000 < 0x18C))

theorem Dev.viewLn_latch (d : Dev) (t : Tbl Nat) (v : Nat) {a : Nat} (ha : 0x100000 ≤ a ∧ a < 0x200000) (h : ¬ snapshotWord a) :
    ({ d with latch := t } : Dev).viewLn a v = d.viewLn a v := by
  have hs : ¬ ((0x100 ≤ a % 0x40000 ∧ a % 0x40000 < 0x17C) ∨ (0x180 ≤ a % 0x40000 ∧ a % 0x40000 < 0x18C)) := fun hs => h ⟨ha, hs⟩
  unfold Dev.viewLn
  simp only [hs, if_false]
  rfl

theorem Dev.word_latch (d : Dev) (t : Tbl Nat) (m : Nat) {a : Nat} (h : ¬ snapshotWord a) :
    ({ d with latch := t } : Dev).word m a = d.word m a := by
  unfold Dev.word
  iterate 6 refine ite_congr rfl (fun _ => rfl) fun _ => ?_
  refine ite_congr rfl (fun _ => rfl) fun hge => ite_congr rfl (fun hlt => ?_) fun _ => rfl
  exact d.viewLn_latch t _ ⟨Nat.le_of_not_lt hge, hlt⟩ h

/-- A wide value has a lowest word, and none of its words is one of the snapshot. -/
theorem wideOf_spec {a lo n : Nat} (h : wideOf a = some (lo, n)) : 1 ≤ n ∧ ∀ j < n, ¬ snapshotWord (lo + 4 * j) := by
  simp only [wideOf] at h
  split at h
  case h_1 e he =>
    have hm := List.mem_of_find?_eq_some he
    have hp := List.find?_some he
    simp only [Bool.and_eq_true, decide_eq_true_eq] at hp
    simp only [Option.some.injEq, Prod.mk.injEq] at h
    obtain ⟨rfl, rfl⟩ := h
    simp only [List.mem_cons, List.not_mem_nil, or_false] at hm
    unfold snapshotWord
    rcases hm with rfl | rfl | rfl | rfl | rfl | rfl | rfl | rfl | rfl | rfl | rfl | rfl <;>
      dsimp only at hp ⊢ <;> exact ⟨by decide, fun j hj => by omega⟩
  case h_2 =>
    unfold snapshotWord
    split_ifs at h <;> simp only [Option.some.injEq, Prod.mk.injEq] at h <;> obtain ⟨rfl, rfl⟩ := h <;>
      exact ⟨by decide, fun j hj => by omega⟩

/-- The latch after the read of the lowest of `n` words at `lo`. -/
theorem Dev.latchWide_eq (d : Dev) (m : Nat) {lo n : Nat} (hw : ∀ j < n, ¬ snapshotWord (lo + 4 * j)) : ∃ t, d.latchWide m lo n = { d with latch := t } ∧
    (∀ j, 1 ≤ j → j < n → Tbl.get t (lo + 4 * j) 0 = d.word m (lo + 4 * j)) ∧
    ∀ k, (∀ j, 1 ≤ j → j < n → k ≠ lo + 4 * j) → Tbl.get t k 0 = Tbl.get d.latch k 0 := by
  rcases n with _ | n
  · exact ⟨d.latch, rfl, by omega, fun _ _ => rfl⟩
  induction n with
  | zero => exact ⟨d.latch, rfl, by omega, fun _ _ => rfl⟩
  | succ n ih =>
    obtain ⟨t, ht, hnew, hold⟩ := ih fun j hj => hw j (by omega)
    refine ⟨Tbl.set t (lo + 4 * (n + 1)) (d.word m (lo + 4 * (n + 1))), ?_, fun j h1 hj => ?_, fun k hk => ?_⟩
    · unfold Dev.latchWide at ht ⊢
      rw [Nat.add_sub_cancel, List.range_succ, Dev.each, List.foldl_append]
      rw [Nat.add_sub_cancel, Dev.each] at ht
      rw [ht, List.foldl_cons, List.foldl_nil, Dev.word_latch d t m (hw (n + 1) (by omega))]
    · rw [Tbl.get_set]
      by_cases h : j = n + 1
      · subst h
        simp
      · rw [if_neg (by omega)]
        exact hnew j h1 (by omega)
    · rw [Tbl.get_set, if_neg (hk _ (by omega) (by omega))]
      exact hold k fun j h1 hj => hk j h1 (by omega)

/-! ### What a read does besides answering -/

/-- The words whose RC fields a read of `a` clears. -/
def ownWords (a : Nat) : List Nat := ((wideOf a).map (fun e => if a = e.1 then (List.range e.2).map (e.1 + 4 * ·) else [])).getD [a]

/-- The words above the lowest of a wide value. -/
theorem words_succ (lo n : Nat) : (List.range (n + 1)).map (lo + 4 * ·) = lo :: (List.range n).map fun i => lo + 4 * (i + 1) := by
  rw [List.range_succ_eq_map, List.map_cons, List.map_map]
  rfl

/-- A read leaves a latch of higher words and clears the RC fields of its words. -/
theorem Dev.readThen_eq (b : Dev) (m : Master) (a : Nat) : ∃ t,
    b.readThen m a = ({ b with latch := t } : Dev).unputAll ((ownWords a).flatMap rcFields) ∧
    (∀ e, wideOf a = some e → e.1 = a → ∀ j, 1 ≤ j → j < e.2 → Tbl.get t (a + 4 * j) 0 = b.word m.num (a + 4 * j)) ∧
    ∀ k, (∀ e, wideOf a = some e → e.1 = a → ∀ j, 1 ≤ j → j < e.2 → k ≠ a + 4 * j) → Tbl.get t k 0 = Tbl.get b.latch k 0 := by
  unfold Dev.readThen ownWords
  rcases hw : wideOf a with _ | ⟨lo, n⟩
  · refine ⟨b.latch, ?_, by simp, fun _ _ => rfl⟩
    simp only [Option.map_none, Option.getD_none, List.flatMap_cons, List.flatMap_nil, List.append_nil]
    exact b.readClear_eq a
  obtain ⟨hn, hs⟩ := wideOf_spec hw
  obtain ⟨n, rfl⟩ : ∃ k, n = k + 1 := ⟨n - 1, by omega⟩
  by_cases ha : a = lo
  · subst ha
    obtain ⟨t, ht, hnew, hold⟩ := b.latchWide_eq m.num hs
    refine ⟨t, ?_, fun e he _ => ?_, fun k hk => ?_⟩
    · simp only [if_true, Option.map_some, Option.getD_some, words_succ, List.flatMap_cons, Dev.unputAll_append]
      rw [ht, Dev.readClear_eq, Nat.add_sub_cancel]
      exact Dev.each_readClear ..
    · cases he
      exact hnew
    · exact hold k (hk _ rfl rfl)
  · refine ⟨b.latch, ?_, fun e he h => absurd h (by cases he; exact Ne.symm ha), fun _ _ => rfl⟩
    simp only [ha, if_false, Option.map_some, Option.getD_some, List.flatMap_nil]
    rfl

/-- The word that an access shows: of a wide value its lowest word, or what that one's read latched. -/
theorem Dev.view_eq (b : Dev) (m a : Nat) :
    b.view m a = ((wideOf a).map (fun e => if a = e.1 then b.word m a else Tbl.get b.latch a 0)).getD (b.word m a) := by
  unfold Dev.view
  cases wideOf a <;> rfl

/-- What a read first produces its value by. -/
theorem Dev.readFirst_eq (d : Dev) (m : Master) (a : Nat) : d.readFirst m a =
    if a = Reg.TIM_NOW_FRAC.ADR then (d.nowRead m.num (d.freeVal 3)).freed
    else if a = Reg.TRU_DBG_CHAL.ADR 0 then d.drawChallenge
    else ((slotAt a (Reg.LN_FFE.ADR 0 0) 0x40000 4).map d.ffeSnapshot).getD d := by
  unfold Dev.readFirst
  cases slotAt a (Reg.LN_FFE.ADR 0 0) 0x40000 4 <;> rfl

/-- Every read command is an aligned read of the bus. -/
theorem exec_read {s : State} {m : Master} {a : BitVec 25} (h4 : a.toNat % 4 = 0) {i : Instr}
    (hi : i ∈ [Instr.rcRead m a, .wideLowWordRead m a, .absentUnitAccess m a .read, .unmappedAccess m a .read,
      .narrowAccess m a .wordUnaligned .read]) :
    ∃ f, exec i s = s.main f ∧ f s.dev = Dev.answered m a.toNat (s.dev.busRead m a.toNat) := by
  have hread : s.dev.access m a.toNat .read = Dev.answered m a.toNat (s.dev.busRead m a.toNat) := Dev.access_read_of_aligned h4 m
  simp only [List.mem_cons, List.not_mem_nil, or_false] at hi
  rcases hi with rfl | rfl | rfl | rfl | rfl
  · exact ⟨_, exec_rcRead .., hread⟩
  · exact ⟨_, exec_wideLowWordRead .., hread⟩
  · exact ⟨_, exec_absentUnitAccess .., hread⟩
  · exact ⟨_, exec_unmappedAccess .., hread⟩
  · refine ⟨_, exec_narrowAccess .., ?_⟩
    rw [Dev.narrowAccess, if_pos (by simpa using h4)]
    exact hread

/-- Settles O12: a read is its value's production, then a latch of the higher words and a clearing of RC fields. -/
theorem readClearsAndLatches : Obligations.ReadClearsAndLatches := by
  unfold Obligations.ReadClearsAndLatches
  intro s m a hup h4 hfind hab n b own clears x r i hi
  obtain ⟨f, hf, hread⟩ := exec_read (s := s) h4 hi
  have hnone : (Reg.find n).isNone = false := by simpa using hfind
  have hab : s.dev.absent n = false := hab
  have hbus : s.dev.busRead m n = if n = Reg.TRU_RNG_DATA.ADR then r else (b.readThen m n, b.view m.num n) := by
    rw [Dev.busRead, if_neg (by simp [hnone]), if_neg (by simp [hab]), Dev.readFirst_eq]
  refine ⟨fun hn => ?_, fun hn => ?_⟩
  · rw [if_pos hn] at hbus
    refine .of_main_eq hf hup (hread.trans ?_)
    rw [hbus]
    rfl
  · rw [if_neg hn] at hbus
    obtain ⟨t, ht, hnew, hold⟩ := b.readThen_eq m n
    let c := ({ b with latch := t } : Dev)
    have hrest := c.unputAll_rest (own.flatMap rcFields)
    have hlatch : (c.unputAll (own.flatMap rcFields)).latch = t := congrArg (·.latch) hrest
    have hout : (c.unputAll (own.flatMap rcFields)).out = b.out := congrArg (·.out) hrest
    have hans : f s.dev = Dev.answered m n (c.unputAll (own.flatMap rcFields), b.view m.num n) :=
      hread.trans (congrArg (Dev.answered m n) (hbus.trans (congrArg (·, b.view m.num n) ht)))
    refine ⟨_, .of_main_eq hf hup hans, ?_, c.unputAll_regs _, ?_, ?_, ?_⟩
    · exact congrArg₂ (fun v o => Emit.busRead m n (BitVec.ofNat 32 v) :: o) (b.view_eq m.num n) hout
    · exact congrArg (fun z : Dev => { z with latch := b.latch, out := b.out }) hrest
    · exact fun e he h j h1 hj => (congrArg (Tbl.get · (n + 4 * j) 0) hlatch).trans (hnew e he h j h1 hj)
    · exact fun k hk => (congrArg (Tbl.get · k 0) hlatch).trans (hold k hk)

end Sys2Proof.Machine
end

section
/-!
PROOFS. Token buckets and the node commands (R193, R195, R210).
-/
namespace Sys2Proof.Machine

variable {d : Dev}

/-- What a refill leaves in a bucket. -/
theorem Bkt.refill_eq (x : Bkt) (level rate burst : Nat) (en : Bool) : x.refill level rate burst en =
    { rate := rate, burst := burst, en := en, started := x.started || en
      level := if en = false then x.level else if x.started = false then (burst * 8000 : Nat)
        else min (burst * 8000 : Nat) (x.level + (rate * bktInterval level : Nat)) } := by
  unfold Bkt.refill
  cases en
  · rfl
  · cases x.started <;> simp

/-- A command that NODE_CMD has taken. -/
theorem Dev.nodeRuns_sets (d : Dev) (r : Nat × Option Int) :
    { d with tm := { d.tm with nodeCmd := some r } }.Sets (d.nodeRuns r) [(Reg.TMG_NODE_STAT.BUSY, 1)] :=
  .put_one { d with tm := { d.tm with nodeCmd := some r } } Reg.TMG_NODE_STAT.BUSY 1

/-- A write of NODE_CMD by its fields. -/
theorem Dev.nodePoke_eq (h : d.unit 14 = true) (m : Master) {op b i : Nat} (hop : op < 8) (hb : b < 8) (hi : i < 2 ^ 16) :
    d.nodePoke m op b i = if op = 0 ∨ 4 ≤ op then d
      else if d.on Reg.TMG_NODE_STAT.BUSY then d.ev Reg.TMG_NODE_STAT.IGNORED
      else if op = 1 then d.bucketReset b i
      else if op = 2 then (d.flush i).nodeRuns (stOk, none)
      else d.readLevel b i := by
  have hv : (BitVec.ofNat 32 (op + 2 ^ 3 * b + 2 ^ 6 * i)).toNat = op + 2 ^ 3 * b + 2 ^ 6 * i := by
    rw [BitVec.toNat_ofNat, Nat.mod_eq_of_lt (by omega)]
  have hop' : (op + 2 ^ 3 * b + 2 ^ 6 * i) % 8 = op := by omega
  have hb' : bits (op + 2 ^ 3 * b + 2 ^ 6 * i) 3 3 = b := by unfold bits; omega
  have hi' : bits (op + 2 ^ 3 * b + 2 ^ 6 * i) 6 16 = i := by unfold bits; omega
  rw [Dev.nodePoke, Dev.poke_TMG_NODE_CMD _ _ _ h, hv, Dev.nodeWrite]
  simp only [hop', hb', hi']

/-! ### Dropped frames are counted -/

theorem Dev.release_regs (d : Dev) (f : Frame) : (d.release f).regs = d.regs := by
  unfold Dev.release
  cases f.home <;> rfl

theorem Dev.dropAll_count (l : List Frame) (d : Dev) (c : Fld) :
    (d.dropAll l c).fld c = if l = [] then d.fld c else min (2 ^ c.w - 1) (d.fld c + l.length) := by
  have hlt : 0 < 2 ^ c.w := Nat.two_pow_pos _
  induction l generalizing d with
  | nil => rfl
  | cons f l ih =>
    have hone : ((d.release f).bump c).fld c = min (2 ^ c.w - 1) (d.fld c + 1) := by
      rw [Dev.bump, Dev.bumpBy, Dev.fld_put_same, Dev.fld, (d.release_regs f), ← Dev.fld]
      exact Nat.mod_eq_of_lt (by omega)
    have hstep := ih ((d.release f).bump c)
    rw [hone] at hstep
    rw [Dev.dropAll, Dev.each, List.foldl_cons] 
    rw [Dev.dropAll, Dev.each] at hstep
    rw [hstep, if_neg (List.cons_ne_nil f l)]
    split
    next h => simp [h]
    next => rw [List.length_cons]; omega

theorem Dev.dropAll_regs (l : List Frame) (d : Dev) (c : Fld) : d.SameRegs (d.dropAll l c) [c] := by
  induction l generalizing d with
  | nil => exact fun _ _ => rfl
  | cons f l ih =>
    intro k hk
    refine (ih ((d.release f).bump c) k hk).trans ?_
    have hne : k ≠ c.key := by simpa using hk
    rw [Dev.bump, Dev.bumpBy, Dev.reg_put, if_neg hne, d.release_regs f]

/-- A queue without frames clears deficits of its node alone. -/
theorem Dev.queueIdle_eq (d : Dev) (q : Nat) : ∃ t, d.queueIdle q = { d with tm := { d.tm with nodeDef := t } } := by
  unfold Dev.queueIdle Dev.nodeIdle
  split
  · split
    · exact ⟨d.tm.nodeDef, rfl⟩
    · exact ⟨_, rfl⟩
  · exact ⟨d.tm.nodeDef, rfl⟩

/-- A queue is flushed: nothing of it is left, and its frames are counted. -/
theorem Dev.flush_spec (d : Dev) (q : Nat) :
    (d.flush q).queue q = { d.queue q with ondie := [], siding := [], spill := false, deficit := 0 } ∧
    (d.flush q).regs = (d.dropAll ((d.queue q).ondie ++ (d.queue q).siding) (Reg.TMG_QCNT.COUNT q 7)).regs := by
  unfold Dev.flush
  dsimp only
  obtain ⟨t, ht⟩ := Dev.queueIdle_eq ((d.dropAll ((d.queue q).ondie ++ (d.queue q).siding) (Reg.TMG_QCNT.COUNT q 7)).setQueue q
    { d.queue q with ondie := [], siding := [], spill := false, deficit := 0 }) q
  rw [ht]
  exact ⟨Dev.queue_setQueue .., rfl⟩

theorem Dev.ev_sets (d : Dev) (f : Fld) (h : 1 < 2 ^ f.w) : d.Sets (d.ev f) [(f, 1)] :=
  (Dev.Sets.nil d).put_of_lt f h (by simp)

theorem qcnt_key_ne_busy (q : Nat) : (Reg.TMG_QCNT.COUNT q 7).key ≠ Reg.TMG_NODE_STAT.BUSY.key := by
  simp only [Fld.key, Reg.TMG_QCNT.COUNT, Reg.TMG_NODE_STAT.BUSY]
  omega

/-- Settles O40: each command is one write of NODE_CMD, and its effect is that of the function it names. -/
theorem bucketsAndNodeCommands : Obligations.BucketsAndNodeCommands := by
  unfold Obligations.BucketsAndNodeCommands
  intro s m level b i q hup h14 key x c runs
  refine ⟨fun hnone => ?_, fun hsome => ?_, fun hbusy => ?_, fun hidle => ?_⟩
  · refine .of_main_eq (exec_bucketRefill ..) hup ?_
    rw [Dev.refillAt, hnone]
    rfl
  · refine .of_main_eq hup ⟨?_, fun j hj => Dev.bkt_setBkt_ne _ _ _ hj, ?_⟩ (exec_bucketRefill ..) (if_pos hsome)
    · exact (Dev.bkt_setBkt ..).trans (Bkt.refill_eq ..)
    · rfl
  · have hsets := s.dev.ev_sets Reg.TMG_NODE_STAT.IGNORED (by decide)
    have hign (op b' i' : Nat) (h : (op < 8 ∧ b' < 8 ∧ i' < 2 ^ 16) ∧ op ≠ 0 ∧ op < 4) :
        s.dev.nodePoke m op b' i' = s.dev.ev Reg.TMG_NODE_STAT.IGNORED := by
      rw [Dev.nodePoke_eq h14 m h.1.1 h.1.2.1 h.1.2.2, if_neg (by omega), if_pos (by simpa [Dev.on] using hbusy)]
    intro e he
    simp only [List.mem_cons, List.not_mem_nil, or_false] at he
    rcases he with rfl | rfl | rfl
    · exact .of_main_eq hup hsets (exec_bucketReset ..) (hign _ _ _ (by omega))
    · exact .of_main_eq hup hsets (exec_queueFlush ..) (hign _ _ _ (by omega))
    · exact .of_main_eq hup hsets (exec_readLevel ..) (hign _ _ _ (by omega))
  · have hoff : ¬ s.dev.on Reg.TMG_NODE_STAT.BUSY = true := by simpa [Dev.on] using hidle
    have hreset : s.dev.nodePoke m 1 b i.toNat = s.dev.bucketReset b i.toNat := by
      rw [Dev.nodePoke_eq h14 m (by omega) b.isLt i.isLt, if_neg (by omega), if_neg hoff, if_pos rfl]
    have hread : s.dev.nodePoke m 3 b i.toNat = s.dev.readLevel b i.toNat := by
      rw [Dev.nodePoke_eq h14 m (by omega) b.isLt i.isLt, if_neg (by omega), if_neg hoff, if_neg (by omega), if_neg (by omega)]
    have hflush : s.dev.nodePoke m 2 0 q.toNat = (s.dev.flush q.toNat).nodeRuns (stOk, none) := by
      rw [Dev.nodePoke_eq h14 m (by omega) (by omega) q.isLt, if_neg (by omega), if_neg hoff, if_neg (by omega), if_pos rfl]
    refine ⟨fun hnone => ⟨?_, ?_⟩, fun k hk => ⟨?_, ?_⟩, ?_⟩
    · exact .of_main_eq hup (s.dev.nodeRuns_sets _) (exec_bucketReset ..) (hreset.trans (by rw [Dev.bucketReset, hnone]))
    · exact .of_main_eq hup (s.dev.nodeRuns_sets _) (exec_readLevel ..) (hread.trans (by rw [Dev.readLevel, hnone]))
    · exact .of_main_eq hup (Dev.nodeRuns_sets _ _) (exec_bucketReset ..) (hreset.trans (by rw [Dev.bucketReset, hk]; rfl))
    · exact .of_main_eq hup (s.dev.nodeRuns_sets _) (exec_readLevel ..) (hread.trans (by rw [Dev.readLevel, hk]))
    · obtain ⟨hqueue, hregs⟩ := s.dev.flush_spec q.toNat
      have hbusy := ((s.dev.flush q.toNat).nodeRuns_sets (stOk, none)).1
      refine ⟨_, .of_main_eq (exec_queueFlush ..) hup hflush, hqueue, fun hne => ?_, fun k hk => ?_⟩
      · refine (hbusy.fld_eq (by simpa using qcnt_key_ne_busy q.toNat)).trans ?_
        exact (congrArg (Tbl.get · _ _) hregs).trans ((Dev.dropAll_count ..).trans (if_neg hne))
      · simp only [List.map_cons, List.map_nil, List.mem_cons, List.not_mem_nil, or_false, not_or] at hk
        refine (hbusy.2 k (by simpa using hk.1)).trans ?_
        exact (congrArg (Tbl.get · k _) hregs).trans (Dev.dropAll_regs _ _ _ k (by simpa using hk.2))

end Sys2Proof.Machine
end

section
/-!
PROOFS. The speed ladder of a subscriber lane (R269).
-/
namespace Sys2Proof.Machine

variable {d : Dev}

/-! ### Fields of a register after its plain write -/

theorem Dev.plainWrite_rw {a : Nat} {r : RegD} (h : Reg.find a = some r) (d : Dev) (v : Nat) {f : FldD} (hf : f ∈ r.fields)
    (hrw : f.acc = .rw) : (d.plainWrite a v).fld (fldOf a f) = fieldBits v f := by
  refine ((d.plainWrite_sets h v).1.1 (_, d.written a v f) (List.mem_map.2 ⟨f, hf, rfl⟩)).trans ?_
  simp only [Dev.written, hrw]

theorem Dev.plainWrite_rest {a : Nat} {r : RegD} (h : Reg.find a = some r) (d : Dev) (v : Nat) :
    { d.plainWrite a v with regs := d.regs } = d := (d.plainWrite_sets h v).2

theorem bits_one_of_bitOf {v i : Nat} (h : bitOf v i = true) : bits v i 1 = 1 := by
  simpa [bitOf, bits] using h

theorem bitOf_eq_testBit (v i : Nat) : bitOf v i = v.testBit i := by
  rw [bitOf, Nat.testBit_eq_decide_div_mod_eq, beq_eq_decide]

/-- A bit of a word with bits added. -/
theorem bitOf_or (v w : Word) (i : Nat) : bitOf (v ||| w).toNat i = (bitOf v.toNat i || bitOf w.toNat i) := by
  simp only [bitOf_eq_testBit, BitVec.toNat_or, Nat.testBit_or]

/-- The register SL.LADDER. -/
def ladderReg : RegD := ⟨0x1800000, [(112, 0x4000)], [⟨0, 3, .rw, 0⟩, ⟨3, 3, .rw, 0⟩, ⟨6, 3, .rw, 0⟩, ⟨9, 3, .rw, 0⟩, ⟨12, 1, .rw, 0⟩, ⟨13, 1, .rw, 1⟩, ⟨14, 8, .rw, 20⟩, ⟨22, 1, .wo, 0⟩]⟩

theorem find_ladder : ∀ n < 112, Reg.find (Reg.SL_LADDER.ADR n) = some ladderReg := by decide

/-- What the fields of the ladder and its lane leave of each other. -/
theorem ladder_keys (n : Nat) : (Reg.SL_LADDER_STAT.STATE n).key ≠ (Reg.SL_LADDER_STAT.LOCKED n).key ∧
    (Reg.SL_LADDER_STAT.STATE n).key ≠ (Reg.SL_LADDER_STAT.FOUND n).key ∧
    (Reg.SL_LADDER_STAT.STATE n).key ≠ (Reg.SL_EVT.LADDER_DONE n).key ∧
    (Reg.SL_LADDER_STAT.FOUND n).key ≠ (Reg.SL_EVT.LADDER_DONE n).key := by
  simp only [Fld.key, Reg.SL_LADDER_STAT.STATE, Reg.SL_LADDER_STAT.LOCKED, Reg.SL_LADDER_STAT.FOUND, Reg.SL_EVT.LADDER_DONE]
  omega

/-- A pass that has begun. -/
def Dev.atPassStart (d : Dev) (n : Nat) : Prop :=
  (d.lane n).walk = some 0 ∧ (d.lane n).confirming = false ∧ d.fld (Reg.SL_LADDER_STAT.STATE n) = 1 ∧
    d.fld (Reg.SL_LADDER_STAT.LOCKED n) = 0

theorem Dev.passStart_spec (d : Dev) (n : Nat) : (d.passStart n).atPassStart n := by
  obtain ⟨hlk, -⟩ := ladder_keys n
  have hlane : (d.passStart n).lane n = { d.lane n with walk := some 0, confirming := false } := Dev.lane_setLane ..
  refine ⟨by rw [hlane], by rw [hlane], ?_, Dev.fld_put_same ..⟩
  exact (Dev.fld_put_ne _ _ hlk).trans (Dev.fld_put_same ..)

theorem Dev.walkStop_spec (d : Dev) (n : Nat) :
    ((d.lane n).walk ≠ none → ((d.walkStop n).lane n).walk = none ∧ (d.walkStop n).fld (Reg.SL_LADDER_STAT.STATE n) = 0) ∧
    ((d.lane n).walk = none → d.walkStop n = d) := by
  unfold Dev.walkStop
  constructor <;> intro h
  · rw [if_pos (Option.isSome_iff_ne_none.2 h)]
    refine ⟨congrArg Lane.walk (?_ : _ = ({ d.lane n with walk := none, confirming := false } : Lane)), Dev.fld_put_same ..⟩
    exact Dev.lane_setLane ..
  · rw [h]
    rfl

theorem Dev.walkStart_of_off {n : Nat} (h : d.on (Reg.SL_LADDER.AUTO n) = true) (hoff : d.fld (Reg.SM_LANE_CTRL.LANE_EN n) = 0) :
    d.walkStart n = d.passStart n := by
  rw [Dev.walkStart, if_pos (by rw [h]; simp [Dev.on, hoff])]

theorem Dev.walkStart_of_on {n : Nat} (hon : d.fld (Reg.SM_LANE_CTRL.LANE_EN n) ≠ 0) : d.walkStart n = d := by
  rw [Dev.walkStart, if_neg (by simp [Dev.on, hon])]

/-- A write of SL.LADDER by AUTO and the lane's enable. -/
theorem Dev.ladderWrite_spec (d : Dev) {n : Nat} (hn : n < 112) (v : Nat) :
    let e := d.ladderWrite n v
    let stays := e.lanes = d.lanes ∧ e.fld (Reg.SL_LADDER_STAT.STATE n) = d.fld (Reg.SL_LADDER_STAT.STATE n)
    (bitOf v 12 = true → d.fld (Reg.SM_LANE_CTRL.LANE_EN n) = 0 → e.atPassStart n) ∧
    (bitOf v 12 = true → d.fld (Reg.SM_LANE_CTRL.LANE_EN n) ≠ 0 → stays) ∧
    (bitOf v 12 = false → (d.lane n).walk ≠ none → (e.lane n).walk = none ∧ e.fld (Reg.SL_LADDER_STAT.STATE n) = 0) ∧
    (bitOf v 12 = false → (d.lane n).walk = none → stays) := by
  have hfind := find_ladder n hn
  have hrest := d.plainWrite_rest hfind v
  have hlanes : (d.plainWrite (Reg.SL_LADDER.ADR n) v).lanes = d.lanes := congrArg (·.lanes) hrest
  have hauto : (d.plainWrite (Reg.SL_LADDER.ADR n) v).fld (Reg.SL_LADDER.AUTO n) = bits v 12 1 :=
    d.plainWrite_rw hfind v (f := ⟨12, 1, .rw, 0⟩) (by decide) rfl
  have hen := d.plainWrite_fld hfind v (f := Reg.SM_LANE_CTRL.LANE_EN n)
    (by simp only [Reg.SM_LANE_CTRL.LANE_EN, Reg.SL_LADDER.ADR]; omega) (show 3 < 32 by decide)
  have hst := d.plainWrite_fld hfind v (f := Reg.SL_LADDER_STAT.STATE n)
    (by simp only [Reg.SL_LADDER_STAT.STATE, Reg.SL_LADDER.ADR]; omega) (Nat.zero_lt_succ _)
  have hwalk : (d.plainWrite (Reg.SL_LADDER.ADR n) v).lane n = d.lane n := by
    rw [Dev.lane, hlanes]
    rfl
  obtain ⟨hstop, hidle⟩ := (d.plainWrite (Reg.SL_LADDER.ADR n) v).walkStop_spec n
  unfold Dev.ladderWrite
  refine ⟨fun h hoff => ?_, fun h hon => ?_, fun h hw => ?_, fun h hw => ?_⟩
  · have hbit : bits v 12 1 ≠ 0 := by simp [bits_one_of_bitOf h]
    simp only [h, if_true]
    rw [Dev.walkStart_of_off (by simpa [Dev.on, hauto] using hbit) (hen.trans hoff)]
    exact Dev.passStart_spec ..
  · simp only [h, if_true]
    rw [Dev.walkStart_of_on (by rwa [hen])]
    exact ⟨hlanes, hst⟩
  · simp only [h]
    exact hstop (by rwa [hwalk])
  · simp only [h]
    rw [if_neg (by simp), hidle (by rwa [hwalk])]
    exact ⟨hlanes, hst⟩

/-- What does not change the registers sets no field of them. -/
theorem Dev.Regs.of_same {e : Dev} (h : e.regs = d.regs) : d.Regs e [] := ⟨by simp, fun _ _ => by rw [h]⟩

theorem Dev.Regs.reverse {e : Dev} {l : List (Fld × Nat)} (h : d.Regs e l) : d.Regs e l.reverse := h.of_mem_iff fun _ => List.mem_reverse

/-- A dwell ends with its last entry the highest that locked, if one did. -/
theorem Dev.dwell_last {n i : Nat} (held : Bool) (hw : (d.lane n).walk = some i) (h0 : d.fld (ladderEntry 0 n) ≠ 0)
    (hc : (d.lane n).confirming = false) (hlast : 3 ≤ i ∨ d.fld (ladderEntry (i + 1) n) = 0) :
    let d1 := d.put (Reg.SL_LADDER_STAT.LOCKED n) (setBit (d.fld (Reg.SL_LADDER_STAT.LOCKED n)) i held)
    d.dwell n held = match topLocked (setBit (d.fld (Reg.SL_LADDER_STAT.LOCKED n)) i held % 16 % 2 ^ (i + 1)) with
      | some k => (d1.setLane n { d.lane n with walk := some k, confirming := true }).put (Reg.SL_LADDER_STAT.STATE n) 2
      | none => d1.passStart n := by
  have hlk := d.fld_put_same (Reg.SL_LADDER_STAT.LOCKED n) (setBit (d.fld (Reg.SL_LADDER_STAT.LOCKED n)) i held)
  rw [Dev.dwell]
  simp only [hw, hc]
  rw [if_neg h0, if_neg (by simp), if_neg (by omega), hlk]
  rfl

/-- Settles O49: a write of SL.LADDER starts or stops the walk, and the end of a dwell goes by the walk's place and what locked. -/
theorem ladderWalk : Obligations.LadderWalk := by
  unfold Obligations.LadderWalk
  intro s m n v held hup e x st lk off starts stays next mask
  obtain ⟨hsl, hsf, hsd, hfd⟩ := ladder_keys n
  refine ⟨fun hno => ?_, fun hhere => ?_⟩
  · exact .of_main_eq (exec_ladderDwellExpiry ..) hup (by rw [if_neg]; rw [hno]; simp)
  have hstart := e.ladderWrite_spec n.isLt (v ||| 0x1000#32).toNat
  have hrestart := e.ladderWrite_spec n.isLt (v ||| 0x400000#32).toNat
  rw [bitOf_or] at hstart hrestart
  obtain ⟨hs1, hs2, -, -⟩ := hstart
  obtain ⟨hr1, hr2, hr3, hr4⟩ := hrestart
  have hdwell {e' : Dev} (h : e.dwell n held = e') : (if e.slHere n = true then e.dwell n held else e) = e' := by rw [if_pos hhere, h]
  refine ⟨fun h => .of_main_eq hup (hs1 (Bool.or_true _) h) (exec_ladderStart ..) (Dev.poke_SL_LADDER _ m n _ hhere),
    fun h => .of_main_eq hup (hs2 (Bool.or_true _) h) (exec_ladderStart ..) (Dev.poke_SL_LADDER _ m n _ hhere),
    fun hb h => .of_main_eq hup (hr1 (by rw [hb]; rfl) h) (exec_ladderRestart ..) (Dev.poke_SL_LADDER _ m n _ hhere),
    fun hb h => .of_main_eq hup (hr2 (by rw [hb]; rfl) h) (exec_ladderRestart ..) (Dev.poke_SL_LADDER _ m n _ hhere),
    fun hb h => .of_main_eq hup (hr3 (by rw [hb]; rfl) h) (exec_ladderRestart ..) (Dev.poke_SL_LADDER _ m n _ hhere),
    fun hb h => .of_main_eq hup (hr4 (by rw [hb]; rfl) h) (exec_ladderRestart ..) (Dev.poke_SL_LADDER _ m n _ hhere),
    fun h => .of_main_eq (exec_ladderDwellExpiry ..) hup (hdwell ?_), fun i hi h0 => ?_⟩
  · rw [Dev.dwell]
    rcases h with h | h
    · rw [h]
    · split
      · rfl
      · exact if_pos h
  refine ⟨fun hc hh => ?_, fun hc hh => ?_, fun hc hlt hn => ?_, fun hc hlast htop => ?_, fun k hc hlast htop => ?_⟩
  · refine ⟨(((e.setLane n { x with walk := none, confirming := false }).put st 3).put (Reg.SL_LADDER_STAT.FOUND n)
      (e.fld (ladderEntry i n))).ev (Reg.SL_EVT.LADDER_DONE n), .of_main_eq (exec_ladderDwellExpiry ..) hup (hdwell ?_), ?_, ?_⟩
    · rw [Dev.dwell]
      simp only [show (e.lane n).walk = some i from hi, show (e.lane n).confirming = true from hc, hh]
      rw [if_neg h0]
      rfl
    · exact congrArg Lane.walk (Dev.lane_setLane e n { x with walk := none, confirming := false })
    · have hlane : e.Regs (e.setLane n { x with walk := none, confirming := false }) [] := .of_same rfl
      exact (((hlane.put st 3 (by simp)).put (Reg.SL_LADDER_STAT.FOUND n) (e.fld (ladderEntry i n)) (by simpa using hsf.symm)).put
        (Reg.SL_EVT.LADDER_DONE n) 1 (by simpa using ⟨hfd.symm, hsd.symm⟩)).reverse
  · refine .of_main_eq hup (e.passStart_spec n) (exec_ladderDwellExpiry ..) (hdwell ?_)
    rw [Dev.dwell]
    simp only [show (e.lane n).walk = some i from hi, show (e.lane n).confirming = true from hc, hh]
    rw [if_neg h0]
    rfl
  · refine ⟨(e.put lk (setBit (e.fld lk) i held)).setLane n { x with walk := some (i + 1), confirming := false },
      .of_main_eq (exec_ladderDwellExpiry ..) hup (hdwell ?_), congrArg Lane.walk (Dev.lane_setLane ..), (Dev.Sets.put_one e lk _).1⟩
    rw [Dev.dwell]
    simp only [show (e.lane n).walk = some i from hi, show (e.lane n).confirming = false from hc]
    rw [if_neg h0, if_neg (by simp), if_pos ⟨hlt, hn⟩]
  · refine .of_main_eq hup ((e.put lk (setBit (e.fld lk) i held)).passStart_spec n) (exec_ladderDwellExpiry ..) (hdwell ?_)
    rw [Dev.dwell_last held hi h0 hc hlast, htop]
  · have hlane := (e.put lk (setBit (e.fld lk) i held)).lane_setLane n { x with walk := some k, confirming := true }
    exact ⟨((e.put lk (setBit (e.fld lk) i held)).setLane n { x with walk := some k, confirming := true }).put st 2,
      .of_main_eq (exec_ladderDwellExpiry ..) hup (hdwell (by rw [Dev.dwell_last held hi h0 hc hlast, htop])),
      congrArg Lane.walk hlane, congrArg Lane.confirming hlane, Dev.fld_put_same ..⟩

end Sys2Proof.Machine
end

section
/-!
PROOFS. A device at rest: what follows a command of the main domain when nothing waits leaves the registers alone. And what fails of
enabling an activation machine.
-/
namespace Sys2Proof.Machine

/-! ### A device at rest -/

/-- Nothing waits: no ring, queue or record, no clock output observed, and every interrupt output has been reported. -/
structure Dev.AtRest (d : Dev) : Prop where
  held : d.held = {}
  rings : d.host.rings = []
  stamps : d.host.stamps = []
  queues : d.tm.queues = []
  loop : d.hier.loop = []
  cko : d.cko = []
  locked : d.tru.shadow.debugLock = true
  opened : d.tru.opened = 0
  summary : d.hier.summary = 2 ^ 16 - 1

theorem Dev.drain_of_loop {d : Dev} (h : d.hier.loop = []) (n : Nat) : d.drain n = d := by
  cases n with
  | zero => rfl
  | succ n => rw [Dev.drain, h]

/-- Under a locked debug block no clock output changes where none is observed. -/
theorem Dev.ckoWatch_of_locked {d : Dev} (hcko : d.cko = []) (hlocked : d.tru.shadow.debugLock = true) (hopened : d.tru.opened = 0) :
    d.ckoWatch = d := by
  have hfast (i : Nat) : d.ckoFast i = false := by
    rw [Dev.ckoFast, Dev.dbgPerm, hlocked, hopened]
    rfl
  have hone (i : Nat) : bit (d.ckoFast i) = Tbl.get d.cko i 0 := by
    rw [hfast, hcko]
    rfl
  rw [Dev.ckoWatch, Dev.each, List.foldl_cons, List.foldl_cons, List.foldl_nil]
  simp only [hone, if_true]

/-- Where every interrupt output has been reported the summary is evaluated again, and no output rises. -/
theorem Dev.irqs_of_reported {d : Dev} (hsummary : d.hier.summary = 2 ^ 16 - 1) :
    d.irqs = d.setHier { d.hier with summary := d.irqOut } := by
  have hall : ∀ b < 16, bitOf (2 ^ 16 - 1) b = true := by decide
  have hnone : (members d.irqOut 16).filter (fun b => !bitOf d.hier.summary b) = [] := by
    rw [hsummary]
    refine List.filter_eq_nil_iff.2 fun b hb => ?_
    have hlt : b < 16 := List.mem_range.1 (List.mem_filter.1 hb).1
    simp only [hall b hlt, Bool.not_true, Bool.false_eq_true, not_false_eq_true]
  rw [Dev.irqs]
  simp only [hnone]
  rfl

namespace Dev.AtRest

variable {d : Dev}

theorem mainUp (h : d.AtRest) : d.mainUp = true := by
  rw [Dev.mainUp, h.held]
  rfl

theorem hostStage (h : d.AtRest) : d.hostStage = d := by
  rw [Dev.hostStage, h.rings, h.stamps, Dev.hostPorts, h.queues]
  rfl

theorem ckoWatch (h : d.AtRest) : d.ckoWatch = d := Dev.ckoWatch_of_locked h.cko h.locked h.opened

theorem irqs (h : d.AtRest) : d.irqs = d.setHier { d.hier with summary := d.irqOut } := Dev.irqs_of_reported h.summary

/-- What follows a command evaluates the interrupt summary and does no more. -/
theorem after (h : d.AtRest) : d.after = d.setHier { d.hier with summary := d.irqOut } := by
  rw [Dev.after, if_pos h.mainUp, Dev.settle, h.hostStage, Dev.drain_of_loop h.loop, h.ckoWatch, h.irqs]
  have hloop : (d.setHier { d.hier with summary := d.irqOut }).drain 64 = d.setHier { d.hier with summary := d.irqOut } :=
    Dev.drain_of_loop (d := d.setHier { d.hier with summary := d.irqOut }) h.loop 64
  have hq : (d.setHier { d.hier with summary := d.irqOut }).tm.queues = [] := h.queues
  simp only [hloop, hq, List.isEmpty_nil, if_true]

theorem after_regs (h : d.AtRest) : d.after.regs = d.regs := by
  rw [h.after]
  rfl

/-- The rest of the device does not depend on registers. -/
theorem of_sets (h : d.AtRest) {e : Dev} {l : List (Fld × Nat)} (hs : d.Sets e l) : e.AtRest := by
  have hr := hs.2
  exact ⟨(congrArg (·.held) hr).trans h.held, (congrArg (·.host.rings) hr).trans h.rings, (congrArg (·.host.stamps) hr).trans h.stamps,
    (congrArg (·.tm.queues) hr).trans h.queues, (congrArg (·.hier.loop) hr).trans h.loop, (congrArg (·.cko) hr).trans h.cko,
    (congrArg (·.tru.shadow.debugLock) hr).trans h.locked, (congrArg (·.tru.opened) hr).trans h.opened,
    (congrArg (·.hier.summary) hr).trans h.summary⟩

end Dev.AtRest

/-- Two outcomes of a command that leave the device at rest have the same registers. -/
theorem Does.regs_eq {i : Instr} {s : State} {d e : Dev} (hd : Does i s d) (he : Does i s e) (rd : d.AtRest) (re : e.AtRest) :
    d.regs = e.regs := by
  have h : d.after = e.after := by
    have hn := hd.symm.trans he
    injection hn with hn
    exact congrArg State.dev hn
  rw [← rd.after_regs, h, re.after_regs]

/-! ### Enabling an activation machine -/

/-- Channel 0 enabled, with NEED_CPROF holding a value that its one bit cannot. -/
def overfullActCtrl : Dev :=
  { regs := [((Reg.LN_ACT_CTRL.EN 0).key, 1), ((Reg.LN_ACT_CTRL.NEED_CPROF 0).key, 2)], hier := { summary := 2 ^ 16 - 1 }
    tru := { shadow := { debugLock := true } } }

theorem overfullActCtrl_atRest : overfullActCtrl.AtRest := ⟨rfl, rfl, rfl, rfl, rfl, rfl, rfl, rfl, rfl⟩

/-- Under a Tender that does not run, and with no burst sent, nothing follows the write. -/
theorem Dev.learn_cut_idle {d : Dev} {n : Nat} (ht : d.fld Reg.CPX_TND_STAT.RUNNING = 0) (hc : d.coaches = []) :
    (d.iff d.tenderRuns (·.learn n)).iff (d.txDis n) (·.txCut n) = d := by
  have hrun : d.tenderRuns = false := by simp [Dev.tenderRuns, Dev.on, ht]
  have hcut : d.txCut n = d := by rw [Dev.txCut, Dev.coach, hc]; rfl
  simp only [hrun, Dev.iff, Bool.false_eq_true, if_false, hcut, ite_self]

/-- The device after the write that ACT_ENABLE makes. -/
def overfullActCtrlWritten : Dev := overfullActCtrl.poke .pcie (Reg.LN_ACT_CTRL.ADR 0) (overfullActCtrl.actCtrlWith 0 true)

theorem overfullActCtrlWritten_spec : overfullActCtrlWritten.AtRest ∧ overfullActCtrlWritten.fld (Reg.LN_ACT_CTRL.NEED_CPROF 0) = 0 :=
  ⟨⟨by decide, by decide, by decide, by decide, by decide, by decide, by decide, by decide, by decide⟩, by decide⟩

/-- Refutes O27: ACT_ENABLE of an enabled channel writes back its other fields, and one whose value its bits cannot hold changes. -/
theorem not_activationEnable : ¬ Obligations.ActivationEnable := by
  unfold Obligations.ActivationEnable
  intro h
  obtain ⟨d, hd, hsets⟩ := (h.1 { dev := overfullActCtrl } .pcie 0 (by decide) (by decide)).1 (by decide)
  obtain ⟨hrest, hzero⟩ := overfullActCtrlWritten_spec
  have hrun : d.fld Reg.CPX_TND_STAT.RUNNING = 0 := (hsets.1.fld_eq (by simp)).trans (by decide)
  have hcoach : d.coaches = [] := congrArg (·.coaches) hsets.2
  dsimp only at hd
  rw [Dev.learn_cut_idle hrun hcoach] at hd
  have hwrite : Does (.actEnable .pcie 0) { dev := overfullActCtrl } overfullActCtrlWritten :=
    .of_main_eq (exec_actEnable ..) (by decide) rfl
  have hregs := Does.regs_eq hd hwrite (overfullActCtrl_atRest.of_sets hsets) hrest
  have hval : d.fld (Reg.LN_ACT_CTRL.NEED_CPROF 0) = 2 := (hsets.1.fld_eq (by simp)).trans (by decide)
  rw [Dev.fld, hregs, ← Dev.fld, hzero] at hval
  exact absurd hval (by decide)

end Sys2Proof.Machine
end

section
/-!
PROOFS. Several fields written one after the other, and the registers and state of a line channel.
-/
namespace Sys2Proof.Machine

variable {d e : Dev}

/-! ### Several fields -/

/-- Fields written one after the other. -/
def Dev.puts (d : Dev) (l : List (Fld × Nat)) : Dev := d.each l (fun d x => d.put x.1 x.2)

theorem Dev.regs_put (d : Dev) (f : Fld) (v : Nat) : (d.put f v).regs = Tbl.set d.regs f.key (v % 2 ^ f.w) := rfl

theorem Dev.puts_cons (d : Dev) (x : Fld × Nat) (l : List (Fld × Nat)) : d.puts (x :: l) = (d.put x.1 x.2).puts l := rfl

theorem Dev.puts_sets {l : List (Fld × Nat)} (hn : (l.map (·.1.key)).Nodup) (hv : ∀ x ∈ l, x.2 < 2 ^ x.1.w) (d : Dev) :
    d.Sets (d.puts l) l := by
  induction l generalizing d with
  | nil => exact .nil d
  | cons x l ih =>
    obtain ⟨hx, hl⟩ := List.nodup_cons.1 hn
    have hone : d.Sets (d.put x.1 x.2) [x] := (Dev.Sets.nil d).put_of_lt x.1 (hv x (by simp)) (by simp)
    refine hone.trans (ih hl (fun y hy => hv y (List.mem_cons_of_mem _ hy)) _) fun y hy z hz h => hx ?_
    obtain rfl : y = x := by simpa using hy
    exact List.mem_map.2 ⟨z, hz, h.symm⟩

/-- Fields of two registers of an array, at the same place of it. -/
theorem Fld.key_ne {f g : Fld} {o p b i j w w' : Nat} (hf : f = ⟨o + b, i, w⟩) (hg : g = ⟨p + b, j, w'⟩)
    (h : o * 32 + i ≠ p * 32 + j) : f.key ≠ g.key := by
  subst hf hg
  simp only [Fld.key]
  omega

/-- What is said of the registers of a device is said of any with the same registers. -/
theorem Dev.Regs.of_regs {d' e' : Dev} {l : List (Fld × Nat)} (h : d.Regs e l) (hd : d'.regs = d.regs) (he : e'.regs = e.regs) :
    d'.Regs e' l := by
  refine ⟨fun x hx => ?_, fun k hk => ?_⟩
  · rw [Dev.fld, he]
    exact h.1 x hx
  · rw [he, hd]
    exact h.2 k hk

/-! ### The state of a line channel -/

/-- A device without its registers and the state of its line channels. -/
def Dev.offLines (d : Dev) : Dev := { d with regs := [], lines := [] }

theorem Dev.offLines_put (d : Dev) (f : Fld) (v : Nat) : (d.put f v).offLines = d.offLines := by
  cases d
  rfl

theorem Dev.offLines_setLine (d : Dev) (n : Nat) (x : Line) : (d.setLine n x).offLines = d.offLines := by
  cases d
  rfl

theorem Dev.line_put (d : Dev) (f : Fld) (v n : Nat) : (d.put f v).line n = d.line n := by
  cases d
  rfl

theorem Dev.setLine_put (d : Dev) (f : Fld) (v n : Nat) (x : Line) : (d.put f v).setLine n x = (d.setLine n x).put f v := by
  cases d
  rfl

/-- Nothing but registers and line channels has changed. -/
theorem Dev.rest_of_offLines {d e : Dev} (h : e.offLines = d.offLines) : { e with regs := d.regs, lines := d.lines } = d :=
  congrArg (fun z : Dev => { z with regs := d.regs, lines := d.lines }) h

theorem Dev.lineCnt_regs (d : Dev) (n k v : Nat) : (d.lineCnt n k v).regs = d.regs := rfl

theorem Dev.defClear_sets (d : Dev) (n k : Nat) : d.Sets (d.defClear n k) [(defFld n k, 0)] := (Dev.Sets.nil d).put_of_lt _ (by simp [defFld]) (by simp)

theorem defFld_ne_sticky (n k : Nat) (hk : k < 9) (j : Nat) (hj : j < 9) : (defFld n k).key ≠ (stickyFld n j).key := by
  simp only [defFld, stickyFld, Fld.key, Reg.LN_DEF_STAT.ADR, Reg.LN_DEF_STICKY.ADR]
  omega

theorem Dev.defRaise_of_stands {n k : Nat} (h : d.defect n k = true) : d.defRaise n k = d := if_pos h

theorem Dev.defRaise_sets {n k : Nat} (hk : k < 9) (h : d.defect n k = false) :
    (d.setLine n { d.line n with seen := setBit (d.line n).seen k true }).Sets (d.defRaise n k) [(defFld n k, 1), (stickyFld n k, 1)] := by
  rw [Dev.defRaise, if_neg (by simp [h])]
  simp only [Dev.ev, Dev.line_put, Dev.setLine_put]
  exact Dev.puts_sets (l := [(defFld n k, 1), (stickyFld n k, 1)]) (by simp [defFld_ne_sticky n k hk k hk]) (by simp [defFld, stickyFld])
    (d.setLine n { d.line n with seen := setBit (d.line n).seen k true })

theorem Dev.dsdPin_sets {n : Nat} (hn : n < 4) (d : Dev) :
    (if d.sdSignal n then d else d.setLine n { d.line n with seen := setBit (d.line n).seen dDSD true }).Sets (d.dsdPin n)
      [(defFld n dDSD, bit (!d.sdSignal n))] := by
  have hregs := d.dsdPin_Regs hn
  by_cases h : d.sdSignal n = true
  · rw [if_pos h]
    exact ⟨hregs, by rw [Dev.dsdPin, if_pos h]; rfl⟩
  · rw [if_neg h]
    exact ⟨hregs.of_regs rfl rfl, by rw [Dev.dsdPin, if_neg h]; rfl⟩

/-! ### The candidates of the hunt -/

theorem sync_keys (n : Nat) : (Reg.LN_SYNC_STAT.CANDS n).key ≠ (Reg.LN_SYNC_STAT.STATE n).key ∧
    (Reg.LN_SYNC_STAT.CANDS n).key ≠ (defFld n dAmbig).key ∧ (Reg.LN_SYNC_STAT.STATE n).key ≠ (defFld n dAmbig).key := by
  simp only [Fld.key, Reg.LN_SYNC_STAT.CANDS, Reg.LN_SYNC_STAT.STATE, defFld, Reg.LN_DEF_STAT.ADR, dAmbig]
  omega

theorem Dev.setCands_sets (d : Dev) (n : Nat) (l : List Candidate) :
    (d.setLine n { d.line n with cands := l }).Sets (d.setCands n l)
      [(Reg.LN_SYNC_STAT.CANDS n, l.length % 8), (Reg.LN_SYNC_STAT.STATE n, if l = [] then 0 else 1)] := by
  have hlt : (if l = [] then 0 else 1 : Nat) < 2 ^ 2 := by split <;> decide
  have hset := (Dev.Sets.put_one (d.setLine n { d.line n with cands := l }) (Reg.LN_SYNC_STAT.CANDS n) l.length).put_of_lt
    (Reg.LN_SYNC_STAT.STATE n) hlt (by simpa using (sync_keys n).1.symm)
  exact ⟨hset.1.reverse, hset.2⟩

/-- The candidates after the check of an expected position. -/
def Dev.checkedCands (d : Dev) (n pos errs : Nat) (hec : Hec) (sfc : Nat) : List Candidate :=
  (d.line n).cands.filterMap (fun c => if c.pos + frameBits ≠ pos then some c
    else if (errs ≤ d.huntTol n ∧ d.sfcPass n hec = true) ∧ sfc % 2 ^ 51 = (c.sfc + 1) % 2 ^ 51 then
      some { pos := pos, sfc := sfc % 2 ^ 51, conf := c.conf + 1 }
    else none)

theorem Dev.candCheck_of_due {n pos : Nat} (hrx : d.rxOn n = true) (hdue : (d.line n).cands.any (fun c => c.pos + frameBits == pos) = true)
    (errs : Nat) (hec : Hec) (sfc : Nat) : d.candCheck n pos errs hec sfc = (d.setCands n (d.checkedCands n pos errs hec sfc)).trySync n := by
  have hfun : (fun c : Candidate => if c.pos + frameBits ≠ pos then some c
      else if (decide (errs ≤ d.huntTol n) && d.sfcPass n hec && sfc % sfcMod == (c.sfc + 1) % sfcMod) = true then
        some ({ pos := pos, sfc := sfc % sfcMod, conf := c.conf + 1 } : Candidate) else none) =
      fun c => if c.pos + frameBits ≠ pos then some c
        else if (errs ≤ d.huntTol n ∧ d.sfcPass n hec = true) ∧ sfc % 2 ^ 51 = (c.sfc + 1) % 2 ^ 51 then
          some { pos := pos, sfc := sfc % 2 ^ 51, conf := c.conf + 1 } else none := by
    funext c
    simp only [Bool.and_eq_true, decide_eq_true_eq, beq_iff_eq, sfcMod]
  rw [Dev.candCheck]
  simp only [hrx, hdue, Bool.and_self, if_true]
  rw [hfun]
  rfl

theorem Dev.candCheck_of_not {n pos : Nat} (h : d.rxOn n = false ∨ (d.line n).cands.any (fun c => c.pos + frameBits == pos) = false)
    (errs : Nat) (hec : Hec) (sfc : Nat) : d.candCheck n pos errs hec sfc = d := by
  rw [Dev.candCheck]
  exact if_neg (by rcases h with h | h <;> simp [h])

/-- The framer after the check of a position that a candidate expects, when no candidate brings SYNC. -/
theorem Dev.setCands_framer (d : Dev) (n : Nat) (l : List Candidate) : (d.setCands n l).framer n ≠ 2 := by
  have h : (d.setCands n l).framer n = if l = [] then 0 else 1 := (d.setCands_sets n l).1.1 (Reg.LN_SYNC_STAT.STATE n, _) (List.mem_cons_of_mem _ (List.mem_singleton_self _))
  rw [h]
  split <;> decide

theorem Dev.defClear_framer (d : Dev) (n k : Nat) (hk : k < 9) : (d.defClear n k).framer n = d.framer n :=
  (d.defClear_sets n k).1.fld_eq (by simp [Fld.key, Reg.LN_SYNC_STAT.STATE, defFld, Reg.LN_DEF_STAT.ADR]; omega)

/-- The fields that SYNC on a candidate sets (R56). -/
def syncFlds (n sfc : Nat) : List (Fld × Nat) :=
  [(Reg.LN_SYNC_STAT.CANDS n, 0), (Reg.LN_SYNC_STAT.STATE n, 2), (Reg.LN_EVT.SYNC_GAIN n, 1),
    (Reg.LN_SFC_LO.SFC n, sfc % 2 ^ 32), (Reg.LN_SFC_HI.SFC n, sfc % 2 ^ 51 / 2 ^ 32), (Reg.LN_SYNC_STAT.MISS_RUN n, 0),
    (defFld n dLOF, 0), (defFld n dAmbig, 0)]

/-- SYNC with a superframe count. -/
def Dev.synced (d : Dev) (n sfc : Nat) : Dev :=
  ((((((d.setCands n []).put (Reg.LN_SYNC_STAT.STATE n) 2).ev (Reg.LN_EVT.SYNC_GAIN n)).setSfc n sfc).put
    (Reg.LN_SYNC_STAT.MISS_RUN n) 0).defClear n dLOF).defClear n dAmbig

theorem Dev.synced_regs (d : Dev) (n : Nat) (l : List Candidate) (sfc : Nat) : d.Regs ((d.setCands n l).synced n sfc) (syncFlds n sfc) := by
  have hputs : d.Regs (d.puts [(Reg.LN_SYNC_STAT.CANDS n, l.length), (Reg.LN_SYNC_STAT.STATE n, if l = [] then 0 else 1),
      (Reg.LN_SYNC_STAT.CANDS n, 0), (Reg.LN_SYNC_STAT.STATE n, 0), (Reg.LN_SYNC_STAT.STATE n, 2), (Reg.LN_EVT.SYNC_GAIN n, 1),
      (Reg.LN_SFC_LO.SFC n, sfc % 2 ^ 51), (Reg.LN_SFC_HI.SFC n, sfc % 2 ^ 51 / 2 ^ 32), (Reg.LN_SYNC_STAT.MISS_RUN n, 0),
      (defFld n dLOF, 0), (defFld n dAmbig, 0)]) (syncFlds n sfc) := by
    simp only [Dev.puts, Dev.each, List.foldl_cons, List.foldl_nil, syncFlds]
    refine ⟨?_, fun k hk => ?_⟩
    · simp (disch := (refine Fld.key_ne rfl rfl ?_; decide)) only [List.forall_mem_cons, Dev.fld_put_same, Dev.fld_put_ne]
      have hhi : sfc % 2 ^ 51 / 2 ^ 32 < 2 ^ 19 := by omega
      exact ⟨rfl, rfl, rfl, Nat.mod_mod_of_dvd _ (show 2 ^ 32 ∣ 2 ^ 51 by decide), Nat.mod_eq_of_lt hhi, rfl, rfl, rfl, by simp⟩
    · simp only [List.map_cons, List.map_nil, List.mem_cons, List.not_mem_nil, or_false, not_or] at hk
      simp only [Dev.reg_put, hk, if_false]
  refine hputs.of_regs rfl ?_
  simp only [Dev.synced, Dev.setCands, Dev.setSfc, Dev.putWide, Dev.defClear, Dev.ev, Dev.regs_put, Dev.setLine_regs, Dev.puts, Dev.each,
    List.foldl_cons, List.foldl_nil, List.length_nil, sfcMod, if_true]

theorem Dev.synced_line (d : Dev) (n sfc k : Nat) : (d.synced n sfc).line k = (d.setCands n []).line k := by
  simp only [Dev.synced, Dev.setSfc, Dev.putWide, Dev.defClear, Dev.ev, Dev.line_put]

theorem Dev.synced_rest (d : Dev) (n sfc : Nat) : (d.synced n sfc).offLines = d.offLines := by
  simp only [Dev.synced, Dev.setSfc, Dev.putWide, Dev.defClear, Dev.ev, Dev.setCands, Dev.offLines_put, Dev.offLines_setLine]

/-- What the candidates that hold confirmations decide (R56). -/
theorem Dev.trySync_none {n : Nat} (h : (d.line n).cands.filter (fun c => decide (0 < c.conf)) = []) : d.trySync n = d.defClear n dAmbig := by
  rw [Dev.trySync]
  simp only [h]

theorem Dev.trySync_many {n : Nat} (h : 2 ≤ ((d.line n).cands.filter (fun c => decide (0 < c.conf))).length) : d.trySync n = d := by
  rw [Dev.trySync]
  dsimp only
  split
  · next hc => simp [hc] at h
  · next hc => simp [hc] at h
  · rfl

theorem Dev.trySync_one {n : Nat} {c : Candidate} (h : (d.line n).cands.filter (fun c => decide (0 < c.conf)) = [c]) :
    d.trySync n = if d.confirmN n ≤ c.conf then
      d.synced n c.sfc
    else d.defClear n dAmbig := by
  rw [Dev.trySync]
  simp only [h]
  rfl

/-- What a check of candidates leaves where none brings SYNC. -/
theorem Dev.checkAt_stays {n pos : Nat} (hrx : d.rxOn n = true)
    (hdue : (d.line n).cands.any (fun c => c.pos + frameBits == pos) = true) (errs : Nat) (hec : Hec) (sfc : Nat) (ponid : Option Nat)
    (he : e.framer n ≠ 2) (htry : (d.setCands n (d.checkedCands n pos errs hec sfc)).trySync n = e) :
    d.checkAt n pos errs hec sfc ponid = e.lineMoved n := by
  rw [Dev.checkAt, Dev.candCheck_of_due hrx hdue, htry]
  dsimp only
  rw [if_neg (by tauto)]

theorem confirmN_key (n a b : Nat) : (Reg.LN_SYNC_CTRL.CONFIRM_N n).key ∉
    [(Reg.LN_SYNC_STAT.CANDS n, a), (Reg.LN_SYNC_STAT.STATE n, b)].map (·.1.key) := by
  simp [Fld.key, Reg.LN_SYNC_CTRL.CONFIRM_N, Reg.LN_SYNC_STAT.CANDS, Reg.LN_SYNC_STAT.STATE]
  omega

theorem Dev.setCands_line (d : Dev) (n : Nat) (l : List Candidate) : (d.setCands n l).line n = { d.line n with cands := l } :=
  Dev.line_setLine ..

theorem Dev.setCands_line_ne (d : Dev) {n m : Nat} (h : m ≠ n) (l : List Candidate) : (d.setCands n l).line m = d.line m :=
  Dev.line_setLine_ne _ _ _ h

/-- A window that no candidate expects (R53, R54). -/
theorem Dev.huntMatch_of_new (d : Dev) {n pos errs : Nat} (hrx : d.rxOn n = true) (hfr : d.framer n ≠ 2)
    (hdue : (d.line n).cands.any (fun c => c.pos + frameBits == pos) = false) (htol : errs ≤ d.huntTol n) (sfc : Nat) {hec : Hec} :
    d.huntMatch n pos errs hec sfc = if ¬ d.sfcPass n hec = true then d.lineCnt n 5 1
      else if 4 ≤ (d.line n).cands.length then (d.lineCnt n 5 1).ev (Reg.LN_EVT.CAND_OVF n)
      else d.setCands n ((d.line n).cands ++ [{ pos := pos, sfc := sfc % 2 ^ 51 }]) := by
  rw [Dev.huntMatch]
  refine if_neg ?_
  simp only [Bool.or_eq_true, Bool.not_eq_true', beq_iff_eq, decide_eq_true_eq, hrx, hdue]
  simp only [Bool.true_eq_false, Bool.false_eq_true, hfr, false_or, or_false]
  omega

/-- The frame that brings SYNC is the first whose PON-ID is compared (R69). -/
theorem Dev.checkAt_of_sync (d : Dev) {e : Dev} {n pos : Nat} (errs : Nat) (hec : Hec) (sfc : Nat) (ponid : Option Nat) (hfr : d.framer n ≠ 2)
    (he : d.candCheck n pos errs hec sfc = e) (hsync : e.framer n = 2) : d.checkAt n pos errs hec sfc ponid =
      (let f := ((e.setAct n { e.act n with hdrs := 0, hdrSeen := false }).actFrame n).phaseMeasure n
      ((ponid.map (f.ponidRx n)).getD f).lineMoved n) := by
  rw [Dev.checkAt, he]
  dsimp only
  rw [if_pos ⟨hfr, hsync⟩]
  cases ponid <;> rfl

/-- Settles O22: a pin, a defect, and the candidates of the hunt move by the functions named after them. -/
theorem defectsAndHunt : Obligations.DefectsAndHunt := by
  unfold Obligations.DefectsAndHunt
  refine ⟨⟨fun s n level => ?_, fun s n hup => ?_, fun d n k hk => ?_⟩, fun s n pos errs sfc hec ponid hup => ?_⟩
  · intro e y dark z i
    have hsig : y.sdSignal n = !dark := by
      rw [Dev.sdSignal, Dev.line_setLine]
      simp only [dark]
      cases level <;> cases h : e.on (Reg.LN_CTRL.SD_POL n) <;> exact h ▸ rfl
    have hrun := Does.of_run (exec_lineSdChange s n level)
    have hz : (if y.sdSignal n then y else y.setLine n { y.line n with seen := setBit (y.line n).seen dDSD true }) = z := by
      simp only [z, hsig]
      cases dark <;> rfl
    refine ⟨fun hhere hup hln => ?_, fun hhere hheld => ?_, fun hno => ?_⟩
    · have hd : e.sdLevel n level = y := by
        rw [Dev.sdLevel, if_pos hhere, Dev.iff, if_neg (by simp [hup, hln])]
      exact hd ▸ hrun
    · have hd : e.sdLevel n level = y.dsdPin n := by
        rw [Dev.sdLevel, if_pos hhere, Dev.iff, if_pos (by rcases hheld with h | h <;> simp [h])]
      have hset := y.dsdPin_sets n.isLt
      rw [hz, hsig, Bool.not_not] at hset
      exact ⟨_, hd ▸ hrun, hset⟩
    · have hd : e.sdLevel n level = e := by
        rw [Dev.sdLevel, if_neg (by simp [hno])]
      exact hd ▸ hrun
  · intro e up
    refine ⟨.of_main_eq (exec_dsdRaise ..) hup (if_congr ?_ rfl rfl), .of_main_eq (exec_dsdClear ..) hup (if_congr ?_ rfl rfl),
      .of_main_eq (exec_lolRaise ..) hup (if_congr .rfl rfl rfl), .of_main_eq (exec_lolClear ..) hup (if_congr .rfl rfl rfl),
      .of_main_eq (exec_ambigRaise ..) hup (if_congr ?_ rfl rfl)⟩
    · rw [Bool.and_eq_true, Bool.not_eq_true']
    · rw [Bool.and_eq_true]
    · rw [Bool.and_eq_true, decide_eq_true_eq]
  · exact ⟨Dev.defRaise_of_stands, Dev.defRaise_sets hk, d.defClear_sets n k⟩
  · intro e x ok due h i next good stays
    have hcheck := Does.of_main (exec_candidateCheck s n pos errs hec ⟨sfc, ponid⟩) hup
    have hhunt := Does.of_main (exec_huntMatch s n pos errs hec sfc) hup
    have hnext : next = e.checkedCands n pos errs hec sfc := rfl
    have hcands : (e.setCands n next).line n = { x with cands := next } := Dev.line_setLine ..
    have hline : ((e.setCands n next).line n).cands.filter (fun c => decide (0 < c.conf)) = good := by rw [hcands]
    have hstays {f : Dev} {l : List (Fld × Nat)} (hrx : e.rxOn n = true) (hdue : due = true) (htry : (e.setCands n next).trySync n = f)
        (hf : f.framer n ≠ 2) (hl : (e.setLine n { x with cands := next }).Sets (e.setCands n next)
          [(Reg.LN_SYNC_STAT.CANDS n, next.length % 8), (Reg.LN_SYNC_STAT.STATE n, if next = [] then 0 else 1)] →
          (e.setLine n { x with cands := next }).Sets f ([(Reg.LN_SYNC_STAT.CANDS n, next.length % 8),
            (Reg.LN_SYNC_STAT.STATE n, if next = [] then 0 else 1)] ++ l)) : stays l :=
      ⟨f, show Does i s (f.lineMoved n) from e.checkAt_stays hrx hdue errs hec sfc ponid hf htry ▸ hcheck, hl (e.setCands_sets n next)⟩
    have hkeys : ∀ y ∈ [(Reg.LN_SYNC_STAT.CANDS n, next.length % 8), (Reg.LN_SYNC_STAT.STATE n, if next = [] then 0 else 1)],
        ∀ z ∈ [(defFld n dAmbig, 0)], y.1.key ≠ z.1.key := by simpa using ⟨(sync_keys n).2.1, (sync_keys n).2.2⟩
    have hconf : (e.setCands n next).confirmN n = e.confirmN n := by
      rw [Dev.confirmN, (e.setCands_sets n next).1.fld_eq (confirmN_key n _ _), Dev.confirmN]
      rfl
    refine ⟨fun hno => ?_, fun hno => ?_, fun hrx hfr hdue htol => ⟨fun hpass => ?_, fun hok hfull => ?_, fun hok hroom => ?_⟩,
      fun hrx hfr hdue => ⟨fun hgood => ?_, fun hgood => ?_, fun c hgood => ⟨fun hlt => ?_, fun hge => ?_⟩⟩⟩
    · have hd : e.checkAt n pos errs hec sfc ponid = e.lineMoved n := by
        rw [Dev.checkAt, Dev.candCheck_of_not hno]
        dsimp only
        rw [if_neg (by tauto)]
      exact hd ▸ hcheck
    · have hd : e.huntMatch n pos errs hec sfc = e := by
        rw [Dev.huntMatch]
        refine if_pos ?_
        simp only [Bool.or_eq_true, Bool.not_eq_true', beq_iff_eq, decide_eq_true_eq]
        tauto
      exact hd ▸ hhunt
    · have hd := e.huntMatch_of_new hrx hfr hdue htol sfc (hec := hec)
      rw [if_pos (by simp [hpass])] at hd
      exact hd ▸ hhunt
    · have hd := e.huntMatch_of_new hrx hfr hdue htol sfc (hec := hec)
      rw [if_neg (by simp [hok.2]), if_pos hfull] at hd
      exact ⟨_, hd ▸ hhunt, Dev.ev_sets _ _ Nat.one_lt_two⟩
    · have hd := e.huntMatch_of_new hrx hfr hdue htol sfc (hec := hec)
      rw [if_neg (by simp [hok.2]), if_neg (Nat.not_le.2 hroom)] at hd
      have hset := e.setCands_sets n (x.cands ++ [{ pos := pos, sfc := sfc % 2 ^ 51 }])
      have hlen : (x.cands.length + 1) % 8 = x.cands.length + 1 := by omega
      rw [if_neg (by simp), List.length_append, List.length_singleton, hlen] at hset
      exact ⟨_, hd ▸ hhunt, hset⟩
    · refine hstays hrx hdue (Dev.trySync_none (hline.trans hgood)) ?_ fun hset => ?_
      · rw [Dev.defClear_framer _ _ _ (by decide)]
        exact e.setCands_framer n next
      · exact hset.trans (Dev.defClear_sets _ n dAmbig) hkeys
    · refine hstays hrx hdue (Dev.trySync_many ?_) (e.setCands_framer n next) fun hset => by simpa using hset
      rw [hline]
      exact hgood
    · refine hstays hrx hdue ((Dev.trySync_one (hline.trans hgood)).trans (if_neg (by omega))) ?_ fun hset => ?_
      · rw [Dev.defClear_framer _ _ _ (by decide)]
        exact e.setCands_framer n next
      · exact hset.trans (Dev.defClear_sets _ n dAmbig) hkeys
    · have htry := (Dev.trySync_one (hline.trans hgood)).trans (if_pos (by omega))
      have hregs := e.synced_regs n next c.sfc
      have hsync : ((e.setCands n next).synced n c.sfc).framer n = 2 := hregs.1 (Reg.LN_SYNC_STAT.STATE n, 2) (by simp [syncFlds])
      have hd := e.checkAt_of_sync errs hec sfc ponid hfr ((Dev.candCheck_of_due hrx hdue errs hec sfc).trans htry) hsync
      refine ⟨(e.setCands n next).synced n c.sfc, (congrArg (Does i s) hd).mp hcheck, ?_, fun k hk => ?_, hregs, ?_⟩
      · rw [Dev.synced_line, Dev.setCands_line, hcands]
      · rw [Dev.synced_line, Dev.setCands_line_ne _ hk, Dev.setCands_line_ne _ hk]
      · exact Dev.rest_of_offLines (((e.setCands n next).synced_rest n c.sfc).trans rfl)

end Sys2Proof.Machine
end

section
/-!
PROOFS. The framer in SYNC, a restart of the hunt, and codewords (R57 to R60, R67, R69, R70).
-/
namespace Sys2Proof.Machine

/-! ### What an operation on one line channel leaves -/

/-- `d` came from `d0` by operations on line channel `n`, whose state is now `x`, that set the fields `l`. -/
structure Dev.LineAt (d0 : Dev) (n : Nat) (d : Dev) (x : Line) (l : List (Fld × Nat)) : Prop where
  line : d.line n = x
  others : ∀ k, k ≠ n → d.line k = d0.line k
  regs : d0.Regs d l
  rest : d.offLines = d0.offLines

namespace Dev.LineAt

variable {d0 d : Dev} {n : Nat} {x : Line} {l : List (Fld × Nat)}

theorem refl (d : Dev) (n : Nat) : d.LineAt n d (d.line n) [] := ⟨rfl, fun _ _ => rfl, .nil d, rfl⟩

theorem setLine (h : d0.LineAt n d x l) (y : Line) : d0.LineAt n (d.setLine n y) y l :=
  ⟨Dev.line_setLine .., fun k hk => (Dev.line_setLine_ne _ _ _ hk).trans (h.others k hk), h.regs.of_regs rfl rfl,
    (d.offLines_setLine n y).trans h.rest⟩

theorem modify (h : d0.LineAt n d x l) (g : Line → Line) : d0.LineAt n (d.setLine n (g (d.line n))) (g x) l := by
  rw [h.line]
  exact h.setLine _

theorem put (h : d0.LineAt n d x l) (f : Fld) (v : Nat) (hk : f.key ∉ l.map (fun e => e.1.key)) :
    d0.LineAt n (d.put f v) x ((f, v % 2 ^ f.w) :: l) :=
  ⟨(d.line_put f v n).trans h.line, fun k hk => (d.line_put f v k).trans (h.others k hk), h.regs.put f v hk,
    (d.offLines_put f v).trans h.rest⟩

/-- A field that was set already takes another value. -/
theorem put_again (h : d0.LineAt n d x ((f, w) :: l)) (v : Nat) (hk : f.key ∉ l.map (fun e => e.1.key)) :
    d0.LineAt n (d.put f v) x ((f, v % 2 ^ f.w) :: l) := by
  refine ⟨(d.line_put f v n).trans h.line, fun k hk => (d.line_put f v k).trans (h.others k hk), ⟨fun e he => ?_, fun k hk => ?_⟩,
    (d.offLines_put f v).trans h.rest⟩
  · rcases List.mem_cons.1 he with rfl | he
    · exact Dev.fld_put_same ..
    · rw [Dev.fld_put_ne _ _ (fun e' => hk (e' ▸ List.mem_map_of_mem (f := fun e => e.1.key) he))]
      exact h.regs.1 e (List.mem_cons_of_mem _ he)
  · have hne : k ≠ f.key := fun e => hk (by simp [e])
    rw [Dev.reg_put, if_neg hne]
    exact h.regs.2 k hk

/-- What a field reads that was not set. -/
theorem fld_eq (h : d0.LineAt n d x l) {f : Fld} (hf : f.key ∉ l.map (fun e => e.1.key)) : d.fld f = d0.fld f := h.regs.fld_eq hf

theorem frame (h : d0.LineAt n d x l) : { d with regs := d0.regs, lines := d0.lines } = d0 := Dev.rest_of_offLines h.rest

end Dev.LineAt

/-- A counter of R76 of a channel counts. -/
def Line.count (x : Line) (k v : Nat) : Line := { x with run := Tbl.set x.run k (min (2 ^ 48 - 1) (Tbl.get x.run k 0 + v)) }

theorem Line.count_get (x : Line) (k v j : Nat) :
    Tbl.get (x.count k v).run j 0 = if j = k then min (2 ^ 48 - 1) (Tbl.get x.run k 0 + v) else Tbl.get x.run j 0 := Tbl.get_set ..

theorem Dev.LineAt.lineCnt {d0 d : Dev} {n : Nat} {x : Line} {l : List (Fld × Nat)} (h : d0.LineAt n d x l) (k v : Nat) :
    d0.LineAt n (d.lineCnt n k v) (x.count k v) l := by
  rw [← h.line]
  exact h.setLine _

/-! ### A frame in SYNC -/

/-- Whether a received count is taken as a jump: it continues the odd count of the frame before (R58). -/
def Line.jumps (x : Line) (rx : Nat) : Bool := match x.odd with | some p => (p + 1) % sfcMod == rx | none => false

/-- A channel after its count was adopted. -/
def Line.adopted (x : Line) (pass : Bool) (exp rx : Nat) : Line :=
  if pass = false then { x with odd := none }.count 6 1
  else if rx = exp then { x with odd := none }
  else if x.jumps rx then { x.count 7 1 with odd := none }
  else { x.count 7 1 with odd := some rx }

theorem sfc_keys (n : Nat) : (Reg.LN_SFC_LO.SFC n).key ≠ (Reg.LN_SFC_HI.SFC n).key ∧
    (Reg.LN_SFC_LO.SFC n).key ≠ (Reg.LN_SYNC_STAT.MISS_RUN n).key ∧ (Reg.LN_SFC_HI.SFC n).key ≠ (Reg.LN_SYNC_STAT.MISS_RUN n).key ∧
    (Reg.LN_SFC_LO.SFC n).key ≠ (Reg.LN_EVT.SFC_JUMP n).key ∧ (Reg.LN_SFC_HI.SFC n).key ≠ (Reg.LN_EVT.SFC_JUMP n).key ∧
    (Reg.LN_SYNC_STAT.MISS_RUN n).key ≠ (Reg.LN_EVT.SFC_JUMP n).key := by
  simp only [Fld.key, Reg.LN_SFC_LO.SFC, Reg.LN_SFC_HI.SFC, Reg.LN_SYNC_STAT.MISS_RUN, Reg.LN_EVT.SFC_JUMP]
  omega

theorem Dev.LineAt.setSfc {d0 d : Dev} {n m : Nat} {x : Line} {l : List (Fld × Nat)} (h : d0.LineAt n d x l) (v : Nat)
    (hlo : (Reg.LN_SFC_LO.SFC m).key ∉ l.map (fun e => e.1.key)) (hhi : (Reg.LN_SFC_HI.SFC m).key ∉ l.map (fun e => e.1.key)) :
    d0.LineAt n (d.setSfc m v) x ((Reg.LN_SFC_HI.SFC m, v % 2 ^ 51 / 2 ^ 32) :: (Reg.LN_SFC_LO.SFC m, v % 2 ^ 32) :: l) := by
  have hset := (h.put (Reg.LN_SFC_LO.SFC m) (v % 2 ^ 51) hlo).put (Reg.LN_SFC_HI.SFC m) (v % 2 ^ 51 / 2 ^ 32)
    (by simpa using ⟨(sfc_keys m).1.symm, by simpa using hhi⟩)
  have hlt : v % 2 ^ 51 / 2 ^ 32 < 2 ^ 19 := by omega
  have hval : v % 2 ^ 51 % 2 ^ 32 = v % 2 ^ 32 := Nat.mod_mod_of_dvd _ (by decide)
  have e1 : v % 2 ^ 51 % 2 ^ (Reg.LN_SFC_LO.SFC m).w = v % 2 ^ 32 := hval
  have e2 : v % 2 ^ 51 / 2 ^ 32 % 2 ^ (Reg.LN_SFC_HI.SFC m).w = v % 2 ^ 51 / 2 ^ 32 := Nat.mod_eq_of_lt hlt
  rwa [e1, e2] at hset

/-- The fields that show the adopted count. -/
def sfcShown (n c : Nat) : List (Fld × Nat) := [(Reg.LN_SFC_HI.SFC n, c / 2 ^ 32), (Reg.LN_SFC_LO.SFC n, c % 2 ^ 32)]

theorem Dev.LineAt.setSfc_of_lt {d0 d : Dev} {n : Nat} {x : Line} {m v : Nat} (h : d0.LineAt n d x [(Reg.LN_SYNC_STAT.MISS_RUN n, m)])
    (hv : v < 2 ^ 51) : d0.LineAt n (d.setSfc n v) x (sfcShown n v ++ [(Reg.LN_SYNC_STAT.MISS_RUN n, m)]) := by
  have hset := h.setSfc (m := n) v (by simpa using (sfc_keys n).2.1) (by simpa using (sfc_keys n).2.2.1)
  rwa [Nat.mod_eq_of_lt hv] at hset

theorem Dev.LineAt.adopt {d0 d : Dev} {n : Nat} {x : Line} {m : Nat} (h : d0.LineAt n d x [(Reg.LN_SYNC_STAT.MISS_RUN n, m)])
    (hec : Hec) (sfc : Nat) :
    let exp := (d.sfc n + 1) % 2 ^ 51
    let rx := sfc % 2 ^ 51
    let jump := d.sfcPass n hec = true ∧ rx ≠ exp ∧ x.jumps rx = true
    (jump → d0.LineAt n (d.adopt n hec sfc) (x.adopted (d.sfcPass n hec) exp rx)
      ((Reg.LN_EVT.SFC_JUMP n, 1) :: (sfcShown n rx ++ [(Reg.LN_SYNC_STAT.MISS_RUN n, m)]))) ∧
    (¬ jump → d0.LineAt n (d.adopt n hec sfc) (x.adopted (d.sfcPass n hec) exp rx)
      (sfcShown n exp ++ [(Reg.LN_SYNC_STAT.MISS_RUN n, m)])) := by
  intro exp rx jump
  have hexp : exp < 2 ^ 51 := Nat.mod_lt _ (by decide)
  have hrx : rx < 2 ^ 51 := Nat.mod_lt _ (by decide)
  have hx := h.line
  have hcnt : ((d.lineCnt n 7 1).line n) = x.count 7 1 := (h.lineCnt 7 1).line
  obtain ⟨-, -, -, k1, k2, k3⟩ := sfc_keys n
  have hcase : d.adopt n hec sfc = if d.sfcPass n hec = false then ((d.setLine n { x with odd := none }).lineCnt n 6 1).setSfc n exp
      else if rx = exp then (d.setLine n { x with odd := none }).setSfc n exp
      else if x.jumps rx = true then (((d.lineCnt n 7 1).setLine n { x.count 7 1 with odd := none }).setSfc n rx).ev (Reg.LN_EVT.SFC_JUMP n)
      else ((d.lineCnt n 7 1).setLine n { x.count 7 1 with odd := some rx }).setSfc n exp := by
    rw [Dev.adopt]
    simp only [hx, hcnt, Bool.not_eq_true]
    rfl
  rw [hcase]
  unfold Line.adopted
  refine ⟨fun hj => ?_, fun hj => ?_⟩
  · obtain ⟨hp, hne, hjump⟩ := hj
    have hp' : ¬ d.sfcPass n hec = false := by simp [hp]
    rw [if_neg hp', if_neg hp', if_neg hne, if_neg hne, if_pos hjump, if_pos hjump]
    exact (((h.lineCnt 7 1).setLine { x.count 7 1 with odd := none }).setSfc_of_lt hrx).put (Reg.LN_EVT.SFC_JUMP n) 1
      (by simpa [sfcShown] using ⟨k2.symm, k1.symm, k3.symm⟩)
  · by_cases hp : d.sfcPass n hec = false
    · rw [if_pos hp, if_pos hp]
      exact ((h.setLine { x with odd := none }).lineCnt 6 1).setSfc_of_lt hexp
    rw [if_neg hp, if_neg hp]
    by_cases he : rx = exp
    · rw [if_pos he, if_pos he]
      exact (h.setLine { x with odd := none }).setSfc_of_lt hexp
    have hno : ¬ x.jumps rx = true := fun hx' => hj ⟨by simpa using hp, he, hx'⟩
    rw [if_neg he, if_neg he, if_neg hno, if_neg hno]
    exact ((h.lineCnt 7 1).setLine { x.count 7 1 with odd := some rx }).setSfc_of_lt hexp

/-- A channel at the start of a frame: contexts that a whole frame passed without a fragment are aborted (R67). -/
def Line.reframed (x : Line) : Line :=
  Line.count { x with reasm := (x.reasm.filter (·.touched)).map (fun c => { c with touched := false }), delin := false } 16
    (x.reasm.filter (fun c => !c.touched)).length

theorem Dev.LineAt.reasmFrame {d0 d : Dev} {n : Nat} {x : Line} {l : List (Fld × Nat)} (h : d0.LineAt n d x l) :
    d0.LineAt n (d.reasmFrame n) x.reframed l := by
  rw [Dev.reasmFrame, h.line]
  exact (h.setLine _).lineCnt 16 _

/-! ### The trace comparison of the PON-ID (R69) -/

theorem Dev.traceRun_matches (d : Dev) (n k ok : Nat) :
    d.traceRun n k 0 ok = if max 1 (d.fld (Reg.LN_TRACE_CTRL.CLEAR_N n)) ≤ ok then d.defClear n k else d := by
  have h : ¬ max 1 (d.fld (Reg.LN_TRACE_CTRL.RAISE_N n)) ≤ 0 := by omega
  simp only [Dev.traceRun, Dev.iff, h, decide_false, Bool.false_eq_true, if_false, decide_eq_true_eq]

theorem Dev.traceRun_mismatches (d : Dev) (n k mis : Nat) :
    d.traceRun n k mis 0 = if max 1 (d.fld (Reg.LN_TRACE_CTRL.RAISE_N n)) ≤ mis then d.defRaise n k else d := by
  have h : ¬ max 1 (d.fld (Reg.LN_TRACE_CTRL.CLEAR_N n)) ≤ 0 := by omega
  simp only [Dev.traceRun, Dev.iff, h, decide_false, Bool.false_eq_true, if_false, decide_eq_true_eq]

/-- The fields that a comparison of the PON-ID may set. -/
def ponidFlds (n : Nat) : List Fld := [Reg.LN_PONID_RX_LO.VALUE n, Reg.LN_PONID_RX_HI.VALUE n, defFld n dPonid, stickyFld n dPonid]

theorem Dev.defRaise_line (d : Dev) (n k : Nat) :
    (d.defRaise n k).line n = if d.defect n k = true then d.line n else { d.line n with seen := setBit (d.line n).seen k true } := by
  unfold Dev.defRaise
  split
  · rfl
  · simp only [Dev.ev, Dev.line_put, Dev.line_setLine]

theorem Dev.defRaise_defect (d : Dev) {n k : Nat} (hk : k < 9) : (d.defRaise n k).defect n k = true := by
  by_cases h : d.defect n k = true
  · rwa [Dev.defRaise_of_stands h]
  · have hv := (Dev.defRaise_sets hk (by simpa using h)).1.1 (defFld n k, 1) (by simp)
    rw [Dev.defect, Dev.on, hv]
    rfl

theorem Dev.defClear_defect (d : Dev) (n k : Nat) : (d.defClear n k).defect n k = false := by
  rw [Dev.defect, Dev.on, (d.defClear_sets n k).1.1 (defFld n k, 0) (by simp)]
  rfl

theorem Dev.defRaise_same (d : Dev) {n k : Nat} (hk : k < 9) : d.SameRegs (d.defRaise n k) [defFld n k, stickyFld n k] := by
  by_cases h : d.defect n k = true
  · rw [Dev.defRaise_of_stands h]
    exact fun _ _ => rfl
  · exact (Dev.defRaise_sets hk (by simpa using h)).1.2

theorem Dev.SameRegs.trans {d e f : Dev} {l l' ks : List Fld} (h : d.SameRegs e l) (h' : e.SameRegs f l') (hl : ∀ x ∈ l ++ l', x ∈ ks) :
    d.SameRegs f ks := fun k hk =>
  (h' k fun hm => hk (by
    obtain ⟨x, hx, rfl⟩ := List.mem_map.1 hm
    exact List.mem_map_of_mem (hl x (List.mem_append_right _ hx)))).trans
  (h k fun hm => hk (by
    obtain ⟨x, hx, rfl⟩ := List.mem_map.1 hm
    exact List.mem_map_of_mem (hl x (List.mem_append_left _ hx))))

theorem Dev.SameRegs.fld_eq {d e : Dev} {ks : List Fld} (h : d.SameRegs e ks) {f : Fld} (hf : f.key ∉ ks.map Fld.key) : e.fld f = d.fld f :=
  h f.key hf

theorem Dev.SameRegs.refl (d : Dev) (ks : List Fld) : d.SameRegs d ks := fun _ _ => rfl

theorem ponid_keys (n : Nat) : (Reg.LN_PONID_RX_LO.VALUE n).key ≠ (Reg.LN_PONID_RX_HI.VALUE n).key ∧
    (∀ f ∈ [Reg.LN_PONID_RX_LO.VALUE n, Reg.LN_PONID_RX_HI.VALUE n], ∀ g ∈ [defFld n dPonid, stickyFld n dPonid], f.key ≠ g.key) ∧
    (∀ f ∈ [Reg.LN_TRACE_CTRL.RAISE_N n, Reg.LN_TRACE_CTRL.CLEAR_N n, defFld n dPonid],
      ∀ g ∈ [Reg.LN_PONID_RX_LO.VALUE n, Reg.LN_PONID_RX_HI.VALUE n], f.key ≠ g.key) := by
  simp only [List.forall_mem_cons, List.not_mem_nil, false_imp_iff, implies_true, and_true, Fld.key, Reg.LN_PONID_RX_LO.VALUE,
    Reg.LN_PONID_RX_HI.VALUE, defFld, stickyFld, Reg.LN_DEF_STAT.ADR, Reg.LN_DEF_STICKY.ADR, Reg.LN_TRACE_CTRL.RAISE_N,
    Reg.LN_TRACE_CTRL.CLEAR_N, dPonid]
  omega

/-- The received PON-ID is shown. -/
def Dev.ponidShown (d : Dev) (n v : Nat) : Dev := d.putWide (Reg.LN_PONID_RX_LO.VALUE n) (Reg.LN_PONID_RX_HI.VALUE n) (v % sfcMod)

theorem Dev.ponidShown_at (d : Dev) (n v : Nat) : d.LineAt n (d.ponidShown n v) (d.line n)
    [(Reg.LN_PONID_RX_HI.VALUE n, v % 2 ^ 51 / 2 ^ 32), (Reg.LN_PONID_RX_LO.VALUE n, v % 2 ^ 32)] := by
  have hset := ((Dev.LineAt.refl d n).put (Reg.LN_PONID_RX_LO.VALUE n) (v % 2 ^ 51) (by simp)).put (Reg.LN_PONID_RX_HI.VALUE n)
    (v % 2 ^ 51 / 2 ^ 32) (by simpa using (ponid_keys n).1.symm)
  have hlt : v % 2 ^ 51 / 2 ^ 32 < 2 ^ 19 := by omega
  have hval : v % 2 ^ 51 % 2 ^ 32 = v % 2 ^ 32 := Nat.mod_mod_of_dvd _ (by decide)
  have e1 : v % 2 ^ 51 % 2 ^ (Reg.LN_PONID_RX_LO.VALUE n).w = v % 2 ^ 32 := hval
  have e2 : v % 2 ^ 51 / 2 ^ 32 % 2 ^ (Reg.LN_PONID_RX_HI.VALUE n).w = v % 2 ^ 51 / 2 ^ 32 := Nat.mod_eq_of_lt hlt
  rwa [e1, e2] at hset

/-- Two PON-IDs agree under the mask. -/
def Dev.ponidAgrees (d : Dev) (n v : Nat) : Prop :=
  (v % 2 ^ 51) &&& d.wide (Reg.LN_PONID_MASK_LO.VALUE n) (Reg.LN_PONID_MASK_HI.VALUE n) =
    d.wide (Reg.LN_PONID_EXP_LO.VALUE n) (Reg.LN_PONID_EXP_HI.VALUE n) &&&
      d.wide (Reg.LN_PONID_MASK_LO.VALUE n) (Reg.LN_PONID_MASK_HI.VALUE n)

theorem Dev.ponidRx_off {d : Dev} {n : Nat} (h : d.on (Reg.LN_TRACE_CTRL.PONID_EN n) = false) (v : Nat) :
    d.ponidRx n v = d.ponidShown n v := by
  rw [Dev.ponidRx]
  simp only [h, Bool.false_eq_true, not_false_eq_true, if_true]
  rfl

theorem Dev.ponidRx_agrees {d : Dev} {n v : Nat} (h : d.on (Reg.LN_TRACE_CTRL.PONID_EN n) = true) (ha : d.ponidAgrees n v) :
    d.ponidRx n v =
      let e := (d.ponidShown n v).setLine n { d.line n with ponMis := 0, ponOk := (d.line n).ponOk + 1 }
      if max 1 (d.fld (Reg.LN_TRACE_CTRL.CLEAR_N n)) ≤ (d.line n).ponOk + 1 then e.defClear n dPonid else e := by
  have hat := d.ponidShown_at n v
  have hfld : ((d.ponidShown n v).setLine n { d.line n with ponMis := 0, ponOk := (d.line n).ponOk + 1 }).fld (Reg.LN_TRACE_CTRL.CLEAR_N n) =
      d.fld (Reg.LN_TRACE_CTRL.CLEAR_N n) := (hat.setLine _).fld_eq (by
    have := (ponid_keys n).2.2 (Reg.LN_TRACE_CTRL.CLEAR_N n) (by simp)
    simpa using ⟨this _ (by simp), this _ (by simp)⟩)
  have hline : (d.putWide (Reg.LN_PONID_RX_LO.VALUE n) (Reg.LN_PONID_RX_HI.VALUE n) (v % sfcMod)).line n = d.line n := hat.line
  rw [Dev.ponidRx]
  simp only [h, not_true_eq_false, if_false, hline]
  exact (if_pos ha).trans ((Dev.traceRun_matches ..).trans (if_congr (by rw [← hfld]; rfl) rfl rfl))

theorem Dev.ponidRx_differs {d : Dev} {n v : Nat} (h : d.on (Reg.LN_TRACE_CTRL.PONID_EN n) = true) (ha : ¬ d.ponidAgrees n v) :
    d.ponidRx n v =
      let e := ((d.ponidShown n v).setLine n { d.line n with ponMis := (d.line n).ponMis + 1, ponOk := 0 }).lineCnt n 17 1
      if max 1 (d.fld (Reg.LN_TRACE_CTRL.RAISE_N n)) ≤ (d.line n).ponMis + 1 then e.defRaise n dPonid else e := by
  have hat := d.ponidShown_at n v
  have hfld : (((d.ponidShown n v).setLine n { d.line n with ponMis := (d.line n).ponMis + 1, ponOk := 0 }).lineCnt n 17 1).fld
      (Reg.LN_TRACE_CTRL.RAISE_N n) = d.fld (Reg.LN_TRACE_CTRL.RAISE_N n) := ((hat.setLine _).lineCnt 17 1).fld_eq (by
    have := (ponid_keys n).2.2 (Reg.LN_TRACE_CTRL.RAISE_N n) (by simp)
    simpa using ⟨this _ (by simp), this _ (by simp)⟩)
  have hline : (d.putWide (Reg.LN_PONID_RX_LO.VALUE n) (Reg.LN_PONID_RX_HI.VALUE n) (v % sfcMod)).line n = d.line n := hat.line
  rw [Dev.ponidRx]
  simp only [h, not_true_eq_false, if_false, hline]
  exact (if_neg ha).trans ((Dev.traceRun_mismatches ..).trans (if_congr (by rw [← hfld]; rfl) rfl rfl))

/-- A comparison of the PON-ID sets no field but the PON-ID shown and its defect. -/
theorem Dev.ponidRx_same (d : Dev) (n v : Nat) :
    (d.ponidShown n v).SameRegs (d.ponidRx n v) [defFld n dPonid, stickyFld n dPonid] := by
  by_cases h : d.on (Reg.LN_TRACE_CTRL.PONID_EN n) = true
  · by_cases ha : d.ponidAgrees n v
    · rw [Dev.ponidRx_agrees h ha]
      dsimp only
      split
      · exact fun k hk => (Dev.defClear_sets _ n dPonid).1.2 k (by simp at hk ⊢; exact hk.1)
      · exact fun _ _ => rfl
    · rw [Dev.ponidRx_differs h ha]
      dsimp only
      split
      · exact Dev.defRaise_same _ (by decide)
      · exact fun _ _ => rfl
  · rw [Dev.ponidRx_off (by simpa using h)]
    exact fun _ _ => rfl

/-- Everything that a comparison of the PON-ID leaves. -/
theorem Dev.ponidRx_spec (d : Dev) (n v : Nat) :
    (d.ponidRx n v).wide (Reg.LN_PONID_RX_LO.VALUE n) (Reg.LN_PONID_RX_HI.VALUE n) = v % 2 ^ 51 ∧
    (d.ponidRx n v).framer n = d.framer n ∧ d.SameRegs (d.ponidRx n v) (ponidFlds n) := by
  have hat := (d.ponidShown_at n v).regs
  have hsame := d.ponidRx_same n v
  obtain ⟨-, hk, -⟩ := ponid_keys n
  have hlo := hsame.fld_eq (f := Reg.LN_PONID_RX_LO.VALUE n) (by
    have := hk (Reg.LN_PONID_RX_LO.VALUE n) (by simp)
    simpa using ⟨this _ (by simp), this _ (by simp)⟩)
  have hhi := hsame.fld_eq (f := Reg.LN_PONID_RX_HI.VALUE n) (by
    have := hk (Reg.LN_PONID_RX_HI.VALUE n) (by simp)
    simpa using ⟨this _ (by simp), this _ (by simp)⟩)
  have htotal : d.SameRegs (d.ponidRx n v) (ponidFlds n) := Dev.SameRegs.trans hat.2 hsame (fun x hx => by
    simp only [ponidFlds, List.map_cons, List.map_nil, List.mem_append, List.mem_cons, List.not_mem_nil, or_false] at hx ⊢
    tauto)
  refine ⟨?_, htotal.fld_eq (f := Reg.LN_SYNC_STAT.STATE n) ?_, htotal⟩
  · obtain ⟨hvhi, hvals⟩ := List.forall_mem_cons.1 hat.1
    have hvlo := (List.forall_mem_cons.1 hvals).1
    rw [Dev.wide, hlo, hhi, hvhi, hvlo]
    omega
  · simp only [ponidFlds, List.map_cons, List.map_nil, List.mem_cons, List.not_mem_nil, or_false, Fld.key, Reg.LN_SYNC_STAT.STATE,
      Reg.LN_PONID_RX_LO.VALUE, Reg.LN_PONID_RX_HI.VALUE, defFld, stickyFld, Reg.LN_DEF_STAT.ADR, Reg.LN_DEF_STICKY.ADR, dPonid]
    omega

theorem Dev.ponidShown_defect (d : Dev) (n v : Nat) : (d.ponidShown n v).defect n dPonid = d.defect n dPonid := by
  have hk := (ponid_keys n).2.2 (defFld n dPonid) (by simp)
  rw [Dev.defect, Dev.on, (d.ponidShown_at n v).fld_eq (by simpa using ⟨hk _ (by simp), hk _ (by simp)⟩)]
  rfl

theorem Dev.setLine_defect (d : Dev) (n k m : Nat) (x : Line) : (d.setLine n x).defect m k = d.defect m k := rfl

/-! ### The framer's commands -/

theorem Dev.framePsync_of_not {d : Dev} {n : Nat} (h : d.rxOn n = false ∨ d.framer n ≠ 2) (errs : Nat) (hec : Hec) (sfc : Nat)
    (ponid : Option Nat) : d.framePsync n errs hec sfc ponid = d := by
  rw [Dev.framePsync]
  exact if_pos (by simpa using h)

/-- The misses in a row after a frame. -/
def Dev.missRun (d : Dev) (n errs : Nat) : Nat :=
  if d.fld (Reg.LN_SYNC_CTRL.SYNC_TOL n) < errs then d.fld (Reg.LN_SYNC_STAT.MISS_RUN n) + 1 else 0

/-- A channel with the pattern of a frame judged. -/
def Dev.judged (d : Dev) (n errs : Nat) : Dev :=
  (if d.fld (Reg.LN_SYNC_CTRL.SYNC_TOL n) < errs then d.lineCnt n 4 1 else d).put (Reg.LN_SYNC_STAT.MISS_RUN n) (d.missRun n errs)

theorem Dev.judged_at (d : Dev) (n errs : Nat) : d.LineAt n (d.judged n errs)
    (if d.fld (Reg.LN_SYNC_CTRL.SYNC_TOL n) < errs then (d.line n).count 4 1 else d.line n)
    [(Reg.LN_SYNC_STAT.MISS_RUN n, d.missRun n errs % 256)] := by
  unfold Dev.judged
  split
  · exact ((Dev.LineAt.refl d n).lineCnt 4 1).put (Reg.LN_SYNC_STAT.MISS_RUN n) _ (by simp)
  · exact (Dev.LineAt.refl d n).put (Reg.LN_SYNC_STAT.MISS_RUN n) _ (by simp)

theorem Dev.framePsync_of_sync {d : Dev} {n : Nat} (hrx : d.rxOn n = true) (hfr : d.framer n = 2) (errs : Nat) (hec : Hec) (sfc : Nat)
    (ponid : Option Nat) : d.framePsync n errs hec sfc ponid =
      if d.lossM n ≤ d.missRun n errs then ((d.judged n errs).toHunt n).ev (Reg.LN_EVT.SYNC_LOSS n)
      else
        let e := ((d.judged n errs).adopt n hec sfc).reasmFrame n
        (ponid.map (e.ponidRx n)).getD e := by
  rw [Dev.framePsync]
  refine (if_neg (by simp [hrx, hfr])).trans ?_
  simp only [Dev.iff, decide_eq_true_eq]
  rw [Dev.judged, Dev.missRun]
  cases ponid <;> rfl

/-! ### The framer in HUNT -/

theorem Dev.LineAt.defClear {d0 d : Dev} {n : Nat} {x : Line} {l : List (Fld × Nat)} (h : d0.LineAt n d x l) (k : Nat)
    (hk : (defFld n k).key ∉ l.map (fun e => e.1.key)) : d0.LineAt n (d.defClear n k) x ((defFld n k, 0) :: l) := h.put (defFld n k) 0 hk

theorem Dev.LineAt.setCands {d0 d : Dev} {n : Nat} {x : Line} (h : d0.LineAt n d x []) (c : List Candidate) :
    d0.LineAt n (d.setCands n c) { x with cands := c }
      [(Reg.LN_SYNC_STAT.STATE n, if c = [] then 0 else 1), (Reg.LN_SYNC_STAT.CANDS n, c.length % 8)] := by
  have hlt : (if c = [] then 0 else 1 : Nat) % 2 ^ (Reg.LN_SYNC_STAT.STATE n).w = if c = [] then 0 else 1 := by split <;> rfl
  have hset := ((h.setLine { x with cands := c }).put (Reg.LN_SYNC_STAT.CANDS n) c.length (by simp)).put (Reg.LN_SYNC_STAT.STATE n)
    (if c = [] then 0 else 1) (by simpa using (sync_keys n).1.symm)
  rw [hlt] at hset
  rw [Dev.setCands, h.line]
  exact hset

theorem Dev.LineAt.delinLost {d0 d : Dev} {n : Nat} {x : Line} {l : List (Fld × Nat)} (h : d0.LineAt n d x l) :
    d0.LineAt n (d.delinLost n) (Line.count { x with delin := false, reasm := [] } 16 x.reasm.length) l := by
  have hdelin := h.setLine { x with delin := false }
  rw [Dev.delinLost, h.line, Dev.abortAll, hdelin.line]
  exact (hdelin.setLine { x with delin := false, reasm := [] }).lineCnt 16 _

theorem hunt_keys (n : Nat) : (Reg.LN_SYNC_STAT.MISS_RUN n).key ≠ (Reg.LN_SYNC_STAT.STATE n).key ∧
    (Reg.LN_SYNC_STAT.MISS_RUN n).key ≠ (Reg.LN_SYNC_STAT.CANDS n).key ∧
    (∀ k < 9, ∀ f ∈ [Reg.LN_SYNC_STAT.MISS_RUN n, Reg.LN_SYNC_STAT.STATE n, Reg.LN_SYNC_STAT.CANDS n, Reg.LN_EVT.SYNC_LOSS n],
      (defFld n k).key ≠ f.key ∧ (stickyFld n k).key ≠ f.key) ∧
    (∀ f ∈ [Reg.LN_SYNC_STAT.MISS_RUN n, Reg.LN_SYNC_STAT.STATE n, Reg.LN_SYNC_STAT.CANDS n], (Reg.LN_EVT.SYNC_LOSS n).key ≠ f.key) := by
  simp only [List.forall_mem_cons, List.not_mem_nil, false_imp_iff, implies_true, and_true, Fld.key, Reg.LN_SYNC_STAT.MISS_RUN,
    Reg.LN_SYNC_STAT.STATE, Reg.LN_SYNC_STAT.CANDS, Reg.LN_EVT.SYNC_LOSS, defFld, stickyFld, Reg.LN_DEF_STAT.ADR, Reg.LN_DEF_STICKY.ADR]
  exact ⟨by omega, by omega, fun k hk => by omega, by omega⟩

/-- A channel sent to HUNT, before LOF is raised. -/
def Line.hunting (x : Line) : Line := Line.count { x with cands := [], odd := none, delin := false, reasm := [] } 16 x.reasm.length

/-- The fields of a channel sent to HUNT. -/
def huntFlds (n : Nat) : List (Fld × Nat) :=
  [(defFld n dAmbig, 0), (Reg.LN_SYNC_STAT.MISS_RUN n, 0), (Reg.LN_SYNC_STAT.STATE n, 0), (Reg.LN_SYNC_STAT.CANDS n, 0)]

theorem Dev.toHunt_at (d : Dev) (n : Nat) : ∃ e, d.toHunt n = e.defRaise n dLOF ∧ d.LineAt n e (d.line n).hunting (huntFlds n) := by
  refine ⟨_, rfl, ?_⟩
  obtain ⟨k1, k2, k3, -⟩ := hunt_keys n
  have k4 := k3 dAmbig (by decide)
  have hcands := ((Dev.LineAt.refl d n).setCands []).put (Reg.LN_SYNC_STAT.MISS_RUN n) 0 (by simpa using ⟨k1, k2⟩)
  have hambig := hcands.defClear dAmbig (by
    simpa using ⟨(k4 _ (by simp)).1, (k4 (Reg.LN_SYNC_STAT.STATE n) (by simp)).1, (k4 (Reg.LN_SYNC_STAT.CANDS n) (by simp)).1⟩)
  exact (hambig.modify fun y => { y with odd := none }).delinLost

theorem Dev.offLines_defRaise (d : Dev) (n k : Nat) : (d.defRaise n k).offLines = d.offLines := by
  unfold Dev.defRaise
  split
  · rfl
  · simp only [Dev.ev, Dev.offLines_setLine, Dev.offLines_put]

theorem Dev.defRaise_line_ne (d : Dev) {n m : Nat} (h : m ≠ n) (k : Nat) : (d.defRaise n k).line m = d.line m := by
  unfold Dev.defRaise
  split
  · rfl
  · simp only [Dev.ev, Dev.line_setLine_ne _ _ _ h, Dev.line_put]

/-- A channel in HUNT with no candidates, its reassemblies aborted and LOF raised. -/
structure Dev.InHunt (d0 : Dev) (n : Nat) (e : Dev) : Prop where
  framer : e.framer n = 0
  shown : e.fld (Reg.LN_SYNC_STAT.CANDS n) = 0
  run : e.fld (Reg.LN_SYNC_STAT.MISS_RUN n) = 0
  reasm : (e.line n).reasm = []
  cands : (e.line n).cands = []
  delin : (e.line n).delin = false
  lof : e.defect n dLOF = true
  same : d0.SameRegs e [Reg.LN_SYNC_STAT.STATE n, Reg.LN_SYNC_STAT.CANDS n, Reg.LN_SYNC_STAT.MISS_RUN n, defFld n dAmbig,
    defFld n dLOF, stickyFld n dLOF]
  others : ∀ k, k ≠ n → e.line k = d0.line k
  rest : e.offLines = d0.offLines

theorem Dev.toHunt_inHunt (d : Dev) (n : Nat) : d.InHunt n (d.toHunt n) := by
  obtain ⟨e, he, hat⟩ := d.toHunt_at n
  obtain ⟨-, -, k3, -⟩ := hunt_keys n
  have hraise := e.defRaise_same (n := n) (k := dLOF) (by decide)
  obtain ⟨-, hvals⟩ := List.forall_mem_cons.1 hat.regs.1
  obtain ⟨hmiss, hvals⟩ := List.forall_mem_cons.1 hvals
  obtain ⟨hstate, hvals⟩ := List.forall_mem_cons.1 hvals
  obtain ⟨hcands, -⟩ := List.forall_mem_cons.1 hvals
  have hk {f : Fld} (hf : f ∈ [Reg.LN_SYNC_STAT.MISS_RUN n, Reg.LN_SYNC_STAT.STATE n, Reg.LN_SYNC_STAT.CANDS n, Reg.LN_EVT.SYNC_LOSS n]) :
      f.key ∉ [defFld n dLOF, stickyFld n dLOF].map Fld.key := by
    have := k3 dLOF (by decide) f hf
    simpa using ⟨this.1.symm, this.2.symm⟩
  rw [he]
  have hline : ∃ v, (e.defRaise n dLOF).line n = { (d.line n).hunting with seen := v } := by
    rw [Dev.defRaise_line, hat.line]
    split
    · exact ⟨_, rfl⟩
    · exact ⟨_, rfl⟩
  obtain ⟨v, hline⟩ := hline
  refine ⟨(hraise.fld_eq (hk (by simp))).trans hstate, (hraise.fld_eq (hk (by simp))).trans hcands,
    (hraise.fld_eq (hk (by simp))).trans hmiss, by rw [hline]; rfl, by rw [hline]; rfl, by rw [hline]; rfl,
    e.defRaise_defect (by decide), Dev.SameRegs.trans hat.regs.2 hraise ?_,
    fun k hk => (e.defRaise_line_ne hk _).trans (hat.others k hk), (e.offLines_defRaise n _).trans hat.rest⟩
  intro f hf
  simp only [huntFlds, List.map_cons, List.map_nil, List.mem_append, List.mem_cons, List.not_mem_nil, or_false] at hf ⊢
  tauto

/-- A channel whose misses reach LOSS_M (R57). -/
theorem Dev.loss_spec (d : Dev) (n errs : Nat) :
    let e := ((d.judged n errs).toHunt n).ev (Reg.LN_EVT.SYNC_LOSS n)
    e.framer n = 0 ∧ e.fld (Reg.LN_SYNC_STAT.MISS_RUN n) = 0 ∧
    (e.line n).reasm = [] ∧ (e.line n).cands = [] ∧ (e.line n).delin = false ∧ e.defect n dLOF = true ∧
    e.fld (Reg.LN_EVT.SYNC_LOSS n) = 1 ∧
    d.SameRegs e [Reg.LN_SYNC_STAT.STATE n, Reg.LN_SYNC_STAT.CANDS n, Reg.LN_SYNC_STAT.MISS_RUN n, defFld n dAmbig,
      defFld n dLOF, stickyFld n dLOF, Reg.LN_EVT.SYNC_LOSS n] ∧
    (∀ k, k ≠ n → e.line k = d.line k) ∧ { e with regs := d.regs, lines := d.lines } = d := by
  intro e
  have hj := d.judged_at n errs
  have h := (d.judged n errs).toHunt_inHunt n
  obtain ⟨-, -, k3, k4⟩ := hunt_keys n
  have hev := ((d.judged n errs).toHunt n).ev_sets (Reg.LN_EVT.SYNC_LOSS n) Nat.one_lt_two
  have hkeep {f : Fld} (hf : f.key ≠ (Reg.LN_EVT.SYNC_LOSS n).key) : e.fld f = ((d.judged n errs).toHunt n).fld f :=
    hev.1.fld_eq (by simpa using hf)
  have hline (k : Nat) : e.line k = ((d.judged n errs).toHunt n).line k := Dev.line_put ..
  refine ⟨(hkeep (k4 _ (by simp)).symm).trans h.framer, (hkeep (k4 _ (by simp)).symm).trans h.run, ?_, ?_, ?_, ?_,
    hev.1.1 (Reg.LN_EVT.SYNC_LOSS n, 1) (List.mem_singleton_self _), ?_, fun k hk => (hline k).trans ((h.others k hk).trans (hj.others k hk)), ?_⟩
  · rw [hline, h.reasm]
  · rw [hline, h.cands]
  · rw [hline, h.delin]
  · rw [Dev.defect, Dev.on, hkeep (k3 dLOF (by decide) _ (by simp)).1]
    exact h.lof
  · refine Dev.SameRegs.trans (Dev.SameRegs.trans hj.regs.2 h.same
      (ks := [Reg.LN_SYNC_STAT.STATE n, Reg.LN_SYNC_STAT.CANDS n, Reg.LN_SYNC_STAT.MISS_RUN n, defFld n dAmbig, defFld n dLOF,
        stickyFld n dLOF]) fun f hf => ?_) hev.1.2 fun f hf => ?_
    · simp only [List.map_cons, List.map_nil, List.mem_append, List.mem_cons, List.not_mem_nil, or_false] at hf ⊢
      tauto
    · simp only [List.map_cons, List.map_nil, List.mem_append, List.mem_cons, List.not_mem_nil, or_false] at hf ⊢
      tauto
  · exact Dev.rest_of_offLines ((Dev.offLines_put ..).trans (h.rest.trans hj.rest))

/-- A channel whose frame in SYNC was taken: its pattern judged, its count adopted, its reassemblies looked at. -/
def Line.inFrame (x : Line) (miss pass : Bool) (exp rx : Nat) : Line := ((if miss then x.count 4 1 else x).adopted pass exp rx).reframed

theorem Line.adopted_run (x : Line) (pass : Bool) (exp rx j : Nat) : Tbl.get (x.adopted pass exp rx).run j 0 =
    if (j = 6 ∧ pass = false) ∨ (j = 7 ∧ pass = true ∧ rx ≠ exp) then min (2 ^ 48 - 1) (Tbl.get x.run j 0 + 1)
    else Tbl.get x.run j 0 := by
  unfold Line.adopted
  split
  · next h => rw [Line.count_get]; split <;> simp_all
  · next h =>
    split
    · next he => simp [he, h]
    · next he =>
      have hcount : Tbl.get (x.count 7 1).run j 0 = if (j = 6 ∧ pass = false) ∨ (j = 7 ∧ pass = true ∧ rx ≠ exp) then
          min (2 ^ 48 - 1) (Tbl.get x.run j 0 + 1) else Tbl.get x.run j 0 := by
        rw [Line.count_get]
        split <;> simp_all
      split
      · exact hcount
      · exact hcount

/-- What a frame adds to the counters. -/
def Line.frameUp (x : Line) (miss pass : Bool) (exp rx k : Nat) : Nat :=
  (if k = 4 ∧ miss then 1 else 0) + (if k = 6 ∧ pass = false then 1 else 0) +
    (if k = 7 ∧ pass = true ∧ rx ≠ exp then 1 else 0) + (if k = 16 then (x.reasm.filter (fun r => !r.touched)).length else 0)

theorem Line.adopted_reasm (x : Line) (pass : Bool) (exp rx : Nat) : (x.adopted pass exp rx).reasm = x.reasm := by
  unfold Line.adopted
  split_ifs <;> rfl

theorem Line.inFrame_run (x : Line) (miss pass : Bool) (exp rx k : Nat) :
    (k ≠ 16 → x.frameUp miss pass exp rx k = 0 → Tbl.get (x.inFrame miss pass exp rx).run k 0 = Tbl.get x.run k 0) ∧
    (k = 16 ∨ x.frameUp miss pass exp rx k ≠ 0 →
      Tbl.get (x.inFrame miss pass exp rx).run k 0 = min (2 ^ 48 - 1) (Tbl.get x.run k 0 + x.frameUp miss pass exp rx k)) := by
  have hmiss : Tbl.get (if miss then x.count 4 1 else x).run k 0 =
      if k = 4 ∧ miss = true then min (2 ^ 48 - 1) (Tbl.get x.run k 0 + 1) else Tbl.get x.run k 0 := by
    cases miss
    · simp
    · simp only [if_true, Line.count_get, and_true]
      split <;> simp_all
  have hreasm : ((if miss then x.count 4 1 else x).adopted pass exp rx).reasm = x.reasm := by
    rw [Line.adopted_reasm]
    split <;> rfl
  have hrun : Tbl.get (x.inFrame miss pass exp rx).run k 0 = if k = 16 then
      min (2 ^ 48 - 1) (Tbl.get ((if miss then x.count 4 1 else x).adopted pass exp rx).run 16 0 +
        (x.reasm.filter (fun r => !r.touched)).length)
      else Tbl.get ((if miss then x.count 4 1 else x).adopted pass exp rx).run k 0 := by
    rw [Line.inFrame, Line.reframed, Line.count_get, hreasm]
  by_cases h16 : k = 16
  · subst h16
    simp [Line.frameUp, hrun, Line.adopted_run, hmiss]
  · rw [hrun, if_neg h16, Line.adopted_run, hmiss, Line.frameUp]
    by_cases h4 : k = 4
    · subst h4
      cases miss <;> simp
    by_cases h6 : k = 6
    · subst h6
      cases pass <;> simp
    by_cases h7 : k = 7
    · subst h7
      cases pass <;> by_cases he : rx = exp <;> simp [he]
    simp [h4, h6, h7, h16]

/-- What a frame leaves of a channel but for its counters. -/
theorem Line.inFrame_rest (x : Line) (miss pass : Bool) (exp rx : Nat) :
    { x.inFrame miss pass exp rx with run := [] } =
      { x with run := [], odd := if pass = true ∧ rx ≠ exp ∧ x.jumps rx = false then some rx else none, delin := false
               reasm := (x.reasm.filter (·.touched)).map (fun r => { r with touched := false }) } := by
  have hjumps : (if miss then x.count 4 1 else x).jumps rx = x.jumps rx := by cases miss <;> rfl
  unfold Line.inFrame Line.adopted
  rw [hjumps]
  split_ifs with h1 h2 h3 h4 <;> simp_all [Line.reframed, Line.count]

/-- The fields that a frame in SYNC sets. -/
def frameFlds (n m c : Nat) (jump : Bool) : List (Fld × Nat) :=
  [(Reg.LN_SYNC_STAT.MISS_RUN n, m % 256), (Reg.LN_SFC_LO.SFC n, c % 2 ^ 32), (Reg.LN_SFC_HI.SFC n, c / 2 ^ 32)] ++
    if jump then [(Reg.LN_EVT.SFC_JUMP n, 1)] else []

theorem mem_reversed_append {α : Type} (x a b c : α) (l : List α) : x ∈ l ++ [c, b, a] ↔ x ∈ [a, b, c] ++ l := by
  simp only [List.mem_append, List.mem_cons, List.not_mem_nil, or_false]
  tauto

theorem frame_keys (n : Nat) : (Reg.LN_SFC_LO.SFC n).key ≠ (Reg.LN_SYNC_STAT.MISS_RUN n).key ∧
    (Reg.LN_SFC_HI.SFC n).key ≠ (Reg.LN_SYNC_STAT.MISS_RUN n).key ∧
    (Reg.LN_SYNC_CTRL.HEC_ACCEPT n).key ≠ (Reg.LN_SYNC_STAT.MISS_RUN n).key := by
  simp only [Fld.key, Reg.LN_SFC_LO.SFC, Reg.LN_SFC_HI.SFC, Reg.LN_SYNC_STAT.MISS_RUN, Reg.LN_SYNC_CTRL.HEC_ACCEPT]
  omega

theorem Dev.frame_at (d : Dev) (n errs : Nat) (hec : Hec) (sfc : Nat) :
    let exp := (d.sfc n + 1) % 2 ^ 51
    let rx := sfc % 2 ^ 51
    let jump := d.sfcPass n hec && decide (rx ≠ exp) && (d.line n).jumps rx
    d.LineAt n (((d.judged n errs).adopt n hec sfc).reasmFrame n)
      ((d.line n).inFrame (decide (d.fld (Reg.LN_SYNC_CTRL.SYNC_TOL n) < errs)) (d.sfcPass n hec) exp rx)
      (frameFlds n (d.missRun n errs) (if jump then rx else exp) jump) := by
  intro exp rx jump
  have hj := d.judged_at n errs
  obtain ⟨k1, k2, k3⟩ := frame_keys n
  have hsfc : (d.judged n errs).sfc n = d.sfc n := by
    rw [Dev.sfc, Dev.wide, hj.fld_eq (by simpa using k1), hj.fld_eq (by simpa using k2)]
    rfl
  have hpass : (d.judged n errs).sfcPass n hec = d.sfcPass n hec := by
    cases hec
    · rfl
    · rw [Dev.sfcPass, Dev.on, hj.fld_eq (by simpa using k3)]
      rfl
    · rfl
  have hadopt := hj.adopt hec sfc
  dsimp only at hadopt
  rw [hsfc, hpass] at hadopt
  have hmiss : (if d.fld (Reg.LN_SYNC_CTRL.SYNC_TOL n) < errs then (d.line n).count 4 1 else d.line n) =
      if decide (d.fld (Reg.LN_SYNC_CTRL.SYNC_TOL n) < errs) = true then (d.line n).count 4 1 else d.line n := by
    simp only [decide_eq_true_eq]
  have hjumps : (if d.fld (Reg.LN_SYNC_CTRL.SYNC_TOL n) < errs then (d.line n).count 4 1 else d.line n).jumps rx = (d.line n).jumps rx := by
    split <;> rfl
  rw [hjumps] at hadopt
  have hset (l : List (Fld × Nat)) (h : d.LineAt n ((d.judged n errs).adopt n hec sfc)
      ((if d.fld (Reg.LN_SYNC_CTRL.SYNC_TOL n) < errs then (d.line n).count 4 1 else d.line n).adopted (d.sfcPass n hec) exp rx) l)
      (hl : ∀ x, x ∈ l ↔ x ∈ frameFlds n (d.missRun n errs) (if jump then rx else exp) jump) :
      d.LineAt n (((d.judged n errs).adopt n hec sfc).reasmFrame n)
      ((d.line n).inFrame (decide (d.fld (Reg.LN_SYNC_CTRL.SYNC_TOL n) < errs)) (d.sfcPass n hec) exp rx)
      (frameFlds n (d.missRun n errs) (if jump then rx else exp) jump) := by
    have hr := h.reasmFrame
    rw [hmiss] at hr
    exact ⟨hr.line, hr.others, hr.regs.of_mem_iff fun x => (hl x).symm, hr.rest⟩
  have hiff : jump = true ↔ d.sfcPass n hec = true ∧ rx ≠ exp ∧ (d.line n).jumps rx = true := by
    simp only [jump, Bool.and_eq_true, decide_eq_true_eq, and_assoc]
  by_cases hjump : jump = true
  · refine hset _ (hadopt.1 (hiff.1 hjump)) fun x => ?_
    rw [hjump, frameFlds, if_pos rfl, if_pos rfl]
    exact mem_reversed_append x _ _ _ [_]
  · refine hset _ (hadopt.2 fun h => hjump (hiff.2 h)) fun x => ?_
    rw [frameFlds, if_neg hjump, if_neg hjump]
    exact mem_reversed_append x _ _ _ []

/-! ### A restart of the hunt by its register -/

/-- A field of a word with bits added. -/
theorem bits_or (v w : Word) (lo n : Nat) : bits (v ||| w).toNat lo n = bits v.toNat lo n ||| bits w.toNat lo n := by
  simp only [bits, BitVec.toNat_or, ← Nat.shiftRight_eq_div_pow, Nat.shiftRight_or_distrib, Nat.or_mod_two_pow]

/-- The register LN.SYNC_CTRL. -/
def syncCtrlReg : RegD := ⟨0x100020, [(4, 0x40000)], [⟨0, 3, .rw, 2⟩, ⟨3, 3, .rw, 4⟩, ⟨6, 1, .rw, 1⟩, ⟨7, 3, .rw, 1⟩, ⟨10, 3, .rw, 2⟩, ⟨13, 1, .wo, 0⟩]⟩

theorem find_syncCtrl : ∀ n < 4, Reg.find (Reg.LN_SYNC_CTRL.ADR n) = some syncCtrlReg := by decide

/-- Fields of the framer's settings are none that a restart of the hunt sets. -/
theorem syncCtrl_keys {n : Nat} {f : FldD} (hf : f ∈ syncCtrlReg.fields) :
    (fldOf (Reg.LN_SYNC_CTRL.ADR n) f).key ∉ [Reg.LN_SYNC_STAT.STATE n, Reg.LN_SYNC_STAT.CANDS n, Reg.LN_SYNC_STAT.MISS_RUN n,
      defFld n dAmbig, defFld n dLOF, stickyFld n dLOF].map Fld.key := by
  have hlo : f.lo < 32 := by
    revert f
    decide
  simp only [List.map_cons, List.map_nil, List.mem_cons, List.not_mem_nil, or_false, fldOf, Fld.key, Reg.LN_SYNC_CTRL.ADR,
    Reg.LN_SYNC_STAT.STATE, Reg.LN_SYNC_STAT.CANDS, Reg.LN_SYNC_STAT.MISS_RUN, defFld, stickyFld, Reg.LN_DEF_STAT.ADR,
    Reg.LN_DEF_STICKY.ADR, dAmbig, dLOF]
  omega

theorem Dev.plainWrite_other {a : Nat} {r : RegD} (h : Reg.find a = some r) (d : Dev) (v : Nat) {k : Nat} (hk : k / 32 ≠ a) :
    Tbl.get (d.plainWrite a v).regs k (Reg.rst k) = Tbl.get d.regs k (Reg.rst k) := by
  refine (d.plainWrite_sets h v).1.2 k fun hm => ?_
  simp only [List.map_map, List.mem_map, Function.comp, fldOf, Fld.key] at hm
  obtain ⟨f, hf, rfl⟩ := hm
  have := (Reg.find_apart h).2 f hf
  omega

/-! ### Codewords in SYNC (R60) -/

theorem Dev.codeword_of_not {d : Dev} {n : Nat} (h : d.rxOn n = false ∨ d.framer n ≠ 2) (corr : Option Nat) : d.codeword n corr = d := by
  rw [Dev.codeword]
  exact if_pos (by simpa using h)

theorem Dev.codeword_bad {d : Dev} {n : Nat} (hrx : d.rxOn n = true) (hfr : d.framer n = 2) :
    d.codeword n none =
      let e := ((d.lineCnt n 0 1).setLine n { (d.line n).count 0 1 with ucwRun := (d.line n).ucwRun + 1, goodRun := 0 }).lineCnt n 2 1
      if max 1 (d.fld (Reg.LN_SD_CTRL.UCW_N n)) ≤ (d.line n).ucwRun + 1 then e.defRaise n dUCW else e := by
  have hline : (d.lineCnt n 0 1).line n = (d.line n).count 0 1 := Dev.line_setLine ..
  rw [Dev.codeword]
  refine (if_neg (by simp [hrx, hfr])).trans ?_
  simp only [hline, Dev.iff, decide_eq_true_eq]
  rfl

theorem Dev.codeword_good {d : Dev} {n : Nat} (hrx : d.rxOn n = true) (hfr : d.framer n = 2) (c : Nat) :
    d.codeword n (some c) =
      let e := (d.lineCnt n 0 1).setLine n { (d.line n).count 0 1 with ucwRun := 0, goodRun := (d.line n).goodRun + 1 }
      let e' := if c = 0 then e else (e.lineCnt n 1 1).lineCnt n 3 c
      if max 1 (d.fld (Reg.LN_SD_CTRL.UCW_CLR n)) ≤ (d.line n).goodRun + 1 then e'.defClear n dUCW else e' := by
  have hline : (d.lineCnt n 0 1).line n = (d.line n).count 0 1 := Dev.line_setLine ..
  rw [Dev.codeword]
  refine (if_neg (by simp [hrx, hfr])).trans ?_
  by_cases h : c = 0
  · subst h
    simp only [hline, Dev.iff, decide_eq_true_eq]
    rfl
  · have hc : (c != 0) = true := by simpa using h
    simp only [hline, Dev.iff, decide_eq_true_eq, hc, if_true, h, if_false]
    rfl

/-- The counters of a channel after a codeword that was not correctable. -/
theorem Dev.defRaise_run (d : Dev) (n k : Nat) : ((d.defRaise n k).line n).run = (d.line n).run := by
  rw [Dev.defRaise_line]
  split <;> rfl

theorem Dev.defClear_lineAt (d : Dev) (n k : Nat) : (d.defClear n k).line n = d.line n := d.line_put (defFld n k) 0 n

theorem Dev.psyncAt_of_not {d : Dev} {n : Nat} (h : d.rxOn n = false ∨ d.framer n ≠ 2) (errs : Nat) (hec : Hec) (sfc : Nat)
    (ponid : Option Nat) : d.psyncAt n errs hec sfc ponid = d.lineMoved n := by
  rw [Dev.psyncAt, Dev.framePsync_of_not h]
  rw [if_neg (by rcases h with h | h <;> simp [h])]

theorem Dev.loss_framer (d : Dev) (n errs : Nat) : (((d.judged n errs).toHunt n).ev (Reg.LN_EVT.SYNC_LOSS n)).framer n = 0 :=
  (d.loss_spec n errs).1

/-- A frame that loses SYNC leaves the framer in HUNT and nothing more to do. -/
theorem Dev.psyncAt_of_loss {d : Dev} {n : Nat} (hrx : d.rxOn n = true) (hfr : d.framer n = 2) (errs : Nat) (hec : Hec) (sfc : Nat)
    (ponid : Option Nat) (hm : d.lossM n ≤ d.missRun n errs) :
    d.psyncAt n errs hec sfc ponid = (((d.judged n errs).toHunt n).ev (Reg.LN_EVT.SYNC_LOSS n)).lineMoved n := by
  rw [Dev.psyncAt, Dev.framePsync_of_sync hrx hfr, if_pos hm]
  rw [if_neg (by rw [d.loss_framer]; simp)]

theorem frame_state_key (n m c : Nat) (jump : Bool) :
    (Reg.LN_SYNC_STAT.STATE n).key ∉ (frameFlds n m c jump).map (fun e => e.1.key) := by
  cases jump <;>
  · simp only [frameFlds, Bool.false_eq_true, if_false, if_true, List.append_nil, List.cons_append, List.nil_append, List.map_cons, List.map_nil,
      List.mem_cons, List.not_mem_nil, or_false, Fld.key, Reg.LN_SYNC_STAT.STATE, Reg.LN_SYNC_STAT.MISS_RUN, Reg.LN_SFC_LO.SFC,
      Reg.LN_SFC_HI.SFC, Reg.LN_EVT.SFC_JUMP]
    omega

theorem Dev.psyncAt_of_sync {d : Dev} {n : Nat} (hrx : d.rxOn n = true) (hfr : d.framer n = 2) (errs : Nat) (hec : Hec) (sfc : Nat)
    (ponid : Option Nat) (hm : d.missRun n errs < d.lossM n) :
    d.psyncAt n errs hec sfc ponid =
      let e := ((d.judged n errs).adopt n hec sfc).reasmFrame n
      ((((ponid.map (e.ponidRx n)).getD e).actFrame n).phaseMeasure n).lineMoved n := by
  have hat := d.frame_at n errs hec sfc
  have hstate : (((d.judged n errs).adopt n hec sfc).reasmFrame n).framer n = 2 :=
    (hat.fld_eq (f := Reg.LN_SYNC_STAT.STATE n) (frame_state_key n _ _ _)).trans hfr
  have hpon : ((ponid.map ((((d.judged n errs).adopt n hec sfc).reasmFrame n).ponidRx n)).getD
      (((d.judged n errs).adopt n hec sfc).reasmFrame n)).framer n = 2 := by
    cases ponid with
    | none => exact hstate
    | some v => exact (Dev.ponidRx_spec _ n v).2.1.trans hstate
  rw [Dev.psyncAt, Dev.framePsync_of_sync hrx hfr, if_neg (Nat.not_le.2 hm)]
  dsimp only
  rw [if_pos (by rw [hrx, hpon]; rfl)]

theorem Line.jumps_iff (x : Line) (rx : Nat) : x.jumps rx = true ↔ x.odd.map (fun p => (p + 1) % 2 ^ 51) = some rx := by
  unfold Line.jumps
  cases x.odd with
  | none => simp
  | some p => rw [beq_iff_eq, Option.map_some, Option.some.injEq]; rfl

theorem Dev.codeword_bad_spec {d : Dev} {n : Nat} (hrx : d.rxOn n = true) (hfr : d.framer n = 2) :
    let e := d.codeword n none
    (e.line n).run = (((d.line n).count 0 1).count 2 1).run ∧
    (max 1 (d.fld (Reg.LN_SD_CTRL.UCW_N n)) ≤ (d.line n).ucwRun + 1 → e.defect n dUCW = true) ∧
    ((d.line n).ucwRun + 1 < max 1 (d.fld (Reg.LN_SD_CTRL.UCW_N n)) → e.regs = d.regs) := by
  have hline := ((((Dev.LineAt.refl d n).lineCnt 0 1).setLine { (d.line n).count 0 1 with ucwRun := (d.line n).ucwRun + 1, goodRun := 0 }).lineCnt
    2 1).line
  dsimp only at hline ⊢
  rw [Dev.codeword_bad hrx hfr]
  dsimp only
  split
  · next h => exact ⟨(Dev.defRaise_run ..).trans ((congrArg Line.run hline).trans rfl), fun _ => Dev.defRaise_defect _ (by decide), fun h' => by omega⟩
  · next h => exact ⟨(congrArg Line.run hline).trans rfl, fun h' => absurd h' h, fun _ => rfl⟩

theorem Dev.codeword_good_spec {d : Dev} {n : Nat} (hrx : d.rxOn n = true) (hfr : d.framer n = 2) (c : Nat) :
    let e := d.codeword n (some c)
    (e.line n).run = (if c = 0 then (d.line n).count 0 1 else (((d.line n).count 0 1).count 1 1).count 3 c).run ∧
    (e.line n).ucwRun = 0 ∧
    (max 1 (d.fld (Reg.LN_SD_CTRL.UCW_CLR n)) ≤ (d.line n).goodRun + 1 → e.defect n dUCW = false) ∧
    ((d.line n).goodRun + 1 < max 1 (d.fld (Reg.LN_SD_CTRL.UCW_CLR n)) → e.regs = d.regs) := by
  have hset := ((Dev.LineAt.refl d n).lineCnt 0 1).setLine { (d.line n).count 0 1 with ucwRun := 0, goodRun := (d.line n).goodRun + 1 }
  have hcnt : ∃ y l, d.LineAt n (if c = 0
      then (d.lineCnt n 0 1).setLine n { (d.line n).count 0 1 with ucwRun := 0, goodRun := (d.line n).goodRun + 1 }
      else (((d.lineCnt n 0 1).setLine n { (d.line n).count 0 1 with ucwRun := 0, goodRun := (d.line n).goodRun + 1 }).lineCnt n 1 1).lineCnt
        n 3 c) y l ∧
      y.run = (if c = 0 then (d.line n).count 0 1 else (((d.line n).count 0 1).count 1 1).count 3 c).run ∧ y.ucwRun = 0 := by
    split
    · exact ⟨_, _, hset, rfl, rfl⟩
    · exact ⟨_, _, (hset.lineCnt 1 1).lineCnt 3 c, rfl, rfl⟩
  have hregs : (if c = 0
      then (d.lineCnt n 0 1).setLine n { (d.line n).count 0 1 with ucwRun := 0, goodRun := (d.line n).goodRun + 1 }
      else (((d.lineCnt n 0 1).setLine n { (d.line n).count 0 1 with ucwRun := 0, goodRun := (d.line n).goodRun + 1 }).lineCnt n 1 1).lineCnt
        n 3 c).regs = d.regs := by split <;> rfl
  obtain ⟨y, l, hat, hrun, hucw⟩ := hcnt
  dsimp only
  rw [Dev.codeword_good hrx hfr]
  dsimp only
  split
  · next h =>
    rw [Dev.defClear_lineAt, hat.line]
    exact ⟨hrun, hucw, fun _ => Dev.defClear_defect .., fun h' => by omega⟩
  · next h =>
    rw [hat.line]
    exact ⟨hrun, hucw, fun h' => absurd h' h, fun _ => hregs⟩

/-- Settles O23: a frame in SYNC goes by its pattern, count and PON-ID; the restart of the hunt and the codewords set what R57 to
R60 say. -/
theorem framerAndCodewords : Obligations.FramerAndCodewords := by
  unfold Obligations.FramerAndCodewords
  refine ⟨⟨fun s dt n errs sfc hec ponid hup => ?_, fun d n v => ?_⟩, fun s m n v hup hhere => ?_, fun s n corr hup => ?_⟩
  · intro d0 x i miss m exp rx odd jump c old up
    have hrun := Does.of_main (exec_framePsync s dt n errs hec sfc ponid) hup
    refine ⟨fun h => (congrArg (Does i s) (d0.psyncAt_of_not h errs hec sfc ponid)).mp hrun, fun hrx hfr hm => ?_, fun hrx hfr hm => ?_⟩
    · have hat := d0.frame_at n errs hec sfc
      have hjump : (d0.sfcPass n hec && decide (rx ≠ exp) && x.jumps rx) = true ↔ jump := by
        rw [Bool.and_eq_true, Bool.and_eq_true, decide_eq_true_eq, Line.jumps_iff]
      have hc : (if (d0.sfcPass n hec && decide (rx ≠ exp) && x.jumps rx) = true then rx else exp) = c := if_congr hjump rfl rfl
      have hflds : frameFlds n m c (d0.sfcPass n hec && decide (rx ≠ exp) && x.jumps rx) =
          [(Reg.LN_SYNC_STAT.MISS_RUN n, m % 256), (Reg.LN_SFC_LO.SFC n, c % 2 ^ 32), (Reg.LN_SFC_HI.SFC n, c / 2 ^ 32)] ++
            if jump then [(Reg.LN_EVT.SFC_JUMP n, 1)] else [] := congrArg (_ ++ ·) (if_congr hjump rfl rfl)
      have hup' (k : Nat) : x.frameUp (decide miss) (d0.sfcPass n hec) exp rx k = up k := by
        simp only [Line.frameUp, up, odd, old, decide_eq_true_eq]
      have hline : (((d0.judged n errs).adopt n hec sfc).reasmFrame n).line n = x.inFrame (decide miss) (d0.sfcPass n hec) exp rx := hat.line
      refine ⟨((d0.judged n errs).adopt n hec sfc).reasmFrame n,
        (congrArg (Does i s) (d0.psyncAt_of_sync hrx hfr errs hec sfc ponid hm)).mp hrun, ?_, fun k hk h0 => ?_, fun k hk => ?_, ?_,
        hat.others, hat.frame⟩
      · rw [← hflds, ← hc]
        exact hat.regs
      · rw [hline]
        exact (x.inFrame_run _ _ exp rx k).1 hk ((hup' k).trans h0)
      · rw [hline, ← hup' k]
        exact (x.inFrame_run _ _ exp rx k).2 (hk.imp_right fun h => (hup' k).trans_ne h)
      · have hodd : (if d0.sfcPass n hec = true ∧ rx ≠ exp ∧ x.jumps rx = false then some rx else none) =
            if odd ∧ ¬ jump then some rx else none := by
          refine if_congr ?_ rfl rfl
          have hno : x.jumps rx = false ↔ ¬ x.odd.map (fun p => (p + 1) % 2 ^ 51) = some rx := by rw [← Line.jumps_iff]; simp
          rw [hno]
          constructor
          · exact fun ⟨h1, h2, h3⟩ => ⟨⟨h1, h2⟩, fun hj => h3 hj.2⟩
          · exact fun ⟨⟨h1, h2⟩, h3⟩ => ⟨h1, h2, fun hj => h3 ⟨⟨h1, h2⟩, hj⟩⟩
        rw [hline, Line.inFrame_rest, hodd]
    · exact ⟨_, (congrArg (Does i s) (d0.psyncAt_of_loss hrx hfr errs hec sfc ponid hm)).mp hrun, d0.loss_spec n errs⟩
  · intro x e w mask same cmp
    have hspec := d.ponidRx_spec n v
    refine ⟨hspec.1, fun hoff => ?_, fun hon ha => ?_, fun hon ha => ?_, hspec.2.2⟩
    · have hd : e = d.ponidShown n v := Dev.ponidRx_off hoff v
      rw [hd]
      exact ⟨(d.ponidShown_at n v).line, d.ponidShown_defect n v⟩
    · have hd := Dev.ponidRx_agrees hon (show d.ponidAgrees n v from ha)
      have hline : e.line n = { x with ponMis := 0, ponOk := x.ponOk + 1 } := by
        rw [show e = _ from hd]
        dsimp only
        split
        · rw [Dev.defClear_lineAt, Dev.line_setLine]
        · rw [Dev.line_setLine]
      rw [hline]
      refine ⟨rfl, rfl, ?_⟩
      rw [show e = _ from hd]
      dsimp only
      split
      · next h => rw [Dev.defClear_defect, decide_eq_false (Nat.not_lt.2 h), Bool.and_false]
      · next h => rw [Dev.setLine_defect, d.ponidShown_defect, decide_eq_true (Nat.not_le.1 h), Bool.and_true]
    · have hd := Dev.ponidRx_differs hon (show ¬ d.ponidAgrees n v from ha)
      have hcnt : (((d.ponidShown n v).setLine n { x with ponMis := x.ponMis + 1, ponOk := 0 }).lineCnt n 17 1).line n =
          Line.count { x with ponMis := x.ponMis + 1, ponOk := 0 } 17 1 := (((d.ponidShown_at n v).setLine _).lineCnt 17 1).line
      have hline : ∃ z, e.line n = { Line.count { x with ponMis := x.ponMis + 1, ponOk := 0 } 17 1 with seen := z } := by
        rw [show e = _ from hd]
        dsimp only
        split
        · rw [Dev.defRaise_line, hcnt]
          split
          · exact ⟨_, rfl⟩
          · exact ⟨_, rfl⟩
        · rw [hcnt]
          exact ⟨_, rfl⟩
      obtain ⟨z, hline⟩ := hline
      rw [hline]
      refine ⟨rfl, rfl, (Line.count_get ..).trans (if_pos rfl), ?_⟩
      rw [show e = _ from hd]
      dsimp only
      split
      · next h => rw [Dev.defRaise_defect _ (by decide), decide_eq_true h, Bool.or_true]
      · next h =>
        rw [Dev.lineCnt, Dev.setLine_defect, Dev.setLine_defect, d.ponidShown_defect, decide_eq_false h, Bool.or_false]
  · have hfind := find_syncCtrl n n.isLt
    have hbit : bitOf (v ||| 0x2000#32).toNat 13 = true := (bitOf_or ..).trans (Bool.or_true _)
    have hpoke : s.dev.poke m (Reg.LN_SYNC_CTRL.ADR n) (v ||| 0x2000#32) =
        ((s.dev.plainWrite (Reg.LN_SYNC_CTRL.ADR n) (v ||| 0x2000#32).toNat).toHunt n).lineMoved n := by
      rw [Dev.poke_LN_SYNC_CTRL _ _ _ _ hhere, Dev.iff, hbit, if_pos rfl]
    have h := (s.dev.plainWrite (Reg.LN_SYNC_CTRL.ADR n) (v ||| 0x2000#32).toNat).toHunt_inHunt n
    have hrest := Dev.plainWrite_rest hfind s.dev (v ||| 0x2000#32).toNat
    have hfld {f : FldD} (hf : f ∈ syncCtrlReg.fields) (hrw : f.acc = .rw)
        (h0 : bits (0x2000#32).toNat f.lo f.w = 0) :
        ((s.dev.plainWrite (Reg.LN_SYNC_CTRL.ADR n) (v ||| 0x2000#32).toNat).toHunt n).fld (fldOf (Reg.LN_SYNC_CTRL.ADR n) f) =
          bits v.toNat f.lo f.w := by
      rw [h.same.fld_eq (syncCtrl_keys hf), Dev.plainWrite_rw hfind _ _ hf hrw, fieldBits, bits_or, h0, Nat.or_zero]
    refine ⟨_, .of_main_eq (exec_huntRestart s m n v) hup hpoke, h.framer, h.shown, h.cands, h.reasm, h.delin, h.lof,
      hfld (f := ⟨0, 3, .rw, 2⟩) (by decide) rfl rfl, hfld (f := ⟨3, 3, .rw, 4⟩) (by decide) rfl rfl,
      hfld (f := ⟨6, 1, .rw, 1⟩) (by decide) rfl rfl, hfld (f := ⟨7, 3, .rw, 1⟩) (by decide) rfl rfl,
      hfld (f := ⟨10, 3, .rw, 2⟩) (by decide) rfl rfl,
      fun k hk hkeys => (h.same k hkeys).trans (Dev.plainWrite_other hfind _ _ hk), ?_⟩
    have hoff := congrArg Dev.offLines hrest
    exact Dev.rest_of_offLines (h.rest.trans hoff)
  · intro x y up
    have hrun := Does.of_main (exec_codewordDecision s n corr) hup
    refine ⟨.of_main_eq (exec_fsHeaderReceived ..) hup ?_, fun h => ?_, fun hrx hfr => ⟨fun hc => ?_, fun c hc => ?_⟩⟩
    · rw [Dev.fsStart]
      by_cases h : s.dev.rxOn n = true ∧ s.dev.framer n = 2
      · rw [if_pos h, if_pos (by simpa using h), if_pos (by simpa using h)]
      · rw [if_neg h, if_neg (by simpa using h)]
    · rw [Dev.codeword_of_not h] at hrun
      exact hrun
    · subst hc
      obtain ⟨hcnt, hraise, hstays⟩ := Dev.codeword_bad_spec hrx hfr
      refine ⟨_, hrun, ?_, ?_, ?_, ?_, hraise, hstays⟩ <;> simp only [y, up, hcnt, Line.count_get] <;> rfl
    · subst hc
      obtain ⟨hcnt, hucw, hclear, hstays⟩ := Dev.codeword_good_spec hrx hfr c
      refine ⟨_, hrun, ?_, ?_, fun hpos => ?_, fun h0 => ?_, hucw, hclear, hstays⟩
      · simp only [y, hcnt]
        split <;> simp only [up, Line.count_get] <;> rfl
      · simp only [y, hcnt]
        split <;> simp only [Line.count_get] <;> rfl
      · rw [if_neg (by omega)] at hcnt
        simp only [y, hcnt, up, Line.count_get]
        exact ⟨rfl, rfl⟩
      · rw [if_pos h0] at hcnt
        simp only [y, hcnt, Line.count_get]
        exact ⟨rfl, rfl⟩

end Sys2Proof.Machine
end

section
/-!
PROOFS. The equaliser of a line channel and the enabling of its receiver (R49 to R53).
-/
namespace Sys2Proof.Machine

variable {d e : Dev}

/-! ### A register of RW fields as puts -/

/-- What a write of a register of RW fields sets. -/
def rwFields (a v : Nat) (l : List FldD) : List (Fld × Nat) := (l.filter (·.acc == .rw)).map fun f => (fldOf a f, fieldBits v f)

theorem Dev.plainWrite_puts {a : Nat} {r : RegD} (h : Reg.find a = some r) (hl : r.fields.all (fun f => f.acc != .w1c && f.acc != .w1s))
    (d : Dev) (v : Nat) : d.plainWrite a v = d.puts (rwFields a v r.fields) := by
  rw [Dev.plainWrite, h]
  dsimp only
  clear h
  generalize r.fields = l at hl ⊢
  induction l generalizing d with
  | nil => rfl
  | cons f l ih =>
    obtain ⟨hf, hl⟩ := Bool.and_eq_true_iff.1 hl
    refine (ih _ hl).trans ?_
    rcases f with ⟨lo, w, acc, rst⟩
    cases acc
    case rw | ro | rc | wo => rfl
    all_goals simp at hf

theorem Dev.puts_append (d : Dev) (l l' : List (Fld × Nat)) : d.puts (l ++ l') = (d.puts l).puts l' := List.foldl_append ..

/-- What fields written one after the other leave of a register goes by what it held. -/
theorem Dev.puts_reg {k : Nat} (h : Tbl.get d.regs k (Reg.rst k) = Tbl.get e.regs k (Reg.rst k)) (l : List (Fld × Nat)) :
    Tbl.get (d.puts l).regs k (Reg.rst k) = Tbl.get (e.puts l).regs k (Reg.rst k) := by
  induction l generalizing d e with
  | nil => exact h
  | cons x l ih =>
    refine ih ?_
    rw [Dev.reg_put, Dev.reg_put, h]

theorem Dev.puts_rest (l : List (Fld × Nat)) (d : Dev) : { d.puts l with regs := d.regs } = d := by
  induction l generalizing d with
  | nil => rfl
  | cons x l ih => exact congrArg (fun e : Dev => { e with regs := d.regs }) (ih (d.put x.1 x.2))

/-! ### The coefficients -/

theorem coefFld_eq (n i : Nat) : coefFld n i = ⟨0x100100 + n * 0x40000 + (if i < 31 then i else i - 31 + 32) * 4, 0, 10⟩ := by
  unfold coefFld
  split
  · rfl
  · simp only [Reg.LN_DFE.COEF, Fld.mk.injEq, and_true]
    omega

theorem coef_nodup (n : Nat) : ((List.range 34).map fun i => (coefFld n i).key).Nodup := by
  refine List.Nodup.map_on (fun i hi j hj h => ?_) List.nodup_range
  rw [List.mem_range] at hi hj
  simp only [coefFld_eq, Fld.key] at h
  split at h <;> split at h <;> omega

theorem coefClamp_lt (i v : Nat) : coefClamp i v < 1024 := by
  unfold coefClamp
  split
  · exact Nat.mod_lt _ (by decide)
  · exact unsigned_lt ..

/-- The coefficients that adaptation arrives at. -/
def adaptedCoefs (n c k : Nat) : List (Fld × Nat) := (List.range k).map fun j => (coefFld n j, coefClamp j (Config.free (c + j) % 1024))

/-- Free values drawn. -/
def Dev.spent (d : Dev) (k : Nat) : Dev := { d with freeCtr := d.freeCtr + k }

theorem Dev.puts_spent (l : List (Fld × Nat)) (d : Dev) (k : Nat) : (d.puts l).spent k = (d.spent k).puts l := by
  induction l generalizing d with
  | nil => rfl
  | cons x l ih => exact ih (d.put x.1 x.2)

theorem Dev.adapted_upto (d : Dev) (n k : Nat) : d.each (List.range k) (fun d i => (d.put (coefFld n i) (coefClamp i (d.freeVal 10))).freed) =
    (d.spent k).puts (adaptedCoefs n d.freeCtr k) := by
  induction k with
  | zero => rfl
  | succ k ih =>
    have hctr : ((d.spent k).puts (adaptedCoefs n d.freeCtr k)).freeCtr = d.freeCtr + k :=
      congrArg Dev.freeCtr (Dev.puts_rest (adaptedCoefs n d.freeCtr k) (d.spent k))
    have hstep : d.each (List.range (k + 1)) (fun d i => (d.put (coefFld n i) (coefClamp i (d.freeVal 10))).freed) =
        ((d.spent k).puts (adaptedCoefs n d.freeCtr k) |>.put (coefFld n k)
          (coefClamp k (((d.spent k).puts (adaptedCoefs n d.freeCtr k)).freeVal 10))).freed := by
      rw [Dev.each, List.range_succ, List.foldl_append, ← ih]
      rfl
    rw [hstep, Dev.freeVal, hctr, adaptedCoefs, adaptedCoefs, List.range_succ, List.map_append, Dev.puts_append]
    exact congrArg (Dev.put · _ _) (Dev.puts_spent _ (d.spent k) 1)

theorem Dev.adaptNow_of_adapts {n : Nat} (h : d.adapts n = true) : d.adaptNow n = (d.spent 34).puts (adaptedCoefs n d.freeCtr 34) := by
  rw [Dev.adaptNow, if_pos h, Dev.adapted, Dev.adapted_upto]

theorem coefs_sets (n : Nat) (g : Nat → Nat) (hg : ∀ i, g i < 1024) (d : Dev) :
    d.Sets (d.puts ((List.range 34).map fun i => (coefFld n i, g i))) ((List.range 34).map fun i => (coefFld n i, g i)) := by
  refine Dev.puts_sets (by rw [List.map_map]; exact coef_nodup n) (fun x hx => ?_) d
  obtain ⟨j, -, rfl⟩ := List.mem_map.1 hx
  rw [coefFld_eq]
  exact hg j

theorem Dev.adaptNow_sets {n : Nat} (h : d.adapts n = true) :
    (d.spent 34).Sets (d.adaptNow n) ((List.range 34).map fun j => (coefFld n j, coefClamp j (Config.free (d.freeCtr + j) % 1024))) := by
  rw [Dev.adaptNow_of_adapts h]
  exact coefs_sets n _ (fun _ => coefClamp_lt ..) _

/-- What adaptation does to the registers, apart from the coefficients. -/
theorem coef_keys {n j : Nat} (hj : j < 34) {f : Fld} {o i w : Nat} (hf : f = ⟨o + n * 0x40000, i, w⟩) (hi : i < 32)
    (ho : o < 0x100100 ∨ 0x100190 ≤ o) : f.key ≠ (coefFld n j).key := by
  subst hf
  rw [coefFld_eq]
  simp only [Fld.key]
  split <;> omega

theorem Dev.adaptNow_fld {n : Nat} (d : Dev) {f : Fld} {o i w : Nat} (hf : f = ⟨o + n * 0x40000, i, w⟩) (hi : i < 32)
    (ho : o < 0x100100 ∨ 0x100190 ≤ o) : (d.adaptNow n).fld f = d.fld f := by
  by_cases h : d.adapts n = true
  · refine (Dev.adaptNow_sets h).1.fld_eq fun hm => ?_
    simp only [List.map_map, List.mem_map, List.mem_range, Function.comp] at hm
    obtain ⟨j, hj, he⟩ := hm
    exact coef_keys hj hf hi ho he.symm
  · rw [Dev.adaptNow, if_neg h]

theorem Dev.adaptNow_line (d : Dev) (n k : Nat) : (d.adaptNow n).line k = d.line k := by
  by_cases h : d.adapts n = true
  · have hrest := (Dev.adaptNow_sets h).2
    have hlines : (d.adaptNow n).lines = d.lines := congrArg (·.lines) hrest
    rw [Dev.line, hlines]
    rfl
  · rw [Dev.adaptNow, if_neg h]

theorem Dev.adapts_iff (d : Dev) (n : Nat) : d.adapts n = true ↔ d.fld (Reg.LN_CTRL.RX_EN n) ≠ 0 ∧
    (d.fld (Reg.LN_EQ_CTRL.ADAPT n) = 1 ∨ d.fld (Reg.LN_EQ_CTRL.ADAPT n) = 2 ∧ d.fld (Reg.LN_EQ_STAT.ADAPT_DONE n) = 0) ∧
    d.fld (defFld n dDSD) = 0 ∧ d.fld (Reg.LN_EQ_STAT.CDR_LOCK n) ≠ 0 := by
  simp only [Dev.adapts, Dev.on, Dev.defect, Bool.and_eq_true, Bool.or_eq_true, bne_iff_ne, beq_iff_eq, Bool.not_eq_true', bne_eq_false_iff_eq]
  tauto

variable {d e : Dev}

/-! ### The receiver -/

namespace Dev.LineAt

variable {d0 : Dev} {n : Nat} {x : Line} {l : List (Fld × Nat)}

theorem noCands (h : d0.LineAt n d x l) (hc : (Reg.LN_SYNC_STAT.CANDS n).key ∉ l.map (fun e => e.1.key))
    (hs : (Reg.LN_SYNC_STAT.STATE n).key ∉ (Reg.LN_SYNC_STAT.CANDS n).key :: l.map (fun e => e.1.key)) :
    d0.LineAt n (d.setCands n []) { x with cands := [] } ((Reg.LN_SYNC_STAT.STATE n, 0) :: (Reg.LN_SYNC_STAT.CANDS n, 0) :: l) := by
  rw [Dev.setCands, h.line]
  exact ((h.setLine { x with cands := [] }).put (Reg.LN_SYNC_STAT.CANDS n) 0 hc).put (Reg.LN_SYNC_STAT.STATE n) 0 hs

theorem defStand (h : d0.LineAt n d x l) (k : Nat) (hk : (defFld n k).key ∉ l.map (fun e => e.1.key)) :
    d0.LineAt n (d.defStand n k) { x with seen := setBit x.seen k true } ((defFld n k, 1) :: l) := by
  rw [Dev.defStand, h.line]
  exact (h.setLine _).put (defFld n k) 1 hk

theorem dsdPin (h : d0.LineAt n d x l) (hn : n < 4) (hk : (defFld n dDSD).key ∉ l.map (fun e => e.1.key)) :
    d0.LineAt n (d.dsdPin n) { x with seen := if d.sdSignal n then x.seen else setBit x.seen dDSD true }
      ((defFld n dDSD, bit (!d.sdSignal n)) :: l) := by
  have hregs : d0.Regs (d.dsdPin n) ((defFld n dDSD, bit (!d.sdSignal n)) :: l) :=
    (h.regs.trans (d.dsdPin_Regs hn) (fun y hy z hz he => hk (by
      obtain rfl : z = _ := by simpa using hz
      exact he ▸ List.mem_map_of_mem (f := fun e => e.1.key) hy))).of_mem_iff fun y => by
      rw [List.mem_append, List.mem_singleton, List.mem_cons]
      exact or_comm
  by_cases hs : d.sdSignal n = true
  · rw [if_pos hs]
    refine ⟨?_, fun k hk => ?_, hregs, ?_⟩ <;> rw [Dev.dsdPin, if_pos hs]
    · exact h.line
    · exact h.others k hk
    · exact h.rest
  · rw [if_neg hs]
    have hset := h.defStand dDSD hk
    have hd : d.dsdPin n = d.defStand n dDSD := by rw [Dev.dsdPin, if_neg hs]
    exact ⟨hd ▸ hset.line, hd ▸ hset.others, hregs, hd ▸ hset.rest⟩

end Dev.LineAt

/-- The fields that the end of reception sets, the last first. -/
def rxStopFlds (n pol : Nat) : List (Fld × Nat) :=
  [(defFld n dAmbig, 0), (defFld n dCprof, 0), (defFld n dPonid, 0), (defFld n dBerSf, 0), (defFld n dBerSd, 0), (defFld n dUCW, 0),
    (defFld n dLOF, 1), (defFld n dLOL, 1), (Reg.LN_EQ_STAT.CDR_LOCK n, 0), (Reg.LN_SYNC_STAT.MISS_RUN n, 0),
    (Reg.LN_SYNC_STAT.STATE n, 0), (Reg.LN_SYNC_STAT.CANDS n, 0), (Reg.LN_CTRL.RX_EN n, 0), (Reg.LN_CTRL.SD_POL n, pol)]

theorem rxStop_nodup : ∀ n < 4, ((rxStopFlds n 0).map (fun e => e.1.key)).Nodup := by decide

/-- The fields that the start of reception sets, the last first. -/
def rxStartFlds (n lat pol : Nat) : List (Fld × Nat) :=
  [(Reg.LN_SYNC_STAT.MISS_RUN n, 0), (Reg.LN_SYNC_STAT.STATE n, 0), (Reg.LN_SYNC_STAT.CANDS n, 0), (Reg.LN_EQ_STAT.ADAPT_DONE n, 0),
    (Reg.LN_RX_LAT.LAT n, lat), (Reg.LN_CTRL.RX_EN n, 1), (Reg.LN_CTRL.SD_POL n, pol)]

theorem rxStart_nodup : ∀ n < 4, ((rxStartFlds n 0 0).map (fun e => e.1.key)).Nodup := by decide

theorem Dev.rxEnable_on {n : Nat} (hup : d.lnUp n = true) (hwas : d.on (Reg.LN_CTRL.RX_EN n) = false) :
    d.rxEnable n true =
      let d2 := ((d.put (Reg.LN_CTRL.RX_EN n) 1).put (Reg.LN_RX_LAT.LAT n) (if d.on (Reg.LN_EQ_CTRL.RSSD_EN n) then 456 else 392)).put
        (Reg.LN_EQ_STAT.ADAPT_DONE n) 0
      ((d2.setLine n { d2.line n with mainTap := min 30 (d.fld (Reg.LN_EQ_CTRL.MAIN_TAP n)), odd := none, suspect := true }).setCands n []).put
        (Reg.LN_SYNC_STAT.MISS_RUN n) 0 := by
  rw [Dev.rxEnable, hup, hwas]
  rfl

theorem Dev.rxEnable_off {n : Nat} (hup : d.lnUp n = true) (hwas : d.on (Reg.LN_CTRL.RX_EN n) = true) :
    d.rxEnable n false =
      let d2 := ((((((d.adaptNow n).put (Reg.LN_CTRL.RX_EN n) 0).setCands n []).put (Reg.LN_SYNC_STAT.MISS_RUN n) 0).delinLost n).put
        (Reg.LN_EQ_STAT.CDR_LOCK n) 0)
      let d3 := (((((((d2.defStand n dLOL).defStand n dLOF).defClear n dUCW).defClear n dBerSd).defClear n dBerSf).defClear n dPonid).defClear
        n dCprof).defClear n dAmbig
      d3.setLine n { d3.line n with suspect := true, odd := none, ucwRun := 0, goodRun := 0, sdRun := 0, sfRun := 0 } := by
  rw [Dev.rxEnable, hup, hwas]
  rfl

theorem Dev.rxEnable_same {n : Nat} (hup : d.lnUp n = true) {en : Bool} (hwas : d.on (Reg.LN_CTRL.RX_EN n) = en) :
    d.rxEnable n en = d.put (Reg.LN_CTRL.RX_EN n) (bit en) := by
  have hno : d.on (Reg.LN_CTRL.RX_EN n) = false → d.adaptNow n = d := fun h => by
    rw [Dev.adaptNow, if_neg]
    simp [Dev.adapts, h]
  rw [Dev.rxEnable, hup, hwas]
  cases en
  · exact congrArg (Dev.put · _ _) (hno hwas)
  · rfl

theorem Dev.rxEnable_held {n : Nat} (hup : d.lnUp n = false) (en : Bool) : d.rxEnable n en = d.put (Reg.LN_CTRL.RX_EN n) (bit en) := by
  rw [Dev.rxEnable, hup]
  rfl

/-- Fields written in another order than they were listed. -/
theorem Dev.Regs.perm {l l' : List (Fld × Nat)} (h : d.Regs e l) (hl : l'.Perm l) : d.Regs e l' := h.of_mem_iff fun _ => hl.mem_iff

theorem rxStart_at {n pol : Nat} (hn : n < 4) (hup : (d.put (Reg.LN_CTRL.SD_POL n) pol).lnUp n = true)
    (hwas : (d.put (Reg.LN_CTRL.SD_POL n) pol).on (Reg.LN_CTRL.RX_EN n) = false) :
    let e := d.put (Reg.LN_CTRL.SD_POL n) pol
    d.LineAt n (e.rxEnable n true)
      { d.line n with mainTap := min 30 (e.fld (Reg.LN_EQ_CTRL.MAIN_TAP n)), odd := none, cands := [], suspect := true }
      (rxStartFlds n (if e.on (Reg.LN_EQ_CTRL.RSSD_EN n) then 456 else 392) (pol % 2)) := by
  intro e
  have hnd := rxStart_nodup n hn
  simp only [rxStartFlds, List.map_cons, List.map_nil, List.nodup_cons] at hnd
  obtain ⟨h1, h2, h3, h4, h5, h6, -⟩ := hnd
  have hlat : (if e.on (Reg.LN_EQ_CTRL.RSSD_EN n) then 456 else 392 : Nat) % 2 ^ (Reg.LN_RX_LAT.LAT n).w =
      if e.on (Reg.LN_EQ_CTRL.RSSD_EN n) then 456 else 392 := by split <;> rfl
  have hputs := (((((Dev.LineAt.refl d n).put (Reg.LN_CTRL.SD_POL n) pol (by simp)).put (Reg.LN_CTRL.RX_EN n) 1 h6).put
    (Reg.LN_RX_LAT.LAT n) (if e.on (Reg.LN_EQ_CTRL.RSSD_EN n) then 456 else 392) h5).put (Reg.LN_EQ_STAT.ADAPT_DONE n) 0 h4)
  rw [hlat] at hputs
  rw [Dev.rxEnable_on hup hwas]
  have hline := hputs.modify fun y => { y with mainTap := min 30 (e.fld (Reg.LN_EQ_CTRL.MAIN_TAP n)), odd := none, suspect := true }
  exact (hline.noCands h3 h2).put (Reg.LN_SYNC_STAT.MISS_RUN n) 0 h1

/-- A channel whose reception has ended. -/
def Line.stopped (x : Line) : Line :=
  { Line.count { x with cands := [], delin := false, reasm := [] } 16 x.reasm.length with
      seen := setBit (setBit x.seen dLOL true) dLOF true, suspect := true, odd := none, ucwRun := 0, goodRun := 0, sdRun := 0, sfRun := 0 }

theorem rxStop_at {n : Nat} {f : Dev} {x : Line} {pol : Nat} (hn : n < 4) (hup : e.lnUp n = true) (hwas : e.on (Reg.LN_CTRL.RX_EN n) = true)
    (hat : f.LineAt n (e.adaptNow n) x [(Reg.LN_CTRL.SD_POL n, pol)]) :
    f.LineAt n (e.rxEnable n false) x.stopped (rxStopFlds n pol) := by
  have hnd := rxStop_nodup n hn
  simp only [rxStopFlds, List.map_cons, List.map_nil, List.nodup_cons] at hnd
  obtain ⟨h1, h2, h3, h4, h5, h6, h7, h8, h9, h10, h11, h12, h13, -⟩ := hnd
  rw [Dev.rxEnable_off hup hwas]
  have hhunt := ((((hat.put (Reg.LN_CTRL.RX_EN n) 0 h13).noCands h12 h11).put (Reg.LN_SYNC_STAT.MISS_RUN n) 0 h10).delinLost).put
    (Reg.LN_EQ_STAT.CDR_LOCK n) 0 h9
  have hdef := (((((((hhunt.defStand dLOL h8).defStand dLOF h7).defClear dUCW h6).defClear dBerSd h5).defClear dBerSf h4).defClear
    dPonid h3).defClear dCprof h2).defClear dAmbig h1
  exact hdef.modify fun y => { y with suspect := true, odd := none, ucwRun := 0, goodRun := 0, sdRun := 0, sfRun := 0 }

theorem Dev.offLines_puts (l : List (Fld × Nat)) (d : Dev) : (d.puts l).offLines = d.offLines := by
  induction l generalizing d with
  | nil => rfl
  | cons x l ih => exact (ih _).trans (d.offLines_put x.1 x.2)

/-- The polarity of the signal detector has no part in adaptation. -/
theorem Dev.adaptNow_pol (d : Dev) (n pol : Nat) : (d.adaptNow n).LineAt n ((d.put (Reg.LN_CTRL.SD_POL n) pol).adaptNow n) (d.line n)
    [(Reg.LN_CTRL.SD_POL n, pol % 2)] := by
  have hfld {f : Fld} (hf : f.key ≠ (Reg.LN_CTRL.SD_POL n).key) : (d.put (Reg.LN_CTRL.SD_POL n) pol).fld f = d.fld f := Dev.fld_put_ne _ _ hf
  have hsame : (d.put (Reg.LN_CTRL.SD_POL n) pol).adapts n = d.adapts n := by
    rw [Bool.eq_iff_iff, Dev.adapts_iff, Dev.adapts_iff, hfld (f := Reg.LN_CTRL.RX_EN n) (Fld.key_ne rfl rfl (by decide)),
      hfld (f := Reg.LN_EQ_CTRL.ADAPT n) (Fld.key_ne rfl rfl (by decide)), hfld (f := Reg.LN_EQ_STAT.ADAPT_DONE n) (Fld.key_ne rfl rfl (by decide)),
      hfld (f := defFld n dDSD) (Fld.key_ne rfl rfl (by decide)), hfld (f := Reg.LN_EQ_STAT.CDR_LOCK n) (Fld.key_ne rfl rfl (by decide))]
  have hctr : (d.put (Reg.LN_CTRL.SD_POL n) pol).freeCtr = d.freeCtr := rfl
  refine ⟨?_, fun k _ => ?_, ⟨?_, fun k hk => ?_⟩, ?_⟩
  · rw [Dev.adaptNow_line, Dev.line_put]
  · rw [Dev.adaptNow_line, Dev.line_put, Dev.adaptNow_line]
  · simp only [List.forall_mem_singleton]
    rw [Dev.adaptNow_fld _ (f := Reg.LN_CTRL.SD_POL n) rfl (show 1 < 32 by decide) (.inl (by decide)), Dev.fld_put_same]
    rfl
  · have hne : k ≠ (Reg.LN_CTRL.SD_POL n).key := by simpa using hk
    have hreg : Tbl.get (d.put (Reg.LN_CTRL.SD_POL n) pol).regs k (Reg.rst k) = Tbl.get d.regs k (Reg.rst k) := by
      rw [Dev.reg_put, if_neg hne]
    by_cases h : d.adapts n = true
    · rw [Dev.adaptNow_of_adapts h, Dev.adaptNow_of_adapts (hsame.trans h), hctr]
      exact Dev.puts_reg (d := (d.put (Reg.LN_CTRL.SD_POL n) pol).spent 34) (e := d.spent 34) hreg _
    · rw [Dev.adaptNow, Dev.adaptNow, hsame, if_neg h, if_neg h]
      exact hreg
  · by_cases h : d.adapts n = true
    · rw [Dev.adaptNow_of_adapts h, Dev.adaptNow_of_adapts (hsame.trans h), Dev.offLines_puts, Dev.offLines_puts]
      exact (d.spent 34).offLines_put _ _
    · rw [Dev.adaptNow, Dev.adaptNow, hsame, if_neg h, if_neg h]
      exact d.offLines_put _ _

/-! ### The snapshot of the coefficients (R51) -/

/-- The latch after a snapshot of the first `k` coefficients. -/
theorem snapshot_latch (d : Dev) (n k : Nat) (hk : k ≤ 34) (t : Tbl Nat) {j : Nat} (hj : j < k) (z : Nat) :
    Tbl.get ((List.range k).foldl (fun t i => Tbl.set t (coefFld n i).adr (d.fld (coefFld n i))) t) (coefFld n j).adr z =
      d.fld (coefFld n j) := by
  induction k with
  | zero => omega
  | succ k ih =>
    rw [List.range_succ, List.foldl_append, List.foldl_cons, List.foldl_nil, Tbl.get_set]
    split
    · next h =>
      obtain rfl : j = k := by
        simp only [coefFld_eq] at h
        split at h <;> split at h <;> omega
      rfl
    · next h =>
      have hne : j ≠ k := fun e => h (e ▸ rfl)
      exact ih (by omega) (by omega)

theorem ffe_read : ∀ n < 4, (Reg.find (Reg.LN_FFE.ADR n 0)).isNone = false ∧ wideOf (Reg.LN_FFE.ADR n 0) = none ∧
    slotAt (Reg.LN_FFE.ADR n 0) (Reg.LN_FFE.ADR 0 0) 0x40000 4 = some n ∧ Reg.LN_FFE.ADR n 0 ≠ Reg.TRU_RNG_DATA.ADR ∧
    Reg.LN_FFE.ADR n 0 % 4 = 0 ∧ Reg.LN_FFE.ADR n 0 ≠ Reg.TIM_NOW_FRAC.ADR ∧ Reg.LN_FFE.ADR n 0 ≠ Reg.TRU_DBG_CHAL.ADR 0 := by decide

/-- The register LN.FFE. -/
def ffeReg : RegD := ⟨0x100100, [(4, 0x40000), (31, 0x4)], [⟨0, 10, .rw, 0⟩]⟩

theorem find_ffe : ∀ n < 4, Reg.find (Reg.LN_FFE.ADR n 0) = some ffeReg := by decide

theorem Dev.ffe_present (d : Dev) (n : Fin 4) (h : d.lnHere n = true) : d.absent (Reg.LN_FFE.ADR n 0) = false := by
  revert h
  fin_cases n <;> intro h <;> simp_all [Dev.absent, Dev.absentLn, Reg.LN_FFE.ADR]

theorem Dev.ffeSnapshot_latch (d : Dev) (n : Nat) {j : Nat} (hj : j < 34) (z : Nat) :
    Tbl.get (d.ffeSnapshot n).latch (coefFld n j).adr z = (d.adaptNow n).fld (coefFld n j) := by
  have h := snapshot_latch (d.adaptNow n) n 34 (Nat.le_refl 34) (d.adaptNow n).latch hj z
  unfold Dev.ffeSnapshot
  dsimp only
  exact h

theorem coefFld_first (n : Nat) : (coefFld n 0).adr = Reg.LN_FFE.ADR n 0 := by
  rw [coefFld, if_pos (by decide)]
  rfl

theorem Dev.ffeSnapshot_first (d : Dev) (n z : Nat) : Tbl.get (d.ffeSnapshot n).latch (Reg.LN_FFE.ADR n 0) z = (d.adaptNow n).fld (coefFld n 0) :=
  coefFld_first n ▸ d.ffeSnapshot_latch n (by decide) z

/-- A read of the snapshot shows what was latched. -/
theorem Dev.ffeWord (d : Dev) (m : Nat) (n : Fin 4) :
    d.word m (Reg.LN_FFE.ADR n 0) = Tbl.get d.latch (Reg.LN_FFE.ADR n 0) (Reg.rst (Reg.LN_FFE.ADR n 0 * 32)) := by
  have hn := n.isLt
  have hadr : Reg.LN_FFE.ADR n 0 = 0x100100 + n * 0x40000 := rfl
  have hlo : 0x100000 ≤ Reg.LN_FFE.ADR n 0 := by omega
  have hhi : Reg.LN_FFE.ADR n 0 < 0x200000 := by omega
  have ho : 0x100 ≤ Reg.LN_FFE.ADR n 0 % 0x40000 ∧ Reg.LN_FFE.ADR n 0 % 0x40000 < 0x17C := by omega
  clear hadr
  generalize Reg.LN_FFE.ADR n 0 = a at hlo hhi ho
  unfold Dev.word
  iterate 7 rw [if_neg (by omega)]
  rw [if_pos hhi, Dev.viewLn]
  exact if_pos (.inl ho)

/-- The read of LN.FFE[0] answers the coefficient and takes the snapshot. -/
theorem Dev.ffeRead_eq (d : Dev) (m : Master) (n : Fin 4) (h : d.lnHere n = true) :
    d.access m (Reg.LN_FFE.ADR n 0) .read =
      (d.ffeSnapshot n).emit (.busRead m (Reg.LN_FFE.ADR n 0) (BitVec.ofNat 32 ((d.adaptNow n).fld (coefFld n 0)))) := by
  obtain ⟨hfind, hwide, hslot, hrng, h4, hnow, hchal⟩ := ffe_read n n.isLt
  have hclear (e : Dev) : e.readThen m (Reg.LN_FFE.ADR n 0) = e := by
    rw [Dev.readThen, hwide]
    dsimp only
    rw [Dev.readClear, find_ffe n n.isLt]
    rfl
  have hview : (d.ffeSnapshot n).view m.num (Reg.LN_FFE.ADR n 0) = (d.adaptNow n).fld (coefFld n 0) := by
    rw [Dev.view_eq, hwide, Option.map_none, Option.getD_none, Dev.ffeWord, d.ffeSnapshot_first]
  rw [Dev.access_read_of_aligned h4, Dev.busRead, if_neg (by simp [hfind]), if_neg (by simp [d.ffe_present n h]), if_neg hrng]
  rw [Dev.readFirst_eq, if_neg hnow, if_neg hchal, hslot]
  dsimp only [Option.map_some, Option.getD_some]
  rw [hclear, hview]
  rfl

variable {d e : Dev}

theorem coefClamp_mod (i v : Nat) :
    coefClamp i (v % 1024) = if i < 31 then v % 1024 else unsigned 10 (max (-128) (min 128 (signed 10 v))) := by
  have hs : signed 10 (v % 1024) = signed 10 v := by
    unfold signed
    rw [show (2 : Nat) ^ 10 = 1024 from rfl, Nat.mod_mod]
  rw [coefClamp, Nat.mod_mod, hs]
  rfl

theorem find_eqCtrl : ∀ n < 4, (Reg.find (Reg.LN_EQ_CTRL.ADR n)).map (·.fields) =
    some [⟨0, 2, .rw, 2⟩, ⟨2, 5, .rw, 8⟩, ⟨7, 1, .rw, 0⟩, ⟨8, 1, .rw, 1⟩, ⟨9, 1, .wo, 0⟩, ⟨12, 4, .rw, 4⟩, ⟨16, 4, .rw, 6⟩, ⟨20, 4, .rw, 5⟩] := by
  decide

/-- The settings of the equaliser. -/
def eqSettings (n a v : Nat) : List (Fld × Nat) :=
  [(Reg.LN_EQ_CTRL.ADAPT n, a), (Reg.LN_EQ_CTRL.MAIN_TAP n, bits v 2 5), (Reg.LN_EQ_CTRL.RSSD_EN n, bits v 7 1),
    (Reg.LN_EQ_CTRL.DFE_EN n, bits v 8 1), (Reg.LN_EQ_CTRL.ACQ_TIME n, bits v 12 4), (Reg.LN_EQ_CTRL.MU_FFE n, bits v 16 4),
    (Reg.LN_EQ_CTRL.MU_DFE n, bits v 20 4)]

theorem eqSettings_nodup : ∀ n < 4, ((eqSettings n 0 0).map (fun e => e.1.key)).Nodup := by decide

theorem eqCtrl_puts {n : Nat} (hn : n < 4) (d : Dev) (v : Nat) :
    d.plainWrite (Reg.LN_EQ_CTRL.ADR n) v = d.puts (eqSettings n (bits v 0 2) v) := by
  obtain ⟨r, hr, hf⟩ := Option.map_eq_some_iff.1 (find_eqCtrl n hn)
  rw [Dev.plainWrite_puts hr (by rw [hf]; decide), hf]
  rfl

/-- The first of the fields that were set takes another value. -/
theorem Dev.Sets.put_again {f : Fld} {w : Nat} {l : List (Fld × Nat)} (h : d.Sets e ((f, w) :: l)) (v : Nat)
    (hk : f.key ∉ l.map (fun e => e.1.key)) : d.Sets (e.put f v) ((f, v % 2 ^ f.w) :: l) := by
  refine ⟨⟨fun x hx => ?_, fun k hk' => ?_⟩, h.2⟩
  · rcases List.mem_cons.1 hx with rfl | hx
    · exact Dev.fld_put_same ..
    · rw [Dev.fld_put_ne _ _ (fun e' => hk (e' ▸ List.mem_map_of_mem (f := fun e => e.1.key) hx))]
      exact h.1.1 x (List.mem_cons_of_mem _ hx)
  · have hne : k ≠ f.key := fun e => hk' (by simp [e])
    rw [Dev.reg_put, if_neg hne]
    exact h.1.2 k hk'

/-- A write of the equaliser's settings, PRESET apart: ADAPT 3 is not taken. -/
theorem eqCtrl_sets {n : Nat} (hn : n < 4) (d : Dev) (v old : Nat) :
    d.Sets (if v % 4 = 3 then (d.plainWrite (Reg.LN_EQ_CTRL.ADR n) v).put (Reg.LN_EQ_CTRL.ADAPT n) old else d.plainWrite (Reg.LN_EQ_CTRL.ADR n) v)
      (eqSettings n (if v % 4 = 3 then old % 4 else v % 4) v) := by
  have hlt (x lo w : Nat) : bits x lo w < 2 ^ w := Nat.mod_lt _ (by positivity)
  have hset (a : Nat) (ha : a < 4) : d.Sets (d.puts (eqSettings n a v)) (eqSettings n a v) :=
    Dev.puts_sets (l := eqSettings n a v) (eqSettings_nodup n hn) (by
      simp only [eqSettings, List.forall_mem_cons]
      exact ⟨ha, hlt .., hlt .., hlt .., hlt .., hlt .., hlt .., by simp⟩) d
  have hbits : bits v 0 2 = v % 4 := by rw [bits, Nat.pow_zero, Nat.div_one]; rfl
  rw [eqCtrl_puts hn, hbits]
  split
  · have h0 := hset (v % 4) (Nat.mod_lt _ (by decide))
    have hnd := eqSettings_nodup n hn
    rw [eqSettings, List.map_cons, List.nodup_cons] at hnd
    exact h0.put_again old hnd.1
  · exact hset _ (Nat.mod_lt _ (by decide))

theorem Dev.preset_puts (n : Nat) (l : List Nat) (d : Dev) :
    d.each l (fun d i => d.put (coefFld n i) (if i = (d.line n).mainTap then 0x100 else 0)) =
      d.puts (l.map fun i => (coefFld n i, if i = (d.line n).mainTap then 0x100 else 0)) := by
  induction l generalizing d with
  | nil => rfl
  | cons i l ih =>
    refine (ih _).trans ?_
    rw [Dev.line_put]
    rfl

/-- The coefficients of PRESET. -/
theorem Dev.eqPreset_sets {n : Nat} (h : d.fld (Reg.LN_EQ_CTRL.ADAPT n) = 0) :
    d.Sets (d.eqPreset n) ((List.range 34).map fun i => (coefFld n i, if i = (d.line n).mainTap then 0x100 else 0)) := by
  rw [Dev.eqPreset, if_pos h, Dev.preset_puts]
  exact coefs_sets n _ (fun i => by split <;> decide) d

theorem Dev.eqPreset_of_adapt {n : Nat} (h : d.fld (Reg.LN_EQ_CTRL.ADAPT n) ≠ 0) : d.eqPreset n = d := if_neg h

theorem eqSettings_or {n : Nat} (a : Nat) (v : Word) : eqSettings n a (v ||| 0x200#32).toNat = eqSettings n a v.toNat := by
  have h (lo w : Nat) (h0 : bits (0x200#32).toNat lo w = 0) : bits (v ||| 0x200#32).toNat lo w = bits v.toNat lo w := by
    rw [bits_or, h0, Nat.or_zero]
  rw [eqSettings, h 2 5 rfl, h 7 1 rfl, h 8 1 rfl, h 12 4 rfl, h 16 4 rfl, h 20 4 rfl]
  rfl

theorem preset_code (v : Word) : (v ||| 0x200#32).toNat % 4 = v.toNat % 4 := by
  have hbits (x : Nat) : bits x 0 2 = x % 4 := by rw [bits, Nat.pow_zero, Nat.div_one]; rfl
  have h0 : bits (0x200#32).toNat 0 2 = 0 := rfl
  rw [← hbits, bits_or, h0, Nat.or_zero, hbits]

theorem eqSettings_coef {n : Nat} (a v : Nat) (g : Nat → Nat) :
    ∀ x ∈ eqSettings n a v, ∀ y ∈ (List.range 34).map (fun i => (coefFld n i, g i)), x.1.key ≠ y.1.key := by
  simp only [eqSettings, List.forall_mem_cons, List.not_mem_nil, false_imp_iff, implies_true, and_true, List.forall_mem_map, List.mem_range]
  refine ⟨?_, ?_, ?_, ?_, ?_, ?_, ?_⟩ <;> exact fun j hj => coef_keys hj rfl (by decide) (.inl (by decide))

/-- A write of the equaliser's settings with PRESET, by the adaptation it leaves. -/
theorem Dev.eqWrite_preset (d : Dev) {n : Nat} (hn : n < 4) (v : Word) :
    let next := if v.toNat % 4 = 3 then d.fld (Reg.LN_EQ_CTRL.ADAPT n) % 4 else v.toNat % 4
    (next = 0 → (d.adaptNow n).Sets (d.eqWrite n (v ||| 0x200#32).toNat) (eqSettings n next v.toNat ++
      (List.range 34).map fun j => (coefFld n j, if j = (d.line n).mainTap then 0x100 else 0))) ∧
    (next ≠ 0 → (d.adaptNow n).Sets (d.eqWrite n (v ||| 0x200#32).toNat) (eqSettings n next v.toNat)) := by
  intro next
  have hbit : bitOf (v ||| 0x200#32).toNat 9 = true := (bitOf_or ..).trans (Bool.or_true _)
  have hset := eqCtrl_sets hn (d.adaptNow n) (v ||| 0x200#32).toNat (d.fld (Reg.LN_EQ_CTRL.ADAPT n))
  rw [eqSettings_or, preset_code] at hset
  rw [Dev.eqWrite, preset_code, Dev.iff, if_pos hbit]
  generalize (if v.toNat % 4 = 3 then ((d.adaptNow n).plainWrite (Reg.LN_EQ_CTRL.ADR n) (v ||| 0x200#32).toNat).put (Reg.LN_EQ_CTRL.ADAPT n)
    (d.fld (Reg.LN_EQ_CTRL.ADAPT n)) else (d.adaptNow n).plainWrite (Reg.LN_EQ_CTRL.ADR n) (v ||| 0x200#32).toNat) = c at hset ⊢
  have hadapt : c.fld (Reg.LN_EQ_CTRL.ADAPT n) = next := (List.forall_mem_cons.1 hset.1.1).1
  have hlines : c.lines = (d.adaptNow n).lines := congrArg (·.lines) hset.2
  have hline : c.line n = d.line n := by rw [← d.adaptNow_line n n, Dev.line, hlines]; rfl
  refine ⟨fun h0 => ?_, fun h0 => ?_⟩
  · have hp := Dev.eqPreset_sets (hadapt.trans h0)
    rw [hline] at hp
    exact hset.trans hp (eqSettings_coef _ _ _)
  · rw [Dev.eqPreset_of_adapt (hadapt ▸ h0)]
    exact hset

theorem Dev.adaptNow_out (d : Dev) (n : Nat) : (d.adaptNow n).out = d.out := by
  by_cases h : d.adapts n = true
  · have hrest := (Dev.adaptNow_sets h).2
    have hout : (d.adaptNow n).out = (d.spent 34).out := congrArg (·.out) hrest
    exact hout
  · rw [Dev.adaptNow, if_neg h]

theorem Dev.latched_rest (d : Dev) (t : Tbl Nat) (x : Emit) :
    { ({ d with latch := t } : Dev).emit x with latch := d.latch, out := d.out } = d := rfl

/-- What the read of LN.FFE[0] leaves. -/
theorem Dev.ffeRead_spec (d : Dev) (m : Master) (n : Fin 4) (h : d.lnHere n = true) :
    let now := d.adaptNow n
    let e := d.access m (Reg.LN_FFE.ADR n 0) .read
    e.out = .busRead m (Reg.LN_FFE.ADR n 0) (BitVec.ofNat 32 (now.fld (coefFld n 0))) :: d.out ∧
    (∀ j < 34, Tbl.get e.latch (coefFld n j).adr 0 = now.fld (coefFld n j)) ∧
    { e with latch := now.latch, out := now.out } = now := by
  intro now e
  have he : e = _ := d.ffeRead_eq m n h
  rw [he]
  have hlatch := fun j hj => d.ffeSnapshot_latch n (j := j) hj 0
  generalize hr : Emit.busRead m _ _ = r
  have hsnap : ∃ t, d.ffeSnapshot n = { now with latch := t } := ⟨_, rfl⟩
  obtain ⟨t, ht⟩ := hsnap
  rw [ht] at hlatch ⊢
  exact ⟨congrArg (r :: ·) (d.adaptNow_out n), hlatch, now.latched_rest t r⟩

theorem bits_one_eq (v i : Nat) : bits v i 1 = bit (bitOf v i) := by
  rw [bits, bitOf, Nat.pow_one]
  rcases Nat.mod_two_eq_zero_or_one (v / 2 ^ i) with h | h <;> rw [h] <;> rfl

theorem rst_pol_key (n : Fin 4) : Reg.CHIPCAP_BLOCK_RST.LN.key ≠ (Reg.LN_CTRL.SD_POL n).key := by
  revert n
  decide

theorem rst_dsd_key (n : Fin 4) : Reg.CHIPCAP_BLOCK_RST.LN.key ≠ (defFld n dDSD).key := by
  revert n
  decide

theorem Dev.LineAt.lnUp {d0 : Dev} {n : Nat} {x : Line} {l : List (Fld × Nat)} (h : d0.LineAt n d x l)
    (hl : Reg.CHIPCAP_BLOCK_RST.LN.key ∉ l.map (fun e => e.1.key)) (k : Nat) : d.lnUp k = d0.lnUp k := by
  have hrest := h.rest
  have hchip : d.chip = d0.chip := congrArg (·.chip) hrest
  rw [Dev.lnUp, Dev.lnUp, h.fld_eq hl, Dev.lnHere, Dev.lnHere, hchip]

theorem rxStart_perm {α : Type} (a b c d e f g : α) : [a, b, c, d, e, f, g].Perm [e, c, d, g, f, a, b] := by
  have h1 : [a, b, c, d, e, f, g].Perm ([c, d, e, f, g] ++ [a, b]) := List.perm_append_comm (l₁ := [a, b])
  have h2 : [c, d, e, f, g].Perm [e, c, d, g, f] := (List.perm_append_comm (l₁ := [c, d]) (l₂ := [e])).append (List.Perm.swap g f [])
  exact h1.trans (h2.append_right _)

theorem rxStop_perm {α : Type} (a b c d : α) (l : List α) : (a :: b :: c :: d :: l).Perm (b :: a :: d :: c :: l).reverse :=
  ((List.Perm.swap ..).trans (((List.Perm.swap ..).cons _).cons _)).trans (List.reverse_perm _).symm

theorem pol_ne_dsd (n : Nat) : (defFld n dDSD).key ≠ (Reg.LN_CTRL.SD_POL n).key := Fld.key_ne rfl rfl (by decide)

theorem rxEn_ne (n : Nat) : (Reg.LN_CTRL.RX_EN n).key ≠ (Reg.LN_CTRL.SD_POL n).key ∧ (Reg.LN_CTRL.RX_EN n).key ≠ (defFld n dDSD).key :=
  ⟨Fld.key_ne rfl rfl (by decide), Fld.key_ne rfl rfl (by decide)⟩

/-- Settles O21: the coefficients by write, PRESET, snapshot and adaptation, and RX_EN by what it was. -/
theorem equaliserAndReceiverEnable : Obligations.EqualiserAndReceiverEnable := by
  unfold Obligations.EqualiserAndReceiverEnable
  refine ⟨⟨fun s m n i v hup hhere => ?_, fun d n => ?_⟩, fun s m n v hup hhere => ?_⟩
  · intro e adapt next ctrl now
    have hpreset := e.eqWrite_preset n.isLt v
    have hpoke := Dev.poke_LN_EQ_CTRL e m n (v ||| 0x200#32) hhere
    have hacq := Does.of_main (exec_eqAcqDone s n) hup
    refine ⟨fun h => .of_main_eq hup ?_ (exec_ffeWrite ..) (Dev.poke_coef e m n i v hhere),
      fun h => .of_main_eq (exec_ffeWrite ..) hup ((Dev.poke_coef e m n i v hhere).trans (if_neg h)),
      fun h => .of_main_eq hup (hpreset.1 h) (exec_eqPreset ..) hpoke, fun h => .of_main_eq hup (hpreset.2 h) (exec_eqPreset ..) hpoke,
      .of_main_eq hup (e.ffeRead_spec m n hhere) (exec_ffeSnapshotRead ..) rfl, fun hrx ha hd => ?_, fun h => ?_⟩
    · rw [Dev.ffeWrite, if_pos h, coefClamp_mod]
      refine (Dev.Sets.nil e).put_of_lt _ ?_ (by simp)
      rw [coefFld_eq]
      show _ < 2 ^ 10
      split
      · exact Nat.mod_lt _ (by decide)
      · exact unsigned_lt ..
    · refine ⟨_, ?_, Dev.ev_sets now (Reg.LN_EQ_STAT.ADAPT_DONE n) Nat.one_lt_two⟩
      have hd' : e.acqDone n = now.ev (Reg.LN_EQ_STAT.ADAPT_DONE n) := by
        rw [Dev.acqDone, if_pos]
        simp [hrx, Dev.on, hd, show e.fld (Reg.LN_EQ_CTRL.ADAPT n) = 2 from ha]
      exact hd' ▸ hacq
    · have hd' : e.acqDone n = e := by
        rw [Dev.acqDone, if_neg]
        simp only [Dev.on, Bool.and_eq_true, beq_iff_eq, Bool.not_eq_true', bne_eq_false_iff_eq]
        rintro ⟨⟨h1, h2⟩, h3⟩
        rcases h with h | h | h
        · simp [h] at h1
        · exact h h2
        · exact h h3
      exact hd' ▸ hacq
  · intro adapt moves
    exact ⟨fun h => by rw [Dev.adaptNow, if_neg ((d.adapts_iff n).not.2 h)], fun h => Dev.adaptNow_sets ((d.adapts_iff n).2 h)⟩
  · intro e x was now pol i l hunt rest
    have hbit : bits v.toNat 1 1 = bit pol := bits_one_eq ..
    let c := e.put (Reg.LN_CTRL.SD_POL n) (bit pol)
    have hpol : e.LineAt n c x [(Reg.LN_CTRL.SD_POL n, bit pol)] := by
      have h := (Dev.LineAt.refl e n).put (Reg.LN_CTRL.SD_POL n) (bit pol) (by simp)
      rwa [show bit pol % 2 ^ (Reg.LN_CTRL.SD_POL n).w = bit pol from Nat.mod_eq_of_lt (bit_lt _)] at h
    have hkeep {f : Fld} (hf : f.key ≠ (Reg.LN_CTRL.SD_POL n).key) : c.fld f = e.fld f := Dev.fld_put_ne _ _ hf
    have hcup : c.lnUp n = e.lnUp n := hpol.lnUp (by simpa using rst_pol_key n) n
    have hcwas : c.on (Reg.LN_CTRL.RX_EN n) = was := by rw [Dev.on, hkeep (rxEn_ne n).1]; rfl
    have hbitmod (b : Bool) : bit b % 2 ^ (Reg.LN_CTRL.RX_EN n).w = bit b := Nat.mod_eq_of_lt (bit_lt b)
    have hpoke : e.poke m (Reg.LN_CTRL.ADR n) v = ((c.iff (!e.lnUp n) (·.dsdPin n)).rxEnable n now).lineMoved n := by
      rw [Dev.poke_LN_CTRL e m n v hhere, Dev.rxWrite, hbit]
    have hthen {f : Dev} {P : Dev → Prop} (hf : (c.iff (!e.lnUp n) (·.dsdPin n)).rxEnable n now = f) (hP : P f) :
        EffectThen i s (·.lineMoved n) P := ⟨f, .of_main_eq (exec_rxEnWrite s m n v) hup (hf ▸ hpoke), hP⟩
    refine ⟨fun hno => ?_, fun hyes hsame => ?_, fun hyes hwas hen => ?_, fun hyes hwas hen => ?_⟩
    · have hsig : c.sdSignal n = !(x.sd == pol) := by
        rw [Dev.sdSignal, hpol.line, Dev.on, Dev.fld_put_same]
        cases pol <;> cases x.sd <;> rfl
      have hdsd := hpol.dsdPin n.isLt (by simpa using pol_ne_dsd n)
      have hdup : (c.dsdPin n).lnUp n = false := (hdsd.lnUp (by simpa using ⟨rst_dsd_key n, rst_pol_key n⟩) n).trans hno
      have hput := hdsd.put (Reg.LN_CTRL.RX_EN n) (bit now) (by simpa using ⟨(rxEn_ne n).2, (rxEn_ne n).1⟩)
      rw [hsig, Bool.not_not, hbitmod] at hput
      refine hthen (f := (c.dsdPin n).put (Reg.LN_CTRL.RX_EN n) (bit now)) ?_ ⟨?_, hput.others, hput.regs.perm ?_, hput.frame⟩
      · rw [hno]
        exact Dev.rxEnable_held hdup now
      · rw [hput.line]
        cases x.sd == pol <;> rfl
      · exact (List.Perm.swap ..).cons _
    · refine hthen (f := c.put (Reg.LN_CTRL.RX_EN n) (bit now)) ?_ ?_
      · rw [hyes]
        exact Dev.rxEnable_same (hcup.trans hyes) (hcwas.trans hsame)
      · have hput := hpol.put (Reg.LN_CTRL.RX_EN n) (bit now) (by simpa using (rxEn_ne n).1)
        rw [hbitmod] at hput
        exact ⟨hput.regs, rfl⟩
    · have hat : e.LineAt n (c.rxEnable n true)
          { x with mainTap := min 30 (c.fld (Reg.LN_EQ_CTRL.MAIN_TAP n)), odd := none, cands := [], suspect := true }
          (rxStartFlds n (if c.on (Reg.LN_EQ_CTRL.RSSD_EN n) then 456 else 392) (bit pol % 2)) :=
        rxStart_at (d := e) (pol := bit pol) n.isLt (hcup.trans hyes) (hcwas.trans hwas)
      have hmain : c.fld (Reg.LN_EQ_CTRL.MAIN_TAP n) = e.fld (Reg.LN_EQ_CTRL.MAIN_TAP n) := hkeep (Fld.key_ne rfl rfl (by decide))
      have hrssd : c.on (Reg.LN_EQ_CTRL.RSSD_EN n) = e.on (Reg.LN_EQ_CTRL.RSSD_EN n) := by
        rw [Dev.on, hkeep (f := Reg.LN_EQ_CTRL.RSSD_EN n) (Fld.key_ne rfl rfl (by decide)), Dev.on]
      have hval : bit pol % 2 = bit pol := Nat.mod_eq_of_lt (bit_lt _)
      rw [hval, hmain, hrssd] at hat
      refine hthen (f := c.rxEnable n true) ?_ ⟨?_, hat.line, hat.others, hat.frame⟩
      · rw [hyes, hen]
        rfl
      · simp only [l, hen]
        exact hat.regs.perm (rxStart_perm ..)
    · have hat := rxStop_at (e := c) (f := e.adaptNow n) n.isLt (hcup.trans hyes) (hcwas.trans hwas) (e.adaptNow_pol n (bit pol))
      have hval : bit pol % 2 = bit pol := Nat.mod_eq_of_lt (bit_lt _)
      rw [hval] at hat
      refine hthen (f := c.rxEnable n false) ?_ ⟨?_, fun k => ?_, ?_, fun k hk => ?_, hat.frame⟩
      · rw [hyes, hen]
        rfl
      · simp only [l, hen]
        exact hat.regs.perm (rxStop_perm ..)
      · rw [hat.line]
        exact Line.count_get ..
      · rw [hat.line]
        rfl
      · rw [hat.others k hk, Dev.adaptNow_line]

end Sys2Proof.Machine
end

section
/-!
PROOFS. XGEM delineation, the delivery of service data units, the port table and the trace comparison (R63 to R69).
-/
namespace Sys2Proof.Machine

variable {d e : Dev}

/-! ### Fragments -/

theorem Dev.fragment_skip {n kind : Nat} {h : Xgem} (hs : h.port ∈ (d.line n).skip) (st : Strobe) : d.fragment n kind h st =
    if h.lf then d.setLine n { d.line n with skip := (d.line n).skip.filter (· != h.port) } else d := by
  rw [Dev.fragment]
  exact if_pos (List.contains_iff_mem.2 hs)

/-- A fragment that opens a unit, or is one. -/
theorem Dev.fragment_new {n kind : Nat} {h : Xgem} (hs : h.port ∉ (d.line n).skip) (hf : (d.line n).reasm.find? (·.port == h.port) = none)
    (st : Strobe) : d.fragment n kind h st =
      if h.lf then
        if d.maxSdu n < h.pli then d.lineCnt n 13 1
        else if h.marked then d.lineCnt n 15 1
        else d.deliverSdu n h.port h.key kind (d.sfc n) [(h.pos, h.payload.length)] false h.payload (d.lineStamp n st)
      else if h.marked then (d.lineCnt n 15 1).lineCnt n 16 1
      else if 256 ≤ (d.line n).reasm.length then (d.setLine n { d.line n with skip := h.port :: (d.line n).skip }).lineCnt n 16 1
      else if d.maxSdu n < h.pli then (d.setLine n { d.line n with skip := h.port :: (d.line n).skip }).lineCnt n 13 1
      else d.setLine n { d.line n with reasm := (d.line n).reasm ++
        [{ port := h.port, key := h.key, kind := kind, sfc := d.sfc n, spans := [(h.pos, h.payload.length)], data := h.payload,
           stamp := d.lineStamp n st }] } := by
  rw [Dev.fragment]
  refine (if_neg (by simpa using hs)).trans ?_
  rw [hf]

/-- A fragment that continues a unit. -/
theorem Dev.fragment_more {n kind : Nat} {h : Xgem} {c : Reasm} (hs : h.port ∉ (d.line n).skip)
    (hf : (d.line n).reasm.find? (·.port == h.port) = some c) (st : Strobe) : d.fragment n kind h st =
      if h.marked then (d.lineCnt n 15 1).abortOne n h.port
      else if d.maxSdu n < (c.data ++ h.payload).length then
        (d.setLine n { d.line n with
          reasm := (d.line n).reasm.filter (·.port != h.port),
          skip := if h.lf then (d.line n).skip else h.port :: (d.line n).skip }).lineCnt n 13 1
      else if h.lf then
        (d.setLine n { d.line n with reasm := (d.line n).reasm.filter (·.port != h.port) }).deliverSdu n h.port c.key c.kind c.sfc
          (c.spans ++ [(h.pos, h.payload.length)]) c.stby (c.data ++ h.payload) c.stamp
      else d.setLine n { d.line n with reasm := (d.line n).reasm.map (fun r =>
        if r.port = h.port then { r with data := c.data ++ h.payload, spans := c.spans ++ [(h.pos, h.payload.length)], touched := true }
        else r) } := by
  rw [Dev.fragment]
  refine (if_neg (by simpa using hs)).trans ?_
  rw [hf]

theorem Dev.abortOne_open {n port : Nat} {c : Reasm} (hf : (d.line n).reasm.find? (·.port == port) = some c) :
    d.abortOne n port = (d.setLine n { d.line n with reasm := (d.line n).reasm.filter (·.port != port) }).lineCnt n 16 1 :=
  if_pos (List.any_eq_true.2 ⟨c, List.mem_of_find?_eq_some hf, List.find?_some hf⟩)

/-! ### XGEM headers -/

/-- A header that its check passes. -/
def Dev.xgemPass (d : Dev) (n : Nat) (h : Xgem) : Prop := h.hec = .good ∨ h.hec = .corrected ∧ d.on (Reg.LN_XGEM_CTRL.HEC_ACCEPT n) = true

/-- A channel with a corrected header counted. -/
def Dev.xgemTaken (d : Dev) (n : Nat) (h : Xgem) : Dev := if h.hec = .corrected then d.lineCnt n 10 1 else d

section
variable {n : Nat} {h : Xgem} (hrx : d.rxOn n = true) (hfr : d.framer n = 2) (hdel : (d.line n).delin = true)
include hrx hfr hdel

theorem Dev.xgemHeader_fails (hp : ¬ d.xgemPass n h) (st : Strobe) : d.xgemHeader n h st = (d.lineCnt n 11 1).delinLost n := by
  rw [Dev.xgemHeader]
  refine (if_neg (by simp [hrx, hfr, hdel])).trans (if_pos ?_)
  unfold Dev.xgemPass at hp
  cases hh : h.hec <;> simp_all

/-- A header that passes goes by its length and its port. -/
theorem Dev.xgemHeader_passes (hp : d.xgemPass n h) (st : Strobe) : d.xgemHeader n h st =
    if h.fits = false then ((d.xgemTaken n h).lineCnt n 14 1).delinLost n
    else if h.port = 0xFFFF then d.xgemTaken n h
    else if h.pli = 0 then (d.xgemTaken n h).lineCnt n 14 1
    else match d.xports n h.port with
      | [] => (d.xgemTaken n h).lineCnt n 12 1
      | i :: r => ((d.xgemTaken n h).iff (r != []) (·.ev (Reg.LN_EVT.XPORT_DUP n))).fragment n (d.fld (Reg.LN_XPORT.KIND n i)) h st := by
  have hd1 : d.iff (h.hec == .corrected) (·.lineCnt n 10 1) = d.xgemTaken n h := by
    unfold Dev.iff Dev.xgemTaken
    cases h.hec <;> rfl
  rw [Dev.xgemHeader]
  refine (if_neg (by simp [hrx, hfr, hdel])).trans ((if_neg ?_).trans ?_)
  · unfold Dev.xgemPass at hp
    cases hh : h.hec <;> simp_all
  · rw [hd1]
    refine if_congr (by simp) rfl (if_congr Iff.rfl rfl (if_congr Iff.rfl rfl ?_))
    cases d.xports n h.port <;> rfl

end

theorem Dev.xgemTaken_xports (d : Dev) (n m : Nat) (h : Xgem) (port : Nat) : (d.xgemTaken n h).xports m port = d.xports m port := by
  unfold Dev.xgemTaken
  split
  · have hbad : ((d.lineCnt n 10 1).line m).badPorts = (d.line m).badPorts := by
      rw [Dev.lineCnt]
      by_cases hm : m = n
      · rw [hm, Dev.line_setLine]
      · rw [Dev.line_setLine_ne _ _ _ hm]
    simp only [Dev.xports, hbad]
    rfl
  · rfl

theorem Dev.delinLost_spec (d : Dev) (n : Nat) : ((d.delinLost n).line n).delin = false ∧ ((d.delinLost n).line n).reasm = [] ∧
    (d.delinLost n).regs = d.regs := by
  have h := (Dev.LineAt.refl d n).delinLost
  rw [h.line]
  exact ⟨rfl, rfl, rfl⟩

variable {d e : Dev}

theorem Dev.xgemTaken_regs (d : Dev) (n : Nat) (h : Xgem) : (d.xgemTaken n h).regs = d.regs := by
  unfold Dev.xgemTaken
  split <;> rfl

/-- The fields of the port table at one place, and the event of a port met twice. -/
theorem xport_keys (n i : Nat) : (Reg.LN_XPORT.PORT_ID n i).key ≠ (Reg.LN_XPORT.VALID n i).key ∧
    (Reg.LN_XPORT.PORT_ID n i).key ≠ (Reg.LN_XPORT.KIND n i).key ∧ (Reg.LN_XPORT.VALID n i).key ≠ (Reg.LN_XPORT.KIND n i).key ∧
    (Reg.LN_XPORT.KIND n i).key ≠ (Reg.LN_EVT.XPORT_DUP n).key ∧
    ∀ f ∈ [Reg.LN_XPORT.PORT_ID n i, Reg.LN_XPORT.VALID n i, Reg.LN_XPORT.KIND n i], f.key ≠ (Reg.LN_EVT.XPORT_BAD n).key := by
  simp only [List.forall_mem_cons, List.not_mem_nil, false_imp_iff, implies_true, and_true, Fld.key, Reg.LN_XPORT.PORT_ID,
    Reg.LN_XPORT.VALID, Reg.LN_XPORT.KIND, Reg.LN_EVT.XPORT_DUP, Reg.LN_EVT.XPORT_BAD]
  omega

/-- The first entry of a port decides its kind; a port met twice is shown. -/
theorem Dev.xgemHeader_known {n : Nat} {h : Xgem} (hrx : d.rxOn n = true) (hfr : d.framer n = 2) (hdel : (d.line n).delin = true)
    (hp : d.xgemPass n h) (hfit : h.fits = true) (hidle : h.port ≠ 0xFFFF) (hpli : h.pli ≠ 0) (st : Strobe) {k : Nat} {r : List Nat}
    (hk : (d.xgemTaken n h).xports n h.port = k :: r) :
    let b := if r = [] then d.xgemTaken n h else (d.xgemTaken n h).put (Reg.LN_EVT.XPORT_DUP n) 1
    d.xgemHeader n h st = b.fragment n (b.fld (Reg.LN_XPORT.KIND n k)) h st := by
  intro b
  rw [Dev.xgemTaken_xports] at hk
  have htaken : (d.xgemTaken n h).fld (Reg.LN_XPORT.KIND n k) = d.fld (Reg.LN_XPORT.KIND n k) := by
    rw [Dev.fld, Dev.xgemTaken_regs, Dev.fld]
  have hb : (d.xgemTaken n h).iff (r != []) (·.ev (Reg.LN_EVT.XPORT_DUP n)) = b := by
    unfold Dev.iff
    cases r <;> rfl
  have hkind : b.fld (Reg.LN_XPORT.KIND n k) = d.fld (Reg.LN_XPORT.KIND n k) := by
    simp only [b]
    split
    · exact htaken
    · rw [Dev.fld_put_ne _ _ (xport_keys n k).2.2.2.1]
      exact htaken
  rw [Dev.xgemHeader_passes hrx hfr hdel hp, if_neg (by simp [hfit]), if_neg hidle, if_neg hpli, hk, hkind]
  dsimp only
  rw [hb]

theorem xgemHeader_clause (s : State) (n : Fin 4) (h : Xgem) (st : Strobe) (hup : s.dev.mainUp = true) {X : Dev}
    (hX : s.dev.xgemHeader n h st = X) : Does (.xgemHeader n h st) s X := .of_main_eq (exec_xgemHeader ..) hup hX

/-! ### The delivery of a service data unit -/

theorem Dev.deliverSdu_off {n kind : Nat} {old : Bool} (hk : kind ≠ 2)
    (h : d.standsBy n = true ∨ (old = true ∧ d.fld Reg.LN_LINE_MODE.MODE = 2)) (port key sfc : Nat) (spans : List (Nat × Nat))
    (b : List Byte) (st : Stamp) : d.deliverSdu n port key kind sfc spans old b st = d.bump (Reg.LN_PROT_CNT.COUNT 3) := by
  rw [Dev.deliverSdu]
  exact if_pos ⟨hk, h⟩

/-- A unit that is not discarded goes on once it is deciphered, by its kind. -/
theorem Dev.deliverSdu_on {n kind : Nat} {old : Bool} (h : ¬ (kind ≠ 2 ∧ (d.standsBy n = true ∨ (old = true ∧ d.fld Reg.LN_LINE_MODE.MODE = 2))))
    (port key sfc : Nat) (spans : List (Nat × Nat)) (b : List Byte) (st : Stamp) :
    let c := ((d.lineCnt n 8 1).lineCnt n 9 b.length).lineDecrypt n kind key sfc spans b
    d.deliverSdu n port key kind sfc spans old b st = match c.2 with
      | none => c.1
      | some p =>
        if kind = 3 then c.1.setLine n { c.1.line n with bonded := (c.1.line n).bonded ++ [{ port := port, sfc := sfc, data := p, stamp := st }] }
        else if kind = 2 then c.1.setLine n { c.1.line n with omci := (c.1.line n).omci ++ [{ port := port, sfc := sfc, data := p, stamp := st }] }
        else c.1.arrive
          { data := p.take (p.length - 4), srcKind := 3, inPort := d.devAddr * 512 + 456 + n, localIn := 456 + n, slice := n,
            encapId := port, encapCh := n, xgKind := kind, stamp := st } := by
  intro c
  rw [Dev.deliverSdu]
  refine (if_neg h).trans ?_
  rw [show ((d.lineCnt n 8 1).lineCnt n 9 b.length).lineDecrypt n kind key sfc spans b = c from rfl]
  rcases c with ⟨c, _ | p⟩ <;> rfl

theorem Dev.standsBy_iff (d : Dev) (n : Nat) : d.standsBy n = true ↔
    d.fld Reg.LN_LINE_MODE.MODE = 2 ∧ (if d.protBHere then n / 2 else n) ≠ d.fld Reg.LN_PROT_STAT.ACTIVE := by
  rw [Dev.standsBy, Bool.and_eq_true, beq_iff_eq, bne_iff_ne]

/-- A counter counts, up to its limit. -/
theorem Dev.bump_sets (d : Dev) (f : Fld) : d.Sets (d.bump f) [(f, min (2 ^ f.w - 1) (d.fld f + 1))] := by
  have hpos : 0 < 2 ^ f.w := by positivity
  exact (Dev.Sets.nil d).put_of_lt f (by omega) (by simp)

/-! ### The port table and the trace settings -/

/-- An entry of the port table as it is written. -/
def xportFlds (n i v : Nat) : List (Fld × Nat) :=
  [(Reg.LN_XPORT.PORT_ID n i, v % 2 ^ 16), (Reg.LN_XPORT.VALID n i, bits v 16 1), (Reg.LN_XPORT.KIND n i, bits v 17 2)]

theorem xportWrite_sets (d : Dev) (n i v : Nat) (y : Line) :
    (d.setLine n y).Sets ((((d.put (Reg.LN_XPORT.PORT_ID n i) v).put (Reg.LN_XPORT.VALID n i) (bit (bitOf v 16))).put (Reg.LN_XPORT.KIND n i)
      (bits v 17 2)).setLine n y) (xportFlds n i v) := by
  obtain ⟨h1, h2, h3, -⟩ := xport_keys n i
  have hset := (((Dev.Sets.nil (d.setLine n y)).put (Reg.LN_XPORT.PORT_ID n i) v (by simp)).put_of_lt (Reg.LN_XPORT.VALID n i)
    (bit_lt (bitOf v 16)) (by simpa using h1.symm)).put_of_lt (Reg.LN_XPORT.KIND n i) (v := bits v 17 2) (Nat.mod_lt _ (by decide))
    (by simpa using ⟨h3.symm, h2.symm⟩)
  rw [← bits_one_eq] at hset
  simp only [Dev.setLine_put]
  rw [← bits_one_eq]
  exact ⟨hset.1.reverse, hset.2⟩

/-- The register LN.TRACE_CTRL. -/
def traceCtrlReg : RegD := ⟨0x100030, [(4, 0x40000)], [⟨0, 4, .rw, 3⟩, ⟨4, 4, .rw, 3⟩, ⟨8, 1, .rw, 0⟩, ⟨9, 1, .rw, 0⟩]⟩

theorem find_traceCtrl : ∀ n < 4, Reg.find (Reg.LN_TRACE_CTRL.ADR n) = some traceCtrlReg := by decide

/-- The trace settings as they are written. -/
def traceFlds (n v : Nat) : List (Fld × Nat) :=
  [(Reg.LN_TRACE_CTRL.RAISE_N n, bits v 0 4), (Reg.LN_TRACE_CTRL.CLEAR_N n, bits v 4 4), (Reg.LN_TRACE_CTRL.PONID_EN n, bits v 8 1),
    (Reg.LN_TRACE_CTRL.CPROF_EN n, bits v 9 1)]

theorem traceFlds_nodup : ∀ n < 4, ((traceFlds n 0).map (fun e => e.1.key)).Nodup := by decide

theorem trace_keys (n : Nat) : (∀ k ∈ [dPonid, dCprof], ∀ x ∈ traceFlds n 0, (defFld n k).key ≠ x.1.key) ∧
    (defFld n dCprof).key ≠ (defFld n dPonid).key := by
  simp only [traceFlds, List.forall_mem_cons, List.not_mem_nil, false_imp_iff, implies_true, and_true, Fld.key, defFld, Reg.LN_DEF_STAT.ADR,
    Reg.LN_TRACE_CTRL.RAISE_N, Reg.LN_TRACE_CTRL.CLEAR_N, Reg.LN_TRACE_CTRL.PONID_EN, Reg.LN_TRACE_CTRL.CPROF_EN, dPonid, dCprof]
  omega

theorem traceCtrl_at {n : Nat} (hn : n < 4) (d : Dev) (v : Nat) :
    d.LineAt n (d.plainWrite (Reg.LN_TRACE_CTRL.ADR n) v) (d.line n) (traceFlds n v) := by
  have hlt (lo w : Nat) : bits v lo w < 2 ^ w := Nat.mod_lt _ (by positivity)
  have hset : d.Sets (d.puts (traceFlds n v)) (traceFlds n v) :=
    Dev.puts_sets (l := traceFlds n v) (traceFlds_nodup n hn) (by
      simp only [traceFlds, List.forall_mem_cons]
      exact ⟨hlt .., hlt .., hlt .., hlt .., by simp⟩) d
  have hlines : (d.puts (traceFlds n v)).lines = d.lines := congrArg (·.lines) hset.2
  have hline (k : Nat) : (d.puts (traceFlds n v)).line k = d.line k := by rw [Dev.line, hlines]; rfl
  rw [Dev.plainWrite_puts (find_traceCtrl n hn) (by decide)]
  exact ⟨hline n, fun k _ => hline k, hset.1, d.offLines_puts _⟩

/-- A written trace enable of 0 clears its defect and its runs. -/
theorem traceOff_at {n v : Nat} {x : Line} (h : e.LineAt n d x (traceFlds n v)) :
    ∃ l, e.LineAt n (d.traceOff n)
      { x with ponMis := if bits v 8 1 = 0 then 0 else x.ponMis, ponOk := if bits v 8 1 = 0 then 0 else x.ponOk
               cprMis := if bits v 9 1 = 0 then 0 else x.cprMis, cprOk := if bits v 9 1 = 0 then 0 else x.cprOk } l ∧
      ∀ y, y ∈ traceFlds n v ++ (if bits v 8 1 = 0 then [(defFld n dPonid, 0)] else []) ++ (if bits v 9 1 = 0 then [(defFld n dCprof, 0)] else [])
        ↔ y ∈ l := by
  obtain ⟨hk, hne⟩ := trace_keys n
  have hpon : d.on (Reg.LN_TRACE_CTRL.PONID_EN n) = !decide (bits v 8 1 = 0) := by
    rw [Dev.on, h.regs.1 (Reg.LN_TRACE_CTRL.PONID_EN n, bits v 8 1) (by simp [traceFlds])]
    rfl
  let xp : Line := { x with ponMis := if bits v 8 1 = 0 then 0 else x.ponMis, ponOk := if bits v 8 1 = 0 then 0 else x.ponOk }
  let lp := (if bits v 8 1 = 0 then [(defFld n dPonid, 0)] else []) ++ traceFlds n v
  let dp := d.iff (!d.on (Reg.LN_TRACE_CTRL.PONID_EN n)) (fun d => (d.setLine n { d.line n with ponMis := 0, ponOk := 0 }).defClear n dPonid)
  have hp : e.LineAt n dp xp lp := by
    simp only [dp, xp, lp, Dev.iff, hpon, Bool.not_not, decide_eq_true_eq]
    split
    · next h0 => exact (h.modify fun y => { y with ponMis := 0, ponOk := 0 }).defClear dPonid (by
        simpa [traceFlds] using hk dPonid (by simp))
    · exact h
  have hcpr : d.on (Reg.LN_TRACE_CTRL.CPROF_EN n) = !decide (bits v 9 1 = 0) := by
    rw [Dev.on, h.regs.1 (Reg.LN_TRACE_CTRL.CPROF_EN n, bits v 9 1) (by simp [traceFlds])]
    rfl
  refine ⟨(if bits v 9 1 = 0 then [(defFld n dCprof, 0)] else []) ++ lp, ?_, fun y => ?_⟩
  · have hd : d.traceOff n = dp.iff (!d.on (Reg.LN_TRACE_CTRL.CPROF_EN n)) (fun d =>
      (d.setLine n { d.line n with cprMis := 0, cprOk := 0 }).defClear n dCprof) := rfl
    rw [hd, hcpr, Bool.not_not, Dev.iff]
    simp only [decide_eq_true_eq]
    split
    · next h0 => exact (hp.modify fun y => { y with cprMis := 0, cprOk := 0 }).defClear dCprof (by
        simp only [lp, List.map_append, List.mem_append, not_or]
        refine ⟨?_, by simpa [traceFlds] using hk dCprof (by simp)⟩
        split
        · simpa using hne
        · exact List.not_mem_nil)
    · exact hp
  · simp only [lp, List.mem_append]
    exact or_comm.trans (or_congr_right or_comm)

/-- An entry of the port table that does not count as valid (R66). -/
def Dev.xportBad (d : Dev) (n i v : Nat) : Prop :=
  bits v 16 1 = 1 ∧ (bits v 17 2 = 3 ∧ d.bondHere = false ∨ bits v 17 2 = 2 ∧ ∃ j < 4096, j ≠ i ∧ d.fld (Reg.LN_XPORT.KIND n j) = 2 ∧
    d.fld (Reg.LN_XPORT.VALID n j) ≠ 0 ∧ j ∉ (d.line n).badPorts.filter (· != i))

/-- An entry written, and whether it counts as valid. -/
theorem Dev.xportWrite_eq (d : Dev) (n i v : Nat) : ∃ b : Bool, (b = true ↔ d.xportBad n i v) ∧ d.xportWrite n i v =
    if b then ((((d.put (Reg.LN_XPORT.PORT_ID n i) v).put (Reg.LN_XPORT.VALID n i) (bit (bitOf v 16))).put (Reg.LN_XPORT.KIND n i)
        (bits v 17 2)).setLine n { d.line n with badPorts := i :: (d.line n).badPorts.filter (· != i) }).iff (d.lnUp n)
          (·.ev (Reg.LN_EVT.XPORT_BAD n))
    else (((d.put (Reg.LN_XPORT.PORT_ID n i) v).put (Reg.LN_XPORT.VALID n i) (bit (bitOf v 16))).put (Reg.LN_XPORT.KIND n i)
        (bits v 17 2)).setLine n { d.line n with badPorts := (d.line n).badPorts.filter (· != i) } := by
  refine ⟨_, ?_, rfl⟩
  have hvalid : bitOf v 16 = true ↔ bits v 16 1 = 1 := by
    rw [bits_one_eq]
    cases bitOf v 16 <;> simp [bit]
  have hmem (j : Nat) : ((d.line n).badPorts.filter (· != i)).contains j = false ↔ j ∉ (d.line n).badPorts.filter (· != i) := by
    rw [← Bool.not_eq_true, List.contains_iff_mem]
  simp only [Bool.and_eq_true, Bool.or_eq_true, beq_iff_eq, Bool.not_eq_true', List.any_eq_true, List.mem_range, bne_iff_ne, Dev.on, hmem, hvalid,
    Dev.xportBad, and_assoc]

theorem Dev.xportWrite_good {n i v : Nat} (h : ¬ d.xportBad n i v) : d.xportWrite n i v =
    (((d.put (Reg.LN_XPORT.PORT_ID n i) v).put (Reg.LN_XPORT.VALID n i) (bit (bitOf v 16))).put (Reg.LN_XPORT.KIND n i)
      (bits v 17 2)).setLine n { d.line n with badPorts := (d.line n).badPorts.filter (· != i) } := by
  obtain ⟨b, hb, he⟩ := d.xportWrite_eq n i v
  rw [he, if_neg (fun hb' => h (hb.1 hb'))]

theorem Dev.xportWrite_bad {n i v : Nat} (h : d.xportBad n i v) : d.xportWrite n i v =
    ((((d.put (Reg.LN_XPORT.PORT_ID n i) v).put (Reg.LN_XPORT.VALID n i) (bit (bitOf v 16))).put (Reg.LN_XPORT.KIND n i)
      (bits v 17 2)).setLine n { d.line n with badPorts := i :: (d.line n).badPorts.filter (· != i) }).iff (d.lnUp n)
        (·.ev (Reg.LN_EVT.XPORT_BAD n)) := by
  obtain ⟨b, hb, he⟩ := d.xportWrite_eq n i v
  rw [he, if_pos (hb.2 h)]

/-- Settles O24: an XGEM header goes by its check, its port's entry and what is open of its unit; a delivered unit by its kind; the
port table and the trace settings are taken as written. -/
theorem xgemDelineationAndPortTable : Obligations.XgemDelineationAndPortTable := by
  unfold Obligations.XgemDelineationAndPortTable
  refine ⟨fun s n h st hup => ?_, fun d n port key kind sfc spans old b st => ?_, fun s m n i v hup hhere => ?_⟩
  · intro e x i pass d1 lost
    have hdoes {X : Dev} (hX : e.xgemHeader n h st = X) : Does i s X := .of_main_eq (exec_xgemHeader ..) hup hX
    have hlost {b : Dev} {c : Nat} (hb : b.regs = e.regs) (hX : e.xgemHeader n h st = (b.lineCnt n c 1).delinLost n) : lost b c := by
      obtain ⟨h1, h2, h3⟩ := (b.lineCnt n c 1).delinLost_spec n
      exact ⟨_, hdoes hX, rfl, h1, h2, h3.trans hb⟩
    refine ⟨fun hno => hdoes (if_pos ?_), fun hrx hfr hdel => ⟨fun hp => hlost rfl (Dev.xgemHeader_fails hrx hfr hdel hp st), fun hp hfit => ?_,
      fun hp hfit hidle => hdoes ?_, fun hp hfit hport hpli => hdoes ?_, fun hp hfit hport hpli => ⟨fun hx => hdoes ?_, fun k r hk => ?_⟩⟩⟩
    · rcases hno with hno | hno | hno
      · simp [hno]
      · simp [hno]
      · simp [show (e.line n).delin = false from hno]
    · refine hlost (e.xgemTaken_regs n h) ((Dev.xgemHeader_passes hrx hfr hdel hp st).trans (if_pos hfit))
    · rw [Dev.xgemHeader_passes hrx hfr hdel hp, if_neg (by simp [hfit]), if_pos hidle]
      rfl
    · rw [Dev.xgemHeader_passes hrx hfr hdel hp, if_neg (by simp [hfit]), if_neg hport, if_pos hpli]
      rfl
    · have hx' : e.xports n h.port = [] := (e.xgemTaken_xports n n h h.port).symm.trans hx
      rw [Dev.xgemHeader_passes hrx hfr hdel hp, if_neg (by simp [hfit]), if_neg hport, if_neg hpli, hx']
      rfl
    · intro b y kind part others aborted
      have hb := Dev.xgemHeader_known hrx hfr hdel hp hfit hport hpli st hk
      have hfrag {X : Dev} (hX : b.fragment n kind h st = X) : Does i s X := hdoes (hb.trans hX)
      refine ⟨fun hs => hfrag (Dev.fragment_skip hs st), fun hs hf => ?_, fun c hs hf => ?_⟩
      · have hnew := Dev.fragment_new (kind := kind) hs hf st
        refine ⟨fun hl hbig => hfrag ?_, fun hl hbig hm => hfrag ?_, fun hl hbig hm => hfrag ?_, fun hl hm => hfrag ?_,
          fun hl hm hfull => hfrag ?_, fun hl hm hfull hbig => hfrag ?_, fun hl hm hfull hbig => hfrag ?_⟩ <;> refine hnew.trans ?_
        · rw [if_pos hl, if_pos hbig]
        · rw [if_pos hl, if_neg (Nat.not_lt.2 hbig), if_pos hm]
        · rw [if_pos hl, if_neg (Nat.not_lt.2 hbig), if_neg (by simp [hm])]
        · rw [if_neg (by simp [hl]), if_pos hm]
        · rw [if_neg (by simp [hl]), if_neg (by simp [hm]), if_pos hfull]
        · rw [if_neg (by simp [hl]), if_neg (by simp [hm]), if_neg (Nat.not_le.2 hfull), if_pos hbig]
        · rw [if_neg (by simp [hl]), if_neg (by simp [hm]), if_neg (Nat.not_le.2 hfull), if_neg (Nat.not_lt.2 hbig)]
      · have hmore := Dev.fragment_more (kind := kind) hs hf st
        have hline : ((b.lineCnt n 15 1).line n).reasm = y.reasm := by
          rw [((Dev.LineAt.refl b n).lineCnt 15 1).line]
          rfl
        refine ⟨fun hm => hfrag ?_, fun hm hbig => hfrag ?_, fun hm hbig hl => hfrag ?_, fun hm hbig hl => hfrag ?_⟩ <;> refine hmore.trans ?_
        · rw [if_pos hm, Dev.abortOne_open (c := c) (by rw [hline]; exact hf), hline]
        · rw [if_neg (by simp [hm]), if_pos hbig]
        · rw [if_neg (by simp [hm]), if_neg (Nat.not_lt.2 hbig), if_pos hl]
        · rw [if_neg (by simp [hm]), if_neg (Nat.not_lt.2 hbig), if_neg (by simp [hl])]
  · intro r prot side off c y
    have hoff : off ↔ kind ≠ 2 ∧ (d.standsBy n = true ∨ (old = true ∧ d.fld Reg.LN_LINE_MODE.MODE = 2)) := by
      rw [Dev.standsBy_iff]
      simp only [off, prot, side]
      tauto
    refine ⟨fun h => ?_, fun h hc => ?_, fun p h hc => ⟨fun h3 => ?_, fun h2 => ?_, fun h2 h3 => ?_⟩⟩
    · have hr : r = d.bump (Reg.LN_PROT_CNT.COUNT 3) := Dev.deliverSdu_off (hoff.1 h).1 (hoff.1 h).2 ..
      rw [hr]
      exact d.bump_sets _
    all_goals
      have hr : r = _ := Dev.deliverSdu_on (hoff.not.1 h) port key sfc spans b st
      rw [show (((d.lineCnt n 8 1).lineCnt n 9 b.length).lineDecrypt n kind key sfc spans b).2 = _ from hc] at hr
      refine hr.trans ?_
    · rfl
    · exact if_pos h3
    · exact (if_neg (by omega)).trans (if_pos h2)
    · exact (if_neg h3).trans (if_neg h2)
  · intro e x valid kind other second bad l pon cpr t
    have hwrite := Dev.poke_LN_XPORT e m n i v hhere
    have hset (z : Line) := xportWrite_sets e n i v.toNat z
    refine ⟨fun h => .of_main_eq hup (hset _) (exec_xportWrite ..) (hwrite.trans (Dev.xportWrite_good h)), fun h => ?_, ?_⟩
    · refine .of_main_eq hup ?_ (exec_xportWrite ..) (hwrite.trans (Dev.xportWrite_bad h))
      unfold Dev.iff
      split
      · refine ((hset _).trans (Dev.ev_sets _ (Reg.LN_EVT.XPORT_BAD n) Nat.one_lt_two) fun y hy z hz => ?_)
        obtain rfl := List.mem_singleton.1 hz
        have hk := (xport_keys n i).2.2.2.2
        simp only [xportFlds, List.mem_cons, List.not_mem_nil, or_false] at hy
        rcases hy with rfl | rfl | rfl <;> exact hk _ (by simp)
      · rw [List.append_nil]
        exact hset _
    · obtain ⟨l', hat, hl⟩ := traceOff_at (traceCtrl_at n.isLt e v.toNat)
      exact .of_main_eq hup ⟨hat.regs.of_mem_iff hl, hat.line, hat.others, hat.frame⟩ (exec_traceCtrlWrite ..)
        (Dev.poke_LN_TRACE_CTRL e m n v hhere)

end Sys2Proof.Machine
end

section
/-!
PROOFS. Performance monitoring (R72, R74 to R78).
-/
namespace Sys2Proof.Machine

variable {d e : Dev}

/-! ### Several fields, each cut to its width -/

theorem Dev.puts_sets_mod {l : List (Fld × Nat)} (hn : (l.map (·.1.key)).Nodup) (d : Dev) :
    d.Sets (d.puts l) (l.map fun x => (x.1, x.2 % 2 ^ x.1.w)) := by
  induction l generalizing d with
  | nil => exact .nil d
  | cons x l ih =>
    obtain ⟨hx, hl⟩ := List.nodup_cons.1 hn
    refine (Dev.Sets.put_one d x.1 x.2).trans (ih hl _) fun y hy z' hz' h => hx ?_
    obtain rfl := List.mem_singleton.1 hy
    obtain ⟨z, hz, rfl⟩ := List.mem_map.1 hz'
    exact List.mem_map.2 ⟨z, hz, h.symm⟩

/-- Values of two words each, in the fields of their words. -/
def wideFlds (lo hi : Nat → Fld) (v : Nat → Nat) (k : Nat) : List (Fld × Nat) :=
  (List.range k).flatMap fun i => [(lo i, v i), (hi i, v i / 2 ^ 32)]

theorem Dev.each_putWide (d : Dev) (lo hi : Nat → Fld) (v : Nat → Nat) (k : Nat) :
    d.each (List.range k) (fun d i => d.putWide (lo i) (hi i) (v i)) = d.puts (wideFlds lo hi v k) := by
  unfold wideFlds
  generalize List.range k = l
  induction l generalizing d with
  | nil => rfl
  | cons i l ih => exact ih ((d.put (lo i) (v i)).put (hi i) (v i / 2 ^ 32))

/-! ### Bits set one after the other -/

/-- The word of the bits `f 0` to `f (m - 1)`. -/
def bitsFrom (f : Nat → Bool) (m : Nat) : Nat := (List.range m).foldl (fun a k => setBit a k (f k)) 0

theorem setBit_above {a i : Nat} (h : a < 2 ^ i) (b : Bool) : setBit a i b = a + 2 ^ i * bit b := by
  have hdiv : a / 2 ^ i = 0 := Nat.div_eq_of_lt h
  have hb : bit b % 2 = bit b := Nat.mod_eq_of_lt (bit_lt b)
  simp only [setBit, setBits, bits, hdiv, Nat.pow_one, hb]
  simp [Nat.mul_comm]

theorem bitsFrom_succ (f : Nat → Bool) (m : Nat) :
    bitsFrom f m < 2 ^ m ∧ bitsFrom f (m + 1) = bitsFrom f m + 2 ^ m * bit (f m) := by
  have hstep (m : Nat) (h : bitsFrom f m < 2 ^ m) : bitsFrom f (m + 1) = bitsFrom f m + 2 ^ m * bit (f m) := by
    rw [bitsFrom, List.range_succ, List.foldl_append, ← bitsFrom]
    exact setBit_above h _
  have hlt : bitsFrom f m < 2 ^ m := by
    induction m with
    | zero => exact Nat.one_pos
    | succ m ih =>
      have hb : bit (f m) ≤ 1 := Nat.le_of_lt_succ (bit_lt _)
      rw [hstep m ih, Nat.pow_succ]
      nlinarith
  exact ⟨hlt, hstep m hlt⟩

theorem bitOf_bitsFrom (f : Nat → Bool) {m k : Nat} (hk : k < m) : bitOf (bitsFrom f m) k = f k := by
  induction m with
  | zero => omega
  | succ m ih =>
    obtain ⟨hlt, hs⟩ := bitsFrom_succ f m
    rw [hs, bitOf_eq_testBit, Nat.add_comm]
    by_cases h : k = m
    · subst h
      rw [Nat.testBit_two_pow_mul_add _ hlt]
      cases f k <;> simp [bit]
    · rw [Nat.testBit_two_pow_mul_add _ hlt, if_pos (by omega), ← bitOf_eq_testBit]
      exact ih (by omega)

theorem bitsFrom_ne_zero (f : Nat → Bool) (m : Nat) : bitsFrom f m ≠ 0 ↔ (List.range m).any f = true := by
  induction m with
  | zero => simp [bitsFrom]
  | succ m ih =>
    rw [(bitsFrom_succ f m).2, List.range_succ, List.any_append, Bool.or_eq_true, ← ih]
    have hpos : 0 < 2 ^ m := by positivity
    cases hf : f m <;> simp [bit, hf]

/-! ### A bin selected (R78) -/

/-- The flags of a bin, and which it is. -/
def pmFlags (n kind index : Nat) (b : Bin) : List (Fld × Nat) :=
  [(Reg.LN_PM_SEL.KIND n, kind), (Reg.LN_PM_SEL.INDEX n, index), (Reg.LN_PM_FLAGS.VALID n, bit b.valid),
    (Reg.LN_PM_FLAGS.SUSPECT n, bit b.suspect), (Reg.LN_PM_FLAGS.ROLLED n, 0)]

/-- The words of a bin. -/
def pmData (n : Nat) (v : Nat → Nat) : List (Fld × Nat) := wideFlds (Reg.LN_PM_DATA_LO.COUNT n) (Reg.LN_PM_DATA_HI.COUNT n) v 22

/-- The fields of a selected bin in the order of their writing. -/
def pmWritten (n kind index : Nat) (b : Bin) : List (Fld × Nat) :=
  [(Reg.LN_PM_SEL.KIND n, kind), (Reg.LN_PM_SEL.INDEX n, index)] ++ (pmData n (fun k => b.cnt.getD k 0) ++
    [(Reg.LN_PM_FLAGS.VALID n, bit b.valid), (Reg.LN_PM_FLAGS.SUSPECT n, bit b.suspect), (Reg.LN_PM_FLAGS.ROLLED n, 0)])

theorem pmWritten_nodup : ∀ n < 4, ((pmWritten n 0 0 {}).map (·.1.key)).Nodup := by decide

theorem perm_pair_append {α : Type} (a b : α) (l l' : List α) : (a :: b :: (l ++ l')).Perm ([a, b] ++ (l' ++ l)) :=
  (List.perm_append_comm.cons b).cons a

theorem Dev.pmSelect_puts (d : Dev) (n kind index : Nat) : d.pmSelect n kind index =
    d.puts (pmWritten n kind index ((if kind = 0 then (d.line n).bins15 else (d.line n).bins24).getD index {})) := by
  rw [Dev.pmSelect, pmWritten, Dev.puts_append, Dev.puts_append]
  rw [Dev.each_putWide]
  rfl

theorem Dev.pmSelect_sets {n kind index : Nat} (hn : n < 4) (hk : kind < 2) (hi : index < 64) (d : Dev) :
    let b := (if kind = 0 then (d.line n).bins15 else (d.line n).bins24).getD index {}
    d.Sets (d.pmSelect n kind index) (pmFlags n kind index b ++ (List.range 22).flatMap (fun k =>
      [(Reg.LN_PM_DATA_LO.COUNT n k, b.cnt.getD k 0 % 2 ^ 32), (Reg.LN_PM_DATA_HI.COUNT n k, b.cnt.getD k 0 / 2 ^ 32 % 2 ^ 32)])) := by
  intro b
  have hset := Dev.puts_sets_mod (l := pmWritten n kind index b) (pmWritten_nodup n hn) d
  rw [← Dev.pmSelect_puts] at hset
  refine ⟨hset.1.perm ?_, hset.2⟩
  have hcut : (pmWritten n kind index b).map (fun x => (x.1, x.2 % 2 ^ x.1.w)) =
      [(Reg.LN_PM_SEL.KIND n, kind), (Reg.LN_PM_SEL.INDEX n, index)] ++ ((List.range 22).flatMap (fun k =>
        [(Reg.LN_PM_DATA_LO.COUNT n k, b.cnt.getD k 0 % 2 ^ 32), (Reg.LN_PM_DATA_HI.COUNT n k, b.cnt.getD k 0 / 2 ^ 32 % 2 ^ 32)]) ++
        [(Reg.LN_PM_FLAGS.VALID n, bit b.valid), (Reg.LN_PM_FLAGS.SUSPECT n, bit b.suspect), (Reg.LN_PM_FLAGS.ROLLED n, 0)]) := by
    have h1 : kind % 2 ^ (Reg.LN_PM_SEL.KIND n).w = kind := Nat.mod_eq_of_lt hk
    have h2 : index % 2 ^ (Reg.LN_PM_SEL.INDEX n).w = index := Nat.mod_eq_of_lt hi
    have h3 (x : Bool) : bit x % 2 ^ 1 = bit x := Nat.mod_eq_of_lt (bit_lt x)
    simp only [pmWritten, pmData, wideFlds, List.map_append, List.map_cons, List.map_nil, List.map_flatMap, h1, h2]
    exact congrArg₂ (fun x y => [(Reg.LN_PM_SEL.KIND n, kind), (Reg.LN_PM_SEL.INDEX n, index)] ++ (_ ++
      [(Reg.LN_PM_FLAGS.VALID n, x), (Reg.LN_PM_FLAGS.SUSPECT n, y), (Reg.LN_PM_FLAGS.ROLLED n, 0)])) (h3 _) (h3 _)
  rw [hcut, pmFlags]
  exact perm_pair_append _ _ [_, _, _] _

/-! ### The latch of a second (R74 to R77) -/

/-- What a running counter of a channel holds. -/
def Line.runs (x : Line) (k : Nat) : Nat := Tbl.get x.run k 0

/-- The defects of a second: those seen in it and those that stand. -/
def Dev.pmStood (d : Dev) (n k : Nat) : Bool := bitOf (d.line n).seen k || d.defect n k

/-- A second that is suspect. -/
def Dev.pmSuspect (d : Dev) (n : Nat) : Bool :=
  (d.line n).suspect || (List.range 18).any (fun k => (d.line n).runs k == 2 ^ 48 - 1) ||
    decide (1250000 < ((d.tim.ctr : Int) - (d.line n).secStart - 1250000000).natAbs) || !d.on (Reg.LN_CTRL.RX_EN n)

/-- A channel with the second shown in its registers. -/
def Dev.pmShown (d : Dev) (n : Nat) : Dev :=
  ((((d.puts (wideFlds (Reg.LN_PM1_CNT_LO.COUNT n) (Reg.LN_PM1_CNT_HI.COUNT n) (d.line n).runs 18)).put (Reg.LN_PM1_STAT.SUSPECT n)
    (bit (d.pmSuspect n))).put (Reg.LN_PM1_STAT.DEF_SEEN n) (bitsFrom (d.pmStood n) 9)).incr (Reg.LN_PM1_STAT.SEQ n)).ev
      (Reg.LN_EVT.PM1_TICK n)

/-- One defect of the bit error ratio at a second, where the receiver had codewords. -/
def Dev.berStep (d : Dev) (n k : Nat) (rx hit : Bool) (run : Nat) : Dev × Nat := if rx then d.berEval n k hit run else (d, run)

/-- Whether the estimate of a second reaches a threshold of the registers. -/
def Dev.berHit (d : Dev) (n : Nat) (m ex : Fld) : Bool :=
  berReached ((d.line n).runs 3) ((d.line n).runs 2) ((d.line n).runs 0) (d.fld m) (d.fld ex)

/-- What a second adds to a bin. -/
def Dev.pmValues (d : Dev) (n : Nat) : List Nat :=
  let live := bitsFrom (d.pmStood n) 9
  (List.range 18).map (d.line n).runs ++ [bit (live != 0), bit ((d.line n).runs 2 != 0 || (d.line n).runs 11 != 0 || live != 0),
    bit (bitOf live dLOF || bitOf live dDSD || decide (d.fld (Reg.LN_PM_CTRL.SES_N n) ≤ (d.line n).runs 2)), 1]

/-- Whether a bin closes with a second. -/
def Dev.pmCloses (d : Dev) (before : Option Nat) (period ofs : Int) : Bool :=
  d.pmHistHere && closes period ofs (secOf d.time) (before.map (fun s => (s : Int)))

/-- The bins of a kind after a second. -/
def Dev.pmBins (d : Dev) (n : Nat) (l : List Bin) (close : Bool) (full keep : Nat) : List Bin :=
  let b := if d.pmHistHere then addSecond l (d.pmValues n) (d.pmSuspect n) else l
  if close then closeBin b full keep else b

/-- The events of bins that close. -/
def Dev.pmEvents (d : Dev) (n : Nat) (c15 c24 rolled : Bool) : Dev :=
  ((d.iff c15 (·.ev (Reg.LN_EVT.PM15_CLOSE n))).iff c24 (·.ev (Reg.LN_EVT.PM24_CLOSE n))).iff rolled (·.ev (Reg.LN_PM_FLAGS.ROLLED n))

theorem Dev.pmLatch_eq (d : Dev) (before : Option Nat) (n : Nat) :
    let x := d.line n
    let rx := d.rxOn n && x.runs 0 != 0
    let p1 := (d.pmShown n).berStep n dBerSd rx (d.berHit n (Reg.LN_BER_CTRL.SD_MANT n) (Reg.LN_BER_CTRL.SD_EXP n)) x.sdRun
    let p2 := p1.1.berStep n dBerSf rx (d.berHit n (Reg.LN_BER_CTRL.SF_MANT n) (Reg.LN_BER_CTRL.SF_EXP n)) x.sfRun
    let y := p2.1.line n
    let c15 := d.pmCloses before 900 0
    let c24 := d.pmCloses before 86400 (d.dayOfs n)
    let kind := d.fld (Reg.LN_PM_SEL.KIND n)
    d.pmLatch before n = (p2.1.setLine n { y with
      run := [], seen := bitsFrom (p2.1.defect n) 9, suspect := false, secStart := d.tim.ctr, sdRun := p1.2, sfRun := p2.2
      bins15 := d.pmBins n y.bins15 c15 900 34, bins24 := d.pmBins n y.bins24 c24 86400 9 }).pmEvents n c15 c24
        ((c15 && kind == 0) || (c24 && kind == 1)) := by
  rw [Dev.pmLatch, Dev.each_putWide]
  rfl

variable {d e : Dev}

/-- Fields set after others, none of them again. -/
theorem Dev.LineAt.sets {d0 : Dev} {n : Nat} {x : Line} {l l' : List (Fld × Nat)} (h : d0.LineAt n d x l) (hs : d.Sets e l')
    (hk : ∀ y ∈ l, ∀ z ∈ l', y.1.key ≠ z.1.key) : d0.LineAt n e x (l ++ l') := by
  obtain ⟨hregs, hrest⟩ := hs
  have hlines : e.lines = d.lines := congrArg (·.lines) hrest
  have hline (k : Nat) : e.line k = d.line k := by rw [Dev.line, hlines]; rfl
  have hoff := congrArg Dev.offLines hrest
  exact ⟨(hline n).trans h.line, fun k hk' => (hline k).trans (h.others k hk'), h.regs.trans hregs hk, hoff.trans h.rest⟩

/-- The words of the counters at a second. -/
def pmCounts (n : Nat) (v : Nat → Nat) : List (Fld × Nat) := wideFlds (Reg.LN_PM1_CNT_LO.COUNT n) (Reg.LN_PM1_CNT_HI.COUNT n) v 18

theorem pmCounts_nodup : ∀ n < 4, ((pmCounts n fun _ => 0).map (·.1.key)).Nodup := by decide

/-- The fields of a second apart from its counters, the last first. -/
def pmStatFlds (n seq live sus : Nat) : List (Fld × Nat) :=
  [(Reg.LN_EVT.PM1_TICK n, 1), (Reg.LN_PM1_STAT.SEQ n, seq), (Reg.LN_PM1_STAT.DEF_SEEN n, live), (Reg.LN_PM1_STAT.SUSPECT n, sus)]

theorem pmStat_nodup : ∀ n < 4, ((pmStatFlds n 0 0 0 ++ pmCounts n fun _ => 0).map (·.1.key)).Nodup := by decide

theorem pmCounts_keys (n : Nat) (v : Nat → Nat) :
    ((pmCounts n v).map fun x => (x.1, x.2 % 2 ^ x.1.w)).map (fun e => e.1.key) = (pmCounts n fun _ => 0).map (·.1.key) := by
  simp only [pmCounts, wideFlds, List.map_flatMap, List.map_cons, List.map_nil]

/-- The fields of a second set after its counters. -/
theorem Dev.LineAt.pmStat {d0 : Dev} {n sus live : Nat} {x : Line} {l : List (Fld × Nat)} (h : d0.LineAt n d x l) (hsus : sus < 2)
    (hlive : live < 512) (hnd : ((pmStatFlds n 0 0 0 ++ l).map (·.1.key)).Nodup) :
    d0.LineAt n ((((d.put (Reg.LN_PM1_STAT.SUSPECT n) sus).put (Reg.LN_PM1_STAT.DEF_SEEN n) live).incr (Reg.LN_PM1_STAT.SEQ n)).ev
      (Reg.LN_EVT.PM1_TICK n)) x (pmStatFlds n ((d0.fld (Reg.LN_PM1_STAT.SEQ n) + 1) % 2 ^ 16) live sus ++ l) := by
  simp only [pmStatFlds, List.cons_append, List.nil_append, List.map_cons, List.nodup_cons] at hnd
  obtain ⟨h1, h2, h3, h4, -⟩ := hnd
  have hl : live % 2 ^ (Reg.LN_PM1_STAT.DEF_SEEN n).w = live := Nat.mod_eq_of_lt hlive
  have hs : sus % 2 ^ (Reg.LN_PM1_STAT.SUSPECT n).w = sus := Nat.mod_eq_of_lt hsus
  have hstat := (h.put (Reg.LN_PM1_STAT.SUSPECT n) sus h4).put (Reg.LN_PM1_STAT.DEF_SEEN n) live h3
  rw [hl, hs] at hstat
  have hseq := hstat.fld_eq (f := Reg.LN_PM1_STAT.SEQ n) h2
  rw [Dev.incr, hseq]
  exact (hstat.put (Reg.LN_PM1_STAT.SEQ n) (d0.fld (Reg.LN_PM1_STAT.SEQ n) + 1) h2).put (Reg.LN_EVT.PM1_TICK n) 1 h1

theorem Dev.pmShown_at {n : Nat} (hn : n < 4) (d : Dev) : d.LineAt n (d.pmShown n) (d.line n)
    (pmStatFlds n ((d.fld (Reg.LN_PM1_STAT.SEQ n) + 1) % 2 ^ 16) (bitsFrom (d.pmStood n) 9) (bit (d.pmSuspect n)) ++
      (pmCounts n (d.line n).runs).map fun x => (x.1, x.2 % 2 ^ x.1.w)) := by
  have hcnt := (Dev.LineAt.refl d n).sets (Dev.puts_sets_mod (l := pmCounts n (d.line n).runs) (pmCounts_nodup n hn) d) (by simp)
  rw [List.nil_append] at hcnt
  refine hcnt.pmStat (bit_lt _) (bitsFrom_succ ..).1 ?_
  have hnd := pmStat_nodup n hn
  rw [List.map_append] at hnd ⊢
  rwa [pmCounts_keys]

/-- What an estimate of the bit error ratio leaves. -/
structure Dev.BerAt (d : Dev) (n k : Nat) (rx hit : Bool) (run : Nat) (p : Dev × Nat) : Prop where
  off : rx = false → p = (d, run)
  above : rx = true → hit = true → p.1.defect n k = true ∧ p.2 = 0
  below : rx = true → hit = false → p.2 = run + 1 ∧
    p.1.defect n k = (d.defect n k && decide (run + 1 < max 1 (d.fld (Reg.LN_BER_CTRL.CLR_S n))))
  same : d.SameRegs p.1 [defFld n k, stickyFld n k]
  line : ∃ z, p.1.line n = { d.line n with seen := z }
  others : ∀ m, m ≠ n → p.1.line m = d.line m
  rest : p.1.offLines = d.offLines

theorem Dev.berStep_spec (d : Dev) {n k : Nat} (hk : k < 9) (rx hit : Bool) (run : Nat) : d.BerAt n k rx hit run (d.berStep n k rx hit run) := by
  have hsame : d.SameRegs d [defFld n k, stickyFld n k] := .refl d _
  have hline : ∃ z, d.line n = { d.line n with seen := z } := ⟨_, rfl⟩
  cases rx with
  | false => exact ⟨fun _ => rfl, nofun, nofun, hsame, hline, fun _ _ => rfl, rfl⟩
  | true =>
    cases hit with
    | true =>
      refine ⟨nofun, fun _ _ => ⟨d.defRaise_defect hk, rfl⟩, nofun, d.defRaise_same hk, ?_, fun m hm => d.defRaise_line_ne hm k,
        d.offLines_defRaise n k⟩
      show ∃ z, (d.defRaise n k).line n = _
      rw [Dev.defRaise_line]
      split
      · exact ⟨_, rfl⟩
      · exact ⟨_, rfl⟩
    | false =>
      by_cases hc : max 1 (d.fld (Reg.LN_BER_CTRL.CLR_S n)) ≤ run + 1
      · have he : d.berStep n k true false run = (d.defClear n k, run + 1) := by
          simp only [Dev.berStep, Dev.berEval, Dev.iff, hc, decide_true, if_true, Bool.false_eq_true, if_false]
        rw [he]
        refine ⟨nofun, nofun, fun _ _ => ⟨rfl, ?_⟩, fun j hj => (d.defClear_sets n k).1.2 j (by simp at hj ⊢; exact hj.1),
          ⟨_, d.defClear_lineAt n k⟩, fun m _ => d.line_put _ _ m, d.offLines_put _ _⟩
        rw [d.defClear_defect, decide_eq_false (by omega), Bool.and_false]
      · have he : d.berStep n k true false run = (d, run + 1) := by
          simp only [Dev.berStep, Dev.berEval, Dev.iff, hc, decide_false, if_true, Bool.false_eq_true, if_false]
        rw [he]
        exact ⟨nofun, nofun, fun _ _ => ⟨rfl, by rw [decide_eq_true (by omega), Bool.and_true]⟩, hsame, hline, fun _ _ => rfl, rfl⟩

/-- An event that is raised or not. -/
theorem Dev.iff_ev (d : Dev) (b : Bool) {f : Fld} (hw : f.w = 1) :
    (d.iff b (·.ev f)).fld f = (if b then 1 else d.fld f) ∧ d.SameRegs (d.iff b (·.ev f)) [f] ∧
    (d.iff b (·.ev f)).lines = d.lines ∧ (d.iff b (·.ev f)).offLines = d.offLines := by
  cases b with
  | false => exact ⟨rfl, .refl d _, rfl, rfl⟩
  | true =>
    have hset := d.ev_sets f (by rw [hw]; exact Nat.one_lt_two)
    exact ⟨hset.1.1 (f, 1) (List.mem_singleton_self _), hset.1.2, rfl, d.offLines_put f 1⟩

/-- The events of bins that close. -/
theorem Dev.pmEvents_spec (d : Dev) (n : Nat) (c15 c24 rolled : Bool) :
    let e := d.pmEvents n c15 c24 rolled
    e.fld (Reg.LN_EVT.PM15_CLOSE n) = (if c15 then 1 else d.fld (Reg.LN_EVT.PM15_CLOSE n)) ∧
    e.fld (Reg.LN_EVT.PM24_CLOSE n) = (if c24 then 1 else d.fld (Reg.LN_EVT.PM24_CLOSE n)) ∧
    e.fld (Reg.LN_PM_FLAGS.ROLLED n) = (if rolled then 1 else d.fld (Reg.LN_PM_FLAGS.ROLLED n)) ∧
    d.SameRegs e [Reg.LN_EVT.PM15_CLOSE n, Reg.LN_EVT.PM24_CLOSE n, Reg.LN_PM_FLAGS.ROLLED n] ∧ e.lines = d.lines ∧ e.offLines = d.offLines := by
  intro e
  have h1 : (Reg.LN_EVT.PM15_CLOSE n).key ≠ (Reg.LN_EVT.PM24_CLOSE n).key := Fld.key_ne rfl rfl (by decide)
  have h2 : (Reg.LN_EVT.PM15_CLOSE n).key ≠ (Reg.LN_PM_FLAGS.ROLLED n).key := Fld.key_ne rfl rfl (by decide)
  have h3 : (Reg.LN_EVT.PM24_CLOSE n).key ≠ (Reg.LN_PM_FLAGS.ROLLED n).key := Fld.key_ne rfl rfl (by decide)
  obtain ⟨v1, s1, l1, o1⟩ := d.iff_ev c15 (f := Reg.LN_EVT.PM15_CLOSE n) rfl
  obtain ⟨v2, s2, l2, o2⟩ := (d.iff c15 (·.ev (Reg.LN_EVT.PM15_CLOSE n))).iff_ev c24 (f := Reg.LN_EVT.PM24_CLOSE n) rfl
  obtain ⟨v3, s3, l3, o3⟩ := ((d.iff c15 (·.ev (Reg.LN_EVT.PM15_CLOSE n))).iff c24 (·.ev (Reg.LN_EVT.PM24_CLOSE n))).iff_ev rolled
    (f := Reg.LN_PM_FLAGS.ROLLED n) rfl
  refine ⟨?_, ?_, ?_, ?_, l3.trans (l2.trans l1), o3.trans (o2.trans o1)⟩
  · exact (s3.fld_eq (by simpa using h2)).trans ((s2.fld_eq (by simpa using h1)).trans v1)
  · rw [← s1.fld_eq (f := Reg.LN_EVT.PM24_CLOSE n) (by simpa using h1.symm), ← v2]
    exact s3.fld_eq (by simpa using h3)
  · rw [← s1.fld_eq (f := Reg.LN_PM_FLAGS.ROLLED n) (by simpa using h2.symm), ← s2.fld_eq (f := Reg.LN_PM_FLAGS.ROLLED n) (by simpa using h3.symm)]
    exact v3
  · exact Dev.SameRegs.trans (Dev.SameRegs.trans s1 s2 (fun _ h => h)) s3 (fun _ h => h)

variable {d e : Dev}

/-- A field that a second does not show keeps its value as the second is shown. -/
theorem Dev.pmShown_fld {n : Nat} (hn : n < 4) (d : Dev) {f : Fld} {o i w : Nat} (hf : f = ⟨o + n * 0x40000, i, w⟩) (hi : i < 32)
    (ht : o ≠ 0x100068 ∨ i ≠ 4) (ho : o < 0x100200 ∨ 0x1002F0 < o) : (d.pmShown n).fld f = d.fld f := by
  refine (Dev.pmShown_at hn d).fld_eq ?_
  subst hf
  rw [List.map_append, pmCounts_keys, List.mem_append, not_or]
  constructor
  · simp only [pmStatFlds, List.map_cons, List.map_nil, List.mem_cons, List.not_mem_nil, or_false, Fld.key, Reg.LN_EVT.PM1_TICK,
      Reg.LN_PM1_STAT.SEQ, Reg.LN_PM1_STAT.DEF_SEEN, Reg.LN_PM1_STAT.SUSPECT]
    omega
  · simp only [pmCounts, wideFlds, List.map_flatMap, List.map_cons, List.map_nil, List.mem_flatMap, List.mem_range, List.mem_cons,
      List.not_mem_nil, or_false, Fld.key, Reg.LN_PM1_CNT_LO.COUNT, Reg.LN_PM1_CNT_HI.COUNT, not_exists, not_and]
    intro k hk
    omega

theorem bit_eq_ite {b : Bool} {P : Prop} [Decidable P] (h : b = true ↔ P) : bit b = if P then 1 else 0 := by
  by_cases hp : P
  · rw [if_pos hp, h.2 hp]; rfl
  · rw [if_neg hp, Bool.eq_false_iff.2 fun hb => hp (h.1 hb)]; rfl

theorem closes_iff (period ofs sec : Int) (before : Option Nat) : closes period ofs sec (before.map (fun s => (s : Int))) = true ↔
    (before = none ∧ (sec - ofs) % period = 0) ∨ ∃ b : Nat, before = some b ∧ (sec - ofs) / period ≠ (b - ofs) / period := by
  cases before with
  | none => simp [closes]
  | some b => simp [closes]

theorem Dev.pmSuspect_iff (d : Dev) (n : Nat) : d.pmSuspect n = true ↔ (d.line n).suspect = true ∨
    (∃ k < 18, Tbl.get (d.line n).run k 0 = 2 ^ 48 - 1) ∨
    1250000 < ((d.tim.ctr : Int) - (d.line n).secStart - 1250000000).natAbs ∨ d.on (Reg.LN_CTRL.RX_EN n) = false := by
  simp only [Dev.pmSuspect, Line.runs, Bool.or_eq_true, List.any_eq_true, List.mem_range, beq_iff_eq, decide_eq_true_eq, Bool.not_eq_true', or_assoc]

/-- What a second adds to a bin, by the place of the count. -/
theorem Dev.pmValues_at (d : Dev) (n : Nat) {k : Nat} (hk : k < 22) :
    let c := (d.line n).runs
    let any := (List.range 9).any (d.pmStood n)
    (d.pmValues n).getD k 0 = if k < 18 then c k else if k = 18 then bit any
      else if k = 19 then (if c 2 ≠ 0 ∨ c 11 ≠ 0 ∨ any = true then 1 else 0)
      else if k = 20 then (if d.pmStood n dLOF = true ∨ d.pmStood n dDSD = true ∨ d.fld (Reg.LN_PM_CTRL.SES_N n) ≤ c 2 then 1 else 0)
      else 1 := by
  intro c any
  have hlive : (bitsFrom (d.pmStood n) 9 != 0) = any := by
    rw [Bool.eq_iff_iff, bne_iff_ne, bitsFrom_ne_zero]
  have hlen : ((List.range 18).map (d.line n).runs).length = 18 := by simp
  unfold Dev.pmValues
  dsimp only
  rw [hlive, bitOf_bitsFrom _ (by decide), bitOf_bitsFrom _ (by decide)]
  by_cases h : k < 18
  · rw [List.getD_append _ _ _ _ (by rw [hlen]; exact h), if_pos h]
    simp [List.getD, h, c]
  · rw [List.getD_append_right _ _ _ _ (by rw [hlen]; omega), hlen, if_neg h]
    obtain rfl | rfl | rfl | rfl : k = 18 ∨ k = 19 ∨ k = 20 ∨ k = 21 := by omega
    · rfl
    · refine bit_eq_ite ?_
      simp only [Bool.or_eq_true, bne_iff_ne, or_assoc]
      rfl
    · refine bit_eq_ite ?_
      simp only [Bool.or_eq_true, decide_eq_true_eq, or_assoc]
      rfl
    · rfl

theorem addSecond_cons (b : Bin) (r : List Bin) (v : List Nat) (g : Nat → Nat) (hv : ∀ k < 22, v.getD k 0 = g k) (sus : Bool) :
    addSecond (b :: r) v sus = ⟨(List.range 22).map (fun k => min (2 ^ 64 - 1) (b.cnt.getD k 0 + g k)), b.suspect || sus, true⟩ :: r := by
  have hmap : binAdd b.cnt v = (List.range 22).map (fun k => min (2 ^ 64 - 1) (b.cnt.getD k 0 + g k)) :=
    List.map_congr_left fun k hk => by rw [hv k (List.mem_range.1 hk)]
  rw [addSecond, hmap]

/-- The fields that an estimate of the bit error ratio may set. -/
def berFlds (n : Nat) : List Fld := [defFld n dBerSd, stickyFld n dBerSd, defFld n dBerSf, stickyFld n dBerSf]

/-- The events of a second's bins. -/
def pmEventFlds (n : Nat) : List Fld := [Reg.LN_EVT.PM15_CLOSE n, Reg.LN_EVT.PM24_CLOSE n, Reg.LN_PM_FLAGS.ROLLED n]

/-- The channel after the estimates of a second. -/
def Dev.pmRated (d : Dev) (n : Nat) : (Dev × Nat) × (Dev × Nat) :=
  let x := d.line n
  let rx := d.rxOn n && x.runs 0 != 0
  let p1 := (d.pmShown n).berStep n dBerSd rx (d.berHit n (Reg.LN_BER_CTRL.SD_MANT n) (Reg.LN_BER_CTRL.SD_EXP n)) x.sdRun
  (p1, p1.1.berStep n dBerSf rx (d.berHit n (Reg.LN_BER_CTRL.SF_MANT n) (Reg.LN_BER_CTRL.SF_EXP n)) x.sfRun)

/-- A second at a channel, after the estimates. -/
structure Dev.PmAt (d : Dev) (before : Option Nat) (n : Nat) (e : Dev) : Prop where
  line : ∃ z, e.line n = { d.line n with
    run := [], seen := z, suspect := false, secStart := d.tim.ctr, sdRun := (d.pmRated n).1.2, sfRun := (d.pmRated n).2.2
    bins15 := d.pmBins n (d.line n).bins15 (d.pmCloses before 900 0) 900 34
    bins24 := d.pmBins n (d.line n).bins24 (d.pmCloses before 86400 (d.dayOfs n)) 86400 9 }
  others : ∀ k, k ≠ n → e.line k = d.line k
  fld : ∀ f : Fld, f.key ∉ (berFlds n).map Fld.key → f.key ∉ (pmEventFlds n).map Fld.key → e.fld f = (d.pmShown n).fld f
  ber : ∀ f : Fld, f.key ∉ (pmEventFlds n).map Fld.key → e.fld f = (d.pmRated n).2.1.fld f
  m15 : e.fld (Reg.LN_EVT.PM15_CLOSE n) = if d.pmCloses before 900 0 then 1 else d.fld (Reg.LN_EVT.PM15_CLOSE n)
  h24 : e.fld (Reg.LN_EVT.PM24_CLOSE n) = if d.pmCloses before 86400 (d.dayOfs n) then 1 else d.fld (Reg.LN_EVT.PM24_CLOSE n)
  rolled : e.fld (Reg.LN_PM_FLAGS.ROLLED n) =
    if (d.pmCloses before 900 0 && d.fld (Reg.LN_PM_SEL.KIND n) == 0) ||
      (d.pmCloses before 86400 (d.dayOfs n) && d.fld (Reg.LN_PM_SEL.KIND n) == 1) then 1 else d.fld (Reg.LN_PM_FLAGS.ROLLED n)

theorem pm_keys (n : Nat) : (∀ f ∈ pmEventFlds n, f.key ∉ (berFlds n).map Fld.key) := by
  simp only [pmEventFlds, List.forall_mem_cons, List.not_mem_nil, false_imp_iff, implies_true, and_true]
  simp only [berFlds, List.map_cons, List.map_nil, List.mem_cons, List.not_mem_nil, or_false, Fld.key, Reg.LN_EVT.PM15_CLOSE, Reg.LN_EVT.PM24_CLOSE, Reg.LN_PM_FLAGS.ROLLED, defFld, stickyFld,
    Reg.LN_DEF_STAT.ADR, Reg.LN_DEF_STICKY.ADR, dBerSd, dBerSf]
  omega

theorem Dev.pmLatch_at {n : Nat} (hn : n < 4) (d : Dev) (before : Option Nat) : d.PmAt before n (d.pmLatch before n) := by
  have hshown := Dev.pmShown_at hn d
  have hb1 := (d.pmShown n).berStep_spec (n := n) (k := dBerSd) (by decide) (d.rxOn n && (d.line n).runs 0 != 0)
    (d.berHit n (Reg.LN_BER_CTRL.SD_MANT n) (Reg.LN_BER_CTRL.SD_EXP n)) (d.line n).sdRun
  have hb2 := (d.pmRated n).1.1.berStep_spec (n := n) (k := dBerSf) (by decide) (d.rxOn n && (d.line n).runs 0 != 0)
    (d.berHit n (Reg.LN_BER_CTRL.SF_MANT n) (Reg.LN_BER_CTRL.SF_EXP n)) (d.line n).sfRun
  have hsame : (d.pmShown n).SameRegs (d.pmRated n).2.1 (berFlds n) := Dev.SameRegs.trans hb1.same hb2.same fun _ h => h
  have hline : ∃ z, (d.pmRated n).2.1.line n = { d.line n with seen := z } := by
    obtain ⟨z1, h1⟩ := hb1.line
    obtain ⟨z2, h2⟩ := hb2.line
    have h1' : (d.pmRated n).1.1.line n = { d.line n with seen := z1 } := by
      rw [← hshown.line]
      exact h1
    have h2' : (d.pmRated n).2.1.line n = { (d.pmRated n).1.1.line n with seen := z2 } := h2
    exact ⟨z2, by rw [h2', h1']⟩
  obtain ⟨z, hline⟩ := hline
  let y := (d.pmRated n).2.1.line n
  let c := (d.pmRated n).2.1.setLine n { y with
      run := [], seen := bitsFrom ((d.pmRated n).2.1.defect n) 9, suspect := false, secStart := d.tim.ctr, sdRun := (d.pmRated n).1.2
      sfRun := (d.pmRated n).2.2, bins15 := d.pmBins n y.bins15 (d.pmCloses before 900 0) 900 34
      bins24 := d.pmBins n y.bins24 (d.pmCloses before 86400 (d.dayOfs n)) 86400 9 }
  have heq : d.pmLatch before n = c.pmEvents n (d.pmCloses before 900 0) (d.pmCloses before 86400 (d.dayOfs n))
      ((d.pmCloses before 900 0 && d.fld (Reg.LN_PM_SEL.KIND n) == 0) ||
        (d.pmCloses before 86400 (d.dayOfs n) && d.fld (Reg.LN_PM_SEL.KIND n) == 1)) := d.pmLatch_eq before n
  obtain ⟨h15, h24, hroll, hev, hlines, -⟩ := c.pmEvents_spec n (d.pmCloses before 900 0) (d.pmCloses before 86400 (d.dayOfs n))
      ((d.pmCloses before 900 0 && d.fld (Reg.LN_PM_SEL.KIND n) == 0) ||
        (d.pmCloses before 86400 (d.dayOfs n) && d.fld (Reg.LN_PM_SEL.KIND n) == 1))
  rw [← heq] at h15 h24 hroll hev hlines
  have hfld (f : Fld) (hf : f ∈ pmEventFlds n) (hd : (d.pmShown n).fld f = d.fld f) : c.fld f = d.fld f :=
    (hsame.fld_eq (pm_keys n f hf)).trans hd
  have hat (k : Nat) : (d.pmLatch before n).line k = c.line k := by rw [Dev.line, hlines]; rfl
  refine ⟨⟨bitsFrom ((d.pmRated n).2.1.defect n) 9, ?_⟩, fun k hk => ?_, fun f hb he => (hev.fld_eq he).trans (hsame.fld_eq hb),
    fun f he => hev.fld_eq he, ?_, ?_, ?_⟩
  · rw [hat, Dev.line_setLine, show y = _ from hline]
  · have h2 : (d.pmRated n).2.1.line k = (d.pmRated n).1.1.line k := hb2.others k hk
    have h1 : (d.pmRated n).1.1.line k = (d.pmShown n).line k := hb1.others k hk
    rw [hat, Dev.line_setLine_ne _ _ _ hk, h2, h1, hshown.others k hk]
  · rw [h15, hfld (Reg.LN_EVT.PM15_CLOSE n) (by simp [pmEventFlds]) (d.pmShown_fld hn rfl (by decide) (.inr (by decide)) (.inl (by decide)))]
  · rw [h24, hfld (Reg.LN_EVT.PM24_CLOSE n) (by simp [pmEventFlds]) (d.pmShown_fld hn rfl (by decide) (.inr (by decide)) (.inl (by decide)))]
  · rw [hroll, hfld (Reg.LN_PM_FLAGS.ROLLED n) (by simp [pmEventFlds]) (d.pmShown_fld hn rfl (by decide) (.inl (by decide)) (.inr (by decide)))]

theorem defect_keys (n : Nat) : (defFld n dBerSd).key ∉ [defFld n dBerSf, stickyFld n dBerSf].map Fld.key ∧
    (defFld n dBerSf).key ∉ [defFld n dBerSd, stickyFld n dBerSd].map Fld.key ∧
    (Reg.LN_BER_CTRL.CLR_S n).key ∉ [defFld n dBerSd, stickyFld n dBerSd].map Fld.key ∧
    (defFld n dBerSd).key ∉ (pmEventFlds n).map Fld.key ∧ (defFld n dBerSf).key ∉ (pmEventFlds n).map Fld.key := by
  simp only [pmEventFlds, List.map_cons, List.map_nil, List.mem_cons, List.not_mem_nil, or_false, Fld.key, Reg.LN_EVT.PM15_CLOSE,
    Reg.LN_EVT.PM24_CLOSE, Reg.LN_PM_FLAGS.ROLLED, defFld, stickyFld, Reg.LN_DEF_STAT.ADR, Reg.LN_DEF_STICKY.ADR, dBerSd, dBerSf,
    Reg.LN_BER_CTRL.CLR_S]
  omega

theorem Dev.defect_of_fld {d e : Dev} {n k : Nat} (h : e.fld (defFld n k) = d.fld (defFld n k)) : e.defect n k = d.defect n k := by
  rw [Dev.defect, Dev.on, h]
  rfl

/-- One defect of the bit error ratio, and its run of seconds, after a second. -/
def Dev.BerDone (d : Dev) (n k : Nat) (rx hit : Bool) (run is : Nat) (e : Dev) : Prop :=
  (rx = false → e.defect n k = d.defect n k ∧ is = run) ∧
  (rx = true → (hit = true → e.defect n k = true ∧ is = 0) ∧
    (hit = false → is = run + 1 ∧ e.defect n k = (d.defect n k && decide (run + 1 < max 1 (d.fld (Reg.LN_BER_CTRL.CLR_S n))))))

theorem Dev.BerAt.done {b : Dev} {n k : Nat} {rx hit : Bool} {run : Nat} {p : Dev × Nat} (h : b.BerAt n k rx hit run p)
    (hd : b.defect n k = d.defect n k) (hc : b.fld (Reg.LN_BER_CTRL.CLR_S n) = d.fld (Reg.LN_BER_CTRL.CLR_S n))
    (he : e.defect n k = p.1.defect n k) : d.BerDone n k rx hit run p.2 e := by
  refine ⟨fun hr => ?_, fun hr => ⟨fun hh => ?_, fun hh => ?_⟩⟩
  · rw [he, h.off hr]
    exact ⟨hd, rfl⟩
  · rw [he]
    exact h.above hr hh
  · rw [he, ← hd, ← hc]
    exact h.below hr hh

/-- The defects of the bit error ratio after a second. -/
theorem Dev.pmLatch_ber {n : Nat} (hn : n < 4) (d : Dev) (before : Option Nat) :
    d.BerDone n dBerSd (d.rxOn n && (d.line n).runs 0 != 0) (d.berHit n (Reg.LN_BER_CTRL.SD_MANT n) (Reg.LN_BER_CTRL.SD_EXP n))
      (d.line n).sdRun (d.pmRated n).1.2 (d.pmLatch before n) ∧
    d.BerDone n dBerSf (d.rxOn n && (d.line n).runs 0 != 0) (d.berHit n (Reg.LN_BER_CTRL.SF_MANT n) (Reg.LN_BER_CTRL.SF_EXP n))
      (d.line n).sfRun (d.pmRated n).2.2 (d.pmLatch before n) := by
  have hb1 := (d.pmShown n).berStep_spec (n := n) (k := dBerSd) (by decide) (d.rxOn n && (d.line n).runs 0 != 0)
    (d.berHit n (Reg.LN_BER_CTRL.SD_MANT n) (Reg.LN_BER_CTRL.SD_EXP n)) (d.line n).sdRun
  have hb2 := (d.pmRated n).1.1.berStep_spec (n := n) (k := dBerSf) (by decide) (d.rxOn n && (d.line n).runs 0 != 0)
    (d.berHit n (Reg.LN_BER_CTRL.SF_MANT n) (Reg.LN_BER_CTRL.SF_EXP n)) (d.line n).sfRun
  obtain ⟨hk1, hk2, hk3, hk4, hk5⟩ := defect_keys n
  have hshown (k : Nat) (hk : k < 32) : (d.pmShown n).defect n k = d.defect n k :=
    Dev.defect_of_fld (d.pmShown_fld hn rfl hk (.inl (by decide)) (.inl (by decide)))
  have hclr : (d.pmShown n).fld (Reg.LN_BER_CTRL.CLR_S n) = d.fld (Reg.LN_BER_CTRL.CLR_S n) :=
    d.pmShown_fld hn rfl (by decide) (.inl (by decide)) (.inl (by decide))
  have hat := Dev.pmLatch_at hn d before
  refine ⟨hb1.done (hshown _ (by decide)) hclr ?_, hb2.done ?_ ?_ (Dev.defect_of_fld (hat.ber _ hk5))⟩
  · exact Dev.defect_of_fld ((hat.ber _ hk4).trans (hb2.same.fld_eq hk1))
  · exact (Dev.defect_of_fld (hb1.same.fld_eq hk2)).trans (hshown _ (by decide))
  · exact (hb1.same.fld_eq hk3).trans hclr

/-- The bins of a kind that has a current one. -/
theorem Dev.pmBins_cons {n : Nat} (hh : d.pmHistHere = true) (b : Bin) (r : List Bin) (close : Bool) (full keep : Nat) (g : Nat → Nat)
    (hg : ∀ k < 22, (d.pmValues n).getD k 0 = g k) :
    let sum : Bin := ⟨(List.range 22).map (fun k => min (2 ^ 64 - 1) (b.cnt.getD k 0 + g k)), b.suspect || d.pmSuspect n, true⟩
    d.pmBins n (b :: r) close full (keep + 1) =
      if close then ({} : Bin) :: ({ sum with suspect := sum.suspect || sum.cnt.getD 21 0 != full } :: r).take keep else sum :: r := by
  intro sum
  unfold Dev.pmBins
  rw [if_pos hh, addSecond_cons b r _ g hg]
  rfl

theorem Dev.pmBins_none {n : Nat} (hh : d.pmHistHere = false) (before : Option Nat) (l : List Bin) (p o : Int) (full keep : Nat) :
    d.pmBins n l (d.pmCloses before p o) full keep = l := by
  unfold Dev.pmBins Dev.pmCloses
  rw [hh]
  rfl

theorem Dev.pmCloses_iff (hh : d.pmHistHere = true) (before : Option Nat) (period ofs : Int) : d.pmCloses before period ofs = true ↔
    (before = none ∧ ((secOf d.time : Int) - ofs) % period = 0) ∨
      ∃ b : Nat, before = some b ∧ ((secOf d.time : Int) - ofs) / period ≠ (b - ofs) / period := by
  rw [Dev.pmCloses, hh, Bool.true_and, closes_iff]

theorem Dev.dayOfs_int (d : Dev) (n : Nat) :
    ((d.dayOfs n : Nat) : Int) = if 86399 < d.fld (Reg.LN_PM_CTRL.DAY_OFS n) then 0 else (d.fld (Reg.LN_PM_CTRL.DAY_OFS n) : Int) := by
  unfold Dev.dayOfs
  dsimp only
  split <;> rfl

theorem pmStat_keys (n : Nat) : ∀ f ∈ [Reg.LN_EVT.PM1_TICK n, Reg.LN_PM1_STAT.SEQ n, Reg.LN_PM1_STAT.DEF_SEEN n, Reg.LN_PM1_STAT.SUSPECT n],
    f.key ∉ (berFlds n).map Fld.key ∧ f.key ∉ (pmEventFlds n).map Fld.key := by
  simp only [List.forall_mem_cons, List.not_mem_nil, false_imp_iff, implies_true, and_true]
  simp only [pmEventFlds, berFlds, List.map_cons, List.map_nil, List.mem_cons, List.not_mem_nil, or_false, Fld.key, Reg.LN_EVT.PM1_TICK,
    Reg.LN_PM1_STAT.SEQ, Reg.LN_PM1_STAT.DEF_SEEN, Reg.LN_PM1_STAT.SUSPECT, Reg.LN_EVT.PM15_CLOSE, Reg.LN_EVT.PM24_CLOSE,
    Reg.LN_PM_FLAGS.ROLLED, defFld, stickyFld, Reg.LN_DEF_STAT.ADR, Reg.LN_DEF_STICKY.ADR, dBerSd, dBerSf]
  omega

theorem pmCount_keys (n k : Nat) : ∀ f ∈ [Reg.LN_PM1_CNT_LO.COUNT n k, Reg.LN_PM1_CNT_HI.COUNT n k],
    f.key ∉ (berFlds n).map Fld.key ∧ f.key ∉ (pmEventFlds n).map Fld.key := by
  simp only [List.forall_mem_cons, List.not_mem_nil, false_imp_iff, implies_true, and_true]
  simp only [pmEventFlds, berFlds, List.map_cons, List.map_nil, List.mem_cons, List.not_mem_nil, or_false, Fld.key,
    Reg.LN_PM1_CNT_LO.COUNT, Reg.LN_PM1_CNT_HI.COUNT, Reg.LN_EVT.PM15_CLOSE, Reg.LN_EVT.PM24_CLOSE,
    Reg.LN_PM_FLAGS.ROLLED, defFld, stickyFld, Reg.LN_DEF_STAT.ADR, Reg.LN_DEF_STICKY.ADR, dBerSd, dBerSf]
  omega

/-- The registers of a second. -/
theorem Dev.pmLatch_flds {n : Nat} (hn : n < 4) (d : Dev) (before : Option Nat) :
    let e := d.pmLatch before n
    e.fld (Reg.LN_EVT.PM1_TICK n) = 1 ∧ e.fld (Reg.LN_PM1_STAT.SEQ n) = (d.fld (Reg.LN_PM1_STAT.SEQ n) + 1) % 2 ^ 16 ∧
    e.fld (Reg.LN_PM1_STAT.SUSPECT n) = bit (d.pmSuspect n) ∧ e.fld (Reg.LN_PM1_STAT.DEF_SEEN n) = bitsFrom (d.pmStood n) 9 ∧
    ∀ k < 18, (d.line n).runs k < 2 ^ 48 → e.wide (Reg.LN_PM1_CNT_LO.COUNT n k) (Reg.LN_PM1_CNT_HI.COUNT n k) = (d.line n).runs k := by
  intro e
  have hat := Dev.pmLatch_at hn d before
  have hshown := (Dev.pmShown_at hn d).regs.1
  have hkeys := pmStat_keys n
  have hval {f : Fld} {w : Nat} (hk : f.key ∉ (berFlds n).map Fld.key ∧ f.key ∉ (pmEventFlds n).map Fld.key)
      (hf : (d.pmShown n).fld f = w) : e.fld f = w := (hat.fld f hk.1 hk.2).trans hf
  obtain ⟨hstat, hcnt⟩ := List.forall_mem_append.1 hshown
  simp only [pmStatFlds, List.forall_mem_cons] at hstat
  obtain ⟨h1, h2, h3, h4, -⟩ := hstat
  refine ⟨hval (hkeys _ (by simp)) h1, hval (hkeys _ (by simp)) h2, hval (hkeys _ (by simp)) h4, hval (hkeys _ (by simp)) h3,
    fun k hk hlt => ?_⟩
  have hmem (x : Fld × Nat) (hx : x ∈ [(Reg.LN_PM1_CNT_LO.COUNT n k, (d.line n).runs k), (Reg.LN_PM1_CNT_HI.COUNT n k, (d.line n).runs k / 2 ^ 32)]) :
      (d.pmShown n).fld x.1 = x.2 % 2 ^ x.1.w :=
    hcnt _ (List.mem_map_of_mem (List.mem_flatMap.2 ⟨k, List.mem_range.2 hk, hx⟩))
  have hlo := hval (pmCount_keys n k _ (by simp)) (hmem _ (List.mem_cons_self))
  have hhi := hval (pmCount_keys n k _ (by simp)) (hmem (Reg.LN_PM1_CNT_HI.COUNT n k, (d.line n).runs k / 2 ^ 32) (by simp))
  dsimp only at hlo hhi
  rw [Dev.wide, hlo, hhi]
  have e1 : (Reg.LN_PM1_CNT_LO.COUNT n k).w = 32 := rfl
  have e2 : (Reg.LN_PM1_CNT_HI.COUNT n k).w = 16 := rfl
  rw [e1, e2]
  omega

/-- Settles O25: a second goes through the registers, the defects of the bit error ratio and the bins, one after the other. -/
theorem performanceMonitoring : Obligations.PerformanceMonitoring := by
  unfold Obligations.PerformanceMonitoring
  refine ⟨fun s m n v hup hhere hhist => ?_, fun s dt hup => .of_main_eq (exec_pmLatch ..) hup rfl, fun d before n hruns => ?_⟩
  · intro x b
    exact .of_main_eq hup (Dev.pmSelect_sets n.isLt (Nat.mod_lt _ (by decide)) (Nat.mod_lt _ (by decide)) s.dev) (exec_pmSelWrite ..)
      (Dev.poke_LN_PM_SEL s.dev m n v hhere hhist)
  · intro x e len odd
    have hat : d.PmAt before n e := Dev.pmLatch_at n.isLt d before
    obtain ⟨z, hline⟩ := hat.line
    obtain ⟨htick, hseq, hsus, hlive, hcnt⟩ := Dev.pmLatch_flds n.isLt d before
    have hodd : d.pmSuspect n = true ↔ odd := d.pmSuspect_iff n
    refine ⟨by rw [hline], by rw [hline], by rw [hline], htick, hseq,
      fun h => ?_, fun h => ?_, fun k hk => ?_, fun k hk => hcnt k hk (hruns k hk), hat.others, ?_⟩
    · rw [hsus, hodd.2 h]; rfl
    · rw [hsus, Bool.eq_false_iff.2 fun hb => h (hodd.1 hb)]; rfl
    · rw [hlive, bitOf_bitsFrom _ hk]; rfl
    · intro c ber
      obtain ⟨hsd, hsf⟩ := d.pmLatch_ber n.isLt before
      have hrx : (d.rxOn n && x.runs 0 != 0) = false ↔ d.rxOn n = false ∨ c 0 = 0 := by
        rw [Bool.and_eq_false_iff, bne_eq_false_iff_eq]
        rfl
      have hber {k m ex was is : Nat} {hit : Bool} (h : d.BerDone n k (d.rxOn n && x.runs 0 != 0) hit was is e)
          (hhit : hit = true ↔ max 1 m * (17280 * c 0) ≤ (c 3 + 1728 * c 2) * 10 ^ ex) : ber k m ex was is := by
        refine ⟨fun h0 => h.1 (hrx.2 h0), fun h1 h0 => ?_⟩
        have hon := h.2 (by simpa using ⟨h1, h0⟩)
        exact ⟨fun hr => hon.1 (hhit.2 hr), fun hr => hon.2 (Bool.eq_false_iff.2 fun hb => hr (hhit.1 hb))⟩
      refine ⟨by rw [hline]; exact hber hsd decide_eq_true_iff, by rw [hline]; exact hber hsf decide_eq_true_iff, ?_⟩
      intro stood any sus es ses v sum day sec due kept kind
      have hbool : sus = d.pmSuspect n := by
        have hs : e.fld (Reg.LN_PM1_STAT.SUSPECT n) = bit (d.pmSuspect n) := hsus
        simp only [sus, hs]
        cases d.pmSuspect n <;> rfl
      have hv (k : Nat) (hk : k < 22) : (d.pmValues n).getD k 0 = v k := d.pmValues_at n hk
      have hbins (l : List Bin) (full keep : Nat) (close : Bool) (cl : Prop) (hcl : close = true ↔ cl) (hh : d.pmHistHere = true) :
          kept l (d.pmBins n l close full (keep + 1)) cl full keep := by
        rintro b r rfl
        rw [Dev.pmBins_cons hh b r close full keep v hv, ← hbool]
        exact ⟨fun h => if_neg fun hb => h (hcl.1 hb), fun h => if_pos (hcl.2 h)⟩
      have hday : ((d.dayOfs n : Nat) : Int) = day := d.dayOfs_int n
      refine ⟨fun hh => ?_, fun hh => ?_⟩
      · rw [hline]
        exact ⟨Dev.pmBins_none hh .., Dev.pmBins_none hh ..⟩
      · have h15 : d.pmCloses before 900 0 = true ↔ due 900 0 := Dev.pmCloses_iff hh before 900 0
        have h24 : d.pmCloses before 86400 (d.dayOfs n) = true ↔ due 86400 day := by
          rw [← hday]
          exact Dev.pmCloses_iff hh before 86400 _
        have hroll : ((d.pmCloses before 900 0 && d.fld (Reg.LN_PM_SEL.KIND n) == 0) ||
            (d.pmCloses before 86400 (d.dayOfs n) && d.fld (Reg.LN_PM_SEL.KIND n) == 1)) = true ↔
            due 900 0 ∧ kind = 0 ∨ due 86400 day ∧ kind = 1 := by
          rw [Bool.or_eq_true, Bool.and_eq_true, Bool.and_eq_true, h15, h24, beq_iff_eq, beq_iff_eq]
        refine ⟨?_, ?_, fun h => hat.m15.trans (if_pos (h15.2 h)), fun h => hat.h24.trans (if_pos (h24.2 h)),
          fun h => hat.rolled.trans (if_pos (hroll.2 h)), fun h => hat.m15.trans (if_neg fun hb => h (h15.1 hb)),
          fun h => hat.h24.trans (if_neg fun hb => h (h24.1 hb)), fun h => hat.rolled.trans (if_neg fun hb => h (hroll.1 hb))⟩
        · rw [hline]
          exact hbins _ 900 33 _ _ h15 hh
        · rw [hline]
          exact hbins _ 86400 8 _ _ h24 hh

end Sys2Proof.Machine
end

section
/-!
PROOFS. The activation machine of a line channel and the Tender (R80 to R91).
-/
namespace Sys2Proof.Machine

variable {d e : Dev}

/-! ### The hidden state of the machines -/

theorem Tbl.set_set {α : Type} (t : Tbl α) (k : Nat) (v w : α) : Tbl.set (Tbl.set t k v) k w = Tbl.set t k w := by
  induction t with
  | nil => simp [Tbl.set]
  | cons x r ih =>
    obtain ⟨k', v'⟩ := x
    simp only [Tbl.set]
    split
    · simp [Tbl.set]
    · split
      · simp [Tbl.set]
      · next h1 h2 => simp only [Tbl.set, h1, h2, if_false, ih]

theorem Dev.setAct_setAct (d : Dev) (n : Nat) (x y : Act) : (d.setAct n x).setAct n y = d.setAct n y :=
  congrArg (fun t => { d with acts := t }) (Tbl.set_set ..)

theorem Dev.act_set (d : Dev) (n : Nat) (x : Act) : (d.setAct n x).act n = x := Tbl.get_set_same ..

theorem Dev.act_set_ne (d : Dev) {n m : Nat} (h : m ≠ n) (x : Act) : (d.setAct n x).act m = d.act m := Tbl.get_set_ne _ _ _ h

theorem Dev.puts_setAct (l : List (Fld × Nat)) (d : Dev) (n : Nat) (x : Act) : (d.puts l).setAct n x = (d.setAct n x).puts l := by
  induction l generalizing d with
  | nil => rfl
  | cons y l ih => exact ih (d.put y.1 y.2)

/-- What an operation may do to the hidden state of a machine besides its own: messages that a burst gives back. -/
def Act.Same (x y : Act) : Prop := { y with sw := x.sw, answers := x.answers } = x

theorem Act.Same.refl (x : Act) : x.Same x := rfl

theorem Act.Same.trans {x y z : Act} (h : x.Same y) (h' : y.Same z) : x.Same z := by
  unfold Act.Same at *
  rw [← h, ← h']

/-- A register that the machine of channel `n` sets: its state, its events, its identity, or the count of stranded frames. -/
def actKey (n k : Nat) : Prop :=
  (k / 32 = 0x120004 + n * 0x40000 ∨ k / 32 = 0x120040 + n * 0x40000 ∨ k / 32 = 0x120070 + n * 0x40000 ∨
    (0x120200 + n * 0x40000 ≤ k / 32 ∧ k / 32 < 0x120400 + n * 0x40000)) ∨ k = (Reg.LN_BOND_CNT.COUNT bTxStranded).key

/-- `e` came from `d` by operations on the machine of channel `n` alone. -/
structure Dev.OnlyAct (d : Dev) (n : Nat) (e : Dev) : Prop where
  regs : ∀ k, ¬ actKey n k → Tbl.get e.regs k (Reg.rst k) = Tbl.get d.regs k (Reg.rst k)
  acts : ∀ m, m ≠ n → e.act m = d.act m
  chip : e.chip = d.chip
  halt : e.tenderHalt = d.tenderHalt

namespace Dev.OnlyAct

variable {n : Nat}

theorem refl (d : Dev) (n : Nat) : d.OnlyAct n d := ⟨fun _ _ => rfl, fun _ _ => rfl, rfl, rfl⟩

theorem trans {f : Dev} (h : d.OnlyAct n e) (h' : e.OnlyAct n f) : d.OnlyAct n f :=
  ⟨fun k hk => (h'.regs k hk).trans (h.regs k hk), fun m hm => (h'.acts m hm).trans (h.acts m hm), h'.chip.trans h.chip,
    h'.halt.trans h.halt⟩

theorem put (h : d.OnlyAct n e) {f : Fld} (hf : actKey n f.key) (v : Nat) : d.OnlyAct n (e.put f v) :=
  ⟨fun k hk => by
    have hne : k ≠ f.key := fun he => hk (by rwa [he])
    rw [Dev.reg_put, if_neg hne]
    exact h.regs k hk, h.acts, h.chip, h.halt⟩

theorem setAct (h : d.OnlyAct n e) (x : Act) : d.OnlyAct n (e.setAct n x) :=
  ⟨h.regs, fun m hm => (Dev.act_set_ne _ hm _).trans (h.acts m hm), h.chip, h.halt⟩

theorem setCoach (h : d.OnlyAct n e) (m : Nat) (x : Coach) : d.OnlyAct n (e.setCoach m x) := ⟨h.regs, h.acts, h.chip, h.halt⟩

theorem fld_eq (h : d.OnlyAct n e) {f : Fld} (hf : ¬ actKey n f.key) : e.fld f = d.fld f := h.regs f.key hf

theorem lnUp (h : d.OnlyAct n e) (k : Nat) : e.lnUp k = d.lnUp k := by
  have hk : ¬ actKey n Reg.CHIPCAP_BLOCK_RST.LN.key := by
    unfold actKey
    rw [not_or]
    refine ⟨?_, by decide⟩
    have : Reg.CHIPCAP_BLOCK_RST.LN.key / 32 < 0x1000 := by decide
    omega
  rw [Dev.lnUp, Dev.lnUp, h.fld_eq hk, Dev.lnHere, Dev.lnHere, h.chip]

end Dev.OnlyAct

/-! ### Bursts and frames that a machine gives up -/

/-- Where the latest burst of a channel stands on its grid. -/
def Coach.place (c : Coach) : Option Nat × Nat × Int := (c.lastOff, c.frame, c.rxPs)

/-- Channel `n` gave back what bursts or frames of it held: no register, no state of a machine but its messages. -/
structure Dev.GaveBack (d : Dev) (n : Nat) (e : Dev) : Prop where
  regs : e.regs = d.regs
  act : (d.act n).Same (e.act n)
  acts : ∀ m, m ≠ n → e.act m = d.act m
  bursts : (e.coach n).bursts = (d.coach n).bursts
  place : (e.coach n).place = (d.coach n).place
  tim : e.tim = d.tim
  chip : e.chip = d.chip
  halt : e.tenderHalt = d.tenderHalt

namespace Dev.GaveBack

variable {n : Nat}

theorem refl (d : Dev) (n : Nat) : d.GaveBack n d := ⟨rfl, rfl, fun _ _ => rfl, rfl, rfl, rfl, rfl, rfl⟩

theorem trans {f : Dev} (h : d.GaveBack n e) (h' : e.GaveBack n f) : d.GaveBack n f :=
  ⟨h'.regs.trans h.regs, h.act.trans h'.act, fun m hm => (h'.acts m hm).trans (h.acts m hm), h'.bursts.trans h.bursts,
    h'.place.trans h.place, h'.tim.trans h.tim, h'.chip.trans h.chip, h'.halt.trans h.halt⟩

theorem setCoach (d : Dev) {n : Nat} {c : Coach} (hc : c.bursts = (d.coach n).bursts)
    (hp : c.place = (d.coach n).place) : d.GaveBack n (d.setCoach n c) :=
  ⟨rfl, rfl, fun _ _ => rfl, (congrArg Coach.bursts (Tbl.get_set_same ..)).trans hc, (congrArg Coach.place (Tbl.get_set_same ..)).trans hp,
    rfl, rfl, rfl⟩

theorem setAct (d : Dev) {n : Nat} {x : Act} (hx : (d.act n).Same x) : d.GaveBack n (d.setAct n x) :=
  ⟨rfl, by rw [Dev.act_set]; exact hx, fun _ hm => Dev.act_set_ne _ hm _, rfl, rfl, rfl, rfl, rfl⟩

theorem of_unseal (d : Dev) (n : Nat) (b : Burst) : d.GaveBack n (d.unseal n b) := by
  unfold Dev.unseal
  split
  · exact refl d n
  · next s _ =>
    have hback := setCoach d (n := n) (c := { d.coach n with
      store := s.took ++ (d.coach n).store.filter (fun f => !s.took.any (fun g => g.id == f.id)), omci := omciBack s.omci (d.coach n).omci }) rfl rfl
    dsimp only
    split
    · exact hback.trans (setAct _ rfl)
    · exact hback.trans (setAct _ rfl)
    · exact hback

theorem each {α : Type} {f : Dev → α → Dev} (h : ∀ (d : Dev) x, d.GaveBack n (f d x)) (l : List α) (d : Dev) : d.GaveBack n (d.each l f) := by
  induction l generalizing d with
  | nil => exact refl d n
  | cons x l ih => exact (h d x).trans (ih (f d x))

theorem release (d : Dev) (n : Nat) (f : Frame) : d.GaveBack n (d.release f) := by
  unfold Dev.release
  dsimp only
  split <;> split <;> exact ⟨rfl, rfl, fun _ _ => rfl, rfl, rfl, rfl, rfl, rfl⟩

end Dev.GaveBack

/-- No burst of channel `n` holds content, and no frame of its store belongs to a bonding group. -/
def Dev.stripped (d : Dev) (n : Nat) : Prop :=
  (d.coach n).store.all (fun f => f.group.isNone) = true ∧ (d.coach n).bursts.all (fun b => b.content.isNone) = true

theorem Dev.coach_set (d : Dev) (n : Nat) (c : Coach) : (d.setCoach n c).coach n = c := Tbl.get_set_same ..

theorem all_filter_self {α : Type} (p : α → Bool) (l : List α) : (l.filter p).all p = true :=
  List.all_eq_true.2 fun _ hx => (List.mem_filter.1 hx).2

/-- The bursts of channel `n` that were sealed are cancelled (R83). -/
theorem Dev.cancelSealed_spec (d : Dev) (n : Nat) : (d.cancelSealed n).regs = d.regs ∧ (d.act n).Same ((d.cancelSealed n).act n) ∧
    (∀ m, m ≠ n → (d.cancelSealed n).act m = d.act m) ∧ (d.cancelSealed n).chip = d.chip ∧ (d.cancelSealed n).tenderHalt = d.tenderHalt ∧
    ((d.cancelSealed n).coach n).bursts.all (fun b => b.content.isNone) = true := by
  have h := Dev.GaveBack.each (n := n) (f := fun d b => Dev.unseal d n b) (fun d b => .of_unseal d n b)
    ((d.coach n).bursts.filter (fun b => b.content.isSome)).reverse
    (d.setCoach n { d.coach n with bursts := (d.coach n).bursts.filter (fun b => b.content.isNone) })
  rw [Dev.cancelSealed]
  refine ⟨h.regs, h.act, h.acts, h.chip, h.halt, ?_⟩
  rw [h.bursts, Dev.coach_set]
  exact all_filter_self ..

theorem actKey_stranded (n : Nat) : actKey n (Reg.LN_BOND_CNT.COUNT bTxStranded).key := .inr rfl

/-- What a channel that leaves O5 gives up (R83, R124). -/
theorem Dev.strand_spec (d : Dev) (n : Nat) : (d.strand n).stripped n ∧ (d.act n).Same ((d.strand n).act n) ∧ d.OnlyAct n (d.strand n) ∧
    d.SameRegs (d.strand n) [Reg.LN_BOND_CNT.COUNT bTxStranded] := by
  obtain ⟨cregs, cact, cacts, cchip, chalt, cbursts⟩ := d.cancelSealed_spec n
  let x := (d.cancelSealed n).coach n
  let lost := x.store.filter (fun f => f.group.isSome)
  let d1 := (d.cancelSealed n).each (lost.filter (fun f => !f.ready)) (fun d (e : BFrame) => d.release e.f)
  have hrel : (d.cancelSealed n).GaveBack n d1 := .each (fun d (e : BFrame) => .release d n e.f) _ _
  let d2 := d1.setCoach n { x with store := x.store.filter (fun f => f.group.isNone) }
  have hd : d.strand n = d2.put (Reg.LN_BOND_CNT.COUNT bTxStranded)
      (min (2 ^ (Reg.LN_BOND_CNT.COUNT bTxStranded).w - 1) (d2.fld (Reg.LN_BOND_CNT.COUNT bTxStranded) + lost.length)) := rfl
  have hregs : d2.regs = d.regs := hrel.regs.trans cregs
  have hcoach : (d.strand n).coach n = { x with store := x.store.filter (fun f => f.group.isNone) } := by
    rw [hd]
    exact Dev.coach_set ..
  refine ⟨?_, ?_, ?_, fun k hk => ?_⟩
  · rw [Dev.stripped, hcoach]
    exact ⟨all_filter_self .., cbursts⟩
  · rw [hd]
    exact cact.trans hrel.act
  · have honly : d.OnlyAct n d2 := ⟨fun k _ => by rw [hregs], fun m hm => (hrel.acts m hm).trans (cacts m hm), hrel.chip.trans cchip,
      hrel.halt.trans chalt⟩
    rw [hd]
    exact honly.put (actKey_stranded n) _
  · rw [hd, Dev.reg_put, if_neg (by simpa using hk), hregs]

/-! ### Changes of state -/

theorem actKey_of {n : Nat} {f : Fld} {o i w : Nat} (hf : f = ⟨o + n * 0x40000, i, w⟩) (hi : i < 32)
    (ho : o = 0x120004 ∨ o = 0x120040 ∨ o = 0x120070) :
    actKey n f.key := by
  subst hf
  refine .inl ?_
  simp only [Fld.key]
  omega

theorem Dev.setState_same {n s : Nat} (h : d.actState n = s) : d.setState n s = d := if_pos h

/-- A change of state that neither leaves O5 nor disables the transmitter. -/
theorem Dev.setState_quiet {n s : Nat} (h : d.actState n ≠ s) (h5 : d.actState n ≠ stO5) (h7 : s ≠ stO7) :
    d.setState n s = d.puts [(Reg.LN_ACT_STAT.STATE n, s), (Reg.LN_ACT_EVT.STATE_CHG n, 1)] := by
  rw [Dev.setState]
  refine (if_neg h).trans ?_
  simp only [Dev.iff, beq_iff_eq, h5, h7, if_false]
  rfl

theorem Dev.txCut_act (d : Dev) (n : Nat) : (d.txCut n).act n = d.act n ∧ d.OnlyAct n (d.txCut n) ∧ (d.txCut n).regs = d.regs := by
  unfold Dev.txCut
  dsimp only
  split
  · exact ⟨rfl, .refl d n, rfl⟩
  · split
    · exact ⟨rfl, ⟨fun _ _ => rfl, fun _ _ => rfl, rfl, rfl⟩, rfl⟩
    · exact ⟨rfl, .refl d n, rfl⟩

theorem state_keys (n : Nat) : (Reg.LN_ACT_STAT.STATE n).key ≠ (Reg.LN_ACT_EVT.STATE_CHG n).key ∧
    (Reg.LN_ACT_STAT.STATE n).key ≠ (Reg.LN_BOND_CNT.COUNT bTxStranded).key ∧
    (Reg.LN_ACT_EVT.STATE_CHG n).key ≠ (Reg.LN_BOND_CNT.COUNT bTxStranded).key := by
  simp only [Fld.key, Reg.LN_ACT_STAT.STATE, Reg.LN_ACT_EVT.STATE_CHG, Reg.LN_BOND_CNT.COUNT, bTxStranded]
  omega

/-- What a change of state leaves of the machine. -/
theorem Dev.setState_spec (d : Dev) {n s : Nat} (hs : s < 16) : (d.setState n s).actState n = s ∧ (d.act n).Same ((d.setState n s).act n) ∧
    d.OnlyAct n (d.setState n s) ∧
    d.SameRegs (d.setState n s) [Reg.LN_ACT_STAT.STATE n, Reg.LN_ACT_EVT.STATE_CHG n, Reg.LN_BOND_CNT.COUNT bTxStranded] := by
  by_cases h : d.actState n = s
  · rw [Dev.setState_same h]
    exact ⟨h, .refl _, .refl d n, .refl d _⟩
  let d1 := (d.put (Reg.LN_ACT_STAT.STATE n) s).put (Reg.LN_ACT_EVT.STATE_CHG n) 1
  let d2 := d1.iff (s == stO7) (·.txCut n)
  have hd : d.setState n s = d2.iff (d.actState n == stO5) (·.strand n) := if_neg h
  obtain ⟨k1, k2, -⟩ := state_keys n
  have h1 : d.OnlyAct n d1 := ((Dev.OnlyAct.refl d n).put (actKey_of rfl (by decide) (by decide)) s).put
    (actKey_of rfl (by decide) (by decide)) 1
  have hst : d1.actState n = s := (Dev.fld_put_ne _ _ k1).trans ((Dev.fld_put_same ..).trans (Nat.mod_eq_of_lt hs))
  have h2 : d2.actState n = s ∧ (d.act n).Same (d2.act n) ∧ d.OnlyAct n d2 ∧ d2.regs = d1.regs := by
    simp only [d2, Dev.iff]
    split
    · obtain ⟨ha, ho, hr⟩ := d1.txCut_act n
      refine ⟨?_, by rw [ha]; exact .refl _, h1.trans ho, hr⟩
      rw [Dev.actState, Dev.fld, hr]
      exact hst
    · exact ⟨hst, .refl _, h1, rfl⟩
  obtain ⟨hs2, ha2, ho2, hr2⟩ := h2
  have hsame2 : d.SameRegs d2 [Reg.LN_ACT_STAT.STATE n, Reg.LN_ACT_EVT.STATE_CHG n] := fun k hk => by
    simp only [List.map_cons, List.map_nil, List.mem_cons, List.not_mem_nil, or_false, not_or] at hk
    rw [hr2, Dev.reg_put, if_neg hk.2, Dev.reg_put, if_neg hk.1]
  rw [hd]
  simp only [Dev.iff]
  split
  · obtain ⟨-, ha, ho, hr⟩ := d2.strand_spec n
    refine ⟨?_, ha2.trans ha, ho2.trans ho, Dev.SameRegs.trans hsame2 hr fun x hx => hx⟩
    exact (hr.fld_eq (by simpa using k2)).trans hs2
  · exact ⟨hs2, ha2, ho2, fun k hk => hsame2 k fun hm => hk (by simp at hm ⊢; tauto)⟩

/-- A channel that leaves O5 for a state of its transmitter on gives up its sealed bursts and bonded frames, and says so. -/
theorem Dev.setState_leaves {n s : Nat} (h5 : d.actState n = stO5) (hs : s ≠ stO5) (h7 : s ≠ stO7) :
    (d.setState n s).stripped n ∧ (d.setState n s).fld (Reg.LN_ACT_EVT.STATE_CHG n) = 1 := by
  have hd : d.setState n s = ((d.put (Reg.LN_ACT_STAT.STATE n) s).put (Reg.LN_ACT_EVT.STATE_CHG n) 1).strand n := by
    rw [Dev.setState]
    refine (if_neg (by rw [h5]; exact hs.symm)).trans ?_
    simp only [Dev.iff, beq_iff_eq, h5, h7, if_false, if_true]
    rfl
  obtain ⟨hstrip, -, -, hr⟩ := ((d.put (Reg.LN_ACT_STAT.STATE n) s).put (Reg.LN_ACT_EVT.STATE_CHG n) 1).strand_spec n
  rw [hd]
  exact ⟨hstrip, (hr.fld_eq (by simpa using (state_keys n).2.2)).trans (Dev.fld_put_same ..)⟩

/-! ### Identity cleared -/

/-- The ONU-ID cleared. -/
def onuFlds (n : Nat) : List (Fld × Nat) := [(Reg.LN_ACT_STAT.ONU_ID_VALID n, 0), (Reg.LN_ACT_STAT.ONU_ID n, 0x3FF)]

/-- The identity of a channel cleared: ONU-ID, equalisation delay and Alloc-IDs. -/
def Dev.idFlds (d : Dev) (n : Nat) : List (Fld × Nat) :=
  onuFlds n ++ [(Reg.LN_ACT_STAT.EQD_VALID n, 0), (Reg.LN_EQD.EQD n, 0)] ++
    (d.allocEntries n).flatMap (fun i => [(Reg.LN_ALLOC.VALID n i, 0), (Reg.LN_ALLOC.ALLOC_ID n i, 0)])

/-- A state taken, with its event. -/
def stateFlds (n s : Nat) : List (Fld × Nat) := [(Reg.LN_ACT_STAT.STATE n, s), (Reg.LN_ACT_EVT.STATE_CHG n, 1)]

theorem Dev.clearOnu_puts (d : Dev) (n : Nat) : d.clearOnu n = d.puts (onuFlds n) := rfl

theorem Dev.each_puts {α : Type} (g : α → List (Fld × Nat)) (l : List α) (d : Dev) :
    d.each l (fun d i => d.puts (g i)) = d.puts (l.flatMap g) := by
  induction l generalizing d with
  | nil => rfl
  | cons i l ih =>
    rw [List.flatMap_cons, Dev.puts_append]
    exact ih _

theorem Dev.clearIds_puts (d : Dev) (n : Nat) : d.clearIds n = d.puts (d.idFlds n) := by
  rw [Dev.idFlds, Dev.puts_append, ← Dev.each_puts]
  rfl

theorem alloc_keys_nodup (n : Nat) {l : List Nat} (hl : l.Nodup) :
    ((l.flatMap fun i => [(Reg.LN_ALLOC.VALID n i, 0), (Reg.LN_ALLOC.ALLOC_ID n i, 0)]).map (·.1.key)).Nodup := by
  induction l with
  | nil => exact List.nodup_nil
  | cons i l ih =>
    obtain ⟨hi, hl⟩ := List.nodup_cons.1 hl
    have hmem (k : Nat) : k ∈ (l.flatMap fun i => [(Reg.LN_ALLOC.VALID n i, 0), (Reg.LN_ALLOC.ALLOC_ID n i, 0)]).map (·.1.key) ↔
        ∃ j ∈ l, k = (Reg.LN_ALLOC.VALID n j).key ∨ k = (Reg.LN_ALLOC.ALLOC_ID n j).key := by
      simp only [List.map_flatMap, List.map_cons, List.map_nil, List.mem_flatMap, List.mem_cons, List.not_mem_nil, or_false]
    have hne (j : Nat) (hj : j ∈ l) : i ≠ j := fun e => hi (e ▸ hj)
    simp only [List.flatMap_cons, List.cons_append, List.nil_append, List.map_cons, List.nodup_cons, List.mem_cons, hmem, not_or, not_exists,
      not_and]
    refine ⟨⟨?_, fun j hj => ?_⟩, fun j hj => ?_, ih hl⟩
    · simp only [Fld.key, Reg.LN_ALLOC.VALID, Reg.LN_ALLOC.ALLOC_ID]
      omega
    · have := hne j hj
      simp only [Fld.key, Reg.LN_ALLOC.VALID, Reg.LN_ALLOC.ALLOC_ID]
      omega
    · have := hne j hj
      simp only [Fld.key, Reg.LN_ALLOC.VALID, Reg.LN_ALLOC.ALLOC_ID]
      omega

/-- The fields of an identity, by their keys. -/
theorem mem_idKeys {n k : Nat} : k ∈ (d.idFlds n).map (·.1.key) ↔ k ∈ [Reg.LN_ACT_STAT.ONU_ID_VALID n, Reg.LN_ACT_STAT.ONU_ID n,
    Reg.LN_ACT_STAT.EQD_VALID n, Reg.LN_EQD.EQD n].map Fld.key ∨
    ∃ j ∈ d.allocEntries n, k = (Reg.LN_ALLOC.VALID n j).key ∨ k = (Reg.LN_ALLOC.ALLOC_ID n j).key := by
  simp only [Dev.idFlds, onuFlds, List.cons_append, List.nil_append, List.map_cons, List.map_nil, List.map_flatMap, List.mem_cons,
    List.mem_flatMap, List.not_mem_nil, or_false, or_assoc]

theorem idKeys_nodup (d : Dev) (n : Nat) : ((d.idFlds n).map (·.1.key)).Nodup := by
  have halloc := alloc_keys_nodup n (l := d.allocEntries n) (List.nodup_range.filter _)
  rw [Dev.idFlds, List.map_append, List.nodup_append]
  refine ⟨?_, halloc, fun k hk j hj => ?_⟩
  · simp only [onuFlds, List.cons_append, List.nil_append, List.map_cons, List.map_nil, List.nodup_cons, List.mem_cons, List.not_mem_nil,
      or_false, not_or, not_false_eq_true, List.nodup_nil, and_true, Fld.key, Reg.LN_ACT_STAT.ONU_ID_VALID, Reg.LN_ACT_STAT.ONU_ID,
      Reg.LN_ACT_STAT.EQD_VALID, Reg.LN_EQD.EQD]
    omega
  · simp only [onuFlds, List.cons_append, List.nil_append, List.map_cons, List.map_nil, List.mem_cons, List.not_mem_nil, or_false, Fld.key,
      Reg.LN_ACT_STAT.ONU_ID_VALID, Reg.LN_ACT_STAT.ONU_ID, Reg.LN_ACT_STAT.EQD_VALID, Reg.LN_EQD.EQD] at hk
    simp only [List.map_flatMap, List.map_cons, List.map_nil, List.mem_flatMap, List.mem_cons, List.not_mem_nil, or_false, Fld.key,
      Reg.LN_ALLOC.VALID, Reg.LN_ALLOC.ALLOC_ID] at hj
    obtain ⟨i, -, hj⟩ := hj
    omega

theorem Dev.idFlds_lt (d : Dev) (n : Nat) : ∀ x ∈ d.idFlds n, x.2 < 2 ^ x.1.w := by
  intro x hx
  simp only [Dev.idFlds, onuFlds, List.cons_append, List.nil_append, List.mem_cons, List.mem_flatMap, List.not_mem_nil, or_false] at hx
  rcases hx with rfl | rfl | rfl | rfl | ⟨i, -, rfl | rfl⟩
  · exact Nat.two_pow_pos 1
  · show 0x3FF < 2 ^ 10
    decide
  · exact Nat.two_pow_pos 1
  · exact Nat.two_pow_pos 28
  · exact Nat.two_pow_pos 1
  · exact Nat.two_pow_pos 14

theorem Dev.clearIds_sets (d : Dev) (n : Nat) : d.Sets (d.puts (d.idFlds n)) (d.idFlds n) := Dev.puts_sets (idKeys_nodup d n) (d.idFlds_lt n) d

/-- The fields of a change of state are none of the identity. -/
theorem id_state_keys (n s : Nat) : ∀ x ∈ d.idFlds n, ∀ y ∈ stateFlds n s, x.1.key ≠ y.1.key := by
  intro x hx y hy h
  have hk := (mem_idKeys (d := d)).1 (List.mem_map_of_mem (f := fun e => e.1.key) hx)
  simp only [stateFlds, List.mem_cons, List.not_mem_nil, or_false] at hy
  rw [h] at hk
  simp only [List.map_cons, List.map_nil, List.mem_cons, List.not_mem_nil, or_false] at hk
  rcases hy with rfl | rfl <;>
    simp only [Fld.key, Reg.LN_ACT_STAT.STATE, Reg.LN_ACT_EVT.STATE_CHG, Reg.LN_ACT_STAT.ONU_ID_VALID, Reg.LN_ACT_STAT.ONU_ID,
      Reg.LN_ACT_STAT.EQD_VALID, Reg.LN_EQD.EQD, Reg.LN_ALLOC.VALID, Reg.LN_ALLOC.ALLOC_ID] at hk <;>
    obtain hk | ⟨j, -, hk⟩ := hk <;> omega

/-! ### What each part of the machine does to its hidden state -/

/-- What no part of the machine but an answer changes: an answer that waits, the marks of a halt. -/
def Act.Quiet (x y : Act) : Prop :=
  y.pwrWait = x.pwrWait ∧ y.latePwr = x.latePwr ∧ y.due = x.due ∧ (x.late1 = false → y.late1 = false) ∧ (x.late2 = false → y.late2 = false) ∧
    y.lateDis = x.lateDis ∧ y.lateEn = x.lateEn

theorem Act.Quiet.refl (x : Act) : x.Quiet x := ⟨rfl, rfl, rfl, id, id, rfl, rfl⟩

theorem Act.Quiet.trans {x y z : Act} (h : x.Quiet y) (h' : y.Quiet z) : x.Quiet z := by
  obtain ⟨a1, a2, a3, a4, a5, a6, a7⟩ := h
  obtain ⟨b1, b2, b3, b4, b5, b6, b7⟩ := h'
  exact ⟨b1.trans a1, b2.trans a2, b3.trans a3, b4 ∘ a4, b5 ∘ a5, b6.trans a6, b7.trans a7⟩

theorem Act.Same.quiet {x y : Act} (h : x.Same y) : x.Quiet y := by
  unfold Act.Same at h
  rw [← h]
  exact ⟨rfl, rfl, rfl, id, id, rfl, rfl⟩

/-- A part of the machine of channel `n` that leaves its answers and marks. -/
def Dev.QuietAct (d : Dev) (n : Nat) (e : Dev) : Prop := (d.act n).Quiet (e.act n) ∧ d.OnlyAct n e

namespace Dev.QuietAct

variable {n : Nat}

theorem refl (d : Dev) (n : Nat) : d.QuietAct n d := ⟨.refl _, .refl d n⟩

theorem trans {f : Dev} (h : d.QuietAct n e) (h' : e.QuietAct n f) : d.QuietAct n f := ⟨h.1.trans h'.1, h.2.trans h'.2⟩

theorem setState (d : Dev) (n : Nat) {s : Nat} (hs : s < 16) : d.QuietAct n (d.setState n s) := by
  obtain ⟨-, ha, ho, -⟩ := d.setState_spec (n := n) hs
  exact ⟨ha.quiet, ho⟩

theorem setAct (d : Dev) {n : Nat} {x : Act} (h : (d.act n).Quiet x) : d.QuietAct n (d.setAct n x) :=
  ⟨by rw [Dev.act_set]; exact h, (Dev.OnlyAct.refl d n).setAct x⟩

theorem ite {b : Prop} [Decidable b] {f : Dev} (h : d.QuietAct n e) (h' : d.QuietAct n f) : d.QuietAct n (if b then e else f) := by
  split
  · exact h
  · exact h'

theorem iff {b : Bool} {g : Dev → Dev} (h : d.QuietAct n (g d)) : d.QuietAct n (d.iff b g) := .ite h (.refl d n)

end Dev.QuietAct

theorem Dev.OnlyAct.puts {n : Nat} {l : List (Fld × Nat)} (h : d.OnlyAct n e) (hl : ∀ x ∈ l, actKey n x.1.key) : d.OnlyAct n (e.puts l) := by
  induction l generalizing e with
  | nil => exact h
  | cons x l ih => exact ih (h.put (hl x (by simp)) x.2) fun y hy => hl y (List.mem_cons_of_mem _ hy)

theorem Dev.puts_act (d : Dev) (l : List (Fld × Nat)) (n : Nat) : (d.puts l).act n = d.act n := by
  have hrest := Dev.puts_rest l d
  have hacts : (d.puts l).acts = d.acts := congrArg (·.acts) hrest
  rw [Dev.act, hacts]
  rfl

theorem Dev.idFlds_actKey (d : Dev) (n : Nat) : ∀ x ∈ d.idFlds n, actKey n x.1.key := by
  intro x hx
  simp only [Dev.idFlds, onuFlds, List.cons_append, List.nil_append, List.mem_cons, List.mem_flatMap, List.not_mem_nil, or_false] at hx
  rcases hx with rfl | rfl | rfl | rfl | ⟨i, hi, hx⟩
  · exact actKey_of (o := 0x120004) rfl (show 4 < 32 by decide) (by decide)
  · exact actKey_of (o := 0x120004) rfl (show 16 < 32 by decide) (by decide)
  · exact actKey_of (o := 0x120004) rfl (show 5 < 32 by decide) (by decide)
  · exact actKey_of (o := 0x120040) rfl (show 0 < 32 by decide) (by decide)
  · have hlt : i < 128 := List.mem_range.1 (List.mem_filter.1 hi).1
    refine .inl ?_
    rcases hx with rfl | rfl <;> simp only [Fld.key, Reg.LN_ALLOC.VALID, Reg.LN_ALLOC.ALLOC_ID] <;> omega

theorem Dev.clearIds_act (d : Dev) (n : Nat) : (d.clearIds n).act n = d.act n := by rw [Dev.clearIds_puts, Dev.puts_act]

theorem Dev.clearIds_only (d : Dev) (n : Nat) : d.OnlyAct n (d.clearIds n) := by
  rw [Dev.clearIds_puts]
  exact (Dev.OnlyAct.refl d n).puts (d.idFlds_actKey n)

theorem Dev.clearIds_state (d : Dev) (n : Nat) : (d.clearIds n).actState n = d.actState n := by
  rw [Dev.clearIds_puts, Dev.actState, (d.clearIds_sets n).1.fld_eq (f := Reg.LN_ACT_STAT.STATE n) fun hm => by
    obtain ⟨x, hx, he⟩ := List.mem_map.1 hm
    exact id_state_keys n 0 x hx (Reg.LN_ACT_STAT.STATE n, 0) (by simp [stateFlds]) he]
  rfl

theorem Dev.quiet_clearIds (d : Dev) (n : Nat) : d.QuietAct n (d.clearIds n) := ⟨by rw [d.clearIds_act]; exact .refl _, d.clearIds_only n⟩

theorem Dev.quiet_actStop (d : Dev) (n : Nat) : d.QuietAct n (d.actStop n) := by
  unfold Dev.actStop
  refine .ite (.refl d n) ?_
  have hstop (e : Dev) : e.QuietAct n (e.stopTimers n) := .setAct e ⟨rfl, rfl, rfl, fun _ => rfl, fun _ => rfl, rfl, rfl⟩
  have hhdrs (e : Dev) : e.QuietAct n (e.setAct n { e.act n with hdrs := 0 }) := .setAct e ⟨rfl, rfl, rfl, id, id, rfl, rfl⟩
  exact (((d.quiet_clearIds n).trans (hstop _)).trans (.setState _ n (s := stO11) (by decide))).trans (hhdrs _)

theorem Dev.quiet_actStart (d : Dev) (n : Nat) : d.QuietAct n (d.actStart n) := by
  have hset : d.QuietAct n (d.setAct n { d.act n with hdrs := 0, lateLods := false }) := .setAct d ⟨rfl, rfl, rfl, id, id, rfl, rfl⟩
  refine hset.trans (.setState _ n ?_)
  split <;> decide

theorem Dev.quiet_to1Act (d : Dev) (n : Nat) : d.QuietAct n (d.to1Act n) := by
  refine .ite ?_ (.refl d n)
  have hclear : d.QuietAct n (d.clearOnu n) := ⟨by rw [d.clearOnu_puts, Dev.puts_act]; exact .refl _, by
    rw [d.clearOnu_puts]
    exact (Dev.OnlyAct.refl d n).puts fun x hx => d.idFlds_actKey n x (by
      rw [Dev.idFlds]
      exact List.mem_append_left _ (List.mem_append_left _ hx))⟩
  exact hclear.trans (.setState _ n (s := stO23) (by decide))

theorem Dev.quiet_to2Act (d : Dev) (n : Nat) : d.QuietAct n (d.to2Act n) :=
  .ite ((d.quiet_clearIds n).trans (.setState _ n (s := stO11) (by decide))) (.refl d n)

/-- The machine at a loss of downstream, its identity cleared. -/
theorem Dev.lods_early (d : Dev) (n : Nat) (h : d.actState n = stO12 ∨ d.actState n = stO23 ∨ d.actState n = stO4) :
    d.lods n = ((d.setAct n { d.act n with hdrs := 0, lateLods := false, to1 := false, late1 := false }).puts (d.idFlds n)).setState n stO11 := by
  have hids : (d.setAct n { d.act n with hdrs := 0, lateLods := false }).idFlds n = d.idFlds n := rfl
  rw [Dev.lods]
  refine (if_pos h).trans (congrArg (Dev.setState · n stO11) ?_)
  rw [Dev.clearIds_puts, hids, Dev.puts_setAct, Dev.setAct_setAct, Dev.act_set]

theorem Dev.quiet_lods (d : Dev) (n : Nat) : d.QuietAct n (d.lods n) := by
  have hset : d.QuietAct n (d.setAct n { d.act n with hdrs := 0, lateLods := false }) := .setAct d ⟨rfl, rfl, rfl, id, id, rfl, rfl⟩
  by_cases h : d.actState n = stO12 ∨ d.actState n = stO23 ∨ d.actState n = stO4
  · have hset' : d.QuietAct n (d.setAct n { d.act n with hdrs := 0, lateLods := false, to1 := false, late1 := false }) :=
      .setAct d ⟨rfl, rfl, rfl, fun _ => rfl, id, rfl, rfl⟩
    rw [d.lods_early n h]
    exact (hset'.trans ⟨by rw [Dev.puts_act]; exact .refl _, (Dev.OnlyAct.refl _ n).puts (d.idFlds_actKey n)⟩).trans
      (.setState _ n (s := stO11) (by decide))
  · have hto2 (e : Dev) : e.QuietAct n (e.setAct n { e.act n with to2 := true }) := .setAct e ⟨rfl, rfl, rfl, id, id, rfl, rfl⟩
    unfold Dev.lods
    dsimp only
    rw [if_neg h]
    exact .ite ((hset.trans (hto2 _)).trans (.setState _ n (s := stO6) (by decide))) hset

theorem Dev.quiet_learn (d : Dev) (n : Nat) : d.QuietAct n (d.learn n) := .ite (.setState d n (s := stO23) (by decide)) (.refl d n)

theorem Dev.quiet_headersIn (d : Dev) (n : Nat) : d.QuietAct n (d.headersIn n) := by
  have hset : d.QuietAct n (d.setAct n { d.act n with to2 := false, late2 := false }) := .setAct d ⟨rfl, rfl, rfl, id, fun _ => rfl, rfl, rfl⟩
  unfold Dev.headersIn
  refine .ite (.refl d n) (.ite ?_ (.ite ?_ (.refl d n)))
  · exact (Dev.QuietAct.setState d n (s := stO12) (by decide)).trans (Dev.quiet_learn _ n)
  · exact hset.trans (.setState _ n (s := stO5) (by decide))

variable {d e : Dev}

/-! ### The restart of the Tender (R81) -/

theorem Act.Same.core {x y : Act} (h : x.Same y) : y.hdrs = x.hdrs ∧ y.to2 = x.to2 ∧ y.lateLods = x.lateLods := by
  have h' : { y with sw := x.sw, answers := x.answers } = x := h
  have hh := congrArg Act.hdrs h'
  have ht := congrArg Act.to2 h'
  have hl := congrArg Act.lateLods h'
  exact ⟨hh, ht, hl⟩

/-- What a restart does to one channel, before the power level. -/
def Dev.resume (d : Dev) (n : Nat) : Dev :=
  let x := d.act n
  let d2 := d.setAct n { x with late1 := false, late2 := false, lateDis := false, lateEn := false }
  let d3 := d2.iff x.lateDis (·.actStop n)
  let d4 := d3.iff x.lateEn (·.actStart n)
  let d5 := (d4.iff x.late1 (·.to1Act n)).iff x.late2 (·.to2Act n)
  let d6 := (d5.iff (x.lateLods && d5.actEn n) (·.lods n)).headersIn n
  d6.learn n

theorem Dev.tenderRestart_eq (h : d.tenderHalt = true) : d.tenderRestart =
    ({ d.put Reg.CPX_TND_STAT.RUNNING 1 with tenderHalt := false } : Dev).each ((List.range 4).filter d.lnUp) (fun d n => (d.resume n).pwrResume n) := by
  rw [Dev.tenderRestart, if_pos h]
  rfl

/-- A machine whose marks of the halt are taken. -/
def Act.unmarked (x : Act) : Act := { x with late1 := false, late2 := false, lateDis := false, lateEn := false }

theorem Dev.resume_quiet (d : Dev) (n : Nat) : (d.act n).unmarked.Quiet ((d.resume n).act n) ∧ d.OnlyAct n (d.resume n) := by
  let d2 := d.setAct n (d.act n).unmarked
  have h : d2.QuietAct n (d.resume n) :=
    ((((((Dev.QuietAct.iff (d2.quiet_actStop n)).trans (.iff (Dev.quiet_actStart _ n))).trans (.iff (Dev.quiet_to1Act _ n))).trans
      (.iff (Dev.quiet_to2Act _ n))).trans (.iff (Dev.quiet_lods _ n))).trans (Dev.quiet_headersIn _ n)).trans (Dev.quiet_learn _ n)
  have hact : d2.act n = (d.act n).unmarked := Dev.act_set ..
  rw [← hact]
  exact ⟨h.1, ((Dev.OnlyAct.refl d n).setAct _).trans h.2⟩

theorem Dev.pwrResume_only (d : Dev) (n : Nat) : d.OnlyAct n (d.pwrResume n) := by
  unfold Dev.pwrResume
  split
  · exact ((Dev.OnlyAct.refl d n).setAct _).setAct _
  · unfold Dev.powerCheck
    split
    · exact ((Dev.OnlyAct.refl d n).setAct _).setAct _
    · exact .refl d n

/-- The state and the other marks after the power level was looked at. -/
theorem Dev.pwrResume_act (d : Dev) (n : Nat) :
    (d.pwrResume n).regs = d.regs ∧ ((d.pwrResume n).act n).late1 = (d.act n).late1 ∧ ((d.pwrResume n).act n).late2 = (d.act n).late2 ∧
    ((d.pwrResume n).act n).lateDis = (d.act n).lateDis ∧ ((d.pwrResume n).act n).lateEn = (d.act n).lateEn ∧
    ((d.pwrResume n).act n).to2 = (d.act n).to2 ∧ ((d.pwrResume n).act n).lateLods = (d.act n).lateLods := by
  unfold Dev.pwrResume
  split
  · simp only [Dev.answer, Dev.act_set, and_true]
    rfl
  · unfold Dev.powerCheck
    split
    · simp only [Dev.answer, Dev.act_set, and_true]
      rfl
    · exact ⟨rfl, rfl, rfl, rfl, rfl, rfl, rfl⟩

/-- The answer for the power level at a restart. -/
theorem Dev.pwrResume_answer (d : Dev) (n : Nat) :
    let x := d.act n
    let y := (d.pwrResume n).act n
    (x.pwrWait = true → x.latePwr = true → y.pwrWait = false ∧ y.due = x.due ++ [.ack 1]) ∧
    (x.pwrWait = true → x.latePwr = false → d.tenderRuns = true → d.fld (Reg.LN_PWR_LVL.APPLIED n) = d.fld (Reg.LN_PWR_LVL.REQ n) →
      y.pwrWait = false ∧ y.due = x.due ++ [.ack 0]) ∧
    (x.pwrWait = false → y.pwrWait = false ∧ y.due = x.due) := by
  intro x y
  refine ⟨fun hw hl => ?_, fun hw hl hr hp => ?_, fun hw => ?_⟩
  · have hd : d.pwrResume n = (d.setAct n { x with pwrWait := false, latePwr := false }).answer n (.ack 1) := if_pos ⟨hw, hl⟩
    simp only [y, hd, Dev.answer, Dev.act_set, true_and]
  · have hd : d.pwrResume n = (d.setAct n { x with pwrWait := false }).answer n (.ack 0) :=
      (if_neg (by rw [show (d.act n).latePwr = false from hl]; simp)).trans (if_pos ⟨hw, hr, hp⟩)
    simp only [y, hd, Dev.answer, Dev.act_set, true_and]
  · have hd : d.pwrResume n = d := (if_neg (by rw [show (d.act n).pwrWait = false from hw]; simp)).trans
      (if_neg (by rw [show (d.act n).pwrWait = false from hw]; simp))
    simp only [y, hd]
    exact ⟨hw, rfl⟩

/-! ### The state that a restart gives -/

theorem Dev.headersIn_quiet {n : Nat} (h : (d.act n).hdrs < 2 ∨ (d.actState n ≠ stO11 ∧ d.actState n ≠ stO6)) : d.headersIn n = d := by
  unfold Dev.headersIn
  split
  · rfl
  · next hc =>
    simp only [Bool.or_eq_true, Bool.not_eq_true', decide_eq_true_eq, not_or] at hc
    rcases h with h | ⟨h1, h2⟩
    · exact absurd h hc.2
    · rw [if_neg h1, if_neg h2]

theorem Dev.learn_quiet {n : Nat} (h : d.actState n ≠ stO12) : d.learn n = d := if_neg fun hc => h hc.1

theorem Dev.to1Act_quiet {n : Nat} (h : d.actState n ≠ stO4) : d.to1Act n = d := if_neg h

theorem Dev.to2Act_quiet {n : Nat} (h : d.actState n ≠ stO6) : d.to2Act n = d := if_neg h

theorem Dev.setState_state (d : Dev) {n s : Nat} (hs : s < 16) : (d.setState n s).actState n = s := (d.setState_spec hs).1

theorem Dev.setAct_state (d : Dev) (n m : Nat) (x : Act) : (d.setAct n x).actState m = d.actState m := rfl

/-- The first row of R84 leaves O1.1 with no headers counted. -/
theorem Dev.actStop_spec {n : Nat} (h : d.actState n ≠ stO7) : (d.actStop n).actState n = stO11 ∧ ((d.actStop n).act n).hdrs = 0 := by
  unfold Dev.actStop
  rw [if_neg h]
  dsimp only
  rw [Dev.act_set, Dev.setAct_state]
  exact ⟨Dev.setState_state _ (by decide), rfl⟩

theorem Dev.iff_of (d : Dev) {b : Bool} (hb : b = true) (f : Dev → Dev) : d.iff b f = f d := if_pos hb

theorem Dev.iff_not (d : Dev) {b : Bool} (hb : b = false) (f : Dev → Dev) : d.iff b f = d := if_neg (by simp [hb])

/-- A machine to which nothing falls due stays, and one that lost downstream starts its headers anew. -/
theorem Dev.lods_late {n : Nat} (h : ¬ (d.actState n = stO12 ∨ d.actState n = stO23 ∨ d.actState n = stO4)) (h5 : d.actState n ≠ stO5) :
    d.lods n = d.setAct n { d.act n with hdrs := 0, lateLods := false } := by
  rw [Dev.lods]
  exact (if_neg h).trans (if_neg h5)

/-- A machine of a state that no header and no profile moves. -/
theorem Dev.settled_quiet {n : Nat} (h12 : d.actState n ≠ stO12) (h : (d.act n).hdrs < 2 ∨ (d.actState n ≠ stO11 ∧ d.actState n ≠ stO6)) :
    (d.headersIn n).learn n = d := by
  rw [Dev.headersIn_quiet h, Dev.learn_quiet h12]

/-- EN was written 0 in the halt. -/
theorem Dev.resume_disabled {n : Nat} (hd : (d.act n).lateDis = true) (he : (d.act n).lateEn = false) (h7 : d.actState n ≠ stO7) :
    (d.resume n).actState n = stO11 := by
  let d2 := d.setAct n (d.act n).unmarked
  obtain ⟨hst, hh⟩ := Dev.actStop_spec (d := d2) (n := n) h7
  have h1 : (d2.actStop n).to1Act n = d2.actStop n := Dev.to1Act_quiet (by rw [hst]; decide)
  have h2 : (d2.actStop n).to2Act n = d2.actStop n := Dev.to2Act_quiet (by rw [hst]; decide)
  have hl : (d2.actStop n).lods n = (d2.actStop n).setAct n { (d2.actStop n).act n with hdrs := 0, lateLods := false } :=
    Dev.lods_late (by rw [hst]; decide) (by rw [hst]; decide)
  have hiff (b b' : Bool) : ((d2.actStop n).iff b (·.to1Act n)).iff b' (·.to2Act n) = d2.actStop n := by
    cases b <;> cases b' <;> simp only [Dev.iff, h1, h2, if_true, Bool.false_eq_true, if_false]
  have hd : d.resume n = (((d2.actStop n).iff ((d.act n).lateLods && (d2.actStop n).actEn n) (·.lods n)).headersIn n).learn n := by
    unfold Dev.resume
    dsimp only
    rw [Dev.iff_of _ hd, Dev.iff_not _ he]
    exact congrArg (fun z : Dev => ((z.iff ((d.act n).lateLods && z.actEn n) (·.lods n)).headersIn n).learn n) (hiff _ _)
  rw [hd]
  generalize ((d.act n).lateLods && (d2.actStop n).actEn n) = b
  cases b
  · rw [Dev.iff_not _ rfl, Dev.settled_quiet (by rw [hst]; decide) (.inl (by omega)), hst]
  · rw [Dev.iff_of _ rfl, hl]
    have hst' : ((d2.actStop n).setAct n { (d2.actStop n).act n with hdrs := 0, lateLods := false }).actState n = stO11 := hst
    rw [Dev.settled_quiet (by rw [hst']; decide) (.inl (by rw [Dev.act_set]; exact Nat.zero_lt_two)), hst']

/-- A machine that was neither enabled nor disabled in the halt. -/
theorem Dev.resume_kept {n : Nat} (hd : (d.act n).lateDis = false) (he : (d.act n).lateEn = false) : d.resume n =
    let d5 := ((d.setAct n (d.act n).unmarked).iff (d.act n).late1 (·.to1Act n)).iff (d.act n).late2 (·.to2Act n)
    ((d5.iff ((d.act n).lateLods && d5.actEn n) (·.lods n)).headersIn n).learn n := by
  unfold Dev.resume
  dsimp only
  rw [Dev.iff_not _ hd, Dev.iff_not _ he]
  rfl

/-- TO1 fell due in the halt. -/
theorem Dev.resume_to1 {n : Nat} (hd : (d.act n).lateDis = false) (he : (d.act n).lateEn = false) (h1 : (d.act n).late1 = true)
    (hst : d.actState n = stO4) (hl : (d.act n).lateLods = false) : (d.resume n).actState n = stO23 := by
  have hto : (d.setAct n (d.act n).unmarked).to1Act n = ((d.setAct n (d.act n).unmarked).clearOnu n).setState n stO23 := if_pos hst
  have hs : ((d.setAct n (d.act n).unmarked).to1Act n).actState n = stO23 := by
    rw [hto]
    exact Dev.setState_state _ (by decide)
  have h2 (b : Bool) : ((d.setAct n (d.act n).unmarked).to1Act n).iff b (·.to2Act n) = (d.setAct n (d.act n).unmarked).to1Act n := by
    cases b
    · rfl
    · exact Dev.to2Act_quiet (by rw [hs]; decide)
  rw [Dev.resume_kept hd he, Dev.iff_of _ h1]
  dsimp only
  rw [h2, Dev.iff_not _ (by rw [hl]; rfl), Dev.settled_quiet (by rw [hs]; decide) (.inr (by rw [hs]; decide)), hs]

/-- TO2 fell due in the halt. -/
theorem Dev.resume_to2 {n : Nat} (hd : (d.act n).lateDis = false) (he : (d.act n).lateEn = false) (h2 : (d.act n).late2 = true)
    (hst : d.actState n = stO6) (hl : (d.act n).lateLods = false) (hh : (d.act n).hdrs = 0) : (d.resume n).actState n = stO11 := by
  let d2 := d.setAct n (d.act n).unmarked
  have hto : d2.to2Act n = (d2.clearIds n).setState n stO11 := if_pos hst
  have hs : (d2.to2Act n).actState n = stO11 := by
    rw [hto]
    exact Dev.setState_state _ (by decide)
  have hact : (d2.act n).Same ((d2.to2Act n).act n) := by
    rw [hto, ← d2.clearIds_act n]
    exact ((d2.clearIds n).setState_spec (n := n) (s := stO11) (by decide)).2.1
  have hh' : ((d2.to2Act n).act n).hdrs = 0 := by
    rw [hact.core.1, Dev.act_set]
    exact hh
  have h1 (b : Bool) : d2.iff b (·.to1Act n) = d2 := by
    cases b
    · rfl
    · exact Dev.to1Act_quiet (by rw [Dev.setAct_state, hst]; decide)
  rw [Dev.resume_kept hd he]
  dsimp only
  rw [h1, Dev.iff_of _ h2, Dev.iff_not _ (by rw [hl]; rfl), Dev.settled_quiet (by rw [hs]; decide) (.inl (by omega)), hs]

/-- Loss of downstream in O5 (R83). -/
theorem Dev.lods_run {n : Nat} (h : d.actState n = stO5) : (d.lods n).actState n = stO6 ∧
    ({ d.act n with hdrs := 0, lateLods := false, to2 := true } : Act).Same ((d.lods n).act n) ∧ (d.lods n).stripped n ∧
    (d.lods n).fld (Reg.LN_ACT_EVT.STATE_CHG n) = 1 ∧
    d.SameRegs (d.lods n) [Reg.LN_ACT_STAT.STATE n, Reg.LN_ACT_EVT.STATE_CHG n, Reg.LN_BOND_CNT.COUNT bTxStranded] := by
  let y : Act := { d.act n with hdrs := 0, lateLods := false, to2 := true }
  have hd : d.lods n = (d.setAct n y).setState n stO6 := by
    rw [Dev.lods]
    refine (if_neg (by rw [h]; decide)).trans ((if_pos h).trans (congrArg (Dev.setState · n stO6) ?_))
    rw [Dev.setAct_setAct, Dev.act_set]
  obtain ⟨hs, ha, -, hr⟩ := (d.setAct n y).setState_spec (n := n) (s := stO6) (by decide)
  obtain ⟨hstrip, hev⟩ := Dev.setState_leaves (d := d.setAct n y) (n := n) (s := stO6) h (by decide) (by decide)
  rw [Dev.act_set] at ha
  rw [hd]
  exact ⟨hs, ha, hstrip, hev, hr⟩

/-- Loss of downstream fell due in the halt. -/
theorem Dev.resume_lods {n : Nat} (hd : (d.act n).lateDis = false) (he : (d.act n).lateEn = false) (hl : (d.act n).lateLods = true)
    (hen : d.actEn n = true) (hst : d.actState n = stO5) :
    (d.resume n).actState n = stO6 ∧ ((d.resume n).act n).to2 = true ∧ ((d.resume n).act n).lateLods = false := by
  let d2 := d.setAct n (d.act n).unmarked
  have hst2 : d2.actState n = stO5 := hst
  have h1 (b : Bool) : d2.iff b (·.to1Act n) = d2 := by
    cases b
    · rfl
    · exact Dev.to1Act_quiet (by rw [hst2]; decide)
  have h2 (b : Bool) : d2.iff b (·.to2Act n) = d2 := by
    cases b
    · rfl
    · exact Dev.to2Act_quiet (by rw [hst2]; decide)
  obtain ⟨hs, ha, -⟩ := Dev.lods_run (d := d2) hst2
  obtain ⟨hhdrs, hto2, hlate⟩ := ha.core
  rw [Dev.resume_kept hd he]
  dsimp only
  rw [h1, h2, Dev.iff_of d2 (by rw [hl]; exact hen), Dev.settled_quiet (by rw [hs]; decide) (.inl (by rw [hhdrs]; exact Nat.zero_lt_two))]
  exact ⟨hs, hto2, hlate⟩

/-! ### A restart, seen by one channel -/

/-- What channel `n` and its machine read was not touched. -/
structure Dev.ChannelKept (d : Dev) (n : Nat) (e : Dev) : Prop where
  act : e.act n = d.act n
  state : e.actState n = d.actState n
  en : e.actEn n = d.actEn n
  applied : e.fld (Reg.LN_PWR_LVL.APPLIED n) = d.fld (Reg.LN_PWR_LVL.APPLIED n)
  req : e.fld (Reg.LN_PWR_LVL.REQ n) = d.fld (Reg.LN_PWR_LVL.REQ n)

theorem Dev.ChannelKept.refl (d : Dev) (n : Nat) : d.ChannelKept n d := ⟨rfl, rfl, rfl, rfl, rfl⟩

theorem Dev.ChannelKept.trans {n : Nat} {f : Dev} (h : d.ChannelKept n e) (h' : e.ChannelKept n f) : d.ChannelKept n f :=
  ⟨h'.act.trans h.act, h'.state.trans h.state, h'.en.trans h.en, h'.applied.trans h.applied, h'.req.trans h.req⟩

theorem Dev.OnlyAct.kept {m n : Nat} (h : d.OnlyAct m e) (hm : n ≠ m) : d.ChannelKept n e := by
  have hkey (o i w : Nat) (ho : o = 0x120000 ∨ o = 0x120004 ∨ o = 0x120060) (hi : i < 32) : ¬ actKey m (⟨o + n * 0x40000, i, w⟩ : Fld).key := by
    simp only [actKey, Fld.key, Reg.LN_BOND_CNT.COUNT, bTxStranded]
    omega
  have hf (o i w : Nat) (ho : o = 0x120000 ∨ o = 0x120004 ∨ o = 0x120060) (hi : i < 32) :
      e.fld ⟨o + n * 0x40000, i, w⟩ = d.fld ⟨o + n * 0x40000, i, w⟩ := h.fld_eq (hkey o i w ho hi)
  refine ⟨h.acts n hm, ?_, ?_, ?_, ?_⟩
  · exact hf 0x120004 0 4 (by decide) (by decide)
  · exact congrArg (· != 0) (hf 0x120000 0 1 (by decide) (by decide))
  · exact hf 0x120060 8 3 (by decide) (by decide)
  · exact hf 0x120060 0 3 (by decide) (by decide)

theorem Dev.ChannelKept.each {f : Dev → Nat → Dev} (hf : ∀ (d : Dev) m, d.OnlyAct m (f d m)) {n : Nat} {l : List Nat} (hn : n ∉ l) (d : Dev) :
    d.ChannelKept n (d.each l f) := by
  induction l generalizing d with
  | nil => exact .refl d n
  | cons m l ih =>
    rw [List.mem_cons, not_or] at hn
    exact ((hf d m).kept hn.1).trans (ih hn.2 (f d m))

theorem Dev.each_append {α : Type} (d : Dev) (l l' : List α) (f : Dev → α → Dev) : d.each (l ++ l') f = (d.each l f).each l' f :=
  List.foldl_append ..

theorem Dev.tenderRuns_only {m : Nat} (h : d.OnlyAct m e) : e.tenderRuns = d.tenderRuns ∧
    e.fld Reg.CPX_TND_STAT.RUNNING = d.fld Reg.CPX_TND_STAT.RUNNING := by
  have hk : ¬ actKey m Reg.CPX_TND_STAT.RUNNING.key := by
    simp only [actKey, Fld.key, Reg.CPX_TND_STAT.RUNNING, Reg.LN_BOND_CNT.COUNT, bTxStranded]
    omega
  have hf := h.fld_eq hk
  exact ⟨by rw [Dev.tenderRuns, Dev.tenderRuns, Dev.on, Dev.on, hf, Dev.tenderHere, Dev.tenderHere, Dev.unit_of_chip h.chip], hf⟩

variable {d e : Dev}

/-- The power level is none of the registers of a machine. -/
theorem Dev.OnlyAct.power {n : Nat} (h : d.OnlyAct n e) : e.fld (Reg.LN_PWR_LVL.APPLIED n) = d.fld (Reg.LN_PWR_LVL.APPLIED n) ∧
    e.fld (Reg.LN_PWR_LVL.REQ n) = d.fld (Reg.LN_PWR_LVL.REQ n) := by
  constructor <;> refine h.fld_eq ?_ <;>
    simp only [actKey, Fld.key, Reg.LN_PWR_LVL.APPLIED, Reg.LN_PWR_LVL.REQ, Reg.LN_BOND_CNT.COUNT, bTxStranded] <;> omega

/-- What a restart does to one channel. -/
def Dev.restartOne (d : Dev) (n : Nat) : Dev := (d.resume n).pwrResume n

theorem Dev.restartOne_only (d : Dev) (n : Nat) : d.OnlyAct n (d.restartOne n) := (d.resume_quiet n).2.trans (Dev.pwrResume_only _ n)

/-- The Tender runs on while channels are resumed. -/
theorem Dev.each_restart_runs (l : List Nat) (d : Dev) : (d.each l Dev.restartOne).tenderRuns = d.tenderRuns ∧
    (d.each l Dev.restartOne).fld Reg.CPX_TND_STAT.RUNNING = d.fld Reg.CPX_TND_STAT.RUNNING ∧
    (d.each l Dev.restartOne).tenderHalt = d.tenderHalt := by
  induction l generalizing d with
  | nil => exact ⟨rfl, rfl, rfl⟩
  | cons m l ih =>
    obtain ⟨hr, hf⟩ := Dev.tenderRuns_only (d.restartOne_only m)
    obtain ⟨hr', hf', hh'⟩ := ih (d.restartOne m)
    exact ⟨hr'.trans hr, hf'.trans hf, hh'.trans (d.restartOne_only m).halt⟩

/-- The Tender runs again, its halt over. -/
def Dev.running (d : Dev) : Dev := { d.put Reg.CPX_TND_STAT.RUNNING 1 with tenderHalt := false }

theorem Dev.running_kept (d : Dev) (n : Nat) : d.ChannelKept n d.running := by
  have hf (o i w : Nat) (ho : o = 0x120000 ∨ o = 0x120004 ∨ o = 0x120060) (hi : i < 32) :
      d.running.fld ⟨o + n * 0x40000, i, w⟩ = d.fld ⟨o + n * 0x40000, i, w⟩ := by
    refine Dev.fld_put_ne d 1 ?_
    simp only [Fld.key, Reg.CPX_TND_STAT.RUNNING]
    omega
  refine ⟨rfl, ?_, ?_, ?_, ?_⟩
  · exact hf 0x120004 0 4 (by decide) (by decide)
  · exact congrArg (· != 0) (hf 0x120000 0 1 (by decide) (by decide))
  · exact hf 0x120060 8 3 (by decide) (by decide)
  · exact hf 0x120060 0 3 (by decide) (by decide)

theorem Dev.running_runs (h : d.tenderHere = true) : d.running.tenderRuns = true ∧ d.running.fld Reg.CPX_TND_STAT.RUNNING = 1 := by
  have hf : d.running.fld Reg.CPX_TND_STAT.RUNNING = 1 := Dev.fld_put_same ..
  have hh : d.running.tenderHere = true := h
  exact ⟨by rw [Dev.tenderRuns, hh, Dev.on, hf]; rfl, hf⟩

/-- A restart leaves a channel that is held. -/
theorem Dev.restart_down {n : Nat} (h : d.tenderHalt = true) (hl : d.lnUp n = false) : d.ChannelKept n d.tenderRestart := by
  rw [Dev.tenderRestart_eq h]
  refine (d.running_kept n).trans (.each (f := Dev.restartOne) Dev.restartOne_only ?_ _)
  simp [hl]

/-- A restart resumes a channel that is up as if it were the only one. -/
theorem Dev.restart_up {n : Nat} (hn : n < 4) (h : d.tenderHalt = true) (ht : d.tenderHere = true) (hl : d.lnUp n = true) :
    ∃ b, d.ChannelKept n b ∧ b.tenderRuns = true ∧ (b.restartOne n).ChannelKept n d.tenderRestart := by
  have hnd : ((List.range 4).filter d.lnUp).Nodup := List.nodup_range.filter _
  have hmem : n ∈ (List.range 4).filter d.lnUp := List.mem_filter.2 ⟨List.mem_range.2 hn, hl⟩
  obtain ⟨l, l', hs⟩ := List.append_of_mem hmem
  rw [hs] at hnd
  have hnot := List.nodup_middle.1 hnd
  rw [List.nodup_cons, List.mem_append, not_or] at hnot
  obtain ⟨⟨hnl, hnl'⟩, -⟩ := hnot
  refine ⟨d.running.each l Dev.restartOne, (d.running_kept n).trans (.each Dev.restartOne_only hnl _), ?_, ?_⟩
  · exact (Dev.each_restart_runs l _).1.trans (Dev.running_runs ht).1
  · have heq : d.tenderRestart = ((d.running.each l Dev.restartOne).restartOne n).each l' Dev.restartOne := by
      rw [Dev.tenderRestart_eq h]
      refine Eq.trans ?_ (Dev.each_append d.running l (n :: l') Dev.restartOne)
      rw [hs]
      rfl
    rw [heq]
    exact .each Dev.restartOne_only hnl' _

theorem Dev.restart_runs (h : d.tenderHalt = true) (ht : d.tenderHere = true) : d.tenderRestart.tenderHalt = false ∧
    d.tenderRestart.fld Reg.CPX_TND_STAT.RUNNING = 1 := by
  obtain ⟨-, hf, hh⟩ := Dev.each_restart_runs ((List.range 4).filter d.lnUp) d.running
  rw [Dev.tenderRestart_eq h]
  exact ⟨hh, hf.trans (Dev.running_runs ht).2⟩

/-- The state after the power level was looked at is the one before. -/
theorem Dev.restartOne_state (d : Dev) (n : Nat) : (d.restartOne n).actState n = (d.resume n).actState n := by
  obtain ⟨hr, -⟩ := Dev.pwrResume_act (d.resume n) n
  rw [Dev.restartOne, Dev.actState, Dev.fld, hr]
  rfl

/-- No mark of a halt is left. -/
theorem Dev.restartOne_marks (d : Dev) (n : Nat) :
    let y := (d.restartOne n).act n
    y.late1 = false ∧ y.late2 = false ∧ y.lateDis = false ∧ y.lateEn = false := by
  obtain ⟨-, h1, h2, h3, h4, -⟩ := Dev.pwrResume_act (d.resume n) n
  obtain ⟨⟨-, -, -, q1, q2, q3, q4⟩, -⟩ := d.resume_quiet n
  exact ⟨h1.trans (q1 rfl), h2.trans (q2 rfl), h3.trans q3, h4.trans q4⟩

/-- The answer for the power level (R96). -/
theorem Dev.restartOne_answer (d : Dev) (n : Nat) (hr : d.tenderRuns = true) :
    let x := d.act n
    let y := (d.restartOne n).act n
    (x.pwrWait = true → x.latePwr = true → y.pwrWait = false ∧ y.due = x.due ++ [.ack 1]) ∧
    (x.pwrWait = true → x.latePwr = false → d.fld (Reg.LN_PWR_LVL.APPLIED n) = d.fld (Reg.LN_PWR_LVL.REQ n) →
      y.pwrWait = false ∧ y.due = x.due ++ [.ack 0]) ∧
    (x.pwrWait = false → y.pwrWait = false ∧ y.due = x.due) := by
  intro x y
  obtain ⟨⟨hw, hl, hd, -⟩, honly⟩ := d.resume_quiet n
  have hw' : ((d.resume n).act n).pwrWait = x.pwrWait := hw
  have hl' : ((d.resume n).act n).latePwr = x.latePwr := hl
  have hd' : ((d.resume n).act n).due = x.due := hd
  obtain ⟨ha, hq⟩ := honly.power
  have h := Dev.pwrResume_answer (d.resume n) n
  dsimp only at h
  rw [hw', hl', hd', ha, hq, (Dev.tenderRuns_only honly).1] at h
  obtain ⟨h1, h2, h3⟩ := h
  exact ⟨h1, fun a b c => h2 a b hr c, h3⟩

variable {d e : Dev}

/-! ### The timers -/

/-- A field of a Tender register and the register of its error. -/
theorem Dev.lockstepError_sets (h : d.tenderRuns = true) :
    ({ d with tenderHalt := true } : Dev).Sets d.lockstepError [(Reg.CPX_TND_STAT.RUNNING, 0), (Reg.CPX_TND_STAT.LOCKSTEP_ERR, 1)] := by
  have hd : d.lockstepError = ({ d with tenderHalt := true } : Dev).puts [(Reg.CPX_TND_STAT.RUNNING, 0), (Reg.CPX_TND_STAT.LOCKSTEP_ERR, 1)] :=
    if_pos h
  rw [hd]
  exact Dev.puts_sets (by decide) (by decide) _

theorem stateFlds_nodup (n s : Nat) : ((stateFlds n s).map (·.1.key)).Nodup := by
  simp only [stateFlds, List.map_cons, List.map_nil, List.nodup_cons, List.mem_cons, List.not_mem_nil, or_false, not_false_eq_true,
    List.nodup_nil, and_true]
  exact (state_keys n).1

theorem stateFlds_lt {n s : Nat} (hs : s < 16) : ∀ x ∈ stateFlds n s, x.2 < 2 ^ x.1.w := by
  intro x hx
  simp only [stateFlds, List.mem_cons, List.not_mem_nil, or_false] at hx
  rcases hx with rfl | rfl
  · exact hs
  · exact Nat.lt_two_pow_self (n := 1)

/-- The event of a timer is none of the fields of the identity and the state. -/
theorem exp_keys {n i s : Nat} (hi : i = 4 ∨ i = 5) : ∀ y ∈ d.idFlds n ++ stateFlds n s,
    (⟨0x120070 + n * 0x40000, i, 1⟩ : Fld).key ≠ y.1.key := by
  intro y hy h
  rw [List.mem_append] at hy
  rcases hy with hy | hy
  · have hk := (mem_idKeys (d := d)).1 (List.mem_map_of_mem (f := fun e => e.1.key) hy)
    rw [← h] at hk
    simp only [List.map_cons, List.map_nil, List.mem_cons, List.not_mem_nil, or_false, Fld.key, Reg.LN_ACT_STAT.ONU_ID_VALID,
      Reg.LN_ACT_STAT.ONU_ID, Reg.LN_ACT_STAT.EQD_VALID, Reg.LN_EQD.EQD, Reg.LN_ALLOC.VALID, Reg.LN_ALLOC.ALLOC_ID] at hk
    obtain hk | ⟨j, -, hk⟩ := hk <;> omega
  · simp only [stateFlds, List.mem_cons, List.not_mem_nil, or_false] at hy
    rcases hy with rfl | rfl <;>
      simp only [Fld.key, Reg.LN_ACT_STAT.STATE, Reg.LN_ACT_EVT.STATE_CHG] at h <;> omega

/-- A state taken after fields that are not the state. -/
theorem Dev.puts_setState {n s : Nat} {l : List (Fld × Nat)} (hl : ∀ x ∈ l, x.1.key ≠ (Reg.LN_ACT_STAT.STATE n).key)
    (h : d.actState n ≠ s) (h5 : d.actState n ≠ stO5) (h7 : s ≠ stO7) : (d.puts l).setState n s = d.puts (l ++ stateFlds n s) := by
  have hst : (d.puts l).actState n = d.actState n := by
    clear h h5
    induction l generalizing d with
    | nil => rfl
    | cons x l ih =>
      exact (ih fun y hy => hl y (List.mem_cons_of_mem _ hy)).trans (Dev.fld_put_ne _ _ (hl x (by simp)).symm)
  rw [Dev.setState_quiet (by rwa [hst]) (by rwa [hst]) h7, Dev.puts_append]
  rfl

theorem Dev.idFlds_state (d : Dev) (n : Nat) : ∀ x ∈ d.idFlds n, x.1.key ≠ (Reg.LN_ACT_STAT.STATE n).key := fun x hx =>
  id_state_keys n 0 x hx (Reg.LN_ACT_STAT.STATE n, 0) (by simp [stateFlds])

theorem onuFlds_sub (d : Dev) (n : Nat) : (onuFlds n).Sublist (d.idFlds n) := by
  rw [Dev.idFlds, List.append_assoc]
  exact List.sublist_append_left _ _

/-- Some fields of the identity cleared, and a state taken. -/
theorem Dev.cleared_sets {n s : Nat} (hs : s < 16) {l : List (Fld × Nat)} (hl : l.Sublist (d.idFlds n)) (e : Dev) :
    e.Sets (e.puts (l ++ stateFlds n s)) (l ++ stateFlds n s) := by
  rw [Dev.puts_append]
  refine (Dev.puts_sets ((hl.map _).nodup (idKeys_nodup d n)) (fun x hx => d.idFlds_lt n x (hl.subset hx)) e).trans
    (Dev.puts_sets (stateFlds_nodup n s) (stateFlds_lt hs) _) fun x hx y hy => ?_
  exact id_state_keys n s x (hl.subset hx) y hy

/-- So too after the event of a timer. -/
theorem Dev.expired_sets {n s i : Nat} (hi : i = 4 ∨ i = 5) (hs : s < 16) {l : List (Fld × Nat)} (hl : l.Sublist (d.idFlds n)) (e : Dev) :
    e.Sets (e.puts ((⟨0x120070 + n * 0x40000, i, 1⟩, 1) :: (l ++ stateFlds n s)))
      ((⟨0x120070 + n * 0x40000, i, 1⟩, 1) :: (l ++ stateFlds n s)) := by
  have hone : e.Sets (e.put ⟨0x120070 + n * 0x40000, i, 1⟩ 1) [(⟨0x120070 + n * 0x40000, i, 1⟩, 1)] := .put_one e _ 1
  refine hone.trans (Dev.cleared_sets hs hl _) fun x hx y hy => ?_
  rw [List.mem_singleton.1 hx]
  refine exp_keys (d := d) (s := s) hi y ?_
  exact List.mem_append.2 ((List.mem_append.1 hy).imp (fun h => hl.subset h) id)

/-- TO1 in O4 (R84). -/
theorem Dev.to1Expiry_runs {n : Nat} (h1 : (d.act n).to1 = true) (hst : d.actState n = stO4) (hh : d.tenderHalt = false) :
    d.to1Expiry n = (d.setAct n { d.act n with to1 := false, late1 := false }).puts
      ((Reg.LN_ACT_EVT.TO1_EXP n, 1) :: (onuFlds n ++ stateFlds n stO23)) := by
  let b := d.setAct n { d.act n with to1 := false, late1 := false }
  have hk : ∀ x ∈ (Reg.LN_ACT_EVT.TO1_EXP n, 1) :: onuFlds n, x.1.key ≠ (Reg.LN_ACT_STAT.STATE n).key := by
    intro x hx
    rcases List.mem_cons.1 hx with rfl | hx
    · exact exp_keys (d := d) (s := 0) (.inl rfl) (Reg.LN_ACT_STAT.STATE n, 0) (by simp [stateFlds])
    · exact d.idFlds_state n x ((onuFlds_sub d n).subset hx)
  have hput : (b.put (Reg.LN_ACT_EVT.TO1_EXP n) 1).actState n = stO4 := (Dev.fld_put_ne _ _ (hk _ (List.mem_cons_self ..)).symm).trans hst
  have hd : d.to1Expiry n = (b.put (Reg.LN_ACT_EVT.TO1_EXP n) 1).to1Act n := by
    rw [Dev.to1Expiry]
    refine (if_pos ⟨h1, hst⟩).trans ?_
    rw [hh]
    rfl
  rw [hd, Dev.to1Act, if_pos hput]
  exact Dev.puts_setState (d := b) hk (by rw [show b.actState n = stO4 from hst]; decide) (by rw [show b.actState n = stO4 from hst]; decide)
    (by decide)

/-- TO2 in O6 (R84). -/
theorem Dev.to2Expiry_runs {n : Nat} (h2 : (d.act n).to2 = true) (hst : d.actState n = stO6) (hh : d.tenderHalt = false) :
    d.to2Expiry n = (d.setAct n { d.act n with to2 := false, late2 := false }).puts
      ((Reg.LN_ACT_EVT.TO2_EXP n, 1) :: (d.idFlds n ++ stateFlds n stO11)) := by
  let b := d.setAct n { d.act n with to2 := false, late2 := false }
  have hk : ∀ x ∈ (Reg.LN_ACT_EVT.TO2_EXP n, 1) :: d.idFlds n, x.1.key ≠ (Reg.LN_ACT_STAT.STATE n).key := by
    intro x hx
    rcases List.mem_cons.1 hx with rfl | hx
    · exact exp_keys (d := d) (s := 0) (.inr rfl) (Reg.LN_ACT_STAT.STATE n, 0) (by simp [stateFlds])
    · exact d.idFlds_state n x hx
  have hput : (b.put (Reg.LN_ACT_EVT.TO2_EXP n) 1).actState n = stO6 := (Dev.fld_put_ne _ _ (hk _ (List.mem_cons_self ..)).symm).trans hst
  have hd : d.to2Expiry n = (b.put (Reg.LN_ACT_EVT.TO2_EXP n) 1).to2Act n := by
    rw [Dev.to2Expiry]
    refine (if_pos ⟨h2, hst⟩).trans ?_
    rw [hh]
    rfl
  have hids : (b.put (Reg.LN_ACT_EVT.TO2_EXP n) 1).idFlds n = d.idFlds n := by
    have hon (j : Nat) : (b.put (Reg.LN_ACT_EVT.TO2_EXP n) 1).on (Reg.LN_ALLOC.VALID n j) = d.on (Reg.LN_ALLOC.VALID n j) := by
      refine congrArg (· != 0) (Dev.fld_put_ne b 1 ?_)
      simp only [Fld.key, Reg.LN_ALLOC.VALID, Reg.LN_ACT_EVT.TO2_EXP]
      omega
    simp only [Dev.idFlds, Dev.allocEntries, hon]
  rw [hd, Dev.to2Act, if_pos hput, Dev.clearIds_puts, hids]
  exact Dev.puts_setState (d := b) hk (by rw [show b.actState n = stO6 from hst]; decide) (by rw [show b.actState n = stO6 from hst]; decide)
    (by decide)

/-- An expiry while the Tender is halted is only recorded. -/
theorem Dev.expiry_halted (e : Dev) (n : Nat) {i : Nat} : e.Sets (e.put ⟨0x120070 + n * 0x40000, i, 1⟩ 1) [(⟨0x120070 + n * 0x40000, i, 1⟩, 1)] :=
  .put_one e _ 1

/-- A change of identity leaves the state, and a loss of downstream early on takes O1.1. -/
theorem Dev.lods_early_sets {n : Nat} (h : d.actState n = stO12 ∨ d.actState n = stO23 ∨ d.actState n = stO4) :
    (d.setAct n { d.act n with hdrs := 0, lateLods := false, to1 := false, late1 := false }).Sets (d.lods n) (d.idFlds n ++ stateFlds n stO11) := by
  let b := d.setAct n { d.act n with hdrs := 0, lateLods := false, to1 := false, late1 := false }
  have hb : b.actState n = d.actState n := rfl
  have hd : d.lods n = b.puts (d.idFlds n ++ stateFlds n stO11) := by
    rw [d.lods_early n h]
    refine Dev.puts_setState (d := b) (d.idFlds_state n) ?_ ?_ (by decide)
    · rcases h with h | h | h <;> rw [hb, h] <;> decide
    · rcases h with h | h | h <;> rw [hb, h] <;> decide
  rw [hd]
  exact Dev.cleared_sets (by decide) (List.Sublist.refl _) b

/-- Loss of downstream with the machine enabled and the Tender running, in every other state. -/
theorem Dev.lodsTimeout_runs {n : Nat} (hl : d.lnUp n = true) (he : d.actEn n = true) (hh : d.tenderHalt = false) (hr : d.tenderRuns = true) :
    d.lodsTimeout n = d.lods n := by
  simp only [Dev.lodsTimeout, hl, he, hh, hr, Bool.not_true, Bool.or_self, Bool.false_eq_true, if_false, if_true]

/-- Settles O26: each part of the machine by its case; a restart resumes each channel apart from the others. -/
theorem tenderHaltAndTimers : Obligations.TenderHaltAndTimers := by
  unfold Obligations.TenderHaltAndTimers
  intro s m n hup x st ids all goTo runs
  refine ⟨fun hr => ?_, fun hr => ?_, fun hc ht hh => ?_, fun hc ht hh => ?_, fun hr => ?_, fun hr hh => ?_, fun hr hh hq => ?_,
    fun hr hh hq => ⟨fun hst => ?_, fun hst => ?_, fun hst => ?_⟩, fun h => ?_, fun h1 hst => ⟨fun hh => ?_, fun hh => ?_⟩, fun h => ?_,
    fun h2 hst => ⟨fun hh => ?_, fun hh => ?_⟩⟩
  · refine Effect.of_main (exec_tenderLockstepError s) hup ⟨?_, Dev.lockstepError_sets hr⟩
    rw [Dev.lockstepError, if_pos hr]
  · exact .of_main_eq (exec_tenderLockstepError s) hup (if_neg (by simp [hr]))
  · refine .of_main_eq (exec_tenderRestart ..) hup ((Dev.poke_CPX_TND_CTRL _ m _ hc ht).trans ?_)
    exact (Dev.iff_of _ (b := bitOf 1 0) rfl _).trans (if_neg (by simp [hh]))
  · refine Effect.of_main_eq hup ?_ (exec_tenderRestart ..) ((Dev.poke_CPX_TND_CTRL _ m _ hc ht).trans (Dev.iff_of _ (b := bitOf 1 0) rfl _))
    obtain ⟨hhalt, hrun⟩ := Dev.restart_runs hh ht
    refine ⟨hhalt, hrun, fun hl => ?_, fun hl => ?_⟩
    · obtain ⟨ha, hs, -⟩ := Dev.restart_down (n := n) hh hl
      exact ⟨ha, hs⟩
    · obtain ⟨b, ⟨hact, hstate, hen, happ, hreq⟩, hbr, ⟨hact', hstate', -⟩⟩ := Dev.restart_up n.isLt hh ht hl
      obtain ⟨m1, m2, m3, m4⟩ := b.restartOne_marks n
      obtain ⟨-, -, -, -, -, pto2, plods⟩ := Dev.pwrResume_act (b.resume n) n
      have hans := b.restartOne_answer n hbr
      dsimp only at hans
      rw [hact, happ, hreq] at hans
      obtain ⟨a1, a2, a3⟩ := hans
      rw [hact', hstate', Dev.restartOne_state]
      refine ⟨m1, m2, m3, m4, fun h1 h2 h3 => ?_, fun h1 h2 h3 h4 h5 => ?_, fun h1 h2 h3 h4 h5 h6 => ?_, fun h1 h2 h3 h4 h5 => ?_, a1, a2, a3⟩
      · exact Dev.resume_disabled (by rwa [hact]) (by rwa [hact]) (by rwa [hstate])
      · exact Dev.resume_to1 (by rwa [hact]) (by rwa [hact]) (by rwa [hact]) (by rwa [hstate]) (by rwa [hact])
      · exact Dev.resume_to2 (by rwa [hact]) (by rwa [hact]) (by rwa [hact]) (by rwa [hstate]) (by rwa [hact]) (by rwa [hact])
      · obtain ⟨r1, r2, r3⟩ := Dev.resume_lods (d := b) (n := n) (by rwa [hact]) (by rwa [hact]) (by rwa [hact]) (by rwa [hen]) (by rwa [hstate])
        exact ⟨r1, pto2.trans r2, plods.trans r3⟩
  · refine .of_main_eq (exec_lodsTimeout ..) hup (if_pos ?_)
    simp only [runs, not_and_or, Bool.not_eq_true] at hr
    simpa using hr
  · refine .of_main_eq (exec_lodsTimeout ..) hup ?_
    simp only [Dev.lodsTimeout, hr.1, hr.2, hh, Bool.not_true, Bool.or_self, Bool.false_eq_true, if_false, if_true]
    rfl
  · refine .of_main_eq (exec_lodsTimeout ..) hup ?_
    simp only [Dev.lodsTimeout, hr.1, hr.2, hh, hq, Bool.not_true, Bool.or_self, Bool.false_eq_true, if_false]
  · obtain ⟨h1, h2, ⟨h4, h5⟩, h6, h7⟩ := Dev.lods_run (d := s.dev) (n := n) hst
    obtain ⟨c1, c2, -⟩ := h2.core
    exact Effect.of_main_eq hup ⟨h1, c2, c1, h4, h5, h6, h7⟩ (exec_lodsTimeout ..) (Dev.lodsTimeout_runs hr.1 hr.2 hh hq)
  · exact Effect.of_main_eq hup (Dev.lods_early_sets hst) (exec_lodsTimeout ..) (Dev.lodsTimeout_runs hr.1 hr.2 hh hq)
  · exact .of_main_eq (exec_lodsTimeout ..) hup ((Dev.lodsTimeout_runs hr.1 hr.2 hh hq).trans
      (Dev.lods_late (fun h => hst (by tauto)) fun h => hst (by tauto)))
  · refine .of_main_eq (exec_to1Expiry ..) hup (if_neg fun hc => ?_)
    exact h.elim (fun h => by simp [x, hc.1] at h) fun h => h hc.2
  · refine Effect.of_main_eq hup ?_ (exec_to1Expiry ..) (Dev.to1Expiry_runs h1 hst hh)
    exact Dev.expired_sets (.inl rfl) (by decide) (onuFlds_sub s.dev n) _
  · refine Effect.of_main_eq hup (Dev.expiry_halted _ n) (exec_to1Expiry ..) ?_
    rw [Dev.to1Expiry]
    refine (if_pos ⟨h1, hst⟩).trans ?_
    rw [hh]
    rfl
  · refine .of_main_eq (exec_to2Expiry ..) hup (if_neg fun hc => ?_)
    exact h.elim (fun h => by simp [x, hc.1] at h) fun h => h hc.2
  · refine Effect.of_main_eq hup ?_ (exec_to2Expiry ..) (Dev.to2Expiry_runs h2 hst hh)
    exact Dev.expired_sets (.inr rfl) (by decide) (List.Sublist.refl _) _
  · refine Effect.of_main_eq hup (Dev.expiry_halted _ n) (exec_to2Expiry ..) ?_
    rw [Dev.to2Expiry]
    refine (if_pos ⟨h2, hst⟩).trans ?_
    rw [hh]
    rfl

end Sys2Proof.Machine
end

section
/-!
PROOFS. PLOAM messages, answers, Alloc-ID bindings and OMCI (R89 to R98, R103, R109, R110, R334).
-/
namespace Sys2Proof.Machine

variable {d e : Dev}

/-! ### Which messages are handled (R92, R93) -/

theorem Dev.addressed_iff {n : Nat} {p : Ploam} : d.addressed n p = true ↔
    p.onu = none ∨ d.on (Reg.LN_ACT_STAT.ONU_ID_VALID n) = true ∧ p.onu = some (d.fld (Reg.LN_ACT_STAT.ONU_ID n)) ∨
      p.serial = some (vendorId, d.vssn n) := by
  simp only [Dev.addressed, Dev.ownOnu, Dev.ownSerial, Bool.or_eq_true, Bool.and_eq_true, Option.isNone_iff_eq_none, beq_iff_eq, or_assoc]

/-- Channel `n` hears the message: it is up and enabled, the Tender runs, and the message is for it. -/
def Dev.heard (d : Dev) (n : Nat) (p : Ploam) : Prop :=
  d.lnUp n = true ∧ d.actEn n = true ∧ d.tenderRuns = true ∧ d.addressed n p = true

theorem Dev.ploamRx_unheard {n : Nat} {p : Ploam} {h : Dev → Dev × Nat} (hh : ¬ d.heard n p) : d.ploamRx n p h = d := by
  refine if_pos ?_
  simp only [Dev.heard, not_and_or, Bool.not_eq_true] at hh
  simpa [or_assoc] using hh

theorem Dev.ploamRx_heard {n : Nat} {p : Ploam} (h : Dev → Dev × Nat) (hh : d.heard n p) : d.ploamRx n p h =
    if d.ploamMicOk n p.msg then (h d).1.ploamRecord n p (h d).2 (d.actState n)
    else (d.actCnt n 1 1).ploamRecord n p aMicFail (d.actState n) := by
  obtain ⟨h1, h2, h3, h4⟩ := hh
  refine if_neg ?_
  simp [h1, h2, h3, h4]

/-- Settles O28: each message is `ploamRx` with what its type asks for. -/
theorem ploamMessagesAreHandled : Obligations.PloamMessagesAreHandled := by
  unfold Obligations.PloamMessagesAreHandled
  intro s n p prof onu eqd alloc idx ident level sw all disable add content hup l st here heard spoilt cp
  have hheard : heard ↔ s.dev.heard n p := by
    simp only [heard, here, Dev.heard, Dev.addressed_iff]
  have hexec : ∀ e ∈ l, exec e.1 s = s.main (·.ploamRx n p e.2) := by
    simp only [l, List.forall_mem_cons]
    exact ⟨rfl, rfl, rfl, rfl, rfl, rfl, rfl, rfl, rfl, rfl, rfl, rfl, rfl, rfl, rfl, rfl, fun _ h => absurd h List.not_mem_nil⟩
  have hprofile : exec (.channelProfile n p ident) s = s.main (fun d => (d.ploamRx n p (·.channelProfile n p ident)).lineMoved n) := rfl
  refine ⟨fun h => ⟨fun e he => ?_, ?_⟩, fun h hm => ⟨fun e he => ?_, ?_⟩, fun h hm => ⟨fun e he => ?_, ?_⟩⟩
  · exact .of_main_eq (hexec e he) hup (Dev.ploamRx_unheard (mt hheard.2 h))
  · exact .of_main_eq hprofile hup (congrArg (Dev.lineMoved · n) (Dev.ploamRx_unheard (mt hheard.2 h)))
  · exact .of_main_eq (hexec e he) hup ((Dev.ploamRx_heard _ (hheard.1 h)).trans (if_neg (by simp [hm])))
  · exact .of_main_eq hprofile hup (congrArg (Dev.lineMoved · n) ((Dev.ploamRx_heard _ (hheard.1 h)).trans (if_neg (by simp [hm]))))
  · exact .of_main_eq (hexec e he) hup ((Dev.ploamRx_heard _ (hheard.1 h)).trans (if_pos hm))
  · exact .of_main_eq hprofile hup (congrArg (Dev.lineMoved · n) ((Dev.ploamRx_heard _ (hheard.1 h)).trans (if_pos hm)))

variable {d e : Dev}

/-! ### A burst cut (R86) -/

/-- No burst of channel `n` reaches beyond now. -/
def Dev.cutNow (d : Dev) (n : Nat) : Prop := ∀ o, (d.coach n).lastOff = some o → o ≤ d.gridNow n

theorem Dev.cutNow_of {n : Nat} (h : d.cutNow n) (hp : (e.coach n).place = (d.coach n).place) (ht : e.tim = d.tim) : e.cutNow n := by
  have hoff : (e.coach n).lastOff = (d.coach n).lastOff := congrArg Prod.fst hp
  have hframe : (e.coach n).frame = (d.coach n).frame := congrArg (fun p => p.2.1) hp
  have hrx : (e.coach n).rxPs = (d.coach n).rxPs := congrArg (fun p => p.2.2) hp
  intro o ho
  rw [hoff] at ho
  rw [Dev.gridNow, hframe, hrx, Dev.nowPs, ht]
  exact h o ho

theorem Dev.txCut_cut (d : Dev) (n : Nat) : (d.txCut n).cutNow n := by
  intro o ho
  unfold Dev.txCut at ho ⊢
  dsimp only at ho ⊢
  split at ho
  · next hc => simp [hc] at ho
  · next e he =>
    split at ho
    · next hlt =>
      rw [if_pos hlt]
      have hcoach : ((d.setCoach n { d.coach n with lastOff := some (d.gridNow n) }).emit (.burstCut n)).coach n =
          { d.coach n with lastOff := some (d.gridNow n) } := Dev.coach_set ..
      rw [hcoach] at ho
      rw [Dev.gridNow, hcoach]
      exact (Option.some.inj ho).ge
    · next hge =>
      rw [if_neg hge]
      rw [he] at ho
      obtain rfl := Option.some.inj ho
      omega

theorem Dev.cancelSealed_place (d : Dev) (n : Nat) : ((d.cancelSealed n).coach n).place = (d.coach n).place ∧ (d.cancelSealed n).tim = d.tim := by
  have h := Dev.GaveBack.each (n := n) (f := fun d b => Dev.unseal d n b) (fun d b => .of_unseal d n b)
    ((d.coach n).bursts.filter (fun b => b.content.isSome)).reverse
    (d.setCoach n { d.coach n with bursts := (d.coach n).bursts.filter (fun b => b.content.isNone) })
  rw [Dev.cancelSealed]
  exact ⟨h.place.trans (by rw [Dev.coach_set]; rfl), h.tim⟩

theorem Dev.strand_place (d : Dev) (n : Nat) : ((d.strand n).coach n).place = (d.coach n).place ∧ (d.strand n).tim = d.tim := by
  obtain ⟨hp, ht⟩ := d.cancelSealed_place n
  let x := (d.cancelSealed n).coach n
  have hrel := Dev.GaveBack.each (n := n) (f := fun d (e : BFrame) => d.release e.f) (fun d e => .release d n e.f)
    ((x.store.filter (fun f => f.group.isSome)).filter (fun f => !f.ready)) (d.cancelSealed n)
  exact ⟨(congrArg Coach.place (Dev.coach_set ..)).trans hp, hrel.tim.trans ht⟩

/-- A channel that goes to O7 sends nothing more. -/
theorem Dev.setState_o7 {n : Nat} (h : d.actState n ≠ stO7) : (d.setState n stO7).cutNow n := by
  let d1 := ((d.put (Reg.LN_ACT_STAT.STATE n) stO7).put (Reg.LN_ACT_EVT.STATE_CHG n) 1).txCut n
  have hd : d.setState n stO7 = d1.iff (d.actState n == stO5) (·.strand n) := if_neg h
  have hcut : d1.cutNow n := Dev.txCut_cut _ n
  rw [hd, Dev.iff]
  split
  · exact Dev.cutNow_of hcut (d1.strand_place n).1 (d1.strand_place n).2
  · exact hcut

/-- A change of state is an event. -/
theorem Dev.setState_chg {n s : Nat} (h : d.actState n ≠ s) : (d.setState n s).fld (Reg.LN_ACT_EVT.STATE_CHG n) = 1 := by
  let d1 := (d.put (Reg.LN_ACT_STAT.STATE n) s).put (Reg.LN_ACT_EVT.STATE_CHG n) 1
  let d2 := d1.iff (s == stO7) (·.txCut n)
  have hd : d.setState n s = d2.iff (d.actState n == stO5) (·.strand n) := if_neg h
  have h1 : d2.fld (Reg.LN_ACT_EVT.STATE_CHG n) = 1 := by
    have hregs : d2.regs = d1.regs := by
      simp only [d2, Dev.iff]
      split
      · exact (d1.txCut_act n).2.2
      · rfl
    rw [Dev.fld, hregs]
    exact Dev.fld_put_same ..
  rw [hd, Dev.iff]
  split
  · exact ((d2.strand_spec n).2.2.2.fld_eq (by simpa using (state_keys n).2.2)).trans h1
  · exact h1

/-! ### Fields of a list of writes -/

theorem Dev.puts_fld {l : List (Fld × Nat)} (hn : (l.map (·.1.key)).Nodup) (d : Dev) {x : Fld × Nat} (hx : x ∈ l) :
    (d.puts l).fld x.1 = x.2 % 2 ^ x.1.w :=
  (Dev.puts_sets_mod hn d).1.1 _ (List.mem_map_of_mem (f := fun x : Fld × Nat => (x.1, x.2 % 2 ^ x.1.w)) hx)

theorem Dev.puts_fld_ne {l : List (Fld × Nat)} (d : Dev) {f : Fld} (hf : ∀ x ∈ l, x.1.key ≠ f.key) : (d.puts l).fld f = d.fld f := by
  induction l generalizing d with
  | nil => rfl
  | cons x l ih => exact (ih (d.put x.1 x.2) fun y hy => hf y (List.mem_cons_of_mem _ hy)).trans (Dev.fld_put_ne _ _ (hf x (by simp)).symm)

/-! ### Messages of identity (R84, R91, R92) -/

theorem Dev.assignOnu_done {n : Nat} {p : Ploam} (onu : Nat) (hst : d.actState n = stO23) (hp : d.ownSerial n p = true) :
    (d.assignOnu n p onu).2 = aDone ∧ (d.setAct n { d.act n with to1 := true, late1 := false }).Sets (d.assignOnu n p onu).1
      ([(Reg.LN_ACT_STAT.ONU_ID n, onu % 2 ^ 10), (Reg.LN_ACT_STAT.ONU_ID_VALID n, 1)] ++ stateFlds n stO4) := by
  let b := d.setAct n { d.act n with to1 := true, late1 := false }
  let l := [(Reg.LN_ACT_STAT.ONU_ID n, onu), (Reg.LN_ACT_STAT.ONU_ID_VALID n, 1)]
  have hb : b.actState n = stO23 := hst
  have hd : d.assignOnu n p onu = ((b.puts l).setState n stO4, aDone) := if_pos ⟨hst, hp⟩
  have hk : ∀ x ∈ l, x.1.key ≠ (Reg.LN_ACT_STAT.STATE n).key := by
    simp only [l, List.forall_mem_cons, Fld.key, Reg.LN_ACT_STAT.STATE, Reg.LN_ACT_STAT.ONU_ID, Reg.LN_ACT_STAT.ONU_ID_VALID]
    exact ⟨by omega, by omega, fun _ h => absurd h List.not_mem_nil⟩
  have hnd : ((l ++ stateFlds n stO4).map (·.1.key)).Nodup := by
    simp only [l, stateFlds, List.cons_append, List.nil_append, List.map_cons, List.map_nil, List.nodup_cons, List.mem_cons,
      List.not_mem_nil, or_false, not_or, not_false_eq_true, List.nodup_nil, and_true, Fld.key, Reg.LN_ACT_STAT.STATE,
      Reg.LN_ACT_STAT.ONU_ID, Reg.LN_ACT_STAT.ONU_ID_VALID, Reg.LN_ACT_EVT.STATE_CHG]
    omega
  rw [hd, Dev.puts_setState (d := b) hk (by rw [hb]; decide) (by rw [hb]; decide) (by decide)]
  exact ⟨rfl, Dev.puts_sets_mod hnd b⟩

theorem Dev.deactivate_done {n : Nat} {p : Ploam} (hst : d.actState n = stO4 ∨ d.actState n = stO5)
    (hp : p.onu.isNone = true ∨ d.ownOnu n p = true) : d.deactivate n p =
      (((d.setAct n { d.act n with to1 := false, to2 := false, late1 := false, late2 := false }).puts (d.idFlds n)).setState n stO23, aDone) := by
  refine (if_pos ⟨hst, hp⟩).trans ?_
  rw [Dev.stopTimers, Dev.clearIds_act, Dev.clearIds_puts, Dev.puts_setAct]

/-- Deactivate in O4. -/
theorem Dev.deactivate_o4 {n : Nat} {p : Ploam} (hst : d.actState n = stO4) (hp : p.onu.isNone = true ∨ d.ownOnu n p = true) :
    (d.deactivate n p).2 = aDone ∧
    (d.setAct n { d.act n with to1 := false, to2 := false, late1 := false, late2 := false }).Sets (d.deactivate n p).1
      (d.idFlds n ++ stateFlds n stO23) := by
  let b := d.setAct n { d.act n with to1 := false, to2 := false, late1 := false, late2 := false }
  have hb : b.actState n = stO4 := hst
  rw [Dev.deactivate_done (.inl hst) hp, Dev.puts_setState (d := b) (d.idFlds_state n) (by rw [hb]; decide) (by rw [hb]; decide) (by decide)]
  exact ⟨rfl, Dev.cleared_sets (by decide) (List.Sublist.refl _) b⟩

/-- The stranded frames are counted in none of the fields of identity and state. -/
theorem idFlds_stranded (d : Dev) (n : Nat) : ∀ x ∈ d.idFlds n, x.1.key ≠ (Reg.LN_BOND_CNT.COUNT bTxStranded).key := by
  intro x hx h
  have hk := (mem_idKeys (d := d)).1 (List.mem_map_of_mem (f := fun e => e.1.key) hx)
  have hlt : ∀ j ∈ d.allocEntries n, j < 128 := fun j hj => List.mem_range.1 (List.mem_filter.1 hj).1
  rw [h] at hk
  simp only [List.map_cons, List.map_nil, List.mem_cons, List.not_mem_nil, or_false, Fld.key, Reg.LN_ACT_STAT.ONU_ID_VALID,
    Reg.LN_ACT_STAT.ONU_ID, Reg.LN_ACT_STAT.EQD_VALID, Reg.LN_EQD.EQD, Reg.LN_ALLOC.VALID, Reg.LN_ALLOC.ALLOC_ID,
    Reg.LN_BOND_CNT.COUNT, bTxStranded] at hk
  obtain hk | ⟨j, hj, hk⟩ := hk
  · omega
  · have := hlt j hj
    omega

/-- A state taken after some fields of the identity, from O5 too. -/
theorem Dev.puts_setState_o5 {n s : Nat} (hs : s < 16) {l : List (Fld × Nat)} (hl : (l.map (·.1.key)).Nodup) (hv : ∀ x ∈ l, x.2 < 2 ^ x.1.w)
    (hk : ∀ x ∈ l, ∀ y ∈ stateFlds n s, x.1.key ≠ y.1.key) (hb : ∀ x ∈ l, x.1.key ≠ (Reg.LN_BOND_CNT.COUNT bTxStranded).key)
    (h : d.actState n ≠ s) :
    let e := (d.puts l).setState n s
    (∀ f ∈ l ++ stateFlds n s, e.fld f.1 = f.2) ∧ (d.act n).Same (e.act n) ∧
    d.SameRegs e ((l ++ stateFlds n s).map Prod.fst ++ [Reg.LN_BOND_CNT.COUNT bTxStranded]) := by
  intro e
  have hst : (d.puts l).actState n = d.actState n := Dev.puts_fld_ne d fun x hx => hk x hx (Reg.LN_ACT_STAT.STATE n, s) (by simp [stateFlds])
  obtain ⟨h1, h2, -, h4⟩ := (d.puts l).setState_spec (n := n) hs
  refine ⟨fun f hf => ?_, by rw [← Dev.puts_act d l n]; exact h2, ?_⟩
  · rcases List.mem_append.1 hf with hf | hf
    · refine (h4.fld_eq ?_).trans ((Dev.puts_fld hl d hf).trans (Nat.mod_eq_of_lt (hv f hf)))
      simp only [List.map_cons, List.map_nil, List.mem_cons, List.not_mem_nil, or_false, not_or]
      exact ⟨hk f hf (Reg.LN_ACT_STAT.STATE n, s) (by simp [stateFlds]), hk f hf (Reg.LN_ACT_EVT.STATE_CHG n, 1) (by simp [stateFlds]), hb f hf⟩
    · simp only [stateFlds, List.mem_cons, List.not_mem_nil, or_false] at hf
      rcases hf with rfl | rfl
      · exact h1
      · exact Dev.setState_chg (by rwa [hst])
  · refine Dev.SameRegs.trans (Dev.puts_sets hl hv d).1.2 h4 fun x hx => ?_
    simp only [stateFlds, List.map_append, List.map_cons, List.map_nil, List.append_assoc, List.cons_append, List.nil_append]
    exact hx

variable {d e : Dev}

/-! ### The time base takes up a delay (R255) -/

/-- Only the time base was touched, and of the registers only its own. -/
structure Dev.TimOnly (d e : Dev) : Prop where
  regs : ∀ k, k / 32 < 0x80000 ∨ 0x80100 ≤ k / 32 → Tbl.get e.regs k (Reg.rst k) = Tbl.get d.regs k (Reg.rst k)
  acts : e.acts = d.acts

namespace Dev.TimOnly

theorem refl (d : Dev) : d.TimOnly d := ⟨fun _ _ => rfl, rfl⟩

theorem trans {f : Dev} (h : d.TimOnly e) (h' : e.TimOnly f) : d.TimOnly f :=
  ⟨fun k hk => (h'.regs k hk).trans (h.regs k hk), h'.acts.trans h.acts⟩

theorem put (h : d.TimOnly e) {f : Fld} (hf : 0x80000 ≤ f.key / 32 ∧ f.key / 32 < 0x80100) (v : Nat) : d.TimOnly (e.put f v) :=
  ⟨fun k hk => by
    rw [Dev.reg_put, if_neg (fun he => by rw [he] at hk; omega)]
    exact h.regs k hk, h.acts⟩

theorem reRate (d : Dev) : d.TimOnly d.reRate := by
  refine ⟨fun k hk => ?_, ?_⟩
  · refine (d.reRate_Regs).2 k fun hm => ?_
    have hkeys : ∀ x ∈ [(Reg.TIM_RATE_EFF.RATE, unsigned 32 d.effRate), (Reg.TIM_STAT.SLEWING, bit (d.tim.pend != 0))] ++
        (if d.rate + d.slewTerm = d.effRate then [] else [(Reg.TIM_EVT.RATE_CLAMP, 1)]), 0x80000 ≤ x.1.key / 32 ∧ x.1.key / 32 < 0x80100 := by
      intro x hx
      have hx' : x ∈ [(Reg.TIM_RATE_EFF.RATE, unsigned 32 d.effRate), (Reg.TIM_STAT.SLEWING, bit (d.tim.pend != 0)), (Reg.TIM_EVT.RATE_CLAMP, 1)] := by
        split at hx <;> simp at hx ⊢ <;> tauto
      simp only [List.mem_cons, List.not_mem_nil, or_false] at hx'
      rcases hx' with rfl | rfl | rfl
      · exact (by decide : 0x80000 ≤ Reg.TIM_RATE_EFF.RATE.key / 32 ∧ Reg.TIM_RATE_EFF.RATE.key / 32 < 0x80100)
      · exact (by decide : 0x80000 ≤ Reg.TIM_STAT.SLEWING.key / 32 ∧ Reg.TIM_STAT.SLEWING.key / 32 < 0x80100)
      · decide
    rw [List.map_map] at hm
    obtain ⟨x, hx, rfl⟩ := List.mem_map.1 hm
    have := hkeys x hx
    simp only [Function.comp_apply] at hk
    omega
  · unfold Dev.reRate
    simp only [Dev.iff]
    split <;> split <;> rfl

theorem iff (h : d.TimOnly e) {b : Bool} {f : Dev → Dev} (hf : ∀ e : Dev, e.TimOnly (f e)) : d.TimOnly (e.iff b f) := by
  unfold Dev.iff
  split
  · exact h.trans (hf e)
  · exact h

theorem setPend (d : Dev) (p : Int) : d.TimOnly (d.setPend p) :=
  (⟨fun _ _ => rfl, rfl⟩ : d.TimOnly { d with tim := { d.tim with pend := p } }).trans (.reRate _)

theorem ddsRecompute (d : Dev) (eqd : Nat) (path : Bool) : d.TimOnly (d.ddsRecompute eqd path) := by
  have htim : d.TimOnly { d with tim := { d.tim with dds := d.ddsOf eqd } } := ⟨fun _ _ => rfl, rfl⟩
  have hput := htim.put (f := Reg.TIM_XFER_DDS.D_DS) (by decide) (roundPs (fracTime (d.ddsOf eqd))).toNat
  have hevt (e : Dev) : e.TimOnly ((e.ev Reg.TIM_EVT.PATH_CHANGE).bump (Reg.TIM_CNT.COUNT 6)) :=
    ((refl e).put (f := Reg.TIM_EVT.PATH_CHANGE) (by decide) 1).put (f := Reg.TIM_CNT.COUNT 6) (by decide) _
  exact (hput.iff fun e => setPend e _).iff hevt

theorem trefEqd (d : Dev) (path : Bool) : d.TimOnly (d.trefEqd path) := by
  unfold Dev.trefEqd
  split
  · exact ddsRecompute ..
  · exact .refl d

end Dev.TimOnly

/-- What Ranging_Time writes. -/
def Dev.rangeFlds (d : Dev) (n eqd : Nat) : List (Fld × Nat) :=
  [(Reg.LN_EQD.EQD n, eqd), (Reg.LN_EQD.SEQ n, d.fld (Reg.LN_EQD.SEQ n) + 1), (Reg.LN_ACT_STAT.EQD_VALID n, 1), (Reg.LN_ACT_EVT.EQD_LOAD n, 1)]

theorem Dev.rangeFlds_nodup (d : Dev) (n eqd : Nat) : ((d.rangeFlds n eqd).map (·.1.key)).Nodup := by
  simp only [Dev.rangeFlds, List.map_cons, List.map_nil, List.nodup_cons, List.mem_cons, List.not_mem_nil, or_false, not_or,
    not_false_eq_true, List.nodup_nil, and_true, Fld.key, Reg.LN_EQD.EQD, Reg.LN_EQD.SEQ, Reg.LN_ACT_STAT.EQD_VALID, Reg.LN_ACT_EVT.EQD_LOAD]
  omega

theorem Dev.rangeFlds_state (d : Dev) (n eqd s : Nat) : ∀ x ∈ d.rangeFlds n eqd, ∀ y ∈ stateFlds n s, x.1.key ≠ y.1.key := by
  simp only [Dev.rangeFlds, stateFlds, List.forall_mem_cons, Fld.key, Reg.LN_EQD.EQD, Reg.LN_EQD.SEQ, Reg.LN_ACT_STAT.EQD_VALID,
    Reg.LN_ACT_EVT.EQD_LOAD, Reg.LN_ACT_STAT.STATE, Reg.LN_ACT_EVT.STATE_CHG, List.not_mem_nil, false_imp_iff, implies_true, and_true]
  omega

/-- The registers of a ranged channel before its state is looked at. -/
def Dev.ranged (d : Dev) (n eqd : Nat) : Dev :=
  let d1 := (d.puts (d.rangeFlds n eqd)).setAct n { d.act n with loaded := eqd }
  d1.iff (d1.tref == some n) (·.trefEqd true)

theorem Dev.ranged_only (d : Dev) (n eqd : Nat) :
    ((d.puts (d.rangeFlds n eqd)).setAct n { d.act n with loaded := eqd }).TimOnly (d.ranged n eqd) := by
  unfold Dev.ranged Dev.iff
  dsimp only
  split
  · exact .trefEqd _ true
  · exact .refl _

/-- A register of a line channel. -/
theorem Dev.TimOnly.line (h : d.TimOnly e) {o i w n : Nat} (ho : 0x120000 ≤ o) (hi : i < 32) :
    e.fld ⟨o + n * 0x40000, i, w⟩ = d.fld ⟨o + n * 0x40000, i, w⟩ := h.regs _ (by simp only [Fld.key]; omega)

theorem Dev.ranged_fld (d : Dev) (n eqd : Nat) : ∀ x ∈ d.rangeFlds n eqd, (d.ranged n eqd).fld x.1 = x.2 % 2 ^ x.1.w := by
  intro x hx
  have hput := Dev.puts_fld (d.rangeFlds_nodup n eqd) d hx
  have hline : (d.ranged n eqd).fld x.1 = (d.puts (d.rangeFlds n eqd)).fld x.1 := by
    have h := d.ranged_only n eqd
    simp only [Dev.rangeFlds, List.mem_cons, List.not_mem_nil, or_false] at hx
    rcases hx with rfl | rfl | rfl | rfl
    · exact h.line (o := 0x120040) (by decide) (by decide)
    · exact h.line (o := 0x120040) (by decide) (by decide)
    · exact h.line (o := 0x120004) (by decide) (by decide)
    · exact h.line (o := 0x120070) (by decide) (by decide)
  rw [hline, hput]

theorem Dev.ranged_state (d : Dev) (n eqd : Nat) : (d.ranged n eqd).actState n = d.actState n :=
  ((d.ranged_only n eqd).line (o := 0x120004) (by decide) (by decide)).trans
    (Dev.puts_fld_ne d fun x hx => d.rangeFlds_state n eqd 0 x hx (Reg.LN_ACT_STAT.STATE n, 0) (by simp [stateFlds]))

theorem Dev.ranged_act (d : Dev) (n eqd : Nat) : (d.ranged n eqd).act n = { d.act n with loaded := eqd } := by
  have h := congrArg (fun t => Tbl.get t n ({} : Act)) (d.ranged_only n eqd).acts
  exact h.trans (Dev.act_set ..)

theorem Dev.rangingTime_done {n : Nat} {p : Ploam} (v : Nat) (hst : d.actState n = stO4 ∨ d.actState n = stO5) (hp : d.ownOnu n p = true) :
    d.rangingTime n p v = (if d.actState n = stO4 then
      ((d.ranged n (Config.eqdUi v % 2 ^ 28)).setAct n { (d.ranged n (Config.eqdUi v % 2 ^ 28)).act n with to1 := false, late1 := false }).setState n stO5
      else d.ranged n (Config.eqdUi v % 2 ^ 28), aDone) := if_pos ⟨hst, hp⟩

variable {d e : Dev}

/-- Ranging_Time in O4 and O5. -/
theorem Dev.rangingTime_spec {n : Nat} {p : Ploam} (v : Nat) (hst : d.actState n = stO4 ∨ d.actState n = stO5) (hp : d.ownOnu n p = true) :
    let e := (d.rangingTime n p v).1
    (d.rangingTime n p v).2 = aDone ∧ (∀ x ∈ d.rangeFlds n (Config.eqdUi v % 2 ^ 28), e.fld x.1 = x.2 % 2 ^ x.1.w) ∧
    (e.act n).loaded = Config.eqdUi v % 2 ^ 28 ∧ e.actState n = stO5 ∧ (d.actState n = stO4 → (e.act n).to1 = false) ∧
    (d.tref ≠ some n → d.actState n = stO5 → d.SameRegs e ((d.rangeFlds n (Config.eqdUi v % 2 ^ 28)).map Prod.fst)) := by
  intro e
  rw [show e = (d.rangingTime n p v).1 from rfl, Dev.rangingTime_done v hst hp]
  generalize Config.eqdUi v % 2 ^ 28 = q
  have hs := d.ranged_state n q
  have ha := d.ranged_act n q
  rcases hst with h4 | h5
  · let b := (d.ranged n q).setAct n { (d.ranged n q).act n with to1 := false, late1 := false }
    have hb : b.actState n = stO4 := hs.trans h4
    have hact : b.act n = { (d.ranged n q).act n with to1 := false, late1 := false } := Dev.act_set ..
    rw [if_pos h4, Dev.setState_quiet (d := b) (by rw [hb]; decide) (by rw [hb]; decide) (by decide), Dev.puts_act, hact, ha]
    refine ⟨rfl, fun x hx => ?_, rfl, ?_, fun _ => rfl, fun _ h5 => absurd (h4.symm.trans h5) (by decide)⟩
    · refine Eq.trans ?_ (d.ranged_fld n q x hx)
      exact Dev.puts_fld_ne b fun y hy => (d.rangeFlds_state n q stO5 x hx y hy).symm
    · exact Dev.puts_fld (stateFlds_nodup n stO5) b (x := (Reg.LN_ACT_STAT.STATE n, stO5)) (by simp [stateFlds])
  · have h4 : d.actState n ≠ stO4 := by rw [h5]; decide
    rw [if_neg h4]
    refine ⟨rfl, d.ranged_fld n q, by rw [ha], hs.trans h5, fun h => absurd h h4, fun ht _ => ?_⟩
    have ht' : ((d.puts (d.rangeFlds n q)).setAct n { d.act n with loaded := q }).tref = d.tref := by
      have hf (i w : Nat) (hi : i < 32) : (d.puts (d.rangeFlds n q)).fld ⟨0x131104, i, w⟩ = d.fld ⟨0x131104, i, w⟩ := by
        refine Dev.puts_fld_ne d ?_
        simp only [Dev.rangeFlds, List.forall_mem_cons, Fld.key, Reg.LN_EQD.EQD, Reg.LN_EQD.SEQ, Reg.LN_ACT_STAT.EQD_VALID,
          Reg.LN_ACT_EVT.EQD_LOAD, List.not_mem_nil, false_imp_iff, implies_true, and_true]
        omega
      have hnone : (d.puts (d.rangeFlds n q)).on Reg.LN_PROT_STAT.TREF_NONE = d.on Reg.LN_PROT_STAT.TREF_NONE := congrArg (· != 0) (hf 12 1 (by decide))
      have hval : (d.puts (d.rangeFlds n q)).fld Reg.LN_PROT_STAT.TREF = d.fld Reg.LN_PROT_STAT.TREF := hf 10 2 (by decide)
      have htref : (d.puts (d.rangeFlds n q)).tref = d.tref := by rw [Dev.tref, Dev.tref, hnone, hval]
      exact htref
    have hd : d.ranged n q = (d.puts (d.rangeFlds n q)).setAct n { d.act n with loaded := q } := by
      refine if_neg ?_
      rw [ht']
      simpa using ht
    rw [hd]
    exact (Dev.puts_sets_mod (d.rangeFlds_nodup n q) d).1.2

theorem Act.Same.timers {x y : Act} (h : x.Same y) : y.to1 = x.to1 ∧ y.to2 = x.to2 := by
  have h' : { y with sw := x.sw, answers := x.answers } = x := h
  have h1 := congrArg Act.to1 h'
  have h2 := congrArg Act.to2 h'
  exact ⟨h1, h2⟩

theorem nodup_keys {l l' : List (Fld × Nat)} (h : (l.map (·.1.key)).Nodup) (h' : (l'.map (·.1.key)).Nodup)
    (hk : ∀ x ∈ l, ∀ y ∈ l', x.1.key ≠ y.1.key) : ((l ++ l').map (·.1.key)).Nodup := by
  rw [List.map_append, List.nodup_append]
  refine ⟨h, h', fun k hk' j hj => ?_⟩
  obtain ⟨x, hx, rfl⟩ := List.mem_map.1 hk'
  obtain ⟨y, hy, rfl⟩ := List.mem_map.1 hj
  exact hk x hx y hy

/-- The emergency stop of a channel. -/
def estopFlds (n v : Nat) : List (Fld × Nat) := [(Reg.PWR_LINE_ESTOP.ESTOP, v), (Reg.LN_ACT_EVT.ESTOP n, 1)]

theorem estop_keys (n v s : Nat) : ((estopFlds n v).map (·.1.key)).Nodup ∧
    (∀ x ∈ estopFlds n v, ∀ y ∈ stateFlds n s, x.1.key ≠ y.1.key) ∧
    ∀ x ∈ estopFlds n v, x.1.key ≠ (Reg.LN_BOND_CNT.COUNT bTxStranded).key := by
  constructor
  · simp only [estopFlds, List.map_cons, List.map_nil, List.nodup_cons, List.mem_cons, List.not_mem_nil, or_false, not_false_eq_true,
      List.nodup_nil, and_true, Fld.key, Reg.PWR_LINE_ESTOP.ESTOP, Reg.LN_ACT_EVT.ESTOP]
    omega
  · simp only [estopFlds, stateFlds, List.forall_mem_cons, List.not_mem_nil, false_imp_iff, implies_true, and_true, Fld.key,
      Reg.PWR_LINE_ESTOP.ESTOP, Reg.LN_ACT_EVT.ESTOP, Reg.LN_ACT_STAT.STATE, Reg.LN_ACT_EVT.STATE_CHG, Reg.LN_BOND_CNT.COUNT, bTxStranded]
    omega

theorem Dev.put_mod (d : Dev) (f : Fld) (v : Nat) : d.put f (v % 2 ^ f.w) = d.put f v := by rw [Dev.put, Nat.mod_mod, Dev.put]

/-- Disable_Serial_Number disables. -/
theorem Dev.disableSerial_done {n : Nat} {p : Ploam} {all : Bool} (hme : all = true ∨ d.ownSerial n p = true)
    (hst : d.actState n = stO23 ∨ d.actState n = stO4 ∨ d.actState n = stO5 ∨ d.actState n = stO6) :
    let e := (d.disableSerial n p all true).1
    let l := estopFlds n (setBit (d.fld Reg.PWR_LINE_ESTOP.ESTOP) n true % 16) ++ stateFlds n stO7
    (d.disableSerial n p all true).2 = aDone ∧ (∀ f ∈ l, e.fld f.1 = f.2) ∧ (e.act n).to1 = false ∧ (e.act n).to2 = false ∧ e.cutNow n ∧
    d.SameRegs e (l.map Prod.fst ++ [Reg.LN_BOND_CNT.COUNT bTxStranded]) ∧ (d.actState n ≠ stO5 → d.Regs e l) := by
  let b := d.stopTimers n
  let v := setBit (d.fld Reg.PWR_LINE_ESTOP.ESTOP) n true % 16
  have hd : d.disableSerial n p all true = ((b.puts (estopFlds n v)).setState n stO7, aDone) := by
    have hput := b.put_mod Reg.PWR_LINE_ESTOP.ESTOP (setBit (d.fld Reg.PWR_LINE_ESTOP.ESTOP) n true)
    rw [Dev.disableSerial]
    refine (if_neg (by rw [Bool.not_eq_true', Bool.not_eq_false]; simpa using hme)).trans ((if_pos rfl).trans ((if_pos hst).trans (congrArg (fun z => (z, aDone)) ?_)))
    exact congrArg (fun z => (z.put (Reg.LN_ACT_EVT.ESTOP n) 1).setState n stO7) hput.symm
  obtain ⟨hnd, hk, hb⟩ := estop_keys n v stO7
  have hv : ∀ x ∈ estopFlds n v, x.2 < 2 ^ x.1.w := by
    simp only [estopFlds, List.forall_mem_cons]
    exact ⟨Nat.mod_lt _ (by decide), Nat.one_lt_two, fun _ h => absurd h List.not_mem_nil⟩
  have h7 : b.actState n ≠ stO7 := by
    have hs : b.actState n = d.actState n := rfl
    rcases hst with h | h | h | h <;> rw [hs, h] <;> decide
  have h7' : (b.puts (estopFlds n v)).actState n ≠ stO7 := by
    rw [Dev.actState, Dev.puts_fld_ne b fun x hx => hk x hx (Reg.LN_ACT_STAT.STATE n, stO7) (by simp [stateFlds])]
    exact h7
  obtain ⟨hf, ha, hsame⟩ := Dev.puts_setState_o5 (d := b) (n := n) (s := stO7) (by decide) hnd hv hk hb h7
  have hact : b.act n = { d.act n with to1 := false, to2 := false, late1 := false, late2 := false } := Dev.act_set ..
  obtain ⟨ht1, ht2⟩ := ha.timers
  rw [hd]
  refine ⟨rfl, hf, by rw [ht1, hact], by rw [ht2, hact], Dev.setState_o7 h7', hsame, fun h5 => ?_⟩
  have h5' : (b.puts (estopFlds n v)).actState n ≠ stO5 := by
    rw [Dev.actState, Dev.puts_fld_ne b fun x hx => hk x hx (Reg.LN_ACT_STAT.STATE n, stO7) (by simp [stateFlds])]
    exact h5
  have hregs : ((b.puts (estopFlds n v)).setState n stO7).regs = (b.puts (estopFlds n v ++ stateFlds n stO7)).regs := by
    rw [Dev.setState, Dev.puts_append]
    dsimp only
    rw [if_neg h7', Dev.iff_of _ (b := stO7 == stO7) rfl, Dev.iff_not _ (by simpa using h5')]
    exact (Dev.txCut_act _ n).2.2
  have hnd' : ((estopFlds n v ++ stateFlds n stO7).map (·.1.key)).Nodup := nodup_keys hnd (stateFlds_nodup n stO7) hk
  have hv' : ∀ x ∈ estopFlds n v ++ stateFlds n stO7, x.2 < 2 ^ x.1.w := fun x hx =>
    (List.mem_append.1 hx).elim (hv x) (stateFlds_lt (by decide) x)
  exact (Dev.puts_sets hnd' hv' b).1.of_regs rfl hregs

/-- Disable_Serial_Number enables. -/
theorem Dev.disableSerial_enables {n : Nat} {p : Ploam} {all : Bool} (hme : all = true ∨ d.ownSerial n p = true) (hst : d.actState n = stO7) :
    (d.disableSerial n p all false).2 = aDone ∧ (d.setAct n { d.act n with hdrs := 0 }).Sets (d.disableSerial n p all false).1
      ([(Reg.PWR_LINE_ESTOP.ESTOP, setBit (d.fld Reg.PWR_LINE_ESTOP.ESTOP) n false % 16)] ++ stateFlds n stO11) := by
  let b := d.setAct n { d.act n with hdrs := 0 }
  let v := setBit (d.fld Reg.PWR_LINE_ESTOP.ESTOP) n false
  let l := [(Reg.PWR_LINE_ESTOP.ESTOP, v)]
  have hk : ∀ x ∈ l, ∀ y ∈ stateFlds n stO11, x.1.key ≠ y.1.key := by
    simp only [l, stateFlds, List.forall_mem_cons, List.not_mem_nil, false_imp_iff, implies_true, and_true, Fld.key,
      Reg.PWR_LINE_ESTOP.ESTOP, Reg.LN_ACT_STAT.STATE, Reg.LN_ACT_EVT.STATE_CHG]
    omega
  have hq : (d.puts l).setState n stO11 = d.puts (l ++ stateFlds n stO11) :=
    Dev.puts_setState (fun x hx => hk x hx (Reg.LN_ACT_STAT.STATE n, stO11) (by simp [stateFlds])) (by rw [hst]; decide) (by rw [hst]; decide)
      (by decide)
  have hd : d.disableSerial n p all false = (b.puts (l ++ stateFlds n stO11), aDone) := by
    rw [Dev.disableSerial]
    refine (if_neg (by rw [Bool.not_eq_true', Bool.not_eq_false]; simpa using hme)).trans ((if_neg (by decide)).trans ((if_pos hst).trans ?_))
    have hset : (d.puts (l ++ stateFlds n stO11)).setAct n { (d.puts (l ++ stateFlds n stO11)).act n with hdrs := 0 } =
        b.puts (l ++ stateFlds n stO11) := by rw [Dev.puts_act, Dev.puts_setAct]
    exact congrArg (fun z => (z, aDone)) ((congrArg (fun z : Dev => z.setAct n { z.act n with hdrs := 0 }) hq).trans hset)
  rw [hd]
  refine ⟨rfl, ?_⟩
  exact Dev.puts_sets_mod (nodup_keys (l := l) (List.nodup_singleton _) (stateFlds_nodup n stO11) hk) b

variable {d e : Dev}

/-! ### Burst_Profile (R97) -/

/-- The profile is in range (R97). -/
def Profile.fits (x : Profile) : Bool :=
  decide (x.preBytes ≤ 2048) && decide (1 ≤ x.pattern.length) && decide (x.pattern.length ≤ 32) &&
    decide (1 ≤ x.delim.length) && decide (x.delim.length ≤ 8)

/-- What a Burst_Profile writes; `pv` is PROF_VALID as it was. -/
def profFlds (n pv : Nat) (x : Profile) : List (Fld × Nat) :=
  let p := x.index.val
  [(Reg.LN_PROF0.VALID n p, bit x.fits), (Reg.LN_PROF0.VERSION n p, x.version), (Reg.LN_PROF0.FEC n p, bit x.fec),
    (Reg.LN_PROF0.DEL_BYTES n p, x.delim.length), (Reg.LN_PROF0.PAT_BYTES n p, x.pattern.length), (Reg.LN_PROF0.PRE_BYTES n p, x.preBytes)] ++
    (List.range 10).map (fun w => (Reg.LN_PROFW.PATTERN n p w, if w < 2 then beWord x.delim w else beWord x.pattern (w - 2))) ++
    [(Reg.LN_ACT_STAT.PROF_VALID n, setBit pv p x.fits), (Reg.LN_ACT_EVT.PROF_CHG n, 1)]

theorem profFlds_nodup (n pv : Nat) (x : Profile) : ((profFlds n pv x).map (·.1.key)).Nodup := by
  refine nodup_keys (nodup_keys ?_ ?_ ?_) ?_ ?_
  · simp only [List.map_cons, List.map_nil, List.nodup_cons, List.mem_cons, List.not_mem_nil, or_false, not_false_eq_true, List.nodup_nil,
      and_true, not_or, Fld.key, Reg.LN_PROF0.VALID, Reg.LN_PROF0.VERSION, Reg.LN_PROF0.FEC, Reg.LN_PROF0.DEL_BYTES, Reg.LN_PROF0.PAT_BYTES,
      Reg.LN_PROF0.PRE_BYTES]
    omega
  · rw [List.map_map]
    refine List.nodup_range.map fun i j h => ?_
    simp only [Function.comp_apply, Fld.key, Reg.LN_PROFW.PATTERN] at h
    omega
  · simp only [List.forall_mem_cons, List.forall_mem_map, List.not_mem_nil, false_imp_iff, implies_true, and_true, Fld.key,
      Reg.LN_PROF0.VALID, Reg.LN_PROF0.VERSION, Reg.LN_PROF0.FEC, Reg.LN_PROF0.DEL_BYTES, Reg.LN_PROF0.PAT_BYTES, Reg.LN_PROF0.PRE_BYTES,
      Reg.LN_PROFW.PATTERN]
    refine ⟨?_, ?_, ?_, ?_, ?_, ?_⟩ <;> intro w _ <;> omega
  · simp only [List.map_cons, List.map_nil, List.nodup_cons, List.mem_cons, List.not_mem_nil, or_false, not_false_eq_true, List.nodup_nil,
      and_true, Fld.key, Reg.LN_ACT_STAT.PROF_VALID, Reg.LN_ACT_EVT.PROF_CHG]
    omega
  · simp only [List.forall_mem_append, List.forall_mem_cons, List.forall_mem_map, List.not_mem_nil, false_imp_iff, implies_true, and_true, Fld.key,
      Reg.LN_PROF0.VALID, Reg.LN_PROF0.VERSION, Reg.LN_PROF0.FEC, Reg.LN_PROF0.DEL_BYTES, Reg.LN_PROF0.PAT_BYTES, Reg.LN_PROF0.PRE_BYTES,
      Reg.LN_PROFW.PATTERN, Reg.LN_ACT_STAT.PROF_VALID, Reg.LN_ACT_EVT.PROF_CHG]
    have := x.index.isLt
    refine ⟨by omega, fun w hw => ?_⟩
    have := List.mem_range.1 hw
    omega

theorem profFlds_apart (n pv : Nat) (x : Profile) : ∀ y ∈ profFlds n pv x,
    ∀ k ∈ [(Reg.LN_ACT_CNT.COUNT n 19).key, (Reg.LN_ACT_STAT.STATE n).key, (Reg.LN_ACT_EVT.STATE_CHG n).key], y.1.key ≠ k := by
  have := x.index.isLt
  simp only [profFlds, List.forall_mem_append, List.forall_mem_cons, List.forall_mem_map, List.not_mem_nil, false_imp_iff, implies_true,
    and_true, Fld.key, Reg.LN_PROF0.VALID, Reg.LN_PROF0.VERSION, Reg.LN_PROF0.FEC, Reg.LN_PROF0.DEL_BYTES, Reg.LN_PROF0.PAT_BYTES,
    Reg.LN_PROF0.PRE_BYTES, Reg.LN_PROFW.PATTERN, Reg.LN_ACT_STAT.PROF_VALID, Reg.LN_ACT_EVT.PROF_CHG, Reg.LN_ACT_CNT.COUNT,
    Reg.LN_ACT_STAT.STATE, Reg.LN_ACT_EVT.STATE_CHG]
  refine ⟨⟨by omega, fun w hw => ?_⟩, by omega⟩
  have := List.mem_range.1 hw
  omega

theorem Dev.each_put {α : Type} (g : α → Fld × Nat) (l : List α) (d : Dev) : d.each l (fun d i => d.put (g i).1 (g i).2) = d.puts (l.map g) := by
  induction l generalizing d with
  | nil => rfl
  | cons i l ih => exact ih _

theorem Dev.burstProfile_eq (d : Dev) (n : Nat) (x : Profile) : d.burstProfile n x =
    (((d.puts (profFlds n (d.fld (Reg.LN_ACT_STAT.PROF_VALID n)) x)).iff (!x.fits) (·.actCnt n 19 1)).learn n, aDone) := by
  rw [profFlds, Dev.puts_append, Dev.puts_append, ← Dev.each_put]
  rfl

/-- What a machine has learnt changes its state alone. -/
theorem Dev.learn_fld (d : Dev) {n : Nat} {f : Fld} (hf : ∀ k ∈ [(Reg.LN_ACT_STAT.STATE n).key, (Reg.LN_ACT_EVT.STATE_CHG n).key], f.key ≠ k) :
    (d.learn n).fld f = d.fld f := by
  unfold Dev.learn
  split
  · next h =>
    rw [Dev.setState_quiet (by rw [h.1]; decide) (by rw [h.1]; decide) (by decide)]
    refine Dev.puts_fld_ne d ?_
    simp only [List.forall_mem_cons, List.not_mem_nil, false_imp_iff, implies_true, and_true] at hf ⊢
    exact ⟨hf.1.symm, hf.2.symm⟩
  · rfl

/-- What a Burst_Profile leaves in its registers. -/
theorem Dev.burstProfile_fld (d : Dev) (n : Nat) (x : Profile) :
    (∀ y ∈ profFlds n (d.fld (Reg.LN_ACT_STAT.PROF_VALID n)) x, (d.burstProfile n x).1.fld y.1 = y.2 % 2 ^ y.1.w) ∧
    (x.fits = false → (d.burstProfile n x).1.fld (Reg.LN_ACT_CNT.COUNT n 19) = min (2 ^ 32 - 1) (d.fld (Reg.LN_ACT_CNT.COUNT n 19) + 1)) := by
  let l := profFlds n (d.fld (Reg.LN_ACT_STAT.PROF_VALID n)) x
  have hap := profFlds_apart n (d.fld (Reg.LN_ACT_STAT.PROF_VALID n)) x
  have hd : (d.burstProfile n x).1 = ((d.puts l).iff (!x.fits) (·.actCnt n 19 1)).learn n := by rw [Dev.burstProfile_eq]
  rw [hd]
  constructor
  · intro y hy
    have hk := hap y hy
    rw [Dev.learn_fld _ fun k hk' => hk k (by simp at hk' ⊢; tauto)]
    have hcnt : ((d.puts l).iff (!x.fits) (·.actCnt n 19 1)).fld y.1 = (d.puts l).fld y.1 := by
      unfold Dev.iff
      split
      · exact Dev.fld_put_ne _ _ (hk _ (by simp))
      · rfl
    rw [hcnt]
    exact Dev.puts_fld (profFlds_nodup n _ x) d hy
  · intro hx
    rw [Dev.learn_fld _ fun k hk' => ?_, hx, Dev.iff_of _ (b := !false) rfl]
    · have hc : (d.puts l).fld (Reg.LN_ACT_CNT.COUNT n 19) = d.fld (Reg.LN_ACT_CNT.COUNT n 19) :=
        Dev.puts_fld_ne d fun y hy => hap y hy _ (by simp)
      refine (Dev.fld_put_same ..).trans ?_
      rw [hc]
      exact Nat.mod_eq_of_lt (show min (2 ^ 32 - 1) _ < 2 ^ 32 by omega)
    · simp only [List.mem_cons, List.not_mem_nil, or_false] at hk'
      rcases hk' with rfl | rfl <;> simp only [Fld.key, Reg.LN_ACT_CNT.COUNT, Reg.LN_ACT_STAT.STATE, Reg.LN_ACT_EVT.STATE_CHG] <;> omega

/-! ### Registration (R89) -/

theorem beBytes_four (v : Nat) : beBytes v 4 = (List.range 4).map fun k => BitVec.ofNat 8 (v / 2 ^ (24 - 8 * k)) := by
  simp only [beBytes, List.range, List.range.loop, List.map_cons, List.map_nil, List.nil_append, List.cons_append, Nat.div_div_eq_div_mul]
  norm_num

/-- Words of 4 bytes, one after the other. -/
theorem flatMap_four {α : Type} (f : Nat → Nat → α) (m : Nat) : (List.range m).flatMap (fun i => (List.range 4).map (f i)) =
    (List.range (4 * m)).map (fun k => f (k / 4) (k % 4)) := by
  induction m with
  | zero => rfl
  | succ m ih =>
    rw [List.range_succ (n := m), List.flatMap_append, ih, show 4 * (m + 1) = 4 * m + 4 from rfl, List.range_add, List.map_append, List.map_map,
      List.flatMap_singleton]
    congr 1
    refine List.map_congr_left fun k hk => ?_
    have hk' := List.mem_range.1 hk
    simp only [Function.comp_apply]
    congr 1 <;> omega

theorem Dev.registration_eq (d : Dev) (n : Nat) : d.registration n = .registration ((List.range 36).map (fun k =>
    BitVec.ofNat 8 (d.fld (Reg.LN_REG_ID.REG_ID n (k / 4)) / 2 ^ (24 - 8 * (k % 4))))) := by
  rw [Dev.registration]
  simp only [beBytes_four]
  rw [flatMap_four (fun i k => BitVec.ofNat 8 (d.fld (Reg.LN_REG_ID.REG_ID n i) / 2 ^ (24 - 8 * k))) 9]

variable {d e : Dev}

/-! ### Assign_Alloc-ID (R92, R103) -/

theorem Dev.assignAlloc_removes {n i a : Nat} (h : d.allocFind n (a % 2 ^ 14) = some i) :
    (d.assignAlloc n a false).2 = aDone ∧ d.Sets (d.assignAlloc n a false).1
      [(Reg.LN_ALLOC.VALID n i, 0), (Reg.LN_ALLOC.ALLOC_ID n i, 0), (Reg.LN_ACT_EVT.ALLOC_CHG n, 1)] ∧ d.assignAlloc n a true = (d, aDone) := by
  let l := [(Reg.LN_ALLOC.VALID n i, 0), (Reg.LN_ALLOC.ALLOC_ID n i, 0), (Reg.LN_ACT_EVT.ALLOC_CHG n, 1)]
  have hd : d.assignAlloc n a false = (d.puts l, aDone) := by
    simp only [Dev.assignAlloc, h]
    rfl
  have hnd : (l.map (·.1.key)).Nodup := by
    simp only [l, List.map_cons, List.map_nil, List.nodup_cons, List.mem_cons, List.not_mem_nil, or_false, not_false_eq_true, not_or,
      List.nodup_nil, and_true, Fld.key, Reg.LN_ALLOC.VALID, Reg.LN_ALLOC.ALLOC_ID, Reg.LN_ACT_EVT.ALLOC_CHG]
    omega
  rw [hd]
  refine ⟨rfl, Dev.puts_sets_mod hnd d, ?_⟩
  simp only [Dev.assignAlloc, h]

theorem Dev.assignAlloc_none {n a : Nat} (h : d.allocFind n (a % 2 ^ 14) = none) : d.assignAlloc n a false = (d, aDone) := by
  simp only [Dev.assignAlloc, h]

theorem Dev.assignAlloc_full {n a : Nat} (h : d.allocFind n (a % 2 ^ 14) = none) (hall : ∀ i < 128, d.on (Reg.LN_ALLOC.VALID n i) = true) :
    d.assignAlloc n a true = ((d.actCnt n 18 1).answer n (.ack 1), aAnswered) := by
  have hfind : (List.range 128).find? (fun i => !d.on (Reg.LN_ALLOC.VALID n i)) = none := by
    refine List.find?_eq_none.2 fun i hi => ?_
    rw [hall i (List.mem_range.1 hi)]
    decide
  simp only [Dev.assignAlloc, h, hfind]

/-- An entry was made or bound: the others with its T-CONT do not depend on what it holds but for the T-CONT. -/
theorem Dev.allocDups_of {n i : Nat} (hregs : ∀ f ∈ [Reg.LN_LINE_MODE.MODE, Reg.LN_ALLOC.TCONT n i], e.fld f = d.fld f)
    (hvalid : ∀ m j, j < 128 → ¬ (m = n ∧ j = i) → e.fld (Reg.LN_ALLOC.VALID m j) = d.fld (Reg.LN_ALLOC.VALID m j) ∧
      e.fld (Reg.LN_ALLOC.TCONT m j) = d.fld (Reg.LN_ALLOC.TCONT m j)) (hchip : e.chip = d.chip) : e.allocDups n i = d.allocDups n i := by
  have hmode : e.lineMode = d.lineMode := by rw [Dev.lineMode, Dev.lineMode, hregs _ (by simp)]
  have hside (m : Nat) : e.sideOf m = d.sideOf m := by rw [Dev.sideOf, Dev.sideOf, Dev.protBHere, Dev.protBHere, Dev.unit_of_chip hchip]
  have ht : e.allocTcont n i = d.allocTcont n i := hregs _ (by simp)
  rw [Dev.allocDups, Dev.allocDups]
  refine List.filter_congr fun m _ => ?_
  rw [hmode, hside, hside, Dev.allocEntries, Dev.allocEntries, List.any_filter, List.any_filter, ht]
  congr 1
  rw [Bool.eq_iff_iff, List.any_eq_true, List.any_eq_true]
  refine exists_congr fun j => and_congr_right fun hj => ?_
  by_cases h : m = n ∧ j = i
  · simp [h.1, h.2]
  · obtain ⟨hv, htc⟩ := hvalid m j (List.mem_range.1 hj) h
    rw [Dev.on, Dev.on, Dev.allocTcont, hv, htc, Dev.allocTcont, Dev.allocTcont]

/-- What the scan of an entry sets: a conflict, on every channel concerned. -/
theorem Dev.allocScan_eq (d : Dev) (n i : Nat) : d.allocScan n i =
    if d.on (Reg.LN_ALLOC.VALID n i) = true ∧ d.allocTcont n i < 512 ∧ d.allocDups n i ≠ [] then
      d.puts ((d.allocDups n i).map (fun m => (Reg.LN_ACT_EVT.ALLOC_CONFLICT m, 1)) ++ [(Reg.LN_ACT_EVT.ALLOC_CONFLICT n, 1)]) else d := by
  rw [Dev.puts_append, ← Dev.each_put]
  rfl

/-- A new entry, before it is compared with the others. -/
def allocFlds (n i a : Nat) : List (Fld × Nat) := [(Reg.LN_ALLOC.ALLOC_ID n i, a), (Reg.LN_ALLOC.VALID n i, 1), (Reg.LN_ACT_EVT.ALLOC_CHG n, 1)]

theorem allocFlds_nodup (n i a : Nat) : ((allocFlds n i a).map (·.1.key)).Nodup := by
  simp only [allocFlds, List.map_cons, List.map_nil, List.nodup_cons, List.mem_cons, List.not_mem_nil, or_false, not_false_eq_true, not_or,
    List.nodup_nil, and_true, Fld.key, Reg.LN_ALLOC.VALID, Reg.LN_ALLOC.ALLOC_ID, Reg.LN_ACT_EVT.ALLOC_CHG]
  omega

theorem allocFlds_apart (n i a m : Nat) : ∀ x ∈ allocFlds n i a, x.1.key ≠ (Reg.LN_ACT_EVT.ALLOC_CONFLICT m).key := by
  simp only [allocFlds, List.forall_mem_cons, List.not_mem_nil, false_imp_iff, implies_true, and_true, Fld.key, Reg.LN_ALLOC.VALID,
    Reg.LN_ALLOC.ALLOC_ID, Reg.LN_ACT_EVT.ALLOC_CHG, Reg.LN_ACT_EVT.ALLOC_CONFLICT]
  omega

/-- The first free entry. -/
theorem Dev.allocFree {n i : Nat} (hi : i < 128) (hfree : d.on (Reg.LN_ALLOC.VALID n i) = false)
    (hused : ∀ j < i, d.on (Reg.LN_ALLOC.VALID n j) = true) : (List.range 128).find? (fun i => !d.on (Reg.LN_ALLOC.VALID n i)) = some i := by
  rw [List.find?_range_eq_some]
  exact ⟨by rw [hfree]; rfl, List.mem_range.2 hi, fun j hj => by rw [hused j hj]; rfl⟩

theorem Dev.assignAlloc_adds {n i a : Nat} (hi : i < 128) (h : d.allocFind n (a % 2 ^ 14) = none)
    (hfree : d.on (Reg.LN_ALLOC.VALID n i) = false) (hused : ∀ j < i, d.on (Reg.LN_ALLOC.VALID n j) = true) :
    d.assignAlloc n a true = ((d.puts (allocFlds n i (a % 2 ^ 14))).allocScan n i, aDone) := by
  simp only [Dev.assignAlloc, h, Dev.allocFree hi hfree hused]
  rfl

/-- A new entry is compared with what was there before it. -/
theorem Dev.added_dups {n i a : Nat} (hi : i < 128) : (d.puts (allocFlds n i a)).allocDups n i = d.allocDups n i := by
  refine Dev.allocDups_of ?_ (fun m j hj hne => ⟨?_, ?_⟩) (congrArg (·.chip) (Dev.puts_rest (allocFlds n i a) d))
  · simp only [List.forall_mem_cons, List.not_mem_nil, false_imp_iff, implies_true, and_true]
    constructor <;> refine Dev.puts_fld_ne d ?_ <;> simp only [allocFlds, List.forall_mem_cons, List.not_mem_nil, false_imp_iff, implies_true,
      and_true, Fld.key, Reg.LN_ALLOC.VALID, Reg.LN_ALLOC.ALLOC_ID, Reg.LN_ACT_EVT.ALLOC_CHG, Reg.LN_LINE_MODE.MODE, Reg.LN_ALLOC.TCONT] <;> omega
  all_goals
    refine Dev.puts_fld_ne d ?_
    simp only [allocFlds, List.forall_mem_cons, List.not_mem_nil, false_imp_iff, implies_true,
      and_true, Fld.key, Reg.LN_ALLOC.VALID, Reg.LN_ALLOC.ALLOC_ID, Reg.LN_ACT_EVT.ALLOC_CHG, Reg.LN_ALLOC.TCONT]
    omega

theorem Dev.added_spec {n i : Nat} (hi : i < 128) {a : Nat} (ha : a < 2 ^ 14) (d : Dev) :
    let r := (d.puts (allocFlds n i a)).allocScan n i
    (∀ x ∈ allocFlds n i a, r.fld x.1 = x.2) ∧
    (d.allocTcont n i < 512 → d.allocDups n i ≠ [] → r.fld (Reg.LN_ACT_EVT.ALLOC_CONFLICT n) = 1) ∧
    (512 ≤ d.allocTcont n i ∨ d.allocDups n i = [] → d.Sets r (allocFlds n i a)) := by
  intro r
  have hv : ∀ x ∈ allocFlds n i a, x.2 < 2 ^ x.1.w := by
    simp only [allocFlds, List.forall_mem_cons]
    exact ⟨ha, Nat.one_lt_two, Nat.one_lt_two, fun _ h => absurd h List.not_mem_nil⟩
  have hf : ∀ x ∈ allocFlds n i a, (d.puts (allocFlds n i a)).fld x.1 = x.2 := fun x hx =>
    (Dev.puts_fld (allocFlds_nodup n i a) d hx).trans (Nat.mod_eq_of_lt (hv x hx))
  have hon : (d.puts (allocFlds n i a)).on (Reg.LN_ALLOC.VALID n i) = true := by
    rw [Dev.on, hf (Reg.LN_ALLOC.VALID n i, 1) (by simp [allocFlds])]
    rfl
  have ht : (d.puts (allocFlds n i a)).allocTcont n i = d.allocTcont n i := by
    refine Dev.puts_fld_ne d ?_
    simp only [allocFlds, List.forall_mem_cons, List.not_mem_nil, false_imp_iff, implies_true,
      and_true, Fld.key, Reg.LN_ALLOC.VALID, Reg.LN_ALLOC.ALLOC_ID, Reg.LN_ACT_EVT.ALLOC_CHG, Reg.LN_ALLOC.TCONT]
    omega
  have hr : r = _ := Dev.allocScan_eq (d.puts (allocFlds n i a)) n i
  rw [Dev.added_dups hi, ht] at hr
  refine ⟨fun x hx => ?_, fun h1 h2 => ?_, fun h => ?_⟩
  · rw [hr]
    split
    · rw [Dev.puts_fld_ne _ fun y hy => ?_, hf x hx]
      obtain ⟨m, hm⟩ : ∃ m, y.1 = Reg.LN_ACT_EVT.ALLOC_CONFLICT m := by
        simp only [List.mem_append, List.mem_map, List.mem_singleton] at hy
        rcases hy with ⟨m, -, rfl⟩ | rfl
        · exact ⟨m, rfl⟩
        · exact ⟨n, rfl⟩
      rw [hm]
      exact (allocFlds_apart n i a m x hx).symm
    · exact hf x hx
  · rw [hr, if_pos ⟨hon, h1, h2⟩, Dev.puts_append]
    exact Dev.fld_put_same ..
  · rw [hr, if_neg fun hc => h.elim (fun h => absurd hc.2.1 (by omega)) hc.2.2]
    exact Dev.puts_sets (allocFlds_nodup n i a) hv d

variable {d e : Dev}

/-! ### Key_Control and the power level (R96, R144, R148) -/

/-- What Key_Control writes of a switch. -/
def Dev.keySwitch (d : Dev) (n i c : Nat) : Dev :=
  (d.put (Reg.CPH_LINE_US_CTRL.NEXT_IDX n) i).putWide (Reg.CPH_LINE_SW_LO.SFC n) (Reg.CPH_LINE_SW_HI.SFC n) c

theorem Dev.keySwitch_wide (d : Dev) (n i c : Nat) :
    (d.keySwitch n i c).wide (Reg.CPH_LINE_SW_LO.SFC n) (Reg.CPH_LINE_SW_HI.SFC n) = c % 2 ^ 51 := by
  have hne : (Reg.CPH_LINE_SW_LO.SFC n).key ≠ (Reg.CPH_LINE_SW_HI.SFC n).key := by
    simp only [Fld.key, Reg.CPH_LINE_SW_LO.SFC, Reg.CPH_LINE_SW_HI.SFC]
    omega
  have hlo : (d.keySwitch n i c).fld (Reg.CPH_LINE_SW_LO.SFC n) = c % 2 ^ 32 := (Dev.fld_put_ne _ _ hne).trans (Dev.fld_put_same ..)
  have hhi : (d.keySwitch n i c).fld (Reg.CPH_LINE_SW_HI.SFC n) = c / 2 ^ 32 % 2 ^ 19 := Dev.fld_put_same ..
  rw [Dev.wide, hlo, hhi]
  omega

theorem Dev.keySwitch_up (d : Dev) {n : Nat} (i c : Nat) : (d.keySwitch n i c).cphUp = d.cphUp := by
  have hf : (d.keySwitch n i c).fld Reg.CHIPCAP_BLOCK_RST.CPH = d.fld Reg.CHIPCAP_BLOCK_RST.CPH := by
    refine (Dev.fld_put_ne _ _ ?_).trans ((Dev.fld_put_ne _ _ ?_).trans (Dev.fld_put_ne _ _ ?_)) <;>
      simp only [Fld.key, Reg.CHIPCAP_BLOCK_RST.CPH, Reg.CPH_LINE_SW_LO.SFC, Reg.CPH_LINE_SW_HI.SFC, Reg.CPH_LINE_US_CTRL.NEXT_IDX] <;> omega
  rw [Dev.cphUp, Dev.cphUp, Dev.on, Dev.on, hf]
  rfl

/-- The index that Key_Control names, or else the one not in use. -/
def Dev.keyIdx (d : Dev) (n idx : Nat) : Nat := if idx = 1 ∨ idx = 2 then idx else if d.curIdx n = 1 then 2 else 1

theorem Dev.keyControl_switch (d : Dev) (n idx c : Nat) : d.keyControl n idx (some c) =
    if d.cphLineHere = false then (d, aDone) else ((d.keySwitch n (d.keyIdx n idx) c).lineArm n (d.sfc n), aDone) := by
  cases h : d.cphLineHere <;> simp only [Dev.keyControl, h] <;> rfl

theorem Dev.keyControl_spec (d : Dev) (n idx c : Nat) :
    let i := d.keyIdx n idx
    (d.keyControl n idx (some c)).2 = aDone ∧ (d.cphLineHere = false → (d.keyControl n idx (some c)).1 = d) ∧
    (d.cphLineHere = true → d.sfc n < c % 2 ^ 51 ∨ d.cphUp = false →
      (d.keyControl n idx (some c)).1 = (d.keySwitch n i c).put (Reg.CPH_LINE_US_CTRL.SW_ARM n) 1) ∧
    (d.cphLineHere = true → d.cphUp = true → c % 2 ^ 51 ≤ d.sfc n → (d.keyControl n idx (some c)).1 =
      (((d.keySwitch n i c).put (Reg.CPH_LINE_US_CTRL.SW_ARM n) 0).bump (Reg.CPH_LINE_CNT.COUNT n 5)).ev Reg.CPH_EVT.KEY_LATE) := by
  intro i
  rw [Dev.keyControl_switch]
  refine ⟨by split <;> rfl, fun h => by rw [if_pos h], fun h hs => ?_, fun h hu hs => ?_⟩
  all_goals
    rw [if_neg (by simp [h])]
    dsimp only
    rw [Dev.lineArm, Dev.keySwitch_wide, Dev.keySwitch_up]
  · exact if_pos hs
  · exact if_neg (by simp [hu]; omega)

theorem Dev.keyControl_request (d : Dev) (n idx : Nat) : d.keyControl n idx none =
    if d.cphHere = true ∧ d.cphUp = false then (d.answer n (.ack 1), aAnswered)
    else (d.keyQueue { op := kcGenerate, slot := lineSlot n (d.keyIdx n idx), tender := true }, aAnswered) := by
  cases h : d.cphHere <;> cases h' : d.cphUp <;> simp only [Dev.keyControl, h, h'] <;> rfl

/-- What Change_Power_Level writes. -/
def levelFlds (n lvl : Nat) : List (Fld × Nat) := [(Reg.LN_PWR_LVL.REQ n, lvl), (Reg.LN_ACT_EVT.PWR_LVL_REQ n, 1)]

theorem levelFlds_keys (n lvl : Nat) : ((levelFlds n lvl).map (·.1.key)).Nodup ∧
    ∀ x ∈ levelFlds n lvl, ∀ f ∈ [Reg.LN_PWR_LVL.APPLIED n, Reg.CPX_TND_STAT.RUNNING], x.1.key ≠ f.key := by
  constructor
  · simp only [levelFlds, List.map_cons, List.map_nil, List.nodup_cons, List.mem_cons, List.not_mem_nil, or_false, not_false_eq_true,
      List.nodup_nil, and_true, Fld.key, Reg.LN_PWR_LVL.REQ, Reg.LN_ACT_EVT.PWR_LVL_REQ]
    omega
  · simp only [levelFlds, List.forall_mem_cons, List.not_mem_nil, false_imp_iff, implies_true, and_true, Fld.key, Reg.LN_PWR_LVL.REQ,
      Reg.LN_PWR_LVL.APPLIED, Reg.LN_ACT_EVT.PWR_LVL_REQ, Reg.CPX_TND_STAT.RUNNING]
    omega

theorem Dev.powerLevel_spec (d : Dev) (n lvl : Nat) :
    let r := (d.powerLevel n lvl).1
    d.Regs r [(Reg.LN_PWR_LVL.REQ n, lvl % 8), (Reg.LN_ACT_EVT.PWR_LVL_REQ n, 1)] ∧
    (d.tenderRuns = true → d.fld (Reg.LN_PWR_LVL.APPLIED n) = lvl % 8 → (r.act n).pwrWait = false ∧ (r.act n).due = (d.act n).due ++ [.ack 0]) ∧
    (d.tenderRuns = false ∨ d.fld (Reg.LN_PWR_LVL.APPLIED n) ≠ lvl % 8 → (r.act n).pwrWait = true ∧
      (r.act n).latePwr = false ∧ (r.act n).due = (d.act n).due) := by
  intro r
  let b := (d.puts (levelFlds n lvl)).setAct n { d.act n with pwrWait := true, latePwr := false }
  have hr : r = b.powerCheck n := rfl
  obtain ⟨hnd, hk⟩ := levelFlds_keys n lvl
  have hreq : b.fld (Reg.LN_PWR_LVL.REQ n) = lvl % 8 := Dev.puts_fld hnd d (x := (Reg.LN_PWR_LVL.REQ n, lvl)) (by simp [levelFlds])
  have happ : b.fld (Reg.LN_PWR_LVL.APPLIED n) = d.fld (Reg.LN_PWR_LVL.APPLIED n) := Dev.puts_fld_ne d fun x hx => hk x hx _ (by simp)
  have hrun : b.fld Reg.CPX_TND_STAT.RUNNING = d.fld Reg.CPX_TND_STAT.RUNNING := Dev.puts_fld_ne d fun x hx => hk x hx _ (by simp)
  have hruns : b.tenderRuns = d.tenderRuns := by
    rw [Dev.tenderRuns, Dev.on, hrun]
    rfl
  have hact : b.act n = { d.act n with pwrWait := true, latePwr := false } := Dev.act_set ..
  have hcheck : b.powerCheck n = if d.tenderRuns = true ∧ d.fld (Reg.LN_PWR_LVL.APPLIED n) = lvl % 8 then
      (b.setAct n { b.act n with pwrWait := false }).answer n (.ack 0) else b := by
    rw [Dev.powerCheck, hact, hruns, happ, hreq]
    simp only [true_and]
  have hregs : (b.powerCheck n).regs = b.regs := by
    rw [hcheck]
    split <;> rfl
  rw [hr]
  refine ⟨(Dev.puts_sets_mod hnd d).1.of_regs rfl hregs, fun h1 h2 => ?_, fun h => ?_⟩
  · rw [hcheck, if_pos ⟨h1, h2⟩, Dev.answer, Dev.act_set, Dev.act_set, hact]
    exact ⟨rfl, rfl⟩
  · rw [hcheck, if_neg fun hc => h.elim (fun h => by simp [hc.1] at h) fun h => h hc.2, hact]
    exact ⟨rfl, rfl, rfl⟩

/-- Deactivate in O5. -/
theorem Dev.deactivate_o5 {n : Nat} {p : Ploam} (hst : d.actState n = stO5) (hp : p.onu.isNone = true ∨ d.ownOnu n p = true) :
    let e := (d.deactivate n p).1
    let l := d.idFlds n ++ stateFlds n stO23
    (d.deactivate n p).2 = aDone ∧ (∀ f ∈ l, e.fld f.1 = f.2) ∧ (e.act n).to1 = false ∧ (e.act n).to2 = false ∧
    (e.coach n).store.all (fun f => f.group.isNone) = true ∧ (e.coach n).bursts.all (fun b => b.content.isNone) = true ∧
    d.SameRegs e (l.map Prod.fst ++ [Reg.LN_BOND_CNT.COUNT bTxStranded]) := by
  let b := d.setAct n { d.act n with to1 := false, to2 := false, late1 := false, late2 := false }
  have hb : b.actState n = stO5 := hst
  have hact : b.act n = { d.act n with to1 := false, to2 := false, late1 := false, late2 := false } := Dev.act_set ..
  obtain ⟨hf, ha, hsame⟩ := Dev.puts_setState_o5 (d := b) (n := n) (s := stO23) (by decide) (idKeys_nodup d n) (d.idFlds_lt n)
    (id_state_keys n stO23) (idFlds_stranded d n) (by rw [hb]; decide)
  have h5 : (b.puts (d.idFlds n)).actState n = stO5 := (Dev.puts_fld_ne b (d.idFlds_state n)).trans hb
  obtain ⟨⟨hs1, hs2⟩, -⟩ := Dev.setState_leaves (s := stO23) h5 (by decide) (by decide)
  obtain ⟨ht1, ht2⟩ := ha.timers
  rw [Dev.deactivate_done (.inr hst) hp]
  exact ⟨rfl, hf, by rw [ht1, hact], by rw [ht2, hact], hs1, hs2, hsame⟩

/-- Settles O29: each message by the state of the machine. -/
theorem ploamMessageEffects : Obligations.PloamMessageEffects := by
  unfold Obligations.PloamMessageEffects
  refine ⟨fun d n p onu eqd all => ?_, fun d n p x alloc level code idx ident content => ?_⟩
  · intro st me estop clear goTo still
    refine ⟨fun h1 h2 => Dev.assignOnu_done onu h1 h2, fun h => ?_, fun h1 h2 => ?_, fun h => ?_, fun h1 h2 => Dev.deactivate_o4 h1 h2,
      fun h1 h2 => ?_, fun h => ?_, fun h b => ?_, fun h1 h2 => Dev.disableSerial_done h1 h2, fun h1 h2 => ?_,
      fun h1 h2 => Dev.disableSerial_enables h1 h2, fun h1 h2 => ?_⟩
    · exact if_neg fun hc => h.elim (fun h => h hc.1) fun h => by simp [hc.2] at h
    · obtain ⟨r1, r2, r3, r4, r5, r6⟩ := Dev.rangingTime_spec eqd h1 h2
      have hfld (x : Fld × Nat) (hx : x ∈ d.rangeFlds n (Config.eqdUi eqd % 2 ^ 28)) := r2 x hx
      refine ⟨r1, (hfld (Reg.LN_EQD.EQD n, Config.eqdUi eqd % 2 ^ 28) (by simp [Dev.rangeFlds])).trans (Nat.mod_mod _ _), r3,
        hfld (Reg.LN_EQD.SEQ n, d.fld (Reg.LN_EQD.SEQ n) + 1) (by simp [Dev.rangeFlds]),
        hfld (Reg.LN_ACT_STAT.EQD_VALID n, 1) (by simp [Dev.rangeFlds]), hfld (Reg.LN_ACT_EVT.EQD_LOAD n, 1) (by simp [Dev.rangeFlds]), r4, r5, r6⟩
    · exact if_neg fun hc => h.elim (fun h => h hc.1) fun h => by simp [hc.2] at h
    · exact Dev.deactivate_o5 h1 h2
    · refine if_neg fun hc => h.elim (fun h => h hc.1) fun h => ?_
      simp [h.1, h.2] at hc
    · exact if_pos (by simpa [me] using h)
    · exact (if_neg (by simpa [me, imp_iff_not_or] using h1)).trans ((if_pos rfl).trans (if_neg h2))
    · exact (if_neg (by simpa [me, imp_iff_not_or] using h1)).trans ((if_neg (by decide)).trans (if_neg h2))
  · intro a e ok pv i r cp sw
    have hok : x.fits = true ↔ ok := by simp [Profile.fits, ok, and_assoc]
    obtain ⟨hprof, hcnt⟩ := d.burstProfile_fld n x
    have hflds (y : Fld × Nat) (hy : y ∈ profFlds n pv x) : e.fld y.1 = y.2 % 2 ^ y.1.w := hprof y hy
    have hvalid : e.fld (Reg.LN_PROF0.VALID n x.index) = bit x.fits % 2 ^ 1 := hflds (Reg.LN_PROF0.VALID n x.index, bit x.fits) (by simp [profFlds])
    have hpv : e.fld (Reg.LN_ACT_STAT.PROF_VALID n) = setBit pv x.index x.fits % 16 :=
      hflds (Reg.LN_ACT_STAT.PROF_VALID n, setBit pv x.index x.fits) (by simp [profFlds])
    have hver := hflds (Reg.LN_PROF0.VERSION n x.index, x.version) (by simp [profFlds])
    have hfec := hflds (Reg.LN_PROF0.FEC n x.index, bit x.fec) (by simp [profFlds])
    have hdel := hflds (Reg.LN_PROF0.DEL_BYTES n x.index, x.delim.length) (by simp [profFlds])
    have hpat := hflds (Reg.LN_PROF0.PAT_BYTES n x.index, x.pattern.length) (by simp [profFlds])
    have hpre := hflds (Reg.LN_PROF0.PRE_BYTES n x.index, x.preBytes) (by simp [profFlds])
    have hchg := hflds (Reg.LN_ACT_EVT.PROF_CHG n, 1) (by simp [profFlds])
    refine ⟨by rw [Dev.burstProfile_eq], fun h => ?_, fun h => ?_, hver, ?_, hpre, hchg, ?_⟩
    · rw [hok.2 h] at hvalid hpv
      obtain ⟨-, -, h32, -, h8⟩ := h
      exact ⟨hvalid, hpv, hdel.trans (Nat.mod_eq_of_lt (show _ < 2 ^ 4 by omega)), hpat.trans (Nat.mod_eq_of_lt (show _ < 2 ^ 6 by omega))⟩
    · have hf : x.fits = false := Bool.eq_false_iff.2 (mt hok.1 h)
      rw [hf] at hvalid hpv
      exact ⟨hvalid, hpv, hcnt hf⟩
    · exact hfec.trans (Nat.mod_eq_of_lt (bit_lt _))
    refine ⟨fun h => ?_, fun h => if_neg h, fun i h => Dev.assignAlloc_removes h, fun h => Dev.assignAlloc_none h,
      fun h1 h2 => ?_, fun i hi h1 h2 h3 => ?_, fun h => ?_, fun h1 h2 => ?_, d.registration_eq n, d.keyControl_spec n idx, rfl, ?_⟩
    · rw [Dev.requestRegistration, if_pos h]
      exact ⟨rfl, rfl⟩
    · rw [Dev.assignAlloc_full h1 h2]
      exact ⟨rfl, rfl⟩
    · rw [Dev.assignAlloc_adds hi h1 h2 h3]
      obtain ⟨a1, a2, a3⟩ := Dev.added_spec (n := n) hi (Nat.mod_lt alloc (by decide)) d
      exact ⟨rfl, a1 (Reg.LN_ALLOC.ALLOC_ID n i, a) (by simp [allocFlds, a]), a1 (Reg.LN_ALLOC.VALID n i, 1) (by simp [allocFlds]),
        a1 (Reg.LN_ACT_EVT.ALLOC_CHG n, 1) (by simp [allocFlds]), a2, a3⟩
    · exact (d.keyControl_request n idx).trans (if_neg fun hc => h.elim (fun h => by simp [hc.1] at h) fun h => by simp [hc.2] at h)
    · exact (d.keyControl_request n idx).trans (if_pos ⟨h1, h2⟩)
    · obtain ⟨p1, p2, p3⟩ := d.powerLevel_spec n level
      refine ⟨p1, p2, p3, rfl, ?_, rfl, rfl⟩
      have hcp : cp = d.iff p.onu.isNone (·.cprofRx n ident) := by
        simp only [cp, Dev.iff, Option.isNone_iff_eq_none]
      rw [hcp]
      rfl

variable {d e : Dev}

/-! ### The power level that software applied (R96) -/

theorem find_pwrLvl : ∀ n < 4, (Reg.find (Reg.LN_PWR_LVL.ADR n)).map (·.fields) = some [⟨0, 3, .ro, 0⟩, ⟨8, 3, .rw, 0⟩, ⟨16, 8, .rw, 10⟩] := by
  decide

/-- What software writes of the power level. -/
def pwrFlds (n v : Nat) : List (Fld × Nat) := [(Reg.LN_PWR_LVL.APPLIED n, bits v 8 3), (Reg.LN_PWR_LVL.TIMEOUT n, bits v 16 8)]

theorem pwrLvl_puts {n : Nat} (hn : n < 4) (d : Dev) (v : Nat) : d.plainWrite (Reg.LN_PWR_LVL.ADR n) v = d.puts (pwrFlds n v) := by
  obtain ⟨r, hr, hf⟩ := Option.map_eq_some_iff.1 (find_pwrLvl n hn)
  rw [Dev.plainWrite_puts hr (by rw [hf]; decide), hf]
  rfl

theorem pwrFlds_keys (n v : Nat) : ((pwrFlds n v).map (·.1.key)).Nodup ∧
    ∀ x ∈ pwrFlds n v, ∀ f ∈ [Reg.LN_PWR_LVL.REQ n, Reg.CPX_TND_STAT.RUNNING], x.1.key ≠ f.key := by
  constructor
  · simp only [pwrFlds, List.map_cons, List.map_nil, List.nodup_cons, List.mem_cons, List.not_mem_nil, or_false, not_false_eq_true,
      List.nodup_nil, and_true, Fld.key, Reg.LN_PWR_LVL.APPLIED, Reg.LN_PWR_LVL.TIMEOUT]
    omega
  · simp only [pwrFlds, List.forall_mem_cons, List.not_mem_nil, false_imp_iff, implies_true, and_true, Fld.key, Reg.LN_PWR_LVL.REQ,
      Reg.LN_PWR_LVL.APPLIED, Reg.LN_PWR_LVL.TIMEOUT, Reg.CPX_TND_STAT.RUNNING]
    omega

/-- Bits of a word fit their number. -/
theorem bits_lt (v lo w : Nat) : bits v lo w < 2 ^ w := Nat.mod_lt _ (Nat.two_pow_pos w)

theorem pwrFlds_lt (n v : Nat) : ∀ x ∈ pwrFlds n v, x.2 < 2 ^ x.1.w := by
  simp only [pwrFlds, List.forall_mem_cons]
  exact ⟨bits_lt v 8 3, bits_lt v 16 8, fun _ h => absurd h List.not_mem_nil⟩

theorem Dev.pwrWritten_spec (d : Dev) (n v : Nat) :
    let r := (d.puts (pwrFlds n v)).powerCheck n
    let x := d.act n
    let done := x.pwrWait = true ∧ d.tenderRuns = true ∧ bits v 8 3 = d.fld (Reg.LN_PWR_LVL.REQ n)
    (done → (d.setAct n { x with pwrWait := false, due := x.due ++ [.ack 0] }).Regs r (pwrFlds n v) ∧
      r.act n = { x with pwrWait := false, due := x.due ++ [.ack 0] }) ∧ (¬ done → d.Sets r (pwrFlds n v)) := by
  intro r x done
  let b := d.puts (pwrFlds n v)
  obtain ⟨hnd, hk⟩ := pwrFlds_keys n v
  have hset := Dev.puts_sets hnd (pwrFlds_lt n v) d
  have happ : b.fld (Reg.LN_PWR_LVL.APPLIED n) = bits v 8 3 := hset.1.1 (Reg.LN_PWR_LVL.APPLIED n, bits v 8 3) (by simp [pwrFlds])
  have hreq : b.fld (Reg.LN_PWR_LVL.REQ n) = d.fld (Reg.LN_PWR_LVL.REQ n) := Dev.puts_fld_ne d fun x hx => hk x hx _ (by simp)
  have hrun : b.fld Reg.CPX_TND_STAT.RUNNING = d.fld Reg.CPX_TND_STAT.RUNNING := Dev.puts_fld_ne d fun x hx => hk x hx _ (by simp)
  have hruns : b.tenderRuns = d.tenderRuns := by
    rw [Dev.tenderRuns, Dev.on, hrun]
    rfl
  have hact : b.act n = x := Dev.puts_act d _ n
  have hr : r = if done then (b.setAct n { x with pwrWait := false }).answer n (.ack 0) else b := by
    rw [show r = b.powerCheck n from rfl, Dev.powerCheck, hact, hruns, happ, hreq]
  rw [hr]
  refine ⟨fun h => ?_, fun h => by rw [if_neg h]; exact hset⟩
  rw [if_pos h, Dev.answer, Dev.act_set]
  exact ⟨hset.1.of_regs rfl rfl, Dev.act_set ..⟩

theorem Dev.powerTimeout_spec (d : Dev) (n : Nat) :
    let x := d.act n
    let same := d.fld (Reg.LN_PWR_LVL.APPLIED n) = d.fld (Reg.LN_PWR_LVL.REQ n)
    (x.pwrWait = true → ¬ same → d.tenderHalt = true → d.powerTimeout n = d.setAct n { x with latePwr := true }) ∧
    (x.pwrWait = true → ¬ same → d.tenderHalt = false → d.tenderRuns = true →
      d.powerTimeout n = d.setAct n { x with pwrWait := false, due := x.due ++ [.ack 1] }) ∧
    (x.pwrWait = false ∨ same ∨ d.tenderHalt = false ∧ d.tenderRuns = false → d.powerTimeout n = d) := by
  intro x same
  refine ⟨fun h1 h2 h3 => (if_pos ⟨h1, h2⟩).trans (if_pos h3), fun h1 h2 h3 h4 => ?_, fun h => ?_⟩
  · refine (if_pos ⟨h1, h2⟩).trans ((if_neg (by simp [h3])).trans ((if_pos h4).trans ?_))
    rw [Dev.answer, Dev.act_set, Dev.setAct_setAct]
  · rcases h with h | h | ⟨h1, h2⟩
    · exact if_neg fun hc => by simp [x] at h; simp [h] at hc
    · exact if_neg fun hc => hc.2 h
    · refine ite_eq_right_iff.2 fun _ => ?_
      exact (if_neg (by simp [h1])).trans (if_neg (by simp [h2]))

/-! ### Alloc-IDs bound to T-CONTs (R103) -/

theorem Dev.tcont_conflict (n i m : Nat) : (Reg.LN_ALLOC.TCONT n i).key ≠ (Reg.LN_ACT_EVT.ALLOC_CONFLICT m).key := by
  simp only [Fld.key, Reg.LN_ALLOC.TCONT, Reg.LN_ACT_EVT.ALLOC_CONFLICT]
  omega

/-- The events of a conflict. -/
def conflictFlds (l : List Nat) : List (Fld × Nat) := l.map fun m => (Reg.LN_ACT_EVT.ALLOC_CONFLICT m, 1)

theorem conflictFlds_apart (l : List Nat) {f : Fld} (hf : ∀ m, f.key ≠ (Reg.LN_ACT_EVT.ALLOC_CONFLICT m).key) :
    ∀ x ∈ conflictFlds l, x.1.key ≠ f.key := by
  intro x hx
  obtain ⟨m, -, rfl⟩ := List.mem_map.1 hx
  exact (hf m).symm

theorem Dev.conflict_set (l : List Nat) {m : Nat} (hm : m ∈ l) (d : Dev) : (d.puts (conflictFlds l)).fld (Reg.LN_ACT_EVT.ALLOC_CONFLICT m) = 1 := by
  induction l generalizing d with
  | nil => exact absurd hm List.not_mem_nil
  | cons k l ih =>
    by_cases h : m ∈ l
    · exact ih h _
    · obtain rfl : m = k := (List.mem_cons.1 hm).resolve_right h
      refine (Dev.puts_fld_ne (l := conflictFlds l) _ fun x hx => ?_).trans (Dev.fld_put_same ..)
      obtain ⟨j, hj, rfl⟩ := List.mem_map.1 hx
      have hne : j ≠ m := fun e => h (e ▸ hj)
      simp only [Fld.key, Reg.LN_ACT_EVT.ALLOC_CONFLICT]
      omega

theorem Dev.bound_valid (d : Dev) (n i t : Nat) :
    (d.put (Reg.LN_ALLOC.TCONT n i) t).on (Reg.LN_ALLOC.VALID n i) = d.on (Reg.LN_ALLOC.VALID n i) := by
  refine congrArg (· != 0) (Dev.fld_put_ne _ _ ?_)
  simp only [Fld.key, Reg.LN_ALLOC.TCONT, Reg.LN_ALLOC.VALID]
  omega

theorem Dev.allocBind_eq {n i t : Nat} (ht : t < 2 ^ 10) :
    let b := d.put (Reg.LN_ALLOC.TCONT n i) t
    d.allocBind n i t = if d.on (Reg.LN_ALLOC.VALID n i) = true ∧ t < 512 ∧ b.allocDups n i ≠ [] then
      b.puts (conflictFlds (b.allocDups n i ++ [n])) else b := by
  intro b
  have hv : b.on (Reg.LN_ALLOC.VALID n i) = d.on (Reg.LN_ALLOC.VALID n i) := d.bound_valid n i t
  have htc : b.allocTcont n i = t := (Dev.fld_put_same ..).trans (Nat.mod_eq_of_lt ht)
  rw [show d.allocBind n i t = b.allocScan n i from rfl, Dev.allocScan_eq, hv, htc, conflictFlds, List.map_append]
  rfl

/-- What a binding that clashes leaves. -/
theorem Dev.allocBind_clash {n i t : Nat} (ht : t < 2 ^ 10) (hc : (d.put (Reg.LN_ALLOC.TCONT n i) t).allocDups n i ≠ []) :
    let b := d.put (Reg.LN_ALLOC.TCONT n i) t
    let r := b.puts (conflictFlds (b.allocDups n i ++ [n]))
    r.fld (Reg.LN_ALLOC.TCONT n i) = t ∧ (∀ k, k = n ∨ k ∈ b.allocDups n i → r.fld (Reg.LN_ACT_EVT.ALLOC_CONFLICT k) = 1) ∧
    r.boundTcont n i = none ∧
    d.SameRegs r (Reg.LN_ALLOC.TCONT n i :: (n :: b.allocDups n i).map Reg.LN_ACT_EVT.ALLOC_CONFLICT) ∧ { r with regs := d.regs } = d := by
  intro b r
  have hkeep {f : Fld} (hf : ∀ m, f.key ≠ (Reg.LN_ACT_EVT.ALLOC_CONFLICT m).key) : r.fld f = b.fld f :=
    Dev.puts_fld_ne b (conflictFlds_apart _ hf)
  have hdups : r.allocDups n i = b.allocDups n i := by
    refine Dev.allocDups_of ?_ (fun m j _ _ => ⟨hkeep fun k => ?_, hkeep (Dev.tcont_conflict m j)⟩)
      (congrArg (·.chip) (Dev.puts_rest (conflictFlds (b.allocDups n i ++ [n])) b))
    · simp only [List.forall_mem_cons, List.not_mem_nil, false_imp_iff, implies_true, and_true]
      refine ⟨hkeep fun k => ?_, hkeep (Dev.tcont_conflict n i)⟩
      simp only [Fld.key, Reg.LN_LINE_MODE.MODE, Reg.LN_ACT_EVT.ALLOC_CONFLICT]
      omega
    · simp only [Fld.key, Reg.LN_ALLOC.VALID, Reg.LN_ACT_EVT.ALLOC_CONFLICT]
      omega
  refine ⟨?_, fun k hk => Dev.conflict_set _ ?_ b, ?_, fun k hk => ?_, ?_⟩
  · exact (hkeep (Dev.tcont_conflict n i)).trans ((Dev.fld_put_same ..).trans (Nat.mod_eq_of_lt ht))
  · rw [List.mem_append, List.mem_singleton]
    exact hk.symm
  · refine if_neg fun h => ?_
    rw [hdups] at h
    exact hc h.2.2.2
  · have hsame : ∀ (l : List Nat) (e : Dev), k ∉ (l.map Reg.LN_ACT_EVT.ALLOC_CONFLICT).map Fld.key →
        Tbl.get (e.puts (conflictFlds l)).regs k (Reg.rst k) = Tbl.get e.regs k (Reg.rst k) := by
      intro l
      induction l with
      | nil => exact fun e _ => rfl
      | cons m l ih =>
        intro e hk
        simp only [List.map_cons, List.mem_cons, not_or] at hk
        exact (ih _ hk.2).trans (by rw [Dev.reg_put, if_neg hk.1])
    simp only [List.map_cons, List.mem_cons, not_or] at hk
    refine (hsame _ b ?_).trans (by rw [Dev.reg_put, if_neg hk.1])
    simp only [List.map_append, List.map_cons, List.map_nil, List.mem_append, List.mem_singleton, not_or]
    exact ⟨hk.2.2, hk.2.1⟩
  · exact (congrArg (fun z : Dev => { z with regs := d.regs }) (Dev.puts_rest (conflictFlds (b.allocDups n i ++ [n])) b))

variable {d e : Dev}

/-- A ring of software's messages has one to offer (R334). -/
def Dev.txmsgReady (d : Dev) (r : Nat) : Bool :=
  d.hifUp && d.ringEn r && d.ringLive r && d.ringKind r == 4 && d.canDma (domOf r) && d.evtRoom (d.evtRing r) 1 &&
    d.lnUp (d.fld (Reg.HIF_RING_CFG.CHANNEL r))

/-- What a ring that is ready does, by what its descriptors hold. -/
theorem Dev.txmsgHandoff_spec (d : Dev) (r : Nat) (ds : List Desc) (b : List Byte) :
    let c := d.fld (Reg.HIF_RING_CFG.CHANNEL r)
    let l := d.postedOf r ds
    (d.txmsgReady r = false ∨ d.txmsgWalk r l = .more → d.txmsgHandoff r ds b = d) ∧
    (∀ st i, d.txmsgReady r = true → d.txmsgWalk r l = .bad st i →
      d.txmsgHandoff r ds b = (d.readDescs r (d.idx r) (i + 1)).haltRing r st (d.idx r + i)) ∧
    ∀ k, d.txmsgReady r = true → d.txmsgWalk r l = .whole k →
      let own := l.take k
      let msg := padTo (descBytes own) (b.take (descBytes own))
      let q := (d.act c).sw
      let room := d.omciOpen c = true ∧ (d.coach c).bytes + msg.length ≤ 2 ^ 20
      d.txmsgHandoff r ds b =
        if d.on (Reg.HIF_RING_CFG.MSG r) = true then
          if room then (d.setCoach c { d.coach c with omci := (d.coach c).omci ++ [(d.omciSeal c msg, 0)] }).txmsgDone r own 0 else d
        else if d.tenderRuns = false ∨ 8 ≤ q.length then d
        else if Config.ploamReserved (msg.take 48) = true then (d.actCnt c 4 1).txmsgDone r own ploamRefused
        else if d.actState c ≠ stO5 then (d.actCnt c 4 1).txmsgDone r own ploamState
        else (d.setAct c { d.act c with sw := q ++ [{ msg := msg.take 48, urgent := bitOf (byteAt msg 48) 0 }] }).txmsgDone r own 0 := by
  intro c l
  have hready (h : d.txmsgReady r = true) : ¬ (!d.txmsgReady r) = true := by simp [h]
  refine ⟨fun h => ?_, fun st i h hw => ?_, fun k h hw => ?_⟩
  · by_cases hr : d.txmsgReady r = true
    · have hw := h.resolve_left (by simp [hr])
      rw [Dev.txmsgHandoff]
      refine (if_neg (hready hr)).trans ?_
      rw [hw]
    · exact if_pos (show (!d.txmsgReady r) = true by simpa using hr)
  · rw [Dev.txmsgHandoff]
    refine (if_neg (hready h)).trans ?_
    rw [hw]
  · intro own msg q room
    rw [Dev.txmsgHandoff]
    refine (if_neg (hready h)).trans ?_
    rw [hw]
    simp only [Bool.and_eq_true, decide_eq_true_eq, Bool.or_eq_true, Bool.not_eq_true']
    rfl

/-- The oldest answer in preparation. -/
theorem Dev.answerReady_some {n : Nat} {u : PloamUp} {r : List PloamUp} (hr : d.tenderRuns = true) (hd : (d.act n).due = u :: r) :
    d.answerReady n = if 4 ≤ (d.act n).answers.length then (d.setAct n { d.act n with due := r }).actCnt n 20 1
      else d.setAct n { d.act n with due := r, answers := (d.act n).answers ++ [u] } := by
  rw [Dev.answerReady]
  refine (if_neg (by simp [hr])).trans ?_
  dsimp only
  rw [hd]

/-- Settles O30: each command by its cases. -/
theorem answersBindingsAndOmci : Obligations.AnswersBindingsAndOmci := by
  unfold Obligations.AnswersBindingsAndOmci
  intro s m n v hup x same
  obtain ⟨t1, t2, t3⟩ := s.dev.powerTimeout_spec n
  refine ⟨fun h => ?_, fun u r hr hd => ⟨fun hl => ?_, fun hl => ?_⟩, fun hn => ?_, fun h1 h2 h3 => ?_, fun h1 h2 h3 h4 => ?_, fun h => ?_,
    fun i hn => ?_, fun h => ?_, fun u r hl ho => ?_, fun r mem b k i st => ?_⟩
  · refine .of_main_eq (exec_ploamAnswerReady ..) hup ?_
    rcases h with h | h
    · exact if_pos (by simp [h])
    · refine ite_eq_left_iff.2 fun _ => ?_
      dsimp only
      rw [show (s.dev.act n).due = [] from h]
  · exact .of_main_eq (exec_ploamAnswerReady ..) hup ((Dev.answerReady_some hr hd).trans (if_neg (by simp only [x] at hl; omega)))
  · exact .of_main_eq (exec_ploamAnswerReady ..) hup ((Dev.answerReady_some hr hd).trans (if_pos hl))
  · have hp := (Dev.poke_LN_PWR_LVL s.dev m n v hn).trans (congrArg (Dev.powerCheck · n) (pwrLvl_puts n.isLt s.dev v.toNat))
    exact Effect.of_main_eq hup (s.dev.pwrWritten_spec n v.toNat) (exec_pwrLvlAppliedWrite ..) hp
  · exact .of_main_eq (exec_pwrLvlTimeout ..) hup (t1 h1 h2 h3)
  · refine Effect.of_main_eq hup ?_ (exec_pwrLvlTimeout ..) (t2 h1 h2 h3 h4)
    exact ⟨Dev.act_set .., rfl⟩
  · exact .of_main_eq (exec_pwrLvlTimeout ..) hup (t3 h)
  · intro t b clash
    have ht : t < 2 ^ 10 := bits_lt _ _ _
    have hp := (Dev.poke_LN_ALLOC s.dev m n i v hn).trans (Dev.allocBind_eq ht)
    refine ⟨fun hc => .of_main_eq (exec_allocTcontWrite ..) hup (hp.trans (if_neg hc)), fun hc => ?_⟩
    exact Effect.of_main_eq hup (Dev.allocBind_clash ht hc.2.2) (exec_allocTcontWrite ..) (hp.trans (if_pos hc))
  · refine .of_main_eq (exec_omciRx ..) hup ?_
    rcases h with h | h
    · exact if_neg (by simp [h])
    · refine ite_eq_right_iff.2 fun _ => ?_
      rw [Dev.omciRx]
      dsimp only
      rw [h]
  · intro d1
    have hd : (if s.dev.lnUp n then s.dev.omciRx n else s.dev) = if d1.omciMicOk n u.data = true then
        (if (d1.rxMsg n 1 (leBytes u.sfc 8 ++ u.data)).2 = true then (d1.rxMsg n 1 (leBytes u.sfc 8 ++ u.data)).1
          else (d1.rxMsg n 1 (leBytes u.sfc 8 ++ u.data)).1.actCnt n 17 1) else d1.actCnt n 16 1 := by
      rw [if_pos hl, Dev.omciRx]
      dsimp only
      rw [ho]
      dsimp only
      refine if_congr Iff.rfl ?_ rfl
      cases (d1.rxMsg n 1 (leBytes u.sfc 8 ++ u.data)).2 <;> rfl
    exact ⟨fun h => .of_main_eq (exec_omciRx ..) hup (hd.trans (if_neg (by simp [h]))),
      fun h => .of_main_eq (exec_omciRx ..) hup (hd.trans (if_pos h))⟩
  · intro c l ready own msg q j
    obtain ⟨q1, q2, q3⟩ := s.dev.txmsgHandoff_spec r (descsOf mem) b
    have hj : exec j s = s.main (·.txmsgHandoff r (descsOf mem) b) := rfl
    refine ⟨fun h => .of_main_eq hj hup (q1 (h.imp (fun h => by simpa [ready, Dev.txmsgReady] using h) id)),
      fun h hw => .of_main_eq hj hup (q2 st i h hw), fun h hw hm => ?_, fun h hw hm => ?_⟩
    · have q3 := (q3 k h hw).trans (if_neg (by simp [hm]))
      refine ⟨fun h1 => .of_main_eq hj hup (q3.trans (if_pos h1)), fun h1 h2 => ?_⟩
      have q4 := q3.trans (if_neg (by simp only [h1, q] at h2 ⊢; simp; omega))
      exact ⟨fun h3 => .of_main_eq hj hup (q4.trans (if_pos h3)),
        fun h3 h4 => .of_main_eq hj hup (q4.trans ((if_neg (ne_true_of_eq_false h3)).trans (if_pos h4))),
        fun h3 h4 => .of_main_eq hj hup (q4.trans ((if_neg (ne_true_of_eq_false h3)).trans (if_neg (not_not.2 h4))))⟩
    · have q3 := (q3 k h hw).trans (if_pos hm)
      intro room
      exact ⟨fun h1 => .of_main_eq hj hup (q3.trans (if_pos h1)), fun h1 => .of_main_eq hj hup (q3.trans (if_neg h1))⟩

end Sys2Proof.Machine
end

section
/-!
PROOFS. Key switches and key commands of the cipher engine (R144, R147 to R152).
-/
namespace Sys2Proof.Machine

variable {d e : Dev}

/-! ### Key switches (R144, R150) -/

theorem bitOf_or_arm (v : Word) : bitOf (v ||| 0x10#32).toNat 4 = true := by
  rw [bitOf_or]
  exact Bool.or_true _

/-- The bit that arms is none of the fields below it. -/
theorem bits_or_arm (v : Word) {lo w : Nat} (h : bits (0x10#32 : Word).toNat lo w = 0) : bits (v ||| 0x10#32).toNat lo w = bits v.toNat lo w := by
  rw [bits_or, h, Nat.or_zero]

/-- The cipher engine is in reset or not, whatever its own registers hold. -/
theorem Dev.cphUp_put (d : Dev) {f : Fld} (hf : Reg.CHIPCAP_BLOCK_RST.CPH.key ≠ f.key) (v : Nat) : (d.put f v).cphUp = d.cphUp := by
  rw [Dev.cphUp, Dev.cphUp, Dev.on, Dev.on, Dev.fld_put_ne _ _ hf]
  rfl

theorem lineSw_keys (n : Nat) :
    (∀ f ∈ [Reg.CPH_LINE_SW_LO.SFC n, Reg.CPH_LINE_SW_HI.SFC n, Reg.CHIPCAP_BLOCK_RST.CPH, Reg.CPH_LINE_US_CTRL.SW_ARM n],
      f.key ≠ (Reg.CPH_LINE_US_CTRL.NEXT_IDX n).key) ∧
    (∀ f ∈ [Reg.CPH_LINE_US_CTRL.SW_ARM n, Reg.CPH_LINE_US_CTRL.NEXT_IDX n, Reg.CPH_EVT.KEY_LATE], (Reg.CPH_LINE_CNT.COUNT n 5).key ≠ f.key) ∧
    ∀ f ∈ [Reg.CPH_LINE_US_CTRL.SW_ARM n, Reg.CPH_LINE_US_CTRL.NEXT_IDX n], Reg.CPH_EVT.KEY_LATE.key ≠ f.key := by
  simp only [List.forall_mem_cons, List.not_mem_nil, false_imp_iff, implies_true, and_true, Fld.key, Reg.CPH_LINE_SW_LO.SFC,
    Reg.CPH_LINE_SW_HI.SFC, Reg.CHIPCAP_BLOCK_RST.CPH, Reg.CPH_LINE_US_CTRL.SW_ARM, Reg.CPH_LINE_US_CTRL.NEXT_IDX, Reg.CPH_EVT.KEY_LATE,
    Reg.CPH_LINE_CNT.COUNT]
  omega

/-- A switch of the line that is armed: for a count ahead or by an engine held in reset, or late. -/
theorem Dev.lineArm_sets (d : Dev) (n : Nat) {i : Nat} (hi : i < 4) :
    let at_ := d.wide (Reg.CPH_LINE_SW_LO.SFC n) (Reg.CPH_LINE_SW_HI.SFC n)
    let r := (d.put (Reg.CPH_LINE_US_CTRL.NEXT_IDX n) i).lineArm n (d.sfc n)
    (d.sfc n < at_ ∨ d.cphUp = false → d.Sets r [(Reg.CPH_LINE_US_CTRL.NEXT_IDX n, i), (Reg.CPH_LINE_US_CTRL.SW_ARM n, 1)]) ∧
    (d.cphUp = true → at_ ≤ d.sfc n → d.Sets r ([(Reg.CPH_LINE_US_CTRL.NEXT_IDX n, i), (Reg.CPH_LINE_US_CTRL.SW_ARM n, 0)] ++
      [(Reg.CPH_LINE_CNT.COUNT n 5, min (2 ^ (Reg.CPH_LINE_CNT.COUNT n 5).w - 1) (d.fld (Reg.CPH_LINE_CNT.COUNT n 5) + 1)),
        (Reg.CPH_EVT.KEY_LATE, 1)])) := by
  intro at_ r
  obtain ⟨h1, h2, h3⟩ := lineSw_keys n
  let b := d.put (Reg.CPH_LINE_US_CTRL.NEXT_IDX n) i
  have hb : d.Sets b [(Reg.CPH_LINE_US_CTRL.NEXT_IDX n, i)] := .put_of_lt (.nil d) _ (show i < 2 ^ 2 from hi) List.not_mem_nil
  have hwide : b.wide (Reg.CPH_LINE_SW_LO.SFC n) (Reg.CPH_LINE_SW_HI.SFC n) = at_ := by
    rw [Dev.wide, Dev.fld_put_ne _ _ (h1 _ (by simp)), Dev.fld_put_ne _ _ (h1 _ (by simp)), ← Dev.wide]
  have hup : b.cphUp = d.cphUp := d.cphUp_put (h1 _ (by simp)) i
  have harm (v : Nat) (hv : v < 2) : d.Sets (b.put (Reg.CPH_LINE_US_CTRL.SW_ARM n) v)
      [(Reg.CPH_LINE_US_CTRL.SW_ARM n, v), (Reg.CPH_LINE_US_CTRL.NEXT_IDX n, i)] :=
    hb.put_of_lt _ (show v < 2 ^ 1 from hv) (by simpa using h1 _ (by simp))
  have hr : r = if d.sfc n < at_ ∨ d.cphUp = false then b.put (Reg.CPH_LINE_US_CTRL.SW_ARM n) 1
      else ((b.put (Reg.CPH_LINE_US_CTRL.SW_ARM n) 0).bump (Reg.CPH_LINE_CNT.COUNT n 5)).ev Reg.CPH_EVT.KEY_LATE := by
    rw [show r = b.lineArm n (d.sfc n) from rfl, Dev.lineArm, hwide, hup]
  refine ⟨fun h => ?_, fun h h' => ?_⟩
  · rw [hr, if_pos h]
    exact (harm 1 Nat.one_lt_two).of_mem_iff fun e => (List.Perm.swap ..).mem_iff
  · rw [hr, if_neg (by simp [h]; omega)]
    have hcnt := ((harm 0 Nat.two_pos).bump (Reg.CPH_LINE_CNT.COUNT n 5) (by
      simpa using ⟨h2 (Reg.CPH_LINE_US_CTRL.SW_ARM n) (by simp), h2 (Reg.CPH_LINE_US_CTRL.NEXT_IDX n) (by simp)⟩)).put_of_lt
      Reg.CPH_EVT.KEY_LATE (v := 1) Nat.one_lt_two (by
        simpa using ⟨(h2 Reg.CPH_EVT.KEY_LATE (by simp)).symm, h3 (Reg.CPH_LINE_US_CTRL.SW_ARM n) (by simp),
          h3 (Reg.CPH_LINE_US_CTRL.NEXT_IDX n) (by simp)⟩)
    exact hcnt.of_mem_iff fun e => (List.reverse_perm [_, _, _, _]).mem_iff

variable {d e : Dev}

/-- The time depends on no register but the rate in effect. -/
theorem Dev.time_put (d : Dev) {f : Fld} (hf : Reg.TIM_RATE_EFF.RATE.key ≠ f.key) (v : Nat) : (d.put f v).time = d.time := by
  have hr : (d.put f v).rateEff = d.rateEff := by rw [Dev.rateEff, Dev.fld_put_ne _ _ hf, ← Dev.rateEff]
  rw [Dev.time, Dev.timeAt, hr]
  rfl

/-- The fields that a write of a riser's switch sets. -/
def rsrFlds (p t r : Nat) : List (Fld × Nat) :=
  [(Reg.CPH_RSR_CTRL.TX_CIPHER p, t), (Reg.CPH_RSR_CTRL.RX_CIPHER p, r), (Reg.CPH_RSR_CTRL.SW_ARM p, 1)]

theorem rsrFlds_nodup (p t r : Nat) : ((rsrFlds p t r).map (·.1.key)).Nodup := by
  simp only [rsrFlds, List.map_cons, List.map_nil, List.nodup_cons, List.mem_cons, List.not_mem_nil, or_false, not_or,
    not_false_eq_true, List.nodup_nil, and_true, Fld.key, Reg.CPH_RSR_CTRL.TX_CIPHER, Reg.CPH_RSR_CTRL.RX_CIPHER, Reg.CPH_RSR_CTRL.SW_ARM]
  omega

theorem Dev.rsrWrite_arms (d : Dev) (p : Nat) {v : Nat} (h : bitOf v 4 = true) :
    { d with cph := { d.cph with rsrAt := Tbl.set d.cph.rsrAt p (d.nearTime (d.fld (Reg.CPH_RSR_SW_SEC.SEC p)) (d.fld (Reg.CPH_RSR_SW_NS.NS p))) } }.Sets
      (d.rsrWrite p v) (rsrFlds p (bits v 0 1) (bits v 1 1)) := by
  let d1 := (d.put (Reg.CPH_RSR_CTRL.TX_CIPHER p) v).put (Reg.CPH_RSR_CTRL.RX_CIPHER p) (bits v 1 1)
  have hkeys : ∀ f ∈ [Reg.TIM_RATE_EFF.RATE, Reg.CPH_RSR_SW_SEC.SEC p, Reg.CPH_RSR_SW_NS.NS p],
      f.key ≠ (Reg.CPH_RSR_CTRL.TX_CIPHER p).key ∧ f.key ≠ (Reg.CPH_RSR_CTRL.RX_CIPHER p).key := by
    simp only [List.forall_mem_cons, List.not_mem_nil, false_imp_iff, implies_true, and_true, Fld.key, Reg.TIM_RATE_EFF.RATE,
      Reg.CPH_RSR_SW_SEC.SEC, Reg.CPH_RSR_SW_NS.NS, Reg.CPH_RSR_CTRL.TX_CIPHER, Reg.CPH_RSR_CTRL.RX_CIPHER]
    omega
  have hf (f : Fld) (hm : f ∈ [Reg.TIM_RATE_EFF.RATE, Reg.CPH_RSR_SW_SEC.SEC p, Reg.CPH_RSR_SW_NS.NS p]) : d1.fld f = d.fld f :=
    (Dev.fld_put_ne _ _ (hkeys f hm).2).trans (Dev.fld_put_ne _ _ (hkeys f hm).1)
  have htime : d1.time = d.time := (Dev.time_put _ (hkeys _ (by simp)).2 _).trans (Dev.time_put _ (hkeys _ (by simp)).1 _)
  have hnear : d1.nearTime (d1.fld (Reg.CPH_RSR_SW_SEC.SEC p)) (d1.fld (Reg.CPH_RSR_SW_NS.NS p)) =
      d.nearTime (d.fld (Reg.CPH_RSR_SW_SEC.SEC p)) (d.fld (Reg.CPH_RSR_SW_NS.NS p)) := by
    rw [hf _ (by simp), hf _ (by simp), Dev.nearTime, htime, ← Dev.nearTime]
  generalize hb : d.nearTime (d.fld (Reg.CPH_RSR_SW_SEC.SEC p)) (d.fld (Reg.CPH_RSR_SW_NS.NS p)) = t at hnear ⊢
  have hd : d.rsrWrite p v = ({ d with cph := { d.cph with rsrAt := Tbl.set d.cph.rsrAt p t } } : Dev).puts (rsrFlds p v (bits v 1 1)) := by
    rw [Dev.rsrWrite]
    refine (if_pos h).trans ?_
    rw [Dev.rsrArm]
    dsimp only
    rw [show Dev.nearTime _ _ _ = _ from hnear]
    rfl
  rw [hd]
  have hbit (e : Dev) : e.puts (rsrFlds p v (bits v 1 1)) = e.puts (rsrFlds p (bits v 0 1) (bits v 1 1)) := by
    have hmod := e.put_mod (Reg.CPH_RSR_CTRL.TX_CIPHER p) v
    have h01 : bits v 0 1 = v % 2 ^ (Reg.CPH_RSR_CTRL.TX_CIPHER p).w := congrArg (· % 2) (Nat.div_one v)
    exact congrArg (fun z : Dev => z.puts [(Reg.CPH_RSR_CTRL.RX_CIPHER p, bits v 1 1), (Reg.CPH_RSR_CTRL.SW_ARM p, 1)])
      (by rw [h01]; exact hmod.symm)
  rw [hbit]
  refine Dev.puts_sets (rsrFlds_nodup p _ _) ?_ _
  simp only [rsrFlds, List.forall_mem_cons]
  exact ⟨bits_lt v 0 1, bits_lt v 1 1, Nat.one_lt_two, fun _ h => absurd h List.not_mem_nil⟩

/-! ### The switch of a riser port (R150) -/

theorem Dev.rsrSwitch_due {p : Nat} {at_ : Int} (h : d.rsrDue p at_ = true) : d.rsrSwitch p at_ =
    let ph := d.fld (Reg.CPH_RSR_CTRL.TX_PHASE p)
    if d.slotState (riserSlot p 0 (1 - ph)) = slotValid then
      ({ d with cph := { d.cph with keys := Tbl.del d.cph.keys (riserSlot p 0 ph) } } : Dev).puts
        [(Reg.CPH_RSR_CTRL.SW_ARM p, 0), (Reg.CPH_SLOT_STAT.STATE (riserSlot p 0 ph), slotEmpty),
          (Reg.CPH_SLOT_STAT.SOURCE (riserSlot p 0 ph), 0), (Reg.CPH_RSR_CTRL.TX_PHASE p, 1 - ph)]
    else ((d.put (Reg.CPH_RSR_CTRL.SW_ARM p) 0).bump (Reg.CPH_RSR_CNT.COUNT p 6)).ev Reg.CPH_EVT.KEY_LATE := if_pos h

/-- The new slot holds a key. -/
theorem Dev.rsrSwitch_takes {p ph : Nat} {at_ : Int} (h : d.rsrDue p at_ = true) (hph : d.fld (Reg.CPH_RSR_CTRL.TX_PHASE p) = ph) (hlt : ph < 2)
    (hnew : d.slotState (riserSlot p 0 (1 - ph)) = slotValid) :
    let r := d.rsrSwitch p at_
    { d with cph := r.cph }.Sets r [(Reg.CPH_RSR_CTRL.SW_ARM p, 0), (Reg.CPH_RSR_CTRL.TX_PHASE p, 1 - ph),
      (Reg.CPH_SLOT_STAT.STATE (riserSlot p 0 ph), slotEmpty), (Reg.CPH_SLOT_STAT.SOURCE (riserSlot p 0 ph), 0)] ∧
    r.key (riserSlot p 0 ph) = 0 := by
  intro r
  let b : Dev := { d with cph := { d.cph with keys := Tbl.del d.cph.keys (riserSlot p 0 ph) } }
  let l := [(Reg.CPH_RSR_CTRL.SW_ARM p, 0), (Reg.CPH_SLOT_STAT.STATE (riserSlot p 0 ph), slotEmpty),
    (Reg.CPH_SLOT_STAT.SOURCE (riserSlot p 0 ph), 0), (Reg.CPH_RSR_CTRL.TX_PHASE p, 1 - ph)]
  have hr : r = b.puts l := by
    rw [show r = d.rsrSwitch p at_ from rfl, Dev.rsrSwitch_due h, hph]
    exact if_pos hnew
  have hnd : (l.map (·.1.key)).Nodup := by
    simp only [l, List.map_cons, List.map_nil, List.nodup_cons, List.mem_cons, List.not_mem_nil, or_false, not_or, not_false_eq_true,
      List.nodup_nil, and_true, Fld.key, Reg.CPH_RSR_CTRL.SW_ARM, Reg.CPH_RSR_CTRL.TX_PHASE, Reg.CPH_SLOT_STAT.STATE,
      Reg.CPH_SLOT_STAT.SOURCE, riserSlot]
    omega
  have hv : ∀ x ∈ l, x.2 < 2 ^ x.1.w := by
    simp only [l, List.forall_mem_cons]
    exact ⟨Nat.two_pow_pos _, Nat.two_pow_pos _, Nat.two_pow_pos _, show 1 - ph < 2 ^ 1 by omega, fun _ h => absurd h List.not_mem_nil⟩
  have hcph : (b.puts l).cph = b.cph := rfl
  rw [hr]
  refine ⟨(Dev.puts_sets hnd hv b).of_mem_iff fun e => ?_, Tbl.get_del_same ..⟩
  simp only [l, List.mem_cons, List.not_mem_nil, or_false]
  tauto

/-- The new slot holds none. -/
theorem Dev.rsrSwitch_late {p : Nat} {at_ : Int} (h : d.rsrDue p at_ = true)
    (hnew : d.slotState (riserSlot p 0 (1 - d.fld (Reg.CPH_RSR_CTRL.TX_PHASE p))) ≠ slotValid) :
    d.Sets (d.rsrSwitch p at_) [(Reg.CPH_RSR_CTRL.SW_ARM p, 0),
      (Reg.CPH_RSR_CNT.COUNT p 6, min (2 ^ (Reg.CPH_RSR_CNT.COUNT p 6).w - 1) (d.fld (Reg.CPH_RSR_CNT.COUNT p 6) + 1)), (Reg.CPH_EVT.KEY_LATE, 1)] := by
  have hcnt : (Reg.CPH_RSR_CNT.COUNT p 6).key ≠ (Reg.CPH_RSR_CTRL.SW_ARM p).key := by
    simp only [Fld.key, Reg.CPH_RSR_CNT.COUNT, Reg.CPH_RSR_CTRL.SW_ARM]
    omega
  have hlate : Reg.CPH_EVT.KEY_LATE.key ≠ (Reg.CPH_RSR_CNT.COUNT p 6).key ∧ Reg.CPH_EVT.KEY_LATE.key ≠ (Reg.CPH_RSR_CTRL.SW_ARM p).key := by
    simp only [Fld.key, Reg.CPH_RSR_CNT.COUNT, Reg.CPH_RSR_CTRL.SW_ARM, Reg.CPH_EVT.KEY_LATE]
    omega
  rw [Dev.rsrSwitch_due h]
  dsimp only
  rw [if_neg hnew]
  have hset := (((Dev.Sets.put_one d (Reg.CPH_RSR_CTRL.SW_ARM p) 0).bump (Reg.CPH_RSR_CNT.COUNT p 6) (by simpa using hcnt)).put_of_lt
    Reg.CPH_EVT.KEY_LATE (v := 1) Nat.one_lt_two (by simpa using hlate))
  exact hset.of_mem_iff fun e => (List.reverse_perm [_, _, _]).mem_iff

/-- Settles O36: the arming writes, and the switch by what the new slot holds. -/
theorem keySwitches : Obligations.KeySwitches := by
  unfold Obligations.KeySwitches
  intro s m dt n v hup x at_ next late due d0 now ph new
  have hexec : exec (.rsrKeySwitch dt n) s = s.main (fun d => (d.advance dt).rsrSwitch n ((d.advance dt).wagonTx n {}).time) := rfl
  have hline (hc : x.cphHere = true) (hl : x.cphLineHere = true) : x.poke m (Reg.CPH_LINE_US_CTRL.ADR n) (v ||| 0x10#32) =
      (x.put (Reg.CPH_LINE_US_CTRL.NEXT_IDX n) (bits v.toNat 2 2)).lineArm n (x.sfc n) := by
    rw [Dev.poke_CPH_LINE_US_CTRL x m n _ hl hc, Dev.lineSwWrite, bits_or_arm v (by decide)]
    exact if_pos (bitOf_or_arm v)
  obtain ⟨ha, hl⟩ := x.lineArm_sets n (bits_lt v.toNat 2 2)
  refine ⟨fun hc hln h => ?_, fun hc hln h => ?_, fun hc hr => ?_, fun h => ?_, fun h hph hnew => ?_, fun h hnew => ?_⟩
  · exact Effect.of_main_eq hup (ha h) (exec_lineKeySwArm ..) (hline hc hln)
  · exact Effect.of_main_eq hup (hl hc h) (exec_lineKeySwArm ..) (hline (Bool.and_eq_true_iff.1 hc).1 hln)
  · have hset := x.rsrWrite_arms n (bitOf_or_arm v)
    rw [bits_or_arm v (by decide), bits_or_arm v (by decide)] at hset
    exact Effect.of_main_eq hup hset (exec_rsrKeySwArm ..) (Dev.poke_CPH_RSR_CTRL x m n _ hr hc)
  · exact .of_main_eq hexec hup (if_neg (ne_true_of_eq_false h))
  · exact Effect.of_main hexec hup (Dev.rsrSwitch_takes h rfl hph hnew)
  · exact Effect.of_main hexec hup (Dev.rsrSwitch_late h hnew)

variable {d e : Dev}

/-! ### The lengths of wrapped forms (R141) -/

theorem wrapPass_length (kek a t : Nat) (l : List Nat) : (wrapPass kek a t l).2.2.length = l.length := by
  induction l generalizing a t with
  | nil => rfl
  | cons r l ih => exact congrArg (· + 1) (ih _ _)

theorem blocks64_length (v n : Nat) : (blocks64 v n).length = n := by
  induction n with
  | zero => rfl
  | succ n ih => exact congrArg (· + 1) ih

theorem keyWrap_length (kek key n : Nat) : (keyWrap kek key n).length = n + 1 := by
  have h : ∀ (l : List Nat) (x : Nat × Nat × List Nat),
      (l.foldl (fun (x : Nat × Nat × List Nat) _ => wrapPass kek x.1 x.2.1 x.2.2) x).2.2.length = x.2.2.length := by
    intro l
    induction l with
    | nil => exact fun _ => rfl
    | cons i l ih => exact fun x => (ih _).trans (wrapPass_length ..)
  exact congrArg (· + 1) ((h (List.range 6) (0xA6A6A6A6A6A6A6A6, 0, blocks64 key n)).trans (blocks64_length key n))

theorem blockWords_length (l : List Nat) : (blockWords l).length = 2 * l.length := by
  induction l with
  | nil => rfl
  | cons b l ih =>
    rw [blockWords, List.flatMap_cons, List.length_append, ← blockWords, ih]
    simp only [List.length_cons, List.length_nil]
    omega

/-! ### What the engine leaves alone -/

/-- A register that the key store writes: wrapped forms, records and slots; and the health of the random source it draws from. -/
def storeKey (k : Nat) : Prop :=
  (0x200060 ≤ k / 32 ∧ k / 32 < 0x200100) ∨ (0x200400 ≤ k / 32 ∧ k / 32 < 0x202000) ∨ k = Reg.CPH_EVT.LINE_KEYREC.key ∨
    k = Reg.TRU_RNG_STAT.HEALTH_OK.key

/-- Only the key store was touched. -/
structure Dev.StoreOnly (d e : Dev) : Prop where
  regs : ∀ k, ¬ storeKey k → Tbl.get e.regs k (Reg.rst k) = Tbl.get d.regs k (Reg.rst k)
  acts : e.acts = d.acts
  jobs : e.cph.jobs = d.cph.jobs
  chip : e.chip = d.chip

/-- Slot `s` was not touched. -/
structure Dev.SameSlot (d : Dev) (s : Nat) (e : Dev) : Prop where
  regs : ∀ k, 0x201000 + s * 16 ≤ k / 32 → k / 32 < 0x201010 + s * 16 → Tbl.get e.regs k (Reg.rst k) = Tbl.get d.regs k (Reg.rst k)
  key : e.key s = d.key s

namespace Dev.StoreOnly

theorem refl (d : Dev) : d.StoreOnly d := ⟨fun _ _ => rfl, rfl, rfl, rfl⟩

theorem trans {f : Dev} (h : d.StoreOnly e) (h' : e.StoreOnly f) : d.StoreOnly f :=
  ⟨fun k hk => (h'.regs k hk).trans (h.regs k hk), h'.acts.trans h.acts, h'.jobs.trans h.jobs, h'.chip.trans h.chip⟩

theorem put (d : Dev) {f : Fld} (hf : storeKey f.key) (v : Nat) : d.StoreOnly (d.put f v) :=
  ⟨fun k hk => by rw [Dev.reg_put, if_neg fun he => hk (by rw [he]; exact hf)], rfl, rfl, rfl⟩

theorem each {α : Type} {g : Dev → α → Dev} {l : List α} (h : ∀ x ∈ l, ∀ d : Dev, d.StoreOnly (g d x)) (d : Dev) : d.StoreOnly (d.each l g) := by
  induction l generalizing d with
  | nil => exact refl d
  | cons x l ih => exact (h x (by simp) d).trans (ih (fun y hy => h y (List.mem_cons_of_mem _ hy)) (g d x))

theorem fld_eq (h : d.StoreOnly e) {f : Fld} (hf : ¬ storeKey f.key) : e.fld f = d.fld f := h.regs _ hf

end Dev.StoreOnly

namespace Dev.SameSlot

variable {s : Nat}

theorem refl (d : Dev) (s : Nat) : d.SameSlot s d := ⟨fun _ _ _ => rfl, rfl⟩

theorem trans {f : Dev} (h : d.SameSlot s e) (h' : e.SameSlot s f) : d.SameSlot s f :=
  ⟨fun k h1 h2 => (h'.regs k h1 h2).trans (h.regs k h1 h2), h'.key.trans h.key⟩

theorem put (d : Dev) {f : Fld} (hf : f.key / 32 < 0x201000 + s * 16 ∨ 0x201010 + s * 16 ≤ f.key / 32) (v : Nat) : d.SameSlot s (d.put f v) :=
  ⟨fun k h1 h2 => by rw [Dev.reg_put, if_neg fun he => by rw [he] at h1 h2; omega], rfl⟩

theorem each {α : Type} {g : Dev → α → Dev} {l : List α} (h : ∀ x ∈ l, ∀ d : Dev, d.SameSlot s (g d x)) (d : Dev) : d.SameSlot s (d.each l g) := by
  induction l generalizing d with
  | nil => exact refl d s
  | cons x l ih => exact (h x (by simp) d).trans (ih (fun y hy => h y (List.mem_cons_of_mem _ hy)) (g d x))

/-- What is read of the slot. -/
theorem reads (h : d.SameSlot s e) : e.slotState s = d.slotState s ∧ e.fld (Reg.CPH_SLOT_STAT.SOURCE s) = d.fld (Reg.CPH_SLOT_STAT.SOURCE s) ∧
    e.fld (Reg.CPH_SLOT_STAT.EXH s) = d.fld (Reg.CPH_SLOT_STAT.EXH s) ∧ e.slotCtr s = d.slotCtr s := by
  have hf (o i w : Nat) (ho : o = 0x201000 ∨ o = 0x201004 ∨ o = 0x201008) (hi : i < 32) : e.fld ⟨o + s * 0x10, i, w⟩ = d.fld ⟨o + s * 0x10, i, w⟩ :=
    h.regs _ (by simp only [Fld.key]; omega) (by simp only [Fld.key]; omega)
  have hlo : e.fld (Reg.CPH_SLOT_CTR_LO.CTR s) = d.fld (Reg.CPH_SLOT_CTR_LO.CTR s) := hf 0x201004 0 32 (by decide) (by decide)
  have hhi : e.fld (Reg.CPH_SLOT_CTR_HI.CTR s) = d.fld (Reg.CPH_SLOT_CTR_HI.CTR s) := hf 0x201008 0 19 (by decide) (by decide)
  refine ⟨hf 0x201000 0 2 (by decide) (by decide), hf 0x201000 4 3 (by decide) (by decide), hf 0x201000 2 1 (by decide) (by decide), ?_⟩
  rw [Dev.slotCtr, Dev.slotCtr, Dev.wide, Dev.wide, hlo, hhi]

end Dev.SameSlot

/-! ### Slots that take a key or lose it (R139) -/

/-- What a slot that takes a key holds. -/
def slotFlds (s state source : Nat) : List (Fld × Nat) :=
  [(Reg.CPH_SLOT_STAT.STATE s, state), (Reg.CPH_SLOT_STAT.SOURCE s, source), (Reg.CPH_SLOT_STAT.EXH s, 0), (Reg.CPH_SLOT_CTR_LO.CTR s, 0),
    (Reg.CPH_SLOT_CTR_HI.CTR s, 0)]

theorem slotFlds_nodup (s state source : Nat) : ((slotFlds s state source).map (·.1.key)).Nodup := by
  simp only [slotFlds, List.map_cons, List.map_nil, List.nodup_cons, List.mem_cons, List.not_mem_nil, or_false, not_or, not_false_eq_true,
    List.nodup_nil, and_true, Fld.key, Reg.CPH_SLOT_STAT.STATE, Reg.CPH_SLOT_STAT.SOURCE, Reg.CPH_SLOT_STAT.EXH, Reg.CPH_SLOT_CTR_LO.CTR,
    Reg.CPH_SLOT_CTR_HI.CTR]
  omega

theorem slotFlds_range (s state source : Nat) : ∀ x ∈ slotFlds s state source, 0x201000 + s * 16 ≤ x.1.key / 32 ∧ x.1.key / 32 < 0x201010 + s * 16 := by
  simp only [slotFlds, List.forall_mem_cons, List.not_mem_nil, false_imp_iff, implies_true, and_true, Fld.key, Reg.CPH_SLOT_STAT.STATE,
    Reg.CPH_SLOT_STAT.SOURCE, Reg.CPH_SLOT_STAT.EXH, Reg.CPH_SLOT_CTR_LO.CTR, Reg.CPH_SLOT_CTR_HI.CTR]
  omega

/-- The key store with the key of a slot replaced. -/
def Dev.storeKeys (d : Dev) (t : Tbl Nat) : Dev := { d with cph := { d.cph with keys := t } }

theorem Dev.loadSlot_eq (d : Dev) (s key state source : Nat) :
    d.loadSlot s key state source = (d.storeKeys (Tbl.set d.cph.keys s key)).puts (slotFlds s state source) := rfl

theorem Dev.puts_store {l : List (Fld × Nat)} (h : ∀ x ∈ l, storeKey x.1.key) (d : Dev) : d.StoreOnly (d.puts l) := by
  induction l generalizing d with
  | nil => exact .refl d
  | cons x l ih => exact (Dev.StoreOnly.put d (h x (by simp)) x.2).trans (ih (fun y hy => h y (List.mem_cons_of_mem _ hy)) _)

theorem Dev.puts_slot {s : Nat} {l : List (Fld × Nat)} (h : ∀ x ∈ l, x.1.key / 32 < 0x201000 + s * 16 ∨ 0x201010 + s * 16 ≤ x.1.key / 32)
    (d : Dev) : d.SameSlot s (d.puts l) := by
  induction l generalizing d with
  | nil => exact .refl d s
  | cons x l ih => exact (Dev.SameSlot.put d (h x (by simp)) x.2).trans (ih (fun y hy => h y (List.mem_cons_of_mem _ hy)) _)

theorem Dev.loadSlot_store (d : Dev) {s : Nat} (hs : s < 64) (key state source : Nat) : d.StoreOnly (d.loadSlot s key state source) := by
  have hkeys : d.StoreOnly (d.storeKeys (Tbl.set d.cph.keys s key)) := ⟨fun _ _ => rfl, rfl, rfl, rfl⟩
  rw [Dev.loadSlot_eq]
  refine hkeys.trans (Dev.puts_store (fun x hx => .inr (.inl ?_)) _)
  have := slotFlds_range s state source x hx
  omega

theorem Dev.loadSlot_other (d : Dev) {s t : Nat} (h : t ≠ s) (key state source : Nat) : d.SameSlot t (d.loadSlot s key state source) := by
  have hkeys : d.SameSlot t (d.storeKeys (Tbl.set d.cph.keys s key)) := ⟨fun _ _ _ => rfl, Tbl.get_set_ne _ _ _ h⟩
  rw [Dev.loadSlot_eq]
  refine hkeys.trans (Dev.puts_slot (fun x hx => ?_) _)
  have := slotFlds_range s state source x hx
  omega

theorem Dev.loadSlot_holds (d : Dev) (s key : Nat) {state source : Nat} (hst : state < 4) (hsrc : source < 8) :
    let r := d.loadSlot s key state source
    r.slotState s = state ∧ r.key s = key ∧ r.fld (Reg.CPH_SLOT_STAT.SOURCE s) = source ∧ r.slotCtr s = 0 ∧
      r.fld (Reg.CPH_SLOT_STAT.EXH s) = 0 := by
  intro r
  have hf : ∀ x ∈ slotFlds s state source, r.fld x.1 = x.2 % 2 ^ x.1.w := fun x hx => Dev.puts_fld (slotFlds_nodup s state source) _ hx
  have hlo : r.fld (Reg.CPH_SLOT_CTR_LO.CTR s) = 0 := hf (Reg.CPH_SLOT_CTR_LO.CTR s, 0) (by simp [slotFlds])
  have hhi : r.fld (Reg.CPH_SLOT_CTR_HI.CTR s) = 0 := hf (Reg.CPH_SLOT_CTR_HI.CTR s, 0) (by simp [slotFlds])
  refine ⟨(hf (Reg.CPH_SLOT_STAT.STATE s, state) (by simp [slotFlds])).trans (Nat.mod_eq_of_lt hst), Tbl.get_set_same ..,
    (hf (Reg.CPH_SLOT_STAT.SOURCE s, source) (by simp [slotFlds])).trans (Nat.mod_eq_of_lt hsrc), ?_,
    hf (Reg.CPH_SLOT_STAT.EXH s, 0) (by simp [slotFlds])⟩
  rw [Dev.slotCtr, Dev.wide, hlo, hhi]
  rfl

theorem Dev.emptySlot_eq (d : Dev) (s : Nat) : d.emptySlot s =
    (d.storeKeys (Tbl.del d.cph.keys s)).puts [(Reg.CPH_SLOT_STAT.STATE s, slotEmpty), (Reg.CPH_SLOT_STAT.SOURCE s, 0)] := rfl

theorem emptyFlds_range (s : Nat) : ∀ x ∈ [(Reg.CPH_SLOT_STAT.STATE s, slotEmpty), (Reg.CPH_SLOT_STAT.SOURCE s, 0)],
    0x201000 + s * 16 ≤ x.1.key / 32 ∧ x.1.key / 32 < 0x201010 + s * 16 := by
  simp only [List.forall_mem_cons, List.not_mem_nil, false_imp_iff, implies_true, and_true, Fld.key, Reg.CPH_SLOT_STAT.STATE,
    Reg.CPH_SLOT_STAT.SOURCE]
  omega

theorem Dev.emptySlot_store (d : Dev) {s : Nat} (hs : s < 64) : d.StoreOnly (d.emptySlot s) := by
  have hkeys : d.StoreOnly (d.storeKeys (Tbl.del d.cph.keys s)) := ⟨fun _ _ => rfl, rfl, rfl, rfl⟩
  rw [Dev.emptySlot_eq]
  refine hkeys.trans (Dev.puts_store (fun x hx => .inr (.inl ?_)) _)
  have := emptyFlds_range s x hx
  omega

theorem Dev.emptySlot_other (d : Dev) {s t : Nat} (h : t ≠ s) : d.SameSlot t (d.emptySlot s) := by
  have hkeys : d.SameSlot t (d.storeKeys (Tbl.del d.cph.keys s)) := ⟨fun _ _ _ => rfl, Tbl.get_del_ne _ _ h⟩
  rw [Dev.emptySlot_eq]
  refine hkeys.trans (Dev.puts_slot (fun x hx => ?_) _)
  have := emptyFlds_range s x hx
  omega

theorem Dev.emptySlot_state (d : Dev) (s : Nat) : (d.emptySlot s).slotState s = slotEmpty := by
  have hne : (Reg.CPH_SLOT_STAT.STATE s).key ≠ (Reg.CPH_SLOT_STAT.SOURCE s).key := by
    simp only [Fld.key, Reg.CPH_SLOT_STAT.STATE, Reg.CPH_SLOT_STAT.SOURCE]
    omega
  exact (Dev.fld_put_ne _ _ hne).trans (Dev.fld_put_same ..)

/-- A key that is taken: its slot holds it, derived ones follow (R139). -/
theorem Dev.takeKey_spec (d : Dev) {s : Nat} (hs : s < 52) (key : Nat) {source : Nat} (hsrc : source < 8) :
    let r := d.takeKey s key source
    d.StoreOnly r ∧ r.slotState s = slotValid ∧ r.key s = key ∧ r.fld (Reg.CPH_SLOT_STAT.SOURCE s) = source ∧ r.slotCtr s = 0 ∧
      r.fld (Reg.CPH_SLOT_STAT.EXH s) = 0 := by
  intro r
  have hload := d.loadSlot_store (s := s) (by omega) key slotValid source
  have hholds := d.loadSlot_holds s key (state := slotValid) (source := source) (by decide) hsrc
  by_cases h : isMaster s = true
  · have hr : r = (d.loadSlot s key slotValid source).each [1, 2, 3]
        (fun d i => d.loadSlot (s + i) (Config.lineDerive key d.chip.serial i) slotValid 5) := if_pos h
    have hmem {i : Nat} (hi : i ∈ [1, 2, 3]) : 1 ≤ i ∧ i ≤ 3 := by
      simp only [List.mem_cons, List.not_mem_nil, or_false] at hi
      omega
    have hsame : (d.loadSlot s key slotValid source).SameSlot s r := by
      rw [hr]
      exact .each (fun i hi d => Dev.loadSlot_other d (by have := hmem hi; omega) ..) _
    have hstore : (d.loadSlot s key slotValid source).StoreOnly r := by
      rw [hr]
      exact .each (fun i hi d => Dev.loadSlot_store d (by have := hmem hi; omega) ..) _
    obtain ⟨h1, h2, h3, h4⟩ := hsame.reads
    rw [h1, h2, h3, h4, hsame.key]
    exact ⟨hload.trans hstore, hholds⟩
  · have hr : r = d.loadSlot s key slotValid source := if_neg h
    rw [hr]
    exact ⟨hload, hholds⟩

/-- A slot that is invalidated (R139, R146). -/
theorem Dev.invalidate_spec (d : Dev) {s : Nat} (hs : s < 52) :
    d.StoreOnly (d.invalidate s) ∧ (d.invalidate s).slotState s = slotEmpty := by
  by_cases h : isMaster s = true
  · have hr : d.invalidate s = ((d.emptySlot s).emptySlot (s + 1)).defaultKeys (s / 8) := if_pos h
    have h8 : 8 * (s / 8) = s := by
      simp only [isMaster, Bool.and_eq_true, decide_eq_true_eq, beq_iff_eq] at h
      omega
    have hsame : (d.emptySlot s).SameSlot s (d.invalidate s) := by
      rw [hr, Dev.defaultKeys, h8]
      exact ((Dev.emptySlot_other _ (by omega)).trans (Dev.loadSlot_other _ (by omega) ..)).trans (Dev.loadSlot_other _ (by omega) ..)
    have hstore : d.StoreOnly (d.invalidate s) := by
      rw [hr, Dev.defaultKeys, h8]
      exact (((d.emptySlot_store (by omega)).trans (Dev.emptySlot_store _ (by omega))).trans (Dev.loadSlot_store _ (by omega) ..)).trans
        (Dev.loadSlot_store _ (by omega) ..)
    exact ⟨hstore, hsame.reads.1.trans (d.emptySlot_state s)⟩
  · have hr : d.invalidate s = d.emptySlot s := if_neg h
    rw [hr]
    exact ⟨d.emptySlot_store (by omega), d.emptySlot_state s⟩

variable {d e : Dev}

/-! ### GENERATE (R141, R148) -/

theorem Dev.StoreOnly.rngServed (d : Dev) (good : Bool) : d.StoreOnly (d.rngServed good) := by
  unfold Dev.rngServed
  split
  · have hreqs : d.StoreOnly { d with tru := { d.tru with reqs := 0 } } := ⟨fun _ _ => rfl, rfl, rfl, rfl⟩
    refine hreqs.trans ?_
    unfold Dev.iff
    split
    · exact .put _ (.inr (.inr (.inr rfl))) 1
    · exact .refl _
  · exact ⟨fun _ _ => rfl, rfl, rfl, rfl⟩

theorem Dev.StoreOnly.freed (d : Dev) : d.StoreOnly d.freed := ⟨fun _ _ => rfl, rfl, rfl, rfl⟩

theorem Dev.drawKey_store (d : Dev) (s : Nat) : d.StoreOnly (d.drawKey s).1 := by
  have hused : d.freed.StoreOnly d.freed.rngUsed := by
    unfold Dev.rngUsed
    split
    · exact (Dev.StoreOnly.freed _).trans (.rngServed _ _)
    · exact .rngServed _ _
  exact (Dev.StoreOnly.freed d).trans hused

/-- Words written to CPH.WRAP_OUT. -/
theorem Dev.wrapOut_store (d : Dev) {i : Nat} {w : List Nat} (h : i + w.length ≤ 40) : d.StoreOnly (d.wrapOut i w) := by
  refine .each (fun k hk d => ?_) d
  have hk' := List.mem_range.1 hk
  refine .put d (.inl ?_) _
  simp only [Fld.key, Reg.CPH_WRAP_OUT.DATA]
  omega

theorem Dev.wrapOut_slot (d : Dev) {i s : Nat} {w : List Nat} (h : i + w.length ≤ 40) : d.SameSlot s (d.wrapOut i w) := by
  refine .each (fun k hk d => ?_) d
  have hk' := List.mem_range.1 hk
  refine .put d (.inl ?_) _
  simp only [Fld.key, Reg.CPH_WRAP_OUT.DATA]
  omega

/-- The record of a line data key. -/
theorem Dev.lineKeyRec_spec (d : Dev) {n : Nat} (hn : n < 8) (idx key dev s : Nat) :
    let r := d.lineKeyRec n idx key dev
    d.StoreOnly r ∧ d.SameSlot s r ∧ r.fld Reg.CPH_EVT.LINE_KEYREC = 1 := by
  intro r
  have hdata (i : Nat) (hi : i ≤ 14) : 0x200400 ≤ (Reg.CPH_LINE_KEYREC.DATA n i).key / 32 ∧ (Reg.CPH_LINE_KEYREC.DATA n i).key / 32 < 0x201000 := by
    simp only [Fld.key, Reg.CPH_LINE_KEYREC.DATA]
    omega
  have hstore (i : Nat) (hi : i ≤ 14) : storeKey (Reg.CPH_LINE_KEYREC.DATA n i).key := .inr (.inl (by have := hdata i hi; omega))
  have hslot (i : Nat) (hi : i ≤ 14) : (Reg.CPH_LINE_KEYREC.DATA n i).key / 32 < 0x201000 + s * 16 := by
    have := hdata i hi
    omega
  have hlt {i : Nat} (hi : i ∈ List.range 14) : i ≤ 14 := (List.mem_range.1 hi).le
  refine ⟨?_, ?_, Dev.fld_put_same ..⟩
  · exact ((Dev.StoreOnly.each (fun i hi d => .put d (hstore i (hlt hi)) _) d).trans (.put _ (hstore 14 le_rfl) _)).trans
      (.put _ (.inr (.inr (.inl rfl))) 1)
  · refine ((Dev.SameSlot.each (fun i hi d => .put d (.inl (hslot i (hlt hi))) _) d).trans (.put _ (.inl (hslot 14 le_rfl)) _)).trans
      (.put _ (.inl ?_) 1)
    have : Reg.CPH_EVT.LINE_KEYREC.key / 32 = 0x200100 := by decide
    omega

theorem padTo10_length {l : List Nat} (h : l.length ≤ 10) : (Dev.generate.padTo10 l).length = 10 := by
  rw [Dev.generate.padTo10, List.length_append, List.length_replicate]
  omega

/-- The form of a data key wrapped under a transport key. -/
theorem Dev.linkForm_spec (d : Dev) (s key : Nat) : (d.linkForm s key).2.length = 10 ∧ d.StoreOnly (d.linkForm s key).1 ∧
    ∀ t, d.SameSlot t (d.linkForm s key).1 := by
  unfold Dev.linkForm
  split
  · split
    · exact ⟨by rw [blockWords_length, keyWrap_length], .refl d, fun t => .refl d t⟩
    · exact ⟨by rw [blockWords_length, blocks64_length], .freed d, fun t => ⟨fun _ _ _ => rfl, rfl⟩⟩
  · exact ⟨List.length_replicate .., .refl d, fun t => .refl d t⟩

/-- A key that is generated (R141, R148). -/
theorem Dev.generate_spec (d : Dev) {j : KeyJob} (hs : j.slot < 52) (dev : Nat) :
    let r := d.generate j dev
    d.StoreOnly r ∧ r.slotState j.slot = slotValid ∧ r.slotCtr j.slot = 0 ∧ (j.tender = true → r.fld Reg.CPH_EVT.LINE_KEYREC = 1) := by
  intro r
  let key := (d.drawKey j.slot).2
  let d2 := (d.drawKey j.slot).1.takeKey j.slot key 4
  obtain ⟨h1, h2, -, -, h5, -⟩ := (d.drawKey j.slot).1.takeKey_spec hs key (source := 4) (by decide)
  have h2' : d2.slotState j.slot = slotValid := h2
  have h5' : d2.slotCtr j.slot = 0 := h5
  have hd2 : d.StoreOnly d2 := (d.drawKey_store j.slot).trans h1
  cases ht : j.tender
  · obtain ⟨hlen, hlink, hslot⟩ := d2.linkForm_spec j.slot key
    let a := Dev.generate.padTo10 (blockWords (keyWrap dev key (slotBlocks j.slot)))
    have ha : a.length = 10 := by
      refine padTo10_length ?_
      rw [blockWords_length, keyWrap_length, slotBlocks]
      split <;> omega
    have hr : r = ((d2.linkForm j.slot key).1.wrapOut 0 a).wrapOut 10 (d2.linkForm j.slot key).2 := by
      rw [show r = d.generate j dev from rfl, Dev.generate]
      exact if_neg (by simp [ht])
    have hstore := (hlink.trans (Dev.wrapOut_store _ (i := 0) (w := a) (by omega))).trans (Dev.wrapOut_store _ (i := 10) (w := (d2.linkForm j.slot key).2)
      (by omega))
    have hsame := ((hslot j.slot).trans (Dev.wrapOut_slot _ (i := 0) (w := a) (by omega))).trans
      (Dev.wrapOut_slot _ (i := 10) (w := (d2.linkForm j.slot key).2) (by omega))
    rw [← hr] at hstore hsame
    obtain ⟨q1, -, -, q4⟩ := hsame.reads
    exact ⟨hd2.trans hstore, q1.trans h2', q4.trans h5', fun h => by simp at h⟩
  · have hr : r = d2.lineKeyRec (j.slot / 8) (j.slot % 8 - 3) key dev := by
      rw [show r = d.generate j dev from rfl, Dev.generate]
      exact if_pos ht
    obtain ⟨p1, p2, p3⟩ := d2.lineKeyRec_spec (n := j.slot / 8) (by omega) (j.slot % 8 - 3) key dev j.slot
    rw [← hr] at p1 p2 p3
    obtain ⟨q1, -, -, q4⟩ := p2.reads
    exact ⟨hd2.trans p1, q1.trans h2', q4.trans h5', fun _ => p3⟩

variable {d e : Dev}

/-! ### A command that completes (R139, R140) -/

theorem Dev.keyStatus_zero {j : KeyJob} (h : d.keyStatus j = 0) : j.slot < 52 ∧ (j.op = 4 → ∃ k, d.wrapKey = some k) := by
  unfold Dev.keyStatus at h
  split at h
  · exact absurd h (by decide)
  next hs =>
  split at h
  · exact absurd h (by decide)
  split at h
  · exact absurd h (by decide)
  split at h
  · exact absurd h (by decide)
  split at h
  · exact absurd h (by decide)
  split at h
  · exact absurd h (by decide)
  next hw =>
  refine ⟨by omega, fun h4 => Option.isSome_iff_exists.1 ?_⟩
  rw [not_and] at hw
  exact Option.isSome_iff_ne_none.2 (by simpa using hw h4)

theorem Dev.keyStatus_lt (d : Dev) (j : KeyJob) : d.keyStatus j < 8 := by
  unfold Dev.keyStatus
  repeat' split
  all_goals decide

theorem Dev.inputKey_op {j : KeyJob} {k : Nat} (h : d.inputKey j = some k) : j.op < 8 ∧ j.op ≠ 4 ∧ j.op ≠ 5 := by
  unfold Dev.inputKey at h
  split at h
  · omega
  · split at h
    · omega
    · split at h
      · omega
      · cases h

/-- What a command that is not refused does to its slot. -/
theorem Dev.keyEffect_spec {j : KeyJob} (hs : j.slot < 52) (hw : j.op = 4 → ∃ k, d.wrapKey = some k) :
    let r := d.keyEffect j
    d.StoreOnly r ∧
    (j.op = 4 → r.slotState j.slot = slotValid ∧ r.slotCtr j.slot = 0 ∧ (j.tender = true → r.fld Reg.CPH_EVT.LINE_KEYREC = 1)) ∧
    (j.op = 5 → r.slotState j.slot = slotEmpty) ∧
    ∀ k, 1 ≤ j.op → j.op ≤ 3 → d.inputKey j = some k → r.slotState j.slot = slotValid ∧ r.key j.slot = k ∧
      r.fld (Reg.CPH_SLOT_STAT.SOURCE j.slot) = j.op ∧ r.slotCtr j.slot = 0 ∧ r.fld (Reg.CPH_SLOT_STAT.EXH j.slot) = 0 := by
  intro r
  by_cases h4 : j.op = 4
  · obtain ⟨k, hk⟩ := hw h4
    have hr : r = d.generate j k := by
      rw [show r = d.keyEffect j from rfl, Dev.keyEffect, if_pos h4, hk]
    obtain ⟨g1, g2, g3, g4⟩ := d.generate_spec hs k
    rw [hr]
    exact ⟨g1, fun _ => ⟨g2, g3, g4⟩, fun h => by omega, fun k h1 h3 => by omega⟩
  · by_cases h5 : j.op = 5
    · have hr : r = d.invalidate j.slot := (if_neg h4).trans (if_pos h5)
      obtain ⟨g1, g2⟩ := d.invalidate_spec hs
      rw [hr]
      exact ⟨g1, fun h => absurd h h4, fun _ => g2, fun k h1 h3 => by omega⟩
    · have hr : r = match d.inputKey j with | some k => d.takeKey j.slot k j.op | none => d := (if_neg h4).trans (if_neg h5)
      cases hk : d.inputKey j with
      | none =>
        rw [hr, hk]
        exact ⟨.refl d, fun h => absurd h h4, fun h => absurd h h5, fun k _ _ h => by cases h⟩
      | some k =>
        obtain ⟨g1, g2, g3, g4, g5, g6⟩ := d.takeKey_spec hs k (Dev.inputKey_op hk).1
        rw [hr, hk]
        refine ⟨g1, fun h => absurd h h4, fun h => absurd h h5, fun k' _ _ h => ?_⟩
        obtain rfl := Option.some.inj h
        exact ⟨g2, g3, g4, g5, g6⟩

/-- The device when the first command has had its effect, or none if it was refused. -/
def Dev.keyActed (d : Dev) (j : KeyJob) (r : List KeyJob) : Dev :=
  let d1 : Dev := { d with cph := { d.cph with jobs := r } }
  if d.keyStatus j = 0 then d1.keyEffect j else d1

theorem Dev.keyActed_spec (d : Dev) (j : KeyJob) (r : List KeyJob) :
    let e := d.keyActed j r
    (∀ k, ¬ storeKey k → Tbl.get e.regs k (Reg.rst k) = Tbl.get d.regs k (Reg.rst k)) ∧ e.acts = d.acts ∧ e.chip = d.chip ∧ e.cph.jobs = r ∧
    (d.keyStatus j ≠ 0 → e.regs = d.regs ∧ e.cph.keys = d.cph.keys) ∧
    (d.keyStatus j = 0 → j.op = 4 → e.slotState j.slot = slotValid ∧ e.slotCtr j.slot = 0 ∧ (j.tender = true → e.fld Reg.CPH_EVT.LINE_KEYREC = 1)) ∧
    (d.keyStatus j = 0 → j.op = 5 → e.slotState j.slot = slotEmpty) ∧
    ∀ k, d.keyStatus j = 0 → 1 ≤ j.op → j.op ≤ 3 → d.inputKey j = some k → e.slotState j.slot = slotValid ∧ e.key j.slot = k ∧
      e.fld (Reg.CPH_SLOT_STAT.SOURCE j.slot) = j.op ∧ e.slotCtr j.slot = 0 ∧ e.fld (Reg.CPH_SLOT_STAT.EXH j.slot) = 0 := by
  intro e
  let d1 : Dev := { d with cph := { d.cph with jobs := r } }
  by_cases hst : d.keyStatus j = 0
  · have he : e = d1.keyEffect j := if_pos hst
    obtain ⟨hs, hw⟩ := Dev.keyStatus_zero hst
    obtain ⟨g1, g2, g3, g4⟩ := Dev.keyEffect_spec (d := d1) hs hw
    rw [he]
    exact ⟨g1.regs, g1.acts, g1.chip, g1.jobs, fun h => absurd hst h, fun _ => g2, fun _ => g3, fun k _ => g4 k⟩
  · have he : e = d1 := if_neg hst
    rw [he]
    exact ⟨fun _ _ => rfl, rfl, rfl, rfl, fun _ => ⟨rfl, rfl⟩, fun h => absurd h hst, fun h => absurd h hst, fun k h => absurd h hst⟩

/-- The status of a command from software, and the event. -/
def doneFlds (j : KeyJob) (st : Nat) : List (Fld × Nat) :=
  (if j.tender then [] else [(Reg.CPH_KEY_STAT.STATUS, st), (Reg.CPH_KEY_STAT.BUSY, 0)]) ++ [(Reg.CPH_EVT.CMD_DONE, 1)]

theorem Dev.keyStart_cph (d : Dev) : ∃ l, l.length = d.cph.jobs.length ∧ d.keyStart = { d with cph := { d.cph with jobs := l } } := by
  unfold Dev.keyStart
  split
  · next h => exact ⟨d.cph.jobs, rfl, rfl⟩
  · next j r h => exact ⟨{ j with keyIn := if j.tender then j.keyIn else d.keyInput } :: r, by rw [h]; rfl, rfl⟩

theorem Dev.keyDone_eq {j : KeyJob} {r : List KeyJob} (h : d.cph.jobs = j :: r) :
    d.keyDone = (((d.keyActed j r).puts (doneFlds j (d.keyStatus j))).keyStart, some (j, d.keyStatus j)) := by
  rw [Dev.keyDone, h]
  cases ht : j.tender <;> simp only [doneFlds, ht] <;> rfl

/-- The device when the first command has ended and the next one starts. -/
def Dev.keyEnded (d : Dev) (j : KeyJob) (r : List KeyJob) : Dev := ((d.keyActed j r).puts (doneFlds j (d.keyStatus j))).keyStart

theorem doneFlds_keys (j : KeyJob) (st : Nat) : ((doneFlds j st).map (·.1.key)).Nodup ∧
    ∀ x ∈ doneFlds j st, x.1.key / 32 ≤ 0x200100 ∧ x.1.key ≠ Reg.CPX_TND_STAT.RUNNING.key ∧ x.1.key ≠ Reg.CPH_EVT.LINE_KEYREC.key := by
  have hnd : ∀ t : Bool, ((if t then [] else [(Reg.CPH_KEY_STAT.STATUS, 0), (Reg.CPH_KEY_STAT.BUSY, 0)]) ++ [(Reg.CPH_EVT.CMD_DONE, 1)] :
      List (Fld × Nat)).map (·.1.key) |>.Nodup := by decide
  have hk : ∀ t : Bool, ∀ k ∈ ((if t then [] else [(Reg.CPH_KEY_STAT.STATUS, 0), (Reg.CPH_KEY_STAT.BUSY, 0)]) ++ [(Reg.CPH_EVT.CMD_DONE, 1)] :
      List (Fld × Nat)).map (·.1.key), k / 32 ≤ 0x200100 ∧ k ≠ Reg.CPX_TND_STAT.RUNNING.key ∧ k ≠ Reg.CPH_EVT.LINE_KEYREC.key := by decide
  have hmap : (doneFlds j st).map (·.1.key) = ((if j.tender then [] else [(Reg.CPH_KEY_STAT.STATUS, 0), (Reg.CPH_KEY_STAT.BUSY, 0)]) ++
      [(Reg.CPH_EVT.CMD_DONE, 1)] : List (Fld × Nat)).map (·.1.key) := by
    rw [doneFlds]
    cases j.tender <;> rfl
  rw [hmap]
  refine ⟨hnd _, fun x hx => hk j.tender _ ?_⟩
  rw [← hmap]
  exact List.mem_map_of_mem (f := fun e : Fld × Nat => e.1.key) hx

theorem Dev.keyEnded_spec (d : Dev) (j : KeyJob) (r : List KeyJob) :
    let a := d.keyActed j r
    let e := d.keyEnded j r
    e.regs = (a.puts (doneFlds j (d.keyStatus j))).regs ∧ e.acts = d.acts ∧ e.chip = d.chip ∧ e.cph.keys = a.cph.keys ∧
    e.cph.jobs.length = r.length ∧ (∀ s, a.SameSlot s e) ∧ e.tenderRuns = d.tenderRuns := by
  intro a e
  let b := a.puts (doneFlds j (d.keyStatus j))
  obtain ⟨l, hl, hb⟩ := b.keyStart_cph
  have he : e = { b with cph := { b.cph with jobs := l } } := hb
  obtain ⟨g1, g2, g3, g4, -⟩ := d.keyActed_spec j r
  have hrest := Dev.puts_rest (doneFlds j (d.keyStatus j)) a
  have hcph : b.cph = a.cph := congrArg (·.cph) hrest
  have hacts : b.acts = a.acts := congrArg (·.acts) hrest
  have hchip : b.chip = a.chip := congrArg (·.chip) hrest
  have hregs : e.regs = b.regs := by rw [he]
  have hrun : e.fld Reg.CPX_TND_STAT.RUNNING = d.fld Reg.CPX_TND_STAT.RUNNING := by
    rw [Dev.fld, hregs]
    refine (Dev.puts_fld_ne a fun x hx => ((doneFlds_keys j _).2 x hx).2.1).trans (g1 _ ?_)
    rintro (h | h | h | h) <;> revert h <;> decide
  have hchip' : e.chip = d.chip := by rw [he]; exact hchip.trans g3
  refine ⟨hregs, ?_, hchip', ?_, ?_, fun s => ⟨fun k h1 h2 => ?_, ?_⟩, ?_⟩
  · rw [he]
    exact hacts.trans g2
  · rw [he]
    exact congrArg (·.keys) hcph
  · rw [he]
    exact hl.trans (by rw [hcph, g4])
  · rw [hregs]
    exact (Dev.puts_slot (s := s) (fun x hx => .inl (by have := ((doneFlds_keys j _).2 x hx).1; omega)) a).regs k h1 h2
  · rw [he]
    exact congrArg (fun c => Tbl.get c.keys s 0) hcph
  · rw [Dev.tenderRuns, Dev.tenderRuns, Dev.on, Dev.on, hrun, Dev.tenderHere, Dev.tenderHere, Dev.unit_of_chip hchip']

/-- A command of software that has ended. -/
theorem Dev.keyComplete_software {j : KeyJob} {r : List KeyJob} (h : d.cph.jobs = j :: r) (ht : j.tender = false) :
    d.keyComplete = d.keyEnded j r := by
  rw [Dev.keyComplete, Dev.keyDone_eq h]
  exact if_pos (by rw [ht]; rfl)

/-- One of the Tender that has ended. -/
theorem Dev.keyComplete_tender {j : KeyJob} {r : List KeyJob} (h : d.cph.jobs = j :: r) (ht : j.tender = true) :
    let e := d.keyEnded j r
    d.keyComplete = if d.tenderRuns = false then e
      else if d.keyStatus j = 0 then e.answer (j.slot / 8) (.keyReport (j.slot % 8 - 3) (Config.kekWrap (e.key (8 * (j.slot / 8) + 1)) (e.key j.slot))
        (Config.keyName (e.key (8 * (j.slot / 8) + 1)) (e.key j.slot)))
      else e.answer (j.slot / 8) (.ack 1) := by
  intro e
  have hrun : e.tenderRuns = d.tenderRuns := (d.keyEnded_spec j r).2.2.2.2.2.2
  rw [Dev.keyComplete, Dev.keyDone_eq h]
  dsimp only
  rw [← hrun]
  refine if_congr ?_ rfl rfl
  rw [ht]
  simp [e, Dev.keyEnded]

variable {d e : Dev}

/-! ### Key commands of software (R139, R140) -/

theorem Dev.keyPoke_eq (d : Dev) (m : Master) {op slot : Nat} (hop : op < 8) (hs : slot < 64) (h : d.cphHere = true) :
    d.keyPoke m op slot = d.keyCmd op slot := by
  have hv : (BitVec.ofNat 32 (op + 2 ^ 8 * slot)).toNat = op + 2 ^ 8 * slot := by
    rw [BitVec.toNat_ofNat]
    omega
  rw [Dev.keyPoke, Dev.poke_CPH_KEY_CMD d m _ h, hv, bits]
  congr 1 <;> omega

/-- A command of software by the state of the engine. -/
theorem Dev.keyPoke_down (d : Dev) (m : Master) {op slot : Nat} (hop : op < 8) (hs : slot < 64) (h : d.cphUp = false) :
    d.keyPoke m op slot = d := by
  cases hc : d.cphHere
  · have habs : d.absent Reg.CPH_KEY_CMD.ADR = true := by
      simp [Dev.absent, Dev.absentCph, Reg.CPH_KEY_CMD.ADR, hc]
    rw [Dev.keyPoke, Dev.poke, Dev.busWrite, if_neg (by decide), if_pos habs]
  · exact (d.keyPoke_eq m hop hs hc).trans (if_pos (by simp [h]))

/-- A command that is taken. -/
theorem Dev.keyCmd_taken {op slot : Nat} (hop : 1 ≤ op ∧ op ≤ 5) (hu : d.cphUp = true) (hb : d.fld Reg.CPH_KEY_STAT.BUSY = 0) :
    let r := d.keyCmd op slot
    { d with cph := r.cph }.Sets r [(Reg.CPH_KEY_STAT.BUSY, 1)] ∧
    r.cph = { d.cph with jobs := d.cph.jobs ++
      [{ op := op, slot := slot, keyIn := if d.cph.jobs = [] then d.keyInput else [], tender := false, plain := d.on Reg.CPH_CTRL.PLAIN_EN }] } := by
  intro r
  let job : KeyJob := { op := op, slot := slot, plain := d.on Reg.CPH_CTRL.PLAIN_EN }
  let b := d.put Reg.CPH_KEY_STAT.BUSY 1
  have hr : r = b.keyQueue job := by
    refine (if_neg (by simp [hu])).trans ((if_neg (by simp [Dev.on, hb])).trans (if_neg (by omega)))
  have hset : ({ d with cph := r.cph } : Dev).Sets (({ d with cph := r.cph } : Dev).put Reg.CPH_KEY_STAT.BUSY 1) [(Reg.CPH_KEY_STAT.BUSY, 1)] :=
    .put_one _ _ 1
  by_cases hj : d.cph.jobs = []
  · have hin : ({ b with cph := { b.cph with jobs := [job] } } : Dev).keyInput = d.keyInput := by
      refine List.map_congr_left fun i hi => Dev.fld_put_ne d 1 ?_
      have := List.mem_range.1 hi
      simp only [Fld.key, Reg.CPH_KEY_IN.DATA, Reg.CPH_KEY_STAT.BUSY]
      omega
    have hq : b.keyQueue job = { b with cph := { b.cph with jobs := [{ job with keyIn := d.keyInput }] } } := by
      rw [← hin, Dev.keyQueue, show b.cph.jobs = [] from hj]
      rfl
    rw [hq] at hr
    rw [if_pos hj, hj]
    refine ⟨?_, by rw [hr]; rfl⟩
    rw [hr] at hset ⊢
    exact hset
  · have hq : b.keyQueue job = { b with cph := { b.cph with jobs := d.cph.jobs ++ [job] } } := by
      rw [Dev.keyQueue]
      exact if_neg (by simpa [b] using (show ¬ b.cph.jobs = [] from hj))
    rw [hq] at hr
    rw [if_neg hj]
    refine ⟨?_, by rw [hr]; rfl⟩
    rw [hr] at hset ⊢
    exact hset

/-- Settles O34: commands of software by the state of the engine, and completion by who gave the command. -/
theorem keyCommands : Obligations.KeyCommands := by
  unfold Obligations.KeyCommands
  intro s m slot hup x
  have hexec : ∀ e ∈ [(Instr.loadPlain m slot, 1), (.loadDev m slot, 2), (.loadLink m slot, 3), (.generate m slot, 4), (.invalidate m slot, 5)],
      (1 ≤ e.2 ∧ e.2 ≤ 5) ∧ exec e.1 s = s.main (·.keyPoke m e.2 slot) := by
    simp only [List.forall_mem_cons]
    exact ⟨⟨by decide, rfl⟩, ⟨by decide, rfl⟩, ⟨by decide, rfl⟩, ⟨by decide, rfl⟩, ⟨by decide, rfl⟩, fun _ h => absurd h List.not_mem_nil⟩
  refine ⟨fun e he => ?_, fun h => ?_, fun j r hj ht => ?_, fun j r hj ht => ?_⟩
  · obtain ⟨hop, hex⟩ := hexec e he
    have hpoke (hu : x.cphUp = true) : x.keyPoke m e.2 slot = x.keyCmd e.2 slot :=
      x.keyPoke_eq m (by omega) slot.isLt (Bool.and_eq_true_iff.1 hu).1
    refine ⟨fun h => .of_main_eq hex hup (x.keyPoke_down m (by omega) slot.isLt h), fun hu hb => ?_, fun hu hb => ?_⟩
    · refine Effect.of_main_eq hup (Dev.Sets.put_one x Reg.CPH_KEY_STAT.IGNORED 1) hex ((hpoke hu).trans ?_)
      exact (if_neg (by simp [hu])).trans (if_pos (by simpa [Dev.on] using hb))
    · exact Effect.of_main_eq hup (Dev.keyCmd_taken hop hu hb) hex (hpoke hu)
  · refine .of_main_eq (exec_keyCmdDone ..) hup ?_
    have hd : x.keyDone = (x, none) := by rw [Dev.keyDone, h]
    rw [Dev.keyComplete, hd]
  · refine Effect.of_main_eq hup ?_ (exec_keyCmdDone ..) (Dev.keyComplete_software hj ht)
    obtain ⟨e1, -, -, e4, e5, e6, -⟩ := x.keyEnded_spec j r
    obtain ⟨-, -, -, -, a5, a6, a7, a8⟩ := x.keyActed_spec j r
    have hflds : doneFlds j (x.keyStatus j) = [(Reg.CPH_KEY_STAT.STATUS, x.keyStatus j), (Reg.CPH_KEY_STAT.BUSY, 0), (Reg.CPH_EVT.CMD_DONE, 1)] := by
      rw [doneFlds, ht]
      rfl
    have hv : ∀ y ∈ doneFlds j (x.keyStatus j), y.2 < 2 ^ y.1.w := by
      rw [hflds]
      simp only [List.forall_mem_cons]
      exact ⟨Nat.lt_trans (x.keyStatus_lt j) (show 8 < 2 ^ 8 by decide), Nat.two_pow_pos 1, Nat.one_lt_two, fun _ h => absurd h List.not_mem_nil⟩
    have hset := (Dev.puts_sets (doneFlds_keys j (x.keyStatus j)).1 hv (x.keyActed j r)).1.of_regs rfl e1
    obtain ⟨s1, s2, s3, s4⟩ := (e6 j.slot).reads
    rw [hflds] at hset
    refine ⟨hset.1 (Reg.CPH_KEY_STAT.STATUS, x.keyStatus j) (by simp), hset.1 (Reg.CPH_KEY_STAT.BUSY, 0) (by simp),
      hset.1 (Reg.CPH_EVT.CMD_DONE, 1) (by simp), e5, fun h => ?_, fun h h4 => ?_,
      fun h h5 => s1.trans (a7 h h5), fun k h h1 h3 hk => ?_⟩
    · obtain ⟨hregs, hkeys⟩ := a5 h
      exact ⟨e4.trans hkeys, fun k hk => (hset.2 k hk).trans (by rw [hregs])⟩
    · obtain ⟨q1, q2, -⟩ := a6 h h4
      exact ⟨s1.trans q1, s4.trans q2⟩
    · obtain ⟨q1, q2, q3, q4, q5⟩ := a8 k h h1 h3 hk
      exact ⟨s1.trans q1, (e6 j.slot).key.trans q2, s2.trans q3, s4.trans q4, s3.trans q5⟩
  · refine Effect.of_main_eq hup ?_ (exec_keyCmdDone ..) (Dev.keyComplete_tender hj ht)
    obtain ⟨e1, e2, -, e4, e5, e6, e7⟩ := x.keyEnded_spec j r
    obtain ⟨a1, -, -, -, a5, a6, -⟩ := x.keyActed_spec j r
    have hflds : doneFlds j (x.keyStatus j) = [(Reg.CPH_EVT.CMD_DONE, 1)] := by
      rw [doneFlds, ht]
      rfl
    have hone : (x.keyActed j r).Sets ((x.keyActed j r).put Reg.CPH_EVT.CMD_DONE 1) [(Reg.CPH_EVT.CMD_DONE, 1)] := .put_one _ _ 1
    have hset := hone.1.of_regs rfl (e1.trans (by rw [hflds]; rfl))
    have hdone : (x.keyEnded j r).fld Reg.CPH_EVT.CMD_DONE = 1 := hset.1 (Reg.CPH_EVT.CMD_DONE, 1) (by simp)
    have hstat {f : Fld} (hf : f.key ∉ [Reg.CPH_EVT.CMD_DONE.key]) (hs : ¬ storeKey f.key) : (x.keyEnded j r).fld f = x.fld f :=
      (hset.fld_eq hf).trans (a1 _ hs)
    have hbusy : (x.keyEnded j r).fld Reg.CPH_KEY_STAT.BUSY = x.fld Reg.CPH_KEY_STAT.BUSY := hstat (by decide) (by unfold storeKey; decide)
    have hstatus : (x.keyEnded j r).fld Reg.CPH_KEY_STAT.STATUS = x.fld Reg.CPH_KEY_STAT.STATUS := hstat (by decide) (by unfold storeKey; decide)
    have hdue : (x.keyEnded j r).act (j.slot / 8) = x.act (j.slot / 8) := congrArg (fun t => Tbl.get t (j.slot / 8) ({} : Act)) e2
    have hzero (h : x.keyStatus j = 0) (h4 : j.op = 4) : (x.keyEnded j r).slotState j.slot = slotValid ∧
        (x.keyEnded j r).fld Reg.CPH_EVT.LINE_KEYREC = 1 := by
      obtain ⟨q1, -, q3⟩ := a6 h h4
      exact ⟨(e6 j.slot).reads.1.trans q1, (hset.fld_eq (by decide)).trans (q3 ht)⟩
    have hfail (h : x.keyStatus j ≠ 0) : x.SameRegs (x.keyEnded j r) [Reg.CPH_EVT.CMD_DONE] ∧ (x.keyEnded j r).cph.keys = x.cph.keys := by
      obtain ⟨hregs, hkeys⟩ := a5 h
      exact ⟨fun k hk => (hset.2 k hk).trans (by rw [hregs]), e4.trans hkeys⟩
    have hanswer (u : PloamUp) : (((x.keyEnded j r).answer (j.slot / 8) u).act (j.slot / 8)).due = (x.act (j.slot / 8)).due ++ [u] := by
      rw [Dev.answer, Dev.act_set, hdue]
    cases hrun : x.tenderRuns
    · rw [if_pos rfl]
      refine ⟨hdone, e5, hbusy, hstatus, fun _ => ((congrArg Act.due hdue).trans (List.append_nil _).symm), fun h => ?_, fun h h4 => ?_⟩
      · exact ⟨(hfail h).1, (hfail h).2, fun h => by cases h⟩
      · exact ⟨(hzero h h4).1, (hzero h h4).2, fun h => by cases h⟩
    · rw [if_neg (by decide)]
      by_cases h0 : x.keyStatus j = 0
      · rw [if_pos h0]
        refine ⟨hdone, e5, hbusy, hstatus, fun h => (by cases h), fun h => absurd h0 h, fun h h4 => ?_⟩
        exact ⟨(hzero h h4).1, (hzero h h4).2, fun _ => hanswer _⟩
      · rw [if_neg h0]
        refine ⟨hdone, e5, hbusy, hstatus, fun h => (by cases h), fun h => ?_, fun h => absurd h h0⟩
        exact ⟨(hfail h).1, (hfail h).2, fun _ => hanswer _⟩

end Sys2Proof.Machine
end

section
/-!
PROOFS. Steps of the time base (R246, R247): what a step writes, the latch it makes, and how a STEP_GO takes an armed sample's
step back.
-/
namespace Sys2Proof

variable {α : Type}

/-! ### Tables that only grow, and taking their changes back -/

theorem Tbl.pairwise_of_wf {t : Tbl α} (h : Tbl.wf t = true) : List.Pairwise (fun x y => x.1 < y.1) t := by
  induction t with
  | nil => exact .nil
  | cons e r ih =>
    have hh : Tbl.above e.1 r = true ∧ Tbl.wf r = true := by simpa [Tbl.wf] using h
    exact .cons (Tbl.above_iff.1 hh.1) (ih hh.2)

theorem Tbl.get_of_notMem {t : Tbl α} {k : Nat} (h : k ∉ t.map Prod.fst) (x : α) : Tbl.get t k x = x := by
  induction t with
  | nil => rfl
  | cons e r ih =>
    have hh : k ≠ e.1 ∧ k ∉ r.map Prod.fst := by simpa using h
    exact (if_neg (Ne.symm hh.1)).trans (ih hh.2)

theorem Tbl.get_of_mem {t : Tbl α} (hw : Tbl.wf t = true) {e : Nat × α} (h : e ∈ t) (x : α) : Tbl.get t e.1 x = e.2 := by
  induction t with
  | nil => cases h
  | cons b r ih =>
    have hh : Tbl.above b.1 r = true ∧ Tbl.wf r = true := by simpa [Tbl.wf] using hw
    rcases List.mem_cons.1 h with rfl | hr
    · exact if_pos rfl
    · exact (if_neg (Nat.ne_of_lt (Tbl.above_iff.1 hh.1 e hr))).trans (ih hh.2 hr)

theorem Tbl.mem_set {t : Tbl α} {k j : Nat} {v : α} (h : j ∈ t.map Prod.fst) : j ∈ (Tbl.set t k v).map Prod.fst := by
  induction t with
  | nil => cases h
  | cons e r ih =>
    simp only [Tbl.set]
    split
    · exact List.mem_cons_of_mem _ h
    · split
      case isTrue he => exact he ▸ h
      case isFalse =>
        rcases List.mem_cons.1 h with rfl | hr
        · exact List.mem_cons_self
        · exact List.mem_cons_of_mem _ (ih hr)

/-- `t'` keeps the form of `t` and every key of it. -/
structure Tbl.Grown (t t' : Tbl α) : Prop where
  wf : Tbl.wf t = true → Tbl.wf t' = true
  keys : ∀ k ∈ t.map Prod.fst, k ∈ t'.map Prod.fst

theorem Tbl.Grown.refl (t : Tbl α) : t.Grown t := ⟨id, fun _ h => h⟩

theorem Tbl.Grown.trans {t t' t'' : Tbl α} (h : t.Grown t') (h' : t'.Grown t'') : t.Grown t'' :=
  ⟨h'.wf ∘ h.wf, fun k hk => h'.keys k (h.keys k hk)⟩

theorem Tbl.Grown.set (t : Tbl α) (k : Nat) (v : α) : t.Grown (Tbl.set t k v) := ⟨Tbl.wf_set k v, fun _ => Tbl.mem_set⟩

/-- Put back the older of two values at each key that still has the newer one. -/
def Tbl.putBack [DecidableEq α] (c : α) (l : List (Nat × α × α)) (t : Tbl α) : Tbl α :=
  l.foldl (fun t y => if Tbl.get t y.1 c = y.2.2 then Tbl.set t y.1 y.2.1 else t) t

theorem Tbl.get_putBack [DecidableEq α] (c : α) {l : List (Nat × α × α)} (hl : (l.map Prod.fst).Nodup) (t : Tbl α)
    (hnew : ∀ y ∈ l, Tbl.get t y.1 c = y.2.2) (x : α) :
    (∀ y ∈ l, Tbl.get (t.putBack c l) y.1 x = y.2.1) ∧ ∀ k, k ∉ l.map Prod.fst → Tbl.get (t.putBack c l) k x = Tbl.get t k x := by
  induction l generalizing t with
  | nil => exact ⟨fun y hy => by simp at hy, fun _ _ => rfl⟩
  | cons a l ih =>
    obtain ⟨ha, hl⟩ := List.nodup_cons.1 hl
    have hstep : t.putBack c (a :: l) = (Tbl.set t a.1 a.2.1).putBack c l := by
      rw [Tbl.putBack, List.foldl_cons, if_pos (hnew a List.mem_cons_self)]
      rfl
    have hne : ∀ y ∈ l, y.1 ≠ a.1 := fun y hy he => ha (he ▸ List.mem_map_of_mem hy)
    obtain ⟨hin, hout⟩ := ih hl (Tbl.set t a.1 a.2.1) fun y hy => by
      rw [Tbl.get_set_ne _ _ _ (hne y hy)]
      exact hnew y (List.mem_cons_of_mem _ hy)
    rw [hstep]
    refine ⟨fun y hy => ?_, fun k hk => ?_⟩
    · rcases List.mem_cons.1 hy with rfl | hy
      · rw [hout _ ha, Tbl.get_set_same]
      · exact hin y hy
    · have hk : k ≠ a.1 ∧ k ∉ l.map Prod.fst := by simpa using hk
      rw [hout k hk.2, Tbl.get_set_ne _ _ _ hk.1]

/-- What `t'` changed of `t`, with the older and the newer value, but for the keys that `skip` names. -/
def Tbl.changes [DecidableEq α] (t t' : Tbl α) (x : Nat → α) (skip : Nat → Bool) : List (Nat × α × α) :=
  t'.filterMap fun e => if Tbl.get t e.1 (x e.1) = e.2 ∨ skip e.1 then none else some (e.1, Tbl.get t e.1 (x e.1), e.2)

theorem Tbl.mem_changes [DecidableEq α] {t t' : Tbl α} {x : Nat → α} {skip : Nat → Bool} {y : Nat × α × α} :
    y ∈ t.changes t' x skip ↔ (y.1, y.2.2) ∈ t' ∧ y.2.1 = Tbl.get t y.1 (x y.1) ∧ y.2.1 ≠ y.2.2 ∧ skip y.1 = false := by
  simp only [Tbl.changes, List.mem_filterMap]
  constructor
  · rintro ⟨e, he, h⟩
    split at h
    · cases h
    · cases h
      simp_all
  · rintro ⟨hm, ho, hne, hs⟩
    refine ⟨_, hm, ?_⟩
    rw [if_neg (by simp [hs, ← ho, hne])]
    exact congrArg some (Prod.ext rfl (Prod.ext ho.symm rfl))

theorem Tbl.changes_nodup [DecidableEq α] {t t' : Tbl α} (hw : Tbl.wf t' = true) (x : Nat → α) (skip : Nat → Bool) :
    ((t.changes t' x skip).map Prod.fst).Nodup := by
  refine List.pairwise_map.2 (List.Pairwise.filterMap _ (fun a b hab y hy z hz => ?_) (Tbl.pairwise_of_wf hw))
  split at hy <;> split at hz <;> cases hy <;> cases hz
  exact Nat.ne_of_lt hab

/-- The changes of a table that only grew, put back, leave every value as it was, but for the keys that were skipped. -/
theorem Tbl.get_putBack_changes [DecidableEq α] {t t' : Tbl α} (h : t.Grown t') (hw : Tbl.wf t = true) (c : α) (x : Nat → α)
    (skip : Nat → Bool) (k : Nat) :
    (skip k = false → Tbl.get (t'.putBack c (t.changes t' x skip)) k (x k) = Tbl.get t k (x k)) := by
  intro hs
  have hw' := h.wf hw
  obtain ⟨hin, hout⟩ := Tbl.get_putBack c (Tbl.changes_nodup (t := t) hw' x skip) t'
    (fun y hy => Tbl.get_of_mem hw' (e := (y.1, y.2.2)) (Tbl.mem_changes.1 hy).1 c) (x k)
  by_cases hm : k ∈ (t.changes t' x skip).map Prod.fst
  · obtain ⟨y, hy, rfl⟩ := List.mem_map.1 hm
    rw [hin y hy, (Tbl.mem_changes.1 hy).2.1]
  · rw [hout k hm]
    by_cases hk : k ∈ t'.map Prod.fst
    · obtain ⟨e, he, rfl⟩ := List.mem_map.1 hk
      rw [Tbl.get_of_mem hw' he]
      by_contra hne
      exact hm (List.mem_map_of_mem (f := Prod.fst) (Tbl.mem_changes.2 ⟨he, rfl, Ne.symm hne, hs⟩ : (e.1, _, e.2) ∈ _))
    · rw [Tbl.get_of_notMem hk, Tbl.get_of_notMem fun hk' => hk (h.keys k hk')]

end Sys2Proof

namespace Sys2Proof.Machine

variable {d e : Dev}

variable {d e : Dev}

/-! ### What a latch of the channels leaves -/

/-- Registers and channels were added or changed, and the time base; nothing else. -/
structure Dev.Grown (d e : Dev) : Prop where
  regs : d.regs.Grown e.regs
  lines : d.lines.Grown e.lines
  rest : { e with tim := d.tim, regs := d.regs, lines := d.lines } = d

namespace Dev.Grown

theorem refl (d : Dev) : d.Grown d := ⟨.refl _, .refl _, rfl⟩

theorem trans {f : Dev} (h : d.Grown e) (h' : e.Grown f) : d.Grown f :=
  ⟨h.regs.trans h'.regs, h.lines.trans h'.lines,
    (congrArg (fun z : Dev => { z with tim := d.tim, regs := d.regs, lines := d.lines }) h'.rest).trans h.rest⟩

theorem put (h : d.Grown e) (f : Fld) (v : Nat) : d.Grown (e.put f v) := h.trans ⟨.set .., .refl _, rfl⟩

theorem setLine (h : d.Grown e) (n : Nat) (x : Line) : d.Grown (e.setLine n x) := h.trans ⟨.refl _, .set .., rfl⟩

theorem setTim (h : d.Grown e) (t : Tim) : d.Grown { e with tim := t } := h.trans ⟨.refl _, .refl _, rfl⟩

end Dev.Grown

/-- Registers of the line channels and the channels themselves were added or changed; nothing else. -/
structure Dev.LineWrites (d e : Dev) : Prop where
  grown : d.Grown e
  tim : e.tim = d.tim
  below : ∀ k, k / 32 < 0x100000 → Tbl.get e.regs k (Reg.rst k) = Tbl.get d.regs k (Reg.rst k)

namespace Dev.LineWrites

theorem refl (d : Dev) : d.LineWrites d := ⟨.refl d, rfl, fun _ _ => rfl⟩

theorem trans {f : Dev} (h : d.LineWrites e) (h' : e.LineWrites f) : d.LineWrites f :=
  ⟨h.grown.trans h'.grown, h'.tim.trans h.tim, fun k hk => (h'.below k hk).trans (h.below k hk)⟩

theorem put (h : d.LineWrites e) {f : Fld} (hf : 0x100000 ≤ f.key / 32) (v : Nat) : d.LineWrites (e.put f v) :=
  ⟨h.grown.put f v, h.tim, fun k hk => by
    rw [Dev.reg_put, if_neg (fun he => by rw [he] at hk; omega)]
    exact h.below k hk⟩

theorem setLine (h : d.LineWrites e) (n : Nat) (x : Line) : d.LineWrites (e.setLine n x) :=
  ⟨h.grown.setLine n x, h.tim, h.below⟩

theorem each {α : Type} (h : d.LineWrites e) (l : List α) {f : Dev → α → Dev} (hf : ∀ e : Dev, ∀ a ∈ l, e.LineWrites (f e a)) :
    d.LineWrites (e.each l f) := by
  induction l generalizing e with
  | nil => exact h
  | cons a l ih => exact ih (h.trans (hf e a List.mem_cons_self)) fun e b hb => hf e b (List.mem_cons_of_mem _ hb)

theorem iff (h : d.LineWrites e) (b : Bool) {f : Dev → Dev} (hf : ∀ e : Dev, e.LineWrites (f e)) : d.LineWrites (e.iff b f) := by
  unfold Dev.iff
  split
  · exact h.trans (hf e)
  · exact h

theorem defRaise (h : d.LineWrites e) (n k : Nat) : d.LineWrites (e.defRaise n k) := by
  unfold Dev.defRaise
  split
  · exact h
  · exact ((h.put (f := defFld n k) (by simp only [defFld, Fld.key, Reg.LN_DEF_STAT.ADR]; omega) 1).put (f := stickyFld n k)
      (by simp only [stickyFld, Fld.key, Reg.LN_DEF_STICKY.ADR]; omega) 1).setLine n _

theorem defClear (h : d.LineWrites e) (n k : Nat) : d.LineWrites (e.defClear n k) :=
  h.put (f := defFld n k) (by simp only [defFld, Fld.key, Reg.LN_DEF_STAT.ADR]; omega) 0

theorem berEval (h : d.LineWrites e) (n k : Nat) (hit : Bool) (run : Nat) : d.LineWrites (e.berEval n k hit run).1 := by
  unfold Dev.berEval
  split
  · exact h.defRaise n k
  · exact h.iff _ fun e => (refl e).defClear n k

theorem berStep (h : d.LineWrites e) (n k : Nat) (rx hit : Bool) (run : Nat) : d.LineWrites (e.berStep n k rx hit run).1 := by
  unfold Dev.berStep
  split
  · exact h.berEval n k hit run
  · exact h

theorem puts (h : d.LineWrites e) {l : List (Fld × Nat)} (hl : ∀ x ∈ l, 0x100000 ≤ x.1.key / 32) : d.LineWrites (e.puts l) :=
  h.each l fun e x hx => (refl e).put (hl x hx) x.2

theorem pmShown (d : Dev) (n : Nat) : d.LineWrites (d.pmShown n) := by
  have hcnt : ∀ x ∈ wideFlds (Reg.LN_PM1_CNT_LO.COUNT n) (Reg.LN_PM1_CNT_HI.COUNT n) (d.line n).runs 18, 0x100000 ≤ x.1.key / 32 := by
    intro x hx
    obtain ⟨i, -, hi⟩ := List.mem_flatMap.1 hx
    simp only [List.mem_cons, List.not_mem_nil, or_false] at hi
    rcases hi with rfl | rfl
    · simp only [Fld.key, Reg.LN_PM1_CNT_LO.COUNT]; omega
    · simp only [Fld.key, Reg.LN_PM1_CNT_HI.COUNT]; omega
  have hput := (refl d).puts hcnt
  have hsus := hput.put (f := Reg.LN_PM1_STAT.SUSPECT n) (by simp only [Fld.key, Reg.LN_PM1_STAT.SUSPECT]; omega) (bit (d.pmSuspect n))
  have hdef := hsus.put (f := Reg.LN_PM1_STAT.DEF_SEEN n) (by simp only [Fld.key, Reg.LN_PM1_STAT.DEF_SEEN]; omega) (bitsFrom (d.pmStood n) 9)
  exact (hdef.put (f := Reg.LN_PM1_STAT.SEQ n) (by simp only [Fld.key, Reg.LN_PM1_STAT.SEQ]; omega) _).put (f := Reg.LN_EVT.PM1_TICK n)
    (by simp only [Fld.key, Reg.LN_EVT.PM1_TICK]; omega) 1

theorem pmEvents (h : d.LineWrites e) (n : Nat) (c15 c24 rolled : Bool) : d.LineWrites (e.pmEvents n c15 c24 rolled) := by
  have h15 := h.iff c15 fun e => (refl e).put (f := Reg.LN_EVT.PM15_CLOSE n) (by simp only [Fld.key, Reg.LN_EVT.PM15_CLOSE]; omega) 1
  have h24 := h15.iff c24 fun e => (refl e).put (f := Reg.LN_EVT.PM24_CLOSE n) (by simp only [Fld.key, Reg.LN_EVT.PM24_CLOSE]; omega) 1
  exact h24.iff rolled fun e => (refl e).put (f := Reg.LN_PM_FLAGS.ROLLED n) (by simp only [Fld.key, Reg.LN_PM_FLAGS.ROLLED]; omega) 1

theorem pmLatch (d : Dev) (before : Option Nat) (n : Nat) : d.LineWrites (d.pmLatch before n) := by
  rw [Dev.pmLatch_eq]
  exact ((((pmShown d n).berStep n dBerSd _ _ _).berStep n dBerSf _ _ _).setLine n _).pmEvents n _ _ _

theorem pmLatchAll (d : Dev) (before : Option Nat) : d.LineWrites (d.pmLatchAll before) :=
  (refl d).each _ fun e n _ => pmLatch e before n

end Dev.LineWrites

variable {d e : Dev}

/-! ### Steps -/

/-- What the time base takes up with a rate. -/
def rateFlds : List Fld := [Reg.TIM_RATE_EFF.RATE, Reg.TIM_STAT.SLEWING, Reg.TIM_EVT.RATE_CLAMP]

theorem Dev.reRate_fld (d : Dev) {f : Fld} (hf : f.key ∉ rateFlds.map Fld.key) : d.reRate.fld f = d.fld f := by
  refine d.reRate_Regs.fld_eq fun hm => hf ?_
  simp only [rateFlds, List.map_cons, List.map_nil, List.mem_cons, List.not_mem_nil, or_false]
  split at hm <;> simp at hm <;> tauto

theorem Dev.reRate_slewing (d : Dev) : d.reRate.fld Reg.TIM_STAT.SLEWING = bit (d.tim.pend != 0) :=
  d.reRate_Regs.1 (Reg.TIM_STAT.SLEWING, bit (d.tim.pend != 0)) (by simp)

theorem Dev.time_congr {f : Dev} (hoff : f.tim.off = d.tim.off) (hctr : f.tim.ctr = d.tim.ctr)
    (hrate : f.fld Reg.TIM_RATE_EFF.RATE = d.fld Reg.TIM_RATE_EFF.RATE) : f.time = d.time := by
  rw [Dev.time, Dev.timeAt, Dev.nowPs, Dev.rateEff, hoff, hctr, hrate]
  rfl

/-- Taking up a rate changes OFFSET and keeps the views of before. -/
theorem Dev.reRate_only (d : Dev) : ∃ o h, d.reRate.tim = { d.tim with off := o, hist := h } := by
  simp only [Dev.reRate, Dev.iff]
  split <;> split <;> exact ⟨_, _, rfl⟩

theorem Dev.Grown.iff (h : d.Grown e) (b : Bool) {f : Dev → Dev} (hf : ∀ e : Dev, e.Grown (f e)) : d.Grown (e.iff b f) := by
  unfold Dev.iff
  split
  · exact h.trans (hf e)
  · exact h

theorem Dev.reRate_grown (d : Dev) : d.Grown d.reRate :=
  (((((Dev.Grown.refl d).iff _ fun e => (Dev.Grown.refl e).setTim _).setTim _).put _ _).put _ _).iff _ fun e => (Dev.Grown.refl e).put _ 1

theorem Dev.setPend_time (d : Dev) (p : Int) : (d.setPend p).time = d.time := Dev.reRate_time _

theorem Dev.setPend_pend (d : Dev) (p : Int) : (d.setPend p).tim.pend = p := (Dev.reRate_tim _).2.1

theorem Dev.setPend_fld (d : Dev) (p : Int) {f : Fld} (hf : f.key ∉ rateFlds.map Fld.key) : (d.setPend p).fld f = d.fld f :=
  Dev.reRate_fld _ hf

theorem Dev.setPend_only (d : Dev) (p : Int) : ∃ o h, (d.setPend p).tim = { d.tim with pend := p, off := o, hist := h } :=
  Dev.reRate_only _

/-- A step before its rate is taken up. -/
def Dev.stepSet (d : Dev) (v : Int) : Dev :=
  let d1 := { d.keepView with tim := { d.keepView.tim with off := offRound (d.tim.off + v) } }
  ((((d1.put Reg.TIM_STAT.EPOCH (d1.epoch + 1)).ev Reg.TIM_STAT.TIME_SET).clr Reg.TIM_CTRL.ARM_STEP).ev Reg.TIM_EVT.STEPPED)

theorem Dev.stepTake_eq (d : Dev) (v : Int) : d.stepTake v = (d.stepSet v).setPend 0 := rfl

theorem Dev.stepSet_fld (d : Dev) (v : Int) (f : Fld) : (d.stepSet v).fld f =
    if f.key = Reg.TIM_EVT.STEPPED.key then 1 else if f.key = Reg.TIM_CTRL.ARM_STEP.key then 0
    else if f.key = Reg.TIM_STAT.TIME_SET.key then 1 else if f.key = Reg.TIM_STAT.EPOCH.key then (d.epoch + 1) % 4 else d.fld f := by
  simp only [Dev.stepSet, Dev.ev, Dev.clr, Dev.fld_put]
  rfl

theorem Dev.stepSet_time (d : Dev) (v : Int) : (d.stepSet v).time = d.time - d.tim.off + offRound (d.tim.off + v) := by
  have hr : (d.stepSet v).rateEff = d.rateEff := by
    rw [Dev.rateEff, Dev.stepSet_fld]
    simp +decide only [if_false]
    rfl
  rw [Dev.time, Dev.timeAt, hr, Dev.time, Dev.timeAt]
  show offRound (d.tim.off + v) + d.nowPs * _ = _
  ring

/-- The remainder of OFFSET's rounding, halves towards +∞. -/
theorem offRound_rest (t : Int) : -1000 < 2 * (offRound t - t) ∧ 2 * (offRound t - t) ≤ 1000 ∧ (t % 1000 = 0 → offRound t = t) := by
  unfold offRound
  omega

/-- What a step leaves of the time base, whether or not the channels have latched. -/
structure Dev.Stepped (d : Dev) (x : Int) (e : Dev) : Prop where
  time : e.time = d.time - d.tim.off + offRound (d.tim.off + x)
  pend : e.tim.pend = 0
  only : ∃ o h, e.tim = { d.tim with pend := 0, off := o, hist := h }
  flds : ∀ f : Fld, f.key / 32 < 0x100000 → f.key ∉ rateFlds.map Fld.key → e.fld f = (d.stepSet x).fld f
  slewing : e.fld Reg.TIM_STAT.SLEWING = 0
  grown : d.Grown e

theorem Dev.stepTake_stepped (d : Dev) (x : Int) : d.Stepped x (d.stepTake x) where
  time := ((d.stepSet x).setPend_time 0).trans (d.stepSet_time x)
  pend := (d.stepSet x).setPend_pend 0
  only := by
    obtain ⟨o, h, ht⟩ := (d.stepSet x).setPend_only 0
    exact ⟨o, h, ht⟩
  flds f _ hf := (d.stepSet x).setPend_fld 0 hf
  slewing := Dev.reRate_slewing _
  grown := by
    have hset : d.Grown (d.stepSet x) := (((((Dev.Grown.refl d).setTim _).put _ _).put _ _).put _ _).put _ _
    exact (hset.setTim _).trans (Dev.reRate_grown _)

theorem Dev.stepAndLatch_stepped (d : Dev) (x : Int) : d.Stepped x (d.stepAndLatch x) := by
  have h := d.stepTake_stepped x
  have hl := Dev.LineWrites.pmLatchAll (d.stepTake x) (some (secOf d.time))
  have hfld {f : Fld} (hf : f.key / 32 < 0x100000) : (d.stepAndLatch x).fld f = (d.stepTake x).fld f := hl.below _ hf
  refine ⟨?_, (congrArg Tim.pend hl.tim).trans h.pend, ?_, fun f hb hf => (hfld hb).trans (h.flds f hb hf), ?_, h.grown.trans hl.grown⟩
  · exact (Dev.time_congr (congrArg Tim.off hl.tim) (congrArg Tim.ctr hl.tim) (hfld (by decide))).trans h.time
  · obtain ⟨o, v, ht⟩ := h.only
    exact ⟨o, v, hl.tim.trans ht⟩
  · exact (hfld (by decide)).trans h.slewing

/-- The step of a sample taken back (R247): the time base, the registers and the channels are as before it, but for ARM_STEP. -/
theorem Dev.sampleUndo_restores (d : Dev) (err : Int) (hr : Tbl.wf d.regs = true) (hl : Tbl.wf d.lines = true) :
    let d1 := d.stepAndLatch err
    let e := d1.sampleUndo (d.sampleStep d1 err)
    e.tim = { d.tim with stepped := none } ∧ (∀ n, e.line n = d.line n) ∧
    (∀ k, k ≠ Reg.TIM_CTRL.ARM_STEP.key → Tbl.get e.regs k (Reg.rst k) = Tbl.get d.regs k (Reg.rst k)) ∧
    { e with tim := d.tim, regs := d.regs, lines := d.lines } = d := by
  have h := d.stepAndLatch_stepped err
  have hregs : (d.sampleStep (d.stepAndLatch err) err).regs =
      d.regs.changes (d.stepAndLatch err).regs Reg.rst (fun k => decide (k = Reg.TIM_CTRL.ARM_STEP.key)) := by
    simp only [Dev.sampleStep, Tbl.changes, decide_eq_true_eq]
  have hlines : (d.sampleStep (d.stepAndLatch err) err).lines = d.lines.changes (d.stepAndLatch err).lines (fun _ => {}) fun _ => false := by
    simp only [Dev.sampleStep, Tbl.changes, Bool.false_eq_true, or_false]
  refine ⟨?_, fun n => ?_, fun k hk => ?_, h.grown.rest⟩
  · obtain ⟨o, v, ht⟩ := h.only
    simp only [Dev.sampleUndo, Dev.sampleStep, ht]
  · have hback := Tbl.get_putBack_changes h.grown.lines hl {} (fun _ => {}) (fun _ => false) n rfl
    rw [← hlines] at hback
    exact hback
  · have hback := Tbl.get_putBack_changes h.grown.regs hr 0 Reg.rst (fun k => decide (k = Reg.TIM_CTRL.ARM_STEP.key)) k (by simpa using hk)
    rw [← hregs] at hback
    exact hback

variable {d e : Dev}

/-- What a step shows in the registers of the time base. -/
theorem Dev.Stepped.shown {x : Int} (h : d.Stepped x e) : e.fld Reg.TIM_STAT.EPOCH = (d.epoch + 1) % 4 ∧ e.fld Reg.TIM_STAT.TIME_SET = 1 ∧
    e.fld Reg.TIM_CTRL.ARM_STEP = 0 ∧ e.fld Reg.TIM_EVT.STEPPED = 1 := by
  rw [h.flds _ (by decide) (by decide), h.flds _ (by decide) (by decide), h.flds _ (by decide) (by decide), h.flds _ (by decide) (by decide)]
  simp +decide only [Dev.stepSet_fld, if_true, if_false, and_self]

/-- A step adds its value to the time, to the unit in which OFFSET is held. -/
theorem Dev.Stepped.rest {x : Int} (h : d.Stepped x e) :
    -1000 < 2 * (e.time - (d.time + x)) ∧ 2 * (e.time - (d.time + x)) ≤ 1000 ∧ ((d.tim.off + x) % 1000 = 0 → 2 * (e.time - (d.time + x)) = 0) := by
  have hr := offRound_rest (d.tim.off + x)
  rw [h.time]
  omega

/-- The fields of TIM.CTRL as a write of `v` sets them. -/
def Dev.timCtrlSet (d : Dev) (v : Nat) : Dev :=
  ((((((d.put Reg.TIM_CTRL.SRC v).put Reg.TIM_CTRL.STEP_SRC (bits v 3 1)).put Reg.TIM_CTRL.ARM_STEP (bits v 4 1)).put
    Reg.TIM_CTRL.PPS_OUT_EN (bits v 5 1)).put Reg.TIM_CTRL.PPS_IN_EN (bits v 6 1)).put Reg.TIM_CTRL.PPS_IN_POL (bits v 7 1)).put
    Reg.TIM_CTRL.ONE_STEP_EN (bits v 8 1)

theorem Dev.timCtrlSet_fld (d : Dev) (v : Nat) {f : Fld} (hf : f.key / 32 ≠ Reg.TIM_CTRL.ADR) : (d.timCtrlSet v).fld f = d.fld f := by
  have hne {g : Fld} (hg : g.key / 32 = Reg.TIM_CTRL.ADR) : f.key ≠ g.key := fun he => hf (he ▸ hg)
  simp only [Dev.timCtrlSet]
  rw [Dev.fld_put_ne _ _ (hne (by decide)), Dev.fld_put_ne _ _ (hne (by decide)), Dev.fld_put_ne _ _ (hne (by decide)),
    Dev.fld_put_ne _ _ (hne (by decide)), Dev.fld_put_ne _ _ (hne (by decide)), Dev.fld_put_ne _ _ (hne (by decide)),
    Dev.fld_put_ne _ _ (hne (by decide))]

theorem Dev.timCtrlSet_time (d : Dev) (v : Nat) : (d.timCtrlSet v).time = d.time :=
  Dev.time_congr rfl rfl (d.timCtrlSet_fld v (by decide))

theorem Dev.timCtrlSet_stepValue (d : Dev) (v : Nat) : (d.timCtrlSet v).stepValue = d.stepValue := by
  simp only [Dev.stepValue, Dev.wide]
  rw [d.timCtrlSet_fld v (by decide), d.timCtrlSet_fld v (by decide), d.timCtrlSet_fld v (by decide), d.timCtrlSet_fld v (by decide)]

/-- A STEP_GO is the write of TIM.CTRL with its bit, whatever the word given. -/
theorem Dev.timCtrl_go (d : Dev) (v : Word) :
    d.timCtrl (v ||| 4#32).toNat = (d.timCtrlSet v.toNat).stepGo (d.on Reg.TIM_CTRL.ARM_STEP) := by
  have hbit : bitOf (v ||| 4#32).toNat 2 = true := by
    rw [bitOf_or]
    exact Bool.or_true _
  have hfld (i n : Nat) (hi : bits (4#32 : Word).toNat i n = 0) : bits (v ||| 4#32).toNat i n = bits v.toNat i n := by
    rw [bits_or, hi, Nat.or_zero]
  have hsrc : (v ||| 4#32).toNat % 2 ^ 2 = v.toNat % 2 ^ 2 := by
    have h := hfld 0 2 (by decide)
    rwa [bits, bits, Nat.pow_zero, Nat.div_one, Nat.div_one] at h
  have hput : d.put Reg.TIM_CTRL.SRC (v ||| 4#32).toNat = d.put Reg.TIM_CTRL.SRC v.toNat :=
    congrArg (fun x => ({ d with regs := Tbl.set d.regs Reg.TIM_CTRL.SRC.key x } : Dev)) hsrc
  unfold Dev.timCtrl
  rw [hput, hfld 3 1 (by decide), hfld 4 1 (by decide), hfld 5 1 (by decide), hfld 6 1 (by decide), hfld 7 1 (by decide), hfld 8 1 (by decide)]
  exact if_pos hbit

theorem Dev.timCtrlSet_stepSrc (d : Dev) (v : Nat) : (d.timCtrlSet v).on Reg.TIM_CTRL.STEP_SRC = true ↔ bits v 3 1 = 1 := by
  have hfld : (d.timCtrlSet v).fld Reg.TIM_CTRL.STEP_SRC = bits v 3 1 := by
    simp +decide only [Dev.timCtrlSet, Dev.fld_put, if_true, if_false]
    exact Nat.mod_eq_of_lt (bits_lt ..)
  have hlt : bits v 3 1 < 2 := bits_lt ..
  rw [Dev.on, hfld]
  simp only [bne_iff_ne]
  omega

/-! ### The time read by a master -/

theorem ownWords_nowFrac : (ownWords Reg.TIM_NOW_FRAC.ADR).flatMap rcFields = [] := by decide

theorem wideOf_nowFrac : wideOf Reg.TIM_NOW_FRAC.ADR = none := by decide

/-- A read of TIM.NOW_FRAC clears nothing. -/
theorem Dev.readThen_nowFrac (b : Dev) (m : Master) : b.readThen m Reg.TIM_NOW_FRAC.ADR = b := by
  simp only [Dev.readThen, wideOf_nowFrac]
  rw [Dev.readClear_eq]
  rfl

/-- What a master reads as the lowest word of the time is what was latched for it. -/
theorem Dev.view_nowFrac (b : Dev) (m : Nat) : b.view m Reg.TIM_NOW_FRAC.ADR =
    (Tbl.get b.tim.now m {}).frac + (Tbl.get b.tim.now m {}).epoch * 2 ^ 16 := by
  simp only [Dev.view, wideOf_nowFrac]
  rfl

/-- A step of `v`, or its refusal. -/
def Dev.stepAsked (d : Dev) (v : Int) : Dev := if d.stepOut v then d.stepRefuse else d.stepAndLatch v

/-- The cycle of a STEP_GO that found an armed sample. -/
def Dev.noteGo (d : Dev) (c : Option Nat) : Dev := { d with tim := { d.tim with stepGo := c } }

/-- A STEP_GO when no sample has stepped in its cycle. -/
theorem Dev.stepGo_alone (d : Dev) (armed : Bool) (h : ∀ x, d.tim.stepped = some x → x.ctr ≠ d.tim.ctr) : d.stepGo armed =
    (d.stepAsked (if d.on Reg.TIM_CTRL.STEP_SRC then d.tim.pend else d.stepValue)).noteGo (if armed then some d.tim.ctr else none) := by
  have hnone : d.tim.stepped.filter (fun x => x.ctr == d.tim.ctr) = none := by
    refine Option.filter_eq_none_iff.2 fun x hx => ?_
    simpa using h x hx
  unfold Dev.stepGo
  rw [hnone]
  rfl

/-- A STEP_GO in the cycle of a sample's step. -/
theorem Dev.stepGo_instead (d : Dev) (armed : Bool) {x : SampleStep} (h : d.tim.stepped = some x) (hc : x.ctr = d.tim.ctr) : d.stepGo armed =
    ((d.sampleUndo x).stepAsked (if d.on Reg.TIM_CTRL.STEP_SRC then x.pend else d.stepValue)).setPend x.err := by
  have hsome : d.tim.stepped.filter (fun x => x.ctr == d.tim.ctr) = some x := by
    rw [h, Option.filter_some, hc, beq_self_eq_true]
    rfl
  unfold Dev.stepGo
  rw [hsome]
  rfl

theorem Dev.stepAsked_out {d : Dev} {v : Int} (h : d.stepOut v = true) : d.stepAsked v = d.stepRefuse := if_pos h

theorem Dev.stepAsked_in {d : Dev} {v : Int} (h : ¬ d.stepOut v = true) : d.stepAsked v = d.stepAndLatch v := if_neg h

theorem Dev.stepOut_iff (d : Dev) (v : Int) : d.stepOut v = true ↔ d.time + v < 0 ∨ 2 ^ 48 * secU ≤ d.time + v := by
  simp [Dev.stepOut]

/-- A refused step counts and has its event. -/
theorem Dev.stepRefuse_sets (d : Dev) : d.Sets d.stepRefuse
    [(Reg.TIM_EVT.STEP_REFUSED, 1), (Reg.TIM_CNT.COUNT 4, min (2 ^ 32 - 1) (d.fld (Reg.TIM_CNT.COUNT 4) + 1))] :=
  ((Dev.Sets.nil d).bump (Reg.TIM_CNT.COUNT 4) (by simp)).put Reg.TIM_EVT.STEP_REFUSED 1
    (by simp only [List.map_cons, List.map_nil]; decide)

/-- A refused step with the cycle of its STEP_GO noted. -/
theorem Dev.stepRefuse_noteGo (d : Dev) (c : Option Nat) {k : Nat} (hk : d.fld (Reg.TIM_CNT.COUNT 4) = k) :
    (d.noteGo c).Sets (d.stepRefuse.noteGo c) [(Reg.TIM_EVT.STEP_REFUSED, 1), (Reg.TIM_CNT.COUNT 4, min (2 ^ 32 - 1) (k + 1))] := by
  subst hk
  exact (d.noteGo c).stepRefuse_sets

theorem Dev.stepRefuse_time (d : Dev) : d.stepRefuse.time = d.time :=
  Dev.time_congr rfl rfl (d.stepRefuse_sets.1.fld_eq (by simp only [List.map_cons, List.map_nil]; decide))

/-- A STEP_GO command in a running main domain with a time base. -/
theorem exec_stepGo_eq {s : State} (dt : Nat) (m : Master) (v : Word) (hu : s.dev.unit 15 = true) :
    (s.dev.advance dt).poke m Reg.TIM_CTRL.ADR (v ||| 4#32) =
      ((s.dev.advance dt).timCtrlSet v.toNat).stepGo ((s.dev.advance dt).on Reg.TIM_CTRL.ARM_STEP) := by
  rw [Dev.poke_TIM_CTRL _ _ _ ((s.dev.advance_unit dt 15).trans hu), Dev.timCtrl_go]

/-- Settles O45: the step's rounding and rate, the channels' latch that leaves the time base alone, and the changes of a sample's
step put back in tables that only grew. -/
theorem stepsAndTimeReads : Obligations.StepsAndTimeReads := by
  unfold Obligations.StepsAndTimeReads
  refine ⟨fun s dt m v phase hup hu => ?_, fun d x => ?_, fun d err hr hl => ?_⟩
  · intro d0 t w d1 refused far by_ go
    have hd1 : d1 = d0.timCtrlSet w := rfl
    have hgo := exec_stepGo_eq (s := s) dt m v hu
    have hval : d1.stepValue = d0.stepValue := d0.timCtrlSet_stepValue w
    have hsrc (p q : Int) : (if d1.on Reg.TIM_CTRL.STEP_SRC then p else q) = if bits w 3 1 = 1 then p else q :=
      if_congr (d0.timCtrlSet_stepSrc w) rfl rfl
    refine ⟨fun hno => ?_, fun x hx hc => ?_, ?_⟩
    · have hfar : d1.stepOut by_ = true ↔ far (d0.time + by_) := by
        rw [Dev.stepOut_iff, hd1, d0.timCtrlSet_time w]
      have heq : d1.stepGo (d0.on Reg.TIM_CTRL.ARM_STEP) =
          (d1.stepAsked by_).noteGo (if d0.on Reg.TIM_CTRL.ARM_STEP then some d0.tim.ctr else none) := by
        rw [Dev.stepGo_alone d1 _ hno, hsrc, hval]
        rfl
      refine ⟨fun h => ?_, fun h => ?_⟩
      · rw [Dev.stepAsked_out (hfar.2 h)] at heq
        refine .of_main_eq hup ?_ (exec_stepGo ..) (hgo.trans heq)
        exact Dev.stepRefuse_noteGo d1 _ (d0.timCtrlSet_fld w (by decide))
      · rw [Dev.stepAsked_in fun h' => h (hfar.1 h')] at heq
        exact .of_main_eq (exec_stepGo ..) hup (hgo.trans heq)
    · intro e by2
      have hfar : e.stepOut by2 = true ↔ far (e.time + by2) := Dev.stepOut_iff ..
      have heq : d1.stepGo (d0.on Reg.TIM_CTRL.ARM_STEP) = (e.stepAsked by2).setPend x.err := by
        rw [Dev.stepGo_instead d1 _ hx hc, hsrc, hval]
      refine ⟨fun h => ?_, fun h => ?_⟩
      · rw [Dev.stepAsked_out (hfar.2 h)] at heq
        refine .of_main_eq hup ⟨Dev.setPend_pend .., (Dev.setPend_time ..).trans e.stepRefuse_time, ?_, ?_⟩ (exec_stepGo ..) (hgo.trans heq)
        · exact (Dev.setPend_fld _ _ (by decide)).trans (e.stepRefuse_sets.1.1 _ List.mem_cons_self)
        · exact (Dev.setPend_fld _ _ (by decide)).trans (e.stepRefuse_sets.1.1 _ (List.mem_cons_of_mem _ List.mem_cons_self))
      · rw [Dev.stepAsked_in fun h' => h (hfar.1 h')] at heq
        have hst := e.stepAndLatch_stepped by2
        obtain ⟨hepoch, -, -, hstepped⟩ := hst.shown
        obtain ⟨hlo, hhi, -⟩ := hst.rest
        refine .of_main_eq hup ⟨Dev.setPend_pend .., (Dev.setPend_fld _ _ (by decide)).trans hepoch,
          (Dev.setPend_fld _ _ (by decide)).trans hstepped, ?_, ?_⟩ (exec_stepGo ..) (hgo.trans heq)
        · rw [Dev.setPend_time]
          exact hlo
        · rw [Dev.setPend_time]
          exact hhi
    · have hab : d0.absent Reg.TIM_NOW_FRAC.ADR = false := by
        have hu0 : d0.unit 15 = true := (s.dev.advance_unit dt 15).trans hu
        simp [Dev.absent, Reg.TIM_NOW_FRAC.ADR, hu0]
      have heq : d0.nowAccess m phase = (d0.nowRead m.num phase).emit (.busRead m Reg.TIM_NOW_FRAC.ADR
          (BitVec.ofNat 32 (fracOf t + d0.epoch * 2 ^ 16))) := by
        have hview : (d0.nowRead m.num phase).view m.num Reg.TIM_NOW_FRAC.ADR = fracOf t + d0.epoch * 2 ^ 16 := by
          rw [Dev.view_nowFrac]
          simp only [Dev.nowRead, Tbl.get_set_same]
          rfl
        rw [Dev.nowAccess, hab]
        simp only [Bool.false_eq_true, if_false]
        rw [Dev.readThen_nowFrac, hview]
        rfl
      exact .of_main_eq hup ⟨rfl, Tbl.get_set_same .., fun k hk => Tbl.get_set_ne _ _ _ hk⟩ (exec_nowRead ..) heq
  · have h := d.stepAndLatch_stepped x
    obtain ⟨hepoch, hset, harm, hstepped⟩ := h.shown
    obtain ⟨hlo, hhi, hzero⟩ := h.rest
    exact ⟨hhi, hlo, hzero, h.pend, hepoch, hset, harm, hstepped, h.slewing⟩
  · obtain ⟨htim, hline, hregs, hrest⟩ := d.sampleUndo_restores err hr hl
    have hoff := congrArg Tim.off htim
    have hctr := congrArg Tim.ctr htim
    exact ⟨Dev.time_congr hoff hctr (hregs _ (by decide)), htim, hline, hregs, hrest⟩

variable {d e : Dev}

/-! ### Samples (R256, R257) -/

/-- A sample taken out for its evaluation. -/
def Dev.capGone (d : Dev) : Dev := { d with tim := { d.tim with cap := none } }

/-- What the evaluation of a sample of error `e` shows. -/
def Dev.sampleFlds (d : Dev) (e : Int) : List (Fld × Nat) :=
  [(Reg.TIM_TOD_ERR.VALUE, unsigned 32 (sat32 (roundPs e))), (Reg.TIM_CNT.COUNT 0, min (2 ^ 32 - 1) (d.fld (Reg.TIM_CNT.COUNT 0) + 1)),
    (Reg.TIM_EVT.TOD_DONE, 1)]

/-- A sample shown, counted and done. -/
def Dev.sampleDone (d : Dev) (e : Int) : Dev := (d.sampleShow e).ev Reg.TIM_EVT.TOD_DONE

theorem Dev.sampleDone_sets (d : Dev) (e : Int) : d.Sets (d.sampleDone e) (d.sampleFlds e) := by
  have hval := (Dev.Sets.nil d).put_of_lt Reg.TIM_TOD_ERR.VALUE (unsigned_lt 32 (sat32 (roundPs e))) (by simp)
  have hcnt := hval.bump (Reg.TIM_CNT.COUNT 0) (by simp only [List.map_cons, List.map_nil]; decide)
  have hdone := hcnt.put Reg.TIM_EVT.TOD_DONE 1 (by simp only [List.map_cons, List.map_nil]; decide)
  exact hdone.of_mem_iff fun x => (List.reverse_perm [_, _, _]).mem_iff

theorem Dev.sampleFlds_keys (d : Dev) (e : Int) :
    (d.sampleFlds e).map (·.1.key) = [Reg.TIM_TOD_ERR.VALUE.key, (Reg.TIM_CNT.COUNT 0).key, Reg.TIM_EVT.TOD_DONE.key] := rfl

/-- A field that a sample does not show. -/
theorem Dev.sampleDone_fld (d : Dev) (e : Int) {f : Fld}
    (hf : f.key ∉ [Reg.TIM_TOD_ERR.VALUE.key, (Reg.TIM_CNT.COUNT 0).key, Reg.TIM_EVT.TOD_DONE.key]) : (d.sampleDone e).fld f = d.fld f :=
  (d.sampleDone_sets e).1.fld_eq hf

/-- The fields of a sample are none that a rate or a step sets. -/
theorem Dev.sampleFlds_apart (d : Dev) (e : Int) : ∀ f ∈ d.sampleFlds e, f.1.key / 32 < 0x100000 ∧ f.1.key ∉ rateFlds.map Fld.key ∧
    f.1.key ∉ [Reg.TIM_EVT.STEPPED.key, Reg.TIM_CTRL.ARM_STEP.key, Reg.TIM_STAT.TIME_SET.key, Reg.TIM_STAT.EPOCH.key] := by
  intro f hf
  have hk := List.mem_map_of_mem (f := fun x : Fld × Nat => x.1.key) hf
  rw [Dev.sampleFlds_keys] at hk
  exact (by decide : ∀ k ∈ [Reg.TIM_TOD_ERR.VALUE.key, (Reg.TIM_CNT.COUNT 0).key, Reg.TIM_EVT.TOD_DONE.key], k / 32 < 0x100000 ∧
    k ∉ rateFlds.map Fld.key ∧ k ∉ [Reg.TIM_EVT.STEPPED.key, Reg.TIM_CTRL.ARM_STEP.key, Reg.TIM_STAT.TIME_SET.key, Reg.TIM_STAT.EPOCH.key]) _ hk

theorem Dev.sampleDone_time (d : Dev) (e : Int) : (d.sampleDone e).time = d.time :=
  Dev.time_congr rfl rfl (d.sampleDone_fld e (by decide))

/-- What two more fields set after a sample is shown leave. -/
theorem Dev.sampleDone_then (d : Dev) (x : Int) {k : Nat} {f : Fld} (hf : f.w = 1)
    (hk : (Reg.TIM_CNT.COUNT k).key ∉ [Reg.TIM_TOD_ERR.VALUE.key, (Reg.TIM_CNT.COUNT 0).key, Reg.TIM_EVT.TOD_DONE.key])
    (hfk : f.key ∉ (Reg.TIM_CNT.COUNT k).key :: [Reg.TIM_TOD_ERR.VALUE.key, (Reg.TIM_CNT.COUNT 0).key, Reg.TIM_EVT.TOD_DONE.key]) :
    d.Sets (((d.sampleDone x).bump (Reg.TIM_CNT.COUNT k)).ev f)
      (d.sampleFlds x ++ [(Reg.TIM_CNT.COUNT k, min (2 ^ 32 - 1) (d.fld (Reg.TIM_CNT.COUNT k) + 1)), (f, 1)]) := by
  have hset := ((d.sampleDone_sets x).bump (Reg.TIM_CNT.COUNT k) hk).put_of_lt f (v := 1) (by rw [hf]; decide) hfk
  refine hset.of_mem_iff fun y => ?_
  rw [List.mem_append, List.mem_cons, List.mem_cons, List.mem_cons, List.mem_cons]
  simp only [List.not_mem_nil, or_false]
  exact ⟨fun h => h.elim (fun h => .inr (.inr h)) (fun h => h.elim (fun h => .inr (.inl h)) .inl),
    fun h => h.elim (fun h => .inr (.inr h)) (fun h => h.elim (fun h => .inr (.inl h)) .inl)⟩

/-- A sample too big to slew by. -/
def Dev.sampleBig (d : Dev) (e : Int) : Prop := max 1 (d.fld Reg.TIM_MAX_SLEW.MAX_SLEW) * 1000000 * nsU.toNat < e.natAbs

theorem Dev.sampleBig_iff (d : Dev) (e : Int) :
    (max 1 (d.fld Reg.TIM_MAX_SLEW.MAX_SLEW) : Int) * 1000000 * nsU < e.natAbs ↔ d.sampleBig e := by
  have hn : nsU = ((1000 * 2 ^ 48 : Nat) : Int) := by decide
  unfold Dev.sampleBig
  rw [hn, Int.toNat_natCast]
  omega

theorem Dev.todEvaluate_eq (d : Dev) {e : Int} (h : d.tim.cap = some e) : d.todEvaluate =
    if d.src = 1 then (d.capGone.sampleDone e).sampleTake e else d.capGone.sampleDone e := by
  have hsrc : (d.capGone.sampleDone e).src = d.src := by
    unfold Dev.src
    rw [Dev.sampleDone_fld _ _ (by decide)]
    exact rfl
  unfold Dev.todEvaluate
  rw [h]
  exact if_congr (by rw [← hsrc]) rfl rfl

/-- The remainder of the correction goes to OFFSET: the time moves by it, to OFFSET's unit, and slewing ends. -/
theorem Dev.slewEnd_spec (d : Dev) : d.slewEnd.tim.pend = 0 ∧ -1000 < 2 * (d.slewEnd.time - (d.time + d.tim.pend)) ∧
    2 * (d.slewEnd.time - (d.time + d.tim.pend)) ≤ 1000 ∧ d.slewEnd.fld Reg.TIM_STAT.SLEWING = 0 := by
  let a : Dev := { d.keepView with tim := { d.keepView.tim with pend := 0, off := offRound (d.tim.off + d.tim.pend) } }
  have ha : d.slewEnd = a.reRate := rfl
  have htime : a.time = d.time - d.tim.off + offRound (d.tim.off + d.tim.pend) := by
    show offRound (d.tim.off + d.tim.pend) + d.nowPs * (psU + rateScale * d.rateEff) = _
    rw [Dev.time, Dev.timeAt]
    ring
  obtain ⟨hlo, hhi, -⟩ := offRound_rest (d.tim.off + d.tim.pend)
  rw [ha, Dev.reRate_time, htime]
  exact ⟨(Dev.reRate_tim a).2.1, by omega, by omega, Dev.reRate_slewing a⟩

theorem Dev.rtcRun_fld (d : Dev) (n : Nat) {f : Fld} (hf : f.key ≠ Reg.PWR_RTC_SUB.SUB.key ∧ f.key ≠ Reg.PWR_RTC_SEC.SEC.key) :
    (d.rtcRun n).fld f = d.fld f := by
  unfold Dev.rtcRun
  dsimp only
  split
  · rw [Dev.fld_put_ne _ _ hf.2, Dev.fld_put_ne _ _ hf.1]
    rfl
  · rfl

/-- While a correction is worked off its end shows. -/
theorem Dev.advance_slewing (d : Dev) (n : Nat) (hp : d.tim.pend ≠ 0) (h0 : (d.advance n).tim.pend = 0) :
    (d.advance n).fld Reg.TIM_STAT.SLEWING = 0 := by
  have hcount (d : Dev) (n : Nat) : (d.count n).tim.pend = d.tim.pend := by
    simp only [Dev.count, Dev.rtcRun]
    split <;> rfl
  unfold Dev.advance at h0 ⊢
  split at h0
  case isTrue => exact absurd ((hcount d n).symm.trans h0) hp
  case isFalse h =>
    rw [if_neg h]
    dsimp only at h0 ⊢
    split at h0
    case isTrue hn =>
      rw [if_pos hn]
      unfold Dev.iff at h0 ⊢
      split at h0
      case isTrue hz =>
        rw [if_pos hz]
        exact (Dev.slewEnd_spec _).2.2.2
      case isFalse hz => exact absurd (beq_iff_eq.2 h0) hz
    case isFalse hn =>
      rw [if_neg hn]
      refine (Dev.rtcRun_fld _ _ (by decide)).trans ?_
      exact (Dev.slewEnd_spec _).2.2.2

/-! ### Arming a sample -/

/-- No sample waits. -/
def Dev.todGone (d : Dev) : Dev := { d with tim := { d.tim with tod := none } }

/-- A count of the time base and its event. -/
theorem Dev.countEvent_sets (d : Dev) (k : Nat) {f : Fld} (hf : f.w = 1) (hk : f.key ≠ (Reg.TIM_CNT.COUNT k).key) :
    d.Sets ((d.bump (Reg.TIM_CNT.COUNT k)).ev f) [(Reg.TIM_CNT.COUNT k, min (2 ^ 32 - 1) (d.fld (Reg.TIM_CNT.COUNT k) + 1)), (f, 1)] := by
  have h := ((Dev.Sets.nil d).bump (Reg.TIM_CNT.COUNT k) (by simp)).put_of_lt f (v := 1) (by rw [hf]; decide) (by simpa using hk)
  exact h.of_mem_iff fun x => (List.reverse_perm [_, _]).mem_iff

theorem Dev.todArm_ahead {d : Dev} (h : d.anyLine = true) {r : Nat} (hr : d.tref = some r) (hf : d.framer r = 2) : d.todArm =
    if sfcAhead (d.wide Reg.TIM_TOD_SFC_LO.SFC Reg.TIM_TOD_SFC_HI.SFC) (d.sfc r) then
      { d with tim := { d.tim with tod := some (d.wide Reg.TIM_TOD_SFC_LO.SFC Reg.TIM_TOD_SFC_HI.SFC,
        (d.wide Reg.TIM_TOD_SEC_LO.SEC Reg.TIM_TOD_SEC_HI.SEC : Nat) * secU + (d.fld Reg.TIM_TOD_NS.NS : Nat) * nsU) } }
    else (d.todGone.bump (Reg.TIM_CNT.COUNT 1)).ev Reg.TIM_EVT.TOD_LATE := by
  unfold Dev.todArm
  rw [h, hr]
  simp only [Bool.not_true, Bool.false_eq_true, if_false, hf, ne_eq, not_true_eq_false]
  rfl

theorem Dev.todArm_miss {d : Dev} (h : d.anyLine = true) (hr : d.tref = none ∨ ∃ r, d.tref = some r ∧ d.framer r ≠ 2) :
    d.todArm = d.todGone.todMiss := by
  unfold Dev.todArm
  rcases hr with hr | ⟨r, hr, hf⟩
  · simp only [h, hr, Bool.not_true, Bool.false_eq_true, if_false]
    rfl
  · simp only [h, hr, Bool.not_true, Bool.false_eq_true, if_false, if_pos hf]
    rfl

theorem Dev.todArm_noLine {d : Dev} (h : d.anyLine = false) : d.todArm = d := by
  unfold Dev.todArm
  rw [h]
  rfl

/-- A sample that is not due leaves everything as it is. -/
theorem Dev.todCapture_other {d : Dev} {n c : Nat} {t : Int} (st : Strobe) (h : d.tim.tod = some (c, t))
    (hn : d.tref ≠ some n ∨ d.framer n ≠ 2 ∨ d.sfc n ≠ c) : d.todCapture n st = d := by
  unfold Dev.todCapture
  rw [h]
  exact if_neg (by tauto)

/-- A sample of a source that is applied: by P, by a step, or not at all. -/
theorem Dev.sampleTake_pend {d : Dev} {x : Int} (h : d.tim.stepGo = some d.tim.ctr ∨ d.on Reg.TIM_CTRL.ARM_STEP = false ∧ ¬ d.sampleBig x) :
    d.sampleTake x = d.setPend x := by
  unfold Dev.sampleTake
  rcases h with h | ⟨ha, hb⟩
  · exact if_pos h
  · by_cases hgo : d.tim.stepGo = some d.tim.ctr
    · exact if_pos hgo
    · rw [if_neg hgo, ha, if_neg Bool.false_ne_true, if_neg fun h => hb ((d.sampleBig_iff x).1 h)]

theorem Dev.sampleTake_big {d : Dev} {x : Int} (hgo : d.tim.stepGo ≠ some d.tim.ctr) (ha : d.on Reg.TIM_CTRL.ARM_STEP = false)
    (hb : d.sampleBig x) : d.sampleTake x = (d.bump (Reg.TIM_CNT.COUNT 3)).ev Reg.TIM_EVT.TOD_BIG := by
  unfold Dev.sampleTake
  rw [if_neg hgo, ha, if_neg Bool.false_ne_true, if_pos ((d.sampleBig_iff x).2 hb)]

/-- A step noted for a STEP_GO of its cycle. -/
def Dev.noteStep (d : Dev) (x : SampleStep) : Dev := { d with tim := { d.tim with stepped := some x } }

theorem Dev.sampleTake_step {d : Dev} {x : Int} (hgo : d.tim.stepGo ≠ some d.tim.ctr) (ha : d.on Reg.TIM_CTRL.ARM_STEP = true) :
    d.sampleTake x = if d.stepOut x then d.stepRefuse else (d.stepAndLatch x).noteStep (d.sampleStep (d.stepAndLatch x) x) := by
  unfold Dev.sampleTake
  rw [if_neg hgo, if_pos ha]
  rfl

/-- Settles O46: arming, capture and evaluation, each by its cases; what applies a sample leaves what was shown of it. -/
theorem timeOfDaySamples : Obligations.TimeOfDaySamples := by
  unfold Obligations.TimeOfDaySamples
  intro s m dt n st hup hu x d0 cnt at_ none_ bump taken shown big far
  have harm : x.poke m Reg.TIM_TOD_ARM.ADR 1#32 = x.todArm := Dev.poke_TIM_TOD_ARM x m 1#32 hu
  refine ⟨fun hl => ⟨fun r hr hf ha => ?_, fun r hr hf ha => ?_, fun hr => ?_⟩, fun hl => ?_, fun h => ?_, fun c t h => ⟨fun h1 h2 h3 => ?_, fun hn => ?_⟩,
    fun h => ?_, fun e h => ?_, fun hp hlt => ?_, fun hp => ?_, fun hp h0 => Dev.advance_slewing x dt hp h0⟩
  · refine .of_main_eq (exec_todArm ..) hup (harm.trans ?_)
    rw [Dev.todArm_ahead hl hr hf, if_pos ha]
  · refine .of_main_eq hup (Dev.countEvent_sets none_ 1 (f := Reg.TIM_EVT.TOD_LATE) rfl (by decide)) (exec_todArm ..) (harm.trans ?_)
    rw [Dev.todArm_ahead hl hr hf, ha]
    rfl
  · exact .of_main_eq hup (Dev.countEvent_sets none_ 2 (f := Reg.TIM_EVT.TOD_MISS) rfl (by decide)) (exec_todArm ..)
      (harm.trans (Dev.todArm_miss hl hr))
  · exact .of_main_eq (exec_todArm ..) hup (harm.trans (Dev.todArm_noLine hl))
  · refine .of_main_eq (exec_todSampleCapture ..) hup ?_
    show d0.todCapture n st = d0
    unfold Dev.todCapture
    rw [h]
  · refine .of_main_eq (exec_todSampleCapture ..) hup ?_
    show d0.todCapture n st = _
    unfold Dev.todCapture
    rw [h]
    exact if_pos ⟨h1, h2, h3⟩
  · exact .of_main_eq (exec_todSampleCapture ..) hup (Dev.todCapture_other st h hn)
  · refine .of_main_eq (exec_todSampleEvaluate ..) hup ?_
    show d0.todEvaluate = d0
    unfold Dev.todEvaluate
    rw [h]
  · have heq := d0.todEvaluate_eq h
    let y := d0.capGone.sampleDone e
    have hshown : ∀ f ∈ shown e, y.fld f.1 = f.2 := (d0.capGone.sampleDone_sets e).1.1
    have hapart : ∀ f ∈ shown e, _ := d0.capGone.sampleFlds_apart e
    have harmed : y.on Reg.TIM_CTRL.ARM_STEP = d0.on Reg.TIM_CTRL.ARM_STEP := congrArg (· != 0) (d0.capGone.sampleDone_fld e (by decide))
    have htime : y.time = d0.time := d0.capGone.sampleDone_time e
    have hbig : y.sampleBig e ↔ big e := by
      unfold Dev.sampleBig
      rw [show y.fld Reg.TIM_MAX_SLEW.MAX_SLEW = d0.fld Reg.TIM_MAX_SLEW.MAX_SLEW from d0.capGone.sampleDone_fld e (by decide)]
    have hout : y.stepOut e = true ↔ far e := by rw [Dev.stepOut_iff, htime]
    refine ⟨fun hs => ?_, fun hs => ⟨fun hc => ?_, fun hgo ha hb => ?_⟩, fun hs hgo ha => ⟨fun hf => ?_, fun hf => ?_⟩⟩
    · exact .of_main_eq hup (d0.capGone.sampleDone_sets e) (exec_todSampleEvaluate ..) (heq.trans (if_neg hs))
    · have htake : y.sampleTake e = y.setPend e := Dev.sampleTake_pend (hc.imp id fun ⟨ha, hb⟩ => ⟨harmed.trans ha, fun h => hb (hbig.1 h)⟩)
      refine .of_main_eq hup ⟨y.setPend_pend e, ?_, (y.setPend_time e).trans htime, fun f hf => ?_⟩ (exec_todSampleEvaluate ..)
        ((heq.trans (if_pos hs)).trans htake)
      · obtain ⟨o, v, ht⟩ := y.setPend_only e
        rw [ht]
        rfl
      · exact (y.setPend_fld e (hapart f hf).2.1).trans (hshown f hf)
    · exact .of_main_eq hup (d0.capGone.sampleDone_then e (k := 3) (f := Reg.TIM_EVT.TOD_BIG) rfl (by decide) (by decide))
        (exec_todSampleEvaluate ..) ((heq.trans (if_pos hs)).trans (Dev.sampleTake_big hgo (harmed.trans ha) (hbig.2 hb)))
    · have htake := Dev.sampleTake_step (d := y) (x := e) hgo (harmed.trans ha)
      rw [if_pos (hout.2 hf)] at htake
      exact .of_main_eq hup (d0.capGone.sampleDone_then e (k := 4) (f := Reg.TIM_EVT.STEP_REFUSED) rfl (by decide) (by decide))
        (exec_todSampleEvaluate ..) ((heq.trans (if_pos hs)).trans htake)
    · have htake := Dev.sampleTake_step (d := y) (x := e) hgo (harmed.trans ha)
      rw [if_neg fun h => hf (hout.1 h)] at htake
      have hst := y.stepAndLatch_stepped e
      obtain ⟨hepoch, -, harm0, -⟩ := hst.shown
      obtain ⟨hlo, hhi, -⟩ := hst.rest
      have hep : y.epoch = d0.epoch := d0.capGone.sampleDone_fld e (by decide)
      rw [htime] at hlo hhi
      refine .of_main_eq (e := (y.stepAndLatch e).noteStep (y.sampleStep (y.stepAndLatch e) e)) hup
        ⟨hst.pend, ?_, hlo, hhi, harm0, hepoch.trans (by rw [hep]), fun f hf => ?_⟩ (exec_todSampleEvaluate ..) ((heq.trans (if_pos hs)).trans htake)
      · obtain ⟨o, v, ht⟩ := hst.only
        show (y.stepAndLatch e).tim.cap = none
        rw [ht]
        rfl
      · obtain ⟨hbelow, hrate, hstep⟩ := hapart f hf
        simp only [List.mem_cons, List.not_mem_nil, or_false, not_or] at hstep
        obtain ⟨h1, h2, h3, h4⟩ := hstep
        refine (hst.flds f.1 hbelow hrate).trans ?_
        rw [Dev.stepSet_fld, if_neg h1, if_neg h2, if_neg h3, if_neg h4, hshown f hf]
  · exact .of_main_eq hup d0.slewEnd_spec (exec_slewComplete ..) (if_pos ⟨hp, hlt⟩)
  · exact .of_main_eq (exec_slewComplete ..) hup (if_neg fun h => hp.elim h.1 fun hle => absurd h.2 (Nat.not_lt.2 hle))

variable {d e : Dev}

/-! ### The PLL (R259) -/

/-- The fields of a change of PLL state. -/
def pllFlds (t : Nat) : List (Fld × Nat) := [(Reg.TIM_PLL_STAT.STATE, t), (Reg.TIM_EVT.PLL_CHG, 1)]

theorem Dev.pllTo_sets (d : Dev) {t : Nat} (ht : t < 4) (h : d.fld Reg.TIM_PLL_STAT.STATE ≠ t) : d.Sets (d.pllTo t) (pllFlds t) := by
  unfold Dev.pllTo
  rw [if_neg h]
  have hset := ((Dev.Sets.nil d).put_of_lt Reg.TIM_PLL_STAT.STATE (v := t) ht (by simp)).put Reg.TIM_EVT.PLL_CHG 1
    (by simp only [List.map_cons, List.map_nil]; decide)
  exact hset.of_mem_iff fun x => (List.reverse_perm [_, _]).mem_iff

theorem Dev.pllTo_same {d : Dev} {t : Nat} (h : d.fld Reg.TIM_PLL_STAT.STATE = t) : d.pllTo t = d := if_pos h

/-- The state that the loss of the reference leads to. -/
def pllLost (s : Nat) : Nat := if s = pllLocking then pllFree else if s = pllLocked then pllHold else s

/-- REF_OK as the reference now stands. -/
def Dev.refShown (d : Dev) : Dev := d.put Reg.TIM_PLL_STAT.REF_OK (bit d.refOk)

theorem Dev.refShown_sets (d : Dev) : d.Sets d.refShown [(Reg.TIM_PLL_STAT.REF_OK, bit d.refOk)] :=
  (Dev.Sets.nil d).put_of_lt _ (bit_lt _) (by simp)

theorem Dev.refShown_state (d : Dev) : d.refShown.fld Reg.TIM_PLL_STAT.STATE = d.fld Reg.TIM_PLL_STAT.STATE :=
  Dev.fld_put_ne _ _ (by decide)

theorem Dev.pllEval_free {d : Dev} (h : d.pllRef = 3) : d.pllEval = d.refShown.pllTo pllFree := if_pos h

theorem Dev.pllEval_ok {d : Dev} (h : d.pllRef ≠ 3) (hok : d.refOk = true) : d.pllEval = d.refShown := by
  unfold Dev.pllEval
  dsimp only
  rw [if_neg h, if_pos hok]
  rfl

theorem Dev.pllEval_lost {d : Dev} (h : d.pllRef ≠ 3) (hok : d.refOk = false) :
    d.pllEval = d.refShown.pllTo (pllLost (d.fld Reg.TIM_PLL_STAT.STATE)) := by
  unfold Dev.pllEval pllLost
  dsimp only
  rw [if_neg h, hok, if_neg Bool.false_ne_true]
  by_cases h1 : d.fld Reg.TIM_PLL_STAT.STATE = pllLocking
  · rw [if_pos h1, if_pos h1, ← hok]
    rfl
  · rw [if_neg h1, if_neg h1]
    by_cases h2 : d.fld Reg.TIM_PLL_STAT.STATE = pllLocked
    · rw [if_pos h2, if_pos h2, ← hok]
      rfl
    · rw [if_neg h2, if_neg h2, Dev.pllTo_same d.refShown_state, ← hok]
      rfl

theorem Dev.pllTo_state (d : Dev) {t : Nat} (ht : t < 4 ∨ d.fld Reg.TIM_PLL_STAT.STATE = t) : (d.pllTo t).fld Reg.TIM_PLL_STAT.STATE = t := by
  by_cases h : d.fld Reg.TIM_PLL_STAT.STATE = t
  · rw [Dev.pllTo_same h, h]
  · exact (d.pllTo_sets (ht.resolve_right h) h).1.1 (_, t) List.mem_cons_self

theorem pllLost_lt (s : Nat) : pllLost s < 4 ∨ s = pllLost s := by
  unfold pllLost
  split
  · exact .inl (by decide)
  · split
    · exact .inl (by decide)
    · exact .inr rfl

theorem Dev.pllEval_state_lost {d : Dev} (h : d.pllRef ≠ 3) (hok : d.refOk = false) :
    d.pllEval.fld Reg.TIM_PLL_STAT.STATE = pllLost (d.fld Reg.TIM_PLL_STAT.STATE) := by
  rw [Dev.pllEval_lost h hok]
  exact Dev.pllTo_state _ ((pllLost_lt _).imp id fun h => d.refShown_state.trans h)

/-- A change of state after REF_OK is shown. -/
theorem Dev.refShown_pllTo (d : Dev) {t : Nat} (ht : t < 4) (h : d.fld Reg.TIM_PLL_STAT.STATE ≠ t) :
    d.Sets (d.refShown.pllTo t) ((Reg.TIM_PLL_STAT.REF_OK, bit d.refOk) :: pllFlds t) :=
  (d.refShown_sets.trans (d.refShown.pllTo_sets ht (d.refShown_state ▸ h)) (by simp [pllFlds]; decide)).of_mem_iff fun x => by simp

/-- The fields that a look at the reference may set. -/
theorem Dev.pllEval_fld (d : Dev) {f : Fld} (hf : f.key ∉ Reg.TIM_PLL_STAT.REF_OK.key :: (pllFlds 0).map (·.1.key)) : d.pllEval.fld f = d.fld f := by
  have hto (t : Nat) : (d.refShown.pllTo t).fld f = d.fld f := by
    have hne : f.key ≠ Reg.TIM_PLL_STAT.REF_OK.key ∧ f.key ≠ Reg.TIM_PLL_STAT.STATE.key ∧ f.key ≠ Reg.TIM_EVT.PLL_CHG.key := by
      simpa [pllFlds] using hf
    have hshown : d.refShown.fld f = d.fld f := Dev.fld_put_ne _ _ hne.1
    unfold Dev.pllTo
    split
    · exact hshown
    · exact ((Dev.fld_put_ne _ _ hne.2.2).trans (Dev.fld_put_ne _ _ hne.2.1)).trans hshown
  by_cases h3 : d.pllRef = 3
  · rw [Dev.pllEval_free h3, hto]
  · by_cases hok : d.refOk = true
    · rw [Dev.pllEval_ok h3 hok]
      exact Dev.fld_put_ne _ _ (List.ne_of_not_mem_cons hf)
    · rw [Dev.pllEval_lost h3 (Bool.eq_false_iff.2 hok), hto]

theorem Dev.refOk_of_ref {d : Dev} (h : 2 ≤ d.pllRef) : d.refOk = false := by
  unfold Dev.refOk
  rw [if_neg (by omega), if_neg (by omega)]

theorem Dev.pllQualified_idle {d : Dev}
    (h : d.refOk = false ∨ (d.fld Reg.TIM_PLL_STAT.STATE ≠ pllFree ∧ d.fld Reg.TIM_PLL_STAT.STATE ≠ pllHold)) : d.pllQualified = d := by
  unfold Dev.pllQualified
  dsimp only
  rcases h with h | ⟨h1, h2⟩
  · rw [h, if_neg (by simp), if_neg (by simp)]
  · rw [if_neg fun h => h1 h.2, if_neg fun h => h2 h.2]

theorem Dev.pllQualified_free {d : Dev} (hok : d.refOk = true) (h : d.fld Reg.TIM_PLL_STAT.STATE = pllFree) :
    d.pllQualified = d.pllTo pllLocking := if_pos ⟨hok, h⟩

theorem Dev.pllQualified_line {d : Dev} {n : Nat} (hok : d.refOk = true) (h : d.fld Reg.TIM_PLL_STAT.STATE = pllHold) (hr : d.pllRef = 0)
    (ht : d.tref = some n) : d.pllQualified = (d.lineBuildOut n).pllTo pllLocking := by
  have hfree : ¬ (d.refOk = true ∧ d.fld Reg.TIM_PLL_STAT.STATE = pllFree) := fun hf => absurd (h.symm.trans hf.2) (by decide)
  unfold Dev.pllQualified
  simp only [if_neg hfree, if_pos (And.intro hok h), if_pos hr, ht]

theorem Dev.pllQualified_clock {d : Dev} (hok : d.refOk = true) (h : d.fld Reg.TIM_PLL_STAT.STATE = pllHold) (hr : d.pllRef ≠ 0) :
    d.pllQualified = d.clockBuildOut.pllTo pllLocking := by
  have hfree : ¬ (d.refOk = true ∧ d.fld Reg.TIM_PLL_STAT.STATE = pllFree) := fun hf => absurd (h.symm.trans hf.2) (by decide)
  unfold Dev.pllQualified
  simp only [if_neg hfree, if_pos (And.intro hok h), if_neg hr]

/-! ### Pulses (R262) -/

/-- The fields of which a sample that is applied changes none. -/
def sampleKeys : List Nat := rateFlds.map Fld.key ++ [Reg.TIM_EVT.STEPPED.key, Reg.TIM_CTRL.ARM_STEP.key, Reg.TIM_STAT.TIME_SET.key,
  Reg.TIM_STAT.EPOCH.key, (Reg.TIM_CNT.COUNT 3).key, (Reg.TIM_CNT.COUNT 4).key, Reg.TIM_EVT.STEP_REFUSED.key, Reg.TIM_EVT.TOD_BIG.key]

theorem Dev.sampleTake_fld (d : Dev) (x : Int) {f : Fld} (hb : f.key / 32 < 0x100000) (hf : f.key ∉ sampleKeys) : (d.sampleTake x).fld f = d.fld f := by
  simp only [sampleKeys, List.mem_append, List.mem_cons, List.not_mem_nil, or_false, not_or] at hf
  obtain ⟨hrate, h1, h2, h3, h4, h5, h6, h7, h8⟩ := hf
  by_cases hgo : d.tim.stepGo = some d.tim.ctr ∨ d.on Reg.TIM_CTRL.ARM_STEP = false ∧ ¬ d.sampleBig x
  · rw [Dev.sampleTake_pend hgo, Dev.setPend_fld _ _ hrate]
  · have hgo' : d.tim.stepGo ≠ some d.tim.ctr := fun h => hgo (.inl h)
    cases ha : d.on Reg.TIM_CTRL.ARM_STEP with
    | false =>
      rw [Dev.sampleTake_big hgo' ha (by by_contra hb; exact hgo (.inr ⟨ha, hb⟩))]
      exact (d.countEvent_sets 3 (f := Reg.TIM_EVT.TOD_BIG) rfl (by decide)).1.fld_eq (by simp [h5, h8])
    | true =>
      rw [Dev.sampleTake_step hgo' ha]
      split
      · exact d.stepRefuse_sets.1.fld_eq (by simp [h6, h7])
      · refine ((d.stepAndLatch_stepped x).flds f hb hrate).trans ?_
        rw [Dev.stepSet_fld, if_neg h1, if_neg h2, if_neg h3, if_neg h4]

/-- The fields that a transfer parameter's consequences may set. -/
def ddsKeys : List Nat := rateFlds.map Fld.key ++ [Reg.TIM_XFER_DDS.D_DS.key, Reg.TIM_EVT.PATH_CHANGE.key, (Reg.TIM_CNT.COUNT 6).key]

/-- The downstream delay taken up anew moves no time. -/
theorem Dev.trefEqd_time (d : Dev) (path : Bool) : (d.trefEqd path).time = d.time ∧ ∀ f : Fld, f.key ∉ ddsKeys → (d.trefEqd path).fld f = d.fld f := by
  have hiff (b : Bool) (e : Dev) (g : Dev → Dev)
      (hg : ∀ e : Dev, (g e).time = e.time ∧ ∀ f : Fld, f.key ∉ ddsKeys → (g e).fld f = e.fld f)
      (he : e.time = d.time ∧ ∀ f : Fld, f.key ∉ ddsKeys → e.fld f = d.fld f) :
      (e.iff b g).time = d.time ∧ ∀ f : Fld, f.key ∉ ddsKeys → (e.iff b g).fld f = d.fld f := by
    unfold Dev.iff
    split
    · exact ⟨(hg e).1.trans he.1, fun f hf => ((hg e).2 f hf).trans (he.2 f hf)⟩
    · exact he
  unfold Dev.trefEqd
  split
  · unfold Dev.ddsRecompute
    refine hiff _ _ _ (fun e => ⟨?_, fun f hf => ?_⟩) (hiff _ _ _ (fun e => ⟨e.setPend_time _, fun f hf => e.setPend_fld _ ?_⟩) ⟨?_, fun f hf => ?_⟩)
    · exact (Dev.time_put _ (by decide) _).trans (Dev.time_put _ (by decide) _)
    · simp only [ddsKeys, List.mem_append, List.mem_cons, List.not_mem_nil, or_false, not_or] at hf
      exact (Dev.fld_put_ne _ _ hf.2.2.2).trans (Dev.fld_put_ne _ _ hf.2.2.1)
    · exact fun hm => hf (List.mem_append_left _ hm)
    · exact Dev.time_put _ (by decide) _
    · simp only [ddsKeys, List.mem_append, List.mem_cons, List.not_mem_nil, or_false, not_or] at hf
      exact Dev.fld_put_ne _ _ hf.2.1
  · exact ⟨rfl, fun _ _ => rfl⟩

/-- A write of TIM.PLL_CTRL before the reference is looked at. -/
def Dev.pllSet (d : Dev) (v : Nat) : Dev :=
  (((d.put Reg.TIM_PLL_CTRL.REF v).put Reg.TIM_PLL_CTRL.RISER_P (bits v 2 2)).put Reg.TIM_PLL_CTRL.BW (bits v 4 2)).put
    Reg.TIM_PLL_CTRL.QUAL (bits v 6 8)

theorem Dev.pllSet_flds (d : Dev) (v : Nat) : (d.pllSet v).fld Reg.TIM_PLL_CTRL.REF = v % 4 ∧
    (d.pllSet v).fld Reg.TIM_PLL_CTRL.RISER_P = bits v 2 2 ∧ (d.pllSet v).fld Reg.TIM_PLL_CTRL.BW = bits v 4 2 ∧
    (d.pllSet v).fld Reg.TIM_PLL_CTRL.QUAL = bits v 6 8 ∧
    (d.pllSet v).fld Reg.TIM_PLL_STAT.STATE = d.fld Reg.TIM_PLL_STAT.STATE := by
  refine ⟨?_, ?_, ?_, ?_, ?_⟩ <;> simp +decide only [Dev.pllSet, Dev.fld_put, if_true, if_false]
  · exact rfl
  · exact Nat.mod_eq_of_lt (bits_lt ..)
  · exact Nat.mod_eq_of_lt (bits_lt ..)
  · exact Nat.mod_eq_of_lt (bits_lt ..)

theorem Dev.pllSet_ref (d : Dev) {v : Nat} (h : 2 ≤ v % 4) : (d.pllSet v).pllRef = v % 4 := by
  unfold Dev.pllRef
  rw [(d.pllSet_flds v).1]
  exact if_neg fun h0 => by omega

/-- A pulse in, shown with its stamp. -/
def Dev.ppsShown (d : Dev) (c : Stamp) : Dev := (d.putWords Reg.TIM_PPS_IN_TS.TS c.words).ev Reg.TIM_EVT.PPS_IN

theorem Dev.ppsShown_eq (d : Dev) (c : Stamp) :
    d.ppsShown c = (d.puts ((List.range 4).map fun i => (Reg.TIM_PPS_IN_TS.TS i, c.words.getD i 0))).ev Reg.TIM_EVT.PPS_IN := by
  rw [Dev.puts, Dev.each, List.foldl_map]
  rfl

theorem Dev.ppsShown_flds (d : Dev) (c : Stamp) : (d.ppsShown c).fld Reg.TIM_EVT.PPS_IN = 1 ∧
    ∀ i < 4, (d.ppsShown c).fld (Reg.TIM_PPS_IN_TS.TS i) = c.words.getD i 0 % 2 ^ 32 := by
  have hnd : (((List.range 4).map fun i => (Reg.TIM_PPS_IN_TS.TS i, c.words.getD i 0)).map (·.1.key)).Nodup :=
    (by decide : ((List.range 4).map fun i => (Reg.TIM_PPS_IN_TS.TS i).key).Nodup)
  refine ⟨Dev.fld_put_same .., fun i hi => ?_⟩
  rw [Dev.ppsShown_eq]
  refine (Dev.fld_put_ne _ _ ((by decide : ∀ i < 4, (Reg.TIM_PPS_IN_TS.TS i).key ≠ Reg.TIM_EVT.PPS_IN.key) i hi)).trans ?_
  exact Dev.puts_fld hnd d (x := (Reg.TIM_PPS_IN_TS.TS i, c.words.getD i 0))
    (List.mem_map_of_mem (f := fun i => (Reg.TIM_PPS_IN_TS.TS i, c.words.getD i 0)) (List.mem_range.2 hi))

theorem Dev.ppsShown_rest (d : Dev) (c : Stamp) : { d.ppsShown c with regs := d.regs } = d := by
  have hev (e : Dev) : { e.ev Reg.TIM_EVT.PPS_IN with regs := d.regs } = { e with regs := d.regs } := rfl
  rw [Dev.ppsShown_eq, hev]
  exact d.puts_rest _

/-- Any other field of the registers. -/
theorem Dev.ppsShown_fld (d : Dev) (c : Stamp) {f : Fld} (hts : ∀ i < 4, f.key ≠ (Reg.TIM_PPS_IN_TS.TS i).key)
    (hev : f.key ≠ Reg.TIM_EVT.PPS_IN.key) : (d.ppsShown c).fld f = d.fld f := by
  rw [Dev.ppsShown_eq]
  refine (Dev.fld_put_ne _ _ hev).trans (Dev.puts_fld_ne d fun x hx => ?_)
  obtain ⟨i, hi, rfl⟩ := List.mem_map.1 hx
  exact (hts i (List.mem_range.1 hi)).symm

theorem Dev.sampleFrom_eq (d : Dev) {src : Nat} (x : Int) (h : d.src = src) : d.sampleFrom src x = (d.sampleShow x).sampleTake x := if_pos h

theorem Dev.sampleShow_flds (d : Dev) (x : Int) : (d.sampleShow x).fld Reg.TIM_TOD_ERR.VALUE = unsigned 32 (sat32 (roundPs x)) ∧
    (d.sampleShow x).fld (Reg.TIM_CNT.COUNT 0) = min (2 ^ 32 - 1) (d.fld (Reg.TIM_CNT.COUNT 0) + 1) ∧
    ∀ f : Fld, f.key ≠ Reg.TIM_TOD_ERR.VALUE.key → f.key ≠ (Reg.TIM_CNT.COUNT 0).key → (d.sampleShow x).fld f = d.fld f := by
  have h := ((Dev.Sets.nil d).put_of_lt Reg.TIM_TOD_ERR.VALUE (unsigned_lt 32 (sat32 (roundPs x))) (by simp)).bump (Reg.TIM_CNT.COUNT 0)
    (by simp only [List.map_cons, List.map_nil]; decide)
  exact ⟨h.1.1 _ (List.mem_cons_of_mem _ List.mem_cons_self), h.1.1 _ List.mem_cons_self, fun f h1 h2 => h.1.fld_eq (by simp [h1, h2])⟩

/-- A pulse in that is enabled, as it acts for a source. -/
theorem Dev.ppsIn_spec (d : Dev) (rising : Bool) (st : Strobe) (h : d.on Reg.TIM_CTRL.PPS_IN_EN = true)
    (hr : rising ≠ d.on Reg.TIM_CTRL.PPS_IN_POL) :
    let c := d.capture st (-4100 * psU)
    let x := (2 * c.time + secU) / (2 * secU) * secU - c.time
    (d.ppsIn rising st).fld Reg.TIM_EVT.PPS_IN = 1 ∧
    (∀ i < 4, (d.ppsIn rising st).fld (Reg.TIM_PPS_IN_TS.TS i) = c.words.getD i 0 % 2 ^ 32) ∧
    (d.src = 3 → (d.ppsIn rising st).fld Reg.TIM_TOD_ERR.VALUE = unsigned 32 (sat32 (roundPs x)) ∧
      (d.ppsIn rising st).fld (Reg.TIM_CNT.COUNT 0) = min (2 ^ 32 - 1) (d.fld (Reg.TIM_CNT.COUNT 0) + 1)) ∧
    (d.src ≠ 3 → { d.ppsIn rising st with regs := d.regs } = d) := by
  intro c x
  obtain ⟨hev, hts⟩ := d.ppsShown_flds c
  have hin : d.ppsIn rising st = (d.ppsShown c).sampleFrom 3 x := by
    unfold Dev.ppsIn
    rw [if_pos (by simp [h, hr])]
    rfl
  have hsrc : (d.ppsShown c).src = d.src := by
    unfold Dev.src
    rw [Dev.ppsShown_fld d c (by decide) (by decide)]
    have hrest := congrArg Dev.chip (d.ppsShown_rest c)
    have hchip : (d.ppsShown c).chip = d.chip := hrest
    rw [Dev.anyLine, Dev.anyLine, hchip]
  by_cases h3 : d.src = 3
  · obtain ⟨hval, hcnt, hother⟩ := (d.ppsShown c).sampleShow_flds x
    rw [hin, Dev.sampleFrom_eq _ x (hsrc.trans h3)]
    refine ⟨?_, fun i hi => ?_, fun _ => ⟨?_, ?_⟩, fun hn => absurd h3 hn⟩
    · rw [Dev.sampleTake_fld _ _ (by decide) (by decide), hother _ (by decide) (by decide), hev]
    · have hkey : ∀ i < 4, (Reg.TIM_PPS_IN_TS.TS i).key / 32 < 0x100000 ∧ (Reg.TIM_PPS_IN_TS.TS i).key ∉ sampleKeys ∧
          (Reg.TIM_PPS_IN_TS.TS i).key ≠ Reg.TIM_TOD_ERR.VALUE.key ∧ (Reg.TIM_PPS_IN_TS.TS i).key ≠ (Reg.TIM_CNT.COUNT 0).key := by decide
      obtain ⟨h1, h2, h4, h5⟩ := hkey i hi
      rw [Dev.sampleTake_fld _ _ h1 h2, hother _ h4 h5, hts i hi]
    · rw [Dev.sampleTake_fld _ _ (by decide) (by decide), hval]
    · rw [Dev.sampleTake_fld _ _ (by decide) (by decide), hcnt, Dev.ppsShown_fld d c (by decide) (by decide)]
  · have hnot : (d.ppsShown c).sampleFrom 3 x = d.ppsShown c := if_neg fun h' => h3 (hsrc.symm.trans h')
    rw [hin, hnot]
    exact ⟨hev, hts, fun h' => absurd h' h3, fun _ => d.ppsShown_rest c⟩

/-- When the time passes OUT_OFS in a cycle. -/
theorem Dev.ppsPasses_iff (d : Dev) : d.ppsPasses = true ↔ (d.viewAt (d.tim.ctr - 1)).epoch = d.epoch ∧
    (((d.viewAt (d.tim.ctr - 1)).at_ ((d.nowPs - 800 : Nat) : Int)) - (d.ppsOfs : Int) * nsU) / secU ≠ (d.time - (d.ppsOfs : Int) * nsU) / secU := by
  simp only [Dev.ppsPasses, Bool.and_eq_true, beq_iff_eq, bne_iff_ne]

/-- Settles O47: the PLL's transitions by the state and the reference, and the pulses by their enables. -/
theorem pllAndPps : Obligations.PllAndPps := by
  unfold Obligations.PllAndPps
  intro s m dt v rising asym st hup hu x d0 state go ofs before q width now
  have hstate : ∀ {t u : Nat}, state = t → t ≠ u → x.fld Reg.TIM_PLL_STAT.STATE ≠ u := fun h hne hu => hne (h.symm.trans hu)
  have hpll : x.poke m Reg.TIM_PLL_CTRL.ADR v = (x.pllSet v.toNat).pllEval := Dev.poke_TIM_PLL_CTRL x m v hu
  refine ⟨fun hok hs => ?_, fun r hr hok ht hs => ?_, fun hr hok hs => ?_, fun h => ?_, fun hr => ⟨Dev.refOk_of_ref hr.ge, ?_, ?_⟩, fun hok hs => ?_,
    fun h => ?_, fun hr hok => ?_, fun hr hok => ?_, fun hr => ?_, ?_, ?_, fun hn => ?_, fun hn => ?_, ?_, fun h => ?_, fun h hr => ?_, fun d corr => ?_⟩
  · exact .of_main_eq hup (x.pllTo_sets (by decide) (hstate hs (by decide))) (exec_pllRefQualified ..) (Dev.pllQualified_free hok hs)
  · refine .of_main_eq hup ((x.lineBuildOut r).pllTo_sets (by decide) (hstate hs (by decide))) (exec_pllRefQualified ..)
      (Dev.pllQualified_line hok hs hr ht)
  · have heq : x.pllQualified = x.clockBuildOut.pllTo pllLocking := Dev.pllQualified_clock hok hs (by omega)
    have hset := x.clockBuildOut.pllTo_sets (t := pllLocking) (by decide) (hstate hs (by decide))
    have hrest := congrArg (fun z : Dev => z.tim.buildOut) hset.2
    exact .of_main_eq hup ⟨hset.1, _, hrest, Nat.mod_lt _ (by decide)⟩ (exec_pllRefQualified ..) heq
  · exact .of_main_eq (exec_pllRefQualified ..) hup (Dev.pllQualified_idle h)
  · exact .of_main_eq (exec_pllRefQualified ..) hup (Dev.pllQualified_idle (.inl (Dev.refOk_of_ref hr.ge)))
  · exact .of_main_eq hup (Dev.pllEval_state_lost (by omega) (Dev.refOk_of_ref hr.ge)) (exec_pllRefUnqualified ..) rfl
  · exact .of_main_eq hup (x.pllTo_sets (by decide) (hstate hs (by decide))) (exec_pllLockAchieved ..) (if_pos ⟨hok, hs⟩)
  · exact .of_main_eq (exec_pllLockAchieved ..) hup (if_neg fun hh => h.elim (fun h => Bool.false_ne_true (h.symm.trans hh.1)) fun h => h hh.2)
  · have hbit : bit x.refOk = 0 := by rw [hok]; rfl
    refine .of_main_eq hup ?_ (exec_pllRefUnqualified ..) (Dev.pllEval_lost hr.ne hok)
    rw [← hbit]
    unfold pllLost
    by_cases h1 : state = pllLocking
    · rw [if_pos h1, if_pos h1]
      exact x.refShown_pllTo (by decide) (hstate h1 (by decide))
    · rw [if_neg h1, if_neg h1]
      by_cases h2 : state = pllLocked
      · rw [if_pos h2, if_pos h2]
        exact x.refShown_pllTo (by decide) (hstate h2 (by decide))
      · rw [if_neg h2, if_neg h2, Dev.pllTo_same x.refShown_state]
        exact x.refShown_sets
  · have hbit : bit x.refOk = 1 := by rw [hok]; rfl
    refine .of_main_eq hup ?_ (exec_pllRefUnqualified ..) (Dev.pllEval_ok hr.ne hok)
    rw [← hbit]
    exact x.refShown_sets
  · have hbit : bit x.refOk = 0 := by rw [Dev.refOk_of_ref (by omega)]; rfl
    refine .of_main_eq hup ?_ (exec_pllRefUnqualified ..) (Dev.pllEval_free hr)
    rw [← hbit]
    by_cases h : state = pllFree
    · rw [if_pos h, Dev.pllTo_same (x.refShown_state.trans h)]
      exact x.refShown_sets
    · rw [if_neg h]
      exact x.refShown_pllTo (by decide) h
  · obtain ⟨href, hriser, hbw, hqual, hst⟩ := x.pllSet_flds v.toNat
    refine .of_main_eq hup ⟨?_, ?_, ?_, ?_, fun h2 => ?_, fun h3 => ?_⟩ (exec_pllCtrlWrite ..) hpll
    · exact (Dev.pllEval_fld _ (by decide)).trans href
    · exact (Dev.pllEval_fld _ (by decide)).trans hriser
    · exact (Dev.pllEval_fld _ (by decide)).trans hbw
    · exact (Dev.pllEval_fld _ (by decide)).trans hqual
    · have hr := x.pllSet_ref h2.ge
      rw [Dev.pllEval_state_lost (by omega) (Dev.refOk_of_ref (by omega)), hst]
      rfl
    · have hr := x.pllSet_ref (v := v.toNat) (by omega)
      rw [Dev.pllEval_free (hr.trans h3)]
      exact Dev.pllTo_state _ (.inl (by decide))
  · cases asym with
    | true =>
      obtain ⟨ht, hf⟩ := (x.put Reg.TIM_XFER_ASYM.ASYM v.toNat).trefEqd_time false
      refine .of_main_eq hup ⟨ht.trans (Dev.time_put _ (by decide) _), fun _ => ?_, fun h => nomatch h⟩ (exec_xferParamWrite ..)
        (Dev.poke_TIM_XFER_ASYM x m v hu)
      exact (hf _ (by decide)).trans ((Dev.fld_put_same ..).trans (Nat.mod_eq_of_lt v.isLt))
    | false =>
      obtain ⟨ht, hf⟩ := (x.put Reg.TIM_XFER_EQD0.EQD_ZERO v.toNat).trefEqd_time false
      refine .of_main_eq hup ⟨ht.trans (Dev.time_put _ (by decide) _), (fun h => nomatch h), fun _ => ?_⟩ (exec_xferParamWrite ..)
        (Dev.poke_TIM_XFER_EQD0 x m v hu)
      exact (hf _ (by decide)).trans (Dev.fld_put_same ..)
  · exact .of_main_eq (exec_ppsOutPulse ..) hup (if_pos (by
      obtain ⟨h1, h2, h3, h4⟩ := hn
      simp only [Bool.and_eq_true]
      exact ⟨⟨h1, h2⟩, (Dev.ppsPasses_iff d0).2 ⟨h3, h4⟩⟩))
  · exact .of_main_eq (exec_ppsOutPulse ..) hup (if_neg fun h => hn (by
      simp only [Bool.and_eq_true] at h
      obtain ⟨⟨h1, h2⟩, h3⟩ := h
      exact ⟨h1, h2, (Dev.ppsPasses_iff d0).1 h3⟩))
  · exact .of_main_eq (exec_ppsWidthExpiry ..) hup rfl
  · refine .of_main_eq (exec_ppsInEdge ..) hup (if_neg fun hh => ?_)
    obtain ⟨h1, h2⟩ := Bool.and_eq_true_iff.1 hh
    exact h.elim (fun h => Bool.false_ne_true (h.symm.trans h1)) fun h => bne_iff_ne.1 h2 h
  · exact .of_main_eq hup (d0.ppsIn_spec rising st h hr) (exec_ppsInEdge ..) rfl
  · refine ⟨rfl, fun h => ?_⟩
    show d.viewAt _ = _
    unfold Dev.viewAt
    rw [h]
    rfl

end Sys2Proof.Machine
end

section
/-!
PROOFS. The staging operations of a configuration generation (R177, R178): what the active and the staging generation see of a
location before and after them.
-/
namespace Sys2Proof.Machine

variable {d e : Dev} {act stg : Nat}

/-! ### What a tag sees of a location -/

theorem rel_self (a : Nat) : rel a a = 0 := by unfold rel; omega

/-- A version that starts at the staging tag is ahead of the active one. -/
theorem Ver.not_visible_of_isStaged (h : 0 < rel act stg) {v : Ver} (hv : v.isStaged stg = true) : v.visible act act = false := by
  simp only [Ver.isStaged, Bool.and_eq_true, beq_iff_eq] at hv
  simp only [Ver.visible, hv.1, hv.2, rel_self, Bool.not_true, Bool.false_or, Bool.and_eq_false_iff, decide_eq_false_iff_not]
  exact .inl (by omega)

/-- A version that starts at the staging tag and is open is visible to it. -/
theorem Ver.visible_of_isStaged {v : Ver} (hv : v.isStaged stg = true) (hu : v.uv = false) : v.visible act stg = true := by
  simp only [Ver.isStaged, Bool.and_eq_true, beq_iff_eq] at hv
  simp [Ver.visible, hv.1, hv.2, hu]

/-- A version that ends at the staging tag is not visible to it. -/
theorem Ver.not_visible_of_endsAt {v : Ver} (hv : v.endsAt stg = true) : v.visible act stg = false := by
  simp only [Ver.endsAt, Bool.and_eq_true, beq_iff_eq] at hv
  simp [Ver.visible, hv.1, hv.2]

/-- Its end at the staging tag is none to the active tag. -/
theorem Ver.visible_reopen (h : 0 < rel act stg) {v : Ver} (hv : v.endsAt stg = true) :
    ({ v with uv := false, untilT := 0 } : Ver).visible act act = v.visible act act := by
  simp only [Ver.endsAt, Bool.and_eq_true, beq_iff_eq] at hv
  simp [Ver.visible, hv.1, hv.2, rel_self, h]

@[simp] theorem Ver.endAt_data (v : Ver) (act stg : Nat) : (v.endAt act stg).data = v.data := by unfold Ver.endAt; split <;> rfl

@[simp] theorem Ver.endAt_fromTag (v : Ver) (act stg : Nat) : (v.endAt act stg).fromTag = v.fromTag := by unfold Ver.endAt; split <;> rfl

@[simp] theorem Ver.endAt_isStaged (v : Ver) (act stg : Nat) : (v.endAt act stg).isStaged stg = v.isStaged stg := by
  unfold Ver.endAt
  split <;> rfl

/-- A version of another tag that the active one sees ends at the staging tag. -/
theorem Ver.endAt_endsAt {v : Ver} (ha : v.visible act act = true) (hs : v.isStaged stg = false) : (v.endAt act stg).endsAt stg = true := by
  unfold Ver.endAt
  rw [if_pos (by simp [ha, hs])]
  simp [Ver.endsAt]

theorem Ver.endAt_other {v : Ver} (ha : v.visible act act = false) : v.endAt act stg = v := if_neg (by simp [ha])

/-- The active tag sees a version that ends at the staging tag as before. -/
theorem Ver.endAt_visible (h : 0 < rel act stg) (v : Ver) : (v.endAt act stg).visible act act = v.visible act act := by
  unfold Ver.endAt
  split
  case isTrue hv =>
    simp only [Ver.visible, Bool.and_eq_true, rel_self] at hv ⊢
    simp [hv.1.1, hv.1.2, h]
  case isFalse => rfl

theorem seen_map {vs : List Ver} {g : Ver → Ver} {t : Nat} (hv : ∀ v ∈ vs, (g v).visible act t = v.visible act t)
    (hd : ∀ v ∈ vs, v.visible act t = true → (g v).data = v.data) : seen (vs.map g) act t = seen vs act t := by
  unfold seen
  induction vs with
  | nil => rfl
  | cons v vs ih =>
    have ih := ih (fun w hw => hv w (List.mem_cons_of_mem _ hw)) fun w hw => hd w (List.mem_cons_of_mem _ hw)
    rw [List.map_cons, List.find?_cons, List.find?_cons, hv v List.mem_cons_self]
    cases h : v.visible act t with
    | true => simp [hd v List.mem_cons_self h]
    | false => exact ih

theorem seen_filter {vs : List Ver} {p : Ver → Bool} {t : Nat} (hp : ∀ v ∈ vs, v.visible act t = true → p v = true) :
    seen (vs.filter p) act t = seen vs act t := by
  unfold seen
  induction vs with
  | nil => rfl
  | cons v vs ih =>
    have ih := ih fun w hw => hp w (List.mem_cons_of_mem _ hw)
    cases h : v.visible act t with
    | true => rw [List.filter_cons_of_pos (hp v List.mem_cons_self h), List.find?_cons, List.find?_cons, h]
    | false =>
      rw [List.find?_cons, h]
      by_cases hpv : p v = true
      · rw [List.filter_cons_of_pos hpv, List.find?_cons, h]
        exact ih
      · rw [List.filter_cons_of_neg hpv]
        exact ih

/-- A location all of whose visible versions hold the same data, and that has one. -/
theorem seen_of_forall {vs : List Ver} {t : Nat} {data : List Nat} (hex : ∃ v ∈ vs, v.visible act t = true)
    (hall : ∀ v ∈ vs, v.visible act t = true → v.data = data) : seen vs act t = some data := by
  unfold seen
  cases h : vs.find? (·.visible act t) with
  | none =>
    obtain ⟨v, hv, hvis⟩ := hex
    exact absurd hvis (by simpa using List.find?_eq_none.1 h v hv)
  | some v => exact congrArg some (hall v (List.mem_of_find?_eq_some h) (List.find?_some (p := fun w : Ver => w.visible act t) h))

theorem seen_append_unseen {vs ws : List Ver} {t : Nat} (h : ∀ w ∈ ws, w.visible act t = false) : seen (vs ++ ws) act t = seen vs act t := by
  have hno : ws.find? (·.visible act t) = none := List.find?_eq_none.2 fun w hw => by simp [h w hw]
  unfold seen
  rw [List.find?_append, hno, Option.or_none]

/-! ### The form that the staging operations keep -/

/-- Versions of the staging generation are open; what that generation sees is its own or the active one's, its own alone where it
has one; and what ends with it is the active one's. -/
structure Sound (act stg : Nat) (vs : List Ver) : Prop where
  fresh : ∀ v ∈ vs, v.isStaged stg = true → v.uv = false
  seen : ∀ v ∈ vs, v.visible act stg = true → v.isStaged stg = true ∨ v.visible act act = true
  alone : (∃ v ∈ vs, v.isStaged stg = true) → ∀ v ∈ vs, v.visible act stg = true → v.isStaged stg = true
  ends : ∀ v ∈ vs, v.endsAt stg = true → v.visible act act = true

theorem sound_iff {vs : List Ver} : Sound act stg vs ↔ ((∀ v ∈ vs, v.isStaged stg = true → v.uv = false) ∧
    (∀ v ∈ vs, v.visible act stg = true → v.isStaged stg = true ∨ v.visible act act = true) ∧
    ((∃ v ∈ vs, v.isStaged stg = true) → ∀ v ∈ vs, v.visible act stg = true → v.isStaged stg = true) ∧
    ∀ v ∈ vs, v.endsAt stg = true → v.visible act act = true) :=
  ⟨fun ⟨h1, h2, h3, h4⟩ => ⟨h1, h2, h3, h4⟩, fun ⟨h1, h2, h3, h4⟩ => ⟨h1, h2, h3, h4⟩⟩

/-- A location without a version of the staging generation, of which that generation sees only what the active one does too. -/
theorem Sound.of_unstaged {vs : List Ver} (hs : ∀ v ∈ vs, v.isStaged stg = false)
    (hv : ∀ v ∈ vs, v.visible act stg = true → v.visible act act = true) (he : ∀ v ∈ vs, v.endsAt stg = true → v.visible act act = true) :
    Sound act stg vs where
  fresh v hm h := absurd h (by simp [hs v hm])
  seen v hm h := .inr (hv v hm h)
  alone := fun ⟨v, hm, h⟩ => absurd h (by simp [hs v hm])
  ends := he

/-- What remains of a location's other versions once the active ones end at the staging tag. -/
theorem Sound.ended {vs : List Ver} (hpos : 0 < rel act stg) (h : Sound act stg vs) {v : Ver} (hv : v ∈ vs) (hs : v.isStaged stg = false) :
    (v.endAt act stg).visible act stg = false ∧ ((v.endAt act stg).endsAt stg = true → (v.endAt act stg).visible act act = true) := by
  cases ha : v.visible act act with
  | true => exact ⟨Ver.not_visible_of_endsAt (Ver.endAt_endsAt ha hs), fun _ => (Ver.endAt_visible hpos v).trans ha⟩
  | false =>
    rw [Ver.endAt_other ha]
    refine ⟨Bool.eq_false_iff.2 fun hvis => ?_, fun he => h.ends v hv he⟩
    rcases h.seen v hv hvis with h' | h'
    · exact absurd h' (by simp [hs])
    · exact absurd h' (by simp [ha])

variable {d e : Dev} {act stg : Nat}

/-! ### The three operations on a location -/

/-- A version of the staging generation takes new data. -/
def Ver.restage (stg : Nat) (data : List Nat) (v : Ver) : Ver := if v.isStaged stg then { v with data := data } else v

/-- A version that ends at the staging tag is open again. -/
def Ver.reopen (stg : Nat) (v : Ver) : Ver := if v.endsAt stg then { v with uv := false, untilT := 0 } else v

/-- A new version of the staging generation. -/
def newVer (stg : Nat) (data : List Nat) : Ver := { data := data, fromTag := stg, fv := true }

theorem newVer_isStaged (stg : Nat) (data : List Nat) : (newVer stg data).isStaged stg = true := by simp [newVer, Ver.isStaged]

/-- New data leave the tags of a version. -/
theorem Ver.restage_tags (data : List Nat) (v : Ver) : (v.restage stg data).isStaged stg = v.isStaged stg ∧ (v.restage stg data).uv = v.uv ∧
    (v.restage stg data).endsAt stg = v.endsAt stg ∧ ∀ t, (v.restage stg data).visible act t = v.visible act t := by
  unfold Ver.restage
  split <;> exact ⟨rfl, rfl, rfl, fun _ => rfl⟩

theorem stageWrite_own {vs : List Ver} (h : ∃ v ∈ vs, v.isStaged stg = true) (act : Nat) (data : List Nat) :
    stageWrite vs act stg data = some (vs.map (Ver.restage stg data)) := if_pos (List.any_eq_true.2 h)

theorem stageWrite_new {vs ws : List Ver} (h : ∀ v ∈ vs, v.isStaged stg = false) {data : List Nat}
    (hw : stageWrite vs act stg data = some ws) : ws = vs.map (·.endAt act stg) ++ [newVer stg data] := by
  unfold stageWrite at hw
  rw [if_neg (by simpa using h)] at hw
  split at hw
  · exact (Option.some.inj hw).symm
  · cases hw

theorem stageDelete_eq {vs ws : List Ver} (hw : stageDelete vs act stg = some ws) :
    ws = (vs.filter (fun v => !v.isStaged stg)).map (·.endAt act stg) := by
  unfold stageDelete at hw
  split at hw
  · exact (Option.some.inj hw).symm
  · cases hw

theorem unstaged_of_mem_filter {vs : List Ver} : ∀ v ∈ vs.filter (fun v => !v.isStaged stg), v ∈ vs ∧ v.isStaged stg = false := by
  intro v hv
  simpa using List.mem_filter.1 hv

theorem seen_unstaged (h : 0 < rel act stg) (vs : List Ver) : seen (vs.filter (fun v => !v.isStaged stg)) act act = seen vs act act :=
  seen_filter fun v _ hv => by
    by_contra hs
    have hs : v.isStaged stg = true := by simpa using hs
    exact absurd hv (by simp [Ver.not_visible_of_isStaged h hs])

theorem seen_endAt (h : 0 < rel act stg) (vs : List Ver) : seen (vs.map (·.endAt act stg)) act act = seen vs act act :=
  seen_map (fun v _ => Ver.endAt_visible h v) fun v _ _ => v.endAt_data act stg

/-- The three ways a location changes leave what the active generation sees, and the form of the location. -/
structure KeepsActive (act stg : Nat) (vs ws : List Ver) : Prop where
  seen : seen ws act act = seen vs act act
  sound : Sound act stg vs → Sound act stg ws

theorem KeepsActive.refl (act stg : Nat) (vs : List Ver) : KeepsActive act stg vs vs := ⟨rfl, id⟩

theorem keepsActive_restage (h : 0 < rel act stg) (vs : List Ver) (data : List Nat) : KeepsActive act stg vs (vs.map (Ver.restage stg data)) where
  seen := seen_map (fun v _ => (v.restage_tags data).2.2.2 act) fun v _ hv => by
    have hs : v.isStaged stg ≠ true := fun hs => absurd hv (by simp [Ver.not_visible_of_isStaged h hs])
    rw [Ver.restage, if_neg hs]
  sound hs := by
    have htags (v : Ver) := v.restage_tags (act := act) (stg := stg) data
    refine ⟨?_, ?_, fun ⟨w, hw, hw'⟩ => ?_, ?_⟩ <;> simp only [List.forall_mem_map, htags]
    · exact hs.fresh
    · exact hs.seen
    · obtain ⟨v, hv, rfl⟩ := List.mem_map.1 hw
      exact hs.alone ⟨v, hv, (htags v).1.symm.trans hw'⟩
    · exact hs.ends

theorem keepsActive_append (h : 0 < rel act stg) {vs : List Ver} (hs : ∀ v ∈ vs, v.isStaged stg = false) (data : List Nat) :
    KeepsActive act stg vs (vs.map (·.endAt act stg) ++ [newVer stg data]) where
  seen := by
    rw [seen_append_unseen, seen_endAt h]
    simpa using Ver.not_visible_of_isStaged h (newVer_isStaged stg data)
  sound hsound := by
    have hold (v : Ver) (hv : v ∈ vs) := hsound.ended h hv (hs v hv)
    have hst (v : Ver) (hv : v ∈ vs) : (v.endAt act stg).isStaged stg = false := (v.endAt_isStaged act stg).trans (hs v hv)
    have hcases {P : Ver → Prop} (ho : ∀ v ∈ vs, P (v.endAt act stg)) (hn : P (newVer stg data)) :
        ∀ v ∈ vs.map (·.endAt act stg) ++ [newVer stg data], P v := by
      simpa [or_imp, forall_and] using ⟨ho, hn⟩
    refine ⟨hcases (fun v hv h' => absurd h' (by simp [hst v hv])) fun _ => rfl,
      hcases (fun v hv h' => absurd h' (by simp [(hold v hv).1])) fun _ => .inl (newVer_isStaged ..),
      fun _ => hcases (fun v hv h' => absurd h' (by simp [(hold v hv).1])) fun _ => newVer_isStaged ..,
      hcases (fun v hv => (hold v hv).2) fun h' => absurd h' (by simp [newVer, Ver.endsAt])⟩

theorem keepsActive_delete (h : 0 < rel act stg) (vs : List Ver) :
    KeepsActive act stg vs ((vs.filter (fun v => !v.isStaged stg)).map (·.endAt act stg)) where
  seen := (seen_endAt h _).trans (seen_unstaged h vs)
  sound hsound := by
    have hmem : ∀ v ∈ vs.filter (fun v => !v.isStaged stg), v ∈ vs ∧ v.isStaged stg = false := unstaged_of_mem_filter
    have hended (v : Ver) (hv : v ∈ vs.filter (fun v => !v.isStaged stg)) := hsound.ended h (hmem v hv).1 (hmem v hv).2
    refine .of_unstaged ?_ ?_ ?_ <;> rw [List.forall_mem_map]
    · exact fun v hv => (v.endAt_isStaged act stg).trans (hmem v hv).2
    · exact fun v hv hvis => absurd hvis (by simp [(hended v hv).1])
    · exact fun v hv => (hended v hv).2

theorem Ver.reopen_visible (h : 0 < rel act stg) (v : Ver) : (v.reopen stg).visible act act = v.visible act act := by
  unfold Ver.reopen
  split
  case isTrue he => exact Ver.visible_reopen h he
  case isFalse => rfl

theorem keepsActive_revert (h : 0 < rel act stg) (vs : List Ver) : KeepsActive act stg vs (stageRevert vs stg) where
  seen := by
    refine (seen_map (fun v _ => Ver.reopen_visible h v) fun v _ _ => ?_).trans (seen_unstaged h vs)
    unfold Ver.reopen
    split <;> rfl
  sound hsound := by
    have hmem : ∀ v ∈ vs.filter (fun v => !v.isStaged stg), v ∈ vs ∧ v.isStaged stg = false := unstaged_of_mem_filter
    show Sound act stg ((vs.filter (fun v => !v.isStaged stg)).map (Ver.reopen stg))
    refine .of_unstaged ?_ ?_ ?_ <;> rw [List.forall_mem_map] <;> intro v hv
    · have hs : (v.reopen stg).isStaged stg = v.isStaged stg := by unfold Ver.reopen; split <;> rfl
      exact hs.trans (hmem v hv).2
    · intro hvis
      rw [Ver.reopen_visible h]
      by_cases he : v.endsAt stg = true
      · exact hsound.ends v (hmem v hv).1 he
      · rw [Ver.reopen, if_neg he] at hvis
        exact (hsound.seen v (hmem v hv).1 hvis).resolve_left (by simp [(hmem v hv).2])
    · intro he
      rw [Ver.reopen_visible h]
      by_cases he' : v.endsAt stg = true
      · exact hsound.ends v (hmem v hv).1 he'
      · rw [Ver.reopen, if_neg he'] at he
        exact absurd he he'

/-! ### Staging commands -/

@[simp] theorem Dev.fam_setFam (d : Dev) (x y : Family) (f : Fam) : (d.setFam x f).fam y = if y = x then f else d.fam y := by
  cases x <;> cases y <;> rfl

@[simp] theorem Dev.setFam_regs (d : Dev) (x : Family) (f : Fam) : (d.setFam x f).regs = d.regs := by cases x <;> rfl

theorem Fam.at_store (f : Fam) (k j : Nat) (vs : List Ver) : (f.store k vs).at j = if j = k then vs else f.at j := by
  unfold Fam.at Fam.store
  split
  case isTrue hv =>
    split
    case isTrue hj => rw [hj, Tbl.get_del_same, hv]
    case isFalse hj => exact Tbl.get_del_ne _ _ hj
  case isFalse => exact Tbl.get_set ..

/-- At one location of a family the versions became `ws`; every other location and every register is as before. -/
structure Dev.Restored (d : Dev) (x : Family) (k : Nat) (ws : List Ver) (e : Dev) : Prop where
  here : (e.fam x).at k = ws
  others : ∀ y j, y ≠ x ∨ j ≠ k → (e.fam y).at j = (d.fam y).at j
  regs : e.regs = d.regs

theorem Dev.restored_refl (d : Dev) (x : Family) (k : Nat) : d.Restored x k ((d.fam x).at k) d := ⟨rfl, fun _ _ _ => rfl, rfl⟩

/-- A family stored with other versions at one location. -/
theorem Dev.restored_of_fam {d e : Dev} {x : Family} {k : Nat} {ws : List Ver} {f : Fam} (hf : f.locs = ((d.fam x).store k ws).locs)
    (he : ∀ y, e.fam y = (d.setFam x f).fam y) (hr : e.regs = d.regs) : d.Restored x k ws e := by
  have hat (j : Nat) : f.at j = if j = k then ws else (d.fam x).at j := by
    rw [← Fam.at_store, Fam.at, hf]
    rfl
  refine ⟨?_, fun y j h => ?_, hr⟩
  · rw [he, Dev.fam_setFam, if_pos rfl, hat, if_pos rfl]
  · rw [he, Dev.fam_setFam]
    split
    case isTrue hy =>
      subst hy
      rw [hat, if_neg (h.resolve_left (fun h => h rfl))]
    case isFalse => rfl

theorem Dev.logged_restored (d : Dev) (x : Family) (k : Nat) (ws : List Ver) : d.Restored x k ws (d.logged x k ws) :=
  Dev.restored_of_fam (f := { (d.fam x).store k ws with log := Tbl.set (d.fam x).log k d.gen.seq }) rfl
    (fun y => by cases x <;> cases y <;> rfl) (by cases x <;> rfl)

theorem Dev.logged_log (d : Dev) (x : Family) (k : Nat) (ws : List Ver) : Tbl.get ((d.logged x k ws).fam x).log k 0 = d.gen.seq := by
  cases x <;> exact Tbl.get_set_same ..

theorem Dev.actTag_congr (h : e.regs = d.regs) : e.actTag = d.actTag := by
  unfold Dev.actTag Dev.fld
  rw [h]

/-- A change that keeps what the active generation sees of the location keeps it of every one. -/
theorem Dev.Restored.keeps {x : Family} {k : Nat} {ws : List Ver} (h : d.Restored x k ws e)
    (hk : KeepsActive d.actTag stg ((d.fam x).at k) ws) (y : Family) (u l : Nat) :
    e.lookAct y u l = d.lookAct y u l ∧ e.regs = d.regs ∧
      ((∀ j, Sound d.actTag stg ((d.fam y).at j)) → ∀ j, Sound d.actTag stg ((e.fam y).at j)) := by
  have hat (j : Nat) : KeepsActive d.actTag stg ((d.fam y).at j) ((e.fam y).at j) := by
    by_cases hj : y = x ∧ j = k
    · rw [hj.1, hj.2, h.here]
      exact hk
    · rw [h.others y j (by tauto)]
      exact .refl ..
  refine ⟨?_, h.regs, fun hs j => (hat j).sound (hs j)⟩
  rw [Dev.lookAct, Dev.look, Dev.actTag_congr h.regs]
  exact (hat _).seen

/-- A refusal is no success. -/
theorem Dev.stageRefusal_ne (d : Dev) {x : Family} {st : Nat} (h : d.stageRefusal x = some st) : st ≠ stOk := by
  unfold Dev.stageRefusal at h
  split_ifs at h <;> cases h <;> decide

/-- A STAGE_WRITE that is done. -/
theorem Dev.doStageWrite_ok {x : Family} {t loc l : Nat} {r : Option Nat} (h : d.doStageWrite x t loc = (e, stOk, r))
    (ht : d.target x t loc true = .inl l) : ∃ ws, stageWrite ((d.fam x).at (locKey t l)) d.actTag d.stgTag (d.stageData x t l) = some ws ∧
      e = d.logged x (locKey t l) ws := by
  unfold Dev.doStageWrite at h
  rw [ht] at h
  cases hr : d.stageRefusal x with
  | some st =>
    rw [hr] at h
    have hst : st = stOk := congrArg (·.2.1) h
    exact absurd hst (d.stageRefusal_ne hr)
  | none =>
    rw [hr] at h
    dsimp only at h
    split at h
    · exact absurd (congrArg (·.2.1) h) (by decide : stLogFull ≠ stOk)
    · split at h
      case h_1 => exact absurd (congrArg (·.2.1) h) (by decide : stGenFull ≠ stOk)
      case h_2 ws hw => exact ⟨ws, hw, (congrArg (·.1) h).symm⟩

/-- The versions of a location change by one of the three operations, or not at all. -/
theorem Dev.staging_keeps (d : Dev) (hpos : 0 < rel d.actTag d.stgTag) (x : Family) (t loc : Nat) :
    ∀ e ∈ [d.doStageWrite x t loc, d.doStageDelete x t loc, d.doStageRevert x t loc], ∃ k ws, d.Restored x k ws e.1 ∧
      KeepsActive d.actTag d.stgTag ((d.fam x).at k) ws := by
  have hsame : ∃ k ws, d.Restored x k ws d ∧ KeepsActive d.actTag d.stgTag ((d.fam x).at k) ws :=
    ⟨0, _, d.restored_refl x 0, .refl ..⟩
  intro e he
  simp only [List.mem_cons, List.not_mem_nil, or_false] at he
  rcases he with rfl | rfl | rfl
  · unfold Dev.doStageWrite
    split
    · exact hsame
    · split
      · exact hsame
      · next l hl =>
        dsimp only
        split
        · exact hsame
        · split
          · exact hsame
          · next ws hw =>
            refine ⟨_, ws, d.logged_restored x _ ws, ?_⟩
            by_cases hown : ∃ v ∈ (d.fam x).at (locKey t l), v.isStaged d.stgTag = true
            · rw [stageWrite_own hown] at hw
              cases hw
              exact keepsActive_restage hpos _ _
            · have hown : ∀ v ∈ (d.fam x).at (locKey t l), v.isStaged d.stgTag = false := by simpa using hown
              rw [stageWrite_new hown hw]
              exact keepsActive_append hpos hown _
  · unfold Dev.doStageDelete
    split
    · exact hsame
    · split
      · exact hsame
      · dsimp only
        split
        · exact hsame
        · next ws hw =>
          split
          · exact hsame
          · exact ⟨_, ws, d.logged_restored x _ ws, stageDelete_eq hw ▸ keepsActive_delete hpos _⟩
  · unfold Dev.doStageRevert
    split
    · exact hsame
    · split
      · exact hsame
      · next l hl =>
        exact ⟨_, _, Dev.restored_of_fam (f := (d.fam x).revert d.stgTag (locKey t l)) rfl (fun y => by cases x <;> cases y <;> rfl)
          (by cases x <;> rfl), keepsActive_revert hpos _⟩

/-- A new version of the staging generation is what that generation sees, once the others have ended. -/
theorem seen_append_new (h : 0 < rel act stg) {vs : List Ver} (hs : ∀ v ∈ vs, v.isStaged stg = false) (data : List Nat) (hsound : Sound act stg vs) :
    seen (vs.map (·.endAt act stg) ++ [newVer stg data]) act stg = some data := by
  refine seen_of_forall ⟨_, List.mem_append_right _ (List.mem_singleton_self _), Ver.visible_of_isStaged (newVer_isStaged ..) rfl⟩ fun v hv hvis => ?_
  rcases List.mem_append.1 hv with hv | hv
  · obtain ⟨w, hw, rfl⟩ := List.mem_map.1 hv
    exact absurd hvis (by simp [(hsound.ended h hw (hs w hw)).1])
  · cases List.mem_singleton.1 hv
    rfl

/-- New data of a version of the staging generation are what that generation sees. -/
theorem seen_restage {vs : List Ver} (hown : ∃ v ∈ vs, v.isStaged stg = true) (data : List Nat) (hsound : Sound act stg vs) :
    seen (vs.map (Ver.restage stg data)) act stg = some data := by
  obtain ⟨w, hw, hws⟩ := hown
  have htags (v : Ver) := v.restage_tags (act := act) (stg := stg) data
  refine seen_of_forall ⟨_, List.mem_map_of_mem hw, ?_⟩ fun v hv hvis => ?_
  · rw [(htags w).2.2.2]
    exact Ver.visible_of_isStaged hws (hsound.fresh w hw hws)
  · obtain ⟨u, hu, rfl⟩ := List.mem_map.1 hv
    rw [(htags u).2.2.2] at hvis
    rw [Ver.restage, if_pos (hsound.alone ⟨w, hw, hws⟩ u hu hvis)]

/-- Settles O38: each staging operation keeps what the active tag sees of its location, and a STAGE_WRITE leaves there the
version that the staging tag sees. -/
theorem stagingIsInvisible : Obligations.StagingIsInvisible := by
  unfold Obligations.StagingIsInvisible
  intro d x y t loc u l hpos act stg old own sound
  have hsound (vs : List Ver) : sound vs ↔ Sound act stg vs := sound_iff.symm
  refine ⟨fun e he => ?_, fun e r he ht => ?_⟩
  · obtain ⟨k, ws, hr, hk⟩ := d.staging_keeps hpos x t loc e he
    simp only [hsound]
    exact hr.keeps hk y u l
  · intro now
    obtain ⟨ws, hw, rfl⟩ := Dev.doStageWrite_ok he ht
    have hres := d.logged_restored x (locKey t l) ws
    have hnow : now = ws := hres.here
    have hact : (d.logged x (locKey t l) ws).actTag = act := Dev.actTag_congr hres.regs
    have hlook (g : Nat) : (d.logged x (locKey t l) ws).look x t l g = seen ws act g := by
      rw [Dev.look, hact, hres.here]
    rw [hnow, hsound, hlook, Dev.lookAct, hlook, hact]
    refine ⟨d.logged_log .., ?_⟩
    by_cases hown : ∃ v ∈ old, v.isStaged stg = true
    · rw [stageWrite_own hown] at hw
      cases hw
      have hne : old ≠ [] := by rintro h; simp [h] at hown
      refine ⟨(keepsActive_restage hpos old _).seen, fun h => absurd h hne, fun _ => rfl, fun h => ?_, seen_restage hown _⟩
      obtain ⟨v, hv, hv'⟩ := hown
      exact absurd hv' (h v hv)
    · have hno : ∀ v ∈ old, v.isStaged stg = false := by simpa using hown
      cases stageWrite_new hno hw
      have hkeep := (keepsActive_append hpos hno (d.stageData x t l)).seen
      refine ⟨hkeep, fun h => ⟨by simp [h, newVer], hkeep.trans (by rw [h]; rfl)⟩, fun h => absurd h hown, fun _ => ⟨?_, ?_⟩, seen_append_new hpos hno _⟩
      · simp [newVer, Function.comp_def]
      · simp [newVer, Function.comp_def]

variable {d e : Dev}

/-! ### The command registers of the table families (R185) -/

/-- A write of a family's command register by its fields. -/
theorem Dev.tblPoke_eq (h13 : d.unit 13 = true) (h14 : d.unit 14 = true) (m : Master) (x : Family) {op t view loc : Nat}
    (hop : op < 16) (ht : t < 16) (hv : view < 4) (hl : loc < if x = .tt then 2 ^ 14 else 2 ^ 18) :
    d.tblPoke m x op t view loc = d.tblCmd x ⟨op, t, loc, view⟩ := by
  have hw : (BitVec.ofNat 32 (op + 2 ^ 4 * t + 2 ^ 8 * view + 2 ^ 10 * loc)).toNat = op + 2 ^ 4 * t + 2 ^ 8 * view + 2 ^ 10 * loc := by
    rw [BitVec.toNat_ofNat, Nat.mod_eq_of_lt]
    split at hl <;> omega
  have hop' : (op + 2 ^ 4 * t + 2 ^ 8 * view + 2 ^ 10 * loc) % 16 = op := by omega
  have ht' : bits (op + 2 ^ 4 * t + 2 ^ 8 * view + 2 ^ 10 * loc) 4 4 = t := by unfold bits; omega
  have hv' : bits (op + 2 ^ 4 * t + 2 ^ 8 * view + 2 ^ 10 * loc) 8 2 = view := by unfold bits; omega
  have hl' : (if x == .tt then bits (op + 2 ^ 4 * t + 2 ^ 8 * view + 2 ^ 10 * loc) 10 14
      else bits (op + 2 ^ 4 * t + 2 ^ 8 * view + 2 ^ 10 * loc) 10 18) = loc := by
    unfold bits
    cases x <;> simp at hl ⊢ <;> omega
  have hpoke : d.tblPoke m x op t view loc = d.tblWrite x (BitVec.ofNat 32 (op + 2 ^ 4 * t + 2 ^ 8 * view + 2 ^ 10 * loc)).toNat := by
    cases x
    · exact Dev.poke_PCL_TBL_CMD _ _ _ h13
    · exact Dev.poke_TMG_TBL_CMD _ _ _ h14
    · exact Dev.poke_SM_TT_CMD _ _ _
  rw [hpoke, hw, Dev.tblWrite, hop', ht', hv', hl']

/-- The fields with which a command of a family ends. -/
def tblEndFlds (x : Family) : List Fld := [x.status, x.busy, Reg.PCL_TBL_STAT.LOC, Reg.TMG_EVT.CMD_DONE, Reg.PCL_GEN_EVT.LOG_FULL]

/-- What a command of a family leaves as it ends. -/
structure Dev.TblEnded (d : Dev) (x : Family) (st : Nat) (l : Option Nat) (e : Dev) : Prop where
  status : e.fld x.status = st % 256
  busy : e.fld x.busy = 0
  fam : e.fam x = { d.fam x with cmd := none, written := 0 }
  tmg : x = .tmg → e.fld Reg.TMG_EVT.CMD_DONE = 1
  loc : ∀ a, x = .pcl → l = some a → e.fld Reg.PCL_TBL_STAT.LOC = a % 2 ^ 18
  full : x = .pcl → st = stLogFull → e.fld Reg.PCL_GEN_EVT.LOG_FULL = 1
  others : d.SameRegs e (tblEndFlds x)

/-- A command as it ends: its event, status and BUSY. -/
def Dev.tblMarked (d : Dev) (x : Family) (st : Nat) : Dev :=
  (((d.logFullEvt x st).setFam x { d.fam x with cmd := none, written := 0 }).put x.status st).put x.busy 0

theorem Dev.tblMarked_ended (d : Dev) (x : Family) (st : Nat) : (d.tblMarked x st).fld x.status = st % 256 ∧ (d.tblMarked x st).fld x.busy = 0 ∧
    (x = .pcl → st = stLogFull → (d.tblMarked x st).fld Reg.PCL_GEN_EVT.LOG_FULL = 1) ∧
    d.SameRegs (d.tblMarked x st) [x.status, x.busy, Reg.PCL_GEN_EVT.LOG_FULL] := by
  have hlog (k : Nat) (hk : k ≠ Reg.PCL_GEN_EVT.LOG_FULL.key) :
      Tbl.get (d.logFullEvt x st).regs k (Reg.rst k) = Tbl.get d.regs k (Reg.rst k) := by
    unfold Dev.logFullEvt Dev.iff
    split
    · exact (Dev.reg_put ..).trans (if_neg hk)
    · rfl
  refine ⟨?_, Dev.fld_put_same .., ?_, fun k hk => ?_⟩
  · have hne : x.status.key ≠ x.busy.key := by cases x <;> decide
    have hw : x.status.w = 8 := by cases x <;> rfl
    rw [Dev.tblMarked, Dev.fld_put_ne _ _ hne, Dev.fld_put_same, hw]
    rfl
  · rintro rfl rfl
    rw [Dev.tblMarked, Dev.fld_put_ne _ _ (by decide), Dev.fld_put_ne _ _ (by decide)]
    exact Dev.fld_put_same ..
  · simp only [List.map_cons, List.map_nil, List.mem_cons, List.not_mem_nil, or_false, not_or] at hk
    rw [Dev.tblMarked, Dev.reg_put, if_neg hk.2.1, Dev.reg_put, if_neg hk.1, Dev.setFam_regs, hlog k hk.2.2]

theorem Dev.tblMarked_fam (d : Dev) (x : Family) (st : Nat) : (d.tblMarked x st).fam x = { d.fam x with cmd := none, written := 0 } := by
  cases x <;> rfl

theorem Dev.tblEnd_pcl (d : Dev) (st : Nat) (l : Option Nat) :
    d.tblEnd .pcl st l = (l.map ((d.tblMarked .pcl st).put Reg.PCL_TBL_STAT.LOC)).getD (d.tblMarked .pcl st) := by cases l <;> rfl

theorem Dev.tblEnd_tmg (d : Dev) (st : Nat) (l : Option Nat) : d.tblEnd .tmg st l = (d.tblMarked .tmg st).ev Reg.TMG_EVT.CMD_DONE := by
  cases l <;> rfl

theorem Dev.tblEnd_tt (d : Dev) (st : Nat) (l : Option Nat) : d.tblEnd .tt st l = d.tblMarked .tt st := by cases l <;> rfl

/-- One more field set as a command ends. -/
theorem Dev.tblMarked_put (d : Dev) (x : Family) (st : Nat) {f : Fld} (v : Nat) (hf : f = Reg.PCL_TBL_STAT.LOC ∨ f = Reg.TMG_EVT.CMD_DONE) :
    ((d.tblMarked x st).put f v).fld x.status = st % 256 ∧ ((d.tblMarked x st).put f v).fld x.busy = 0 ∧
    (x = .pcl → st = stLogFull → ((d.tblMarked x st).put f v).fld Reg.PCL_GEN_EVT.LOG_FULL = 1) ∧
    d.SameRegs ((d.tblMarked x st).put f v) (tblEndFlds x) := by
  obtain ⟨hs, hb, hl, hr⟩ := d.tblMarked_ended x st
  have hne : x.status.key ≠ f.key ∧ x.busy.key ≠ f.key ∧ Reg.PCL_GEN_EVT.LOG_FULL.key ≠ f.key := by
    rcases hf with rfl | rfl <;> cases x <;> decide
  refine ⟨(Dev.fld_put_ne _ _ hne.1).trans hs, (Dev.fld_put_ne _ _ hne.2.1).trans hb, fun hx hst => (Dev.fld_put_ne _ _ hne.2.2).trans (hl hx hst),
    fun k hk => ?_⟩
  simp only [tblEndFlds, List.map_cons, List.map_nil, List.mem_cons, List.not_mem_nil, or_false, not_or] at hk
  obtain ⟨h1, h2, h3, h4, h5⟩ := hk
  have hkf : k ≠ f.key := by rcases hf with rfl | rfl <;> assumption
  rw [Dev.reg_put, if_neg hkf]
  exact hr k (by simp [h1, h2, h5])

theorem Dev.tblMarked_same (d : Dev) (x : Family) (st : Nat) : d.SameRegs (d.tblMarked x st) (tblEndFlds x) := fun k hk => by
  refine (d.tblMarked_ended x st).2.2.2 k fun h => hk ?_
  simp only [tblEndFlds, List.map_cons, List.map_nil, List.mem_cons, List.not_mem_nil, or_false] at h ⊢
  tauto

theorem Dev.tblEnd_ended (d : Dev) (x : Family) (st : Nat) (l : Option Nat) : d.TblEnded x st l (d.tblEnd x st l) := by
  obtain ⟨hs, hb, hl, -⟩ := d.tblMarked_ended x st
  have hfam := d.tblMarked_fam x st
  have hsame := d.tblMarked_same x st
  cases x with
  | pcl =>
    rw [Dev.tblEnd_pcl]
    cases l with
    | none => exact ⟨hs, hb, hfam, nofun, nofun, hl, hsame⟩
    | some a =>
      obtain ⟨hs, hb, hl, hsame⟩ := d.tblMarked_put .pcl st a (.inl rfl)
      exact ⟨hs, hb, hfam, nofun, fun b _ hb => by cases hb; exact Dev.fld_put_same .., hl, hsame⟩
  | tmg =>
    rw [Dev.tblEnd_tmg]
    obtain ⟨hs, hb, hl, hsame⟩ := d.tblMarked_put .tmg st 1 (.inr rfl)
    exact ⟨hs, hb, hfam, fun _ => Dev.fld_put_same .., nofun, nofun, hsame⟩
  | tt =>
    rw [Dev.tblEnd_tt]
    exact ⟨hs, hb, hfam, nofun, nofun, nofun, hsame⟩

theorem TblOp.lt_of_known {c : TblOp} {x : Family} (h : c.known x = true) : c.op < 16 := by
  simp only [TblOp.known, Bool.or_eq_true, Bool.and_eq_true, decide_eq_true_eq, beq_iff_eq] at h
  omega

/-- A command register's command: it waits for its end unless one runs, and then acts and ends. -/
theorem tblCommand_spec {s : State} {i : Instr} {m : Master} {x : Family} {c : TblOp} (hup : s.dev.mainUp = true)
    (h13 : s.dev.unit 13 = true) (h14 : s.dev.unit 14 = true) (hi : exec i s = s.main (·.tblPoke m x c.op c.table c.view c.loc))
    (ht : c.table < 16) (hv : c.view < 4) (hl : c.loc < if x = .tt then 2 ^ 14 else 2 ^ 18) (hk : c.known x = true)
    {run : Dev → Dev × Nat × Option Nat} (hrun : s.dev.tblRun x c = run s.dev) :
    (s.dev.fld x.busy ≠ 0 → Effect i s (fun d => s.dev.Sets d [(x.ignored, 1)])) ∧
    (s.dev.fld x.busy = 0 → Effect i s (fun d => (s.dev.setFam x { s.dev.fam x with cmd := some c }).Sets d [(x.busy, 1)])) ∧
    ((s.dev.fam x).cmd = some c → Effect (.tblCmdDone (.family x)) s (fun d => let r := run s.dev
      d = r.1.tblEnd x r.2.1 r.2.2 ∧ d.fld x.status = r.2.1 % 256 ∧ d.fld x.busy = 0 ∧ (d.fam x).cmd = none ∧
      (d.fam x).locs = (r.1.fam x).locs ∧ (d.fam x).log = (r.1.fam x).log ∧ (x = .tmg → d.fld Reg.TMG_EVT.CMD_DONE = 1) ∧
      (∀ a, x = .pcl → r.2.2 = some a → d.fld Reg.PCL_TBL_STAT.LOC = a % 2 ^ 18) ∧
      (x = .pcl → r.2.1 = stLogFull → d.fld Reg.PCL_GEN_EVT.LOG_FULL = 1) ∧
      r.1.SameRegs d [x.status, x.busy, Reg.PCL_TBL_STAT.LOC, Reg.TMG_EVT.CMD_DONE, Reg.PCL_GEN_EVT.LOG_FULL])) := by
  have hpoke : s.dev.tblPoke m x c.op c.table c.view c.loc = s.dev.tblCmd x c := Dev.tblPoke_eq h13 h14 m x (TblOp.lt_of_known hk) ht hv hl
  refine ⟨fun h => ?_, fun h => ?_, fun h => ?_⟩
  · refine .of_main_eq hup ?_ hi (hpoke.trans (if_pos (bne_iff_ne.2 h)))
    cases x <;> exact .put_one _ _ 1
  · have hcmd : s.dev.tblCmd x c = (s.dev.setFam x { s.dev.fam x with cmd := some c }).put x.busy 1 := by
      unfold Dev.tblCmd
      rw [if_neg (by simp [Dev.on, h]), if_pos hk]
    refine .of_main_eq hup ?_ hi (hpoke.trans hcmd)
    cases x <;> exact .put_one _ _ 1
  · have hdone : s.dev.cmdDone (.family x) = (run s.dev).1.tblEnd x (run s.dev).2.1 (run s.dev).2.2 := by
      show s.dev.tblDone x = _
      unfold Dev.tblDone
      rw [h, ← hrun]
    have hend := (run s.dev).1.tblEnd_ended x (run s.dev).2.1 (run s.dev).2.2
    refine .of_main_eq hup ⟨rfl, hend.status, hend.busy, ?_, ?_, ?_, hend.tmg, hend.loc, hend.full, hend.others⟩ (exec_tblCmdDone ..) hdone <;> rw [hend.fam]

/-! ### Refusals, reads and the discard -/

/-- A staging operation that is refused changes nothing. -/
theorem Dev.staging_refused {x : Family} {st : Nat} (h : d.stageRefusal x = some st) (t loc : Nat) :
    ∀ e ∈ [d.doStageWrite x t loc, d.doStageDelete x t loc, d.doStageRevert x t loc], e = (d, st, none) := by
  simp only [Dev.doStageWrite, Dev.doStageDelete, Dev.doStageRevert, h, List.forall_mem_cons, List.not_mem_nil, false_imp_iff,
    implies_true, and_self]

/-- Nor does one whose location is refused. -/
theorem Dev.staging_noTarget {x : Family} {t loc st : Nat} (h : d.stageRefusal x = none) (ht : ∀ w, d.target x t loc w = .inr st) :
    ∀ e ∈ [d.doStageWrite x t loc, d.doStageDelete x t loc, d.doStageRevert x t loc], e = (d, st, none) := by
  simp only [Dev.doStageWrite, Dev.doStageDelete, Dev.doStageRevert, h, ht, List.forall_mem_cons, List.not_mem_nil, false_imp_iff,
    implies_true, and_self]

theorem Dev.stageRefusal_none {x : Family} (h : ¬ (d.fld x.heldKind = 2 ∨ d.on Reg.GEN_STAT.STAGE_OPEN = false))
    (hp : d.on Reg.PCL_GEN_STAT.COMMIT_PENDING = false) : d.stageRefusal x = none := by
  unfold Dev.stageRefusal
  rw [if_neg h, if_neg (by simp [hp])]

theorem Dev.target_badLoc {x : Family} {t loc : Nat} (ht : x.size t ≠ 0) (hk : ¬ (x = .pcl ∧ (t = 4 ∨ t = 5))) (hl : x.locOk t loc = false)
    (w : Bool) : d.target x t loc w = .inr stBadLoc := by
  unfold Dev.target
  rw [if_neg ht, if_neg (by simpa using hk), if_neg (by simp [hl])]

theorem Family.word_apart (x : Family) : ∀ i j, (x.word i).key = (x.word j).key → i = j := by
  cases x <;> simp only [Family.word, Fld.key, Reg.PCL_TBL_DATA.DATA, Reg.TMG_TBL_DATA.DATA, Reg.SM_TT_DATA.DATA] <;> omega

/-- Words written in order, each its own. -/
theorem Dev.each_word (x : Family) (n : Nat) (v : Nat → Nat) (d : Dev) {i : Nat} (hi : i < n) :
    (d.each (List.range n) (fun d i => d.put (x.word i) (v i))).fld (x.word i) = v i % 2 ^ 32 := by
  have hnd : (((List.range n).map fun i => (x.word i, v i)).map (·.1.key)).Nodup := by
    rw [List.map_map]
    exact List.nodup_range.map fun i j h => x.word_apart i j h
  have heach : d.each (List.range n) (fun d i => d.put (x.word i) (v i)) = d.puts ((List.range n).map fun i => (x.word i, v i)) := by
    rw [Dev.puts, Dev.each, Dev.each, List.foldl_map]
  have hw : (x.word i).w = 32 := by cases x <;> rfl
  rw [heach, Dev.puts_fld hnd d (x := (x.word i, v i)) (List.mem_map_of_mem (f := fun i => (x.word i, v i)) (List.mem_range.2 hi)), hw]

/-- A READ at a location where its view sees nothing. -/
theorem Dev.doRead_none {x : Family} {t loc l view : Nat} (ht : d.target x t loc false = .inl l) (hv : d.viewed x t l view = none) :
    d.doRead x t loc view = (d.readInto x none, stNotFound, keyLoc x t l) := by
  simp only [Dev.doRead, ht, Dev.readAt, hv]

theorem Dev.doRead_some {x : Family} {t loc l view : Nat} {v : Ver} (ht : d.target x t loc false = .inl l)
    (hv : d.viewed x t l view = some v) : d.doRead x t loc view = (d.readInto x (some v), stOk, keyLoc x t l) := by
  simp only [Dev.doRead, ht, Dev.readAt, hv]

theorem Dev.readInto_some (x : Family) (v : Ver) (h : v.data.length < x.words) :
    (d.readInto x (some v)).fld (x.word (x.words - 1)) = v.tagWord % 2 ^ 32 ∧
    ∀ i < v.data.length, (d.readInto x (some v)).fld (x.word i) = v.data.getD i 0 % 2 ^ 32 := by
  have hw : (x.word (x.words - 1)).w = 32 := by cases x <;> rfl
  refine ⟨?_, fun i hi => ?_⟩
  · rw [Dev.readInto, Dev.fld_put_same, hw]
  · rw [Dev.readInto, Dev.fld_put_ne]
    · exact Dev.each_word x _ _ d hi
    · intro he
      have := x.word_apart _ _ he
      omega

theorem Dev.doDiscard_done {x : Family} (hp : d.on Reg.PCL_GEN_STAT.COMMIT_PENDING = false) (hh : d.fld x.heldKind = 2)
    (hr : d.on Reg.PCL_GEN_STAT.PREV_RETIRED = true) : d.doDiscard x = (d.famDiscard x, stOk, none) := by
  unfold Dev.doDiscard
  rw [if_neg (by simp [hp]), if_neg (by simp [hh, hr])]

theorem Dev.famDiscard_spec (d : Dev) (x : Family) : (d.famDiscard x).fld x.heldKind = 0 ∧ ((d.famDiscard x).fam x).held = [] ∧
    d.SameRegs (d.famDiscard x) [x.heldKind] := by
  refine ⟨Dev.fld_put_same .., by cases x <;> rfl, fun k hk => ?_⟩
  rw [Dev.famDiscard, Dev.reg_put, if_neg (by simpa using hk), Dev.setFam_regs]

/-! ### The end of a node command and of a scrub -/

/-- A node command as its status shows. -/
theorem Dev.nodeShown_sets (d : Dev) (st : Nat) : { d with tm := { d.tm with nodeCmd := none } }.Sets
    ({ (d.put Reg.TMG_NODE_STAT.STATUS st).put Reg.TMG_NODE_STAT.BUSY 0 with tm := { d.tm with nodeCmd := none } }.ev Reg.TMG_EVT.CMD_DONE)
    [(Reg.TMG_EVT.CMD_DONE, 1), (Reg.TMG_NODE_STAT.BUSY, 0), (Reg.TMG_NODE_STAT.STATUS, st % 256)] :=
  (((Dev.Sets.nil { d with tm := { d.tm with nodeCmd := none } }).put Reg.TMG_NODE_STAT.STATUS st (by simp)).put Reg.TMG_NODE_STAT.BUSY 0
    (by simp only [List.map_cons, List.map_nil]; decide)).put Reg.TMG_EVT.CMD_DONE 1 (by simp only [List.map_cons, List.map_nil]; decide)

theorem Dev.nodeDone_status {st : Nat} (h : d.tm.nodeCmd = some (st, none)) : { d with tm := { d.tm with nodeCmd := none } }.Sets d.nodeDone
    [(Reg.TMG_NODE_STAT.STATUS, st % 256), (Reg.TMG_NODE_STAT.BUSY, 0), (Reg.TMG_EVT.CMD_DONE, 1)] := by
  unfold Dev.nodeDone
  rw [h]
  exact (d.nodeShown_sets st).of_mem_iff fun x => (List.reverse_perm [_, _, _]).mem_iff

theorem Dev.nodeDone_level {st : Nat} {v : Int} (h : d.tm.nodeCmd = some (st, some v)) :
    { d with tm := { d.tm with nodeCmd := none } }.Sets d.nodeDone [(Reg.TMG_NODE_STAT.STATUS, st % 256), (Reg.TMG_NODE_STAT.BUSY, 0),
      (Reg.TMG_EVT.CMD_DONE, 1), (Reg.TMG_NODE_DATA_LO.LEVEL, unsigned 41 v % 2 ^ 32), (Reg.TMG_NODE_DATA_HI.LEVEL, unsigned 41 v / 2 ^ 32)] := by
  have hlt := unsigned_lt 41 v
  unfold Dev.nodeDone
  rw [h]
  have hlo := (d.nodeShown_sets st).put Reg.TMG_NODE_DATA_LO.LEVEL (unsigned 41 v) (by simp only [List.map_cons, List.map_nil]; decide)
  have hhi := hlo.put_of_lt Reg.TMG_NODE_DATA_HI.LEVEL (v := unsigned 41 v / 2 ^ 32)
    (by show _ < 2 ^ 9; omega) (by simp only [List.map_cons, List.map_nil]; decide)
  exact hhi.of_mem_iff fun x => (List.reverse_perm [_, _, _, _, _]).mem_iff

theorem Family.heldKind_apart (x y : Family) : y ≠ x → y.heldKind.key ≠ x.heldKind.key ∧ y.heldKind.key ≠ x.scrubbing.key := by
  cases x <;> cases y <;> decide

/-- The scrub of a family before its event. -/
def Dev.scrubbed (d : Dev) (x : Family) : Dev :=
  ((d.setFam x { (d.fam x).eachLoc (d.fam x).held (scrubLoc · d.actTag) with held := [] }).put x.heldKind 0).put x.scrubbing 0

theorem Dev.scrubbed_fld (d : Dev) (x : Family) {g : Fld} (h1 : g.key ≠ x.heldKind.key) (h2 : g.key ≠ x.scrubbing.key) :
    (d.scrubbed x).fld g = d.fld g := by
  rw [Dev.scrubbed, Dev.fld_put_ne _ _ h2, Dev.fld_put_ne _ _ h1, Dev.fld, Dev.setFam_regs]
  rfl

/-- The event of the end of a family's scrub. -/
def Family.scrubEvt : Family → List Fld
  | .pcl => [Reg.PCL_GEN_EVT.SCRUB_DONE]
  | .tmg => [Reg.TMG_EVT.SCRUB_DONE]
  | .tt => []

theorem Dev.scrubDone_eq {x : Family} (h : d.on x.scrubbing = true) : d.scrubDone x = (d.scrubbed x).puts (x.scrubEvt.map (·, 1)) := by
  unfold Dev.scrubDone
  rw [if_pos h]
  cases x <;> rfl

/-- What the end of a family's scrub leaves. -/
theorem Dev.scrubDone_spec {x : Family} (h : d.on x.scrubbing = true) : (d.scrubDone x).fld x.heldKind = 0 ∧
    (d.scrubDone x).fld x.scrubbing = 0 ∧ ((d.scrubDone x).fam x).held = [] ∧
    (x = .pcl → (d.scrubDone x).fld Reg.PCL_GEN_EVT.SCRUB_DONE = 1) ∧ (x = .tmg → (d.scrubDone x).fld Reg.TMG_EVT.SCRUB_DONE = 1) ∧
    (∀ y, y ≠ x → (d.scrubDone x).fld y.heldKind = d.fld y.heldKind) ∧
    (d.scrubDone x).fld Reg.GEN_STAT.HELD_KIND = d.fld Reg.GEN_STAT.HELD_KIND := by
  have hne : x.heldKind.key ≠ x.scrubbing.key := by cases x <;> decide
  have hevt (g : Fld) (hg : ∀ f ∈ x.scrubEvt, f.key ≠ g.key) : (d.scrubDone x).fld g = (d.scrubbed x).fld g := by
    rw [Dev.scrubDone_eq h]
    refine Dev.puts_fld_ne _ fun y hy => ?_
    obtain ⟨f, hf, rfl⟩ := List.mem_map.1 hy
    exact hg f hf
  refine ⟨?_, ?_, ?_, ?_, ?_, fun y hy => ?_, ?_⟩
  · rw [hevt _ (by cases x <;> decide)]
    exact (Dev.fld_put_ne _ _ hne).trans (Dev.fld_put_same ..)
  · rw [hevt _ (by cases x <;> decide)]
    exact Dev.fld_put_same ..
  · rw [Dev.scrubDone_eq h]
    cases x <;> rfl
  · rintro rfl
    rw [Dev.scrubDone_eq h]
    exact Dev.fld_put_same ..
  · rintro rfl
    rw [Dev.scrubDone_eq h]
    exact Dev.fld_put_same ..
  · obtain ⟨h1, h2⟩ := x.heldKind_apart y hy
    rw [hevt _ (by cases x <;> cases y <;> decide), Dev.scrubbed_fld d x h1 h2]
  · rw [hevt _ (by cases x <;> decide), Dev.scrubbed_fld d x (by cases x <;> decide) (by cases x <;> decide)]

/-- No family holds a generation. -/
def Dev.noneHeld (d : Dev) : Bool := d.fld Family.pcl.heldKind == 0 && d.fld Family.tmg.heldKind == 0 && d.fld Family.tt.heldKind == 0

theorem Dev.noneHeld_iff (d : Dev) : d.noneHeld = true ↔ ∀ y : Family, d.fld y.heldKind = 0 := by
  simp only [Dev.noneHeld, Bool.and_eq_true, beq_iff_eq]
  exact ⟨fun ⟨⟨h1, h2⟩, h3⟩ y => by cases y <;> assumption, fun h => ⟨⟨h _, h _⟩, h _⟩⟩

/-- GEN holds nothing once no family does. -/
theorem Dev.genScrubDone_eq (d : Dev) (x : Family) : d.genScrubDone x =
    if (d.scrubDone x).fld Reg.GEN_STAT.HELD_KIND = 1 ∧ (d.scrubDone x).noneHeld = true
    then (d.scrubDone x).put Reg.GEN_STAT.HELD_KIND 0 else d.scrubDone x := by
  unfold Dev.genScrubDone Dev.iff Dev.noneHeld
  refine if_congr ?_ rfl rfl
  simp only [Bool.and_eq_true, beq_iff_eq, and_assoc]

/-- A field other than GEN's own reads as after the family's scrub. -/
theorem Dev.genScrubDone_fld (d : Dev) (x : Family) {f : Fld} (hf : f.key ≠ Reg.GEN_STAT.HELD_KIND.key) :
    (d.genScrubDone x).fld f = (d.scrubDone x).fld f := by
  rw [Dev.genScrubDone_eq]
  split
  · exact Dev.fld_put_ne _ _ hf
  · rfl

theorem Dev.genScrubDone_fam (d : Dev) (x : Family) : (d.genScrubDone x).fam x = (d.scrubDone x).fam x := by
  rw [Dev.genScrubDone_eq]
  split <;> cases x <;> rfl

theorem Dev.scrubDone_idle {x : Family} (h : d.on x.scrubbing = false) : d.scrubDone x = d := by
  unfold Dev.scrubDone
  rw [if_neg (by simp [h])]

/-- Settles O37: one lemma for the commands of a command register, the refusals in their order, and the ends of node commands
and scrubs. -/
theorem tableCommandsAndRefusals : Obligations.TableCommandsAndRefusals := by
  unfold Obligations.TableCommandsAndRefusals
  refine ⟨fun s m t view loc lt hup h13 h14 => ?_, fun d x t loc => ?_, fun s x hup => ?_⟩
  · intro v l
    have hloc := loc.isLt
    have hlt := lt.isLt
    refine List.forall_mem_cons.2 ⟨tblCommand_spec (c := ⟨1, t, loc.toNat, 0⟩) (run := (·.doStageWrite .pcl t loc.toNat)) hup h13 h14
      (exec_pclStageWrite ..) t.isLt (Nat.zero_lt_succ 3) hloc rfl rfl, ?_⟩
    refine List.forall_mem_cons.2 ⟨tblCommand_spec (c := ⟨2, t, loc.toNat, 0⟩) (run := (·.doStageDelete .pcl t loc.toNat)) hup h13 h14
      (exec_pclStageDelete ..) t.isLt (Nat.zero_lt_succ 3) hloc rfl rfl, ?_⟩
    refine List.forall_mem_cons.2 ⟨tblCommand_spec (c := ⟨3, t, loc.toNat, 0⟩) (run := (·.doStageRevert .pcl t loc.toNat)) hup h13 h14
      (exec_pclStageRevert ..) t.isLt (Nat.zero_lt_succ 3) hloc rfl rfl, ?_⟩
    refine List.forall_mem_cons.2 ⟨tblCommand_spec (c := ⟨4, t, loc.toNat, view.val⟩) (run := (·.doRead .pcl t loc.toNat view.val)) hup h13 h14
      (exec_pclRead ..) t.isLt view.isLt hloc rfl rfl, ?_⟩
    refine List.forall_mem_cons.2 ⟨tblCommand_spec (c := ⟨6, t, loc.toNat, view.val⟩) (run := (·.doReadLoc .pcl t loc.toNat view.val)) hup h13 h14
      (exec_pclReadLoc ..) t.isLt view.isLt hloc rfl rfl, ?_⟩
    refine List.forall_mem_cons.2 ⟨tblCommand_spec (c := ⟨5, 0, 0, 0⟩) (run := (·.doDiscard .pcl)) hup h13 h14
      (exec_pclDiscardRejected (s := s) m) (by decide) (by decide) (by decide) rfl rfl, ?_⟩
    refine List.forall_mem_cons.2 ⟨tblCommand_spec (c := ⟨1, t, loc.toNat, 0⟩) (run := (·.doStageWrite .tmg t loc.toNat)) hup h13 h14
      (exec_tmgStageWrite ..) t.isLt (Nat.zero_lt_succ 3) hloc rfl rfl, ?_⟩
    refine List.forall_mem_cons.2 ⟨tblCommand_spec (c := ⟨2, t, loc.toNat, 0⟩) (run := (·.doStageDelete .tmg t loc.toNat)) hup h13 h14
      (exec_tmgStageDelete ..) t.isLt (Nat.zero_lt_succ 3) hloc rfl rfl, ?_⟩
    refine List.forall_mem_cons.2 ⟨tblCommand_spec (c := ⟨3, t, loc.toNat, 0⟩) (run := (·.doStageRevert .tmg t loc.toNat)) hup h13 h14
      (exec_tmgStageRevert ..) t.isLt (Nat.zero_lt_succ 3) hloc rfl rfl, ?_⟩
    refine List.forall_mem_cons.2 ⟨tblCommand_spec (c := ⟨4, t, loc.toNat, view.val⟩) (run := (·.doRead .tmg t loc.toNat view.val)) hup h13 h14
      (exec_tmgRead ..) t.isLt view.isLt hloc rfl rfl, ?_⟩
    refine List.forall_mem_cons.2 ⟨tblCommand_spec (c := ⟨5, 0, 0, 0⟩) (run := (·.doDiscard .tmg)) hup h13 h14
      (exec_tmgDiscardRejected (s := s) m) (by decide) (by decide) (by decide) rfl rfl, ?_⟩
    refine List.forall_mem_cons.2 ⟨tblCommand_spec (c := ⟨1, t, lt.toNat, 0⟩) (run := (·.doStageWrite .tt t lt.toNat)) hup h13 h14
      (exec_ttStageWrite ..) t.isLt (Nat.zero_lt_succ 3) hlt rfl rfl, ?_⟩
    refine List.forall_mem_cons.2 ⟨tblCommand_spec (c := ⟨2, t, lt.toNat, 0⟩) (run := (·.doStageDelete .tt t lt.toNat)) hup h13 h14
      (exec_ttStageDelete ..) t.isLt (Nat.zero_lt_succ 3) hlt rfl rfl, ?_⟩
    refine List.forall_mem_cons.2 ⟨tblCommand_spec (c := ⟨3, t, lt.toNat, 0⟩) (run := (·.doStageRevert .tt t lt.toNat)) hup h13 h14
      (exec_ttStageRevert ..) t.isLt (Nat.zero_lt_succ 3) hlt rfl rfl, ?_⟩
    refine List.forall_mem_cons.2 ⟨tblCommand_spec (c := ⟨4, t, lt.toNat, view.val⟩) (run := (·.doRead .tt t lt.toNat view.val)) hup h13 h14
      (exec_ttRead ..) t.isLt view.isLt hlt rfl rfl, ?_⟩
    refine List.forall_mem_cons.2 ⟨tblCommand_spec (c := ⟨5, 0, 0, 0⟩) (run := (·.doDiscard .tt)) hup h13 h14
      (exec_ttDiscardRejected (s := s) m) (by decide) (by decide) (by decide) rfl rfl, ?_⟩
    exact fun _ h => absurd h List.not_mem_nil
  · intro pend held key ops
    refine ⟨fun h => Dev.staging_refused (if_pos h) t loc, fun h hp => Dev.staging_refused ?_ t loc,
      fun h hp hs => Dev.staging_noTarget (Dev.stageRefusal_none h hp) fun w => if_pos hs,
      fun h hp hs hk hl => Dev.staging_noTarget (Dev.stageRefusal_none h hp) (Dev.target_badLoc hs hk hl),
      fun l view ht => ⟨fun hv => ?_, fun v hv hlen => ?_⟩, fun hp => if_pos hp, fun hp h => ?_, fun hp hh hr => ?_⟩
    · unfold Dev.stageRefusal
      rw [if_neg h, if_pos hp]
    · rw [Dev.doRead_none ht hv]
      exact ⟨rfl, fun i hi => (Dev.each_word x _ _ d hi).trans rfl⟩
    · rw [Dev.doRead_some ht hv]
      exact ⟨rfl, Dev.readInto_some x v hlen⟩
    · unfold Dev.doDiscard
      rw [if_neg (by simp only [pend] at hp; simp [hp]), if_pos (by rcases h with h | h <;> simp [h])]
    · rw [Dev.doDiscard_done hp hh hr]
      obtain ⟨h1, h2, h3⟩ := d.famDiscard_spec x
      exact ⟨rfl, h1, h2, h3⟩
  · refine ⟨fun h => ?_, fun h => ?_, fun st v h => ?_, fun st h => ?_, fun h => ?_, fun h => ⟨fun hk hall => ?_, fun hn => ?_⟩⟩
    · refine .of_main_eq (exec_tblCmdDone ..) hup ?_
      show s.dev.tblDone x = s.dev
      unfold Dev.tblDone
      rw [h]
    · refine .of_main_eq (exec_tblCmdDone ..) hup ?_
      show s.dev.nodeDone = s.dev
      unfold Dev.nodeDone
      rw [h]
    · exact .of_main_eq hup (Dev.nodeDone_level h) (exec_tblCmdDone ..) rfl
    · exact .of_main_eq hup (Dev.nodeDone_status h) (exec_tblCmdDone ..) rfl
    · obtain ⟨h1, h2, h3, h4, h5, h6, h7⟩ := Dev.scrubDone_spec h
      refine .of_main_eq hup ⟨?_, ?_, ?_, fun hx => ?_, fun hx => ?_, fun hy hk => ?_⟩ (exec_scrubDone ..) rfl
      · exact (Dev.genScrubDone_fld _ _ (by cases x <;> decide)).trans h1
      · exact (Dev.genScrubDone_fld _ _ (by cases x <;> decide)).trans h2
      · rw [Dev.genScrubDone_fam, h3]
      · exact (Dev.genScrubDone_fld _ _ (by decide)).trans (h4 hx)
      · exact (Dev.genScrubDone_fld _ _ (by decide)).trans (h5 hx)
      · rw [Dev.genScrubDone_eq, if_pos]
        · exact Dev.fld_put_same ..
        · refine ⟨h7.trans hk, (Dev.noneHeld_iff _).2 fun y => ?_⟩
          by_cases hyx : y = x
          · rw [hyx, h1]
          · rw [h6 y hyx, hy y hyx]
    · refine .of_main_eq (exec_scrubDone ..) hup ?_
      rw [Dev.genScrubDone_eq, Dev.scrubDone_idle h, if_pos ⟨hk, (Dev.noneHeld_iff _).2 hall⟩]
    · refine .of_main_eq (exec_scrubDone ..) hup ?_
      rw [Dev.genScrubDone_eq, Dev.scrubDone_idle h, if_neg]
      rintro ⟨hk, hall⟩
      exact hn.elim (fun h => h hk) fun ⟨y, hy⟩ => hy ((Dev.noneHeld_iff _).1 hall y)

end Sys2Proof.Machine
end

section
/-!
PROOFS. The bonding stage (R115 to R121): what releasing a frame, moving E and declaring numbers lost change, and the line mode.
-/
namespace Sys2Proof.Machine

variable {d e : Dev} {g : Nat}

/-! ### What the bonding stage changes -/

/-- The registers that the release of frames of a group changes. -/
def bondKey (g k : Nat) : Prop :=
  k = Reg.LN_BOND_STAT.POOL_USED.key ∨ k = Reg.LN_BOND_STAT.MAX_HOLD.key ∨ k = (Reg.LN_BOND_GRP_STAT.EXP_SEQ g).key ∨
    ∃ c < 14, k = (Reg.LN_BOND_CNT.COUNT c).key

/-- Frames of group `g` were released and its numbers moved: of the line's registers only those of `bondKey` changed, no other
group, and not the group's start timer. -/
structure Dev.BondOnly (g : Nat) (d e : Dev) : Prop where
  regs : ∀ k, 0x100000 ≤ k / 32 → k / 32 < 0x200000 → ¬ bondKey g k → Tbl.get e.regs k (Reg.rst k) = Tbl.get d.regs k (Reg.rst k)
  others : ∀ j, j ≠ g → e.group j = d.group j
  timer : (e.group g).timer = (d.group g).timer

namespace Dev.BondOnly

theorem refl (g : Nat) (d : Dev) : d.BondOnly g d := ⟨fun _ _ _ _ => rfl, fun _ _ => rfl, rfl⟩

theorem trans {f : Dev} (h : d.BondOnly g e) (h' : e.BondOnly g f) : d.BondOnly g f :=
  ⟨fun k h1 h2 h3 => (h'.regs k h1 h2 h3).trans (h.regs k h1 h2 h3), fun j hj => (h'.others j hj).trans (h.others j hj), h'.timer.trans h.timer⟩

theorem put (h : d.BondOnly g e) {f : Fld} (hf : f.key / 32 < 0x100000 ∨ 0x200000 ≤ f.key / 32 ∨ bondKey g f.key) (v : Nat) :
    d.BondOnly g (e.put f v) := by
  refine ⟨fun k h1 h2 h3 => ?_, h.others, h.timer⟩
  have hne : k ≠ f.key := by
    rintro rfl
    rcases hf with hf | hf | hf
    · omega
    · omega
    · exact h3 hf
  rw [Dev.reg_put, if_neg hne]
  exact h.regs k h1 h2 h3

theorem count (h : d.BondOnly g e) {c : Nat} (hc : c < 14) (n : Nat) : d.BondOnly g (e.bondCnt c n) :=
  h.put (f := Reg.LN_BOND_CNT.COUNT c) (.inr (.inr (.inr (.inr (.inr ⟨c, hc, rfl⟩))))) _

theorem setGroup (h : d.BondOnly g e) {x : BGroup} (hx : x.timer = (e.group g).timer) : d.BondOnly g (e.setGroup g x) :=
  ⟨h.regs, fun j hj => (e.group_setGroup_ne g x hj).trans (h.others j hj), by rw [Dev.group_setGroup, hx, h.timer]⟩

theorem setExp (h : d.BondOnly g e) (v : Nat) : d.BondOnly g (e.setExp g v) :=
  (h.setGroup (x := { e.group g with exp := some (v % 65536) }) rfl).put (f := Reg.LN_BOND_GRP_STAT.EXP_SEQ g) (.inr (.inr (.inr (.inr (.inl rfl))))) _

end Dev.BondOnly

theorem Dev.group_congr (h : e.groups = d.groups) (g : Nat) : e.group g = d.group g := by rw [Dev.group, h]; rfl

/-- A frame for a line's input buffer enters it or is dropped there. -/
theorem Dev.arrive_line {f : Frame} (h : 448 ≤ f.localIn) : d.arrive f = d.bump (Reg.PCL_SLICE_IN_DROP.COUNT (sliceOf f.localIn)) ∨
    d.arrive f = d.setBuf f.localIn (d.buf f.localIn ++ [f]) := by
  unfold Dev.arrive
  dsimp only
  split
  · exact .inl rfl
  · exact .inr (if_pos h)

/-- What the release of a frame changes: the count, a buffer or a drop count. -/
theorem Dev.bondRelease_spec (d : Dev) (g : Nat) (f : Frame) : d.BondOnly g (d.bondRelease g f) ∧ (d.bondRelease g f).groups = d.groups ∧
    (∀ c < 14, (d.bondRelease g f).fld (Reg.LN_BOND_CNT.COUNT c) = (d.bondCnt bRel 1).fld (Reg.LN_BOND_CNT.COUNT c)) ∧
    (d.bondRelease g f).tm = d.tm := by
  let x : Frame := { f with
    bondFlow := 2 ^ 15 + d.fld (Reg.LN_BOND_GRP_CFG.FLOW g), localIn := 456 + d.fld (Reg.LN_BOND_GRP_CFG.FLOW g) % 4
    slice := d.fld (Reg.LN_BOND_GRP_CFG.FLOW g) % 4 }
  have hone : d.BondOnly g (d.bondCnt bRel 1) := (Dev.BondOnly.refl g d).count (by decide) 1
  have hx : 448 ≤ x.localIn := by show 448 ≤ 456 + _; omega
  have hrel : d.bondRelease g f = (d.bondCnt bRel 1).arrive x := rfl
  rw [hrel]
  rcases Dev.arrive_line (d := d.bondCnt bRel 1) hx with h | h <;> rw [h]
  · have hk : (Reg.PCL_SLICE_IN_DROP.COUNT (sliceOf x.localIn)).key / 32 ≥ 0x200000 := by
      simp only [Fld.key, Reg.PCL_SLICE_IN_DROP.COUNT]
      omega
    refine ⟨hone.put (.inr (.inl hk)) _, rfl, fun c hc => Dev.fld_put_ne _ _ ?_, rfl⟩
    intro he
    rw [← he] at hk
    simp only [Fld.key, Reg.LN_BOND_CNT.COUNT] at hk
    omega
  · exact ⟨⟨hone.regs, hone.others, hone.timer⟩, rfl, fun _ _ => rfl, rfl⟩

/-- The counters of the bonding stage. -/
theorem Dev.bondCnt_fld (d : Dev) (c n k : Nat) : (d.bondCnt c n).fld (Reg.LN_BOND_CNT.COUNT k) =
    if k = c then min (2 ^ 32 - 1) (d.fld (Reg.LN_BOND_CNT.COUNT c) + n) else d.fld (Reg.LN_BOND_CNT.COUNT k) := by
  rw [Dev.bondCnt, Dev.bumpBy, Dev.fld_put]
  have hk : (Reg.LN_BOND_CNT.COUNT k).key = (Reg.LN_BOND_CNT.COUNT c).key ↔ k = c := by
    simp only [Fld.key, Reg.LN_BOND_CNT.COUNT]
    omega
  refine if_congr hk (Nat.mod_eq_of_lt ?_) rfl
  show min (2 ^ 32 - 1) _ < 2 ^ 32
  omega

theorem Dev.bondRelease_cnt (d : Dev) (g : Nat) (f : Frame) {k : Nat} (hk : k < 14) : (d.bondRelease g f).fld (Reg.LN_BOND_CNT.COUNT k) =
    if k = bRel then min (2 ^ 32 - 1) (d.fld (Reg.LN_BOND_CNT.COUNT bRel) + 1) else d.fld (Reg.LN_BOND_CNT.COUNT k) :=
  ((d.bondRelease_spec g f).2.2.1 k hk).trans (d.bondCnt_fld ..)

@[simp] theorem Dev.bondCnt_group (d : Dev) (c n g : Nat) : (d.bondCnt c n).group g = d.group g := rfl

@[simp] theorem Dev.setExp_group (d : Dev) (g v : Nat) : (d.setExp g v).group g = { d.group g with exp := some (v % 65536) } :=
  Dev.group_setGroup ..

theorem Dev.setExp_cnt (d : Dev) (g v k : Nat) (hk : k < 14) : (d.setExp g v).fld (Reg.LN_BOND_CNT.COUNT k) = d.fld (Reg.LN_BOND_CNT.COUNT k) := by
  refine Dev.fld_put_ne _ _ ?_
  simp only [Fld.key, Reg.LN_BOND_CNT.COUNT, Reg.LN_BOND_GRP_STAT.EXP_SEQ]
  omega

theorem Dev.setExp_shown (d : Dev) (g v : Nat) : (d.setExp g v).fld (Reg.LN_BOND_GRP_STAT.EXP_SEQ g) = v % 65536 :=
  (Dev.fld_put_same ..).trans (Nat.mod_mod ..)

/-- A held frame's cells return and the longest hold is kept. -/
def Dev.heldFreed (d : Dev) (h : HeldFrame) : Dev :=
  (d.poolFree h.cells).put Reg.LN_BOND_STAT.MAX_HOLD (min 511 (max ((d.core - h.at_) * 800 / 1000000) (d.fld Reg.LN_BOND_STAT.MAX_HOLD)))

theorem Dev.releaseHeld_eq (d : Dev) (g : Nat) (h : HeldFrame) : d.releaseHeld g h =
    ((d.heldFreed h).setGroup g { d.group g with held := (d.group g).held.filter (fun y => y.ord != h.ord) }).bondRelease g h.f := rfl

theorem Dev.heldFreed_only (d : Dev) (g : Nat) (h : HeldFrame) : d.BondOnly g (d.heldFreed h) := by
  have hused : d.BondOnly g { d with tm := { d.tm with bondUsed := d.tm.bondUsed - h.cells } } := ⟨fun _ _ _ _ => rfl, fun _ _ => rfl, rfl⟩
  have hpool := hused.put (f := Reg.LN_BOND_STAT.POOL_USED) (.inr (.inr (.inl rfl))) (d.tm.bondUsed - h.cells)
  exact hpool.put (f := Reg.LN_BOND_STAT.MAX_HOLD) (.inr (.inr (.inr (.inl rfl)))) _

theorem Dev.releaseHeld_only (d : Dev) (g : Nat) (h : HeldFrame) : d.BondOnly g (d.releaseHeld g h) :=
  ((d.heldFreed_only g h).setGroup (x := { d.group g with held := (d.group g).held.filter (fun y => y.ord != h.ord) }) rfl).trans
    (Dev.bondRelease_spec _ g h.f).1

theorem Dev.releaseHeld_group (d : Dev) (g : Nat) (h : HeldFrame) :
    (d.releaseHeld g h).group g = { d.group g with held := (d.group g).held.filter (fun y => y.ord != h.ord) } := by
  rw [Dev.releaseHeld_eq, Dev.group_congr (Dev.bondRelease_spec _ g h.f).2.1, Dev.group_setGroup]

theorem Dev.releaseHeld_cnt (d : Dev) (g : Nat) (h : HeldFrame) {k : Nat} (hk : k < 14) :
    (d.releaseHeld g h).fld (Reg.LN_BOND_CNT.COUNT k) =
      if k = bRel then min (2 ^ 32 - 1) (d.fld (Reg.LN_BOND_CNT.COUNT bRel) + 1) else d.fld (Reg.LN_BOND_CNT.COUNT k) := by
  have hfreed (k : Nat) (hk : k < 14) : (d.heldFreed h).fld (Reg.LN_BOND_CNT.COUNT k) = d.fld (Reg.LN_BOND_CNT.COUNT k) := by
    refine (Dev.fld_put_ne _ _ ?_).trans (Dev.fld_put_ne _ _ ?_) <;>
      simp only [Fld.key, Reg.LN_BOND_CNT.COUNT, Reg.LN_BOND_STAT.MAX_HOLD, Reg.LN_BOND_STAT.POOL_USED] <;> omega
  rw [Dev.releaseHeld_eq, Dev.bondRelease_cnt _ _ _ hk, Dev.setGroup_fld, Dev.setGroup_fld, hfreed k hk, hfreed bRel (by decide)]

/-! ### Declaring numbers lost -/

theorem Dev.declareGo_only (g dist e : Nat) (k : Nat) (d : Dev) : d.BondOnly g (Dev.declareTo.go g dist e k d) := by
  induction k generalizing d with
  | zero => exact .refl g d
  | succ k ih =>
    unfold Dev.declareTo.go
    split
    · exact .refl g d
    · next h _ => exact (d.releaseHeld_only g h).trans (ih _)

theorem Dev.declareTo_only (d : Dev) (g dist : Nat) : d.BondOnly g (d.declareTo g dist) := by
  unfold Dev.declareTo
  split
  · exact .refl g d
  · exact ((Dev.declareGo_only ..).count (by decide) _).setExp _

theorem Dev.releaseAll_only (d : Dev) (g : Nat) : d.BondOnly g (d.releaseAll g) := by
  unfold Dev.releaseAll
  split
  · exact .refl g d
  · exact d.declareTo_only g _

theorem Dev.bondRun_only (g fuel : Nat) (d : Dev) : d.BondOnly g (d.bondRun g fuel) := by
  induction fuel generalizing d with
  | zero => exact .refl g d
  | succ fuel ih =>
    unfold Dev.bondRun
    split
    · exact .refl g d
    · split
      · exact .refl g d
      · split
        · exact .refl g d
        · next h _ =>
          split
          · exact ((d.releaseHeld_only g h).setExp _).trans (ih _)
          · dsimp only
            split
            · exact .refl g d
            · exact (((Dev.BondOnly.refl g d).count (by decide) _).setExp _).trans (ih _)

theorem Dev.bondGo_only (d : Dev) (g : Nat) : d.BondOnly g (d.bondGo g) := d.bondRun_only g _

/-- A group that holds nothing releases nothing. -/
theorem Dev.bondGo_empty (h : (d.group g).held = []) : d.bondGo g = d := by
  unfold Dev.bondGo
  rw [h]
  show d.bondRun g 2 = d
  unfold Dev.bondRun
  rw [h]
  split
  · rfl
  · split <;> rfl

variable {d e : Dev} {g : Nat}

/-! ### A group that holds one frame -/

/-- Which held frames are nearer than a distance, with none nearer. -/
theorem Dev.declareTo_none {ex dist : Nat} (he : (d.group g).exp = some ex)
    (hn : (d.group g).held.filter (fun h => decide (seqDist h.seq ex < dist)) = []) :
    d.declareTo g dist = (d.bondCnt bGapLost dist).setExp g (ex + dist) := by
  unfold Dev.declareTo
  simp only [he, hn, List.length_nil, Nat.sub_zero]
  rfl

theorem Dev.declareTo_one {ex dist : Nat} {h : HeldFrame} (he : (d.group g).exp = some ex) (hh : (d.group g).held = [h])
    (hd : seqDist h.seq ex < dist) : d.declareTo g dist = ((d.releaseHeld g h).bondCnt bGapLost (dist - 1)).setExp g (ex + dist) := by
  have hnear : (d.group g).held.filter (fun h => decide (seqDist h.seq ex < dist)) = [h] := by rw [hh]; simp [hd]
  unfold Dev.declareTo
  simp only [he, hnear, List.length_singleton]
  unfold Dev.declareTo.go
  rw [hnear]
  rfl

/-- The release of all of a group that holds nothing, or one frame. -/
theorem Dev.releaseAll_empty (hh : (d.group g).held = []) :
    d.releaseAll g = ((d.group g).exp.map fun ex => (d.bondCnt bGapLost 0).setExp g ex).getD d := by
  unfold Dev.releaseAll
  cases he : (d.group g).exp with
  | none => rfl
  | some ex =>
    rw [hh]
    exact Dev.declareTo_none he (by rw [hh]; rfl)

theorem Dev.releaseAll_one {ex : Nat} {h : HeldFrame} (he : (d.group g).exp = some ex) (hh : (d.group g).held = [h]) :
    d.releaseAll g = ((d.releaseHeld g h).bondCnt bGapLost (seqDist h.seq ex)).setExp g (ex + (seqDist h.seq ex + 1)) := by
  unfold Dev.releaseAll
  rw [he, hh]
  simp only [List.map_cons, List.map_nil, List.foldl_cons, List.foldl_nil, Nat.zero_max]
  exact Dev.declareTo_one he hh (Nat.lt_succ_self _)

/-! ### Closing a group -/

theorem Dev.bondDisable_eq (d : Dev) (g : Nat) : d.bondDisable g =
    (((d.releaseAll g).setGroup g {}).put (Reg.LN_BOND_GRP_CFG.EN g) 0).put (Reg.LN_BOND_GRP_CFG.STATE g) gIdle := rfl

/-- The fields of a group's configuration. -/
def grpFlds (g : Nat) : List Fld := [Reg.LN_BOND_GRP_CFG.EN g, Reg.LN_BOND_GRP_CFG.STATE g]

/-- What the closing of a group leaves as it was: of the line's registers all but those that releasing changes and its own
state, and every other group. -/
theorem Dev.bondDisable_spec (d : Dev) (g : Nat) : (d.bondDisable g).group g = {} ∧ (d.bondDisable g).fld (Reg.LN_BOND_GRP_CFG.EN g) = 0 ∧
    (d.bondDisable g).fld (Reg.LN_BOND_GRP_CFG.STATE g) = gIdle ∧ (∀ j, j ≠ g → (d.bondDisable g).group j = d.group j) ∧
    (∀ k, k ∉ (grpFlds g).map Fld.key → Tbl.get (d.bondDisable g).regs k (Reg.rst k) = Tbl.get (d.releaseAll g).regs k (Reg.rst k)) ∧
    ∀ k, 0x100000 ≤ k / 32 → k / 32 < 0x200000 → ¬ bondKey g k → k ∉ (grpFlds g).map Fld.key →
      Tbl.get (d.bondDisable g).regs k (Reg.rst k) = Tbl.get d.regs k (Reg.rst k) := by
  have hne : (Reg.LN_BOND_GRP_CFG.EN g).key ≠ (Reg.LN_BOND_GRP_CFG.STATE g).key := by
    simp only [Fld.key, Reg.LN_BOND_GRP_CFG.EN, Reg.LN_BOND_GRP_CFG.STATE]
    omega
  have hregs : ∀ k, k ∉ (grpFlds g).map Fld.key → Tbl.get (d.bondDisable g).regs k (Reg.rst k) = Tbl.get (d.releaseAll g).regs k (Reg.rst k) := by
    intro k hk
    have hk : k ≠ (Reg.LN_BOND_GRP_CFG.EN g).key ∧ k ≠ (Reg.LN_BOND_GRP_CFG.STATE g).key := by simpa [grpFlds] using hk
    rw [Dev.bondDisable_eq, Dev.reg_put, if_neg hk.2, Dev.reg_put, if_neg hk.1]
    rfl
  refine ⟨Dev.group_setGroup .., (Dev.fld_put_ne _ _ hne).trans (Dev.fld_put_same ..), Dev.fld_put_same .., fun j hj => ?_, hregs,
    fun k h1 h2 h3 h4 => (hregs k h4).trans ((d.releaseAll_only g).regs k h1 h2 h3)⟩
  exact (Dev.group_setGroup_ne (d := d.releaseAll g) g {} hj).trans ((d.releaseAll_only g).others j hj)

/-- The closing of a group with its upstream number. -/
def Dev.grpClose (d : Dev) (g : Nat) : Dev := (d.bondDisable g).put (Reg.LN_BOND_GRP_STAT.TX_SEQ g) 0

/-- The closing of groups in order. -/
def Dev.grpsClose (d : Dev) (l : List Nat) : Dev := d.each l Dev.grpClose

/-- The bonding pool given back. -/
def Dev.poolGone (d : Dev) : Dev := { d with tm := { d.tm with bondSize := 0 } }

theorem Dev.bondClose_eq (d : Dev) : d.bondClose = (d.grpsClose ((List.range 1024).filter d.bondEn)).poolGone := by
  unfold Dev.bondClose
  generalize (List.range 1024).filter d.bondEn = l
  rfl

/-- A group that is closed. -/
def Dev.grpClosed (d : Dev) (g : Nat) : Prop :=
  d.group g = {} ∧ d.fld (Reg.LN_BOND_GRP_CFG.EN g) = 0 ∧ d.fld (Reg.LN_BOND_GRP_STAT.TX_SEQ g) = 0

/-- The keys of the registers of groups and of the counters, told apart. -/
theorem bondKey_apart {g j : Nat} (hj : j < 1024) : ¬ bondKey g (Reg.LN_BOND_GRP_CFG.EN j).key ∧ ¬ bondKey g (Reg.LN_BOND_GRP_STAT.TX_SEQ j).key := by
  unfold bondKey
  simp only [Fld.key, Reg.LN_BOND_GRP_CFG.EN, Reg.LN_BOND_GRP_STAT.TX_SEQ, Reg.LN_BOND_STAT.POOL_USED, Reg.LN_BOND_STAT.MAX_HOLD,
    Reg.LN_BOND_GRP_STAT.EXP_SEQ, Reg.LN_BOND_CNT.COUNT]
  constructor <;> rintro (h | h | h | ⟨c, hc, h⟩) <;> omega

theorem Dev.grpClose_closed (d : Dev) (g : Nat) : (d.grpClose g).grpClosed g := by
  obtain ⟨hg, hen, -⟩ := d.bondDisable_spec g
  refine ⟨hg, (Dev.fld_put_ne _ _ ?_).trans hen, Dev.fld_put_same ..⟩
  simp only [Fld.key, Reg.LN_BOND_GRP_CFG.EN, Reg.LN_BOND_GRP_STAT.TX_SEQ]
  omega

/-- The closing of a group leaves the registers of the line that are neither its own nor of the pool and the counters. -/
theorem Dev.grpClose_regs (d : Dev) (g : Nat) {k : Nat} (h1 : 0x100000 ≤ k / 32) (h2 : k / 32 < 0x200000) (h3 : ¬ bondKey g k)
    (h4 : k ∉ (Reg.LN_BOND_GRP_STAT.TX_SEQ g :: grpFlds g).map Fld.key) :
    Tbl.get (d.grpClose g).regs k (Reg.rst k) = Tbl.get d.regs k (Reg.rst k) := by
  rw [List.map_cons, List.mem_cons, not_or] at h4
  rw [Dev.grpClose, Dev.reg_put, if_neg h4.1]
  exact (d.bondDisable_spec g).2.2.2.2.2 k h1 h2 h3 h4.2

/-- The closing of another group leaves a closed group closed. -/
theorem Dev.grpClosed.close {j : Nat} (h : d.grpClosed j) (hj : j < 1024) (hne : j ≠ g) : (d.grpClose g).grpClosed j := by
  have hkey := bondKey_apart (g := g) hj
  have hother := (d.bondDisable_spec g).2.2.2.1 j hne
  refine ⟨hother.trans h.1, (d.grpClose_regs g ?_ ?_ hkey.1 ?_).trans h.2.1, (d.grpClose_regs g ?_ ?_ hkey.2 ?_).trans h.2.2⟩ <;>
    simp only [Fld.key, Reg.LN_BOND_GRP_CFG.EN, Reg.LN_BOND_GRP_STAT.TX_SEQ, grpFlds, Reg.LN_BOND_GRP_CFG.STATE, List.map_cons, List.map_nil,
      List.mem_cons, List.not_mem_nil, or_false, not_or] <;> omega

/-- Every group of the list is closed in the end. -/
theorem Dev.each_grpClose (l : List Nat) (hl : ∀ j ∈ l, j < 1024) (d : Dev) :
    ∀ j < 1024, (j ∈ l ∨ d.grpClosed j) → (d.grpsClose l).grpClosed j := by
  induction l generalizing d with
  | nil => exact fun j _ h => h.resolve_left List.not_mem_nil
  | cons g l ih =>
    intro j hj h
    refine ih (fun i hi => hl i (List.mem_cons_of_mem _ hi)) (d.grpClose g) j hj ?_
    by_cases hg : j = g
    · exact .inr (hg ▸ d.grpClose_closed g)
    · rcases h with h | h
      · exact .inl ((List.mem_cons.1 h).resolve_left hg)
      · exact .inr (h.close hj hg)

/-- A register of the line that no closing of a group changes. -/
theorem Dev.each_grpClose_regs (l : List Nat) (d : Dev) {k : Nat} (h1 : 0x100000 ≤ k / 32) (h2 : k / 32 < 0x200000)
    (h3 : ∀ g, ¬ bondKey g k) (h4 : ∀ g, k ∉ (Reg.LN_BOND_GRP_STAT.TX_SEQ g :: grpFlds g).map Fld.key) :
    Tbl.get (d.grpsClose l).regs k (Reg.rst k) = Tbl.get d.regs k (Reg.rst k) := by
  induction l generalizing d with
  | nil => rfl
  | cons g l ih => exact (ih (d.grpClose g)).trans (d.grpClose_regs g h1 h2 (h3 g) (h4 g))

variable {d e : Dev}

/-! ### The time reference (R113, R134) -/

/-- The device without its registers and its time base. -/
def Dev.offTime (d : Dev) : Dev := { d with regs := [], tim := {} }

theorem Dev.reRate_offTime (d : Dev) : d.reRate.offTime = d.offTime := by
  unfold Dev.reRate
  simp only [Dev.iff]
  split <;> split <;> rfl

theorem Dev.setPend_offTime (d : Dev) (p : Int) : (d.setPend p).offTime = d.offTime := Dev.reRate_offTime _

theorem Dev.iff_offTime (h : e.offTime = d.offTime) (b : Bool) {f : Dev → Dev} (hf : ∀ e : Dev, (f e).offTime = e.offTime) :
    (e.iff b f).offTime = d.offTime := by
  unfold Dev.iff
  split
  · exact (hf e).trans h
  · exact h

theorem Dev.trefEqd_offTime (d : Dev) (path : Bool) : (d.trefEqd path).offTime = d.offTime := by
  unfold Dev.trefEqd
  split
  · unfold Dev.ddsRecompute
    dsimp only
    refine Dev.iff_offTime (Dev.iff_offTime ?_ _ fun e => e.setPend_offTime _) _ fun e => rfl
    rfl
  · rfl

/-- The fields that a change of reference sets, besides the time base's. -/
def trefKeys : List Nat := [Reg.LN_PROT_STAT.TREF.key, Reg.LN_PROT_STAT.TREF_NONE.key, Reg.LN_PROT_EVT.TREF_CHG.key]

/-- A register that neither the time base nor the reference has. -/
def offTref (k : Nat) : Prop := (k / 32 < 0x80000 ∨ 0x80100 ≤ k / 32) ∧ k ∉ trefKeys

/-- The channel that should be the reference does not depend on what its change writes. -/
theorem Dev.trefWant_congr (hchip : e.chip = d.chip) (hr : ∀ k, offTref k → Tbl.get e.regs k (Reg.rst k) = Tbl.get d.regs k (Reg.rst k)) :
    e.trefWant = d.trefWant := by
  have hf (f : Fld) (h : offTref f.key) : e.fld f = d.fld f := hr _ h
  have hmode : e.lineMode = d.lineMode := by
    unfold Dev.lineMode
    rw [hf _ (by unfold offTref; decide)]
  have hside : e.sideChs e.activeSide = d.sideChs d.activeSide := by
    unfold Dev.activeSide
    rw [hf _ (by unfold offTref; decide)]
    unfold Dev.sideChs Dev.lnHere Dev.sideOf Dev.protBHere Dev.unit
    rw [hchip]
  have hfast (n : Nat) : e.fastDef n = d.fastDef n := by
    unfold Dev.fastDef
    rw [hf _ (by unfold offTref; decide)]
  have hframer (n : Nat) : e.framer n = d.framer n := by
    refine hf _ ⟨?_, ?_⟩
    · right
      simp only [Fld.key, Reg.LN_SYNC_STAT.STATE]
      omega
    · simp only [trefKeys, List.mem_cons, List.not_mem_nil, or_false, Fld.key, Reg.LN_SYNC_STAT.STATE, Reg.LN_PROT_STAT.TREF,
        Reg.LN_PROT_STAT.TREF_NONE, Reg.LN_PROT_EVT.TREF_CHG]
      omega
  have hup (n : Nat) : e.lnUp n = d.lnUp n := by
    unfold Dev.lnUp Dev.lnHere
    rw [hf _ (by unfold offTref; decide), hchip]
  unfold Dev.trefWant
  rw [hmode, hside, hf Reg.LN_LINE_MODE.TREF_CH (by unfold offTref; decide)]
  simp only [hfast, hframer, hup]

theorem Dev.trefWant_lt {n : Nat} (h : d.trefWant = some n) : n < 4 := by
  unfold Dev.trefWant at h
  split at h
  · have hm := List.mem_of_find?_eq_some h
    unfold Dev.sideChs at hm
    exact List.mem_range.1 (List.mem_of_mem_filter hm)
  · dsimp only at h
    split at h
    · next hup =>
      cases h
      simp only [Dev.lnUp, Dev.lnHere, Bool.and_eq_true, decide_eq_true_eq] at hup
      exact hup.1.1
    · cases h

theorem Dev.tref_congr (h1 : e.fld Reg.LN_PROT_STAT.TREF_NONE = d.fld Reg.LN_PROT_STAT.TREF_NONE)
    (h2 : e.fld Reg.LN_PROT_STAT.TREF = d.fld Reg.LN_PROT_STAT.TREF) : e.tref = d.tref := by
  rw [Dev.tref, Dev.tref, Dev.on, h1, h2]
  rfl

/-- The registers of a new reference. -/
def Dev.trefShown (d : Dev) (w : Option Nat) : Dev :=
  (match w with
    | some n => (d.put Reg.LN_PROT_STAT.TREF n).put Reg.LN_PROT_STAT.TREF_NONE 0
    | none => d.put Reg.LN_PROT_STAT.TREF_NONE 1).ev Reg.LN_PROT_EVT.TREF_CHG

theorem Dev.trefShown_tref (d : Dev) {w : Option Nat} (hw : ∀ n, w = some n → n < 4) : (d.trefShown w).tref = w := by
  unfold Dev.tref Dev.on
  cases w with
  | none => simp +decide [Dev.trefShown, Dev.ev, Dev.fld_put]
  | some n =>
    have hn : n % 2 ^ 2 = n := Nat.mod_eq_of_lt (hw n rfl)
    simp +decide [Dev.trefShown, Dev.ev, Dev.fld_put]
    exact hn

theorem Dev.trefShown_regs (d : Dev) (w : Option Nat) {k : Nat} (hk : k ∉ trefKeys) :
    Tbl.get (d.trefShown w).regs k (Reg.rst k) = Tbl.get d.regs k (Reg.rst k) := by
  simp only [trefKeys, List.mem_cons, List.not_mem_nil, or_false, not_or] at hk
  obtain ⟨h1, h2, h3⟩ := hk
  cases w <;> simp only [Dev.trefShown, Dev.ev, Dev.reg_put, if_neg h1, if_neg h2, if_neg h3]

theorem Dev.trefShown_offTime (d : Dev) (w : Option Nat) : (d.trefShown w).offTime = d.offTime := by cases w <;> rfl

/-- The build-out that a change from one channel to another takes. -/
def Dev.trefBuilt (d : Dev) (was w : Option Nat) : Dev :=
  match was, w with
  | some _, some n => { d.lineBuildOut n with tim := { (d.lineBuildOut n).tim with resume := true } }
  | _, _ => d

theorem Dev.trefUpdate_eq (d : Dev) : d.trefUpdate =
    if d.trefWant = d.tref then d else ((d.trefShown d.trefWant).trefBuilt d.tref d.trefWant).trefEqd true := by
  unfold Dev.trefUpdate
  dsimp only
  refine if_congr Iff.rfl rfl ?_
  cases d.trefWant <;> cases d.tref <;> rfl

theorem Dev.trefBuilt_regs (d : Dev) (was w : Option Nat) : (d.trefBuilt was w).regs = d.regs := by cases was <;> cases w <;> rfl

theorem Dev.trefBuilt_offTime (d : Dev) (was w : Option Nat) : (d.trefBuilt was w).offTime = d.offTime := by cases was <;> cases w <;> rfl

/-- A register that a change of reference leaves. -/
theorem Dev.trefUpdate_regs (d : Dev) {k : Nat} (hk : offTref k) : Tbl.get d.trefUpdate.regs k (Reg.rst k) = Tbl.get d.regs k (Reg.rst k) := by
  rw [Dev.trefUpdate_eq]
  split
  · rfl
  · rw [(Dev.TimOnly.trefEqd _ true).regs k hk.1, Dev.trefBuilt_regs, Dev.trefShown_regs _ _ hk.2]

theorem Dev.trefUpdate_offTime (d : Dev) : d.trefUpdate.offTime = d.offTime := by
  rw [Dev.trefUpdate_eq]
  split
  · rfl
  · rw [Dev.trefEqd_offTime, Dev.trefBuilt_offTime, Dev.trefShown_offTime]

/-- The reference is then the channel that should be it. -/
theorem Dev.trefUpdate_tref (d : Dev) : d.trefUpdate.tref = d.trefWant := by
  rw [Dev.trefUpdate_eq]
  split
  case isTrue h => exact h.symm
  case isFalse =>
    have hkeep (f : Fld) (h1 : f.key / 32 < 0x80000 ∨ 0x80100 ≤ f.key / 32) :
        (((d.trefShown d.trefWant).trefBuilt d.tref d.trefWant).trefEqd true).fld f = (d.trefShown d.trefWant).fld f := by
      rw [Dev.fld, (Dev.TimOnly.trefEqd _ true).regs _ h1, Dev.trefBuilt_regs]
      rfl
    have hshown := d.trefShown_tref (w := d.trefWant) fun n => Dev.trefWant_lt
    exact (Dev.tref_congr (hkeep _ (by decide)) (hkeep _ (by decide))).trans hshown

theorem Dev.trefUpdate_want (d : Dev) : d.trefUpdate.trefWant = d.trefWant := by
  have hrest := congrArg Dev.chip d.trefUpdate_offTime
  exact Dev.trefWant_congr hrest fun k hk => d.trefUpdate_regs hk

variable {d e : Dev}

/-! ### The line mode (R112, R121, R126) -/

/-- A write of the line mode that is refused. -/
def Dev.modeRefused (d : Dev) (v : Nat) : Prop :=
  ((List.range 4).filter d.lnHere).any d.actEn = true ∨ (v % 4 = 1 ∧ d.bondHere = false)

theorem Dev.lineModeWrite_refused {v : Nat} (h : d.modeRefused v) :
    d.lineModeWrite v = ((d.put Reg.LN_LINE_MODE.TREF_CH (bits v 2 2)).ev Reg.LN_PROT_EVT.MODE_REJ).trefUpdate := by
  unfold Dev.lineModeWrite
  exact if_pos (h.imp id fun ⟨h1, h2⟩ => ⟨h1, by simp [h2]⟩)

/-- The groups closed where the mode leaves bonding. -/
def Dev.modeLeft (d : Dev) (mode was : Nat) : Dev := if was = 1 ∧ mode ≠ 1 then d.bondClose else d

/-- The mode with its pool and its active side. -/
def Dev.modeSet (d : Dev) (mode was : Nat) : Dev :=
  let d2 := d.put Reg.LN_LINE_MODE.MODE mode
  let d3 := if mode = 1 ∧ was ≠ 1 then { d2 with tm := { d2.tm with bondSize := d2.poolCells } } else d2
  if mode = 2 ∧ was ≠ 2 then d3.put Reg.LN_PROT_STAT.ACTIVE 0 else d3

theorem Dev.lineModeWrite_taken {v : Nat} (h : ¬ d.modeRefused v) : d.lineModeWrite v =
    (((d.put Reg.LN_LINE_MODE.TREF_CH (bits v 2 2)).modeLeft (v % 4) d.lineMode).modeSet (v % 4) d.lineMode).trefUpdate := by
  unfold Dev.lineModeWrite
  exact if_neg fun h' => h (h'.imp id fun ⟨h1, h2⟩ => ⟨h1, by simpa using h2⟩)

/-- The pool that MODE 1 takes up. -/
theorem Dev.modeSet_spec (d : Dev) (mode was : Nat) : (d.modeSet mode was).groups = d.groups ∧
    (∀ k, k ≠ Reg.LN_LINE_MODE.MODE.key → k ≠ Reg.LN_PROT_STAT.ACTIVE.key →
      Tbl.get (d.modeSet mode was).regs k (Reg.rst k) = Tbl.get d.regs k (Reg.rst k)) ∧
    (d.modeSet mode was).fld Reg.LN_LINE_MODE.MODE = mode % 4 ∧
    (mode = 2 → was ≠ 2 → (d.modeSet mode was).fld Reg.LN_PROT_STAT.ACTIVE = 0) ∧
    (mode = 1 → was ≠ 1 → (d.modeSet mode was).tm.bondSize = d.poolCells) ∧
    (mode ≠ 1 → (d.modeSet mode was).tm = d.tm) := by
  have hpool : (d.put Reg.LN_LINE_MODE.MODE mode).poolCells = d.poolCells := by
    unfold Dev.poolCells
    rw [Dev.fld_put_ne _ _ (by decide)]
  unfold Dev.modeSet
  by_cases h1 : mode = 1 ∧ was ≠ 1
  · have h2 : ¬ (mode = 2 ∧ was ≠ 2) := by omega
    simp only [if_pos h1, if_neg h2]
    refine ⟨rfl, fun k hk _ => (Dev.reg_put ..).trans (if_neg hk), Dev.fld_put_same .., fun h h' => absurd ⟨h, h'⟩ h2, fun _ _ => hpool,
      fun h => absurd h1.1 h⟩
  · simp only [if_neg h1]
    by_cases h2 : mode = 2 ∧ was ≠ 2
    · simp only [if_pos h2]
      refine ⟨rfl, fun k hk hk' => ?_, (Dev.fld_put_ne _ _ (by decide)).trans (Dev.fld_put_same ..), fun _ _ => Dev.fld_put_same ..,
        fun h h' => absurd ⟨h, h'⟩ h1, fun _ => rfl⟩
      rw [Dev.reg_put, if_neg hk', Dev.reg_put, if_neg hk]
    · simp only [if_neg h2]
      exact ⟨rfl, fun k hk _ => (Dev.reg_put ..).trans (if_neg hk), Dev.fld_put_same .., fun h h' => absurd ⟨h, h'⟩ h2,
        fun h h' => absurd ⟨h, h'⟩ h1, fun _ => rfl⟩

/-- A register of the line that is no group's and of no counter is left when every group is closed. -/
theorem Dev.grpsClose_regs (l : List Nat) (d : Dev) {k : Nat} (h : 0x131080 ≤ k / 32 ∧ k / 32 < 0x132000 ∨ k / 32 = 0x131000) :
    Tbl.get (d.grpsClose l).regs k (Reg.rst k) = Tbl.get d.regs k (Reg.rst k) := by
  refine d.each_grpClose_regs l (by omega) (by omega) (fun g => ?_) fun g => ?_
  · unfold bondKey
    simp only [Fld.key, Reg.LN_BOND_STAT.POOL_USED, Reg.LN_BOND_STAT.MAX_HOLD, Reg.LN_BOND_GRP_STAT.EXP_SEQ, Reg.LN_BOND_CNT.COUNT]
    rintro (h | h | h | ⟨c, hc, h⟩) <;> omega
  · simp only [grpFlds, List.map_cons, List.map_nil, List.mem_cons, List.not_mem_nil, or_false, Fld.key, Reg.LN_BOND_GRP_CFG.EN,
      Reg.LN_BOND_GRP_CFG.STATE, Reg.LN_BOND_GRP_STAT.TX_SEQ]
    omega

/-! ### A group's configuration -/

/-- What a write of a group's configuration sets while it is disabled. -/
def grpCfg (g v : Nat) : List (Fld × Nat) :=
  [(Reg.LN_BOND_GRP_CFG.FLOW g, v % 2 ^ 15), (Reg.LN_BOND_GRP_CFG.MEMBERS g, bits v 16 4), (Reg.LN_BOND_GRP_CFG.US_EN g, bits v 20 1)]

/-- The fields of a group that its enabling sets. -/
def grpEn (g : Nat) : List (Fld × Nat) :=
  [(Reg.LN_BOND_GRP_CFG.EN g, 1), (Reg.LN_BOND_GRP_CFG.STATE g, gStart), (Reg.LN_BOND_GRP_STAT.TX_SEQ g, 0)]

theorem grpCfg_nodup (g v : Nat) : ((grpCfg g v ++ grpEn g).map (·.1.key)).Nodup := by
  simp only [grpCfg, grpEn, List.cons_append, List.nil_append, List.map_cons, List.map_nil, List.nodup_cons, List.mem_cons, List.not_mem_nil,
    or_false, not_or, not_false_eq_true, List.nodup_nil, and_true, Fld.key, Reg.LN_BOND_GRP_CFG.FLOW, Reg.LN_BOND_GRP_CFG.MEMBERS,
    Reg.LN_BOND_GRP_CFG.US_EN, Reg.LN_BOND_GRP_CFG.EN, Reg.LN_BOND_GRP_CFG.STATE, Reg.LN_BOND_GRP_STAT.TX_SEQ]
  omega

theorem grpCfg_lt (g v : Nat) : ∀ x ∈ grpCfg g v ++ grpEn g, x.2 < 2 ^ x.1.w := by
  simp only [grpCfg, grpEn, List.cons_append, List.nil_append, List.forall_mem_cons, List.not_mem_nil, false_imp_iff, implies_true, and_true]
  exact ⟨Nat.mod_lt _ (Nat.two_pow_pos 15), bits_lt .., bits_lt .., Nat.one_lt_two, by show gStart < 2 ^ 2; decide, Nat.two_pow_pos 16⟩

/-- A word that configures a group as `v` does, with EN as given. -/
structure GrpWord (v w : Word) (en : Bool) : Prop where
  flow : w.toNat % 2 ^ 15 = v.toNat % 2 ^ 15
  members : bits w.toNat 16 4 = bits v.toNat 16 4
  usEn : bits w.toNat 20 1 = bits v.toNat 20 1
  en : bitOf w.toNat 15 = en

theorem bits_zero (v n : Nat) : bits v 0 n = v % 2 ^ n := by rw [bits, Nat.pow_zero, Nat.div_one]

theorem grpWord_enable (v : Word) : GrpWord v (v ||| 0x8000#32) true := by
  have hb (lo n : Nat) (h : bits (0x8000#32 : Word).toNat lo n = 0) : bits (v ||| 0x8000#32).toNat lo n = bits v.toNat lo n := by
    rw [bits_or, h, Nat.or_zero]
  have hf := hb 0 15 (by decide)
  rw [bits_zero, bits_zero] at hf
  exact ⟨hf, hb _ _ (by decide), hb _ _ (by decide), by rw [bitOf_or]; exact Bool.or_true _⟩

/-- Bits of a word under a mask that keeps them. -/
theorem bits_and_keep (v m : Word) {lo n : Nat} (h : bits m.toNat lo n = 2 ^ n - 1) : bits (v &&& m).toNat lo n = bits v.toNat lo n := by
  have hand : bits (v &&& m).toNat lo n = bits v.toNat lo n &&& bits m.toNat lo n := by
    simp only [bits, BitVec.toNat_and, ← Nat.shiftRight_eq_div_pow, Nat.shiftRight_and_distrib, Nat.and_mod_two_pow]
  rw [hand, h, Nat.and_two_pow_sub_one_eq_mod, Nat.mod_eq_of_lt (bits_lt ..)]

theorem grpWord_disable (v : Word) : GrpWord v (v &&& 0xFFFF7FFF#32) false := by
  have hf := bits_and_keep v 0xFFFF7FFF#32 (lo := 0) (n := 15) (by decide)
  rw [bits_zero, bits_zero] at hf
  refine ⟨hf, bits_and_keep v _ (by decide), bits_and_keep v _ (by decide), ?_⟩
  rw [bitOf_eq_testBit, BitVec.toNat_and, Nat.testBit_and]
  exact Bool.and_false _

/-- The configuration that a group takes. -/
theorem Dev.bondCfg_puts (g : Nat) {v w : Word} {en : Bool} (h : GrpWord v w en) (hg : d.bondEn g = false) :
    d.bondCfg g w.toNat = if en then (d.puts (grpCfg g v.toNat)).bondEnable g else d.puts (grpCfg g v.toNat) := by
  have hflow : d.put (Reg.LN_BOND_GRP_CFG.FLOW g) w.toNat = d.put (Reg.LN_BOND_GRP_CFG.FLOW g) (v.toNat % 2 ^ 15) := by
    refine congrArg (fun x => ({ d with regs := Tbl.set d.regs (Reg.LN_BOND_GRP_CFG.FLOW g).key x } : Dev)) ?_
    exact h.flow.trans (Nat.mod_mod ..).symm
  unfold Dev.bondCfg
  rw [hg, h.en, h.members, h.usEn, hflow]
  rfl

theorem Dev.bondEnable_eq (d : Dev) (g : Nat) : d.bondEnable g = (d.setGroup g {}).puts (grpEn g) := rfl

theorem Dev.setGroup_puts (d : Dev) (g : Nat) (x : BGroup) (l : List (Fld × Nat)) : (d.puts l).setGroup g x = (d.setGroup g x).puts l := by
  induction l generalizing d with
  | nil => rfl
  | cons y l ih => exact ih (d.put y.1 y.2)

/-- What of the device a change of the reference leaves as it was. -/
structure Dev.TrefOnly (d e : Dev) : Prop where
  want : e.tref = e.trefWant
  regs : ∀ f : Fld, offTref f.key → e.fld f = d.fld f
  tm : e.tm = d.tm
  groups : e.groups = d.groups

theorem Dev.trefUpdate_only (d : Dev) : d.TrefOnly d.trefUpdate := by
  have htm := congrArg Dev.tm d.trefUpdate_offTime
  have hgroups := congrArg Dev.groups d.trefUpdate_offTime
  exact ⟨d.trefUpdate_tref.trans d.trefUpdate_want.symm, fun _ hf => d.trefUpdate_regs hf, htm, hgroups⟩

theorem offTref_mode : offTref Reg.LN_LINE_MODE.MODE.key ∧ offTref Reg.LN_LINE_MODE.TREF_CH.key ∧ offTref Reg.LN_PROT_EVT.MODE_REJ.key ∧
    offTref Reg.LN_PROT_STAT.ACTIVE.key := by unfold offTref; decide

/-- A refused write of the line mode. -/
theorem Dev.lineModeWrite_refused_spec {v : Nat} (h : d.modeRefused v) : let e := d.lineModeWrite v
    e.fld Reg.LN_LINE_MODE.MODE = d.fld Reg.LN_LINE_MODE.MODE ∧ e.fld Reg.LN_LINE_MODE.TREF_CH = bits v 2 2 ∧
    e.fld Reg.LN_PROT_EVT.MODE_REJ = 1 ∧ e.tref = e.trefWant ∧ e.tm = d.tm ∧ e.groups = d.groups := by
  obtain ⟨hmode, hch, hrej, -⟩ := offTref_mode
  have ht := ((d.put Reg.LN_LINE_MODE.TREF_CH (bits v 2 2)).ev Reg.LN_PROT_EVT.MODE_REJ).trefUpdate_only
  rw [Dev.lineModeWrite_refused h]
  refine ⟨(ht.regs _ hmode).trans ?_, (ht.regs _ hch).trans ?_, (ht.regs _ hrej).trans (Dev.fld_put_same ..), ht.want,
    ht.tm, ht.groups⟩
  · exact (Dev.fld_put_ne _ _ (by decide)).trans (Dev.fld_put_ne _ _ (by decide))
  · exact (Dev.fld_put_ne _ _ (by decide)).trans ((Dev.fld_put_same ..).trans (Nat.mod_eq_of_lt (bits_lt ..)))

theorem Dev.grpClosed.poolGone {j : Nat} (h : d.grpClosed j) : d.poolGone.grpClosed j := h

theorem Dev.poolGone_regs (d : Dev) : d.poolGone.regs = d.regs := rfl

theorem Dev.poolGone_size (d : Dev) : d.poolGone.tm.bondSize = 0 := rfl

/-- The groups that are closed where the mode leaves bonding. -/
theorem Dev.modeLeft_spec (d : Dev) (mode was : Nat) :
    (∀ k, 0x131080 ≤ k / 32 ∧ k / 32 < 0x132000 ∨ k / 32 = 0x131000 →
      Tbl.get (d.modeLeft mode was).regs k (Reg.rst k) = Tbl.get d.regs k (Reg.rst k)) ∧
    (mode ≠ 1 → was = 1 → (d.modeLeft mode was).tm.bondSize = 0 ∧ ∀ j < 1024, d.bondEn j = true → (d.modeLeft mode was).grpClosed j) ∧
    (mode = 1 → d.modeLeft mode was = d) := by
  unfold Dev.modeLeft
  by_cases h : was = 1 ∧ mode ≠ 1
  · rw [if_pos h, Dev.bondClose_eq]
    refine ⟨fun k hk => ?_, fun _ _ => ⟨Dev.poolGone_size _, fun j hj hen => ?_⟩, fun h' => absurd h' h.2⟩
    · rw [Dev.poolGone_regs, Dev.grpsClose_regs _ _ hk]
    · exact Dev.grpClosed.poolGone (d.each_grpClose _ (fun j hj => List.mem_range.1 (List.mem_of_mem_filter hj)) j hj
      (.inl (List.mem_filter.2 ⟨List.mem_range.2 hj, hen⟩)))
  · rw [if_neg h]
    exact ⟨fun _ _ => rfl, fun h1 h2 => absurd ⟨h2, h1⟩ h, fun _ => rfl⟩

/-- A write of the line mode that is taken. -/
theorem Dev.lineModeWrite_taken_spec {v : Nat} (h : ¬ d.modeRefused v) : let e := d.lineModeWrite v
    e.tref = e.trefWant ∧ e.fld Reg.LN_LINE_MODE.MODE = v % 4 ∧ e.fld Reg.LN_LINE_MODE.TREF_CH = bits v 2 2 ∧
    (v % 4 = 1 → d.lineMode ≠ 1 → e.tm.bondSize = min 65536 (max 1024 (d.fld Reg.LN_BOND_CTRL.POOL_CELLS))) ∧
    (v % 4 = 2 → d.lineMode ≠ 2 → e.fld Reg.LN_PROT_STAT.ACTIVE = 0) ∧
    (v % 4 ≠ 1 → d.lineMode = 1 → e.tm.bondSize = 0 ∧ ∀ j < 1024, d.bondEn j = true → e.grpClosed j) := by
  obtain ⟨hmode, hch, -, hact⟩ := offTref_mode
  let d0 := d.put Reg.LN_LINE_MODE.TREF_CH (bits v 2 2)
  let d1 := d0.modeLeft (v % 4) d.lineMode
  obtain ⟨hleft, hclosed, hsame⟩ := d0.modeLeft_spec (v % 4) d.lineMode
  obtain ⟨hgrp, hregs, hset, hside, hpool, htm⟩ := d1.modeSet_spec (v % 4) d.lineMode
  have ht := (d1.modeSet (v % 4) d.lineMode).trefUpdate_only
  rw [Dev.lineModeWrite_taken h]
  refine ⟨ht.want, ?_, ?_, fun h1 h2 => ?_, fun h1 h2 => (ht.regs _ hact).trans (hside h1 h2), fun h1 h2 => ⟨?_, fun j hj hen => ?_⟩⟩
  · exact ((ht.regs _ hmode).trans hset).trans (Nat.mod_mod ..)
  · refine (ht.regs _ hch).trans ((hregs _ (by decide) (by decide)).trans ((hleft _ (by decide)).trans ?_))
    exact (Dev.fld_put_same ..).trans (Nat.mod_eq_of_lt (bits_lt ..))
  · rw [ht.tm, hpool h1 h2, show d1 = d0 from hsame h1, Dev.poolCells, Dev.fld_put_ne _ _ (by decide)]
  · rw [ht.tm, htm h1]
    exact (hclosed h1 h2).1
  · have hen0 : d0.bondEn j = true := by
      have hk : (Reg.LN_BOND_GRP_CFG.EN j).key ≠ Reg.LN_LINE_MODE.TREF_CH.key := by
        simp only [Fld.key, Reg.LN_BOND_GRP_CFG.EN, Reg.LN_LINE_MODE.TREF_CH]
        omega
      rw [Dev.bondEn, Dev.on, Dev.fld_put_ne _ _ hk]
      exact hen
    obtain ⟨hg, he, htx⟩ := (hclosed h1 h2).2 j hj hen0
    have hkeep (f : Fld) (hf : 0x132000 ≤ f.key / 32 ∧ f.key / 32 < 0x134000) :
        (d1.modeSet (v % 4) d.lineMode).trefUpdate.fld f = d1.fld f := by
      have hnot : f.key ∉ trefKeys := by
        intro hm
        have hall : ∀ k ∈ trefKeys, k / 32 < 0x132000 := by decide
        have := hall _ hm
        omega
      refine (ht.regs f ⟨.inr (by omega), hnot⟩).trans (hregs _ ?_ ?_) <;> intro he <;> rw [he] at hf <;> revert hf <;> decide
    have hgroup : (d1.modeSet (v % 4) d.lineMode).trefUpdate.group j = d1.group j :=
      (Dev.group_congr ht.groups j).trans (Dev.group_congr hgrp j)
    refine ⟨hgroup.trans hg, (hkeep _ ?_).trans he, (hkeep _ ?_).trans htx⟩ <;>
      simp only [Fld.key, Reg.LN_BOND_GRP_CFG.EN, Reg.LN_BOND_GRP_STAT.TX_SEQ] <;> omega

/-- Where a group's configuration stands. -/
theorem grpCfg_key (g v : Nat) : ∀ x ∈ grpCfg g v, x.1.key / 32 = 0x132000 + g * 8 ∧ x.1.key % 32 ≠ 15 ∧ x.1.key % 32 ≠ 21 := by
  intro x hx
  simp only [grpCfg, List.mem_cons, List.not_mem_nil, or_false] at hx
  rcases hx with rfl | rfl | rfl <;>
    simp only [Fld.key, Reg.LN_BOND_GRP_CFG.FLOW, Reg.LN_BOND_GRP_CFG.MEMBERS, Reg.LN_BOND_GRP_CFG.US_EN] <;> omega

/-- What the closing of a group leaves of its configuration. -/
theorem Dev.bondDisable_cfg (d : Dev) {g : Nat} (hg : g < 1024) (v : Nat) : ∀ x ∈ grpCfg g v, (d.bondDisable g).fld x.1 = d.fld x.1 := by
  intro x hx
  obtain ⟨hadr, h15, h21⟩ := grpCfg_key g v x hx
  refine (d.bondDisable_spec g).2.2.2.2.2 _ (by omega) (by omega) ?_ ?_
  · unfold bondKey
    simp only [Fld.key, Reg.LN_BOND_STAT.POOL_USED, Reg.LN_BOND_STAT.MAX_HOLD, Reg.LN_BOND_GRP_STAT.EXP_SEQ, Reg.LN_BOND_CNT.COUNT] at hadr ⊢
    rintro (h | h | h | ⟨c, hc, h⟩) <;> omega
  · simp only [grpFlds, List.map_cons, List.map_nil, List.mem_cons, List.not_mem_nil, or_false, Fld.key, Reg.LN_BOND_GRP_CFG.EN,
      Reg.LN_BOND_GRP_CFG.STATE] at h15 h21 ⊢
    omega

/-- The counters after the closing of a group that holds one frame. -/
theorem Dev.bondDisable_one {g ex : Nat} {h : HeldFrame} (he : (d.group g).exp = some ex) (hh : (d.group g).held = [h]) {k : Nat} (hk : k < 14) :
    (d.bondDisable g).fld (Reg.LN_BOND_CNT.COUNT k) =
      if k = bGapLost then min (2 ^ 32 - 1) (d.fld (Reg.LN_BOND_CNT.COUNT bGapLost) + seqDist h.seq ex)
      else if k = bRel then min (2 ^ 32 - 1) (d.fld (Reg.LN_BOND_CNT.COUNT bRel) + 1) else d.fld (Reg.LN_BOND_CNT.COUNT k) := by
  have hnot : (Reg.LN_BOND_CNT.COUNT k).key ∉ (grpFlds g).map Fld.key := by
    simp only [grpFlds, List.map_cons, List.map_nil, List.mem_cons, List.not_mem_nil, or_false, Fld.key, Reg.LN_BOND_CNT.COUNT,
      Reg.LN_BOND_GRP_CFG.EN, Reg.LN_BOND_GRP_CFG.STATE]
    omega
  refine ((d.bondDisable_spec g).2.2.2.2.1 _ hnot).trans ?_
  show (d.releaseAll g).fld (Reg.LN_BOND_CNT.COUNT k) = _
  rw [Dev.releaseAll_one he hh, Dev.setExp_cnt _ _ _ _ hk, Dev.bondCnt_fld, Dev.releaseHeld_cnt _ _ _ (by decide : bGapLost < 14),
    Dev.releaseHeld_cnt _ _ _ hk, if_neg (by decide : ¬ bGapLost = bRel)]

/-- Closing a group that holds nothing touches only its own state and the count of its gaps. -/
theorem Dev.bondDisable_empty {g : Nat} (hh : (d.group g).held = []) : d.SameRegs (d.bondDisable g) [Reg.LN_BOND_GRP_CFG.EN g,
    Reg.LN_BOND_GRP_CFG.STATE g, Reg.LN_BOND_CNT.COUNT bGapLost, Reg.LN_BOND_GRP_STAT.EXP_SEQ g] := by
  intro k hk
  simp only [List.map_cons, List.map_nil, List.mem_cons, List.not_mem_nil, or_false, not_or] at hk
  obtain ⟨h1, h2, h3, h4⟩ := hk
  refine ((d.bondDisable_spec g).2.2.2.2.1 k (by simp [grpFlds, h1, h2])).trans ?_
  rw [Dev.releaseAll_empty hh]
  cases (d.group g).exp with
  | none => rfl
  | some ex =>
    show Tbl.get ((d.bondCnt bGapLost 0).setExp g ex).regs k (Reg.rst k) = _
    rw [Dev.setExp, Dev.reg_put, if_neg h4, Dev.setGroup_regs, Dev.bondCnt, Dev.bumpBy, Dev.reg_put, if_neg h3]

/-- Settles O32: the refused and the taken write, and a group's enabling and closing. -/
theorem lineModeAndGroups : Obligations.LineModeAndGroups := by
  unfold Obligations.LineModeAndGroups
  intro s m g v hup hl mode was bad cfg
  have hpoke : s.dev.poke m Reg.LN_LINE_MODE.ADR v = (s.dev.lineModeWrite v.toNat).refMoved := Dev.poke_LN_LINE_MODE _ _ _ hl
  refine ⟨fun h => ?_, fun h => ?_, fun hb => ⟨fun h => ?_, fun h => ?_, fun h => ?_, fun h => ?_⟩⟩
  · exact ⟨_, .of_main_eq (exec_lineModeWrite ..) hup hpoke, Dev.lineModeWrite_refused_spec h⟩
  · obtain ⟨h1, h2, h3, h4, h5, h6⟩ := Dev.lineModeWrite_taken_spec (d := s.dev) (v := v.toNat) h
    refine ⟨_, .of_main_eq (exec_lineModeWrite ..) hup hpoke, h1, h2, h3, h4, h5, fun hm hw => ⟨(h6 hm hw).1, fun k hk hen => ?_⟩⟩
    obtain ⟨hg, he, ht⟩ := (h6 hm hw).2 k hk hen
    exact ⟨hg, by rw [Dev.bondEn, Dev.on, he]; rfl, ht⟩
  · refine .of_main_eq (exec_bondGroupEnable ..) hup ((Dev.poke_LN_BOND_GRP_CFG _ _ _ _ hl hb).trans ?_)
    rw [Dev.bondCfg, if_pos h, (grpWord_enable v).en]
    rfl
  · refine .of_main_eq hup ?_ (exec_bondGroupEnable ..) ((Dev.poke_LN_BOND_GRP_CFG _ _ _ _ hl hb).trans
      (Dev.bondCfg_puts g (grpWord_enable v) h))
    rw [if_pos rfl, Dev.bondEnable_eq, Dev.setGroup_puts, ← Dev.puts_append]
    exact Dev.puts_sets (grpCfg_nodup g v.toNat) (grpCfg_lt g v.toNat) _
  · refine .of_main_eq hup ?_ (exec_bondGroupDisable ..) ((Dev.poke_LN_BOND_GRP_CFG _ _ _ _ hl hb).trans
      (Dev.bondCfg_puts g (grpWord_disable v) h))
    rw [if_neg Bool.false_ne_true]
    exact Dev.puts_sets (List.Nodup.of_append_left (List.map_append ▸ grpCfg_nodup g v.toNat))
      (fun x hx => grpCfg_lt g v.toNat x (List.mem_append_left _ hx)) _
  · have hdis : s.dev.poke m (Reg.LN_BOND_GRP_CFG.ADR g.val) (v &&& 0xFFFF7FFF#32) = s.dev.bondDisable g := by
      rw [Dev.poke_LN_BOND_GRP_CFG _ _ _ _ hl hb, Dev.bondCfg, if_pos h, (grpWord_disable v).en]
      rfl
    obtain ⟨hg, hen, hst, -⟩ := s.dev.bondDisable_spec g
    refine .of_main_eq hup ⟨hg, hen, hst, s.dev.bondDisable_cfg g.isLt v.toNat, Dev.bondDisable_empty, fun f ex hh he => ⟨?_, ?_⟩⟩
      (exec_bondGroupDisable ..) hdis
    · rw [Dev.bondDisable_one he hh (by decide), if_neg (by decide), if_pos rfl]
    · rw [Dev.bondDisable_one he hh (by decide), if_pos rfl]

end Sys2Proof.Machine
end

section
/-!
PROOFS. A unit handed to the bonding stage (R116 to R120): its faults, and a group that holds no frame.
-/
namespace Sys2Proof.Machine

variable {d e : Dev} {g n q ex : Nat} {u : Unit3}

/-! ### A unit of an enabled group on a member channel -/

/-- The frame that a data unit of a bonded flow carries. -/
def Dev.bondFrame (d : Dev) (n : Nat) (u : Unit3) : Frame :=
  { data := (u.data.drop 8).take ((u.data.drop 8).length - 4), srcKind := 3, encapId := u.port, encapCh := n, xgKind := 3,
    stamp := u.stamp, inPort := d.devAddr * 512 + (456 + n) }

theorem Dev.bondFrame_len (d : Dev) (n : Nat) (u : Unit3) : (d.bondFrame n u).len = u.data.length - 12 + 4 := by
  have hlen : (d.bondFrame n u).data.length = u.data.length - 12 := by
    simp only [Dev.bondFrame, List.length_take, List.length_drop]
    omega
  show (d.bondFrame n u).data.length + 4 = _
  rw [hlen]

theorem Dev.bondUnit_none (h : bondHeader u.data = none) : d.bondUnit n u = d.bondCnt bHdrErr 1 := by
  unfold Dev.bondUnit
  rw [h]

theorem Dev.bondUnit_unknown {ty : Nat} (h : bondHeader u.data = some (ty, g, q)) (hg : d.bondEn g = false) :
    d.bondUnit n u = d.bondCnt bUnkGroup 1 := by
  unfold Dev.bondUnit
  rw [h]
  exact if_pos (by rw [hg]; rfl)

theorem Dev.bondUnit_stranger {ty : Nat} (h : bondHeader u.data = some (ty, g, q)) (hg : d.bondEn g = true)
    (hn : n ∉ d.bondMembers g) : d.bondUnit n u = d.bondCnt bNotMember 1 := by
  unfold Dev.bondUnit
  rw [h]
  refine (if_neg (by rw [hg]; decide)).trans (if_pos ?_)
  simpa using hn

theorem Dev.bondUnit_marker (h : bondHeader u.data = some (1, g, q)) (hg : d.bondEn g = true) (hn : n ∈ d.bondMembers g) :
    d.bondUnit n u = ((d.setHigh g n q).bondCnt bMarkerRx 1).bondGo g := by
  unfold Dev.bondUnit
  rw [h]
  exact (if_neg (by rw [hg]; decide)).trans ((if_neg (by simpa using hn)).trans (if_pos rfl))

theorem Dev.bondUnit_data (h : bondHeader u.data = some (0, g, q)) (hg : d.bondEn g = true) (hn : n ∈ d.bondMembers g) :
    d.bondUnit n u = if d.gState g = gStart then (d.setHigh g n (q + 1)).bondStart g q (d.bondFrame n u)
      else (d.setHigh g n (q + 1)).bondData g q (d.bondFrame n u) := by
  unfold Dev.bondUnit
  rw [h]
  exact (if_neg (by rw [hg]; decide)).trans ((if_neg (by simpa using hn)).trans (if_neg (by decide)))

@[simp] theorem Dev.setHigh_group (d : Dev) (g n m : Nat) : (d.setHigh g n m).group g =
    { d.group g with high := Tbl.set (d.group g).high n (m % 65536), heard := setBit (d.group g).heard n true } :=
  Dev.group_setGroup ..

/-! ### The first frame of a starting group -/

theorem Dev.poolFlush_fits {cells : Nat} (h : d.tm.bondUsed + cells ≤ d.tm.bondSize) (fuel : Nat) : d.poolFlush cells (fuel + 1) = d :=
  if_pos h

/-- A frame that the pool has room for is held. -/
theorem Dev.bondHold_fits {f : Frame} (he : (d.group g).exp = some ex) (h : d.tm.bondUsed + cellsFor f.len ≤ d.tm.bondSize) :
    (d.bondHold g q f).1 = d.bondKeep g q f := by
  unfold Dev.bondHold
  rw [Dev.poolFlush_fits h]
  simp only [he, if_true]

theorem Dev.bondKeep_group (d : Dev) (g q : Nat) (f : Frame) : (d.bondKeep g q f).group g = { d.group g with
    held := (d.group g).held ++ [{ seq := q, at_ := d.core, ord := d.bondOrd, cells := cellsFor f.len, f := f }] } :=
  Dev.group_setGroup ..

theorem Dev.bondKeep_fld (d : Dev) {g q : Nat} (f : Frame) {x : Fld} (hx : x.key ≠ Reg.LN_BOND_STAT.POOL_USED.key) :
    (d.bondKeep g q f).fld x = d.fld x := Dev.fld_put_ne _ _ hx

theorem Dev.bondStart_first {f : Frame} (hx : (d.group g).exp = none) : d.bondStart g q f =
    (((d.setGroup g { d.group g with timer := true }).setExp g q).bondHold g q f).1 := by
  unfold Dev.bondStart
  rw [hx]

/-! ### A data frame for a running group that holds none -/

/-- A frame with the expected number is released and the number moves on. -/
theorem Dev.bondTake_empty {f : Frame} (hh : (d.group g).held = []) : d.bondTake g q f = (d.bondRelease g f).setExp g (q + 1) := by
  refine Dev.bondGo_empty ?_
  rw [Dev.setExp_group, Dev.group_congr (d.bondRelease_spec g f).2.1]
  exact hh

theorem Dev.bondTake_spec {f : Frame} (hh : (d.group g).held = []) :
    (d.bondTake g q f).group g = { d.group g with exp := some ((q + 1) % 65536) } ∧
    (d.bondTake g q f).fld (Reg.LN_BOND_GRP_STAT.EXP_SEQ g) = (q + 1) % 65536 ∧
    ∀ c < 14, (d.bondTake g q f).fld (Reg.LN_BOND_CNT.COUNT c) = (d.bondCnt bRel 1).fld (Reg.LN_BOND_CNT.COUNT c) := by
  obtain ⟨-, hgroups, hcnt, -⟩ := d.bondRelease_spec g f
  rw [Dev.bondTake_empty hh]
  refine ⟨by rw [Dev.setExp_group, Dev.group_congr hgroups], Dev.setExp_shown .., fun c hc => ?_⟩
  rw [Dev.setExp_cnt _ _ _ _ hc, hcnt c hc]

/-- A number's run of far frames: 0 unless the frame is far. -/
def Dev.setFarRun (d : Dev) (g run : Nat) : Dev := d.setGroup g { d.group g with farRun := run }

@[simp] theorem Dev.setFarRun_group (d : Dev) (g run : Nat) : (d.setFarRun g run).group g = { d.group g with farRun := run } :=
  Dev.group_setGroup ..

theorem Dev.bondData_next {f : Frame} (he : (d.group g).exp = some ex) (hk : seqDist q ex = 0) :
    d.bondData g q f = (d.setFarRun g 0).bondTake g q f := by
  unfold Dev.bondData
  rw [he]
  simp [hk, Dev.setFarRun]

theorem Dev.bondData_far {f : Frame} (he : (d.group g).exp = some ex) (hh : (d.group g).held = []) (h1 : 8192 ≤ seqDist q ex)
    (h2 : seqDist q ex ≤ 32767) (hrun : (d.group g).farRun < 15) :
    d.bondData g q f = (d.setFarRun g ((d.group g).farRun + 1)).bondCnt bSeqFar 1 := by
  have h0 : ¬ seqDist q ex = 0 := by omega
  have h3 : ¬ seqDist q ex ≤ 8191 := by omega
  have h4 : ¬ 16 ≤ (d.group g).farRun + 1 := by omega
  unfold Dev.bondData
  rw [he]
  simp only [h1, h2, h0, h3, h4, decide_true, Bool.and_self, if_true, if_false]
  exact Dev.bondGo_empty (by rw [Dev.bondCnt_group, Dev.group_setGroup, hh])

theorem Dev.bondData_late {f : Frame} (he : (d.group g).exp = some ex) (hh : (d.group g).held = []) (h : 32768 ≤ seqDist q ex) :
    d.bondData g q f = (d.setFarRun g 0).bondCnt bLate 1 := by
  have h0 : ¬ seqDist q ex = 0 := by omega
  have h3 : ¬ seqDist q ex ≤ 8191 := by omega
  have h4 : ¬ seqDist q ex ≤ 32767 := by omega
  unfold Dev.bondData
  rw [he]
  simp only [h0, h3, h4, decide_false, Bool.and_false, Bool.false_eq_true, if_false]
  exact Dev.bondGo_empty (by rw [Dev.bondCnt_group, Dev.group_setGroup, hh])

/-- The sixteenth far frame in a row: the group starts again with it. -/
def Dev.bondResynced (d : Dev) (g q : Nat) : Dev :=
  let x := (d.releaseAll g).bondCnt bResync 1
  (x.setFarRun g 0).setExp g q

theorem Dev.bondData_resync {f : Frame} (he : (d.group g).exp = some ex) (h1 : 8192 ≤ seqDist q ex)
    (h2 : seqDist q ex ≤ 32767) (hrun : 15 ≤ (d.group g).farRun) :
    d.bondData g q f = (((d.setFarRun g ((d.group g).farRun + 1)).bondCnt bSeqFar 1).bondResynced g q).bondTake g q f := by
  have h0 : ¬ seqDist q ex = 0 := by omega
  have h3 : ¬ seqDist q ex ≤ 8191 := by omega
  have h4 : 16 ≤ (d.group g).farRun + 1 := by omega
  unfold Dev.bondData
  rw [he]
  simp only [h1, h2, h0, h3, h4, decide_true, Bool.and_self, if_true, if_false]
  rfl

theorem Dev.bondResynced_spec (he : (d.group g).exp = some ex) (hh : (d.group g).held = []) :
    (d.bondResynced g q).group g = { d.group g with exp := some (q % 65536), farRun := 0 } ∧
    ∀ c < 14, c ≠ bGapLost → (d.bondResynced g q).fld (Reg.LN_BOND_CNT.COUNT c) = (d.bondCnt bResync 1).fld (Reg.LN_BOND_CNT.COUNT c) := by
  have hall : d.releaseAll g = (d.bondCnt bGapLost 0).setExp g ex := by rw [Dev.releaseAll_empty hh, he]; rfl
  refine ⟨?_, fun c hc hne => ?_⟩
  · rw [Dev.bondResynced, Dev.setExp_group, Dev.setFarRun_group, Dev.bondCnt_group, hall, Dev.setExp_group, Dev.bondCnt_group]
  · rw [Dev.bondResynced, Dev.setExp_cnt _ _ _ _ hc, Dev.setFarRun, Dev.setGroup_fld, Dev.bondCnt_fld, Dev.bondCnt_fld, hall,
      Dev.setExp_cnt _ _ _ _ (by decide), Dev.setExp_cnt _ _ _ _ hc, Dev.bondCnt_fld, Dev.bondCnt_fld, if_neg hne, if_neg (by decide : ¬ bResync = bGapLost)]

/-! ### A unit at the head of a channel -/

/-- The channel's oldest unit is taken off. -/
def Dev.bondPopped (d : Dev) (n : Nat) (r : List Unit3) : Dev := d.setLine n { d.line n with bonded := r }

theorem Dev.bondRx_none (h : (d.line n).bonded = []) : d.bondRx n = d := by
  unfold Dev.bondRx
  simp only [h]

theorem Dev.bondRx_out {r : List Unit3} (h : (d.line n).bonded = u :: r) (hm : d.lineMode ≠ 1) :
    d.bondRx n = (d.bondPopped n r).bondCnt bUnkGroup 1 := by
  unfold Dev.bondRx
  simp only [h]
  exact if_neg hm

theorem Dev.bondRx_in {r : List Unit3} (h : (d.line n).bonded = u :: r) (hm : d.lineMode = 1) :
    d.bondRx n = (d.bondPopped n r).bondUnit n u := by
  unfold Dev.bondRx
  simp only [h]
  exact if_pos hm

/-- A marker for a group that holds nothing. -/
theorem Dev.bondMarker_spec {r : List Unit3} (hh : (d.group g).held = []) : let e := ((d.bondPopped n r).setHigh g n q).bondCnt bMarkerRx 1
    e.bondGo g = e ∧ e.group g = { d.group g with high := Tbl.set (d.group g).high n (q % 65536), heard := setBit (d.group g).heard n true } ∧
    e.fld (Reg.LN_BOND_CNT.COUNT bMarkerRx) = min (2 ^ 32 - 1) (d.fld (Reg.LN_BOND_CNT.COUNT bMarkerRx) + 1) ∧
    d.SameRegs e [Reg.LN_BOND_CNT.COUNT bMarkerRx] := by
  intro e
  have hgrp : e.group g = { d.group g with high := Tbl.set (d.group g).high n (q % 65536), heard := setBit (d.group g).heard n true } :=
    Dev.setHigh_group ..
  refine ⟨Dev.bondGo_empty (by rw [hgrp]; exact hh), hgrp, (Dev.bondCnt_fld ..).trans (if_pos rfl), fun k hk => ?_⟩
  rw [List.map_singleton, List.mem_singleton] at hk
  exact (Dev.reg_put ..).trans (if_neg hk)

/-- The device as a data unit of a group finds it: the unit taken off, its high mark set. -/
def Dev.bondMarked (d : Dev) (n : Nat) (r : List Unit3) (g q : Nat) : Dev := (d.bondPopped n r).setHigh g n (q + 1)

theorem Dev.bondMarked_group (d : Dev) (r : List Unit3) : (d.bondMarked n r g q).group g =
    { d.group g with high := Tbl.set (d.group g).high n ((q + 1) % 65536), heard := setBit (d.group g).heard n true } :=
  Dev.setHigh_group ..

section Unit
variable {r : List Unit3} (hu : (d.line n).bonded = u :: r) (hm : d.lineMode = 1) (hb : bondHeader u.data = some (0, g, q))
  (hg : d.bondEn g = true) (hn : n ∈ d.bondMembers g)
include hu hm hb hg hn

theorem Dev.bondRx_run (hs : d.gState g = gRun) :
    d.bondRx n = (d.bondMarked n r g q).bondData g q ((d.bondPopped n r).bondFrame n u) := by
  have hne : ¬ (d.bondPopped n r).gState g = gStart := fun h => absurd (hs.symm.trans h) (by decide)
  exact (Dev.bondRx_in hu hm).trans ((Dev.bondUnit_data (d := d.bondPopped n r) hb hg hn).trans (if_neg hne))

theorem Dev.bondRx_start (hs : d.gState g = gStart) :
    d.bondRx n = (d.bondMarked n r g q).bondStart g q ((d.bondPopped n r).bondFrame n u) := by
  exact (Dev.bondRx_in hu hm).trans ((Dev.bondUnit_data (d := d.bondPopped n r) hb hg hn).trans (if_pos hs))

end Unit

/-- The first frame of a starting group: it sets E, starts the timer and is held. -/
theorem Dev.bondStart_spec {f : Frame} (hx : (d.group g).exp = none) (hfit : d.tm.bondUsed + cellsFor f.len ≤ d.tm.bondSize) :
    let e := d.bondStart g q f
    (e.group g).exp = some (q % 65536) ∧ (e.group g).timer = true ∧
    (e.group g).held.map (·.seq) = (d.group g).held.map (·.seq) ++ [q] ∧ e.tm.bondUsed = d.tm.bondUsed + cellsFor f.len ∧
    e.fld (Reg.LN_BOND_GRP_STAT.EXP_SEQ g) = q % 65536 := by
  intro e
  let x := (d.setGroup g { d.group g with timer := true }).setExp g q
  have hx' : x.group g = { d.group g with timer := true, exp := some (q % 65536) } := by
    show (Dev.setExp _ g q).group g = _
    rw [Dev.setExp_group, Dev.group_setGroup]
  have he : e = x.bondKeep g q f := (Dev.bondStart_first hx).trans (Dev.bondHold_fits (ex := q % 65536) (by rw [hx']) hfit)
  have hgrp := x.bondKeep_group g q f
  rw [hx'] at hgrp
  rw [he, hgrp]
  refine ⟨rfl, rfl, ?_, rfl, ?_⟩
  · rw [List.map_append, List.map_singleton]
  · refine (x.bondKeep_fld f ?_).trans (Dev.setExp_shown _ g q)
    simp only [Fld.key, Reg.LN_BOND_GRP_STAT.EXP_SEQ, Reg.LN_BOND_STAT.POOL_USED]
    omega

/-! ### The start timer and the window -/

theorem Dev.bondStartTimer_idle (h : d.gState g ≠ gStart ∨ (d.group g).timer = false) : d.bondStartTimer g = d := by
  refine if_neg fun hc => ?_
  rcases h with h | h
  · exact h hc.1
  · rw [hc.2] at h
    exact absurd h (by decide)

/-- A group whose start timer has expired, before it releases anything. -/
def Dev.bondStarted (d : Dev) (g : Nat) : Dev := (d.setGroup g { d.group g with timer := false }).put (Reg.LN_BOND_GRP_CFG.STATE g) gRun

theorem Dev.bondStartTimer_run (h1 : d.gState g = gStart) (h2 : (d.group g).timer = true) :
    d.bondStartTimer g = (d.bondStarted g).bondGo g := if_pos ⟨h1, h2⟩

theorem Dev.bondStarted_spec (d : Dev) {g : Nat} (hg : g < 1024) : ((d.bondStarted g).bondGo g).gState g = gRun ∧
    (((d.bondStarted g).bondGo g).group g).timer = false := by
  have hgo := (d.bondStarted g).bondGo_only g
  have hkey : ¬ bondKey g (Reg.LN_BOND_GRP_CFG.STATE g).key := by
    rintro (h | h | h | ⟨c, hc, h⟩) <;>
      simp only [Fld.key, Reg.LN_BOND_GRP_CFG.STATE, Reg.LN_BOND_STAT.POOL_USED, Reg.LN_BOND_STAT.MAX_HOLD,
        Reg.LN_BOND_GRP_STAT.EXP_SEQ, Reg.LN_BOND_CNT.COUNT] at h <;> omega
  have hlo : 0x100000 ≤ (Reg.LN_BOND_GRP_CFG.STATE g).key / 32 := by
    simp only [Fld.key, Reg.LN_BOND_GRP_CFG.STATE]
    omega
  have hhi : (Reg.LN_BOND_GRP_CFG.STATE g).key / 32 < 0x200000 := by
    simp only [Fld.key, Reg.LN_BOND_GRP_CFG.STATE]
    omega
  refine ⟨(hgo.regs _ hlo hhi hkey).trans (Dev.fld_put_same ..), hgo.timer.trans ?_⟩
  show ((d.setGroup g { d.group g with timer := false }).group g).timer = false
  rw [Dev.group_setGroup]

theorem Dev.bondWindow_idle (h : d.gState g ≠ gRun ∨ (d.group g).held = []) : d.bondWindow g = d := by
  unfold Dev.bondWindow
  split
  · rfl
  case isFalse hs => rw [h.resolve_left hs]; rfl

/-- The one frame held for the window: what was missing before it is lost, and it is released. -/
theorem Dev.bondWindow_one {h : HeldFrame} (hs : d.gState g = gRun) (hh : (d.group g).held = [h]) (he : (d.group g).exp = some ex) :
    d.bondWindow g = ((((d.bondCnt bWindowExp 1).bondCnt bGapLost (seqDist h.seq ex)).setExp g (ex + seqDist h.seq ex)).releaseHeld g h).setExp
      g (h.seq + 1) := by
  let x := d.bondCnt bWindowExp 1
  have hdecl : x.declareTo g (seqDist h.seq ex) = (x.bondCnt bGapLost (seqDist h.seq ex)).setExp g (ex + seqDist h.seq ex) := by
    refine Dev.declareTo_none he ?_
    show (d.group g).held.filter _ = []
    rw [hh]
    simp
  have hheld : (((x.bondCnt bGapLost (seqDist h.seq ex)).setExp g (ex + seqDist h.seq ex)).group g).held = [h] := by
    rw [Dev.setExp_group]
    exact hh
  have hnone : (((((x.bondCnt bGapLost (seqDist h.seq ex)).setExp g (ex + seqDist h.seq ex)).releaseHeld g h).setExp g
      (h.seq + 1)).group g).held = [] := by
    rw [Dev.setExp_group, Dev.releaseHeld_group, hheld]
    simp
  have hlose : d.bondWindow g = x.loseBefore g h := by
    unfold Dev.bondWindow
    rw [if_neg (not_not_intro hs), hh]
    rfl
  rw [hlose]
  unfold Dev.loseBefore
  simp only [show (x.group g).exp = some ex from he, hdecl, hheld, List.find?_cons, beq_self_eq_true, hnone, List.length_nil]
  exact Dev.bondGo_empty hnone

/-- What the expiry of the window leaves of a group that held one frame. -/
theorem Dev.bondWindow_spec {h : HeldFrame} (hs : d.gState g = gRun) (hh : (d.group g).held = [h]) (he : (d.group g).exp = some ex) :
    let e := d.bondWindow g
    e.fld (Reg.LN_BOND_CNT.COUNT bWindowExp) = min (2 ^ 32 - 1) (d.fld (Reg.LN_BOND_CNT.COUNT bWindowExp) + 1) ∧
    e.fld (Reg.LN_BOND_CNT.COUNT bGapLost) = min (2 ^ 32 - 1) (d.fld (Reg.LN_BOND_CNT.COUNT bGapLost) + seqDist h.seq ex) ∧
    e.fld (Reg.LN_BOND_CNT.COUNT bRel) = min (2 ^ 32 - 1) (d.fld (Reg.LN_BOND_CNT.COUNT bRel) + 1) ∧
    (e.group g).held = [] ∧ (e.group g).exp = some ((h.seq + 1) % 65536) := by
  intro e
  have hcnt (c : Nat) (hc : c < 14) : e.fld (Reg.LN_BOND_CNT.COUNT c) =
      if c = bRel then min (2 ^ 32 - 1) (d.fld (Reg.LN_BOND_CNT.COUNT bRel) + 1)
      else if c = bGapLost then min (2 ^ 32 - 1) (d.fld (Reg.LN_BOND_CNT.COUNT bGapLost) + seqDist h.seq ex)
      else if c = bWindowExp then min (2 ^ 32 - 1) (d.fld (Reg.LN_BOND_CNT.COUNT bWindowExp) + 1) else d.fld (Reg.LN_BOND_CNT.COUNT c) := by
    show (d.bondWindow g).fld _ = _
    rw [Dev.bondWindow_one hs hh he, Dev.setExp_cnt _ _ _ _ hc, Dev.releaseHeld_cnt _ _ _ hc, Dev.setExp_cnt _ _ _ bRel (by decide),
      Dev.setExp_cnt _ _ _ c hc, Dev.bondCnt_fld, Dev.bondCnt_fld, if_neg (by decide : ¬ bRel = bGapLost), Dev.bondCnt_fld,
      if_neg (by decide : ¬ bRel = bWindowExp), Dev.bondCnt_fld _ bGapLost, Dev.bondCnt_fld d bWindowExp 1 bGapLost, if_neg (by decide : ¬ bGapLost = bWindowExp),
      Dev.bondCnt_fld d bWindowExp 1 c]
  refine ⟨(hcnt bWindowExp (by decide)).trans rfl, (hcnt bGapLost (by decide)).trans rfl, (hcnt bRel (by decide)).trans rfl, ?_⟩
  show ((d.bondWindow g).group g).held = [] ∧ ((d.bondWindow g).group g).exp = _
  rw [Dev.bondWindow_one hs hh he, Dev.setExp_group, Dev.releaseHeld_group, Dev.setExp_group, Dev.bondCnt_group, Dev.bondCnt_group, hh]
  exact ⟨by simp, rfl⟩

/-! ### The rows of R119 for a running group that holds none -/

/-- What a counter of the bonding stage shows after it counted `k` more. -/
def Dev.upBy (d e : Dev) (c k : Nat) : Prop := e.fld (Reg.LN_BOND_CNT.COUNT c) = min (2 ^ 32 - 1) (d.fld (Reg.LN_BOND_CNT.COUNT c) + k)

section Rows
variable {f : Frame} (he : (d.group g).exp = some ex) (hh : (d.group g).held = [])
include he hh

theorem Dev.bondData_next_spec (hk : seqDist q ex = 0) : let e := d.bondData g q f
    d.upBy e bRel 1 ∧ (e.group g).exp = some ((q + 1) % 65536) ∧ (e.group g).held = [] ∧ (e.group g).farRun = 0 ∧
    e.fld (Reg.LN_BOND_GRP_STAT.EXP_SEQ g) = (q + 1) % 65536 := by
  intro e
  have hfar : ((d.setFarRun g 0).group g).held = [] := by rw [Dev.setFarRun_group]; exact hh
  obtain ⟨hgrp, hseq, hc⟩ := Dev.bondTake_spec (q := q) (f := f) hfar
  rw [Dev.setFarRun_group] at hgrp
  have hcnt : d.upBy ((d.setFarRun g 0).bondTake g q f) bRel 1 := (hc bRel (by decide)).trans (Dev.bondCnt_fld ..)
  have hee : e = (d.setFarRun g 0).bondTake g q f := Dev.bondData_next he hk
  rw [hee, hgrp]
  exact ⟨hcnt, rfl, hh, rfl, hseq⟩

theorem Dev.bondData_far_spec (h1 : 8192 ≤ seqDist q ex) (h2 : seqDist q ex ≤ 32767) (hr : (d.group g).farRun < 15) :
    let e := d.bondData g q f
    d.upBy e bSeqFar 1 ∧ (e.group g).exp = some ex ∧ (e.group g).held = [] ∧ (e.group g).farRun = (d.group g).farRun + 1 := by
  intro e
  have hee : e = (d.setFarRun g ((d.group g).farRun + 1)).bondCnt bSeqFar 1 := Dev.bondData_far he hh h1 h2 hr
  have hcnt : d.upBy ((d.setFarRun g ((d.group g).farRun + 1)).bondCnt bSeqFar 1) bSeqFar 1 := (Dev.bondCnt_fld ..).trans (if_pos rfl)
  rw [hee, Dev.bondCnt_group, Dev.setFarRun_group]
  exact ⟨hcnt, he, hh, rfl⟩

theorem Dev.bondData_late_spec (hl : 32768 ≤ seqDist q ex) : let e := d.bondData g q f
    d.upBy e bLate 1 ∧ (e.group g).exp = some ex ∧ (e.group g).held = [] ∧ d.SameRegs e [Reg.LN_BOND_CNT.COUNT bLate] := by
  intro e
  have hee : e = (d.setFarRun g 0).bondCnt bLate 1 := Dev.bondData_late he hh hl
  have hcnt : d.upBy ((d.setFarRun g 0).bondCnt bLate 1) bLate 1 := (Dev.bondCnt_fld ..).trans (if_pos rfl)
  rw [hee, Dev.bondCnt_group, Dev.setFarRun_group]
  refine ⟨hcnt, he, hh, fun k hk => ?_⟩
  rw [List.map_singleton, List.mem_singleton] at hk
  exact (Dev.reg_put ..).trans (if_neg hk)

theorem Dev.bondData_resync_spec (h1 : 8192 ≤ seqDist q ex) (h2 : seqDist q ex ≤ 32767) (hr : 15 ≤ (d.group g).farRun) :
    let e := d.bondData g q f
    d.upBy e bSeqFar 1 ∧ d.upBy e bResync 1 ∧ d.upBy e bRel 1 ∧ (e.group g).exp = some ((q + 1) % 65536) ∧ (e.group g).farRun = 0 := by
  intro e
  let y := (d.setFarRun g ((d.group g).farRun + 1)).bondCnt bSeqFar 1
  have hy : y.group g = { d.group g with farRun := (d.group g).farRun + 1 } := Dev.setFarRun_group ..
  have hye : (y.group g).exp = some ex := by rw [hy]; exact he
  have hyh : (y.group g).held = [] := by rw [hy]; exact hh
  obtain ⟨hzg, hzc⟩ := Dev.bondResynced_spec (q := q) hye hyh
  have hzh : ((y.bondResynced g q).group g).held = [] := by rw [hzg]; exact hyh
  obtain ⟨hgrp, -, hc⟩ := Dev.bondTake_spec (q := q) (f := f) hzh
  have hee : e = (y.bondResynced g q).bondTake g q f := Dev.bondData_resync he h1 h2 hr
  have hcnt (c : Nat) (hc' : c < 14) (hne : c ≠ bGapLost) : e.fld (Reg.LN_BOND_CNT.COUNT c) =
      if c = bRel then min (2 ^ 32 - 1) (d.fld (Reg.LN_BOND_CNT.COUNT bRel) + 1)
      else if c = bResync then min (2 ^ 32 - 1) (d.fld (Reg.LN_BOND_CNT.COUNT bResync) + 1)
      else if c = bSeqFar then min (2 ^ 32 - 1) (d.fld (Reg.LN_BOND_CNT.COUNT bSeqFar) + 1) else d.fld (Reg.LN_BOND_CNT.COUNT c) := by
    have hyc (c : Nat) : y.fld (Reg.LN_BOND_CNT.COUNT c) =
      if c = bSeqFar then min (2 ^ 32 - 1) (d.fld (Reg.LN_BOND_CNT.COUNT bSeqFar) + 1) else d.fld (Reg.LN_BOND_CNT.COUNT c) :=
      Dev.bondCnt_fld ..
    rw [hee, hc c hc', Dev.bondCnt_fld, hzc c hc' hne, hzc bRel (by decide) (by decide), Dev.bondCnt_fld y bResync 1 c,
      Dev.bondCnt_fld y bResync 1 bRel, hyc, hyc, hyc, if_neg (by decide : ¬ bRel = bResync), if_neg (by decide : ¬ bRel = bSeqFar),
      if_neg (by decide : ¬ bResync = bSeqFar)]
  have hgrp' : e.group g = _ := (congrArg (Dev.group · g) hee).trans hgrp
  refine ⟨(hcnt bSeqFar (by decide) (by decide)).trans rfl, (hcnt bResync (by decide) (by decide)).trans rfl,
    (hcnt bRel (by decide) (by decide)).trans rfl, ?_⟩
  rw [hgrp', hzg]
  exact ⟨rfl, rfl⟩

end Rows

theorem bitOf_setBit_same (a i : Nat) : bitOf (setBit a i true) i = true := by
  have hset : setBit a i true = a - 2 ^ i * (a / 2 ^ i % 2) + 2 ^ i := by simp [setBit, setBits, bits, bit, Nat.mul_comm]
  have hdiv : setBit a i true / 2 ^ i = a / 2 ^ i - a / 2 ^ i % 2 + 1 := by
    rw [hset, Nat.add_div_right _ (Nat.two_pow_pos i), Nat.sub_mul_div]
  rw [bitOf, hdiv, show (a / 2 ^ i - a / 2 ^ i % 2 + 1) % 2 = 1 by omega]
  rfl

/-- What the bonding stage does with a unit of a channel. -/
theorem bondUnitRx_spec {s : State} {dt : Nat} {n : Fin 4} {g : Fin 1024} (hup : s.dev.mainUp = true) {u : Unit3} {r : List Unit3}
    (hu : ((s.dev.advance dt).line n).bonded = u :: r) (hm : (s.dev.advance dt).lineMode = 1) {ty q : Nat}
    (hb : bondHeader u.data = some (ty, g.val, q)) : let d0 := s.dev.advance dt
    let d1 := d0.setLine n { d0.line n with bonded := r }
    (d0.bondEn g = false → Does (.bondUnitRx dt n) s (d1.bondCnt bUnkGroup 1)) ∧
    (d0.bondEn g = true → n.val ∉ d0.bondMembers g → Does (.bondUnitRx dt n) s (d1.bondCnt bNotMember 1)) ∧
    (d0.bondEn g = true → n.val ∈ d0.bondMembers g → (d0.group g).held = [] → ∀ e, (d0.group g).exp = some e →
      let k := seqDist q e
      (ty = 1 → Effect (.bondUnitRx dt n) s (fun d => d0.upBy d bMarkerRx 1 ∧ (d.group g).exp = some e ∧
        Tbl.get (d.group g).high n 0 = q % 65536 ∧ bitOf (d.group g).heard n = true ∧
        d0.SameRegs d [Reg.LN_BOND_CNT.COUNT bMarkerRx])) ∧
      (ty = 0 → d0.gState g = gRun →
        (k = 0 → Effect (.bondUnitRx dt n) s (fun d => d0.upBy d bRel 1 ∧ (d.group g).exp = some ((q + 1) % 65536) ∧
          (d.group g).held = [] ∧ (d.group g).farRun = 0 ∧ d.fld (Reg.LN_BOND_GRP_STAT.EXP_SEQ g) = (q + 1) % 65536)) ∧
        (8192 ≤ k → k ≤ 32767 → (d0.group g).farRun < 15 → Effect (.bondUnitRx dt n) s (fun d => d0.upBy d bSeqFar 1 ∧
          (d.group g).exp = some e ∧ (d.group g).held = [] ∧ (d.group g).farRun = (d0.group g).farRun + 1)) ∧
        (8192 ≤ k → k ≤ 32767 → 15 ≤ (d0.group g).farRun → Effect (.bondUnitRx dt n) s (fun d => d0.upBy d bSeqFar 1 ∧
          d0.upBy d bResync 1 ∧ d0.upBy d bRel 1 ∧ (d.group g).exp = some ((q + 1) % 65536) ∧ (d.group g).farRun = 0)) ∧
        (32768 ≤ k → Effect (.bondUnitRx dt n) s (fun d => d0.upBy d bLate 1 ∧ (d.group g).exp = some e ∧
          (d.group g).held = [] ∧ d0.SameRegs d [Reg.LN_BOND_CNT.COUNT bLate])))) := by
  intro d0 d1
  refine ⟨fun hg => ?_, fun hg hn => ?_, fun hg hn hh e he => ⟨?_, ?_⟩⟩
  · exact .of_main_eq (exec_bondUnitRx ..) hup ((Dev.bondRx_in hu hm).trans (Dev.bondUnit_unknown (d := d1) hb hg))
  · exact .of_main_eq (exec_bondUnitRx ..) hup ((Dev.bondRx_in hu hm).trans (Dev.bondUnit_stranger (d := d1) hb hg hn))
  · rintro rfl
    obtain ⟨hgo, hgrp, hcnt, hregs⟩ := Dev.bondMarker_spec (d := d0) (g := g) (n := n) (q := q) (r := r) hh
    refine .of_main_eq hup ⟨hcnt, ?_, ?_, ?_, hregs⟩ (exec_bondUnitRx ..)
      ((Dev.bondRx_in hu hm).trans ((Dev.bondUnit_marker (d := d1) hb hg hn).trans hgo))
    · rw [hgrp]; exact he
    · rw [hgrp]; exact Tbl.get_set_same ..
    · rw [hgrp]; exact bitOf_setBit_same ..
  · rintro rfl hs
    have hx : ((d0.bondMarked n r g q).group g) = _ := d0.bondMarked_group r
    have hxe : ((d0.bondMarked n r g q).group g).exp = some e := by rw [hx]; exact he
    have hxh : ((d0.bondMarked n r g q).group g).held = [] := by rw [hx]; exact hh
    have hxf : ((d0.bondMarked n r g q).group g).farRun = (d0.group g).farRun := by rw [hx]
    have hrx := Dev.bondRx_run hu hm hb hg hn hs
    refine ⟨fun h => ⟨_, .of_main_eq (exec_bondUnitRx ..) hup hrx, Dev.bondData_next_spec hxe hxh h⟩, fun h1 h2 h3 => ?_, fun h1 h2 h3 => ?_,
      fun h => ⟨_, .of_main_eq (exec_bondUnitRx ..) hup hrx, Dev.bondData_late_spec hxe hxh h⟩⟩
    · rw [← hxf] at h3 ⊢
      exact ⟨_, .of_main_eq (exec_bondUnitRx ..) hup hrx, Dev.bondData_far_spec hxe hxh h1 h2 h3⟩
    · rw [← hxf] at h3
      exact ⟨_, .of_main_eq (exec_bondUnitRx ..) hup hrx, Dev.bondData_resync_spec hxe hxh h1 h2 h3⟩

theorem bondUnitRx_first {s : State} {dt : Nat} {n : Fin 4} {g : Fin 1024} (hup : s.dev.mainUp = true) {u : Unit3} {r : List Unit3}
    (hu : ((s.dev.advance dt).line n).bonded = u :: r) (hm : (s.dev.advance dt).lineMode = 1) {q : Nat}
    (hb : bondHeader u.data = some (0, g.val, q)) : let d0 := s.dev.advance dt
    d0.bondEn g = true → n.val ∈ d0.bondMembers g → d0.gState g = gStart → (d0.group g).exp = none →
    d0.tm.bondUsed + cellsFor (u.data.length - 12 + 4) ≤ d0.tm.bondSize → Effect (.bondUnitRx dt n) s (fun d =>
      (d.group g).exp = some (q % 65536) ∧ (d.group g).timer = true ∧
      (d.group g).held.map (·.seq) = (d0.group g).held.map (·.seq) ++ [q] ∧
      d.tm.bondUsed = d0.tm.bondUsed + cellsFor (u.data.length - 12 + 4) ∧
      d.fld (Reg.LN_BOND_GRP_STAT.EXP_SEQ g) = q % 65536) := by
  intro d0 hg hn hs he hfit
  have hx : (d0.bondMarked n r g q).group g = _ := d0.bondMarked_group r
  have hxe : ((d0.bondMarked n r g q).group g).exp = none := by rw [hx]; exact he
  have hlen := (d0.bondPopped n r).bondFrame_len n u
  have hfirst := Dev.bondStart_spec (d := d0.bondMarked n r g q) (q := q) (f := (d0.bondPopped n r).bondFrame n u) hxe (by rw [hlen]; exact hfit)
  rw [hx, hlen] at hfirst
  exact ⟨_, .of_main_eq (exec_bondUnitRx ..) hup (Dev.bondRx_start hu hm hb hg hn hs), hfirst⟩

variable {d e : Dev} {n : Nat}

/-! ### The switch of line protection (R133) -/

/-- Frames and bursts of channel `n` were given back: no register, no time, no line and no other channel's store changed. -/
structure Dev.CoachOnly (n : Nat) (d e : Dev) : Prop where
  regs : e.regs = d.regs
  tim : e.tim = d.tim
  lines : e.lines = d.lines
  coaches : ∀ m, m ≠ n → e.coach m = d.coach m

namespace Dev.CoachOnly

theorem refl (n : Nat) (d : Dev) : d.CoachOnly n d := ⟨rfl, rfl, rfl, fun _ _ => rfl⟩

theorem trans {f : Dev} (h : d.CoachOnly n e) (h' : e.CoachOnly n f) : d.CoachOnly n f :=
  ⟨h'.regs.trans h.regs, h'.tim.trans h.tim, h'.lines.trans h.lines, fun m hm => (h'.coaches m hm).trans (h.coaches m hm)⟩

theorem setCoach (d : Dev) (n : Nat) (c : Coach) : d.CoachOnly n (d.setCoach n c) :=
  ⟨rfl, rfl, rfl, fun m hm => Tbl.get_set_ne (k := n) (j := m) _ _ _ hm⟩

theorem setAct (d : Dev) (n m : Nat) (x : Act) : d.CoachOnly n (d.setAct m x) := ⟨rfl, rfl, rfl, fun _ _ => rfl⟩

theorem of_unseal (d : Dev) (n : Nat) (b : Burst) : d.CoachOnly n (d.unseal n b) := by
  unfold Dev.unseal
  split
  · exact refl n d
  · dsimp only
    split
    · exact (setCoach ..).trans (setAct ..)
    · exact (setCoach ..).trans (setAct ..)
    · exact setCoach ..

theorem each {α : Type} {f : Dev → α → Dev} (h : ∀ (d : Dev) x, d.CoachOnly n (f d x)) (l : List α) (d : Dev) :
    d.CoachOnly n (d.each l f) := by
  induction l generalizing d with
  | nil => exact refl n d
  | cons x l ih => exact (h d x).trans (ih (f d x))

end Dev.CoachOnly

theorem Dev.release_tm (d : Dev) (f : Frame) : ∃ t, d.release f = { d with tm := t } := by
  unfold Dev.release
  dsimp only
  split <;> exact ⟨_, rfl⟩

/-- The frames of a burst store that return change nothing outside the traffic manager. -/
theorem Dev.returned_tm (l : List BFrame) (d : Dev) : ∃ t, d.each l (fun d e =>
    let x := d.queue e.q
    if !e.ready ∧ x.ondie = [] then d.setQueue e.q { x with siding := { e.f with home := none } :: x.siding, spill := true }
    else
      let (d1, f) := (d.iff (!e.ready) (·.release e.f)).hold e.f .shared
      d1.setQueue e.q { d1.queue e.q with ondie := f :: x.ondie }) = { d with tm := t } := by
  induction l generalizing d with
  | nil => exact ⟨d.tm, rfl⟩
  | cons e l ih =>
    have hone : ∃ t, (let x := d.queue e.q
        if !e.ready ∧ x.ondie = [] then d.setQueue e.q { x with siding := { e.f with home := none } :: x.siding, spill := true }
        else
          let (d1, f) := (d.iff (!e.ready) (·.release e.f)).hold e.f .shared
          d1.setQueue e.q { d1.queue e.q with ondie := f :: x.ondie }) = { d with tm := t } := by
      obtain ⟨t, ht⟩ := d.release_tm e.f
      dsimp only
      split
      · exact ⟨_, rfl⟩
      · rw [Dev.iff, ht]
        split <;> exact ⟨_, rfl⟩
    obtain ⟨t, ht⟩ := hone
    obtain ⟨t', ht'⟩ := ih { d with tm := t }
    exact ⟨t', (congrArg (fun x : Dev => x.each l _) ht).trans ht'⟩

/-- A channel's bursts are cancelled and its store returns. -/
def Dev.channelFreed (d : Dev) (n : Nat) : Dev := (d.cancelBursts n).returnStore n

theorem Dev.channelFreed_spec (d : Dev) (n : Nat) : d.CoachOnly n (d.channelFreed n) ∧
    ((d.channelFreed n).coach n).store = [] ∧ ((d.channelFreed n).coach n).bursts = [] := by
  let x := d.setCoach n { d.coach n with bursts := [] }
  have hunseal : x.CoachOnly n (d.cancelBursts n) := .each (fun d b => .of_unseal d n b) _ x
  have hback : x.GaveBack n (d.cancelBursts n) := .each (fun d b => .of_unseal d n b) _ x
  have hburst : ((d.cancelBursts n).coach n).bursts = [] := hback.bursts.trans (congrArg Coach.bursts (d.coach_set n _))
  let y := (d.cancelBursts n).setCoach n { (d.cancelBursts n).coach n with store := [] }
  have hy : y.coach n = { (d.cancelBursts n).coach n with store := [] } := (d.cancelBursts n).coach_set n _
  obtain ⟨t, ht⟩ := y.returned_tm ((d.cancelBursts n).coach n).store.reverse
  have hfree : d.channelFreed n = { y with tm := t } := ht
  have hto : d.CoachOnly n y := ((Dev.CoachOnly.setCoach ..).trans hunseal).trans (.setCoach ..)
  rw [hfree]
  refine ⟨⟨hto.regs, hto.tim, hto.lines, hto.coaches⟩, ?_⟩
  show (y.coach n).store = [] ∧ (y.coach n).bursts = []
  rw [hy]
  exact ⟨rfl, hburst⟩

theorem Dev.channelsFreed_spec (l : List Nat) (d : Dev) : let e := d.each l Dev.channelFreed
    (e.regs = d.regs ∧ e.tim = d.tim ∧ e.lines = d.lines) ∧
    ∀ n, n ∈ l ∨ ((d.coach n).store = [] ∧ (d.coach n).bursts = []) → (e.coach n).store = [] ∧ (e.coach n).bursts = [] := by
  induction l generalizing d with
  | nil => exact ⟨⟨rfl, rfl, rfl⟩, fun n hn => hn.resolve_left List.not_mem_nil⟩
  | cons m l ih =>
    obtain ⟨honly, hempty⟩ := d.channelFreed_spec m
    obtain ⟨⟨h1, h2, h3⟩, hrest⟩ := ih (d.channelFreed m)
    refine ⟨⟨h1.trans honly.regs, h2.trans honly.tim, h3.trans honly.lines⟩, fun n hn => hrest n ?_⟩
    by_cases hm : n = m
    · subst hm
      exact .inr hempty
    · rw [honly.coaches n hm]
      exact hn.imp_left fun h => (List.mem_cons.1 h).resolve_left hm

/-- The reassemblies of channel `n` go on on a side that stands by. -/
def Dev.toStandby (d : Dev) (n : Nat) : Dev :=
  d.setLine n { d.line n with reasm := (d.line n).reasm.map (fun r => { r with stby := true }) }

theorem Dev.standBy_spec (l : List Nat) (d : Dev) : let e := d.each l Dev.toStandby
    (e.regs = d.regs ∧ e.tim = d.tim ∧ e.coaches = d.coaches) ∧
    ∀ n, (e.line n).reasm = if n ∈ l then (d.line n).reasm.map (fun r => { r with stby := true }) else (d.line n).reasm := by
  induction l generalizing d with
  | nil => exact ⟨⟨rfl, rfl, rfl⟩, fun _ => rfl⟩
  | cons m l ih =>
    obtain ⟨hsame, hline⟩ := ih (d.toStandby m)
    refine ⟨hsame, fun n => (hline n).trans ?_⟩
    by_cases hm : n = m
    · subst hm
      have hset : ((d.toStandby n).line n).reasm = (d.line n).reasm.map (fun r => { r with stby := true }) :=
        congrArg Line.reasm (Tbl.get_set_same ..)
      rw [hset, if_pos List.mem_cons_self, List.map_map]
      split <;> rfl
    · have hset : (d.toStandby m).line n = d.line n := Tbl.get_set_ne (k := m) (j := n) _ _ _ hm
      rw [hset]
      simp [hm]

/-- The registers that the decision of a switch sets. -/
def Dev.protShown (d : Dev) (cause : Nat) : Dev :=
  ((((d.put Reg.LN_PROT_STAT.ACTIVE (1 - d.activeSide)).put Reg.LN_PROT_STAT.SWITCHING 1).ev Reg.LN_PROT_EVT.SWITCHED).bump
    (Reg.LN_PROT_CNT.COUNT 0)).put Reg.LN_PROT_STAT.LAST_CAUSE cause |>.putWide Reg.LN_PROT_TS_LO.COUNT Reg.LN_PROT_TS_HI.COUNT d.tim.ctr

/-- The switched device before its reference follows. -/
def Dev.protMoved (d : Dev) (cause : Nat) : Dev :=
  let x := ((d.protShown cause).each (d.sideChs d.activeSide) Dev.channelFreed).each (d.sideChs (1 - d.activeSide)) Dev.toStandby
  { x with prot := { x.prot with onset := false } }

theorem Dev.protSwitch_eq (d : Dev) (cause : Nat) : d.protSwitch cause = (d.protMoved cause).trefUpdate := rfl

theorem Dev.protMoved_spec (d : Dev) (cause : Nat) : (d.protMoved cause).regs = (d.protShown cause).regs ∧
    (∀ n ∈ d.sideChs d.activeSide, ((d.protMoved cause).coach n).store = [] ∧ ((d.protMoved cause).coach n).bursts = []) ∧
    ∀ n ∈ d.sideChs (1 - d.activeSide), ((d.protMoved cause).line n).reasm = (d.line n).reasm.map (fun r => { r with stby := true }) := by
  obtain ⟨⟨h1, -, h3⟩, h4⟩ := Dev.channelsFreed_spec (d.sideChs d.activeSide) (d.protShown cause)
  obtain ⟨⟨g1, -, g3⟩, g4⟩ := Dev.standBy_spec (d.sideChs (1 - d.activeSide)) ((d.protShown cause).each (d.sideChs d.activeSide) Dev.channelFreed)
  refine ⟨g1.trans h1, fun n hn => ?_, fun n hn => ?_⟩
  · have hc : (d.protMoved cause).coach n = ((d.protShown cause).each (d.sideChs d.activeSide) Dev.channelFreed).coach n :=
      congrArg (fun t : Tbl Coach => Tbl.get t n {}) g3
    rw [hc]
    exact h4 n (.inl hn)
  · have hl : ((d.protShown cause).each (d.sideChs d.activeSide) Dev.channelFreed).line n = d.line n := congrArg (fun t : Tbl Line => Tbl.get t n {}) h3
    have := g4 n
    rw [if_pos hn, hl] at this
    exact this

/-- The fields of the decision, each as it was put. -/
theorem Dev.protShown_fld (d : Dev) {c : Nat} (hc : c < 4) : let e := d.protShown c
    e.fld Reg.LN_PROT_STAT.ACTIVE = 1 - d.activeSide ∧ e.fld Reg.LN_PROT_STAT.SWITCHING = 1 ∧
    e.fld Reg.LN_PROT_EVT.SWITCHED = 1 ∧ e.fld Reg.LN_PROT_STAT.LAST_CAUSE = c ∧
    e.fld (Reg.LN_PROT_CNT.COUNT 0) = min (2 ^ 32 - 1) (d.fld (Reg.LN_PROT_CNT.COUNT 0) + 1) ∧
    e.wide Reg.LN_PROT_TS_LO.COUNT Reg.LN_PROT_TS_HI.COUNT = d.tim.ctr % 2 ^ 64 := by
  have hside : (1 - d.activeSide) % 2 = 1 - d.activeSide := Nat.mod_eq_of_lt (by omega)
  have hcause : c % 4 = c := Nat.mod_eq_of_lt hc
  have hcnt (k : Nat) : min 4294967295 k % 4294967296 = min 4294967295 k := Nat.mod_eq_of_lt (by omega)
  have hwide (k : Nat) : k % 4294967296 + 4294967296 * (k / 4294967296 % 4294967296) = k % 18446744073709551616 := by omega
  refine ⟨?_, ?_, ?_, ?_, ?_, ?_⟩
  all_goals
    simp +decide [Dev.protShown, Dev.putWide, Dev.wide, Dev.ev, Dev.bump, Dev.bumpBy, Dev.fld_put, Reg.LN_PROT_STAT.ACTIVE,
      Reg.LN_PROT_STAT.SWITCHING, Reg.LN_PROT_EVT.SWITCHED, Reg.LN_PROT_STAT.LAST_CAUSE, Reg.LN_PROT_CNT.COUNT,
      Reg.LN_PROT_TS_LO.COUNT, Reg.LN_PROT_TS_HI.COUNT, hside, hcause, hcnt, hwide]

theorem Dev.protSwitch_spec (d : Dev) {c : Nat} (hc : c < 4) : let e := d.protSwitch c
    e.fld Reg.LN_PROT_STAT.ACTIVE = 1 - d.activeSide ∧ e.fld Reg.LN_PROT_STAT.SWITCHING = 1 ∧
    e.fld Reg.LN_PROT_EVT.SWITCHED = 1 ∧ e.fld Reg.LN_PROT_STAT.LAST_CAUSE = c ∧
    e.fld (Reg.LN_PROT_CNT.COUNT 0) = min (2 ^ 32 - 1) (d.fld (Reg.LN_PROT_CNT.COUNT 0) + 1) ∧
    e.wide Reg.LN_PROT_TS_LO.COUNT Reg.LN_PROT_TS_HI.COUNT = d.tim.ctr % 2 ^ 64 ∧
    (∀ n ∈ d.sideChs d.activeSide, (e.coach n).store = [] ∧ (e.coach n).bursts = []) ∧
    (∀ n ∈ d.sideChs (1 - d.activeSide), (e.line n).reasm = (d.line n).reasm.map (fun r => { r with stby := true })) := by
  intro e
  obtain ⟨hregs, hcoach, hline⟩ := d.protMoved_spec c
  have hkeep (f : Fld) (hf : offTref f.key) : e.fld f = (d.protShown c).fld f :=
    ((d.protMoved c).trefUpdate_regs hf).trans (by rw [hregs]; rfl)
  have hwide : e.wide Reg.LN_PROT_TS_LO.COUNT Reg.LN_PROT_TS_HI.COUNT =
      (d.protShown c).wide Reg.LN_PROT_TS_LO.COUNT Reg.LN_PROT_TS_HI.COUNT := by
    rw [Dev.wide, Dev.wide, hkeep _ (by unfold offTref; decide), hkeep _ (by unfold offTref; decide)]
  have hc' (n : Nat) : e.coach n = (d.protMoved c).coach n := by
    have h := congrArg (fun x : Dev => x.coach n) (d.protMoved c).trefUpdate_offTime
    exact h
  have hl' (n : Nat) : e.line n = (d.protMoved c).line n := by
    have h := congrArg (fun x : Dev => x.line n) (d.protMoved c).trefUpdate_offTime
    exact h
  obtain ⟨h1, h2, h3, h4, h5, h6⟩ := d.protShown_fld hc
  rw [hkeep _ (by unfold offTref; decide), hkeep _ (by unfold offTref; decide), hkeep _ (by unfold offTref; decide),
    hkeep _ (by unfold offTref; decide), hkeep _ (by unfold offTref; decide), hwide]
  refine ⟨h1, h2, h3, h4, h5, h6, fun n hn => ?_, fun n hn => ?_⟩
  · rw [hc']; exact hcoach n hn
  · rw [hl']; exact hline n hn

/-! ### Fast defects (R129) -/

/-- A word written as a sum of its bits. -/
theorem bitSum_eq (f : Nat → Bool) (m : Nat) : (List.range m).foldl (fun a k => a + bit (f k) * 2 ^ k) 0 = bitsFrom f m := by
  induction m with
  | zero => rfl
  | succ m ih => rw [List.range_succ, List.foldl_concat, ih, (bitsFrom_succ f m).2, Nat.mul_comm]

theorem bitMap_eq (f : Nat → Bool) (m : Nat) : ((List.range m).map (fun k => bit (f k) * 2 ^ k)).sum = bitsFrom f m := by
  induction m with
  | zero => rfl
  | succ m ih => rw [List.range_succ, List.map_append, List.sum_append, ih, (bitsFrom_succ f m).2, List.map_singleton, List.sum_singleton,
      Nat.mul_comm]

/-- Bit `k` of the defects that have lasted: DSD and UCW of channel `k / 2`. -/
def Dev.stillFast (d : Dev) (k : Nat) : Bool := bitOf d.prot.lasted k && d.defect (k / 2) (if k % 2 = 0 then dDSD else dUCW)

/-- A device whose lasted defects are those that still stand. -/
def Dev.fastKept (d : Dev) : Dev := { d with prot := { d.prot with lasted := bitsFrom d.stillFast 8 } }

/-- The fast defects of a device are shown, and the onset of its trigger follows. -/
def Dev.fastShown (d : Dev) : Dev :=
  let x := d.fastKept.put Reg.LN_PROT_STAT.FAST_DEF (bitsFrom d.fastKept.fastSet 4)
  { x with prot := { x.prot with onset := x.prot.onset && x.trigger } }

theorem Dev.fastUpdate_eq (d : Dev) : d.fastUpdate = d.fastShown.trefUpdate := by
  rw [Dev.fastShown, ← bitMap_eq d.fastKept.fastSet 4, Dev.fastKept, ← bitSum_eq d.stillFast 8]
  rfl

theorem Dev.fastShown_fastDef (d : Dev) {n : Nat} (hn : n < 4) : d.fastShown.fastDef n = d.fastKept.fastSet n := by
  have hlt : bitsFrom d.fastKept.fastSet 4 % 2 ^ 4 = bitsFrom d.fastKept.fastSet 4 := Nat.mod_eq_of_lt (bitsFrom_succ _ 4).1
  have hfld : d.fastShown.fld Reg.LN_PROT_STAT.FAST_DEF = bitsFrom d.fastKept.fastSet 4 := (Dev.fld_put_same ..).trans hlt
  rw [Dev.fastDef, hfld, bitOf_bitsFrom _ hn]

/-- A defect that has lasted its hold-off, is selected and still stands is a fast defect. -/
theorem Dev.fastSet_of_lasted {n : Nat} (hn : n < 4) {ucw : Bool} (hb : bitOf d.prot.lasted (2 * n + bit ucw) = true)
    (hd : d.defect n (if ucw then dUCW else dDSD) = true)
    (ht : d.on (if ucw then Reg.LN_PROT_CTRL.TRIG_UCW else Reg.LN_PROT_CTRL.TRIG_DSD) = true) : d.fastKept.fastSet n = true := by
  have hbit (k : Nat) (hk : k < 8) : bitOf d.fastKept.prot.lasted k = d.stillFast k := bitOf_bitsFrom _ hk
  have ht' : d.fastKept.on (if ucw then Reg.LN_PROT_CTRL.TRIG_UCW else Reg.LN_PROT_CTRL.TRIG_DSD) = true := ht
  have hdiv : (2 * n + 1) / 2 = n := by omega
  unfold Dev.fastSet
  rw [hbit _ (by omega), hbit _ (by omega), Dev.stillFast, Dev.stillFast]
  cases ucw
  · simp only [Bool.false_eq_true, if_false, bit, Nat.add_zero] at hb hd ht'
    simp [hb, hd, ht']
  · simp only [if_true, bit] at hb hd ht'
    simp [hb, hd, ht', hdiv]

theorem Dev.fastShown_regs (d : Dev) {k : Nat} (hk : k ≠ Reg.LN_PROT_STAT.FAST_DEF.key) :
    Tbl.get d.fastShown.regs k (Reg.rst k) = Tbl.get d.regs k (Reg.rst k) := (Dev.reg_put ..).trans (if_neg hk)

/-- A defect that lasts its hold-off. -/
theorem Dev.holdoff_spec {n : Nat} (hn : n < 4) {ucw : Bool} (hup : d.lnUp n = true)
    (hd : d.defect n (if ucw then dUCW else dDSD) = true)
    (ht : d.on (if ucw then Reg.LN_PROT_CTRL.TRIG_UCW else Reg.LN_PROT_CTRL.TRIG_DSD) = true) : let e := d.holdoff n ucw
    e.fastDef n = true ∧ e.tref = e.trefWant ∧
      ∀ k, k ∉ Reg.LN_PROT_STAT.FAST_DEF.key :: trefKeys → k / 32 < 0x80000 ∨ 0x100000 ≤ k / 32 →
        Tbl.get e.regs k (Reg.rst k) = Tbl.get d.regs k (Reg.rst k) := by
  intro e
  let x : Dev := { d with prot := { d.prot with lasted := setBit d.prot.lasted (2 * n + bit ucw) true } }
  have he : e = x.fastShown.trefUpdate := by
    refine (if_pos ?_).trans x.fastUpdate_eq
    rw [hup, hd]
    rfl
  have hset : x.fastKept.fastSet n = true := Dev.fastSet_of_lasted hn (bitOf_setBit_same ..) hd ht
  rw [he]
  refine ⟨?_, ?_, fun k hk hoff => ?_⟩
  · rw [Dev.fastDef, Dev.fld, Dev.trefUpdate_regs _ (by unfold offTref; decide)]
    exact (x.fastShown_fastDef hn).trans hset
  · rw [Dev.trefUpdate_tref, Dev.trefUpdate_want]
  · obtain ⟨h1, h2⟩ := not_or.1 (mt List.mem_cons.2 hk)
    exact (Dev.trefUpdate_regs _ ⟨by omega, h2⟩).trans (x.fastShown_regs h1)

variable {d e : Dev} {n : Nat}

/-! ### A change of the time reference (R134) -/

/-- The build-out that a device's PLL carries, and whether its tracking has still to resume. -/
def Dev.built (d : Dev) : Bool × Option Nat := (d.tim.resume, d.tim.buildOut)

theorem Dev.setPend_built (d : Dev) (p : Int) : (d.setPend p).built = d.built := by
  obtain ⟨o, h, he⟩ := d.setPend_only p
  rw [Dev.built, he]
  rfl

theorem Dev.iff_built (he : e.built = d.built) (b : Bool) {f : Dev → Dev} (hf : ∀ e : Dev, (f e).built = e.built) :
    (e.iff b f).built = d.built := by
  unfold Dev.iff
  split
  · exact (hf e).trans he
  · exact he

theorem Dev.trefEqd_built (d : Dev) (path : Bool) : (d.trefEqd path).built = d.built := by
  unfold Dev.trefEqd
  split
  · exact Dev.iff_built (Dev.iff_built rfl _ fun e => e.setPend_built _) _ fun _ => rfl
  · rfl

/-- What a change of the reference shows, and the build-out of a change from one channel to another. -/
theorem Dev.trefUpdate_moved (h : d.trefWant ≠ d.tref) : d.trefUpdate.fld Reg.LN_PROT_EVT.TREF_CHG = 1 ∧
    ∀ n, d.trefWant = some n → d.tref ≠ none →
      d.trefUpdate.tim.resume = true ∧ d.trefUpdate.tim.buildOut = some (Tbl.get d.tim.phase n 0) := by
  rw [Dev.trefUpdate_eq, if_neg h]
  refine ⟨?_, fun n hn hwas => ?_⟩
  · have hkeep : (((d.trefShown d.trefWant).trefBuilt d.tref d.trefWant).trefEqd true).fld Reg.LN_PROT_EVT.TREF_CHG =
        (d.trefShown d.trefWant).fld Reg.LN_PROT_EVT.TREF_CHG := by
      rw [Dev.fld, (Dev.TimOnly.trefEqd _ true).regs _ (by decide), Dev.trefBuilt_regs]
      rfl
    exact hkeep.trans (Dev.fld_put_same ..)
  · obtain ⟨m, hm⟩ := Option.ne_none_iff_exists'.1 hwas
    have hb := ((d.trefShown d.trefWant).trefBuilt d.tref d.trefWant).trefEqd_built true
    rw [hm, hn] at hb ⊢
    exact ⟨congrArg Prod.fst hb, congrArg Prod.snd hb⟩

theorem Dev.trefUpdate_stays (h : d.trefWant = d.tref) : d.trefUpdate = d := by rw [Dev.trefUpdate_eq, if_pos h]

/-! ### The sequencer (R130 to R132) -/

/-- The sequencer does not evaluate: another mode, or a switch under way. -/
def Dev.protIdle (d : Dev) : Prop := d.lineMode ≠ 2 ∨ d.on Reg.LN_PROT_STAT.SWITCHING = true

theorem Dev.protAuto_rest (h : d.protIdle ∨ d.on Reg.LN_PROT_CTRL.ARMED = false ∨ d.trigger = false) : d.protAuto = d := by
  refine if_pos ?_
  rcases h with (h | h) | h | h <;> simp [h]

theorem Dev.protAuto_due (hi : ¬ d.protIdle) (ha : d.on Reg.LN_PROT_CTRL.ARMED = true) (ht : d.trigger = true) : d.protAuto =
    if d.stbyOk = true then (d.put Reg.LN_PROT_CTRL.ARMED 0).protSwitch 1
    else if d.prot.onset = true then d.ev Reg.LN_PROT_EVT.BLOCKED
    else { d.ev Reg.LN_PROT_EVT.BLOCKED with prot := { d.prot with onset := true } }.bump (Reg.LN_PROT_CNT.COUNT 1) := by
  obtain ⟨h1, h2⟩ := not_or.1 hi
  refine if_neg ?_
  simp [not_not.1 h1, h2, ha, ht]

/-- The blocked switch: its event, and the count at the onset of its trigger. -/
theorem Dev.protBlocked_sets (d : Dev) : { d with prot := { d.prot with onset := true } }.Sets
    (if d.prot.onset = true then d.ev Reg.LN_PROT_EVT.BLOCKED
      else { d.ev Reg.LN_PROT_EVT.BLOCKED with prot := { d.prot with onset := true } }.bump (Reg.LN_PROT_CNT.COUNT 1))
    ((Reg.LN_PROT_EVT.BLOCKED, 1) ::
      if d.prot.onset = true then [] else [(Reg.LN_PROT_CNT.COUNT 1, min (2 ^ 32 - 1) (d.fld (Reg.LN_PROT_CNT.COUNT 1) + 1))]) := by
  let x : Dev := { d with prot := { d.prot with onset := true } }
  by_cases h : d.prot.onset = true
  · have hx : x = d := by
      show ({ d with prot := { d.prot with onset := true } } : Dev) = d
      rw [← h]
    rw [if_pos h, if_pos h, show ({ d with prot := { d.prot with onset := true } } : Dev) = d from hx]
    exact Dev.Sets.put_one ..
  · rw [if_neg h, if_neg h]
    have hev : x.Sets (x.ev Reg.LN_PROT_EVT.BLOCKED) [(Reg.LN_PROT_EVT.BLOCKED, 1)] := Dev.Sets.put_one ..
    exact (hev.bump (f := Reg.LN_PROT_CNT.COUNT 1) (by decide)).of_mem_iff fun e => (List.reverse_perm [_, _]).mem_iff

theorem bits_and_clear (v m : Word) {lo n : Nat} (h : bits m.toNat lo n = 0) : bits (v &&& m).toNat lo n = 0 := by
  simp only [bits, BitVec.toNat_and, ← Nat.shiftRight_eq_div_pow, Nat.shiftRight_and_distrib, Nat.and_mod_two_pow] at h ⊢
  rw [h, Nat.and_zero]

/-- Which command a write of PROT_CTRL carries. -/
theorem bits_cmd (v c : Word) : bits (v &&& 0xFFFFFFCF#32 ||| c).toNat 4 2 = bits c.toNat 4 2 := by
  rw [bits_or, bits_and_clear v _ (by decide), Nat.zero_or]

/-- The sequencer switches by itself in this cycle. -/
theorem Dev.autoDue_iff (d : Dev) : d.autoDue = true ↔ d.on Reg.LN_PROT_STAT.SWITCHING = false ∧ d.on Reg.LN_PROT_CTRL.ARMED = true ∧
    d.trigger = true ∧ d.stbyOk = true := by
  simp [Dev.autoDue, and_assoc]

section Protect
variable {v c : Word}

/-- A command written to PROT_CTRL in the cycle of an automatic switch gives that switch. -/
theorem Dev.protWrite_auto (ha : d.autoDue = true) (hc : bits c.toNat 4 2 = 1 ∨ bits c.toNat 4 2 = 2) :
    d.protWrite (v &&& 0xFFFFFFCF#32 ||| c).toNat =
      (((d.plainWrite Reg.LN_PROT_CTRL.ADR (v &&& 0xFFFFFFCF#32 ||| c).toNat).defectsMoved.put Reg.LN_PROT_CTRL.ARMED 0).protSwitch 1) := by
  refine if_pos ?_
  rw [ha, bits_cmd]
  rcases hc with hc | hc <;> simp [hc]

theorem Dev.protWrite_cmd (ha : ¬ d.autoDue = true) :
    let x := (d.plainWrite Reg.LN_PROT_CTRL.ADR (v &&& 0xFFFFFFCF#32 ||| c).toNat).defectsMoved
    d.protWrite (v &&& 0xFFFFFFCF#32 ||| c).toNat =
      if bits c.toNat 4 2 = 1 then x.protManual else if bits c.toNat 4 2 = 2 then x.protForced else x := by
  refine (if_neg ?_).trans ?_
  · simp [Bool.not_eq_true _ ▸ ha]
  · rw [bits_cmd]

end Protect

theorem protAuto_none (s : State) (hup : s.dev.mainUp = true) (h : s.dev.protIdle ∨ s.dev.on Reg.LN_PROT_CTRL.ARMED = false ∨
    s.dev.trigger = false) : Does .protAutoSwitch s s.dev.refMoved :=
  .of_main_eq (exec_protAutoSwitch ..) hup (congrArg Dev.refMoved (Dev.protAuto_rest h))

theorem protAuto_blocked (s : State) (hup : s.dev.mainUp = true) (hi : ¬ s.dev.protIdle)
    (ha : s.dev.on Reg.LN_PROT_CTRL.ARMED = true) (ht : s.dev.trigger = true) (hs : s.dev.stbyOk = false) :
    EffectThen .protAutoSwitch s (·.refMoved) (fun d =>
      { s.dev with prot := { s.dev.prot with onset := true } }.Sets d ((Reg.LN_PROT_EVT.BLOCKED, 1) ::
        if s.dev.prot.onset = true then [] else [(Reg.LN_PROT_CNT.COUNT 1, min (2 ^ 32 - 1) (s.dev.fld (Reg.LN_PROT_CNT.COUNT 1) + 1))])) :=
  ⟨_, .of_main_eq (exec_protAutoSwitch ..) hup (congrArg Dev.refMoved ((Dev.protAuto_due hi ha ht).trans (if_neg (by simp [hs])))),
    s.dev.protBlocked_sets⟩

section Assembly
variable (s : State) (n : Fin 4) (g : Fin 1024) (hup : s.dev.mainUp = true)
include hup

/-- A data frame, a marker or a fault: every unit that the bonding stage takes off its channel. -/
theorem bondUnitRx_head (dt : Nat) {u : Unit3} {r : List Unit3} (hu : ((s.dev.advance dt).line n).bonded = u :: r)
    (hm : (s.dev.advance dt).lineMode = 1) (hb : bondHeader u.data = none) :
    Does (.bondUnitRx dt n) s (((s.dev.advance dt).bondPopped n r).bondCnt bHdrErr 1) :=
  .of_main_eq (exec_bondUnitRx ..) hup ((Dev.bondRx_in hu hm).trans (Dev.bondUnit_none hb))

/-- The start timer and the window of a group. -/
theorem bondTimers_spec : let y := s.dev.group g
    let up := fun (d d' : Dev) (c k : Nat) => d'.fld (Reg.LN_BOND_CNT.COUNT c) = min (2 ^ 32 - 1) (d.fld (Reg.LN_BOND_CNT.COUNT c) + k)
    (s.dev.gState g ≠ gStart ∨ y.timer = false → Does (.bondStartTimerExpiry g) s s.dev) ∧
    (s.dev.gState g = gStart → y.timer = true → Effect (.bondStartTimerExpiry g) s (fun d =>
      d.gState g = gRun ∧ (d.group g).timer = false ∧
      (y.held = [] → (s.dev.setGroup g { y with timer := false }).Sets d [(Reg.LN_BOND_GRP_CFG.STATE g, gRun)]))) ∧
    (s.dev.gState g ≠ gRun ∨ y.held = [] → Does (.bondWindowExpiry g) s s.dev) ∧
    ∀ h e, s.dev.gState g = gRun → y.held = [h] → y.exp = some e → h.seq < 65536 → Effect (.bondWindowExpiry g) s (fun d =>
      up s.dev d bWindowExp 1 ∧ up s.dev d bGapLost (seqDist h.seq e) ∧ up s.dev d bRel 1 ∧ (d.group g).held = [] ∧
      (d.group g).exp = some ((h.seq + 1) % 65536)) := by
  intro y up
  refine ⟨fun h => ?_, fun h1 h2 => ?_, fun h => ?_, fun h e h1 h2 h3 _ => ?_⟩
  · exact .of_main_eq (exec_bondStartTimerExpiry ..) hup (Dev.bondStartTimer_idle h)
  · obtain ⟨hs, ht⟩ := s.dev.bondStarted_spec g.isLt
    refine .of_main_eq hup ⟨hs, ht, fun hh => ?_⟩ (exec_bondStartTimerExpiry ..) (Dev.bondStartTimer_run h1 h2)
    have hempty : ((s.dev.bondStarted g).group g).held = [] := (congrArg BGroup.held (Dev.group_setGroup ..)).trans hh
    rw [Dev.bondGo_empty hempty]
    exact Dev.Sets.put_one ..
  · exact .of_main_eq (exec_bondWindowExpiry ..) hup (Dev.bondWindow_idle h)
  · exact ⟨_, .of_main_eq (exec_bondWindowExpiry ..) hup rfl, Dev.bondWindow_spec h1 h2 h3⟩

/-- The commands of PROT_CTRL. -/
theorem protCommands_spec (m : Master) (v : Word) (hl : s.dev.anyLine = true) : let x := s.dev
    let auto := x.on Reg.LN_PROT_STAT.SWITCHING = false ∧ x.on Reg.LN_PROT_CTRL.ARMED = true ∧ x.trigger = true ∧ x.stbyOk = true
    let base := fun (c : Word) => (x.plainWrite Reg.LN_PROT_CTRL.ADR (v &&& 0xFFFFFFCF#32 ||| c).toNat).defectsMoved
    Does (.protManualSwitch m v) s (let d := base 0x10#32
      if auto then ((d.put Reg.LN_PROT_CTRL.ARMED 0).protSwitch 1).refMoved
      else if d.lineMode ≠ 2 ∨ d.on Reg.LN_PROT_STAT.SWITCHING = true then d.refMoved
      else if d.stbyOk = true then (d.protSwitch 2).refMoved else (d.put Reg.LN_PROT_EVT.BLOCKED 1).refMoved) ∧
    Does (.protForcedSwitch m v) s (let d := base 0x20#32
      if auto then ((d.put Reg.LN_PROT_CTRL.ARMED 0).protSwitch 1).refMoved
      else if d.lineMode ≠ 2 ∨ d.on Reg.LN_PROT_STAT.SWITCHING = true then d.refMoved else (d.protSwitch 3).refMoved) := by
  intro x auto base
  have hpoke (c : Word) : x.poke m Reg.LN_PROT_CTRL.ADR (v &&& 0xFFFFFFCF#32 ||| c) =
      (x.protWrite (v &&& 0xFFFFFFCF#32 ||| c).toNat).refMoved := Dev.poke_LN_PROT_CTRL _ _ _ hl
  refine ⟨.of_main_eq (exec_protManualSwitch ..) hup ((hpoke _).trans ?_), .of_main_eq (exec_protForcedSwitch ..) hup ((hpoke _).trans ?_)⟩
  all_goals
    dsimp only
    by_cases ha : auto
  · rw [if_pos ha, Dev.protWrite_auto (x.autoDue_iff.2 ha) (by decide)]
  · rw [if_neg ha, Dev.protWrite_cmd (mt x.autoDue_iff.1 ha)]
    rw [if_pos (by decide), Dev.protManual]
    split
    · rfl
    · split <;> rfl
  · rw [if_pos ha, Dev.protWrite_auto (x.autoDue_iff.2 ha) (by decide)]
  · rw [if_neg ha, Dev.protWrite_cmd (mt x.autoDue_iff.1 ha)]
    rw [if_neg (by decide), if_pos (by decide), Dev.protForced]
    split <;> rfl

end Assembly

/-- Settles O33: the rows of R117 to R119 for a group that holds none, the timers, and line protection. -/
theorem bondingReceiveAndProtection : Obligations.BondingReceiveAndProtection := by
  unfold Obligations.BondingReceiveAndProtection
  refine ⟨fun s dt n g hup => ⟨fun h => ?_, fun u r hu => ⟨fun hm => ?_, fun hm => ⟨fun hb => ?_, fun ty q hb => ?_⟩⟩,
    bondTimers_spec s g hup⟩, fun s m n ucw v hup hl => ?_, fun d c => d.protSwitch_spec c.isLt, fun d => ⟨?_, ?_, ?_, ?_, ?_⟩⟩
  · exact .of_main_eq (exec_bondUnitRx ..) hup (Dev.bondRx_none h)
  · exact .of_main_eq (exec_bondUnitRx ..) hup (Dev.bondRx_out hu hm)
  · exact bondUnitRx_head s n hup dt hu hm hb
  · obtain ⟨h1, h2, h3⟩ := bondUnitRx_spec hup hu hm hb
    refine ⟨h1, h2, h3, fun hg hn hs ht => ?_⟩
    subst ht
    exact bondUnitRx_first hup hu hm hb hg hn hs
  · obtain ⟨hmanual, hforced⟩ := protCommands_spec s hup m v hl
    refine ⟨fun h => ?_, fun h ht => ?_, protAuto_none s hup, fun hi ha ht => ⟨fun hs => ?_, protAuto_blocked s hup hi ha ht⟩,
      hmanual, hforced, ?_, ?_⟩
    · refine .of_main_eq (exec_fastDefHoldoffExpiry ..) hup (congrArg Dev.refMoved (if_neg ?_))
      simpa using h
    · exact ⟨_, .of_main_eq (exec_fastDefHoldoffExpiry ..) hup rfl, Dev.holdoff_spec n.isLt h.1 h.2 ht⟩
    · exact .of_main_eq (exec_protAutoSwitch ..) hup (congrArg Dev.refMoved ((Dev.protAuto_due hi ha ht).trans (if_pos hs)))
    · exact .of_main_eq hup (Dev.Sets.put_one ..) (exec_protSwitchComplete ..) rfl
    · refine ⟨_, .of_main_eq (exec_trefTrackResume ..) hup rfl, ?_⟩
      unfold Dev.trefResume
      split
      · exact ⟨rfl, rfl⟩
      · next h => exact ⟨by simpa using h, rfl⟩
  · exact d.trefUpdate_tref
  · exact Dev.trefUpdate_stays
  · exact fun h => (Dev.trefUpdate_moved h).1
  · exact fun n hw hne hn => (Dev.trefUpdate_moved (fun h => hn (h.symm.trans hw))).2 n hw hne
  · exact fun h => if_neg h

end Sys2Proof.Machine
end

section
/-!
PROOFS. The DRAM controller: what a request can change, and the Siding that is kept in memory (R205 to R208, R369 to R376).
-/
namespace Sys2Proof.Machine

variable {d e : Dev} {c : Nat}

/-! ### What requests of the DRAM change -/

/-- A request went to the DRAM controller: its counters and events, memory and its queues, and what the device emits. -/
structure Dev.DmcOnly (d e : Dev) : Prop where
  regs : ∀ k, k / 32 < 0x1E00068 ∨ 0x1E00300 ≤ k / 32 → Tbl.get e.regs k (Reg.rst k) = Tbl.get d.regs k (Reg.rst k)
  rest : { e with regs := d.regs, dram := d.dram, out := d.out } = d

namespace Dev.DmcOnly

theorem refl (d : Dev) : d.DmcOnly d := ⟨fun _ _ => rfl, rfl⟩

theorem trans {f : Dev} (h : d.DmcOnly e) (h' : e.DmcOnly f) : d.DmcOnly f := by
  refine ⟨fun k hk => (h'.regs k hk).trans (h.regs k hk), ?_⟩
  have h1 := congrArg (fun x : Dev => ({ x with regs := d.regs, dram := d.dram, out := d.out } : Dev)) h'.rest
  exact h1.trans h.rest

theorem put (d : Dev) {f : Fld} (hf : 0x1E00068 ≤ f.key / 32 ∧ f.key / 32 < 0x1E00300) (v : Nat) : d.DmcOnly (d.put f v) := by
  refine ⟨fun k hk => ?_, rfl⟩
  rw [Dev.reg_put, if_neg (by rintro rfl; omega)]

theorem setDch (d : Dev) (c : Nat) (x : DramCh) : d.DmcOnly (d.setDch c x) := ⟨fun _ _ => rfl, rfl⟩

theorem emit (d : Dev) (x : Emit) : d.DmcOnly (d.emit x) := ⟨fun _ _ => rfl, rfl⟩

theorem iff (h : d.DmcOnly e) (b : Bool) {f : Dev → Dev} (hf : e.DmcOnly (f e)) : d.DmcOnly (e.iff b f) := by
  unfold Dev.iff
  split
  · exact h.trans hf
  · exact h

theorem each {α : Type} {f : Dev → α → Dev} (h : ∀ (d : Dev) x, d.DmcOnly (f d x)) (l : List α) (d : Dev) : d.DmcOnly (d.each l f) := by
  induction l generalizing d with
  | nil => exact refl d
  | cons x l ih => exact (h d x).trans (ih (f d x))

theorem dmcCnt (d : Dev) (hc : c < 4) {k : Nat} (hk : k < 16) : d.DmcOnly (d.dmcCnt c k) := by
  refine put d ?_ _
  simp only [Fld.key, Reg.DMC_CNT.COUNT]
  omega

theorem readLate (d : Dev) (hc : c < 4) (r : LineRead) : d.DmcOnly (d.readLate c r) := by
  unfold Dev.readLate
  split
  · exact (refl d).iff _ ((dmcCnt d hc (by decide)).trans (put _ (by decide) _))
  · exact refl d

theorem dmcCharge (d : Dev) (p : Nat) : d.DmcOnly (d.dmcCharge p).1 := by
  unfold Dev.dmcCharge
  split
  · exact refl d
  · exact ⟨fun _ _ => rfl, rfl⟩

theorem pourUpdate (d : Dev) (hc : c < 4) : d.DmcOnly (d.pourUpdate c) := by
  unfold Dev.pourUpdate
  dsimp only
  split
  · split
    · exact setDch ..
    · exact refl d
  · split
    · exact (setDch ..).trans (dmcCnt _ hc (by decide))
    · exact refl d

theorem lineEnter (hc : c < 4) {x : LineWait} (h : d.lineEnter c x = some e) : d.DmcOnly e := by
  unfold Dev.lineEnter at h
  dsimp only at h
  cases x with
  | rd r =>
    dsimp only at h
    split at h
    · cases h
      exact (emit d _).trans (readLate _ hc r)
    · split at h
      · cases h
      · cases h
        exact (dmcCharge d _).trans (setDch ..)
  | wr w =>
    dsimp only at h
    split at h
    · cases h
      exact (dmcCharge d _).trans (setDch ..)
    · split at h
      · cases h
      · cases h
        exact (dmcCharge d _).trans (setDch ..)

end Dev.DmcOnly

/-- One waiting access tries to enter the queues of its channel. -/
def Dev.drainStep (c : Nat) (a : Dev × List LineWait) (x : LineWait) : Dev × List LineWait :=
  if a.2.any (fun y => y.holds x) then (a.1, a.2 ++ [x]) else ((a.1.lineEnter c x).map (·, a.2)).getD (a.1, a.2 ++ [x])

theorem Dev.lineDrain_eq (d : Dev) (c : Nat) : let a := (d.dch c).waits.foldl (Dev.drainStep c) (d, [])
    d.lineDrain c = (a.1.setDch c { a.1.dch c with waits := a.2 }).pourUpdate c := by
  unfold Dev.lineDrain
  refine congrArg (fun a : Dev × List LineWait => (a.1.setDch c { a.1.dch c with waits := a.2 }).pourUpdate c) ?_
  refine congrArg (fun go => (d.dch c).waits.foldl go (d, [])) ?_
  funext a x
  obtain ⟨b, kept⟩ := a
  unfold Dev.drainStep
  dsimp only
  refine if_congr Iff.rfl rfl ?_
  cases b.lineEnter c x <;> rfl

theorem Dev.drained_only (hc : c < 4) (l : List LineWait) (a : Dev × List LineWait) : a.1.DmcOnly (l.foldl (Dev.drainStep c) a).1 := by
  induction l generalizing a with
  | nil => exact .refl _
  | cons x l ih =>
    refine Dev.DmcOnly.trans ?_ (ih (Dev.drainStep c a x))
    unfold Dev.drainStep
    split
    · exact .refl _
    · cases h : a.1.lineEnter c x with
      | none => exact .refl _
      | some y => exact Dev.DmcOnly.lineEnter hc h

theorem Dev.lineDrain_only (d : Dev) (hc : c < 4) : d.DmcOnly (d.lineDrain c) := by
  rw [Dev.lineDrain_eq]
  exact ((Dev.drained_only hc _ (d, [])).trans (.setDch ..)).trans (.pourUpdate _ hc)

theorem Dev.lineAsk_only (d : Dev) (hc : c < 4) (x : LineWait) : d.DmcOnly (d.lineAsk c x) :=
  (Dev.DmcOnly.setDch d c { d.dch c with waits := (d.dch c).waits ++ [x] }).trans (Dev.lineDrain_only _ hc)

theorem Dev.dramChan_lt (d : Dev) (a : Nat) : d.dramChan a < 4 := by
  have hlen : d.dchans.length ≤ 4 := List.length_filter_le _ (List.range 4)
  have hmod : d.dramChan a < max 1 d.dchans.length := Nat.mod_lt _ (by omega)
  omega

theorem Dev.dmcAsk_only (d : Dev) (port addr len : Nat) (data : Option (List Byte)) (dl : Int) : d.DmcOnly (d.dmcAsk port addr len data dl) := by
  unfold Dev.dmcAsk
  dsimp only
  split
  · exact (Dev.DmcOnly.refl d).iff _ (.emit ..)
  · split
    · exact (Dev.DmcOnly.put d (f := Reg.DMC_BAD_ADDR_CNT.COUNT) (by decide) _).iff _ (.emit ..)
    · refine .each (fun d la => ?_) _ d
      split
      · exact d.lineAsk_only (d.dramChan_lt la) _
      · exact d.lineAsk_only (d.dramChan_lt la) _

/-! ### The configuration of the buffer and of the Siding (R202, R205) -/

theorem find_bufCfg : Reg.find Reg.TMG_BUF_CFG.ADR = some ⟨0x800300, [], [⟨0, 19, .rw, 0x4000⟩]⟩ := by decide

theorem Dev.bufCfg_write (d : Dev) (v : Nat) : d.plainWrite Reg.TMG_BUF_CFG.ADR v = d.put Reg.TMG_BUF_CFG.GUAR_CELLS (v % 2 ^ 19) := by
  unfold Dev.plainWrite
  rw [find_bufCfg]
  show d.put Reg.TMG_BUF_CFG.GUAR_CELLS (bits v 0 19) = _
  rw [bits_zero]

/-- The two fields of SIDING_CFG as a write gives them. -/
def sidingFlds (v : Nat) : List (Fld × Nat) := [(Reg.TMG_SIDING_CFG.SIDING_CELLS, v % 2 ^ 27), (Reg.TMG_SIDING_CFG.EN, bits v 27 1)]

theorem Dev.sidingPut_sets (d : Dev) (v : Nat) :
    d.Sets ((d.put Reg.TMG_SIDING_CFG.SIDING_CELLS v).put Reg.TMG_SIDING_CFG.EN (bits v 27 1)) (sidingFlds v) := by
  have hset := (Dev.Sets.put_one d Reg.TMG_SIDING_CFG.SIDING_CELLS v).put_of_lt Reg.TMG_SIDING_CFG.EN (v := bits v 27 1) (bits_lt ..)
    (by simp only [List.map_cons, List.map_nil]; decide)
  exact hset.of_mem_iff fun e => (List.reverse_perm [_, _]).mem_iff

theorem bitOf_iff_bits (v i : Nat) : bitOf v i = true ↔ bits v i 1 = 1 := by
  rw [bits_one_eq]
  cases bitOf v i <;> decide

theorem Dev.sidingCfg_on {v : Nat} (h : bits v 27 1 = 1) : d.sidingCfg v =
    let x := (d.put Reg.TMG_SIDING_CFG.SIDING_CELLS v).put Reg.TMG_SIDING_CFG.EN (bits v 27 1)
    if d.tm.sidingOn then x
    else { x with tm := { d.tm with sidingOn := true, sidingSize := min (v % 2 ^ 27) ((d.region 0).2 * 4096) } } :=
  if_pos ((bitOf_iff_bits v 27).2 h)

theorem Dev.sidingCfg_off {v : Nat} (h : bits v 27 1 = 0) : d.sidingCfg v =
    ((d.put Reg.TMG_SIDING_CFG.SIDING_CELLS v).put Reg.TMG_SIDING_CFG.EN (bits v 27 1)).sidingOff := by
  refine if_neg fun hb => ?_
  have := (bitOf_iff_bits v 27).1 hb
  omega

/-- The Siding goes out of use where it is disabled and no queue spills. -/
theorem Dev.sidingOff_eq (d : Dev) : d.sidingOff =
    if d.tm.sidingOn = true ∧ d.on Reg.TMG_SIDING_CFG.EN = false ∧ d.spilling = false then { d with tm := { d.tm with sidingOn := false } } else d := by
  unfold Dev.sidingOff
  refine if_congr ?_ rfl rfl
  simp [and_assoc]

theorem Dev.sidingCfg_off_sets {v : Nat} (h : bits v 27 1 = 0) :
    (if d.tm.sidingOn = true ∧ d.spilling = false then ({ d with tm := { d.tm with sidingOn := false } } : Dev) else d).Sets (d.sidingCfg v) (sidingFlds v) := by
  let x := (d.put Reg.TMG_SIDING_CFG.SIDING_CELLS v).put Reg.TMG_SIDING_CFG.EN (bits v 27 1)
  have hen : x.on Reg.TMG_SIDING_CFG.EN = false := by
    have hfld : x.fld Reg.TMG_SIDING_CFG.EN = bits v 27 1 % 2 ^ 1 := Dev.fld_put_same ..
    rw [Dev.on, hfld, h]
    rfl
  have hoff : d.sidingCfg v = if d.tm.sidingOn = true ∧ d.spilling = false then { x with tm := { d.tm with sidingOn := false } } else x := by
    rw [Dev.sidingCfg_off h, Dev.sidingOff_eq]
    refine if_congr ?_ rfl rfl
    exact ⟨fun hc => ⟨hc.1, hc.2.2⟩, fun hc => ⟨hc.1, hen, hc.2⟩⟩
  rw [hoff]
  split
  · exact Dev.sidingPut_sets { d with tm := { d.tm with sidingOn := false } } v
  · exact d.sidingPut_sets v

/-! ### Frames that return from the Siding (R207) -/

/-- The oldest frame of a queue's Siding may return. -/
def Dev.mayReturn (d : Dev) (q : Nat) : Prop :=
  q < 32768 ∧ (d.queue q).spill = true ∧ (d.queue q).cells < cellsOf (d.admCfg (d.profOf q) 4) ∧ 1024 ≤ d.sharedFree

theorem Dev.sidingReturn_none {q : Nat} (h : (d.queue q).siding = [] ∨ ¬ d.mayReturn q) (fuel : Nat) : d.sidingReturn q fuel = d := by
  cases fuel with
  | zero => rfl
  | succ fuel =>
    unfold Dev.sidingReturn
    dsimp only
    split
    · rfl
    · next f r hr => exact if_neg fun hc => (h.resolve_left (by rw [hr]; simp)) hc

/-- The cells of a frame are read from memory. -/
def Dev.cellsRead (d : Dev) (l : List Nat) : Dev := d.each l (fun d i => d.dmcAsk 2 (d.sidingAddr i) 256 none 0)

theorem Dev.cellsRead_only (l : List Nat) (d : Dev) : d.DmcOnly (d.cellsRead l) := .each (fun d _ => d.dmcAsk_only ..) l d

theorem Dev.DmcOnly.sidingBase (h : d.DmcOnly e) : (e.region 0).1 = (d.region 0).1 := h.regs _ (by decide)

theorem Dev.cellsRead_eq (l : List Nat) (d : Dev) : d.cellsRead l =
    l.foldl (fun (e : Dev) i => e.dmcAsk 2 ((d.region 0).1 * 2 ^ 20 + 256 * i) 256 none 0) d := by
  have hgen (x : Dev) (hx : (x.region 0).1 = (d.region 0).1) (l : List Nat) : x.cellsRead l =
      l.foldl (fun (e : Dev) i => e.dmcAsk 2 ((d.region 0).1 * 2 ^ 20 + 256 * i) 256 none 0) x := by
    induction l generalizing x with
    | nil => exact (List.foldl_nil).symm
    | cons i l ih =>
      have honly := x.dmcAsk_only 2 (x.sidingAddr i) 256 none 0
      have hstep : ((x.dmcAsk 2 (x.sidingAddr i) 256 none 0).region 0).1 = (d.region 0).1 := honly.sidingBase.trans hx
      have hcons : x.cellsRead (i :: l) = (x.dmcAsk 2 (x.sidingAddr i) 256 none 0).cellsRead l := rfl
      rw [hcons, ih _ hstep, List.foldl_cons, Dev.sidingAddr, hx]
  exact hgen d rfl l

/-- The one frame of a queue's Siding comes back to the on-die buffer. -/
theorem Dev.sidingReturn_one {q : Nat} {f : Frame} (hs : (d.queue q).siding = [f]) (hm : d.mayReturn q) :
    d.sidingReturn q 1 =
      let h := ((d.cellsRead f.cellsAt).release f).hold f .shared
      (h.1.setQueue q { h.1.queue q with ondie := (h.1.queue q).ondie ++ [h.2] }).setSiding q [] := by
  unfold Dev.sidingReturn
  simp only [hs]
  exact if_pos hm

/-- The frame taken out of the Siding: what it held there is given back. -/
theorem Dev.release_siding {f : Frame} (hf : f.pool = .siding) (q : Nat) : (d.release f).queue q = d.queue q ∧
    (d.release f).tm.sidingUsed = d.tm.sidingUsed - f.cells ∧ (d.release f).tm.sharedUsed = d.tm.sharedUsed ∧
    (d.release f).tm.stageNo = d.tm.stageNo ∧ (d.release f).tm.sidingCells = d.tm.sidingCells.filter (fun i => i ∉ f.cellsAt) := by
  have hback (x : Queue) : x.giveBack f = x := by
    unfold Queue.giveBack
    rw [hf]
  unfold Dev.release
  cases hh : f.home with
  | none =>
    simp only [hf]
    exact ⟨rfl, trivial, trivial, trivial, trivial⟩
  | some p =>
    simp only [hf, hback]
    refine ⟨?_, rfl, rfl, rfl, rfl⟩
    by_cases hq : q = p
    · subst hq
      exact Dev.queue_setQueue ..
    · exact Dev.queue_setQueue_ne _ _ _ hq

theorem Dev.DmcOnly.tm_eq (h : d.DmcOnly e) : e.tm = d.tm := by
  have h' := congrArg Dev.tm h.rest
  exact h'

/-- A frame of the Siding as it stands in the on-die buffer again. -/
def Dev.backOnDie (d : Dev) (f : Frame) : Frame :=
  { f with cells := cellsFor f.fullLen, pool := .shared, home := none, stage := d.tm.stageNo, cellsAt := [] }

/-- What the return of the one frame of a queue's Siding changes. -/
theorem Dev.sidingReturn_spec {q : Nat} {f : Frame} (hs : (d.queue q).siding = [f]) (hm : d.mayReturn q) (hf : f.pool = .siding) :
    let e := d.sidingReturn q 1
    let y := d.queue q
    e.queue q = { y with siding := [], spill := false, ondie := y.ondie ++ [d.backOnDie f] } ∧
    e.tm.sidingUsed = d.tm.sidingUsed - f.cells ∧ e.tm.sharedUsed = d.tm.sharedUsed + cellsFor f.fullLen ∧
    e.tm.sidingCells = d.tm.sidingCells.filter (fun i => i ∉ f.cellsAt) ∧
    e.regs = (d.cellsRead f.cellsAt).regs ∧ e.dram = (d.cellsRead f.cellsAt).dram ∧ e.out = (d.cellsRead f.cellsAt).out := by
  intro e y
  let r := d.cellsRead f.cellsAt
  have htm : r.tm = d.tm := (Dev.cellsRead_only f.cellsAt d).tm_eq
  have hq : r.queue q = d.queue q := congrArg (fun t : Tm => Tbl.get t.queues q {}) htm
  obtain ⟨hqueue, hside, hshare, hstage, hcells⟩ := Dev.release_siding (d := r) hf q
  let h := (r.release f).hold f .shared
  have hh : h.2 = d.backOnDie f :=
    congrArg (fun k => ({ f with cells := cellsFor f.fullLen, pool := .shared, home := none, stage := k, cellsAt := [] } : Frame))
      (hstage.trans (congrArg Tm.stageNo htm))
  have hhq : h.1.queue q = d.queue q := hqueue.trans hq
  have he : e = (h.1.setQueue q { h.1.queue q with ondie := (h.1.queue q).ondie ++ [h.2] }).setSiding q [] := Dev.sidingReturn_one hs hm
  obtain ⟨hregs, hdram, hout⟩ : (r.release f).regs = r.regs ∧ (r.release f).dram = r.dram ∧ (r.release f).out = r.out := by
    obtain ⟨t, ht⟩ := r.release_tm f
    rw [ht]
    exact ⟨rfl, rfl, rfl⟩
  rw [he]
  refine ⟨?_, ?_, ?_, ?_, hregs, hdram, hout⟩
  · rw [Dev.setSiding, Dev.queue_setQueue, Dev.queue_setQueue, hhq, hh]
    simp only [y, bne_self_eq_false, Bool.and_false]
  · exact hside.trans (by rw [htm])
  · exact (congrArg (· + cellsFor f.fullLen) hshare).trans (by rw [htm])
  · exact hcells.trans (by rw [htm])

/-! ### Frames of the Siding that cannot be read (R208) -/

/-- Frames dropped keep what queues hold. -/
theorem Dev.release_waits (d : Dev) (f : Frame) (q : Nat) : ((d.release f).queue q).siding = (d.queue q).siding ∧
    ((d.release f).queue q).ondie = (d.queue q).ondie := by
  have hback (x : Queue) : (x.giveBack f).siding = x.siding ∧ (x.giveBack f).ondie = x.ondie := by
    unfold Queue.giveBack
    cases f.pool <;> exact ⟨rfl, rfl⟩
  have hgone (t : Tm) (h : t.queues = d.tm.queues) (p : Nat) :
      let x : Dev := { d with tm := t }
      (((x.setQueue p ((x.queue p).giveBack f)).queue q).siding = (d.queue q).siding) ∧
        ((x.setQueue p ((x.queue p).giveBack f)).queue q).ondie = (d.queue q).ondie := by
    intro x
    have hx (j : Nat) : x.queue j = d.queue j := congrArg (fun t : Tbl Queue => Tbl.get t j {}) h
    by_cases hq : q = p
    · subst hq
      rw [Dev.queue_setQueue, hx]
      exact hback _
    · rw [Dev.queue_setQueue_ne _ _ _ hq, hx]
      exact ⟨rfl, rfl⟩
  unfold Dev.release
  cases f.home with
  | none => cases f.pool <;> exact ⟨rfl, rfl⟩
  | some p => cases f.pool <;> exact hgone _ rfl p

theorem Dev.dropAll_waits (l : List Frame) (d : Dev) (c : Fld) (q : Nat) : ((d.dropAll l c).queue q).siding = (d.queue q).siding ∧
    ((d.dropAll l c).queue q).ondie = (d.queue q).ondie := by
  induction l generalizing d with
  | nil => exact ⟨rfl, rfl⟩
  | cons f l ih =>
    obtain ⟨h1, h2⟩ := ih ((d.release f).bump c)
    obtain ⟨g1, g2⟩ := d.release_waits f q
    exact ⟨h1.trans g1, h2.trans g2⟩

/-- What the loss of the first `n` frames of a queue's Siding leaves. -/
theorem Dev.sidingFail_spec (d : Dev) {q n : Nat} (hq : q < 65536) : let e := d.sidingFail q n
    let k := ((d.queue q).siding.take n).length
    (e.queue q).siding = (d.queue q).siding.drop n ∧ (e.queue q).ondie = (d.queue q).ondie ∧
    (k ≠ 0 → e.fld (Reg.TMG_QCNT.COUNT q 6) = min (2 ^ 32 - 1) (d.fld (Reg.TMG_QCNT.COUNT q 6) + k)) ∧
    e.fld (Reg.TMG_CNT.COUNT 6) = min (2 ^ 32 - 1) (d.fld (Reg.TMG_CNT.COUNT 6) + k) ∧
    (k ≠ 0 → e.fld Reg.TMG_EVT.SIDING_ECC = 1) := by
  intro e k
  let bad := (d.queue q).siding.take n
  let x := d.dropAll bad (Reg.TMG_QCNT.COUNT q 6)
  obtain ⟨hx1, hx2⟩ := Dev.dropAll_waits bad d (Reg.TMG_QCNT.COUNT q 6) q
  let y := x.setSiding q ((d.queue q).siding.drop n)
  have hyq : y.queue q = { x.queue q with siding := (d.queue q).siding.drop n, spill := (x.queue q).spill && (d.queue q).siding.drop n != [] } :=
    Dev.queue_setQueue ..
  obtain ⟨z, hz, hzr, hzq⟩ : ∃ z : Dev, e = (z.bumpBy (Reg.TMG_CNT.COUNT 6) k).iff (bad != []) (·.ev Reg.TMG_EVT.SIDING_ECC) ∧
      z.regs = x.regs ∧ (z.queue q).siding = (y.queue q).siding ∧ (z.queue q).ondie = (y.queue q).ondie := by
    refine ⟨_, rfl, ?_⟩
    split
    · exact ⟨rfl, rfl, rfl⟩
    · obtain ⟨t, ht⟩ := (y.setQueue q { y.queue q with deficit := 0 }).queueIdle_eq q
      rw [ht]
      have hset : (y.setQueue q { y.queue q with deficit := 0 }).queue q = { y.queue q with deficit := 0 } := Dev.queue_setQueue ..
      exact ⟨rfl, (congrArg Queue.siding hset :), (congrArg Queue.ondie hset :)⟩
  have hq0 : e.queue q = z.queue q := by
    rw [hz]
    unfold Dev.iff
    split <;> rfl
  have hcnt (f : Fld) (h1 : f.key ≠ Reg.TMG_EVT.SIDING_ECC.key) : e.fld f = (z.bumpBy (Reg.TMG_CNT.COUNT 6) k).fld f := by
    rw [hz]
    unfold Dev.iff
    split
    · exact Dev.fld_put_ne _ _ h1
    · rfl
  have hxcnt (f : Fld) : z.fld f = x.fld f := by rw [Dev.fld, hzr]; rfl
  refine ⟨?_, ?_, fun hk => ?_, ?_, fun hk => ?_⟩
  · rw [hq0, hzq.1, hyq]
  · rw [hq0, hzq.2, hyq]
    exact hx2
  · have hne1 : (Reg.TMG_QCNT.COUNT q 6).key ≠ Reg.TMG_EVT.SIDING_ECC.key := by
      simp only [Fld.key, Reg.TMG_QCNT.COUNT, Reg.TMG_EVT.SIDING_ECC]; omega
    have hne2 : (Reg.TMG_QCNT.COUNT q 6).key ≠ (Reg.TMG_CNT.COUNT 6).key := by
      simp only [Fld.key, Reg.TMG_QCNT.COUNT, Reg.TMG_CNT.COUNT]; omega
    have hbad : bad ≠ [] := by rintro h; exact hk (congrArg List.length h)
    exact (hcnt _ hne1).trans ((Dev.fld_put_ne _ _ hne2).trans ((hxcnt _).trans ((Dev.dropAll_count ..).trans (if_neg hbad))))
  · have hne : (Reg.TMG_CNT.COUNT 6).key ≠ (Reg.TMG_QCNT.COUNT q 6).key := by
      simp only [Fld.key, Reg.TMG_QCNT.COUNT, Reg.TMG_CNT.COUNT]; omega
    have hold : z.fld (Reg.TMG_CNT.COUNT 6) = d.fld (Reg.TMG_CNT.COUNT 6) :=
      (hxcnt _).trans (Dev.dropAll_regs bad d (Reg.TMG_QCNT.COUNT q 6) _ (by simpa using hne))
    rw [hcnt _ (by decide), Dev.bumpBy, Dev.fld_put_same, hold]
    exact Nat.mod_eq_of_lt (by show min (2 ^ 32 - 1) _ < 2 ^ 32; omega)
  · have hbad : (bad != []) = true := by
      rw [bne_iff_ne]
      rintro h
      exact hk (congrArg List.length h)
    rw [hz, Dev.iff, if_pos hbad]
    exact Dev.fld_put_same ..

variable {d e : Dev}

/-! ### The counts of a T-CONT (R212) -/

/-- A word of the counts of a T-CONT is a read-only register. -/
theorem find_tcontOcc {t j : Nat} (ht : t < 512) (hj : j < 3) :
    Reg.find (Reg.TMG_TCONT_OCC.ADR t j) = some ⟨0x808000, [(512, 0x10), (4, 0x4)], [⟨0, 32, .ro, 0⟩]⟩ := by
  obtain ⟨a, ha⟩ : ∃ a, a = Reg.TMG_TCONT_OCC.ADR t j := ⟨_, rfl⟩
  rw [← ha]
  simp only [Reg.TMG_TCONT_OCC.ADR] at ha
  have hlo : 0x808000 ≤ a := by omega
  have hhi : a < 0x80A000 := by omega
  have htab : Reg.table a = Reg.tabTMG := by
    unfold Reg.table
    iterate 10 rw [if_neg (by omega)]
    exact if_pos (by omega)
  have hhit : RegD.hit ⟨0x808000, [(512, 0x10), (4, 0x4)], [⟨0, 32, .ro, 0⟩]⟩ a = true := by
    simp only [RegD.hit, RegD.hitDims, Bool.and_eq_true, decide_eq_true_eq, beq_iff_eq]
    omega
  rw [Reg.find, htab]
  simp only [Reg.tabTMG, Reg.tabTMG0]
  iterate 12 rw [List.find?_cons_of_neg (by simp only [RegD.hit, RegD.hitDims, Bool.and_eq_true, decide_eq_true_eq, beq_iff_eq]; omega)]
  exact List.find?_cons_of_pos hhit

theorem wideOf_tcontOcc {t j : Nat} (ht : t < 512) (hj : j < 3) : wideOf (Reg.TMG_TCONT_OCC.ADR t j) = some (Reg.TMG_TCONT_OCC.ADR t 0, 3) := by
  obtain ⟨a, ha⟩ : ∃ a, a = Reg.TMG_TCONT_OCC.ADR t j := ⟨_, rfl⟩
  rw [← ha]
  simp only [Reg.TMG_TCONT_OCC.ADR] at ha ⊢
  have hbase : 0x808000 + (a - 0x808000) / 16 * 16 = 0x808000 + t * 0x10 + 0 * 0x4 := by omega
  unfold wideOf
  dsimp only
  iterate 11 rw [List.find?_cons_of_neg (by simp only [Bool.and_eq_true, decide_eq_true_eq]; omega)]
  rw [List.find?_cons_of_pos (by simp only [Bool.and_eq_true, decide_eq_true_eq]; omega)]
  exact congrArg (fun x => some (x, 3)) hbase

/-- The word that a read of a T-CONT's counts shows. -/
theorem Dev.tcontOcc_word (d : Dev) (m : Nat) {t j : Nat} (ht : t < 512) (hj : j < 3) :
    d.word m (Reg.TMG_TCONT_OCC.ADR t j) = (if j = 0 then (Tbl.get d.tm.occ t {}).ondie else if j = 1 then (Tbl.get d.tm.occ t {}).siding
      else (Tbl.get d.tm.occ t {}).frames) % 2 ^ 32 := by
  obtain ⟨a, ha⟩ : ∃ a, a = Reg.TMG_TCONT_OCC.ADR t j := ⟨_, rfl⟩
  rw [← ha]
  simp only [Reg.TMG_TCONT_OCC.ADR] at ha
  have hview : d.word m a = d.viewTmg a (d.stored a) := by
    unfold Dev.word
    iterate 10 rw [if_neg (by omega)]
    exact if_pos (by omega)
  have hno (b st n : Nat) (h : a < b) : slotAt a b st n = none := if_neg (by omega)
  have hyes : slotAt a 0x808000 4 2048 = some (4 * t + j) := by
    unfold slotAt
    rw [if_pos (by omega), show (a - 0x808000) / 4 = 4 * t + j by omega]
  rw [hview, Dev.viewTmg]
  iterate 4 rw [if_neg (by omega)]
  rw [hno _ _ _ (by omega), hno _ _ _ (by omega), hyes]
  have hdiv : (4 * t + j) / 4 = t := by omega
  have hmod : (4 * t + j) % 4 = j := by omega
  dsimp only
  rw [hdiv, hmod]
  by_cases h2 : j = 2
  · subst h2; rfl
  · obtain rfl | rfl : j = 0 ∨ j = 1 := by omega
    · rfl
    · rfl

theorem Dev.tcontOcc_here {t : Nat} (ht : t < 512) (hu : d.unit 14 = true) (hc : d.coachHere = true) :
    d.absent (Reg.TMG_TCONT_OCC.ADR t 0) = false := by
  obtain ⟨a, ha⟩ : ∃ a, a = Reg.TMG_TCONT_OCC.ADR t 0 := ⟨_, rfl⟩
  rw [← ha]
  simp only [Reg.TMG_TCONT_OCC.ADR] at ha
  have habs : d.absent a = d.absentTmg a := by
    unfold Dev.absent
    iterate 10 rw [if_neg (by omega)]
    exact if_pos (by omega)
  have h1 : (a == 0x800400) = false := beq_eq_false_iff_ne.2 (by omega)
  have h2 : (a == 0x800404) = false := beq_eq_false_iff_ne.2 (by omega)
  rw [habs, Dev.absentTmg, hu, hc, h1, h2]
  simp

theorem rcFields_tcontOcc {t j : Nat} (ht : t < 512) (hj : j < 3) : rcFields (Reg.TMG_TCONT_OCC.ADR t j) = [] := by
  rw [rcFields, find_tcontOcc ht hj]
  rfl

/-- The read of a T-CONT's counts shows the first and latches the others. -/
theorem Dev.tcontOcc_read (d : Dev) (m : Master) {t : Nat} (ht : t < 512) (hu : d.unit 14 = true) (hc : d.coachHere = true) :
    let e := d.access m (Reg.TMG_TCONT_OCC.ADR t 0) .read
    let o := Tbl.get d.tm.occ t {}
    e.regs = d.regs ∧ e.out = .busRead m (Reg.TMG_TCONT_OCC.ADR t 0) (BitVec.ofNat 32 o.ondie) :: d.out ∧
      Tbl.get e.latch (Reg.TMG_TCONT_OCC.ADR t 1) 0 = o.siding % 2 ^ 32 ∧ Tbl.get e.latch (Reg.TMG_TCONT_OCC.ADR t 2) 0 = o.frames % 2 ^ 32 := by
  intro e o
  have hnext (j : Nat) : Reg.TMG_TCONT_OCC.ADR t 0 + 4 * j = Reg.TMG_TCONT_OCC.ADR t j := by simp only [Reg.TMG_TCONT_OCC.ADR]; omega
  have hword (j : Nat) (hj : j < 3) := d.tcontOcc_word m.num ht hj
  have hwide := wideOf_tcontOcc ht (by decide : 0 < 3)
  have hfirst : d.readFirst m (Reg.TMG_TCONT_OCC.ADR t 0) = d := by
    have hffe : slotAt (Reg.TMG_TCONT_OCC.ADR t 0) (Reg.LN_FFE.ADR 0 0) 0x40000 4 = none := by
      refine if_neg ?_
      simp only [Reg.TMG_TCONT_OCC.ADR, Reg.LN_FFE.ADR]
      omega
    rw [Dev.readFirst_eq, if_neg (by simp only [Reg.TMG_TCONT_OCC.ADR, Reg.TIM_NOW_FRAC.ADR]; omega),
      if_neg (by simp only [Reg.TMG_TCONT_OCC.ADR, Reg.TRU_DBG_CHAL.ADR]; omega), hffe]
    rfl
  obtain ⟨l, hl, hnew, -⟩ := d.readThen_eq m (Reg.TMG_TCONT_OCC.ADR t 0)
  have hclear : (ownWords (Reg.TMG_TCONT_OCC.ADR t 0)).flatMap rcFields = [] := by
    rw [ownWords, hwide]
    simp only [Option.map_some, Option.getD_some, if_true, List.flatMap_eq_nil_iff, List.mem_map, List.mem_range]
    rintro x ⟨j, hj, rfl⟩
    rw [hnext]
    exact rcFields_tcontOcc ht hj
  have hview : d.view m.num (Reg.TMG_TCONT_OCC.ADR t 0) = o.ondie % 2 ^ 32 := by
    rw [Dev.view_eq, hwide, Option.map_some, Option.getD_some, if_pos rfl]
    exact hword 0 (by decide)
  have hread : e = Dev.answered m (Reg.TMG_TCONT_OCC.ADR t 0) ({ d with latch := l }, o.ondie % 2 ^ 32) := by
    have hfind : (Reg.find (Reg.TMG_TCONT_OCC.ADR t 0)).isNone = false := by rw [find_tcontOcc ht (by decide)]; rfl
    refine (Dev.access_read_of_aligned (by simp only [Reg.TMG_TCONT_OCC.ADR]; omega) m).trans ?_
    rw [Dev.busRead, hfind, if_neg Bool.false_ne_true, Dev.tcontOcc_here ht hu hc, if_neg Bool.false_ne_true,
      if_neg (by simp only [Reg.TMG_TCONT_OCC.ADR, Reg.TRU_RNG_DATA.ADR]; omega)]
    dsimp only
    rw [hfirst, hl, hclear, hview]
    rfl
  rw [hread]
  refine ⟨rfl, ?_, ?_, ?_⟩
  · refine congrArg (fun v => Emit.busRead m (Reg.TMG_TCONT_OCC.ADR t 0) v :: d.out) ?_
    exact BitVec.eq_of_toNat_eq (by simp)
  · rw [← hnext 1]
    refine (hnew _ hwide rfl 1 (by decide) (show 1 < 3 by decide)).trans ?_
    rw [hnext]
    exact hword 1 (by decide)
  · rw [← hnext 2]
    refine (hnew _ hwide rfl 2 (by decide) (show 2 < 3 by decide)).trans ?_
    rw [hnext]
    exact hword 2 (by decide)

/-- Settles O41: the two configuration writes, the Siding's frames back on-die or lost, and the counts of a T-CONT. -/
theorem bufferAndSiding : Obligations.BufferAndSiding := by
  unfold Obligations.BufferAndSiding
  intro s m v q lost t hup h14 x y cfg off size o
  refine ⟨?_, fun hs => ⟨fun hen hoff => ?_, fun hen hon => ?_, fun hen => ?_⟩, ?_, fun h => ?_, fun f hf hsp hq hpool hcells hfree => ?_,
    ?_, ?_, fun hc => ?_⟩
  · refine .of_main_eq hup (Dev.Sets.put_one ..) (exec_bufCfgWrite ..) ((Dev.poke_TMG_BUF_CFG _ _ _ h14).trans ?_)
    exact (x.bufCfg_write v.toNat).trans (Dev.put_mod ..)
  · refine .of_main_eq hup (Dev.sidingPut_sets _ v.toNat) (exec_sidingCfgWrite ..) ((Dev.poke_TMG_SIDING_CFG _ _ _ h14 hs).trans
      ((Dev.sidingCfg_on hen).trans (if_neg (by rw [hoff]; decide))))
  · refine .of_main_eq hup (Dev.sidingPut_sets _ v.toNat) (exec_sidingCfgWrite ..) ((Dev.poke_TMG_SIDING_CFG _ _ _ h14 hs).trans
      ((Dev.sidingCfg_on hen).trans (if_pos hon)))
  · exact .of_main_eq hup (Dev.sidingCfg_off_sets hen) (exec_sidingCfgWrite ..) (Dev.poke_TMG_SIDING_CFG _ _ _ h14 hs)
  · exact .of_main_eq (exec_sidingDisableApply ..) hup x.sidingOff_eq
  · have hnone : y.siding = [] ∨ ¬ x.mayReturn q.toNat := by
      refine h.imp_right fun h hm => ?_
      obtain ⟨hq, hsp, hcells, hfree⟩ := hm
      rcases h with h | h | h | h
      · exact absurd (hsp.symm.trans h) (by decide)
      · omega
      · exact absurd hcells (Nat.not_lt.2 h)
      · omega
    exact .of_main_eq (exec_sidingReturn ..) hup (Dev.sidingReturn_none hnone _)
  · obtain ⟨h1, h2, h3, h4, h5, h6, h7⟩ := Dev.sidingReturn_spec hf ⟨hq, hsp, hcells, hfree⟩ hpool
    have hlen : x.sidingReturn q.toNat (x.queue q.toNat).siding.length = x.sidingReturn q.toNat 1 := by rw [hf]; rfl
    rw [Dev.cellsRead_eq] at h5 h6 h7
    exact ⟨_, .of_main_eq (exec_sidingReturn ..) hup hlen, h1, h2, h3, h4, h5, h6, h7⟩
  · exact ⟨_, .of_main_eq (exec_sidingReadDone ..) hup rfl, x.sidingFail_spec q.isLt⟩
  · exact .of_main_eq (exec_tcontOccUpdate ..) hup rfl
  · exact .of_main_eq hup (x.tcontOcc_read m t.isLt h14 hc) (exec_tcontOccRead ..) rfl

end Sys2Proof.Machine
end

section
/-!
PROOFS. The DRAM controller (R366 to R384): configuration, requests of the ports, command slots and timers.
-/
namespace Sys2Proof.Machine

variable {d e : Dev} {c : Nat}

/-! ### The control word (R369, R383) -/

/-- The fields of DMC.CTRL that a write sets besides INIT and EN. -/
def dmcFlds (v : Nat) : List (Fld × Nat) :=
  [(Reg.DMC_CTRL.KEEP, v / 4 % 2), (Reg.DMC_CTRL.RATE, v / 8 % 4), (Reg.DMC_CTRL.DENSITY, v / 32 % 8)]

theorem dmcFlds_nodup (v : Nat) : ((dmcFlds v).map (·.1.key)).Nodup := by
  simp only [dmcFlds, List.map_cons, List.map_nil]
  decide

theorem dmcFlds_lt (v : Nat) : ∀ x ∈ dmcFlds v, x.2 < 2 ^ x.1.w := by
  simp only [dmcFlds, List.mem_cons, List.not_mem_nil, or_false]
  rintro x (rfl | rfl | rfl) <;> exact Nat.mod_lt _ (by decide)

theorem Dev.dmcSet_sets (d : Dev) (v : Nat) : d.Sets (d.puts (dmcFlds v)) (dmcFlds v) := Dev.puts_sets (dmcFlds_nodup v) (dmcFlds_lt v) d

/-- The fields read by initialisation and enabling. -/
theorem Dev.dmcSet_flds (d : Dev) (v : Nat) : let x := d.puts (dmcFlds v)
    x.fld Reg.DMC_STAT.STATE = d.fld Reg.DMC_STAT.STATE ∧ x.fld Reg.DMC_CTRL.EN = d.fld Reg.DMC_CTRL.EN ∧
    x.fld Reg.DMC_CTRL.DENSITY = v / 32 % 8 ∧ x.fld Reg.DMC_CTRL.KEEP = v / 4 % 2 ∧ x.regionsOk = d.regionsOk := by
  have hregs := (d.dmcSet_sets v).1
  have hne (f : Fld) (hf : f.key ∉ [Reg.DMC_CTRL.KEEP, Reg.DMC_CTRL.RATE, Reg.DMC_CTRL.DENSITY].map Fld.key) :
      (d.puts (dmcFlds v)).fld f = d.fld f := hregs.fld_eq hf
  have hregion (k : Nat) : (d.puts (dmcFlds v)).region k = d.region k := by
    unfold Dev.region
    rw [hne _ (by decide), hne _ (by decide), hne _ (by decide), hne _ (by decide), hne _ (by decide), hne _ (by decide)]
  refine ⟨hne _ (by decide), hne _ (by decide), hregs.1 (Reg.DMC_CTRL.DENSITY, _) (by simp [dmcFlds]),
    hregs.1 (Reg.DMC_CTRL.KEEP, _) (by simp [dmcFlds]), ?_⟩
  unfold Dev.regionsOk
  rw [hregion, hregion, hregion]
  rfl

/-- A control word by its fields. -/
theorem Dev.dmcCtrl_eq (d : Dev) (v : Nat) :
    d.dmcCtrl v = ((d.puts (dmcFlds v)).iff (bitOf v 1) Dev.dmcInit).dmcEn (bitOf v 0) := by
  have hset : ((d.put Reg.DMC_CTRL.KEEP (v / 4)).put Reg.DMC_CTRL.RATE (v / 8)).put Reg.DMC_CTRL.DENSITY (v / 32) = d.puts (dmcFlds v) := by
    rw [← Dev.put_mod _ Reg.DMC_CTRL.KEEP, ← Dev.put_mod _ Reg.DMC_CTRL.RATE, ← Dev.put_mod _ Reg.DMC_CTRL.DENSITY]
    rfl
  rw [Dev.dmcCtrl, hset]

/-- A word with INIT or EN added sets the same other fields. -/
theorem dmcFlds_or (v : Word) {w : Word} (h : w = 1#32 ∨ w = 2#32) : dmcFlds (v ||| w).toNat = dmcFlds v.toNat := by
  have hb (lo n : Nat) (h0 : bits w.toNat lo n = 0) : (v ||| w).toNat / 2 ^ lo % 2 ^ n = v.toNat / 2 ^ lo % 2 ^ n := by
    have hor := bits_or v w lo n
    rw [h0, Nat.or_zero] at hor
    exact hor
  have h1 : (v ||| w).toNat / 4 % 2 = v.toNat / 4 % 2 := hb 2 1 (by rcases h with rfl | rfl <;> decide)
  have h2 : (v ||| w).toNat / 8 % 4 = v.toNat / 8 % 4 := hb 3 2 (by rcases h with rfl | rfl <;> decide)
  have h3 : (v ||| w).toNat / 32 % 8 = v.toNat / 32 % 8 := hb 5 3 (by rcases h with rfl | rfl <;> decide)
  unfold dmcFlds
  rw [h1, h2, h3]

theorem bitOf_zero_of_bits {v : Nat} {i : Nat} (h : bits v i 1 = 0) : bitOf v i = false := by
  rw [← Bool.not_eq_true, bitOf_iff_bits]
  omega

/-- A write of EN alone. -/
theorem Dev.dmcEnable_eq (v : Word) (h : bits v.toNat 1 1 = 0) :
    d.dmcCtrl (v ||| 1#32).toNat = (d.puts (dmcFlds v.toNat)).dmcEn true := by
  rw [Dev.dmcCtrl_eq, dmcFlds_or v (.inl rfl), bitOf_or, bitOf_or, bitOf_zero_of_bits h]
  simp only [show bitOf (1#32 : Word).toNat 1 = false from by decide, show bitOf (1#32 : Word).toNat 0 = true from by decide, Bool.or_true,
    Bool.or_self]
  rfl

/-- A write of INIT alone. -/
theorem Dev.dmcInit_eq (v : Word) (h : bits v.toNat 0 1 = 0) :
    d.dmcCtrl (v ||| 2#32).toNat = (d.puts (dmcFlds v.toNat)).dmcInit.dmcEn false := by
  rw [Dev.dmcCtrl_eq, dmcFlds_or v (.inr rfl), bitOf_or, bitOf_or, bitOf_zero_of_bits h]
  simp only [show bitOf (2#32 : Word).toNat 1 = true from by decide, show bitOf (2#32 : Word).toNat 0 = false from by decide, Bool.or_true,
    Bool.or_self]
  rfl

/-- A control word that does not start initialisation. -/
theorem Dev.dmcWrite_still {v : Nat} (h : (d.dmcCtrl v).fld Reg.DMC_STAT.STATE = d.fld Reg.DMC_STAT.STATE ∨
    (d.dmcCtrl v).fld Reg.DMC_STAT.STATE ≠ 1) : d.dmcWrite v = d.dmcCtrl v := by
  unfold Dev.dmcWrite Dev.iff
  refine if_neg ?_
  rcases h with h | h <;> simp [h]

/-- The wakes that the start of initialisation asks for. -/
theorem Dev.dmcWrite_woken (d : Dev) (v : Nat) : (d.dmcWrite v).dram = (d.dmcCtrl v).dram ∧
    ∀ f : Fld, f.key ≠ Reg.PWR_WAKE_STAT.QUEUED.key → (d.dmcWrite v).fld f = (d.dmcCtrl v).fld f := by
  have hone (x : Dev) (c : Nat) : (x.wakeAsk c).dram = x.dram ∧ ∀ f : Fld, f.key ≠ Reg.PWR_WAKE_STAT.QUEUED.key → (x.wakeAsk c).fld f = x.fld f := by
    unfold Dev.wakeAsk
    split
    · exact ⟨rfl, fun _ _ => rfl⟩
    · exact ⟨rfl, fun f hf => Dev.fld_put_ne _ _ hf⟩
  have hask (l : List Nat) (x : Dev) : (x.each l (fun d c => d.wakeAsk (236 + c))).dram = x.dram ∧
      ∀ f : Fld, f.key ≠ Reg.PWR_WAKE_STAT.QUEUED.key → (x.each l (fun d c => d.wakeAsk (236 + c))).fld f = x.fld f := by
    induction l generalizing x with
    | nil => exact ⟨rfl, fun _ _ => rfl⟩
    | cons c l ih =>
      obtain ⟨h1, h2⟩ := ih (x.wakeAsk (236 + c))
      obtain ⟨g1, g2⟩ := hone x (236 + c)
      exact ⟨h1.trans g1, fun f hf => (h2 f hf).trans (g2 f hf)⟩
  unfold Dev.dmcWrite Dev.iff
  dsimp only
  split
  · exact hask _ _
  · exact ⟨rfl, fun _ _ => rfl⟩

/-- Enabling where the regions fit. -/
theorem Dev.dmcEnable_taken (v : Nat) (h : d.fld Reg.DMC_CTRL.EN ≠ 0 ∨ d.regionsOk = true) :
    d.Sets ((d.puts (dmcFlds v)).dmcEn true) (dmcFlds v ++ [(Reg.DMC_CTRL.EN, 1)]) := by
  obtain ⟨-, hen, -, -, hok⟩ := d.dmcSet_flds v
  have htake : (d.puts (dmcFlds v)).dmcEn true = d.puts (dmcFlds v ++ [(Reg.DMC_CTRL.EN, 1)]) := by
    rw [Dev.puts_append, Dev.dmcEn, if_neg]
    · rfl
    · rw [Dev.on, hen, hok]
      rcases h with h | h <;> simp [h]
  rw [htake]
  refine Dev.puts_sets ?_ ?_ d
  · simp only [dmcFlds, List.cons_append, List.nil_append, List.map_cons, List.map_nil]
    decide
  · intro x hx
    rcases List.mem_append.1 hx with hx | hx
    · exact dmcFlds_lt v x hx
    · rw [List.mem_singleton.1 hx]
      decide

theorem Dev.dmcEnable_refused (v : Nat) (h : d.fld Reg.DMC_CTRL.EN = 0) (hok : d.regionsOk = false) :
    d.Sets ((d.puts (dmcFlds v)).dmcEn true) (dmcFlds v ++ [(Reg.DMC_STAT.FAIL_CODE, 2), (Reg.DMC_EVT.CFG_REJ, 1)]) := by
  obtain ⟨-, hen, -, -, hok'⟩ := d.dmcSet_flds v
  have hno : (d.puts (dmcFlds v)).dmcEn true = d.puts (dmcFlds v ++ [(Reg.DMC_STAT.FAIL_CODE, 2), (Reg.DMC_EVT.CFG_REJ, 1)]) := by
    rw [Dev.puts_append, Dev.dmcEn, if_pos]
    · rfl
    · rw [Dev.on, hen, hok', h, hok]
      decide
  rw [hno]
  refine Dev.puts_sets ?_ ?_ d
  · simp only [dmcFlds, List.cons_append, List.nil_append, List.map_cons, List.map_nil]
    decide
  · intro x hx
    rcases List.mem_append.1 hx with hx | hx
    · exact dmcFlds_lt v x hx
    · simp only [List.mem_cons, List.not_mem_nil, or_false] at hx
      rcases hx with rfl | rfl <;> decide

/-- A write of INIT outside RESET and FAILED. -/
theorem Dev.dmcInit_running (v : Nat) (h0 : d.fld Reg.DMC_STAT.STATE ≠ 0) (h3 : d.fld Reg.DMC_STAT.STATE ≠ 3) :
    d.Sets ((d.puts (dmcFlds v)).dmcInit.dmcEn false) (dmcFlds v ++ [(Reg.DMC_CTRL.EN, 0)]) := by
  obtain ⟨hst, -⟩ := d.dmcSet_flds v
  have hinit : (d.puts (dmcFlds v)).dmcInit = d.puts (dmcFlds v) := by
    refine if_neg ?_
    rw [hst]
    exact not_or.2 ⟨h0, h3⟩
  have hoff : (d.puts (dmcFlds v)).dmcInit.dmcEn false = d.puts (dmcFlds v ++ [(Reg.DMC_CTRL.EN, 0)]) := by
    rw [hinit, Dev.puts_append]
    exact if_neg (by simp)
  rw [hoff]
  refine Dev.puts_sets ?_ ?_ d
  · simp only [dmcFlds, List.cons_append, List.nil_append, List.map_cons, List.map_nil]
    decide
  · intro x hx
    rcases List.mem_append.1 hx with hx | hx
    · exact dmcFlds_lt v x hx
    · rw [List.mem_singleton.1 hx]
      decide

theorem Dev.dmcInit_bad (v : Nat) (h : d.fld Reg.DMC_STAT.STATE = 0 ∨ d.fld Reg.DMC_STAT.STATE = 3) (hden : 4 < v / 32 % 8) :
    d.Sets ((d.puts (dmcFlds v)).dmcInit.dmcEn false) (dmcFlds v ++ [(Reg.DMC_STAT.FAIL_CODE, 1), (Reg.DMC_STAT.FAIL_CH, 0),
      (Reg.DMC_STAT.KEPT, 0), (Reg.DMC_STAT.STATE, 3), (Reg.DMC_CTRL.EN, 0)]) := by
  obtain ⟨hst, -, hd, -, -⟩ := d.dmcSet_flds v
  have hinit : (d.puts (dmcFlds v)).dmcInit =
      (d.puts (dmcFlds v ++ [(Reg.DMC_STAT.FAIL_CODE, 0), (Reg.DMC_STAT.FAIL_CH, 0), (Reg.DMC_STAT.KEPT, 0), (Reg.DMC_STAT.STATE, 3)])).put
        Reg.DMC_STAT.FAIL_CODE 1 := by
    rw [Dev.puts_append, Dev.dmcInit]
    dsimp only
    rw [if_pos (by rw [hst]; exact h), if_pos (by rw [hd]; exact hden)]
    rfl
  have hset : d.Sets (d.puts (dmcFlds v ++ [(Reg.DMC_STAT.FAIL_CODE, 0), (Reg.DMC_STAT.FAIL_CH, 0), (Reg.DMC_STAT.KEPT, 0), (Reg.DMC_STAT.STATE, 3)]))
      (dmcFlds v ++ [(Reg.DMC_STAT.FAIL_CODE, 0), (Reg.DMC_STAT.FAIL_CH, 0), (Reg.DMC_STAT.KEPT, 0), (Reg.DMC_STAT.STATE, 3)]) := by
    refine Dev.puts_sets ?_ ?_ d
    · simp only [dmcFlds, List.cons_append, List.nil_append, List.map_cons, List.map_nil]
      decide
    · intro x hx
      rcases List.mem_append.1 hx with hx | hx
      · exact dmcFlds_lt v x hx
      · simp only [List.mem_cons, List.not_mem_nil, or_false] at hx
        rcases hx with rfl | rfl | rfl | rfl <;> decide
  have hfirst := hset.of_mem_iff (l' := (Reg.DMC_STAT.FAIL_CODE, 0) :: (dmcFlds v ++ [(Reg.DMC_STAT.FAIL_CH, 0), (Reg.DMC_STAT.KEPT, 0),
    (Reg.DMC_STAT.STATE, 3)])) fun e => by simp only [List.mem_cons, List.mem_append]; tauto
  have hcode := hfirst.put_again 1 (by simp only [dmcFlds, List.cons_append, List.nil_append, List.map_cons, List.map_nil]; decide)
  have hen := hcode.put_of_lt Reg.DMC_CTRL.EN (v := 0) (by decide)
    (by simp only [dmcFlds, List.cons_append, List.nil_append, List.map_cons, List.map_nil]; decide)
  have hoff : (d.puts (dmcFlds v)).dmcInit.dmcEn false = (d.puts (dmcFlds v)).dmcInit.put Reg.DMC_CTRL.EN 0 := if_neg (by simp)
  rw [hoff, hinit]
  refine hen.of_mem_iff fun e => ?_
  simp only [List.mem_cons, List.mem_append]
  norm_num
  tauto

theorem Dev.dmcInit_good (v : Nat) (h : d.fld Reg.DMC_STAT.STATE = 0 ∨ d.fld Reg.DMC_STAT.STATE = 3) (hden : v / 32 % 8 ≤ 4) :
    let e := (d.puts (dmcFlds v)).dmcInit.dmcEn false
    e.fld Reg.DMC_STAT.STATE = 1 ∧ e.fld Reg.DMC_STAT.FAIL_CODE = 0 ∧ e.fld Reg.DMC_CTRL.EN = 0 ∧
    e.dram = { d.dram with density := v / 32 % 8, keep := bitOf v 2, chans := [] } := by
  intro e
  obtain ⟨hst, -, hd, hk, -⟩ := d.dmcSet_flds v
  let x := d.puts (dmcFlds v)
  have hkeep : x.on Reg.DMC_CTRL.KEEP = bitOf v 2 := by
    rw [Dev.on, hk, bitOf]
    rcases Nat.mod_two_eq_zero_or_one (v / 4) with h | h <;> rw [show v / 2 ^ 2 % 2 = _ from h, h] <;> rfl
  have hdram : x.dram = d.dram := by
    have hrest := congrArg Dev.dram (d.dmcSet_sets v).2
    exact hrest
  let y := (((x.clr Reg.DMC_STAT.FAIL_CODE).clr Reg.DMC_STAT.FAIL_CH).clr Reg.DMC_STAT.KEPT).put Reg.DMC_STAT.STATE 1
  have he : e = { y with dram := { y.dram with density := x.fld Reg.DMC_CTRL.DENSITY, keep := x.on Reg.DMC_CTRL.KEEP, chans := [] } }.put
      Reg.DMC_CTRL.EN 0 := by
    have hinit : x.dmcInit = { y with dram := { y.dram with density := x.fld Reg.DMC_CTRL.DENSITY, keep := x.on Reg.DMC_CTRL.KEEP, chans := [] } } := by
      rw [Dev.dmcInit]
      dsimp only
      rw [if_pos (by rw [hst]; exact h), if_neg (by rw [hd]; omega)]
    show x.dmcInit.dmcEn false = _
    rw [hinit]
    exact if_neg (by simp)
  have hfld (f : Fld) (hf : f.key ≠ Reg.DMC_CTRL.EN.key) : e.fld f = y.fld f := by
    rw [he]
    exact Dev.fld_put_ne _ _ hf
  refine ⟨(hfld _ (by decide)).trans (Dev.fld_put_same ..), (hfld _ (by decide)).trans ?_, ?_, ?_⟩
  · refine (Dev.fld_put_ne _ _ (by decide)).trans ((Dev.fld_put_ne _ _ (by decide)).trans ((Dev.fld_put_ne _ _ (by decide)).trans ?_))
    exact Dev.fld_put_same ..
  · rw [he]
    exact Dev.fld_put_same ..
  · have hy : y.dram = d.dram := hdram
    rw [he]
    show ({ y.dram with density := x.fld Reg.DMC_CTRL.DENSITY, keep := x.on Reg.DMC_CTRL.KEEP, chans := [] } : DramSt) = _
    rw [hy, hd, hkeep]

variable {d e : Dev} {c : Nat}

/-! ### The end of initialisation (R383) -/

theorem Dev.dmcInitDone_idle (h : d.fld Reg.DMC_STAT.STATE ≠ 1 ∨ d.wake.queue.any (fun e => decide (236 ≤ e.1)) = true)
    (fail : Option (Nat × Nat)) (rfm : Nat) : d.dmcInitDone fail rfm = d := if_pos h

theorem Dev.dmcInitDone_failed (h1 : d.fld Reg.DMC_STAT.STATE = 1) (h2 : d.wake.queue.any (fun e => decide (236 ≤ e.1)) = false)
    (code ch rfm : Nat) : d.wakesEnd.Sets (d.dmcInitDone (some (code, ch)) rfm)
      [(Reg.DMC_STAT.STATE, 3), (Reg.DMC_STAT.FAIL_CODE, 3 + code % 5), (Reg.DMC_STAT.FAIL_CH, ch % 16)] := by
  have hrun : d.dmcInitDone (some (code, ch)) rfm =
      ((d.wakesEnd.put Reg.DMC_STAT.STATE 3).put Reg.DMC_STAT.FAIL_CODE (3 + code % 5)).put Reg.DMC_STAT.FAIL_CH ch :=
    if_neg (by rw [h1, h2]; simp)
  have hcode : 3 + code % 5 < 2 ^ 4 := by omega
  rw [hrun]
  have h3 := (Dev.Sets.put_one d.wakesEnd Reg.DMC_STAT.STATE 3).put_of_lt Reg.DMC_STAT.FAIL_CODE hcode (by decide)
  have h4 := h3.put Reg.DMC_STAT.FAIL_CH ch (by simp only [List.map_cons, List.map_nil]; decide)
  exact h4.of_mem_iff fun e => (List.reverse_perm [_, _, _]).mem_iff

/-- The channels whose dies report refresh management. -/
theorem Dev.rfmShown_fld (l : List Nat) (hl : ∀ n ∈ l, n < 4) (rfm : Nat) (d : Dev) :
    let e := d.each l (fun x c => x.put (Reg.DMC_CH_STAT.RFM_SUP c) (bit (bitOf rfm c)))
    (∀ f : Fld, (∀ c < 4, f.key ≠ (Reg.DMC_CH_STAT.RFM_SUP c).key) → e.fld f = d.fld f) ∧
    (∀ c, c ∈ l ∨ d.fld (Reg.DMC_CH_STAT.RFM_SUP c) = bit (bitOf rfm c) → e.fld (Reg.DMC_CH_STAT.RFM_SUP c) = bit (bitOf rfm c)) := by
  induction l generalizing d with
  | nil => exact ⟨fun _ _ => rfl, fun c hc => hc.resolve_left List.not_mem_nil⟩
  | cons n l ih =>
    obtain ⟨h1, h2⟩ := ih (fun m hm => hl m (List.mem_cons_of_mem _ hm)) (d.put (Reg.DMC_CH_STAT.RFM_SUP n) (bit (bitOf rfm n)))
    refine ⟨fun f hf => (h1 f hf).trans (Dev.fld_put_ne _ _ (hf n (hl n (by simp)))), fun c hc => h2 c ?_⟩
    by_cases hn : c = n
    · subst hn
      exact .inr ((Dev.fld_put_same ..).trans (Nat.mod_eq_of_lt (bit_lt _)))
    · refine hc.imp (fun h => (List.mem_cons.1 h).resolve_left hn) fun h => ?_
      rw [Dev.fld_put_ne _ _ (by simp only [Fld.key, Reg.DMC_CH_STAT.RFM_SUP]; omega)]
      exact h

theorem Dev.dmcInitDone_ready (h1 : d.fld Reg.DMC_STAT.STATE = 1) (h2 : d.wake.queue.any (fun e => decide (236 ≤ e.1)) = false)
    (rfm : Nat) : let e := d.dmcInitDone none rfm
    e.fld Reg.DMC_STAT.STATE = 2 ∧ e.fld Reg.DMC_EVT.INIT_DONE = 1 ∧ e.fld Reg.DMC_STAT.KEPT = bit d.dram.keep ∧
    e.dram.mem = (if d.dram.keep = true then d.dram.mem else []) ∧
    ∀ c < 4, d.dmcHere c = true → e.fld (Reg.DMC_CH_STAT.RFM_SUP c) = bit (bitOf rfm c) := by
  intro e
  let x := (((d.wakesEnd.put Reg.DMC_STAT.STATE 2).put Reg.DMC_STAT.KEPT (bit d.dram.keep)).ev Reg.DMC_EVT.INIT_DONE)
  let y := x.each d.dchans (fun x c => x.put (Reg.DMC_CH_STAT.RFM_SUP c) (bit (bitOf rfm c)))
  have hrun : e = if d.dram.keep = true then y else { y with dram := { y.dram with mem := [] } } := if_neg (by rw [h1, h2]; simp)
  have hl : ∀ n ∈ d.dchans, n < 4 := fun n hn => List.mem_range.1 (List.mem_filter.1 hn).1
  obtain ⟨hother, hsup⟩ := Dev.rfmShown_fld d.dchans hl rfm x
  have hfld (f : Fld) : e.fld f = y.fld f := by
    rw [hrun]
    split <;> rfl
  have hy (l : List Nat) (z : Dev) : (z.each l (fun x c => x.put (Reg.DMC_CH_STAT.RFM_SUP c) (bit (bitOf rfm c)))).dram = z.dram := by
    induction l generalizing z with
    | nil => rfl
    | cons n l ih => exact ih (z.put (Reg.DMC_CH_STAT.RFM_SUP n) (bit (bitOf rfm n)))
  refine ⟨?_, ?_, ?_, ?_, fun c hc hhere => ?_⟩
  · refine (hfld _).trans ((hother _ (by decide)).trans ?_)
    exact (Dev.fld_put_ne _ _ (by decide)).trans ((Dev.fld_put_ne _ _ (by decide)).trans (Dev.fld_put_same ..))
  · exact (hfld _).trans ((hother _ (by decide)).trans (Dev.fld_put_same ..))
  · refine (hfld _).trans ((hother _ (by decide)).trans ((Dev.fld_put_ne _ _ (by decide)).trans ?_))
    exact (Dev.fld_put_same ..).trans (Nat.mod_eq_of_lt (bit_lt _))
  · have hyd : y.dram = d.dram := hy d.dchans x
    rw [hrun]
    split
    · rw [hyd]
    · rfl
  · exact (hfld _).trans (hsup c (.inl (List.mem_filter.2 ⟨List.mem_range.2 hc, hhere⟩)))

/-! ### Requests and regulators (R371 to R373) -/

/-- A request that cannot be served is answered with an error; the table spill has none. -/
def Dev.dmcErr (d : Dev) (port addr : Nat) : Dev := if port = 5 then d else d.emit (.dramError port addr)

theorem Dev.dmcErr_eq (d : Dev) (port addr : Nat) : d.iff (port != 5) (·.emit (.dramError port addr)) = d.dmcErr port addr := by
  unfold Dev.iff Dev.dmcErr
  by_cases h : port = 5 <;> simp [h]

theorem Dev.dmcAsk_closed (h : d.dmcOpen = false) (port addr len : Nat) (data : Option (List Byte)) (dl : Int) :
    d.dmcAsk port addr len data dl = d.dmcErr port addr := by
  unfold Dev.dmcAsk
  dsimp only
  rw [h, if_pos (by decide), Dev.dmcErr_eq]

theorem Dev.dmcAsk_outside (h : d.dmcOpen = true) {port addr n : Nat} {data : Option (List Byte)} {dl : Int}
    (ha : d.dramAddr port addr ((data.map List.length).getD n) = none) :
    d.dmcAsk port addr n data dl = (d.bump Reg.DMC_BAD_ADDR_CNT.COUNT).dmcErr port addr := by
  unfold Dev.dmcAsk
  cases data with
  | none =>
    rw [Option.map_none, Option.getD_none] at ha
    dsimp only
    rw [h, if_neg (by decide), ha]
    exact Dev.dmcErr_eq ..
  | some b =>
    rw [Option.map_some, Option.getD_some] at ha
    dsimp only
    rw [h, if_neg (by decide), ha]
    exact Dev.dmcErr_eq ..

theorem Dev.dmcAsk_read (h : d.dmcOpen = true) {port addr n a : Nat} {dl : Int} (ha : d.dramAddr port addr n = some a) :
    d.dmcAsk port addr n none dl = d.each (linesOf a n) (fun d la => d.lineAsk (d.dramChan la)
      (.rd { line := d.dramLine la, addr := la, port := port, deadline := if port = 0 then some (800 * d.core + dl) else none })) := by
  unfold Dev.dmcAsk
  dsimp only
  rw [h, if_neg (by decide), ha]

theorem Dev.dmcAsk_write (h : d.dmcOpen = true) {port addr n a : Nat} {b : List Byte} {dl : Int}
    (ha : d.dramAddr port addr b.length = some a) :
    d.dmcAsk port addr n (some b) dl = d.each (linesOf a b.length) (fun d la => d.lineAsk (d.dramChan la)
      (.wr { line := d.dramLine la, addr := la, port := port, bytes := lineSlice a b la })) := by
  unfold Dev.dmcAsk
  dsimp only
  rw [h, if_neg (by decide), ha]

/-- The five buckets gain what their ports may have, up to their bursts. -/
theorem Dev.regulatorRefill_spec (d : Dev) : d.regulatorRefill.regs = d.regs ∧ ∀ p, 1 ≤ p → p ≤ 5 →
    Tbl.get d.regulatorRefill.dram.bkts p 0 = min (d.portBurst p : Int) (Tbl.get d.dram.bkts p 0 + 8 * d.portRate p) := by
  have hgen (l : List Nat) (hn : l.Nodup) (x : Dev) (hx : x.regs = d.regs) (hb : ∀ p ∈ l, Tbl.get x.dram.bkts p 0 = Tbl.get d.dram.bkts p 0) :
      let e := x.each l (fun d p => { d with dram := { d.dram with
        bkts := Tbl.set d.dram.bkts p (min (d.portBurst p : Int) (Tbl.get d.dram.bkts p 0 + 8 * d.portRate p)) } })
      e.regs = d.regs ∧ (∀ p ∈ l, Tbl.get e.dram.bkts p 0 = min (d.portBurst p : Int) (Tbl.get d.dram.bkts p 0 + 8 * d.portRate p)) ∧
        ∀ p ∉ l, Tbl.get e.dram.bkts p 0 = Tbl.get x.dram.bkts p 0 := by
    induction l generalizing x with
    | nil => exact ⟨hx, fun p hp => absurd hp List.not_mem_nil, fun _ _ => rfl⟩
    | cons n l ih =>
      obtain ⟨hnl, hl⟩ := List.nodup_cons.1 hn
      have hrate : x.portRate n = d.portRate n := by
        unfold Dev.portRate Dev.fld
        rw [hx]
      have hburst : x.portBurst n = d.portBurst n := by
        unfold Dev.portBurst Dev.fld
        rw [hx]
      let y : Dev := { x with dram := { x.dram with
        bkts := Tbl.set x.dram.bkts n (min (x.portBurst n : Int) (Tbl.get x.dram.bkts n 0 + 8 * x.portRate n)) } }
      obtain ⟨h1, h2, h3⟩ := ih hl y hx fun p hp => by
        have hne : p ≠ n := fun h => hnl (h ▸ hp)
        exact (Tbl.get_set_ne _ _ _ hne).trans (hb p (List.mem_cons_of_mem _ hp))
      refine ⟨h1, fun p hp => ?_, fun p hp => (h3 p fun h => hp (List.mem_cons_of_mem _ h)).trans ?_⟩
      · rcases List.mem_cons.1 hp with rfl | hp
        · refine (h3 p hnl).trans ((Tbl.get_set_same ..).trans ?_)
          rw [hrate, hburst, hb p (by simp)]
        · exact h2 p hp
      · exact Tbl.get_set_ne _ _ _ fun h => hp (h ▸ List.mem_cons_self)
  obtain ⟨h1, h2, -⟩ := hgen [1, 2, 3, 4, 5] (by decide) d rfl fun _ _ => rfl
  exact ⟨h1, fun p hp hp' => h2 p (by simp only [List.mem_cons, List.not_mem_nil, or_false]; omega)⟩

variable {d e : Dev} {c : Nat}

/-! ### A line access arrives at a channel where none waits (R373, R375) -/

theorem Dev.setDch_setDch (d : Dev) (c : Nat) (x y : DramCh) : (d.setDch c x).setDch c y = d.setDch c y :=
  congrArg (fun t => ({ d with dram := { d.dram with chans := t } } : Dev)) (Tbl.set_set ..)

section Ask
variable (hw : (d.dch c).waits = [])
include hw

/-- The channel with one access waiting. -/
theorem Dev.lineAsk_eq (w : LineWait) : d.lineAsk c w = (d.setDch c { d.dch c with waits := [w] }).lineDrain c := by
  rw [Dev.lineAsk, hw]
  rfl

theorem Dev.lineAsk_entered {w : LineWait} {y : Dev} (h : (d.setDch c { d.dch c with waits := [w] }).lineEnter c w = some y) :
    d.lineAsk c w = (y.setDch c { y.dch c with waits := [] }).pourUpdate c := by
  rw [Dev.lineAsk_eq hw, Dev.lineDrain_eq, Dev.dch_setDch]
  simp only [List.foldl_cons, List.foldl_nil, Dev.drainStep, List.any_nil, Bool.false_eq_true, if_false, h, Option.map_some, Option.getD_some]

theorem Dev.lineAsk_waits {w : LineWait} (h : (d.setDch c { d.dch c with waits := [w] }).lineEnter c w = none) :
    d.lineAsk c w = (d.setDch c { d.dch c with waits := [w] }).pourUpdate c := by
  rw [Dev.lineAsk_eq hw, Dev.lineDrain_eq, Dev.dch_setDch]
  simp only [List.foldl_cons, List.foldl_nil, Dev.drainStep, List.any_nil, Bool.false_eq_true, if_false, h, Option.map_none, Option.getD_none,
    List.nil_append, Dev.setDch_setDch, Dev.dch_setDch]

end Ask

/-- The device once the bucket of port `p` is charged with a line. -/
def Dev.portCharged (d : Dev) (p : Nat) : Dev :=
  if p = 0 then d else { d with dram := { d.dram with bkts := Tbl.set d.dram.bkts p (Tbl.get d.dram.bkts p 0 - 64) } }

theorem Dev.dmcCharge_eq (d : Dev) (p : Nat) : d.dmcCharge p =
    (d.portCharged p, decide (p ≠ 0 ∧ 0 < Tbl.get d.dram.bkts p (0 : Int) ∧ d.portRate p ≠ 0)) := by
  unfold Dev.dmcCharge Dev.portCharged
  by_cases h : p = 0
  · simp [h]
  · simp [h]

/-- Charging a port and a channel's queues do not touch one another. -/
theorem Dev.portCharged_setDch (d : Dev) (p c : Nat) (x y : DramCh) :
    ((d.setDch c x).portCharged p).setDch c y = (d.portCharged p).setDch c y := by
  unfold Dev.portCharged
  by_cases h : p = 0
  · rw [if_pos h, if_pos h, Dev.setDch_setDch]
  · rw [if_neg h, if_neg h]
    exact congrArg (fun t => ({ d with dram := { d.dram with chans := t, bkts := Tbl.set d.dram.bkts p (Tbl.get d.dram.bkts p 0 - 64) } } : Dev))
      (Tbl.set_set ..)

theorem Dev.portCharged_bkt (d : Dev) (p c : Nat) (x : DramCh) : Tbl.get (d.setDch c x).dram.bkts p (0 : Int) = Tbl.get d.dram.bkts p 0 := rfl

section Enter
variable (hw : (d.dch c).waits = [])
include hw

/-- A read of a line that no queued write holds enters the read queue. -/
theorem Dev.askRead_queued {r : LineRead} (hl : ∀ y ∈ (d.dch c).wq, y.line ≠ r.line) (hq : (d.dch c).rq.length < 64) :
    d.lineAsk c (.rd r) = ((d.portCharged r.port).setDch c { d.dch c with
      rq := (d.dch c).rq ++ [{ r with inProf := decide (r.port ≠ 0 ∧ 0 < Tbl.get d.dram.bkts r.port (0 : Int) ∧ d.portRate r.port ≠ 0) }] }).pourUpdate c := by
  have hfind : (d.dch c).wq.find? (fun w => w.line == r.line) = none := List.find?_eq_none.2 fun y hy => by simpa using hl y hy
  have henter : (d.setDch c { d.dch c with waits := [.rd r] }).lineEnter c (.rd r) = some
      (((d.setDch c { d.dch c with waits := [.rd r] }).portCharged r.port).setDch c { d.dch c with waits := [.rd r], rq := (d.dch c).rq ++
        [{ r with inProf := decide (r.port ≠ 0 ∧ 0 < Tbl.get d.dram.bkts r.port (0 : Int) ∧ d.portRate r.port ≠ 0) }] }) := by
    unfold Dev.lineEnter
    rw [Dev.dch_setDch]
    dsimp only
    rw [hfind]
    dsimp only
    rw [if_neg (Nat.not_le.2 hq), Dev.dmcCharge_eq]
    rfl
  rw [Dev.lineAsk_entered hw henter, Dev.dch_setDch, Dev.setDch_setDch, Dev.portCharged_setDch, ← hw]

theorem Dev.askRead_waits {r : LineRead} (hl : ∀ y ∈ (d.dch c).wq, y.line ≠ r.line) (hq : 64 ≤ (d.dch c).rq.length) :
    d.lineAsk c (.rd r) = (d.setDch c { d.dch c with waits := [.rd r] }).pourUpdate c := by
  have hfind : (d.dch c).wq.find? (fun w => w.line == r.line) = none := List.find?_eq_none.2 fun y hy => by simpa using hl y hy
  refine Dev.lineAsk_waits hw ?_
  unfold Dev.lineEnter
  rw [Dev.dch_setDch]
  dsimp only
  rw [hfind]
  exact if_pos hq

/-- A read of a line that a queued write holds is served from it. -/
theorem Dev.askRead_served {r : LineRead} {y : LineWrite} (hf : (d.dch c).wq.find? (fun y => y.line == r.line) = some y) :
    d.lineAsk c (.rd r) =
      (((d.setDch c (d.dch c)).emit (.dramData r.port r.addr (lineBytes d.dram.mem r.addr y.bytes))).readLate c r).pourUpdate c := by
  let z := (d.setDch c { d.dch c with waits := [.rd r] }).emit (.dramData r.port r.addr (lineBytes d.dram.mem r.addr y.bytes))
  have henter : (d.setDch c { d.dch c with waits := [.rd r] }).lineEnter c (.rd r) = some (z.readLate c r) := by
    unfold Dev.lineEnter
    rw [Dev.dch_setDch]
    dsimp only
    rw [hf]
    rfl
  have hlate (v : Dev) (x : DramCh) : (v.readLate c r).setDch c x = (v.setDch c x).readLate c r := by
    unfold Dev.readLate
    cases r.deadline with
    | none => rfl
    | some t =>
      by_cases hb : decide (t < 800 * v.core) = true
      · exact (congrArg (Dev.setDch · c x) (if_pos hb)).trans (Eq.symm (if_pos hb))
      · exact (congrArg (Dev.setDch · c x) (if_neg hb)).trans (Eq.symm (if_neg hb))
  have hdch : (z.readLate c r).dch c = { d.dch c with waits := [.rd r] } := by
    have hsame : (z.readLate c r).dram = z.dram := by
      unfold Dev.readLate Dev.iff
      split
      · split <;> rfl
      · rfl
    exact (congrArg (fun t : DramSt => Tbl.get t.chans c {}) hsame).trans (Dev.dch_setDch ..)
  rw [Dev.lineAsk_entered hw henter, hdch, hlate]
  refine congrArg (fun v : Dev => (v.readLate c r).pourUpdate c) ?_
  have hset : z.setDch c { d.dch c with waits := [] } = ((d.setDch c { d.dch c with waits := [.rd r] }).setDch c { d.dch c with waits := [] }).emit
    (.dramData r.port r.addr (lineBytes d.dram.mem r.addr y.bytes)) := rfl
  rw [hset, Dev.setDch_setDch, ← hw]

/-- The write that a queued one of its line becomes. -/
def mergeInto (w q : LineWrite) : LineWrite :=
  if q.line = w.line then { q with bytes := w.bytes.foldl (fun t e => Tbl.set t e.1 e.2) q.bytes, port := w.port, merged := q.merged ++ [q.port] }
  else q

theorem Dev.askWrite_merged {w y : LineWrite} (hy : y ∈ (d.dch c).wq) (hl : y.line = w.line) :
    d.lineAsk c (.wr w) = ((d.portCharged w.port).setDch c { d.dch c with wq := (d.dch c).wq.map (mergeInto w) }).pourUpdate c := by
  have hany : (d.dch c).wq.any (fun q => q.line == w.line) = true := List.any_eq_true.2 ⟨y, hy, by simpa using hl⟩
  have henter : (d.setDch c { d.dch c with waits := [.wr w] }).lineEnter c (.wr w) = some
      (((d.setDch c { d.dch c with waits := [.wr w] }).portCharged w.port).setDch c
        { d.dch c with waits := [.wr w], wq := (d.dch c).wq.map (mergeInto w) }) := by
    unfold Dev.lineEnter
    rw [Dev.dch_setDch]
    dsimp only
    rw [if_pos hany, Dev.dmcCharge_eq]
    rfl
  rw [Dev.lineAsk_entered hw henter, Dev.dch_setDch, Dev.setDch_setDch, Dev.portCharged_setDch, ← hw]

/-- An older read of a written line keeps the data from before the write. -/
def keepOld (d : Dev) (w : LineWrite) (r : LineRead) : LineRead :=
  if r.line = w.line ∧ r.old = none then { r with old := some (Memory.readN d.dram.mem r.addr 64) } else r

theorem Dev.askWrite_queued {w : LineWrite} (hl : ∀ y ∈ (d.dch c).wq, y.line ≠ w.line) (hq : (d.dch c).wq.length < 64) :
    d.lineAsk c (.wr w) = ((d.portCharged w.port).setDch c { d.dch c with
      wq := (d.dch c).wq ++ [w], rq := (d.dch c).rq.map (keepOld d w), flight := (d.dch c).flight.map (keepOld d w) }).pourUpdate c := by
  have hany : (d.dch c).wq.any (fun q => q.line == w.line) = false := List.any_eq_false.2 fun y hy => by simpa using hl y hy
  have henter : (d.setDch c { d.dch c with waits := [.wr w] }).lineEnter c (.wr w) = some
      (((d.setDch c { d.dch c with waits := [.wr w] }).portCharged w.port).setDch c { d.dch c with
        waits := [.wr w], wq := (d.dch c).wq ++ [w], rq := (d.dch c).rq.map (keepOld d w), flight := (d.dch c).flight.map (keepOld d w) }) := by
    unfold Dev.lineEnter
    rw [Dev.dch_setDch]
    dsimp only
    rw [if_neg (by rw [hany]; decide), if_neg (Nat.not_le.2 hq), Dev.dmcCharge_eq]
    rfl
  rw [Dev.lineAsk_entered hw henter, Dev.dch_setDch, Dev.setDch_setDch, Dev.portCharged_setDch, ← hw]

theorem Dev.askWrite_waits {w : LineWrite} (hl : ∀ y ∈ (d.dch c).wq, y.line ≠ w.line) (hq : 64 ≤ (d.dch c).wq.length) :
    d.lineAsk c (.wr w) = (d.setDch c { d.dch c with waits := [.wr w] }).pourUpdate c := by
  have hany : (d.dch c).wq.any (fun q => q.line == w.line) = false := List.any_eq_false.2 fun y hy => by simpa using hl y hy
  refine Dev.lineAsk_waits hw ?_
  unfold Dev.lineEnter
  rw [Dev.dch_setDch]
  dsimp only
  rw [if_neg (by rw [hany]; decide)]
  exact if_pos hq

end Enter

/-! ### A late read, and a pour (R375, R376) -/

theorem Dev.readLate_none {r : LineRead} (h : r.deadline = none ∨ ∃ k, r.deadline = some k ∧ 800 * d.core ≤ k) : d.readLate c r = d := by
  unfold Dev.readLate
  rcases h with h | ⟨k, h, hk⟩
  · rw [h]
  · rw [h]
    exact if_neg (by simpa using hk)

theorem Dev.readLate_eq {r : LineRead} {k : Int} (h : r.deadline = some k) (hk : k < 800 * d.core) :
    d.readLate c r = (d.dmcCnt c 2).ev Reg.DMC_EVT.LAT_MISS := by
  unfold Dev.readLate
  rw [h]
  exact if_pos (by simpa using hk)

theorem Dev.dmcCnt_sets (d : Dev) (c k : Nat) :
    d.Sets (d.dmcCnt c k) [(Reg.DMC_CNT.COUNT c k, min (2 ^ 32 - 1) (d.fld (Reg.DMC_CNT.COUNT c k) + 1))] :=
  (Dev.Sets.nil d).bump _ (by simp)

theorem Dev.readLate_sets {r : LineRead} {k : Int} (h : r.deadline = some k) (hk : k < 800 * d.core) : d.Sets (d.readLate c r)
    [(Reg.DMC_CNT.COUNT c 2, min (2 ^ 32 - 1) (d.fld (Reg.DMC_CNT.COUNT c 2) + 1)), (Reg.DMC_EVT.LAT_MISS, 1)] := by
  rw [Dev.readLate_eq h hk]
  have hev := (d.dmcCnt_sets c 2).put_of_lt Reg.DMC_EVT.LAT_MISS (v := 1) (by decide)
    (by simp only [List.map_cons, List.map_nil, List.mem_singleton, Fld.key, Reg.DMC_EVT.LAT_MISS, Reg.DMC_CNT.COUNT]; omega)
  exact hev.of_mem_iff fun e => (List.reverse_perm [_, _]).mem_iff

theorem Dev.pourUpdate_pours (h : (d.dch c).pour = true) :
    d.pourUpdate c = if (d.dch c).wq.length ≤ d.loWm then d.setDch c { d.dch c with pour := false } else d := if_pos h

theorem Dev.pourUpdate_rests (h : (d.dch c).pour = false) (hq : (d.dch c).wq.length < d.hiWm ∨ 2 ≤ d.urgencyMax c) : d.pourUpdate c = d := by
  refine (if_neg (by rw [h]; decide)).trans (if_neg ?_)
  omega

theorem Dev.pourUpdate_starts (h : (d.dch c).pour = false) (hq : d.hiWm ≤ (d.dch c).wq.length) (hu : d.urgencyMax c < 2) :
    d.pourUpdate c = (d.setDch c { d.dch c with pour := true }).dmcCnt c 5 :=
  (if_neg (by rw [h]; decide)).trans (if_pos ⟨hq, hu⟩)

variable {d e : Dev} {c : Nat}

/-! ### Rows (R374, R382) -/

/-- Rows of channel `c` were opened or closed: its queues, memory and every register but the count of mitigations stay. -/
structure Dev.RowsOnly (c : Nat) (d e : Dev) : Prop where
  regs : ∀ k, k ≠ (Reg.DMC_CNT.COUNT c 9).key → Tbl.get e.regs k (Reg.rst k) = Tbl.get d.regs k (Reg.rst k)
  out : e.out = d.out
  mem : e.dram.mem = d.dram.mem
  density : e.dram.density = d.dram.density
  queues : { e.dch c with rows := (d.dch c).rows, acts := (d.dch c).acts } = d.dch c

namespace Dev.RowsOnly

theorem refl (c : Nat) (d : Dev) : d.RowsOnly c d := ⟨fun _ _ => rfl, rfl, rfl, rfl, rfl⟩

theorem trans {f : Dev} (h : d.RowsOnly c e) (h' : e.RowsOnly c f) : d.RowsOnly c f := by
  refine ⟨fun k hk => (h'.regs k hk).trans (h.regs k hk), h'.out.trans h.out, h'.mem.trans h.mem, h'.density.trans h.density, ?_⟩
  have h1 := congrArg (fun x : DramCh => ({ x with rows := (d.dch c).rows, acts := (d.dch c).acts } : DramCh)) h'.queues
  exact h1.trans h.queues

theorem setRows (d : Dev) (c : Nat) (r : Tbl Nat) (a : Tbl (List (Nat × Nat))) :
    d.RowsOnly c (d.setDch c { d.dch c with rows := r, acts := a }) := by
  refine ⟨fun _ _ => rfl, rfl, rfl, rfl, ?_⟩
  rw [Dev.dch_setDch]

theorem dmcCnt (h : d.RowsOnly c e) : d.RowsOnly c (e.dmcCnt c 9) :=
  ⟨fun k hk => ((Dev.reg_put ..).trans (if_neg hk)).trans (h.regs k hk), h.out, h.mem, h.density, h.queues⟩

theorem mitigate (c bank fuel : Nat) (d : Dev) : d.RowsOnly c (d.mitigate c bank fuel) := by
  induction fuel generalizing d with
  | zero => exact refl c d
  | succ fuel ih =>
    unfold Dev.mitigate
    dsimp only
    split
    · exact refl c d
    · exact (setRows d c _ _).dmcCnt.trans (ih _)

theorem openRow (d : Dev) (c line : Nat) : d.RowsOnly c (d.openRow c line) := by
  unfold Dev.openRow
  split
  · exact refl c d
  · exact (mitigate c _ 16 d).trans (setRows _ c _ _)

end Dev.RowsOnly

/-- What a table's first entry of a key shows after it was set. -/
theorem Tbl.find_set {α : Type} (t : Tbl α) (k : Nat) (v : α) : (Tbl.set t k v).find? (fun e => e.1 == k) = some (k, v) := by
  induction t with
  | nil => simp [Tbl.set]
  | cons x t ih =>
    obtain ⟨j, w⟩ := x
    unfold Tbl.set
    split
    · simp
    · split
      · simp
      · next h => rw [List.find?_cons_of_neg (by simpa using h), ih]

/-- A line's row is open once it has been opened. -/
theorem Dev.openRow_hit (d : Dev) (c line : Nat) : (d.openRow c line).rowHit c line = true := by
  unfold Dev.openRow
  split
  case isTrue h => exact h
  case isFalse =>
    have hd := (Dev.RowsOnly.mitigate c (d.dramBank line) 16 d).density
    unfold Dev.rowHit
    have hbank (x : DramCh) : ((d.mitigate c (d.dramBank line) 16).setDch c x).dramBank line = d.dramBank line := by
      unfold Dev.dramBank
      exact congrArg (fun k => Config.dramBank k (lineSeg line) % 16) hd
    have hrow (x : DramCh) : ((d.mitigate c (d.dramBank line) 16).setDch c x).dramRow line = d.dramRow line := by
      unfold Dev.dramRow
      exact congrArg (fun k => Config.dramRow k (lineSeg line)) hd
    dsimp only
    rw [hbank, hrow, Dev.dch_setDch, Tbl.find_set]
    exact beq_self_eq_true _

theorem Dev.rowHit_congr (h : e.dram = d.dram) (line : Nat) : e.rowHit c line = d.rowHit c line := by
  unfold Dev.rowHit Dev.dch Dev.dramBank Dev.dramRow
  rw [h]

/-! ### Command slots (R374 to R378, R381) -/

/-- What a slot of a channel that runs does, before waiting accesses enter its queues. -/
def Dev.slotDone (d : Dev) (c : Nat) (o : Ecc) : Dev :=
  if 8 ≤ d.fld (Reg.DMC_CH_STAT.OWED c) then d.refreshOwed c true
  else if (d.dch c).poll then d.setDch c { d.dch c with poll := false }
  else if (d.dch c).force then d.retrain c
  else if 1 ≤ d.fld (Reg.DMC_CH_STAT.OWED c) ∧ d.realTime c = false then d.refreshOwed c false
  else if (d.dch c).retrain ∧ d.realTime c = false then d.retrain c
  else d.slotServe c o

theorem Dev.commandSlot_idle (h : ¬ (d.dmcHere c = true ∧ d.fld Reg.DMC_STAT.STATE = 2)) (o : Ecc) : d.commandSlot c o = d := by
  refine if_pos ?_
  by_cases hh : d.dmcHere c = true
  · exact .inr fun h2 => h ⟨hh, h2⟩
  · exact .inl (by simpa using hh)

theorem Dev.commandSlot_runs (h : d.dmcHere c = true ∧ d.fld Reg.DMC_STAT.STATE = 2) (o : Ecc) :
    d.commandSlot c o = (d.slotDone c o).lineDrain c := if_neg (by rw [h.1, h.2]; simp)

/-- What a refresh leaves of the channel's rows and of its counts. -/
theorem Dev.refresh_spec (d : Dev) (c : Nat) (forced : Bool) : ((d.refresh c forced).dch c).rows = [] ∧
    (d.refresh c forced).regs = if forced = true then (d.dmcCnt c 4).regs else d.regs := by
  unfold Dev.refresh
  dsimp only
  rw [Dev.dch_setDch]
  have hrows : ((d.closeRows c).iff forced (·.dmcCnt c 4)).dch c = { d.dch c with rows := [] } := by
    unfold Dev.iff
    split <;> exact Dev.dch_setDch ..
  refine ⟨?_, ?_⟩
  · rw [hrows]
    split <;> rfl
  · unfold Dev.iff
    cases forced <;> rfl

theorem dmcCnt_apart (c k j : Nat) : (Reg.DMC_CNT.COUNT c k).key ≠ (Reg.DMC_CH_STAT.OWED j).key ∨ 4 ≤ j := by
  simp only [Fld.key, Reg.DMC_CNT.COUNT, Reg.DMC_CH_STAT.OWED]
  omega

theorem Dev.dmcCnt_up (d : Dev) (c k : Nat) :
    (d.dmcCnt c k).fld (Reg.DMC_CNT.COUNT c k) = min (2 ^ 32 - 1) (d.fld (Reg.DMC_CNT.COUNT c k) + 1) :=
  (d.dmcCnt_sets c k).1.1 (_, _) (List.mem_singleton_self _)

/-- A refresh that takes one from OWED. -/
theorem Dev.refreshOwed_spec (d : Dev) (hc : c < 4) (forced : Bool) : let e := d.refreshOwed c forced
    (e.dch c).rows = [] ∧ e.fld (Reg.DMC_CH_STAT.OWED c) = (d.fld (Reg.DMC_CH_STAT.OWED c) - 1) % 16 ∧
    (forced = true → e.fld (Reg.DMC_CNT.COUNT c 4) = min (2 ^ 32 - 1) (d.fld (Reg.DMC_CNT.COUNT c 4) + 1)) ∧
    (forced = false → d.Regs e [(Reg.DMC_CH_STAT.OWED c, (d.fld (Reg.DMC_CH_STAT.OWED c) - 1) % 16)]) := by
  intro e
  let x := d.put (Reg.DMC_CH_STAT.OWED c) (d.fld (Reg.DMC_CH_STAT.OWED c) - 1)
  obtain ⟨hrows, hregs⟩ := x.refresh_spec c forced
  have hne : (Reg.DMC_CNT.COUNT c 4).key ≠ (Reg.DMC_CH_STAT.OWED c).key := (dmcCnt_apart c 4 c).resolve_right (by omega)
  have hsets := (Dev.Sets.put_one d (Reg.DMC_CH_STAT.OWED c) (d.fld (Reg.DMC_CH_STAT.OWED c) - 1)).1
  cases forced with
  | true =>
    have hfld (f : Fld) : e.fld f = (x.dmcCnt c 4).fld f := by
      show Tbl.get (x.refresh c true).regs f.key (Reg.rst f.key) = _
      rw [hregs]
      rfl
    refine ⟨hrows, (hfld _).trans ((Dev.fld_put_ne _ _ (Ne.symm hne)).trans (Dev.fld_put_same ..)), fun _ => (hfld _).trans ?_, fun h => by cases h⟩
    rw [Dev.dmcCnt_up, show x.fld (Reg.DMC_CNT.COUNT c 4) = d.fld (Reg.DMC_CNT.COUNT c 4) from Dev.fld_put_ne _ _ hne]
  | false =>
    have hall : e.regs = x.regs := hregs
    refine ⟨hrows, ?_, (fun h => by cases h), fun _ => ⟨fun y hy => ?_, fun k hk => ?_⟩⟩
    · exact (congrArg (fun t : Tbl Nat => Tbl.get t (Reg.DMC_CH_STAT.OWED c).key (Reg.rst (Reg.DMC_CH_STAT.OWED c).key)) hall).trans (Dev.fld_put_same ..)
    · exact (congrArg (fun t : Tbl Nat => Tbl.get t y.1.key (Reg.rst y.1.key)) hall).trans (hsets.1 y hy)
    · exact (congrArg (fun t : Tbl Nat => Tbl.get t k (Reg.rst k)) hall).trans (hsets.2 k hk)

theorem Dev.retrain_spec (d : Dev) (c : Nat) : ((d.retrain c).dch c).retrain = false ∧ ((d.retrain c).dch c).force = false ∧
    (d.retrain c).fld (Reg.DMC_CNT.COUNT c 11) = min (2 ^ 32 - 1) (d.fld (Reg.DMC_CNT.COUNT c 11) + 1) := by
  have hdch : (d.retrain c).dch c = { d.dch c with retrain := false, force := false } := Dev.dch_setDch ..
  rw [hdch]
  exact ⟨rfl, rfl, Dev.dmcCnt_up ..⟩

/-- The one read of a channel is the one that it chooses, and passes none over. -/
theorem Dev.readPick_one {r : LineRead} (h : (d.dch c).rq = [r]) : d.readPick c = some (r, []) := by
  have hgroup (l : List LineRead) (hl : l = [r]) : d.groupPick c l = some (r, []) := by
    subst hl
    unfold Dev.groupPick
    by_cases h16 : 16 ≤ r.passed
    · simp [h16]
    · by_cases hhit : d.rowHit c r.line = true
      · simp [h16, hhit]
      · simp [h16, hhit]
  unfold Dev.readPick
  dsimp only
  rw [h]
  by_cases hu : 1 ≤ d.urgency r
  · simp [hu, earliest]
  · have hurgent : [r].filter (fun r => decide (1 ≤ d.urgency r)) = [] := by simp [hu]
    have hone := hgroup [r] rfl
    rw [hurgent]
    by_cases hp : (r.deadline.isSome || r.inProf) = true
    · have hfirst : [r].filter (fun r => r.deadline.isSome || r.inProf) = [r] := by simp [List.filter, hp]
      rw [hfirst, hone]
      rfl
    · have hfirst : [r].filter (fun r => r.deadline.isSome || r.inProf) = [] := by simp [List.filter, Bool.eq_false_iff.2 hp]
      rw [hfirst, hone]
      rfl

theorem Dev.readPick_none (h : (d.dch c).rq = []) : d.readPick c = none := by
  unfold Dev.readPick
  dsimp only
  rw [h]
  rfl

/-- A slot that serves the one queued read. -/
theorem Dev.slotServe_read {r : LineRead} (hp : (d.dch c).pour = false) (hq : (d.dch c).wq.length < d.hiWm) (h : (d.dch c).rq = [r])
    (o : Ecc) : let e := d.slotServe c o
    (e.dch c).rq = [] ∧ (e.dch c).flight = (d.dch c).flight ++ [r] ∧
    e.fld (Reg.DMC_CNT.COUNT c 0) = min (2 ^ 32 - 1) (d.fld (Reg.DMC_CNT.COUNT c 0) + 1) ∧ e.rowHit c r.line = true := by
  intro e
  let x := d.setDch c { d.dch c with rq := [], flight := (d.dch c).flight ++ [r] }
  have he : e = (x.openRow c r.line).dmcCnt c 0 := by
    show d.slotServe c o = _
    unfold Dev.slotServe
    rw [Dev.pourUpdate_rests hp (.inl hq)]
    dsimp only
    rw [if_neg (by rw [hp]; simp), Dev.readPick_one h]
    dsimp only
    unfold Dev.readIssue
    dsimp only
    rw [Dev.dch_setDch, Dev.setDch_setDch, h]
    simp [x]
  have hrows := Dev.RowsOnly.openRow x c r.line
  have hx : x.dch c = { d.dch c with rq := [], flight := (d.dch c).flight ++ [r] } := Dev.dch_setDch ..
  have hq1 := congrArg DramCh.rq hrows.queues
  have hq2 := congrArg DramCh.flight hrows.queues
  rw [hx] at hq1 hq2
  have hcnt : (x.openRow c r.line).fld (Reg.DMC_CNT.COUNT c 0) = d.fld (Reg.DMC_CNT.COUNT c 0) :=
    hrows.regs _ (by simp only [Fld.key, Reg.DMC_CNT.COUNT]; omega)
  rw [he]
  exact ⟨hq1, hq2, (Dev.dmcCnt_up ..).trans (by rw [hcnt]), x.openRow_hit c r.line⟩

/-- A slot that serves the one queued write of a whole line. -/
theorem Dev.slotServe_write {w : LineWrite} (hp : (d.dch c).pour = false) (hq : 1 < d.hiWm) (hr : (d.dch c).rq = [])
    (h : (d.dch c).wq = [w]) (hb : w.bytes.length = 64) (o : Ecc) : let e := d.slotServe c o
    (e.dch c).wq = [] ∧ e.dram.mem = Memory.writeAt d.dram.mem w.addr w.bytes ∧
    e.fld (Reg.DMC_CNT.COUNT c 1) = min (2 ^ 32 - 1) (d.fld (Reg.DMC_CNT.COUNT c 1) + 1) ∧ e.out = d.out := by
  intro e
  let x := d.setDch c { d.dch c with wq := [] }
  let y := x.openRow c w.line
  have he : e = ({ y with dram := { y.dram with mem := Memory.writeAt y.dram.mem w.addr w.bytes } } : Dev).dmcCnt c 1 := by
    show d.slotServe c o = _
    unfold Dev.slotServe
    rw [Dev.pourUpdate_rests hp (.inl (by rw [h]; exact hq))]
    dsimp only
    rw [if_neg (by rw [hp]; simp), Dev.readPick_none hr, h]
    dsimp only [List.head?_cons]
    rw [if_neg (by rw [hp]; decide), Dev.writeIssue, h]
    dsimp only
    rw [if_pos hb]
    simp [x, y]
  have hrows := Dev.RowsOnly.openRow x c w.line
  have hx : x.dch c = { d.dch c with wq := [] } := Dev.dch_setDch ..
  have hq1 := congrArg DramCh.wq hrows.queues
  rw [hx] at hq1
  have hcnt : y.fld (Reg.DMC_CNT.COUNT c 1) = d.fld (Reg.DMC_CNT.COUNT c 1) :=
    hrows.regs _ (by simp only [Fld.key, Reg.DMC_CNT.COUNT]; omega)
  have hmem : y.dram.mem = d.dram.mem := hrows.mem
  rw [he]
  refine ⟨hq1, ?_, (Dev.dmcCnt_up ..).trans (by rw [show (({ y with dram := { y.dram with mem := Memory.writeAt y.dram.mem w.addr w.bytes } } : Dev).fld (Reg.DMC_CNT.COUNT c 1)) = y.fld (Reg.DMC_CNT.COUNT c 1) from rfl, hcnt]), hrows.out⟩
  rw [← hmem]
  rfl

variable {d e : Dev} {c : Nat}

/-! ### A read returns (R368, R376) -/

theorem Dev.readComplete_none (h : (d.dch c).flight = []) (o : Ecc) : d.readComplete c o = d := by
  unfold Dev.readComplete
  rw [h]

section Return
variable {r : LineRead} {t : List LineRead} (h : (d.dch c).flight = r :: t)
include h

/-- The bytes that a read brings: of before a younger write, or as memory holds them. -/
theorem Dev.readComplete_clean : d.readComplete c .clean = ((d.setDch c { d.dch c with flight := t }).emit
    (.dramData r.port r.addr (r.old.getD (Memory.readN d.dram.mem r.addr 64)))).readLate c r := by
  unfold Dev.readComplete
  rw [h]
  rfl

theorem Dev.readComplete_late {k : Int} (hk : r.deadline = some k) (hl : k < 800 * d.core) : let e := d.readComplete c .clean
    e.out = .dramData r.port r.addr (r.old.getD (Memory.readN d.dram.mem r.addr 64)) :: d.out ∧
    e.fld (Reg.DMC_CNT.COUNT c 2) = min (2 ^ 32 - 1) (d.fld (Reg.DMC_CNT.COUNT c 2) + 1) ∧ e.fld Reg.DMC_EVT.LAT_MISS = 1 := by
  intro e
  let x := (d.setDch c { d.dch c with flight := t }).emit (.dramData r.port r.addr (r.old.getD (Memory.readN d.dram.mem r.addr 64)))
  have he : e = (x.dmcCnt c 2).ev Reg.DMC_EVT.LAT_MISS := (Dev.readComplete_clean h).trans (Dev.readLate_eq hk hl)
  have hne : (Reg.DMC_CNT.COUNT c 2).key ≠ Reg.DMC_EVT.LAT_MISS.key := by
    simp only [Fld.key, Reg.DMC_CNT.COUNT, Reg.DMC_EVT.LAT_MISS]
    omega
  rw [he]
  exact ⟨rfl, (Dev.fld_put_ne _ _ hne).trans (x.dmcCnt_up c 2), Dev.fld_put_same ..⟩

theorem Dev.readComplete_bad (hn : r.deadline = none) : let e := d.readComplete c .uncorrectable
    e.out = .dramError r.port r.addr :: d.out ∧ e.fld (Reg.DMC_CNT.COUNT c 7) = min (2 ^ 32 - 1) (d.fld (Reg.DMC_CNT.COUNT c 7) + 1) ∧
    e.fld Reg.DMC_EVT.ECC_UE = 1 ∧ e.fld Reg.DMC_UE_ADDR_LO.ADDR = r.addr % 2 ^ 32 ∧ e.fld Reg.DMC_UE_ADDR_HI.PORT = r.port % 8 := by
  intro e
  let x := d.setDch c { d.dch c with flight := t }
  let y := (((x.dmcCnt c 7).put Reg.DMC_UE_ADDR_LO.ADDR r.addr).put Reg.DMC_UE_ADDR_HI.ADDR (r.addr / 2 ^ 32)).put Reg.DMC_UE_ADDR_HI.PORT r.port
  have he : e = (y.ev Reg.DMC_EVT.ECC_UE).emit (.dramError r.port r.addr) := by
    refine Eq.trans ?_ (Dev.readLate_none (c := c) (.inl hn))
    show d.readComplete c .uncorrectable = _
    unfold Dev.readComplete
    rw [h]
    rfl
  have hkey (f : Fld) (hf : f.key / 32 < 0x1E00200) : f.key ≠ (Reg.DMC_CNT.COUNT c 7).key := by
    intro hk
    rw [hk] at hf
    simp only [Fld.key, Reg.DMC_CNT.COUNT] at hf
    omega
  rw [he]
  refine ⟨rfl, ?_, Dev.fld_put_same .., ?_, ?_⟩
  · refine (Dev.fld_put_ne _ _ (hkey _ (by decide)).symm).trans ((Dev.fld_put_ne _ _ (hkey _ (by decide)).symm).trans
      ((Dev.fld_put_ne _ _ (hkey _ (by decide)).symm).trans ((Dev.fld_put_ne _ _ (hkey _ (by decide)).symm).trans ?_)))
    exact x.dmcCnt_up c 7
  · exact (Dev.fld_put_ne _ _ (by decide)).trans ((Dev.fld_put_ne _ _ (by decide)).trans ((Dev.fld_put_ne _ _ (by decide)).trans
      (Dev.fld_put_same ..)))
  · exact (Dev.fld_put_ne _ _ (by decide)).trans (Dev.fld_put_same ..)

end Return

/-! ### Timers (R377, R379 to R381) -/

theorem Dev.refreshDue_sets (h : d.dmcRuns c = true) (hc : c < 4) : d.Sets (d.refreshDue c)
    ((Reg.DMC_CH_STAT.OWED c, min 15 (d.fld (Reg.DMC_CH_STAT.OWED c) + 1)) ::
      if d.realTime c = true then [(Reg.DMC_CNT.COUNT c 3, min (2 ^ 32 - 1) (d.fld (Reg.DMC_CNT.COUNT c 3) + 1))] else []) := by
  have hrun : d.refreshDue c = (d.iff (d.realTime c) (·.dmcCnt c 3)).put (Reg.DMC_CH_STAT.OWED c)
      (min 15 (d.fld (Reg.DMC_CH_STAT.OWED c) + 1)) := if_pos h
  have hlt : min 15 (d.fld (Reg.DMC_CH_STAT.OWED c) + 1) < 2 ^ (Reg.DMC_CH_STAT.OWED c).w := by
    show min 15 _ < 2 ^ 4
    omega
  rw [hrun]
  by_cases hr : d.realTime c = true
  · rw [if_pos hr, Dev.iff, if_pos hr]
    exact (d.dmcCnt_sets c 3).put_of_lt _ hlt (by simpa using ((dmcCnt_apart c 3 c).resolve_right (by omega)).symm)
  · rw [if_neg hr, Dev.iff, if_neg hr]
    exact (Dev.Sets.nil d).put_of_lt _ hlt (by simp)

/-- The code that governs: the worse of the two dies'. -/
def mr4Worse (a b : Nat) : Nat := if Config.mr4Rank a < Config.mr4Rank b then b else a

/-- The code shown, and the limit reported. -/
def Dev.mr4Shown (d : Dev) (c code : Nat) : Dev :=
  (d.put (Reg.DMC_CH_STAT.MR4_RATE c) code).iff (Config.mr4Limit code) (fun d => (d.dmcCnt c 10).ev Reg.DMC_EVT.TEMP_LIMIT)

/-- The change of range shown. -/
def Dev.mr4Ranged (d : Dev) (c code : Nat) (now : Bool) : Dev :=
  ((d.mr4Shown c code).put (Reg.DMC_CH_STAT.DOUBLED c) (bit now)).ev Reg.DMC_EVT.TEMP_RANGE

def mr4Hot (code : Nat) : Bool := Config.mr4Below code || Config.mr4Limit code

theorem Dev.mr4Result_same (h : d.dmcRuns c = true) {a b : Nat} (hs : d.on (Reg.DMC_CH_STAT.DOUBLED c) = mr4Hot (mr4Worse a b)) :
    d.mr4Result c a b = d.mr4Shown c (mr4Worse a b) :=
  (if_neg (by rw [h]; decide)).trans (if_pos (beq_iff_eq.2 hs))

theorem Dev.mr4Result_hotter (h : d.dmcRuns c = true) {a b : Nat} (hs : d.on (Reg.DMC_CH_STAT.DOUBLED c) = false)
    (hh : mr4Hot (mr4Worse a b) = true) : d.mr4Result c a b =
    ((d.mr4Ranged c (mr4Worse a b) true).each (List.range (2 * d.fld (Reg.DMC_CH_STAT.OWED c) - 8)) (fun d _ => d.refresh c true)).put
      (Reg.DMC_CH_STAT.OWED c) (min 8 (2 * d.fld (Reg.DMC_CH_STAT.OWED c))) := by
  have hne : ¬ (d.on (Reg.DMC_CH_STAT.DOUBLED c) == mr4Hot (mr4Worse a b)) = true := by rw [hs, hh]; decide
  refine (if_neg (by rw [h]; decide)).trans ((if_neg hne).trans ?_)
  refine (if_pos hh).trans ?_
  show ((((d.mr4Shown c (mr4Worse a b)).put (Reg.DMC_CH_STAT.DOUBLED c) (bit (mr4Hot (mr4Worse a b)))).ev Reg.DMC_EVT.TEMP_RANGE).each _ _).put _ _ = _
  rw [hh]
  rfl

theorem Dev.mr4Result_cooler (h : d.dmcRuns c = true) {a b : Nat} (hs : d.on (Reg.DMC_CH_STAT.DOUBLED c) = true)
    (hh : mr4Hot (mr4Worse a b) = false) : d.mr4Result c a b =
    (d.mr4Ranged c (mr4Worse a b) false).put (Reg.DMC_CH_STAT.OWED c) ((d.fld (Reg.DMC_CH_STAT.OWED c) + 1) / 2) := by
  have hne : ¬ (d.on (Reg.DMC_CH_STAT.DOUBLED c) == mr4Hot (mr4Worse a b)) = true := by rw [hs, hh]; decide
  refine (if_neg (by rw [h]; decide)).trans ((if_neg hne).trans ?_)
  have hcool : ¬ mr4Hot (mr4Worse a b) = true := by rw [hh]; decide
  refine (if_neg hcool).trans ?_
  show (((d.mr4Shown c (mr4Worse a b)).put (Reg.DMC_CH_STAT.DOUBLED c) (bit (mr4Hot (mr4Worse a b)))).ev Reg.DMC_EVT.TEMP_RANGE).put _ _ = _
  rw [hh]
  rfl

theorem Dev.mr4Shown_sets {code : Nat} (hl : Config.mr4Limit code = false) :
    d.Sets (d.mr4Shown c code) [(Reg.DMC_CH_STAT.MR4_RATE c, code % 32)] := by
  unfold Dev.mr4Shown Dev.iff
  rw [hl]
  exact Dev.Sets.put_one ..

/-- The limit reported: its event and its count. -/
theorem Dev.mr4Shown_limit {code : Nat} (hc : c < 4) (hl : Config.mr4Limit code = true) : (d.mr4Shown c code).fld Reg.DMC_EVT.TEMP_LIMIT = 1 ∧
    (d.mr4Shown c code).fld (Reg.DMC_CNT.COUNT c 10) = min (2 ^ 32 - 1) (d.fld (Reg.DMC_CNT.COUNT c 10) + 1) := by
  have hs : d.mr4Shown c code = ((d.put (Reg.DMC_CH_STAT.MR4_RATE c) code).dmcCnt c 10).ev Reg.DMC_EVT.TEMP_LIMIT := by
    unfold Dev.mr4Shown Dev.iff
    exact if_pos hl
  rw [hs]
  refine ⟨Dev.fld_put_same .., (Dev.fld_put_ne _ _ ?_).trans ((Dev.dmcCnt_up ..).trans ?_)⟩
  · simp only [Fld.key, Reg.DMC_CNT.COUNT, Reg.DMC_EVT.TEMP_LIMIT]
    omega
  · rw [Dev.fld_put_ne _ _ (by simp only [Fld.key, Reg.DMC_CNT.COUNT, Reg.DMC_CH_STAT.MR4_RATE]; omega)]

/-- Fields of a channel's state are no counters, and no events. -/
theorem chStat_apart {c : Nat} (hc : c < 4) (f : Fld) (hf : f.adr = 0x1E00100 + c * 0x10) (hlo : f.lo < 32) :
    (∀ k, f.key ≠ (Reg.DMC_CNT.COUNT c k).key) ∧ f.key ≠ Reg.DMC_EVT.TEMP_LIMIT.key ∧ f.key ≠ Reg.DMC_EVT.TEMP_RANGE.key := by
  refine ⟨fun k => ?_, ?_, ?_⟩ <;> simp only [Fld.key, Reg.DMC_CNT.COUNT, Reg.DMC_EVT.TEMP_LIMIT, Reg.DMC_EVT.TEMP_RANGE, hf] <;> omega

/-- The refreshes that a doubled rate makes due touch no field but their count. -/
theorem Dev.refreshes_fld (l : List Nat) (d : Dev) {f : Fld} (hf : f.key ≠ (Reg.DMC_CNT.COUNT c 4).key) :
    (d.each l (fun d _ => d.refresh c true)).fld f = d.fld f := by
  induction l generalizing d with
  | nil => rfl
  | cons n l ih =>
    refine (ih (d.refresh c true)).trans ?_
    have hregs : (d.refresh c true).regs = (d.dmcCnt c 4).regs := (d.refresh_spec c true).2
    rw [Dev.fld, hregs]
    exact Dev.fld_put_ne _ _ hf

theorem Dev.mr4Ranged_sets {code : Nat} (hc : c < 4) (hl : Config.mr4Limit code = false) (now : Bool) : d.Sets (d.mr4Ranged c code now)
    [(Reg.DMC_EVT.TEMP_RANGE, 1), (Reg.DMC_CH_STAT.DOUBLED c, bit now), (Reg.DMC_CH_STAT.MR4_RATE c, code % 32)] := by
  have h1 := (Dev.mr4Shown_sets (d := d) (c := c) hl).put_of_lt (Reg.DMC_CH_STAT.DOUBLED c) (v := bit now) (bit_lt now)
    (by simp only [List.map_cons, List.map_nil, List.mem_singleton, Fld.key, Reg.DMC_CH_STAT.DOUBLED, Reg.DMC_CH_STAT.MR4_RATE]; omega)
  exact h1.put_of_lt Reg.DMC_EVT.TEMP_RANGE (v := 1) (by decide)
    (by simp only [List.map_cons, List.map_nil, List.mem_cons, List.not_mem_nil, or_false, Fld.key, Reg.DMC_CH_STAT.DOUBLED,
      Reg.DMC_CH_STAT.MR4_RATE, Reg.DMC_EVT.TEMP_RANGE]; omega)

/-- The codes of a channel's dies, by whether the rate was doubled and whether it now must be. -/
theorem Dev.mr4Result_spec (h : d.dmcRuns c = true) (hc : c < 4) (a b : Nat) : let e := d.mr4Result c a b
    let code := mr4Worse a b
    let owed := d.fld (Reg.DMC_CH_STAT.OWED c)
    let rate := (Reg.DMC_CH_STAT.MR4_RATE c, code % 32)
    (Config.mr4Limit code = false → d.on (Reg.DMC_CH_STAT.DOUBLED c) = mr4Hot code → d.Sets e [rate]) ∧
    (mr4Hot code = true → d.on (Reg.DMC_CH_STAT.DOUBLED c) = false → Config.mr4Limit code = false → owed ≤ 4 → d.Sets e [rate,
      (Reg.DMC_CH_STAT.DOUBLED c, 1), (Reg.DMC_EVT.TEMP_RANGE, 1), (Reg.DMC_CH_STAT.OWED c, 2 * owed)]) ∧
    (mr4Hot code = true → d.on (Reg.DMC_CH_STAT.DOUBLED c) = false → e.fld (Reg.DMC_CH_STAT.DOUBLED c) = 1 ∧
      e.fld Reg.DMC_EVT.TEMP_RANGE = 1 ∧ e.fld (Reg.DMC_CH_STAT.OWED c) = min 8 (2 * owed)) ∧
    (mr4Hot code = false → d.on (Reg.DMC_CH_STAT.DOUBLED c) = true → d.Sets e [rate, (Reg.DMC_CH_STAT.DOUBLED c, 0),
      (Reg.DMC_EVT.TEMP_RANGE, 1), (Reg.DMC_CH_STAT.OWED c, (owed + 1) / 2 % 16)]) ∧
    (Config.mr4Limit code = true → e.fld Reg.DMC_EVT.TEMP_LIMIT = 1 ∧
      e.fld (Reg.DMC_CNT.COUNT c 10) = min (2 ^ 32 - 1) (d.fld (Reg.DMC_CNT.COUNT c 10) + 1)) := by
  intro e code owed rate
  have hcool (hh : mr4Hot code = false) : Config.mr4Limit code = false := (Bool.or_eq_false_iff.1 hh).2
  obtain ⟨hd1, hd2, hd3⟩ := chStat_apart hc (Reg.DMC_CH_STAT.DOUBLED c) rfl (show 4 < 32 by decide)
  obtain ⟨ho1, ho2, ho3⟩ := chStat_apart hc (Reg.DMC_CH_STAT.OWED c) rfl (show 0 < 32 by decide)
  have hdo : (Reg.DMC_CH_STAT.DOUBLED c).key ≠ (Reg.DMC_CH_STAT.OWED c).key := by
    simp only [Fld.key, Reg.DMC_CH_STAT.DOUBLED, Reg.DMC_CH_STAT.OWED]
    omega
  have hro : (Reg.DMC_CH_STAT.OWED c).key ≠ (Reg.DMC_CH_STAT.MR4_RATE c).key := by
    simp only [Fld.key, Reg.DMC_CH_STAT.MR4_RATE, Reg.DMC_CH_STAT.OWED]
    omega
  have hev4 : Reg.DMC_EVT.TEMP_RANGE.key ≠ (Reg.DMC_CNT.COUNT c 4).key := by
    simp only [Fld.key, Reg.DMC_CNT.COUNT, Reg.DMC_EVT.TEMP_RANGE]
    omega
  have hmin : min 8 (2 * owed) < 2 ^ 4 := by omega
  have hnot (l : Bool) : (Reg.DMC_CH_STAT.OWED c).key ∉ [(Reg.DMC_EVT.TEMP_RANGE, 1), (Reg.DMC_CH_STAT.DOUBLED c, bit l), rate].map (fun e => e.1.key) := by
    simp only [List.map_cons, List.map_nil, List.mem_cons, List.not_mem_nil, or_false, not_or]
    exact ⟨ho3, Ne.symm hdo, hro⟩
  refine ⟨fun hl hs => ?_, fun hh hs hl ho => ?_, fun hh hs => ?_, fun hh hs => ?_, fun hl => ?_⟩
  · rw [show e = _ from Dev.mr4Result_same h hs]
    exact Dev.mr4Shown_sets hl
  · have hnone : List.range (2 * owed - 8) = [] := by rw [show 2 * owed - 8 = 0 by omega]; rfl
    have he : e = (d.mr4Ranged c code true).put (Reg.DMC_CH_STAT.OWED c) (min 8 (2 * owed)) := by
      refine (Dev.mr4Result_hotter h hs hh).trans ?_
      rw [hnone]
      rfl
    have hset := (Dev.mr4Ranged_sets (d := d) hc hl true).put_of_lt (Reg.DMC_CH_STAT.OWED c) hmin (hnot true)
    rw [show min 8 (2 * owed) = 2 * owed by omega] at hset he
    rw [he]
    exact hset.of_mem_iff fun x => (List.reverse_perm [_, _, _, _]).mem_iff
  · have he : e = _ := Dev.mr4Result_hotter h hs hh
    rw [he]
    refine ⟨(Dev.fld_put_ne _ _ hdo).trans ((Dev.refreshes_fld _ _ (hd1 4)).trans ((Dev.fld_put_ne _ _ hd3).trans (Dev.fld_put_same ..))),
      (Dev.fld_put_ne _ _ (Ne.symm ho3)).trans ((Dev.refreshes_fld _ _ hev4).trans (Dev.fld_put_same ..)),
      (Dev.fld_put_same ..).trans (Nat.mod_eq_of_lt hmin)⟩
  · have he : e = _ := Dev.mr4Result_cooler h hs hh
    have hset := (Dev.mr4Ranged_sets (d := d) hc (hcool hh) false).put (Reg.DMC_CH_STAT.OWED c) ((owed + 1) / 2) (hnot false)
    rw [he]
    exact hset.of_mem_iff fun x => (List.reverse_perm [_, _, _, _]).mem_iff
  · have hh : mr4Hot code = true := by unfold mr4Hot; rw [hl, Bool.or_true]
    obtain ⟨h1, h2⟩ := Dev.mr4Shown_limit (d := d) hc hl
    by_cases hs : d.on (Reg.DMC_CH_STAT.DOUBLED c) = true
    · rw [show e = _ from Dev.mr4Result_same h (hs.trans hh.symm)]
      exact ⟨h1, h2⟩
    · have he : e = _ := Dev.mr4Result_hotter h (Bool.eq_false_iff.2 hs) hh
      have h104 : (Reg.DMC_CNT.COUNT c 10).key ≠ (Reg.DMC_CNT.COUNT c 4).key := by
        simp only [Fld.key, Reg.DMC_CNT.COUNT]
        omega
      have hl4 : Reg.DMC_EVT.TEMP_LIMIT.key ≠ (Reg.DMC_CNT.COUNT c 4).key := by
        simp only [Fld.key, Reg.DMC_CNT.COUNT, Reg.DMC_EVT.TEMP_LIMIT]
        omega
      have h10r : (Reg.DMC_CNT.COUNT c 10).key ≠ Reg.DMC_EVT.TEMP_RANGE.key := by
        simp only [Fld.key, Reg.DMC_CNT.COUNT, Reg.DMC_EVT.TEMP_RANGE]
        omega
      rw [he]
      refine ⟨?_, ?_⟩
      · exact (Dev.fld_put_ne _ _ (Ne.symm ho2)).trans ((Dev.refreshes_fld _ _ hl4).trans ((Dev.fld_put_ne _ _ (by decide)).trans
          ((Dev.fld_put_ne _ _ (Ne.symm hd2)).trans h1)))
      · exact (Dev.fld_put_ne _ _ (Ne.symm (ho1 10))).trans ((Dev.refreshes_fld _ _ h104).trans ((Dev.fld_put_ne _ _ h10r).trans
          ((Dev.fld_put_ne _ _ (Ne.symm (hd1 10))).trans h2)))

/-! ### The regions, and the whole statement -/

theorem overlap_false {a b : Nat × Nat} : overlap a b = false ↔ (0 < a.2 → 0 < b.2 → a.1 + a.2 ≤ b.1 ∨ b.1 + b.2 ≤ a.1) := by
  unfold overlap
  rw [decide_eq_false_iff_not]
  omega

/-- The regions fit: each lies in the space, and no two share a MiB. -/
theorem Dev.regionsOk_iff (d : Dev) : d.regionsOk = true ↔ (∀ k < 3, (d.region k).2 = 0 ∨ (d.region k).1 + (d.region k).2 ≤ d.usableMib) ∧
    ∀ j k, j < k → k < 3 → 0 < (d.region j).2 → 0 < (d.region k).2 →
      (d.region j).1 + (d.region j).2 ≤ (d.region k).1 ∨ (d.region k).1 + (d.region k).2 ≤ (d.region j).1 := by
  have hok : d.regionsOk = true ↔ ((∀ x ∈ [d.region 0, d.region 1, d.region 2], x.2 = 0 ∨ x.1 + x.2 ≤ d.usableMib) ∧
      overlap (d.region 0) (d.region 1) = false ∧ overlap (d.region 0) (d.region 2) = false ∧ overlap (d.region 1) (d.region 2) = false) := by
    unfold Dev.regionsOk
    simp only [Bool.and_eq_true, List.all_eq_true, decide_eq_true_eq, Bool.not_eq_true', and_assoc]
  rw [hok, overlap_false, overlap_false, overlap_false]
  simp only [List.mem_cons, List.not_mem_nil, or_false, forall_eq_or_imp, forall_eq]
  constructor
  · rintro ⟨⟨h0, h1, h2⟩, h01, h02, h12⟩
    refine ⟨fun k hk => ?_, fun j k hjk hk => ?_⟩
    · obtain rfl | rfl | rfl : k = 0 ∨ k = 1 ∨ k = 2 := by omega
      · exact h0
      · exact h1
      · exact h2
    · obtain ⟨rfl, rfl⟩ | ⟨rfl, rfl⟩ | ⟨rfl, rfl⟩ : (j = 0 ∧ k = 1) ∨ (j = 0 ∧ k = 2) ∨ (j = 1 ∧ k = 2) := by omega
      · exact h01
      · exact h02
      · exact h12
  · rintro ⟨h, hp⟩
    exact ⟨⟨h 0 (by decide), h 1 (by decide), h 2 (by decide)⟩, hp 0 1 (by decide) (by decide), hp 0 2 (by decide) (by decide),
      hp 1 2 (by decide) (by decide)⟩

theorem Dev.dmcRgn_held (d : Dev) {i v : Nat} (h : d.fld Reg.DMC_CTRL.EN ≠ 0) :
    d.Sets (d.dmcRgn ⟨0x1E00020 + 4 * i, 0, 15⟩ v) [(Reg.DMC_EVT.CFG_REJ, 1)] := by
  rw [show d.dmcRgn ⟨0x1E00020 + 4 * i, 0, 15⟩ v = d.ev Reg.DMC_EVT.CFG_REJ from if_pos (by simpa [Dev.on] using h)]
  exact Dev.Sets.put_one ..

theorem Dev.dmcRgn_taken (d : Dev) {i v : Nat} (h : d.fld Reg.DMC_CTRL.EN = 0) :
    d.Sets (d.dmcRgn ⟨0x1E00020 + 4 * i, 0, 15⟩ v) [(⟨0x1E00020 + 4 * i, 0, 15⟩, v % 2 ^ 15)] := by
  rw [show d.dmcRgn ⟨0x1E00020 + 4 * i, 0, 15⟩ v = d.put ⟨0x1E00020 + 4 * i, 0, 15⟩ v from if_neg (by simp [Dev.on, h])]
  exact Dev.Sets.put_one ..

variable {d e : Dev} {c : Nat}

section Dram
variable (s : State) (hup : s.dev.mainUp = true)
include hup

/-- The commands that configure the controller and start it. -/
theorem dramConfig (m : Master) (v : Word) (i : Fin 6) (hh : (List.range 4).any s.dev.dmcHere = true) : let e := s.dev
    let x := v.toNat
    let st := e.fld Reg.DMC_STAT.STATE
    let den := x / 32 % 8
    (bits x 1 1 = 0 → e.fld Reg.DMC_CTRL.EN ≠ 0 ∨ e.regionsOk = true → Effect (.dmcEnable m v) s (fun d =>
      e.Sets d (dmcFlds x ++ [(Reg.DMC_CTRL.EN, 1)]))) ∧
    (bits x 1 1 = 0 → e.fld Reg.DMC_CTRL.EN = 0 → e.regionsOk = false → Effect (.dmcEnable m v) s (fun d =>
      e.Sets d (dmcFlds x ++ [(Reg.DMC_STAT.FAIL_CODE, 2), (Reg.DMC_EVT.CFG_REJ, 1)]))) ∧
    (bits x 0 1 = 0 → st ≠ 0 → st ≠ 3 → Effect (.dmcInit m v) s (fun d => e.Sets d (dmcFlds x ++ [(Reg.DMC_CTRL.EN, 0)]))) ∧
    (bits x 0 1 = 0 → st = 0 ∨ st = 3 → 4 < den → Effect (.dmcInit m v) s (fun d => e.Sets d (dmcFlds x ++
      [(Reg.DMC_STAT.FAIL_CODE, 1), (Reg.DMC_STAT.FAIL_CH, 0), (Reg.DMC_STAT.KEPT, 0), (Reg.DMC_STAT.STATE, 3),
        (Reg.DMC_CTRL.EN, 0)]))) ∧
    (bits x 0 1 = 0 → st = 0 ∨ st = 3 → den ≤ 4 → Effect (.dmcInit m v) s (fun d => d.fld Reg.DMC_STAT.STATE = 1 ∧
      d.fld Reg.DMC_STAT.FAIL_CODE = 0 ∧ d.fld Reg.DMC_CTRL.EN = 0 ∧ d.dram = { e.dram with density := den, keep := bitOf x 2, chans := [] })) ∧
    (e.fld Reg.DMC_CTRL.EN ≠ 0 → Effect (.dmcRgnWrite m i v) s (fun d => e.Sets d [(Reg.DMC_EVT.CFG_REJ, 1)])) ∧
    (e.fld Reg.DMC_CTRL.EN = 0 → Effect (.dmcRgnWrite m i v) s (fun d => e.Sets d [(⟨0x1E00020 + 4 * i.val, 0, 15⟩, x % 2 ^ 15)])) := by
  intro e x st den
  have hpoke (w : Word) : e.poke m Reg.DMC_CTRL.ADR w = e.dmcWrite w.toNat := Dev.poke_DMC_CTRL _ _ _ hh
  have hstate (w : Nat) (l : List (Fld × Nat)) (hs : e.Sets (e.dmcCtrl w) l) (hl : Reg.DMC_STAT.STATE.key ∉ l.map (fun y => y.1.key)) :
      e.dmcWrite w = e.dmcCtrl w := Dev.dmcWrite_still (.inl (hs.1.fld_eq hl))
  refine ⟨fun hb h => ?_, fun hb h hok => ?_, fun hb h0 h3 => ?_, fun hb h hden => ?_, fun hb h hden => ?_, fun h => ?_, fun h => ?_⟩
  · have hset := e.dmcEnable_taken x h
    rw [← Dev.dmcEnable_eq v hb] at hset
    refine .of_main_eq hup hset (exec_dmcEnable ..) ((hpoke _).trans (hstate _ _ hset ?_))
    simp only [dmcFlds, List.cons_append, List.nil_append, List.map_cons, List.map_nil]
    decide
  · have hset := e.dmcEnable_refused x h hok
    rw [← Dev.dmcEnable_eq v hb] at hset
    refine .of_main_eq hup hset (exec_dmcEnable ..) ((hpoke _).trans (hstate _ _ hset ?_))
    simp only [dmcFlds, List.cons_append, List.nil_append, List.map_cons, List.map_nil]
    decide
  · have hset := e.dmcInit_running x h0 h3
    rw [← Dev.dmcInit_eq v hb] at hset
    refine .of_main_eq hup hset (exec_dmcInit ..) ((hpoke _).trans (hstate _ _ hset ?_))
    simp only [dmcFlds, List.cons_append, List.nil_append, List.map_cons, List.map_nil]
    decide
  · have hset := e.dmcInit_bad x h hden
    rw [← Dev.dmcInit_eq v hb] at hset
    have hfail : (e.dmcCtrl (v ||| 2#32).toNat).fld Reg.DMC_STAT.STATE = 3 := hset.1.1 (Reg.DMC_STAT.STATE, 3) (by simp)
    exact .of_main_eq hup hset (exec_dmcInit ..) ((hpoke _).trans (Dev.dmcWrite_still (.inr (by rw [hfail]; decide))))
  · obtain ⟨h1, h2, h3, h4⟩ := e.dmcInit_good x h hden
    rw [← Dev.dmcInit_eq v hb] at h1 h2 h3 h4
    obtain ⟨hdram, hfld⟩ := e.dmcWrite_woken (v ||| 2#32).toNat
    exact .of_main_eq hup ⟨(hfld _ (by decide)).trans h1, (hfld _ (by decide)).trans h2, (hfld _ (by decide)).trans h3, hdram.trans h4⟩
      (exec_dmcInit ..) (hpoke _)
  · exact .of_main_eq hup (e.dmcRgn_held h) (exec_dmcRgnWrite ..) (Dev.poke_DMC_RGN _ _ _ _ hh)
  · exact .of_main_eq hup (e.dmcRgn_taken h) (exec_dmcRgnWrite ..) (Dev.poke_DMC_RGN _ _ _ _ hh)

/-- A slot of a channel that runs. -/
theorem dramSlot (dt : Nat) (c : Fin 4) (o : ReadOutcome) (hr : (s.dev.advance dt).dmcHere c = true ∧ (s.dev.advance dt).fld Reg.DMC_STAT.STATE = 2)
    {P : Dev → Prop} (hP : P ((s.dev.advance dt).slotDone c o)) : EffectThen (.dmcCommandSlot dt c o) s (·.lineDrain c) P :=
  ⟨_, .of_main_eq (exec_dmcCommandSlot ..) hup (Dev.commandSlot_runs hr o), hP⟩

/-- The slots of a channel that runs, in the order in which they serve. -/
theorem dramSlots (dt : Nat) (c : Fin 4) (o : ReadOutcome) : let b := s.dev.advance dt
    let q := b.dch c
    let owed := b.fld (Reg.DMC_CH_STAT.OWED c)
    let slot := fun (P : Dev → Prop) => EffectThen (.dmcCommandSlot dt c o) s (·.lineDrain c) P
    let up := fun (d : Dev) (k : Nat) => d.fld (Reg.DMC_CNT.COUNT c k) = min (2 ^ 32 - 1) (b.fld (Reg.DMC_CNT.COUNT c k) + 1)
    let quiet := owed < 8 ∧ q.poll = false ∧ q.force = false ∧ (owed = 0 ∨ b.realTime c = true) ∧ (q.retrain = false ∨ b.realTime c = true)
    b.dmcHere c = true ∧ b.fld Reg.DMC_STAT.STATE = 2 →
      (quiet → slot (fun d => d = b.slotServe c o)) ∧
      (8 ≤ owed → slot (fun d => d.fld (Reg.DMC_CH_STAT.OWED c) = (owed - 1) % 16 ∧ (d.dch c).rows = [] ∧ up d 4)) ∧
      (owed < 8 → q.poll = true → slot (fun d => (d.dch c).poll = false ∧ d.regs = b.regs)) ∧
      (owed < 8 → q.poll = false → q.force = true → slot (fun d => (d.dch c).retrain = false ∧ (d.dch c).force = false ∧ up d 11)) ∧
      (owed < 8 → q.poll = false → q.force = false → 1 ≤ owed → b.realTime c = false →
        slot (fun d => b.Regs d [(Reg.DMC_CH_STAT.OWED c, (owed - 1) % 16)] ∧ (d.dch c).rows = [])) ∧
      (owed = 0 → q.poll = false → q.force = false → q.retrain = true → b.realTime c = false →
        slot (fun d => (d.dch c).retrain = false ∧ up d 11)) ∧
      (∀ r, quiet → q.pour = false → q.wq.length < b.hiWm → q.rq = [r] → slot (fun d => (d.dch c).rq = [] ∧
        (d.dch c).flight = q.flight ++ [r] ∧ up d 0 ∧ d.rowHit c r.line = true)) ∧
      (∀ w, quiet → q.pour = false → 1 < b.hiWm → q.rq = [] → q.wq = [w] → w.bytes.length = 64 → slot (fun d => (d.dch c).wq = [] ∧
        d.dram.mem = Memory.writeAt b.dram.mem w.addr w.bytes ∧ up d 1 ∧ d.out = b.out)) := by
  intro b q owed slot up quiet hr
  have hserve (hq : quiet) : b.slotDone c o = b.slotServe c o := by
    obtain ⟨h1, h2, h3, h4, h5⟩ := hq
    unfold Dev.slotDone
    rw [if_neg (by omega), if_neg (by rw [h2]; decide), if_neg (by rw [h3]; decide), if_neg, if_neg]
    · rintro ⟨g1, g2⟩
      rcases h5 with h5 | h5
      · exact absurd (h5.symm.trans g1) (by decide)
      · exact absurd (h5.symm.trans g2) (by decide)
    · rintro ⟨g1, g2⟩
      rcases h4 with h4 | h4
      · omega
      · exact absurd (h4.symm.trans g2) (by decide)
  refine ⟨fun hq => dramSlot s hup dt c o hr (hserve hq), fun h => ?_, fun h hp => ?_, fun h hp hf => ?_, fun h hp hf h1 ht => ?_,
    fun h hp hf hre ht => ?_, fun r hq hp hw h => ?_, fun w hq hp hw h1 h2 hb => ?_⟩
  · obtain ⟨g1, g2, g3, -⟩ := b.refreshOwed_spec c.isLt true
    refine dramSlot s hup dt c o hr ?_
    rw [show b.slotDone c o = b.refreshOwed c true from if_pos h]
    exact ⟨g2, g1, g3 rfl⟩
  · refine dramSlot s hup dt c o hr ?_
    rw [show b.slotDone c o = b.setDch c { q with poll := false } from (if_neg (by omega)).trans (if_pos hp), Dev.dch_setDch]
    exact ⟨rfl, rfl⟩
  · refine dramSlot s hup dt c o hr ?_
    rw [show b.slotDone c o = b.retrain c from (if_neg (by omega)).trans ((if_neg (by rw [hp]; decide)).trans (if_pos hf))]
    exact b.retrain_spec c
  · obtain ⟨g1, g2, -, g4⟩ := b.refreshOwed_spec c.isLt false
    refine dramSlot s hup dt c o hr ?_
    rw [show b.slotDone c o = b.refreshOwed c false from (if_neg (by omega)).trans ((if_neg (by rw [hp]; decide)).trans
      ((if_neg (by rw [hf]; decide)).trans (if_pos ⟨h1, ht⟩)))]
    exact ⟨g4 rfl, g1⟩
  · obtain ⟨g1, -, g3⟩ := b.retrain_spec c
    refine dramSlot s hup dt c o hr ?_
    rw [show b.slotDone c o = b.retrain c from (if_neg (by omega)).trans ((if_neg (by rw [hp]; decide)).trans
      ((if_neg (by rw [hf]; decide)).trans ((if_neg fun h1 => by omega).trans (if_pos ⟨hre, ht⟩))))]
    exact ⟨g1, g3⟩
  · refine dramSlot s hup dt c o hr ?_
    rw [hserve hq]
    exact Dev.slotServe_read hp hw h o
  · refine dramSlot s hup dt c o hr ?_
    rw [hserve hq]
    exact Dev.slotServe_write hp hw h1 h2 hb o

end Dram

variable {d e : Dev} {c : Nat}

section Dram
variable (s : State) (hup : s.dev.mainUp = true)
include hup

/-- The end of initialisation. -/
theorem dramInitDone (code ch : Nat) (rfm : BitVec 4) (c : Fin 4) : let e := s.dev
    let st := e.fld Reg.DMC_STAT.STATE
    let wakes := e.wake.queue.any (fun k => decide (236 ≤ k.1))
    (st ≠ 1 ∨ wakes = true → Does (.dmcInitDone none rfm) s e ∧ Does (.dmcInitDone (some (code, ch)) rfm) s e) ∧
    (st = 1 → wakes = false → Effect (.dmcInitDone (some (code, ch)) rfm) s (fun d =>
        { e with wake := { e.wake with granted := e.wake.granted.filter (fun k => decide (k < 236)) } }.Sets d
          [(Reg.DMC_STAT.STATE, 3), (Reg.DMC_STAT.FAIL_CODE, 3 + code % 5), (Reg.DMC_STAT.FAIL_CH, ch % 16)]) ∧
      Effect (.dmcInitDone none rfm) s (fun d => d.fld Reg.DMC_STAT.STATE = 2 ∧ d.fld Reg.DMC_EVT.INIT_DONE = 1 ∧
        d.fld Reg.DMC_STAT.KEPT = bit e.dram.keep ∧ d.dram.mem = (if e.dram.keep = true then e.dram.mem else []) ∧
        (e.dmcHere c = true → d.fld (Reg.DMC_CH_STAT.RFM_SUP c) = bit (bitOf rfm.toNat c)))) := by
  intro e st wakes
  refine ⟨fun h => ⟨.of_main_eq (exec_dmcInitDone ..) hup (Dev.dmcInitDone_idle h _ _), .of_main_eq (exec_dmcInitDone ..) hup (Dev.dmcInitDone_idle h _ _)⟩,
    fun h1 h2 => ⟨.of_main_eq hup (Dev.dmcInitDone_failed h1 h2 code ch rfm.toNat) (exec_dmcInitDone ..) rfl, ?_⟩⟩
  obtain ⟨g1, g2, g3, g4, g5⟩ := Dev.dmcInitDone_ready h1 h2 rfm.toNat
  exact ⟨_, .of_main_eq (exec_dmcInitDone ..) hup rfl, g1, g2, g3, g4, g5 c c.isLt⟩

/-- A request of a port. -/
theorem dramRequest (dt addr len dl : Nat) (port : Fin 6) : let b := s.dev.advance dt
    (b.dmcOpen = false → ∀ data, Does (.dmcRequest dt port addr len data dl) s (b.dmcErr port addr)) ∧
    (b.dmcOpen = true → ∀ data n, n = (data.map List.length).getD len →
      (b.dramAddr port addr n = none → Does (.dmcRequest dt port addr len data dl) s ((b.bump Reg.DMC_BAD_ADDR_CNT.COUNT).dmcErr port addr)) ∧
      ∀ a, b.dramAddr port addr n = some a →
        (data = none → Does (.dmcRequest dt port addr len data dl) s (b.each (linesOf a n) (fun d la => d.lineAsk (d.dramChan la)
          (.rd { line := d.dramLine la, addr := la, port := port,
                 deadline := if port.val = 0 then some (800 * d.core + 1000 * dl) else none })))) ∧
        (∀ w, data = some w → Does (.dmcRequest dt port addr len data dl) s (b.each (linesOf a n) (fun d la => d.lineAsk (d.dramChan la)
          (.wr { line := d.dramLine la, addr := la, port := port, bytes := lineSlice a w la }))))) := by
  intro b
  refine ⟨fun h data => .of_main_eq (exec_dmcRequest ..) hup (Dev.dmcAsk_closed h ..), fun h data n hn => ⟨fun ha => ?_, fun a ha => ⟨?_, ?_⟩⟩⟩
  · subst hn
    exact .of_main_eq (exec_dmcRequest ..) hup (Dev.dmcAsk_outside h ha)
  · rintro rfl
    subst hn
    exact .of_main_eq (exec_dmcRequest ..) hup (Dev.dmcAsk_read h ha)
  · rintro w rfl
    subst hn
    exact .of_main_eq (exec_dmcRequest ..) hup (Dev.dmcAsk_write h ha)

/-- The return of a read. -/
theorem dramReturn (dt : Nat) (c : Fin 4) (o : ReadOutcome) : let b := s.dev.advance dt
    let q := b.dch c
    let up := fun (d : Dev) (k : Nat) => d.fld (Reg.DMC_CNT.COUNT c k) = min (2 ^ 32 - 1) (b.fld (Reg.DMC_CNT.COUNT c k) + 1)
    (q.flight = [] → Does (.dmcReadComplete dt c o) s b) ∧
    (∀ r t, q.flight = r :: t →
      (o = .clean → r.deadline = none → Does (.dmcReadComplete dt c o) s
        ((b.setDch c { q with flight := t }).emit (.dramData r.port r.addr (r.old.getD (Memory.readN b.dram.mem r.addr 64))))) ∧
      (o = .uncorrectable → r.deadline = none → Effect (.dmcReadComplete dt c o) s (fun d =>
        d.out = .dramError r.port r.addr :: b.out ∧ up d 7 ∧ d.fld Reg.DMC_EVT.ECC_UE = 1 ∧
        d.fld Reg.DMC_UE_ADDR_LO.ADDR = r.addr % 2 ^ 32 ∧ d.fld Reg.DMC_UE_ADDR_HI.PORT = r.port % 8)) ∧
      (∀ k, o = .clean → r.deadline = some k → k < 800 * b.core → Effect (.dmcReadComplete dt c o) s (fun d =>
        d.out = .dramData r.port r.addr (r.old.getD (Memory.readN b.dram.mem r.addr 64)) :: b.out ∧ up d 2 ∧ d.fld Reg.DMC_EVT.LAT_MISS = 1))) := by
  intro b q up
  refine ⟨fun h => .of_main_eq (exec_dmcReadComplete ..) hup (Dev.readComplete_none h o), fun r t h => ⟨?_, ?_, ?_⟩⟩
  · rintro rfl hn
    exact .of_main_eq (exec_dmcReadComplete ..) hup ((Dev.readComplete_clean h).trans (Dev.readLate_none (.inl hn)))
  · rintro rfl hn
    exact ⟨_, .of_main_eq (exec_dmcReadComplete ..) hup rfl, Dev.readComplete_bad h hn⟩
  · rintro k rfl hk hl
    exact ⟨_, .of_main_eq (exec_dmcReadComplete ..) hup rfl, Dev.readComplete_late h hk hl⟩

/-- The timers of a channel. -/
theorem dramTimers (rA rB : Nat) (c : Fin 4) : let e := s.dev
    let runs := e.dmcRuns c = true
    let ech := e.dch c
    let eowed := e.fld (Reg.DMC_CH_STAT.OWED c)
    let mr4 := mr4Worse rA rB
    let hot := Config.mr4Below mr4 = true ∨ Config.mr4Limit mr4 = true
    let was := e.fld (Reg.DMC_CH_STAT.DOUBLED c) ≠ 0
    let rate := (Reg.DMC_CH_STAT.MR4_RATE c, mr4 % 32)
    (¬ runs → Does (.refreshDue c) s e ∧ Does (.mr4PollDue c) s e ∧ Does (.mr4Result c rA rB) s e ∧ Does (.retrainDue c) s e ∧
      Does (.retrainForce c) s e) ∧
    (runs → Does (.mr4PollDue c) s (e.setDch c { ech with poll := true }) ∧
      Does (.retrainDue c) s (e.setDch c { ech with retrain := true }) ∧
      Does (.retrainForce c) s (if ech.retrain = true then e.setDch c { ech with force := true } else e) ∧
      Effect (.refreshDue c) s (fun d => e.Sets d ((Reg.DMC_CH_STAT.OWED c, min 15 (eowed + 1)) ::
        if e.realTime c = true then [(Reg.DMC_CNT.COUNT c 3, min (2 ^ 32 - 1) (e.fld (Reg.DMC_CNT.COUNT c 3) + 1))] else [])) ∧
      (¬ hot → ¬ was → Effect (.mr4Result c rA rB) s (fun d => e.Sets d [rate])) ∧
      (hot → ¬ was → Config.mr4Limit mr4 = false → eowed ≤ 4 → Effect (.mr4Result c rA rB) s (fun d => e.Sets d [rate,
        (Reg.DMC_CH_STAT.DOUBLED c, 1), (Reg.DMC_EVT.TEMP_RANGE, 1), (Reg.DMC_CH_STAT.OWED c, 2 * eowed)])) ∧
      (hot → was → Config.mr4Limit mr4 = false → Effect (.mr4Result c rA rB) s (fun d => e.Sets d [rate])) ∧
      (hot → ¬ was → Effect (.mr4Result c rA rB) s (fun d => d.fld (Reg.DMC_CH_STAT.DOUBLED c) = 1 ∧
        d.fld Reg.DMC_EVT.TEMP_RANGE = 1 ∧ d.fld (Reg.DMC_CH_STAT.OWED c) = min 8 (2 * eowed))) ∧
      (¬ hot → was → Effect (.mr4Result c rA rB) s (fun d => e.Sets d [rate, (Reg.DMC_CH_STAT.DOUBLED c, 0),
        (Reg.DMC_EVT.TEMP_RANGE, 1), (Reg.DMC_CH_STAT.OWED c, (eowed + 1) / 2 % 16)])) ∧
      (Config.mr4Limit mr4 = true → Effect (.mr4Result c rA rB) s (fun d => d.fld Reg.DMC_EVT.TEMP_LIMIT = 1 ∧
        d.fld (Reg.DMC_CNT.COUNT c 10) = min (2 ^ 32 - 1) (e.fld (Reg.DMC_CNT.COUNT c 10) + 1)))) := by
  intro e runs ech eowed mr4 hot was rate
  have hhot : hot ↔ mr4Hot mr4 = true := by
    unfold mr4Hot
    rw [Bool.or_eq_true]
  have hcool : ¬ hot ↔ mr4Hot mr4 = false := by rw [hhot, Bool.not_eq_true]
  have hwas : was ↔ e.on (Reg.DMC_CH_STAT.DOUBLED c) = true := by
    unfold Dev.on
    rw [bne_iff_ne]
  have hnot : ¬ was ↔ e.on (Reg.DMC_CH_STAT.DOUBLED c) = false := by rw [hwas, Bool.not_eq_true]
  refine ⟨fun h => ?_, fun h => ?_⟩
  · have hoff : e.dmcRuns c = false := Bool.eq_false_iff.2 h
    refine ⟨.of_main_eq (exec_refreshDue ..) hup (if_neg h), .of_main_eq (exec_mr4PollDue ..) hup (if_neg h),
      .of_main_eq (exec_mr4Result ..) hup (if_pos hoff), .of_main_eq (exec_retrainDue ..) hup (if_neg h),
      .of_main_eq (exec_retrainForce ..) hup (if_neg ?_)⟩
    rw [hoff]
    exact Bool.false_ne_true
  · obtain ⟨h1, h2, h3, h4, h5⟩ := Dev.mr4Result_spec h c.isLt rA rB
    have hres {P : Dev → Prop} (hP : P (e.mr4Result c rA rB)) : Effect (.mr4Result c rA rB) s P := .of_main_eq hup hP (exec_mr4Result ..) rfl
    refine ⟨.of_main_eq (exec_mr4PollDue ..) hup (if_pos h), .of_main_eq (exec_retrainDue ..) hup (if_pos h), .of_main_eq (exec_retrainForce ..) hup ?_,
      .of_main_eq hup (Dev.refreshDue_sets h c.isLt) (exec_refreshDue ..) rfl, fun hh hw => hres (h1 ?_ ?_), fun hh hw hl ho => hres (h2 (hhot.1 hh) (hnot.1 hw) hl ho),
      fun hh hw hl => hres (h1 hl ?_), fun hh hw => hres (h3 (hhot.1 hh) (hnot.1 hw)), fun hh hw => hres (h4 (hcool.1 hh) (hwas.1 hw)), fun hl => hres (h5 hl)⟩
    · show (if (e.dmcRuns c && (e.dch c).retrain) = true then _ else _) = _
      rw [show e.dmcRuns c = true from h, Bool.true_and]
    · exact Bool.eq_false_iff.2 fun hl => hh (.inr hl)
    · rw [hnot.1 hw, hcool.1 hh]
    · rw [hwas.1 hw, hhot.1 hh]

end Dram

/-- Settles O57: configuration, requests, slots and timers by the function each command names; the queues; memory. -/
theorem dramController : Obligations.DramController := by
  unfold Obligations.DramController
  refine ⟨fun s dt addr len dl code ch rA rB m c port i v rfm o hup => ?_, Dev.regionsOk_iff, fun d c r w hw => ?_,
    fun m a b v => (Memory.read_write m a b v).trans (if_congr eq_comm rfl rfl)⟩
  · obtain ⟨g1, g2⟩ := dramInitDone s hup code ch rfm c
    obtain ⟨r1, r2⟩ := dramRequest s hup dt addr len dl port
    obtain ⟨q1, q2⟩ := dramReturn s hup dt c o
    obtain ⟨t1, t2⟩ := dramTimers s hup rA rB c
    refine ⟨dramConfig s hup m v i, g1, g2, r1, fun h data n hn => r2 h data n ?_, ⟨_, .of_main_eq (exec_regulatorRefill ..) hup rfl, s.dev.regulatorRefill_spec⟩,
      fun h => .of_main_eq (exec_dmcCommandSlot ..) hup (Dev.commandSlot_idle h o), dramSlots s hup dt c o, q1, q2, t1, t2⟩
    cases data <;> exact hn
  · exact ⟨fun hl => ⟨Dev.askRead_queued hw hl, Dev.askRead_waits hw hl⟩, fun y => Dev.askRead_served hw,
      fun hl => ⟨Dev.askWrite_queued hw hl, Dev.askWrite_waits hw hl⟩, fun y hy hl => Dev.askWrite_merged hw hy hl, Dev.readLate_none,
      fun k hk hl => Dev.readLate_sets hk hl, Dev.pourUpdate_pours, Dev.pourUpdate_rests, fun hp hq hu => by
        rw [Dev.pourUpdate_starts hp hq hu]
        exact Dev.dmcCnt_sets ..⟩

end Sys2Proof.Machine
end

section
/-!
PROOFS. O58: the power sequencer and the thermal levels (spec/15). Every function of Machine/Power.lean is described by what
it holds, what it writes to the sequencer's state, and which fields of the Crema domain it leaves as they are (`pwrFld`).
-/
namespace Sys2Proof.Machine

variable {d e : Dev}

/-! ### Fields of the Crema domain -/

/-- A field of the Crema domain that shows no rail as good. -/
def pwrFld (f : Fld) : Bool :=
  decide (0x20000 ≤ f.key / 32) && decide (f.key / 32 < 0x30000) && f.key != Reg.PWR_STAT.GOOD.key &&
    (List.range 6).all (fun q => f.key != (Reg.PWR_RAIL_STAT.GOOD q).key)

theorem pwrFld_iff {f : Fld} : pwrFld f = true ↔ (0x20000 ≤ f.key / 32 ∧ f.key / 32 < 0x30000) ∧
    f.key ≠ Reg.PWR_STAT.GOOD.key ∧ ∀ q < 6, f.key ≠ (Reg.PWR_RAIL_STAT.GOOD q).key := by
  simp [pwrFld, and_assoc]

/-- An address of the Crema domain. -/
def inPwr (f : Fld) : Prop := 0x20000 ≤ f.key / 32 ∧ f.key / 32 < 0x30000

theorem Dev.put_other {f g : Fld} (d : Dev) (v : Nat) (h : f.key ≠ g.key) : (d.put g v).fld f = d.fld f := Dev.fld_put_ne _ _ h

theorem Dev.txCuts_regs (d : Dev) : d.txCuts.regs = d.regs := (congrArg Dev.regs d.txCuts_rest :)

theorem Dev.txCuts_held (d : Dev) : d.txCuts.held = d.held := (congrArg Dev.held d.txCuts_rest :)

theorem inPwr.not_dsd {f : Fld} (hf : inPwr f) (n : Nat) : f.key ≠ (defFld n dDSD).key := by
  obtain ⟨-, h⟩ := hf
  simp only [defFld, Fld.key, Reg.LN_DEF_STAT.ADR, dDSD] at h ⊢
  omega

theorem Dev.dsdPins_pwr (d : Dev) {f : Fld} (hf : inPwr f) : d.dsdPins.fld f = d.fld f := by
  obtain ⟨hregs, -⟩ := Dev.each_dsdPin (l := (List.range 4).filter d.lnHere) (fun _ h => Dev.lnHere_lt (List.mem_filter.1 h).2)
    (List.nodup_range.filter _) d
  exact hregs.fld_eq fun hm => by
    simp only [List.map_map, List.mem_map, Function.comp] at hm
    obtain ⟨n, -, h⟩ := hm
    exact hf.not_dsd n h.symm

theorem Dev.dsdPins_rest (d : Dev) : { d.dsdPins with regs := d.regs, lines := d.lines } = d :=
  (Dev.each_dsdPin (fun _ h => Dev.lnHere_lt (List.mem_filter.1 h).2) (List.nodup_range.filter _) d).2.2

/-! ### Resets of the main domain keep the Crema domain -/

theorem coldKeeps_pwr {f : Fld} (hf : inPwr f) : coldKeeps f.key = true := by
  simp only [coldKeeps, Bool.or_eq_true, Bool.and_eq_true, decide_eq_true_eq]
  exact .inl (.inl (.inl hf))

/-- The cold reset seen from the Crema domain. -/
theorem Dev.coldReset_pwr (d : Dev) : d.coldReset.held = d.held ∧ d.coldReset.pwr = d.pwr ∧
    d.coldReset.fld Reg.CHIPCAP_RST_CAUSE.COLD = 1 ∧ ∀ f, inPwr f → d.coldReset.fld f = d.fld f := by
  obtain ⟨hheld, hregs, -, -, hrest⟩ := d.coldReset_done d.held
  have hpwr : d.coldReset.pwr = d.pwr := (congrArg Dev.pwr hrest :)
  refine ⟨hheld, hpwr, hregs.1 _ List.mem_cons_self, fun f hf => hregs.fld_eq ?_ (coldKeeps_pwr hf)⟩
  simp only [List.cons_append, List.nil_append, List.map_cons, List.mem_cons, not_or]
  obtain ⟨hlo, hhi⟩ := hf
  refine ⟨fun h => ?_, dsdShown_not_mem d (by omega)⟩
  rw [h, show Reg.CHIPCAP_RST_CAUSE.COLD.key / 32 = Reg.CHIPCAP_RST_CAUSE.ADR from rfl] at hlo
  exact absurd hlo (by decide)

/-- The clear of a warm reset seen from the Crema domain. -/
theorem Dev.warmClear_pwr (d : Dev) : d.warmClear.held = d.held ∧ d.warmClear.pwr = d.pwr ∧
    ∀ f, inPwr f → d.warmClear.fld f = d.fld f := by
  have hself : ∀ e : Dev, e.selfRefresh.held = e.held ∧ e.selfRefresh.pwr = e.pwr ∧ ∀ f, inPwr f → e.selfRefresh.fld f = e.fld f := by
    intro e
    unfold Dev.selfRefresh Dev.iff
    split
    · refine ⟨rfl, rfl, fun f hf => e.put_other _ fun h => ?_⟩
      rw [inPwr, h] at hf
      exact absurd hf (by decide)
    · exact ⟨rfl, rfl, fun _ _ => rfl⟩
  obtain ⟨hheld, hpwr, hfld⟩ := hself d.txCuts
  have hcut : d.txCuts.pwr = d.pwr := (congrArg Dev.pwr d.txCuts_rest :)
  simp only [Dev.warmClear]
  generalize hx : ({ chip := _, held := _, regs := _, lines := _, pwr := _, wake := _, gasp := _, tap := _, freeCtr := _, out := _, tim := _, dram := _, tru := _ } : Dev) = x
  have hrate : ∃ t r, x.reRate = { x with tim := t, regs := r } := by
    simp only [Dev.reRate, Dev.iff]
    split <;> split <;> exact ⟨_, _, rfl⟩
  obtain ⟨t, r, hrate⟩ := hrate
  have hrest := x.reRate.pllWarm.dsdPins_rest
  refine ⟨?_, ?_, fun f hf => ?_⟩
  · calc x.reRate.pllWarm.dsdPins.held = x.reRate.held := (congrArg Dev.held hrest :)
      _ = d.held := by rw [hrate, ← hx]; exact hheld.trans d.txCuts_held
  · calc x.reRate.pllWarm.dsdPins.pwr = x.reRate.pwr := (congrArg Dev.pwr hrest :)
      _ = d.pwr := by rw [hrate, ← hx]; exact hpwr.trans hcut
  · have hne : ∀ g : Fld, ¬ inPwr g → f.key ≠ g.key := fun g hg h => hg (by rwa [inPwr, ← h])
    calc x.reRate.pllWarm.dsdPins.fld f = x.reRate.pllWarm.fld f := Dev.dsdPins_pwr _ hf
      _ = x.reRate.fld f := by
        rw [Dev.pllWarm, Dev.put_other _ _ (hne _ (by unfold inPwr; decide)), Dev.put_other _ _ (hne _ (by unfold inPwr; decide))]
      _ = x.fld f := x.reRate_fld fun hm => by
        simp only [rateFlds, List.map_cons, List.map_nil, List.mem_cons, List.not_mem_nil, or_false] at hm
        rcases hm with h | h | h <;> exact hne _ (by unfold inPwr; decide) h
      _ = d.txCuts.selfRefresh.fld f := by
        rw [← hx, Dev.fld, Tbl.get_keep, if_pos (by simp [warmKeeps, coldKeeps_pwr hf])]; rfl
      _ = d.fld f := by rw [hfld f hf, Dev.fld, d.txCuts_regs]; rfl

/-! ### Rails -/

theorem Dev.railGood_rest (d : Dev) (k : Nat) (b : Bool) : { d.railGood k b with regs := d.regs } = d := by
  unfold Dev.railGood Dev.iff
  split <;> rfl

theorem railStat_apart : ∀ k < 6, (Reg.PWR_RAIL_STAT.GOOD k).key ≠ Reg.PWR_STAT.GOOD.key := by decide

/-- A rail's report writes GOOD, and for a rail with a register of its own GOOD there. -/
theorem Dev.railGood_sets (d : Dev) (k : Nat) (b : Bool) : d.Sets (d.railGood k b)
    ((Reg.PWR_STAT.GOOD, setBit (d.fld Reg.PWR_STAT.GOOD) k b % 2 ^ 8) :: if k < 6 then [(Reg.PWR_RAIL_STAT.GOOD k, bit b)] else []) := by
  unfold Dev.railGood Dev.iff
  have hone := Dev.Sets.put_one d Reg.PWR_STAT.GOOD (setBit (d.fld Reg.PWR_STAT.GOOD) k b)
  by_cases hk : k < 6
  · rw [if_pos (by simpa using hk), if_pos hk]
    exact (hone.put_of_lt (Reg.PWR_RAIL_STAT.GOOD k) (bit_lt b) (by simpa using railStat_apart k hk)).of_mem_iff fun x => by
      simp only [List.mem_cons]; tauto
  · rw [if_neg (by simpa using hk), if_neg hk]
    exact hone

theorem Dev.railGood_pwrFld (d : Dev) (k : Nat) (b : Bool) {f : Fld} (hf : pwrFld f = true) : (d.railGood k b).fld f = d.fld f := by
  obtain ⟨-, hgood, hrail⟩ := pwrFld_iff.1 hf
  refine (d.railGood_sets k b).1.fld_eq ?_
  split
  case isTrue hk => simpa using ⟨hgood, hrail k hk⟩
  case isFalse => simpa using hgood

theorem Dev.railGood_good (d : Dev) (k : Nat) (b : Bool) :
    (d.railGood k b).fld Reg.PWR_STAT.GOOD = setBit (d.fld Reg.PWR_STAT.GOOD) k b % 2 ^ 8 :=
  (d.railGood_sets k b).1.1 (Reg.PWR_STAT.GOOD, _) List.mem_cons_self

/-- A field outside the Crema domain is no rail's. -/
theorem Dev.railGood_cold (d : Dev) (k : Nat) (b : Bool) :
    (d.railGood k b).fld Reg.CHIPCAP_RST_CAUSE.COLD = d.fld Reg.CHIPCAP_RST_CAUSE.COLD := by
  refine (d.railGood_sets k b).1.fld_eq ?_
  split
  case isTrue hk =>
    have h : ∀ k < 6, Reg.CHIPCAP_RST_CAUSE.COLD.key ≠ (Reg.PWR_RAIL_STAT.GOOD k).key := by decide
    simpa using ⟨by decide, h k hk⟩
  case isFalse => simp +decide

theorem bitOf_mod {v n i : Nat} (h : i < n) : bitOf (v % 2 ^ n) i = bitOf v i := by
  rw [bitOf_eq_testBit, bitOf_eq_testBit, Nat.testBit_mod_two_pow, decide_eq_true h, Bool.true_and]

theorem half_setBit (q : Nat) {b : Nat} (hb : b < 2) : (q - q % 2 + b) / 2 = q / 2 := by omega

theorem bitOf_setBit (v i j : Nat) (b : Bool) : bitOf (setBit v i b) j = if j = i then b else bitOf v j := by
  have hr : v % 2 ^ i < 2 ^ i := Nat.mod_lt _ (Nat.two_pow_pos i)
  have hv : 2 ^ i * (v / 2 ^ i) + v % 2 ^ i = v := Nat.div_add_mod v (2 ^ i)
  have hset : setBit v i b = 2 ^ i * (v / 2 ^ i - v / 2 ^ i % 2 + bit b) + v % 2 ^ i := by
    have hb : bit b % 2 = bit b := Nat.mod_eq_of_lt (bit_lt b)
    have hle : 2 ^ i * (v / 2 ^ i % 2) ≤ 2 ^ i * (v / 2 ^ i) := Nat.mul_le_mul_left _ (Nat.mod_le _ _)
    simp only [setBit, setBits, bits, Nat.pow_one, hb, Nat.mul_comm _ (2 ^ i), Nat.mul_add, Nat.mul_sub]
    omega
  have hold : bitOf v j = bitOf (2 ^ i * (v / 2 ^ i) + v % 2 ^ i) j := by rw [hv]
  rw [hold, bitOf_eq_testBit, bitOf_eq_testBit, hset, Nat.testBit_two_pow_mul_add _ hr, Nat.testBit_two_pow_mul_add _ hr]
  rcases lt_trichotomy j i with hlt | rfl | hgt
  · rw [if_pos hlt, if_pos hlt, if_neg (Nat.ne_of_lt hlt)]
  · rw [if_neg (Nat.lt_irrefl _), if_pos rfl, Nat.sub_self, Nat.testBit_zero]
    cases b <;> simp [bit] <;> omega
  · obtain ⟨m, rfl⟩ := Nat.exists_eq_add_of_lt hgt
    have hb := bit_lt b
    rw [if_neg (by omega), if_neg (by omega), if_neg (by omega), show i + m + 1 - i = m + 1 by omega, Nat.testBit_succ, Nat.testBit_succ,
      half_setBit _ hb]

variable {d e : Dev}

/-! ### Stages switched off -/

/-- A list of rails switched off. -/
theorem Dev.each_railOff (l : List Nat) (hl : ∀ k ∈ l, k < 8) (d : Dev) :
    let e := d.each l (fun d k => d.railGood k false)
    { e with regs := d.regs } = d ∧ (∀ f, pwrFld f = true → e.fld f = d.fld f) ∧
      e.fld Reg.CHIPCAP_RST_CAUSE.COLD = d.fld Reg.CHIPCAP_RST_CAUSE.COLD ∧
      ∀ y < 8, bitOf (e.fld Reg.PWR_STAT.GOOD) y = (bitOf (d.fld Reg.PWR_STAT.GOOD) y && decide (y ∉ l)) := by
  induction l generalizing d with
  | nil => exact ⟨rfl, fun _ _ => rfl, rfl, fun y _ => by simp [Dev.each]⟩
  | cons k r ih =>
    obtain ⟨hk, hr⟩ := List.forall_mem_cons.1 hl
    obtain ⟨hrest, hfld, hcold, hgood⟩ := ih hr (d.railGood k false)
    have hback (x : Dev) (h : { x with regs := (d.railGood k false).regs } = d.railGood k false) : { x with regs := d.regs } = d :=
      (congrArg (fun z : Dev => { z with regs := d.regs }) h).trans (d.railGood_rest k false)
    refine ⟨hback _ hrest, fun f hf => (hfld f hf).trans (d.railGood_pwrFld k false hf), hcold.trans (d.railGood_cold k false),
      fun y hy => (hgood y hy).trans ?_⟩
    rw [d.railGood_good, bitOf_mod hy, bitOf_setBit]
    by_cases h : y = k <;> simp [h]

theorem stageRails_lt (s : Nat) : ∀ k ∈ stageRails s, k < 8 := by
  unfold stageRails
  repeat' split
  all_goals decide

/-- The highest stage that is on is switched off. -/
theorem Dev.stageOff_spec (d : Dev) : d.stageOff.held = d.held ∧ d.stageOff.pwr = { d.pwr with downStage := d.pwr.downStage - 1 } ∧
    (∀ f, pwrFld f = true → d.stageOff.fld f = d.fld f) ∧
    d.stageOff.fld Reg.CHIPCAP_RST_CAUSE.COLD = d.fld Reg.CHIPCAP_RST_CAUSE.COLD ∧
    ∀ y ∈ stageRails d.pwr.downStage, bitOf (d.stageOff.fld Reg.PWR_STAT.GOOD) y = false := by
  have hlt := stageRails_lt d.pwr.downStage
  obtain ⟨hrest, hfld, hcold, hgood⟩ := Dev.each_railOff _ hlt d
  refine ⟨(congrArg Dev.held hrest :), ?_, hfld, hcold, fun y hy => (hgood y (hlt y hy)).trans (by simp [hy])⟩
  have hp : (d.each (stageRails d.pwr.downStage) fun d k => d.railGood k false).pwr = d.pwr := (congrArg Dev.pwr hrest :)
  exact congrArg (fun p : PwrSt => { p with downStage := d.pwr.downStage - 1 }) hp

theorem pwrFld_inPwr {f : Fld} (hf : pwrFld f = true) : inPwr f := (pwrFld_iff.1 hf).1

theorem inPwr_good : inPwr Reg.PWR_STAT.GOOD := by unfold inPwr; decide

/-- The main domain stops: cold reset, and the highest stage is switched off. -/
theorem Dev.stopMain_spec (d : Dev) : d.stopMain.held = { d.held with rails := true, therm := false } ∧
    d.stopMain.pwr = { d.pwr with grace := false, downStage := d.pwr.downStage - 1 } ∧
    (∀ f, pwrFld f = true → d.stopMain.fld f = d.fld f) ∧ d.stopMain.fld Reg.CHIPCAP_RST_CAUSE.COLD = 1 ∧
    ∀ y ∈ stageRails d.pwr.downStage, bitOf (d.stopMain.fld Reg.PWR_STAT.GOOD) y = false := by
  let x : Dev := { d with held := { d.held with rails := true, therm := false }, pwr := { d.pwr with grace := false } }
  obtain ⟨hheld, hpwr, hcold, hfld⟩ := x.coldReset_pwr
  obtain ⟨hheld', hpwr', hfld', hcold', hgood⟩ := x.coldReset.stageOff_spec
  have hst : x.coldReset.pwr.downStage = d.pwr.downStage := (congrArg PwrSt.downStage hpwr :)
  refine ⟨hheld'.trans hheld, hpwr'.trans ?_, fun f hf => (hfld' f hf).trans (hfld f (pwrFld_inPwr hf)), hcold'.trans hcold, ?_⟩
  · rw [hpwr]
  · rwa [hst] at hgood

/-- From the top stage the main domain stops as O58 says. -/
theorem Dev.stopMain_top (h : d.pwr.downStage = 7) : d.stopMain.held.rails = true ∧ d.stopMain.pwr.downStage = 6 ∧
    bitOf (d.stopMain.fld Reg.PWR_STAT.GOOD) 6 = false ∧ d.stopMain.fld Reg.CHIPCAP_RST_CAUSE.COLD = 1 ∧ d.stopMain.pwr.grace = false := by
  obtain ⟨hheld, hpwr, -, hcold, hgood⟩ := d.stopMain_spec
  rw [h] at hgood
  exact ⟨by rw [hheld], by rw [hpwr, h], hgood 6 (by decide), hcold, by rw [hpwr]⟩

/-! ### A trigger -/

/-- The trigger stands and the sequencer is DOWN by it. -/
def Dev.downFrom (d : Dev) (b top : Nat) : Dev :=
  let d2 := ((d.setTrigger b true).setSeq sqDown).put Reg.PWR_STAT.DOWN_CAUSE (2 ^ b)
  { d2 with pwr := { d2.pwr with downStage := top } }

theorem Dev.setTrigger_fld (d : Dev) (b : Nat) (on : Bool) (f : Fld) : (d.setTrigger b on).fld f = d.fld f := rfl

theorem Dev.downFrom_fld (d : Dev) (b top : Nat) {f : Fld} (hs : f.key ≠ Reg.PWR_STAT.SEQ.key) (hc : f.key ≠ Reg.PWR_STAT.DOWN_CAUSE.key) :
    (d.downFrom b top).fld f = d.fld f := (Dev.put_other _ _ hc).trans (Dev.put_other _ _ hs)

theorem Dev.downFrom_seq (d : Dev) (b top : Nat) : (d.downFrom b top).fld Reg.PWR_STAT.SEQ = 3 :=
  (Dev.put_other _ _ (by decide)).trans (Dev.fld_put_same ..)

theorem Dev.downFrom_cause (d : Dev) {b : Nat} (top : Nat) (hb : b < 4) : (d.downFrom b top).fld Reg.PWR_STAT.DOWN_CAUSE = 2 ^ b :=
  (Dev.fld_put_same ..).trans (Nat.mod_eq_of_lt (Nat.pow_lt_pow_right (by decide) (show b < 5 by omega)))

theorem Dev.powerDown_of_down (b : Nat) (h : d.seq = sqDown) : d.powerDown b =
    (d.setTrigger b true).put Reg.PWR_STAT.DOWN_CAUSE (setBit (d.fld Reg.PWR_STAT.DOWN_CAUSE) b true) := if_pos h

theorem Dev.powerDown_of_up (b : Nat) (h : d.seq = sqUp) : d.powerDown b = (d.downFrom b (d.fld Reg.PWR_STAT.STAGE)).stopMain := by
  simp +decide [Dev.powerDown, h, Dev.downFrom]

theorem Dev.powerDown_of_on {b : Nat} (hb : b ≠ 0) (h : d.seq = sqOn ∨ d.seq = sqTherm) : d.powerDown b = (d.downFrom b 7).stopMain := by
  rcases h with h | h <;> simp +decide [Dev.powerDown, h, Dev.downFrom, hb]

theorem Dev.powerDown_card (h : d.seq = sqOn ∨ d.seq = sqTherm) : d.powerDown 0 =
    { d.downFrom 0 7 with pwr := { (d.downFrom 0 7).pwr with grace := true } } := by
  rcases h with h | h <;> simp +decide [Dev.powerDown, h, Dev.downFrom]

theorem Dev.powerDown_of_off (b : Nat) (h : d.seq ≠ sqDown) (h' : ¬ (d.seq = sqUp ∨ d.seq = sqOn ∨ d.seq = sqTherm)) :
    d.powerDown b = d.setTrigger b true := by
  simp only [Dev.powerDown, if_neg h, if_neg h']

/-- A trigger leaves every field of the Crema domain but SEQ, DOWN_CAUSE and the rails', and of the sequencer's state all but
the triggers, the run-on and the stage. -/
theorem Dev.powerDown_leaves (d : Dev) (b : Nat) :
    (∀ f, pwrFld f = true → f.key ≠ Reg.PWR_STAT.SEQ.key → f.key ≠ Reg.PWR_STAT.DOWN_CAUSE.key → (d.powerDown b).fld f = d.fld f) ∧
      ∃ g t, (d.powerDown b).pwr = { d.pwr with triggers := setBit d.pwr.triggers b true, grace := g, downStage := t } := by
  have hstop (top : Nat) : (∀ f, pwrFld f = true → f.key ≠ Reg.PWR_STAT.SEQ.key → f.key ≠ Reg.PWR_STAT.DOWN_CAUSE.key →
      (d.downFrom b top).stopMain.fld f = d.fld f) ∧ ∃ g t, (d.downFrom b top).stopMain.pwr =
        { d.pwr with triggers := setBit d.pwr.triggers b true, grace := g, downStage := t } := by
    obtain ⟨-, hpwr, hfld, -⟩ := (d.downFrom b top).stopMain_spec
    exact ⟨fun f hf hs hc => (hfld f hf).trans (d.downFrom_fld b top hs hc), _, _, hpwr⟩
  by_cases hdown : d.seq = sqDown
  · rw [Dev.powerDown_of_down b hdown]
    exact ⟨fun f _ _ hc => Dev.put_other _ _ hc, _, _, rfl⟩
  by_cases hup : d.seq = sqUp
  · rw [Dev.powerDown_of_up b hup]
    exact hstop _
  by_cases hon : d.seq = sqOn ∨ d.seq = sqTherm
  · by_cases hb : b = 0
    · subst hb
      rw [Dev.powerDown_card hon]
      exact ⟨fun f _ hs hc => d.downFrom_fld 0 7 hs hc, _, _, rfl⟩
    · rw [Dev.powerDown_of_on hb hon]
      exact hstop _
  · rw [Dev.powerDown_of_off b hdown (by tauto)]
    exact ⟨fun _ _ _ _ => rfl, _, _, rfl⟩

theorem Dev.powerDown_trigger (d : Dev) (b : Nat) : bitOf (d.powerDown b).pwr.triggers b = true := by
  obtain ⟨-, g, t, hpwr⟩ := d.powerDown_leaves b
  rw [hpwr]
  exact bitOf_setBit_same _ b

/-- A trigger of the running device, other than the card's, and of one that powers up: DOWN with its cause, and the main domain stops. -/
theorem Dev.powerDown_stops {b : Nat} (hb : b < 4) (h : d.seq = sqUp ∨ b ≠ 0 ∧ d.seq = sqOn) :
    (d.powerDown b).fld Reg.PWR_STAT.SEQ = 3 ∧ (d.powerDown b).fld Reg.PWR_STAT.DOWN_CAUSE = 2 ^ b ∧
      bitOf (d.powerDown b).pwr.triggers b = true ∧ (d.powerDown b).held.rails = true := by
  have hstop (top : Nat) (he : d.powerDown b = (d.downFrom b top).stopMain) : (d.powerDown b).fld Reg.PWR_STAT.SEQ = 3 ∧
      (d.powerDown b).fld Reg.PWR_STAT.DOWN_CAUSE = 2 ^ b ∧ (d.powerDown b).held.rails = true := by
    obtain ⟨hheld, -, hfld, -⟩ := (d.downFrom b top).stopMain_spec
    rw [he]
    exact ⟨(hfld _ rfl).trans (d.downFrom_seq b top), (hfld _ rfl).trans (d.downFrom_cause top hb), by rw [hheld]⟩
  obtain ⟨hseq, hcause, hrails⟩ : _ ∧ _ ∧ _ := by
    rcases h with h | ⟨hb0, h⟩
    · exact hstop _ (Dev.powerDown_of_up b h)
    · exact hstop _ (Dev.powerDown_of_on hb0 (.inl h))
  exact ⟨hseq, hcause, d.powerDown_trigger b, hrails⟩

theorem Dev.powerDown_top {b : Nat} (hb : b ≠ 0) (h : d.seq = sqOn) : (d.powerDown b).held.rails = true ∧
    (d.powerDown b).pwr.downStage = 6 ∧ bitOf ((d.powerDown b).fld Reg.PWR_STAT.GOOD) 6 = false ∧
    (d.powerDown b).fld Reg.CHIPCAP_RST_CAUSE.COLD = 1 ∧ (d.powerDown b).pwr.grace = false := by
  rw [Dev.powerDown_of_on hb (.inl h)]
  exact Dev.stopMain_top rfl

/-! ### Power-up -/

/-- What R391 asks for. -/
def Dev.mayUp (d : Dev) : Prop :=
  (d.pwr.sampled = true ∧ d.pwr.debounced = true ∧ d.pwr.hpHigh = false) ∧ d.seq = sqOff ∧ d.pwr.triggers = 0

theorem Dev.tryUp_of_may (hup : d.cremaUp = true) (h : d.mayUp) : d.tryUp = (d.setSeq sqUp).put Reg.PWR_STAT.STAGE 1 := by
  obtain ⟨⟨hs, hd, hh⟩, hseq, ht⟩ := h
  exact if_pos ⟨hup, hs, hd, by simp [hh], hseq, ht⟩

theorem Dev.tryUp_of_not (h : ¬ d.mayUp) : d.tryUp = d :=
  if_neg fun ⟨_, hs, hd, hh, hseq, ht⟩ => h ⟨⟨hs, hd, by simpa using hh⟩, hseq, ht⟩

theorem Dev.tryUp_begins (hup : d.cremaUp = true) (h : d.mayUp) : d.tryUp.fld Reg.PWR_STAT.SEQ = 1 ∧ d.tryUp.fld Reg.PWR_STAT.STAGE = 1 := by
  rw [Dev.tryUp_of_may hup h]
  exact ⟨(Dev.put_other _ _ (by decide)).trans (Dev.fld_put_same ..), Dev.fld_put_same ..⟩

theorem Dev.tryUp_rest (d : Dev) : { d.tryUp with regs := d.regs } = d := by
  unfold Dev.tryUp
  split <;> rfl

theorem Dev.tryUp_pwr (d : Dev) : d.tryUp.pwr = d.pwr := (congrArg Dev.pwr d.tryUp_rest :)

theorem Dev.tryUp_fld (d : Dev) {f : Fld} (hs : f.key ≠ Reg.PWR_STAT.SEQ.key) (hc : f.key ≠ Reg.PWR_STAT.STAGE.key) :
    d.tryUp.fld f = d.fld f := by
  unfold Dev.tryUp
  split
  · exact (Dev.put_other _ _ hc).trans (Dev.put_other _ _ hs)
  · rfl

theorem Dev.seq_congr (hs : e.fld Reg.PWR_STAT.SEQ = d.fld Reg.PWR_STAT.SEQ) (hh : e.held = d.held) : e.seq = d.seq := by
  unfold Dev.seq
  rw [hs, hh]

variable {d e : Dev}

/-- The sequencer powers up. -/
def Dev.Begins (d : Dev) : Prop := d.fld Reg.PWR_STAT.SEQ = 1 ∧ d.fld Reg.PWR_STAT.STAGE = 1

/-- The fitted phases of a rail as the sampling writes them. -/
def phaseWrite (fitted : List Nat) (k : Nat) : Fld × Nat := (Reg.PWR_RAIL_STAT.PHASES k, fitted.getD k 0 % 2 ^ phasesOf k)

def phaseWrites (fitted : List Nat) : List (Fld × Nat) := (List.range 6).map (phaseWrite fitted)

theorem phases_nodup (fitted : List Nat) : ((phaseWrites fitted).map (·.1.key)).Nodup := by
  rw [phaseWrites, List.map_map]
  exact (by decide : ((List.range 6).map fun k => (Reg.PWR_RAIL_STAT.PHASES k).key).Nodup)

theorem phases_ne {f : Fld} (hf : ∀ k < 6, (Reg.PWR_RAIL_STAT.PHASES k).key ≠ f.key) (fitted : List Nat) :
    ∀ x ∈ phaseWrites fitted, x.1.key ≠ f.key := by
  simp only [phaseWrites, List.mem_map, List.mem_range]
  rintro _ ⟨k, hk, rfl⟩
  exact hf k hk

theorem phasesOf_le : ∀ k < 6, phasesOf k ≤ 8 := by decide

section Rails
variable (s : State) (hup : s.dev.cremaUp = true)
include hup

theorem powerPhases (fitted : List Nat) :
    (s.dev.pwr.sampled = true → Does (.phaseSamplingDone fitted) s s.dev) ∧
    (s.dev.pwr.sampled = false → Effect (.phaseSamplingDone fitted) s (fun d => d.pwr.sampled = true ∧
      (∀ q < 6, d.fld (Reg.PWR_RAIL_STAT.PHASES q) = fitted.getD q 0 % 2 ^ phasesOf q) ∧
      (s.dev.pwr.debounced = true → s.dev.pwr.hpHigh = false → s.dev.seq = sqOff → s.dev.pwr.triggers = 0 → d.Begins))) := by
  have hdoes : Does (.phaseSamplingDone fitted) s (s.dev.phaseSampled fitted) := .of_crema (exec_phaseSamplingDone ..) hup
  refine ⟨fun h => ?_, fun h => ⟨_, hdoes, ?_⟩⟩
  · rwa [Dev.phaseSampled, if_pos h] at hdoes
  let x : Dev := { s.dev.puts (phaseWrites fitted) with pwr := { s.dev.pwr with sampled := true } }
  have heq : s.dev.phaseSampled fitted = x.tryUp := by
    have hput : s.dev.each (List.range 6) (fun d k => d.put (Reg.PWR_RAIL_STAT.PHASES k) (fitted.getD k 0 % 2 ^ phasesOf k)) =
        s.dev.puts (phaseWrites fitted) := s.dev.each_put (phaseWrite fitted) (List.range 6)
    have hpwr : (s.dev.puts (phaseWrites fitted)).pwr = s.dev.pwr := (congrArg Dev.pwr (Dev.puts_sets_mod (phases_nodup fitted) s.dev).2 :)
    rw [Dev.phaseSampled, if_neg (by simp [h])]
    simp only [hput, hpwr, x]
  have hheld : x.held = s.dev.held := (congrArg Dev.held (Dev.puts_sets_mod (phases_nodup fitted) s.dev).2 :)
  have hseq : x.seq = s.dev.seq := Dev.seq_congr (s.dev.puts_fld_ne (phases_ne (by decide) fitted)) hheld
  rw [heq]
  refine ⟨congrArg PwrSt.sampled x.tryUp_pwr, fun q hq => ?_, fun hdeb hhp hoff ht => ?_⟩
  · have hapart : ∀ q < 6, (Reg.PWR_RAIL_STAT.PHASES q).key ≠ Reg.PWR_STAT.SEQ.key ∧ (Reg.PWR_RAIL_STAT.PHASES q).key ≠ Reg.PWR_STAT.STAGE.key := by
      decide
    have hval : (s.dev.puts (phaseWrites fitted)).fld (Reg.PWR_RAIL_STAT.PHASES q) = fitted.getD q 0 % 2 ^ phasesOf q % 2 ^ 8 :=
      Dev.puts_fld (phases_nodup fitted) s.dev (x := phaseWrite fitted q)
        (List.mem_map_of_mem (List.mem_range.2 hq))
    rw [x.tryUp_fld (hapart q hq).1 (hapart q hq).2]
    refine hval.trans (Nat.mod_eq_of_lt ?_)
    exact (Nat.mod_lt _ (Nat.two_pow_pos _)).trans_le (Nat.pow_le_pow_right (by decide) (phasesOf_le q hq))
  · refine Dev.tryUp_begins (d := x) ?_ ⟨⟨rfl, hdeb, hhp⟩, hseq.trans hoff, ht⟩
    rw [Dev.cremaUp, hheld]
    exact hup

theorem powerDebounce : let e := s.dev
    let pw := e.pwr
    let seq := e.seq
    (pw.hpHigh = true → Does .hpDebounceExpiry s e) ∧
    (pw.hpHigh = false → pw.sampled = true → seq = sqOff → pw.triggers = 0 → Effect .hpDebounceExpiry s (fun d => d.Begins ∧
      d.pwr = { pw with debounced := true })) ∧
    (pw.hpHigh = false → seq ≠ sqOff ∨ pw.sampled = false ∨ pw.triggers ≠ 0 →
      Does .hpDebounceExpiry s { e with pwr := { pw with debounced := true } }) := by
  intro e pw seq
  have hdoes : Does .hpDebounceExpiry s e.hpDebounced := .of_crema (exec_hpDebounceExpiry _) hup
  have hlow (h : pw.hpHigh = false) : e.hpDebounced = ({ e with pwr := { pw with debounced := true } } : Dev).tryUp :=
    if_neg (show ¬ pw.hpHigh = true by simp [h])
  refine ⟨fun h => ?_, fun h hs hoff ht => ⟨_, hdoes, ?_⟩, fun h hnot => ?_⟩
  · rwa [Dev.hpDebounced, if_pos h] at hdoes
  · rw [hlow h]
    exact ⟨Dev.tryUp_begins hup ⟨⟨hs, rfl, h⟩, hoff, ht⟩, Dev.tryUp_pwr _⟩
  · rw [hlow h, Dev.tryUp_of_not] at hdoes
    · exact hdoes
    · rintro ⟨⟨hs, -, -⟩, hoff, ht⟩
      rcases hnot with h | h | h
      · exact h hoff
      · exact absurd hs (by simp [h])
      · exact h ht

theorem powerStage : let e := s.dev
    let stage := e.fld Reg.PWR_STAT.STAGE
    let gap := e.seq = sqUp ∧ stage < 7 ∧ ∀ q ∈ stageRails stage, bitOf (e.fld Reg.PWR_STAT.GOOD) q = true
    (gap → Effect .stageStart s (fun d => e.Sets d [(Reg.PWR_STAT.STAGE, stage + 1)])) ∧ (¬ gap → Does .stageStart s e) := by
  intro e stage gap
  have hdoes : Does .stageStart s e.stageStart := .of_crema (exec_stageStart _) hup
  have hall : (e.seq = sqUp ∧ stage < 7 ∧ (stageRails stage).all (fun k => bitOf (e.fld Reg.PWR_STAT.GOOD) k) = true) ↔ gap := by
    rw [List.all_eq_true]
  simp only [Dev.stageStart] at hdoes
  refine ⟨fun h => ⟨_, hdoes, ?_⟩, fun h => ?_⟩
  · rw [if_pos (hall.2 h)]
    exact (Dev.Sets.nil e).put_of_lt Reg.PWR_STAT.STAGE (show stage + 1 < 2 ^ 3 by have := h.2.1; omega) (by simp)
  · rwa [if_neg (hall.not.2 h)] at hdoes

theorem powerRail (k : Fin 8) (strap : Bool) : let e := s.dev
    let good := e.fld Reg.PWR_STAT.GOOD
    let g := setBit good k true % 2 ^ 8
    let isGood := (Reg.PWR_STAT.GOOD, g) :: if k.val < 6 then [(Reg.PWR_RAIL_STAT.GOOD k, 1)] else []
    let starts := e.seq = sqUp ∧ railStage k ≤ e.fld Reg.PWR_STAT.STAGE ∧ (6 ≤ k.val ∨ e.fld (Reg.PWR_RAIL_STAT.PHASES k) ≠ 0)
    (¬ starts → Does (.railGood k strap) s e) ∧
    (starts → g ≠ 255 → Effect (.railGood k strap) s (fun d => e.Sets d isGood)) ∧
    (starts → g = 255 → Effect (.railGood k strap) s (fun d => d.held = { e.held with rails := false } ∧
      d.fld Reg.PWR_STAT.SEQ = 2 ∧ d.fld Reg.CHIPCAP_RST_CAUSE.COLD = 1 ∧ (e.held = { rails := true } →
        d.fld Reg.RP_HIER_STAT.ROLE = bit (e.chip.part == 0x6440 || strap)))) := by
  intro e good g isGood starts
  have hdoes : Does (.railGood k strap) s (e.railGoodNow k.val strap) := .of_crema (exec_railGood ..) hup
  have hnow : starts → e.railGoodNow k.val strap = if (e.railGood k.val true).fld Reg.PWR_STAT.GOOD = 255 then
      (((e.railGood k.val true).setSeq sqOn).cause Reg.CHIPCAP_RST_CAUSE.COLD).setHeld
        { (e.railGood k.val true).held with rails := false } strap
      else e.railGood k.val true := fun h => if_pos h
  have hgood : (e.railGood k.val true).fld Reg.PWR_STAT.GOOD = g := e.railGood_good k.val true
  have hheld : (e.railGood k.val true).held = e.held := (congrArg Dev.held (e.railGood_rest k.val true) :)
  refine ⟨fun h => ?_, fun h hg => ⟨_, hdoes, ?_⟩, fun h hg => ⟨_, hdoes, ?_⟩⟩
  · rwa [Dev.railGoodNow, if_neg h] at hdoes
  · rw [hnow h, hgood, if_neg hg]
    exact e.railGood_sets k.val true
  · rw [hnow h, hgood, if_pos hg, hheld]
    generalize hx : ((e.railGood k.val true).setSeq sqOn).cause Reg.CHIPCAP_RST_CAUSE.COLD = x
    have hxh : x.held = e.held := by rw [← hx]; exact hheld
    have hxs : x.fld Reg.PWR_STAT.SEQ = 2 := by
      rw [← hx]
      exact (Dev.put_other _ _ (by decide)).trans (Dev.fld_put_same ..)
    have hxc : x.fld Reg.CHIPCAP_RST_CAUSE.COLD = 1 := by rw [← hx]; exact Dev.fld_put_same ..
    have hxp : x.chip = e.chip := by rw [← hx]; exact (congrArg Dev.chip (e.railGood_rest k.val true) :)
    simp only [Dev.setHeld, hxh]
    split
    case isTrue =>
      refine ⟨rfl, (Dev.put_other _ _ (by decide)).trans hxs, (Dev.put_other _ _ (by decide)).trans hxc, fun _ => ?_⟩
      refine (Dev.fld_put_same ..).trans ?_
      rw [hxp]
      exact Nat.mod_eq_of_lt (bit_lt _)
    case isFalse hcold =>
      refine ⟨rfl, hxs, hxc, fun hh => absurd ?_ hcold⟩
      rw [hh]
      rfl

theorem powerFault (k code : Fin 8) (free : Bool) : let e := s.dev
    let pw := e.pwr
    let seq := e.seq
    (e.faultApplies k code = false → Does (.railFault k code free) s e) ∧
    (e.faultApplies k code = true → Effect (.railFault k code free) s (fun d =>
      d.fld (Reg.PWR_CNT.COUNT 0) = min (2 ^ 32 - 1) (e.fld (Reg.PWR_CNT.COUNT 0) + 1) ∧ d.fld Reg.PWR_EVT.RAIL_FAULT = 1 ∧
      (k.val < 6 → d.fld (Reg.PWR_RAIL_STAT.FAULT k) = code) ∧ d.pwr.retries = (if free = true then 0 else pw.retries) ∧
      bitOf d.pwr.triggers 2 = true ∧
      (seq = sqOn → (d.fld Reg.PWR_STAT.SEQ = 3 ∧ d.fld Reg.PWR_STAT.DOWN_CAUSE = 2 ^ 2 ∧ bitOf d.pwr.triggers 2 = true) ∧
        d.held.rails = true ∧ d.pwr.downStage = 6 ∧ bitOf (d.fld Reg.PWR_STAT.GOOD) 6 = false ∧
        d.fld Reg.CHIPCAP_RST_CAUSE.COLD = 1 ∧ d.pwr.grace = false) ∧
      (seq = sqUp → (d.fld Reg.PWR_STAT.SEQ = 3 ∧ d.fld Reg.PWR_STAT.DOWN_CAUSE = 2 ^ 2 ∧ bitOf d.pwr.triggers 2 = true) ∧
        d.held.rails = true) ∧
      (seq = sqDown → d.fld Reg.PWR_STAT.DOWN_CAUSE = setBit (e.fld Reg.PWR_STAT.DOWN_CAUSE) 2 true % 2 ^ 5))) := by
  intro e pw seq
  have hdoes : Does (.railFault k code free) s (e.railFault k.val code.val free) := .of_crema (exec_railFault ..) hup
  refine ⟨fun h => ?_, fun h => ⟨_, hdoes, ?_⟩⟩
  · rwa [Dev.railFault, if_neg (by simp [h])] at hdoes
  let d1 := ((e.bump (Reg.PWR_CNT.COUNT 0)).ev Reg.PWR_EVT.RAIL_FAULT).iff (decide (k.val < 6)) (·.put (Reg.PWR_RAIL_STAT.FAULT k) code)
  let d2 : Dev := { d1 with pwr := { pw with retries := if free = true then 0 else pw.retries } }
  have hd1 : { d1 with regs := e.regs } = e := by
    simp only [d1, Dev.iff]
    split <;> rfl
  have hpw1 : d1.pwr = pw := (congrArg Dev.pwr hd1 :)
  have heq : e.railFault k.val code.val free = d2.powerDown 2 := by
    rw [Dev.railFault, if_pos h]
    have hd2 : d2 = if free = true then { d1 with pwr := { d1.pwr with retries := 0 } } else d1 := by
      simp only [d2, ← hpw1]
      cases free <;> rfl
    rw [hd2]
  have hfault : ∀ k < 6, pwrFld (Reg.PWR_RAIL_STAT.FAULT k) = true ∧ (∀ f ∈ [Reg.PWR_STAT.SEQ, Reg.PWR_STAT.DOWN_CAUSE, Reg.PWR_CNT.COUNT 0, Reg.PWR_EVT.RAIL_FAULT],
      (Reg.PWR_RAIL_STAT.FAULT k).key ≠ f.key) := by decide
  have hold {f : Fld} (hf : ∀ k < 6, f.key ≠ (Reg.PWR_RAIL_STAT.FAULT k).key) :
      d2.fld f = ((e.bump (Reg.PWR_CNT.COUNT 0)).ev Reg.PWR_EVT.RAIL_FAULT).fld f := by
    show d1.fld f = _
    simp only [d1, Dev.iff]
    split
    case isTrue hk => exact Dev.put_other _ _ (hf k.val (by simpa using hk))
    case isFalse => rfl
  have hseqf : d2.fld Reg.PWR_STAT.SEQ = e.fld Reg.PWR_STAT.SEQ :=
    (hold (by decide)).trans ((Dev.put_other _ _ (by decide)).trans (Dev.put_other _ _ (by decide)))
  have hseq : d2.seq = seq := Dev.seq_congr hseqf (congrArg Dev.held hd1 :)
  obtain ⟨hfld, gr, top, hpwr⟩ := d2.powerDown_leaves 2
  have hcnt : d2.fld (Reg.PWR_CNT.COUNT 0) = min (2 ^ 32 - 1) (e.fld (Reg.PWR_CNT.COUNT 0) + 1) :=
    (hold (by decide)).trans ((Dev.put_other _ _ (by decide)).trans ((Dev.fld_put_same ..).trans
      (Nat.mod_eq_of_lt (show min (2 ^ 32 - 1) (e.fld (Reg.PWR_CNT.COUNT 0) + 1) < 2 ^ 32 by omega))))
  rw [heq]
  refine ⟨(hfld _ rfl (by decide) (by decide)).trans hcnt, (hfld _ rfl (by decide) (by decide)).trans ((hold (by decide)).trans (Dev.fld_put_same ..)),
    fun hk => ?_, by rw [hpwr], d2.powerDown_trigger 2, fun hon => ?_, fun hup => ?_, fun hdown => ?_⟩
  · obtain ⟨hp, hne⟩ := hfault k.val hk
    refine (hfld _ hp (hne _ (by simp)) (hne _ (by simp))).trans ?_
    show d1.fld _ = _
    simp only [d1, Dev.iff, hk, decide_true, if_true]
    exact (Dev.fld_put_same ..).trans (Nat.mod_eq_of_lt code.isLt)
  · obtain ⟨h1, h2, h3, -⟩ := d2.powerDown_stops (b := 2) (by decide) (.inr ⟨by decide, hseq.trans hon⟩)
    exact ⟨⟨h1, h2, h3⟩, d2.powerDown_top (by decide) (hseq.trans hon)⟩
  · obtain ⟨h1, h2, h3, h4⟩ := d2.powerDown_stops (b := 2) (by decide) (.inl (hseq.trans hup))
    exact ⟨⟨h1, h2, h3⟩, h4⟩
  · rw [Dev.powerDown_of_down 2 (hseq.trans hdown), Dev.fld_put_same,
      (hold (by decide)).trans ((Dev.put_other _ _ (by decide)).trans (Dev.put_other _ _ (by decide)))]
    rfl

theorem powerRetry : let e := s.dev
    let pw := e.pwr
    let seq := e.seq
    let seen := pw.sampled = true ∧ pw.debounced = true ∧ pw.hpHigh = false
    (¬ (bitOf pw.triggers 2 = true ∧ seq = sqOff) → Does .faultRetryExpiry s e) ∧
    (bitOf pw.triggers 2 = true → seq = sqOff → e.fld Reg.PWR_SEQ.RETRY ≤ pw.retries →
      Effect .faultRetryExpiry s (fun d => e.Sets d [(Reg.PWR_STAT.SEQ, 4)])) ∧
    (bitOf pw.triggers 2 = true → seq = sqOff → pw.retries < e.fld Reg.PWR_SEQ.RETRY → Effect .faultRetryExpiry s (fun d =>
      d.pwr = { pw with retries := pw.retries + 1, triggers := setBit pw.triggers 2 false } ∧
      (setBit pw.triggers 2 false = 0 → seen → d.Begins) ∧ (setBit pw.triggers 2 false ≠ 0 ∨ ¬ seen → d.regs = e.regs))) := by
  intro e pw seq seen
  have hdoes : Does .faultRetryExpiry s e.retryOver := .of_crema (exec_faultRetryExpiry _) hup
  refine ⟨fun h => ?_, fun ht hoff hr => ⟨_, hdoes, ?_⟩, fun ht hoff hr => ⟨_, hdoes, ?_⟩⟩
  · rwa [Dev.retryOver, if_neg h] at hdoes
  · rw [Dev.retryOver, if_pos ⟨ht, hoff⟩, if_neg (Nat.not_lt.2 hr)]
    exact Dev.Sets.put_one e Reg.PWR_STAT.SEQ 4
  · rw [Dev.retryOver, if_pos ⟨ht, hoff⟩, if_pos hr]
    refine ⟨Dev.tryUp_pwr _, fun h0 hseen => Dev.tryUp_begins hup ⟨hseen, hoff, h0⟩, fun hnot => ?_⟩
    rw [Dev.tryUp_of_not]
    · rfl
    · rintro ⟨hseen, -, h0⟩
      rcases hnot with h | h
      · exact h h0
      · exact h hseen

end Rails

variable {d e : Dev}

/-! ### The dying gasp -/

theorem Dev.gaspEval_off (hv : d.pwr.vinLow = false) (hh : d.pwr.hpHigh = false) :
    d.gaspEval = { d.put Reg.PWR_STAT.DG 0 with gasp := none } := if_neg (by simp [hv, hh])

theorem Dev.gaspEval_on (h : d.pwr.vinLow = true ∨ d.pwr.hpHigh = true) : d.gaspEval = if d.on Reg.PWR_STAT.DG then d
    else { ((d.put Reg.PWR_STAT.DG 1).ev Reg.PWR_EVT.DG).bump (Reg.PWR_CNT.COUNT 1) with gasp := some d.tim.ctr } :=
  if_pos (by simpa using h)

theorem Dev.gaspEval_stays (h : d.pwr.vinLow = true ∨ d.pwr.hpHigh = true) (hf : d.fld Reg.PWR_STAT.DG ≠ 0) : d.gaspEval = d := by
  rw [Dev.gaspEval_on h, if_pos (by simpa [Dev.on] using hf)]

theorem Dev.gaspEval_rises (h : d.pwr.vinLow = true ∨ d.pwr.hpHigh = true) (hf : d.fld Reg.PWR_STAT.DG = 0) :
    d.gaspEval = { ((d.put Reg.PWR_STAT.DG 1).ev Reg.PWR_EVT.DG).bump (Reg.PWR_CNT.COUNT 1) with gasp := some d.tim.ctr } := by
  rw [Dev.gaspEval_on h, if_neg (by simp [Dev.on, hf])]

/-- The signal's evaluation leaves all but its own fields and the time it rose. -/
theorem Dev.gaspEval_leaves (d : Dev) : d.gaspEval.pwr = d.pwr ∧ d.gaspEval.held = d.held ∧
    ∀ f, f.key ≠ Reg.PWR_STAT.DG.key → f.key ≠ Reg.PWR_EVT.DG.key → f.key ≠ (Reg.PWR_CNT.COUNT 1).key → d.gaspEval.fld f = d.fld f := by
  unfold Dev.gaspEval
  split
  · split
    · exact ⟨rfl, rfl, fun _ _ _ _ => rfl⟩
    · exact ⟨rfl, rfl, fun f h1 h2 h3 => (Dev.put_other _ _ h3).trans ((Dev.put_other _ _ h2).trans (Dev.put_other _ _ h1))⟩
  · exact ⟨rfl, rfl, fun f h1 _ _ => Dev.put_other _ _ h1⟩

theorem Dev.gaspEval_shown (h : d.pwr.vinLow = true ∨ d.pwr.hpHigh = true) :
    d.gaspEval.fld Reg.PWR_STAT.DG = if d.fld Reg.PWR_STAT.DG = 0 then 1 else d.fld Reg.PWR_STAT.DG := by
  split
  case isTrue hf =>
    rw [Dev.gaspEval_rises h hf]
    exact (Dev.put_other _ _ (by decide)).trans ((Dev.put_other _ _ (by decide)).trans (Dev.fld_put_same ..))
  case isFalse hf => rw [Dev.gaspEval_stays h hf]

/-- LATCHED is left with the retries at 0. -/
theorem Dev.unlatch_leaves (d : Dev) : d.unlatch.held = d.held ∧ (∃ r t, d.unlatch.pwr = { d.pwr with retries := r, triggers := t } ∧
      (bitOf d.pwr.triggers 0 = false → bitOf t 0 = false) ∧ (d.seq = sqLatched → r = 0)) ∧
    (∀ f, f.key ≠ Reg.PWR_STAT.SEQ.key → d.unlatch.fld f = d.fld f) ∧
    (d.seq = sqLatched → d.unlatch.fld Reg.PWR_STAT.SEQ = 0) := by
  unfold Dev.unlatch
  split
  · refine ⟨rfl, ⟨_, _, rfl, fun h => ?_, fun _ => rfl⟩, fun f hf => Dev.put_other _ _ hf, fun _ => Dev.fld_put_same ..⟩
    rw [bitOf_setBit, if_neg (by decide)]
    exact h
  case isFalse hl => exact ⟨rfl, ⟨_, _, rfl, fun h => h, fun h => absurd h hl⟩, fun _ _ => rfl, fun h => absurd h hl⟩

section Card
variable (s : State) (hup : s.dev.cremaUp = true)
include hup

theorem powerCardOut : let e := s.dev
    Effect (.hpPresentChange true) s (fun d => d.fld Reg.PWR_STAT.SEATED = 0 ∧ d.pwr.hpHigh = true ∧ d.pwr.debounced = false ∧
      bitOf d.pwr.triggers 0 = true) ∧
    (e.seq = sqOn → Effect (.hpPresentChange true) s (fun d => (d.fld Reg.PWR_STAT.SEQ = 3 ∧ d.fld Reg.PWR_STAT.DOWN_CAUSE = 2 ^ 0 ∧
      bitOf d.pwr.triggers 0 = true) ∧ d.held = e.held ∧ d.fld Reg.PWR_STAT.SEATED = 0 ∧
      d.pwr.hpHigh = true ∧ d.pwr.debounced = false ∧ d.pwr.grace = true ∧ d.pwr.downStage = 7 ∧
      d.fld Reg.PWR_STAT.DG = (if e.fld Reg.PWR_STAT.DG = 0 then 1 else e.fld Reg.PWR_STAT.DG))) := by
  intro e
  let x : Dev := ({ e with pwr := { e.pwr with hpHigh := true, debounced := false } } : Dev).put Reg.PWR_STAT.SEATED 0
  have hdoes : Does (.hpPresentChange true) s (x.gaspEval.powerDown 0) := .of_crema (exec_hpPresentChange ..) hup
  obtain ⟨hpwr, hheld, hfld⟩ := x.gaspEval_leaves
  have hseat : x.gaspEval.fld Reg.PWR_STAT.SEATED = 0 := (hfld _ (by decide) (by decide) (by decide)).trans (Dev.fld_put_same ..)
  have hout : (x.gaspEval.powerDown 0).fld Reg.PWR_STAT.SEATED = 0 ∧ (x.gaspEval.powerDown 0).pwr.hpHigh = true ∧
      (x.gaspEval.powerDown 0).pwr.debounced = false ∧ bitOf (x.gaspEval.powerDown 0).pwr.triggers 0 = true := by
    obtain ⟨hleft, g, t, hp⟩ := x.gaspEval.powerDown_leaves 0
    refine ⟨(hleft _ rfl (by decide) (by decide)).trans hseat, ?_, ?_, x.gaspEval.powerDown_trigger 0⟩ <;> rw [hp, hpwr] <;> rfl
  refine ⟨⟨_, hdoes, hout⟩, fun hon => ⟨_, hdoes, ?_⟩⟩
  obtain ⟨-, hh, hd, ht⟩ := hout
  have hseqf : x.gaspEval.fld Reg.PWR_STAT.SEQ = e.fld Reg.PWR_STAT.SEQ :=
    (hfld _ (by decide) (by decide) (by decide)).trans (Dev.put_other _ _ (by decide))
  have hseq : x.gaspEval.seq = sqOn := (Dev.seq_congr hseqf hheld).trans hon
  have hx : x.fld Reg.PWR_STAT.DG = e.fld Reg.PWR_STAT.DG := Dev.put_other _ _ (by decide)
  have hdown := Dev.powerDown_card (.inl hseq)
  rw [hdown] at hh hd ht ⊢
  refine ⟨⟨x.gaspEval.downFrom_seq 0 7, x.gaspEval.downFrom_cause 7 (by decide), ht⟩, hheld,
    (x.gaspEval.downFrom_fld 0 7 (by decide) (by decide)).trans hseat, hh, hd, rfl, rfl, ?_⟩
  refine (x.gaspEval.downFrom_fld 0 7 (by decide) (by decide)).trans ?_
  rw [Dev.gaspEval_shown (.inr rfl), hx]

theorem powerCardIn : let e := s.dev
    let pw := e.pwr
    Effect (.hpPresentChange false) s (fun d => d.fld Reg.PWR_STAT.SEATED = 1 ∧ d.pwr.hpHigh = false ∧
      bitOf d.pwr.triggers 0 = false ∧ (pw.vinLow = false → d.fld Reg.PWR_STAT.DG = 0 ∧ d.gasp = none) ∧
      (e.seq = sqLatched → d.pwr.retries = 0 ∧ (pw.debounced = false → d.fld Reg.PWR_STAT.SEQ = 0))) := by
  intro e pw
  let x : Dev := (({ e with pwr := { pw with hpHigh := false } } : Dev).put Reg.PWR_STAT.SEATED 1).setTrigger 0 false
  have hdoes : Does (.hpPresentChange false) s x.unlatch.gaspEval.tryUp := .of_crema (exec_hpPresentChange ..) hup
  obtain ⟨-, ⟨r, t, hpw, hbit, hr⟩, hfldu, hsequ⟩ := x.unlatch_leaves
  obtain ⟨hpwr, -, hfldg⟩ := x.unlatch.gaspEval_leaves
  have hseq : x.seq = e.seq := Dev.seq_congr (Dev.put_other _ _ (by decide)) rfl
  have hall : x.unlatch.gaspEval.tryUp.pwr = { x.pwr with retries := r, triggers := t } := (Dev.tryUp_pwr _).trans (hpwr.trans hpw)
  refine ⟨_, hdoes, ?_, by rw [hall]; rfl, ?_, fun hv => ?_, fun hl => ⟨?_, fun hdeb => ?_⟩⟩
  · exact (Dev.tryUp_fld _ (by decide) (by decide)).trans ((hfldg _ (by decide) (by decide) (by decide)).trans
      ((hfldu _ (by decide)).trans (Dev.fld_put_same ..)))
  · rw [hall]
    refine hbit ?_
    show bitOf (setBit pw.triggers 0 false) 0 = false
    rw [bitOf_setBit, if_pos rfl]
  · have hoff : x.unlatch.gaspEval = { x.unlatch.put Reg.PWR_STAT.DG 0 with gasp := none } :=
      Dev.gaspEval_off (by rw [hpw]; exact hv) (by rw [hpw]; rfl)
    refine ⟨?_, ?_⟩
    · rw [Dev.tryUp_fld _ (by decide) (by decide), hoff]
      exact Dev.fld_put_same ..
    · have hg : x.unlatch.gaspEval.tryUp.gasp = x.unlatch.gaspEval.gasp := (congrArg Dev.gasp (Dev.tryUp_rest _) :)
      rw [hg, hoff]
  · rw [hall]
    exact hr (hseq.trans hl)
  · rw [Dev.tryUp_of_not]
    · exact (hfldg _ (by decide) (by decide) (by decide)).trans (hsequ (hseq.trans hl))
    · rintro ⟨⟨-, hd, -⟩, -⟩
      rw [hpwr, hpw] at hd
      exact absurd hd (by simp [x, Dev.setTrigger, Dev.put, hdeb])

theorem powerDownStages : let e := s.dev
    let pw := e.pwr
    let seq := e.seq
    let seen := pw.sampled = true ∧ pw.debounced = true ∧ pw.hpHigh = false
    (pw.grace = false → Does .hpGraceExpiry s e) ∧
    (pw.grace = true → pw.downStage = 7 → Effect .hpGraceExpiry s (fun d => d.held.rails = true ∧ d.pwr.downStage = 6 ∧
      bitOf (d.fld Reg.PWR_STAT.GOOD) 6 = false ∧ d.fld Reg.CHIPCAP_RST_CAUSE.COLD = 1 ∧ d.pwr.grace = false)) ∧
    (seq ≠ sqDown ∨ pw.grace = true → Does .powerDownStage s e) ∧
    (seq = sqDown → pw.grace = false → pw.downStage = 0 →
      (pw.triggers ≠ 0 ∨ ¬ seen ∨ e.held.rails = false → Effect .powerDownStage s (fun d => e.Sets d [(Reg.PWR_STAT.SEQ, 0)])) ∧
      (pw.triggers = 0 → seen → e.held.rails = true → Effect .powerDownStage s Dev.Begins)) ∧
    (∀ q, seq = sqDown → pw.grace = false → pw.downStage = q + 1 → Effect .powerDownStage s (fun d => d.pwr.downStage = q ∧
      ∀ y ∈ stageRails (q + 1), bitOf (d.fld Reg.PWR_STAT.GOOD) y = false)) := by
  intro e pw seq seen
  have hgrace : Does .hpGraceExpiry s e.graceOver := .of_crema (exec_hpGraceExpiry _) hup
  have hdown : Does .powerDownStage s e.downNext := .of_crema (exec_powerDownStage _) hup
  have hruns (h : seq = sqDown) (hg : pw.grace = false) : e.downNext = if e.pwr.downStage = 0 then (e.setSeq sqOff).tryUp else e.stageOff :=
    if_pos ⟨h, by simp [e, pw] at hg ⊢; exact hg⟩
  refine ⟨fun h => ?_, fun h h7 => ⟨_, hgrace, ?_⟩, fun h => ?_, fun h hg h0 => ⟨fun hnot => ⟨_, hdown, ?_⟩, fun ht hseen hr => ⟨_, hdown, ?_⟩⟩,
    fun q h hg hq => ⟨_, hdown, ?_⟩⟩
  · rwa [Dev.graceOver, if_neg (show ¬ pw.grace = true by simp [h])] at hgrace
  · rw [Dev.graceOver, if_pos h]
    exact Dev.stopMain_top h7
  · rwa [Dev.downNext, if_neg] at hdown
    rintro ⟨hs, hg⟩
    exact h.elim (· hs) hg
  · rw [hruns h hg, if_pos h0, Dev.tryUp_of_not]
    · exact Dev.Sets.put_one e Reg.PWR_STAT.SEQ 0
    · rintro ⟨hseen, hoff, ht⟩
      rcases hnot with hn | hn | hn
      · exact hn ht
      · exact hn hseen
      · have hf : (e.setSeq sqOff).fld Reg.PWR_STAT.SEQ = 0 := Dev.fld_put_same ..
        have hon : (e.setSeq sqOff).seq = sqOn := by
          unfold Dev.seq
          rw [hf, if_pos ⟨rfl, by show ¬ e.held.rails = true; simp [hn]⟩]
        exact absurd (hon.symm.trans hoff) (by decide)
  · rw [hruns h hg, if_pos h0]
    have hf : (e.setSeq sqOff).fld Reg.PWR_STAT.SEQ = 0 := Dev.fld_put_same ..
    refine Dev.tryUp_begins hup ⟨hseen, ?_, ht⟩
    unfold Dev.seq
    rw [hf, if_neg]
    · rfl
    · rintro ⟨-, hn⟩
      exact hn hr
  · rw [hruns h hg, if_neg (show ¬ pw.downStage = 0 by omega)]
    obtain ⟨-, hp, -, -, hgood⟩ := e.stageOff_spec
    rw [show e.pwr.downStage = q + 1 from hq] at hp hgood
    exact ⟨by rw [hp]; rfl, hgood⟩

theorem powerOffHold : let e := s.dev
    let pw := e.pwr
    let seq := e.seq
    let seen := pw.sampled = true ∧ pw.debounced = true ∧ pw.hpHigh = false
    (¬ (bitOf pw.triggers 1 = true ∧ e.fld Reg.PWR_SEQ2.OFF_S ≠ 0) → Does .offHoldExpiry s e) ∧
    (bitOf pw.triggers 1 = true → e.fld Reg.PWR_SEQ2.OFF_S ≠ 0 → Effect .offHoldExpiry s (fun d =>
      d.pwr = { pw with triggers := setBit pw.triggers 1 false } ∧ let goes := seq = sqOff ∧ setBit pw.triggers 1 false = 0 ∧ seen
      (goes → d.Begins) ∧ (¬ goes → d.regs = e.regs))) := by
  intro e pw seq seen
  have hdoes : Does .offHoldExpiry s e.offOver := .of_crema (exec_offHoldExpiry _) hup
  refine ⟨fun h => ?_, fun ht ho => ⟨_, hdoes, ?_⟩⟩
  · rwa [Dev.offOver, if_neg h] at hdoes
  · rw [Dev.offOver, if_pos ⟨ht, ho⟩]
    refine ⟨Dev.tryUp_pwr _, fun ⟨hoff, h0, hseen⟩ => Dev.tryUp_begins hup ⟨hseen, hoff, h0⟩, fun hnot => ?_⟩
    rw [Dev.tryUp_of_not]
    · rfl
    · rintro ⟨hseen, hoff, h0⟩
      exact hnot ⟨hoff, h0, hseen⟩

end Card

variable {d e : Dev}

section Gasp
variable (s : State) (hup : s.dev.cremaUp = true)
include hup

theorem powerGaspRaise (dt : Nat) : let e := s.dev
    let b := if e.mainUp = true then e.advance dt else e
    (b.fld Reg.PWR_STAT.DG = 0 → Effect (.dyingGaspRaise dt) s (fun d => (d.fld Reg.PWR_STAT.DG = 1 ∧ d.fld Reg.PWR_EVT.DG = 1 ∧
      d.gasp = some b.tim.ctr) ∧ d.pwr = { b.pwr with vinLow := true } ∧
      d.fld (Reg.PWR_CNT.COUNT 1) = min (2 ^ 32 - 1) (b.fld (Reg.PWR_CNT.COUNT 1) + 1))) ∧
    (b.fld Reg.PWR_STAT.DG ≠ 0 → Does (.dyingGaspRaise dt) s { b with pwr := { b.pwr with vinLow := true } }) := by
  intro e b
  have hdoes : Does (.dyingGaspRaise dt) s (b.vinLow true) := .of_crema (exec_dyingGaspRaise ..) hup
  refine ⟨fun h => ⟨_, hdoes, ?_⟩, fun h => ?_⟩
  · rw [Dev.vinLow, Dev.gaspEval_rises (d := { b with pwr := { b.pwr with vinLow := true } }) (.inl rfl) h]
    have hdg : (Reg.PWR_STAT.DG).key ≠ Reg.PWR_EVT.DG.key := by decide
    have hcnt : (Reg.PWR_CNT.COUNT 1).key ≠ Reg.PWR_EVT.DG.key ∧ (Reg.PWR_CNT.COUNT 1).key ≠ Reg.PWR_STAT.DG.key := by decide
    refine ⟨⟨(Dev.put_other _ _ hcnt.2.symm).trans ((Dev.put_other _ _ hdg).trans (Dev.fld_put_same ..)),
      (Dev.put_other _ _ hcnt.1.symm).trans (Dev.fld_put_same ..), rfl⟩, rfl, ?_⟩
    refine (Dev.fld_put_same ..).trans ?_
    rw [show ((({ b with pwr := { b.pwr with vinLow := true } } : Dev).put Reg.PWR_STAT.DG 1).ev Reg.PWR_EVT.DG).fld (Reg.PWR_CNT.COUNT 1) =
      b.fld (Reg.PWR_CNT.COUNT 1) from (Dev.put_other _ _ hcnt.1).trans (Dev.put_other _ _ hcnt.2)]
    exact Nat.mod_eq_of_lt (show min (2 ^ 32 - 1) (b.fld (Reg.PWR_CNT.COUNT 1) + 1) < 2 ^ 32 by omega)
  · rwa [Dev.vinLow, Dev.gaspEval_stays (d := { b with pwr := { b.pwr with vinLow := true } }) (.inl rfl) h] at hdoes

theorem powerGaspWithdraw : let e := s.dev
    let pw := e.pwr
    (pw.hpHigh = false → Effect .dyingGaspWithdraw s (fun d => ({ e with pwr := { pw with vinLow := false }, gasp := none } : Dev).Sets d
      [(Reg.PWR_STAT.DG, 0)])) ∧
    (pw.hpHigh = true → e.fld Reg.PWR_STAT.DG ≠ 0 → Does .dyingGaspWithdraw s { e with pwr := { pw with vinLow := false } }) ∧
    (pw.hpHigh = true → e.fld Reg.PWR_STAT.DG = 0 → Effect .dyingGaspWithdraw s (fun d => d.fld Reg.PWR_STAT.DG = 1 ∧
      d.gasp = some e.tim.ctr ∧ d.pwr = { pw with vinLow := false })) := by
  intro e pw
  have hdoes : Does .dyingGaspWithdraw s (e.vinLow false) := .of_crema (exec_dyingGaspWithdraw _) hup
  refine ⟨fun h => ⟨_, hdoes, ?_⟩, fun h hf => ?_, fun h hf => ⟨_, hdoes, ?_⟩⟩
  · rw [Dev.vinLow, Dev.gaspEval_off (d := { e with pwr := { pw with vinLow := false } }) rfl h]
    exact Dev.Sets.put_one { e with pwr := { pw with vinLow := false }, gasp := none } Reg.PWR_STAT.DG 0
  · rwa [Dev.vinLow, Dev.gaspEval_stays (d := { e with pwr := { pw with vinLow := false } }) (.inr h) hf] at hdoes
  · rw [Dev.vinLow, Dev.gaspEval_rises (d := { e with pwr := { pw with vinLow := false } }) (.inr h) hf]
    exact ⟨(Dev.put_other _ _ (by decide)).trans ((Dev.put_other _ _ (by decide)).trans (Dev.fld_put_same ..)), rfl, rfl⟩

end Gasp

/-! ### The hottest sensor -/

/-- The first sensor, from `m` on through `l`, that no later one exceeds. -/
def hottest (t : Nat → Int) (l : List Nat) (m : Nat) : Nat := l.foldl (fun m s => if t m < t s then s else m) m

theorem hottest_spec (t : Nat → Int) (l : List Nat) (m : Nat) :
    (hottest t l m = m ∨ hottest t l m ∈ l) ∧ t m ≤ t (hottest t l m) ∧ ∀ q ∈ l, t q ≤ t (hottest t l m) := by
  induction l generalizing m with
  | nil => exact ⟨.inl rfl, le_refl _, by simp⟩
  | cons q r ih =>
    obtain ⟨hin, hm, hr⟩ := ih (if t m < t q then q else m)
    have hstep : hottest t (q :: r) m = hottest t r (if t m < t q then q else m) := rfl
    have hle : t m ≤ t (if t m < t q then q else m) ∧ t q ≤ t (if t m < t q then q else m) := by split <;> constructor <;> omega
    rw [hstep]
    refine ⟨?_, hle.1.trans hm, List.forall_mem_cons.2 ⟨hle.2.trans hm, hr⟩⟩
    rcases hin with h | h
    · rw [h]
      split <;> simp
    · exact .inr (List.mem_cons_of_mem _ h)

/-! ### The levels -/

/-- WARN is reached, or no more. -/
def Dev.thermWarned (d : Dev) (warm : Bool) : Dev :=
  let d1 := d.iff (warm && !d.pwr.warm) (·.ev Reg.PWR_EVT.THERM_WARN)
  { d1 with pwr := { d1.pwr with warm := warm } }

/-- Throttling begins at its level and ends below it by the hysteresis. -/
def Dev.thermThrottled (d : Dev) (cool hot : Bool) : Dev :=
  if d.on Reg.PWR_STAT.THROTTLE then d.iff cool (·.put Reg.PWR_STAT.THROTTLE 0)
  else d.iff (d.on Reg.PWR_CTRL.THROT_EN && hot) (fun d => (d.put Reg.PWR_STAT.THROTTLE 1).bump (Reg.PWR_CNT.COUNT 2))

/-- The critical temperature, and the shutdown below it. -/
def Dev.thermAct (d : Dev) (crit shut : Bool) : Dev :=
  if crit = true then d.powerDown 3 else d.iff (shut && d.seq == sqOn) Dev.thermShut

def Dev.lvl (d : Dev) (f : Fld) : Int := 4 * (d.fld f : Int)

/-- The device after WARN and THROT have been judged. -/
def Dev.thermMid (d : Dev) : Dev :=
  (d.thermWarned (decide (d.lvl Reg.PWR_THERM_CFG.WARN ≤ d.thermMax))).thermThrottled
    (decide (d.thermMax < d.lvl Reg.PWR_THERM_CFG.THROT - 4 * (d.fld Reg.PWR_THERM_HYST.HYST : Int)))
    (decide (d.lvl Reg.PWR_THERM_CFG.THROT ≤ d.thermMax))

theorem Dev.thermLevels_eq (d : Dev) : d.thermLevels = d.thermMid.thermAct (decide (d.lvl Reg.PWR_THERM_CFG.CRIT ≤ d.thermMax))
    (decide (d.lvl Reg.PWR_THERM_CFG.SHUT ≤ d.thermMax)) := by
  unfold Dev.thermAct
  simp only [decide_eq_true_eq]
  rfl

theorem Dev.thermWarned_leaves (d : Dev) (warm : Bool) : (d.thermWarned warm).held = d.held ∧
    (d.thermWarned warm).pwr = { d.pwr with warm := warm } ∧
    (∀ f, f.key ≠ Reg.PWR_EVT.THERM_WARN.key → (d.thermWarned warm).fld f = d.fld f) ∧
    (warm = true → d.pwr.warm = false → (d.thermWarned warm).fld Reg.PWR_EVT.THERM_WARN = 1) := by
  unfold Dev.thermWarned Dev.iff
  by_cases h : (warm && !d.pwr.warm) = true
  · rw [if_pos h]
    exact ⟨rfl, rfl, fun f hf => Dev.put_other _ _ hf, fun _ _ => Dev.fld_put_same ..⟩
  · rw [if_neg h]
    exact ⟨rfl, rfl, fun _ _ => rfl, fun hw hd => absurd (by simp [hw, hd]) h⟩

theorem Dev.thermThrottled_leaves (d : Dev) (cool hot : Bool) : (d.thermThrottled cool hot).held = d.held ∧
    (d.thermThrottled cool hot).pwr = d.pwr ∧
    (∀ f, f.key ≠ Reg.PWR_STAT.THROTTLE.key → f.key ≠ (Reg.PWR_CNT.COUNT 2).key → (d.thermThrottled cool hot).fld f = d.fld f) := by
  unfold Dev.thermThrottled Dev.iff
  split <;> split
  · exact ⟨rfl, rfl, fun f h1 _ => Dev.put_other _ _ h1⟩
  · exact ⟨rfl, rfl, fun _ _ _ => rfl⟩
  · exact ⟨rfl, rfl, fun f h1 h2 => (Dev.put_other _ _ h2).trans (Dev.put_other _ _ h1)⟩
  · exact ⟨rfl, rfl, fun _ _ _ => rfl⟩

theorem Dev.thermThrottled_begins (cool : Bool) (h0 : d.fld Reg.PWR_STAT.THROTTLE = 0) (hen : d.fld Reg.PWR_CTRL.THROT_EN ≠ 0) :
    (d.thermThrottled cool true).fld Reg.PWR_STAT.THROTTLE = 1 ∧
      (d.thermThrottled cool true).fld (Reg.PWR_CNT.COUNT 2) = min (2 ^ 32 - 1) (d.fld (Reg.PWR_CNT.COUNT 2) + 1) := by
  have heq : d.thermThrottled cool true = (d.put Reg.PWR_STAT.THROTTLE 1).bump (Reg.PWR_CNT.COUNT 2) := by
    rw [Dev.thermThrottled, if_neg (by simp [Dev.on, h0])]
    simp [Dev.iff, Dev.on, hen]
  rw [heq]
  refine ⟨(Dev.put_other _ _ (by decide)).trans (Dev.fld_put_same ..), (Dev.fld_put_same ..).trans ?_⟩
  rw [Dev.put_other _ _ (by decide)]
  exact Nat.mod_eq_of_lt (show min (2 ^ 32 - 1) (d.fld (Reg.PWR_CNT.COUNT 2) + 1) < 2 ^ 32 by omega)

theorem Dev.thermThrottled_ends (hot : Bool) : (d.thermThrottled true hot).fld Reg.PWR_STAT.THROTTLE = 0 ∨ d.fld Reg.PWR_STAT.THROTTLE = 0 := by
  by_cases h : d.fld Reg.PWR_STAT.THROTTLE = 0
  · exact .inr h
  · left
    rw [Dev.thermThrottled, if_pos (by simpa [Dev.on] using h)]
    exact Dev.fld_put_same ..

/-- Thermal shutdown seen from the Crema domain. -/
theorem Dev.thermShut_spec (d : Dev) : d.thermShut.held = { d.held with therm := true } ∧ d.thermShut.pwr = d.pwr ∧
    (∀ f, pwrFld f = true → f.key ≠ Reg.PWR_STAT.SEQ.key → f.key ≠ Reg.PWR_EVT.THERM_SHUT.key → f.key ≠ (Reg.PWR_CNT.COUNT 3).key →
      d.thermShut.fld f = d.fld f) ∧
    d.thermShut.fld Reg.PWR_STAT.SEQ = 5 ∧ d.thermShut.fld Reg.PWR_EVT.THERM_SHUT = 1 ∧
    d.thermShut.fld (Reg.PWR_CNT.COUNT 3) = min (2 ^ 32 - 1) (d.fld (Reg.PWR_CNT.COUNT 3) + 1) ∧
    bitOf (d.thermShut.fld Reg.PWR_STAT.GOOD) 2 = false ∧ bitOf (d.thermShut.fld Reg.PWR_STAT.GOOD) 3 = false := by
  let x : Dev := { d with held := { d.held with therm := true } }
  let y := x.iff (!x.held.cold) Dev.warmClear
  have hy : y.held = x.held ∧ y.pwr = d.pwr ∧ ∀ f, inPwr f → y.fld f = d.fld f := by
    simp only [y, Dev.iff]
    split
    · exact x.warmClear_pwr
    · exact ⟨rfl, rfl, fun _ _ => rfl⟩
  obtain ⟨hheld, hpwr, hfld⟩ := hy
  let z := ((y.setSeq sqTherm).ev Reg.PWR_EVT.THERM_SHUT).bump (Reg.PWR_CNT.COUNT 3)
  have heq : d.thermShut = (z.railGood 2 false).railGood 3 false := rfl
  have h23 : ∀ k < 8, bitOf (((z.railGood 2 false).railGood 3 false).fld Reg.PWR_STAT.GOOD) k =
      if k = 3 then false else if k = 2 then false else bitOf (z.fld Reg.PWR_STAT.GOOD) k := by
    intro k hk
    rw [Dev.railGood_good, bitOf_mod hk, bitOf_setBit, Dev.railGood_good, bitOf_mod hk, bitOf_setBit]
  have hrail (f) (hf : pwrFld f = true) : d.thermShut.fld f = z.fld f := by
    rw [heq, Dev.railGood_pwrFld _ _ _ hf, Dev.railGood_pwrFld _ _ _ hf]
  have hrest : ((z.railGood 2 false).railGood 3 false).held = z.held ∧ ((z.railGood 2 false).railGood 3 false).pwr = z.pwr :=
    ⟨(congrArg Dev.held (Dev.railGood_rest _ 3 false) :).trans (congrArg Dev.held (z.railGood_rest 2 false) :),
      (congrArg Dev.pwr (Dev.railGood_rest _ 3 false) :).trans (congrArg Dev.pwr (z.railGood_rest 2 false) :)⟩
  have hcnt : z.fld (Reg.PWR_CNT.COUNT 3) = min (2 ^ 32 - 1) (d.fld (Reg.PWR_CNT.COUNT 3) + 1) := by
    refine (Dev.fld_put_same ..).trans ?_
    rw [show ((y.setSeq sqTherm).ev Reg.PWR_EVT.THERM_SHUT).fld (Reg.PWR_CNT.COUNT 3) = d.fld (Reg.PWR_CNT.COUNT 3) from
      (Dev.put_other _ _ (by decide)).trans ((Dev.put_other _ _ (by decide)).trans (hfld _ (by unfold inPwr; decide)))]
    exact Nat.mod_eq_of_lt (show min (2 ^ 32 - 1) (d.fld (Reg.PWR_CNT.COUNT 3) + 1) < 2 ^ 32 by omega)
  refine ⟨hrest.1.trans hheld, hrest.2.trans hpwr, fun f hf h1 h2 h3 => (hrail f hf).trans ?_, (hrail _ rfl).trans ?_, (hrail _ rfl).trans ?_,
    (hrail _ rfl).trans hcnt, (h23 2 (by decide)).trans rfl, (h23 3 (by decide)).trans rfl⟩
  · exact (Dev.put_other _ _ h3).trans ((Dev.put_other _ _ h2).trans ((Dev.put_other _ _ h1).trans (hfld f (pwrFld_inPwr hf))))
  · exact (Dev.put_other _ _ (by decide)).trans ((Dev.put_other _ _ (by decide)).trans (Dev.fld_put_same ..))
  · exact (Dev.put_other _ _ (by decide)).trans (Dev.fld_put_same ..)

theorem Dev.thermAct_leaves (d : Dev) (crit shut : Bool) {f : Fld} (hf : pwrFld f = true) (h1 : f.key ≠ Reg.PWR_STAT.SEQ.key)
    (h2 : f.key ≠ Reg.PWR_STAT.DOWN_CAUSE.key) (h3 : f.key ≠ Reg.PWR_EVT.THERM_SHUT.key) (h4 : f.key ≠ (Reg.PWR_CNT.COUNT 3).key) :
    (d.thermAct crit shut).fld f = d.fld f := by
  unfold Dev.thermAct Dev.iff
  split
  · exact (d.powerDown_leaves 3).1 f hf h1 h2
  · split
    · exact d.thermShut_spec.2.2.1 f hf h1 h3 h4
    · rfl

variable {d e : Dev}

/-! ### A conversion -/

/-- What a conversion writes for a sensor. -/
def tempWrite (t : Nat → Int) (q : Nat) : List (Fld × Nat) :=
  [(Reg.PWR_THERM_T.TEMP q, unsigned 12 (t q)), (Reg.PWR_THERM_T.VALID q, 1)]

/-- What a conversion writes, with the hottest sensor `top` and the peak before. -/
def tempWrites (t : Nat → Int) (top : Nat) (peak : Int) : List (Fld × Nat) :=
  (List.range 12).flatMap (tempWrite t) ++ [(Reg.PWR_THERM_MAX.TEMP, unsigned 12 (t top)), (Reg.PWR_THERM_MAX.SENSOR, top),
    (Reg.PWR_THERM_MAX.PEAK, unsigned 12 (max (t top) peak))]

def tempKeys : List Nat :=
  (List.range 12).flatMap (fun q => [(Reg.PWR_THERM_T.TEMP q).key, (Reg.PWR_THERM_T.VALID q).key]) ++
    [Reg.PWR_THERM_MAX.TEMP.key, Reg.PWR_THERM_MAX.SENSOR.key, Reg.PWR_THERM_MAX.PEAK.key]

theorem tempWrites_keys (t : Nat → Int) (top : Nat) (peak : Int) : (tempWrites t top peak).map (·.1.key) = tempKeys := by
  rw [tempWrites, List.map_append, List.map_flatMap]
  rfl

theorem tempWrites_nodup (t : Nat → Int) (top : Nat) (peak : Int) : ((tempWrites t top peak).map (·.1.key)).Nodup := by
  rw [tempWrites_keys]
  decide

/-- The temperatures of the twelve sensors as the converter gives them. -/
def tempOf (temps : List Int) (q : Nat) : Int := clampI (-2048) 2047 (temps.getD q 0)

/-- The device with a conversion written. -/
def Dev.thermShown (d : Dev) (temps : List Int) : Dev :=
  d.puts (tempWrites (tempOf temps) (hottest (tempOf temps) (List.range 12) 0) (signed 12 (d.fld Reg.PWR_THERM_MAX.PEAK)))

theorem Dev.thermConvert_eq (d : Dev) (temps : List Int) : d.thermConvert temps = (d.thermShown temps).thermLevels := by
  have hsens : d.each (List.range 12) (fun d q => (d.put (Reg.PWR_THERM_T.TEMP q) (unsigned 12 (tempOf temps q))).put
      (Reg.PWR_THERM_T.VALID q) 1) = d.puts ((List.range 12).flatMap (tempWrite (tempOf temps))) :=
    Dev.each_puts (tempWrite (tempOf temps)) (List.range 12) d
  have hmax (x : Dev) (a b c : Nat) : x.puts [(Reg.PWR_THERM_MAX.TEMP, a), (Reg.PWR_THERM_MAX.SENSOR, b), (Reg.PWR_THERM_MAX.PEAK, c)] =
    ((x.put Reg.PWR_THERM_MAX.TEMP a).put Reg.PWR_THERM_MAX.SENSOR b).put Reg.PWR_THERM_MAX.PEAK c := rfl
  rw [Dev.thermShown, tempWrites, Dev.puts_append, ← hsens, hmax]
  unfold Dev.thermConvert
  simp only [hottest, tempOf]
  rfl

theorem Dev.puts_crema (l : List (Fld × Nat)) (d : Dev) : (d.puts l).held = d.held ∧ (d.puts l).pwr = d.pwr :=
  ⟨(congrArg Dev.held (d.puts_rest l) :), (congrArg Dev.pwr (d.puts_rest l) :)⟩

theorem Dev.thermShown_rest (d : Dev) (temps : List Int) : (d.thermShown temps).held = d.held ∧ (d.thermShown temps).pwr = d.pwr :=
  Dev.puts_crema _ d

theorem Dev.thermShown_fld (d : Dev) (temps : List Int) {f : Fld} (hf : f.key ∉ tempKeys) : (d.thermShown temps).fld f = d.fld f :=
  Dev.puts_fld_ne d fun x hx h => hf (by
    rw [← h, ← tempWrites_keys (tempOf temps)]
    exact List.mem_map_of_mem (f := fun x : Fld × Nat => x.1.key) hx)

theorem tempOf_bounds (temps : List Int) (q : Nat) : -2048 ≤ tempOf temps q ∧ tempOf temps q ≤ 2047 := clampI_bounds (by decide) _

/-- What is shown after the writes for `top`. -/
theorem Dev.tempWrites_shown (d : Dev) (t : Nat → Int) {top : Nat} (htop : top < 12) (peak : Int) :
    let x := d.puts (tempWrites t top peak)
    (∀ q < 12, x.fld (Reg.PWR_THERM_T.TEMP q) = unsigned 12 (t q) ∧ x.fld (Reg.PWR_THERM_T.VALID q) = 1) ∧
      x.fld Reg.PWR_THERM_MAX.TEMP = unsigned 12 (t top) ∧ x.fld Reg.PWR_THERM_MAX.SENSOR = top ∧
      x.fld Reg.PWR_THERM_MAX.PEAK = unsigned 12 (max (t top) peak) := by
  have hval (y : Fld × Nat) (hy : y ∈ tempWrites t top peak) (hv : y.2 < 2 ^ y.1.w) : (d.puts (tempWrites t top peak)).fld y.1 = y.2 :=
    (Dev.puts_fld (tempWrites_nodup ..) d hy).trans (Nat.mod_eq_of_lt hv)
  have hlast {y : Fld × Nat} (hy : y ∈ [(Reg.PWR_THERM_MAX.TEMP, unsigned 12 (t top)), (Reg.PWR_THERM_MAX.SENSOR, top),
      (Reg.PWR_THERM_MAX.PEAK, unsigned 12 (max (t top) peak))]) : y ∈ tempWrites t top peak := List.mem_append_right _ hy
  have hsens (q : Nat) (hq : q < 12) {y : Fld × Nat} (hy : y ∈ tempWrite t q) : y ∈ tempWrites t top peak :=
    List.mem_append_left _ (List.mem_flatMap.2 ⟨q, List.mem_range.2 hq, hy⟩)
  exact ⟨fun q hq => ⟨hval (Reg.PWR_THERM_T.TEMP q, _) (hsens q hq List.mem_cons_self) (unsigned_lt 12 _),
      hval (Reg.PWR_THERM_T.VALID q, 1) (hsens q hq (List.mem_cons_of_mem _ List.mem_cons_self)) (show 1 < 2 ^ 1 by decide)⟩,
    hval (Reg.PWR_THERM_MAX.TEMP, _) (hlast List.mem_cons_self) (unsigned_lt 12 _),
    hval (Reg.PWR_THERM_MAX.SENSOR, _) (hlast (List.mem_cons_of_mem _ List.mem_cons_self)) (show top < 2 ^ 4 by omega),
    hval (Reg.PWR_THERM_MAX.PEAK, _) (hlast (List.mem_cons_of_mem _ (List.mem_cons_of_mem _ List.mem_cons_self))) (unsigned_lt 12 _)⟩

/-- What a conversion shows. -/
theorem Dev.thermShown_spec (d : Dev) (temps : List Int) : ∃ top < 12, (∀ q < 12, tempOf temps q ≤ tempOf temps top) ∧
    (d.thermShown temps).thermMax = tempOf temps top ∧
    (∀ q < 12, (d.thermShown temps).fld (Reg.PWR_THERM_T.TEMP q) = unsigned 12 (tempOf temps q) ∧
      (d.thermShown temps).fld (Reg.PWR_THERM_T.VALID q) = 1) ∧
    (d.thermShown temps).fld Reg.PWR_THERM_MAX.TEMP = unsigned 12 (tempOf temps top) ∧
    (d.thermShown temps).fld Reg.PWR_THERM_MAX.SENSOR = top ∧
    (d.thermShown temps).fld Reg.PWR_THERM_MAX.PEAK = unsigned 12 (max (tempOf temps top) (signed 12 (d.fld Reg.PWR_THERM_MAX.PEAK))) := by
  rw [Dev.thermShown]
  generalize hh : hottest (tempOf temps) (List.range 12) 0 = top
  obtain ⟨hin, -, hmax⟩ := hottest_spec (tempOf temps) (List.range 12) 0
  rw [hh] at hin hmax
  have htop : top < 12 := hin.elim (fun h => by omega) List.mem_range.1
  obtain ⟨hsens, htemp, hrest⟩ := d.tempWrites_shown (tempOf temps) htop (signed 12 (d.fld Reg.PWR_THERM_MAX.PEAK))
  refine ⟨top, htop, fun q hq => hmax q (List.mem_range.2 hq), ?_, hsens, htemp, hrest⟩
  obtain ⟨hlo, hhi⟩ := tempOf_bounds temps top
  rw [Dev.thermMax, htemp]
  exact signed_unsigned (n := 11) hlo (by norm_num; omega)

/-- The registers of the sensors and their maximum stay as the levels are judged. -/
theorem tempFlds_level : (∀ q < 12, pwrFld (Reg.PWR_THERM_T.TEMP q) = true ∧ pwrFld (Reg.PWR_THERM_T.VALID q) = true) ∧
    (∀ q < 12, ∀ g ∈ [Reg.PWR_STAT.SEQ, Reg.PWR_STAT.DOWN_CAUSE, Reg.PWR_EVT.THERM_SHUT, Reg.PWR_CNT.COUNT 3, Reg.PWR_STAT.THROTTLE,
      Reg.PWR_CNT.COUNT 2, Reg.PWR_EVT.THERM_WARN], (Reg.PWR_THERM_T.TEMP q).key ≠ g.key ∧ (Reg.PWR_THERM_T.VALID q).key ≠ g.key) := by
  decide

theorem Dev.thermMid_leaves (d : Dev) : d.thermMid.held = d.held ∧
    d.thermMid.pwr = { d.pwr with warm := decide (d.lvl Reg.PWR_THERM_CFG.WARN ≤ d.thermMax) } ∧
    (∀ f, f.key ≠ Reg.PWR_EVT.THERM_WARN.key → f.key ≠ Reg.PWR_STAT.THROTTLE.key → f.key ≠ (Reg.PWR_CNT.COUNT 2).key →
      d.thermMid.fld f = d.fld f) := by
  obtain ⟨hh, hp, hf, -⟩ := d.thermWarned_leaves (decide (d.lvl Reg.PWR_THERM_CFG.WARN ≤ d.thermMax))
  obtain ⟨hh', hp', hf'⟩ := (d.thermWarned (decide (d.lvl Reg.PWR_THERM_CFG.WARN ≤ d.thermMax))).thermThrottled_leaves
    (decide (d.thermMax < d.lvl Reg.PWR_THERM_CFG.THROT - 4 * (d.fld Reg.PWR_THERM_HYST.HYST : Int)))
    (decide (d.lvl Reg.PWR_THERM_CFG.THROT ≤ d.thermMax))
  exact ⟨hh'.trans hh, hp'.trans hp, fun f h1 h2 h3 => (hf' f h2 h3).trans (hf f h1)⟩

/-- The levels leave every field of the Crema domain that they do not name. -/
theorem Dev.thermLevels_fld (d : Dev) {f : Fld} (hf : pwrFld f = true)
    (h : ∀ g ∈ [Reg.PWR_STAT.SEQ, Reg.PWR_STAT.DOWN_CAUSE, Reg.PWR_EVT.THERM_SHUT, Reg.PWR_CNT.COUNT 3, Reg.PWR_STAT.THROTTLE,
      Reg.PWR_CNT.COUNT 2, Reg.PWR_EVT.THERM_WARN], f.key ≠ g.key) : d.thermLevels.fld f = d.fld f := by
  rw [Dev.thermLevels_eq, Dev.thermAct_leaves _ _ _ hf (h _ (by simp)) (h _ (by simp)) (h _ (by simp)) (h _ (by simp))]
  exact d.thermMid_leaves.2.2 f (h _ (by simp)) (h _ (by simp)) (h _ (by simp))

/-- WARN and THROT after the levels. -/
theorem Dev.thermLevels_warn (d : Dev) :
    (d.lvl Reg.PWR_THERM_CFG.WARN ≤ d.thermMax → d.pwr.warm = false → d.thermLevels.fld Reg.PWR_EVT.THERM_WARN = 1) ∧
    (d.fld Reg.PWR_STAT.THROTTLE = 0 → d.fld Reg.PWR_CTRL.THROT_EN ≠ 0 → d.lvl Reg.PWR_THERM_CFG.THROT ≤ d.thermMax →
      d.thermLevels.fld Reg.PWR_STAT.THROTTLE = 1 ∧
      d.thermLevels.fld (Reg.PWR_CNT.COUNT 2) = min (2 ^ 32 - 1) (d.fld (Reg.PWR_CNT.COUNT 2) + 1)) ∧
    (d.thermMax < d.lvl Reg.PWR_THERM_CFG.THROT - 4 * (d.fld Reg.PWR_THERM_HYST.HYST : Int) →
      d.thermLevels.fld Reg.PWR_STAT.THROTTLE = 0 ∨ d.fld Reg.PWR_STAT.THROTTLE = 0) := by
  obtain ⟨-, -, hf, hw⟩ := d.thermWarned_leaves (decide (d.lvl Reg.PWR_THERM_CFG.WARN ≤ d.thermMax))
  have hwarn : d.thermLevels.fld Reg.PWR_EVT.THERM_WARN = d.thermMid.fld Reg.PWR_EVT.THERM_WARN := by
    rw [Dev.thermLevels_eq]
    exact Dev.thermAct_leaves _ _ _ rfl (by decide) (by decide) (by decide) (by decide)
  have hthr : d.thermLevels.fld Reg.PWR_STAT.THROTTLE = d.thermMid.fld Reg.PWR_STAT.THROTTLE := by
    rw [Dev.thermLevels_eq]
    exact Dev.thermAct_leaves _ _ _ rfl (by decide) (by decide) (by decide) (by decide)
  have hcnt : d.thermLevels.fld (Reg.PWR_CNT.COUNT 2) = d.thermMid.fld (Reg.PWR_CNT.COUNT 2) := by
    rw [Dev.thermLevels_eq]
    exact Dev.thermAct_leaves _ _ _ rfl (by decide) (by decide) (by decide) (by decide)
  refine ⟨fun h hd => hwarn.trans ?_, fun h0 hen h => ?_, fun h => ?_⟩
  · exact ((Dev.thermThrottled_leaves _ _ _).2.2 _ (by decide) (by decide)).trans (hw (decide_eq_true h) hd)
  · rw [hthr, hcnt, Dev.thermMid, decide_eq_true h]
    have hb := Dev.thermThrottled_begins (d := d.thermWarned (decide (d.lvl Reg.PWR_THERM_CFG.WARN ≤ d.thermMax)))
      (decide (d.thermMax < d.lvl Reg.PWR_THERM_CFG.THROT - 4 * (d.fld Reg.PWR_THERM_HYST.HYST : Int)))
      ((hf _ (by decide)).trans h0) (by rw [hf _ (by decide)]; exact hen)
    rwa [hf (Reg.PWR_CNT.COUNT 2) (by decide)] at hb
  · rw [hthr, Dev.thermMid, decide_eq_true h]
    have he := Dev.thermThrottled_ends (d := d.thermWarned (decide (d.lvl Reg.PWR_THERM_CFG.WARN ≤ d.thermMax)))
      (decide (d.lvl Reg.PWR_THERM_CFG.THROT ≤ d.thermMax))
    rwa [hf _ (by decide)] at he

theorem Dev.thermMid_seq (d : Dev) : d.thermMid.seq = d.seq :=
  Dev.seq_congr (d.thermMid_leaves.2.2 _ (by decide) (by decide) (by decide)) d.thermMid_leaves.1

/-- SHUT and CRIT after the levels. -/
theorem Dev.thermLevels_act (d : Dev) :
    (d.thermMax < d.lvl Reg.PWR_THERM_CFG.CRIT → d.thermMax < d.lvl Reg.PWR_THERM_CFG.SHUT → d.thermLevels = d.thermMid) ∧
    (d.seq = sqOn → d.thermMax < d.lvl Reg.PWR_THERM_CFG.CRIT → d.lvl Reg.PWR_THERM_CFG.SHUT ≤ d.thermMax →
      d.thermLevels = d.thermMid.thermShut) ∧
    (d.lvl Reg.PWR_THERM_CFG.CRIT ≤ d.thermMax → d.thermLevels = d.thermMid.powerDown 3) := by
  rw [Dev.thermLevels_eq]
  refine ⟨fun hc hs => ?_, fun hon hc hs => ?_, fun hc => ?_⟩
  · simp [Dev.thermAct, Dev.iff, not_le.2 hc, not_le.2 hs]
  · simp [Dev.thermAct, Dev.iff, not_le.2 hc, hs, d.thermMid_seq, hon]
  · simp [Dev.thermAct, hc]

section Thermal
variable (s : State) (hup : s.dev.cremaUp = true)
include hup

theorem powerThermal (temps : List Int) : let e := s.dev
    let pw := e.pwr
    let seq := e.seq
    let t := tempOf temps
    let lvl := fun (f : Fld) => 4 * (e.fld f : Int)
    let cnt := fun (d : Dev) (x : Nat) => d.fld (Reg.PWR_CNT.COUNT x) = min (2 ^ 32 - 1) (e.fld (Reg.PWR_CNT.COUNT x) + 1)
    let shut := fun (d : Dev) => d.held = { e.held with therm := true } ∧ d.fld Reg.PWR_STAT.SEQ = 5 ∧
      d.fld Reg.PWR_EVT.THERM_SHUT = 1 ∧ bitOf (d.fld Reg.PWR_STAT.GOOD) 2 = false ∧ bitOf (d.fld Reg.PWR_STAT.GOOD) 3 = false
    let down := fun (d : Dev) (cause : Nat) => d.fld Reg.PWR_STAT.SEQ = 3 ∧ d.fld Reg.PWR_STAT.DOWN_CAUSE = 2 ^ cause ∧
      bitOf d.pwr.triggers cause = true
    let stops := fun (d : Dev) => d.held.rails = true ∧ d.pwr.downStage = 6 ∧ bitOf (d.fld Reg.PWR_STAT.GOOD) 6 = false ∧
      d.fld Reg.CHIPCAP_RST_CAUSE.COLD = 1 ∧ d.pwr.grace = false
    Effect (.thermalConversion temps) s (fun d =>
      (∀ q < 12, d.fld (Reg.PWR_THERM_T.TEMP q) = unsigned 12 (t q) ∧ d.fld (Reg.PWR_THERM_T.VALID q) = 1) ∧
      ∃ top < 12, (∀ q < 12, t q ≤ t top) ∧ d.fld Reg.PWR_THERM_MAX.TEMP = unsigned 12 (t top) ∧
        d.fld Reg.PWR_THERM_MAX.SENSOR = top ∧ d.fld Reg.PWR_THERM_MAX.PEAK =
          unsigned 12 (max (t top) (signed 12 (e.fld Reg.PWR_THERM_MAX.PEAK))) ∧
        (lvl Reg.PWR_THERM_CFG.WARN ≤ t top → pw.warm = false → d.fld Reg.PWR_EVT.THERM_WARN = 1) ∧
        (e.fld Reg.PWR_STAT.THROTTLE = 0 → e.fld Reg.PWR_CTRL.THROT_EN ≠ 0 → lvl Reg.PWR_THERM_CFG.THROT ≤ t top →
          d.fld Reg.PWR_STAT.THROTTLE = 1 ∧ cnt d 2) ∧
        (t top < lvl Reg.PWR_THERM_CFG.THROT - 4 * (e.fld Reg.PWR_THERM_HYST.HYST : Int) → d.fld Reg.PWR_STAT.THROTTLE = 0 ∨
          e.fld Reg.PWR_STAT.THROTTLE = 0) ∧
        (t top < lvl Reg.PWR_THERM_CFG.CRIT → t top < lvl Reg.PWR_THERM_CFG.SHUT → d.held = e.held ∧ d.fld Reg.PWR_STAT.SEQ =
          e.fld Reg.PWR_STAT.SEQ) ∧
        (seq = sqOn → t top < lvl Reg.PWR_THERM_CFG.CRIT → lvl Reg.PWR_THERM_CFG.SHUT ≤ t top → shut d ∧ cnt d 3) ∧
        (lvl Reg.PWR_THERM_CFG.CRIT ≤ t top → bitOf d.pwr.triggers 3 = true) ∧
        (seq = sqDown → lvl Reg.PWR_THERM_CFG.CRIT ≤ t top → d.held = e.held ∧
          d.fld Reg.PWR_STAT.DOWN_CAUSE = setBit (e.fld Reg.PWR_STAT.DOWN_CAUSE) 3 true % 2 ^ 5) ∧
        (seq = sqOn → lvl Reg.PWR_THERM_CFG.CRIT ≤ t top → down d 3 ∧ stops d)) := by
  intro e pw seq t lvl cnt shut down stops
  have hdoes : Does (.thermalConversion temps) s (e.thermConvert temps) :=
    .of_crema (f := fun d => d.thermConvert temps) (exec_thermalConversion s temps) hup
  rw [Dev.thermConvert_eq] at hdoes
  obtain ⟨top, htop, hmax, hthm, hsens, htemp, hsensor, hpeak⟩ := e.thermShown_spec temps
  obtain ⟨hheld, hpwr⟩ := e.thermShown_rest temps
  have hcfg {f : Fld} (hf : f.key ∉ tempKeys) : (e.thermShown temps).fld f = e.fld f := e.thermShown_fld temps hf
  generalize e.thermShown temps = x at *
  have hlvl {f : Fld} (hf : f.key ∉ tempKeys) : x.lvl f = lvl f := by show 4 * (x.fld f : Int) = 4 * (e.fld f : Int); rw [hcfg hf]
  have hseq : x.seq = seq := Dev.seq_congr (hcfg (by decide)) hheld
  have hkeep {f : Fld} (hf : pwrFld f = true) (h : ∀ g ∈ [Reg.PWR_STAT.SEQ, Reg.PWR_STAT.DOWN_CAUSE, Reg.PWR_EVT.THERM_SHUT,
      Reg.PWR_CNT.COUNT 3, Reg.PWR_STAT.THROTTLE, Reg.PWR_CNT.COUNT 2, Reg.PWR_EVT.THERM_WARN], f.key ≠ g.key) :
      x.thermLevels.fld f = x.fld f := x.thermLevels_fld hf h
  obtain ⟨hwarn, hhot, hcool⟩ := x.thermLevels_warn
  obtain ⟨hcalm, hshut, hcrit⟩ := x.thermLevels_act
  obtain ⟨hmh, hmp, hmf⟩ := x.thermMid_leaves
  rw [hthm, hlvl (by decide), hpwr] at hwarn
  rw [hthm, hlvl (by decide), hcfg (by decide), hcfg (by decide), hcfg (by decide)] at hhot
  rw [hthm, hlvl (by decide), hcfg (by decide), hcfg (by decide)] at hcool
  rw [hthm, hlvl (by decide), hlvl (by decide)] at hcalm
  rw [hthm, hlvl (by decide), hlvl (by decide), hseq] at hshut
  rw [hthm, hlvl (by decide)] at hcrit
  have hmseq : x.thermMid.seq = seq := x.thermMid_seq.trans hseq
  obtain ⟨hpw, hap⟩ := tempFlds_level
  refine ⟨_, hdoes, fun q hq => ⟨(hkeep (hpw q hq).1 fun g hg => (hap q hq g hg).1).trans (hsens q hq).1,
    (hkeep (hpw q hq).2 fun g hg => (hap q hq g hg).2).trans (hsens q hq).2⟩, top, htop, hmax,
    (hkeep rfl (by decide)).trans htemp, (hkeep rfl (by decide)).trans hsensor, (hkeep rfl (by decide)).trans hpeak, hwarn, hhot, hcool,
    fun hc hs => ?_, fun hon hc hs => ?_, fun hc => ?_, fun hd hc => ?_, fun hon hc => ?_⟩
  · rw [hcalm hc hs]
    exact ⟨hmh.trans hheld, (hmf _ (by decide) (by decide) (by decide)).trans (hcfg (by decide))⟩
  · obtain ⟨h1, -, -, h2, h3, h4, h5, h6⟩ := x.thermMid.thermShut_spec
    rw [hshut hon hc hs]
    refine ⟨⟨h1.trans (by rw [hmh, hheld]), h2, h3, h5, h6⟩, h4.trans ?_⟩
    rw [hmf _ (by decide) (by decide) (by decide), hcfg (by decide)]
  · rw [hcrit hc]
    exact x.thermMid.powerDown_trigger 3
  · rw [hcrit hc, Dev.powerDown_of_down 3 (hmseq.trans hd)]
    refine ⟨hmh.trans hheld, (Dev.fld_put_same ..).trans ?_⟩
    rw [hmf _ (by decide) (by decide) (by decide), hcfg (by decide)]
    rfl
  · rw [hcrit hc]
    obtain ⟨h1, h2, h3, -⟩ := x.thermMid.powerDown_stops (b := 3) (by decide) (.inr ⟨by decide, hmseq.trans hon⟩)
    exact ⟨⟨h1, h2, h3⟩, x.thermMid.powerDown_top (by decide) (hmseq.trans hon)⟩

end Thermal

variable {d e : Dev}

section Recovery
variable (s : State) (hup : s.dev.cremaUp = true)
include hup

theorem powerRecovery : let e := s.dev
    let pw := e.pwr
    let seq := e.seq
    let seen := pw.sampled = true ∧ pw.debounced = true ∧ pw.hpHigh = false
    let lim := 4 * ((e.fld Reg.PWR_THERM_CFG.SHUT : Int) - e.fld Reg.PWR_THERM_HYST.RECOVER)
    (lim ≤ e.thermMax → Does .thermalRecovery s e) ∧
    (e.thermMax < lim → seq = sqTherm → Effect .thermalRecovery s (fun d => d.held = { e.held with therm := false } ∧
      d.fld Reg.PWR_STAT.SEQ = 2 ∧ bitOf (d.fld Reg.PWR_STAT.GOOD) 2 = true ∧ bitOf (d.fld Reg.PWR_STAT.GOOD) 3 = true ∧
      d.fld Reg.PWR_STAT.STAGE = 4 ∧ d.fld Reg.CHIPCAP_RST_CAUSE.THERMAL = 1)) ∧
    (e.thermMax < lim → seq ≠ sqTherm → bitOf pw.triggers 3 = false → Does .thermalRecovery s e) ∧
    (e.thermMax < lim → seq ≠ sqTherm → bitOf pw.triggers 3 = true → Effect .thermalRecovery s (fun d =>
      d.pwr = { pw with triggers := setBit pw.triggers 3 false } ∧ (seq = sqOff → setBit pw.triggers 3 false = 0 → seen → d.Begins))) := by
  intro e pw seq seen lim
  have hdoes : Does .thermalRecovery s e.thermRecover := .of_crema (exec_thermalRecovery _) hup
  have hpast (h : e.thermMax < lim) : e.thermRecover = if e.seq = sqTherm then
      { (((e.railGood 2 true).railGood 3 true).setSeq sqOn).put Reg.PWR_STAT.STAGE 4 with
        held := { (((e.railGood 2 true).railGood 3 true).setSeq sqOn).held with therm := false } }.cause Reg.CHIPCAP_RST_CAUSE.THERMAL
      else e.iff (bitOf e.pwr.triggers 3) (fun d => (d.setTrigger 3 false).tryUp) := if_pos h
  refine ⟨fun h => ?_, fun h ht => ⟨_, hdoes, ?_⟩, fun h ht hb => ?_, fun h ht hb => ⟨_, hdoes, ?_⟩⟩
  · rwa [Dev.thermRecover, if_neg (not_lt.2 h)] at hdoes
  · rw [hpast h, if_pos ht]
    have hheld : ((e.railGood 2 true).railGood 3 true).held = e.held :=
      (congrArg Dev.held (Dev.railGood_rest _ 3 true) :).trans (congrArg Dev.held (e.railGood_rest 2 true) :)
    have hgood (k : Nat) (hk : k < 8) : bitOf (((e.railGood 2 true).railGood 3 true).fld Reg.PWR_STAT.GOOD) k =
        if k = 3 then true else if k = 2 then true else bitOf (e.fld Reg.PWR_STAT.GOOD) k := by
      rw [Dev.railGood_good, bitOf_mod hk, bitOf_setBit, Dev.railGood_good, bitOf_mod hk, bitOf_setBit]
    generalize (e.railGood 2 true).railGood 3 true = x at hheld hgood
    have hthree {f : Fld} (h1 : f.key ≠ Reg.PWR_STAT.SEQ.key) (h2 : f.key ≠ Reg.PWR_STAT.STAGE.key)
        (h3 : f.key ≠ Reg.CHIPCAP_RST_CAUSE.THERMAL.key) : ({ (x.setSeq sqOn).put Reg.PWR_STAT.STAGE 4 with
          held := { (x.setSeq sqOn).held with therm := false } }.cause Reg.CHIPCAP_RST_CAUSE.THERMAL).fld f = x.fld f :=
      (Dev.put_other _ _ h3).trans ((Dev.put_other _ _ h2).trans (Dev.put_other _ _ h1))
    refine ⟨by rw [← hheld]; rfl, ?_, ?_, ?_, ?_, Dev.fld_put_same ..⟩
    · exact (Dev.put_other _ _ (by decide)).trans ((Dev.put_other _ _ (by decide)).trans (Dev.fld_put_same ..))
    · rw [hthree (by decide) (by decide) (by decide)]
      exact (hgood 2 (by decide)).trans rfl
    · rw [hthree (by decide) (by decide) (by decide)]
      exact (hgood 3 (by decide)).trans rfl
    · exact (Dev.put_other _ _ (by decide)).trans (Dev.fld_put_same ..)
  · rwa [hpast h, if_neg ht, Dev.iff, if_neg (show ¬ bitOf pw.triggers 3 = true by simp [hb])] at hdoes
  · rw [hpast h, if_neg ht, Dev.iff, if_pos hb]
    exact ⟨Dev.tryUp_pwr _, fun hoff h0 hseen => Dev.tryUp_begins hup ⟨hseen, hoff, h0⟩⟩

theorem powerClocks (on : Bool) : let e := s.dev
    let pw := e.pwr
    let tmo := e.fld Reg.PWR_WDOG.TIMEOUT
    Effect (.xtOkChange on) s (fun d => e.Sets d [(Reg.PWR_RTC_SUB.XT_OK, bit on)]) ∧
    (tmo = 0 ∨ pw.wdog < tmo * 1250000 → Does .wdogExpiry s e) ∧
    (tmo ≠ 0 → tmo * 1250000 ≤ pw.wdog → Does .wdogExpiry s
      (({ e with pwr := { pw with wdog := 0 } } : Dev).warmReset Reg.CHIPCAP_RST_CAUSE.WATCHDOG)) := by
  intro e pw tmo
  have hdoes : Does .wdogExpiry s e.wdogExpiry := .of_crema (exec_wdogExpiry _) hup
  refine ⟨⟨e.xtOk on, .of_crema (exec_xtOkChange ..) hup, ?_⟩, fun h => ?_, fun h0 h => ?_⟩
  · exact (Dev.Sets.nil e).put_of_lt Reg.PWR_RTC_SUB.XT_OK (bit_lt on) (by simp)
  · rwa [Dev.wdogExpiry, if_pos h] at hdoes
  · rwa [Dev.wdogExpiry, if_neg (by rintro (h' | h'); exacts [h0 h', absurd h' (Nat.not_lt.2 h)])] at hdoes

end Recovery

/-! ### Gates of the slices -/

theorem Dev.setWake_gate (d : Dev) (w : WakeSt) : (d.setWake w).wake = w ∧ (d.setWake w).fld Reg.PWR_GATE.SLICE = d.fld Reg.PWR_GATE.SLICE :=
  ⟨rfl, Dev.put_other _ _ (by decide)⟩

/-- A bit of a gate's write. -/
def Dev.gateBit (v was : Nat) (d : Dev) (k : Nat) : Dev :=
  if bitOf v k then ({ d with wake := { d.wake with off := setBit d.wake.off k true } }).wakeDrop (232 + k)
  else d.iff (bitOf was k) (·.wakeAsk (232 + k))

theorem Dev.gateBit_spec (v was : Nat) (d : Dev) (k : Nat) : (d.gateBit v was k).fld Reg.PWR_GATE.SLICE = d.fld Reg.PWR_GATE.SLICE ∧
    (d.gateBit v was k).wake.off = if bitOf v k then setBit d.wake.off k true else d.wake.off := by
  unfold Dev.gateBit Dev.iff Dev.wakeAsk Dev.wakeDrop
  split
  · exact ⟨(Dev.setWake_gate _ _).2, rfl⟩
  · split
    · dsimp only
      split
      · exact ⟨rfl, rfl⟩
      · exact ⟨(Dev.setWake_gate _ _).2, rfl⟩
    · exact ⟨rfl, rfl⟩

theorem Dev.gateBits_spec (v was : Nat) (l : List Nat) (d : Dev) :
    (d.each l (Dev.gateBit v was)).fld Reg.PWR_GATE.SLICE = d.fld Reg.PWR_GATE.SLICE ∧
      ∀ q, bitOf d.wake.off q = true ∨ q ∈ l ∧ bitOf v q = true → bitOf (d.each l (Dev.gateBit v was)).wake.off q = true := by
  induction l generalizing d with
  | nil => exact ⟨rfl, fun q h => h.elim id fun h => absurd h.1 (by simp)⟩
  | cons k r ih =>
    obtain ⟨hf, hoff⟩ := Dev.gateBit_spec v was d k
    obtain ⟨hf', hoff'⟩ := ih (d.gateBit v was k)
    refine ⟨hf'.trans hf, fun q hq => hoff' q ?_⟩
    rw [hoff]
    by_cases hk : q = k
    · subst hk
      left
      split
      · exact bitOf_setBit_same _ _
      · rcases hq with h | ⟨-, h⟩
        · exact h
        · contradiction
    · rcases hq with h | ⟨h, hv⟩
      · left
        split
        · rwa [bitOf_setBit, if_neg hk]
        · exact h
      · exact .inr ⟨(List.mem_cons.1 h).resolve_left hk, hv⟩

theorem Dev.gateWrite_eq (d : Dev) (v : Nat) :
    d.gateWrite v = (d.put Reg.PWR_GATE.SLICE v).each (List.range 4) (Dev.gateBit v (d.fld Reg.PWR_GATE.SLICE)) := rfl

theorem Dev.gateBits_none {v was : Nat} {l : List Nat} (h : ∀ k ∈ l, bitOf v k = false ∧ bitOf was k = false) (d : Dev) :
    d.each l (Dev.gateBit v was) = d := by
  induction l generalizing d with
  | nil => rfl
  | cons k r ih =>
    obtain ⟨⟨hv, hw⟩, hr⟩ := List.forall_mem_cons.1 h
    have hk : d.gateBit v was k = d := by simp [Dev.gateBit, Dev.iff, hv, hw]
    show (d.gateBit v was k).each r (Dev.gateBit v was) = d
    rw [hk]
    exact ih hr d

/-! ### Writes of PWR.CTRL -/

theorem bits_or_one (v : Word) {i w : Nat} (hi : i ≠ 0) : bits (v ||| 1#32).toNat i w = bits v.toNat i w := by
  have h : (v ||| 1#32).toNat / 2 ^ i = v.toNat / 2 ^ i := by
    rw [BitVec.toNat_or, ← Nat.shiftRight_eq_div_pow, ← Nat.shiftRight_eq_div_pow, Nat.shiftRight_or_distrib]
    have h1 : (1#32).toNat >>> i = 0 := by
      rw [Nat.shiftRight_eq_div_pow]
      exact Nat.div_eq_of_lt (Nat.one_lt_two_pow hi)
    rw [h1, Nat.or_zero]
  rw [bits, bits, h]

theorem bitOf_or_one (v : Word) : bitOf (v ||| 1#32).toNat 0 = true := by
  rw [bitOf_or]
  simp [bitOf]

/-- What a write of PWR.CTRL does before OFF. -/
def Dev.throtWrite (d : Dev) (x : Nat) : Dev :=
  (d.put Reg.PWR_CTRL.THROT_EN (x / 2)).iff (!bitOf x 1) (·.put Reg.PWR_STAT.THROTTLE 0)

theorem Dev.throtWrite_sets (d : Dev) (x : Nat) : d.Sets (d.throtWrite x)
    ((Reg.PWR_CTRL.THROT_EN, x / 2 % 2) :: if bits x 1 1 = 0 then [(Reg.PWR_STAT.THROTTLE, 0)] else []) := by
  have hone := Dev.Sets.put_one d Reg.PWR_CTRL.THROT_EN (x / 2)
  have hb : (!bitOf x 1) = true ↔ bits x 1 1 = 0 := by
    rw [bits_one_eq]
    cases bitOf x 1 <;> simp [bit]
  unfold Dev.throtWrite Dev.iff
  by_cases h : bits x 1 1 = 0
  · rw [if_pos (hb.2 h), if_pos h]
    exact (hone.put_of_lt Reg.PWR_STAT.THROTTLE (v := 0) (by decide) (by simp +decide)).of_mem_iff fun y => by
      simp only [List.mem_cons]; tauto
  · rw [if_neg (fun h' => h (hb.1 h')), if_neg h]
    exact hone

theorem Dev.pwrCtrl_off (d : Dev) (v : Word) : d.pwrCtrl (v ||| 1#32).toNat =
    if bits v.toNat 16 16 = 0x5AA5 then (d.throtWrite v.toNat).powerDown 1 else d.throtWrite v.toNat := by
  have hdiv : (v ||| 1#32).toNat / 2 = v.toNat / 2 := by
    have h := Nat.shiftRight_or_distrib (a := v.toNat) (b := 1) (i := 1)
    rw [BitVec.toNat_or]
    simpa [Nat.shiftRight_eq_div_pow] using h
  have h1 : bitOf (v ||| 1#32).toNat 1 = bitOf v.toNat 1 := by
    rw [bitOf, bitOf, Nat.pow_one, hdiv]
  rw [Dev.pwrCtrl, h1, hdiv, bits_or_one v (by decide), bitOf_or_one, Bool.true_and]
  simp only [Dev.iff, beq_iff_eq, Dev.throtWrite]

section Writes
variable (s : State) (hm : s.dev.mainUp = true) (hu : s.dev.unit 19 = true)
include hm hu

theorem powerSetPoint (m : Master) (r : Fin 6) (v : Word) : let e := s.dev
    let x := v.toNat
    (9 * railNominal r ≤ 10 * (x % 2 ^ 11) → 10 * (x % 2 ^ 11) ≤ 11 * railNominal r →
        Effect (.vsetWrite m r v) s (fun d => e.Sets d [(Reg.PWR_RAIL_VSET.VSET r, x % 2 ^ 11)])) ∧
      (10 * (x % 2 ^ 11) < 9 * railNominal r ∨ 11 * railNominal r < 10 * (x % 2 ^ 11) →
        Effect (.vsetWrite m r v) s (fun d => e.Sets d [(Reg.PWR_EVT.CFG_REJ, 1)])) := by
  intro e x
  have hdoes : Does (.vsetWrite m r v) s (e.vsetWrite r (x % 2 ^ 11)) :=
    .of_main_eq (exec_vsetWrite ..) hm (e.poke_PWR_RAIL_VSET m r v hu)
  have hx : x % 2 ^ 11 % 2 ^ 11 = x % 2 ^ 11 := Nat.mod_mod _ _
  refine ⟨fun h1 h2 => ⟨_, hdoes, ?_⟩, fun h => ⟨_, hdoes, ?_⟩⟩
  · simp only [Dev.vsetWrite, hx]
    rw [if_pos ⟨h1, h2⟩]
    exact (Dev.Sets.nil e).put_of_lt (Reg.PWR_RAIL_VSET.VSET r) (show x % 2 ^ 11 < 2 ^ 11 from Nat.mod_lt _ (by decide)) (by simp)
  · simp only [Dev.vsetWrite, hx]
    rw [if_neg (by omega)]
    exact Dev.Sets.put_one e Reg.PWR_EVT.CFG_REJ 1

theorem powerOff (m : Master) (v : Word) : let e := s.dev
    let x := v.toNat
    let throt := (Reg.PWR_CTRL.THROT_EN, x / 2 % 2) :: if bits x 1 1 = 0 then [(Reg.PWR_STAT.THROTTLE, 0)] else []
    (bits x 16 16 ≠ 0x5AA5 → Effect (.pwrOff m v) s (fun d => e.Sets d throt)) ∧
      (bits x 16 16 = 0x5AA5 → Effect (.pwrOff m v) s (fun d => bitOf d.pwr.triggers 1 = true)) ∧
      (bits x 16 16 = 0x5AA5 → e.seq = sqOn → Effect (.pwrOff m v) s (fun d => (d.fld Reg.PWR_STAT.SEQ = 3 ∧
        d.fld Reg.PWR_STAT.DOWN_CAUSE = 2 ^ 1 ∧ bitOf d.pwr.triggers 1 = true) ∧ d.held.rails = true ∧ d.pwr.downStage = 6 ∧
        bitOf (d.fld Reg.PWR_STAT.GOOD) 6 = false ∧ d.fld Reg.CHIPCAP_RST_CAUSE.COLD = 1 ∧ d.pwr.grace = false)) := by
  intro e x throt
  have hdoes : Does (.pwrOff m v) s (e.pwrCtrl (v ||| 1#32).toNat) := .of_main_eq (exec_pwrOff ..) hm (e.poke_PWR_CTRL m _ hu)
  rw [Dev.pwrCtrl_off] at hdoes
  have hsets := e.throtWrite_sets x
  refine ⟨fun h => ⟨_, hdoes, ?_⟩, fun h => ⟨_, hdoes, ?_⟩, fun h hon => ⟨_, hdoes, ?_⟩⟩
  · rw [if_neg h]
    exact hsets
  · rw [if_pos h]
    exact Dev.powerDown_trigger _ 1
  · have hseq : (e.throtWrite x).seq = sqOn := by
      refine (Dev.seq_congr (hsets.1.fld_eq ?_) (congrArg Dev.held hsets.2 :)).trans hon
      split <;> simp +decide
    rw [if_pos h]
    obtain ⟨h1, h2, h3, -⟩ := (e.throtWrite x).powerDown_stops (b := 1) (by decide) (.inr ⟨by decide, hseq⟩)
    exact ⟨⟨h1, h2, h3⟩, Dev.powerDown_top (by decide) hseq⟩

theorem powerGate (m : Master) (v : Word) : let e := s.dev
    let x := v.toNat
    Effect (.sliceGate m v) s (fun d => d.fld Reg.PWR_GATE.SLICE = x % 16 ∧ ∀ q < 4, bitOf x q = true → bitOf d.wake.off q = true) ∧
      (x % 16 = 0 → e.fld Reg.PWR_GATE.SLICE = 0 → Effect (.sliceGate m v) s (fun d => e.Sets d [(Reg.PWR_GATE.SLICE, 0)])) := by
  intro e x
  have hdoes : Does (.sliceGate m v) s (e.gateWrite x) := .of_main_eq (exec_sliceGate ..) hm (e.poke_PWR_GATE m v hu)
  rw [Dev.gateWrite_eq] at hdoes
  refine ⟨⟨_, hdoes, ?_⟩, fun h0 hw => ⟨_, hdoes, ?_⟩⟩
  · obtain ⟨hf, hoff⟩ := Dev.gateBits_spec x (e.fld Reg.PWR_GATE.SLICE) (List.range 4) (e.put Reg.PWR_GATE.SLICE x)
    exact ⟨hf.trans (Dev.fld_put_same ..), fun q hq hb => hoff q (.inr ⟨List.mem_range.2 hq, hb⟩)⟩
  · rw [hw, Dev.gateBits_none fun k hk => ⟨?_, by simp [bitOf]⟩]
    · have hput := Dev.Sets.put_one e Reg.PWR_GATE.SLICE x
      rwa [show x % 2 ^ Reg.PWR_GATE.SLICE.w = 0 from h0] at hput
    · have hk4 : k < 4 := List.mem_range.1 hk
      rw [← bitOf_mod (n := 4) hk4, show x % 2 ^ 4 = 0 from h0]
      simp [bitOf]

theorem powerWatch (m : Master) (v : Word) (timeout : BitVec 16) : let e := s.dev
    let pw := e.pwr
    let x := v.toNat
    let fed : Dev := { e with pwr := { pw with wdog := 0 } }
    let restarts := bits x 16 16 = 0x5A5A ∨ bits x 16 16 = 0 ∨ x % 2 ^ 16 ≠ e.fld Reg.PWR_WDOG.TIMEOUT
    Effect (.rtcSecWrite m v) s (fun d => ({ e with pwr := { pw with rtc := 0 } } : Dev).Sets d
        [(Reg.PWR_RTC_SEC.SEC, x), (Reg.PWR_RTC_SUB.SUB, 0)]) ∧
      Effect (.wdogKick m timeout) s (fun d => fed.Sets d [(Reg.PWR_WDOG.TIMEOUT, timeout.toNat)]) ∧
      (restarts → Effect (.wdogTimeoutWrite m v) s (fun d => fed.Sets d [(Reg.PWR_WDOG.TIMEOUT, x % 2 ^ 16)])) ∧
      (¬ restarts → Effect (.wdogTimeoutWrite m v) s (fun d => e.Sets d [(Reg.PWR_WDOG.TIMEOUT, x % 2 ^ 16)])) := by
  intro e pw x fed restarts
  have hrtc : Does (.rtcSecWrite m v) s (e.rtcWrite x) := .of_main_eq (exec_rtcSecWrite ..) hm (e.poke_PWR_RTC_SEC m v hu)
  have hkick : Does (.wdogKick m timeout) s (e.wdogWrite (0x5A5A#16 ++ timeout).toNat) :=
    .of_main_eq (exec_wdogKick ..) hm (e.poke_PWR_WDOG m _ hu)
  have hwdog : Does (.wdogTimeoutWrite m v) s (e.wdogWrite x) := .of_main_eq (exec_wdogTimeoutWrite ..) hm (e.poke_PWR_WDOG m v hu)
  have heq (y : Nat) : e.wdogWrite y = if (bits y 16 16 == 0x5A5A || bits y 16 16 == 0 || y % 2 ^ 16 != e.fld Reg.PWR_WDOG.TIMEOUT) = true then
      fed.put Reg.PWR_WDOG.TIMEOUT y else e.put Reg.PWR_WDOG.TIMEOUT y := rfl
  have hcond : (bits x 16 16 == 0x5A5A || bits x 16 16 == 0 || x % 2 ^ 16 != e.fld Reg.PWR_WDOG.TIMEOUT) = true ↔ restarts := by
    simp only [Bool.or_eq_true, beq_iff_eq, bne_iff_ne, restarts, or_assoc]
  refine ⟨⟨_, hrtc, ?_⟩, ⟨_, hkick, ?_⟩, fun h => ⟨_, hwdog, ?_⟩, fun h => ⟨_, hwdog, ?_⟩⟩
  · let y : Dev := { e with pwr := { pw with rtc := 0 } }
    exact (((Dev.Sets.nil y).put_of_lt Reg.PWR_RTC_SEC.SEC v.isLt (by simp)).put_of_lt Reg.PWR_RTC_SUB.SUB (v := 0) (by decide)
      (by simp +decide)).of_mem_iff fun z => by simp only [List.mem_cons]; tauto
  · have hcat : (0x5A5A#16 ++ timeout).toNat = 0x5A5A * 2 ^ 16 + timeout.toNat := by
      rw [BitVec.toNat_append, ← Nat.shiftLeft_add_eq_or_of_lt timeout.isLt, Nat.shiftLeft_eq]
      rfl
    have hlt := timeout.isLt
    have hk : bits (0x5A5A#16 ++ timeout).toNat 16 16 = 0x5A5A := by rw [hcat, bits]; omega
    rw [heq, if_pos (by simp [hk])]
    have hput := Dev.Sets.put_one fed Reg.PWR_WDOG.TIMEOUT (0x5A5A#16 ++ timeout).toNat
    rwa [show (0x5A5A#16 ++ timeout).toNat % 2 ^ Reg.PWR_WDOG.TIMEOUT.w = timeout.toNat by
      rw [hcat, show Reg.PWR_WDOG.TIMEOUT.w = 16 from rfl]; omega] at hput
  · rw [heq, if_pos (hcond.2 h)]
    exact Dev.Sets.put_one fed Reg.PWR_WDOG.TIMEOUT x
  · rw [heq, if_neg (hcond.not.2 h)]
    exact Dev.Sets.put_one e Reg.PWR_WDOG.TIMEOUT x

end Writes

variable {d e : Dev}

/-- Settles O58: each command by its own function, whose effect on the sequencer, the rails and the Crema registers the lemmas
above state. -/
theorem powerAndThermal : Obligations.PowerAndThermal := by
  intro s dt m fitted k code r strap free on temps v timeout hup
  obtain ⟨a1, a2⟩ := powerPhases s hup fitted
  obtain ⟨b1, b2, b3⟩ := powerDebounce s hup
  obtain ⟨c1, c2⟩ := powerStage s hup
  obtain ⟨r1, r2, r3⟩ := powerRail s hup k strap
  obtain ⟨f1, f2⟩ := powerFault s hup k code free
  obtain ⟨y1, y2, y3⟩ := powerRetry s hup
  obtain ⟨o1, o2⟩ := powerCardOut s hup
  obtain ⟨p1, p2, p3, p4, p5⟩ := powerDownStages s hup
  obtain ⟨q1, q2⟩ := powerOffHold s hup
  obtain ⟨g1, g2⟩ := powerGaspRaise s hup dt
  obtain ⟨w1, w2, w3⟩ := powerGaspWithdraw s hup
  obtain ⟨v1, v2, v3, v4⟩ := powerRecovery s hup
  obtain ⟨x1, x2, x3⟩ := powerClocks s hup on
  refine ⟨a1, a2, b1, b2, b3, c1, c2, r1, r2, r3, f1, f2, y1, y2, y3, o1, o2, powerCardIn s hup, p1, p2, p3, p4, p5, q1, q2, g1, g2,
    w1, w2, w3, powerThermal s hup temps, v1, v2, v3, v4, x1, x2, x3, fun hm hu => ?_⟩
  obtain ⟨s1, s2⟩ := powerSetPoint s hm hu m r v
  obtain ⟨u1, u2, u3⟩ := powerOff s hm hu m v
  obtain ⟨z1, z2⟩ := powerGate s hm hu m v
  obtain ⟨t1, t2, t3, t4⟩ := powerWatch s hm hu m v timeout
  exact ⟨s1, s2, u1, u2, u3, z1, z2, t1, t2, t3, t4⟩

end Sys2Proof.Machine
end

section
/-!
PROOFS. O48: the detectors, equalisers, eye monitors and pattern checkers of serial lanes (Machine/Phy.lean). The registers of a
lane are apart from each other; a report writes them one after the other, some only where a condition holds (`Dev.Wrote`).
-/
namespace Sys2Proof.Machine

variable {d e : Dev} {F : List Fld} {l : List (Fld × Nat)}

/-! ### Writes that stand under conditions -/

/-- `e` has of `d` the registers but for `l`, which writes fields of `F` only. -/
def Dev.Wrote (F : List Fld) (d e : Dev) (l : List (Fld × Nat)) : Prop := d.Regs e l ∧ ∀ x ∈ l, x.1 ∈ F

theorem Dev.Wrote.nil (d : Dev) : Dev.Wrote [] d d [] := ⟨.nil d, by simp⟩

theorem Dev.Wrote.not_mem (h : Dev.Wrote F d e l) {f : Fld} (hf : f.key ∉ F.map Fld.key) : f.key ∉ l.map (·.1.key) := fun hm => by
  obtain ⟨x, hx, hk⟩ := List.mem_map.1 hm
  exact hf (hk ▸ List.mem_map_of_mem (h.2 x hx))

theorem Dev.Wrote.fld_eq (h : Dev.Wrote F d e l) {f : Fld} (hf : f.key ∉ F.map Fld.key) : e.fld f = d.fld f := h.1.fld_eq (h.not_mem hf)

theorem Dev.Wrote.put_if (h : Dev.Wrote F d e l) (c : Prop) [Decidable c] (f : Fld) {v : Nat} (hv : v < 2 ^ f.w) (hf : f.key ∉ F.map Fld.key)
    {e' : Dev} (he : e' = if c then e.put f v else e) : Dev.Wrote (f :: F) d e' (l ++ if c then [(f, v)] else []) := by
  subst he
  split
  · refine ⟨(h.1.trans ((Dev.Sets.nil e).put_of_lt f hv (by simp)).1 fun x hx y hy hk => ?_), fun x hx => ?_⟩
    · rw [List.mem_singleton.1 hy] at hk
      exact h.not_mem hf (hk ▸ List.mem_map_of_mem (f := fun y : Fld × Nat => y.1.key) hx)
    · rcases List.mem_append.1 hx with hx | hx
      · exact List.mem_cons_of_mem _ (h.2 x hx)
      · rw [List.mem_singleton.1 hx]
        exact List.mem_cons_self
  · rw [List.append_nil]
    exact ⟨h.1, fun x hx => List.mem_cons_of_mem _ (h.2 x hx)⟩

theorem Dev.Wrote.put (h : Dev.Wrote F d e l) (f : Fld) {v : Nat} (hv : v < 2 ^ f.w) (hf : f.key ∉ F.map Fld.key) :
    Dev.Wrote (f :: F) d (e.put f v) (l ++ [(f, v)]) := h.put_if True f hv hf (if_pos trivial).symm

theorem Dev.Wrote.bump_if (h : Dev.Wrote F d e l) (c : Prop) [Decidable c] (f : Fld) (k : Nat) (hf : f.key ∉ F.map Fld.key)
    {e' : Dev} (he : e' = if c then e.bumpBy f k else e) :
    Dev.Wrote (f :: F) d e' (l ++ if c then [(f, min (2 ^ f.w - 1) (d.fld f + k))] else []) := by
  have hpos : 0 < 2 ^ f.w := Nat.two_pow_pos _
  refine h.put_if c f (by omega) hf (he.trans ?_)
  rw [Dev.bumpBy, h.fld_eq hf]

theorem Dev.Wrote.same (h : Dev.Wrote F d e l) {e' : Dev} (he : e'.regs = e.regs) : Dev.Wrote F d e' l :=
  ⟨⟨fun x hx => by rw [← h.1.1 x hx, Dev.fld, he]; rfl, fun k hk => by rw [← h.1.2 k hk, he]⟩, h.2⟩

/-! ### The registers of a lane -/

/-- The key of the first bit of a lane's registers. -/
def laneBase (x : SerLane) : Nat := 32 * laneReg x 0

theorem laneBase_sub (n : Fin 112) : laneBase (.sub n) = 32 * (0x1800000 + n * 0x4000) := rfl

theorem laneBase_riser (p : Fin 4) (l : Fin 2) : laneBase (.riser p l) = 32 * (0x1C30100 + 0x40000 * p + 0x100 * l) := rfl

/-- A field of both kinds of lane at the same place of the lane's registers (R284). -/
theorem laneFld_key {f : Nat → Fld} {g : Nat → Nat → Fld} {a lo : Nat} (hf : ∀ n, (f n).adr = 0x1800000 + a + n * 0x4000 ∧ (f n).lo = lo)
    (hg : ∀ p l, (g p l).adr = 0x1C30100 + a + p * 0x40000 + l * 0x100 ∧ (g p l).lo = lo) (x : SerLane) :
    (laneFld f g x).key = laneBase x + (32 * a + lo) := by
  cases x with
  | sub n =>
    obtain ⟨ha, hl⟩ := hf n
    simp only [laneFld, Fld.key, ha, hl, laneBase_sub]
    omega
  | riser p l =>
    obtain ⟨ha, hl⟩ := hg p l
    simp only [laneFld, Fld.key, ha, hl, laneBase_riser]
    omega

@[simp] theorem laneKey_signal (x : SerLane) : (laneFld Reg.SL_STAT.SIGNAL Reg.RP_LANE_STAT.SIGNAL x).key = laneBase x + 256 :=
  laneFld_key (a := 8) (lo := 0) (fun _ => ⟨rfl, rfl⟩) (fun _ _ => ⟨rfl, rfl⟩) x

@[simp] theorem laneKey_cdrLock (x : SerLane) : (laneFld Reg.SL_STAT.CDR_LOCK Reg.RP_LANE_STAT.CDR_LOCK x).key = laneBase x + 257 :=
  laneFld_key (a := 8) (lo := 1) (fun _ => ⟨rfl, rfl⟩) (fun _ _ => ⟨rfl, rfl⟩) x

@[simp] theorem laneKey_sync (x : SerLane) : (laneFld Reg.SL_STAT.SYNC Reg.RP_LANE_STAT.SYNC x).key = laneBase x + 258 :=
  laneFld_key (a := 8) (lo := 2) (fun _ => ⟨rfl, rfl⟩) (fun _ _ => ⟨rfl, rfl⟩) x

@[simp] theorem laneKey_patErr (x : SerLane) : (laneFld Reg.SL_PAT_ERR.PAT_ERR Reg.RP_LANE_PAT_ERR.PAT_ERR x).key = laneBase x + 1920 :=
  laneFld_key (a := 60) (lo := 0) (fun _ => ⟨rfl, rfl⟩) (fun _ _ => ⟨rfl, rfl⟩) x

@[simp] theorem laneKey_adaptDone (x : SerLane) : (laneFld Reg.SL_RXEQ_STAT.ADAPT_DONE Reg.RP_LANE_RXEQ_STAT.ADAPT_DONE x).key = laneBase x + 768 :=
  laneFld_key (a := 24) (lo := 0) (fun _ => ⟨rfl, rfl⟩) (fun _ _ => ⟨rfl, rfl⟩) x

@[simp] theorem laneKey_ctleNow (x : SerLane) : (laneFld Reg.SL_RXEQ_STAT.CTLE_NOW Reg.RP_LANE_RXEQ_STAT.CTLE_NOW x).key = laneBase x + 769 :=
  laneFld_key (a := 24) (lo := 1) (fun _ => ⟨rfl, rfl⟩) (fun _ _ => ⟨rfl, rfl⟩) x

@[simp] theorem laneKey_dfe1 (x : SerLane) : (laneFld Reg.SL_RXEQ_STAT.DFE1 Reg.RP_LANE_RXEQ_STAT.DFE1 x).key = laneBase x + 773 :=
  laneFld_key (a := 24) (lo := 5) (fun _ => ⟨rfl, rfl⟩) (fun _ _ => ⟨rfl, rfl⟩) x

@[simp] theorem laneKey_pre (x : SerLane) : (laneFld Reg.SL_TXEQ.PRE Reg.RP_LANE_TXEQ.PRE x).key = laneBase x + 512 :=
  laneFld_key (a := 16) (lo := 0) (fun _ => ⟨rfl, rfl⟩) (fun _ _ => ⟨rfl, rfl⟩) x

@[simp] theorem laneKey_main (x : SerLane) : (laneFld Reg.SL_TXEQ.MAIN Reg.RP_LANE_TXEQ.MAIN x).key = laneBase x + 516 :=
  laneFld_key (a := 16) (lo := 4) (fun _ => ⟨rfl, rfl⟩) (fun _ _ => ⟨rfl, rfl⟩) x

@[simp] theorem laneKey_post (x : SerLane) : (laneFld Reg.SL_TXEQ.POST Reg.RP_LANE_TXEQ.POST x).key = laneBase x + 522 :=
  laneFld_key (a := 16) (lo := 10) (fun _ => ⟨rfl, rfl⟩) (fun _ _ => ⟨rfl, rfl⟩) x

@[simp] theorem laneKey_polInv (x : SerLane) : (laneFld Reg.SL_TXEQ.POL_INV Reg.RP_LANE_TXEQ.POL_INV x).key = laneBase x + 527 :=
  laneFld_key (a := 16) (lo := 15) (fun _ => ⟨rfl, rfl⟩) (fun _ _ => ⟨rfl, rfl⟩) x

@[simp] theorem laneKey_phase (x : SerLane) : (laneFld Reg.SL_EYE_CTRL.PHASE Reg.RP_LANE_EYE_CTRL.PHASE x).key = laneBase x + 1024 :=
  laneFld_key (a := 32) (lo := 0) (fun _ => ⟨rfl, rfl⟩) (fun _ _ => ⟨rfl, rfl⟩) x

@[simp] theorem laneKey_volt (x : SerLane) : (laneFld Reg.SL_EYE_CTRL.VOLT Reg.RP_LANE_EYE_CTRL.VOLT x).key = laneBase x + 1030 :=
  laneFld_key (a := 32) (lo := 6) (fun _ => ⟨rfl, rfl⟩) (fun _ _ => ⟨rfl, rfl⟩) x

@[simp] theorem laneKey_log2 (x : SerLane) : (laneFld Reg.SL_EYE_CTRL.LOG2_BITS Reg.RP_LANE_EYE_CTRL.LOG2_BITS x).key = laneBase x + 1037 :=
  laneFld_key (a := 32) (lo := 13) (fun _ => ⟨rfl, rfl⟩) (fun _ _ => ⟨rfl, rfl⟩) x

@[simp] theorem laneKey_eyeDone (x : SerLane) : (laneFld Reg.SL_EYE_STAT.DONE Reg.RP_LANE_EYE_STAT.DONE x).key = laneBase x + 1152 :=
  laneFld_key (a := 36) (lo := 0) (fun _ => ⟨rfl, rfl⟩) (fun _ _ => ⟨rfl, rfl⟩) x

@[simp] theorem laneKey_eyeErrors (x : SerLane) : (laneFld Reg.SL_EYE_STAT.ERRORS Reg.RP_LANE_EYE_STAT.ERRORS x).key = laneBase x + 1153 :=
  laneFld_key (a := 36) (lo := 1) (fun _ => ⟨rfl, rfl⟩) (fun _ _ => ⟨rfl, rfl⟩) x

@[simp] theorem laneKey_patSync (x : SerLane) : (patSync x).key = laneBase x + 264 :=
  laneFld_key (a := 8) (lo := 8) (fun _ => ⟨rfl, rfl⟩) (fun _ _ => ⟨rfl, rfl⟩) x

variable {d e : Dev} {F : List Fld} {l : List (Fld × Nat)}

/-! ### Reports of a lane -/

theorem Dev.Wrote.sets (h : Dev.Wrote F d e l) (hr : { e with regs := d.regs } = d) : d.Sets e l := ⟨h.1, hr⟩

theorem laneBit_lt {f : Nat → Fld} {g : Nat → Nat → Fld} (hf : ∀ n, (f n).w = 1) (hg : ∀ p l, (g p l).w = 1) (x : SerLane) (b : Bool) :
    bit b < 2 ^ (laneFld f g x).w := by
  cases x with
  | sub n => exact (bit_lt b).trans_le (by simp [laneFld, hf])
  | riser p l => exact (bit_lt b).trans_le (by simp [laneFld, hg])

theorem Dev.Wrote.put_mod (h : Dev.Wrote F d e l) (f : Fld) (v : Nat) (hf : f.key ∉ F.map Fld.key) :
    Dev.Wrote (f :: F) d (e.put f v) (l ++ [(f, v % 2 ^ f.w)]) :=
  h.put_if True f (Nat.mod_lt _ (Nat.two_pow_pos _)) hf (by rw [if_pos trivial, ← Dev.put_mod])

theorem Dev.Wrote.to_regs (h : Dev.Wrote F d e l) {l' : List (Fld × Nat)} (hl : ∀ x, x ∈ l' ↔ x ∈ l) : d.Regs e l' := h.1.of_mem_iff hl

theorem Dev.emptyReport (s : State) (hup : s.dev.mainUp = true) (x : SerLane) (on sync hiBer fec cdr : Bool) (corr unc ctle dfe errs : Nat)
    (h : ¬ s.dev.laneHere x = true) : ∀ i ∈ [Instr.signalDetectChange x on, .laneSyncChange x sync hiBer fec cdr ⟨corr, unc⟩ errs,
      .slAdaptDone x ctle dfe, .patSyncGain x, .patSyncLoss x errs], Does i s s.dev := by
  have hf : s.dev.laneHere x = false := by simpa using h
  simp only [List.mem_cons, List.not_mem_nil, or_false, forall_eq_or_imp, forall_eq]
  refine ⟨.of_main_eq (exec_signalDetectChange ..) hup ?_, .of_main_eq (exec_laneSyncChange ..) hup ?_, .of_main_eq (exec_slAdaptDone ..) hup ?_,
    .of_main_eq (exec_patSyncGain ..) hup ?_, .of_main_eq (exec_patSyncLoss ..) hup ?_⟩
  · exact if_neg h
  · simp [Dev.laneSync, hf]
  · simp [Dev.laneAdapted, hf]
  · simp [Dev.patGain, hf]
  · simp [Dev.patLost, hf]

/-- A source that waits is asked for once more: it stands behind those of earlier cycles. -/
theorem wakeInsert_length {k : Nat} {q : List (Nat × Nat)} (h : q.any (fun e => e.1 == k) = false) : (wakeInsert k q).length = q.length + 1 := by
  have hne : ∀ e ∈ q, e.1 ≠ k := by simpa using h
  have hsplit (r : List (Nat × Nat)) (hr : ∀ e ∈ r, e.1 ≠ k) :
      (r.filter fun e => decide (e.1 < k)).length + (r.filter fun e => decide (k < e.1)).length = r.length := by
    have hn : (r.filter fun e => decide (k < e.1)) = r.filter fun e => !decide (e.1 < k) := by
      refine List.filter_congr fun e he => ?_
      have := hr e he
      by_cases hlt : e.1 < k
      · simp [hlt]; omega
      · simp [hlt]; omega
    rw [hn]
    exact (List.length_eq_length_filter_add fun e : Nat × Nat => decide (e.1 < k)).symm
  have hnow := hsplit (q.filter fun e => e.2 == 0) fun e he => hne e (List.mem_filter.1 he).1
  have hq := List.length_eq_length_filter_add (l := q) fun e : Nat × Nat => e.2 == 0
  have hbne : (q.filter fun e => e.2 != 0) = q.filter fun e => !(e.2 == 0) := rfl
  simp only [wakeInsert, List.length_append, List.length_cons, List.length_nil, hbne]
  omega

theorem Dev.wakeAsk_new {k : Nat} (h : d.wake.queue.any (fun e => e.1 == k) = false) (hg : k ∉ d.wake.granted) :
    { d with wake := { d.wake with queue := wakeInsert k d.wake.queue } }.Sets (d.wakeAsk k)
      [(Reg.PWR_WAKE_STAT.QUEUED, (d.wake.queue.length + 1) % 256)] := by
  have heq : d.wakeAsk k = d.setWake { d.wake with queue := wakeInsert k d.wake.queue } := if_neg (by simp only [h, Bool.false_or, List.contains_iff_mem]; exact hg)
  rw [heq, ← wakeInsert_length h]
  exact Dev.Sets.put_one _ _ _

theorem Dev.wakeAsk_again {k : Nat} (h : ¬ (d.wake.queue.any (fun e => e.1 == k) = false ∧ k ∉ d.wake.granted)) : d.wakeAsk k = d := by
  refine if_pos ?_
  rw [Bool.or_eq_true, List.contains_iff_mem]
  by_cases hg : k ∈ d.wake.granted
  · exact .inr hg
  · exact .inl (by by_contra hq; exact h ⟨Bool.eq_false_iff.2 hq, hg⟩)

theorem queued_apart_lane (x : SerLane) {f : Fld} {c : Nat} (hf : f.key = laneBase x + c) : f.key ≠ Reg.PWR_WAKE_STAT.QUEUED.key := by
  rw [hf]
  cases x with
  | sub n => simp only [laneBase_sub, Fld.key, Reg.PWR_WAKE_STAT.QUEUED]; omega
  | riser p l => simp only [laneBase_riser, Fld.key, Reg.PWR_WAKE_STAT.QUEUED]; omega

section Reports
variable (s : State) (hup : s.dev.mainUp = true)
include hup

theorem laneSignal_riser (p : Fin 4) (l : Fin 2) (on : Bool) (h : s.dev.laneHere (.riser p l) = true) :
    Effect (.signalDetectChange (.riser p l) on) s (fun d => s.dev.Sets d [(Reg.RP_LANE_STAT.SIGNAL p l, bit on)]) :=
  Effect.of_main_eq hup ((Dev.Sets.nil s.dev).put_of_lt (Reg.RP_LANE_STAT.SIGNAL p l) (bit_lt on) (by simp))
    (exec_signalDetectChange ..) (if_pos h)

theorem laneSignal_sub (n : Fin 112) (on : Bool) (h : s.dev.laneHere (.sub n) = true) : let e := s.dev
    let src := 112 + n.val
    let wakes := (on = true ∧ e.on (Reg.SL_STAT.RX_ASLEEP n) = true ∧ e.on (Reg.SM_PORT_STAT.LPI_RX n 0) = true ∧
      e.on (Reg.SL_SLEEP_CTRL.RX_FORCE n) = false) ∧ e.wake.queue.any (fun q => q.1 == src) = false ∧ src ∉ e.wake.granted
    (¬ wakes → Effect (.signalDetectChange (.sub n) on) s (fun d => e.Sets d [(Reg.SL_STAT.SIGNAL n, bit on)])) ∧
    (wakes → Effect (.signalDetectChange (.sub n) on) s (fun d =>
      { e with wake := { e.wake with queue := wakeInsert src e.wake.queue } }.Sets d
        [(Reg.SL_STAT.SIGNAL n, 1), (Reg.PWR_WAKE_STAT.QUEUED, (e.wake.queue.length + 1) % 256)])) := by
  intro e src wakes
  let d1 := e.put (Reg.SL_STAT.SIGNAL n) (bit on)
  have hsets : e.Sets d1 [(Reg.SL_STAT.SIGNAL n, bit on)] := (Dev.Sets.nil e).put_of_lt (Reg.SL_STAT.SIGNAL n) (bit_lt on) (by simp)
  have hdoes : Does (.signalDetectChange (.sub n) on) s
      (d1.iff (d1.on (Reg.SL_STAT.RX_ASLEEP n) && d1.energyWake n) (·.wakeAsk (112 + n))) :=
    .of_main_eq (exec_signalDetectChange ..) hup (if_pos h)
  have hon {f : Fld} (hf : f.key ≠ (Reg.SL_STAT.SIGNAL n).key) : d1.on f = e.on f := by rw [Dev.on, Dev.on, Dev.put_other _ _ hf]
  have hsig : d1.on (Reg.SL_STAT.SIGNAL n) = on := by
    rw [Dev.on, Dev.fld_put_same]
    cases on <;> rfl
  have hcond : (d1.on (Reg.SL_STAT.RX_ASLEEP n) && d1.energyWake n) = true ↔ on = true ∧ e.on (Reg.SL_STAT.RX_ASLEEP n) = true ∧
      e.on (Reg.SM_PORT_STAT.LPI_RX n 0) = true ∧ e.on (Reg.SL_SLEEP_CTRL.RX_FORCE n) = false := by
    rw [Dev.energyWake, hsig, hon (by simp only [Fld.key, Reg.SL_STAT.RX_ASLEEP, Reg.SL_STAT.SIGNAL]; omega),
      hon (by simp only [Fld.key, Reg.SM_PORT_STAT.LPI_RX, Reg.SL_STAT.SIGNAL]; omega),
      hon (by simp only [Fld.key, Reg.SL_SLEEP_CTRL.RX_FORCE, Reg.SL_STAT.SIGNAL]; omega)]
    simp only [Bool.and_eq_true, Bool.not_eq_true']
    tauto
  refine ⟨fun hw => ⟨_, hdoes, ?_⟩, fun ⟨hc, hq, hg⟩ => ⟨_, hdoes, ?_⟩⟩
  · unfold Dev.iff
    split
    case isTrue hc =>
      have hagain : d1.wakeAsk (112 + n) = d1 := Dev.wakeAsk_again fun hq => hw ⟨hcond.1 hc, hq⟩
      dsimp only
      rwa [hagain]
    case isFalse => exact hsets
  · rw [Dev.iff, if_pos (hcond.2 hc)]
    let y : Dev := { e with wake := { e.wake with queue := wakeInsert src e.wake.queue } }
    have hy : y.Sets (y.put (Reg.SL_STAT.SIGNAL n) (bit on)) [(Reg.SL_STAT.SIGNAL n, 1)] := by
      rw [hc.1]
      exact Dev.Sets.put_one y (Reg.SL_STAT.SIGNAL n) 1
    exact hy.trans (Dev.wakeAsk_new (d := d1) hq hg) fun a ha b hb => by
      rw [List.mem_singleton.1 ha, List.mem_singleton.1 hb]
      exact queued_apart_lane (.sub n) (laneKey_signal (.sub n))

theorem laneAdaptDone (x : SerLane) (ctle dfe : Nat) (h : s.dev.laneHere x = true) : let e := s.dev
    let w := fun (f : Fld) (k : Nat) => (f, k % 2 ^ f.w)
    let done := laneFld Reg.SL_RXEQ_STAT.ADAPT_DONE Reg.RP_LANE_RXEQ_STAT.ADAPT_DONE x
    let lockF := laneFld Reg.SL_STAT.CDR_LOCK Reg.RP_LANE_STAT.CDR_LOCK x
    let adapt := e.fld (laneFld Reg.SL_RXEQ.ADAPT Reg.RP_LANE_RXEQ.ADAPT x)
    let takes := adapt ≠ 0 ∧ e.on lockF = true ∧ ¬ (2 ≤ adapt ∧ e.on done = true)
    (takes → Effect (.slAdaptDone x ctle dfe) s (fun d => e.Sets d ([
      w (laneFld Reg.SL_RXEQ_STAT.CTLE_NOW Reg.RP_LANE_RXEQ_STAT.CTLE_NOW x) ctle,
      w (laneFld Reg.SL_RXEQ_STAT.DFE1 Reg.RP_LANE_RXEQ_STAT.DFE1 x) dfe] ++ if 2 ≤ adapt then [(done, 1)] else []))) ∧
    (¬ takes → Does (.slAdaptDone x ctle dfe) s e) := by
  intro e w done lockF adapt takes
  let act := (e.laneHere x && adapt != 0 && e.on lockF && !(decide (2 ≤ adapt) && e.on done)) = true
  have hact : act ↔ takes := by
    simp only [act, takes, show e.laneHere x = true from h, Bool.true_and, Bool.and_eq_true, bne_iff_ne, Bool.not_eq_true',
      Bool.and_eq_false_imp, decide_eq_true_eq, and_assoc, not_and, Bool.not_eq_true]
  have hdoes : Does (.slAdaptDone x ctle dfe) s (e.laneAdapted x ctle dfe) := .of_main_eq (exec_slAdaptDone ..) hup rfl
  refine ⟨fun ht => ⟨_, hdoes, ?_⟩, fun ht => ?_⟩
  · rw [Dev.laneAdapted, if_pos (hact.2 ht)]
    have hdone := (Dev.Wrote.nil e).put_if (2 ≤ adapt) done (v := 1) (laneBit_lt (fun _ => rfl) (fun _ _ => rfl) x true) (by simp)
      (e' := e.iff (decide (2 ≤ adapt)) (·.put done 1)) (by simp [Dev.iff])
    have hall := (hdone.put_mod (laneFld Reg.SL_RXEQ_STAT.CTLE_NOW Reg.RP_LANE_RXEQ_STAT.CTLE_NOW x) ctle (by simp [done])).put_mod
      (laneFld Reg.SL_RXEQ_STAT.DFE1 Reg.RP_LANE_RXEQ_STAT.DFE1 x) dfe (by simp [done])
    refine ⟨hall.to_regs fun y => ?_, ?_⟩
    · simp only [List.nil_append, List.mem_append, List.mem_cons, List.not_mem_nil, or_false, w]
      tauto
    · unfold Dev.iff
      split <;> rfl
  · rwa [Dev.laneAdapted, if_neg (hact.not.2 ht)] at hdoes

end Reports

variable {d e : Dev} {F : List Fld} {l : List (Fld × Nat)}

/-! ### Lock and alignment -/

/-- The pattern errors of a report, counted while the checker is synchronised. -/
def Dev.laneChecked (d : Dev) (x : SerLane) (errs : Nat) : Dev :=
  d.iff (d.on (patSync x)) (·.bumpBy (laneFld Reg.SL_PAT_ERR.PAT_ERR Reg.RP_LANE_PAT_ERR.PAT_ERR x) errs)

theorem Dev.laneChecked_wrote (d : Dev) (x : SerLane) (errs : Nat) :
    let perr := laneFld Reg.SL_PAT_ERR.PAT_ERR Reg.RP_LANE_PAT_ERR.PAT_ERR x
    Dev.Wrote [perr] d (d.laneChecked x errs) (if d.on (patSync x) = true then [(perr, min (2 ^ perr.w - 1) (d.fld perr + errs))] else []) :=
  (Dev.Wrote.nil d).bump_if (d.on (patSync x) = true) _ errs (by simp) rfl

theorem Dev.laneChecked_rest (d : Dev) (x : SerLane) (errs : Nat) : { d.laneChecked x errs with regs := d.regs } = d := by
  unfold Dev.laneChecked Dev.iff
  split <;> rfl

/-- In-band words of a lane's ports are given up. -/
def Dev.inbandDrop (d : Dev) (n : Nat) (j : Nat) : Dev :=
  d.iff (d.mac (4 * n + j)).inband.isSome (fun d => d.setMac (4 * n + j) { d.mac (4 * n + j) with inband := none })

theorem Dev.inbandDrop_mac (d : Dev) (n j : Nat) : ((d.inbandDrop n j).mac (4 * n + j)).inband = none ∧
    (∀ k, k ≠ 4 * n + j → (d.inbandDrop n j).mac k = d.mac k) ∧ (d.inbandDrop n j).regs = d.regs ∧ (d.inbandDrop n j).lanes = d.lanes := by
  unfold Dev.inbandDrop Dev.iff
  cases h : (d.mac (4 * n + j)).inband with
  | none => exact ⟨by simp [h], fun _ _ => by simp, by simp, by simp⟩
  | some x =>
    refine ⟨?_, fun k hk => ?_, rfl, rfl⟩
    · simp only [Option.isSome_some, if_true, Dev.mac_setMac]
    · exact Tbl.get_set_ne _ _ _ hk

theorem Dev.inbandDrops (n : Nat) (l : List Nat) (d : Dev) : let e := d.each l (fun d j => d.inbandDrop n j)
    (∀ j, (d.mac (4 * n + j)).inband = none ∨ j ∈ l → (e.mac (4 * n + j)).inband = none) ∧ e.regs = d.regs ∧ e.lanes = d.lanes := by
  induction l generalizing d with
  | nil => exact ⟨fun j h => h.resolve_right (by simp), rfl, rfl⟩
  | cons k r ih =>
    obtain ⟨hk, hne, hregs, hlanes⟩ := d.inbandDrop_mac n k
    obtain ⟨hmac, hregs', hlanes'⟩ := ih (d.inbandDrop n k)
    refine ⟨fun j hj => hmac j ?_, hregs'.trans hregs, hlanes'.trans hlanes⟩
    by_cases hjk : j = k
    · exact .inl (hjk ▸ hk)
    · rw [hne _ (by omega)]
      exact hj.imp_right fun h => (List.mem_cons.1 h).resolve_left hjk

/-- A subscriber lane's report before its links are judged: `d` the device with the pattern errors counted. -/
def Dev.subSync (d : Dev) (n : Nat) (sync hiBer fec lock : Bool) (corr unc : Nat) : Dev :=
  let was := d.on (Reg.SL_STAT.SYNC n)
  let wasBer := d.on (Reg.SL_STAT.HI_BER n)
  let d1 := ((d.put (Reg.SL_STAT.SYNC n) (bit sync)).put (Reg.SL_STAT.HI_BER n) (bit hiBer)).put (Reg.SL_STAT.CDR_LOCK n) (bit lock)
  let d2 := (d1.setLane n { d1.lane n with fecLock := fec }).iff (!sync) (fun d => d.each (List.range 4) (fun d j => d.inbandDrop n j))
  let d3 := d2.iff (sync != was) (·.ev (Reg.SL_EVT.SYNC_CHG n))
  let d4 := d3.iff (was && !sync) (·.bump (Reg.SL_CNT.COUNT n 3))
  let d5 := d4.iff (hiBer && !wasBer) (·.ev (Reg.SL_EVT.HI_BER n))
  d5.iff (d.laneMode n == 2) (fun d => (d.bumpBy (Reg.SL_CNT.COUNT n 4) corr).bumpBy (Reg.SL_CNT.COUNT n 5) unc)

/-- What a subscriber lane's report writes. -/
def Dev.subSyncFlds (e : Dev) (n : Nat) (sync hiBer lock : Bool) (corr unc : Nat) : List (Fld × Nat) :=
  let was := e.on (Reg.SL_STAT.SYNC n)
  let plus := fun (f : Fld) (k : Nat) => (f, min (2 ^ f.w - 1) (e.fld f + k))
  [(Reg.SL_STAT.SYNC n, bit sync), (Reg.SL_STAT.HI_BER n, bit hiBer), (Reg.SL_STAT.CDR_LOCK n, bit lock)] ++
    (if sync = was then [] else [(Reg.SL_EVT.SYNC_CHG n, 1)]) ++
    (if was = true ∧ sync = false then [plus (Reg.SL_CNT.COUNT n 3) 1] else []) ++
    (if hiBer = true ∧ e.on (Reg.SL_STAT.HI_BER n) = false then [(Reg.SL_EVT.HI_BER n, 1)] else []) ++
    if e.laneMode n = 2 then [plus (Reg.SL_CNT.COUNT n 4) corr, plus (Reg.SL_CNT.COUNT n 5) unc] else []

/-- The fields that a subscriber lane's report writes, the last first. -/
def subFlds (n : Nat) : List Fld :=
  [Reg.SL_CNT.COUNT n 5, Reg.SL_CNT.COUNT n 4, Reg.SL_EVT.HI_BER n, Reg.SL_CNT.COUNT n 3, Reg.SL_EVT.SYNC_CHG n, Reg.SL_STAT.CDR_LOCK n,
    Reg.SL_STAT.HI_BER n, Reg.SL_STAT.SYNC n]

theorem subFlds_apart (n : Nat) : ((subFlds n).map Fld.key).Nodup := by
  simp only [subFlds, List.map_cons, List.map_nil, Fld.key, Reg.SL_CNT.COUNT, Reg.SL_EVT.HI_BER, Reg.SL_EVT.SYNC_CHG, Reg.SL_STAT.CDR_LOCK,
    Reg.SL_STAT.HI_BER, Reg.SL_STAT.SYNC, List.nodup_cons, List.mem_cons, List.not_mem_nil, or_false, not_or, List.nodup_nil, and_true,
    not_false_eq_true]
  omega

theorem Dev.subSync_rest (d : Dev) (n : Nat) (sync hiBer fec lock : Bool) (corr unc : Nat) :
    ((d.subSync n sync hiBer fec lock corr unc).lane n).fecLock = fec ∧
      (sync = false → ∀ j < 4, ((d.subSync n sync hiBer fec lock corr unc).mac (4 * n + j)).inband = none) := by
  simp only [Dev.subSync]
  generalize ((d.put (Reg.SL_STAT.SYNC n) (bit sync)).put (Reg.SL_STAT.HI_BER n) (bit hiBer)).put (Reg.SL_STAT.CDR_LOCK n) (bit lock) = d1
  have hlast (x : Dev) (a b c e : Bool) : ((((x.iff a (·.ev (Reg.SL_EVT.SYNC_CHG n))).iff b (·.bump (Reg.SL_CNT.COUNT n 3))).iff c
      (·.ev (Reg.SL_EVT.HI_BER n))).iff e fun d => (d.bumpBy (Reg.SL_CNT.COUNT n 4) corr).bumpBy (Reg.SL_CNT.COUNT n 5) unc).lanes = x.lanes ∧
      ((((x.iff a (·.ev (Reg.SL_EVT.SYNC_CHG n))).iff b (·.bump (Reg.SL_CNT.COUNT n 3))).iff c
      (·.ev (Reg.SL_EVT.HI_BER n))).iff e fun d => (d.bumpBy (Reg.SL_CNT.COUNT n 4) corr).bumpBy (Reg.SL_CNT.COUNT n 5) unc).macs = x.macs := by
    cases a <;> cases b <;> cases c <;> cases e <;> exact ⟨rfl, rfl⟩
  obtain ⟨hlanes, hmacs⟩ := hlast ((d1.setLane n { d1.lane n with fecLock := fec }).iff (!sync) fun d => d.each (List.range 4) fun d j => d.inbandDrop n j)
    (sync != d.on (Reg.SL_STAT.SYNC n)) (d.on (Reg.SL_STAT.SYNC n) && !sync) (hiBer && !d.on (Reg.SL_STAT.HI_BER n)) (d.laneMode n == 2)
  obtain ⟨hdrop, -, hl⟩ := Dev.inbandDrops n (List.range 4) (d1.setLane n { d1.lane n with fecLock := fec })
  have hfec : ((d1.setLane n { d1.lane n with fecLock := fec }).lane n).fecLock = fec := by rw [Dev.lane_setLane]
  refine ⟨?_, fun hs j hj => ?_⟩
  · rw [Dev.lane, hlanes]
    cases sync
    · exact (congrArg (fun t : Tbl Lane => (Tbl.get t n {}).fecLock) hl).trans hfec
    · exact hfec
  · rw [Dev.mac, hmacs, hs]
    exact hdrop j (.inr (List.mem_range.2 hj))

variable {d e : Dev} {F : List Fld} {l : List (Fld × Nat)}

theorem Dev.Wrote.bump (h : Dev.Wrote F d e l) (f : Fld) (k : Nat) (hf : f.key ∉ F.map Fld.key) :
    Dev.Wrote (f :: F) d (e.bumpBy f k) (l ++ [(f, min (2 ^ f.w - 1) (d.fld f + k))]) := h.bump_if True f k hf (if_pos trivial).symm

theorem Dev.Wrote.perm (h : Dev.Wrote F d e l) {l' : List (Fld × Nat)} (hl : ∀ x, x ∈ l' ↔ x ∈ l) {G : List Fld} (hG : ∀ f ∈ F, f ∈ G) :
    Dev.Wrote G d e l' := ⟨h.to_regs hl, fun x hx => hG _ (h.2 x ((hl x).1 hx))⟩

theorem Dev.subSync_wrote (d : Dev) (n : Nat) (sync hiBer fec lock : Bool) (corr unc : Nat) :
    Dev.Wrote (subFlds n) d (d.subSync n sync hiBer fec lock corr unc) (d.subSyncFlds n sync hiBer lock corr unc) := by
  obtain ⟨k5, hr⟩ := List.nodup_cons.1 (subFlds_apart n)
  obtain ⟨k4, hr⟩ := List.nodup_cons.1 hr
  obtain ⟨kb, hr⟩ := List.nodup_cons.1 hr
  obtain ⟨k3, hr⟩ := List.nodup_cons.1 hr
  obtain ⟨kc, hr⟩ := List.nodup_cons.1 hr
  obtain ⟨kl, hr⟩ := List.nodup_cons.1 hr
  obtain ⟨kh, -⟩ := List.nodup_cons.1 hr
  let d1 := ((d.put (Reg.SL_STAT.SYNC n) (bit sync)).put (Reg.SL_STAT.HI_BER n) (bit hiBer)).put (Reg.SL_STAT.CDR_LOCK n) (bit lock)
  let d2 := (d1.setLane n { d1.lane n with fecLock := fec }).iff (!sync) (fun d => d.each (List.range 4) (fun d j => d.inbandDrop n j))
  let d3 := d2.iff (sync != d.on (Reg.SL_STAT.SYNC n)) (·.ev (Reg.SL_EVT.SYNC_CHG n))
  let d4 := d3.iff (d.on (Reg.SL_STAT.SYNC n) && !sync) (·.bump (Reg.SL_CNT.COUNT n 3))
  let d5 := d4.iff (hiBer && !d.on (Reg.SL_STAT.HI_BER n)) (·.ev (Reg.SL_EVT.HI_BER n))
  have h1 := (((Dev.Wrote.nil d).put (Reg.SL_STAT.SYNC n) (bit_lt sync) (by simp)).put (Reg.SL_STAT.HI_BER n) (bit_lt hiBer) kh).put
    (Reg.SL_STAT.CDR_LOCK n) (bit_lt lock) kl
  have h2 := h1.same (e' := d2) (by
    simp only [d2, Dev.iff]
    split
    · exact (Dev.inbandDrops n (List.range 4) _).2.1
    · rfl)
  have h3 := h2.put_if (sync ≠ d.on (Reg.SL_STAT.SYNC n)) (Reg.SL_EVT.SYNC_CHG n) (v := 1) (show 1 < 2 ^ 1 by decide) kc
    (e' := d3) (by simp only [d3, Dev.iff, bne_iff_ne]; rfl)
  have h4 := h3.bump_if (d.on (Reg.SL_STAT.SYNC n) = true ∧ sync = false) (Reg.SL_CNT.COUNT n 3) 1 k3
    (e' := d4) (by simp only [d4, Dev.iff, Bool.and_eq_true, Bool.not_eq_true']; rfl)
  have h5 := h4.put_if (hiBer = true ∧ d.on (Reg.SL_STAT.HI_BER n) = false) (Reg.SL_EVT.HI_BER n) (v := 1) (show 1 < 2 ^ 1 by decide) kb
    (e' := d5) (by simp only [d5, Dev.iff, Bool.and_eq_true, Bool.not_eq_true']; rfl)
  have heq : d.subSync n sync hiBer fec lock corr unc =
      if d.laneMode n = 2 then (d5.bumpBy (Reg.SL_CNT.COUNT n 4) corr).bumpBy (Reg.SL_CNT.COUNT n 5) unc else d5 := by
    show d5.iff (d.laneMode n == 2) (fun d => (d.bumpBy (Reg.SL_CNT.COUNT n 4) corr).bumpBy (Reg.SL_CNT.COUNT n 5) unc) = _
    simp only [Dev.iff, beq_iff_eq]
  have hnot : ∀ b : Bool, (if sync = b then [] else [(Reg.SL_EVT.SYNC_CHG n, 1)]) = if sync ≠ b then [(Reg.SL_EVT.SYNC_CHG n, 1)] else [] :=
    fun b => (ite_not ..).symm
  rw [heq]
  simp only [Dev.subSyncFlds, hnot]
  split
  · refine ((h5.bump (Reg.SL_CNT.COUNT n 4) corr k4).bump (Reg.SL_CNT.COUNT n 5) unc k5).perm (fun x => ?_) fun f hf => hf
    simp only [List.nil_append, List.mem_append, List.mem_cons, List.not_mem_nil, or_false, or_assoc]
  · refine h5.perm (fun x => ?_) fun f hf => List.mem_cons_of_mem _ (List.mem_cons_of_mem _ hf)
    simp only [List.nil_append, List.mem_append, List.mem_cons, List.not_mem_nil, or_false, or_assoc]

section Sync
variable (s : State) (hup : s.dev.mainUp = true)
include hup

theorem laneSync_riser (p : Fin 4) (l : Fin 2) (sync hiBer fec cdr : Bool) (corr unc errs : Nat) (h : s.dev.laneHere (.riser p l) = true) :
    let e := s.dev
    let x := SerLane.riser p l
    let perr := laneFld Reg.SL_PAT_ERR.PAT_ERR Reg.RP_LANE_PAT_ERR.PAT_ERR x
    let checked := if e.on (patSync x) = true then [(perr, min (2 ^ perr.w - 1) (e.fld perr + errs))] else []
    Effect (.laneSyncChange x sync hiBer fec cdr ⟨corr, unc⟩ errs) s (fun d =>
      e.Sets d ([(Reg.RP_LANE_STAT.SYNC p l, bit sync), (Reg.RP_LANE_STAT.CDR_LOCK p l, bit (cdr && !e.laneAsleep x))] ++ checked)) := by
  intro e x perr checked
  let y := e.laneChecked x errs
  have hy := e.laneChecked_wrote x errs
  have hkey : (Reg.RP_LANE_STAT.SYNC p l).key = laneBase x + 258 ∧ (Reg.RP_LANE_STAT.CDR_LOCK p l).key = laneBase x + 257 ∧
      (Reg.RP_LANE_STAT.RX_ASLEEP p l).key = laneBase x + 263 := by
    refine ⟨laneKey_sync x, laneKey_cdrLock x, ?_⟩
    simp only [Fld.key, Reg.RP_LANE_STAT.RX_ASLEEP, x, laneBase_riser]
    omega
  have hsleep : y.laneAsleep x = e.laneAsleep x := by
    show (y.fld (Reg.RP_LANE_STAT.RX_ASLEEP p l) != 0) = (e.fld (Reg.RP_LANE_STAT.RX_ASLEEP p l) != 0)
    rw [hy.fld_eq (by simp [hkey])]
  have hall := (hy.put (Reg.RP_LANE_STAT.SYNC p l) (bit_lt sync) (by simp [hkey])).put (Reg.RP_LANE_STAT.CDR_LOCK p l)
    (bit_lt (cdr && !e.laneAsleep x)) (by simp [hkey])
  have hf : (!e.laneHere x) = false := by rw [show e.laneHere x = true from h]; rfl
  refine Effect.of_main_eq hup ⟨hall.to_regs fun z => ?_, ?_⟩ (exec_laneSyncChange ..) ?_
  · simp only [List.mem_append, List.mem_cons, List.not_mem_nil, or_false, checked, perr]
    tauto
  · exact e.laneChecked_rest x errs
  · rw [← hsleep]
    exact if_neg (show ¬ (!e.laneHere x) = true by rw [hf]; decide)

theorem laneSync_sub (n : Fin 112) (sync hiBer fec cdr : Bool) (corr unc errs : Nat) (h : s.dev.laneHere (.sub n) = true) :
    let e := s.dev
    let x := SerLane.sub n
    let plus := fun (f : Fld) (k : Nat) => (f, min (2 ^ f.w - 1) (e.fld f + k))
    let perr := laneFld Reg.SL_PAT_ERR.PAT_ERR Reg.RP_LANE_PAT_ERR.PAT_ERR x
    let checked := if e.on (patSync x) = true then [plus perr errs] else []
    EffectThen (.laneSyncChange x sync hiBer fec cdr ⟨corr, unc⟩ errs) s (·.linkLane n) (fun d =>
      let was := e.on (Reg.SL_STAT.SYNC n)
      e.Regs d ([(Reg.SL_STAT.SYNC n, bit sync), (Reg.SL_STAT.HI_BER n, bit hiBer), (Reg.SL_STAT.CDR_LOCK n, bit (cdr && !e.laneAsleep x))] ++
        checked ++ (if sync = was then [] else [(Reg.SL_EVT.SYNC_CHG n, 1)]) ++
        (if was = true ∧ sync = false then [plus (Reg.SL_CNT.COUNT n 3) 1] else []) ++
        (if hiBer = true ∧ e.on (Reg.SL_STAT.HI_BER n) = false then [(Reg.SL_EVT.HI_BER n, 1)] else []) ++
        if e.laneMode n = 2 then [plus (Reg.SL_CNT.COUNT n 4) corr, plus (Reg.SL_CNT.COUNT n 5) unc] else []) ∧
      (d.lane n).fecLock = fec ∧ (sync = false → ∀ j < 4, (d.mac (4 * n + j)).inband = none)) := by
  intro e x plus perr checked
  let y := e.laneChecked x errs
  have hy := e.laneChecked_wrote x errs
  have hf : (!e.laneHere x) = false := by rw [show e.laneHere x = true from h]; rfl
  let z := y.subSync n sync hiBer fec (cdr && !y.laneAsleep x) corr unc
  have hdoes : Does (.laneSyncChange x sync hiBer fec cdr ⟨corr, unc⟩ errs) s (z.linkLane n) :=
    .of_main_eq (exec_laneSyncChange ..) hup (if_neg (show ¬ (!e.laneHere x) = true by rw [hf]; decide))
  have hold {f : Fld} (hf : f.key ≠ (Reg.SL_PAT_ERR.PAT_ERR n).key) : y.fld f = e.fld f := hy.fld_eq (by rw [List.map_cons, List.map_nil, List.mem_singleton]; exact hf)
  have hon {f : Fld} (hf : f.key ≠ (Reg.SL_PAT_ERR.PAT_ERR n).key) : y.on f = e.on f := by rw [Dev.on, Dev.on, hold hf]
  have hapart : ∀ f ∈ [Reg.SL_STAT.RX_ASLEEP n, Reg.SM_LANE_CTRL.MODE n] ++ subFlds n, f.key ≠ (Reg.SL_PAT_ERR.PAT_ERR n).key := by
    simp only [subFlds, List.cons_append, List.nil_append, List.forall_mem_cons, Fld.key, Reg.SL_CNT.COUNT, Reg.SL_EVT.HI_BER, Reg.SL_EVT.SYNC_CHG,
      Reg.SL_STAT.CDR_LOCK, Reg.SL_STAT.HI_BER, Reg.SL_STAT.SYNC, Reg.SL_PAT_ERR.PAT_ERR, Reg.SL_STAT.RX_ASLEEP, Reg.SM_LANE_CTRL.MODE]
    simp only [List.not_mem_nil, false_implies, implies_true, and_true]
    omega
  have hflds : y.subSyncFlds n sync hiBer (cdr && !y.laneAsleep x) corr unc = e.subSyncFlds n sync hiBer (cdr && !e.laneAsleep x) corr unc := by
    simp only [subFlds, List.cons_append, List.nil_append, List.forall_mem_cons] at hapart
    obtain ⟨hr, hm, h5, h4, -, h3, -, -, hb, hs, -⟩ := hapart
    have hsleep : y.laneAsleep x = e.laneAsleep x := hon hr
    unfold Dev.subSyncFlds Dev.laneMode
    rw [hsleep, hon hs, hon hb, hold hm]
    dsimp only
    rw [hold h3, hold h4, hold h5]
  have hsub := y.subSync_wrote n sync hiBer fec (cdr && !y.laneAsleep x) corr unc
  have hregs := hy.1.trans hsub.1 fun a ha b hb => by
    rw [List.mem_singleton.1 (hy.2 a ha)]
    exact (hapart _ (List.mem_append_right _ (hsub.2 b hb))).symm
  rw [hflds] at hregs
  refine ⟨z, hdoes, hregs.of_mem_iff fun a => ?_, y.subSync_rest n sync hiBer fec _ corr unc⟩
  simp only [Dev.subSyncFlds, List.mem_append, checked, plus, perr]
  tauto

end Sync

variable {d e : Dev} {F : List Fld} {l : List (Fld × Nat)}

/-! ### Taps -/

/-- What a write of the transmit taps writes. -/
def tapFlds (x : SerLane) (v : Nat) : List (Fld × Nat) :=
  [(laneFld Reg.SL_TXEQ.PRE Reg.RP_LANE_TXEQ.PRE x, v % 2 ^ (laneFld Reg.SL_TXEQ.PRE Reg.RP_LANE_TXEQ.PRE x).w),
    (laneFld Reg.SL_TXEQ.MAIN Reg.RP_LANE_TXEQ.MAIN x, v / 2 ^ 4 % 2 ^ (laneFld Reg.SL_TXEQ.MAIN Reg.RP_LANE_TXEQ.MAIN x).w),
    (laneFld Reg.SL_TXEQ.POST Reg.RP_LANE_TXEQ.POST x, v / 2 ^ 10 % 2 ^ (laneFld Reg.SL_TXEQ.POST Reg.RP_LANE_TXEQ.POST x).w),
    (laneFld Reg.SL_TXEQ.POL_INV Reg.RP_LANE_TXEQ.POL_INV x, v / 2 ^ 15 % 2 ^ (laneFld Reg.SL_TXEQ.POL_INV Reg.RP_LANE_TXEQ.POL_INV x).w)]

theorem laneFld_w {f : Nat → Fld} {g : Nat → Nat → Fld} {k : Nat} (hf : ∀ n, (f n).w = k) (hg : ∀ p l, (g p l).w = k) (x : SerLane) :
    (laneFld f g x).w = k := by
  cases x with
  | sub n => exact hf n
  | riser p l => exact hg p l

/-- The bits of a word that a field of their width takes. -/
theorem Dev.Wrote.put_bits (h : Dev.Wrote F d e l) {f : Fld} (v lo : Nat) {k : Nat} (hw : f.w = k) (hf : f.key ∉ F.map Fld.key) :
    Dev.Wrote (f :: F) d (e.put f (bits v lo k)) (l ++ [(f, v / 2 ^ lo % 2 ^ f.w)]) := by
  have hb : bits v lo k = v / 2 ^ lo % 2 ^ f.w := by rw [bits, hw]
  rw [hb]
  exact h.put f (Nat.mod_lt _ (Nat.two_pow_pos _)) hf

theorem Dev.txeqWrite_taken (d : Dev) (x : SerLane) {v : Nat} (h : ¬ 63 < bits v 0 4 + bits v 4 6 + bits v 10 5) :
    d.Sets (d.txeqWrite x v) (tapFlds x v) := by
  have hpre := (Dev.Wrote.nil d).put_mod (laneFld Reg.SL_TXEQ.PRE Reg.RP_LANE_TXEQ.PRE x) v (by simp)
  have hmain := hpre.put_bits (f := laneFld Reg.SL_TXEQ.MAIN Reg.RP_LANE_TXEQ.MAIN x) v 4 (k := 6) (by cases x <;> rfl) (by simp)
  have hpost := hmain.put_bits (f := laneFld Reg.SL_TXEQ.POST Reg.RP_LANE_TXEQ.POST x) v 10 (k := 5) (by cases x <;> rfl) (by simp)
  have hall := hpost.put_bits (f := laneFld Reg.SL_TXEQ.POL_INV Reg.RP_LANE_TXEQ.POL_INV x) v 15 (k := 1) (by cases x <;> rfl)
    (by simp)
  have heq : d.txeqWrite x v = (((d.put (laneFld Reg.SL_TXEQ.PRE Reg.RP_LANE_TXEQ.PRE x) v).put
      (laneFld Reg.SL_TXEQ.MAIN Reg.RP_LANE_TXEQ.MAIN x) (bits v 4 6)).put (laneFld Reg.SL_TXEQ.POST Reg.RP_LANE_TXEQ.POST x) (bits v 10 5)).put
        (laneFld Reg.SL_TXEQ.POL_INV Reg.RP_LANE_TXEQ.POL_INV x) (bits v 15 1) := by
    cases x <;> exact if_neg h
  rw [heq]
  exact ⟨hall.1, rfl⟩

section Commands
variable (s : State) (hup : s.dev.mainUp = true)
include hup

theorem laneTaps_sub (m : Master) (n : Fin 112) (v : Word) (h : s.dev.slHere n = true) :
    let sum := bits v.toNat 0 4 + bits v.toNat 4 6 + bits v.toNat 10 5
    (sum ≤ 63 → Effect (.txeqWrite m (.sub n) v) s (fun d => s.dev.Sets d (tapFlds (.sub n) v.toNat))) ∧
    (63 < sum → Effect (.txeqWrite m (.sub n) v) s (fun d => s.dev.Sets d [(Reg.SL_EVT.EQ_REJ n, 1)])) := by
  intro sum
  have hdoes : Does (.txeqWrite m (.sub n) v) s (s.dev.txeqWrite (.sub n) v.toNat) :=
    .of_main_eq (exec_txeqWrite ..) hup (s.dev.poke_SL_TXEQ m n v h)
  refine ⟨fun hs => ⟨_, hdoes, s.dev.txeqWrite_taken _ (Nat.not_lt.2 hs)⟩, fun hs => ⟨_, hdoes, ?_⟩⟩
  rw [Dev.txeqWrite, if_pos hs]
  exact Dev.Sets.put_one s.dev (Reg.SL_EVT.EQ_REJ n) 1

theorem laneTaps_riser (m : Master) (p : Fin 4) (l : Fin 2) (v : Word) (h : s.dev.rpHere p = true) :
    let sum := bits v.toNat 0 4 + bits v.toNat 4 6 + bits v.toNat 10 5
    (sum ≤ 63 → Effect (.txeqWrite m (.riser p l) v) s (fun d => s.dev.Sets d (tapFlds (.riser p l) v.toNat))) ∧
    (63 < sum → Effect (.txeqWrite m (.riser p l) v) s (fun d => s.dev.Sets d [])) := by
  intro sum
  have hdoes : Does (.txeqWrite m (.riser p l) v) s (s.dev.txeqWrite (.riser p l) v.toNat) :=
    .of_main_eq (exec_txeqWrite ..) hup (s.dev.poke_RP_LANE_TXEQ m p l v h)
  refine ⟨fun hs => ⟨_, hdoes, s.dev.txeqWrite_taken _ (Nat.not_lt.2 hs)⟩, fun hs => ⟨_, hdoes, ?_⟩⟩
  rw [Dev.txeqWrite, if_pos hs]
  exact Dev.Sets.nil s.dev

end Commands

/-! ### Eye scans -/

theorem Dev.setScan_scans (d : Dev) (x : SerLane) (b : Bool) : (d.setScan x b).scans x = b ∧ (d.setScan x b).regs = d.regs := by
  cases x with
  | sub n => exact ⟨by simp [Dev.setScan, Dev.scans], rfl⟩
  | riser p l =>
    refine ⟨?_, rfl⟩
    simp only [Dev.setScan, Dev.scans, Dev.phy_setPhy]
    split <;> rfl

/-- What the fields of a started scan are. -/
def eyeFlds (x : SerLane) (v : Nat) : List (Fld × Nat) :=
  [(laneFld Reg.SL_EYE_CTRL.PHASE Reg.RP_LANE_EYE_CTRL.PHASE x, v % 2 ^ (laneFld Reg.SL_EYE_CTRL.PHASE Reg.RP_LANE_EYE_CTRL.PHASE x).w),
    (laneFld Reg.SL_EYE_CTRL.VOLT Reg.RP_LANE_EYE_CTRL.VOLT x, v / 2 ^ 6 % 2 ^ (laneFld Reg.SL_EYE_CTRL.VOLT Reg.RP_LANE_EYE_CTRL.VOLT x).w),
    (laneFld Reg.SL_EYE_CTRL.LOG2_BITS Reg.RP_LANE_EYE_CTRL.LOG2_BITS x,
      v / 2 ^ 13 % 2 ^ (laneFld Reg.SL_EYE_CTRL.LOG2_BITS Reg.RP_LANE_EYE_CTRL.LOG2_BITS x).w)]

theorem Dev.scans_put (d : Dev) (f : Fld) (v : Nat) (x : SerLane) : (d.put f v).scans x = d.scans x := by
  cases x <;> rfl

theorem Dev.eyeWrite_spec (d : Dev) (x : SerLane) (v : Nat) : d.Regs (d.eyeWrite x v) (eyeFlds x v ++
      if d.laneHere x = true ∧ bitOf v 18 = true then [(laneFld Reg.SL_EYE_STAT.DONE Reg.RP_LANE_EYE_STAT.DONE x, 0)] else []) ∧
    (d.eyeWrite x v).scans x = (d.scans x || (d.laneHere x && bitOf v 18)) := by
  have hphase := (Dev.Wrote.nil d).put_mod (laneFld Reg.SL_EYE_CTRL.PHASE Reg.RP_LANE_EYE_CTRL.PHASE x) v (by simp)
  have hvolt := hphase.put_bits (f := laneFld Reg.SL_EYE_CTRL.VOLT Reg.RP_LANE_EYE_CTRL.VOLT x) v 6 (k := 7) (by cases x <;> rfl) (by simp)
  have hlog := hvolt.put_bits (f := laneFld Reg.SL_EYE_CTRL.LOG2_BITS Reg.RP_LANE_EYE_CTRL.LOG2_BITS x) v 13 (k := 5) (by cases x <;> rfl) (by simp)
  let d1 := ((d.put (laneFld Reg.SL_EYE_CTRL.PHASE Reg.RP_LANE_EYE_CTRL.PHASE x) v).put
    (laneFld Reg.SL_EYE_CTRL.VOLT Reg.RP_LANE_EYE_CTRL.VOLT x) (bits v 6 7)).put
      (laneFld Reg.SL_EYE_CTRL.LOG2_BITS Reg.RP_LANE_EYE_CTRL.LOG2_BITS x) (bits v 13 5)
  have hscan : d1.scans x = d.scans x := by cases x <;> rfl
  have heq : d.eyeWrite x v = if bitOf v 18 = true ∧ d.laneHere x = true then
      (d1.put (laneFld Reg.SL_EYE_STAT.DONE Reg.RP_LANE_EYE_STAT.DONE x) 0).setScan x true else d1 := by
    show d1.iff (bitOf v 18 && d.laneHere x)
      (fun d => (d.put (laneFld Reg.SL_EYE_STAT.DONE Reg.RP_LANE_EYE_STAT.DONE x) 0).setScan x true) = _
    simp only [Dev.iff, Bool.and_eq_true]
  rw [heq]
  by_cases h : bitOf v 18 = true ∧ d.laneHere x = true
  · rw [if_pos h, if_pos h.symm, h.1, h.2]
    have hall := (hlog.put (laneFld Reg.SL_EYE_STAT.DONE Reg.RP_LANE_EYE_STAT.DONE x) (v := 0) (Nat.two_pow_pos _) (by simp)).same
      ((d1.put (laneFld Reg.SL_EYE_STAT.DONE Reg.RP_LANE_EYE_STAT.DONE x) 0).setScan_scans x true).2
    exact ⟨hall.1, by rw [(Dev.setScan_scans _ x true).1]; simp⟩
  · rw [if_neg h, if_neg fun h' => h h'.symm, List.append_nil]
    refine ⟨hlog.1, hscan.trans ?_⟩
    cases hb : bitOf v 18 <;> cases hh : d.laneHere x <;> simp_all

/-- The event of a checker's loss. -/
def patLossEvt : SerLane → Fld
  | .sub n => Reg.SL_EVT.PAT_LOSS n
  | .riser p _ => Reg.RP_PHY_EVT.PAT_LOSS p

theorem patLoss_apart (x : SerLane) : (patLossEvt x).key ≠ (patSync x).key ∧
    (patLossEvt x).key ≠ (laneFld Reg.SL_PAT_ERR.PAT_ERR Reg.RP_LANE_PAT_ERR.PAT_ERR x).key := by
  rw [laneKey_patSync, laneKey_patErr]
  cases x with
  | sub n => simp only [patLossEvt, laneBase_sub, Fld.key, Reg.SL_EVT.PAT_LOSS]; omega
  | riser p l => simp only [patLossEvt, laneBase_riser, Fld.key, Reg.RP_PHY_EVT.PAT_LOSS]; omega

section Commands
variable (s : State) (hup : s.dev.mainUp = true)
include hup

theorem laneScanDone (x : SerLane) (errs : Nat) : let e := s.dev
    let eyeDone := laneFld Reg.SL_EYE_STAT.DONE Reg.RP_LANE_EYE_STAT.DONE x
    let most := 2 ^ max 10 (e.fld (laneFld Reg.SL_EYE_CTRL.LOG2_BITS Reg.RP_LANE_EYE_CTRL.LOG2_BITS x))
    (e.scans x = true → Effect (.eyeScanDone x errs) s (fun d => d.scans x = false ∧
      e.Regs d [(eyeDone, 1), (laneFld Reg.SL_EYE_STAT.ERRORS Reg.RP_LANE_EYE_STAT.ERRORS x, min (2 ^ 31 - 1) (min most errs))])) ∧
    (e.scans x = false → Does (.eyeScanDone x errs) s e) := by
  intro e eyeDone most
  have hdoes : Does (.eyeScanDone x errs) s (e.eyeDone x errs) := .of_main_eq (exec_eyeScanDone ..) hup rfl
  refine ⟨fun h => ⟨_, hdoes, ?_⟩, fun h => ?_⟩
  · rw [Dev.eyeDone, if_pos h]
    have hstart := (Dev.Wrote.nil e).same (e.setScan_scans x false).2
    have hput := hstart.put eyeDone (v := 1) (laneBit_lt (fun _ => rfl) (fun _ _ => rfl) x true) (by simp)
    have hall := hput.put (laneFld Reg.SL_EYE_STAT.ERRORS Reg.RP_LANE_EYE_STAT.ERRORS x) (v := min (2 ^ 31 - 1) (min most errs)) (by
      rw [laneFld_w (k := 31) (fun _ => rfl) (fun _ _ => rfl) x]
      exact (Nat.min_le_left _ _).trans_lt (by decide)) (by simp [eyeDone])
    refine ⟨?_, hall.1⟩
    rw [Dev.scans_put, Dev.scans_put]
    exact (e.setScan_scans x false).1
  · rwa [Dev.eyeDone, if_neg (by rw [show e.scans x = false from h]; decide)] at hdoes

theorem laneScanStart (m : Master) (x : SerLane) (v : Word)
    (h : s.dev.poke m (laneReg x 0x20) v = s.dev.eyeWrite x v.toNat) : let e := s.dev
    Effect (.eyeScanStart m x v) s (fun d => e.Regs d (eyeFlds x v.toNat ++
        if e.laneHere x = true ∧ bitOf v.toNat 18 = true then [(laneFld Reg.SL_EYE_STAT.DONE Reg.RP_LANE_EYE_STAT.DONE x, 0)] else []) ∧
      d.scans x = (e.scans x || (e.laneHere x && bitOf v.toNat 18))) :=
  Effect.of_main_eq hup (s.dev.eyeWrite_spec x v.toNat) (exec_eyeScanStart ..) h

/-! ### Pattern checkers -/

theorem lanePatGain (x : SerLane) (h : s.dev.laneHere x = true) :
    (s.dev.rxPat x ≠ 0 → Effect (.patSyncGain x) s (fun d => s.dev.Sets d [(patSync x, 1)])) ∧
    (s.dev.rxPat x = 0 → Does (.patSyncGain x) s s.dev) := by
  have hdoes : Does (.patSyncGain x) s (s.dev.patGain x) := .of_main_eq (exec_patSyncGain ..) hup rfl
  refine ⟨fun hp => ⟨_, hdoes, ?_⟩, fun hp => ?_⟩
  · rw [Dev.patGain, if_pos (by simp [h, hp])]
    exact (Dev.Sets.nil s.dev).put_of_lt (patSync x) (v := 1) (laneBit_lt (fun _ => rfl) (fun _ _ => rfl) x true) (by simp)
  · rwa [Dev.patGain, if_neg (by simp [h, hp])] at hdoes

theorem lanePatLoss (x : SerLane) (errs : Nat) (h : s.dev.laneHere x = true) : let e := s.dev
    let perr := laneFld Reg.SL_PAT_ERR.PAT_ERR Reg.RP_LANE_PAT_ERR.PAT_ERR x
    (e.on (patSync x) = true → Effect (.patSyncLoss x errs) s (fun d => e.Sets d [(patSync x, 0),
      (perr, min (2 ^ perr.w - 1) (e.fld perr + errs)), (patLossEvt x, 1)])) ∧
    (e.on (patSync x) = false → Does (.patSyncLoss x errs) s e) := by
  intro e perr
  have hdoes : Does (.patSyncLoss x errs) s (e.patLost x errs) := .of_main_eq (exec_patSyncLoss ..) hup rfl
  refine ⟨fun hp => ⟨_, hdoes, ?_⟩, fun hp => ?_⟩
  · have heq : e.patLost x errs = ((e.put (patSync x) 0).bumpBy perr errs).ev (patLossEvt x) := by
      rw [Dev.patLost, if_pos (by simp only [Bool.and_eq_true]; exact ⟨h, hp⟩)]
      cases x <;> rfl
    have hput := (((Dev.Wrote.nil e).put (patSync x) (v := 0) (Nat.two_pow_pos _) (by simp)).bump perr errs (by simp [perr])).put
      (patLossEvt x) (v := 1) (by cases x <;> exact (by decide : 1 < 2 ^ 1)) (by
        simp only [List.map_cons, List.map_nil, List.mem_cons, List.not_mem_nil, or_false, not_or]
        exact ⟨(patLoss_apart x).2, (patLoss_apart x).1⟩)
    rw [heq]
    exact ⟨hput.1, rfl⟩
  · rwa [Dev.patLost, if_neg (by simp only [Bool.and_eq_true, not_and]; intro _; rw [show e.on (patSync x) = false from hp]; decide)] at hdoes

end Commands

/-- Settles O48: what is written of a lane is stated for both kinds at once; what only one kind has is stated for it. -/
theorem serialLanes : Obligations.SerialLanes := by
  intro s m x on sync hiBer fec cdr corr unc ctle dfe errs v hup
  have hempty (h : ¬ s.dev.laneHere x = true) := Dev.emptyReport s hup x on sync hiBer fec cdr corr unc ctle dfe errs h
  have hadapt (h : s.dev.laneHere x = true) := laneAdaptDone s hup x ctle dfe h
  obtain ⟨hdone, hnone⟩ := laneScanDone s hup x errs
  have hgain (h : s.dev.laneHere x = true) := lanePatGain s hup x h
  have hloss (h : s.dev.laneHere x = true) := lanePatLoss s hup x errs h
  cases x with
  | sub n =>
    refine ⟨hempty, fun h => (laneSignal_sub s hup n on h).1, fun h => (laneSignal_sub s hup n on h).2, ?_, ?_,
      fun h => (hadapt h).1, fun h => (hadapt h).2, fun h => (laneTaps_sub s hup m n v h).1, fun h => (laneTaps_sub s hup m n v h).2,
      fun h => laneScanStart s hup m _ v (s.dev.poke_SL_EYE_CTRL m n v h), hdone, hnone, fun h => (hgain h).1, fun h => (hgain h).2,
      fun h => (hloss h).1, fun h => (hloss h).2⟩
    · rintro k hk h
      cases hk
      exact laneSync_sub s hup n sync hiBer fec cdr corr unc errs h
    · rintro p l hx
      cases hx
  | riser p l =>
    refine ⟨hempty, fun h _ => laneSignal_riser s hup p l on h, fun _ h => h.1.elim, ?_, ?_,
      fun h => (hadapt h).1, fun h => (hadapt h).2, fun h => (laneTaps_riser s hup m p l v h).1, fun h => (laneTaps_riser s hup m p l v h).2,
      fun h => laneScanStart s hup m _ v (s.dev.poke_RP_LANE_EYE_CTRL m p l v h), hdone, hnone, fun h => (hgain h).1, fun h => (hgain h).2,
      fun h => (hloss h).1, fun h => (hloss h).2⟩
    · rintro k hk
      cases hk
    · rintro p l hx h
      cases hx
      exact laneSync_riser s hup _ _ sync hiBer fec cdr corr unc errs h

end Sys2Proof.Machine
end

section
/-!
PROOFS. O51: sleep of a direction, and the wake arbiter (R278 to R280, R399 to R401). The arbiter's cycle is an induction on the
grants it makes (`Dev.Served`).
-/
namespace Sys2Proof.Machine

variable {d e : Dev}

/-! ### The queue of requests -/

theorem wakeInsert_facts (q : List (Nat × Nat)) (a : Nat) (h : q.all (fun g => g.1 != a) = true) :
    (wakeInsert a q).Perm ((a, 0) :: q) ∧ (wakeInsert a q).filter (fun g => g.2 != 0) = q.filter (fun g => g.2 != 0) ∧
      (wakeInsert a q).take (q.filter (fun g => g.2 != 0)).length = q.filter (fun g => g.2 != 0) ∧
      (((q.filter (fun g => g.2 == 0)).map (·.1)).Pairwise (· < ·) →
        (((wakeInsert a q).filter (fun g => g.2 == 0)).map (·.1)).Pairwise (· < ·)) := by
  have hne : ∀ g ∈ q, g.1 ≠ a := by simpa using h
  let old := q.filter (fun g => g.2 != 0)
  let now := q.filter (fun g => g.2 == 0)
  let lo := now.filter (fun g => decide (g.1 < a))
  let hi := now.filter (fun g => decide (a < g.1))
  have heq : wakeInsert a q = old ++ lo ++ [(a, 0)] ++ hi := rfl
  have hnow : ∀ g ∈ now, g.2 = 0 ∧ g.1 ≠ a := fun g hg => by
    obtain ⟨hq, h0⟩ := List.mem_filter.1 hg
    exact ⟨by simpa using h0, hne g hq⟩
  have hhi : hi = now.filter fun g => !decide (g.1 < a) := List.filter_congr fun g hg => by
    have := (hnow g hg).2
    by_cases hlt : g.1 < a
    · simp [hlt]; omega
    · simp [hlt]; omega
  have hsplit : (lo ++ hi).Perm now := by
    rw [hhi]
    exact List.filter_append_perm _ now
  have hq : (old ++ now).Perm q := by
    have hb : now = q.filter fun g => !(g.2 != 0) := List.filter_congr fun g _ => by simp [bne]
    rw [hb]
    exact List.filter_append_perm _ q
  have hlo0 : ∀ g ∈ lo, g.2 = 0 := fun g hg => (hnow g (List.mem_filter.1 hg).1).1
  have hhi0 : ∀ g ∈ hi, g.2 = 0 := fun g hg => (hnow g (List.mem_filter.1 hg).1).1
  refine ⟨?_, ?_, ?_, fun hp => ?_⟩
  · rw [heq]
    calc old ++ lo ++ [(a, 0)] ++ hi = (old ++ lo) ++ (a, 0) :: hi := by simp
      _ |>.Perm ((a, 0) :: (old ++ lo ++ hi)) := List.perm_middle
      _ |>.Perm ((a, 0) :: q) := ((List.append_assoc old lo hi ▸ (hsplit.append_left old).trans hq)).cons _
  · have hold : old.filter (fun g => g.2 != 0) = old := List.filter_eq_self.2 fun g hg => (List.mem_filter.1 hg).2
    have hl : lo.filter (fun g => g.2 != 0) = [] := List.filter_eq_nil_iff.2 fun g hg => by simp [hlo0 g hg]
    have hh : hi.filter (fun g => g.2 != 0) = [] := List.filter_eq_nil_iff.2 fun g hg => by simp [hhi0 g hg]
    rw [heq, List.filter_append, List.filter_append, List.filter_append, hold, hl, hh]
    simp [old]
  · rw [heq, List.append_assoc, List.append_assoc]
    exact List.take_left
  · have hold : old.filter (fun g => g.2 == 0) = [] := List.filter_eq_nil_iff.2 fun g hg => by simpa using (List.mem_filter.1 hg).2
    have hl : lo.filter (fun g => g.2 == 0) = lo := List.filter_eq_self.2 fun g hg => by simp [hlo0 g hg]
    have hh : hi.filter (fun g => g.2 == 0) = hi := List.filter_eq_self.2 fun g hg => by simp [hhi0 g hg]
    rw [heq, List.filter_append, List.filter_append, List.filter_append, hold, hl, hh]
    have hsub (p : Nat × Nat → Bool) : ((now.filter p).map (·.1)).Pairwise (· < ·) := hp.sublist (List.filter_sublist.map _)
    simp only [List.nil_append, List.map_append]
    rw [List.append_assoc]
    refine List.pairwise_append.2 ⟨hsub _, List.pairwise_cons.2 ⟨fun b hb => ?_, hsub _⟩, fun b hb c hc => ?_⟩
    · obtain ⟨g, hg, rfl⟩ := List.mem_map.1 hb
      simpa using (List.mem_filter.1 hg).2
    · obtain ⟨g, hg, rfl⟩ := List.mem_map.1 hb
      have hlt : g.1 < a := by simpa using (List.mem_filter.1 hg).2
      rcases List.mem_cons.1 hc with rfl | hc
      · exact hlt
      · obtain ⟨g', hg', rfl⟩ := List.mem_map.1 hc
        exact hlt.trans (by simpa using (List.mem_filter.1 hg').2)

/-! ### Grants -/

/-- The head of the queue is granted. -/
def Dev.grant (d : Dev) (s age : Nat) (r : List (Nat × Nat)) : Dev :=
  let w1 := (List.range 4).foldl (fun (w : WakeSt) b => w.setLevel b (w.level b - d.wakeStep s b)) d.wake
  let d1 := d.setWake { w1 with queue := r, granted := w1.granted ++ [s] }
  let d2 := d1.put Reg.PWR_WAKE_STAT.MAX_DELAY (min 65535 (max age (d1.fld Reg.PWR_WAKE_STAT.MAX_DELAY)))
  d2.iff (decide (500 < age)) (·.ev Reg.PWR_EVT.WAKE_LATE)

/-- Every bucket covers the step of a source. -/
def Dev.covers (d : Dev) (s : Nat) : Bool := (List.range 4).all (fun b => decide (d.wakeStep s b ≤ d.wake.level b))

theorem Dev.wakeServe_nil (d : Dev) (n : Nat) (h : d.wake.queue = []) : d.wakeServe n = d := by
  cases n with
  | zero => rfl
  | succ n => rw [Dev.wakeServe, h]

theorem Dev.wakeServe_cons (d : Dev) (n : Nat) {s age : Nat} {r : List (Nat × Nat)} (h : d.wake.queue = (s, age) :: r) :
    d.wakeServe (n + 1) = if d.covers s = true then (d.grant s age r).wakeServe n else d := by
  rw [Dev.wakeServe, h]
  rfl

theorem covers_iff (s : Nat) : d.covers s = true ↔ ∀ b < 4, d.wakeStep s b ≤ d.wake.level b := by
  simp [Dev.covers]

/-- The levels after a charge of every bucket. -/
theorem setLevels (w : WakeSt) (f : Nat → Nat) : let w1 := (List.range 4).foldl (fun (w : WakeSt) b => w.setLevel b (w.level b - f b)) w
    w1.queue = w.queue ∧ w1.granted = w.granted ∧ w1.off = w.off ∧ ∀ b < 4, w1.level b = w.level b - f b := by
  refine ⟨rfl, rfl, rfl, fun b hb => ?_⟩
  interval_cases b <;> rfl

/-- What a cycle of grants from `d` leaves in `e`, which has taken `t` requests from the head of the queue. -/
structure Dev.Served (d e : Dev) (t : Nat) : Prop where
  bound : t ≤ d.wake.queue.length
  rest : { e with regs := d.regs, wake := d.wake } = d
  granted : e.wake.granted = d.wake.granted ++ (d.wake.queue.take t).map (·.1)
  queue : e.wake.queue = d.wake.queue.drop t
  level : ∀ b < 4, e.wake.level b + ((d.wake.queue.take t).map (fun q => d.wakeStep q.1 b)).sum = d.wake.level b
  queued : e.fld Reg.PWR_WAKE_STAT.QUEUED = if t = 0 then d.fld Reg.PWR_WAKE_STAT.QUEUED else (d.wake.queue.drop t).length % 256
  delay : e.fld Reg.PWR_WAKE_STAT.MAX_DELAY = if t = 0 then d.fld Reg.PWR_WAKE_STAT.MAX_DELAY
    else min 65535 ((d.wake.queue.take t).foldl (fun a q => max q.2 a) (d.fld Reg.PWR_WAKE_STAT.MAX_DELAY))
  late : e.fld Reg.PWR_EVT.WAKE_LATE = if ∃ q ∈ d.wake.queue.take t, 500 < q.2 then 1 else d.fld Reg.PWR_EVT.WAKE_LATE
  regs : d.SameRegs e [Reg.PWR_WAKE_STAT.QUEUED, Reg.PWR_WAKE_STAT.MAX_DELAY, Reg.PWR_EVT.WAKE_LATE]

theorem Dev.Served.none (d : Dev) : d.Served d 0 :=
  ⟨Nat.zero_le _, rfl, by simp, rfl, by simp, rfl, rfl, by simp, fun _ _ => rfl⟩

/-- A grant changes no step's charge. -/
theorem Dev.wakeStep_congr (h : d.SameRegs e [Reg.PWR_WAKE_STAT.QUEUED, Reg.PWR_WAKE_STAT.MAX_DELAY, Reg.PWR_EVT.WAKE_LATE]) (s : Nat) {b : Nat}
    (hb : b < 4) : e.wakeStep s b = d.wakeStep s b := by
  have hk : wakeKind s < 6 := by unfold wakeKind; split_ifs <;> decide
  have hstep : ∀ k < 6, (Reg.PWR_WAKE_STEP.STEP_A k).key ∉ [Reg.PWR_WAKE_STAT.QUEUED, Reg.PWR_WAKE_STAT.MAX_DELAY, Reg.PWR_EVT.WAKE_LATE].map Fld.key ∧
      (Reg.PWR_WAKE_STEP.STEP_B k).key ∉ [Reg.PWR_WAKE_STAT.QUEUED, Reg.PWR_WAKE_STAT.MAX_DELAY, Reg.PWR_EVT.WAKE_LATE].map Fld.key := by decide
  have hdepth : ∀ b < 4, (Reg.PWR_WAKE_BKT.DEPTH b).key ∉
      [Reg.PWR_WAKE_STAT.QUEUED, Reg.PWR_WAKE_STAT.MAX_DELAY, Reg.PWR_EVT.WAKE_LATE].map Fld.key := by decide
  have hfld {f : Fld} (hf : f.key ∉ [Reg.PWR_WAKE_STAT.QUEUED, Reg.PWR_WAKE_STAT.MAX_DELAY, Reg.PWR_EVT.WAKE_LATE].map Fld.key) :
      e.fld f = d.fld f := h f.key hf
  simp only [Dev.wakeStep, Dev.wakeDepth, hfld (hdepth b hb), hfld (hstep _ hk).1, hfld (hstep _ hk).2]

theorem Dev.grant_served {s age : Nat} {r : List (Nat × Nat)} (h : d.wake.queue = (s, age) :: r) (hc : d.covers s = true) :
    d.Served (d.grant s age r) 1 := by
  let w1 := (List.range 4).foldl (fun (w : WakeSt) b => w.setLevel b (w.level b - d.wakeStep s b)) d.wake
  let d1 := d.setWake { w1 with queue := r, granted := w1.granted ++ [s] }
  let d2 := d1.put Reg.PWR_WAKE_STAT.MAX_DELAY (min 65535 (max age (d1.fld Reg.PWR_WAKE_STAT.MAX_DELAY)))
  obtain ⟨-, hg, -, hl⟩ := setLevels d.wake (d.wakeStep s)
  have heq : d.grant s age r = if 500 < age then d2.ev Reg.PWR_EVT.WAKE_LATE else d2 := by
    simp only [Dev.grant, Dev.iff, decide_eq_true_eq]
    rfl
  have hwake : (d.grant s age r).wake = { w1 with queue := r, granted := w1.granted ++ [s] } := by
    rw [heq]
    split <;> rfl
  have hfld {f : Fld} (hf : f.key ≠ Reg.PWR_EVT.WAKE_LATE.key) : (d.grant s age r).fld f = d2.fld f := by
    rw [heq]
    split
    · exact Dev.put_other _ _ hf
    · rfl
  have hmax : d1.fld Reg.PWR_WAKE_STAT.MAX_DELAY = d.fld Reg.PWR_WAKE_STAT.MAX_DELAY := Dev.put_other _ _ (by decide)
  have hd1 : ({ d1 with wake := d.wake } : Dev) = d.put Reg.PWR_WAKE_STAT.QUEUED r.length := rfl
  refine ⟨by simp [h], ?_, ?_, by rw [hwake, h]; rfl, fun b hb => ?_, ?_, ?_, ?_, fun k hk => ?_⟩
  · rw [heq]
    split <;> rfl
  · rw [hwake, h]
    exact congrArg (· ++ [s]) hg
  · have hcov := (covers_iff s).1 hc b hb
    rw [hwake, h]
    show w1.level b + (List.map (fun q : Nat × Nat => d.wakeStep q.1 b) [(s, age)]).sum = d.wake.level b
    rw [hl b hb]
    simp only [List.map_cons, List.map_nil, List.sum_cons, List.sum_nil]
    omega
  · rw [hfld (by decide), h]
    exact (Dev.put_other _ _ (by decide)).trans (Dev.fld_put_same ..)
  · rw [hfld (by decide), h]
    refine (Dev.fld_put_same ..).trans ?_
    rw [hmax]
    exact Nat.mod_eq_of_lt (show min 65535 (max age (d.fld Reg.PWR_WAKE_STAT.MAX_DELAY)) < 2 ^ 16 by omega)
  · have hex : (∃ q ∈ d.wake.queue.take 1, 500 < q.2) ↔ 500 < age := by rw [h]; simp
    rw [heq]
    by_cases ha : 500 < age
    · rw [if_pos ha, if_pos (hex.2 ha)]
      exact Dev.fld_put_same ..
    · rw [if_neg ha, if_neg (hex.not.2 ha)]
      exact (Dev.put_other _ _ (by decide)).trans (Dev.put_other _ _ (by decide))
  · simp only [List.map_cons, List.map_nil, List.mem_cons, List.not_mem_nil, or_false, not_or] at hk
    obtain ⟨h1, h2, h3⟩ := hk
    rw [heq]
    split <;> simp only [d2, d1, Dev.ev, Dev.setWake, Dev.reg_put, if_neg h1, if_neg h2, if_neg h3]

/-- Grants one after the other. -/
theorem Dev.Served.trans {e' : Dev} {t : Nat} (h1 : d.Served e 1) (h2 : e.Served e' t) : d.Served e' (t + 1) := by
  obtain ⟨⟨s, age⟩, r, hq⟩ : ∃ a r, d.wake.queue = a :: r := List.exists_cons_of_ne_nil (List.ne_nil_of_length_pos h1.bound)
  have hr : e.wake.queue = r := by rw [h1.queue, hq]; rfl
  have hb := h2.bound
  rw [hr] at hb
  refine ⟨by rw [hq]; simpa using hb, ?_, ?_, ?_, fun b hb => ?_, ?_, ?_, ?_, fun k hk => (h2.regs k hk).trans (h1.regs k hk)⟩
  · have h := h2.rest
    have h' := h1.rest
    calc ({ e' with regs := d.regs, wake := d.wake } : Dev) = { ({ e' with regs := e.regs, wake := e.wake } : Dev) with regs := d.regs, wake := d.wake } := rfl
      _ = { e with regs := d.regs, wake := d.wake } := by rw [h]
      _ = d := h'
  · rw [h2.granted, h1.granted, hr, hq]
    simp
  · rw [h2.queue, hr, hq]
    rfl
  · have hl1 := h1.level b hb
    have hl2 := h2.level b hb
    have hsteps : (r.take t).map (fun q => e.wakeStep q.1 b) = (r.take t).map fun q => d.wakeStep q.1 b :=
      List.map_congr_left fun q _ => Dev.wakeStep_congr h1.regs q.1 hb
    rw [hr, hsteps] at hl2
    rw [hq] at hl1 ⊢
    simp only [List.take_succ_cons, List.take_zero, List.map_cons, List.map_nil, List.sum_cons, List.sum_nil] at hl1 ⊢
    omega
  · rw [h2.queued, h1.queued, hr, hq]
    by_cases ht : t = 0
    · simp [ht]
    · simp [ht]
  · rw [h2.delay, h1.delay, hr, hq]
    by_cases ht : t = 0
    · simp [ht]
    · have hmin (l : List (Nat × Nat)) (a : Nat) : min 65535 (l.foldl (fun a q => max q.2 a) (min 65535 a)) =
          min 65535 (l.foldl (fun a q => max q.2 a) a) := by
        induction l generalizing a with
        | nil => simp
        | cons q l ih =>
          rw [List.foldl_cons, List.foldl_cons, ← ih, ← ih (max q.2 a)]
          congr 2
          omega
      simp only [if_neg ht, Nat.succ_ne_zero, one_ne_zero, if_false, List.take_succ_cons, List.take_zero,
        List.foldl_cons, List.foldl_nil]
      exact hmin _ _
  · rw [h2.late, h1.late, hr, hq]
    simp only [List.take_succ_cons, List.take_zero, List.mem_cons, List.not_mem_nil, or_false, exists_eq_left, exists_eq_or_imp]
    by_cases ha : 500 < age
    · rw [if_pos (Or.inl ha), if_pos ha]
      exact ite_self _
    · rw [if_neg ha]
      simp only [ha, false_or]

/-- The arbiter grants from the head of the queue for as long as every bucket covers the head's step. -/
theorem Dev.wakeServe_served (n : Nat) (d : Dev) (hn : d.wake.queue.length ≤ n) : ∃ t, d.Served (d.wakeServe n) t ∧
    ∀ q, (d.wake.queue.drop t).head? = some q → ∃ b, b < 4 ∧ (d.wakeServe n).wake.level b < d.wakeStep q.1 b := by
  induction n generalizing d with
  | zero =>
    refine ⟨0, .none d, fun q hq => ?_⟩
    rw [List.length_eq_zero_iff.1 (Nat.le_zero.1 hn)] at hq
    cases hq
  | succ n ih =>
    cases hq : d.wake.queue with
    | nil =>
      rw [d.wakeServe_nil _ hq]
      exact ⟨0, .none d, fun q h => by cases h⟩
    | cons a r =>
      obtain ⟨s, age⟩ := a
      rw [d.wakeServe_cons n hq]
      by_cases hc : d.covers s = true
      · have hone := Dev.grant_served hq hc
        have hr : (d.grant s age r).wake.queue = r := by rw [hone.queue, hq]; rfl
        obtain ⟨t, hserved, hend⟩ := ih (d.grant s age r) (by rw [hr]; rw [hq] at hn; simpa using hn)
        rw [if_pos hc]
        refine ⟨t + 1, hone.trans hserved, fun q h => ?_⟩
        obtain ⟨b, hb, hlt⟩ := hend q (by rwa [hr])
        exact ⟨b, hb, by rwa [Dev.wakeStep_congr hone.regs q.1 hb] at hlt⟩
      · rw [if_neg hc]
        refine ⟨0, .none d, fun q h => ?_⟩
        cases h
        rw [covers_iff] at hc
        push Not at hc
        exact hc

variable {d e : Dev}

/-! ### A cycle of the arbiter -/

/-- The buckets after a cycle's gain. -/
def Dev.gained (e : Dev) : WakeSt :=
  (List.range 4).foldl (fun (w : WakeSt) b => w.setLevel b (min (e.wakeDepth b) (w.level b + e.fld (Reg.PWR_WAKE_BKT.RATE b)))) e.wake

theorem Dev.gained_rest (e : Dev) : e.gained.queue = e.wake.queue ∧ e.gained.granted = e.wake.granted := ⟨rfl, rfl⟩

/-- The requests left age by the cycle. -/
def Dev.aged (d : Dev) : Dev := { d with wake := { d.wake with queue := d.wake.queue.map (fun g => (g.1, g.2 + 1)) } }

theorem Dev.wakeCycle_eq (e : Dev) : e.wakeCycle =
    (if e.powerOn = true then ({ e with wake := e.gained } : Dev).wakeServe e.wake.queue.length else { e with wake := e.gained }).aged := rfl

theorem Dev.powerOn_iff (e : Dev) : e.powerOn = true ↔ e.seq = sqOn := by
  unfold Dev.powerOn Dev.seq
  by_cases h : e.fld Reg.PWR_STAT.SEQ = 0
  · cases e.held.rails <;> simp [h, sqOff, sqOn]
  · simp [h, sqOff, sqOn]

/-! ### Sleep -/

theorem Dev.txAsleep_idle {p : Nat} (h : (d.mac p).tx = none) : d.txAsleep p = d := by
  simp only [Dev.txAsleep, h]

theorem Dev.txAsleep_busy {p : Nat} {t : TxFrame} (h : (d.mac p).tx = some t) : d.txAsleep p =
    (d.txOut p t (t.data.take (d.sentSoFar p t)) false).setMac p { d.mac p with tx := some { t with cut := true } } := by
  simp only [Dev.txAsleep, h]

theorem Dev.txOut_rest (d : Dev) (p : Nat) (t : TxFrame) (b : List Byte) (ok : Bool) : { d.txOut p t b ok with out := d.out } = d := by
  unfold Dev.txOut Dev.iff
  split <;> rfl

theorem Dev.txAsleep_spec (d : Dev) (p : Nat) : ((d.txAsleep p).mac p).tx = (d.mac p).tx.map (fun t => { t with cut := true }) ∧
    (∀ q, q ≠ p → (d.txAsleep p).mac q = d.mac q) ∧ (d.txAsleep p).regs = d.regs ∧ { d.txAsleep p with macs := d.macs, out := d.out } = d := by
  cases ht : (d.mac p).tx with
  | none =>
    rw [Dev.txAsleep_idle ht, ht]
    exact ⟨rfl, fun _ _ => rfl, rfl, rfl⟩
  | some t =>
    have hrest := d.txOut_rest p t (t.data.take (d.sentSoFar p t)) false
    rw [Dev.txAsleep_busy ht]
    refine ⟨by rw [Dev.mac_setMac]; rfl, fun q hq => ?_, (congrArg Dev.regs hrest :),
      (congrArg (fun z : Dev => { z with macs := d.macs, out := d.out }) hrest :)⟩
    exact (Dev.mac_setMac_ne _ p _ hq).trans (congrArg (fun z : Dev => z.mac q) hrest :)

theorem Dev.each_txAsleep (n : Nat) (l : List Nat) (hl : l.Nodup) (d : Dev) : let e := d.each l (fun d j => d.txAsleep (4 * n + j))
    (∀ j ∈ l, (e.mac (4 * n + j)).tx = (d.mac (4 * n + j)).tx.map (fun t => { t with cut := true })) ∧
      (∀ j, j ∉ l → e.mac (4 * n + j) = d.mac (4 * n + j)) ∧ e.regs = d.regs ∧ { e with macs := d.macs, out := d.out } = d := by
  induction l generalizing d with
  | nil => exact ⟨by simp, fun _ _ => rfl, rfl, rfl⟩
  | cons k r ih =>
    obtain ⟨hk, hr⟩ := List.nodup_cons.1 hl
    obtain ⟨htx, hne, hregs, hrest⟩ := d.txAsleep_spec (4 * n + k)
    obtain ⟨h1, h2, h3, h4⟩ := ih hr (d.txAsleep (4 * n + k))
    refine ⟨fun j hj => ?_, fun j hj => ?_, h3.trans hregs, ?_⟩
    · rcases List.mem_cons.1 hj with rfl | hj
      · exact (congrArg Mac.tx (h2 j hk)).trans htx
      · refine (h1 j hj).trans ?_
        rw [hne _ fun h => hk (by rw [← Nat.add_left_cancel h]; exact hj)]
    · simp only [List.mem_cons, not_or] at hj
      exact (h2 j hj.2).trans (hne _ fun h => hj.1 (Nat.add_left_cancel h))
    · have hback (x : Dev) (h : ({ x with macs := (d.txAsleep (4 * n + k)).macs, out := (d.txAsleep (4 * n + k)).out } : Dev) = d.txAsleep (4 * n + k)) :
          ({ x with macs := d.macs, out := d.out } : Dev) = d :=
        (congrArg (fun z : Dev => { z with macs := d.macs, out := d.out }) h).trans hrest
      exact hback _ h4

/-- What falls asleep, is ready and whose clock recovery stops are different fields. -/
theorem dirFlds_apart (x : LaneDir) : ((asleepFlds x ++ readyFlds x ++ cdrFlds x).map Fld.key).Nodup := by
  cases x <;>
    simp only [asleepFlds, readyFlds, cdrFlds, List.cons_append, List.nil_append, List.map_cons, List.map_nil, Fld.key, Reg.SL_STAT.TX_ASLEEP,
      Reg.SL_STAT.RX_ASLEEP, Reg.RP_PHY_STAT.TX_ASLEEP, Reg.RP_PHY_STAT.RX_ASLEEP, Reg.RP_LANE_STAT.TX_ASLEEP, Reg.RP_LANE_STAT.RX_ASLEEP,
      Reg.SL_STAT.TX_READY, Reg.SL_STAT.RX_READY, Reg.RP_LANE_STAT.TX_READY, Reg.RP_LANE_STAT.RX_READY, Reg.SL_STAT.CDR_LOCK,
      Reg.RP_LANE_STAT.CDR_LOCK, List.nodup_cons, List.mem_cons, List.not_mem_nil, or_false, not_or, List.nodup_nil, and_true, not_false_eq_true] <;>
    omega

/-- Every field of a direction holds both values of a bit. -/
theorem dirFlds_w (x : LaneDir) : ∀ f ∈ asleepFlds x ++ readyFlds x ++ cdrFlds x, f.w = 1 := by
  cases x <;>
    simp only [asleepFlds, readyFlds, cdrFlds, List.cons_append, List.nil_append, List.forall_mem_cons, List.not_mem_nil, false_implies,
      implies_true, and_true] <;>
    simp only [Reg.SL_STAT.TX_ASLEEP, Reg.SL_STAT.RX_ASLEEP, Reg.RP_PHY_STAT.TX_ASLEEP, Reg.RP_PHY_STAT.RX_ASLEEP, Reg.RP_LANE_STAT.TX_ASLEEP,
      Reg.RP_LANE_STAT.RX_ASLEEP, Reg.SL_STAT.TX_READY, Reg.SL_STAT.RX_READY, Reg.RP_LANE_STAT.TX_READY, Reg.RP_LANE_STAT.RX_READY,
      Reg.SL_STAT.CDR_LOCK, Reg.RP_LANE_STAT.CDR_LOCK, and_self]

theorem Dev.putAll_puts (d : Dev) (l : List Fld) (v : Nat) : d.putAll l v = d.puts (l.map fun f => (f, v)) := by
  unfold Dev.putAll Dev.puts Dev.each
  rw [List.foldl_map]

/-- Fields of a direction written with bits. -/
theorem Dev.dirPuts (d : Dev) (x : LaneDir) (a r : Nat) (ha : a < 2) (hr : r < 2) :
    d.Sets ((d.putAll (asleepFlds x) a).putAll (readyFlds x) r) ((asleepFlds x).map (fun f => (f, a)) ++ (readyFlds x).map (fun f => (f, r))) ∧
    d.Sets (((d.putAll (asleepFlds x) a).putAll (readyFlds x) r).putAll (cdrFlds x) 0)
      ((asleepFlds x).map (fun f => (f, a)) ++ (readyFlds x).map (fun f => (f, r)) ++ (cdrFlds x).map (fun f => (f, 0))) := by
  have hkeys (l : List Fld) (v : Nat) : (l.map fun f => (f, v)).map (fun y : Fld × Nat => y.1.key) = l.map Fld.key := by
    rw [List.map_map]
    rfl
  have hw := dirFlds_w x
  have hn := dirFlds_apart x
  have hall {l : List (Fld × Nat)} (hl : ∀ y ∈ l, y.1 ∈ asleepFlds x ++ readyFlds x ++ cdrFlds x ∧ y.2 < 2) : ∀ y ∈ l, y.2 < 2 ^ y.1.w :=
    fun y hy => by rw [hw _ (hl y hy).1]; exact (hl y hy).2
  simp only [Dev.putAll_puts, ← Dev.puts_append]
  refine ⟨Dev.puts_sets ?_ (hall fun y hy => ?_) d, Dev.puts_sets ?_ (hall fun y hy => ?_) d⟩
  · rw [List.map_append, hkeys, hkeys, ← List.map_append]
    rw [List.map_append] at hn
    exact (List.nodup_append.1 hn).1
  · rcases List.mem_append.1 hy with hy | hy <;> obtain ⟨f, hf, rfl⟩ := List.mem_map.1 hy
    · exact ⟨by simp [hf], ha⟩
    · exact ⟨by simp [hf], hr⟩
  · rwa [List.map_append, List.map_append, hkeys, hkeys, hkeys, ← List.map_append, ← List.map_append]
  · rcases List.mem_append.1 hy with hy | hy
    · rcases List.mem_append.1 hy with hy | hy <;> obtain ⟨f, hf, rfl⟩ := List.mem_map.1 hy
      · exact ⟨by simp [hf], ha⟩
      · exact ⟨by simp [hf], hr⟩
    · obtain ⟨f, hf, rfl⟩ := List.mem_map.1 hy
      exact ⟨by simp [hf], Nat.zero_lt_two⟩

section Sleep
variable (s : State)

theorem sleepEnters (hup : s.dev.mainUp = true) (x : LaneDir) : let e := s.dev
    let sleeps := e.dirHere x = true ∧ e.sleepCond x = true ∧ e.asleep x = false
    (sleeps → Effect (.sleepEntry x) s (fun d => (e.sleepCut x).Sets d ((asleepFlds x).map (fun f => (f, 1)) ++ (readyFlds x).map (fun f => (f, 0)) ++
      (cdrFlds x).map (fun f => (f, 0))))) ∧ (¬ sleeps → Does (.sleepEntry x) s e) := by
  intro e sleeps
  have hdoes : Does (.sleepEntry x) s (e.sleepEnter x) := .of_main_eq (exec_sleepEntry ..) hup rfl
  have hc : (e.dirHere x && e.sleepCond x && !e.asleep x) = true ↔ sleeps := by
    simp only [Bool.and_eq_true, Bool.not_eq_true', sleeps, and_assoc]
  refine ⟨fun h => ⟨_, hdoes, ?_⟩, fun h => ?_⟩
  · rw [Dev.sleepEnter, if_pos (hc.2 h)]
    exact ((e.sleepCut x).dirPuts x 1 0 (by decide) (by decide)).2
  · rwa [Dev.sleepEnter, if_neg (hc.not.2 h)] at hdoes

/-- What a source's request does: it asks where it may, once. -/
theorem requestAsks (hup : s.dev.mainUp = true) (y : WakeSrc) (asks : Prop) [Decidable asks]
    (h : s.dev.wakeRequest y = if asks then s.dev.wakeAsk y.num else s.dev) : let e := s.dev
    let there := e.wake.queue.any (fun q => q.1 == y.num) = true ∨ y.num ∈ e.wake.granted
    (asks → ¬ there → Effect (.wakeRequest y) s (fun d =>
      { e with wake := { e.wake with queue := wakeInsert y.num e.wake.queue } }.Sets d
        [(Reg.PWR_WAKE_STAT.QUEUED, (e.wake.queue.length + 1) % 256)])) ∧
    (¬ asks ∨ there → Does (.wakeRequest y) s e) := by
  intro e there
  have hdoes : Does (.wakeRequest y) s (if asks then e.wakeAsk y.num else e) := .of_main_eq (exec_wakeRequest ..) hup h
  have hthere : ¬ there ↔ e.wake.queue.any (fun q => q.1 == y.num) = false ∧ y.num ∉ e.wake.granted := by
    rw [not_or, Bool.not_eq_true]
  refine ⟨fun ha ht => ⟨_, hdoes, ?_⟩, fun hn => ?_⟩
  · obtain ⟨hq, hg⟩ := hthere.1 ht
    rw [if_pos ha]
    exact Dev.wakeAsk_new hq hg
  · by_cases ha : asks
    · rw [if_pos ha, Dev.wakeAsk_again (fun h => (hthere.2 h) (hn.resolve_left (not_not.2 ha)))] at hdoes
      exact hdoes
    · rwa [if_neg ha] at hdoes

theorem notGranted (hup : s.dev.mainUp = true) (y : WakeSrc) (h : y.num ∉ s.dev.wake.granted) : Does (.wakeComplete y) s s.dev :=
  .of_main_eq (exec_wakeComplete ..) hup (if_neg h)

/-- The device with a grant taken up. -/
def Dev.grantEnds (e : Dev) (i : Nat) : Dev := { e with wake := { e.wake with granted := e.wake.granted.filter (· != i) } }

theorem wakeCompletes (hup : s.dev.mainUp = true) (x : LaneDir) (h : (WakeSrc.lane x).num ∈ s.dev.wake.granted) : let e := s.dev
    (e.dirHere x = true → ∃ d, Does (.wakeComplete (.lane x)) s (d.readyCtl x) ∧ (e.grantEnds (WakeSrc.lane x).num).Sets d
      ((asleepFlds x).map (fun f => (f, 0)) ++ (readyFlds x).map (fun f => (f, 1)))) ∧
    (e.dirHere x = false → Does (.wakeComplete (.lane x)) s (e.grantEnds (WakeSrc.lane x).num)) := by
  intro e
  have hhere : (e.grantEnds (WakeSrc.lane x).num).dirHere x = e.dirHere x := by cases x <;> rfl
  have hdoes : Does (.wakeComplete (.lane x)) s (if (e.grantEnds (WakeSrc.lane x).num).dirHere x = true then
      (((e.grantEnds (WakeSrc.lane x).num).putAll (asleepFlds x) 0).putAll (readyFlds x) 1).readyCtl x
      else e.grantEnds (WakeSrc.lane x).num) := .of_main_eq (exec_wakeComplete ..) hup (if_pos h)
  rw [hhere] at hdoes
  refine ⟨fun hx => ?_, fun hx => ?_⟩
  · rw [if_pos hx] at hdoes
    exact ⟨_, hdoes, ((e.grantEnds (WakeSrc.lane x).num).dirPuts x 0 1 (by decide) (by decide)).1⟩
  · rwa [if_neg (by simp [hx])] at hdoes

theorem sliceWakes (hup : s.dev.mainUp = true) (k : Fin 4) (h : 232 + k.val ∈ s.dev.wake.granted) : let e := s.dev
    let open_ := bitOf (e.fld Reg.PWR_GATE.SLICE) k = false
    (open_ → Effect (.wakeComplete (.slice k)) s (fun d => bitOf d.wake.off k = false ∧ 232 + k.val ∉ d.wake.granted ∧ d.regs = e.regs)) ∧
    (¬ open_ → Does (.wakeComplete (.slice k)) s (e.grantEnds (232 + k))) := by
  intro e open_
  let d1 := e.grantEnds (232 + k)
  have hdoes : Does (.wakeComplete (.slice k)) s (if bitOf (e.fld Reg.PWR_GATE.SLICE) k = true then d1
      else { d1 with wake := { d1.wake with off := setBit d1.wake.off k false } }) := .of_main_eq (exec_wakeComplete ..) hup (if_pos h)
  refine ⟨fun ho => ⟨_, hdoes, ?_⟩, fun ho => ?_⟩
  · rw [if_neg (by rw [show bitOf (e.fld Reg.PWR_GATE.SLICE) k = false from ho]; decide)]
    refine ⟨?_, ?_, rfl⟩
    · show bitOf (setBit e.wake.off k false) k = false
      rw [bitOf_setBit, if_pos rfl]
    · intro hm
      exact absurd (List.mem_filter.1 hm).2 (by simp)
  · rwa [if_pos (by simpa [open_] using ho)] at hdoes

theorem dramWakes (hup : s.dev.mainUp = true) (c : Fin 4) (h : 236 + c.val ∈ s.dev.wake.granted) :
    Does (.wakeComplete (.dram c)) s (s.dev.grantEnds (236 + c)) := .of_main_eq (exec_wakeComplete ..) hup (if_pos h)

theorem arbiterCycle (hup : s.dev.cremaUp = true) : let e := s.dev
    (e.powerOn = false → Does .wakeGrant s { e with wake := { e.gained with queue := e.wake.queue.map (fun g => (g.1, g.2 + 1)) } }) ∧
    (e.powerOn = true → Effect .wakeGrant s (fun d => ∃ t, t ≤ e.wake.queue.length ∧
      let got := e.wake.queue.take t
      let rest := e.wake.queue.drop t
      { d with regs := e.regs, wake := e.wake } = e ∧ d.wake.granted = e.wake.granted ++ got.map (·.1) ∧ d.wake.queue = rest.map (fun g => (g.1, g.2 + 1)) ∧
      (∀ b < 4, d.wake.level b + (got.map (fun q => e.wakeStep q.1 b)).sum = e.gained.level b) ∧
      (∀ q, rest.head? = some q → ∃ b, b < 4 ∧ d.wake.level b < e.wakeStep q.1 b) ∧
      e.Regs d (if t = 0 then [] else [(Reg.PWR_WAKE_STAT.QUEUED, rest.length % 256), (Reg.PWR_WAKE_STAT.MAX_DELAY,
        min 65535 (got.foldl (fun a q => max q.2 a) (e.fld Reg.PWR_WAKE_STAT.MAX_DELAY)))] ++
          if ∃ q ∈ got, 500 < q.2 then [(Reg.PWR_EVT.WAKE_LATE, 1)] else []))) := by
  intro e
  have hdoes : Does .wakeGrant s e.wakeCycle := .of_crema (exec_wakeGrant _) hup
  rw [Dev.wakeCycle_eq] at hdoes
  refine ⟨fun hp => ?_, fun hp => ⟨_, hdoes, ?_⟩⟩
  · rwa [if_neg (by simp [hp])] at hdoes
  rw [if_pos hp]
  obtain ⟨t, hs, hend⟩ := Dev.wakeServe_served e.wake.queue.length { e with wake := e.gained } (le_refl _)
  generalize Dev.wakeServe _ _ = x at hs hend
  have hq : e.gained.queue = e.wake.queue := rfl
  refine ⟨t, hs.bound, ?_, hs.granted, congrArg (List.map _) hs.queue, hs.level, hend, ?_⟩
  · exact (congrArg (fun z : Dev => { z with wake := e.wake }) hs.rest :)
  have hfld (f : Fld) : x.aged.fld f = x.fld f := rfl
  by_cases ht : t = 0
  · rw [if_pos ht]
    subst ht
    refine ⟨by simp, fun k _ => ?_⟩
    by_cases hk : k ∈ [Reg.PWR_WAKE_STAT.QUEUED, Reg.PWR_WAKE_STAT.MAX_DELAY, Reg.PWR_EVT.WAKE_LATE].map Fld.key
    · simp only [List.map_cons, List.map_nil, List.mem_cons, List.not_mem_nil, or_false] at hk
      rcases hk with rfl | rfl | rfl
      · exact hs.queued
      · exact hs.delay
      · exact hs.late.trans (by simp; rfl)
    · exact hs.regs k hk
  · rw [if_neg ht]
    have hqd : x.fld Reg.PWR_WAKE_STAT.QUEUED = (e.wake.queue.drop t).length % 256 := hs.queued.trans (if_neg ht)
    have hmd : x.fld Reg.PWR_WAKE_STAT.MAX_DELAY = min 65535 ((e.wake.queue.take t).foldl (fun a q => max q.2 a)
        (e.fld Reg.PWR_WAKE_STAT.MAX_DELAY)) := hs.delay.trans (if_neg ht)
    have hlate : x.fld Reg.PWR_EVT.WAKE_LATE = if ∃ q ∈ e.wake.queue.take t, 500 < q.2 then 1 else e.fld Reg.PWR_EVT.WAKE_LATE := hs.late
    by_cases hl : ∃ q ∈ e.wake.queue.take t, 500 < q.2
    · rw [if_pos hl] at hlate ⊢
      refine ⟨?_, hs.regs⟩
      simp only [List.cons_append, List.nil_append, List.forall_mem_cons, List.not_mem_nil, false_implies, implies_true, and_true]
      exact ⟨hqd, hmd, hlate⟩
    · rw [if_neg hl] at hlate ⊢
      refine ⟨?_, fun k hk => ?_⟩
      · simp only [List.append_nil, List.forall_mem_cons, List.not_mem_nil, false_implies, implies_true, and_true]
        exact ⟨hqd, hmd⟩
      · by_cases hkl : k = Reg.PWR_EVT.WAKE_LATE.key
        · subst hkl
          exact hlate
        · refine hs.regs k fun hm => hk ?_
          simp only [List.append_nil, List.map_cons, List.map_nil, List.mem_cons, List.not_mem_nil, or_false] at hm ⊢
          tauto

end Sleep

variable {d e : Dev}

section Assembly
variable (s : State) (hup : s.dev.mainUp = true)
include hup

theorem laneAsks (x : LaneDir) (asks : Prop) [Decidable asks]
    (h : asks ↔ s.dev.dirHere x = true ∧ s.dev.asleep x = true ∧ s.dev.wakeCond x = true) : let e := s.dev
    let there := e.wake.queue.any (fun q => q.1 == (WakeSrc.lane x).num) = true ∨ (WakeSrc.lane x).num ∈ e.wake.granted
    (asks → ¬ there → Effect (.wakeRequest (.lane x)) s (fun d =>
      { e with wake := { e.wake with queue := wakeInsert (WakeSrc.lane x).num e.wake.queue } }.Sets d
        [(Reg.PWR_WAKE_STAT.QUEUED, (e.wake.queue.length + 1) % 256)])) ∧
    (¬ asks ∨ there → Does (.wakeRequest (.lane x)) s e) := by
  refine requestAsks s hup (.lane x) asks ?_
  have hc : (s.dev.dirHere x && s.dev.asleep x && s.dev.wakeCond x) = true ↔ asks := by
    rw [h]
    simp only [Bool.and_eq_true, and_assoc]
  show (if (s.dev.dirHere x && s.dev.asleep x && s.dev.wakeCond x) = true then s.dev.wakeAsk _ else s.dev) = _
  simp only [hc]

theorem sliceAsks (k : Fin 4) : let e := s.dev
    let asks := bitOf e.wake.off k = true ∧ bitOf (e.fld Reg.PWR_GATE.SLICE) k = false
    let there := e.wake.queue.any (fun q => q.1 == (WakeSrc.slice k).num) = true ∨ (WakeSrc.slice k).num ∈ e.wake.granted
    (asks → ¬ there → Effect (.wakeRequest (.slice k)) s (fun d =>
      { e with wake := { e.wake with queue := wakeInsert (WakeSrc.slice k).num e.wake.queue } }.Sets d
        [(Reg.PWR_WAKE_STAT.QUEUED, (e.wake.queue.length + 1) % 256)])) ∧
    (¬ asks ∨ there → Does (.wakeRequest (.slice k)) s e) := by
  intro e asks
  refine requestAsks s hup (.slice k) asks ?_
  show (if (bitOf e.wake.off k && !bitOf (e.fld Reg.PWR_GATE.SLICE) k) = true then e.wakeAsk _ else e) = _
  simp only [Bool.and_eq_true, Bool.not_eq_true', asks]
  rfl

theorem dramAsks (c : Fin 4) : Does (.wakeRequest (.dram c)) s s.dev := .of_main_eq (exec_wakeRequest ..) hup rfl

/-- The requests and completions of every source, given those of the direction. -/
theorem requestsOf (x : LaneDir) (k c : Fin 4) (asks : WakeSrc → Prop)
    (hx : asks (.lane x) ↔ s.dev.dirHere x = true ∧ s.dev.asleep x = true ∧ s.dev.wakeCond x = true)
    (hk : asks (.slice k) ↔ bitOf s.dev.wake.off k = true ∧ bitOf (s.dev.fld Reg.PWR_GATE.SLICE) k = false) (hc : ¬ asks (.dram c)) :
    let e := s.dev
    let there := fun (y : WakeSrc) => e.wake.queue.any (fun q => q.1 == y.num) = true ∨ y.num ∈ e.wake.granted
    ∀ y ∈ [WakeSrc.lane x, .slice k, .dram c],
      (asks y → ¬ there y → Effect (.wakeRequest y) s (fun d =>
          { e with wake := { e.wake with queue := wakeInsert y.num e.wake.queue } }.Sets d
            [(Reg.PWR_WAKE_STAT.QUEUED, (e.wake.queue.length + 1) % 256)])) ∧
        (¬ asks y ∨ there y → Does (.wakeRequest y) s e) ∧ (y.num ∉ e.wake.granted → Does (.wakeComplete y) s e) := by
  intro e there
  have := Classical.propDecidable (asks (.lane x))
  obtain ⟨l1, l2⟩ := laneAsks s hup x (asks (.lane x)) hx
  obtain ⟨k1, k2⟩ := sliceAsks s hup k
  simp only [List.forall_mem_cons, List.not_mem_nil, false_implies, implies_true, and_true]
  exact ⟨⟨l1, l2, notGranted s hup _⟩, ⟨fun ha => k1 (hk.1 ha), fun hn => k2 (hn.imp_left fun h ha => h (hk.2 ha)), notGranted s hup _⟩,
    ⟨fun ha => absurd ha hc, fun _ => dramAsks s hup c, notGranted s hup _⟩⟩

end Assembly

theorem Dev.wakeCond_iff (d : Dev) (x : LaneDir) (h : ∀ n, x ≠ .subRx n) : d.wakeCond x = true ↔ d.sleepCond x = false ∨ False := by
  cases x with
  | subRx n => exact absurd rfl (h n)
  | subTx n => simp [Dev.wakeCond]
  | riserTx p => simp [Dev.wakeCond]
  | riserRx p => simp [Dev.wakeCond]

theorem Dev.wakeCond_rx (d : Dev) (n : Fin 112) : d.wakeCond (.subRx n) = true ↔ d.sleepCond (.subRx n) = false ∨
    d.on (Reg.SL_STAT.SIGNAL n) = true ∧ d.on (Reg.SM_PORT_STAT.LPI_RX n 0) = true ∧ d.on (Reg.SL_SLEEP_CTRL.RX_FORCE n) = false := by
  simp only [Dev.wakeCond, Dev.energyWake, Bool.or_eq_true, Bool.and_eq_true, Bool.not_eq_true', and_assoc]

/-- Settles O51: each direction by its kind; the arbiter by the induction on its grants. -/
theorem sleepAndWake : Obligations.SleepAndWake := by
  intro s x k c hcup
  obtain ⟨g1, g2⟩ := arbiterCycle s hcup
  have hcut : ∀ n : Fin 112, _ := fun n : Fin 112 => Dev.each_txAsleep n (List.range 4) List.nodup_range s.dev
  have hrest (hup : s.dev.mainUp = true) := And.intro (sleepEnters s hup x) (And.intro (wakeCompletes s hup x) (sliceWakes s hup k))
  cases x with
  | subTx n =>
    obtain ⟨htx, -, hregs, hmac⟩ := hcut n
    refine ⟨fun hup => ?_, s.dev.powerOn_iff, ⟨fun j hj => htx j (List.mem_range.2 hj), hregs, hmac⟩, wakeInsert_facts, g1, g2⟩
    obtain ⟨⟨a1, a2⟩, hw, hs⟩ := hrest hup
    exact ⟨a1, a2, requestsOf s hup _ k c _ (by rw [Dev.wakeCond_iff _ _ (by simp)]) Iff.rfl id, fun hg hd => (hw hg).1 hd, fun hg hd => (hw hg).2 hd,
      fun hg => (hs hg).1, fun hg => (hs hg).2, dramWakes s hup c⟩
  | subRx n =>
    refine ⟨fun hup => ?_, s.dev.powerOn_iff, rfl, wakeInsert_facts, g1, g2⟩
    obtain ⟨⟨a1, a2⟩, hw, hs⟩ := hrest hup
    exact ⟨a1, a2, requestsOf s hup _ k c _ (by rw [Dev.wakeCond_rx]) Iff.rfl id, fun hg hd => (hw hg).1 hd, fun hg hd => (hw hg).2 hd,
      fun hg => (hs hg).1, fun hg => (hs hg).2, dramWakes s hup c⟩
  | riserTx p =>
    refine ⟨fun hup => ?_, s.dev.powerOn_iff, rfl, wakeInsert_facts, g1, g2⟩
    obtain ⟨⟨a1, a2⟩, hw, hs⟩ := hrest hup
    exact ⟨a1, a2, requestsOf s hup _ k c _ (by rw [Dev.wakeCond_iff _ _ (by simp)]) Iff.rfl id, fun hg hd => (hw hg).1 hd, fun hg hd => (hw hg).2 hd,
      fun hg => (hs hg).1, fun hg => (hs hg).2, dramWakes s hup c⟩
  | riserRx p =>
    refine ⟨fun hup => ?_, s.dev.powerOn_iff, rfl, wakeInsert_facts, g1, g2⟩
    obtain ⟨⟨a1, a2⟩, hw, hs⟩ := hrest hup
    exact ⟨a1, a2, requestsOf s hup _ k c _ (by rw [Dev.wakeCond_iff _ _ (by simp)]) Iff.rfl id, fun hg hd => (hw hg).1 hd, fun hg hd => (hw hg).2 hd,
      fun hg => (hs hg).1, fun hg => (hs hg).2, dramWakes s hup c⟩

end Sys2Proof.Machine
end

section
/-!
PROOFS. O39: the end of a pass, what it disposes of a frame, and recirculation (spec/06). Each function of Machine/Classifier.lean is
given an equation for each of its branches.
-/
namespace Sys2Proof.Machine

variable {d e : Dev}

/-! ### The end of a pass -/

theorem Dev.slice_cold (d : Dev) (k : Nat) {x : Slice} (h : d.slice k = x) : Tbl.get d.slices k {} = x := h

theorem pclCnt_apart (k c : Nat) (hc : c < 16) : Reg.PCL_GEN_STAT.ACT_TAG.key ≠ (Reg.PCL_CNT.COUNT k c).key := by
  simp only [Fld.key, Reg.PCL_GEN_STAT.ACT_TAG, Reg.PCL_CNT.COUNT]
  omega

/-- What the tables show does not depend on the slices, the counters or the free values. -/
theorem Dev.look_congr (hg : e.gen = d.gen) (ha : e.fld Reg.PCL_GEN_STAT.ACT_TAG = d.fld Reg.PCL_GEN_STAT.ACT_TAG) (t loc g : Nat) :
    e.look .pcl t loc g = d.look .pcl t loc g := by
  simp only [Dev.look, Dev.fam, Dev.actTag, hg, ha]

theorem Dev.parseOpt_congr (hg : e.gen = d.gen) (ha : e.fld Reg.PCL_GEN_STAT.ACT_TAG = d.fld Reg.PCL_GEN_STAT.ACT_TAG) (tag : Nat) :
    e.parseOpt tag = d.parseOpt tag := by
  simp only [Dev.parseOpt, Dev.look_congr hg ha]

/-- The device as the pass of a frame ends. -/
def Dev.passTaken (d : Dev) (k : Nat) (f : Frame) (r : List Frame) : Dev :=
  (d.setSlice k { d.slice k with passes := r }).pclCnt k (if f.second then 1 else 0)

theorem Dev.passTaken_look (d : Dev) (k : Nat) (f : Frame) (r : List Frame) : (d.passTaken k f r).gen = d.gen ∧
    (d.passTaken k f r).fld Reg.PCL_GEN_STAT.ACT_TAG = d.fld Reg.PCL_GEN_STAT.ACT_TAG := by
  refine ⟨rfl, Dev.put_other _ _ (pclCnt_apart _ _ ?_)⟩
  split <;> decide

theorem Dev.passEnd_still {k : Nat} (h : bitOf d.wake.off k = true ∨ (d.slice k).passes = []) : d.passEnd k = d := by
  unfold Dev.passEnd
  have hnone : (if bitOf d.wake.off k then [] else (d.slice k).passes) = [] := by
    rcases h with h | h
    · exact if_pos h
    · rw [h]; exact ite_self _
  rw [hnone]

/-- The three counts of a first pass. -/
def Dev.passCounts (d : Dev) (k : Nat) (first : Bool) (p : Parsed) : Dev :=
  ((d.iff (first && (p.fragFirst || p.fragLater)) (·.pclCnt k 4)).iff (first && p.malformed) (·.pclCnt k 3)).iff
    (first && p.deep && !p.malformed) (·.pclCnt k 2)

/-- What the global table says of malformed and deep frames; without an entry, a malformed frame is dropped. -/
def Dev.passRule (d : Dev) (tag : Nat) : Nat := ((d.look .pcl 9 4 tag).map (fun w => w.getD 0 0)).getD 4

/-- What a pass does with a frame of which its slice knows `g0`: `y` the device with its counts. -/
def Dev.passGoes (y : Dev) (f : Frame) (g : Nat) (pr : Parsed × Option Parsed) : Dev :=
  let act := if pr.1.malformed then bits g 2 2 else if pr.1.deep then g % 4 else 0
  if act = 0 then y.classify f (if bits g 2 2 = 0 then pr.1.forKeys pr.2 else pr.1)
  else if act = 2 then (y.trap f (bits g 4 8) 1).flightOut f.tag
  else y.flightOut f.tag

theorem Dev.passEnd_failed {k : Nat} {f : Frame} {r : List Frame} (hoff : bitOf d.wake.off k = false) (hp : (d.slice k).passes = f :: r)
    (hf : f.failed = true) : d.passEnd k = (d.passTaken k f r).flightOut f.tag := by
  unfold Dev.passEnd
  rw [if_neg (by simp [hoff]), hp]
  simp only [hf, if_true]
  rfl

theorem Dev.passEnd_ends {k : Nat} {f : Frame} {r : List Frame} (hoff : bitOf d.wake.off k = false) (hp : (d.slice k).passes = f :: r)
    (hf : f.failed = false) : let e1 := d.passTaken k f r
    let pr := (e1.shown f).2.parse (d.parseOpt f.tag)
    d.passEnd k = ((e1.shown f).1.passCounts k (!f.second) pr.1).passGoes f (d.passRule f.tag) pr := by
  intro e1 pr
  unfold Dev.passEnd
  rw [if_neg (by simp [hoff]), hp]
  simp only [hf, Bool.false_eq_true, if_false]
  unfold Dev.passGoes Dev.passRule
  cases hg : d.look .pcl 9 4 f.tag with
  | none => rfl
  | some w => rfl

theorem Dev.passCounts_eq (d : Dev) (k : Nat) (second : Bool) (p : Parsed) : let first := second = false
    let frag := first ∧ (p.fragFirst = true ∨ p.fragLater = true)
    let d2 := if frag then d.pclCnt k 4 else d
    let d3 := if first ∧ p.malformed = true then d2.pclCnt k 3 else d2
    d.passCounts k (!second) p = if first ∧ p.deep = true ∧ p.malformed = false then d3.pclCnt k 2 else d3 := by
  intro first frag d2 d3
  have h1 : d.iff (!second && (p.fragFirst || p.fragLater)) (·.pclCnt k 4) = d2 := by
    simp only [Dev.iff, Bool.and_eq_true, Bool.not_eq_true', Bool.or_eq_true]
    rfl
  have h2 : d2.iff (!second && p.malformed) (·.pclCnt k 3) = d3 := by
    simp only [Dev.iff, Bool.and_eq_true, Bool.not_eq_true']
    rfl
  rw [Dev.passCounts, h1, h2]
  simp only [Dev.iff, Bool.and_eq_true, Bool.not_eq_true', and_assoc]
  rfl

/-! ### Recirculation -/

theorem Dev.recircReturn_still {k : Nat} (h : bitOf d.wake.off k = true ∨ (d.slice k).rqOut = []) : d.recircReturn k = d := by
  unfold Dev.recircReturn
  rcases h with h | h
  · exact if_pos h
  · split
    · rfl
    · simp only [h]

theorem Dev.recircReturn_edited {k : Nat} {f : Frame} {r : List Frame} {b : List Byte} (hoff : bitOf d.wake.off k = false)
    (hq : (d.slice k).rqOut = f :: r) (he : (d.editOut f).2 = some b) : d.recircReturn k =
      (d.editOut f).1.setSlice k { d.slice k with rqOut := r, rqBack := (d.slice k).rqBack ++ [{ f.edited b with edit := none }] } := by
  have hpair : d.editOut f = ((d.editOut f).1, some b) := by rw [← he]
  simp only [Dev.recircReturn, hoff, Bool.false_eq_true, if_false, hq]
  rw [hpair]

theorem Dev.recircReturn_long {k : Nat} {f : Frame} {r : List Frame} (hoff : bitOf d.wake.off k = false)
    (hq : (d.slice k).rqOut = f :: r) (he : (d.editOut f).2 = none) : d.recircReturn k =
      (((d.editOut f).1.release f).setSlice k { d.slice k with rqOut := r }).flightOut f.tag := by
  have hpair : d.editOut f = ((d.editOut f).1, none) := by rw [← he]
  simp only [Dev.recircReturn, hoff, Bool.false_eq_true, if_false, hq]
  rw [hpair]

theorem Dev.recircTimeout_back {k : Nat} {f : Frame} {r : List Frame} (hb : (d.slice k).rqBack = f :: r) : d.recircTimeout k =
    (((d.setSlice k { d.slice k with rqBack := r }).release f).pclCnt k 11).flightOut f.tag := by
  simp only [Dev.recircTimeout, hb]

theorem Dev.recircTimeout_out {k : Nat} {f : Frame} {r : List Frame} (hb : (d.slice k).rqBack = []) (ho : (d.slice k).rqOut = f :: r) :
    d.recircTimeout k = (((d.setSlice k { d.slice k with rqOut := r }).release f).pclCnt k 11).flightOut f.tag := by
  simp only [Dev.recircTimeout, hb, ho]

theorem Dev.recircTimeout_none {k : Nat} (hb : (d.slice k).rqBack = []) (ho : (d.slice k).rqOut = []) : d.recircTimeout k = d := by
  simp only [Dev.recircTimeout, hb, ho]

/-! ### The disposition -/

/-- Where a frame of a result goes that is neither dropped nor red. -/
def Dev.goes (e : Dev) (r : Res) (tag k : Nat) (h : Frame) : Dev :=
  if r.disp = 2 then (e.trap h r.ring 1).flightOut tag
  else if r.disp = 4 then e.recirculate { h with born := e.core } r.rslice
  else match r.flow with
    | some fl => ((if r.disp = 3 then e.trap h r.ring 2 else e).enqueue h fl r.sub).flightOut tag
    | none => ((if r.disp = 3 then e.trap h r.ring 2 else e).pclCnt k 5).flightOut tag

/-- What the policer made of a frame: the device, the colour, the policer that has charged it, and whether it is dropped. -/
def Dev.policed (d : Dev) (f : Frame) (r : Res) : Dev × Nat × Option Nat × Bool :=
  let pre := r.colour.getD (f.hdrColour.getD 0)
  match r.pol.filter d.polRuns with
  | none => (d, if f.polDone.isSome then f.colour else pre, f.polDone, false)
  | some i =>
    if f.polDone = some i then (d, f.colour, f.polDone, false)
    else
      let x := d.police i f.fullLen pre f.tag
      (x.1, x.2, some i, x.2 == 2 && !bitOf (wordOf (d.look .pcl 7 i f.tag) 0) 3)

/-- The frame as a result leaves it. -/
def Dev.disposed (d : Dev) (f : Frame) (r : Res) (c : Nat) (p : Option Nat) : Frame :=
  { f with colour := c, polDone := p, tc := r.tc.or f.hdrTc, cls := d.classOf (r.tc.or f.hdrTc) r.flow f, flow := r.flow,
           edit := r.edit, metaV := r.metaV }

theorem Dev.dispose_eq (d : Dev) (f : Frame) (r : Res) : d.dispose f r =
    if r.disp = 1 ∨ 5 ≤ r.disp then (d.pclCnt f.slice 7).flightOut f.tag
    else if r.disp = 4 ∧ f.second = true then (d.pclCnt f.slice 12).flightOut f.tag
    else if r.disp = 0 ∧ r.flow.isNone = true then (d.pclCnt f.slice 5).flightOut f.tag
    else if (d.policed f r).2.2.2 = true then
      (((d.policed f r).1.pclCnt f.slice 9).iff (r.disp == 3 && r.flow.isNone) (·.pclCnt f.slice 5)).flightOut f.tag
    else (d.policed f r).1.goes r f.tag f.slice (d.disposed f r (d.policed f r).2.1 (d.policed f r).2.2.1) := by
  obtain ⟨disp, rslice, ring, flow, sub, pol, tc, edit, metaV, colour⟩ := r
  have hcopy (x : Dev) (h : Frame) : x.iff (disp == 3) (·.trap h ring 2) = if disp = 3 then x.trap h ring 2 else x := by
    simp only [Dev.iff, beq_iff_eq]
  unfold Dev.dispose Dev.policed Dev.goes
  generalize pol.filter d.polRuns = o
  cases tc <;> cases colour <;> cases flow <;> cases o <;> simp only [hcopy] <;> rfl

variable {d e : Dev}

/-! ### The obligations' forms -/

/-- A frame that has a policer's charge to come, or none at all. -/
theorem Dev.policed_free (d : Dev) (f : Frame) {r : Res} (h : ∀ i, r.pol = some i → d.polRuns i = false) : d.policed f r =
    (d, if f.polDone.isSome then f.colour else r.colour.getD (f.hdrColour.getD 0), f.polDone, false) := by
  have hnone : r.pol.filter d.polRuns = none := by
    cases hp : r.pol with
    | none => rfl
    | some i => simp [Option.filter, h i hp]
  unfold Dev.policed
  rw [hnone]

theorem Dev.policed_runs (d : Dev) (f : Frame) {r : Res} {i : Nat} (hp : r.pol = some i) (hr : d.polRuns i = true) : d.policed f r =
    if f.polDone = some i then (d, f.colour, f.polDone, false)
    else ((d.police i f.fullLen (r.colour.getD (f.hdrColour.getD 0)) f.tag).1, (d.police i f.fullLen (r.colour.getD (f.hdrColour.getD 0)) f.tag).2,
      some i, (d.police i f.fullLen (r.colour.getD (f.hdrColour.getD 0)) f.tag).2 == 2 && !bitOf (wordOf (d.look .pcl 7 i f.tag) 0) 3) := by
  have hsome : r.pol.filter d.polRuns = some i := by
    rw [hp]
    simp [Option.filter, hr]
  unfold Dev.policed
  rw [hsome]

/-- A live result that the policer lets pass goes where it says. -/
theorem Dev.dispose_goes {f : Frame} {r : Res} (h1 : ¬ (r.disp = 1 ∨ 5 ≤ r.disp)) (h2 : ¬ (r.disp = 4 ∧ f.second = true))
    (h3 : ¬ (r.disp = 0 ∧ r.flow = none)) {y : Dev} {c : Nat} {p : Option Nat} (hp : d.policed f r = (y, c, p, false)) :
    d.dispose f r = y.goes r f.tag f.slice (d.disposed f r c p) := by
  rw [Dev.dispose_eq, if_neg h1, if_neg h2, if_neg (by simpa using h3), hp]
  exact if_neg Bool.false_ne_true

theorem Dev.dispose_red {f : Frame} {r : Res} (h1 : ¬ (r.disp = 1 ∨ 5 ≤ r.disp)) (h2 : ¬ (r.disp = 4 ∧ f.second = true))
    (h3 : ¬ (r.disp = 0 ∧ r.flow = none)) {y : Dev} {c : Nat} {p : Option Nat} (hp : d.policed f r = (y, c, p, true)) :
    d.dispose f r = (if r.disp = 3 ∧ r.flow = none then (y.pclCnt f.slice 9).pclCnt f.slice 5 else y.pclCnt f.slice 9).flightOut f.tag := by
  rw [Dev.dispose_eq, if_neg h1, if_neg h2, if_neg (by simpa using h3), hp]
  refine (if_pos rfl).trans ?_
  simp only [Dev.iff, Bool.and_eq_true, beq_iff_eq, Option.isNone_iff_eq_none]

theorem Dev.dispose_out (d : Dev) (f : Frame) (r : Res) :
    (r.disp = 1 ∨ 5 ≤ r.disp → d.dispose f r = (d.pclCnt f.slice 7).flightOut f.tag) ∧
    (r.disp = 4 → f.second = true → d.dispose f r = (d.pclCnt f.slice 12).flightOut f.tag) ∧
    (r.disp = 0 → r.flow = none → d.dispose f r = (d.pclCnt f.slice 5).flightOut f.tag) := by
  refine ⟨fun h => ?_, fun h hs => ?_, fun h hf => ?_⟩
  · rw [Dev.dispose_eq, if_pos h]
  · rw [Dev.dispose_eq, if_neg (by omega), if_pos ⟨h, hs⟩]
  · rw [Dev.dispose_eq, if_neg (by omega), if_neg (by omega), if_pos ⟨h, by simp [hf]⟩]

section Passes
variable (s : State) (hup : s.dev.mainUp = true)
include hup

theorem passEnds (dt : Nat) (k : Fin 4) : let d0 := s.dev.advance dt
    (bitOf d0.wake.off k = true ∨ (d0.slice k).passes = [] → Does (.ingressPassEnd dt k) s d0) ∧
    (∀ f r, bitOf d0.wake.off k = false → (d0.slice k).passes = f :: r →
      let first := f.second = false
      let e1 := (d0.setSlice k { d0.slice k with passes := r }).pclCnt k (if first then 0 else 1)
      let more := min 320 (f.total - 4) - f.data.length
      let d1 := if f.failed = true then e1 else { e1 with freeCtr := e1.freeCtr + more }
      let pr := ({ f with data := f.data ++ (List.range more).map (fun i => BitVec.ofNat 8 (Config.free (e1.freeCtr + i))) }).parse
        (d1.parseOpt f.tag)
      let g := ((d1.look .pcl 9 4 f.tag).map (fun w => w.getD 0 0)).getD 4
      let frag := first ∧ (pr.1.fragFirst = true ∨ pr.1.fragLater = true)
      let d2 := if frag then d1.pclCnt k 4 else d1
      let d3 := if first ∧ pr.1.malformed = true then d2.pclCnt k 3 else d2
      let e := if first ∧ pr.1.deep = true ∧ pr.1.malformed = false then d3.pclCnt k 2 else d3
      let act := if pr.1.malformed = true then bits g 2 2 else if pr.1.deep = true then g % 4 else 0
      (f.failed = true → Does (.ingressPassEnd dt k) s (d1.flightOut f.tag)) ∧
      (f.failed = false →
        (act = 0 → Does (.ingressPassEnd dt k) s (e.classify f (if bits g 2 2 = 0 then pr.1.forKeys pr.2 else pr.1))) ∧
        (act = 2 → Does (.ingressPassEnd dt k) s ((e.trap f (bits g 4 8) 1).flightOut f.tag)) ∧
        (act ≠ 0 → act ≠ 2 → Does (.ingressPassEnd dt k) s (e.flightOut f.tag)))) := by
  intro d0
  have hdoes : Does (.ingressPassEnd dt k) s (d0.passEnd k) := .of_main_eq (exec_ingressPassEnd ..) hup rfl
  refine ⟨fun h => by rwa [Dev.passEnd_still h] at hdoes, fun f r hoff hp => ?_⟩
  intro first e1 more d1 pr g frag d2 d3 e act
  have he1 : e1 = d0.passTaken k f r := by
    have hc : (if first then 0 else 1) = if f.second then 1 else 0 := by
      simp only [first]
      cases f.second <;> rfl
    show (d0.setSlice k _).pclCnt k (if first then 0 else 1) = _
    rw [hc]
    rfl
  refine ⟨fun hf => ?_, fun hf => ?_⟩
  · have hd1 : d1 = e1 := if_pos hf
    rwa [Dev.passEnd_failed hoff hp hf, ← he1, ← hd1] at hdoes
  have hd1 : d1 = (e1.shown f).1 := if_neg (by simp [hf])
  obtain ⟨hgen, htag⟩ := d0.passTaken_look k f r
  rw [← he1] at hgen htag
  have hgen' : d1.gen = d0.gen := by rw [hd1]; exact hgen
  have htag' : d1.fld Reg.PCL_GEN_STAT.ACT_TAG = d0.fld Reg.PCL_GEN_STAT.ACT_TAG := by rw [hd1]; exact htag
  have hg : g = d0.passRule f.tag := by
    show ((d1.look .pcl 9 4 f.tag).map (fun w => w.getD 0 0)).getD 4 = _
    rw [Dev.look_congr hgen' htag']
    rfl
  have hpr : pr = (e1.shown f).2.parse (d0.parseOpt f.tag) := by
    show Frame.parse _ (d1.parseOpt f.tag) = _
    rw [Dev.parseOpt_congr hgen' htag']
    rfl
  have he : e = (e1.shown f).1.passCounts k (!f.second) pr.1 := by
    rw [Dev.passCounts_eq, ← hd1]
  rw [Dev.passEnd_ends hoff hp hf, ← he1, ← hg, ← hpr, ← he] at hdoes
  unfold Dev.passGoes at hdoes
  refine ⟨fun h0 => ?_, fun h2 => ?_, fun h0 h2 => ?_⟩
  · rwa [if_pos h0] at hdoes
  · rwa [if_neg (by rw [show (if pr.1.malformed = true then bits g 2 2 else if pr.1.deep = true then g % 4 else 0) = 2 from h2]; decide), if_pos h2] at hdoes
  · rwa [if_neg h0, if_neg h2] at hdoes

theorem recirculated (k : Fin 4) : let x := s.dev.slice k
    (bitOf s.dev.wake.off k = true ∨ x.rqOut = [] → Does (.recircReturn k) s s.dev.hostPorts) ∧
    (∀ f r, bitOf s.dev.wake.off k = false → x.rqOut = f :: r →
      let e := (s.dev.editOut f).1
      (∀ b, (s.dev.editOut f).2 = some b → Does (.recircReturn k) s
        (e.setSlice k { x with rqOut := r, rqBack := x.rqBack ++ [{ f.edited b with edit := none }] }).hostPorts) ∧
      ((s.dev.editOut f).2 = none → Does (.recircReturn k) s
        (((e.release f).setSlice k { x with rqOut := r }).flightOut f.tag).hostPorts)) ∧
    (x.rqBack = [] → x.rqOut = [] → Does (.recircTimeout k) s s.dev.hostPorts) ∧
    (∀ f r, x.rqBack = [] → x.rqOut = f :: r → Does (.recircTimeout k) s
      ((((s.dev.setSlice k { x with rqOut := r }).release f).pclCnt k 11).flightOut f.tag).hostPorts) ∧
    ∀ f r, x.rqBack = f :: r → Does (.recircTimeout k) s
      ((((s.dev.setSlice k { x with rqBack := r }).release f).pclCnt k 11).flightOut f.tag).hostPorts := by
  intro x
  have hret : Does (.recircReturn k) s (s.dev.recircReturn k).hostPorts := .of_main_eq (exec_recircReturn ..) hup rfl
  have hto : Does (.recircTimeout k) s (s.dev.recircTimeout k).hostPorts := .of_main_eq (exec_recircTimeout ..) hup rfl
  refine ⟨fun h => ?_, fun f r hoff hq => ⟨fun b hb => ?_, fun hn => ?_⟩, fun hb ho => ?_, fun f r hb ho => ?_, fun f r hb => ?_⟩
  · rwa [Dev.recircReturn_still h] at hret
  · rwa [Dev.recircReturn_edited hoff hq hb] at hret
  · rwa [Dev.recircReturn_long hoff hq hn] at hret
  · rwa [Dev.recircTimeout_none hb ho] at hto
  · rwa [Dev.recircTimeout_out hb ho] at hto
  · rwa [Dev.recircTimeout_back hb] at hto

end Passes

/-- Settles O39: the pass by the branches of its end, the disposition by what the policer made of the frame. -/
theorem passesAndRecirculation : Obligations.PassesAndRecirculation := by
  refine ⟨fun s dt k hup => ?_, fun d f r => ?_⟩
  · obtain ⟨a1, a2⟩ := passEnds s hup dt k
    exact ⟨a1, a2, recirculated s hup k⟩
  · obtain ⟨o1, o2, o3⟩ := d.dispose_out f r
    refine ⟨o1, o2, o3, fun ⟨h1, h2, h3⟩ hn => Dev.dispose_goes h1 h2 h3 (d.policed_free f hn), fun i ⟨h1, h2, h3⟩ hp hr => ?_⟩
    have hpol := d.policed_runs f hp hr
    refine ⟨fun hd => ?_, fun hd => ⟨fun ⟨hc, hb⟩ => ?_, fun hnr => ?_⟩⟩
    · rw [if_pos hd] at hpol
      rw [← hd]
      exact Dev.dispose_goes h1 h2 h3 hpol
    · rw [if_neg hd, hc, hb] at hpol
      exact Dev.dispose_red h1 h2 h3 hpol
    · have hred : ((d.police i f.fullLen (r.colour.getD (f.hdrColour.getD 0)) f.tag).2 == 2 &&
          !bitOf (wordOf (d.look .pcl 7 i f.tag) 0) 3) = false := by
        rw [← Bool.not_eq_true]
        simpa using hnr
      rw [if_neg hd, hred] at hpol
      exact Dev.dispose_goes h1 h2 h3 hpol

end Sys2Proof.Machine
end

section
/-!
PROOFS. O42: lane modes, links and reception (Machine/Mac.lean). What bringing a port to its link condition writes is said once
(`Dev.linkPort_*`); a write of the lane control register then only adds what it writes before.
-/
namespace Sys2Proof.Machine

variable {d e : Dev} {F ks : List Fld} {l : List (Fld × Nat)}

/-! ### Registers that may change -/

theorem Dev.SameRegs.put {e : Dev} (h : d.SameRegs e ks) {f : Fld} (hf : f ∈ ks) (v : Nat) : d.SameRegs (e.put f v) ks := fun k hk =>
  (Tbl.get_set_ne _ _ _ fun he => hk (by rw [he]; exact List.mem_map_of_mem hf)).trans (h k hk)

theorem Dev.SameRegs.of_regs {e e' : Dev} (h : d.SameRegs e ks) (he : e'.regs = e.regs) : d.SameRegs e' ks := fun k hk => by
  rw [he]
  exact h k hk

theorem Dev.Wrote.change (h : Dev.Wrote F d e l) {e' : Dev} (h' : e.SameRegs e' ks) (hf : ∀ f ∈ ks, f.key ∉ F.map Fld.key) :
    Dev.Wrote (ks ++ F) d e' (l ++ ks.map fun f => (f, e'.fld f)) := by
  have hr : e.Regs e' (ks.map fun f => (f, e'.fld f)) := ⟨by simp, by simpa [Function.comp_def] using h'⟩
  refine ⟨h.1.trans hr fun x hx y hy hk => ?_, fun x hx => ?_⟩
  · obtain ⟨f, hfm, rfl⟩ := List.mem_map.1 hy
    exact hf f hfm (hk ▸ List.mem_map_of_mem (h.2 x hx))
  · rcases List.mem_append.1 hx with hx | hx
    · exact List.mem_append_right _ (h.2 x hx)
    · obtain ⟨f, hfm, rfl⟩ := List.mem_map.1 hx
      exact List.mem_append_left _ hfm

/-! ### Two-word counters -/

/-- The two words of a counter of port j of lane n. -/
def cntFlds (n j c : Nat) : List Fld := [Reg.SM_CNT_LO.COUNT n j c, Reg.SM_CNT_HI.COUNT n j c]

theorem Dev.smCount_regs (d : Dev) (n j c k : Nat) : d.SameRegs (d.smCount n j c k) (cntFlds n j c) :=
  ((Dev.SameRegs.refl d _).put (by simp [cntFlds]) _).put (by simp [cntFlds]) _

theorem Dev.smCount_rest (d : Dev) (n j c k : Nat) : { d.smCount n j c k with regs := d.regs } = d := rfl

theorem Dev.smCount_wide (d : Dev) (n j c k : Nat) : (d.smCount n j c k).wide (Reg.SM_CNT_LO.COUNT n j c) (Reg.SM_CNT_HI.COUNT n j c) =
    min (2 ^ 48 - 1) (d.wide (Reg.SM_CNT_LO.COUNT n j c) (Reg.SM_CNT_HI.COUNT n j c) + k) := by
  obtain ⟨v, hv⟩ : ∃ v, v = min (2 ^ 48 - 1) (d.wide (Reg.SM_CNT_LO.COUNT n j c) (Reg.SM_CNT_HI.COUNT n j c) + k) := ⟨_, rfl⟩
  have hlt : v < 2 ^ 48 := by omega
  have hne : (Reg.SM_CNT_LO.COUNT n j c).key ≠ (Reg.SM_CNT_HI.COUNT n j c).key := by
    simp only [Fld.key, Reg.SM_CNT_LO.COUNT, Reg.SM_CNT_HI.COUNT]
    omega
  rw [Dev.smCount, Dev.bumpWide, ← hv, Dev.putWide, Dev.wide, Dev.fld_put_ne _ _ hne, Dev.fld_put_same, Dev.fld_put_same,
    show (Reg.SM_CNT_LO.COUNT n j c).w = 32 from rfl, show (Reg.SM_CNT_HI.COUNT n j c).w = 16 from rfl]
  omega

/-! ### What a port gives up as its link goes down -/

theorem laneOf_port (n : Nat) {j : Nat} (hj : j < 4) : laneOf (4 * n + j) = n ∧ portOf (4 * n + j) = j := by
  unfold laneOf portOf
  omega

theorem Dev.txOut_out (d : Dev) (p : Nat) (t : TxFrame) (b : List Byte) (ok : Bool) :
    (d.txOut p t b ok).out = (if t.cut then [] else [Emit.portTx p b ok]) ++ d.out := by
  cases h : t.cut <;> simp [Dev.txOut, Dev.iff, Dev.emit, h]

/-- The MACs of the other ports, the time, the part and the lanes are those of before. -/
structure Dev.OnPort (p : Nat) (d e : Dev) : Prop where
  mac : ∀ q, q ≠ p → e.mac q = d.mac q
  tim : e.tim = d.tim
  chip : e.chip = d.chip

theorem Dev.OnPort.refl (p : Nat) (d : Dev) : Dev.OnPort p d d := ⟨fun _ _ => rfl, rfl, rfl⟩

theorem Dev.OnPort.trans {p : Nat} {e f : Dev} (h : Dev.OnPort p d e) (h' : Dev.OnPort p e f) : Dev.OnPort p d f :=
  ⟨fun q hq => (h'.mac q hq).trans (h.mac q hq), h'.tim.trans h.tim, h'.chip.trans h.chip⟩

theorem Dev.OnPort.setMac {p : Nat} (h : Dev.OnPort p d e) (m : Mac) : Dev.OnPort p d (e.setMac p m) :=
  h.trans ⟨fun _ hq => Dev.mac_setMac_ne _ _ _ hq, rfl, rfl⟩

/-- A frame in transmission ends with what is left of it, and is counted. -/
theorem Dev.txEnd_spec (d : Dev) (p n j c : Nat) (m : Mac) (t : TxFrame) (b : List Byte) (ok : Bool) :
    let e := ((d.setMac p m).txOut p t b ok).smCnt n j c
    Dev.OnPort p d e ∧ d.SameRegs e (cntFlds n j c) ∧ e.mac p = m := by
  have hx := (d.setMac p m).txOut_rest p t b ok
  obtain ⟨x, hxe⟩ : ∃ x, x = (d.setMac p m).txOut p t b ok := ⟨_, rfl⟩
  rw [← hxe] at hx ⊢
  have hmac : x.macs = (d.setMac p m).macs := (congrArg Dev.macs hx :)
  have hq (q : Nat) : x.mac q = (d.setMac p m).mac q := by rw [Dev.mac, hmac, Dev.mac]
  have hr : x.regs = d.regs := (congrArg Dev.regs hx :)
  refine ⟨⟨fun q hne => (hq q).trans (Dev.mac_setMac_ne _ _ _ hne), (congrArg Dev.tim hx :), (congrArg Dev.chip hx :)⟩, fun k hk => ?_,
    (hq p).trans (Dev.mac_setMac ..)⟩
  rw [← hr]
  exact x.smCount_regs n j c 1 k hk

/-- What cutting a frame in transmission off leaves of the device. -/
theorem Dev.cutTx_spec (d : Dev) (p : Nat) : Dev.OnPort p d (d.cutTx p) ∧ d.SameRegs (d.cutTx p) (cntFlds (laneOf p) (portOf p) 19) ∧
    (d.cutTx p).mac p = { d.mac p with tx := none } := by
  cases htx : (d.mac p).tx with
  | none =>
    have heq : d.cutTx p = d := by simp only [Dev.cutTx, htx]
    rw [heq]
    refine ⟨.refl p d, .refl d _, ?_⟩
    rw [← htx]
  | some t =>
    simp only [Dev.cutTx, htx]
    exact d.txEnd_spec ..

theorem Dev.cutTx_out_none {p : Nat} (h : (d.mac p).tx = none) : (d.cutTx p).out = d.out := by
  simp only [Dev.cutTx, h]

theorem Dev.cutTx_out_some {p : Nat} {t : TxFrame} (h : (d.mac p).tx = some t) :
    (d.cutTx p).out = (if t.cut then [] else [Emit.portTx p (t.data.take (d.sentSoFar p t)) false]) ++ d.out := by
  simp only [Dev.cutTx, h]
  exact Dev.txOut_out ..

/-- What giving a selected frame back leaves of the device. -/
theorem Dev.dropWaiting_spec (d : Dev) (p : Nat) : Dev.OnPort p d (d.dropWaiting p) ∧
    d.SameRegs (d.dropWaiting p) (cntFlds (laneOf p) (portOf p) 22) ∧ (d.dropWaiting p).mac p = { d.mac p with waiting := none } ∧
    (d.dropWaiting p).out = d.out := by
  unfold Dev.dropWaiting
  obtain ⟨m, hm⟩ : ∃ m, m = d.mac p := ⟨_, rfl⟩
  dsimp only
  rw [← hm]
  cases hw : m.waiting with
  | none =>
    refine ⟨.refl p d, .refl d _, hm.symm.trans ?_, rfl⟩
    rw [← hw]
  | some w =>
    obtain ⟨f, q, st⟩ := w
    dsimp only
    split
    · obtain ⟨t, ht⟩ := (d.setMac p { m with waiting := none }).release_tm f
      rw [ht]
      obtain ⟨x, hx⟩ : ∃ x, x = { d.setMac p { m with waiting := none } with tm := t } := ⟨_, rfl⟩
      rw [← hx]
      have hmac : x.macs = (d.setMac p { m with waiting := none }).macs := (congrArg Dev.macs hx :)
      have hq (q : Nat) : x.mac q = (d.setMac p { m with waiting := none }).mac q := by rw [Dev.mac, hmac, Dev.mac]
      refine ⟨⟨fun q hne => (hq q).trans (Dev.mac_setMac_ne _ _ _ hne), (congrArg Dev.tim hx :), (congrArg Dev.chip hx :)⟩, ?_,
        (hq p).trans (Dev.mac_setMac ..), (congrArg Dev.out hx :)⟩
      have hr : x.regs = d.regs := (congrArg Dev.regs hx :)
      intro k hk
      rw [← hr]
      exact x.smCount_regs _ _ 22 1 k hk
    · exact ⟨⟨fun q hne => Dev.mac_setMac_ne _ _ _ hne, rfl, rfl⟩, .refl d _, Dev.mac_setMac .., rfl⟩

/-! ### The link of a port -/

/-- What bringing a port to its link condition can write. -/
def linkFlds (n j : Nat) : List Fld :=
  Reg.SM_PORT_STAT.LPI_RX n j :: Reg.SM_PORT_STAT.LPI_TX n j :: Reg.SM_PORT_STAT.SPEED n j :: ((cntFlds n j 22 ++ cntFlds n j 19) ++
    [Reg.SM_PORT_EVT.LINK_CHG n j, Reg.SM_PORT_STAT.LINK n j, Reg.SM_PORT_STAT.LINK_UNSUP n j])

theorem linkFlds_apart (n j : Nat) : ((linkFlds n j).map Fld.key).Nodup := by
  simp only [linkFlds, cntFlds, List.cons_append, List.nil_append, List.map_cons, List.map_nil, List.nodup_cons, List.mem_cons,
    List.not_mem_nil, or_false, not_or, not_false_eq_true, and_true, List.nodup_nil, Fld.key, Reg.SM_PORT_STAT.LPI_RX, Reg.SM_PORT_STAT.LPI_TX,
    Reg.SM_PORT_STAT.SPEED, Reg.SM_CNT_LO.COUNT, Reg.SM_CNT_HI.COUNT, Reg.SM_PORT_EVT.LINK_CHG, Reg.SM_PORT_STAT.LINK,
    Reg.SM_PORT_STAT.LINK_UNSUP]
  omega

/-- LINK_UNSUP as the port's in-band word has it (R219). -/
def Dev.unsupported (d : Dev) (n j : Nat) : Bool :=
  match (d.mac (4 * n + j)).inband with
  | some r => decide (r ≠ 0) && !inbandOk (d.laneMode n) r && (d.laneMode n == 4 || d.laneMode n == 5)
  | none => false

theorem Dev.linkPort_eq (d : Dev) (n j : Nat) : d.linkPort n j =
    let d0 := d.put (Reg.SM_PORT_STAT.LINK_UNSUP n j) (bit (d.unsupported n j))
    if d.portShouldUp n j = d.portUp n j then
      d0.iff (d.portShouldUp n j) (·.put (Reg.SM_PORT_STAT.SPEED n j) (speedCode (d.portMbps n j)))
    else
      let d1 := (d0.put (Reg.SM_PORT_STAT.LINK n j) (bit (d.portShouldUp n j))).ev (Reg.SM_PORT_EVT.LINK_CHG n j)
      if d.portShouldUp n j then d1.put (Reg.SM_PORT_STAT.SPEED n j) (speedCode (d.portMbps n j))
      else
        let d2 := (((d1.cutTx (4 * n + j)).dropWaiting (4 * n + j)).put (Reg.SM_PORT_STAT.SPEED n j) 7).lpiEnd n j
        d2.setMac (4 * n + j) { d2.mac (4 * n + j) with due := [], free := d.nowPs } := rfl

theorem speedCode_lt (r : Nat) : speedCode r < 2 ^ 3 := by
  unfold speedCode
  split_ifs <;> decide

theorem Dev.linkPort_same {n j : Nat} (h : d.portShouldUp n j = d.portUp n j) :
    d.SameRegs (d.linkPort n j) [Reg.SM_PORT_STAT.LINK_UNSUP n j, Reg.SM_PORT_STAT.SPEED n j] ∧ { d.linkPort n j with regs := d.regs } = d ∧
    (d.linkPort n j).fld (Reg.SM_PORT_STAT.LINK_UNSUP n j) = bit (d.unsupported n j) ∧
    (d.portUp n j = true → (d.linkPort n j).fld (Reg.SM_PORT_STAT.SPEED n j) = speedCode (d.portMbps n j)) := by
  have he : (Reg.SM_PORT_STAT.LINK_UNSUP n j).key ≠ (Reg.SM_PORT_STAT.SPEED n j).key := by
    simp only [Fld.key, Reg.SM_PORT_STAT.LINK_UNSUP, Reg.SM_PORT_STAT.SPEED]
    omega
  have hu : bit (d.unsupported n j) % 2 ^ (Reg.SM_PORT_STAT.LINK_UNSUP n j).w = bit (d.unsupported n j) := Nat.mod_eq_of_lt (bit_lt _)
  rw [Dev.linkPort_eq]
  dsimp only
  rw [if_pos h, h]
  cases d.portUp n j with
  | true =>
    refine ⟨((Dev.SameRegs.refl d _).put (by simp) _).put (by simp) _, rfl, ?_, fun _ => ?_⟩
    · exact ((Dev.fld_put_ne _ _ he).trans (Dev.fld_put_same ..)).trans hu
    · exact (Dev.fld_put_same ..).trans (Nat.mod_eq_of_lt (speedCode_lt _))
  | false => exact ⟨(Dev.SameRegs.refl d _).put (by simp) _, rfl, (Dev.fld_put_same ..).trans hu, fun h => nomatch h⟩

theorem Dev.linkPort_up {n j : Nat} (h : d.portShouldUp n j = true) (hu : d.portUp n j = false) :
    d.Sets (d.linkPort n j) [(Reg.SM_PORT_STAT.SPEED n j, speedCode (d.portMbps n j)), (Reg.SM_PORT_EVT.LINK_CHG n j, 1),
      (Reg.SM_PORT_STAT.LINK n j, 1), (Reg.SM_PORT_STAT.LINK_UNSUP n j, bit (d.unsupported n j))] := by
  rw [Dev.linkPort_eq]
  dsimp only
  rw [if_neg (by rw [h, hu]; decide), if_pos h, h]
  refine ((((Dev.Sets.nil d).put_of_lt _ (bit_lt _) (by simp)).put_of_lt _ (bit_lt _) ?_).put_of_lt _ (show 1 < 2 ^ 1 by decide) ?_).put_of_lt
    _ (speedCode_lt _) ?_ <;>
  · simp only [List.map_cons, List.map_nil, List.mem_cons, List.not_mem_nil, or_false, not_or, Fld.key, Reg.SM_PORT_STAT.SPEED,
      Reg.SM_PORT_EVT.LINK_CHG, Reg.SM_PORT_STAT.LINK, Reg.SM_PORT_STAT.LINK_UNSUP]
    omega

/-- The fields that a port going down shows, but for its counters. -/
def Dev.downFlds (d : Dev) (n j : Nat) : List (Fld × Nat) :=
  [(Reg.SM_PORT_STAT.LPI_RX n j, 0), (Reg.SM_PORT_STAT.LPI_TX n j, 0), (Reg.SM_PORT_STAT.SPEED n j, 7), (Reg.SM_PORT_EVT.LINK_CHG n j, 1),
    (Reg.SM_PORT_STAT.LINK n j, 0), (Reg.SM_PORT_STAT.LINK_UNSUP n j, bit (d.unsupported n j))]

theorem Dev.linkPort_down {n j : Nat} (hj : j < 4) (h : d.portShouldUp n j = false) (hu : d.portUp n j = true) :
    let p := 4 * n + j
    (∀ x ∈ d.downFlds n j, (d.linkPort n j).fld x.1 = x.2) ∧ d.SameRegs (d.linkPort n j) (linkFlds n j) ∧ Dev.OnPort p d (d.linkPort n j) ∧
    (d.linkPort n j).mac p = { d.mac p with tx := none, waiting := none, due := [], free := d.nowPs } ∧
    (∀ t, (d.mac p).tx = some t → (d.linkPort n j).out = (if t.cut then [] else [.portTx p (t.data.take (d.sentSoFar p t)) false]) ++ d.out) ∧
    ((d.mac p).tx = none → (d.linkPort n j).out = d.out) := by
  intro p
  obtain ⟨hn, hp⟩ := laneOf_port n hj
  obtain ⟨k9, hr⟩ := List.nodup_cons.1 (linkFlds_apart n j)
  obtain ⟨k8, hr⟩ := List.nodup_cons.1 hr
  obtain ⟨k7, hr⟩ := List.nodup_cons.1 hr
  have hcnt := hr
  rw [List.map_append, List.nodup_append'] at hcnt
  obtain ⟨-, hr, hcnt⟩ := hcnt
  obtain ⟨k2, hr⟩ := List.nodup_cons.1 hr
  obtain ⟨k1, -⟩ := List.nodup_cons.1 hr
  rw [Dev.linkPort_eq]
  dsimp only
  rw [if_neg (by rw [h, hu]; decide), if_neg (by rw [h]; decide), h]
  obtain ⟨d1, hd1⟩ : ∃ d1, d1 = ((d.put (Reg.SM_PORT_STAT.LINK_UNSUP n j) (bit (d.unsupported n j))).put (Reg.SM_PORT_STAT.LINK n j)
    (bit false)).ev (Reg.SM_PORT_EVT.LINK_CHG n j) := ⟨_, rfl⟩
  rw [← hd1]
  have hw : Dev.Wrote [Reg.SM_PORT_EVT.LINK_CHG n j, Reg.SM_PORT_STAT.LINK n j, Reg.SM_PORT_STAT.LINK_UNSUP n j] d d1
      [(Reg.SM_PORT_STAT.LINK_UNSUP n j, bit (d.unsupported n j)), (Reg.SM_PORT_STAT.LINK n j, 0), (Reg.SM_PORT_EVT.LINK_CHG n j, 1)] := by
    rw [hd1]
    exact (((Dev.Wrote.nil d).put _ (bit_lt (d.unsupported n j)) (by simp)).put _ (bit_lt false) k1).put _ (v := 1)
      (show 1 < 2 ^ 1 by decide) k2
  have hd : { d1 with regs := d.regs } = d := by rw [hd1]; rfl
  obtain ⟨hcut, hcutRegs, hcutMac⟩ := d1.cutTx_spec p
  obtain ⟨hdrop, hdropRegs, hdropMac, hdropOut⟩ := (d1.cutTx p).dropWaiting_spec p
  rw [hn, hp] at hcutRegs hdropRegs
  have hmac (q : Nat) : d1.mac q = d.mac q := by rw [hd1]; rfl
  have hall := hw.change (hcutRegs.trans hdropRegs (ks := cntFlds n j 22 ++ cntFlds n j 19) fun x hx => by
      simp only [List.mem_append] at hx ⊢
      exact hx.symm) fun f hf hm => hcnt (List.mem_map_of_mem hf) hm
  have hlast := ((hall.put (Reg.SM_PORT_STAT.SPEED n j) (v := 7) (show 7 < 2 ^ 3 by decide) k7).put (Reg.SM_PORT_STAT.LPI_TX n j)
    (v := 0) (Nat.two_pow_pos _) k8).put (Reg.SM_PORT_STAT.LPI_RX n j) (v := 0) (Nat.two_pow_pos _) k9
  refine ⟨fun x hx => ?_, fun k hk => ?_, ?_, ?_, fun t ht => ?_, fun ht => ?_⟩
  · refine hlast.1.1 x ?_
    simp only [Dev.downFlds, List.mem_cons, List.not_mem_nil, or_false] at hx
    simp only [List.mem_append, List.mem_cons, List.not_mem_nil, or_false]
    tauto
  · refine hlast.1.2 k fun hm => hk ?_
    obtain ⟨f, hf, rfl⟩ := List.mem_map.1 hm
    obtain ⟨x, hx, rfl⟩ := List.mem_map.1 hf
    exact List.mem_map_of_mem (hlast.2 x hx)
  · have h1 : Dev.OnPort p d d1 := ⟨fun q _ => hmac q, (congrArg Dev.tim hd :), (congrArg Dev.chip hd :)⟩
    obtain ⟨hm, ht, hc⟩ := (h1.trans hcut).trans hdrop
    exact (Dev.OnPort.mk (e := (((d1.cutTx p).dropWaiting p).put _ 7).lpiEnd n j) hm ht hc).setMac _
  · refine (Dev.mac_setMac ..).trans ?_
    rw [show ∀ (e : Dev), (((e.put (Reg.SM_PORT_STAT.SPEED n j) 7).lpiEnd n j).mac p) = e.mac p from fun _ => rfl, hdropMac, hcutMac, hmac]
  · refine hdropOut.trans ((Dev.cutTx_out_some ((congrArg Mac.tx (hmac p)).trans ht)).trans ?_)
    have hsent : d1.sentSoFar p t = d.sentSoFar p t := by
      rw [Dev.sentSoFar, Dev.sentSoFar, Dev.nowPs, Dev.nowPs, show d1.tim = d.tim from (congrArg Dev.tim hd :), hn, hp,
        hw.fld_eq fun hm => k7 (by rw [List.map_append]; exact List.mem_append_right _ hm)]
    rw [hsent, show d1.out = d.out from (congrArg Dev.out hd :)]
  · exact hdropOut.trans ((Dev.cutTx_out_none ((congrArg Mac.tx (hmac p)).trans ht)).trans (congrArg Dev.out hd :))

/-- Whether a port is to be up hangs on its in-band word and on the registers that it reads. -/
theorem Dev.linkPort_spec (d : Dev) (n : Nat) {j : Nat} (hj : j < 4) : Dev.OnPort (4 * n + j) d (d.linkPort n j) ∧
    d.SameRegs (d.linkPort n j) (linkFlds n j) ∧ ((d.linkPort n j).mac (4 * n + j)).inband = (d.mac (4 * n + j)).inband ∧
    (d.linkPort n j).fld (Reg.SM_PORT_STAT.LINK_UNSUP n j) = bit (d.unsupported n j) ∧
    ((d.mac (4 * n + j)).tx = none → ((d.linkPort n j).mac (4 * n + j)).tx = none) ∧
    (d.portShouldUp n j = false → (d.linkPort n j).fld (Reg.SM_PORT_STAT.LINK n j) = 0) := by
  have hsub : ∀ f ∈ [Reg.SM_PORT_STAT.LINK_UNSUP n j, Reg.SM_PORT_STAT.SPEED n j, Reg.SM_PORT_EVT.LINK_CHG n j, Reg.SM_PORT_STAT.LINK n j],
      f ∈ linkFlds n j := by simp [linkFlds]
  by_cases heq : d.portShouldUp n j = d.portUp n j
  · obtain ⟨hregs, hrest, hun, -⟩ := Dev.linkPort_same heq
    have hmacs : (d.linkPort n j).macs = d.macs := (congrArg Dev.macs hrest :)
    have hmac (q : Nat) : (d.linkPort n j).mac q = d.mac q := by rw [Dev.mac, Dev.mac, hmacs]
    refine ⟨⟨fun q _ => hmac q, (congrArg Dev.tim hrest :), (congrArg Dev.chip hrest :)⟩, fun k hk => hregs k fun hm => hk ?_,
      by rw [hmac], hun, by rw [hmac]; exact id, fun h => ?_⟩
    · obtain ⟨f, hf, rfl⟩ := List.mem_map.1 hm
      refine List.mem_map_of_mem (hsub f ?_)
      simp only [List.mem_cons, List.not_mem_nil, or_false] at hf ⊢
      tauto
    · rw [hregs.fld_eq (by
        simp only [List.map_cons, List.map_nil, List.mem_cons, List.not_mem_nil, or_false, Fld.key, Reg.SM_PORT_STAT.LINK,
          Reg.SM_PORT_STAT.LINK_UNSUP, Reg.SM_PORT_STAT.SPEED]
        omega)]
      have hup := heq.symm.trans h
      rw [Dev.portUp, Dev.on, bne_eq_false_iff_eq] at hup
      exact hup
  · cases h : d.portShouldUp n j with
    | true =>
      obtain ⟨⟨hv, hregs⟩, hrest⟩ := Dev.linkPort_up h (by rw [h] at heq; simpa using heq)
      have hmacs : (d.linkPort n j).macs = d.macs := (congrArg Dev.macs hrest :)
      have hmac (q : Nat) : (d.linkPort n j).mac q = d.mac q := by rw [Dev.mac, Dev.mac, hmacs]
      refine ⟨⟨fun q _ => hmac q, (congrArg Dev.tim hrest :), (congrArg Dev.chip hrest :)⟩, fun k hk => hregs k fun hm => hk ?_,
        by rw [hmac], hv (Reg.SM_PORT_STAT.LINK_UNSUP n j, bit (d.unsupported n j)) (by simp), by rw [hmac]; exact id, fun h => nomatch h⟩
      obtain ⟨f, hf, rfl⟩ := List.mem_map.1 hm
      refine List.mem_map_of_mem (hsub f ?_)
      simp only [List.map_cons, List.map_nil, List.mem_cons, List.not_mem_nil, or_false] at hf ⊢
      tauto
    | false =>
      obtain ⟨hv, hregs, hport, hmac, -⟩ := Dev.linkPort_down hj h (by rw [h] at heq; simpa using heq)
      refine ⟨hport, hregs, by rw [hmac],
        hv (Reg.SM_PORT_STAT.LINK_UNSUP n j, bit (d.unsupported n j)) (by simp [Dev.downFlds]), by rw [hmac]; exact fun _ => rfl,
        fun _ => hv (Reg.SM_PORT_STAT.LINK n j, 0) (by simp [Dev.downFlds])⟩

/-! ### The lane control register -/

/-- The fields that a write of the lane control register sets itself. -/
def ctrlFlds (n : Nat) : List Fld :=
  [Reg.SM_LANE_CTRL.MODE n, Reg.SM_LANE_CTRL.LANE_EN n, Reg.SM_LANE_EVT.MODE_REJ n, Reg.SL_PHY_LAT.RX_LAT n, Reg.SL_PHY_LAT.TX_LAT n]

theorem ctrlFlds_apart {n : Nat} (hn : n < 112) : ∀ f ∈ ctrlFlds n, (∀ j < 4, f.key ∉ (linkFlds n j).map Fld.key) ∧
    f.key ∉ [Reg.SL_LADDER_STAT.STATE n, Reg.SL_LADDER_STAT.LOCKED n].map Fld.key := by
  simp only [ctrlFlds, linkFlds, cntFlds, List.cons_append, List.nil_append, List.map_cons, List.map_nil, List.mem_cons,
    List.not_mem_nil, or_false, not_or, Fld.key, Reg.SM_PORT_STAT.LPI_RX, Reg.SM_PORT_STAT.LPI_TX,
    Reg.SM_PORT_STAT.SPEED, Reg.SM_CNT_LO.COUNT, Reg.SM_CNT_HI.COUNT, Reg.SM_PORT_EVT.LINK_CHG, Reg.SM_PORT_STAT.LINK,
    Reg.SM_PORT_STAT.LINK_UNSUP, Reg.SM_LANE_CTRL.MODE, Reg.SM_LANE_CTRL.LANE_EN, Reg.SM_LANE_EVT.MODE_REJ, Reg.SL_PHY_LAT.RX_LAT,
    Reg.SL_PHY_LAT.TX_LAT, Reg.SL_LADDER_STAT.STATE, Reg.SL_LADDER_STAT.LOCKED]
  rintro f (rfl | rfl | rfl | rfl | rfl) <;> dsimp only <;> refine ⟨fun j hj => ?_, ?_⟩ <;> omega

theorem cut_mem_link {n j k : Nat} (h : k ∈ (cntFlds n j 19).map Fld.key) : k ∈ (linkFlds n j).map Fld.key := by
  unfold linkFlds
  simp only [List.map_cons, List.map_append]
  exact List.mem_cons_of_mem _ (List.mem_cons_of_mem _ (List.mem_cons_of_mem _ (List.mem_append_left _ (List.mem_append_right _ h))))

theorem Dev.linkPorts_fld {n : Nat} {f : Fld} : ∀ (l : List Nat) (d : Dev), (∀ j ∈ l, j < 4 ∧ f.key ∉ (linkFlds n j).map Fld.key) →
    (d.each l fun d j => d.linkPort n j).fld f = d.fld f
  | [], _, _ => rfl
  | j :: l, d, h => by
    obtain ⟨⟨hj, hf⟩, hl⟩ := List.forall_mem_cons.1 h
    exact (Dev.linkPorts_fld l _ hl).trans ((d.linkPort_spec n hj).2.1.fld_eq hf)

theorem Dev.linkPort_idle (d : Dev) {n j i : Nat} (hj : j < 4) (h : (d.mac (4 * n + i)).tx = none) :
    ((d.linkPort n j).mac (4 * n + i)).tx = none := by
  obtain ⟨hport, -, -, -, htx, -⟩ := d.linkPort_spec n hj
  by_cases hij : i = j
  · subst hij
    exact htx h
  · rw [hport.mac _ (by omega)]
    exact h

theorem linkFlds_others (n : Nat) {i j : Nat} (h : i ≠ j) :
    (Reg.SM_PORT_STAT.LINK n i).key ∉ (linkFlds n j).map Fld.key := by
  simp only [linkFlds, cntFlds, List.cons_append, List.nil_append, List.map_cons, List.map_nil, List.mem_cons,
    List.not_mem_nil, or_false, not_or, Fld.key, Reg.SM_PORT_STAT.LPI_RX, Reg.SM_PORT_STAT.LPI_TX,
    Reg.SM_PORT_STAT.SPEED, Reg.SM_CNT_LO.COUNT, Reg.SM_CNT_HI.COUNT, Reg.SM_PORT_EVT.LINK_CHG, Reg.SM_PORT_STAT.LINK,
    Reg.SM_PORT_STAT.LINK_UNSUP]
  omega

/-- The ports of a lane that is not enabled have no link. -/
theorem Dev.linkPorts_off {n : Nat} (hn : n < 112) : ∀ (l : List Nat) (d : Dev), (∀ j ∈ l, j < 4) → d.fld (Reg.SM_LANE_CTRL.LANE_EN n) = 0 →
    (∀ i < 4, (d.mac (4 * n + i)).tx = none) →
    (∀ i < 4, ((d.each l fun d j => d.linkPort n j).mac (4 * n + i)).tx = none) ∧
      ∀ i ∈ l, (d.each l fun d j => d.linkPort n j).fld (Reg.SM_PORT_STAT.LINK n i) = 0
  | [], _, _, _, htx => ⟨htx, by simp⟩
  | j :: l, d, h, hen, htx => by
    obtain ⟨hj, hl⟩ := List.forall_mem_cons.1 h
    obtain ⟨-, hregs, -, -, -, hlink⟩ := d.linkPort_spec n hj
    have hkey := ((ctrlFlds_apart hn _ (show Reg.SM_LANE_CTRL.LANE_EN n ∈ ctrlFlds n by simp [ctrlFlds])).1 j hj)
    obtain ⟨htx', hoff⟩ := Dev.linkPorts_off hn l (d.linkPort n j) hl ((hregs.fld_eq hkey).trans hen) fun i hi => d.linkPort_idle hj (htx i hi)
    refine ⟨htx', fun i hi => ?_⟩
    by_cases hm : i ∈ l
    · exact hoff i hm
    · obtain rfl : i = j := (List.mem_cons.1 hi).resolve_right hm
      refine (Dev.linkPorts_fld l (d.linkPort n i) fun k hk => ⟨hl k hk, linkFlds_others n (fun e => hm (by rw [e]; exact hk))⟩).trans (hlink ?_)
      simp [Dev.portShouldUp, Dev.on, hen]

theorem Dev.stomp_spec (d : Dev) (n c : Nat) {j : Nat} (hj : j < 4) : d.SameRegs (d.stomp (4 * n + j) c) (cntFlds n j c) ∧
    Dev.OnPort (4 * n + j) d (d.stomp (4 * n + j) c) ∧ ((d.stomp (4 * n + j) c).mac (4 * n + j)).tx = none := by
  obtain ⟨hn, hp⟩ := laneOf_port n hj
  unfold Dev.stomp
  cases htx : (d.mac (4 * n + j)).tx with
  | none => exact ⟨.refl d _, .refl _ d, htx⟩
  | some t =>
    simp only [Dev.stompAt, htx, hn, hp]
    obtain ⟨hport, hregs, hmac⟩ := d.txEnd_spec (4 * n + j) n j c _ t _ false
    exact ⟨hregs, hport, congrArg Mac.tx hmac⟩

theorem Dev.stomps_spec {n : Nat} (c : Nat) : ∀ (l : List Nat) (d : Dev), (∀ j ∈ l, j < 4) →
    let e := d.each l fun d j => d.stomp (4 * n + j) c
    (∀ f : Fld, (∀ j ∈ l, f.key ∉ (cntFlds n j c).map Fld.key) → e.fld f = d.fld f) ∧
      ∀ i < 4, i ∈ l ∨ (d.mac (4 * n + i)).tx = none → (e.mac (4 * n + i)).tx = none
  | [], _, _ => ⟨fun _ _ => rfl, fun i _ h => h.resolve_left (by simp)⟩
  | j :: l, d, h => by
    obtain ⟨hj, hl⟩ := List.forall_mem_cons.1 h
    obtain ⟨hregs, hport, htx⟩ := d.stomp_spec n c hj
    obtain ⟨hfld, hnone⟩ := Dev.stomps_spec c l (d.stomp (4 * n + j) c) hl
    refine ⟨fun f hf => ?_, fun i hi h => hnone i hi ?_⟩
    · obtain ⟨hfj, hfl⟩ := List.forall_mem_cons.1 hf
      exact (hfld f hfl).trans (hregs.fld_eq hfj)
    · by_cases hij : i = j
      · subst hij
        exact .inr htx
      · rw [hport.mac _ (by omega)]
        exact h.imp_left fun hm => (List.mem_cons.1 hm).resolve_left hij

/-- What a write of the lane control register sets before links and ladder follow. -/
def Dev.ctrlPut (d : Dev) (n mode : Nat) (en : Bool) : Dev :=
  let was := d.on (Reg.SM_LANE_CTRL.LANE_EN n)
  let d1 := if was then d.iff (mode != d.laneMode n) (·.ev (Reg.SM_LANE_EVT.MODE_REJ n)) else d.put (Reg.SM_LANE_CTRL.MODE n) mode
  let d2 := d1.put (Reg.SM_LANE_CTRL.LANE_EN n) (bit en)
  let lat := if en then phyLat (d2.laneMode n) else (0, 0)
  (d2.put (Reg.SL_PHY_LAT.RX_LAT n) lat.1).put (Reg.SL_PHY_LAT.TX_LAT n) lat.2

theorem Dev.laneCtrl_eq (d : Dev) (n mode : Nat) (en : Bool) : d.laneCtrl n mode en =
    let was := d.on (Reg.SM_LANE_CTRL.LANE_EN n)
    let d3 := d.ctrlPut n mode en
    if en then
      ((d3.walkStop n).iff (!was) (fun d => d.setLane n { d.lane n with synce := bitOf (d.fld (Reg.TIM_SYNCE_EN.LANES (n / 28))) (n % 28) })).linkLane n
    else ((d3.iff was (fun d => d.each (List.range 4) (fun d j => d.stomp (4 * n + j) 19))).linkLane n).walkStart n := rfl

theorem phyLat_lt (m : Nat) : (phyLat m).1 < 2 ^ 16 ∧ (phyLat m).2 < 2 ^ 16 := by
  unfold phyLat
  split_ifs <;> decide

theorem ctrlFlds_nodup (n : Nat) (hn : n < 112) : ((ctrlFlds n).map Fld.key).Nodup := by
  simp only [ctrlFlds, List.map_cons, List.map_nil, List.nodup_cons, List.mem_cons, List.not_mem_nil, or_false, not_or, not_false_eq_true,
    and_true, List.nodup_nil, Fld.key, Reg.SM_LANE_CTRL.MODE, Reg.SM_LANE_CTRL.LANE_EN, Reg.SM_LANE_EVT.MODE_REJ, Reg.SL_PHY_LAT.RX_LAT,
    Reg.SL_PHY_LAT.TX_LAT]
  omega

theorem Dev.ctrlPut_spec (d : Dev) {n mode : Nat} (hn : n < 112) (hmode : mode < 8) (en : Bool) :
    let was := d.on (Reg.SM_LANE_CTRL.LANE_EN n)
    let x := d.ctrlPut n mode en
    let now := if was then d.laneMode n else mode
    x.laneMode n = now ∧ x.fld (Reg.SM_LANE_CTRL.LANE_EN n) = bit en ∧
    x.fld (Reg.SL_PHY_LAT.RX_LAT n) = (if en then (phyLat now).1 else 0) ∧
    x.fld (Reg.SL_PHY_LAT.TX_LAT n) = (if en then (phyLat now).2 else 0) ∧
    (was = true → mode ≠ d.laneMode n → x.fld (Reg.SM_LANE_EVT.MODE_REJ n) = 1) := by
  have hk := ctrlFlds_nodup n hn
  simp only [ctrlFlds, List.map_cons, List.map_nil, List.nodup_cons, List.mem_cons, List.not_mem_nil, or_false, not_or, not_false_eq_true,
    and_true, List.nodup_nil] at hk
  obtain ⟨⟨hme, hmr, hmx, hmt⟩, ⟨her, hex, het⟩, ⟨hrx, hrt⟩, hxt⟩ := hk
  intro was x now
  obtain ⟨d1, hd1⟩ : ∃ d1, d1 = if was then d.iff (mode != d.laneMode n) (·.ev (Reg.SM_LANE_EVT.MODE_REJ n))
    else d.put (Reg.SM_LANE_CTRL.MODE n) mode := ⟨_, rfl⟩
  have hx : x = ((d1.put (Reg.SM_LANE_CTRL.LANE_EN n) (bit en)).put (Reg.SL_PHY_LAT.RX_LAT n)
      (if en then phyLat ((d1.put (Reg.SM_LANE_CTRL.LANE_EN n) (bit en)).laneMode n) else (0, 0)).1).put (Reg.SL_PHY_LAT.TX_LAT n)
      (if en then phyLat ((d1.put (Reg.SM_LANE_CTRL.LANE_EN n) (bit en)).laneMode n) else (0, 0)).2 := by rw [hd1]; rfl
  have hnow : (d1.put (Reg.SM_LANE_CTRL.LANE_EN n) (bit en)).laneMode n = now := by
    rw [Dev.laneMode, Dev.fld_put_ne _ _ hme, hd1]
    show Dev.fld _ _ = if was then _ else _
    cases was with
    | true =>
      simp only [if_true, Dev.iff]
      split
      · exact Dev.fld_put_ne _ _ hmr
      · rfl
    | false => exact (Dev.fld_put_same ..).trans (Nat.mod_eq_of_lt hmode)
  rw [hnow] at hx
  obtain ⟨lat, hlat⟩ : ∃ lat, lat = if en then phyLat now else (0, 0) := ⟨_, rfl⟩
  rw [← hlat] at hx
  have hlt : lat.1 < 2 ^ 16 ∧ lat.2 < 2 ^ 16 := by
    rw [hlat]
    split
    · exact phyLat_lt now
    · decide
  rw [hx]
  refine ⟨?_, ?_, ?_, ?_, fun hw hm => ?_⟩
  · rw [Dev.laneMode, Dev.fld_put_ne _ _ hmt, Dev.fld_put_ne _ _ hmx]
    exact hnow
  · rw [Dev.fld_put_ne _ _ het, Dev.fld_put_ne _ _ hex, Dev.fld_put_same]
    exact Nat.mod_eq_of_lt (bit_lt en)
  · rw [Dev.fld_put_ne _ _ hxt, Dev.fld_put_same]
    refine (Nat.mod_eq_of_lt hlt.1).trans ?_
    rw [hlat, apply_ite Prod.fst]
  · rw [Dev.fld_put_same]
    refine (Nat.mod_eq_of_lt hlt.2).trans ?_
    rw [hlat, apply_ite Prod.snd]
  · rw [Dev.fld_put_ne _ _ hrt, Dev.fld_put_ne _ _ hrx, Dev.fld_put_ne _ _ (Ne.symm her), hd1, if_pos hw, Dev.iff, if_pos (bne_iff_ne.2 hm)]
    exact Dev.fld_put_same ..

theorem Dev.walkStop_fld (d : Dev) (n : Nat) {f : Fld} (hf : f.key ≠ (Reg.SL_LADDER_STAT.STATE n).key) : (d.walkStop n).fld f = d.fld f := by
  unfold Dev.walkStop
  split
  · exact Dev.fld_put_ne _ _ hf
  · rfl

theorem Dev.walkStart_spec (d : Dev) (n : Nat) : d.SameRegs (d.walkStart n) [Reg.SL_LADDER_STAT.STATE n, Reg.SL_LADDER_STAT.LOCKED n] ∧
    (d.walkStart n).macs = d.macs := by
  unfold Dev.walkStart
  split
  · exact ⟨((Dev.SameRegs.refl d _).put (by simp) _).put (by simp) _, rfl⟩
  · exact ⟨.refl d _, rfl⟩

/-- Links and the ladder keep what the write set. -/
theorem Dev.laneCtrl_fld (d : Dev) {n : Nat} (hn : n < 112) (mode : Nat) (en : Bool) {f : Fld} (hf : f ∈ ctrlFlds n) :
    (d.laneCtrl n mode en).fld f = (d.ctrlPut n mode en).fld f := by
  obtain ⟨hlink, hladder⟩ := ctrlFlds_apart hn f hf
  have hlinks (x : Dev) : (x.linkLane n).fld f = x.fld f :=
    Dev.linkPorts_fld _ x fun j hj => ⟨List.mem_range.1 hj, hlink j (List.mem_range.1 hj)⟩
  have hcnt : ∀ j ∈ List.range 4, f.key ∉ (cntFlds n j 19).map Fld.key := fun j hj hm => hlink j (List.mem_range.1 hj) (cut_mem_link hm)
  have hstate : f.key ≠ (Reg.SL_LADDER_STAT.STATE n).key := fun h => hladder (by simp [h])
  rw [Dev.laneCtrl_eq]
  dsimp only
  cases en with
  | true =>
    refine (hlinks _).trans (Eq.trans ?_ (Dev.walkStop_fld _ n hstate))
    unfold Dev.iff
    split <;> rfl
  | false =>
    refine ((Dev.walkStart_spec _ n).1.fld_eq hladder).trans ((hlinks _).trans ?_)
    unfold Dev.iff
    split
    · exact (Dev.stomps_spec 19 _ _ fun j hj => List.mem_range.1 hj).1 f hcnt
    · rfl

/-- The lane control register and the latencies after a write of it. -/
theorem Dev.laneCtrl_spec (d : Dev) {n mode : Nat} (hn : n < 112) (hmode : mode < 8) (en : Bool) :
    let was := d.on (Reg.SM_LANE_CTRL.LANE_EN n)
    let x := d.laneCtrl n mode en
    let now := if was then d.laneMode n else mode
    x.laneMode n = now ∧ x.fld (Reg.SM_LANE_CTRL.LANE_EN n) = bit en ∧
    x.fld (Reg.SL_PHY_LAT.RX_LAT n) = (if en then (phyLat now).1 else 0) ∧
    x.fld (Reg.SL_PHY_LAT.TX_LAT n) = (if en then (phyLat now).2 else 0) ∧
    (was = true → mode ≠ d.laneMode n → x.fld (Reg.SM_LANE_EVT.MODE_REJ n) = 1) := by
  intro was x now
  have hkept {f : Fld} (hf : f ∈ ctrlFlds n) : x.fld f = (d.ctrlPut n mode en).fld f := d.laneCtrl_fld hn mode en hf
  rw [Dev.laneMode, hkept (f := Reg.SM_LANE_CTRL.MODE n) (by simp [ctrlFlds]), hkept (f := Reg.SM_LANE_CTRL.LANE_EN n) (by simp [ctrlFlds]),
    hkept (f := Reg.SL_PHY_LAT.RX_LAT n) (by simp [ctrlFlds]), hkept (f := Reg.SL_PHY_LAT.TX_LAT n) (by simp [ctrlFlds]),
    hkept (f := Reg.SM_LANE_EVT.MODE_REJ n) (by simp [ctrlFlds])]
  exact d.ctrlPut_spec hn hmode en

/-- A lane that is switched off ends the frames in transmission, and its ports have no link. -/
theorem Dev.laneCtrl_off (d : Dev) {n mode : Nat} (hn : n < 112) (hmode : mode < 8) (hwas : d.on (Reg.SM_LANE_CTRL.LANE_EN n) = true) :
    ∀ i < 4, ((d.laneCtrl n mode false).mac (4 * n + i)).tx = none ∧ (d.laneCtrl n mode false).fld (Reg.SM_PORT_STAT.LINK n i) = 0 := by
  intro i hi
  obtain ⟨-, hen, -⟩ := d.ctrlPut_spec hn hmode false
  have hap := ctrlFlds_apart hn (Reg.SM_LANE_CTRL.LANE_EN n) (by simp [ctrlFlds])
  obtain ⟨hkept, hidle⟩ := Dev.stomps_spec (n := n) 19 (List.range 4) (d.ctrlPut n mode false) fun j hj => List.mem_range.1 hj
  have hoff := Dev.linkPorts_off hn (List.range 4) _ (fun j hj => List.mem_range.1 hj)
    ((hkept _ fun j hj hm => hap.1 j (List.mem_range.1 hj) (cut_mem_link hm)).trans hen) fun i hi => hidle i hi (.inl (List.mem_range.2 hi))
  rw [Dev.laneCtrl_eq]
  dsimp only
  rw [if_neg (by decide), hwas]
  obtain ⟨hregs, hmacs⟩ := Dev.walkStart_spec (Dev.linkLane ((d.ctrlPut n mode false).each (List.range 4) fun d j => d.stomp (4 * n + j) 19) n) n
  refine ⟨?_, (hregs.fld_eq ?_).trans (hoff.2 i (List.mem_range.2 hi))⟩
  · refine Eq.trans ?_ (hoff.1 i hi)
    unfold Dev.mac
    exact congrArg (fun t => (Tbl.get t (4 * n + i) ({} : Mac)).tx) hmacs
  · simp only [List.map_cons, List.map_nil, List.mem_cons, List.not_mem_nil, or_false, not_or, Fld.key, Reg.SM_PORT_STAT.LINK,
      Reg.SL_LADDER_STAT.STATE, Reg.SL_LADDER_STAT.LOCKED]
    omega

/-! ### In-band words and the elastic store -/

theorem Dev.inbandWord_here {n j rate : Nat} (hj : j < 4) (hl : d.slHere n = true) (hm : d.laneMode n = 4 ∨ d.laneMode n = 5)
    (hs : d.on (Reg.SL_STAT.SYNC n) = true) : ((d.inbandWord n j rate).mac (4 * n + j)).inband = some rate ∧
    (d.inbandWord n j rate).fld (Reg.SM_PORT_STAT.LINK_UNSUP n j) = bit (decide (rate ≠ 0) && !inbandOk (d.laneMode n) rate) := by
  have hmode : (d.laneMode n == 4 || d.laneMode n == 5) = true := by simpa using hm
  obtain ⟨x, hx⟩ : ∃ x, x = d.setMac (4 * n + j) { d.mac (4 * n + j) with inband := some rate } := ⟨_, rfl⟩
  have heq : d.inbandWord n j rate = x.linkPort n j := by
    rw [hx]
    exact if_pos (by rw [hl, hmode, hs]; rfl)
  have hin : (x.mac (4 * n + j)).inband = some rate := by rw [hx, Dev.mac_setMac]
  have hmx : x.laneMode n = d.laneMode n := by rw [hx]; rfl
  obtain ⟨-, -, hinband, hun, -⟩ := x.linkPort_spec n hj
  rw [heq]
  refine ⟨hinband.trans hin, hun.trans ?_⟩
  simp only [Dev.unsupported, hin, hmx, hmode, Bool.and_true]

theorem Dev.inbandWord_away {n j rate : Nat}
    (h : d.slHere n = false ∨ (d.laneMode n ≠ 4 ∧ d.laneMode n ≠ 5) ∨ d.on (Reg.SL_STAT.SYNC n) = false) : d.inbandWord n j rate = d := by
  refine if_neg ?_
  simp only [Bool.and_eq_true, Bool.or_eq_true, beq_iff_eq]
  rintro ⟨⟨hl, hm⟩, hs⟩
  rcases h with h | ⟨h4, h5⟩ | h
  · simp [h] at hl
  · exact hm.elim h4 h5
  · simp [h] at hs

/-- The store of port j of lane n holds `f` bytes at the end of a frame: it is centred, and counts, where it ran full or empty. -/
def Dev.matchEnd (d : Dev) (n j : Nat) (f : Int) : Dev × Bool :=
  if f ≤ 0 ∨ 64 < f then
    (((d.setMac (4 * n + j) { d.mac (4 * n + j) with fill := 32 }).bump (Reg.SL_CNT.COUNT n 2)).ev (Reg.SL_EVT.RM_OVF n), true)
  else (d.setMac (4 * n + j) { d.mac (4 * n + j) with fill := f }, false)

theorem matchFlds_apart (n : Nat) : ((Reg.SL_EVT.RM_OVF n).key ≠ (Reg.SL_CNT.COUNT n 2).key) ∧
    ∀ c < 2, (Reg.SL_CNT.COUNT n c).key ∉ [Reg.SL_CNT.COUNT n 2, Reg.SL_EVT.RM_OVF n].map Fld.key := by
  simp only [List.map_cons, List.map_nil, List.mem_cons, List.not_mem_nil, or_false, not_or, Fld.key, Reg.SL_CNT.COUNT, Reg.SL_EVT.RM_OVF]
  exact ⟨by omega, fun c hc => by omega⟩

theorem Dev.fld_bump (d : Dev) (f : Fld) : (d.bump f).fld f = min (2 ^ f.w - 1) (d.fld f + 1) := by
  have hpos : 0 < 2 ^ f.w := Nat.two_pow_pos _
  refine (Dev.fld_put_same ..).trans (Nat.mod_eq_of_lt ?_)
  omega

theorem Dev.matchEnd_spec (d : Dev) (n j : Nat) (f : Int) :
    let lost := f ≤ 0 ∨ 64 < f
    let r := d.matchEnd n j f
    (r.2 = true ↔ lost) ∧ (r.1.mac (4 * n + j)).fill = (if lost then 32 else f) ∧
    (lost → r.1.fld (Reg.SL_CNT.COUNT n 2) = min (2 ^ (Reg.SL_CNT.COUNT n 2).w - 1) (d.fld (Reg.SL_CNT.COUNT n 2) + 1) ∧
      r.1.fld (Reg.SL_EVT.RM_OVF n) = 1) ∧
    d.SameRegs r.1 (if lost then [Reg.SL_CNT.COUNT n 2, Reg.SL_EVT.RM_OVF n] else []) := by
  intro lost r
  by_cases h : lost
  · have hr : r = _ := if_pos h
    rw [hr]
    refine ⟨⟨fun _ => h, fun _ => rfl⟩, ?_, fun _ => ⟨?_, Dev.fld_put_same ..⟩, ?_⟩
    · rw [if_pos h]
      exact congrArg Mac.fill (Dev.mac_setMac d (4 * n + j) { d.mac (4 * n + j) with fill := 32 })
    · exact (Dev.fld_put_ne _ _ (matchFlds_apart n).1.symm).trans (Dev.fld_bump _ _)
    · rw [if_pos h]
      exact (((Dev.SameRegs.refl d _).of_regs rfl).put (by simp) _).put (by simp) _
  · have hr : r = _ := if_neg h
    rw [hr]
    refine ⟨⟨fun h => (nomatch h), fun h' => absurd h' h⟩, ?_, fun h' => absurd h' h, ?_⟩
    · rw [if_neg h]
      exact congrArg Mac.fill (Dev.mac_setMac ..)
    · exact (Dev.SameRegs.refl d _).of_regs rfl

theorem Dev.rateMatch_del {n j : Nat} {x : RateMatch} (h : 40 < (d.mac (4 * n + j)).fill + x.drift ∧ 2 ≤ x.gap) :
    d.rateMatch n j x = (d.bump (Reg.SL_CNT.COUNT n 1)).matchEnd n j
      ((d.mac (4 * n + j)).fill + x.drift - (modeCoding (d.laneMode n)).idleBytes + x.inside) := by
  simp only [Dev.rateMatch, gapFill, if_pos h]
  rfl

theorem Dev.rateMatch_ins {n j : Nat} {x : RateMatch} (h : ¬ (40 < (d.mac (4 * n + j)).fill + x.drift ∧ 2 ≤ x.gap))
    (hi : (d.mac (4 * n + j)).fill + x.drift < 24) : d.rateMatch n j x = (d.bump (Reg.SL_CNT.COUNT n 0)).matchEnd n j
      ((d.mac (4 * n + j)).fill + x.drift + (modeCoding (d.laneMode n)).idleBytes + x.inside) := by
  simp only [Dev.rateMatch, gapFill, if_neg h, if_pos hi]
  rfl

theorem Dev.rateMatch_none {n j : Nat} {x : RateMatch} (h : ¬ (40 < (d.mac (4 * n + j)).fill + x.drift ∧ 2 ≤ x.gap))
    (hi : ¬ (d.mac (4 * n + j)).fill + x.drift < 24) : d.rateMatch n j x = d.matchEnd n j ((d.mac (4 * n + j)).fill + x.drift + x.inside) := by
  simp only [Dev.rateMatch, gapFill, if_neg h, if_neg hi]
  rfl

/-- A count at the gap and the end of the frame, one after the other. -/
theorem Dev.matchEnd_counted (d : Dev) (n j : Nat) (f : Int) {c : Nat} (hc : c < 2) :
    let lost := f ≤ 0 ∨ 64 < f
    let r := (d.bump (Reg.SL_CNT.COUNT n c)).matchEnd n j f
    (r.2 = true ↔ lost) ∧ (r.1.mac (4 * n + j)).fill = (if lost then 32 else f) ∧
    r.1.fld (Reg.SL_CNT.COUNT n c) = min (2 ^ (Reg.SL_CNT.COUNT n c).w - 1) (d.fld (Reg.SL_CNT.COUNT n c) + 1) ∧
    (lost → r.1.fld (Reg.SL_CNT.COUNT n 2) = min (2 ^ (Reg.SL_CNT.COUNT n 2).w - 1) (d.fld (Reg.SL_CNT.COUNT n 2) + 1) ∧
      r.1.fld (Reg.SL_EVT.RM_OVF n) = 1) ∧
    d.SameRegs r.1 ([Reg.SL_CNT.COUNT n c] ++ if lost then [Reg.SL_CNT.COUNT n 2, Reg.SL_EVT.RM_OVF n] else []) := by
  intro lost r
  have hc2 := (matchFlds_apart n).2 c hc
  obtain ⟨hl, hfill, hlost, hregs⟩ := (d.bump (Reg.SL_CNT.COUNT n c)).matchEnd_spec n j f
  have hne : (Reg.SL_CNT.COUNT n 2).key ≠ (Reg.SL_CNT.COUNT n c).key := fun h => hc2 (by simp [h])
  refine ⟨hl, hfill, ?_, fun h => ⟨(hlost h).1.trans ?_, (hlost h).2⟩, ?_⟩
  · refine (hregs.fld_eq ?_).trans (Dev.fld_bump _ _)
    split
    · exact hc2
    · simp
  · rw [show (d.bump (Reg.SL_CNT.COUNT n c)).fld (Reg.SL_CNT.COUNT n 2) = d.fld (Reg.SL_CNT.COUNT n 2) from Dev.fld_put_ne _ _ hne]
  · exact ((Dev.SameRegs.refl d [Reg.SL_CNT.COUNT n c]).put (by simp) _).trans hregs fun _ hx => hx

theorem elasticStore (d : Dev) (n : Fin 112) (j : Fin 4) (x : RateMatch) :
    let p := 4 * n.val + j
    let u : Int := (modeCoding (d.laneMode n)).idleBytes
    let f0 := (d.mac p).fill + x.drift
    let del := 40 < f0 ∧ 2 ≤ x.gap
    let f := (if del then f0 - u else if f0 < 24 then f0 + u else f0) + x.inside
    let lost := f ≤ 0 ∨ 64 < f
    let e := (d.rateMatch n j x).1
    let plus := fun (c : Nat) => e.fld (Reg.SL_CNT.COUNT n c) =
      min (2 ^ (Reg.SL_CNT.COUNT n c).w - 1) (d.fld (Reg.SL_CNT.COUNT n c) + 1)
    ((d.rateMatch n j x).2 = true ↔ lost) ∧ (e.mac p).fill = (if lost then 32 else f) ∧ (del → plus 1) ∧
    (¬ del → f0 < 24 → plus 0) ∧ (lost → plus 2 ∧ e.fld (Reg.SL_EVT.RM_OVF n) = 1) ∧
    d.SameRegs e ((if del then [Reg.SL_CNT.COUNT n 1] else if f0 < 24 then [Reg.SL_CNT.COUNT n 0] else []) ++
      if lost then [Reg.SL_CNT.COUNT n 2, Reg.SL_EVT.RM_OVF n] else []) := by
  intro p u f0 del f lost e plus
  by_cases hd : del
  · have hr := Dev.rateMatch_del hd
    have hf : f = f0 - u + x.inside := by
      show (if del then _ else _) + _ = _
      rw [if_pos hd]
    obtain ⟨hl, hfill, hcnt, hlost, hregs⟩ := d.matchEnd_counted n j f (show 1 < 2 by decide)
    rw [hf, ← hr, ← hf] at hl hfill hlost hregs
    rw [hf, ← hr] at hcnt
    refine ⟨hl, hfill, fun _ => hcnt, fun h => absurd hd h, hlost, ?_⟩
    rw [if_pos hd]
    exact hregs
  · by_cases hi : f0 < 24
    · have hr := Dev.rateMatch_ins hd hi
      have hf : f = f0 + u + x.inside := by
        show (if del then _ else _) + _ = _
        rw [if_neg hd, if_pos hi]
      obtain ⟨hl, hfill, hcnt, hlost, hregs⟩ := d.matchEnd_counted n j f (show 0 < 2 by decide)
      rw [hf, ← hr, ← hf] at hl hfill hlost hregs
      rw [hf, ← hr] at hcnt
      refine ⟨hl, hfill, fun h => absurd h hd, fun _ _ => hcnt, hlost, ?_⟩
      rw [if_neg hd, if_pos hi]
      exact hregs
    · have hr := Dev.rateMatch_none hd hi
      have hf : f = f0 + x.inside := by
        show (if del then _ else _) + _ = _
        rw [if_neg hd, if_neg hi]
      obtain ⟨hl, hfill, hlost, hregs⟩ := d.matchEnd_spec n j f
      rw [hf, ← hr, ← hf] at hl hfill hlost hregs
      refine ⟨hl, hfill, fun h => absurd h hd, fun _ h => absurd h hi, hlost, ?_⟩
      rw [if_neg hd, if_neg hi]
      exact hregs

/-! ### Reception -/

section Reception
variable {n j : Nat} {b : List Byte} {err : Bool} {st : Strobe}

theorem Dev.macRx_off (h : ¬ (d.portUp n j = true ∧ d.on (Reg.SM_PORT_CTRL.RX_EN n j) = true)) : d.macRx n j b err st = d :=
  if_pos (by rwa [Bool.not_eq_true', ← Bool.not_eq_true, Bool.and_eq_true])

section On
variable (h : d.portUp n j = true ∧ d.on (Reg.SM_PORT_CTRL.RX_EN n j) = true)
include h

theorem Dev.macRx_code (hc : err = true ∨ d.on (Reg.SL_STAT.RX_ASLEEP n) = true) : d.macRx n j b err st = d.smCnt n j 7 := by
  unfold Dev.macRx
  rw [if_neg (by rw [h.1, h.2]; decide), if_pos (by simpa using hc)]

variable (hc : ¬ (err = true ∨ d.on (Reg.SL_STAT.RX_ASLEEP n) = true))
include hc

/-- The checks of a frame without code errors, in their order (R222). -/
theorem Dev.macRx_checks : d.macRx n j b err st =
    let x := b.take (b.length - 4)
    if b.length < 4 ∨ fcs x ≠ b.drop (b.length - 4) then d.smCnt n j 8
    else if b.length < 64 then d.smCnt n j 9
    else if d.maxFrame n j < b.length then d.smCnt n j 10
    else if beAt x 12 2 = 0x8808 then d.rxControl n j x
    else (d.castCount n j 0 x).arrive
      { data := x, srcKind := 0, inPort := d.devAddr * 512 + (4 * n + j), localIn := 4 * n + j, slice := sliceOf (4 * n + j)
        stamp := d.stampRx st (3600 * psU) ((phyLat (d.laneMode n)).1 * 100 * psU) (modeUi (d.laneMode n)) (4 * n + j) } := by
  unfold Dev.macRx
  rw [if_neg (by rw [h.1, h.2]; decide), if_neg (by simpa using hc), Nat.add_assoc]

end On

end Reception

/-! ### The clauses -/

section Clauses
variable (s : State) (hup : s.dev.mainUp = true)
include hup

theorem laneControl (m : Master) (n : Fin 112) (v : Word) (hl : s.dev.slHere n = true) :
    let x := s.dev
    let was := x.fld (Reg.SM_LANE_CTRL.LANE_EN n)
    let en := bits v.toNat 3 1
    (was = 0 → Effect (.laneCtrlWrite m n v) s (fun d => d.laneMode n = v.toNat % 8 ∧ d.fld (Reg.SM_LANE_CTRL.LANE_EN n) = en ∧
      d.fld (Reg.SL_PHY_LAT.RX_LAT n) = (if en = 1 then (phyLat (v.toNat % 8)).1 else 0) ∧
      d.fld (Reg.SL_PHY_LAT.TX_LAT n) = (if en = 1 then (phyLat (v.toNat % 8)).2 else 0))) ∧
    (was ≠ 0 → Effect (.laneCtrlWrite m n v) s (fun d => d.laneMode n = x.laneMode n ∧ d.fld (Reg.SM_LANE_CTRL.LANE_EN n) = en ∧
      (v.toNat % 8 ≠ x.laneMode n → d.fld (Reg.SM_LANE_EVT.MODE_REJ n) = 1) ∧
      (en = 0 → ∀ i < 4, (d.mac (4 * n + i)).tx = none ∧ d.fld (Reg.SM_PORT_STAT.LINK n i) = 0))) := by
  intro x was en
  have hmode : v.toNat % 8 < 8 := Nat.mod_lt _ (by decide)
  have hdoes : Does (.laneCtrlWrite m n v) s (x.laneCtrl n (v.toNat % 8) (bitOf v.toNat 3)) :=
    .of_main_eq (exec_laneCtrlWrite ..) hup (x.poke_SM_LANE_CTRL m n v hl)
  have hen : bit (bitOf v.toNat 3) = en := (bits_one_eq _ _).symm
  obtain ⟨hm, he, hrx, htx, hrej⟩ := x.laneCtrl_spec n.isLt hmode (bitOf v.toNat 3)
  simp only [bitOf_iff_bits] at hrx htx
  refine ⟨fun hwas => ⟨_, hdoes, ?_⟩, fun hwas => ⟨_, hdoes, ?_⟩⟩
  · have hnot : ¬ x.on (Reg.SM_LANE_CTRL.LANE_EN n) = true := fun h => bne_iff_ne.1 h hwas
    rw [if_neg hnot] at hm hrx htx
    exact ⟨hm, he.trans hen, hrx, htx⟩
  · have hon : x.on (Reg.SM_LANE_CTRL.LANE_EN n) = true := bne_iff_ne.2 hwas
    rw [if_pos hon] at hm
    refine ⟨hm, he.trans hen, hrej hon, fun h0 => ?_⟩
    rw [bitOf_zero_of_bits h0]
    exact x.laneCtrl_off n.isLt hmode hon

theorem portLink (n : Fin 112) (j : Fin 4) :
    let x := s.dev
    let p := 4 * n.val + j
    let y := x.mac p
    let link := Reg.SM_PORT_STAT.LINK n j
    (x.portShouldUp n j = true → x.fld link = 0 → Effect (.portLinkChange n j) s (fun d => d.fld link = 1 ∧
      d.fld (Reg.SM_PORT_STAT.SPEED n j) = speedCode (x.portMbps n j) ∧ d.fld (Reg.SM_PORT_EVT.LINK_CHG n j) = 1 ∧ d.macs = x.macs)) ∧
    (x.portShouldUp n j = false → x.fld link ≠ 0 → Effect (.portLinkChange n j) s (fun d => d.fld link = 0 ∧
      d.fld (Reg.SM_PORT_STAT.SPEED n j) = 7 ∧ d.fld (Reg.SM_PORT_EVT.LINK_CHG n j) = 1 ∧ (d.mac p).tx = none ∧
      (d.mac p).waiting = none ∧ (d.mac p).due = [] ∧ (d.mac p).free = x.nowPs ∧
      d.fld (Reg.SM_PORT_STAT.LPI_TX n j) = 0 ∧ d.fld (Reg.SM_PORT_STAT.LPI_RX n j) = 0 ∧
      (∀ t, y.tx = some t →
        d.out = (if t.cut then [] else [.portTx p (t.data.take (x.sentSoFar p t)) false]) ++ x.out) ∧ (y.tx = none → d.out = x.out))) ∧
    (x.portShouldUp n j = x.portUp n j → Effect (.portLinkChange n j) s (fun d =>
      x.SameRegs d [Reg.SM_PORT_STAT.LINK_UNSUP n j, Reg.SM_PORT_STAT.SPEED n j] ∧ { d with regs := x.regs } = x ∧
      (x.portUp n j = true → d.fld (Reg.SM_PORT_STAT.SPEED n j) = speedCode (x.portMbps n j)))) := by
  intro x p y link
  have hdoes : Does (.portLinkChange n j) s (x.linkPort n j) := .of_main_eq (exec_portLinkChange ..) hup rfl
  refine ⟨fun h hlink => ⟨_, hdoes, ?_⟩, fun h hlink => ⟨_, hdoes, ?_⟩, fun h => ⟨_, hdoes, ?_⟩⟩
  · obtain ⟨⟨hv, -⟩, hrest⟩ := Dev.linkPort_up h (show (x.fld link != 0) = false by rw [hlink]; rfl)
    exact ⟨hv (link, 1) (by simp [link]), hv (Reg.SM_PORT_STAT.SPEED n j, speedCode (x.portMbps n j)) (by simp),
      hv (Reg.SM_PORT_EVT.LINK_CHG n j, 1) (by simp), (congrArg Dev.macs hrest :)⟩
  · obtain ⟨hv, -, -, hmac, hsome, hnone⟩ := Dev.linkPort_down j.isLt h (show (x.fld link != 0) = true from bne_iff_ne.2 hlink)
    refine ⟨hv (link, 0) (by simp [Dev.downFlds, link]), hv (Reg.SM_PORT_STAT.SPEED n j, 7) (by simp [Dev.downFlds]),
      hv (Reg.SM_PORT_EVT.LINK_CHG n j, 1) (by simp [Dev.downFlds]), ?_, ?_, ?_, ?_, hv (Reg.SM_PORT_STAT.LPI_TX n j, 0) (by simp [Dev.downFlds]),
      hv (Reg.SM_PORT_STAT.LPI_RX n j, 0) (by simp [Dev.downFlds]), hsome, hnone⟩ <;> exact (congrArg _ hmac :)
  · obtain ⟨hregs, hrest, -, hspeed⟩ := Dev.linkPort_same h
    exact ⟨hregs, hrest, hspeed⟩

theorem frameReception (dt : Nat) (n : Fin 112) (j : Fin 4) (b : List Byte) (err : Bool) (rm : RateMatch) (st : Strobe) :
    let d0 := s.dev.advance dt
    let r := d0.rateMatch n j rm
    let e := r.1
    let x := b.take (b.length - 4)
    let p := 4 * n.val + j
    let rx := Instr.macFrameRx dt n j b err rm st
    let bad := b.length < 4 ∨ fcs x ≠ b.drop (b.length - 4)
    let on := e.portUp n j = true ∧ e.on (Reg.SM_PORT_CTRL.RX_EN n j) = true
    let code := err = true ∨ r.2 = true ∨ e.on (Reg.SL_STAT.RX_ASLEEP n) = true
    let m := e.laneMode n
    (d0.slHere n = false → Does rx s d0) ∧
    (d0.slHere n = true → ¬ on → Does rx s e) ∧
    (d0.slHere n = true → on → (code → Does rx s (e.smCnt n j 7)) ∧ (¬ code → bad → Does rx s (e.smCnt n j 8)) ∧
      (¬ code → ¬ bad → b.length < 64 → Does rx s (e.smCnt n j 9)) ∧
      (¬ code → ¬ bad → 64 ≤ b.length → e.maxFrame n j < b.length → Does rx s (e.smCnt n j 10)) ∧
      (¬ code → ¬ bad → 64 ≤ b.length → b.length ≤ e.maxFrame n j → beAt x 12 2 = 0x8808 → Does rx s (e.rxControl n j x)) ∧
      (¬ code → ¬ bad → 64 ≤ b.length → b.length ≤ e.maxFrame n j → beAt x 12 2 ≠ 0x8808 →
        Does rx s ((e.castCount n j 0 x).arrive
          { data := x, srcKind := 0, inPort := e.devAddr * 512 + p, localIn := p, slice := sliceOf p
            stamp := e.stampRx st (3600 * psU) ((phyLat m).1 * 100 * psU) (modeUi m) p }))) := by
  intro d0 r e x p rx bad on code m
  have hdoes : Does rx s (d0.frameRx n j b err rm st) := .of_main_eq (exec_macFrameRx ..) hup rfl
  have hhere (h : d0.slHere n = true) : d0.frameRx n j b err rm st = e.macRx n j b (err || r.2) st := if_pos h
  have hcode : code ↔ (err || r.2) = true ∨ e.on (Reg.SL_STAT.RX_ASLEEP n) = true := by
    rw [Bool.or_eq_true, or_assoc]
  have hchecks (h : d0.slHere n = true) (hon : on) (hc : ¬ code) : d0.frameRx n j b err rm st = _ :=
    (hhere h).trans (Dev.macRx_checks hon (hcode.not.1 hc))
  refine ⟨fun h => ?_, fun h hon => ?_, fun h hon => ⟨fun hc => ?_, fun hc hb => ?_, fun hc hb hs => ?_, fun hc hb hs hlong => ?_,
    fun hc hb hs hlong hctl => ?_, fun hc hb hs hlong hctl => ?_⟩⟩
  · exact (show d0.frameRx n j b err rm st = d0 from if_neg (by rw [h]; decide)) ▸ hdoes
  · exact ((hhere h).trans (Dev.macRx_off hon)) ▸ hdoes
  · exact ((hhere h).trans (Dev.macRx_code hon (hcode.1 hc))) ▸ hdoes
  · exact ((hchecks h hon hc).trans (if_pos hb)) ▸ hdoes
  · exact ((hchecks h hon hc).trans ((if_neg hb).trans (if_pos hs))) ▸ hdoes
  · exact ((hchecks h hon hc).trans ((if_neg hb).trans ((if_neg hs.not_gt).trans (if_pos hlong)))) ▸ hdoes
  · exact ((hchecks h hon hc).trans ((if_neg hb).trans ((if_neg hs.not_gt).trans ((if_neg hlong.not_gt).trans (if_pos hctl))))) ▸ hdoes
  · exact ((hchecks h hon hc).trans ((if_neg hb).trans ((if_neg hs.not_gt).trans ((if_neg hlong.not_gt).trans (if_neg hctl))))) ▸ hdoes

end Clauses

/-- Settles O42: a write of the lane control register, the link of a port, its in-band word, the checks of a received frame in their
order, and the elastic store. -/
theorem lanesLinkAndReception : Obligations.LanesLinkAndReception := by
  unfold Obligations.LanesLinkAndReception
  refine ⟨fun s m n j v rate hup => ?_, fun s dt n j b err rm st hup => frameReception s hup dt n j b err rm st, elasticStore,
    fun d n j c k _ => ⟨d.smCount_wide n j c k, d.smCount_regs n j c k⟩⟩
  obtain ⟨hon, hoff, hsame⟩ := portLink s hup n j
  refine ⟨fun hl => laneControl s hup m n v hl, hon, hoff, hsame, fun ⟨hl, hm, hs⟩ => ?_, fun h => ?_⟩
  · exact .of_main_eq hup (Dev.inbandWord_here j.isLt hl hm hs) (exec_inbandWordChange ..) rfl
  · exact .of_main_eq (exec_inbandWordChange ..) hup (Dev.inbandWord_away h)

end Sys2Proof.Machine
end

section
/-!
PROOFS. O50: a riser link brought up (Machine/Phy.lean). A port's bring-up moves its own registers, the PLL's view of its clock and
its own phy; what each state's entry writes is said once, and a command only chooses which state it enters.
-/
namespace Sys2Proof.Machine

variable {d e : Dev} {p : Nat} {ks : List Fld}

/-! ### The page that a port sends -/

theorem beBytes_length (v : Nat) : ∀ n, (beBytes v n).length = n
  | 0 => rfl
  | n + 1 => by rw [beBytes, List.length_append, beBytes_length (v / 256) n]; rfl

theorem byteAt_append_left {a b : List Byte} {i : Nat} (h : i < a.length) : byteAt (a ++ b) i = byteAt a i := by
  unfold byteAt
  rw [List.getElem?_append_left h]

theorem byteAt_append_right {a b : List Byte} {i : Nat} (h : a.length ≤ i) : byteAt (a ++ b) i = byteAt b (i - a.length) := by
  unfold byteAt
  rw [List.getElem?_append_right h]

theorem byteAt_lt (b : List Byte) (i : Nat) : byteAt b i < 256 := by
  unfold byteAt
  split
  · exact BitVec.isLt _
  · decide

theorem Crc.bit_lt (c : Crc) (hp : c.poly < 2 ^ c.w) (a : Nat) (b : Bool) : c.bit a b < 2 ^ c.w := by
  have hmod : a * 2 % 2 ^ c.w < 2 ^ c.w := Nat.mod_lt _ (Nat.two_pow_pos _)
  unfold Crc.bit
  dsimp only
  split
  · exact Nat.xor_lt_two_pow hmod hp
  · exact hmod

theorem Crc.byte_lt (c : Crc) (hp : c.poly < 2 ^ c.w) (a x : Nat) : c.byte a x < 2 ^ c.w := by
  unfold Crc.byte
  rw [show List.range 8 = List.range 7 ++ [7] from rfl, List.foldl_append]
  exact c.bit_lt hp _ _

theorem Crc.acc_lt (c : Crc) (hp : c.poly < 2 ^ c.w) : ∀ (b : List Byte) (a : Nat), a < 2 ^ c.w → c.acc a b < 2 ^ c.w
  | [], _, h => h
  | x :: b, a, _ => Crc.acc_lt c hp b _ (c.byte_lt hp a x.toNat)

theorem crc16_lt (b : List Byte) : crc16.sum b < 2 ^ 16 := by
  have h := Crc.acc_lt crc16 (by decide) b crc16.init (by decide)
  rw [Crc.sum, Crc.finish, if_neg (by decide), show crc16.xor = 0 from rfl, Nat.xor_zero]
  exact h

theorem Dev.offered_eq (d : Dev) (p : Nat) : ∃ b1 b2 : Bool, d.offered p = 1 + bit b1 * 2 + bit b2 * 4 :=
  ⟨bitOf (d.fld (Reg.RP_PHY_CTRL.RATES p)) 1 && !bitOf (d.phy p).removed 1, bitOf (d.fld (Reg.RP_PHY_CTRL.RATES p)) 2 && !bitOf (d.phy p).removed 2,
    by simp [Dev.offered, List.range_succ, bit]⟩

/-- The eight bytes of a page with the third byte `x` and the fourth byte `u` (R277). -/
def pageOf (x u : Nat) : List Byte :=
  let b := beBytes 0xC3A5 2 ++ beBytes x 1 ++ beBytes u 1 ++ beBytes 0 2
  b ++ beBytes (crc16.sum b) 2

theorem pageOf_ok {x : Nat} (u : Nat) (hx : x / 16 = 1) : pageOk (pageOf x u) = true ∧ byteAt (pageOf x u) 2 = x := by
  obtain ⟨b, hb⟩ : ∃ b, b = beBytes 0xC3A5 2 ++ beBytes x 1 ++ beBytes u 1 ++ beBytes 0 2 := ⟨_, rfl⟩
  have hlen : b.length = 6 := by rw [hb]; rfl
  have hpage : pageOf x u = b ++ beBytes (crc16.sum b) 2 := by rw [hb]; rfl
  have hsum := crc16_lt b
  obtain ⟨c, hc⟩ : ∃ c, c = crc16.sum b := ⟨_, rfl⟩
  have hhead : byteAt b 0 = 0xC3 ∧ byteAt b 1 = 0xA5 ∧ byteAt b 2 = x := by
    refine ⟨by rw [hb]; rfl, by rw [hb]; rfl, ?_⟩
    rw [hb]
    show x % 2 ^ 8 = x
    omega
  have htail : byteAt (b ++ beBytes c 2) 6 = c / 256 % 256 ∧ byteAt (b ++ beBytes c 2) 7 = c % 256 := by
    rw [byteAt_append_right (by omega), byteAt_append_right (by omega), hlen]
    exact ⟨rfl, rfl⟩
  have hbytes (i : Nat) (hi : i < 6) : byteAt (b ++ beBytes c 2) i = byteAt b i := byteAt_append_left (by omega)
  rw [← hc] at hsum hpage
  rw [hpage]
  refine ⟨?_, (hbytes 2 (by decide)).trans hhead.2.2⟩
  simp only [pageOk, Bool.and_eq_true, beq_iff_eq, beAt, hbytes _ (show 0 + 0 < 6 by decide), hbytes _ (show 0 + 1 < 6 by decide),
    hbytes _ (show 2 < 6 by decide), hhead, htail, Nat.zero_add, List.length_append, hlen, beBytes_length, hx, Nat.add_zero,
    show 6 + 1 = 7 from rfl, List.take_left' hlen, ← hc]
  refine ⟨by decide, ?_⟩
  omega

theorem Dev.ownPage_eq (d : Dev) (p : Nat) :
    d.ownPage p = pageOf (0x10 + bit (d.phy p).ack * 8 + d.offered p) (bit (d.on (Reg.RP_PHY_CTRL.UPPER p)) * 128) := rfl

theorem Dev.ownPage_spec (d : Dev) (p : Nat) : pageOk (d.ownPage p) = true ∧ byteAt (d.ownPage p) 2 = 16 + 8 * bit (d.phy p).ack + d.offered p ∧
    bitOf (d.offered p) 0 = true := by
  obtain ⟨b1, b2, ho⟩ := d.offered_eq p
  have hlt := bit_lt b1
  have hlt2 := bit_lt b2
  have hack := bit_lt (d.phy p).ack
  obtain ⟨hok, hbyte⟩ := pageOf_ok (x := 0x10 + bit (d.phy p).ack * 8 + d.offered p) (bit (d.on (Reg.RP_PHY_CTRL.UPPER p)) * 128) (by omega)
  rw [Dev.ownPage_eq]
  refine ⟨hok, hbyte.trans (by omega), ?_⟩
  rw [bitOf_iff_bits, bits, ho]
  omega

/-! ### The page in a lane's bits -/

/-- The page that stands three times running at bit `i`. -/
def pageAt (l : List Bool) (i : Nat) : Option (List Byte) :=
  let g := bitsBytes ((l.drop i).take 64)
  if pageOk g && bitsBytes ((l.drop i).take 192) == g ++ g ++ g then some g else none

theorem pageIn_eq : ∀ l : List Bool, pageIn l = ((List.range l.length).filterMap (pageAt l)).head?
  | [] => rfl
  | x :: r => by
    have hnext : pageIn r = (((List.range r.length).map (· + 1)).filterMap (pageAt (x :: r))).head? := by
      rw [List.filterMap_map]
      exact pageIn_eq r
    rw [List.length_cons, List.range_succ_eq_map, List.filterMap_cons, pageIn]
    by_cases h : (pageOk (bitsBytes ((x :: r).take 64)) && bitsBytes ((x :: r).take 192) ==
        bitsBytes ((x :: r).take 64) ++ bitsBytes ((x :: r).take 64) ++ bitsBytes ((x :: r).take 64)) = true
    · rw [show pageAt (x :: r) 0 = _ from if_pos h]
      exact if_pos h
    · rw [show pageAt (x :: r) 0 = _ from if_neg h]
      exact (if_neg h).trans hnext

theorem pageIn_ok {l : List Bool} {g : List Byte} (h : pageIn l = some g) : pageOk g = true := by
  rw [pageIn_eq, List.head?_filterMap] at h
  obtain ⟨i, -, hi⟩ := List.exists_of_findSome?_eq_some h
  unfold pageAt at hi
  dsimp only at hi
  split at hi
  · rename_i hok
    rw [← Option.some.inj hi]
    exact (Bool.and_eq_true_iff.1 hok).1
  · cases hi

/-! ### Sending on the lanes -/

/-- What sending leaves: every register, the part, and of the port's bring-up all but its lane codes. -/
structure Dev.Sends (p : Nat) (d e : Dev) : Prop where
  regs : e.regs = d.regs
  chip : e.chip = d.chip
  removed : (e.phy p).removed = (d.phy p).removed
  ack : (e.phy p).ack = (d.phy p).ack

theorem Dev.Sends.refl (p : Nat) (d : Dev) : Dev.Sends p d d := ⟨rfl, rfl, rfl, rfl⟩

theorem Dev.Sends.trans {f : Dev} (h : Dev.Sends p d e) (h' : Dev.Sends p e f) : Dev.Sends p d f :=
  ⟨h'.regs.trans h.regs, h'.chip.trans h.chip, h'.removed.trans h.removed, h'.ack.trans h.ack⟩

theorem Dev.Sends.fld (h : Dev.Sends p d e) (f : Fld) : e.fld f = d.fld f := by rw [Dev.fld, h.regs, Dev.fld]

theorem Dev.offered_congr (hf : e.fld (Reg.RP_PHY_CTRL.RATES p) = d.fld (Reg.RP_PHY_CTRL.RATES p)) (hr : (e.phy p).removed = (d.phy p).removed) :
    e.offered p = d.offered p := by
  unfold Dev.offered
  rw [hf, hr]

theorem Dev.ownPage_congr (hf : ∀ f ∈ [Reg.RP_PHY_CTRL.RATES p, Reg.RP_PHY_CTRL.UPPER p], e.fld f = d.fld f)
    (hr : (e.phy p).removed = (d.phy p).removed) (ha : (e.phy p).ack = (d.phy p).ack) : e.ownPage p = d.ownPage p := by
  rw [Dev.ownPage_eq, Dev.ownPage_eq, ha, Dev.offered_congr (hf _ (by simp)) hr, Dev.on, hf (Reg.RP_PHY_CTRL.UPPER p) (by simp), Dev.on]

theorem Dev.Sends.ownPage (h : Dev.Sends p d e) : e.ownPage p = d.ownPage p := Dev.ownPage_congr (fun f _ => h.fld f) h.removed h.ack

theorem Dev.laneRaw_sends (d : Dev) (p l : Nat) (b : List Bool) : Dev.Sends p d (d.laneRaw p l b) := by
  unfold Dev.laneRaw Dev.iff
  split <;> exact ⟨rfl, rfl, rfl, rfl⟩

theorem Dev.laneRaw_out (d : Dev) (p l : Nat) (b : List Bool) : (d.laneRaw p l b).out =
    (if d.on (Reg.RP_LANE_STAT.TX_ASLEEP p l) = true then [] else [.lane p l (polarity (d.on (Reg.RP_LANE_TXEQ.POL_INV p l)) b)]) ++ d.out := by
  unfold Dev.laneRaw Dev.iff Dev.emit
  cases d.on (Reg.RP_LANE_STAT.TX_ASLEEP p l) <;> rfl

theorem Dev.setPhy_sends (d : Dev) (p : Nat) (y : Phy) (hr : y.removed = (d.phy p).removed) (ha : y.ack = (d.phy p).ack) :
    Dev.Sends p d (d.setPhy p y) := by
  refine ⟨rfl, rfl, ?_, ?_⟩ <;> rw [Dev.phy_setPhy] <;> assumption

theorem Dev.laneSend_sends (d : Dev) (p : Nat) (b0 b1 : List Byte) : Dev.Sends p d (d.laneSend p b0 b1) ∧ ∃ l, (d.laneSend p b0 b1).out = l ++ d.out := by
  have h := d.setPhy_sends p { d.phy p with tx0 := ((d.phy p).tx0.sendBits (bytesBits b0)).1, tx1 := ((d.phy p).tx1.sendBits (bytesBits b1)).1 }
    rfl rfl
  refine ⟨(h.trans (Dev.laneRaw_sends ..)).trans (Dev.laneRaw_sends ..), ?_⟩
  exact ⟨_, ((Dev.laneRaw_out ..).trans (congrArg _ (Dev.laneRaw_out ..))).trans (List.append_assoc ..).symm⟩

theorem Dev.txCodeFree_sends (d : Dev) (p : Nat) : Dev.Sends p d (d.txCodeFree p) ∧ (d.txCodeFree p).out = d.out :=
  ⟨(show Dev.Sends p d d.freed.freed from ⟨rfl, rfl, rfl, rfl⟩).trans (Dev.setPhy_sends _ _ _ rfl rfl), rfl⟩

theorem Dev.sendPage_sends (d : Dev) (p : Nat) : Dev.Sends p d (d.sendPage p) := by
  unfold Dev.sendPage
  split
  · exact .refl p d
  · exact ((show Dev.Sends p d (d.emit _) from ⟨rfl, rfl, rfl, rfl⟩).trans (Dev.laneSend_sends ..).1).trans (Dev.txCodeFree_sends ..).1

theorem Dev.sendPage_page (hup : d.rpUp p = true) (hst : d.phyState p ≤ phPage) (hf : d.on (Reg.RP_PHY_CTRL.FORCE p) = false)
    (hp : d.phyPattern p = false) (hs : d.on (Reg.RP_PHY_STAT.TX_ASLEEP p) = false) : .page p (d.ownPage p) ∈ (d.sendPage p).out := by
  have heq : d.sendPage p = _ := if_neg (by simp [hup, hst, hf, hp, hs])
  obtain ⟨l, hl⟩ := (Dev.laneSend_sends (d.emit (.page p (d.ownPage p))) p (d.ownPage p) (d.ownPage p)).2
  rw [heq, (Dev.txCodeFree_sends ..).2, hl]
  exact List.mem_append_right _ List.mem_cons_self

theorem Dev.trainSend_sends (d : Dev) (p : Nat) : Dev.Sends p d (d.trainSend p) :=
  (((show Dev.Sends p d d.freed from ⟨rfl, rfl, rfl, rfl⟩).trans (Dev.laneRaw_sends ..)).trans (show Dev.Sends p _ (Dev.freed _) from ⟨rfl, rfl, rfl, rfl⟩)).trans
    (Dev.laneRaw_sends ..)

/-! ### The PLL's look at its reference -/

def pllSeen : List Fld := [Reg.TIM_PLL_STAT.REF_OK, Reg.TIM_PLL_STAT.STATE, Reg.TIM_EVT.PLL_CHG]

theorem Dev.pllTo_regs (d : Dev) (t : Nat) : d.SameRegs (d.pllTo t) pllSeen ∧ { d.pllTo t with regs := d.regs } = d := by
  unfold Dev.pllTo
  split
  · exact ⟨.refl d _, rfl⟩
  · exact ⟨((Dev.SameRegs.refl d _).put (by simp [pllSeen]) _).put (by simp [pllSeen]) _, rfl⟩

theorem Dev.pllEval_regs (d : Dev) : d.SameRegs d.pllEval pllSeen ∧ { d.pllEval with regs := d.regs } = d := by
  have hshown : d.SameRegs d.refShown pllSeen := (Dev.SameRegs.refl d _).put (by simp [pllSeen]) _
  have hto (t : Nat) : d.SameRegs (d.refShown.pllTo t) pllSeen ∧ { d.refShown.pllTo t with regs := d.regs } = d := by
    obtain ⟨hr, hd⟩ := d.refShown.pllTo_regs t
    exact ⟨fun k hk => (hr k hk).trans (hshown k hk), (congrArg (fun e : Dev => { e with regs := d.regs }) hd :)⟩
  by_cases h3 : d.pllRef = 3
  · rw [Dev.pllEval_free h3]
    exact hto _
  · cases hok : d.refOk with
    | true =>
      rw [Dev.pllEval_ok h3 hok]
      exact ⟨hshown, rfl⟩
    | false =>
      rw [Dev.pllEval_lost h3 hok]
      exact hto _

theorem Dev.pllEval_phys (d : Dev) : d.pllEval.phys = d.phys ∧ d.pllEval.out = d.out ∧ d.pllEval.chip = d.chip :=
  have h := d.pllEval_regs.2
  ⟨(congrArg Dev.phys h :), (congrArg Dev.out h :), (congrArg Dev.chip h :)⟩

/-! ### Entering a state -/

/-- The registers that entering CLK_WAIT, PAGE or SWITCH can write. -/
def waitFlds (p : Nat) : List Fld :=
  [Reg.CPH_RSR_CNT.COUNT p 7, Reg.RP_LINK_STAT.ALIGNED p, Reg.RP_PHY_STAT.STATE p, Reg.RP_PHY_STAT.RATE p, Reg.RP_PHY_LAT.RX_LAT p,
    Reg.RP_PHY_LAT.TX_LAT p, Reg.RP_PHY_STAT.CLK_OK p] ++ pllSeen

theorem state_mem_wait (p : Nat) : Reg.RP_PHY_STAT.STATE p ∈ waitFlds p := by simp [waitFlds]

theorem rate_mem_wait (p : Nat) : Reg.RP_PHY_STAT.RATE p ∈ waitFlds p := by simp [waitFlds]

theorem clkOk_mem_wait (p : Nat) : Reg.RP_PHY_STAT.CLK_OK p ∈ waitFlds p := by simp [waitFlds]

theorem waitFlds_apart (p : Nat) (hp : p < 4) : ((waitFlds p).map Fld.key).Nodup ∧
    ∀ f ∈ [Reg.RP_PHY_EVT.DOWN p, Reg.RP_PHY_EVT.CLK_LOSS p, Reg.RP_LANE_STAT.CDR_LOCK p 0, Reg.RP_LANE_STAT.CDR_LOCK p 1, Reg.RP_PHY_CTRL.RATES p,
      Reg.RP_PHY_CTRL.UPPER p] ++ (List.range 5).map (fun c => Reg.RP_PHY_CNT.COUNT p c), f.key ∉ (waitFlds p).map Fld.key := by
  revert p
  decide

/-- Of a port, what only fallbacks, restarts and the coming up of its link change. -/
structure Dev.Waits (p : Nat) (d e : Dev) : Prop where
  regs : d.SameRegs e (waitFlds p)
  removed : (e.phy p).removed = (d.phy p).removed

theorem Dev.Waits.refl (p : Nat) (d : Dev) : Dev.Waits p d d := ⟨.refl d _, rfl⟩

theorem Dev.Waits.trans {f : Dev} (h : Dev.Waits p d e) (h' : Dev.Waits p e f) : Dev.Waits p d f :=
  ⟨fun k hk => (h'.regs k hk).trans (h.regs k hk), h'.removed.trans h.removed⟩

theorem Dev.Waits.put (h : Dev.Waits p d e) {f : Fld} (hf : f ∈ waitFlds p) (v : Nat) : Dev.Waits p d (e.put f v) :=
  ⟨h.regs.put hf v, h.removed⟩

theorem Dev.Waits.setPhy (h : Dev.Waits p d e) (y : Phy) (hy : y.removed = (e.phy p).removed) : Dev.Waits p d (e.setPhy p y) :=
  ⟨h.regs, by rw [Dev.phy_setPhy]; exact hy.trans h.removed⟩

theorem Dev.Waits.sends {f : Dev} (h : Dev.Waits p d e) (h' : Dev.Sends p e f) : Dev.Waits p d f :=
  ⟨h.regs.of_regs h'.regs, h'.removed.trans h.removed⟩

theorem Dev.Waits.pllEval (h : Dev.Waits p d e) : Dev.Waits p d e.pllEval := by
  refine h.trans ⟨fun k hk => e.pllEval_regs.1 k fun hm => hk ?_, ?_⟩
  · rw [waitFlds, List.map_append]
    exact List.mem_append_right _ hm
  · rw [Dev.phy, e.pllEval_phys.1, Dev.phy]

theorem Dev.linkStop_spec (d : Dev) (p : Nat) : d.SameRegs (d.linkStop p) [Reg.CPH_RSR_CNT.COUNT p 7, Reg.RP_LINK_STAT.ALIGNED p] ∧
    (d.linkStop p).phys = d.phys ∧ (d.linkStop p).chip = d.chip ∧ (d.linkStop p).fld (Reg.RP_LINK_STAT.ALIGNED p) = 0 := by
  refine ⟨?_, rfl, rfl, ?_⟩
  · exact (((Dev.SameRegs.refl d [Reg.CPH_RSR_CNT.COUNT p 7, Reg.RP_LINK_STAT.ALIGNED p]).of_regs (e' := d.onFid _ _ []) rfl).put
      (f := Reg.CPH_RSR_CNT.COUNT p 7) (by simp) _).put (by simp) _
  · exact (Dev.fld_put_same ..).trans (Nat.zero_mod _)

theorem Dev.phySwitch_some (d : Dev) (p c : Nat) : d.phySwitch p (some c) =
    (((((d.setPhy p { d.phy p with c := c, suspended := true }).put (Reg.RP_PHY_STAT.STATE p) phSwitch).put (Reg.RP_PHY_STAT.RATE p) c).put
      (Reg.RP_PHY_STAT.CLK_OK p) 0)).pllEval := rfl

theorem Dev.phySwitch_waits (d : Dev) (p c : Nat) : Dev.Waits p d (d.phySwitch p (some c)) := by
  rw [Dev.phySwitch_some]
  exact (((((Dev.Waits.refl p d).setPhy { d.phy p with c := c, suspended := true } rfl).put (state_mem_wait p) _).put (rate_mem_wait p) _).put (clkOk_mem_wait p) _).pllEval

theorem pllSeen_apart (p : Nat) (hp : p < 4) : (Reg.RP_PHY_STAT.STATE p).key ∉ pllSeen.map Fld.key ∧
    (Reg.RP_LINK_STAT.ALIGNED p).key ∉ pllSeen.map Fld.key ∧ (Reg.RP_PHY_STAT.CLK_OK p).key ∉ pllSeen.map Fld.key ∧
    (Reg.RP_PHY_STAT.RATE p).key ∉ pllSeen.map Fld.key ∧ (Reg.RP_PHY_CTRL.RATES p).key ∉ pllSeen.map Fld.key ∧
    (Reg.RP_PHY_CTRL.UPPER p).key ∉ pllSeen.map Fld.key := by
  revert p
  decide

/-- SWITCH with rate C is entered with the clock bad and its detector suspended. -/
theorem Dev.phySwitch_spec (d : Dev) {p c : Nat} (hp : p < 4) (hc : c < 4) :
    let e := d.phySwitch p (some c)
    (e.phy p).c = c ∧ (e.phy p).suspended = true ∧ e.phyState p = phSwitch ∧ e.fld (Reg.RP_PHY_STAT.RATE p) = c ∧ e.clkOk p = false ∧
    d.SameRegs e ([Reg.RP_PHY_STAT.CLK_OK p, Reg.RP_PHY_STAT.STATE p, Reg.RP_PHY_STAT.RATE p] ++ pllSeen) := by
  obtain ⟨x, hx⟩ : ∃ x, x = ((((d.setPhy p { d.phy p with c := c, suspended := true }).put (Reg.RP_PHY_STAT.STATE p) phSwitch).put
    (Reg.RP_PHY_STAT.RATE p) c).put (Reg.RP_PHY_STAT.CLK_OK p) 0) := ⟨_, rfl⟩
  have hr := x.pllEval_regs.1
  have hphy : x.pllEval.phy p = { d.phy p with c := c, suspended := true } := by
    rw [Dev.phy, x.pllEval_phys.1, hx]
    exact Dev.phy_setPhy ..
  obtain ⟨hks, -, hkc, hkr, -⟩ := pllSeen_apart p hp
  have hkeys : (Reg.RP_PHY_STAT.STATE p).key ≠ (Reg.RP_PHY_STAT.RATE p).key ∧ (Reg.RP_PHY_STAT.STATE p).key ≠ (Reg.RP_PHY_STAT.CLK_OK p).key ∧
      (Reg.RP_PHY_STAT.RATE p).key ≠ (Reg.RP_PHY_STAT.CLK_OK p).key := by
    simp only [Fld.key, Reg.RP_PHY_STAT.STATE, Reg.RP_PHY_STAT.RATE, Reg.RP_PHY_STAT.CLK_OK]
    omega
  have heq : d.phySwitch p (some c) = x.pllEval := by rw [hx, Dev.phySwitch_some]
  intro e
  rw [show e = x.pllEval from heq, hphy]
  refine ⟨rfl, rfl, ?_, ?_, ?_, ?_⟩
  · rw [Dev.phyState, hr.fld_eq hks, hx, Dev.fld_put_ne _ _ hkeys.2.1, Dev.fld_put_ne _ _ hkeys.1]
    exact Dev.fld_put_same ..
  · rw [hr.fld_eq hkr, hx, Dev.fld_put_ne _ _ hkeys.2.2]
    exact (Dev.fld_put_same ..).trans (Nat.mod_eq_of_lt hc)
  · rw [Dev.clkOk, Dev.on, hr.fld_eq hkc, hx, Dev.fld_put_same]
    rfl
  · refine Dev.SameRegs.trans (e := x) (l := [Reg.RP_PHY_STAT.CLK_OK p, Reg.RP_PHY_STAT.STATE p, Reg.RP_PHY_STAT.RATE p]) ?_ hr fun f hf => hf
    rw [hx]
    exact (((Dev.SameRegs.refl d [Reg.RP_PHY_STAT.CLK_OK p, Reg.RP_PHY_STAT.STATE p, Reg.RP_PHY_STAT.RATE p]).of_regs
      (e' := d.setPhy p { d.phy p with c := c, suspended := true }) rfl).put (by simp) _ |>.put (f := Reg.RP_PHY_STAT.RATE p) (by simp) _).put
      (by simp) _

theorem Dev.phyClk_waits (d : Dev) (p : Nat) : Dev.Waits p d (d.phyClk p) := by
  unfold Dev.phyClk
  split
  · split
    · exact d.phySwitch_waits p _
    · exact ((Dev.Waits.refl p d).put (state_mem_wait p) _).sends (Dev.sendPage_sends ..)
  · exact .refl p d

/-- CLK_WAIT as it is entered, before a clock already good lets it go on. -/
def Dev.waitEntry (d : Dev) (p : Nat) : Dev :=
  let rate := if d.phyPattern p then d.forceRate p else 0
  let d1 := (d.linkStop p).setPhy p { d.phy p with ack := false, suspended := false }
  let d2 := (d1.put (Reg.RP_PHY_STAT.STATE p) phClk).put (Reg.RP_PHY_STAT.RATE p) rate
  ((d2.put (Reg.RP_PHY_LAT.RX_LAT p) 0).put (Reg.RP_PHY_LAT.TX_LAT p) 0).sendPage p

theorem Dev.phyWait_eq (d : Dev) (p : Nat) : d.phyWait p =
    ((d.waitEntry p).iff (d.fld (Reg.RP_PHY_STAT.RATE p) == if d.phyPattern p then d.forceRate p else 0) (·.phyClk p)).pllEval := rfl

theorem waitEntry_keys (p : Nat) (hp : p < 4) :
    (Reg.RP_PHY_STAT.STATE p).key ∉ [Reg.RP_PHY_STAT.RATE p, Reg.RP_PHY_LAT.RX_LAT p, Reg.RP_PHY_LAT.TX_LAT p].map Fld.key ∧
    (Reg.RP_LINK_STAT.ALIGNED p).key ∉ [Reg.RP_PHY_STAT.STATE p, Reg.RP_PHY_STAT.RATE p, Reg.RP_PHY_LAT.RX_LAT p,
      Reg.RP_PHY_LAT.TX_LAT p].map Fld.key ∧
    (Reg.RP_PHY_STAT.CLK_OK p).key ∉ [Reg.CPH_RSR_CNT.COUNT p 7, Reg.RP_LINK_STAT.ALIGNED p].map Fld.key ∧
    (Reg.RP_PHY_STAT.CLK_OK p).key ∉ [Reg.RP_PHY_STAT.STATE p, Reg.RP_PHY_STAT.RATE p, Reg.RP_PHY_LAT.RX_LAT p,
      Reg.RP_PHY_LAT.TX_LAT p].map Fld.key := by
  revert p
  decide

theorem Dev.waitEntry_waits (d : Dev) {p : Nat} (hp : p < 4) : Dev.Waits p d (d.waitEntry p) ∧ (d.waitEntry p).phyState p = phClk ∧
    (d.waitEntry p).clkOk p = d.clkOk p ∧ (d.waitEntry p).fld (Reg.RP_LINK_STAT.ALIGNED p) = 0 := by
  obtain ⟨hkst, hkal, hkc, hkc'⟩ := waitEntry_keys p hp
  obtain ⟨hstop, hphys, -, hal⟩ := d.linkStop_spec p
  obtain ⟨rate, hrate⟩ : ∃ rate, rate = if d.phyPattern p then d.forceRate p else 0 := ⟨_, rfl⟩
  obtain ⟨x, hx⟩ : ∃ x, x = (d.linkStop p).setPhy p { d.phy p with ack := false, suspended := false } := ⟨_, rfl⟩
  obtain ⟨y, hy⟩ : ∃ y, y = (((x.put (Reg.RP_PHY_STAT.STATE p) phClk).put (Reg.RP_PHY_STAT.RATE p) rate).put (Reg.RP_PHY_LAT.RX_LAT p) 0).put
    (Reg.RP_PHY_LAT.TX_LAT p) 0 := ⟨_, rfl⟩
  have heq : d.waitEntry p = y.sendPage p := by rw [hy, hx, hrate]; rfl
  have hsend := y.sendPage_sends p
  have hxr : x.regs = (d.linkStop p).regs := by rw [hx]; rfl
  have hxfld (f : Fld) : x.fld f = (d.linkStop p).fld f := by rw [Dev.fld, hxr, Dev.fld]
  have hst : (x.put (Reg.RP_PHY_STAT.STATE p) phClk).SameRegs y [Reg.RP_PHY_STAT.RATE p, Reg.RP_PHY_LAT.RX_LAT p, Reg.RP_PHY_LAT.TX_LAT p] := by
    rw [hy]
    exact (((Dev.SameRegs.refl _ _).put (f := Reg.RP_PHY_STAT.RATE p) (by simp) _).put (f := Reg.RP_PHY_LAT.RX_LAT p) (by simp) _).put (by simp) _
  have hall : x.SameRegs y [Reg.RP_PHY_STAT.STATE p, Reg.RP_PHY_STAT.RATE p, Reg.RP_PHY_LAT.RX_LAT p, Reg.RP_PHY_LAT.TX_LAT p] :=
    ((Dev.SameRegs.refl x [Reg.RP_PHY_STAT.STATE p]).put (by simp) _).trans hst fun f hf => hf
  rw [heq]
  refine ⟨Dev.Waits.sends ⟨hstop.trans (e := d.linkStop p) (fun k hk => (hall k hk).trans (congrArg (Tbl.get · k (Reg.rst k)) hxr)) ?_, ?_⟩ hsend, ?_, ?_, ?_⟩
  · simp [waitFlds]
  · have hphy : y.phy p = x.phy p := by rw [hy]; rfl
    rw [hphy, hx, Dev.phy_setPhy]
  · rw [Dev.phyState, hsend.fld, hst.fld_eq hkst]
    exact Dev.fld_put_same ..
  · rw [Dev.clkOk, Dev.on, hsend.fld, hall.fld_eq hkc', hxfld, hstop.fld_eq hkc]
    rfl
  · rw [hsend.fld, hall.fld_eq hkal, hxfld]
    exact hal

/-- What entering CLK_WAIT leaves; with a bad clock the port waits there. -/
theorem Dev.phyWait_spec (d : Dev) {p : Nat} (hp : p < 4) : Dev.Waits p d (d.phyWait p) ∧
    (d.clkOk p = false → (d.phyWait p).phyState p = phClk ∧ (d.phyWait p).fld (Reg.RP_LINK_STAT.ALIGNED p) = 0 ∧
      (d.phyWait p).clkOk p = false) := by
  obtain ⟨hw, hst, hclk, hal⟩ := d.waitEntry_waits hp
  rw [Dev.phyWait_eq]
  obtain ⟨b, hb⟩ : ∃ b, b = (d.fld (Reg.RP_PHY_STAT.RATE p) == if d.phyPattern p then d.forceRate p else 0) := ⟨_, rfl⟩
  rw [← hb]
  refine ⟨?_, fun hc => ?_⟩
  · cases b with
    | true => exact (hw.trans (Dev.phyClk_waits ..)).pllEval
    | false => exact hw.pllEval
  · have hstay : (d.waitEntry p).iff b (·.phyClk p) = d.waitEntry p := by
      cases b with
      | true => exact (if_neg fun h => Bool.false_ne_true ((hclk.trans hc).symm.trans h.2.1) : (d.waitEntry p).phyClk p = d.waitEntry p)
      | false => rfl
    have hpll := (d.waitEntry p).pllEval_regs.1
    obtain ⟨hks, hka, hkc, -⟩ := pllSeen_apart p hp
    rw [hstay, Dev.phyState, hpll.fld_eq hks, hpll.fld_eq hka, Dev.clkOk, Dev.on, hpll.fld_eq hkc]
    exact ⟨hst, hal, hclk.trans hc⟩

/-- The registers that a port's waiting never writes. -/
def heldFlds (p : Nat) : List Fld :=
  [Reg.RP_PHY_EVT.DOWN p, Reg.RP_PHY_EVT.CLK_LOSS p, Reg.RP_LANE_STAT.CDR_LOCK p 0, Reg.RP_LANE_STAT.CDR_LOCK p 1, Reg.RP_PHY_CTRL.RATES p,
    Reg.RP_PHY_CTRL.UPPER p] ++ (List.range 5).map (fun c => Reg.RP_PHY_CNT.COUNT p c)

theorem Dev.Waits.held (h : Dev.Waits p d e) (hp : p < 4) {f : Fld} (hf : f ∈ heldFlds p) : e.fld f = d.fld f :=
  h.regs.fld_eq ((waitFlds_apart p hp).2 f hf)

theorem cnt_mem_held (p : Nat) {c : Nat} (hc : c < 5) : Reg.RP_PHY_CNT.COUNT p c ∈ heldFlds p :=
  List.mem_append_right _ (List.mem_map_of_mem (List.mem_range.2 hc))

theorem phyCnt_ne (p : Nat) {c c' : Nat} (h : c ≠ c') : (Reg.RP_PHY_CNT.COUNT p c).key ≠ (Reg.RP_PHY_CNT.COUNT p c').key := by
  simp only [Fld.key, Reg.RP_PHY_CNT.COUNT]
  omega

/-- A fallback removes the rate of the switch, is counted, and the port waits for its clock. -/
theorem Dev.phyFallback_spec (d : Dev) {p : Nat} (hp : p < 4) :
    let e := d.phyFallback p
    (e.phy p).removed = setBit (d.phy p).removed (d.phy p).c true ∧
    e.fld (Reg.RP_PHY_CNT.COUNT p 1) = min (2 ^ 32 - 1) (d.fld (Reg.RP_PHY_CNT.COUNT p 1) + 1) ∧
    (∀ f ∈ heldFlds p, f.key ≠ (Reg.RP_PHY_CNT.COUNT p 1).key → e.fld f = d.fld f) ∧
    (d.clkOk p = false → e.phyState p = phClk ∧ e.fld (Reg.RP_LINK_STAT.ALIGNED p) = 0 ∧ e.clkOk p = false) := by
  obtain ⟨x, hx⟩ : ∃ x, x = (d.setPhy p { d.phy p with removed := setBit (d.phy p).removed (d.phy p).c true }).phyCnt p 1 := ⟨_, rfl⟩
  have heq : d.phyFallback p = x.phyWait p := by rw [hx]; rfl
  obtain ⟨hw, hclk⟩ := x.phyWait_spec hp
  have hphy : (x.phy p).removed = setBit (d.phy p).removed (d.phy p).c true := by
    rw [hx]
    exact congrArg Phy.removed (Dev.phy_setPhy (d := d) p { d.phy p with removed := setBit (d.phy p).removed (d.phy p).c true })
  intro e
  rw [show e = x.phyWait p from heq]
  refine ⟨hw.removed.trans hphy, ?_, fun f hf hne => ?_, fun hc => hclk ?_⟩
  · rw [hw.held hp (cnt_mem_held p (by decide)), hx]
    exact Dev.fld_bump ..
  · rw [hw.held hp hf, hx]
    exact Dev.fld_put_ne _ _ hne
  · rw [hx, ← hc, Dev.clkOk, Dev.clkOk, Dev.on, Dev.on]
    exact congrArg (· != 0) (Dev.fld_put_ne _ _ (by
      simp only [Fld.key, Reg.RP_PHY_STAT.CLK_OK, Reg.RP_PHY_CNT.COUNT]
      omega))

/-- RESTART offers every rate again, and the port waits for its clock. -/
theorem Dev.phyRestart_spec {p : Nat} (hp : p < 4) (h : d.rpUp p = true) :
    ((d.phyRestart p).phy p).removed = 0 ∧ (d.clkOk p = false → (d.phyRestart p).phyState p = phClk) := by
  have heq : d.phyRestart p = (d.setPhy p { d.phy p with removed := 0 }).phyWait p := if_pos h
  obtain ⟨hw, hclk⟩ := (d.setPhy p { d.phy p with removed := 0 }).phyWait_spec hp
  rw [heq]
  refine ⟨hw.removed.trans ?_, fun hc => (hclk hc).1⟩
  rw [Dev.phy_setPhy]

/-! ### Loss of the forwarded clock -/

/-- A clock lost is shown and counted, before the state follows. -/
def Dev.clockGone (d : Dev) (p : Nat) : Dev := ((d.put (Reg.RP_PHY_STAT.CLK_OK p) 0).ev (Reg.RP_PHY_EVT.CLK_LOSS p)).phyCnt p 3

theorem Dev.clockGone_regs (d : Dev) (p : Nat) : d.SameRegs (d.clockGone p) [Reg.RP_PHY_STAT.CLK_OK p, Reg.RP_PHY_EVT.CLK_LOSS p,
    Reg.RP_PHY_CNT.COUNT p 3] :=
  (((Dev.SameRegs.refl d _).put (by simp) _).put (f := Reg.RP_PHY_EVT.CLK_LOSS p) (by simp) _).put (f := Reg.RP_PHY_CNT.COUNT p 3) (by simp) _

theorem goneFlds_apart (p : Nat) (hp : p < 4) : [Reg.RP_PHY_STAT.CLK_OK p, Reg.RP_PHY_EVT.CLK_LOSS p, Reg.RP_PHY_CNT.COUNT p 3].map Fld.key |>.Nodup := by
  revert p
  decide

theorem Dev.clockGone_spec (d : Dev) {p : Nat} (hp : p < 4) : (d.clockGone p).clkOk p = false ∧
    (d.clockGone p).fld (Reg.RP_PHY_EVT.CLK_LOSS p) = 1 ∧
    (d.clockGone p).fld (Reg.RP_PHY_CNT.COUNT p 3) = min (2 ^ 32 - 1) (d.fld (Reg.RP_PHY_CNT.COUNT p 3) + 1) ∧ (d.clockGone p).phys = d.phys := by
  have hk := goneFlds_apart p hp
  simp only [List.map_cons, List.map_nil, List.nodup_cons, List.mem_cons, List.not_mem_nil, or_false, not_or] at hk
  obtain ⟨⟨hce, hcc⟩, hec, -⟩ := hk
  refine ⟨?_, ?_, ?_, rfl⟩
  · rw [Dev.clkOk, Dev.on, show (d.clockGone p).fld (Reg.RP_PHY_STAT.CLK_OK p) = 0 from
      (Dev.fld_put_ne _ _ hcc).trans ((Dev.fld_put_ne _ _ hce).trans (Dev.fld_put_same ..))]
    rfl
  · exact (Dev.fld_put_ne _ _ hec).trans (Dev.fld_put_same ..)
  · refine (Dev.fld_bump ..).trans ?_
    rw [Dev.ev, Dev.fld_put_ne _ _ (Ne.symm hec), Dev.fld_put_ne _ _ (Ne.symm hcc)]
    rfl

/-! ### What a port reads as it moves on -/

/-- The fields that decide what a port sends and enters; its bring-up never writes them. -/
def quietFlds (p : Nat) : List Fld :=
  [Reg.RP_PHY_CTRL.FORCE p, Reg.RP_PHY_CTRL.FORCE_RATE p, Reg.RP_PHY_CTRL.RATES p, Reg.RP_PHY_CTRL.UPPER p, Reg.RP_PHY_STAT.TX_ASLEEP p,
    Reg.CHIPCAP_BLOCK_RST.RP] ++
  (List.range 2).flatMap fun l => [Reg.RP_LANE_PAT_CTRL.TX_PAT p l, Reg.RP_LANE_PAT_CTRL.RX_PAT p l, Reg.RP_LANE_STAT.TX_ASLEEP p l,
    Reg.RP_LANE_TXEQ.POL_INV p l]

/-- The fields in which a port shows its bring-up. -/
def shownFlds (p : Nat) : List Fld :=
  [Reg.RP_PHY_STAT.CLK_OK p, Reg.RP_PHY_STAT.STATE p, Reg.RP_PHY_STAT.RATE p, Reg.RP_PHY_STAT.PEER_RATES p, Reg.RP_PHY_STAT.PEER_UPPER p] ++ pllSeen

theorem quietFlds_apart (p : Nat) (hp : p < 4) : ∀ f ∈ quietFlds p, f.key ∉ (shownFlds p).map Fld.key := by
  revert p
  decide

theorem shownFlds_nodup (p : Nat) (hp : p < 4) : ((shownFlds p).map Fld.key).Nodup := by
  revert p
  decide

/-- Only fields of the bring-up were written. -/
def Dev.Shows (p : Nat) (d e : Dev) : Prop := d.SameRegs e (shownFlds p)

theorem Dev.SameRegs.shows {ks : List Fld} (h : d.SameRegs e ks) (hk : ∀ f ∈ ks, f ∈ shownFlds p) : Dev.Shows p d e := fun k hk' => h k fun hm => by
  obtain ⟨f, hf, rfl⟩ := List.mem_map.1 hm
  exact hk' (List.mem_map_of_mem (hk f hf))

theorem Dev.Shows.quiet (h : Dev.Shows p d e) (hp : p < 4) {f : Fld} (hf : f ∈ quietFlds p) : e.fld f = d.fld f :=
  Dev.SameRegs.fld_eq h (quietFlds_apart p hp f hf)

theorem Dev.Shows.pattern (h : Dev.Shows p d e) (hp : p < 4) : e.phyPattern p = d.phyPattern p := by
  have hl (l : Nat) (hl : l < 2) : e.fld (Reg.RP_LANE_PAT_CTRL.TX_PAT p l) = d.fld (Reg.RP_LANE_PAT_CTRL.TX_PAT p l) ∧
      e.fld (Reg.RP_LANE_PAT_CTRL.RX_PAT p l) = d.fld (Reg.RP_LANE_PAT_CTRL.RX_PAT p l) :=
    ⟨h.quiet hp (List.mem_append_right _ (List.mem_flatMap.2 ⟨l, List.mem_range.2 hl, by simp⟩)),
      h.quiet hp (List.mem_append_right _ (List.mem_flatMap.2 ⟨l, List.mem_range.2 hl, by simp⟩))⟩
  obtain ⟨h0, h0'⟩ := hl 0 (by decide)
  obtain ⟨h1, h1'⟩ := hl 1 (by decide)
  simp only [Dev.phyPattern, List.range_succ, List.range_zero, List.nil_append, List.any_append, List.any_cons, List.any_nil, h0, h0', h1, h1']

theorem Dev.Shows.rpUp (h : Dev.Shows p d e) (hp : p < 4) (hc : e.chip = d.chip) : e.rpUp p = d.rpUp p := by
  rw [Dev.rpUp, Dev.rpUp, Dev.rpHere, Dev.rpHere, hc, h.quiet hp (f := Reg.CHIPCAP_BLOCK_RST.RP) (by simp [quietFlds])]

/-- A port goes on to pages, which it sends where nothing keeps it from it. -/
theorem Dev.sendPage_shown (h : Dev.Shows p d e) (hp : p < 4) (hc : e.chip = d.chip) (hup : d.rpUp p = true)
    (hf : d.on (Reg.RP_PHY_CTRL.FORCE p) = false) (hpat : d.phyPattern p = false) (hs : d.on (Reg.RP_PHY_STAT.TX_ASLEEP p) = false)
    (hst : e.phyState p ≤ phPage) : .page p (e.ownPage p) ∈ (e.sendPage p).out :=
  Dev.sendPage_page ((h.rpUp hp hc).trans hup) hst
    ((congrArg (· != 0) (h.quiet hp (f := Reg.RP_PHY_CTRL.FORCE p) (by simp [quietFlds]))).trans hf) ((h.pattern hp).trans hpat)
    ((congrArg (· != 0) (h.quiet hp (f := Reg.RP_PHY_STAT.TX_ASLEEP p) (by simp [quietFlds]))).trans hs)

theorem Dev.trainSend_out (d : Dev) (p : Nat) : ∃ a : Nat → Nat, (d.trainSend p).out =
    (if d.on (Reg.RP_LANE_STAT.TX_ASLEEP p 1) = true then [] else [.lane p 1 (polarity (d.on (Reg.RP_LANE_TXEQ.POL_INV p 1)) (trainBits (a 1)))]) ++
    (if d.on (Reg.RP_LANE_STAT.TX_ASLEEP p 0) = true then [] else [.lane p 0 (polarity (d.on (Reg.RP_LANE_TXEQ.POL_INV p 0)) (trainBits (a 0)))]) ++
    d.out := by
  obtain ⟨x, hx⟩ : ∃ x, x = d.freed.laneRaw p 0 (trainBits (d.freeVal 31)) := ⟨_, rfl⟩
  have hs : Dev.Sends p d x := hx ▸ (show Dev.Sends p d d.freed from ⟨rfl, rfl, rfl, rfl⟩).trans (Dev.laneRaw_sends ..)
  have hxr : x.freed.regs = d.regs := hs.regs
  have hon (f : Fld) : x.freed.on f = d.on f := by rw [Dev.on, Dev.fld, hxr, Dev.on, Dev.fld]
  refine ⟨fun k => if k = 0 then d.freeVal 31 else d.freed.freeVal 31, ?_⟩
  rw [List.append_assoc]
  have heq : d.trainSend p = x.freed.laneRaw p 1 (trainBits (d.freed.freeVal 31)) := by rw [hx]; rfl
  rw [heq, Dev.laneRaw_out, hon, hon]
  refine congrArg _ ?_
  rw [show x.freed.out = x.out from rfl, hx, Dev.laneRaw_out]
  rfl

/-- The link comes up with its skew, everything of it anew. -/
def Dev.linkUp (d : Dev) (p : Nat) (skew : Int) : Dev :=
  let lat := riserLat (d.fld (Reg.RP_PHY_STAT.RATE p))
  let d1 := (d.put (Reg.RP_PHY_STAT.SKEW p) (unsigned 7 skew)).setPhy p { d.phy p with removed := 0 }
  let d2 := (((d1.put (Reg.RP_PHY_STAT.STATE p) phUp).ev (Reg.RP_PHY_EVT.UP p)).rxCodeFree p).linkRestart p
  (d2.put (Reg.RP_PHY_LAT.RX_LAT p) lat.1).put (Reg.RP_PHY_LAT.TX_LAT p) lat.2

theorem upFlds_nodup (p : Nat) : ([Reg.RP_PHY_LAT.TX_LAT p, Reg.RP_PHY_LAT.RX_LAT p, Reg.RP_PHY_EVT.UP p, Reg.RP_PHY_STAT.STATE p,
    Reg.RP_PHY_STAT.SKEW p].map Fld.key).Nodup := by
  simp only [List.map_cons, List.map_nil, List.nodup_cons, List.mem_cons, List.not_mem_nil, or_false, not_or, not_false_eq_true, and_true,
    List.nodup_nil, Fld.key, Reg.RP_PHY_LAT.TX_LAT, Reg.RP_PHY_LAT.RX_LAT, Reg.RP_PHY_EVT.UP, Reg.RP_PHY_STAT.STATE, Reg.RP_PHY_STAT.SKEW]
  omega

theorem riserLat_lt (r : Nat) : (riserLat r).1 < 2 ^ 16 ∧ (riserLat r).2 < 2 ^ 16 := by
  unfold riserLat
  split_ifs <;> decide

theorem Dev.linkUp_spec (d : Dev) (p : Nat) (skew : Int) :
    let e := d.linkUp p skew
    let lat := riserLat (d.fld (Reg.RP_PHY_STAT.RATE p))
    (e.phy p).removed = 0 ∧ (e.phy p).odd = false ∧ Tbl.get e.rlinks p {} = {} ∧
    d.Regs e [(Reg.RP_PHY_STAT.SKEW p, unsigned 7 skew), (Reg.RP_PHY_STAT.STATE p, phUp), (Reg.RP_PHY_EVT.UP p, 1),
      (Reg.RP_PHY_LAT.RX_LAT p, lat.1), (Reg.RP_PHY_LAT.TX_LAT p, lat.2)] := by
  intro e lat
  obtain ⟨ktx, hr⟩ := List.nodup_cons.1 (upFlds_nodup p)
  obtain ⟨krx, hr⟩ := List.nodup_cons.1 hr
  obtain ⟨kup, hr⟩ := List.nodup_cons.1 hr
  obtain ⟨kst, -⟩ := List.nodup_cons.1 hr
  let d1 := (d.put (Reg.RP_PHY_STAT.SKEW p) (unsigned 7 skew)).setPhy p { d.phy p with removed := 0 }
  let x := (d1.put (Reg.RP_PHY_STAT.STATE p) phUp).ev (Reg.RP_PHY_EVT.UP p)
  let d2 := (x.rxCodeFree p).linkRestart p
  have h1 := (((Dev.Wrote.nil d).put (Reg.RP_PHY_STAT.SKEW p) (unsigned_lt 7 skew) (by simp)).same (e' := d1) rfl)
  have h2 := ((h1.put (Reg.RP_PHY_STAT.STATE p) (v := phUp) (show phUp < 2 ^ 3 by decide) kst).put (Reg.RP_PHY_EVT.UP p) (v := 1)
    (show 1 < 2 ^ 1 by decide) kup).same (e' := d2) rfl
  have h3 := (h2.put (Reg.RP_PHY_LAT.RX_LAT p) (v := lat.1) (riserLat_lt _).1 krx).put (Reg.RP_PHY_LAT.TX_LAT p) (v := lat.2) (riserLat_lt _).2 ktx
  have hcode : ((x.rxCodeFree p).phy p).removed = (x.phy p).removed := by
    rw [Dev.rxCodeFree, Dev.phy_setPhy]
    rfl
  have hphy : e.phy p = { (x.rxCodeFree p).phy p with odd := false } := Dev.phy_setPhy (d := { x.rxCodeFree p with rlinks := _ }) ..
  have hx : x.phy p = { d.phy p with removed := 0 } := Dev.phy_setPhy (d := d.put _ _) ..
  rw [hphy]
  refine ⟨hcode.trans (congrArg Phy.removed hx), rfl, Tbl.get_set_same .., h3.to_regs fun z => ?_⟩
  simp only [List.nil_append, List.cons_append]

/-! ### RESTART by a write of the control register -/

theorem find_phyCtrl : ∀ p < 4, (Reg.find (Reg.RP_PHY_CTRL.ADR p)).isSome = true := by decide

/-- The control register as it is written, and the rate that a pattern has. -/
def Dev.phyTakes (d : Dev) (p v : Nat) : Dev :=
  let d1 := d.plainWrite (Reg.RP_PHY_CTRL.ADR p) v
  d1.iff (d1.rpUp p && d1.phyPattern p) (·.put (Reg.RP_PHY_STAT.RATE p) (d1.forceRate p))

theorem Dev.phyWrite_restart {p v : Nat} (h : bitOf v 26 = true) : d.phyWrite p v = (d.phyTakes p v).phyRestart p := if_pos h

theorem Dev.phyTakes_spec (d : Dev) {p : Nat} (hp : p < 4) (v : Nat) : (d.phyTakes p v).phys = d.phys ∧ (d.phyTakes p v).rpUp p = d.rpUp p ∧
    (d.phyTakes p v).clkOk p = d.clkOk p ∧ (d.phyTakes p v).phyState p = d.phyState p := by
  obtain ⟨r, hr⟩ := Option.isSome_iff_exists.1 (find_phyCtrl p hp)
  obtain ⟨x, hx⟩ : ∃ x, x = d.plainWrite (Reg.RP_PHY_CTRL.ADR p) v := ⟨_, rfl⟩
  have hrest : { x with regs := d.regs } = d := hx ▸ (d.plainWrite_sets hr v).2
  obtain ⟨y, hy⟩ : ∃ y, y = x.iff (x.rpUp p && x.phyPattern p) (·.put (Reg.RP_PHY_STAT.RATE p) (x.forceRate p)) := ⟨_, rfl⟩
  have hyr : x.SameRegs y [Reg.RP_PHY_STAT.RATE p] ∧ y.phys = x.phys ∧ y.chip = x.chip := by
    rw [hy, Dev.iff]
    split
    · exact ⟨(Dev.SameRegs.refl x _).put (by simp) _, rfl, rfl⟩
    · exact ⟨.refl x _, rfl, rfl⟩
  obtain ⟨hyr, hyp, hyc⟩ := hyr
  have hfld {f : Fld} (hf : f.key / 32 ≠ Reg.RP_PHY_CTRL.ADR p) (hf' : f.key ≠ (Reg.RP_PHY_STAT.RATE p).key) : y.fld f = d.fld f := by
    rw [hyr.fld_eq (by simpa using hf'), hx]
    exact Dev.plainWrite_other hr d v hf
  have heq : d.phyTakes p v = y := by rw [hy, hx]; rfl
  have hchip : y.chip = d.chip := hyc.trans (congrArg Dev.chip hrest :)
  rw [heq]
  refine ⟨hyp.trans (congrArg Dev.phys hrest :), ?_, ?_, ?_⟩
  · rw [Dev.rpUp, Dev.rpUp, Dev.rpHere, Dev.rpHere, hchip, hfld (f := Reg.CHIPCAP_BLOCK_RST.RP)] <;>
    · simp only [Fld.key, Reg.CHIPCAP_BLOCK_RST.RP, Reg.RP_PHY_CTRL.ADR, Reg.RP_PHY_STAT.RATE]
      omega
  · rw [Dev.clkOk, Dev.clkOk, Dev.on, Dev.on, hfld (f := Reg.RP_PHY_STAT.CLK_OK p)] <;>
    · simp only [Fld.key, Reg.RP_PHY_STAT.CLK_OK, Reg.RP_PHY_CTRL.ADR, Reg.RP_PHY_STAT.RATE]
      omega
  · rw [Dev.phyState, Dev.phyState, hfld (f := Reg.RP_PHY_STAT.STATE p)] <;>
    · simp only [Fld.key, Reg.RP_PHY_STAT.STATE, Reg.RP_PHY_CTRL.ADR, Reg.RP_PHY_STAT.RATE]
      omega

theorem bitOf_or_restart (v : Word) : bitOf (v ||| 0x4000000#32).toNat 26 = true := by
  rw [bitOf_or]
  exact Bool.or_true _

section Clauses
variable (s : State) (hup : s.dev.mainUp = true) (p : Fin 4)
include hup

theorem riserIdle (l : Fin 2) (b : LaneBits) (khz : Nat) (m0 m1 : Int) (h : s.dev.rpUp p = false) :
    ∀ i ∈ [Instr.forwardedClockLoss ⟨p, khz⟩, .forwardedClockOk ⟨p, khz⟩, .pageAccept p b, .pageExchangeDone p,
      .switchSuspendExpiry p, .switchTimeout p, .trainTimerExpiry p m0 m1, .riserCdrUnlock p l, .failRetryExpiry p], Does i s s.dev := by
  have hnot : ¬ s.dev.rpUp p = true := by rw [h]; decide
  simp only [List.forall_mem_cons, List.not_mem_nil, false_imp_iff, implies_true, and_true]
  exact ⟨.of_main_eq (exec_forwardedClockLoss ..) hup (if_neg hnot), .of_main_eq (exec_forwardedClockOk ..) hup (if_neg hnot),
    .of_main_eq (exec_pageAccept ..) hup (if_neg hnot), .of_main_eq (exec_pageExchangeDone ..) hup (if_neg hnot),
    .of_main_eq (exec_switchSuspendExpiry ..) hup (if_neg hnot), .of_main_eq (exec_switchTimeout ..) hup (if_neg hnot),
    .of_main_eq (exec_trainTimerExpiry ..) hup (if_neg hnot), .of_main_eq (exec_riserCdrUnlock ..) hup (if_neg hnot),
    .of_main_eq (exec_failRetryExpiry ..) hup (if_neg hnot)⟩

variable (hrp : s.dev.rpUp p = true)
include hrp

theorem clockLoss (khz : Nat) :
    let e := s.dev
    let y := e.phy p
    let st := e.phyState p
    let up := fun (d : Dev) (c : Nat) => d.fld (Reg.RP_PHY_CNT.COUNT p c) = min (2 ^ 32 - 1) (e.fld (Reg.RP_PHY_CNT.COUNT p c) + 1)
    let fell := fun (d : Dev) => (d.phy p).removed = setBit y.removed y.c true ∧ up d 1
    let down := fun (d : Dev) => d.fld (Reg.RP_PHY_EVT.DOWN p) = 1 ∧ up d 0
    let good := clockGood (e.fld (Reg.RP_PHY_STAT.RATE p)) khz = true
    (e.clkOk p = false ∨ y.suspended = true ∨ good → Does (.forwardedClockLoss ⟨p, khz⟩) s e) ∧
    (e.clkOk p = true → y.suspended = false → ¬ good → Effect (.forwardedClockLoss ⟨p, khz⟩) s (fun d => d.clkOk p = false ∧
      d.fld (Reg.RP_PHY_EVT.CLK_LOSS p) = 1 ∧ up d 3 ∧ (st = phPage ∨ st = phTrain ∨ st = phUp → d.phyState p = phClk) ∧
      (st = phTrain → fell d ∧ up d 4) ∧ (st = phUp → down d ∧ d.fld (Reg.RP_LINK_STAT.ALIGNED p) = 0) ∧
      (st ≠ phPage → st ≠ phTrain → st ≠ phUp → d.phyState p = st ∧ d.phys = e.phys))) := by
  intro e y st up fell down good
  have hp := p.isLt
  have hdoes : Does (.forwardedClockLoss ⟨p, khz⟩) s (e.clockLost p khz) := .of_main_eq (exec_forwardedClockLoss ..) hup (if_pos hrp)
  refine ⟨fun h => ?_, fun hclk hsus hbad => ⟨_, hdoes, ?_⟩⟩
  · have hnot : e.clockLost p khz = e := if_neg (by
      simp only [Bool.and_eq_true, Bool.not_eq_true']
      rintro ⟨⟨⟨-, hc⟩, hs⟩, hg⟩
      rcases h with h | h | h
      · exact Bool.false_ne_true (h.symm.trans hc)
      · exact Bool.false_ne_true (hs.symm.trans h)
      · exact Bool.false_ne_true (hg.symm.trans h))
    exact hnot ▸ hdoes
  · have hbad' : clockGood (e.fld (Reg.RP_PHY_STAT.RATE p)) khz = false := by simpa [good] using hbad
    obtain ⟨x, hx⟩ : ∃ x, x = e.clockGone p := ⟨_, rfl⟩
    obtain ⟨hxc, hxe, hx3, hxp⟩ := e.clockGone_spec hp
    have hxr := e.clockGone_regs p
    rw [← hx] at hxc hxe hx3 hxp hxr
    have heq : e.clockLost p khz = if st = phPage then x.phyWait p else if st = phTrain then (x.phyCnt p 4).phyFallback p
        else if st = phUp then ((x.phyCnt p 0).ev (Reg.RP_PHY_EVT.DOWN p)).phyWait p else x.pllEval := by
      rw [hx]
      exact if_pos (by
        rw [show e.rpUp p = true from hrp, hclk, show (e.phy p).suspended = false from hsus, hbad']
        rfl)
    rw [heq]
    have hphy (z : Dev) (hz : z.phys = x.phys) : z.phy p = y := by rw [Dev.phy, hz, hxp]; rfl
    have hcnt {c : Nat} (hc : c ≠ 3) : x.fld (Reg.RP_PHY_CNT.COUNT p c) = e.fld (Reg.RP_PHY_CNT.COUNT p c) := hxr.fld_eq (by
      simp only [List.map_cons, List.map_nil, List.mem_cons, List.not_mem_nil, or_false, Fld.key, Reg.RP_PHY_STAT.CLK_OK, Reg.RP_PHY_EVT.CLK_LOSS,
        Reg.RP_PHY_CNT.COUNT]
      omega)
    have hloss : Reg.RP_PHY_EVT.CLK_LOSS p ∈ heldFlds p := by simp [heldFlds]
    have hkeys {c : Nat} : (Reg.RP_PHY_EVT.CLK_LOSS p).key ≠ (Reg.RP_PHY_CNT.COUNT p c).key ∧
        (Reg.RP_PHY_STAT.CLK_OK p).key ≠ (Reg.RP_PHY_CNT.COUNT p c).key := by
      simp only [Fld.key, Reg.RP_PHY_STAT.CLK_OK, Reg.RP_PHY_EVT.CLK_LOSS, Reg.RP_PHY_CNT.COUNT]
      omega
    have hxcnt (c : Nat) : (x.phyCnt p c).clkOk p = false := by
      rw [Dev.clkOk, Dev.on, Dev.phyCnt, show (x.bump _).fld (Reg.RP_PHY_STAT.CLK_OK p) = _ from Dev.fld_put_ne _ _ hkeys.2]
      exact hxc
    by_cases h1 : st = phPage
    · have hne : st ≠ phTrain ∧ st ≠ phUp := by rw [h1]; decide
      obtain ⟨hw, hend⟩ := x.phyWait_spec hp
      obtain ⟨hst, -, hc⟩ := hend hxc
      rw [if_pos h1]
      exact ⟨hc, (hw.held hp hloss).trans hxe, (hw.held hp (cnt_mem_held p (by decide))).trans hx3, fun _ => hst, fun h => absurd h hne.1,
        fun h => absurd h hne.2, fun h => absurd h1 h⟩
    rw [if_neg h1]
    by_cases h2 : st = phTrain
    · have hne : st ≠ phUp := by rw [h2]; decide
      obtain ⟨hrem, h11, hheld, hend⟩ := (x.phyCnt p 4).phyFallback_spec hp
      obtain ⟨hst, -, hc⟩ := hend (hxcnt 4)
      have hkept {f : Fld} (hf : f ∈ heldFlds p) (h1 : f.key ≠ (Reg.RP_PHY_CNT.COUNT p 1).key) (h4 : f.key ≠ (Reg.RP_PHY_CNT.COUNT p 4).key) :
          ((x.phyCnt p 4).phyFallback p).fld f = x.fld f := (hheld f hf h1).trans (Dev.fld_put_ne _ _ h4)
      rw [if_pos h2]
      refine ⟨hc, (hkept hloss hkeys.1 hkeys.1).trans hxe,
        (hkept (cnt_mem_held p (by decide)) (phyCnt_ne p (by decide)) (phyCnt_ne p (by decide))).trans hx3, fun _ => hst,
        fun _ => ⟨⟨?_, ?_⟩, ?_⟩, fun h => absurd h hne, fun _ h => absurd h2 h⟩
      · rw [hrem, hphy (x.phyCnt p 4) rfl]
      · refine h11.trans ?_
        rw [show (x.phyCnt p 4).fld (Reg.RP_PHY_CNT.COUNT p 1) = _ from Dev.fld_put_ne _ _ (phyCnt_ne p (by decide)), hcnt (by decide)]
      · exact (hheld _ (cnt_mem_held p (by decide)) (phyCnt_ne p (by decide))).trans ((Dev.fld_bump ..).trans (by rw [hcnt (by decide)]; rfl))
    rw [if_neg h2]
    by_cases h3 : st = phUp
    · obtain ⟨z, hz⟩ : ∃ z, z = (x.phyCnt p 0).ev (Reg.RP_PHY_EVT.DOWN p) := ⟨_, rfl⟩
      have hdown : (Reg.RP_PHY_EVT.CLK_LOSS p).key ≠ (Reg.RP_PHY_EVT.DOWN p).key ∧ (Reg.RP_PHY_STAT.CLK_OK p).key ≠ (Reg.RP_PHY_EVT.DOWN p).key ∧
          ∀ c, (Reg.RP_PHY_CNT.COUNT p c).key ≠ (Reg.RP_PHY_EVT.DOWN p).key := by
        simp only [Fld.key, Reg.RP_PHY_STAT.CLK_OK, Reg.RP_PHY_EVT.CLK_LOSS, Reg.RP_PHY_CNT.COUNT, Reg.RP_PHY_EVT.DOWN]
        exact ⟨by omega, by omega, fun c => by omega⟩
      have hzc : z.clkOk p = false := by
        rw [hz, Dev.clkOk, Dev.on, Dev.ev, Dev.fld_put_ne _ _ hdown.2.1]
        exact hxcnt 0
      obtain ⟨hw, hend⟩ := z.phyWait_spec hp
      obtain ⟨hst, hal, hc⟩ := hend hzc
      rw [if_pos h3, ← hz]
      refine ⟨hc, (hw.held hp hloss).trans ?_, (hw.held hp (cnt_mem_held p (by decide))).trans ?_, fun _ => hst, fun h => absurd h h2,
        fun _ => ⟨⟨(hw.held hp (by simp [heldFlds])).trans ?_, (hw.held hp (cnt_mem_held p (by decide))).trans ?_⟩, hal⟩, fun _ _ h => absurd h3 h⟩
      · rw [hz, Dev.ev, Dev.fld_put_ne _ _ hdown.1]
        exact (Dev.fld_put_ne _ _ hkeys.1).trans hxe
      · rw [hz, Dev.ev, Dev.fld_put_ne _ _ (hdown.2.2 3)]
        exact (Dev.fld_put_ne _ _ (phyCnt_ne p (by decide))).trans hx3
      · rw [hz]
        exact Dev.fld_put_same ..
      · rw [hz, Dev.ev, Dev.fld_put_ne _ _ (hdown.2.2 0)]
        exact (Dev.fld_bump ..).trans (by rw [hcnt (by decide)]; rfl)
    · obtain ⟨hr, -⟩ := x.pllEval_regs
      obtain ⟨hks, -, hkc, -⟩ := pllSeen_apart p hp
      have hseen : (Reg.RP_PHY_EVT.CLK_LOSS p).key ∉ pllSeen.map Fld.key ∧ (Reg.RP_PHY_CNT.COUNT p 3).key ∉ pllSeen.map Fld.key := by
        simp only [pllSeen, List.map_cons, List.map_nil, List.mem_cons, List.not_mem_nil, or_false, Fld.key, Reg.RP_PHY_EVT.CLK_LOSS,
          Reg.RP_PHY_CNT.COUNT, Reg.TIM_PLL_STAT.REF_OK, Reg.TIM_PLL_STAT.STATE, Reg.TIM_EVT.PLL_CHG]
        omega
      rw [if_neg h3]
      refine ⟨?_, (hr.fld_eq hseen.1).trans hxe, (hr.fld_eq hseen.2).trans hx3, fun h => absurd (h.resolve_left h1) (not_or.2 ⟨h2, h3⟩),
        fun h => absurd h h2, fun h => absurd h h3, fun _ _ _ => ⟨?_, x.pllEval_phys.1.trans hxp⟩⟩
      · rw [Dev.clkOk, Dev.on, hr.fld_eq hkc]
        exact hxc
      · rw [Dev.phyState, hr.fld_eq hks, hxr.fld_eq (by
          simp only [List.map_cons, List.map_nil, List.mem_cons, List.not_mem_nil, or_false, Fld.key, Reg.RP_PHY_STAT.CLK_OK,
            Reg.RP_PHY_EVT.CLK_LOSS, Reg.RP_PHY_CNT.COUNT, Reg.RP_PHY_STAT.STATE]
          omega)]
        rfl

theorem clockFound (khz : Nat) :
    let e := s.dev
    let y := e.phy p
    let st := e.phyState p
    let pll := [Reg.TIM_PLL_STAT.REF_OK, Reg.TIM_PLL_STAT.STATE, Reg.TIM_EVT.PLL_CHG]
    let ok := Reg.RP_PHY_STAT.CLK_OK p
    let stF := Reg.RP_PHY_STAT.STATE p
    let good := clockGood (e.fld (Reg.RP_PHY_STAT.RATE p)) khz = true
    let quiet := e.on (Reg.RP_PHY_CTRL.FORCE p) = false ∧ e.phyPattern p = false
    let sent : Nat → Nat → List Emit := fun k a =>
      if e.on (Reg.RP_LANE_STAT.TX_ASLEEP p k) = true then []
      else [.lane p k (polarity (e.on (Reg.RP_LANE_TXEQ.POL_INV p k)) (trainBits a))]
    (y.suspended = true ∨ ¬ good → Does (.forwardedClockOk ⟨p, khz⟩) s e) ∧
    (y.suspended = false → good →
      (st = phSwitch → Effect (.forwardedClockOk ⟨p, khz⟩) s (fun d => d.clkOk p = true ∧ d.phyState p = phTrain ∧
        e.SameRegs d ([ok, stF] ++ pll) ∧ ∃ a : Nat → Nat, d.out = sent 1 (a 1) ++ sent 0 (a 0) ++ e.out)) ∧
      (st = phClk → quiet → Effect (.forwardedClockOk ⟨p, khz⟩) s (fun d => d.clkOk p = true ∧ d.phyState p = phPage ∧
        e.SameRegs d ([ok, stF] ++ pll) ∧ (e.on (Reg.RP_PHY_STAT.TX_ASLEEP p) = false → .page p (d.ownPage p) ∈ d.out))) ∧
      (st = phClk → e.phyPattern p = true → Effect (.forwardedClockOk ⟨p, khz⟩) s (fun d => d.clkOk p = true ∧
        e.SameRegs d (ok :: pll))) ∧
      (st = phClk → e.phyPattern p = false → e.on (Reg.RP_PHY_CTRL.FORCE p) = true → Effect (.forwardedClockOk ⟨p, khz⟩) s (fun d =>
        d.phyState p = phSwitch ∧ d.fld (Reg.RP_PHY_STAT.RATE p) = max 1 (e.forceRate p))) ∧
      (st ≠ phClk → st ≠ phSwitch → Effect (.forwardedClockOk ⟨p, khz⟩) s (fun d => d.clkOk p = true ∧ e.SameRegs d (ok :: pll)))) := by
  intro e y st pll ok stF good quiet sent
  have hp := p.isLt
  have hdoes : Does (.forwardedClockOk ⟨p, khz⟩) s (e.clockOk p khz) := .of_main_eq (exec_forwardedClockOk ..) hup (if_pos hrp)
  refine ⟨fun h => ?_, fun hsus hgood => ?_⟩
  · have hnot : e.clockOk p khz = e := if_neg (by
      simp only [Bool.and_eq_true, Bool.not_eq_true']
      rintro ⟨⟨-, hs⟩, hg⟩
      rcases h with h | h
      · exact Bool.false_ne_true (hs.symm.trans h)
      · exact h hg)
    exact hnot ▸ hdoes
  obtain ⟨x, hx⟩ : ∃ x, x = e.put ok 1 := ⟨_, rfl⟩
  have hxr : e.SameRegs x [ok] := hx ▸ (Dev.SameRegs.refl e [ok]).put (by simp) 1
  have hxc : x.clkOk p = true := by
    rw [hx, Dev.clkOk, Dev.on, Dev.fld_put_same]
    rfl
  have heq : e.clockOk p khz = (if st = phSwitch then (x.put stF phTrain).trainSend p else x.phyClk p).pllEval := by
    rw [hx]
    exact if_pos (by
      rw [show e.rpUp p = true from hrp, show (e.phy p).suspended = false from hsus, show clockGood (e.fld (Reg.RP_PHY_STAT.RATE p)) khz = true from hgood]
      rfl)
  rw [heq] at hdoes
  have hmem : ∀ f ∈ [ok, stF] ++ pll, f ∈ shownFlds p := by simp [shownFlds, pllSeen, ok, stF, pll]
  have hxs : Dev.Shows p e x := hxr.shows fun f hf => hmem f (by rw [List.mem_singleton.1 hf]; exact List.mem_cons_self)
  obtain ⟨hks, -, hkc, hkr, hkrates, hkup⟩ := pllSeen_apart p hp
  have hstok : stF.key ≠ ok.key := by
    simp only [stF, ok, Fld.key, Reg.RP_PHY_STAT.CLK_OK, Reg.RP_PHY_STAT.STATE]
    omega
  have hxst : x.phyState p = st := by
    rw [hx]
    exact Dev.fld_put_ne _ _ hstok
  have hclk (z : Dev) (hz : z.clkOk p = true) : z.pllEval.clkOk p = true := by
    rw [Dev.clkOk, Dev.on, z.pllEval_regs.1.fld_eq hkc]
    exact hz
  have hstate (z : Dev) : z.pllEval.phyState p = z.phyState p := z.pllEval_regs.1.fld_eq hks
  -- the state moves on with the clock shown
  have hmoved (v : Nat) : e.SameRegs (x.put stF v) [ok, stF] := ((hxr.trans (Dev.SameRegs.refl x [ok]) (ks := [ok, stF]) (by simp)).put (by simp) v)
  have hmovedC (v : Nat) : (x.put stF v).clkOk p = true := by
    rw [Dev.clkOk, Dev.on, Dev.fld_put_ne _ _ (Ne.symm hstok)]
    exact hxc
  have hmovedS (v : Nat) (hv : v < 8) : (x.put stF v).phyState p = v := (Dev.fld_put_same ..).trans (Nat.mod_eq_of_lt hv)
  have hseen (z : Dev) {l : List Fld} (hz : e.SameRegs z l) : e.SameRegs z.pllEval (l ++ pll) := hz.trans z.pllEval_regs.1 fun f hf => hf
  refine ⟨fun hst => ⟨_, hdoes, ?_⟩, fun hst hq => ⟨_, hdoes, ?_⟩, fun hst hpat => ⟨_, hdoes, ?_⟩, fun hst hpat hforce => ⟨_, hdoes, ?_⟩,
    fun h1 h2 => ⟨_, hdoes, ?_⟩⟩
  · obtain ⟨w, hw⟩ : ∃ w, w = x.put stF phTrain := ⟨_, rfl⟩
    have hws : Dev.Sends p w (w.trainSend p) := w.trainSend_sends p
    rw [if_pos hst, ← hw]
    refine ⟨hclk _ ?_, (hstate _).trans ?_, hseen _ (Dev.SameRegs.of_regs (hw ▸ hmoved phTrain) hws.regs), ?_⟩
    · rw [Dev.clkOk, Dev.on, hws.fld, hw]
      exact hmovedC _
    · rw [Dev.phyState, hws.fld, hw]
      exact hmovedS _ (by decide)
    · have hshow : Dev.Shows p e w := hw ▸ (hmoved phTrain).shows fun f hf => hmem f (List.mem_append_left _ hf)
      obtain ⟨a, ha⟩ := w.trainSend_out p
      refine ⟨a, ((w.trainSend p).pllEval_phys.2.1).trans (ha.trans ?_)⟩
      have hl {l : Nat} (hl : l < 2) : w.on (Reg.RP_LANE_STAT.TX_ASLEEP p l) = e.on (Reg.RP_LANE_STAT.TX_ASLEEP p l) ∧
          w.on (Reg.RP_LANE_TXEQ.POL_INV p l) = e.on (Reg.RP_LANE_TXEQ.POL_INV p l) :=
        ⟨congrArg (· != 0) (hshow.quiet hp (List.mem_append_right _ (List.mem_flatMap.2 ⟨l, List.mem_range.2 hl, by simp⟩))),
          congrArg (· != 0) (hshow.quiet hp (List.mem_append_right _ (List.mem_flatMap.2 ⟨l, List.mem_range.2 hl, by simp⟩)))⟩
      rw [(hl (l := 0) (by decide)).1, (hl (l := 0) (by decide)).2, (hl (l := 1) (by decide)).1, (hl (l := 1) (by decide)).2, hw, hx]
      rfl
  · have hxq : x.phyClk p = (x.put stF phPage).sendPage p :=
      (if_pos ⟨hxst.trans hst, hxc, by rw [hxs.pattern hp, hq.2]; decide⟩ : x.phyClk p = _).trans
        (if_neg (by rw [Dev.on, hxs.quiet hp (f := Reg.RP_PHY_CTRL.FORCE p) (by simp [quietFlds]), ← Dev.on, hq.1]; decide))
    obtain ⟨w, hw⟩ : ∃ w, w = x.put stF phPage := ⟨_, rfl⟩
    have hws : Dev.Sends p w (w.sendPage p) := w.sendPage_sends p
    have hshow : Dev.Shows p e w := hw ▸ (hmoved phPage).shows fun f hf => hmem f (List.mem_append_left _ hf)
    rw [if_neg (by rw [hst]; decide), hxq, ← hw]
    refine ⟨hclk _ ?_, (hstate _).trans ?_, hseen _ (Dev.SameRegs.of_regs (hw ▸ hmoved phPage) hws.regs), fun hs => ?_⟩
    · rw [Dev.clkOk, Dev.on, hws.fld, hw]
      exact hmovedC _
    · rw [Dev.phyState, hws.fld, hw]
      exact hmovedS _ (by decide)
    · have hpage := Dev.sendPage_shown hshow hp (by rw [hw, hx]; rfl) hrp hq.1 hq.2 hs (by rw [hw, hmovedS _ (by decide)])
      obtain ⟨hphys, hout, -⟩ := (w.sendPage p).pllEval_phys
      have hown : (w.sendPage p).pllEval.ownPage p = w.ownPage p := (Dev.ownPage_congr (fun f hf => (w.sendPage p).pllEval_regs.1.fld_eq (by
        simp only [List.mem_cons, List.not_mem_nil, or_false] at hf
        rcases hf with rfl | rfl
        · exact hkrates
        · exact hkup)) (by rw [Dev.phy, hphys, Dev.phy]) (by rw [Dev.phy, hphys, Dev.phy])).trans hws.ownPage
      rw [hout, hown]
      exact hpage
  · have hxq : x.phyClk p = x := if_neg fun h => h.2.2 ((hxs.pattern hp).trans hpat)
    rw [if_neg (by rw [hst]; decide), hxq]
    exact ⟨hclk _ hxc, hseen x hxr⟩
  · have hxq : x.phyClk p = x.phySwitch p (some (max 1 (x.forceRate p))) :=
      (if_pos ⟨hxst.trans hst, hxc, by rw [hxs.pattern hp, hpat]; decide⟩ : x.phyClk p = _).trans
        (if_pos (by rw [Dev.on, hxs.quiet hp (f := Reg.RP_PHY_CTRL.FORCE p) (by simp [quietFlds])]; exact hforce))
    have hrate : x.forceRate p = e.forceRate p := by rw [Dev.forceRate, hxs.quiet hp (by simp [quietFlds]), Dev.forceRate]
    have hlt : max 1 (x.forceRate p) < 4 := by
      unfold Dev.forceRate
      omega
    obtain ⟨-, -, hsw, hr, -⟩ := x.phySwitch_spec hp hlt
    rw [if_neg (by rw [hst]; decide), hxq, ← hrate]
    exact ⟨(hstate _).trans hsw, ((Dev.pllEval_regs _).1.fld_eq hkr).trans hr⟩
  · have hxq : x.phyClk p = x := if_neg fun h => h1 (hxst.symm.trans h.1)
    rw [if_neg h2, hxq]
    exact ⟨hclk _ hxc, hseen x hxr⟩

theorem pageTaken (b : LaneBits) :
    let e := s.dev
    let st := e.phyState p
    let quiet := e.on (Reg.RP_PHY_CTRL.FORCE p) = false ∧ e.phyPattern p = false
    (∀ g, st = phPage → e.pageOn p b = some g → Effect (.pageAccept p b) s (fun d => pageOk g = true ∧ (d.phy p).ack = true ∧
      e.Regs d [(Reg.RP_PHY_STAT.PEER_RATES p, byteAt g 2 % 8), (Reg.RP_PHY_STAT.PEER_UPPER p, byteAt g 3 / 128)] ∧
      (quiet → e.on (Reg.RP_PHY_STAT.TX_ASLEEP p) = false → .page p (d.ownPage p) ∈ d.out))) ∧
    (st ≠ phPage ∨ e.pageOn p b = none → Does (.pageAccept p b) s e) := by
  intro e st quiet
  have hp := p.isLt
  have hdoes : Does (.pageAccept p b) s (e.pageAccept p b) := .of_main_eq (exec_pageAccept ..) hup (if_pos hrp)
  refine ⟨fun g hst hg => ⟨_, hdoes, ?_⟩, fun h => ?_⟩
  · have hok : pageOk g = true := by
      have hg' := hg
      unfold Dev.pageOn at hg'
      dsimp only at hg'
      split at hg'
      · exact pageIn_ok hg'
      · cases hg'
    obtain ⟨x, hx⟩ : ∃ x, x = ((e.put (Reg.RP_PHY_STAT.PEER_RATES p) (byteAt g 2 % 8)).put (Reg.RP_PHY_STAT.PEER_UPPER p) (byteAt g 3 / 128)).setPhy p
      { e.phy p with ack := true } := ⟨_, rfl⟩
    have heq : e.pageAccept p b = x.sendPage p := by
      rw [hx]
      simp only [Dev.pageAccept, hg]
      exact if_pos (by rw [show e.rpUp p = true from hrp, show e.phyState p = phPage from hst]; rfl)
    have hsend := x.sendPage_sends p
    have hbyte := byteAt_lt g 3
    have hregs : e.Regs x [(Reg.RP_PHY_STAT.PEER_RATES p, byteAt g 2 % 8), (Reg.RP_PHY_STAT.PEER_UPPER p, byteAt g 3 / 128)] := by
      have hset := ((Dev.Sets.nil e).put_of_lt (Reg.RP_PHY_STAT.PEER_RATES p) (v := byteAt g 2 % 8) (Nat.mod_lt _ (by decide)) (by simp)).put_of_lt
        (Reg.RP_PHY_STAT.PEER_UPPER p) (v := byteAt g 3 / 128) (show byteAt g 3 / 128 < 2 ^ 1 by omega) (by
          simp only [List.map_cons, List.map_nil, List.mem_singleton, Fld.key, Reg.RP_PHY_STAT.PEER_RATES, Reg.RP_PHY_STAT.PEER_UPPER]
          omega)
      rw [hx]
      exact Dev.Regs.of_regs (hset.1.of_mem_iff fun y => (List.reverse_perm [_, _]).mem_iff) rfl rfl
    rw [heq]
    refine ⟨hok, ?_, hregs.of_regs rfl hsend.regs, fun hq hs => ?_⟩
    · rw [hsend.ack, hx, Dev.phy_setPhy]
    · have hshow : Dev.Shows p e x := Dev.SameRegs.shows hregs.2 (by simp [shownFlds])
      have hstx : x.phyState p = st := hregs.fld_eq (by
        simp only [List.map_cons, List.map_nil, List.mem_cons, List.not_mem_nil, or_false, Fld.key, Reg.RP_PHY_STAT.STATE,
          Reg.RP_PHY_STAT.PEER_RATES, Reg.RP_PHY_STAT.PEER_UPPER]
        omega)
      rw [hsend.ownPage]
      exact Dev.sendPage_shown hshow hp (by rw [hx]; rfl) hrp hq.1 hq.2 hs (by rw [hstx, hst])
  · have hnot : e.pageAccept p b = e := by
      rcases h with h | h
      · cases ho : e.pageOn p b with
        | none => simp only [Dev.pageAccept, ho]
        | some g =>
          simp only [Dev.pageAccept, ho]
          exact if_neg (by
            simp only [Bool.and_eq_true, beq_iff_eq]
            exact fun h' => h h'.2)
      · simp only [Dev.pageAccept, h]
    exact hnot ▸ hdoes

theorem pagesEnd :
    let e := s.dev
    let y := e.phy p
    let st := e.phyState p
    let common := e.offered p &&& e.fld (Reg.RP_PHY_STAT.PEER_RATES p)
    let pll := [Reg.TIM_PLL_STAT.REF_OK, Reg.TIM_PLL_STAT.STATE, Reg.TIM_EVT.PLL_CHG]
    let ok := Reg.RP_PHY_STAT.CLK_OK p
    let stF := Reg.RP_PHY_STAT.STATE p
    (st = phPage → y.ack = true →
      (∀ c, c = 2 ∧ bitOf common 2 = true ∨ c = 1 ∧ bitOf common 2 = false ∧ bitOf common 1 = true →
        Effect (.pageExchangeDone p) s (fun d => (d.phy p).c = c ∧ (d.phy p).suspended = true ∧ d.phyState p = phSwitch ∧
          d.fld (Reg.RP_PHY_STAT.RATE p) = c ∧ d.clkOk p = false ∧ e.SameRegs d ([ok, stF, Reg.RP_PHY_STAT.RATE p] ++ pll))) ∧
      (bitOf common 2 = false → bitOf common 1 = false → Effect (.pageExchangeDone p) s (fun d =>
        e.Sets d [(stF, phFail), (Reg.RP_PHY_EVT.FAIL p, 1)]))) ∧
    (st ≠ phPage ∨ y.ack = false → Does (.pageExchangeDone p) s e) := by
  intro e y st common pll ok stF
  have hp := p.isLt
  have hdoes : Does (.pageExchangeDone p) s (e.pagesDone p) := .of_main_eq (exec_pageExchangeDone ..) hup (if_pos hrp)
  refine ⟨fun hst hack => ?_, fun h => ?_⟩
  · have heq : e.pagesDone p = e.phySwitch p (if bitOf common 2 then some 2 else if bitOf common 1 then some 1 else none) :=
      if_pos (by rw [show e.rpUp p = true from hrp, show e.phyState p = phPage from hst, show (e.phy p).ack = true from hack]; rfl)
    rw [heq] at hdoes
    refine ⟨fun c hc => ⟨_, hdoes, ?_⟩, fun h2 h1 => ⟨_, hdoes, ?_⟩⟩
    · have hsel : (if bitOf common 2 then some 2 else if bitOf common 1 then some 1 else none) = some c := by
        rcases hc with ⟨rfl, h⟩ | ⟨rfl, h2, h1⟩
        · rw [if_pos h]
        · rw [if_neg (by rw [h2]; decide), if_pos h1]
      rw [hsel]
      exact e.phySwitch_spec hp (by rcases hc with ⟨rfl, -⟩ | ⟨rfl, -⟩ <;> decide)
    · rw [if_neg (by rw [h2]; decide), if_neg (by rw [h1]; decide)]
      have hset := ((Dev.Sets.nil e).put_of_lt stF (v := phFail) (show phFail < 2 ^ 3 by decide) (by simp)).put_of_lt
        (Reg.RP_PHY_EVT.FAIL p) (v := 1) (show 1 < 2 ^ 1 by decide) (by
          simp only [List.map_cons, List.map_nil, List.mem_singleton, Fld.key, stF, Reg.RP_PHY_STAT.STATE, Reg.RP_PHY_EVT.FAIL]
          omega)
      exact hset.of_mem_iff fun y => (List.reverse_perm [_, _]).mem_iff
  · have hnot : e.pagesDone p = e := if_neg (by
      simp only [Bool.and_eq_true, beq_iff_eq]
      rintro ⟨⟨-, hst⟩, hack⟩
      rcases h with h | h
      · exact h hst
      · exact Bool.false_ne_true (h.symm.trans hack))
    exact hnot ▸ hdoes

theorem switchEnds :
    let e := s.dev
    let y := e.phy p
    let st := e.phyState p
    let up := fun (d : Dev) (c : Nat) => d.fld (Reg.RP_PHY_CNT.COUNT p c) = min (2 ^ 32 - 1) (e.fld (Reg.RP_PHY_CNT.COUNT p c) + 1)
    let fell := fun (d : Dev) => (d.phy p).removed = setBit y.removed y.c true ∧ up d 1
    Does (.switchSuspendExpiry p) s (if st = phSwitch then e.setPhy p { y with suspended := false } else e) ∧
    (st = phSwitch → e.clkOk p = false → Effect (.switchTimeout p) s (fun d => fell d ∧ d.phyState p = phClk)) ∧
    (st ≠ phSwitch ∨ e.clkOk p = true → Does (.switchTimeout p) s e) := by
  intro e y st up fell
  have hp := p.isLt
  have hdoes : Does (.switchTimeout p) s (e.switchTimeout p) := .of_main_eq (exec_switchTimeout ..) hup (if_pos hrp)
  refine ⟨.of_main_eq (exec_switchSuspendExpiry ..) hup (if_pos hrp), fun hst hclk => ⟨_, hdoes, ?_⟩, fun h => ?_⟩
  · have heq : e.switchTimeout p = e.phyFallback p :=
      if_pos (by rw [show e.rpUp p = true from hrp, show e.phyState p = phSwitch from hst, hclk]; rfl)
    obtain ⟨hrem, hcnt, -, hend⟩ := e.phyFallback_spec hp
    rw [heq]
    exact ⟨⟨hrem, hcnt⟩, (hend hclk).1⟩
  · have hnot : e.switchTimeout p = e := if_neg (by
      simp only [Bool.and_eq_true, beq_iff_eq, Bool.not_eq_true']
      rintro ⟨⟨-, hst⟩, hc⟩
      rcases h with h | h
      · exact h hst
      · exact Bool.false_ne_true (hc.symm.trans h))
    exact hnot ▸ hdoes

theorem trainEnds (m0 m1 : Int) :
    let e := s.dev
    let y := e.phy p
    let st := e.phyState p
    let up := fun (d : Dev) (c : Nat) => d.fld (Reg.RP_PHY_CNT.COUNT p c) = min (2 ^ 32 - 1) (e.fld (Reg.RP_PHY_CNT.COUNT p c) + 1)
    let fell := fun (d : Dev) => (d.phy p).removed = setBit y.removed y.c true ∧ up d 1
    let stF := Reg.RP_PHY_STAT.STATE p
    let trained := e.lanesLocked p = true ∧ -32 ≤ m1 - m0 ∧ m1 - m0 ≤ 32
    let lat := riserLat (e.fld (Reg.RP_PHY_STAT.RATE p))
    let train := Instr.trainTimerExpiry p m0 m1
    (st = phTrain → trained → Effect train s (fun d => (d.phy p).removed = 0 ∧ (d.phy p).odd = false ∧
      Tbl.get d.rlinks p {} = {} ∧
      e.Regs d [(Reg.RP_PHY_STAT.SKEW p, unsigned 7 (m1 - m0)), (stF, phUp), (Reg.RP_PHY_EVT.UP p, 1),
        (Reg.RP_PHY_LAT.RX_LAT p, lat.1), (Reg.RP_PHY_LAT.TX_LAT p, lat.2)])) ∧
    (st = phTrain → ¬ trained → Effect train s (fun d => fell d ∧ up d 4)) ∧
    (st ≠ phTrain → Does train s e) := by
  intro e y st up fell stF trained lat train
  have hp := p.isLt
  have hdoes : Does train s (e.trainOver p m0 m1) := .of_main_eq (exec_trainTimerExpiry ..) hup (if_pos hrp)
  have hat (hst : st = phTrain) : (e.rpUp p && e.phyState p == phTrain) = true := by
    rw [show e.rpUp p = true from hrp, show e.phyState p = phTrain from hst]
    rfl
  have hcond : (e.lanesLocked p && decide (-32 ≤ m1 - m0) && decide (m1 - m0 ≤ 32)) = true ↔ trained := by
    simp only [Bool.and_eq_true, decide_eq_true_eq, and_assoc, trained]
  refine ⟨fun hst ht => ⟨_, hdoes, ?_⟩, fun hst ht => ⟨_, hdoes, ?_⟩, fun hst => ?_⟩
  · have heq : e.trainOver p m0 m1 = e.linkUp p (m1 - m0) := (if_pos (hat hst)).trans (if_pos (hcond.2 ht))
    rw [heq]
    exact e.linkUp_spec p (m1 - m0)
  · have heq : e.trainOver p m0 m1 = (e.phyCnt p 4).phyFallback p := (if_pos (hat hst)).trans (if_neg (hcond.not.2 ht))
    obtain ⟨hrem, hcnt, hheld, -⟩ := (e.phyCnt p 4).phyFallback_spec hp
    rw [heq]
    refine ⟨⟨hrem, hcnt.trans ?_⟩, ?_⟩
    · rw [show (e.phyCnt p 4).fld (Reg.RP_PHY_CNT.COUNT p 1) = _ from Dev.fld_put_ne _ _ (phyCnt_ne p (by decide))]
    · exact (hheld _ (cnt_mem_held p (by decide)) (phyCnt_ne p (by decide))).trans (Dev.fld_bump ..)
  · have hnot : e.trainOver p m0 m1 = e := if_neg (by
      simp only [Bool.and_eq_true, beq_iff_eq]
      exact fun h => hst h.2)
    exact hnot ▸ hdoes

theorem cdrUnlock (l : Fin 2) :
    let e := s.dev
    let st := e.phyState p
    let up := fun (d : Dev) (c : Nat) => d.fld (Reg.RP_PHY_CNT.COUNT p c) = min (2 ^ 32 - 1) (e.fld (Reg.RP_PHY_CNT.COUNT p c) + 1)
    let down := fun (d : Dev) => d.fld (Reg.RP_PHY_EVT.DOWN p) = 1 ∧ up d 0
    (st ≠ phUp → Effect (.riserCdrUnlock p l) s (fun d => e.Sets d [(Reg.RP_LANE_STAT.CDR_LOCK p l, 0)])) ∧
    (st = phUp → Effect (.riserCdrUnlock p l) s (fun d => down d ∧ d.fld (Reg.RP_LANE_STAT.CDR_LOCK p l) = 0 ∧
      (e.clkOk p = false → d.phyState p = phClk))) := by
  intro e st up down
  have hp := p.isLt
  have hdoes : Does (.riserCdrUnlock p l) s (e.cdrUnlock p l) := .of_main_eq (exec_riserCdrUnlock ..) hup (if_pos hrp)
  have hopen : e.cdrUnlock p l = if st = phUp then
      (((e.put (Reg.RP_LANE_STAT.CDR_LOCK p l) 0).phyCnt p 0).ev (Reg.RP_PHY_EVT.DOWN p)).phyWait p
      else e.put (Reg.RP_LANE_STAT.CDR_LOCK p l) 0 := if_pos hrp
  rw [hopen] at hdoes
  refine ⟨fun hst => ⟨_, hdoes, ?_⟩, fun hst => ⟨_, hdoes, ?_⟩⟩
  · rw [if_neg hst]
    exact (Dev.Sets.nil e).put_of_lt _ (Nat.two_pow_pos _) (by simp)
  · obtain ⟨x, hx⟩ : ∃ x, x = ((e.put (Reg.RP_LANE_STAT.CDR_LOCK p l) 0).phyCnt p 0).ev (Reg.RP_PHY_EVT.DOWN p) := ⟨_, rfl⟩
    have hkeys : (Reg.RP_PHY_CNT.COUNT p 0).key ≠ (Reg.RP_PHY_EVT.DOWN p).key ∧
        (Reg.RP_PHY_CNT.COUNT p 0).key ≠ (Reg.RP_LANE_STAT.CDR_LOCK p l).key ∧
        (Reg.RP_LANE_STAT.CDR_LOCK p l).key ≠ (Reg.RP_PHY_EVT.DOWN p).key ∧ (Reg.RP_PHY_STAT.CLK_OK p).key ≠ (Reg.RP_PHY_EVT.DOWN p).key ∧
        (Reg.RP_PHY_STAT.CLK_OK p).key ≠ (Reg.RP_PHY_CNT.COUNT p 0).key ∧
        (Reg.RP_PHY_STAT.CLK_OK p).key ≠ (Reg.RP_LANE_STAT.CDR_LOCK p l).key := by
      simp only [Fld.key, Reg.RP_PHY_CNT.COUNT, Reg.RP_PHY_EVT.DOWN, Reg.RP_LANE_STAT.CDR_LOCK, Reg.RP_PHY_STAT.CLK_OK]
      omega
    obtain ⟨hcd, hcl, hld, hkd, hkc, hkl⟩ := hkeys
    have hlock : Reg.RP_LANE_STAT.CDR_LOCK p l ∈ heldFlds p := by
      rcases Nat.lt_succ_iff_lt_or_eq.1 l.isLt with h | h
      · rw [Nat.lt_one_iff.1 h]
        simp [heldFlds]
      · rw [h]
        simp [heldFlds]
    obtain ⟨hw, hend⟩ := x.phyWait_spec hp
    rw [if_pos hst, ← hx]
    refine ⟨⟨(hw.held hp (by simp [heldFlds])).trans ?_, (hw.held hp (cnt_mem_held p (by decide))).trans ?_⟩, (hw.held hp hlock).trans ?_,
      fun hc => (hend ?_).1⟩
    · rw [hx]
      exact Dev.fld_put_same ..
    · rw [hx, Dev.ev, Dev.fld_put_ne _ _ hcd]
      refine (Dev.fld_bump ..).trans ?_
      rw [Dev.fld_put_ne _ _ hcl]
      rfl
    · rw [hx, Dev.ev, Dev.fld_put_ne _ _ hld]
      exact (Dev.fld_put_ne _ _ (Ne.symm hcl)).trans ((Dev.fld_put_same ..).trans (Nat.zero_mod _))
    · rw [← hc, hx, Dev.clkOk, Dev.on, Dev.ev, Dev.fld_put_ne _ _ hkd]
      exact congrArg (· != 0) ((Dev.fld_put_ne _ _ hkc).trans (Dev.fld_put_ne _ _ hkl))

theorem restarts (m : Master) (v : Word) :
    let e := s.dev
    let st := e.phyState p
    let restarts := fun (d : Dev) => (d.phy p).removed = 0 ∧ (e.clkOk p = false → d.phyState p = phClk)
    (st = phFail → Effect (.failRetryExpiry p) s restarts) ∧ (st ≠ phFail → Does (.failRetryExpiry p) s e) ∧
    Effect (.phyRestart m p v) s restarts := by
  intro e st restarts
  have hdoes : Does (.failRetryExpiry p) s (e.failRetry p) := .of_main_eq (exec_failRetryExpiry ..) hup (if_pos hrp)
  refine ⟨fun hst => ⟨_, hdoes, ?_⟩, fun hst => ?_, ?_⟩
  · have heq : e.failRetry p = e.phyRestart p :=
      if_pos (by rw [show e.rpUp p = true from hrp, show e.phyState p = phFail from hst]; rfl)
    rw [heq]
    exact Dev.phyRestart_spec p.isLt hrp
  · have hnot : e.failRetry p = e := if_neg (by
      simp only [Bool.and_eq_true, beq_iff_eq]
      exact fun h => hst h.2)
    exact hnot ▸ hdoes
  · have hhere : e.rpHere p = true := (Bool.and_eq_true_iff.1 hrp).1
    obtain ⟨hphys, hrp', hclk, -⟩ := e.phyTakes_spec p.isLt (v ||| 0x4000000#32).toNat
    obtain ⟨hrem, hst⟩ := Dev.phyRestart_spec p.isLt (hrp'.trans hrp)
    exact .of_main_eq hup ⟨hrem, fun hc => hst (hclk.trans hc)⟩ (exec_phyRestart ..)
      ((e.poke_RP_PHY_CTRL m p _ hhere).trans (Dev.phyWrite_restart (bitOf_or_restart v)))

end Clauses

theorem restartHeld (s : State) (hup : s.dev.mainUp = true) (m : Master) (p : Fin 4) (v : Word) (hhere : s.dev.rpHere p = true)
    (h : s.dev.rpUp p = false) : Effect (.phyRestart m p v) s (fun d => d.phys = s.dev.phys ∧ d.phyState p = s.dev.phyState p) := by
  obtain ⟨hphys, hrp, -, hst⟩ := s.dev.phyTakes_spec p.isLt (v ||| 0x4000000#32).toNat
  refine .of_main_eq hup ⟨hphys, hst⟩ (exec_phyRestart ..) (((s.dev.poke_RP_PHY_CTRL m p _ hhere).trans (Dev.phyWrite_restart (bitOf_or_restart v))).trans
    (if_neg ?_))
  rw [hrp, h]
  decide

/-- Settles O50: pages, and each state of a port's bring-up with what leads out of it. -/
theorem riserBringUp : Obligations.RiserBringUp := by
  unfold Obligations.RiserBringUp
  intro s m p l b khz m0 m1 v hup
  refine ⟨s.dev.ownPage_spec p, pageIn_eq, fun h => riserIdle s hup p l b khz m0 m1 h, fun hhere h => restartHeld s hup m p v hhere h, fun hrp => ?_⟩
  obtain ⟨hloss, hlost⟩ := clockLoss s hup p hrp khz
  obtain ⟨hbad, hfound⟩ := clockFound s hup p hrp khz
  obtain ⟨hpage, hnopage⟩ := pageTaken s hup p hrp b
  obtain ⟨hpages, hnopages⟩ := pagesEnd s hup p hrp
  obtain ⟨hsus, hswitch, hnoswitch⟩ := switchEnds s hup p hrp
  obtain ⟨htrain, hbadtrain, hnotrain⟩ := trainEnds s hup p hrp m0 m1
  obtain ⟨hcdr, hcdrUp⟩ := cdrUnlock s hup p hrp l
  obtain ⟨hfail, hnofail, hrestart⟩ := restarts s hup p hrp m v
  exact ⟨hloss, hlost, hbad, hfound, hpage, hnopage, hpages, hnopages, hsus, hswitch, hnoswitch, htrain, hbadtrain, hnotrain, hcdr, hcdrUp, hfail,
    hnofail, hrestart⟩



end Sys2Proof.Machine
end

section
/-!
PROOFS. O59: the trust block (Machine/Trust.lean). The measurement log writes its own words only; the boot ROM's steps and the
commands' effects are said one by one on top of that.
-/
namespace Sys2Proof.Machine

variable {d e : Dev}

/-! ### Bytes in register arrays -/

theorem beAt_lt (b : List Byte) (i : Nat) : ∀ n, beAt b i n < 256 ^ n
  | 0 => Nat.one_pos
  | n + 1 => by
    have ih := beAt_lt b i n
    have hb := byteAt_lt b (i + n)
    rw [beAt, Nat.pow_succ]
    omega

/-- An array of 32-bit words at a base address. -/
def WordArray (f : Nat → Fld) (base : Nat) : Prop := ∀ i, f i = ⟨base + i * 0x4, 0, 32⟩

theorem WordArray.key {f : Nat → Fld} {base : Nat} (hf : WordArray f base) (i : Nat) : (f i).key = 32 * base + 128 * i := by
  rw [hf i]
  simp only [Fld.key]
  omega

theorem Dev.putBytes_eq (d : Dev) (f : Nat → Fld) (at_ n : Nat) (b : List Byte) :
    d.putBytes f at_ n b = d.puts ((List.range n).map fun i => (f (at_ + i), beAt b (4 * i) 4)) :=
  Dev.each_put (fun i => (f (at_ + i), beAt b (4 * i) 4)) (List.range n) d

theorem Dev.putBytes_rest (d : Dev) (f : Nat → Fld) (at_ n : Nat) (b : List Byte) : { d.putBytes f at_ n b with regs := d.regs } = d := by
  rw [Dev.putBytes_eq]
  exact Dev.puts_rest _ d

theorem Dev.putBytes_other (d : Dev) {f : Nat → Fld} {at_ n : Nat} (b : List Byte) {g : Fld} (h : ∀ i < n, (f (at_ + i)).key ≠ g.key) :
    (d.putBytes f at_ n b).fld g = d.fld g := by
  rw [Dev.putBytes_eq]
  refine Dev.puts_fld_ne d fun x hx => ?_
  obtain ⟨i, hi, rfl⟩ := List.mem_map.1 hx
  exact h i (List.mem_range.1 hi)

theorem Dev.putBytes_fld (d : Dev) {f : Nat → Fld} {base : Nat} (hf : WordArray f base) (at_ : Nat) {n : Nat} (b : List Byte) {i : Nat} (hi : i < n) :
    (d.putBytes f at_ n b).fld (f (at_ + i)) = beAt b (4 * i) 4 := by
  rw [Dev.putBytes_eq]
  have hn : (((List.range n).map fun i => (f (at_ + i), beAt b (4 * i) 4)).map (·.1.key)).Nodup := by
    rw [List.map_map]
    refine List.Nodup.map (fun a c h => ?_) List.nodup_range
    simp only [Function.comp, hf.key] at h
    omega
  refine (Dev.puts_fld hn d (List.mem_map_of_mem (f := fun i => (f (at_ + i), beAt b (4 * i) 4)) (List.mem_range.2 hi))).trans (Nat.mod_eq_of_lt ?_)
  rw [hf (at_ + i)]
  exact beAt_lt b (4 * i) 4

theorem logArray : WordArray Reg.TRU_LOG.DATA 0x31000 := fun _ => rfl

theorem measArray : WordArray Reg.TRU_MEAS.DATA 0x30180 := fun _ => rfl

theorem attArray : WordArray Reg.TRU_ATT_OUT.DATA 0x33000 := fun _ => rfl

theorem beBytes_beAt {b : List Byte} {i : Nat} : ∀ {n : Nat}, i + n ≤ b.length → beBytes (beAt b i n) n = (b.drop i).take n
  | 0, _ => rfl
  | n + 1, h => by
    have hb : byteAt b (i + n) = (b[i + n]'(by omega)).toNat := by
      unfold byteAt
      rw [List.getElem?_eq_getElem (by omega)]
    have hlt := byteAt_lt b (i + n)
    have hlast : BitVec.ofNat 8 (beAt b i n * 256 + byteAt b (i + n)) = b[i + n]'(by omega) := by
      apply BitVec.eq_of_toNat_eq
      rw [BitVec.toNat_ofNat, ← hb]
      omega
    rw [beAt, beBytes, show (beAt b i n * 256 + byteAt b (i + n)) / 256 = beAt b i n by omega, beBytes_beAt (by omega), hlast,
      List.take_add_one, List.getElem?_drop, List.getElem?_eq_getElem (by omega)]
    rfl

theorem words_flatMap (b : List Byte) : ∀ n, (List.range n).flatMap (fun i => (b.drop (4 * i)).take 4) = b.take (4 * n)
  | 0 => rfl
  | n + 1 => by
    rw [List.range_succ, List.flatMap_append, words_flatMap b n, List.flatMap_singleton, Nat.mul_succ, ← List.take_add]

/-- What was written into a register array reads back as bytes. -/
theorem Dev.wordBytes_of {f : Nat → Fld} {n : Nat} {b : List Byte} (hb : b.length = 4 * n) (h : ∀ i < n, d.fld (f i) = beAt b (4 * i) 4) :
    d.wordBytes f n = b := by
  unfold Dev.wordBytes
  rw [List.flatMap_congr (g := fun i => (b.drop (4 * i)).take 4) fun i hi => by
    have := List.mem_range.1 hi
    rw [h i this, beBytes_beAt (by omega)], words_flatMap, ← hb, List.take_length]

/-! ### The measurement log -/

/-- The fields that the log does not use. -/
def offLog (f : Fld) : Bool :=
  f.key != Reg.TRU_BOOT_STAT.LOG_COUNT.key &&
    (decide (f.key < 32 * 0x30180) || (decide (32 * 0x301C0 ≤ f.key) && (decide (f.key < 32 * 0x31000) || decide (32 * 0x32400 ≤ f.key))))

theorem offLog_iff (f : Fld) : offLog f = true ↔ f.key ≠ Reg.TRU_BOOT_STAT.LOG_COUNT.key ∧
    (f.key < 32 * 0x30180 ∨ 32 * 0x301C0 ≤ f.key ∧ (f.key < 32 * 0x31000 ∨ 32 * 0x32400 ≤ f.key)) := by
  simp only [offLog, Bool.and_eq_true, bne_iff_ne, Bool.or_eq_true, decide_eq_true_eq]

/-- What an entry of the log leaves. -/
structure Dev.Logs (d e : Dev) : Prop where
  fld : ∀ f, offLog f = true → e.fld f = d.fld f
  tru : e.tru = d.tru
  chip : e.chip = d.chip

theorem Dev.Logs.refl (d : Dev) : Dev.Logs d d := ⟨fun _ _ => rfl, rfl, rfl⟩

theorem Dev.Logs.trans {f : Dev} (h : Dev.Logs d e) (h' : Dev.Logs e f) : Dev.Logs d f :=
  ⟨fun g hg => (h'.fld g hg).trans (h.fld g hg), h'.tru.trans h.tru, h'.chip.trans h.chip⟩

/-- The entry of the log with index `i` (R414). -/
def logEntry (i typ b3 svn : Nat) (dig : List Byte) : List Byte :=
  beBytes i 2 ++ beBytes typ 1 ++ beBytes b3 1 ++ beBytes svn 1 ++ List.replicate 11 0 ++ padTo 64 (dig.take 64)

theorem Dev.logAppend_eq (d : Dev) (typ b3 svn : Nat) (dig : List Byte) : d.logAppend typ b3 svn dig =
    if 64 ≤ d.logCount then d
    else ((d.putBytes Reg.TRU_LOG.DATA (20 * d.logCount) 20 (logEntry d.logCount typ b3 svn dig)).putBytes Reg.TRU_MEAS.DATA 0 16
      (digest (d.meas ++ logEntry d.logCount typ b3 svn dig))).put Reg.TRU_BOOT_STAT.LOG_COUNT (d.logCount + 1) := rfl

theorem Dev.logAppend_logs (d : Dev) (typ b3 svn : Nat) (dig : List Byte) : Dev.Logs d (d.logAppend typ b3 svn dig) := by
  rw [Dev.logAppend_eq]
  split
  · exact .refl d
  · rename_i hi
    obtain ⟨i, hie⟩ : ∃ i, i = d.logCount := ⟨_, rfl⟩
    rw [← hie] at hi ⊢
    obtain ⟨x, hx⟩ : ∃ x, x = d.putBytes Reg.TRU_LOG.DATA (20 * i) 20 (logEntry i typ b3 svn dig) := ⟨_, rfl⟩
    obtain ⟨y, hy⟩ : ∃ y, y = x.putBytes Reg.TRU_MEAS.DATA 0 16 (digest (d.meas ++ logEntry i typ b3 svn dig)) := ⟨_, rfl⟩
    have hxr : { x with regs := d.regs } = d := hx ▸ d.putBytes_rest ..
    have hyr : { y with regs := x.regs } = x := hy ▸ x.putBytes_rest ..
    rw [← hx, ← hy]
    refine ⟨fun f hf => ?_, (congrArg Dev.tru hyr :).trans (congrArg Dev.tru hxr :), (congrArg Dev.chip hyr :).trans (congrArg Dev.chip hxr :)⟩
    obtain ⟨hne, hoff⟩ := (offLog_iff f).1 hf
    rw [Dev.fld_put_ne _ _ hne, hy, x.putBytes_other _ fun k hk => ?_, hx, d.putBytes_other _ fun k hk => ?_]
    · rw [logArray.key]
      omega
    · rw [measArray.key]
      omega

theorem Dev.logComps_logs : ∀ (l : List (Nat × List Byte)) (d : Dev), Dev.Logs d (d.logComps l)
  | [], d => .refl d
  | c :: l, d => (d.logAppend_logs 4 c.1 0 c.2).trans (Dev.logComps_logs l _)

theorem digest_length (b : List Byte) : (digest b).length = 64 := beBytes_length _ _

/-- An entry of a log that has room. -/
theorem Dev.logAppend_spec {typ b3 svn : Nat} {dig : List Byte} (h : d.logCount < 64) :
    let e := d.logAppend typ b3 svn dig
    let g := logEntry d.logCount typ b3 svn dig
    e.logCount = d.logCount + 1 ∧ e.meas = digest (d.meas ++ g) ∧
    ∀ n < 20, e.fld (Reg.TRU_LOG.DATA (20 * d.logCount + n)) = beAt g (4 * n) 4 := by
  obtain ⟨i, hie⟩ : ∃ i, i = d.logCount := ⟨_, rfl⟩
  rw [Dev.logAppend_eq, if_neg (by omega)]
  rw [← hie] at h ⊢
  intro e g
  obtain ⟨x, hx⟩ : ∃ x, x = d.putBytes Reg.TRU_LOG.DATA (20 * i) 20 g := ⟨_, rfl⟩
  have he : e = (x.putBytes Reg.TRU_MEAS.DATA 0 16 (digest (d.meas ++ g))).put Reg.TRU_BOOT_STAT.LOG_COUNT (i + 1) := by rw [hx]
  have hcount : Reg.TRU_BOOT_STAT.LOG_COUNT.key < 32 * 0x30180 := by decide
  rw [he]
  refine ⟨?_, Dev.wordBytes_of (digest_length _) fun k hk => ?_, fun n hn => ?_⟩
  · exact (Dev.fld_put_same ..).trans (Nat.mod_eq_of_lt (show i + 1 < 2 ^ 7 by omega))
  · rw [Dev.fld_put_ne _ _ (by rw [measArray.key]; omega)]
    have hw := x.putBytes_fld measArray 0 (digest (d.meas ++ g)) hk
    rwa [Nat.zero_add] at hw
  · rw [Dev.fld_put_ne _ _ (by rw [logArray.key]; omega), x.putBytes_other _ fun k hk => by rw [measArray.key, logArray.key]; omega, hx]
    exact d.putBytes_fld logArray (20 * i) g hn

/-! ### Commands (R412 to R420) -/

theorem Dev.truStart_busy (h : d.on Reg.TRU_STAT.BUSY = true) (r : TruRun) : d.Sets (d.truStart r) [(Reg.TRU_STAT.IGNORED, 1)] := by
  rw [Dev.truStart, if_pos h]
  exact (Dev.Sets.nil d).put_of_lt _ (show 1 < 2 ^ 1 by decide) (by simp)

theorem Dev.truStart_idle (h : d.on Reg.TRU_STAT.BUSY = false) (r : TruRun) :
    Dev.Sets { d with tru := { d.tru with run := some r } } (d.truStart r) [(Reg.TRU_STAT.BUSY, 1)] := by
  rw [Dev.truStart, if_neg (by rw [h]; decide)]
  exact (Dev.Sets.nil _).put_of_lt _ (show 1 < 2 ^ 1 by decide) (by simp)

theorem Dev.truPoke_eq (hu : d.unit 18 = true) (m : Master) {op arg : Nat} (ho : op < 16) (ha : arg < 256) :
    d.truPoke m op arg = d.truCmd op arg := by
  have hv : (BitVec.ofNat 32 (op + 2 ^ 4 * arg)).toNat = op + 2 ^ 4 * arg := by
    rw [BitVec.toNat_ofNat]
    omega
  rw [Dev.truPoke, Dev.poke_TRU_CMD d m _ hu, hv]
  congr 1
  · omega
  · rw [bits]
    omega

/-- What each command starts as, from the device as it stands. -/
theorem Dev.truCmd_eqs (d : Dev) (v slot : Nat) :
    d.truCmd 1 0 = d.truStart (if d.tru.ident = true then .attest d.attestReport else .noIdentity) ∧
    d.truCmd 2 0 = d.truStart (.measExtend (d.wordBytes Reg.TRU_IN.DATA 16)) ∧
    d.truCmd 3 0 = d.truStart (.dbgOpen d.tokenCheck.1 d.tokenCheck.2) ∧
    d.truCmd 4 v = d.truStart (if d.fld Reg.TRU_BOOT_STAT.SVN < v ∨ 64 < v ∨ d.fld Reg.GEN_FW_STAT.TRIAL_RUN ≠ 0 then .arbRefused else .arb v) ∧
    d.truCmd 5 slot = d.truStart (if 2 ≤ slot ∨ (d.fld Reg.TRU_BOOT_STAT.STATE = 1 ∧ d.cpxHere = true ∧ d.fld Reg.TRU_BOOT_STAT.KEY_SLOT = slot) ∨
      bitOf d.tru.shadow.revoke (1 - slot) = true then .keyRefused else .revoke slot) := by
  refine ⟨rfl, rfl, rfl, ?_, ?_⟩
  · show d.arbAdvance v = _
    simp only [Dev.arbAdvance, Dev.on, bne_iff_ne]
  · show d.keyRevoke slot = _
    simp only [Dev.keyRevoke, Bool.and_eq_true, beq_iff_eq, and_assoc]

theorem Dev.truCmd_none {op arg : Nat} (h : op = 0 ∨ 6 ≤ op) :
    d.Sets (d.truCmd op arg) (if d.fld Reg.TRU_STAT.BUSY ≠ 0 then [(Reg.TRU_STAT.IGNORED, 1)] else []) := by
  have heq : d.truCmd op arg = d.iff (d.on Reg.TRU_STAT.BUSY) (·.ev Reg.TRU_STAT.IGNORED) := by
    unfold Dev.truCmd
    rw [if_neg (by omega), if_neg (by omega), if_neg (by omega), if_neg (by omega), if_neg (by omega)]
  rw [heq]
  by_cases hb : d.fld Reg.TRU_STAT.BUSY ≠ 0
  · rw [if_pos hb, Dev.iff, if_pos (show d.on Reg.TRU_STAT.BUSY = true from bne_iff_ne.2 hb)]
    exact (Dev.Sets.nil d).put_of_lt _ (show 1 < 2 ^ 1 by decide) (by simp)
  · rw [if_neg hb, Dev.iff, if_neg (by simpa [Dev.on] using hb)]
    exact .nil d

theorem Dev.attestReport_length (d : Dev) : d.attestReport.length = 1536 := by
  have hpad (n : Nat) (b : List Byte) (h : b.length ≤ n) : (padTo n b).length = n := by
    rw [padTo, List.length_append, List.length_replicate]
    omega
  have hw (f : Nat → Fld) (n : Nat) : (d.wordBytes f n).length = 4 * n := by
    unfold Dev.wordBytes
    rw [List.length_flatMap, List.map_congr_left (g := fun _ => 4) fun i _ => beBytes_length _ _, List.map_const', List.sum_replicate, List.length_range,
      smul_eq_mul, Nat.mul_comm]
  have hread : (d.readWords.flatMap (fun w => beBytes w 4)).length = 16 := by
    simp only [Dev.readWords, List.flatMap_cons, List.flatMap_nil, List.length_append, beBytes_length, List.length_nil]
  unfold Dev.attestReport
  rw [List.length_append, hpad, hpad _ _ (List.length_take_le _ _)]
  simp only [List.length_append, beBytes_length, hw, hread, Dev.meas, digest_length]
  decide

/-! ### Completion -/

/-- The fields in which a command's end shows. -/
def truDoneFlds (st : Nat) : List (Fld × Nat) := [(Reg.TRU_STAT.STATUS, st), (Reg.TRU_STAT.BUSY, 0), (Reg.TRU_EVT.CMD_DONE, 1)]

/-- A command ends, with its status. -/
def Dev.truEnd (d : Dev) (st : Nat) : Dev := ((d.put Reg.TRU_STAT.STATUS st).put Reg.TRU_STAT.BUSY 0).ev Reg.TRU_EVT.CMD_DONE

theorem Dev.truDone_eq {r : TruRun} (h : d.tru.run = some r) (bad : Option Nat) :
    d.truDone bad = ((Dev.truEffect { d with tru := { d.tru with run := none } } r bad).1.truEnd
      (Dev.truEffect { d with tru := { d.tru with run := none } } r bad).2) := by
  simp only [Dev.truDone, h]
  rfl

/-- What the end writes on top of what the command wrote. -/
theorem Dev.truEnd_sets {l : List (Fld × Nat)} (h : d.Sets e l) (st : Nat) (hl : ∀ x ∈ truDoneFlds 0, x.1.key ∉ l.map (·.1.key)) :
    d.Sets (e.truEnd st) (l ++ truDoneFlds (st % 2 ^ 8)) := by
  obtain ⟨h1, h2, h3⟩ : Reg.TRU_STAT.STATUS.key ∉ l.map (·.1.key) ∧ Reg.TRU_STAT.BUSY.key ∉ l.map (·.1.key) ∧
      Reg.TRU_EVT.CMD_DONE.key ∉ l.map (·.1.key) := by
    simpa only [truDoneFlds, List.forall_mem_cons, List.not_mem_nil, false_imp_iff, implies_true, and_true] using hl
  refine (((h.put Reg.TRU_STAT.STATUS st h1).put_of_lt Reg.TRU_STAT.BUSY (v := 0) (by decide)
    (Fld.key_not_mem_cons (by decide) h2)).put_of_lt Reg.TRU_EVT.CMD_DONE (v := 1) (show 1 < 2 ^ 1 by decide)
    (Fld.key_not_mem_cons (by decide) (Fld.key_not_mem_cons (by decide) h3))).of_mem_iff fun x => ?_
  simp only [truDoneFlds, List.mem_append, List.mem_cons, List.not_mem_nil, or_false, show Reg.TRU_STAT.STATUS.w = 8 from rfl]
  tauto

theorem Dev.truEnd_only (d : Dev) {st : Nat} (hst : st < 2 ^ 8) : d.Sets (d.truEnd st) (truDoneFlds st) := by
  have h := Dev.truEnd_sets (Dev.Sets.nil d) st (by simp)
  rwa [List.nil_append, Nat.mod_eq_of_lt hst] at h

theorem Dev.truEnd_fld (d : Dev) (st : Nat) {f : Fld} (hf : f.key ∉ (truDoneFlds 0).map (·.1.key)) : (d.truEnd st).fld f = d.fld f :=
  (Dev.truEnd_sets (Dev.Sets.nil d) st (by simp)).1.fld_eq (by simpa [truDoneFlds] using hf)

theorem Dev.truEnd_shown (d : Dev) {st : Nat} (hst : st < 2 ^ 8) : (d.truEnd st).fld Reg.TRU_STAT.STATUS = st ∧ (d.truEnd st).fld Reg.TRU_STAT.BUSY = 0 ∧
    (d.truEnd st).fld Reg.TRU_EVT.CMD_DONE = 1 := by
  have h := (d.truEnd_only hst).1.1
  exact ⟨h (Reg.TRU_STAT.STATUS, st) (by simp [truDoneFlds]), h (Reg.TRU_STAT.BUSY, 0) (by simp [truDoneFlds]),
    h (Reg.TRU_EVT.CMD_DONE, 1) (by simp [truDoneFlds])⟩

/-! ### Fuses (R412, R413) -/

theorem Dev.blowArb_none {v : Nat} (bad : Option Nat) (h : v ≤ d.arb) : d.blowArb v bad = (d, 0) := if_pos h

/-- The fuse array with the first `n` anti-rollback fuses blown. -/
def Fuses.arbTo (x : Fuses) (n : Nat) : Fuses := { x with arb := x.arb ||| (2 ^ n - 1) }

theorem Dev.blowArb_all {v : Nat} (h : d.arb < v) (ht : d.tru.deadArb = none) : d.blowArb v none =
    ({ d with tru := { d.tru with fuses := d.tru.fuses.arbTo v, shadow := d.tru.shadow.arbTo v, deadArb := none } }, 0) := by
  simp only [Dev.blowArb, ht, if_neg (Nat.not_le.2 h), if_neg (Nat.lt_irrefl v)]
  rfl

theorem Dev.blowArb_stopped {v x : Nat} {bad : Option Nat} (hx : d.arb ≤ x) (hv : x < v)
    (h : d.tru.deadArb = some x ∨ d.tru.deadArb = none ∧ bad = some x) : d.blowArb v bad =
    ({ d with tru := { d.tru with fuses := d.tru.fuses.arbTo x, shadow := d.tru.shadow.arbTo x, deadArb := some x } }, tFuseFail) := by
  have hnot : ¬ v ≤ d.arb := by omega
  rcases h with h | ⟨h, rfl⟩ <;> simp only [Dev.blowArb, h, if_neg hnot, if_pos (And.intro hx hv), if_pos hv] <;> rfl

/-! ### Challenge and random source (R419, R421) -/

/-- The requests counted since the last reseed, after one more. -/
def Tru.served (t : Tru) : Tru := { t with reqs := if 2 ^ 20 ≤ t.reqs + 1 then 0 else t.reqs + 1 }

theorem Dev.rngServed_spec (d : Dev) (good : Bool) : (d.rngServed good).tru = d.tru.served ∧ (d.rngServed good).freeCtr = d.freeCtr ∧
    (d.rngServed good).out = d.out ∧
    d.Regs (d.rngServed good) (if 2 ^ 20 ≤ d.tru.reqs + 1 ∧ good = true then [(Reg.TRU_RNG_STAT.HEALTH_OK, 1)] else []) := by
  unfold Dev.rngServed Tru.served
  by_cases h : 2 ^ 20 ≤ d.tru.reqs + 1
  · simp only [if_pos h]
    cases good with
    | true =>
      rw [if_pos ⟨h, rfl⟩]
      exact ⟨rfl, rfl, rfl, ((Dev.Sets.nil _).put_of_lt _ (show 1 < 2 ^ 1 by decide) (by simp)).1.of_regs (d' := d) rfl rfl⟩
    | false =>
      rw [if_neg (by simp)]
      refine ⟨?_, ?_, ?_, Dev.Regs.of_same rfl⟩ <;> trivial
  · simp only [if_neg h]
    rw [if_neg fun h' => h h'.1]
    refine ⟨?_, ?_, ?_, Dev.Regs.of_same rfl⟩ <;> trivial

theorem Dev.rngUsed_spec (d : Dev) : (d.rngUsed).tru = d.tru.served ∧
    d.rngUsed.freeCtr = d.freeCtr + (if 2 ^ 20 ≤ d.tru.reqs + 1 then 1 else 0) ∧ d.rngUsed.out = d.out ∧
    d.SameRegs d.rngUsed (if 2 ^ 20 ≤ d.tru.reqs + 1 then [Reg.TRU_RNG_STAT.HEALTH_OK] else []) := by
  unfold Dev.rngUsed
  by_cases h : 2 ^ 20 ≤ d.tru.reqs + 1
  · rw [if_pos h, if_pos h, if_pos h]
    obtain ⟨htru, hfree, hout, hregs⟩ := d.freed.rngServed_spec (d.freeVal 1 == 1)
    refine ⟨htru, hfree, hout, fun k hk => hregs.2 k fun hm => hk ?_⟩
    split at hm
    · exact hm
    · simp at hm
  · rw [if_neg h, if_neg h, if_neg h]
    obtain ⟨htru, hfree, hout, hregs⟩ := d.rngServed_spec false
    refine ⟨htru, hfree, hout, fun k hk => hregs.2 k ?_⟩
    rw [if_neg fun h' => h h'.1]
    exact hk

theorem Dev.drawChallenge_spec (d : Dev) : d.drawChallenge.tru = { d.tru.served with chal := some (d.freeVal 128) } ∧
    d.drawChallenge.freeCtr = d.freeCtr + (if 2 ^ 20 ≤ d.tru.reqs + 1 then 2 else 1) ∧ d.drawChallenge.out = d.out ∧
    d.SameRegs d.drawChallenge (if 2 ^ 20 ≤ d.tru.reqs + 1 then [Reg.TRU_RNG_STAT.HEALTH_OK] else []) := by
  obtain ⟨htru, hfree, hout, hregs⟩ := d.freed.rngUsed_spec
  refine ⟨?_, hfree.trans ?_, hout, hregs⟩
  · unfold Dev.drawChallenge
    dsimp only
    rw [htru]
    rfl
  · show d.freeCtr + 1 + _ = _
    rw [show d.freed.tru = d.tru from rfl]
    split <;> omega

theorem trust_reads : (Reg.find (Reg.TRU_DBG_CHAL.ADR 0)).isNone = false ∧ wideOf (Reg.TRU_DBG_CHAL.ADR 0) = none ∧
    (Reg.find (Reg.TRU_DBG_CHAL.ADR 0)).map (fun r => r.fields.filter (fun f => f.acc == .rc)) = some [] := by decide

theorem Dev.chal_word (d : Dev) (m : Nat) : d.word m (Reg.TRU_DBG_CHAL.ADR 0) = d.tru.chal.getD 0 / 2 ^ 96 % 2 ^ 32 := rfl

theorem Dev.readClear_none {a : Nat} (h : (Reg.find a).map (fun r => r.fields.filter (fun f => f.acc == .rc)) = some []) : d.readClear a = d := by
  unfold Dev.readClear
  cases hf : Reg.find a with
  | none => rfl
  | some r =>
    rw [hf] at h
    have hr : r.fields.filter (fun f => f.acc == .rc) = [] := Option.some.inj h
    dsimp only
    rw [hr]
    rfl

theorem Dev.challengeAccess (hu : d.unit 18 = true) (m : Master) : d.access m (Reg.TRU_DBG_CHAL.ADR 0) .read =
    d.drawChallenge.emit (.busRead m (Reg.TRU_DBG_CHAL.ADR 0) (BitVec.ofNat 32 (d.freeVal 128 / 2 ^ 96 % 2 ^ 32))) := by
  obtain ⟨hfind, hwide, hrc⟩ := trust_reads
  have ha : d.absent (Reg.TRU_DBG_CHAL.ADR 0) = false := by
    simp [Dev.absent, Reg.TRU_DBG_CHAL.ADR, hu]
  have hthen (x : Dev) : x.readThen m (Reg.TRU_DBG_CHAL.ADR 0) = x := by
    simp only [Dev.readThen, hwide]
    exact Dev.readClear_none hrc
  have hview (x : Dev) : x.view m.num (Reg.TRU_DBG_CHAL.ADR 0) = x.tru.chal.getD 0 / 2 ^ 96 % 2 ^ 32 := by
    simp only [Dev.view, hwide]
    exact x.chal_word m.num
  have hread : d.busRead m (Reg.TRU_DBG_CHAL.ADR 0) = (d.drawChallenge, d.freeVal 128 / 2 ^ 96 % 2 ^ 32) := by
    have hchal : d.drawChallenge.tru.chal = some (d.freeVal 128) := by rw [d.drawChallenge_spec.1]
    rw [Dev.busRead, hfind, ha, if_neg (by decide), if_neg (by decide), if_neg (by decide)]
    show ((d.readFirst m _).readThen m _, (d.readFirst m _).view m.num _) = _
    rw [hthen, hview, show d.readFirst m (Reg.TRU_DBG_CHAL.ADR 0) = d.drawChallenge from rfl, hchal]
    rfl
  rw [Dev.access, if_neg (by decide)]
  show Dev.answered m _ (d.busRead m _) = _
  rw [hread]
  rfl

theorem Dev.rngAccess_eq (hu : d.unit 18 = true) (m : Master) (good : Bool) : d.rngAccess m good =
    (d.freed.rngServed good).emit (.busRead m Reg.TRU_RNG_DATA.ADR (BitVec.ofNat 32 (d.freeVal 32))) := by
  have ha : d.absent Reg.TRU_RNG_DATA.ADR = false := by
    simp [Dev.absent, Reg.TRU_RNG_DATA.ADR, hu]
  exact if_neg (by rw [ha]; decide)

/-! ### The boot ROM (R410) -/

theorem Dev.headerCause_lt (d : Dev) (b : List Byte) : d.headerCause b < 8 := by
  unfold Dev.headerCause
  dsimp only
  split_ifs <;> decide

theorem Dev.slotTry_lt (d : Dev) (b : List Byte) : (d.slotTry b).1 < 8 := by
  unfold Dev.slotTry
  dsimp only
  split
  · exact d.headerCause_lt b
  · split
    · exact (by decide : 0 < 8)
    · exact (by decide : 6 < 8)

theorem Dev.slotTry_congr (h : e.tru.shadow = d.tru.shadow) (b : List Byte) : e.slotTry b = d.slotTry b := by
  unfold Dev.slotTry Dev.headerCause Dev.arb
  rw [h]

/-- The fields in which the boot shows what it did with the slots. -/
def imageFlds : List Fld :=
  [Reg.GEN_FW_CTRL.TRIAL, Reg.GEN_FW_STAT.TRIAL_RUN, Reg.GEN_FW_STAT.PREFERRED, Reg.GEN_FW_STAT.FALLBACK, Reg.GEN_FW_STAT.FB_CAUSE,
    Reg.GEN_EVT.FW_FALLBACK, Reg.TRU_BOOT_FAIL.A_CAUSE, Reg.TRU_BOOT_FAIL.B_CAUSE, Reg.GEN_FW_STAT.BOOTED]

theorem imageFlds_spec : (imageFlds.map Fld.key).Nodup ∧ (∀ f ∈ imageFlds, offLog f = true) ∧
    ∀ f ∈ [Reg.TRU_BOOT_STAT.IDENT_OK, Reg.TRU_BOOT_STAT.REC_BAD, Reg.TRU_BOOT_STAT.STATE], offLog f = true ∧ f.key ∉ imageFlds.map Fld.key := by
  decide

/-- What the boot's work on the slots leaves: the fields outside, and of the trust block all but its progress. -/
structure Dev.Boots (d e : Dev) : Prop where
  fld : ∀ f, offLog f = true → f.key ∉ imageFlds.map Fld.key → e.fld f = d.fld f
  tru : { e.tru with boot := d.tru.boot, trialOut := d.tru.trialOut } = d.tru
  chip : e.chip = d.chip

theorem Dev.Boots.refl (d : Dev) : Dev.Boots d d := ⟨fun _ _ _ => rfl, rfl, rfl⟩

theorem Dev.Boots.trans {f : Dev} (h : Dev.Boots d e) (h' : Dev.Boots e f) : Dev.Boots d f :=
  ⟨fun g hg hg' => (h'.fld g hg hg').trans (h.fld g hg hg'),
    (congrArg (fun t : Tru => { t with boot := d.tru.boot, trialOut := d.tru.trialOut }) h'.tru :).trans h.tru, h'.chip.trans h.chip⟩

theorem Dev.Logs.boots (h : Dev.Logs d e) : Dev.Boots d e := ⟨fun f hf _ => h.fld f hf, by rw [h.tru], h.chip⟩

theorem Dev.put_boots (d : Dev) {f : Fld} (hf : f ∈ imageFlds) (v : Nat) : Dev.Boots d (d.put f v) :=
  ⟨fun _ _ hg => Dev.fld_put_ne _ _ fun h => hg (h ▸ List.mem_map_of_mem hf), rfl, rfl⟩

theorem Dev.setBoot_boots (d : Dev) (b : BootRun) : Dev.Boots d (d.setBoot b) := ⟨fun _ _ _ => rfl, rfl, rfl⟩

theorem Dev.fellBack_boots (d : Dev) (c : Nat) : Dev.Boots d (d.fellBack c) :=
  (((d.put_boots (f := Reg.GEN_FW_STAT.FALLBACK) (by simp [imageFlds]) _).trans (Dev.put_boots _ (f := Reg.GEN_FW_STAT.FB_CAUSE) (by simp [imageFlds]) _)).trans
    (Dev.put_boots _ (f := Reg.GEN_EVT.FW_FALLBACK) (by simp [imageFlds]) _))

theorem Dev.trialNoted_boots (d : Dev) : Dev.Boots d d.trialNoted := by
  unfold Dev.trialNoted
  split
  · obtain ⟨hf, ht, hc⟩ := d.fellBack_boots 2
    exact ⟨hf, ht, hc⟩
  · exact .refl d

theorem causeFld_mem (s : Nat) : causeFld s ∈ imageFlds := by
  unfold causeFld
  split <;> simp [imageFlds]

theorem causeFld_w (s : Nat) : (causeFld s).w = 3 := by
  unfold causeFld
  split <;> rfl

theorem Dev.slotChecked_boots (d : Dev) (f : Flash) (s c : Nat) : Dev.Boots d (d.slotChecked f s c) :=
  (d.put_boots (causeFld_mem s) c).trans (Dev.logAppend_logs ..).boots

/-- A field of the slots is what it was put to, through entries of the log. -/
theorem Dev.Logs.put {f : Fld} {v : Nat} (h : Dev.Logs (d.put f v) e) (hv : v < 2 ^ f.w) (hf : f ∈ imageFlds) : e.fld f = v :=
  (h.fld f (imageFlds_spec.2.1 f hf)).trans ((Dev.fld_put_same ..).trans (Nat.mod_eq_of_lt hv))

theorem Dev.slotChecked_fld (d : Dev) (f : Flash) {s c : Nat} (hc : c < 8) : (d.slotChecked f s c).fld (causeFld s) = c ∧
    ∀ g ∈ imageFlds, g.key ≠ (causeFld s).key → (d.slotChecked f s c).fld g = d.fld g := by
  have hlog : Dev.Logs (d.put (causeFld s) c) (d.slotChecked f s c) := Dev.logAppend_logs ..
  refine ⟨hlog.put (by rw [causeFld_w]; exact hc) (causeFld_mem s), fun g hg hne => ?_⟩
  exact (hlog.fld g (imageFlds_spec.2.1 g hg)).trans (Dev.fld_put_ne _ _ hne)

/-- The slots as the boot finds them: the trial is over, the preferred slot is shown. -/
def Dev.slotsStart (d : Dev) (pref : Nat) : Dev :=
  (((d.put Reg.GEN_FW_CTRL.TRIAL 0).put Reg.GEN_FW_STAT.TRIAL_RUN 0).put Reg.GEN_FW_STAT.PREFERRED pref).trialNoted

/-- The slot that the boot tries first (R363). -/
def Dev.firstSlot (d : Dev) (pref : Nat) : Nat := if d.on Reg.GEN_FW_CTRL.TRIAL then d.fld Reg.GEN_FW_CTRL.TRIAL_SLOT else pref

/-- The image of a slot as the boot hands it over. -/
def Flash.loaded (f : Flash) (s : Nat) : BootRun := .loaded s (byteAt (f.slot s) 5) (byteAt (f.slot s) 6)

theorem Dev.slotsStart_spec (d : Dev) {pref : Nat} (hp : pref < 2) : Dev.Boots d (d.slotsStart pref) ∧
    (d.slotsStart pref).fld Reg.GEN_FW_CTRL.TRIAL = 0 ∧ (d.slotsStart pref).fld Reg.GEN_FW_STAT.TRIAL_RUN = 0 ∧
    (d.slotsStart pref).fld Reg.GEN_FW_STAT.PREFERRED = pref := by
  obtain ⟨x, hx⟩ : ∃ x, x = ((d.put Reg.GEN_FW_CTRL.TRIAL 0).put Reg.GEN_FW_STAT.TRIAL_RUN 0).put Reg.GEN_FW_STAT.PREFERRED pref := ⟨_, rfl⟩
  have hb : Dev.Boots d x := hx ▸ ((d.put_boots (f := Reg.GEN_FW_CTRL.TRIAL) (by simp [imageFlds]) _).trans
    (Dev.put_boots _ (f := Reg.GEN_FW_STAT.TRIAL_RUN) (by simp [imageFlds]) _)).trans
    (Dev.put_boots _ (f := Reg.GEN_FW_STAT.PREFERRED) (by simp [imageFlds]) _)
  have hnoted {f : Fld} (hf : f.key ≠ Reg.GEN_FW_STAT.FALLBACK.key ∧ f.key ≠ Reg.GEN_FW_STAT.FB_CAUSE.key ∧ f.key ≠ Reg.GEN_EVT.FW_FALLBACK.key) :
      x.trialNoted.fld f = x.fld f := by
    unfold Dev.trialNoted
    split
    · exact ((Dev.fld_put_ne _ _ hf.2.2).trans (Dev.fld_put_ne _ _ hf.2.1)).trans (Dev.fld_put_ne _ _ hf.1)
    · rfl
  have heq : d.slotsStart pref = x.trialNoted := by rw [hx]; rfl
  rw [heq, hnoted (f := Reg.GEN_FW_CTRL.TRIAL) (by decide), hnoted (f := Reg.GEN_FW_STAT.TRIAL_RUN) (by decide),
    hnoted (f := Reg.GEN_FW_STAT.PREFERRED) (by decide)]
  refine ⟨hb.trans x.trialNoted_boots, ?_, ?_, ?_⟩
  · rw [hx, Dev.fld_put_ne _ _ (by decide), Dev.fld_put_ne _ _ (by decide)]
    exact Dev.fld_put_same ..
  · rw [hx, Dev.fld_put_ne _ _ (by decide)]
    exact Dev.fld_put_same ..
  · rw [hx]
    exact (Dev.fld_put_same ..).trans (Nat.mod_eq_of_lt hp)

theorem Dev.bootSlots_eq (d : Dev) (f : Flash) (pref : Nat) : d.bootSlots f pref =
    let first := d.firstSlot pref
    let d1 := d.slotsStart pref
    let a := d1.slotTry (f.slot first)
    let d2 := d1.slotChecked f first a.1
    if a.1 = 0 then
      (((d2.put Reg.GEN_FW_STAT.TRIAL_RUN (bit (d.on Reg.GEN_FW_CTRL.TRIAL))).put Reg.GEN_FW_STAT.BOOTED first).logComps a.2).setBoot (f.loaded first)
    else
      let d3 := d2.fellBack (if a.1 = 4 then 3 else 1)
      let b := d3.slotTry (f.slot (1 - first))
      let d4 := (d3.slotChecked f (1 - first) b.1).logComps (a.2 ++ b.2)
      if b.1 = 0 then (d4.put Reg.GEN_FW_STAT.BOOTED (1 - first)).setBoot (f.loaded (1 - first)) else d4.setBoot .failed := rfl

theorem Dev.Boots.shadow (h : Dev.Boots d e) : e.tru.shadow = d.tru.shadow := (congrArg Tru.shadow h.tru :)

theorem Dev.setBoot_boot (d : Dev) (b : BootRun) : (d.setBoot b).tru.boot = b := rfl

theorem Dev.put_run_boots (d : Dev) (v : Nat) : Dev.Boots d (d.put Reg.GEN_FW_STAT.TRIAL_RUN v) := d.put_boots (by simp [imageFlds]) v

theorem Dev.put_booted_boots (d : Dev) (v : Nat) : Dev.Boots d (d.put Reg.GEN_FW_STAT.BOOTED v) := d.put_boots (by simp [imageFlds]) v

theorem Flash.loaded_ne_due (f : Flash) (s : Nat) : f.loaded s ≠ .due := nofun

/-- Whatever the slots hold, the boot leaves the rest and comes to an end. -/
theorem Dev.bootSlots_boots (d : Dev) (f : Flash) {pref : Nat} (hp : pref < 2) : Dev.Boots d (d.bootSlots f pref) ∧
    (d.bootSlots f pref).tru.boot ≠ .due := by
  rw [Dev.bootSlots_eq]
  dsimp only
  generalize hfirst : d.firstSlot pref = first
  generalize (d.slotsStart pref).slotTry (f.slot first) = a
  obtain ⟨x, hx⟩ : ∃ x, x = (d.slotsStart pref).slotChecked f first a.1 := ⟨_, rfl⟩
  have hbx : Dev.Boots d x := hx ▸ (d.slotsStart_spec hp).1.trans (Dev.slotChecked_boots ..)
  rw [← hx]
  split
  · rw [Dev.setBoot_boot]
    exact ⟨(((hbx.trans (x.put_run_boots _)).trans (Dev.put_booted_boots _ _)).trans (Dev.logComps_logs _ _).boots).trans (Dev.setBoot_boots _ _),
      f.loaded_ne_due _⟩
  · obtain ⟨z, hz⟩ : ∃ z, z = x.fellBack (if a.1 = 4 then 3 else 1) := ⟨_, rfl⟩
    have hbz : Dev.Boots d z := hz ▸ hbx.trans (x.fellBack_boots _)
    rw [← hz]
    generalize z.slotTry (f.slot (1 - first)) = o
    obtain ⟨u, hu⟩ : ∃ u, u = (z.slotChecked f (1 - first) o.1).logComps (a.2 ++ o.2) := ⟨_, rfl⟩
    have hbu : Dev.Boots d u := hu ▸ (hbz.trans (z.slotChecked_boots f _ _)).trans (Dev.logComps_logs _ _).boots
    rw [← hu]
    split
    · rw [Dev.setBoot_boot]
      exact ⟨(hbu.trans (u.put_booted_boots _)).trans (Dev.setBoot_boots _ _), f.loaded_ne_due _⟩
    · rw [Dev.setBoot_boot]
      exact ⟨hbu.trans (u.setBoot_boots _), nofun⟩

/-- An image field through entries of the log. -/
theorem Dev.Logs.image (h : Dev.Logs d e) {f : Fld} (hf : f ∈ imageFlds) : e.fld f = d.fld f := h.fld f (imageFlds_spec.2.1 f hf)

theorem causeFld_ne (s : Nat) : ∀ f ∈ [Reg.GEN_FW_CTRL.TRIAL, Reg.GEN_FW_STAT.TRIAL_RUN, Reg.GEN_FW_STAT.PREFERRED, Reg.GEN_FW_STAT.FALLBACK,
    Reg.GEN_FW_STAT.FB_CAUSE, Reg.GEN_EVT.FW_FALLBACK, Reg.GEN_FW_STAT.BOOTED], f.key ≠ (causeFld s).key := by
  unfold causeFld
  split <;> decide

theorem causeFld_other {s : Nat} (h : s ≤ 1) : (causeFld s).key ≠ (causeFld (1 - s)).key := by
  interval_cases s <;> decide

/-- The fields that a good slot leaves, once its image is taken. -/
theorem Dev.taken_fld (x : Dev) (run first : Nat) (l : List (Nat × List Byte)) (b : BootRun) {g : Fld} (hg : g ∈ imageFlds) :
    ((((x.put Reg.GEN_FW_STAT.TRIAL_RUN run).put Reg.GEN_FW_STAT.BOOTED first).logComps l).setBoot b).fld g =
      ((x.put Reg.GEN_FW_STAT.TRIAL_RUN run).put Reg.GEN_FW_STAT.BOOTED first).fld g :=
  (Dev.setBoot_fld ..).trans ((Dev.logComps_logs l _).image hg)

theorem Dev.bootSlots_taken (d : Dev) (f : Flash) {pref : Nat} (hp : pref < 2) (hgood : (d.slotTry (f.slot (d.firstSlot pref))).1 = 0) :
    d.bootSlots f pref = (((((d.slotsStart pref).slotChecked f (d.firstSlot pref) 0).put Reg.GEN_FW_STAT.TRIAL_RUN
      (bit (d.on Reg.GEN_FW_CTRL.TRIAL))).put Reg.GEN_FW_STAT.BOOTED (d.firstSlot pref)).logComps (d.slotTry (f.slot (d.firstSlot pref))).2).setBoot
      (f.loaded (d.firstSlot pref)) := by
  have htry : (d.slotsStart pref).slotTry (f.slot (d.firstSlot pref)) = d.slotTry (f.slot (d.firstSlot pref)) :=
    Dev.slotTry_congr (d.slotsStart_spec hp).1.shadow _
  rw [Dev.bootSlots_eq]
  dsimp only
  rw [htry, hgood, if_pos rfl]

/-- The first slot is good (R363). -/
theorem Dev.bootSlots_good (d : Dev) (f : Flash) {pref : Nat} (hp : pref < 2) (hgood : (d.slotTry (f.slot (d.firstSlot pref))).1 = 0) :
    let e := d.bootSlots f pref
    e.fld Reg.GEN_FW_CTRL.TRIAL = 0 ∧ e.fld Reg.GEN_FW_STAT.PREFERRED = pref ∧ e.fld (causeFld (d.firstSlot pref)) = 0 ∧
    e.tru.boot = f.loaded (d.firstSlot pref) ∧ (d.firstSlot pref ≤ 1 → e.fld Reg.GEN_FW_STAT.BOOTED = d.firstSlot pref) ∧
    e.fld Reg.GEN_FW_STAT.TRIAL_RUN = bit (d.on Reg.GEN_FW_CTRL.TRIAL) := by
  obtain ⟨hb, htrial, -, hpref⟩ := d.slotsStart_spec hp
  have heq := d.bootSlots_taken f hp hgood
  generalize (d.slotTry (f.slot (d.firstSlot pref))).2 = l at heq
  generalize d.firstSlot pref = first at heq ⊢
  obtain ⟨x, hx⟩ : ∃ x, x = (d.slotsStart pref).slotChecked f first 0 := ⟨_, rfl⟩
  obtain ⟨hcause, hkeep⟩ := (d.slotsStart pref).slotChecked_fld f (s := first) (c := 0) (by decide)
  rw [← hx] at hcause hkeep heq
  have hne := causeFld_ne first
  simp only [List.forall_mem_cons, List.not_mem_nil, false_imp_iff, implies_true, and_true] at hne
  obtain ⟨hnt, hnr, hnp, -, -, -, hnb⟩ := hne
  dsimp only
  rw [heq, Dev.setBoot_boot]
  refine ⟨?_, ?_, ?_, rfl, fun h1 => ?_, ?_⟩
  · rw [Dev.taken_fld _ _ _ _ _ (by simp [imageFlds]), Dev.fld_put_ne _ _ (by decide), Dev.fld_put_ne _ _ (by decide),
      hkeep _ (by simp [imageFlds]) hnt]
    exact htrial
  · rw [Dev.taken_fld _ _ _ _ _ (by simp [imageFlds]), Dev.fld_put_ne _ _ (by decide), Dev.fld_put_ne _ _ (by decide),
      hkeep _ (by simp [imageFlds]) hnp]
    exact hpref
  · rw [Dev.taken_fld _ _ _ _ _ (causeFld_mem _), Dev.fld_put_ne _ _ (Ne.symm hnb), Dev.fld_put_ne _ _ (Ne.symm hnr)]
    exact hcause
  · rw [Dev.taken_fld _ _ _ _ _ (by simp [imageFlds]), Dev.fld_put_same]
    exact Nat.mod_eq_of_lt (show first < 2 ^ 1 by omega)
  · rw [Dev.taken_fld _ _ _ _ _ (by simp [imageFlds]), Dev.fld_put_ne _ _ (by decide), Dev.fld_put_same]
    exact Nat.mod_eq_of_lt (bit_lt _)

/-- The first slot is bad: the boot falls back to the other one, or fails (R363). -/
theorem Dev.bootSlots_bad (d : Dev) (f : Flash) {pref : Nat} (hp : pref < 2) (hfirst : d.firstSlot pref ≤ 1)
    (hbad : (d.slotTry (f.slot (d.firstSlot pref))).1 ≠ 0) :
    let e := d.bootSlots f pref
    let first := d.firstSlot pref
    let cause := fun x => (d.slotTry (f.slot x)).1
    e.fld Reg.GEN_FW_CTRL.TRIAL = 0 ∧ e.fld Reg.GEN_FW_STAT.PREFERRED = pref ∧ e.fld (causeFld first) = cause first ∧
    e.fld Reg.GEN_FW_STAT.FALLBACK = 1 ∧ e.fld Reg.GEN_FW_STAT.FB_CAUSE = (if cause first = 4 then 3 else 1) ∧
    e.fld Reg.GEN_FW_STAT.TRIAL_RUN = 0 ∧ e.fld (causeFld (1 - first)) = cause (1 - first) ∧
    (cause (1 - first) = 0 → e.tru.boot = f.loaded (1 - first) ∧ e.fld Reg.GEN_FW_STAT.BOOTED = 1 - first) ∧
    (cause (1 - first) ≠ 0 → e.tru.boot = .failed) := by
  intro e first cause
  obtain ⟨hb, htrial, hrun, hpref⟩ := d.slotsStart_spec hp
  have htry : (d.slotsStart pref).slotTry (f.slot first) = d.slotTry (f.slot first) := Dev.slotTry_congr hb.shadow _
  obtain ⟨c, hc⟩ : ∃ c, c = cause first := ⟨_, rfl⟩
  have hclt : c < 8 := hc ▸ d.slotTry_lt _
  obtain ⟨x, hx⟩ : ∃ x, x = (d.slotsStart pref).slotChecked f first c := ⟨_, rfl⟩
  obtain ⟨hcause, hkeep⟩ := (d.slotsStart pref).slotChecked_fld f (s := first) hclt
  rw [← hx] at hcause hkeep
  have hbx : Dev.Boots d x := hx ▸ hb.trans (Dev.slotChecked_boots ..)
  obtain ⟨z, hz⟩ : ∃ z, z = x.fellBack (if c = 4 then 3 else 1) := ⟨_, rfl⟩
  have hbz : Dev.Boots d z := hz ▸ hbx.trans (Dev.fellBack_boots ..)
  have hother : z.slotTry (f.slot (1 - first)) = d.slotTry (f.slot (1 - first)) := Dev.slotTry_congr hbz.shadow _
  obtain ⟨o, ho⟩ : ∃ o, o = cause (1 - first) := ⟨_, rfl⟩
  obtain ⟨w, hw⟩ : ∃ w, w = z.slotChecked f (1 - first) o := ⟨_, rfl⟩
  obtain ⟨hocause, hokeep⟩ := z.slotChecked_fld f (s := 1 - first) (c := o) (ho ▸ d.slotTry_lt _)
  rw [← hw] at hocause hokeep
  have hlog := Dev.logComps_logs ((d.slotTry (f.slot first)).2 ++ (d.slotTry (f.slot (1 - first))).2) w
  obtain ⟨u, hu⟩ : ∃ u, u = w.logComps ((d.slotTry (f.slot first)).2 ++ (d.slotTry (f.slot (1 - first))).2) := ⟨_, rfl⟩
  rw [← hu] at hlog
  have heq : e = if o = 0 then (u.put Reg.GEN_FW_STAT.BOOTED (1 - first)).setBoot (f.loaded (1 - first)) else u.setBoot .failed := by
    show d.bootSlots f pref = _
    rw [Dev.bootSlots_eq]
    dsimp only
    rw [htry, show (d.slotTry (f.slot first)).1 = c from hc.symm, if_neg (hc ▸ hbad), ← hx, ← hz, hother,
      show (d.slotTry (f.slot (1 - first))).1 = o from ho.symm, ← hw, ← hu]
  have hfld {g : Fld} (hg : g ∈ imageFlds) (hne : g.key ≠ Reg.GEN_FW_STAT.BOOTED.key) : e.fld g = w.fld g := by
    rw [heq]
    split
    · exact (Dev.fld_put_ne _ _ hne).trans (hlog.image hg)
    · exact hlog.image hg
  have hback {g : Fld} (hg : g.key ≠ Reg.GEN_FW_STAT.FALLBACK.key ∧ g.key ≠ Reg.GEN_FW_STAT.FB_CAUSE.key ∧ g.key ≠ Reg.GEN_EVT.FW_FALLBACK.key) :
      z.fld g = x.fld g := by
    rw [hz]
    exact ((Dev.fld_put_ne _ _ hg.2.2).trans (Dev.fld_put_ne _ _ hg.2.1)).trans (Dev.fld_put_ne _ _ hg.1)
  have hne := causeFld_ne first
  simp only [List.forall_mem_cons, List.not_mem_nil, false_imp_iff, implies_true, and_true] at hne
  obtain ⟨hnt, hnr, hnp, hnf, hnc, hne, hnb⟩ := hne
  have hno := causeFld_ne (1 - first)
  simp only [List.forall_mem_cons, List.not_mem_nil, false_imp_iff, implies_true, and_true] at hno
  obtain ⟨hot, hor, hop, hof, hoc, hoe, hob⟩ := hno
  refine ⟨?_, ?_, ?_, ?_, ?_, ?_, ?_, fun h0 => ?_, fun h0 => ?_⟩
  · rw [hfld (by simp [imageFlds]) (by decide), hokeep _ (by simp [imageFlds]) hot, hback (by decide), hkeep _ (by simp [imageFlds]) hnt]
    exact htrial
  · rw [hfld (by simp [imageFlds]) (by decide), hokeep _ (by simp [imageFlds]) hop, hback (by decide), hkeep _ (by simp [imageFlds]) hnp]
    exact hpref
  · rw [hfld (causeFld_mem _) (Ne.symm hnb), hokeep _ (causeFld_mem _) (causeFld_other hfirst), hback ⟨Ne.symm hnf, Ne.symm hnc, Ne.symm hne⟩, hcause, hc]
  · rw [hfld (by simp [imageFlds]) (by decide), hokeep _ (by simp [imageFlds]) hof, hz]
    exact (Dev.fld_put_ne _ _ (by decide)).trans ((Dev.fld_put_ne _ _ (by decide)).trans (Dev.fld_put_same ..))
  · rw [hfld (by simp [imageFlds]) (by decide), hokeep _ (by simp [imageFlds]) hoc, hz, ← hc]
    refine (Dev.fld_put_ne _ _ (by decide)).trans ((Dev.fld_put_same ..).trans (Nat.mod_eq_of_lt ?_))
    split <;> decide
  · rw [hfld (by simp [imageFlds]) (by decide), hokeep _ (by simp [imageFlds]) hor, hback (by decide), hkeep _ (by simp [imageFlds]) hnr]
    exact hrun
  · rw [hfld (causeFld_mem _) (Ne.symm hob), hocause, ho]
  · rw [heq, if_pos (ho.trans h0)]
    exact ⟨rfl, (Dev.fld_put_same ..).trans (Nat.mod_eq_of_lt (show 1 - first < 2 ^ 1 by omega))⟩
  · rw [heq, if_neg (ho ▸ h0)]
    rfl

/-! ### The identity and the record -/

/-- The trust block after step 1 of the boot. -/
def Tru.identified (t : Tru) (f : Flash) (identOk : Bool) : Tru :=
  { (if t.cold then { t with shadow := t.fuses, ident := identOk, cold := false } else t) with dbgKey := flashAt f.dbgKey 0 1793, octal := f.octal }

theorem Dev.bootIdentity_spec (d : Dev) (f : Flash) (identOk seedOk : Bool) :
    let e := d.bootIdentity f identOk seedOk
    e.tru = d.tru.identified f identOk ∧ e.chip = d.chip ∧ e.fld Reg.TRU_BOOT_STAT.IDENT_OK = bit (d.tru.identified f identOk).ident ∧
    d.SameRegs e [Reg.TRU_BOOT_STAT.IDENT_OK, Reg.TRU_BOOT_STAT.CERT_OK, Reg.TRU_EVT.CERT_MISMATCH, Reg.TRU_RNG_STAT.HEALTH_OK] := by
  intro e
  obtain ⟨x, hx⟩ : ∃ x : Dev, x = { d with tru := d.tru.identified f identOk } := ⟨_, rfl⟩
  obtain ⟨bound, hbound⟩ : ∃ b, b = ((d.tru.identified f identOk).ident && beAt f.cert 8 8 == d.chip.serial &&
    flashAt f.cert 16 1793 == padTo 1793 x.identityKey) := ⟨_, rfl⟩
  have heq : e = (((x.put Reg.TRU_BOOT_STAT.IDENT_OK (bit (d.tru.identified f identOk).ident)).put Reg.TRU_BOOT_STAT.CERT_OK (bit bound)).iff (!bound)
      (·.ev Reg.TRU_EVT.CERT_MISMATCH)).iff seedOk (·.put Reg.TRU_RNG_STAT.HEALTH_OK 1) := by
    rw [hbound, hx]
    rfl
  have hregs : d.SameRegs x [Reg.TRU_BOOT_STAT.IDENT_OK, Reg.TRU_BOOT_STAT.CERT_OK, Reg.TRU_EVT.CERT_MISMATCH, Reg.TRU_RNG_STAT.HEALTH_OK] :=
    (Dev.SameRegs.refl d _).of_regs (by rw [hx])
  have h2 := (hregs.put (f := Reg.TRU_BOOT_STAT.IDENT_OK) (by simp) (bit (d.tru.identified f identOk).ident)).put (f := Reg.TRU_BOOT_STAT.CERT_OK)
    (by simp) (bit bound)
  obtain ⟨y, hy⟩ : ∃ y, y = (x.put Reg.TRU_BOOT_STAT.IDENT_OK (bit (d.tru.identified f identOk).ident)).put Reg.TRU_BOOT_STAT.CERT_OK (bit bound) := ⟨_, rfl⟩
  have hyt : y.tru = d.tru.identified f identOk ∧ y.chip = d.chip ∧ y.fld Reg.TRU_BOOT_STAT.IDENT_OK = bit (d.tru.identified f identOk).ident := by
    rw [hy]
    refine ⟨by rw [hx]; rfl, by rw [hx]; rfl, ?_⟩
    exact (Dev.fld_put_ne _ _ (by decide)).trans ((Dev.fld_put_same ..).trans (Nat.mod_eq_of_lt (bit_lt _)))
  obtain ⟨htru, hchip, hid⟩ := hyt
  rw [← hy] at heq h2
  rw [heq]
  have hid1 (z : Dev) : (z.ev Reg.TRU_EVT.CERT_MISMATCH).fld Reg.TRU_BOOT_STAT.IDENT_OK = z.fld Reg.TRU_BOOT_STAT.IDENT_OK := Dev.fld_put_ne _ _ (by decide)
  have hid2 (z : Dev) : (z.put Reg.TRU_RNG_STAT.HEALTH_OK 1).fld Reg.TRU_BOOT_STAT.IDENT_OK = z.fld Reg.TRU_BOOT_STAT.IDENT_OK :=
    Dev.fld_put_ne _ _ (by decide)
  have h3 : d.SameRegs (y.ev Reg.TRU_EVT.CERT_MISMATCH) _ := h2.put (by simp) 1
  cases bound <;> cases seedOk
  · exact ⟨htru, hchip, (hid1 y).trans hid, h3⟩
  · exact ⟨htru, hchip, (hid2 _).trans ((hid1 y).trans hid), h3.put (by simp) 1⟩
  · exact ⟨htru, hchip, hid, h2⟩
  · exact ⟨htru, hchip, (hid2 y).trans hid, h2.put (by simp) 1⟩

/-- The boot record's entry in the log, and what the record says. -/
theorem Dev.bootRecord_spec (d : Dev) (f : Flash) :
    let r := d.bootRecord f
    (∀ g, offLog g = true → g.key ≠ Reg.TRU_BOOT_STAT.REC_BAD.key → r.1.fld g = d.fld g) ∧ r.1.chip = d.chip ∧
    { r.1.tru with copy := d.tru.copy, recSeq := d.tru.recSeq, flashMhz := d.tru.flashMhz } = d.tru ∧
    r.2 = (recordPick f).elim 0 (fun k => byteAt (if k = 0 then f.rec0 else f.rec1) 8 % 2) ∧
    (recordPick f = none → r.1.fld Reg.TRU_BOOT_STAT.REC_BAD = 1) ∧
    (∀ k, recordPick f = some k → let c := if k = 0 then f.rec0 else f.rec1
      r.1.tru.copy = k ∧ r.1.tru.recSeq = beAt c 4 4 ∧ r.1.tru.flashMhz = byteAt c 9) := by
  intro r
  have h0 := d.logAppend_logs 0 0 0 (beBytes Config.romDigest 64)
  obtain ⟨x, hx⟩ : ∃ x, x = d.logAppend 0 0 0 (beBytes Config.romDigest 64) := ⟨_, rfl⟩
  rw [← hx] at h0
  cases hpick : recordPick f with
  | none =>
    have hr : r = ((x.put Reg.TRU_BOOT_STAT.REC_BAD 1).logAppend 1 0 0 (beBytes (Config.recordDigest []) 64), 0) := by
      show d.bootRecord f = _
      simp only [Dev.bootRecord, hpick, ← hx]
    have h1 := (x.put Reg.TRU_BOOT_STAT.REC_BAD 1).logAppend_logs 1 0 0 (beBytes (Config.recordDigest []) 64)
    rw [hr]
    refine ⟨fun g hg hne => (h1.fld g hg).trans ((Dev.fld_put_ne _ _ hne).trans (h0.fld g hg)), h1.chip.trans h0.chip, ?_, rfl, fun _ => ?_, nofun⟩
    · rw [h1.tru, show (x.put Reg.TRU_BOOT_STAT.REC_BAD 1).tru = x.tru from rfl, h0.tru]
    · exact (h1.fld _ (by decide)).trans (Dev.fld_put_same ..)
  | some k =>
    obtain ⟨b, hb⟩ : ∃ b, b = if k = 0 then f.rec0 else f.rec1 := ⟨_, rfl⟩
    have h1 := x.logAppend_logs 1 0 0 (beBytes (Config.recordDigest b) 64)
    obtain ⟨y, hy⟩ : ∃ y, y = x.logAppend 1 0 0 (beBytes (Config.recordDigest b) 64) := ⟨_, rfl⟩
    rw [← hy] at h1
    have hr : r = ({ y with tru := { y.tru with copy := k, recSeq := beAt b 4 4, flashMhz := byteAt b 9 } }, byteAt b 8 % 2) := by
      show d.bootRecord f = _
      simp only [Dev.bootRecord, hpick, ← hx, ← hb, ← hy]
    have hlog := h0.trans h1
    rw [hr]
    refine ⟨fun g hg _ => hlog.fld g hg, hlog.chip, ?_, by rw [Option.elim_some, ← hb], nofun, fun j hj => ?_⟩
    · exact (congrArg (fun t : Tru => { t with copy := d.tru.copy, recSeq := d.tru.recSeq, flashMhz := d.tru.flashMhz }) hlog.tru :)
    · obtain rfl := Option.some.inj hj
      rw [← hb]
      exact ⟨rfl, rfl, rfl⟩

/-- The slots, or no image on a part without cores. -/
def Dev.bootImage (d : Dev) (f : Flash) (pref : Nat) : Dev := if d.cpxHere then d.bootSlots f pref else d.setBoot .noImage

theorem Dev.bootRom_eq (d : Dev) (f : Flash) (identOk seedOk : Bool) (h : d.tru.boot = .due) : d.bootRom f identOk seedOk =
    let r := (d.bootIdentity f identOk seedOk).bootRecord f
    let x := r.1.bootImage f r.2
    if x.dbgPerm = 0 then x else x.logAppend 5 0 0 (beBytes x.dbgPerm 1) := if_neg fun hn => hn h

theorem Dev.bootImage_boots (d : Dev) (f : Flash) {pref : Nat} (hp : pref < 2) : Dev.Boots d (d.bootImage f pref) ∧
    (d.bootImage f pref).tru.boot ≠ .due := by
  unfold Dev.bootImage
  split
  · exact d.bootSlots_boots f hp
  · rw [Dev.setBoot_boot]
    exact ⟨d.setBoot_boots _, nofun⟩

/-- The boot ROM, step by step: identity, record, image, and the log entry of open debug permissions. -/
theorem Dev.bootRom_steps (d : Dev) (f : Flash) (identOk seedOk : Bool) (h : d.tru.boot = .due) :
    let pref := (recordPick f).elim 0 (fun k => byteAt (if k = 0 then f.rec0 else f.rec1) 8 % 2)
    ∃ y z, pref < 2 ∧ Dev.Boots y z ∧ z = y.bootImage f pref ∧ Dev.Logs z (d.bootRom f identOk seedOk) ∧ y.chip = d.chip ∧
      { y.tru with copy := d.tru.copy, recSeq := d.tru.recSeq, flashMhz := d.tru.flashMhz } = d.tru.identified f identOk ∧
      (∀ g ∈ [Reg.GEN_FW_CTRL.TRIAL, Reg.GEN_FW_CTRL.TRIAL_SLOT], y.fld g = d.fld g) ∧
      y.fld Reg.TRU_BOOT_STAT.IDENT_OK = bit (d.tru.identified f identOk).ident ∧
      (recordPick f = none → y.fld Reg.TRU_BOOT_STAT.REC_BAD = 1) ∧
      (∀ k, recordPick f = some k → let c := if k = 0 then f.rec0 else f.rec1
        y.tru.copy = k ∧ y.tru.recSeq = beAt c 4 4 ∧ y.tru.flashMhz = byteAt c 9) := by
  intro pref
  have hp : pref < 2 := by
    show Option.elim _ _ _ < 2
    cases recordPick f with
    | none => exact (by decide : 0 < 2)
    | some k => exact Nat.mod_lt _ (by decide)
  obtain ⟨htru, hchip, hid, hsame⟩ := d.bootIdentity_spec f identOk seedOk
  obtain ⟨hfld, hrchip, hrtru, hrpref, hbad, hpick⟩ := (d.bootIdentity f identOk seedOk).bootRecord_spec f
  obtain ⟨y, hy⟩ : ∃ y, y = ((d.bootIdentity f identOk seedOk).bootRecord f).1 := ⟨_, rfl⟩
  rw [← hy] at hfld hrchip hrtru hbad hpick
  have hcopy : (d.bootIdentity f identOk seedOk).tru.copy = d.tru.copy ∧ (d.bootIdentity f identOk seedOk).tru.recSeq = d.tru.recSeq ∧
      (d.bootIdentity f identOk seedOk).tru.flashMhz = d.tru.flashMhz := by
    rw [htru, Tru.identified]
    split <;> exact ⟨rfl, rfl, rfl⟩
  have heq := d.bootRom_eq f identOk seedOk h
  dsimp only at heq
  rw [hrpref, ← hy] at heq
  obtain ⟨hb, -⟩ := y.bootImage_boots f hp
  refine ⟨y, y.bootImage f pref, hp, hb, rfl, ?_, hrchip.trans hchip, ?_, fun g hg => ?_, ?_, hbad, hpick⟩
  · rw [heq]
    split
    · exact .refl _
    · exact Dev.logAppend_logs ..
  · rw [← hcopy.1, ← hcopy.2.1, ← hcopy.2.2, hrtru, htru]
  · have hoff : offLog g = true ∧ g.key ≠ Reg.TRU_BOOT_STAT.REC_BAD.key ∧ g.key ∉ [Reg.TRU_BOOT_STAT.IDENT_OK, Reg.TRU_BOOT_STAT.CERT_OK,
        Reg.TRU_EVT.CERT_MISMATCH, Reg.TRU_RNG_STAT.HEALTH_OK].map Fld.key := by
      revert g
      decide
    exact (hfld g hoff.1 hoff.2.1).trans (hsame.fld_eq hoff.2.2)
  · exact (hfld _ (by decide) (by decide)).trans hid

theorem Tru.identified_spec (t : Tru) (f : Flash) (identOk : Bool) :
    (t.identified f identOk).shadow = (if t.cold = true then t.fuses else t.shadow) ∧ (t.identified f identOk).cold = false ∧
    (t.identified f identOk).ident = (if t.cold = true then identOk else t.ident) ∧ (t.identified f identOk).octal = f.octal := by
  unfold Tru.identified
  cases h : t.cold
  · exact ⟨rfl, h, rfl, rfl⟩
  · exact ⟨rfl, rfl, rfl, rfl⟩

/-- How the boot uses the flash from then on (R411, R449). -/
theorem Dev.flashPort_booted (hs : d.fld Reg.TRU_BOOT_STAT.STATE ≠ 2) (hb : d.tru.boot ≠ .due) :
    d.flashPort = if d.tru.octal = true then .octal d.tru.flashMhz else .single := by
  rw [Dev.flashPort, if_neg hs]
  cases d.tru.octal with
  | true => exact if_pos ⟨hb, rfl⟩
  | false => exact if_neg fun h => Bool.false_ne_true h.2

theorem bootStart (s : State) (hup : s.dev.mainUp = true) (f : Flash) (identOk seedOk : Bool) (hdue : s.dev.tru.boot = .due) :
    let e := s.dev
    let t := e.tru
    let shadow := if t.cold = true then t.fuses else t.shadow
    let w := { e with tru := { t with shadow := shadow } }
    let trial := e.fld Reg.GEN_FW_CTRL.TRIAL
    let pref := (recordPick f).elim 0 (fun k => byteAt (if k = 0 then f.rec0 else f.rec1) 8 % 2)
    let first := if trial ≠ 0 then e.fld Reg.GEN_FW_CTRL.TRIAL_SLOT else pref
    let cause := fun (x : Nat) => (w.slotTry (f.slot x)).1
    let load := fun (x : Nat) => BootRun.loaded x (byteAt (f.slot x) 5) (byteAt (f.slot x) 6)
    Effect (.bootRomStart f identOk seedOk) s (fun d => d.tru.shadow = shadow ∧ d.tru.cold = false ∧
      d.tru.ident = (if t.cold = true then identOk else t.ident) ∧ d.fld Reg.TRU_BOOT_STAT.IDENT_OK = bit d.tru.ident ∧
      (recordPick f = none → d.fld Reg.TRU_BOOT_STAT.REC_BAD = 1) ∧
      (∀ k, recordPick f = some k → let c := if k = 0 then f.rec0 else f.rec1
        d.tru.copy = k ∧ d.tru.recSeq = beAt c 4 4 ∧ d.tru.flashMhz = byteAt c 9) ∧
      (d.fld Reg.TRU_BOOT_STAT.STATE ≠ 2 → d.flashPort = if f.octal = true then .octal d.tru.flashMhz else .single) ∧ (e.cpxHere = false → d.tru.boot = .noImage) ∧
      (e.cpxHere = true → first ≤ 1 → d.fld Reg.GEN_FW_CTRL.TRIAL = 0 ∧ d.fld Reg.GEN_FW_STAT.PREFERRED = pref ∧
        d.fld (causeFld first) = cause first ∧
        (cause first = 0 → d.tru.boot = load first ∧ d.fld Reg.GEN_FW_STAT.BOOTED = first ∧
          d.fld Reg.GEN_FW_STAT.TRIAL_RUN = bit (trial != 0)) ∧
        (cause first ≠ 0 → d.fld Reg.GEN_FW_STAT.FALLBACK = 1 ∧ d.fld Reg.GEN_FW_STAT.FB_CAUSE = (if cause first = 4 then 3 else 1) ∧
          d.fld Reg.GEN_FW_STAT.TRIAL_RUN = 0 ∧ d.fld (causeFld (1 - first)) = cause (1 - first) ∧
          (cause (1 - first) = 0 → d.tru.boot = load (1 - first) ∧ d.fld Reg.GEN_FW_STAT.BOOTED = 1 - first) ∧
          (cause (1 - first) ≠ 0 → d.tru.boot = .failed)))) := by
  intro e t shadow w trial pref first cause load
  obtain ⟨y, z, hp, hboots, hz, hlog, hchip, htru, htrial, hid, hrec, hpick⟩ := e.bootRom_steps f identOk seedOk hdue
  obtain ⟨hish, hicold, hident, hioct⟩ := t.identified_spec f identOk
  have hyz : { z.tru with boot := y.tru.boot, trialOut := y.tru.trialOut } = y.tru := hboots.tru
  have hysh : y.tru.shadow = shadow := (congrArg Tru.shadow htru :).trans hish
  have hzi : z.tru.ident = (t.identified f identOk).ident := (congrArg Tru.ident hyz :).trans (congrArg Tru.ident htru :)
  have hcpx : y.cpxHere = e.cpxHere := by rw [Dev.cpxHere, Dev.unit, hchip, Dev.cpxHere, Dev.unit]
  have hdt := hlog.tru
  refine .of_main_eq hup ?_ (exec_bootRomStart ..) rfl
  have hfld {g : Fld} (hg : g ∈ [Reg.TRU_BOOT_STAT.IDENT_OK, Reg.TRU_BOOT_STAT.REC_BAD, Reg.TRU_BOOT_STAT.STATE]) :
      (e.bootRom f identOk seedOk).fld g = y.fld g := by
    obtain ⟨hoff, himg⟩ := imageFlds_spec.2.2 g hg
    exact (hlog.fld g hoff).trans (hboots.fld g hoff himg)
  have hdue' : z.tru.boot ≠ .due := hz ▸ (y.bootImage_boots f hp).2
  have hdoct : (e.bootRom f identOk seedOk).tru.octal = f.octal := by
    rw [hdt, show z.tru.octal = y.tru.octal from (congrArg Tru.octal hyz :), show y.tru.octal = _ from (congrArg Tru.octal htru :), hioct]
  have hcopied (k : Nat) (hk : recordPick f = some k) : let c := if k = 0 then f.rec0 else f.rec1
      z.tru.copy = k ∧ z.tru.recSeq = beAt c 4 4 ∧ z.tru.flashMhz = byteAt c 9 := by
    obtain ⟨h1, h2, h3⟩ := hpick k hk
    exact ⟨(congrArg Tru.copy hyz :).trans h1, (congrArg Tru.recSeq hyz :).trans h2, (congrArg Tru.flashMhz hyz :).trans h3⟩
  have hport (hs : (e.bootRom f identOk seedOk).fld Reg.TRU_BOOT_STAT.STATE ≠ 2) :
      (e.bootRom f identOk seedOk).flashPort = if f.octal = true then .octal (e.bootRom f identOk seedOk).tru.flashMhz else .single := by
    rw [← hdoct]
    exact Dev.flashPort_booted hs (by rw [hdt]; exact hdue')
  dsimp only
  rw [hfld (g := Reg.TRU_BOOT_STAT.IDENT_OK) (by simp), hfld (g := Reg.TRU_BOOT_STAT.REC_BAD) (by simp)]
  rw [hdt] at hport ⊢
  refine ⟨(congrArg Tru.shadow hyz :).trans hysh, (congrArg Tru.cold hyz :).trans ((congrArg Tru.cold htru :).trans hicold), hzi.trans hident, by rw [hid, hzi], hrec,
    hcopied, hport, fun hno => ?_, fun hyes hle => ?_⟩
  · rw [hz, Dev.bootImage, if_neg (by rw [hcpx, hno]; decide)]
    rfl
  · rw [← hcpx] at hyes
    rw [Dev.bootImage, if_pos hyes] at hz
    have hfirst : y.firstSlot pref = first := by
      rw [Dev.firstSlot, Dev.on, htrial _ (by simp), htrial _ (by simp)]
      by_cases h0 : trial = 0
      · rw [show e.fld Reg.GEN_FW_CTRL.TRIAL = 0 from h0]
        exact (if_neg (fun h => h h0)).symm
      · rw [if_pos (bne_iff_ne.2 h0)]
        exact (if_pos h0).symm
    have htry (b : List Byte) : y.slotTry b = w.slotTry b := Dev.slotTry_congr hysh b
    have hon : bit (y.on Reg.GEN_FW_CTRL.TRIAL) = bit (trial != 0) := by rw [Dev.on, htrial _ (by simp)]
    have himage {g : Fld} (hg : g ∈ imageFlds) : (e.bootRom f identOk seedOk).fld g = (y.bootSlots f pref).fld g := hz ▸ hlog.image hg
    rw [himage (by simp [imageFlds]), himage (g := Reg.GEN_FW_STAT.PREFERRED) (by simp [imageFlds]), himage (causeFld_mem first),
      himage (g := Reg.GEN_FW_STAT.BOOTED) (by simp [imageFlds]), himage (g := Reg.GEN_FW_STAT.TRIAL_RUN) (by simp [imageFlds]),
      himage (g := Reg.GEN_FW_STAT.FALLBACK) (by simp [imageFlds]), himage (g := Reg.GEN_FW_STAT.FB_CAUSE) (by simp [imageFlds]),
      himage (causeFld_mem (1 - first)), hz]
    by_cases h0 : cause first = 0
    · obtain ⟨hz1, hz2, hz3, hz4, hz5, hz6⟩ := y.bootSlots_good f hp (by rw [hfirst, htry]; exact h0)
      rw [hfirst] at hz3 hz4 hz5
      exact ⟨hz1, hz2, hz3.trans h0.symm, fun _ => ⟨hz4, hz5 hle, hz6.trans hon⟩, fun h => absurd h0 h⟩
    · have hbad := y.bootSlots_bad f hp (hfirst ▸ hle) (by rw [hfirst, htry]; exact h0)
      dsimp only at hbad
      rw [hfirst] at hbad
      simp only [htry] at hbad
      obtain ⟨hz1, hz2, hz3, hz4, hz5, hz6, hz7, hz8, hz9⟩ := hbad
      exact ⟨hz1, hz2, hz3, fun h => absurd h h0, fun _ => ⟨hz4, hz5, hz6, hz7, hz8, hz9⟩⟩

variable {d e : Dev}

/-! ### The end of the boot (R410, R322) -/

/-- The boot is over. -/
def Dev.bootOver (d : Dev) : Dev := { d with tru := { d.tru with boot := .over } }

/-- What the Tender's start shows. -/
def tenderStarts (d : Dev) (fw : BitVec 16) : List (Fld × Nat) :=
  if d.tenderHere = true then [(Reg.CPX_TND_STAT.RUNNING, 1), (Reg.CPX_TND_STAT.FW_VER, fw.toNat)] else []

theorem Dev.puts_handed (d : Dev) {l : List (Fld × Nat)} (hn : ((l ++ [(Reg.TRU_BOOT_STAT.STATE, 1)]).map (fun x : Fld × Nat => x.1.key)).Nodup) :
    d.bootOver.Sets (((d.puts l).put Reg.TRU_BOOT_STAT.STATE 1).setBoot .over)
      (l.map (fun x => (x.1, x.2 % 2 ^ x.1.w)) ++ [(Reg.TRU_BOOT_STAT.STATE, 1)]) := by
  have heq : ((d.puts l).put Reg.TRU_BOOT_STAT.STATE 1).setBoot .over = d.bootOver.puts (l ++ [(Reg.TRU_BOOT_STAT.STATE, 1)]) := by
    have hcomm : ∀ (l : List (Fld × Nat)) (d : Dev), (d.puts l).setBoot .over = (d.setBoot .over).puts l := fun l => by
      induction l with
      | nil => exact fun _ => rfl
      | cons x l ih => exact fun d => ih (d.put x.1 x.2)
    rw [Dev.puts_append, ← show (d.setBoot .over) = d.bootOver from rfl, ← hcomm]
    rfl
  rw [heq]
  have h := Dev.puts_sets_mod hn d.bootOver
  rwa [List.map_append] at h

theorem Dev.bootDone_manager (d : Dev) {x svn key : Nat} (fw : BitVec 16) (h : d.tru.boot = .loaded x svn key) (hw : d.worker = false) :
    d.bootOver.Sets (d.bootDone fw.toNat) ([(Reg.TRU_BOOT_STAT.SVN, svn % 2 ^ 7), (Reg.TRU_BOOT_STAT.KEY_SLOT, key % 2)] ++ tenderStarts d fw ++
      [(Reg.TRU_BOOT_STAT.STATE, 1)]) := by
  have hrole (y : Dev) (hy : y.fld Reg.RP_HIER_STAT.ROLE = d.fld Reg.RP_HIER_STAT.ROLE) : y.bootRelease = (y.put Reg.TRU_BOOT_STAT.STATE 1).setBoot .over := by
    unfold Dev.bootRelease
    rw [if_neg (by rw [Dev.worker, Dev.on, hy]; exact Bool.eq_false_iff.1 hw)]
  have hfw : fw.toNat % 2 ^ 16 = fw.toNat := Nat.mod_eq_of_lt fw.isLt
  unfold tenderStarts
  cases ht : d.tenderHere with
  | false =>
    have heq : d.bootDone fw.toNat = ((d.puts [(Reg.TRU_BOOT_STAT.SVN, svn), (Reg.TRU_BOOT_STAT.KEY_SLOT, key)]).put Reg.TRU_BOOT_STAT.STATE 1).setBoot .over := by
      rw [← hrole _ (Dev.puts_fld_ne d (by simp only [List.forall_mem_cons]; decide))]
      simp only [Dev.bootDone, h]
      show Dev.bootRelease (if (d.tenderHere && _) = true then _ else _) = _
      rw [ht]
      rfl
    rw [heq]
    exact d.puts_handed (l := [(Reg.TRU_BOOT_STAT.SVN, svn), (Reg.TRU_BOOT_STAT.KEY_SLOT, key)])
      (by simp only [List.map_append, List.map_cons, List.map_nil]; decide)
  | true =>
    have heq : d.bootDone fw.toNat = ((d.puts [(Reg.TRU_BOOT_STAT.SVN, svn), (Reg.TRU_BOOT_STAT.KEY_SLOT, key), (Reg.CPX_TND_STAT.RUNNING, 1),
        (Reg.CPX_TND_STAT.FW_VER, fw.toNat)]).put Reg.TRU_BOOT_STAT.STATE 1).setBoot .over := by
      rw [← hrole _ (Dev.puts_fld_ne d (by simp only [List.forall_mem_cons]; decide))]
      simp only [Dev.bootDone, h]
      have hrole' : ((d.put Reg.TRU_BOOT_STAT.SVN svn).put Reg.TRU_BOOT_STAT.KEY_SLOT key).worker = false := by
        rw [Dev.worker, Dev.on, Dev.fld_put_ne _ _ (by decide), Dev.fld_put_ne _ _ (by decide)]
        exact hw
      rw [hrole']
      show Dev.bootRelease (if (d.tenderHere && _) = true then _ else _) = _
      rw [ht]
      rfl
    rw [heq]
    have hset := d.puts_handed (l := [(Reg.TRU_BOOT_STAT.SVN, svn), (Reg.TRU_BOOT_STAT.KEY_SLOT, key), (Reg.CPX_TND_STAT.RUNNING, 1),
        (Reg.CPX_TND_STAT.FW_VER, fw.toNat)]) (by simp only [List.map_append, List.map_cons, List.map_nil]; decide)
    simp only [List.map_cons, List.map_nil] at hset
    rw [show fw.toNat % 2 ^ Reg.CPX_TND_STAT.FW_VER.w = fw.toNat from hfw] at hset
    exact hset

/-- What a worker's ROM writes to a port that is there. -/
def upperFlds (p : Nat) : List (Fld × Nat) := [(Reg.RP_PHY_CTRL.UPPER p, 0), (Reg.RP_LINK_CTRL.EN p, 1)]

theorem upperFlds_spec : ((List.range 4).flatMap upperFlds).map (·.1.key) |>.Nodup := by decide

theorem workerFlds_apart (p : Nat) (hp : p < 4) : (Reg.RP_LINK_CTRL.EN p).key ∉ pllSeen.map Fld.key ∧
    (Reg.RP_LINK_CTRL.EN p).key ∉ [Reg.TIM_CTRL.SRC, Reg.TIM_PLL_CTRL.REF, Reg.RP_HIER_CTRL.TREF_FOLLOW, Reg.TRU_BOOT_STAT.STATE].map Fld.key := by
  revert p
  decide

theorem Dev.bootWorker_spec (d : Dev) : d.bootWorker.fld Reg.RP_HIER_CTRL.TREF_FOLLOW = 1 ∧ d.bootWorker.fld Reg.TIM_CTRL.SRC = 2 ∧
    ∀ p < 4, d.rpHere p = true → d.bootWorker.fld (Reg.RP_LINK_CTRL.EN p) = 1 := by
  have hchip : (d.blockRstRp 0).chip = d.chip := (Dev.blockRstRp_kept (.refl d) 0).1
  obtain ⟨x, hx⟩ : ∃ x, x = d.blockRstRp 0 := ⟨_, rfl⟩
  rw [← hx] at hchip
  have hhere (p : Nat) : x.rpHere p = d.rpHere p := by rw [Dev.rpHere, Dev.rpHere, hchip]
  obtain ⟨y, hy⟩ : ∃ y, y = x.puts (((List.range 4).filter x.rpHere).flatMap upperFlds) := ⟨_, rfl⟩
  obtain ⟨z, hz⟩ : ∃ z, z = ((y.put Reg.TIM_CTRL.SRC 2).put Reg.TIM_PLL_CTRL.REF 1).put Reg.RP_HIER_CTRL.TREF_FOLLOW 1 := ⟨_, rfl⟩
  have heq : d.bootWorker = z.pllEval := by
    rw [hz, hy, ← Dev.each_puts upperFlds, hx]
    rfl
  obtain ⟨hsame, -⟩ := z.pllEval_regs
  rw [heq]
  refine ⟨?_, ?_, fun p hp hh => ?_⟩
  · rw [hsame.fld_eq (by decide), hz]
    exact Dev.fld_put_same ..
  · rw [hsame.fld_eq (by decide), hz, Dev.fld_put_ne _ _ (by decide), Dev.fld_put_ne _ _ (by decide)]
    exact Dev.fld_put_same ..
  · obtain ⟨hpll, hput⟩ := workerFlds_apart p hp
    simp only [List.map_cons, List.map_nil, List.mem_cons, List.not_mem_nil, or_false, not_or] at hput
    rw [hsame.fld_eq hpll, hz, Dev.fld_put_ne _ _ hput.2.2.1, Dev.fld_put_ne _ _ hput.2.1, Dev.fld_put_ne _ _ hput.1, hy]
    have hsub : (((List.range 4).filter x.rpHere).flatMap upperFlds).Sublist ((List.range 4).flatMap upperFlds) :=
      List.filter_sublist.flatMap _
    refine Dev.puts_fld (upperFlds_spec.sublist (hsub.map _)) x (x := (Reg.RP_LINK_CTRL.EN p, 1)) ?_
    exact List.mem_flatMap.2 ⟨p, List.mem_filter.2 ⟨List.mem_range.2 hp, (hhere p).trans hh⟩, by simp [upperFlds]⟩

theorem Dev.bootDone_worker (d : Dev) {x svn key : Nat} (fw : BitVec 16) (h : d.tru.boot = .loaded x svn key ∨ d.tru.boot = .noImage)
    (hw : d.worker = true) :
    let e := d.bootDone fw.toNat
    e.tru.boot = .over ∧ e.fld Reg.TRU_BOOT_STAT.STATE = 1 ∧ e.fld Reg.RP_HIER_CTRL.TREF_FOLLOW = 1 ∧ e.fld Reg.TIM_CTRL.SRC = 2 ∧
    ∀ p < 4, d.rpHere p = true → e.fld (Reg.RP_LINK_CTRL.EN p) = 1 := by
  obtain ⟨y, hy, hchip, hrole⟩ : ∃ y : Dev, d.bootDone fw.toNat = y.bootRelease ∧ y.chip = d.chip ∧ y.worker = true := by
    rcases h with h | h
    · have hrole' : ((d.put Reg.TRU_BOOT_STAT.SVN svn).put Reg.TRU_BOOT_STAT.KEY_SLOT key).worker = true := by
        rw [Dev.worker, Dev.on, Dev.fld_put_ne _ _ (by decide), Dev.fld_put_ne _ _ (by decide)]
        exact hw
      refine ⟨(d.put Reg.TRU_BOOT_STAT.SVN svn).put Reg.TRU_BOOT_STAT.KEY_SLOT key, ?_, rfl, hrole'⟩
      simp only [Dev.bootDone, h, hrole', Dev.iff, Bool.not_true, Bool.and_false, Bool.false_eq_true, if_false]
    · exact ⟨d, by simp only [Dev.bootDone, h], rfl, hw⟩
  obtain ⟨htref, hsrc, hen⟩ := y.bootWorker_spec
  obtain ⟨z, hz⟩ : ∃ z, z = y.bootWorker := ⟨_, rfl⟩
  have heq : d.bootDone fw.toNat = (z.put Reg.TRU_BOOT_STAT.STATE 1).setBoot .over := by
    rw [hy, Dev.bootRelease, if_pos hrole, hz]
  rw [← hz] at htref hsrc hen
  dsimp only
  rw [heq, Dev.setBoot_boot]
  simp only [Dev.setBoot_fld]
  refine ⟨trivial, Dev.fld_put_same .., ?_, ?_, fun p hp hh => ?_⟩
  · rw [Dev.fld_put_ne _ _ (by decide), htref]
  · rw [Dev.fld_put_ne _ _ (by decide), hsrc]
  · obtain ⟨-, hput⟩ := workerFlds_apart p hp
    simp only [List.map_cons, List.map_nil, List.mem_cons, List.not_mem_nil, or_false, not_or] at hput
    rw [Dev.fld_put_ne _ _ hput.2.2.2, hen p hp (by rw [Dev.rpHere, hchip]; exact hh)]

theorem Dev.bootDone_failed (d : Dev) (fw : Nat) (h : d.tru.boot = .failed) : d.bootOver.Sets (d.bootDone fw) [(Reg.TRU_BOOT_STAT.STATE, 2)] ∧
    (d.bootDone fw).flashPort = .highZ := by
  have heq : d.bootDone fw = d.bootOver.put Reg.TRU_BOOT_STAT.STATE 2 := by
    simp only [Dev.bootDone, h]
    rfl
  rw [heq]
  exact ⟨(Dev.Sets.nil _).put_of_lt _ (show 2 < 2 ^ 2 by decide) (by simp), if_pos (Dev.fld_put_same ..)⟩

/-! ### Each command's end -/

/-- No command runs any more. -/
def Dev.ran (d : Dev) : Dev := { d with tru := { d.tru with run := none } }

theorem Dev.truDone_of {r : TruRun} {bad : Option Nat} {x : Dev} {st : Nat} (h : d.tru.run = some r) (heff : d.ran.truEffect r bad = (x, st)) :
    d.truDone bad = x.truEnd st := by
  rw [Dev.truDone_eq h, show Dev.truEffect { d with tru := { d.tru with run := none } } r bad = (x, st) from heff]

theorem Dev.truDone_only {r : TruRun} {bad : Option Nat} {x : Dev} {st : Nat} (h : d.tru.run = some r) (heff : d.ran.truEffect r bad = (x, st))
    (hst : st < 2 ^ 8) : x.Sets (d.truDone bad) (truDoneFlds st) := by
  rw [Dev.truDone_of h heff]
  exact x.truEnd_only hst

theorem attFlds_apart (i : Nat) (hi : i < 384) : (Reg.TRU_ATT_OUT.DATA i).key ∉ (truDoneFlds 0).map (·.1.key) ∧
    (Reg.TRU_ATT_OUT.DATA i).key ≠ (Reg.TRU_CNT.COUNT 2).key := by
  rw [attArray.key]
  simp only [truDoneFlds, Fld.key, Reg.TRU_STAT.STATUS, Reg.TRU_STAT.BUSY, Reg.TRU_EVT.CMD_DONE, Reg.TRU_CNT.COUNT, List.map_cons, List.map_nil, List.mem_cons,
    List.not_mem_nil, or_false, not_or]
  omega

/-- ATTEST ends: its report is shown and it is counted (R417). -/
theorem Dev.attest_done {r : List Byte} (h : d.tru.run = some (.attest r)) (bad : Option Nat) :
    let e := d.truDone bad
    e.fld Reg.TRU_STAT.STATUS = 0 ∧ e.fld Reg.TRU_STAT.BUSY = 0 ∧ e.fld Reg.TRU_EVT.CMD_DONE = 1 ∧
    e.fld (Reg.TRU_CNT.COUNT 2) = min (2 ^ 32 - 1) (d.fld (Reg.TRU_CNT.COUNT 2) + 1) ∧ ∀ n < 384, e.fld (Reg.TRU_ATT_OUT.DATA n) = beAt r (4 * n) 4 := by
  obtain ⟨x, hx⟩ : ∃ x, x = d.ran.putBytes Reg.TRU_ATT_OUT.DATA 0 384 r := ⟨_, rfl⟩
  have heq : d.truDone bad = (x.bump (Reg.TRU_CNT.COUNT 2)).truEnd 0 := hx ▸ Dev.truDone_of h rfl
  obtain ⟨hst, hbusy, hdone⟩ := (x.bump (Reg.TRU_CNT.COUNT 2)).truEnd_shown (st := 0) (by decide)
  dsimp only
  rw [heq]
  refine ⟨hst, hbusy, hdone, ?_, fun n hn => ?_⟩
  · rw [Dev.truEnd_fld _ _ (by decide), Dev.fld_bump, hx,
      d.ran.putBytes_other r fun i hi => by rw [Nat.zero_add]; exact (attFlds_apart i hi).2]
    rfl
  · obtain ⟨hend, hcnt⟩ := attFlds_apart n hn
    have hw := d.ran.putBytes_fld attArray 0 r hn
    rw [Nat.zero_add] at hw
    rw [Dev.truEnd_fld _ _ hend, Dev.bump, Dev.bumpBy, Dev.fld_put_ne _ _ hcnt, hx, hw]

theorem logFlds_apart (i : Nat) (hi : i < 1280) : (Reg.TRU_LOG.DATA i).key ∉ (truDoneFlds 0).map (·.1.key) := by
  rw [logArray.key]
  simp only [truDoneFlds, Fld.key, Reg.TRU_STAT.STATUS, Reg.TRU_STAT.BUSY, Reg.TRU_EVT.CMD_DONE, List.map_cons, List.map_nil, List.mem_cons,
    List.not_mem_nil, or_false, not_or]
  omega

theorem measFlds_apart : ∀ i < 16, (Reg.TRU_MEAS.DATA i).key ∉ (truDoneFlds 0).map (·.1.key) := by decide

theorem Dev.wordBytes_congr {f : Nat → Fld} {n : Nat} (h : ∀ i < n, e.fld (f i) = d.fld (f i)) : e.wordBytes f n = d.wordBytes f n := by
  unfold Dev.wordBytes
  exact List.flatMap_congr fun i hi => by rw [h i (List.mem_range.1 hi)]

/-- MEAS_EXTEND ends: one more entry of the log (R414). -/
theorem Dev.measExtend_done {g : List Byte} (h : d.tru.run = some (.measExtend g)) (bad : Option Nat) (hroom : d.logCount < 64) :
    let e := d.truDone bad
    let entry := logEntry d.logCount 6 0 0 g
    e.fld Reg.TRU_STAT.STATUS = 0 ∧ e.fld Reg.TRU_STAT.BUSY = 0 ∧ e.fld Reg.TRU_EVT.CMD_DONE = 1 ∧ e.logCount = d.logCount + 1 ∧
    e.meas = digest (d.meas ++ entry) ∧ ∀ n < 20, e.fld (Reg.TRU_LOG.DATA (20 * d.logCount + n)) = beAt entry (4 * n) 4 := by
  have heq : d.truDone bad = (d.ran.logAppend 6 0 0 g).truEnd 0 := Dev.truDone_of h (if_neg (Nat.not_le.2 hroom))
  obtain ⟨hcount, hmeas, hlog⟩ := Dev.logAppend_spec (d := d.ran) (typ := 6) (b3 := 0) (svn := 0) (dig := g) hroom
  obtain ⟨x, hx⟩ : ∃ x, x = d.ran.logAppend 6 0 0 g := ⟨_, rfl⟩
  rw [← hx] at heq hcount hmeas hlog
  obtain ⟨hst, hbusy, hdone⟩ := x.truEnd_shown (st := 0) (by decide)
  dsimp only
  rw [heq]
  refine ⟨hst, hbusy, hdone, (Dev.truEnd_fld _ _ (by decide)).trans hcount, ?_, fun n hn => ?_⟩
  · exact (Dev.wordBytes_congr fun i hi => Dev.truEnd_fld _ _ (measFlds_apart i hi)).trans hmeas
  · have hc : d.logCount < 64 := hroom
    rw [Dev.truEnd_fld _ _ (logFlds_apart _ (by omega))]
    exact hlog n hn

/-- A refused token is counted, and its reason is the status (R419). -/
theorem Dev.dbgOpen_refused {st perms : Nat} (h : d.tru.run = some (.dbgOpen st perms)) (bad : Option Nat) (hst : st ≠ 0) :
    d.ran.Sets (d.truDone bad) ((Reg.TRU_CNT.COUNT 1, min (2 ^ 32 - 1) (d.fld (Reg.TRU_CNT.COUNT 1) + 1)) :: truDoneFlds (st % 2 ^ 8)) := by
  have heq : d.truDone bad = (d.ran.bump (Reg.TRU_CNT.COUNT 1)).truEnd st := Dev.truDone_of h (if_pos hst)
  rw [heq]
  exact Dev.truEnd_sets ((Dev.Sets.nil d.ran).bump (Reg.TRU_CNT.COUNT 1) (by simp)) st (by simp only [List.map_cons, List.map_nil]; decide)

/-- A token opens its permissions (R419). -/
theorem Dev.dbgOpen_done {perms : Nat} (h : d.tru.run = some (.dbgOpen 0 perms)) (bad : Option Nat) :
    Dev.Sets { d with tru := { d.tru with run := none, opened := d.tru.opened ||| perms, chal := none } } (d.truDone bad)
      ((Reg.TRU_EVT.DBG_OPENED, 1) :: truDoneFlds 0) := by
  have heq : d.truDone bad = (Dev.ev { d with tru := { d.tru with run := none, opened := d.tru.opened ||| perms, chal := none } }
    Reg.TRU_EVT.DBG_OPENED).truEnd 0 := Dev.truDone_of h rfl
  rw [heq]
  exact Dev.truEnd_sets ((Dev.Sets.nil _).put_of_lt Reg.TRU_EVT.DBG_OPENED (v := 1) (show 1 < 2 ^ 1 by decide) (by simp)) 0
    (by simp only [List.map_cons, List.map_nil]; decide)

/-- The fuse array with the revocation fuse of slot `k` blown. -/
def Fuses.revoked (x : Fuses) (k : Nat) : Fuses := { x with revoke := setBit x.revoke k true }

theorem Dev.blowRevoke_done {k : Nat} {bad : Bool} (hb : bad = false) (hd : bitOf d.tru.deadRevoke k = false) : d.blowRevoke k bad =
    ({ d with tru := { d.tru with fuses := d.tru.fuses.revoked k, shadow := d.tru.shadow.revoked k } }, 0) :=
  if_neg (by rw [hb, hd]; decide)

theorem Dev.blowRevoke_dead {k : Nat} {bad : Bool} (h : bad = true ∨ bitOf d.tru.deadRevoke k = true) :
    d.blowRevoke k bad = ({ d with tru := { d.tru with deadRevoke := setBit d.tru.deadRevoke k true } }, tFuseFail) := if_pos h

theorem Dev.rngHealthFail_sets (d : Dev) : Dev.Sets { d with tru := { d.tru with rngFail := true } } d.rngHealthFail
    [(Reg.TRU_CNT.COUNT 0, min (2 ^ 32 - 1) (d.fld (Reg.TRU_CNT.COUNT 0) + 1)), (Reg.TRU_RNG_STAT.HEALTH_OK, 0), (Reg.TRU_EVT.RNG_FAIL, 1)] := by
  have h := (((Dev.Sets.nil { d with tru := { d.tru with rngFail := true } }).bump (Reg.TRU_CNT.COUNT 0) (by simp)).put_of_lt
    Reg.TRU_RNG_STAT.HEALTH_OK (v := 0) (by decide) (Fld.key_not_mem_cons (by decide) (by simp))).put_of_lt Reg.TRU_EVT.RNG_FAIL (v := 1)
    (show 1 < 2 ^ 1 by decide) (Fld.key_not_mem_cons (by decide) (Fld.key_not_mem_cons (by decide) (by simp)))
  refine Dev.Sets.of_mem_iff (l := _) h fun x => ?_
  simp only [List.mem_cons, List.not_mem_nil, or_false]
  tauto

theorem Dev.bootDone_noImage (d : Dev) (fw : Nat) (h : d.tru.boot = .noImage) (hw : d.worker = false) :
    d.bootOver.Sets (d.bootDone fw) [(Reg.TRU_BOOT_STAT.STATE, 1)] := by
  have heq : d.bootDone fw = ((d.puts []).put Reg.TRU_BOOT_STAT.STATE 1).setBoot .over := by
    simp only [Dev.bootDone, h, Dev.bootRelease, hw, Bool.false_eq_true, if_false]
    rfl
  rw [heq]
  exact d.puts_handed (l := []) (by decide)

section Clauses

variable {s : State} (hup : s.dev.mainUp = true)
include hup

theorem trustCommands (m : Master) (v slot : BitVec 8) (good : Bool) (wd : Word) (hu : s.dev.unit 18 = true) :
    let e := s.dev
    let t := e.tru
    let busy := e.fld Reg.TRU_STAT.BUSY ≠ 0
    let starts := fun (i : Instr) (r : TruRun) => Effect i s (fun d =>
      { e with tru := { t with run := some r } }.Sets d [(Reg.TRU_STAT.BUSY, 1)])
    let reseeds := 2 ^ 20 ≤ t.reqs + 1
    (wd.toNat % 16 = 0 ∨ 6 ≤ wd.toNat % 16 → Effect (.registerWrite m (BitVec.ofNat 25 Reg.TRU_CMD.ADR) wd) s (fun d =>
      e.Sets d (if busy then [(Reg.TRU_STAT.IGNORED, 1)] else []))) ∧
    (busy → ∀ i ∈ [Instr.attest m, .measExtend m, .dbgOpen m, .arbAdvance m v, .keyRevoke m slot],
      Effect i s (fun d => e.Sets d [(Reg.TRU_STAT.IGNORED, 1)])) ∧
    (¬ busy →
      starts (.attest m) (if t.ident = true then .attest e.attestReport else .noIdentity) ∧
      starts (.measExtend m) (.measExtend (e.wordBytes Reg.TRU_IN.DATA 16)) ∧
      starts (.dbgOpen m) (.dbgOpen e.tokenCheck.1 e.tokenCheck.2) ∧
      starts (.arbAdvance m v) (if e.fld Reg.TRU_BOOT_STAT.SVN < v.toNat ∨ 64 < v.toNat ∨ e.fld Reg.GEN_FW_STAT.TRIAL_RUN ≠ 0 then
        .arbRefused else .arb v.toNat) ∧
      starts (.keyRevoke m slot) (if 2 ≤ slot.toNat ∨ (e.fld Reg.TRU_BOOT_STAT.STATE = 1 ∧ e.cpxHere = true ∧
        e.fld Reg.TRU_BOOT_STAT.KEY_SLOT = slot.toNat) ∨ bitOf t.shadow.revoke (1 - slot.toNat) = true then .keyRefused
        else .revoke slot.toNat)) ∧
    Effect (.dbgChallengeRead m) s (fun d => d.tru = { t.served with chal := some (e.freeVal 128) } ∧
      d.freeCtr = e.freeCtr + (if reseeds then 2 else 1) ∧ e.SameRegs d (if reseeds then [Reg.TRU_RNG_STAT.HEALTH_OK] else []) ∧
      d.out = .busRead m (Reg.TRU_DBG_CHAL.ADR 0) (BitVec.ofNat 32 (e.freeVal 128 / 2 ^ 96 % 2 ^ 32)) :: e.out) ∧
    Effect (.rngRead m good) s (fun d => d.freeCtr = e.freeCtr + 1 ∧ d.tru = t.served ∧
      d.out = .busRead m Reg.TRU_RNG_DATA.ADR (BitVec.ofNat 32 (e.freeVal 32)) :: e.out ∧
      e.Regs d (if reseeds ∧ good = true then [(Reg.TRU_RNG_STAT.HEALTH_OK, 1)] else [])) := by
  intro e t busy starts reseeds
  obtain ⟨hatt, hmeas, hdbg, harb, hkey⟩ := e.truCmd_eqs v.toNat slot.toNat
  have hpoke {op arg : Nat} (ho : op < 16) (ha : arg < 256) : e.truPoke m op arg = e.truCmd op arg := Dev.truPoke_eq hu m ho ha
  have hpatt := (hpoke (op := 1) (arg := 0) (by decide) (by decide)).trans hatt
  have hpmeas := (hpoke (op := 2) (arg := 0) (by decide) (by decide)).trans hmeas
  have hpdbg := (hpoke (op := 3) (arg := 0) (by decide) (by decide)).trans hdbg
  have hparb := (hpoke (op := 4) (by decide) v.isLt).trans harb
  have hpkey := (hpoke (op := 5) (by decide) slot.isLt).trans hkey
  refine ⟨fun h => ?_, fun hb => ?_, fun hb => ?_, ?_, ?_⟩
  · exact .of_main_eq hup (Dev.truCmd_none h) (exec_registerWrite_at (by decide) (by decide) ..) (e.poke_TRU_CMD m wd hu)
  · have hon : e.on Reg.TRU_STAT.BUSY = true := bne_iff_ne.2 hb
    simp only [List.forall_mem_cons, List.not_mem_nil, false_imp_iff, implies_true, and_true]
    exact ⟨.of_main_eq hup (Dev.truStart_busy hon _) (exec_attest ..) hpatt, .of_main_eq hup (Dev.truStart_busy hon _) (exec_measExtend ..) hpmeas,
      .of_main_eq hup (Dev.truStart_busy hon _) (exec_dbgOpen ..) hpdbg, .of_main_eq hup (Dev.truStart_busy hon _) (exec_arbAdvance ..) hparb,
      .of_main_eq hup (Dev.truStart_busy hon _) (exec_keyRevoke ..) hpkey⟩
  · have hoff : e.on Reg.TRU_STAT.BUSY = false := by simpa only [Dev.on, bne_eq_false_iff_eq, busy, ne_eq, not_not] using hb
    exact ⟨.of_main_eq hup (Dev.truStart_idle hoff _) (exec_attest ..) hpatt, .of_main_eq hup (Dev.truStart_idle hoff _) (exec_measExtend ..) hpmeas,
      .of_main_eq hup (Dev.truStart_idle hoff _) (exec_dbgOpen ..) hpdbg, .of_main_eq hup (Dev.truStart_idle hoff _) (exec_arbAdvance ..) hparb,
      .of_main_eq hup (Dev.truStart_idle hoff _) (exec_keyRevoke ..) hpkey⟩
  · obtain ⟨htru, hfree, hout, hregs⟩ := e.drawChallenge_spec
    refine .of_main_eq hup ?_ (exec_dbgChallengeRead ..) (Dev.challengeAccess hu m)
    exact ⟨htru, hfree, hregs, congrArg (List.cons _) hout⟩
  · obtain ⟨htru, hfree, hout, hregs⟩ := e.freed.rngServed_spec good
    refine .of_main_eq hup ?_ (exec_rngRead ..) (Dev.rngAccess_eq hu m good)
    exact ⟨hfree, htru, congrArg (List.cons _) hout, hregs⟩

theorem trustEnds (bad : Option Nat) :
    let e := s.dev
    let t := e.tru
    let t0 := { t with run := none }
    let cnt := fun (c : Nat) => (Reg.TRU_CNT.COUNT c, min (2 ^ 32 - 1) (e.fld (Reg.TRU_CNT.COUNT c) + 1))
    let fin := fun (P : Dev → Prop) => Effect (.truCmdDone bad) s P
    let ends := fun (x : Tru) (l : List (Fld × Nat)) => fin (fun d => { e with tru := x }.Sets d l)
    let arbEnds := fun (n : Nat) (dead : Option Nat) (st : Nat) =>
      ends { t0 with fuses := t.fuses.arbTo n, shadow := t.shadow.arbTo n, deadArb := dead } (truDoneFlds st)
    (t.run = none → fin (fun d => d = e)) ∧ (t.run = some .noIdentity → ends t0 (truDoneFlds 0x61)) ∧
    (t.run = some .arbRefused → ends t0 (truDoneFlds 0x65)) ∧ (t.run = some .keyRefused → ends t0 (truDoneFlds 0x66)) ∧
    (∀ r, t.run = some (.attest r) → fin (fun d => d.fld Reg.TRU_STAT.STATUS = 0 ∧ d.fld Reg.TRU_STAT.BUSY = 0 ∧
      d.fld Reg.TRU_EVT.CMD_DONE = 1 ∧ d.fld (cnt 2).1 = (cnt 2).2 ∧ ∀ n < 384, d.fld (Reg.TRU_ATT_OUT.DATA n) = beAt r (4 * n) 4)) ∧
    (∀ g, t.run = some (.measExtend g) → 64 ≤ e.logCount → ends t0 (truDoneFlds 0x62)) ∧
    (∀ g, t.run = some (.measExtend g) → e.logCount < 64 → fin (fun d => d.fld Reg.TRU_STAT.STATUS = 0 ∧
      d.fld Reg.TRU_STAT.BUSY = 0 ∧ d.fld Reg.TRU_EVT.CMD_DONE = 1 ∧ d.logCount = e.logCount + 1 ∧
      d.meas = digest (e.meas ++ logEntry e.logCount 6 0 0 g) ∧
      ∀ n < 20, d.fld (Reg.TRU_LOG.DATA (20 * e.logCount + n)) = beAt (logEntry e.logCount 6 0 0 g) (4 * n) 4)) ∧
    (∀ st perms, t.run = some (.dbgOpen st perms) → st ≠ 0 → ends t0 (cnt 1 :: truDoneFlds (st % 2 ^ 8))) ∧
    (∀ perms, t.run = some (.dbgOpen 0 perms) →
      ends { t0 with opened := t.opened ||| perms, chal := none } ((Reg.TRU_EVT.DBG_OPENED, 1) :: truDoneFlds 0)) ∧
    (∀ n, t.run = some (.arb n) → n ≤ e.arb → ends t0 (truDoneFlds 0)) ∧
    (∀ n, t.run = some (.arb n) → e.arb < n → t.deadArb = none → bad = none → arbEnds n none 0) ∧
    (∀ n x, t.run = some (.arb n) → e.arb ≤ x → x < n → t.deadArb = some x ∨ (t.deadArb = none ∧ bad = some x) →
      arbEnds x (some x) 0x67) ∧
    (∀ k, t.run = some (.revoke k) → bad = none → bitOf t.deadRevoke k = false →
      ends { t0 with fuses := t.fuses.revoked k, shadow := t.shadow.revoked k } (truDoneFlds 0)) ∧
    (∀ k, t.run = some (.revoke k) → bad ≠ none ∨ bitOf t.deadRevoke k = true →
      ends { t0 with deadRevoke := setBit t.deadRevoke k true } (truDoneFlds 0x67)) := by
  intro e t t0 cnt fin ends arbEnds
  have hfin {P : Dev → Prop} (hP : P (e.truDone bad)) : fin P := .of_main_eq hup hP (exec_truCmdDone ..) rfl
  refine ⟨fun h => hfin ?_, fun h => hfin (Dev.truDone_only h rfl (by decide)), fun h => hfin (Dev.truDone_only h rfl (by decide)),
    fun h => hfin (Dev.truDone_only h rfl (by decide)), fun r h => hfin (Dev.attest_done h bad),
    fun g h hfull => hfin (Dev.truDone_only h (if_pos hfull) (by decide)), fun g h hroom => hfin (Dev.measExtend_done h bad hroom),
    fun st perms h hst => hfin (Dev.dbgOpen_refused h bad hst), fun perms h => hfin (Dev.dbgOpen_done h bad),
    fun n h hn => hfin (Dev.truDone_only h (Dev.blowArb_none bad hn) (by decide)), fun n h hn hdead hb => hfin ?_,
    fun n x h hx hn hdead => hfin ?_, fun k h hb hdead => hfin ?_, fun k h hdead => hfin ?_⟩
  · simp only [Dev.truDone, show e.tru.run = none from h]
  · subst hb
    exact Dev.truDone_only h (Dev.blowArb_all (d := e.ran) hn hdead) (by decide)
  · exact Dev.truDone_only h (Dev.blowArb_stopped (d := e.ran) hx hn hdead) (by decide)
  · exact Dev.truDone_only h (Dev.blowRevoke_done (d := e.ran) (by rw [hb]; rfl) hdead) (by decide)
  · refine Dev.truDone_only h (Dev.blowRevoke_dead (d := e.ran) (hdead.imp_left fun hb => ?_)) (by decide)
    exact Option.isSome_iff_ne_none.2 hb

theorem bootEnds (fw : BitVec 16) :
    let e := s.dev
    let t := e.tru
    let ended := { e with tru := { t with boot := .over } }
    let handsOver := fun (l : List (Fld × Nat)) => Effect (.bootComplete fw) s (fun d => ended.Sets d (l ++ [(Reg.TRU_BOOT_STAT.STATE, 1)]))
    (∀ x svn key, t.boot = .loaded x svn key → e.worker = false → handsOver ([(Reg.TRU_BOOT_STAT.SVN, svn % 2 ^ 7),
      (Reg.TRU_BOOT_STAT.KEY_SLOT, key % 2)] ++
      if e.tenderHere = true then [(Reg.CPX_TND_STAT.RUNNING, 1), (Reg.CPX_TND_STAT.FW_VER, fw.toNat)] else [])) ∧
    (t.boot = .noImage → e.worker = false → handsOver []) ∧
    (∀ x svn key, t.boot = .loaded x svn key ∨ t.boot = .noImage → e.worker = true → Effect (.bootComplete fw) s (fun d =>
      d.tru.boot = .over ∧ d.fld Reg.TRU_BOOT_STAT.STATE = 1 ∧ d.fld Reg.RP_HIER_CTRL.TREF_FOLLOW = 1 ∧ d.fld Reg.TIM_CTRL.SRC = 2 ∧
      ∀ p < 4, e.rpHere p = true → d.fld (Reg.RP_LINK_CTRL.EN p) = 1)) ∧
    (t.boot = .failed → Effect (.bootComplete fw) s (fun d =>
      ended.Sets d [(Reg.TRU_BOOT_STAT.STATE, 2)] ∧ d.flashPort = .highZ)) ∧
    (t.boot = .due ∨ t.boot = .over → Does (.bootComplete fw) s e) := by
  intro e t ended handsOver
  have hexec := exec_bootComplete (s := s) fw
  refine ⟨fun x svn key h hw => .of_main_eq hup (e.bootDone_manager fw h hw) hexec rfl, fun h hw => .of_main_eq hup (e.bootDone_noImage fw.toNat h hw) hexec rfl,
    fun x svn key h hw => .of_main_eq hup (e.bootDone_worker fw h hw) hexec rfl, fun h => .of_main_eq hup (e.bootDone_failed fw.toNat h) hexec rfl,
    fun h => .of_main_eq hexec hup ?_⟩
  rcases h with h | h <;> simp only [Dev.bootDone, show s.dev.tru.boot = _ from h, e]

end Clauses

theorem logEntry_extend (i : Nat) (g : List Byte) :
    logEntry i 6 0 0 g = beBytes i 2 ++ [6#8, 0#8, 0#8] ++ List.replicate 11 0 ++ padTo 64 (g.take 64) := by
  rw [logEntry, List.append_assoc (beBytes i 2), List.append_assoc (beBytes i 2)]
  rfl

/-- Settles O59: the boot ROM by its steps, each command by what its start fixes, and each end by what the command then does. -/
theorem trustBlock : Obligations.TrustBlock := by
  unfold Obligations.TrustBlock
  intro s m f identOk seedOk good fw v slot bad wd hup
  obtain ⟨hboot1, hboot2, hboot3, hboot4, hboot5⟩ := bootEnds hup fw
  have hends := trustEnds hup bad
  simp only [logEntry_extend] at hends
  refine ⟨fun h => .of_main_eq (exec_bootRomStart ..) hup (if_pos h), bootStart s hup f identOk seedOk, hboot1, hboot2, hboot3, hboot4, hboot5,
    trustCommands hup m v slot good wd, s.dev.attestReport_length, ?_⟩
  obtain ⟨h1, h2, h3, h4, h5, h6, h7, h8, h9, h10, h11, h12, h13, h14⟩ := hends
  exact ⟨h1, h2, h3, h4, h5, h6, h7, h8, h9, h10, h11, h12, h13, h14, .of_main_eq hup s.dev.rngHealthFail_sets (exec_rngHealthFail ..) rfl⟩

end Sys2Proof.Machine
end

section
/-!
PROOFS. O60: check-value units, clock outputs, the debug reset, the TAP and the I²C and MDIO controllers (Machine/Debug.lean).
-/
namespace Sys2Proof.Machine

variable {d e : Dev}

/-! ### Check-value units (R422 to R426) -/

/-- The fields of a check-value unit that its operations write. -/
def cvuFlds (u : Nat) : List Fld :=
  [Reg.CVU_CTRL.POLY u, Reg.CVU_CTRL.USE_SEED u, Reg.CVU_CTRL.DUAL u, Reg.CVU_ACC.VALUE u, Reg.CVU_RESULT.VALUE u, Reg.CVU_COUNT.VALUE u,
    Reg.CVU_STAT.OUTCOME u, Reg.CVU_STAT.OWNER u, Reg.CVU_STAT.OWNED u, Reg.CVU_EVT.MISMATCH u, Reg.CVU_EVT.COPY_BAD u, Reg.CVU_EVT.FOREIGN u,
    Reg.CVU_CNT.COUNT u 0, Reg.CVU_CNT.COUNT u 1, Reg.CVU_SEED.VALUE u, Reg.CVU_EXPECT_A.VALUE u, Reg.CVU_EXPECT_B.VALUE u]

theorem cvuFlds_nodup : ∀ u < 4, ((cvuFlds u).map Fld.key).Nodup := by decide

theorem cvuFlds_part {u : Nat} (hu : u < 4) (i n : Nat) : ((((cvuFlds u).drop i).take n).map Fld.key).Nodup :=
  (cvuFlds_nodup u hu).sublist (((List.take_sublist ..).trans (List.drop_sublist ..)).map _)

/-- What a write of CVU.CTRL sets before its commands. -/
def ctrlSets (u x : Nat) : List (Fld × Nat) :=
  [(Reg.CVU_CTRL.POLY u, x % 4), (Reg.CVU_CTRL.USE_SEED u, x / 4 % 2), (Reg.CVU_CTRL.DUAL u, x / 32 % 2)]

/-- The fields of CVU.CTRL take the written word. -/
def Dev.cvuPut (d : Dev) (u x : Nat) : Dev :=
  d.puts [(Reg.CVU_CTRL.POLY u, x), (Reg.CVU_CTRL.USE_SEED u, x / 4), (Reg.CVU_CTRL.DUAL u, x / 32)]

/-- Two of a unit's fields at different places of the list are different. -/
theorem cvuFlds_apart {u i j : Nat} (hu : u < 4) (hi : i < 17) (hj : j < 17) (h : i ≠ j) : ((cvuFlds u)[i]'hi).key ≠ ((cvuFlds u)[j]'hj).key := by
  have hn := cvuFlds_nodup u hu
  intro heq
  refine h ((List.Nodup.getElem_inj_iff hn (hi := by simpa [cvuFlds] using hi) (hj := by simpa [cvuFlds] using hj)).1 ?_)
  rw [List.getElem_map, List.getElem_map]
  exact heq

theorem Dev.cvuPut_sets (d : Dev) {u : Nat} (hu : u < 4) (x : Nat) : d.Sets (d.cvuPut u x) (ctrlSets u x) := by
  refine Dev.puts_sets_mod (l := [(Reg.CVU_CTRL.POLY u, x), (Reg.CVU_CTRL.USE_SEED u, x / 4), (Reg.CVU_CTRL.DUAL u, x / 32)]) ?_ d
  exact cvuFlds_part hu 0 3

/-- What the operations of a unit read is none of the fields of its control register. -/
theorem Dev.cvuPut_fld (d : Dev) {u i : Nat} (hu : u < 4) (x : Nat) (hi : i < 17) (h3 : 3 ≤ i) :
    (d.cvuPut u x).fld ((cvuFlds u)[i]'hi) = d.fld ((cvuFlds u)[i]'hi) := by
  refine (d.cvuPut_sets hu x).1.fld_eq ?_
  simp only [ctrlSets, List.map_cons, List.map_nil, List.mem_cons, List.not_mem_nil, or_false, not_or]
  exact ⟨cvuFlds_apart hu hi (j := 0) (by decide) (by omega), cvuFlds_apart hu hi (j := 1) (by decide) (by omega),
    cvuFlds_apart hu hi (j := 2) (by decide) (by omega)⟩

/-- The counts of an access that another master's work refuses (R425). -/
def foreignSets (d : Dev) (u : Nat) : List (Fld × Nat) :=
  [(Reg.CVU_CNT.COUNT u 1, min (2 ^ 32 - 1) (d.fld (Reg.CVU_CNT.COUNT u 1) + 1)), (Reg.CVU_EVT.FOREIGN u, 1)]

theorem Dev.cvuRefuse_sets (d : Dev) {u : Nat} (hu : u < 4) : d.Sets (d.cvuRefuse u) (foreignSets d u) := by
  have h := ((Dev.Sets.nil d).bump (Reg.CVU_CNT.COUNT u 1) (by simp)).put_of_lt (Reg.CVU_EVT.FOREIGN u) (v := 1) (show 1 < 2 ^ 1 by decide)
    (Fld.key_not_mem_cons (cvuFlds_apart hu (i := 11) (j := 13) (by decide) (by decide) (by decide)) (by simp))
  refine Dev.Sets.of_mem_iff (l := _) h fun x => ?_
  simp only [foreignSets, List.mem_cons, List.not_mem_nil, or_false]
  tauto

theorem Dev.cvuForeign_iff (d : Dev) (m : Master) (u : Nat) :
    d.cvuForeign m u = true ↔ d.fld (Reg.CVU_STAT.OWNED u) ≠ 0 ∧ d.fld (Reg.CVU_STAT.OWNER u) ≠ m.num := by
  simp only [Dev.cvuForeign, Dev.on, Bool.and_eq_true, bne_iff_ne]

theorem Dev.cvuPut_foreign (d : Dev) (m : Master) {u : Nat} (hu : u < 4) (x : Nat) : (d.cvuPut u x).cvuForeign m u = d.cvuForeign m u := by
  rw [Dev.cvuForeign, Dev.on, show (d.cvuPut u x).fld (Reg.CVU_STAT.OWNED u) = _ from d.cvuPut_fld hu x (i := 8) (by decide) (by decide),
    show (d.cvuPut u x).fld (Reg.CVU_STAT.OWNER u) = _ from d.cvuPut_fld hu x (i := 7) (by decide) (by decide)]
  rfl

/-- The commands of a write of CVU.CTRL, one at a time. -/
theorem Dev.cvuCtrl_eqs (d : Dev) (m : Master) (u x : Nat) :
    (bitOf x 3 = true → bitOf x 4 = false → bitOf x 6 = false → d.cvuCtrl m u x = (d.cvuPut u x).cvuStart m u) ∧
    (bitOf x 3 = false → bitOf x 4 = true → bitOf x 6 = false → d.cvuCtrl m u x = (d.cvuPut u x).cvuCheck m u) ∧
    (bitOf x 3 = false → bitOf x 4 = false → bitOf x 6 = true → d.cvuCtrl m u x = (d.cvuPut u x).cvuAbandon u) := by
  have heq : d.cvuCtrl m u x = Dev.iff (if (d.cvuPut u x).cvuForeign m u then (d.cvuPut u x).iff (bitOf x 3 || bitOf x 4) (·.cvuRefuse u)
    else ((d.cvuPut u x).iff (bitOf x 3) (·.cvuStart m u)).iff (bitOf x 4) (·.cvuCheck m u)) (bitOf x 6) (·.cvuAbandon u) := rfl
  generalize d.cvuPut u x = y at heq ⊢
  rw [heq]
  refine ⟨fun h3 h4 h6 => ?_, fun h3 h4 h6 => ?_, fun h3 h4 h6 => ?_⟩ <;>
    simp only [h3, h4, h6, Dev.iff, Dev.cvuStart, Dev.cvuCheck, Bool.or_false, Bool.or_true, Bool.false_eq_true, if_true, if_false]
  · split <;> rfl
  · split <;> rfl
  · split <;> rfl

/-- What a unit shows of its accumulator. -/
def accSets (u : Nat) (c : Crc) (acc : Nat) : List (Fld × Nat) :=
  [(Reg.CVU_ACC.VALUE u, acc % 2 ^ 32), (Reg.CVU_RESULT.VALUE u, c.finish acc % 2 ^ 32)]

/-- START of a unit that no other master owns (R423). -/
theorem Dev.cvuStart_sets (d : Dev) (m : Master) {u : Nat} (hu : u < 4) (hf : d.cvuForeign m u = false) :
    let p := d.fld (Reg.CVU_CTRL.POLY u)
    let acc := if d.fld (Reg.CVU_CTRL.USE_SEED u) ≠ 0 then d.fld (Reg.CVU_SEED.VALUE u) % 2 ^ (crcOf p).w else (crcOf p).init
    Dev.Sets { d with cvuPoly := Tbl.set d.cvuPoly u p } (d.cvuStart m u) (accSets u (crcOf p) acc ++
      [(Reg.CVU_COUNT.VALUE u, 0), (Reg.CVU_STAT.OUTCOME u, 0), (Reg.CVU_STAT.OWNER u, m.num), (Reg.CVU_STAT.OWNED u, 1)]) := by
  intro p acc
  have hcrc : Dev.cvuCrc { d with cvuPoly := Tbl.set d.cvuPoly u p } u = crcOf p := by
    rw [Dev.cvuCrc, Tbl.get_set_same]
  have heq : d.cvuStart m u = Dev.puts { d with cvuPoly := Tbl.set d.cvuPoly u p } [(Reg.CVU_ACC.VALUE u, acc),
      (Reg.CVU_RESULT.VALUE u, (Dev.cvuCrc { d with cvuPoly := Tbl.set d.cvuPoly u p } u).finish acc), (Reg.CVU_COUNT.VALUE u, 0),
      (Reg.CVU_STAT.OUTCOME u, 0), (Reg.CVU_STAT.OWNER u, m.num), (Reg.CVU_STAT.OWNED u, 1)] := by
    have hacc : acc = if d.on (Reg.CVU_CTRL.USE_SEED u) then d.fld (Reg.CVU_SEED.VALUE u) % 2 ^ (crcOf p).w else (crcOf p).init := by
      simp only [acc, Dev.on, bne_iff_ne]
    rw [Dev.cvuStart, if_neg (by rw [hf]; decide), hacc]
    rfl
  rw [heq, hcrc]
  have h := Dev.puts_sets_mod (l := [(Reg.CVU_ACC.VALUE u, acc), (Reg.CVU_RESULT.VALUE u, (crcOf p).finish acc), (Reg.CVU_COUNT.VALUE u, 0),
    (Reg.CVU_STAT.OUTCOME u, 0), (Reg.CVU_STAT.OWNER u, m.num), (Reg.CVU_STAT.OWNED u, 1)])
    (cvuFlds_part hu 3 6) { d with cvuPoly := Tbl.set d.cvuPoly u p }
  simp only [List.map_cons, List.map_nil] at h
  rw [show m.num % 2 ^ (Reg.CVU_STAT.OWNER u).w = m.num from Nat.mod_eq_of_lt m.num_lt] at h
  exact h

/-- Bytes enter a unit that no other master owns (R424). -/
theorem Dev.cvuData_sets (d : Dev) (m : Master) {u : Nat} (hu : u < 4) (n x : Nat) (hf : d.cvuForeign m u = false) :
    d.Sets (d.cvuData m u n x) (accSets u (d.cvuCrc u) ((d.cvuCrc u).acc (d.fld (Reg.CVU_ACC.VALUE u)) (leBytes x n)) ++
      [(Reg.CVU_COUNT.VALUE u, (d.fld (Reg.CVU_COUNT.VALUE u) + n) % 2 ^ 32)]) := by
  rw [Dev.cvuData, if_neg (by rw [hf]; decide)]
  exact Dev.puts_sets_mod (l := [(Reg.CVU_ACC.VALUE u, (d.cvuCrc u).acc (d.fld (Reg.CVU_ACC.VALUE u)) (leBytes x n)),
    (Reg.CVU_RESULT.VALUE u, (d.cvuCrc u).finish ((d.cvuCrc u).acc (d.fld (Reg.CVU_ACC.VALUE u)) (leBytes x n))),
    (Reg.CVU_COUNT.VALUE u, d.fld (Reg.CVU_COUNT.VALUE u) + n)])
    (cvuFlds_part hu 3 3) d

theorem Dev.cvuData_foreign (d : Dev) (m : Master) {u : Nat} (hu : u < 4) (n x : Nat) (hf : d.cvuForeign m u = true) :
    d.Sets (d.cvuData m u n x) (foreignSets d u) := by
  rw [Dev.cvuData, if_pos hf]
  exact d.cvuRefuse_sets hu

/-- The value expected in `f` is the result. -/
def Dev.cvuHit (d : Dev) (u : Nat) (f : Nat → Fld) : Prop := d.fld (f u) % 2 ^ (d.cvuCrc u).w = d.fld (Reg.CVU_RESULT.VALUE u)

/-- How a check ends (R426). -/
def Dev.cvuOutcome (d : Dev) (u : Nat) : Nat :=
  let a := d.fld (Reg.CVU_EXPECT_A.VALUE u) % 2 ^ (d.cvuCrc u).w == d.fld (Reg.CVU_RESULT.VALUE u)
  let b := d.fld (Reg.CVU_EXPECT_B.VALUE u) % 2 ^ (d.cvuCrc u).w == d.fld (Reg.CVU_RESULT.VALUE u)
  if !d.on (Reg.CVU_CTRL.DUAL u) then (if a then 1 else 4) else if a && b then 1 else if a then 2 else if b then 3 else 4

/-- What a check that ends with `o` sets. -/
def outcomeSets (d : Dev) (u o : Nat) : List (Fld × Nat) :=
  [(Reg.CVU_STAT.OUTCOME u, o), (Reg.CVU_STAT.OWNED u, 0)] ++
    if o = 2 ∨ o = 3 then [(Reg.CVU_EVT.COPY_BAD u, 1)] else if o = 4 then [(Reg.CVU_EVT.MISMATCH u, 1),
      (Reg.CVU_CNT.COUNT u 0, min (2 ^ 32 - 1) (d.fld (Reg.CVU_CNT.COUNT u 0) + 1))] else []

theorem Dev.cvuOutcome_eqs (d : Dev) (u : Nat) (dual : Prop) (hd : d.fld (Reg.CVU_CTRL.DUAL u) ≠ 0 ↔ dual) :
    (d.cvuHit u Reg.CVU_EXPECT_A.VALUE → (dual → d.cvuHit u Reg.CVU_EXPECT_B.VALUE) → d.cvuOutcome u = 1) ∧
    (d.cvuHit u Reg.CVU_EXPECT_A.VALUE → dual → ¬ d.cvuHit u Reg.CVU_EXPECT_B.VALUE → d.cvuOutcome u = 2) ∧
    (¬ d.cvuHit u Reg.CVU_EXPECT_A.VALUE → dual → d.cvuHit u Reg.CVU_EXPECT_B.VALUE → d.cvuOutcome u = 3) ∧
    (¬ d.cvuHit u Reg.CVU_EXPECT_A.VALUE → (dual → ¬ d.cvuHit u Reg.CVU_EXPECT_B.VALUE) → d.cvuOutcome u = 4) := by
  unfold Dev.cvuOutcome Dev.cvuHit
  dsimp only
  generalize hA : (d.fld (Reg.CVU_EXPECT_A.VALUE u) % 2 ^ (d.cvuCrc u).w == d.fld (Reg.CVU_RESULT.VALUE u)) = a
  generalize hB : (d.fld (Reg.CVU_EXPECT_B.VALUE u) % 2 ^ (d.cvuCrc u).w == d.fld (Reg.CVU_RESULT.VALUE u)) = b
  generalize hD : d.on (Reg.CVU_CTRL.DUAL u) = t
  have ha : d.fld (Reg.CVU_EXPECT_A.VALUE u) % 2 ^ (d.cvuCrc u).w = d.fld (Reg.CVU_RESULT.VALUE u) ↔ a = true := by rw [← hA, beq_iff_eq]
  have hb : d.fld (Reg.CVU_EXPECT_B.VALUE u) % 2 ^ (d.cvuCrc u).w = d.fld (Reg.CVU_RESULT.VALUE u) ↔ b = true := by rw [← hB, beq_iff_eq]
  have ht : dual ↔ t = true := by rw [← hD, Dev.on, bne_iff_ne, hd]
  rw [ha, hb, ht]
  clear hA hB hD ha hb ht
  revert a b t
  decide

theorem Dev.cvuOutcome_mem (d : Dev) (u : Nat) : 1 ≤ d.cvuOutcome u ∧ d.cvuOutcome u ≤ 4 := by
  unfold Dev.cvuOutcome
  dsimp only
  split_ifs <;> decide

theorem Dev.cvuCheck_sets (d : Dev) (m : Master) {u : Nat} (hu : u < 4) (hf : d.cvuForeign m u = false) :
    d.Sets (d.cvuCheck m u) (outcomeSets d u (d.cvuOutcome u)) := by
  obtain ⟨hlo, hhi⟩ := d.cvuOutcome_mem u
  have heq : d.cvuCheck m u = (((d.put (Reg.CVU_STAT.OUTCOME u) (d.cvuOutcome u)).put (Reg.CVU_STAT.OWNED u) 0).iff
      (d.cvuOutcome u == 2 || d.cvuOutcome u == 3) (·.ev (Reg.CVU_EVT.COPY_BAD u))).iff (d.cvuOutcome u == 4)
      (fun d => (d.ev (Reg.CVU_EVT.MISMATCH u)).bump (Reg.CVU_CNT.COUNT u 0)) := by
    rw [Dev.cvuCheck, if_neg (by rw [hf]; decide)]
    rfl
  have h0 : d.Sets ((d.put (Reg.CVU_STAT.OUTCOME u) (d.cvuOutcome u)).put (Reg.CVU_STAT.OWNED u) 0)
      [(Reg.CVU_STAT.OWNED u, 0), (Reg.CVU_STAT.OUTCOME u, d.cvuOutcome u)] :=
    ((Dev.Sets.nil d).put_of_lt _ (show d.cvuOutcome u < 2 ^ 3 by omega) (by simp)).put_of_lt _ (show 0 < 2 ^ 1 by decide)
      (Fld.key_not_mem_cons (cvuFlds_apart hu (i := 8) (j := 6) (by decide) (by decide) (by decide)) (by simp))
  rw [heq]
  generalize d.cvuOutcome u = o at h0 hlo hhi ⊢
  have hout {i : Nat} (hi : i < 17) (h6 : 6 ≠ i) (h8 : 8 ≠ i) :
      ((cvuFlds u)[i]'hi).key ∉ [(Reg.CVU_STAT.OWNED u, 0), (Reg.CVU_STAT.OUTCOME u, o)].map (fun e => e.1.key) :=
    Fld.key_not_mem_cons (cvuFlds_apart hu (j := 8) hi (by decide) h8.symm)
      (Fld.key_not_mem_cons (cvuFlds_apart hu (j := 6) hi (by decide) h6.symm) (by simp))
  have hcases : o = 1 ∨ (o = 2 ∨ o = 3) ∨ o = 4 := by omega
  rcases hcases with rfl | h | rfl
  · exact Dev.Sets.of_mem_iff h0 fun x => by simp [outcomeSets, or_comm]
  · have h1 := h0.put_of_lt (Reg.CVU_EVT.COPY_BAD u) (v := 1) (show 1 < 2 ^ 1 by decide) (hout (i := 10) (by decide) (by decide) (by decide))
    have hdev (y : Dev) : (y.iff (o == 2 || o == 3) (·.ev (Reg.CVU_EVT.COPY_BAD u))).iff (o == 4)
        (fun d => (d.ev (Reg.CVU_EVT.MISMATCH u)).bump (Reg.CVU_CNT.COUNT u 0)) = y.put (Reg.CVU_EVT.COPY_BAD u) 1 := by
      rcases h with rfl | rfl <;> rfl
    rw [hdev]
    refine h1.of_mem_iff fun x => ?_
    rw [outcomeSets, if_pos h]
    simp only [List.cons_append, List.nil_append, List.mem_cons, List.not_mem_nil, or_false]
    tauto
  · have h1 := (h0.put_of_lt (Reg.CVU_EVT.MISMATCH u) (v := 1) (show 1 < 2 ^ 1 by decide) (hout (i := 9) (by decide) (by decide) (by decide))).bump
      (Reg.CVU_CNT.COUNT u 0) (Fld.key_not_mem_cons (cvuFlds_apart hu (i := 12) (j := 9) (by decide) (by decide) (by decide))
        (hout (i := 12) (by decide) (by decide) (by decide)))
    refine Dev.Sets.of_mem_iff (l := _) h1 fun x => ?_
    rw [outcomeSets, if_neg (by decide), if_pos rfl]
    simp only [List.cons_append, List.nil_append, List.mem_cons, List.not_mem_nil, or_false]
    tauto

variable {d e : Dev}

/-! ### Plain reads -/

/-- A register whose read only answers its word: not wide, without RC fields, and not produced by the read. -/
def plainRead (a : Nat) : Bool :=
  (Reg.find a).map (fun r => r.fields.filter (fun f => f.acc == .rc)) == some [] && wideOf a == none && a % 4 == 0 &&
    a != Reg.TIM_NOW_FRAC.ADR && a != Reg.TRU_DBG_CHAL.ADR 0 && a != Reg.TRU_RNG_DATA.ADR && slotAt a (Reg.LN_FFE.ADR 0 0) 0x40000 4 == none

theorem Dev.access_plainRead {a : Nat} (ha : plainRead a = true) (m : Master) (hab : d.absent a = false) :
    d.access m a .read = d.emit (.busRead m a (BitVec.ofNat 32 (d.word m.num a))) := by
  simp only [plainRead, Bool.and_eq_true, beq_iff_eq, bne_iff_ne] at ha
  obtain ⟨⟨⟨⟨⟨⟨hrc, hwide⟩, h4⟩, hnow⟩, hchal⟩, hrng⟩, hffe⟩ := ha
  have hfind : (Reg.find a).isNone = false := by
    cases h : Reg.find a with
    | none => rw [h] at hrc; cases hrc
    | some r => rfl
  have hfirst : d.readFirst m a = d := by rw [Dev.readFirst_eq, if_neg hnow, if_neg hchal, hffe]; rfl
  have hthen : d.readThen m a = d := by
    simp only [Dev.readThen, hwide]
    exact Dev.readClear_none hrc
  have hview : d.view m.num a = d.word m.num a := by simp only [Dev.view, hwide]
  rw [Dev.access_read_of_aligned h4, Dev.busRead, hfind, hab, if_neg (by decide), if_neg (by decide), if_neg hrng]
  dsimp only
  rw [hfirst, hthen, hview]
  rfl

/-- The result registers of a unit, and its status. -/
def cvuResultAdr (u reg : Nat) : Nat :=
  ([Reg.CVU_ACC.ADR, Reg.CVU_RESULT.ADR, Reg.CVU_COUNT.ADR, Reg.CVU_STAT.ADR].getD reg Reg.CVU_ACC.ADR) u

theorem cvuResult_plain : ∀ u < 4, ∀ reg < 4, plainRead (cvuResultAdr u reg) = true ∧ 0x40000 ≤ cvuResultAdr u reg ∧ cvuResultAdr u reg < 0x41000 := by
  decide

theorem cvuResult_find : ∀ u < 4, ∀ reg < 3, ∃ g, Reg.find (cvuResultAdr u reg) = some g ∧ g.fields = [⟨0, 32, .ro, 0⟩] := by
  have h : ∀ u < 4, ∀ reg < 3, (Reg.find (cvuResultAdr u reg)).map (·.fields) = some [⟨0, 32, .ro, 0⟩] := by decide
  intro u hu reg hreg
  have h := h u hu reg hreg
  cases hg : Reg.find (cvuResultAdr u reg) with
  | none => rw [hg] at h; cases h
  | some g => rw [hg] at h; exact ⟨g, rfl, Option.some.inj h⟩

theorem Dev.cvuRead (hu16 : d.unit 16 = true) (m : Master) {u reg : Nat} (hu : u < 4) (hr : reg < 4) :
    d.access m (cvuResultAdr u reg) .read = d.emit (.busRead m (cvuResultAdr u reg) (BitVec.ofNat 32 (d.stored (cvuResultAdr u reg)))) := by
  obtain ⟨hplain, hlo, hhi⟩ := cvuResult_plain u hu reg hr
  generalize cvuResultAdr u reg = a at hplain hlo hhi ⊢
  have hab : d.absent a = false := by
    unfold Dev.absent
    rw [if_neg (by omega), if_neg (by omega), if_neg (by omega), if_neg (by omega), if_pos (by omega), hu16]
    rfl
  have hword : d.word m.num a = d.stored a := by
    unfold Dev.word
    dsimp only
    rw [if_neg (by omega), if_neg (by omega), if_neg (by omega), if_neg (by omega), if_pos (by omega)]
  rw [Dev.access_plainRead hplain m hab, hword]

/-- A result register holds one field of 32 bits. -/
theorem Dev.cvuStored (d : Dev) {u reg : Nat} (hu : u < 4) (hr : reg < 3) : d.stored (cvuResultAdr u reg) = d.fld ⟨cvuResultAdr u reg, 0, 32⟩ := by
  obtain ⟨g, hg, hf⟩ := cvuResult_find u hu reg hr
  simp only [Dev.stored, hg, hf, List.foldl_cons, List.foldl_nil]
  rw [if_neg (by decide), Nat.zero_add, Nat.pow_zero, Nat.mul_one]

/-! ### Clock outputs and the debug reset (R429, R430) -/

/-- A write of DBG.CKO. -/
def ckoSets (i x : Nat) : List (Fld × Nat) := [(Reg.DBG_CKO.SRC i, x % 16), (Reg.DBG_CKO.INST i, x / 16 % 4), (Reg.DBG_CKO.DIV i, x / 64 % 16)]

theorem ckoFlds_nodup : ∀ i < 2, [(Reg.DBG_CKO.SRC i).key, (Reg.DBG_CKO.INST i).key, (Reg.DBG_CKO.DIV i).key].Nodup ∧
    Reg.DBG_STAT.CKO_FAST.key ∉ [(Reg.DBG_CKO.SRC i).key, (Reg.DBG_CKO.INST i).key, (Reg.DBG_CKO.DIV i).key] := by decide

/-- The rate of a clock source depends on no register of the outputs. -/
theorem Dev.ckoKhz_congr {l : List (Fld × Nat)} (h : d.Sets e l)
    (hl : ∀ k ∈ l.map (·.1.key), 32 * 0x50000 ≤ k ∧ k < 32 * 0x60000) (src inst : Nat) : e.ckoKhz src inst = d.ckoKhz src inst := by
  have hchip : e.chip = d.chip := (congrArg Dev.chip h.2 :)
  have hfld {f : Fld} (hf : f.key < 32 * 0x50000 ∨ 32 * 0x60000 ≤ f.key) : e.fld f = d.fld f :=
    h.1.fld_eq fun hm => by
      have := hl _ hm
      omega
  have hpwr : e.fld Reg.PWR_STAT.THROTTLE = d.fld Reg.PWR_STAT.THROTTLE := hfld (by decide)
  have hstate : e.fld Reg.DMC_STAT.STATE = d.fld Reg.DMC_STAT.STATE := hfld (by decide)
  have hrate : e.fld Reg.DMC_CTRL.RATE = d.fld Reg.DMC_CTRL.RATE := hfld (by decide)
  have hrtc : e.fld Reg.PWR_RTC_SUB.XT_OK = d.fld Reg.PWR_RTC_SUB.XT_OK := hfld (by decide)
  have hclk : e.fld (Reg.RP_PHY_STAT.CLK_OK inst) = d.fld (Reg.RP_PHY_STAT.CLK_OK inst) :=
    hfld (by simp only [Fld.key, Reg.RP_PHY_STAT.CLK_OK]; omega)
  have hphy : e.fld (Reg.RP_PHY_STAT.RATE inst) = d.fld (Reg.RP_PHY_STAT.RATE inst) :=
    hfld (by simp only [Fld.key, Reg.RP_PHY_STAT.RATE]; omega)
  simp only [Dev.ckoKhz, Dev.lnHere, Dev.cpxHere, Dev.tenderHere, Dev.rpHere, Dev.pcieHere, Dev.unit, Dev.on, hchip, hpwr, hstate, hrate, hrtc, hclk, hphy]
  rfl

/-- An output after a write of its register: what it shows, and what its pin carries. -/
theorem Dev.ckoWrite_spec (d : Dev) {i : Nat} (hi : i < 2) (x : Nat) :
    let khz := d.ckoKhz (x % 16) (x / 16 % 4)
    let fast := bitOf d.dbgPerm 0 = true ∧ 400000 * 2 ^ (x / 64 % 16) < khz
    Dev.Sets { d with cko := Tbl.set d.cko i (if fast then 1 else 0) } (d.ckoWrite i x)
      (ckoSets i x ++ if fast then [(Reg.DBG_STAT.CKO_FAST, 1)] else []) ∧
    (d.ckoWrite i x).ckoDrive i = if bitOf d.dbgPerm 0 = true ∧ ¬ fast ∧ khz ≠ 0 then some (khz, 2 ^ (x / 64 % 16)) else none := by
  intro khz fast
  obtain ⟨hn, hfk⟩ := ckoFlds_nodup i hi
  obtain ⟨y, hy⟩ : ∃ y, y = d.puts [(Reg.DBG_CKO.SRC i, x), (Reg.DBG_CKO.INST i, x / 16), (Reg.DBG_CKO.DIV i, x / 64)] := ⟨_, rfl⟩
  have hys : d.Sets y (ckoSets i x) := hy ▸ Dev.puts_sets_mod (l := [(Reg.DBG_CKO.SRC i, x), (Reg.DBG_CKO.INST i, x / 16), (Reg.DBG_CKO.DIV i, x / 64)]) hn d
  have hrange : ∀ k ∈ (ckoSets i x).map (·.1.key), 32 * 0x50000 ≤ k ∧ k < 32 * 0x60000 := by
    simp only [ckoSets, List.map_cons, List.map_nil, List.forall_mem_cons, List.not_mem_nil, false_imp_iff, implies_true, and_true, Fld.key,
      Reg.DBG_CKO.SRC, Reg.DBG_CKO.INST, Reg.DBG_CKO.DIV]
    omega
  have hsrc : y.fld (Reg.DBG_CKO.SRC i) = x % 16 := hys.1.1 (Reg.DBG_CKO.SRC i, x % 16) (by simp [ckoSets])
  have hinst : y.fld (Reg.DBG_CKO.INST i) = x / 16 % 4 := hys.1.1 (Reg.DBG_CKO.INST i, x / 16 % 4) (by simp [ckoSets])
  have hdiv : y.fld (Reg.DBG_CKO.DIV i) = x / 64 % 16 := hys.1.1 (Reg.DBG_CKO.DIV i, x / 64 % 16) (by simp [ckoSets])
  have hperm : y.dbgPerm = d.dbgPerm := by rw [Dev.dbgPerm, show y.tru = d.tru from (congrArg Dev.tru hys.2 :)]; rfl
  have hrate : y.ckoRate i = khz := by rw [Dev.ckoRate, hsrc, hinst]; exact Dev.ckoKhz_congr hys hrange _ _
  have hfast : y.ckoFast i = true ↔ fast := by
    rw [Dev.ckoFast, hrate, hdiv, hperm, Bool.and_eq_true, decide_eq_true_eq]
  have hcko : y.cko = d.cko := (congrArg Dev.cko hys.2 :)
  have heq : d.ckoWrite i x = y.ckoEval i := by rw [hy]; rfl
  have hbase (c : Tbl Nat) : Dev.Sets { d with cko := c } { y with cko := c } (ckoSets i x) :=
    ⟨hys.1, (congrArg (fun z : Dev => { z with cko := c }) hys.2 :)⟩
  have hdrive (z : Dev) (hzr : z.ckoRate i = khz) (hzf : z.ckoFast i = y.ckoFast i) (hzp : z.dbgPerm = d.dbgPerm)
      (hzd : z.fld (Reg.DBG_CKO.DIV i) = x / 64 % 16) :
      z.ckoDrive i = if bitOf d.dbgPerm 0 = true ∧ ¬ fast ∧ khz ≠ 0 then some (khz, 2 ^ (x / 64 % 16)) else none := by
    rw [Dev.ckoDrive, hzr, hzf, hzp, hzd]
    have hcond : (!bitOf d.dbgPerm 0 || y.ckoFast i || khz == 0) = true ↔ ¬ (bitOf d.dbgPerm 0 = true ∧ ¬ fast ∧ khz ≠ 0) := by
      rw [← hfast]
      simp only [Bool.or_eq_true, Bool.not_eq_true', beq_iff_eq, ne_eq, not_and, not_not, Bool.not_eq_true]
      cases bitOf d.dbgPerm 0 <;> cases y.ckoFast i <;> simp
    by_cases hd : bitOf d.dbgPerm 0 = true ∧ ¬ fast ∧ khz ≠ 0
    · rw [if_neg fun h => hcond.1 h hd, if_pos hd]
    · rw [if_pos (hcond.2 hd), if_neg hd]
  rw [heq]
  by_cases hf : fast
  · have hyf := hfast.2 hf
    have hz : y.ckoEval i = Dev.put { y with cko := Tbl.set d.cko i 1 } Reg.DBG_STAT.CKO_FAST 1 := by
      rw [Dev.ckoEval, hyf, hcko]
      rfl
    have hzs : d.Sets (y.put Reg.DBG_STAT.CKO_FAST 1) ((Reg.DBG_STAT.CKO_FAST, 1) :: ckoSets i x) :=
      hys.put_of_lt _ (show 1 < 2 ^ 1 by decide) hfk
    have hcfast : (Reg.DBG_CKO.DIV i).key ≠ Reg.DBG_STAT.CKO_FAST.key := fun h => hfk (h ▸ by simp)
    have hrange' : ∀ k ∈ ((Reg.DBG_STAT.CKO_FAST, 1) :: ckoSets i x).map (·.1.key), 32 * 0x50000 ≤ k ∧ k < 32 * 0x60000 :=
      List.forall_mem_cons.2 ⟨by decide, hrange⟩
    have hval {v : Nat} {f : Fld} (h : (f, v) ∈ ckoSets i x) : (y.put Reg.DBG_STAT.CKO_FAST 1).fld f = v := hzs.1.1 (f, v) (List.mem_cons_of_mem _ h)
    have hzrate : (y.put Reg.DBG_STAT.CKO_FAST 1).ckoRate i = khz := by
      rw [Dev.ckoRate, hval (v := x % 16) (by simp [ckoSets]), hval (v := x / 16 % 4) (by simp [ckoSets])]
      exact Dev.ckoKhz_congr hzs hrange' _ _
    have hzdiv : (y.put Reg.DBG_STAT.CKO_FAST 1).fld (Reg.DBG_CKO.DIV i) = x / 64 % 16 := hval (by simp [ckoSets])
    rw [if_pos hf, if_pos hf, hz]
    refine ⟨((hbase _).put_of_lt Reg.DBG_STAT.CKO_FAST (v := 1) (show 1 < 2 ^ 1 by decide) hfk).of_mem_iff fun e => ?_, hdrive _ hzrate ?_ hperm hzdiv⟩
    · simp only [List.mem_append, List.mem_cons, List.not_mem_nil, or_false]
      tauto
    · show Dev.ckoFast (y.put Reg.DBG_STAT.CKO_FAST 1) i = _
      rw [Dev.ckoFast, Dev.ckoFast, hzrate, hrate, hzdiv, hdiv]
      rfl
  · have hyf : y.ckoFast i = false := Bool.eq_false_iff.2 fun h => hf (hfast.1 h)
    have hz : y.ckoEval i = { y with cko := Tbl.set d.cko i 0 } := by
      rw [Dev.ckoEval, hyf, hcko]
      rfl
    rw [if_neg hf, if_neg hf, hz, List.append_nil]
    exact ⟨hbase _, hdrive _ hrate rfl hperm hdiv⟩

theorem Dev.dbgCtrl_key (d : Dev) (key : BitVec 16) : d.dbgCtrl (key ++ 1#16).toNat =
    if key = 0xD5E7#16 ∧ bitOf d.dbgPerm 4 = true then d.warmReset Reg.CHIPCAP_RST_CAUSE.DEBUG else d.ev Reg.DBG_STAT.DENIED := by
  have hv : (key ++ 1#16).toNat = key.toNat * 2 ^ 16 + 1 := by
    rw [BitVec.toNat_append, Nat.shiftLeft_eq, Nat.mul_comm, ← Nat.two_pow_add_eq_or_of_lt (by decide)]
    rfl
  have hk := key.isLt
  have hgo : bitOf (key ++ 1#16).toNat 0 = true := by
    rw [hv, bitOf, beq_iff_eq]
    omega
  have hkey : bits (key ++ 1#16).toNat 16 16 = key.toNat := by
    rw [hv, bits]
    omega
  have hiff : key.toNat = 0xD5E7 ↔ key = 0xD5E7#16 := by
    rw [← BitVec.toNat_inj]
    rfl
  rw [Dev.dbgCtrl, if_pos hgo, hkey]
  simp only [hiff]

variable {d e : Dev}

/-! ### The I²C and MDIO controllers (R450, R451) -/

/-- The fields of an I²C controller. -/
def i2cFlds (b : Nat) : List Fld :=
  [Reg.CHIPCAP_I2C_CMD.DEV b, Reg.CHIPCAP_I2C_CMD.RD b, Reg.CHIPCAP_I2C_CMD.NOREG b, Reg.CHIPCAP_I2C_CMD.FAST b, Reg.CHIPCAP_I2C_CMD.REG b,
    Reg.CHIPCAP_I2C_CMD.WDATA b, Reg.CHIPCAP_I2C_STAT.BUSY b, Reg.CHIPCAP_I2C_STAT.STATUS b, Reg.CHIPCAP_I2C_STAT.RDATA b]

theorem i2cFlds_nodup : ∀ b < 4, ((i2cFlds b).map Fld.key).Nodup := by decide

/-- The fields of an MDIO controller. -/
def mdioFlds (k : Nat) : List Fld :=
  [Reg.CHIPCAP_MDIO_CMD.PRTAD k, Reg.CHIPCAP_MDIO_CMD.DEVAD k, Reg.CHIPCAP_MDIO_CMD.C45 k, Reg.CHIPCAP_MDIO_CMD.OP k, Reg.CHIPCAP_MDIO_CMD.SPEED k,
    Reg.CHIPCAP_MDIO_CMD.DATA k, Reg.CHIPCAP_MDIO_STAT.BUSY k]

theorem mdioFlds_nodup : ∀ k < 2, ((mdioFlds k).map Fld.key).Nodup := by decide

/-- What a transaction sends after the bus recovery (R450). -/
def i2cSends (x : Nat) : List I2cSym :=
  let addr := 2 * (x % 128)
  let regs := if bitOf x 8 = true then [] else [I2cSym.byte (x / 2 ^ 16 % 256)]
  if bitOf x 7 = true then
    (if bitOf x 8 = true then [] else [I2cSym.start, .byte addr] ++ regs) ++ [.start, .byte (addr + 1), .read, .stop]
  else [I2cSym.start, .byte addr] ++ regs ++ [.byte (x / 2 ^ 24), .stop]

/-- The frame of MDIO (R451). -/
def mdioSends (x : Nat) : List Bool :=
  List.replicate 32 true ++ msbFirst 2 (if bitOf x 10 = true then 0 else 1) ++
    msbFirst 2 (if bitOf x 10 = false ∧ (bits x 11 2 = 0 ∨ bits x 11 2 = 3) then 2 else bits x 11 2) ++
    msbFirst 5 (x % 32) ++ msbFirst 5 (bits x 5 5) ++
    if (if bitOf x 10 = true then 2 ≤ bits x 11 2 else bits x 11 2 ≠ 1) then [] else [true, false] ++ msbFirst 16 (x / 2 ^ 16)

theorem on_of_bit {f : Fld} {x i : Nat} (h : d.fld f = x / 2 ^ i % 2) : d.on f = bitOf x i := by
  rw [Dev.on, h, bitOf]
  rcases Nat.mod_two_eq_zero_or_one (x / 2 ^ i) with h | h <;> rw [h] <;> rfl

theorem Dev.i2cPlan_eq {b x : Nat} (hdev : d.fld (Reg.CHIPCAP_I2C_CMD.DEV b) = x % 128) (hrd : d.fld (Reg.CHIPCAP_I2C_CMD.RD b) = x / 2 ^ 7 % 2)
    (hno : d.fld (Reg.CHIPCAP_I2C_CMD.NOREG b) = x / 2 ^ 8 % 2) (hreg : d.fld (Reg.CHIPCAP_I2C_CMD.REG b) = x / 2 ^ 16 % 256)
    (hw : d.fld (Reg.CHIPCAP_I2C_CMD.WDATA b) = x / 2 ^ 24) : d.i2cPlan b = .recover :: i2cSends x := by
  unfold Dev.i2cPlan i2cSends
  rw [hdev, hreg, hw, on_of_bit hrd, on_of_bit hno]
  cases bitOf x 7 <;> cases bitOf x 8 <;> rfl

/-- What a write of I2C_CMD sets. -/
def i2cSets (b x : Nat) : List (Fld × Nat) :=
  [(Reg.CHIPCAP_I2C_CMD.DEV b, x % 128), (Reg.CHIPCAP_I2C_CMD.RD b, x / 2 ^ 7 % 2), (Reg.CHIPCAP_I2C_CMD.NOREG b, x / 2 ^ 8 % 2),
    (Reg.CHIPCAP_I2C_CMD.FAST b, x / 2 ^ 9 % 2), (Reg.CHIPCAP_I2C_CMD.REG b, x / 2 ^ 16 % 256), (Reg.CHIPCAP_I2C_CMD.WDATA b, x / 2 ^ 24)]

/-- The command register of an I²C controller takes a word. -/
def Dev.i2cPut (d : Dev) (b x : Nat) : Dev :=
  d.puts [(Reg.CHIPCAP_I2C_CMD.DEV b, x), (Reg.CHIPCAP_I2C_CMD.RD b, x / 2 ^ 7), (Reg.CHIPCAP_I2C_CMD.NOREG b, x / 2 ^ 8),
    (Reg.CHIPCAP_I2C_CMD.FAST b, x / 2 ^ 9), (Reg.CHIPCAP_I2C_CMD.REG b, x / 2 ^ 16), (Reg.CHIPCAP_I2C_CMD.WDATA b, x / 2 ^ 24)]

theorem Dev.i2cPut_sets (d : Dev) {b x : Nat} (hb : b < 4) (hx : x < 2 ^ 32) : d.Sets (d.i2cPut b x) (i2cSets b x) := by
  have hw : x / 2 ^ 24 % 2 ^ 8 = x / 2 ^ 24 := Nat.mod_eq_of_lt (by omega)
  have h := Dev.puts_sets_mod (l := [(Reg.CHIPCAP_I2C_CMD.DEV b, x), (Reg.CHIPCAP_I2C_CMD.RD b, x / 2 ^ 7), (Reg.CHIPCAP_I2C_CMD.NOREG b, x / 2 ^ 8),
    (Reg.CHIPCAP_I2C_CMD.FAST b, x / 2 ^ 9), (Reg.CHIPCAP_I2C_CMD.REG b, x / 2 ^ 16), (Reg.CHIPCAP_I2C_CMD.WDATA b, x / 2 ^ 24)])
    ((i2cFlds_nodup b hb).sublist ((List.take_sublist 6 (i2cFlds b)).map _)) d
  simp only [List.map_cons, List.map_nil] at h
  rw [show x / 2 ^ 24 % 2 ^ (Reg.CHIPCAP_I2C_CMD.WDATA b).w = x / 2 ^ 24 from hw] at h
  exact h

/-- An emission after what was set. -/
theorem Dev.Sets.emitted {l : List (Fld × Nat)} (h : d.Sets e l) (x : Emit) : Dev.Sets { d with out := x :: d.out } (e.emit x) l := by
  have hout : e.out = d.out := (congrArg Dev.out h.2 :)
  have heq : e.emit x = { e with out := x :: d.out } := by rw [← hout]; rfl
  rw [heq]
  exact ⟨h.1, (congrArg (fun y : Dev => { y with out := x :: d.out }) h.2 :)⟩

theorem i2cBusy_apart : ∀ b < 4, (Reg.CHIPCAP_I2C_STAT.BUSY b).key ∉ ((i2cFlds b).take 6).map Fld.key := by decide

theorem mdioBusy_apart : ∀ k < 2, (Reg.CHIPCAP_MDIO_STAT.BUSY k).key ∉ ((mdioFlds k).take 6).map Fld.key := by decide

theorem Dev.i2cCmd_busy (b x : Nat) (h : d.fld (Reg.CHIPCAP_I2C_STAT.BUSY b) ≠ 0) : d.i2cCmd b x = d := if_pos (bne_iff_ne.2 h)

/-- GO starts a transaction of a controller that is not busy. -/
theorem Dev.i2cCmd_go (d : Dev) {b x : Nat} (hb : b < 4) (hx : x < 2 ^ 32) (hgo : bitOf x 10 = true) (hidle : d.fld (Reg.CHIPCAP_I2C_STAT.BUSY b) = 0) :
    Dev.Sets { d with out := .i2c b (bitOf x 9) (.recover :: i2cSends x) :: d.out } (d.i2cCmd b x)
      ((Reg.CHIPCAP_I2C_STAT.BUSY b, 1) :: i2cSets b x) := by
  obtain ⟨y, hy⟩ : ∃ y, y = d.i2cPut b x := ⟨_, rfl⟩
  have hys : d.Sets y (i2cSets b x) := hy ▸ d.i2cPut_sets hb hx
  have hval {v : Nat} {f : Fld} (h : (f, v) ∈ i2cSets b x) : y.fld f = v := hys.1.1 (f, v) h
  have hplan : y.i2cPlan b = .recover :: i2cSends x :=
    Dev.i2cPlan_eq (hval (by simp [i2cSets])) (hval (by simp [i2cSets])) (hval (by simp [i2cSets])) (hval (by simp [i2cSets])) (hval (by simp [i2cSets]))
  have hfast : y.on (Reg.CHIPCAP_I2C_CMD.FAST b) = bitOf x 9 := on_of_bit (hval (by simp [i2cSets]))
  have heq : d.i2cCmd b x = (y.put (Reg.CHIPCAP_I2C_STAT.BUSY b) 1).emit (.i2c b (bitOf x 9) (.recover :: i2cSends x)) := by
    rw [← hplan, ← hfast, hy, Dev.i2cCmd, if_neg (by rw [Dev.on, hidle]; decide), hgo]
    rfl
  rw [heq]
  exact (hys.put_of_lt _ (show 1 < 2 ^ 1 by decide) (i2cBusy_apart b hb)).emitted _

theorem Dev.i2cCan_iff (d : Dev) (b status : Nat) : d.i2cCan b status = true ↔ d.fld (Reg.CHIPCAP_I2C_STAT.BUSY b) ≠ 0 ∧
    ¬ (status = 2 ∧ d.fld (Reg.CHIPCAP_I2C_CMD.RD b) ≠ 0 ∧ d.fld (Reg.CHIPCAP_I2C_CMD.NOREG b) ≠ 0) := by
  simp only [Dev.i2cCan, Dev.on, Bool.and_eq_true, bne_iff_ne, Bool.not_eq_true', Bool.and_eq_false_iff, beq_eq_false_iff_ne, bne_eq_false_iff_eq]
  tauto

theorem i2cStat_apart : ∀ b < 4, (Reg.CHIPCAP_I2C_STAT.STATUS b).key ≠ (Reg.CHIPCAP_I2C_STAT.BUSY b).key ∧
    (Reg.CHIPCAP_I2C_STAT.RDATA b).key ≠ (Reg.CHIPCAP_I2C_STAT.BUSY b).key ∧ (Reg.CHIPCAP_I2C_STAT.RDATA b).key ≠ (Reg.CHIPCAP_I2C_STAT.STATUS b).key := by
  decide

/-- A transaction ends with a status that it can end with. -/
theorem Dev.i2cDone_sets (d : Dev) {b status rdata : Nat} (hb : b < 4) (hst : status < 4) (hr : rdata < 2 ^ 8) (hcan : d.i2cCan b status = true) :
    Dev.Sets { d with out := if status = 0 then d.out else .i2cStop b :: d.out } (d.i2cDone b status rdata)
      ([(Reg.CHIPCAP_I2C_STAT.BUSY b, 0), (Reg.CHIPCAP_I2C_STAT.STATUS b, status)] ++
        if d.fld (Reg.CHIPCAP_I2C_CMD.RD b) ≠ 0 ∧ status = 0 then [(Reg.CHIPCAP_I2C_STAT.RDATA b, rdata)] else []) := by
  obtain ⟨hsb, hrb, hrs⟩ := i2cStat_apart b hb
  have h0 : d.Sets ((d.put (Reg.CHIPCAP_I2C_STAT.BUSY b) 0).put (Reg.CHIPCAP_I2C_STAT.STATUS b) status)
      [(Reg.CHIPCAP_I2C_STAT.STATUS b, status), (Reg.CHIPCAP_I2C_STAT.BUSY b, 0)] :=
    ((Dev.Sets.nil d).put_of_lt _ (show 0 < 2 ^ 1 by decide) (by simp)).put_of_lt _ hst (Fld.key_not_mem_cons hsb (by simp))
  obtain ⟨y, hy⟩ : ∃ y, y = (d.put (Reg.CHIPCAP_I2C_STAT.BUSY b) 0).put (Reg.CHIPCAP_I2C_STAT.STATUS b) status := ⟨_, rfl⟩
  rw [← hy] at h0
  have heq : d.i2cDone b status rdata = (y.iff (status != 0) (·.emit (.i2cStop b))).iff (d.on (Reg.CHIPCAP_I2C_CMD.RD b) && status == 0)
      (·.put (Reg.CHIPCAP_I2C_STAT.RDATA b) rdata) := by
    rw [Dev.i2cDone, if_pos hcan, hy]
  rw [heq]
  by_cases hz : status = 0
  · subst hz
    rw [if_pos rfl]
    by_cases hrd : d.fld (Reg.CHIPCAP_I2C_CMD.RD b) ≠ 0
    · rw [if_pos ⟨hrd, rfl⟩, show d.on (Reg.CHIPCAP_I2C_CMD.RD b) = true from bne_iff_ne.2 hrd]
      refine (h0.put_of_lt (Reg.CHIPCAP_I2C_STAT.RDATA b) hr (Fld.key_not_mem_cons hrs (Fld.key_not_mem_cons hrb (by simp)))).of_mem_iff fun x => ?_
      simp only [List.cons_append, List.nil_append, List.mem_cons, List.not_mem_nil, or_false]
      tauto
    · rw [if_neg fun h => hrd h.1, show d.on (Reg.CHIPCAP_I2C_CMD.RD b) = false from by simpa only [Dev.on, bne_eq_false_iff_eq, ne_eq, not_not] using hrd]
      exact h0.of_mem_iff fun x => by simp [or_comm]
  · have hne : (status != 0) = true := bne_iff_ne.2 hz
    have hno : (d.on (Reg.CHIPCAP_I2C_CMD.RD b) && status == 0) = false := by simp [hz]
    rw [if_neg hz, if_neg fun h => hz h.2, hne, hno]
    exact (h0.emitted _).of_mem_iff fun x => by simp [or_comm]

/-- What a write of MDIO_CMD sets. -/
def mdioSets (k x : Nat) : List (Fld × Nat) :=
  [(Reg.CHIPCAP_MDIO_CMD.PRTAD k, x % 32), (Reg.CHIPCAP_MDIO_CMD.DEVAD k, x / 2 ^ 5 % 32), (Reg.CHIPCAP_MDIO_CMD.C45 k, x / 2 ^ 10 % 2),
    (Reg.CHIPCAP_MDIO_CMD.OP k, x / 2 ^ 11 % 4), (Reg.CHIPCAP_MDIO_CMD.SPEED k, x / 2 ^ 13 % 4), (Reg.CHIPCAP_MDIO_CMD.DATA k, x / 2 ^ 16)]

/-- The command register of an MDIO controller takes a word. -/
def Dev.mdioPut (d : Dev) (k x : Nat) : Dev :=
  d.puts [(Reg.CHIPCAP_MDIO_CMD.PRTAD k, x), (Reg.CHIPCAP_MDIO_CMD.DEVAD k, x / 2 ^ 5), (Reg.CHIPCAP_MDIO_CMD.C45 k, x / 2 ^ 10),
    (Reg.CHIPCAP_MDIO_CMD.OP k, x / 2 ^ 11), (Reg.CHIPCAP_MDIO_CMD.SPEED k, x / 2 ^ 13), (Reg.CHIPCAP_MDIO_CMD.DATA k, x / 2 ^ 16)]

theorem Dev.mdioPut_sets (d : Dev) {k x : Nat} (hk : k < 2) (hx : x < 2 ^ 32) : d.Sets (d.mdioPut k x) (mdioSets k x) := by
  have hw : x / 2 ^ 16 % 2 ^ 16 = x / 2 ^ 16 := Nat.mod_eq_of_lt (by omega)
  have h := Dev.puts_sets_mod (l := [(Reg.CHIPCAP_MDIO_CMD.PRTAD k, x), (Reg.CHIPCAP_MDIO_CMD.DEVAD k, x / 2 ^ 5), (Reg.CHIPCAP_MDIO_CMD.C45 k, x / 2 ^ 10),
    (Reg.CHIPCAP_MDIO_CMD.OP k, x / 2 ^ 11), (Reg.CHIPCAP_MDIO_CMD.SPEED k, x / 2 ^ 13), (Reg.CHIPCAP_MDIO_CMD.DATA k, x / 2 ^ 16)])
    ((mdioFlds_nodup k hk).sublist ((List.take_sublist 6 (mdioFlds k)).map _)) d
  simp only [List.map_cons, List.map_nil] at h
  rw [show x / 2 ^ 16 % 2 ^ (Reg.CHIPCAP_MDIO_CMD.DATA k).w = x / 2 ^ 16 from hw] at h
  exact h

theorem Dev.mdioReads_iff (d : Dev) (k : Nat) : d.mdioReads k = true ↔
    if d.fld (Reg.CHIPCAP_MDIO_CMD.C45 k) ≠ 0 then 2 ≤ d.fld (Reg.CHIPCAP_MDIO_CMD.OP k) else d.fld (Reg.CHIPCAP_MDIO_CMD.OP k) ≠ 1 := by
  unfold Dev.mdioReads Dev.on
  by_cases h : d.fld (Reg.CHIPCAP_MDIO_CMD.C45 k) ≠ 0
  · rw [if_pos h, if_pos (bne_iff_ne.2 h), decide_eq_true_eq]
  · rw [if_neg h, if_neg fun h' => h (bne_iff_ne.1 h'), bne_iff_ne]

theorem Dev.mdioFrame_eq {k x : Nat} (hp : d.fld (Reg.CHIPCAP_MDIO_CMD.PRTAD k) = x % 32) (hd : d.fld (Reg.CHIPCAP_MDIO_CMD.DEVAD k) = x / 2 ^ 5 % 32)
    (hc : d.fld (Reg.CHIPCAP_MDIO_CMD.C45 k) = x / 2 ^ 10 % 2) (ho : d.fld (Reg.CHIPCAP_MDIO_CMD.OP k) = x / 2 ^ 11 % 4)
    (hw : d.fld (Reg.CHIPCAP_MDIO_CMD.DATA k) = x / 2 ^ 16) : d.mdioFrame k = mdioSends x := by
  have hreads : d.mdioReads k = if bitOf x 10 then decide (2 ≤ bits x 11 2) else bits x 11 2 != 1 := by
    rw [Dev.mdioReads, on_of_bit hc, ho]
    rfl
  unfold Dev.mdioFrame mdioSends
  rw [hreads, hp, hd, ho, hw, on_of_bit hc, show x / 2 ^ 11 % 4 = bits x 11 2 from rfl, show x / 2 ^ 5 % 32 = bits x 5 5 from rfl,
    show msbFirst 2 2 = [true, false] from by decide]
  generalize bits x 11 2 = op
  cases bitOf x 10 <;> simp

theorem Dev.mdioCmd_busy (k x : Nat) (h : d.fld (Reg.CHIPCAP_MDIO_STAT.BUSY k) ≠ 0) : d.mdioCmd k x = d := if_pos (bne_iff_ne.2 h)

/-- GO sends a frame of a controller that is not busy. -/
theorem Dev.mdioCmd_go (d : Dev) {k x : Nat} (hk : k < 2) (hx : x < 2 ^ 32) (hgo : bitOf x 15 = true) (hidle : d.fld (Reg.CHIPCAP_MDIO_STAT.BUSY k) = 0) :
    Dev.Sets { d with out := .mdio k (mdioSends x) :: d.out } (d.mdioCmd k x) ((Reg.CHIPCAP_MDIO_STAT.BUSY k, 1) :: mdioSets k x) := by
  obtain ⟨y, hy⟩ : ∃ y, y = d.mdioPut k x := ⟨_, rfl⟩
  have hys : d.Sets y (mdioSets k x) := hy ▸ d.mdioPut_sets hk hx
  have hval {v : Nat} {f : Fld} (h : (f, v) ∈ mdioSets k x) : y.fld f = v := hys.1.1 (f, v) h
  have hframe : y.mdioFrame k = mdioSends x := Dev.mdioFrame_eq (hval (by simp [mdioSets])) (hval (by simp [mdioSets])) (hval (by simp [mdioSets]))
    (hval (by simp [mdioSets])) (hval (by simp [mdioSets]))
  have heq : d.mdioCmd k x = (y.put (Reg.CHIPCAP_MDIO_STAT.BUSY k) 1).emit (.mdio k (mdioSends x)) := by
    rw [← hframe, hy, Dev.mdioCmd, if_neg (by rw [Dev.on, hidle]; decide), hgo]
    rfl
  rw [heq]
  exact (hys.put_of_lt _ (show 1 < 2 ^ 1 by decide) (mdioBusy_apart k hk)).emitted _

theorem Dev.mdioDone_idle (k v : Nat) (h : d.fld (Reg.CHIPCAP_MDIO_STAT.BUSY k) = 0) : d.mdioDone k v = d :=
  if_neg (by rw [Dev.on, h]; decide)

theorem Dev.mdioDone_sets (d : Dev) {k v : Nat} (hk : k < 2) (hv : v < 2 ^ 16) (h : d.fld (Reg.CHIPCAP_MDIO_STAT.BUSY k) ≠ 0) :
    d.Sets (d.mdioDone k v) ((Reg.CHIPCAP_MDIO_STAT.BUSY k, 0) :: if d.mdioReads k = true then [(Reg.CHIPCAP_MDIO_CMD.DATA k, v)] else []) := by
  have hne : (Reg.CHIPCAP_MDIO_CMD.DATA k).key ≠ (Reg.CHIPCAP_MDIO_STAT.BUSY k).key := fun h =>
    mdioBusy_apart k hk (h ▸ List.mem_map_of_mem (show Reg.CHIPCAP_MDIO_CMD.DATA k ∈ (mdioFlds k).take 6 by simp [mdioFlds]))
  have h0 : d.Sets (d.put (Reg.CHIPCAP_MDIO_STAT.BUSY k) 0) [(Reg.CHIPCAP_MDIO_STAT.BUSY k, 0)] :=
    (Dev.Sets.nil d).put_of_lt _ (show 0 < 2 ^ 1 by decide) (by simp)
  rw [Dev.mdioDone, if_pos (show d.on (Reg.CHIPCAP_MDIO_STAT.BUSY k) = true from bne_iff_ne.2 h)]
  cases d.mdioReads k with
  | false => exact h0
  | true => exact (h0.put_of_lt _ hv (Fld.key_not_mem_cons hne (by simp))).of_mem_iff fun x => by simp [or_comm]

variable {d e : Dev}

/-! ### The TAP (R431 to R433) -/

/-- The instruction register takes a code. -/
def Dev.irLoaded (d : Dev) (code : Nat) : Dev := { d with tap := { d.tap with ir := code }, out := .tapIr 1 :: d.out }

theorem Dev.tapLoad_up (h : d.tapUp = true) (code : Nat) : d.tapLoad code = d.irLoaded code := if_pos h

theorem Dev.tapInstr_scan (d : Dev) : d.tapInstr = 0x20 ↔ d.tap.ir = 0x20 := by
  unfold Dev.tapInstr tapPerm
  generalize d.tap.ir = ir
  by_cases h1 : 1 ≤ ir ∧ ir ≤ 7 ∨ ir = 0x20 ∨ ir = 0xFF
  · simp only [if_pos h1]
  · simp only [if_neg h1]
    by_cases h2 : 0x40 ≤ ir ∧ ir ≤ 0x42
    · simp only [if_pos h2]
      split_ifs <;> omega
    · simp only [if_neg h2]
      omega

/-- What each instruction drives the pins with. -/
theorem Dev.irLoaded_drive (d : Dev) : (∀ code ∈ [3, 4, 5, 7], (d.irLoaded code).tapDrive = .boundary) ∧ (d.irLoaded 6).tapDrive = .highz ∧
    ∀ code ∈ [0x20, 0xFF], (d.irLoaded code).tapDrive = .device := by
  refine ⟨?_, rfl, ?_⟩ <;> simp only [List.forall_mem_cons, List.not_mem_nil, false_imp_iff, implies_true, and_true]
  · exact ⟨rfl, rfl, rfl, rfl⟩
  · exact ⟨rfl, rfl⟩

theorem Dev.tapUpdate_eqs (hup : d.tapUp = true) (y : Nat) :
    (d.tap.ir ≠ 0x20 → d.tapUpdate y = d) ∧
    (d.tap.ir = 0x20 → d.tap.run ≠ none → d.tapUpdate y = d.emit (.tapData d.tapCapture)) ∧
    (d.tap.ir = 0x20 → d.tap.run = none → d.tapUpdate y = { d with
      out := .tapData d.tapCapture :: d.out
      tap := { d.tap with run := some (bitOf y 47, y / 2 ^ 32 % 2 ^ 14, y % 2 ^ 32), done := false } }) := by
  refine ⟨fun h => if_neg fun hc => h (d.tapInstr_scan.1 hc.2), fun h hr => ?_, fun h hr => ?_⟩
  · rw [Dev.tapUpdate, if_pos ⟨hup, d.tapInstr_scan.2 h⟩]
    dsimp only
    rw [if_neg hr]
  · have hlow : bits y 0 32 = y % 2 ^ 32 := by rw [bits, Nat.pow_zero, Nat.div_one]
    rw [Dev.tapUpdate, if_pos ⟨hup, d.tapInstr_scan.2 h⟩]
    dsimp only
    rw [if_pos hr, hlow]
    rfl

theorem Dev.tapAccess_spec {wr : Bool} {off dat : Nat} (h : d.tap.run = some (wr, off, dat)) :
    let e := d.tapAccess
    e.tap.run = none ∧ e.tap.done = true ∧ e.tap.off = off ∧ (wr = true → e.tap.data = d.tap.data) ∧
    (Reg.find (0x30000 + 4 * off) = none → d.SameRegs e [] ∧ e.tap.err = true ∧ (wr = false → e.tap.data = 0)) ∧
    (Reg.find (0x30000 + 4 * off) ≠ none → d.absent (0x30000 + 4 * off) = false → e.tap.err = false) := by
  intro e
  obtain ⟨here, hhere⟩ : ∃ b, b = ((Reg.find (0x30000 + 4 * off)).isSome && !d.absent (0x30000 + 4 * off)) := ⟨_, rfl⟩
  obtain ⟨x, hx⟩ : ∃ x, x = (if wr then (if here then d.regWrite .tender (0x30000 + 4 * off) dat else d, d.tap.data)
      else if here then d.busRead .tender (0x30000 + 4 * off) else (d, 0)) := ⟨_, rfl⟩
  have he : e = { x.1 with tap := { x.1.tap with run := none, done := true, err := !here, off := off, data := x.2 } } := by
    show d.tapAccess = _
    rw [hx, hhere]
    simp only [Dev.tapAccess, h]
  rw [he]
  refine ⟨rfl, rfl, rfl, fun hw => ?_, fun hf => ?_, fun hf ha => ?_⟩
  · show x.2 = d.tap.data
    rw [hx, hw]
    rfl
  · have hno : here = false := by rw [hhere, hf]; rfl
    subst hno
    refine ⟨fun k _ => ?_, rfl, fun hw => ?_⟩
    · show Tbl.get x.1.regs k _ = _
      rw [hx]
      cases wr <;> rfl
    · show x.2 = 0
      rw [hx, hw]
      rfl
  · show (!here) = false
    rw [hhere, ha, Option.isSome_iff_ne_none.2 hf]
    rfl

/-- What a command word keeps of a word when it sets one of its bits. -/
theorem or_bit_keeps (v : Word) {i lo w : Nat} (hi : i < 32) (h : i < lo ∨ lo + w ≤ i) : bits (v ||| BitVec.ofNat 32 (2 ^ i)).toNat lo w = bits v.toNat lo w := by
  have hz : bits (BitVec.ofNat 32 (2 ^ i)).toNat lo w = 0 := by
    have hlt : 2 ^ i < 2 ^ 32 := Nat.pow_lt_pow_right (by decide) hi
    rw [BitVec.toNat_ofNat, Nat.mod_eq_of_lt hlt, bits]
    rcases h with h | h
    · rw [Nat.div_eq_of_lt (Nat.pow_lt_pow_right (by decide) h), Nat.zero_mod]
    · obtain ⟨k, rfl⟩ : ∃ k, i = lo + w + k := ⟨i - (lo + w), by omega⟩
      rw [Nat.add_assoc, Nat.pow_add, Nat.mul_div_cancel_left _ (Nat.two_pow_pos lo), Nat.pow_add]
      exact Nat.mul_mod_right ..
  rw [bits_or, hz, Nat.or_zero]

theorem or_bit_other (v : Word) {i j : Nat} (hi : i < 32) (h : j ≠ i) : bitOf (v ||| BitVec.ofNat 32 (2 ^ i)).toNat j = bitOf v.toNat j := by
  rw [Bool.eq_iff_iff, bitOf_iff_bits, bitOf_iff_bits, or_bit_keeps v hi (by omega)]

theorem or_bit_same (v : Word) {i : Nat} (hi : i < 32) : bitOf (v ||| BitVec.ofNat 32 (2 ^ i)).toNat i = true := by
  have hlt : 2 ^ i < 2 ^ 32 := Nat.pow_lt_pow_right (by decide) hi
  rw [bitOf_or, BitVec.toNat_ofNat, Nat.mod_eq_of_lt hlt]
  rw [show bitOf (2 ^ i) i = true from by rw [bitOf, Nat.div_self (Nat.two_pow_pos i)]; rfl, Bool.or_true]

/-- The commands of CVU.CTRL leave its fields of the word. -/
theorem ctrlSets_or (u : Nat) (v : Word) {i : Nat} (hi : i = 3 ∨ i = 4 ∨ i = 6) : ctrlSets u (v ||| BitVec.ofNat 32 (2 ^ i)).toNat = ctrlSets u v.toNat := by
  have h1 := or_bit_keeps v (i := i) (lo := 0) (w := 2) (by omega) (by omega)
  have h2 := or_bit_keeps v (i := i) (lo := 2) (w := 1) (by omega) (by omega)
  have h3 := or_bit_keeps v (i := i) (lo := 5) (w := 1) (by omega) (by omega)
  simp only [bits, Nat.pow_zero, Nat.div_one, Nat.reducePow] at h1 h2 h3
  rw [ctrlSets, h1, h2, h3]
  rfl

/-- The fields of a control register after the write of a command. -/
theorem Dev.cvuPut_shows (d : Dev) {u : Nat} (hu : u < 4) (v : Word) {i : Nat} (hi : i = 3 ∨ i = 4 ∨ i = 6) :
    let y := d.cvuPut u (v ||| BitVec.ofNat 32 (2 ^ i)).toNat
    d.Sets y (ctrlSets u v.toNat) ∧ y.fld (Reg.CVU_CTRL.POLY u) = v.toNat % 4 ∧ y.fld (Reg.CVU_CTRL.USE_SEED u) = v.toNat / 4 % 2 ∧
    y.fld (Reg.CVU_CTRL.DUAL u) = v.toNat / 32 % 2 ∧ y.cvuPoly = d.cvuPoly := by
  intro y
  have hy : d.Sets y (ctrlSets u v.toNat) := by
    rw [← ctrlSets_or u v hi]
    exact d.cvuPut_sets hu _
  have hval {w : Nat} {f : Fld} (h : (f, w) ∈ ctrlSets u v.toNat) : y.fld f = w := hy.1.1 (f, w) h
  exact ⟨hy, hval (by simp [ctrlSets]), hval (by simp [ctrlSets]), hval (by simp [ctrlSets]), (congrArg Dev.cvuPoly hy.2 :)⟩

/-- The fields outside the control register come after its own. -/
theorem ctrlSets_apart {u x i : Nat} (hu : u < 4) (hi : i < 17) (h3 : 3 ≤ i) : ∀ e ∈ ctrlSets u x, e.1.key ≠ ((cvuFlds u)[i]'hi).key := by
  simp only [ctrlSets, List.forall_mem_cons, List.not_mem_nil, false_imp_iff, implies_true, and_true]
  exact ⟨cvuFlds_apart hu (i := 0) (by decide) hi (by omega), cvuFlds_apart hu (i := 1) (by decide) hi (by omega),
    cvuFlds_apart hu (i := 2) (by decide) hi (by omega)⟩

/-- A list of a unit's fields outside its control register. -/
theorem Dev.Sets.afterCtrl {d y z : Dev} {u x : Nat} (hu : u < 4) {l : List (Fld × Nat)} (hy : d.Sets y (ctrlSets u x)) (hz : y.Sets z l)
    (hl : ∀ e ∈ l, ∃ i, ∃ hi : i < 17, 3 ≤ i ∧ e.1 = (cvuFlds u)[i]'hi) : d.Sets z (ctrlSets u x ++ l) := by
  refine hy.trans hz fun e he g hg => ?_
  obtain ⟨i, hi, h3, heq⟩ := hl g hg
  rw [heq]
  exact ctrlSets_apart hu hi h3 e he

/-- Each of the named fields stands in the list after the control register's. -/
theorem cvuFlds_late (u : Nat) {l : List Fld} (h : ∀ f ∈ l, f ∈ (cvuFlds u).drop 3) : ∀ f ∈ l, ∃ i, ∃ hi : i < 17, 3 ≤ i ∧ f = (cvuFlds u)[i]'hi := by
  intro f hf
  obtain ⟨i, hi, heq⟩ := List.mem_iff_getElem.1 (h f hf)
  rw [List.getElem_drop] at heq
  refine ⟨3 + i, ?_, by omega, heq.symm⟩
  have : i < 14 := hi
  omega

theorem Dev.cvuForeign_false {d : Dev} {m : Master} {u : Nat} (h : ¬ (d.fld (Reg.CVU_STAT.OWNED u) ≠ 0 ∧ d.fld (Reg.CVU_STAT.OWNER u) ≠ m.num)) :
    d.cvuForeign m u = false := Bool.eq_false_iff.2 fun hf => h ((d.cvuForeign_iff m u).1 hf)

/-- What is read of a unit after the write of its control register. -/
theorem Dev.foreignSets_put (d : Dev) {u : Nat} (hu : u < 4) (x : Nat) : foreignSets (d.cvuPut u x) u = foreignSets d u := by
  rw [foreignSets, show (d.cvuPut u x).fld (Reg.CVU_CNT.COUNT u 1) = _ from d.cvuPut_fld hu x (i := 13) (by decide) (by decide)]
  rfl

section Clauses

variable {s : State} (hup : s.dev.mainUp = true) (hu16 : s.dev.unit 16 = true) (m : Master) (u : Fin 4) (v : Word)
include hup hu16

theorem cvuStarts :
    let e := s.dev
    let x := v.toNat
    let starts := crcOf (x % 4)
    let acc0 := if x / 4 % 2 = 1 then e.fld (Reg.CVU_SEED.VALUE u) % 2 ^ starts.w else starts.init
    let foreign := e.fld (Reg.CVU_STAT.OWNED u) ≠ 0 ∧ e.fld (Reg.CVU_STAT.OWNER u) ≠ m.num
    bitOf x 4 = false → bitOf x 6 = false →
      (foreign → Effect (.cvuStart m u v) s (fun d => e.Sets d (ctrlSets u x ++ foreignSets e u))) ∧
      (¬ foreign → Effect (.cvuStart m u v) s (fun d => { e with cvuPoly := Tbl.set e.cvuPoly u (x % 4) }.Sets d (ctrlSets u x ++
        accSets u starts acc0 ++ [(Reg.CVU_COUNT.VALUE u, 0), (Reg.CVU_STAT.OUTCOME u, 0), (Reg.CVU_STAT.OWNER u, m.num),
          (Reg.CVU_STAT.OWNED u, 1)]))) := by
  intro e x starts acc0 foreign h4 h6
  have hu := u.isLt
  obtain ⟨y, hy⟩ : ∃ y, y = e.cvuPut u (v ||| BitVec.ofNat 32 (2 ^ 3)).toNat := ⟨_, rfl⟩
  obtain ⟨hsets, hpoly, hseed, -, htbl⟩ := e.cvuPut_shows hu v (i := 3) (by decide)
  have heq : s.dev.poke m (Reg.CVU_CTRL.ADR u) (v ||| 8#32) = y.cvuStart m u := by
    rw [show (8#32 : Word) = BitVec.ofNat 32 (2 ^ 3) from by decide, Dev.poke_CVU_CTRL _ _ _ _ hu16, hy]
    exact (e.cvuCtrl_eqs m u _).1 (or_bit_same v (by decide)) ((or_bit_other v (i := 3) (by decide) (by decide)).trans h4)
      ((or_bit_other v (i := 3) (by decide) (by decide)).trans h6)
  have hforeign : y.cvuForeign m u = e.cvuForeign m u := hy ▸ e.cvuPut_foreign m hu _
  have hexpect : y.fld (Reg.CVU_SEED.VALUE u) = e.fld (Reg.CVU_SEED.VALUE u) := hy ▸ e.cvuPut_fld hu _ (i := 14) (by decide) (by decide)
  have href : foreignSets y u = foreignSets e u := hy ▸ e.foreignSets_put hu _
  rw [← hy] at hsets hpoly hseed htbl
  refine ⟨fun hf => ?_, fun hf => ?_⟩
  · refine .of_main_eq hup ?_ (exec_cvuStart ..) heq
    have hyf : y.cvuForeign m u = true := hforeign.trans ((e.cvuForeign_iff m u).2 hf)
    rw [Dev.cvuStart, if_pos hyf, ← href]
    refine hsets.afterCtrl hu (y.cvuRefuse_sets hu) fun g hg => ?_
    exact cvuFlds_late u (l := [Reg.CVU_CNT.COUNT u 1, Reg.CVU_EVT.FOREIGN u]) (by simp [cvuFlds]) g.1
      (by simpa only [foreignSets, List.map_cons, List.map_nil] using List.mem_map_of_mem (f := Prod.fst) hg)
  · refine .of_main_eq hup ?_ (exec_cvuStart ..) heq
    have hbase : Dev.Sets { e with cvuPoly := Tbl.set e.cvuPoly u (x % 4) } { y with cvuPoly := Tbl.set y.cvuPoly u (x % 4) } (ctrlSets u x) := by
      rw [htbl]
      exact ⟨hsets.1, (congrArg (fun z : Dev => { z with cvuPoly := Tbl.set e.cvuPoly u (x % 4) }) hsets.2 :)⟩
    have hstart := y.cvuStart_sets m hu (hforeign.trans (Dev.cvuForeign_false hf))
    dsimp only at hstart
    rw [hpoly, hseed, hexpect] at hstart
    have hacc : (if x / 4 % 2 ≠ 0 then e.fld (Reg.CVU_SEED.VALUE u) % 2 ^ (crcOf (x % 4)).w else (crcOf (x % 4)).init) = acc0 := by
      rcases Nat.mod_two_eq_zero_or_one (x / 4) with h | h <;> simp only [acc0, h] <;> rfl
    rw [hacc] at hstart
    rw [List.append_assoc]
    refine hbase.afterCtrl hu hstart fun g hg => ?_
    exact cvuFlds_late u (l := [Reg.CVU_ACC.VALUE u, Reg.CVU_RESULT.VALUE u, Reg.CVU_COUNT.VALUE u, Reg.CVU_STAT.OUTCOME u, Reg.CVU_STAT.OWNER u,
      Reg.CVU_STAT.OWNED u]) (by simp [cvuFlds]) g.1
      (by simpa only [accSets, List.cons_append, List.nil_append, List.map_cons, List.map_nil] using List.mem_map_of_mem (f := Prod.fst) hg)

theorem cvuChecks :
    let e := s.dev
    let x := v.toNat
    let foreign := e.fld (Reg.CVU_STAT.OWNED u) ≠ 0 ∧ e.fld (Reg.CVU_STAT.OWNER u) ≠ m.num
    let hit := fun (f : Nat → Fld) => e.fld (f u) % 2 ^ (e.cvuCrc u).w = e.fld (Reg.CVU_RESULT.VALUE u)
    let a := hit Reg.CVU_EXPECT_A.VALUE
    let c := hit Reg.CVU_EXPECT_B.VALUE
    let dual := x / 32 % 2 = 1
    let sets := fun (l : List (Fld × Nat)) => Effect (.cvuCheck m u v) s (fun d => e.Sets d l)
    let ends := fun (o : Nat) (l : List (Fld × Nat)) => sets (ctrlSets u x ++ [(Reg.CVU_STAT.OUTCOME u, o),
      (Reg.CVU_STAT.OWNED u, 0)] ++ l)
    bitOf x 3 = false → bitOf x 6 = false → (foreign → sets (ctrlSets u x ++ foreignSets e u)) ∧ (¬ foreign →
      (a → (dual → c) → ends 1 []) ∧ (a → dual → ¬ c → ends 2 [(Reg.CVU_EVT.COPY_BAD u, 1)]) ∧
      (¬ a → dual → c → ends 3 [(Reg.CVU_EVT.COPY_BAD u, 1)]) ∧
      (¬ a → (dual → ¬ c) → ends 4 [(Reg.CVU_EVT.MISMATCH u, 1),
        (Reg.CVU_CNT.COUNT u 0, min (2 ^ 32 - 1) (e.fld (Reg.CVU_CNT.COUNT u 0) + 1))])) := by
  intro e x foreign hit a c dual sets ends h3 h6
  have hu := u.isLt
  obtain ⟨y, hy⟩ : ∃ y, y = e.cvuPut u (v ||| BitVec.ofNat 32 (2 ^ 4)).toNat := ⟨_, rfl⟩
  obtain ⟨hsets, -, -, hdual, htbl⟩ := e.cvuPut_shows hu v (i := 4) (by decide)
  have heq : s.dev.poke m (Reg.CVU_CTRL.ADR u) (v ||| 0x10#32) = y.cvuCheck m u := by
    rw [show (0x10#32 : Word) = BitVec.ofNat 32 (2 ^ 4) from by decide, Dev.poke_CVU_CTRL _ _ _ _ hu16, hy]
    exact (e.cvuCtrl_eqs m u _).2.1 ((or_bit_other v (i := 4) (by decide) (by decide)).trans h3) (or_bit_same v (by decide))
      ((or_bit_other v (i := 4) (by decide) (by decide)).trans h6)
  have hforeign : y.cvuForeign m u = e.cvuForeign m u := hy ▸ e.cvuPut_foreign m hu _
  have href : foreignSets y u = foreignSets e u := hy ▸ e.foreignSets_put hu _
  have hA : y.fld (Reg.CVU_EXPECT_A.VALUE u) = e.fld (Reg.CVU_EXPECT_A.VALUE u) := hy ▸ e.cvuPut_fld hu _ (i := 15) (by decide) (by decide)
  have hB : y.fld (Reg.CVU_EXPECT_B.VALUE u) = e.fld (Reg.CVU_EXPECT_B.VALUE u) := hy ▸ e.cvuPut_fld hu _ (i := 16) (by decide) (by decide)
  have hR : y.fld (Reg.CVU_RESULT.VALUE u) = e.fld (Reg.CVU_RESULT.VALUE u) := hy ▸ e.cvuPut_fld hu _ (i := 4) (by decide) (by decide)
  have hC : y.fld (Reg.CVU_CNT.COUNT u 0) = e.fld (Reg.CVU_CNT.COUNT u 0) := hy ▸ e.cvuPut_fld hu _ (i := 12) (by decide) (by decide)
  rw [← hy] at hsets hdual htbl
  have hcrc : y.cvuCrc u = e.cvuCrc u := by rw [Dev.cvuCrc, htbl]; rfl
  refine ⟨fun hf => ?_, fun hf => ?_⟩
  · refine .of_main_eq hup ?_ (exec_cvuCheck ..) heq
    have hyf : y.cvuForeign m u = true := hforeign.trans ((e.cvuForeign_iff m u).2 hf)
    rw [Dev.cvuCheck, if_pos hyf, ← href]
    refine hsets.afterCtrl hu (y.cvuRefuse_sets hu) fun g hg => ?_
    exact cvuFlds_late u (l := [Reg.CVU_CNT.COUNT u 1, Reg.CVU_EVT.FOREIGN u]) (by simp [cvuFlds]) g.1
      (by simpa only [foreignSets, List.map_cons, List.map_nil] using List.mem_map_of_mem (f := Prod.fst) hg)
  · have hya : y.cvuHit u Reg.CVU_EXPECT_A.VALUE ↔ a := by rw [Dev.cvuHit, hA, hR, hcrc]
    have hyc : y.cvuHit u Reg.CVU_EXPECT_B.VALUE ↔ c := by rw [Dev.cvuHit, hB, hR, hcrc]
    have hyd : y.fld (Reg.CVU_CTRL.DUAL u) ≠ 0 ↔ dual := by rw [hdual]; omega
    obtain ⟨h1, h2, h3, h4⟩ := y.cvuOutcome_eqs u dual hyd
    rw [hya, hyc] at h1 h2 h3 h4
    have hcheck := y.cvuCheck_sets m hu (hforeign.trans (Dev.cvuForeign_false hf))
    have hend : sets (ctrlSets u x ++ outcomeSets e u (y.cvuOutcome u)) := by
      refine .of_main_eq hup ?_ (exec_cvuCheck ..) heq
      have houts : outcomeSets y u (y.cvuOutcome u) = outcomeSets e u (y.cvuOutcome u) := by
        unfold outcomeSets
        rw [hC]
      rw [← houts]
      refine hsets.afterCtrl hu hcheck fun g hg => ?_
      refine cvuFlds_late u (l := [Reg.CVU_STAT.OUTCOME u, Reg.CVU_STAT.OWNED u, Reg.CVU_EVT.COPY_BAD u, Reg.CVU_EVT.MISMATCH u, Reg.CVU_CNT.COUNT u 0])
        (by simp [cvuFlds]) g.1 ?_
      have hmem := List.mem_map_of_mem (f := Prod.fst) hg
      unfold outcomeSets at hmem
      rw [List.map_append, List.mem_append] at hmem
      rcases hmem with hm | hm
      · exact List.mem_append_left (bs := [Reg.CVU_EVT.COPY_BAD u, Reg.CVU_EVT.MISMATCH u, Reg.CVU_CNT.COUNT u 0]) hm
      · refine List.mem_append_right (as := [Reg.CVU_STAT.OUTCOME u, Reg.CVU_STAT.OWNED u]) ?_
        split_ifs at hm
        · exact List.mem_append_left (bs := [Reg.CVU_EVT.MISMATCH u, Reg.CVU_CNT.COUNT u 0]) hm
        · exact List.mem_append_right (as := [Reg.CVU_EVT.COPY_BAD u]) hm
        · simp at hm
    have hends {o : Nat} (ho : y.cvuOutcome u = o) : sets (ctrlSets u x ++ outcomeSets e u o) := ho ▸ hend
    refine ⟨fun ha hc => ?_, fun ha hd hc => ?_, fun ha hd hc => ?_, fun ha hc => ?_⟩
    · exact hends (h1 ha hc)
    · exact hends (h2 ha hd hc)
    · exact hends (h3 ha hd hc)
    · exact hends (h4 ha hc)

theorem cvuAbandons :
    let x := v.toNat
    bitOf x 3 = false → bitOf x 4 = false → Effect (.cvuAbandon m u v) s (fun d => s.dev.Sets d (ctrlSets u x ++ [(Reg.CVU_STAT.OWNED u, 0)])) := by
  intro x h3 h4
  have hu := u.isLt
  obtain ⟨y, hy⟩ : ∃ y, y = s.dev.cvuPut u (v ||| BitVec.ofNat 32 (2 ^ 6)).toNat := ⟨_, rfl⟩
  obtain ⟨hsets, -⟩ := s.dev.cvuPut_shows hu v (i := 6) (by decide)
  rw [← hy] at hsets
  refine .of_main_eq hup ?_ (exec_cvuAbandon ..) (e := y.cvuAbandon u) ?_
  · refine hsets.afterCtrl hu ((Dev.Sets.nil y).put_of_lt (Reg.CVU_STAT.OWNED u) (v := 0) (show 0 < 2 ^ 1 by decide) (by simp)) fun g hg => ?_
    exact cvuFlds_late u (l := [Reg.CVU_STAT.OWNED u]) (by simp [cvuFlds]) g.1 (List.mem_map_of_mem (f := Prod.fst) hg)
  · rw [show (0x40#32 : Word) = BitVec.ofNat 32 (2 ^ 6) from by decide, Dev.poke_CVU_CTRL _ _ _ _ hu16, hy]
    exact (s.dev.cvuCtrl_eqs m u _).2.2 ((or_bit_other v (i := 6) (by decide) (by decide)).trans h3)
      ((or_bit_other v (i := 6) (by decide) (by decide)).trans h4) (or_bit_same v (by decide))

end Clauses

section Clauses

variable {s : State} (m : Master)

theorem cvuTakes (hup : s.dev.mainUp = true) (hu16 : s.dev.unit 16 = true) (u : Fin 4) (v : Word) :
    let e := s.dev
    let foreign := e.fld (Reg.CVU_STAT.OWNED u) ≠ 0 ∧ e.fld (Reg.CVU_STAT.OWNER u) ≠ m.num
    let held := e.cvuCrc u
    let takes := fun (j : Instr) (n : Nat) =>
      (foreign → Effect j s (fun d => e.Sets d (foreignSets e u))) ∧
      (¬ foreign → Effect j s (fun d => e.Sets d (accSets u held (held.acc (e.fld (Reg.CVU_ACC.VALUE u)) (leBytes v.toNat n)) ++
        [(Reg.CVU_COUNT.VALUE u, (e.fld (Reg.CVU_COUNT.VALUE u) + n) % 2 ^ 32)])))
    takes (.cvuDataB m u v) 1 ∧ takes (.cvuDataH m u v) 2 ∧ takes (.cvuDataW m u v) 4 := by
  intro e foreign held takes
  have htakes {j : Instr} {n : Nat} {f : Dev → Dev} (hj : exec j s = s.main f) (hf : f e = e.cvuData m u n v.toNat) : takes j n :=
    ⟨fun h => .of_main_eq hup (e.cvuData_foreign m u.isLt n v.toNat ((e.cvuForeign_iff m u).2 h)) hj hf,
      fun h => .of_main_eq hup (e.cvuData_sets m u.isLt n v.toNat (Dev.cvuForeign_false h)) hj hf⟩
  exact ⟨htakes (exec_cvuDataB ..) (Dev.poke_CVU_DATA_B e m u v hu16), htakes (exec_cvuDataH ..) (Dev.poke_CVU_DATA_H e m u v hu16),
    htakes (exec_cvuDataW ..) (Dev.poke_CVU_DATA_W e m u v hu16)⟩

theorem cvuValue (u : Nat) (reg : Fin 3) : [Reg.CVU_ACC.VALUE u, Reg.CVU_RESULT.VALUE u, Reg.CVU_COUNT.VALUE u].getD reg (Reg.CVU_ACC.VALUE u) =
    ⟨cvuResultAdr u reg, 0, 32⟩ := by
  fin_cases reg <;> rfl

theorem cvuReads (hup : s.dev.mainUp = true) (hu16 : s.dev.unit 16 = true) (u : Fin 4) (reg : Fin 3) :
    let e := s.dev
    let value := [Reg.CVU_ACC.VALUE u, Reg.CVU_RESULT.VALUE u, Reg.CVU_COUNT.VALUE u].getD reg (Reg.CVU_ACC.VALUE u)
    Does (.cvuResultRead m u reg.castSucc) s (e.emit (.busRead m value.adr (BitVec.ofNat 32 (e.fld value % 2 ^ 32)))) ∧
    Effect (.cvuResultRead m u 3) s (fun d => e.SameRegs d []) := by
  intro e value
  have hv : value = ⟨cvuResultAdr u reg, 0, 32⟩ := cvuValue u reg
  refine ⟨.of_main_eq (exec_cvuResultRead ..) hup ?_, .of_main_eq hup ?_ (exec_cvuResultRead ..) (Dev.cvuRead hu16 m u.isLt (reg := 3) (by decide))⟩
  · have hread := Dev.cvuRead (d := e) hu16 m u.isLt (reg := reg) (Nat.lt_succ_of_lt reg.isLt)
    rw [e.cvuStored u.isLt reg.isLt] at hread
    rw [hv, show BitVec.ofNat 32 (e.fld ⟨cvuResultAdr u reg, 0, 32⟩ % 2 ^ 32) = BitVec.ofNat 32 (e.fld ⟨cvuResultAdr u reg, 0, 32⟩) from
      BitVec.eq_of_toNat_eq (by rw [BitVec.toNat_ofNat, BitVec.toNat_ofNat, Nat.mod_mod])]
    exact hread
  · exact fun _ _ => rfl

theorem debugOutputs (hup : s.dev.mainUp = true) (hu17 : s.dev.unit 17 = true) (i : Fin 2) (v : Word) (key : BitVec 16) :
    let e := s.dev
    let x := v.toNat
    let fast := bitOf e.dbgPerm 0 = true ∧ 400000 * 2 ^ (x / 64 % 16) < e.ckoKhz (x % 16) (x / 16 % 4)
    let khz := e.ckoKhz (x % 16) (x / 16 % 4)
    Effect (.ckoChange m i v) s (fun d => { e with cko := Tbl.set e.cko i (if fast then 1 else 0) }.Sets d
      ([(Reg.DBG_CKO.SRC i, x % 16), (Reg.DBG_CKO.INST i, x / 16 % 4), (Reg.DBG_CKO.DIV i, x / 64 % 16)] ++
        if fast then [(Reg.DBG_STAT.CKO_FAST, 1)] else []) ∧
      d.ckoDrive i = if bitOf e.dbgPerm 0 = true ∧ ¬ fast ∧ khz ≠ 0 then some (khz, 2 ^ (x / 64 % 16)) else none) ∧
    (key = 0xD5E7#16 → bitOf e.dbgPerm 4 = true → Does (.debugReset m key) s (e.warmReset Reg.CHIPCAP_RST_CAUSE.DEBUG)) ∧
    (¬ (key = 0xD5E7#16 ∧ bitOf e.dbgPerm 4 = true) → Effect (.debugReset m key) s (fun d => e.Sets d [(Reg.DBG_STAT.DENIED, 1)])) := by
  intro e x fast khz
  have hkey : e.poke m Reg.DBG_CTRL.ADR (key ++ 1#16) = e.dbgCtrl (key ++ 1#16).toNat := e.poke_DBG_CTRL m _ hu17
  rw [e.dbgCtrl_key] at hkey
  refine ⟨.of_main_eq hup (e.ckoWrite_spec i.isLt x) (exec_ckoChange ..) (e.poke_DBG_CKO m i v hu17), fun hk hp => ?_, fun h => ?_⟩
  · rw [if_pos ⟨hk, hp⟩] at hkey
    exact .of_main_eq (exec_debugReset ..) hup hkey
  · rw [if_neg h] at hkey
    exact .of_main_eq hup ((Dev.Sets.nil e).put_of_lt _ (show 1 < 2 ^ 1 by decide) (by simp)) (exec_debugReset ..) hkey

theorem or_go_div (v : Word) {i lo : Nat} (hi : i < 32) (h : i < lo) : (v ||| BitVec.ofNat 32 (2 ^ i)).toNat / 2 ^ lo = v.toNat / 2 ^ lo := by
  have hk := or_bit_keeps v (lo := lo) (w := 32) hi (.inl h)
  have hlt (w : Word) : w.toNat / 2 ^ lo < 2 ^ 32 := lt_of_le_of_lt (Nat.div_le_self _ _) w.isLt
  rwa [bits, bits, Nat.mod_eq_of_lt (hlt _), Nat.mod_eq_of_lt (hlt _)] at hk

/-- What the fields of a command word say of the word with its GO bit. -/
theorem or_go_low (v : Word) {i w : Nat} (hi : i < 32) (h : w ≤ i) : (v ||| BitVec.ofNat 32 (2 ^ i)).toNat % 2 ^ w = v.toNat % 2 ^ w := by
  have hk := or_bit_keeps v (lo := 0) (w := w) hi (by omega)
  rwa [bits, bits, Nat.pow_zero, Nat.div_one, Nat.div_one] at hk

theorem i2cGoes (b : Nat) (v : Word) : let x := v.toNat; let z := (v ||| BitVec.ofNat 32 (2 ^ 10)).toNat
    bitOf z 10 = true ∧ bitOf z 9 = bitOf x 9 ∧ i2cSends z = i2cSends x ∧ i2cSets b z = i2cSets b x := by
  intro x z
  have h0 : z % 128 = x % 128 := or_go_low v (i := 10) (w := 7) (by decide) (by decide)
  have h7 : z / 2 ^ 7 % 2 = x / 2 ^ 7 % 2 := or_bit_keeps v (i := 10) (lo := 7) (w := 1) (by decide) (by decide)
  have h8 : z / 2 ^ 8 % 2 = x / 2 ^ 8 % 2 := or_bit_keeps v (i := 10) (lo := 8) (w := 1) (by decide) (by decide)
  have h9 : z / 2 ^ 9 % 2 = x / 2 ^ 9 % 2 := or_bit_keeps v (i := 10) (lo := 9) (w := 1) (by decide) (by decide)
  have h16 : z / 2 ^ 16 = x / 2 ^ 16 := or_go_div v (i := 10) (lo := 16) (by decide) (by decide)
  have h24 : z / 2 ^ 24 = x / 2 ^ 24 := or_go_div v (i := 10) (lo := 24) (by decide) (by decide)
  have hb7 : bitOf z 7 = bitOf x 7 := or_bit_other v (by decide) (by decide)
  have hb8 : bitOf z 8 = bitOf x 8 := or_bit_other v (by decide) (by decide)
  refine ⟨or_bit_same v (by decide), or_bit_other v (by decide) (by decide), ?_, ?_⟩
  · rw [i2cSends, hb7, hb8, h16, h24, h0]
    rfl
  · rw [i2cSets, h16, h24, h0, h7, h8, h9]
    rfl

theorem mdioGoes (k : Nat) (v : Word) : let x := v.toNat; let z := (v ||| BitVec.ofNat 32 (2 ^ 15)).toNat
    bitOf z 15 = true ∧ mdioSends z = mdioSends x ∧ mdioSets k z = mdioSets k x := by
  intro x z
  have h0 : z % 32 = x % 32 := or_go_low v (i := 15) (w := 5) (by decide) (by decide)
  have h5 : z / 2 ^ 5 % 32 = x / 2 ^ 5 % 32 := or_bit_keeps v (i := 15) (lo := 5) (w := 5) (by decide) (by decide)
  have h10 : z / 2 ^ 10 % 2 = x / 2 ^ 10 % 2 := or_bit_keeps v (i := 15) (lo := 10) (w := 1) (by decide) (by decide)
  have h11 : z / 2 ^ 11 % 4 = x / 2 ^ 11 % 4 := or_bit_keeps v (i := 15) (lo := 11) (w := 2) (by decide) (by decide)
  have h13 : z / 2 ^ 13 % 4 = x / 2 ^ 13 % 4 := or_bit_keeps v (i := 15) (lo := 13) (w := 2) (by decide) (by decide)
  have h16 : z / 2 ^ 16 = x / 2 ^ 16 := or_go_div v (i := 15) (lo := 16) (by decide) (by decide)
  have hb10 : bitOf z 10 = bitOf x 10 := or_bit_other v (by decide) (by decide)
  have hop : bits z 11 2 = bits x 11 2 := h11
  have hdev : bits z 5 5 = bits x 5 5 := h5
  refine ⟨or_bit_same v (by decide), ?_, ?_⟩
  · unfold mdioSends
    rw [hb10, hop, hdev, h16, h0]
  · rw [mdioSets, h16, h0, h5, h10, h11, h13]
    rfl

end Clauses

theorem mem_append_singleton {α : Type} (l : List α) (a y : α) : y ∈ l ++ [a] ↔ y ∈ a :: l := by
  rw [List.mem_append, List.mem_singleton, List.mem_cons, or_comm]

/-- The level of a pin by what drives it: the device, its cell of the boundary register, or nothing. -/
def PinDrive.level (x : PinDrive) (boundary cell : Nat) (own : Bool) : Option Bool :=
  match x with
  | .device => some own
  | .boundary => some (bitOf boundary cell)
  | .highz => none

theorem Dev.pinLevel_level {d : Dev} (hr : d.held.rails = false) (hs : d.fld Reg.PWR_STAT.SEQ ≠ 5) (cell : Nat) (own : Bool) :
    d.pinLevel cell own = d.tapDrive.level d.tap.boundary cell own := by
  have hno : ¬ (d.held.rails || d.fld Reg.PWR_STAT.SEQ == 5) = true := by
    rw [hr, Bool.false_or, beq_iff_eq]
    exact hs
  unfold Dev.pinLevel
  rw [if_neg hno]
  cases d.tapDrive <;> rfl

section Clauses

variable {s : State}

theorem i2cClauses (hup : s.dev.mainUp = true) (m : Master) (b status : Fin 4) (v : Word) (rdata : Byte) :
    let e := s.dev
    let x := v.toNat
    let can := e.fld (Reg.CHIPCAP_I2C_STAT.BUSY b) ≠ 0 ∧
      ¬ (status = 2 ∧ e.fld (Reg.CHIPCAP_I2C_CMD.RD b) ≠ 0 ∧ e.fld (Reg.CHIPCAP_I2C_CMD.NOREG b) ≠ 0)
    let i2cBusy := e.fld (Reg.CHIPCAP_I2C_STAT.BUSY b) ≠ 0
    (i2cBusy → Does (.i2cGo m b v) s e) ∧ (¬ i2cBusy → Effect (.i2cGo m b v) s (fun d =>
      { e with out := .i2c b (bitOf x 9) (.recover :: i2cSends x) :: e.out }.Sets d (i2cSets b x ++ [(Reg.CHIPCAP_I2C_STAT.BUSY b, 1)]))) ∧
    (¬ can → Does (.i2cDone b status rdata) s e) ∧
    (can → Effect (.i2cDone b status rdata) s (fun d => { e with out := if status = 0 then e.out else .i2cStop b :: e.out }.Sets d
      ([(Reg.CHIPCAP_I2C_STAT.BUSY b, 0), (Reg.CHIPCAP_I2C_STAT.STATUS b, status.val)] ++
        if e.fld (Reg.CHIPCAP_I2C_CMD.RD b) ≠ 0 ∧ status = 0 then [(Reg.CHIPCAP_I2C_STAT.RDATA b, rdata.toNat)] else []))) := by
  intro e x can i2cBusy
  obtain ⟨hgo, hfast, hsends, hsets⟩ := i2cGoes b v
  have hpoke : e.poke m (Reg.CHIPCAP_I2C_CMD.ADR b) (v ||| 0x400#32) = e.i2cCmd b (v ||| BitVec.ofNat 32 (2 ^ 10)).toNat := by
    rw [show (0x400#32 : Word) = BitVec.ofNat 32 (2 ^ 10) from by decide]
    exact e.poke_CHIPCAP_I2C_CMD m b _
  have hst (n : Fin 4) : status = n ↔ (status : Nat) = n := Fin.ext_iff
  have hcan : e.i2cCan b status = true ↔ can := by
    rw [e.i2cCan_iff, ← show status = 2 ↔ (status : Nat) = 2 from hst 2]
  refine ⟨fun h => .of_main_eq (exec_i2cGo ..) hup (hpoke.trans (Dev.i2cCmd_busy _ _ h)), fun h => .of_main_eq hup ?_ (exec_i2cGo ..) hpoke,
    fun h => .of_main_eq (exec_i2cDone ..) hup (if_neg fun h' => h (hcan.1 h')), fun h => .of_main_eq hup ?_ (exec_i2cDone ..) rfl⟩
  · have hset := e.i2cCmd_go b.isLt (v ||| BitVec.ofNat 32 (2 ^ 10)).isLt hgo (not_not.1 h)
    rw [hfast, hsends, hsets] at hset
    exact hset.of_mem_iff fun y => mem_append_singleton _ _ y
  · have hset := e.i2cDone_sets (rdata := rdata.toNat) b.isLt status.isLt rdata.isLt (hcan.2 h)
    simp only [← show status = 0 ↔ (status : Nat) = 0 from hst 0] at hset
    exact hset

theorem mdioClauses (hup : s.dev.mainUp = true) (m : Master) (k : Fin 2) (v : Word) (data : BitVec 16) :
    let e := s.dev
    let x := v.toNat
    let mdioBusy := e.fld (Reg.CHIPCAP_MDIO_STAT.BUSY k) ≠ 0
    let op := e.fld (Reg.CHIPCAP_MDIO_CMD.OP k)
    let reads := if e.fld (Reg.CHIPCAP_MDIO_CMD.C45 k) ≠ 0 then 2 ≤ op else op ≠ 1
    (mdioBusy → Does (.mdioGo m k v) s e) ∧ (¬ mdioBusy → Effect (.mdioGo m k v) s (fun d =>
      { e with out := .mdio k (mdioSends x) :: e.out }.Sets d (mdioSets k x ++ [(Reg.CHIPCAP_MDIO_STAT.BUSY k, 1)]))) ∧
    (¬ mdioBusy → Does (.mdioDone k data) s e) ∧
    (mdioBusy → Effect (.mdioDone k data) s (fun d => e.Sets d ((Reg.CHIPCAP_MDIO_STAT.BUSY k, 0) ::
      if reads then [(Reg.CHIPCAP_MDIO_CMD.DATA k, data.toNat)] else []))) := by
  intro e x mdioBusy op reads
  obtain ⟨hgo, hsends, hsets⟩ := mdioGoes k v
  have hpoke : e.poke m (Reg.CHIPCAP_MDIO_CMD.ADR k) (v ||| 0x8000#32) = e.mdioCmd k (v ||| BitVec.ofNat 32 (2 ^ 15)).toNat := by
    rw [show (0x8000#32 : Word) = BitVec.ofNat 32 (2 ^ 15) from by decide]
    exact e.poke_CHIPCAP_MDIO_CMD m k _
  refine ⟨fun h => .of_main_eq (exec_mdioGo ..) hup (hpoke.trans (Dev.mdioCmd_busy _ _ h)), fun h => .of_main_eq hup ?_ (exec_mdioGo ..) hpoke,
    fun h => .of_main_eq (exec_mdioDone ..) hup (Dev.mdioDone_idle k _ (not_not.1 h)), fun h => .of_main_eq hup ?_ (exec_mdioDone ..) rfl⟩
  · have hset := e.mdioCmd_go k.isLt (v ||| BitVec.ofNat 32 (2 ^ 15)).isLt hgo (not_not.1 h)
    rw [hsends, hsets] at hset
    exact hset.of_mem_iff fun y => mem_append_singleton _ _ y
  · have hset := e.mdioDone_sets k.isLt data.isLt h
    simp only [e.mdioReads_iff] at hset
    exact hset

theorem tapClauses (pins shifted : Nat) (w48 : BitVec 48) (hup : s.dev.tapUp = true) :
    let e := s.dev
    let ir := fun (code : Nat) => { e with tap := { e.tap with ir := code }, out := .tapIr 1 :: e.out }
    let open_ := fun (j : Instr) (code perm : Nat) => Effect j s (fun d => d = ir code ∧
      d.tapInstr = if bitOf e.dbgPerm perm = true then code else 0xFF)
    let pins_ := fun (j : Instr) (code : Nat) (lvl : Nat → Bool → Option Bool) => Effect j s (fun d => d = ir code ∧
      (e.held.rails = false → e.fld Reg.PWR_STAT.SEQ ≠ 5 → ∀ n : Nat,
        d.pinTxDis n = lvl (Config.boundaryCell 0 n) (e.txDis n) ∧ d.pinTxBe n = lvl (Config.boundaryCell 1 n) (e.txBe n)))
    let cells := fun (c : Nat) (_ : Bool) => some (bitOf e.tap.boundary c)
    let own := fun (_ : Nat) (v : Bool) => some v
    let y := w48.toNat
    let scans := e.tap.ir = 0x20
    let seen := Emit.tapData (2 ^ 47 * bit e.tap.done + 2 ^ 46 * bit e.tap.err + 2 ^ 32 * e.tap.off + e.tap.data)
    Does .idcode s ((ir 1).emit (.tapData e.idcode)) ∧
    Does (.samplePreload pins shifted) s ({ ir 2 with tap := { e.tap with ir := 2, boundary := shifted } }.emit (.tapData pins)) ∧
    pins_ .extest 3 cells ∧ pins_ .extestPulse 4 cells ∧ pins_ .extestTrain 5 cells ∧ pins_ .clamp 7 cells ∧
    pins_ .highz 6 (fun _ _ => none) ∧ pins_ .truAccess 0x20 own ∧ pins_ .bypass 0xFF own ∧
    (tapPerm e.tap.ir = none → e.tapInstr = 0xFF) ∧
    open_ .brewhouseDebugPort 0x40 1 ∧ open_ .tenderDebugPort 0x41 2 ∧ open_ .internalScan 0x42 3 ∧
    (¬ scans → Does (.truAccessUpdate w48) s e) ∧
    (scans → e.tap.run ≠ none → Does (.truAccessUpdate w48) s (e.emit seen)) ∧
    (scans → e.tap.run = none → Does (.truAccessUpdate w48) s { e with
      out := seen :: e.out
      tap := { e.tap with run := some (bitOf y 47, y / 2 ^ 32 % 2 ^ 14, y % 2 ^ 32), done := false } }) ∧
    (e.mainUp = true → ∀ wr off dat, e.tap.run = some (wr, off, dat) → Effect .truAccessDone s (fun d =>
      d.tap.run = none ∧ d.tap.done = true ∧ d.tap.off = off ∧ (wr = true → d.tap.data = e.tap.data) ∧
      (Reg.find (0x30000 + 4 * off) = none → e.SameRegs d [] ∧ d.tap.err = true ∧ (wr = false → d.tap.data = 0)) ∧
      (Reg.find (0x30000 + 4 * off) ≠ none → e.absent (0x30000 + 4 * off) = false → d.tap.err = false))) := by
  intro e ir open_ pins_ cells own y scans seen
  have hload (code : Nat) : e.tapLoad code = ir code := Dev.tapLoad_up hup code
  have hpins {j : Instr} {code : Nat} {x : PinDrive} (hj : exec j s = s.run (·.tapLoad code)) (hx : (e.irLoaded code).tapDrive = x) :
      pins_ j code (x.level e.tap.boundary) := by
    refine .of_run hj ?_
    rw [hload]
    refine ⟨rfl, fun hr hs n => ?_⟩
    have hlevel (cell : Nat) (own : Bool) : (e.irLoaded code).pinLevel cell own = x.level e.tap.boundary cell own := by
      rw [← hx]
      exact Dev.pinLevel_level (d := e.irLoaded code) hr hs cell own
    exact ⟨hlevel _ _, hlevel _ _⟩
  have hopen {j : Instr} {code perm : Nat} (hj : exec j s = s.run (·.tapLoad code)) (hc : tapPerm code = some (some perm)) : open_ j code perm := by
    refine .of_run hj ?_
    rw [hload]
    refine ⟨rfl, ?_⟩
    show Dev.tapInstr { e with tap := { e.tap with ir := code }, out := .tapIr 1 :: e.out } = _
    simp only [Dev.tapInstr, hc]
    rfl
  have hseen : seen = Emit.tapData e.tapCapture := rfl
  have hupdate : exec (.truAccessUpdate w48) s = s.run (·.tapUpdate w48.toNat) := exec_truAccessUpdate ..
  obtain ⟨hno, hbusy, hidle⟩ := Dev.tapUpdate_eqs (d := e) hup y
  have hdoes {d : Dev} (h : e.tapUpdate y = d) : Does (.truAccessUpdate w48) s d := h ▸ Does.of_run hupdate
  obtain ⟨hcells, hhighz, hdevice⟩ := e.irLoaded_drive
  refine ⟨?_, ?_, hpins (exec_extest ..) (hcells 3 (by simp)), hpins (exec_extestPulse ..) (hcells 4 (by simp)),
    hpins (exec_extestTrain ..) (hcells 5 (by simp)), hpins (exec_clamp ..) (hcells 7 (by simp)), hpins (exec_highz ..) hhighz,
    hpins (exec_truAccess ..) (hdevice 0x20 (by simp)), hpins (exec_bypass ..) (hdevice 0xFF (by simp)), fun h => ?_,
    hopen (exec_brewhouseDebugPort ..) rfl, hopen (exec_tenderDebugPort ..) rfl, hopen (exec_internalScan ..) rfl,
    fun h => hdoes (hno h), fun h hr => hdoes (hbusy h hr), fun h hr => hdoes (hidle h hr), fun hm wr off dat hrun => ?_⟩
  · have heq : e.tapIdcode = (ir 1).emit (.tapData e.idcode) := by rw [Dev.tapIdcode, if_pos hup, hload]
    exact heq ▸ Does.of_run (exec_idcode ..)
  · have heq : e.tapSample pins shifted = Dev.emit { ir 2 with tap := { e.tap with ir := 2, boundary := shifted } } (.tapData pins) := by
      rw [Dev.tapSample, if_pos hup, hload]
    exact heq ▸ Does.of_run (exec_samplePreload ..)
  · simp only [Dev.tapInstr, h]
  · refine .of_run (exec_truAccessDone ..) ?_
    have heq : e.tapAccessDone = e.tapAccess := if_pos (by rw [hm, show e.tapUp = true from hup, show e.tap.run = some _ from hrun]; rfl)
    rw [heq]
    exact Dev.tapAccess_spec hrun

end Clauses

/-- Settles O60: the check-value units by the fields that each access writes, the debug outputs and the controllers likewise, and the TAP
by its loaded instruction. -/
theorem checksAndDebugPorts : Obligations.ChecksAndDebugPorts := by
  unfold Obligations.ChecksAndDebugPorts
  intro s m u b reg i k v key data pins shifted w48 status rdata
  refine ⟨fun hup => ⟨fun hu => ?_, fun hu => debugOutputs m hup hu i v key, ?_⟩, .of_run (exec_tapReset ..), tapClauses pins shifted w48,
    fun h o => if_pos (by rw [h]; decide), fun h => ?_, fun h j hj => ?_⟩
  · obtain ⟨hb, hh, hw⟩ := cvuTakes m hup hu u v
    obtain ⟨hread, hstat⟩ := cvuReads m hup hu u reg
    exact ⟨cvuStarts hup hu m u v, cvuAbandons hup hu m u v, hb, hh, hw, cvuChecks hup hu m u v, hread, hstat⟩
  · obtain ⟨hi1, hi2, hi3, hi4⟩ := i2cClauses hup m b status v rdata
    obtain ⟨hm1, hm2, hm3, hm4⟩ := mdioClauses hup m k v data
    exact ⟨hi1, hi2, hi3, hi4, hm1, hm2, hm3, hm4⟩
  · have heq : s.dev.tapAccessDone = s.dev := by
      refine if_neg fun hc => ?_
      simp only [Bool.and_eq_true, Option.isSome_iff_ne_none] at hc
      rcases h with h | h | h
      · exact Bool.false_ne_true (h.symm.trans hc.1.1)
      · exact Bool.false_ne_true (h.symm.trans hc.1.2)
      · exact hc.2 h
    have hd := Does.of_run (exec_truAccessDone (s := s))
    rwa [heq] at hd
  · have hno : ¬ s.dev.tapUp = true := by rw [h]; decide
    have hload (code : Nat) : s.dev.tapLoad code = s.dev := if_neg hno
    have hdoes {j : Instr} {f : Dev → Dev} (he : exec j s = s.run f) (hf : f s.dev = s.dev) : Does j s s.dev := by
      have hd := Does.of_run he
      rwa [hf] at hd
    revert j
    simp only [List.forall_mem_cons, List.not_mem_nil, false_imp_iff, implies_true, and_true]
    exact ⟨hdoes (exec_idcode ..) (if_neg hno), hdoes (exec_samplePreload ..) (if_neg hno), hdoes (exec_extest ..) (hload _),
      hdoes (exec_extestPulse ..) (hload _), hdoes (exec_extestTrain ..) (hload _), hdoes (exec_highz ..) (hload _), hdoes (exec_clamp ..) (hload _),
      hdoes (exec_truAccess ..) (hload _), hdoes (exec_bypass ..) (hload _), hdoes (exec_brewhouseDebugPort ..) (hload _),
      hdoes (exec_tenderDebugPort ..) (hload _), hdoes (exec_internalScan ..) (hload _),
      hdoes (exec_truAccessUpdate ..) (if_neg fun hc => hno hc.1)⟩

end Sys2Proof.Machine
end

section
/-!
PROOFS. O56: the statement asks the boot record to name the slot of GEN.FW_STAT.BOOTED in a byte, in every state; a state whose one-bit
register holds a value above a byte has no such record.
-/
namespace Sys2Proof.Machine

/-- A trial runs, and BOOTED holds a value that its one bit cannot. -/
def overfullBooted : Dev :=
  { regs := [(Reg.GEN_FW_STAT.TRIAL_RUN.key, 1), (Reg.GEN_FW_STAT.BOOTED.key, 256)] }

theorem overfullBooted_spec : overfullBooted.mainUp = true ∧ overfullBooted.cpxHere = true ∧ overfullBooted.fld Reg.GEN_FW_STAT.TRIAL_RUN ≠ 0 ∧
    overfullBooted.fld Reg.GEN_FW_STAT.BOOTED = 256 := by decide

/-- Refutes O56: FW_CONFIRM writes a record whose byte 8 is to be the value of BOOTED, and BOOTED holds 256. -/
theorem not_generations : ¬ Obligations.Generations := by
  unfold Obligations.Generations
  intro h
  obtain ⟨hup, hcpx, htrial, hbooted⟩ := overfullBooted_spec
  obtain ⟨-, -, -, -, -, -, -, -, -, -, -, -, -, -, -, hconfirm, -⟩ := h { dev := overfullBooted } 0 .pcie false 0 0 hup
  obtain ⟨d, -, -, w, -, -, -, -, hslot, -⟩ := (hconfirm hcpx).1 htrial
  have hlt := byteAt_lt w 8
  rw [hslot, hbooted] at hlt
  exact absurd hlt (by decide)

end Sys2Proof.Machine
end

section
/-!
PROOFS. O53: a record's source is any number, and the route register of source 32781 would lie on the very counter that counts the record's lost
request; the count moves its route, so that the answer leaves on another port than the statement says.
-/
namespace Sys2Proof.Machine

/-- A request from device 32781 to a device without a route. -/
def strayRequest : Rec := { typ := 1, dst := 5, src := 32781 }

/-- The one valid route is that of device 32781, in the register of NO_ROUTE of riser port 1: it leads to port 0. -/
def routeOnCounter : Dev := { regs := [((Reg.RP_ROUTE.VALID 32781).key, 1)] }

theorem routeOnCounter_counts : Reg.RP_ROUTE.PORT 32781 = { Reg.RP_LINK_CNT.COUNT 1 13 with w := 2 } := by decide

theorem routeOnCounter_spec : strayRequest.dst ≠ routeOnCounter.devAddr ∧ routeOnCounter.riserToward strayRequest.dst = none ∧
    strayRequest.src ≠ routeOnCounter.devAddr ∧ routeOnCounter.riserToward strayRequest.src = some 0 := by decide

/-- The answer waits at port 1, where none waited before. -/
theorem routeOnCounter_answers : ((routeOnCounter.routeRec 1 strayRequest).rlink 1).recs ≠ (routeOnCounter.rlink 1).recs := by decide

/-- A record that waits at a port leaves the other ports as they are. -/
theorem Dev.rlink_queueRec_ne {p q : Nat} (h : p ≠ q) (d : Dev) (r : Rec) : (d.queueRec q r).rlink p = d.rlink p := by
  unfold Dev.queueRec
  dsimp only
  split <;> exact Tbl.get_set_ne _ _ _ h

/-- Refutes O53: with the route of 32781 on the counter NO_ROUTE of port 1, the count turns the route from port 0 to port 1 before the answer
goes, and no device whose registers differ in that counter alone has it wait at port 0. -/
theorem not_managementRecords : ¬ Obligations.ManagementRecords := by
  unfold Obligations.ManagementRecords
  intro h
  obtain ⟨hdst, hnone, hsrc, hroute⟩ := routeOnCounter_spec
  obtain ⟨-, -, -, hlost, -⟩ := h.2 routeOnCounter 1 strayRequest {}
  obtain ⟨e, hsets, he⟩ := hlost hdst hnone (.inl rfl) hsrc 0 hroute
  have hlinks : e.rlinks = routeOnCounter.rlinks := (congrArg Dev.rlinks hsets.2 :)
  refine routeOnCounter_answers ?_
  calc ((routeOnCounter.routeRec 1 strayRequest).rlink 1).recs
    _ = (e.rlink 1).recs := by rw [show routeOnCounter.routeRec 1 strayRequest = _ from he, Dev.rlink_queueRec_ne (by decide)]
    _ = (routeOnCounter.rlink 1).recs := by rw [Dev.rlink, hlinks, Dev.rlink]

end Sys2Proof.Machine
end

section
/-!
PROOFS. O54: what a record that goes out leaves as it is, and what the hierarchy's own commands and timers do (spec/11 R305 to R320).
-/
namespace Sys2Proof.Machine
variable {d e : Dev} {p k : Nat} {r : Rec}

/-! ### A record goes out -/

theorem Dev.queueRec_keeps (d : Dev) (q : Nat) (r : Rec) : { d.queueRec q r with rlinks := d.rlinks } = d := by
  unfold Dev.queueRec
  dsimp only
  split <;> rfl

theorem Dev.queueRec_of_plain (h8 : r.typ ≠ 8) (h10 : r.typ ≠ 10) (d : Dev) (q : Nat) :
    d.queueRec q r = d.setRlink q { d.rlink q with recs := (d.rlink q).recs ++ [r] } :=
  if_neg (by simp [h8, h10])

theorem Dev.queueRec_of_urgent (h : r.typ = 8) (d : Dev) (q : Nat) :
    d.queueRec q r = d.setRlink q { d.rlink q with urgent := (d.rlink q).urgent ++ [r] } :=
  if_pos (.inl h)

theorem Dev.each_queue_keeps (c : Dev → Nat → Bool) (r : Rec) (l : List Nat) (d : Dev) :
    { d.each l (fun d q => d.iff (c d q) (·.queueRec q r)) with rlinks := d.rlinks } = d := by
  induction l generalizing d with
  | nil => rfl
  | cons q l ih =>
    have hone : { d.iff (c d q) (·.queueRec q r) with rlinks := d.rlinks } = d := by
      cases c d q
      · rfl
      · exact d.queueRec_keeps q r
    exact Eq.trans (congrArg (fun e : Dev => { e with rlinks := d.rlinks }) (ih (d.iff (c d q) (·.queueRec q r))) :) hone

theorem Dev.broadcast_keeps (d : Dev) (p : Nat) (r : Rec) : { d.broadcast p r with rlinks := d.rlinks } = d :=
  Dev.each_queue_keeps (fun d q => q != p && d.aligned q && !d.isUplink q && d.riserActive q == q) r (List.range 4) d

/-- `e` is `d` after a record of this device has gone, or has been found without a route: its operations are as they were. -/
structure Dev.Routed (d e : Dev) : Prop where
  regs : d.SameRegs e [Reg.RP_LINK_CNT.COUNT 0 13]
  hier : { e.hier with loop := d.hier.loop } = d.hier

theorem Dev.Routed.queueRec (h : d.Routed e) (q : Nat) (r : Rec) : d.Routed (e.queueRec q r) := by
  have hk := e.queueRec_keeps q r
  have hregs : (e.queueRec q r).regs = e.regs := (congrArg Dev.regs hk :)
  have hhier : (e.queueRec q r).hier = e.hier := (congrArg Dev.hier hk :)
  exact ⟨h.regs.of_regs hregs, by rw [hhier, h.hier]⟩

theorem Dev.Routed.loopRec (h : d.Routed e) (p : Nat) (r : Rec) : d.Routed (e.loopRec p r ({} : Stamp)) :=
  ⟨h.regs.of_regs rfl, h.hier⟩

theorem Dev.noRoute_routed (d : Dev) : d.Routed (d.noRoute 4) :=
  ⟨(Dev.SameRegs.refl d _).put (by simp) _, rfl⟩

theorem Dev.Routed.refl (d : Dev) : d.Routed d := ⟨.refl d _, rfl⟩

theorem Dev.routeRec_routed (d : Dev) (r : Rec) : d.Routed (d.routeRec 4 r) := by
  unfold Dev.routeRec
  split
  · exact (Dev.Routed.refl d).loopRec 4 r
  · cases d.riserToward r.dst with
    | some q => exact (Dev.Routed.refl d).queueRec q r
    | none =>
      dsimp only
      split
      · split
        · exact d.noRoute_routed.loopRec 4 _
        · cases (d.noRoute 4).riserToward r.src with
          | some q => exact d.noRoute_routed.queueRec q _
          | none => exact d.noRoute_routed
      · exact d.noRoute_routed

theorem Dev.gopReportTo_routed (d : Dev) (kind id st : Nat) : d.Routed (d.gopReportTo kind id st) := d.routeRec_routed _

theorem Dev.Routed.fld_eq (h : d.Routed e) {f : Fld} (hf : f.key ≠ (Reg.RP_LINK_CNT.COUNT 0 13).key) : e.fld f = d.fld f :=
  h.regs.fld_eq (by simpa using hf)

theorem Dev.Routed.gop_eq (h : d.Routed e) : e.hier.gop = d.hier.gop := (congrArg Hier.gop h.hier :)

theorem Dev.Routed.snap_eq (h : d.Routed e) : e.hier.snap = d.hier.snap := (congrArg Hier.snap h.hier :)

/-! ### Remote access (R305) -/

def raccCmdFlds (k x : Nat) : List (Fld × Nat) := [(Reg.RP_RACC_CMD.OP k, x % 2), (Reg.RP_RACC_CMD.DEV k, x / 2 % 32)]

def raccDone (k c : Nat) : List (Fld × Nat) := [(Reg.RP_RACC_STAT.STATUS k, c), (Reg.RP_RACC_STAT.BUSY k, 0), (Reg.RP_HIER_EVT.RACC_DONE, 1)]

/-- RACC_CMD of slot k with OP and DEV as written. -/
def Dev.raccSet (d : Dev) (k v : Nat) : Dev := (d.put (Reg.RP_RACC_CMD.OP k) v).put (Reg.RP_RACC_CMD.DEV k) (bits v 1 5)

theorem racc_nodup (k : Nat) (x c : Nat) : ((raccCmdFlds k x ++ raccDone k c).map (·.1.key)).Nodup := by
  simp only [raccCmdFlds, raccDone, List.cons_append, List.nil_append, List.map_cons, List.map_nil, List.nodup_cons, List.mem_cons, List.not_mem_nil,
    or_false, not_or, List.nodup_nil, and_true, not_false_eq_true, Fld.key, Reg.RP_RACC_CMD.OP, Reg.RP_RACC_CMD.DEV, Reg.RP_RACC_STAT.STATUS, Reg.RP_RACC_STAT.BUSY,
    Reg.RP_HIER_EVT.RACC_DONE]
  omega

theorem Dev.raccSet_sets (d : Dev) (k v : Nat) : d.Sets (d.raccSet k v) (raccCmdFlds k v) := by
  have h : d.Sets (d.raccSet k v) _ := Dev.puts_sets_mod (l := [(Reg.RP_RACC_CMD.OP k, v), (Reg.RP_RACC_CMD.DEV k, bits v 1 5)])
    (by simp [Fld.key, Reg.RP_RACC_CMD.OP, Reg.RP_RACC_CMD.DEV]) d
  simpa [raccCmdFlds, bits, Reg.RP_RACC_CMD.OP, Reg.RP_RACC_CMD.DEV] using h

theorem Dev.raccEnd_sets (d : Dev) (k : Nat) {c : Nat} (hc : c < 4) :
    { d with hier := { d.hier with tags := Tbl.del d.hier.tags k } }.Sets (d.raccEnd k c) (raccDone k c) :=
  Dev.puts_sets (l := raccDone k c) ((List.nodup_append.1 (by rw [← List.map_append]; exact racc_nodup k 0 c)).2.1)
    (by simp [raccDone, Reg.RP_RACC_STAT.STATUS, Reg.RP_RACC_STAT.BUSY, Reg.RP_HIER_EVT.RACC_DONE]; exact hc) _

/-- Slot k holds the tag of its request and what it asks. -/
def Dev.raccTag (d : Dev) (k x : Nat) : Dev :=
  { d with hier := { d.hier with tags := Tbl.set d.hier.tags k d.hier.nextTag, wrote := Tbl.set d.hier.wrote k (x % 2), nextTag := (d.hier.nextTag + 1) % 256 } }

/-- The request of slot k that GO sends. -/
def Dev.raccRec (d : Dev) (k x : Nat) : Rec :=
  { typ := 1 + x % 2
    dst := x / 2 % 32
    src := d.devAddr
    tag := d.hier.nextTag
    body := beBytes (d.fld (Reg.RP_RACC_ADDR.ADDR k)) 4 ++ (if x % 2 = 1 then beBytes (d.fld (Reg.RP_RACC_DATA.DATA k)) 4 else []) }

theorem bits_zero_one (v : Nat) : bits v 0 1 = v % 2 := by rw [bits, Nat.pow_zero, Nat.div_one, Nat.pow_one]

/-- What of RACC_CMD's word a GO uses, GO itself apart. -/
theorem raccGo_word (v : Word) : let w := (v ||| 0x40#32).toNat
    bitOf w 6 = true ∧ bits w 0 1 = v.toNat % 2 ∧ bits w 1 5 = v.toNat / 2 % 32 := by
  rw [show (0x40#32 : Word) = BitVec.ofNat 32 (2 ^ 6) from by decide]
  refine ⟨or_bit_same v (by decide), ?_, or_bit_keeps v (by decide) (.inr (by decide))⟩
  rw [or_bit_keeps v (by decide) (.inr (by decide)), bits_zero_one]

theorem Dev.raccSet_eq (d : Dev) (k v : Nat) : d.raccSet k v = (d.put (Reg.RP_RACC_CMD.OP k) (bits v 0 1)).put (Reg.RP_RACC_CMD.DEV k) (bits v 1 5) := by
  rw [Dev.raccSet, Dev.put, Dev.put, Dev.put, Dev.put, bits_zero_one]
  simp only [Reg.RP_RACC_CMD.OP, Nat.pow_one, Nat.mod_mod]

theorem Dev.raccCmd_go {v : Nat} (h : bitOf v 6 = true) (d : Dev) (k : Nat) : d.raccCmd k v =
    let e := d.raccSet k v
    let e1 := (e.setHier { e.hier with tags := Tbl.set e.hier.tags k e.hier.nextTag
                                       wrote := Tbl.set e.hier.wrote k (bits v 0 1)
                                       nextTag := (e.hier.nextTag + 1) % 256 }).put (Reg.RP_RACC_STAT.BUSY k) 1
    let addr := beBytes (e.fld (Reg.RP_RACC_ADDR.ADDR k)) 4
    if e.on (Reg.RP_RACC_STAT.BUSY k) then e
    else if !e.addrValid then e.raccEnd k 3
    else e1.routeRec 4 (e1.mkRec (if bitOf v 0 then 2 else 1) (bits v 1 5) false e.hier.nextTag
      (if bitOf v 0 then addr ++ beBytes (e.fld (Reg.RP_RACC_DATA.DATA k)) 4 else addr)) := by
  rw [Dev.raccCmd, h]
  rfl

/-- The write of RACC_CMD with GO, by the slot and the address. -/
theorem Dev.raccGo_eq (d : Dev) (m : Master) (k : Fin 4) (v : Word) : d.poke m (Reg.RP_RACC_CMD.ADR k) (v ||| 0x40#32) =
    let e := d.raccSet k v.toNat
    let e1 := (e.raccTag k v.toNat).put (Reg.RP_RACC_STAT.BUSY k) 1
    if e.on (Reg.RP_RACC_STAT.BUSY k) then e
    else if !e.addrValid then e.raccEnd k 3
    else e1.routeRec 4 { e.raccRec k v.toNat with src := e1.devAddr } := by
  obtain ⟨h6, h0, h1⟩ := raccGo_word v
  have hset : d.raccSet k (v ||| 0x40#32).toNat = d.raccSet k v.toNat := by
    rw [Dev.raccSet_eq, Dev.raccSet_eq, h0, h1, bits_zero_one]
    rfl
  have hmsg : (if bitOf (v ||| 0x40#32).toNat 0 then (2 : Nat) else 1) = 1 + v.toNat % 2 ∧
      ∀ b c : List Byte, (if bitOf (v ||| 0x40#32).toNat 0 then b ++ c else b) = b ++ (if v.toNat % 2 = 1 then c else []) := by
    simp only [bitOf_iff_bits, h0]
    obtain hx | hx : v.toNat % 2 = 0 ∨ v.toNat % 2 = 1 := by omega
    · simp [hx]
    · simp [hx]
  rw [Dev.poke_RP_RACC_CMD, Dev.raccCmd_go h6, hset, h0, h1, hmsg.1]
  dsimp only
  rw [hmsg.2]
  rfl

/-! ### Who this device is -/

/-- The fields that tell a device's role and address. -/
def selfFlds : List Fld := [Reg.RP_HIER_STAT.ROLE, Reg.RP_HIER_STAT.ADDR_VALID, Reg.RP_HIER_STAT.ADDR]

theorem Dev.self_congr (h : ∀ f ∈ selfFlds, e.fld f = d.fld f) : e.worker = d.worker ∧ e.addrValid = d.addrValid ∧ e.devAddr = d.devAddr := by
  obtain ⟨hr, hv, ha⟩ : e.fld Reg.RP_HIER_STAT.ROLE = d.fld Reg.RP_HIER_STAT.ROLE ∧ e.fld Reg.RP_HIER_STAT.ADDR_VALID = d.fld Reg.RP_HIER_STAT.ADDR_VALID ∧
    e.fld Reg.RP_HIER_STAT.ADDR = d.fld Reg.RP_HIER_STAT.ADDR := by simpa [selfFlds] using h
  have hw : e.worker = d.worker := by rw [Dev.worker, Dev.worker, Dev.on, Dev.on, hr]
  exact ⟨hw, by rw [Dev.addrValid, Dev.addrValid, hw, Dev.on, Dev.on, hv], by rw [Dev.devAddr, Dev.devAddr, hw, ha]⟩

theorem Dev.on_eq_false {f : Fld} : d.on f = false ↔ d.fld f = 0 := by simp [Dev.on]

theorem Dev.on_eq_true {f : Fld} : d.on f = true ↔ d.fld f ≠ 0 := by simp [Dev.on]

/-- What a GO reads is apart from OP and DEV, and the device's address from BUSY too. -/
theorem raccCmdFlds_apart (k : Nat) (hk : k < 4) : (∀ f ∈ selfFlds ++ [Reg.RP_RACC_STAT.BUSY k, Reg.RP_RACC_ADDR.ADDR k, Reg.RP_RACC_DATA.DATA k],
    f.key ∉ [(Reg.RP_RACC_CMD.OP k).key, (Reg.RP_RACC_CMD.DEV k).key]) ∧ ∀ f ∈ selfFlds, f.key ≠ (Reg.RP_RACC_STAT.BUSY k).key := by
  revert k
  decide

theorem Dev.raccSet_reads (d : Dev) {k : Nat} (hk : k < 4) (v : Nat) {f : Fld}
    (hf : f ∈ selfFlds ++ [Reg.RP_RACC_STAT.BUSY k, Reg.RP_RACC_ADDR.ADDR k, Reg.RP_RACC_DATA.DATA k]) : (d.raccSet k v).fld f = d.fld f :=
  (d.raccSet_sets k v).1.fld_eq ((raccCmdFlds_apart k hk).1 f hf)

theorem Dev.raccSet_self (d : Dev) {k : Nat} (hk : k < 4) (v : Nat) : (d.raccSet k v).addrValid = d.addrValid ∧ (d.raccSet k v).devAddr = d.devAddr :=
  (Dev.self_congr fun _ hf => d.raccSet_reads hk v (List.mem_append_left _ hf)).2

theorem Dev.raccSet_busy (d : Dev) {k : Nat} (hk : k < 4) (v : Nat) : (d.raccSet k v).on (Reg.RP_RACC_STAT.BUSY k) = d.on (Reg.RP_RACC_STAT.BUSY k) := by
  rw [Dev.on, Dev.on, d.raccSet_reads hk v (by simp)]

theorem Dev.raccSet_rec (d : Dev) {k : Nat} (hk : k < 4) (v x : Nat) : (d.raccSet k v).raccRec k x = d.raccRec k x := by
  rw [Dev.raccRec, Dev.raccRec, (d.raccSet_self hk v).2, d.raccSet_reads hk v (f := Reg.RP_RACC_ADDR.ADDR k) (by simp),
    d.raccSet_reads hk v (f := Reg.RP_RACC_DATA.DATA k) (by simp)]
  rfl

theorem Dev.raccGo_busy (m : Master) (k : Fin 4) (v : Word) (h : d.fld (Reg.RP_RACC_STAT.BUSY k) ≠ 0) :
    d.poke m (Reg.RP_RACC_CMD.ADR k) (v ||| 0x40#32) = d.raccSet k v.toNat := by
  rw [Dev.raccGo_eq]
  exact if_pos (by rw [d.raccSet_busy k.isLt, Dev.on_eq_true]; exact h)

theorem Dev.raccGo_idle (m : Master) (k : Fin 4) (v : Word) (h : d.fld (Reg.RP_RACC_STAT.BUSY k) = 0) (ha : d.addrValid = false) :
    d.poke m (Reg.RP_RACC_CMD.ADR k) (v ||| 0x40#32) = (d.raccSet k v.toNat).raccEnd k 3 := by
  rw [Dev.raccGo_eq]
  refine (if_neg (by rw [d.raccSet_busy k.isLt, Dev.on_eq_false.2 h]; decide)).trans (if_pos ?_)
  rw [(d.raccSet_self k.isLt _).1, ha]
  rfl

theorem Dev.raccGo_sent (m : Master) (k : Fin 4) (v : Word) (h : d.fld (Reg.RP_RACC_STAT.BUSY k) = 0) (ha : d.addrValid = true) : ∃ e : Dev,
    (d.raccTag k v.toNat).Sets e (raccCmdFlds k v.toNat ++ [(Reg.RP_RACC_STAT.BUSY k, 1)]) ∧
    d.poke m (Reg.RP_RACC_CMD.ADR k) (v ||| 0x40#32) = e.routeRec 4 (d.raccRec k v.toNat) := by
  have hset := d.raccSet_sets k v.toNat
  have hkey : (Reg.RP_RACC_STAT.BUSY k).key ∉ (raccCmdFlds k v.toNat).map (·.1.key) :=
    (raccCmdFlds_apart k k.isLt).1 (Reg.RP_RACC_STAT.BUSY k) (by simp)
  have htag : (d.raccTag k v.toNat).Sets ((d.raccSet k v.toNat).raccTag k v.toNat) (raccCmdFlds k v.toNat) :=
    (d.raccTag k v.toNat).raccSet_sets k v.toNat
  refine ⟨_, (htag.put_of_lt _ (v := 1) (show 1 < 2 ^ 1 by decide) hkey).of_mem_iff (by simp [or_comm]), ?_⟩
  have hself : ((((d.raccSet k v.toNat).raccTag k v.toNat).put (Reg.RP_RACC_STAT.BUSY k) 1)).devAddr = d.devAddr :=
    (Dev.self_congr fun f hf => (Dev.fld_put_ne _ _ ((raccCmdFlds_apart k k.isLt).2 f hf)).trans
      (d.raccSet_reads k.isLt v.toNat (List.mem_append_left _ hf))).2.2
  rw [Dev.raccGo_eq]
  refine (if_neg (by rw [d.raccSet_busy k.isLt, Dev.on_eq_false.2 h]; decide)).trans ((if_neg ?_).trans ?_)
  · rw [(d.raccSet_self k.isLt _).1, ha]
    decide
  · rw [hself, d.raccSet_rec k.isLt]
    rfl

theorem Dev.raccSet_end (d : Dev) {k c : Nat} (hc : c < 4) (v : Nat) :
    { d with hier := { d.hier with tags := Tbl.del d.hier.tags k } }.Sets ((d.raccSet k v).raccEnd k c) (raccCmdFlds k v ++ raccDone k c) := by
  have hset : { d with hier := { d.hier with tags := Tbl.del d.hier.tags k } }.Sets
    (Dev.raccSet { d with hier := { d.hier with tags := Tbl.del d.hier.tags k } } k v) (raccCmdFlds k v) := Dev.raccSet_sets _ k v
  refine hset.trans ((d.raccSet k v).raccEnd_sets k hc) fun x hx y hy => ?_
  have hn := racc_nodup k v c
  rw [List.map_append, List.nodup_append] at hn
  exact hn.2.2 _ (List.mem_map_of_mem hx) _ (List.mem_map_of_mem hy)

/-! ### Probes (R307) -/

def probeDone (c : Nat) : List (Fld × Nat) := [(Reg.RP_PROBE_STAT.STATUS, c), (Reg.RP_PROBE_STAT.BUSY, 0), (Reg.RP_HIER_EVT.PROBE_DONE, 1)]

theorem Dev.probeEnd_sets (d : Dev) {c : Nat} (hc : c < 8) :
    { d with hier := { d.hier with probe := none } }.Sets (d.probeEnd c) (probeDone c) :=
  Dev.puts_sets (l := probeDone c) (by simp only [probeDone, List.map_cons, List.map_nil]; decide) 
    (by simp only [probeDone, List.forall_mem_cons]; exact ⟨hc, by decide, by decide, by simp⟩) _

theorem probeGo_word (v : Word) : let w := (v ||| 0x80#32).toNat
    bitOf w 7 = true ∧ w % 4 = v.toNat % 4 ∧ bits w 2 5 = bits v.toNat 2 5 := by
  rw [show (0x80#32 : Word) = BitVec.ofNat 32 (2 ^ 7) from by decide]
  refine ⟨or_bit_same v (by decide), ?_, or_bit_keeps v (by decide) (.inr (by decide))⟩
  have h := or_bit_keeps v (i := 7) (lo := 0) (w := 2) (by decide) (.inr (by decide))
  rwa [bits, bits, Nat.pow_zero, Nat.div_one, Nat.div_one] at h

theorem Dev.probeGo_eq (d : Dev) (m : Master) (v : Word) : d.poke m Reg.RP_PROBE_CMD.ADR (v ||| 0x80#32) = d.probeGo (v.toNat % 4) (bits v.toNat 2 5) := by
  obtain ⟨h7, h0, h2⟩ := probeGo_word v
  rw [Dev.poke_RP_PROBE_CMD, h7, h0, h2]
  rfl

/-- Port `port` asks its peer. -/
def Dev.probeAsks (d : Dev) (port addr : Nat) : Dev :=
  let asks : Rec := { typ := 5, loc := true, src := d.devAddr, body := beBytes addr 1 ++ beBytes (d.fld Reg.RP_HIER_STAT.DEPTH) 1 }
  let probing : RLink := { d.rlink port with recs := (d.rlink port).recs ++ [asks] }
  { d with hier := { d.hier with probe := some port }, rlinks := Tbl.set d.rlinks port probing }

/-- GO with no probe running: refused by the first cause, or sent. -/
theorem Dev.probeGo_free {port addr : Nat} (h : d.fld Reg.RP_PROBE_STAT.BUSY = 0) : d.probeGo port addr =
    if 2 ≤ d.fld Reg.RP_HIER_STAT.DEPTH then d.probeEnd 5
    else if addr = 0 ∨ addr = 31 then d.probeEnd 6
    else if d.aligned port = false then d.probeEnd 7
    else if d.fld (Reg.RP_PHY_CTRL.UPPER port) = 0 ∨ d.fld (Reg.RP_PHY_STAT.PEER_UPPER port) ≠ 0 then d.probeEnd 4
    else (d.probeAsks port addr).put Reg.RP_PROBE_STAT.BUSY 1 := by
  have hlower : (!d.on (Reg.RP_PHY_CTRL.UPPER port) || d.on (Reg.RP_PHY_STAT.PEER_UPPER port)) = true ↔
      (d.fld (Reg.RP_PHY_CTRL.UPPER port) = 0 ∨ d.fld (Reg.RP_PHY_STAT.PEER_UPPER port) ≠ 0) := by
    rw [Bool.or_eq_true, Bool.not_eq_true', Dev.on_eq_false, Dev.on_eq_true]
  have hasks (b : List Byte) : ((d.put Reg.RP_PROBE_STAT.BUSY 1).setHier { d.hier with probe := some port }).queueRec port (d.mkRec 5 0 true 0 b) =
      ((d.put Reg.RP_PROBE_STAT.BUSY 1).setHier { d.hier with probe := some port }).setRlink port
        { d.rlink port with recs := (d.rlink port).recs ++ [d.mkRec 5 0 true 0 b] } :=
    Dev.queueRec_of_plain (show 5 ≠ 8 by decide) (show 5 ≠ 10 by decide) _ port
  simp only [Dev.probeGo, Dev.on_eq_false.2 h, hlower, Bool.not_eq_true', hasks]
  rfl

/-! ### Time transfer (R308) -/

/-- The upper device's timer at one port. -/
def Dev.syncOne (d : Dev) (p : Nat) : Dev :=
  if d.aligned p && d.on (Reg.RP_LINK_CTRL.XFER_EN p) then
    (d.queueRec p (d.mkRec 8 0 true 0 (beBytes d.hier.syncSeq 2))).setHier { d.hier with syncSeq := (d.hier.syncSeq + 1) % 65536 }
  else d

/-- SYNC goes at port q. -/
def Dev.Syncs (d : Dev) (q : Nat) : Prop := d.aligned q = true ∧ d.fld (Reg.RP_LINK_CTRL.XFER_EN q) ≠ 0

theorem Dev.syncOne_keeps (d : Dev) (p : Nat) : { d.syncOne p with rlinks := d.rlinks, hier := d.hier } = d := by
  unfold Dev.syncOne
  split
  · exact (congrArg (fun e : Dev => { e with hier := d.hier }) (d.queueRec_keeps p _) :)
  · rfl

theorem Dev.syncOne_same (d : Dev) (p : Nat) : (d.syncOne p).devAddr = d.devAddr ∧ ∀ q, (d.syncOne p).Syncs q ↔ d.Syncs q := by
  have hk := d.syncOne_keeps p
  refine ⟨(congrArg Dev.devAddr hk :), fun q => ?_⟩
  have ha : (d.syncOne p).aligned q = d.aligned q := (congrArg (Dev.aligned · q) hk :)
  have hx : (d.syncOne p).fld (Reg.RP_LINK_CTRL.XFER_EN q) = d.fld (Reg.RP_LINK_CTRL.XFER_EN q) := (congrArg (Dev.fld · (Reg.RP_LINK_CTRL.XFER_EN q)) hk :)
  rw [Dev.Syncs, Dev.Syncs, ha, hx]

theorem Dev.syncOne_rlink_ne {p q : Nat} (h : q ≠ p) (d : Dev) : (d.syncOne p).rlink q = d.rlink q := by
  unfold Dev.syncOne
  split
  · exact (congrArg (Dev.rlink · q) (Dev.queueRec_of_urgent (show (d.mkRec 8 _ _ _ _).typ = 8 from rfl) d p)).trans (Dev.rlink_setRlink_ne _ _ _ h)
  · rfl

theorem Dev.syncOne_urgent (h : d.Syncs p) : ((d.syncOne p).rlink p).urgent =
    (d.rlink p).urgent ++ [{ typ := 8, loc := true, src := d.devAddr, body := beBytes d.hier.syncSeq 2 }] := by
  obtain ⟨ha, hx⟩ := h
  rw [Dev.syncOne, if_pos (by rw [ha, Dev.on_eq_true.2 hx]; rfl)]
  refine (congrArg (fun e : Dev => (e.rlink p).urgent) (Dev.queueRec_of_urgent (show (d.mkRec 8 _ _ _ _).typ = 8 from rfl) d p)).trans ?_
  rw [Dev.rlink_setRlink]
  rfl

theorem Dev.syncOne_silent (h : ¬ d.Syncs p) : d.syncOne p = d := by
  refine if_neg fun hc => h ?_
  rw [Bool.and_eq_true, Dev.on_eq_true] at hc
  exact hc

/-- The timer at several ports: each sends or stays by its own condition. -/
theorem Dev.each_syncOne (l : List Nat) (hl : l.Nodup) (d : Dev) : let e := d.each l Dev.syncOne
    e.regs = d.regs ∧ (∀ q ∉ l, e.rlink q = d.rlink q) ∧ ∀ q ∈ l,
      (d.Syncs q → ∃ n, (e.rlink q).urgent = (d.rlink q).urgent ++ [{ typ := 8, loc := true, src := d.devAddr, body := beBytes n 2 }]) ∧
      (¬ d.Syncs q → e.rlink q = d.rlink q) := by
  induction l generalizing d with
  | nil => exact ⟨rfl, fun _ _ => rfl, fun _ hq => absurd hq List.not_mem_nil⟩
  | cons p l ih =>
    obtain ⟨hp, hl⟩ := List.nodup_cons.1 hl
    obtain ⟨haddr, hsync⟩ := d.syncOne_same p
    obtain ⟨hregs, hout, hin⟩ := ih hl (d.syncOne p)
    refine ⟨hregs.trans (congrArg Dev.regs (d.syncOne_keeps p) :), fun q hq => ?_, fun q hq => ?_⟩
    · rw [List.mem_cons, not_or] at hq
      exact (hout q hq.2).trans (Dev.syncOne_rlink_ne hq.1 d)
    · obtain rfl | hq := List.mem_cons.1 hq
      · change (_ → ∃ n, (((d.syncOne q).each l Dev.syncOne).rlink q).urgent = _) ∧ (_ → ((d.syncOne q).each l Dev.syncOne).rlink q = _)
        rw [hout q hp]
        exact ⟨fun h => ⟨_, Dev.syncOne_urgent h⟩, fun h => by rw [Dev.syncOne_silent h]⟩
      · have hne : q ≠ p := fun h => hp (h ▸ hq)
        obtain ⟨hs, hn⟩ := hin q hq
        rw [hsync, Dev.syncOne_rlink_ne hne, haddr] at hs
        rw [hsync, Dev.syncOne_rlink_ne hne] at hn
        exact ⟨hs, hn⟩

theorem Dev.xferTimer_eq (d : Dev) : d.xferTimer = d.each (List.range 4) Dev.syncOne := rfl

theorem Dev.exchTimeout_sets (h : d.hier.exch ≠ none) : { d with hier := { d.hier with exch := none } }.Sets d.exchTimeout
    [(Reg.TIM_CNT.COUNT 2, min (2 ^ 32 - 1) (d.fld (Reg.TIM_CNT.COUNT 2) + 1))] := by
  rw [Dev.exchTimeout, if_pos (Option.isSome_iff_ne_none.2 h)]
  exact (Dev.Sets.nil _).bump _ (by simp)

/-! ### Pairs (R311 to R313) -/

theorem Dev.members_of_some {en : Bool} {a b : Nat} {ab : Nat × Nat}
    (h : (if en ∧ a ≠ b ∧ d.rpHere a ∧ d.rpHere b then some (a, b) else none) = some ab) : ab.1 ≠ ab.2 ∧ ab.1 < 4 ∧ ab.2 < 4 := by
  obtain ⟨⟨-, hne, ha, hb⟩, hab⟩ := Option.ite_none_right_eq_some.1 h
  obtain rfl := Option.some.inj hab
  rw [Dev.rpHere, Bool.and_eq_true, decide_eq_true_iff] at ha hb
  exact ⟨hne, ha.1, hb.1⟩

/-- The two members of an enabled pair are present and distinct. -/
theorem Dev.pair_members {j : Nat} {ab : Nat × Nat} (h : d.pair j = some ab) : ab.1 ≠ ab.2 ∧ ab.1 < 4 ∧ ab.2 < 4 := by
  by_cases hj : j = 0
  · simp only [Dev.pair, hj, if_true] at h
    exact Dev.members_of_some h
  · simp only [Dev.pair, hj, if_false] at h
    exact Dev.members_of_some h

/-- The member of a pair that is not active. -/
def Dev.pairOther (d : Dev) (j : Nat) (ab : Nat × Nat) : Nat := if d.pairActive j ab = ab.1 then ab.2 else ab.1

theorem Dev.pair_apart {j : Nat} {ab : Nat × Nat} (h : d.pair j = some ab) :
    d.pairActive j ab ≠ d.pairOther j ab ∧ d.pairActive j ab < 4 ∧ d.pairOther j ab < 4 := by
  obtain ⟨hne, ha, hb⟩ := Dev.pair_members h
  unfold Dev.pairOther Dev.pairActive
  cases d.on (pairAct j)
  · simpa using ⟨hne, ha, hb⟩
  · simpa [hne.symm] using ⟨hb, ha⟩

/-- The frame in transmission on `old` is given up. -/
def Dev.pairCut (d : Dev) (old : Nat) : Dev :=
  match (d.rlink old).tx with
  | some t => if t.over then d else (d.setRlink old { d.rlink old with tx := none, abort := true }).linkCnt old 12
  | none => d

theorem Dev.pairCut_spec (d : Dev) (old : Nat) : (∀ q ≠ old, (d.pairCut old).rlink q = d.rlink q) ∧ ((d.pairCut old).rlink old).recs = (d.rlink old).recs ∧
    ∀ t, (d.rlink old).tx = some t → t.over = false → ((d.pairCut old).rlink old).tx = none ∧ ((d.pairCut old).rlink old).abort = true := by
  unfold Dev.pairCut
  cases htx : (d.rlink old).tx with
  | none => exact ⟨fun _ _ => rfl, rfl, fun _ h => absurd h (by simp)⟩
  | some t =>
    dsimp only
    cases hover : t.over
    · refine ⟨fun q hq => Dev.rlink_setRlink_ne _ _ _ hq, ?_, fun _ _ _ => ?_⟩
      · exact (congrArg RLink.recs (Dev.rlink_setRlink (d := d) old _) :)
      · exact ⟨(congrArg RLink.tx (Dev.rlink_setRlink (d := d) old _) :), (congrArg RLink.abort (Dev.rlink_setRlink (d := d) old _) :)⟩
    · refine ⟨fun _ _ => rfl, rfl, fun u hu ho => ?_⟩
      rw [← Option.some.inj hu, hover] at ho
      exact absurd ho (by decide)

theorem Dev.pairMove_spec (d : Dev) {old new : Nat} (hne : old ≠ new) : let e := d.pairMove old new
    (e.rlink new).recs = (d.rlink new).recs ++ (d.rlink old).recs.filter (fun r => !r.loc) ∧
    (e.rlink old).recs = (d.rlink old).recs.filter (·.loc) ∧
    ∀ t, (d.rlink old).tx = some t → t.over = false → (e.rlink old).tx = none ∧ (e.rlink old).abort = true := by
  obtain ⟨hother, hrecs, htx⟩ := d.pairCut_spec old
  obtain ⟨x, hx⟩ : ∃ x, x = d.pairCut old := ⟨_, rfl⟩
  have heq : d.pairMove old new = (x.setRlink old { x.rlink old with recs := (x.rlink old).recs.filter (·.loc) }).setRlink new
      { x.rlink new with recs := (x.rlink new).recs ++ (x.rlink old).recs.filter (fun r => !r.loc) } := by
    rw [hx]
    rfl
  rw [← hx] at hother hrecs htx
  intro e
  have hnew : e.rlink new = { x.rlink new with recs := (x.rlink new).recs ++ (x.rlink old).recs.filter (fun r => !r.loc) } :=
    (congrArg (Dev.rlink · new) heq).trans (Dev.rlink_setRlink ..)
  have hold : e.rlink old = { x.rlink old with recs := (x.rlink old).recs.filter (·.loc) } :=
    (congrArg (Dev.rlink · old) heq).trans ((Dev.rlink_setRlink_ne _ _ _ hne).trans (Dev.rlink_setRlink ..))
  refine ⟨?_, ?_, fun t ht ho => ?_⟩
  · rw [hnew, ← hrecs, hother new hne.symm]
  · rw [hold, ← hrecs]
  · rw [hold]
    exact htx t ht ho

/-- What a switch of pair j writes in HIER_STAT and its event. -/
def switchFlds (j : Nat) : List Fld := [pairAct j, Reg.RP_HIER_EVT.PAIR_SWITCH, Reg.RP_HIER_STAT.UPLINK]

theorem switchFlds_apart (j : Nat) : ((switchFlds j).map Fld.key).Nodup ∧ ∀ f ∈ switchFlds j, f.key ∉ pllSeen.map Fld.key := by
  by_cases hj : j = 0
  · subst hj
    decide
  · simp only [switchFlds, pairAct, if_neg hj]
    decide

/-- The clock of a worker that follows its uplink is built out and resumed by the switch. -/
def Dev.resumed (d : Dev) : Dev := { d.clockBuildOut with tim := { d.clockBuildOut.tim with resume := true } }

theorem Dev.pairTo_spec {j : Nat} {ab : Nat × Nat} (h : d.pair j = some ab) :
    let old := d.pairActive j ab
    let new := d.pairOther j ab
    let e := d.pairTo j ab true
    e.fld (pairAct j) = (1 - d.fld (pairAct j)) % 2 ∧ e.fld Reg.RP_HIER_EVT.PAIR_SWITCH = 1 ∧ (e.rlink new).homing = true ∧
    (e.rlink new).recs = (d.rlink new).recs ++ (d.rlink old).recs.filter (fun r => !r.loc) ∧
    (e.rlink old).recs = (d.rlink old).recs.filter (·.loc) ∧
    (∀ t, (d.rlink old).tx = some t → t.over = false → (e.rlink old).tx = none ∧ (e.rlink old).abort = true) ∧
    (d.worker = true → d.fld Reg.RP_HIER_STAT.UPLINK = old → e.fld Reg.RP_HIER_STAT.UPLINK = new) := by
  intro old new e
  obtain ⟨hne, -, hnew4⟩ : old ≠ new ∧ old < 4 ∧ new < 4 := Dev.pair_apart h
  obtain ⟨hnewR, holdR, htx⟩ := d.pairMove_spec hne
  obtain ⟨dm, hdm⟩ : ∃ x, x = d.pairMove old new := ⟨_, rfl⟩
  rw [← hdm] at hnewR holdR htx
  obtain ⟨up, hup⟩ : ∃ b : Bool, b = (d.worker && d.fld Reg.RP_HIER_STAT.UPLINK == old) := ⟨_, rfl⟩
  obtain ⟨x3, hx3⟩ : ∃ x, x = ((dm.put (pairAct j) (1 - d.fld (pairAct j))).ev Reg.RP_HIER_EVT.PAIR_SWITCH).iff up (·.put Reg.RP_HIER_STAT.UPLINK new) := ⟨_, rfl⟩
  obtain ⟨x4, hx4⟩ : ∃ x, x = x3.setRlink new { x3.rlink new with homing := true } := ⟨_, rfl⟩
  obtain ⟨c, hc⟩ : ∃ c : Bool, c = (up && d.on Reg.RP_HIER_CTRL.TREF_FOLLOW && d.pllRef == 1) := ⟨_, rfl⟩
  have heq : e = (if c = true then x4.resumed else x4).pllEval := by
    rw [hc, hx4, hx3, hup, hdm]
    rfl
  have hkeep (f : Fld) (hf : f.key ∉ pllSeen.map Fld.key) : e.fld f = x3.fld f := by
    rw [heq, (Dev.pllEval_regs _).1.fld_eq hf, hx4]
    split <;> rfl
  have hlink (q : Nat) : e.rlink q = x4.rlink q := by
    have hr := (congrArg (Dev.rlink · q) (Dev.pllEval_regs (if c = true then x4.resumed else x4)).2 :)
    rw [heq]
    refine hr.trans ?_
    split <;> rfl
  have hnewL : e.rlink new = { dm.rlink new with homing := true } := by
    rw [hlink, hx4, Dev.rlink_setRlink, hx3]
    cases up <;> rfl
  have holdL : e.rlink old = dm.rlink old := by
    rw [hlink, hx4, Dev.rlink_setRlink_ne _ _ _ hne, hx3]
    cases up <;> rfl
  obtain ⟨hnd, hap⟩ := switchFlds_apart j
  simp only [switchFlds, List.forall_mem_cons] at hap
  obtain ⟨hactP, hevP, hupP, -⟩ := hap
  simp only [switchFlds, List.map_cons, List.map_nil, List.nodup_cons, List.mem_cons, List.not_mem_nil, or_false, not_or] at hnd
  obtain ⟨⟨hae, hau⟩, heu, -⟩ := hnd
  refine ⟨?_, ?_, by rw [hnewL], by rw [hnewL, ← hnewR], by rw [holdL, holdR], fun t ht ho => by rw [holdL]; exact htx t ht ho, fun hw hu => ?_⟩
  · have hw1 : (pairAct j).w = 1 := by
      unfold pairAct
      split <;> rfl
    have hev : ((dm.put (pairAct j) (1 - d.fld (pairAct j))).ev Reg.RP_HIER_EVT.PAIR_SWITCH).fld (pairAct j) = (1 - d.fld (pairAct j)) % 2 := by
      rw [Dev.ev, Dev.fld_put_ne _ _ hae, Dev.fld_put_same, hw1, Nat.pow_one]
    rw [hkeep _ hactP, hx3]
    cases up
    · exact hev
    · exact (Dev.fld_put_ne _ _ hau).trans hev
  · rw [hkeep _ hevP, hx3]
    cases up
    · exact Dev.fld_put_same ..
    · exact (Dev.fld_put_ne _ _ heu).trans (Dev.fld_put_same ..)
  · rw [hkeep _ hupP, hx3, hup, hw, hu, beq_self_eq_true]
    exact (Dev.fld_put_same ..).trans (Nat.mod_eq_of_lt hnew4)

/-! ### Global operations (R316 to R320): the write of GOP_CTRL -/

def gopCtl (x : Nat) : List (Fld × Nat) := [(Reg.RP_GOP_CTRL.OP, x % 4), (Reg.RP_GOP_CTRL.RESET_SELF, x / 4 % 2)]

/-- GOP_CTRL with OP and RESET_SELF as written. -/
def Dev.gopSet (d : Dev) (v : Nat) : Dev := (d.put Reg.RP_GOP_CTRL.OP v).put Reg.RP_GOP_CTRL.RESET_SELF (bits v 2 1)

theorem Dev.gopSet_sets (d : Dev) (v : Nat) : d.Sets (d.gopSet v) (gopCtl v) := by
  have h : d.Sets (d.gopSet v) _ := Dev.puts_sets_mod (l := [(Reg.RP_GOP_CTRL.OP, v), (Reg.RP_GOP_CTRL.RESET_SELF, bits v 2 1)])
    (by simp only [List.map_cons, List.map_nil]; decide) d
  simpa [gopCtl, bits, Reg.RP_GOP_CTRL.OP, Reg.RP_GOP_CTRL.RESET_SELF] using h

theorem Dev.gopSet_reads (d : Dev) (v : Nat) {f : Fld} (hf : f.key ≠ Reg.RP_GOP_CTRL.OP.key ∧ f.key ≠ Reg.RP_GOP_CTRL.RESET_SELF.key) :
    (d.gopSet v).fld f = d.fld f :=
  (d.gopSet_sets v).1.fld_eq (by simpa [gopCtl] using hf)

theorem Dev.gopSet_time (d : Dev) (v : Nat) : (d.gopSet v).time = d.time := Dev.time_congr rfl rfl (d.gopSet_reads v (by decide))

theorem Dev.gopSet_nearTime (d : Dev) (v sec ns : Nat) : (d.gopSet v).nearTime sec ns = d.nearTime sec ns := by
  rw [Dev.nearTime, Dev.nearTime, d.gopSet_time]

theorem Dev.gopSet_instant (d : Dev) (v : Nat) : (d.gopSet v).gopInstant = d.gopInstant := by
  rw [Dev.gopInstant, Dev.gopInstant, d.gopSet_nearTime, d.gopSet_reads v (by decide), d.gopSet_reads v (by decide)]

theorem Dev.gopSet_depth (d : Dev) (v : Nat) : (d.gopSet v).gopDepth = d.gopDepth ∧ (d.gopSet v).hopNs = d.hopNs := by
  rw [Dev.gopDepth, Dev.gopDepth, Dev.hopNs, Dev.hopNs, d.gopSet_reads v (by decide), d.gopSet_reads v (by decide)]
  exact ⟨rfl, rfl⟩

theorem Dev.gopSet_minLead (d : Dev) (v : Nat) : (d.gopSet v).minLead = d.minLead := by
  rw [Dev.minLead, Dev.minLead, (d.gopSet_depth v).1, (d.gopSet_depth v).2]

theorem Dev.gopSet_cancelPoint (d : Dev) (v : Nat) (g : Gop) : (d.gopSet v).cancelPoint g = d.cancelPoint g := by
  rw [Dev.cancelPoint, Dev.cancelPoint, (d.gopSet_depth v).1, (d.gopSet_depth v).2]

theorem Dev.gopSet_worker (d : Dev) (v : Nat) : (d.gopSet v).worker = d.worker := by
  rw [Dev.worker, Dev.worker, Dev.on, Dev.on, d.gopSet_reads v (by decide)]

theorem Dev.gopSet_famReady (d : Dev) (v : Nat) (x : Family) (own : Bool) : (d.gopSet v).famReady x own = d.famReady x own := by
  have hx : (d.gopSet v).fld x.heldKind = d.fld x.heldKind ∧ (d.gopSet v).fld x.scrubbing = d.fld x.scrubbing := by
    cases x <;> exact ⟨d.gopSet_reads v (by decide), d.gopSet_reads v (by decide)⟩
  rw [Dev.famReady, Dev.famReady, hx.1, Dev.on, Dev.on, Dev.on, Dev.on, hx.2, d.gopSet_reads v (by decide)]

theorem Dev.gopSet_famOffences (d : Dev) (v : Nat) (x : Family) (src : Nat) : (d.gopSet v).famOffences x src = d.famOffences x src := by
  have hfam : (d.gopSet v).fam x = d.fam x := by cases x <;> rfl
  have htags : (d.gopSet v).actTag = d.actTag ∧ (d.gopSet v).stgTag = d.stgTag := ⟨d.gopSet_reads v (by decide), d.gopSet_reads v (by decide)⟩
  rw [Dev.famOffences, Dev.famOffences, hfam, htags.1, htags.2]
  rfl

/-- The tests of a commit read nothing of GOP_CTRL. -/
theorem Dev.gopSet_commit (d : Dev) (v : Nat) : (d.gopSet v).gopCommit = d.gopCommit := by
  have hready : (d.gopSet v).allReady true = d.allReady true := by simp only [Dev.allReady, d.gopSet_famReady]
  have hoff : (d.gopSet v).commitChecks = d.commitChecks := by simp only [Dev.commitChecks, Dev.offences, d.gopSet_famOffences]
  have htests : (d.gopSet v).commitTests = d.commitTests := by
    rw [Dev.commitTests, Dev.commitTests, hready, Dev.on, Dev.on, d.gopSet_reads v (by decide)]
    rfl
  rw [Dev.gopCommit, Dev.gopCommit, hoff, htests]
  rfl

theorem Dev.gopSet_eq (d : Dev) (v : Nat) : d.gopSet v = (d.put Reg.RP_GOP_CTRL.OP (v % 4)).put Reg.RP_GOP_CTRL.RESET_SELF (bits v 2 1) := by
  rw [Dev.gopSet, Dev.put, Dev.put, Dev.put, Dev.put]
  simp only [Reg.RP_GOP_CTRL.OP, Nat.reducePow, Nat.mod_mod]

/-- A word of GOP_CTRL with one of its command bits set: OP and RESET_SELF are those of the word. -/
theorem gopCtrl_word (v : Word) {i : Nat} (hi : i = 3 ∨ i = 4) (d : Dev) : d.gopSet (v ||| BitVec.ofNat 32 (2 ^ i)).toNat = d.gopSet v.toNat := by
  have h0 : (v ||| BitVec.ofNat 32 (2 ^ i)).toNat % 4 = v.toNat % 4 := by
    simpa only [bits, Nat.pow_zero, Nat.div_one, Nat.reducePow] using or_bit_keeps v (i := i) (lo := 0) (w := 2) (by omega) (by omega)
  rw [Dev.gopSet_eq, Dev.gopSet_eq, or_bit_keeps v (by omega) (by omega), h0]

theorem Dev.gopCtrl_eq (d : Dev) (v : Nat) : d.gopCtrl v = ((d.gopSet v).iff (bitOf v 4) Dev.gopAbort).iff (bitOf v 3) Dev.gopGo := rfl

/-- GOP_CTRL written with GO: ABORT of the same word first. -/
theorem Dev.gopGo_eq (d : Dev) (m : Master) (v : Word) : d.poke m Reg.RP_GOP_CTRL.ADR (v ||| 8#32) =
    if bits v.toNat 4 1 = 1 then (d.gopSet v.toNat).gopAbort.gopGo else (d.gopSet v.toNat).gopGo := by
  rw [show (8#32 : Word) = BitVec.ofNat 32 (2 ^ 3) from by decide, Dev.poke_RP_GOP_CTRL, Dev.gopCtrl_eq, gopCtrl_word v (.inl rfl),
    or_bit_same v (by decide), or_bit_other v (by decide) (by decide)]
  simp only [← bitOf_iff_bits]
  cases bitOf v.toNat 4 <;> rfl

/-- GOP_CTRL written with ABORT: GO of the same word after it. -/
theorem Dev.gopAbort_eq (d : Dev) (m : Master) (v : Word) : d.poke m Reg.RP_GOP_CTRL.ADR (v ||| 0x10#32) =
    if bits v.toNat 3 1 = 1 then (d.gopSet v.toNat).gopAbort.gopGo else (d.gopSet v.toNat).gopAbort := by
  rw [show (0x10#32 : Word) = BitVec.ofNat 32 (2 ^ 4) from by decide, Dev.poke_RP_GOP_CTRL, Dev.gopCtrl_eq, gopCtrl_word v (.inr rfl),
    or_bit_same v (by decide), or_bit_other v (by decide) (by decide)]
  simp only [← bitOf_iff_bits]
  cases bitOf v.toNat 3 <;> rfl

theorem Dev.gopAbort_of_none (h : d.hier.gop = none) : d.gopAbort = d := by rw [Dev.gopAbort, h]

/-- Without an ABORT that has something to end, GO acts on the word as written. -/
theorem Dev.gopGo_plain (m : Master) (v : Word) (h : bits v.toNat 4 1 = 0 ∨ d.hier.gop = none) :
    d.poke m Reg.RP_GOP_CTRL.ADR (v ||| 8#32) = (d.gopSet v.toNat).gopGo := by
  rw [Dev.gopGo_eq]
  obtain h | h := h
  · exact if_neg (by omega)
  · rw [Dev.gopAbort_of_none (d := d.gopSet v.toNat) h, ite_self]

/-! ### Global operations: GO, refused or armed -/

theorem Dev.gopGo_worker (h : d.worker = true) : d.gopGo = d := if_pos h

theorem Dev.gopRefused_sets (d : Dev) (st : Nat) : d.Sets ((d.gopShow 4 st 0).ev Reg.RP_HIER_EVT.GOP_END) [(Reg.RP_GOP_STAT.STATE, 4),
    (Reg.RP_GOP_STAT.STATUS, st % 256), (Reg.RP_GOP_STAT.FAIL_DEV, 0), (Reg.RP_HIER_EVT.GOP_END, 1)] :=
  Dev.puts_sets_mod (l := [(Reg.RP_GOP_STAT.STATE, 4), (Reg.RP_GOP_STAT.STATUS, st), (Reg.RP_GOP_STAT.FAIL_DEV, 0), (Reg.RP_HIER_EVT.GOP_END, 1)])
    (by simp only [List.map_cons, List.map_nil]; decide) d

theorem Dev.gopGo_refused (hw : d.worker = false) {c : Nat} (hc : d.gopRefusal = c) (h0 : c ≠ 0) :
    d.gopGo = (d.gopShow 4 c 0).ev Reg.RP_HIER_EVT.GOP_END := by
  rw [Dev.gopGo, hw, hc]
  exact (if_neg (by decide)).trans (if_pos h0)

/-- The refusals of GO in their order, by the word written. -/
theorem Dev.gopSet_refusal (d : Dev) (v : Nat) : (d.gopSet v).gopRefusal =
    if v % 4 = 3 then 0x27
    else if d.gopInstant < d.time + d.minLead * nsU then 0x21
    else if d.hier.gop ≠ none then 0x24
    else if d.fld Reg.TIM_STAT.TIME_SET = 0 then 0x23
    else if v % 4 = 0 then d.gopCommit else 0 := by
  have hop : (d.gopSet v).fld Reg.RP_GOP_CTRL.OP = v % 4 := (d.gopSet_sets v).1.1 (Reg.RP_GOP_CTRL.OP, v % 4) (by simp [gopCtl])
  have hset : (!(d.gopSet v).on Reg.TIM_STAT.TIME_SET) = true ↔ d.fld Reg.TIM_STAT.TIME_SET = 0 := by
    rw [Bool.not_eq_true', Dev.on_eq_false, d.gopSet_reads v (by decide)]
  simp only [Dev.gopRefusal, hop, d.gopSet_instant, d.gopSet_time, d.gopSet_minLead, d.gopSet_commit, hset, ← Option.isSome_iff_ne_none]
  rfl

theorem Dev.armCommit_spec (d : Dev) (t : Int) (src : Nat) (b : Bool) : (d.armCommit t src b).hier = d.hier ∧
    d.SameRegs (d.armCommit t src b) [Reg.GEN_STAT.ARMED, Reg.GEN_STAT.ARM_SRC, Reg.GEN_STAT.PENDING, Reg.PCL_GEN_STAT.COMMIT_PENDING] :=
  ⟨rfl, ((((Dev.SameRegs.refl d _).put (by simp) _).put (by simp) _).put (by simp) _).put (by simp) _⟩

/-- An operation is held: what GOP_STAT then shows. -/
theorem Dev.gopHold_spec (d : Dev) (g : Gop) : let e := d.gopHold g
    e.hier = { d.hier with gop := some g } ∧ e.fld Reg.RP_GOP_STAT.STATE = 1 ∧ e.fld Reg.RP_GOP_STAT.STATUS = 0 ∧ e.fld Reg.RP_GOP_STAT.OP_ID = g.id % 256 ∧
    e.fld Reg.RP_GOP_DONE_MASK.MASK = d.fld Reg.RP_GOP_DONE_MASK.MASK := by
  obtain ⟨x, hx⟩ : ∃ x, x = (({ d with hier := { d.hier with gop := some g } } : Dev).gopShow 1 0 0).put Reg.RP_GOP_STAT.OP_ID g.id := ⟨_, rfl⟩
  have hsets : ({ d with hier := { d.hier with gop := some g } } : Dev).Sets x [(Reg.RP_GOP_STAT.STATE, 1), (Reg.RP_GOP_STAT.STATUS, 0),
      (Reg.RP_GOP_STAT.FAIL_DEV, 0), (Reg.RP_GOP_STAT.OP_ID, g.id % 256)] := hx ▸ Dev.puts_sets_mod
    (l := [(Reg.RP_GOP_STAT.STATE, 1), (Reg.RP_GOP_STAT.STATUS, 0), (Reg.RP_GOP_STAT.FAIL_DEV, 0), (Reg.RP_GOP_STAT.OP_ID, g.id)])
    (by simp only [List.map_cons, List.map_nil]; decide) _
  have hhier : x.hier = { d.hier with gop := some g } := (congrArg Dev.hier hsets.2 :)
  obtain ⟨hst, hstatus, -, hid⟩ : x.fld Reg.RP_GOP_STAT.STATE = 1 ∧ x.fld Reg.RP_GOP_STAT.STATUS = 0 ∧ x.fld Reg.RP_GOP_STAT.FAIL_DEV = 0 ∧
    x.fld Reg.RP_GOP_STAT.OP_ID = g.id % 256 := by simpa using hsets.1.1
  have hmask : x.fld Reg.RP_GOP_DONE_MASK.MASK = d.fld Reg.RP_GOP_DONE_MASK.MASK := hsets.1.fld_eq (by simp only [List.map_cons, List.map_nil]; decide)
  intro e
  have heq : e = if g.op = 0 then x.armCommit g.t 1 false else x := by rw [hx]; rfl
  rw [heq]
  split
  · obtain ⟨hh, hr⟩ := x.armCommit_spec g.t 1 false
    rw [hh, hr.fld_eq (f := Reg.RP_GOP_STAT.STATE) (by decide), hr.fld_eq (f := Reg.RP_GOP_STAT.STATUS) (by decide), hr.fld_eq (f := Reg.RP_GOP_STAT.OP_ID) (by decide),
      hr.fld_eq (f := Reg.RP_GOP_DONE_MASK.MASK) (by decide)]
    exact ⟨hhier, hst, hstatus, hid, hmask⟩
  · exact ⟨hhier, hst, hstatus, hid, hmask⟩

/-- GO that no cause refuses: the operation of the registers is held under the next number. -/
theorem Dev.gopGo_armed (hw : d.worker = false) (h : d.gopRefusal = 0) : let e := d.gopGo
    e.fld Reg.RP_GOP_STAT.STATE = 1 ∧ e.fld Reg.RP_GOP_STAT.STATUS = 0 ∧ e.fld Reg.RP_GOP_DONE_MASK.MASK = 0 ∧
    e.fld Reg.RP_GOP_STAT.OP_ID = (d.fld Reg.RP_GOP_STAT.OP_ID + 1) % 256 ∧ e.hier.reported = 0 ∧
    e.hier.gop = some { op := d.fld Reg.RP_GOP_CTRL.OP
                        id := (d.fld Reg.RP_GOP_STAT.OP_ID + 1) % 256
                        t := d.gopInstant
                        gen := d.fld Reg.RP_GOP_GEN.GEN % 65536 } := by
  obtain ⟨g, hg⟩ : ∃ g : Gop, g = { op := d.fld Reg.RP_GOP_CTRL.OP, id := (d.fld Reg.RP_GOP_STAT.OP_ID + 1) % 256, t := d.gopInstant,
                                    gen := d.fld Reg.RP_GOP_GEN.GEN % 65536 } := ⟨_, rfl⟩
  obtain ⟨x, hx⟩ : ∃ x, x = ({ ((d.put Reg.RP_GOP_DONE_MASK.MASK 0).put Reg.RP_GOP_CANCEL_MASK.MASK 0) with hier := { d.hier with reported := 0 } } : Dev) := ⟨_, rfl⟩
  have hmask0 : x.fld Reg.RP_GOP_DONE_MASK.MASK = 0 := by
    rw [hx]
    exact (Dev.fld_put_ne _ _ (by decide)).trans (Dev.fld_put_same ..)
  have hrep : x.hier.reported = 0 := by rw [hx]
  obtain ⟨hhier, hst, hstatus, hid, hmask⟩ := x.gopHold_spec g
  obtain ⟨y, hy⟩ : ∃ y, y = x.gopHold g := ⟨_, rfl⟩
  obtain ⟨r, hr⟩ : ∃ r, d.gopGo = y.broadcast 4 r := by
    rw [Dev.gopGo, hw, h, hy, hx, hg]
    exact ⟨_, rfl⟩
  have hk := y.broadcast_keeps 4 r
  have hfld (f : Fld) : (y.broadcast 4 r).fld f = y.fld f := (congrArg (Dev.fld · f) hk :)
  have hbh : (y.broadcast 4 r).hier = y.hier := (congrArg Dev.hier hk :)
  rw [← hy] at hhier hst hstatus hid hmask
  intro e
  rw [show e = _ from hr, hfld, hfld, hfld, hfld, hbh, hhier, hmask, hid, hg, Nat.mod_mod]
  exact ⟨hst, hstatus, hmask0, rfl, hrep, rfl⟩

/-! ### Global operations: cancelled, or executed at their instant -/

theorem Dev.disarm_spec (d : Dev) : d.disarm.hier = d.hier ∧
    d.SameRegs d.disarm [Reg.GEN_STAT.ARMED, Reg.GEN_STAT.PENDING, Reg.PCL_GEN_STAT.COMMIT_PENDING] :=
  ⟨rfl, (((Dev.SameRegs.refl d _).put (by simp) _).put (by simp) _).put (by simp) _⟩

/-- What GOP_STAT shows but the number. -/
def gopShown : List Fld := [Reg.RP_GOP_STAT.STATE, Reg.RP_GOP_STAT.STATUS, Reg.RP_GOP_STAT.FAIL_DEV]

theorem gopShown_apart : ∀ f ∈ gopShown, f.key ≠ (Reg.RP_LINK_CNT.COUNT 0 13).key ∧
    f.key ∉ [Reg.GEN_STAT.ARMED, Reg.GEN_STAT.PENDING, Reg.PCL_GEN_STAT.COMMIT_PENDING].map Fld.key := by decide

/-- Disarming ends the operation and leaves what GOP_STAT shows of it. -/
theorem Dev.gopDisarm_spec {g : Gop} (h : d.hier.gop = some g) : d.gopDisarm.hier.gop = none ∧ ∀ f ∈ gopShown, d.gopDisarm.fld f = d.fld f := by
  obtain ⟨x, hx⟩ : ∃ x, x = ({ d with hier := { d.hier with gop := none } } : Dev) := ⟨_, rfl⟩
  obtain ⟨c, hc⟩ : ∃ c : Bool, c = (g.op == 0 && x.on Reg.GEN_STAT.ARM_SRC) := ⟨_, rfl⟩
  have heq : d.gopDisarm = (x.iff c Dev.disarm).gopReportTo 1 g.id 1 := by
    rw [Dev.gopDisarm, h, hc, hx]
    rfl
  have hr := (x.iff c Dev.disarm).gopReportTo_routed 1 g.id 1
  obtain ⟨hh, hregs⟩ := x.disarm_spec
  rw [heq]
  refine ⟨hr.gop_eq.trans ?_, fun f hf => (hr.fld_eq (gopShown_apart f hf).1).trans ?_⟩
  · cases c
    · exact (congrArg (fun e : Dev => e.hier.gop) hx :)
    · exact (congrArg Hier.gop hh).trans (congrArg (fun e : Dev => e.hier.gop) hx :)
  · have hxf : x.fld f = d.fld f := by rw [hx]; rfl
    cases c
    · exact hxf
    · exact (hregs.fld_eq (gopShown_apart f hf).2).trans hxf

theorem Dev.gopShow_sets (d : Dev) (state status fail : Nat) : d.Sets (d.gopShow state status fail) [(Reg.RP_GOP_STAT.STATE, state % 8),
    (Reg.RP_GOP_STAT.STATUS, status % 256), (Reg.RP_GOP_STAT.FAIL_DEV, fail % 32)] :=
  Dev.puts_sets_mod (l := [(Reg.RP_GOP_STAT.STATE, state), (Reg.RP_GOP_STAT.STATUS, status), (Reg.RP_GOP_STAT.FAIL_DEV, fail)])
    (by simp only [List.map_cons, List.map_nil]; decide) d

theorem Dev.gopCancelAll_spec {g : Gop} (h : d.hier.gop = some g) (st fail : Nat) : let e := d.gopCancelAll st fail
    e.fld Reg.RP_GOP_STAT.STATE = 2 ∧ e.fld Reg.RP_GOP_STAT.STATUS = st % 256 ∧ e.fld Reg.RP_GOP_STAT.FAIL_DEV = fail % 32 ∧ e.hier.gop = none := by
  have hshow := d.gopShow_sets 2 st fail
  obtain ⟨x, hx⟩ : ∃ x, x = d.gopShow 2 st fail := ⟨_, rfl⟩
  obtain ⟨y, hy⟩ : ∃ y, y = x.broadcast 4 (d.mkRec 13 31 false 0 (beBytes 0 1 ++ beBytes g.id 1)) := ⟨_, rfl⟩
  have heq : d.gopCancelAll st fail = y.gopDisarm := by rw [Dev.gopCancelAll, h, hy, hx]
  have hk := x.broadcast_keeps 4 (d.mkRec 13 31 false 0 (beBytes 0 1 ++ beBytes g.id 1))
  rw [← hy] at hk
  rw [← hx] at hshow
  have hgop : y.hier.gop = some g := by
    rw [show y.hier = x.hier from (congrArg Dev.hier hk :), show x.hier = d.hier from (congrArg Dev.hier hshow.2 :), h]
  obtain ⟨hnone, hsame⟩ := y.gopDisarm_spec hgop
  have hfld (f : Fld) (hf : f ∈ gopShown) : y.gopDisarm.fld f = x.fld f := (hsame f hf).trans (congrArg (Dev.fld · f) hk :)
  obtain ⟨h1, h2, h3⟩ : x.fld Reg.RP_GOP_STAT.STATE = 2 ∧ x.fld Reg.RP_GOP_STAT.STATUS = st % 256 ∧ x.fld Reg.RP_GOP_STAT.FAIL_DEV = fail % 32 := by
    simpa using hshow.1.1
  intro e
  rw [show e = _ from heq, hfld _ (by simp [gopShown]), hfld _ (by simp [gopShown]), hfld _ (by simp [gopShown])]
  exact ⟨h1, h2, h3, hnone⟩

theorem Dev.gopAbort_of_some {g : Gop} (h : d.hier.gop = some g) :
    d.gopAbort = if d.worker = false ∧ d.time < d.cancelPoint g then d.gopCancelAll 0x26 0 else d := by
  rw [Dev.gopAbort, h]
  simp only [Bool.not_eq_true']
  rfl

/-- The roster devices that have not reported. -/
def Dev.gopLate (d : Dev) : List Nat :=
  (List.range 31).filter (fun i => decide (1 ≤ i) && bitOf (d.fld Reg.RP_GOP_ROSTER.ROSTER) i && !bitOf d.hier.reported i)

theorem Dev.gopLate_lt (h : d.gopLate = k :: l) : k < 31 :=
  List.mem_range.1 (List.mem_of_mem_filter (h ▸ List.mem_cons_self : k ∈ d.gopLate))

theorem Dev.gopPoint_none (h : d.hier.gop = none) : d.gopPoint = d := by rw [Dev.gopPoint, h]

theorem Dev.gopPoint_done {g : Gop} (h : d.hier.gop = some g) (hl : d.gopLate = []) : d.gopPoint = d := by
  rw [Dev.gopPoint, h]
  dsimp only
  rw [show (List.range 31).filter _ = [] from hl]

theorem Dev.gopPoint_late {g : Gop} {i : Nat} {l : List Nat} (h : d.hier.gop = some g) (hl : d.gopLate = i :: l) :
    d.gopPoint = if d.worker = false ∧ d.cancelPoint g ≤ d.time then d.gopCancelAll 0x22 i else d := by
  rw [Dev.gopPoint, h]
  dsimp only
  rw [show (List.range 31).filter _ = i :: l from hl]
  simp only [Bool.not_eq_true']
  rfl

/-- What the operation does at its instant. -/
def Dev.gopEffect (d : Dev) (g : Gop) : Dev :=
  let d1 := d.setHier { d.hier with gop := none }
  if g.op = 0 then d1.commitInstant 1 else if g.op = 1 then d1.takeSnapshot else d1

/-- The operation has ended: EXECUTED, with its event on the manager. -/
def Dev.gopEnded (d : Dev) (g : Gop) : Dev := ((d.gopEffect g).put Reg.RP_GOP_STAT.STATE 3).iff (!d.worker) (·.ev Reg.RP_HIER_EVT.GOP_END)

theorem Dev.gopRun_none (h : d.hier.gop = none) : d.gopInstantRun = d := by rw [Dev.gopInstantRun, Dev.gopExecute, h]; rfl

theorem Dev.gopRun_early {g : Gop} (h : d.hier.gop = some g) (ht : d.time < g.t) : d.gopInstantRun = d := by
  have hx : d.gopExecute = (d, false) := by rw [Dev.gopExecute, h]; exact if_pos ht
  rw [Dev.gopInstantRun, hx]
  rfl

theorem Dev.gopRun_due {g : Gop} (h : d.hier.gop = some g) (ht : g.t ≤ d.time) : d.gopInstantRun =
    if g.op = 2 then (if d.worker || d.on Reg.RP_GOP_CTRL.RESET_SELF then (d.gopEnded g).warmReset Reg.CHIPCAP_RST_CAUSE.HIER else d.gopEnded g)
    else (d.gopEnded g).gopReportTo 1 g.id 0 := by
  have hx : d.gopExecute = if g.op = 2 then (d.gopEnded g, d.worker || d.on Reg.RP_GOP_CTRL.RESET_SELF) else ((d.gopEnded g).gopReportTo 1 g.id 0, false) := by
    rw [Dev.gopExecute, h]
    exact if_neg (not_lt.2 ht)
  rw [Dev.gopInstantRun, hx]
  split <;> rfl

theorem Dev.gopEnded_shows (d : Dev) (g : Gop) : (d.gopEnded g).fld Reg.RP_GOP_STAT.STATE = 3 ∧
    (d.worker = false → (d.gopEnded g).fld Reg.RP_HIER_EVT.GOP_END = 1) := by
  unfold Dev.gopEnded
  cases d.worker
  · exact ⟨(Dev.fld_put_ne _ _ (by decide)).trans (Dev.fld_put_same ..), fun _ => Dev.fld_put_same ..⟩
  · exact ⟨Dev.fld_put_same .., fun h => absurd h (by decide)⟩

/-- The report to device 0 leaves what the operation's end shows. -/
theorem Dev.gopReported_fld (d : Dev) (g : Gop) {f : Fld} (hf : f.key ≠ (Reg.RP_LINK_CNT.COUNT 0 13).key) :
    ((d.gopEnded g).gopReportTo 1 g.id 0).fld f = (d.gopEnded g).fld f := ((d.gopEnded g).gopReportTo_routed 1 g.id 0).fld_eq hf

theorem Dev.gopRun_shows {g : Gop} (h : d.hier.gop = some g) (ht : g.t ≤ d.time) (hop : g.op ≠ 2) : d.gopInstantRun.fld Reg.RP_GOP_STAT.STATE = 3 ∧
    (d.worker = false → d.gopInstantRun.fld Reg.RP_HIER_EVT.GOP_END = 1) := by
  rw [Dev.gopRun_due h ht, if_neg hop, d.gopReported_fld g (by decide), d.gopReported_fld g (by decide)]
  exact d.gopEnded_shows g

theorem Dev.takeSnapshot_spec (d : Dev) : d.takeSnapshot.hier = { d.hier with snap := d.snapshotOf } ∧
    d.takeSnapshot.fld Reg.RP_SNAP_STAT.SEQ = (d.fld Reg.RP_SNAP_STAT.SEQ + 1) % 2 ^ 16 ∧ d.takeSnapshot.fld Reg.RP_SNAP_STAT.VALID = 1 := by
  obtain ⟨x, hx⟩ : ∃ x, x = (({ d with hier := { d.hier with snap := d.snapshotOf } } : Dev).incr Reg.RP_SNAP_STAT.SEQ).put Reg.RP_SNAP_STAT.VALID 1 := ⟨_, rfl⟩
  have heq : d.takeSnapshot = x.puts ((List.range 4).map fun i => (Reg.RP_SNAP_TIME.TS i, d.readWords.getD i 0)) := by
    rw [← Dev.each_put (fun i => (Reg.RP_SNAP_TIME.TS i, d.readWords.getD i 0)), hx]
    rfl
  have hseq : x.fld Reg.RP_SNAP_STAT.SEQ = (d.fld Reg.RP_SNAP_STAT.SEQ + 1) % 2 ^ 16 := by
    rw [hx]
    exact (Dev.fld_put_ne _ _ (by decide)).trans (Dev.fld_put_same ..)
  have hvalid : x.fld Reg.RP_SNAP_STAT.VALID = 1 := by
    rw [hx]
    exact Dev.fld_put_same ..
  have hhier : x.hier = { d.hier with snap := d.snapshotOf } := by rw [hx]; rfl
  have hts : ∀ f ∈ [Reg.RP_SNAP_STAT.SEQ, Reg.RP_SNAP_STAT.VALID], ∀ y ∈ (List.range 4).map fun i => (Reg.RP_SNAP_TIME.TS i, d.readWords.getD i 0),
      y.1.key ≠ f.key := by
    simp only [List.forall_mem_map, List.forall_mem_cons]
    decide
  rw [heq, Dev.puts_fld_ne x (hts _ (by simp)), Dev.puts_fld_ne x (hts _ (by simp)), show (x.puts _).hier = x.hier from (congrArg Dev.hier (Dev.puts_rest _ x) :)]
  exact ⟨hhier, hseq, hvalid⟩

theorem Dev.gopRun_snapshot {g : Gop} (h : d.hier.gop = some g) (ht : g.t ≤ d.time) (hop : g.op = 1) : let e := d.gopInstantRun
    e.hier.gop = none ∧ e.hier.snap = d.snapshotOf ∧ e.fld Reg.RP_SNAP_STAT.SEQ = (d.fld Reg.RP_SNAP_STAT.SEQ + 1) % 2 ^ 16 ∧ e.fld Reg.RP_SNAP_STAT.VALID = 1 := by
  have hop2 : g.op ≠ 2 := by rw [hop]; decide
  obtain ⟨hhier, hseq, hvalid⟩ := (d.setHier { d.hier with gop := none }).takeSnapshot_spec
  have heff : d.gopEffect g = (d.setHier { d.hier with gop := none }).takeSnapshot := by
    rw [Dev.gopEffect, hop]
    rfl
  have hended (f : Fld) (hf : f.key ≠ Reg.RP_GOP_STAT.STATE.key ∧ f.key ≠ Reg.RP_HIER_EVT.GOP_END.key) : (d.gopEnded g).fld f = (d.gopEffect g).fld f := by
    unfold Dev.gopEnded
    cases d.worker
    · exact (Dev.fld_put_ne _ _ hf.2).trans (Dev.fld_put_ne _ _ hf.1)
    · exact Dev.fld_put_ne _ _ hf.1
  have hh : (d.gopEnded g).hier = (d.gopEffect g).hier := by
    unfold Dev.gopEnded
    cases d.worker <;> rfl
  have hr := (d.gopEnded g).gopReportTo_routed 1 g.id 0
  intro e
  rw [show e = _ from (Dev.gopRun_due h ht).trans (if_neg hop2), hr.gop_eq, hr.snap_eq, hr.fld_eq (by decide), hr.fld_eq (by decide), hended _ (by decide),
    hended _ (by decide), hh, heff, hhier, hseq, hvalid]
  exact ⟨rfl, rfl, rfl, rfl⟩

theorem Dev.gopEnded_reset (d : Dev) {g : Gop} (hop : g.op = 2) : { d with hier := { d.hier with gop := none } }.Sets (d.gopEnded g)
    ((Reg.RP_GOP_STAT.STATE, 3) :: if d.worker = true then [] else [(Reg.RP_HIER_EVT.GOP_END, 1)]) := by
  have heff : d.gopEffect g = { d with hier := { d.hier with gop := none } } := by
    rw [Dev.gopEffect, hop]
    rfl
  rw [Dev.gopEnded, heff]
  cases d.worker
  · exact Dev.puts_sets (l := [(Reg.RP_GOP_STAT.STATE, 3), (Reg.RP_HIER_EVT.GOP_END, 1)]) (by decide) (by decide) _
  · exact Dev.puts_sets (l := [(Reg.RP_GOP_STAT.STATE, 3)]) (by decide) (by decide) _

theorem Dev.pairSwitch_stays {j : Nat} {ab : Nat × Nat} (h : d.pair j = some ab)
    (hs : d.aligned (d.pairActive j ab) = true ∨ d.aligned (d.pairOther j ab) = false) : d.pairSwitch j = d := by
  rw [Dev.pairSwitch, h]
  refine if_neg fun hc => ?_
  rw [Bool.and_eq_true, Bool.not_eq_true'] at hc
  exact hs.elim (fun ha => absurd (ha.symm.trans hc.1) (by decide)) fun hn => absurd (hn.symm.trans hc.2) (by decide)

theorem Dev.pairSwitch_goes {j : Nat} {ab : Nat × Nat} (h : d.pair j = some ab) (ho : d.aligned (d.pairActive j ab) = false)
    (hn : d.aligned (d.pairOther j ab) = true) : d.pairSwitch j = d.pairTo j ab true := by
  rw [Dev.pairSwitch, h]
  refine if_pos ?_
  rw [Bool.and_eq_true, Bool.not_eq_true']
  exact ⟨ho, hn⟩

theorem Dev.gopPoint_stays {g : Gop} (h : d.hier.gop = some g) (hs : d.gopLate = [] ∨ d.worker = true ∨ d.time < d.cancelPoint g) : d.gopPoint = d := by
  cases hl : d.gopLate with
  | nil => exact Dev.gopPoint_done h hl
  | cons i l =>
    refine (Dev.gopPoint_late h hl).trans (if_neg fun hc => ?_)
    obtain hn | hw | ht := hs
    · exact absurd (hl.symm.trans hn) (by simp)
    · exact absurd (hw.symm.trans hc.1) (by decide)
    · exact absurd ht (not_lt.2 hc.2)

/-! ### Events (R306) -/

theorem Dev.eventRepeat_eq (d : Dev) : d.eventRepeat = if d.hier.summary ≠ 0 ∧ d.worker = true ∧ d.addrValid = true then
    d.routeRec 4 { typ := 4, dst := 0, src := d.devAddr, body := beBytes d.hier.summary 2 } else d := by
  unfold Dev.eventRepeat Dev.sendEvent
  cases d.worker <;> cases d.addrValid <;> simp [Dev.mkRec]

/-! ### O54 -/

section Clauses
variable {s : State} (hup : s.dev.mainUp = true)
include hup

/-- GO of a probe that is refused with `c`. -/
theorem probeGo_refused {m : Master} {v : Word} {c : Nat} (hc : c < 8) (h : s.dev.probeGo (v.toNat % 4) (bits v.toNat 2 5) = s.dev.probeEnd c) :
    Effect (.probeGo m v) s (fun d => { s.dev with hier := { s.dev.hier with probe := none } }.Sets d
      [(Reg.RP_PROBE_STAT.STATUS, c), (Reg.RP_PROBE_STAT.BUSY, 0), (Reg.RP_HIER_EVT.PROBE_DONE, 1)]) :=
  .of_main_eq hup (s.dev.probeEnd_sets hc) (exec_probeGo ..) ((Dev.probeGo_eq ..).trans h)

/-- GO of a global operation that is refused with `c`. -/
theorem gopGo_refused {dt : Nat} {m : Master} {v : Word} {c : Nat} (hp : bits v.toNat 4 1 = 0 ∨ (s.dev.advance dt).hier.gop = none)
    (hw : (s.dev.advance dt).worker = false) (hc : ((s.dev.advance dt).gopSet v.toNat).gopRefusal = c) (h0 : c ≠ 0) :
    Effect (.gopGo dt m v) s (fun d => (s.dev.advance dt).Sets d (gopCtl v.toNat ++ [(Reg.RP_GOP_STAT.STATE, 4),
      (Reg.RP_GOP_STAT.STATUS, c % 256), (Reg.RP_GOP_STAT.FAIL_DEV, 0), (Reg.RP_HIER_EVT.GOP_END, 1)])) := by
  have hset := (s.dev.advance dt).gopSet_sets v.toNat
  refine .of_main_eq hup (hset.trans (Dev.gopRefused_sets _ c) ?_) (exec_gopGo ..)
    ((Dev.gopGo_plain m v hp).trans (Dev.gopGo_refused ((Dev.gopSet_worker _ _).trans hw) hc h0))
  simp only [gopCtl, List.forall_mem_cons]
  decide

/-- ABORT alone, by what it finds. -/
theorem gopAbort_does {dt : Nat} {m : Master} {v : Word} {P : Dev → Prop} (h3 : bits v.toNat 3 1 = 0) (hP : P ((s.dev.advance dt).gopSet v.toNat).gopAbort) :
    Effect (.gopAbort dt m v) s P :=
  .of_main_eq hup hP (exec_gopAbort ..) ((Dev.gopAbort_eq ..).trans (if_neg (by omega)))

end Clauses

/-- Settles O54: each command is one of the operations above; a GO or an ABORT is the write of its register. -/
theorem hierarchyCommands : Obligations.HierarchyCommands := by
  unfold Obligations.HierarchyCommands
  intro s dt m k j v hup e e1 x cmd idle done less port addr free deep wrong lower ends asks probing op ctl noAbort short refused
  refine ⟨fun hi ha => ?_, fun hi ha => ?_, fun hi => ?_, fun hi => ?_, fun hi => ?_, ?_, fun hf => ?_, fun hf hd => ?_, fun hf hd hw => ?_,
    fun hf hd hw ha => ?_, fun hf hd hw ha hl => ?_, fun hf hd hw ha hl => ?_, fun hp => ?_, fun hp => ?_, ?_, fun hx => ?_, fun hx => ?_,
    fun hj => ?_, fun ab hab => ⟨fun h => ?_, fun ho hn => ?_⟩, fun hv => ?_, ?_, fun hn hw => ?_, fun hn hw => ?_, fun hg h3 => ?_, fun hg => ?_, fun g hg => ?_⟩
  -- remote access
  · obtain ⟨e2, hsets, heq⟩ := Dev.raccGo_sent m k v hi ha
    exact .of_main_eq hup ⟨e2, hsets, heq⟩ (exec_raccGo ..) rfl
  · exact .of_main_eq hup (e.raccSet_end (show 3 < 4 by decide) x) (exec_raccGo ..) (Dev.raccGo_idle m k v hi ha)
  · exact .of_main_eq hup (e.raccSet_sets k x) (exec_raccGo ..) (Dev.raccGo_busy m k v hi)
  · exact .of_main_eq hup (e.raccEnd_sets k (show 2 < 4 by decide)) (exec_raccTimeout ..) (if_pos (Dev.on_eq_true.2 hi))
  · exact .of_main_eq (exec_raccTimeout ..) hup (if_neg (by rw [Dev.on_eq_false.2 hi]; decide))
  -- events
  · exact .of_main_eq (exec_evtRepeatExpiry s) hup (Dev.eventRepeat_eq e)
  -- probes
  · exact .of_main_eq (exec_probeGo ..) hup ((Dev.probeGo_eq ..).trans (if_pos (Dev.on_eq_true.2 hf)))
  · exact probeGo_refused hup (by decide) ((Dev.probeGo_free hf).trans (if_pos hd))
  · exact probeGo_refused hup (by decide) ((Dev.probeGo_free hf).trans ((if_neg hd).trans (if_pos hw)))
  · exact probeGo_refused hup (by decide) ((Dev.probeGo_free hf).trans ((if_neg hd).trans ((if_neg hw).trans (if_pos ha))))
  · refine probeGo_refused hup (by decide) ((Dev.probeGo_free hf).trans ((if_neg hd).trans ((if_neg hw).trans ((if_neg ?_).trans (if_pos hl)))))
    rw [ha]
    decide
  · refine .of_main_eq hup ((Dev.Sets.nil _).put_of_lt _ (v := 1) (show 1 < 2 ^ 1 by decide) (by simp)) (exec_probeGo ..) ((Dev.probeGo_eq ..).trans
      ((Dev.probeGo_free hf).trans ((if_neg hd).trans ((if_neg hw).trans ((if_neg ?_).trans (if_neg hl))))))
    rw [ha]
    decide
  · exact .of_main_eq hup (e.probeEnd_sets (show 2 < 8 by decide)) (exec_probeTimeout s) (if_pos (Option.isSome_iff_ne_none.2 hp))
  · exact .of_main_eq (exec_probeTimeout s) hup (by rw [Dev.probeTimeout, hp]; rfl)
  -- time transfer
  · obtain ⟨hregs, -, hin⟩ := Dev.each_syncOne (List.range 4) List.nodup_range e
    exact .of_main_eq hup ⟨hregs, fun q hq => hin q (List.mem_range.2 hq)⟩ (exec_xferSyncTimer s) e.xferTimer_eq
  · exact .of_main_eq hup (Dev.exchTimeout_sets hx) (exec_xferExchangeTimeout s) rfl
  · exact .of_main_eq (exec_xferExchangeTimeout s) hup (by rw [Dev.exchTimeout, hx]; rfl)
  -- pairs
  · exact .of_main_eq (exec_pairSwitch ..) hup (by rw [Dev.pairSwitch, hj])
  · refine .of_main_eq (exec_pairSwitch ..) hup (Dev.pairSwitch_stays hab h)
  · exact .of_main_eq hup (Dev.pairTo_spec hab) (exec_pairSwitch ..) (Dev.pairSwitch_goes hab ho hn)
  -- global operations: GO
  · rw [Dev.gopCommit, hv]
    rfl
  · exact ⟨_, e1.gopSet_sets x, .of_main_eq (exec_gopGo ..) hup (Dev.gopGo_eq ..), .of_main_eq (exec_gopAbort ..) hup (Dev.gopAbort_eq ..)⟩
  · exact .of_main_eq hup (e1.gopSet_sets x) (exec_gopGo ..) ((Dev.gopGo_plain m v hn).trans (Dev.gopGo_worker ((Dev.gopSet_worker ..).trans hw)))
  · have hr := e1.gopSet_refusal x
    refine ⟨fun h3 => ?_, fun h3 hs => ?_, fun h3 hs hg => ?_, fun h3 hs hg ht => ?_, fun h3 hs hg ht hc => ?_, fun h3 hs hg ht => ?_⟩
    · exact gopGo_refused hup hn hw (hr.trans (if_pos h3)) (by decide)
    · exact gopGo_refused hup hn hw (hr.trans ((if_neg h3).trans (if_pos hs))) (by decide)
    · exact gopGo_refused hup hn hw (hr.trans ((if_neg h3).trans ((if_neg hs).trans (if_pos hg)))) (by decide)
    · exact gopGo_refused hup hn hw (hr.trans ((if_neg h3).trans ((if_neg hs).trans ((if_neg (not_not_intro hg)).trans (if_pos ht))))) (by decide)
    · exact gopGo_refused hup hn hw (hr.trans ((if_neg (by omega)).trans ((if_neg hs).trans ((if_neg (not_not_intro hg)).trans ((if_neg ht).trans (if_pos h3)))))) hc
    · have h0 : (e1.gopSet x).gopRefusal = 0 := by
        refine hr.trans ((if_neg (by omega)).trans ((if_neg hs).trans ((if_neg (not_not_intro hg)).trans ((if_neg ht).trans ?_))))
        split
        · omega
        · rfl
      have harmed := Dev.gopGo_armed ((Dev.gopSet_worker ..).trans hw) h0
      rw [e1.gopSet_reads x (f := Reg.RP_GOP_STAT.OP_ID) (by decide), e1.gopSet_reads x (f := Reg.RP_GOP_GEN.GEN) (by decide), e1.gopSet_instant,
        (e1.gopSet_sets x).1.1 (Reg.RP_GOP_CTRL.OP, x % 4) (by simp [gopCtl])] at harmed
      exact .of_main_eq hup harmed (exec_gopGo ..) (Dev.gopGo_plain m v hn)
  -- global operations: ABORT, the cancel point and the instant
  · exact gopAbort_does hup h3 (by rw [Dev.gopAbort_of_none (d := e1.gopSet x) hg]; exact e1.gopSet_sets x)
  · exact ⟨.of_main_eq (exec_gopCancelPoint ..) hup (Dev.gopPoint_none hg), .of_main_eq (exec_gopExecute ..) hup (Dev.gopRun_none hg)⟩
  · have hab := Dev.gopAbort_of_some (d := e1.gopSet x) (g := g) hg
    rw [e1.gopSet_worker, e1.gopSet_time, e1.gopSet_cancelPoint] at hab
    refine ⟨fun h3 hw ht => ?_, fun h3 h => ?_, fun h => ?_, fun i r hl hw ht => ?_, fun ht => ?_, fun ht hop => ?_, fun ht hop => ?_, fun ht hop h => ?_,
      fun ht hop hw hself => ?_⟩
    · obtain ⟨hst, hstatus, -, hnone⟩ := Dev.gopCancelAll_spec (d := e1.gopSet x) (g := g) hg 0x26 0
      exact gopAbort_does hup h3 (by rw [hab, if_pos ⟨hw, ht⟩]; exact ⟨hst, hstatus, hnone⟩)
    · refine gopAbort_does hup h3 ?_
      rw [hab, if_neg fun hc => h.elim (fun hw => absurd (hw.symm.trans hc.1) (by decide)) fun hp => absurd hc.2 (not_lt.2 hp)]
      exact e1.gopSet_sets x
    · refine .of_main_eq (exec_gopCancelPoint ..) hup (Dev.gopPoint_stays hg h)
    · obtain ⟨hst, hstatus, hfail, hnone⟩ := Dev.gopCancelAll_spec hg 0x22 i
      rw [Nat.mod_eq_of_lt (Nat.lt_succ_of_lt (Dev.gopLate_lt hl))] at hfail
      exact .of_main_eq hup ⟨hst, hstatus, hfail, hnone⟩ (exec_gopCancelPoint ..) ((Dev.gopPoint_late hg hl).trans (if_pos ⟨hw, ht⟩))
    · exact .of_main_eq (exec_gopExecute ..) hup (Dev.gopRun_early hg ht)
    · obtain ⟨hnone, hsnap, hseq, hvalid⟩ := Dev.gopRun_snapshot hg ht hop
      obtain ⟨hst, hev⟩ := Dev.gopRun_shows hg ht (by omega)
      exact .of_main_eq hup ⟨hnone, hsnap, hst, hseq, hvalid, hev⟩ (exec_gopExecute ..) rfl
    · exact .of_main_eq hup (Dev.gopRun_shows hg ht hop) (exec_gopExecute ..) rfl
    · refine ⟨_, e1.gopEnded_reset hop, .of_main_eq (exec_gopExecute ..) hup ((Dev.gopRun_due hg ht).trans ((if_pos hop).trans (if_pos ?_)))⟩
      rw [Bool.or_eq_true, Dev.on_eq_true]
      exact h
    · have hends := e1.gopEnded_reset hop
      rw [if_neg (by rw [hw]; decide)] at hends
      refine .of_main_eq hup hends (exec_gopExecute ..) ((Dev.gopRun_due hg ht).trans ((if_pos hop).trans (if_neg ?_)))
      rw [hw, Dev.on_eq_false.2 hself]
      decide

end Sys2Proof.Machine
end

section
/-!
PROOFS. O43: pause, transmission, gates and low-power idle of a subscriber port (spec/08 R224 to R237).
-/
namespace Sys2Proof.Machine
variable {d e : Dev} {n j p : Nat}

/-! ### Bit sums -/

/-- The sum of the powers at the positions that pass a test has exactly their bits. -/
theorem sum_filter_pow (c : Nat → Bool) : ∀ n, (((List.range n).filter c).map (2 ^ ·)).sum < 2 ^ n ∧
    ∀ k < n, bitOf (((List.range n).filter c).map (2 ^ ·)).sum k = c k
  | 0 => ⟨by simp, fun k hk => absurd hk (Nat.not_lt_zero k)⟩
  | n + 1 => by
    obtain ⟨hlt, hbit⟩ := sum_filter_pow c n
    have hsum : (((List.range (n + 1)).filter c).map (2 ^ ·)).sum = (((List.range n).filter c).map (2 ^ ·)).sum + if c n then 2 ^ n else 0 := by
      rw [List.range_succ, List.filter_append, List.map_append, List.sum_append]
      cases hc : c n <;> simp [hc]
    rw [hsum]
    obtain ⟨S, hS⟩ : ∃ S, S = (((List.range n).filter c).map (2 ^ ·)).sum := ⟨_, rfl⟩
    rw [← hS] at hlt hbit ⊢
    cases hc : c n
    · refine ⟨by simp only [Bool.false_eq_true, if_false]; omega, fun k hk => ?_⟩
      obtain hk | rfl := Nat.lt_succ_iff_lt_or_eq.1 hk
      · exact hbit k hk
      · rw [hc, bitOf_eq_testBit]
        exact Nat.testBit_lt_two_pow hlt
    · refine ⟨by simp only [if_true]; omega, fun k hk => ?_⟩
      rw [if_pos rfl, Nat.add_comm, bitOf_eq_testBit]
      obtain hk | rfl := Nat.lt_succ_iff_lt_or_eq.1 hk
      · rw [Nat.testBit_two_pow_add_gt hk, ← bitOf_eq_testBit, hbit k hk]
      · rw [Nat.testBit_two_pow_add_eq, Nat.testBit_lt_two_pow hlt, hc]
        rfl

theorem get_foldl_set (v : Nat → Nat) (l : List Nat) (t : Tbl Nat) (k z : Nat) :
    Tbl.get (l.foldl (fun t i => Tbl.set t i (v i)) t) k z = if k ∈ l then v k else Tbl.get t k z := by
  induction l generalizing t with
  | nil => rfl
  | cons i l ih =>
    rw [List.foldl_cons, ih, Tbl.get_set]
    by_cases hl : k ∈ l
    · rw [if_pos hl, if_pos (List.mem_cons_of_mem _ hl)]
    · by_cases hi : k = i
      · subst hi
        rw [if_neg hl, if_pos rfl, if_pos List.mem_cons_self]
      · rw [if_neg hl, if_neg hi, if_neg (by simp [hl, hi])]

theorem mem_members {v n k : Nat} : k ∈ members v n ↔ k < n ∧ bitOf v k = true := by
  rw [members, List.mem_filter, List.mem_range]

/-! ### Pause (R228, R229) -/

/-- The end of a timer loaded with `q` quanta. -/
def Dev.pauseEnd (d : Dev) (p q : Nat) : Nat :=
  if q = 0 then 0 else d.nowPs + q * (64 * bytePs (d.fld (Reg.SM_PORT_STAT.SPEED (laneOf p) (portOf p))))

/-- Timers of one port take their ends. -/
theorem Dev.each_timer (p : Nat) (v : Dev → Nat → Nat) (hv : ∀ (d : Dev) (m : Mac) k, v (d.setMac p m) k = v d k) (ks : List Nat) (d : Dev) :
    let e := d.each ks fun d k => d.setMac p { d.mac p with pause := Tbl.set (d.mac p).pause k (v d k) }
    Dev.OnPort p d e ∧ e.regs = d.regs ∧ e.mac p = { d.mac p with pause := ks.foldl (fun t k => Tbl.set t k (v d k)) (d.mac p).pause } := by
  induction ks generalizing d with
  | nil => exact ⟨.refl p d, rfl, rfl⟩
  | cons k ks ih =>
    obtain ⟨hport, hregs, hmac⟩ := ih (d.setMac p { d.mac p with pause := Tbl.set (d.mac p).pause k (v d k) })
    refine ⟨((Dev.OnPort.refl p d).setMac _).trans hport, hregs, hmac.trans ?_⟩
    rw [Dev.mac_setMac]
    simp only [hv]
    rfl

theorem Dev.pauseLoad_spec (d : Dev) (p : Nat) (ks : List Nat) (q : Nat → Nat) : let e := d.pauseLoad p ks q
    Dev.OnPort p d e ∧ d.SameRegs e [Reg.SM_PORT_STAT.PAUSED (laneOf p) (portOf p)] ∧
    (e.mac p = { d.mac p with pause := (e.mac p).pause }) ∧
    (∀ k, Tbl.get (e.mac p).pause k 0 = if k ∈ ks then d.pauseEnd p (q k) else Tbl.get (d.mac p).pause k 0) ∧
    ∀ k < 8, bitOf (e.fld (Reg.SM_PORT_STAT.PAUSED (laneOf p) (portOf p))) k =
      (decide (Tbl.get (e.mac p).pause 8 0 ≠ 0) || decide (Tbl.get (e.mac p).pause k 0 ≠ 0)) := by
  obtain ⟨hport, hregs, hmac⟩ := Dev.each_timer p (fun e k => if q k = 0 then 0 else e.nowPs + q k * (64 * bytePs (d.fld (Reg.SM_PORT_STAT.SPEED (laneOf p) (portOf p)))))
    (fun _ _ _ => rfl) ks d
  obtain ⟨x, hx⟩ : ∃ x, x = d.each ks fun e k => e.setMac p { e.mac p with
    pause := Tbl.set (e.mac p).pause k (if q k = 0 then 0 else e.nowPs + q k * (64 * bytePs (d.fld (Reg.SM_PORT_STAT.SPEED (laneOf p) (portOf p))))) } := ⟨_, rfl⟩
  rw [← hx] at hport hregs hmac
  have heq : d.pauseLoad p ks q = x.showPaused p := by rw [hx]; rfl
  intro e
  have hmacs (q : Nat) : e.mac q = x.mac q := (congrArg (Dev.mac · q) heq :)
  obtain ⟨hlt, hbit⟩ := sum_filter_pow (fun k => Tbl.get (x.mac p).pause 8 0 != 0 || Tbl.get (x.mac p).pause k 0 != 0) 8
  refine ⟨⟨fun q hq => (hmacs q).trans (hport.mac q hq), ?_, ?_⟩, ?_, ?_, fun k => ?_, fun k hk => ?_⟩
  · exact (congrArg Dev.tim heq :).trans hport.tim
  · exact (congrArg Dev.chip heq :).trans hport.chip
  · have hr : d.SameRegs x [Reg.SM_PORT_STAT.PAUSED (laneOf p) (portOf p)] := (Dev.SameRegs.refl d _).of_regs hregs
    rw [show e = _ from heq]
    exact hr.put (by simp) _
  · rw [hmacs, hmac]
  · rw [hmacs, hmac]
    exact get_foldl_set ..
  · rw [hmacs, show e = _ from heq, Dev.showPaused, Dev.fld_put_same, show (Reg.SM_PORT_STAT.PAUSED (laneOf p) (portOf p)).w = 8 from rfl, Nat.mod_eq_of_lt hlt, hbit k hk]
    rw [Bool.eq_iff_iff]
    simp

/-- A waiting frame that goes back to its queue leaves the pause timers and PAUSED as they are. -/
theorem Dev.pauseWaiting_spec (d : Dev) (p : Nat) : ((d.pauseWaiting p).mac p).pause = (d.mac p).pause ∧
    d.SameRegs (d.pauseWaiting p) (cntFlds (laneOf p) (portOf p) 23) := by
  unfold Dev.pauseWaiting
  obtain ⟨m, hm⟩ : ∃ m, m = d.mac p := ⟨_, rfl⟩
  dsimp only
  rw [← hm]
  cases m.waiting with
  | none => exact ⟨by rw [hm], .refl d _⟩
  | some w =>
    obtain ⟨f, q, s⟩ := w
    dsimp only
    split
    · exact ⟨(congrArg Mac.pause (Dev.mac_setMac (d := d) p _) :), Dev.smCount_regs (((d.setMac p { m with waiting := none }).requeue q f)) _ _ 23 1⟩
    · exact ⟨by rw [hm], .refl d _⟩

theorem paused_apart (n j c : Nat) : (Reg.SM_PORT_STAT.PAUSED n j).key ∉ (cntFlds n j c).map Fld.key := by
  simp only [cntFlds, List.map_cons, List.map_nil, List.mem_cons, List.not_mem_nil, or_false, not_or, Fld.key, Reg.SM_PORT_STAT.PAUSED, Reg.SM_CNT_LO.COUNT,
    Reg.SM_CNT_HI.COUNT]
  omega

theorem speed_apart (n j c : Nat) : (Reg.SM_PORT_STAT.SPEED n j).key ∉ (cntFlds n j c).map Fld.key := by
  simp only [cntFlds, List.map_cons, List.map_nil, List.mem_cons, List.not_mem_nil, or_false, not_or, Fld.key, Reg.SM_PORT_STAT.SPEED, Reg.SM_CNT_LO.COUNT,
    Reg.SM_CNT_HI.COUNT]
  omega

theorem Dev.pauseEnd_smCnt (d : Dev) (c q : Nat) (hj : j < 4) : (d.smCnt n j c).pauseEnd (4 * n + j) q = d.pauseEnd (4 * n + j) q := by
  obtain ⟨hn, hp⟩ := laneOf_port n hj
  rw [Dev.pauseEnd, Dev.pauseEnd, hn, hp,
    show (d.smCnt n j c).fld (Reg.SM_PORT_STAT.SPEED n j) = _ from (d.smCount_regs n j c 1).fld_eq (speed_apart n j c)]
  rfl

/-- A frame that loads the timers `ks`: each as its quanta say, the others as they were, and PAUSED by them. -/
theorem Dev.paused_spec (d : Dev) (n : Nat) {j : Nat} (hj : j < 4) (ks : List Nat) (q : Nat → Nat) : let p := 4 * n + j
    let e := ((d.smCnt n j 5).pauseLoad p ks q).pauseWaiting p
    (∀ k, Tbl.get (e.mac p).pause k 0 = if k ∈ ks then d.pauseEnd p (q k) else Tbl.get (d.mac p).pause k 0) ∧
    ∀ k < 8, bitOf (e.fld (Reg.SM_PORT_STAT.PAUSED n j)) k = (decide (Tbl.get (e.mac p).pause 8 0 ≠ 0) || decide (Tbl.get (e.mac p).pause k 0 ≠ 0)) := by
  obtain ⟨hn, hp⟩ := laneOf_port n hj
  obtain ⟨x, hx⟩ : ∃ x, x = (d.smCnt n j 5).pauseLoad (4 * n + j) ks q := ⟨_, rfl⟩
  obtain ⟨-, -, -, hget, hbit⟩ := (d.smCnt n j 5).pauseLoad_spec (4 * n + j) ks q
  rw [← hx, hn, hp] at hbit
  rw [← hx] at hget
  obtain ⟨hpause, hregs⟩ := x.pauseWaiting_spec (4 * n + j)
  rw [hn, hp] at hregs
  intro p e
  rw [show e = x.pauseWaiting (4 * n + j) from by rw [hx], hpause, hregs.fld_eq (paused_apart n j 23)]
  exact ⟨fun k => (hget k).trans (by rw [d.pauseEnd_smCnt 5 _ hj]; rfl), hbit⟩

/-- The frame is for this port. -/
def Dev.forPort (d : Dev) (n j : Nat) (b : List Byte) : Prop := beAt b 0 6 = 0x0180C2000001 ∨ beAt b 0 6 = d.macAddr n j

theorem Dev.forPort_iff {b : List Byte} : (decide (beAt b 0 6 = ctlAddr) || decide (beAt b 0 6 = d.macAddr n j)) = true ↔ d.forPort n j b := by
  rw [Bool.or_eq_true, decide_eq_true_iff, decide_eq_true_iff]
  rfl

theorem Dev.rxControl_pause {b : List Byte} (hm : d.forPort n j b) (hmode : d.fcMode n j = 1) (hop : beAt b 14 2 = 1) :
    d.rxControl n j b = ((d.smCnt n j 5).pauseLoad (4 * n + j) [8] fun _ => beAt b 16 2).pauseWaiting (4 * n + j) := by
  have hmine := Dev.forPort_iff.2 hm
  rw [Dev.rxControl, hmine, hmode, hop]
  rfl

theorem Dev.rxControl_pfc {b : List Byte} (hm : d.forPort n j b) (hmode : d.fcMode n j = 2) (hop : beAt b 14 2 = 0x101) :
    d.rxControl n j b = ((d.smCnt n j 5).pauseLoad (4 * n + j) (members ((beAt b 16 2 % 256) &&& d.fld (Reg.SM_FC_CTRL.PFC_RX_EN n j)) 8)
      fun k => beAt b (18 + 2 * k) 2).pauseWaiting (4 * n + j) := by
  have hmine := Dev.forPort_iff.2 hm
  rw [Dev.rxControl, hmine, hmode, hop]
  rfl

theorem Dev.rxControl_other {b : List Byte} (h1 : ¬ (d.forPort n j b ∧ d.fcMode n j = 1 ∧ beAt b 14 2 = 1))
    (h2 : ¬ (d.forPort n j b ∧ d.fcMode n j = 2 ∧ beAt b 14 2 = 0x101)) : d.rxControl n j b = d.smCnt n j 6 := by
  unfold Dev.rxControl
  dsimp only
  rw [if_neg (by rw [Bool.and_eq_true, Bool.and_eq_true, Dev.forPort_iff, beq_iff_eq, beq_iff_eq, and_assoc]; exact h1),
    if_neg (by rw [Bool.and_eq_true, Bool.and_eq_true, Dev.forPort_iff, beq_iff_eq, beq_iff_eq, and_assoc]; exact h2)]

theorem pfc_members (a b : Nat) {k : Nat} (hk : k < 8) : k ∈ members ((a % 256) &&& b) 8 ↔ bitOf a k = true ∧ bitOf b k = true := by
  rw [mem_members, bitOf_eq_testBit, Nat.testBit_and, Bool.and_eq_true, ← bitOf_eq_testBit, ← bitOf_eq_testBit, show (256 : Nat) = 2 ^ 8 from rfl, bitOf_mod hk]
  exact and_iff_right hk

theorem Dev.rxControl_spec (d : Dev) (n : Fin 112) (j : Fin 4) (b : List Byte) :
    let p := 4 * n.val + j
    let e := d.rxControl n j b
    let quantum := 64 * bytePs (d.fld (Reg.SM_PORT_STAT.SPEED n j))
    let until_ := fun (q : Nat) => if q = 0 then 0 else d.nowPs + q * quantum
    let was := fun (k : Nat) => Tbl.get (d.mac p).pause k 0
    let now := fun (k : Nat) => Tbl.get (e.mac p).pause k 0
    let pause := d.forPort n j b ∧ d.fcMode n j = 1 ∧ beAt b 14 2 = 1
    let pfc := d.forPort n j b ∧ d.fcMode n j = 2 ∧ beAt b 14 2 = 0x101
    let on := fun (k : Nat) => bitOf (beAt b 16 2) k = true ∧ bitOf (d.fld (Reg.SM_FC_CTRL.PFC_RX_EN n j)) k = true
    (pause → now 8 = until_ (beAt b 16 2) ∧ ∀ k < 8, now k = was k) ∧
    (pfc → now 8 = was 8 ∧ ∀ k < 8, (on k → now k = until_ (beAt b (18 + 2 * k) 2)) ∧ (¬ on k → now k = was k)) ∧
    (pause ∨ pfc → ∀ k < 8, bitOf (e.fld (Reg.SM_PORT_STAT.PAUSED n j)) k = (decide (now 8 ≠ 0) || decide (now k ≠ 0))) ∧
    (¬ pause → ¬ pfc → e = d.smCnt n j 6) := by
  intro p e quantum until_ was now pause pfc on
  obtain ⟨hn, hp⟩ := laneOf_port n j.isLt
  have huntil (q : Nat) : d.pauseEnd p q = until_ q := by
    rw [Dev.pauseEnd, hn, hp]
  obtain ⟨hget1, hbit1⟩ := d.paused_spec n j.isLt [8] fun _ => beAt b 16 2
  obtain ⟨hget2, hbit2⟩ := d.paused_spec n j.isLt (members ((beAt b 16 2 % 256) &&& d.fld (Reg.SM_FC_CTRL.PFC_RX_EN n j)) 8) fun k => beAt b (18 + 2 * k) 2
  refine ⟨fun ⟨hm, hmode, hop⟩ => ?_, fun ⟨hm, hmode, hop⟩ => ?_, fun h => ?_, fun h1 h2 => Dev.rxControl_other h1 h2⟩
  · rw [← Dev.rxControl_pause hm hmode hop] at hget1
    refine ⟨(hget1 8).trans ((if_pos (by simp)).trans (huntil _)), fun k hk => (hget1 k).trans (if_neg ?_)⟩
    simp only [List.mem_singleton]
    omega
  · rw [← Dev.rxControl_pfc hm hmode hop] at hget2
    refine ⟨(hget2 8).trans (if_neg fun h => absurd (mem_members.1 h).1 (by decide)), fun k hk => ⟨fun hon => ?_, fun hon => ?_⟩⟩
    · exact (hget2 k).trans ((if_pos ((pfc_members _ _ hk).2 hon)).trans (huntil _))
    · exact (hget2 k).trans (if_neg fun h => hon ((pfc_members _ _ hk).1 h))
  · obtain ⟨hm, hmode, hop⟩ | ⟨hm, hmode, hop⟩ := h
    · rw [← Dev.rxControl_pause hm hmode hop] at hbit1
      exact hbit1
    · rw [← Dev.rxControl_pfc hm hmode hop] at hbit2
      exact hbit2

/-! ### Control frames of the port's own (R230) -/

theorem Dev.nextCtl_asleep (h : d.on (Reg.SL_STAT.TX_ASLEEP (laneOf p)) = true) : d.nextCtl p = d := if_pos h

theorem Dev.nextCtl_busy (h : (d.mac p).tx ≠ none) : d.nextCtl p = d := by
  obtain ⟨t, ht⟩ := Option.ne_none_iff_exists'.1 h
  unfold Dev.nextCtl
  dsimp only
  rw [ht]
  split
  · rfl
  · cases (d.mac p).due <;> rfl

theorem Dev.nextCtl_none (h : (d.mac p).due = []) : d.nextCtl p = d := by
  unfold Dev.nextCtl
  dsimp only
  rw [h]
  split <;> rfl

/-- The frame with which the port's transmitter goes on: a control frame that was due. -/
def Dev.ctlFrame (d : Dev) (p : Nat) (b : List Byte) : TxFrame :=
  { data := b, start := max d.nowPs (d.mac p).free, ctl := true, gateFrom := max d.nowPs (d.mac p).free }

theorem Dev.nextCtl_keeps (d : Dev) (p : Nat) : { d.nextCtl p with macs := d.macs } = d := by
  unfold Dev.nextCtl
  dsimp only
  split
  · rfl
  · split <;> rfl

theorem Dev.nextCtl_goes {b : List Byte} {r : List (List Byte)} (ha : d.on (Reg.SL_STAT.TX_ASLEEP (laneOf p)) = false) (ht : (d.mac p).tx = none)
    (hd : (d.mac p).due = b :: r) : ∃ free, (d.nextCtl p).mac p = { d.mac p with due := r, tx := some (d.ctlFrame p b), free := free } := by
  have heq : d.nextCtl p = (d.setMac p { d.mac p with due := r }).txBegin p { data := b, start := max d.nowPs (d.mac p).free, ctl := true } := by
    unfold Dev.nextCtl
    dsimp only
    rw [ha, hd, ht]
    rfl
  rw [heq, Dev.txBegin, Dev.mac_setMac, Dev.mac_setMac]
  exact ⟨_, rfl⟩

/-! ### Refresh (R230) -/

/-- The watched counts whose frames are due again. -/
def Dev.fcDue (d : Dev) (n j : Nat) : List Nat :=
  (d.fcWatched n j).filter (fun i => bitOf (d.mac (4 * n + j)).above i && decide (Tbl.get (d.mac (4 * n + j)).refresh i d.nowPs ≤ d.nowPs))

/-- The times at which they are due once more. -/
def Dev.fcLater (d : Dev) (n j : Nat) : Tbl Nat :=
  let again := max 1 (d.fld (Reg.SM_FC_REFRESH.REFRESH n j)) * 64 * bytePs (d.fld (Reg.SM_PORT_STAT.SPEED n j))
  (d.fcDue n j).foldl (fun t i => Tbl.set t i (Tbl.get (d.mac (4 * n + j)).refresh i d.nowPs + again)) (d.mac (4 * n + j)).refresh

/-- The frame that tells the partner of the counts `up`. -/
def Dev.fcFrame (d : Dev) (n j : Nat) (up : List Nat) : List Byte :=
  let q := d.fld (Reg.SM_FC_CTRL.TX_QUANTA n j)
  if d.fcMode n j = 1 then pauseFrame (d.macAddr n j) q
  else pfcFrame (d.macAddr n j) ((up.map (2 ^ ·)).sum) (fun i => if i ∈ up then q else 0)

theorem Dev.fcSend_up {up : List Nat} (h : up ≠ []) (hj : j < 4) : d.fcSend (4 * n + j) up [] = d.sendCtl (4 * n + j) (d.fcFrame n j up) := by
  obtain ⟨hn, hp⟩ := laneOf_port n hj
  rw [Dev.fcSend, Dev.fcFrame, hn, hp]
  by_cases hm : d.fcMode n j = 1
  · rw [if_pos hm, if_pos hm, if_pos h]
  · rw [if_neg hm, if_neg hm, if_pos (.inl h), List.append_nil]

/-- The port with the refresh times moved on. -/
def Dev.fcMoved (d : Dev) (n j : Nat) : Dev := d.setMac (4 * n + j) { d.mac (4 * n + j) with refresh := d.fcLater n j }

theorem filterMap_guard {α β : Type} (c : α → Bool) (g : α → β) (l : List α) :
    l.filterMap (fun i => if c i then some (g i) else none) = (l.filter c).map g := by
  induction l with
  | nil => rfl
  | cons i l ih => cases hc : c i <;> simp [hc, ih]

theorem Dev.fcRefresh_eq (d : Dev) (n : Nat) (hj : j < 4) : d.fcRefresh (4 * n + j) =
    if d.fcDue n j = [] then d else (d.fcMoved n j).sendCtl (4 * n + j) (d.fcFrame n j (d.fcDue n j)) := by
  obtain ⟨hn, hp⟩ := laneOf_port n hj
  have hl : (d.fcWatched n j).filterMap (fun i => if bitOf (d.mac (4 * n + j)).above i && decide (Tbl.get (d.mac (4 * n + j)).refresh i d.nowPs ≤ d.nowPs)
      then some (i, Tbl.get (d.mac (4 * n + j)).refresh i d.nowPs) else none) =
      (d.fcDue n j).map fun i => (i, Tbl.get (d.mac (4 * n + j)).refresh i d.nowPs) := filterMap_guard ..
  have hmoved : d.refreshFrom (4 * n + j) ((d.fcDue n j).map fun i => (i, Tbl.get (d.mac (4 * n + j)).refresh i d.nowPs)) = d.fcMoved n j := by
    rw [Dev.refreshFrom, List.foldl_map, Dev.refreshPs, hn, hp]
    rfl
  have hfst : ((d.fcDue n j).map fun i => (i, Tbl.get (d.mac (4 * n + j)).refresh i d.nowPs)).map (·.1) = d.fcDue n j := by
    rw [List.map_map]
    exact List.map_id' _
  rw [Dev.fcRefresh, hn, hp]
  dsimp only
  rw [hl, hmoved, hfst]
  by_cases hdue : d.fcDue n j = []
  · rw [if_pos hdue, hdue]
    rfl
  · rw [if_neg hdue, if_neg (by simpa using hdue), Dev.fcSend_up hdue hj]
    rfl

/-- A control frame that waits behind what the port sends, or that goes at once. -/
theorem Dev.sendCtl_up {b : List Byte} (hj : j < 4) (hu : d.portUp n j = true) : let p := 4 * n + j
    let e := d.sendCtl p b
    d.Regs e [(Reg.SM_PORT_STAT.LPI_TX n j, 0)] ∧
    ((d.mac p).tx ≠ none ∨ d.on (Reg.SL_STAT.TX_ASLEEP n) = true → e.mac p = { d.mac p with due := (d.mac p).due ++ [b] }) ∧
    ((d.mac p).tx = none → (d.mac p).due = [] → d.on (Reg.SL_STAT.TX_ASLEEP n) = false → ∃ free,
      e.mac p = { d.mac p with due := [], tx := some (d.ctlFrame p b), free := free }) := by
  obtain ⟨hn, hp⟩ := laneOf_port n hj
  obtain ⟨x, hx⟩ : ∃ x, x = (d.setMac (4 * n + j) { d.mac (4 * n + j) with due := (d.mac (4 * n + j)).due ++ [b] }).clr (Reg.SM_PORT_STAT.LPI_TX n j) := ⟨_, rfl⟩
  have heq : d.sendCtl (4 * n + j) b = x.nextCtl (4 * n + j) := by
    rw [Dev.sendCtl, hn, hp, hu, hx]
    rfl
  have hmac : x.mac (4 * n + j) = { d.mac (4 * n + j) with due := (d.mac (4 * n + j)).due ++ [b] } := by
    rw [hx]
    exact Dev.mac_setMac ..
  have hregs : d.Regs x [(Reg.SM_PORT_STAT.LPI_TX n j, 0)] := by
    rw [hx]
    exact (Dev.Sets.put_one (d.setMac _ _) (Reg.SM_PORT_STAT.LPI_TX n j) 0).1
  have hon : x.on (Reg.SL_STAT.TX_ASLEEP n) = d.on (Reg.SL_STAT.TX_ASLEEP n) := by
    rw [Dev.on, Dev.on, hregs.fld_eq (by
      simp only [List.map_cons, List.map_nil, List.mem_singleton, Fld.key, Reg.SL_STAT.TX_ASLEEP, Reg.SM_PORT_STAT.LPI_TX]
      omega)]
  have hnow : x.nowPs = d.nowPs := by rw [hx]; rfl
  have hkeep := x.nextCtl_keeps (4 * n + j)
  intro p e
  rw [show e = _ from heq]
  refine ⟨hregs.of_regs rfl (congrArg Dev.regs hkeep :), fun h => ?_, fun ht hd ha => ?_⟩
  · refine Eq.trans (congrArg (Dev.mac · p) ?_) hmac
    obtain h | h := h
    · exact Dev.nextCtl_busy (by rw [hmac]; exact h)
    · exact Dev.nextCtl_asleep (by rw [hn, hon]; exact h)
  · obtain ⟨free, hgo⟩ := Dev.nextCtl_goes (d := x) (p := 4 * n + j) (b := b) (r := []) (by rw [hn, hon]; exact ha) (by rw [hmac]; exact ht)
      (by rw [hmac, hd]; rfl)
    refine ⟨free, hgo.trans ?_⟩
    rw [hmac, Dev.ctlFrame, hmac, hnow]
    rfl

/-! ### A port asks its node (R225, R234) -/

/-- The earliest start of the frame that the port asks for. -/
def Dev.askDue (d : Dev) (n j : Nat) : Nat :=
  let tw := if d.on (Reg.SM_PORT_STAT.LPI_TX n j) = true then max 200 (d.fld (Reg.SM_EEE_CTRL.TW n j)) * 10000 else 0
  if (d.mac (4 * n + j)).tx = none then max (d.mac (4 * n + j)).free (d.nowPs + 400000 + tw) else (d.mac (4 * n + j)).free

/-- What the node of the port answers. -/
def Dev.askGot (d : Dev) (n j : Nat) : Dev × Option (Frame × Nat) :=
  (d.purge (4 * n + j) (d.portTest (4 * n + j) (d.askDue n j)) (Dev.portRemoved (4 * n + j)) 64).take (4 * n + j) (d.portTest (4 * n + j) (d.askDue n j))

/-- The port keeps the frame that it got. -/
def Dev.askKept (d : Dev) (n j : Nat) : Dev × Option (Frame × Nat) → Dev
  | (x, some (f, q)) => (x.setMac (4 * n + j) { x.mac (4 * n + j) with waiting := some (f, q, d.askDue n j) }).clr (Reg.SM_PORT_STAT.LPI_TX n j)
  | (x, none) => x

/-- A port whose link is down drops the frame that it got. -/
def askDropped (n j : Nat) : Dev × Option (Frame × Nat) → Dev
  | (x, some (f, _)) => (x.release f).smCnt n j 22
  | (x, none) => x

theorem Dev.portRequest_mute (h : d.on (Reg.SM_PORT_CTRL.TX_EN n j) = false ∨ bitOf d.wake.off (sliceOf (4 * n + j)) = true) : d.portRequest n j = d := by
  refine if_pos ?_
  rw [Bool.or_eq_true, Bool.not_eq_true']
  exact h

section Asks
variable (ht : d.on (Reg.SM_PORT_CTRL.TX_EN n j) = true) (ho : bitOf d.wake.off (sliceOf (4 * n + j)) = false)
include ht ho

theorem Dev.portRequest_asks (hf : ¬ (d.portUp n j = true ∧ (d.mac (4 * n + j)).waiting ≠ none)) : d.portRequest n j =
    if d.portUp n j then d.askKept n j (d.askGot n j)
    else if d.on (Reg.SM_PORT_CTRL.LINK_DOWN_ACT n j) then askDropped n j (d.take (4 * n + j) (fun _ => .send)) else d := by
  refine (if_neg (by rw [ht, ho]; decide)).trans ?_
  cases hu : d.portUp n j
  · refine (if_neg (by decide)).trans ?_
    simp only [Bool.false_eq_true, if_false]
    cases d.on (Reg.SM_PORT_CTRL.LINK_DOWN_ACT n j)
    · rfl
    · obtain ⟨x, o⟩ := d.take (4 * n + j) (fun _ => .send)
      cases o <;> rfl
  · have hw : (d.mac (4 * n + j)).waiting.isSome = false := by
      rw [← Bool.not_eq_true, Option.isSome_iff_ne_none]
      exact fun h => hf ⟨hu, h⟩
    refine (if_pos rfl).trans ((if_neg (by rw [hw]; decide)).trans ?_)
    rw [if_pos rfl, Dev.askGot, Dev.askKept.eq_def, Dev.askDue]
    cases (d.mac (4 * n + j)).tx <;> rfl

theorem Dev.portRequest_full (hu : d.portUp n j = true) (hw : (d.mac (4 * n + j)).waiting ≠ none) : d.portRequest n j = d := by
  refine (if_neg (by rw [ht, ho]; decide)).trans ?_
  refine (if_pos hu).trans (if_pos ?_)
  rw [Option.isSome_iff_ne_none]
  exact hw

end Asks

/-! ### A record of a start leaves the ports alone -/

theorem Dev.recordsOut_macs (e : Nat) : ∀ (fuel : Nat) (d : Dev), (d.recordsOut e fuel).macs = d.macs
  | 0, _ => rfl
  | fuel + 1, d => by
    unfold Dev.recordsOut
    dsimp only
    cases (d.ring e).hold with
    | nil => rfl
    | cons w t =>
      dsimp only
      split
      · exact (Dev.recordsOut_macs e fuel _).trans rfl
      · rfl

theorem Dev.record_macs (d : Dev) (e : Nat) (w : List Nat) : (d.record e w).macs = d.macs := Dev.recordsOut_macs ..

theorem Dev.txDone_macs (d : Dev) (t : TxTag) (status : Nat) (x : Option Stamp) : (d.txDone t status x).macs = d.macs := by
  have h1 : ((d.record (d.evtRing t.ring) [recWord 1 status t.ring x.isSome, t.cookie, t.eofIdx % 2 ^ 16, t.len]).iff (status == 0)
      (·.bump (Reg.HIF_RING_CNT.COUNT t.ring 0))).macs = d.macs := by
    cases status == 0 <;> exact Dev.record_macs ..
  unfold Dev.txDone
  cases x with
  | none => exact h1
  | some s => exact (Dev.record_macs ..).trans h1

theorem Dev.stamped_macs (d : Dev) (f : Frame) (x : Stamp) : (d.stamped f x).macs = d.macs := by
  unfold Dev.stamped
  cases f.htx with
  | none => rfl
  | some i =>
    dsimp only
    split
    · rfl
    · exact (Dev.txDone_macs ..).trans rfl

/-! ### The waiting frame starts (R226) -/

theorem Dev.frameStart_mac (d : Dev) (n j : Nat) (st : Strobe) (q : Nat) : (d.frameStart n j st).mac q = (d.txStart n j st).mac q := by
  have hm : (d.frameStart n j st).macs = (d.txStart n j st).macs := by
    unfold Dev.frameStart
    dsimp only
    split
    · split
      · exact Dev.stamped_macs ..
      · rfl
    · rfl
  rw [Dev.mac, hm, Dev.mac]

/-- No stamp goes into a record where no frame of a host has started. -/
theorem Dev.frameStart_plain {st : Strobe} (h : ((d.txStart n j st).mac (4 * n + j)).tx = (d.mac (4 * n + j)).tx ∨
    ∃ t, ((d.txStart n j st).mac (4 * n + j)).tx = some t ∧ t.stamp = none) : d.frameStart n j st = d.txStart n j st := by
  unfold Dev.frameStart
  dsimp only
  obtain h | ⟨t, ht, hs⟩ := h
  · rw [h]
    cases (d.mac (4 * n + j)).tx <;> rfl
  · rw [ht]
    cases (d.mac (4 * n + j)).tx
    · simp only [hs]
    · rfl

/-- The port without its waiting frame. -/
def Dev.unwait (d : Dev) (p : Nat) : Dev := d.setMac p { d.mac p with waiting := none }

/-- The bytes that have to be held before a frame starts. -/
def Dev.ctWant (d : Dev) (n j : Nat) (f : Frame) : Nat := min (max 1 (d.fld (Reg.SM_CT.CT_UNITS n j)) * 256) (d.editedF f).fullLen

/-- The time at which a frame with start time `a` would start. -/
def Dev.goAt (d : Dev) (p a : Nat) : Nat := max (max a d.nowPs) (d.mac p).free

/-- The frame leaves as its edit has it, or is dropped. -/
def Dev.sendOff (d : Dev) (n j : Nat) (st : Strobe) (f : Frame) (go : Nat) : Dev × Option (List Byte) → Dev
  | (d2, none) => d2.release f
  | (d2, some b0) =>
    let b := padTo 60 b0
    let stamp := d2.stampTx st (3600 * psU) ((phyLat (d.laneMode n)).2 * 100 * psU) (modeUi (d.laneMode n)) (4 * n + j)
    let one := bitOf f.tsReq 1 && d.on Reg.TIM_CTRL.ONE_STEP_EN
    let at1 := if one && d.on Reg.TIM_STAT.TIME_SET then ptpAt (d.parseOpt d.actTag) b else none
    let d3 := d2.iff (bitOf f.tsReq 1 && at1.isNone) (·.bump (Reg.TIM_CNT.COUNT 5))
    let b1 := match at1 with | some i => oneStep b i stamp | none => b
    (d3.release f).txBegin (4 * n + j) { f := { f.edited b0 with pool := .none }, data := b1, start := go, stamp := some stamp }

theorem Dev.txStart_eq {f : Frame} {q a : Nat} (st : Strobe) (hw : (d.mac (4 * n + j)).waiting = some (f, q, a)) : d.txStart n j st =
    if f.failed then (d.unwait (4 * n + j)).release f
    else if (d.mac (4 * n + j)).tx.isSome ∨ (d.editedF f).held < d.ctWant n j f ∨ d.on (Reg.SL_STAT.TX_ASLEEP n) then d
    else if (d.mac (4 * n + j)).due ≠ [] then d.nextCtl (4 * n + j)
    else if a < d.goAt (4 * n + j) a ∧ ¬ d.mayStart (4 * n + j) (d.goAt (4 * n + j) a) f then ((d.unwait (4 * n + j)).requeue q f).smCnt n j 23
    else d.sendOff n j st f (d.goAt (4 * n + j) a) ((d.unwait (4 * n + j)).editOut f) := by
  unfold Dev.txStart
  dsimp only
  rw [hw]
  rfl

theorem Dev.editOut_macs (d : Dev) (f : Frame) : (d.editOut f).1.macs = d.macs := by
  unfold Dev.editOut
  dsimp only
  cases (d.edit f).2 <;> split <;> rfl

theorem Dev.release_macs (d : Dev) (f : Frame) : (d.release f).macs = d.macs := by
  obtain ⟨t, ht⟩ := d.release_tm f
  rw [ht]

theorem Dev.iff_bump_macs (d : Dev) (c : Bool) (f : Fld) : (d.iff c (·.bump f)).macs = d.macs := by cases c <;> rfl

theorem Dev.sendOff_some (d : Dev) (n j : Nat) (st : Strobe) (f : Frame) (go : Nat) (x : Dev) (b : List Byte) : ∃ (y : Dev) (t : TxFrame),
    d.sendOff n j st f go (x, some b) = (y.release f).txBegin (4 * n + j) t ∧ y.macs = x.macs ∧ t.start = go ∧ t.ctl = false ∧
      (bitOf f.tsReq 1 = false → t.data = padTo 60 b) ∧ (f.total ≠ 0 → t.f.total = f.total + b.length - f.data.length) := by
  refine ⟨_, _, rfl, ?_, rfl, rfl, fun h => ?_, fun h => if_neg h⟩
  · exact Dev.iff_bump_macs ..
  · rw [h]
    rfl

/-- The frame that leaves is the one in transmission. -/
theorem Dev.sendOff_mac (d : Dev) (n j : Nat) (st : Strobe) (f : Frame) (go : Nat) (x : Dev) (b : List Byte) :
    ((d.sendOff n j st f go (x, some b)).mac (4 * n + j)).waiting = (x.mac (4 * n + j)).waiting ∧
    ∃ t, ((d.sendOff n j st f go (x, some b)).mac (4 * n + j)).tx = some t ∧ t.start = go ∧ t.ctl = false ∧
      (bitOf f.tsReq 1 = false → t.data = padTo 60 b) ∧ (f.total ≠ 0 → t.f.total = f.total + b.length - f.data.length) := by
  obtain ⟨y, t, heq, hy, ht⟩ := d.sendOff_some n j st f go x b
  have hmac : (y.release f).mac (4 * n + j) = x.mac (4 * n + j) := by rw [Dev.mac, Dev.release_macs, hy, Dev.mac]
  rw [heq, Dev.txBegin, Dev.mac_setMac, hmac]
  exact ⟨rfl, { t with gateFrom := t.start }, rfl, ht⟩

theorem Dev.unwait_mac (d : Dev) (p : Nat) : (d.unwait p).mac p = { d.mac p with waiting := none } := Dev.mac_setMac ..

theorem Dev.editOut_mac (d : Dev) (f : Frame) (p : Nat) : (d.editOut f).1.mac p = d.mac p := by rw [Dev.mac, Dev.editOut_macs, Dev.mac]

section Start
variable {f : Frame} {q a : Nat} {st : Strobe} (hw : (d.mac (4 * n + j)).waiting = some (f, q, a))
include hw

/-- A frame that has failed is given up. -/
theorem Dev.frameStart_failed (hf : f.failed = true) : d.frameStart n j st = (d.unwait (4 * n + j)).release f := by
  have heq : d.txStart n j st = (d.unwait (4 * n + j)).release f := (Dev.txStart_eq st hw).trans (if_pos hf)
  refine (Dev.frameStart_plain (.inl ?_)).trans heq
  rw [heq, Dev.mac, Dev.release_macs]
  exact (congrArg Mac.tx (d.unwait_mac (4 * n + j)) :)

theorem Dev.frameStart_held (hf : f.failed = false)
    (hb : (d.mac (4 * n + j)).tx ≠ none ∨ (d.editedF f).held < d.ctWant n j f ∨ d.on (Reg.SL_STAT.TX_ASLEEP n) = true) : d.frameStart n j st = d := by
  have heq : d.txStart n j st = d := (Dev.txStart_eq st hw).trans ((if_neg (by rw [hf]; decide)).trans (if_pos (by rwa [Option.isSome_iff_ne_none])))
  exact (Dev.frameStart_plain (.inl (by rw [heq]))).trans heq

section Free
variable (hf : f.failed = false) (ht : (d.mac (4 * n + j)).tx = none) (hh : d.ctWant n j f ≤ (d.editedF f).held)
  (ha : ¬ d.on (Reg.SL_STAT.TX_ASLEEP n) = true)
include hf ht hh ha

/-- A frame that may start does, behind a control frame that is due and unless its delay stops it. -/
theorem Dev.txStart_free : d.txStart n j st =
    if (d.mac (4 * n + j)).due ≠ [] then d.nextCtl (4 * n + j)
    else if a < d.goAt (4 * n + j) a ∧ ¬ d.mayStart (4 * n + j) (d.goAt (4 * n + j) a) f then ((d.unwait (4 * n + j)).requeue q f).smCnt n j 23
    else d.sendOff n j st f (d.goAt (4 * n + j) a) ((d.unwait (4 * n + j)).editOut f) := by
  refine (Dev.txStart_eq st hw).trans ((if_neg (by rw [hf]; decide)).trans (if_neg ?_))
  rw [ht, not_or, not_or]
  exact ⟨by simp, not_lt.2 hh, ha⟩

theorem Dev.frameStart_ctl {b : List Byte} {r : List (List Byte)} (hj : j < 4) (hd : (d.mac (4 * n + j)).due = b :: r) : let e := d.frameStart n j st
    (e.mac (4 * n + j)).waiting = some (f, q, a) ∧ (e.mac (4 * n + j)).due = r ∧ (e.mac (4 * n + j)).tx = some (d.ctlFrame (4 * n + j) b) ∧ e.regs = d.regs := by
  have heq : d.txStart n j st = d.nextCtl (4 * n + j) := (Dev.txStart_free hw hf ht hh ha).trans (if_pos (by rw [hd]; simp))
  obtain ⟨free, hgo⟩ := Dev.nextCtl_goes (by rw [(laneOf_port n hj).1]; exact Bool.not_eq_true _ ▸ ha) ht hd
  have hplain : d.frameStart n j st = d.nextCtl (4 * n + j) := (Dev.frameStart_plain (.inr ⟨_, by rw [heq, hgo], rfl⟩)).trans heq
  intro e
  rw [show e = _ from hplain, hgo]
  exact ⟨hw, rfl, rfl, (congrArg Dev.regs (d.nextCtl_keeps (4 * n + j)) :)⟩

section Quiet
variable (hd : (d.mac (4 * n + j)).due = [])
include hd

theorem Dev.frameStart_late (hl : a < d.goAt (4 * n + j) a ∧ d.mayStart (4 * n + j) (d.goAt (4 * n + j) a) f = false) :
    d.frameStart n j st = ((d.unwait (4 * n + j)).requeue q f).smCnt n j 23 := by
  have heq : d.txStart n j st = ((d.unwait (4 * n + j)).requeue q f).smCnt n j 23 :=
    (Dev.txStart_free hw hf ht hh ha).trans ((if_neg (not_not_intro hd)).trans (if_pos ⟨hl.1, by rw [hl.2]; decide⟩))
  refine (Dev.frameStart_plain (.inl ?_)).trans heq
  rw [heq]
  exact (congrArg Mac.tx (d.unwait_mac (4 * n + j)) :)

theorem Dev.txStart_sends (hl : ¬ (a < d.goAt (4 * n + j) a ∧ d.mayStart (4 * n + j) (d.goAt (4 * n + j) a) f = false)) :
    d.txStart n j st = d.sendOff n j st f (d.goAt (4 * n + j) a) ((d.unwait (4 * n + j)).editOut f) :=
  (Dev.txStart_free hw hf ht hh ha).trans ((if_neg (not_not_intro hd)).trans (if_neg (by rwa [Bool.not_eq_true])))

theorem Dev.frameStart_gone (hl : ¬ (a < d.goAt (4 * n + j) a ∧ d.mayStart (4 * n + j) (d.goAt (4 * n + j) a) f = false))
    (he : ((d.unwait (4 * n + j)).editOut f).2 = none) : d.frameStart n j st = ((d.unwait (4 * n + j)).editOut f).1.release f := by
  have heq : d.txStart n j st = ((d.unwait (4 * n + j)).editOut f).1.release f := by
    rw [Dev.txStart_sends hw hf ht hh ha hd hl, show (d.unwait (4 * n + j)).editOut f = (((d.unwait (4 * n + j)).editOut f).1, none) from by rw [← he]]
    rfl
  refine (Dev.frameStart_plain (.inl ?_)).trans heq
  rw [heq, Dev.mac, Dev.release_macs, ← Dev.mac, Dev.editOut_mac, Dev.unwait_mac]

theorem Dev.frameStart_sends (hl : ¬ (a < d.goAt (4 * n + j) a ∧ d.mayStart (4 * n + j) (d.goAt (4 * n + j) a) f = false)) {b : List Byte}
    (he : ((d.unwait (4 * n + j)).editOut f).2 = some b) : let e := d.frameStart n j st
    (e.mac (4 * n + j)).waiting = none ∧ ∃ t, (e.mac (4 * n + j)).tx = some t ∧ t.start = d.goAt (4 * n + j) a ∧ t.ctl = false ∧
      (bitOf f.tsReq 1 = false → t.data = padTo 60 b) ∧ (f.total ≠ 0 → t.f.total = f.total + b.length - f.data.length) := by
  intro e
  obtain ⟨hwait, hgoes⟩ := d.sendOff_mac n j st f (d.goAt (4 * n + j) a) ((d.unwait (4 * n + j)).editOut f).1 b
  rw [show e.mac (4 * n + j) = _ from d.frameStart_mac n j st _, Dev.txStart_sends hw hf ht hh ha hd hl,
    show (d.unwait (4 * n + j)).editOut f = (((d.unwait (4 * n + j)).editOut f).1, some b) from by rw [← he]]
  refine ⟨hwait.trans ?_, hgoes⟩
  rw [Dev.editOut_mac, Dev.unwait_mac]

end Quiet
end Free
end Start

theorem Dev.frameStart_idle {st : Strobe} (hw : (d.mac (4 * n + j)).waiting = none) : d.frameStart n j st = d := by
  have heq : d.txStart n j st = d := by
    unfold Dev.txStart
    dsimp only
    rw [hw]
  exact (Dev.frameStart_plain (.inl (by rw [heq]))).trans heq

/-! ### A frame in transmission ends (R224, R227, R232) -/

/-- The transmitter has gone on from `d`: with the control frame that was due, or with nothing. -/
def Dev.Next (d e : Dev) (n j : Nat) : Prop :=
  ((d.mac (4 * n + j)).due = [] ∨ d.on (Reg.SL_STAT.TX_ASLEEP n) = true →
    (e.mac (4 * n + j)).tx = none ∧ (e.mac (4 * n + j)).due = (d.mac (4 * n + j)).due) ∧
  ∀ b r, (d.mac (4 * n + j)).due = b :: r → d.on (Reg.SL_STAT.TX_ASLEEP n) = false →
    (e.mac (4 * n + j)).due = r ∧ ∃ t, (e.mac (4 * n + j)).tx = some t ∧ t.data = b ∧ t.ctl = true

theorem Dev.next_of_idle {y : Dev} (hj : j < 4) (htx : (y.mac (4 * n + j)).tx = none) (hdue : (y.mac (4 * n + j)).due = (d.mac (4 * n + j)).due)
    (ha : y.fld (Reg.SL_STAT.TX_ASLEEP n) = d.fld (Reg.SL_STAT.TX_ASLEEP n)) : d.Next (y.nextCtl (4 * n + j)) n j := by
  obtain ⟨hn, -⟩ := laneOf_port n hj
  have hon : y.on (Reg.SL_STAT.TX_ASLEEP (laneOf (4 * n + j))) = d.on (Reg.SL_STAT.TX_ASLEEP n) := by rw [hn, Dev.on, Dev.on, ha]
  refine ⟨fun h => ?_, fun b r hb hs => ?_⟩
  · have heq : y.nextCtl (4 * n + j) = y := by
      obtain h | h := h
      · exact Dev.nextCtl_none (hdue.trans h)
      · exact Dev.nextCtl_asleep (hon.trans h)
    rw [heq]
    exact ⟨htx, hdue⟩
  · obtain ⟨free, hgo⟩ := Dev.nextCtl_goes (hon.trans hs) htx (hdue.trans hb)
    rw [hgo]
    exact ⟨rfl, _, rfl, rfl, rfl⟩

/-- The counts, UNDERRUN, GATE_OVERRUN and the lane's sleep are apart. -/
theorem endFlds_apart (n j c : Nat) : ∀ f ∈ [Reg.SL_STAT.TX_ASLEEP n, Reg.SM_PORT_EVT.UNDERRUN n j, Reg.SM_CT.CT_UNITS n j, Reg.SM_PORT_EVT.GATE_OVERRUN n j],
    f.key ∉ (cntFlds n j c).map Fld.key := by
  simp only [cntFlds, List.map_cons, List.map_nil, List.mem_cons, List.not_mem_nil, or_false, not_or]
  rintro f (rfl | rfl | rfl | rfl) <;>
    simp only [Fld.key, Reg.SL_STAT.TX_ASLEEP, Reg.SM_PORT_EVT.UNDERRUN, Reg.SM_CT.CT_UNITS, Reg.SM_PORT_EVT.GATE_OVERRUN, Reg.SM_CNT_LO.COUNT, Reg.SM_CNT_HI.COUNT] <;> omega

theorem asleep_apart (n j c : Nat) : (Reg.SL_STAT.TX_ASLEEP n).key ∉ (cntFlds n j c).map Fld.key := endFlds_apart n j c _ (by simp)

theorem Dev.stompAt_spec {t : TxFrame} (hj : j < 4) (htx : (d.mac (4 * n + j)).tx = some t) (c k : Nat) : let e := d.stompAt (4 * n + j) c k
    d.SameRegs e (cntFlds n j c) ∧ (e.mac (4 * n + j)).tx = none ∧ (e.mac (4 * n + j)).due = (d.mac (4 * n + j)).due ∧
    e.out = (if t.cut then [] else [.portTx (4 * n + j) (stompBytes t.data k) false]) ++ d.out := by
  obtain ⟨hn, hp⟩ := laneOf_port n hj
  unfold Dev.stompAt
  simp only [htx, hn, hp]
  obtain ⟨-, hregs, hmac⟩ := d.txEnd_spec (4 * n + j) n j c { d.mac (4 * n + j) with
    tx := none
    free := t.start + (8 + (stompBytes t.data k).length + 12) * bytePs (d.fld (Reg.SM_PORT_STAT.SPEED n j)) } t (stompBytes t.data k) false
  exact ⟨hregs, (congrArg Mac.tx hmac :), (congrArg Mac.due hmac :), Dev.txOut_out ..⟩

/-- A frame is stomped, and the next control frame follows. -/
theorem Dev.stompNext_spec {t : TxFrame} (hj : j < 4) (htx : (d.mac (4 * n + j)).tx = some t) (c k : Nat) :
    let e := (d.stompAt (4 * n + j) c k).nextCtl (4 * n + j)
    d.SameRegs e (cntFlds n j c) ∧ d.Next e n j ∧ e.out = (if t.cut then [] else [.portTx (4 * n + j) (stompBytes t.data k) false]) ++ d.out := by
  obtain ⟨hregs, hnone, hdue, hout⟩ := Dev.stompAt_spec hj htx c k
  obtain ⟨y, hy⟩ : ∃ y, y = d.stompAt (4 * n + j) c k := ⟨_, rfl⟩
  rw [← hy] at hregs hnone hdue hout ⊢
  have hkeep := y.nextCtl_keeps (4 * n + j)
  exact ⟨hregs.of_regs (congrArg Dev.regs hkeep :), Dev.next_of_idle hj hnone hdue (hregs.fld_eq (asleep_apart n j c)), (congrArg Dev.out hkeep :).trans hout⟩

theorem Dev.txUnderrun_failed {t : TxFrame} (hj : j < 4) (htx : (d.mac (4 * n + j)).tx = some t) (hf : t.f.failed = true) : let e := d.txUnderrun n j
    d.Next e n j ∧ e.out = (if t.cut then [] else [.portTx (4 * n + j) (stompBytes t.data t.data.length) false]) ++ d.out ∧
    e.fld (Reg.SM_PORT_EVT.UNDERRUN n j) = d.fld (Reg.SM_PORT_EVT.UNDERRUN n j) ∧ e.fld (Reg.SM_CT.CT_UNITS n j) = d.fld (Reg.SM_CT.CT_UNITS n j) := by
  obtain ⟨hregs, hnext, hout⟩ := Dev.stompNext_spec hj htx 18 t.data.length
  have heq : d.txUnderrun n j = (d.stompAt (4 * n + j) 18 t.data.length).nextCtl (4 * n + j) := by
    unfold Dev.txUnderrun
    dsimp only
    rw [htx]
    exact if_pos hf
  intro e
  rw [show e = _ from heq, hregs.fld_eq (endFlds_apart n j 18 _ (by simp)), hregs.fld_eq (endFlds_apart n j 18 _ (by simp))]
  exact ⟨hnext, hout, rfl, rfl⟩

theorem Dev.txUnderrun_counts {t : TxFrame} (hj : j < 4) (htx : (d.mac (4 * n + j)).tx = some t) (hf : t.f.failed = false) : let e := d.txUnderrun n j
    d.Next e n j ∧ e.out = (if t.cut then [] else [.portTx (4 * n + j) (stompBytes t.data t.data.length) false]) ++ d.out ∧
    e.fld (Reg.SM_PORT_EVT.UNDERRUN n j) = 1 ∧ e.fld (Reg.SM_CT.CT_UNITS n j) = min 63 (d.fld (Reg.SM_CT.CT_UNITS n j) + 1) := by
  obtain ⟨-, hnext, hout⟩ := Dev.stompNext_spec hj htx 17 t.data.length
  obtain ⟨y, hy⟩ : ∃ y, y = (d.stompAt (4 * n + j) 17 t.data.length).nextCtl (4 * n + j) := ⟨_, rfl⟩
  have heq : d.txUnderrun n j = (y.ev (Reg.SM_PORT_EVT.UNDERRUN n j)).put (Reg.SM_CT.CT_UNITS n j) (min 63 (d.fld (Reg.SM_CT.CT_UNITS n j) + 1)) := by
    unfold Dev.txUnderrun
    dsimp only
    rw [htx, hy]
    exact if_neg (by rw [hf]; decide)
  rw [← hy] at hnext hout
  intro e
  rw [show e = _ from heq]
  refine ⟨hnext, hout, (Dev.fld_put_ne _ _ ?_).trans (Dev.fld_put_same ..), (Dev.fld_put_same ..).trans (Nat.mod_eq_of_lt ?_)⟩
  · simp only [Fld.key, Reg.SM_PORT_EVT.UNDERRUN, Reg.SM_CT.CT_UNITS]
    omega
  · show _ < 64
    omega

/-! ### The end of a whole frame -/

/-- The counters of a frame sent. -/
theorem Dev.castCount_regs (d : Dev) (n j c : Nat) (b : List Byte) : ∃ k, d.SameRegs (d.castCount n j c b) (cntFlds n j c ++ cntFlds n j (c + 1) ++ cntFlds n j k) := by
  refine ⟨c + if beAt b 0 6 = 0xFFFFFFFFFFFF then 4 else if byteAt b 0 % 2 = 1 then 3 else 2, ?_⟩
  have h12 : d.SameRegs ((d.smCnt n j c).smCount n j (c + 1) (b.length + 4)) (cntFlds n j c ++ cntFlds n j (c + 1)) :=
    (d.smCount_regs n j c 1).trans (Dev.smCount_regs _ n j (c + 1) (b.length + 4)) fun _ hx => hx
  exact h12.trans (Dev.smCount_regs _ n j _ 1) fun _ hx => hx

theorem Dev.castCount_rest (d : Dev) (n j c : Nat) (b : List Byte) : { d.castCount n j c b with regs := d.regs } = d := rfl

theorem Dev.txEnd_failed {t : TxFrame} (hj : j < 4) (htx : (d.mac (4 * n + j)).tx = some t) (hf : t.f.failed = true) (hc : t.ctl = false) :
    let e := (d.txEnd n j).1
    d.Next e n j ∧ e.out = (if t.cut then [] else [.portTx (4 * n + j) (stompBytes t.data (d.sentSoFar (4 * n + j) t)) false]) ++ d.out := by
  obtain ⟨-, hnext, hout⟩ := Dev.stompNext_spec hj htx 18 (d.sentSoFar (4 * n + j) t)
  have heq : (d.txEnd n j).1 = (d.stompAt (4 * n + j) 18 (d.sentSoFar (4 * n + j) t)).nextCtl (4 * n + j) := by
    unfold Dev.txEnd Dev.stomp
    dsimp only
    rw [htx]
    dsimp only
    rw [hc, hf]
    rfl
  intro e
  rw [show e = _ from heq]
  exact ⟨hnext, hout⟩

/-- The frame has left whole: the port is free, nothing is counted yet. -/
def Dev.sentWhole (d : Dev) (p : Nat) (t : TxFrame) : Dev := (d.setMac p { d.mac p with tx := none }).txOut p t (t.data ++ fcs t.data) true

theorem Dev.sentWhole_spec (d : Dev) (p : Nat) (t : TxFrame) : let y := d.sentWhole p t
    y.regs = d.regs ∧ y.mac p = { d.mac p with tx := none } ∧ y.out = (if t.cut then [] else [.portTx p (t.data ++ fcs t.data) true]) ++ d.out := by
  have hrest := (d.setMac p { d.mac p with tx := none }).txOut_rest p t (t.data ++ fcs t.data) true
  have hmacs : (d.sentWhole p t).macs = (d.setMac p { d.mac p with tx := none }).macs := (congrArg Dev.macs hrest :)
  refine ⟨(congrArg Dev.regs hrest :), ?_, Dev.txOut_out ..⟩
  rw [Dev.mac, hmacs]
  exact Dev.mac_setMac ..

/-- What a frame's end leaves of the sentence: only counters and GATE_OVERRUN have changed since it left. -/
theorem Dev.sent_next {t : TxFrame} {z : Dev} {ks : List Fld} (hj : j < 4) (hregs : d.SameRegs z ks) (hks : (Reg.SL_STAT.TX_ASLEEP n).key ∉ ks.map Fld.key)
    (hz : { z with regs := (d.sentWhole (4 * n + j) t).regs } = d.sentWhole (4 * n + j) t) : let e := z.nextCtl (4 * n + j)
    d.Next e n j ∧ e.out = (if t.cut then [] else [.portTx (4 * n + j) (t.data ++ fcs t.data) true]) ++ d.out ∧ e.regs = z.regs := by
  obtain ⟨-, hmac, hout⟩ := d.sentWhole_spec (4 * n + j) t
  have hzmac : z.mac (4 * n + j) = { d.mac (4 * n + j) with tx := none } := (congrArg (Dev.mac · (4 * n + j)) hz :).trans hmac
  have hkeep := z.nextCtl_keeps (4 * n + j)
  exact ⟨Dev.next_of_idle hj (by rw [hzmac]) (by rw [hzmac]) (hregs.fld_eq hks), (congrArg Dev.out hkeep :).trans ((congrArg Dev.out hz :).trans hout),
    (congrArg Dev.regs hkeep :)⟩

theorem Dev.txEnd_ctl {t : TxFrame} (hj : j < 4) (htx : (d.mac (4 * n + j)).tx = some t) (hc : t.ctl = true) : let e := (d.txEnd n j).1
    d.Next e n j ∧ e.out = (if t.cut then [] else [.portTx (4 * n + j) (t.data ++ fcs t.data) true]) ++ d.out ∧
    e.fld (Reg.SM_PORT_EVT.GATE_OVERRUN n j) = d.fld (Reg.SM_PORT_EVT.GATE_OVERRUN n j) := by
  have heq : (d.txEnd n j).1 = ((d.sentWhole (4 * n + j) t).smCnt n j 16).nextCtl (4 * n + j) := by
    unfold Dev.txEnd
    dsimp only
    rw [htx]
    dsimp only
    rw [hc]
    rfl
  have hregs : d.SameRegs ((d.sentWhole (4 * n + j) t).smCnt n j 16) (cntFlds n j 16) := fun k hk =>
    (Dev.smCount_regs _ n j 16 1 k hk).trans (by rw [(d.sentWhole_spec (4 * n + j) t).1])
  obtain ⟨hnext, hout, hr⟩ := Dev.sent_next (t := t) hj hregs (asleep_apart n j 16) rfl
  intro e
  rw [show e = _ from heq]
  refine ⟨hnext, hout, ?_⟩
  rw [Dev.fld, hr]
  exact hregs.fld_eq (endFlds_apart n j 16 _ (by simp))

theorem Dev.txEnd_sent {t : TxFrame} (hj : j < 4) (htx : (d.mac (4 * n + j)).tx = some t) (hc : t.ctl = false) (hf : t.f.failed = false) :
    let e := (d.txEnd n j).1
    d.Next e n j ∧ e.out = (if t.cut then [] else [.portTx (4 * n + j) (t.data ++ fcs t.data) true]) ++ d.out ∧
    e.fld (Reg.SM_PORT_EVT.GATE_OVERRUN n j) = if d.gateShut (4 * n + j) t then 1 else d.fld (Reg.SM_PORT_EVT.GATE_OVERRUN n j) := by
  obtain ⟨c, hcast⟩ := (d.sentWhole (4 * n + j) t).castCount_regs n j 11 t.data
  have hcast : d.SameRegs ((d.sentWhole (4 * n + j) t).castCount n j 11 t.data) (cntFlds n j 11 ++ cntFlds n j 12 ++ cntFlds n j c) := fun k hk =>
    (hcast k hk).trans (by rw [(d.sentWhole_spec (4 * n + j) t).1])
  obtain ⟨y, hy⟩ : ∃ y, y = (d.sentWhole (4 * n + j) t).castCount n j 11 t.data := ⟨_, rfl⟩
  have hrest : { y with regs := (d.sentWhole (4 * n + j) t).regs } = d.sentWhole (4 * n + j) t := by rw [hy]; exact Dev.castCount_rest ..
  rw [← hy] at hcast
  have heq : (d.txEnd n j).1 = (y.iff (d.gateShut (4 * n + j) t) fun d => (d.smCnt n j 24).ev (Reg.SM_PORT_EVT.GATE_OVERRUN n j)).nextCtl (4 * n + j) := by
    unfold Dev.txEnd
    dsimp only
    rw [htx, hy]
    dsimp only
    rw [hc, hf]
    rfl
  have hap (f : Fld) (h : ∀ c, f.key ∉ (cntFlds n j c).map Fld.key) : f.key ∉ (cntFlds n j 11 ++ cntFlds n j 12 ++ cntFlds n j c).map Fld.key := by
    simp only [List.map_append, List.mem_append, not_or]
    exact ⟨⟨h 11, h 12⟩, h c⟩
  intro e
  rw [show e = _ from heq]
  cases d.gateShut (4 * n + j) t
  · obtain ⟨hnext, hout, hr⟩ := Dev.sent_next hj hcast (hap _ (asleep_apart n j)) hrest
    refine ⟨hnext, hout, ?_⟩
    rw [Dev.fld, show ((y.iff false _).nextCtl (4 * n + j)).regs = y.regs from hr]
    exact hcast.fld_eq (hap _ fun c => endFlds_apart n j c _ (by simp))
  · have hz : d.SameRegs ((y.smCnt n j 24).ev (Reg.SM_PORT_EVT.GATE_OVERRUN n j))
        (((cntFlds n j 11 ++ cntFlds n j 12 ++ cntFlds n j c) ++ cntFlds n j 24) ++ [Reg.SM_PORT_EVT.GATE_OVERRUN n j]) :=
      (hcast.trans (y.smCount_regs n j 24 1) fun _ hx => hx).trans ((Dev.SameRegs.refl _ [Reg.SM_PORT_EVT.GATE_OVERRUN n j]).put (by simp) 1) fun _ hx => hx
    have hne : (Reg.SL_STAT.TX_ASLEEP n).key ≠ (Reg.SM_PORT_EVT.GATE_OVERRUN n j).key := by
      simp only [Fld.key, Reg.SL_STAT.TX_ASLEEP, Reg.SM_PORT_EVT.GATE_OVERRUN]
      omega
    obtain ⟨hnext, hout, hr⟩ := Dev.sent_next (t := t) hj hz (by
      rw [List.map_append, List.map_append, List.mem_append, List.mem_append, not_or, not_or]
      exact ⟨⟨hap _ (asleep_apart n j), asleep_apart n j 24⟩, by simpa using hne⟩) hrest
    refine ⟨hnext, hout, ?_⟩
    exact (congrArg (fun r => Tbl.get r (Reg.SM_PORT_EVT.GATE_OVERRUN n j).key (Reg.rst (Reg.SM_PORT_EVT.GATE_OVERRUN n j).key)) hr).trans (Dev.fld_put_same ..)

/-! ### Gates and low-power idle (R232, R236, R237) -/

theorem Dev.openSince_fresh (p k a : Nat) (h : d.tim.hist = []) :
    d.openSince p k a = (decide (d.nowPs ≤ a) || d.gateOpenFor p k (d.timeAt a) (d.time - d.timeAt a)) := by
  unfold Dev.openSince
  rw [h]
  simp only [List.reverse_nil, List.nil_append, List.foldl_cons, List.foldl_nil]
  change (if d.nowPs ≤ a then (a, true) else (d.nowPs, true && d.gateOpenFor p k (d.timeAt a) (d.time - d.timeAt a))).2 = _
  split
  · rename_i hle
    rw [decide_eq_true hle]
    rfl
  · rename_i hle
    rw [decide_eq_false hle, Bool.false_or, Bool.true_and]

theorem Dev.lpiEnter_eq (d : Dev) (n j : Nat) : d.lpiEnter n j =
    if d.eeeOn n j = true ∧ d.portUp n j = true ∧ (d.mac (4 * n + j)).tx = none ∧ (d.mac (4 * n + j)).waiting = none ∧
      d.on (Reg.SM_PORT_STAT.LPI_TX n j) = false then (d.put (Reg.SM_PORT_STAT.LPI_TX n j) 1).smCnt n j 25 else d := by
  refine if_congr ?_ rfl rfl
  simp only [Bool.and_eq_true, Option.isNone_iff_eq_none, Bool.not_eq_true', and_assoc]

theorem Dev.lpiRx_eq (d : Dev) (n j : Nat) (on : Bool) : d.lpiRx n j on =
    if d.portUp n j = false ∨ d.eeeOn n j = false then d
    else if on = true ∧ d.on (Reg.SM_PORT_STAT.LPI_RX n j) = false then (d.put (Reg.SM_PORT_STAT.LPI_RX n j) (bit on)).smCnt n j 26
    else d.put (Reg.SM_PORT_STAT.LPI_RX n j) (bit on) := by
  unfold Dev.lpiRx
  cases d.portUp n j
  · rfl
  · cases d.eeeOn n j
    · rfl
    · simp only [Bool.and_self, if_true, Bool.true_eq_false, or_self, if_false, Dev.iff, Bool.and_eq_true, Bool.not_eq_true']

/-! ### O43 -/

section Clauses
variable {s : State} (hup : s.dev.mainUp = true) (dt : Nat) (n : Fin 112) (j : Fin 4)
include hup

theorem pauseTimerExpiry_does (timers : BitVec 9) :
    let left := fun (k : Nat) => if bitOf timers.toNat k = true then 0 else Tbl.get (s.dev.mac (4 * n.val + j)).pause k 0
    Effect (.pauseTimerExpiry n j timers) s (fun d => s.dev.SameRegs d [Reg.SM_PORT_STAT.PAUSED n j] ∧
      (∀ k < 9, Tbl.get (d.mac (4 * n.val + j)).pause k 0 = left k) ∧
      ∀ k < 8, bitOf (d.fld (Reg.SM_PORT_STAT.PAUSED n j)) k = (decide (left 8 ≠ 0) || decide (left k ≠ 0))) := by
  intro left
  obtain ⟨hn, hp⟩ := laneOf_port n j.isLt
  obtain ⟨-, hregs, -, hget, hbit⟩ := s.dev.pauseLoad_spec (4 * n.val + j) (members timers.toNat 9) fun _ => 0
  rw [hn, hp] at hregs hbit
  have hleft (k : Nat) (hk : k < 9) : Tbl.get ((s.dev.pauseLoad (4 * n.val + j) (members timers.toNat 9) fun _ => 0).mac (4 * n.val + j)).pause k 0 = left k := by
    rw [hget]
    refine if_congr ?_ rfl rfl
    rw [mem_members]
    exact and_iff_right hk
  refine .of_main_eq hup ⟨hregs, hleft, fun k hk => ?_⟩ (exec_pauseTimerExpiry ..) rfl
  rw [hbit k hk, hleft 8 (by decide), hleft k (by omega)]

theorem fcRefresh_does : let d0 := s.dev.advance dt
    let p := 4 * n.val + j
    let b := d0.fcFrame n j (d0.fcDue n j)
    let x := d0.mac p
    (d0.fcDue n j = [] → Does (.fcRefreshExpiry dt n j) s d0) ∧
    (d0.fcDue n j ≠ [] → d0.portUp n j = false → Does (.fcRefreshExpiry dt n j) s (d0.setMac p { x with refresh := d0.fcLater n j })) ∧
    (d0.fcDue n j ≠ [] → d0.portUp n j = true →
      (x.tx ≠ none ∨ d0.on (Reg.SL_STAT.TX_ASLEEP n) = true → Effect (.fcRefreshExpiry dt n j) s (fun d =>
        d.mac p = { x with due := x.due ++ [b], refresh := d0.fcLater n j } ∧ d0.Regs d [(Reg.SM_PORT_STAT.LPI_TX n j, 0)])) ∧
      (x.tx = none → x.due = [] → d0.on (Reg.SL_STAT.TX_ASLEEP n) = false → Effect (.fcRefreshExpiry dt n j) s (fun d =>
        (d.mac p).tx = some { data := b, start := max d0.nowPs x.free, ctl := true, gateFrom := max d0.nowPs x.free } ∧
        (d.mac p).due = [] ∧ (d.mac p).refresh = d0.fcLater n j ∧ d0.Regs d [(Reg.SM_PORT_STAT.LPI_TX n j, 0)]))) := by
  intro d0 p b x
  have hex : exec (.fcRefreshExpiry dt n j) s = s.main (fun d => (d.advance dt).fcRefresh (4 * n.val + j.val)) := exec_fcRefreshExpiry ..
  have heq := d0.fcRefresh_eq n j.isLt
  have hmac : (d0.fcMoved n j).mac p = { x with refresh := d0.fcLater n j } := Dev.mac_setMac ..
  refine ⟨fun h => .of_main_eq hex hup (heq.trans (if_pos h)), fun h hu => .of_main_eq hex hup (heq.trans ((if_neg h).trans ?_)), fun h hu => ?_⟩
  · obtain ⟨hn, hp⟩ := laneOf_port n j.isLt
    exact if_neg (by rw [hn, hp]; exact (Bool.not_eq_true _).mpr hu)
  · obtain ⟨hregs, hwaits, hgoes⟩ := Dev.sendCtl_up (d := d0.fcMoved n j) (b := b) j.isLt hu
    have hrun := heq.trans (if_neg h)
    refine ⟨fun hb => .of_main_eq hup ⟨(hwaits ?_).trans ?_, hregs⟩ hex hrun, fun ht hd ha => ?_⟩
    · rw [hmac]
      exact hb
    · rw [hmac]
    · obtain ⟨free, hm⟩ := hgoes (by rw [hmac]; exact ht) (by rw [hmac]; exact hd) ha
      refine .of_main_eq hup ⟨?_, ?_, ?_, hregs⟩ hex hrun
      · rw [hm, Dev.ctlFrame, hmac]
        rfl
      · rw [hm]
      · rw [hm, hmac]

theorem portFrameRequest_does : let d0 := s.dev.advance dt
    let p := 4 * n.val + j
    let x := d0.mac p
    let up := d0.portUp n j
    let got := d0.askGot n j
    let down := d0.take p (fun _ => .send)
    let ask := Instr.portFrameRequest dt n j
    let lda := d0.on (Reg.SM_PORT_CTRL.LINK_DOWN_ACT n j)
    let txEn := d0.on (Reg.SM_PORT_CTRL.TX_EN n j)
    let off := bitOf d0.wake.off (sliceOf p)
    (txEn = false ∨ off = true ∨ (up = true ∧ x.waiting ≠ none) ∨ (up = false ∧ lda = false) → Does ask s d0) ∧
    (txEn = true → off = false → up = true → x.waiting = none → (got.2 = none → Does ask s got.1) ∧
      (∀ f q, got.2 = some (f, q) → Effect ask s (fun d => (d.mac p).waiting = some (f, q, d0.askDue n j) ∧
        (got.1.setMac p { got.1.mac p with waiting := some (f, q, d0.askDue n j) }).Sets d [(Reg.SM_PORT_STAT.LPI_TX n j, 0)]))) ∧
    (txEn = true → off = false → up = false → lda = true → (down.2 = none → Does ask s down.1) ∧
      (∀ f q, down.2 = some (f, q) → Does ask s ((down.1.release f).smCnt n j 22))) := by
  intro d0 p x up got down ask lda txEn off
  have hex : exec ask s = s.main (fun d => (d.advance dt).portRequest n.val j.val) := exec_portFrameRequest ..
  refine ⟨fun h => .of_main_eq hex hup ?_, fun ht ho hu hw => ?_, fun ht ho hu hl => ?_⟩
  · by_cases hm : txEn = false ∨ off = true
    · exact Dev.portRequest_mute hm
    · obtain ⟨ht, ho⟩ := not_or.1 hm
      rw [Bool.not_eq_false] at ht
      rw [Bool.not_eq_true] at ho
      obtain h | h | ⟨hu, hw⟩ | ⟨hu, hl⟩ := h
      · exact absurd (.inl h) hm
      · exact absurd (.inr h) hm
      · exact Dev.portRequest_full ht ho hu hw
      · exact (Dev.portRequest_asks ht ho fun hc => absurd (hu.symm.trans hc.1) (by decide)).trans
          ((if_neg ((Bool.not_eq_true _).mpr hu)).trans (if_neg ((Bool.not_eq_true _).mpr hl)))
  · have heq : d0.portRequest n j = d0.askKept n j got := (Dev.portRequest_asks ht ho fun hc => hc.2 hw).trans (if_pos hu)
    refine ⟨fun hg => .of_main_eq hex hup (heq.trans ?_), fun f q hg => ?_⟩
    · rw [show got = (got.1, none) from by rw [← hg]]
      rfl
    · have hk : d0.askKept n j got = (got.1.setMac p { got.1.mac p with waiting := some (f, q, d0.askDue n j) }).clr (Reg.SM_PORT_STAT.LPI_TX n j) := by
        rw [show got = (got.1, some (f, q)) from by rw [← hg]]
        rfl
      refine .of_main_eq hup ⟨?_, Dev.Sets.put_one _ _ 0⟩ hex (heq.trans hk)
      exact (congrArg Mac.waiting (Dev.mac_setMac (d := got.1) p _) :)
  · have heq : d0.portRequest n j = askDropped n j down := (Dev.portRequest_asks ht ho fun hc => absurd (hu.symm.trans hc.1) (by decide)).trans
      ((if_neg ((Bool.not_eq_true _).mpr hu)).trans (if_pos hl))
    refine ⟨fun hg => .of_main_eq hex hup (heq.trans ?_), fun f q hg => .of_main_eq hex hup (heq.trans ?_)⟩
    · rw [show down = (down.1, none) from by rw [← hg]]
      rfl
    · rw [show down = (down.1, some (f, q)) from by rw [← hg]]
      rfl

theorem frameTxStart_does (st : Strobe) : let d0 := s.dev.advance dt
    let p := 4 * n.val + j
    let x := d0.mac p
    let start := Instr.frameTxStart dt n j st
    let empty := d0.unwait p
    let asleep := d0.on (Reg.SL_STAT.TX_ASLEEP n) = true
    (x.waiting = none → Does start s d0) ∧
    ∀ f q a, x.waiting = some (f, q, a) →
      let e := d0.editedF f
      let late := a < d0.goAt p a ∧ d0.mayStart p (d0.goAt p a) f = false
      (f.failed = true → Does start s (empty.release f)) ∧
      (f.failed = false → x.tx ≠ none ∨ e.held < d0.ctWant n j f ∨ asleep → Does start s d0) ∧
      (f.failed = false → x.tx = none → d0.ctWant n j f ≤ e.held → ¬ asleep →
        (∀ b r, x.due = b :: r → Effect start s (fun d => (d.mac p).waiting = some (f, q, a) ∧ (d.mac p).due = r ∧
          (d.mac p).tx = some { data := b, start := max d0.nowPs x.free, ctl := true, gateFrom := max d0.nowPs x.free } ∧
          d.regs = d0.regs)) ∧
        (x.due = [] → late → Does start s ((empty.requeue q f).smCnt n j 23)) ∧
        (x.due = [] → ¬ late → (empty.editOut f).2 = none → Does start s ((empty.editOut f).1.release f)) ∧
        ∀ b, x.due = [] → ¬ late → (empty.editOut f).2 = some b → Effect start s (fun d =>
          (d.mac p).waiting = none ∧ ∃ t, (d.mac p).tx = some t ∧ t.start = d0.goAt p a ∧ t.ctl = false ∧
          (bitOf f.tsReq 1 = false → t.data = padTo 60 b) ∧ (f.total ≠ 0 → t.f.total = f.total + b.length - f.data.length))) := by
  intro d0 p x start empty asleep
  have hex : exec start s = s.main (fun d => (d.advance dt).frameStart n.val j.val st) := exec_frameTxStart ..
  refine ⟨fun hw => .of_main_eq hex hup (Dev.frameStart_idle hw), fun f q a hw => ⟨fun hf => ?_, fun hf hb => ?_, fun hf ht hh ha => ⟨fun b r hd => ?_,
    fun hd hl => ?_, fun hd hl he => ?_, fun b hd hl he => ?_⟩⟩⟩
  · exact .of_main_eq hex hup (Dev.frameStart_failed hw hf)
  · exact .of_main_eq hex hup (Dev.frameStart_held hw hf hb)
  · exact .of_main_eq hup (Dev.frameStart_ctl hw hf ht hh ha j.isLt hd) hex rfl
  · exact .of_main_eq hex hup (Dev.frameStart_late hw hf ht hh ha hd hl)
  · exact .of_main_eq hex hup (Dev.frameStart_gone hw hf ht hh ha hd hl he)
  · exact .of_main_eq hup (Dev.frameStart_sends hw hf ht hh ha hd hl he) hex rfl

theorem frameEnds_do : let d0 := s.dev.advance dt
    let p := 4 * n.val + j
    let over_ := Reg.SM_PORT_EVT.UNDERRUN n j
    let cut := fun (d : Dev) (t : TxFrame) (k : Nat) => d.out = (if t.cut then [] else [.portTx p (stompBytes t.data k) false]) ++ d0.out
    ((d0.mac p).tx = none → Does (.txUnderrun dt n j) s d0 ∧ Does (.frameTxEnd dt n j) s d0) ∧
    ∀ t, (d0.mac p).tx = some t →
      let shut := t.shut = true ∨ d0.openSince p t.f.cls t.gateFrom = false
      (t.f.failed = true → Effect (.txUnderrun dt n j) s (fun d => d0.Next d n j ∧ cut d t t.data.length ∧ d.fld over_ = d0.fld over_ ∧
        d.fld (Reg.SM_CT.CT_UNITS n j) = d0.fld (Reg.SM_CT.CT_UNITS n j))) ∧
      (t.f.failed = false → Effect (.txUnderrun dt n j) s (fun d => d0.Next d n j ∧ cut d t t.data.length ∧ d.fld over_ = 1 ∧
        d.fld (Reg.SM_CT.CT_UNITS n j) = min 63 (d0.fld (Reg.SM_CT.CT_UNITS n j) + 1))) ∧
      (t.f.failed = true → t.ctl = false → Effect (.frameTxEnd dt n j) s (fun d => d0.Next d n j ∧ cut d t (d0.sentSoFar p t))) ∧
      (t.f.failed = false ∨ t.ctl = true → Effect (.frameTxEnd dt n j) s (fun d => d0.Next d n j ∧
        d.out = (if t.cut then [] else [.portTx p (t.data ++ fcs t.data) true]) ++ d0.out ∧
        d.fld (Reg.SM_PORT_EVT.GATE_OVERRUN n j) =
          if t.ctl = false ∧ shut then 1 else d0.fld (Reg.SM_PORT_EVT.GATE_OVERRUN n j))) := by
  intro d0 p over_ cut
  have hend : exec (.frameTxEnd dt n j) s = s.main (fun d => ((d.advance dt).txEnd n.val j.val).1) := exec_frameTxEnd ..
  refine ⟨fun h => ⟨.of_main_eq (exec_txUnderrun ..) hup ?_, .of_main_eq hend hup ?_⟩, fun t ht => ⟨fun hf => ?_, fun hf => ?_, fun hf hc => ?_, fun h => ?_⟩⟩
  · change d0.txUnderrun n j = d0
    rw [Dev.txUnderrun]
    rw [show (d0.mac (4 * n.val + j.val)).tx = none from h]
  · change (d0.txEnd n j).1 = d0
    rw [Dev.txEnd]
    dsimp only
    rw [show (d0.mac (4 * n.val + j.val)).tx = none from h]
  · exact .of_main_eq hup (Dev.txUnderrun_failed j.isLt ht hf) (exec_txUnderrun ..) rfl
  · exact .of_main_eq hup (Dev.txUnderrun_counts j.isLt ht hf) (exec_txUnderrun ..) rfl
  · exact .of_main_eq hup (Dev.txEnd_failed j.isLt ht hf hc) hend rfl
  · cases hc : t.ctl with
    | true =>
      obtain ⟨hnext, hout, hgate⟩ := Dev.txEnd_ctl j.isLt ht hc
      exact .of_main_eq hup ⟨hnext, hout, hgate.trans (if_neg fun h => absurd h.1 (by decide)).symm⟩ hend rfl
    | false =>
      obtain ⟨hnext, hout, hgate⟩ := Dev.txEnd_sent j.isLt ht hc (h.resolve_right (by rw [hc]; decide))
      refine .of_main_eq hup ⟨hnext, hout, hgate.trans (if_congr ?_ rfl rfl)⟩ hend rfl
      rw [Dev.gateShut, Bool.or_eq_true, Bool.not_eq_true']
      exact (and_iff_right rfl).symm

theorem gatesAndLpi_do (on : Bool) : let d0 := s.dev.advance dt
    let lpi := Reg.SM_PORT_STAT.LPI_RX n j
    (d0.slHere n = true → Effect (.gateStateChange dt n j) s (fun d =>
      d0.Sets d [(Reg.SM_PORT_STAT.GATES n j, d0.gatesAt (4 * n.val + j) d0.time % 256)])) ∧
    (d0.slHere n = false → Does (.gateStateChange dt n j) s d0) ∧
    Does (.lpiEntry n j) s (let e := s.dev
      if e.eeeOn n j = true ∧ e.portUp n j = true ∧ (e.mac (4 * n.val + j)).tx = none ∧ (e.mac (4 * n.val + j)).waiting = none ∧
          e.on (Reg.SM_PORT_STAT.LPI_TX n j) = false then (e.put (Reg.SM_PORT_STAT.LPI_TX n j) 1).smCnt n j 25 else e) ∧
    Does (.lpiRxChange n j on) s (let e := s.dev
      if e.portUp n j = false ∨ e.eeeOn n j = false then e
      else if on = true ∧ e.on lpi = false then (e.put lpi (bit on)).smCnt n j 26 else e.put lpi (bit on)) := by
  intro d0 lpi
  have hchip : d0.slHere n = s.dev.slHere n := by
    rw [Dev.slHere, Dev.slHere, Dev.slMask, Dev.slMask, s.dev.advance_chip]
  refine ⟨fun h => .of_main_eq hup (Dev.Sets.put_one _ _ _) (exec_gateStateChange ..) (if_pos (hchip.symm.trans h)),
    fun h => .of_main_eq (exec_gateStateChange ..) hup (if_neg ((Bool.not_eq_true _).mpr (hchip.symm.trans h))),
    .of_main_eq (exec_lpiEntry ..) hup (s.dev.lpiEnter_eq n j), .of_main_eq (exec_lpiRxChange ..) hup (s.dev.lpiRx_eq n j on)⟩

end Clauses

/-- Settles O43: pause and refresh by the timers that they write; the request, start and end of a frame by the branches of each; gates and idle as they are. -/
theorem flowControlAndTransmission : Obligations.FlowControlAndTransmission := by
  unfold Obligations.FlowControlAndTransmission
  refine ⟨⟨fun s dt n j timers hup => ?_, fun d n j b => d.rxControl_spec n j b⟩, ⟨fun s dt n j hup => ?_, fun s dt n j st hup => frameTxStart_does hup dt n j st,
    fun s dt n j hup => frameEnds_do hup dt n j, fun d p k a h => Dev.openSince_fresh p k a h, fun s dt n j on hup => gatesAndLpi_do hup dt n j on⟩⟩
  · exact ⟨pauseTimerExpiry_does hup n j timers, fcRefresh_does hup dt n j⟩
  · exact portFrameRequest_does hup dt n j

end Sys2Proof.Machine
end

section
/-!
PROOFS. O52: whether a wagon's bits leave a data lane goes by that lane's own sleep bit, while the statement has them leave both lanes wherever
the port as a whole does not sleep.
-/
namespace Sys2Proof.Machine

/-- Riser port 0 up and enabled, not aligned and awake as a port, but for the transmitter of its data lane 0. -/
def laneZeroAsleep : Dev := { regs := [(Reg.CHIPCAP_BLOCK_RST.RP.key, 0), ((Reg.RP_PHY_STAT.STATE 0).key, phUp), ((Reg.RP_LINK_CTRL.EN 0).key, 1),
  ((Reg.RP_LINK_CTRL.DOWN_ACT 0).key, 0), ((Reg.RP_LANE_STAT.TX_ASLEEP 0 0).key, 1)] }

theorem laneZeroAsleep_spec : laneZeroAsleep.linkRuns 0 = true ∧ laneZeroAsleep.fld (Reg.RP_PHY_STAT.TX_ASLEEP 0) = 0 ∧
    laneZeroAsleep.rsrDue 0 (laneZeroAsleep.wagonTx 0 {}).time = false ∧ (laneZeroAsleep.rlink 0).tx = none ∧
    laneZeroAsleep.fld (Reg.CPH_RSR_CTRL.TX_CIPHER 0) = 0 ∧ laneZeroAsleep.fld (Reg.RP_LINK_STAT.ALIGNED 0) = 0 ∧
    laneZeroAsleep.fld (Reg.RP_LINK_CTRL.DOWN_ACT 0) = 0 := by decide

/-- The idle wagon leaves with the bits of data lane 1 alone. -/
theorem laneZeroAsleep_sends : (laneZeroAsleep.wagonSend 0 {}).out.length = 2 := by decide

/-- Refutes O52: the transmitter of data lane 0 sleeps, though the port does not: the idle wagon goes out with the bits of one data lane,
where the statement has those of both. -/
theorem not_riserWagons : ¬ Obligations.RiserWagons := by
  unfold Obligations.RiserWagons
  intro h
  obtain ⟨hruns, hawake, hdue, htx, hplain, hal, hkeep⟩ := laneZeroAsleep_spec
  obtain ⟨-, -, -, -, -, hidle, -⟩ := h.2.2.2 laneZeroAsleep 0 [] {} {} 0
  obtain ⟨-, -, -, w, -, -, -, -, -, -, -, -, hout, -⟩ :=
    hidle ⟨hruns, hawake⟩ ⟨hdue, fun t ht => by simp [htx] at ht⟩ hplain hal hkeep
  have hlen := laneZeroAsleep_sends.symm.trans (congrArg List.length hout)
  simp only [List.length_append, List.length_cons] at hlen
  omega

end Sys2Proof.Machine
end

section
/-!
PROOFS. O17: what a unit in reset keeps and loses, for the host interface, the cipher engine, a riser port and a line channel, and what its
release restores.
-/
namespace Sys2Proof.Machine

/-! ### Registers cleared by their address -/

/-- Fields written, then the registers of a span cleared but for those that `keep` names. -/
theorem Dev.clearRegs_reg (d : Dev) (lo hi : Nat) (keep : Nat → Bool) (k : Nat) : Tbl.get (d.clearRegs lo hi keep).regs k (Reg.rst k) =
    if (!(decide (lo ≤ k / 32) && decide (k / 32 ≤ hi)) || keep k) = true then Tbl.get d.regs k (Reg.rst k) else Reg.rst k := by
  unfold Dev.clearRegs
  dsimp only
  rw [Tbl.get_keep]

theorem not_inSpan (lo hi a : Nat) : (!(decide (lo ≤ a) && decide (a ≤ hi))) = (decide (a < lo) || decide (hi < a)) := by
  rw [Bool.not_and, ← decide_not, ← decide_not]
  simp only [Nat.not_le]

/-! ### The host interface -/

/-- The fields that a ring given up returns to 0. -/
def ringFlds (r : Nat) : List (Fld × Nat) := [(Reg.HIF_RING_CTRL.EN r, 0), (Reg.HIF_RING_STAT.RUNNING r, 0)]

/-- Releasing frames touches queue memory alone. -/
theorem Dev.each_release_tm (l : List Frame) (d : Dev) : ∃ t, d.each l (fun d f => d.release f) = { d with tm := t } := by
  induction l generalizing d with
  | nil => exact ⟨d.tm, rfl⟩
  | cons f l ih =>
    obtain ⟨t, ht⟩ := d.release_tm f
    obtain ⟨t', ht'⟩ := ih { d with tm := t }
    exact ⟨t', by rw [Dev.each, List.foldl_cons, ht]; exact ht'⟩

theorem Dev.ringKill_eq (d : Dev) (r : Nat) : ∃ t, d.ringKill r = { d.puts (ringFlds r) with
    tm := t, host := { d.host with rings := Tbl.del d.host.rings r, stamps := d.host.stamps.filter (fun e => e.2.ring != r) } } := by
  obtain ⟨t, ht⟩ := d.each_release_tm (d.ring r).frames
  refine ⟨t, ?_⟩
  rw [Dev.ringKill]
  dsimp only
  rw [ht]
  rfl

/-- Which registers fields written one after the other leave goes by the registers alone. -/
theorem Dev.puts_regs_congr {d e : Dev} (h : d.regs = e.regs) (l : List (Fld × Nat)) : (d.puts l).regs = (e.puts l).regs := by
  induction l generalizing d e with
  | nil => exact h
  | cons x l ih =>
    refine ih ?_
    rw [Dev.regs_put, Dev.regs_put, h]

theorem Dev.ringKill_rest (d : Dev) (r : Nat) : { d.ringKill r with regs := d.regs, host := d.host, tm := d.tm } = d ∧
    { (d.ringKill r).host with rings := [], stamps := [] } = { d.host with rings := [], stamps := [] } := by
  obtain ⟨t, ht⟩ := d.ringKill_eq r
  rw [ht]
  exact ⟨congrArg (fun z : Dev => { z with host := d.host, tm := d.tm }) (Dev.puts_rest (ringFlds r) d), rfl⟩

theorem Dev.each_ringKill (l : List Nat) (d : Dev) : let e := d.each l (fun d r => d.ringKill r)
    e.regs = (d.puts (l.flatMap ringFlds)).regs ∧ { e with regs := d.regs, host := d.host, tm := d.tm } = d ∧
      { e.host with rings := [], stamps := [] } = { d.host with rings := [], stamps := [] } := by
  induction l generalizing d with
  | nil => exact ⟨rfl, rfl, rfl⟩
  | cons r l ih =>
    obtain ⟨hrest0, hhost0⟩ := d.ringKill_rest r
    obtain ⟨t, ht⟩ := d.ringKill_eq r
    obtain ⟨hregs, hrest, hhost⟩ := ih (d.ringKill r)
    refine ⟨hregs.trans ?_, (congrArg (fun z : Dev => { z with regs := d.regs, host := d.host, tm := d.tm }) hrest :).trans hrest0,
      hhost.trans hhost0⟩
    rw [List.flatMap_cons, Dev.puts_append]
    exact Dev.puts_regs_congr (by rw [ht]) _

theorem Dev.puts_reg_ne {l : List (Fld × Nat)} (d : Dev) {k : Nat} (hk : k ∉ l.map (·.1.key)) :
    Tbl.get (d.puts l).regs k (Reg.rst k) = Tbl.get d.regs k (Reg.rst k) := by
  induction l generalizing d with
  | nil => rfl
  | cons x l ih =>
    obtain ⟨hx, hl⟩ := not_or.1 (mt List.mem_cons.2 hk)
    rw [Dev.puts_cons, ih _ hl, Dev.reg_put, if_neg hx]

/-- Fields that are all written 0 read 0. -/
theorem Dev.puts_zeros {l : List (Fld × Nat)} (hl : ∀ x ∈ l, x.2 = 0) (d : Dev) {k : Nat} (hk : k ∈ l.map (·.1.key)) :
    Tbl.get (d.puts l).regs k (Reg.rst k) = 0 := by
  induction l generalizing d with
  | nil => simp at hk
  | cons x l ih =>
    by_cases hmem : k ∈ l.map (·.1.key)
    · exact ih (fun y hy => hl y (List.mem_cons_of_mem _ hy)) _ hmem
    · have hkx : k = x.1.key := (List.mem_cons.1 hk).resolve_right hmem
      rw [Dev.puts_cons, Dev.puts_reg_ne _ hmem, Dev.reg_put, if_pos hkx, hl x (by simp), Nat.zero_mod]

/-- A fact about each of 256 rings, by domain and ring of the domain. -/
theorem forall_ring {P : Nat → Prop} (h : ∀ a < 16, ∀ b < 16, P (16 * a + b)) : ∀ r < 256, P r := fun r hr => by
  simpa only [Nat.div_add_mod] using h (r / 16) (by omega) (r % 16) (by omega)

theorem ringEn_kept : ∀ r < 256, accOf (Reg.HIF_RING_CTRL.EN r).key = .rw := forall_ring (by decide)

theorem ringRunning_cleared : ∀ r < 256, accOf (Reg.HIF_RING_STAT.RUNNING r).key ≠ .rw := forall_ring (by decide)

theorem ringFlds_zero (l : List Nat) : ∀ x ∈ l.flatMap ringFlds, x.2 = 0 := by
  intro x hx
  obtain ⟨r, -, hr⟩ := List.mem_flatMap.1 hx
  simp only [ringFlds, List.mem_cons, List.not_mem_nil, or_false] at hr
  rcases hr with rfl | rfl <;> rfl

theorem ringFlds_keys {k : Nat} (l : List Nat) : k ∈ (l.flatMap ringFlds).map (·.1.key) ↔
    ∃ r ∈ l, k = (Reg.HIF_RING_CTRL.EN r).key ∨ k = (Reg.HIF_RING_STAT.RUNNING r).key := by
  simp only [List.map_flatMap, List.mem_flatMap, ringFlds, List.map_cons, List.map_nil, List.mem_cons, List.not_mem_nil, or_false]

/-- What the reset of the host interface keeps of its registers. -/
def hifKeeps (k : Nat) : Bool :=
  decide (k / 32 < 0x1D00000) || decide (0x1DFFFFF < k / 32) || accOf k == .rw || k / 32 == Reg.HIF_PCIE_STAT.ADR

theorem hifKeeps_eq (k : Nat) :
    (!(decide (0x1D00000 ≤ k / 32) && decide (k / 32 ≤ 0x1DFFFFF)) || (isConfig k || k / 32 == Reg.HIF_PCIE_STAT.ADR)) = hifKeeps k := by
  rw [not_inSpan, ← Bool.or_assoc]
  rfl

theorem hifKeeps_en {r : Nat} (hr : r < 256) : hifKeeps (Reg.HIF_RING_CTRL.EN r).key = true := by
  simp [hifKeeps, ringEn_kept r hr]

theorem hifKeeps_running {r : Nat} (hr : r < 256) : hifKeeps (Reg.HIF_RING_STAT.RUNNING r).key = false := by
  have hadr : (Reg.HIF_RING_STAT.RUNNING r).key / 32 = 0x1d01018 + r * 0x20 := by
    simp only [Fld.key, Reg.HIF_RING_STAT.RUNNING]
    omega
  have hacc : (accOf (Reg.HIF_RING_STAT.RUNNING r).key == .rw) = false := beq_eq_false_iff_ne.2 (ringRunning_cleared r hr)
  rw [hifKeeps, hadr, hacc, Bool.or_false, Bool.or_eq_false_iff, Bool.or_eq_false_iff, decide_eq_false_iff_not, decide_eq_false_iff_not,
    beq_eq_false_iff_ne, Reg.HIF_PCIE_STAT.ADR]
  omega

theorem Dev.hifHold_regs (d : Dev) : d.Resets d.hifHold hifKeeps ((List.range 256).map (fun r => (Reg.HIF_RING_CTRL.EN r, 0))) := by
  obtain ⟨hregs, -, -⟩ := d.each_ringKill (List.range 256)
  have hreg (k : Nat) : Tbl.get d.hifHold.regs k (Reg.rst k) =
      if hifKeeps k = true then Tbl.get (d.puts ((List.range 256).flatMap ringFlds)).regs k (Reg.rst k) else Reg.rst k := by
    have h := (d.each (List.range 256) (fun d r => d.ringKill r)).clearRegs_reg 0x1D00000 0x1DFFFFF
      (fun k => isConfig k || k / 32 == Reg.HIF_PCIE_STAT.ADR) k
    rw [hregs, hifKeeps_eq] at h
    rw [Dev.hifHold]
    generalize d.each (List.range 256) (fun d r => d.ringKill r) = e at *
    exact h
  refine ⟨fun x hx => ?_, fun k hk => (hreg k).trans ?_⟩
  · obtain ⟨r, hr, rfl⟩ := List.mem_map.1 hx
    rw [Dev.fld, hreg, if_pos (hifKeeps_en (List.mem_range.1 hr))]
    exact d.puts_zeros (ringFlds_zero _) ((ringFlds_keys _).2 ⟨r, hr, .inl rfl⟩)
  · split
    next hkeep =>
      refine Dev.puts_reg_ne d fun hin => ?_
      obtain ⟨r, hr, hrk⟩ := (ringFlds_keys _).1 hin
      rcases hrk with rfl | rfl
      · exact hk (List.mem_map.2 ⟨_, List.mem_map.2 ⟨r, hr, rfl⟩, rfl⟩)
      · rw [hifKeeps_running (List.mem_range.1 hr)] at hkeep
        exact Bool.false_ne_true hkeep
    next => rfl

theorem Dev.hifHold_spec (d : Dev) : d.hifHold.host = { d.host with rings := [], doms := [], rr := [], stamps := [] } ∧
    { d.hifHold with regs := d.regs, latch := d.latch, host := d.host, tm := d.tm } = d := by
  obtain ⟨-, hrest, hhost⟩ := d.each_ringKill (List.range 256)
  rw [Dev.hifHold]
  generalize d.each (List.range 256) (fun d r => d.ringKill r) = e at *
  exact ⟨congrArg (fun h : HostSt => { h with doms := [], rr := [] }) hhost, congrArg (fun z : Dev => { z with latch := d.latch }) hrest⟩

/-! ### The cipher engine -/

theorem Dev.Resets.of_regs {e d d' : Dev} {keep : Nat → Bool} {l : List (Fld × Nat)} (h : e.Resets d keep l) (hd : d'.regs = d.regs) :
    e.Resets d' keep l := by
  obtain ⟨hl, hk⟩ := h
  refine ⟨fun x hx => ?_, fun k hk' => ?_⟩
  · rw [Dev.fld, hd]
    exact hl x hx
  · rw [hd]
    exact hk k hk'

/-- What the reset of the cipher engine keeps of the registers. -/
def cphKeeps (k : Nat) : Bool := decide (k / 32 < 0x200000) || decide (0x2FFFFF < k / 32) || accOf k == .rw

theorem Dev.unitClear_reg (d : Dev) (lo hi k : Nat) : Tbl.get (d.unitClear lo hi).regs k (Reg.rst k) =
    if (decide (k / 32 < lo) || decide (hi < k / 32) || accOf k == .rw) = true then Tbl.get d.regs k (Reg.rst k) else Reg.rst k := by
  rw [Dev.unitClear, Dev.clearRegs_reg, not_inSpan]
  rfl

/-- The switches that the reset of the engine disarms. -/
def armFlds : List (Fld × Nat) := (List.range 4).flatMap fun i => [(Reg.CPH_LINE_US_CTRL.SW_ARM i, 0), (Reg.CPH_RSR_CTRL.SW_ARM i, 0)]

theorem Dev.cphHold_eq (d : Dev) : d.cphHold = { (d.unitClear 0x200000 0x2FFFFF).puts armFlds with cph := {} } := by
  rw [armFlds, ← Dev.each_puts]
  rfl

theorem Dev.cphHold_spec (d : Dev) : d.cphHold.cph = {} ∧ { d.cphHold with regs := d.regs, latch := d.latch, cph := d.cph } = d ∧
    d.Resets d.cphHold cphKeeps armFlds := by
  rw [Dev.cphHold_eq]
  refine ⟨rfl, ?_, ?_⟩
  · exact congrArg (fun z : Dev => { z with regs := d.regs, latch := d.latch, cph := d.cph }) (Dev.puts_rest armFlds (d.unitClear 0x200000 0x2FFFFF))
  · have harm := (Dev.puts_sets (l := armFlds) (by decide) (by decide) (d.unitClear 0x200000 0x2FFFFF)).1
    exact (harm.resets (e := d) (keep := cphKeeps) fun k => d.unitClear_reg _ _ k).of_regs rfl

/-- The integrity keys' slots of these channels. -/
def micSlots (l : List Nat) : List Nat := l.flatMap fun n => [8 * n + 2, 8 * n + 3]

theorem micSlots_nodup {l : List Nat} (hl : l.Nodup) : (micSlots l).Nodup := by
  refine List.nodup_flatMap.2 ⟨fun n _ => by simp, hl.imp fun {m n} h => ?_⟩
  simp only [Function.onFun, List.disjoint_cons_left, List.mem_cons, List.not_mem_nil, or_false, List.disjoint_nil_left, and_true]
  omega

theorem slotFlds_fit (s : Nat) {state source : Nat} (hst : state < 4) (hsrc : source < 8) : ∀ x ∈ slotFlds s state source, x.2 < 2 ^ x.1.w := by
  simp only [slotFlds, List.forall_mem_cons, List.not_mem_nil, false_imp_iff, implies_true, and_true]
  exact ⟨hst, hsrc, show 0 < 2 ^ 1 by decide, show 0 < 2 ^ 32 by decide, show 0 < 2 ^ (Reg.CPH_SLOT_CTR_HI.CTR s).w from Nat.two_pow_pos _⟩

theorem slotsFlds_nodup {l : List Nat} (hl : l.Nodup) (state source : Nat) :
    ((l.flatMap fun s => slotFlds s state source).map (·.1.key)).Nodup := by
  rw [List.map_flatMap]
  refine List.nodup_flatMap.2 ⟨fun s _ => slotFlds_nodup s state source, hl.imp fun {s t} h => fun k hs ht => ?_⟩
  obtain ⟨x, hx, rfl⟩ := List.mem_map.1 hs
  obtain ⟨y, hy, hxy⟩ := List.mem_map.1 ht
  have h1 := slotFlds_range s state source x hx
  have h2 := slotFlds_range t state source y hy
  rw [hxy] at h2
  omega

/-- Slots loaded one after another with keys of one state and source. -/
theorem Dev.each_loadSlot (key : Nat → Nat) (state source : Nat) {l : List Nat} (hl : l.Nodup) (d : Dev) :
    let e := d.each l (fun d s => d.loadSlot s (key s) state source)
    e.regs = (d.puts (l.flatMap fun s => slotFlds s state source)).regs ∧ (∀ s, e.key s = if s ∈ l then key s else d.key s) ∧
      { e with regs := d.regs, cph := d.cph } = d := by
  induction l generalizing d with
  | nil => exact ⟨rfl, fun s => rfl, rfl⟩
  | cons s l ih =>
    obtain ⟨hs, hl⟩ := List.nodup_cons.1 hl
    obtain ⟨hregs, hkeys, hrest⟩ := ih hl (d.loadSlot s (key s) state source)
    refine ⟨hregs.trans ?_, fun t => (hkeys t).trans ?_, (congrArg (fun z : Dev => { z with regs := d.regs, cph := d.cph }) hrest :).trans ?_⟩
    · rw [List.flatMap_cons, Dev.puts_append]
      exact Dev.puts_regs_congr (by rw [Dev.loadSlot_eq]; exact Dev.puts_regs_congr rfl _) _
    · by_cases ht : t = s
      · subst ht
        rw [if_neg hs, if_pos (by simp)]
        exact Tbl.get_set_same ..
      · have hold : (d.loadSlot s (key s) state source).key t = d.key t := Tbl.get_set_ne _ _ _ ht
        simp only [hold, List.mem_cons, ht, false_or]
    · rw [Dev.loadSlot_eq]
      exact congrArg (fun z : Dev => { z with cph := d.cph })
        (Dev.puts_rest (slotFlds s state source) (d.storeKeys (Tbl.set d.cph.keys s (key s))))

/-- The default key of a slot, by its place among the eight of its channel. -/
def Dev.loadDefault (d : Dev) (s : Nat) : Dev := d.loadSlot s (Config.lineDefault (s % 8)) slotDefault 6

theorem Dev.defaultKeys_eq (d : Dev) (n : Nat) : d.defaultKeys n = (d.loadDefault (8 * n + 2)).loadDefault (8 * n + 3) := by
  rw [Dev.loadDefault, Dev.loadDefault, Nat.mul_add_mod, Nat.mul_add_mod, Dev.defaultKeys]

theorem Dev.each_defaultKeys (l : List Nat) (d : Dev) : d.each l (fun d n => d.defaultKeys n) = d.each (micSlots l) (fun d s => d.loadDefault s) := by
  induction l generalizing d with
  | nil => rw [micSlots, List.flatMap_nil, Dev.each, Dev.each, List.foldl_nil, List.foldl_nil]
  | cons n l ih =>
    have hn := ih (d.defaultKeys n)
    rw [Dev.defaultKeys_eq] at hn
    rw [Dev.each, List.foldl_cons, Dev.defaultKeys_eq, micSlots, List.flatMap_cons, Dev.each_append, ← micSlots]
    exact hn

/-- The integrity keys restored. -/
theorem Dev.each_defaultKeys_spec {l : List Nat} (hl : l.Nodup) (d : Dev) : let e := d.each l (fun d n => d.defaultKeys n)
    d.Regs e ((micSlots l).flatMap fun s => slotFlds s slotDefault 6) ∧
      (∀ n ∈ l, e.key (8 * n + 2) = Config.lineDefault 2 ∧ e.key (8 * n + 3) = Config.lineDefault 3) ∧
      { e with regs := d.regs, cph := d.cph } = d := by
  obtain ⟨hregs, hkeys, hrest⟩ := d.each_loadSlot (fun s => Config.lineDefault (s % 8)) slotDefault 6 (micSlots_nodup hl)
  rw [show d.each l (fun d n => d.defaultKeys n) = _ from d.each_defaultKeys l]
  have hmem {n : Nat} (hn : n ∈ l) {s : Nat} (hs : s ∈ [8 * n + 2, 8 * n + 3]) : s ∈ micSlots l := List.mem_flatMap.2 ⟨n, hn, hs⟩
  refine ⟨(Dev.puts_sets (slotsFlds_nodup (micSlots_nodup hl) slotDefault 6) (fun x hx => ?_) d).1.of_regs rfl hregs, fun n hn => ⟨?_, ?_⟩, hrest⟩
  · obtain ⟨s, -, hs⟩ := List.mem_flatMap.1 hx
    exact slotFlds_fit s (by decide) (by decide) x hs
  · exact (hkeys _).trans (by rw [if_pos (hmem hn (by simp)), Nat.mul_add_mod])
  · exact (hkeys _).trans (by rw [if_pos (hmem hn (by simp)), Nat.mul_add_mod])

theorem Dev.cphRelease_spec (d : Dev) : let l := (List.range 4).filter (fun n => d.lnUp n && d.tenderHere && d.cphLineHere)
    d.Regs d.cphRelease ((micSlots l).flatMap fun s => slotFlds s slotDefault 6) ∧
      (∀ n ∈ l, d.cphRelease.key (8 * n + 2) = Config.lineDefault 2 ∧ d.cphRelease.key (8 * n + 3) = Config.lineDefault 3) ∧
      { d.cphRelease with regs := d.regs, cph := d.cph } = d :=
  d.each_defaultKeys_spec (List.nodup_range.filter _)

/-! ### A riser port -/

/-- What the reset of a riser port keeps of the registers. -/
def rpKeeps (p k : Nat) : Bool :=
  !((decide (0x1C00000 + 0x40000 * p ≤ k / 32) && decide (k / 32 ≤ 0x1C00000 + 0x40000 * p + 0x1FFFF)) ||
    (decide (0x1C00000 + 0x40000 * p + 0x30000 ≤ k / 32) && decide (k / 32 ≤ 0x1C00000 + 0x40000 * p + 0x3FFFF))) || accOf k == .rw

/-- What the stop of a link writes: the frames in reception on it are lost, and its alignment is. -/
def Dev.stopFlds (d : Dev) (p : Nat) : List (Fld × Nat) :=
  [(Reg.CPH_RSR_CNT.COUNT p 7, min (2 ^ 32 - 1) (d.fld (Reg.CPH_RSR_CNT.COUNT p 7) + (d.rlink p).rx.length)), (Reg.RP_LINK_STAT.ALIGNED p, 0)]

/-- The wake requests that stay when the two sources of a riser port withdraw theirs. -/
def Dev.otherWakes (d : Dev) (p : Nat) : List (Nat × Nat) := d.wake.queue.filter (fun x => x.1 ≠ 224 + p && x.1 ≠ 228 + p)

/-- The riser port stopped, before its registers are cleared. -/
def Dev.rpStopped (d : Dev) (p : Nat) : Dev := ((d.linkStop p).setRlink p {}).setPhy p {}

/-- The riser port stopped and cleared, its wake requests still there. -/
def Dev.rpCleared (d : Dev) (p : Nat) : Dev :=
  ((d.rpStopped p).unitClear (0x1C00000 + 0x40000 * p) (0x1C00000 + 0x40000 * p + 0x1FFFF)).unitClear
    (0x1C00000 + 0x40000 * p + 0x30000) (0x1C00000 + 0x40000 * p + 0x3FFFF)

/-- The riser port in reset, the reference of the PLL not yet judged again. -/
def Dev.rpDown (d : Dev) (p : Nat) : Dev := ((d.rpCleared p).wakeDrop (224 + p)).wakeDrop (228 + p)

theorem Dev.rpHold_eq (d : Dev) (p : Nat) : d.rpHold p = (d.rpDown p).pllEval := rfl

theorem Dev.rpStopped_regs (d : Dev) (p : Nat) : (d.rpStopped p).regs = (d.puts (d.stopFlds p)).regs := by
  have hlen : ((d.rlink p).rx.map (·.fid)).length = (d.rlink p).rx.length := List.length_map ..
  rw [Dev.stopFlds, ← hlen]
  rfl

theorem Dev.rpCleared_reg (d : Dev) (p k : Nat) : Tbl.get (d.rpCleared p).regs k (Reg.rst k) =
    if rpKeeps p k = true then Tbl.get (d.puts (d.stopFlds p)).regs k (Reg.rst k) else Reg.rst k := by
  rw [Dev.rpCleared, Dev.unitClear_reg, Dev.unitClear_reg, Dev.rpStopped_regs, rpKeeps, Bool.not_or, not_inSpan, not_inSpan]
  generalize (decide (k / 32 < 0x1C00000 + 0x40000 * p) || decide (0x1C00000 + 0x40000 * p + 0x1FFFF < k / 32)) = a
  generalize (decide (k / 32 < 0x1C00000 + 0x40000 * p + 0x30000) || decide (0x1C00000 + 0x40000 * p + 0x3FFFF < k / 32)) = b
  generalize (accOf k == Acc.rw) = c
  cases a <;> cases b <;> cases c <;> rfl

theorem rpKeeps_stop : ∀ p < 4, rpKeeps p (Reg.CPH_RSR_CNT.COUNT p 7).key = true ∧ rpKeeps p (Reg.RP_LINK_STAT.ALIGNED p).key = false ∧
    rpKeeps p Reg.PWR_WAKE_STAT.QUEUED.key = true ∧ (Reg.CPH_RSR_CNT.COUNT p 7).key ≠ (Reg.RP_LINK_STAT.ALIGNED p).key ∧
    Reg.PWR_WAKE_STAT.QUEUED.key ≠ (Reg.CPH_RSR_CNT.COUNT p 7).key := by decide

theorem Dev.rpCleared_regs (d : Dev) {p : Nat} (hp : p < 4) : d.Resets (d.rpCleared p) (rpKeeps p)
    [(Reg.CPH_RSR_CNT.COUNT p 7, min (2 ^ 32 - 1) (d.fld (Reg.CPH_RSR_CNT.COUNT p 7) + (d.rlink p).rx.length))] := by
  obtain ⟨hlost, hal, -, hne, -⟩ := rpKeeps_stop p hp
  have hnd : ((d.stopFlds p).map (·.1.key)).Nodup := by simpa [Dev.stopFlds] using hne
  refine ⟨fun x hx => ?_, fun k hk => (d.rpCleared_reg p k).trans ?_⟩
  · obtain rfl := List.mem_singleton.1 hx
    rw [Dev.fld, d.rpCleared_reg p, if_pos hlost]
    refine (Dev.puts_fld hnd d (x := (_, _)) (List.mem_cons_self ..)).trans (Nat.mod_eq_of_lt ?_)
    exact Nat.lt_of_le_of_lt (Nat.min_le_left ..) (show 2 ^ 32 - 1 < 2 ^ 32 by decide)
  · split
    next hkeep =>
      refine Dev.puts_reg_ne d fun hin => ?_
      simp only [Dev.stopFlds, List.map_cons, List.map_nil, List.mem_cons, List.not_mem_nil, or_false] at hin hk
      rcases hin with rfl | rfl
      · exact hk rfl
      · rw [hal] at hkeep
        exact Bool.false_ne_true hkeep
    next => rfl

/-- Two devices that agree on what a riser port does not touch: the lines, the time, the generations, the ciphers and the hierarchy. -/
def Dev.OffRisers (d e : Dev) : Prop := e.lines = d.lines ∧ e.tim = d.tim ∧ e.gen = d.gen ∧ e.cph = d.cph ∧ e.hier = d.hier

theorem Dev.rpStopped_off (d : Dev) (p : Nat) : d.OffRisers (d.rpStopped p) := ⟨rfl, rfl, rfl, rfl, rfl⟩

theorem Dev.clearRegs_off (d : Dev) (lo hi : Nat) (keep : Nat → Bool) : d.OffRisers (d.clearRegs lo hi keep) := ⟨rfl, rfl, rfl, rfl, rfl⟩

theorem Dev.wakeDrop_off (d : Dev) (n : Nat) : d.OffRisers (d.wakeDrop n) := ⟨rfl, rfl, rfl, rfl, rfl⟩

theorem Dev.OffRisers.trans {d e f : Dev} (h : d.OffRisers e) (h' : e.OffRisers f) : d.OffRisers f := by
  obtain ⟨h1, h2, h3, h4, h5⟩ := h
  obtain ⟨k1, k2, k3, k4, k5⟩ := h'
  exact ⟨k1.trans h1, k2.trans h2, k3.trans h3, k4.trans h4, k5.trans h5⟩

theorem Dev.rpDown_off (d : Dev) (p : Nat) : d.OffRisers (d.rpDown p) :=
  ((((d.rpStopped_off p).trans (Dev.clearRegs_off _ _ _ _)).trans (Dev.clearRegs_off _ _ _ _)).trans (Dev.wakeDrop_off _ _)).trans
    (Dev.wakeDrop_off _ _)

theorem Dev.rpDown_regs (d : Dev) (p : Nat) : (d.rpDown p).regs =
    (((d.rpCleared p).put Reg.PWR_WAKE_STAT.QUEUED (d.wake.queue.filter (fun e => e.1 != 224 + p)).length).put
      Reg.PWR_WAKE_STAT.QUEUED (d.rpDown p).wake.queue.length).regs := rfl

theorem Dev.rpDown_spec (d : Dev) {p : Nat} (hp : p < 4) : let e := d.rpDown p
    e.phy p = {} ∧ e.rlink p = {} ∧ (∀ q, q ≠ p → e.phy q = d.phy q) ∧
      d.Resets e (rpKeeps p) [(Reg.CPH_RSR_CNT.COUNT p 7, min (2 ^ 32 - 1) (d.fld (Reg.CPH_RSR_CNT.COUNT p 7) + (d.rlink p).rx.length)),
        (Reg.PWR_WAKE_STAT.QUEUED, (d.otherWakes p).length % 2 ^ Reg.PWR_WAKE_STAT.QUEUED.w)] ∧
      e.wake.queue = d.otherWakes p ∧ d.OffRisers e := by
  have hwakes : (d.rpDown p).wake.queue = d.otherWakes p := by
    rw [Dev.otherWakes]
    refine (List.filter_filter ..).trans (List.filter_congr fun x _ => ?_)
    rw [Bool.and_comm]
    simp only [bne, beq_eq_decide, decide_not, ne_eq]
  refine ⟨Tbl.get_set_same .., Tbl.get_set_same .., fun q hq => Tbl.get_set_ne _ _ _ hq, ?_, hwakes, d.rpDown_off p⟩
  obtain ⟨-, -, hqueued, -, hapart⟩ := rpKeeps_stop p hp
  obtain ⟨hlost, hother⟩ := d.rpCleared_regs hp
  have hregs := d.rpDown_regs p
  rw [hwakes] at hregs
  refine ⟨List.forall_mem_cons.2 ⟨?_, List.forall_mem_cons.2 ⟨?_, by simp⟩⟩, fun k hk => ?_⟩
  · rw [Dev.fld, hregs]
    refine ((Dev.fld_put_ne _ _ hapart.symm).trans (Dev.fld_put_ne _ _ hapart.symm)).trans (hlost _ (List.mem_singleton_self _))
  · rw [Dev.fld, hregs]
    exact Dev.fld_put_same ..
  · simp only [List.map_cons, List.map_nil, List.mem_cons, List.not_mem_nil, or_false, not_or] at hk
    rw [hregs, Dev.reg_put, if_neg hk.2, Dev.reg_put, if_neg hk.2]
    exact hother k (by simpa using hk.1)

/-! ### What a line channel in reset gives up -/

/-- What emptying channel `n` leaves of the device, registers apart: its machine and its burst store lose what they hold, frames go back to the
pool, and a burst on its way is cut. -/
structure Dev.Emptied (n : Nat) (d e : Dev) : Prop where
  rest : { e with regs := d.regs, acts := d.acts, coaches := d.coaches, tm := d.tm, out := d.out } = d
  acts : ∀ m, m ≠ n → e.act m = d.act m
  coaches : ∀ m, m ≠ n → e.coach m = d.coach m
  loaded : (e.act n).loaded = (d.act n).loaded

namespace Dev.Emptied

variable {n : Nat} {d e f : Dev}

theorem refl (n : Nat) (d : Dev) : Dev.Emptied n d d := ⟨rfl, fun _ _ => rfl, fun _ _ => rfl, rfl⟩

theorem trans (h : Dev.Emptied n d e) (h' : Dev.Emptied n e f) : Dev.Emptied n d f :=
  ⟨(congrArg (fun z : Dev => { z with regs := d.regs, acts := d.acts, coaches := d.coaches, tm := d.tm, out := d.out }) h'.rest :).trans h.rest,
    fun m hm => (h'.acts m hm).trans (h.acts m hm), fun m hm => (h'.coaches m hm).trans (h.coaches m hm), h'.loaded.trans h.loaded⟩

theorem each {α : Type} {g : Dev → α → Dev} (h : ∀ (d : Dev) x, Dev.Emptied n d (g d x)) (l : List α) (d : Dev) : Dev.Emptied n d (d.each l g) := by
  induction l generalizing d with
  | nil => exact refl n d
  | cons x l ih => exact (h d x).trans (ih (g d x))

theorem setCoach (d : Dev) (n : Nat) (c : Coach) : Dev.Emptied n d (d.setCoach n c) :=
  ⟨rfl, fun _ _ => rfl, fun _ hm => Tbl.get_set_ne _ _ _ hm, rfl⟩

theorem setAct (d : Dev) {n : Nat} {x : Act} (hx : x.loaded = (d.act n).loaded) : Dev.Emptied n d (d.setAct n x) :=
  ⟨rfl, fun _ hm => Dev.act_set_ne _ hm _, fun _ _ => rfl, by rw [Dev.act_set]; exact hx⟩

theorem put (d : Dev) (n : Nat) (g : Fld) (v : Nat) : Dev.Emptied n d (d.put g v) := ⟨rfl, fun _ _ => rfl, fun _ _ => rfl, rfl⟩

theorem release (d : Dev) (n : Nat) (f : Frame) : Dev.Emptied n d (d.release f) := by
  obtain ⟨t, ht⟩ := d.release_tm f
  rw [ht]
  exact ⟨rfl, fun _ _ => rfl, fun _ _ => rfl, rfl⟩

theorem txCut (d : Dev) (n : Nat) : Dev.Emptied n d (d.txCut n) := by
  rw [Dev.txCut_eq]
  split
  · exact (setCoach d n _).trans ⟨rfl, fun _ _ => rfl, fun _ _ => rfl, rfl⟩
  · exact refl n d

theorem of_unseal (d : Dev) (n : Nat) (b : Burst) : Dev.Emptied n d (d.unseal n b) := by
  unfold Dev.unseal
  split
  · exact refl n d
  · dsimp only
    split
    · exact (setCoach d n _).trans (setAct _ rfl)
    · exact (setCoach d n _).trans (setAct _ rfl)
    · exact setCoach d n _

theorem cancelSealed (d : Dev) (n : Nat) : Dev.Emptied n d (d.cancelSealed n) :=
  (setCoach d n _).trans (each (fun d b => of_unseal d n b) _ _)

theorem strand (d : Dev) (n : Nat) : Dev.Emptied n d (d.strand n) :=
  (((cancelSealed d n).trans (each (fun d (e : BFrame) => release d n e.f) _ _)).trans (setCoach _ n _)).trans (put _ n _ _)

end Dev.Emptied

/-- Bonded frames in the burst store of channel `n` once its sealed bursts are given up. -/
def Dev.strandedCount (d : Dev) (n : Nat) : Nat := (((d.cancelSealed n).coach n).store.filter (·.group.isSome)).length

theorem Dev.each_release_regs {α : Type} (g : α → Frame) (l : List α) (d : Dev) : (d.each l (fun d x => d.release (g x))).regs = d.regs := by
  induction l generalizing d with
  | nil => rfl
  | cons x l ih => exact (ih _).trans (Dev.release_regs d _)

theorem Dev.strand_regs (d : Dev) (n : Nat) : (d.strand n).regs = (d.put (Reg.LN_BOND_CNT.COUNT bTxStranded)
    (min (2 ^ 32 - 1) (d.fld (Reg.LN_BOND_CNT.COUNT bTxStranded) + d.strandedCount n))).regs := by
  have hregs : ((d.cancelSealed n).each ((((d.cancelSealed n).coach n).store.filter (fun f => f.group.isSome)).filter (fun f => !f.ready))
      (fun d (e : BFrame) => d.release e.f)).regs = d.regs := (Dev.each_release_regs (fun e : BFrame => e.f) _ _).trans (d.cancelSealed_spec n).1
  rw [Dev.strandedCount, Dev.regs_put, Dev.fld, ← hregs]
  rfl

/-! ### The context of a line channel in the cipher engine -/

/-- The slots of channel `n`. -/
def channelSlots (n : Nat) : List Nat := (List.range 8).map (8 * n + ·)

/-- A slot emptied, with its mark of exhaustion and its counter. -/
def Dev.wipeSlot (d : Dev) (s : Nat) : Dev := ((d.emptySlot s).put (Reg.CPH_SLOT_STAT.EXH s) 0).setSlotCtr s 0

theorem Dev.wipeSlot_eq (d : Dev) (s : Nat) : d.wipeSlot s = (d.storeKeys (Tbl.del d.cph.keys s)).puts (slotFlds s slotEmpty 0) := rfl

theorem Dev.each_wipeSlot (l : List Nat) (d : Dev) : let e := d.each l (fun d s => d.wipeSlot s)
    e.regs = (d.puts (l.flatMap fun s => slotFlds s slotEmpty 0)).regs ∧ (∀ s, e.key s = if s ∈ l then 0 else d.key s) ∧
      { e with regs := d.regs, cph := d.cph } = d := by
  induction l generalizing d with
  | nil => exact ⟨rfl, fun s => rfl, rfl⟩
  | cons s l ih =>
    obtain ⟨hregs, hkeys, hrest⟩ := ih (d.wipeSlot s)
    refine ⟨hregs.trans ?_, fun t => (hkeys t).trans ?_, (congrArg (fun z : Dev => { z with regs := d.regs, cph := d.cph }) hrest :).trans ?_⟩
    · rw [List.flatMap_cons, Dev.puts_append]
      exact Dev.puts_regs_congr (by rw [Dev.wipeSlot_eq]; exact Dev.puts_regs_congr rfl _) _
    · by_cases ht : t = s
      · have hgone : (d.wipeSlot s).key t = 0 := ht ▸ Tbl.get_del_same ..
        rw [hgone, ite_self, if_pos (by simp [ht])]
      · have hold : (d.wipeSlot s).key t = d.key t := Tbl.get_del_ne _ _ ht
        simp only [hold, List.mem_cons, ht, false_or]
    · rw [Dev.wipeSlot_eq]
      exact congrArg (fun z : Dev => { z with cph := d.cph })
        (Dev.puts_rest (slotFlds s slotEmpty 0) (d.storeKeys (Tbl.del d.cph.keys s)))

/-- What a line channel in reset has at 0 in the cipher engine beside its slots. -/
def lineFlds (n : Nat) : List (Fld × Nat) :=
  [(Reg.CPH_LINE_US_CTRL.CUR_IDX n, 0), (Reg.CPH_LINE_US_CTRL.SW_ARM n, 0)] ++ (List.range 15).map (fun w => (Reg.CPH_LINE_KEYREC.DATA n w, 0)) ++
    (List.range 6).map (fun c => (Reg.CPH_LINE_CNT.COUNT n c, 0))

/-- What a line channel in reset has at 0 in the cipher engine. -/
def contextFlds (n : Nat) : List (Fld × Nat) := (channelSlots n).flatMap (fun s => slotFlds s slotEmpty 0) ++ lineFlds n

theorem contextFlds_zero (n : Nat) : ∀ x ∈ contextFlds n, x.2 = 0 := by
  intro x hx
  simp only [contextFlds, lineFlds, List.mem_append, List.mem_map, List.mem_flatMap, List.mem_cons, List.not_mem_nil, or_false, slotFlds] at hx
  rcases hx with ⟨s, -, rfl | rfl | rfl | rfl | rfl⟩ | ((rfl | rfl) | ⟨_, -, rfl⟩) | ⟨_, -, rfl⟩ <;> rfl

theorem Dev.lineContext_eq (d : Dev) (n : Nat) : d.lineContext n = ((d.each (channelSlots n) (fun d s => d.wipeSlot s)).dropLatch
    (Reg.CPH_SLOT_CTR_LO.ADR (8 * n)) (Reg.CPH_SLOT_CTR_HI.ADR (8 * n + 7))).puts (lineFlds n) := by
  rw [lineFlds, Dev.puts_append, Dev.puts_append, ← Dev.each_put, ← Dev.each_put]
  rfl

theorem Dev.puts_dropLatch_rest {d x : Dev} (h : { x with regs := d.regs, cph := d.cph } = d) (lo hi : Nat) (l : List (Fld × Nat)) :
    { (x.dropLatch lo hi).puts l with regs := d.regs, latch := d.latch, cph := d.cph } = d :=
  (congrArg (fun z : Dev => { z with regs := d.regs, latch := d.latch, cph := d.cph }) (Dev.puts_rest l (x.dropLatch lo hi)) :).trans
    (congrArg (fun z : Dev => { z with latch := d.latch }) h)

theorem Dev.lineContext_spec (d : Dev) (n : Nat) : let e := d.lineContext n
    e.regs = (d.puts (contextFlds n)).regs ∧ (∀ s ∈ channelSlots n, e.key s = 0 ∧ Tbl.get e.latch (Reg.CPH_SLOT_CTR_HI.ADR s) 0 = 0) ∧
      { e with regs := d.regs, latch := d.latch, cph := d.cph } = d := by
  obtain ⟨hregs, hkeys, hrest⟩ := d.each_wipeSlot (channelSlots n)
  rw [Dev.lineContext_eq]
  generalize d.each (channelSlots n) (fun d s => d.wipeSlot s) = x at *
  have hputs := Dev.puts_rest (lineFlds n) (x.dropLatch (Reg.CPH_SLOT_CTR_LO.ADR (8 * n)) (Reg.CPH_SLOT_CTR_HI.ADR (8 * n + 7)))
  refine ⟨?_, fun s hs => ⟨?_, ?_⟩, ?_⟩
  · have hdrop : (x.dropLatch (Reg.CPH_SLOT_CTR_LO.ADR (8 * n)) (Reg.CPH_SLOT_CTR_HI.ADR (8 * n + 7))).regs = x.regs := rfl
    rw [contextFlds, Dev.puts_append]
    exact Dev.puts_regs_congr (hdrop.trans hregs) (lineFlds n)
  · have hcph := (congrArg Dev.cph hputs :)
    rw [Dev.key, hcph]
    exact (hkeys s).trans (if_pos hs)
  · have hlatch := (congrArg Dev.latch hputs :)
    obtain ⟨j, hj, rfl⟩ := List.mem_map.1 hs
    have hin : (Reg.CPH_SLOT_CTR_LO.ADR (8 * n) ≤ Reg.CPH_SLOT_CTR_HI.ADR (8 * n + j)) ∧
        Reg.CPH_SLOT_CTR_HI.ADR (8 * n + j) ≤ Reg.CPH_SLOT_CTR_HI.ADR (8 * n + 7) := by
      have := List.mem_range.1 hj
      simp only [Reg.CPH_SLOT_CTR_LO.ADR, Reg.CPH_SLOT_CTR_HI.ADR]
      omega
    rw [hlatch, Dev.dropLatch]
    dsimp only
    rw [Tbl.get_keep, if_neg (by simp [hin])]
  · exact Dev.puts_dropLatch_rest hrest _ _ _

/-! ### A line channel that enters reset -/

/-- What the reset of a line channel keeps of the registers. -/
def lnKeeps (n k : Nat) : Bool :=
  !(decide (0x100000 + 0x40000 * n ≤ k / 32) && decide (k / 32 ≤ 0x100000 + 0x40000 * n + 0x2FFFF)) || accOf k == .rw

/-- The channel's coefficients as they are, its burst cut, its store and its machine emptied. -/
def Dev.lnEmptied (d : Dev) (n : Nat) : Dev :=
  let d1 := ((d.adaptNow n).txCut n).strand n
  d1.each ((d1.coach n).store.filter (fun e => !e.ready)) (fun d e => d.release e.f)

/-- A channel's state and registers cleared. -/
def Dev.lnBlank (x : Dev) (n : Nat) : Dev :=
  (((x.setLine n { sd := (x.line n).sd, badPorts := (x.line n).badPorts }).setAct n { loaded := (x.act n).loaded }).setCoach n {}).unitClear
    (0x100000 + 0x40000 * n) (0x100000 + 0x40000 * n + 0x2FFFF)

/-- The channel emptied and cleared, DSD not yet shown. -/
def Dev.lnCleared (d : Dev) (n : Nat) : Dev := (d.lnEmptied n).lnBlank n

/-- The channel in reset, before what the framer and the references make of it. -/
def Dev.lnDown (d : Dev) (n : Nat) : Dev := ((d.lnCleared n).dsdPin n).lineContext n

theorem Dev.lnHold_eq (d : Dev) (n : Nat) : d.lnHold n = (d.lnDown n).lineMoved n := rfl

theorem Dev.lnEmptied_emptied (d : Dev) (n : Nat) : Dev.Emptied n (d.adaptNow n) (d.lnEmptied n) :=
  ((Dev.Emptied.txCut _ n).trans (.strand _ n)).trans (.each (fun d (e : BFrame) => .release d n e.f) _ _)

/-- The count of stranded frames once the store of channel `n` has been emptied. -/
def Dev.strandedTotal (d : Dev) (n : Nat) : Nat :=
  min (2 ^ 32 - 1) (d.fld (Reg.LN_BOND_CNT.COUNT bTxStranded) + ((d.adaptNow n).txCut n).strandedCount n)

theorem Dev.adaptNow_apart (d : Dev) {n : Nat} {f : Fld} (hf : ∀ j < 34, f.key ≠ (coefFld n j).key) : (d.adaptNow n).fld f = d.fld f := by
  by_cases h : d.adapts n = true
  · refine (Dev.adaptNow_sets h).1.fld_eq fun hm => ?_
    simp only [List.map_map, List.mem_map, List.mem_range, Function.comp] at hm
    obtain ⟨j, hj, he⟩ := hm
    exact hf j hj he.symm
  · rw [Dev.adaptNow, if_neg h]

theorem stranded_not_coef (n : Nat) {j : Nat} (hj : j < 34) : (Reg.LN_BOND_CNT.COUNT bTxStranded).key ≠ (coefFld n j).key := by
  rw [coefFld_eq]
  simp only [Fld.key, Reg.LN_BOND_CNT.COUNT, bTxStranded]
  split <;> omega

theorem Dev.strandedTotal_lt (d : Dev) (n : Nat) : d.strandedTotal n < 2 ^ 32 := by
  have h (a : Nat) : min (2 ^ 32 - 1) a < 2 ^ 32 := by omega
  exact h _

theorem Dev.lnEmptied_regs (d : Dev) (n : Nat) :
    (d.lnEmptied n).regs = ((d.adaptNow n).put (Reg.LN_BOND_CNT.COUNT bTxStranded) (d.strandedTotal n)).regs := by
  have hcut : ((d.adaptNow n).txCut n).regs = (d.adaptNow n).regs := ((d.adaptNow n).txCut_act n).2.2
  have hcount : ((d.adaptNow n).txCut n).fld (Reg.LN_BOND_CNT.COUNT bTxStranded) = d.fld (Reg.LN_BOND_CNT.COUNT bTxStranded) := by
    rw [Dev.fld, hcut]
    exact d.adaptNow_apart fun j hj => stranded_not_coef n hj
  refine (Dev.each_release_regs (fun e : BFrame => e.f) _ _).trans (((d.adaptNow n).txCut n).strand_regs n |>.trans ?_)
  rw [Dev.regs_put, Dev.regs_put, hcut, hcount]
  rfl

/-- What adaptation leaves of the device. -/
theorem Dev.adaptNow_rest (d : Dev) (n : Nat) : { d.adaptNow n with regs := d.regs, freeCtr := d.freeCtr } = d := by
  by_cases h : d.adapts n = true
  · exact (congrArg (fun z : Dev => { z with regs := d.regs, freeCtr := d.freeCtr }) (Dev.adaptNow_sets h).2 :)
  · rw [Dev.adaptNow, if_neg h]

theorem Dev.lnEmptied_rest (d : Dev) (n : Nat) : { d.lnEmptied n with
    regs := d.regs, acts := d.acts, coaches := d.coaches, tm := d.tm, out := d.out, freeCtr := d.freeCtr } = d := by
  have hemptied := (d.lnEmptied_emptied n).rest
  have hadapt := d.adaptNow_rest n
  generalize d.lnEmptied n = x at *
  generalize d.adaptNow n = y at *
  exact (congrArg (fun z : Dev => { z with
      regs := d.regs, acts := d.acts, coaches := d.coaches, tm := d.tm, out := d.out, freeCtr := d.freeCtr }) hemptied :).trans
    (congrArg (fun z : Dev => { z with acts := d.acts, coaches := d.coaches, tm := d.tm, out := d.out }) hadapt)

/-- Device `z` with what the reset of a line channel may touch taken from `d`. -/
def Dev.asideChannel (d z : Dev) : Dev := { z with
  regs := d.regs, latch := d.latch, lines := d.lines, acts := d.acts, coaches := d.coaches, tm := d.tm, cph := d.cph, out := d.out
  freeCtr := d.freeCtr }

theorem Dev.lnBlank_aside (d x : Dev) (n : Nat) : d.asideChannel (x.lnBlank n) = d.asideChannel x := rfl

theorem Dev.lnBlank_reg (x : Dev) (n k : Nat) : Tbl.get (x.lnBlank n).regs k (Reg.rst k) =
    if lnKeeps n k = true then Tbl.get x.regs k (Reg.rst k) else Reg.rst k := by
  rw [Dev.lnBlank, Dev.unitClear_reg, lnKeeps, not_inSpan]
  rfl

theorem Dev.lnBlank_line (x : Dev) (n m : Nat) : (x.lnBlank n).line m =
    if m = n then { sd := (x.line n).sd, badPorts := (x.line n).badPorts } else x.line m := Tbl.get_set _ _ _ _ _

theorem Dev.lnDown_rest (d : Dev) (n : Nat) : d.asideChannel (d.lnDown n) = d := by
  have hctx := ((d.lnCleared n).dsdPin n |>.lineContext_spec n).2.2
  have hdsd := (d.lnCleared n).dsdPin_rest n
  have hemptied := d.lnEmptied_rest n
  have hcl : d.asideChannel (d.lnCleared n) = d.asideChannel (d.lnEmptied n) := d.lnBlank_aside _ n
  rw [Dev.lnDown]
  generalize ((d.lnCleared n).dsdPin n).lineContext n = u at *
  generalize (d.lnCleared n).dsdPin n = v at *
  generalize d.lnCleared n = w at *
  generalize d.lnEmptied n = x at *
  calc d.asideChannel u
    _ = d.asideChannel v := (congrArg d.asideChannel hctx :)
    _ = d.asideChannel w := (congrArg d.asideChannel hdsd :)
    _ = d.asideChannel x := hcl
    _ = d := congrArg (fun z : Dev => { z with latch := d.latch, lines := d.lines, cph := d.cph }) hemptied

theorem Dev.lnCleared_reg (d : Dev) (n k : Nat) : Tbl.get (d.lnCleared n).regs k (Reg.rst k) = if lnKeeps n k = true then
    Tbl.get ((d.adaptNow n).put (Reg.LN_BOND_CNT.COUNT bTxStranded) (d.strandedTotal n)).regs k (Reg.rst k) else Reg.rst k := by
  rw [Dev.lnCleared, Dev.lnBlank_reg, d.lnEmptied_regs n]

theorem lnKeeps_reset : ∀ n < 4, lnKeeps n (Reg.LN_BOND_CNT.COUNT bTxStranded).key = true ∧ lnKeeps n (Reg.LN_CTRL.SD_POL n).key = true ∧
    (Reg.LN_BOND_CNT.COUNT bTxStranded).key ≠ (Reg.LN_CTRL.SD_POL n).key ∧ (Reg.LN_BOND_CNT.COUNT bTxStranded).key ≠ (defFld n dDSD).key := by
  decide

theorem contextFlds_apart : ∀ n < 4, (defFld n dDSD).key ∉ (contextFlds n).map (·.1.key) ∧
    (Reg.LN_BOND_CNT.COUNT bTxStranded).key ∉ (contextFlds n).map (·.1.key) := by decide

theorem Dev.lnEmptied_lines (d : Dev) (n m : Nat) : (d.lnEmptied n).line m = d.line m := by
  have h := d.lnEmptied_rest n
  generalize d.lnEmptied n = x at *
  have hlines : x.lines = d.lines := (congrArg Dev.lines h :)
  rw [Dev.line, Dev.line, hlines]

theorem Dev.lnCleared_line (d : Dev) (n m : Nat) : (d.lnCleared n).line m =
    if m = n then { sd := (d.line n).sd, badPorts := (d.line n).badPorts } else d.line m := by
  rw [Dev.lnCleared, Dev.lnBlank_line, d.lnEmptied_lines, d.lnEmptied_lines]

theorem Dev.lnCleared_sdSignal (d : Dev) {n : Nat} (hn : n < 4) : (d.lnCleared n).sdSignal n = d.sdSignal n := by
  obtain ⟨-, hpol, hne, -⟩ := lnKeeps_reset n hn
  have hfld : (d.lnCleared n).fld (Reg.LN_CTRL.SD_POL n) = d.fld (Reg.LN_CTRL.SD_POL n) := by
    rw [Dev.fld, d.lnCleared_reg, if_pos hpol, Dev.reg_put, if_neg hne.symm]
    exact d.adaptNow_fld rfl (by decide) (by decide)
  rw [Dev.sdSignal, Dev.sdSignal, Dev.on, Dev.on, hfld, d.lnCleared_line, if_pos rfl]

theorem Dev.lnDown_reg_shown (d : Dev) (n : Nat) {k : Nat} (hk : k ∉ (contextFlds n).map (·.1.key)) :
    Tbl.get (d.lnDown n).regs k (Reg.rst k) = Tbl.get ((d.lnCleared n).dsdPin n).regs k (Reg.rst k) := by
  have hctx := ((d.lnCleared n).dsdPin n |>.lineContext_spec n).1
  rw [Dev.lnDown, hctx, Dev.puts_reg_ne _ hk]

theorem Dev.lnDown_reg (d : Dev) {n : Nat} (hn : n < 4) {k : Nat} (hk : k ∉ (contextFlds n).map (·.1.key)) (hk' : k ≠ (defFld n dDSD).key) :
    Tbl.get (d.lnDown n).regs k (Reg.rst k) = Tbl.get (d.lnCleared n).regs k (Reg.rst k) :=
  (d.lnDown_reg_shown n hk).trans (((d.lnCleared n).dsdPin_Regs hn).2 k (by simpa using hk'))

theorem Dev.dsdPin_shown (x : Dev) {n : Nat} (hn : n < 4) : (x.dsdPin n).fld (defFld n dDSD) = bit (!x.sdSignal n) := by
  obtain ⟨h, -⟩ := Dev.dsdPin_Regs (d := x) hn
  rw [List.forall_mem_singleton] at h
  exact h

theorem Dev.lnDown_dsd (d : Dev) {n : Nat} (hn : n < 4) : (d.lnDown n).fld (defFld n dDSD) = bit (!d.sdSignal n) := by
  have hshown := (d.lnCleared n).dsdPin_shown hn
  rw [d.lnCleared_sdSignal hn] at hshown
  rw [Dev.fld, d.lnDown_reg_shown n (contextFlds_apart n hn).1]
  exact hshown

theorem Dev.lnDown_context (d : Dev) (n : Nat) {x : Fld × Nat} (hx : x ∈ contextFlds n) : (d.lnDown n).fld x.1 = x.2 := by
  have hctx := ((d.lnCleared n).dsdPin n |>.lineContext_spec n).1
  rw [Dev.fld, Dev.lnDown, hctx, contextFlds_zero n x hx]
  exact Dev.puts_zeros (contextFlds_zero n) _ (List.mem_map_of_mem hx)

theorem Dev.lnDown_stranded (d : Dev) {n : Nat} (hn : n < 4) : (d.lnDown n).fld (Reg.LN_BOND_CNT.COUNT bTxStranded) = d.strandedTotal n := by
  obtain ⟨hkeep, -, -, hne⟩ := lnKeeps_reset n hn
  rw [Dev.fld, d.lnDown_reg hn (contextFlds_apart n hn).2 hne, d.lnCleared_reg, if_pos hkeep, Dev.reg_put, if_pos rfl]
  exact Nat.mod_eq_of_lt (d.strandedTotal_lt n)

/-- The registers of a line channel in reset. -/
theorem Dev.lnDown_regs (d : Dev) {n : Nat} (hn : n < 4) : (d.adaptNow n).Resets (d.lnDown n) (lnKeeps n)
    ([(defFld n dDSD, bit (!d.sdSignal n)), (Reg.LN_BOND_CNT.COUNT bTxStranded, d.strandedTotal n)] ++ contextFlds n) := by
  refine ⟨fun x hx => ?_, fun k hk => ?_⟩
  · rcases List.mem_append.1 hx with hx | hx
    · simp only [List.mem_cons, List.not_mem_nil, or_false] at hx
      rcases hx with rfl | rfl
      · exact d.lnDown_dsd hn
      · exact d.lnDown_stranded hn
    · exact d.lnDown_context n hx
  · rw [List.map_append, List.mem_append, not_or] at hk
    obtain ⟨hk2, hk1⟩ := hk
    simp only [List.map_cons, List.map_nil, List.mem_cons, List.not_mem_nil, or_false, not_or] at hk2
    rw [d.lnDown_reg hn hk1 hk2.1, d.lnCleared_reg, Dev.reg_put, if_neg hk2.2]

theorem Dev.lnDown_line (d : Dev) {n : Nat} (hn : n < 4) (m : Nat) : (d.lnDown n).line m = if m = n then
    { sd := (d.line n).sd, badPorts := (d.line n).badPorts, seen := if d.sdSignal n then 6 else 7 } else d.line m := by
  have hctx := ((d.lnCleared n).dsdPin n |>.lineContext_spec n).2.2
  have hdsd := (d.lnCleared n).dsdPin_line n m
  have hlines : (d.lnDown n).line m = ((d.lnCleared n).dsdPin n).line m := by
    rw [Dev.lnDown]
    generalize (d.lnCleared n).dsdPin n = v at *
    generalize v.lineContext n = u at *
    have hu : u.lines = v.lines := (congrArg Dev.lines hctx :)
    rw [Dev.line, Dev.line, hu]
  rw [hlines, hdsd, Dev.lampOf, d.lnCleared_sdSignal hn, d.lnCleared_line, d.lnCleared_line, if_pos rfl]
  by_cases hm : m = n
  · rw [if_pos hm, if_pos hm]
    split
    · rfl
    · exact congrArg (fun x => ({ sd := (d.line n).sd, badPorts := (d.line n).badPorts, seen := x } : Line)) (show setBit 6 dDSD true = 7 by decide)
  · rw [if_neg hm, if_neg hm, if_neg hm]

/-- The machines and the burst stores with channel `n` in reset. -/
theorem Dev.lnDown_tables (d : Dev) (n : Nat) : (d.lnDown n).acts = (d.lnCleared n).acts ∧ (d.lnDown n).coaches = (d.lnCleared n).coaches := by
  have hctx := ((d.lnCleared n).dsdPin n |>.lineContext_spec n).2.2
  have hdsd := (d.lnCleared n).dsdPin_rest n
  rw [Dev.lnDown]
  generalize (d.lnCleared n).dsdPin n = v at *
  generalize v.lineContext n = u at *
  exact ⟨(congrArg Dev.acts hctx :).trans (congrArg Dev.acts hdsd :), (congrArg Dev.coaches hctx :).trans (congrArg Dev.coaches hdsd :)⟩

theorem Dev.lnBlank_act (x : Dev) (n m : Nat) : (x.lnBlank n).act m = if m = n then { loaded := (x.act n).loaded } else x.act m :=
  Tbl.get_set _ _ _ _ _

theorem Dev.lnBlank_coach (x : Dev) (n m : Nat) : (x.lnBlank n).coach m = if m = n then {} else x.coach m := Tbl.get_set _ _ _ _ _

theorem Dev.adaptNow_tables (d : Dev) (n : Nat) : (d.adaptNow n).acts = d.acts ∧ (d.adaptNow n).coaches = d.coaches := by
  have h := d.adaptNow_rest n
  generalize d.adaptNow n = x at *
  exact ⟨(congrArg Dev.acts h :), (congrArg Dev.coaches h :)⟩

theorem Dev.lnDown_act (d : Dev) (n m : Nat) : (d.lnDown n).act m = if m = n then { loaded := (d.act n).loaded } else d.act m := by
  have hold (k : Nat) : (d.adaptNow n).act k = d.act k := by rw [Dev.act, Dev.act, (d.adaptNow_tables n).1]
  have hemp := d.lnEmptied_emptied n
  rw [Dev.act, (d.lnDown_tables n).1, ← Dev.act, Dev.lnCleared, Dev.lnBlank_act]
  by_cases hm : m = n
  · rw [if_pos hm, if_pos hm, hemp.loaded, hold]
  · rw [if_neg hm, if_neg hm, hemp.acts m hm, hold]

theorem Dev.lnDown_coach (d : Dev) (n m : Nat) : (d.lnDown n).coach m = if m = n then {} else d.coach m := by
  have hold (k : Nat) : (d.adaptNow n).coach k = d.coach k := by rw [Dev.coach, Dev.coach, (d.adaptNow_tables n).2]
  have hemp := d.lnEmptied_emptied n
  rw [Dev.coach, (d.lnDown_tables n).2, ← Dev.coach, Dev.lnCleared, Dev.lnBlank_coach]
  by_cases hm : m = n
  · rw [if_pos hm, if_pos hm]
  · rw [if_neg hm, if_neg hm, hemp.coaches m hm, hold]

theorem Dev.lnDown_slots (d : Dev) (n : Nat) : ∀ s ∈ channelSlots n,
    (d.lnDown n).key s = 0 ∧ Tbl.get (d.lnDown n).latch (Reg.CPH_SLOT_CTR_HI.ADR s) 0 = 0 :=
  ((d.lnCleared n).dsdPin n |>.lineContext_spec n).2.1

/-! ### A line channel that leaves reset -/

/-- The default integrity keys of a channel that leaves reset. -/
def Dev.defaultKeyed (d : Dev) (n : Nat) : Dev := if d.cphLineUp && d.tenderHere then d.defaultKeys n else d

/-- Its receiver started again where it is enabled. -/
def Dev.receiving (d : Dev) (n : Nat) : Dev :=
  if d.on (Reg.LN_CTRL.RX_EN n) then (d.put (Reg.LN_CTRL.RX_EN n) 0).rxEnable n true else d

/-- Its machine started again where it is enabled. -/
def Dev.activating (d : Dev) (n : Nat) : Dev :=
  if !d.actEn n || !d.tenderHere then d
  else if d.tenderHalt then d.setAct n { d.act n with lateEn := true }
  else d.actStart n

theorem Dev.lnFree_eq (d : Dev) (n : Nat) : d.lnFree n = (((d.defaultKeyed n).receiving n).activating n).lineMoved n := rfl

/-- The slots of the integrity keys of channel `n`. -/
def micFlds (n : Nat) : List (Fld × Nat) := [8 * n + 2, 8 * n + 3].flatMap fun s => slotFlds s slotDefault 6

theorem Dev.defaultKeyed_rest (d : Dev) (n : Nat) : { d.defaultKeyed n with regs := d.regs, cph := d.cph } = d ∧
    d.SameRegs (d.defaultKeyed n) ((micFlds n).map Prod.fst) := by
  rw [Dev.defaultKeyed]
  split
  · obtain ⟨hregs, -, hrest⟩ := d.each_defaultKeys_spec (List.nodup_singleton n)
    rw [micSlots, List.flatMap_singleton] at hregs
    exact ⟨hrest, hregs.2⟩
  · exact ⟨rfl, .refl d _⟩

theorem Dev.defaultKeyed_slots {d : Dev} {n : Nat} (hc : d.cphLineUp = true) (ht : d.tenderHere = true) :
    (∀ x ∈ micFlds n, (d.defaultKeyed n).fld x.1 = x.2) ∧ (d.defaultKeyed n).key (8 * n + 2) = Config.lineDefault 2 ∧
      (d.defaultKeyed n).key (8 * n + 3) = Config.lineDefault 3 := by
  obtain ⟨hregs, hkeys, -⟩ := d.each_defaultKeys_spec (List.nodup_singleton n)
  rw [micSlots, List.flatMap_singleton] at hregs
  rw [Dev.defaultKeyed, hc, ht]
  exact ⟨hregs.1, hkeys n (List.mem_singleton_self n)⟩

/-- The registers that the start of a receiver sets. -/
def receiveFlds (n : Nat) : List Fld := [Reg.LN_CTRL.RX_EN n, Reg.LN_RX_LAT.LAT n, Reg.LN_EQ_STAT.ADAPT_DONE n, Reg.LN_SYNC_STAT.CANDS n,
  Reg.LN_SYNC_STAT.STATE n, Reg.LN_SYNC_STAT.MISS_RUN n]

/-- What the start of a receiver writes, in order. -/
def Dev.receiveWrites (d : Dev) (n : Nat) : List (Fld × Nat) := [(Reg.LN_CTRL.RX_EN n, 0), (Reg.LN_CTRL.RX_EN n, 1),
  (Reg.LN_RX_LAT.LAT n, if d.on (Reg.LN_EQ_CTRL.RSSD_EN n) then 456 else 392), (Reg.LN_EQ_STAT.ADAPT_DONE n, 0),
  (Reg.LN_SYNC_STAT.CANDS n, 0), (Reg.LN_SYNC_STAT.STATE n, 0), (Reg.LN_SYNC_STAT.MISS_RUN n, 0)]

theorem receive_keys : ∀ n < 4, (Reg.LN_EQ_CTRL.RSSD_EN n).key ≠ (Reg.LN_CTRL.RX_EN n).key ∧
    (Reg.LN_EQ_CTRL.MAIN_TAP n).key ≠ (Reg.LN_CTRL.RX_EN n).key ∧ Reg.CHIPCAP_BLOCK_RST.LN.key ≠ (Reg.LN_CTRL.RX_EN n).key := by decide

theorem Dev.lnUp_put (d : Dev) {f : Fld} (hf : Reg.CHIPCAP_BLOCK_RST.LN.key ≠ f.key) (v n : Nat) : (d.put f v).lnUp n = d.lnUp n := by
  rw [Dev.lnUp, Dev.lnUp, Dev.fld_put_ne _ _ hf]
  rfl

theorem Dev.setCands_nil (d : Dev) (n : Nat) : d.setCands n [] =
    ((d.setLine n { d.line n with cands := [] }).put (Reg.LN_SYNC_STAT.CANDS n) 0).put (Reg.LN_SYNC_STAT.STATE n) 0 := by
  rw [Dev.setCands, if_pos rfl, List.length_nil]

/-- A receiver that starts: what it writes, and the state of its channel. -/
theorem Dev.rxEnable_starts {d : Dev} {n : Nat} (hup : d.lnUp n = true) (hwas : d.on (Reg.LN_CTRL.RX_EN n) = false) :
    (d.rxEnable n true).regs = (d.puts [(Reg.LN_CTRL.RX_EN n, 1),
      (Reg.LN_RX_LAT.LAT n, if d.on (Reg.LN_EQ_CTRL.RSSD_EN n) then 456 else 392), (Reg.LN_EQ_STAT.ADAPT_DONE n, 0),
      (Reg.LN_SYNC_STAT.CANDS n, 0), (Reg.LN_SYNC_STAT.STATE n, 0), (Reg.LN_SYNC_STAT.MISS_RUN n, 0)]).regs ∧
    (d.rxEnable n true).line n = { d.line n with
      cands := [], mainTap := min 30 (d.fld (Reg.LN_EQ_CTRL.MAIN_TAP n)), odd := none, suspect := true } ∧
    { d.rxEnable n true with regs := d.regs, lines := d.lines } = d := by
  rw [Dev.rxEnable_on hup hwas]
  dsimp only
  generalize (if d.on (Reg.LN_EQ_CTRL.RSSD_EN n) = true then 456 else 392) = lat
  rw [Dev.setCands_nil]
  refine ⟨rfl, ?_, Dev.rest_of_offLines ?_⟩
  · refine (Tbl.get_set_same ..).trans ?_
    rw [Dev.line_setLine]
    rfl
  · simp only [Dev.offLines_put, Dev.offLines_setLine]

theorem Dev.receiving_on {d : Dev} {n : Nat} (hn : n < 4) (hrx : d.on (Reg.LN_CTRL.RX_EN n) = true) (hup : d.lnUp n = true) :
    (d.receiving n).regs = (d.puts (d.receiveWrites n)).regs ∧ (d.receiving n).line n = { d.line n with
      cands := [], mainTap := min 30 (d.fld (Reg.LN_EQ_CTRL.MAIN_TAP n)), odd := none, suspect := true } ∧
      { d.receiving n with regs := d.regs, lines := d.lines } = d := by
  obtain ⟨krssd, ktap, krst⟩ := receive_keys n hn
  have hoff : (d.put (Reg.LN_CTRL.RX_EN n) 0).on (Reg.LN_CTRL.RX_EN n) = false := by
    rw [Dev.on, Dev.fld_put_same]
    rfl
  have hrssd : (d.put (Reg.LN_CTRL.RX_EN n) 0).on (Reg.LN_EQ_CTRL.RSSD_EN n) = d.on (Reg.LN_EQ_CTRL.RSSD_EN n) := by
    rw [Dev.on, Dev.on, Dev.fld_put_ne _ _ krssd]
  obtain ⟨hregs, hline, hrest⟩ := Dev.rxEnable_starts ((d.lnUp_put krst 0 n).trans hup) hoff
  rw [hrssd] at hregs
  rw [Dev.fld_put_ne _ _ ktap] at hline
  rw [Dev.receiving, if_pos hrx, Dev.receiveWrites, Dev.puts_cons]
  generalize (d.put (Reg.LN_CTRL.RX_EN n) 0).rxEnable n true = x at *
  exact ⟨hregs, hline, (congrArg (fun z : Dev => { z with regs := d.regs }) hrest :)⟩

theorem Dev.receiving_spec (d : Dev) {n : Nat} (hn : n < 4) : d.SameRegs (d.receiving n) (receiveFlds n) ∧
    { d.receiving n with regs := d.regs, lines := d.lines } = d := by
  by_cases hrx : d.on (Reg.LN_CTRL.RX_EN n) = true
  · cases hup : d.lnUp n with
    | true =>
      obtain ⟨hregs, -, hrest⟩ := Dev.receiving_on hn hrx hup
      refine ⟨fun k hk => ?_, hrest⟩
      rw [hregs, Dev.puts_reg_ne]
      simpa [Dev.receiveWrites, receiveFlds] using hk
    | false =>
      rw [Dev.receiving, if_pos hrx, Dev.rxEnable_held ((d.lnUp_put (receive_keys n hn).2.2 0 n).trans hup)]
      exact ⟨((Dev.SameRegs.refl d _).put (by simp [receiveFlds]) _).put (by simp [receiveFlds]) _, rfl⟩
  · rw [Dev.receiving, if_neg hrx]
    exact ⟨.refl d _, rfl⟩

/-- The registers that the start of a machine sets. -/
def activateFlds (n : Nat) : List Fld := [Reg.LN_ACT_STAT.STATE n, Reg.LN_ACT_EVT.STATE_CHG n, Reg.LN_BOND_CNT.COUNT bTxStranded]

theorem Dev.Emptied.iff {n : Nat} {d e : Dev} {g : Dev → Dev} (h : Dev.Emptied n d e) (hg : ∀ x : Dev, Dev.Emptied n x (g x)) (c : Bool) :
    Dev.Emptied n d (e.iff c g) := by
  rw [Dev.iff]
  split
  · exact h.trans (hg e)
  · exact h

theorem Dev.Emptied.setState (d : Dev) (n s : Nat) : Dev.Emptied n d (d.setState n s) := by
  by_cases hs : d.actState n = s
  · rw [Dev.setState_same hs]
    exact .refl n d
  · have hd : d.setState n s = (((d.put (Reg.LN_ACT_STAT.STATE n) s).put (Reg.LN_ACT_EVT.STATE_CHG n) 1).iff (s == stO7) (·.txCut n)).iff
      (d.actState n == stO5) (·.strand n) := if_neg hs
    rw [hd]
    exact (((Dev.Emptied.put d n _ s).trans (.put _ n _ 1)).iff (fun x => .txCut x n) _).iff (fun x => .strand x n) _

/-- The state in which a machine starts. -/
def Dev.startState (d : Dev) (n : Nat) : Nat := if bitOf (d.fld Reg.PWR_LINE_ESTOP.ESTOP) n then stO7 else stO11

theorem Dev.startState_lt (d : Dev) (n : Nat) : d.startState n < 16 := by
  rw [Dev.startState]
  split <;> decide

theorem Dev.actStart_eq (d : Dev) (n : Nat) :
    d.actStart n = (d.setAct n { d.act n with hdrs := 0, lateLods := false }).setState n (d.startState n) := rfl

theorem Dev.activating_spec (d : Dev) (n : Nat) : Dev.Emptied n d (d.activating n) ∧ d.SameRegs (d.activating n) (activateFlds n) := by
  rw [Dev.activating]
  split
  · exact ⟨.refl n d, .refl d _⟩
  · split
    · exact ⟨.setAct d rfl, .refl d _⟩
    · rw [Dev.actStart_eq]
      have hact : Dev.Emptied n d (d.setAct n { d.act n with hdrs := 0, lateLods := false }) := .setAct d rfl
      exact ⟨hact.trans (.setState _ n _), (Dev.setState_spec _ (d.startState_lt n)).2.2.2⟩

theorem release_keys : ∀ n < 4,
    (∀ f ∈ [Reg.LN_CTRL.RX_EN n, Reg.LN_EQ_CTRL.RSSD_EN n, Reg.LN_EQ_CTRL.MAIN_TAP n, Reg.CHIPCAP_BLOCK_RST.LN, Reg.LN_ACT_CTRL.EN n,
      Reg.PWR_LINE_ESTOP.ESTOP, Reg.LN_ACT_STAT.STATE n], f.key ∉ ((micFlds n).map Prod.fst).map Fld.key) ∧
    (∀ f ∈ [Reg.LN_ACT_CTRL.EN n, Reg.PWR_LINE_ESTOP.ESTOP, Reg.LN_ACT_STAT.STATE n], f.key ∉ (receiveFlds n).map Fld.key) ∧
    (∀ f ∈ [Reg.LN_SYNC_STAT.STATE n, Reg.LN_SYNC_STAT.MISS_RUN n, Reg.LN_RX_LAT.LAT n], f.key ∉ (activateFlds n).map Fld.key) ∧
    ∀ x ∈ micFlds n, x.1.key ∉ (receiveFlds n).map Fld.key ∧ x.1.key ∉ (activateFlds n).map Fld.key := by decide

section Release

variable {d : Dev} {n : Nat}

/-- The channel out of reset, before what the framer and the references make of it. -/
def Dev.lnOut (d : Dev) (n : Nat) : Dev := ((d.defaultKeyed n).receiving n).activating n

theorem Dev.defaultKeyed_fld (hn : n < 4) {f : Fld} (hf : f ∈ [Reg.LN_CTRL.RX_EN n, Reg.LN_EQ_CTRL.RSSD_EN n, Reg.LN_EQ_CTRL.MAIN_TAP n,
    Reg.CHIPCAP_BLOCK_RST.LN, Reg.LN_ACT_CTRL.EN n, Reg.PWR_LINE_ESTOP.ESTOP, Reg.LN_ACT_STAT.STATE n]) : (d.defaultKeyed n).fld f = d.fld f :=
  (d.defaultKeyed_rest n).2.fld_eq ((release_keys n hn).1 f hf)

theorem Dev.received_fld (hn : n < 4) {f : Fld} (hf : f ∈ [Reg.LN_ACT_CTRL.EN n, Reg.PWR_LINE_ESTOP.ESTOP, Reg.LN_ACT_STAT.STATE n]) :
    ((d.defaultKeyed n).receiving n).fld f = d.fld f := by
  refine (((d.defaultKeyed n).receiving_spec hn).1.fld_eq ((release_keys n hn).2.1 f hf)).trans (Dev.defaultKeyed_fld hn ?_)
  simp only [List.mem_cons] at hf ⊢
  tauto

theorem Dev.lnOut_lines (d : Dev) (n m : Nat) : (d.lnOut n).line m = ((d.defaultKeyed n).receiving n).line m := by
  have h := (((d.defaultKeyed n).receiving n).activating_spec n).1.rest
  rw [Dev.lnOut]
  generalize ((d.defaultKeyed n).receiving n).activating n = x at *
  have hlines := (congrArg Dev.lines h :)
  rw [Dev.line, Dev.line, hlines]

theorem Dev.defaultKeyed_same (d : Dev) (n : Nat) : (d.defaultKeyed n).lines = d.lines ∧ (d.defaultKeyed n).acts = d.acts ∧
    (d.defaultKeyed n).chip = d.chip ∧ (d.defaultKeyed n).tenderHalt = d.tenderHalt := by
  have h := (d.defaultKeyed_rest n).1
  generalize d.defaultKeyed n = x at *
  exact ⟨(congrArg Dev.lines h :), (congrArg Dev.acts h :), (congrArg Dev.chip h :), (congrArg Dev.tenderHalt h :)⟩

theorem Dev.receiving_same (d : Dev) (hn : n < 4) : (d.receiving n).acts = d.acts ∧ (d.receiving n).chip = d.chip ∧
    (d.receiving n).tenderHalt = d.tenderHalt ∧ (d.receiving n).cph = d.cph := by
  have h := (d.receiving_spec hn).2
  generalize d.receiving n = x at *
  exact ⟨(congrArg Dev.acts h :), (congrArg Dev.chip h :), (congrArg Dev.tenderHalt h :), (congrArg Dev.cph h :)⟩

/-- A receiver that is off stays as it is. -/
theorem Dev.lnOut_off (hn : n < 4) (hrx : d.on (Reg.LN_CTRL.RX_EN n) = false) : (d.lnOut n).line n = d.line n := by
  have hrx' : (d.defaultKeyed n).on (Reg.LN_CTRL.RX_EN n) = false := by
    rw [Dev.on, Dev.defaultKeyed_fld hn (by simp)]
    exact hrx
  rw [d.lnOut_lines, Dev.receiving, if_neg (by simp [hrx']), Dev.line, (d.defaultKeyed_same n).1, Dev.line]

theorem receiveWrites_nodup : ∀ n < 4, ([Reg.LN_CTRL.RX_EN n, Reg.LN_RX_LAT.LAT n, Reg.LN_EQ_STAT.ADAPT_DONE n, Reg.LN_SYNC_STAT.CANDS n,
    Reg.LN_SYNC_STAT.STATE n, Reg.LN_SYNC_STAT.MISS_RUN n].map Fld.key).Nodup := by decide

/-- A receiver that is on starts anew. -/
theorem Dev.lnOut_on (hn : n < 4) (hrx : d.on (Reg.LN_CTRL.RX_EN n) = true) (hup : d.lnUp n = true) : (d.lnOut n).framer n = 0 ∧
    (d.lnOut n).fld (Reg.LN_SYNC_STAT.MISS_RUN n) = 0 ∧
    (d.lnOut n).fld (Reg.LN_RX_LAT.LAT n) = (if d.on (Reg.LN_EQ_CTRL.RSSD_EN n) then 456 else 392) ∧
    (d.lnOut n).line n = { d.line n with
      cands := [], mainTap := min 30 (d.fld (Reg.LN_EQ_CTRL.MAIN_TAP n)), odd := none, suspect := true } := by
  have hx {f : Fld} (hf : f ∈ [Reg.LN_CTRL.RX_EN n, Reg.LN_EQ_CTRL.RSSD_EN n, Reg.LN_EQ_CTRL.MAIN_TAP n, Reg.CHIPCAP_BLOCK_RST.LN,
      Reg.LN_ACT_CTRL.EN n, Reg.PWR_LINE_ESTOP.ESTOP, Reg.LN_ACT_STAT.STATE n]) : (d.defaultKeyed n).fld f = d.fld f := Dev.defaultKeyed_fld hn hf
  obtain ⟨hlines, -, hchip, -⟩ := d.defaultKeyed_same n
  have hact := ((d.defaultKeyed n).receiving n).activating_spec n |>.2
  have hline := d.lnOut_lines n n
  rw [Dev.lnOut] at hline ⊢
  generalize d.defaultKeyed n = x at *
  have hrx' : x.on (Reg.LN_CTRL.RX_EN n) = true := by rw [Dev.on, hx (by simp)]; exact hrx
  have hup' : x.lnUp n = true := by
    rw [Dev.lnUp, hx (by simp), Dev.lnHere, hchip]
    exact hup
  have hrssd : x.on (Reg.LN_EQ_CTRL.RSSD_EN n) = d.on (Reg.LN_EQ_CTRL.RSSD_EN n) := by rw [Dev.on, Dev.on, hx (by simp)]
  obtain ⟨hregs, hnew, -⟩ := Dev.receiving_on hn hrx' hup'
  have hwrote {y : Fld × Nat} (hy : y ∈ (x.receiveWrites n).tail) : (x.receiving n).fld y.1 = y.2 % 2 ^ y.1.w := by
    rw [Dev.fld, hregs]
    exact Dev.puts_fld (l := (x.receiveWrites n).tail) (receiveWrites_nodup n hn) (x.put (Reg.LN_CTRL.RX_EN n) 0) hy
  have hkept {f : Fld} (hf : f ∈ [Reg.LN_SYNC_STAT.STATE n, Reg.LN_SYNC_STAT.MISS_RUN n, Reg.LN_RX_LAT.LAT n]) :
      ((x.receiving n).activating n).fld f = (x.receiving n).fld f := hact.fld_eq ((release_keys n hn).2.2.1 f hf)
  refine ⟨?_, ?_, ?_, ?_⟩
  · exact (hkept (by simp)).trans (hwrote (y := (Reg.LN_SYNC_STAT.STATE n, 0)) (by simp [Dev.receiveWrites]))
  · exact (hkept (by simp)).trans (hwrote (y := (Reg.LN_SYNC_STAT.MISS_RUN n, 0)) (by simp [Dev.receiveWrites]))
  · refine ((hkept (by simp)).trans (hwrote (y := (Reg.LN_RX_LAT.LAT n, if x.on (Reg.LN_EQ_CTRL.RSSD_EN n) then 456 else 392))
      (by simp [Dev.receiveWrites]))).trans ?_
    rw [hrssd]
    split <;> rfl
  · rw [hline, hnew, hx (by simp), Dev.line, hlines, Dev.line]

/-- What the start of the receiver leaves of the machine and its Tender. -/
theorem Dev.received_machine (hn : n < 4) : let x := (d.defaultKeyed n).receiving n
    x.act n = d.act n ∧ x.actState n = d.actState n ∧ x.actEn n = d.actEn n ∧ x.tenderHere = d.tenderHere ∧ x.tenderHalt = d.tenderHalt ∧
      x.startState n = d.startState n := by
  have hfld {f : Fld} (hf : f ∈ [Reg.LN_ACT_CTRL.EN n, Reg.PWR_LINE_ESTOP.ESTOP, Reg.LN_ACT_STAT.STATE n]) :
      ((d.defaultKeyed n).receiving n).fld f = d.fld f := Dev.received_fld hn hf
  obtain ⟨-, kacts, kchip, khalt⟩ := d.defaultKeyed_same n
  obtain ⟨racts, rchip, rhalt, -⟩ := (d.defaultKeyed n).receiving_same hn
  intro x
  refine ⟨?_, hfld (by simp), ?_, ?_, rhalt.trans khalt, ?_⟩
  · rw [Dev.act, racts, kacts, Dev.act]
  · rw [Dev.actEn, Dev.actEn, Dev.on, Dev.on, hfld (by simp)]
  · rw [Dev.tenderHere, Dev.tenderHere, Dev.unit, Dev.unit, rchip, kchip]
  · rw [Dev.startState, Dev.startState, hfld (by simp)]

/-- A machine that is not enabled, or has no Tender, stays as it is. -/
theorem Dev.lnOut_idle (hn : n < 4) (h : d.actEn n = false ∨ d.tenderHere = false) :
    (d.lnOut n).act n = d.act n ∧ (d.lnOut n).actState n = d.actState n := by
  obtain ⟨hact, hstate, hen, ht, -, -⟩ := Dev.received_machine (d := d) hn
  rw [Dev.lnOut, Dev.activating, hen, ht, if_pos (by rcases h with h | h <;> simp [h])]
  exact ⟨hact, hstate⟩

/-- A machine that is enabled starts, or notes under a halted Tender that it has to. -/
theorem Dev.lnOut_starts (hn : n < 4) (hen : d.actEn n = true) (ht : d.tenderHere = true) :
    (d.tenderHalt = true → ((d.lnOut n).act n).lateEn = true ∧ (d.lnOut n).actState n = d.actState n) ∧
    (d.tenderHalt = false → (d.lnOut n).actState n = d.startState n) := by
  obtain ⟨-, hstate, hen', ht', hhalt', hstart⟩ := Dev.received_machine (d := d) hn
  rw [Dev.lnOut, Dev.activating, hen', ht', hen, ht, if_neg (by decide)]
  refine ⟨fun hhalt => ?_, fun hhalt => ?_⟩
  · rw [hhalt', hhalt, if_pos rfl]
    exact ⟨congrArg Act.lateEn (Dev.act_set ..), hstate⟩
  · rw [hhalt', hhalt, if_neg (by decide), Dev.actStart_eq, hstart]
    exact Dev.setState_state _ (d.startState_lt n)

theorem micFlds_states (n : Nat) : (Reg.CPH_SLOT_STAT.STATE (8 * n + 2), slotDefault) ∈ micFlds n ∧
    (Reg.CPH_SLOT_STAT.STATE (8 * n + 3), slotDefault) ∈ micFlds n := by
  simp [micFlds, slotFlds]

theorem Dev.lnOut_slots (hn : n < 4) (hc : d.cphLineUp = true) (ht : d.tenderHere = true) :
    (d.lnOut n).slotState (8 * n + 2) = slotDefault ∧ (d.lnOut n).slotState (8 * n + 3) = slotDefault ∧
      (d.lnOut n).key (8 * n + 2) = Config.lineDefault 2 ∧ (d.lnOut n).key (8 * n + 3) = Config.lineDefault 3 := by
  obtain ⟨hflds, hkey2, hkey3⟩ := Dev.defaultKeyed_slots (n := n) hc ht
  obtain ⟨hm2, hm3⟩ := micFlds_states n
  have hfld {y : Fld × Nat} (hy : y ∈ micFlds n) : (d.lnOut n).fld y.1 = y.2 := by
    obtain ⟨hr, ha⟩ := (release_keys n hn).2.2.2 y hy
    exact ((((d.defaultKeyed n).receiving n).activating_spec n).2.fld_eq ha).trans
      ((((d.defaultKeyed n).receiving_spec hn).1.fld_eq hr).trans (hflds y hy))
  have hcph : (d.lnOut n).cph = (d.defaultKeyed n).cph := by
    have h := (((d.defaultKeyed n).receiving n).activating_spec n).1.rest
    have hr := ((d.defaultKeyed n).receiving_same hn).2.2.2
    rw [Dev.lnOut]
    generalize ((d.defaultKeyed n).receiving n).activating n = x at *
    exact (congrArg Dev.cph h :).trans hr
  refine ⟨hfld hm2, hfld hm3, ?_, ?_⟩
  · rw [Dev.key, hcph]
    exact hkey2
  · rw [Dev.key, hcph]
    exact hkey3

end Release

/-! ### The clauses of O17 -/

/-- A bit of BLOCK_RST that turns puts its unit into reset or releases it. -/
theorem Dev.rstBit_eq (d : Dev) (was now : Bool) (hold free : Dev → Dev) : d.rstBit was now hold free =
    if was = false ∧ now = true then hold d else if was = true ∧ now = false then free d else d := by
  cases was <;> cases now <;> rfl

theorem Dev.blockRstLn_eq (d : Dev) (v : BitVec 4) : let ln := if d.worker then 15 else v.toNat
    d.blockRstLn v.toNat = ((List.range 4).filter d.lnHere).foldl (fun d' n => d'.rstBit (bitOf (d.fld Reg.CHIPCAP_BLOCK_RST.LN) n) (bitOf ln n)
      (·.lnHold n) (·.lnFree n)) (d.put Reg.CHIPCAP_BLOCK_RST.LN ln) := by
  rw [Dev.blockRstLn, Nat.mod_eq_of_lt v.isLt]
  rfl

theorem Dev.blockRstRp_eq (d : Dev) (v : BitVec 4) :
    d.blockRstRp (2 ^ 4 * v.toNat) = ((List.range 4).filter d.rpHere).foldl (fun d' p => d'.rstBit (bitOf (d.fld Reg.CHIPCAP_BLOCK_RST.RP) p)
      (bitOf v.toNat p) (·.rpHold p) (·.rpFree p)) (d.put Reg.CHIPCAP_BLOCK_RST.RP v.toNat) := by
  have hv : bits (2 ^ 4 * v.toNat) 4 4 = v.toNat := by
    have := v.isLt
    rw [bits]
    omega
  rw [Dev.blockRstRp, hv]
  rfl

theorem bits_bit (lo : Nat) (on : Bool) : bits (2 ^ lo * bit on) lo 1 = bit on ∧ bitOf (2 ^ lo * bit on) lo = on := by
  rw [bits, bitOf, Nat.mul_div_cancel_left _ (Nat.two_pow_pos lo)]
  cases on <;> exact ⟨rfl, rfl⟩

theorem unitResets (s : State) (v : BitVec 4) (on : Bool) (hup : s.dev.mainUp = true) :
    let turn : Bool → Bool → (Dev → Dev) → (Dev → Dev) → Dev → Dev := fun was now hold free d =>
      if was = false ∧ now = true then hold d else if was = true ∧ now = false then free d else d
    let bits4 : Nat → Nat → (Dev → Nat → Dev) → (Dev → Nat → Dev) → Dev → Nat → Dev := fun was now hold free d n =>
      turn (bitOf was n) (bitOf now n) (hold · n) (free · n) d
    let ln := if s.dev.worker then 15 else v.toNat
    Does (.blockRstLn v) s (((List.range 4).filter s.dev.lnHere).foldl
      (bits4 (s.dev.fld Reg.CHIPCAP_BLOCK_RST.LN) ln Dev.lnHold Dev.lnFree) (s.dev.put Reg.CHIPCAP_BLOCK_RST.LN ln)) ∧
    Does (.blockRstRp v) s (((List.range 4).filter s.dev.rpHere).foldl
      (bits4 (s.dev.fld Reg.CHIPCAP_BLOCK_RST.RP) v.toNat Dev.rpHold Dev.rpFree) (s.dev.put Reg.CHIPCAP_BLOCK_RST.RP v.toNat)) ∧
    Does (.blockRstCph on) s (turn (s.dev.on Reg.CHIPCAP_BLOCK_RST.CPH) on Dev.cphHold Dev.cphRelease
      (s.dev.put Reg.CHIPCAP_BLOCK_RST.CPH (bit on))) ∧
    Does (.blockRstHif on) s (if s.dev.hifHere = false then s.dev else
      turn (s.dev.on Reg.CHIPCAP_BLOCK_RST.HIF) on Dev.hifHold id (s.dev.put Reg.CHIPCAP_BLOCK_RST.HIF (bit on))) := by
  intro turn bits4 ln
  refine ⟨?_, ?_, ?_, ?_⟩
  · refine .of_main_eq (exec_blockRstLn s _) hup (s.dev.blockRstLn_eq v |>.trans ?_)
    simp only [Dev.rstBit_eq]
    rfl
  · refine .of_main_eq (exec_blockRstRp s _) hup (s.dev.blockRstRp_eq v |>.trans ?_)
    simp only [Dev.rstBit_eq]
    rfl
  · refine .of_main_eq (exec_blockRstCph s _) hup ?_
    rw [Dev.blockRstCph, (bits_bit 8 on).1, (bits_bit 8 on).2, Dev.rstBit_eq]
  · refine .of_main_eq (exec_blockRstHif s _) hup ?_
    rw [Dev.blockRstHif, (bits_bit 9 on).1, (bits_bit 9 on).2, Dev.rstBit_eq]
    cases s.dev.hifHere <;> rfl

/-- A line channel that enters reset, as the statement has it. -/
theorem lineChannelHeld (d : Dev) (n : Fin 4) :
    let b := 0x100000 + 0x40000 * n.val
    let inSpan : Nat → Bool := fun k => decide (b ≤ k / 32) && decide (k / 32 ≤ b + 0x2FFFF)
    let slots := (List.range 8).map (8 * n.val + ·)
    let now := d.adaptNow n
    let cut := now.txCut n
    let stranded := Reg.LN_BOND_CNT.COUNT 13
    let lost := (((cut.cancelSealed n).coach n).store.filter (·.group.isSome)).length
    ∃ e : Dev, d.lnHold n = e.lineMoved n ∧ e.act n = { loaded := (d.act n).loaded } ∧ e.coach n = {} ∧
      e.line n = { sd := (d.line n).sd, badPorts := (d.line n).badPorts, seen := if d.sdSignal n then 6 else 7 } ∧
      (∀ m, m ≠ n.val → e.act m = d.act m ∧ e.coach m = d.coach m ∧ e.line m = d.line m) ∧
      now.Resets e (fun k => !inSpan k || accOf k == .rw)
        ([(defFld n dDSD, bit (!d.sdSignal n)), (stranded, min (2 ^ stranded.w - 1) (d.fld stranded + lost)),
          (Reg.CPH_LINE_US_CTRL.CUR_IDX n, 0), (Reg.CPH_LINE_US_CTRL.SW_ARM n, 0)] ++
          (List.range 6).map (fun c => (Reg.CPH_LINE_CNT.COUNT n c, 0)) ++
          (List.range 15).map (fun w => (Reg.CPH_LINE_KEYREC.DATA n w, 0)) ++
          slots.flatMap (fun i => [(Reg.CPH_SLOT_STAT.STATE i, slotEmpty), (Reg.CPH_SLOT_STAT.SOURCE i, 0),
            (Reg.CPH_SLOT_STAT.EXH i, 0), (Reg.CPH_SLOT_CTR_LO.CTR i, 0), (Reg.CPH_SLOT_CTR_HI.CTR i, 0)])) ∧
      (∀ i ∈ slots, e.key i = 0 ∧ Tbl.get e.latch (Reg.CPH_SLOT_CTR_HI.ADR i) 0 = 0) ∧
      { e with regs := d.regs, latch := d.latch, lines := d.lines, acts := d.acts, coaches := d.coaches, tm := d.tm, cph := d.cph,
               out := d.out, freeCtr := d.freeCtr } = d := by
  intro b inSpan slots now cut stranded lost
  refine ⟨d.lnDown n, d.lnHold_eq n, (d.lnDown_act n n).trans (if_pos rfl), (d.lnDown_coach n n).trans (if_pos rfl),
    (d.lnDown_line n.isLt n).trans (if_pos rfl), fun m hm => ⟨(d.lnDown_act n m).trans (if_neg hm), (d.lnDown_coach n m).trans (if_neg hm),
      (d.lnDown_line n.isLt m).trans (if_neg hm)⟩, ?_, d.lnDown_slots n, d.lnDown_rest n⟩
  refine (d.lnDown_regs n.isLt).of_mem_iff fun x => ?_
  change x ∈ [(defFld n dDSD, bit (!d.sdSignal n)), (stranded, d.strandedTotal n), (Reg.CPH_LINE_US_CTRL.CUR_IDX n, 0),
      (Reg.CPH_LINE_US_CTRL.SW_ARM n, 0)] ++ (List.range 6).map (fun c => (Reg.CPH_LINE_CNT.COUNT n c, 0)) ++
      (List.range 15).map (fun w => (Reg.CPH_LINE_KEYREC.DATA n w, 0)) ++ (channelSlots n).flatMap (fun s => slotFlds s slotEmpty 0) ↔
    x ∈ [(defFld n dDSD, bit (!d.sdSignal n)), (stranded, d.strandedTotal n)] ++ contextFlds n
  simp only [contextFlds, lineFlds, List.mem_append, List.mem_cons, List.not_mem_nil, or_false]
  tauto

/-- Settles O17. -/
theorem unitResetKeepsConfiguration : Obligations.UnitResetKeepsConfiguration := by
  refine ⟨unitResets, fun d n => ⟨lineChannelHeld d n, d.lnOut n, d.lnFree_eq n, ?_, ?_, ?_, ?_, ?_⟩, ⟨fun d p => ?_, ?_, ?_, ?_⟩⟩
  · exact fun h => Dev.lnOut_off n.isLt h
  · intro hrx hup
    obtain ⟨hframer, hmiss, hlat, hline⟩ := Dev.lnOut_on n.isLt hrx hup
    exact ⟨hframer, by rw [hline], hmiss, by rw [hline], hlat, by rw [hline]⟩
  · exact fun h => Dev.lnOut_idle n.isLt h
  · exact fun hen ht => Dev.lnOut_starts n.isLt hen ht
  · exact fun hc ht => Dev.lnOut_slots n.isLt hc ht
  · obtain ⟨hphy, hlink, hphys, hregs, hwake, hlines, htim, hgen, hcph, hhier⟩ := d.rpDown_spec p.isLt
    exact ⟨d.rpDown p, d.rpHold_eq p, hphy, hlink, hphys, hregs, hwake, hlines, htim, hgen, hcph, hhier⟩
  · exact fun d => d.cphHold_spec
  · intro d
    obtain ⟨hregs, hkeys, hrest⟩ := d.cphRelease_spec
    exact ⟨hregs, hkeys, hrest⟩
  · intro d
    obtain ⟨hhost, hrest⟩ := d.hifHold_spec
    exact ⟨hhost, d.hifHold_regs, hrest⟩

end Sys2Proof.Machine
end

section
/-!
PROOFS. O18: a table of register contents may list a key within the word of PCIE_STAT that is no field's; a PCIe reset drops it, while the
statement has every register elsewhere kept.
-/
namespace Sys2Proof.Machine

/-- A key that lies in the second byte of PCIE_STAT's word, where no field is. -/
def strayKey : Nat := (Reg.HIF_PCIE_STAT.ADR + 1) * 32

/-! ### What the host interface does of itself -/

/-- A field of a register, which lies at a whole word. -/
def Fld.atWord (g : Fld) : Prop := g.adr % 4 = 0 ∧ g.lo < 32

theorem ringFlds_atWord (r k : Nat) : (Reg.HIF_RING_IDX.IDX r).atWord ∧ (Reg.HIF_RING_STAT.STATUS r).atWord ∧ (Reg.HIF_RING_STAT.HALTED r).atWord ∧
    (Reg.HIF_RING_ERR_IDX.IDX r).atWord ∧ (Reg.HIF_RING_CNT.COUNT r k).atWord := by
  simp only [Fld.atWord, Reg.HIF_RING_IDX.IDX, Reg.HIF_RING_STAT.STATUS, Reg.HIF_RING_STAT.HALTED, Reg.HIF_RING_ERR_IDX.IDX,
    Reg.HIF_RING_CNT.COUNT]
  omega

/-- What the rings' own work leaves of the device: everything but rings, queues and output, and of the registers the stray key. -/
structure Dev.RingsWorked (d e : Dev) : Prop where
  stray : Tbl.get e.regs strayKey 0 = Tbl.get d.regs strayKey 0
  chip : e.chip = d.chip
  hier : e.hier = d.hier
  cko : e.cko = d.cko
  tru : e.tru = d.tru
  stamps : e.host.stamps = d.host.stamps

namespace Dev.RingsWorked

variable {d e f : Dev}

theorem refl (d : Dev) : d.RingsWorked d := ⟨rfl, rfl, rfl, rfl, rfl, rfl⟩

theorem trans (h : d.RingsWorked e) (h' : e.RingsWorked f) : d.RingsWorked f :=
  ⟨h'.stray.trans h.stray, h'.chip.trans h.chip, h'.hier.trans h.hier, h'.cko.trans h.cko, h'.tru.trans h.tru, h'.stamps.trans h.stamps⟩

theorem each {α : Type} {g : Dev → α → Dev} (h : ∀ (d : Dev) x, d.RingsWorked (g d x)) (l : List α) (d : Dev) : d.RingsWorked (d.each l g) := by
  induction l generalizing d with
  | nil => exact refl d
  | cons x l ih => exact (h d x).trans (ih (g d x))

theorem put {g : Fld} (hg : g.atWord) (d : Dev) (v : Nat) : d.RingsWorked (d.put g v) := by
  obtain ⟨hadr, hlo⟩ := hg
  have hne : strayKey ≠ g.key := by
    simp only [strayKey, Fld.key, Reg.HIF_PCIE_STAT.ADR]
    omega
  exact ⟨Tbl.get_set_ne _ _ _ hne, rfl, rfl, rfl, rfl, rfl⟩

theorem setRing (d : Dev) (r : Nat) (x : RingSt) : d.RingsWorked (d.setRing r x) := ⟨rfl, rfl, rfl, rfl, rfl, rfl⟩

theorem setDom (d : Dev) (k : Nat) (x : Dom) : d.RingsWorked (d.setDom k x) := ⟨rfl, rfl, rfl, rfl, rfl, rfl⟩

theorem emit (d : Dev) (x : Emit) : d.RingsWorked (d.emit x) := ⟨rfl, rfl, rfl, rfl, rfl, rfl⟩

theorem release (d : Dev) (x : Frame) : d.RingsWorked (d.release x) := by
  obtain ⟨t, ht⟩ := d.release_tm x
  rw [ht]
  exact ⟨rfl, rfl, rfl, rfl, rfl, rfl⟩

theorem iff {g : Dev → Dev} (h : d.RingsWorked e) (hg : ∀ x : Dev, x.RingsWorked (g x)) (c : Bool) : d.RingsWorked (e.iff c g) := by
  rw [Dev.iff]
  split
  · exact h.trans (hg e)
  · exact h

theorem moveIdx (d : Dev) (r n : Nat) : d.RingsWorked (d.moveIdx r n) := by
  rw [Dev.moveIdx]
  split
  · exact refl d
  · exact (put (ringFlds_atWord r 0).1 d _).trans (setDom _ _ _)

theorem recordsOut (r n : Nat) (d : Dev) : d.RingsWorked (d.recordsOut r n) := by
  induction n generalizing d with
  | zero => exact refl d
  | succ n ih =>
    rw [Dev.recordsOut]
    dsimp only
    split
    · exact refl d
    · split
      · exact (((setRing d r _).trans (emit _ _)).trans (moveIdx _ r 1)).trans (ih _)
      · exact refl d

theorem record (d : Dev) (r : Nat) (w : List Nat) : d.RingsWorked (d.record r w) := (setRing d r _).trans (recordsOut r _ _)

theorem haltRecs (r n : Nat) (d : Dev) : d.RingsWorked (d.haltRecs r n) := by
  induction n generalizing d with
  | zero => exact refl d
  | succ n ih =>
    rw [Dev.haltRecs]
    dsimp only
    split
    · exact refl d
    · split
      · exact (((setRing d r _).trans (setRing _ r _)).trans (record _ r _)).trans (ih _)
      · exact refl d

theorem rxNext (d : Dev) (r : Nat) : d.RingsWorked (d.rxNext r) := by
  rw [Dev.rxNext]
  dsimp only
  split
  · exact refl d
  · exact ((release d _).trans (setRing _ _ _)).trans (setRing _ r _)

theorem count (d : Dev) (r k n : Nat) : d.RingsWorked (d.bumpBy (Reg.HIF_RING_CNT.COUNT r k) n) := put (ringFlds_atWord r k).2.2.2.2 d _

theorem rxDrop (d : Dev) (r : Nat) : d.RingsWorked (d.rxDrop r) := by
  rw [Dev.rxDrop]
  dsimp only
  split
  · exact refl d
  · split
    · exact ((((record d _ _).trans (moveIdx _ r _)).trans (count _ r 3 _)).trans (setRing _ r _)).trans (rxNext _ r)
    · exact (setRing d r _).trans (rxNext _ r)

theorem fetchDrop (d : Dev) (r : Nat) : d.RingsWorked (d.fetchDrop r) := by
  rw [Dev.fetchDrop]
  split
  · exact (setRing d r _).trans (setRing _ _ _)
  · exact refl d

theorem haltRing (d : Dev) (r status idx : Nat) : d.RingsWorked (d.haltRing r status idx) := by
  obtain ⟨-, hstatus, hhalted, herr, -⟩ := ringFlds_atWord r 0
  have hmarks : d.RingsWorked (((((d.fetchDrop r).put (Reg.HIF_RING_STAT.STATUS r) status).put (Reg.HIF_RING_STAT.HALTED r) 1).put
      (Reg.HIF_RING_ERR_IDX.IDX r) idx).ev Reg.HIF_EVT.RING_HALT) :=
    ((((fetchDrop d r).trans (put hstatus _ _)).trans (put hhalted _ _)).trans (put herr _ _)).trans (put ⟨rfl, by decide⟩ _ _)
  rw [Dev.haltRing]
  dsimp only
  split
  · exact hmarks
  · exact (hmarks.trans (setRing _ _ _)).trans (haltRecs _ 1 _)

theorem rxStep (d : Dev) (r : Nat) : d.RingsWorked (d.rxStep r).1 := by
  rw [Dev.rxStep]
  dsimp only
  generalize (if d.on (Reg.HIF_RING_CFG.TS_EN r) = true then 2 else 1) = need
  split
  · exact refl d
  next f _ _ =>
    split
    · exact rxDrop d r
    · split
      · exact refl d
      · split
        · split
          · exact (setRing d _ _).trans (setRing _ r _)
          · exact refl d
        · split
          · exact (((((record d _ _).iff (fun x => record x _ _) _).trans (moveIdx _ r _)).trans (count _ r 0 1)).trans (setRing _ r _)).trans
              (rxNext _ r)
          · split
            · exact (rxDrop d r).trans (count _ r 2 1)
            · split
              · exact refl d
              · split
                · exact ((setRing d r _).trans (rxNext _ r)).trans (haltRing _ r _ _)
                · split
                  · exact (emit d _).trans (setRing _ r _)
                  · exact refl d

theorem rxWork (r n : Nat) (d : Dev) : d.RingsWorked (d.rxWork r n) := by
  induction n generalizing d with
  | zero => exact refl d
  | succ n ih =>
    have h := rxStep d r
    rw [Dev.rxWork]
    split
    next d1 heq =>
      rw [heq] at h
      exact h.trans (ih d1)
    next d1 heq =>
      rw [heq] at h
      exact h

theorem rxRun (d : Dev) (r : Nat) : d.RingsWorked (d.rxRun r) := rxWork r _ d

theorem flushHost (d : Dev) : d.RingsWorked d.flushHost :=
  (each (fun d e => (recordsOut e _ d).trans (haltRecs e _ _)) _ _).trans (each (fun d r => rxRun d r) _ _)

end Dev.RingsWorked

/-! ### What follows a command on a device that has nothing of its own to do -/

/-- No host interface and no riser ports, nothing to report and nothing that waits, but for what rings and queues may hold. -/
structure Dev.Bare (d : Dev) : Prop where
  noHif : d.hifHere = false
  noRisers : d.chip.units1 = 0
  stamps : d.host.stamps = []
  loop : d.hier.loop = []
  cko : d.cko = []
  locked : d.tru.shadow.debugLock = true
  opened : d.tru.opened = 0
  summary : d.hier.summary = 2 ^ 16 - 1

namespace Dev.Bare

variable {d e : Dev}

theorem worked (h : d.Bare) (hw : d.RingsWorked e) : e.Bare := by
  obtain ⟨-, hchip, hhier, hcko, htru, hstamps⟩ := hw
  refine ⟨?_, by rw [hchip]; exact h.noRisers, by rw [hstamps]; exact h.stamps, by rw [hhier]; exact h.loop, by rw [hcko]; exact h.cko,
    by rw [htru]; exact h.locked, by rw [htru]; exact h.opened, by rw [hhier]; exact h.summary⟩
  rw [Dev.hifHere, Dev.unit, hchip]
  exact h.noHif

theorem hostPump (h : d.Bare) (k n : Nat) : d.hostPump k n = d := by
  cases n with
  | zero => rfl
  | succ n => rw [Dev.hostPump, if_pos (by simp [Dev.hifUp, h.noHif])]

theorem hostPorts (h : d.Bare) : d.hostPorts = d := by
  rw [Dev.hostPorts]
  split
  · have hk (k : Nat) : d.hostPump k 256 = d := h.hostPump k 256
    simp only [Dev.each, show List.range 4 = [0, 1, 2, 3] from rfl, List.foldl_cons, List.foldl_nil, hk]
  · rfl

theorem hostStep (h : d.Bare) : d.RingsWorked d.hostStep := by
  have hflush := Dev.RingsWorked.flushHost d
  have hbare := h.worked hflush
  rw [Dev.hostStep, hbare.hostPorts, hbare.stamps]
  exact hflush

theorem hostRounds (n : Nat) (h : d.Bare) : d.RingsWorked (d.hostRounds n) := by
  induction n generalizing d with
  | zero => exact .refl d
  | succ n ih =>
    rw [Dev.hostRounds]
    split
    · exact h.hostStep
    · exact h.hostStep.trans (ih (h.worked h.hostStep))

theorem hostStage (h : d.Bare) : d.RingsWorked d.hostStage := by
  rw [Dev.hostStage]
  split
  · rw [h.hostPorts]
    exact .refl d
  · exact h.hostRounds _

theorem downDrop (h : d.chip.units1 = 0) (p n : Nat) : d.downDrop p n = d := by
  have hno : d.rpHere p = false := by
    rw [Dev.rpHere, h, bitOf, Nat.zero_div]
    exact Bool.and_false _
  cases n with
  | zero => rfl
  | succ n => rw [Dev.downDrop, if_pos (by simp [hno])]

/-- The interrupt summary evaluated again. -/
theorem settle (h : d.Bare) : ∃ e, d.RingsWorked e ∧ d.settle = e.setHier { e.hier with summary := e.irqOut } := by
  refine ⟨d.hostStage, h.hostStage, ?_⟩
  have hb := h.worked h.hostStage
  have hb' : (d.hostStage.setHier { d.hostStage.hier with summary := d.hostStage.irqOut }).hier.loop = [] := hb.loop
  rw [Dev.settle, Dev.drain_of_loop hb.loop, Dev.ckoWatch_of_locked hb.cko hb.locked hb.opened, Dev.irqs_of_reported hb.summary]
  dsimp only
  rw [Dev.drain_of_loop hb']
  split
  · rfl
  · have hk (p : Nat) := downDrop (d := d.hostStage.setHier { d.hostStage.hier with summary := d.hostStage.irqOut }) hb.noRisers p 64
    simp only [Dev.each, show List.range 4 = [0, 1, 2, 3] from rfl, List.foldl_cons, List.foldl_nil, hk]

/-- What follows a command leaves the stray key as it is. -/
theorem after_stray (h : d.Bare) : Tbl.get d.after.regs strayKey 0 = Tbl.get d.regs strayKey 0 := by
  rw [Dev.after]
  split
  · obtain ⟨e, hw, he⟩ := h.settle
    rw [he]
    exact hw.stray
  · rfl

end Dev.Bare

/-! ### The counterexample -/

/-- A device with a PCIe endpoint, no host interface and no riser ports, whose table of register contents lists the stray key. -/
def strayReg : Dev :=
  { chip := { units0 := 2 ^ 11, units1 := 0 }, regs := [(strayKey, 1)], hier := { summary := 2 ^ 16 - 1 }, tru := { shadow := { debugLock := true } } }

theorem strayReg_bare : strayReg.Bare := ⟨by decide, rfl, rfl, rfl, rfl, rfl, rfl, rfl⟩

theorem strayReg_pcieReset_atRest : strayReg.pcieReset.AtRest := by
  exact ⟨by decide, by decide, by decide, by decide, by decide, by decide, by decide, by decide, by decide⟩

theorem strayReg_spec : strayReg.mainUp = true ∧ strayReg.pcieHere = true ∧ (List.range 16).filter (fun k => strayReg.bind k == 2) = [] ∧
    strayReg.pcieReset.regs = [] ∧ Reg.rst strayKey = 0 ∧ strayReg.on Reg.HIF_PCIE_STAT.LINK_UP = false := by decide

/-- Refutes O18: a PCIe reset drops what the table lists at a key inside the word of PCIE_STAT, which the statement does not count to it. -/
theorem not_pcieResetStopsItsRings : ¬ Obligations.PcieResetStopsItsRings := by
  intro h
  obtain ⟨hup, hpcie, hmine, hcleared, hrst, hlink⟩ := strayReg_spec
  obtain ⟨-, hreset⟩ := h { dev := strayReg } .pcieReset hup (.inl rfl)
  obtain ⟨d, hd, hregs, -, -, hstamps, -, hrest⟩ := hreset hpcie
  have hchip : d.chip = strayReg.chip := (congrArg Dev.chip hrest :)
  have hhier : d.hier = strayReg.hier := (congrArg Dev.hier hrest :)
  have hcko : d.cko = strayReg.cko := (congrArg Dev.cko hrest :)
  have htru : d.tru = strayReg.tru := (congrArg Dev.tru hrest :)
  have hbare : d.Bare := by
    obtain ⟨hhif, hrp, -, hloop, hk, hlocked, hopened, hsummary⟩ := strayReg_bare
    exact ⟨by rw [Dev.hifHere, Dev.unit, hchip]; exact hhif, by rw [hchip]; exact hrp, hstamps, by rw [hhier]; exact hloop, by rw [hcko]; exact hk,
      by rw [htru]; exact hlocked, by rw [htru]; exact hopened, by rw [hhier]; exact hsummary⟩
  have hkept : Tbl.get d.regs strayKey 0 = 1 := by
    have hk := hregs.2 strayKey (by rw [hlink]; decide)
    rw [hmine, hrst] at hk
    exact hk
  have hdone : Does .pcieReset { dev := strayReg } strayReg.pcieReset := .of_main_eq (exec_pcieReset _) hup (if_pos hpcie)
  have hafter : d.after = strayReg.pcieReset.after := by
    have hn := hd.symm.trans hdone
    injection hn with hn
    exact congrArg State.dev hn
  have hgone : Tbl.get d.after.regs strayKey 0 = 0 := by
    rw [hafter, strayReg_pcieReset_atRest.after_regs, hcleared]
    rfl
  rw [hbare.after_stray, hkept] at hgone
  exact absurd hgone (by decide)

end Sys2Proof.Machine
end

section
/-!
PROOFS. O31: bandwidth maps taken up and placed (spec/03, R99 to R102), bursts sealed (R106) and sent (R107), shares filled (R104) and Siding
reads done (R105, R209).
-/
namespace Sys2Proof.Machine

open Reg (rst)

/-! ### Counters of a channel's activation machine -/

/-- A saturating counter has counted `k` more; one that counted nothing is as it was. -/
def Dev.Plus (d e : Dev) (f : Fld) (k : Nat) : Prop := e.fld f = if k = 0 then d.fld f else min (2 ^ f.w - 1) (d.fld f + k)

theorem Dev.Plus.of_eq {d e : Dev} {f : Fld} (h : e.fld f = d.fld f) : d.Plus e f 0 := h

theorem Dev.Plus.bump {d e : Dev} {f : Fld} {k : Nat} (h : d.Plus e f k) : d.Plus (e.bump f) f (k + 1) := by
  rw [Dev.Plus] at h ⊢
  have hlt : 0 < 2 ^ f.w := Nat.two_pow_pos _
  rw [Dev.bump, Dev.bumpBy, Dev.fld_put_same, h, Nat.mod_eq_of_lt (by omega), if_neg (Nat.succ_ne_zero k)]
  split <;> omega

theorem Dev.Plus.congr {d e e' : Dev} {f : Fld} {k : Nat} (h : d.Plus e f k) (he : e'.fld f = e.fld f) : d.Plus e' f k := he.trans h

theorem actCnt_key_ne (n : Nat) {c c' : Nat} (h : c ≠ c') : (Reg.LN_ACT_CNT.COUNT n c).key ≠ (Reg.LN_ACT_CNT.COUNT n c').key := by
  simp only [Fld.key, Reg.LN_ACT_CNT.COUNT]
  omega

/-- A register that is none of channel `n`'s counters. -/
def Fld.offCounts (n : Nat) (f : Fld) : Prop := ∀ c < 18, f.key ≠ (Reg.LN_ACT_CNT.COUNT n c).key

/-- Channel `n`'s counters have counted `t`, and of the other registers only those of `ks` have changed. -/
structure Dev.Tally (n : Nat) (ks : List Fld) (d e : Dev) (t : Nat → Nat) : Prop where
  counts : ∀ c < 18, d.Plus e (Reg.LN_ACT_CNT.COUNT n c) (t c)
  others : ∀ k, k ∉ ks.map Fld.key → (∀ c < 18, k ≠ (Reg.LN_ACT_CNT.COUNT n c).key) → Tbl.get e.regs k (rst k) = Tbl.get d.regs k (rst k)

namespace Dev.Tally

variable {n : Nat} {ks : List Fld} {d e e' : Dev} {t : Nat → Nat}

theorem refl (n : Nat) (ks : List Fld) (d : Dev) : Tally n ks d d 0 := ⟨fun _ _ => .of_eq rfl, fun _ _ _ => rfl⟩

theorem of_regs (h : Tally n ks d e t) (he : e'.regs = e.regs) : Tally n ks d e' t :=
  ⟨fun c hc => (h.counts c hc).congr (by rw [Dev.fld, he, ← Dev.fld]), fun k hk hc => by rw [he]; exact h.others k hk hc⟩

/-- One more is counted. -/
theorem count (h : Tally n ks d e t) (c : Nat) (hc : c < 18) : Tally n ks d (e.actCnt n c 1) (t + Pi.single c 1) := by
  refine ⟨fun x hx => ?_, fun k hk hx => ?_⟩
  · by_cases hxc : x = c
    · subst hxc
      rw [Pi.add_apply, Pi.single_eq_same]
      exact (h.counts x hx).bump
    · rw [Pi.add_apply, Pi.single_eq_of_ne hxc, Nat.add_zero]
      exact (h.counts x hx).congr (Dev.fld_put_ne _ _ (actCnt_key_ne n hxc))
  · exact (Tbl.get_set_ne _ _ _ (hx c hc)).trans (h.others k hk hx)

theorem put (h : Tally n ks d e t) {f : Fld} (hf : f ∈ ks) (hc : f.offCounts n) (v : Nat) : Tally n ks d (e.put f v) t :=
  ⟨fun c hlt => (h.counts c hlt).congr (Dev.fld_put_ne _ _ (hc c hlt).symm),
    fun k hk hx => (Tbl.get_set_ne _ _ _ fun he => hk (by rw [he]; exact List.mem_map_of_mem hf)).trans (h.others k hk hx)⟩

theorem fld_eq (h : Tally n ks d e t) {f : Fld} (hf : f.key ∉ ks.map Fld.key) (hc : f.offCounts n) : e.fld f = d.fld f := h.others f.key hf hc

theorem mono {ks' : List Fld} (h : Tally n ks d e t) (hks : ks ⊆ ks') : Tally n ks' d e t :=
  ⟨h.counts, fun k hk => h.others k fun hm => hk (List.map_subset _ hks hm)⟩

/-- Only what is listed has changed, where it lists each counter that counted. -/
theorem sameRegs (h : Tally n ks d e t) {l : List Fld} (hks : ks ⊆ l) (hc : ∀ c < 18, t c = 0 ∨ Reg.LN_ACT_CNT.COUNT n c ∈ l) : d.SameRegs e l := by
  intro k hk
  by_cases hx : ∃ c < 18, k = (Reg.LN_ACT_CNT.COUNT n c).key
  · obtain ⟨c, hlt, rfl⟩ := hx
    have hzero : t c = 0 := (hc c hlt).resolve_right fun hm => hk (List.mem_map_of_mem hm)
    have hcount := h.counts c hlt
    rw [hzero] at hcount
    exact hcount
  · push Not at hx
    exact h.others k (fun hm => hk (List.map_subset _ hks hm)) hx

end Dev.Tally

/-! ### What a bandwidth map reads -/

/-- Channel `n`'s registers that a map goes by are no counters. -/
theorem offCounts_act (n : Nat) : (Reg.LN_ACT_STAT.STATE n).offCounts n ∧ (Reg.LN_ACT_STAT.ONU_ID_VALID n).offCounts n ∧
    (Reg.LN_ACT_STAT.ONU_ID n).offCounts n ∧ (Reg.LN_BWM_CTRL.HEC_ACCEPT n).offCounts n ∧ (∀ i, (Reg.LN_ALLOC.VALID n i).offCounts n) ∧
    ∀ i, (Reg.LN_ALLOC.ALLOC_ID n i).offCounts n := by
  simp only [Fld.offCounts, Fld.key, Reg.LN_ACT_CNT.COUNT, Reg.LN_ACT_STAT.STATE, Reg.LN_ACT_STAT.ONU_ID_VALID, Reg.LN_ACT_STAT.ONU_ID,
    Reg.LN_BWM_CTRL.HEC_ACCEPT, Reg.LN_ALLOC.VALID, Reg.LN_ALLOC.ALLOC_ID]
  refine ⟨?_, ?_, ?_, ?_, ?_, ?_⟩ <;> intros <;> omega

theorem offCounts_place {n : Nat} (_ : n < 4) : (Reg.LN_US_CFG.RATE n).offCounts n ∧ (Reg.LN_US_CFG.WORD n).offCounts n ∧
    (Reg.LN_CB_TIMING.TXBE_LEAD n).offCounts n ∧ (Reg.LN_CB_TIMING.TXBE_LAG n).offCounts n ∧ (Reg.LN_ACT_CTRL.SN_RAND_MAX n).offCounts n ∧
    (Reg.LN_SFC_LO.SFC n).offCounts n ∧ (Reg.LN_SFC_HI.SFC n).offCounts n ∧ (Reg.CPH_LINE_US_CTRL.CUR_IDX n).offCounts n ∧
    Reg.TRU_RNG_STAT.HEALTH_OK.offCounts n := by
  simp only [Fld.offCounts, Fld.key, Reg.LN_ACT_CNT.COUNT, Reg.LN_US_CFG.RATE, Reg.LN_US_CFG.WORD, Reg.LN_CB_TIMING.TXBE_LEAD,
    Reg.LN_CB_TIMING.TXBE_LAG, Reg.LN_ACT_CTRL.SN_RAND_MAX, Reg.LN_SFC_LO.SFC, Reg.LN_SFC_HI.SFC, Reg.CPH_LINE_US_CTRL.CUR_IDX,
    Reg.TRU_RNG_STAT.HEALTH_OK]
  refine ⟨?_, ?_, ?_, ?_, ?_, ?_, ?_, ?_, ?_⟩ <;> intros <;> omega

/-- A structure's integrity check lets it pass (R101). -/
def Dev.passes (d : Dev) (n : Nat) (g : Grant) : Bool := g.hec == .good || g.hec == .corrected && d.on (Reg.LN_BWM_CTRL.HEC_ACCEPT n)

/-- The allocation that a structure gives. -/
def Dev.mapAlloc (d : Dev) (n : Nat) (g : Grant) : BAlloc :=
  { alloc := g.alloc, kind := (d.grantKind n g).getD 0, size := g.size, dbru := g.dbru }

section

variable {n : Nat} {d e : Dev} {t : Nat → Nat}

theorem Dev.grantKind_congr (h : Dev.Tally n [] d e t) (g : Grant) : e.grantKind n g = d.grantKind n g := by
  obtain ⟨hstate, hvalid, honu, -, halloc, hid⟩ := offCounts_act n
  have hf {f : Fld} (hc : f.offCounts n) : e.fld f = d.fld f := h.fld_eq (List.not_mem_nil) hc
  have hon (f : Fld) (hc : f.offCounts n) : e.on f = d.on f := by rw [Dev.on, Dev.on, hf hc]
  have hfind : e.allocFind n g.alloc = d.allocFind n g.alloc := by
    simp only [Dev.allocFind, Dev.allocEntries, hon _ (halloc _), hf (hid _)]
  rw [Dev.grantKind, Dev.grantKind, Dev.actState, Dev.actState, hf hstate, hon _ hvalid, hf honu, hfind]

theorem Dev.passes_congr (h : Dev.Tally n [] d e t) (g : Grant) : e.passes n g = d.passes n g := by
  rw [Dev.passes, Dev.passes, Dev.on, Dev.on, h.fld_eq List.not_mem_nil (offCounts_act n).2.2.2.1]

theorem Dev.mapAlloc_congr (h : Dev.Tally n [] d e t) : e.mapAlloc n = d.mapAlloc n := by
  funext g
  rw [Dev.mapAlloc, Dev.mapAlloc, Dev.grantKind_congr h]

end

/-! ### Structures taken up (R101, R102) -/

/-- A structure joins the latest burst that it continues, or opens one (newest first). -/
def addGrant (al : Grant → BAlloc) (acc : List MapBurst) (g : Grant) : List MapBurst :=
  if g.cont ∧ acc ≠ [] then
    match acc with
    | b :: r => { b with allocs := b.allocs ++ [al g] } :: r
    | [] => []
  else { first := g, allocs := [al g] } :: acc

theorem addGrant_join (al : Grant → BAlloc) (b : MapBurst) (r : List MapBurst) {g : Grant} (h : g.cont = true) :
    addGrant al (b :: r) g = { b with allocs := b.allocs ++ [al g] } :: r := if_pos ⟨h, List.cons_ne_nil b r⟩

theorem addGrant_open (al : Grant → BAlloc) {acc : List MapBurst} {g : Grant} (h : ¬ (g.cont = true ∧ acc ≠ [])) :
    addGrant al acc g = { first := g, allocs := [al g] } :: acc := if_neg h

/-- A structure that is one of the device's is taken up. -/
def takesUp (taken : Nat) (open_ : Bool) (acc : List MapBurst) (g : Grant) : Bool :=
  decide (taken < 64) && if g.cont ∧ acc ≠ [] then open_ else decide (acc.length < 16)

section

variable (d : Dev) (n : Nat) (r : List Grant) (taken : Nat) (open_ : Bool) (acc : List MapBurst) {g : Grant}

theorem Dev.mapTake_failed (h : d.passes n g = false) :
    d.mapTake n (g :: r) taken open_ acc = (d.actCnt n 8 1).mapTake n r taken open_ acc := by
  rw [Dev.passes] at h
  rw [Dev.mapTake]
  cases hg : g.hec <;> simp_all

theorem Dev.mapTake_foreign (h : d.passes n g = true) (hk : d.grantKind n g = none) :
    d.mapTake n (g :: r) taken open_ acc = d.mapTake n r taken open_ acc := by
  rw [Dev.passes] at h
  rw [Dev.mapTake]
  cases hg : g.hec <;> simp_all

theorem Dev.mapTake_own (h : d.passes n g = true) (hk : (d.grantKind n g).isSome = true) :
    d.mapTake n (g :: r) taken open_ acc = if takesUp taken open_ acc g
      then (d.actCnt n 7 1).mapTake n r (taken + 1) true (addGrant (d.mapAlloc n) acc g)
      else (d.actCnt n 9 1).mapTake n r taken false acc := by
  obtain ⟨k, hk⟩ := Option.isSome_iff_exists.1 hk
  have hal : d.mapAlloc n g = { alloc := g.alloc, kind := k, size := g.size, dbru := g.dbru } := by rw [Dev.mapAlloc, hk]; rfl
  rw [Dev.passes] at h
  rw [Dev.mapTake, if_neg (by cases hg : g.hec <;> simp_all), hk, takesUp]
  dsimp only
  by_cases hfull : 64 ≤ taken
  · rw [if_pos hfull, decide_eq_false (by omega), Bool.false_and, if_neg Bool.false_ne_true]
  rw [if_neg hfull, decide_eq_true (by omega), Bool.true_and]
  by_cases hc : g.cont = true ∧ acc ≠ []
  · rw [if_pos hc, if_pos hc]
    cases acc with
    | nil => exact absurd rfl hc.2
    | cons b l => rw [addGrant_join _ b l hc.1, hal]
  · rw [if_neg hc, if_neg hc, addGrant_open _ hc, hal]
    by_cases hroom : 16 ≤ acc.length
    · rw [if_pos hroom, decide_eq_false (by omega), if_neg Bool.false_ne_true]
    · rw [if_neg hroom, decide_eq_true (by omega), if_pos rfl]

end

theorem addGrant_length (al : Grant → BAlloc) (acc : List MapBurst) (g : Grant) :
    (addGrant al acc g).length = if g.cont = true ∧ acc ≠ [] then acc.length else acc.length + 1 := by
  split
  next hc =>
    obtain ⟨b, r, rfl⟩ := List.exists_cons_of_ne_nil hc.2
    rw [addGrant_join _ b r hc.1]
    rfl
  next hc => rw [addGrant_open _ hc, List.length_cons]

/-- Structures taken up never take a burst away. -/
theorem le_length_grants (al : Grant → BAlloc) (m : List Grant) (acc : List MapBurst) : acc.length ≤ (m.foldl (addGrant al) acc).length := by
  induction m generalizing acc with
  | nil => exact le_rfl
  | cons g m ih =>
    refine le_trans ?_ (ih _)
    rw [addGrant_length]
    split <;> omega

/-- The structures of a map that pass their check and are the device's, and how many fail it. -/
def Dev.ownGrants (d : Dev) (n : Nat) (l : List Grant) : List Grant := l.filter (fun g => d.passes n g && (d.grantKind n g).isSome)
def Dev.failedGrants (d : Dev) (n : Nat) (l : List Grant) : Nat := (l.filter (fun g => !d.passes n g)).length

/-- Structures counted as taken up, failed and in excess. -/
def mapCounts (a u x : Nat) : Nat → Nat := Pi.single 7 a + Pi.single 8 u + Pi.single 9 x

theorem mapCounts_add (a u x a' u' x' : Nat) : mapCounts a u x + mapCounts a' u' x' = mapCounts (a + a') (u + u') (x + x') := by
  simp only [mapCounts, Pi.single_add]
  abel

theorem mapCounts_one : mapCounts 1 0 0 = Pi.single 7 1 ∧ mapCounts 0 1 0 = Pi.single 8 1 ∧ mapCounts 0 0 1 = Pi.single 9 1 := by
  simp only [mapCounts, Pi.single_zero, add_zero, zero_add, and_self]

theorem mapCounts_zero : mapCounts 0 0 0 = 0 := by
  simp only [mapCounts, Pi.single_zero, add_zero]

/-- What taking up a map's structures does: of `m` own ones `a` are taken up, and all where there is room for them all. -/
structure Dev.TakenUp (d0 : Dev) (n : Nat) (d : Dev) (t : Nat → Nat) (l : List Grant) (taken : Nat) (open_ : Bool) (acc : List MapBurst)
    (x : Dev × List MapBurst) (a : Nat) : Prop where
  few : taken + a ≤ 64
  le : a ≤ (d0.ownGrants n l).length
  counts : Dev.Tally n [] d0 x.1 (t + mapCounts a (d0.failedGrants n l) ((d0.ownGrants n l).length - a))
  rest : { x.1 with regs := d.regs } = d
  bursts : x.2.length ≤ 16
  all : (acc ≠ [] → open_ = true) → taken + (d0.ownGrants n l).length ≤ 64 →
    ((d0.ownGrants n l).foldl (addGrant (d0.mapAlloc n)) acc).length ≤ 16 →
    a = (d0.ownGrants n l).length ∧ x.2 = ((d0.ownGrants n l).foldl (addGrant (d0.mapAlloc n)) acc).reverse

namespace Dev.TakenUp

variable {d0 d : Dev} {n taken a : Nat} {t : Nat → Nat} {l : List Grant} {open_ : Bool} {acc : List MapBurst} {x : Dev × List MapBurst} {g : Grant}

theorem nil (h : Dev.Tally n [] d0 d t) (htaken : taken ≤ 64) (hacc : acc.length ≤ 16) :
    d0.TakenUp n d t [] taken open_ acc (d, acc.reverse) 0 := by
  refine ⟨htaken, Nat.zero_le _, ?_, rfl, by rwa [List.length_reverse], fun _ _ _ => ⟨rfl, rfl⟩⟩
  rw [show d0.failedGrants n [] = 0 from rfl, Nat.sub_zero, show (d0.ownGrants n []).length = 0 from rfl, mapCounts_zero, add_zero]
  exact h

theorem failed (hp : d0.passes n g = false) (hx : d0.TakenUp n (d.actCnt n 8 1) (t + Pi.single 8 1) l taken open_ acc x a) :
    d0.TakenUp n d t (g :: l) taken open_ acc x a := by
  have hown : d0.ownGrants n (g :: l) = d0.ownGrants n l := List.filter_cons_of_neg (by simp [hp])
  have hfail : d0.failedGrants n (g :: l) = 1 + d0.failedGrants n l := by
    rw [Dev.failedGrants, List.filter_cons_of_pos (by simp [hp]), List.length_cons, Nat.add_comm]
    rfl
  have hc := hx.counts
  rw [← mapCounts_one.2.1, add_assoc, mapCounts_add, Nat.zero_add, Nat.zero_add, ← hfail] at hc
  refine ⟨hx.few, ?_, ?_, congrArg (fun e : Dev => { e with regs := d.regs }) hx.rest, hx.bursts, ?_⟩ <;> rw [hown]
  · exact hx.le
  · exact hc
  · exact hx.all

theorem foreign (hp : d0.passes n g = true) (hk : (d0.grantKind n g).isSome = false) (hx : d0.TakenUp n d t l taken open_ acc x a) :
    d0.TakenUp n d t (g :: l) taken open_ acc x a := by
  have hown : d0.ownGrants n (g :: l) = d0.ownGrants n l := List.filter_cons_of_neg (by simp [hk])
  have hfail : d0.failedGrants n (g :: l) = d0.failedGrants n l := by
    rw [Dev.failedGrants, List.filter_cons_of_neg (by simp [hp])]
    rfl
  exact ⟨hx.few, by rw [hown]; exact hx.le, by rw [hown, hfail]; exact hx.counts, hx.rest, hx.bursts, by rw [hown]; exact hx.all⟩

theorem own_cons (hp : d0.passes n g = true) (hk : (d0.grantKind n g).isSome = true) :
    d0.ownGrants n (g :: l) = g :: d0.ownGrants n l ∧ d0.failedGrants n (g :: l) = d0.failedGrants n l := by
  refine ⟨List.filter_cons_of_pos (by simp [hp, hk]), ?_⟩
  rw [Dev.failedGrants, List.filter_cons_of_neg (by simp [hp])]
  rfl

theorem joined (hp : d0.passes n g = true) (hk : (d0.grantKind n g).isSome = true)
    (hx : d0.TakenUp n (d.actCnt n 7 1) (t + Pi.single 7 1) l (taken + 1) true (addGrant (d0.mapAlloc n) acc g) x a) :
    d0.TakenUp n d t (g :: l) taken open_ acc x (1 + a) := by
  obtain ⟨hown, hfail⟩ := own_cons (l := l) hp hk
  have hfew := hx.few
  have hle := hx.le
  have hc := hx.counts
  rw [← mapCounts_one.1, add_assoc, mapCounts_add, Nat.zero_add, Nat.zero_add] at hc
  refine ⟨by omega, ?_, ?_, congrArg (fun e : Dev => { e with regs := d.regs }) hx.rest, hx.bursts, ?_⟩ <;> rw [hown, List.length_cons]
  · omega
  · rw [hfail, show (d0.ownGrants n l).length + 1 - (1 + a) = (d0.ownGrants n l).length - a by omega]
    exact hc
  · rw [List.foldl_cons]
    intro _ htot hfold
    obtain ⟨ha, heq⟩ := hx.all (fun _ => rfl) (by omega) hfold
    exact ⟨by omega, heq⟩

theorem excess (hp : d0.passes n g = true) (hk : (d0.grantKind n g).isSome = true) (hup : takesUp taken open_ acc g = false)
    (hx : d0.TakenUp n (d.actCnt n 9 1) (t + Pi.single 9 1) l taken false acc x a) : d0.TakenUp n d t (g :: l) taken open_ acc x a := by
  obtain ⟨hown, hfail⟩ := own_cons (l := l) hp hk
  have hle := hx.le
  have hc := hx.counts
  rw [← mapCounts_one.2.2, add_assoc, mapCounts_add, Nat.zero_add, Nat.zero_add] at hc
  refine ⟨hx.few, ?_, ?_, congrArg (fun e : Dev => { e with regs := d.regs }) hx.rest, hx.bursts, ?_⟩ <;> rw [hown, List.length_cons]
  · omega
  · rw [hfail, show (d0.ownGrants n l).length + 1 - a = 1 + ((d0.ownGrants n l).length - a) by omega]
    exact hc
  · rw [List.foldl_cons]
    intro hopen htot hfold
    refine absurd ?_ (Bool.eq_false_iff.1 hup)
    have hgrow := (le_length_grants (d0.mapAlloc n) (d0.ownGrants n l) (addGrant (d0.mapAlloc n) acc g)).trans hfold
    rw [addGrant_length] at hgrow
    rw [takesUp, Bool.and_eq_true, decide_eq_true_eq]
    refine ⟨by omega, ?_⟩
    by_cases hc : g.cont = true ∧ acc ≠ []
    · rw [if_pos hc]
      exact hopen hc.2
    · rw [if_neg hc] at hgrow ⊢
      exact decide_eq_true (by omega)

end Dev.TakenUp

theorem addGrant_room (al : Grant → BAlloc) {taken : Nat} {open_ : Bool} {acc : List MapBurst} {g : Grant} (hacc : acc.length ≤ 16)
    (h : takesUp taken open_ acc g = true) : taken < 64 ∧ (addGrant al acc g).length ≤ 16 := by
  rw [takesUp, Bool.and_eq_true, decide_eq_true_eq] at h
  refine ⟨h.1, ?_⟩
  rw [addGrant_length]
  split
  next => exact hacc
  next hc =>
    have hroom := h.2
    rw [if_neg hc, decide_eq_true_eq] at hroom
    omega

theorem Dev.mapTake_spec {d0 : Dev} {n : Nat} (l : List Grant) {d : Dev} {t : Nat → Nat} {taken : Nat} {open_ : Bool} {acc : List MapBurst}
    (h : Dev.Tally n [] d0 d t) (htaken : taken ≤ 64) (hacc : acc.length ≤ 16) :
    ∃ a, d0.TakenUp n d t l taken open_ acc (d.mapTake n l taken open_ acc) a := by
  induction l generalizing d t taken open_ acc with
  | nil => exact ⟨0, .nil h htaken hacc⟩
  | cons g l ih =>
    have hpass := Dev.passes_congr h g
    have hkind := congrArg Option.isSome (Dev.grantKind_congr h g)
    cases hp : d0.passes n g with
    | false =>
      rw [Dev.mapTake_failed _ _ _ _ _ _ (hpass.trans hp)]
      obtain ⟨a, hx⟩ := ih (h.count 8 (by decide)) htaken hacc
      exact ⟨a, hx.failed hp⟩
    | true =>
      cases hk : (d0.grantKind n g).isSome with
      | false =>
        rw [Dev.mapTake_foreign _ _ _ _ _ _ (hpass.trans hp) (Option.not_isSome_iff_eq_none.1 (by rw [hkind, hk]; exact Bool.false_ne_true))]
        obtain ⟨a, hx⟩ := ih h htaken hacc
        exact ⟨a, hx.foreign hp hk⟩
      | true =>
        rw [Dev.mapTake_own _ _ _ _ _ _ (hpass.trans hp) (hkind.trans hk), Dev.mapAlloc_congr h]
        cases hup : takesUp taken open_ acc g with
        | true =>
          obtain ⟨hlt, hlen⟩ := addGrant_room (d0.mapAlloc n) hacc hup
          obtain ⟨a, hx⟩ := ih (h.count 7 (by decide)) (taken := taken + 1) (open_ := true) hlt hlen
          exact ⟨1 + a, hx.joined hp hk⟩
        | false =>
          obtain ⟨a, hx⟩ := ih (h.count 9 (by decide)) (open_ := false) htaken hacc
          exact ⟨a, hx.excess hp hk hup⟩

/-! ### Structures that continue a burst -/

/-- The burst of a group of structures. -/
def groupBurst (al : Grant → BAlloc) (g : List Grant) : MapBurst := { first := g.headD {}, allocs := g.map al }

theorem foldl_joins (al : Grant → BAlloc) {l : List Grant} (h : l.all (·.cont) = true) (b : MapBurst) (acc : List MapBurst) :
    l.foldl (addGrant al) (b :: acc) = { b with allocs := b.allocs ++ l.map al } :: acc := by
  induction l generalizing b with
  | nil => rw [List.foldl_nil, List.map_nil, List.append_nil]
  | cons g l ih =>
    rw [List.all_cons, Bool.and_eq_true] at h
    rw [List.foldl_cons, addGrant_join _ b acc h.1, ih h.2, List.map_cons, List.append_assoc, List.singleton_append]

/-- A group opens a burst and joins it. -/
theorem foldl_group (al : Grant → BAlloc) {g : List Grant} (hne : g ≠ []) (htail : g.tail.all (·.cont) = true) {acc : List MapBurst}
    (hhead : (g.headD {}).cont = false ∨ acc = []) : g.foldl (addGrant al) acc = groupBurst al g :: acc := by
  obtain ⟨h, r, rfl⟩ := List.exists_cons_of_ne_nil hne
  have hopen : ¬ (h.cont = true ∧ acc ≠ []) := by
    rintro ⟨hc, ha⟩
    exact hhead.elim (fun hh => Bool.false_ne_true (hh.symm.trans hc)) ha
  rw [List.foldl_cons, addGrant_open _ hopen, foldl_joins al (l := r) htail]
  rfl

theorem foldl_groups (al : Grant → BAlloc) {gs : List (List Grant)} (hgs : ∀ g ∈ gs, g ≠ [] ∧ g.tail.all (·.cont) = true)
    (hheads : ∀ g ∈ gs, (g.headD {}).cont = false) (acc : List MapBurst) :
    gs.flatten.foldl (addGrant al) acc = (gs.map (groupBurst al)).reverse ++ acc := by
  induction gs generalizing acc with
  | nil => rfl
  | cons g gs ih =>
    obtain ⟨⟨hne, htail⟩, hrest⟩ := List.forall_mem_cons.1 hgs
    obtain ⟨hhead, hheads⟩ := List.forall_mem_cons.1 hheads
    rw [List.flatten_cons, List.foldl_append, foldl_group al hne htail (.inl hhead), ih hrest hheads, List.map_cons, List.reverse_cons,
      List.append_assoc, List.singleton_append]

/-- A map's structures give a burst for each group. -/
theorem foldl_map (al : Grant → BAlloc) {gs : List (List Grant)} (hgs : ∀ g ∈ gs, g ≠ [] ∧ g.tail.all (·.cont) = true)
    (hheads : ∀ g ∈ gs.tail, (g.headD {}).cont = false) :
    gs.flatten.foldl (addGrant al) [] = (gs.map (groupBurst al)).reverse := by
  cases gs with
  | nil => rfl
  | cons g gs =>
    obtain ⟨⟨hne, htail⟩, hrest⟩ := List.forall_mem_cons.1 hgs
    rw [List.flatten_cons, List.foldl_append, foldl_group al hne htail (.inr rfl), foldl_groups al hrest hheads, List.map_cons,
      List.reverse_cons]

/-! ### Bursts placed (R90, R97, R99) -/

/-- The words of the profile that a structure names. -/
def Coach.profOf (c : Coach) (g : Grant) : List Nat := c.profs.getD g.prof.val []

/-- The longest random delay of a serial-number response, in words. -/
def Dev.snMax (d : Dev) (n : Nat) : Nat := d.fld (Reg.LN_ACT_CTRL.SN_RAND_MAX n) * 497664 / (10 * (d.usWord n * 8 * d.usUi n))

/-- The burst of the structures `m`, its response delayed by `delay` words. -/
def Dev.burstOf (d : Dev) (n : Nat) (m : MapBurst) (delay : Nat) : Burst :=
  let c := d.coach n
  let w := c.profOf m.first
  let k := d.usUi n
  let ploam := m.first.ploam || m.first.sn || (d.actState n == stO4)
  let hdr := responseUi + (if m.first.sn then 0 else c.eqd) + (m.first.start + delay) * (d.usWord n * 8 * k)
  let pre := hdr - profLead w * 8 * k
  let fin := hdr + Config.burstBits (profFec w) ploam ((m.allocs.map (fun a => a.size * d.usWord n)).sum) * k
  { frame := c.frame, sfc := d.sfc n, prof := w, allocs := m.allocs, ploam := ploam, delay := delay
    start := (m.first.start + delay) * d.usWord n, hdr := hdr, pre := pre, on := pre - d.fld (Reg.LN_CB_TIMING.TXBE_LEAD n) * k, fin := fin
    off := fin + d.fld (Reg.LN_CB_TIMING.TXBE_LAG n) * k, key := d.curIdx n }

theorem Dev.placeBurst_invalid (d : Dev) (n : Nat) {m : MapBurst} (h : profValid ((d.coach n).profOf m.first) = false) :
    d.placeBurst n m = (d.actCnt n 11 1, none) := by
  rw [Coach.profOf] at h
  rw [Dev.placeBurst]
  dsimp only
  rw [h]
  rfl

theorem Dev.placeBurst_valid (d : Dev) (n : Nat) {m : MapBurst} (h : profValid ((d.coach n).profOf m.first) = true) :
    d.placeBurst n m = (if m.first.sn then (d.freed.rngUsed, some (d.burstOf n m (Config.free d.freeCtr % (d.snMax n + 1))))
      else (d, some (d.burstOf n m 0))) := by
  rw [Coach.profOf] at h
  rw [Dev.placeBurst]
  dsimp only
  rw [h]
  cases hsn : m.first.sn <;> simp only [Dev.snDelay, Dev.burstOf, hsn] <;> rfl

/-- A device on which a map's bursts are being placed: counters, the random source's health and nothing else that a burst goes by. -/
structure Dev.Placing (n : Nat) (d e : Dev) (t : Nat → Nat) : Prop where
  counts : Dev.Tally n [Reg.TRU_RNG_STAT.HEALTH_OK] d e t
  coaches : e.coaches = d.coaches

namespace Dev.Placing

variable {n : Nat} {d e : Dev} {t : Nat → Nat}

theorem coach (h : Placing n d e t) : e.coach n = d.coach n := by rw [Dev.coach, h.coaches, Dev.coach]

theorem count (h : Placing n d e t) (c : Nat) (hc : c < 18) : Placing n d (e.actCnt n c 1) (t + Pi.single c 1) :=
  ⟨h.counts.count c hc, h.coaches⟩

theorem rngUsed (h : Placing n d e t) (hn : n < 4) : Placing n d e.freed.rngUsed t := by
  have hput {e' : Dev} (he : Placing n d e' t) : Placing n d (e'.put Reg.TRU_RNG_STAT.HEALTH_OK 1) t :=
    ⟨he.counts.put (List.mem_singleton.2 rfl) (offCounts_place hn).2.2.2.2.2.2.2.2 1, he.coaches⟩
  have hserved {e' : Dev} (he : Placing n d e' t) (good : Bool) : Placing n d (e'.rngServed good) t := by
    rw [Dev.rngServed]
    split
    · rw [Dev.iff]
      split
      · exact hput (e' := { e' with tru := { e'.tru with reqs := 0 } }) ⟨he.counts.of_regs rfl, he.coaches⟩
      · exact ⟨he.counts.of_regs rfl, he.coaches⟩
    · exact ⟨he.counts.of_regs rfl, he.coaches⟩
  rw [Dev.rngUsed]
  split
  · exact hserved (e' := e.freed.freed) ⟨h.counts.of_regs rfl, h.coaches⟩ _
  · exact hserved (e' := e.freed) ⟨h.counts.of_regs rfl, h.coaches⟩ _

/-- What a burst's times go by is as it was. -/
theorem reads (h : Placing n d e t) (hn : n < 4) : e.usUi n = d.usUi n ∧ e.usWord n = d.usWord n ∧ e.snMax n = d.snMax n ∧
    e.burstOf n = d.burstOf n := by
  obtain ⟨hrate, hword, hlead, hlag, hmax, hlo, hhi, hcur, -⟩ := offCounts_place hn
  have hoff : (Reg.LN_US_CFG.RATE n).key ≠ Reg.TRU_RNG_STAT.HEALTH_OK.key ∧ (Reg.LN_US_CFG.WORD n).key ≠ Reg.TRU_RNG_STAT.HEALTH_OK.key ∧
      (Reg.LN_CB_TIMING.TXBE_LEAD n).key ≠ Reg.TRU_RNG_STAT.HEALTH_OK.key ∧ (Reg.LN_CB_TIMING.TXBE_LAG n).key ≠ Reg.TRU_RNG_STAT.HEALTH_OK.key ∧
      (Reg.LN_ACT_CTRL.SN_RAND_MAX n).key ≠ Reg.TRU_RNG_STAT.HEALTH_OK.key ∧ (Reg.LN_SFC_LO.SFC n).key ≠ Reg.TRU_RNG_STAT.HEALTH_OK.key ∧
      (Reg.LN_SFC_HI.SFC n).key ≠ Reg.TRU_RNG_STAT.HEALTH_OK.key ∧ (Reg.CPH_LINE_US_CTRL.CUR_IDX n).key ≠ Reg.TRU_RNG_STAT.HEALTH_OK.key ∧
      (Reg.LN_ACT_STAT.STATE n).key ≠ Reg.TRU_RNG_STAT.HEALTH_OK.key := by
    interval_cases n <;> decide
  obtain ⟨orate, oword, olead, olag, omax, olo, ohi, ocur, ostate⟩ := hoff
  have hf {f : Fld} (hne : f.key ≠ Reg.TRU_RNG_STAT.HEALTH_OK.key) (hc : f.offCounts n) : e.fld f = d.fld f :=
    h.counts.fld_eq (by simpa using hne) hc
  have hui : e.usUi n = d.usUi n := by rw [Dev.usUi, hf orate hrate, ← Dev.usUi]
  have hw : e.usWord n = d.usWord n := by rw [Dev.usWord, hf oword hword, ← Dev.usWord]
  have hsfc : e.sfc n = d.sfc n := by rw [Dev.sfc, Dev.wide, hf olo hlo, hf ohi hhi, ← Dev.wide, ← Dev.sfc]
  refine ⟨hui, hw, by rw [Dev.snMax, hf omax hmax, hui, hw, ← Dev.snMax], ?_⟩
  funext m delay
  rw [Dev.burstOf, Dev.burstOf, h.coach, hui, hw, hsfc, Dev.actState, Dev.actState, hf ostate (offCounts_act n).1, hf olead hlead, hf olag hlag,
    Dev.curIdx, Dev.curIdx, hf ocur hcur]

end Dev.Placing

/-- One of a map's bursts is placed among those that wait. -/
def Dev.placeStep (n : Nat) (x : Dev × List Burst) (m : MapBurst) : Dev × List Burst :=
  match x.1.placeBurst n m with
  | (e, some b) => (e, insertBurst b x.2)
  | (e, none) => (e, x.2)

/-- A burst that the structures `m` give: its delay is random for the serial number alone. -/
def Dev.Gives (d : Dev) (n : Nat) (m : MapBurst) (b : Burst) : Prop :=
  ∃ delay, (m.first.sn = false → delay = 0) ∧ delay ≤ d.snMax n ∧ b = d.burstOf n m delay

/-- A map's bursts are placed in order, but for those without a valid profile, which are counted. -/
theorem Dev.placeAll_spec {d : Dev} {n : Nat} (hn : n < 4) (ms : List MapBurst) {e : Dev} {t : Nat → Nat} (h : Dev.Placing n d e t) (bs : List Burst) :
    ∃ new : List Burst, List.Forall₂ (d.Gives n) (ms.filter fun m => profValid ((d.coach n).profOf m.first)) new ∧
      (ms.foldl (Dev.placeStep n) (e, bs)).2 = new.foldl (fun x b => insertBurst b x) bs ∧
      Dev.Placing n d (ms.foldl (Dev.placeStep n) (e, bs)).1
        (t + Pi.single 11 (ms.filter fun m => !profValid ((d.coach n).profOf m.first)).length) := by
  induction ms generalizing e t bs with
  | nil => exact ⟨[], .nil, rfl, by rw [List.filter_nil, List.length_nil, Pi.single_zero, add_zero]; exact h⟩
  | cons m ms ih =>
    rw [List.foldl_cons, Dev.placeStep]
    cases hv : profValid ((d.coach n).profOf m.first) with
    | false =>
      obtain ⟨new, hgives, hbs, hplace⟩ := ih (h.count 11 (by decide)) bs
      rw [e.placeBurst_invalid n (by rw [h.coach]; exact hv), List.filter_cons_of_neg (by simp [hv]), List.filter_cons_of_pos (by simp [hv])]
      refine ⟨new, hgives, hbs, ?_⟩
      rw [add_assoc, ← Pi.single_add, Nat.add_comm 1] at hplace
      exact hplace
    | true =>
      obtain ⟨-, -, hmax, hof⟩ := h.reads hn
      rw [e.placeBurst_valid n (by rw [h.coach]; exact hv), List.filter_cons_of_pos (by simp [hv]), List.filter_cons_of_neg (by simp [hv]), hof, hmax]
      cases hsn : m.first.sn with
      | false =>
        obtain ⟨new, hgives, hbs, hplace⟩ := ih h (insertBurst (d.burstOf n m 0) bs)
        exact ⟨_, .cons ⟨0, fun _ => rfl, Nat.zero_le _, rfl⟩ hgives, hbs, hplace⟩
      | true =>
        obtain ⟨new, hgives, hbs, hplace⟩ := ih (h.rngUsed hn) (insertBurst (d.burstOf n m (Config.free e.freeCtr % (d.snMax n + 1))) bs)
        have hlt := Nat.lt_succ_iff.1 (Nat.mod_lt (Config.free e.freeCtr) (Nat.succ_pos (d.snMax n)))
        exact ⟨_, .cons ⟨_, fun hf => absurd (hsn.symm.trans hf) (by decide), hlt, rfl⟩ hgives, hbs, hplace⟩

/-! ### The bandwidth map -/

theorem Dev.lineSwitch_same (d : Dev) (n sfc : Nat) : d.SameRegs (d.lineSwitch n sfc) [Reg.CPH_LINE_US_CTRL.SW_ARM n,
    Reg.CPH_LINE_US_CTRL.CUR_IDX n, Reg.CPH_LINE_CNT.COUNT n 5, Reg.CPH_EVT.KEY_LATE] := by
  rw [Dev.lineSwitch]
  dsimp only
  split
  · split
    · exact ((Dev.SameRegs.refl d _).put (by simp) 0).put (by simp) _
    · exact (((Dev.SameRegs.refl d _).put (by simp) 0).put (by simp) _).put (by simp) 1
  · exact .refl d _

theorem Dev.lineSwitch_usUi (d : Dev) {n : Nat} (hn : n < 4) (sfc : Nat) : (d.lineSwitch n sfc).usUi n = d.usUi n := by
  have hoff : (Reg.LN_US_CFG.RATE n).key ∉ [Reg.CPH_LINE_US_CTRL.SW_ARM n, Reg.CPH_LINE_US_CTRL.CUR_IDX n, Reg.CPH_LINE_CNT.COUNT n 5,
      Reg.CPH_EVT.KEY_LATE].map Fld.key := by
    interval_cases n <;> decide
  rw [Dev.usUi, Dev.usUi, (d.lineSwitch_same n sfc).fld_eq hoff]

/-- Of bursts placed those of `cut.1` stay: they wait, and those of `cut.2` are counted as dropped. -/
structure Dev.SweptTo (d1 : Dev) (n : Nat) (ks : List Fld) (t : Nat → Nat) (cut : List Burst × List Burst) (e z : Dev) : Prop where
  counts : Dev.Tally n ks d1 z t
  bursts : (e.coach n).bursts = cut.1
  regs : e.regs = (z.actCnt n 10 cut.2.length).regs

namespace Dev.SweptTo

variable {d1 e z : Dev} {n : Nat} {ks : List Fld} {t : Nat → Nat} {cut : List Burst × List Burst}

/-- What each counter but that of the dropped bursts has counted. -/
theorem plus (h : d1.SweptTo n ks t cut e z) {c : Nat} (hc : c < 18) (hne : c ≠ 10) : d1.Plus e (Reg.LN_ACT_CNT.COUNT n c) (t c) :=
  (h.counts.counts c hc).congr (by
    rw [Dev.fld, h.regs]
    exact Dev.fld_put_ne _ _ (actCnt_key_ne n hne))

theorem dropped (h : d1.SweptTo n ks t cut e z) (ht : t 10 = 0) :
    e.fld (Reg.LN_ACT_CNT.COUNT n 10) = min (2 ^ 32 - 1) (d1.fld (Reg.LN_ACT_CNT.COUNT n 10) + cut.2.length) := by
  have hz := h.counts.counts 10 (by decide)
  rw [ht] at hz
  rw [Dev.fld, h.regs, ← Dev.fld, Dev.actCnt, Dev.bumpBy, Dev.fld_put_same, hz]
  exact Nat.mod_eq_of_lt (Nat.lt_of_le_of_lt (Nat.min_le_left _ _) (show 2 ^ 32 - 1 < 2 ^ 32 by decide))

theorem same (h : d1.SweptTo n ks t cut e z) {l : List Fld} (hks : ks ⊆ l) (hten : Reg.LN_ACT_CNT.COUNT n 10 ∈ l)
    (hl : ∀ c < 18, t c = 0 ∨ Reg.LN_ACT_CNT.COUNT n c ∈ l) : d1.SameRegs e l :=
  ((h.counts.sameRegs hks hl).put hten _).of_regs h.regs

end Dev.SweptTo

/-- What a map makes of the device that its line switch gave: structures taken up, bursts placed, and those that start too soon dropped. -/
structure Dev.Mapped (d1 : Dev) (n : Nat) (l : List Grant) (e : Dev) (x : Dev × List MapBurst) (a : Nat) (new : List Burst) (z : Dev) : Prop where
  taken : d1.TakenUp n d1 0 l 0 false [] x a
  gives : List.Forall₂ (d1.Gives n) (x.2.filter fun m => profValid ((d1.coach n).profOf m.first)) new
  swept : d1.SweptTo n [Reg.TRU_RNG_STAT.HEALTH_OK] (mapCounts a (d1.failedGrants n l) ((d1.ownGrants n l).length - a) +
    Pi.single 11 (x.2.filter fun m => !profValid ((d1.coach n).profOf m.first)).length)
    (sweepBursts (64 * d1.usUi n) (d1.coach n).lastOff (new.foldl (fun x b => insertBurst b x) (d1.coach n).bursts)) e z

theorem Dev.bwmap_down (d : Dev) {n : Nat} (h : d.coachUp n = false) (l : List Grant) : d.bwmap n l = d := by
  rw [Dev.bwmap, h]
  rfl

/-- A map's bursts swept (R102). -/
def Dev.swept (n ui : Nat) (y : Dev × List Burst) : Dev :=
  let cut := sweepBursts (64 * ui) (y.1.coach n).lastOff y.2
  ((y.1.setCoach n { y.1.coach n with bursts := cut.1 }).actCnt n 10 cut.2.length).each cut.2 (fun d b => d.unseal n b)

theorem Dev.bwmap_up (d : Dev) {n : Nat} (h : d.coachUp n = true) (l : List Grant) :
    d.bwmap n l = Dev.swept n (d.usUi n) (((d.lineSwitch n (d.sfc n)).mapTake n l 0 false []).2.foldl (Dev.placeStep n)
      (((d.lineSwitch n (d.sfc n)).mapTake n l 0 false []).1, (((d.lineSwitch n (d.sfc n)).mapTake n l 0 false []).1.coach n).bursts)) := by
  rw [Dev.bwmap, h]
  rfl

theorem Dev.swept_spec {d1 z : Dev} {n : Nat} {ks : List Fld} {t : Nat → Nat} (h : Dev.Tally n ks d1 z t) (hc : z.coach n = d1.coach n) (ui : Nat)
    (bs : List Burst) : d1.SweptTo n ks t (sweepBursts (64 * ui) (d1.coach n).lastOff bs) (Dev.swept n ui (z, bs)) z := by
  have hback := Dev.GaveBack.each (n := n) (f := fun d b => Dev.unseal d n b) (fun d b => .of_unseal d n b)
    (sweepBursts (64 * ui) (z.coach n).lastOff bs).2
    ((z.setCoach n { z.coach n with bursts := (sweepBursts (64 * ui) (z.coach n).lastOff bs).1 }).actCnt n 10
      (sweepBursts (64 * ui) (z.coach n).lastOff bs).2.length)
  rw [← hc]
  exact ⟨h, hback.bursts.trans (congrArg Coach.bursts (Tbl.get_set_same ..)), hback.regs⟩

theorem Dev.bwmap_spec (d : Dev) {n : Nat} (hn : n < 4) (h : d.coachUp n = true) (l : List Grant) :
    ∃ x a new z, (d.lineSwitch n (d.sfc n)).Mapped n l (d.bwmap n l) x a new z := by
  have hui := d.lineSwitch_usUi hn (d.sfc n)
  rw [d.bwmap_up h l, ← hui]
  generalize d.lineSwitch n (d.sfc n) = d1
  obtain ⟨a, htaken⟩ := Dev.mapTake_spec l (Dev.Tally.refl n [] d1) (taken := 0) (open_ := false) (acc := []) (Nat.zero_le _) (Nat.zero_le _)
  have hplacing : Dev.Placing n d1 (d1.mapTake n l 0 false []).1 _ :=
    ⟨htaken.counts.mono (List.nil_subset _), (congrArg Dev.coaches htaken.rest :)⟩
  obtain ⟨new, hgives, hbs, hplace⟩ := Dev.placeAll_spec hn (d1.mapTake n l 0 false []).2 hplacing ((d1.mapTake n l 0 false []).1.coach n).bursts
  rw [zero_add] at hplace
  rw [hplacing.coach] at hbs hplace ⊢
  generalize ((d1.mapTake n l 0 false []).2.foldl (Dev.placeStep n) ((d1.mapTake n l 0 false []).1, (d1.coach n).bursts)) = y at *
  obtain ⟨z, bs⟩ := y
  subst hbs
  exact ⟨_, a, new, z, htaken, hgives, Dev.swept_spec hplace.counts hplace.coach _ _⟩

/-! ### Bursts that start too soon (R102) -/

theorem sweepBursts_clash {gap : Nat} {last : Option Nat} {b : Burst} (h : ∃ e, last = some e ∧ b.at_ b.pre < e + gap) (l : List Burst) :
    sweepBursts gap last (b :: l) = ((sweepBursts gap last l).1, b :: (sweepBursts gap last l).2) := by
  rw [sweepBursts.eq_def]
  obtain ⟨e, rfl, hlt⟩ := h
  exact if_pos (decide_eq_true hlt)

theorem sweepBursts_keep {gap : Nat} {last : Option Nat} {b : Burst} (h : ¬ ∃ e, last = some e ∧ b.at_ b.pre < e + gap) (l : List Burst) :
    sweepBursts gap last (b :: l) =
      (b :: (sweepBursts gap (some (b.at_ b.off)) l).1, (sweepBursts gap (some (b.at_ b.off)) l).2) := by
  rw [sweepBursts.eq_def]
  cases last with
  | none => rfl
  | some e => exact if_neg (fun hc => h ⟨e, rfl, of_decide_eq_true hc⟩)

/-- Where the line is busy until, after the bursts kept. -/
def busyUntil (last : Option Nat) (l : List Burst) : Option Nat := match l.getLast? with | some k => some (k.at_ k.off) | none => last

theorem busyUntil_cons (last : Option Nat) (b : Burst) (l : List Burst) : busyUntil last (b :: l) = busyUntil (some (b.at_ b.off)) l := by
  cases l with
  | nil => rfl
  | cons c l => rw [busyUntil, busyUntil, List.getLast?_cons_cons, List.getLast?_cons]

theorem sweepBursts_snoc (gap : Nat) (last : Option Nat) (b : Burst) (l : List Burst) :
    ((∃ e, busyUntil last (sweepBursts gap last l).1 = some e ∧ b.at_ b.pre < e + gap) →
      sweepBursts gap last (l ++ [b]) = ((sweepBursts gap last l).1, (sweepBursts gap last l).2 ++ [b])) ∧
    ((¬ ∃ e, busyUntil last (sweepBursts gap last l).1 = some e ∧ b.at_ b.pre < e + gap) →
      sweepBursts gap last (l ++ [b]) = ((sweepBursts gap last l).1 ++ [b], (sweepBursts gap last l).2)) := by
  induction l generalizing last with
  | nil => exact ⟨fun h => sweepBursts_clash h [], fun h => sweepBursts_keep h []⟩
  | cons c l ih =>
    rw [List.cons_append]
    by_cases hc : ∃ e, last = some e ∧ c.at_ c.pre < e + gap
    · rw [sweepBursts_clash hc, sweepBursts_clash hc]
      exact ⟨fun h => by rw [(ih last).1 h]; rfl, fun h => by rw [(ih last).2 h]⟩
    · rw [sweepBursts_keep hc, sweepBursts_keep hc]
      dsimp only
      rw [busyUntil_cons]
      exact ⟨fun h => by rw [(ih _).1 h], fun h => by rw [(ih _).2 h]; rfl⟩

theorem sweepBursts_length (gap : Nat) (last : Option Nat) (l : List Burst) : (sweepBursts gap last l).1.length ≤ l.length := by
  induction l generalizing last with
  | nil => exact le_rfl
  | cons b l ih =>
    by_cases hc : ∃ e, last = some e ∧ b.at_ b.pre < e + gap
    · rw [sweepBursts_clash hc, List.length_cons]
      exact (ih last).trans (Nat.le_succ _)
    · rw [sweepBursts_keep hc, List.length_cons, List.length_cons]
      exact Nat.succ_le_succ (ih _)

theorem insertBurst_perm (b : Burst) (l : List Burst) : (insertBurst b l).Perm (b :: l) := by
  induction l with
  | nil => exact .refl _
  | cons c l ih =>
    rw [insertBurst]
    split
    · exact .refl _
    · exact (ih.cons c).trans (.swap b c l)

theorem insertBurst_sorted (b : Burst) {l : List Burst} (h : l.Pairwise fun x y => x.at_ x.pre ≤ y.at_ y.pre) :
    (insertBurst b l).Pairwise fun x y => x.at_ x.pre ≤ y.at_ y.pre := by
  induction l with
  | nil => exact List.pairwise_singleton _ _
  | cons c l ih =>
    obtain ⟨hc, hl⟩ := List.pairwise_cons.1 h
    rw [insertBurst]
    split
    next hlt => exact List.pairwise_cons.2 ⟨List.forall_mem_cons.2 ⟨hlt.le, fun x hx => hlt.le.trans (hc x hx)⟩, h⟩
    next hge =>
      refine List.pairwise_cons.2 ⟨fun x hx => ?_, ih hl⟩
      rcases List.mem_cons.1 ((insertBurst_perm b l).mem_iff.1 hx) with rfl | hm
      · exact Nat.le_of_not_lt hge
      · exact hc x hm

theorem foldl_insertBurst_length (new l : List Burst) : (new.foldl (fun x b => insertBurst b x) l).length = l.length + new.length := by
  induction new generalizing l with
  | nil => rfl
  | cons b new ih =>
    rw [List.foldl_cons, ih, (insertBurst_perm b l).length_eq, List.length_cons, List.length_cons]
    omega

/-! ### Maps of any number of structures -/

/-- The counters of a map: structures taken up, failed and in excess, bursts of no valid profile. -/
theorem mapCounts_at (a u x k : Nat) : (mapCounts a u x + Pi.single 11 k : Nat → Nat) 7 = a ∧ (mapCounts a u x + Pi.single 11 k : Nat → Nat) 8 = u ∧
    (mapCounts a u x + Pi.single 11 k : Nat → Nat) 9 = x ∧ (mapCounts a u x + Pi.single 11 k : Nat → Nat) 11 = k ∧
    ∀ c, c ≠ 7 → c ≠ 8 → c ≠ 9 → c ≠ 11 → (mapCounts a u x + Pi.single 11 k : Nat → Nat) c = 0 := by
  refine ⟨by simp [mapCounts], by simp [mapCounts], by simp [mapCounts], by simp [mapCounts], fun c h7 h8 h9 h11 => ?_⟩
  simp [mapCounts, Pi.single_eq_of_ne h7, Pi.single_eq_of_ne h8, Pi.single_eq_of_ne h9, Pi.single_eq_of_ne h11]

/-- The registers in which a map's counts and a random delay show. -/
def mapFlds (n : Nat) : List Fld := [Reg.LN_ACT_CNT.COUNT n 7, Reg.LN_ACT_CNT.COUNT n 8, Reg.LN_ACT_CNT.COUNT n 9, Reg.LN_ACT_CNT.COUNT n 10,
  Reg.LN_ACT_CNT.COUNT n 11, Reg.TRU_RNG_STAT.HEALTH_OK]

theorem Dev.Mapped.sameRegs {d1 e z : Dev} {n a : Nat} {l : List Grant} {x : Dev × List MapBurst} {new : List Burst}
    (h : d1.Mapped n l e x a new z) : d1.SameRegs e (mapFlds n) := by
  refine h.swept.same (by simp [mapFlds]) (by simp [mapFlds]) fun c hc => ?_
  by_cases hm : Reg.LN_ACT_CNT.COUNT n c ∈ mapFlds n
  · exact .inr hm
  · refine .inl ((mapCounts_at _ _ _ _).2.2.2.2 c ?_ ?_ ?_ ?_) <;> rintro rfl <;> exact hm (by simp [mapFlds])

theorem Dev.Mapped.counted {d1 e z : Dev} {n a : Nat} {l : List Grant} {x : Dev × List MapBurst} {new : List Burst}
    (h : d1.Mapped n l e x a new z) : d1.Plus e (Reg.LN_ACT_CNT.COUNT n 7) a ∧ d1.Plus e (Reg.LN_ACT_CNT.COUNT n 8) (d1.failedGrants n l) ∧
      d1.Plus e (Reg.LN_ACT_CNT.COUNT n 9) ((d1.ownGrants n l).length - a) ∧
      d1.Plus e (Reg.LN_ACT_CNT.COUNT n 11) (x.2.filter fun m => !profValid ((d1.coach n).profOf m.first)).length := by
  obtain ⟨h7, h8, h9, h11, -⟩ := mapCounts_at a (d1.failedGrants n l) ((d1.ownGrants n l).length - a)
    (x.2.filter fun m => !profValid ((d1.coach n).profOf m.first)).length
  have hat {c k : Nat} (hk : _ = k) (hc : c < 18) (hne : c ≠ 10) : d1.Plus e (Reg.LN_ACT_CNT.COUNT n c) k := hk ▸ h.swept.plus hc hne
  exact ⟨hat h7 (by decide) (by decide), hat h8 (by decide) (by decide), hat h9 (by decide) (by decide), hat h11 (by decide) (by decide)⟩

section

variable {s : State} {n : Fin 4} {d1 : Dev}

theorem bandwidthMap_does (hup : s.dev.mainUp = true) (hc : s.dev.coachUp n = true) (hd1 : s.dev.lineSwitch n (s.dev.sfc n) = d1) (l : List Grant) :
    ∃ e x a new z, Does (.bandwidthMapParse n l) s e ∧ d1.Mapped n l e x a new z := by
  obtain ⟨x, a, new, z, h⟩ := s.dev.bwmap_spec n.isLt hc l
  subst hd1
  exact ⟨_, x, a, new, z, .of_main (exec_bandwidthMapParse s n l) hup, h⟩

theorem bandwidthMap_any (hup : s.dev.mainUp = true) (hc : s.dev.coachUp n = true) (hd1 : s.dev.lineSwitch n (s.dev.sfc n) = d1) (l : List Grant) :
    Effect (.bandwidthMapParse n l) s fun d => ∃ t, t ≤ 64 ∧ t ≤ (d1.ownGrants n l).length ∧ d1.Plus d (Reg.LN_ACT_CNT.COUNT n 7) t ∧
      d1.Plus d (Reg.LN_ACT_CNT.COUNT n 9) ((d1.ownGrants n l).length - t) ∧ d1.Plus d (Reg.LN_ACT_CNT.COUNT n 8) (d1.failedGrants n l) ∧
      (d.coach n).bursts.length ≤ (d1.coach n).bursts.length + 16 ∧ d1.SameRegs d (mapFlds n) := by
  obtain ⟨e, x, a, new, z, hdoes, h⟩ := bandwidthMap_does hup hc hd1 l
  obtain ⟨h7, h8, h9, -⟩ := h.counted
  refine ⟨e, hdoes, a, by have := h.taken.few; omega, h.taken.le, h7, h9, h8, ?_, h.sameRegs⟩
  rw [h.swept.bursts]
  refine (sweepBursts_length _ _ _).trans ?_
  rw [foldl_insertBurst_length, ← h.gives.length_eq]
  exact Nat.add_le_add_left ((List.length_filter_le _ _).trans h.taken.bursts) _

/-- The burst of a group of structures. -/
theorem Dev.Gives.group {g : List Grant} {b : Burst} (h : d1.Gives n (groupBurst (d1.mapAlloc n) g) b) :
    b = d1.burstOf n (groupBurst (d1.mapAlloc n) g) b.delay ∧ ((g.headD {}).sn = false → b.delay = 0) ∧ b.delay ≤ d1.snMax n := by
  obtain ⟨delay, hsn, hmax, rfl⟩ := h
  exact ⟨rfl, hsn, hmax⟩

theorem bandwidthMap_groups (hup : s.dev.mainUp = true) (hc : s.dev.coachUp n = true) (hd1 : s.dev.lineSwitch n (s.dev.sfc n) = d1) (l : List Grant)
    {gs : List (List Grant)} (hflat : gs.flatten = d1.ownGrants n l) (hgs : ∀ g ∈ gs, g ≠ [] ∧ g.tail.all (·.cont) = true)
    (hheads : ∀ g ∈ gs.tail, (g.headD {}).cont = false) (hm : (d1.ownGrants n l).length ≤ 64) (hlen : gs.length ≤ 16) :
    Effect (.bandwidthMapParse n l) s fun d => d1.Plus d (Reg.LN_ACT_CNT.COUNT n 7) (d1.ownGrants n l).length ∧
      d1.Plus d (Reg.LN_ACT_CNT.COUNT n 8) (d1.failedGrants n l) ∧ d.fld (Reg.LN_ACT_CNT.COUNT n 9) = d1.fld (Reg.LN_ACT_CNT.COUNT n 9) ∧
      d1.Plus d (Reg.LN_ACT_CNT.COUNT n 11) (gs.length - (gs.filter fun g => profValid ((d1.coach n).profOf (g.headD {}))).length) ∧
      ∃ new : List Burst, List.Forall₂ (fun g b => b = d1.burstOf n (groupBurst (d1.mapAlloc n) g) b.delay ∧ ((g.headD {}).sn = false → b.delay = 0) ∧
          b.delay ≤ d1.snMax n) (gs.filter fun g => profValid ((d1.coach n).profOf (g.headD {}))) new ∧
        (d.coach n).bursts =
          (sweepBursts (64 * d1.usUi n) (d1.coach n).lastOff (new.foldl (fun x b => insertBurst b x) (d1.coach n).bursts)).1 ∧
        d.fld (Reg.LN_ACT_CNT.COUNT n 10) = min (2 ^ 32 - 1) (d1.fld (Reg.LN_ACT_CNT.COUNT n 10) +
          (sweepBursts (64 * d1.usUi n) (d1.coach n).lastOff (new.foldl (fun x b => insertBurst b x) (d1.coach n).bursts)).2.length) := by
  obtain ⟨e, x, a, new, z, hdoes, h⟩ := bandwidthMap_does hup hc hd1 l
  have hfold := foldl_map (d1.mapAlloc n) hgs hheads
  rw [hflat] at hfold
  obtain ⟨rfl, hx⟩ := h.taken.all (fun hne => absurd rfl hne) (by omega) (by rw [hfold, List.length_reverse, List.length_map]; exact hlen)
  rw [hfold, List.reverse_reverse] at hx
  have hlost : (x.2.filter fun m => !profValid ((d1.coach n).profOf m.first)).length =
      gs.length - (gs.filter fun g => profValid ((d1.coach n).profOf (g.headD {}))).length := by
    rw [hx, List.filter_map, List.length_map, List.length_eq_length_filter_add (l := gs) fun g => profValid ((d1.coach n).profOf (g.headD {})),
      Nat.add_sub_cancel_left]
    rfl
  obtain ⟨h7, h8, h9, h11⟩ := h.counted
  rw [Nat.sub_self] at h9
  rw [hlost] at h11
  have hgives := h.gives
  rw [hx, List.filter_map, List.forall₂_map_left_iff] at hgives
  exact ⟨e, hdoes, h7, h8, h9, h11, new, hgives.imp fun _ _ => Dev.Gives.group, h.swept.bursts,
    h.swept.dropped ((mapCounts_at _ _ _ _).2.2.2.2 10 (by decide) (by decide) (by decide) (by decide))⟩

end

/-! ### Maps of one structure -/

/-- Where a burst that one structure gives starts in its frame, and its first preamble bit on the grid. -/
def Dev.hdrOne (d : Dev) (n : Nat) (g : Grant) : Nat := 1741824 + (d.coach n).eqd + g.start * (d.usWord n * 8 * d.usUi n)
def Dev.preOne (d : Dev) (n : Nat) (g : Grant) : Nat :=
  (d.coach n).frame * frameBits + (d.hdrOne n g - profLead ((d.coach n).profOf g) * 8 * d.usUi n)

section

variable {d d1 : Dev} {n : Nat} {g : Grant}

theorem Dev.burstOf_one (al : Grant → BAlloc) (hal : (al g).size = g.size) (hsn : g.sn = false) :
    (d1.burstOf n (groupBurst al [g]) 0).hdr = d1.hdrOne n g ∧
    (d1.burstOf n (groupBurst al [g]) 0).pre = d1.hdrOne n g - profLead ((d1.coach n).profOf g) * 8 * d1.usUi n ∧
    (d1.burstOf n (groupBurst al [g]) 0).ploam = (g.ploam || d1.actState n == stO4) ∧
    (d1.burstOf n (groupBurst al [g]) 0).fin = d1.hdrOne n g + Config.burstBits (profFec ((d1.coach n).profOf g))
      (g.ploam || d1.actState n == stO4) (g.size * d1.usWord n) * d1.usUi n := by
  have hhdr : (d1.burstOf n (groupBurst al [g]) 0).hdr = d1.hdrOne n g := by
    simp only [Dev.burstOf, groupBurst, List.headD_cons, hsn, Bool.false_eq_true, if_false, Nat.add_zero, responseUi, Dev.hdrOne]
  have hploam : (d1.burstOf n (groupBurst al [g]) 0).ploam = (g.ploam || d1.actState n == stO4) := by
    simp only [Dev.burstOf, groupBurst, List.headD_cons, hsn, Bool.or_false]
  refine ⟨hhdr, ?_, hploam, ?_⟩
  · rw [← hhdr]
    rfl
  · rw [← hhdr, ← hploam, ← hal, ← Nat.add_zero ((al g).size * d1.usWord n)]
    rfl

section

variable (hup : d.coachUp n = true) (hd1 : d.lineSwitch n (d.sfc n) = d1) (hb : (d1.coach n).bursts = [])

include hup hd1 hb

theorem Dev.bwmap_one_failed (hp : d1.passes n g = false) : d1.SweptTo n [] (Pi.single 8 1) ([], []) (d.bwmap n [g]) (d1.actCnt n 8 1) := by
  have h := Dev.swept_spec ((Dev.Tally.refl n [] d1).count 8 (by decide)) rfl (d.usUi n) []
  rw [zero_add] at h
  rw [d.bwmap_up hup, hd1, Dev.mapTake_failed _ _ _ _ _ _ hp, Dev.mapTake]
  dsimp only [List.reverse_nil, List.foldl_nil]
  rw [show ((d1.actCnt n 8 1).coach n).bursts = [] from hb]
  exact h

theorem Dev.bwmap_one_foreign (hp : d1.passes n g = true) (hk : d1.grantKind n g = none) :
    d1.SweptTo n [] 0 ([], []) (d.bwmap n [g]) d1 := by
  have h := Dev.swept_spec (Dev.Tally.refl n [] d1) rfl (d.usUi n) []
  rw [d.bwmap_up hup, hd1, Dev.mapTake_foreign _ _ _ _ _ _ hp hk, Dev.mapTake]
  dsimp only [List.reverse_nil, List.foldl_nil]
  rw [hb]
  exact h

/-- The structure is taken up: its burst is to be placed. -/
theorem Dev.bwmap_one_own (hp : d1.passes n g = true) (hk : (d1.grantKind n g).isSome = true) :
    d.bwmap n [g] = Dev.swept n (d.usUi n) (Dev.placeStep n (d1.actCnt n 7 1, []) (groupBurst (d1.mapAlloc n) [g])) := by
  rw [d.bwmap_up hup, hd1, Dev.mapTake_own _ _ _ _ _ _ hp hk, if_pos (by simp [takesUp]), Dev.mapTake, addGrant_open _ (by simp)]
  dsimp only [List.reverse_singleton, List.foldl_cons, List.foldl_nil]
  rw [show ((d1.actCnt n 7 1).coach n).bursts = [] from hb]
  rfl

theorem Dev.bwmap_one_invalid (hp : d1.passes n g = true) (hk : (d1.grantKind n g).isSome = true)
    (hv : profValid ((d1.coach n).profOf g) = false) :
    d1.SweptTo n [] (Pi.single 7 1 + Pi.single 11 1) ([], []) (d.bwmap n [g]) ((d1.actCnt n 7 1).actCnt n 11 1) := by
  have h := Dev.swept_spec (((Dev.Tally.refl n [] d1).count 7 (by decide)).count 11 (by decide)) rfl (d.usUi n) []
  rw [zero_add] at h
  rw [Dev.bwmap_one_own hup hd1 hb hp hk, Dev.placeStep, Dev.placeBurst_invalid _ _ hv]
  exact h

theorem Dev.bwmap_one_plain (hn : n < 4) (hp : d1.passes n g = true) (hk : (d1.grantKind n g).isSome = true)
    (hv : profValid ((d1.coach n).profOf g) = true) (hsn : g.sn = false) :
    d1.SweptTo n [] (Pi.single 7 1) (sweepBursts (64 * d1.usUi n) (d1.coach n).lastOff [d1.burstOf n (groupBurst (d1.mapAlloc n) [g]) 0])
      (d.bwmap n [g]) (d1.actCnt n 7 1) := by
  have hplace : Dev.Placing n d1 (d1.actCnt n 7 1) _ := Dev.Placing.count ⟨.refl _ _ d1, rfl⟩ 7 (by decide)
  have h := Dev.swept_spec ((Dev.Tally.refl n [] d1).count 7 (by decide)) rfl (d1.usUi n) [d1.burstOf n (groupBurst (d1.mapAlloc n) [g]) 0]
  rw [zero_add] at h
  rw [Dev.bwmap_one_own hup hd1 hb hp hk, Dev.placeStep, Dev.placeBurst_valid _ _ hv, if_neg (by simp [groupBurst, hsn]), (hplace.reads hn).2.2.2,
    ← d.lineSwitch_usUi hn (d.sfc n), hd1]
  exact h

theorem Dev.bwmap_one_sn (hn : n < 4) (hp : d1.passes n g = true) (hk : (d1.grantKind n g).isSome = true)
    (hv : profValid ((d1.coach n).profOf g) = true) (hsn : g.sn = true) (hlast : (d1.coach n).lastOff = none) :
    ∃ delay, delay ≤ d1.snMax n ∧ d1.SweptTo n [Reg.TRU_RNG_STAT.HEALTH_OK] (Pi.single 7 1)
      ([d1.burstOf n (groupBurst (d1.mapAlloc n) [g]) delay], []) (d.bwmap n [g]) (d1.actCnt n 7 1).freed.rngUsed := by
  have hplace : Dev.Placing n d1 (d1.actCnt n 7 1) (0 + Pi.single 7 1) := Dev.Placing.count ⟨.refl _ _ d1, rfl⟩ 7 (by decide)
  have hused := hplace.rngUsed hn
  obtain ⟨-, -, hmax, hof⟩ := hplace.reads hn
  refine ⟨Config.free (d1.actCnt n 7 1).freeCtr % (d1.snMax n + 1), Nat.lt_succ_iff.1 (Nat.mod_lt _ (Nat.succ_pos _)), ?_⟩
  have h := Dev.swept_spec hused.counts hused.coach (d.usUi n)
    [d1.burstOf n (groupBurst (d1.mapAlloc n) [g]) (Config.free (d1.actCnt n 7 1).freeCtr % (d1.snMax n + 1))]
  rw [zero_add, hlast, sweepBursts_keep (fun hc => by simp at hc)] at h
  rw [Dev.bwmap_one_own hup hd1 hb hp hk, Dev.placeStep, Dev.placeBurst_valid _ _ hv, if_pos (by simp [groupBurst, hsn]), hof, hmax]
  exact h

end

end

theorem Dev.passes_iff (d : Dev) (n : Nat) (g : Grant) :
    d.passes n g = true ↔ g.hec = .good ∨ g.hec = .corrected ∧ d.on (Reg.LN_BWM_CTRL.HEC_ACCEPT n) = true := by
  rw [Dev.passes, Bool.or_eq_true, Bool.and_eq_true, beq_iff_eq, beq_iff_eq]

theorem Dev.SweptTo.takenOnly {d1 : Dev} {n : Nat} {e z : Dev} {ks : List Fld} {cut : List Burst × List Burst}
    (h : d1.SweptTo n ks (Pi.single 7 1) cut e z) {l : List Fld}
    (hks : ks ⊆ l) (h7 : Reg.LN_ACT_CNT.COUNT n 7 ∈ l) (h10 : Reg.LN_ACT_CNT.COUNT n 10 ∈ l) : d1.SameRegs e l := by
  refine h.same hks h10 fun c _ => ?_
  by_cases hc : c = 7
  · exact .inr (hc ▸ h7)
  · exact .inl (Pi.single_eq_of_ne hc _)

section

variable {s : State} {n : Fin 4} {d1 : Dev} {g : Grant} (hup : s.dev.mainUp = true) (hc : s.dev.coachUp n = true)
  (hd1 : s.dev.lineSwitch n (s.dev.sfc n) = d1) (hb : (d1.coach n).bursts = [])

include hup hc hd1 hb

theorem oneGrant_failed (hp : d1.passes n g = false) : Effect (.bandwidthMapParse n [g]) s fun d => (d.coach n).bursts = [] ∧
    d1.Plus d (Reg.LN_ACT_CNT.COUNT n 8) 1 ∧ d.fld (Reg.LN_ACT_CNT.COUNT n 10) = min (2 ^ 32 - 1) (d1.fld (Reg.LN_ACT_CNT.COUNT n 10)) ∧
    d1.SameRegs d [Reg.LN_ACT_CNT.COUNT n 8, Reg.LN_ACT_CNT.COUNT n 10] := by
  have h := Dev.bwmap_one_failed hc hd1 hb hp
  refine .of_main (exec_bandwidthMapParse s n [g]) hup ⟨h.bursts, h.plus (c := 8) (by decide) (by decide), h.dropped rfl,
    h.same (List.nil_subset _) (by simp) fun c _ => ?_⟩
  by_cases h8 : c = 8
  · exact .inr (by simp [h8])
  · exact .inl (Pi.single_eq_of_ne h8 _)

theorem oneGrant_foreign (hp : d1.passes n g = true) (hk : d1.grantKind n g = none) :
    Effect (.bandwidthMapParse n [g]) s fun d => (d.coach n).bursts = [] ∧
      d.fld (Reg.LN_ACT_CNT.COUNT n 10) = min (2 ^ 32 - 1) (d1.fld (Reg.LN_ACT_CNT.COUNT n 10)) ∧ d1.SameRegs d [Reg.LN_ACT_CNT.COUNT n 10] := by
  have h := Dev.bwmap_one_foreign hc hd1 hb hp hk
  exact .of_main (exec_bandwidthMapParse s n [g]) hup ⟨h.bursts, h.dropped rfl, h.same (List.nil_subset _) (by simp) fun _ _ => .inl rfl⟩

theorem oneGrant_invalid (hp : d1.passes n g = true) (hk : (d1.grantKind n g).isSome = true) (hv : profValid ((d1.coach n).profOf g) = false) :
    Effect (.bandwidthMapParse n [g]) s fun d => (d.coach n).bursts = [] ∧ d1.Plus d (Reg.LN_ACT_CNT.COUNT n 7) 1 ∧
      d1.Plus d (Reg.LN_ACT_CNT.COUNT n 11) 1 ∧ d.fld (Reg.LN_ACT_CNT.COUNT n 10) = min (2 ^ 32 - 1) (d1.fld (Reg.LN_ACT_CNT.COUNT n 10)) ∧
      d1.SameRegs d [Reg.LN_ACT_CNT.COUNT n 7, Reg.LN_ACT_CNT.COUNT n 10, Reg.LN_ACT_CNT.COUNT n 11] := by
  have h := Dev.bwmap_one_invalid hc hd1 hb hp hk hv
  refine .of_main (exec_bandwidthMapParse s n [g]) hup ⟨h.bursts, h.plus (c := 7) (by decide) (by decide),
    h.plus (c := 11) (by decide) (by decide), h.dropped rfl, h.same (List.nil_subset _) (by simp) fun c _ => ?_⟩
  by_cases h7 : c = 7
  · exact .inr (by simp [h7])
  by_cases h11 : c = 11
  · exact .inr (by simp [h11])
  · exact .inl (by rw [Pi.add_apply, Pi.single_eq_of_ne h7, Pi.single_eq_of_ne h11, add_zero])

section

variable (hp : d1.passes n g = true) (hk : (d1.grantKind n g).isSome = true) (hv : profValid ((d1.coach n).profOf g) = true)

include hp hk hv

theorem oneGrant_clash (hsn : g.sn = false) (hclash : ∃ e, (d1.coach n).lastOff = some e ∧ d1.preOne n g < e + 64 * d1.usUi n) :
    Effect (.bandwidthMapParse n [g]) s fun d => (d.coach n).bursts = [] ∧ d1.Plus d (Reg.LN_ACT_CNT.COUNT n 7) 1 ∧
      d1.Plus d (Reg.LN_ACT_CNT.COUNT n 10) 1 ∧ d1.SameRegs d [Reg.LN_ACT_CNT.COUNT n 7, Reg.LN_ACT_CNT.COUNT n 10] := by
  obtain ⟨-, hpre, -⟩ := Dev.burstOf_one (d1 := d1) (n := n) (d1.mapAlloc n) (g := g) rfl hsn
  have h := Dev.bwmap_one_plain hc hd1 hb n.isLt hp hk hv hsn
  rw [sweepBursts_clash (by rw [Burst.at_, hpre]; exact hclash), sweepBursts] at h
  exact .of_main (exec_bandwidthMapParse s n [g]) hup ⟨h.bursts, h.plus (c := 7) (by decide) (by decide), h.dropped rfl,
    h.takenOnly (List.nil_subset _) (by simp) (by simp)⟩

theorem oneGrant_placed (hsn : g.sn = false) (hclash : ¬ ∃ e, (d1.coach n).lastOff = some e ∧ d1.preOne n g < e + 64 * d1.usUi n) :
    Effect (.bandwidthMapParse n [g]) s fun d => d1.Plus d (Reg.LN_ACT_CNT.COUNT n 7) 1 ∧
      d.fld (Reg.LN_ACT_CNT.COUNT n 10) = min (2 ^ 32 - 1) (d1.fld (Reg.LN_ACT_CNT.COUNT n 10)) ∧
      d1.SameRegs d [Reg.LN_ACT_CNT.COUNT n 7, Reg.LN_ACT_CNT.COUNT n 10] ∧
      (d.coach n).bursts = [d1.burstOf n (groupBurst (d1.mapAlloc n) [g]) 0] := by
  obtain ⟨-, hpre, -⟩ := Dev.burstOf_one (d1 := d1) (n := n) (d1.mapAlloc n) (g := g) rfl hsn
  have h := Dev.bwmap_one_plain hc hd1 hb n.isLt hp hk hv hsn
  rw [sweepBursts_keep (by rw [Burst.at_, hpre]; exact hclash), sweepBursts] at h
  exact .of_main (exec_bandwidthMapParse s n [g]) hup ⟨h.plus (c := 7) (by decide) (by decide), h.dropped rfl,
    h.takenOnly (List.nil_subset _) (by simp) (by simp), h.bursts⟩

theorem oneGrant_sn (hsn : g.sn = true) (hlast : (d1.coach n).lastOff = none) :
    Effect (.bandwidthMapParse n [g]) s fun d => d1.Plus d (Reg.LN_ACT_CNT.COUNT n 7) 1 ∧
      d.fld (Reg.LN_ACT_CNT.COUNT n 10) = min (2 ^ 32 - 1) (d1.fld (Reg.LN_ACT_CNT.COUNT n 10)) ∧
      d1.SameRegs d [Reg.LN_ACT_CNT.COUNT n 7, Reg.LN_ACT_CNT.COUNT n 10, Reg.TRU_RNG_STAT.HEALTH_OK] ∧
      ∃ delay, delay ≤ d1.snMax n ∧ (d.coach n).bursts = [d1.burstOf n (groupBurst (d1.mapAlloc n) [g]) delay] := by
  obtain ⟨delay, hmax, h⟩ := Dev.bwmap_one_sn hc hd1 hb n.isLt hp hk hv hsn hlast
  exact .of_main (exec_bandwidthMapParse s n [g]) hup ⟨h.plus (c := 7) (by decide) (by decide), h.dropped rfl,
    h.takenOnly (by simp) (by simp) (by simp), delay, hmax, h.bursts⟩

end

end

/-! ### Shares (R104) -/

theorem Dev.prestage_full (d : Dev) (n t k : Nat) (h : (d.tcontDrop t).fillOne n t = none) : d.prestage n t (k + 1) = d.tcontDrop t := by
  rw [Dev.prestage, h]

theorem Dev.prestage_next (d : Dev) {d1 : Dev} (n t k : Nat) (h : (d.tcontDrop t).fillOne n t = some d1) :
    d.prestage n t (k + 1) = d1.prestage n t k := by
  rw [Dev.prestage, h]

theorem prestageFill_spec {s : State} (hup : s.dev.mainUp = true) (dt : Nat) (n : Fin 4) (t : Fin 512) {d0 : Dev} (hd0 : s.dev.advance dt = d0) :
    (d0.fills n t = false → Does (.prestageFill dt n t) s d0) ∧
    (d0.fills n t = true → (d0.tcontDrop t).fillOne n t = none → Does (.prestageFill dt n t) s (d0.tcontDrop t)) ∧
    ∀ d1, d0.fills n t = true → (d0.tcontDrop t).fillOne n t = some d1 → (d1.tcontDrop t).fillOne n t = none →
      0 < (d0.tm.queues.map (fun e => e.2.ondie.length + e.2.siding.length)).sum → Does (.prestageFill dt n t) s (d1.tcontDrop t) := by
  have hdo {e : Dev} (he : d0.prestageFill n t = e) : Does (.prestageFill dt n t) s e :=
    .of_main_eq (exec_prestageFill s dt n t) hup (by rw [hd0]; exact he)
  refine ⟨fun hf => hdo (if_neg (by rw [hf]; exact Bool.false_ne_true)),
    fun hf hnone => hdo ((if_pos hf).trans (d0.prestage_full n t _ hnone)), fun d1 hf hsome hnone hpos => hdo ((if_pos hf).trans ?_)⟩
  obtain ⟨k, hk⟩ := Nat.exists_eq_add_of_lt hpos
  rw [d0.prestage_next n t _ hsome, hk, Nat.zero_add]
  exact d1.prestage_full n t k hnone

/-! ### Siding reads of the Coachbuilder (R105, R106, R209) -/

theorem find_waiting {a b : List BFrame} {x : BFrame} (ha : a.all (·.ready) = true) (hx : x.ready = false) :
    (a ++ x :: b).find? (fun f => !f.ready) = some x := by
  have hnone : a.find? (fun f => !f.ready) = none := List.find?_eq_none.2 fun f hf => by simp [List.all_eq_true.1 ha f hf]
  rw [List.find?_append, hnone, Option.none_or, List.find?_cons_of_pos (by simp [hx])]

theorem readDone_first {a b : List BFrame} {x : BFrame} (ha : a.all (·.ready) = true) (hx : x.ready = false) :
    readDone (a ++ x :: b) = a ++ { x with ready := true } :: b := by
  induction a with
  | nil => rw [List.nil_append, readDone, if_neg (by simp [hx]), List.nil_append]
  | cons f a ih =>
    rw [List.all_cons, Bool.and_eq_true] at ha
    rw [List.cons_append, readDone, if_pos ha.1, ih ha.2, List.cons_append]

theorem dropReads_first {a b : List BFrame} {x : BFrame} {k : Nat} (ha : a.all (·.ready) = true) (hx : x.ready = false) (hk : k ≠ 0) :
    (dropReads x.q k (a ++ x :: b)).2 ≠ [] := by
  obtain ⟨k, rfl⟩ := Nat.exists_eq_succ_of_ne_zero hk
  induction a with
  | nil => simp [dropReads, hx]
  | cons f a ih =>
    rw [List.all_cons, Bool.and_eq_true] at ha
    rw [List.cons_append, dropReads, if_neg (by simp [ha.1])]
    exact ih ha.2

/-- What goes out of a buffer goes by the buffer alone. -/
theorem Dev.release_tm_congr {d e : Dev} (h : e.tm = d.tm) (f : Frame) : (e.release f).tm = (d.release f).tm := by
  unfold Dev.release Dev.setQueue Dev.queue
  rw [h]
  cases f.home <;> rfl

theorem Dev.release_coach (d : Dev) (f : Frame) : (d.release f).coaches = d.coaches := by
  obtain ⟨t, ht⟩ := d.release_tm f
  rw [ht]

theorem Dev.dropAll_coaches (l : List Frame) (d : Dev) (c : Fld) : (d.dropAll l c).coaches = d.coaches := by
  induction l generalizing d with
  | nil => rfl
  | cons f l ih => exact (ih ((d.release f).bump c)).trans (d.release_coach f)

/-- Registers in which a loss of Siding frames of queue `q` shows. -/
def lossFlds (q : Nat) : List Fld := [Reg.TMG_QCNT.COUNT q 6, Reg.TMG_CNT.COUNT 6, Reg.TMG_EVT.SIDING_ECC]

theorem Dev.sidingFail_regs (d : Dev) (q k : Nat) : d.SameRegs (d.sidingFail q k) (lossFlds q) ∧ (d.sidingFail q k).coaches = d.coaches ∧
    (d.fld Reg.TMG_EVT.SIDING_ECC = 1 → (d.sidingFail q k).fld Reg.TMG_EVT.SIDING_ECC = 1) := by
  obtain ⟨y, hy, hyr, hyc⟩ : ∃ y : Dev, d.sidingFail q k = (y.bumpBy (Reg.TMG_CNT.COUNT 6) ((d.queue q).siding.take k).length).iff
      ((d.queue q).siding.take k != []) (·.ev Reg.TMG_EVT.SIDING_ECC) ∧
      y.regs = (d.dropAll ((d.queue q).siding.take k) (Reg.TMG_QCNT.COUNT q 6)).regs ∧ y.coaches = d.coaches := by
    have hdrop := d.dropAll_coaches ((d.queue q).siding.take k) (Reg.TMG_QCNT.COUNT q 6)
    refine ⟨_, rfl, ?_⟩
    split
    · exact ⟨rfl, hdrop⟩
    · unfold Dev.queueIdle Dev.nodeIdle
      split
      · split <;> exact ⟨rfl, hdrop⟩
      · exact ⟨rfl, hdrop⟩
  have hsame : d.SameRegs y (lossFlds q) := fun j hj => by
    rw [hyr]
    exact Dev.dropAll_regs _ d _ j fun hm => hj (List.map_subset _ (by simp [lossFlds]) hm)
  have hecc : y.fld Reg.TMG_EVT.SIDING_ECC = d.fld Reg.TMG_EVT.SIDING_ECC := by
    rw [Dev.fld, hyr]
    refine (Dev.dropAll_regs _ d (Reg.TMG_QCNT.COUNT q 6)).fld_eq ?_
    simp only [List.map_cons, List.map_nil, List.mem_singleton, Fld.key, Reg.TMG_QCNT.COUNT, Reg.TMG_EVT.SIDING_ECC]
    omega
  rw [hy, Dev.iff]
  split
  · exact ⟨(hsame.put (by simp [lossFlds]) _).put (by simp [lossFlds]) 1, hyc, fun _ => Dev.fld_put_same ..⟩
  · exact ⟨hsame.put (by simp [lossFlds]) _, hyc, fun h => (Dev.fld_put_ne _ _ (by decide)).trans (hecc.trans h)⟩

/-- A read that ends late, or after its seal, is counted. -/
def Dev.cbReadLate (d : Dev) (n : Nat) (x : BFrame) : Dev :=
  (d.iff (x.late || decide (x.deadline < d.nowPs)) (·.actCnt n 14 1)).iff x.missed (·.actCnt n 15 1)

theorem Dev.Tally.countIf {n : Nat} {ks : List Fld} {d e : Dev} {t : Nat → Nat} (h : Dev.Tally n ks d e t) (b : Bool) (c : Nat) (hc : c < 18) :
    Dev.Tally n ks d (e.iff b (·.actCnt n c 1)) (t + Pi.single c (bit b)) := by
  cases b with
  | false =>
    rw [show bit false = 0 from rfl, Pi.single_zero, add_zero]
    exact h
  | true => exact h.count c hc

theorem Dev.cbReadLate_tally (d : Dev) (n : Nat) (x : BFrame) : Dev.Tally n [] d (d.cbReadLate n x)
    (Pi.single 14 (bit (x.late || decide (x.deadline < d.nowPs))) + Pi.single 15 (bit x.missed)) := by
  have h := ((Dev.Tally.refl n [] d).countIf (x.late || decide (x.deadline < d.nowPs)) 14 (by decide)).countIf x.missed 15 (by decide)
  rwa [zero_add] at h

theorem Dev.cbReadLate_rest (d : Dev) (n : Nat) (x : BFrame) : (d.cbReadLate n x).coaches = d.coaches ∧ (d.cbReadLate n x).tm = d.tm := by
  unfold Dev.cbReadLate Dev.iff
  split <;> split <;> exact ⟨rfl, rfl⟩

/-- The counters of reads. -/
theorem readCounts_at (i j : Nat) : (Pi.single 14 i + Pi.single 15 j : Nat → Nat) 14 = i ∧ (Pi.single 14 i + Pi.single 15 j : Nat → Nat) 15 = j ∧
    ∀ c, c ≠ 14 → c ≠ 15 → (Pi.single 14 i + Pi.single 15 j : Nat → Nat) c = 0 := by
  refine ⟨by simp, by simp, fun c h14 h15 => ?_⟩
  rw [Pi.add_apply, Pi.single_eq_of_ne h14, Pi.single_eq_of_ne h15, add_zero]

section

variable {d : Dev} {n : Nat} {a b : List BFrame} {x : BFrame} (hs : (d.coach n).store = a ++ x :: b) (ha : a.all (·.ready) = true)
  (hx : x.ready = false)

theorem Dev.cbReadDone_none (h : (d.coach n).store.all (·.ready) = true) (bad : Nat) : d.cbReadDone n bad = d := by
  rw [Dev.cbReadDone, List.find?_eq_none.2 fun f hf => by simp [List.all_eq_true.1 h f hf]]

include hs ha hx

theorem Dev.cbReadDone_some (bad : Nat) : d.cbReadDone n bad = if bad = 0
    then ((d.cbReadLate n x).release x.f).setCoach n { d.coach n with store := a ++ { x with ready := true } :: b }
    else (d.cbReadLate n x).cbReadFail n x.q bad := by
  rw [Dev.cbReadDone]
  dsimp only
  rw [hs, find_waiting ha hx]
  dsimp only
  rw [readDone_first ha hx]
  rfl

theorem Dev.cbReadDone_good : ((d.cbReadDone n 0).coach n).store = a ++ { x with ready := true } :: b ∧
    Dev.Tally n [] d (d.cbReadDone n 0) (Pi.single 14 (bit (x.late || decide (x.deadline < d.nowPs))) + Pi.single 15 (bit x.missed)) ∧
    (d.cbReadDone n 0).tm = (d.release x.f).tm := by
  rw [Dev.cbReadDone_some hs ha hx, if_pos rfl]
  exact ⟨congrArg Coach.store (Tbl.get_set_same ..), (d.cbReadLate_tally n x).of_regs (Dev.release_regs ..),
    Dev.release_tm_congr (d.cbReadLate_rest n x).2 x.f⟩

theorem Dev.cbReadDone_bad {bad : Nat} (hbad : bad ≠ 0) (hn : n < 4) :
    ((d.cbReadDone n bad).coach n).store = (dropReads x.q bad (d.coach n).store).1 ∧
    (∀ c < 18, d.Plus (d.cbReadDone n bad) (Reg.LN_ACT_CNT.COUNT n c)
      ((Pi.single 14 (bit (x.late || decide (x.deadline < d.nowPs))) + Pi.single 15 (bit x.missed) : Nat → Nat) c)) ∧
    (d.cbReadDone n bad).fld Reg.TMG_EVT.SIDING_ECC = 1 := by
  have htally := d.cbReadLate_tally n x
  have hcoach : (d.cbReadLate n x).coach n = d.coach n := by
    rw [Dev.coach, (d.cbReadLate_rest n x).1, ← Dev.coach]
  have hgone := dropReads_first (b := b) ha hx hbad
  rw [← hs] at hgone
  rw [Dev.cbReadDone_some hs ha hx, if_neg hbad, Dev.cbReadFail, hcoach]
  dsimp only
  rw [Dev.iff, if_pos (by simpa using hgone)]
  generalize (dropReads x.q bad (d.coach n).store).1 = stay
  generalize (dropReads x.q bad (d.coach n).store).2 = gone
  generalize d.cbReadLate n x = r at *
  obtain ⟨y, hy⟩ : ∃ y, y = (((r.setCoach n { d.coach n with store := stay }).dropAll (gone.map (·.f)) (Reg.TMG_QCNT.COUNT x.q 6)).bumpBy
    (Reg.TMG_CNT.COUNT 6) gone.length).ev Reg.TMG_EVT.SIDING_ECC := ⟨_, rfl⟩
  have hycoach : y.coach n = { d.coach n with store := stay } := by
    rw [hy]
    exact (congrArg (fun t : Tbl Coach => Tbl.get t n {}) (Dev.dropAll_coaches (gone.map (·.f)) (r.setCoach n { d.coach n with store := stay })
      (Reg.TMG_QCNT.COUNT x.q 6))).trans (Tbl.get_set_same ..)
  have hysame : r.SameRegs y (lossFlds x.q) := by
    rw [hy]
    refine Dev.SameRegs.put (Dev.SameRegs.put (fun j hj => ?_) (by simp [lossFlds]) _) (by simp [lossFlds]) 1
    exact Dev.dropAll_regs _ _ _ j fun hm => hj (List.map_subset _ (by simp [lossFlds]) hm)
  have hyecc : y.fld Reg.TMG_EVT.SIDING_ECC = 1 := by
    rw [hy]
    exact Dev.fld_put_same ..
  obtain ⟨hfsame, hfcoach, hfecc⟩ := y.sidingFail_regs x.q (bad - gone.length)
  rw [← hy]
  refine ⟨?_, fun c hc => (htally.counts c hc).congr ?_, hfecc hyecc⟩
  · rw [Dev.coach, hfcoach, ← Dev.coach, hycoach]
  · have hoff : (Reg.LN_ACT_CNT.COUNT n c).key ∉ (lossFlds x.q).map Fld.key := by
      simp only [lossFlds, List.map_cons, List.map_nil, List.mem_cons, List.not_mem_nil, or_false, Fld.key, Reg.LN_ACT_CNT.COUNT, Reg.TMG_QCNT.COUNT,
        Reg.TMG_CNT.COUNT, Reg.TMG_EVT.SIDING_ECC]
      omega
    exact (hfsame.fld_eq hoff).trans (hysame.fld_eq hoff)

end

theorem sidingReadDone_spec {s : State} (hup : s.dev.mainUp = true) (dt : Nat) (n : Fin 4) {d0 : Dev} (hd0 : s.dev.advance dt = d0) (bad : Nat) :
    ((d0.coach n).store.all (·.ready) = true → Does (.cbSidingReadDone dt ⟨n, bad⟩) s d0) ∧
    ∀ a x b, (d0.coach n).store = a ++ x :: b → a.all (·.ready) = true → x.ready = false →
      let tardy := if x.late = true ∨ x.deadline < (d0.nowPs : Int) then 1 else 0
      (bad = 0 → Effect (.cbSidingReadDone dt ⟨n, bad⟩) s fun d => (d.coach n).store = a ++ { x with ready := true } :: b ∧
        d0.Plus d (Reg.LN_ACT_CNT.COUNT n 14) tardy ∧ d0.Plus d (Reg.LN_ACT_CNT.COUNT n 15) (bit x.missed) ∧
        d0.SameRegs d [Reg.LN_ACT_CNT.COUNT n 14, Reg.LN_ACT_CNT.COUNT n 15] ∧ d.tm = (d0.release x.f).tm) ∧
      (bad ≠ 0 → Effect (.cbSidingReadDone dt ⟨n, bad⟩) s fun d => (d.coach n).store = (dropReads x.q bad (d0.coach n).store).1 ∧
        d0.Plus d (Reg.LN_ACT_CNT.COUNT n 14) tardy ∧ d0.Plus d (Reg.LN_ACT_CNT.COUNT n 15) (bit x.missed) ∧
        d.fld Reg.TMG_EVT.SIDING_ECC = 1) := by
  have hdo {e : Dev} (he : d0.cbReadDone n bad = e) : Does (.cbSidingReadDone dt ⟨n, bad⟩) s e :=
    .of_main_eq (exec_cbSidingReadDone s dt ⟨n, bad⟩) hup (by rw [hd0]; exact he)
  refine ⟨fun h => hdo (Dev.cbReadDone_none h bad), fun a x b hs ha hx => ?_⟩
  intro tardy
  have htardy : tardy = bit (x.late || decide (x.deadline < (d0.nowPs : Int))) := by
    simp only [tardy, bit, Bool.or_eq_true, decide_eq_true_eq]
  obtain ⟨h14, h15, hrest⟩ := readCounts_at (bit (x.late || decide (x.deadline < (d0.nowPs : Int)))) (bit x.missed)
  rw [htardy]
  constructor
  · rintro rfl
    obtain ⟨hstore, htally, htm⟩ := Dev.cbReadDone_good hs ha hx
    refine ⟨_, hdo rfl, hstore, h14 ▸ htally.counts 14 (by decide), h15 ▸ htally.counts 15 (by decide),
      htally.sameRegs (List.nil_subset _) fun c _ => ?_, htm⟩
    by_cases hc : Reg.LN_ACT_CNT.COUNT n c ∈ [Reg.LN_ACT_CNT.COUNT n 14, Reg.LN_ACT_CNT.COUNT n 15]
    · exact .inr hc
    · exact .inl (hrest c (by rintro rfl; exact hc (by simp)) (by rintro rfl; exact hc (by simp)))
  · intro hbad
    obtain ⟨hstore, hcounts, hecc⟩ := Dev.cbReadDone_bad hs ha hx hbad n.isLt
    exact ⟨_, hdo rfl, hstore, h14 ▸ hcounts 14 (by decide), h15 ▸ hcounts 15 (by decide), hecc⟩

/-! ### Transmission (R99, R107) -/

/-- Channel `n`'s counters have counted `t`, and neither its bursts nor what leaves the pins has changed. -/
structure Dev.Sending (n : Nat) (d e : Dev) (t : Nat → Nat) : Prop where
  counts : ∀ c < 18, d.Plus e (Reg.LN_ACT_CNT.COUNT n c) (t c)
  bursts : (e.coach n).bursts = (d.coach n).bursts
  out : e.out = d.out

/-- The registers of the cipher engine are no counters of a channel. -/
theorem offCounts_cipher {n : Nat} (_ : n < 4) {f : Fld} (hf : 0x200000 ≤ f.adr) : f.offCounts n := by
  intro c hc
  simp only [Fld.key, Reg.LN_ACT_CNT.COUNT]
  omega

namespace Dev.Sending

variable {n : Nat} {d e : Dev} {t : Nat → Nat}

theorem refl (n : Nat) (d : Dev) : Sending n d d 0 := ⟨fun _ _ => .of_eq rfl, rfl, rfl⟩

theorem put (h : Sending n d e t) {f : Fld} (hf : f.offCounts n) (v : Nat) : Sending n d (e.put f v) t :=
  ⟨fun c hc => (h.counts c hc).congr (Dev.fld_put_ne _ _ (hf c hc).symm), h.bursts, h.out⟩

theorem count (h : Sending n d e t) (c : Nat) (hc : c < 18) : Sending n d (e.actCnt n c 1) (t + Pi.single c 1) := by
  refine ⟨fun x hx => ?_, h.bursts, h.out⟩
  by_cases hxc : x = c
  · subst hxc
    rw [Pi.add_apply, Pi.single_eq_same]
    exact (h.counts x hx).bump
  · rw [Pi.add_apply, Pi.single_eq_of_ne hxc, Nat.add_zero]
    exact (h.counts x hx).congr (Dev.fld_put_ne _ _ (actCnt_key_ne n hxc))

theorem setAct (h : Sending n d e t) (x : Act) : Sending n d (e.setAct n x) t := ⟨h.counts, h.bursts, h.out⟩

theorem of_unseal (h : Sending n d e t) (b : Burst) : Sending n d (e.unseal n b) t := by
  have hback := Dev.GaveBack.of_unseal e n b
  refine ⟨fun c hc => (h.counts c hc).congr (by rw [Dev.fld, hback.regs, ← Dev.fld]), hback.bursts.trans h.bursts, Eq.trans ?_ h.out⟩
  unfold Dev.unseal
  split
  · rfl
  · dsimp only
    split <;> rfl

theorem burstKey (h : Sending n d e t) (hn : n < 4) (i sfc : Nat) : Sending n d (e.burstKey n i sfc).1 t := by
  have hoff {f : Fld} (hf : 0x200000 ≤ f.adr) : f.offCounts n := offCounts_cipher hn hf
  have hcnt : (Reg.CPH_LINE_CNT.COUNT n 4).offCounts n := hoff (by simp only [Reg.CPH_LINE_CNT.COUNT]; omega)
  rw [Dev.burstKey]
  dsimp only
  split
  · exact h
  split
  · exact ((h.put (hoff (by simp only [Reg.CPH_SLOT_STAT.STATE]; omega)) _).put (hoff (by decide)) 1).put hcnt _
  split
  · exact h
  · exact h.put hcnt _

theorem burstUsed (h : Sending n d e t) (hn : n < 4) (i sfc k : Nat) : Sending n d (e.burstUsed n i sfc k) t := by
  have hoff {f : Fld} (hf : 0x200000 ≤ f.adr) : f.offCounts n := offCounts_cipher hn hf
  rw [Dev.burstUsed]
  split
  · exact h
  have hctr : Sending n d ((e.setSlotCtr (lineSlot n i) sfc).bumpBy (Reg.CPH_LINE_CNT.COUNT n 1) k) t :=
    ((h.put (hoff (by simp only [Reg.CPH_SLOT_CTR_LO.CTR]; omega)) _).put (hoff (by simp only [Reg.CPH_SLOT_CTR_HI.CTR]; omega)) _).put
      (hoff (by simp only [Reg.CPH_LINE_CNT.COUNT]; omega)) _
  rw [Dev.lineExh]
  split
  · exact (hctr.put (hoff (by simp only [Reg.CPH_SLOT_STAT.EXH]; omega)) 1).put (hoff (by decide)) 1
  · exact hctr

end Dev.Sending

/-- The key of a burst that leaves. -/
def Dev.leaveKey (d : Dev) (n : Nat) (b : Burst) (s : Sealed) : Dev × BurstKey :=
  if b.key = 0 ∨ (s.parts.map (fun p => p.frames.length)).sum = 0 then (d, some 0) else d.burstKey n b.key b.sfc

/-- A part without its frames, idle in their place. -/
def Part.idled (p : Part) : Part :=
  { p with idle := p.idle + (p.frames.map (fun f => 8 + Config.xgemPad f.payload.length)).sum, frames := [] }

/-- The parts of a burst as they leave. -/
def Dev.leaveParts (n : Nat) (b : Burst) (s : Sealed) (x : Dev × BurstKey) : Dev × List Part :=
  match x.2 with
  | some 0 => (x.1, s.parts.map (·.padded))
  | some k => (x.1.burstUsed n k b.sfc (s.parts.map (fun p => p.frames.length)).sum,
      encipherParts (x.1.key (lineSlot n k)) b.sfc (s.parts.map (·.padded)) (b.start + Config.burstHead b.ploam))
  | none => (x.1.unseal n { b with content := some { s with ploam := none } }, s.parts.map (·.idled))

/-- The message of a burst that leaves. -/
def Dev.leavePloam (d : Dev) (n : Nat) (s : Sealed) : Dev × List Byte :=
  match s.ploam with
  | some u => ((d.ploamSent n u).1.ploamCount n u, (d.ploamSent n u).2)
  | none => (d, [])

theorem encipherParts_length (key sfc : Nat) (l : List Part) (pos : Nat) : (encipherParts key sfc l pos).length = l.length := by
  induction l generalizing pos with
  | nil => rfl
  | cons p l ih =>
    rw [encipherParts]
    dsimp only
    rw [List.length_cons, ih, List.length_cons]

section

variable {d e : Dev} {n : Nat} {t : Nat → Nat}

theorem Dev.leaveKey_spec (h : Dev.Sending n d e t) (hn : n < 4) (b : Burst) (s : Sealed) : Dev.Sending n d (e.leaveKey n b s).1 t := by
  rw [Dev.leaveKey]
  split
  · exact h
  · exact h.burstKey hn _ _

theorem Dev.leaveParts_spec {x : Dev × BurstKey} (h : Dev.Sending n d x.1 t) (hn : n < 4) (b : Burst) (s : Sealed) :
    Dev.Sending n d (Dev.leaveParts n b s x).1 t ∧ (Dev.leaveParts n b s x).2.length = s.parts.length := by
  rw [Dev.leaveParts]
  split
  · exact ⟨h, List.length_map ..⟩
  · exact ⟨h.burstUsed hn _ _ _, (encipherParts_length ..).trans (List.length_map ..)⟩
  · dsimp only
    exact ⟨h.of_unseal _, List.length_map ..⟩

theorem Dev.ploamCount_spec (h : Dev.Sending n d e 0) (u : PloamUp) : ∃ t, Dev.Sending n d (e.ploamCount n u) t ∧ t 3 = 1 ∧ t 12 = 0 := by
  have hthree := h.count 3 (by decide)
  cases u with
  | serialNumber => exact ⟨_, hthree.count 5 (by decide), rfl, rfl⟩
  | registration => exact ⟨_, hthree.count 6 (by decide), rfl, rfl⟩
  | ack | keyReport | software | filler => exact ⟨_, hthree, rfl, rfl⟩

theorem Dev.leavePloam_spec (h : Dev.Sending n d e 0) (s : Sealed) : ∃ t, Dev.Sending n d (e.leavePloam n s).1 t ∧
    t 3 = (if s.ploam.isSome then 1 else 0) ∧ t 12 = 0 ∧ (s.ploam = none → (e.leavePloam n s).2 = []) := by
  rw [Dev.leavePloam]
  cases hp : s.ploam with
  | none => exact ⟨0, h, rfl, rfl, fun _ => rfl⟩
  | some u =>
    obtain ⟨t, ht, h3, h12⟩ := Dev.ploamCount_spec (e := (e.ploamSent n u).1) (h.setAct _) u
    exact ⟨t, ht, h3, h12, fun hn => absurd hn (Option.some_ne_none u)⟩

end

/-- What leaves of a burst. -/
def leaving (b : Burst) (s : Sealed) (parts : List Part) (wire : List Byte) : Burst :=
  { b with content := some { s with parts := parts, wire := wire, took := [], omci := [] } }

/-- A burst leaves the pins. -/
def Dev.leave (n : Nat) (b : Burst) (s : Sealed) (parts : List Part) (x : Dev × List Byte) : Dev :=
  ((x.1.setCoach n { x.1.coach n with lastOn := b.at_ b.on, lastOff := some (b.at_ b.off) }).actCnt n 12 1).emit (.burst n (leaving b s parts x.2))

section

variable {d : Dev} {n : Nat} {b : Burst} {r : List Burst} {x : Sealed}

theorem Dev.burstTransmit_nothing (h : (if d.coachUp n then (d.coach n).bursts else []) = [] ∨
    ∃ b r, (if d.coachUp n then (d.coach n).bursts else []) = b :: r ∧ b.content = none) : d.burstTransmit n = d := by
  rw [Dev.burstTransmit]
  rcases h with h | ⟨b, r, h, hb⟩
  · rw [h]
  · rw [h]
    dsimp only
    rw [hb]

theorem Dev.burstTransmit_sealed (h : (if d.coachUp n then (d.coach n).bursts else []) = b :: r) (hb : b.content = some x) :
    d.burstTransmit n = if d.txDis n || !d.burstAllowed n b then (d.setCoach n { d.coach n with bursts := r }).unseal n b
      else Dev.leave n b x (Dev.leaveParts n b x ((d.setCoach n { d.coach n with bursts := r }).leaveKey n b x)).2
        ((Dev.leaveParts n b x ((d.setCoach n { d.coach n with bursts := r }).leaveKey n b x)).1.leavePloam n x) := by
  rw [Dev.burstTransmit]
  dsimp only
  rw [h]
  dsimp only
  rw [hb]
  dsimp only
  split
  · rfl
  · rw [Dev.leaveKey]
    generalize (if b.key = 0 ∨ (x.parts.map (fun p => p.frames.length)).sum = 0 then _ else _ : Dev × BurstKey) = k
    obtain ⟨d1, key⟩ := k
    unfold Dev.leavePloam Dev.leave leaving
    rcases key with _ | _ | k
    · cases x.ploam <;> rfl
    · cases x.ploam <;> rfl
    · cases x.ploam <;> rfl

end

theorem burstTransmit_spec {s : State} (hup : s.dev.mainUp = true) (dt : Nat) (n : Fin 4) {d0 : Dev} (hd0 : s.dev.advance dt = d0) {b0 : List Burst}
    (hb0 : (if d0.coachUp n then (d0.coach n).bursts else []) = b0) :
    (b0 = [] ∨ (∃ b r, b0 = b :: r ∧ b.content = none) → Does (.burstTransmit dt n) s d0) ∧
    ∀ b r x, b0 = b :: r → b.content = some x →
      (d0.txDis n = true ∨ d0.burstAllowed n b = false →
        Does (.burstTransmit dt n) s ((d0.setCoach n { d0.coach n with bursts := r }).unseal n b)) ∧
      (d0.txDis n = false → d0.burstAllowed n b = true → Effect (.burstTransmit dt n) s fun d =>
        (d.coach n).lastOff = some (b.at_ b.off) ∧ (d.coach n).bursts = r ∧ d0.Plus d (Reg.LN_ACT_CNT.COUNT n 12) 1 ∧
        d0.Plus d (Reg.LN_ACT_CNT.COUNT n 3) (if x.ploam.isSome then 1 else 0) ∧
        ∃ y : Sealed, d.out = .burst n { b with content := some y } :: d0.out ∧ y.ploam = x.ploam ∧ y.onu = x.onu ∧
          y.gasp = x.gasp ∧ y.more = x.more ∧ (x.ploam = none → y.wire = []) ∧ y.parts.length = x.parts.length) := by
  have hdo {e : Dev} (he : d0.burstTransmit n = e) : Does (.burstTransmit dt n) s e :=
    .of_main_eq (exec_burstTransmit s dt n) hup (by rw [hd0]; exact he)
  subst hb0
  refine ⟨fun h => hdo (Dev.burstTransmit_nothing h), fun b r x hb hx => ⟨fun h => hdo ?_, fun htx hallowed => ?_⟩⟩
  · rw [Dev.burstTransmit_sealed hb hx, if_pos (by rcases h with h | h <;> simp [h])]
  have heq := Dev.burstTransmit_sealed hb hx
  rw [if_neg (by simp [htx, hallowed])] at heq
  have hstart := Dev.Sending.refl n (d0.setCoach n { d0.coach n with bursts := r })
  obtain ⟨hparts, hlen⟩ := Dev.leaveParts_spec (Dev.leaveKey_spec hstart n.isLt b x) n.isLt b x
  obtain ⟨t, hsent, h3, h12, hwire⟩ := Dev.leavePloam_spec hparts x
  have hleft := hsent.count 12 (by decide)
  have h3' : (t + Pi.single 12 1 : Nat → Nat) 3 = if x.ploam.isSome then 1 else 0 := h3
  have h12' : (t + Pi.single 12 1 : Nat → Nat) 12 = 1 := by rw [Pi.add_apply, h12, Pi.single_eq_same]
  refine ⟨_, hdo heq, congrArg Coach.lastOff (Tbl.get_set_same ..), ?_, h12' ▸ hleft.counts 12 (by decide), h3' ▸ hleft.counts 3 (by decide), _,
    congrArg (_ :: ·) hsent.out, rfl, rfl, rfl, rfl, hwire, hlen⟩
  exact (congrArg Coach.bursts (Tbl.get_set_same ..)).trans (hsent.bursts.trans (congrArg Coach.bursts (Tbl.get_set_same ..)))

/-! ### Sealing (R106, R107) -/

/-- What a burst's header and the bursts that wait go by is as it was. -/
structure Dev.Sealing (n : Nat) (d e : Dev) : Prop where
  valid : e.fld (Reg.LN_ACT_STAT.ONU_ID_VALID n) = d.fld (Reg.LN_ACT_STAT.ONU_ID_VALID n)
  onu : e.fld (Reg.LN_ACT_STAT.ONU_ID n) = d.fld (Reg.LN_ACT_STAT.ONU_ID n)
  bursts : (e.coach n).bursts = (d.coach n).bursts

/-- A register that holds no ONU-ID of channel `n`. -/
def Fld.offOnu (n : Nat) (f : Fld) : Prop := (Reg.LN_ACT_STAT.ONU_ID_VALID n).key ≠ f.key ∧ (Reg.LN_ACT_STAT.ONU_ID n).key ≠ f.key

theorem offOnu_cipher {n : Nat} (_ : n < 4) {f : Fld} (hf : 0x200000 ≤ f.adr) : f.offOnu n := by
  simp only [Fld.offOnu, Fld.key, Reg.LN_ACT_STAT.ONU_ID_VALID, Reg.LN_ACT_STAT.ONU_ID]
  omega

theorem offOnu_act {n : Nat} (_ : n < 4) : (∀ c, (Reg.LN_ACT_CNT.COUNT n c).offOnu n) ∧ (Reg.LN_ACT_STAT.DG_ACTIVE n).offOnu n ∧
    (Reg.LN_ACT_EVT.DG_SENT n).offOnu n ∧ (Reg.LN_BOND_CNT.COUNT bMarkerTx).offOnu n := by
  simp only [Fld.offOnu, Fld.key, Reg.LN_ACT_STAT.ONU_ID_VALID, Reg.LN_ACT_STAT.ONU_ID, Reg.LN_ACT_CNT.COUNT, Reg.LN_ACT_STAT.DG_ACTIVE,
    Reg.LN_ACT_EVT.DG_SENT, Reg.LN_BOND_CNT.COUNT, bMarkerTx]
  exact ⟨fun c => by omega, by omega, by omega, by omega⟩

namespace Dev.Sealing

variable {n : Nat} {d e : Dev}

theorem refl (n : Nat) (d : Dev) : Sealing n d d := ⟨rfl, rfl, rfl⟩

theorem put (h : Sealing n d e) {f : Fld} (hf : f.offOnu n) (v : Nat) : Sealing n d (e.put f v) :=
  ⟨(Dev.fld_put_ne _ _ hf.1).trans h.valid, (Dev.fld_put_ne _ _ hf.2).trans h.onu, h.bursts⟩

theorem setCoach (h : Sealing n d e) {c : Coach} (hc : c.bursts = (e.coach n).bursts) : Sealing n d (e.setCoach n c) :=
  ⟨h.valid, h.onu, (congrArg Coach.bursts (Tbl.get_set_same ..)).trans (hc.trans h.bursts)⟩

theorem setAct (h : Sealing n d e) (x : Act) : Sealing n d (e.setAct n x) := ⟨h.valid, h.onu, h.bursts⟩

theorem burstKey (h : Sealing n d e) (hn : n < 4) (i sfc : Nat) : Sealing n d (e.burstKey n i sfc).1 := by
  have hcnt : (Reg.CPH_LINE_CNT.COUNT n 4).offOnu n := offOnu_cipher hn (by simp only [Reg.CPH_LINE_CNT.COUNT]; omega)
  rw [Dev.burstKey]
  dsimp only
  split
  · exact h
  split
  · exact ((h.put (offOnu_cipher hn (by simp only [Reg.CPH_SLOT_STAT.STATE]; omega)) _).put (offOnu_cipher hn (by decide)) 1).put hcnt _
  split
  · exact h
  · exact h.put hcnt _

theorem sealAlloc (h : Sealing n d e) (key : BurstKey) (s : Sealed) (a : BAlloc) : Sealing n d (e.sealAlloc n key s a).1 := by
  rw [Dev.sealAlloc]
  dsimp only
  split
  · refine Sealing.setCoach (Sealing.setCoach h ?_) ?_ <;> rfl
  · refine Sealing.setCoach h ?_
    rfl

theorem appendMarkers (h : Sealing n d e) (hn : n < 4) (key : Nat) (l : List Nat) (room : Nat) : Sealing n d (e.appendMarkers n key l room).1 := by
  induction l generalizing e room with
  | nil => exact h
  | cons g l ih =>
    rw [Dev.appendMarkers]
    split
    · exact h
    · have hset : Sealing n d (e.setGroup g { e.group g with sentAt := Tbl.set (e.group g).sentAt n (e.fld (Reg.LN_BOND_GRP_STAT.TX_SEQ g)) }) :=
        ⟨h.valid, h.onu, h.bursts⟩
      exact ih (hset.put (offOnu_act hn).2.2.2 _) (room - 16)

theorem sealRest (h : Sealing n d e) (hn : n < 4) (key : Nat) (took : List BFrame) (t : Option Nat) (p : Part) :
    Sealing n d (e.sealRest n key took t p).1 := by
  cases t with
  | none => exact h.put ((offOnu_act hn).1 13) _
  | some t => exact (h.appendMarkers hn key _ _).put ((offOnu_act hn).1 13) _

theorem takePloam (h : Sealing n d e) (b : Burst) : Sealing n d (e.takePloam n b).1 := by
  rw [Dev.takePloam]
  dsimp only
  split
  · exact h
  split
  · exact h
  split
  · exact h
  split
  · exact h.setAct _
  split
  · exact h.setAct _
  · exact h

theorem gaspStep (h : Sealing n d e) (hn : n < 4) : Sealing n d (e.gaspStep n).1 := by
  obtain ⟨-, hdg, hsent, -⟩ := offOnu_act hn
  rw [Dev.gaspStep]
  split
  · split
    · exact h
    · exact (h.put hdg 1).put hsent 1
  split
  · exact h.put hdg 0
  · exact h

end Dev.Sealing

theorem Dev.sealAlloc_parts (d : Dev) (n : Nat) (key : BurstKey) (s : Sealed) (a : BAlloc) :
    (d.sealAlloc n key s a).2.parts.length = s.parts.length + 1 := by
  rw [Dev.sealAlloc]
  dsimp only
  split <;> exact List.length_append ..

/-- The allocations of a burst as they are sealed: those of a side that stands by carry no data (R127). -/
def Dev.sealedAllocs (d : Dev) (n : Nat) (b : Burst) : List BAlloc :=
  b.allocs.map (fun a => if d.standsBy n && a.kind == 2 then { a with kind := 3 } else a)

/-- The T-CONT that an allocation grants. -/
def Dev.grantedTcont (d : Dev) (n : Nat) (a : BAlloc) : Option Nat :=
  if a.kind = 2 then (d.allocFind n a.alloc).bind (d.boundTcont n) else none

/-- The key under which a burst is sealed. -/
def Dev.sealKey (d : Dev) (n : Nat) (b : Burst) : Dev × BurstKey :=
  if d.actState n == stO5 then d.burstKey n b.key b.sfc else (d, some 0)

/-- The data of a burst's allocations. -/
def Dev.sealData (n : Nat) (allocs : List BAlloc) (x : Dev × BurstKey) : Dev × Sealed :=
  allocs.foldl (fun (y : Dev × Sealed) a => y.1.sealAlloc n x.2 y.2 a) (x.1, ({} : Sealed))

/-- The markers of a burst's allocations. -/
def Dev.sealMarkers (d : Dev) (n : Nat) (key : BurstKey) (allocs : List BAlloc) (y : Dev × Sealed) : Dev × List Part :=
  (allocs.zip y.2.parts).foldl (fun (x : Dev × List Part) (z : BAlloc × Part) =>
    ((x.1.sealRest n (key.getD 0) y.2.took (if key.isSome then d.grantedTcont n z.1 else none) z.2).1,
      x.2 ++ [(x.1.sealRest n (key.getD 0) y.2.took (if key.isSome then d.grantedTcont n z.1 else none) z.2).2])) (y.1, [])

/-- The parts of a burst with their reports (R107). -/
def Dev.sealReports (d : Dev) (n : Nat) (s1 : Sealed) (l : List (BAlloc × Part)) : List Part :=
  l.map (fun (x : BAlloc × Part) =>
    if x.1.dbru then
      { x.2 with dbru := some (match d.grantedTcont n x.1 with
        | some t => dbruValue (d.usWord n) (d.snapshot n t) (Tbl.get s1.sent t (0, 0))
        | none => 0) }
    else x.2)

/-- The PLOAM message of a burst that carries one. -/
def Dev.sealPloam (d : Dev) (n : Nat) (b : Burst) : Dev × Option PloamUp × Bool :=
  if b.ploam then ((d.takePloam n b).1, some (d.takePloam n b).2.1, (d.takePloam n b).2.2) else (d, none, false)

/-- A burst's content as it is sealed on device `d`. -/
def Dev.sealContent (d : Dev) (n : Nat) (s1 : Sealed) (parts : List Part) (u : Option PloamUp × Bool) (gasp : Bool) : Sealed :=
  { s1 with onu := if d.on (Reg.LN_ACT_STAT.ONU_ID_VALID n) then some (d.fld (Reg.LN_ACT_STAT.ONU_ID n)) else none, parts := parts
            ploam := u.1, queued := u.2, gasp := gasp, more := (d.act n).answers != [] || (d.act n).sw != [] }

/-- The content of the first burst that waits is put in, the frames given: reads that it misses are marked. -/
def Dev.sealPut (d : Dev) (n : Nat) (missed : List Nat) (x : Sealed) : Dev :=
  d.setCoach n { d.coach n with bursts := sealFirst x (d.coach n).bursts, store := missReads missed (d.coach n).store }

/-- Burst `b` sealed (R106). -/
def Dev.sealed (d : Dev) (n : Nat) (b : Burst) : Dev :=
  let allocs := d.sealedAllocs n b
  let y := Dev.sealData n allocs (d.sealKey n b)
  let z := d.sealMarkers n (d.sealKey n b).2 allocs y
  let p := z.1.sealPloam n b
  let g := p.1.gaspStep n
  g.1.sealPut n (allocs.filterMap (d.grantedTcont n)) (g.1.sealContent n y.2 (d.sealReports n y.2 (allocs.zip z.2)) p.2 g.2)

section

variable {d : Dev} {n : Nat} {b : Burst}

theorem Dev.burstSeal_none (h : (if d.coachUp n then (d.coach n).bursts else []).find? (fun b => b.content.isNone) = none) : d.burstSeal n = d := by
  rw [Dev.burstSeal]
  dsimp only
  rw [h]

theorem Dev.burstSeal_some (h : (if d.coachUp n then (d.coach n).bursts else []).find? (fun b => b.content.isNone) = some b) :
    d.burstSeal n = if !d.burstAllowed n b then d.setCoach n { d.coach n with bursts := dropFirst (d.coach n).bursts }
      else if d.standsBy n && !b.allocs.any (fun a => a.kind != 2) then
        (d.setCoach n { d.coach n with bursts := dropFirst (d.coach n).bursts }).bump (Reg.LN_PROT_CNT.COUNT 2)
      else d.sealed n b := by
  rw [Dev.burstSeal]
  dsimp only
  rw [h]
  rfl

end

section

variable {d : Dev} {n : Nat}

theorem Dev.sealKey_spec (d : Dev) {n : Nat} (hn : n < 4) (b : Burst) : Dev.Sealing n d (d.sealKey n b).1 := by
  rw [Dev.sealKey]
  split
  · exact (Dev.Sealing.refl n d).burstKey hn _ _
  · exact .refl n d

theorem Dev.sealData_spec (allocs : List BAlloc) {x : Dev × BurstKey} (h : Dev.Sealing n d x.1) :
    Dev.Sealing n d (Dev.sealData n allocs x).1 ∧ (Dev.sealData n allocs x).2.parts.length = allocs.length := by
  have hfold (l : List BAlloc) (y : Dev × Sealed) (hy : Dev.Sealing n d y.1) :
      Dev.Sealing n d (l.foldl (fun (y : Dev × Sealed) a => y.1.sealAlloc n x.2 y.2 a) y).1 ∧
      (l.foldl (fun (y : Dev × Sealed) a => y.1.sealAlloc n x.2 y.2 a) y).2.parts.length = y.2.parts.length + l.length := by
    induction l generalizing y with
    | nil => exact ⟨hy, rfl⟩
    | cons a l ih =>
      obtain ⟨h1, h2⟩ := ih (y.1.sealAlloc n x.2 y.2 a) (hy.sealAlloc x.2 y.2 a)
      exact ⟨h1, by rw [List.foldl_cons, h2, Dev.sealAlloc_parts, List.length_cons]; omega⟩
  obtain ⟨h1, h2⟩ := hfold allocs (x.1, {}) h
  exact ⟨h1, h2.trans (Nat.zero_add _)⟩

theorem Dev.sealMarkers_spec (d0 : Dev) (hn : n < 4) (key : BurstKey) (allocs : List BAlloc) {y : Dev × Sealed} (h : Dev.Sealing n d y.1)
    (hlen : y.2.parts.length = allocs.length) :
    Dev.Sealing n d (d0.sealMarkers n key allocs y).1 ∧ (d0.sealMarkers n key allocs y).2.length = allocs.length := by
  rw [Dev.sealMarkers]
  generalize hstep : (fun (x : Dev × List Part) (z : BAlloc × Part) =>
    ((x.1.sealRest n (key.getD 0) y.2.took (if key.isSome then d0.grantedTcont n z.1 else none) z.2).1,
      x.2 ++ [(x.1.sealRest n (key.getD 0) y.2.took (if key.isSome then d0.grantedTcont n z.1 else none) z.2).2])) = step
  have hfold (l : List (BAlloc × Part)) (x : Dev × List Part) (hx : Dev.Sealing n d x.1) :
      Dev.Sealing n d (l.foldl step x).1 ∧ (l.foldl step x).2.length = x.2.length + l.length := by
    induction l generalizing x with
    | nil => exact ⟨hx, rfl⟩
    | cons z l ih =>
      obtain ⟨h1, h2⟩ := ih (step x z) (by rw [← hstep]; exact hx.sealRest hn _ _ _ _)
      refine ⟨h1, ?_⟩
      rw [List.foldl_cons, h2, ← hstep]
      simp only [List.length_append, List.length_cons, List.length_nil]
      omega
  obtain ⟨h1, h2⟩ := hfold (allocs.zip y.2.parts) (y.1, []) h
  refine ⟨h1, ?_⟩
  rw [h2, List.length_zip, hlen, Nat.min_self]
  exact Nat.zero_add _

theorem Dev.sealPloam_spec {e : Dev} (h : Dev.Sealing n d e) (b : Burst) :
    Dev.Sealing n d (e.sealPloam n b).1 ∧ (e.sealPloam n b).2.1.isSome = b.ploam := by
  rw [Dev.sealPloam]
  cases b.ploam with
  | false => exact ⟨h, rfl⟩
  | true => exact ⟨h.takePloam b, rfl⟩

/-- What a sealed burst holds. -/
theorem Dev.sealed_spec (d : Dev) {n : Nat} (hn : n < 4) (b : Burst) : ∃ x : Sealed,
    ((d.sealed n b).coach n).bursts = sealFirst x (d.coach n).bursts ∧ x.parts.length = b.allocs.length ∧ x.ploam.isSome = b.ploam ∧
    x.onu = if d.on (Reg.LN_ACT_STAT.ONU_ID_VALID n) then some (d.fld (Reg.LN_ACT_STAT.ONU_ID n)) else none := by
  obtain ⟨hdata, hparts⟩ := Dev.sealData_spec (d.sealedAllocs n b) (d.sealKey_spec hn b)
  obtain ⟨hmark, hlen⟩ := Dev.sealMarkers_spec d hn (d.sealKey n b).2 (d.sealedAllocs n b) hdata hparts
  obtain ⟨hploam, hsome⟩ := Dev.sealPloam_spec hmark b
  have hgasp := hploam.gaspStep hn
  rw [Dev.sealed]
  refine ⟨_, (congrArg Coach.bursts (Tbl.get_set_same ..)).trans (congrArg (sealFirst _) hgasp.bursts), ?_, hsome, ?_⟩
  · rw [Dev.sealContent, Dev.sealReports, List.length_map, List.length_zip, hlen, Nat.min_self, Dev.sealedAllocs, List.length_map]
  · rw [Dev.sealContent, Dev.on, hgasp.valid, hgasp.onu, ← Dev.on]

end

theorem burstSeal_spec {s : State} (hup : s.dev.mainUp = true) (dt : Nat) (n : Fin 4) {d0 : Dev} (hd0 : s.dev.advance dt = d0) {wait : Option Burst}
    (hwait : (if d0.coachUp n then (d0.coach n).bursts else []).find? (fun b => b.content.isNone) = wait) :
    (wait = none → Does (.burstSeal dt n) s d0) ∧
    ∀ b, wait = some b →
      (d0.burstAllowed n b = false → Does (.burstSeal dt n) s (d0.setCoach n { d0.coach n with bursts := dropFirst (d0.coach n).bursts })) ∧
      (d0.burstAllowed n b = true → d0.standsBy n = true → b.allocs.all (fun a => a.kind == 2) = true → Does (.burstSeal dt n) s
        ((d0.setCoach n { d0.coach n with bursts := dropFirst (d0.coach n).bursts }).bump (Reg.LN_PROT_CNT.COUNT 2))) ∧
      (d0.burstAllowed n b = true → d0.standsBy n = false ∨ b.allocs.all (fun a => a.kind == 2) = false →
        Effect (.burstSeal dt n) s fun d => ∃ x : Sealed, (d.coach n).bursts = sealFirst x (d0.coach n).bursts ∧
          x.parts.length = b.allocs.length ∧ x.ploam.isSome = b.ploam ∧
          x.onu = if d0.on (Reg.LN_ACT_STAT.ONU_ID_VALID n) then some (d0.fld (Reg.LN_ACT_STAT.ONU_ID n)) else none) := by
  have hdo {e : Dev} (he : d0.burstSeal n = e) : Does (.burstSeal dt n) s e :=
    .of_main_eq (exec_burstSeal s dt n) hup (by rw [hd0]; exact he)
  refine ⟨fun h => hdo (Dev.burstSeal_none (hwait.trans h)), fun b hb => ?_⟩
  have hseal := Dev.burstSeal_some (hwait.trans hb)
  have hany : (!b.allocs.any (fun a => a.kind != 2)) = b.allocs.all (fun a => a.kind == 2) := by
    rw [List.all_eq_not_any_not]
    rfl
  rw [hany] at hseal
  refine ⟨fun ha => hdo ?_, fun ha hst hall => hdo ?_, fun ha hor => ⟨_, hdo ?_, d0.sealed_spec n.isLt b⟩⟩
  · rw [hseal, if_pos (by rw [ha]; rfl)]
  · rw [hseal, if_neg (by simp [ha]), if_pos (by rw [hst, hall]; rfl)]
  · rw [hseal, if_neg (by simp [ha]), if_neg (by rcases hor with h | h <;> simp [h])]

/-! ### Assembly -/

/-- A group's burst in full. -/
theorem Dev.groupBurst_fields {d : Dev} {n : Nat} {g : List Grant} {b : Burst} (h : b = d.burstOf n (groupBurst (d.mapAlloc n) g) b.delay) :
    b.frame = (d.coach n).frame ∧ b.sfc = d.sfc n ∧ b.key = d.curIdx n ∧ b.prof = (d.coach n).profOf (g.headD {}) ∧ b.content = none ∧
    b.allocs = g.map (d.mapAlloc n) ∧ b.ploam = ((g.headD {}).ploam || (g.headD {}).sn || d.actState n == stO4) ∧
    b.start = ((g.headD {}).start + b.delay) * d.usWord n ∧
    b.hdr = 1741824 + (if (g.headD {}).sn then 0 else (d.coach n).eqd) + ((g.headD {}).start + b.delay) * (d.usWord n * 8 * d.usUi n) ∧
    b.pre = b.hdr - profLead ((d.coach n).profOf (g.headD {})) * 8 * d.usUi n ∧
    b.on = b.pre - d.fld (Reg.LN_CB_TIMING.TXBE_LEAD n) * d.usUi n ∧
    b.fin = b.hdr + Config.burstBits (profFec ((d.coach n).profOf (g.headD {}))) b.ploam ((g.map (fun a => a.size * d.usWord n)).sum) * d.usUi n ∧
    b.off = b.fin + d.fld (Reg.LN_CB_TIMING.TXBE_LAG n) * d.usUi n := by
  generalize b.delay = k at h
  subst h
  refine ⟨rfl, rfl, rfl, rfl, rfl, rfl, rfl, rfl, rfl, rfl, rfl, ?_, rfl⟩
  simp only [Dev.burstOf, groupBurst, List.map_map]
  rfl

/-- Bursts that wait in line are swept and inserted as the map's order has it. -/
theorem burstsInOrder (gap : Nat) (last : Option Nat) (b : Burst) (l : List Burst) :
    let r := sweepBursts gap last l
    let before := busyUntil last r.1
    let clash := ∃ e, before = some e ∧ b.at_ b.pre < e + gap
    (clash → sweepBursts gap last (l ++ [b]) = (r.1, r.2 ++ [b])) ∧
    (¬ clash → sweepBursts gap last (l ++ [b]) = (r.1 ++ [b], r.2)) ∧
    (insertBurst b l).Perm (b :: l) ∧
    (l.Pairwise (fun x y => x.at_ x.pre ≤ y.at_ y.pre) → (insertBurst b l).Pairwise (fun x y => x.at_ x.pre ≤ y.at_ y.pre)) :=
  ⟨(sweepBursts_snoc gap last b l).1, (sweepBursts_snoc gap last b l).2, insertBurst_perm b l, insertBurst_sorted b⟩

/-- Settles O31: a map of any number of structures by induction over them, against the groups that they form; sealing and transmission by what
each of their stages keeps. -/
theorem bursts : Obligations.Bursts := by
  unfold Obligations.Bursts
  refine ⟨⟨fun s n l hup hc => ⟨bandwidthMap_any hup hc rfl l, fun gs hflat hgs hheads hm hlen => ?_⟩, burstsInOrder⟩,
    fun s dt n hup => ⟨fun l hc => .of_main_eq (exec_bandwidthMapParse s n l) hup (Dev.bwmap_down _ hc l), fun g hc hb => ⟨fun hp => ?_,
      fun hp hk => ?_, fun i hp hk => ⟨fun hv => ?_, fun hv hsn hclash => ?_, fun hv hsn hclash => ?_, fun hv hsn hlast => ?_⟩⟩,
      (burstSeal_spec hup dt n rfl rfl).1, (burstSeal_spec hup dt n rfl rfl).2, (burstTransmit_spec hup dt n rfl rfl).1,
      (burstTransmit_spec hup dt n rfl rfl).2, fun t => prestageFill_spec hup dt n t rfl, fun bad => sidingReadDone_spec hup dt n rfl bad⟩⟩
  · obtain ⟨d, hdo, h7, h8, h9, h11, new, hnew, hbursts, h10⟩ := bandwidthMap_groups hup hc rfl l hflat hgs hheads hm hlen
    refine ⟨d, hdo, h7, h8, h9, h11, new, hnew.length_eq.symm, fun k hk => ?_, hbursts, h10⟩
    have hk' := hnew.length_eq ▸ hk
    obtain ⟨hb, hsn, hmax⟩ := (List.forall₂_iff_get.1 hnew).2 k hk hk'
    rw [List.getD_eq_getElem _ _ hk, List.getD_eq_getElem _ _ hk']
    obtain ⟨hframe, hsfc, hkey, hprof, hcontent, hallocs, hploam, hstart, hhdr, hpre, hon, hfin, hoff⟩ := Dev.groupBurst_fields hb
    exact ⟨hframe, hsfc, hkey, hprof, hcontent, hallocs, hploam, hsn, hmax, hstart, hhdr, hpre, hon, hfin, hoff⟩
  · exact oneGrant_failed hup hc rfl hb (Bool.eq_false_iff.2 fun h => hp ((Dev.passes_iff ..).1 h))
  · exact oneGrant_foreign hup hc rfl hb ((Dev.passes_iff ..).2 hp) hk
  · exact oneGrant_invalid hup hc rfl hb ((Dev.passes_iff ..).2 hp) (Option.isSome_of_eq_some hk) hv
  · exact oneGrant_clash hup hc rfl hb ((Dev.passes_iff ..).2 hp) (Option.isSome_of_eq_some hk) hv hsn hclash
  · obtain ⟨d, hdo, h7, h10, hsame, hbursts⟩ :=
      oneGrant_placed hup hc rfl hb ((Dev.passes_iff ..).2 hp) (Option.isSome_of_eq_some hk) hv hsn hclash
    obtain ⟨hhdr, hpre, hploam, hfin⟩ := Dev.burstOf_one ((s.dev.lineSwitch n (s.dev.sfc n)).mapAlloc n) (g := g) rfl hsn
    refine ⟨d, hdo, h7, h10, hsame, _, hbursts, rfl, rfl, rfl, hhdr, hpre, ?_, hploam, ?_, rfl, rfl⟩
    · show [Dev.mapAlloc _ n g] = _
      rw [Dev.mapAlloc, hk]
      rfl
    · rw [hploam]
      exact hfin
  · obtain ⟨d, hdo, h7, h10, hsame, delay, hmax, hbursts⟩ :=
      oneGrant_sn hup hc rfl hb ((Dev.passes_iff ..).2 hp) (Option.isSome_of_eq_some hk) hv hsn hlast
    refine ⟨d, hdo, h7, h10, hsame, _, hbursts, ?_, hmax, ?_⟩
    · simp only [Dev.burstOf, groupBurst, List.headD_cons, hsn, Bool.or_true, Bool.true_or]
    · simp only [Dev.burstOf, groupBurst, List.headD_cons, hsn, if_true, Nat.add_zero, responseUi]

end Sys2Proof.Machine
end
